-- ==== Sys2Proof/Word.lean ====
section
/-! DEFINITION. Bytes, words and their plainest arithmetic (R8, R9). -/

namespace Sys2Proof

/-- A byte of a store. -/
abbrev Byte := BitVec 8

/-- A 32-bit word: a tally, an FP32 pattern, a ring index. -/
abbrev Word32 := BitVec 32

/-- A 64-bit word: a global time-stamp, a counter. -/
abbrev Word64 := BitVec 64

/-- A 128-bit engine operation word (R48, R124). -/
abbrev OpWord := BitVec 128

/-- An error pattern of one codeword: the symbols in error (0 to 71) and what was added to each (R165). -/
abbrev ErrorPattern := List (Nat × Byte)

end Sys2Proof
end

