-- ==== Sys2Proof/Syntax.lean ====
section
/-! DEFINITION. The commands of the block: one constructor of `Instr` for each row of spec/opcode_table.json, and the
types of their operands. Quantities that the part senses, and choices that the spec leaves to the physical part,
are operands. -/

namespace Sys2Proof

/-- The engines of a cluster, with the codes of R125. -/
inductive Engine where
  | me | ve | ae | xe | ge | ce | qe
deriving DecidableEq, Repr

/-- Rounding of a VE operation (R95). -/
inductive Rounding where
  | nearestEven | towardZero | up | down
deriving DecidableEq, Repr

/-- Rounding that a QE operation names (R97, R101): none leaves it to the command's SR flag (R121). -/
inductive QeRounding where
  | unnamed | nearestEven | stochastic
deriving DecidableEq, Repr

/-- The comparisons of the VE (R62, R95). -/
inductive Comparison where
  | eq | ne | lt | le | gt | ge
deriving DecidableEq, Repr

/-- A VE operand: an array in cluster memory or a vector register v0 to v31 (R62, R63). -/
inductive VeOperand where
  | mem (address : Nat)
  | reg (v : Nat)
deriving DecidableEq, Repr

/-- The operations of the VE (R62). -/
inductive VeKind where
  | add | sub | mul | fma | min | max
  | compare (c : Comparison)
  | select
  | bitAnd | bitOr | bitXor | bitNot
  | convert
  | sumReduce | minReduce | maxReduce
deriving DecidableEq, Repr

/-- A VE operation: `count` elements, formats by the codes of R76. -/
structure VeOp where
  kind : VeKind
  fmtIn : Nat
  fmtOut : Nat
  rounding : Rounding
  a : VeOperand
  b : VeOperand
  c : VeOperand
  d : VeOperand
  count : Nat
deriving DecidableEq, Repr

/-- An AE operation (R62, R105). -/
structure AeOp where
  slot : Nat
  fmtIn : Nat
  fmtOut : Nat
  source : Nat
  dest : Nat
  count : Nat
deriving DecidableEq, Repr

/-- An XE operation (R62, R77): elements of 4, 8, 16 or 32 bits. -/
structure XeOp where
  transpose : Bool
  bits : Nat
  rows : Nat
  cols : Nat
  source : Nat
  dest : Nat
deriving DecidableEq, Repr

/-- The kinds of GE operation (R62). -/
inductive GeKind where
  | gather | scatter | scatterAdd
deriving DecidableEq, Repr

/-- A GE operation: `count` INT32 indices at `list`, elements of `esize` bytes, contiguous side `data` (local),
indexed side `base` (a 48-bit local or domain address of R267). -/
structure GeOp where
  kind : GeKind
  fmt : Nat
  esize : Nat
  count : Nat
  list : Nat
  data : Nat
  base : Nat
deriving DecidableEq, Repr

/-- A CE copy (R65, R120, R278): 48-bit addresses, `rows` rows of `length` bytes each, `stride` bytes apart on both
sides, with the tally increment it completes into, if any. -/
structure CeOp where
  source : Nat
  dest : Nat
  length : Nat
  rows : Nat
  stride : Nat
  inc : Option (BitVec 24 × Nat)
deriving DecidableEq, Repr

/-- A QE conversion (R97 to R102); `set` is the codebook set of CB4 data. -/
structure QeOp where
  fmtIn : Nat
  fmtOut : Nat
  rounding : QeRounding
  set : Nat
  source : Nat
  sourceScales : Nat
  dest : Nat
  destScales : Nat
  count : Nat
deriving DecidableEq, Repr

/-- How the 128-bit word of a clocked engine reads. The spec gives no layout for these words (only the ME's, R48), so
the ISSUE command carries the reading; `reservedOp` is a word with a reserved opcode (R44). -/
inductive ClockedOp where
  | ve (op : VeOp)
  | ae (op : AeOp)
  | xe (op : XeOp)
  | ge (op : GeOp)
  | ce (op : CeOp)
  | qe (op : QeOp)
  | reservedOp
deriving DecidableEq, Repr

/-- Who issued a request (R141, R275, R351). -/
inductive Origin where
  | member (ctx cluster : Nat)
  | peer (port : Nat)
  | guest (site : Nat)
  | management
deriving DecidableEq, Repr

/-- A request of R274: opcode, address as issued (48 bits), or at the target after translation (40 bits), and the
fields of R275. `data` is the immediate or the payload; for CAS the compare value follows the operand. -/
structure Req where
  op : Nat
  origin : Origin
  ctx : Nat
  addr : Nat
  tag : Nat
  rid : BitVec 32
  size16 : Bool
  signed : Bool
  skip : BitVec 4
  nocomb : Bool
  len : Nat
  ref : BitVec 24
  refAmt : Nat
  ticket : Option Nat
  data : List Byte
  win : Nat := 0
  scluster : Nat := 0x3FF
deriving DecidableEq, Repr

/-- A response of R274: LOAD_DATA, ACK, OLD, RETRY, ERROR, EXPIRED, by the RID and TAG it echoes. -/
structure Rsp where
  rid : BitVec 32
  tag : Nat
  data : List Byte
  ticket : Option Nat
  code : Nat
deriving DecidableEq, Repr

/-- A multicast target descriptor (R203). -/
structure McTarget where
  slot : Nat
  ctx : Nat
  addr : Nat
  ref : BitVec 24
  refAmt : Nat
deriving DecidableEq, Repr

/-- How a packet came to be sent again (R192): not at all; from another path, with its PSEQ and the credits it spent; or as a
unicast copy of a multicast, which `got` says that its destination has had already. -/
inductive Resending where
  | no
  | kept
  | copy (got : Bool)
deriving DecidableEq, Repr

/-- A packet of the rig network (R186). `req` holds CONTEXT, ADDRESS, TAG, REF, REFAMT, OPERAND and payload. -/
structure Packet where
  src : Nat
  dst : Nat
  vc : Nat
  stand : Bool
  crit : Bool
  req : Req
  targets : List McTarget
  pseq : Nat
  stamp : Nat
  again : Resending := .no
deriving DecidableEq, Repr

/-- A serial path with its own SEQ stream: a tack lane, a standing path, a fibre port, a Krytae port. -/
inductive Path where
  | lane (slot lane dst : Nat)
  | standing (src dst : Nat)
  | port (p : Nat)
  | krytae (k : Nat)
deriving DecidableEq, Repr

/-- Why a flit failed (R188, R191). -/
inductive FlitFailure where
  | codeword | crc | complementPair | header
deriving DecidableEq, Repr

/-- The operation of one entry of a link control flit (R189). -/
inductive LinkOp where
  | ack | nak | trained | wrong
deriving DecidableEq, Repr

/-- A link control flit (R189): from receiving site `receiver` to sending site `sender`; `credits` are the six freed
counts, `sack` and `sop` report on the standing path, `entries` on lanes of the sender. -/
structure LinkFlit where
  receiver : Nat
  sender : Nat
  credits : List Nat
  sack : Nat
  sop : Bool
  entries : List (Nat × LinkOp × Nat)
  relayed : Bool
deriving DecidableEq, Repr

/-- A symbol that a receiver reads wrong (R178, R184): of the symbols that the packet's flits send on wavelength `wave`, in their
order, number `nth` is read as level `level`, 0 the lowest of the four. -/
structure SymbolError where
  wave : Nat
  nth : Nat
  level : Nat
deriving DecidableEq, Repr

/-- How far a running MMA comes (R60): whole K-steps, and rows of the step after them. -/
structure MmaSpan where
  steps : Nat
  rows : Nat
deriving DecidableEq, Repr

/-- What an operation took (R68, R75): zone cycles of its engine, and the cycles that each of its ports waited for a bank. -/
structure EngineSpan where
  busy : Nat
  waits : List (Nat × Nat)
deriving DecidableEq, Repr

/-- A cluster, and the ns of running time that its ME took. -/
structure ClusterSpan where
  cluster : Nat
  ns : Nat
deriving DecidableEq, Repr

/-- What is read of a spare that is being tuned (R241): its etalon reading less its channel's line's, in pm, and whether its tone is
seen. -/
structure SpareReading where
  laser : Nat
  offset : Int
  toneSeen : Bool
deriving DecidableEq, Repr

/-- What a tone window shows of a ring (R237, R247): the channel whose tone its detector sees, and the trim of its lock loop. -/
structure ToneReading where
  tone : Option Nat
  trim : Int
deriving DecidableEq, Repr

/-- What was counted at a stay within 1 ms (R331). -/
structure StayCounts where
  stay : Nat
  failures : Nat
  repeats : Nat
deriving DecidableEq, Repr

/-- How a link's training on the agreed quarters ended (R336 step 5), and the round trip of a sync word over it (R380). -/
structure WidthTraining where
  trained : Bool
  roundTrip : Nat
deriving DecidableEq, Repr

/-- Where a link control flit arrives: at a site of the rig, or on a port. -/
inductive LinkVia where
  | rig (site : Nat) | port (p : Nat) | krytae (k : Nat)
deriving DecidableEq, Repr

/-- A mesh request between clusters of one compute die (R72). -/
inductive MeshKind where
  | read (len : Nat)
  | write (data : List Byte)
  | tally (number amount : Nat)
deriving DecidableEq, Repr

/-- A mesh request: source cluster and its context, destination cluster and the context addressed. -/
structure MeshRequest where
  src : Nat
  srcCtx : Nat
  engine : Engine
  dst : Nat
  ctx : Nat
  address : Nat
  issued : Nat
  kind : MeshKind
deriving DecidableEq, Repr

/-- The stores of R171 and OD 0x5032.01. -/
inductive Store where
  | cluster | cache | scratch | hbm | tags
deriving DecidableEq, Repr

/-- An access at a home slice (R154): a device offset and a length within one line. `upset` are error symbols that
the environment has left in the codeword read, `tagUpset` those in its set's tag codeword, `parityFails` how often the
stack reported a command as parity-failed (R161), `requester` the context and its IDs. -/
structure Access where
  offset : Nat
  len : Nat
  write : Option (List Byte)
  requester : Option (Nat × Nat)
  management : Bool
  upset : ErrorPattern
  tagUpset : ErrorPattern
  parityFails : Nat
deriving DecidableEq, Repr

/-- The stages of a port's training (R264). -/
inductive PortTrainingStep where
  | light | lightLost | naks | wavelengthDropped | done
  | wrong (mask : Nat)
deriving DecidableEq, Repr

/-- The body of HELLO (R317). -/
structure Hello where
  device : Nat
  domain : Nat
  level : Nat
  epoch : Nat
  mask : Nat
  digest : List Byte
  fenced : Bool
deriving DecidableEq, Repr

/-- A message (R303). -/
structure Message where
  srcCtx : Nat
  edge : Nat
  entry : Nat
  srcDevice : Nat
  srcDomain : Nat
  mseq : Nat
  stamp : Nat
  dom : Nat
  dev : Nat
  inbox : Nat
  hops : Nat
  srcFenced : Bool
  payload : List Byte
deriving DecidableEq, Repr

/-- Where a message reaches an edge group: from a tower of this device, or on a fibre port. -/
inductive MessageArrival where
  | tower (edge : Nat)
  | port (p : Nat)
deriving DecidableEq, Repr

/-- Clock regions that stretch (R360). -/
inductive Region where
  | zone (z : Nat)
  | cacheDie (t : Nat)
  | hubHalf (h : Nat)
deriving DecidableEq, Repr

/-- Why a hall pass is revoked (R356). -/
inductive RevokeCause where
  | guestReset | linkDown (ns : Nat) | overGrant (milliwatt : Nat) | lifeCycle | hubHalt
deriving DecidableEq, Repr

/-- What the sensing front-end samples: the thermal elements of R396, the coolant's two thermistors (R398), and the flash's own
sensor (R404). -/
inductive ThermalElement where
  | zone (z : Nat)
  | cacheDie (t : Nat)
  | hubHalf (h : Nat)
  | guest (g : Nat)
  | lampBar (b : Nat)
  | stack (k : Nat)
  | rig
  | coolant
  | flash
deriving DecidableEq, Repr

/-- One reading of a source (R398), in hundredths of a degree. -/
inductive SensorReading where
  | centi (c : Int)
  | openCircuit
  | short
deriving DecidableEq, Repr

/-- A Krytae transaction (R411, R412): TID, port 0 KP-A or 1 KP-B, flags, entry, value, offset and length. -/
structure Transaction where
  tid : BitVec 32
  port : Nat
  shadow : Bool
  more : Bool
  index : Nat
  sub : Nat
  offset : Nat
  length : Nat
  value : List Byte
deriving DecidableEq, Repr

/-- An event as it reaches the hub (R424): code, die code, severity, context and IDs, detail and source stamp. -/
structure EventIn where
  code : Nat
  die : Nat
  severity : Nat
  ctx : Nat
  layer : Nat
  operator : Nat
  step : Nat
  detail : List Byte
  stamp : Nat
  unit : Nat
deriving DecidableEq, Repr

/-- The steps of a resynchronisation (R435). -/
inductive ResyncStep where
  | selfTest (result : Nat)
  | snapshot
  | crossed
  | caughtUp
  | agreed
  | lostInput
deriving DecidableEq, Repr

/-- The supply rails (R498). -/
inductive Rail where
  | vcd (t : Nat) | vkd (t : Nat) | vddh (t : Nat) | vddqh (t : Nat) | vpph (t : Nat)
  | vhd | vgst (g : Nat) | vlmp | vdrv | vrig | vhtr | vaux
deriving DecidableEq, Repr

/-- What started a cold start (R439, OD 0x1002.02). -/
inductive ColdCause where
  | powerOn | rstN | command | lifeCycle
deriving DecidableEq, Repr

/-- What a start observes of the part (R441): dies whose identity or stay map fails, stacks that do not train, lanes
that do not train, rings that do not lock, records of the repair log whose complement fails (R334), whether the halves agree
on what they compute from the image, the burst rate (M handshakes/s), and the duration in µs. -/
structure StartObs where
  failedDies : List Nat
  failedStacks : List Nat
  failedLanes : List (Nat × Nat)
  failedRings : List Nat
  badRecords : List Nat
  halvesAgree : Bool
  rates : List Nat
  duration : Nat
  /-- Round trips of a sync word to each die, by die code (R380). -/
  roundTrips : List (Nat × Nat) := []
deriving DecidableEq, Repr

/-- The commands: one constructor per row of spec/opcode_table.json, in the table's order. -/
inductive Instr where
  /-- PRODUCER_INDEX_WRITE (R118): A write of a new producer index to OD 0x7nnn.05 rings the context's doorbell,
  making the commands from the old index to the new one pending, or is refused. -/
  | producerIndexWrite (x : Nat) (value : BitVec 32)
  /-- DESCRIPTOR_FETCH (R117): The hub fetches the next pending descriptor of a bound context, reading each
  descriptor exactly once and prefetching up to 8 ahead. -/
  | descriptorFetch (x : Nat)
  /-- COMMAND_START (R129): A member starts a command once the previous command has completed under R130 and its
  enabled tally waits are satisfied. -/
  | commandStart (x c : Nat)
  /-- NOP (R120): The NOP command performs only its waits and increments on every member. -/
  | nop (x c : Nat)
  /-- RUN (R122): The RUN command checks the timetable bundle and has each member load and run its timetable,
  faulting with 0x0104 if the bundle is invalid. -/
  | run (x c : Nat)
  /-- COPY (R120): The COPY command issues a copy to the named member's CE, with INC0 naming the copy's
  destination tally. -/
  | copy (x c : Nat)
  /-- TALLY_SET (R120): The TALLY_SET command sets the named tally to the given value in every member. -/
  | tallySet (x c : Nat)
  /-- CB_LOAD (R87): The CB_LOAD command loads 16 bytes of cluster memory into a codebook set of one member,
  ordered against MMAs under R50. -/
  | cbLoad (x c : Nat)
  /-- CURVE_LOAD (R104): The CURVE_LOAD command loads a 1,024-byte activation curve slot into one member, faulting
  with 0x0108 if the slot is invalid. -/
  | curveLoad (x c : Nat)
  /-- COLLECTIVE (R220): The COLLECTIVE command waits on its members until the join of all listed contexts and
  then runs the collective program. -/
  | collective (x c : Nat)
  /-- FENCE (R120): The FENCE command completes once every remote operation issued by the context has its reply or
  has completed into its tally. -/
  | fence (x c : Nat)
  /-- SEND (R301): The SEND command reads a message from the named member's source, checks ADDR1 and length, and
  hands it to an edge group for delivery. -/
  | send (x c : Nat) (edge : Nat)
  /-- YIELD (R120): The YIELD command completes and ends the current period if another context waits for any
  member. -/
  | yield (x c : Nat)
  /-- MEMBER_PART_COMPLETE (R130): A member's part of a command completes; it applies its enabled descriptor
  increments. -/
  | memberPartComplete (x c : Nat)
  /-- ENTRY_NOP (R124): The OC executes a NOP timetable entry, which only observes its DELAY. -/
  | entryNop (c : Nat)
  /-- ISSUE (R134): Once its DELAY has elapsed the OC issues an ISSUE entry's operation word to the engine queue,
  holding while the queue or scoreboard is full. -/
  | issue (c : Nat) (reading : ClockedOp)
  /-- WAIT_TALLY (R126): A WAIT_TALLY entry waits until its tally satisfies the threshold. -/
  | waitTally (c : Nat)
  /-- WAIT_ENGINES (R124): A WAIT_ENGINES entry waits until every operation issued earlier to the masked engines
  has completed. -/
  | waitEngines (c : Nat)
  /-- INC (R128): An INC entry increments a tally once every earlier operation of the masked engines has completed
  and its writes are visible. -/
  | inc (c : Nat)
  /-- LOOP (R124): A LOOP entry jumps back by its distance up to its count, or faults with 0x0105 when nested too
  deep or reaching before entry 0. -/
  | loop (c : Nat)
  /-- MARK (R124): A MARK entry replaces the operator ID carried by later records of the command. -/
  | mark (c : Nat)
  /-- END (R124): An END entry completes the member's part once every issued operation has completed. -/
  | endOp (c : Nat)
  /-- WAIT_LIMIT_EXPIRY (R147): A cluster that waits longer than OD 0x7nnn.15 at one wait entry faults its context
  with code 0x0107. -/
  | waitLimitExpiry (c : Nat)
  /-- ENGINE_OP_START (R43): An operation reaches the head of its engine queue, passes its scoreboard wait and
  starts. -/
  | engineOpStart (c : Nat) (e : Engine) (drainQueue : Bool)
  /-- MMA (R51): The ME starts an MMA, loading first weights and streaming rows step by step in handshakes. -/
  | mma (c : Nat) (span : MmaSpan) (ns portWait : Nat)
  /-- MMA_COMPLETE (R51): An MMA's results are complete in the accumulator 72 handshakes after its last row
  entered. -/
  | mmaComplete (tail : ClusterSpan)
  /-- DRAIN (R52): A DRAIN starts once earlier MMAs into its half have completed and earlier DRAINs have started,
  and writes the half to cluster memory at 256 B per zone cycle. -/
  | drain (c : Nat)
  /-- DRAIN_COMPLETE (R52): A DRAIN's last word is written and its completion crosses STAT to the OC. -/
  | drainComplete (c : Nat)
  /-- VE_OP (R95): The VE executes a vector operation on its 128 lanes. -/
  | veOp (c : Nat)
  /-- AE_OP (R105): The AE evaluates a curve slot on each element. -/
  | aeOp (c : Nat)
  /-- XE_OP (R62): The XE transposes or reshapes a block of elements. -/
  | xeOp (c : Nat)
  /-- GE_OP (R65): The GE gathers, scatters or scatter-adds through an index list, carrying remote scatter-adds as
  atomics. -/
  | geOp (c : Nat) (indices : Nat)
  /-- CE_COPY (R65): The CE performs a copy between reachable places and applies its tally increment once after
  the last byte is written. -/
  | ceCopy (c : Nat) (place bytes : Nat)
  /-- QE_OP (R98): The QE quantises or dequantises elements, computing block scales and stochastic draws. -/
  | qeOp (c : Nat)
  /-- ENGINE_OP_COMPLETE (R135): An engine operation completes, releasing its scoreboard extents. -/
  | engineOpComplete (c : Nat) (e : Engine) (place : Nat) (took : EngineSpan)
  /-- ENGINE_SUSPEND (R66): A CE copy or GE operation reaches its boundary and writes a progress record for
  suspension. -/
  | engineSuspend (c : Nat) (e : Engine)
  /-- ME_PROGRESS_RECORD (R61): At a period change the ME suspends at the next K-step boundary and writes its
  progress record. -/
  | meProgressRecord (c : Nat)
  /-- REEF_PAUSE (R58): At a K-step boundary or between MMAs a panel of a reefed zone pauses for r times its
  running time. -/
  | reefPause (c panel : Nat)
  /-- REEF_PAUSE_END (R392): A reef pause's length expires and the panel resumes. -/
  | reefPauseEnd (c panel : Nat)
  /-- RATE_WINDOW_END (R56): At each 1 ms global-time window end every cluster computes its handshake rate or
  stale flag and the rate entries refresh. -/
  | rateWindowEnd
  /-- MESH_REQUEST (R72): A mesh request arrives at its destination cluster and is applied or refused with code
  0x0203 according to the addressed context's state. -/
  | meshRequest (r : MeshRequest)
  /-- TALLY_INCREMENT (R126): A tally increment arrives at a cluster and is added atomically modulo 2^32. -/
  | tallyIncrement (c tally amount : Nat)
  /-- OPEN (R113): The OPEN action checks ring, class and save area and moves a CLOSED context to OPEN. -/
  | openOp (x : Nat)
  /-- CLOSE (R145): The CLOSE action closes windows and inboxes, discards pending commands and starts zeroing the
  save area. -/
  | close (x : Nat)
  /-- CLOSE_COMPLETE (R145): Zeroing of the save area ends, the context becomes CLOSED and the action status reads
  0. -/
  | closeComplete (x : Nat)
  /-- RESUME (R146): The RESUME action marks the faulted command complete without its increments and returns the
  context to BOUND or PARKED. -/
  | resume (x : Nat)
  /-- PARK (R113): The PARK action moves a BOUND context to SAVING at its next command boundary. -/
  | park (x : Nat)
  /-- DETACH (R144): The DETACH action marks a PARKED context's image detached and moves the context to CLOSED
  without zeroing. -/
  | detach (x : Nat)
  /-- ATTACH (R144): The ATTACH action checks a detached image's header and adopts it, moving a CLOSED context to
  PARKED. -/
  | attach (x : Nat)
  /-- PERIOD_END (R138): A bound context's period expires; it starts a new period in place or is parked if a
  contender waits. -/
  | periodEnd (x : Nat)
  /-- IDLE_PARK (R137): A BOUND context whose ring has been empty for 1 ms is parked. -/
  | idlePark (x : Nat)
  /-- SCHEDULER_BIND (R138): On a change of eligibility the scheduler binds eligible contexts whose classes are
  free, by effective priority. -/
  | schedulerBind (hubClusters : List Nat)
  /-- SAVE_START (R140): Once outbound work has drained on every member the context enters SAVING and the CEs
  begin writing the images. -/
  | saveStart (x : Nat)
  /-- SAVE_COMPLETE (R140): The save ends; the context becomes PARKED, HELD or stays FAULTED, and stalled requests
  are applied to the image. -/
  | saveComplete (x : Nat)
  /-- RESTORE_COMPLETE (R140): The restore ends; the context becomes BOUND, stalled requests are applied and each
  OC resumes at its saved entry. -/
  | restoreComplete (x : Nat)
  /-- INBOUND_REQUEST (R141): A request addressed to a context's cluster memory reaches the tower's rig interface
  and is delivered, stalled, applied to the image or refused by the context's state. -/
  | inboundRequest (r : Req)
  /-- LOADER_COMMIT (R88): A commit of OD 0x63FF.00 checks the loader shadow and schedules the codebook set or
  curve slot write. -/
  | loaderCommit (value : Nat)
  /-- LOADER_APPLY (R88): At the named context's next command boundary, or at once into its saved image, the
  loader payload is written. -/
  | loaderApply
  /-- ARITHMETIC_COMMIT (R103): A commit of OD 0x62FF.00 applies the stochastic seeds, each taking effect at its
  context's next command boundary. -/
  | arithmeticCommit (value : Nat)
  /-- HOME_SLICE_ACCESS (R154): An access to a line is performed at its home slice, serialised with other
  accesses, allocating and replacing under R155. -/
  | homeSliceAccess (a : Access)
  /-- CORRECTED_WRITEBACK (R167): A corrected codeword is written back in corrected form at the store's next idle
  cycle. -/
  | correctedWriteback (word : Nat)
  /-- HBM_SCRUB (R172): Background scrubbing reads HBM3, tower-store frames and cluster memory, correcting and
  marking codewords. -/
  | hbmScrub (store : Store) (word : Nat) (upset : ErrorPattern) (passEnds : Bool)
  /-- HBM_TEMPERATURE_READ (R163): Every 1 ms each stack's temperature is read and its refresh rate doubled or
  restored. -/
  | hbmTemperatureRead (stack : Nat) (centi : Int) (parityRepeats : Nat)
  /-- MEMORY_COMMIT (R158): A commit of OD 0x50FF.00 checks the scratch sizes and starts a partition change on
  each tower whose size changes. -/
  | memoryCommit (value : Nat)
  /-- PARTITION_CHANGE (R159): A tower stops allocating and writes back its dirty lines for a partition change. -/
  | partitionChange (t : Nat)
  /-- PARTITION_CHANGE_END (R159): After write-back, tags are invalidated, changed frames zeroed and the new sets
  take effect, stalled accesses proceeding. -/
  | partitionChangeEnd (t : Nat)
  /-- PACKET_ADMIT (R199): A source interface chooses destination slot and plane for a packet and sends it when it
  holds credits. -/
  | packetAdmit (src position lane : Nat)
  /-- PACKET_DELIVERY (R200): A packet whose flits all arrived correctable with a good CRC is delivered in PSEQ
  order per source, destination and VC. -/
  | packetDelivery (src dst vc : Nat) (noise : List SymbolError)
  /-- FLIT_UNCORRECTABLE (R191): A receiver finds an uncorrectable or failed flit, sends a NAK and discards until
  the named head flit arrives. -/
  | flitUncorrectable (path : Path) (cause : FlitFailure)
  /-- LINK_CONTROL_FLIT (R189): A link control flit arrives, returning credits and ACK, NAK, TRAINED or WRONG
  reports for a path and its lanes. -/
  | linkControlFlit (via : LinkVia) (f : LinkFlit)
  /-- ACK_INTERVAL (R191): Every 128 ns a receiving site sends a link control flit to each sender with
  unacknowledged flits. -/
  | ackInterval (site : Nat)
  /-- LANE_RETRAIN (R192): An OUT lane is retrained, up to 3 times 10 µs apart. -/
  | laneRetrain (slot lane : Nat) (success : Bool)
  /-- STANDING_PATH_DOWN (R193): A standing path whose three retrainings fail goes down and its CTRL traffic is
  relayed. -/
  | standingPathDown (src dst : Nat)
  /-- LANE_TRAINING (R190): A lane sends its training pattern on every wavelength position. -/
  | laneTraining (slot lane : Nat)
  /-- BULK_WRITE (R187): A BULK_WRITE packet writes its payload at ADDRESS and then applies its tally increment. -/
  | bulkWrite (site : Nat)
  /-- MC_RESERVE (R204): A target receives MC_RESERVE and sets aside BULK flits for the source, answering when
  they are free. -/
  | mcReserve (site : Nat)
  /-- MC_GRANT (R204): A source receives MC_GRANT and sends the multicast on the split lane once it holds every
  grant. -/
  | mcGrant (site : Nat)
  /-- MC_CANCEL (R205): A target receives MC_CANCEL and releases what it had set aside for the TAG. -/
  | mcCancel (site : Nat)
  /-- MC_WRITE (R203): An MC_WRITE arrives at a target, which writes the payload at its descriptor's address and
  applies its tally increment. -/
  | mcWrite (site : Nat)
  /-- MULTICAST_TIMEOUT (R205): A source lacking every grant within OD 0x4022.03 cancels and sends the payload as
  BULK_WRITE packets. -/
  | multicastTimeout (src tag : Nat)
  /-- GUEST_PACKET (R209): A guest's packet reaches its site's rig interface, which forms its fields and drops it
  if malformed or not admitted by the filter. -/
  | guestPacket (g : Nat) (p : Packet) (wellFormedHeader : Bool)
  /-- PLAN_COMMIT (R213): A commit of OD 0x41FF.00 checks a tack plan image and stores it in its slot or reports
  the refusal status. -/
  | planCommit (value : Nat)
  /-- TACK_REQUEST (R216): A write of OD 0x4110.01 queues a tack to a plan, refused if the queue is full. -/
  | tackRequest (plan : Nat)
  /-- TACK_START (R217): The tack sequencer starts the oldest queued request that re-aims no claimed lane, checks
  it and quiesces the lanes taking part. -/
  | tackStart
  /-- TACK_QUIESCED (R217): Flits on lanes taking part are acknowledged or re-sent, and the lanes are retuned. -/
  | tackQuiesced
  /-- TACK_RETUNED (R217): Switch elements confirm their new state and the lanes with targets are trained. -/
  | tackRetuned (failed : List Nat) (wrong : List (Nat × Nat × Nat))
  /-- TACK_DONE (R217): Trained lanes become ACTIVE, held packets are admitted, and the tack-done event and
  entries are updated. -/
  | tackDone
  /-- CLAIM_HOLDOFF_EXPIRY (R216): A tack request that has waited OD 0x4111.02 bars new claims on the lanes it
  would re-aim. -/
  | claimHoldoffExpiry
  /-- COLLECTIVE_JOIN (R220): When every listed context is BOUND with its COLLECTIVE waiting, the hub zeroes phase
  tallies, checks the program and starts the collective. -/
  | collectiveJoin (ttPtr : Nat)
  /-- JOIN_LIMIT_EXPIRY (R220): A collective not joined within OD 0x4111.01 faults every waiting listed context
  with 0x0603. -/
  | joinLimitExpiry (ttPtr : Nat)
  /-- PHASE_GO (R225): PHASE_GO reaches a tower and its participants begin issuing that phase's transfers. -/
  | phaseGo (t : Nat)
  /-- TRANSFER_ISSUE (R225): A participant issues a transfer record once its phase tally satisfies the record's
  WAIT. -/
  | transferIssue (coll participant : Nat)
  /-- PHASE_SENT (R226): The hub receives PHASE_SENT; on the last of a phase it releases claims and sends the next
  PHASE_GO or queues a tack. -/
  | phaseSent (coll t : Nat)
  /-- TRANSFER_CONFIRM (R228): A destination confirms a transfer; when all are confirmed the COLLECTIVE completes
  on every member. -/
  | transferConfirm (coll transfer : Nat)
  /-- RED_ADD_FP32 (R230): A reduce-add packet adds FP32 payload elements into lines at their home slices, then
  applies its tally. -/
  | redAddFp32 (site : Nat)
  /-- RED_ADD_BF16 (R230): A reduce-add packet adds BF16 payload elements into lines at their home slices, then
  applies its tally. -/
  | redAddBf16 (site : Nat)
  /-- LINE_EVALUATION (R240): Every 1 ms each laser's fall is evaluated against the 1.0, 1.5 and 3.0 dB thresholds
  and acted on. -/
  | lineEvaluation (bar laser : Nat) (fall : BitVec 32)
  /-- BACK_FACET_SAMPLE (R238): Every 62.5 µs the photonic controller samples every line's back-facet monitor. -/
  | backFacetSample (samples : List (BitVec 32 × Nat))
  /-- ABRUPT_LASER_FAILURE (R240): A laser fault makes the line DEAD, drops its channel and prepares a spare at
  once. -/
  | abruptLaserFailure (bar laser : Nat)
  /-- SPARE_READY (R241): A spare becomes READY, starting a pending swap or bringing in a DEAD channel. -/
  | spareReady (bar : Nat) (spare : SpareReading)
  /-- CROSSFADE_STEP (R242): Every 3.125 µs the crossfade moves power from the line to the spare by one sixty-
  fourth. -/
  | crossfadeStep (bar : Nat)
  /-- SWAP_RETIRE (R242): At 210 µs the line is RETIRED and the spare ACTIVE on the channel. -/
  | swapRetire (bar : Nat)
  /-- SWAP_DONE (R242): The tone is confirmed and a swap-done event is raised. -/
  | swapDone (bar : Nat)
  /-- SPARE_RAMP_STEP (R242): Every 100 µs the spare's output rises 0.1 dB until it reaches the commissioning
  value. -/
  | spareRampStep (bar laser : Nat) (output : BitVec 32)
  /-- K_REMEASURE (R248): Once per hour each fully LOCKED bank's crosstalk matrix K is re-measured. -/
  | kRemeasure (bank : Nat) (k : List (BitVec 32))
  /-- CALIBRATION_PASS (R249): A background pass adjusts each LOCKED ring's set-point table by a quarter of its
  average trim. -/
  | calibrationPass (bank : Nat) (averages : List Int)
  /-- REFERENCE_COMPARE (R251): Every 1 ms BG-R is compared with BG-H and the reference state is set. -/
  | referenceCompare (rigMicrovolt hubMicrovolt : Nat)
  /-- TONE_WINDOW (R237): Each 20 µs tone window a ring's detector names the channel whose tone it sees. -/
  | toneWindow (element : Nat) (seen : ToneReading)
  /-- TRIM_LIMIT (R247): A trim held at its limit for 1 ms means the ring has lost its line and starts a relock. -/
  | trimLimit (element : Nat)
  /-- RELOCK_SWEEP_END (R253): After the heater sweep the ring is set to the matching peak and enters VERIFY. -/
  | relockSweepEnd (element : Nat) (peak : Option Nat)
  /-- RELOCK_VERIFIED (R253): The tone is confirmed over three windows and the ring becomes LOCKED. -/
  | relockVerified (element : Nat) (confirmed : Bool)
  /-- RELOCK_RETRY (R254): A failed relock is repeated after 10 µs, and after three failures the ring becomes
  FAILED. -/
  | relockRetry (element : Nat)
  /-- LANE_NARROW (R256): A lane quiesces to narrow to fifteen wavelengths or widen back to sixteen. -/
  | laneNarrow (slot lane : Nat)
  /-- LANE_NARROW_RETRAIN (R256): Once its flits are acknowledged the lane trains on the surviving positions and
  becomes ACTIVE. -/
  | laneNarrowRetrain (slot lane : Nat)
  /-- PHOTONIC_CALIBRATION_COPY (R440): Once per hour the rig copies photonic calibration to flash. -/
  | photonicCalibrationCopy
  /-- RE_COMMISSION (R260): A write of OD 0x4202.01 makes a line's present output its commissioning value, or is
  refused. -/
  | reCommission (value : Nat)
  /-- ELEMENT_SELECT (R260): A write of OD 0x4310.01 selects a ring element and takes a snapshot of its state. -/
  | elementSelect (element : Nat)
  /-- DOMAIN_COMMIT (R262): A commit of OD 0x80FF.00 checks and applies the port map. -/
  | domainCommit (value : Nat)
  /-- PORT_TRAINING (R264): A domain or message port trains when light is present at both ends, or retrains after
  NAKs, light loss or a dropped wavelength. -/
  | portTraining (port : Nat) (step : PortTrainingStep)
  /-- PORT_HEARTBEAT_LOSS (R292): A port without light or heartbeat for 20 µs declares its peer a lost target. -/
  | portHeartbeatLoss (port : Nat)
  /-- RESET_NOTICE (R292): A RESET_NOTICE arrives and the peer is declared a lost target at once. -/
  | resetNotice (port : Nat)
  /-- WINDOW_COMMIT (R272): A commit of OD 0x81FF.00 checks a window and puts it in force at every checking unit. -/
  | windowCommit (value : Nat)
  /-- DOMAIN_REQUEST_ISSUE (R269): A domain address is translated and checked through a window, and the request is
  sent or faulted. -/
  | domainRequestIssue (x c : Nat) (r : Req)
  /-- REQUEST_ARRIVAL (R289): A request arrives at a target port engine, which checks its reply cache, combines it
  if allowed and performs it or answers as a duplicate. -/
  | requestArrival (port : Nat) (r : Req)
  /-- LOAD (R277): A LOAD reads 1 to 4,096 bytes and returns LOAD_DATA. -/
  | load (position : Nat)
  /-- STORE (R277): A STORE writes 1 to 64 bytes within one line and returns ACK. -/
  | store (position : Nat)
  /-- TALLY_INC (R277): A TALLY_INC adds REFAMT to its tally and returns ACK. -/
  | tallyInc (position : Nat)
  /-- DMC_WRITE (R279): A DMC_WRITE reaches an edge group, whose port engine sends each target its own BULK_WRITE. -/
  | dmcWrite (edge : Nat)
  /-- ADD (R276): The atomic ADD adds the operand as an integer and returns the old value. -/
  | add (position : Nat)
  /-- MIN (R276): The atomic MIN stores the lesser value, signed or unsigned, and returns the old value. -/
  | min (position : Nat)
  /-- MAX (R276): The atomic MAX stores the greater value, signed or unsigned, and returns the old value. -/
  | max (position : Nat)
  /-- SWAP (R276): The atomic SWAP stores the operand and returns the old value. -/
  | swap (position : Nat)
  /-- CAS (R276): The atomic CAS stores the operand if the old value equals compare and returns the old value. -/
  | cas (position : Nat)
  /-- OR (R276): The atomic OR stores old OR operand and returns the old value. -/
  | or (position : Nat)
  /-- AND (R276): The atomic AND stores old AND operand and returns the old value. -/
  | and (position : Nat)
  /-- FADD32 (R276): The atomic FADD32 adds FP32 lanes, honouring SKIP, and returns the old value. -/
  | fadd32 (position : Nat)
  /-- BADD16 (R276): The atomic BADD16 adds BF16 lanes under R96, honouring SKIP, and returns the old value. -/
  | badd16 (position : Nat)
  /-- IADD32 (R276): The atomic IADD32 adds INT32 lanes modulo 2^32, honouring SKIP, and returns the old value. -/
  | iadd32 (position : Nat)
  /-- LINE_QUEUE_APPLY (R285): A home slice's line queue applies its next entry. -/
  | lineQueueApply (line : Nat)
  /-- LOAD_DATA (R274): A LOAD_DATA response reaches the requester and delivers the data. -/
  | loadData (port : Nat) (rsp : Rsp)
  /-- ACK (R274): An ACK response reaches the requester and completes its request. -/
  | ack (port : Nat) (rsp : Rsp)
  /-- OLD (R274): An OLD response returns an atomic's old value, split among combined constituents. -/
  | old (port : Nat) (rsp : Rsp)
  /-- RETRY (R286): A RETRY response makes the requester re-send, carrying its ticket when TKV is set, or after 1
  µs otherwise. -/
  | retry (port : Nat) (rsp : Rsp)
  /-- ERROR (R274): An ERROR response faults the requesting context with the code it carries. -/
  | error (port : Nat) (rsp : Rsp)
  /-- EXPIRED (R289): An EXPIRED response faults the requesting context with code 0x0408. -/
  | expired (port : Nat) (rsp : Rsp)
  /-- TICKET_RESERVATION_EXPIRY (R286): A place reserved for the lowest ticket for 2 µs lapses and the ticket
  keeps its rank. -/
  | ticketReservationExpiry (line : Nat)
  /-- TICKET_LAPSE (R286): A ticket not presented within 200 µs lapses and is counted. -/
  | ticketLapse (line ticket : Nat)
  /-- UNTICKETED_RETRY_RESEND (R287): A request answered RETRY without a ticket is re-sent after 1 µs. -/
  | unticketedRetryResend (handle : Nat)
  /-- REPLY_CACHE_EXPIRY (R289): A REPLIED reply-cache entry becomes EXPIRED 128 µs after its reply. -/
  | replyCacheExpiry (device entry : Nat)
  /-- REQUEST_RESEND (R290): After a retrain or an overdue reply the sending port engine re-sends unanswered
  requests in RID order. -/
  | requestResend (port : Nat)
  /-- REQUEST_DEADLINE (R290): A request without a reply by its deadline is abandoned and its context faults with
  0x0407. -/
  | requestDeadline (handle : Nat)
  /-- MESSAGE (R301): A message packet reaches an edge group or device, which delivers it, forwards it by route or
  refuses it. -/
  | message (arrival : MessageArrival) (m : Message)
  /-- MESSAGE_DELIVERY (R311): The tower holding an inbox writes the record, a gap marker or a drop count and
  answers MSG_DONE. -/
  | messageDelivery (t : Nat)
  /-- MSG_DONE (R305): A MSG_DONE reaches the origin edge group, completing the message or faulting its context by
  status. -/
  | msgDone (arrival : MessageArrival) (id status : Nat)
  /-- MESSAGE_DEADLINE (R305): A message without MSG_DONE after OD 0x8310.01 is declared lost and its context
  faults with 0x0504. -/
  | messageDeadline (edge entry : Nat)
  /-- HOP_HOLD_EXPIRY (R304): A message held in a hop buffer longer than OD 0x8310.02 is discarded. -/
  | hopHoldExpiry (port mseq : Nat)
  /-- ROUTE_COMMIT (R302): A commit of OD 0x83FF.00 checks and applies the route table. -/
  | routeCommit (value : Nat)
  /-- INBOX_COMMIT (R308): A commit of OD 0x84FF.00 opens or closes an inbox after its checks, zeroing the area. -/
  | inboxCommit (value : Nat)
  /-- AGREEMENT_COMMIT (R316): A commit of OD 0x82FF.00 checks and applies domain ID, epoch and mask, changing the
  digest. -/
  | agreementCommit (value : Nat)
  /-- HELLO (R317): A HELLO arrives at a joining port, which checks it and joins, demotes or sends the port DOWN;
  at an UP port it declares the peer lost. -/
  | hello (port : Nat) (h : Hello)
  /-- JOIN (R317): A write of OD 0x8201.01 starts the join of a DEMOTED or LOST port, or is refused. -/
  | join (port : Nat)
  /-- LEAVE (R320): A write of OD 0x8201.02 sends LEAVE and puts the port DOWN, or is refused while windows or
  requests remain. -/
  | leave (port : Nat)
  /-- LEAVE_ARRIVAL (R320): A LEAVE arrives and the port goes DOWN without declaring a lost target. -/
  | leaveArrival (port : Nat)
  /-- DIGEST_SEND (R318): Every 10 ms each member sends DIGEST on every UP port. -/
  | digestSend
  /-- DIGEST (R318): A DIGEST arrives and is compared, demoting the port on a second consecutive mismatch. -/
  | digest (port : Nat) (digest : List Byte) (epoch level : Nat)
  /-- DIGEST_TIMEOUT (R318): A port with no DIGEST for 30 ms is demoted. -/
  | digestTimeout (port : Nat)
  /-- TIME_REQ (R321): Every 10 µs a non-master member sends TIME_REQ; the master answers with TIME_RSP. -/
  | timeReq (port : Nat) (t1 : Nat)
  /-- TIME_RSP (R322): A TIME_RSP gives the master's offset, and the member slews, steps or fences and unfences
  its count. -/
  | timeRsp (port : Nat) (t1 t2 t3 t4 : Nat)
  /-- TIMED_DOORBELL (R323): When global time reaches a row's time an armed timed doorbell writes its producer
  index, unless fenced. -/
  | timedDoorbell (row : Nat)
  /-- STAY_SUSPECT (R331): A stay whose parity, repeats, corrections or parity failures reach 16 within 1 ms is
  suspected. -/
  | staySuspect (link : Nat) (counts : StayCounts)
  /-- STAY_REPAIR (R332): At a quiet point the stay's bonds are tested and replaced by spares, or the stay is
  retired. -/
  | stayRepair (link stay : Nat) (badBonds : List Nat)
  /-- REPAIR_LOG_WRITE (R334): A repair record is appended to flash, retried every 1 s while the flash window is
  closed. -/
  | repairLogWrite
  /-- WIDTH_AGREEMENT (R336): After a single-die reset both ends exchange width descriptors and train links on the
  agreed quarters. -/
  | widthAgreement (link : Nat) (near1 near2 near3 far1 far2 far3 : Bool) (training : WidthTraining)
  /-- DIE_RESET (R339): A write of OD 0x1011.01 requests a fenced reset of a KD, CD or hub half, or is refused. -/
  | dieReset (die : Nat)
  /-- KD_FENCE (R340): The hub fences a tower: ports stall, collectives fault, packets to the slot are held and
  dirty lines written back. -/
  | kdFence (t : Nat)
  /-- KD_FENCED (R340): KD-t answers FENCED and enters RESET with scratch and refresh kept. -/
  | kdFenced (t : Nat)
  /-- FENCE_TIMEOUT (R339): A fence not answered within 250 µs turns the reset abrupt. -/
  | fenceTimeout (die : Nat)
  /-- ABRUPT_RESET (R339): A die stops without a fence, its unacknowledged traffic is discarded and contexts
  fault. -/
  | abruptReset (die : Nat)
  /-- KD_READY (R340): KD-t reports its new ready epoch, the fence lifts and held packets flow. -/
  | kdReady (t : Nat)
  /-- CD_PARK_TIMEOUT (R341): Contexts not parked within 1 ms of a fenced CD reset fault with 0x0703. -/
  | cdParkTimeout (t : Nat)
  /-- HUB_HALT (R341): With both hub halves down the OCs stop, RESET_NOTICE is sent and the Dreuth waits for a
  cold start. -/
  | hubHalt
  /-- DIE_CLOCK_LOSS (R342): A die whose generators lose lock for 2 µs is reset abruptly. -/
  | dieClockLoss (die : Nat)
  /-- ASK (R389): The hub serves a budget ASK from the pool, then by lowering compute dies, answering with a
  GRANT. -/
  | ask (holder milliwatt : Nat)
  /-- GRANT (R347): A die receives a GRANT, using a higher one at once or obeying a lower one within 1 ms before
  acknowledging. -/
  | grant (holder seq milliwatt epoch : Nat)
  /-- RETURN (R347): The hub receives a RETURN and adds the returned power to the pool. -/
  | returnOp (holder milliwatt : Nat)
  /-- BUDGET_ACK (R345): The hub receives a die's ACK and may add the power given up to the pool. -/
  | budgetAck (holder milliwatt : Nat)
  /-- GRANT_REPEAT (R347): The hub repeats an unacknowledged GRANT every 100 µs. -/
  | grantRepeat (holder : Nat)
  /-- HUB_SILENCE (R347): A die that hears nothing from the hub for 10 ms falls to its floor. -/
  | hubSilence (holder : Nat)
  /-- UCIE_INITIALISATION (R348): A guest link initialises over UCIe and the site enters TRAINING. -/
  | ucieInitialisation (g modules gts : Nat)
  /-- CAPABILITY_BLOCK (R350): A guest's capability block arrives and is accepted or refused, going DOWN after
  three refusals. -/
  | capabilityBlock (g : Nat) (block : List Byte)
  /-- GDOOR (R353): A STORE to GDOOR makes the hub verify the manifest and write RESULT, admitting the guest on
  success. -/
  | gdoor (g : Nat)
  /-- GUEST_REQUEST (R354): An admitted guest's request is translated and checked through the site's windows, or
  refused with ERROR. -/
  | guestRequest (g : Nat) (r : Req)
  /-- HALL_PASS_REVOKE (R356): A guest reset, link loss, over-grant, life-cycle change or hub halt revokes the
  hall pass and confines the guest. -/
  | hallPassRevoke (g : Nat) (cause : RevokeCause)
  /-- REVOKE_HALL_PASS (R356): A write of 0x10 + g to OD 0xC010.01 revokes site g's hall pass. -/
  | revokeHallPass (value : Nat)
  /-- CLEAR_LOCKED (R349): A write of 0x20 + g to OD 0xC010.01 clears site g's LOCKED state. -/
  | clearLocked (value : Nat)
  /-- GUEST_WINDOW_COMMIT (R355): A commit of OD 0xC1FF.00 checks and stores a guest window. -/
  | guestWindowCommit (value : Nat)
  /-- REFCLK_LOSS (R364): The selected reference input is declared bad, the PLL enters holdover and fails over to
  the other good input. -/
  | refclkLoss (input : Nat)
  /-- FAILOVER_PULL_END (R364): The PLL's pull to the new input ends and the failover event is raised. -/
  | failoverPullEnd (ppb : Int)
  /-- HOLDOVER_TIMEOUT (R365): With no good input 2 µs after the failure, the rig is lost. -/
  | holdoverTimeout
  /-- REFCLK_GOOD (R363): An input within its limits for 1 ms becomes good again. -/
  | refclkGood (input : Nat)
  /-- REFERENCE_FREQUENCY_CHECK (R363): Every 10 µs the two good inputs are compared and a warning raised beyond
  200 ppm. -/
  | referenceFrequencyCheck (ppb : Int)
  /-- REFERENCE_SELECT (R362): A write of OD 0x3000.02 switches to a good input or is refused. -/
  | referenceSelect (value : Nat)
  /-- CLOCK_COMMIT (R368): A commit of OD 0x30FF.00 checks and applies the zone limits, zones slewing to them. -/
  | clockCommit (value : Nat)
  /-- ZONE_IDLE (R367): A zone none of whose clusters was bound for 10 µs becomes idle and targets 0.4 GHz. -/
  | zoneIdle (zone : Nat)
  /-- DROOP_TRIP (R369): A droop monitor finds the supply below its set-point and stretches the region's next
  period. -/
  | droopTrip (region : Region) (millivolt : Nat)
  /-- STEP_DOWN_HOLD_END (R370): After the 1 ms hold the region slews back to its target. -/
  | stepDownHoldEnd (region : Region)
  /-- ZONE_LOCK_LOSS (R377): A zone's lock detector finds its phase error above limit and the zone's clock is
  gated. -/
  | zoneLockLoss (zone : Nat)
  /-- ZONE_RELOCK (R377): The generator relocks, the clock restarts and the time copy resynchronises. -/
  | zoneRelock (zone : Nat)
  /-- ZONE_RELOCK_TIMEOUT (R377): A zone not relocked within 2 µs causes an abrupt CD reset. -/
  | zoneRelockTimeout (zone : Nat)
  /-- SYNC_WORD (R381): Every 1,024 ns each die copy compares with the master's sync word and slews, loads or
  holds. -/
  | syncWord (die : Nat) (difference : Int) (checkGood : Bool)
  /-- ZONE_TIME_RELOAD (R383): A restarted zone reloads its time copy from its die's copy through a crossing. -/
  | zoneTimeReload (zone : Nat)
  /-- TIME_MASTER_CHECK_FAIL (R385): A time-master state failing its complement is reloaded forward and the Dreuth
  fences itself. -/
  | timeMasterCheckFail (hubCopy : Nat)
  /-- POWER_COMMIT (R387): A commit of OD 0x20FF.00 checks the package budget and lowers grants to meet it. -/
  | powerCommit (value : Nat)
  /-- POWER_MANAGER_TICK (R394): Every 1 ms a compute die's power manager raises, lowers or holds its die power
  level and, at level 7, its zone targets. -/
  | powerManagerTick (t milliwatt matrixMilliwatt : Nat)
  /-- KD_PACING_STEP (R390): Every 1 ms a cache die moves its HBM3 and reduction pacing duty by one step to keep
  within its grant. -/
  | kdPacingStep (t milliwatt : Nat)
  /-- CORE_SUPPLY_READ (R391): Every 1 ms a compute die reads its core supply and caps its zones' frequency. -/
  | coreSupplyRead (t millivolt : Nat)
  /-- THERMAL_SAMPLE (R400): At each sample an element's temperature sets its warning and throttle level. -/
  | thermalSample (e : ThermalElement) (readings : List SensorReading)
  /-- THERMAL_RESTART (R403): A write of OD 0x2015.01 restarts a shut-down element, or is refused. -/
  | thermalRestart (code : Nat)
  /-- FLASH_WRITE_RETRY (R404): Every 1 s a queued background flash write is retried within the flash window. -/
  | flashWriteRetry
  /-- OD_READ (R412): An OD_READ transaction returns an entry's value or a status. -/
  | odRead (t : Transaction)
  /-- OD_WRITE (R412): An OD_WRITE transaction writes an entry and answers with a status. -/
  | odWrite (t : Transaction)
  /-- BLOCK_WRITE (R412): A BLOCK_WRITE chunk is checked for order and stored; the last chunk applies the value. -/
  | blockWrite (t : Transaction)
  /-- BLOCK_READ (R412): A BLOCK_READ transaction returns a chunk of a BLOB or TABLE value. -/
  | blockRead (t : Transaction)
  /-- DOORBELL (R412): A Krytae DOORBELL transaction applies a producer-index write under R118. -/
  | doorbell (t : Transaction)
  /-- GENERIC_OD_WRITE (R419): A write to an entry without a row of its own is applied by its access class. -/
  | genericOdWrite (index sub : Nat) (value : List Byte)
  /-- STATUS (R412): Every 1 ms the Dreuth sends a STATUS frame on both Krytae ports. -/
  | status
  /-- KRYTAE_PORT_DOWN (R409): A Krytae port without light or link control flit for 20 µs goes DOWN. -/
  | krytaePortDown (k : Nat)
  /-- KRYTAE_PORT_TRAINING (R409): A Krytae port trains on its wavelength when light is present at both ends. -/
  | krytaePortTraining (k : Nat) (done : Bool)
  /-- OD_FWD (R422): A die receives a forwarded dictionary access from the hub and answers with OD_RSP. -/
  | odFwd (position : Nat)
  /-- OD_RSP (R422): The hub receives a die's OD_RSP and answers the pending transaction. -/
  | odRsp (position : Nat)
  /-- EVENT (R424): An event from a die or the rig reaches the hub and is written to the event queue and sent as
  an EVENT frame. -/
  | event (e : EventIn)
  /-- HEARTBEAT (R429): Every 1,000 ns each complex sends a heartbeat on the private link and as ROLL_CALL. -/
  | heartbeat (complex selfTest : Nat)
  /-- HEARTBEAT_MISS (R429): A heartbeat not received by the next multiple of 1,000 ns is missed and counted. -/
  | heartbeatMiss (complex : Nat) (standing : Bool)
  /-- TAKEOVER (R431): The standby declares failure, becomes ACTIVE, the gate raises the epoch and unpassed
  outputs are re-sent. -/
  | takeover (reason : Nat)
  /-- DIVERGENCE (R427): A standby output differing from, or missing 2 µs after, the active's output sends the
  standby OFFLINE. -/
  | divergence (oseq : Nat)
  /-- COMPLEX_DISPLACED (R434): A still-running complex that sees a higher gate epoch goes OFFLINE. -/
  | complexDisplaced (complex : Nat)
  /-- RESYNC (R435): A twin in SYNCING self-tests, receives a snapshot and replays inputs until it becomes
  STANDBY. -/
  | resync (complex : Nat) (step : ResyncStep)
  /-- HAND_OVER (R430): A write of 1 to OD 0xB010.01 makes the active complex hand over, or is refused. -/
  | handOver
  /-- RESYNCHRONISE_TWIN (R435): A write of 2 to OD 0xB010.01 starts a resynchronisation of the twin. -/
  | resynchroniseTwin
  /-- TWIN_OFFLINE (R428): A write of 3 to OD 0xB010.01 takes the twin OFFLINE. -/
  | twinOffline
  /-- CONTROL_COMMIT (R436): A commit of OD 0xB0FF.00 changes the control mode and resynchronises the standby. -/
  | controlCommit (value : Nat)
  /-- CONTROL_CYCLE_END (R436): In compatibility mode, at each 10 µs cycle end the active copies its changed state
  and the gate releases the cycle's outputs. -/
  | controlCycleEnd
  /-- TABLE_COMMIT (R423): A commit of 1 to OD 0xD0FF.00 checks and loads a table for its consumer. -/
  | tableCommit
  /-- TABLE_RESTORE (R423): A write of 0x100 + t to OD 0xD0FF.00 returns table t to its default. -/
  | tableRestore (value : Nat)
  /-- EMPTY_BLOCK_COMMIT (R487): A commit of a block with no RL entry answers status 1 and completes with no
  effect. -/
  | emptyBlockCommit (index value : Nat)
  /-- RST_N_LOW (R439): RST_N held low for 10 µs starts a cold start. -/
  | rstNLow (heldNs : Nat)
  /-- POWER_LOSS (R501): A rail that falls without RST_N held low is a power loss. -/
  | powerLoss
  /-- RAIL_FAULT (R502): A rail below its transient floor or outside its static range for 10 µs causes rig loss, a
  hub halt or a die reset. -/
  | railFault (rail : Rail)
  /-- COLD_START (R441): The cold start sequence brings up rig, hub, dies, memory and network and wipes every
  store. -/
  | coldStart (cause : ColdCause) (obs : StartObs)
  /-- WARM_START (R442): The warm start resets every upper die with the rig running and runs the start steps
  again. -/
  | warmStart (obs : StartObs)
  /-- START_REQUEST_WARM (R439): A write of 1 to OD 0x1002.01 requests a warm start, applied 100 µs after the
  response. -/
  | startRequestWarm
  /-- START_REQUEST_COLD (R439): A write of 2 to OD 0x1002.01 requests a cold start, applied 100 µs after the
  response. -/
  | startRequestCold
  /-- LIFE_CYCLE_TRANSITION (R449): A write of OD 0x1001.02 checks authorisation, blows the target fuse bits and
  starts a cold start. -/
  | lifeCycleTransition (target : Nat)
  /-- FUSE_COPY_REPAIR (R450): A torn fuse transition is completed by blowing the missing bit, checked again every
  1 s. -/
  | fuseCopyRepair
  /-- SECURITY_COMMIT (R448): A commit of OD 0x90FF.00 verifies an image, writes it to the other slot and makes it
  preferred. -/
  | securityCommit (value : Nat) (readBackGood : Bool)
  /-- ATTESTATION_REQUEST (R453): A write of 1 to OD 0x9030.02 signs a report body with the next leaf, or is
  refused. -/
  | attestationRequest (value : Nat)
  /-- BELL_RING (R461): A write of 1 to OD 0xA000.01 rings the bell, stopping units under R462. -/
  | bellRing (source : Nat)
  /-- BELL_RELEASE (R465): A write of 2 to OD 0xA000.01 releases the bell, held requests are applied and units
  resume. -/
  | bellRelease
  /-- BELL_RUNG (R464): Every unit has acknowledged its stop, the bell reads RUNG and a bell event is raised. -/
  | bellRung
  /-- BELL_CLEAR (R465): Every unit has acknowledged its resume and the bell reads CLEAR. -/
  | bellClear
  /-- TRIGGER_FIRE (R472): An armed trigger row reaches its count of matching slate entries and rings the bell. -/
  | triggerFire (row : Nat)
  /-- SCAN_OUT (R468): A BLOCK_READ of OD 0xA010.03 reads part of a cluster's state image while the bell is RUNG. -/
  | scanOut (offset length : Nat)
  /-- INTERNAL_SCAN (R469): Loading an internal scan instruction rings the bell and stops the die's clocks for the
  scan. -/
  | internalScan (die : Nat)
  /-- DUMP_POINT (R476): At a dump point the OC holds issue and context 0 copies the source into the dump area. -/
  | dumpPoint (c row : Nat)
  /-- TRACE_RECORD (R474): A traced entry's record is buffered and drained to the trace area, or lost with a gap
  record. -/
  | traceRecord (c : Nat)
  /-- DUMP_RESET (R477): A write of 1 to OD 0xA033.01 resets the dump fill offset. -/
  | dumpReset (value : Nat)
  /-- COUNTER_CLEAR (R478): A write of OD 0xA040.01 clears the cumulative counter copies of a unit or every
  cluster. -/
  | counterClear (unit : Nat)
  /-- CROWS_NEST_SAMPLE (R481): At each sample-list interval units take samples and the crow's nest packs them
  into the telemetry ring. -/
  | crowsNestSample (interval : Nat)
  /-- DEBUG_COMMIT (R483): A commit of OD 0xA0FF.00 checks and applies the debug block's RL entries. -/
  | debugCommit (value : Nat)
  /-- WATCHDOG_RESET (R339): A die's watchdog expires and requests a fenced reset of that die. -/
  | watchdogReset (die : Nat)
  /-- SCAN_EXIT (R469): At scan exit the die's stopped clocks restart and their time copies resynchronise, while
  the bell stays rung. -/
  | scanExit (die : Nat)
  /-- RAILS_BACK_IN_RANGE (R502): A die reset by a rail fault leaves RESET once all its rails have been in range
  for 1 ms. -/
  | railsBackInRange (die : Nat)
  /-- HELLO_REPEAT (R317): A LOST port whose join is refused, or that must answer a peer's HELLO, sends its HELLO
  again every 1 ms. -/
  | helloRepeat (port : Nat)
  /-- ZONE_SLEW_END (R366): A slewing zone or region reaches its target frequency and the zone table shows it
  running. -/
  | zoneSlewEnd (region : Region)
deriving DecidableEq, Repr

end Sys2Proof
end

