-- ==== Sys2Proof/Decode.lean ====
section
/-! DEFINITION. The commands that table words spell. spec/opcode_table.json gives bits to none of its rows, so there is
nothing to decode: a command reaches the block as a command. -/

namespace Sys2Proof

/-- The command that a word of `nbits` bits spells by the bits of spec/opcode_table.json: none, since no row has
any. -/
def decodeTableWord (_nbits _w : Nat) : Option Instr := none

end Sys2Proof
end

