-- ==== Sys2Proof/Config.lean ====
section
/-! DEFINITION. What an implementation fixes and the spec leaves open: constants without a body, so that no proof
can lean on a value of them. -/

namespace Sys2Proof

/-- Verification of an XMSS-SHAKE256_20_256 signature (NIST SP 800-208, R445): public key, message, signature. -/
opaque Config.xmssVerify : List Byte → List Byte → List Byte → Bool

/-- The XMSS^MT signature (R452, R453) that leaf `i` of the wrapped identity seed gives over a report body. -/
opaque Config.xmssMtSign : List Byte → Nat → List Byte → List Byte

/-- The public key of the identity seed (R452). -/
opaque Config.xmssMtPublicKey : List Byte → List Byte

/-- Entropy that the hub draws at the first start in PROVISIONED (R452), wrapped under the fused key: 96 bytes. -/
opaque Config.identitySeed : Nat → List Byte

/-- The bytes of the default image of curve slot `s` (R106): the spec lists the curves and their bounds for slots 0
to 9 but prints no coefficients. -/
opaque Config.curveImageByte : Nat → Nat → Byte

/-- The ROM version that the boot measurement holds (R455 order 1). -/
opaque Config.romVersion : List Byte

/-- The patterns of a VE lane that stand for true and for false (R62 names compare and select, and states no pattern). -/
opaque Config.truthWord : Bool → Word32

/-- The heater crosstalk matrix of a bank as package test measured it (R248): an F32 pattern by bank and row * 16 + column. -/
opaque Config.crosstalk : Nat → Nat → Word32

/-- What stands in image slot 0 of a part as shipped (R444): the spec gives no image. -/
opaque Config.factoryImage : List Byte

/-- The measurement value and log that the start before State.reset has left (R455, R456): they depend on the image. -/
opaque Config.startMeasure : List Byte
opaque Config.startLog : List (List Byte)

/-- What a lost data pin of an HBM3 stack adds to a symbol (R333 kind 6): stack, pseudo-channel, codeword within it,
symbol. -/
opaque Config.pinError : Nat → Nat → Nat → Nat → Byte

/-- Whether the hub rounds up a reported quotient that is not whole: numerator, denominator. The spec states no rounding for
it. -/
opaque Config.roundsUp : Int → Nat → Bool

/-- The trigger codes in the body of table 0x0018 (R491), by row of R112: the spec numbers no triggers. -/
opaque Config.triggerCode : Nat → Byte

/-- A free byte: what the spec leaves open, the n-th time it is asked for. -/
opaque Config.freeByte : Nat → Byte

/-- A free word: what the spec leaves open, the n-th time it is asked for. -/
opaque Config.freeWord : Nat → BitVec 64

end Sys2Proof
end

