-- ==== Sys2Proof/Machine/Bytes.lean ====
section
/-! DEFINITION. Byte order and fields (R8, R9: multi-byte values are little-endian), and the record header of R310. -/

namespace Sys2Proof

/-- The low `n` bytes of `v`, little-endian (R9). -/
def leBytes : Nat → Nat → List Byte
  | 0, _ => []
  | n + 1, v => BitVec.ofNat 8 v :: leBytes n (v / 256)

/-- The value of a list of bytes, little-endian (R9). -/
def leNat : List Byte → Nat
  | [] => 0
  | b :: bs => b.toNat + 256 * leNat bs

/-- The `n` bytes at offset `off` of a value; bytes past its end are not there. -/
def subBytes (l : List Byte) (off n : Nat) : List Byte := (l.drop off).take n

/-- The field of `n` bytes at offset `off`. -/
def field (l : List Byte) (off n : Nat) : Nat := leNat (subBytes l off n)

/-- A value filled up with zero bytes to length `n`, or cut to it. -/
def padTo (n : Nat) (l : List Byte) : List Byte := l.take n ++ List.replicate (n - l.length) 0

/-- Bits `[hi:lo]` of a number. -/
def bitsOf (v hi lo : Nat) : Nat := v / 2 ^ lo % 2 ^ (hi + 1 - lo)

/-- The low `n` bytes of an integer in two's complement (R8). -/
def intBytes (n : Nat) (i : Int) : List Byte := leBytes n (i.emod (2 ^ (8 * n))).toNat

/-- The two's complement value of a number of `w` bits. -/
def signedOf (w v : Nat) : Int := if v % 2 ^ w < 2 ^ (w - 1) then (v % 2 ^ w : Int) else (v % 2 ^ w : Int) - 2 ^ w

/-- The bytewise complement (R173). -/
def complementBytes (l : List Byte) : List Byte := l.map (~~~ ·)

/-- A value followed by its complement (R173). -/
def isCriticalPair (l : List Byte) : Bool :=
  l.length % 2 = 0 && complementBytes (l.take (l.length / 2)) = l.drop (l.length / 2)

/-- Characters as bytes of ASCII (R417). -/
def asciiBytes (t : String) : List Byte := t.toList.map fun c => BitVec.ofNat 8 c.toNat

/-- Round a division up. -/
def ceilDiv (a b : Nat) : Nat := (a + b - 1) / b

/-- An addition that stops at the largest value of `w` bits (R8, R23). -/
def satAdd (w a b : Nat) : Nat := Nat.min (a + b) (2 ^ w - 1)

/-- The 32-byte header of a record (R310): KIND, flags, LENGTH, source domain, device and hops, context, send and
delivery time. -/
def recordHeader (kind flags length dom dev hops ctx sent delivered : Nat) : List Byte :=
  leBytes 1 kind ++ leBytes 1 flags ++ leBytes 2 length ++ leBytes 2 dom ++ leBytes 1 dev ++ leBytes 1 hops ++
  leBytes 2 ctx ++ leBytes 6 0 ++ leBytes 8 sent ++ leBytes 8 delivered

/-- The 32-byte gap marker of R310. -/
def gapMarker (firstDrop drops : Nat) : List Byte :=
  leBytes 1 2 ++ leBytes 15 0 ++ leBytes 8 firstDrop ++ leBytes 8 drops

/-- The 224-byte body of an event record (R424). -/
def eventBody (code die severity epoch oseq layer operator step : Nat) (detail : List Byte) : List Byte :=
  leBytes 2 code ++ leBytes 1 die ++ leBytes 1 severity ++ leBytes 4 epoch ++ leBytes 8 oseq ++ leBytes 3 layer ++
  leBytes 2 operator ++ leBytes 4 step ++ leBytes 7 0 ++ padTo 192 detail

/-- An entry of a slate (R471), 64 bytes. -/
def slateEntry (stamp unit code ctx seq layer operator step : Nat) (detail : List Byte) : List Byte :=
  leBytes 8 stamp ++ leBytes 2 unit ++ leBytes 2 code ++ leBytes 2 ctx ++ leBytes 2 seq ++ leBytes 3 layer ++
  leBytes 2 operator ++ leBytes 4 step ++ leBytes 7 0 ++ padTo 32 detail

end Sys2Proof
end

