-- ==== Sys2Proof/Machine/SMap.lean ====
section
/-! DEFINITION. Sparse tables (a list of key and value, keys rising) and byte-addressed memory in one canonical form. -/

namespace Sys2Proof

/-- A sparse table: pairs of key and value, keys strictly rising; an unlisted key holds the table's default. -/
structure SMap (α : Type) where
  entries : List (Nat × α)
deriving DecidableEq, Repr

/-- The empty table. -/
def SMap.empty {α : Type} : SMap α := ⟨[]⟩

/-- The value listed for key `k`, if any. -/
def SMap.lookup {α : Type} : List (Nat × α) → Nat → Option α
  | [], _ => none
  | (j, v) :: l, k => if j = k then some v else SMap.lookup l k

/-- The value of key `k`, `d` when it is not listed. -/
def SMap.get {α : Type} (d : α) (m : SMap α) (k : Nat) : α := (SMap.lookup m.entries k).getD d

/-- Insert or replace the pair of key `k` in a list of rising keys. -/
def SMap.insertEntry {α : Type} (k : Nat) (v : α) : List (Nat × α) → List (Nat × α)
  | [] => [(k, v)]
  | (j, w) :: l => if k < j then (k, v) :: (j, w) :: l else if k = j then (k, v) :: l
      else (j, w) :: SMap.insertEntry k v l

/-- The table with key `k` holding `v`. -/
def SMap.set {α : Type} (m : SMap α) (k : Nat) (v : α) : SMap α := ⟨SMap.insertEntry k v m.entries⟩

/-- The table without the keys that `p` names. -/
def SMap.dropKeys {α : Type} (m : SMap α) (p : Nat → Bool) : SMap α := ⟨m.entries.filter fun e => !p e.1⟩

/-- The table with every listed value changed by `f`. -/
def SMap.mapVals {α : Type} (m : SMap α) (f : Nat → α → α) : SMap α := ⟨m.entries.map fun e => (e.1, f e.1 e.2)⟩

/-- The keys listed. -/
def SMap.keys {α : Type} (m : SMap α) : List Nat := m.entries.map (·.1)

/-- Memory: bytes by address, addresses strictly rising, no byte that equals what an unlisted address reads as. -/
structure Mem where
  cells : List Host.Cell
deriving DecidableEq, Repr

/-- What a byte that nothing has written reads as: a wiped store reads zero (R175). -/
def Mem.unlisted : Byte := 0

/-- Look an address up in a list of cells. -/
def Mem.lookup : List Host.Cell → Nat → Byte
  | [], _ => Mem.unlisted
  | (j, v) :: l, k => if j = k then v else Mem.lookup l k

/-- The byte at address `a`. -/
def Mem.read (m : Mem) (a : Nat) : Byte := Mem.lookup m.cells a

/-- Write one cell into a list of cells; the unlisted value is kept out of the list. -/
def Mem.insertCell (a : Nat) (b : Byte) : List Host.Cell → List Host.Cell
  | [] => if b = Mem.unlisted then [] else [(a, b)]
  | (j, w) :: l =>
    if a < j then (if b = Mem.unlisted then (j, w) :: l else (a, b) :: (j, w) :: l)
    else if a = j then (if b = Mem.unlisted then l else (a, b) :: l)
    else (j, w) :: Mem.insertCell a b l

/-- Write one byte. -/
def Mem.write (m : Mem) (a : Nat) (b : Byte) : Mem := ⟨Mem.insertCell a b m.cells⟩

/-- Write consecutive bytes from `a` upwards. -/
def Mem.writeBytes (m : Mem) (a : Nat) : List Byte → Mem
  | [] => m
  | b :: bs => Mem.writeBytes (m.write a b) (a + 1) bs

/-- Read `n` consecutive bytes from `a` upwards. -/
def Mem.readBytes (m : Mem) (a : Nat) : Nat → List Byte
  | 0 => []
  | n + 1 => m.read a :: Mem.readBytes m (a + 1) n

/-- Clear every byte from `lo` up to `hi - 1`: what a wipe does (R175). -/
def Mem.clearRange (m : Mem) (lo hi : Nat) : Mem := ⟨m.cells.filter fun c => !(lo ≤ c.1 && c.1 < hi)⟩

/-- Clear every byte whose address satisfies `p`. -/
def Mem.discard (m : Mem) (p : Nat → Bool) : Mem := ⟨m.cells.filter fun c => !p c.1⟩

/-- Write a list of cells one after another, each moved by `dst - src`. -/
def Mem.overlay (m : Mem) (src dst : Nat) : List Host.Cell → Mem
  | [] => m
  | (a, b) :: l => Mem.overlay (m.write (a - src + dst) b) src dst l

/-- Copy `len` bytes from `src` to `dst`, as they stood before the copy. -/
def Mem.copyRange (m : Mem) (src dst len : Nat) : Mem :=
  Mem.overlay (m.clearRange dst (dst + len)) src dst (m.cells.filter fun c => src ≤ c.1 && c.1 < src + len)

/-- The canonical form of a list of cells above a bound: addresses strictly rising, no unlisted value. -/
def Mem.sortedFrom : Nat → List Host.Cell → Bool
  | _, [] => true
  | lo, (a, b) :: l => decide (lo ≤ a) && decide (b ≠ Mem.unlisted) && Mem.sortedFrom (a + 1) l

/-- The canonical form of memory. -/
def Mem.wf (m : Mem) : Bool := Mem.sortedFrom 0 m.cells

end Sys2Proof
end

