-- ==== Sys2Proof/Machine/State.lean ====
section
/-! DEFINITION. The state of the block: everything the spec gives the Dreuth to hold, as plain data. Scalar entries of
the object dictionary (R416) live in one register file, keyed index * 256 + subindex; tables and machinery have
fields of their own. Field defaults are the values right after start-complete. -/

namespace Sys2Proof.Machine

/-! ### Identity (fused, R2, R5, R337, R353, R449) -/

/-- What is fused into the package. -/
structure Fuses where
  /-- Grade -E (R2, OD 0x1000.02). -/
  extended : Bool := false
  /-- Guest sites fitted, bit g (R5, OD 0x1000.03). -/
  guests : Nat := 3
  /-- Package serial (OD 0x1000.04). -/
  serial : Nat := 1
  /-- The two life-cycle fuse copies (R449), thermometer code. -/
  lifeCopy0 : BitVec 4 := 3
  lifeCopy1 : BitVec 4 := 3
  /-- Fused root (OD 0x9000.01), guest part IDs and guest-owner key hashes (R337), by site. -/
  root : List Byte := List.replicate 32 0
  guestPart : SMap (List Byte) := ⟨[]⟩
  guestKey : SMap (List Byte) := ⟨[]⟩
  /-- DIEREV of each die (R337), by die code. -/
  dieRev : SMap Nat := ⟨[]⟩
  /-- The stay map (R334): bonds that spares replace since package test, by link ID * 256 + stay. -/
  stayMap : SMap (List Nat) := ⟨[]⟩
  dieSerial : SMap Nat := ⟨[]⟩
  /-- DIECODE and PKGLINK of the dies whose identity word differs from their position or the package (R337). -/
  dieCode : SMap Nat := ⟨[]⟩
  pkgLink : SMap Nat := ⟨[]⟩
  /-- Dies whose identity word, and dies whose stay map, fails its complement (R174). -/
  badWords : List Nat := []
  badMaps : List Nat := []
deriving DecidableEq, Repr

/-! ### Clusters (R37 to R75) -/

/-- A word in an engine queue: the 128-bit operation word, its reading for a clocked engine, its place in the
cluster's issue order, and the command it belongs to. -/
structure QueuedOp where
  word : OpWord := 0
  reading : ClockedOp := .reservedOp
  seq : Nat := 0
  ring : Nat := 0
deriving DecidableEq, Repr

/-- An operation that an engine has started; `progress` counts the K-steps, bytes or indices already done; `rows` the
rows of an MMA's present K-step that have entered (R60); `tail` the handshakes made since its last row entered (R51);
`carried` says that a data packet took the copy's increment with it (R278). -/
structure RunningOp where
  op : QueuedOp := {}
  progress : Nat := 0
  rows : Nat := 0
  tail : Nat := 0
  finished : Bool := false
  carried : Bool := false
deriving DecidableEq, Repr

/-- One entry of the scoreboard (R135): extents (start, end) in bytes that an operation reads and writes. -/
structure ScoreEntry where
  seq : Nat
  engine : Engine
  reads : List (Nat × Nat)
  writes : List (Nat × Nat)
deriving DecidableEq, Repr

/-- The command a cluster is executing or executed last (R132). -/
structure Ids where
  ctx : Nat := 0xFFFF
  layer : Nat := 0
  operator : Nat := 0
  step : Nat := 0
deriving DecidableEq, Repr

/-- One open loop of a timetable (R124): the LOOP entry's index and the jumps still to make. -/
structure OpenLoop where
  entry : Nat
  left : Nat
deriving DecidableEq, Repr

/-- A timetable under execution (R122, R124, R134). -/
structure TimetableRun where
  ctx : Nat := 0
  ring : Nat := 0
  length : Nat := 0
  entry : Nat := 0
  loops : List OpenLoop := []
  waitSince : Option Nat := none
  trace : Bool := false
  stochastic : Bool := false
  /-- What held the present entry (R473): a full queue, the scoreboard, a wait. -/
  heldQueue : Bool := false
  heldScore : Bool := false
  heldWait : Bool := false
deriving DecidableEq, Repr

/-- A panel of the matrix engine (R56, R58): its running time since its last pause, the pause in progress, and the
counts at the last rate window. -/
structure Panel where
  ranSincePause : Nat := 0
  pausedUntil : Option Nat := none
  windowHandshakes : Nat := 0
  windowNs : Nat := 0
deriving DecidableEq, Repr

/-- The parts of the cluster state image (R74) other than cluster memory, and the engines' progress. -/
structure Core where
  /-- Accumulators (R47), FP32 patterns by ((half * 256 + row) * 256 + column). -/
  acc : SMap Word32 := ⟨[]⟩
  /-- Result width of each half (R49). -/
  width0 : Nat := 256
  width1 : Nat := 256
  /-- VE registers (R63), by v * 128 + lane. -/
  veRegs : SMap Word32 := ⟨[]⟩
  /-- OC timetable store (R42), 32-byte entries. -/
  timetable : List (BitVec 256) := []
  /-- OC data store and general registers (R42). -/
  ocData : SMap Byte := ⟨[]⟩
  ocRegs : SMap Word64 := ⟨[]⟩
  /-- Curve slots (R64, R104): bytes by slot * 1024 + offset, for slots that were loaded. -/
  curves : SMap (List Byte) := ⟨[]⟩
  /-- Codebook sets (R84): 16 bytes each, for sets that were loaded. -/
  codebooks : SMap (List Byte) := ⟨[]⟩
  /-- Engine queues (R43): MMAs and DRAINs in one queue of 8, clocked engines 4 each. -/
  meQueue : List QueuedOp := []
  veQueue : List QueuedOp := []
  aeQueue : List QueuedOp := []
  xeQueue : List QueuedOp := []
  geQueue : List QueuedOp := []
  ceQueue : List QueuedOp := []
  qeQueue : List QueuedOp := []
  /-- Started operations: the MMA and the DRAIN of the ME, one per clocked engine, up to 16 copies of the CE (R65). -/
  mma : Option RunningOp := none
  drain : Option RunningOp := none
  ve : Option RunningOp := none
  ae : Option RunningOp := none
  xe : Option RunningOp := none
  ge : Option RunningOp := none
  qe : Option RunningOp := none
  copies : List RunningOp := []
  /-- MMAs streamed, until their scoreboard entries are released; `finished` once their results are complete (R51). -/
  mmaDone : List RunningOp := []
  /-- Scoreboard (R135) and the issue count it numbers operations with. -/
  score : List ScoreEntry := []
  issued : Nat := 0
  /-- The timetable the OC runs, if any. -/
  run : Option TimetableRun := none
  /-- QE operations started within the command (R102). -/
  opn : Nat := 0
  /-- Stochastic seed in force (R103, R115). -/
  seed : Word64 := 0
  /-- Progress records have been written (R61, R66). -/
  meSuspended : Bool := false
  ceSuspended : Bool := false
  geSuspended : Bool := false
  /-- Dump rows whose operator is in progress, and rows whose dump point is reached (R475). -/
  dumpOpen : List Nat := []
  dumpDue : List Nat := []
  /-- In an image: the IDs of the command in progress, the engines whose first NaN is recorded, and the command's start
  (R102, R109, R132). -/
  savedIds : Ids := {}
  savedNan : List Engine := []
  savedStart : Option Nat := none
deriving DecidableEq, Repr

/-- A cluster: its state image, and what is not part of the image. -/
structure Cluster where
  core : Core := {}
  panels : SMap Panel := ⟨[]⟩
  ids : Ids := {}
  /-- Cumulative and per-command counters (R75, R109, R478), by counter ID (R479); the previous command's copy. -/
  counters : SMap Nat := ⟨[]⟩
  perCmd : SMap Nat := ⟨[]⟩
  prevCmd : SMap Nat := ⟨[]⟩
  prevIds : Ids := {}
  cmdStart : Option Nat := none
  /-- First NaN of the command already recorded, by engine (R109). -/
  nanSeen : List Engine := []
  /-- Reported handshake rate (M handshakes/s) and stale flag (R56). -/
  rate : Nat := 2000
  stale : Bool := false
  outOfService : Bool := false
  /-- The context bound to the cluster (R114, R146). -/
  bound : Option Nat := none
  /-- Trace buffer (R474): records not yet drained, and records lost since the last one written. -/
  traceBuf : List (List Byte) := []
  traceLost : Nat := 0
  traceWritten : Nat := 0
  traceLostTotal : Nat := 0
deriving DecidableEq, Repr

/-! ### Contexts (R110 to R147) -/

/-- Context states (R111). -/
inductive CtxState where
  | closed | opened | bound | saving | parked | restoring | faulted | held
deriving DecidableEq, Repr

/-- Actions of OD 0x7nnn.20 that can be pending (R113). -/
inductive PendingAction where
  | close | park
deriving DecidableEq, Repr

/-- What a member does with its current command (R129, R130). -/
inductive MemberPhase where
  | idle | started | working | done
deriving DecidableEq, Repr

/-- A member's progress: commands completed as a ring index, and its phase within the next one. -/
structure Member where
  next : Nat := 0
  phase : MemberPhase := .idle
deriving DecidableEq, Repr

/-- A context. Register names follow R113. -/
structure Ctx where
  state : CtxState := .closed
  cls : List Nat := []
  ringBase : Nat := 0
  ringSize : Nat := 0
  producer : Word32 := 0
  consumer : Word32 := 0
  priority : Nat := 4
  period : Nat := 1000
  saveBase : Nat := 0
  saveSize : Nat := 0
  faultCode : Nat := 0
  faultCommand : Nat := 0
  faultDetail : Nat := 0
  completed : Nat := 0
  boundTime : Nat := 0
  binds : Nat := 0
  overrun : Nat := 0
  lastSave : Nat := 0
  lastRestore : Nat := 0
  imageRequests : Nat := 0
  waitLimit : Nat := 0
  doorbellRefusals : Nat := 0
  actionStatus : Nat := 0
  pendingAction : Option PendingAction := none
  /-- The class's clusters still hold this context (BOUND, or FAULTED and not yet saved). -/
  holds : Bool := false
  saveRunning : Bool := false
  restoreRunning : Bool := false
  /-- A period end is due and the stop of R140 steps 1 to 3 runs; `deferredSince` when R139 defers it. -/
  ending : Bool := false
  deferredSince : Option Nat := none
  zeroing : Bool := false
  clusterLost : Bool := false
  periodStart : Nat := 0
  boundAt : Nat := 0
  waited : Nat := 0
  waitingSince : Nat := 0
  idleSince : Option Nat := none
  transitStart : Nat := 0
  /-- Ring index of the next descriptor to fetch, and descriptors fetched and not yet complete (R116, R117). -/
  fetched : Nat := 0
  descriptors : SMap (BitVec 512) := ⟨[]⟩
  members : SMap Member := ⟨[]⟩
  /-- Ring indices of faulted commands that a RESUME has marked complete and the consumer index has not passed (R146). -/
  skip : List Nat := []
  /-- Stochastic seed committed and waiting for the next command boundary (R103). -/
  pendingSeed : Option Word64 := none
deriving DecidableEq, Repr

/-! ### Memory (R148 to R176) -/

/-- One set of a slice's cache (R153, R155): line and dirty flag by way, and the tree pseudo-LRU bits. -/
structure CacheSet where
  ways : List (Option (Nat × Bool)) := List.replicate 16 none
  plru : BitVec 15 := 0
deriving DecidableEq, Repr

/-- The steps of a partition change (R159). -/
structure PartitionChange where
  old : Nat
  new : Nat
  started : Nat
  draining : Bool
deriving DecidableEq, Repr

/-- A tower's store: scratch steps in force, the change waiting or running, stalled accesses, the hold buffer of
R141, HBM3 pacing of the cache die (R390). -/
structure Tower where
  scratch : Nat := 0
  change : Option PartitionChange := none
  due : Option Nat := none
  stalled : List Access := []
  hold : List Req := []
  pacing : Nat := 8
deriving DecidableEq, Repr

/-- An HBM3 stack (R163, OD 0x5000.04, 0x5040.01). -/
structure Stack where
  inService : Bool := true
  centi : Int := 0
  doubled : Bool := false
  /-- Data and ECC pins whose stays are retired (R333). -/
  retiredPins : List Nat := []
deriving DecidableEq, Repr

/-- All stores above the rig. -/
structure Memory where
  /-- Contents, by device offset (R148); a cluster's local address `a` is 0xE0_0000_0000 + c * 0x40_0000 + a. -/
  cells : Mem := ⟨[]⟩
  /-- Error symbols of codewords as stored, by device offset / 64 (R165, R166); marking is one of these (R170). -/
  errors : SMap ErrorPattern := ⟨[]⟩
  /-- Ranges of codewords, first and past the last, that are marked unless `errors` lists them (R340 step 8). -/
  marks : List (Nat × Nat) := []
  /-- Stacks that a wipe of R403 has taken out of those ranges. -/
  unmarked : List Nat := []
  /-- Error symbols of the copy of a codeword that a resident line holds. -/
  lineErrors : SMap ErrorPattern := ⟨[]⟩
  /-- Corrected codewords whose write-back waits for an idle cycle (R167). -/
  writebacks : List Nat := []
  sets : SMap CacheSet := ⟨[]⟩
  towers : SMap Tower := ⟨[]⟩
  hbm : SMap Stack := ⟨[]⟩
  /-- Images' parts other than cluster memory, by the image's device offset (R74, R143). -/
  cores : SMap Core := ⟨[]⟩
deriving DecidableEq, Repr

/-! ### Rig network (R177 to R210) -/

/-- Lane states (R182). -/
inductive LaneState where
  | idle | training | active | quiescing | retuning | out
deriving DecidableEq, Repr

/-- A transmit lane (R182, R185, R191, R192, R256). -/
structure Lane where
  state : LaneState := .idle
  targets : Nat := 0
  dropped : List Nat := []
  nextSeq : Nat := 0
  nakSeq : Nat := 0
  naks : Nat := 0
  retrains : Nat := 0
  lastRetrain : Nat := 0
  noRetrain : Bool := false
  /-- Flits sent and not yet acknowledged by every target: first SEQ, flits, packet. -/
  replay : List (Nat × Nat × Packet) := []
  acked : SMap Nat := ⟨[]⟩
  trainedBy : List Nat := []
  trainStart : Option Nat := none
  wrongWait : Bool := false
  narrowing : Option Nat := none
  /-- Bytes of the wire stream sent since the last training (R184). -/
  stream : Nat := 0
  /-- Flits from it count toward R192 (R252, R256). -/
  ignoreNaks : Bool := false
deriving DecidableEq, Repr

/-- States of a standing path (OD 0x4020.02). -/
inductive PathState where
  | up | retraining | down
deriving DecidableEq, Repr

/-- A standing path (R179, R193). -/
structure StandingPath where
  state : PathState := .up
  nextSeq : Nat := 0
  nakSeq : Nat := 0
  naks : Nat := 0
  lastRetrain : Nat := 0
  wavelengthDropped : Bool := false
  replay : List (Nat × Nat × Packet) := []
deriving DecidableEq, Repr

/-- What a receiver keeps of one path (R191): next SEQ expected, and whether it discards. -/
structure Receiver where
  expected : Nat := 0
  discarding : Bool := false
deriving DecidableEq, Repr

/-- A multicast at its source between MC_RESERVE and its sending (R204, R205, R218). -/
structure McPending where
  src : Nat
  tag : Nat
  packet : Packet
  grants : List Nat
  sent : Nat
  held : Bool
deriving DecidableEq, Repr

/-- Flits that a target has set aside, or will set aside, for a source's multicast (R204). -/
structure McReservation where
  site : Nat
  src : Nat
  tag : Nat
  flits : Nat
  granted : Bool
  /-- The source has sent the packet: its flits count as spent. -/
  sent : Bool := false
deriving DecidableEq, Repr

/-- A packet under way on one path (its receiver's key), or kept for a replay, with the SEQ of its head flit. -/
structure Flight where
  path : Nat
  seq : Nat
  packet : Packet
  /-- The stream byte at which its head flit starts (R184). -/
  first : Nat := 0
deriving DecidableEq, Repr

/-- The time during which any of some parties is in a condition (OD 0x4021.06, 0x4023.01): those in it, and since when there has
been one. -/
structure Meter where
  who : List Nat := []
  since : Nat := 0
deriving DecidableEq, Repr

/-- The rig network. -/
structure Rig where
  /-- Transmit lanes, by slot * 64 + lane. -/
  lanes : SMap Lane := ⟨[]⟩
  /-- Standing paths, by source * 16 + destination. -/
  standing : SMap StandingPath := ⟨[]⟩
  /-- Receivers, by a path's key. -/
  receivers : SMap Receiver := ⟨[]⟩
  /-- Flits sent and flits freed, by (destination * 16 + source) * 8 + VC (R195). -/
  spent : SMap Nat := ⟨[]⟩
  freed : SMap Nat := ⟨[]⟩
  /-- Freed counts as the source last read them (R189). -/
  credited : SMap Nat := ⟨[]⟩
  /-- Pair sequence numbers, by (source * 16 + destination) * 8 + VC (R200). -/
  pseqNext : SMap Nat := ⟨[]⟩
  pseqExpected : SMap Nat := ⟨[]⟩
  /-- Packets waiting at their source, packets under way, and packets delivered and not yet applied, by site. -/
  outbox : List Packet := []
  inFlight : List Flight := []
  arrived : SMap (List Packet) := ⟨[]⟩
  mcPending : List McPending := []
  mcReserved : List McReservation := []
  /-- The towers that withhold credits (R196), and the paths that wait on a full replay buffer (R191), by their keys. -/
  withheld : Meter := {}
  full : Meter := {}
  /-- Flits that a VC has sent on a path in the present round (R197), by path key * 8 + VC. -/
  turns : SMap Nat := ⟨[]⟩
  /-- Time of the last guest-packet-dropped event, by site (R209). -/
  guestDropEvent : SMap Nat := ⟨[]⟩
deriving DecidableEq, Repr

/-! ### Tack plans and collectives (R211 to R234) -/

/-- A loaded plan (R212, R213): the image, its stored complement and the time of load. -/
structure Plan where
  image : List Byte := []
  complement : List Byte := []
  loaded : Nat := 0
deriving DecidableEq, Repr

/-- Steps of a running tack (R217). -/
inductive TackStep where
  | quiescing | retuning | trained
deriving DecidableEq, Repr

/-- A tack request in the queue (R216): from the control node or for a collective. -/
structure TackRequest where
  plan : Nat
  coll : Option Nat
  at_ : Nat
  /-- A plan commit waits for it (R213). -/
  marked : Bool
deriving DecidableEq, Repr

/-- The running tack. -/
structure Tack where
  plan : Nat
  coll : Option Nat
  started : Nat
  step : TackStep
  lanes : List Nat
  /-- Where the lanes taking part aimed before (R218), by lane key. -/
  aims : SMap Nat
  /-- Lanes that its training has brought up (R217 step 6). -/
  trained : List Nat
  marked : Bool
deriving DecidableEq, Repr

/-- A transfer record (R223). -/
structure Transfer where
  op : Nat
  src : Nat
  dst : Nat
  srcOff : Nat
  dstOff : Nat
  length : Nat
  wait : Word32
  inc : Nat
deriving DecidableEq, Repr

/-- A phase record (R222). -/
structure Phase where
  plan : Nat
  first : Nat
  count : Nat
deriving DecidableEq, Repr

/-- COLLECTIVE commands waiting for their join (R220), by TT_PTR: the listed contexts' members that have reached the
command. -/
structure JoinWait where
  ttPtr : Nat
  members : List (Nat × Nat)
  firstAt : Option Nat
deriving DecidableEq, Repr

/-- A running collective (R225 to R228). -/
structure Collective where
  seq : Nat
  ttPtr : Nat
  ctxs : List Nat
  participants : List (Nat × Nat)
  phases : List Phase
  transfers : List Transfer
  tally : Nat
  phase : Nat
  /-- Towers that PHASE_GO for the present phase has been sent to, has reached, and that sent PHASE_SENT. -/
  goDue : List Nat
  goTo : List Nat
  sentBy : List Nat
  /-- Transfer records issued, applied whole at their destination, and confirmed. -/
  issued : List Nat
  landed : List Nat
  confirmed : List Nat
  /-- The present phase waits for its claims, or for its tack. -/
  entering : Bool
  waitingTack : Bool
  /-- Listed contexts that have stopped, and since when (R233). -/
  stopped : List Nat
  stoppedAt : Option Nat
deriving DecidableEq, Repr

/-- The tack sequencer and the hub's collective sequencer. -/
structure Collectives where
  plans : SMap Plan := ⟨[]⟩
  pendingPlan : Option (Nat × List Byte) := none
  queue : List TackRequest := []
  tack : Option Tack := none
  /-- Claims: collective and lane key. Lanes barred from new claims (R216). -/
  claims : List (Nat × Nat) := []
  barred : List Nat := []
  joins : List JoinWait := []
  running : List Collective := []
  nextSeq : Nat := 0
deriving DecidableEq, Repr

/-! ### Lamps and rings (R235 to R260) -/

/-- Laser states (R239). -/
inductive LaserState where
  | active | warned | swapping | retired | dead | standby | preparing | ready
deriving DecidableEq, Repr

/-- A laser (R238, R240). F32 patterns for fall (dB), powers (mW). -/
structure Laser where
  state : LaserState := .active
  channel : Option Nat := none
  fall : Word32 := 0
  commissioning : Word32 := 0
  output : Word32 := 0
  drive : Nat := 0
  changed : Nat := 0
  past10 : Bool := false
  past15 : Bool := false
  past30 : Bool := false
  forChannel : Option Nat := none
  samples : List Word32 := []
  /-- The samples whose mean the last evaluation took (R240). -/
  lastSamples : List Word32 := []
  /-- A spare's etalon reading less its channel's line's, in pm (R241), and since when its output rises by steps (R242). -/
  etalon : Int := 0
  rampAt : Option Nat := none
deriving DecidableEq, Repr

/-- A swap in progress on a bar (R242). -/
structure SwapRun where
  channel : Nat
  line : Nat
  spare : Nat
  started : Nat
  step : Nat
  retired : Bool
  ps : Word32
deriving DecidableEq, Repr

/-- A lamp bar. -/
structure Bar where
  swap : Option SwapRun := none
  droppedChannels : List Nat := []
  dark : Bool := false
deriving DecidableEq, Repr

/-- Ring states (R246). -/
inductive RingState where
  | parked | locked | sweeping | verify | wrong | failed
deriving DecidableEq, Repr

/-- A ring element (R245 to R254). -/
structure Ring where
  state : RingState := .locked
  table : List Nat := List.replicate 32 0
  trim : Int := 0
  /-- Since when the trim is at a limit (R247), and when the last sweep started (R253). -/
  limitSince : Option Nat := none
  sweepAt : Nat := 0
  candidate : Nat := 0
  tone : Option Nat := none
  wrongWindows : Nat := 0
  goodWindows : Nat := 0
  calibrations : Nat := 0
  calibrated : Nat := 0
  relocks : Nat := 0
  attempts : Nat := 0
  retryAt : Option Nat := none
deriving DecidableEq, Repr

/-- A bank of rings: crosstalk matrix (256 F32 patterns), its measurements, local temperature (R247 to R249). -/
structure Bank where
  k : List Word32 := []
  pending : Option (List Word32) := none
  count : Nat := 0
  time : Nat := 0
  centi : Int := 2500
  skipRaised : Bool := false
  /-- Rings whose applied code is clamped (R248), and the time of the last pass (R249). -/
  clamped : List Nat := []
  passed : Option Nat := none
deriving DecidableEq, Repr

/-- The photonic controller. -/
structure Photonics where
  /-- By bar * 20 + laser. -/
  lasers : SMap Laser := ⟨[]⟩
  bars : SMap Bar := ⟨[]⟩
  /-- By element ID (R245). -/
  rings : SMap Ring := ⟨[]⟩
  /-- By element ID / 16. -/
  banks : SMap Bank := ⟨[]⟩
  refGoodSince : Option Nat := none
  snapshot : Ring := {}
  snapshotBank : Bank := {}
  /-- The applied and the feed-forward code of the snapshot (R247, R248). -/
  snapshotApplied : Nat := 0
  snapshotFeed : Nat := 0
deriving DecidableEq, Repr

/-! ### Domain (R261 to R298) -/

/-- Port states (R265). -/
inductive PortState where
  | down | training | joining | up | msg | demoted | lost
deriving DecidableEq, Repr

/-- A message in a hop buffer (R304): its MSEQ, since when it is held, and the SEQ of its last flit once sent. -/
structure HopEntry where
  mseq : Nat
  at_ : Nat
  message : Message
  last : Option Nat
deriving DecidableEq, Repr

/-- A reply as it is cached and sent: the response's opcode (0x40 to 0x45) and its fields. -/
structure Reply where
  op : Nat
  rsp : Rsp
deriving DecidableEq, Repr

/-- What leaves the Dreuth or a complex: responses, event, status and take-over frames, packets for the fibres and
Krytae ports (R412, R427), in order. -/
inductive Output where
  | response (port type : Nat) (t : Transaction) (status : Nat) (value : List Byte)
  | eventFrame (record : List Byte)
  | statusFrame (serial active epoch count : Nat)
  | takeoverFrame (oldEpoch newEpoch active reason : Nat)
  | request (port : Nat) (r : Req)
  | reply (port : Nat) (r : Reply)
  | hello (port : Nat) (h : Hello)
  | digest (port : Nat) (digest : List Byte) (epoch level : Nat)
  | leave (port : Nat)
  | resetNotice (port : Nat)
  | timeReq (port t1 : Nat)
  | timeRsp (port t1 t2 t3 : Nat)
  | messageOut (port : Nat) (m : Message)
  | msgDone (port : Nat) (id status : Nat)
  | control (site op : Nat) (body : List Nat)
  | systemTransfer (site : Nat) (value : List Byte)
  | linkControl (src dst : Nat) (content : List Byte)
  | portControl (port : Nat) (krytae nak : Bool) (sack : Nat) (credits : List Nat)
  | guestReply (site : Nat) (r : Reply)
  | capability (site : Nat) (block : List Byte)
deriving DecidableEq, Repr

/-- A fibre port (R262 to R265, R288, R304, R317, R318). -/
structure Port where
  state : PortState := .down
  /-- The state that a retrain returns to. -/
  back : Option PortState := none
  wavelengths : Nat := 16
  light : Bool := false
  /-- Its training runs; and a retrain has ended, so that unanswered requests are due to be sent again (R290). -/
  retraining : Bool := false
  resendDue : Bool := false
  lastHeard : Nat := 0
  retrains : Nat := 0
  everTrained : Bool := false
  changed : Nat := 0
  nextRid : Word32 := 0
  nakSeq : Nat := 0
  naks : Nat := 0
  nextSeq : Nat := 0
  mseqNext : Nat := 0
  mseqAccepted : Nat := 0
  hop : List HopEntry := []
  mismatches : Nat := 0
  digestAt : Nat := 0
  peerUnfenced : Bool := false
  helloAt : Nat := 0
  /-- A LOST port's join is refused, or it must answer a peer's HELLO (R317); and the join that runs began LOST (R295). -/
  helloDue : Bool := false
  lostJoin : Bool := false
  /-- This end has sent a HELLO that the peer has not answered; and a HELLO of the peer that this end has not answered. -/
  asked : Bool := false
  peerHello : Option Hello := none
  /-- What has been sent and not acknowledged, with the SEQ of its head flit and its flits (R191, R264). -/
  replay : List (Nat × Nat × Output) := []
  /-- Flits sent of each VC, and those of them that the peer says it has freed (R195). -/
  spent : SMap Nat := ⟨[]⟩
  credited : SMap Nat := ⟨[]⟩
  /-- What waits for credits, for room in the replay buffer, or for a retrain's end. -/
  waiting : List Output := []
  /-- The SEQ expected next from the peer, the flits of each VC that this end has freed, and the SEQ up to which and the time when it
  last said so. -/
  rxSeq : Nat := 0
  freed : SMap Nat := ⟨[]⟩
  rxReported : Nat := 0
  controlAt : Nat := 0
deriving DecidableEq, Repr

/-- A window (R268): the entry and its stored complement. -/
structure Window where
  entry : BitVec 256 := 0
  complement : BitVec 256 := BitVec.allOnes 256
deriving DecidableEq, Repr

/-- What a request was issued for: to deliver its result at a local address of its cluster, for a CE copy (by the
operation's place in the issue order), for the GE, for a multicast descriptor, for a guest. -/
inductive Purpose where
  | deliver (localAddr : Nat)
  | copyRead (seq done : Nat)
  | copyWrite (seq : Nat)
  | copyTally (seq : Nat)
  | gather (seq localAddr : Nat)
  | geWrite (seq : Nat)
  | increment
  | multicast
  | send (edge : Nat)
  | discard
  | guest (site tag : Nat)
deriving DecidableEq, Repr

/-- One constituent of a request (R281, R282): who issued it, what for, and its own operand. -/
structure Part where
  ctx : Nat
  cluster : Nat
  engine : Nat
  purpose : Purpose
  data : List Byte
  issued : Nat
  address : Nat
deriving DecidableEq, Repr

/-- A request issued through a window and not yet complete (R275, R288 to R294): `req` as translated. -/
structure Outstanding where
  handle : Nat
  window : Nat
  device : Nat
  port : Nat
  req : Req
  rid : Option Word32
  issued : Nat
  sent : Option Nat
  lastRetry : Option Nat
  waitUntil : Option Nat
  frozen : Bool
  parts : List Part
  /-- A LOAD that no other joins any more: a write to its extent has passed since (R281). -/
  closed : Bool := false
deriving DecidableEq, Repr

/-- States of a reply-cache entry (R289). -/
inductive ReplyState where
  | free | pending | replied | expired
deriving DecidableEq, Repr

/-- An entry of a reply cache (R289). -/
structure ReplyEntry where
  state : ReplyState := .free
  rid : Word32 := 0
  reply : Option Reply := none
  at_ : Nat := 0
deriving DecidableEq, Repr

/-- An entry of a line queue: requests combined, first constituent first (R282, R283, R285). -/
structure QueueEntry where
  parts : List Req
  /-- Its place in the order of arrival (R154). -/
  order : Nat := 0
deriving DecidableEq, Repr

/-- An outstanding ticket (R286): issued or last presented at, and a place reserved until. -/
structure TicketHeld where
  ticket : Nat
  at_ : Nat
  reserved : Option Nat
deriving DecidableEq, Repr

/-- A line queue (R285, R286). -/
structure LineQueue where
  entries : List QueueEntry := []
  nextTicket : Nat := 0
  tickets : List TicketHeld := []
deriving DecidableEq, Repr

/-- A LOAD of a peer at its home (R281): when it arrived, LOADs of other peers that joined it, and the data that it
returned, once performed. -/
structure HomeLoad where
  at_ : Nat
  load : Req
  joined : List Req
  result : Option (List Byte)
deriving DecidableEq, Repr

/-- The memory domain as this Dreuth sees it. -/
structure Domain where
  /-- Port map in force: role and peer by port (R262). -/
  portMap : SMap (Nat × Nat) := ⟨[]⟩
  ports : SMap Port := ⟨[]⟩
  /-- Windows, by context * 64 + number; guest windows by (1024 + site) * 64 + number. -/
  windows : SMap Window := ⟨[]⟩
  outstanding : List Outstanding := []
  nextHandle : Nat := 0
  /-- Reply caches, by device * 4096 + entry. -/
  replies : SMap ReplyEntry := ⟨[]⟩
  /-- Requests at their home slice, ready to be performed. -/
  ready : List Req := []
  /-- Line queues, by device offset / 128. -/
  queues : SMap LineQueue := ⟨[]⟩
  /-- Entries that have been queued so far. -/
  arrivals : Nat := 0
  /-- LOADs that arrived within the combining window at home (R281). -/
  homeLoads : List HomeLoad := []
  /-- Domain multicasts waiting at their edge group (R279). -/
  dmc : SMap (List Packet) := ⟨[]⟩
deriving DecidableEq, Repr

/-! ### Messages and agreement (R299 to R325) -/

/-- An open inbox (R308, R309, R313). -/
structure Inbox where
  owner : Nat := 0xFFFF
  base : Nat := 0
  code : Nat := 0
  slots : Nat := 16
  lastValid : Nat := 0
  lastBad : Option Nat := none
deriving DecidableEq, Repr

/-- A message that an origin edge group tracks (R305). -/
structure TrackedMessage where
  ctx : Nat
  ring : Nat
  cluster : Nat
  addr : Nat
  sent : Nat
deriving DecidableEq, Repr

/-- The last digest of a peer (OD 0x8202.01). -/
structure PeerDigest where
  peer : Nat := 0xFF
  epoch : Nat := 0
  level : Nat := 0
  digest : List Byte := List.replicate 32 0
  at_ : Nat := 0
deriving DecidableEq, Repr

/-- A timed doorbell (OD 0x8230.01). -/
structure TimedRow where
  time : Nat := 0
  ctx : Nat := 0
  producer : Nat := 0
  state : Nat := 0
deriving DecidableEq, Repr

/-- Messages and agreement. -/
structure Messages where
  inboxes : SMap Inbox := ⟨[]⟩
  /-- By edge group * 1024 + entry. -/
  tracked : SMap TrackedMessage := ⟨[]⟩
  /-- Messages admitted and on their way to an edge group, by edge group. -/
  toEdge : SMap (List Message) := ⟨[]⟩
  /-- Messages on their way to the tower that holds their inbox, by tower. -/
  toTower : SMap (List Message) := ⟨[]⟩
  routes : List (Nat × Nat × Nat) := []
  peerDigests : SMap PeerDigest := ⟨[]⟩
  digestSent : Nat := 0
  doorbells : SMap TimedRow := ⟨[]⟩
deriving DecidableEq, Repr

/-! ### Dies, stays, guests (R326 to R359) -/

/-- Die states (R338). -/
inductive DieState where
  | ready | fencing | reset | training | shutdown | out
deriving DecidableEq, Repr

/-- A die (R338 to R342, R502). -/
structure Die where
  state : DieState := .ready
  readyEpoch : Nat := 1
  resets : Nat := 0
  changed : Nat := 0
  resetStart : Nat := 0
  /-- By how long a partition change extends the fence's limit (R340 step 4). -/
  fenceExtra : Nat := 0
  abrupt : Bool := false
  /-- A rail fault has reset it, and its rails are not yet back (R502). -/
  railsOut : Bool := false
  /-- Links that it must still agree on (R336), each with whether it now trains at quarter width. -/
  unagreed : List (Nat × Bool) := []
  highestEpoch : Nat := 1
deriving DecidableEq, Repr

/-- A vertical link (R329, R333). `mask` is the quarters, or copies, that hold no retired stay. -/
structure Link where
  width : Nat := 4
  mask : Nat := 15
  spares : Nat := 0
  retired : Nat := 0
  changed : Nat := 0
deriving DecidableEq, Repr

/-- A stay (R329, R331, R332). -/
structure Stay where
  swapped : List Nat := []
  retired : Bool := false
  suspect : Option Nat := none
deriving DecidableEq, Repr

/-- A repair record (R334): a spare that replaces a bond, a retired stay, quarters dropped in width agreement. -/
inductive RepairRecord where
  | swap (link stay bond : Nat)
  | retire (link stay : Nat)
  | narrow (link mask : Nat)
deriving DecidableEq, Repr

/-- A grant holder (R345 to R347, R390). Powers in mW: the hub's side, then the die's. -/
structure Holder where
  grant : Nat := 0
  seq : Nat := 0
  acked : Bool := true
  sentAt : Nat := 0
  /-- Power that lowered grants give up once acknowledged: to the pool (R389), and out of the budget (R387). -/
  freeing : Nat := 0
  cutting : Nat := 0
  /-- The grant that the die obeys, the last SEQ that it accepted, and its use over the last 1 ms. -/
  inForce : Nat := 0
  accepted : Nat := 0
  use_ : Nat := 0
  atFloor : Bool := false
  lastHeard : Nat := 0
deriving DecidableEq, Repr

/-- Guest site states (R349). -/
inductive GuestState where
  | absent | down | training | confined | verifying | admitted | locked
deriving DecidableEq, Repr

/-- A guest site (R348 to R356). -/
structure Guest where
  state : GuestState := .down
  capability : List Byte := []
  bandwidth : Nat := 0
  modules : Nat := 0
  result : Nat := 0
  passes : Nat := 0
  passEpoch : Nat := 0
  refusedBlocks : Nat := 0
  refusedManifests : Nat := 0
  aperture : Nat := 0
  lastRefusalEvent : Option Nat := none
  heldInReset : Bool := false
deriving DecidableEq, Repr

/-- Dies, links and guests. -/
structure Package where
  /-- By die code (R326). -/
  dies : SMap Die := ⟨[]⟩
  /-- Resets waiting for the one that runs: die code, abrupt. -/
  dueResets : List (Nat × Bool) := []
  /-- By link ID (R329). -/
  links : SMap Link := ⟨[]⟩
  /-- By link ID * 256 + stay. -/
  stays : SMap Stay := ⟨[]⟩
  repairQueue : List RepairRecord := []
  /-- By die code; guests by 0x40 + g. -/
  holders : SMap Holder := ⟨[]⟩
  /-- Unused power (R345), mW. -/
  pool : Nat := 0
  /-- Asks that lowered compute dies will meet once they acknowledge (R389): holder, mW still due. -/
  asks : List (Nat × Nat) := []
  /-- Budget reduction accepted and not yet in effect (R387), mW. -/
  budgetPending : Option Nat := none
  guests : SMap Guest := ⟨[]⟩
  /-- Die codes whose wrappers run an internal scan, and those whose scan waits until the bell is RUNG (R469). -/
  scan : List Nat := []
  scanWaiting : List Nat := []
deriving DecidableEq, Repr

/-! ### Clocks and time (R360 to R386) -/

/-- A stretching clock region (R360, R366 to R370, R377). -/
structure Clock where
  /-- MHz at the time `slewAt`: the frequency from which the region slews to `target` (R366). -/
  present : Nat := 1600
  target : Nat := 1600
  limit : Nat := 1600
  managerTarget : Nat := 1800
  cap : Nat := 1600
  idle : Bool := false
  unboundSince : Option Nat := some 0
  stopped : Bool := false
  lastStop : Nat := 0
  /-- The tracked set-point in mV as it stood at a time (R369). -/
  setPoint : Nat := 750
  setAt : Nat := 0
  /-- What has come to a stopped zone (R372, R376): requests, and results for its clusters' memory. The first eight words stand in the
  crossing's FIFO, and the senders of the others wait for credits. -/
  crossing : List Req := []
  landing : List (Part × Nat × List Byte) := []
  /-- Stretched periods in a row, the time of the last one, and of the end of the last run of 16 (R370). -/
  run : Nat := 0
  lastTrip : Nat := 0
  runEnd : Option Nat := none
  /-- When the slew to `target` began (R366). -/
  slewAt : Nat := 0
  holdUntil : Option Nat := none
  held : Option Nat := none
  justRestarted : Bool := false
  copyValid : Bool := true
  stampStopped : Bool := false
  stretched25 : Nat := 0
  stretched50 : Nat := 0
  stretched100 : Nat := 0
  runs : Nat := 0
  stepDowns : Nat := 0
  stops : Nat := 0
deriving DecidableEq, Repr

/-- A die's copy of the count (R380, R381). -/
structure DieCopy where
  difference : Int := 0
  pathDelay : Nat := 0
deriving DecidableEq, Repr

/-- The reference, the clock regions and the time master. -/
structure Clocks where
  /-- Zones by 8 t + z; cache dies by 64 + t; hub halves by 80 + h. -/
  regions : SMap Clock := ⟨[]⟩
  /-- Reference inputs (R362 to R365): good or bad, the one selected, holdover and since when, and the pull to a new one. -/
  good0 : Bool := true
  good1 : Bool := true
  selected : Nat := 0
  freqWarning : Bool := false
  holdover : Bool := false
  lostAt : Nat := 0
  pulling : Bool := false
  copies : SMap DieCopy := ⟨[]⟩
  /-- The time master's count (R379). -/
  count : Nat := 135000000
  /-- Half rate of R322, and the sub-count it needs. -/
  halfRate : Bool := false
  halfPhase : Bool := false
  /-- Counts still to add (positive) or omit (negative) under R322, and the time of the next correction. -/
  slew : Int := 0
  nextSlew : Nat := 0
  fenced : Bool := false
  fencedByCheck : Bool := false
  goodExchanges : Nat := 0
  lastTimeReq : Nat := 0
  goodSyncs : Nat := 0
  lastSync : Nat := 0
  everJoined : Bool := false
deriving DecidableEq, Repr

/-! ### Power and temperature (R387 to R408) -/

/-- Element states (OD 0x2011.01). -/
inductive ThermalState where
  | normal | warning | throttling | shutdown
deriving DecidableEq, Repr

/-- A thermal element (R396 to R403). -/
structure Element where
  centi : Int := 2500
  warned : Bool := false
  latched : Bool := false
  level : Nat := 0
  changed : Nat := 0
  fast : Bool := false
deriving DecidableEq, Repr

/-- A sensor source (R398): status code of OD 0x2010.01, last reading, good since. -/
structure Sensor where
  centi : Int := 2500
  status : Nat := 0
  goodSince : Option Nat := none
deriving DecidableEq, Repr

/-- Power and temperature. -/
structure Thermal where
  /-- By element key: zones 8t+z, cache dies 0x110+t, hub halves 0x130+h, guests 0x140+g, bars 0x160+b, stacks 0x180+k,
  rig 0x100. -/
  elements : SMap Element := ⟨[]⟩
  /-- By element key * 16 + source. -/
  sensors : SMap Sensor := ⟨[]⟩
  /-- Die power level by tower (R394), applied level by zone (R392). -/
  powerLevel : SMap Nat := ⟨[]⟩
  applied : SMap Nat := ⟨[]⟩
  lastPower : SMap (Nat × Nat) := ⟨[]⟩
  supply : SMap Nat := ⟨[]⟩
  inlet : Sensor := {}
  outlet : Sensor := {}
  inletWarning : Bool := false
  outletWarning : Bool := false
  flashCenti : Int := 2500
  attestRefusalRaised : Bool := false
deriving DecidableEq, Repr

/-! ### Control plane (R409 to R438, R484 to R494) -/

/-- Krytae port states (R409). -/
inductive KrytaeState where
  | down | training | up
deriving DecidableEq, Repr

/-- A hub output as the gate passes it (R427): its OSEQ and the epoch it is stamped with. -/
structure Sent where
  oseq : Nat
  epoch : Nat
  frame : Output
deriving DecidableEq, Repr

/-- A Krytae port. -/
structure Krytae where
  state : KrytaeState := .up
  retrains : Nat := 0
  everTrained : Bool := true
  corrected : Nat := 0
  replays : Nat := 0
  changed : Nat := 0
  lastHeard : Nat := 0
  nextSeq : Nat := 0
  /-- What has been sent and not acknowledged, with the SEQ of its head flit and its flits (R191, R410). -/
  replay : List (Nat × Nat × Sent) := []
  /-- Flits sent, those that the control node says it has freed, and what waits for credits, room or a training's end. -/
  spent : Nat := 0
  credited : Nat := 0
  waiting : List Sent := []
  /-- The SEQ expected next, the flits freed, and the SEQ up to which and the time when this end last said so. -/
  rxSeq : Nat := 0
  freed : Nat := 0
  rxReported : Nat := 0
  controlAt : Nat := 0
deriving DecidableEq, Repr

/-- A response as cached (R413): TID, OFFSET for a block chunk, port, status and value. -/
structure Cached where
  tid : Word32
  chunk : Option Nat
  status : Nat
  value : List Byte
deriving DecidableEq, Repr

/-- A BLOCK_WRITE value under assembly (R412). -/
structure BlockRun where
  tid : Word32
  index : Nat
  sub : Nat
  bytes : List Byte
deriving DecidableEq, Repr

/-- Complex states (R428). -/
inductive ComplexState where
  | active | standby | syncing | offline
deriving DecidableEq, Repr

/-- A control complex (R426 to R436). -/
structure Complex where
  state : ComplexState := .active
  selfTest : Nat := 0
  epoch : Nat := 1
  lastInput : Nat := 0
  changed : Nat := 0
  missPrivate : Nat := 0
  missStanding : Nat := 0
  missPrivateRun : Nat := 0
  missStandingRun : Nat := 0
  /-- The last heartbeat was missed on the private link, on the standing plane. -/
  missPrivateNow : Bool := false
  missStandingNow : Bool := false
  resyncStep : Nat := 0
  resyncStart : Nat := 0
  resyncInput : Nat := 0
  restarts : Nat := 0
deriving DecidableEq, Repr

/-- A ring of records (R309 to R313): the event queue and the telemetry ring. Consumer words are in the register
file. -/
structure RecordRing where
  count : Nat := 0
  drops : Nat := 0
  lastDrop : Nat := 0
  slots : SMap (List Byte) := ⟨[]⟩
  lastValid : Nat := 0
  lastBad : Option Nat := none
deriving DecidableEq, Repr

/-- Counts of one event code (OD 0xB022.01). -/
structure EventCount where
  raised : Nat := 0
  heldBack : Nat := 0
  lastRaise : Nat := 0
  lastWritten : Option Nat := none
deriving DecidableEq, Repr

/-- What a forwarded access does (R412, R422). -/
inductive AccessKind where
  | read | write | blockRead
deriving DecidableEq, Repr

/-- A dictionary access forwarded to another die (R422): the transaction, its TYPE (R412), the value that a write carries whole, the chunk that
its response is cached for, and the die's answer. -/
structure Forward where
  transaction : Transaction
  type : Nat
  value : List Byte
  chunk : Option Nat
  answered : Option (Nat × List Byte)
deriving DecidableEq, Repr

/-- The control plane. -/
structure Control where
  krytae : SMap Krytae := ⟨[]⟩
  cache : List Cached := []
  blocks : List BlockRun := []
  forwards : List Forward := []
  /-- Critical entries whose copy fails its complement (R421), by key: bit 0 CX-A's, bit 1 CX-B's. -/
  flaws : SMap Nat := ⟨[]⟩
  /-- The ms of the last STATUS frame (R412). -/
  lastStatus : Nat := 0
  complexes : SMap Complex := ⟨[]⟩
  /-- The gate: command epoch and last OSEQ passed (R427, R431). -/
  epoch : Nat := 1
  lastPassed : Nat := 0
  oseq : Nat := 0
  /-- Input sequencer: inputs numbered so far (R426). -/
  inputs : Nat := 0
  /-- The reason of a failure that is declared and whose takeover has not run (R430, R431). -/
  declared : Option Nat := none
  /-- Outputs formed and not passed: of a control cycle in compatibility mode (R436), or above the last OSEQ passed
  while no active complex speaks (R431). -/
  held : List Sent := []
  events : RecordRing := {}
  eventCounts : SMap EventCount := ⟨[]⟩
  /-- Event delivery table in force: code, action, hold-off (R492); whether it was loaded; time of the last load. -/
  delivery : List (Nat × Nat × Nat) := []
  deliveryLoaded : Bool := false
  deliveryTime : Nat := 0
  /-- Hub outputs that the gate passed, and what port engines and rig units sent, oldest first. -/
  out : List Sent := []
  wire : List Output := []
deriving DecidableEq, Repr

/-! ### Start-up and security (R439 to R460) -/

/-- A leaf reservation record (R457): sequence, ceiling, and whether its complement holds. -/
structure LeafRecord where
  seq : Nat := 0
  ceiling : Nat := 0
  good : Bool := false
deriving DecidableEq, Repr

/-- On-package flash (R444). -/
structure Flash where
  slot0 : List Byte := []
  slot1 : List Byte := []
  preferred : Nat := 0
  /-- IMGVER and SECVER of each slot, and validity. -/
  slots : SMap (Nat × Nat × Bool) := ⟨[]⟩
  firmwareMinimum : Nat := 0
  guestMinimum : SMap Nat := ⟨[]⟩
  leaf0 : LeafRecord := {}
  leaf1 : LeafRecord := {}
  identity : List Byte := []
  endorsement : List Byte := []
  repairLog : List RepairRecord := []
  calibration : SMap Ring := ⟨[]⟩
  calibrationBanks : SMap Bank := ⟨[]⟩
deriving DecidableEq, Repr

/-- Start-up, firmware, measurement and attestation. -/
structure Boot where
  flash : Flash := {}
  /-- Queued background flash writes (R404): firmware minimum, guest minimum. -/
  raiseMinimum : Option Nat := none
  raiseGuest : List (Nat × Nat) := []
  /-- Erase of the identity area that is still due (R451). -/
  eraseIdentity : Bool := false
  token : List Byte := []
  /-- Start requested: cold or warm, and when it is due (R439). -/
  startDue : Option (Bool × Nat) := none
  /-- A cold start that RST_N or a life-cycle transition has begun (R439, R450). -/
  coldDue : Option ColdCause := none
  serviceMode : Bool := false
  halted : Bool := false
  rigLost : Bool := false
  /-- FAULT_N is not driven (R503). -/
  faultN : Bool := true
  measure : List Byte := List.replicate 32 0
  log : List (List Byte) := []
  logFull : Bool := false
  nonce : Option (List Byte) := none
  leaf : Nat := 0
  leavesUnusable : Bool := false
  lastCalibrationCopy : Nat := 0
deriving DecidableEq, Repr

/-! ### Debug (R461 to R483) -/

/-- Bell states (R461). -/
inductive BellState where
  | clear | ringing | rung | releasing
deriving DecidableEq, Repr

/-- A slate (R470): entries written, and the last 256, oldest first. -/
structure Slate where
  written : Nat := 0
  entries : List (List Byte) := []
deriving DecidableEq, Repr

/-- A row of the trigger table (R472). -/
structure Trigger where
  state : Nat := 0
  mask : Nat := 0
  unit : Nat := 0
  code : Nat := 0
  ctx : Nat := 0
  layer : Nat := 0
  operator : Nat := 0
  step : Nat := 0
  count : Nat := 0
  seen : Nat := 0
deriving DecidableEq, Repr

/-- A row of the dump table (R475). -/
structure DumpRow where
  enable : Bool := false
  ctx : Nat := 0
  mask : Nat := 0
  layer : Nat := 0
  operator : Nat := 0
  step : Nat := 0
  atEnd : Bool := false
  member : Nat := 0xFFFF
  deviceSource : Bool := false
  source : Nat := 0
  length : Nat := 0
  tag : Nat := 0
  fmt : Nat := 0
  dims : List Nat := []
  remaining : Nat := 0
  exhausted : Bool := false
deriving DecidableEq, Repr

/-- A row of the sample list (R481). -/
structure SampleRow where
  unit : Nat
  counter : Nat
  perCmd : Bool
  interval : Nat
deriving DecidableEq, Repr

/-- The debug block. -/
structure Debug where
  bell : BellState := .clear
  bellStart : Nat := 0
  /-- Requests for cluster memory that the bell holds (R462), in arrival order. -/
  held : List Req := []
  /-- By unit code (R470). -/
  slates : SMap Slate := ⟨[]⟩
  masks : SMap Nat := ⟨[]⟩
  triggers : SMap Trigger := ⟨[]⟩
  dumps : SMap DumpRow := ⟨[]⟩
  dumpSeq : Nat := 0
  dumpSkipRaised : Bool := false
  /-- What the last scan-out moved to hub memory, and its transaction status (R468). -/
  scanStatus : Nat := 0
  scanData : List Byte := []
  samples : Option (List SampleRow) := none
  telemetry : RecordRing := {}
  lastSample : SMap Nat := ⟨[]⟩
deriving DecidableEq, Repr

/-! ### The whole -/

/-- The state of the block. `pending` is the queue of commands that wait, first in first out. -/
structure State where
  pending : List Instr := []
  fuses : Fuses := {}
  /-- Scalar dictionary entries in force, by index * 256 + subindex; an unlisted one holds its default (R420). -/
  regs : SMap Nat := ⟨[]⟩
  /-- Shadows of scalar RL entries (R419, R420). -/
  shadows : SMap Nat := ⟨[]⟩
  /-- BLOB and TABLE values that software wrote, and their shadows. -/
  blobs : SMap (List Byte) := ⟨[]⟩
  blobShadows : SMap (List Byte) := ⟨[]⟩
  /-- Clusters that context 0 needs for its work (R138). -/
  hubNeeds : List Nat := []
  /-- Commits that are accepted and not yet applied, by block (R420). -/
  commits : List Nat := []
  /-- Stochastic seeds in force (R103), by context; unlisted: the context's number. -/
  seeds : SMap Word64 := ⟨[]⟩
  /-- The loader's accepted load that waits (R88): context, kind, number, payload. -/
  load : Option (Nat × Nat × Nat × List Byte) := none
  clusters : SMap Cluster := ⟨[]⟩
  ctxs : SMap Ctx := ⟨[]⟩
  memory : Memory := {}
  rig : Rig := {}
  coll : Collectives := {}
  photonics : Photonics := {}
  domain : Domain := {}
  messages : Messages := {}
  package : Package := {}
  clocks : Clocks := {}
  thermal : Thermal := {}
  control : Control := {}
  boot : Boot := {}
  dbg : Debug := {}
  /-- The model's own: how many free values have been asked for (Config.freeByte, Config.freeWord). -/
  freeCount : Nat := 0
deriving DecidableEq, Repr

/-- Faults: reasons why the block stops. No command of this block stops it: every fault of the spec is an effect. -/
inductive Fault where
  /-- Raised by no command. Kept so that a reason exists should a repair need one; safe. -/
  | stuck
deriving DecidableEq, Repr

/-- Refusals. -/
inductive Refusal where
  /-- Raised by an arm of `exec` whose command has no meaning yet; safe: nothing can be proved of it. -/
  | notModelled (mnemonic : String)
deriving DecidableEq, Repr

/-- The record of the start-complete event 0x1B01 (R441 step 10, R424, R493) of a cold start from power-on that took
135 ms: start type 2, no element out of service. It is output 0 and record 0. -/
def State.startRecord : List Byte :=
  recordHeader 3 1 224 0 0 0 0xFFFF 135000000 135000000 ++
  eventBody 0x1B01 0x30 0 1 0 0 0 0 (leBytes 1 2 ++ leBytes 4 135000)

/-- The machine right after reset: the state at start-complete of a cold start (R441 step 10). Every field holds the
value that the spec gives it there; the values that the spec leaves open are those of log entries 1, 2 and 3. -/
def State.reset : State :=
  { clocks := { count := 135000000 }
    control :=
      { oseq := 1
        lastPassed := 0
        complexes := ⟨[(0, { state := .active }), (1, { state := .standby })]⟩
        events := { count := 1, slots := ⟨[(0, State.startRecord)]⟩ }
        eventCounts := ⟨[(0x1B01, { raised := 1, lastRaise := 135000000, lastWritten := some 135000000 })]⟩
        out := [{ oseq := 0, epoch := 1, frame := .eventFrame State.startRecord }] }
    boot :=
      { flash :=
          { slot0 := Config.factoryImage
            slots := ⟨[(0, (field Config.factoryImage 8 4, field Config.factoryImage 12 4, true))]⟩
            identity := Config.identitySeed 0
            leaf1 := { seq := 1, ceiling := 64, good := true } }
        measure := Config.startMeasure
        log := Config.startLog
        leaf := 64 }
    package := { dies := ⟨[(0x40, { state := .reset, readyEpoch := 0 }), (0x41, { state := .reset, readyEpoch := 0 })]⟩ }
    dbg :=
      { slates := ⟨[(0x3000, { written := 1, entries := [slateEntry 135000000 0x3000 0x1B01 0xFFFF 0 0 0 0
        (leBytes 1 2 ++ leBytes 4 135000)] })]⟩ } }

end Sys2Proof.Machine
end

