-- ==== Sys2Proof/Machine/Ops.lean ====
section
/-! DEFINITION. The shared operations over State: the register file, table access, free values, hub outputs, slates
and events. -/

namespace Sys2Proof

/-- Change the value of key `k`, whose default is `d`. -/
def SMap.modify {α : Type} (d : α) (m : SMap α) (k : Nat) (f : α → α) : SMap α := m.set k (f (m.get d k))

/-- The sum of `f` over a list. -/
def sumOf {α : Type} (f : α → Nat) : List α → Nat
  | [] => 0
  | a :: l => f a + sumOf f l

/-- The entry at position `n` of a list replaced. -/
def setAt {α : Type} (n : Nat) (v : α) (l : List α) : List α := l.set n v

/-- The list without the entry at position `n`. -/
def dropAt {α : Type} (n : Nat) (l : List α) : List α := l.take n ++ l.drop (n + 1)

end Sys2Proof

namespace Sys2Proof.Machine

/-- What a command answers. -/
abbrev Result := Host.Outcome State Fault Refusal

/-! ### The register file (R416 to R420) -/

/-- Default of each scalar entry whose default is not zero, by index * 256 + subindex (the chapters' entry tables). -/
def odDefaults : List (Nat × Nat) :=
  [(0x100205, 2), (0x100203, 135000), (0x100204, 10), (0x410001, 1), (0x411101, 1000000),
   (0x411102, 100), (0x402203, 2000), (0x430007, 100), (0x502001, 86400), (0x503205, 0xFFFF), (0x600001, 800),
   (0x801001, 25), (0x801002, 100), (0x801003, 128), (0x801004, 256), (0x810001, 1), (0x820003, 3), (0x831001, 10000),
   (0x831002, 5000), (0x840002, 0xFFFF), (0x840005, 16), (0xA01002, 1), (0xA04002, 0x000B067F), (0x100202, 2),
   (0x600002, 4), (0x601005, 1000), (0x500001, 6291456), (0x500002, 618475290624), (0x500003, 6400), (0x420003, 0x3F800000),
   (0x430001, 93984), (0x101103, 250), (0x302002, 1024), (0xB02007, 8192), (0x100301, 1)]

/-- The default of a scalar entry (R420): zero unless its chapter's table says otherwise. -/
def odDefault (k : Nat) : Nat := (odDefaults.lookup k).getD 0

/-- The value in force of a scalar entry, by index * 256 + subindex. -/
def State.reg (s : State) (k : Nat) : Nat := s.regs.get (odDefault k) k

/-- Write a scalar entry. -/
def State.setReg (s : State) (k v : Nat) : State := { s with regs := s.regs.set k v }

/-- Add to a counting entry, which stops at its largest value of `w` bits (R8). -/
def State.countReg (s : State) (k w n : Nat) : State := s.setReg k (satAdd w (s.reg k) n)

/-- A party comes into a metered condition. -/
def Meter.start (m : Meter) (k now : Nat) : Meter :=
  if m.who.contains k then m else { who := m.who ++ [k], since := if m.who = [] then now else m.since }

/-- A party leaves it. -/
def Meter.stop (m : Meter) (k : Nat) : Meter := { m with who := m.who.erase k }

/-- The time since there has been a party in it. -/
def Meter.elapsed (m : Meter) (now : Nat) : Nat := if m.who = [] then 0 else now - m.since

/-- The shadow of a scalar RL entry (R419): it equals the value in force until it is written. -/
def State.shadow (s : State) (k : Nat) : Nat := s.shadows.get (s.reg k) k

/-- Write the shadow of a scalar RL entry (R420: never the value in force). -/
def State.setShadow (s : State) (k v : Nat) : State := { s with shadows := s.shadows.set k v }

/-- Put shadows in force: an accepted commit (R420). -/
def State.commitRegs (s : State) (ks : List Nat) : State :=
  ks.foldl (fun s k => s.setReg k (s.shadow k)) s

/-- A BLOB or TABLE value that software wrote. -/
def State.blob (s : State) (k : Nat) : List Byte := s.blobs.get [] k

/-- Write a BLOB or TABLE value. -/
def State.setBlob (s : State) (k : Nat) (v : List Byte) : State := { s with blobs := s.blobs.set k v }

/-- The shadow of a BLOB or TABLE value. -/
def State.blobShadow (s : State) (k : Nat) : List Byte := s.blobShadows.get (s.blob k) k

/-- Write the shadow of a BLOB or TABLE value. -/
def State.setBlobShadow (s : State) (k : Nat) (v : List Byte) : State :=
  { s with blobShadows := s.blobShadows.set k v }

/-- Whether a block's commit is accepted and still pending (R420). -/
def State.commitPending (s : State) (block : Nat) : Bool := s.commits.contains block

/-- Mark a block's commit as pending, or as ended. -/
def State.setCommitPending (s : State) (block : Nat) (p : Bool) : State :=
  { s with commits := if p then block :: s.commits.erase block else s.commits.erase block }

/-! ### Time (R379) -/

/-- Global time: the time master's count, in ns. -/
def State.now (s : State) : Nat := s.clocks.count

/-- A time-stamp that unit `unit` takes (R382, R384): the count, FENCED in bit 62, and STOPPED in bit 63 for a cluster
whose zone has not passed a sync word since it stopped (R383). -/
def State.stampAt (s : State) (unit : Nat) : Nat :=
  s.clocks.count + (if s.clocks.fenced then 2 ^ 62 else 0) +
    (if unit < 800 && (s.clocks.regions.get {} (8 * (unit / 200) + 4 * (unit / 100 % 2) + 2 * (unit / 10 % 10 / 5) +
      unit % 10 / 5)).stampStopped then 2 ^ 63 else 0)

/-- A time-stamp of the hub. -/
def State.stamp (s : State) : Nat := s.stampAt 0x3000

/-- One count of the time master (R379, R322). At half rate two ns of the reference make one count; a slew of R322
adds or omits one count at most once in 5,000 counts. Without the rig nothing counts (R29). -/
def State.tick (s : State) : State :=
  let k := s.clocks
  if s.boot.rigLost then s
  else if k.halfRate && !k.halfPhase then { s with clocks := { k with halfPhase := true } }
  else
    let k := { k with halfPhase := false }
    if k.slew ≠ 0 && k.nextSlew ≤ k.count then
      if 0 < k.slew then
        { s with clocks := { k with count := k.count + 2, slew := k.slew - 1, nextSlew := k.count + 5000 } }
      else { s with clocks := { k with slew := k.slew + 1, nextSlew := k.count + 5000 } }
    else { s with clocks := { k with count := k.count + 1 } }

/-! ### Free values -/

/-- A free byte: what the spec leaves open. -/
def State.freeByte (s : State) : Byte × State := (Config.freeByte s.freeCount, { s with freeCount := s.freeCount + 1 })

/-- A free word. -/
def State.freeWord (s : State) : Word64 × State := (Config.freeWord s.freeCount, { s with freeCount := s.freeCount + 1 })

/-- `n` free bytes. -/
def State.freeBytes (s : State) : Nat → List Byte × State
  | 0 => ([], s)
  | n + 1 =>
    let (b, s1) := s.freeByte
    let (l, s2) := s1.freeBytes n
    (b :: l, s2)

/-- The quotient of two integers where the spec states no rounding: exact when it is exact, else the integer below or
above it, and a free value says which. -/
def State.divFree (s : State) (a : Int) (b : Nat) : Int × State :=
  let q := a.fdiv b
  if a.fmod b = 0 then (q, s)
  else
    let (w, s1) := s.freeWord
    (if w.getLsbD 0 then q + 1 else q, s1)

/-! ### Life cycle (R449, R450) -/

/-- The state of one fuse copy: the highest bit set; 0 MANUFACTURE, 1 PROVISIONED, 2 FIELD, 3 RETURN, 4 END. -/
def lifeCode (c : BitVec 4) : Nat :=
  if c.getLsbD 3 then 4 else if c.getLsbD 2 then 3 else if c.getLsbD 1 then 2 else if c.getLsbD 0 then 1 else 0

/-- The life-cycle state: that of the more advanced copy. -/
def State.lifeCycle (s : State) : Nat := Nat.max (lifeCode s.fuses.lifeCopy0) (lifeCode s.fuses.lifeCopy1)

/-! ### Clusters and contexts -/

/-- Cluster `c`. -/
def State.cluster (s : State) (c : Nat) : Cluster := s.clusters.get {} c

/-- Change cluster `c`. -/
def State.modCluster (s : State) (c : Nat) (f : Cluster → Cluster) : State :=
  { s with clusters := s.clusters.modify {} c f }

/-- The state-image part of cluster `c` (R74). -/
def State.core (s : State) (c : Nat) : Core := (s.cluster c).core

/-- Change the state-image part of cluster `c`. -/
def State.modCore (s : State) (c : Nat) (f : Core → Core) : State :=
  s.modCluster c fun k => { k with core := f k.core }

/-- Context `x`. -/
def State.ctx (s : State) (x : Nat) : Ctx := s.ctxs.get {} x

/-- Change context `x`. -/
def State.modCtx (s : State) (x : Nat) (f : Ctx → Ctx) : State := { s with ctxs := s.ctxs.modify {} x f }

/-- The IDs of the command that cluster `c` executes, or executed last, zero if none (R132). -/
def State.idsOf (s : State) (c : Nat) : Ids := (s.cluster c).ids

/-- Add to counter `id` of a cluster, both copies, where the counter runs and saturating at its width (R478). -/
def Cluster.count (k : Cluster) (runs : Bool) (id w n : Nat) : Cluster :=
  if runs then
    { k with counters := k.counters.modify 0 id (satAdd w · n), perCmd := k.perCmd.modify 0 id (satAdd w · n) }
  else k

/-- Whether counter `id` runs (R478): bit r - 1 of OD 0xA040.02 for row r of R75, bit 16 + r - 1 for row r of R109;
the always-on bits read 1. -/
def State.counterRuns (s : State) (id : Nat) : Bool :=
  let row := bitsOf id 7 4
  Nat.testBit (s.reg 0xA04002) (if id < 0x200 then row else 16 + row)

/-- Count at cluster `c` (R75, R109, R478). -/
def State.bump (s : State) (c id w n : Nat) : State := s.modCluster c fun k => k.count (s.counterRuns id) id w n

/-- Whether the bell stops the units of R462: from the ring until the release reaches them (R464, R465). -/
def State.belled (s : State) : Bool := s.dbg.bell = .ringing || s.dbg.bell = .rung

/-! ### Reported values -/

/-- A quotient as an entry reports it: whole, or rounded as the hub rounds it. -/
def quotient (a : Int) (b : Nat) : Int := if a.fmod b = 0 then a.fdiv b else if Config.roundsUp a b then a.fdiv b + 1 else a.fdiv b

/-- The bit of a flag. -/
def bitAt (n : Nat) (b : Bool) : Nat := if b then 2 ^ n else 0

/-- One row for each number below `n`. -/
def rowsFor (n : Nat) (f : Nat → List Byte) : List Byte := (List.range n).flatMap f

/-! ### Hub outputs (R427, R431, R436) -/

/-- Whether a complex with code `k` (0 CX-A, 1 CX-B) speaks: ACTIVE with its hub half READY (R428, R338). -/
def State.complex (s : State) (k : Nat) : Complex :=
  s.control.complexes.get { state := if k = 0 then .active else .standby } k

/-- The complex that is ACTIVE under the epoch that the gate holds, if any (R431, R434). -/
def State.activeComplex (s : State) : Option Nat :=
  if (s.complex 0).state = .active && (s.complex 0).epoch = s.control.epoch then some 0
  else if (s.complex 1).state = .active && (s.complex 1).epoch = s.control.epoch then some 1 else none

/-- Die `d` (R326). -/
def State.die (s : State) (d : Nat) : Die := s.package.dies.get {} d

/-- Change die `d`. -/
def State.modDie (s : State) (d : Nat) (f : Die → Die) : State :=
  { s with package := { s.package with dies := s.package.dies.modify {} d f } }

/-- Whether tower `t` is in service: its cache die is READY (R338, R340). -/
def State.towerServes (s : State) (t : Nat) : Bool := (s.die (0x10 + t)).state = .ready

/-- Whether the active complex runs: its half is READY and the hub is not halted. -/
def State.hubSpeaks (s : State) : Bool :=
  match s.activeComplex with
  | none => false
  | some k => (s.die (0x30 + k)).state = .ready && !s.boot.halted && (s.complex k).selfTest = 0

/-- Compatibility mode in force (R436). -/
def State.compatMode (s : State) : Bool := s.reg 0xB00001 = 1

/-! ### Krytae ports (R409 to R411) -/

/-- Krytae port `k`: 0 KP-A, 1 KP-B. -/
def State.krytae (s : State) (k : Nat) : Krytae := s.control.krytae.get {} k

/-- Change a Krytae port. -/
def State.modKrytae (s : State) (k : Nat) (f : Krytae → Krytae) : State :=
  { s with control := { s.control with krytae := s.control.krytae.modify {} k f } }

/-- The Krytae ports that a frame leaves on (R413). -/
def framePorts : Output → List Nat
  | .response p _ _ _ _ => [p]
  | .eventFrame _ => [0, 1]
  | .statusFrame _ _ _ _ => [0, 1]
  | .takeoverFrame _ _ _ _ => [0, 1]
  | _ => []

/-- The data flits of a frame (R411): for a value of more than 64 bytes, and for an event record. -/
def frameDataFlits : Output → Nat
  | .response _ _ _ _ v => if v.length ≤ 64 then 0 else ceilDiv v.length 128
  | .eventFrame r => ceilDiv r.length 128
  | _ => 0

/-- Whether a port can send `n` flits now (R191, R410): it is UP, its replay buffer of 1,024 flits has room, and so do the 256 flits
of its credits. -/
def Krytae.room (k : Krytae) (n : Nat) : Bool :=
  k.state = .up && sumOf (fun e => e.2.1) k.replay + n ≤ 1024 && (k.spent + 65536 - k.credited % 65536) % 65536 + n ≤ 256

/-- A port sends a frame (R410): it takes the next SEQs and is kept for replay; without room it waits, in order. A port that is DOWN
sends nothing. -/
def Krytae.send (k : Krytae) (f : Sent) : Krytae :=
  let n := 1 + frameDataFlits f.frame
  if k.state = .down then k
  else if k.waiting = [] && k.room n then
    { k with
      nextSeq := (k.nextSeq + n) % 65536
      spent := (k.spent + n) % 65536
      replay := k.replay ++ [(k.nextSeq, n, f)] }
  else { k with waiting := k.waiting ++ [f] }

/-- What waited goes as far as there is room. -/
def Krytae.drain (k : Krytae) : Krytae := k.waiting.foldl Krytae.send { k with waiting := [] }

/-- A frame that the gate passes goes to the ports it leaves on. -/
def State.toPorts (s : State) (f : Sent) : State :=
  (framePorts f.frame).foldl (fun s k => s.modKrytae k fun p => p.send f) s

/-- A request of `n` flits has arrived on a Krytae port (R191, R410): its SEQs are received, its credits go back. -/
def State.heardKrytae (s : State) (k n : Nat) : State :=
  s.modKrytae k fun p =>
    { p with lastHeard := s.now, rxSeq := (p.rxSeq + n) % 65536, freed := (p.freed + n) % 65536 }

/-- A hub output (R427): it takes the next OSEQ. The gate passes it at once, stamped with the epoch it holds; in
compatibility mode, and while no active complex runs, it is held. -/
def State.emit (s : State) (o : Output) : State :=
  let c := s.control
  let f : Sent := { oseq := c.oseq, epoch := c.epoch, frame := o }
  if s.hubSpeaks && !s.compatMode then
    ({ s with control := { c with oseq := c.oseq + 1, lastPassed := c.oseq, out := c.out ++ [f] } } : State).toPorts f
  else { s with control := { c with oseq := c.oseq + 1, held := c.held ++ [f] } }

/-- The default port map (R263): port p, for p up to 46, serves peer p + 1; the others are unused. -/
def defaultPort (p : Nat) : Nat × Nat := if p ≤ 46 then (1, p + 1) else (0, 0xFF)

/-- Role and peer of a port in the map in force. -/
def State.portRole (s : State) (p : Nat) : Nat × Nat := s.domain.portMap.get (defaultPort p) p

/-- Port `p`. -/
def State.port (s : State) (p : Nat) : Port := s.domain.ports.get {} p

/-- Change port `p`. -/
def State.modPort (s : State) (p : Nat) (f : Port → Port) : State :=
  { s with domain := { s.domain with ports := s.domain.ports.modify {} p f } }

/-- Flits of a packet with `n` bytes of payload in data flits (R186). -/
def flitsOf (n : Nat) : Nat := 1 + ceilDiv n 128

/-- The fibre port that a packet leaves on, its VC (R187), and its flits (R183, R186): a head flit, and data flits of 128 bytes for
what does not travel in IMM. -/
def portFlits : Output → Option (Nat × Nat × Nat)
  | .request p r => some (p, if r.op = 0x60 then (3, flitsOf r.data.length) else (1, 1))
  | .reply p r => some (p, 2, if r.op = 0x40 then flitsOf r.rsp.data.length else 1)
  | .hello p _ => some (p, 4, 1)
  | .digest p _ _ _ => some (p, 4, 1)
  | .leave p => some (p, 4, 1)
  | .resetNotice p => some (p, 4, 1)
  | .timeReq p _ => some (p, 4, 1)
  | .timeRsp p _ _ _ => some (p, 4, 1)
  | .messageOut p m => some (p, 4, flitsOf m.payload.length)
  | .msgDone p _ _ => some (p, 4, 1)
  | _ => none

/-- The flits of credit that a port grants its peer on a VC (R264, R299); responses have their space reserved (R196). -/
def portCredit : Nat → Option Nat
  | 0 => some 64
  | 1 => some 2048
  | 3 => some 4096
  | 4 => some 1024
  | _ => none

/-- Whether a port can send `n` flits of a VC now (R191, R195, R264): it is trained, its replay buffer of 4,096 flits has room, and
credits are there. On a message link 16 of the credits are kept for opcodes with a head flit only (R299). -/
def State.portRoom (s : State) (p vc n : Nat) : Bool :=
  let k := s.port p
  let kept := if (s.portRole p).1 = 2 && n ≠ 1 then 16 else 0
  let used := (k.spent.get 0 vc + 65536 - k.credited.get 0 vc % 65536) % 65536
  !k.retraining && k.state ≠ .training && sumOf (fun e => e.2.1) k.replay + n ≤ 4096 &&
    (match portCredit vc with | some limit => decide (used + n + kept ≤ limit) | none => true)

/-- Whether an output can leave now: on its port nothing of its VC waits before it. -/
def State.sends (s : State) (o : Output) : Bool :=
  match portFlits o with
  | none => true
  | some (p, vc, n) =>
    s.portRoom p vc n && !((s.port p).waiting.any fun w => match portFlits w with | some (_, v, _) => v = vc | none => false)

/-- What a port engine or a rig unit sends. A packet on a fibre port takes the port's next SEQs and is kept for replay; one that has
no room waits (R264). A port that is DOWN sends nothing. -/
def State.wire (s : State) (o : Output) : State :=
  let sent := { s with control := { s.control with wire := s.control.wire ++ [o] } }
  match portFlits o with
  | some (p, vc, n) =>
    if (s.port p).state = .down then s
    else if s.sends o then
      sent.modPort p fun k =>
        { k with
          nextSeq := (k.nextSeq + n) % 65536
          spent := k.spent.set vc ((k.spent.get 0 vc + n) % 65536)
          replay := k.replay ++ [(k.nextSeq, n, o)] }
    else s.modPort p fun k => { k with waiting := k.waiting ++ [o] }
  | none => sent

/-- What waited at a port goes as far as there is room (R264). -/
def State.drainPort (s : State) (p : Nat) : State :=
  (s.port p).waiting.foldl (fun s o => s.wire o) (s.modPort p fun k => { k with waiting := [] })

/-- A packet of `n` flits has arrived on a port and left its buffer: its SEQs are received, its credits go back (R191, R195). -/
def State.heard (s : State) (p vc n : Nat) : State :=
  s.modPort p fun k => { k with rxSeq := (k.rxSeq + n) % 65536, freed := k.freed.set vc ((k.freed.get 0 vc + n) % 65536) }

/-- This end's link control flit on a port (R189, R191, R264). -/
def State.sendPortControl (s : State) (p : Nat) (nak : Bool) : State :=
  let k := s.port p
  (s.wire (.portControl p false nak (if nak then k.rxSeq else (k.rxSeq + 65535) % 65536)
    ((List.range 6).map fun vc => k.freed.get 0 vc))).modPort p fun q => { q with rxReported := k.rxSeq, controlAt := s.now }

/-- This end's link control flit on a Krytae port (R189, R191, R410): CREDIT0 is its one count. -/
def State.sendKrytaeControl (s : State) (k : Nat) (nak : Bool) : State :=
  let p := s.krytae k
  (s.wire (.portControl k true nak (if nak then p.rxSeq else (p.rxSeq + 65535) % 65536) [p.freed])).modKrytae k fun q =>
    { q with rxReported := p.rxSeq, controlAt := s.now }

/-! ### Slates (R470 to R472) -/

/-- Whether an armed trigger row matches an entry (R472). -/
def Trigger.fits (t : Trigger) (unit code ctx layer operator step : Nat) : Bool :=
  (!Nat.testBit t.mask 0 || t.unit = unit) && (!Nat.testBit t.mask 1 || t.code = code) &&
  (!Nat.testBit t.mask 2 || t.ctx = ctx) && (!Nat.testBit t.mask 3 || t.layer = layer) &&
  (!Nat.testBit t.mask 4 || t.operator = operator) && (!Nat.testBit t.mask 5 || t.step = step)

/-- Write an entry to a unit's slate, a ring of its last 256 (R470, R471), and count it at the armed trigger rows
(R472). -/
def State.slate (s : State) (unit code ctx : Nat) (ids : Ids) (detail : List Byte) : State :=
  let d := s.dbg
  let sl := d.slates.get {} unit
  let e := slateEntry (s.stampAt unit) unit code ctx (sl.written % 65536) ids.layer ids.operator ids.step detail
  let l := sl.entries ++ [e]
  let sl' : Slate := { written := sl.written + 1, entries := if l.length > 256 then l.drop 1 else l }
  let trig := d.triggers.mapVals fun _ t =>
    if t.state = 1 && t.fits unit code ctx ids.layer ids.operator ids.step then { t with seen := t.seen + 1 } else t
  { s with dbg := { d with slates := d.slates.set unit sl', triggers := trig } }

/-- The mask bit of a slate-only code (R472). -/
def slateMaskBit (code : Nat) : Nat :=
  if code ≤ 0xF002 then 1 else if code = 0xF003 then 2 else if code = 0xF004 then 3
  else if code ≤ 0xF006 then 4 else if code = 0xF007 then 5 else if code ≤ 0xF009 then 6 else 7

/-- A slate-only record: written where the mask of the unit's kind has its bit (R472). -/
def State.slateOnly (s : State) (unit code ctx : Nat) (ids : Ids) (detail : List Byte) : State :=
  if Nat.testBit (s.dbg.masks.get 0xE3 (unit / 4096)) (slateMaskBit code) then s.slate unit code ctx ids detail else s

/-! ### Events (R424, R425, R492 to R494) -/

/-- The severity of an event code (R493); codes 0x1409 and 0x1A04 name theirs when raised. -/
def eventSeverity (code : Nat) : Nat :=
  if [0x1202, 0x1902, 0x1B03, 0x1B04].contains code then 3
  else if [0x1001, 0x1002, 0x1101, 0x1201, 0x1404, 0x1407, 0x1501, 0x1603, 0x1604, 0x1705, 0x1706, 0x1A01, 0x1A02,
    0x1A03, 0x1B02].contains code then 2
  else if [0x1203, 0x1304, 0x1402, 0x1403, 0x1405, 0x1602, 0x1704, 0x1A04, 0x1B01].contains code then 0
  else 1

/-- The event codes of R493. -/
def eventCodes : List Nat :=
  [0x1001, 0x1002, 0x1003, 0x1101, 0x1201, 0x1202, 0x1203, 0x1301, 0x1302, 0x1303, 0x1304, 0x1305, 0x1401, 0x1402,
   0x1403, 0x1404, 0x1405, 0x1406, 0x1407, 0x1408, 0x1409, 0x140A, 0x1501, 0x1601, 0x1602, 0x1603, 0x1604, 0x1605,
   0x1606, 0x1701, 0x1702, 0x1703, 0x1704, 0x1705, 0x1706, 0x1707, 0x1801, 0x1802, 0x1803, 0x1804, 0x1901, 0x1902,
   0x1903, 0x1904, 0x1905, 0x1A01, 0x1A02, 0x1A03, 0x1A04, 0x1B01, 0x1B02, 0x1B03, 0x1B04, 0x1C01, 0x1C02]

/-- The count of records not yet released, and the RELEASED value used, under the check of R313: a value above COUNT,
more than N behind it, or lower than the last valid value is invalid, and the last valid one is used. -/
def RecordRing.released (r : RecordRing) (n released : Nat) : Bool × Nat :=
  let valid := released ≤ r.count && r.count - released ≤ n && r.lastValid ≤ released
  (valid, if valid then released else r.lastValid)

/-- Read RELEASED (R313): the first read of an invalid value counts it in OD 0x8310.06; the flag says that event
0x1601 is due. -/
def RecordRing.readReleased (r : RecordRing) (n released : Nat) : Bool × Nat × RecordRing :=
  let (valid, h) := r.released n released
  if valid then (false, h, { r with lastValid := h, lastBad := none })
  else if r.lastBad = some released then (false, h, r)
  else (true, h, { r with lastBad := some released })

/-- Write a record to a ring of `n` slots under R311 with RELEASED `released`: the record if room remains, a gap marker
in the last slot, or a count in the newest gap marker. The flag says whether the record itself was written. -/
def RecordRing.put (r : RecordRing) (n released now : Nat) (record : List Byte) : Bool × RecordRing :=
  let h := r.count - released
  if h + 1 < n then (true, { r with count := r.count + 1, slots := r.slots.set (r.count % n) (padTo 256 record) })
  else
    let dropped := { r with drops := r.drops + 1, lastDrop := now }
    if h + 1 = n then
      (false, { dropped with
        count := r.count + 1, slots := r.slots.set (r.count % n) (padTo 256 (gapMarker now 1)) })
    else
      let k := (r.count - 1) % n
      let old := r.slots.get [] k
      (false, { dropped with slots := r.slots.set k (padTo 256 (gapMarker (field old 16 8) (field old 24 8 + 1))) })

/-- This Dreuth's device ID (OD 0x8000.01) and domain ID (OD 0x8200.01). -/
def State.deviceId (s : State) : Nat := s.reg 0x800001
def State.domainId (s : State) : Nat := s.reg 0x820001

/-- The row of the event delivery table for a code (R492): action and hold-off in µs. -/
def State.deliveryRow (s : State) (code : Nat) : Nat × Nat :=
  (((s.control.delivery.find? fun r => r.1 = code).map (·.2))).getD (0, 0)

/-- Write an event record that its code's delivery action lets through to the event queue (R424, R425, R427): it takes
an OSEQ, and goes out as an EVENT frame with action 0. A record that R311 drops takes none. -/
def State.queueEvent (s : State) (e : EventIn) (action : Nat) : State :=
  let c := s.control
  let (bad, rel, ring) := c.events.readReleased 8192 (s.reg 0xB02006)
  let s1 := if bad then s.countReg 0x831006 32 1 else s
  let record := recordHeader 3 1 224 s.domainId s.deviceId 0 e.ctx e.stamp s.stamp ++
    eventBody e.code e.die e.severity c.epoch c.oseq e.layer e.operator e.step (e.detail.take 192)
  let (written, ring') := ring.put 8192 rel s.stamp record
  let s2 := { s1 with control := { c with events := ring' } }
  if !written then s2
  else if action = 0 then s2.emit (.eventFrame record)
  else { s2 with control := { s2.control with oseq := s2.control.oseq + 1 } }

/-- An event that reaches the hub, less its slate entry (R424, R492): counted, held back inside its hold-off, and
otherwise delivered by its action. -/
def State.deliverEvent (s : State) (e : EventIn) : State :=
  let c := s.control
  let (action, holdOff) := s.deliveryRow e.code
  let n := c.eventCounts.get {} e.code
  let raised := { n with raised := n.raised + 1, lastRaise := s.now }
  let within := match n.lastWritten with
    | some t => holdOff ≠ 0 && s.now < t + 1000 * holdOff
    | none => false
  if action = 2 then { s with control := { c with eventCounts := c.eventCounts.set e.code raised } }
  else if within then
    { s with control := { c with eventCounts := c.eventCounts.set e.code { raised with heldBack := n.heldBack + 1 } } }
  else
    { s with control := { c with
        eventCounts := c.eventCounts.set e.code { raised with lastWritten := some s.now } } }.queueEvent e action

/-- An event as its unit forms it (R424), stamped with the time. -/
def State.mkEvent (s : State) (code sev die unit ctx : Nat) (ids : Ids) (detail : List Byte) : EventIn :=
  { code := code
    die := die
    severity := sev
    ctx := ctx
    layer := ids.layer
    operator := ids.operator
    step := ids.step
    detail := detail
    stamp := s.stampAt unit
    unit := unit }

/-- Event 0x1601 (R313): RELEASED of inbox `inbox` held an invalid value. -/
def State.invalidRelease (s : State) (inbox value : Nat) : State :=
  let e := s.mkEvent 0x1601 1 0x30 0x3000 0xFFFF {} (leBytes 2 inbox ++ leBytes 8 value)
  (s.slate 0x3000 0x1601 0xFFFF {} e.detail).deliverEvent e

/-- Raise an event (R424, R472): its unit's slate records it, and it reaches the hub. If the hub's read of RELEASED
finds a new invalid value, event 0x1601 follows (R313). -/
def State.raiseEvent (s : State) (e : EventIn) : State :=
  let s1 := s.slate e.unit e.code e.ctx { ctx := e.ctx, layer := e.layer, operator := e.operator, step := e.step }
    e.detail
  let s2 := s1.deliverEvent e
  if s2.control.events.lastBad ≠ s.control.events.lastBad && s2.control.events.lastBad.isSome then
    s2.invalidRelease 0xFFFF (s.reg 0xB02006)
  else s2

/-- Raise an event of an explicit severity that concerns no command. -/
def State.raiseSev (s : State) (code sev die unit : Nat) (detail : List Byte) : State :=
  s.raiseEvent (s.mkEvent code sev die unit 0xFFFF {} detail)

/-- Raise an event that concerns no command. -/
def State.raise (s : State) (code die unit : Nat) (detail : List Byte) : State :=
  s.raiseSev code (eventSeverity code) die unit detail

/-- Raise an event that concerns a command of context `x` (R132). -/
def State.raiseFor (s : State) (code die unit x : Nat) (ids : Ids) (detail : List Byte) : State :=
  s.raiseEvent (s.mkEvent code (eventSeverity code) die unit x ids detail)

/-- The hub's die code in events: the half that holds the active complex (R326). -/
def State.hubDie (s : State) : Nat := 0x30 + (s.activeComplex.getD 0)

end Sys2Proof.Machine
end

