-- ==== Sys2Proof/Machine/ClockOps.lean ====
section
/-! DEFINITION. Shared operations on clock regions (R360, R366, R367): a region's present and target frequency. -/

namespace Sys2Proof.Machine

/-- The zone of cluster `c`, as 8 t + z (R12, R13). -/
def zoneOf (c : Nat) : Nat := 8 * (c / 200) + 4 * (c / 100 % 2) + 2 * (c / 10 % 10 / 5) + c % 10 / 5

/-- The tracked set-point at a time (R369): it moves toward the supply as measured by at most 1 mV per µs. -/
def Clock.tracked (k : Clock) (supply now : Nat) : Nat :=
  let d := (now - k.setAt) / 1000
  if k.setPoint ≤ supply then Nat.min supply (k.setPoint + d) else Nat.max supply (k.setPoint - d)

/-- The key of a region that stretches: zones by number, cache dies from 64, hub halves from 80. -/
def regionKey : Region → Nat
  | .zone z => z
  | .cacheDie t => 64 + t
  | .hubHalf h => 80 + h

/-- A region as it is after start (R360): hub halves run at 1.0 GHz. -/
def defaultClock (k : Nat) : Clock := if 80 ≤ k then { present := 1000, target := 1000, limit := 1000, cap := 1000 } else {}

/-- The frequency of a region at a time (R366): from `present`, where it stood at `slewAt`, it slews toward its target at
100 MHz per µs; a stopped region stands where it stopped. -/
def Clock.frequency (k : Clock) (now : Nat) : Nat :=
  let moved := (now - k.slewAt) / 10
  if k.stopped then k.present
  else if k.present ≤ k.target then min k.target (k.present + moved)
  else Nat.max k.target (k.present - moved)

/-- Region `k`. -/
def State.region (s : State) (k : Nat) : Clock := s.clocks.regions.get (defaultClock k) k

/-- The frequency of region `k` now. -/
def State.frequency (s : State) (k : Nat) : Nat := (s.region k).frequency s.now

/-- Change region `k`; a new target starts a slew from the frequency of the moment (R366). -/
def State.modRegion (s : State) (k : Nat) (f : Clock → Clock) : State :=
  let old := s.region k
  let new := f old
  { s with clocks := { s.clocks with
      regions := s.clocks.regions.set k (if new.target = old.target then new
        else { new with present := s.frequency k, slewAt := s.now }) } }

/-- The frequency that a zone moves toward (R366, R370, R391): the lowest of its limit, the power manager's frequency,
what the core supply allows, 400 MHz while it is idle, and the frequency of a step-down that is held. -/
def Clock.wanted (c : Clock) : Nat :=
  let a := min (min c.limit c.managerTarget) c.cap
  let b := if c.idle then min a 400 else a
  match c.held with
  | some h => min b h
  | none => b

/-- Whether the ME of a cluster is within a K-step (R58, R60, R61). -/
def State.withinStep (s : State) (c : Nat) : Bool := match (s.core c).mma with | some m => m.rows ≠ 0 | none => false

/-- Set a zone's target anew; it slews to it until ZONE_SLEW_END. -/
def Clock.retarget (c : Clock) : Clock := { c with target := c.wanted }

/-- A zone's clock stops: its time copy is held. -/
def State.stopZone (s : State) (z : Nat) : State :=
  s.modRegion z fun k =>
    { k with present := k.frequency s.now, stopped := true, lastStop := s.now, copyValid := false, run := 0 }

/-- A zone's clock restarts (R377, R378, R383). -/
def State.restartZone (s : State) (z : Nat) : State :=
  s.modRegion z fun k =>
    { k with slewAt := s.now, stopped := false, justRestarted := true, stampStopped := true, copyValid := false }

/-- The zones of a class are no longer idle: a bind names some of their clusters (R367). -/
def State.zonesBusy (s : State) (cls : List Nat) : State :=
  cls.foldl (fun s c => s.modRegion (zoneOf c) fun k => Clock.retarget { k with idle := false, unboundSince := none }) s

/-- Whether a cluster of a zone is bound. -/
def State.zoneBound (s : State) (z : Nat) : Bool := s.clusters.entries.any fun e => zoneOf e.1 = z && e.2.bound.isSome

/-- Clusters have been freed: a zone without a bound cluster counts its 10 µs from now (R367). -/
def State.zonesFreed (s : State) (cls : List Nat) : State :=
  cls.foldl (fun s c =>
    if s.zoneBound (zoneOf c) then s else s.modRegion (zoneOf c) fun k =>
      { k with unboundSince := some (k.unboundSince.getD s.now) }) s

end Sys2Proof.Machine
end

