-- ==== Sys2Proof/Machine/Numbers.lean ====
section
/-! DEFINITION. Number formats and exact arithmetic (R76 to R106): every value is NaN, an infinity or a dyadic number,
operations are exact, and each result is rounded once where the spec rounds. -/

namespace Sys2Proof

/-- A decoded value: NaN, an infinity, or (-1)^neg * m * 2^e. -/
inductive Num where
  | nan
  | inf (neg : Bool)
  | fin (neg : Bool) (m : Nat) (e : Int)
deriving DecidableEq, Repr

/-- Positive zero. -/
def Num.zero : Num := .fin false 0 0

/-- An integer as a value. -/
def Num.ofInt (i : Int) : Num := .fin (i < 0) i.natAbs 0

/-- The sign bit; NaN is positive (R92). -/
def Num.neg : Num → Bool
  | .nan => false
  | .inf n => n
  | .fin n _ _ => n

/-- Whether the value is a zero. -/
def Num.isZero : Num → Bool
  | .fin _ m _ => m = 0
  | _ => false

/-- Whether the value is finite. -/
def Num.isFinite : Num → Bool
  | .fin _ _ _ => true
  | _ => false

/-- The value with the opposite sign. -/
def Num.negate : Num → Num
  | .nan => .nan
  | .inf n => .inf (!n)
  | .fin n m e => .fin (!n) m e

/-- The value with sign bit `n`. -/
def Num.withSign (n : Bool) : Num → Num
  | .nan => .nan
  | .inf _ => .inf n
  | .fin _ m e => .fin n m e

/-- The value times 2^k. -/
def Num.scale (k : Int) : Num → Num
  | .nan => .nan
  | .inf n => .inf n
  | .fin n m e => .fin n m (e + k)

/-- Signed mantissa at exponent `f`, for `f` at most the value's own. -/
def mantissaAt (n : Bool) (m : Nat) (e f : Int) : Int :=
  let v := (m : Int) * 2 ^ (e - f).toNat
  if n then -v else v

/-! ### Exact operations (R90, R92, R95) -/

/-- Rounding of results: to nearest even, toward zero, up, down (R95), or stochastically with draw `r` (R101). -/
inductive RoundMode where
  | nearestEven | towardZero | up | down
  | stochastic (r : Nat)
deriving DecidableEq, Repr

/-- The mode that a VE operation names. -/
def Rounding.mode : Rounding → RoundMode
  | .nearestEven => .nearestEven
  | .towardZero => .towardZero
  | .up => .up
  | .down => .down

/-- Exact sum. An exact zero sum of opposite signs is +0, and -0 when rounding down (IEEE 754-2019, R95). -/
def Num.add (mode : RoundMode) : Num → Num → Num
  | .nan, _ => .nan
  | _, .nan => .nan
  | .inf a, .inf b => if a = b then .inf a else .nan
  | .inf a, .fin _ _ _ => .inf a
  | .fin _ _ _, .inf b => .inf b
  | .fin n m e, .fin k l f =>
    let g := min e f
    let v := mantissaAt n m e g + mantissaAt k l f g
    if v = 0 then .fin (if n = k then n else decide (mode = .down)) 0 0 else .fin (v < 0) v.natAbs g

/-- Exact product. -/
def Num.mul : Num → Num → Num
  | .nan, _ => .nan
  | _, .nan => .nan
  | .inf a, .inf b => .inf (a != b)
  | .inf a, .fin k l _ => if l = 0 then .nan else .inf (a != k)
  | .fin n m _, .inf b => if m = 0 then .nan else .inf (n != b)
  | .fin n m e, .fin k l f => .fin (n != k) (m * l) (e + f)

/-- Order of two values that are not NaN, zeros of either sign equal. -/
def Num.lt : Num → Num → Bool
  | .nan, _ => false
  | _, .nan => false
  | .inf a, .inf b => a && !b
  | .inf a, .fin _ _ _ => a
  | .fin _ _ _, .inf b => !b
  | .fin n m e, .fin k l f => mantissaAt n m e (min e f) < mantissaAt k l f (min e f)

/-- Equality of two values that are not NaN. -/
def Num.eq (a b : Num) : Bool :=
  match a, b with
  | .nan, _ => false
  | _, .nan => false
  | a, b => !a.lt b && !b.lt a

/-- IEEE minimum: NaN if either is, -0 below +0 (R95). -/
def Num.minimum (a b : Num) : Num :=
  if a = .nan || b = .nan then .nan
  else if a.lt b then a else if b.lt a then b else if a.neg then a else b

/-- IEEE maximum. -/
def Num.maximum (a b : Num) : Num :=
  if a = .nan || b = .nan then .nan
  else if a.lt b then b else if b.lt a then a else if a.neg then b else a

/-- The comparisons (R95): false with a NaN, except not-equal. -/
def Comparison.holds (c : Comparison) (a b : Num) : Bool :=
  match c with
  | .eq => a.eq b
  | .ne => !a.eq b
  | .lt => a.lt b
  | .le => a.lt b || a.eq b
  | .gt => b.lt a
  | .ge => b.lt a || a.eq b

/-! ### Formats (R76 to R81, R100) -/

/-- A floating format: exponent and mantissa bits, bias; `special` is whether the all-ones exponent holds infinities
and NaNs; `e4m3` the one NaN pattern of that format. -/
structure FloatFormat where
  expBits : Nat
  manBits : Nat
  bias : Nat
  special : Bool
  e4m3 : Bool
  nanPattern : Nat
deriving DecidableEq, Repr

/-- FP32, BF16, FP16, E4M3, E5M2, E3M2, E2M3, E2M1 (R78, canonical NaNs of R92). -/
def fp32 : FloatFormat := ⟨8, 23, 127, true, false, 0x7FC00000⟩
def bf16 : FloatFormat := ⟨8, 7, 127, true, false, 0x7FC0⟩
def fp16 : FloatFormat := ⟨5, 10, 15, true, false, 0x7E00⟩
def e4m3 : FloatFormat := ⟨4, 3, 7, false, true, 0x7F⟩
def e5m2 : FloatFormat := ⟨5, 2, 15, true, false, 0x7E⟩
def e3m2 : FloatFormat := ⟨3, 2, 3, false, false, 0⟩
def e2m3 : FloatFormat := ⟨2, 3, 1, false, false, 0⟩
def e2m1 : FloatFormat := ⟨2, 1, 1, false, false, 0⟩

/-- The exponent of the smallest subnormal's unit. -/
def FloatFormat.minExp (f : FloatFormat) : Int := 1 - (f.bias : Int) - f.manBits

/-- The largest finite pattern, less its sign. -/
def FloatFormat.maxPattern (f : FloatFormat) : Nat :=
  let top := 2 ^ f.expBits - 1
  if f.special then (top - 1) * 2 ^ f.manBits + 2 ^ f.manBits - 1
  else if f.e4m3 then top * 2 ^ f.manBits + 2 ^ f.manBits - 2
  else top * 2 ^ f.manBits + 2 ^ f.manBits - 1

/-- The pattern's width in bits. -/
def FloatFormat.width (f : FloatFormat) : Nat := 1 + f.expBits + f.manBits

/-- The value of a pattern (R78, R79). -/
def FloatFormat.decode (f : FloatFormat) (v : Nat) : Num :=
  let m := v % 2 ^ f.manBits
  let e := v / 2 ^ f.manBits % 2 ^ f.expBits
  let n := v / 2 ^ (f.manBits + f.expBits) % 2 = 1
  let top := 2 ^ f.expBits - 1
  if f.special && e = top then (if m = 0 then .inf n else .nan)
  else if f.e4m3 && e = top && m = 2 ^ f.manBits - 1 then .nan
  else if e = 0 then .fin n m f.minExp
  else .fin n (2 ^ f.manBits + m) (f.minExp + e - 1)

/-- A magnitude m * 2^e as a whole number of units 2^q: the floor, whether anything is left, and how the rest compares
with half a unit, as (rest, unit) over one denominator. -/
def inUnits (m : Nat) (e q : Int) : Nat × Nat × Nat :=
  if q ≤ e then (m * 2 ^ (e - q).toNat, 0, 1)
  else
    let d := 2 ^ (q - e).toNat
    (m / d, m % d, d)

/-- Round a magnitude to whole units (R95, R97, R101): `neg` is the sign of the value it belongs to. -/
def roundUnits (mode : RoundMode) (neg : Bool) (n rest unit : Nat) : Nat :=
  if rest = 0 then n
  else
    match mode with
    | .nearestEven => if 2 * rest > unit || (2 * rest = unit && n % 2 = 1) then n + 1 else n
    | .towardZero => n
    | .up => if neg then n else n + 1
    | .down => if neg then n + 1 else n
    | .stochastic r =>
      -- d = floor(65536 * (x - lo) / (hi - lo)); hi if r < d (R101)
      if neg then (if r < 65536 * (unit - rest) / unit then n else n + 1)
      else (if r < 65536 * rest / unit then n + 1 else n)

/-- The result of one conversion (R97, R109): the pattern, and what the counters see. -/
structure Conversion where
  bits : Nat
  saturated : Bool := false
  nanWritten : Bool := false
  infWritten : Bool := false
  nanToZero : Bool := false
  toZero : Bool := false
  drew : Bool := false
deriving DecidableEq, Repr

/-- The unit 2^q at which a magnitude m * 2^e is rounded to format `f`, with no upper limit on the exponent. -/
def FloatFormat.unitExp (f : FloatFormat) (m : Nat) (e : Int) : Int :=
  max f.minExp ((Nat.log2 m : Int) + e - f.manBits)

/-- The pattern of `n` units of 2^q, for values that the format holds. -/
def FloatFormat.pattern (f : FloatFormat) (n : Nat) (q : Int) : Nat :=
  let k := (q - f.minExp).toNat
  if n < 2 ^ f.manBits then n else k * 2 ^ f.manBits + n

/-- Round a finite magnitude to `f`: its pattern without an upper limit on the exponent (it may exceed
`maxPattern`). -/
def FloatFormat.roundMagnitude (f : FloatFormat) (mode : RoundMode) (neg : Bool) (m : Nat) (e : Int) : Nat :=
  if m = 0 then 0
  else
    let q := f.unitExp m e
    let (n, rest, unit) := inUnits m e q
    f.pattern (roundUnits mode neg n rest unit) q

/-- Whether a magnitude is exactly representable in `f`, or lies above its largest finite value (no draw, R101). -/
def FloatFormat.needsDraw (f : FloatFormat) (m : Nat) (e : Int) : Bool :=
  m ≠ 0 && (inUnits m e (f.unitExp m e)).2.1 ≠ 0 && f.roundMagnitude .towardZero false m e < f.maxPattern

/-- The sign bit of a pattern. -/
def FloatFormat.signBit (f : FloatFormat) (n : Bool) : Nat := if n then 2 ^ (f.width - 1) else 0

/-- IEEE 754 rounding to binary32 and its like (R90, R95): beyond the range, infinity, or the largest finite value
where the direction forbids infinity. -/
def FloatFormat.round (f : FloatFormat) (mode : RoundMode) : Num → Nat
  | .nan => f.nanPattern
  | .inf n => f.signBit n + (2 ^ f.expBits - 1) * 2 ^ f.manBits
  | .fin n m e =>
    let p := f.roundMagnitude mode n m e
    if p ≤ f.maxPattern then f.signBit n + p
    else
      let toInf := match mode with
        | .nearestEven => true
        | .towardZero => false
        | .up => !n
        | .down => n
        | .stochastic _ => true
      f.signBit n + (if toInf then (2 ^ f.expBits - 1) * 2 ^ f.manBits else f.maxPattern)

/-- A narrowing conversion to a floating format under R97. -/
def FloatFormat.convert (f : FloatFormat) (mode : RoundMode) : Num → Conversion
  | .nan => { bits := f.nanPattern, nanWritten := true }
  | .inf n =>
    if f.special then
      { bits := f.signBit n + (2 ^ f.expBits - 1) * 2 ^ f.manBits, infWritten := true }
    else { bits := f.signBit n + f.maxPattern }
  | .fin n m e =>
    let mode' := match mode with
      | .stochastic r => if f.needsDraw m e then .stochastic r else .towardZero
      | k => k
    let above := decide (f.roundMagnitude .towardZero false m e > f.maxPattern) ||
      (decide (f.roundMagnitude .towardZero false m e = f.maxPattern) && (inUnits m e (f.unitExp m e)).2.1 ≠ 0)
    let p := f.roundMagnitude mode' n m e
    let stoch := match mode with | .stochastic _ => true | _ => false
    let sat := if stoch then m ≠ 0 && above else p > f.maxPattern
    { bits := f.signBit n + (if sat then f.maxPattern else p)
      saturated := sat
      toZero := m ≠ 0 && p = 0
      drew := stoch && f.needsDraw m e }

/-- A narrowing conversion to a two's complement integer of `w` bits in units of 2^u (R80, R97). -/
def convertInt (w : Nat) (u : Int) (mode : RoundMode) : Num → Conversion
  | .nan => { bits := 0, nanToZero := true }
  | .inf n => { bits := if n then 2 ^ (w - 1) else 2 ^ (w - 1) - 1 }
  | .fin n m e =>
    let limit := if n then 2 ^ (w - 1) else 2 ^ (w - 1) - 1
    let (k, rest, unit) := inUnits m e u
    let stoch := match mode with | .stochastic _ => true | _ => false
    let above := k > limit || (k = limit && rest ≠ 0)
    let r := if stoch && above then limit + 1 else roundUnits mode n k rest unit
    let sat := r > limit
    let v := if sat then limit else r
    { bits := if n then (2 ^ w - v) % 2 ^ w else v
      saturated := sat
      toZero := m ≠ 0 && v = 0
      drew := stoch && rest ≠ 0 && !above }

/-- Bits of an element by format code (R76); zero for a reserved code. -/
def elemBits (fmt : Nat) : Nat :=
  match fmt with
  | 0 => 32 | 1 => 16 | 2 => 16 | 3 => 8 | 4 => 4 | 5 => 8 | 6 => 8 | 7 => 6 | 8 => 6 | 9 => 4 | 10 => 8 | 11 => 4
  | 12 => 32 | _ => 0

/-- The scaled formats (R76): codes 0x5 to 0xB. -/
def isScaled (fmt : Nat) : Bool := 5 ≤ fmt && fmt ≤ 11

/-- Formats that the ME accepts as operands, and pairs it accepts together (R76, R89). -/
def meOperand (fmt : Nat) : Bool := 1 ≤ fmt && fmt ≤ 11
def mePair (a w : Nat) : Bool :=
  meOperand a && meOperand w && ((a = 3 || a = 4) = (w = 3 || w = 4))

/-- The floating formats FP32, BF16, FP16. -/
def isPlainFloat (fmt : Nat) : Bool := fmt ≤ 2

/-- Bytes of `n` elements, packed without gaps (R81). -/
def elemBytes (fmt n : Nat) : Nat := ceilDiv (elemBits fmt * n) 8

/-- Element `i` of packed data (R81): wider elements are little-endian, 4-bit and 6-bit ones fill from the low end. -/
def elemAt (fmt : Nat) (d : List Byte) (i : Nat) : Nat :=
  let b := elemBits fmt
  if b = 4 then field d (i / 2) 1 / 2 ^ (4 * (i % 2)) % 16
  else if b = 6 then field d (3 * (i / 4)) 3 / 2 ^ (6 * (i % 4)) % 64
  else field d (i * (b / 8)) (b / 8)

/-- Group a list by four. -/
def groupBy4 : List Nat → List (List Nat)
  | [] => []
  | [a] => [[a]]
  | [a, b] => [[a, b]]
  | [a, b, c] => [[a, b, c]]
  | a :: b :: c :: d :: l => [a, b, c, d] :: groupBy4 l

/-- Pack pairs of nibbles. -/
def packNibbles : List Nat → List Byte
  | [] => []
  | [a] => [BitVec.ofNat 8 a]
  | a :: b :: l => BitVec.ofNat 8 (a + 16 * b) :: packNibbles l

/-- Pack elements without gaps (R81). -/
def packElems (fmt : Nat) (l : List Nat) : List Byte :=
  let b := elemBits fmt
  if b = 4 then packNibbles l
  else if b = 6 then
    ((groupBy4 l).map fun g =>
      leBytes (ceilDiv (6 * g.length) 8)
        (g.getD 0 0 + 64 * g.getD 1 0 + 4096 * g.getD 2 0 + 262144 * g.getD 3 0)).flatten
  else (l.map (leBytes (b / 8))).flatten

/-- The floating format of a code. -/
def floatFormat (fmt : Nat) : Option FloatFormat :=
  match fmt with
  | 0 => some fp32 | 1 => some bf16 | 2 => some fp16 | 5 => some e4m3 | 6 => some e5m2 | 7 => some e3m2
  | 8 => some e2m3 | 9 => some e2m1 | _ => none

/-- The value of an element before its block scale (R79, R80, R85): `set` is the codebook set. -/
def decodeElem (fmt : Nat) (set : List Byte) (v : Nat) : Num :=
  match floatFormat fmt with
  | some f => f.decode v
  | none =>
    if fmt = 3 then Num.ofInt (signedOf 8 v)
    else if fmt = 4 then Num.ofInt (signedOf 4 v)
    else if fmt = 10 then (Num.ofInt (signedOf 8 v)).scale (-6)
    else if fmt = 11 then e4m3.decode (set.getD v 0).toNat
    else Num.ofInt (signedOf 32 v)

/-- Apply an E8M0 block scale (R82, R83): 0xFF makes every element NaN. -/
def applyScale (x : Nat) (v : Num) : Num := if x = 0xFF then .nan else v.scale ((x : Int) - 127)

/-- FP32 addition: one binary32 addition to nearest even (R90, R95, R96). -/
def fp32Add (a b : Word32) : Word32 :=
  BitVec.ofNat 32 (fp32.round .nearestEven ((fp32.decode a.toNat).add .nearestEven (fp32.decode b.toNat)))

/-- BF16 addition (R96): widened, added in FP32, narrowed with saturation. -/
def bf16Sum (a b : Nat) : Conversion :=
  let s := fp32.round .nearestEven ((bf16.decode a).add .nearestEven (bf16.decode b))
  bf16.convert .nearestEven (fp32.decode s)

/-- The pattern of a BF16 sum. -/
def bf16Add (a b : Nat) : Nat := (bf16Sum a b).bits

/-- The default codebook table (R86). -/
def defaultCodebook : List Byte :=
  [0x00, 0x30, 0x38, 0x3C, 0x40, 0x44, 0x48, 0x4C, 0x80, 0xB0, 0xB8, 0xBC, 0xC0, 0xC4, 0xC8, 0xCC]

/-! ### Conversions of the QE (R97 to R102) -/

/-- Conversion of a value to a format other than a codebook (R97). -/
def convertElem (fmt : Nat) (mode : RoundMode) (v : Num) : Conversion :=
  match floatFormat fmt with
  | some f => f.convert mode v
  | none =>
    if fmt = 3 then convertInt 8 0 mode v
    else if fmt = 4 then convertInt 4 0 mode v
    else if fmt = 10 then convertInt 8 (-6) mode v
    else convertInt 32 0 mode v

/-- emax of a scaled format (R100). -/
def emaxOf (fmt : Nat) : Int :=
  match fmt with
  | 5 => 8 | 6 => 15 | 7 => 4 | 8 => 2 | 9 => 2 | _ => 0

/-- floor(log2) of a non-zero finite value's magnitude. -/
def Num.log2 : Num → Int
  | .fin _ m e => (Nat.log2 m : Int) + e
  | _ => 0

/-- The larger magnitude of two finite values. -/
def Num.maxAbs (a b : Num) : Num := if (a.withSign false).lt (b.withSign false) then b.withSign false else a.withSign false

/-- The largest magnitude among finite values. -/
def largestMagnitude (l : List Num) : Num := l.foldl Num.maxAbs Num.zero

/-- The finite entries of a codebook set, with their indices. -/
def finiteEntries (set : List Byte) : List (Nat × Num) :=
  (List.range 16).filterMap fun i =>
    let v := e4m3.decode (set.getD i 0).toNat
    if v.isFinite then some (i, v) else none

/-- Distance of two finite values, as a magnitude. -/
def Num.distance (a b : Num) : Num := (a.add .nearestEven b.negate).withSign false

/-- The index of the entry nearest in value, ties to the lower index (R98). -/
def nearestEntry (entries : List (Nat × Num)) (v : Num) : Nat :=
  match entries with
  | [] => 0
  | e :: l => (l.foldl (fun (b : Nat × Num) c => if (c.2.distance v).lt (b.2.distance v) then c else b) e).1

/-- The stochastic choice between the nearest finite entries below and above (R101). -/
def stochasticEntry (entries : List (Nat × Num)) (v : Num) (r : Nat) : Nat × Bool :=
  match entries.find? fun c => c.2.eq v with
  | some c => (c.1, false)
  | none =>
    let below := entries.filter fun c => c.2.lt v
    let above := entries.filter fun c => v.lt c.2
    match below, above with
    | [], l => (nearestEntry l v, false)
    | l, [] => (nearestEntry l v, false)
    | b, a =>
      let lo := nearestEntry b v
      let hi := nearestEntry a v
      let lv := ((entries.lookup lo).getD Num.zero)
      let hv := ((entries.lookup hi).getD Num.zero)
      match (v.add .nearestEven lv.negate), (hv.add .nearestEven lv.negate) with
      | .fin _ m e, .fin _ n f =>
        let g := min e f
        let d := (65536 * mantissaAt false m e g).toNat / (mantissaAt false n f g).toNat
        (if r < d then hi else lo, true)
      | _, _ => (lo, true)

/-- The scale exponent X of a block that is finite and not all zero (R98). -/
def blockExponent (emax : Int) (amax : Num) : Int := max (-127) (min 127 (amax.log2 - emax))

/-- emax for a codebook set (R98): floor(log2 t), zero when every finite entry is a zero. -/
def codebookEmax (set : List Byte) : Int :=
  let t := largestMagnitude ((finiteEntries set).map (·.2))
  if t.isZero then 0 else t.log2

/-! ### The draw stream (R102) -/

/-- The mixing function. -/
def mix64 (z : Word64) : Word64 :=
  let z1 := (z ^^^ (z >>> 30)) * 0xbf58476d1ce4e5b9
  let z2 := (z1 ^^^ (z1 >>> 27)) * 0x94d049bb133111eb
  z2 ^^^ (z2 >>> 31)

/-- The key of an operation's stream. -/
def drawKey (seed : Word64) (step cid opn : Nat) : Word64 :=
  mix64 (seed ^^^ (BitVec.ofNat 64 step <<< 32) ^^^ (BitVec.ofNat 64 cid <<< 16) ^^^ BitVec.ofNat 64 opn)

/-- The draw for element `i`: bits [63:48]. -/
def drawAt (key : Word64) (i : Nat) : Nat :=
  ((mix64 (key + BitVec.ofNat 64 (i + 1) * 0x9e3779b97f4a7c15)) >>> 48).toNat

/-! ### Activation curves (R104, R105) -/

/-- The FP32 field at an offset of a slot image. -/
def curveWord (img : List Byte) (off : Nat) : Nat := field img off 4

/-- Whether a slot image is valid (R104). -/
def curveValid (img : List Byte) : Bool :=
  let count := field img 0 1
  let start := fun j => fp32.decode (curveWord img (16 + 16 * j))
  1 ≤ count && count ≤ 63 && field img 1 1 ≤ 6 &&
  (List.range count).all (fun j => (start j).isFinite && (j = 0 || (start (j - 1)).lt (start j))) &&
  (List.range count).all fun j =>
    [4, 8, 12].all fun o => fp32.decode (curveWord img (16 + 16 * j + o)) ≠ .nan

/-- One FP32 fused multiply-add to nearest even. -/
def fp32Fma (a b c : Num) : Num := fp32.decode (fp32.round .nearestEven ((a.mul b).add .nearestEven c))

/-- One FP32 rounding. -/
def fp32Rounded (a : Num) : Num := fp32.decode (fp32.round .nearestEven a)

/-- p(u) (R105): the last used segment whose START is at most u, segment 0 below START_0. -/
def curveAt (img : List Byte) (u : Num) : Num :=
  let count := field img 0 1
  let j := ((List.range count).filter fun j => !u.lt (fp32.decode (curveWord img (16 + 16 * j)))).getLastD 0
  let w := fun o => fp32.decode (curveWord img (16 + 16 * j + o))
  let t := fp32Rounded (u.add .nearestEven (w 0).negate)
  fp32Fma (fp32Fma (w 12) t (w 8)) t (w 4)

/-- Split a positive finite value as m * 2^e with m in [1, 2). -/
def Num.split : Num → Num × Int
  | .fin n m e =>
    let k := Nat.log2 m
    (.fin n m (-(k : Int)), e + k)
  | v => (v, 0)

/-- floor of a finite value. -/
def Num.floorInt : Num → Int
  | .fin n m e => (mantissaAt n m (max e 0) 0) * (if 0 ≤ e then 1 else 0) +
      (if e < 0 then (if n then -(ceilDiv m (2 ^ (-e).toNat) : Int) else (m / 2 ^ (-e).toNat : Nat)) else 0)
  | _ => 0

/-- The curve of a slot image at a value (R105), as an FP32 value. The reduced argument f = x - n of mode 5 is kept exact until
the subtraction of START, also where it is no FP32 value (DESIGN CHOICE, log 97). -/
def curveEval (img : List Byte) (x : Num) : Num :=
  let mode := field img 1 1
  let yZero := fp32.decode (curveWord img 12)
  match x with
  | .nan => .nan
  | .inf n => fp32.decode (curveWord img (if n then 4 else 8))
  | .fin n m e =>
    if mode = 0 then curveAt img x
    else if mode = 1 then
      let y := curveAt img (x.withSign false)
      if n then y.negate else y
    else if mode = 2 then curveAt img (x.withSign false)
    else if mode = 3 then
      if m = 0 then (if n then yZero.negate else yZero)
      else
        let (u, k) := (x.withSign false).split
        let y := fp32Rounded ((curveAt img u).scale (-k))
        if n then y.negate else y
    else if mode = 4 then
      if m = 0 then yZero else if n then .nan
      else
        let (u, k) := x.split
        fp32Rounded ((curveAt img u).add .nearestEven (Num.ofInt k))
    else if mode = 5 then
      let k := x.floorInt
      let u := x.add .nearestEven (Num.ofInt (-k))
      -- beyond these bounds every FP32 value overflows or underflows alike
      fp32Rounded ((curveAt img u).scale (max (-400) (min 400 k)))
    else
      if m = 0 then yZero else if n then .nan
      else
        let (u, k) := (Num.fin false m e).split
        let odd := k % 2 ≠ 0
        let u' := if odd then u.scale 1 else u
        let k' := if odd then k - 1 else k
        fp32Rounded ((curveAt img u').scale (-(k' / 2)))

end Sys2Proof
end

