-- ==== Sys2Proof/Machine/Flags.lean ====
section
/-! DEFINITION. The arithmetic counters (R109) and the record of a command's first NaN: what a narrowing conversion
leaves besides its result. The block has no arithmetic flags: no condition traps (R92). -/

namespace Sys2Proof.Machine

/-- How many conversions of a list have a property. -/
def countWhere (p : Conversion → Bool) (l : List Conversion) : Nat := (l.filter p).length

/-- Instance of an engine in the first row of R109 (R479): 0 ME drain, 1 VE, 2 AE, 3 QE. -/
def nanInstance : Engine → Nat
  | .me => 0
  | .ve => 1
  | .ae => 2
  | _ => 3

/-- The code of an engine (R125). -/
def Engine.num : Engine → Nat
  | .me => 0
  | .ve => 1
  | .ae => 2
  | .xe => 3
  | .ge => 4
  | .ce => 5
  | .qe => 6

/-- The conversion of a pattern that is written as it stands: only what its own value shows. -/
def asWritten (f : FloatFormat) (bits : Nat) : Conversion :=
  { bits := bits
    nanWritten := f.decode bits = .nan
    infWritten := match f.decode bits with | .inf _ => true | _ => false }

/-- Whether the NaN elements of an engine are counted and recorded (R109): those of the ME, VE, AE and QE. -/
def countsNan (e : Engine) : Bool := e = .me || e = .ve || e = .ae || e = .qe

/-- Count a list of conversions that engine `e` of cluster `c` wrote, `cs` with the local address of each element,
and write slate record 0xF00A for the engine's first NaN of the command (R109). -/
def State.noteConversions (s : State) (c : Nat) (e : Engine) (word : OpWord) (cs : List (Nat × Conversion)) : State :=
  let l := cs.map (·.2)
  let s0 := if countsNan e then s.bump c (0x200 + nanInstance e) 32 (countWhere (·.nanWritten) l) else s
  let s1 := ((((s0.bump c 0x210 32 (countWhere (·.saturated) l)).bump c 0x220 32 (countWhere (·.infWritten) l)).bump c 0x240 32
    (countWhere (·.nanToZero) l)).bump c 0x250 32 (countWhere (·.toZero) l)).bump c 0x260 48 (countWhere (·.drew) l)
  match cs.find? fun p => countsNan e && p.2.nanWritten with
  | none => s1
  | some (a, _) =>
    if (s1.cluster c).nanSeen.contains e then s1
    else
      let ids := s1.idsOf c
      (s1.modCluster c fun k => { k with nanSeen := e :: k.nanSeen }).slateOnly c 0xF00A ids.ctx ids
        (leBytes 1 (Engine.num e) ++ leBytes 16 word.toNat ++ leBytes 4 a)

end Sys2Proof.Machine
end

