-- ==== Sys2Proof/Machine/Codeword.lean ====
section
/-! DEFINITION. The codeword RS(72,64) over GF(2^8) (R165, R166) and the scratch and cache geometry of a tower (R148 to
R153). Contents and what has been added to them are kept apart: the decoder is linear, so its verdict depends on the
error pattern alone. -/

namespace Sys2Proof.Machine

/-! ### The field (R165): x^8 + x^4 + x^3 + x^2 + 1, α = 2 -/

/-- Multiplication by α. -/
def gfDouble (a : Byte) : Byte := if a.msb then (a <<< 1) ^^^ 0x1D else a <<< 1

/-- Product of field elements, over the bits of `b` from bit `n - 1` down. -/
def gfMulBits (a b : Byte) : Nat → Byte
  | 0 => 0
  | n + 1 => gfDouble (gfMulBits a (b >>> 1) n) ^^^ (if b.getLsbD 0 then a else 0)

/-- Product of field elements. -/
def gfMul (a b : Byte) : Byte := gfMulBits a b 8

/-- Power of a field element. -/
def gfPow (a : Byte) : Nat → Byte
  | 0 => 1
  | n + 1 => gfMul a (gfPow a n)

/-- Inverse of a non-zero field element: its 254th power, the product of its powers 2, 4, ..., 128. -/
def gfInv (a : Byte) : Byte :=
  let square := fun (x : Byte) => gfMul x x
  let a2 := square a
  let a4 := square a2
  let a8 := square a4
  let a16 := square a8
  let a32 := square a16
  let a64 := square a32
  gfMul a2 (gfMul a4 (gfMul a8 (gfMul a16 (gfMul a32 (gfMul a64 (square a64))))))

/-- The locator of symbol j: byte j is the coefficient of x^(71 - j), so it is α^(71 - j). -/
def locator (j : Nat) : Byte := gfPow 2 (71 - j)

/-- The sum of a list of field elements. -/
def gfSum : List Byte → Byte
  | [] => 0
  | a :: l => a ^^^ gfSum l

/-- Syndrome S_i of an error pattern (R165). -/
def syndrome (p : ErrorPattern) (i : Nat) : Byte := gfSum (p.map fun e => gfMul e.2 (gfPow (locator e.1) i))

/-- The syndromes S0 to S7. -/
def syndromes (p : ErrorPattern) : List Byte := (List.range 8).map (syndrome p)

/-- What a pattern adds to symbol `j`. -/
def patternAt (p : ErrorPattern) (j : Nat) : Byte := gfSum ((p.filter fun e => e.1 = j).map (·.2))

/-- The sum of two patterns, in symbol order and without zeros. -/
def patternAdd (p q : ErrorPattern) : ErrorPattern :=
  (List.range 72).filterMap fun j =>
    let v := patternAt p j ^^^ patternAt q j
    if v = 0 then none else some (j, v)

/-- Complemented check bytes (R166, R170). -/
def complementedChecks : ErrorPattern := (List.range 8).map fun m => (64 + m, 0xFF)

/-- The correction of at most two symbols from `lo` on with the syndromes `s`, the first `n`, if there is one (R166, R183): one symbol
from S1 / S0, two from the locator polynomial of S0 to S3; every syndrome is checked. -/
def correctionIn (lo n : Nat) (s : List Byte) : Option ErrorPattern :=
  let g := fun i => s.getD i 0
  let symbols := (List.range 72).drop lo
  let fits := fun (p : ErrorPattern) => (syndromes p).take n = s
  if s.all (· = 0) then some []
  else
    match symbols.find? fun j => fits [(j, g 0)] with
    | some j => if g 0 = 0 then none else some [(j, g 0)]
    | none =>
      let det := gfMul (g 1) (g 1) ^^^ gfMul (g 0) (g 2)
      if det = 0 then none
      else
        let inv := gfInv det
        let l1 := gfMul (gfMul (g 1) (g 2) ^^^ gfMul (g 0) (g 3)) inv
        let l2 := gfMul (gfMul (g 2) (g 2) ^^^ gfMul (g 1) (g 3)) inv
        let roots := symbols.filter fun j =>
          let x := locator j
          gfMul x x ^^^ gfMul l1 x ^^^ l2 = 0
        match roots with
        | [j, k] =>
          let x := locator j
          let y := locator k
          let e2 := gfMul (g 1 ^^^ gfMul x (g 0)) (gfInv (x ^^^ y))
          let p := [(j, g 0 ^^^ e2), (k, e2)]
          if fits p then some p else none
        | _ => none

/-- The correction of a codeword of R165 with the syndromes S0 to S7. -/
def correction (s : List Byte) : Option ErrorPattern := correctionIn 0 8 s

/-- The decoder's verdict on a codeword (R166). `left` is what its correction leaves added: nothing for at most two
errors; for seven errors and more the decoder may land on another codeword. -/
inductive Verdict where
  | clean
  | corrected (left : ErrorPattern)
  | marked
  | uncorrectable
deriving DecidableEq, Repr

/-- Decode (R166): first with the check bytes complemented, then as read. -/
def decodePattern (p : ErrorPattern) : Verdict :=
  if p = [] then .clean
  else
    match correction (syndromes (patternAdd p complementedChecks)) with
    | some _ => .marked
    | none =>
      match correction (syndromes p) with
      | some f => .corrected (patternAdd p f)
      | none => .uncorrectable

/-- The coefficients of the product of (x - α^i) for i below `n`, that of x^n, which is 1, first (R165, R183). -/
def generatorOf (n : Nat) : List Byte :=
  (List.range n).foldl (fun g i => List.zipWith (· ^^^ ·) (g ++ [0]) (0 :: g.map (gfMul (gfPow 2 i)))) [1]

/-- One step of the division by a generator without its leading 1: the remainder so far, and the next coefficient. -/
def divideStep (g r : List Byte) (d : Byte) : List Byte :=
  let top := d ^^^ r.getD 0 0
  (List.range g.length).map fun k => r.getD (k + 1) 0 ^^^ gfMul top (g.getD k 0)

/-- The check bytes of 64 data bytes: the remainder of the data polynomial times x^8 (R165). -/
def checkBytes (d : List Byte) : List Byte := d.foldl (divideStep ((generatorOf 8).drop 1)) (List.replicate 8 0)

/-- The pattern of a codeword that is marked as it was read with pattern `p` (R170): its data as read, and the complement of that
data's check bytes. -/
def markOf (p : ErrorPattern) : ErrorPattern :=
  let data := p.filter fun e => e.1 < 64
  if data = [] then complementedChecks
  else patternAdd (data ++ (checkBytes ((List.range 64).map (patternAt data))).mapIdx fun m b => (64 + m, b)) complementedChecks

/-! ### Device offsets (R148, R149, R152) -/

/-- Where a device offset lies. -/
inductive Place where
  | hbm (t o : Nat)
  | scratch (t x : Nat)
  | cluster (c a : Nat)
  | mailbox (g a : Nat)
  | reserved
deriving DecidableEq, Repr

/-- The place of a device offset (R148; the mailboxes of R352). -/
def placeOf (off : Nat) : Place :=
  if off < 0x9000000000 then .hbm (off / 0x2400000000) (off % 0x2400000000)
  else if off < 0xC000000000 then .reserved
  else if off < 0xC100000000 then .scratch ((off - 0xC000000000) / 0x40000000) ((off - 0xC000000000) % 0x40000000)
  else if off < 0xE000000000 then .reserved
  else if off < 0xE000000000 + 800 * 0x400000 then
    .cluster ((off - 0xE000000000) / 0x400000) ((off - 0xE000000000) % 0x400000)
  else if 0xF000000000 ≤ off && off < 0xF000020000 then
    .mailbox ((off - 0xF000000000) / 0x10000) ((off - 0xF000000000) % 0x10000)
  else .reserved

/-- The device offset of local address `a` of cluster `c`. -/
def clusterOffset (c a : Nat) : Nat := 0xE000000000 + 0x400000 * c + a

/-- Tower `t`'s store. -/
def State.tower (s : State) (t : Nat) : Tower := s.memory.towers.get {} t

/-- Change tower `t`'s store. -/
def State.modTower (s : State) (t : Nat) (f : Tower → Tower) : State :=
  { s with memory := { s.memory with towers := s.memory.towers.modify {} t f } }

/-- The scratch steps up to which tower `t`'s aperture is populated: while a partition change runs, up to the larger
of the old and new sizes (R149, R159 step 1). -/
def State.populatedSteps (s : State) (t : Nat) : Nat :=
  match (s.tower t).change with
  | some c => max c.old c.new
  | none => (s.tower t).scratch

/-- Whether a byte's offset is populated (R148, R149). -/
def State.populated (s : State) (off : Nat) : Bool :=
  match placeOf off with
  | .hbm _ _ => true
  | .scratch t x => x < 0x1000000 * s.populatedSteps t
  | .cluster _ a => a < 0x300000
  | .mailbox g _ => Nat.testBit s.fuses.guests g
  | .reserved => false

/-- Whether the extent touches only populated offsets of one region (R149): both ends populated and in one place. -/
def State.extentPopulated (s : State) (off len : Nat) : Bool :=
  let last := off + len - 1
  s.populated off && s.populated last &&
  match placeOf off, placeOf last with
  | .hbm _ _, .hbm _ _ => true
  | .scratch t _, .scratch u _ => t = u
  | .cluster c _, .cluster d _ => c = d
  | .mailbox g _, .mailbox h _ => g = h
  | _, _ => false

/-- Whether an extent reaches into the part of the scratch aperture that stalls while a partition change runs (R159 step 1). -/
def State.stallsForPartition (s : State) (off len : Nat) : Bool :=
  match placeOf off with
  | .scratch t x =>
    match (s.tower t).change with
    | some c => 0x1000000 * min c.old c.new < x + max 1 len
    | none => false
  | _ => false

/-! ### Stacks (R150, R162, R333) -/

/-- The stack that holds an HBM3 offset of tower `t` (R150). -/
def stackOf (t o : Nat) : Nat := 6 * t + o / 256 % 6

/-- The pseudo-channel of that stack, 0 to 31, and the channel that it is half of (R150). -/
def pseudoChannelOf (o : Nat) : Nat := o / 256 / 6 % 32
def channelOf (o : Nat) : Nat := pseudoChannelOf o / 2

/-- The offset within the pseudo-channel (R150). -/
def pseudoOffset (o : Nat) : Nat := o / 256 / 6 / 32 * 256 + o % 256

/-- Stack `k` as the memory controller sees it. -/
def State.stack (s : State) (k : Nat) : Stack := s.memory.hbm.get {} k

/-- Change stack `k`. -/
def State.modStack (s : State) (k : Nat) (f : Stack → Stack) : State :=
  { s with memory := { s.memory with hbm := s.memory.hbm.modify {} k f } }

/-- The symbols of a codeword that a pin carries (R162): DQ pin j symbols j and j + 32; ECC pin m, numbered 32 + m,
check symbols 64 + m and 68 + m. -/
def pinSymbols (pin : Nat) : List Nat := if pin < 32 then [pin, pin + 32] else [32 + pin, 36 + pin]

/-- What a stack's lost pins add to a codeword (R333 kind 6). -/
def pinPattern (k w : Nat) (pins : List Nat) : ErrorPattern :=
  let o := 64 * w % 0x2400000000
  ((pins.map pinSymbols).flatten).filterMap fun j =>
    let v := Config.pinError k (pseudoChannelOf o) (pseudoOffset o / 64) j
    if v = 0 then none else some (j, v)

/-! ### Sets (R151 to R154) -/

/-- Rows of slice `h` (R151). -/
def sliceRows (h : Nat) : Nat := if h < 56 then 31458 else 31457

/-- The first cache row of slice `h` with `P` scratch frames (R153). -/
def firstCacheRow (frames h : Nat) : Nat := ceilDiv (frames - h) 200

/-- S(h) (R153). -/
def setsOf (steps h : Nat) : Nat := (sliceRows h - firstCacheRow (131072 * steps) h) / 16

/-- Bytes in whole sets of a tower (OD 0x5011). -/
def cacheCapacity (steps : Nat) : Nat := sumOf (fun h => setsOf steps h * 2048) (List.range 200)

/-- The key of the set that holds line `l` of tower `t`: none when no slice has a set (R153, R154). -/
def State.setKey (s : State) (t l : Nat) : Option Nat :=
  let n := setsOf (s.tower t).scratch (l % 200)
  if n = 0 then none else some (4096 * (200 * t + l % 200) + l / 200 % n)

/-- The way that the tree pseudo-LRU of a set points to (R155): bit 0 of a node points left. -/
def plruVictim (b : BitVec 15) : Nat :=
  let go := fun node => if b.getLsbD node then 2 * node + 2 else 2 * node + 1
  go (go (go (go 0))) - 15

/-- The tree after an access to way `w`: every node on its path points away from it. -/
def plruTouch (b : BitVec 15) (w : Nat) : BitVec 15 :=
  let set := fun (b : BitVec 15) (node : Nat) (v : Bool) =>
    if v then b ||| (1#15 <<< node) else b &&& ~~~(1#15 <<< node)
  let bit := fun k => decide (w / 2 ^ k % 2 = 0)
  let n1 := 1 + w / 8
  let n2 := 3 + w / 4
  let n3 := 7 + w / 2
  set (set (set (set b 0 (bit 3)) n1 (bit 2)) n2 (bit 1)) n3 (bit 0)

end Sys2Proof.Machine
end

