-- ==== Sys2Proof/Machine/Store.lean ====
section
/-! DEFINITION. Reading and writing the stores above the rig through their codewords: cluster memory, pinned scratch,
HBM3 behind the cache of its home slices (R148 to R156, R165 to R171). Every access of every command to stored bytes
goes through `loadRange` and `storeRange`. -/

namespace Sys2Proof.Machine

/-- Who asks for stored data: a context and the IDs of its command (R132), 0xFFFF for none; `allocates` is false for
the transfers of context 0 (R155); `waits` is false where no requester waits for the data (R169). -/
structure Requester where
  ctx : Nat := 0xFFFF
  ids : Ids := {}
  allocates : Bool := true
  waits : Bool := true
deriving DecidableEq, Repr

/-- The requester for a command of cluster `c` that runs context `x`. -/
def State.requesterAt (s : State) (x c : Nat) : Requester := { ctx := x, ids := s.idsOf c }

/-- The store codes of OD 0x5032.01. -/
def storeCluster : Nat := 1
def storeCache : Nat := 2
def storeScratch : Nat := 3
def storeHbm : Nat := 4

/-- The fault code of an uncorrectable codeword by store (R171). -/
def uncorrectableCode (store : Nat) : Nat := 0x0300 + store

/-- The die and the unit that report an error at an offset (R326, R470). -/
def reporterOf (off : Nat) : Nat × Nat :=
  match placeOf off with
  | .cluster c _ => (0x20 + c / 200, c)
  | .scratch t _ => (0x10 + t, 0x1000 + t)
  | .hbm t _ => (0x10 + t, 0x1000 + t)
  | .mailbox _ _ => (0x30, 0x3000)
  | .reserved => (0x30, 0x3000)

/-- The syndromes that OD 0x5032.04 reports. -/
def syndromeBytes (p : ErrorPattern) : List Byte := syndromes p

/-- Record and raise the memory-error event 0x1201 (R168, R169, R493). -/
def State.memoryError (s : State) (store loc word : Nat) (syn : List Byte) (r : Requester) : State :=
  let lo := r.ids.layer + 0x1000000 * r.ids.operator
  let s1 := ((((((s.setReg 0x503201 store).setReg 0x503202 loc).setReg 0x503203 word).setBlob 0x503204 syn).setReg
    0x503205 r.ctx).setReg 0x503206 s.stamp).setReg 0x503207 lo
  let s2 := s1.setReg 0x503208 r.ids.step
  let (die, unit) := if store = 5 then (0x10 + loc / 0x20000, 0x1000 + loc / 0x20000) else reporterOf loc
  s2.raiseFor 0x1201 die unit r.ctx r.ids
    (leBytes 1 store ++ leBytes 8 loc ++ leBytes 1 word ++ padTo 8 syn ++ leBytes 2 r.ctx ++ leBytes 8 s.stamp ++
      leBytes 8 lo ++ leBytes 4 r.ids.step)

/-! ### Single codewords, numbered by device offset / 64 -/

/-- The stack under an HBM3 codeword. -/
def stackOfWord (w : Nat) : Option Nat :=
  match placeOf (64 * w) with
  | .hbm t o => some (stackOf t o)
  | _ => none

/-- The pattern of a codeword that `errors` does not list: marked inside the ranges of R340 step 8, less the stacks wiped
since, else none. -/
def markDefault (m : Memory) (w : Nat) : ErrorPattern :=
  if m.marks = [] then []
  else if (m.marks.any fun r => r.1 ≤ w && w < r.2) &&
      !(match stackOfWord w with | some k => m.unmarked.contains k | none => false) then complementedChecks
  else []

/-- Take the codewords from `lo` up to `hi` out of the marked ranges. -/
def carveMarks (marks : List (Nat × Nat)) (lo hi : Nat) : List (Nat × Nat) :=
  marks.flatMap fun r =>
    if hi ≤ r.1 || r.2 ≤ lo then [r]
    else [(r.1, lo), (hi, r.2)].filter fun q => q.1 < q.2

/-- The pattern of a stored codeword. -/
def State.storedPattern (s : State) (w : Nat) : ErrorPattern := s.memory.errors.get (markDefault s.memory w) w

/-- The pattern of a codeword as HBM3 delivers it: what is stored, and what the lost pins of its stack add. -/
def State.hbmPattern (s : State) (t w : Nat) : ErrorPattern :=
  let k := stackOf t (64 * w % 0x2400000000)
  match (s.stack k).retiredPins with
  | [] => s.storedPattern w
  | pins => patternAdd (s.storedPattern w) (pinPattern k w pins)

/-- Whether the stack under an HBM3 codeword serves it: in service, and with at most one lost data pin (R333). -/
def State.stackServes (s : State) (t w : Nat) : Bool :=
  let k := s.stack (stackOf t (64 * w % 0x2400000000))
  k.inService && k.retiredPins.length ≤ 1

/-- The pattern of the copy of a codeword that a resident line holds. -/
def State.residentPattern (s : State) (w : Nat) : ErrorPattern := s.memory.lineErrors.get [] w

/-- Set the pattern of a stored codeword; one equal to its default is not listed. -/
def State.setStored (s : State) (w : Nat) (p : ErrorPattern) : State :=
  { s with memory := { s.memory with
      errors := if p = markDefault s.memory w then s.memory.errors.dropKeys (· = w) else s.memory.errors.set w p } }

/-- Set the pattern of a resident codeword. -/
def State.setResident (s : State) (w : Nat) (p : ErrorPattern) : State :=
  { s with memory := { s.memory with
      lineErrors := if p = [] then s.memory.lineErrors.dropKeys (· = w) else s.memory.lineErrors.set w p } }

/-- The bytes held from `off` upwards. -/
def State.held (s : State) (off n : Nat) : List Byte := s.memory.cells.readBytes off n

/-- Put bytes at `off`. -/
def State.putBytes (s : State) (off : Nat) (d : List Byte) : State :=
  { s with memory := { s.memory with cells := s.memory.cells.writeBytes off d } }

/-- Write a codeword back in corrected form (R167): where a decoder took seven errors and more for another codeword
(R166), the bytes held become that codeword's. -/
def State.applyLeft (s : State) (w : Nat) (left : ErrorPattern) : State :=
  if left = [] then s
  else s.putBytes (64 * w) ((s.held (64 * w) 64).mapIdx fun i b => b ^^^ patternAt left i)

/-- Queue a corrected codeword for its write-back in corrected form (R167). -/
def State.queueWriteback (s : State) (w : Nat) : State :=
  { s with memory := { s.memory with writebacks := s.memory.writebacks ++ [w] } }

/-- The stored copy of a codeword is written in corrected form, after a decoding that left `left` (R167); a resident copy of the
line keeps its bytes. -/
def State.correctStored (s : State) (w : Nat) (left : ErrorPattern) (resident : Bool) : State :=
  if resident then s.setStored w left else (s.applyLeft w left).setStored w []

/-- The resident copy of a codeword is written in corrected form; the stored copy keeps its bytes. -/
def State.correctResident (s : State) (w : Nat) (left : ErrorPattern) : State :=
  let s1 := (s.applyLeft w left).setResident w []
  if left = [] then s1 else s1.setStored w (patternAdd (s.storedPattern w) left)

/-- Count a corrected codeword of a store (R167), in cluster memory with the counter of R75 too. -/
def State.countCorrected (s : State) (store off : Nat) : State :=
  let s1 := s.countReg (0x503000 + store) 64 1
  match placeOf off with
  | .cluster c _ => s1.bump c 0x01A0 32 1
  | _ => s1

/-- Zero a range of bytes (R159, R175, R309). -/
def State.zeroRange (s : State) (off n : Nat) : State :=
  { s with memory := { s.memory with cells := s.memory.cells.clearRange off (off + n) } }

/-- Wipe a range: zero data with valid check bytes, no marked codeword (R175). -/
def State.wipeRange (s : State) (off n : Nat) : State :=
  let m := s.memory
  let within := fun w => off ≤ 64 * w && 64 * w < off + n
  { s with memory := { m with
      cells := m.cells.clearRange off (off + n)
      errors := m.errors.dropKeys within
      marks := carveMarks m.marks (ceilDiv off 64) (ceilDiv (off + n) 64)
      lineErrors := m.lineErrors.dropKeys within
      writebacks := m.writebacks.filter fun w => !within w } }

/-- Write a codeword that was read with pattern `p` as marked (R169, R170). -/
def State.markStored (s : State) (w : Nat) (p : ErrorPattern) : State :=
  (s.setStored w (markOf p)).countReg 0x503105 64 1

/-- The data bytes that a correction leaves changed (seven errors and more, R166). -/
def leftOver (left : ErrorPattern) (i : Nat) (b : Byte) : Byte := b ^^^ patternAt left i

/-- What a read of one codeword finds. -/
inductive WordRead where
  | data (left : ErrorPattern) (corrected : Bool)
  | faulty (code : Nat)
deriving DecidableEq, Repr

/-- Count and report what decoding a codeword of store `store` at offset `off` found (R167 to R170). -/
def State.judge (s : State) (store off : Nat) (p : ErrorPattern) (dirtyOrStored : Nat) (r : Requester) : WordRead × State :=
  match decodePattern p with
  | .clean => (.data [] false, s)
  | .corrected left =>
    (.data left true, (s.countCorrected store off).queueWriteback (off / 64))
  | .marked => (.faulty 0x0305, (s.countReg 0x503106 64 1).memoryError store off (off / 64 % 2) (syndromeBytes p) r)
  | .uncorrectable =>
    (.faulty dirtyOrStored,
      (s.countReg (0x503100 + store) 64 1).memoryError store off (off / 64 % 2) (syndromeBytes p) r)

/-! ### Lines of HBM3 at their home slices (R154, R155) -/

/-- The line number of an HBM3 offset within its tower (R154). -/
def lineOf (o : Nat) : Nat := o / 128

/-- The device offset of line `l` of tower `t`. -/
def lineOffset (t l : Nat) : Nat := 0x2400000000 * t + 128 * l

/-- A set as it stands. -/
def State.cacheSet (s : State) (k : Nat) : CacheSet := s.memory.sets.get {} k

/-- Replace a set. -/
def State.setSet (s : State) (k : Nat) (c : CacheSet) : State :=
  { s with memory := { s.memory with sets := s.memory.sets.set k c } }

/-- The way that holds line `l`, with its dirty flag. -/
def CacheSet.find (c : CacheSet) (l : Nat) : Option (Nat × Bool) :=
  match c.ways.findIdx? (fun w => match w with | some (m, _) => m = l | none => false) with
  | some i => match c.ways.getD i none with
    | some (_, d) => some (i, d)
    | none => none
  | none => none

/-- Whether line `l` of tower `t` is resident: its set's key, way and dirty flag. -/
def State.residentLine (s : State) (t l : Nat) : Option (Nat × Nat × Bool) :=
  match s.setKey t l with
  | none => none
  | some k => match (s.cacheSet k).find l with
    | some (w, d) => some (k, w, d)
    | none => none

/-- Write one codeword of a dirty line to HBM3 (R155, R169): an uncorrectable or marked one goes as marked. -/
def State.writeBackWord (s : State) (w : Nat) : State :=
  let p := s.residentPattern w
  let s1 := s.setResident w []
  match decodePattern p with
  | .clean => s1.setStored w []
  | .corrected left => ((s1.countReg 0x503002 64 1).applyLeft w left).setStored w []
  | .marked => s1.setStored w (markOf p)
  | .uncorrectable =>
    ((s1.countReg 0x503102 64 1).markStored w p).memoryError storeCache (64 * w) (w % 2) (syndromeBytes p) {}

/-- Write a dirty line back (R155). -/
def State.writeBackLine (s : State) (t l : Nat) : State :=
  let w := lineOffset t l / 64
  (s.writeBackWord w).writeBackWord (w + 1)

/-- Forget the resident copy's patterns of a line. -/
def State.dropResident (s : State) (t l : Nat) : State :=
  let w := lineOffset t l / 64
  (s.setResident w []).setResident (w + 1) []

/-- Evict a way of a set (R155). -/
def State.evict (s : State) (t k way : Nat) : State :=
  let c := s.cacheSet k
  match c.ways.getD way none with
  | none => s
  | some (l, dirty) =>
    let s1 := if dirty then s.writeBackLine t l else s.dropResident t l
    s1.setSet k { c with ways := setAt way none c.ways }

/-- The way that a new line takes: an empty one, else the one that the tree points to (R155). -/
def CacheSet.place (c : CacheSet) : Nat :=
  match c.ways.findIdx? (· = none) with
  | some i => i
  | none => plruVictim c.plru

/-- Fill one codeword of a line that is being allocated (R155, R167, R169): a bad one goes into the line as marked.
The codewords in `skip` have been decoded already, or are about to be replaced whole. A corrected one stays as it is in HBM3
until its write-back (R167). -/
def State.fillWord (s : State) (skip : List Nat) (w : Nat) : State :=
  let p := s.hbmPattern (64 * w / 0x2400000000) w
  if skip.contains w then s.setResident w []
  else
    match decodePattern p with
    | .clean => s.setResident w []
    | .corrected left => ((s.correctResident w left).countCorrected storeHbm (64 * w)).queueWriteback w
    | .marked => s.setResident w (markOf p)
    | .uncorrectable =>
      (((s.setResident w (markOf p)).countReg 0x503104 64 1).countReg 0x503105 64 1).memoryError storeHbm
        (64 * w) (w % 2) (syndromeBytes p) {}

/-- Allocate line `l` (R155), evicting what stands in its way; `dirty` for a write. -/
def State.allocate (s : State) (t l : Nat) (dirty : Bool) (skip : List Nat) : State :=
  match s.setKey t l with
  | none => s
  | some k =>
    let way := (s.cacheSet k).place
    let s1 := s.evict t k way
    let c := s1.cacheSet k
    let s2 := s1.setSet k { c with ways := setAt way (some (l, dirty)) c.ways, plru := plruTouch c.plru way }
    let w := lineOffset t l / 64
    (s2.fillWord skip w).fillWord skip (w + 1)

/-- Touch a resident line, and mark it dirty for a write. -/
def State.touch (s : State) (k way l : Nat) (dirty : Bool) : State :=
  let c := s.cacheSet k
  s.setSet k { c with ways := setAt way (some (l, dirty)) c.ways, plru := plruTouch c.plru way }

/-- Whether tower `t` allocates lines: not from the start of a partition change (R159 step 1). -/
def State.allocates (s : State) (t : Nat) (r : Requester) : Bool :=
  r.allocates && (s.tower t).change.isNone

/-- Whether every codeword of the extent within a line is covered whole. -/
def coversWord (off n w : Nat) : Bool := off ≤ 64 * w && 64 * (w + 1) ≤ off + n

/-- Read from one HBM3 line: decode the codewords that the extent touches, in the resident copy or in HBM3, allocating
on a miss. A clean line found uncorrectable is dropped and read again from HBM3, and counted if that serves it (R168). A stack
out of service delivers no codeword, and the access faults with its code alone (R333 kind 7; DEDUCED, log 21). -/
def State.readHbmWord (s : State) (t l w : Nat) (r : Requester) : WordRead × State :=
  match s.residentLine t l with
  | some (k, way, dirty) =>
    match decodePattern (s.residentPattern w) with
    | .uncorrectable =>
      if dirty then s.judge storeCache (64 * w) (s.residentPattern w) 0x0302 r
      else
        let c := s.cacheSet k
        let s1 := (s.dropResident t l).setSet k { c with ways := setAt way none c.ways }
        if !s1.stackServes t w then (.faulty 0x0304, s1)
        else
          match s1.judge storeHbm (64 * w) (s1.hbmPattern t w) 0x0304 r with
          | (.data left corrected, s2) => (.data left corrected, s2.countReg 0x503107 64 1)
          | bad => bad
    | _ => s.judge storeCache (64 * w) (s.residentPattern w) 0x0302 r
  | none =>
    if !s.stackServes t w then (.faulty 0x0304, s) else s.judge storeHbm (64 * w) (s.hbmPattern t w) 0x0304 r

/-- Make line `l` resident after a good access, or touch it (R155). -/
def State.settleLine (s : State) (t l : Nat) (write : Bool) (skip : List Nat) (r : Requester) : State :=
  match s.residentLine t l with
  | some (k, way, dirty) => s.touch k way l (dirty || write)
  | none => if s.allocates t r then s.allocate t l write skip else s

/-! ### Ranges -/

/-- The stored pattern and the store of a codeword outside HBM3. -/
def storeAt (off : Nat) : Nat :=
  match placeOf off with
  | .cluster _ _ => storeCluster
  | .scratch _ _ => storeScratch
  | .hbm _ _ => storeHbm
  | .mailbox _ _ => 0
  | .reserved => 0

/-- Read one codeword (the codeword of `off`) for a requester. Mailboxes lie in hub memory, which has no codeword of
R165 (R171 gives it no store code). -/
def State.readWord (s : State) (off : Nat) (r : Requester) : WordRead × State :=
  match placeOf off with
  | .hbm t o => s.readHbmWord t (lineOf o) (off / 64) r
  | .cluster _ _ => s.judge storeCluster (64 * (off / 64)) (s.storedPattern (off / 64)) 0x0301 r
  | .scratch _ _ => s.judge storeScratch (64 * (off / 64)) (s.storedPattern (off / 64)) 0x0303 r
  | .mailbox _ _ => (.data [] false, s)
  | .reserved => (.faulty 0x0306, s)

/-- After a good access to the codeword of `off`: residency. -/
def State.settle (s : State) (off : Nat) (write : Bool) (skip : List Nat) (r : Requester) : State :=
  match placeOf off with
  | .hbm t o => s.settleLine t (lineOf o) write skip r
  | _ => s

/-- The codewords that an extent touches, by their first offsets. -/
def wordsOf (off n : Nat) : List Nat :=
  if n = 0 then [] else (List.range ((off + n - 1) / 64 - off / 64 + 1)).map fun i => 64 * (off / 64 + i)

/-- The bytes of the extent that lie in the codeword at `w`, as the decoder delivers them. -/
def State.delivered (s : State) (off n w : Nat) (left : ErrorPattern) : List Byte :=
  let lo := max off w
  let hi := min (off + n) (w + 64)
  (s.held lo (hi - lo)).mapIdx fun i b => leftOver left (lo + i - w) b

/-- Read codewords one after another; the first fault is kept and its data is not delivered (R168). -/
def State.loadWords (s : State) (off n : Nat) (r : Requester) : List Nat → List Byte → Option Nat → List Byte × Option Nat × State
  | [], acc, f => (acc, f, s)
  | w :: ws, acc, f =>
    match s.readWord w r with
    | (.data left _, s1) => s1.loadWords off n r ws (acc ++ s1.delivered off n w left) f
    | (.faulty code, s1) => s1.loadWords off n r ws acc (f.or (some code))

/-- After a good access to every codeword of `ws`: residency of their lines (R155). An access that meets a bad codeword
allocates no line. -/
def State.settleAll (s : State) (ws : List Nat) (write : Bool) (r : Requester) : State :=
  ws.foldl (fun s w => s.settle w write (ws.map (· / 64)) r) s

/-- Read an extent: its bytes, or the fault code of its requester (R149, R168, R171). -/
def State.loadRange (s : State) (off n : Nat) (r : Requester) : Except Nat (List Byte) × State :=
  if n = 0 then (.ok [], s)
  else if !s.extentPopulated off n then (.error 0x0306, s)
  else
    match s.loadWords off n r (wordsOf off n) [] none with
    | (d, none, s1) => (.ok d, s1.settleAll (wordsOf off n) false r)
    | (_, some code, s1) => (.error code, s1)

/-- What stands in the way of a write onto the codeword at `w` (R168): a write of the whole codeword replaces it; a
partial one reads it first, and is not applied onto an uncorrectable or marked codeword. -/
def State.checkWord (s : State) (off n w : Nat) (r : Requester) : WordRead × State :=
  let dead := match placeOf w with
    | .hbm t o => (s.residentLine t (lineOf o)).isNone && !s.stackServes t (w / 64)
    | _ => false
  if dead then (.faulty 0x0304, s)
  else if coversWord off n (w / 64) then (.data [] false, s)
  else s.readWord w r

/-- Check codewords one after another: those that the write may be applied to, and the first fault. -/
def State.checkWords (s : State) (off n : Nat) (r : Requester) :
    List Nat → List (Nat × ErrorPattern) → Option Nat → List (Nat × ErrorPattern) × Option Nat × State
  | [], acc, f => (acc, f, s)
  | w :: ws, acc, f =>
    match s.checkWord off n w r with
    | (.data left _, s1) => s1.checkWords off n r ws (acc ++ [(w, left)]) f
    | (.faulty code, s1) => s1.checkWords off n r ws acc (f.or (some code))

/-- Write the part of an extent that lies in the codeword at `w`, whose decoding left the errors `left`. -/
def State.writeWord (s : State) (off : Nat) (d : List Byte) (w : Nat) (left : ErrorPattern) (r : Requester) : State :=
  let n := d.length
  let lo := max off w
  let hi := min (off + n) (w + 64)
  let s1 := s.settle w true ((wordsOf off n).map (· / 64)) r
  let s2 := (s1.applyLeft (w / 64) left).putBytes lo (subBytes d (lo - off) (hi - lo))
  let s3 := { s2 with memory := { s2.memory with writebacks := s2.memory.writebacks.filter (· ≠ w / 64) } }
  match placeOf w with
  | .hbm t o =>
    match s3.residentLine t (lineOf o) with
    | some _ => s3.setResident (w / 64) []
    | none => s3.setStored (w / 64) []
  | _ => s3.setStored (w / 64) []

/-- Write codewords: each one that may be written, and the first fault of the others. -/
def State.storeWords (s : State) (off : Nat) (d : List Byte) (r : Requester) (ws : List Nat) : Option Nat × State :=
  match s.checkWords off d.length r ws [] none with
  | (l, f, s1) =>
    (f, l.foldl (fun s e => s.writeWord off d e.1 e.2 { r with allocates := r.allocates && f.isNone }) s1)

/-- Write an extent: nothing, or the fault code of its requester (R149, R168). -/
def State.storeRange (s : State) (off : Nat) (d : List Byte) (r : Requester) : Option Nat × State :=
  if d.length = 0 then (none, s)
  else if !s.extentPopulated off d.length then (some 0x0306, s)
  else s.storeWords off d r (wordsOf off d.length)

/-! ### Transfers that no requester waits for (R155, R169): saves, restores and dump copies -/

/-- The pattern under which a codeword reads: that of the resident copy, or that of its store. -/
def State.patternOf (s : State) (w : Nat) : ErrorPattern :=
  match placeOf (64 * w) with
  | .hbm t o => if (s.residentLine t (lineOf o)).isSome then s.residentPattern w else s.hbmPattern t w
  | _ => s.storedPattern w

/-- The store that a codeword is read from: the cache where its line is resident. -/
def State.storeOf (s : State) (w : Nat) : Nat :=
  match placeOf (64 * w) with
  | .hbm t o => if (s.residentLine t (lineOf o)).isSome then storeCache else storeHbm
  | _ => storeAt (64 * w)

/-- Where the pattern of a codeword that is written in place belongs. -/
def State.setPattern (s : State) (w : Nat) (p : ErrorPattern) : State :=
  match placeOf (64 * w) with
  | .hbm t o => if (s.residentLine t (lineOf o)).isSome then s.setResident w p else s.setStored w p
  | _ => s.setStored w p

/-- Codewords in a range of offsets that can hold errors: those listed, and all of them where pins are lost. -/
def State.suspectWords (s : State) (off n : Nat) : List Nat :=
  let within := fun w => off ≤ 64 * w && 64 * w < off + n
  if s.memory.hbm.entries.any fun e => e.2.retiredPins ≠ [] then (wordsOf off n).map (· / 64)
  else
    let marked := if s.memory.marks = [] then [] else
      ((wordsOf off n).map (· / 64)).filter fun w => markDefault s.memory w ≠ []
    ((s.memory.errors.keys ++ s.memory.lineErrors.keys).filter within ++ marked).eraseDups

/-- Pass one codeword of a transfer on (R167, R169): corrected ones are counted, uncorrectable and marked ones arrive
as marked codewords. -/
def State.passWord (s : State) (src dst w : Nat) : State :=
  let store := s.storeOf w
  let dest := (64 * w - src + dst) / 64
  let p := s.patternOf w
  match decodePattern p with
  | .clean => s
  | .corrected left => ((s.countCorrected store (64 * w)).queueWriteback w).applyLeft dest left
  | .marked => (s.setPattern dest (markOf p)).countReg 0x503105 64 1
  | .uncorrectable =>
    (((s.setPattern dest (markOf p)).countReg 0x503105 64 1).countReg (0x503100 + store) 64 1).memoryError store
      (64 * w) (w % 2) (syndromeBytes p) {}

/-- Lines of a range that are resident become dirty when a transfer updates them in place (R155). -/
def State.dirtyRange (s : State) (off n : Nat) : State :=
  { s with memory := { s.memory with sets := s.memory.sets.mapVals fun k c =>
      let t := k / 4096 / 200
      { c with ways := c.ways.map fun w => w.map fun e =>
          let a := lineOffset t e.1
          if off < a + 128 && a < off + n then (e.1, true) else e } } }

/-- Copy `n` bytes from `src` to `dst` as context 0 does (R155, R169). -/
def State.moveStore (s : State) (src dst n : Nat) : State :=
  let words := s.suspectWords src n
  let within := fun w => dst ≤ 64 * w && 64 * w < dst + n
  let m := s.memory
  let s1 := { s with memory := { m with
    cells := m.cells.copyRange src dst n
    errors := m.errors.dropKeys within
    marks := carveMarks m.marks (ceilDiv dst 64) (ceilDiv (dst + n) 64)
    lineErrors := m.lineErrors.dropKeys within
    writebacks := m.writebacks.filter fun w => !within w } }
  words.foldl (fun s w => s.passWord src dst w) (s1.dirtyRange dst n)

end Sys2Proof.Machine
end

