-- ==== Sys2Proof/Machine/ContextOps.lean ====
section
/-! DEFINITION. Shared operations on contexts: classes, faults (R146, R147), tallies (R126, R127), and requests that
are addressed to a context's cluster memory (R141). -/

namespace Sys2Proof.Machine

/-! ### Classes (R114) and states (R111) -/

/-- Whether cluster `c` is a member of a class: bit (c mod 8) of byte floor(c / 8) (R113). -/
def inClass (cls : List Nat) (c : Nat) : Bool := cls.contains c

/-- Member index of cluster `c` (R114); `cls` is in ascending order. -/
def memberIndex (cls : List Nat) (c : Nat) : Nat := (cls.findIdx? (· = c)).getD 0

/-- The clusters of a class value of 100 bytes (R113). -/
def classOfBytes (b : List Byte) : List Nat := (List.range 800).filter fun c => (b.getD (c / 8) 0).getLsbD (c % 8)

/-- The 100 bytes of a class. -/
def bytesOfClass (cls : List Nat) : List Byte :=
  (List.range 100).map fun i =>
    BitVec.ofNat 8 (sumOf (fun k => if cls.contains (8 * i + k) then 2 ^ k else 0) (List.range 8))

/-- The code of a context state (R111). -/
def CtxState.code : CtxState → Nat
  | .closed => 0
  | .opened => 1
  | .bound => 2
  | .saving => 3
  | .parked => 4
  | .restoring => 5
  | .faulted => 6
  | .held => 7

/-- The state as OD 0x7nnn.01 reports it (R111): a PARKED image and a FAULTED one read their own codes. -/
def Ctx.code (x : Ctx) : Nat := x.state.code

/-- The slate unit of the hub (R470). -/
def hubUnit : Nat := 0x3000

/-- A critical value fails its complement (R173): counted, recorded and raised. -/
def State.criticalMismatch (s : State) (kind item : Nat) : State :=
  (((s.countReg 0x505001 32 1).setReg 0x505002 kind).setReg 0x505003 item).raise 0x1202 s.hubDie hubUnit
    (leBytes 1 kind ++ leBytes 4 item)

/-- Change a context's state, with its slate entry in the hub (R112, record 0xF007). -/
def State.setState (s : State) (x : Nat) (new : CtxState) : State :=
  let old := (s.ctx x).state
  let s1 := s.modCtx x fun k => { k with state := new }
  s1.slateOnly hubUnit 0xF007 x {} (leBytes 1 old.code ++ leBytes 1 new.code)

/-- Add to a context's bound time up to now (OD 0x7nnn.0F). -/
def Ctx.stopBoundTime (k : Ctx) (now : Nat) : Ctx := { k with boundTime := k.boundTime + (now - k.boundAt) }

/-! ### Faults (R146, R147) -/

/-- OD 0x7nnn.0D: the cluster or 0x3FF, the engine or 0xF, and what the code's row of R147 gives. -/
def faultDetail (cluster engine extra : Nat) : Nat := cluster + 1024 * engine + 16384 * extra

/-- No single cluster, no engine (R147). -/
def noCluster : Nat := 0x3FF
def noEngine : Nat := 0xF

/-- A bit field of a descriptor (R119). -/
def descField (d : BitVec 512) (hi lo : Nat) : Nat := bitsOf d.toNat hi lo

/-- The descriptor with ring index `j`, if it has been fetched. -/
def descriptorAt (k : Ctx) (j : Nat) : Option (BitVec 512) := SMap.lookup k.descriptors.entries j

/-- The IDs of a command (R132). -/
def dIds (x : Nat) (d : BitVec 512) : Ids :=
  { ctx := x, layer := descField d 47 24, operator := descField d 63 48, step := descField d 95 64 }

/-- The IDs of the command that a fault concerns (R132, R146): those of the cluster's command where the fault arose at
one cluster, otherwise those of the fetched descriptor with that ring index. -/
def State.faultIds (s : State) (x cluster ring : Nat) : Ids :=
  if cluster < 800 then s.idsOf cluster
  else
    match descriptorAt (s.ctx x) ring with
    | some d => dIds x d
    | none => {}

/-- The ring index of the command that a member is at. -/
def State.memberRing (s : State) (x c : Nat) : Nat := (((s.ctx x).members.get {} c).next)

/-- A running collective after a listed context has stopped (R233): none once all of them have. -/
def Collective.after (r : Collective) (x now : Nat) : Option Collective :=
  if !r.ctxs.contains x then some r
  else
    let l := x :: r.stopped.erase x
    if r.ctxs.all l.contains then none
    else some ({ r with stopped := l, stoppedAt := some (r.stoppedAt.getD now) } : Collective)

/-- Store a plan (R213). -/
def State.storePlan (s : State) (n : Nat) (payload : List Byte) : State :=
  let h := payload.length / 2
  { s with coll := { s.coll with
      plans := s.coll.plans.set n { image := payload.take h, complement := payload.drop h, loaded := s.now } } }

/-- A plan commit that waited applies once every tack it waits for has ended (R213). -/
def State.settlePlan (s : State) : State :=
  match s.coll.pendingPlan with
  | none => s
  | some (n, payload) =>
    let waits := s.coll.queue.any (·.marked) || (match s.coll.tack with | some t => t.marked | none => false)
    if waits then s
    else
      let s1 := ({ s with coll := { s.coll with pendingPlan := none } }.storePlan n payload).setReg 0x410003 0
      s1.setCommitPending 0x41 false

/-- A context's members no longer wait for a join (R220: until the join, its periods end as any). -/
def State.leaveJoins (s : State) (x : Nat) : State :=
  { s with coll := { s.coll with
      joins := s.coll.joins.filterMap fun j =>
        let l := j.members.filter fun m => m.1 ≠ x
        if l = [] then none else some { j with members := l } } }

/-- A context leaves its collectives, by a fault or a CLOSE (R233): those that run are stopped, their claims are
released, and the requests they queued are withdrawn; one that waits for its join loses the context's members. -/
def State.stopCollectives (s : State) (x : Nat) : State :=
  let s := s.leaveJoins x
  let k := s.coll
  let hit := (k.running.filter fun r => r.ctxs.contains x).map (·.seq)
  State.settlePlan { s with coll := { k with
      running := k.running.filterMap fun r => r.after x s.now
      claims := k.claims.filter fun e => !hit.contains e.1
      queue := k.queue.filter fun q => match q.coll with | some n => !hit.contains n | none => true } }

/-- A context faults (R112, R146): code, ring index and detail are recorded, the event is raised, every member stops
under steps 1 to 3 of R140 (`ending`), and the context becomes FAULTED. Only a BOUND, SAVING or RESTORING context
faults; a fault found for any other is recorded and raised, and its state stays (DESIGN CHOICE, log 13). A context that
is FAULTED keeps its first fault. -/
def State.faultCtx (s : State) (x code cluster engine extra ring : Nat) : State :=
  let k := s.ctx x
  if k.state = .faulted then s
  else
    let detail := faultDetail cluster engine extra
    let ids := s.faultIds x cluster ring
    let (die, unit) := if cluster < 800 then (0x20 + cluster / 200, cluster) else (s.hubDie, hubUnit)
    let s1 := s.modCtx x fun k =>
      { k with faultCode := code, faultCommand := ring % 4294967296, faultDetail := detail }
    let s2 := s1.raiseFor 0x1001 die unit x ids (leBytes 2 code ++ leBytes 4 ring ++ leBytes 8 detail)
    let s2 := s2.stopCollectives x
    if k.state = .bound then
      (s2.setState x .faulted).modCtx x fun k =>
        let k := k.stopBoundTime s.now
        { k with ending := true, holds := true, deferredSince := none }
    else if k.state = .saving then
      (s2.setState x .faulted).modCtx x fun k => { k with saveRunning := true, holds := true }
    else if k.state = .restoring then
      (s2.setState x .faulted).modCtx x fun k => { k with restoreRunning := true, holds := true, ending := true }
    else s2

/-- A fault at a cluster, by the command that the cluster's member is at. -/
def State.faultAt (s : State) (x c code engine extra : Nat) : State :=
  s.faultCtx x code c engine extra (s.memberRing x c)

/-! ### Tallies (R126 to R128) -/

/-- The local address of tally `t` (R126). -/
def tallyAddress (t : Nat) : Nat := 0x2FFC00 + 4 * t

/-- Add to the 32-bit word at a device offset, modulo 2^32 (R126), or answer the memory fault code. -/
def State.addWord (s : State) (off amount : Nat) (r : Requester) : Option Nat × State :=
  match s.loadRange off 4 r with
  | (.error code, s1) => (some code, s1)
  | (.ok d, s1) => s1.storeRange off (leBytes 4 (leNat d + amount)) r

/-- The value of tally `t` of cluster `c`, as a wait sees it. -/
def State.tally (s : State) (c t : Nat) : Nat := leNat (s.held (clusterOffset c (tallyAddress t)) 4)

/-- A wait on threshold `v` is satisfied when (tally - v) mod 2^32 is less than 2^31 (R126). -/
def waitSatisfied (tally v : Nat) : Bool := (4294967296 + tally - v % 4294967296) % 4294967296 < 2147483648

/-- Fields of a tally reference (R127). -/
def refTally (r : BitVec 24) : Nat := bitsOf r.toNat 7 0
def refCluster (r : BitVec 24) : Nat := bitsOf r.toNat 17 8
def refDevice (r : BitVec 24) : Nat := bitsOf r.toNat 23 18

/-- Whether a tally reference is valid for a context (R127). -/
def validRef (cls : List Nat) (r : BitVec 24) : Bool :=
  let c := refCluster r
  let d := refDevice r
  !(800 ≤ c && c ≤ 1022) && !(48 ≤ d && d ≤ 62) && !(c = 0x3FF && d ≠ 63) &&
  !(d = 63 && c ≠ 0x3FF && !inClass cls c)

/-! ### Images (R74, R140, R141, R143) -/

/-- The device offset of member `i`'s image (R143). -/
def imageOffset (base i : Nat) : Nat := base + 4096 + 3747840 * i

/-- The image of cluster `c` of context `x`. -/
def State.imageOf (s : State) (x c : Nat) : Nat := imageOffset (s.ctx x).saveBase (memberIndex (s.ctx x).cls c)

/-- The 144 header bytes (R143). -/
def saveHeader (x : Nat) (k : Ctx) (imageState time : Nat) : List Byte :=
  leBytes 2 x ++ leBytes 2 k.cls.length ++ leBytes 4 imageState ++ leBytes 4 k.consumer.toNat ++ leBytes 4 0 ++
  bytesOfClass k.cls ++ leBytes 12 0 ++ leBytes 8 time ++ leBytes 8 k.imageRequests

/-- The requester of the transfers of context 0 (R155): it never allocates, and no context faults. -/
def hubRequester : Requester := { ctx := 0xFFFF, allocates := false, waits := false }

/-- Write the header and its complement (R143). -/
def State.writeHeader (s : State) (x imageState time : Nat) : State :=
  let h := saveHeader x (s.ctx x) imageState time
  let b := (s.ctx x).saveBase
  let (_, s1) := s.storeRange b h hubRequester
  let (_, s2) := s1.storeRange (b + 0x800) (complementBytes h) hubRequester
  s2

/-! ### Requests addressed to cluster memory (R141, R72) -/

/-- Where a request addressed to cluster `c` of context `x` goes, by the context's state (R141). -/
inductive Delivery where
  | memory | image | stall | refuse
deriving DecidableEq, Repr

/-- The handling of R141. A cluster outside the context's class holds nothing of it and is refused likewise. -/
def State.deliveryOf (s : State) (x c : Nat) : Delivery :=
  let k := s.ctx x
  if !inClass k.cls c then .refuse
  else
    match k.state with
    | .bound => .memory
    | .saving => .stall
    | .restoring => if (s.cluster c).bound = some x then .stall else .image
    | .faulted =>
      if k.saveRunning then .stall
      else if k.restoreRunning then (if (s.cluster c).bound = some x then .stall else .image)
      else if k.holds then .memory else .image
    | .parked => .image
    | .held => .image
    | .closed => .refuse
    | .opened => .refuse

/-- What a request at its target answers (R274), `stalled` when it waits here, `sent` when it has left for another
device, or the fault code that its requester takes. -/
inductive Answer where
  | data (d : List Byte)
  | ack
  | old (d : List Byte)
  | error (code : Nat)
  | stalled
  | sent
deriving DecidableEq, Repr

/-- The offset of the tally word that a request's REF names, in the aperture of its cluster. -/
def refOffset (r : BitVec 24) (own : Nat) : Nat :=
  clusterOffset (if refCluster r = 0x3FF then own else refCluster r) (tallyAddress (refTally r))

/-- The place of a cluster-memory offset for a request: itself, or its place in the saved image. -/
def State.placeFor (s : State) (x off : Nat) (d : Delivery) : Nat :=
  match placeOf off, d with
  | .cluster c a, .image => s.imageOf x c + a
  | _, _ => off

/-- Count a request applied to an image (OD 0x7nnn.14). -/
def State.countImage (s : State) (x : Nat) (d : Delivery) : State :=
  match d with
  | .image => s.modCtx x fun k => { k with imageRequests := k.imageRequests + 1 }
  | _ => s

/-- Perform the plain accesses of a request at `off` (already resolved): LOAD, STORE, BULK_WRITE (R187, R277). -/
def State.plainAccess (s : State) (op off len : Nat) (data : List Byte) (r : Requester) : Answer × State :=
  if op = 0x20 then
    match s.loadRange off len r with
    | (.ok d, s1) => (.data d, s1)
    | (.error code, s1) => (.error code, s1)
  else
    match s.storeRange off data r with
    | (none, s1) => (.ack, s1)
    | (some code, s1) => (.error code, s1)

/-- Bytes of a request in a hold buffer: a head and whole data flits of 128 bytes (DESIGN CHOICE, log 40). -/
def holdBytes (q : Req) : Nat := 128 + 128 * ceilDiv q.data.length 128

/-- Whether a tower's hold buffer of 256 KiB has no room for a request (R141). -/
def State.holdFull (s : State) (t : Nat) (q : Req) : Bool := 262144 < sumOf holdBytes (s.tower t).hold + holdBytes q

/-- A tower's rig interface withholds credits, from now on if it does not yet (R141, R196). -/
def State.withhold (s : State) (t : Nat) : State :=
  { s with rig := { s.rig with withheld := s.rig.withheld.start t s.now } }

/-- Hold a request in its tower's hold buffer (R141). A request of this device's own clusters that finds it full waits behind
the withheld credits, in the same order (DESIGN CHOICE, log 40). -/
def State.holdRequest (s : State) (t : Nat) (q : Req) : State :=
  (if s.holdFull t q then s.withhold t else s).modTower t fun k => { k with hold := k.hold ++ [q] }

/-- Whether the bell holds a request for cluster memory: everything but reads (R462). -/
def State.bellHolds (s : State) (op : Nat) : Bool := s.belled && op ≠ 0x20

/-- Perform a request that is addressed to cluster `c`'s memory of context `q.ctx` (R141). A context whose cluster
state an abrupt reset has lost answers 0x0703 (R341). What is for a stopped zone stays in the crossings into it (R376). A tally increment is given
by TALLY_INC, and by the REF of a BULK_WRITE that carries one, applied after the data (R128). -/
def State.clusterAccess (s : State) (c : Nat) (q : Req) (r : Requester) : Answer × State :=
  let d := if (s.ctx q.ctx).clusterLost then .refuse else s.deliveryOf q.ctx c
  match d with
  | .refuse => (.error (if (s.ctx q.ctx).clusterLost then 0x0703 else 0x0205), s)
  | .stall => (.stalled, s.holdRequest (c / 200) q)
  | d =>
    if s.bellHolds q.op then (.stalled, { s with dbg := { s.dbg with held := s.dbg.held ++ [q] } })
    else if d = .memory && (s.region (zoneOf c)).stopped then
      (.stalled, s.modRegion (zoneOf c) fun k => { k with crossing := k.crossing ++ [q] })
    else
      let s0 := s.countImage q.ctx d
      if q.op = 0x22 then
        match s0.addWord (s.placeFor q.ctx (refOffset q.ref c) d) q.refAmt r with
        | (none, s1) => (.ack, s1)
        | (some code, s1) => (.error code, s1)
      else
        let off := s.placeFor q.ctx q.addr d
        s0.plainAccess q.op off (if q.op = 0x20 then q.len else q.data.length) q.data r

/-! ### The mesh (R69, R71) -/

/-- Mesh row and column of a cluster on its compute die (R69): H1's columns follow H0's. -/
def meshRow (c : Nat) : Nat := c % 100 / 10
def meshColumn (c : Nat) : Nat := c % 200 / 100 * 10 + c % 10

/-- The cluster at a row and column of the mesh of cluster `c`'s die. -/
def meshAt (c row column : Nat) : Nat := c / 200 * 200 + column / 10 * 100 + row * 10 + column % 10

/-- The links that a packet leaves by, from cluster `a` to `b` of one compute die (R71): along the row to the target column,
then along the column. Links are 0 north, 1 east, 2 south, 3 west; row 0 is the northernmost (DESIGN CHOICE, log 98). -/
def meshRoute (a b : Nat) : List (Nat × Nat) :=
  let r := meshRow a
  let x := meshColumn a
  let y := meshColumn b
  (if x ≤ y then (List.range (y - x)).map fun i => (meshAt a r (x + i), 1)
    else (List.range (x - y)).map fun i => (meshAt a r (x - i), 3)) ++
  (if r ≤ meshRow b then (List.range (meshRow b - r)).map fun i => (meshAt a (r + i) y, 2)
    else (List.range (r - meshRow b)).map fun i => (meshAt a (r - i) y, 0))

/-- Count the 64-byte words that `n` bytes take over each link from cluster `a` to `b` (R75). -/
def State.countMesh (s : State) (a b n : Nat) : State :=
  (meshRoute a b).foldl (fun s l => s.bump l.1 (0x180 + l.2) 48 (ceilDiv n 64)) s

/-- Perform a mesh request at cluster `c` (R72): applied while the addressed context is bound to the cluster and no
save or restore runs; otherwise refused with 0x0203. It is never stalled by a context's state; the bell holds writes
(R462). The data crosses the mesh from cluster `src`, or back to it for a read. -/
def State.meshAccess (s : State) (src c : Nat) (q : Req) (r : Requester) : Answer × State :=
  let s0 := if q.op = 0x20 then s else s.countMesh src c (if q.op = 0x22 then 4 else q.data.length)
  if s.deliveryOf q.ctx c ≠ .memory then (.error 0x0203, s0)
  else
    match s0.clusterAccess c q r with
    | (.data d, s1) => (.data d, s1.countMesh c src d.length)
    | a => a

/-! ### Atomics (R276) -/

/-- Lanes of `w` bytes. -/
def lanesOf (w : Nat) (d : List Byte) : List (List Byte) := (List.range (d.length / w)).map fun i => subBytes d (w * i) w

/-- The stored result of an atomic on `old` with `operand` (R276); `compare` is CAS's value. -/
def atomicResult (op : Nat) (signed : Bool) (skip : BitVec 4) (old operand compare : List Byte) : List Byte :=
  let n := old.length
  let a := leNat old
  let b := leNat operand
  let small := n = 8
  let less := if signed then decide (signedOf (8 * n) a < signedOf (8 * n) b) else decide (a < b)
  let lanes := fun (w bits : Nat) (f : Nat → Nat → Nat) =>
    ((lanesOf w old).mapIdx fun j l =>
      if small && j < bits && skip.getLsbD j then l else leBytes w (f (leNat l) (leNat (subBytes operand (w * j) w)))).flatten
  if op = 0x28 then leBytes n (a + b)
  else if op = 0x29 then (if less then old else operand)
  else if op = 0x2A then (if less then operand else old)
  else if op = 0x2B then operand
  else if op = 0x2C then (if old = compare then operand else old)
  else if op = 0x2D then leBytes n (Nat.lor a b)
  else if op = 0x2E then leBytes n (Nat.land a b)
  else if op = 0x2F then lanes 4 2 fun x y => (fp32Add (BitVec.ofNat 32 x) (BitVec.ofNat 32 y)).toNat
  else if op = 0x30 then lanes 2 4 bf16Add
  else lanes 4 2 fun x y => x + y

/-- Bytes of an atomic (R275). -/
def atomicSize (q : Req) : Nat := if q.size16 then 16 else 8

/-- Whether an opcode is an atomic (R274). -/
def isAtomic (op : Nat) : Bool := 0x28 ≤ op && op ≤ 0x31

/-- The bytes of a request's extent at its target. -/
def requestLength (q : Req) : Nat :=
  if q.op = 0x20 then q.len else if q.op = 0x22 then 4 else if isAtomic q.op then atomicSize q else q.data.length

/-- Perform an atomic at its home slice: the old value, and the result stored (R276). -/
def State.atomicAccess (s : State) (q : Req) (r : Requester) : Answer × State :=
  let n := atomicSize q
  match placeOf q.addr with
  | .hbm _ _ | .scratch _ _ =>
    match s.loadRange q.addr n r with
    | (.error code, s1) => (.error code, s1)
    | (.ok old, s1) =>
      let new := atomicResult q.op q.signed q.skip old (subBytes q.data 0 n) (subBytes q.data n n)
      match s1.storeRange q.addr new r with
      | (none, s2) => (.old old, s2)
      | (some code, s2) => (.error code, s2)
  | _ => (.error 0x040C, s)

/-- Perform a request at this device (R198, R274): cluster memory by R141, HBM3, scratch and mailboxes in place. -/
def State.performRequest (s : State) (q : Req) (r : Requester) : Answer × State :=
  if isAtomic q.op then s.atomicAccess q r
  else if q.op = 0x22 then s.clusterAccess (refCluster q.ref) q r
  else
    match placeOf q.addr with
    | .cluster c _ => if s.extentPopulated q.addr (max 1 (max q.len q.data.length)) then s.clusterAccess c q r
        else (.error 0x0306, s)
    | _ => s.plainAccess q.op q.addr q.len q.data r

end Sys2Proof.Machine
end

