-- ==== Sys2Proof/Machine/Queues.lean ====
section
/-! DEFINITION. The line queues of the home slices: places, combining and tickets (R282 to R287). -/

namespace Sys2Proof.Machine

/-! ### Lines and their queues (R285, R286) -/

/-- The lines (device offset / 128) that a request accesses at a home slice; none where it reaches no slice. -/
def homeLines (q : Req) : Option (Nat × Nat) :=
  let n := if q.op = 0x20 then q.len else if isAtomic q.op then atomicSize q else q.data.length
  if q.op = 0x22 then none
  else
    match placeOf q.addr with
    | .hbm _ _ => some (q.addr / 128, (q.addr + max 1 n - 1) / 128)
    | .scratch _ _ => some (q.addr / 128, (q.addr + max 1 n - 1) / 128)
    | _ => none

/-- The home slice of a line, by tower and slice (R154). -/
def sliceOfLine (line : Nat) : Nat × Nat :=
  match placeOf (128 * line) with
  | .hbm t o => (t, lineOf o % 200)
  | .scratch t x => (t, lineOf x % 200)
  | _ => (0, 0)

/-- The queue of a line. -/
def State.lineQueue (s : State) (line : Nat) : LineQueue := s.domain.queues.get {} line

/-- Whether a queue is in use: freed when it is empty and no ticket is outstanding (R285). -/
def LineQueue.inUse (k : LineQueue) : Bool := k.entries ≠ [] || k.tickets ≠ []

/-- Whether a request accesses some of a range of lines. -/
def touchesLines (a b : Nat) (q : Req) : Bool :=
  match homeLines q with | some (c, d) => decide (c ≤ b ∧ a ≤ d) | none => false

/-- Whether some of a range of lines is being accessed, or waited for (R285). -/
def State.lineBusy (s : State) (a b : Nat) : Bool :=
  s.domain.ready.any (touchesLines a b) ||
    s.domain.queues.entries.any fun e => e.2.entries.any fun k => k.parts.any (touchesLines a b)

/-- The entries of other lines' queues that wait for some of a range of lines too: LOADs of several lines are among them. -/
def State.besides (s : State) (line a b : Nat) : List QueueEntry :=
  s.domain.queues.entries.flatMap fun e =>
    if e.1 = line then [] else e.2.entries.filter fun k => k.parts.any (touchesLines a b)

/-- Put a line's queue back, or free it. -/
def State.setLineQueue (s : State) (line : Nat) (k : LineQueue) : State :=
  { s with domain := { s.domain with
      queues := if k.inUse then s.domain.queues.set line k else s.domain.queues.dropKeys fun n => n = line } }

/-- The line queues of a slice that are in use. -/
def State.queuesOf (s : State) (slice : Nat × Nat) : Nat :=
  (s.domain.queues.entries.filter fun e => sliceOfLine e.1 = slice && e.2.inUse).length

/-- Places of a queue that are reserved (R286). -/
def LineQueue.reservations (k : LineQueue) : Nat := (k.tickets.filter fun t => t.reserved.isSome).length

/-- A free place is reserved for the lowest outstanding ticket that has none, for 2 µs; `skip` is a ticket that has just
missed its reservation (R286). -/
def LineQueue.reserve (k : LineQueue) (now : Nat) (skip : Option Nat) : LineQueue :=
  if 64 ≤ k.entries.length + k.reservations then k
  else
    match k.tickets.findIdx? fun t => t.reserved.isNone && skip ≠ some t.ticket with
    | none => k
    | some i => { k with tickets := k.tickets.mapIdx fun j t => if j = i then { t with reserved := some (now + 2000) } else t }

/-- Whether a waiting entry can absorb a request (R282 to R284): the same atomic, up to 16 constituents and never CAS; or a
STORE to the line. -/
def QueueEntry.absorbs (e : QueueEntry) (q : Req) : Bool :=
  match e.parts with
  | [] => false
  | a :: _ =>
    !q.nocomb && !(e.parts.any (·.nocomb)) && a.op = q.op &&
      (q.op = 0x21 || (isAtomic q.op && q.op ≠ 0x2C && a.addr = q.addr && a.size16 = q.size16 && a.signed = q.signed &&
        a.skip = q.skip && e.parts.length < 16))

/-- The entry that a request joins: the last that absorbs it, if no earlier request of the same source stands behind it, in this
queue or among those `besides` it that wait for its line (R284). -/
def LineQueue.joins (k : LineQueue) (q : Req) (besides : List QueueEntry) : Option Nat :=
  match ((List.range k.entries.length).filter fun i => (k.entries.getD i { parts := [] }).absorbs q).getLast? with
  | none => none
  | some i =>
    let behind := k.entries.drop (i + 1) ++ besides.filter fun e => (k.entries.getD i { parts := [] }).order < e.order
    if behind.any fun e => e.parts.any fun r => r.origin = q.origin then none else some i

/-- A request joins entry `i`. -/
def LineQueue.absorb (k : LineQueue) (i : Nat) (q : Req) : LineQueue :=
  { k with entries := k.entries.mapIdx fun j e => if j = i then { e with parts := e.parts ++ [q] } else e }

/-- Count a request absorbed (OD 0x8011.07, .08). -/
def State.countAbsorbed (s : State) (q : Req) : State := s.countReg (if q.op = 0x21 then 0x801108 else 0x801107) 64 1

/-- The line's next ticket for a request that finds no place (R286): the ticket, and the state. -/
def State.issueTicket (s : State) (line : Nat) (k : LineQueue) : Nat × State :=
  let n := k.nextTicket
  let s1 := s.setLineQueue line { k with
    nextTicket := (n + 1) % 65536, tickets := k.tickets ++ [({ ticket := n, at_ := s.now, reserved := none } : TicketHeld)] }
  let s2 := s1.countReg 0x801201 64 1
  (n, s2.setReg 0x801203 (max (s2.reg 0x801203) (Nat.min k.tickets.length 65535)))

/-- Place an entry at the end of its line's queue. -/
def State.enqueue (s : State) (line : Nat) (k : LineQueue) (q : Req) : State :=
  let s1 := s.setLineQueue line { k with entries := k.entries ++ [{ parts := [q], order := s.domain.arrivals }] }
  { s1 with domain := { s1.domain with arrivals := s.domain.arrivals + 1 } }

/-- Hand a request to its home slice: none where it is taken, else the ticket (if any) of the RETRY that answers it
(R285 to R287). A request for an idle line is performed next; one for a busy line takes a place in its first line's queue. -/
def State.admitRequest (s : State) (q : Req) : Option (Option Nat) × State :=
  let toReady := { s with domain := { s.domain with ready := s.domain.ready ++ [{ q with ticket := none }] } }
  match homeLines q with
  | none => (none, toReady)
  | some (a, b) =>
    let k := s.lineQueue a
    let free := 64 - k.entries.length
    let q0 := { q with ticket := none }
    let besides := s.besides a a b
    if !k.inUse && !s.lineBusy a b then (none, toReady)
    else if !k.inUse && 16 ≤ s.queuesOf (sliceOfLine a) then (some none, s.countReg 0x801202 64 1)
    else
      match q.ticket.bind fun n => k.tickets.find? fun t => t.ticket = n with
      | some h =>
        let k1 := { k with tickets := k.tickets.filter fun t => t.ticket ≠ h.ticket }
        if h.reserved.isSome || k.reservations < free then
          match k1.joins q besides with
          | some i => (none, (s.setLineQueue a ((k1.absorb i q0).reserve s.now none)).countAbsorbed q)
          | none => (none, s.enqueue a k1 q0)
        else
          (some (some h.ticket), s.setLineQueue a { k with
            tickets := k.tickets.map fun (t : TicketHeld) => if t.ticket = h.ticket then { t with at_ := s.now } else t })
      | none =>
        if k.tickets ≠ [] then
          let (n, s1) := s.issueTicket a k
          (some (some n), s1)
        else
          match k.joins q besides with
          | some i => (none, (s.setLineQueue a (k.absorb i q0)).countAbsorbed q)
          | none =>
            if 0 < free then (none, s.enqueue a k q0)
            else
              let (n, s1) := s.issueTicket a k
              (some (some n), s1)

end Sys2Proof.Machine
end

