-- ==== Sys2Proof/Machine/DomainOps.lean ====
section
/-! DEFINITION. Windows and the issue of requests: translation (R267 to R273), requests performed on this device, and
requests that leave on a fibre port (R288, R290, R293). -/

namespace Sys2Proof.Machine

/-! ### Ports (R262 to R265) -/

/-- The port whose role 1 names a device (R262, R269). -/
def State.portOf (s : State) (device : Nat) : Option Nat := (List.range 64).find? fun p => s.portRole p = (1, device)

/-- The code of a port state (R265). -/
def PortState.code : PortState → Nat
  | .down => 0
  | .training => 1
  | .joining => 2
  | .up => 3
  | .msg => 4
  | .demoted => 5
  | .lost => 6

/-- Change a port's state (OD 0x8002.01). -/
def State.setPortState (s : State) (p : Nat) (st : PortState) : State :=
  s.modPort p fun k => { k with state := st, changed := s.now }

/-- A port retrains (R264, R265): one that was UP or MSG reads TRAINING and returns there; a LOST or DEMOTED port keeps
its state. -/
def State.startRetrain (s : State) (p : Nat) : State :=
  let k := s.port p
  if k.state = .up || k.state = .msg then
    (s.setPortState p .training).modPort p fun q => { q with back := some k.state, retraining := true, naks := 0 }
  else if k.state = .joining then (s.setPortState p .training).modPort p fun q => { q with retraining := true, naks := 0 }
  else s.modPort p fun q => { q with retraining := q.retraining || k.state ≠ .down, naks := 0 }

/-- The slate unit and die of an edge group's port engine (R470); port engines lie on the rig (R326). -/
def edgeUnit (p : Nat) : Nat := 0x5000 + p / 16

/-! ### Windows (R268 to R273) -/

/-- The key of window `n` of context `x`; a guest site's windows are those of 1,024 + site. -/
def windowKey (x n : Nat) : Nat := x * 64 + n

/-- A bit field of a window entry. -/
def winField (w : BitVec 256) (hi lo : Nat) : Nat := bitsOf w.toNat hi lo

/-- A window as a checking unit sees it: closed when its complement fails (R270). -/
def Window.inForce (w : Window) : Bool := w.complement = ~~~w.entry && winField w.entry 0 0 = 1

/-- The fields of R268. -/
def Window.vdev (w : Window) : Nat := winField w.entry 15 8
def Window.tdev (w : Window) : Nat := winField w.entry 23 16
def Window.tctx (w : Window) : Nat := winField w.entry 33 24
def Window.vbase (w : Window) : Nat := winField w.entry 103 64
def Window.size (w : Window) : Nat := winField w.entry 143 104
def Window.tbase (w : Window) : Nat := winField w.entry 183 144
def Window.noComb (w : Window) : Bool := winField w.entry 5 5 = 1

/-- Permissions (R273): bit 1 R, 2 W, 3 A, 4 T. -/
inductive Perm where
  | r | w | a | t
deriving DecidableEq, Repr

/-- Whether a window carries a permission. -/
def Window.allows (w : Window) : Perm → Bool
  | .r => winField w.entry 1 1 = 1
  | .w => winField w.entry 2 2 = 1
  | .a => winField w.entry 3 3 = 1
  | .t => winField w.entry 4 4 = 1

/-- Window `n` of context `x`. -/
def State.window (s : State) (x n : Nat) : Window := s.domain.windows.get {} (windowKey x n)

/-- Where an address leads (R267, R269). -/
structure Translated where
  win : Nat
  device : Nat
  offset : Nat
  tctx : Nat
  noComb : Bool
deriving DecidableEq, Repr

/-- Forms of R267. -/
def isLocalForm (addr : Nat) : Bool := addr / 2 ^ 40 = 0xFE && addr / 2 ^ 22 % 2 ^ 18 = 0
def isDomainForm (addr : Nat) : Bool := addr / 2 ^ 40 ≤ 0x2F

/-- Translate a domain address of context `x` and check its window (R269): the lowest-numbered VALID window whose VDEV
and range match, the extent, the permission, then TDEV. -/
def State.translate (s : State) (x addr len : Nat) (p : Perm) : Except Nat Translated :=
  if !isDomainForm addr then .error 0x0406
  else
    let off := addr % 2 ^ 40
    match (List.range 64).find? fun n =>
        let w := s.window x n
        w.inForce && w.vdev = addr / 2 ^ 40 && w.vbase ≤ off && off < w.vbase + w.size with
    | none => .error 0x0403
    | some n =>
      let w := s.window x n
      if off + len > w.vbase + w.size then .error 0x0404
      else if !w.allows p then .error 0x0405
      else if w.tdev ≠ s.deviceId && (s.portOf w.tdev).isNone then .error 0x0403
      else .ok { win := n, device := w.tdev, offset := w.tbase + (off - w.vbase), tctx := w.tctx, noComb := w.noComb }

/-- The window that a request of context `x` would use, were its complement good: the lowest-numbered one that is VALID, names
the device and holds the offset, and whose complement fails (R173, R270). -/
def State.windowFlaw (s : State) (x addr : Nat) : Option Nat :=
  (List.range 64).find? fun n =>
    let w := s.window x n
    w.complement ≠ ~~~w.entry && winField w.entry 0 0 = 1 && w.vdev = addr / 2 ^ 40 && w.vbase ≤ addr % 2 ^ 40 &&
      addr % 2 ^ 40 < w.vbase + w.size

/-- The use of a window whose complement fails is counted, recorded and raised (R173); the window is treated as closed. -/
def State.noteWindow (s : State) (x addr : Nat) : State :=
  match s.windowFlaw x addr with
  | some n => s.criticalMismatch 3 (windowKey x n)
  | none => s

/-- The permission that a request needs (R273). -/
def permOf (op : Nat) : Perm :=
  if op = 0x20 then .r else if op = 0x22 then .t else if isAtomic op then .a else .w

/-- The domain address of the tally word that a reference names (R127, R273). -/
def refAddress (r : BitVec 24) : Nat :=
  2 ^ 40 * refDevice r + clusterOffset (refCluster r) (tallyAddress (refTally r))

/-- The reference that a translated tally offset stands for at its target (R275). -/
def refAtTarget (off : Nat) : BitVec 24 :=
  let a := off - 0xE000000000
  BitVec.ofNat 24 (a % 0x400000 % 1024 / 4 + 256 * (a / 0x400000) + 63 * 262144)

/-! ### Outstanding requests (R275, R288, R290) -/

/-- Requests of a context that have no reply (OD 0x7nnn.32) and are not frozen. -/
def State.outstandingOf (s : State) (x : Nat) : List Outstanding :=
  s.domain.outstanding.filter fun o => !o.frozen && o.parts.any fun p => p.ctx = x

/-- Frozen requests of a context (OD 0x7nnn.31). -/
def State.frozenOf (s : State) (x : Nat) : List Outstanding :=
  s.domain.outstanding.filter fun o => o.frozen && o.parts.any fun p => p.ctx = x

/-- Change the outstanding request with a handle. -/
def State.modOutstanding (s : State) (h : Nat) (f : Outstanding → Outstanding) : State :=
  { s with domain := { s.domain with
      outstanding := s.domain.outstanding.map fun o => if o.handle = h then f o else o } }

/-- Remove the outstanding request with a handle. -/
def State.dropOutstanding (s : State) (h : Nat) : State :=
  { s with domain := { s.domain with outstanding := s.domain.outstanding.filter fun o => o.handle ≠ h } }

/-- A wrapped comparison of request IDs (R289): `a` is older than `b`. -/
def ridOlder (a b : Word32) : Bool := (a - b).msb

/-- Whether a port may number a new request: RID n waits for the reply to RID n - 4,096 (R288). -/
def State.ridFree (s : State) (p : Nat) : Bool :=
  let n := (s.port p).nextRid
  !(s.domain.outstanding.any fun o => o.port = p && o.rid = some (n - 4096))

/-- Opcodes that carry a request ID over a fibre (R288): all but LOAD. -/
def carriesRid (op : Nat) : Bool := op ≠ 0x20

/-- A request as it enters the fibre (R275): ADDRESS names the target device, the window goes along, and a combined request comes
from no one cluster. -/
def Outstanding.onFibre (o : Outstanding) (rid : Word32) : Req :=
  { o.req with
    addr := 2 ^ 40 * o.device + o.req.addr
    rid := rid
    win := o.window
    scluster := match o.parts with | [p] => if p.cluster < 800 then p.cluster else 0x3FF | _ => 0x3FF }

/-- Send an outstanding request on its port, if that has room (R264, R275, R288): it takes its RID when it is first sent. LOADs carry RID 0. -/
def State.sendOutstanding (s : State) (o : Outstanding) : State :=
  if !(s.sends (.request o.port o.req)) then s
  else if !(carriesRid o.req.op) then
    (((s.modOutstanding o.handle fun k => { k with rid := some 0, sent := some s.now }).wire (.request o.port
      (o.onFibre 0)))).countReg 0x801101 64 1
  else
    match o.rid with
    | some n =>
      ((s.modOutstanding o.handle fun k => { k with sent := some s.now }).wire (.request o.port
        (o.onFibre n))).countReg 0x801101 64 1
    | none =>
      if !s.ridFree o.port then s
      else
        let n := (s.port o.port).nextRid
        ((((s.modPort o.port fun k => { k with nextRid := k.nextRid + 1 }).modOutstanding o.handle fun k =>
          { k with rid := some n, sent := some s.now })).wire (.request o.port (o.onFibre n))).countReg 0x801101 64 1

/-- Requests that waited for a port are sent, in order on each VC, as far as there is room (R288, R290). -/
def State.sendWaiting (s : State) (p : Nat) : State :=
  s.domain.outstanding.foldl (fun s1 o =>
    let first := (s1.domain.outstanding.find? fun u =>
      u.port = p && u.sent.isNone && !u.frozen && (u.req.op = 0x60) = (o.req.op = 0x60)).map (·.handle)
    if o.port = p && first = some o.handle then s1.sendOutstanding o else s1) s

/-- The slate record of a request issued by a cluster (R472, 0xF005). -/
def State.noteIssue (s : State) (p : Part) (o : Outstanding) : State :=
  if p.cluster < 800 then
    s.slateOnly p.cluster 0xF005 p.ctx (s.idsOf p.cluster)
      (leBytes 1 o.req.op ++ leBytes 4 (o.rid.getD 0).toNat ++ leBytes 4 o.req.tag ++ leBytes 8 p.address)
  else s

/-- Whether a LOAD can join an outstanding one at the sending port engine (R281): same device, address and length, sent
within 256 ns and without a reply, and no request that writes the extent has passed since. -/
def State.joinableLoad (s : State) (port device : Nat) (q : Req) : Option Nat :=
  (s.domain.outstanding.find? fun o =>
    o.port = port && o.device = device && o.req.op = 0x20 && o.req.addr = q.addr && o.req.len = q.len && !o.frozen &&
      !o.closed && !o.req.nocomb && (match o.sent with | some t => s.now ≤ t + 256 | none => false)).map (·.handle)

/-- A request passes through a port engine: where it writes, no LOAD joins an older one of a line that it writes (R281). -/
def State.closeLoads (s : State) (device : Nat) (q : Req) : State :=
  let n := if q.op = 0x22 then 4 else q.data.length
  if q.op = 0x20 then s
  else { s with domain := { s.domain with
    outstanding := s.domain.outstanding.map fun o =>
      if o.device = device && o.req.op = 0x20 && q.addr / 128 ≤ (o.req.addr + o.req.len - 1) / 128 &&
          o.req.addr / 128 ≤ (q.addr + max 1 n - 1) / 128 then { o with closed := true } else o } }

/-- Whether an atomic can join one that waits unsent at its port (R282, R284): same OP, address, size, SIGNED and SKIP,
at most 16 constituents, CAS never, and no later waiting request of the same source to the same line. -/
def State.joinableAtomic (s : State) (port device cluster : Nat) (q : Req) : Option Nat :=
  if q.op = 0x2C then none
  else
    match s.domain.outstanding.find? fun o =>
        o.port = port && o.device = device && o.sent.isNone && o.req.op = q.op && o.req.addr = q.addr &&
          o.req.size16 = q.size16 && o.req.signed = q.signed && o.req.skip = q.skip && !o.req.nocomb && !o.frozen &&
          o.parts.length < 16 with
    | none => none
    | some o =>
      let behind := s.domain.outstanding.any fun w =>
        w.handle > o.handle && w.device = device && w.req.addr / 128 = q.addr / 128 &&
          w.parts.any fun p => p.cluster = cluster
      if behind then none else some o.handle

/-- The serial combination of operands of a combined atomic (R282): FP sums are rounded in order. -/
def combineOperand (op : Nat) (signed : Bool) (a b : List Byte) : List Byte :=
  atomicResult op signed 0 a b []

/-- Add a constituent to an outstanding request. -/
def State.joinPart (s : State) (h : Nat) (p : Part) : State :=
  s.modOutstanding h fun o =>
    if o.req.op = 0x20 then { o with parts := o.parts ++ [p] }
    else { o with parts := o.parts ++ [p], req := { o.req with data := combineOperand o.req.op o.req.signed o.req.data p.data } }

/-- Hand a translated request to the port of another device: combine it, send it, let it wait for its port, freeze it
at a lost target, or refuse it at a DEMOTED port (R281, R282, R288, R290, R293 step 5, R296). -/
def State.issueRemote (s : State) (port : Nat) (t : Translated) (q : Req) (part : Part) : Option Nat × State :=
  let st := (s.port port).state
  if st = .demoted then (some 0x040B, s)
  else
    let s := s.closeLoads t.device q
    let joined := if q.nocomb then none
      else if q.op = 0x20 then s.joinableLoad port t.device q
      else if isAtomic q.op then s.joinableAtomic port t.device part.cluster q
      else none
    match joined with
    | some h =>
      (none, (s.joinPart h part).countReg (if q.op = 0x20 then 0x801106 else 0x801107) 64 1)
    | none =>
      let o : Outstanding :=
        { handle := s.domain.nextHandle
          window := t.win
          device := t.device
          port := port
          req := { q with tag := s.domain.nextHandle % 4294967296 }
          rid := none
          issued := s.now
          sent := none
          lastRetry := none
          waitUntil := none
          frozen := decide (st = .lost)
          parts := [part] }
      let s1 := { s with domain := { s.domain with
        outstanding := s.domain.outstanding ++ [o], nextHandle := s.domain.nextHandle + 1 } }
      let s2 := s1.noteIssue part o
      if st = .lost then (none, if part.ctx < 1024 then s2.modCtx part.ctx fun k => { k with ending := k.ending || k.state = .bound } else s2)
      else if st = .up && !(s.domain.outstanding.any fun o =>
          o.port = port && o.sent.isNone && !o.frozen && (o.req.op = 0x60) = (q.op = 0x60)) then
        (none, s2.sendOutstanding o)
      else (none, s2)

/-- The code by which an access says that it stalls, for a partition change (R159 step 1) or at a fence (R340): no fault. -/
def stallCode : Nat := 0x10000

/-- Keep a request that its target holds (R141, R340, R462) as outstanding, under the handle that it carries as RID. -/
def State.keepHere (s : State) (t : Translated) (q : Req) (part : Part) : State :=
  let h := s.domain.nextHandle
  let o : Outstanding :=
    { handle := h
      window := t.win
      device := t.device
      port := 0xFF
      req := q
      rid := none
      issued := s.now
      sent := none
      lastRetry := none
      waitUntil := none
      frozen := false
      parts := [part] }
  { s with domain := { s.domain with outstanding := s.domain.outstanding ++ [o], nextHandle := h + 1 } }

/-- A kept request presents itself at its home slice (R285 to R287): where that answers RETRY, it carries the ticket, or goes
again 1 µs later. -/
def State.presentKept (s : State) (h : Nat) : State :=
  match s.domain.outstanding.find? fun o => o.handle = h && o.port = 0xFF with
  | none => s
  | some o =>
    match s.admitRequest o.req with
    | (none, s1) => s1.modOutstanding h fun k => { k with waitUntil := none, req := { k.req with ticket := none } }
    | (some tk, s1) => s1.modOutstanding h fun k =>
        { k with lastRetry := some s.now, waitUntil := if tk.isNone then some (s.now + 1000) else none, req := { k.req with ticket := tk } }

/-- Whether a request of this Dreuth holds a ticket of a line. -/
def State.holdsTicket (s : State) (line ticket : Nat) : Bool :=
  s.domain.outstanding.any fun o => o.port = 0xFF && o.req.ticket = some ticket && (homeLines o.req).map (·.1) = some line

/-- This Dreuth's own requests with a ticket of a line are sent again at once, over and over (R286): a place that frees finds them
there. -/
def State.presentOwn (s : State) (line : Nat) : State :=
  ((s.domain.outstanding.filter fun o => o.port = 0xFF && o.req.ticket.isSome && (homeLines o.req).map (·.1) = some line).map
    (·.handle)).foldl (fun s h => s.presentKept h) s

/-- Perform a translated request on this device. One that its target holds (R141, R462), or whose line is busy (R285), is kept as
outstanding, under the handle that it carries as RID. -/
def State.issueHere (s : State) (t : Translated) (q : Req) (part : Part) (who : Requester) : Answer × State :=
  let h := s.domain.nextHandle
  let q1 := { q with rid := BitVec.ofNat 32 (h % 2147483648) }
  let waits := match homeLines q1 with | some (a, b) => (s.lineQueue a).inUse || s.lineBusy a b | none => false
  if waits then (.sent, (s.keepHere t q1 part).presentKept h) else
  let (ans, s1) := match placeOf t.offset with
    | .cluster d _ =>
      if part.cluster < 800 && d / 200 = part.cluster / 200 then s.meshAccess part.cluster d q1 who else s.performRequest q1 who
    | _ => s.performRequest q1 who
  if ans = .stalled then (.sent, s1.keepHere t q1 part) else (ans, s1)

/-- The tower that an offset of this device lies in. -/
def towerAt (off : Nat) : Option Nat :=
  match placeOf off with
  | .hbm t _ => some t
  | .scratch t _ => some t
  | .cluster c _ => some (c / 200)
  | .mailbox _ _ => none
  | .reserved => none

/-- The tower whose fence an access of a cluster meets (R340 steps 1 and 2): its own at its vertical port, unless the access
stays on the compute die's mesh; else the one it is for. -/
def State.fenceOn (s : State) (cluster : Nat) (here : Bool) (off : Nat) : Option Nat :=
  let mesh := match placeOf off with | .cluster d _ => here && cluster < 800 && d / 200 = cluster / 200 | _ => false
  if mesh then none
  else if cluster < 800 && !s.towerServes (cluster / 200) then some (cluster / 200)
  else if here then
    match towerAt off with
    | some t => if s.towerServes t then none else some t
    | none => none
  else none

/-- Issue a request of context `x` at a domain address (R269, R270, R276): translated and checked, then performed on
this device, or handed to the port that serves its target. Cluster memory on the issuing
compute die is reached across the mesh (R71, R72). The request's address is the one issued. -/
def State.issueRequest (s : State) (q : Req) (part : Part) (who : Requester) : Answer × State :=
  let len := requestLength q
  let addr := if q.op = 0x22 then refAddress q.ref else q.addr
  if isAtomic q.op && q.addr % atomicSize q ≠ 0 then (.error 0x040A, s)
  else
    let s := s.noteWindow part.ctx addr
    match s.translate part.ctx addr len (permOf q.op) with
    | .error code => (.error code, s)
    | .ok t =>
      let q1 := { q with
        addr := t.offset
        ctx := t.tctx
        nocomb := q.nocomb || t.noComb
        ref := if q.op = 0x22 then refAtTarget t.offset else q.ref }
      let atomicPlace := match placeOf t.offset with | .hbm _ _ => true | .scratch _ _ => true | _ => false
      if isAtomic q.op && !atomicPlace then (.error 0x040C, s)
      else if t.device = s.deviceId then
        if !s.extentPopulated t.offset (max 1 len) then (.error 0x0306, s)
        else if s.stallsForPartition t.offset len then (.error stallCode, s)
        else
          match s.fenceOn part.cluster true t.offset with
          | none => s.issueHere t q1 part who
          | some u =>
            if q.op = 0x22 then
              let q2 := { q1 with rid := BitVec.ofNat 32 (s.domain.nextHandle % 2147483648) }
              (.sent, (s.holdRequest ((towerAt t.offset).getD u) q2).keepHere t q2 part)
            else (.error stallCode, s)
      else
        match s.portOf t.device with
        | none => (.error 0x0403, s)
        | some p =>
          if q.op ≠ 0x22 && (s.fenceOn part.cluster false t.offset).isSome then (.error stallCode, s)
          else
            match s.issueRemote p t q1 part with
            | (some code, s1) => (.error code, s1)
            | (none, s1) => (.sent, s1)

/-- The extra detail of a fault that concerns a request: the address as issued (R147). -/
def addressDetail (addr : Nat) : Nat := addr % 2 ^ 48

/-! ### Increments (R127, R128) -/

/-- An empty request. -/
def blankReq : Req :=
  { op := 0
    origin := .management
    ctx := 0
    addr := 0
    tag := 0
    rid := 0
    size16 := false
    signed := false
    skip := 0
    nocomb := false
    len := 0
    ref := 0
    refAmt := 0
    ticket := none
    data := [] }

/-- The request that carries an increment to another device or context (R127). -/
def incrementReq (x c : Nat) (ref : BitVec 24) (amount : Nat) : Req :=
  { blankReq with op := 0x22, origin := .member x c, ctx := x, ref := ref, refAmt := amount }

/-- The part of the member in that request. -/
def State.incrementPart (s : State) (x c engine : Nat) (ref : BitVec 24) : Part :=
  ⟨x, c, engine, .increment, [], s.now, refAddress ref⟩

/-- Count the word that an increment takes over the mesh to its destination, where that lies on the same die (R75). -/
def State.countMeshTo (s : State) (c offset : Nat) : State :=
  match placeOf offset with
  | .cluster d _ => if d / 200 = c / 200 then s.countMesh c d 4 else s
  | _ => s

/-- Apply one increment of context `x` by cluster `c` (R127, R130): an own tally here, another context's or device's
through a window with permission T. A refused increment faults the context, with event 0x1101 where its destination cluster
refuses it (R72); `engine` is the engine of R147. -/
def State.increment (s : State) (x c engine : Nat) (ref : BitVec 24) (amount : Nat) : State :=
  if !validRef (s.ctx x).cls ref then s.faultAt x c 0x0106 engine ref.toNat
  else if refDevice ref = 63 then
    let at1 := refOffset ref c
    match (s.countMeshTo c at1).addWord at1 amount (s.requesterAt x c) with
    | (none, s1) => s1
    | (some code, s1) => s1.faultAt x c code engine 0
  else
    match s.issueRequest (incrementReq x c ref amount) (s.incrementPart x c engine ref) (s.requesterAt x c) with
    | (.error code, s1) =>
      if code = 0x0203 then
        (s1.raiseFor 0x1101 (0x20 + c / 200) c x (s1.idsOf c) (leBytes 2 c ++ leBytes 1 engine ++ leBytes 16 0)).faultAt x c
          code engine ref.toNat
      else s1.faultAt x c code engine (addressDetail (refAddress ref))
    | (_, s1) => s1

end Sys2Proof.Machine
end

