-- ==== Sys2Proof/Machine/Operands.lean ====
section
/-! DEFINITION. The operands of engine operations: words and their fields (R48), layouts and extents in cluster memory
(R49, R135), and what makes an operation refused (R41, R44, R76, R83, R89, R126). -/

namespace Sys2Proof.Machine

/-- A field of an ME operation word (R48). -/
def meField (w : OpWord) (hi lo : Nat) : Nat := bitsOf w.toNat hi lo

/-- K and N per step of a gang (R46). -/
def gangK (g : Nat) : Nat := if g = 0 then 64 else if g = 1 then 256 else 128
def gangN (g : Nat) : Nat := if g = 0 then 256 else if g = 1 then 64 else 128

/-- The accumulator column (64 p + column of panel p) of result column `n` in a half of result width `w` (R46). -/
def accColumn (w n : Nat) : Nat :=
  if w = 256 then n else if w = 64 then 192 + n else if n < 64 then 64 + n else 192 + (n - 64)

/-- Handshakes per row of a format (R45), and of a pair: the wider counts. -/
def rowHandshakes (fmt : Nat) : Nat :=
  let b := elemBits fmt
  if b = 4 then 1 else if b = 16 then 4 else 2
def pairHandshakes (a w : Nat) : Nat := max (rowHandshakes a) (rowHandshakes w)

/-- An MMA as its word names it (R48, R49). -/
structure MmaFields where
  gang : Nat
  fmtA : Nat
  fmtW : Nat
  set : Nat
  half : Nat
  accum : Bool
  rows : Nat
  steps : Nat
  a : Nat
  w : Nat
  scales : Nat
deriving DecidableEq, Repr

/-- The fields of an MMA word. -/
def mmaFields (w : OpWord) : MmaFields :=
  { gang := meField w 5 4
    fmtA := meField w 9 6
    fmtW := meField w 13 10
    set := meField w 19 14
    half := meField w 20 20
    accum := meField w 21 21 = 1
    rows := meField w 29 22 + 1
    steps := meField w 37 30 + 1
    a := meField w 63 42
    w := meField w 85 64
    scales := meField w 107 86 }

/-- Bytes of A, of its scales, of the W blocks and of the W scales, per K-step (R49). -/
def mmaStepA (f : MmaFields) : Nat := f.rows * gangK f.gang * elemBits f.fmtA / 8
def mmaStepScales (f : MmaFields) : Nat := if isScaled f.fmtA then f.rows * gangK f.gang / 32 else 0
def mmaStepW (f : MmaFields) : Nat := gangK f.gang * gangN f.gang * elemBits f.fmtW / 8
def mmaStepWScales (f : MmaFields) : Nat := if isScaled f.fmtW then gangN f.gang * gangK f.gang / 32 else 0

/-- A DRAIN as its word names it. -/
structure DrainFields where
  half : Nat
  rows : Nat
  fmt : Nat
  dest : Nat
deriving DecidableEq, Repr

/-- The fields of a DRAIN word. -/
def drainFields (w : OpWord) : DrainFields :=
  { half := meField w 20 20, rows := meField w 29 22 + 1, fmt := meField w 41 38, dest := meField w 63 42 }

/-- The opcode of an ME word. -/
def isMma (w : OpWord) : Bool := meField w 3 0 = 1
def isDrain (w : OpWord) : Bool := meField w 3 0 = 2

/-- The half that an ME word names. -/
def meHalf (w : OpWord) : Nat := meField w 20 20

/-- Extents of an operation: operands (start, end) read and written in cluster memory. -/
structure Extents where
  reads : List (Nat × Nat)
  writes : List (Nat × Nat)
deriving DecidableEq, Repr

/-- One operand of `n` bytes at `a`. -/
def operand (a n : Nat) : Nat × Nat := (a, a + n)

/-- The extents of an MMA (R49, R135). -/
def mmaExtents (w : OpWord) : Extents :=
  let f := mmaFields w
  { reads := [operand f.a (f.steps * mmaStepA f), operand f.w (f.steps * (mmaStepW f + mmaStepWScales f))] ++
      (if isScaled f.fmtA then [operand f.scales (f.steps * mmaStepScales f)] else [])
    writes := [] }

/-- The extents of a DRAIN of a half whose result width is `width` (R49, R135). -/
def drainExtents (w : OpWord) (width : Nat) : Extents :=
  let f := drainFields w
  { reads := [], writes := [operand f.dest (f.rows * width * elemBits f.fmt / 8)] }

/-- Memory operands of a VE operation: a register operand has no extent. -/
def veExtent (o : VeOperand) (n : Nat) : List (Nat × Nat) :=
  match o with
  | .mem a => [operand a n]
  | .reg _ => []

/-- Whether a VE operation is a lane reduction, and its sources. -/
def VeKind.reduces : VeKind → Bool
  | .sumReduce => true
  | .minReduce => true
  | .maxReduce => true
  | _ => false
def VeKind.arity : VeKind → Nat
  | .fma => 3
  | .select => 3
  | .bitNot => 1
  | .convert => 1
  | .sumReduce => 1
  | .minReduce => 1
  | .maxReduce => 1
  | _ => 2

/-- Elements that a VE operation writes: one per 128 lanes for a reduction. -/
def veOutCount (op : VeOp) : Nat := if (VeKind.reduces op.kind) then ceilDiv op.count 128 else op.count

/-- The extents of a VE operation. -/
def veExtents (op : VeOp) : Extents :=
  let n := elemBytes op.fmtIn op.count
  let k := VeKind.arity op.kind
  { reads := veExtent op.a n ++ (if 2 ≤ k then veExtent op.b n else []) ++ (if 3 ≤ k then veExtent op.c n else [])
    writes := veExtent op.d (elemBytes op.fmtOut (veOutCount op)) }

/-- Bytes of an XE block. -/
def xeBytes (op : XeOp) : Nat := ceilDiv (op.rows * op.cols * op.bits) 8

/-- The extents of a QE operation: elements, and one scale byte per 32 elements of a scaled side (R83). -/
def qeExtents (op : QeOp) : Extents :=
  { reads := [operand op.source (elemBytes op.fmtIn op.count)] ++
      (if isScaled op.fmtIn then [operand op.sourceScales (op.count / 32)] else [])
    writes := [operand op.dest (elemBytes op.fmtOut op.count)] ++
      (if isScaled op.fmtOut then [operand op.destScales (op.count / 32)] else []) }

/-- All of cluster memory below the tallies (R135). -/
def belowTallies : Nat × Nat := (0, 0x2FFC00)

/-- The extents of a GE operation (R135). -/
def geExtents (op : GeOp) : Extents :=
  let idx := operand op.list (4 * op.count)
  let side := operand op.data (op.esize * op.count)
  let whole := if isLocalForm op.base then [belowTallies] else []
  match op.kind with
  | .gather => { reads := idx :: whole, writes := [side] }
  | .scatter => { reads := [idx, side], writes := whole }
  | .scatterAdd => { reads := [idx, side], writes := whole }

/-- The local span of one side of a copy: rows of `length` bytes, `stride` apart (R120). -/
def copySpan (op : CeOp) (addr : Nat) : List (Nat × Nat) :=
  if isLocalForm addr then
    [operand (addr % 0x400000) (if op.rows ≤ 1 then op.length else (op.rows - 1) * op.stride + op.length)]
  else []

/-- The extents of a CE copy: its local sides. -/
def ceExtents (op : CeOp) : Extents := { reads := copySpan op op.source, writes := copySpan op op.dest }

/-- The extents of a clocked engine's operation. -/
def clockedExtents : ClockedOp → Extents
  | .ve op => veExtents op
  | .ae op =>
    { reads := [operand op.source (elemBytes op.fmtIn op.count)], writes := [operand op.dest (elemBytes op.fmtOut op.count)] }
  | .xe op => { reads := [operand op.source (xeBytes op)], writes := [operand op.dest (xeBytes op)] }
  | .ge op => geExtents op
  | .ce op => ceExtents op
  | .qe op => qeExtents op
  | .reservedOp => { reads := [], writes := [] }

/-- Whether two extents share a 64-byte word (R135). -/
def overlap (a b : Nat × Nat) : Bool :=
  a.1 < a.2 && b.1 < b.2 && a.1 / 64 ≤ (b.2 - 1) / 64 && b.1 / 64 ≤ (a.2 - 1) / 64

/-- Whether any of `l` overlaps any of `m`. -/
def overlaps (l m : List (Nat × Nat)) : Bool := l.any fun a => m.any fun b => overlap a b

/-! ### Refusals (R41, R44) -/

/-- The operand that reaches 0x30_0000, if any (R41, code 0x0201). -/
def outOfRange (l : List (Nat × Nat)) : Option Nat := (l.find? fun e => 0x300000 ≤ e.1 || 0x300000 < e.2).map (·.1)

/-- The written operand that overlaps the tally words, if any (R126, code 0x0204). -/
def onTallies (l : List (Nat × Nat)) : Option Nat := (l.find? fun e => e.1 < e.2 && 0x2FFC00 < e.2).map (·.1)

/-- Refusal by extents: code and the extra detail of R147. -/
def extentRefusal (x : Extents) : Option (Nat × Nat) :=
  match outOfRange (x.reads ++ x.writes) with
  | some a => some (0x0201, a)
  | none => (onTallies x.writes).map fun a => (0x0204, a)

/-- Whether an ME word's fields are permitted (R44, R48, R76, R89). -/
def meWordGood (w : OpWord) : Bool :=
  if isMma w then
    let f := mmaFields w
    f.gang ≠ 3 && mePair f.fmtA f.fmtW && f.a % 64 = 0 && f.w % 64 = 0 && (!isScaled f.fmtA || f.scales % 64 = 0)
  else if isDrain w then isPlainFloat (drainFields w).fmt && (drainFields w).dest % 64 = 0
  else false

/-- Formats that the VE loads and stores (R62, R76). -/
def veLoads (fmt : Nat) : Bool := isPlainFloat fmt || fmt = 3 || fmt = 12
def veStores (fmt : Nat) : Bool := isPlainFloat fmt || fmt = 12

/-- Formats that the QE converts between (R97 to R99). The spec names FP32 to a scaled format and a scaled format to FP32,
BF16 or FP16; the model also takes BF16 and FP16 to a scaled format, and refuses a scaled side with an integer or another
scaled format (DESIGN CHOICE, log 97). -/
def qePair (fi fo : Nat) : Bool :=
  fi ≤ 12 && fo ≤ 12 && (!isScaled fi || isPlainFloat fo) && (!isScaled fo || isPlainFloat fi)

/-- Whether a clocked engine's operation is permitted (R44, R62, R66, R76, R77, R83, R98), `sets` being the cluster's
codebook sets. A QE reading that names a set above 63 is not refused for it: it reads the default table (DESIGN CHOICE,
log 97). -/
def clockedGood (sets : Nat → List Byte) (e : Engine) (op : ClockedOp) : Bool :=
  match e, op with
  | .ve, .ve o => veLoads o.fmtIn && veStores o.fmtOut && o.count ≤ 128 * 4096
  | .ae, .ae o => isPlainFloat o.fmtIn && isPlainFloat o.fmtOut && o.slot < 16 && o.count ≤ 64 * 4096
  | .xe, .xe o =>
    [4, 8, 16, 32].contains o.bits && 1 ≤ o.rows && o.rows ≤ 128 && 1 ≤ o.cols && o.cols ≤ 128 &&
      xeBytes o ≤ 256 * 4096
  | .ge, .ge o =>
    4 ≤ o.esize && o.esize ≤ 512 &&
      (match o.kind with
       | .scatterAdd => (o.fmt = 0 || o.fmt = 1 || o.fmt = 12) && o.esize % (elemBits o.fmt / 8) = 0
       | _ => true)
  | .ce, .ce _ => true
  | .qe, .qe o =>
    qePair o.fmtIn o.fmtOut && o.count ≤ 128 * 4096 &&
      (!(isScaled o.fmtIn || isScaled o.fmtOut) || o.count % 32 = 0) &&
      (o.fmtOut ≠ 11 || !(finiteEntries (sets o.set)).isEmpty)
  | _, _ => false

/-- Bits [49:0] of the word, the detail of code 0x0202 (R147). -/
def wordDetail (w : OpWord) : Nat := bitsOf w.toNat 49 0

end Sys2Proof.Machine
end

