-- ==== Sys2Proof/Machine/Engines.lean ====
section
/-! DEFINITION. The engines of a cluster: their queues and running operations (R43, R44, R50 to R66), what each computes
(R76 to R105), and their completion. -/

namespace Sys2Proof.Machine

/-! ### Queues and running operations -/

/-- An engine's queue (R43). -/
def queueOf (k : Core) : Engine → List QueuedOp
  | .me => k.meQueue
  | .ve => k.veQueue
  | .ae => k.aeQueue
  | .xe => k.xeQueue
  | .ge => k.geQueue
  | .ce => k.ceQueue
  | .qe => k.qeQueue

/-- Replace an engine's queue. -/
def setQueue (k : Core) (e : Engine) (l : List QueuedOp) : Core :=
  match e with
  | .me => { k with meQueue := l }
  | .ve => { k with veQueue := l }
  | .ae => { k with aeQueue := l }
  | .xe => { k with xeQueue := l }
  | .ge => { k with geQueue := l }
  | .ce => { k with ceQueue := l }
  | .qe => { k with qeQueue := l }

/-- Places of an engine's queue (R43). -/
def queueSize : Engine → Nat
  | .me => 8
  | _ => 4

/-- The operation that a clocked engine other than the CE runs. -/
def runningOf (k : Core) : Engine → Option RunningOp
  | .ve => k.ve
  | .ae => k.ae
  | .xe => k.xe
  | .ge => k.ge
  | .qe => k.qe
  | .me => none
  | .ce => none

/-- Apply `f` to an operation if it has number `n`. -/
def changeIf (n : Nat) (f : RunningOp → Option RunningOp) : Option RunningOp → Option RunningOp
  | none => none
  | some o => if o.op.seq = n then f o else some o

/-- Apply `f` to the started operation with number `n` of the issue order; none removes it. -/
def onOp (k : Core) (n : Nat) (f : RunningOp → Option RunningOp) : Core :=
  { k with
    mma := changeIf n f k.mma
    drain := changeIf n f k.drain
    ve := changeIf n f k.ve
    ae := changeIf n f k.ae
    xe := changeIf n f k.xe
    ge := changeIf n f k.ge
    qe := changeIf n f k.qe
    copies := k.copies.filterMap fun o => changeIf n f (some o)
    mmaDone := k.mmaDone.filterMap fun o => changeIf n f (some o) }

/-- Remove operation `n` and its scoreboard entry (R135). -/
def releaseOp (k : Core) (n : Nat) : Core :=
  { onOp k n (fun _ => none) with score := k.score.filter fun e => e.seq ≠ n }

/-- Mark operation `n` as finished. -/
def finishOp (k : Core) (n : Nat) : Core := onOp k n fun o => some { o with finished := true }

/-- Set the progress of operation `n`. -/
def advanceOp (k : Core) (n p : Nat) : Core := onOp k n fun o => some { o with progress := p }

/-- The context whose state cluster `c` holds while no save or restore runs: its engines work (R112, R146). -/
def State.member (s : State) (c : Nat) : Option Nat :=
  match (s.cluster c).bound with
  | none => none
  | some x =>
    let k := s.ctx x
    if k.state = .bound || (k.state = .faulted && k.holds && !k.saveRunning && !k.restoreRunning) then some x else none

/-- The member whose ME works: not while the bell is rung (R462). A stopped zone does not stop it (R376). -/
def State.workingMe (s : State) (c : Nat) : Option Nat := if s.belled then none else s.member c

/-- The member whose clocked engines work: nor while its zone's clock is stopped (R376). -/
def State.working (s : State) (c : Nat) : Option Nat := if (s.region (zoneOf c)).stopped then none else s.workingMe c

/-- A member that may start work: BOUND, and no stop of R140 or R146 runs. -/
def State.startable (s : State) : Option Nat → Option Nat
  | none => none
  | some x => if (s.ctx x).state = .bound && !(s.ctx x).ending then some x else none

/-- The member whose OC and engines start work; after a hub halt no OC goes on (R341). -/
def State.starting (s : State) (c : Nat) : Option Nat := if s.boot.halted then none else s.startable (s.working c)

/-- The member whose ME goes on with a running MMA. -/
def State.startingMe (s : State) (c : Nat) : Option Nat := s.startable (s.workingMe c)

/-- An engine operation of context `x` stops on a fault: it leaves its engine, and the context faults (R146). -/
def State.failOp (s : State) (x c : Nat) (e : Engine) (n code extra : Nat) : State :=
  (s.modCore c fun k => releaseOp k n).faultAt x c code (Engine.num e) extra

/-- Event 0x1101, fault and count of a refused operation (R41, R44). -/
def State.engineFault (s : State) (x c : Nat) (e : Engine) (o : QueuedOp) (code extra : Nat) : State :=
  let s1 := s.modCore c fun k => releaseOp (setQueue k e ((queueOf k e).filter fun q => q.seq ≠ o.seq)) o.seq
  let s2 := s1.bump c 0x190 16 1
  let s3 := s2.raiseFor 0x1101 (0x20 + c / 200) c x (s.idsOf c)
    (leBytes 2 c ++ leBytes 1 (Engine.num e) ++ leBytes 16 o.word.toNat)
  s3.faultAt x c code (Engine.num e) extra

/-! ### ENGINE_OP_START (R43, R44, R135) -/

/-- The bytes of codebook set `n` of a cluster (R84, R86). -/
def codebook (k : Core) (n : Nat) : List Byte := k.codebooks.get defaultCodebook n

/-- The head of an engine's queue: in the ME, the first word of its kind (R43). A word with a reserved OP, of neither kind,
stands with the MMAs (DESIGN CHOICE, log 95). -/
def headOf (k : Core) (e : Engine) (drainQueue : Bool) : Option QueuedOp :=
  match e with
  | .me => k.meQueue.find? fun o => isDrain o.word = drainQueue
  | e => (queueOf k e).head?

/-- The result width of a half as the MMAs issued before number `seq` leave it (R49): that of the last one still queued or
streaming which will run, else the width that the half has. -/
def widthBefore (k : Core) (half seq : Nat) : Nat :=
  let into := fun (q : QueuedOp) => q.seq < seq && isMma q.word && meHalf q.word = half
  let runs := fun (q : QueuedOp) => meWordGood q.word && (extentRefusal (mmaExtents q.word)).isNone
  match (k.meQueue.filter fun q => into q && runs q).getLast?, k.mma.filter fun m => into m.op with
  | some q, _ => gangN (mmaFields q.word).gang
  | none, some m => gangN (mmaFields m.op.word).gang
  | none, none => if half = 0 then k.width0 else k.width1

/-- Why an operation at the head of its queue is refused: code and detail (R41, R44, R126). -/
def opRefusal (k : Core) (e : Engine) (o : QueuedOp) : Option (Nat × Nat) :=
  match e with
  | .me =>
    if !meWordGood o.word then some (0x0202, wordDetail o.word)
    else if isMma o.word then extentRefusal (mmaExtents o.word)
    else extentRefusal (drainExtents o.word (widthBefore k (meHalf o.word) o.seq))
  | e =>
    if !clockedGood (codebook k) e o.reading then some (0x0202, wordDetail o.word)
    else extentRefusal (clockedExtents o.reading)

/-- Whether an operation waits at its queue's head (R135): its extents overlap those of an earlier one. -/
def scoreWaits (k : Core) (n : Nat) : Bool :=
  match k.score.find? fun e => e.seq = n with
  | none => false
  | some o =>
    k.score.any fun e => e.seq < n && (overlaps o.writes (e.reads ++ e.writes) || overlaps o.reads e.writes)

/-- Whether a DRAIN waits under R52: an MMA into its half, issued before it, has not completed its results. -/
def drainWaits (k : Core) (o : QueuedOp) : Bool :=
  let earlier := fun (q : QueuedOp) => q.seq < o.seq && isMma q.word && meHalf q.word = meHalf o.word
  k.meQueue.any earlier || (match k.mma with | some m => earlier m.op | none => false) ||
    k.mmaDone.any fun m => earlier m.op && !m.finished

/-- Whether the engine has a place for the operation. -/
def placeFree (k : Core) (e : Engine) (drainQueue : Bool) : Bool :=
  match e with
  | .me => if drainQueue then k.drain.isNone else k.mma.isNone
  | .ce => k.copies.length < 16
  | e => (runningOf k e).isNone

/-- Start an operation: it leaves its queue. A QE operation is numbered within its command (R102). -/
def startOp (k : Core) (e : Engine) (o : QueuedOp) (drainQueue : Bool) : Core :=
  let k1 := setQueue k e ((queueOf k e).filter fun q => q.seq ≠ o.seq)
  let r : RunningOp := { op := o }
  match e with
  | .me => if drainQueue then { k1 with drain := some r } else { k1 with mma := some r }
  | .ve => { k1 with ve := some r }
  | .ae => { k1 with ae := some r }
  | .xe => { k1 with xe := some r }
  | .ge => { k1 with ge := some r }
  | .ce => { k1 with copies := k1.copies ++ [r] }
  | .qe => { k1 with qe := some r, opn := k1.opn + 1 }

/-- Whether the OC is held on a full queue or scoreboard. -/
def ocHeld (k : Core) : Bool :=
  match k.run with
  | some r => r.heldQueue || r.heldScore
  | none => false

/-- The queue heads, MMAs before DRAINs. -/
def queueHeads : List (Engine × Bool) :=
  [(.me, false), (.me, true), (.ve, false), (.ae, false), (.xe, false), (.ge, false), (.ce, false), (.qe, false)]

/-- Whether the head of a queue waits on the scoreboard (R135). -/
def headWaits (k : Core) (h : Engine × Bool) : Bool :=
  match headOf k h.1 h.2 with
  | some o => (opRefusal k h.1 o).isNone && scoreWaits k o.seq
  | none => false

/-- Whether the wait of a queue's head is the one that counts in a zone cycle (R43: a cycle with more than one hold is
counted once): the OC is not held, and no head before it waits. -/
def stallCounts (k : Core) (e : Engine) (drainQueue : Bool) : Bool :=
  !ocHeld k && queueHeads.find? (headWaits k ·) = some (e, e = .me && drainQueue)

/-- ENGINE_OP_START (R43): the head of the queue is refused, waits, or starts. Each command that finds it waiting on the
scoreboard stands for one zone cycle of the wait (DESIGN CHOICE, log 14), counted unless another hold counts it. -/
def execEngineOpStart (c : Nat) (e : Engine) (drainQueue : Bool) (s : State) : Result :=
  match s.starting c, headOf (s.core c) e drainQueue with
  | some x, some o =>
    let k := s.core c
    match opRefusal k e o with
    | some (code, extra) => .next (s.engineFault x c e o code extra)
    | none =>
      if scoreWaits k o.seq then .next (if stallCounts k e drainQueue then s.bump c 0x150 48 1 else s)
      else if (drainQueue && drainWaits k o) || !placeFree k e drainQueue then .next s
      else .next (s.modCore c fun k => startOp k e o drainQueue)
  | _, _ => .next s

/-! ### The matrix engine (R45 to R52, R89 to R93) -/

/-- Operand bytes of one K-step (R49). -/
structure StepData where
  a : List Byte
  aScales : List Byte
  w : List Byte
  wScales : List Byte
deriving DecidableEq, Repr

/-- Scaled value of an element: its block scale is byte `j` (R83). -/
def scaledValue (fmt : Nat) (set : List Byte) (d scales : List Byte) (i j : Nat) : Num :=
  let v := decodeElem fmt set (elemAt fmt d i)
  if isScaled fmt then applyScale (scales.getD j 0).toNat v else v

/-- Exact sum of products of one group, rounded once to FP32; an exact zero contributes +0 (R90, R92). -/
def groupSum (ps : List (Num × Num)) : Word32 :=
  let v := (ps.map fun p => p.1.mul p.2).foldl (Num.add .nearestEven) Num.zero
  if v.isZero then 0 else BitVec.ofNat 32 (fp32.round .nearestEven v)

/-- The group sums of result element (m, n) in one K-step, in ascending k (R90, R91). -/
def stepGroups (f : MmaFields) (set : List Byte) (d : StepData) (m n : Nat) : List Word32 :=
  let kk := gangK f.gang
  let nn := gangN f.gang
  (List.range (kk / 32)).map fun g =>
    groupSum ((List.range 32).map fun i =>
      let k := 32 * g + i
      (scaledValue f.fmtA set d.a d.aScales (m * kk + k) (m * (kk / 32) + g),
       scaledValue f.fmtW set d.w d.wScales (k * nn + n) (n * (kk / 32) + g)))

/-- Add group sums to an accumulator element; the first one overwrites it if `fresh` (R90). -/
def accumulate (fresh : Bool) (old : Word32) (gs : List Word32) : Word32 :=
  match fresh, gs with
  | true, g :: l => l.foldl fp32Add g
  | _, l => l.foldl fp32Add old

/-- The key of an accumulator element (R47): half, row, physical column. -/
def accKey (half row col : Nat) : Nat := (half * 256 + row) * 256 + col

/-- Rows `lo` to `hi - 1` of one K-step of an MMA on the accumulators. -/
def mmaRows (f : MmaFields) (set : List Byte) (k : Nat) (d : StepData) (lo hi : Nat) (acc : SMap Word32) : SMap Word32 :=
  let n := gangN f.gang
  (((List.range f.rows).filter fun m => lo ≤ m && m < hi).flatMap fun m => (List.range n).map fun j => (m, j)).foldl (fun t p =>
    let key := accKey f.half p.1 (accColumn n p.2)
    t.set key (accumulate (!f.accum && k = 0) (t.get 0 key) (stepGroups f set d p.1 p.2))) acc

/-- Read one operand of a K-step. -/
def State.fetch (s : State) (c a n : Nat) (r : Requester) : Except Nat (List Byte) × State :=
  s.loadRange (clusterOffset c a) n r

/-- Read the operands of K-step `k`, or the code of the memory fault. -/
def State.stepData (s : State) (c : Nat) (f : MmaFields) (k : Nat) (r : Requester) : Except Nat StepData × State :=
  match s.fetch c (f.a + k * mmaStepA f) (mmaStepA f) r with
  | (.error code, s1) => (.error code, s1)
  | (.ok a, s1) =>
    match s1.fetch c (f.scales + k * mmaStepScales f) (mmaStepScales f) r with
    | (.error code, s2) => (.error code, s2)
    | (.ok sa, s2) =>
      match s2.fetch c (f.w + k * mmaStepW f) (mmaStepW f) r with
      | (.error code, s3) => (.error code, s3)
      | (.ok w, s3) =>
        match s3.fetch c (f.w + f.steps * mmaStepW f + k * mmaStepWScales f) (mmaStepWScales f) r with
        | (.error code, s4) => (.error code, s4)
        | (.ok sw, s4) => (.ok ⟨a, sa, w, sw⟩, s4)

/-- Stream rows `lo` to `hi - 1` of K-step `k` (R60, R90). -/
def State.streamRows (s : State) (c : Nat) (f : MmaFields) (r : Requester) (k lo hi : Nat) : Option Nat × State :=
  if hi ≤ lo then (none, s)
  else
    match s.stepData c f k r with
    | (.error code, s1) => (some code, s1)
    | (.ok d, s1) => (none, s1.modCore c fun q => { q with acc := mmaRows f (codebook q f.set) k d lo hi q.acc })

/-- Finish `n` K-steps of an MMA from step `k`, of which `lo` rows have entered (R51, R90). -/
def State.runSteps (s : State) (c : Nat) (f : MmaFields) (r : Requester) : Nat → Nat → Nat → Option Nat × Nat × State
  | 0, k, _ => (none, k, s)
  | n + 1, k, lo =>
    match s.streamRows c f r k lo f.rows with
    | (some code, s1) => (some code, k, s1)
    | (none, s1) => s1.runSteps c f r n (k + 1) 0

/-- Handshakes of one K-step, and of `n` of its rows (R51). -/
def stepHandshakes (f : MmaFields) : Nat := max (f.rows * pairHandshakes f.fmtA f.fmtW) 64
def partHandshakes (f : MmaFields) (n : Nat) : Nat := n * pairHandshakes f.fmtA f.fmtW

/-- Running time of `handshakes` at a panel, sensed as `ns`: the governor holds it at or below 2.4 G handshakes/s (R55).
The floor of 1.2 G is a promise within operating limits, which no command shows. -/
def governed (handshakes ns : Nat) : Nat := max ns (ceilDiv (10 * handshakes) 24)

/-- Count handshakes and running time at every panel (R56, R75). -/
def State.panelsRan (s : State) (c handshakes ns : Nat) : State :=
  (List.range 4).foldl (fun s p =>
    ((s.bump c (0x100 + p) 64 handshakes).bump c (0x110 + p) 64 ns).modCluster c fun k =>
      { k with panels := k.panels.modify {} p fun q =>
          { q with
            ranSincePause := if s.thermal.applied.get 0 (zoneOf c) = 0 then 0 else q.ranSincePause + ns
            windowHandshakes := q.windowHandshakes + handshakes
            windowNs := q.windowNs + ns } }) s

/-- Whether a panel of the cluster is in a reef pause (R58). -/
def State.paused (s : State) (c : Nat) : Bool :=
  (List.range 4).any fun p => ((s.cluster c).panels.get {} p).pausedUntil.isSome

/-- Whether a DRAIN issued before MMA `o` has yet to finish reading its half (R52). -/
def mmaWaits (k : Core) (o : QueuedOp) : Bool :=
  let earlier := fun (q : QueuedOp) => q.seq < o.seq && isDrain q.word && meHalf q.word = meHalf o.word
  k.meQueue.any earlier || (match k.drain with | some m => earlier m.op && m.progress = 0 | none => false)

/-- The result width that an MMA gives its half (R49). -/
def setWidth (k : Core) (f : MmaFields) : Core :=
  if f.half = 0 then { k with width0 := gangN f.gang } else { k with width1 := gangN f.gang }

/-- What the running MMA of a cluster may stream of the `steps` K-steps and the further `rows` that a command names: once
a stop is due, only the rest of its present K-step (R61). -/
def State.streamable (s : State) (c : Nat) (f : MmaFields) (m : RunningOp) (steps rows : Nat) : Nat × Nat :=
  if (s.startingMe c).isSome then
    let n := min steps (f.steps - m.progress)
    (n, if m.progress + n < f.steps then min rows (f.rows - (if n = 0 then m.rows else 0)) else 0)
  else if m.rows = 0 then (0, 0)
  else (min steps 1, 0)

/-- The handshakes of the latency of streamed MMAs that `n` further ones overlap (R51). -/
def overlapTail (n : Nat) (o : RunningOp) : RunningOp := if o.finished then o else { o with tail := min 72 (o.tail + n) }

/-- MMA (R51, R60, R61): the running MMA finishes up to so many K-steps and takes up to so many rows of the next, in `ns` of
running time and `portWait` ns of waiting on its ports. A row is whole or has not entered. After its last row the MMA makes
place for the next. -/
def execMma (c : Nat) (span : MmaSpan) (ns portWait : Nat) (s : State) : Result :=
  match s.workingMe c, (s.core c).mma with
  | some x, some m =>
    let f := mmaFields m.op.word
    let (n, p) := s.streamable c f m span.steps span.rows
    if s.paused c || mmaWaits (s.core c) m.op || (n = 0 && p = 0) then .next s
    else
      let lo := if n = 0 then m.rows else 0
      let first := if m.progress = 0 && m.rows = 0 && (s.core c).mmaDone.all (·.finished) then 64 else 0
      let hs := first + n * stepHandshakes f - (if n = 0 then 0 else partHandshakes f m.rows) + partHandshakes f p
      let s1 := ((s.modCore c fun k => { setWidth k f with mmaDone := k.mmaDone.map (overlapTail hs) }).panelsRan c hs
        (governed hs ns)).bump c 0x120 48 portWait
      let r := s1.requesterAt x c
      match s1.runSteps c f r n m.progress m.rows with
      | (some code, _, s2) => .next (s2.failOp x c .me m.op.seq code 0)
      | (none, k, s2) =>
        match s2.streamRows c f r k lo (lo + p) with
        | (some code, s3) => .next (s3.failOp x c .me m.op.seq code 0)
        | (none, s3) =>
          .next (s3.modCore c fun q =>
            if k < f.steps then onOp q m.op.seq fun o => some { o with progress := k, rows := lo + p }
            else { q with mma := none, mmaDone := q.mmaDone ++ [{ m with progress := k, rows := 0 }] })
  | _, _ => .next s

/-- MMA_COMPLETE (R51): the oldest streamed MMA has its results in the accumulator, 72 handshakes after its last row; those
that no later MMA overlapped take `tail.ns` of running time. -/
def execMmaComplete (tail : ClusterSpan) (s : State) : Result :=
  let c := tail.cluster
  match s.workingMe c, (s.core c).mmaDone.find? fun m => !m.finished with
  | some _, some m =>
    let hs := 72 - m.tail
    let s1 := if hs = 0 then s else s.panelsRan c hs (governed hs tail.ns)
    .next ((s1.modCore c fun k => finishOp { k with mmaDone := k.mmaDone.map (overlapTail hs) } m.op.seq).bump c 0x140 32 1)
  | _, _ => .next s

/-- The elements that a DRAIN writes, row-major, converted under R97. -/
def drainElems (k : Core) (f : DrainFields) : List Conversion :=
  let w := if f.half = 0 then k.width0 else k.width1
  match floatFormat f.fmt with
  | none => []
  | some g =>
    ((List.range f.rows).flatMap fun m => (List.range w).map fun j => k.acc.get 0 (accKey f.half m (accColumn w j))).map
      fun v => g.convert .nearestEven (fp32.decode v.toNat)

/-- Pair conversions with the local addresses of their elements. -/
def atAddresses (fmt base : Nat) (cs : List Conversion) : List (Nat × Conversion) :=
  cs.mapIdx fun i v => (base + i * elemBits fmt / 8, v)

/-- Write the elements of an operation at a local address, and count them. -/
def State.writeElems (s : State) (x c : Nat) (e : Engine) (o : QueuedOp) (fmt dest : Nat) (cs : List Conversion) :
    Option Nat × State :=
  match s.storeRange (clusterOffset c dest) (packElems fmt (cs.map (·.bits))) (s.requesterAt x c) with
  | (some code, s1) => (some code, s1)
  | (none, s1) => (none, s1.noteConversions c e o.word (atAddresses fmt dest cs))

/-- End a clocked operation's work: finished, or stopped by a memory fault. -/
def State.settleOp (s : State) (x c : Nat) (e : Engine) (n : Nat) : Option Nat → State
  | none => s.modCore c fun k => finishOp k n
  | some code => s.failOp x c e n code 0

/-- DRAIN (R49, R52): the running DRAIN writes its half to cluster memory. -/
def execDrain (c : Nat) (s : State) : Result :=
  match s.working c, (s.core c).drain with
  | some x, some d =>
    if d.progress ≠ 0 then .next s
    else
      let f := drainFields d.op.word
      match s.writeElems x c .me d.op f.fmt f.dest (drainElems (s.core c) f) with
      | (some code, s1) => .next (s1.failOp x c .me d.op.seq code 0)
      | (none, s1) => .next (s1.modCore c fun k => advanceOp k d.op.seq 1)
  | _, _ => .next s

/-- DRAIN_COMPLETE (R52). -/
def execDrainComplete (c : Nat) (s : State) : Result :=
  match s.working c, (s.core c).drain with
  | some _, some d =>
    if d.progress = 0 || d.finished then .next s
    else .next ((s.modCore c fun k => finishOp k d.op.seq).bump c 0x140 32 1)
  | _, _ => .next s

/-! ### The vector engine (R62, R63, R95) -/

/-- Widen an element to a lane (R62, R95): BF16 and FP16 to FP32, INT8 to INT32. -/
def widen (fmt v : Nat) : Word32 :=
  if fmt = 1 then BitVec.ofNat 32 (65536 * v)
  else if fmt = 2 then BitVec.ofNat 32 (fp32.round .nearestEven (fp16.decode v))
  else if fmt = 3 then BitVec.ofInt 32 (signedOf 8 v)
  else BitVec.ofNat 32 v

/-- The lanes of a VE operand: elements from memory, or a register, which serves lane i mod 128 of every step (DESIGN
CHOICE, log 15). -/
def State.veLanes (s : State) (c fmt n : Nat) (o : VeOperand) (r : Requester) : Except Nat (List Word32) × State :=
  match o with
  | .reg v => (.ok ((List.range n).map fun i => (s.core c).veRegs.get 0 (v * 128 + i % 128)), s)
  | .mem a =>
    match s.fetch c a (elemBytes fmt n) r with
    | (.error code, s1) => (.error code, s1)
    | (.ok d, s1) => (.ok ((List.range n).map fun i => widen fmt (elemAt fmt d i)), s1)

/-- The value of an FP32 lane. -/
def laneNum (v : Word32) : Num := fp32.decode v.toNat

/-- An FP32 result. -/
def fpResult (mode : RoundMode) (v : Num) : Word32 := BitVec.ofNat 32 (fp32.round mode v)

/-- An FP32 value as it stands, its NaN made canonical (R95). -/
def quietLane (v : Word32) : Word32 := fpResult .nearestEven (laneNum v)

/-- Element-wise results on FP32 lanes (R95): every NaN result but that of a bitwise operation is canonical (R62). -/
def veFloat (k : VeKind) (mode : RoundMode) (a b c : Word32) : Word32 :=
  match k with
  | .add => fpResult mode ((laneNum a).add mode (laneNum b))
  | .sub => fpResult mode ((laneNum a).add mode (laneNum b).negate)
  | .mul => fpResult mode ((laneNum a).mul (laneNum b))
  | .fma => fpResult mode (((laneNum a).mul (laneNum b)).add mode (laneNum c))
  | .min => fpResult mode ((laneNum a).minimum (laneNum b))
  | .max => fpResult mode ((laneNum a).maximum (laneNum b))
  | .compare t => Config.truthWord (t.holds (laneNum a) (laneNum b))
  | .select => quietLane (if a = Config.truthWord true then b else c)
  | .bitAnd => a &&& b
  | .bitOr => a ||| b
  | .bitXor => a ^^^ b
  | .bitNot => ~~~a
  | _ => quietLane a

/-- Comparison of integers. -/
def compareInt (t : Comparison) (a b : Int) : Bool :=
  match t with
  | .eq => a = b
  | .ne => a ≠ b
  | .lt => a < b
  | .le => a ≤ b
  | .gt => b < a
  | .ge => b ≤ a

/-- Element-wise results on INT32 lanes (R95): arithmetic wraps modulo 2^32. -/
def veInt (k : VeKind) (a b c : Word32) : Word32 :=
  match k with
  | .add => a + b
  | .sub => a - b
  | .mul => a * b
  | .fma => a * b + c
  | .min => if a.toInt ≤ b.toInt then a else b
  | .max => if a.toInt ≤ b.toInt then b else a
  | .compare t => Config.truthWord (compareInt t a.toInt b.toInt)
  | .select => if a = Config.truthWord true then b else c
  | .bitAnd => a &&& b
  | .bitOr => a ||| b
  | .bitXor => a ^^^ b
  | .bitNot => ~~~a
  | _ => a

/-- One level of the pairwise tree (R62): neighbours combined. -/
def pairLevel (f : Word32 → Word32 → Word32) : List Word32 → List Word32
  | a :: b :: l => f a b :: pairLevel f l
  | l => l

/-- The seven levels of the tree over 128 lanes (R62). -/
def lanePairs (f : Word32 → Word32 → Word32) (l : List Word32) : Word32 :=
  let g := pairLevel f
  (g (g (g (g (g (g (g l))))))).headD 0

/-- What a lane without an element holds in a reduction: the operation's identity (DESIGN CHOICE, log 15). -/
def padLane (float : Bool) (k : VeKind) : Word32 :=
  match k, float with
  | .minReduce, true => 0x7F800000
  | .minReduce, false => 0x7FFFFFFF
  | .maxReduce, true => 0xFF800000
  | .maxReduce, false => 0x80000000
  | _, true => 0x80000000
  | _, false => 0

/-- The combining function of a reduction (R62): FP32 sums round to nearest even. -/
def reduceWith (float : Bool) (k : VeKind) : Word32 → Word32 → Word32 :=
  let e := match k with
    | .minReduce => VeKind.min
    | .maxReduce => VeKind.max
    | _ => VeKind.add
  fun a b => if float then veFloat e .nearestEven a b 0 else veInt e a b 0

/-- The results of a lane reduction: one for every 128 lanes (R62). -/
def reduceLanes (float : Bool) (k : VeKind) (l : List Word32) : List Word32 :=
  (List.range (ceilDiv l.length 128)).map fun i =>
    let chunk := (l.drop (128 * i)).take 128
    lanePairs (reduceWith float k) (chunk ++ List.replicate (128 - chunk.length) (padLane float k))

/-- Whether the results of an operation are plain patterns (R62). -/
def rawResult : VeKind → Bool
  | .bitAnd => true
  | .bitOr => true
  | .bitXor => true
  | .bitNot => true
  | .compare _ => true
  | _ => false

/-- A lane as it is stored in format `fmt` (R62, R95, R97): narrowed, or as it stands at 32 bits. -/
def storeLane (k : VeKind) (float : Bool) (fmt : Nat) (v : Word32) : Conversion :=
  let value := if float then laneNum v else Num.ofInt v.toInt
  match floatFormat fmt with
  | some f =>
    if fmt = 0 && (float || rawResult k) then (if rawResult k then { bits := v.toNat } else asWritten fp32 v.toNat)
    else f.convert .nearestEven value
  | none => if float && !rawResult k then convertInt 32 0 .nearestEven value else { bits := v.toNat }

/-- The results of a VE operation, lane by lane. -/
def veResults (op : VeOp) (a b c : List Word32) : List Word32 :=
  let float := isPlainFloat op.fmtIn
  if (VeKind.reduces op.kind) then reduceLanes float op.kind a
  else
    (List.range op.count).map fun i =>
      let x := a.getD i 0
      let y := b.getD i 0
      let z := c.getD i 0
      if float then veFloat op.kind op.rounding.mode x y z else veInt op.kind x y z

/-- A lane as a VE operation leaves it in a register (R62): a conversion leaves its result in the output format, widened to
the lane; any other operation leaves the 32 bits of the lane (DESIGN CHOICE, log 15). -/
def registerLane (k : VeKind) (float : Bool) (fmt : Nat) (v : Word32) : Word32 :=
  match k with
  | .convert => widen fmt (storeLane k float fmt v).bits
  | _ => v

/-- Write lanes to a vector register. -/
def State.veWriteReg (s : State) (c v : Nat) (l : List Word32) : State :=
  s.modCore c fun k =>
    { k with veRegs := (l.mapIdx fun i w => (i, w)).foldl (fun t p => t.set (v * 128 + p.1 % 128) p.2) k.veRegs }

/-- VE_OP (R62, R95): the VE's running operation, all operands read before its results are written. The first NaN that it
writes to a register is recorded with local address 0 (R109; DESIGN CHOICE, log 96). -/
def execVeOp (c : Nat) (s : State) : Result :=
  match s.working c, (s.core c).ve with
  | some x, some m =>
    match m.op.reading with
    | .ve op =>
      if m.finished then .next s
      else
        let r := s.requesterAt x c
        let n := VeKind.arity op.kind
        let read := fun (s : State) (k : Nat) (o : VeOperand) =>
          if k ≤ n then s.veLanes c op.fmtIn op.count o r else (.ok [], s)
        match read s 1 op.a with
        | (.error code, s1) => .next (s1.failOp x c .ve m.op.seq code 0)
        | (.ok a, s1) =>
          match read s1 2 op.b with
          | (.error code, s2) => .next (s2.failOp x c .ve m.op.seq code 0)
          | (.ok b, s2) =>
            match read s2 3 op.c with
            | (.error code, s3) => .next (s3.failOp x c .ve m.op.seq code 0)
            | (.ok d, s3) =>
              let res := veResults op a b d
              let float := isPlainFloat op.fmtIn
              let cs := res.map (storeLane op.kind float op.fmtOut)
              match op.d with
              | .reg v =>
                let s4 := s3.veWriteReg c v (res.map (registerLane op.kind float op.fmtOut))
                let flags := match op.kind with
                  | .convert => cs.map fun q => (0, q)
                  | k => if rawResult k || !float then [] else res.map fun w => (0, asWritten fp32 w.toNat)
                .next ((s4.noteConversions c .ve m.op.word flags).settleOp x c .ve m.op.seq none)
              | .mem a =>
                let (f, s4) := s3.writeElems x c .ve m.op op.fmtOut a cs
                .next (s4.settleOp x c .ve m.op.seq f)
    | _ => .next s
  | _, _ => .next s

/-! ### Activation curves (R104 to R106) -/

/-- MODE, Y_NEG_INF, Y_POS_INF and Y_ZERO of a default slot (R106). -/
def curveHeader (slot : Nat) : Nat × Nat × Nat × Nat :=
  match slot with
  | 0 => (0, 0x80000000, 0x7F800000, 0)
  | 1 => (0, 0x80000000, 0x7F800000, 0)
  | 2 => (0, 0, 0x3F800000, 0)
  | 3 => (1, 0xBF800000, 0x3F800000, 0)
  | 4 => (5, 0, 0x7F800000, 0)
  | 5 => (4, 0x7FC00000, 0x7F800000, 0xFF800000)
  | 6 => (3, 0x80000000, 0, 0x7F800000)
  | 7 => (6, 0x7FC00000, 0, 0x7F800000)
  | 8 => (0, 0, 0x7F800000, 0)
  | 9 => (1, 0xBF800000, 0x3F800000, 0)
  | _ => (0, 0xFF800000, 0x7F800000, 0)

/-- The default image of a slot (R106). For slots 0 to 9 the spec gives the header's fields and no coefficients: COUNT
and the segments are Config.curveImageByte. Slots 10 to 15 are the identity: one segment with C1 = 1, whose START, C0 and
C2 are taken as +0 and whose unused records as zeros (DESIGN CHOICE, log 10). -/
def defaultCurve (slot : Nat) : List Byte :=
  let (mode, lo, hi, yZero) := curveHeader slot
  let known := leBytes 1 mode ++ leBytes 2 0 ++ leBytes 4 lo ++ leBytes 4 hi ++ leBytes 4 yZero
  if 10 ≤ slot then
    padTo 1024 (leBytes 1 1 ++ known ++ leBytes 4 0 ++ leBytes 4 0 ++ leBytes 4 0x3F800000 ++ leBytes 4 0)
  else
    [Config.curveImageByte slot 0] ++ known ++ (List.range 1008).map fun i => Config.curveImageByte slot (16 + i)

/-- The image in a cluster's curve slot. -/
def curveSlot (k : Core) (slot : Nat) : List Byte := k.curves.get (defaultCurve slot) slot

/-- AE_OP (R105). -/
def execAeOp (c : Nat) (s : State) : Result :=
  match s.working c, (s.core c).ae with
  | some x, some m =>
    match m.op.reading with
    | .ae op =>
      if m.finished then .next s
      else
        match s.fetch c op.source (elemBytes op.fmtIn op.count) (s.requesterAt x c) with
        | (.error code, s1) => .next (s1.failOp x c .ae m.op.seq code 0)
        | (.ok d, s1) =>
          let img := curveSlot (s.core c) op.slot
          let cs := (List.range op.count).map fun i =>
            convertElem op.fmtOut .nearestEven (curveEval img (decodeElem op.fmtIn [] (elemAt op.fmtIn d i)))
          let (f, s2) := s1.writeElems x c .ae m.op op.fmtOut op.dest cs
          .next (s2.settleOp x c .ae m.op.seq f)
    | _ => .next s
  | _, _ => .next s

/-! ### Transpose (R62, R77) -/

/-- A format code of the same width: the XE moves elements by size alone (R77). -/
def widthFormat (bits : Nat) : Nat := if bits = 4 then 4 else if bits = 8 then 3 else if bits = 16 then 1 else 12

/-- The block's bytes after the operation: transposed, or in the same row-major order for a reshape. -/
def xeResult (op : XeOp) (d : List Byte) : List Byte :=
  if !op.transpose then d
  else
    let f := widthFormat op.bits
    packElems f ((List.range op.cols).flatMap fun j => (List.range op.rows).map fun i => elemAt f d (i * op.cols + j))

/-- XE_OP (R62). -/
def execXeOp (c : Nat) (s : State) : Result :=
  match s.working c, (s.core c).xe with
  | some x, some m =>
    match m.op.reading with
    | .xe op =>
      if m.finished then .next s
      else
        match s.fetch c op.source (xeBytes op) (s.requesterAt x c) with
        | (.error code, s1) => .next (s1.failOp x c .xe m.op.seq code 0)
        | (.ok d, s1) =>
          let (f, s2) := s1.storeRange (clusterOffset c op.dest) (xeResult op d) (s1.requesterAt x c)
          .next (s2.settleOp x c .xe m.op.seq f)
    | _ => .next s
  | _, _ => .next s

/-! ### Quantisation (R97 to R102) -/

/-- Whether a stochastic conversion to a codebook saturates (R101): its magnitude is above the largest finite magnitude of
the set, and no entry lies beyond it. A nearest-even one never does: it rounds to the nearest entry (R97; DEDUCED, log 31). -/
def beyondEntries (entries : List (Nat × Num)) (w : Num) : Bool :=
  (largestMagnitude (entries.map (·.2))).lt (w.withSign false) &&
    (entries.all (fun e => e.2.lt w) || entries.all fun e => w.lt e.2)

/-- The element of an all-zero block in a codebook (R98): the lowest-numbered +0 entry, or without one the entry nearest to
zero (DEDUCED, log 31). -/
def zeroEntry (entries : List (Nat × Num)) : Nat :=
  match entries.find? fun e => e.2 = Num.zero with
  | some e => e.1
  | none => nearestEntry entries Num.zero

/-- The scale byte and the elements of one block in a scaled format (R98, R101); `draw i` is the draw of element `i`
of the block, none for nearest even. The elements of a block with scale 0xFF are codes 0 and count as no NaN written (R109;
DESIGN CHOICE, log 96). -/
def quantiseBlock (fmt : Nat) (set : List Byte) (draw : Option (Nat → Nat)) (vs : List Num) : Nat × List Conversion :=
  if vs.any fun v => !v.isFinite then (0xFF, vs.map fun _ => { bits := 0 })
  else
    let entries := finiteEntries set
    let amax := largestMagnitude vs
    if amax.isZero then
      (0, vs.map fun _ => { bits := if fmt = 11 then zeroEntry entries else 0 })
    else
      let x := blockExponent (if fmt = 11 then codebookEmax set else emaxOf fmt) amax
      let elems := vs.mapIdx fun i v =>
        let w := v.scale (-x)
        if fmt = 11 then
          let (j, drew) := match draw with
            | none => (nearestEntry entries w, false)
            | some r => stochasticEntry entries w (r i)
          { bits := j, saturated := draw.isSome && beyondEntries entries w, drew := drew, toZero := !w.isZero && ((entries.lookup j).getD Num.zero).isZero }
        else convertElem fmt (match draw with | none => .nearestEven | some r => .stochastic (r i)) w
      ((x + 127).toNat, elems)

/-- A list cut into blocks of 32, over `n` blocks. -/
def blocksOf (n : Nat) (l : List Num) : List (List Num) := (List.range n).map fun i => (l.drop (32 * i)).take 32

/-- The values that a QE operation reads (R83, R85). -/
def qeInputs (op : QeOp) (set : List Byte) (d scales : List Byte) : List Num :=
  (List.range op.count).map fun i => scaledValue op.fmtIn set d scales i (i / 32)

/-- Scale bytes and elements that a QE operation writes (R97 to R99, R101). -/
def qeOutputs (op : QeOp) (set : List Byte) (draw : Option (Nat → Nat)) (vs : List Num) : List Nat × List Conversion :=
  if isScaled op.fmtOut then
    let bs := (blocksOf (op.count / 32) vs).mapIdx fun j b =>
      quantiseBlock op.fmtOut set (draw.map fun r i => r (32 * j + i)) b
    (bs.map (·.1), bs.flatMap (·.2))
  else
    ([], vs.mapIdx fun i v =>
      convertElem op.fmtOut (match draw with | none => .nearestEven | some r => .stochastic (r i)) v)

/-- Whether a QE operation rounds stochastically (R97, R121). -/
def qeStochastic (k : Core) (op : QeOp) : Bool :=
  match op.rounding with
  | .stochastic => true
  | .nearestEven => false
  | .unnamed => match k.run with
    | some r => r.stochastic
    | none => false

/-- QE_OP (R97 to R102). -/
def execQeOp (c : Nat) (s : State) : Result :=
  match s.working c, (s.core c).qe with
  | some x, some m =>
    match m.op.reading with
    | .qe op =>
      if m.finished then .next s
      else
        let k := s.core c
        let r := s.requesterAt x c
        match s.fetch c op.source (elemBytes op.fmtIn op.count) r with
        | (.error code, s1) => .next (s1.failOp x c .qe m.op.seq code 0)
        | (.ok d, s1) =>
          match s1.fetch c op.sourceScales (if isScaled op.fmtIn then op.count / 32 else 0) r with
          | (.error code, s2) => .next (s2.failOp x c .qe m.op.seq code 0)
          | (.ok scales, s2) =>
            let set := codebook k op.set
            let key := drawKey k.seed (s.idsOf c).step c (k.opn - 1)
            let draw := if qeStochastic k op then some (drawAt key) else none
            let (xs, cs) := qeOutputs op set draw (qeInputs op set d scales)
            match s2.writeElems x c .qe m.op op.fmtOut op.dest cs with
            | (some code, s3) => .next (s3.failOp x c .qe m.op.seq code 0)
            | (none, s3) =>
              let s4 := s3.bump c 0x230 32 ((xs.filter (· = 0xFF)).length)
              let (f, s5) := s4.storeRange (clusterOffset c op.destScales) (xs.map fun v => BitVec.ofNat 8 v) r
              .next (s5.settleOp x c .qe m.op.seq f)
    | _ => .next s
  | _, _ => .next s

/-! ### Requests of the GE and the CE (R65, R269) -/

/-- The constituent of a request that an engine of cluster `c` issues. -/
def State.partOf (s : State) (x c : Nat) (e : Engine) (p : Purpose) (addr : Nat) (d : List Byte) : Part :=
  ⟨x, c, Engine.num e, p, d, s.now, addr⟩

/-- Read `n` bytes at a 48-bit address for an engine: at once from cluster memory or from this Dreuth; `none` data when
the LOAD has left for another device (R65, R277). -/
def State.engineLoad (s : State) (x c : Nat) (e : Engine) (addr n : Nat) (p : Purpose) :
    Except (Nat × Nat) (Option (List Byte)) × State :=
  if isLocalForm addr then
    let a := addr % 0x400000
    if 0x300000 < a + n then (.error (0x0201, a), s)
    else
      match s.fetch c a n (s.requesterAt x c) with
      | (.ok d, s1) => (.ok (some d), s1)
      | (.error code, s1) => (.error (code, 0), s1)
  else
    let q := { blankReq with op := 0x20, origin := .member x c, ctx := x, addr := addr, len := n }
    match s.issueRequest q (s.partOf x c e p addr []) (s.requesterAt x c) with
    | (.data d, s1) => (.ok (some d), s1)
    | (.error code, s1) => (.error (code, addressDetail addr), s1)
    | (_, s1) => (.ok none, s1)

/-- Write bytes at a 48-bit address for an engine, `op` being STORE or BULK_WRITE for a domain address. -/
def State.engineStore (s : State) (x c : Nat) (e : Engine) (op addr : Nat) (d : List Byte) (p : Purpose)
    (ref : BitVec 24) (amt : Nat) : Option (Nat × Nat) × State :=
  if isLocalForm addr then
    let a := addr % 0x400000
    if 0x300000 < a + d.length then (some (0x0201, a), s)
    else if d ≠ [] && 0x2FFC00 < a + d.length then (some (0x0204, a), s)
    else
      match s.storeRange (clusterOffset c a) d (s.requesterAt x c) with
      | (none, s1) => (none, s1)
      | (some code, s1) => (some (code, 0), s1)
  else
    let q := { blankReq with
      op := op
      origin := .member x c
      ctx := x
      addr := addr
      len := d.length
      data := d
      ref := ref
      refAmt := amt }
    match s.issueRequest q (s.partOf x c e p addr d) (s.requesterAt x c) with
    | (.error code, s1) => (some (code, addressDetail addr), s1)
    | (_, s1) => (none, s1)

/-- Cut `n` bytes from `a` at multiples of `unit` (R277: a STORE lies in one line and carries at most 64 bytes). -/
def cutPieces (unit a : Nat) : Nat → List Byte → List (Nat × List Byte)
  | 0, _ => []
  | fuel + 1, d =>
    if d = [] then []
    else
      let n := unit - a % unit
      (a, d.take n) :: cutPieces unit (a + n) fuel (d.drop n)

/-- Write pieces one after another; the first fault ends the write. -/
def State.storePieces (s : State) (x c : Nat) (e : Engine) (n : Nat) : List (Nat × List Byte) → Option (Nat × Nat) × State
  | [] => (none, s)
  | (a, d) :: l =>
    match s.engineStore x c e 0x21 a d (.geWrite n) 0 0 with
    | (some f, s1) => (some f, s1)
    | (none, s1) => s1.storePieces x c e n l

/-! ### Gather and scatter (R65) -/

/-- The additions of a scatter-add's element (R65, R95, R96): FP32, BF16 or INT32. -/
def addElems (fmt : Nat) (a b : List Byte) : List Conversion :=
  let w := elemBits fmt / 8
  let sum := fun (x y : Nat) =>
    if fmt = 0 then asWritten fp32 (fp32Add (BitVec.ofNat 32 x) (BitVec.ofNat 32 y)).toNat
    else if fmt = 1 then bf16Sum x y else { bits := x + y }
  (lanesOf w a).mapIdx fun i l => sum (leNat l) (leNat (subBytes b (w * i) w))

/-- The atomic of a scatter-add's format (R65). -/
def addAtomic (fmt : Nat) : Nat := if fmt = 0 then 0x2F else if fmt = 1 then 0x30 else 0x31

/-- The atomics that carry the addition of `d` at address `a` (R65): 16 bytes wherever the element covers an aligned
16 bytes, 8 bytes for the rest, skipping the lanes outside it. As address, size, SKIP and operand. -/
def scatterPieces (fmt : Nat) (d : List Byte) (a : Nat) : Nat → Nat → List (Nat × Bool × BitVec 4 × List Byte)
  | 0, _ => []
  | fuel + 1, at_ =>
    let stop := a + d.length
    if stop ≤ at_ then []
    else if at_ % 16 = 0 && at_ + 16 ≤ stop && a ≤ at_ then
      (at_, true, 0, subBytes d (at_ - a) 16) :: scatterPieces fmt d a fuel (at_ + 16)
    else
      let base := at_ - at_ % 8
      let w := elemBits fmt / 8
      let lanes := 8 / w
      let outside := fun j => base + j * w < a || stop ≤ base + j * w
      let skip := sumOf (fun j => if outside j then 2 ^ j else 0) (List.range lanes)
      let operand := (List.range lanes).flatMap fun j =>
        if outside j then List.replicate w 0 else subBytes d (base + j * w - a) w
      (base, false, BitVec.ofNat 4 skip, operand) :: scatterPieces fmt d a fuel (base + 8)

/-- Issue the atomics of one element (R65, R276); old values are discarded. -/
def State.scatterAtomics (s : State) (x c : Nat) (n op : Nat) :
    List (Nat × Bool × BitVec 4 × List Byte) → Option (Nat × Nat) × State
  | [] => (none, s)
  | (a, big, skip, d) :: l =>
    let q := { blankReq with
      op := op
      origin := .member x c
      ctx := x
      addr := a
      size16 := big
      skip := skip
      data := d }
    match s.issueRequest q (s.partOf x c .ge (.geWrite n) a d) (s.requesterAt x c) with
    | (.error code, s1) => (some (code, addressDetail a), s1)
    | (_, s1) => s1.scatterAtomics x c n op l

/-- The address of the element with a signed index (R62). -/
def indexedAddress (base esize : Nat) (idx : Int) : Nat := (((base : Int) + idx * esize).emod (2 ^ 48)).toNat

/-- Apply index `i` of a GE operation (R65). -/
def State.geIndex (s : State) (x c : Nat) (n : Nat) (op : GeOp) (i : Nat) : Option (Nat × Nat) × State :=
  match s.engineLoad x c .ge (0xFE0000000000 + op.list + 4 * i) 4 (.geWrite n) with
  | (.error f, s1) => (some f, s1)
  | (.ok none, s1) => (none, s1)
  | (.ok (some w), s1) =>
    let e := indexedAddress op.base op.esize (signedOf 32 (leNat w))
    let side := op.data + op.esize * i
    match op.kind with
    | .gather =>
      match s1.engineLoad x c .ge e op.esize (.gather n side) with
      | (.error f, s2) => (some f, s2)
      | (.ok none, s2) => (none, s2)
      | (.ok (some d), s2) => s2.engineStore x c .ge 0x21 (0xFE0000000000 + side) d (.geWrite n) 0 0
    | .scatter =>
      match s1.engineLoad x c .ge (0xFE0000000000 + side) op.esize (.geWrite n) with
      | (.error f, s2) => (some f, s2)
      | (.ok none, s2) => (none, s2)
      | (.ok (some d), s2) =>
        if isLocalForm e then s2.engineStore x c .ge 0x21 e d (.geWrite n) 0 0
        else s2.storePieces x c .ge n (cutPieces 64 e 16 d)
    | .scatterAdd =>
      match s1.engineLoad x c .ge (0xFE0000000000 + side) op.esize (.geWrite n) with
      | (.error f, s2) => (some f, s2)
      | (.ok none, s2) => (none, s2)
      | (.ok (some d), s2) =>
        if isLocalForm e then
          match s2.engineLoad x c .ge e op.esize (.geWrite n) with
          | (.error f, s3) => (some f, s3)
          | (.ok none, s3) => (none, s3)
          | (.ok (some old), s3) =>
            let cs := addElems op.fmt old d
            match s3.engineStore x c .ge 0x21 e (packElems op.fmt (cs.map (·.bits))) (.geWrite n) 0 0 with
            | (some f, s4) => (some f, s4)
            | (none, s4) => (none, s4.noteConversions c .ge 0 (cs.map fun q => (0, q)))
        else s2.scatterAtomics x c n (addAtomic op.fmt) (scatterPieces op.fmt d e 128 e)

/-- Apply indices in list order; the first fault ends the operation. An index whose local element lies outside cluster
memory (R41) is found only when it is reached, with the earlier indices applied (DESIGN CHOICE, log 95). -/
def State.geIndices (s : State) (x c : Nat) (n : Nat) (op : GeOp) : Nat → Nat → Option (Nat × Nat) × Nat × State
  | 0, i => (none, i, s)
  | k + 1, i =>
    match s.geIndex x c n op i with
    | (some f, s1) => (some f, i, s1)
    | (none, s1) => s1.geIndices x c n op k (i + 1)

/-- A fault of the GE or the CE: an address that leaves cluster memory or meets the tallies is an engine fault (R41,
R126), a refusal by the destination cluster raises event 0x1101 too (R72). -/
def State.requestFault (s : State) (x c : Nat) (e : Engine) (o : QueuedOp) (code extra : Nat) : State :=
  if code = 0x0201 || code = 0x0204 then s.engineFault x c e o code extra
  else
    let s1 := if code = 0x0203 then s.raiseFor 0x1101 (0x20 + c / 200) c x (s.idsOf c)
        (leBytes 2 c ++ leBytes 1 (Engine.num e) ++ leBytes 16 o.word.toNat) else s
    s1.failOp x c e o.seq code extra

/-- GE_OP (R65, R66): up to `indices` more indices of the running operation. Once its stop is due, the GE goes on only
to its next boundary of 16. -/
def execGeOp (c indices : Nat) (s : State) : Result :=
  match s.working c, (s.core c).ge with
  | some x, some m =>
    match m.op.reading with
    | .ge op =>
      let toBoundary := if m.progress % 16 = 0 then 0 else 16 - m.progress % 16
      let n := min (if (s.starting c).isSome then indices else min indices toBoundary) (op.count - m.progress)
      match s.geIndices x c m.op.seq op n m.progress with
      | (some (code, extra), i, s1) =>
        if code = stallCode then .next (s1.modCore c fun k => advanceOp k m.op.seq i)
        else .next (s1.requestFault x c .ge m.op code extra)
      | (none, i, s1) =>
        .next (s1.modCore c fun k =>
          let k1 := advanceOp k m.op.seq i
          if i = op.count then finishOp k1 m.op.seq else k1)
    | _ => .next s
  | _, _ => .next s

/-! ### Copies (R65, R66, R120, R278) -/

/-- The bytes of a copy. -/
def copyBytes (op : CeOp) : Nat := op.length * op.rows

/-- The address of byte `p` of a copy on one side (R120). -/
def copyAddress (op : CeOp) (base p : Nat) : Nat :=
  if op.length = 0 then base else base + p / op.length * op.stride + p % op.length

/-- Bytes that one piece from `p` may take: to the end of its row and to the next 4 KiB of the copy (R66, R278). -/
def copyPiece (op : CeOp) (p : Nat) : Nat :=
  if op.length = 0 then 0 else min (op.length - p % op.length) (4096 - p % 4096)

/-- Requests of operation `n` of cluster `c` that have no reply. -/
def State.requestsOf (s : State) (c n : Nat) : List Outstanding :=
  s.domain.outstanding.filter fun o => o.parts.any fun p => p.cluster = c &&
    (match p.purpose with
     | .copyRead q _ => q = n
     | .copyWrite q => q = n
     | .copyTally q => q = n
     | .gather q _ => q = n
     | .geWrite q => q = n
     | _ => false)

/-- Whether the last packet of a copy carries its increment (R278): its destination and its tally lie on one other
device. -/
def State.carriesInc (s : State) (x : Nat) (op : CeOp) (ref : BitVec 24) : Option (BitVec 24) :=
  if isLocalForm op.dest || refDevice ref = 63 then none
  else
    match s.translate x op.dest 1 .w, s.translate x (refAddress ref) 4 .t with
    | .ok a, .ok b =>
      if a.device = b.device && a.device ≠ s.deviceId && a.tctx = b.tctx then some (refAtTarget b.offset) else none
    | _, _ => none

/-- Write the bytes of a copy from byte `p` on at its destination (R278); the last packet may carry the increment. -/
def State.copyOut (s : State) (x c : Nat) (m : RunningOp) (op : CeOp) (p : Nat) (d : List Byte) :
    Option (Nat × Nat) × State :=
  let reads := (s.requestsOf c m.op.seq).any fun o => o.req.op = 0x20
  let last := !reads && ((p = m.progress && p + d.length = copyBytes op) || m.progress = copyBytes op)
  match (if last then op.inc.bind fun i => (s.carriesInc x op i.1).map fun r => (r, i.2) else none) with
  | some (r, amt) =>
    let (f, s1) := s.engineStore x c .ce 0x60 (copyAddress op op.dest p) d (.copyWrite m.op.seq) r amt
    (f, s1.modCore c fun k => onOp k m.op.seq fun o => some { o with carried := true })
  | none => s.engineStore x c .ce 0x60 (copyAddress op op.dest p) d (.copyWrite m.op.seq) 0 0

/-- CE_COPY (R65, R66, R278): copy `place` of the CE moves its next piece, at most `bytes`. Once its stop is due, the CE
goes on only to its next 4 KiB boundary. -/
def execCeCopy (c place bytes : Nat) (s : State) : Result :=
  match s.working c, (s.core c).copies[place]? with
  | some x, some m =>
    match m.op.reading with
    | .ce op =>
      if (s.starting c).isNone && m.progress % 4096 = 0 then .next s
      else
        let n := min bytes (copyPiece op m.progress)
        if n = 0 || copyBytes op ≤ m.progress then .next s
        else
          match s.engineLoad x c .ce (copyAddress op op.source m.progress) n (.copyRead m.op.seq m.progress) with
          | (.error (code, extra), s1) =>
            if code = stallCode then .next s else .next (s1.requestFault x c .ce m.op code extra)
          | (.ok none, s1) => .next (s1.modCore c fun k => advanceOp k m.op.seq (m.progress + n))
          | (.ok (some d), s1) =>
            match s1.copyOut x c m op m.progress d with
            | (some (code, extra), s2) =>
              if code = stallCode then .next s else .next (s2.requestFault x c .ce m.op code extra)
            | (none, s2) => .next (s2.modCore c fun k => advanceOp k m.op.seq (m.progress + n))
    | _ => .next s
  | _, _ => .next s

/-! ### Completion (R135) and suspension (R61, R66) -/

/-- The finished operation that ENGINE_OP_COMPLETE names: in the ME, streamed MMAs in order and then the DRAIN; in the
CE, a copy by its place. A copy is finished when every byte is written and every packet has its reply; a GE operation
likewise. -/
def State.completable (s : State) (c : Nat) (e : Engine) (place : Nat) : Option RunningOp :=
  let k := s.core c
  let quiet := fun (o : RunningOp) => (s.requestsOf c o.op.seq).isEmpty
  match e with
  | .me => (if place < k.mmaDone.length then k.mmaDone[place]? else k.drain).filter (·.finished)
  | .ce => (k.copies[place]?).filter fun o =>
      quiet o && (match o.op.reading with | .ce op => o.progress = copyBytes op | _ => true)
  | .ge => k.ge.filter fun o => o.finished && quiet o
  | e => (runningOf k e).filter (·.finished)

/-- ENGINE_OP_COMPLETE (R65, R68, R75, R135, R472): the operation leaves its engine and the scoreboard after the zone
cycles that it took, in which its ports waited for their banks as `took` says; a copy's increment is applied once, after its last byte
(R128). -/
def execEngineOpComplete (c : Nat) (e : Engine) (place : Nat) (took : EngineSpan) (s : State) : Result :=
  match s.working c, s.completable c e place with
  | some x, some o =>
    let s1 := s.modCore c fun k => releaseOp k o.op.seq
    let s2 := took.waits.foldl (fun s w => s.bump c (0x170 + w.1) 32 w.2)
      (if e = .me then s1 else s1.bump c (0x160 + Engine.num e) 48 took.busy)
    let s3 := s2.slateOnly c 0xF003 x (s.idsOf c) (leBytes 1 (Engine.num e) ++ leBytes 16 o.op.word.toNat)
    match o.op.reading with
    | .ce op =>
      match op.inc with
      | some (ref, amt) => .next (if o.carried || e ≠ .ce then s3 else s3.increment x c noEngine ref amt)
      | none => .next s3
    | _ => .next s3
  | _, _ => .next s

/-- Whether every copy, or the GE operation, is at its boundary with nothing under way (R66): a copy at a multiple of
4 KiB, or at its end. -/
def State.atBoundary (s : State) (c : Nat) (e : Engine) : Bool :=
  let k := s.core c
  let quiet := fun (o : RunningOp) => (s.requestsOf c o.op.seq).all fun r => r.frozen || !(r.req.op = 0x20 || isAtomic r.req.op)
  match e with
  | .ce => k.copies.all fun o =>
      (o.progress % 4096 = 0 || (match o.op.reading with | .ce op => copyBytes op ≤ o.progress | _ => true)) && quiet o
  | .ge => match k.ge with
    | none => true
    | some o => (o.progress % 16 = 0 || o.finished) && quiet o
  | _ => true

/-- ENGINE_SUSPEND (R66): with a stop due, the CE or the GE writes its progress record at its boundary. -/
def execEngineSuspend (c : Nat) (e : Engine) (s : State) : Result :=
  match s.working c with
  | none => .next s
  | some x =>
    if !(s.ctx x).ending || !s.atBoundary c e then .next s
    else
      match e with
      | .ce => .next (s.modCore c fun k => { k with ceSuspended := true })
      | .ge => .next (s.modCore c fun k => { k with geSuspended := true })
      | _ => .next s

/-- ME_PROGRESS_RECORD (R61): with a stop due and no DRAIN running, the ME writes its progress record at a K-step
boundary. -/
def execMeProgressRecord (c : Nat) (s : State) : Result :=
  match s.working c with
  | none => .next s
  | some x =>
    if !(s.ctx x).ending || (s.core c).drain.isSome || s.withinStep c then .next s
    else .next (s.modCore c fun k => { k with meSuspended := true })

end Sys2Proof.Machine
end

