-- ==== Sys2Proof/Machine/Timetable.lean ====
section
/-! DEFINITION. The Oztal control core: the entries of a timetable (R123 to R128, R134 to R136, R147), the trace of its
entries (R473, R474) and the dump points it reaches (R475). -/

namespace Sys2Proof.Machine

/-! ### Entries (R123) -/

/-- A bit field of a timetable entry. -/
def entryField (e : BitVec 256) (hi lo : Nat) : Nat := bitsOf e.toNat hi lo

/-- KIND, ENGINE code, TALLY and PAYLOAD. -/
def entryKind (e : BitVec 256) : Nat := entryField e 7 0
def entryEngine (e : BitVec 256) : Nat := entryField e 11 8
def entryTally (e : BitVec 256) : Nat := entryField e 43 36
def entryPayload (e : BitVec 256) : OpWord := BitVec.ofNat 128 (entryField e 255 128)

/-- The engine of a code (R125). -/
def engineOf : Nat → Option Engine
  | 0 => some .me
  | 1 => some .ve
  | 2 => some .ae
  | 3 => some .xe
  | 4 => some .ge
  | 5 => some .ce
  | 6 => some .qe
  | _ => none

/-- What the OC of a cluster is at: its context, its run, and the entry it stands at. It executes while the context
is BOUND with no stop under way, the bell is clear (R462) and no dump point holds it (R476). -/
def State.ocAt (s : State) (c : Nat) : Option (Nat × TimetableRun × BitVec 256) :=
  match s.starting c, (s.core c).run with
  | some x, some r =>
    if (s.core c).dumpDue = [] then some (x, r, (s.core c).timetable.getD r.entry 0) else none
  | _, _ => none

/-- Change the run of cluster `c`. -/
def State.modRun (s : State) (c : Nat) (f : TimetableRun → TimetableRun) : State :=
  s.modCore c fun k => { k with run := k.run.map f }

/-! ### Trace (R473, R474) -/

/-- Zone cycles in `ns` at the zone's present frequency. -/
def State.zoneCycles (s : State) (c ns : Nat) : Nat := ns * s.frequency (zoneOf c) / 1000

/-- A trace record (R473). -/
def traceRecord (entry kind flags cycle stamp c : Nat) (ids : Ids) : List Byte :=
  leBytes 2 entry ++ leBytes 1 kind ++ leBytes 1 flags ++ leBytes 4 (Nat.min cycle 4294967295) ++ leBytes 8 stamp ++
  leBytes 2 c ++ leBytes 2 ids.ctx ++ leBytes 3 ids.layer ++ leBytes 2 ids.operator ++ leBytes 4 ids.step ++ leBytes 3 0

/-- Bytes of a trace region (OD 0xA030.05); 0 turns tracing off (R474). -/
def State.traceSize (s : State) : Nat := s.reg 0xA03005

/-- Trace the entry that the OC of `c` finishes (R473, R474): into its buffer of 512 records, a gap record first after
a loss; lost when the buffer is full. -/
def State.traceEntry (s : State) (c : Nat) (r : TimetableRun) (e : BitVec 256) : State :=
  if !r.trace || s.traceSize = 0 then s
  else
    let k := s.cluster c
    let flags := (if r.heldQueue then 1 else 0) + (if r.heldScore then 2 else 0) + (if r.heldWait then 4 else 0)
    let cycle := s.zoneCycles c (s.now - k.cmdStart.getD s.now)
    let rec_ := traceRecord r.entry (entryKind e) flags cycle (s.stampAt c) c k.ids
    let gap := if k.traceLost = 0 then [] else [traceRecord r.entry (entryKind e) 8 k.traceLost (s.stampAt c) c k.ids]
    if k.traceBuf.length + gap.length + 1 ≤ 512 then
      s.modCluster c fun k => { k with traceBuf := k.traceBuf ++ gap ++ [rec_], traceLost := 0 }
    else s.modCluster c fun k => { k with traceLost := k.traceLost + 1, traceLostTotal := satAdd 32 k.traceLostTotal 1 }

/-! ### Dump points (R475) -/

/-- Whether a dump row matches member `i` of a context that carries these IDs. -/
def DumpRow.matches (r : DumpRow) (ids : Ids) (i : Nat) : Bool :=
  r.enable && !r.exhausted && r.ctx = ids.ctx && r.operator = ids.operator && (r.member = 0xFFFF || r.member = i) &&
  (r.mask % 2 = 0 || r.layer = ids.layer) && (r.mask / 2 % 2 = 0 || r.step = ids.step)

/-- The operator ID of cluster `c` has become the present one: start points are reached, end points open (R475). -/
def State.operatorStarts (s : State) (x c : Nat) : State :=
  let ids := s.idsOf c
  let i := memberIndex (s.ctx x).cls c
  let hit := (List.range 16).filter fun n => (s.dbg.dumps.get {} n).matches ids i
  let starts := hit.filter fun n => !(s.dbg.dumps.get {} n).atEnd
  let opens := hit.filter fun n => (s.dbg.dumps.get {} n).atEnd
  s.modCore c fun k => { k with dumpDue := k.dumpDue ++ starts, dumpOpen := opens }

/-- The end points of the operator in progress are reached (R475). -/
def State.operatorEnds (s : State) (c : Nat) : State :=
  s.modCore c fun k => { k with dumpDue := k.dumpDue ++ k.dumpOpen, dumpOpen := [] }

/-! ### Stepping -/

/-- Whether a kind is a wait entry (R147). -/
def isWait (kind : Nat) : Bool := kind = 2 || kind = 3

/-- The OC stands at entry `n` from now on. -/
def State.goTo (s : State) (c n : Nat) : State :=
  let e := (s.core c).timetable.getD n 0
  s.modRun c fun r =>
    { r with
      entry := n
      waitSince := if isWait (entryKind e) then some s.now else none
      heldQueue := false
      heldScore := false
      heldWait := false }

/-- The OC finishes its entry (R134) and goes on to entry `n`. -/
def State.finishEntry (s : State) (c n : Nat) : State :=
  match (s.core c).run with
  | none => s
  | some r => (s.traceEntry c r ((s.core c).timetable.getD r.entry 0)).goTo c n

/-- Context fault 0x0105 at the entry (R124, R147). -/
def State.entryFault (s : State) (x c : Nat) (r : TimetableRun) : State :=
  s.faultCtx x 0x0105 c noEngine r.entry r.ring

/-- A command of the OC of cluster `c` for an entry of kind `kind`: nothing is due if the OC stands at another kind; a
reserved kind faults the context when the OC reaches it (R124). -/
def State.atEntry (s : State) (c kind : Nat) (act : Nat → TimetableRun → BitVec 256 → State) : Result :=
  match s.ocAt c with
  | none => .next s
  | some (x, r, e) =>
    if 8 ≤ entryKind e then .next (s.entryFault x c r)
    else if entryKind e ≠ kind then .next s
    else .next (act x r e)

/-- Whether every operation issued earlier to the masked engines has completed (R124). -/
def enginesIdle (k : Core) (mask : Nat) : Bool := k.score.all fun e => !Nat.testBit mask (Engine.num e.engine)

/-- ENTRY_NOP (R124). -/
def execEntryNop (c : Nat) (s : State) : Result := s.atEntry c 0 fun _ r _ => s.finishEntry c (r.entry + 1)

/-- The scoreboard extents of a word (R135). -/
def issueExtents (k : Core) (e : Engine) (w : OpWord) (reading : ClockedOp) : Extents :=
  match e with
  | .me => if isMma w then mmaExtents w else if isDrain w then drainExtents w (widthBefore k (meHalf w) k.issued) else ⟨[], []⟩
  | _ => clockedExtents reading

/-- Put a word into its engine's queue and its extents on the scoreboard (R43, R135). -/
def enqueue (k : Core) (e : Engine) (w : OpWord) (reading : ClockedOp) (ring : Nat) : Core :=
  let x := issueExtents k e w reading
  let q : QueuedOp := { word := w, reading := reading, seq := k.issued, ring := ring }
  { setQueue k e (queueOf k e ++ [q]) with
    score := k.score ++ [{ seq := k.issued, engine := e, reads := x.reads, writes := x.writes }]
    issued := k.issued + 1 }

/-- ISSUE (R43, R124, R134, R135): the word enters its engine's queue, or the OC holds on a full queue or scoreboard. A
held ISSUE stands for one zone cycle of the hold (DESIGN CHOICE, log 14). `reading` says how a clocked engine reads the
word. -/
def execIssue (c : Nat) (reading : ClockedOp) (s : State) : Result :=
  s.atEntry c 1 fun x r e =>
    match engineOf (entryEngine e) with
    | none => s.entryFault x c r
    | some g =>
      let k := s.core c
      if queueSize g ≤ (queueOf k g).length then (s.bump c 0x150 48 1).modRun c fun r => { r with heldQueue := true }
      else if 32 ≤ k.score.length then (s.bump c 0x150 48 1).modRun c fun r => { r with heldScore := true }
      else (s.modCore c fun k => enqueue k g (entryPayload e) reading r.ring).finishEntry c (r.entry + 1)

/-- WAIT_TALLY (R126). -/
def execWaitTally (c : Nat) (s : State) : Result :=
  s.atEntry c 2 fun x r e =>
    let t := entryTally e
    let v := bitsOf (entryPayload e).toNat 31 0
    let now := s.tally c t
    if waitSatisfied now v then
      (s.slateOnly c 0xF004 x (s.idsOf c) (leBytes 1 t ++ leBytes 4 v ++ leBytes 4 now)).finishEntry c (r.entry + 1)
    else s.modRun c fun r => { r with heldWait := true }

/-- WAIT_ENGINES (R124). -/
def execWaitEngines (c : Nat) (s : State) : Result :=
  s.atEntry c 3 fun _ r e =>
    if enginesIdle (s.core c) (bitsOf (entryPayload e).toNat 6 0) then s.finishEntry c (r.entry + 1)
    else s.modRun c fun r => { r with heldWait := true }

/-- INC (R124, R127, R128). An increment that faults leaves the OC at its entry. -/
def execInc (c : Nat) (s : State) : Result :=
  s.atEntry c 4 fun x r e =>
    let p := (entryPayload e).toNat
    if enginesIdle (s.core c) (bitsOf p 38 32) then
      let s1 := s.increment x c noEngine (BitVec.ofNat 24 (bitsOf p 23 0)) (bitsOf p 31 24)
      if (s1.ctx x).state = .faulted then s1 else s1.finishEntry c (r.entry + 1)
    else s.modRun c fun r => { r with heldWait := true }

/-- LOOP (R124): back by the distance, `count` times in all; a fifth nested loop, or a distance beyond the entry's own
index, faults. -/
def execLoop (c : Nat) (s : State) : Result :=
  s.atEntry c 5 fun x r e =>
    let p := (entryPayload e).toNat
    let count := bitsOf p 15 0
    let distance := bitsOf p 31 16
    if r.entry < distance then s.entryFault x c r
    else
      match r.loops with
      | l :: rest =>
        if l.entry = r.entry then
          if l.left = 0 then (s.finishEntry c (r.entry + 1)).modRun c fun q => { q with loops := rest }
          else (s.finishEntry c (r.entry - distance)).modRun c fun q =>
            { q with loops := { l with left := l.left - 1 } :: rest }
        else if count = 0 then s.finishEntry c (r.entry + 1)
        else if 4 ≤ r.loops.length then s.entryFault x c r
        else (s.finishEntry c (r.entry - distance)).modRun c fun q =>
          { q with loops := { entry := r.entry, left := count - 1 } :: r.loops }
      | [] =>
        if count = 0 then s.finishEntry c (r.entry + 1)
        else (s.finishEntry c (r.entry - distance)).modRun c fun q =>
          { q with loops := [{ entry := r.entry, left := count - 1 }] }

/-- MARK (R124, R132, R475): records carry the new operator ID from here on. An operator in progress reaches its end
points first. -/
def execMark (c : Nat) (s : State) : Result :=
  s.atEntry c 6 fun x r e =>
    if (s.core c).dumpOpen ≠ [] then s.operatorEnds c
    else
      let s1 := s.finishEntry c (r.entry + 1)
      let s2 := s1.modCluster c fun k => { k with ids := { k.ids with operator := bitsOf (entryPayload e).toNat 15 0 } }
      s2.operatorStarts x c

/-- END (R124): the member's part is done once every issued operation has completed. -/
def execEndOp (c : Nat) (s : State) : Result :=
  s.atEntry c 7 fun x r e =>
    if (s.core c).dumpOpen ≠ [] then s.operatorEnds c
    else if (s.core c).score ≠ [] then s
    else
      let s1 := s.traceEntry c r e
      (s1.modCore c fun k => { k with run := none }).modCtx x fun k =>
        { k with members := k.members.modify {} c fun m => { m with phase := .done } }

end Sys2Proof.Machine
end

