-- ==== Sys2Proof/Machine/Commands.lean ====
section
/-! DEFINITION. Command rings and commands (R116 to R122, R127 to R133): doorbells, descriptors, the start of a command
on a member, what each opcode does there, and its completion. -/

namespace Sys2Proof.Machine

/-! ### Ring indices and descriptors -/

/-- The distance from ring index `b` up to `a`, modulo 2^32. -/
def ringDist (a b : Nat) : Nat := (4294967296 + a - b % 4294967296) % 4294967296

/-- The next ring index. -/
def ringNext (j : Nat) : Nat := (j + 1) % 4294967296

/-- Whether index `next` has passed index `j`. -/
def ringPassed (next j : Nat) : Bool := next ≠ j && ringDist next j < 2147483648

/-- Fields of R119 and flags of R121. -/
def dOpcode (d : BitVec 512) : Nat := descField d 7 0
def dContext (d : BitVec 512) : Nat := descField d 17 8
def dFlag (d : BitVec 512) (n : Nat) : Bool := descField d (96 + n) (96 + n) = 1
def dAddr0 (d : BitVec 512) : Nat := descField d 175 128
def dAddr1 (d : BitVec 512) : Nat := descField d 223 176
def dAddr2 (d : BitVec 512) : Nat := descField d 271 224
def dDim0 (d : BitVec 512) : Nat := descField d 291 272
def dDim1 (d : BitVec 512) : Nat := descField d 311 292
def dDim2 (d : BitVec 512) : Nat := descField d 331 312
def dTtPtr (d : BitVec 512) : Nat := descField d 363 332 * 256
def dIncRef (d : BitVec 512) (k : Nat) : BitVec 24 := BitVec.ofNat 24 (descField d (467 + 32 * k) (444 + 32 * k))
def dIncAmt (d : BitVec 512) (k : Nat) : Nat := descField d (475 + 32 * k) (468 + 32 * k)

/-- The cluster that a command of one member names (R120). -/
def dMember (d : BitVec 512) : Option Nat :=
  match dOpcode d with
  | 2 => some (dAddr2 d % 1024)
  | 4 => some (dDim0 d % 1024)
  | 5 => some (dDim0 d % 1024)
  | 8 => some (dAddr2 d % 1024)
  | _ => none

/-- Whether cluster `c` runs a command (R120). -/
def runsOn (d : BitVec 512) (c : Nat) : Bool :=
  match dMember d with
  | none => true
  | some m => m = c

/-- Member of cluster `c` in context `x`. -/
def memberOf (k : Ctx) (c : Nat) : Member := k.members.get {} c

/-- Change a member. -/
def State.modMember (s : State) (x c : Nat) (f : Member → Member) : State :=
  s.modCtx x fun k => { k with members := k.members.modify {} c f }

/-- Set a member's phase. -/
def State.setPhase (s : State) (x c : Nat) (p : MemberPhase) : State := s.modMember x c fun m => { m with phase := p }

/-! ### Doorbells (R118) -/

/-- Whether a new producer index is refused (R110, R113, R118). -/
def doorbellRefused (x : Nat) (k : Ctx) (v : BitVec 32) : Bool :=
  x = 0 || x ≥ 1024 || k.state = .closed || k.pendingAction = some .close ||
  k.ringSize < ringDist v.toNat k.consumer.toNat ||
  ringDist v.toNat k.consumer.toNat < ringDist k.producer.toNat k.consumer.toNat

/-- Ring a context's doorbell (R118): the answer says whether the write was accepted. -/
def State.ringDoorbell (s : State) (x : Nat) (v : BitVec 32) : Bool × State :=
  let k := s.ctx x
  if doorbellRefused x k v then
    (false, (s.modCtx x fun k => { k with doorbellRefusals := satAdd 32 k.doorbellRefusals 1 }).raiseFor 0x1003 s.hubDie
      hubUnit x {} (leBytes 4 v.toNat ++ leBytes 4 k.producer.toNat))
  else
    (true, s.modCtx x fun k =>
      { k with
        producer := v
        idleSince := if v = k.consumer then k.idleSince else none
        waitingSince := if k.producer = k.consumer then s.now else k.waitingSince })

/-- PRODUCER_INDEX_WRITE (R118). -/
def execProducerIndexWrite (x : Nat) (value : BitVec 32) (s : State) : Result := .next (s.ringDoorbell x value).2

/-- DESCRIPTOR_FETCH (R116, R117): the next pending descriptor of a BOUND context, once, at most 8 ahead. -/
def execDescriptorFetch (x : Nat) (s : State) : Result :=
  let k := s.ctx x
  if k.state ≠ .bound || k.ending || !s.towerServes (k.ringBase / 0x2400000000) || k.fetched = k.producer.toNat || 8 ≤ ringDist k.fetched k.consumer.toNat then .next s
  else
    match s.loadRange (k.ringBase + 64 * (k.fetched % k.ringSize)) 64 { ctx := x } with
    | (.error code, s1) => .next (s1.faultCtx x code noCluster noEngine 0 k.fetched)
    | (.ok d, s1) =>
      .next (s1.modCtx x fun k =>
        { k with
          descriptors := k.descriptors.set k.fetched (BitVec.ofNat 512 (leNat d))
          fetched := ringNext k.fetched })

/-! ### Command start (R129, R131, R146) -/

/-- Why a command is refused before it starts (R120, R147): code and detail. -/
def descriptorFault (x : Nat) (k : Ctx) (d : BitVec 512) : Option (Nat × Nat) :=
  if 9 < dOpcode d then some (0x0101, dOpcode d)
  else if dContext d ≠ x then some (0x0102, dContext d)
  else
    match dMember d with
    | some m => if inClass k.cls m then none else some (0x0103, m)
    | none => none

/-- The enabled waits of a descriptor: tally and threshold (R119, R121). -/
def dWaits (d : BitVec 512) : List (Nat × Nat) :=
  (if dFlag d 0 then [(descField d 371 364, descField d 403 372)] else []) ++
  (if dFlag d 1 then [(descField d 411 404, descField d 443 412)] else [])

/-- A member starts its command (R131, R472, R475, R478). -/
def State.startCommand (s : State) (x c j : Nat) (d : BitVec 512) : State :=
  let ids := dIds x d
  let s1 := (dWaits d).foldl (fun s w =>
    s.slateOnly c 0xF004 x ids (leBytes 1 w.1 ++ leBytes 4 w.2 ++ leBytes 4 (s.tally c w.1))) s
  let s2 := s1.modCluster c fun k =>
    { k with
      prevIds := k.ids
      ids := ids
      prevCmd := k.perCmd
      perCmd := SMap.empty
      cmdStart := some s.now
      nanSeen := []
      core := { k.core with opn := 0 } }
  ((s2.slateOnly c 0xF001 x ids (leBytes 4 j)).setPhase x c .started).operatorStarts x c

/-- COMMAND_START (R129, R130): member `c` of context `x` starts its next command, or passes one that does not run on
it or that a RESUME has marked complete (R146), or the context faults on its descriptor. A COLLECTIVE waits without starting, and
starts at its join (R220). -/
def execCommandStart (x c : Nat) (s : State) : Result :=
  let k := s.ctx x
  let m := memberOf k c
  if s.starting c ≠ some x || m.phase ≠ .idle || !inClass k.cls c then .next s
  else
    if k.skip.contains m.next then .next (s.modMember x c fun m => { m with next := ringNext m.next })
    else
    match descriptorAt k m.next with
    | none => .next s
    | some d =>
      if !dFlag d 4 && m.next ≠ k.consumer.toNat then .next s
      else
        match descriptorFault x k d with
        | some (code, extra) => .next (s.faultCtx x code noCluster noEngine extra m.next)
        | none =>
          if !runsOn d c then .next (s.modMember x c fun m => { m with next := ringNext m.next })
          else if dOpcode d ≠ 6 && (dWaits d).all fun w => waitSatisfied (s.tally c w.1) w.2 then
            .next (s.startCommand x c m.next d)
          else .next s

/-- The command that member `c` of context `x` could start now, with its ring index (R129). -/
def State.readyAt (s : State) (x c : Nat) : Option (Nat × BitVec 512) :=
  let k := s.ctx x
  let m := memberOf k c
  if s.starting c ≠ some x || m.phase ≠ .idle || !inClass k.cls c || k.skip.contains m.next then none
  else
    match descriptorAt k m.next with
    | none => none
    | some d =>
      if (!dFlag d 4 && m.next ≠ k.consumer.toNat) || (descriptorFault x k d).isSome || !runsOn d c ||
          !((dWaits d).all fun w => waitSatisfied (s.tally c w.1) w.2) then none
      else some (m.next, d)

/-- The descriptor that member `c` of context `x` is executing in phase `p`, if its opcode is `op`. -/
def State.executing (s : State) (x c op : Nat) (p : MemberPhase) : Option (BitVec 512) :=
  let k := s.ctx x
  let m := memberOf k c
  if s.starting c = some x && m.phase = p then
    match descriptorAt k m.next with
    | some d => if dOpcode d = op then some d else none
    | none => none
  else none

/-! ### The opcodes (R120) -/

/-- NOP: waits and increments only. -/
def execNop (x c : Nat) (s : State) : Result :=
  match s.executing x c 0 .started with
  | some _ => .next (s.setPhase x c .done)
  | none => .next s

/-- Offset and length of member `i`'s timetable in a bundle's header. -/
def bundleRow (h : List Byte) (i : Nat) : Nat × Nat := (field h (0x40 + 8 * i) 4, field h (0x44 + 8 * i) 4)

/-- Whether a bundle's header keeps the rules of R122 for `n` members; a timetable that reaches past the bundle's length
breaks them (DEDUCED, log 16). -/
def bundleHeaderGood (h : List Byte) (n : Nat) : Bool :=
  field h 0 2 = n && field h 2 2 = 1 && field h 4 4 ≤ 0x4000000 &&
  (List.range n).all fun i =>
    let (off, len) := bundleRow h i
    off % 32 = 0 && 1 ≤ len && len ≤ 1024 && off + 32 * len ≤ field h 4 4

/-- Check that every listed member's last entry is END (R122). -/
def State.bundleEnds (s : State) (tt : Nat) (h : List Byte) (r : Requester) : List Nat → Except Nat Bool × State
  | [] => (.ok true, s)
  | i :: l =>
    let (off, len) := bundleRow h i
    match s.loadRange (tt + off + 32 * (len - 1)) 32 r with
    | (.error code, s1) => (.error code, s1)
    | (.ok e, s1) => if field e 0 1 = 7 then s1.bundleEnds tt h r l else (.ok false, s1)

/-- Cut bytes into 32-byte entries. -/
def entriesOf (n : Nat) (d : List Byte) : List (BitVec 256) :=
  (List.range n).map fun i => BitVec.ofNat 256 (field d (32 * i) 32)

/-- Give a cluster its timetable: its OC stands at entry 0 (R122). -/
def State.loadTimetable (s : State) (x c j : Nat) (d : BitVec 512) (es : List (BitVec 256)) : State :=
  ((s.modCore c fun k =>
    { k with
      timetable := es
      run := some
        { ctx := x
          ring := j
          length := es.length
          trace := dFlag d 5
          stochastic := dFlag d 6 } }).setPhase x c .working).goTo c 0

/-- RUN (R122): the bundle is checked, and the member loads its timetable. It waits while a partition change stalls what it reads
(R160). -/
def execRun (x c : Nat) (s : State) : Result :=
  match s.executing x c 1 .started with
  | none => .next s
  | some d =>
    let k := s.ctx x
    let n := k.cls.length
    let r := s.requesterAt x c
    let j := (memberOf k c).next
    let bad := fun (s : State) => s.faultCtx x 0x0104 noCluster noEngine 0 j
    if s.stallsForPartition (dTtPtr d) (0x40 + 8 * n) then .next s
    else
    match s.loadRange (dTtPtr d) (0x40 + 8 * n) r with
    | (.error code, s1) => .next (s1.faultAt x c code noEngine 0)
    | (.ok h, s1) =>
      if !bundleHeaderGood h n then .next (bad s1)
      else if s.stallsForPartition (dTtPtr d) (field h 4 4) then .next s
      else
        match s1.bundleEnds (dTtPtr d) h r (List.range n) with
        | (.error code, s2) => .next (s2.faultAt x c code noEngine 0)
        | (.ok false, s2) => .next (bad s2)
        | (.ok true, s2) =>
          let (off, len) := bundleRow h (memberIndex k.cls c)
          match s2.loadRange (dTtPtr d + off) (32 * len) r with
          | (.error code, s3) => .next (s3.faultAt x c code noEngine 0)
          | (.ok b, s3) => .next (s3.loadTimetable x c j d (entriesOf len b))

/-- The copy that a COPY descriptor names (R120). -/
def copyOf (d : BitVec 512) : CeOp :=
  { source := dAddr0 d
    dest := dAddr1 d
    length := dDim0 d
    rows := dDim1 d
    stride := dDim2 d
    inc := if dFlag d 2 then some (dIncRef d 0, dIncAmt d 0) else none }

/-- COPY (R120): the copy goes to the member's CE, once its queue and the scoreboard have room. -/
def execCopy (x c : Nat) (s : State) : Result :=
  match s.executing x c 2 .started with
  | none => .next s
  | some d =>
    let k := s.core c
    if queueSize .ce ≤ k.ceQueue.length || 32 ≤ k.score.length then .next s
    else
      .next ((s.modCore c fun k => enqueue k .ce 0 (.ce (copyOf d)) (memberOf (s.ctx x) c).next).setPhase x c .working)

/-- Finish a member's part, or fault the context on a memory error. -/
def State.endPart (s : State) (x c : Nat) : Option Nat → State
  | none => s.setPhase x c .done
  | some code => s.faultAt x c code noEngine 0

/-- TALLY_SET (R120). -/
def execTallySet (x c : Nat) (s : State) : Result :=
  match s.executing x c 3 .started with
  | none => .next s
  | some d =>
    let (f, s1) := s.storeRange (clusterOffset c (tallyAddress (dDim0 d % 256))) (leBytes 4 (dAddr0 d)) (s.requesterAt x c)
    .next (s1.endPart x c f)

/-- Whether an MMA that names codebook set `n` is queued or running (R50). -/
def setInUse (k : Core) (n : Nat) : Bool :=
  let names := fun (q : QueuedOp) => isMma q.word && (mmaFields q.word).set = n
  k.meQueue.any names || k.mmaDone.any (fun m => names m.op && !m.finished) ||
    (match k.mma with | some m => names m.op | none => false)

/-- Whether an AE operation that names curve slot `n` is queued or running (R50). -/
def slotInUse (k : Core) (n : Nat) : Bool :=
  let names := fun (q : QueuedOp) => match q.reading with | .ae op => op.slot = n | _ => false
  k.aeQueue.any names || (match k.ae with | some m => names m.op && !m.finished | none => false)

/-- The bytes of a table in cluster memory, for CB_LOAD and CURVE_LOAD; an address beyond cluster memory is out of
range (R41). -/
def State.tableBytes (s : State) (x c a n : Nat) : Except (Nat × Nat) (List Byte) × State :=
  if 0x300000 < a + n then (.error (0x0201, a), s)
  else
    match s.fetch c a n (s.requesterAt x c) with
    | (.ok d, s1) => (.ok d, s1)
    | (.error code, s1) => (.error (code, 0), s1)

/-- CB_LOAD (R50, R87): any 16 bytes are accepted. -/
def execCbLoad (x c : Nat) (s : State) : Result :=
  match s.executing x c 4 .started with
  | none => .next s
  | some d =>
    let n := descField d 23 18
    if setInUse (s.core c) n then .next s
    else
      match s.tableBytes x c (dAddr0 d % 0x400000) 16 with
      | (.error (code, extra), s1) => .next (s1.faultAt x c code noEngine extra)
      | (.ok b, s1) => .next ((s1.modCore c fun k => { k with codebooks := k.codebooks.set n b }).setPhase x c .done)

/-- CURVE_LOAD (R50, R104): an invalid slot image, or one that is not 64-byte aligned, faults with 0x0108. -/
def execCurveLoad (x c : Nat) (s : State) : Result :=
  match s.executing x c 5 .started with
  | none => .next s
  | some d =>
    let n := dDim1 d % 16
    let a := dAddr0 d % 0x400000
    if slotInUse (s.core c) n then .next s
    else if a % 64 ≠ 0 then .next (s.faultAt x c 0x0108 noEngine a)
    else
      match s.tableBytes x c a 1024 with
      | (.error (code, extra), s1) => .next (s1.faultAt x c code noEngine extra)
      | (.ok b, s1) =>
        if curveValid b then .next ((s1.modCore c fun k => { k with curves := k.curves.set n b }).setPhase x c .done)
        else .next (s1.faultAt x c 0x0108 noEngine a)

/-- Whether context `x` has messages that no inbox has answered (R133, R305). -/
def State.messagesOut (s : State) (x : Nat) : Bool := s.messages.tracked.entries.any fun e => e.2.ctx = x

/-- FENCE (R120): every remote operation of the context has its reply or has completed into its tally. -/
def execFence (x c : Nat) (s : State) : Result :=
  match s.executing x c 7 .started with
  | none => .next s
  | some _ =>
    if (s.domain.outstanding.any fun o => o.parts.any fun p => p.ctx = x) || s.messagesOut x then .next s
    else .next (s.setPhase x c .done)

/-- YIELD (R120): its effect on the period comes at its completion. -/
def execYield (x c : Nat) (s : State) : Result :=
  match s.executing x c 9 .started with
  | some _ => .next (s.setPhase x c .done)
  | none => .next s

/-! ### Boundaries and completion (R130, R131) -/

/-- Whether two classes share a cluster. -/
def sharesCluster (a b : List Nat) : Bool := a.any b.contains

/-- Whether a context is eligible (R137). -/
def eligible (k : Ctx) : Bool :=
  (k.state = .opened || k.state = .parked || k.state = .bound) && k.producer ≠ k.consumer &&
  k.pendingAction ≠ some .close

/-- Whether an eligible context waits for any cluster of `cls` (R137, R138). -/
def State.contended (s : State) (x : Nat) (cls : List Nat) : Bool :=
  s.ctxs.entries.any fun e => e.1 ≠ x && eligible e.2 && e.2.state ≠ .bound && sharesCluster e.2.cls cls

/-- Whether an eligible context, or context 0, waits for a cluster of `x` (R138). -/
def State.wanted (s : State) (x : Nat) : Bool :=
  s.contended x (s.ctx x).cls || sharesCluster (s.ctx x).cls s.hubNeeds

/-- Whether a COLLECTIVE command of the context runs: from its join until it completes on every member (R139, R220). -/
def State.collectiveRuns (s : State) (x : Nat) : Bool :=
  (s.coll.running.any fun c => c.ctxs.contains x) ||
  (s.ctx x).cls.any fun c =>
    let m := memberOf (s.ctx x) c
    m.phase = .done && (match descriptorAt (s.ctx x) m.next with | some d => dOpcode d = 6 | none => false)

/-- Whether a context has a member on a tower that is fenced or in reset (R340). -/
def State.fencedClass (s : State) (cls : List Nat) : Bool :=
  ((List.range 4).filter fun t => !s.towerServes t).any fun t => cls.any fun c => c / 200 = t

/-- Whether a context's period end is deferred (R139, R340 step 1). -/
def State.defers (s : State) (x : Nat) : Bool := s.collectiveRuns x || s.fencedClass (s.ctx x).cls

/-- End a BOUND context's period (R112, R138): steps 1 to 3 of R140 begin, or are deferred while a COLLECTIVE command
runs (R139) or a member's tower is fenced (R340). -/
def State.beginStop (s : State) (x : Nat) : State :=
  let k := s.ctx x
  if k.state ≠ .bound || k.ending then s
  else if s.defers x then s.modCtx x fun k => { k with deferredSince := some (k.deferredSince.getD s.now) }
  else (s.leaveJoins x).modCtx x fun k => { k with ending := true }

/-- Whether a command that is not complete has started on a member (R130, R131): the member has passed it, or is within it. -/
def startedBy (k : Ctx) (j : Nat) (d : BitVec 512) : Bool :=
  k.cls.any fun c => runsOn d c && ringPassed (memberOf k c).next j

/-- Whether a context is at a command boundary (R131): no member is within a command, and no command is complete on a
member that is not complete on all. -/
def commandBoundary (k : Ctx) : Bool :=
  (k.cls.all fun c => (memberOf k c).phase = .idle) &&
  k.descriptors.entries.all fun e => k.skip.contains e.1 || !startedBy k e.1 e.2

/-- What takes effect at a command boundary (R103, R113, R131): a committed seed, a pending PARK. -/
def State.boundaryEffects (s : State) (x : Nat) : State :=
  let k := s.ctx x
  if !commandBoundary k then s
  else
    let s1 := match k.pendingSeed with
      | none => s
      | some v =>
        (k.cls.foldl (fun s c => s.modCore c fun q => { q with seed := v }) s).modCtx x fun k =>
          { k with pendingSeed := none }
    if k.pendingAction = some .park then s1.beginStop x else s1

/-- Whether the command with ring index `j` is complete: every member that runs it has passed it (R130), or a RESUME has
marked it so (R146). -/
def passedBy (k : Ctx) (j : Nat) : Bool :=
  k.skip.contains j ||
    match descriptorAt k j with
    | some d => k.cls.all fun c => !runsOn d c || ringPassed (memberOf k c).next j
    | none => false

/-- A YIELD's effect, and the deferred period end of a COLLECTIVE, at its completion (R120, R139). -/
def State.afterCommand (s : State) (x opcode : Nat) : State :=
  let s1 := if opcode = 9 && s.wanted x then s.beginStop x else s
  match (s1.ctx x).deferredSince with
  | some t =>
    if s1.defers x then s1
    else s1.modCtx x fun k =>
      { k with ending := k.ending || k.state = .bound, deferredSince := none, overrun := k.overrun + (s.now - t) }
  | none => s1

/-- Complete commands in ring order (R130): the consumer index advances, and members that did not run a command pass
it. -/
def State.completeCommands (s : State) (x : Nat) : Nat → State
  | 0 => s
  | fuel + 1 =>
    let k := s.ctx x
    let j := k.consumer.toNat
    if !passedBy k j then s
    else
      let s1 := s.modCtx x fun k =>
        { k with
          consumer := k.consumer + 1
          completed := satAdd 64 k.completed 1
          descriptors := k.descriptors.dropKeys (· = j)
          skip := k.skip.filter (· ≠ j)
          members := k.members.mapVals fun _ m => if m.next = j then { m with next := ringNext j } else m
          idleSince := if k.consumer + 1 = k.producer then some s.now else none }
      let opcode := match descriptorAt k j with | some d => dOpcode d | none => 0
      (s1.afterCommand x opcode).completeCommands x fuel

/-- Whether a member has finished the work of its part: done, or a COPY whose copy has left the CE. -/
def State.partDone (s : State) (c : Nat) (m : Member) (d : BitVec 512) : Bool :=
  m.phase = .done ||
    (m.phase = .working && dOpcode d = 2 && (s.core c).copies = [] && (s.core c).ceQueue = [])

/-- Apply the descriptor increments of a part (R128, R130): INC0 of COPY belongs to the copy (R120). -/
def State.applyIncs (s : State) (x c : Nat) (d : BitVec 512) : State :=
  let s1 := if dFlag d 2 && dOpcode d ≠ 2 then s.increment x c noEngine (dIncRef d 0) (dIncAmt d 0) else s
  if (s1.ctx x).state = .faulted then s1
  else if dFlag d 3 then s1.increment x c noEngine (dIncRef d 1) (dIncAmt d 1) else s1

/-- MEMBER_PART_COMPLETE (R130): the member applies its increments and has completed the command; the command may now
be complete. -/
def execMemberPartComplete (x c : Nat) (s : State) : Result :=
  let k := s.ctx x
  let m := memberOf k c
  match descriptorAt k m.next with
  | none => .next s
  | some d =>
    if s.starting c ≠ some x || !s.partDone c m d then .next s
    else
      let s1 := s.applyIncs x c d
      if (s1.ctx x).state = .faulted then .next s1
      else
        let s2 := s1.slateOnly c 0xF002 x (s1.idsOf c) (leBytes 4 m.next)
        let s3 := s2.modMember x c fun m => { next := ringNext m.next, phase := .idle }
        .next ((s3.completeCommands x 16).boundaryEffects x)

end Sys2Proof.Machine
end

