-- ==== Sys2Proof/Machine/MessageOps.lean ====
section
/-! DEFINITION. Shared operations on messages (R299 to R306): routes, hop buffers, and the completion of a message at its
origin. -/

namespace Sys2Proof.Machine

/-- Where a message goes on (R301): delivered here, out on a port, or nowhere. -/
inductive Route where
  | here
  | port (p : Nat)
  | nowhere
deriving DecidableEq, Repr

/-- The route to a device of a domain (R301, R302): in this domain, the port whose role-1 peer it is, while that port is
UP or DEMOTED; else the first row of the route table that names the domain. -/
def State.routeTo (s : State) (dom dev : Nat) : Route :=
  if dom = s.domainId then
    if dev = s.deviceId then .here
    else
      match s.portOf dev with
      | some p => if (s.port p).state = .up || (s.port p).state = .demoted then .port p else .nowhere
      | none => .nowhere
  else
    match s.messages.routes.find? fun r => r.1 = dom with
    | none => .nowhere
    | some (_, kind, target) =>
      if kind = 1 then .port target
      else
        match s.portOf target with
        | some p => .port p
        | none => .nowhere

/-- Whether a port carries MSG packets (R299, R319). -/
def State.carriesMessages (s : State) (p : Nat) : Bool :=
  let st := (s.port p).state
  st = .up || st = .msg || st = .demoted

/-- Send a message of a hop buffer, if its port has room: the SEQ of its last flit is noted (R264, R304). -/
def State.sendHop (s : State) (p : Nat) (e : HopEntry) : State :=
  if !(s.sends (.messageOut p e.message)) then s
  else
  let s1 := s.wire (.messageOut p e.message)
  s1.modPort p fun k =>
    { k with hop := k.hop.map fun h => if h.mseq = e.mseq then { h with last := some ((k.nextSeq + 65535) % 65536) } else h }

/-- Send the messages of a port's hop buffer again, in MSEQ order (R304). -/
def State.resendHop (s : State) (p : Nat) : State := (s.port p).hop.foldl (fun s e => s.sendHop p e) s

/-- Send the messages of a port's hop buffer that have waited, in MSEQ order, as far as there is room (R264, R304). -/
def State.sendHops (s : State) (p : Nat) : State :=
  (s.port p).hop.foldl (fun s e =>
    if ((s.port p).hop.find? fun h => h.last.isNone).map (·.mseq) = some e.mseq then s.sendHop p e else s) s

/-- Put a message into a port's hop buffer (R303, R304): HOPS is decremented, the message takes the next MSEQ, and it is
sent if the port carries messages. -/
def State.toHop (s : State) (p : Nat) (m : Message) : State :=
  let k := s.port p
  let e : HopEntry :=
    { mseq := k.mseqNext, at_ := s.now, message := { m with hops := m.hops - 1, mseq := k.mseqNext }, last := none }
  let s1 := s.modPort p fun q => { q with hop := q.hop ++ [e], mseqNext := (q.mseqNext + 1) % 4294967296 }
  if s.carriesMessages p then s1.sendHops p else s1

/-- A link-level acknowledgement covers SEQs up to `n` (R191, R304): messages that it covers whole leave the hop buffer. -/
def State.hopAcked (s : State) (p n : Nat) : State :=
  s.modPort p fun k => { k with hop := k.hop.filter fun h =>
    match h.last with
    | some l => !((n + 65536 - l) % 65536 < 32768)
    | none => true }

/-- The fault code that a MSG_DONE status stands for (R305). -/
def doneFault (status : Nat) : Option Nat :=
  if status = 2 then some 0x0503
  else if status = 3 then some 0x0506
  else if status = 4 then some 0x0505
  else if status = 5 then some 0x0501
  else none

/-- A SEND's context faults (R147, R305): by the ring index of the SEND, with its ADDR1. -/
def State.messageFault (s : State) (k : TrackedMessage) (code : Nat) : State :=
  s.faultCtx k.ctx code k.cluster noEngine k.addr k.ring

/-- The origin edge group learns how a message ended (R305). -/
def State.messageEnded (s : State) (edge entry status : Nat) : State :=
  match SMap.lookup s.messages.tracked.entries (1024 * edge + entry) with
  | none => s
  | some k =>
    let s1 := { s with messages := { s.messages with tracked := s.messages.tracked.dropKeys fun n => n = 1024 * edge + entry } }
    if status = 1 then s1.countReg 0x831003 64 1
    else
      match doneFault status with
      | some code => s1.messageFault k code
      | none => s1

/-- The ID of a message (R303, ADDRESS). -/
def messageId (m : Message) : Nat := m.entry + 1024 * m.edge + 4096 * m.srcDevice + 1048576 * m.srcDomain

/-- MSG_DONE goes back to the source of a message (R305). -/
def State.sendDone (s : State) (id status : Nat) : State :=
  match s.routeTo (bitsOf id 35 20) (bitsOf id 19 12) with
  | .here => s.messageEnded (bitsOf id 11 10) (bitsOf id 9 0) status
  | .port p => if s.carriesMessages p then s.wire (.msgDone p id status) else s
  | .nowhere => s

/-- A free place among the 1,024 messages that an edge group tracks (R305). -/
def State.freeEntry (s : State) (edge : Nat) : Option Nat :=
  (List.range 1024).find? fun e => (SMap.lookup s.messages.tracked.entries (1024 * edge + e)).isNone

/-- Admit a SEND's message (R301, R303, R305): stamped, tracked by its edge group, and on its way there. The member's part
ends. With no free place the SEND waits. -/
def State.admitMessage (s : State) (x c edge : Nat) (payload : List Byte) : State :=
  match descriptorAt (s.ctx x) (memberOf (s.ctx x) c).next, s.freeEntry edge with
  | some d, some entry =>
    let a := dAddr1 d
    let m : Message :=
      { srcCtx := x
        edge := edge
        entry := entry
        srcDevice := s.deviceId
        srcDomain := s.domainId
        mseq := 0
        stamp := s.stamp
        dom := bitsOf a 43 28
        dev := bitsOf a 27 20
        inbox := bitsOf a 11 0
        hops := 32
        srcFenced := s.clocks.fenced
        payload := payload }
    let k : TrackedMessage :=
      { ctx := x, ring := (memberOf (s.ctx x) c).next, cluster := c, addr := a, sent := s.now }
    let s1 := { s with messages := { s.messages with
      tracked := s.messages.tracked.set (1024 * edge + entry) k
      toEdge := s.messages.toEdge.modify [] edge fun l => l ++ [m] } }
    (s1.countReg 0x831004 64 1).setPhase x c .done
  | some _, none => s.setPhase x c .started
  | none, _ => s

end Sys2Proof.Machine
end

