-- ==== Sys2Proof/Machine/Replies.lean ====
section
/-! DEFINITION. What a request's result does at its requester (R274, R281, R282), and the answers of requests that were
held (R141, R462). -/

namespace Sys2Proof.Machine

/-- The opcode of the response that an answer travels in (R274). -/
def responseOp : Answer → Nat
  | .data _ => 0x40
  | .ack => 0x41
  | .old _ => 0x42
  | .error _ => 0x44
  | .stalled => 0
  | .sent => 0

/-- The response to a request: it echoes TAG and RID (R274). -/
def responseTo (q : Req) (a : Answer) : Reply :=
  { op := responseOp a
    rsp :=
      { rid := q.rid
        tag := q.tag
        data := match a with | .data d => d | .old d => d | _ => []
        ticket := none
        code := match a with | .error c => c | _ => 0 } }

/-- The started operation of cluster `c` with number `n`. -/
def startedOp (k : Core) (n : Nat) : Option RunningOp :=
  (k.copies ++ k.ge.toList).find? fun o => o.op.seq = n

/-- The operation that a purpose serves. -/
def purposeSeq : Purpose → Option Nat
  | .copyRead n _ => some n
  | .copyWrite n => some n
  | .copyTally n => some n
  | .gather n _ => some n
  | .geWrite n => some n
  | _ => none

/-- Remove operation `n` of context `x` at cluster `c`: from the cluster while it holds the context, else from the
context's image. -/
def State.releaseOwn (s : State) (x c n : Nat) : State :=
  if (s.cluster c).bound = some x then s.modCore c fun k => releaseOp k n
  else { s with memory := { s.memory with cores := s.memory.cores.modify {} (s.imageOf x c) fun k => releaseOp k n } }

/-- A constituent's request has failed: its operation ends, and its context faults with the code (R168, R274, R290). -/
def State.failPart (s : State) (p : Part) (code : Nat) : State :=
  match p.purpose with
  | .discard => s
  | .guest site tag =>
    s.wire (.guestReply site { op := 0x44, rsp := { rid := 0, tag := tag, data := [], ticket := none, code := code } })
  | _ =>
    let s1 := match purposeSeq p.purpose with
      | some n => s.releaseOwn p.ctx p.cluster n
      | none => s
    let c := if p.cluster < 800 then p.cluster else noCluster
    s1.faultCtx p.ctx code c p.engine (addressDetail p.address) (s1.memberRing p.ctx p.cluster)

/-- Write a result at a local address of the requesting cluster; it waits in the crossing into a stopped zone (R376). -/
def State.deliverLocal (s : State) (p : Part) (a : Nat) (d : List Byte) : State :=
  if (s.region (zoneOf p.cluster)).stopped then
    s.modRegion (zoneOf p.cluster) fun k => { k with landing := k.landing ++ [(p, a, d)] }
  else
  match s.storeRange (clusterOffset p.cluster a) d (s.requesterAt p.ctx p.cluster) with
  | (none, s1) => s1
  | (some code, s1) => s1.failPart p code

/-- A constituent receives its result (R274): data where its request wants it; a copy's data goes on to the copy's
destination (R278). -/
def State.completePart (s : State) (p : Part) (a : Answer) : State :=
  match a with
  | .error code => s.failPart p code
  | .stalled => s
  | .sent => s
  | _ =>
    let d := match a with | .data d => d | .old d => d | _ => []
    match p.purpose with
    | .deliver addr => if d = [] then s else s.deliverLocal p addr d
    | .gather _ addr => s.deliverLocal p addr d
    | .copyRead n done =>
      match startedOp (s.core p.cluster) n with
      | none => s
      | some m =>
        match m.op.reading with
        | .ce op =>
          match s.copyOut p.ctx p.cluster m op done d with
          | (some (code, extra), s1) => s1.requestFault p.ctx p.cluster .ce m.op code extra
          | (none, s1) => s1
        | _ => s
    | .send edge => s.admitMessage p.ctx p.cluster edge d
    | .guest site tag =>
      s.wire (.guestReply site { op := responseOp a, rsp := { rid := 0, tag := tag, data := d, ticket := none, code := 0 } })
    | _ => s

/-- The old values that the constituents of a combined atomic would have seen, applied singly in the order they joined
(R282): the first the old value, each later one that value with the operands before it, combined first. -/
def serialOlds (q : Req) (operands : List (List Byte)) (old : List Byte) : List (List Byte) :=
  operands.mapIdx fun i _ =>
    if i = 0 then old
    else
      let before := ((operands.take i).drop 1).foldl (fun d r => combineOperand q.op q.signed d r) (operands.headD [])
      atomicResult q.op q.signed q.skip old before []

/-- The answers of a request's constituents (R281, R282): all get a LOAD's data; of an atomic, each gets the old value
that it would have seen. -/
def partAnswers (q : Req) (parts : List Part) (a : Answer) : List (Part × Answer) :=
  match a with
  | .old old => parts.zip ((serialOlds q (parts.map (·.data)) old).map Answer.old)
  | a => parts.map fun p => (p, a)

/-- The slate record of a reply received (R472, 0xF006). -/
def State.noteReply (s : State) (o : Outstanding) : State :=
  match o.parts.head? with
  | none => s
  | some p =>
    if p.cluster < 800 then
      s.slateOnly p.cluster 0xF006 p.ctx (s.idsOf p.cluster)
        (leBytes 1 o.req.op ++ leBytes 4 (o.rid.getD 0).toNat ++ leBytes 4 o.req.tag ++ leBytes 8 p.address)
    else s

/-- An outstanding request is answered: it is no longer outstanding, and each constituent receives its result. -/
def State.finishOutstanding (s : State) (o : Outstanding) (a : Answer) : State :=
  (partAnswers o.req o.parts a).foldl (fun s p => s.completePart p.1 p.2) ((s.dropOutstanding o.handle).noteReply o)

/-- The reply cache's key of a request from a port (R289). -/
def State.cacheKey (s : State) (p : Nat) (rid : Word32) : Nat := 4096 * (s.portRole p).2 + rid.toNat % 4096

/-- Send the reply to a request from a peer and cache it (R289); a LOAD has no entry. Replies to a LOST peer are
discarded (R294). -/
def State.answerPeer (s : State) (p : Nat) (q : Req) (a : Answer) : State :=
  let r := responseTo q a
  let s1 :=
    if !carriesRid q.op then s
    else { s with domain := { s.domain with
        replies := s.domain.replies.modify {} (s.cacheKey p q.rid) fun e =>
          if e.rid = q.rid && e.state = .pending then { e with state := .replied, reply := some r, at_ := s.now } else e } }
  if (s.port p).state = .lost then s1 else s1.wire (.reply p r)

/-- A request that was held, or that waited at its home slice, has its answer: it goes to whoever sent the request. -/
def State.answerOrigin (s : State) (q : Req) (a : Answer) : State :=
  match q.origin with
  | .peer p => s.answerPeer p q a
  | .member _ _ =>
    match s.domain.outstanding.find? fun o => o.handle % 2147483648 = q.rid.toNat && o.port = 0xFF with
    | some o => s.finishOutstanding o a
    | none => s
  | .guest site =>
    match s.domain.outstanding.find? fun o => o.handle % 2147483648 = q.rid.toNat && o.port = 0xFF with
    | some o => s.finishOutstanding o a
    | none => s.wire (.guestReply site (responseTo q a))
  | .management => s

/-- The requester of a request (R168): the context that issued it here, with the IDs of the command that its cluster executes or
executed last (R132, DEDUCED, log 101); a request from another device or a guest has none. -/
def State.originRequester (s : State) (q : Req) : Requester :=
  match q.origin with
  | .member x c => if (s.idsOf c).ctx = x then s.requesterAt x c else { ctx := x }
  | _ => {}

/-! ### Writes and their increments (R128, R187, R203) -/

/-- Apply a packet's tally increment after its data (R128): `stalled` while a context's state or the bell holds it, and then it is
settled as the packet once it is applied. -/
def State.packetIncrement (s : State) (q : Req) : Answer × State :=
  if q.refAmt = 0 then (.ack, s) else s.performRequest { q with op := 0x22 } (s.originRequester q)

/-- The source of a write packet takes a fault code (R168, R274). -/
def State.packetFault (s : State) (q : Req) (code : Nat) : State :=
  match q.origin with
  | .member x c => s.faultCtx x code c 5 (addressDetail q.addr) (s.memberRing x c)
  | _ => s.answerOrigin q (.error code)

/-- Note that the last packet of a collective's transfer has been applied (R228). A collective's packets carry its number
plus 2^31 as RID, and the last one the transfer. -/
def State.transferLanded (s : State) (q : Req) : State :=
  match q.ticket with
  | none => s
  | some j =>
    { s with coll := { s.coll with
        running := s.coll.running.map fun r =>
          if q.rid = BitVec.ofNat 32 (r.seq + 2147483648) && !r.landed.contains j then { r with landed := j :: r.landed }
          else r } }

/-- Whether an earlier packet of the same copy from a peer has not been written (R278): on its way, in a buffer, or held. -/
def State.writesBefore (s : State) (q : Req) : Bool :=
  let earlier := fun (r : Req) => r.op = 0x60 && r.origin = q.origin && r.scluster = q.scluster && (r.rid - q.rid).msb
  s.rig.outbox.any (fun p => earlier p.req) || s.rig.inFlight.any (fun f => earlier f.packet.req) ||
    s.rig.arrived.entries.any (fun e => e.2.any fun p => earlier p.req) ||
    (List.range 4).any fun t => (s.tower t).hold.any earlier

/-- Write a packet's payload, and then apply its increment, where it carries one (R128, R187): `stalled` while either is held. The
increment of a peer's copy waits as a TALLY_INC while earlier packets of the copy are not written (R278). -/
def State.performWrite (s : State) (q : Req) (r : Requester) : Answer × State :=
  let fromPeer := match q.origin with | .peer _ => true | _ => false
  match s.performRequest { q with op := 0x60 } r with
  | (.ack, s1) =>
    if q.refAmt = 0 then (.ack, s1)
    else if fromPeer && s1.writesBefore q then
      (.stalled, { s1 with domain := { s1.domain with ready := s1.domain.ready ++ [{ q with op := 0x22 }] } })
    else s1.performRequest { q with op := 0x22 } r
  | (a, s1) => (a, s1)

/-- What the end of a write packet does at its source: an answer for a peer and a guest, a fault of the source context, a
collective's transfer landed (R228, R274). -/
def State.settleWrite (s : State) (q : Req) (a : Answer) : State :=
  match q.origin, a with
  | .member _ _, .error code => s.packetFault q code
  | .member _ _, _ => s.transferLanded q
  | _, a => s.answerOrigin q a

/-- Apply requests that were held, in arrival order (R140, R465). -/
def State.applyHeld (s : State) : List Req → State
  | [] => s
  | q :: l =>
    if q.op = 0x60 then
      match s.performWrite q (s.originRequester q) with
      | (.stalled, s1) => s1.applyHeld l
      | (a, s1) => (if q.rid.msb then s1.settleWrite q a else s1.answerOrigin q a).applyHeld l
    else
      match s.performRequest q (s.originRequester q) with
      | (.stalled, s1) => s1.applyHeld l
      | (a, s1) => (if q.rid.msb then s1.settleWrite q a else s1.answerOrigin q a).applyHeld l

/-- A zone's clock runs again (R374, R376): what waited in the crossings into it goes on, in order. -/
def State.openCrossing (s : State) (z : Nat) : State :=
  let k := s.region z
  let s1 := (s.modRegion z fun k => { k with crossing := [], landing := [] }).applyHeld k.crossing
  k.landing.foldl (fun s e => s.deliverLocal e.1 e.2.1 e.2.2) s1

end Sys2Proof.Machine
end

