-- ==== Sys2Proof/Machine/RigOps.lean ====
section
/-! DEFINITION. Shared operations on the rig network: sites (R20), lanes and their aim (R180, R182, R214), credits
(R195), packets on their paths and the re-sending of a path's packets (R191, R192). -/

namespace Sys2Proof.Machine

/-! ### Sites (R20, R22, R23) -/

/-- The site slots that are populated (OD 0x4000.01). -/
def State.sitePopulated (s : State) (slot : Nat) : Bool :=
  slot ≤ 4 || (7 ≤ slot && slot ≤ 10) || (5 ≤ slot && slot ≤ 6 && Nat.testBit s.fuses.guests (slot - 5))

/-- Transmit lanes, and receive-bank lanes, of a slot. -/
def siteLanes (slot : Nat) : Nat :=
  if slot ≤ 3 then 32 else if slot = 4 then 4 else if slot ≤ 6 then 8 else if slot ≤ 10 then 16 else 0

/-- The slots of a target mask (R212), in ascending order. -/
def targetSlots (mask : Nat) : List Nat := (List.range 16).filter fun d => Nat.testBit mask d

/-- The aim of a lane under the default plan (R214). -/
def planZero (slot lane : Nat) : Nat :=
  if slot ≤ 3 then
    if lane < 18 then 2 ^ ((slot + lane / 6 + 1) % 4)
    else if lane < 26 then 2 ^ (7 + (lane - 18) / 2)
    else if lane = 26 then 16 else 0
  else if slot = 4 then (if lane < 4 then 2 ^ lane else 0)
  else if 7 ≤ slot && slot ≤ 10 then (if lane < 8 then 2 ^ (lane / 2) else 0)
  else 0

/-- The site slot that a device offset belongs to (R198, R351). -/
def siteOfOffset (off : Nat) : Nat :=
  match placeOf off with
  | .hbm t _ => t
  | .scratch t _ => t
  | .cluster c _ => c / 200
  | .mailbox _ _ => 4
  | .reserved => if 0xFC00000000 ≤ off then 6 else if 0xF800000000 ≤ off then 5 else 4

/-! ### Lanes -/

/-- The key of a transmit lane. -/
def laneKey (slot lane : Nat) : Nat := slot * 64 + lane

/-- A lane as it is after a reset that retrains the rig network (R211, R214). -/
def defaultLane (k : Nat) : Lane :=
  let t := planZero (k / 64) (k % 64)
  { state := if t = 0 then .idle else .active, targets := t }

/-- A transmit lane, by its key. -/
def State.laneAt (s : State) (k : Nat) : Lane := s.rig.lanes.get (defaultLane k) k

/-- Lane `lane` of slot `slot`. -/
def State.lane (s : State) (slot lane : Nat) : Lane := s.laneAt (laneKey slot lane)

/-- Change a lane. -/
def State.modLane (s : State) (k : Nat) (f : Lane → Lane) : State :=
  { s with rig := { s.rig with lanes := s.rig.lanes.modify (defaultLane k) k f } }

/-- The keys of a slot's transmit lanes. -/
def slotLanes (slot : Nat) : List Nat := (List.range (siteLanes slot)).map (laneKey slot)

/-- The keys of every transmit lane of a populated site. -/
def State.allLanes (s : State) : List Nat := ((List.range 11).filter s.sitePopulated).flatMap slotLanes

/-- The code of a lane's state (R182). -/
def LaneState.code : LaneState → Nat
  | .idle => 0
  | .training => 1
  | .active => 2
  | .quiescing => 3
  | .retuning => 4
  | .out => 5

/-- Wavelengths in use (R255). -/
def Lane.wavelengths (l : Lane) : Nat := 16 - l.dropped.length

/-- The ACTIVE lanes of a slot that are aimed solely at `dst` (R199). -/
def State.soleLanes (s : State) (src dst : Nat) : List Nat :=
  (slotLanes src).filter fun k => (s.laneAt k).state = .active && (s.laneAt k).targets = 2 ^ dst

/-- The ACTIVE split lane of a slot whose target set is exactly `mask` (R204). -/
def State.splitLane (s : State) (src mask : Nat) : Option Nat :=
  (slotLanes src).find? fun k => (s.laneAt k).state = .active && (s.laneAt k).targets = mask

/-! ### Standing paths (R179, R193) -/

/-- The key of a standing path. -/
def standKey (src dst : Nat) : Nat := src * 16 + dst

/-- A standing path. -/
def State.standing (s : State) (src dst : Nat) : StandingPath := s.rig.standing.get {} (standKey src dst)

/-- Change a standing path. -/
def State.modStanding (s : State) (src dst : Nat) (f : StandingPath → StandingPath) : State :=
  { s with rig := { s.rig with standing := s.rig.standing.modify {} (standKey src dst) f } }

/-- The relay of a pair (R193): the lowest-numbered populated site, other than the ends, with both hops up. -/
def State.relayFor (s : State) (src dst : Nat) : Option Nat :=
  (List.range 11).find? fun r => s.sitePopulated r && r ≠ src && r ≠ dst && (s.standing src r).state = .up &&
    (s.standing r dst).state = .up

/-! ### Packets (R186, R187, R194) -/

/-- The virtual channel of an opcode (R187, R194); none for a reserved one. -/
def vcOf (op : Nat) : Option Nat :=
  if (1 ≤ op && op ≤ 0x12) || op = 0x18 || op = 0x19 then some 0
  else if 0x20 ≤ op && op ≤ 0x3F then some 1
  else if 0x40 ≤ op && op ≤ 0x5F then some 2
  else if 0x60 ≤ op && op ≤ 0x63 then some 3
  else if 0x70 ≤ op && op ≤ 0x77 then some 4
  else if 0x78 ≤ op && op ≤ 0x7F then some 5
  else none

/-- Data flits of a packet: a payload of at most 64 bytes travels in the head flit; a multicast's never does. -/
def dataFlits (p : Packet) : Nat :=
  if p.targets = [] && p.req.data.length ≤ 64 then 0 else ceilDiv p.req.data.length 128

/-- Flits of a packet. -/
def packetFlits (p : Packet) : Nat := 1 + dataFlits p

/-- The target mask of a multicast. -/
def packetMask (p : Packet) : Nat := sumOf (fun d => 2 ^ d) ((p.targets.map (·.slot)).eraseDups)

/-- A control packet of the rig network's own opcodes: `flits` in OPERAND. -/
def ctrlPacket (op src dst tag flits : Nat) : Packet :=
  { src := src
    dst := dst
    vc := 0
    stand := false
    crit := false
    req := { blankReq with op := op, tag := tag, len := flits }
    targets := []
    pseq := 0
    stamp := 0 }

/-- The relay of a pair whose standing path is down (R193, OD 0x4020.02). -/
def State.relayOf (s : State) (src dst : Nat) : Option Nat :=
  if (s.standing src dst).state = .down then s.relayFor src dst else none

/-- The BULK_WRITE packet that carries a multicast's payload to one of its targets (R204, R205). -/
def unicastTo (p : Packet) (t : McTarget) : Packet :=
  { p with
    dst := t.slot
    vc := 3
    targets := []
    req := { p.req with op := 0x60, ctx := t.ctx, addr := t.addr, ref := t.ref, refAmt := t.refAmt } }

/-- Put packets behind what waits at their source. -/
def State.toOutbox (s : State) (l : List Packet) : State :=
  { s with rig := { s.rig with outbox := s.rig.outbox ++ l } }

/-! ### Credits (R195, R196) -/

/-- The key of a source's stream to a site on a VC. -/
def streamKey (a b vc : Nat) : Nat := (a * 16 + b) * 8 + vc

/-- The credits, in flits, that a receiving site grants each source (R195); none where the requester reserves. -/
def creditLimit (dst vc : Nat) : Option Nat :=
  let row := if dst ≤ 3 then [32, 512, 0, 2048, 512, 512] else if dst = 4 then [64, 256, 0, 512, 128, 1024]
    else if dst ≤ 6 then [16, 256, 0, 1024, 256, 0] else [32, 1024, 0, 2048, 1024, 0]
  if vc = 2 then none else some (row.getD vc 0)

/-- Flits that a site has set aside for a source's multicasts that have not been sent yet (R204). -/
def State.setAside (s : State) (src dst : Nat) : Nat :=
  sumOf (fun r => if r.site = dst && r.src = src && r.granted && !r.sent then r.flits else 0) s.rig.mcReserved

/-- The credits that `src` holds at `dst` (R195): the limit, less flits sent and not read as freed, less what
multicasts have reserved. -/
def State.credits (s : State) (src dst vc : Nat) : Option Nat :=
  (creditLimit dst vc).map fun n =>
    let used := (s.rig.spent.get 0 (streamKey dst src vc) + 65536 - s.rig.credited.get 0 (streamKey dst src vc) % 65536) % 65536
    n - used - (if vc = 3 then s.setAside src dst else 0)

/-- Whether `n` flits may be sent. -/
def State.hasCredits (s : State) (src dst vc n : Nat) : Bool :=
  match s.credits src dst vc with
  | none => true
  | some c => n ≤ c

/-- Spend credits. -/
def State.spend (s : State) (src dst vc n : Nat) : State :=
  { s with rig := { s.rig with spent := s.rig.spent.modify 0 (streamKey dst src vc) (· + n) } }

/-- Credits that were spent on flits that no longer go their way are the source's again (R192, R195). -/
def State.unspend (s : State) (src dst vc n : Nat) : State :=
  { s with rig := { s.rig with spent := s.rig.spent.modify 0 (streamKey dst src vc) (· - n) } }

/-- The flits of `src` that lie at `dst` and have not left their buffer. -/
def State.buffered (s : State) (src dst vc : Nat) : Nat :=
  s.rig.spent.get 0 (streamKey dst src vc) - s.rig.freed.get 0 (streamKey dst src vc)

/-- Grant the reservations of a target that its free BULK flits allow, in arrival order, unless it withholds its credits (R204). -/
def State.grantReservations (s : State) (site : Nat) : List McReservation → State
  | [] => s
  | r :: l =>
    if s.rig.withheld.who.contains site then s
    else if r.site ≠ site || r.granted then s.grantReservations site l
    else if (creditLimit site 3).getD 0 < s.buffered r.src site 3 + s.setAside r.src site + r.flits then s
    else
      let s1 := { s with rig := { s.rig with
        mcReserved := s.rig.mcReserved.map fun q => if q = r then { q with granted := true } else q } }
      (s1.toOutbox [ctrlPacket 0x11 site r.src r.tag r.flits]).grantReservations site l

/-- A packet leaves its receive buffer: its credits are returned (R196). -/
def State.free (s : State) (src dst vc n : Nat) : State :=
  let s1 := { s with rig := { s.rig with freed := s.rig.freed.modify 0 (streamKey dst src vc) (· + n) } }
  if vc = 3 then s1.grantReservations dst s1.rig.mcReserved else s1

/-! ### Sending on a path (R185, R191, R200) -/

/-- The key of the receiver of a lane at a target, and of a standing path. -/
def laneRx (k dst : Nat) : Nat := k * 16 + dst
def standRx (src dst : Nat) : Nat := 16384 + standKey src dst

/-- Flits in a replay buffer. -/
def replayFlits (l : List (Nat × Nat × Packet)) : Nat := sumOf (fun e => e.2.1) l

/-- Put packets under way. -/
def State.launch (s : State) (l : List Flight) : State := { s with rig := { s.rig with inFlight := s.rig.inFlight ++ l } }

/-- Send a packet on a lane: it takes the lane's next SEQ and the next bytes of its stream, is kept for replay, and goes to every
target. The model numbers the bytes of sequenced flits alone: when idle flits stand between them is timing (DESIGN CHOICE, log
102). -/
def State.sendOnLane (s : State) (k : Nat) (p : Packet) : State :=
  let l := s.laneAt k
  let dsts := if p.targets = [] then [p.dst] else targetSlots l.targets
  let s1 := s.modLane k fun l =>
    { l with
      nextSeq := (l.nextSeq + packetFlits p) % 65536
      stream := l.stream + 136 * packetFlits p
      replay := l.replay ++ [(l.nextSeq, packetFlits p, p)] }
  s1.launch (dsts.map fun d => ({ path := laneRx k d, seq := l.nextSeq, packet := { p with dst := d }, first := l.stream } : Flight))

/-- Send a packet on a standing path, to the site `dst` at its end: a CTRL packet of a pair whose path is down goes by its relay
(R193). -/
def State.sendOnStanding (s : State) (src dst : Nat) (p : Packet) : State :=
  let q := s.standing src dst
  let s1 := s.modStanding src dst fun q =>
    { q with nextSeq := (q.nextSeq + packetFlits p) % 65536, replay := q.replay ++ [(q.nextSeq, packetFlits p, p)] }
  s1.launch [{ path := standRx src dst, seq := q.nextSeq, packet := p }]

/-- Put packets that are sent again before what waits at their sources (R192): PACKET_ADMIT sends them, on a lane or the standing
path. -/
def State.toFront (s : State) (l : List Packet) : State :=
  { s with rig := { s.rig with outbox := l ++ s.rig.outbox } }

/-- Whether sequence number `a` is older than `b`, modulo 2^16. -/
def seqOlder (a b : Nat) : Bool := a % 65536 ≠ b % 65536 && (b + 65536 - a % 65536) % 65536 < 32768

/-- Whether a replay entry is acknowledged up to SEQ `n`. -/
def ackedBy {α : Type} (n : Nat) (e : Nat × Nat × α) : Bool := !seqOlder n (e.1 + e.2.1 - 1)

/-- Forget what is under way on a lane. -/
def State.dropFlights (s : State) (k : Nat) : State :=
  { s with rig := { s.rig with
      inFlight := s.rig.inFlight.filter fun f => !(f.path / 16 = k && f.path < 16384)
      receivers := s.rig.receivers.dropKeys fun r => r / 16 = k && r < 16384 } }

/-- What a lane's replay entry becomes when the lane stops (R192): a packet with its PSEQ and its credits; of a multicast, a unicast
copy for each target that had not acknowledged its last flit. R256 lets no packet be duplicated: a target that has it already, its
acknowledgement still under way, discards the copy (DEDUCED, log 23). -/
def resentOf (k : Nat) (acked : SMap Nat) (under : List Flight) (e : Nat × Nat × Packet) : List Packet :=
  let p := e.2.2
  if p.targets = [] then [{ p with again := .kept }]
  else
    (p.targets.filter fun t => match SMap.lookup acked.entries t.slot with | some n => !ackedBy n e | none => true).map fun t =>
      { unicastTo p t with again := .copy !(under.any fun f => f.path = laneRx k t.slot && f.seq = e.1) }

/-- The flits of a multicast's copies that were under way on a stopped lane are free again at their targets (R192, R195, R204). -/
def State.forgetCopy (s : State) (f : Flight) : State :=
  if f.packet.targets = [] then s
  else
    let s1 := s.unspend f.packet.src f.packet.dst 3 (packetFlits f.packet)
    { s1 with rig := { s1.rig with
        mcReserved := s1.rig.mcReserved.filter fun r =>
          !(r.site = f.packet.dst && r.src = f.packet.src && r.tag = f.packet.req.tag) } }

/-- Re-send every unacknowledged packet of a lane on other paths (R192). -/
def State.resendLane (s : State) (k : Nat) : State :=
  let l := s.laneAt k
  let under := s.rig.inFlight.filter fun f => f.path / 16 = k && f.path < 16384
  let again := l.replay.flatMap (resentOf k l.acked under)
  (under.foldl State.forgetCopy (s.dropFlights k)).toFront again

/-- A path no longer waits on a full replay buffer (R191): OD 0x4021.06 counts the time in which any path did. -/
def State.endFull (s : State) (path : Nat) : State :=
  let m := s.rig.full
  if !m.who.contains path then s
  else
    let s1 := { s with rig := { s.rig with full := m.stop path } }
    if (m.stop path).who = [] then s1.countReg 0x402106 64 (m.elapsed s.now) else s1

/-- A path waits on a full replay buffer (R191). -/
def State.startFull (s : State) (path : Nat) : State :=
  { s with rig := { s.rig with full := s.rig.full.start path s.now } }

/-- A lane leaves ACTIVE for state `st`: its unacknowledged packets go elsewhere, and its stream starts anew at its next
training (R185, R192). -/
def State.stopLane (s : State) (k : Nat) (st : LaneState) : State :=
  let s1 := (s.modLane k fun l => { l with state := st }).endFull k
  (s1.resendLane k).modLane k fun l =>
    { l with
      nextSeq := 0
      nakSeq := 0
      naks := 0
      replay := []
      acked := SMap.empty
      stream := 0
      trainedBy := []
      trainStart := none }

/-- The unit of a site's rig interface, and its die (R326, R470): events of a lane or path come from its sender. -/
def siteUnit (slot : Nat) : Nat :=
  if slot ≤ 3 then 0x1000 + slot else if slot = 4 then 0x3000 else if slot ≤ 6 then 0x6000 + (slot - 5) else 0x5000 + (slot - 7)
def siteDie (slot : Nat) : Nat := if slot ≤ 3 then 0x10 + slot else if slot = 4 then 0x30 else 0

/-- A lane is taken OUT (R192): the event names it. -/
def State.laneOut (s : State) (k : Nat) (retry : Bool) : State :=
  let s1 := (s.stopLane k .out).modLane k fun l => { l with retrains := 0, lastRetrain := s.now, noRetrain := !retry }
  (s1.countReg 0x402105 32 1).raise 0x1302 (siteDie (k / 64)) (siteUnit (k / 64)) (leBytes 1 (k / 64) ++ leBytes 1 (k % 64))

/-- A trained lane becomes ACTIVE, or IDLE when it has no target: its stream starts with SEQ 0 (R190). -/
def State.laneActive (s : State) (k : Nat) : State :=
  ((s.endFull k).dropFlights k).modLane k fun l =>
    { l with
      state := if l.targets = 0 then .idle else .active
      nextSeq := 0
      stream := 0
      nakSeq := 0
      naks := 0
      replay := []
      acked := SMap.empty
      trainedBy := []
      trainStart := none
      wrongWait := false
      ignoreNaks := false
      retrains := 0 }

/-! ### Arrivals -/

/-- Whether a request would be stalled while its tower's hold buffer is full (R196): it stays in its VC buffer. -/
def State.mustWait (s : State) (q : Req) : Bool :=
  match placeOf q.addr with
  | .cluster c _ => s.deliveryOf q.ctx c = .stall && s.holdFull (c / 200) q
  | _ => false

/-- Packets delivered at a site and not yet applied. -/
def State.arrivedAt (s : State) (site : Nat) : List Packet := s.rig.arrived.get [] site

/-- Whether a packet stays in its VC buffer, with its credits withheld: its context is stalled and the hold buffer of its tower full
(R196), or a partition change stalls its extent (R159). -/
def State.stuckAt (s : State) (site : Nat) (p : Packet) : Bool :=
  let q := match p.targets.find? fun t => t.slot = site with | some t => (unicastTo p t).req | none => p.req
  p.vc = 3 && (s.stallsForPartition q.addr q.data.length || s.mustWait q)

/-- The first packet at a site with an opcode that its buffer lets go: packets of one source on one VC leave in order, and behind a
stalled one all of them wait (R196). -/
def State.firstArrived (s : State) (site op : Nat) : Option Packet :=
  let l := s.arrivedAt site
  l.find? fun p => p.req.op = op && !s.stuckAt site p && (l.find? fun q => q.src = p.src && q.vc = p.vc) = some p

/-- The first packet at a site with an opcode that the full hold buffer keeps in its VC buffer. -/
def State.firstStuck (s : State) (site op : Nat) : Option Packet :=
  (s.arrivedAt site).find? fun p => p.req.op = op && s.stuckAt site p

/-- Take a packet out of its buffer, and return its credits. -/
def State.consume (s : State) (site : Nat) (p : Packet) : State :=
  let s1 := { s with rig := { s.rig with arrived := s.rig.arrived.set site ((s.arrivedAt site).erase p) } }
  s1.free p.src site p.vc (packetFlits p)

/-! ### Refusals (R23) -/

/-- A request or message that names a reserved or unpopulated slot, or a VC without credits there (R23, R195). -/
def State.slotRefusal (s : State) (src dst op plan : Nat) : State :=
  (s.countReg 0x400003 32 1).raise 0x1301 (siteDie src) (siteUnit src)
    (leBytes 1 src ++ leBytes 1 dst ++ leBytes 1 op ++ leBytes 1 plan)

end Sys2Proof.Machine
end

