-- ==== Sys2Proof/Machine/Flits.lean ====
section
/-! DEFINITION. The flits of the rig network as bytes (R178, R183 to R190): symbols and wavelengths, the codeword RS(68,64), the
contents of head, data, idle and link control flits, the CRC, and what a receiver makes of a packet whose symbols it read wrong. -/

namespace Sys2Proof.Machine

/-! ### Symbols and wavelengths (R178, R184) -/

/-- The level of a pair of bits, 0 the lowest (R178): 00, 01, 11, 10 in ascending order. The code is its own inverse. -/
def grayCode (pair : Nat) : Nat := [0, 1, 3, 2].getD pair 0

/-- The four symbols of a byte, bits [1:0] first. -/
def symbolsOf (b : Byte) : List Nat := (List.range 4).map fun i => grayCode (b.toNat / 4 ^ i % 4)

/-- The byte of four symbols. -/
def ofSymbols (l : List Nat) : Byte := BitVec.ofNat 8 (sumOf (fun i => grayCode (l.getD i 0) * 4 ^ i) (List.range 4))

/-- The wavelength positions that a lane still uses, in ascending order (R184, R255). -/
def survivors (dropped : List Nat) : List Nat := (List.range 16).filter fun w => !dropped.contains w

/-- The wavelength on which byte `n` of a lane's wire stream travels (R184). -/
def waveOf (dropped : List Nat) (n : Nat) : Nat :=
  (survivors dropped).getD (n % (survivors dropped).length) 0

/-- The wavelength on which byte `n` of a path's stream travels: a lane stripes (R184), a standing path has the one of R179. -/
def State.waveOn (s : State) (path n : Nat) : Nat :=
  if path < 16384 then waveOf (s.laneAt (path / 16)).dropped n
  else ((path - 16384) % 16 + 16 - (path - 16384) / 16 % 16) % 16

/-- Of `count` bytes of a path's stream from byte `first` on, that which holds symbol `nth` of wavelength `wave`; each wavelength
sends its bytes in ascending order (R184). -/
def State.byteOnWave (s : State) (path first count wave nth : Nat) : Option Nat :=
  ((List.range count).filter fun i => s.waveOn path (first + i) = wave)[nth / 4]?

/-- The byte of the training pattern on wavelength position `w` (R190). -/
def trainingByte (w : Nat) : Byte := BitVec.ofNat 8 (0x50 + w)

/-! ### The codeword of a flit (R183) -/

/-- Symbol `j` of an RS(68,64) codeword, the coefficient of x^(67 - j), has the locator of symbol `j + 4` of R165. -/
def flitPattern (p : ErrorPattern) : ErrorPattern := p.map fun e => (e.1 + 4, e.2)

/-- The coefficients of x^3 down to x^0 of the generator, the product of (x - α^i) for i = 0 to 3 (R183). -/
def flitGenerator : List Byte := (generatorOf 4).drop 1

/-- The check bytes of 64 content bytes (R183). -/
def flitChecks (d : List Byte) : List Byte := d.foldl (divideStep flitGenerator) (List.replicate 4 0)

/-- A flit of 128 content bytes as it goes on the wire, 136 bytes (R183). -/
def wireFlit (c : List Byte) : List Byte :=
  c.take 64 ++ flitChecks (c.take 64) ++ (c.drop 64 ++ flitChecks (c.drop 64))

/-- What the decoder leaves of the errors of a codeword (R183): at most two symbols are corrected; none if it cannot correct. -/
def decodeFlit (p : ErrorPattern) : Option ErrorPattern :=
  (correctionIn 4 4 ((syndromes (flitPattern p)).take 4)).map fun f => patternAdd (flitPattern p) f

/-! ### Contents (R185, R186, R189) -/

/-- OPERAND (R186): of a reservation its flits (R204); of a request, and of a BULK_WRITE, as R275 lays it out, where RID and TICKET
are those of a request that came over a fibre (R274: within the package RID is 0). The spec defines none for MC_WRITE and the
reduce-adds; it is zero. -/
def operandBytes (p : Packet) : List Byte :=
  let q := p.req
  if p.vc = 0 then padTo 16 (leBytes 2 q.len)
  else if p.vc ≠ 1 && q.op ≠ 0x60 then leBytes 16 0
  else
    let fabric : Bool := match q.origin with | .peer _ => true | _ => false
    leBytes 4 (if fabric then q.rid.toNat else 0) ++
    leBytes 1 (bitAt 0 q.size16 + bitAt 1 q.signed + bitAt 2 (fabric && q.ticket.isSome) + bitAt 3 q.nocomb + 16 * q.skip.toNat) ++
    leBytes 1 q.win ++ leBytes 2 (if fabric then q.ticket.getD 0 else 0) ++
    leBytes 2 (match q.origin with | .member _ c => c | _ => q.scluster) ++ leBytes 2 (q.len - 1) ++ leBytes 4 0

/-- A target descriptor (R203). -/
def targetBytes (t : McTarget) : List Byte :=
  leBytes 1 (128 + t.slot) ++ leBytes 1 0 ++ leBytes 2 t.ctx ++ leBytes 6 t.addr ++ leBytes 3 t.ref.toNat ++ leBytes 1 t.refAmt ++
    leBytes 2 0

/-- The immediate payload: of a packet without data flits its payload, of a multicast its target descriptors (R186, R203). -/
def immediate (p : Packet) : List Byte :=
  if p.targets ≠ [] then (p.targets.map targetBytes).flatten else if dataFlits p = 0 then p.req.data else []

/-- Bytes 0 to 59 of a head flit (R186). -/
def headFields (p : Packet) (seq : Nat) : List Byte :=
  let q := p.req
  leBytes 1 1 ++
  leBytes 1 (p.vc + bitAt 3 p.stand + bitAt 4 (decide (p.targets ≠ [])) + bitAt 5 p.crit) ++
  leBytes 2 seq ++ leBytes 2 (if p.targets = [] then p.pseq else 0) ++ leBytes 1 (p.src + 16 * p.dst) ++ leBytes 1 (dataFlits p) ++
  leBytes 1 q.op ++ leBytes 1 (if p.targets = [] then (immediate p).length else 0) ++ leBytes 2 (q.ctx % 1024) ++ leBytes 6 q.addr ++
  leBytes 2 0 ++ leBytes 4 q.tag ++ leBytes 3 q.ref.toNat ++ leBytes 1 q.refAmt ++ leBytes 4 0 ++ operandBytes p ++
  leBytes 8 p.stamp ++ leBytes 4 0

/-- One byte of the CRC-32 of IEEE 802.3, reflected (R188). -/
def crcByte (r : Word32) (b : Byte) : Word32 :=
  (List.range 8).foldl (fun r _ => if r.getLsbD 0 then (r >>> 1) ^^^ 0xEDB88320#32 else r >>> 1) (r ^^^ b.setWidth 32)

/-- The CRC-32 of a list of bytes (R188). -/
def crc32 (l : List Byte) : Word32 := ~~~(l.foldl crcByte (BitVec.allOnes 32))

/-- The bytes of a packet that its CRC covers (R188): SEQ and the CRC itself are left out. -/
def crcCover (head : List Byte) (data : List (List Byte)) : List Byte :=
  subBytes head 0 2 ++ subBytes head 4 56 ++ subBytes head 64 64 ++ data.flatten

/-- The contents of a packet's data flits (R185). -/
def dataContents (p : Packet) : List (List Byte) :=
  (List.range (dataFlits p)).map fun i => padTo 128 (subBytes p.req.data (128 * i) 128)

/-- The contents of a packet's flits, its head flit first (R185, R186). -/
def packetContents (p : Packet) (seq : Nat) : List (List Byte) :=
  let fields := headFields p seq
  let imm := padTo 64 (immediate p)
  let data := dataContents p
  (fields ++ leBytes 4 (crc32 (crcCover (fields ++ leBytes 4 0 ++ imm) data)).toNat ++ imm) :: data

/-- The content of an idle flit (R185). -/
def idleContent : List Byte := padTo 128 [0x03]

/-- The code of a link control entry's operation (R189). -/
def linkCode : LinkOp → Nat
  | .ack => 0
  | .nak => 1
  | .trained => 2
  | .wrong => 3

/-- The content of a link control flit (R189). -/
def linkContent (f : LinkFlit) : List Byte :=
  leBytes 1 2 ++ leBytes 1 f.entries.length ++ leBytes 1 (if f.relayed then 128 + f.sender else 0) ++
  leBytes 1 (if f.relayed then f.receiver else 0) ++ ((List.range 6).map fun v => leBytes 2 (f.credits.getD v 0)).flatten ++
  leBytes 2 f.sack ++ leBytes 1 f.sop.toNat ++ leBytes 13 0 ++
  padTo 96 ((f.entries.map fun e => leBytes 1 (e.1 % 64 + 64 * linkCode e.2.1) ++ leBytes 2 e.2.2).flatten)

/-! ### Krytae frames (R411, R412) -/

/-- TYPE, FLAGS, STATUS, TID, INDEX, SUB, OFFSET and the value of a frame (R411, R412). A response names the entry and the flags of its
request (DEDUCED, log 110). -/
def frameParts : Output → Nat × Nat × Nat × Nat × Nat × Nat × Nat × List Byte
  | .response _ type t status v =>
    (type, 1 + 2 * t.shadow.toNat + 4 * t.more.toNat, status, t.tid.toNat, t.index, t.sub, t.offset, v)
  | .eventFrame r => (6, 0, 0, 0, 0, 0, 0, r)
  | .statusFrame serial active epoch count =>
    (7, 0, 0, 0, 0, 0, 0, leBytes 8 serial ++ leBytes 1 active ++ leBytes 4 epoch ++ leBytes 8 count)
  | .takeoverFrame old new active reason =>
    (8, 0, 0, 0, 0, 0, 0, leBytes 4 old ++ leBytes 4 new ++ leBytes 1 active ++ leBytes 1 reason)
  | _ => (0, 0, 0, 0, 0, 0, 0, [])

/-- The contents of a frame's flits, its head flit with link sequence number `seq` first (R411). -/
def frameContents (f : Sent) (seq : Nat) : List (List Byte) :=
  let (type, flags, status, tid, index, sub, offset, v) := frameParts f.frame
  let n := frameDataFlits f.frame
  let fields := leBytes 1 1 ++ leBytes 1 type ++ leBytes 2 seq ++ leBytes 1 flags ++ leBytes 1 n ++ leBytes 2 status ++ leBytes 4 tid ++
    leBytes 4 f.epoch ++ leBytes 8 f.oseq ++ leBytes 2 index ++ leBytes 1 sub ++ leBytes 1 0 ++ leBytes 4 v.length ++
    leBytes 4 offset ++ leBytes 24 0
  let data := (List.range n).map fun i => padTo 128 (subBytes v (128 * i) 128)
  (fields ++ leBytes 4 (crc32 (subBytes fields 0 2 ++ subBytes fields 4 56 ++ data.flatten)).toNat ++
    padTo 64 (if n = 0 then v else [])) :: data

/-! ### What a receiver makes of a packet (R188, R191) -/

/-- The bytes of a packet's wire flits that symbols read wrong have changed, by their place in the packet's wire bytes, with what
has been added to each. -/
def State.wireErrors (s : State) (f : Flight) (wire : List Byte) (noise : List SymbolError) : ErrorPattern :=
  let hit := fun (e : SymbolError) => s.byteOnWave f.path f.first wire.length e.wave e.nth
  (List.range wire.length).filterMap fun i =>
    let sent := wire.getD i 0
    let read := ofSymbols ((noise.filter fun e => hit e = some i).foldl (fun l e => l.set (e.nth % 4) (e.level % 4)) (symbolsOf sent))
    if read = sent then none else some (i, sent ^^^ read)

/-- The errors of codeword `h` (0 for A, 1 for B) of flit `n` among those of a packet's wire bytes. -/
def codewordErrors (p : ErrorPattern) (n h : Nat) : ErrorPattern :=
  p.filterMap fun e => if e.1 / 68 = 2 * n + h then some (e.1 % 68, e.2) else none

/-- A flit's content as it was read and corrected: none when a codeword cannot be corrected (R183). -/
def readContent (p : ErrorPattern) (n : Nat) (c : List Byte) : Option (List Byte) :=
  match decodeFlit (codewordErrors p n 0), decodeFlit (codewordErrors p n 1) with
  | some a, some b =>
    some (c.mapIdx fun i v => v ^^^ (if i < 64 then patternAt a (i + 4) else patternAt b (i - 64 + 4)))
  | _, _ => none

/-- Whether a head flit's fields are within R188's limits: KIND, VC and OP not reserved, DST the receiving site unless a multicast or
relayed, IMMLEN and DFLITS. -/
def headGood (h : List Byte) (site : Nat) (relays : Bool) : Bool :=
  let mc := Nat.testBit (field h 1 1) 4
  let crit := Nat.testBit (field h 1 1) 5
  let vc := field h 1 1 % 8
  let imm := field h 9 1
  let flits := field h 7 1
  field h 0 1 = 1 && vcOf (field h 8 1) = some vc && (mc || field h 6 1 / 16 = site || (relays && vc = 0)) &&
    flits ≤ 32 && imm ≤ 64 && (flits = 0 || imm = 0) && (!crit || (flits = 0 && imm % 2 = 0))

/-- Whether the pairs of a packet's critical values hold (R173, R188). -/
def pairsGood (h : List Byte) : Bool := !Nat.testBit (field h 1 1) 5 || isCriticalPair (subBytes h 64 (field h 9 1))

/-- Why the flits of a packet fail as they were read (R188, R191), if they do: a codeword that cannot be corrected, the CRC, a
complement pair, or a header field. -/
def contentFault (site : Nat) (relays : Bool) (read : List (Option (List Byte))) : Option FlitFailure :=
  if read.any (·.isNone) then some .codeword
  else
    let flits := read.map (·.getD [])
    let head := flits.headD []
    if (crc32 (crcCover head (flits.drop 1))).toNat ≠ field head 60 4 then some .crc
    else if !pairsGood head then some .complementPair
    else if !headGood head site relays then some .header
    else none

/-- How a packet arrives whose symbols were read wrong as `noise` says: why it fails, if it does, and how many of its flits had a
symbol corrected (R183, R188, R210). -/
def State.received (s : State) (f : Flight) (relays : Bool) (noise : List SymbolError) : Option FlitFailure × Nat :=
  let contents := packetContents f.packet f.seq
  let errors := s.wireErrors f ((contents.map wireFlit).flatten) noise
  let read := contents.mapIdx fun n c => readContent errors n c
  (contentFault (f.path % 16) relays read,
   ((List.range contents.length).filter fun n => (read.getD n none).isSome && errors.any fun e => e.1 / 136 = n).length)

end Sys2Proof.Machine
end

