-- ==== Sys2Proof/Machine/PhotonicOps.lean ====
section
/-! DEFINITION. Shared operations on lamps and rings (R236 to R257): element IDs, the paths that elements lie on, dropped
wavelength positions, rings on the wrong channel, and spares. -/

namespace Sys2Proof.Machine

/-- The photonic controller's slate unit; it lies on the rig (R326, R470). -/
def photonicUnit : Nat := 0x4000

/-! ### Elements (R244, R245) -/

/-- Fields of an element ID. -/
def elRing (e : Nat) : Nat := e % 16
def elNode (e : Nat) : Nat := e / 16 % 16
def elLane (e : Nat) : Nat := e / 256 % 64
def elSlot (e : Nat) : Nat := e / 16384 % 16
def elClass (e : Nat) : Nat := e / 262144 % 4

/-- An element ID from its fields. -/
def elementId (cls slot lane node ring : Nat) : Nat := 262144 * cls + 16384 * slot + 256 * lane + 16 * node + ring

/-- Whether an ID names an element of R244. -/
def isElement (e : Nat) : Bool :=
  let lane := elLane e
  let slot := elSlot e
  let tack := lane < siteLanes slot
  e < 0x100000 && slot ≤ 10 &&
  (if elClass e ≤ 1 then elNode e = 0 && (tack || lane = 48 || (7 ≤ slot && 32 ≤ lane && lane ≤ 47))
   else if elClass e = 2 then tack && elNode e ≤ 14
   else tack && elNode e ≤ 10 && elNode e ≠ slot)

/-- Every element of R244, in ascending order of their IDs. -/
def allElements : List Nat := (List.range 0x100000).filter isElement

/-- A ring as it is after start (R246): LOCKED, its tone confirmed; PARKED for an unpopulated guest site and for the SEL rings of its slot. -/
def State.defaultRing (s : State) (e : Nat) : Ring :=
  if !s.sitePopulated (elSlot e) || (elClass e = 3 && !s.sitePopulated (elNode e)) then { state := .parked }
  else { tone := some (elRing e) }

/-- A ring element. -/
def State.ring (s : State) (e : Nat) : Ring := s.photonics.rings.get (s.defaultRing e) e

/-- Change a ring element. -/
def State.modRing (s : State) (e : Nat) (f : Ring → Ring) : State :=
  { s with photonics := { s.photonics with rings := s.photonics.rings.set e (f (s.ring e)) } }

/-- The code of a ring's state (R246). -/
def RingState.code : RingState → Nat
  | .parked => 0
  | .locked => 1
  | .sweeping => 2
  | .verify => 3
  | .wrong => 4
  | .failed => 5

/-- A bank of rings, by element ID / 16. -/
def State.bank (s : State) (b : Nat) : Bank := s.photonics.banks.get {} b

/-- Change a bank. -/
def State.modBank (s : State) (b : Nat) (f : Bank → Bank) : State :=
  { s with photonics := { s.photonics with banks := s.photonics.banks.modify {} b f } }

/-! ### Paths -/

/-- The transmit lanes that reach a site, in (slot, lane) order: the n-th takes bank lane n (DESIGN CHOICE, log 24: the
spec does not say which bank lane a selector picks). -/
def State.lanesInto (s : State) (site : Nat) : List Nat := s.allLanes.filter fun k => Nat.testBit (s.laneAt k).targets site

/-- The bank lane that a transmit lane takes at a site. -/
def State.bankLane (s : State) (k site : Nat) : Nat := ((s.lanesInto site).findIdx? (· = k)).getD 0

/-- The switch-tree nodes on the path to a slot, in level order (R180, R245). -/
def treeNodes (dst : Nat) : List Nat := [0, 1 + dst / 8, 3 + dst / 4, 7 + dst / 2]

/-- The elements at a wavelength position on a lane's path (R252). -/
def State.elementsAt (s : State) (k pos : Nat) : List Nat :=
  let slot := k / 64
  let lane := k % 64
  elementId 0 slot lane 0 pos :: ((targetSlots (s.laneAt k).targets).map fun d =>
    (treeNodes d).map (fun n => elementId 2 slot lane n pos) ++
      [elementId 3 d (s.bankLane k d) slot pos, elementId 1 d (s.bankLane k d) 0 pos]).flatten.eraseDups

/-- What an element lies on. -/
inductive OnPath where
  | lanes (l : List Nat)
  | standing (src dst : Nat)
  | port (p : Nat)
deriving DecidableEq, Repr

/-- The lanes, the standing path or the port that an element serves at its position. -/
def State.pathOf (s : State) (e : Nat) : OnPath :=
  let slot := elSlot e
  let lane := elLane e
  let pos := elRing e
  if elClass e ≤ 1 && lane = 48 then
    (if elClass e = 0 then .standing slot ((slot + pos) % 16) else .standing ((slot + 16 - pos) % 16) slot)
  else if elClass e ≤ 1 && 32 ≤ lane && lane ≤ 47 then .port (16 * (slot - 7) + (lane - 32))
  else if elClass e = 0 || elClass e = 2 then
    let k := laneKey slot lane
    .lanes (if (s.elementsAt k pos).contains e then [k] else [])
  else
    .lanes ((s.lanesInto slot).filter fun k => (s.elementsAt k pos).contains e)

/-! ### Lamp bars (R24, R238) -/

/-- The bar that feeds a transmit lane. -/
def barOfLane (k : Nat) : Nat :=
  let slot := k / 64
  if slot ≤ 3 then 2 * slot + k % 64 / 16 else if slot = 4 then 0 else if slot = 5 then 2 else if slot = 6 then 4
  else slot + 1

/-- The bar that feeds a site's standing transmitter. -/
def barOfStanding (slot : Nat) : Nat :=
  if slot ≤ 3 then 2 * slot else if slot = 4 then 0 else if slot = 5 then 2 else if slot = 6 then 4 else 2 * (slot - 7) + 1

/-- The bar that feeds a fibre port. -/
def barOfPort (p : Nat) : Nat := 8 + p / 16

/-- The key of a laser. -/
def laserKey (bar laser : Nat) : Nat := bar * 20 + laser

/-- A laser as it is after start (R238): lasers 0 to 15 carry their channels, the others stand by. -/
def defaultLaser (k : Nat) : Laser := if k % 20 < 16 then { channel := some (k % 20) } else { state := .standby }

/-- A laser. -/
def State.laser (s : State) (bar n : Nat) : Laser :=
  s.photonics.lasers.get (defaultLaser (laserKey bar n)) (laserKey bar n)

/-- Change a laser. -/
def State.modLaser (s : State) (bar n : Nat) (f : Laser → Laser) : State :=
  { s with photonics := { s.photonics with
      lasers := s.photonics.lasers.modify (defaultLaser (laserKey bar n)) (laserKey bar n) f } }

/-- Change a laser's state, with the time. -/
def State.setLaser (s : State) (bar n : Nat) (st : LaserState) : State :=
  s.modLaser bar n fun k => { k with state := st, changed := s.now }

/-- The code of a laser's state (R239). -/
def LaserState.code : LaserState → Nat
  | .active => 0
  | .warned => 1
  | .swapping => 2
  | .retired => 3
  | .dead => 4
  | .standby => 5
  | .preparing => 6
  | .ready => 7

/-- A bar. -/
def State.bar (s : State) (b : Nat) : Bar := s.photonics.bars.get {} b

/-- Change a bar. -/
def State.modBar (s : State) (b : Nat) (f : Bar → Bar) : State :=
  { s with photonics := { s.photonics with bars := s.photonics.bars.modify {} b f } }

/-- The transmit lanes that a bar feeds. -/
def State.lanesOfBar (s : State) (b : Nat) : List Nat := s.allLanes.filter fun k => barOfLane k = b

/-! ### Dropped positions (R255 to R257) -/

/-- The positions that a lane has to drop: its bar's dropped channels, and those of FAILED rings on its path. -/
def State.dropsFor (s : State) (k : Nat) : List Nat :=
  (List.range 16).filter fun p =>
    (s.bar (barOfLane k)).droppedChannels.contains p || (s.elementsAt k p).any fun e => (s.ring e).state = .failed

/-- Lanes at fifteen wavelengths (OD 0x4300.06). -/
def State.narrowedLanes (s : State) : Nat := (s.allLanes.filter fun k => (s.laneAt k).dropped ≠ []).length

/-- The event of a lane's new width (R256). -/
def State.widthEvent (s : State) (k : Nat) : State :=
  s.raise 0x1408 0 photonicUnit (leBytes 1 (k / 64) ++ leBytes 1 (k % 64) ++ leBytes 1 (s.laneAt k).wavelengths)

/-- A lane's positions to drop have changed (R256, R257): a second one takes the lane OUT; an ACTIVE lane has a narrowing
or a widening due; a lane that takes part in a tack folds it into its training; any other one changes at once. -/
def State.reviewLane (s : State) (k : Nat) : State :=
  let l := s.laneAt k
  let d := s.dropsFor k
  if d = l.dropped && l.narrowing.isNone then s
  else if 2 ≤ d.length then
    if l.state = .out && l.noRetrain then s.modLane k fun l => { l with dropped := d }
    else (s.laneOut k false).modLane k fun l => { l with dropped := d, narrowing := none, ignoreNaks := false }
  else if l.state = .active then s.modLane k fun l => { l with narrowing := some s.now, ignoreNaks := true }
  else if l.state = .quiescing || l.state = .retuning || l.state = .training then s
  else if l.state = .out && l.noRetrain && d.length < 2 then (s.modLane k fun l => { l with dropped := d })
  else (s.modLane k fun l => { l with dropped := d }).widthEvent k

/-- A trained lane becomes ACTIVE, with the positions that have fallen due for it while it was not (R190, R255, R257). -/
def State.laneUp (s : State) (k : Nat) : State :=
  let d := s.dropsFor k
  let old := (s.laneAt k).dropped
  let s1 := s.modLane k fun l => { l with dropped := d, narrowing := none }
  if 2 ≤ d.length then s1.laneOut k false
  else if d.length = old.length then s1.laneActive k
  else (s1.laneActive k).widthEvent k

/-- What was under way on a standing path is lost, and its receiver waits for SEQ 0 (R185, R193). -/
def State.dropStanding (s : State) (src dst : Nat) : State :=
  { s with rig := { s.rig with
      inFlight := s.rig.inFlight.filter fun f => f.path ≠ standRx src dst
      receivers := s.rig.receivers.dropKeys fun r => r = standRx src dst } }

/-- A standing path starts to be retrained (R193). -/
def State.retrainStanding (s : State) (src dst : Nat) : State :=
  (s.modStanding src dst fun q => { q with state := .retraining, naks := 0, lastRetrain := s.now }).dropStanding src dst

/-- A standing path is trained (R185, R193): its stream starts anew with SEQ 0, and what its replay buffer keeps is sent again. -/
def State.standingUp (s : State) (src dst : Nat) : State :=
  let kept := (s.standing src dst).replay.map (·.2.2)
  let s1 := s.modStanding src dst fun q => { q with state := .up, naks := 0, nextSeq := 0, replay := [] }
  kept.foldl (fun s p => s.sendOnStanding src dst p) s1

/-- A standing path goes down (R193, R255): the event names the pair, and what had not been acknowledged is admitted afresh, by the
relay or a tack lane. -/
def State.standingDown (s : State) (src dst : Nat) : State :=
  let q := s.standing src dst
  if q.state = .down then s
  else
    let s1 := (s.modStanding src dst fun q => { q with state := .down, naks := 0, nextSeq := 0, replay := [] }).dropStanding src dst
    let s2 := ((s1.endFull (16384 + standKey src dst)).toFront (q.replay.map fun e => { e.2.2 with again := .kept })).countReg
      0x402105 32 1
    s2.raise 0x1302 (siteDie src) (siteUnit src) (leBytes 1 src ++ leBytes 1 0x30 ++ leBytes 1 dst)

/-- Whether the pair (src, dst) has a standing path (R22, R179). -/
def State.hasStanding (s : State) (src dst : Nat) : Bool :=
  src ≠ dst && s.sitePopulated src && s.sitePopulated dst

/-- The positions that a fibre port has to drop (R255): its bar's dropped channels, and those of its FAILED rings. -/
def State.portDrops (s : State) (p : Nat) : List Nat :=
  (List.range 16).filter fun w =>
    (s.bar (barOfPort p)).droppedChannels.contains w ||
      ([0, 1] : List Nat).any fun cls => (s.ring (elementId cls (7 + p / 16) (32 + p % 16) 0 w)).state = .failed

/-- A port's wavelengths follow the positions that it has to drop (R255, R243): fifteen with one, sixteen with none. -/
def State.reviewPort (s : State) (p : Nat) : State :=
  let n := if s.portDrops p = [] then 16 else 15
  if (s.port p).wavelengths = n then s else s.modPort p fun k => { k with wavelengths := n }

/-- A channel of a bar is dropped (R240, R255): at its lanes and its standing paths. -/
def State.channelDropped (s : State) (b ch : Nat) : State :=
  let s1 := s.modBar b fun k => { k with droppedChannels := ch :: k.droppedChannels.erase ch }
  let s2 := (s1.lanesOfBar b).foldl (fun s k => s.reviewLane k) s1
  let s3 := ((List.range 11).filter fun slot => barOfStanding slot = b && s2.hasStanding slot ((slot + ch) % 16)).foldl
    (fun s slot => (s.standingDown slot ((slot + ch) % 16)).modStanding slot ((slot + ch) % 16) fun q =>
      { q with wavelengthDropped := true }) s2
  ((List.range 64).filter fun p => barOfPort p = b).foldl State.reviewPort s3

/-- A channel of a bar is restored (R243): its lanes and ports widen, its standing paths are retrained. -/
def State.channelRestored (s : State) (b ch : Nat) : State :=
  let s1 := s.modBar b fun k => { k with droppedChannels := k.droppedChannels.erase ch }
  let s2 := (s1.lanesOfBar b).foldl (fun s k => s.reviewLane k) s1
  let s3 := ((List.range 11).filter fun slot => barOfStanding slot = b && s2.hasStanding slot ((slot + ch) % 16)).foldl
    (fun s slot => (s.retrainStanding slot ((slot + ch) % 16)).modStanding slot ((slot + ch) % 16) fun q =>
      { q with wavelengthDropped := false }) s2
  (((List.range 64).filter fun p => barOfPort p = b).foldl State.reviewPort s3).raise 0x1405 0 photonicUnit (leBytes 1 b ++ leBytes 1 ch)

/-! ### Rings on the wrong channel (R252 to R254) -/

/-- A relock starts (R253): OD 0x4300.03 counts it. -/
def State.startRelock (s : State) (e : Nat) : State :=
  (s.modRing e fun r =>
    { r with
      state := .sweeping
      sweepAt := s.now
      goodWindows := 0
      attempts := 1
      retryAt := none
      wrongWindows := 0
      relocks := satAdd 16 r.relocks 1 }).countReg 0x430003 64 1

/-- An ACTIVE lane whose path holds a WRONG ring enters TRAINING (R252). -/
def State.laneWrong (s : State) (k : Nat) : State :=
  let l := s.laneAt k
  let s1 := if l.state = .active || l.state = .quiescing then s.stopLane k .training else s
  s1.modLane k fun l => if l.state = .training then { l with wrongWait := true, ignoreNaks := true } else l

/-- A ring is found on the wrong channel (R252): `seen` is the channel that it sees, 0xFF for none. It relocks at
once. -/
def State.ringWrong (s : State) (e seen : Nat) : State :=
  let r := s.ring e
  if r.state = .parked || r.state = .failed || r.state = .sweeping || r.state = .verify || r.state = .wrong then s
  else
    let s1 := (s.countReg 0x430004 64 1).raise 0x1406 0 photonicUnit (leBytes 4 e ++ leBytes 1 seen)
    let s2 : State := match s1.pathOf e with
      | .lanes l => l.foldl (fun s k => s.laneWrong k) s1
      | .standing a b => if s1.hasStanding a b && (s1.standing a b).state = .up then s1.retrainStanding a b else s1
      | .port _ => s1
    s2.startRelock e

/-- A training answer of WRONG names positions of a lane's path (R252): the elements there that see another channel's
tone relock; where none does, the receiving DROP ring at `dst`. -/
def State.wrongAnswer (s : State) (k dst : Nat) (mask : Nat) : State :=
  ((List.range 16).filter fun p => Nat.testBit mask p).foldl (fun s p =>
    let bad := (s.elementsAt k p).filter fun e => match (s.ring e).tone with | some t => t ≠ p | none => false
    if bad = [] then s.ringWrong (elementId 1 dst (s.bankLane k dst) 0 p) 0xFF
    else bad.foldl (fun s e => s.ringWrong e (((s.ring e).tone).getD 0xFF)) s) s

/-- Whether an element on a lane's path relocks. -/
def State.relocksOn (s : State) (k : Nat) : Bool :=
  (List.range 16).any fun p => (s.elementsAt k p).any fun e =>
    let st := (s.ring e).state
    st = .sweeping || st = .verify || st = .wrong

/-- Every lane that a ring's end of relocking leaves with no ring to wait for may train (R219, R253 step 7). -/
def State.releaseLane (s : State) (k : Nat) : State :=
  if s.relocksOn k then s else s.modLane k fun l => { l with wrongWait := false, trainStart := none, trainedBy := [] }

/-- A ring has FAILED (R254, R255): its position is dropped on every lane whose path crosses it. -/
def State.ringFailed (s : State) (e : Nat) : State :=
  let s1 := ((s.modRing e fun r => { r with state := .failed, retryAt := none }).countReg 0x430005 32 1).raise 0x1407 0
    photonicUnit (leBytes 4 e)
  match s1.pathOf e with
  | .lanes l => l.foldl (fun s k => (s.reviewLane k).releaseLane k) s1
  | .standing a b => if s1.hasStanding a b then s1.standingDown a b else s1
  | .port p => s1.reviewPort p

end Sys2Proof.Machine
end

