-- ==== Sys2Proof/Machine/Scheduler.lean ====
section
/-! DEFINITION. Contexts as the hub's scheduler and its actions change them (R110 to R115, R137 to R146, R511), and the
loaders that act at command boundaries (R88, R103). -/

namespace Sys2Proof.Machine

/-! ### Actions (R113, R144 to R146) -/

/-- Set the action status (OD 0x7nnn.21). -/
def State.setStatus (s : State) (x v : Nat) : State := s.modCtx x fun k => { k with actionStatus := v }

/-- Whether `n` is a power of two from `lo` to `hi`. -/
def isPowerOfTwo (lo hi n : Nat) : Bool := lo ≤ n && n ≤ hi && 2 ^ Nat.log2 n = n

/-- The end of HBM3 (R148). -/
def hbmEnd : Nat := 0x9000000000

/-- Whether ring, class and save area pass the checks of OPEN (R113, R116). -/
def openable (k : Ctx) : Bool :=
  isPowerOfTwo 64 65536 k.ringSize && k.ringBase % 4096 = 0 && k.ringBase + 64 * k.ringSize ≤ hbmEnd && k.cls ≠ [] &&
  k.saveBase % 4096 = 0 && 4096 + 3747840 * k.cls.length ≤ k.saveSize && k.saveBase + k.saveSize ≤ hbmEnd

/-- An action's common rules (R29, R110, R113): nothing happens without the rig; context 0 is refused with status 6; nothing is accepted while a CLOSE is
pending, and only a CLOSE while another action is. -/
def State.action (s : State) (x : Nat) (isClose : Bool) (act : Ctx → State) : State :=
  let k := s.ctx x
  if s.boot.rigLost then s
  else if x = 0 then s.setStatus x 6
  else
    match k.pendingAction with
    | some .close => s
    | some .park => if isClose then act k else s
    | none => act k

/-- OPEN (R113). The producer and consumer indices stay as the entries hold them, so that commands which a DETACH left pending
are pending again (DESIGN CHOICE, log 99: the spec gives OPEN no effect on them). -/
def State.openAction (s : State) (x : Nat) : State :=
  s.action x false fun k =>
    if k.state ≠ .closed then s.setStatus x 2
    else if !openable k then s.setStatus x 3
    else
      ((s.setState x .opened).setStatus x 0).modCtx x fun k =>
        { k with
          completed := 0
          boundTime := 0
          fetched := k.consumer.toNat
          descriptors := SMap.empty
          skip := []
          members := ⟨k.cls.map fun c => (c, ({ next := k.consumer.toNat } : Member))⟩
          waited := 0
          waitingSince := s.now }

/-- OPEN: the OPEN action (R113). -/
def execOpenOp (x : Nat) (s : State) : Result := .next (s.openAction x)

/-- A request without the constituents of a context, if any remain. -/
def Outstanding.without (x : Nat) (o : Outstanding) : Option Outstanding :=
  let l := o.parts.filter fun p => p.ctx ≠ x
  if l = [] then none else some ({ o with parts := l } : Outstanding)

/-- The context's own requests are discarded with it (R145, R294). -/
def State.dropRequests (s : State) (x : Nat) : State :=
  { s with domain := { s.domain with outstanding := s.domain.outstanding.filterMap (Outstanding.without x) } }

/-- Close the windows and inboxes of a context (R145). -/
def State.closeDoors (s : State) (x : Nat) : State :=
  { s with
    domain := { s.domain with windows := s.domain.windows.dropKeys fun n => n / 64 = x }
    messages := { s.messages with inboxes := ⟨s.messages.inboxes.entries.filter fun e => e.2.owner ≠ x⟩ } }

/-- A CLOSE takes effect (R145): windows and inboxes are closed, pending commands discarded, its collectives stopped;
the members stop, and zeroing begins. -/
def State.startClose (s : State) (x : Nat) : State :=
  let s1 := ((s.dropRequests x).closeDoors x).stopCollectives x
  s1.modCtx x fun k =>
    { k with
      pendingAction := some .close
      actionStatus := 1
      zeroing := true
      ending := true
      producer := k.consumer
      descriptors := SMap.empty
      pendingSeed := none }

/-- CLOSE (R112, R145): in SAVING and RESTORING it waits for the end of the sequence. -/
def State.closeAction (s : State) (x : Nat) : State :=
  s.action x true fun k =>
    if k.state = .saving || k.state = .restoring || k.saveRunning || k.restoreRunning then
      s.modCtx x fun k => { k with pendingAction := some .close, actionStatus := 1 }
    else s.startClose x

/-- CLOSE: the CLOSE action. -/
def execClose (x : Nat) (s : State) : Result := .next (s.closeAction x)

/-- Zero a cluster and its state, and free it. -/
def State.zeroCluster (s : State) (c : Nat) : State :=
  (s.wipeRange (clusterOffset c 0) 0x300000).modCluster c fun k => { k with core := {}, bound := none }

/-- Free the clusters that a context holds; their contents stay (R511). -/
def State.freeClusters (s : State) (x : Nat) : State :=
  let l := (s.ctx x).cls.filter fun c => (s.cluster c).bound = some x
  (l.foldl (fun s c => s.modCluster c fun k => { k with bound := none }) s).zonesFreed l

/-- CLOSE_COMPLETE (R145): the save area is zeroed, and the class's cluster memory if the context was bound; the
context is CLOSED. -/
def execCloseComplete (x : Nat) (s : State) : Result :=
  let k := s.ctx x
  if !k.zeroing then .next s
  else
    let l := k.cls.filter fun c => (s.cluster c).bound = some x
    let s1 := (l.foldl (fun s c => s.zeroCluster c) s).zonesFreed l
    let s2 := s1.wipeRange k.saveBase k.saveSize
    let s3 := { s2 with memory := { s2.memory with
      cores := s2.memory.cores.dropKeys fun o => k.saveBase ≤ o && o < k.saveBase + k.saveSize } }
    let s4 := s3.setState x .closed
    .next (s4.modCtx x fun q =>
      { q with
        boundTime := if k.state = .bound then q.boundTime + (s.now - q.boundAt) else q.boundTime
        zeroing := false
        pendingAction := none
        actionStatus := 0
        producer := 0
        consumer := 0
        fetched := 0
        members := SMap.empty
        skip := []
        faultCode := 0
        faultCommand := 0
        faultDetail := 0
        holds := false
        ending := false
        deferredSince := none
        clusterLost := false })

/-- The operations suspended at a period's end go on (R140 step 8, R146). -/
def Core.unsuspended (k : Core) : Core := { k with meSuspended := false, ceSuspended := false, geSuspended := false }

/-- What RESUME leaves of the state of a member that is within the faulted command (R44, R146): queued words are discarded, the
timetable is done with, and operations suspended at their boundaries stay. -/
def resumedCore (k : Core) : Core :=
  let queued := (k.meQueue ++ k.veQueue ++ k.aeQueue ++ k.xeQueue ++ k.geQueue ++ k.ceQueue ++ k.qeQueue).map (·.seq)
  { k with
    meQueue := []
    veQueue := []
    aeQueue := []
    xeQueue := []
    geQueue := []
    ceQueue := []
    qeQueue := []
    score := k.score.filter fun e => !queued.contains e.seq
    run := none
    dumpOpen := []
    dumpDue := [] }

/-- Whether the command with ring index `j` is pending or in execution (R118). -/
def pendingCommand (k : Ctx) (j : Nat) : Bool :=
  ringDist j k.consumer.toNat < ringDist k.producer.toNat k.consumer.toNat

/-- What RESUME does to a member's core: the member within the faulted command leaves it, and what stopped goes on. -/
def resumeCore (k : Ctx) (c : Nat) (q : Core) : Core :=
  Core.unsuspended (if pendingCommand k k.faultCommand && (memberOf k c).next = k.faultCommand then resumedCore q else q)

/-- The context after a RESUME, before its consumer index moves (R146): the faulted command is marked complete, and a member
that is at it or within it passes it; members at other commands, under PIPE, stay where they are. -/
def Ctx.resumed (k : Ctx) (now : Nat) : Ctx :=
  let j := k.faultCommand
  let k1 :=
    if pendingCommand k j then
      { k with
        skip := j :: k.skip.filter (· ≠ j)
        fetched := if k.fetched = j then ringNext j else k.fetched
        members := k.members.mapVals fun _ m => if m.next = j then ({ next := ringNext j } : Member) else m }
    else k
  { k1 with ending := false, deferredSince := none, boundAt := now, periodStart := now, waitingSince := now }

/-- RESUME (R112, R146): the faulted command counts as complete, without its increments, and the consumer index passes it once
the commands before it are complete too. Refused during a save or restore, and where the cluster state is lost (R341). A
RESUME to BOUND is no bind, and OD 0x7nnn.10 does not count it (DESIGN CHOICE, log 99). -/
def State.resumeAction (s : State) (x : Nat) : State :=
  s.action x false fun k =>
    if k.state ≠ .faulted || k.saveRunning || k.restoreRunning || k.clusterLost then s.setStatus x 2
    else
      let s1 := k.cls.foldl (fun s c =>
        if k.holds then s.modCore c (resumeCore k c)
        else { s with memory := { s.memory with cores := s.memory.cores.modify {} (s.imageOf x c) (resumeCore k c) } }) s
      let s2 := (s1.setState x (if k.holds then .bound else .parked)).setStatus x 0
      let s3 := (s2.modCtx x fun q => Ctx.resumed q s.now).completeCommands x 16
      s3.modCtx x fun q => { q with idleSince := if q.consumer = q.producer then some s.now else none }

/-- RESUME: the RESUME action. -/
def execResume (x : Nat) (s : State) : Result := .next (s.resumeAction x)

/-- PARK (R113): the context is parked at its next command boundary. -/
def State.parkAction (s : State) (x : Nat) : State :=
  s.action x false fun k =>
    if k.state ≠ .bound then s.setStatus x 2
    else (s.modCtx x fun k => { k with pendingAction := some .park, actionStatus := 1 }).boundaryEffects x

/-- PARK: the PARK action. -/
def execPark (x : Nat) (s : State) : Result := .next (s.parkAction x)

/-- Whether a context has a window or an inbox open. -/
def State.doorsOpen (s : State) (x : Nat) : Bool :=
  ((List.range 64).any fun n => (s.window x n).inForce) || s.messages.inboxes.entries.any fun e => e.2.owner = x

/-- DETACH (R144): the header takes image state 3, and the context number is free. -/
def State.detachAction (s : State) (x : Nat) : State :=
  s.action x false fun k =>
    if k.state ≠ .parked then s.setStatus x 2
    else if s.doorsOpen x then s.setStatus x 4
    else
      let time := leNat (s.held (k.saveBase + 0x80) 8)
      ((s.writeHeader x 3 time).setState x .closed).setStatus x 0

/-- DETACH: the DETACH action. -/
def execDetach (x : Nat) (s : State) : Result := .next (s.detachAction x)

/-- ATTACH (R144): the header must hold with its complement, and name this context and its class. -/
def State.attachAction (s : State) (x : Nat) : State :=
  s.action x false fun k =>
    if k.state ≠ .closed then s.setStatus x 2
    else
      match s.loadRange k.saveBase 144 hubRequester, s.loadRange (k.saveBase + 0x800) 144 hubRequester with
      | (.ok h, _), (.ok g, s1) =>
        if complementBytes h ≠ g then (s1.criticalMismatch 7 x).setStatus x 5
        else if field h 0 2 ≠ x || subBytes h 0x10 100 ≠ bytesOfClass k.cls then s1.setStatus x 5
        else
          let j := field h 8 4
          ((s1.setState x .parked).setStatus x 0).modCtx x fun q =>
            { q with
              consumer := BitVec.ofNat 32 j
              producer := BitVec.ofNat 32 j
              fetched := j
              descriptors := SMap.empty
              skip := []
              members := ⟨q.cls.map fun c => (c, ({ next := j } : Member))⟩
              waited := 0
              waitingSince := s.now }
      | _, _ => s.setStatus x 5

/-- ATTACH: the ATTACH action. -/
def execAttach (x : Nat) (s : State) : Result := .next (s.attachAction x)

/-! ### Periods (R137 to R139) -/

/-- A period end is counted at every eligible context that waits for clusters of `x` (R138). -/
def State.countWaits (s : State) (x : Nat) : State :=
  let cls := (s.ctx x).cls
  { s with ctxs := s.ctxs.mapVals fun y k =>
      if y ≠ x && eligible k && k.state ≠ .bound && sharesCluster k.cls cls then { k with waited := k.waited + 1 } else k }

/-- PERIOD_END (R138, R139): a period end that is deferred already is not met again. -/
def execPeriodEnd (x : Nat) (s : State) : Result :=
  let k := s.ctx x
  if s.belled || k.state ≠ .bound || k.ending || k.deferredSince.isSome || s.now < k.periodStart + 1000 * k.period then .next s
  else
    let s1 := s.countWaits x
    if s.wanted x then .next (s1.beginStop x)
    else .next (s1.modCtx x fun k => { k with periodStart := s.now })

/-- IDLE_PARK (R137): the ring has been empty for 1 ms, or an eligible context waits. -/
def execIdlePark (x : Nat) (s : State) : Result :=
  let k := s.ctx x
  if s.belled || k.state ≠ .bound || k.ending || k.producer ≠ k.consumer then .next s
  else
    let due := match k.idleSince with
      | some t => t + 1000000 ≤ s.now
      | none => false
    if due || s.wanted x then .next (s.beginStop x) else .next s

/-! ### Binding (R114, R115, R138, R140) -/

/-- Effective priority (R138). -/
def effectivePriority (k : Ctx) : Nat := Nat.min (k.priority + k.waited) 7

/-- Whether waiting context `a` comes before `b`: by effective priority, then the longest wait, then the number. -/
def bindsBefore (a b : Nat × Ctx) : Bool :=
  let p := effectivePriority a.2
  let q := effectivePriority b.2
  if p ≠ q then q < p
  else if a.2.waitingSince ≠ b.2.waitingSince then a.2.waitingSince < b.2.waitingSince else a.1 ≤ b.1

/-- Insert into a list ordered by `bindsBefore`. -/
def insertWaiter (a : Nat × Ctx) : List (Nat × Ctx) → List (Nat × Ctx)
  | [] => [a]
  | b :: l => if bindsBefore a b then a :: b :: l else b :: insertWaiter a l

/-- The contexts that wait to be bound, in the scheduler's order. -/
def State.waiters (s : State) : List Nat :=
  ((s.ctxs.entries.filter fun e => e.1 ≠ 0 && eligible e.2 && e.2.state ≠ .bound).foldl
    (fun l a => insertWaiter a l) []).map (·.1)

/-- Whether a class is wholly free: its clusters are bound to none, context 0 does not need them, and their dies are
in service. -/
def State.classFree (s : State) (cls : List Nat) : Bool :=
  cls.all fun c => (s.cluster c).bound.isNone && !s.hubNeeds.contains c &&
    (s.die (0x20 + c / 200)).state = .ready && (s.die (0x10 + c / 200)).state = .ready

/-- The stochastic seed of a context (R103): its number by default. -/
def State.seedOf (s : State) (x : Nat) : Word64 := s.seeds.get (BitVec.ofNat 64 x) x

/-- The seed in force for a context (R103, R486): a committed seed that waits for the next command boundary is not yet. -/
def State.seedInForce (s : State) (x : Nat) : Word64 :=
  let k := s.ctx x
  match k.pendingSeed, k.cls with
  | some _, c :: _ => if k.holds then (s.core c).seed else (s.memory.cores.get {} (s.imageOf x c)).seed
  | _, _ => s.seedOf x

/-- Initialise a cluster for the first bind (R86, R106, R115). -/
def State.initialise (s : State) (x c : Nat) : State :=
  (s.wipeRange (clusterOffset c 0) 0x300000).modCluster c fun k =>
    { k with core := { seed := s.seedOf x }, bound := some x }

/-- A cluster after its image is read back: a member within a command reports that command's IDs again (R132), and its draws
and first NaNs go on as they were (R102, R108, R109). -/
def Cluster.restored (k : Cluster) (img : Core) (within : Bool) (x : Nat) : Cluster :=
  let k1 := { k with core := img, bound := some x }
  if within then { k1 with ids := img.savedIds, nanSeen := img.savedNan, cmdStart := img.savedStart } else k1

/-- Read a member's image back into its cluster (R140 step 7). -/
def State.readBack (s : State) (x c : Nat) : State :=
  let img := s.imageOf x c
  (s.moveStore img (clusterOffset c 0) 0x300000).modCluster c fun k =>
    k.restored (s.memory.cores.get {} img) ((memberOf (s.ctx x) c).phase ≠ .idle) x

/-- A context enters BOUND (R112). -/
def State.enterBound (s : State) (x : Nat) : State :=
  (s.setState x .bound).modCtx x fun k =>
    { k with
      holds := true
      ending := false
      binds := satAdd 32 k.binds 1
      boundAt := s.now
      periodStart := s.now
      waited := 0
      idleSince := if k.producer = k.consumer then some s.now else none }

/-- Bind one context (R115, R140, R333): initialised on its first bind, else RESTORING. A class that names a cluster out
of service faults. -/
def State.bind (s : State) (x : Nat) : State :=
  let k := s.ctx x
  let s0 := s.zonesBusy k.cls
  let s1 :=
    if k.state = .opened then (k.cls.foldl (fun s c => s.initialise x c) s0).enterBound x
    else
      ((k.cls.foldl (fun s c => s.readBack x c) s0).setState x .restoring).modCtx x fun q =>
        { q with restoreRunning := true, transitStart := s.now, waited := 0 }
  match k.cls.find? fun c => (s.cluster c).outOfService with
  | some c => s1.faultCtx x 0x0704 c noEngine 0 k.consumer.toNat
  | none => s1

/-- Bind waiting contexts in order, each if its class is free. -/
def State.bindAll (s : State) : List Nat → State
  | [] => s
  | x :: l =>
    (if s.classFree (s.ctx x).cls && s.towerServes ((s.ctx x).saveBase / 0x2400000000) then s.bind x else s).bindAll l

/-- SCHEDULER_BIND (R138): `hubClusters` are the clusters that context 0's work needs now. -/
def execSchedulerBind (hubClusters : List Nat) (s : State) : Result :=
  if s.belled || s.boot.serviceMode then .next s
  else
    let s1 := { s with hubNeeds := hubClusters }
    .next (s1.bindAll s1.waiters)

/-! ### Saves and restores (R140 to R143) -/

/-- Whether a member's engines have reached their boundaries (R61, R66, R140 step 2). -/
def engineStopped (k : Core) : Bool :=
  k.ve.isNone && k.ae.isNone && k.xe.isNone && k.qe.isNone && k.drain.isNone && k.mmaDone = [] &&
  (k.mma.isNone || k.meSuspended) && (k.copies = [] || k.ceSuspended) && (k.ge.isNone || k.geSuspended)

/-- Whether steps 1 to 3 of R140 have ended: boundaries reached, and no remote load or atomic without a reply. -/
def State.stopEnded (s : State) (x : Nat) : Bool :=
  ((s.ctx x).cls.all fun c => engineStopped (s.core c)) &&
  (s.outstandingOf x).all fun o => !(o.req.op = 0x20 || isAtomic o.req.op)

/-- Whether a tower of the class runs a partition change (R139). -/
def State.changesUnder (s : State) (cls : List Nat) : Bool := cls.any fun c => (s.tower (c / 200)).change.isSome

/-- Whether a fence holds a save or restore of a context: at a member's tower, or where its save area lies (R340). -/
def State.movesFenced (s : State) (x : Nat) : Bool :=
  s.fencedClass (s.ctx x).cls || !s.towerServes ((s.ctx x).saveBase / 0x2400000000)

/-- A cluster's core as its image holds it, with what its command's records need after the restore (R132). -/
def Cluster.saved (k : Cluster) : Core :=
  { k.core with savedIds := k.ids, savedNan := k.nanSeen, savedStart := k.cmdStart }

/-- Write a member's image (R140 step 5). -/
def State.writeImage (s : State) (x c : Nat) : State :=
  let img := s.imageOf x c
  let s1 := s.moveStore (clusterOffset c 0) img 0x300000
  { s1 with memory := { s1.memory with cores := s1.memory.cores.set img (s1.cluster c).saved } }

/-- SAVE_START (R112, R139, R140): the stop has ended on every member; a BOUND context enters SAVING, and a FAULTED one
whose clusters are wanted, or whose PARK is pending, is saved as it is. -/
def execSaveStart (x : Nat) (s : State) : Result :=
  let k := s.ctx x
  let due := k.state = .bound ||
    (k.state = .faulted && k.holds && !k.restoreRunning &&
      (s.wanted x || k.pendingAction = some .park || k.cls.any fun c => (s.die (0x20 + c / 200)).state = .fencing))
  if s.belled || !due || !k.ending || k.zeroing || k.saveRunning || !s.stopEnded x || s.changesUnder k.cls ||
      s.movesFenced x then
    .next s
  else
    let s1 := if k.state = .bound then
        (s.setState x .saving).modCtx x fun q => q.stopBoundTime s.now else s.setState x .faulted
    let s2 := s1.modCtx x fun q => { q with saveRunning := true, transitStart := s.now }
    .next (k.cls.foldl (fun s c => s.writeImage x c) s2)

/-- Take the requests for context `x` out of the towers' hold buffers. -/
def State.takeHeld (s : State) (x : Nat) : List Req × State :=
  ((s.memory.towers.entries.map fun e => e.2.hold.filter fun q => q.ctx = x).flatten,
   { s with memory := { s.memory with towers := s.memory.towers.mapVals fun _ t =>
      { t with hold := t.hold.filter fun q => q.ctx ≠ x } } })

/-- Apply what the hold buffers kept for a context (R140 steps 6 and 8). -/
def State.applyHeldFor (s : State) (x : Nat) : State :=
  let (l, s1) := s.takeHeld x
  s1.applyHeld l

/-- A CLOSE that waited for the sequence takes effect (R112, R139). -/
def State.closeIfPending (s : State) (x : Nat) : State :=
  if (s.ctx x).pendingAction = some .close then s.startClose x else s

/-- The towers whose hold buffer has no room for the largest packet, 33 flits of 128 bytes (R141, R186). -/
def State.holdsFull (s : State) : List Nat :=
  s.rig.withheld.who.filter fun t => 262144 < sumOf holdBytes (s.tower t).hold + 4224

/-- Credits that a full hold buffer withheld are granted again where it has room (R196): OD 0x4023.01 counts the time in which any
tower withheld them, and the reservations that waited are granted (R204). -/
def State.freeCredits (s : State) : State :=
  let m := s.rig.withheld
  let rest := s.holdsFull
  if m.who = [] then s else
  let s1 := { s with rig := { s.rig with withheld := { m with who := rest } } }
  let s2 := if rest = [] then s1.countReg 0x402301 64 (m.elapsed s.now) else s1
  (m.who.filter fun t => !rest.contains t).foldl (fun s t => s.grantReservations t s.rig.mcReserved) s2

/-- SAVE_COMPLETE (R112, R140, R143, R293): the header is written, the clusters are free, and the context is PARKED,
HELD if a request of it is frozen, or stays FAULTED. -/
def execSaveComplete (x : Nat) (s : State) : Result :=
  let k := s.ctx x
  if !(k.state = .saving || (k.state = .faulted && k.saveRunning)) || s.movesFenced x then .next s
  else
    let frozen := s.frozenOf x
    let (state, image) := if k.state = .faulted then (CtxState.faulted, 4)
      else if frozen ≠ [] then (CtxState.held, 2) else (CtxState.parked, 1)
    let s1 := (s.writeHeader x image s.stamp).freeClusters x
    let s2 := if k.state = .faulted then s1 else s1.setState x state
    let s3 := s2.modCtx x fun q =>
      { q with
        saveRunning := false
        holds := false
        ending := false
        lastSave := Nat.min (s.now - k.transitStart) 4294967295
        waitingSince := s.now
        waited := 0
        idleSince := none
        pendingAction := if q.pendingAction = some .park then none else q.pendingAction
        actionStatus := if q.pendingAction = some .park then 0 else q.actionStatus
        faultCode := if state = .held then 0x0401 else q.faultCode }
    let s4 := if state = .held then
        s3.raiseFor 0x1002 s.hubDie hubUnit x {} (leBytes 1 ((frozen.head?.map (·.device)).getD 0) ++ leBytes 4 frozen.length)
      else s3
    .next (((s4.applyHeldFor x).freeCredits).closeIfPending x)

/-- RESTORE_COMPLETE (R112, R140): the context is BOUND, what was stalled is applied in arrival order, and each OC goes
on at its saved entry. -/
def execRestoreComplete (x : Nat) (s : State) : Result :=
  let k := s.ctx x
  if !k.restoreRunning || s.movesFenced x then .next s
  else
    let s1 := k.cls.foldl (fun s c =>
      (s.modCore c Core.unsuspended).modRun c fun r =>
        { r with waitSince := r.waitSince.map fun _ => s.now }) s
    let s2 := s1.modCtx x fun q =>
      { q with restoreRunning := false, lastRestore := Nat.min (s.now - k.transitStart) 4294967295 }
    let s3 := if k.state = .restoring then s2.enterBound x else s2
    .next ((((s3.applyHeldFor x).freeCredits).boundaryEffects x).closeIfPending x)

/-! ### Requests that reach a tower or a cluster (R72, R126, R141, R196) -/

/-- The tower whose rig interface a request for cluster memory reaches. -/
def requestTower (q : Req) : Nat :=
  match placeOf q.addr with
  | .cluster c _ => c / 200
  | _ => refCluster q.ref / 200

/-- INBOUND_REQUEST (R141, R196): a request addressed to a context's cluster memory is delivered, stalled, applied to
the image or refused. One that would be stalled while the hold buffer is full stays with its sender: the interface
withholds credits. A tower in reset takes none in (R340). -/
def execInboundRequest (r : Req) (s : State) : Result :=
  let t := requestTower r
  let c := if r.op = 0x22 then refCluster r.ref else match placeOf r.addr with | .cluster c _ => c | _ => 0
  let stopped := (s.die (0x10 + t)).state ≠ .ready && (s.die (0x10 + t)).state ≠ .fencing
  if (s.deliveryOf r.ctx c = .stall || stopped) && s.holdFull t r then .next (s.withhold t)
  else if stopped then .next (s.holdRequest t r)
  else
    let (a, s1) := s.performRequest r (s.originRequester r)
    .next (if a = .stalled then s1 else s1.answerOrigin r a)

/-- The refusal of a mesh request (R72): the sending context faults with 0x0203 and an engine-fault event. -/
def State.meshRefused (s : State) (m : MeshRequest) : State :=
  let extra := match m.kind with
    | .tally n _ => n + m.dst * 256 + 63 * 262144
    | _ => addressDetail m.issued
  let word := match runningOf (s.core m.src) m.engine with | some o => o.op.word | none => 0
  (s.raiseFor 0x1101 (0x20 + m.src / 200) m.src m.srcCtx (s.idsOf m.src)
    (leBytes 2 m.src ++ leBytes 1 (Engine.num m.engine) ++ leBytes 16 word.toNat)).faultAt m.srcCtx m.src 0x0203
    (Engine.num m.engine) extra

/-- MESH_REQUEST (R71, R72): applied at the destination cluster, or refused. -/
def execMeshRequest (r : MeshRequest) (s : State) : Result :=
  let base := { blankReq with origin := .member r.srcCtx r.src, ctx := r.ctx }
  let q := match r.kind with
    | .read n => { base with op := 0x20, addr := clusterOffset r.dst (r.address % 0x400000), len := n }
    | .write d => { base with op := 0x60, addr := clusterOffset r.dst (r.address % 0x400000), data := d }
    | .tally n amt =>
      { base with op := 0x22, ref := BitVec.ofNat 24 (n % 256 + r.dst * 256 + 63 * 262144), refAmt := amt }
  match s.meshAccess r.src r.dst q (s.requesterAt r.srcCtx r.src) with
  | (.error code, s1) =>
    .next (if code = 0x0203 then s1.meshRefused r
      else s1.faultAt r.srcCtx r.src code (Engine.num r.engine) (addressDetail r.issued))
  | (_, s1) => .next s1

/-- The increment of tally `tally` of cluster `c`, addressed to context `x`. -/
def tallyRequest (x c tally amount : Nat) : Req :=
  { blankReq with op := 0x22, ctx := x, ref := BitVec.ofNat 24 (tally % 256 + c * 256 + 63 * 262144), refAmt := amount }

/-- TALLY_INCREMENT (R126): added at the cluster, modulo 2^32. The tallies belong to the context that is bound to the cluster,
and the increment is handled by its state (R141); a cluster bound to none holds no context's tallies, and keeps what it has
(R511). -/
def execTallyIncrement (c tally amount : Nat) (s : State) : Result :=
  match (s.cluster c).bound with
  | none => .next s
  | some x => .next (s.clusterAccess c (tallyRequest x c tally amount) {}).2

/-! ### Loaders (R87, R88, R103) -/

/-- Write a load into a core: codebook set or curve slot (R88). -/
def loadInto (k : Core) (kind n : Nat) (d : List Byte) : Core :=
  if kind = 0 then { k with codebooks := k.codebooks.set n d } else { k with curves := k.curves.set n d }

/-- The refusal of a loader commit (R88, R104): its status, 0 when it is accepted. -/
def State.loaderStatus (s : State) (x kind n : Nat) (d : List Byte) : Nat :=
  if (s.ctx x).state = .closed then 2
  else if 1 < kind then 6
  else if d.length ≠ (if kind = 0 then 16 else 1024) then 3
  else if (if kind = 0 then 63 else 15) < n then 4
  else if kind = 1 && !curveValid d then 5
  else 0

/-- A commit of OD 0x63FF.00 (R88): the answer is the transaction status. The committed values come in force when the
load is applied (R420, R486). -/
def State.loaderCommit (s : State) (value : Nat) : Nat × State :=
  if value ≠ 1 then (5, s)
  else if s.load.isSome then (10, s)
  else
    let x := s.shadow 0x630001
    let kind := s.shadow 0x630002
    let n := s.shadow 0x630003
    let d := s.blobShadow 0x630004
    let st := s.loaderStatus x kind n d
    if st ≠ 0 then (1, s.setReg 0x630005 st)
    else (1, { s with load := some (x, kind, n, d) }.setReg 0x630005 1)

/-- LOADER_COMMIT. -/
def execLoaderCommit (value : Nat) (s : State) : Result := .next (s.loaderCommit value).2

/-- Whether an operation that a core holds names the set or slot of a load (R50). -/
def loadWaits (k : Core) (kind n : Nat) : Bool := if kind = 0 then setInUse k n else slotInUse k n

/-- LOADER_APPLY (R88): at the command boundary of a bound context, or into a saved image, of a HELD or FAULTED context as of
a PARKED one (DESIGN CHOICE, log 34). An image that holds an operation which names the set or slot keeps the load waiting
until the operation has completed (R50, R87). A load for a context that has been closed meanwhile is dropped with status 2. -/
def execLoaderApply (s : State) : Result :=
  match s.load with
  | none => .next s
  | some (x, kind, n, d) =>
    let k := s.ctx x
    let done := fun (s : State) =>
      let s1 := (({ s with load := none }.setReg 0x630001 x).setReg 0x630002 kind).setReg 0x630003 n
      ((s1.setBlob 0x630004 d).setReg 0x630005 0).countReg 0x630006 32 1
    if k.state = .closed then .next ({ s with load := none }.setReg 0x630005 2)
    else if k.state = .bound then
      if commandBoundary k then .next (done (k.cls.foldl (fun s c => s.modCore c fun q => loadInto q kind n d) s))
      else .next s
    else if (k.state = .parked || k.state = .held || (k.state = .faulted && !k.holds)) &&
        !(k.cls.any fun c => loadWaits (s.memory.cores.get {} (s.imageOf x c)) kind n) then
      .next (done (k.cls.foldl (fun s c =>
        { s with memory := { s.memory with
            cores := s.memory.cores.modify {} (s.imageOf x c) fun q => loadInto q kind n d } }) s))
    else .next s

/-- The seeds of a table value: 1,024 U64 in context order (R103). -/
def seedsOf (d : List Byte) : List (Nat × Word64) :=
  (List.range 1024).map fun x => (x, BitVec.ofNat 64 (field d (8 * x) 8))

/-- Apply a committed seed to a context (R103): at its next command boundary. -/
def State.applySeed (s : State) (x : Nat) (v : Word64) : State :=
  let k := s.ctx x
  let s1 := { s with seeds := s.seeds.set x v }
  if k.state = .closed || k.state = .opened then s1
  else
    let s2 := s1.modCtx x fun k => { k with pendingSeed := some v }
    if k.state = .bound then s2.boundaryEffects x else s2

/-- A commit of OD 0x62FF.00 (R103): the answer is the transaction status. -/
def State.arithmeticCommit (s : State) (value : Nat) : Nat × State :=
  if value ≠ 1 then (5, s)
  else
    let d := s.blobShadow 0x620001
    if d.length ≠ 8192 then (1, s)
    else (1, (seedsOf d).foldl (fun s e => if s.seedOf e.1 = e.2 then s else s.applySeed e.1 e.2) (s.setBlob 0x620001 d))

/-- ARITHMETIC_COMMIT. -/
def execArithmeticCommit (value : Nat) (s : State) : Result := .next (s.arithmeticCommit value).2

end Sys2Proof.Machine
end

