-- ==== Sys2Proof/Machine/Rig.lean ====
section
/-! DEFINITION. Commands of the rig network (R177 to R210): admission and delivery of packets, link-level retry, training,
multicast, and a guest's packets. -/

namespace Sys2Proof.Machine

/-! ### Admission (R194 to R200, R218) -/

/-- Remove a packet from the outbox. -/
def State.leaveOutbox (s : State) (p : Packet) : State :=
  { s with rig := { s.rig with outbox := s.rig.outbox.erase p } }

/-- Whether traffic to a destination waits for a lane that takes part in a tack, or that is narrowing (R218, R256). -/
def State.heldForLanes (s : State) (src dst : Nat) : Bool :=
  (slotLanes src).any fun k =>
    let l := s.laneAt k
    (l.state = .quiescing && l.targets = 2 ^ dst) ||
      (match s.coll.tack with
       | some t => t.lanes.contains k && t.aims.get 0 k = 2 ^ dst
       | none => false)

/-- Whether packets of a stream wait for their acknowledgement on a lane, or on the standing path (R200). -/
def State.onLanes (s : State) (src dst vc : Nat) : Bool :=
  (slotLanes src).any fun k => (s.laneAt k).replay.any fun e => e.2.2.targets = [] && e.2.2.dst = dst && e.2.2.vc = vc
def State.onStanding (s : State) (src dst vc : Nat) : Bool :=
  (s.standing src dst).replay.any fun e => e.2.2.vc = vc

/-- Cut a payload for a standing path (R199): pieces of at most four data flits; the last carries the increment. -/
def cutPayload (p : Packet) : Nat → List Packet
  | 0 => []
  | n + 1 =>
    let d := p.req.data
    if d.length ≤ 512 then [p]
    else
      { p with req := { p.req with data := d.take 512, ref := 0, refAmt := 0, ticket := none } } ::
        cutPayload { p with req := { p.req with data := d.drop 512, addr := p.req.addr + 512 } } n

/-- Give a packet its PSEQ and STAMP, and spend its credits (R186, R195, R200). -/
def State.stampPacket (s : State) (p : Packet) : Packet × State :=
  let k := streamKey p.src p.dst p.vc
  let n := s.rig.pseqNext.get 0 k
  let s1 := { s with rig := { s.rig with pseqNext := s.rig.pseqNext.set k ((n + 1) % 65536) } }
  ({ p with pseq := n, stamp := s.now }, s1.spend p.src p.dst p.vc (packetFlits p))

/-- The path key of a lane, which is the lane's own key, and that of a standing path. -/
def standPath (src dst : Nat) : Nat := 16384 + standKey src dst

/-- The path that a packet takes (R193, R199), if one is open to it: CTRL packets and those with STAND set the standing path, CTRL by
the relay while that is down; any other the lane chosen among those aimed solely at its destination, or without one the standing
path, unless it waits for a lane (R218, R256). What is sent again under R192 waits for no tack. -/
def State.pathFor (s : State) (p : Packet) (lane : Nat) : Option Nat :=
  let q := s.standing p.src p.dst
  let direct := if q.state = .up then some (standPath p.src p.dst) else none
  if p.vc = 0 then
    (match s.relayOf p.src p.dst with | some r => some (standPath p.src r) | none => direct)
  else if p.stand then direct
  else
    match s.soleLanes p.src p.dst with
    | [] => if p.again ≠ .kept && s.heldForLanes p.src p.dst then none else direct
    | l => if l.contains (laneKey p.src lane) then some (laneKey p.src lane) else none

/-- The replay buffer of a path (R191). -/
def State.replayOf (s : State) (path : Nat) : List (Nat × Nat × Packet) :=
  if path < 16384 then (s.laneAt path).replay else (s.standing ((path - 16384) / 16) (path % 16)).replay

/-- Whether a path's replay buffer has room for a packet (R191): 512 flits on a tack lane, 64 on a standing path. -/
def State.replayRoom (s : State) (path : Nat) (p : Packet) : Bool :=
  replayFlits (s.replayOf path) + packetFlits p ≤ (if path < 16384 then 512 else 64)

/-- Whether a packet's credits, and the order of its stream, let it be sent on a path (R195, R200): one that is sent again has its
credits, and its place. -/
def State.mayGo (s : State) (p : Packet) (path : Nat) : Bool :=
  p.again = .kept ||
    (s.hasCredits p.src p.dst p.vc (packetFlits p) &&
      !(if path < 16384 then s.onStanding p.src p.dst p.vc else s.onLanes p.src p.dst p.vc))

/-- Packets that could be the next on a path (R197): each the first of its stream that waits. -/
def State.rivals (s : State) (waiting : List Packet) (lane path : Nat) : List Packet :=
  waiting.filter fun p =>
    p.targets = [] && (waiting.find? fun q => q.targets = [] && q.dst = p.dst && q.vc = p.vc) = some p &&
      s.pathFor p lane = some path && s.mayGo p path

/-- The weight of a VC in a round (R197). -/
def vcWeight (vc : Nat) : Nat := if vc = 1 then 4 else if vc = 3 then 8 else 2

/-- Whether a VC has flits left of the present round on a path (R197). -/
def State.hasTurn (s : State) (path vc : Nat) : Bool := s.rig.turns.get 0 (8 * path + vc) < vcWeight vc

/-- Whether a path's next packet may be of VC `vc`, when those of the VCs `l` wait for it (R197): CTRL first, then RSP, then the others
in turn, a new round once none that waits has flits left of the present one. -/
def State.mayTake (s : State) (path vc : Nat) (l : List Nat) : Bool :=
  if vc = 0 then true
  else if l.contains 0 then false
  else if vc = 2 then true
  else !l.contains 2 && (s.hasTurn path vc || l.all fun v => !s.hasTurn path v)

/-- Note the flits that a VC has sent on a path (R197). -/
def State.takeTurn (s : State) (path vc n : Nat) : State :=
  if vc = 0 || vc = 2 then s
  else
    let m := if s.hasTurn path vc then s.rig.turns else s.rig.turns.dropKeys fun k => k / 8 = path
    { s with rig := { s.rig with turns := m.modify 0 (8 * path + vc) (· + n) } }

/-- Send a packet on a path: a fresh one takes its PSEQ, its STAMP and its credits. -/
def State.sendOn (s : State) (p : Packet) (path : Nat) : State :=
  let (q, s1) := if p.again = .kept then (p, s) else s.stampPacket p
  if path < 16384 then s1.sendOnLane path q else s1.sendOnStanding ((path - 16384) / 16) (path % 16) q

/-- Admit a packet to a path, if its replay buffer has room (R191). Fresh traffic for a standing path is cut first, and its first
piece admitted (R199). -/
def State.admitOn (s : State) (p : Packet) (path : Nat) : State :=
  if 16384 ≤ path && p.again = .no && 4 < dataFlits p then
    match cutPayload p 64 with
    | [] => s
    | f :: l =>
      if !s.replayRoom path f then s.startFull path
      else
        let s1 := { s with rig := { s.rig with outbox := s.rig.outbox.flatMap fun o => if o = p then l else [o] } }
        (s1.sendOn f path).takeTurn path p.vc (packetFlits f)
  else if !s.replayRoom path p then s.startFull path
  else ((s.leaveOutbox p).sendOn p path).takeTurn path p.vc (packetFlits p)

/-- Whether a split lane whose target set a multicast has takes part in a tack, or narrows (R218, R256). -/
def State.splitHeld (s : State) (src mask : Nat) : Bool :=
  (slotLanes src).any fun k =>
    let l := s.laneAt k
    (l.state = .quiescing && l.targets = mask) ||
      (match s.coll.tack with | some t => t.lanes.contains k && t.aims.get 0 k = mask | none => false)

/-- Send a multicast's grant requests (R204); hold it while its split lane takes part in a tack (R218); or send its payload as unicast
packets when no split lane fits. -/
def State.startMulticast (s : State) (p : Packet) : State :=
  match s.splitLane p.src (packetMask p) with
  | none =>
    if s.splitHeld p.src (packetMask p) then
      { s with rig := { s.rig with
          mcPending := s.rig.mcPending ++ [(⟨p.src, p.req.tag, p, [], s.now, true⟩ : McPending)] } }
    else s.toOutbox (p.targets.map (unicastTo p))
  | some _ =>
    let s1 := { s with rig := { s.rig with
      mcPending := s.rig.mcPending ++ [(⟨p.src, p.req.tag, p, [], s.now, false⟩ : McPending)] } }
    s1.toOutbox (p.targets.map fun (t : McTarget) => ctrlPacket 0x10 p.src t.slot p.req.tag (packetFlits p))

/-- Whether the bell holds a guest's packet at its site's egress (R462): all but CTRL and mailbox traffic. -/
def State.bellHoldsGuest (s : State) (p : Packet) : Bool :=
  s.belled && 5 ≤ p.src && p.src ≤ 6 && p.vc ≠ 0 &&
  (match placeOf p.req.addr with | .mailbox _ _ => false | _ => true)

/-- Whether a fence or a reset of a tower holds a packet at its source (R340 step 2). -/
def State.slotFenced (s : State) (src : Nat) (p : Packet) : Bool :=
  (src < 4 && !s.towerServes src) ||
    (if p.targets = [] then p.dst < 4 && !s.towerServes p.dst else p.targets.any fun t => t.slot < 4 && !s.towerServes t.slot)

/-- PACKET_ADMIT (R23, R199): `position` counts the packets that wait at the source, `lane` is the lane chosen among those
aimed solely at the destination. -/
def execPacketAdmit (src position lane : Nat) (s : State) : Result :=
  let waiting := s.rig.outbox.filter fun p => p.src = src
  match waiting[position]? with
  | none => .next s
  | some p =>
    if s.bellHoldsGuest p || s.slotFenced src p then .next s
    else if p.targets ≠ [] then
      match p.targets.find? fun t => !s.sitePopulated t.slot with
      | some t => .next ((s.leaveOutbox p).slotRefusal src t.slot p.req.op 0xFF)
      | none => .next ((s.leaveOutbox p).startMulticast p)
    else if !s.sitePopulated p.dst || creditLimit p.dst p.vc = some 0 then
      .next ((s.leaveOutbox p).slotRefusal src p.dst p.req.op 0xFF)
    else if (waiting.take position).any fun q => q.targets = [] && q.dst = p.dst && q.vc = p.vc then .next s
    else
      match s.pathFor p lane with
      | none => .next s
      | some path =>
        if s.mayGo p path && s.mayTake path p.vc ((s.rivals waiting lane path).map (·.vc)) then .next (s.admitOn p path)
        else .next s

/-! ### Delivery (R191, R200) -/

/-- A path's receiver. -/
def State.receiver (s : State) (k : Nat) : Receiver := s.rig.receivers.get {} k

/-- Change a receiver. -/
def State.modReceiver (s : State) (k : Nat) (f : Receiver → Receiver) : State :=
  { s with rig := { s.rig with receivers := s.rig.receivers.modify {} k f } }

/-- The site at which a path ends. -/
def pathEnd (k : Nat) : Nat := k % 16

/-- The PSEQ that a destination expects next. -/
def State.pseqAt (s : State) (p : Packet) : Nat := s.rig.pseqExpected.get 0 (streamKey p.src p.dst p.vc)

/-- Whether a packet under way can be taken in: it is relayed here, a multicast, the next of its stream, or one that was
delivered already. -/
def State.deliverable (s : State) (f : Flight) : Bool :=
  let p := f.packet
  !(s.receiver f.path).discarding &&
  (pathEnd f.path ≠ p.dst || p.targets ≠ [] || p.pseq = s.pseqAt p || seqOlder p.pseq (s.pseqAt p))

/-- Take a packet off its path: its receiver has it whole. -/
def State.land (s : State) (f : Flight) : State :=
  let s1 := { s with rig := { s.rig with inFlight := s.rig.inFlight.erase f } }
  s1.modReceiver f.path fun r =>
    let e := (f.seq + packetFlits f.packet) % 65536
    if seqOlder r.expected e then { r with expected := e } else r

/-- What a delivered packet does that no command of its own takes up: a request from a guest reaches its mailbox, and
everything else passes on to the chapter that owns its opcode. -/
def State.absorb (s : State) (p : Packet) : State :=
  let s1 := s.free p.src p.dst p.vc (packetFlits p)
  if p.vc = 1 then
    let (a, s2) := s1.performRequest p.req (s1.originRequester p.req)
    if a = .stalled then s2 else s2.answerOrigin p.req a
  else s1

/-- Deliver a packet at its destination (R200, R204): a copy of a multicast that the destination has had leaves at once (R256). -/
def State.deliver (s : State) (p : Packet) : State :=
  let s1 := if p.targets ≠ [] then
      { s with rig := { s.rig with
          mcReserved := s.rig.mcReserved.filter fun r => !(r.site = p.dst && r.src = p.src && r.tag = p.req.tag) } }
    else
      { s with rig := { s.rig with
          pseqExpected := s.rig.pseqExpected.set (streamKey p.src p.dst p.vc) ((p.pseq + 1) % 65536) } }
  if p.again = .copy true then s1.free p.src p.dst p.vc (packetFlits p)
  else if [0x10, 0x11, 0x12, 0x60, 0x61, 0x62, 0x63].contains p.req.op then
    { s1 with rig := { s1.rig with arrived := s1.rig.arrived.modify [] p.dst (· ++ [p]) } }
  else s1.absorb p

/-! ### Link control (R189, R191) -/

/-- The SEQ that a path's receiver waits for: that of its first packet under way, else the next one. -/
def State.expectedOn (s : State) (k : Nat) : Nat :=
  match s.rig.inFlight.find? fun f => f.path = k with
  | some f => f.seq
  | none => (s.receiver k).expected

/-- The channel that a target sees at a wavelength position of a lane in training (R190): none while an element on the way is not
locked, else the first that is not the position's own, where an element sees another. -/
def State.seenAt (s : State) (k pos : Nat) : Option Nat :=
  let l := s.elementsAt k pos
  if l.any fun e => (s.ring e).state ≠ .locked then none
  else
    match l.find? fun e => match (s.ring e).tone with | some t => t ≠ pos | none => false with
    | some e => (s.ring e).tone
    | none => some pos

/-- What a receiver says of a lane that trains (R190): WRONG with the positions that carry another's value, TRAINED once every one
carries its own, and nothing before. The value of position `w` is `trainingByte w`. -/
def State.trainingAnswer (s : State) (k : Nat) : Option (Nat × LinkOp × Nat) :=
  let places := survivors (s.dropsFor k)
  let read := fun w => (s.seenAt k w).map trainingByte
  let bad := places.filter fun w => match read w with | some b => b ≠ trainingByte w | none => false
  if bad ≠ [] then some (k % 64, .wrong, sumOf (fun w => 2 ^ w) bad)
  else if places.all fun w => read w = some (trainingByte w) then some (k % 64, .trained, 0)
  else none

/-- Whether a lane sends its training pattern. -/
def Lane.trains (l : Lane) : Bool := l.state = .training && l.trainStart.isSome && !l.wrongWait

/-- What site `d` reports of lane `k` (R189, R190). -/
def State.laneReport (s : State) (d k : Nat) : Option (Nat × LinkOp × Nat) :=
  let l := s.laneAt k
  let r := laneRx k d
  if !Nat.testBit l.targets d then none
  else if l.trains then s.trainingAnswer k
  else if l.state ≠ .active && l.state ≠ .quiescing then none
  else if (s.receiver r).discarding then some (k % 64, .nak, s.expectedOn r)
  else some (k % 64, .ack, (s.expectedOn r + 65535) % 65536)

/-- What site `d` reports to site `a` (R189): credits by VC, the standing path, and every lane that runs from `a` to
`d`; with RELAY set while the standing path back is down. -/
def State.linkReport (s : State) (d a : Nat) : LinkFlit :=
  let k := standRx a d
  { receiver := d
    sender := a
    credits := (List.range 6).map fun vc => s.rig.freed.get 0 (streamKey d a vc) % 65536
    sack := if (s.receiver k).discarding then s.expectedOn k else (s.expectedOn k + 65535) % 65536
    sop := (s.receiver k).discarding
    entries := (slotLanes a).filterMap (s.laneReport d)
    relayed := (s.standing d a).state = .down }

/-- Site `d` sends its link control flit to `a` (R189): on the standing path, or by the relay while that is down. -/
def State.sendReport (s : State) (d a : Nat) : State :=
  s.wire (.linkControl d ((s.relayOf d a).getD a) (linkContent (s.linkReport d a)))

/-- Whether a site has flits from `a` that it has not acknowledged, or a lane that trains (R190, R191). -/
def State.owesAck (s : State) (d a : Nat) : Bool :=
  (s.standing a d).replay ≠ [] || (slotLanes a).any fun k =>
    Nat.testBit (s.laneAt k).targets d && ((s.laneAt k).replay ≠ [] || (s.laneAt k).trains)

/-- Whether a port sends a link control flit (R264): flits are unacknowledged, or it has sent none for 1 µs. -/
def State.portOwesAck (s : State) (p : Nat) : Bool :=
  let k := s.port p
  k.state ≠ .down && k.state ≠ .training && !k.retraining && (k.rxReported ≠ k.rxSeq || k.controlAt + 1000 ≤ s.now)

/-- Whether a Krytae port sends a link control flit (R410): flits are unacknowledged, or it has sent none for 1 µs. -/
def State.krytaeOwesAck (s : State) (k : Nat) : Bool :=
  let p := s.krytae k
  p.state = .up && (p.rxReported ≠ p.rxSeq || p.controlAt + 1000 ≤ s.now)

/-- ACK_INTERVAL (R191, R264, R410): a link control flit to each sender with unacknowledged flits; an edge group's ports too, and the
Krytae ports at the hub site. -/
def execAckInterval (site : Nat) (s : State) : Result :=
  let s1 := ((List.range 11).filter fun a => a ≠ site && s.sitePopulated a && s.owesAck site a).foldl
    (fun s a => s.sendReport site a) s
  let s2 := ((List.range 2).filter fun k => site = 4 && s.krytaeOwesAck k).foldl (fun s k => s.sendKrytaeControl k false) s1
  .next (((List.range 64).filter fun p => 7 + p / 16 = site && s.portOwesAck p).foldl (fun s p => s.sendPortControl p false) s2)

/-- A receiver finds a failed flit on a path of the rig (R188, R191): it is counted, the receiver sends a NAK with its next link
control flit, and discards until the head flit that it names. -/
def State.flitFails (s : State) (key src : Nat) (cause : FlitFailure) : State :=
  let s1 := if cause = .codeword then s.countReg 0x402102 64 1 else s.countReg 0x402103 64 1
  (s1.modReceiver key fun r => { r with discarding := true }).sendReport (key % 16) src

/-- The sending site of a path of the rig. -/
def pathSource (key : Nat) : Nat := if key < 16384 then key / 16 / 64 else (key - 16384) / 16

/-- PACKET_DELIVERY (R191, R200): a packet has arrived whole; `noise` are the symbols of it that its receiver read wrong. One that
the codewords cannot correct, or that breaks R188, fails. A relay sends a CTRL packet on (R193), once its path has room. -/
def execPacketDelivery (src dst vc : Nat) (noise : List SymbolError) (s : State) : Result :=
  let mine := fun (f : Flight) => f.packet.src = src && f.packet.dst = dst && f.packet.vc = vc
  match s.rig.inFlight.find? fun f => mine f && s.deliverable f with
  | none => .next s
  | some f =>
    let p := f.packet
    let here := pathEnd f.path
    let relays := s.relayOf p.src p.dst = some here
    let (fault, corrected) := if noise = [] then (none, 0) else s.received f relays noise
    match fault with
    | some cause => .next (s.flitFails f.path (pathSource f.path) cause)
    | none =>
      let s1 := (s.land f).countReg 0x402101 64 corrected
      if here ≠ p.dst then
        if !(relays && p.vc = 0) then .next (s.flitFails f.path (pathSource f.path) .header)
        else if !s.replayRoom (standPath here p.dst) p then .next (s.startFull (standPath here p.dst))
        else .next (s1.sendOnStanding here p.dst p)
      else if p.targets = [] && p.pseq ≠ s.pseqAt p then .next s1
      else .next (s1.deliver p)

/-- FLIT_UNCORRECTABLE (R188, R191): the receiver NAKs and discards until the named head flit arrives. -/
def execFlitUncorrectable (path : Path) (cause : FlitFailure) (s : State) : Result :=
  match path with
  | .lane slot lane dst => .next (s.flitFails (laneRx (laneKey slot lane) dst) slot cause)
  | .standing src dst => .next (s.flitFails (standRx src dst) src cause)
  | .port p => .next (s.sendPortControl p true)
  | .krytae k => .next (s.sendKrytaeControl k true)

/-- A lane's ACK from one target: a replay entry goes once every target has acknowledged it (R191). -/
def State.laneAck (s : State) (k d n : Nat) : State :=
  (s.endFull k).modLane k fun l =>
    let acked := l.acked.set d n
    { l with
      acked := acked
      naks := 0
      replay := l.replay.filter fun e => !((targetSlots l.targets).all fun t =>
        match SMap.lookup acked.entries t with | some m => ackedBy m e | none => false) }

/-- Receivers of a lane stop discarding: the named head flit is sent again (R191). -/
def State.resume (s : State) (k : Nat) : State := s.modReceiver k fun r => { r with discarding := false }

/-- Go-back-N on a lane (R191): the flits from SEQ `n` on take the next bytes of its stream. -/
def State.resendFrom (s : State) (k n : Nat) : State :=
  let l := s.laneAt k
  let again := l.replay.filter fun e => !seqOlder e.1 n
  let s1 := s.modLane k fun l => { l with stream := l.stream + 136 * replayFlits again }
  let place := fun (f : Flight) =>
    if f.path / 16 = k && f.path < 16384 && !seqOlder f.seq n then
      { f with first := l.stream + 136 * replayFlits (again.filter fun e => seqOlder e.1 f.seq) }
    else f
  { s1 with rig := { s1.rig with inFlight := s1.rig.inFlight.map place } }

/-- A lane's NAK (R191, R192): resend from the head flit named; at the eighth of one SEQ the lane is taken OUT, unless its
NAKs do not count (R252, R256). -/
def State.laneNak (s : State) (k d n : Nat) : State :=
  let l := s.laneAt k
  if l.state ≠ .active && l.state ≠ .quiescing then s
  else
    let c := if l.naks ≠ 0 && l.nakSeq = n then l.naks + 1 else 1
    let s1 := (((s.countReg 0x402104 64 1).modLane k fun l =>
      { l with nakSeq := n, naks := if l.ignoreNaks then 0 else c }).resendFrom k n).resume (laneRx k d)
    if 8 ≤ c && !l.ignoreNaks then s1.laneOut k true else s1

/-- TRAINED from a target (R190): once every target has answered, the lane is ACTIVE. -/
def State.laneTrained (s : State) (k d : Nat) : State :=
  let l := s.laneAt k
  if l.state ≠ .training || l.wrongWait || l.trainStart.isNone then s
  else
    let s1 := s.modLane k fun l => { l with trainedBy := d :: l.trainedBy.erase d }
    if (targetSlots l.targets).all (s1.laneAt k).trainedBy.contains then s1.laneUp k else s1

/-- One entry of a link control flit. -/
def State.linkEntry (s : State) (d k : Nat) (op : LinkOp) (n : Nat) : State :=
  if !Nat.testBit (s.laneAt k).targets d then s
  else
    match op with
    | .ack => s.laneAck k d n
    | .nak => s.laneNak k d n
    | .trained => s.laneTrained k d
    | .wrong =>
      let s1 := s.wrongAnswer k d n
      s1.modLane k fun l => if l.state = .training then { l with wrongWait := true } else l

/-- Send a granted multicast on its split lane (R204). -/
def State.sendMulticast (s : State) (m : McPending) (k : Nat) : State :=
  let s1 := { s with rig := { s.rig with mcPending := s.rig.mcPending.erase m } }
  let s1 := { s1 with rig := { s1.rig with
    mcReserved := s1.rig.mcReserved.map fun (r : McReservation) =>
      if r.src = m.src && r.tag = m.tag then { r with sent := true } else r } }
  let s2 := m.packet.targets.foldl (fun s t => s.spend m.src t.slot 3 (packetFlits m.packet)) s1
  (s2.sendOnLane k { m.packet with stamp := s.now }).countReg 0x402201 64 1

/-- A multicast with every grant goes on its split lane if the lane still runs; else as unicast packets (R204, R218). -/
def State.releaseMulticast (s : State) (m : McPending) : State :=
  if !(m.packet.targets.all fun t => m.grants.contains t.slot) then s
  else
    match s.splitLane m.src (packetMask m.packet) with
    | some k => if s.replayRoom k m.packet then s.sendMulticast m k else s.startFull k
    | none => s

/-- The multicasts of a source that wait for room in a replay buffer try again (R204). -/
def State.releaseMulticasts (s : State) (src : Nat) : State :=
  (s.rig.mcPending.filter fun m => m.src = src && !m.held).foldl (fun s m => s.releaseMulticast m) s

/-- The standing path's report (R191, R193): at the eighth NAK of one SEQ the path retrains. A report that comes directly and has
received nothing since SEQ 0 was awaited shows that a path is trained (DEDUCED, log 25: R189 has no TRAINED for it). -/
def State.standingReport (s : State) (a d : Nat) (f : LinkFlit) : State :=
  let q := s.standing a d
  if q.state = .retraining then
    if !f.sop && !f.relayed && f.sack % 65536 = 65535 && !q.wavelengthDropped then s.standingUp a d else s
  else if f.sop then
    let c := if q.naks ≠ 0 && q.nakSeq = f.sack then q.naks + 1 else 1
    let s1 := ((s.countReg 0x402104 64 1).modStanding a d fun q => { q with nakSeq := f.sack, naks := c }).resume
      (standRx a d)
    if 8 ≤ c && q.state = .up then s1.retrainStanding a d else s1
  else
    (s.endFull (standPath a d)).modStanding a d fun q =>
      { q with naks := 0, replay := q.replay.filter fun e => !ackedBy f.sack e }

/-- The credits that a link control flit returns (R189, R195). -/
def State.readCredits (s : State) (f : LinkFlit) : State :=
  { s with rig := { s.rig with
      credited := (List.range 6).foldl (fun m vc => m.set (streamKey f.receiver f.sender vc) (f.credits.getD vc 0))
        s.rig.credited } }

/-- Go-back-N on a fibre port (R191, R264): what its replay buffer holds from SEQ `n` on goes again. -/
def State.resendPort (s : State) (p n : Nat) : State :=
  { s with control := { s.control with
      wire := s.control.wire ++ ((s.port p).replay.filter fun e => !seqOlder e.1 n).map (·.2.2) } }

/-- A link control flit on a fibre port (R189, R264, R292): a heartbeat, and credits. An acknowledgement empties the replay buffer and
lets go what waited; a NAK makes the port resend, and the eighth of one SEQ makes it retrain. -/
def State.portReport (s : State) (p : Nat) (f : LinkFlit) : State :=
  let k := s.port p
  let c := if k.naks ≠ 0 && k.nakSeq = f.sack then k.naks + 1 else 1
  let s1 := s.modPort p fun q =>
    { q with
      lastHeard := s.now
      nakSeq := f.sack
      naks := if f.sop then c else 0
      credited := (List.range 6).foldl (fun m vc => m.set vc (f.credits.getD vc 0)) q.credited
      replay := if f.sop then q.replay else q.replay.filter fun e => !ackedBy f.sack e }
  if f.sop then (if 8 ≤ c then s1.startRetrain p else s1.resendPort p f.sack)
  else
    let s2 := (s1.hopAcked p f.sack).drainPort p
    let s3 := if s2.carriesMessages p then s2.sendHops p else s2
    if (s3.port p).state = .up then s3.sendWaiting p else s3

/-- A link control flit on a Krytae port (R191, R409, R410): credits, and an acknowledgement, or a NAK that makes the port send again
from the head flit it names. -/
def State.krytaeReport (s : State) (k : Nat) (f : LinkFlit) : State :=
  let again := ((s.krytae k).replay.filter fun e => !seqOlder e.1 f.sack).map fun e => e.2.2.frame
  let s1 := if f.sop then { s with control := { s.control with wire := s.control.wire ++ again } } else s
  s1.modKrytae k fun q => Krytae.drain
    { q with
      lastHeard := s.now
      credited := f.credits.getD 0 0
      replays := if f.sop then satAdd 64 q.replays 1 else q.replays
      replay := if f.sop then q.replay else q.replay.filter fun e => !ackedBy f.sack e }

/-- LINK_CONTROL_FLIT (R189 to R193): a site that a relayed flit passes sends it on unchanged; the sender reads it, and multicasts
that waited for room go (R204). -/
def execLinkControlFlit (via : LinkVia) (f : LinkFlit) (s : State) : Result :=
  match via with
  | .port p => .next (s.portReport p f)
  | .krytae k => .next (s.krytaeReport k f)
  | .rig site =>
    let a := f.sender
    let d := f.receiver
    if a = d || !s.sitePopulated a || !s.sitePopulated d then .next s
    else if site ≠ a then
      if f.relayed then .next (s.wire (.linkControl site a (linkContent f))) else .next s
    else
      .next ((f.entries.foldl (fun s e => s.linkEntry d (laneKey a e.1) e.2.1 e.2.2)
        ((s.readCredits f).standingReport a d f)).releaseMulticasts a)

/-! ### Training (R190, R192, R193) -/

/-- LANE_TRAINING (R190, R219): a lane in TRAINING sends its pattern; one that has not been answered within 2 µs is taken
OUT. -/
def execLaneTraining (slot lane : Nat) (s : State) : Result :=
  let k := laneKey slot lane
  let l := s.laneAt k
  let tacked := match s.coll.tack with | some t => t.lanes.contains k | none => false
  if l.state ≠ .training || l.wrongWait || tacked then .next s
  else
    match l.trainStart with
    | none => .next (s.modLane k fun l => { l with trainStart := some s.now, trainedBy := [] })
    | some t => if t + 2000 < s.now then .next (s.laneOut k true) else .next s

/-- LANE_RETRAIN (R192): up to three trainings of an OUT lane, 10 µs apart. -/
def execLaneRetrain (slot lane : Nat) (success : Bool) (s : State) : Result :=
  let k := laneKey slot lane
  let l := s.laneAt k
  if l.state ≠ .out || l.noRetrain || 3 ≤ l.retrains || (l.retrains ≠ 0 && s.now < l.lastRetrain + 10000) then .next s
  else if success then .next (s.laneUp k)
  else .next (s.modLane k fun l => { l with retrains := l.retrains + 1, lastRetrain := s.now })

/-- STANDING_PATH_DOWN (R193): the three retrainings of a standing path, 10 µs apart, have failed. -/
def execStandingPathDown (src dst : Nat) (s : State) : Result :=
  let q := s.standing src dst
  if s.hasStanding src dst && q.state = .retraining && q.lastRetrain + 20000 ≤ s.now then .next (s.standingDown src dst)
  else .next s

/-! ### Writes (R128, R187, R203) -/

/-- Apply a write packet at its destination: payload, increment, confirmation (R128, R187, R203). -/
def State.applyWrite (s : State) (site : Nat) (p : Packet) (q : Req) : State :=
  match s.performWrite q (s.originRequester q) with
  | (.stalled, s1) => s1.consume site p
  | (a, s1) => (s1.settleWrite q a).consume site p

/-- A packet that stays in its VC buffer has its credits withheld (R196), where a full hold buffer keeps it. -/
def State.noteStuck (s : State) (site op : Nat) : State :=
  match s.firstStuck site op with
  | some p => if s.mustWait (match p.targets.find? fun t => t.slot = site with | some t => (unicastTo p t).req | none => p.req)
      then s.withhold site else s
  | none => s

/-- BULK_WRITE (R187). -/
def execBulkWrite (site : Nat) (s : State) : Result :=
  match s.firstArrived site 0x60 with
  | none => .next (s.noteStuck site 0x60)
  | some p => .next (s.applyWrite site p p.req)

/-- MC_WRITE (R203): the target's own descriptor says where the payload goes. -/
def execMcWrite (site : Nat) (s : State) : Result :=
  match s.firstArrived site 0x61 with
  | none => .next (s.noteStuck site 0x61)
  | some p =>
    match p.targets.find? fun t => t.slot = site with
    | none => .next (s.consume site p)
    | some t => .next (s.applyWrite site p (unicastTo p t).req)

/-! ### Multicast (R204, R205) -/

/-- MC_RESERVE (R204): flits are set aside, now or in arrival order when they are free. -/
def execMcReserve (site : Nat) (s : State) : Result :=
  match s.firstArrived site 0x10 with
  | none => .next s
  | some p =>
    if site < 4 && !s.towerServes site then .next s else
    let s1 := s.consume site p
    let s2 := { s1 with rig := { s1.rig with
      mcReserved := s1.rig.mcReserved ++ [(⟨site, p.src, p.req.tag, p.req.len, false, false⟩ : McReservation)] } }
    .next (s2.grantReservations site s2.rig.mcReserved)

/-- MC_GRANT (R204). -/
def execMcGrant (site : Nat) (s : State) : Result :=
  match s.firstArrived site 0x11 with
  | none => .next s
  | some p =>
    let s1 := s.consume site p
    match s1.rig.mcPending.find? fun m => m.src = site && m.tag = p.req.tag && !m.held with
    | none => .next s1
    | some m =>
      let m1 := { m with grants := p.src :: m.grants.erase p.src }
      let s2 := { s1 with rig := { s1.rig with
        mcPending := s1.rig.mcPending.map fun q => if q = m then m1 else q } }
      .next (s2.releaseMulticast m1)

/-- MC_CANCEL (R205). -/
def execMcCancel (site : Nat) (s : State) : Result :=
  match s.firstArrived site 0x12 with
  | none => .next s
  | some p =>
    let s1 := s.consume site p
    let s2 := { s1 with rig := { s1.rig with
      mcReserved := s1.rig.mcReserved.filter fun r => !(r.site = site && r.src = p.src && r.tag = p.req.tag) } }
    .next (s2.grantReservations site s2.rig.mcReserved)

/-- The cancellations of a multicast's reservations (R205, R218). -/
def State.cancelGrants (s : State) (m : McPending) : State :=
  s.toOutbox (m.packet.targets.map fun t => ctrlPacket 0x12 m.src t.slot m.tag 0)

/-- MULTICAST_TIMEOUT (R205): cancelled, and sent as unicast packets. -/
def execMulticastTimeout (src tag : Nat) (s : State) : Result :=
  match s.rig.mcPending.find? fun m => m.src = src && m.tag = tag && !m.held with
  | none => .next s
  | some m =>
    if s.now < m.sent + s.reg 0x402203 || (m.packet.targets.all fun t => m.grants.contains t.slot) then .next s
    else
      let s1 := { s with rig := { s.rig with mcPending := s.rig.mcPending.erase m } }
      .next (((s1.cancelGrants m).toOutbox (m.packet.targets.map (unicastTo m.packet))).countReg 0x402202 64 1)

/-- A tack takes the lane that multicast `m` goes by: one whose grants are complete is sent first, another is held. -/
def State.holdMulticast (s : State) (lanes : List Nat) (m : McPending) : State :=
  match (slotLanes m.src).find? fun k => lanes.contains k && (s.laneAt k).targets = packetMask m.packet with
  | none => s
  | some k =>
    if m.packet.targets.all fun t => m.grants.contains t.slot then s.sendMulticast m k
    else
      { s with rig := { s.rig with
          mcPending := s.rig.mcPending.map fun q => if q = m then { q with held := true, grants := [] } else q } }.cancelGrants
        m

/-- Multicasts that wait for grants on a lane that takes part (R218): one with every grant is sent on it; the others are
held, and their reservations cancelled. -/
def State.holdMulticasts (s : State) (lanes : List Nat) : State :=
  s.rig.mcPending.foldl (fun s m => s.holdMulticast lanes m) s

/-- Held multicasts start again after a tack or a narrowing (R218, R256). -/
def State.restartMulticasts (s : State) : State :=
  let held := s.rig.mcPending.filter (·.held)
  held.foldl (fun s m => s.startMulticast m.packet)
    { s with rig := { s.rig with mcPending := s.rig.mcPending.filter fun m => !m.held } }

/-! ### Guests (R209) -/

/-- Whether an address as a guest issues it names its mailbox (R351). -/
def isMailboxForm (a : Nat) : Bool := a / 2 ^ 40 = 0xFD && a / 2 ^ 16 % 2 ^ 24 = 0

/-- The opcodes that a hall pass admits (R354): LOAD, STORE, TALLY_INC, atomics, BULK_WRITE. -/
def passOpcode (op : Nat) : Bool := op = 0x20 || op = 0x21 || op = 0x22 || isAtomic op || op = 0x60

/-- Whether the hub's guest filter admits a packet (R209, R354): CTRL and REQ packets to the guest's own mailbox in the hub,
budget records on CTRL, and under a hall pass the requests that it opens. -/
def State.guestAdmits (s : State) (g : Nat) (p : Packet) : Bool :=
  ((p.vc = 0 || p.vc = 1) && p.dst = 4 && isMailboxForm p.req.addr) || (p.vc = 0 && p.dst = 4 && p.req.op = 5) ||
  ((s.package.guests.get {} g).state = .admitted && passOpcode p.req.op)

/-- Whether a guest's packet keeps R186, R187, R194 and R195: the VC of its opcode, another site, head flit only on CTRL, the flits of
R186, a VC with credits, and a multicast's shape (R203). -/
def packetGood (p : Packet) : Bool :=
  vcOf p.req.op = some p.vc && dataFlits p ≤ 32 && (p.vc ≠ 0 || dataFlits p = 0) &&
  (p.targets ≠ [] || (creditLimit p.dst p.vc ≠ some 0 && p.dst ≠ p.src)) &&
  (decide (p.targets ≠ []) == decide (p.req.op = 0x61)) &&
  (p.targets = [] || (2 ≤ p.targets.length && p.targets.length ≤ 4 && (p.targets.map (·.slot)).Nodup &&
    1 ≤ dataFlits p && p.targets.all fun t => t.slot ≠ p.src))

/-- A guest's packet is dropped (R209): counted, and the first in each ms raised. -/
def State.dropGuestPacket (s : State) (g op : Nat) : State :=
  let s1 := s.countReg 0x402302 64 1
  let due : Bool := match SMap.lookup s.rig.guestDropEvent.entries g with
    | some t => decide (t + 1000000 ≤ s.now)
    | none => true
  if due then
    ({ s1 with rig := { s1.rig with guestDropEvent := s1.rig.guestDropEvent.set g s.now } }).raise 0x1305 0 (siteUnit (5 + g))
      (leBytes 1 (5 + g) ++ leBytes 1 op)
  else s1

/-- GUEST_PACKET (R209): the interface forms SRC, SEQ, PSEQ and CRC. A packet for which the site holds no credits is dropped too
(R195). A packet dropped is counted, and the first in each ms raised. A request goes on as GUEST_REQUEST. -/
def execGuestPacket (g : Nat) (p : Packet) (wellFormedHeader : Bool) (s : State) : Result :=
  let slot := 5 + g
  let q := { p with src := slot, pseq := 0, req := { p.req with origin := .guest g } }
  if !s.sitePopulated slot then .next s
  else if !wellFormedHeader || !packetGood q || !s.hasCredits slot q.dst q.vc (packetFlits q) || !s.guestAdmits g q then
    .next (s.dropGuestPacket g p.req.op)
  else if q.vc = 0 then .next (s.toOutbox [q])
  else .next s

end Sys2Proof.Machine
end

