-- ==== Sys2Proof/Machine/Photonics.lean ====
section
/-! DEFINITION. Commands of the lamps, rings and references (R235 to R260): fade and swaps, relocks, calibration, and the
narrowing of lanes. -/

namespace Sys2Proof.Machine

/-! ### Spares (R240, R241, R243) -/

/-- The spare of a bar that is being prepared, or is ready, for a channel. -/
def State.spareFor (s : State) (b ch : Nat) : Option Nat :=
  (List.range 20).find? fun n =>
    let k := s.laser b n
    k.forChannel = some ch && (k.state = .preparing || k.state = .ready)

/-- The lowest-numbered STANDBY spare. -/
def State.standbySpare (s : State) (b : Nat) : Option Nat :=
  ([16, 17, 18, 19] : List Nat).find? fun n => (s.laser b n).state = .standby

/-- Prepare a spare for a channel (R241): the lowest-numbered one in STANDBY, unless the channel has one. -/
def State.prepareSpare (s : State) (b ch : Nat) : State :=
  if (s.spareFor b ch).isSome then s
  else
    match s.standbySpare b with
    | none => s
    | some n => (s.setLaser b n .preparing).modLaser b n fun k => { k with forChannel := some ch }

/-- The line that carries a channel of a bar, or carried it until it was dropped. -/
def State.lineForChannel (s : State) (b ch : Nat) : Option Nat :=
  (List.range 20).find? fun n =>
    let k := s.laser b n
    k.channel = some ch && k.state ≠ .retired

/-- Whether a bar's swap runs. -/
def State.swapRuns (s : State) (b : Nat) : Bool := (s.bar b).swap.isSome

/-- Start a swap (R242 step 1). -/
def State.startSwap (s : State) (b line spare ch : Nat) : State :=
  let ps := (s.laser b line).output
  let run : SwapRun :=
    { channel := ch
      line := line
      spare := spare
      started := s.now
      step := 0
      retired := false
      ps := ps }
  ((s.setLaser b line .swapping).modBar b fun k => { k with swap := some run }).raise 0x1402 0 photonicUnit
    (leBytes 1 b ++ leBytes 1 ch ++ leBytes 4 ps.toNat)

/-- Start the swap that is due on a bar, in channel order (R242): a line past 1.5 dB whose spare is READY. -/
def State.nextSwap (s : State) (b : Nat) : State :=
  if s.swapRuns b then s
  else
    let due := (List.range 16).filterMap fun ch =>
      match s.lineForChannel b ch, s.spareFor b ch with
      | some l, some p =>
        let k := s.laser b l
        if k.past15 && (k.state = .active || k.state = .warned) && (s.laser b p).state = .ready then some (ch, l, p)
        else none
      | _, _ => none
    match due with
    | (ch, l, p) :: _ => s.startSwap b l p ch
    | [] => s

/-- Bring a READY spare in for a DEAD channel (R243). -/
def State.bringIn (s : State) (b dead spare ch : Nat) : State :=
  let s1 := s.modLaser b dead fun k => { k with channel := none }
  let power := (s.laser b dead).commissioning
  let s2 := (s1.setLaser b spare .active).modLaser b spare fun k =>
    { k with
      channel := some ch
      forChannel := none
      commissioning := power
      output := power
      fall := 0
      past10 := false
      past15 := false
      past30 := false }
  s2.channelRestored b ch

/-- Use a READY spare: for a DEAD channel, or for a swap that waits. -/
def State.useSpare (s : State) (b ch : Nat) : State :=
  match s.lineForChannel b ch, s.spareFor b ch with
  | some l, some p =>
    if (s.laser b p).state ≠ .ready then s
    else if (s.laser b l).state = .dead then s.bringIn b l p ch
    else s.nextSwap b
  | _, _ => s

/-- A line becomes DEAD (R240): it is switched off, and its channel dropped. A swap of it ends, and one that waits starts. -/
def State.lineDead (s : State) (b n ch : Nat) (abrupt : Bool) : State :=
  let s1 := (s.setLaser b n .dead).modLaser b n fun k => { k with past30 := true, output := 0 }
  let s2 := (s1.modBar b fun k => { k with swap := match k.swap with
    | some r => if r.line = n then none else some r
    | none => none }).countReg 0x420104 32 1
  ((s2.raise 0x1404 0 photonicUnit (leBytes 1 b ++ leBytes 1 ch ++ leBytes 1 (if abrupt then 1 else 0))).channelDropped b ch).nextSwap b

/-- An abrupt failure (R240): as at 3.0 dB with no READY spare; a spare is prepared at once, and one that is READY already
is brought in. -/
def State.abruptFailure (s : State) (b n ch : Nat) : State :=
  (((s.countReg 0x420103 32 1).lineDead b n ch true).prepareSpare b ch).useSpare b ch

/-- A power of a number. -/
def Num.pow (a : Num) : Nat → Num
  | 0 => Num.ofInt 1
  | n + 1 => (Num.pow a n).mul a

/-- Whether `p` lies at least `tenths / n` dB below `q`, exactly: 10 log10 (q / p) ≥ tenths / n says p^(10 n) 10^tenths ≤ q^(10 n),
here with `n` of 10 `n` as `root`. -/
def belowBy (root tenths : Nat) (p q : Num) : Bool :=
  p.isFinite && q.isFinite && !p.neg && Num.zero.lt q && !((Num.pow q root).lt ((Num.pow p root).mul (Num.ofInt (10 ^ tenths))))

/-- The thresholds of R240: 1.0, 1.5 and 3.0 dB. -/
def below10 (p q : Num) : Bool := belowBy 10 1 p q
def below15 (p q : Num) : Bool := belowBy 20 3 p q
def below30 (p q : Num) : Bool := belowBy 10 3 p q

/-- The sum of a line's samples (R238). -/
def sampleSum (samples : List Word32) : Num :=
  samples.foldl (fun a v => a.add .nearestEven (fp32.decode v.toNat)) Num.zero

/-- A power as many times as there are samples: what their sum is compared with. -/
def Laser.times (k : Laser) (v : Word32) : Num := (fp32.decode v.toNat).mul (Num.ofInt k.samples.length)

/-- The 1.0 dB action (R240). -/
def State.fade10 (s : State) (b n ch : Nat) (fall : Word32) : State :=
  let spare := match s.spareFor b ch with | some p => some p | none => s.standbySpare b
  let s1 := ((s.setLaser b n .warned).modLaser b n fun k => { k with past10 := true }).countReg 0x420101 32 1
  (s1.raise 0x1401 0 photonicUnit
    (leBytes 1 b ++ leBytes 1 ch ++ leBytes 4 fall.toNat ++ leBytes 1 (spare.getD 0xFF))).prepareSpare b ch

/-- The spare of a channel that is READY is tuned to follow its line (R241 step 4). -/
def State.followLine (s : State) (b ch : Nat) (output : Word32) : State :=
  match s.spareFor b ch with
  | some p => if (s.laser b p).state = .ready then s.modLaser b p fun k => { k with output := output } else s
  | none => s

/-- LINE_EVALUATION (R238, R240): the mean of the last samples against the commissioning value; the thresholds act in turn, each once.
A fall is there only once the drive is at its ceiling, below which power control holds the output (R238). `fall` is the figure in dB
that OD 0x4200.02 shows, a logarithm whose rounding the spec does not state (log 105). More than 3.0 dB below the mean of the last
evaluation is an abrupt failure. -/
def execLineEvaluation (bar laser : Nat) (fall : BitVec 32) (s : State) : Result :=
  let k := s.laser bar laser
  match k.channel with
  | none => .next s
  | some ch =>
    if !(k.state = .active || k.state = .warned) || k.samples = [] then .next s
    else
      let sum := sampleSum k.samples
      let goal := k.times k.commissioning
      let falls := 1000 ≤ k.drive
      let was := sampleSum k.lastSamples |>.mul (Num.ofInt k.samples.length)
      let now := sum.mul (Num.ofInt k.lastSamples.length)
      let sudden := now.lt was && below30 now was
      let s0 := (s.modLaser bar laser fun k => { k with fall := if falls then fall else 0, lastSamples := k.samples }).followLine bar ch
        k.output
      if sudden then .next (s0.abruptFailure bar laser ch)
      else
        let s1 := if falls && below10 sum goal && !k.past10 then s0.fade10 bar laser ch fall else s0
        let s2 := if falls && below15 sum goal && !k.past15 then
            (s1.modLaser bar laser fun k => { k with past15 := true }).nextSwap bar else s1
        let ready := match s2.spareFor bar ch with
          | some p => (s2.laser bar p).state = .ready
          | none => false
        if falls && below30 sum goal && !k.past30 && !ready && (s2.laser bar laser).state ≠ .swapping then
          .next (s2.lineDead bar laser ch false)
        else .next s2

/-- BACK_FACET_SAMPLE (R238): every line's monitor and its drive in per mille of the ceiling, in bar then laser order; the last 16
samples are kept. -/
def execBackFacetSample (samples : List (BitVec 32 × Nat)) (s : State) : Result :=
  .next ((List.range 240).foldl (fun s i =>
    match samples[i]? with
    | none => s
    | some v => s.modLaser (i / 20) (i % 20) fun k =>
        let l := k.samples ++ [v.1]
        { k with output := v.1, drive := Nat.min v.2 1000, samples := l.drop (l.length - 16) }) s)

/-- ABRUPT_LASER_FAILURE (R240): a fault of a line, or of a spare that carries nothing. -/
def execAbruptLaserFailure (bar laser : Nat) (s : State) : Result :=
  let k := s.laser bar laser
  if k.state = .dead || k.state = .retired then .next s
  else
    match k.channel with
    | some ch => .next (s.abruptFailure bar laser ch)
    | none => .next ((s.setLaser bar laser .dead).modLaser bar laser fun k => { k with forChannel := none, output := 0 })

/-- SPARE_READY (R241, R243): a PREPARING spare is tuned: its etalon reading, less its channel's line's (of a DEAD line the
commissioning reading), is within 50 pm. For a DEAD channel the tone has to be confirmed. -/
def execSpareReady (bar : Nat) (spare : SpareReading) (s : State) : Result :=
  let laser := spare.laser
  let k := s.laser bar laser
  match k.forChannel with
  | none => .next s
  | some ch =>
    let line := s.lineForChannel bar ch
    let dead := match line with | some l => decide ((s.laser bar l).state = .dead) | none => false
    if k.state ≠ .preparing || 50 < spare.offset.natAbs || (dead && !spare.toneSeen) then .next s
    else
      let power := match line with
        | some l => if dead then (s.laser bar l).commissioning else (s.laser bar l).output
        | none => 0
      .next (((s.setLaser bar laser .ready).modLaser bar laser fun k => { k with output := power, etalon := spare.offset }).useSpare bar ch)

/-! ### Swaps (R242) -/

/-- A power scaled by n / 64. -/
def crossfade (ps : Word32) (n : Nat) : Word32 :=
  BitVec.ofNat 32 (fp32.round .nearestEven (((fp32.decode ps.toNat).mul (Num.ofInt n)).scale (-6)))

/-- CROSSFADE_STEP (R242 steps 2 and 3): step n comes 10 µs + n × 3.125 µs after the start. -/
def execCrossfadeStep (bar : Nat) (s : State) : Result :=
  match (s.bar bar).swap with
  | none => .next s
  | some r =>
    if 64 ≤ r.step || s.now < r.started + 10000 + 3125 * (r.step + 1) then .next s
    else
      let n := r.step + 1
      let s1 := s.modBar bar fun k => { k with swap := some { r with step := n } }
      let s2 := s1.modLaser bar r.line fun k => { k with output := crossfade r.ps (64 - n) }
      .next (s2.modLaser bar r.spare fun k => { k with output := crossfade r.ps n })

/-- SWAP_RETIRE (R242 step 4): at 210 µs. -/
def execSwapRetire (bar : Nat) (s : State) : Result :=
  match (s.bar bar).swap with
  | none => .next s
  | some r =>
    if r.retired || r.step < 64 || s.now < r.started + 210000 then .next s
    else
      let power := (s.laser bar r.line).commissioning
      let s1 := (s.setLaser bar r.line .retired).modLaser bar r.line fun k => { k with channel := none, output := 0 }
      let s2 := (s1.setLaser bar r.spare .active).modLaser bar r.spare fun k =>
        { k with
          channel := some r.channel
          forChannel := none
          commissioning := power
          output := r.ps
          fall := 0
          past10 := false
          past15 := false
          past30 := false }
      .next (s2.modBar bar fun k => { k with swap := some { r with retired := true } })

/-- SWAP_DONE (R242 step 5): the tone is confirmed at 250 µs, from when the spare's output rises; the next swap due on the bar
starts. -/
def execSwapDone (bar : Nat) (s : State) : Result :=
  match (s.bar bar).swap with
  | none => .next s
  | some r =>
    if !r.retired || s.now < r.started + 250000 then .next s
    else
      let d := s.now - r.started
      let s0 := s.modLaser bar r.spare fun k => { k with rampAt := some s.now }
      let s1 := ((s0.modBar bar fun k => { k with swap := none }).countReg 0x420102 32 1).setReg 0x420105 d
      .next ((s1.raise 0x1403 0 photonicUnit (leBytes 1 bar ++ leBytes 1 r.channel ++ leBytes 4 d)).nextSwap bar)

/-- Whether `new` is 0.1 dB above `old`, to one place of FP32 either way: the spec does not state how the step is rounded (log 105). -/
def stepOf (old new : Word32) : Bool :=
  let up := (Num.pow (fp32.decode old.toNat) 100).mul (Num.ofInt 10)
  let p := fun (n : Nat) => Num.pow (fp32.decode n) 100
  (fp32.decode old.toNat).lt (fp32.decode new.toNat) && !(up.lt (p (new.toNat - 1))) && up.lt (p (new.toNat + 1))

/-- SPARE_RAMP_STEP (R242 step 6): the spare's output rises by 0.1 dB each 100 µs, to `output`, at most to the commissioning value. -/
def execSpareRampStep (bar laser : Nat) (output : BitVec 32) (s : State) : Result :=
  let k := s.laser bar laser
  let goal := fp32.decode k.commissioning.toNat
  match k.rampAt with
  | none => .next s
  | some t =>
    if !(k.state = .active || k.state = .warned) || s.now < t + 100000 || !stepOf k.output output then .next s
    else if (fp32.decode output.toNat).lt goal then
      .next (s.modLaser bar laser fun k => { k with output := output, rampAt := some (t + 100000) })
    else .next (s.modLaser bar laser fun k => { k with output := k.commissioning, rampAt := none })

/-- RE_COMMISSION (R260): refused outside MANUFACTURE and RETURN, for a number above 191, and for a line that is not
ACTIVE. -/
def State.reCommission (s : State) (value : Nat) : State :=
  if s.lifeCycle ≠ 0 && s.lifeCycle ≠ 3 then s.setReg 0x420202 2
  else if 191 < value then s.setReg 0x420202 4
  else
    match s.lineForChannel (value / 16) (value % 16) with
    | none => s.setReg 0x420202 3
    | some n =>
      if (s.laser (value / 16) n).state ≠ .active then s.setReg 0x420202 3
      else (s.modLaser (value / 16) n fun k => { k with commissioning := k.output, fall := 0 }).setReg 0x420202 0

/-- RE_COMMISSION. -/
def execReCommission (value : Nat) (s : State) : Result := .next (s.reCommission value)

/-! ### Heater control (R247 to R251) -/

/-- The set-point table's point nearest a local temperature: T_i = 20 + 2 i °C (R247). -/
def nearestPoint (centi : Int) : Nat := Nat.min 31 ((centi - 2000 + 100) / 200).toNat

/-- The temperature clamped to the table's range, in hundredths of a degree above 20 °C. -/
def clampedTemp (centi : Int) : Nat := (min 6200 (max 0 (centi - 2000))).toNat

/-- The feed-forward code (R247): linear interpolation between the points that bracket the temperature; where it falls
between two codes a free value says which. -/
def State.feedForward (s : State) (r : Ring) (centi : Int) : Int × State :=
  let t := clampedTemp centi
  let i := Nat.min 30 (t / 200)
  let a : Int := r.table.getD i 0
  let b : Int := r.table.getD (i + 1) 0
  s.divFree (a * (200 - (t - 200 * i : Nat)) + b * (t - 200 * i : Nat)) 200

/-- Whether an element is set to block its light (R250): a switch node or a selector that lies on no lane's path. -/
def State.blocks (s : State) (e : Nat) : Bool := 2 ≤ elClass e && s.pathOf e = .lanes []

/-- Add the code of one more ring of bank `b`. -/
def requestedStep (b : Nat) (acc : List Int × State) (i : Nat) : List Int × State :=
  let r := acc.2.ring (16 * b + i)
  let (h, t) := acc.2.feedForward r (acc.2.bank b).centi
  (acc.1 ++ [h + r.trim + (if acc.2.blocks (16 * b + i) then 1144 else 0)], t)

/-- The codes that a bank's rings are held at (R247, R250): feed-forward and trim, and half a channel spacing more where the bank is
set to block. -/
def State.requestedCodes (s : State) (b : Nat) : List Int × State :=
  (List.range 16).foldl (requestedStep b) ([], s)

/-- A bank's matrix entry (R248). -/
def State.crosstalk (s : State) (b n : Nat) : Word32 :=
  if (s.bank b).k = [] then Config.crosstalk b n else (s.bank b).k.getD n 0

/-- The code of a ring in its sweep (R253 steps 2 and 3): 0 for 2 µs, then 100 more with each µs, 400 times. -/
def State.sweepCode (s : State) (r : Ring) : Nat :=
  if s.now < r.sweepAt + 2000 then 0 else 100 * Nat.min 400 ((s.now - r.sweepAt - 2000) / 1000 + 1)

/-- The applied code of a ring (R248): its row of K times the requested codes, clamped; where the exact sum falls between two
codes a free value says which. The flag says whether it was clamped. A ring that relocks has the code of its sweep, or that of its
peak (R253). -/
def State.appliedCode (s : State) (e : Nat) : Nat × Bool × State :=
  if (s.ring e).state = .parked then (0, false, s)
  else if (s.ring e).state = .sweeping then (s.sweepCode (s.ring e), false, s)
  else if (s.ring e).state = .verify then ((s.ring e).candidate, false, s)
  else
  let b := e / 16
  let (h, s1) := s.requestedCodes b
  let v := (List.range 16).foldl (fun (a : Num) j =>
    a.add .nearestEven ((fp32.decode (s.crosstalk b (16 * (e % 16) + j)).toNat).mul (Num.ofInt (h.getD j 0)))) Num.zero
  let low := v.floorInt
  let (w, s2) := s1.freeWord
  let a := if v.eq (Num.ofInt low) then low else if w.getLsbD 0 then low + 1 else low
  ((max 0 (min 65535 a)).toNat, decide (a < 0 ∨ 65535 < a), s2)

/-- Count the clamps that have come about among a bank's applied codes (R248, OD 0x4300.02). -/
def State.countClamps (s : State) (b : Nat) : State :=
  let (now, s1) := (List.range 16).foldl (fun (acc : List Nat × State) i =>
    let (_, clamped, t) := acc.2.appliedCode (16 * b + i)
    (if clamped then acc.1 ++ [i] else acc.1, t)) ([], s)
  let fresh := now.filter fun i => !(s.bank b).clamped.contains i
  (if fresh = [] then s1 else s1.countReg 0x430002 32 fresh.length).modBank b fun k => { k with clamped := now }

/-- Whether the light of a ring comes from a bar in a swap crossfade (R249). The light of a fibre port's receive filters comes from
another device. -/
def State.ringSwaps (s : State) (e : Nat) : Bool :=
  match s.pathOf e with
  | .lanes l => l.any fun k => s.swapRuns (barOfLane k)
  | .standing a _ => s.swapRuns (barOfStanding a)
  | .port p => elClass e = 0 && s.swapRuns (barOfPort p)

/-- Whether a bank is in a swap crossfade (R249). -/
def State.bankSwaps (s : State) (b : Nat) : Bool := (List.range 16).any fun i => s.ringSwaps (16 * b + i)

/-- K_REMEASURE (R248, R251): once an hour, while all 16 rings are LOCKED and the references agree. -/
def execKRemeasure (bank : Nat) (k : List (BitVec 32)) (s : State) : Result :=
  let b := s.bank bank
  if !isElement (16 * bank) || s.reg 0x440004 = 2 || !((List.range 16).all fun i => (s.ring (16 * bank + i)).state = .locked) ||
      (b.count ≠ 0 && s.now < b.time + 3600000000000) then .next s
  else .next (s.modBank bank fun b => { b with pending := some k, count := satAdd 32 b.count 1, time := s.now })

/-- A trim within the bounds of the lock loop (R247). -/
def boundTrim (t : Int) : Int := max (-2000) (min 2000 t)

/-- Adjust one ring by a quarter of its average trim (R249). -/
def State.calibrateRing (s : State) (e : Nat) (avg centi : Int) : State :=
  let r := s.ring e
  let avg := boundTrim avg
  if r.state ≠ .locked then s
  else
    let (q, s1) := s.divFree avg 4
    let i := nearestPoint centi
    let code := ((r.table.getD i 0 : Int) + q).toNat
    s1.modRing e fun r =>
      { r with
        table := setAt i (Nat.min code 65535) r.table
        trim := boundTrim (r.trim - q)
        calibrations := satAdd 32 r.calibrations 1
        calibrated := s.now }

/-- CALIBRATION_PASS (R248, R249, R251): once per OD 0x4300.07 for each bank. A measured matrix comes into force; LOCKED rings are
adjusted by their trims' averages unless the local temperature lies outside the table, or the bank's bar swaps; nothing is written
while the references disagree. -/
def execCalibrationPass (bank : Nat) (averages : List Int) (s : State) : Result :=
  let b := s.bank bank
  let early := match b.passed with | some t => decide (s.now < t + 1000000 * s.reg 0x430007) | none => false
  if !isElement (16 * bank) || early || s.reg 0x440004 = 2 then .next s
  else
    let s0 := s.modBank bank fun b => { b with passed := some s.now }
    let s1 := match b.pending with
      | some k => (s0.modBank bank fun b => { b with k := k, pending := none }).countClamps bank
      | none => s0
    if s.bankSwaps bank then .next s1
    else if b.centi < 2000 || 8200 < b.centi then
      if b.skipRaised then .next s1
      else
        .next ((s1.modBank bank fun b => { b with skipRaised := true }).raise 0x140A 0 photonicUnit
          (leBytes 4 (16 * bank) ++ intBytes 2 b.centi))
    else
      .next (((List.range 16).foldl (fun s i => s.calibrateRing (16 * bank + i) (averages.getD i 0) b.centi) s1).countClamps bank)

/-- The difference of the band-gaps in ppm (R251): its exact value where it is whole; a free value rounds it, and one stands for it
where BG-H reads zero (log 107). -/
def State.referencePpm (s : State) (rig hub : Nat) : Int × State :=
  if hub = 0 then
    let (w, s1) := s.freeWord
    ((signedOf 32 w.toNat), s1)
  else s.divFree (((rig : Int) - hub) * 1000000) hub

/-- REFERENCE_COMPARE (R251): the difference of the band-gaps in ppm; state 2 holds until it is back within 0.4 % for
100 ms. -/
def execReferenceCompare (rigMicrovolt hubMicrovolt : Nat) (s : State) : Result :=
  let d : Int := (rigMicrovolt : Int) - hubMicrovolt
  let (ppm, s1) := s.referencePpm rigMicrovolt hubMicrovolt
  let s2 := ((s1.setReg 0x440001 rigMicrovolt).setReg 0x440002 hubMicrovolt).setReg 0x440003 (leNat (intBytes 4 ppm))
  let level := if 50 * d.natAbs > hubMicrovolt then 2 else if 200 * d.natAbs > hubMicrovolt then 1 else 0
  let good := 250 * d.natAbs ≤ hubMicrovolt
  let since := if good then some (s.photonics.refGoodSince.getD s.now) else none
  let s3 := { s2 with photonics := { s2.photonics with refGoodSince := since } }
  let state := s.reg 0x440004
  if state < level then
    .next (((s3.setReg 0x440004 level).countReg 0x440005 32 1).raiseSev 0x1409 level 0 photonicUnit
      (intBytes 4 ppm ++ leBytes 1 level))
  else
    match since with
    | some t => if state ≠ 0 && t + 100000000 ≤ s.now then .next (s3.setReg 0x440004 0) else .next s3
    | none => .next s3

/-! ### Wrong channels and relocks (R237, R252 to R254) -/

/-- TONE_WINDOW (R237, R247, R252): the tone that a ring's detector sees, and the trim of its lock loop; three windows that name
another channel find the ring on the wrong channel. -/
def execToneWindow (element : Nat) (seen : ToneReading) (s : State) : Result :=
  if !isElement element then .next s
  else
    let r := s.ring element
    let wrong := match seen.tone with | some t => decide (t ≠ elRing element) | none => false
    let n := if wrong then r.wrongWindows + 1 else 0
    let held := if r.state = .locked then boundTrim seen.trim else r.trim
    let limit := r.state = .locked && held.natAbs = 2000
    let s1 := s.modRing element fun r =>
      { r with
        tone := seen.tone
        trim := held
        limitSince := if !limit then none else if r.trim = held then some (r.limitSince.getD s.now) else some s.now
        wrongWindows := n
        goodWindows := if seen.tone = some (elRing element) then r.goodWindows + 1 else 0 }
    if 3 ≤ n && r.state = .locked then .next (s1.ringWrong element (seen.tone.getD 0xFF)) else .next s1

/-- TRIM_LIMIT (R247, R252): a trim at its limit for 1 ms has lost its line. -/
def execTrimLimit (element : Nat) (s : State) : Result :=
  let late := match (s.ring element).limitSince with | some t => decide (t + 1000000 ≤ s.now) | none => false
  if isElement element && (s.ring element).state = .locked && late then
    .next (s.ringWrong element (((s.ring element).tone).getD 0xFF))
  else .next s

/-- An attempt at relocking has failed (R254): again after 10 µs, FAILED after the third. -/
def State.relockFailed (s : State) (e : Nat) : State :=
  if 3 ≤ (s.ring e).attempts then s.ringFailed e
  else s.modRing e fun r => { r with state := .sweeping, retryAt := some (s.now + 10000) }

/-- RELOCK_SWEEP_END (R253 step 4): `peak` is the code of the peak that carries the ring's tone, among those of the sweep. -/
def execRelockSweepEnd (element : Nat) (peak : Option Nat) (s : State) : Result :=
  let r := s.ring element
  if r.state ≠ .sweeping || r.retryAt.isSome || s.now < r.sweepAt + 402000 then .next s
  else
    match peak with
    | some code =>
      if 40000 < code then .next (s.relockFailed element)
      else .next (s.modRing element fun r => { r with state := .verify, candidate := code, goodWindows := 0 })
    | none => .next (s.relockFailed element)

/-- A ring relocks (R253 step 6). -/
def State.ringLocked (s : State) (e : Nat) : State :=
  let i := nearestPoint (s.bank (e / 16)).centi
  s.modRing e fun r =>
    { r with
      state := .locked
      table := setAt i r.candidate r.table
      trim := 0
      limitSince := none
      calibrations := satAdd 32 r.calibrations 1
      calibrated := s.now
      tone := some (elRing e)
      wrongWindows := 0
      attempts := 0
      retryAt := none }

/-- RELOCK_VERIFIED (R253 steps 5 to 7): three windows have shown the ring's tone, or it is not confirmed; a lane that waited trains
once no ring of its path relocks. -/
def execRelockVerified (element : Nat) (confirmed : Bool) (s : State) : Result :=
  if (s.ring element).state ≠ .verify then .next s
  else if !confirmed then .next (s.relockFailed element)
  else if (s.ring element).goodWindows < 3 then .next s
  else
    let s1 := (s.ringLocked element).countClamps (element / 16)
    match s1.pathOf element with
    | .lanes l => .next (l.foldl (fun s k => s.releaseLane k) s1)
    | _ => .next s1

/-- RELOCK_RETRY (R254). -/
def execRelockRetry (element : Nat) (s : State) : Result :=
  let r := s.ring element
  match r.retryAt with
  | none => .next s
  | some t =>
    if r.state ≠ .sweeping || s.now < t then .next s
    else .next (s.modRing element fun r => { r with sweepAt := s.now, attempts := r.attempts + 1, retryAt := none })

/-! ### Narrowing (R255 to R257) -/

/-- LANE_NARROW (R256 step 2): the lane quiesces to narrow or to widen; multicasts that wait for it are held (R218). -/
def execLaneNarrow (slot lane : Nat) (s : State) : Result :=
  let k := laneKey slot lane
  let l := s.laneAt k
  if l.narrowing.isSome && l.state = .active then .next ((s.holdMulticasts [k]).modLane k fun l => { l with state := .quiescing })
  else .next s

/-- LANE_NARROW_RETRAIN (R256 steps 3 to 5): what is not acknowledged is re-sent; the lane trains on its positions and is
ACTIVE, and what was held for it goes on. -/
def execLaneNarrowRetrain (slot lane : Nat) (s : State) : Result :=
  let k := laneKey slot lane
  let l := s.laneAt k
  if l.narrowing.isNone || l.state ≠ .quiescing then .next s
  else
    .next ((s.stopLane k .training).laneUp k).restartMulticasts

/-- ELEMENT_SELECT (R260): a snapshot of an element; an ID that names none is refused. The answer says whether it was
taken. -/
def State.elementSelect (s : State) (e : Nat) : Bool × State :=
  if !isElement e then (false, s)
  else
    let (feed, s1) := s.feedForward (s.ring e) (s.bank (e / 16)).centi
    let (code, _, s2) := s1.appliedCode e
    (true, { (s2.setReg 0x431001 e).setReg 0x431002 s.now with
      photonics := { s2.photonics with
        snapshot := s.ring e
        snapshotBank := s.bank (e / 16)
        snapshotApplied := code
        snapshotFeed := feed.toNat } })

/-- ELEMENT_SELECT. -/
def execElementSelect (element : Nat) (s : State) : Result := .next (s.elementSelect element).2

end Sys2Proof.Machine
end

