-- ==== Sys2Proof/Machine/Shake.lean ====
section
/-! DEFINITION. SHAKE256 with 32 bytes of output, as R315, R353, R445 and R455 use it. The spec names the function by its
standard, FIPS 202, from which this file takes it (PRESUMED, log 11). -/

namespace Sys2Proof.Machine

/-- One shift of the register that yields the round constants: 8 bits, feedback from the bit shifted out into bits 0, 4, 5
and 6 (FIPS 202, algorithm 5). -/
def shiftRegister (r : Nat) : Nat := if 128 ≤ r then Nat.xor (2 * r) 0x171 else 2 * r

/-- The constant of a round, from the register at its start, and the register after it: draw `j` of seven sets bit 2^j - 1. -/
def drawConstant (r : Nat) : Word64 × Nat :=
  (List.range 7).foldl (fun p j =>
    (if p.2 % 2 = 1 then p.1 + BitVec.ofNat 64 (2 ^ (2 ^ j - 1)) else p.1, shiftRegister p.2)) (0, r)

/-- The constants of `n` rounds in order. -/
def drawConstants : Nat → Nat → List Word64
  | 0, _ => []
  | n + 1, r => (drawConstant r).1 :: drawConstants n (drawConstant r).2

/-- Walk over the lanes other than (0, 0): each takes the next triangular number as its rotation (FIPS 202, algorithm 2). -/
def rotationWalk : Nat → Nat → Nat → Nat → List ((Nat × Nat) × Nat)
  | 0, _, _, _ => []
  | n + 1, t, x, y => ((x, y), (t + 1) * (t + 2) / 2 % 64) :: rotationWalk n (t + 1) y ((2 * x + 3 * y) % 5)

/-- The rotation of lane (x, y). -/
def rotation (x y : Nat) : Nat := ((rotationWalk 24 0 1 0).lookup (x, y)).getD 0

/-- A lane of a state, coordinates taken modulo 5. -/
def lane (a : List Word64) (x y : Nat) : Word64 := a.getD (5 * (y % 5) + x % 5) 0

/-- The state whose lane (x, y) is `f x y`. -/
def laneTable (f : Nat → Nat → Word64) : List Word64 := (List.range 25).map fun i => f (i % 5) (i / 5)

/-- One round with constant `rc` (FIPS 202, 3.2): column parities, rotations with a permutation of the lanes, the row-wise
non-linear step, and the constant. -/
def keccakRound (a : List Word64) (rc : Word64) : List Word64 :=
  let parities := (List.range 5).map fun x => (List.range 5).foldl (fun w y => w ^^^ lane a x y) 0
  let parity := fun x => parities.getD (x % 5) 0
  let mixed := laneTable fun x y => lane a x y ^^^ parity (x + 4) ^^^ (parity (x + 1)).rotateLeft 1
  let moved := laneTable fun x y => (lane mixed (x + 3 * y) x).rotateLeft (rotation ((x + 3 * y) % 5) x)
  (laneTable fun x y => lane moved x y ^^^ (~~~lane moved (x + 1) y &&& lane moved (x + 2) y)).modify 0 (· ^^^ rc)

/-- Keccak-f[1600]. -/
def keccakF (a : List Word64) : List Word64 := (drawConstants 24 1).foldl keccakRound a

/-- The n-th 64-bit lane of a block of bytes, the first byte lowest. -/
def blockLane (b : List Byte) (n : Nat) : Word64 :=
  BitVec.ofNat 64 ((List.range 8).foldl (fun v i => v + (b.getD (8 * n + i) 0).toNat * 256 ^ i) 0)

/-- Absorb whole blocks of 136 bytes. -/
def absorbBlocks : Nat → List Byte → List Word64 → List Word64
  | 0, _, a => a
  | n + 1, b, a =>
    absorbBlocks n (b.drop 136) (keccakF ((List.range 25).map fun i =>
      if i < 17 then a.getD i 0 ^^^ blockLane b i else a.getD i 0))

/-- A message with the suffix 1111 and the padding 10*1 (FIPS 202, 6.2), whole blocks of 136 bytes. -/
def shakePad (m : List Byte) : List Byte :=
  let n := 136 - m.length % 136
  if n = 1 then m ++ [0x9F] else m ++ [0x1F] ++ List.replicate (n - 2) 0 ++ [0x80]

/-- SHAKE256 of a message, its first 32 bytes. -/
def shake256 (m : List Byte) : List Byte :=
  let p := shakePad m
  let a := absorbBlocks (p.length / 136) p (List.replicate 25 0)
  (List.range 32).map fun i => BitVec.ofNat 8 ((a.getD (i / 8) 0).toNat / 256 ^ (i % 8))

end Sys2Proof.Machine
end

