-- ==== Sys2Proof/Machine/Domain.lean ====
section
/-! DEFINITION. The memory domain (R261 to R298): port map, windows, port training, lost targets, and the issue of
requests. -/

namespace Sys2Proof.Machine

/-! ### The port map (R262, R263) -/

/-- The rows of a port map's value: role and peer of each of 64 ports. -/
def portMapRows (b : List Byte) : List (Nat × Nat) := (List.range 64).map fun p => (field b (2 * p) 1, field b (2 * p + 1) 1)

/-- The value of the port map in force (OD 0x8001.01). -/
def State.portMapBytes (s : State) : List Byte :=
  (List.range 64).flatMap fun p => leBytes 1 (s.portRole p).1 ++ leBytes 1 (s.portRole p).2

/-- The shadow of the port map. -/
def State.portMapShadow (s : State) : List Byte := (SMap.lookup s.blobShadows.entries 0x800101).getD s.portMapBytes

/-- The first check of R262 that a map fails, 0 when it passes all. -/
def State.portMapStatus (s : State) (rows : List (Nat × Nat)) : Nat :=
  let peers := (rows.filter fun r => r.1 = 1).map (·.2)
  if rows.any fun r => 2 < r.1 || (r.1 = 1 && (47 < r.2 || r.2 = s.deviceId)) then 2
  else if peers.eraseDups.length ≠ peers.length then 3
  else if (List.range 64).any fun p => rows.getD p (0, 0xFF) ≠ s.portRole p && (s.port p).state ≠ .down then 4
  else 0

/-- The commit of OD 0x80FF.00 (R262, R420): the answer's status, and the state after it. -/
def State.domainCommitOp (s : State) (value : Nat) : Nat × State :=
  if value ≠ 1 then (5, s)
  else
    let rows := portMapRows s.portMapShadow
    let st := s.portMapStatus rows
    let s1 := s.setReg 0x800102 st
    if st ≠ 0 then (1, s1)
    else (1, { s1 with domain := { s1.domain with portMap := ⟨rows.mapIdx fun p r => (p, r)⟩ } })

/-- DOMAIN_COMMIT (R262). -/
def execDomainCommit (value : Nat) (s : State) : Result := .next (s.domainCommitOp value).2

/-! ### Windows (R268, R272) -/

/-- Whether an extent lies wholly in HBM3, in one tower's scratch aperture, or in cluster-memory apertures (R272
check 5). -/
def windowTarget (base size : Nat) : Bool :=
  match placeOf base, placeOf (base + size - 1) with
  | .hbm _ _, .hbm _ _ => true
  | .scratch t _, .scratch u _ => t = u
  | .cluster _ _, .cluster _ _ => true
  | _, _ => false

/-- Check 4 of R272: the field rules of R268 (R355 has the same fields), and both ranges end within 2^40. -/
def Window.fieldsGood (w : Window) : Bool :=
  w.vdev ≤ 47 && w.tdev ≤ 47 &&
  w.vbase % 4096 = 0 && w.tbase % 4096 = 0 && w.size % 4096 = 0 && 4096 ≤ w.size && w.vbase + w.size ≤ 2 ^ 40 &&
  w.tbase + w.size ≤ 2 ^ 40

/-- A window's payload: the entry, then its complement. -/
def windowOfPayload (b : List Byte) : Window :=
  { entry := BitVec.ofNat 256 (field b 0 32), complement := BitVec.ofNat 256 (field b 32 32) }

/-- A window as it is loaded: its reserved bits, [7:6], [63:34] and [255:184], read as zero (R10, R268). -/
def Window.loaded (w : Window) : Window :=
  let e := w.entry &&& ~~~((0x3#256 <<< 6) ||| (0x3FFFFFFF#256 <<< 34) ||| (0xFFFFFFFFFFFFFFFFFF#256 <<< 184))
  { entry := e, complement := ~~~e }

/-- Checks 3 to 7 of R272 on a payload; an empty one fails check 4, and an entry with VALID clear is checked no further
than check 3. -/
def State.windowStatus (s : State) (b : List Byte) : Nat :=
  let w := windowOfPayload b
  if b = [] then 4
  else if w.complement ≠ ~~~w.entry then 3
  else if winField w.entry 0 0 = 0 then 0
  else if !w.fieldsGood then 4
  else if !windowTarget w.tbase w.size then 5
  else if w.tdev ≠ s.deviceId && (s.portOf w.tdev).isNone then 6
  else
    let lost : Bool := match s.portOf w.tdev with
      | some p => decide ((s.port p).state = .lost && w.tdev ≠ s.deviceId)
      | none => false
    if lost then 7 else 0

/-- The commit of OD 0x81FF.00 (R272). A payload whose complement fails is a mismatch of a critical value too (R173; DEDUCED, log
100). -/
def State.windowCommitOp (s : State) (value : Nat) : Nat × State :=
  if value ≠ 1 then (5, s)
  else
    let x := s.shadow 0x810001
    let st := if (s.ctx x).state = .closed then 2 else s.windowStatus (s.blobShadow 0x810003)
    let s0 := if st = 3 then s.criticalMismatch 3 (windowKey x (s.shadow 0x810002)) else s
    let s1 := s0.setReg 0x810004 st
    if st ≠ 0 then (1, s1)
    else
      let b := s.blobShadow 0x810003
      (1, ({ (s1.commitRegs [0x810001, 0x810002]).setBlob 0x810003 b with
        domain := { s1.domain with windows := s1.domain.windows.set (windowKey x (s.shadow 0x810002)) (windowOfPayload b).loaded } }))

/-- WINDOW_COMMIT (R272). -/
def execWindowCommit (value : Nat) (s : State) : Result := .next (s.windowCommitOp value).2

/-! ### The fabric block and HELLO (R315, R317) -/

/-- Membership mask in force (OD 0x8200.04): by default this device's own ID only. -/
def State.memberMask (s : State) : Nat := (SMap.lookup s.regs.entries 0x820004).getD (2 ^ s.deviceId)

/-- The fabric block (R315). -/
def State.fabricBlock (s : State) : List Byte :=
  padTo 128 (leBytes 2 (s.reg 0x820003) ++ leBytes 2 s.domainId ++ leBytes 4 (s.reg 0x820002) ++ leBytes 8 s.memberMask ++
    leBytes 4 (s.reg 0x801004) ++ leBytes 4 (s.reg 0x801003) ++ leBytes 4 (s.reg 0x801002) ++ leBytes 4 20 ++ leBytes 4 20 ++
    leBytes 4 1000 ++ leBytes 4 10000 ++ leBytes 4 4096)

/-- The domain digest (R315, OD 0x8200.06). -/
def State.localDigest (s : State) : List Byte := shake256 s.fabricBlock

/-- The HELLO that this Dreuth sends (R317). -/
def State.localHello (s : State) : Hello :=
  { device := s.deviceId
    domain := s.domainId
    level := s.reg 0x820003
    epoch := s.reg 0x820002
    mask := s.memberMask
    digest := s.localDigest
    fenced := s.clocks.fenced }

/-- Send HELLO on a port. -/
def State.sendHello (s : State) (p : Nat) : State :=
  (s.modPort p fun k => { k with helloAt := s.now }).wire (.hello p s.localHello)

/-- A port begins its join (R317 step 1). Its HELLO answers the peer's, if one waits for an answer. -/
def State.startJoin (s : State) (p : Nat) : State :=
  ((s.modPort p fun k =>
    { k with lostJoin := decide (k.state = .lost), helloDue := false, asked := k.peerHello.isNone }).setPortState p .joining).sendHello p

/-! ### Lost targets (R292 to R294) -/

/-- The contexts that hold a VALID window to a device, each once. -/
def State.windowHolders (s : State) (device : Nat) : List Nat :=
  ((s.domain.windows.entries.filter fun e => e.1 < 65536 && e.2.inForce && e.2.tdev = device).map fun e => e.1 / 64).eraseDups

/-- Freeze every request of a port that has no reply (R293 step 2, R294). -/
def State.freezePort (s : State) (p : Nat) : State :=
  { s with domain := { s.domain with
      outstanding := s.domain.outstanding.map fun o => if o.port = p then { o with frozen := true, waitUntil := none } else o } }

/-- Contexts with a frozen request on a port. -/
def State.frozenAt (s : State) (p : Nat) : List Nat :=
  (((s.domain.outstanding.filter fun o => o.port = p && o.frozen).flatMap fun o => o.parts.map (·.ctx)).filter
    (· < 1024)).eraseDups

/-- A peer is declared a lost target (R293 steps 2 and 3). -/
def State.declareLost (s : State) (p : Nat) : State :=
  if (s.port p).state = .lost then s
  else
    let device := (s.portRole p).2
    let holders := s.windowHolders device
    let s1 := ((s.setPortState p .lost).modPort p fun k => { k with back := none, resendDue := false, waiting := [] }).freezePort p
    let s2 := (s1.countReg 0x800301 32 1).raise 0x1501 0 (edgeUnit p)
      (leBytes 1 p ++ leBytes 1 device ++ leBytes 2 holders.length ++ ((holders.take 94).flatMap fun x => leBytes 2 x))
    (s2.frozenAt p).foldl (fun s x => s.beginStop x) s2

/-- PORT_HEARTBEAT_LOSS (R292, R299): neither light nor a heartbeat for 20 µs. -/
def execPortHeartbeatLoss (port : Nat) (s : State) : Result :=
  let k := s.port port
  let role := (s.portRole port).1
  if k.light || s.now < k.lastHeard + 20000 then .next s
  else if role = 1 && (k.state = .up || k.state = .demoted || k.state = .joining || (k.state = .training && k.back.isSome)) then
    .next (s.declareLost port)
  else if role = 2 && (k.state = .msg || (k.state = .training && k.back.isSome)) then
    .next ((s.setPortState port .down).modPort port fun q => { q with back := none, retraining := false })
  else .next s

/-- RESET_NOTICE (R292): the peer announces its reset. A LOST port discards it. -/
def execResetNotice (port : Nat) (s : State) : Result :=
  let s := s.heard port 4 1
  let st := (s.port port).state
  if (s.portRole port).1 = 1 && (st = .up || st = .demoted || st = .joining) then .next (s.declareLost port) else .next s

/-! ### Port training (R264, R265, R290, R299, R304) -/

/-- Number the messages that wait in a hop buffer from 0: the first training after DOWN (R304). -/
def State.renumberHop (s : State) (p : Nat) : State :=
  s.modPort p fun k =>
    { k with
      hop := k.hop.mapIdx fun i e => ({ e with mseq := i, message := { e.message with mseq := i }, last := none } : HopEntry)
      mseqNext := k.hop.length
      mseqAccepted := 0 }

/-- A port's training is complete (R264): streams restart at SEQ 0, both ends' replay
buffers are empty, and credits count afresh (DEDUCED, log 108). A port that was UP or MSG returns there and re-sends
what has no reply and no acknowledgement; a LOST port, and one that was DOWN, joins. -/
def State.portTrained (s : State) (p : Nat) : State :=
  let k := s.port p
  let s1 := s.modPort p fun q =>
    { q with
      retraining := false
      asked := false
      peerHello := none
      everTrained := true
      retrains := if q.everTrained then satAdd 32 q.retrains 1 else q.retrains
      lastHeard := s.now
      nextSeq := 0
      nakSeq := 0
      naks := 0
      replay := []
      spent := ⟨[]⟩
      credited := ⟨[]⟩
      rxSeq := 0
      freed := ⟨[]⟩
      rxReported := 0
      hop := q.hop.map fun h => { h with last := none }
      waiting := if q.state = .training && q.back.isNone then [] else q.waiting }
  match k.state, k.back with
  | .training, some st =>
    (((s1.setPortState p st).modPort p fun q => { q with back := none, resendDue := decide (st = .up) }).resendHop p).drainPort p
  | .training, none =>
    let s2 := s1.renumberHop p
    if (s.portRole p).1 = 2 then (s2.setPortState p .msg).resendHop p else s2.startJoin p
  | .lost, _ => s1.startJoin p
  | .demoted, _ => ((s1.modPort p fun q => { q with resendDue := true }).resendHop p).drainPort p
  | _, _ => s1

/-- A port's training answer of WRONG names positions (R252): its elements there that see another channel's tone relock; where none
does, its receiving DROP ring. -/
def State.wrongAtPort (s : State) (p mask : Nat) : State :=
  let at_ := fun (cls w : Nat) => elementId cls (7 + p / 16) (32 + p % 16) 0 w
  ((List.range 16).filter fun w => Nat.testBit mask w).foldl (fun s w =>
    let bad := [at_ 0 w, at_ 1 w].filter fun e => match (s.ring e).tone with | some t => t ≠ w | none => false
    if bad = [] then s.ringWrong (at_ 1 w) 0xFF
    else bad.foldl (fun s e => s.ringWrong e (((s.ring e).tone).getD 0xFF)) s) s

/-- PORT_TRAINING (R264, R299). No port trains before a port map has been committed (R441), nor in service mode (R446). -/
def execPortTraining (port : Nat) (step : PortTrainingStep) (s : State) : Result :=
  let k := s.port port
  if (s.portRole port).1 = 0 then .next s
  else
    match step with
    | .light =>
      let s1 := s.modPort port fun q => { q with light := true, lastHeard := s.now }
      if s.domain.portMap.entries = [] || s.boot.serviceMode then .next s1
      else if k.state = .down then
        .next ((s1.setPortState port .training).modPort port fun q => { q with back := none, retraining := true })
      else if k.light then .next s1
      else .next (s1.startRetrain port)
    | .lightLost =>
      if k.light then .next (s.modPort port fun q => { q with light := false, lastHeard := s.now }) else .next s
    | .naks => if 8 ≤ k.naks then .next (s.startRetrain port) else .next s
    | .wavelengthDropped =>
      if k.wavelengths = 15 && !k.retraining && k.state ≠ .down then .next (s.startRetrain port) else .next s
    | .done => if k.retraining && k.light then .next (s.portTrained port) else .next s
    | .wrong mask => if k.retraining then .next (s.wrongAtPort port mask) else .next s

/-! ### Issue (R269, R277, R279) -/

/-- Whether a request has a form that the domain carries (R274 to R277). -/
def requestForm (q : Req) : Bool :=
  if q.op = 0x20 then 1 ≤ q.len && q.len ≤ 4096
  else if q.op = 0x21 then 1 ≤ q.data.length && q.addr % 128 + q.data.length ≤ 128 && q.data.length ≤ 64
  else if q.op = 0x22 then true
  else if q.op = 0x60 then 1 ≤ q.data.length && q.data.length ≤ 4096
  else isAtomic q.op && q.data.length = (if q.op = 0x2C then 2 * atomicSize q else atomicSize q)

/-- One descriptor of a multicast (R203): context, address, reference and amount, if VALID. -/
def descriptorOf (b : List Byte) (i : Nat) : Option McTarget :=
  let d := subBytes b (16 * i) 16
  if field d 0 1 < 128 then none
  else some ({ slot := 0, ctx := field d 2 2 % 1024, addr := field d 4 6, ref := BitVec.ofNat 24 (field d 10 3), refAmt := field d 13 1 } : McTarget)

/-- Translate a descriptor that names a domain address (R279, R273): permission W for the data, T for the increment, whose
tally must lie on the data's device. -/
def State.translateTarget (s : State) (x n : Nat) (t : McTarget) : Except Nat (Translated × McTarget) :=
  match s.translate x t.addr n .w with
  | .error code => .error code
  | .ok a =>
    let t1 : McTarget := { t with ctx := a.tctx, addr := a.offset }
    if t.refAmt = 0 then .ok (a, { t1 with ref := 0 })
    else
      match s.translate x (refAddress t.ref) 4 .t with
      | .error code => .error code
      | .ok b => if b.device = a.device then .ok (a, { t1 with ref := refAtTarget b.offset }) else .error 0x0403

/-- The first error of a list of results, or all its values. -/
def allOk {α : Type} : List (Except Nat α) → Except Nat (List α)
  | [] => .ok []
  | .error c :: _ => .error c
  | .ok a :: l =>
    match allOk l with
    | .error c => .error c
    | .ok as => .ok (a :: as)

/-- The targets of a multicast that lie behind edge group `e` wait there as one packet (R279). -/
def State.multicastVia (s : State) (packet : Packet) (l : List (Translated × McTarget)) (e : Nat) : State :=
  let far := l.filterMap fun (a : Translated × McTarget) =>
    if a.1.device = s.deviceId then none
    else match s.portOf a.1.device with
      | some p => if p / 16 = e then
          some ({ a.2 with slot := 7 + e, addr := 2 ^ 40 * a.1.device + a.2.addr } : McTarget) else none
      | none => none
  if far = [] then s
  else
    let p : Packet := { packet with
      dst := 7 + e, targets := far, req := { packet.req with op := 0x23, nocomb := true } }
    { s with domain := { s.domain with dmc := s.domain.dmc.modify [] e fun k => k ++ [p] } }

/-- The targets of a multicast that are the first to name their site (R203: each valid descriptor names another slot). -/
def firstOfSlot : List Nat → List McTarget → List McTarget
  | _, [] => []
  | seen, t :: l => if seen.contains t.slot then firstOfSlot seen l else t :: firstOfSlot (t.slot :: seen) l

/-- Write a packet's payload on its own tower; what is held settles when it is applied. -/
def State.writeHere (s : State) (q : Req) (r : Requester) : State :=
  match s.performWrite q r with
  | (.stalled, s1) => s1
  | (a, s1) => s1.settleWrite q a

/-- A multicast's targets on this Dreuth (R198, R203, R204): on its own tower the payload is written at once; two or more at different
sites make one packet; a site's further targets, and a single one, have the payload as unicast packets (DEDUCED, log 104). -/
def State.multicastHere (s : State) (x c : Nat) (packet : Packet) (l : List McTarget) : State :=
  let own := l.filter fun t => t.slot = packet.src
  let far := l.filter fun t => t.slot ≠ packet.src
  let first := firstOfSlot [] far
  let group := if 2 ≤ first.length then first else []
  let s1 := own.foldl (fun s t => s.writeHere (unicastTo packet t).req (s.requesterAt x c)) s
  let s2 := if group = [] then s1 else s1.toOutbox [{ packet with targets := group }]
  s2.toOutbox ((group.foldl (fun m t => m.erase t) far).map (unicastTo packet))

/-- A multicast that names domain addresses (R279, R319): `q.data` is the 64 bytes of descriptors and the payload, of 1 to 32 data
flits (R203). Its targets on this Dreuth go under R204; those on other devices go as one DMC_WRITE to each edge group that serves
them. The slot in a descriptor is formed from its address (R198). -/
def State.issueMulticast (s : State) (x c : Nat) (q : Req) : Option Nat × State :=
  let payload := q.data.drop 64
  match allOk (((List.range 4).filterMap (descriptorOf q.data)).map (s.translateTarget x payload.length)) with
  | .error code => (some code, s)
  | .ok l =>
    let demoted := l.any fun e =>
      e.1.device ≠ s.deviceId &&
        (match s.portOf e.1.device with | some p => decide ((s.port p).state = .demoted) | none => false)
    if l.length < 2 || payload = [] || 4096 < payload.length then (none, s)
    else if demoted then (some 0x040B, s)
    else
      let packet : Packet :=
        { src := c / 200
          dst := 0
          vc := 3
          stand := false
          crit := false
          req := { q with op := 0x61, data := payload, origin := .member x c, ctx := x, rid := BitVec.allOnes 32, ticket := none }
          targets := []
          pseq := 0
          stamp := 0 }
      let here := (l.filter fun e => e.1.device = s.deviceId).map fun e => { e.2 with slot := siteOfOffset e.2.addr }
      if here.any fun t => t.slot = c / 200 && s.stallsForPartition t.addr payload.length then (some stallCode, s)
      else (none, (List.range 4).foldl (fun s e => s.multicastVia packet l e) (s.multicastHere x c packet here))

/-- DOMAIN_REQUEST_ISSUE (R267, R269, R270): a request of context `x` by its cluster `c`; its result is delivered at the
local address `r.tag`. -/
def execDomainRequestIssue (x c : Nat) (r : Req) (s : State) : Result :=
  if s.working c ≠ some x then .next s
  else if r.op = 0x23 then
    match s.issueMulticast x c r with
    | (some code, s1) =>
      if code = stallCode then .next s else .next (s1.faultAt x c code noEngine (addressDetail (field r.data 4 6)))
    | (none, s1) => .next s1
  else if !requestForm r then .next s
  else
    let addr := if r.op = 0x22 then refAddress r.ref else r.addr
    let part : Part := ⟨x, c, noEngine, .deliver r.tag, subBytes r.data 0 (atomicSize r), s.now, addr⟩
    match s.issueRequest { r with origin := .member x c, ctx := x, ticket := none } part (s.requesterAt x c) with
    | (.error code, s1) =>
      if code = stallCode then .next s else .next (s1.faultAt x c code noEngine (addressDetail addr))
    | (.sent, s1) => .next s1
    | (a, s1) => .next (s1.completePart part a)

/-- DMC_WRITE (R279): the edge group's port engines send each target its own BULK_WRITE; nothing is reserved. -/
def execDmcWrite (edge : Nat) (s : State) : Result :=
  match s.domain.dmc.get [] edge with
  | [] => .next s
  | p :: rest =>
    let s1 := { s with domain := { s.domain with dmc := s.domain.dmc.set edge rest } }
    let (x, c) := match p.req.origin with | .member x c => (x, c) | _ => (0xFFFF, noCluster)
    .next (p.targets.foldl (fun s t =>
      let device := t.addr / 2 ^ 40
      match s.portOf device with
      | none => s.faultCtx x 0x0403 c noEngine (addressDetail t.addr) (s.memberRing x c)
      | some port =>
        let q := { p.req with op := 0x60, ctx := t.ctx, addr := t.addr % 2 ^ 40, ref := t.ref, refAmt := t.refAmt, rid := 0 }
        let part : Part := ⟨x, c, noEngine, .multicast, [], s.now, t.addr⟩
        match s.issueRemote port { win := 0, device := device, offset := t.addr % 2 ^ 40, tctx := t.ctx, noComb := true } q part with
        | (some code, s2) => s2.faultCtx x code c noEngine (addressDetail t.addr) (s2.memberRing x c)
        | (none, s2) => s2) s1)

end Sys2Proof.Machine
end

