-- ==== Sys2Proof/Machine/Home.lean ====
section
/-! DEFINITION. Requests of peers at their home (R281 to R291): reply caches, combining, line queues and tickets, and
their performance. -/

namespace Sys2Proof.Machine

/-! ### Arrival (R281, R289, R291, R294, R319) -/

/-- The RETRY that answers a request (R286, R287). -/
def retryReply (q : Req) (ticket : Option Nat) : Reply :=
  { op := 0x43, rsp := { rid := q.rid, tag := q.tag, data := [], ticket := ticket, code := 0 } }

/-- A new request takes its reply-cache entry (R289). -/
def State.takeEntry (s : State) (p : Nat) (q : Req) : State :=
  { s with domain := { s.domain with
      replies := s.domain.replies.set (s.cacheKey p q.rid)
        ({ state := .pending, rid := q.rid, reply := none, at_ := s.now } : ReplyEntry) } }

/-- The tower that a request reaches, if it reaches one. -/
def towerOfReq (q : Req) : Option Nat :=
  if q.op = 0x22 then some (refCluster q.ref / 200)
  else if siteOfOffset q.addr ≤ 3 then some (siteOfOffset q.addr) else none

/-- Whether the edge groups turn a request away because its tower is fenced or in reset (R340). -/
def State.towerFenced (s : State) (q : Req) : Bool :=
  match towerOfReq q with
  | some t => decide ((s.die (0x10 + t)).state ≠ .ready)
  | none => false

/-- The LOAD from another source, less than 256 ns older, that a LOAD that arrives joins, unless a write to the extent has come
between (R281). -/
def State.homeLoadFor (s : State) (q : Req) : Option HomeLoad :=
  s.domain.homeLoads.find? fun h =>
    !q.nocomb && !h.load.nocomb && h.load.addr = q.addr && h.load.len = q.len && h.load.origin ≠ q.origin &&
      decide (s.now ≤ h.at_ + 256) && (match h.result with | some d => s.held q.addr q.len = d | none => true)

/-- A LOAD joins an older one (R281): one that waits is answered with it, one that was performed gives its data. -/
def State.joinHomeLoad (s : State) (q : Req) (h : HomeLoad) : State :=
  let s1 := s.countReg 0x801106 64 1
  match h.result with
  | some d => s1.answerOrigin q (.data d)
  | none => { s1 with domain := { s1.domain with
      homeLoads := s1.domain.homeLoads.map fun g =>
        if g.load = h.load && g.result = none then { g with joined := g.joined ++ [q] } else g } }

/-- A LOAD arrives: it has no reply-cache entry (R288). -/
def State.loadArrives (s : State) (p : Nat) (q : Req) : State :=
  let s0 := { s with domain := { s.domain with
    homeLoads := s.domain.homeLoads.filter fun h => h.result.isNone || decide (s.now ≤ h.at_ + 256) } }
  match s0.homeLoadFor q with
  | some h => s0.joinHomeLoad q h
  | none =>
    match s0.admitRequest q with
    | (some tk, s1) => s1.wire (.reply p (retryReply q tk))
    | (none, s1) => { s1 with domain := { s1.domain with
        homeLoads := s1.domain.homeLoads ++ [({ at_ := s.now, load := { q with ticket := none }, joined := [], result := none } : HomeLoad)] } }

/-- A new request that carries a RID goes to its home: a BULK_WRITE crosses the rig as a packet; any other goes to its home
slice, or is answered RETRY, which leaves the reply-cache entry as it was (R289). -/
def State.newArrives (s : State) (p : Nat) (q : Req) : State :=
  if q.op = 0x60 then
    (s.takeEntry p q).toOutbox [({
      src := 7 + p / 16
      dst := siteOfOffset q.addr
      vc := 3
      stand := false
      crit := false
      req := { q with ticket := none }
      targets := []
      pseq := 0
      stamp := 0 } : Packet)]
  else
    match s.admitRequest q with
    | (some tk, s1) => s1.wire (.reply p (retryReply q tk))
    | (none, s1) => s1.takeEntry p q

/-- REQUEST_ARRIVAL (R289, R291, R294, R319): duplicates are found before anything else. -/
def execRequestArrival (port : Nat) (r : Req) (s : State) : Result :=
  let s := if r.op = 0x60 then s.heard port 3 (flitsOf r.data.length) else s.heard port 1 1
  let k := s.port port
  let q := { r with origin := .peer port, addr := r.addr % 2 ^ 40 }
  let demoted := decide (k.state = .demoted)
  if (s.portRole port).1 ≠ 1 || (k.state ≠ .up && !demoted) || !requestForm r then .next s
  else if r.op = 0x20 then
    if demoted then .next (s.wire (.reply port (responseTo q (.error 0x040B))))
    else if s.towerFenced q then .next (s.wire (.reply port (responseTo q (.error 0x0701))))
    else .next (s.loadArrives port q)
  else
    let e := s.domain.replies.get {} (s.cacheKey port r.rid)
    if e.state ≠ .free && e.rid = r.rid then
      match e.state, e.reply with
      | .replied, some a => .next ((s.countReg 0x801103 64 1).wire (.reply port a))
      | .expired, _ => .next ((s.countReg 0x801105 32 1).wire (.reply port
          { op := 0x45, rsp := { rid := r.rid, tag := r.tag, data := [], ticket := none, code := 0 } }))
      | _, _ => .next (s.countReg 0x801104 64 1)
    else if e.state ≠ .free && !ridOlder e.rid r.rid then .next (s.countReg 0x801104 64 1)
    else if demoted then .next ((s.takeEntry port q).answerPeer port q (.error 0x040B))
    else if s.towerFenced q then .next ((s.takeEntry port q).answerPeer port q (.error 0x0701))
    else .next (s.newArrives port q)

/-! ### Performance (R154, R274, R276, R277) -/

/-- The answers of a request at its home go out; those that joined a LOAD get the same (R281). -/
def State.finishHome (s : State) (q : Req) (a : Answer) : State :=
  let s1 := s.answerOrigin q a
  if q.op ≠ 0x20 then s1
  else
    match s1.domain.homeLoads.find? fun h => h.load = q && h.result = none with
    | none => s1
    | some h =>
      let s2 := h.joined.foldl (fun s r => s.answerOrigin r a) s1
      { s2 with domain := { s2.domain with
          homeLoads := s2.domain.homeLoads.filterMap fun g =>
            if g.load = q && g.result = none then
              match a with
              | .data d => some { g with joined := [], result := some d }
              | _ => none
            else some g } }

/-- A LOAD is held (R141): those that joined it go their own way. -/
def State.partHomeLoad (s : State) (q : Req) : State :=
  match s.domain.homeLoads.find? fun h => h.load = q && h.result = none with
  | none => s
  | some h =>
    { s with domain := { s.domain with
        ready := s.domain.ready ++ h.joined
        homeLoads := s.domain.homeLoads.filter fun g => g.load ≠ q || g.result ≠ none } }

/-- Whether the target exists (R149). -/
def State.targetExists (s : State) (q : Req) : Bool :=
  if q.op = 0x22 then refCluster q.ref < 800 else s.extentPopulated q.addr (max 1 (requestLength q))

/-- Whether a request cannot be performed yet: a partition change stalls its range (R159), the hold buffer that it
would enter is full (R196), or the increment of a copy comes after its data (R278). -/
def State.notYet (s : State) (q : Req) : Bool :=
  if q.op = 0x22 && q.data ≠ [] then s.writesBefore q
  else (q.op ≠ 0x22 && s.stallsForPartition q.addr (requestLength q)) || s.mustWait q

/-- Perform one request, or answer that its target does not exist. -/
def State.performOne (s : State) (q : Req) : Answer × State :=
  if !s.targetExists q then (.error 0x0306, s) else s.performRequest q (s.originRequester q)

/-- Perform the request at a position of the ready list, where its opcode is one of those named. -/
def State.performReady (s : State) (position op : Nat) : State :=
  match s.domain.ready[position]? with
  | none => s
  | some q =>
    if q.op ≠ op || s.notYet q then s
    else
      let s0 := { s with domain := { s.domain with ready := dropAt position s.domain.ready } }
      match s0.performOne q with
      | (.stalled, s1) => s1.partHomeLoad q
      | (a, s1) => s1.finishHome q a

/-- LOAD (R277). -/
def execLoad (position : Nat) (s : State) : Result := .next (s.performReady position 0x20)

/-- STORE (R277). -/
def execStore (position : Nat) (s : State) : Result := .next (s.performReady position 0x21)

/-- TALLY_INC (R126, R277). -/
def execTallyInc (position : Nat) (s : State) : Result := .next (s.performReady position 0x22)

/-- ADD (R276). -/
def execAdd (position : Nat) (s : State) : Result := .next (s.performReady position 0x28)

/-- MIN (R276). -/
def execMin (position : Nat) (s : State) : Result := .next (s.performReady position 0x29)

/-- MAX (R276). -/
def execMax (position : Nat) (s : State) : Result := .next (s.performReady position 0x2A)

/-- SWAP (R276). -/
def execSwap (position : Nat) (s : State) : Result := .next (s.performReady position 0x2B)

/-- CAS (R276). -/
def execCas (position : Nat) (s : State) : Result := .next (s.performReady position 0x2C)

/-- OR (R276). -/
def execOr (position : Nat) (s : State) : Result := .next (s.performReady position 0x2D)

/-- AND (R276). -/
def execAnd (position : Nat) (s : State) : Result := .next (s.performReady position 0x2E)

/-- FADD32 (R276). -/
def execFadd32 (position : Nat) (s : State) : Result := .next (s.performReady position 0x2F)

/-- BADD16 (R276). -/
def execBadd16 (position : Nat) (s : State) : Result := .next (s.performReady position 0x30)

/-- IADD32 (R276). -/
def execIadd32 (position : Nat) (s : State) : Result := .next (s.performReady position 0x31)

/-! ### Line queues (R282, R283, R285) -/

/-- The bytes of a line that merged STOREs write, later ones over earlier ones (R283). -/
def mergedBytes (parts : List Req) : List (Option Byte) :=
  parts.foldl (fun l q => (List.range q.data.length).foldl (fun l i => l.set (q.addr % 128 + i) (some (q.data.getD i 0))) l)
    (List.replicate 128 none)

/-- The runs of consecutive bytes in a line: offset of each run and its bytes. -/
def runsOf : Nat → List (Option Byte) → List (Nat × List Byte)
  | _, [] => []
  | n, none :: l => runsOf (n + 1) l
  | n, some b :: l =>
    match runsOf (n + 1) l with
    | (m, d) :: rest => if m = n + 1 then (n, b :: d) :: rest else (n, [b]) :: (m, d) :: rest
    | [] => [(n, [b])]

/-- Store one run of a merged write, unless one before it has failed. -/
def storeRun (line : Nat) (r : Answer × State) (run : Nat × List Byte) : Answer × State :=
  match r.1 with
  | .error code => (.error code, r.2)
  | _ =>
    match r.2.storeRange (128 * line + run.1) run.2 {} with
    | (none, s2) => (.ack, s2)
    | (some code, s2) => (.error code, s2)

/-- Write merged STOREs as one line write (R283): the answer that every constituent gets. -/
def State.storeMerged (s : State) (line : Nat) (parts : List Req) : Answer × State :=
  (runsOf 0 (mergedBytes parts)).foldl (storeRun line) (.ack, s)

/-- Apply one entry for all its constituents: their answers, in order (R282, R283). -/
def State.applyEntry (s : State) (line : Nat) (parts : List Req) : List Answer × State :=
  match parts with
  | [] => ([], s)
  | [q] =>
    match s.performOne q with
    | (a, s1) => ([a], s1)
  | q :: rest =>
    if q.op = 0x21 then
      if s.targetExists q then
        let (a, s1) := s.storeMerged line parts
        (parts.map fun _ => a, s1)
      else (parts.map fun _ => .error 0x0306, s)
    else
      let operand := rest.foldl (fun d r => combineOperand q.op q.signed d r.data) q.data
      match s.performOne { q with data := operand } with
      | (.old old, s1) => ((serialOlds q (parts.map (·.data)) old).map Answer.old, s1)
      | (a, s1) => (parts.map fun _ => a, s1)

/-- Whether an entry's lines are being accessed, or an earlier entry of another queue waits for some of them (R154, R285). -/
def State.entryBlocked (s : State) (line : Nat) (e : QueueEntry) : Bool :=
  match e.parts.head?.bind homeLines with
  | none => false
  | some (a, b) => s.domain.ready.any (touchesLines a b) || (s.besides line a b).any fun k => decide (k.order < e.order)

/-- LINE_QUEUE_APPLY (R285): the next entry of a line's queue is applied, and the place that frees is reserved for the
lowest ticket (R286). An access under way on the line comes first. -/
def execLineQueueApply (line : Nat) (s : State) : Result :=
  let k := s.lineQueue line
  match k.entries with
  | [] => .next s
  | e :: rest =>
    if s.entryBlocked line e || e.parts.any s.notYet then .next s
    else
      let (answers, s1) := s.applyEntry line e.parts
      let s2 := s1.setLineQueue line ({ k with entries := rest }.reserve s.now none)
      .next (((e.parts.zip answers).foldl (fun s a => s.finishHome a.1 a.2) s2).presentOwn line)

/-- TICKET_RESERVATION_EXPIRY (R286): the place passes to the next ticket; the one that missed it keeps its rank. -/
def execTicketReservationExpiry (line : Nat) (s : State) : Result :=
  let k := s.lineQueue line
  match k.tickets.find? fun t => match t.reserved with | some u => decide (u ≤ s.now) | none => false with
  | none => .next s
  | some h =>
    let k1 := { k with tickets := k.tickets.map fun (t : TicketHeld) => if t.ticket = h.ticket then ({ t with reserved := none } : TicketHeld) else t }
    .next ((s.setLineQueue line (k1.reserve s.now (some h.ticket))).presentOwn line)

/-- TICKET_LAPSE (R286): a ticket not presented within 200 µs. A request of this Dreuth presents its own all the time. -/
def execTicketLapse (line ticket : Nat) (s : State) : Result :=
  let k := s.lineQueue line
  match k.tickets.find? fun t => t.ticket = ticket && !s.holdsTicket line ticket && decide (t.at_ + 200000 ≤ s.now) with
  | none => .next s
  | some h =>
    let k1 := { k with tickets := k.tickets.filter fun t => t.ticket ≠ ticket }
    .next ((s.setLineQueue line (if h.reserved.isSome then k1.reserve s.now none else k1)).countReg 0x801204 32 1)

/-- REPLY_CACHE_EXPIRY (R289): 128 µs after the reply. -/
def execReplyCacheExpiry (device entry : Nat) (s : State) : Result :=
  let key := 4096 * device + entry % 4096
  let e := s.domain.replies.get {} key
  if e.state = .replied && e.at_ + 1000 * s.reg 0x801003 ≤ s.now then
    .next { s with domain := { s.domain with replies := s.domain.replies.set key { e with state := .expired } } }
  else .next s

/-! ### Responses (R274, R286, R287, R290) -/

/-- The request that a response on a port answers: by the TAG and RID it echoes (R274). Nothing answers a frozen request
(R294), and a LOST port discards what arrives. -/
def State.answered (s : State) (port : Nat) (rsp : Rsp) : Option Outstanding :=
  let st := (s.port port).state
  if st = .up || st = .demoted then
    s.domain.outstanding.find? fun o =>
      o.port = port && !o.frozen && o.rid = some rsp.rid && o.handle % 4294967296 = rsp.tag
  else none

/-- A response that completes its request, where it is of the kind that the request takes. -/
def State.respond (s : State) (port : Nat) (rsp : Rsp) (fits : Req → Bool) (a : Answer) : State :=
  match s.answered port rsp with
  | some o => if fits o.req then s.finishOutstanding o a else s
  | none => s

/-- LOAD_DATA (R274). -/
def execLoadData (port : Nat) (rsp : Rsp) (s : State) : Result :=
  .next ((s.heard port 2 (flitsOf rsp.data.length)).respond port rsp (fun q => q.op = 0x20 && rsp.data.length = q.len) (.data rsp.data))

/-- ACK (R274). -/
def execAck (port : Nat) (rsp : Rsp) (s : State) : Result :=
  .next ((s.heard port 2 1).respond port rsp (fun q => q.op = 0x21 || q.op = 0x22 || q.op = 0x60) .ack)

/-- OLD (R274, R282): split among the constituents. -/
def execOld (port : Nat) (rsp : Rsp) (s : State) : Result :=
  .next ((s.heard port 2 1).respond port rsp (fun q => isAtomic q.op && rsp.data.length = atomicSize q) (.old rsp.data))

/-- ERROR (R274): the requester takes the code that it carries. -/
def execError (port : Nat) (rsp : Rsp) (s : State) : Result :=
  .next ((s.heard port 2 1).respond port rsp (fun _ => true) (.error rsp.code))

/-- EXPIRED (R289). -/
def execExpired (port : Nat) (rsp : Rsp) (s : State) : Result :=
  .next ((s.heard port 2 1).respond port rsp (fun q => carriesRid q.op) (.error 0x0408))

/-- When a request is abandoned (R290): 100 µs after its issue or the last RETRY. -/
def State.deadline (s : State) (o : Outstanding) : Nat := max o.issued (o.lastRetry.getD 0) + 1000 * s.reg 0x801002

/-- Send a request again, if its port carries requests. -/
def State.resendNow (s : State) (o : Outstanding) : State :=
  let st := (s.port o.port).state
  let s1 := s.modOutstanding o.handle fun k => { k with waitUntil := none }
  if o.port = 0xFF then s1.presentKept o.handle
  else if st = .up || st = .demoted then
    (s1.modOutstanding o.handle fun k => { k with sent := some s.now }).wire (.request o.port
      (o.onFibre (o.rid.getD 0)))
  else s1

/-- RETRY (R286, R287): with a ticket the request is re-sent at once and carries it; without one it waits 1 µs. -/
def execRetry (port : Nat) (rsp : Rsp) (s : State) : Result :=
  let s := s.heard port 2 1
  match s.answered port rsp with
  | none => .next s
  | some o =>
    match rsp.ticket with
    | some n =>
      let o1 := { o with lastRetry := some s.now, req := { o.req with ticket := some n } }
      .next ((s.modOutstanding o.handle fun _ => o1).resendNow o1)
    | none => .next (s.modOutstanding o.handle fun k => { k with lastRetry := some s.now, waitUntil := some (s.now + 1000) })

/-- UNTICKETED_RETRY_RESEND (R287). -/
def execUnticketedRetryResend (handle : Nat) (s : State) : Result :=
  match s.domain.outstanding.find? fun o => o.handle = handle && !o.frozen with
  | none => .next s
  | some o =>
    match o.waitUntil with
    | some t => if t ≤ s.now && (o.port = 0xFF || s.now ≤ s.deadline o) then .next (s.resendNow o) else .next s
    | none => .next s

/-- REQUEST_RESEND (R290): after a retrain every request of the port that has no reply, else those whose reply is overdue;
requests that waited for the port are sent now. The list of requests is in RID order. -/
def execRequestResend (port : Nat) (s : State) : Result :=
  let k := s.port port
  if k.state ≠ .up && k.state ≠ .demoted then .next s
  else
    let s0 := s.modPort port fun q => { q with resendDue := false }
    .next (s.domain.outstanding.foldl (fun s1 o =>
      if o.port ≠ port || o.frozen || s.deadline o < s.now || o.waitUntil.isSome then s1
      else
        match o.sent with
        | none => if k.state = .up then s1.sendOutstanding o else s1
        | some t =>
          if k.resendDue || t + 1000 * s.reg 0x801001 ≤ s.now then (s1.resendNow o).countReg 0x801102 64 1 else s1) s0)

/-- REQUEST_DEADLINE (R290). -/
def execRequestDeadline (handle : Nat) (s : State) : Result :=
  match s.domain.outstanding.find? fun o => o.handle = handle && !o.frozen && o.port ≠ 0xFF with
  | none => .next s
  | some o => if s.deadline o < s.now then .next ((s.countReg 0x801109 32 1).finishOutstanding o (.error 0x0407)) else .next s

end Sys2Proof.Machine
end

