-- ==== Sys2Proof/Machine/Messages.lean ====
section
/-! DEFINITION. Messages beyond the domain, inboxes, agreement between members, and time across the domain (R299 to
R325). -/

namespace Sys2Proof.Machine

/-! ### SEND and the messages it makes (R300 to R306) -/

/-- Whether ADDR1 and DIM0 of a SEND are valid (R300, R301). -/
def sendValid (d : BitVec 512) : Bool :=
  let a := dAddr1 d
  bitsOf a 19 12 = 0 && bitsOf a 47 44 = 0 && bitsOf a 27 20 ≤ 47 && 1 ≤ dDim0 d && dDim0 d ≤ 4064

/-- SEND (R301): the source is read, here or through a window, and the message is admitted. -/
def execSend (x c edge : Nat) (s : State) : Result :=
  match s.executing x c 8 .started with
  | none => .next s
  | some d =>
    let n := dDim0 d
    let a := dAddr0 d
    if !sendValid d then .next (s.faultAt x c 0x0502 noEngine (dAddr1 d))
    else if (s.freeEntry edge).isNone then .next s
    else if isLocalForm a then
      match s.tableBytes x c (a % 0x400000) n with
      | (.error (code, extra), s1) => .next (s1.faultAt x c code noEngine extra)
      | (.ok b, s1) => .next (s1.admitMessage x c edge b)
    else
      let part : Part := ⟨x, c, noEngine, .send edge, [], s.now, a⟩
      let q := { blankReq with op := 0x20, origin := .member x c, ctx := x, addr := a, len := n }
      match s.issueRequest q part (s.requesterAt x c) with
      | (.error code, s1) =>
        if code = stallCode then .next s else .next (s1.faultAt x c code noEngine (addressDetail a))
      | (.data b, s1) => .next (s1.admitMessage x c edge b)
      | (_, s1) => .next (s1.setPhase x c .working)

/-- A message is delivered here (R305, R308): to the tower that holds its inbox, or refused when the inbox is not open. -/
def State.deliverMessage (s : State) (m : Message) : State :=
  match SMap.lookup s.messages.inboxes.entries m.inbox with
  | none => s.sendDone (messageId m) 2
  | some i =>
    { s with messages := { s.messages with
        toTower := s.messages.toTower.modify [] (i.base / 0x2400000000) fun l => l ++ [m] } }

/-- A message that came over a fibre goes on by the same rule as at its origin (R301, R303, R305). A full hop buffer
keeps it back (R304): the flag says so. -/
def State.forwardMessage (s : State) (m : Message) : State :=
  match s.routeTo m.dom m.dev with
  | .here => s.deliverMessage m
  | .nowhere => if m.hops = 0 then s.sendDone (messageId m) 4 else s.sendDone (messageId m) 5
  | .port p => if m.hops = 0 then s.sendDone (messageId m) 4 else (s.toHop p m).countReg 0x831007 64 1

/-- Whether a message would find its hop buffer full (R304). -/
def State.hopFull (s : State) (m : Message) : Bool :=
  match s.routeTo m.dom m.dev with
  | .port p => decide (1024 ≤ (s.port p).hop.length)
  | _ => false

/-- MESSAGE (R301, R304): at the edge group of its origin, a message without a route faults its context; one that arrives
on a port is discarded when its MSEQ has been accepted before. -/
def execMessage (arrival : MessageArrival) (m : Message) (s : State) : Result :=
  match arrival with
  | .tower edge =>
    match s.messages.toEdge.get [] edge with
    | [] => .next s
    | q :: rest =>
      if s.hopFull q then .next s
      else
        let s1 := { s with messages := { s.messages with toEdge := s.messages.toEdge.set edge rest } }
        match s1.routeTo q.dom q.dev with
        | .here => .next (s1.deliverMessage q)
        | .port p => .next (s1.toHop p q)
        | .nowhere => .next (s1.messageEnded q.edge q.entry 5)
  | .port p =>
    let k := s.port p
    let s := if s.hopFull m then s else s.heard p 4 (flitsOf m.payload.length)
    if !s.carriesMessages p || s.hopFull m || m.payload = [] || 4064 < m.payload.length then .next s
    else if 2147483648 ≤ (4294967296 + m.mseq - k.mseqAccepted) % 4294967296 then .next s
    else .next ((s.modPort p fun q => { q with mseqAccepted := (m.mseq + 1) % 4294967296 }).forwardMessage m)

/-- MSG_DONE (R305), from a tower at its edge group or over a fibre: at its origin it ends the message; elsewhere it goes on. -/
def execMsgDone (arrival : MessageArrival) (id status : Nat) (s : State) : Result :=
  match arrival with
  | .tower edge =>
    if s.routeTo (bitsOf id 35 20) (bitsOf id 19 12) = .here && bitsOf id 11 10 ≠ edge then .next s
    else .next (s.sendDone id status)
  | .port p => .next (((s.heard p 4 1)).sendDone id status)

/-- MESSAGE_DEADLINE (R305): no MSG_DONE in time. -/
def execMessageDeadline (edge entry : Nat) (s : State) : Result :=
  let key := 1024 * edge + entry
  match SMap.lookup s.messages.tracked.entries key with
  | none => .next s
  | some k =>
    if s.now ≤ k.sent + 1000 * s.reg 0x831001 then .next s
    else
      .next (({ s with messages := { s.messages with
        tracked := s.messages.tracked.dropKeys fun n => n = key } }).messageFault k 0x0504)

/-- HOP_HOLD_EXPIRY (R304): a message held longer than OD 0x8310.02. -/
def execHopHoldExpiry (port mseq : Nat) (s : State) : Result :=
  match (s.port port).hop.find? fun e => e.mseq = mseq with
  | none => .next s
  | some e =>
    if s.now ≤ e.at_ + 1000 * s.reg 0x831002 then .next s
    else
      .next ((s.modPort port fun k => { k with hop := k.hop.filter fun h => h.mseq ≠ mseq }).countReg 0x831005 32 1)

/-! ### Inboxes (R308 to R313) -/

/-- The slot size of a code (R309). -/
def slotSize (code : Nat) : Nat := 256 * 2 ^ code

/-- Write bytes of an inbox's area. -/
def State.writeArea (s : State) (off : Nat) (b : List Byte) : State := (s.storeRange off b hubRequester).2

/-- The record of a message (R310). -/
def State.messageRecord (s : State) (m : Message) (stamp : Nat) : List Byte :=
  let flags := (if m.srcDomain = s.domainId then 1 else 0) + (if m.srcFenced then 2 else 0) + (if s.clocks.fenced then 4 else 0)
  recordHeader 1 flags m.payload.length m.srcDomain m.srcDevice (32 - m.hops) m.srcCtx m.stamp stamp ++ m.payload

/-- RELEASED of an inbox, as its tower uses it (R313): an invalid value is counted and raised once, and the last valid one
is used. -/
def State.inboxReleased (s : State) (n t : Nat) (i : Inbox) : Nat × State :=
  let count := field (s.held i.base 8) 0 8
  let rel := field (s.held (i.base + 0x50) 8) 0 8
  let valid := (2 ^ 64 + count - rel) % 2 ^ 64 ≤ i.slots && i.lastValid ≤ rel
  let put := fun (j : Inbox) => { s with messages := { s.messages with inboxes := s.messages.inboxes.set n j } }
  if valid then (rel, put { i with lastValid := rel, lastBad := none })
  else if i.lastBad = some rel then (i.lastValid, s)
  else
    (i.lastValid, ((put { i with lastBad := some rel }).countReg 0x831006 32 1).raise 0x1601 (0x10 + t) (0x1000 + t)
      (leBytes 2 n ++ leBytes 8 rel))

/-- A drop: DROPS and LAST_DROP (R311). -/
def State.countDrop (s : State) (b stamp : Nat) : State :=
  (s.writeArea (b + 8) (leBytes 8 (field (s.held (b + 8) 8) 0 8 + 1))).writeArea (b + 16) (leBytes 8 stamp)

/-- Deliver a message to inbox `n` (R311): the status it is answered with, and the state. -/
def State.deliverTo (s : State) (n t : Nat) (i : Inbox) (m : Message) : Nat × State :=
  let size := slotSize i.code
  if size - 32 < m.payload.length then (3, s)
  else
    let (rel, s1) := s.inboxReleased n t i
    let stamp := s1.stampAt (0x1000 + t)
    let count := field (s1.held i.base 8) 0 8
    let h := (2 ^ 64 + count - rel) % 2 ^ 64
    let slot := fun (k : Nat) => i.base + 128 + size * (k % i.slots)
    let more := fun (s : State) => s.writeArea i.base (leBytes 8 (count + 1))
    if h + 1 < i.slots then (0, more (s1.writeArea (slot count) (s1.messageRecord m stamp)))
    else if h + 1 = i.slots then (1, (more (s1.writeArea (slot count) (gapMarker stamp 1))).countDrop i.base stamp)
    else
      let k := slot (2 ^ 64 + count - 1)
      (1, (s1.writeArea (k + 24) (leBytes 8 (field (s1.held (k + 24) 8) 0 8 + 1))).countDrop i.base stamp)

/-- MESSAGE_DELIVERY (R311): the next message that has reached the tower. A fenced tower delivers nothing (R340). -/
def execMessageDelivery (t : Nat) (s : State) : Result :=
  match s.messages.toTower.get [] t with
  | [] => .next s
  | m :: rest =>
    if (s.die (0x10 + t)).state ≠ .ready then .next s
    else
      let s1 := { s with messages := { s.messages with toTower := s.messages.toTower.set t rest } }
      match SMap.lookup s1.messages.inboxes.entries m.inbox with
      | none => .next (s1.sendDone (messageId m) 2)
      | some i =>
        let (status, s2) := s1.deliverTo m.inbox t i m
        .next (s2.sendDone (messageId m) status)

/-- Size of an inbox's area (R309). -/
def inboxArea (code slots : Nat) : Nat := 128 + slots * slotSize code

/-- The first check of R308 that an inbox load fails, 0 when it passes all. -/
def State.inboxStatus (s : State) (n owner base code slots : Nat) : Nat :=
  let others := s.messages.inboxes.entries.filter fun e => e.2.owner = owner && e.1 ≠ n
  if owner = 0 || (s.ctx owner).state = .closed then 2
  else if 4 ≤ others.length ||
      (match SMap.lookup s.messages.inboxes.entries n with | some i => decide (i.owner ≠ owner) | none => false) then 3
  else if 4 < code || !(isPowerOfTwo 16 65536 slots) then 4
  else if base % 4096 ≠ 0 || hbmEnd < base + inboxArea code slots ||
      base / 0x2400000000 ≠ (base + inboxArea code slots - 1) / 0x2400000000 then 5
  else 0

/-- The commit of OD 0x84FF.00 (R308): owner 0xFFFF closes the inbox; opening one zeroes its area. -/
def State.inboxCommitOp (s : State) (value : Nat) : Nat × State :=
  if value ≠ 1 then (5, s)
  else
    let n := s.shadow 0x840001
    let owner := s.shadow 0x840002
    let base := s.shadow 0x840003
    let code := s.shadow 0x840004
    let slots := s.shadow 0x840005
    let keys := [0x840001, 0x840002, 0x840003, 0x840004, 0x840005]
    if owner = 0xFFFF then
      let s1 := (s.commitRegs keys).setReg 0x840006 0
      (1, { s1 with messages := { s1.messages with inboxes := s1.messages.inboxes.dropKeys fun k => k = n } })
    else
      let st := s.inboxStatus n owner base code slots
      let s1 := s.setReg 0x840006 st
      if st ≠ 0 then (1, s1)
      else
        let s2 := (s1.commitRegs keys).wipeRange base (inboxArea code slots)
        (1, { s2 with messages := { s2.messages with
          inboxes := s2.messages.inboxes.set n { owner := owner, base := base, code := code, slots := slots } } })

/-- INBOX_COMMIT (R308). -/
def execInboxCommit (value : Nat) (s : State) : Result := .next (s.inboxCommitOp value).2

/-! ### Routes (R302) -/

/-- The rows of a route table's value: domain, kind, target. -/
def routeRows (b : List Byte) : List (Nat × Nat × Nat) :=
  (List.range (b.length / 4)).map fun i => (field b (4 * i) 2, field b (4 * i + 2) 1, field b (4 * i + 3) 1)

/-- The checks of R302. -/
def State.routeStatus (s : State) (rows : List (Nat × Nat × Nat)) : Nat :=
  let doms := rows.map (·.1)
  if doms.eraseDups.length ≠ doms.length || doms.contains s.domainId then 2
  else if rows.any fun r =>
      !((r.2.1 = 1 && (s.portRole r.2.2).1 = 2) || (r.2.1 = 2 && (s.portOf r.2.2).isSome)) then 3
  else 0

/-- The commit of OD 0x83FF.00 (R302). -/
def State.routeCommitOp (s : State) (value : Nat) : Nat × State :=
  if value ≠ 1 then (5, s)
  else
    let b := s.blobShadow 0x830001
    let rows := routeRows b
    let st := s.routeStatus rows
    let s1 := s.setReg 0x830002 st
    if st ≠ 0 then (1, s1)
    else (1, { s1.setBlob 0x830001 b with messages := { s1.messages with routes := rows } })

/-- ROUTE_COMMIT (R302). -/
def execRouteCommit (value : Nat) (s : State) : Result := .next (s.routeCommitOp value).2

/-! ### Agreement (R315 to R320) -/

/-- The mask of this device and the peers of its role-1 ports (R316). -/
def State.properMask (s : State) : Nat :=
  let peers := ((List.range 64).filter fun p => (s.portRole p).1 = 1).map fun p => (s.portRole p).2
  sumOf (fun d => 2 ^ d) (s.deviceId :: (peers.eraseDups.filter (· ≠ s.deviceId)))

/-- The shadow of the membership mask. -/
def State.maskShadow (s : State) : Nat := (SMap.lookup s.shadows.entries 0x820004).getD s.memberMask

/-- The commit of OD 0x82FF.00 (R316). -/
def State.agreementCommitOp (s : State) (value : Nat) : Nat × State :=
  if value ≠ 1 then (5, s)
  else if s.maskShadow ≠ s.properMask then (1, s.setReg 0x820005 2)
  else (1, (((s.commitRegs [0x820001, 0x820002]).setReg 0x820004 s.maskShadow).setReg 0x820005 0))

/-- AGREEMENT_COMMIT (R316). -/
def execAgreementCommit (value : Nat) (s : State) : Result := .next (s.agreementCommitOp value).2

/-- A port is demoted (R318, R319). -/
def State.demote (s : State) (p epoch level : Nat) : State :=
  ((s.setPortState p .demoted).countReg 0x820007 32 1).raise 0x1604 0 (edgeUnit p)
    (leBytes 1 p ++ leBytes 1 (s.portRole p).2 ++ leBytes 4 (s.reg 0x820002) ++ leBytes 4 epoch ++
      leBytes 2 (s.reg 0x820003) ++ leBytes 2 level)

/-- Requests to the peer of a port that await a reply or are frozen. -/
def State.requestsAt (s : State) (p : Nat) : Bool := s.domain.outstanding.any fun o => o.port = p

/-- Whether a join is refused under R295: one that began LOST, while a context has a frozen request to the peer or a VALID
window that names it. -/
def State.joinRefused (s : State) (p : Nat) : Bool :=
  (s.domain.outstanding.any fun o => o.port = p && o.frozen) || s.windowHolders (s.portRole p).2 ≠ []

/-- The Dreuth enters the fence (R322, R385): OD 0x8220.05, event 0x1605. -/
def State.enterFence (s : State) (theta : Int) (byCheck : Bool) : State :=
  if s.clocks.fenced then
    { s with clocks := { s.clocks with fencedByCheck := s.clocks.fencedByCheck || byCheck, goodExchanges := 0, goodSyncs := 0 } }
  else
    (({ s with clocks := { s.clocks with
      fenced := true, fencedByCheck := byCheck, goodExchanges := 0, goodSyncs := 0 } }).countReg 0x822005 32 1).raise 0x1605 0
        0x4002 (leBytes 1 1 ++ intBytes 4 theta)

/-- A timed doorbell writes its producer index (R323). -/
def State.fireDoorbell (s : State) (row state : Nat) : State :=
  let d := s.messages.doorbells.get {} row
  let s1 := (s.ringDoorbell d.ctx (BitVec.ofNat 32 d.producer)).2
  { s1 with messages := { s1.messages with doorbells := s1.messages.doorbells.set row { d with state := state } } }

/-- The Dreuth leaves the fence (R322, R323): every armed doorbell whose time has passed fires at once, late. -/
def State.leaveFence (s : State) (theta : Int) : State :=
  let s1 := ({ s with clocks := { s.clocks with
    fenced := false, fencedByCheck := false, goodExchanges := 0, goodSyncs := 0 } }).raise 0x1605 0 0x4002
      (leBytes 1 0 ++ intBytes 4 theta)
  (List.range 16).foldl (fun s row =>
    let d := s.messages.doorbells.get {} row
    if d.state = 1 && d.time ≤ s.now then
      (s.fireDoorbell row 3).raise 0x1606 s.hubDie hubUnit (leBytes 1 row ++ leBytes 8 d.time)
    else s) s1

/-- RID counters and reply caches of a pair are cleared (R288, R295). -/
def State.clearPair (s : State) (p : Nat) : State :=
  let d := (s.portRole p).2
  let s1 := s.modPort p fun k => { k with nextRid := 0 }
  { s1 with domain := { s1.domain with replies := s1.domain.replies.dropKeys fun n => n / 4096 = d } }

/-- The checks of a HELLO at a port that joins, in order, and what follows (R317 steps 3 to 5). -/
def State.checkHello (s0 : State) (p : Nat) (h : Hello) : State :=
  let s := s0.modPort p fun k => { k with asked := false, peerHello := none }
  let peer := (s.portRole p).2
  if h.device ≠ peer || h.domain ≠ s.domainId then
    (s.setPortState p .down).raise 0x1603 0 (edgeUnit p) (leBytes 1 p ++ leBytes 1 h.device ++ leBytes 2 h.domain)
  else if (s.port p).lostJoin && s.joinRefused p then
    ((s.setPortState p .lost).modPort p fun k => { k with helloDue := true }).freezePort p
  else if h.level ≠ s.reg 0x820003 || h.digest ≠ s.localDigest then s.demote p h.epoch h.level
  else
    let s1 := ((s.clearPair p).setPortState p .up).modPort p fun k =>
      { k with lostJoin := false, helloDue := false, mismatches := 0, digestAt := s.now, lastHeard := s.now,
               peerUnfenced := !h.fenced }
    let s2 := s1.raise 0x1602 0 (edgeUnit p) (leBytes 1 p ++ leBytes 1 peer)
    let s3 := if s2.clocks.everJoined then s2
      else ({ s2 with clocks := { s2.clocks with everJoined := true } }).enterFence 0 false
    s3.sendWaiting p

/-- HELLO (R292, R317): at an UP port the peer is lost; a LOST or DEMOTED port that may join answers and checks it. A
HELLO that answers this end's own is not answered again (DESIGN CHOICE, log 94). -/
def execHello (port : Nat) (h : Hello) (s : State) : Result :=
  let s := s.heard port 4 1
  let k := s.port port
  if (s.portRole port).1 ≠ 1 then .next s
  else
    match k.state with
    | .up => .next ((s.declareLost port).modPort port fun q => { q with helloDue := true, peerHello := some h })
    | .joining => .next (s.checkHello port h)
    | .lost =>
      if k.retraining then .next s
      else if s.joinRefused port then
        .next (s.modPort port fun q =>
          { q with helloDue := true, asked := false, peerHello := if q.asked then q.peerHello else some h })
      else if k.asked then .next (s.checkHello port h)
      else .next ((s.startJoin port).checkHello port h)
    | .demoted => if k.retraining || s.requestsAt port then .next s else .next ((s.startJoin port).checkHello port h)
    | _ => .next s

/-- HELLO_REPEAT (R317): every 1 ms a LOST port repeats its HELLO; once nothing refuses its join, the join runs. A port
that joins in answer to a HELLO checks that one. -/
def execHelloRepeat (port : Nat) (s : State) : Result :=
  let k := s.port port
  match k.state, k.peerHello with
  | .joining, some h => .next (s.checkHello port h)
  | _, _ =>
    if k.state ≠ .lost || !k.helloDue || k.retraining || s.now < k.helloAt + 1000000 then .next s
    else if s.joinRefused port then
      .next ((s.modPort port fun q => { q with asked := q.peerHello.isNone, peerHello := none }).sendHello port)
    else .next (s.startJoin port)

/-- The join that a write of OD 0x8201.01 starts (R317). -/
def State.joinOp (s : State) (p : Nat) : State :=
  let k := s.port p
  if (s.portRole p).1 ≠ 1 || (k.state ≠ .demoted && k.state ≠ .lost) then s.setReg 0x820103 2
  else if s.requestsAt p then s.setReg 0x820103 3
  else (s.setReg 0x820103 0).startJoin p

/-- JOIN (R317). -/
def execJoin (port : Nat) (s : State) : Result := .next (s.joinOp port)

/-- The leave that a write of OD 0x8201.02 starts (R320). -/
def State.leaveOp (s : State) (p : Nat) : State :=
  let k := s.port p
  if (s.portRole p).1 ≠ 1 || k.state = .down || k.state = .training then s.setReg 0x820103 2
  else if s.requestsAt p || s.windowHolders (s.portRole p).2 ≠ [] then s.setReg 0x820103 3
  else ((s.setReg 0x820103 0).wire (.leave p)).setPortState p .down

/-- LEAVE (R320). -/
def execLeave (port : Nat) (s : State) : Result := .next (s.leaveOp port)

/-- LEAVE_ARRIVAL (R320): no lost target is declared. A LOST port discards it. -/
def execLeaveArrival (port : Nat) (s : State) : Result :=
  let s := s.heard port 4 1
  let st := (s.port port).state
  if (s.portRole port).1 = 1 && (st = .up || st = .demoted || st = .joining) then .next (s.setPortState port .down) else .next s

/-- DIGEST_SEND (R318): every 10 ms, on every UP port. -/
def execDigestSend (s : State) : Result :=
  if s.now < s.messages.digestSent + 10000000 then .next s
  else
    let s1 := { s with messages := { s.messages with digestSent := s.now } }
    .next (((List.range 64).filter fun p => (s.port p).state = .up).foldl (fun s p =>
      s.wire (.digest p s.localDigest (s.reg 0x820002) (s.reg 0x820003))) s1)

/-- DIGEST (R318): the peer's last digest is kept; the second mismatch in a row demotes the port. -/
def execDigest (port : Nat) (digest : List Byte) (epoch level : Nat) (s : State) : Result :=
  let s := s.heard port 4 1
  let st := (s.port port).state
  if (s.portRole port).1 ≠ 1 || (st ≠ .up && st ≠ .demoted) then .next s
  else
    let bad := digest ≠ s.localDigest
    let n := if bad then (s.port port).mismatches + 1 else 0
    let s1 := s.modPort port fun k => { k with mismatches := n, digestAt := s.now }
    let s2 := { s1 with messages := { s1.messages with
      peerDigests := s1.messages.peerDigests.set port
        { peer := (s.portRole port).2, epoch := epoch, level := level, digest := padTo 32 digest, at_ := s.stamp } } }
    if st = .up && 2 ≤ n then .next (s2.demote port epoch level) else .next s2

/-- DIGEST_TIMEOUT (R318): no DIGEST for 30 ms. -/
def execDigestTimeout (port : Nat) (s : State) : Result :=
  let k := s.port port
  let d := s.messages.peerDigests.get {} port
  if k.state ≠ .up || s.now < k.digestAt + 30000000 then .next s else .next (s.demote port d.epoch d.level)

/-! ### Time across the domain (R321 to R323) -/

/-- The time master (R321, OD 0x8220.01). -/
def State.timeMaster (s : State) : Nat :=
  (((List.range 64).filter fun p => (s.port p).state = .up && (s.port p).peerUnfenced).map fun p => (s.portRole p).2).foldl
    Nat.min s.deviceId

/-- TIME_REQ (R321): on the port that serves this member's master it is sent, every 10 µs; on any other UP port it has
arrived, and is answered. -/
def execTimeReq (port t1 : Nat) (s : State) : Result :=
  if (s.port port).state ≠ .up then .next s
  else if s.timeMaster ≠ s.deviceId && (s.portRole port).2 = s.timeMaster then
    if s.now < s.clocks.lastTimeReq + 10000 then .next s
    else .next (({ s with clocks := { s.clocks with lastTimeReq := s.now } }).wire (.timeReq port s.now))
  else .next ((s.heard port 4 1).wire (.timeRsp port t1 s.now s.now))

/-- Correct the count by the offset of one exchange (R322). -/
def State.correctCount (s : State) (theta : Int) : State :=
  let k := s.clocks
  if 1000 < theta then
    ({ s with clocks := { k with count := k.count + theta.toNat, slew := 0 } }).countReg 0x822006 32 1
  else if theta < -1000 then { s with clocks := { k with halfRate := true, slew := 0 } }
  else if k.halfRate && 100 < theta.natAbs then s
  else
    let n : Int := min theta.natAbs 2
    { s with clocks := { k with halfRate := false, slew := if theta < 0 then -n else n } }

/-- TIME_RSP (R321, R322): offset and delay, the correction, and the fence. The halves are rounded in a way that the spec
does not state. -/
def execTimeRsp (port t1 t2 t3 t4 : Nat) (s : State) : Result :=
  let s := s.heard port 4 1
  if (s.port port).state ≠ .up || s.timeMaster = s.deviceId || (s.portRole port).2 ≠ s.timeMaster then .next s
  else
    let (theta, s1) := s.divFree (((t2 : Int) - t1) + ((t3 : Int) - t4)) 2
    let (delta, s2) := s1.divFree (((t4 : Int) - t1) - ((t3 : Int) - t2)) 2
    let s3 := (s2.setReg 0x822002 (theta.emod (2 ^ 32)).toNat).setReg 0x822003 (delta.emod (2 ^ 32)).toNat
    let s4 := s3.correctCount theta
    if 1000 < theta.natAbs then .next (s4.enterFence theta false)
    else
      let n := if theta.natAbs ≤ 20 then s4.clocks.goodExchanges + 1 else 0
      let s5 := { s4 with clocks := { s4.clocks with goodExchanges := n } }
      if s5.clocks.fenced && 3 ≤ n then .next (s5.leaveFence theta) else .next s5

/-- TIMED_DOORBELL (R323). -/
def execTimedDoorbell (row : Nat) (s : State) : Result :=
  let d := s.messages.doorbells.get {} row
  if d.state ≠ 1 || s.now < d.time || s.clocks.fenced then .next s else .next (s.fireDoorbell row 2)

end Sys2Proof.Machine
end

