-- ==== Sys2Proof/Machine/HubOps.lean ====
section
/-! DEFINITION. Shared operations of the hub: die states (R338), hall passes (R356), the halt (R341), and the twin
complexes (R426 to R436). -/

namespace Sys2Proof.Machine

/-! ### Die states (R338) -/

/-- The code of a die state (R338). -/
def DieState.code : DieState → Nat
  | .ready => 0
  | .fencing => 1
  | .reset => 2
  | .training => 3
  | .shutdown => 4
  | .out => 5

/-- A die changes its state, with the event of R493: the ready epoch rises at every entry to READY, and a reset is counted
at every entry to RESET. -/
def State.setDieState (s : State) (d : Nat) (st : DieState) : State :=
  let k := s.die d
  if k.state = st then s
  else
    let k1 := { k with
      state := st
      changed := s.stamp
      readyEpoch := if st = .ready then satAdd 32 k.readyEpoch 1 else k.readyEpoch
      resets := if st = .reset then satAdd 32 k.resets 1 else k.resets }
    ((s.modDie d fun _ => k1)).raise 0x1705 d hubUnit
      (leBytes 1 d ++ leBytes 1 k.state.code ++ leBytes 1 st.code ++ leBytes 4 k1.readyEpoch)

/-- Whether a single-die reset runs (R341): of an upper die. -/
def State.resetRunning (s : State) : Bool :=
  s.package.dies.entries.any fun e =>
    e.1 < 0x40 && (e.2.state = .fencing || e.2.state = .reset || e.2.state = .training)

/-! ### Guests (R349, R356) -/

/-- A guest site. -/
def State.guest (s : State) (g : Nat) : Guest :=
  s.package.guests.get { state := if Nat.testBit s.fuses.guests g then .down else .absent } g

/-- Change a guest site. -/
def State.modGuest (s : State) (g : Nat) (f : Guest → Guest) : State :=
  { s with package := { s.package with guests := s.package.guests.set g (f (s.guest g)) } }

/-- Replies to a site's earlier requests are discarded (R356 step 2). -/
def discardGuest (g : Nat) (o : Outstanding) : Outstanding :=
  { o with parts := o.parts.map fun p =>
      match p.purpose with
      | .guest site _ => if site = g then { p with purpose := .discard } else p
      | _ => p }

/-- Revoke a hall pass (R356 steps 1 and 2): the filter closes, windows stop taking effect, packets not yet admitted to the
rig are dropped and counted, and later replies are discarded. -/
def State.revokePass (s : State) (g : Nat) (st : GuestState) : State :=
  let slot := 5 + g
  let dropped := s.rig.outbox.filter fun p => p.src = slot
  let s1 := (s.modGuest g fun k => { k with state := st }).countReg 0x402302 64 dropped.length
  { s1 with
    rig := { s1.rig with outbox := s1.rig.outbox.filter fun p => p.src ≠ slot }
    domain := { s1.domain with outstanding := s1.domain.outstanding.map (discardGuest g) } }

/-- Revoke every hall pass (R356). -/
def State.revokeAll (s : State) : State :=
  (List.range 2).foldl (fun s g =>
    let st := (s.guest g).state
    if st = .admitted || st = .verifying then s.revokePass g .confined else s) s

/-! ### The halt (R341) -/

/-- RESET_NOTICE goes on every UP domain port (R292). -/
def State.sendNotices (s : State) : State :=
  ((List.range 64).filter fun p => (s.portRole p).1 = 1 && (s.port p).state = .up).foldl (fun s p => s.wire (.resetNotice p)) s

/-- The hub halts (R341, R356, R503): the OCs stop before their next entry, the peers are told, hall passes are revoked,
FAULT_N is driven low, and the Dreuth waits for a cold start. -/
def State.hubHalts (s : State) : State :=
  if s.boot.halted then s
  else ({ s with boot := { s.boot with halted := true, faultN := false } }.sendNotices).revokeAll

/-- The rig is lost (R29, R339, R503): no part of the Dreuth continues, and no state except flash and fuses survives. What has
left the package stays sent. -/
def State.rigLoss (s : State) : State :=
  { pending := s.pending
    fuses := s.fuses
    control :=
      { krytae := ⟨[(0, { state := .down }), (1, { state := .down })]⟩
        complexes := ⟨[(0, { state := .offline }), (1, { state := .offline })]⟩
        out := s.control.out
        wire := s.control.wire }
    package := { dies := ⟨[0x10, 0x11, 0x12, 0x13, 0x20, 0x21, 0x22, 0x23, 0x30, 0x31, 0x40, 0x41].map fun d =>
      (d, ({ state := .reset } : Die))⟩ }
    boot := { flash := s.boot.flash, rigLost := true, halted := true, faultN := false }
    freeCount := s.freeCount }

/-! ### The twin complexes (R428 to R431) -/

/-- Change a complex. -/
def State.modComplex (s : State) (k : Nat) (f : Complex → Complex) : State :=
  { s with control := { s.control with complexes := s.control.complexes.set k (f (s.complex k)) } }

/-- Change a complex's state, with the time (OD 0xB001.02). -/
def State.setComplex (s : State) (k : Nat) (st : ComplexState) : State :=
  s.modComplex k fun c => { c with state := st, changed := s.stamp }

/-- The code of a complex's state (R428). -/
def ComplexState.code : ComplexState → Nat
  | .active => 0
  | .standby => 1
  | .syncing => 2
  | .offline => 3

/-- The complex that is not `k`. -/
def twinOf (k : Nat) : Nat := 1 - k

/-- The sites to which the hub sends (R431 step 3): populated, and not its own. -/
def State.hubSites (s : State) : List Nat := (List.range 11).filter fun d => d ≠ 4 && s.sitePopulated d

/-- What the gate holds back goes out, with the epoch that it now holds and its original OSEQ (R431 step 4, R436). -/
def State.release (s : State) : State :=
  let c := s.control
  let frames := c.held.map fun f => { f with epoch := c.epoch }
  let s1 := { s with control := { c with
      out := c.out ++ frames
      lastPassed := (c.held.getLast?.map (·.oseq)).getD c.lastPassed
      held := [] } }
  frames.foldl (fun s f => s.toPorts f) s1

/-- Complex `b` takes over from its twin (R431): the epoch rises, TAKEOVER goes to every site and on both ports, and the
outputs that the gate had not passed are sent again. The duration is one that the spec bounds by 10 µs. -/
def State.takeOver (s : State) (b reason : Nat) : State :=
  let old := s.control.epoch
  let new := (old + 1) % 4294967296
  let s0 := (s.setComplex b .active).modComplex b fun c => { c with epoch := new }
  let s1 := if (s.die (0x30 + twinOf b)).state = .ready then s0 else s0.setComplex (twinOf b) .offline
  let s2 := { s1 with
    control := { s1.control with epoch := new, declared := none }
    package := { s1.package with dies := s1.package.dies.mapVals fun _ k => { k with highestEpoch := new } } }
  let frame : Output := .takeoverFrame old new b reason
  let s3 := (s2.hubSites.foldl (fun s d => s.emit (.control d 7 [new, b])) s2).emit frame
  let s4 := if s3.compatMode then s3 else s3.release
  let (w, s5) := s4.freeWord
  let s6 := ((((s5.setReg 0xB00101 b).countReg 0xB00104 32 1).setReg 0xB00105 (w.toNat % 10001)).setReg 0xB00106 reason).setReg
    0xB01002 0
  s6.raise 0x1A01 (0x30 + b) hubUnit (leBytes 4 old ++ leBytes 4 new ++ leBytes 1 reason)

/-- The active complex fails (R430): its twin takes over if it is STANDBY, else the hub halts. -/
def State.activeFails (s : State) (reason : Nat) : State :=
  match s.activeComplex with
  | none => s
  | some a => if (s.complex (twinOf a)).state = .standby then s.takeOver (twinOf a) reason else s.hubHalts

/-- A twin enters SYNCING (R435). -/
def State.startResync (s : State) (k : Nat) : State :=
  (s.setComplex k .syncing).modComplex k fun c => { c with resyncStep := 0, resyncStart := s.now, restarts := 0 }

/-- A resynchronisation ends (R435, R493). -/
def State.resyncEnded (s : State) (k : Nat) (st : ComplexState) : State :=
  (s.setComplex k st).raiseSev 0x1A04 (if st = .standby then 0 else 2) (0x30 + k) hubUnit
    (leBytes 1 k ++ leBytes 1 (if st = .standby then 0 else 1))

end Sys2Proof.Machine
end

