-- ==== Sys2Proof/Machine/Complexes.lean ====
section
/-! DEFINITION. The twin control complexes (R426 to R437): heartbeats, takeover, divergence, resynchronisation, and the
control mode. -/

namespace Sys2Proof.Machine

/-- The reflecting site (R429): the lowest-numbered site in READY whose standing paths to and from slot 4 are both up. -/
def State.reflectingSite (s : State) : Option Nat :=
  s.hubSites.find? fun d =>
    (3 < d || (s.die (0x10 + d)).state = .ready) && (s.standing 4 d).state = .up && (s.standing d 4).state = .up

/-- The last input that a complex has applied (R426, R436): the active one's, and a standby's in step with it, is the last. -/
def State.lastInputOf (s : State) (k : Nat) : Nat :=
  if s.activeComplex = some k || ((s.complex k).state = .standby && !s.compatMode) then s.control.inputs else (s.complex k).lastInput

/-- The fields of a heartbeat (R429). -/
def heartbeatBody (k : Nat) (c : Complex) : List Nat := [k, c.state.code, c.epoch, c.lastInput, c.selfTest]

/-- HEARTBEAT (R429, R430): at every multiple of 1,000 ns a complex whose half is READY sends one on both paths; a failed
self-test of the active complex makes it hand over. -/
def execHeartbeat (complex selfTest : Nat) (s : State) : Result :=
  let k := complex
  if s.now % 1000 ≠ 0 || (s.die (0x30 + k)).state ≠ .ready || s.boot.halted then .next s
  else
    let s1 := s.modComplex k fun c =>
      { c with
        selfTest := selfTest
        lastInput := s.lastInputOf k
        missPrivateRun := if c.missPrivateNow then c.missPrivateRun else 0
        missStandingRun := if c.missStandingNow then c.missStandingRun else 0
        missPrivateNow := false
        missStandingNow := false }
    let s2 := match s1.reflectingSite with
      | none => s1
      | some d =>
        let o : Output := .control d 1 (heartbeatBody k (s1.complex k))
        if s1.activeComplex = some k && selfTest = 0 then s1.emit o else s1.wire o
    if s.activeComplex = some k && selfTest ≠ 0 then
      .next { s2 with control := { s2.control with declared := some (s2.control.declared.getD 5) } }
    else .next s2

/-- HEARTBEAT_MISS (R429): counted by complex and path (OD 0xB002.01). -/
def execHeartbeatMiss (complex : Nat) (standing : Bool) (s : State) : Result :=
  .next (s.modComplex complex fun c =>
    if standing then
      { c with
        missStanding := satAdd 64 c.missStanding 1, missStandingRun := c.missStandingRun + 1, missStandingNow := true }
    else
      { c with
        missPrivate := satAdd 64 c.missPrivate 1, missPrivateRun := c.missPrivateRun + 1, missPrivateNow := true })

/-- Whether a failure of the active complex is declared for a reason (R430, R431). -/
def State.failureDeclared (s : State) (a reason : Nat) : Bool :=
  let c := s.complex a
  s.control.declared = some reason ||
  (reason = 1 && 3 ≤ c.missPrivateRun && 3 ≤ c.missStandingRun) ||
  (reason = 2 && (3 ≤ c.missPrivateRun || 3 ≤ c.missStandingRun) && c.selfTest ≠ 0)

/-- TAKEOVER (R341, R430, R431): with a twin that is not STANDBY, the hub halts. A half that handed over before its fenced
reset enters RESET. -/
def execTakeover (reason : Nat) (s : State) : Result :=
  match s.activeComplex with
  | none => .next s
  | some a =>
    if !s.failureDeclared a reason then .next s
    else
      let s1 := s.activeFails reason
      if (s.die (0x30 + a)).state = .fencing then .next (s1.setDieState (0x30 + a) .reset) else .next s1

/-- DIVERGENCE (R427): of a standby, outside compatibility mode. -/
def execDivergence (oseq : Nat) (s : State) : Result :=
  match s.activeComplex with
  | none => .next s
  | some a =>
    let b := twinOf a
    if (s.complex b).state ≠ .standby || s.compatMode then .next s
    else .next (((s.setComplex b .offline).countReg 0xB00202 32 1).raise 0x1A02 s.hubDie hubUnit (leBytes 8 oseq))

/-- COMPLEX_DISPLACED (R434): a running complex that sees the gate's epoch above its own. -/
def execComplexDisplaced (complex : Nat) (s : State) : Result :=
  let c := s.complex complex
  if c.state ≠ .active || s.activeComplex = some complex || (s.die (0x30 + complex)).state ≠ .ready then .next s
  else .next ((s.setComplex complex .offline).raise 0x1A03 (0x30 + complex) hubUnit
    (leBytes 1 complex ++ leBytes 4 s.control.epoch))

/-- RESYNC (R435). -/
def execResync (complex : Nat) (step : ResyncStep) (s : State) : Result :=
  let c := s.complex complex
  if c.state ≠ .syncing || s.activeComplex.isNone then .next s
  else
    match step with
    | .selfTest result =>
      if c.resyncStep ≠ 0 then .next s
      else if result = 0 then .next (s.modComplex complex fun c => { c with selfTest := 0, resyncStep := 1 })
      else .next ((s.modComplex complex fun c => { c with selfTest := result }).resyncEnded complex .offline)
    | .snapshot =>
      if c.resyncStep ≠ 1 then .next s
      else .next (s.modComplex complex fun c => { c with resyncStep := 2, resyncInput := s.control.inputs })
    | .crossed =>
      if c.resyncStep ≠ 2 then .next s else .next (s.modComplex complex fun c => { c with resyncStep := 3 })
    | .caughtUp =>
      if c.resyncStep ≠ 3 then .next s
      else .next (s.modComplex complex fun c => { c with resyncStep := 4, lastInput := s.control.inputs })
    | .agreed =>
      if c.resyncStep ≠ 4 then .next s
      else
        let (d, s1) := s.divFree (s.now - c.resyncStart) 1000
        let s2 := (s1.countReg 0xB00203 32 1).setReg 0xB00204 (Nat.min d.toNat 4294967295)
        .next ((s2.modComplex complex fun c => { c with epoch := s.control.epoch, resyncStep := 0 }).resyncEnded complex .standby)
    | .lostInput =>
      if (c.resyncStep ≠ 2 && c.resyncStep ≠ 3) || s.control.inputs < c.resyncInput + 65536 then .next s
      else if c.restarts < 3 then
        .next (s.modComplex complex fun c => { c with resyncStep := 1, restarts := c.restarts + 1 })
      else .next (s.resyncEnded complex .offline)

/-- The action that a write of OD 0xB010.01 starts (R430, R435): 1 hand over, 2 resynchronise the twin, 3 take it
OFFLINE. -/
def State.complexAction (s : State) (value : Nat) : State :=
  match s.activeComplex with
  | none => s.setReg 0xB01002 5
  | some a =>
    let b := twinOf a
    let st := (s.complex b).state
    if value = 1 then
      if st = .standby then
        { s.setReg 0xB01002 1 with control := { s.control with declared := some 3 } }
      else s.setReg 0xB01002 5
    else if value = 2 then
      if (st = .offline || st = .standby) && (s.die (0x30 + b)).state = .ready then (s.setReg 0xB01002 0).startResync b
      else s.setReg 0xB01002 5
    else if st = .standby || st = .syncing then (s.setReg 0xB01002 0).setComplex b .offline
    else s.setReg 0xB01002 5

/-- HAND_OVER (R430). -/
def execHandOver (s : State) : Result := .next (s.complexAction 1)

/-- RESYNCHRONISE_TWIN (R435). -/
def execResynchroniseTwin (s : State) : Result := .next (s.complexAction 2)

/-- TWIN_OFFLINE (R428). -/
def execTwinOffline (s : State) : Result := .next (s.complexAction 3)

/-- The commit of OD 0xB0FF.00 (R436): the standby resynchronises in the new mode. -/
def State.controlCommitOp (s : State) (value : Nat) : Nat × State :=
  if value ≠ 1 then (5, s)
  else if 1 < s.shadow 0xB00001 then (1, s.setReg 0xB00002 2)
  else
    match s.activeComplex with
    | none => (1, s.setReg 0xB00002 3)
    | some a =>
      if (s.complex (twinOf a)).state ≠ .standby then (1, s.setReg 0xB00002 3)
      else
        let s1 := ((s.commitRegs [0xB00001]).setReg 0xB00002 0).startResync (twinOf a)
        (1, if s1.compatMode then s1 else s1.release)

/-- CONTROL_COMMIT (R436). -/
def execControlCommit (value : Nat) (s : State) : Result := .next (s.controlCommitOp value).2

/-- CONTROL_CYCLE_END (R436): at each end of 10 µs, in compatibility mode, the changed state is copied and the gate releases
the cycle's outputs. -/
def execControlCycleEnd (s : State) : Result :=
  match s.activeComplex with
  | none => .next s
  | some a =>
    if !s.compatMode || !s.hubSpeaks || s.now % 10000 ≠ 0 then .next s
    else
      let b := twinOf a
      let s1 := if (s.complex b).state = .standby then s.modComplex b fun c => { c with lastInput := s.control.inputs } else s
      .next s1.release

end Sys2Proof.Machine
end

