-- ==== Sys2Proof/Machine/MemoryCommands.lean ====
section
/-! DEFINITION. Commands of the stores above the rig (R148 to R176): accesses at home slices, write-backs of corrected
codewords, scrubbing, the stacks' temperature, and partition changes. -/

namespace Sys2Proof.Machine

/-! ### Accesses at a home slice (R154 to R156, R161, R168) -/

/-- The requester of an access. -/
def State.accessRequester (s : State) (a : Access) : Requester :=
  if a.management then hubRequester
  else match a.requester with
    | some (x, c) => s.requesterAt x c
    | none => {}

/-- The requester of an access faults with a memory fault code (R168, R171). -/
def State.accessFault (s : State) (a : Access) (code : Nat) : State :=
  if a.management then s
  else match a.requester with
    | some (x, c) => s.faultAt x c code noEngine (addressDetail a.offset)
    | none => s

/-- Error symbols that the environment has left in a codeword as its store holds it (R165). -/
def State.disturb (s : State) (w : Nat) (p : ErrorPattern) : State :=
  if p = [] then s
  else
    match placeOf (64 * w) with
    | .hbm t o =>
      if (s.residentLine t (lineOf o)).isSome then s.setResident w (patternAdd (s.residentPattern w) p)
      else s.setStored w (patternAdd (s.storedPattern w) p)
    | .cluster _ _ => s.setStored w (patternAdd (s.storedPattern w) p)
    | .scratch _ _ => s.setStored w (patternAdd (s.storedPattern w) p)
    | .mailbox _ _ => s
    | .reserved => s

/-- The lines of a tower that map to a slice and set, of `n` sets (R154). -/
def linesOfSet (h j n : Nat) : List Nat :=
  let l := 200 * j + h
  if n = 0 || 1207959552 ≤ l then [] else (List.range ((1207959551 - l) / (200 * n) + 1)).map fun i => l + 200 * n * i

/-- Write a line to HBM3 as marked codewords of zero data (R156). -/
def State.markLine (s : State) (t l : Nat) : State :=
  let w := lineOffset t l / 64
  ((((s.wipeRange (lineOffset t l) 128).setStored w complementedChecks).setStored (w + 1) complementedChecks)).countReg
    0x503105 64 2

/-- A tag codeword cannot be corrected (R156): the set's lines are dropped, every line that maps to it is marked, and
the event names tower, slice and set: bits [8:0] hold the low bits of the set's number (DEDUCED, log 20). -/
def State.tagsLost (s : State) (t h j : Nat) (p : ErrorPattern) : State :=
  let n := setsOf (s.tower t).scratch h
  let s1 := (linesOfSet h j n).foldl (fun s l => s.markLine t l) s
  (s1.setSet (4096 * (200 * t + h) + j) {}).memoryError 5 (j % 512 + 512 * h + 131072 * t) 0 (syndromeBytes p) {}

/-- What an access finds of its set's tags: where they are uncorrectable, the set is lost (R156). -/
def State.badTags (s : State) (a : Access) : State :=
  match placeOf a.offset with
  | .hbm t o =>
    let n := setsOf (s.tower t).scratch (lineOf o % 200)
    if n = 0 || decodePattern a.tagUpset ≠ .uncorrectable then s
    else s.tagsLost t (lineOf o % 200) (lineOf o / 200 % n) a.tagUpset
  | _ => s

/-- How often the stack reports an access's command as parity-failed (R161): only what the resident lines do not serve is a
command to HBM3. -/
def State.parityOf (s : State) (a : Access) : Nat :=
  match placeOf a.offset with
  | .hbm t o => if (s.residentLine t (lineOf o)).isSome then 0 else a.parityFails
  | _ => 0

/-- An access performed at its home slice, whose reply it then is (R154, R155, R161, R168). A command that the stack
reports as parity-failed is repeated, three times at most; when the third repeat fails, the access is treated as uncorrectable
(DEDUCED, log 21). -/
def State.performAccess (s : State) (a : Access) : State :=
  let s1 := (s.disturb (a.offset / 64) a.upset).badTags a
  let fails := s1.parityOf a
  let s2 := s1.countReg 0x504101 32 (Nat.min fails 3)
  if 3 < fails then
    let (syn, s3) := s2.freeWord
    ((s3.countReg 0x503104 64 1).memoryError storeHbm a.offset (a.offset / 64 % 2) (leBytes 8 syn.toNat)
      (s3.accessRequester a)).accessFault a 0x0304
  else
    match a.write with
    | some d =>
      match s2.storeRange a.offset (padTo a.len d) (s2.accessRequester a) with
      | (none, s3) => s3
      | (some code, s3) => s3.accessFault a code
    | none =>
      match s2.loadRange a.offset a.len (s2.accessRequester a) with
      | (.ok _, s3) => s3
      | (.error code, s3) => s3.accessFault a code

/-- HOME_SLICE_ACCESS (R149, R154, R159 step 1, R340): an access that a partition change or a fence stalls waits for its
end. -/
def execHomeSliceAccess (a : Access) (s : State) : Result :=
  if !s.extentPopulated a.offset (max 1 a.len) then .next (s.accessFault a 0x0306)
  else
    match placeOf a.offset with
    | .scratch t _ =>
      if s.stallsForPartition a.offset a.len || !s.towerServes t then
        .next (s.modTower t fun k => { k with stalled := k.stalled ++ [a] })
      else .next (s.performAccess a)
    | .hbm t _ =>
      if s.towerServes t then .next (s.performAccess a)
      else .next (s.modTower t fun k => { k with stalled := k.stalled ++ [a] })
    | _ => .next (s.performAccess a)

/-- Write the stored copy of a codeword back in corrected form, if it can be corrected (R167). -/
def State.writeStoredBack (s : State) (word : Nat) : State :=
  let (p, resident) := match placeOf (64 * word) with
    | .hbm t o => (s.hbmPattern t word, (s.residentLine t (lineOf o)).isSome)
    | _ => (s.storedPattern word, false)
  match decodePattern p with
  | .corrected left => s.correctStored word left resident
  | _ => s

/-- Write the resident copy of a codeword back in corrected form, if it can be corrected (R167). -/
def State.writeResidentBack (s : State) (word : Nat) : State :=
  match decodePattern (s.residentPattern word) with
  | .corrected left => s.correctResident word left
  | _ => s

/-- CORRECTED_WRITEBACK (R167): a codeword that a read corrected is written back at its store's next idle cycle, in each store
that holds it. -/
def execCorrectedWriteback (word : Nat) (s : State) : Result :=
  if !s.memory.writebacks.contains word then .next s
  else
    let s1 := { s with memory := { s.memory with writebacks := s.memory.writebacks.filter (· ≠ word) } }
    .next ((s1.writeStoredBack word).writeResidentBack word)

/-! ### Scrubbing (R172) -/

/-- Scrub one codeword of store `store`, whose pattern is `p`: corrected under R167 by `fix`, marked under R169 through `put`. -/
def State.scrubWord (s : State) (store w : Nat) (p : ErrorPattern) (fix put : State → ErrorPattern → State) : State :=
  match decodePattern p with
  | .clean => s
  | .marked => s
  | .corrected left => fix (s.countCorrected store (64 * w)) left
  | .uncorrectable =>
    (put ((s.countReg (0x503100 + store) 64 1).countReg 0x503105 64 1) (markOf p)).memoryError store (64 * w)
      (w % 2) (syndromeBytes p) {}

/-- Scrub a resident line's codeword: a clean line found uncorrectable is dropped and read again from HBM3 (R168). -/
def State.scrubResident (s : State) (t l w : Nat) : State :=
  match s.residentLine t l with
  | none => s
  | some (k, way, dirty) =>
    match decodePattern (s.residentPattern w), dirty with
    | .uncorrectable, false =>
      let c := s.cacheSet k
      ((s.dropResident t l).setSet k { c with ways := setAt way none c.ways }).countReg 0x503107 64 1
    | _, _ => s.scrubWord storeCache w (s.residentPattern w) (fun s left => s.correctResident w left)
        (fun s p => s.setResident w p)

/-- The tower of a scratch or HBM3 codeword. -/
def towerOfWord (w : Nat) : Option Nat :=
  match placeOf (64 * w) with
  | .hbm t _ => some t
  | .scratch t _ => some t
  | _ => none

/-- HBM_SCRUB (R172): one codeword of a store; for tags `word` is the set's key. A line that is resident and dirty is
skipped in HBM3. -/
def execHbmScrub (store : Store) (word : Nat) (upset : ErrorPattern) (passEnds : Bool) (s : State) : Result :=
  let put := fun (s : State) (p : ErrorPattern) => s.setStored word p
  let fix := fun (s : State) (left : ErrorPattern) => s.correctStored word left false
  let s1 := match store, placeOf (64 * word) with
    | .cluster, .cluster _ a =>
      if a < 0x300000 then
        let s0 := s.disturb word upset
        s0.scrubWord storeCluster word (s0.storedPattern word) fix put
      else s
    | .scratch, .scratch _ _ =>
      if s.populated (64 * word) && (match towerOfWord word with | some t => s.towerServes t | none => true) then
        let s0 := s.disturb word upset
        s0.scrubWord storeScratch word (s0.storedPattern word) fix put
      else s
    | .cache, .hbm t o => if s.towerServes t then (s.disturb word upset).scrubResident t (lineOf o) word else s
    | .hbm, .hbm t o =>
      let line := s.residentLine t (lineOf o)
      let dirty := match line with | some (_, _, d) => d | none => false
      if dirty || !s.stackServes t word || !s.towerServes t then s
      else
        let s0 := s.setStored word (patternAdd (s.storedPattern word) upset)
        s0.scrubWord storeHbm word (s0.hbmPattern t word) (fun s left => s.correctStored word left line.isSome) put
    | .tags, _ =>
      let t := word / 4096 / 200
      let h := word / 4096 % 200
      if t < 4 && s.towerServes t && word % 4096 < setsOf (s.tower t).scratch h && decodePattern upset = .uncorrectable then
        s.tagsLost t h (word % 4096) upset
      else s
    | _, _ => s
  .next (if passEnds && store = .hbm then s1.setReg 0x502002 s1.now else s1)

/-- HBM_TEMPERATURE_READ (R161, R163): doubled refresh above 85 °C, normal below 83 °C. -/
def execHbmTemperatureRead (stack : Nat) (centi : Int) (parityRepeats : Nat) (s : State) : Result :=
  .next ((s.modStack stack fun k =>
    { k with
      centi := centi
      doubled := if 8500 < centi then true else if centi < 8300 then false else k.doubled }).countReg 0x504101 32
    parityRepeats)

/-! ### Partition changes (R152, R158, R159) -/

/-- Scratch steps in the shadow of OD 0x5010. -/
def State.scratchShadow (s : State) (t : Nat) : Nat := s.shadow (0x501001 + t)

/-- The towers whose scratch size an accepted commit changes. -/
def State.scratchChanges (s : State) : List Nat :=
  (List.range 4).filter fun t => s.scratchShadow t ≠ s.reg (0x501001 + t)

/-- A commit of OD 0x50FF.00 (R158, R420): the answer is the transaction status. The sizes come into force at the end of
each tower's change (R486). -/
def State.memoryCommit (s : State) (value : Nat) : Nat × State :=
  if value ≠ 1 then (5, s)
  else if s.commitPending 0x50 then (10, s)
  else if (List.range 4).any fun t => 48 < s.scratchShadow t then
    (1, (List.range 4).foldl (fun s t => s.setReg (0x501201 + t) 2) s)
  else
    let changed := s.scratchChanges
    let s1 := (List.range 4).foldl (fun s t =>
      if changed.contains t then
        (s.setReg (0x501201 + t) 1).modTower t fun k => { k with due := some (s.scratchShadow t) }
      else s.setReg (0x501201 + t) 0) s
    (1, s1.setCommitPending 0x50 (changed ≠ []))

/-- MEMORY_COMMIT. -/
def execMemoryCommit (value : Nat) (s : State) : Result := .next (s.memoryCommit value).2

/-- Write one way back if it is dirty. -/
def State.writeBackWay (s : State) (t : Nat) (w : Option (Nat × Bool)) : State :=
  match w with
  | some (l, true) => s.writeBackLine t l
  | _ => s

/-- Write the dirty lines of one set of tower `t` back; they stay, clean. -/
def State.writeBackSet (s : State) (t k : Nat) (c : CacheSet) : State :=
  if k / 4096 / 200 ≠ t then s
  else (c.ways.foldl (fun s w => s.writeBackWay t w) s).setSet k
    { c with ways := c.ways.map fun w => w.map fun p => (p.1, false) }

/-- Write back every dirty line of a tower (R159 step 3): it stays resident and clean. -/
def State.writeBackAll (s : State) (t : Nat) : State :=
  s.memory.sets.entries.foldl (fun s e => s.writeBackSet t e.1 e.2) s

/-- Whether a save or restore runs on a tower (R139). -/
def State.movesOn (s : State) (t : Nat) : Bool :=
  s.ctxs.entries.any fun e => (e.2.saveRunning || e.2.restoreRunning) && e.2.cls.any fun c => c / 200 = t

/-- PARTITION_CHANGE (R159 steps 1 to 3): the change starts unless a save or restore runs on the tower. -/
def execPartitionChange (t : Nat) (s : State) : Result :=
  match (s.tower t).due with
  | none => .next s
  | some n =>
    if s.movesOn t || (s.die (0x10 + t)).state ≠ .ready then .next s
    else
      let s1 := s.modTower t fun k =>
        { k with due := none, change := some { old := k.scratch, new := n, started := s.now, draining := true } }
      .next (s1.writeBackAll t)

/-- Invalidate every tag of a tower (R159 step 4, R175). -/
def State.invalidateTags (s : State) (t : Nat) : State :=
  { s with memory := { s.memory with
      sets := s.memory.sets.dropKeys fun k => k / 4096 / 200 = t
      lineErrors := s.memory.lineErrors.dropKeys fun w => match placeOf (64 * w) with | .hbm u _ => u = t | _ => false } }

/-- Apply stalled accesses in arrival order. -/
def State.performStalled (s : State) : List Access → State
  | [] => s
  | a :: l =>
    (if s.extentPopulated a.offset (max 1 a.len) then s.performAccess a else s.accessFault a 0x0306).performStalled l

/-- PARTITION_CHANGE_END (R159 steps 3 to 6): what is dirty is written back, tags are invalid, frames that change role
are zero, the new sets are in force, stalled accesses proceed and the event carries the new size. -/
def execPartitionChangeEnd (t : Nat) (s : State) : Result :=
  match (s.tower t).change with
  | none => .next s
  | some c =>
    if (s.die (0x10 + t)).state ≠ .ready && (s.die (0x10 + t)).state ≠ .fencing then .next s else
    let lo := 0x1000000 * Nat.min c.old c.new
    let hi := 0x1000000 * Nat.max c.old c.new
    let base := 0xC000000000 + 0x40000000 * t
    let s1 := ((s.writeBackAll t).invalidateTags t).wipeRange (base + lo) (hi - lo)
    let stalled := if s.towerServes t then (s1.tower t).stalled else []
    let s2 := s1.modTower t fun k =>
      { k with scratch := c.new, change := none, stalled := if s.towerServes t then [] else k.stalled }
    let d := s.now - c.started
    let s3 := ((s2.setReg (0x501001 + t) c.new).setReg (0x501201 + t) 0).setReg (0x501301 + t) (Nat.min d 4294967295)
    let s4 := s3.raise 0x1203 (0x10 + t) (0x1000 + t) (leBytes 1 t ++ leBytes 1 c.new ++ leBytes 4 d)
    let busy := (List.range 4).any fun u => (s4.tower u).change.isSome || (s4.tower u).due.isSome
    let s5 := if (s.die (0x10 + t)).state = .fencing then
        s4.modDie (0x10 + t) fun k => { k with fenceExtra := s.now - k.resetStart }
      else s4
    .next ((if busy then s5 else s5.setCommitPending 0x50 false).performStalled stalled)

end Sys2Proof.Machine
end

