-- ==== Sys2Proof/Machine/PowerOps.lean ====
section
/-! DEFINITION. Shared operations on power (R345 to R347, R387 to R395): grants, the pool, asks, and reef levels. -/

namespace Sys2Proof.Machine

/-! ### Holders (R388) -/

/-- The key of the grant holder that a die code belongs to: the hub's halves hold one grant. -/
def holderKey (d : Nat) : Nat := if d = 0x31 then 0x30 else d

/-- The grant at start, in mW (R388). -/
def startGrant (extended : Bool) (h : Nat) : Nat :=
  if h = 0 then 700000
  else if h / 16 = 1 then 270000
  else if h / 16 = 2 then (if extended then 640000 else 790000)
  else if h / 16 = 3 then 60000
  else 0

/-- The floor of a holder, in mW (R347, R388). -/
def holderFloor (h : Nat) : Nat :=
  if h = 0 then 500000
  else if h / 16 = 1 then 90000
  else if h / 16 = 2 then 50000
  else if h / 16 = 3 then 60000
  else 10000

/-- A holder. -/
def State.holder (s : State) (h : Nat) : Holder :=
  let g := startGrant s.fuses.extended h
  s.package.holders.get { grant := g, inForce := g } h

/-- Change a holder. -/
def State.modHolder (s : State) (h : Nat) (f : Holder → Holder) : State :=
  { s with package := { s.package with holders := s.package.holders.set h (f (s.holder h)) } }

/-- Change the pool. -/
def State.setPool (s : State) (n : Nat) : State := { s with package := { s.package with pool := n } }

/-- The compute dies' holders, and every holder of the package (R388). -/
def computeHolders : List Nat := [0x20, 0x21, 0x22, 0x23]
def State.allHolders (s : State) : List Nat :=
  [0x00, 0x10, 0x11, 0x12, 0x13, 0x30] ++ computeHolders ++
    ((List.range 2).filter fun g => Nat.testBit s.fuses.guests g).map (0x40 + ·)

/-- The grade power limit in W (R2, OD 0x1000.05), and the package budget in force in W (OD 0x2000.01). -/
def State.gradeLimit (s : State) : Nat := if s.fuses.extended then 4400 else 5000
def State.packageBudget (s : State) : Nat := s.regs.get s.gradeLimit 0x200001

/-- The reachable floor of the package budget, in mW (R387, OD 0x2000.05). -/
def State.budgetFloor (s : State) : Nat :=
  200000 + sumOf (fun h => (s.holder h).grant) (s.allHolders.filter fun h => h / 16 ≠ 2)

/-- The site that a budget record goes to (R346). -/
def holderSite (h : Nat) : Nat := if h / 16 = 1 || h / 16 = 2 then h % 16 else if 0x40 ≤ h then 5 + h % 16 else 4

/-- A budget record's bytes (R346). -/
def budgetRecord (kind die seq amount epoch : Nat) : List Nat :=
  (leBytes 1 kind ++ leBytes 1 die ++ leBytes 2 0 ++ leBytes 4 seq ++ leBytes 4 amount ++ leBytes 4 epoch).map (·.toNat)

/-- Send the present GRANT of a holder (R346): KIND 1. -/
def State.transmitGrant (s : State) (h : Nat) : State :=
  let k := s.holder h
  (s.modHolder h fun k => { k with sentAt := s.now }).emit
    (.control (holderSite h) 5 (budgetRecord 1 h k.seq k.grant s.control.epoch))

/-- Grant an amount (R347): a GRANT takes the next SEQ, and is unacknowledged. -/
def State.sendGrant (s : State) (h mw : Nat) : State :=
  (s.modHolder h fun k => { k with grant := mw, seq := (k.seq + 1) % 4294967296, acked := false }).transmitGrant h

/-- Lower one compute die's grant by up to `share`, not below its floor. -/
def lowerStep (share : Nat) (cut : Bool) (acc : Nat × State) (h : Nat) : Nat × State :=
  let k := acc.2.holder h
  let d := Nat.min share (k.grant - holderFloor h)
  (acc.1 + d,
    (acc.2.modHolder h fun k =>
      if cut then { k with cutting := k.cutting + d } else { k with freeing := k.freeing + d }).sendGrant h (k.grant - d))

/-- Lower compute dies by equal amounts, none below its floor (R389, R387), for `need` in all: those that can still be
lowered share what is left; `cut` takes the power out of the budget, else it goes to the pool. Answers what was found. A
share is rounded up to a mW. -/
def State.lowerCompute (need : Nat) (cut : Bool) : Nat → State → Nat × State
  | 0, s => (0, s)
  | rounds + 1, s =>
    let able := computeHolders.filter fun h => holderFloor h < (s.holder h).grant
    if need = 0 || able.isEmpty then (0, s)
    else
      let share := ceilDiv need able.length
      let (got, s1) := able.foldl (lowerStep share cut) (0, s)
      let (more, s2) := s1.lowerCompute (need - got) cut rounds
      (got + more, s2)

/-- The order of service among holders (R389): rig, hub, cache dies, guests. -/
def serviceRank (h : Nat) : Nat := if h = 0 then 0 else if h / 16 = 3 then 1 else if h / 16 = 1 then 2 else 3

/-- Asks in the order of service. -/
def asksInOrder (l : List (Nat × Nat)) : List (Nat × Nat) :=
  (List.range 4).flatMap fun r => l.filter fun a => serviceRank a.1 = r

/-- The pool meets the asks that are due, in order (R389). -/
def State.serveAsks (s : State) : State :=
  (asksInOrder s.package.asks).foldl (fun s a =>
    let give := Nat.min a.2 s.package.pool
    if give = 0 then s
    else
      let s1 := (s.setPool (s.package.pool - give)).sendGrant a.1 ((s.holder a.1).grant + give)
      { s1 with package := { s1.package with
          asks := (s1.package.asks.map fun b => if b.1 = a.1 then (b.1, b.2 - give) else b).filter fun b => 0 < b.2 } }) s

/-- Power comes to the pool. -/
def State.toPool (s : State) (n : Nat) : State := (s.setPool (s.package.pool + n)).serveAsks

/-- Serve an ASK of `wanted` mW in all (R389): the pool, then compute dies lowered; a compute die's from the pool only. The
hub answers with a GRANT, which may be unchanged (R347). -/
def State.serveAsk (s : State) (h wanted : Nat) : State :=
  let k := s.holder h
  let give := Nat.min (wanted - k.grant) s.package.pool
  let s1 := (s.setPool (s.package.pool - give)).sendGrant h (k.grant + give)
  let due := ((s1.package.asks.lookup h).getD 0)
  let rest := wanted - k.grant - give
  if h / 16 = 2 then s1
  else
    let (got, s2) := s1.lowerCompute (rest - due) false 4
    let newDue := Nat.min rest (due + got)
    { s2 with package := { s2.package with
        asks := (s2.package.asks.filter fun a => a.1 ≠ h) ++ (if newDue = 0 then [] else [(h, newDue)]) } }

/-- The budget that a commit has lowered takes effect once no lowered GRANT is unacknowledged (R387). -/
def State.budgetSettles (s : State) : State :=
  match s.package.budgetPending with
  | none => s
  | some b =>
    if s.package.holders.entries.any fun e => 0 < e.2.cutting then s
    else
      let s1 := ((s.setReg 0x200001 b).setReg 0x200004 0).setCommitPending 0x20 false
      { s1 with package := { s1.package with budgetPending := none } }

/-- A holder has acknowledged its grant in force (R345). -/
def State.grantAcked (s : State) (h : Nat) : State :=
  let k := s.holder h
  (((s.modHolder h fun k => { k with acked := true, freeing := 0, cutting := 0 }).toPool k.freeing)).budgetSettles

/-- A reset die returns to READY at its floor (R347): what it held above it goes to the pool. -/
def State.holderToFloor (s : State) (d : Nat) : State :=
  let h := holderKey d
  let k := s.holder h
  let f := Nat.min (holderFloor h) k.grant
  ((s.modHolder h fun k =>
    { k with
      grant := f
      inForce := f
      acked := true
      freeing := 0
      cutting := 0
      atFloor := true
      lastHeard := s.now }).toPool (k.grant - f + k.freeing)).budgetSettles

/-! ### Reef levels (R392 to R395, R401) -/

/-- Keys of thermal elements (R396): a zone by its number, every other element by 0x100 and its element code. -/
def elementKey : ThermalElement → Nat
  | .zone z => z
  | .cacheDie t => 0x110 + t
  | .hubHalf h => 0x130 + h
  | .guest g => 0x140 + g
  | .lampBar b => 0x160 + b
  | .stack k => 0x180 + k
  | .rig => 0x100
  | .coolant => 0x101
  | .flash => 0x102

/-- A thermal element. -/
def State.element (s : State) (k : Nat) : Element := s.thermal.elements.get {} k

/-- Change a thermal element. -/
def State.modElement (s : State) (k : Nat) (f : Element → Element) : State :=
  { s with thermal := { s.thermal with elements := s.thermal.elements.modify {} k f } }

/-- The tower beside a lamp bar (R401). -/
def barTower (b : Nat) : Nat := if b = 8 then 0 else if b = 10 then 1 else if b = 9 then 2 else if b = 11 then 3 else b / 2

/-- The thermal level of zone `z` of 0 to 31 (R401): the highest that reaches it. -/
def State.thermalLevel (s : State) (z : Nat) : Nat :=
  let t := z / 8
  let reach := [z, 0x110 + t, 0x130, 0x131, 0x100] ++
    (((List.range 12).filter fun b => barTower b = t).map (0x160 + ·))
  reach.foldl (fun m k => Nat.max m (s.element k).level) 0

/-- The die power level of compute die `t` (R394). -/
def State.powerLevelOf (s : State) (t : Nat) : Nat := s.thermal.powerLevel.get 0 t

/-- The applied level of a zone (R392). -/
def State.appliedLevel (s : State) (z : Nat) : Nat := s.thermal.applied.get 0 z

/-- Work out every zone's applied level again, counting each change (R392, OD 0x2013.02). -/
def State.reefReview (s : State) : State :=
  (List.range 32).foldl (fun s z =>
    let l := Nat.max (s.thermalLevel z) (s.powerLevelOf (z / 8))
    if l = s.appliedLevel z then s
    else { s with thermal := { s.thermal with applied := s.thermal.applied.set z l } }.countReg 0x201302 64 1) s

/-- Set a die's power level. -/
def State.setPowerLevel (s : State) (t l : Nat) : State :=
  { s with thermal := { s.thermal with powerLevel := s.thermal.powerLevel.set t l } }.reefReview

/-! ### Handshake rates (R56, R57) -/

/-- Clusters in service (R57). -/
def State.serving (s : State) : List Nat := (List.range 800).filter fun c => !(s.cluster c).outOfService

/-- The FP4 peak in POPS (R57): the sum of 32,768 × rate, 64 / 1,953,125 of each M handshakes/s, to the nearest F32. -/
def State.fp4Peak (s : State) : Nat :=
  let n := 2 ^ 40 * (64 * sumOf (fun c => (s.cluster c).rate) s.serving)
  fp32.round .nearestEven (.fin false (2 * (n / 1953125) + if n % 1953125 = 0 then 0 else 1) (-41))

/-- The lowest, mean and highest rate of the clusters in service, and the rows of OD 0x6011.00 (R57). -/
def State.ratesServing (s : State) : List Nat := s.serving.map fun c => (s.cluster c).rate
def State.rateLowest (s : State) : Nat := s.ratesServing.foldl Nat.min (s.ratesServing.headD 0)
def State.rateMean (s : State) : Nat :=
  if s.ratesServing = [] then 0 else (quotient (sumOf id s.ratesServing) s.ratesServing.length).toNat
def State.rateHighest (s : State) : Nat := s.ratesServing.foldl Nat.max 0
def State.rateRows (s : State) : List Byte :=
  rowsFor 800 fun c => leBytes 2 ((s.cluster c).rate + bitAt 12 (s.cluster c).stale + 8192 * s.appliedLevel (zoneOf c))

/-- The figures of R57 refresh. -/
def State.refreshRates (s : State) : State :=
  ((((s.setReg 0x601001 s.rateLowest).setReg 0x601002 s.rateMean).setReg 0x601003 s.rateHighest).setReg 0x601004
    s.fp4Peak).setBlob 0x601100 s.rateRows

/-- A cluster out of service (R56, R333): it reports rate 0, stale. -/
def Cluster.out (k : Cluster) : Cluster := { k with outOfService := true, rate := 0, stale := true }

/-! ### Reef pauses (R392, R394) -/

/-- r of a reef level, in eighths (R392): 0, 1/8, 1/4, 1/2, 1, 2, 4, 8. -/
def reefEighths : List Nat := [0, 1, 2, 4, 8, 16, 32, 64]

/-- Whether power at a level's matrix duty 1 / (1 + r) is within a grant (R394): the duty acts on the matrix engines'
power alone. -/
def withinAt (total matrix grant level : Nat) : Bool :=
  let n := 8 + reefEighths.getD level 0
  (total - matrix) * n + matrix * 8 ≤ grant * n

/-- The lowest level whose duty brings the last window's power within a grant (R394); 7 if none does. -/
def State.levelFor (s : State) (t grant : Nat) : Nat :=
  let p := s.thermal.lastPower.get (0, 0) t
  ((List.range 8).find? (withinAt p.1 p.2 grant)).getD 7

/-- A die obeys a grant (R347, R394). -/
def State.obey (s : State) (h mw : Nat) : State :=
  let s1 := s.modHolder h fun k => { k with inForce := mw }
  if h / 16 = 2 && mw < (s.holder h).inForce then s1.setPowerLevel (h % 16) (s1.levelFor (h % 16) mw) else s1

end Sys2Proof.Machine
end

