-- ==== Sys2Proof/Machine/Dies.lean ====
section
/-! DEFINITION. Vertical links, stays and their repair (R329 to R334), width agreement (R335, R336), and the resets of single
dies (R338 to R342). -/

namespace Sys2Proof.Machine

/-! ### Links and stays (R329) -/

/-- A link ID from its fields, and its fields. -/
def linkId (kind site index : Nat) : Nat := 4096 * kind + 512 * site + index
def linkKind (id : Nat) : Nat := id / 4096
def linkSite (id : Nat) : Nat := id / 512 % 8
def linkIndex (id : Nat) : Nat := id % 512

/-- Links of a kind at a site. -/
def linkCount (kind site : Nat) : Nat :=
  if site ≤ 3 then
    if kind = 1 then 200 else if kind = 2 then 2 else if kind = 3 || kind = 4 then siteLanes site
    else if kind = 5 then 2 else if kind = 6 then 216 else if kind = 7 then 24 else 0
  else if site = 4 then
    if kind = 2 then 4 else if kind = 3 || kind = 4 then siteLanes 4 else if kind = 5 then 2 else 0
  else 0

/-- Whether an ID names a link: the hub's service links are those of its halves. -/
def isLink (id : Nat) : Bool :=
  linkIndex id < linkCount (linkKind id) (linkSite id) &&
  !(linkKind id = 2 && linkSite id = 4 && linkIndex id < 2)

/-- Stays of a link, by kind. -/
def linkStays (kind : Nat) : Nat :=
  if kind = 1 then 128 else if kind = 2 then 16 else if kind = 3 || kind = 4 then 16 else if kind = 5 then 32 else 1

/-- The quarter, or the copy, that a stay belongs to. -/
def stayPart (kind stay : Nat) : Nat :=
  if kind = 1 then stay % 64 / 16 else if kind = 2 then stay / 8 else if kind = 3 || kind = 4 then stay / 4
  else if kind = 5 then stay / 16 else 0

/-- A link as it is after start: full width, every quarter or copy in. -/
def defaultLink (id : Nat) : Link :=
  let kind := linkKind id
  { mask := if kind = 2 || kind = 5 then 3 else if kind = 6 || kind = 7 then 1 else 15 }

/-- A link. -/
def State.link (s : State) (id : Nat) : Link := s.package.links.get (defaultLink id) id

/-- Change a link, with the time. -/
def State.modLink (s : State) (id : Nat) (f : Link → Link) : State :=
  { s with package := { s.package with
      links := s.package.links.set id { f (s.link id) with changed := s.stamp } } }

/-- The key of a stay. -/
def stayKey (link stay : Nat) : Nat := 256 * link + stay

/-- A stay: the stay map is fused (R334). -/
def State.stay (s : State) (k : Nat) : Stay := s.package.stays.get { swapped := s.fuses.stayMap.get [] k } k

/-- Change a stay. -/
def State.modStay (s : State) (k : Nat) (f : Stay → Stay) : State :=
  { s with package := { s.package with stays := s.package.stays.set k (f (s.stay k)) } }

/-- Quarters in a mask. -/
def quartersIn (mask : Nat) : Nat := sumOf (fun q => mask / 2 ^ q % 2) (List.range 4)

/-- A mask without one of its quarters or copies. -/
def maskWithout (mask q : Nat) : Nat := if Nat.testBit mask q then mask - 2 ^ q else mask

/-- The lowest quarter of a mask, as a mask. -/
def lowestQuarter (mask : Nat) : Nat :=
  match (List.range 4).find? fun q => Nat.testBit mask q with
  | some q => 2 ^ q
  | none => 0

/-- Queue a repair record (R334); OD 0x1020.04 counts those pending. -/
def State.queueRepair (s : State) (r : RepairRecord) : State :=
  { s with package := { s.package with repairQueue := s.package.repairQueue ++ [r] } }

/-! ### Resets of dies (R338 to R341) -/

/-- The contexts that hold clusters of compute die `t`. -/
def State.holdersOn (s : State) (t : Nat) : List Nat :=
  ((s.clusters.entries.filter fun e => e.1 / 200 = t).filterMap fun e => e.2.bound).eraseDups

/-- A context loses its cluster state (R341): it faults with 0x0703, can only be closed, and its clusters are free. -/
def State.loseContext (s : State) (x : Nat) : State :=
  let s1 := s.faultCtx x 0x0703 noCluster noEngine 0 (s.ctx x).consumer.toNat
  ((s1.modCtx x fun k =>
    { k with
      clusterLost := true
      holds := false
      ending := false
      deferredSince := none
      saveRunning := false
      restoreRunning := false }).freeClusters x).closeIfPending x

/-- Cluster memory and cluster state of a compute die are wiped (R440). -/
def State.wipeClusters (s : State) (t : Nat) : State :=
  let s1 := s.wipeRange (clusterOffset (200 * t) 0) (200 * 0x400000)
  { s1 with clusters := s1.clusters.mapVals fun c k => if c / 200 = t then { k with core := {}, bound := none } else k }

/-- Compute die `t` goes into reset (R341, R440): what holds its clusters has lost them, and it is wiped. -/
def State.computeReset (s : State) (t : Nat) : State :=
  let s1 := (s.holdersOn t).foldl (fun s x => s.loseContext x) s
  let s2 := s1.wipeClusters t
  { s2 with thermal := { s2.thermal with powerLevel := s2.thermal.powerLevel.set t 0 } }.reefReview

/-- Links that a die agrees on with its neighbours after its reset (R335). -/
def agreementLinks (d : Nat) : List Nat :=
  let t := d % 16
  let lanes := fun (site : Nat) => (List.range (siteLanes site)).flatMap fun n => [linkId 3 site n, linkId 4 site n]
  if d / 16 = 1 then ((List.range 200).map fun n => linkId 1 t n) ++ lanes t
  else if d / 16 = 2 then (List.range 200).map fun n => linkId 1 t n
  else if d / 16 = 3 then lanes 4
  else []

/-- Forget the streams to and from a slot: packets under way and at their destination, sequence numbers and credits. -/
def State.forgetSlot (s : State) (t : Nat) : State :=
  let touches := fun k => k / 8 / 16 = t || k / 8 % 16 = t
  let r := s.rig
  { s with rig := { r with
      inFlight := r.inFlight.filter fun f => f.packet.src ≠ t && f.packet.dst ≠ t
      arrived := r.arrived.mapVals fun site l => if site = t then [] else l.filter fun p => p.src ≠ t
      spent := r.spent.dropKeys touches
      freed := r.freed.dropKeys touches
      credited := r.credited.dropKeys touches
      pseqNext := r.pseqNext.dropKeys touches
      pseqExpected := r.pseqExpected.dropKeys touches
      mcPending := r.mcPending.filter fun m => m.src ≠ t
      mcReserved := r.mcReserved.filter fun m => m.site ≠ t && m.src ≠ t } }

/-- Packets to and from a slot that are sent and not acknowledged: in replay buffers, under way, to be sent again, or at their
destination and not yet applied. -/
def State.unackedOf (s : State) (t : Nat) : List Packet :=
  let mine := fun (p : Packet) => p.src = t || p.dst = t || p.targets.any fun q => q.slot = t
  (((s.rig.lanes.entries.flatMap fun e => e.2.replay.map fun r => r.2.2) ++
    (s.rig.standing.entries.flatMap fun e => e.2.replay.map fun r => r.2.2) ++ s.rig.inFlight.map (·.packet) ++
    (s.rig.outbox.filter fun (p : Packet) => p.again ≠ Resending.no) ++ s.arrivedAt t).filter mine)

/-- Every site discards its unacknowledged packets to and from a slot, and their contexts fault with 0x0701 (R340). -/
def State.discardSlot (s : State) (t : Nat) : State :=
  let l := s.unackedOf t
  let keep := fun (e : Nat × Nat × Packet) => !(e.2.2.src = t || e.2.2.dst = t || e.2.2.targets.any fun q => q.slot = t)
  let s1 := { s with rig := { s.rig with
    outbox := s.rig.outbox.filter fun (p : Packet) => decide (p.again = Resending.no) || keep (0, 0, p)
    lanes := s.rig.lanes.mapVals fun _ k => { k with replay := k.replay.filter keep }
    standing := s.rig.standing.mapVals fun _ k => { k with replay := k.replay.filter keep } } }
  let ctxs := ((l.map fun p => p.req.ctx).filter fun x => x < 1024 && x ≠ 0).eraseDups
  ctxs.foldl (fun s x => s.faultCtx x 0x0701 noCluster noEngine 0 (s.ctx x).consumer.toNat) (s1.forgetSlot t)

/-- The contexts with a member on tower `t` that runs a COLLECTIVE. -/
def State.collectiveOn (s : State) (t : Nat) : List Nat :=
  (s.ctxs.entries.filter fun e =>
    e.2.state = .bound && e.2.cls.any fun c =>
      c / 200 = t && (memberOf e.2 c).phase ≠ .idle &&
        (match descriptorAt e.2 (memberOf e.2 c).next with | some d => dOpcode d = 6 | none => false)).map (·.1)

/-- A fence of tower `t` stops its collectives (R340 step 1). -/
def State.fenceCollectives (s : State) (t : Nat) : State :=
  (s.collectiveOn t).foldl (fun s x => s.faultCtx x 0x0702 noCluster noEngine 0 (s.ctx x).consumer.toNat) s

/-- Tower `t`'s logic is in reset (R340 steps 5 and 6, R344): its tags are invalid and its lanes OUT. -/
def State.towerReset (s : State) (t : Nat) : State :=
  let s1 := (slotLanes t).foldl (fun s k => (s.stopLane k .out).modLane k fun l => { l with noRetrain := true }) s
  let s2 := (List.range 11).foldl (fun s d => s.endFull (standPath t d)) s1
  ((s2.invalidateTags t).forgetSlot t).freeCredits

/-- A partition change on a tower ends with its die (R35): the size in force stays, and a commit that waited for it ends (DESIGN
CHOICE, log 103: the spec does not say which size a change leaves that a shutdown ends). -/
def State.endChange (s : State) (t : Nat) : State :=
  if (s.tower t).change.isNone && (s.tower t).due.isNone then s
  else
    let s1 := (s.modTower t fun k => { k with change := none, due := none }).setReg (0x501201 + t) 0
    if (List.range 4).any fun u => (s1.tower u).change.isSome || (s1.tower u).due.isSome then s1 else s1.setCommitPending 0x50 false

/-- A cache die stops without a fence (R340): what its requesters wait for is lost. -/
def State.cacheAbrupt (s : State) (t : Nat) : State :=
  let s1 := ((s.fenceCollectives t).discardSlot t).endChange t
  let held := (s1.tower t).hold
  let stalled := (s1.tower t).stalled
  let s2 := s1.modTower t fun k => { k with hold := [], stalled := [] }
  let s3 := stalled.foldl (fun s a => s.accessFault a 0x0701) s2
  (held.foldl (fun s q => s.answerOrigin q (.error 0x0701)) s3).towerReset t

/-- The half of a complex stops (R341): it is OFFLINE, unless it is the active one, which its twin finds silent. -/
def State.halfStops (s : State) (h : Nat) : State :=
  if s.activeComplex = some h then s else s.setComplex h .offline

/-- A die goes down without a fence (R339 to R341), into RESET, SHUTDOWN or OUT. -/
def State.abruptReset (s : State) (d : Nat) (st : DieState) : State :=
  let was := (s.die d).state
  if was = .out || was = st || (was = .shutdown && st = .reset) then s
  else
    let running := was = .ready || was = .fencing
    let s1 := (s.setDieState d st).modDie d fun k => { k with abrupt := true, resetStart := s.now, unagreed := [] }
    let s2 := { s1 with package := { s1.package with dueResets := s1.package.dueResets.filter fun e => e.1 ≠ d } }
    if !running then s2
    else if d / 16 = 1 then s2.cacheAbrupt (d % 16)
    else if d / 16 = 2 then s2.computeReset (d % 16)
    else if d / 16 = 3 then s2.halfStops (d % 16)
    else if d / 16 = 4 then
      if (s2.guest (d % 16)).state = .absent then s2 else s2.revokePass (d % 16) .down
    else s2

/-- Begin a fenced reset of a compute die or a hub half (R339, R341): a compute die's contexts are parked at once; a half
hands over if its complex is the active one. -/
def State.startFence (s : State) (d : Nat) : State :=
  let s1 := (s.setDieState d .fencing).modDie d fun k => { k with abrupt := false, resetStart := s.now }
  if d / 16 = 2 then (s.holdersOn (d % 16)).foldl (fun s x => s.beginStop x) s1
  else if s.activeComplex = some (d % 16) then { s1 with control := { s1.control with declared := some 4 } }
  else (s1.setComplex (d % 16) .offline).setDieState d .reset

/-- A reset has ended, or a fenced one is due: the next one that waits starts (R341). A cache die's waits for KD_FENCE. -/
def State.nextReset (s : State) : State :=
  if s.resetRunning then s
  else
    match s.package.dueResets with
    | [] => s
    | (d, _) :: l =>
      if d / 16 = 1 then s
      else { s with package := { s.package with dueResets := l } }.startFence d

/-- Ask for a fenced reset of a die (R339): it runs once no other does. -/
def State.requestReset (s : State) (d : Nat) : State :=
  { s with package := { s.package with dueResets := s.package.dueResets ++ [(d, false)] } }.nextReset

/-- The dies that OD 0x1011.01 names. -/
def resetCodes : List Nat := [0x10, 0x11, 0x12, 0x13, 0x20, 0x21, 0x22, 0x23, 0x30, 0x31]

/-- A write of OD 0x1011.01 (R339, R359): a half whose complex is active needs a STANDBY twin to hand over to (R430). -/
def State.dieResetAction (s : State) (d : Nat) : State :=
  if !resetCodes.contains d then s.setReg 0x101102 2
  else if s.resetRunning || s.package.dueResets ≠ [] then s.setReg 0x101102 3
  else if (s.die d).state = .shutdown || (s.die d).state = .out then s.setReg 0x101102 4
  else if d / 16 = 3 && s.activeComplex = some (d % 16) && (s.complex (twinOf (d % 16))).state ≠ .standby then
    (s.setReg 0xB01002 5).setReg 0x101102 4
  else (s.setReg 0x101102 1).requestReset d

/-- DIE_RESET (R339). -/
def execDieReset (die : Nat) (s : State) : Result := .next (s.dieResetAction die)

/-- WATCHDOG_RESET (R339): a fenced reset, which waits for its turn. -/
def execWatchdogReset (die : Nat) (s : State) : Result :=
  if !resetCodes.contains die || (s.die die).state ≠ .ready || (s.package.dueResets.map (·.1)).contains die then .next s
  else if die / 16 = 3 && s.activeComplex = some (die % 16) && (s.complex (twinOf (die % 16))).state ≠ .standby then
    .next s.hubHalts
  else .next (s.requestReset die)

/-- KD_FENCE (R340 steps 1 to 4): the tower is fenced. What depends on the fence asks State.towerServes. -/
def execKdFence (t : Nat) (s : State) : Result :=
  let d := 0x10 + t
  if s.resetRunning || !(s.package.dueResets.map (·.1)).contains d || (s.die d).state ≠ .ready then .next s
  else
    let s1 := { s with package := { s.package with dueResets := s.package.dueResets.filter fun e => e.1 ≠ d } }
    let s2 := (s1.setDieState d .fencing).modDie d fun k => { k with abrupt := false, resetStart := s.now, fenceExtra := 0 }
    .next (s2.fenceCollectives t)

/-- Whether packets admitted to or from a slot are still under way (R340 step 3). -/
def State.slotBusy (s : State) (t : Nat) : Bool :=
  s.unackedOf t ≠ [] || s.rig.arrived.entries.any fun e => e.2.any fun p => p.src = t

/-- KD_FENCED (R340 steps 4 and 5): dirty lines are written back, after a running partition change; the die enters RESET. -/
def execKdFenced (t : Nat) (s : State) : Result :=
  let d := 0x10 + t
  if (s.die d).state ≠ .fencing || s.slotBusy t || (s.tower t).change.isSome then .next s
  else .next (((s.writeBackAll t).setDieState d .reset).towerReset t)

/-- FENCE_TIMEOUT (R339, R340 step 4): a cache die that has not answered within 250 µs, and the time that a partition change still
took, is reset abruptly. A compute die's parking has a limit of its own (R341). -/
def execFenceTimeout (die : Nat) (s : State) : Result :=
  if die / 16 ≠ 1 || (s.die die).state ≠ .fencing || (s.tower (die % 16)).change.isSome ||
      s.now < (s.die die).resetStart + 250000 + (s.die die).fenceExtra then .next s
  else .next (s.abruptReset die .reset)

/-- ABRUPT_RESET (R339). -/
def execAbruptReset (die : Nat) (s : State) : Result :=
  if resetCodes.contains die then .next (s.abruptReset die .reset) else .next s

/-- DIE_CLOCK_LOSS (R342): 2 µs without lock. -/
def execDieClockLoss (die : Nat) (s : State) : Result :=
  if resetCodes.contains die || die = 0x40 || die = 0x41 then .next (s.abruptReset die .reset) else .next s

/-- CD_PARK_TIMEOUT (R341): once no context holds its clusters, or after 1 ms, when the rest fault with 0x0703, the compute
die resets and is wiped. -/
def execCdParkTimeout (t : Nat) (s : State) : Result :=
  let d := 0x20 + t
  if (s.die d).state ≠ .fencing then .next s
  else if s.holdersOn t ≠ [] && s.now < (s.die d).resetStart + 1000000 then .next s
  else .next ((s.setDieState d .reset).computeReset t)

/-- HUB_HALT (R341): both halves are down. -/
def execHubHalt (s : State) : Result :=
  if (s.die 0x30).state = .ready || (s.die 0x31).state = .ready then .next s else .next s.hubHalts

/-! ### Retirement (R333) -/

/-- The transmit lane that a lane link carries: of its own site, or the one that its receive-bank lane serves. -/
def State.laneOfLink (s : State) (id : Nat) : Option Nat :=
  if linkKind id = 3 then some (laneKey (linkSite id) (linkIndex id)) else (s.lanesInto (linkSite id))[linkIndex id]?

/-- A transmit lane's width in quarters (R333): the least of its own link's and of those at its targets. -/
def State.laneQuarters (s : State) (k : Nat) : Nat :=
  let own := if k / 64 ≤ 4 then (s.link (linkId 3 (k / 64) (k % 64))).width else 4
  (targetSlots (s.laneAt k).targets).foldl (fun w d =>
    if d ≤ 4 then Nat.min w (s.link (linkId 4 d (s.bankLane k d))).width else w) own

/-- The upper die at the end of a service link. -/
def serviceDie (id : Nat) : Nat :=
  if linkSite id = 4 then 0x30 + (linkIndex id - 2) else if linkIndex id = 0 then 0x20 + linkSite id else 0x10 + linkSite id

/-- Cluster `c` is out of service (R333): a context bound to it faults with 0x0704. -/
def State.clusterOut (s : State) (c : Nat) : State :=
  let s1 := s.modCluster c Cluster.out
  match (s.cluster c).bound with
  | some x => s1.faultAt x c 0x0704 noEngine 0
  | none => s1

/-- A link has no quarter, or no copy, left (R333). -/
def State.linkDead (s : State) (id : Nat) : State :=
  let site := linkSite id
  if linkKind id = 1 then s.clusterOut (200 * site + linkIndex id)
  else if linkKind id = 2 then s.abruptReset (serviceDie id) .out
  else if linkKind id = 3 || linkKind id = 4 then
    match s.laneOfLink id with
    | some k => s.laneOut k false
    | none => s
  else if linkKind id = 5 then
    (s.hubSites.filter (· ≠ site) ++ (if site = 4 then [] else [4])).foldl (fun s d =>
      (s.standingDown site d).standingDown d site) s
  else s

/-- Set the quarters or copies of a link that hold no retired stay. -/
def State.setMask (s : State) (id mask : Nat) : State :=
  let copies := linkKind id = 2 || linkKind id = 5
  let width := if copies then (if mask = 0 then 0 else 4) else quartersIn mask
  let old := (s.link id).width
  let s1 := s.modLink id fun l => { l with mask := mask, width := width }
  if width = 0 && old ≠ 0 then s1.linkDead id else s1

/-- A stay is retired (R333). -/
def State.retireStay (s : State) (id stay : Nat) : State :=
  let kind := linkKind id
  let s1 := ((s.modStay (stayKey id stay) fun k => { k with retired := true, suspect := none }).modLink id fun l =>
    { l with retired := l.retired + 1 }).countReg 0x102003 32 1
  if kind = 6 then
    s1.modStack (6 * linkSite id + linkIndex id / 36) fun k => { k with retiredPins := k.retiredPins ++ [linkIndex id % 36] }
  else if kind = 7 then s1.modStack (6 * linkSite id + linkIndex id / 4) fun k => { k with inService := false }
  else s1.setMask id (maskWithout (s1.link id).mask (stayPart kind stay))

/-! ### Suspicion and repair (R331, R332, R334) -/

/-- The die that reports a link: the compute or cache die at it, else the hub half (R326). -/
def linkDie (id : Nat) : Nat := if linkSite id = 4 then 0x30 else if linkKind id = 1 then 0x20 + linkSite id else 0x10 + linkSite id
def linkUnit (id : Nat) : Nat := if linkSite id = 4 then 0x3000 else if linkKind id = 1 then 0x2000 + linkSite id else 0x1000 + linkSite id

/-- Whether a stay is suspected (R331), by what has been counted within 1 ms: of kinds 1 to 5 failures of its parity, which a free
spare carries, and with both spares in use repeated transfers of the link; of kind 6 symbols corrected at its pin position; of kind 7
parity failures that the stack reports. -/
def suspected (kind spares failures repeats : Nat) : Bool :=
  if kind ≤ 5 && 2 ≤ spares then 16 ≤ repeats else 16 ≤ failures

/-- STAY_SUSPECT (R331, R332 steps 1 and 2): a lane link's lane enters QUIESCING, as in steps 2 and 3 of R256. -/
def execStaySuspect (link : Nat) (counts : StayCounts) (s : State) : Result :=
  let stay := counts.stay
  let k := stayKey link stay
  if !isLink link || linkStays (linkKind link) ≤ stay || (s.stay k).retired || (s.stay k).suspect.isSome ||
      !suspected (linkKind link) (s.stay k).swapped.length counts.failures counts.repeats then .next s
  else
    let s1 := s.modStay k fun q => { q with suspect := some s.now }
    if linkKind link = 3 || linkKind link = 4 then
      match s.laneOfLink link with
      | some l => if (s.laneAt l).state = .active then
          .next ((s1.holdMulticasts [l]).modLane l fun q => { q with state := .quiescing })
        else .next s1
      | none => .next s1
    else .next s1

/-- The event of a swap or a retirement (R332, R493). -/
def State.repairEvent (s : State) (link stay bond : Nat) (retired : Bool) : State :=
  s.raise 0x1701 (linkDie link) (linkUnit link)
    (leBytes 2 link ++ leBytes 1 stay ++ leBytes 1 bond ++ leBytes 1 (if retired then 1 else 0))

/-- One failing bond is replaced by a free spare (R332 step 4). -/
def State.swapBond (s : State) (link stay bond : Nat) : State :=
  let s1 := (s.modStay (stayKey link stay) fun q => { q with swapped := q.swapped ++ [bond] }).modLink link fun l =>
    { l with spares := l.spares + 1 }
  ((s1.countReg 0x102002 32 1).repairEvent link stay bond false).queueRepair (.swap link stay bond)

/-- The lane of a repaired lane link is retrained (R332 step 5). -/
def State.repairedLane (s : State) (link : Nat) : State :=
  if linkKind link = 3 || linkKind link = 4 then
    match s.laneOfLink link with
    | some l => if (s.laneAt l).state = .quiescing && (s.laneAt l).narrowing.isNone then (s.laneUp l).restartMulticasts else s
    | none => s
  else s

/-- STAY_REPAIR (R332 steps 3 to 5): `badBonds` is what the bond test finds failing. Lane links are quiet once every flit of
their lane is acknowledged; a vertical port's repair waits while its zone is stopped (R378). -/
def execStayRepair (link stay : Nat) (badBonds : List Nat) (s : State) : Result :=
  let k := stayKey link stay
  let q := s.stay k
  let quiet := if linkKind link = 3 || linkKind link = 4 then
      match s.laneOfLink link with | some l => decide ((s.laneAt l).replay = []) | none => true
    else true
  let zone := zoneOf (200 * linkSite link + linkIndex link)
  if q.suspect.isNone || q.retired || !quiet || (linkKind link = 1 && (s.region zone).stopped) then .next s
  else
    let bad := (badBonds.filter fun b => b < 32 && !q.swapped.contains b).eraseDups
    let s1 := s.modStay k fun q => { q with suspect := none }
    if bad.length + q.swapped.length ≤ 2 then
      .next ((bad.foldl (fun s b => s.swapBond link stay b) s1).repairedLane link)
    else
      .next ((((s1.repairEvent link stay (bad.headD 0xFF) true).queueRepair (.retire link stay)).retireStay link stay).repairedLane
        link)

/-- Whether R404 permits a flash write: the flash lies between 0 °C and 90 °C. -/
def State.flashWindow (s : State) : Bool := 0 ≤ s.thermal.flashCenti && s.thermal.flashCenti ≤ 9000

/-- REPAIR_LOG_WRITE (R334): the oldest pending record is appended to the log; outside the window it stays queued. -/
def execRepairLogWrite (s : State) : Result :=
  match s.package.repairQueue with
  | [] => .next s
  | r :: l =>
    if !s.flashWindow then .next s
    else
      .next { s with
        package := { s.package with repairQueue := l }
        boot := { s.boot with flash := { s.boot.flash with repairLog := s.boot.flash.repairLog ++ [r] } } }

/-! ### Width agreement and the return to READY (R335, R336, R340, R341) -/

/-- The die of the package that agrees on a link now: in TRAINING with the link still open, or in RESET with its rails in
range, which the first descriptor shows to be ready. -/
def State.agreeing (s : State) (id : Nat) : Option Nat :=
  if s.boot.rigLost then none else resetCodes.find? fun d =>
    let k := s.die d
    (agreementLinks d).contains id &&
      ((k.state = .training && (k.unagreed.map (·.1)).contains id) || (k.state = .reset && !k.railsOut))

/-- A die's logic is ready: it enters TRAINING, with every link of its to agree on. -/
def State.enterTraining (s : State) (d : Nat) : State :=
  if (s.die d).state = .training then s
  else (s.setDieState d .training).modDie d fun k => { k with unagreed := (agreementLinks d).map fun id => (id, false) }

/-- A lane link that is back in service trains its lane (R336, R344). -/
def State.laneBack (s : State) (id : Nat) : State :=
  match s.laneOfLink id with
  | some k =>
    if (s.link id).width = 0 then s
    else if linkKind id = 3 then (s.laneUp k).modLane k fun l => { l with noRetrain := false }
    else if (s.laneAt k).state = .active then s.laneUp k
    else s
  | none => s

/-- A thermal restart that a die's return ends (R403): OD 0x2015.02 reads 0. -/
def State.restartDone (s : State) : State := if s.reg 0x201502 = 1 then s.setReg 0x201502 0 else s

/-- The zones of compute die `t` start again (R369, R376, R383): at the supply as read, with no step-down held. -/
def State.clocksBack (s : State) (t : Nat) : State :=
  (List.range 8).foldl (fun s z => ((s.restartZone (8 * t + z)).openCrossing (8 * t + z)).modRegion (8 * t + z) fun k =>
    Clock.retarget { k with
      held := none
      holdUntil := none
      run := 0
      runEnd := none
      managerTarget := 1800
      setPoint := s.thermal.supply.get 750 t
      setAt := s.now }) s

/-- A compute die or a hub half is back (R341, R347): READY at its floor; a half returns as standby. -/
def State.dieBack (s : State) (d : Nat) : State :=
  let s1 := (((s.setDieState d .ready).holderToFloor d).setReg 0x101102 0).restartDone
  let s2 := if d / 16 = 3 then s1.startResync (d % 16) else if d / 16 = 2 then s1.clocksBack (d % 16) else s1
  s2.nextReset

/-- A link leaves width agreement in service on `mask`, or dead (R336 step 6). -/
def State.agreed (s : State) (d id mask : Nat) : State :=
  let dropped := (s.link id).mask ≠ mask
  let s1 := s.setMask id mask
  let s2 := if dropped then s1.queueRepair (.narrow id mask) else s1
  let s3 := s2.raise 0x1704 d (if d / 16 = 1 then 0x1000 + d % 16 else if d / 16 = 2 then 0x2000 + d % 16 else hubUnit)
    (leBytes 2 id ++ leBytes 1 (quartersIn mask))
  let s4 := if linkKind id = 1 then s3 else s3.laneBack id
  let s5 := s4.modDie d fun k => { k with unagreed := k.unagreed.filter fun e => e.1 ≠ id }
  if (s5.die d).unagreed = [] && d / 16 ≠ 1 && (s5.die d).state = .training then s5.dieBack d else s5

/-- A die that is not brought into service (R174, R441): its clusters, or its stacks and lanes, are not either. -/
def State.dieFails (s : State) (d : Nat) : State :=
  let t := d % 16
  let s1 := s.modDie d fun k => { k with state := .out }
  if d / 16 = 2 then (List.range 200).foldl (fun s i => s.modCluster (200 * t + i) Cluster.out) s1
  else if d / 16 = 1 then
    (slotLanes t).foldl (fun s k => s.stopLane k .out)
      ((List.range 6).foldl (fun s i => s.modStack (6 * t + i) fun q => { q with inService := false }) s1)
  else if d / 16 = 3 then s1.setComplex (d % 16) .offline
  else s1

/-- Whether an upper die's identity word fails its complement, names another position, or names another package (R337). -/
def State.identityFails (s : State) (d : Nat) : Bool :=
  s.fuses.badWords.contains d || s.fuses.dieCode.get d d ≠ d ||
    s.fuses.pkgLink.get s.fuses.serial d % 65536 ≠ s.fuses.serial % 65536

/-- The kind of R174 under which a die is not brought into service: 4 for its stay map, 5 for its identity fuses. -/
def State.dieFlaw (s : State) (d : Nat) : Option Nat :=
  if s.fuses.badMaps.contains d then some 4 else if s.identityFails d then some 5 else none

/-- The checks of a die's start (R174, R334, R337): a die that fails one is not brought into service. -/
def State.checkDie (s : State) (d : Nat) : State :=
  match s.dieFlaw d with
  | some kind => (s.criticalMismatch kind d).dieFails d
  | none => s

/-- The quarters that a die which has been reset knows to be whole: the fused map retires no stay, so all but those of the records in
its repair log (R334). -/
def State.loggedMask (s : State) (id : Nat) : Nat :=
  s.boot.flash.repairLog.foldl (fun m r =>
    match r with
    | .swap _ _ _ => m
    | .retire l stay => if l = id then maskWithout m (stayPart (linkKind id) stay) else m
    | .narrow l mask => if l = id then Nat.land m mask else m) 15

/-- A die's path delay is half the round trip of a sync word that it echoes, measured once its width agreement is done (R380). -/
def State.measurePath (s : State) (d roundTrip : Nat) : State :=
  if (s.die d).unagreed ≠ [] then s
  else
    let (half, s1) := s.divFree roundTrip 2
    { s1 with clocks := { s1.clocks with copies := s1.clocks.copies.modify {} d fun k => { k with pathDelay := half.toNat } } }

/-- WIDTH_AGREEMENT (R335, R336): the QMASK of the die that was reset is what its log says, that of its neighbour what the link has
lost so far; `near1` to `far3` say whether either's descriptor held its complement at each of three requests, `training` whether one of
three trainings succeeded. A first failure brings the link down to its lowest agreed quarter, and a second one, or the failure
of a link that has one quarter, makes it dead. -/
def execWidthAgreement (link : Nat) (near1 near2 near3 far1 far2 far3 : Bool) (training : WidthTraining) (s : State) : Result :=
  match s.agreeing link with
  | none => .next s
  | some d =>
    if (s.die d).state = .reset && (s.dieFlaw d).isSome then .next (s.checkDie d)
    else
    let s0 := s.enterTraining d
    let near := if near1 || near2 || near3 then s.loggedMask link else 1
    let far := if far1 || far2 || far3 then (s.link link).mask else 1
    let quarter := ((s0.die d).unagreed.lookup link).getD false
    let both := Nat.land near far
    let mask := if quarter then lowestQuarter both else both
    let s1 := if near ≠ far && !quarter then
        (s0.countReg 0x102005 32 1).raise 0x1703 d (linkUnit link) (leBytes 2 link ++ leBytes 1 (near + 16 * far))
      else s0
    if training.trained && mask ≠ 0 then .next ((s1.agreed d link mask).measurePath d training.roundTrip)
    else if 1 < quartersIn mask then
      .next (s1.modDie d fun k => { k with unagreed := k.unagreed.map fun e => if e.1 = link then (link, true) else e })
    else .next ((s1.agreed d link 0).measurePath d training.roundTrip)

/-- A deferred period end of context `x` begins once nothing defers it. -/
def State.liftDeferral (s : State) (x : Nat) : State :=
  match (s.ctx x).deferredSince with
  | some t =>
    if s.defers x then s
    else s.modCtx x fun k =>
      { k with ending := k.ending || k.state = .bound, deferredSince := none, overrun := k.overrun + (s.now - t) }
  | none => s

/-- Deferred period ends of contexts with members on a tower end with its fence (R340 step 9). -/
def State.liftDeferrals (s : State) : State :=
  s.ctxs.keys.foldl (fun s x => s.liftDeferral x) s

/-- Every tower-store frame and HBM3 codeword of tower `t` becomes a marked codeword (R340 step 8). -/
def State.markTower (s : State) (t : Nat) : State :=
  let hbm := 0x2400000000 * t
  let scratch := 0xC000000000 + 0x40000000 * t
  let s1 := (s.wipeRange hbm 0x2400000000).wipeRange scratch 0x40000000
  { s1 with memory := { s1.memory with
      unmarked := s1.memory.unmarked.filter fun k => k / 6 ≠ t
      marks := s1.memory.marks ++ [(hbm / 64, (hbm + 0x2400000000) / 64), (scratch / 64, (scratch + 0x40000000) / 64)] } }

/-- KD_READY (R340 steps 8 and 9): the die is READY with its new epoch at its floor; the fence lifts, and what was held
flows. -/
def execKdReady (t : Nat) (s : State) : Result :=
  let d := 0x10 + t
  if (s.die d).state ≠ .training || (s.die d).unagreed ≠ [] then .next s
  else
    let s1 := if (s.die d).abrupt then s.markTower t else s
    let s2 := ((s1.setDieState d .ready).modDie d fun k => { k with abrupt := false }).holderToFloor d
    let k := s2.tower t
    let s3 := s2.modTower t fun k => { k with hold := [], stalled := if k.change.isNone then [] else k.stalled }
    let s4 := s3.applyHeld k.hold
    let s5 := if k.change.isNone then s4.performStalled k.stalled else s4
    .next (((s5.liftDeferrals.setReg 0x101102 0).restartDone).nextReset)

/-- RAILS_BACK_IN_RANGE (R502): the rails of a die that a rail fault has reset have been in range for 1 ms. -/
def execRailsBackInRange (die : Nat) (s : State) : Result :=
  .next (s.modDie die fun k => { k with railsOut := false })

end Sys2Proof.Machine
end

