-- ==== Sys2Proof/Machine/Guests.lean ====
section
/-! DEFINITION. Guest sites (R348 to R356), and the measurement chain (R455, R456). -/

namespace Sys2Proof.Machine

/-! ### The measurement chain (R455, R456) -/

/-- Measure an item with a tag (R455): the value is extended, and a log entry appended while the log has room (R456). -/
def State.measureItem (s : State) (tag : Nat) (item : List Byte) : State :=
  let d := shake256 item
  let m := shake256 (s.boot.measure ++ leBytes 4 tag ++ d)
  let n := s.boot.log.length
  let entry := padTo 64 (leBytes 4 n ++ leBytes 4 tag ++ d ++ leBytes 8 s.stamp)
  { s with boot := { s.boot with
      measure := m
      log := if n < 4096 then s.boot.log ++ [entry] else s.boot.log
      logFull := s.boot.logFull || decide (4096 ≤ n + 1) } }

/-! ### Sites (R348 to R350) -/

/-- The slate unit and die of a guest site. -/
def guestUnit (g : Nat) : Nat := 0x6000 + g
def guestDie (g : Nat) : Nat := 0x40 + g

/-- Whether a site is fitted (R5). -/
def State.guestFitted (s : State) (g : Nat) : Bool := g < 2 && Nat.testBit s.fuses.guests g

/-- A guest's grant starts from its floor when its site reaches TRAINING (R389). -/
def State.guestFloor (s : State) (g : Nat) : State :=
  let h := guestDie g
  if (s.holder h).grant ≤ 10000 then s.serveAsk h 10000 else s.holderToFloor h

/-- The Dreuth's capability block goes to a guest (R350): the rig interface's CREDITS, which the spec does not state, are free. -/
def State.sendCapability (s : State) (g modules : Nat) : State :=
  let (credits, s1) := s.freeWord
  s1.wire (.capability g (padTo 64 (leBytes 2 1 ++ leBytes 1 modules ++ leBytes 1 0 ++ leBytes 8 s.fuses.serial ++ leBytes 8 credits.toNat ++
    leBytes 8 0 ++ leBytes 4 10000)))

/-- UCIE_INITIALISATION (R348, R349): 4, 2 or 1 modules at 16, 12 or 8 GT/s; a slower link is not brought up. A LOCKED
site stays LOCKED. -/
def execUcieInitialisation (g modules gts : Nat) (s : State) : Result :=
  let k := s.guest g
  if !s.guestFitted g || !([1, 2, 4].contains modules) || !([8, 12, 16].contains gts) || k.heldInReset ||
      (s.die (guestDie g)).railsOut || (k.state ≠ .down && k.state ≠ .locked) then .next s
  else
    let s1 := s.modGuest g fun k =>
      { k with
        state := if k.state = .locked then .locked else .training
        modules := modules
        bandwidth := modules * gts * 8
        refusedBlocks := 0
        capability := [] }
    .next (((s1.setDieState (guestDie g) .training).guestFloor g).sendCapability g modules)

/-- Whether a guest's capability block keeps the rules of R350. -/
def capabilityGood (part : List Byte) (modules : Nat) (b : List Byte) : Bool :=
  b.length = 64 && field b 0 2 = 1 && field b 2 1 = modules && subBytes b 4 8 = padTo 8 part &&
  ((List.range 4).all fun i => 16 ≤ field b (12 + 2 * i) 2) && field b 20 8 % 4096 = 0 && field b 20 8 ≤ 2 ^ 34

/-- CAPABILITY_BLOCK (R350, R389): accepted, the site is CONFINED and the guest asks for its POWER; a refused one repeats the
training, and the third takes the site DOWN. -/
def execCapabilityBlock (g : Nat) (block : List Byte) (s : State) : Result :=
  let k := s.guest g
  if (s.die (guestDie g)).state ≠ .training || (k.state ≠ .training && k.state ≠ .locked) then .next s
  else if capabilityGood (s.fuses.guestPart.get [] g) k.modules block then
    let s1 := s.modGuest g fun k =>
      { k with
        state := if k.state = .locked then .locked else .confined
        capability := block
        aperture := field block 20 8 }
    .next ((s1.setDieState (guestDie g) .ready).serveAsk (guestDie g) (field block 28 4))
  else if k.refusedBlocks < 2 then .next ((s.modGuest g fun k => { k with refusedBlocks := k.refusedBlocks + 1 }).sendCapability g k.modules)
  else
    let s1 := s.modGuest g fun k =>
      { k with refusedBlocks := k.refusedBlocks + 1, state := if k.state = .locked then .locked else .down }
    .next ((s1.setDieState (guestDie g) .reset).raise 0x1706 (guestDie g) (guestUnit g)
      (leBytes 1 g ++ leBytes 1 (k.refusedBlocks + 1)))

/-! ### Manifests (R352, R353) -/

/-- The device offset of a guest's mailbox (R351). -/
def mailboxOf (g : Nat) : Nat := 0xF000000000 + 0x10000 * g

/-- The minimum security version of a site, as flash holds it (OD 0xC005). -/
def State.guestMinimum (s : State) (g : Nat) : Nat := s.boot.flash.guestMinimum.get 0 g

/-- The RESULT of a manifest (R353). -/
def State.manifestResult (s : State) (g : Nat) (len : Nat) (m : List Byte) : Nat :=
  let k := s.guest g
  let body := subBytes m 0 196
  let zero := fun (off n : Nat) => subBytes body off n = List.replicate n 0
  if len ≠ 3016 || subBytes body 0 4 ≠ asciiBytes "WGMF" || field body 4 2 ≠ 1 || !zero 7 1 || !zero 20 4 || !zero 88 40 then 1
  else if field body 6 1 ≠ g || subBytes body 8 8 ≠ padTo 8 (s.fuses.guestPart.get [] g) then 2
  else if shake256 (subBytes body 128 68) ≠ padTo 32 (s.fuses.guestKey.get [] g) then 3
  else if subBytes body 24 32 ≠ shake256 k.capability then 4
  else if field body 16 4 < s.guestMinimum g then 5
  else if !Config.xmssVerify (subBytes body 128 68) body (subBytes m 196 2820) then 6
  else 0

/-- The hub writes the result to the mailbox (R352). -/
def State.writeResult (s : State) (g result : Nat) : State :=
  let b := mailboxOf g
  let s1 := s.putBytes (b + 0x8000) (leBytes 1 result)
  (s1.putBytes (b + 0x8004) (leBytes 4 (s1.guest g).passEpoch)).putBytes (b + 0x8008) (leBytes 8 s1.stamp)

/-- Raise a site's minimum in flash (R353, R404): a background write, queued while the flash window is closed. -/
def State.raiseGuestMinimum (s : State) (g secver : Nat) : State :=
  if secver ≤ s.guestMinimum g then s
  else if s.flashWindow then
    { s with boot := { s.boot with flash := { s.boot.flash with guestMinimum := s.boot.flash.guestMinimum.set g secver } } }
  else { s with boot := { s.boot with raiseGuest := s.boot.raiseGuest ++ [(g, secver)] } }

/-- GDOOR (R353): the hub verifies the manifest of a site in VERIFYING, and writes RESULT. -/
def execGdoor (g : Nat) (s : State) : Result :=
  if (s.guest g).state ≠ .verifying || s.boot.halted then .next s
  else
    let b := mailboxOf g
    let m := s.held (b + 0x1000) 3016
    let r := s.manifestResult g (leNat (s.held (b + 4) 4)) m
    if r = 0 then
      let s1 := s.modGuest g fun k =>
        { k with
          state := .admitted
          result := 0
          passes := satAdd 32 k.passes 1
          passEpoch := (k.passEpoch + 1) % 4294967296 }
      .next (((s1.writeResult g 0).measureItem 6 (subBytes m 56 32)).raiseGuestMinimum g (field m 16 4))
    else
      let s1 := s.modGuest g fun k =>
        { k with
          state := if 3 ≤ k.refusedManifests then .locked else .confined
          result := r
          refusedManifests := k.refusedManifests + 1 }
      .next (s1.writeResult g r)

/-! ### Requests (R351, R354) -/

/-- A guest's request is refused by its site (R354): counted, the first in each ms raised, and answered ERROR. -/
def State.refuseGuest (s : State) (g : Nat) (r : Req) (code : Nat) : State :=
  let s1 := s.countReg 0xC01101 64 1
  let due : Bool := match (s.guest g).lastRefusalEvent with
    | some t => decide (t + 1000000 ≤ s.now)
    | none => true
  let s2 := if due then
      (s1.modGuest g fun k => { k with lastRefusalEvent := some s.now }).raise 0x1707 (guestDie g) (guestUnit g)
        (leBytes 1 g ++ leBytes 2 code)
    else s1
  s2.wire (.guestReply g (responseTo r (.error code)))

/-- Whether a request keeps the shape that its opcode has (R187, R277). -/
def guestShape (r : Req) : Bool :=
  if r.op = 0x20 then 1 ≤ r.len && r.len ≤ 4096
  else if r.op = 0x21 then 1 ≤ r.data.length && r.data.length ≤ 64 && r.addr % 128 + r.data.length ≤ 128
  else if r.op = 0x60 then 1 ≤ r.data.length && r.data.length ≤ 4096
  else true

/-- The codes by which the site refuses (R296): window checks, address forms, alignment, a DEMOTED target. -/
def siteRefusals : List Nat := [0x0403, 0x0404, 0x0405, 0x0406, 0x040A, 0x040B, 0x040C]

/-- A request of a guest to its mailbox (R351, R352): LOAD and STORE. A STORE to GDOOR of a CONFINED site starts the
verification. -/
def State.guestMailbox (s : State) (g : Nat) (r : Req) : State :=
  let off := r.addr % 2 ^ 16
  let n := if r.op = 0x20 then r.len else r.data.length
  if (r.op ≠ 0x20 && r.op ≠ 0x21) || !guestShape r then s.refuseGuest g r 0x0705
  else if 0x10000 < off + n then s.wire (.guestReply g (responseTo r (.error 0x0306)))
  else
    let (a, s1) := s.plainAccess r.op (mailboxOf g + off) n r.data {}
    let s2 := s1.wire (.guestReply g (responseTo r a))
    if r.op = 0x21 && off < 4 && (s2.guest g).state = .confined then s2.modGuest g fun k => { k with state := .verifying }
    else s2

/-- The increment that a BULK_WRITE carries, as its target takes it: through a window with permission T on the same device
(R273), or the code that refuses it. -/
def State.guestIncrement (s : State) (g device : Nat) (r : Req) : Except Nat (BitVec 24) :=
  match s.translate (1024 + g) (refAddress r.ref) 4 .t with
  | .error code => .error code
  | .ok t => if t.device = device then .ok (refAtTarget t.offset) else .error 0x0403

/-- A request of an admitted guest to a domain address (R354), with the site's windows. -/
def State.guestDomain (s : State) (g : Nat) (r : Req) : State :=
  let q := { r with origin := .guest g, ctx := 1024 + g }
  let part : Part := ⟨1024 + g, 800, noEngine, .guest g r.tag, r.data, s.now, r.addr⟩
  let carries := r.op = 0x60 && r.refAmt ≠ 0
  let target := s.translate (1024 + g) r.addr r.data.length .w
  let ref : Except Nat (BitVec 24) := match carries, target with
    | false, _ => .ok r.ref
    | true, .error code => .error code
    | true, .ok t => s.guestIncrement g t.device r
  if !guestShape r || !passOpcode r.op then s.refuseGuest g r 0x0705
  else
    match ref with
    | .error code => s.refuseGuest g r code
    | .ok ref =>
      match s.issueRequest { q with ref := ref } part {} with
      | (.error code, s1) =>
        if code = stallCode then s
        else if siteRefusals.contains code then s1.refuseGuest g r code
        else s1.wire (.guestReply g (responseTo r (.error code)))
      | (.sent, s1) => s1
      | (.stalled, s1) => s1
      | (.ack, s1) =>
        match carries, target with
        | true, .ok t =>
          let (a, s2) := s1.performRequest { q with op := 0x22, ctx := t.tctx, ref := ref, origin := .management } {}
          s2.wire (.guestReply g (responseTo r (match a with | .error c => .error c | _ => .ack)))
        | _, _ => s1.wire (.guestReply g (responseTo r .ack))
      | (a, s1) => s1.wire (.guestReply g (responseTo r a))

/-- GUEST_REQUEST (R351, R354, R462): to the mailbox; under a hall pass to a domain address; any other form is dropped and
answered 0x0406. A packet that breaks R186, R187 or R194, and what the filter does not admit, is dropped (R209). The bell holds all but mailbox traffic. -/
def execGuestRequest (g : Nat) (r : Req) (s : State) : Result :=
  let st := (s.guest g).state
  if !s.guestFitted g || st = .absent || st = .down || st = .training then .next s
  else if (vcOf r.op ≠ some 1 && r.op ≠ 0x60) || 4096 < r.data.length then .next (s.dropGuestPacket g r.op)
  else if isMailboxForm r.addr then .next (s.guestMailbox g r)
  else if st ≠ .admitted then .next (s.dropGuestPacket g r.op)
  else if s.belled then .next s
  else if !isDomainForm r.addr && r.op ≠ 0x22 then .next (s.refuseGuest g r 0x0406)
  else .next (s.guestDomain g r)

/-! ### Revocation (R349, R356) -/

/-- A guest has gone (R349, R356): its die is in reset, and its count of refused manifests starts anew; a LOCKED site stays
LOCKED. -/
def State.guestGone (s : State) (g : Nat) : State :=
  let st := (s.guest g).state
  if st = .absent then s
  else
    let s1 := if st = .admitted || st = .verifying then s.revokePass g .down else s
    (s1.modGuest g fun k =>
      { k with
        state := if k.state = .locked then .locked else .down
        bandwidth := 0
        modules := 0
        refusedManifests := if k.state = .locked then k.refusedManifests else 0 }).setDieState (guestDie g) .reset

/-- HALL_PASS_REVOKE (R356): the cause that revokes it; a guest that resets or whose link is down for 10 µs is DOWN, the
others are CONFINED. -/
def execHallPassRevoke (g : Nat) (cause : RevokeCause) (s : State) : Result :=
  let st := (s.guest g).state
  let holds := st = .admitted || st = .verifying
  match cause with
  | .guestReset => .next (s.guestGone g)
  | .linkDown ns => if 10000 ≤ ns then .next (s.guestGone g) else .next s
  | .overGrant mw => if holds && (s.holder (guestDie g)).inForce * 11 < mw * 10 then .next (s.revokePass g .confined) else .next s
  | .lifeCycle => if holds then .next (s.revokePass g .confined) else .next s
  | .hubHalt => if holds && s.boot.halted then .next (s.revokePass g .confined) else .next s

/-- A write of OD 0xC010.01 (R349, R356): 0x10 + g revokes a hall pass, 0x20 + g clears LOCKED. -/
def State.guestAction (s : State) (value : Nat) : State :=
  let g := value % 16
  let st := (s.guest g).state
  if !s.guestFitted g then s.setReg 0xC01002 2
  else if value / 16 = 1 then
    if st = .admitted || st = .verifying then (s.revokePass g .confined).setReg 0xC01002 0 else s.setReg 0xC01002 3
  else if st = .locked then
    (s.modGuest g fun k => { k with
      refusedManifests := 0
      state := if (s.die (guestDie g)).state = .ready then .confined
        else if (s.die (guestDie g)).state = .training then .training else .down }).setReg 0xC01002 0
  else s.setReg 0xC01002 3

/-- The values that OD 0xC010.01 takes: of the two sites. -/
def guestActionValue (value : Nat) : Bool := [0x10, 0x11, 0x20, 0x21].contains value

/-- REVOKE_HALL_PASS (R356). -/
def execRevokeHallPass (value : Nat) (s : State) : Result :=
  if guestActionValue value && value / 16 = 1 then .next (s.guestAction value) else .next s

/-- CLEAR_LOCKED (R349). -/
def execClearLocked (value : Nat) (s : State) : Result :=
  if guestActionValue value && value / 16 = 2 then .next (s.guestAction value) else .next s

/-- The commit of OD 0xC1FF.00 (R355): the checks of R272, with status 2 for a site that is not fitted. -/
def State.guestWindowCommitOp (s : State) (value : Nat) : Nat × State :=
  if value ≠ 1 then (5, s)
  else
    let g := s.shadow 0xC10001
    let b := s.blobShadow 0xC10003
    let st := if !s.guestFitted g then 2 else s.windowStatus b
    let s0 := if st = 3 then s.criticalMismatch 3 (windowKey (1024 + g) (s.shadow 0xC10002)) else s
    let s1 := s0.setReg 0xC10004 st
    if st ≠ 0 then (1, s1)
    else
      (1, ({ (s1.commitRegs [0xC10001, 0xC10002]).setBlob 0xC10003 b with
        domain := { s1.domain with
          windows := s1.domain.windows.set (windowKey (1024 + g) (s.shadow 0xC10002)) (windowOfPayload b).loaded } }))

/-- GUEST_WINDOW_COMMIT (R355). -/
def execGuestWindowCommit (value : Nat) (s : State) : Result := .next (s.guestWindowCommitOp value).2

/-! ### Budget records (R345 to R347, R389) -/

/-- An input reaches the hub: the input sequencer numbers it (R426). -/
def State.hubInput (s : State) : State := { s with control := { s.control with inputs := s.control.inputs + 1 } }

/-- Whether a code names a grant holder of this package. -/
def State.isHolder (s : State) (h : Nat) : Bool := s.allHolders.contains (holderKey h)

/-- ASK (R347, R389). -/
def execAsk (holder milliwatt : Nat) (s : State) : Result :=
  if !s.isHolder holder || s.boot.halted then .next s else .next (s.hubInput.serveAsk (holderKey holder) milliwatt)

/-- GRANT (R347, R432): a die drops a record of a lower epoch and ignores one whose SEQ is not above the last; it uses a
higher grant at once, obeys a lower one, and acknowledges. -/
def execGrant (holder seq milliwatt epoch : Nat) (s : State) : Result :=
  let h := holderKey holder
  let d := s.die holder
  if !s.isHolder holder then .next s
  else if epoch < d.highestEpoch then .next (s.countReg 0xB00205 32 1)
  else
    let s1 := s.modDie holder fun k => { k with highestEpoch := epoch }
    if seq ≤ (s.holder h).accepted then .next (s1.modHolder h fun k => { k with lastHeard := s.now })
    else
      let s2 := (s1.modHolder h fun k => { k with accepted := seq, lastHeard := s.now, atFloor := false }).obey h milliwatt
      .next (s2.wire (.control 4 5 (budgetRecord 4 holder seq (s2.holder h).inForce epoch)))

/-- RETURN (R345, R347): the power above what the die keeps goes to the pool. -/
def execReturnOp (holder milliwatt : Nat) (s : State) : Result :=
  let h := holderKey holder
  let k := s.holder h
  if !s.isHolder holder || s.boot.halted then .next s
  else if k.grant ≤ milliwatt then .next s.hubInput
  else
    .next ((s.hubInput.modHolder h fun k => { k with grant := milliwatt, inForce := Nat.min k.inForce milliwatt }).toPool
      (k.grant - milliwatt))

/-- BUDGET_ACK (R345): of the grant that the hub last sent; an older one changes nothing. -/
def execBudgetAck (holder milliwatt : Nat) (s : State) : Result :=
  let h := holderKey holder
  let k := s.holder h
  if !s.isHolder holder || s.boot.halted then .next s
  else if k.acked || k.grant ≠ milliwatt then .next s.hubInput
  else .next (s.hubInput.grantAcked h)

/-- GRANT_REPEAT (R347): an unacknowledged GRANT goes again every 100 µs, with its SEQ. -/
def execGrantRepeat (holder : Nat) (s : State) : Result :=
  let h := holderKey holder
  let k := s.holder h
  if !s.isHolder holder || k.acked || s.boot.halted || s.now < k.sentAt + 100000 then .next s else .next (s.transmitGrant h)

/-- HUB_SILENCE (R347): a die that hears nothing from the hub for 10 ms falls to its floor. -/
def execHubSilence (holder : Nat) (s : State) : Result :=
  let h := holderKey holder
  let k := s.holder h
  if !s.isHolder holder || k.atFloor || s.now < k.lastHeard + 10000000 then .next s
  else .next ((s.obey h (Nat.min (holderFloor h) k.inForce)).modHolder h fun k => { k with atFloor := true })

end Sys2Proof.Machine
end

