-- ==== Sys2Proof/Machine/Clocks.lean ====
section
/-! DEFINITION. Clock regions, stretching and global time (R360 to R386). -/

namespace Sys2Proof.Machine

/-! ### The reference (R362 to R365) -/

/-- Whether a reference input is good. -/
def State.refGood (s : State) (i : Nat) : Bool := if i = 0 then s.clocks.good0 else s.clocks.good1

/-- Set whether a reference input is good. -/
def State.setRef (s : State) (i : Nat) (good : Bool) : State :=
  { s with clocks := if i = 0 then { s.clocks with good0 := good } else { s.clocks with good1 := good } }

/-- Select an input, and pull toward it (R364 step 3). -/
def State.selectRef (s : State) (i : Nat) : State :=
  { s with clocks := { s.clocks with selected := i, holdover := false, pulling := true } }

/-- REFCLK_LOSS (R364 steps 1 to 3): an input is bad; if it is the selected one, the PLL holds over, and leaves holdover for
the other input if that is good. -/
def execRefclkLoss (input : Nat) (s : State) : Result :=
  if 1 < input || !s.refGood input then .next s
  else
    let s1 := s.setRef input false
    if s.clocks.selected ≠ input then .next s1
    else
      let s2 := { s1 with clocks := { s1.clocks with holdover := true, lostAt := s.now, pulling := false } }
      if s2.refGood (1 - input) then .next (s2.selectRef (1 - input)) else .next s2

/-- FAILOVER_PULL_END (R364 step 4): `ppb` is how far the new input's frequency lies from the old one's. -/
def execFailoverPullEnd (ppb : Int) (s : State) : Result :=
  if !s.clocks.pulling then .next s
  else
    let s1 := { s with clocks := { s.clocks with pulling := false } }
    .next (((s1.setReg 0x300001 s.clocks.selected).countReg 0x300004 32 1).raise 0x1801 0 0x4002
      (leBytes 1 s.clocks.selected ++ intBytes 4 ppb))

/-- HOLDOVER_TIMEOUT (R365): no good input 2 µs after the failure. -/
def execHoldoverTimeout (s : State) : Result :=
  if !s.clocks.holdover || s.clocks.good0 || s.clocks.good1 || s.now < s.clocks.lostAt + 2000 then .next s
  else .next s.rigLoss

/-- REFCLK_GOOD (R363, R365): 1 ms inside its limits; one that becomes good within 2 µs of the other's failure is selected,
and later the rig is lost. -/
def execRefclkGood (input : Nat) (s : State) : Result :=
  if 1 < input || s.refGood input then .next s
  else
    let s1 := s.setRef input true
    if !s.clocks.holdover then .next s1
    else if s.now < s.clocks.lostAt + 2000 then .next (s1.selectRef input)
    else .next s1.rigLoss

/-- REFERENCE_FREQUENCY_CHECK (R363): REFCLK1 relative to REFCLK0 over the last 10 µs; the warning beyond 200 ppm. -/
def execReferenceFrequencyCheck (ppb : Int) (s : State) : Result :=
  if s.now % 10000 ≠ 0 then .next s
  else if !(s.clocks.good0 && s.clocks.good1) then
    .next ({ s with clocks := { s.clocks with freqWarning := false } }.setReg 0x300005 0)
  else
    let warn := 200000 < ppb.natAbs
    let s1 := { s with clocks := { s.clocks with freqWarning := warn } }.setReg 0x300005 (leNat (intBytes 4 ppb))
    if warn then .next (s1.raise 0x1802 0 0x4002 (intBytes 4 ppb)) else .next s1

/-- A write of OD 0x3000.02 (R362): a good input is switched to; a bad one is refused with status 2. -/
def State.referenceSelectAction (s : State) (value : Nat) : State :=
  if !s.refGood value then s.setReg 0x300006 2
  else
    let s1 := (s.setReg 0x300002 value).setReg 0x300006 0
    if s.clocks.selected = value then s1 else s1.selectRef value

/-- REFERENCE_SELECT (R362). -/
def execReferenceSelect (value : Nat) (s : State) : Result :=
  if 1 < value then .next s else .next (s.referenceSelectAction value)

/-! ### Zone limits (R366 to R368) -/

/-- The shadow of OD 0x3010.01: 32 limits in MHz. -/
def State.limitShadow (s : State) : List Nat :=
  let b := s.blobShadow 0x301001
  if b = [] then List.replicate 32 1600 else (List.range 32).map fun z => field b (2 * z) 2

/-- Whether a limit is one that R368 accepts. -/
def limitGood (mhz : Nat) : Bool := 400 ≤ mhz && mhz ≤ 1800 && mhz % 25 = 0

/-- Set a zone's limit. -/
def State.setLimit (s : State) (z mhz : Nat) : State := s.modRegion z fun k => Clock.retarget { k with limit := mhz }

/-- The commit of OD 0x30FF.00 (R368). -/
def State.clockCommitOp (s : State) (value : Nat) : Nat × State :=
  if value ≠ 1 then (5, s)
  else if !s.limitShadow.all limitGood then (1, s.setReg 0x301003 2)
  else
    let s1 := (s.setBlob 0x301001 (s.blobShadow 0x301001)).setReg 0x301003 0
    (1, (List.range 32).foldl (fun s z => s.setLimit z (s.limitShadow.getD z 1600)) s1)

/-- CLOCK_COMMIT (R368). -/
def execClockCommit (value : Nat) (s : State) : Result := .next (s.clockCommitOp value).2

/-- ZONE_IDLE (R367). -/
def execZoneIdle (zone : Nat) (s : State) : Result :=
  let k := s.region zone
  match k.unboundSince with
  | none => .next s
  | some t =>
    if 32 ≤ zone || k.idle || s.zoneBound zone || s.now < t + 10000 then .next s
    else .next (s.modRegion zone fun k => Clock.retarget { k with idle := true })

/-- ZONE_SLEW_END (R366): a region that slews at 100 MHz per µs is at its target. -/
def execZoneSlewEnd (region : Region) (s : State) : Result :=
  let key := regionKey region
  let k := s.region key
  let gap := Nat.max k.present k.target - Nat.min k.present k.target
  if k.stopped || k.present = k.target || s.now < k.slewAt + 10 * gap then .next s
  else .next (s.modRegion key fun k => { k with present := k.target })

/-! ### Stretching (R369, R370) -/

/-- The level of a droop in mV (R369): 0 none, 1 25 %, 2 50 %, 3 100 %. -/
def droopLevel (d : Nat) : Nat := if d < 25 then 0 else if d < 40 then 1 else if d < 60 then 2 else 3

/-- The set-point of a region: zones track theirs, the others compare with 750 mV (R369). -/
def State.setPointOf (s : State) (r : Region) : Nat :=
  match r with
  | .zone z => (s.region z).tracked (s.thermal.supply.get 750 (z / 8)) s.now
  | _ => 750

/-- The floor of a step-down in MHz (R370). -/
def stepFloor : Region → Nat
  | .zone _ => 400
  | .cacheDie _ => 1200
  | .hubHalf _ => 800

/-- The die code, zone and unit that a region's event names (R370, R493). -/
def regionNames : Region → Nat × Nat × Nat
  | .zone z => (0x20 + z / 8, z % 8, 0x2000 + z / 8)
  | .cacheDie t => (0x10 + t, 0, 0x1000 + t)
  | .hubHalf h => (0x30 + h, 0, 0x3000)

/-- Count a stretched period by level (OD 0x3011.01). -/
def Clock.stretched (k : Clock) (level : Nat) : Clock :=
  if level = 1 then { k with stretched25 := satAdd 64 k.stretched25 1 }
  else if level = 2 then { k with stretched50 := satAdd 64 k.stretched50 1 }
  else { k with stretched100 := satAdd 64 k.stretched100 1 }

/-- A step-down (R370): 100 MHz from the present frequency, not below the floor, held for 1 ms. -/
def State.stepDown (s : State) (r : Region) : State :=
  let key := regionKey r
  let (die, zone, unit) := regionNames r
  let s1 := s.modRegion key fun k => Clock.retarget
    { k with
      held := some (Nat.max (stepFloor r) (k.frequency s.now - 100))
      holdUntil := some (s.now + 1000000)
      stepDowns := satAdd 32 k.stepDowns 1
      runEnd := none }
  s1.raise 0x1803 die unit (leBytes 1 die ++ leBytes 1 zone)

/-- Whether a trip comes within `n` nominal periods of a time (R370). -/
def Clock.within (k : Clock) (now t n : Nat) : Bool := (now - t) * k.frequency now ≤ n * 1000

/-- DROOP_TRIP (R369, R370, R378): the period that begins next is stretched by the depth of the droop, unless it follows a run
of 16 or a restart; a trip within 64 periods of such a run steps the region down. Periods are told apart by the global time
between trips (DEDUCED, log 27). -/
def execDroopTrip (region : Region) (millivolt : Nat) (s : State) : Result :=
  let key := regionKey region
  let k := s.region key
  let level := droopLevel (s.setPointOf region - millivolt)
  if k.stopped || level = 0 then .next s
  else if k.justRestarted then .next (s.modRegion key fun k => { k with justRestarted := false, run := 0 })
  else
    let inRow := k.run ≠ 0 && k.within s.now k.lastTrip 2
    let barred := inRow && k.run = 16
    let again := match k.runEnd with | some t => k.within s.now t 64 | none => false
    let run := if barred then 0 else if inRow then k.run + 1 else 1
    let s1 := s.modRegion key fun k =>
      let q := if barred then k else k.stretched level
      { q with
        run := run
        lastTrip := s.now
        runs := if run = 16 then satAdd 32 q.runs 1 else q.runs
        runEnd := if run = 16 then some s.now else if again then none else q.runEnd }
    if again then .next (s1.stepDown region) else .next s1

/-- STEP_DOWN_HOLD_END (R370). -/
def execStepDownHoldEnd (region : Region) (s : State) : Result :=
  let key := regionKey region
  match (s.region key).holdUntil with
  | none => .next s
  | some t =>
    if s.now < t then .next s
    else .next (s.modRegion key fun k => Clock.retarget { k with held := none, holdUntil := none })

/-! ### Stopped zones (R376, R377, R383) -/

/-- ZONE_LOCK_LOSS (R377 steps 1 and 2): a whole-numbered stop on the zone. -/
def execZoneLockLoss (zone : Nat) (s : State) : Result :=
  if 32 ≤ zone || (s.region zone).stopped then .next s else .next (s.stopZone zone)

/-- ZONE_RELOCK (R377 step 3): within 2 µs. -/
def execZoneRelock (zone : Nat) (s : State) : Result :=
  let k := s.region zone
  if 32 ≤ zone || !k.stopped || s.package.scan.contains (0x20 + zone / 8) || k.lastStop + 2000 ≤ s.now then .next s
  else
    let s1 := ((s.restartZone zone).modRegion zone fun k => { k with stops := satAdd 32 k.stops 1 }).openCrossing zone
    .next (s1.raise 0x1804 (0x20 + zone / 8) (0x2000 + zone / 8)
      (leBytes 1 (zone / 8) ++ leBytes 1 (zone % 8) ++ leBytes 8 k.lastStop))

/-- ZONE_RELOCK_TIMEOUT (R342, R377 step 4). -/
def execZoneRelockTimeout (zone : Nat) (s : State) : Result :=
  let k := s.region zone
  if 32 ≤ zone || !k.stopped || s.package.scan.contains (0x20 + zone / 8) || s.now < k.lastStop + 2000 then .next s
  else .next (s.abruptReset (0x20 + zone / 8) .reset)

/-- ZONE_TIME_RELOAD (R383): OD 0x3020.06 counts it. -/
def execZoneTimeReload (zone : Nat) (s : State) : Result :=
  let k := s.region zone
  if 32 ≤ zone || k.stopped || k.copyValid then .next s
  else .next ((s.modRegion zone fun k => { k with copyValid := true }).countReg 0x302006 64 1)

/-! ### Sync words and the time master (R380, R381, R385) -/

/-- The zones of a compute die. -/
def zonesOf (d : Nat) : List Nat := if d / 16 = 2 then (List.range 8).map (8 * (d % 16) + ·) else []

/-- A sync word has passed its check: a zone of the die that has its copy stamps without STOPPED (R383). -/
def State.zonesSynced (s : State) (d : Nat) : State :=
  (zonesOf d).foldl (fun s z => s.modRegion z fun k =>
    if k.copyValid && !k.stopped then { k with stampStopped := false } else k) s

/-- SYNC_WORD (R380, R381, R385): at every count that is a multiple of 1,024; `difference` is the word less the copy. A
Dreuth that is its own master leaves a fence of R385 after three good words in a row. -/
def execSyncWord (die : Nat) (difference : Int) (checkGood : Bool) (s : State) : Result :=
  if s.now % 1024 ≠ 0 then .next s
  else if !checkGood then
    .next ({ s with clocks := { s.clocks with goodSyncs := 0, lastSync := s.now } }.countReg 0x302003 32 1)
  else
    let n := if s.clocks.lastSync = s.now then s.clocks.goodSyncs else s.clocks.goodSyncs + 1
    let s1 := { s with clocks := { s.clocks with
      goodSyncs := n
      lastSync := s.now
      copies := s.clocks.copies.modify {} die fun k => { k with difference := difference } } }
    let s2 := (if 2 < difference.natAbs then s1.countReg 0x302004 32 1 else s1).zonesSynced die
    if s2.clocks.fencedByCheck && s2.timeMaster = s2.deviceId && 3 ≤ n then .next (s2.leaveFence 0) else .next s2

/-- TIME_MASTER_CHECK_FAIL (R385): the count is reloaded forward, the rate mode is normal, and the Dreuth is fenced. -/
def execTimeMasterCheckFail (hubCopy : Nat) (s : State) : Result :=
  let delay := (s.clocks.copies.get {} (0x30 + s.activeComplex.getD 0)).pathDelay
  let s1 := { s with clocks := { s.clocks with
    count := Nat.max (hubCopy + delay) (s.clocks.count + 1)
    halfRate := false
    halfPhase := false
    slew := 0 } }
  .next (((s1.countReg 0x302007 32 1).criticalMismatch 6 0).enterFence 0 true)

end Sys2Proof.Machine
end

