-- ==== Sys2Proof/Machine/Thermal.lean ====
section
/-! DEFINITION. Power budgets, reefing and temperature (R56, R58, R387 to R405), and the hourly calibration copy (R440). -/

namespace Sys2Proof.Machine

/-! ### The package budget (R387) -/

/-- The shadow of OD 0x2000.01, in W. -/
def State.budgetShadow (s : State) : Nat := s.shadows.get s.packageBudget 0x200001

/-- Take up to `acc.1` of what holder `h`'s lowered grant gives up. -/
def takeStep (acc : Nat × State) (h : Nat) : Nat × State :=
  let d := Nat.min acc.1 (acc.2.holder h).freeing
  (acc.1 - d, if d = 0 then acc.2 else acc.2.modHolder h fun k => { k with freeing := k.freeing - d, cutting := k.cutting + d })

/-- Holders whose lowered grants give up power that is not yet acknowledged. -/
def State.takeFreeing (s : State) (need : Nat) : State :=
  (s.package.holders.keys.foldl takeStep (need, s)).2

/-- An accepted budget (R387): a reduction comes from the pool, then from the compute dies equally; power that was to come
back from lowered grants goes with it. A higher budget adds to the pool. -/
def State.applyBudget (s : State) (watt : Nat) : State :=
  let old := 1000 * s.packageBudget
  let new := 1000 * watt
  let s1 := { s with package := { s.package with budgetPending := some watt } }
  if old ≤ new then (s1.budgetSettles).toPool (new - old)
  else
    let red := old - new
    let give := Nat.min red s.package.pool
    let (got, s2) := (s1.setPool (s.package.pool - give)).lowerCompute (red - give) true 4
    let s3 := s2.takeFreeing (red - give - got)
    ((s3.setReg 0x200004 1).setCommitPending 0x20 true).budgetSettles

/-- The commit of OD 0x20FF.00 (R387). -/
def State.powerCommitOp (s : State) (value : Nat) : Nat × State :=
  if value ≠ 1 then (5, s)
  else if s.commitPending 0x20 then (10, s)
  else if s.gradeLimit < s.budgetShadow then (1, s.setReg 0x200004 2)
  else if 1000 * s.budgetShadow < s.budgetFloor then (1, s.setReg 0x200004 3)
  else (1, s.applyBudget s.budgetShadow)

/-- POWER_COMMIT (R387). -/
def execPowerCommit (value : Nat) (s : State) : Result := .next (s.powerCommitOp value).2

/-! ### Die power (R390 to R395) -/

/-- The frequency a zone is allowed by its limit and its core supply (R366, R391). -/
def Clock.allowed (k : Clock) : Nat := min k.limit k.cap

/-- Whether every zone of compute die `t` is back at its limit (R395). -/
def State.zonesBack (s : State) (t : Nat) : Bool :=
  (List.range 8).all fun z => (s.region (8 * t + z)).allowed ≤ (s.region (8 * t + z)).managerTarget

/-- Lower or raise the frequency targets of a die's zones by 100 MHz (R395), not below 400 MHz nor above their limits. -/
def State.moveTargets (s : State) (t : Nat) (down : Bool) : State :=
  (List.range 8).foldl (fun s z => s.modRegion (8 * t + z) fun k =>
    let m := min k.managerTarget k.allowed
    Clock.retarget { k with managerTarget := if down then Nat.max 400 (m - 100) else if k.allowed ≤ m + 100 then 1800 else m + 100 }) s

/-- POWER_MANAGER_TICK (R394, R395): every 1 ms. -/
def execPowerManagerTick (t milliwatt matrixMilliwatt : Nat) (s : State) : Result :=
  let h := 0x20 + t
  if s.now % 1000000 ≠ 0 || (s.die h).state ≠ .ready then .next s
  else
    let grant := (s.holder h).inForce
    let l := s.powerLevelOf t
    let s1 := { s with thermal := { s.thermal with lastPower := s.thermal.lastPower.set t (milliwatt, matrixMilliwatt) } }.modHolder
      h fun k => { k with use_ := milliwatt }
    if grant < milliwatt then
      if l < 7 then .next (s1.setPowerLevel t (l + 1)) else .next (s1.moveTargets t true)
    else if milliwatt * 10 < grant * 9 then
      if s1.zonesBack t then .next (s1.setPowerLevel t (l - 1)) else .next (s1.moveTargets t false)
    else .next s1

/-- KD_PACING_STEP (R390): one step of an eighth per 1 ms; the duty rises again below 90 % of the grant (DESIGN CHOICE, log
29). -/
def execKdPacingStep (t milliwatt : Nat) (s : State) : Result :=
  let h := 0x10 + t
  if s.now % 1000000 ≠ 0 || (s.die h).state ≠ .ready then .next s
  else
    let grant := (s.holder h).inForce
    let s1 := s.modHolder h fun k => { k with use_ := milliwatt }
    .next (s1.modTower t fun k =>
      { k with pacing :=
          if grant < milliwatt then Nat.max 1 (k.pacing - 1)
          else if milliwatt * 10 < grant * 9 then Nat.min 8 (k.pacing + 1) else k.pacing })

/-- The rows of R391: supply in mV and highest frequency in MHz. -/
def supplyRows : List (Nat × Nat) := [(650, 1000), (700, 1300), (750, 1600), (800, 1700), (850, 1800)]

/-- The cap at a core supply (R391): linear between rows, rounded down to 25 MHz. Outside the range it is the end row's. -/
def supplyCap (mv : Nat) : Nat :=
  if mv ≤ 650 then 1000
  else if 850 ≤ mv then 1800
  else
    let i := (mv - 650) / 50
    let a := supplyRows.getD i (0, 0)
    let b := supplyRows.getD (i + 1) (0, 0)
    (a.2 + (b.2 - a.2) * (mv - a.1) / 50) / 25 * 25

/-- CORE_SUPPLY_READ (R369, R391): every 1 ms; the zones' set-points go on toward the supply as read. -/
def execCoreSupplyRead (t millivolt : Nat) (s : State) : Result :=
  let was := s.thermal.supply.get 750 t
  let s1 := { s with thermal := { s.thermal with supply := s.thermal.supply.set t millivolt } }
  .next ((List.range 8).foldl (fun s z => s.modRegion (8 * t + z) fun k =>
    Clock.retarget { k with cap := supplyCap millivolt, setPoint := k.tracked was s.now, setAt := s.now }) s1)

/-! ### Reef pauses and rates (R56, R58, R392, R393) -/

/-- The end of the last pause that panels of a cluster are in. -/
def State.pausedTo (s : State) (c : Nat) : Nat :=
  (List.range 4).foldl (fun m p => Nat.max m (((s.cluster c).panels.get {} p).pausedUntil.getD 0)) 0

/-- REEF_PAUSE (R58, R392): between K-steps, r times the panel's running time since its last pause. The cluster counts the
time in which any panel pauses, once (R58, R75). -/
def execReefPause (c panel : Nat) (s : State) : Result :=
  let p := (s.cluster c).panels.get {} panel
  let r := reefEighths.getD (s.appliedLevel (zoneOf c)) 0
  if r = 0 || p.pausedUntil.isSome || p.ranSincePause = 0 || s.withinStep c then .next s
  else
    let (d, s1) := s.divFree (p.ranSincePause * r) 8
    let s2 := s1.modCluster c fun k =>
      { k with panels := k.panels.modify {} panel fun q =>
          { q with ranSincePause := 0, pausedUntil := some (s.now + d.toNat) } }
    .next (s2.bump c 0x130 48 (s.now + d.toNat - Nat.max s.now (s.pausedTo c)))

/-- REEF_PAUSE_END (R392). -/
def execReefPauseEnd (c panel : Nat) (s : State) : Result :=
  match ((s.cluster c).panels.get {} panel).pausedUntil with
  | none => .next s
  | some t =>
    if s.now < t then .next s
    else .next (s.modCluster c fun k =>
      { k with panels := k.panels.modify {} panel fun q => { q with pausedUntil := none } })

/-- The lowest rate among panels that ran for at least 10 µs, in M handshakes/s; none without such a panel. -/
def slowest (s : State) : List Panel → Option Nat × State
  | [] => (none, s)
  | p :: l =>
    let (rest, s1) := slowest s l
    if p.windowNs < 10000 then (rest, s1)
    else
      let (q, s2) := s1.divFree (p.windowHandshakes * 1000) p.windowNs
      (some (match rest with | some r => Nat.min r q.toNat | none => q.toNat), s2)

/-- A cluster at the end of a rate window (R56); one out of service stays at rate 0, stale. -/
def State.windowEnd (s : State) (c : Nat) : Cluster × State :=
  let k := s.cluster c
  let (rate, s1) := slowest s (k.panels.entries.map (·.2))
  let panels := k.panels.mapVals fun _ p => { p with windowHandshakes := 0, windowNs := 0 }
  (match rate with
    | some r => if k.outOfService then { k with panels := panels } else { k with panels := panels, rate := r, stale := false }
    | none => { k with panels := panels, stale := true }, s1)

/-- RATE_WINDOW_END (R56, R57): at multiples of 1,000,000 ns, for every cluster; then the reported figures refresh. -/
def execRateWindowEnd (s : State) : Result :=
  if s.now % 1000000 ≠ 0 then .next s
  else
    let (l, s1) := (List.range 800).foldl (fun (acc : List (Nat × Cluster) × State) c =>
      let (k, s1) := acc.2.windowEnd c
      ((c, k) :: acc.1, s1)) ([], s)
    .next { s1 with clusters := ⟨l.reverse⟩ }.refreshRates

/-! ### Temperatures (R396 to R402) -/

/-- Thresholds of an element in hundredths of a degree (R400): warning, its hysteresis, throttle, its hysteresis, shutdown,
and the temperature below which it may restart. -/
def thresholds : ThermalElement → Int × Int × Int × Int × Int × Int
  | .stack _ => (8500, 200, 9500, 300, 10500, 9000)
  | .rig => (8000, 300, 8500, 300, 9500, 0)
  | .lampBar _ => (6500, 200, 7200, 300, 8000, 6200)
  | .zone _ => (9500, 300, 10200, 400, 11000, 10000)
  | .cacheDie _ => (9500, 300, 10200, 400, 11000, 10000)
  | .hubHalf _ => (9500, 300, 10200, 400, 11000, 10000)
  | .guest _ => (9500, 300, 10200, 400, 11000, 10000)
  | .coolant => (0, 0, 0, 0, 0, 0)
  | .flash => (0, 0, 0, 0, 0, 0)

/-- The element code, zone and reporting unit of an element (R396, R470). -/
def elementNames : ThermalElement → Nat × Nat × Nat
  | .zone z => (0x20 + z / 8, z % 8, 0x2000 + z / 8)
  | .cacheDie t => (0x10 + t, 0, 0x1000 + t)
  | .hubHalf h => (0x30 + h, 0, 0x3000)
  | .guest g => (0x40 + g, 0, 0x6000 + g)
  | .lampBar b => (0x60 + b, 0, 0x4000)
  | .stack k => (0x80 + k, 0, 0x1000 + k / 6)
  | .rig => (0x00, 0, 0x4000)
  | .coolant => (0x00, 0, 0x4000)
  | .flash => (0x30, 0, 0x3000)

/-- The sources of an element, as OD 0x2010.01 numbers them: its diode channels, then the on-chip sensor of its die, from 64
(R396); how many of them are diodes. -/
def sourcesOf : ThermalElement → List Nat × Nat
  | .zone z => ([z, 68 + z / 8], 1)
  | .cacheDie t => ([32 + 4 * t, 33 + 4 * t, 34 + 4 * t, 35 + 4 * t, 64 + t], 4)
  | .hubHalf h => ([48 + h, 72 + h], 1)
  | .guest g => ([50 + g], 1)
  | .lampBar b => ([52 + b], 1)
  | .stack k => ([80 + k], 0)
  | .rig => ([], 0)
  | .coolant => ([], 2)
  | .flash => ([], 0)

/-- The status of a reading (R398, OD 0x2010.01): 0 good, 1 open, 2 short, 3 out of range. -/
def readingStatus : SensorReading → Nat
  | .openCircuit => 1
  | .short => 2
  | .centi c => if c < -4000 || 15000 < c then 3 else 0

/-- The value of a reading. -/
def readingValue : SensorReading → Int
  | .centi c => c
  | _ => 0

/-- A sensor after a sample (R398): a broken source is restored after 10 s of good readings. -/
def Sensor.sample (k : Sensor) (now : Nat) (r : SensorReading) : Sensor :=
  let st := readingStatus r
  if st ≠ 0 then { centi := readingValue r, status := st, goodSince := none }
  else if k.status = 0 then { centi := readingValue r }
  else
    let since := k.goodSince.getD now
    if since + 10000000000 ≤ now then { centi := readingValue r }
    else { k with centi := readingValue r, goodSince := some since }

/-- Sample one source of an element (R398): the event and count name one that breaks. -/
def State.sampleSource (s : State) (key src : Nat) (r : SensorReading) : State :=
  let k := s.thermal.sensors.get {} (key * 256 + src)
  let n := k.sample s.now r
  let s1 := { s with thermal := { s.thermal with sensors := s.thermal.sensors.set (key * 256 + src) n } }
  if k.status = 0 && n.status ≠ 0 then
    (s1.countReg 0x201601 32 1).raise 0x1903 0 0x4000 (leBytes 1 src ++ leBytes 1 n.status)
  else s1

/-- While OD 0x4400.04 reads 2, diodes and thermistors read 3 °C more (R399). -/
def State.guard (s : State) : Int := if s.reg 0x440004 = 2 then 300 else 0

/-- The temperature of an element from its sources (R396, R398, R399): broken ones read its throttle threshold plus 1 °C, and
all of them broken its shutdown threshold. -/
def State.elementTemp (s : State) (e : ThermalElement) : Int :=
  let key := elementKey e
  let (srcs, diodes) := sourcesOf e
  let (_, _, throttle, _, shutdown, _) := thresholds e
  let vals := srcs.mapIdx fun i src =>
    let k := s.thermal.sensors.get {} (key * 256 + src)
    (decide (k.status ≠ 0), if k.status ≠ 0 then throttle + 100 else k.centi + (if i < diodes then s.guard else 0))
  if vals ≠ [] && vals.all (·.1) then shutdown else (vals.map (·.2)).foldl max (-27300)

/-- A lamp bar goes dark (R402): its lasers are dark and a swap is abandoned; its lanes go OUT, the standing paths that it
feeds go down, and relocks on its channels fail. -/
def State.barDark (s : State) (b : Nat) : State :=
  let s1 := s.modBar b fun k => { k with dark := true, swap := none }
  let s2 := (s1.lanesOfBar b).foldl (fun s k => s.laneOut k false) s1
  let s3 := ((List.range 11).filter fun slot => barOfStanding slot = b && s2.sitePopulated slot).foldl (fun s slot =>
    ((List.range 11).filter fun d => s.hasStanding slot d).foldl (fun s d => s.standingDown slot d) s) s2
  let relocking := s3.photonics.rings.entries.filter fun e =>
    (e.2.state = .sweeping || e.2.state = .verify || e.2.state = .wrong) &&
      (match s3.pathOf e.1 with
       | .lanes l => l.any fun k => barOfLane k = b
       | .standing a _ => barOfStanding a = b
       | .port p => barOfPort p = b)
  relocking.foldl (fun s e => s.ringFailed e.1) s3

/-- The hub halts when both halves are down (R341). -/
def State.haltIfDown (s : State) : State :=
  if (s.die 0x30).state ≠ .ready && (s.die 0x31).state ≠ .ready then s.hubHalts else s

/-- A latched shutdown takes effect (R402). -/
def State.shutDown (s : State) : ThermalElement → State
  | .zone z => s.abruptReset (0x20 + z / 8) .shutdown
  | .cacheDie t => s.abruptReset (0x10 + t) .shutdown
  | .hubHalf h => (s.abruptReset (0x30 + h) .shutdown).haltIfDown
  | .rig => s.rigLoss
  | .stack k => s.modStack k fun q => { q with inService := false }
  | .lampBar b => s.barDark b
  | .guest g => (s.guestGone g).modGuest g fun k => { k with heldInReset := true }
  | .coolant => s
  | .flash => s

/-- A guest's grant falls by 10 % with each level step, not below its floor (R401). -/
def State.throttleGuest (s : State) (g : Nat) : State :=
  let h := 0x40 + g
  let k := s.holder h
  let (cut, s1) := s.divFree k.grant 10
  let new := Nat.max (Nat.min k.grant 10000) (k.grant - cut.toNat)
  if new = k.grant then s1
  else (s1.modHolder h fun q => { q with freeing := q.freeing + (k.grant - new) }).sendGrant h new

/-- What an element's new level acts on (R401): zones' thermal levels, or a guest's grant; a stack's level is read with its
pacing. -/
def State.levelActs (s : State) (e : ThermalElement) (old new : Nat) : State :=
  match e with
  | .guest g => if old < new then s.throttleGuest g else s
  | .stack _ => s
  | _ => s.reefReview

/-- The state that OD 0x2011.01 reports. -/
def Element.state (k : Element) : ThermalState :=
  if k.latched then .shutdown else if k.level ≠ 0 then .throttling else if k.warned then .warning else .normal

/-- What a reading makes of an element (R397, R399 to R403). -/
def nextElement (e : ThermalElement) (k : Element) (c : Int) : Element :=
  let (warn, warnHyst, throttle, throttleHyst, shutdown, _) := thresholds e
  let fixedRate := match e with | .stack _ => true | .rig => true | _ => false
  { centi := c
    warned := if warn ≤ c then true else if c < warn - warnHyst then false else k.warned
    latched := k.latched || decide (shutdown ≤ c)
    level := if throttle ≤ c then Nat.min 7 (k.level + 1) else if c < throttle - throttleHyst then k.level - 1 else k.level
    changed := k.changed
    fast := !fixedRate && decide (throttle - 500 ≤ c) }

/-- The actions of R400 to R402 at a sample of temperature `c`. -/
def State.judgeElement (s : State) (e : ThermalElement) (c : Int) : State :=
  let (code, zone, unit) := elementNames e
  let k := s.element (elementKey e)
  let n := nextElement e k c
  let n1 := if n.state = k.state && n.level = k.level then n else { n with changed := s.stamp }
  let s1 := s.modElement (elementKey e) fun _ => n1
  let detail := leBytes 1 code ++ leBytes 1 zone ++ intBytes 2 c
  let die := if 0x60 ≤ code then 0 else code
  let s2 := if n.warned && !k.warned then s1.raise 0x1901 die unit detail else s1
  let s3 := if n.level ≠ k.level then s2.levelActs e k.level n.level else s2
  if n.latched && !k.latched then ((s3.countReg 0x201401 32 1).raise 0x1902 die unit detail).shutDown e else s3

/-- The coolant's warnings (R398, R401): an inlet above the grade maximum of R2, an outlet more than 15 °C above the inlet, or
a broken thermistor. -/
def State.judgeCoolant (s : State) (inlet outlet : SensorReading) : State :=
  let a := s.thermal.inlet.sample s.now inlet
  let b := s.thermal.outlet.sample s.now outlet
  let most := if s.fuses.extended then 4000 else 3500
  let wa := a.status ≠ 0 || most < a.centi + s.guard
  let wb := b.status ≠ 0 || (a.status = 0 && a.centi + 1500 < b.centi)
  let s1 := { s with thermal := { s.thermal with inlet := a, outlet := b, inletWarning := wa, outletWarning := wb } }
  let broke := (if s.thermal.inlet.status = 0 && a.status ≠ 0 then [(74, a.status)] else []) ++
    (if s.thermal.outlet.status = 0 && b.status ≠ 0 then [(75, b.status)] else [])
  let s2 := broke.foldl (fun s e => (s.countReg 0x201601 32 1).raise 0x1903 0 0x4000 (leBytes 1 e.1 ++ leBytes 1 e.2)) s1
  if (wa && !s.thermal.inletWarning) || (wb && !s.thermal.outletWarning) then
    s2.raise 0x1904 0 0x4000 (intBytes 2 a.centi ++ intBytes 2 b.centi)
  else s2

/-- THERMAL_SAMPLE (R396 to R402). For the rig, reading n is the local temperature of bank n (R247); the coolant's are inlet
and outlet; the flash's is its own sensor's (R404). -/
def execThermalSample (e : ThermalElement) (readings : List SensorReading) (s : State) : Result :=
  match e with
  | .coolant =>
    match readings with
    | [a, b] => .next (s.judgeCoolant a b)
    | _ => .next s
  | .flash =>
    match readings with
    | [.centi c] => .next { s with thermal := { s.thermal with flashCenti := c } }
    | _ => .next s
  | .rig =>
    if readings = [] then .next s
    else
      let s1 := (readings.mapIdx fun b r => (b, readingValue r)).foldl (fun s p =>
        if (s.bank p.1).centi = p.2 then s else (s.modBank p.1 fun k => { k with centi := p.2 }).countClamps p.1) s
      .next (s1.judgeElement .rig ((readings.map readingValue).foldl max (-27300)))
  | e =>
    let srcs := (sourcesOf e).1
    let off := match e with | .guest g => !s.guestFitted g | _ => false
    if readings.length ≠ srcs.length || off then .next s
    else
      let s1 := (srcs.zip readings).foldl (fun s p => s.sampleSource (elementKey e) p.1 p.2) s
      .next (s1.judgeElement e (s1.elementTemp e))

/-! ### Restarts (R403) -/

/-- The element that a code names, zones aside. -/
def elementOfCode (code : Nat) : Option ThermalElement :=
  if code = 0 then some .rig
  else if 0x10 ≤ code && code ≤ 0x13 then some (.cacheDie (code - 0x10))
  else if code = 0x30 || code = 0x31 then some (.hubHalf (code - 0x30))
  else if code = 0x40 || code = 0x41 then some (.guest (code - 0x40))
  else if 0x60 ≤ code && code ≤ 0x6B then some (.lampBar (code - 0x60))
  else if 0x80 ≤ code && code ≤ 0x97 then some (.stack (code - 0x80))
  else none

/-- The elements that a restart of a code concerns: a compute die's are its zones. -/
def restartElements (code : Nat) : List ThermalElement :=
  if 0x20 ≤ code && code ≤ 0x23 then (List.range 8).map fun z => .zone (8 * (code - 0x20) + z)
  else (elementOfCode code).toList

/-- A stack is wiped (R175, R403): its data, its errors, and the lines that the cache holds of it. -/
def State.wipeStack (s : State) (k : Nat) : State :=
  let mine := fun w => stackOfWord w = some k
  let m := s.memory
  { s with memory := { m with
      cells := m.cells.discard fun a => mine (a / 64)
      errors := m.errors.dropKeys mine
      unmarked := k :: m.unmarked.erase k
      lineErrors := m.lineErrors.dropKeys mine
      writebacks := m.writebacks.filter fun w => !mine w
      sets := m.sets.mapVals fun key c =>
        { c with ways := c.ways.map fun w => w.filter fun e => !mine (lineOffset (key / 4096 / 200) e.1 / 64) } } }

/-- A lamp bar relights (R259 steps 3 to 6, R403): every line on its channel; its standing paths are retrained, and its lanes
at the next tack that names them. -/
def State.relight (s : State) (b : Nat) : State :=
  let s1 := s.modBar b fun k => { k with dark := false, droppedChannels := [] }
  let s2 := { s1 with photonics := { s1.photonics with lasers := s1.photonics.lasers.dropKeys fun k => k / 20 = b } }
  let s3 := (s2.lanesOfBar b).foldl (fun s k => s.modLane k fun l => { l with dropped := s.dropsFor k }) s2
  ((List.range 11).filter fun slot => barOfStanding slot = b && s3.sitePopulated slot).foldl (fun s slot =>
    ((List.range 11).filter fun d => s.hasStanding slot d).foldl (fun s d => (s.retrainStanding slot d).modStanding slot d fun q =>
      { q with wavelengthDropped := false }) s) s3

/-- An accepted restart (R403). -/
def State.restartElement (s : State) (code : Nat) : State :=
  let s1 := (restartElements code).foldl (fun s e => s.modElement (elementKey e) fun k => { k with latched := false }) s
  if code < 0x40 then
    if (s1.die code).state = .shutdown then (s1.setDieState code .reset).setReg 0x201502 1 else s1.setReg 0x201502 0
  else
    let s2 := s1.setReg 0x201502 0
    if code < 0x60 then s2.modGuest (code - 0x40) fun k => { k with heldInReset := false }
    else if code < 0x80 then s2.relight (code - 0x60)
    else (s2.wipeStack (code - 0x80)).modStack (code - 0x80) fun k => { k with inService := true }

/-- A write of OD 0x2015.01 (R403): refused for the rig, for an element at or above its restart temperature, and for one that
is not shut down. -/
def State.thermalRestartAction (s : State) (code : Nat) : State :=
  let es := restartElements code
  if code = 0 then s.setReg 0x201502 4
  else if es.any fun e =>
      let (_, _, _, _, _, restart) := thresholds e
      decide (restart ≤ (s.element (elementKey e)).centi) then s.setReg 0x201502 2
  else if !(es.any fun e => (s.element (elementKey e)).latched) then s.setReg 0x201502 3
  else s.restartElement code

/-- THERMAL_RESTART (R403). -/
def execThermalRestart (code : Nat) (s : State) : Result :=
  if restartElements code = [] then .next s else .next (s.thermalRestartAction code)

/-! ### Writing limits (R404, R440) -/

/-- Whether R404 permits fuse programming: the hotter hub half lies between 10 °C and 60 °C. -/
def State.fuseWindow (s : State) : Bool :=
  let c := max (s.element 0x130).centi (s.element 0x131).centi
  1000 ≤ c && c ≤ 6000

/-- The background writes of security minimums, and the erase of the identity area (R353, R404, R447, R451). -/
def State.backgroundWrites (s : State) : State :=
  let b := s.boot
  let f := b.flash
  { s with boot := { b with
      raiseMinimum := none
      raiseGuest := []
      eraseIdentity := false
      flash := { f with
        firmwareMinimum := Nat.max f.firmwareMinimum (b.raiseMinimum.getD 0)
        guestMinimum := b.raiseGuest.foldl (fun m e => m.modify 0 e.1 (Nat.max e.2)) f.guestMinimum
        identity := if b.eraseIdentity then [] else f.identity
        endorsement := if b.eraseIdentity then [] else f.endorsement } } }

/-- FLASH_WRITE_RETRY (R404): queued background writes, once the flash window is open. -/
def execFlashWriteRetry (s : State) : Result := if s.flashWindow then .next s.backgroundWrites else .next s

/-- PHOTONIC_CALIBRATION_COPY (R440): once per hour; one that the window refuses is skipped. -/
def execPhotonicCalibrationCopy (s : State) : Result :=
  if s.now < s.boot.lastCalibrationCopy + 3600000000000 then .next s
  else
    let b := { s.boot with lastCalibrationCopy := s.now }
    if s.flashWindow then
      .next { s with boot := { b with flash := { b.flash with
        calibration := s.photonics.rings, calibrationBanks := s.photonics.banks } } }
    else .next { s with boot := b }

end Sys2Proof.Machine
end

