-- ==== Sys2Proof/Machine/Debug.lean ====
section
/-! DEFINITION. Bell, slates, trace, dumps, counters and the crow's nest (R461 to R483). -/

namespace Sys2Proof.Machine

/-! ### The bell (R461 to R467) -/

/-- The code of the bell's state (R461). -/
def BellState.code : BellState → Nat
  | .clear => 0
  | .ringing => 1
  | .rung => 2
  | .releasing => 3

/-- The units that the bell stops (R462), by unit code: clusters in service, the cache dies' hold buffers, the hub's schedulers,
guest sites that are fitted. -/
def State.bellUnits (s : State) : List Nat :=
  ((List.range 800).filter fun c => !(s.cluster c).outOfService) ++ [0x1000, 0x1001, 0x1002, 0x1003, 0x3000] ++
  ((List.range 2).filter (Nat.testBit s.fuses.guests)).map (0x6000 + ·)

/-- Each unit writes a bell record to its slate (R464 step 3, R472). -/
def State.bellSlates (s : State) (code : Nat) : State :=
  s.bellUnits.foldl (fun s u => s.slateOnly u code 0xFFFF {} []) s

/-- Ring the bell (R461, R464 step 1) for `source`: a command 1, trigger row 0x10 + row, the test chain 3 (R472). In any state
but CLEAR the ring is refused with status 5. -/
def State.ringBell (s : State) (source : Nat) : State :=
  if s.dbg.bell ≠ .clear then s.setReg 0xA00002 5
  else
    let s1 := { s with dbg := { s.dbg with bell := .ringing, bellStart := s.now } }
    ((((s1.setReg 0xA00002 1).setReg 0xA00004 s.stamp).setReg 0xA00005 source).countReg 0xA00007 32 1)

/-- What the bell stopped counting goes on from where it stood (R462): period clocks, the idle-park timer, wait limits, the
join limit. -/
def State.resumeClocks (s : State) (ns : Nat) : State :=
  { s with
    ctxs := s.ctxs.mapVals fun _ k => { k with periodStart := k.periodStart + ns, idleSince := k.idleSince.map (· + ns) }
    clusters := s.clusters.mapVals fun _ k =>
      { k with core := { k.core with run := k.core.run.map fun r => { r with waitSince := r.waitSince.map (· + ns) } } }
    coll := { s.coll with joins := s.coll.joins.map fun j => { j with firstAt := j.firstAt.map (· + ns) } } }

/-- Release the bell (R461, R465): refused with status 5 in any state but RUNG. The requests that the hold buffers held for the
bell are applied, in arrival order, before any OC issues. -/
def State.releaseBell (s : State) : State :=
  if s.dbg.bell ≠ .rung then s.setReg 0xA00002 5
  else
    let s1 := { (s.setReg 0xA00002 1) with dbg := { s.dbg with bell := .releasing, held := [] } }
    ((s1.resumeClocks (s.now - s.dbg.bellStart)).applyHeld s.dbg.held).bellSlates 0xF009

/-- The keys of a die's clock regions (R360). -/
def regionsOf (d : Nat) : List Nat :=
  if d / 16 = 2 then (List.range 8).map (8 * (d % 16) + ·)
  else if d / 16 = 1 then [64 + d % 16]
  else if d = 0x30 then [80, 81] else []

/-- An internal scan proceeds (R469): the clocks of the die's regions stop. -/
def State.startScan (s : State) (d : Nat) : State :=
  let s1 := (regionsOf d).foldl (fun s z => s.stopZone z) s
  { s1 with package := { s1.package with
      scan := d :: s1.package.scan.erase d, scanWaiting := s1.package.scanWaiting.erase d } }

/-- Write the bell's action entry, OD 0xA000.01: 1 ring, 2 release, other values name no action. -/
def bellActionValue (v : Nat) : Bool := v = 1 || v = 2
def State.bellAction (s : State) (v : Nat) : State := if v = 1 then s.ringBell 1 else if v = 2 then s.releaseBell else s

/-- BELL_RING (R461): by a command, with source 1. The other rings are TRIGGER_FIRE and INTERNAL_SCAN. -/
def execBellRing (source : Nat) (s : State) : Result := .next (s.ringBell source)

/-- BELL_RELEASE (R465). -/
def execBellRelease (s : State) : Result := .next s.releaseBell

/-- BELL_RUNG (R464 step 4): every unit has stopped; scans that waited for it proceed (R469). -/
def execBellRung (s : State) : Result :=
  if s.dbg.bell ≠ .ringing then .next s
  else
    let reach := s.now - s.dbg.bellStart
    let s1 := { s with dbg := { s.dbg with bell := .rung } }
    let s2 := ((s1.bellSlates 0xF008).setReg 0xA00002 0).setReg 0xA00006 (Nat.min reach 4294967295)
    let s3 := s2.raise 0x1C01 s2.hubDie hubUnit (leBytes 1 (s2.reg 0xA00005) ++ leBytes 4 reach)
    .next (s3.package.scanWaiting.foldl (fun s d => s.startScan d) s3)

/-- BELL_CLEAR (R465): every unit has resumed. -/
def execBellClear (s : State) : Result :=
  if s.dbg.bell ≠ .releasing then .next s
  else .next ({ s with dbg := { s.dbg with bell := .clear } }.setReg 0xA00002 0)

/-- TRIGGER_FIRE (R472): the row has counted its entries; it rings the bell and matches nothing further. -/
def execTriggerFire (row : Nat) (s : State) : Result :=
  let t := s.dbg.triggers.get {} row
  if 8 ≤ row || t.state ≠ 1 || t.count = 0 || t.seen < t.count then .next s
  else
    .next ({ s with dbg := { s.dbg with triggers := s.dbg.triggers.set row { t with state := 2 } } }.ringBell (0x10 + row))

/-! ### Reading a stopped Dreuth (R468, R469) -/

/-- Patterns of `n` words from table `m`, 4 bytes each. -/
def wordTable (m : SMap Word32) (n : Nat) : List Byte := (List.range n).flatMap fun i => leBytes 4 (m.get 0 i).toNat

/-- A part of a cluster's state image by its row of R74. The last row's layout is not given: its bytes are free values. -/
def State.imagePart (s : State) (c part : Nat) : List Byte × State :=
  let k := s.core c
  if part = 1 then (s.held (clusterOffset c 0) 0x300000, s)
  else if part = 2 then (wordTable k.acc 131072, s)
  else if part = 3 then (wordTable k.veRegs 4096, s)
  else if part = 4 then (padTo 32768 (k.timetable.flatMap fun e => leBytes 32 e.toNat), s)
  else if part = 5 then
    ((List.range 8192).map (fun i => k.ocData.get 0 i) ++ (List.range 32).flatMap (fun i => leBytes 8 (k.ocRegs.get 0 i).toNat), s)
  else if part = 6 then ((List.range 16).flatMap fun n => padTo 1024 (curveSlot k n), s)
  else if part = 7 then ((List.range 64).flatMap fun n => padTo 16 (codebook k n), s)
  else s.freeBytes 2048

/-- Read part of the selected image (R468): status 6 unless the bell is RUNG, 7 in END. -/
def State.scanRead (s : State) (offset length : Nat) : Nat × List Byte × State :=
  if s.lifeCycle = 4 then (7, [], s)
  else if s.dbg.bell ≠ .rung then (6, [], s)
  else
    let (d, s1) := s.imagePart (s.reg 0xA01001) (s.reg 0xA01002)
    if d.length < offset + length then (3, [], s) else (0, subBytes d offset length, s1)

/-- SCAN_OUT (R468): the bytes cross SYS to hub memory as a transfer of context 0. It changes nothing of the cluster. -/
def execScanOut (offset length : Nat) (s : State) : Result :=
  let (status, d, s1) := s.scanRead offset length
  .next { s1 with dbg := { s1.dbg with scanStatus := status, scanData := d } }

/-- Whether a die's wrapper takes an internal scan instruction (R358): in MANUFACTURE and RETURN; a guest's if it is fitted
and its capability's FLAGS bit 0 is set. -/
def State.wrapperOpen (s : State) (d : Nat) : Bool :=
  (s.lifeCycle = 0 || s.lifeCycle = 3) &&
  (d = 0 || (0x10 ≤ d && d ≤ 0x13) || (0x20 ≤ d && d ≤ 0x23) || d = 0x30 ||
    ((d = 0x40 || d = 0x41) && Nat.testBit s.fuses.guests (d - 0x40) && field (s.guest (d - 0x40)).capability 3 1 % 2 = 1))

/-- INTERNAL_SCAN (R469): the bell rings first, and the scan proceeds once it is RUNG. -/
def execInternalScan (die : Nat) (s : State) : Result :=
  if !s.wrapperOpen die || s.package.scan.contains die then .next s
  else
    let s1 := s.ringBell 3
    if s1.dbg.bell = .rung then .next (s1.startScan die)
    else
      .next { s1 with package := { s1.package with scanWaiting := s1.package.scanWaiting.erase die ++ [die] } }

/-- SCAN_EXIT (R469): the clocks restart; the bell stays rung. -/
def execScanExit (die : Nat) (s : State) : Result :=
  let s0 := { s with package := { s.package with scanWaiting := s.package.scanWaiting.erase die } }
  if !s.package.scan.contains die then .next s0
  else
    let s1 := { s0 with package := { s0.package with scan := s0.package.scan.erase die } }
    .next ((regionsOf die).foldl (fun s z => (s.restartZone z).openCrossing z) s1)

/-! ### Dumps (R475 to R477) -/

/-- A requester for what context 0 writes without allocating lines (R155). -/
def contextZero : Requester := { ctx := 0, allocates := false, waits := false }

/-- The 64-byte header of a dump record (R477). -/
def DumpRow.header (r : DumpRow) (c : Nat) (ids : Ids) (stamp seq : Nat) : List Byte :=
  leBytes 4 r.tag ++ leBytes 1 r.fmt ++ leBytes 1 ((if r.atEnd then 1 else 0) + if r.deviceSource then 2 else 0) ++
  leBytes 2 c ++ leBytes 2 ids.ctx ++ leBytes 3 ids.layer ++ leBytes 2 ids.operator ++ leBytes 1 0 ++ leBytes 4 ids.step ++
  leBytes 4 r.length ++ leBytes 8 r.source ++ leBytes 8 stamp ++
  (List.range 3).flatMap (fun i => leBytes 4 (r.dims.getD i 0)) ++ leBytes 4 seq ++ leBytes 8 0

/-- A record is written at row `n`'s dump point on cluster `c`, or skipped (R477). -/
def State.dumpRecord (s : State) (c n : Nat) : State :=
  let r := s.dbg.dumps.get {} n
  let fill := s.reg 0xA03103
  let need := 64 + ceilDiv r.length 64 * 64
  if s.reg 0xA03102 < fill + need then
    let s1 := s.countReg 0xA03105 32 1
    if s1.dbg.dumpSkipRaised then s1
    else
      { s1 with dbg := { s1.dbg with dumpSkipRaised := true } }.raise 0x1C02 s1.hubDie hubUnit
        (leBytes 4 r.tag ++ leBytes 4 r.length)
  else
    let at_ := s.reg 0xA03101 + fill
    let src := if r.deviceSource then r.source else clusterOffset c r.source
    let header := r.header c (s.idsOf c) (s.stampAt c) s.dbg.dumpSeq
    let s1 := (s.moveStore src (at_ + 64) r.length).wipeRange at_ 64
    let s2 := ((s1.putBytes at_ header).dirtyRange at_ 64).setReg 0xA03103 (fill + need)
    let row := if r.remaining = 0 then r else
      { r with remaining := r.remaining - 1, exhausted := decide (r.remaining = 1) }
    { (s2.countReg 0xA03104 32 1) with dbg := { s2.dbg with
        dumpSeq := (s2.dbg.dumpSeq + 1) % 4294967296, dumps := s2.dbg.dumps.set n row } }

/-- Whether a partition change stalls what a dump of a row reads or writes (R160). -/
def State.dumpStalls (s : State) (r : DumpRow) : Bool :=
  (r.deviceSource && s.stallsForPartition r.source r.length) ||
    s.stallsForPartition (s.reg 0xA03101 + s.reg 0xA03103) (64 + r.length)

/-- DUMP_POINT (R475, R476): cluster `c` is at row `row`'s point; its OC has held issue, and every engine has completed the
work issued to it. A dump under way completes before the bell stops the OC. -/
def execDumpPoint (c row : Nat) (s : State) : Result :=
  let k := s.core c
  match s.member c with
  | none => .next s
  | some x =>
    if !k.dumpDue.contains row || k.score ≠ [] || (s.ctx x).state ≠ .bound || s.dbg.bell = .rung || s.boot.halted ||
        (s.fenceOn c true (s.reg 0xA03101)).isSome || s.dumpStalls (s.dbg.dumps.get {} row) then .next s
    else .next ((s.dumpRecord c row).modCore c fun k => { k with dumpDue := k.dumpDue.erase row })

/-- DUMP_RESET (R477). -/
def State.dumpReset (s : State) (v : Nat) : State :=
  if v ≠ 1 then s
  else { (s.setReg 0xA03103 0) with dbg := { s.dbg with dumpSeq := 0, dumpSkipRaised := false } }

/-- DUMP_RESET (R477). -/
def execDumpReset (value : Nat) (s : State) : Result := .next (s.dumpReset value)

/-! ### Trace (R473, R474) -/

/-- Where record `n` of cluster `c` lies. -/
def State.tracePlace (s : State) (c n : Nat) : Nat :=
  let size := 1024 * s.traceSize
  s.reg (0xA03001 + c / 200) + c % 200 * size + 32 * (n % (size / 32))

/-- TRACE_RECORD (R474): the oldest record of the buffer goes to the cluster's region of its tower's trace area, as
context 0. -/
def execTraceRecord (c : Nat) (s : State) : Result :=
  match (s.cluster c).traceBuf with
  | [] => .next s
  | r :: rest =>
    if s.traceSize = 0 || !s.towerServes (c / 200) then .next s
    else
      let n := (s.cluster c).traceWritten
      let s1 := s.modCluster c fun k => { k with traceBuf := rest, traceWritten := n + 1 }
      .next (s1.storeRange (s.tracePlace c n) r contextZero).2

/-! ### Counters (R478 to R480) -/

/-- The width of a counter, where the ID names one (R75, R109, R479). -/
def counterWidth (id : Nat) : Option Nat :=
  let k := id % 16
  let row := id / 16 % 16
  if id / 256 = 1 then
    match row with
    | 0 => if k < 4 then some 64 else none
    | 1 => if k < 4 then some 64 else none
    | 2 => if k = 0 then some 48 else none
    | 3 => if k = 0 then some 48 else none
    | 4 => if k = 0 then some 32 else none
    | 5 => if k = 0 then some 48 else none
    | 6 => if 1 ≤ k && k ≤ 6 then some 48 else none
    | 7 => if k < 15 then some 32 else none
    | 8 => if k < 4 then some 48 else none
    | 9 => if k = 0 then some 16 else none
    | 10 => if k = 0 then some 32 else none
    | _ => none
  else if id / 256 = 2 then
    match row with
    | 0 => if k < 4 then some 32 else none
    | 6 => if k = 0 then some 48 else none
    | n => if n ≤ 5 && k = 0 then some 32 else none
  else none

/-- COUNTER_CLEAR (R478): the cumulative copies of a cluster, or of every cluster. The flag says whether the unit code names
any. -/
def State.counterClear (s : State) (unit : Nat) : Bool × State :=
  if unit = 0xFFFF then (true, { s with clusters := s.clusters.mapVals fun _ k => { k with counters := ⟨[]⟩ } })
  else if unit < 800 then (true, s.modCluster unit fun k => { k with counters := ⟨[]⟩ })
  else (false, s)

/-- COUNTER_CLEAR (R478). -/
def execCounterClear (unit : Nat) (s : State) : Result := .next (s.counterClear unit).2

/-- A sample (R480). -/
def sampleWord (value stamp unit id : Nat) (ids : Ids) (flags : Nat) : List Byte :=
  leBytes 8 value ++ leBytes 8 stamp ++ leBytes 2 unit ++ leBytes 2 id ++ leBytes 2 ids.ctx ++ leBytes 3 ids.layer ++
  leBytes 2 ids.operator ++ leBytes 4 ids.step ++ leBytes 1 flags

/-- Flags [2] and [3] of a sample (R480): saturated, not running. -/
def State.sampleFlags (s : State) (id value : Nat) : Nat :=
  (if 2 ^ ((counterWidth id).getD 64) ≤ value + 1 then 4 else 0) + (if s.counterRuns id then 0 else 8)

/-- Sample a cluster's counter (R480): the per-command copy, taken when a command start resets it, is that of the command
before. -/
def State.sampleCluster (s : State) (c id : Nat) (perCmd : Bool) : List Byte :=
  let k := s.cluster c
  let rolled := perCmd && k.cmdStart = some s.now
  let value := if rolled then k.prevCmd.get 0 id else if perCmd then k.perCmd.get 0 id else k.counters.get 0 id
  sampleWord value (s.stampAt c) c id (if rolled then k.prevIds else k.ids)
    ((if rolled then 1 else 0) + (if perCmd then 2 else 0) + s.sampleFlags id value)

/-- Sample the sum of the cumulative copies over a tower's clusters, or over all of them (R481). -/
def State.sampleSum (s : State) (unit id : Nat) : List Byte :=
  let within := s.clusters.entries.filter fun e => unit = 0x8000 || e.1 / 200 = unit % 4096
  let value := sumOf (fun e => e.2.counters.get 0 id) within
  sampleWord value s.stamp unit id {} (if s.counterRuns id then 0 else 8)

/-- A row of the sample list is sampled. -/
def State.sampleRow (s : State) (r : SampleRow) : List Byte :=
  if r.unit < 800 then s.sampleCluster r.unit r.counter r.perCmd else s.sampleSum r.unit r.counter

/-! ### The crow's nest (R481, R482) -/

/-- The default sample list (R481): 22 rows at 1,000 µs. Of a counter with several instances, instance 0. -/
def defaultSamples : List SampleRow :=
  (List.range 4).flatMap (fun t => [0x100, 0x110, 0x130, 0x190, 0x1A0].map fun id =>
    ({ unit := 0x7000 + t, counter := id, perCmd := false, interval := 1000 } : SampleRow)) ++
  [0x200, 0x210].map fun id => ({ unit := 0x8000, counter := id, perCmd := false, interval := 1000 } : SampleRow)

/-- The sample list in force. -/
def State.sampleList (s : State) : List SampleRow := s.dbg.samples.getD defaultSamples

/-- Seven at a time. -/
def sevens : Nat → List (List Byte) → List (List (List Byte))
  | 0, _ => []
  | _, [] => []
  | n + 1, l => l.take 7 :: sevens n (l.drop 7)

/-- Write one record of samples to the telemetry ring (R482, R313). -/
def State.telemetryRecord (s : State) (l : List (List Byte)) : State :=
  let released := s.reg 0xA05007
  let (bad, rel, ring) := s.dbg.telemetry.readReleased 16384 released
  let s1 := if bad then s.countReg 0x831006 32 1 else s
  let record := recordHeader 4 1 (32 * l.length) s.domainId s.deviceId 0 0xFFFF s.stamp s.stamp ++ l.flatten
  let (_, ring') := ring.put 16384 rel s.stamp record
  let s2 := { s1 with dbg := { s1.dbg with telemetry := ring' } }
  if bad then s2.invalidRelease 0xFFFE released else s2

/-- The rows due at a multiple of `interval` µs: those of every interval that divides the same instant, in list order, not yet
sampled there. -/
def State.samplesDue (s : State) (interval : Nat) : List SampleRow :=
  let instant := s.now / (1000 * interval) * (1000 * interval)
  s.sampleList.filter fun r =>
    0 < r.interval && instant % (1000 * r.interval) = 0 && (s.dbg.lastSample.get 0 r.interval) < instant

/-- CROWS_NEST_SAMPLE (R481, R482). -/
def execCrowsNestSample (interval : Nat) (s : State) : Result :=
  let rows := s.samplesDue interval
  if interval = 0 || rows = [] then .next s
  else
    let instant := s.now / (1000 * interval) * (1000 * interval)
    let samples := rows.map s.sampleRow
    let s1 := { s with dbg := { s.dbg with
        lastSample := rows.foldl (fun m r => m.set r.interval instant) s.dbg.lastSample } }
    .next ((sevens samples.length samples).foldl State.telemetryRecord s1)

/-! ### The debug block's commit (R483) -/

/-- Rows of `n` bytes in a table's value. -/
def rowsOf (n : Nat) (l : List Byte) : List (List Byte) := (List.range (l.length / n)).map fun i => subBytes l (n * i) n

/-- A row of the trigger table, and its bytes (R472). -/
def triggerOf (b : List Byte) : Trigger :=
  { state := field b 0 1
    mask := field b 1 1
    unit := field b 2 2
    code := field b 4 2
    ctx := field b 6 2
    layer := field b 8 4
    operator := field b 12 2
    step := field b 14 4
    count := field b 18 2 }
def Trigger.bytes (t : Trigger) : List Byte :=
  leBytes 1 t.state ++ leBytes 1 t.mask ++ leBytes 2 t.unit ++ leBytes 2 t.code ++ leBytes 2 t.ctx ++ leBytes 4 t.layer ++
  leBytes 2 t.operator ++ leBytes 4 t.step ++ leBytes 2 t.count

/-- A row of the dump table, and its bytes (R475). -/
def dumpRowOf (b : List Byte) : DumpRow :=
  { enable := decide (field b 0 1 ≠ 0)
    ctx := field b 1 2
    mask := field b 3 1
    layer := field b 4 4
    operator := field b 8 2
    step := field b 10 4
    atEnd := decide (field b 14 1 = 1)
    member := field b 15 2
    deviceSource := decide (field b 17 1 = 1)
    source := field b 18 8
    length := field b 26 4
    tag := field b 30 4
    fmt := field b 34 1
    dims := [field b 35 4, field b 39 4, field b 43 4]
    remaining := field b 47 2 }
def DumpRow.bytes (r : DumpRow) : List Byte :=
  leBytes 1 (if r.enable then 1 else 0) ++ leBytes 2 r.ctx ++ leBytes 1 r.mask ++ leBytes 4 r.layer ++ leBytes 2 r.operator ++
  leBytes 4 r.step ++ leBytes 1 (if r.atEnd then 1 else 0) ++ leBytes 2 r.member ++
  leBytes 1 (if r.deviceSource then 1 else 0) ++ leBytes 8 r.source ++ leBytes 4 r.length ++ leBytes 4 r.tag ++ leBytes 1 r.fmt ++
  (List.range 3).flatMap (fun i => leBytes 4 (r.dims.getD i 0)) ++ leBytes 2 r.remaining

/-- A row of the sample list, and its bytes (R481). -/
def sampleRowOf (b : List Byte) : SampleRow :=
  { unit := field b 0 2, counter := field b 2 2, perCmd := decide (field b 4 1 ≠ 0), interval := field b 5 4 }
def SampleRow.bytes (r : SampleRow) : List Byte :=
  leBytes 2 r.unit ++ leBytes 2 r.counter ++ leBytes 1 (if r.perCmd then 1 else 0) ++ leBytes 4 r.interval

/-- Whether a unit code names a unit with a slate: kinds 0 to 6 (R470). -/
def isUnit (u : Nat) : Bool :=
  let i := u % 4096
  match u / 4096 with
  | 0 => decide (i < 800)
  | 1 => decide (i < 4)
  | 2 => decide (i < 4)
  | 3 => decide (i = 0)
  | 4 => decide (i < 3)
  | 5 => decide (i < 4)
  | 6 => decide (i < 2)
  | _ => false

/-- Whether a trigger row is one of R472. -/
def triggerGood (b : List Byte) : Bool :=
  field b 0 1 ≤ 2 && (field b 0 1 = 0 || !Nat.testBit (field b 1 1) 0 || isUnit (field b 2 2))

/-- Whether a dump row is one of R475: a row that is off holds anything. -/
def State.dumpRowGood (s : State) (b : List Byte) : Bool :=
  let r := dumpRowOf b
  field b 0 1 = 0 ||
  (field b 0 1 = 1 && field b 14 1 ≤ 1 && field b 17 1 ≤ 1 && r.length % 64 = 0 && 64 ≤ r.length && r.length ≤ 0x300000 &&
    r.fmt ≤ 12 && if r.deviceSource then s.extentPopulated r.source r.length else decide (r.source + r.length ≤ 0x300000))

/-- Whether a row of the sample list is one of R481, less its PERCMD. -/
def sampleRowGood (b : List Byte) : Bool :=
  let r := sampleRowOf b
  (r.unit < 800 || (0x7000 ≤ r.unit && r.unit ≤ 0x7003) || r.unit = 0x8000) && (counterWidth r.counter).isSome &&
  field b 4 1 ≤ 1 && r.interval % 100 = 0 && 100 ≤ r.interval && r.interval ≤ 1000000

/-- The keys of the debug block's scalar RL entries. -/
def debugScalars : List Nat := [0xA03001, 0xA03002, 0xA03003, 0xA03004, 0xA03005, 0xA03101, 0xA03102]

/-- The trigger table in force. -/
def State.triggerBytes (s : State) : List Byte := (List.range 8).flatMap fun n => (s.dbg.triggers.get {} n).bytes

/-- The dump table in force. -/
def State.dumpBytes (s : State) : List Byte := (List.range 16).flatMap fun n => (s.dbg.dumps.get { dims := [0, 0, 0] } n).bytes

/-- The slate masks in force. -/
def State.maskBytes (s : State) : List Byte := (List.range 7).flatMap fun k => leBytes 1 (s.dbg.masks.get 0xE3 k)

/-- The sample list in force, as bytes. -/
def State.sampleBytes (s : State) : List Byte := s.sampleList.flatMap SampleRow.bytes

/-- A table of the debug block as its shadow stands: what was written since the last commit, else the value in force. -/
def State.debugShadow (s : State) (k : Nat) (inForce : List Byte) : List Byte := s.blobShadows.get inForce k

/-- Whether the trace and dump areas that the shadows give lie where R483 wants them. -/
def State.debugAreasGood (s : State) : Bool :=
  let size := 200 * 1024 * s.shadow 0xA03005
  (size = 0 || (List.range 4).all fun t =>
    let b := s.shadow (0xA03001 + t)
    0x2400000000 * t ≤ b && b + size ≤ 0x2400000000 * (t + 1)) &&
  (s.shadow 0xA03102 = 0 || s.shadow 0xA03101 + s.shadow 0xA03102 ≤ hbmEnd)

/-- Whether a trace or a dump runs into an area that the commit moves (R483 status 5). -/
def State.debugAreaBusy (s : State) : Bool :=
  let moved := fun k => s.shadow k ≠ s.reg k
  s.clusters.entries.any fun e =>
    let tracing := s.traceSize ≠ 0 && (e.2.traceBuf ≠ [] || (match e.2.core.run with | some r => r.trace | none => false))
    (tracing && (moved (0xA03001 + e.1 / 200) || moved 0xA03005)) ||
    (e.2.core.dumpDue ≠ [] && (moved 0xA03101 || moved 0xA03102))

/-- The status of a debug commit, 0 when it is accepted (R483). -/
def State.debugVerdict (s : State) : Nat :=
  let triggers := rowsOf 20 (s.debugShadow 0xA00101 s.triggerBytes)
  let dumps := rowsOf 49 (s.debugShadow 0xA03201 s.dumpBytes)
  let samples := rowsOf 9 (s.debugShadow 0xA05001 s.sampleBytes)
  if !triggers.all triggerGood || !dumps.all s.dumpRowGood || !samples.all sampleRowGood then 2
  else if !s.debugAreasGood then 3
  else if samples.any fun b => (sampleRowOf b).perCmd && 0x7000 ≤ (sampleRowOf b).unit then 4
  else if s.debugAreaBusy then 5 else 0

/-- Put one table's written shadow in force. -/
def State.applyDebugTable (s : State) (k : Nat) (f : List Byte → Debug → Debug) : State :=
  match SMap.lookup s.blobShadows.entries k with
  | none => s
  | some b => { s with dbg := f b s.dbg, blobShadows := s.blobShadows.dropKeys (· = k) }

/-- The numbered rows of a table. -/
def numbered {α : Type} (f : List Byte → α) (rows : List (List Byte)) : SMap α := ⟨rows.mapIdx fun i b => (i, f b)⟩

/-- The commit of OD 0xA0FF.00 (R483): tables that were written since the last commit replace those in force. -/
def State.debugCommitOp (s : State) (value : Nat) : Nat × State :=
  if value ≠ 1 then (5, s)
  else if s.debugVerdict ≠ 0 then (1, s.setReg 0xA00201 s.debugVerdict)
  else
    let s1 := s.applyDebugTable 0xA00101 fun b d => { d with triggers := numbered triggerOf (rowsOf 20 b) }
    let s2 := s1.applyDebugTable 0xA02101 fun b d =>
      { d with masks := numbered (fun r => Nat.lor (field r 0 1) 0x81) (rowsOf 1 b) }
    let s3 := s2.applyDebugTable 0xA03201 fun b d => { d with dumps := numbered dumpRowOf (rowsOf 49 b) }
    let s4 := s3.applyDebugTable 0xA05001 fun b d => { d with samples := some ((rowsOf 9 b).map sampleRowOf) }
    (1, (s4.commitRegs debugScalars).setReg 0xA00201 0)

/-- DEBUG_COMMIT (R483). -/
def execDebugCommit (value : Nat) (s : State) : Result := .next (s.debugCommitOp value).2

end Sys2Proof.Machine
end

