-- ==== Sys2Proof/Machine/Boot.lean ====
section
/-! DEFINITION. Start-up, firmware images, life cycle, attestation, rails and reset pins (R439 to R460, R499 to R503). -/

namespace Sys2Proof.Machine

/-! ### Identity (R2, R5, R455) -/

/-- The full part number (R2). -/
def State.partNumber (s : State) : List Byte :=
  asciiBytes (if s.fuses.guests = 0 then (if s.fuses.extended then "SKX-D800-A-E" else "SKX-D800-A-N")
    else (if s.fuses.extended then "SKX-D800-G-E" else "SKX-D800-G-N"))

/-- The fused configuration that is measured (R455 order 5): OD 0x1000.01 to 0x1000.05 and the guest part IDs. -/
def State.fusedConfiguration (s : State) : List Byte :=
  s.partNumber ++ leBytes 1 (if s.fuses.extended then 1 else 0) ++ leBytes 2 s.fuses.guests ++ leBytes 8 s.fuses.serial ++
  leBytes 4 s.gradeLimit ++
  ((List.range 2).filter (Nat.testBit s.fuses.guests)).flatMap fun g => padTo 8 (s.fuses.guestPart.get [] g)

/-! ### Images (R444 to R448) -/

/-- Fields of an image (R445). -/
def imageLength (b : List Byte) : Nat := field b 0x14 4
def imageKey (b : List Byte) : List Byte := subBytes b (imageLength b - 68) 68

/-- Component `c` of an image: kind, offset, length. -/
def imageComponent (b : List Byte) (c : Nat) : Nat × Nat × Nat :=
  (field b (0x20 + 16 * c) 1, field b (0x24 + 16 * c) 4, field b (0x28 + 16 * c) 4)

/-- The components of an image, in header order. -/
def imageComponents (b : List Byte) : List (Nat × Nat × Nat) := (List.range (field b 6 2)).map (imageComponent b)

/-- Whether no two of these extents overlap. -/
def disjointExtents : List (Nat × Nat) → Bool
  | [] => true
  | (a, n) :: l => l.all (fun e => a + n ≤ e.1 || e.1 + e.2 ≤ a) && disjointExtents l

/-- Whether an image's header obeys R445. -/
def imageHeaderGood (b : List Byte) : Bool :=
  let comps := imageComponents b
  b.length = imageLength b + 2820 && 324 ≤ imageLength b && subBytes b 0 4 = asciiBytes "WFWI" && field b 4 2 = 1 &&
  1 ≤ field b 6 2 && field b 6 2 ≤ 8 &&
  (comps.all fun c => 1 ≤ c.1 && c.1 ≤ 5 && 256 ≤ c.2.1 && c.2.1 + c.2.2 ≤ imageLength b - 68) &&
  disjointExtents (comps.map (·.2))

/-- The OID of XMSS-SHAKE256_20_256 (NIST SP 800-208), as a public key opens with it: big-endian 0x00000012. -/
def xmssOid : List Byte := [0, 0, 0, 0x12]

/-- The first check of R445 that an image fails, in the order of its list from 1; 0 when the ROM accepts it. -/
def State.imageCheck (s : State) (b : List Byte) : Nat :=
  if !imageHeaderGood b then 1
  else if shake256 (imageKey b) ≠ padTo 32 s.fuses.root then 2
  else if subBytes (imageKey b) 0 4 ≠ xmssOid ||
      !Config.xmssVerify (imageKey b) (b.take (imageLength b)) (subBytes b (imageLength b) 2820) then 3
  else if field b 0x0C 4 < s.boot.flash.firmwareMinimum then 4 else 0

/-- The image in a slot. -/
def Flash.image (f : Flash) (slot : Nat) : List Byte := if slot = 0 then f.slot0 else f.slot1

/-- The slot that the hub runs from (OD 0x9000.03). -/
def State.runningSlot (s : State) : Nat := s.reg 0x900003

/-! ### The state that a start leaves (R439 to R442) -/

/-- Temperatures as they stand, with no level, warning or shutdown. -/
def Thermal.afresh (t : Thermal) : Thermal :=
  { elements := t.elements.mapVals fun _ k => ({ centi := k.centi } : Element)
    sensors := t.sensors
    supply := t.supply
    inlet := t.inlet
    outlet := t.outlet
    flashCenti := t.flashCenti }

/-- A ring as its flash copy starts it (R259, R440): the set-point table and its counts, locked or PARKED as plan 0 wants. -/
def State.ringFromFlash (s : State) (e : Nat) (r : Ring) : Ring :=
  { s.defaultRing e with table := r.table, calibrations := r.calibrations, calibrated := r.calibrated }

/-- The control plane after a start: one complex ACTIVE and one STANDBY, empty queues and caches. What has left stays sent. -/
def State.controlAfresh (s : State) (epoch : Nat) (ports : SMap Krytae) : Control :=
  { krytae := ports
    complexes := ⟨[(0, { state := .active, epoch := epoch }), (1, { state := .standby, epoch := epoch })]⟩
    epoch := epoch
    out := s.control.out
    wire := s.control.wire }

/-- Dies after a start: guests in RESET; a die in SHUTDOWN stays there (R402, R443), one whose rails are out stays in RESET
(R502). -/
def State.diesAfresh (s : State) (epoch : Nat) (warm : Bool) : SMap Die :=
  ⟨([0x10, 0x11, 0x12, 0x13, 0x20, 0x21, 0x22, 0x23, 0x30, 0x31].map fun d =>
      (d, if warm && (s.die d).state = .shutdown then { s.die d with highestEpoch := epoch }
        else if (s.die d).railsOut then ({ state := .reset, railsOut := true, highestEpoch := epoch } : Die)
        else ({ highestEpoch := epoch } : Die))) ++
    [0x40, 0x41].map fun d =>
      (d, ({ state := .reset, readyEpoch := 0, railsOut := (s.die d).railsOut, highestEpoch := epoch } : Die))⟩

/-- Clusters after a start: wiped, each at the rate that its burst of R56 found, within the governor's bound (R55). A cluster
that the operand does not list ran at 2,000 M handshakes/s. -/
def clustersAfresh (rates : List Nat) : SMap Cluster :=
  ⟨(List.range (Nat.min 800 rates.length)).map fun c => (c, ({ rate := Nat.min 2400 (rates.getD c 2000) } : Cluster))⟩

/-- Everything that a cold start resets (R440): what remains is flash, fuses, temperatures, and the reference inputs' state. -/
def State.coldBase (s : State) (obs : StartObs) : State :=
  { pending := s.pending
    fuses := s.fuses
    freeCount := s.freeCount
    clusters := clustersAfresh obs.rates
    photonics :=
      { rings := s.boot.flash.calibration.mapVals s.ringFromFlash
        banks := s.boot.flash.calibrationBanks }
    clocks :=
      { count := 1000 * obs.duration
        good0 := s.clocks.good0
        good1 := s.clocks.good1
        selected := if s.clocks.good0 then 0 else 1 }
    control := s.controlAfresh 1 ⟨[]⟩
    package := { dies := s.diesAfresh 1 false }
    thermal := s.thermal.afresh
    boot := { flash := s.boot.flash } }

/-- Everything that a warm start resets (R440, R442): the rig runs on, with its lamps, rings, time master, thermal sensing and
slates; the epoch rises by one. -/
def State.warmBase (s : State) (obs : StartObs) : State :=
  let epoch := (s.control.epoch + 1) % 4294967296
  { pending := s.pending
    fuses := s.fuses
    freeCount := s.freeCount
    regs := ⟨[(0x440001, s.reg 0x440001), (0x440002, s.reg 0x440002), (0x440003, s.reg 0x440003), (0x440004, s.reg 0x440004),
      (0xA00007, s.reg 0xA00007), (0xB00104, s.reg 0xB00104)]⟩
    clusters := clustersAfresh obs.rates
    photonics := s.photonics
    clocks :=
      { count := s.clocks.count
        good0 := s.clocks.good0
        good1 := s.clocks.good1
        selected := s.clocks.selected
        holdover := s.clocks.holdover
        lostAt := s.clocks.lostAt
        pulling := s.clocks.pulling
        freqWarning := s.clocks.freqWarning
        lastSync := s.clocks.lastSync }
    control := s.controlAfresh epoch (s.control.krytae.mapVals fun _ k =>
      { k with retrains := 0, everTrained := decide (k.state = .up), corrected := 0, replays := 0, changed := 0 })
    package := { dies := s.diesAfresh epoch true }
    thermal := { s.thermal with powerLevel := ⟨[]⟩, applied := ⟨[]⟩, lastPower := ⟨[]⟩, attestRefusalRaised := false }
    dbg := { slates := s.dbg.slates.dropKeys fun u => u / 4096 ≠ 4 }
    boot := { flash := s.boot.flash, lastCalibrationCopy := s.boot.lastCalibrationCopy } }

/-! ### Steps 3 to 9 of a start (R441) -/

/-- Firmware is selected (R446): the slot to run, or none; the event names a preferred slot that fails, and its check. -/
def State.selectImage (s : State) : Option Nat × State :=
  let p := s.boot.flash.preferred
  let bad := s.imageCheck (s.boot.flash.image p)
  if bad = 0 then (some p, s)
  else
    let s1 := s.raise 0x1B02 s.hubDie hubUnit (leBytes 1 p ++ leBytes 1 bad)
    (if s.imageCheck (s.boot.flash.image (1 - p)) = 0 then some (1 - p) else none, s1)

/-- The measurement chain of a start (R455): an image that is not loaded is not measured. -/
def State.measureStart (s : State) (image : Option (List Byte)) : State :=
  let rom := leBytes 1 (s.fuses.dieRev.get 0 0x30) ++ leBytes 1 (s.fuses.dieRev.get 0 0x31) ++ Config.romVersion
  let s1 := s.measureItem 1 rom
  let s2 := match image with
    | none => s1
    | some b => (imageComponents b).foldl (fun (s : State) (c : Nat × Nat × Nat) => s.measureItem 3 (subBytes b c.2.1 c.2.2)) (s1.measureItem 2 (b.take 256))
  (s2.measureItem 4 (leBytes 1 s2.lifeCycle)).measureItem 5 s2.fusedConfiguration

/-- The hub enters service mode (R446): OD 0x1002.04 reads 0xFF; the dies above the rig, but for the hub, stay in RESET. -/
def State.enterService (s : State) : State :=
  let s1 := { s with
    boot := { s.boot with serviceMode := true }
    package := { s.package with dies := s.package.dies.mapVals fun d k =>
      if d / 16 = 3 || k.state ≠ DieState.ready then k else { k with state := DieState.reset } } }
  s1.setReg 0x100204 0xFF

/-- The valid leaf reservation record with the highest sequence (R457, R458). -/
def Flash.leafRecord (f : Flash) : Option LeafRecord :=
  if f.leaf0.good && (!f.leaf1.good || f.leaf1.seq ≤ f.leaf0.seq) then some f.leaf0
  else if f.leaf1.good then some f.leaf1 else none

/-- Write leaf reservation record `n` (R457, R459). -/
def Flash.reserve (f : Flash) (n ceiling : Nat) : Flash :=
  let r : LeafRecord := { seq := n, ceiling := ceiling, good := true }
  if n % 2 = 0 then { f with leaf0 := r } else { f with leaf1 := r }

/-- The identity key is created at the first start in PROVISIONED (R452), while flash may be written (R444). -/
def State.createIdentity (s : State) : State :=
  if s.lifeCycle ≠ 1 || s.boot.flash.identity ≠ [] || !s.flashWindow then s
  else
    { s with
      freeCount := s.freeCount + 1
      boot := { s.boot with flash := { s.boot.flash with identity := Config.identitySeed s.freeCount }.reserve 1 64 } }

/-- END erases the identity area, or has the erase retried (R451). -/
def State.eraseAtEnd (s : State) : State :=
  if s.lifeCycle ≠ 4 then s
  else if s.flashWindow then { s with boot := { s.boot with flash := { s.boot.flash with identity := [], endorsement := [] } } }
  else { s with boot := { s.boot with eraseIdentity := true } }

/-- The next leaf index is set from flash (R458). -/
def State.setLeaf (s : State) : State :=
  match s.boot.flash.leafRecord with
  | some r => { s with boot := { s.boot with leaf := r.ceiling } }
  | none =>
    { s with boot := { s.boot with leavesUnusable := true } }.raise 0x1B04 s.hubDie hubUnit
      (leBytes 4 s.boot.flash.leaf0.seq ++ leBytes 4 s.boot.flash.leaf1.seq)

/-- A fuse copy that lacks a bit of the other gets it, within the fuse window (R450). -/
def State.mendFuses (s : State) : State :=
  let both := s.fuses.lifeCopy0 ||| s.fuses.lifeCopy1
  if s.fuses.lifeCopy0 = s.fuses.lifeCopy1 || !s.fuseWindow then s
  else { s with fuses := { s.fuses with lifeCopy0 := both, lifeCopy1 := both } }

/-- One record of the repair log is applied at a start (R334). -/
def State.applyRepair (s : State) : RepairRecord → State
  | .swap link stay bond =>
    (s.modStay (stayKey link stay) fun q => { q with swapped := q.swapped ++ [bond] }).modLink link fun l =>
      { l with spares := l.spares + 1 }
  | .retire link stay => s.retireStay link stay
  | .narrow link mask => s.setMask link mask

/-- A record whose complement fails is skipped and reported, and its stay is tested (R334). -/
def State.skipRepair (s : State) (r : RepairRecord) : State :=
  let (link, stay) := match r with
    | .swap l t _ => (l, t)
    | .retire l t => (l, t)
    | .narrow l _ => (l, 0)
  (s.raise 0x1702 (linkDie link) (linkUnit link) (leBytes 2 link ++ leBytes 1 stay)).modStay (stayKey link stay) fun q =>
    { q with suspect := some s.now }

/-- The repair log is applied (R334); what it retires has been counted before. -/
def State.applyRepairs (s : State) (bad : List Nat) : State :=
  let s1 := (s.boot.flash.repairLog.mapIdx fun i r => (i, r)).foldl (fun s e =>
    if bad.contains e.1 then s.skipRepair e.2 else s.applyRepair e.2) s
  s1.setReg 0x102003 0

/-- The lanes on whose paths a start must look for positions to drop: of FAILED rings, and of bars with dropped channels. -/
def State.lanesToReview (s : State) : List Nat :=
  ((s.photonics.rings.entries.filter fun e => e.2.state = .failed).flatMap fun e =>
    match s.pathOf e.1 with
    | .lanes l => l
    | _ => []) ++
  ((List.range 12).filter fun b => (s.bar b).dark || (s.bar b).droppedChannels ≠ []).flatMap s.lanesOfBar

/-- Lanes train to plan 0 (R214, R441 step 9): narrowed where one position is dropped, OUT where two are or the bar is dark. -/
def State.trainLanes (s : State) (failed : List (Nat × Nat)) : State :=
  let s1 := s.lanesToReview.eraseDups.foldl (fun s k =>
    let d := s.dropsFor k
    if 2 ≤ d.length || (s.bar (barOfLane k)).dark then (s.laneOut k false).modLane k fun l => { l with dropped := d }
    else s.modLane k fun l => { l with dropped := d }) s
  failed.foldl (fun s f => s.laneOut (laneKey f.1 f.2) false) s1

/-- Standing paths train (R441 step 9): those without their wavelength stay down. Fibre ports keep the positions they have to drop
(R255). -/
def State.trainPaths (s old : State) : State :=
  let downed := (old.rig.standing.entries.filter fun e => e.2.wavelengthDropped).map fun e => (e.1 / 16, e.1 % 16)
  let rings := (s.photonics.rings.entries.filter fun e => e.2.state = .failed).filterMap fun e =>
    match s.pathOf e.1 with
    | .standing a b => if s.hasStanding a b then some (a, b) else none
    | _ => none
  let ports := (List.range 64).filter fun p => (s.bar (barOfPort p)).droppedChannels ≠ [] ||
    s.photonics.rings.entries.any fun e => e.2.state = .failed && s.pathOf e.1 = .port p
  let s := ports.foldl State.reviewPort s
  let s1 := downed.foldl (fun s p => (s.standingDown p.1 p.2).modStanding p.1 p.2 fun q => { q with wavelengthDropped := true }) s
  rings.foldl (fun s p => s.standingDown p.1 p.2) s1

/-- Rings that do not lock (R259 step 6): FAILED. -/
def State.failRings (s : State) (l : List Nat) : State :=
  l.foldl (fun s e => if isElement e then
    ((s.modRing e fun r => { r with state := .failed, tone := none }).countReg 0x430005 32 1).raise 0x1407 0 photonicUnit (leBytes 4 e) else s) s

/-- RAISE (R447): the firmware minimum rises to SECVER at start-complete; a refused write is retried. -/
def State.raiseFirmware (s : State) (image : List Byte) : State :=
  let v := field image 0x0C 4
  if field image 0x10 4 % 2 = 0 || v ≤ s.boot.flash.firmwareMinimum then s
  else if s.flashWindow then { s with boot := { s.boot with flash := { s.boot.flash with firmwareMinimum := v } } }
  else { s with boot := { s.boot with raiseMinimum := some v } }

/-- The codes of the elements that are not in service: dies, stacks 0x80 + k, bars 0x60 + b (R326, R441). -/
def State.notInService (s : State) : List Nat :=
  ([0x10, 0x11, 0x12, 0x13, 0x20, 0x21, 0x22, 0x23, 0x30, 0x31].filter fun d => (s.die d).state ≠ .ready) ++
  ((List.range 12).filter fun b => (s.bar b).dark).map (0x60 + ·) ++
  ((List.range 24).filter fun k => !(s.stack k).inService).map (0x80 + ·)

/-- Steps 4 to 10 of a start (R441, R442), once an image runs. -/
def State.bringUp (s old : State) (obs : StartObs) (type : Nat) (slot : Nat) : State :=
  let image := s.boot.flash.image slot
  let s1 := ((s.failRings obs.failedRings).applyRepairs obs.badRecords).setReg 0x900003 slot
  let s2 := obs.failedDies.foldl (fun s d => if resetCodes.contains d then s.dieFails d else s)
    (resetCodes.foldl (fun s d => s.checkDie d) s1)
  let s3 := obs.failedStacks.foldl (fun s k => if k < 24 then s.modStack k fun q => { q with inService := false } else s) s2
  let s4 := obs.roundTrips.foldl (fun s e => s.measurePath e.1 e.2) ((s3.trainLanes obs.failedLanes).trainPaths old).reefReview
  let s5 := ((s4.setReg 0x100204 10).setReg 0x100202 type).setReg 0x100203 obs.duration
  (s5.raiseFirmware image).raise 0x1B01 s5.hubDie hubUnit
    (leBytes 1 type ++ leBytes 4 obs.duration ++ s5.notInService.flatMap (leBytes 1 ·))

/-- A start (R441, R442) from the state that its reset leaves: fuse copies compared, firmware verified, the chain extended,
the halves compared (R447), the new life-cycle state's effect applied (R450, R451), and the package brought up. -/
def State.start (s old : State) (obs : StartObs) (type : Nat) : State :=
  let s1 := s.mendFuses
  let (slot, s2) := if s1.lifeCycle = 4 then ((none : Option Nat), s1) else s1.selectImage
  let s3 := ((s2.measureStart (slot.map s2.boot.flash.image)).createIdentity.eraseAtEnd).setLeaf
  match slot with
  | none => s3.enterService
  | some n =>
    if obs.halvesAgree then s3.bringUp old obs type n
    else
      let (other, s4) := s3.freeBytes 32
      (s4.raise 0x1B03 s4.hubDie hubUnit (s4.boot.measure ++ other)).enterService

/-! ### Starts (R439, R441, R442) -/

/-- The code of a cold start's cause (OD 0x1002.02). -/
def coldType : ColdCause → Nat
  | .powerOn => 2
  | .rstN => 2
  | .command => 3
  | .lifeCycle => 4

/-- Whether a cold start's cause has come about: power-on may come at any time. -/
def State.coldDueFor (s : State) : ColdCause → Bool
  | .powerOn => true
  | .rstN => s.boot.coldDue = some .rstN
  | .lifeCycle => s.boot.coldDue = some .lifeCycle
  | .command => match s.boot.startDue with
    | some (true, t) => decide (t ≤ s.now)
    | _ => false

/-- RESET_NOTICE goes out before a start that loses domain state (R292, R439), unless the hub is already halted. -/
def State.noticeStart (s : State) : State := if s.boot.halted then s else s.sendNotices

/-- COLD_START (R441): with a reference input good. -/
def execColdStart (cause : ColdCause) (obs : StartObs) (s : State) : Result :=
  if !s.coldDueFor cause || (!s.clocks.good0 && !s.clocks.good1) then .next s
  else
    let s1 := if cause = .powerOn || cause = .rstN then s else s.noticeStart
    .next ((s1.coldBase obs).start (s1.coldBase obs) obs (coldType cause))

/-- WARM_START (R442). -/
def execWarmStart (obs : StartObs) (s : State) : Result :=
  match s.boot.startDue with
  | some (false, t) =>
    if s.now < t || s.boot.halted then .next s
    else
      let s1 := s.noticeStart
      .next ((s1.warmBase obs).start s1 obs 1)
  | _ => .next s

/-- A start is requested (R439): it is applied 100 µs after the response. -/
def State.requestStart (s : State) (cold : Bool) : State :=
  { s with boot := { s.boot with startDue := some (cold, s.now + 100000) } }

/-- START_REQUEST_WARM (R439). -/
def execStartRequestWarm (s : State) : Result := .next (s.requestStart false)

/-- START_REQUEST_COLD (R439). -/
def execStartRequestCold (s : State) : Result := .next (s.requestStart true)

/-! ### Pins and rails (R501 to R503) -/

/-- RST_N_LOW (R439, R503): held low for 10 µs, RST_N stops everything until the cold start. -/
def execRstNLow (heldNs : Nat) (s : State) : Result :=
  if heldNs < 10000 then .next s
  else
    let s1 := s.noticeStart.rigLoss
    .next { s1 with
      clocks := { s1.clocks with good0 := s.clocks.good0, good1 := s.clocks.good1 }
      thermal := s.thermal.afresh
      boot := { s1.boot with coldDue := some .rstN, rigLost := false, faultN := s.boot.faultN } }

/-- POWER_LOSS (R501): flash and fuses survive. -/
def execPowerLoss (s : State) : Result := .next s.rigLoss

/-- A rail fault resets a die abruptly, and it stays in RESET until its rails are back (R502). -/
def State.railReset (s : State) (d : Nat) : State := (s.abruptReset d .reset).modDie d fun k => { k with railsOut := true }

/-- RAIL_FAULT (R502): a rail of an unfitted site is not connected. -/
def execRailFault (rail : Rail) (s : State) : Result :=
  match rail with
  | .vaux => .next s.rigLoss
  | .vrig => .next s.rigLoss
  | .vdrv => .next s.rigLoss
  | .vhtr => .next s.rigLoss
  | .vlmp => .next s.rigLoss
  | .vhd => .next ((s.railReset 0x30).railReset 0x31).hubHalts
  | .vkd t => if t < 4 then .next (s.railReset (0x10 + t)) else .next s
  | .vddh t => if t < 4 then .next (s.railReset (0x10 + t)) else .next s
  | .vddqh t => if t < 4 then .next (s.railReset (0x10 + t)) else .next s
  | .vpph t => if t < 4 then .next (s.railReset (0x10 + t)) else .next s
  | .vcd t => if t < 4 then .next (s.railReset (0x20 + t)) else .next s
  | .vgst g =>
    if s.guestFitted g then .next ((s.guestGone g).modDie (guestDie g) fun k => { k with railsOut := true }) else .next s

/-! ### Life cycle (R449, R450) -/

/-- The transitions that R449 allows, and whether they need a token. -/
def transitionAllowed (src dst : Nat) : Bool :=
  (src = 0 && dst = 1) || (src = 1 && dst = 2) || (src = 2 && dst = 3) || (src ≠ 4 && dst = 4)
def transitionNeedsToken (src dst : Nat) : Bool := (src = 0 && dst = 1) || (src = 2 && dst = 3)

/-- Whether a token authorises a transition (R449): its body, and its signature under the key of the running image. -/
def State.tokenGood (s : State) (token : List Byte) (dst : Nat) : Bool :=
  let body := token.take 32
  let key := imageKey (s.boot.flash.image s.runningSlot)
  token.length = 2852 && subBytes body 0 4 = asciiBytes "WLCT" && field body 4 8 = s.fuses.serial && field body 12 1 = dst &&
  field body 13 1 = s.lifeCycle && subBytes body 14 18 = List.replicate 18 0 &&
  shake256 key = padTo 32 s.fuses.root && Config.xmssVerify key body (subBytes token 32 2820)

/-- A write of OD 0x1001.02 (R449, R450): refused, or the target bit is blown in both copies and a cold start begins. -/
def State.lifeCycleAction (s : State) (target : Nat) : State :=
  let src := s.lifeCycle
  if !transitionAllowed src target then s.setReg 0x100104 2
  else if (transitionNeedsToken src target && !s.tokenGood s.boot.token target) ||
      (target = 4 && s.boot.token ≠ asciiBytes "END") then s.setReg 0x100104 3
  else if !s.fuseWindow then (s.countReg 0x203004 32 1).setReg 0x100104 4
  else
    let bit : BitVec 4 := BitVec.ofNat 4 (2 ^ (target - 1))
    { (s.setReg 0x100104 1) with
      fuses := { s.fuses with lifeCopy0 := s.fuses.lifeCopy0 ||| bit, lifeCopy1 := s.fuses.lifeCopy1 ||| bit }
      boot := { s.boot with coldDue := some .lifeCycle } }

/-- LIFE_CYCLE_TRANSITION (R449). -/
def execLifeCycleTransition (target : Nat) (s : State) : Result :=
  if 4 < target then .next s else .next (s.lifeCycleAction target)

/-- FUSE_COPY_REPAIR (R450). -/
def execFuseCopyRepair (s : State) : Result := .next s.mendFuses

/-! ### Loading an image (R448) -/

/-- The commit of OD 0x90FF.00 (R448): verification, the flash window, the write and its reading back. -/
def State.securityCommitOp (s : State) (value : Nat) (readBackGood : Bool) : Nat × State :=
  let b := s.blobShadow 0x901001
  if value ≠ 1 then (5, s)
  else if s.imageCheck b ≠ 0 then (1, s.setReg 0x901002 2)
  else if !s.flashWindow then (1, (s.countReg 0x203004 32 1).setReg 0x901002 3)
  else
    let slot := 1 - s.runningSlot
    let f := s.boot.flash
    let written := if readBackGood then b else []
    let f1 := if slot = 0 then { f with slot0 := written } else { f with slot1 := written }
    let f2 := { f1 with
      slots := f1.slots.set slot (if readBackGood then (field b 8 4, field b 12 4, true) else (0, 0, false))
      preferred := if readBackGood then slot else f1.preferred }
    (1, { ((s.setBlob 0x901001 b).setReg 0x901002 (if readBackGood then 0 else 4)) with
      boot := { s.boot with flash := f2 } })

/-- SECURITY_COMMIT (R448). -/
def execSecurityCommit (value : Nat) (readBackGood : Bool) (s : State) : Result :=
  .next (s.securityCommitOp value readBackGood).2

/-! ### Attestation (R453, R454, R459) -/

/-- The report body (R454). -/
def State.reportBody (s : State) (nonce : List Byte) : List Byte :=
  let pass := fun g => if (s.guest g).state = .admitted then (s.guest g).passEpoch else 0
  padTo 256 (asciiBytes "WATR" ++ leBytes 2 1 ++ leBytes 1 s.lifeCycle ++
    leBytes 1 ((if s.boot.logFull then 1 else 0) + if s.compatMode then 2 else 0) ++ leBytes 8 s.fuses.serial ++
    padTo 32 nonce ++ padTo 32 s.boot.measure ++ leBytes 4 s.boot.log.length ++ leBytes 8 s.stamp ++
    leBytes 4 (field (s.boot.flash.image s.runningSlot) 0x0C 4) ++ leBytes 4 (pass 0) ++ leBytes 4 (pass 1) ++
    leBytes 4 s.control.epoch ++ leBytes 2 s.domainId ++ leBytes 1 s.deviceId)

/-- A leaf is reserved where the next one is the ceiling (R459). -/
def State.reserveLeaf (s : State) : State :=
  let r := s.boot.flash.leafRecord.getD {}
  if s.boot.leaf < r.ceiling then s
  else { s with boot := { s.boot with flash := s.boot.flash.reserve ((r.seq + 1) % 4294967296) (r.ceiling + 64) } }

/-- The status that refuses an attestation, 0 for none (R453). -/
def State.attestVerdict (s : State) : Nat :=
  if !s.flashWindow then 2
  else if s.lifeCycle ≠ 2 && s.lifeCycle ≠ 3 then 3
  else if 2 ^ 40 ≤ s.boot.leaf || (s.boot.leavesUnusable && s.lifeCycle ≠ 3) then 4
  else if s.boot.nonce.isNone then 5 else 0

/-- A write of 1 to OD 0x9030.02 (R453, R405). -/
def State.attest (s : State) : State :=
  let v := s.attestVerdict
  if v ≠ 0 then
    let s1 := s.setReg 0x903003 v
    if v ≠ 2 || s.thermal.attestRefusalRaised then s1
    else { s1 with thermal := { s1.thermal with attestRefusalRaised := true } }.raise 0x1905 s1.hubDie hubUnit
      (intBytes 2 s1.thermal.flashCenti)
  else
    let s1 := s.reserveLeaf
    let body := s1.reportBody (s1.boot.nonce.getD [])
    let report := body ++ padTo 9893 (Config.xmssMtSign s1.boot.flash.identity s1.boot.leaf body)
    { ((s1.setBlob 0x903004 report).setReg 0x903003 0) with
      boot := { s1.boot with nonce := none, leaf := s1.boot.leaf + 1 } }

/-- ATTESTATION_REQUEST (R453): a value other than 1 names no action. -/
def execAttestationRequest (value : Nat) (s : State) : Result := if value = 1 then .next s.attest else .next s

end Sys2Proof.Machine
end

