-- ==== Sys2Proof/Machine/Collectives.lean ====
section
/-! DEFINITION. Tack plans, the tack sequencer and collectives (R211 to R234). -/

namespace Sys2Proof.Machine

/-! ### Plans (R211 to R215) -/

/-- The entries of a plan image (R212): slot, lane, targets. -/
def imageEntries (image : List Byte) : List (Nat × Nat × Nat) :=
  (List.range (field image 2 2)).map fun e =>
    (field image (8 + 4 * e) 1, field image (9 + 4 * e) 1, field image (10 + 4 * e) 2)

/-- The default plan (R214): every lane of every populated site. -/
def State.defaultEntries (s : State) : List (Nat × Nat × Nat) :=
  s.allLanes.map fun k => (k / 64, k % 64, planZero (k / 64) (k % 64))

/-- A plan slot. -/
def State.plan (s : State) (n : Nat) : Plan := s.coll.plans.get {} n

/-- Whether a slot holds a plan. -/
def State.planLoaded (s : State) (n : Nat) : Bool := n = 0 || (n < 64 && (s.plan n).image ≠ [])

/-- The entries of a plan. -/
def State.planEntries (s : State) (n : Nat) : List (Nat × Nat × Nat) :=
  if n = 0 then s.defaultEntries else imageEntries (s.plan n).image

/-- The image of a plan's entries (R212). -/
def entriesImage (n : Nat) (l : List (Nat × Nat × Nat)) : List Byte :=
  leBytes 1 1 ++ leBytes 1 n ++ leBytes 2 l.length ++ leBytes 4 0 ++
  (l.map fun e => leBytes 1 e.1 ++ leBytes 1 e.2.1 ++ leBytes 2 e.2.2).flatten

/-- The image of a slot: the stored one, or the default plan's. -/
def State.planImage (s : State) (n : Nat) : List Byte :=
  if n = 0 then entriesImage 0 s.defaultEntries else (s.plan n).image

/-- Whether entries stand in strictly ascending order of (SLOT, LANE). -/
def ascending : List (Nat × Nat × Nat) → Bool
  | a :: b :: l => a.1 * 256 + a.2.1 < b.1 * 256 + b.2.1 && ascending (b :: l)
  | _ => true

/-- The check of status 4 of R213, for plan `n`. A lane number is out of range at a populated kind of site only: a reserved
slot is status 5. -/
def imageGood (n : Nat) (image : List Byte) : Bool :=
  let c := field image 2 2
  let l := imageEntries image
  field image 0 1 = 1 && field image 1 1 = n && 1 ≤ c && c ≤ 212 && image.length = 8 + 4 * c && ascending l &&
  l.all fun e => e.1 < 16 && (11 ≤ e.1 || e.2.1 < siteLanes e.1) && (targetSlots e.2.2).length ≤ 4 &&
    !Nat.testBit e.2.2 e.1

/-- The reserved or unpopulated slot that an entry names first (R213 status 5). -/
def State.badSlot (s : State) (e : Nat × Nat × Nat) : Option Nat :=
  (e.1 :: targetSlots e.2.2).find? fun d => !s.sitePopulated d

/-- How many nodes on the path to slot `d` branch for a target set (R181). -/
def splitsOn (targets : List Nat) (d : Nat) : Nat :=
  ((List.range 4).filter fun level =>
    let sharing := targets.filter fun t => t / 2 ^ (4 - level) = d / 2 ^ (4 - level)
    (sharing.map fun t => t / 2 ^ (3 - level) % 2).eraseDups.length = 2).length

/-- Whether a split lane meets R181. -/
def splitGood (mask : Nat) : Bool := (targetSlots mask).all fun d => splitsOn (targetSlots mask) d ≤ 2

/-- How many of some aims reach a slot. -/
def reaching (aims : List Nat) (site : Nat) : Nat := (aims.filter fun m => Nat.testBit m site).length

/-- The first bank that some aims reach with more lanes than it has (R20). -/
def overfull (aims : List Nat) : Option Nat := (List.range 11).find? fun d => siteLanes d < reaching aims d

/-- The status of a plan load (R213): 0, or that of the first check that fails. -/
def State.planStatus (s : State) (n : Nat) (payload : List Byte) : Nat :=
  let image := payload.take (payload.length / 2)
  let l := imageEntries image
  if n = 0 || 63 < n then 2
  else if !isCriticalPair payload then 3
  else if !imageGood n image then 4
  else if l.any fun e => (s.badSlot e).isSome then 5
  else if !(l.all fun e => splitGood e.2.2) then 6
  else if (overfull (l.map (·.2.2))).isSome then 7
  else 0

/-- The refusal of the first entry that names a bad slot (R23, R213 status 5). -/
def State.planSlotRefusal (s : State) (n : Nat) (l : List (Nat × Nat × Nat)) : State :=
  match l.find? fun e => (s.badSlot e).isSome with
  | none => s
  | some e =>
    (s.countReg 0x400003 32 1).raise 0x1301 0 0x4001
      (leBytes 1 e.1 ++ leBytes 1 ((s.badSlot e).getD 0) ++ leBytes 1 0 ++ leBytes 1 n)

/-- Whether a queued or running tack names a plan. -/
def State.tackNames (s : State) (n : Nat) : Bool :=
  s.coll.queue.any (fun q => q.plan = n) || (match s.coll.tack with | some t => t.plan = n | none => false)

/-- A commit of OD 0x41FF.00 (R213, R420): the answer is the transaction status. The image is a critical value, and a payload whose
complement fails is a mismatch of one (R173, R174). -/
def State.planCommit (s : State) (value : Nat) : Nat × State :=
  if value ≠ 1 then (5, s)
  else if s.commitPending 0x41 then (10, s)
  else
    let n := s.shadow 0x410001
    let payload := s.blobShadow 0x410002
    let st := s.planStatus n payload
    if st ≠ 0 then
      let s0 := if st = 3 then s.criticalMismatch 2 n else s
      let s1 := s0.setReg 0x410003 st
      (1, if st = 5 then s1.planSlotRefusal n (imageEntries (payload.take (payload.length / 2))) else s1)
    else
      let s1 := (s.commitRegs [0x410001]).setBlob 0x410002 payload
      if s1.tackNames n then
        let mark := fun (q : TackRequest) => if q.plan = n then { q with marked := true } else q
        (1, { (s1.setReg 0x410003 1).setCommitPending 0x41 true with
          coll := { s1.coll with
            pendingPlan := some (n, payload)
            queue := s1.coll.queue.map mark
            tack := s1.coll.tack.map fun t => if t.plan = n then { t with marked := true } else t } })
      else (1, (s1.storePlan n payload).setReg 0x410003 0)

/-- PLAN_COMMIT. -/
def execPlanCommit (value : Nat) (s : State) : Result := .next (s.planCommit value).2

/-! ### Tack requests (R216) -/

/-- A tack request from the control node (R216, R234). -/
def State.tackRequest (s : State) (n : Nat) : State :=
  if !s.planLoaded n then s.setReg 0x411002 3
  else if 16 ≤ s.coll.queue.length then s.setReg 0x411002 4
  else
    { s.setReg 0x411002 1 with coll := { s.coll with
        queue := s.coll.queue ++ [(⟨n, none, s.now, false⟩ : TackRequest)] } }

/-- TACK_REQUEST. -/
def execTackRequest (plan : Nat) (s : State) : Result := .next (s.tackRequest plan)

/-- The lanes that a plan would re-aim or retrain (R216, R217): those whose aim or state differs from it. -/
def State.lanesDiffering (s : State) (n : Nat) : List Nat :=
  (s.planEntries n).filterMap fun e =>
    let k := laneKey e.1 e.2.1
    let l := s.laneAt k
    let as_ := l.targets = e.2.2 && (if e.2.2 = 0 then l.state = .idle else l.state = .active)
    if as_ then none else some k

/-- Whether a plan gives a claimed lane an aim that differs from the one it has (R216). -/
def State.hitsClaims (s : State) (n : Nat) : Bool :=
  (s.planEntries n).any fun e =>
    let k := laneKey e.1 e.2.1
    (s.coll.claims.any fun c => c.2 = k) && (s.laneAt k).targets ≠ e.2.2

/-- The lanes barred from new claims: those that the requests past their hold-off would re-aim or retrain (R216). -/
def State.barredLanes (s : State) : List Nat :=
  ((s.coll.queue.filter fun q => q.at_ + 1000 * s.reg 0x411102 ≤ s.now).flatMap fun q => s.lanesDiffering q.plan).eraseDups

/-- The lanes that are barred now: those that were found barred, and that a request which still waits would re-aim or retrain. -/
def State.barredNow (s : State) : List Nat := s.coll.barred.filter fun k => s.barredLanes.contains k

/-! ### Phases (R222, R225 to R227) -/

/-- Change a running collective. -/
def State.modCollective (s : State) (seq : Nat) (f : Collective → Collective) : State :=
  { s with coll := { s.coll with running := s.coll.running.map fun r => if r.seq = seq then f r else r } }

/-- The phase that a collective is in. -/
def Collective.phaseNow (r : Collective) : Phase := r.phases.getD r.phase ⟨0xFF, 0, 0⟩

/-- The transfer records of the present phase, by index. -/
def Collective.transfersNow (r : Collective) : List Nat := (List.range r.phaseNow.count).map (r.phaseNow.first + ·)

/-- The cluster of a participant. -/
def Collective.clusterOf (r : Collective) (p : Nat) : Nat := (r.participants.getD p (0, 0)).2

/-- The context of a participant. -/
def Collective.ctxOf (r : Collective) (p : Nat) : Nat := (r.participants.getD p (0, 0)).1

/-- The towers of the participants. -/
def Collective.towers (r : Collective) : List Nat := (r.participants.map fun p => p.2 / 200).eraseDups

/-- OPERAND of PHASE_SENT and PHASE_GO (R229): the phase and the hub's number of the collective. -/
def Collective.operand (r : Collective) : List Nat := (leBytes 2 r.phase ++ leBytes 8 r.seq).map (·.toNat)

/-- Claim the lanes that a phase's plan names, and send PHASE_GO to every participating tower (R226, R229). -/
def State.goPhase (s : State) (r : Collective) : State :=
  let n := r.phaseNow.plan
  let lanes := if n = 0xFF then [] else (s.planEntries n).map fun e => laneKey e.1 e.2.1
  let s1 := s.modCollective r.seq fun r =>
    { r with entering := false, waitingTack := false, goDue := r.towers, goTo := [], sentBy := [] }
  r.towers.foldl (fun s t => s.wire (.control t 0x19 r.operand)) { s1 with coll := { s1.coll with
      claims := (s1.coll.claims ++ lanes.map fun k => (r.seq, k)).eraseDups } }

/-- Whether a lane of a phase's plan is barred from a new claim by the collective (R216). -/
def State.phaseBarred (s : State) (r : Collective) : Bool :=
  (s.planEntries r.phaseNow.plan).any fun e =>
    s.barredNow.contains (laneKey e.1 e.2.1) && !s.coll.claims.contains (r.seq, laneKey e.1 e.2.1)

/-- Enter a phase (R226): without a tack where its plan's lanes stand as it sets them; else a tack is queued. A claim on a
barred lane is not granted, and the phase waits. -/
def State.enterPhase (s : State) (r : Collective) : State :=
  let n := r.phaseNow.plan
  if !r.entering || r.waitingTack || r.stopped ≠ [] then s
  else if n = 0xFF then s.goPhase r
  else
    if s.planLoaded n && s.lanesDiffering n = [] then
      if s.phaseBarred r then s else s.goPhase r
    else if s.coll.queue.length < 16 then
      { s.modCollective r.seq fun r => { r with waitingTack := true } with
        coll := { (s.modCollective r.seq fun r => { r with waitingTack := true }).coll with
          queue := s.coll.queue ++ [(⟨n, some r.seq, s.now, false⟩ : TackRequest)] } }
    else s

/-- Every collective that waits to enter its phase tries again. -/
def State.enterPhases (s : State) : State := s.coll.running.foldl (fun s r => s.enterPhase r) s

/-- CLAIM_HOLDOFF_EXPIRY (R216): phases that wait for a lane no longer barred are entered. -/
def execClaimHoldoffExpiry (s : State) : Result :=
  .next { s with coll := { s.coll with barred := (s.barredNow ++ s.barredLanes).eraseDups } }.enterPhases

/-- Listed contexts fault with a code (R220, R224, R226). -/
def State.faultAll (s : State) (code : Nat) : List Nat → State
  | [] => s
  | x :: l => (s.faultCtx x code noCluster noEngine 0 (s.ctx x).consumer.toNat).faultAll code l

/-! ### The tack (R215, R217 to R219) -/

/-- The aims of every lane once a plan is added to the lanes as they stand (R215). -/
def State.aimsWith (s : State) (n : Nat) : List Nat :=
  s.allLanes.map fun k =>
    match (s.planEntries n).find? fun e => laneKey e.1 e.2.1 = k with
    | some e => e.2.2
    | none => (s.laneAt k).targets

/-- A tack is refused (R215): it touches no lane. -/
def State.refuseTack (s : State) (q : TackRequest) (bank lanes : Nat) : State :=
  let s1 := (s.countReg 0x411007 32 1).raise 0x1303 0 0x4001 (leBytes 1 q.plan ++ leBytes 1 bank ++ leBytes 1 lanes)
  match q.coll with
  | none => s1.setReg 0x411002 5
  | some c =>
    match s1.coll.running.find? fun r => r.seq = c with
    | some r => s1.faultAll 0x0602 r.ctxs
    | none => s1

/-- The lanes that take part enter QUIESCING (R217 step 2); with none, the tack goes straight to its end. -/
def State.beginTack (s : State) (q : TackRequest) : State :=
  let lanes := s.lanesDiffering q.plan
  let s1 := s.holdMulticasts (lanes.filter fun k => (s.laneAt k).state = .active)
  let tack : Tack :=
    { plan := q.plan
      coll := q.coll
      started := s.now
      step := if lanes = [] then .trained else .quiescing
      lanes := lanes
      aims := ⟨(lanes.filter fun k => (s.laneAt k).state = .active).map fun k => (k, (s.laneAt k).targets)⟩
      trained := []
      marked := q.marked }
  let s2 := lanes.foldl (fun s k => s.modLane k fun l => { l with state := .quiescing }) s1
  let s3 := { s2 with coll := { s2.coll with tack := some tack } }
  if q.coll.isNone then s3.setReg 0x411002 2 else s3

/-- TACK_START (R215 to R217): the oldest request that re-aims no claimed lane. -/
def execTackStart (s : State) : Result :=
  if s.coll.tack.isSome then .next s
  else
    match s.coll.queue.find? fun q => !s.hitsClaims q.plan with
    | none => .next s
    | some q =>
      let s1 := { s with coll := { s.coll with queue := s.coll.queue.erase q } }
      let s2 := { s1 with coll := { s1.coll with barred := s1.barredNow } }
      let p := s2.plan q.plan
      let s3 :=
        if q.plan ≠ 0 && complementBytes p.image ≠ p.complement then
          (s2.criticalMismatch 2 q.plan).refuseTack q 0xFF 0
        else
          match overfull (s2.aimsWith q.plan) with
          | some b => s2.refuseTack q b (reaching (s2.aimsWith q.plan) b)
          | none => s2.beginTack q
      .next (s3.settlePlan.enterPhases)

/-- TACK_QUIESCED (R217 steps 3 and 4): every flit is acknowledged, or 2.2 µs have passed and what is not is re-sent on
other paths; the lanes are RETUNING to their new aim. -/
def execTackQuiesced (s : State) : Result :=
  match s.coll.tack with
  | none => .next s
  | some t =>
    let idle := t.lanes.all fun k => (s.laneAt k).replay = []
    if t.step ≠ .quiescing || (!idle && s.now < t.started + 2200) then .next s
    else
      let aim := fun k => match (s.planEntries t.plan).find? fun e => laneKey e.1 e.2.1 = k with
        | some e => e.2.2
        | none => 0
      let s1 := t.lanes.foldl (fun s k => (s.stopLane k .retuning).modLane k fun l => { l with targets := aim k }) s
      .next { s1 with coll := { s1.coll with tack := some { t with step := .retuning } } }

/-- What training does to a lane that takes part (R217 step 6, R219, R257): a narrowing due is folded in, and a lane whose path has a
relock under way waits in TRAINING. -/
def State.trainLane (s : State) (failed : List Nat) (k : Nat) : State :=
  let d := s.dropsFor k
  let s1 := s.modLane k fun l => { l with dropped := d, narrowing := none, ignoreNaks := false }
  if (s1.laneAt k).targets = 0 then s1.laneActive k
  else if 2 ≤ d.length then s1.laneOut k false
  else if failed.contains k then s1.laneOut k true
  else
    s1.modLane k fun l =>
      { l with state := .training, trainStart := some s.now, trainedBy := [], wrongWait := s1.relocksOn k }

/-- A target's answer of WRONG in a tack (R219, R252): `(lane, target, positions)`; what is wrong relocks. -/
def State.tackWrong (s : State) (k dst mask : Nat) : State :=
  if (s.laneAt k).state ≠ .training || !Nat.testBit (s.laneAt k).targets dst then s
  else (s.wrongAnswer k dst mask).modLane k fun l => { l with wrongWait := true }

/-- TACK_RETUNED (R217 steps 5 and 6): switch elements are confirmed and the lanes with targets train; `failed` are those whose
training fails, `wrong` the answers of WRONG (R219). -/
def execTackRetuned (failed : List Nat) (wrong : List (Nat × Nat × Nat)) (s : State) : Result :=
  match s.coll.tack with
  | none => .next s
  | some t =>
    if t.step ≠ .retuning then .next s
    else
      let s1 := t.lanes.foldl (fun s k => s.trainLane failed k) s
      let s1 := wrong.foldl (fun s w => if t.lanes.contains w.1 then s.tackWrong w.1 w.2.1 w.2.2 else s) s1
      let up := t.lanes.filter fun k => (s1.laneAt k).state = .training && !(s1.laneAt k).wrongWait
      .next { s1 with coll := { s1.coll with tack := some { t with step := .trained, trained := up } } }

/-- Standing paths that are down are retrained at every tack (R193). -/
def State.retrainStandings (s : State) : State :=
  (s.rig.standing.entries.filter fun e => e.2.state = .down && !e.2.wavelengthDropped).foldl
    (fun s e => s.retrainStanding (e.1 / 16) (e.1 % 16)) s

/-- TACK_DONE (R217 steps 7 and 8). -/
def execTackDone (s : State) : Result :=
  match s.coll.tack with
  | none => .next s
  | some t =>
    if t.step ≠ .trained then .next s
    else
      let s1 := t.trained.foldl (fun s k =>
        if (s.laneAt k).state = .training && !(s.laneAt k).wrongWait then s.laneUp k else s) s
      let inactive := (t.lanes.filter fun k => (s1.laneAt k).targets ≠ 0 && (s1.laneAt k).state ≠ .active).length
      let d := s.now - t.started
      let s2 := { s1 with coll := { s1.coll with tack := none } }
      let s3 := (((s2.countReg 0x411004 64 1).setReg 0x411005 d).setReg 0x411006 (Nat.max d (s.reg 0x411006))).countReg
        0x411008 32 inactive
      let s4 := s3.raise 0x1304 0 0x4001 (leBytes 1 t.plan ++ leBytes 4 d ++ leBytes 2 inactive)
      let s5 := s4.restartMulticasts.retrainStandings.settlePlan
      match t.coll with
      | none => .next (s5.setReg 0x411002 0).enterPhases
      | some c =>
        match s5.coll.running.find? fun r => r.seq = c && r.stopped = [] with
        | some r =>
          if s5.phaseBarred r then .next (s5.modCollective c fun r => { r with waitingTack := false }).enterPhases
          else .next (s5.goPhase r).enterPhases
        | none => .next s5.enterPhases

/-! ### The COLLECTIVE command and its join (R220 to R224) -/

/-- The members of a context that wait at a collective program. -/
def JoinWait.holds (j : JoinWait) (x : Nat) (cls : List Nat) : Bool := cls.all fun c => j.members.contains (x, c)

/-- COLLECTIVE (R220): the member's COLLECTIVE waits for the join, without starting. -/
def execCollective (x c : Nat) (s : State) : Result :=
  match s.readyAt x c with
  | none => .next s
  | some (_, d) =>
    let tt := dTtPtr d
    let old := (s.coll.joins.find? fun j => j.ttPtr = tt).getD ⟨tt, [], none⟩
    if dOpcode d ≠ 6 || old.members.contains (x, c) then .next s
    else
      let j1 : JoinWait := { old with members := old.members ++ [(x, c)] }
      let j2 := if j1.firstAt.isNone && j1.holds x (s.ctx x).cls then { j1 with firstAt := some s.now } else j1
      .next { s with coll := { s.coll with
        joins := (s.coll.joins.filter fun (j : JoinWait) => j.ttPtr ≠ tt) ++ [j2] } }

/-- A program as it is read (R221 to R223). -/
structure Program where
  good : Bool
  ctxs : List Nat
  tally : Nat
  phases : List Phase
  transfers : List Transfer
deriving DecidableEq, Repr

/-- The listed contexts of a header: those before the first unused place. -/
def headerCtxs (h : List Byte) : List Nat :=
  ((List.range 4).map fun i => field h (8 + 2 * i) 2).takeWhile (· ≠ 0xFFFF)

/-- A phase record (R222). -/
def phaseOf (d : List Byte) : Phase := ⟨field d 0 1, field d 4 4, field d 8 4⟩

/-- A transfer record (R223). -/
def transferOf (d : List Byte) : Transfer :=
  let v := leNat d
  { op := bitsOf v 7 0
    src := bitsOf v 17 8
    dst := bitsOf v 27 18
    srcOff := bitsOf v 71 32
    dstOff := bitsOf v 111 72
    length := bitsOf v 143 112
    wait := BitVec.ofNat 32 (bitsOf v 175 144)
    inc := bitsOf v 183 176 }

/-- Whether phases run in order, without gap or overlap, from `at_` to `n` (R222). -/
def phasesCover (n : Nat) : Nat → List Phase → Bool
  | at_, [] => at_ = n
  | at_, p :: l => (p.plan ≤ 63 || p.plan = 0xFF) && p.first = at_ && phasesCover n (at_ + p.count) l

/-- The header rules of R221. -/
def headerGood (h : List Byte) : Bool :=
  let l := (List.range 4).map fun i => field h (8 + 2 * i) 2
  let used := headerCtxs h
  field h 0 2 = 1 && 1 ≤ field h 2 2 && field h 2 2 ≤ 64 && 1 ≤ field h 4 4 && field h 4 4 ≤ 65536 && used ≠ [] &&
  used.Nodup && used.all (· < 1024) && (l.drop used.length).all (· = 0xFFFF)

/-- Read a program (R221): the code of a memory fault, or the program. -/
def State.readProgram (s : State) (tt : Nat) (r : Requester) : Except Nat Program × State :=
  match s.loadRange tt 64 r with
  | (.error code, s1) => (.error code, s1)
  | (.ok h, s1) =>
    if !headerGood h then (.ok ⟨false, headerCtxs h, field h 16 1, [], []⟩, s1)
    else
      let np := field h 2 2
      let nt := field h 4 4
      match s1.loadRange (tt + 64) (32 * (np + nt)) r with
      | (.error code, s2) => (.error code, s2)
      | (.ok d, s2) =>
        let phases := (List.range np).map fun k => phaseOf (subBytes d (32 * k) 32)
        let transfers := (List.range nt).map fun k => transferOf (subBytes d (32 * (np + k)) 32)
        (.ok ⟨phasesCover nt 0 phases, headerCtxs h, field h 16 1, phases, transfers⟩, s2)

/-- Whether a partition change stalls a program that is to be read (R160). -/
def State.programStalls (s : State) (tt : Nat) : Bool :=
  let h := s.held tt 64
  s.stallsForPartition tt (64 + 32 * (field h 2 2 + field h 4 4))

/-- The participants (R221). -/
def State.participantsOf (s : State) (ctxs : List Nat) : List (Nat × Nat) :=
  ctxs.flatMap fun x => (s.ctx x).cls.map fun c => (x, c)

/-- The COLLECTIVE descriptor at which context `x` waits. -/
def State.collectiveAt (s : State) (x : Nat) : BitVec 512 :=
  let k := s.ctx x
  match k.cls with
  | [] => 0
  | c :: _ => (descriptorAt k (memberOf k c).next).getD 0

/-- FMT0 of a descriptor (R119), the format of reduce-writes (R220). -/
def dFmt0 (d : BitVec 512) : Nat := descField d 115 112

/-- The device offsets of a transfer's source and destination (R223). -/
def State.transferSource (s : State) (parts : List (Nat × Nat)) (t : Transfer) : Nat :=
  dAddr0 (s.collectiveAt (parts.getD t.src (0, 0)).1) % 2 ^ 40 + t.srcOff
def State.transferDest (s : State) (parts : List (Nat × Nat)) (t : Transfer) : Nat :=
  dAddr1 (s.collectiveAt (parts.getD t.dst (0, 0)).1) % 2 ^ 40 + t.dstOff

/-- Whether an extent lies in HBM3, pinned scratch, or the cluster memory of a participant of a context (R224). -/
def State.extentAllowed (s : State) (off len x : Nat) : Bool :=
  off + len ≤ 2 ^ 40 && s.extentPopulated off (Nat.max 1 len) &&
  (match placeOf off with
   | .hbm _ _ => true
   | .scratch _ _ => true
   | .cluster c _ => inClass (s.ctx x).cls c
   | _ => false)

/-- Whether an offset is one that a reduction adds to. -/
def reducible (off : Nat) : Bool := match placeOf off with | .hbm _ _ => true | .scratch _ _ => true | _ => false

/-- The check of code 0x0601 (R224). -/
def State.programGood (s : State) (p : Program) : Bool :=
  let parts := s.participantsOf p.ctxs
  let fmts := (p.ctxs.map fun x => dFmt0 (s.collectiveAt x)).eraseDups
  p.good && (parts.map (·.2)).Nodup &&
  (p.transfers.all fun t => t.src < parts.length && t.dst < parts.length && (t.op = 0x60 || t.op = 0x62 || t.op = 0x63)) &&
  (!(p.transfers.any fun t => t.op ≠ 0x60) || fmts = [0] || fmts = [1])

/-- The check of code 0x0604 (R224); a reduce-add's two device offsets are the ones aligned (DEDUCED, log 26). -/
def State.transferGood (s : State) (p : Program) (t : Transfer) : Bool :=
  let parts := s.participantsOf p.ctxs
  let a := s.transferSource parts t
  let b := s.transferDest parts t
  let x := (parts.getD t.src (0, 0)).1
  s.extentAllowed a t.length x && s.extentAllowed b t.length (parts.getD t.dst (0, 0)).1 &&
  (t.op = 0x60 || (reducible b && a % 128 = 0 && b % 128 = 0 && t.length % 128 = 0 &&
    (t.op = 0x62) = (dFmt0 (s.collectiveAt x) = 0)))

/-- Write zero to tally `tally` of one participant; a bad codeword faults its context (R220). -/
def State.zeroTally (s : State) (tally : Nat) (p : Nat × Nat) : State :=
  match s.storeRange (clusterOffset p.2 (tallyAddress tally)) (leBytes 4 0) (s.requesterAt p.1 p.2) with
  | (none, s1) => s1
  | (some code, s1) => s1.faultAt p.1 p.2 code noEngine 0

/-- Zero the phase tally at every participant (R220). -/
def State.zeroTallies (s : State) (tally : Nat) (l : List (Nat × Nat)) : State :=
  l.foldl (fun s p => s.zeroTally tally p) s

/-- The COLLECTIVE starts on a member (R220). -/
def State.startCollective (s : State) (p : Nat × Nat) : State :=
  let m := memberOf (s.ctx p.1) p.2
  match descriptorAt (s.ctx p.1) m.next with
  | some d => (s.startCommand p.1 p.2 m.next d).setPhase p.1 p.2 .working
  | none => s

/-- The join (R220, R224): tallies are zeroed, the program is checked, and the collective runs: its command starts on every member,
and the places of its transfers are fixed, whatever becomes of the contexts' descriptors (R233). -/
def State.joinCollective (s : State) (tt : Nat) (p : Program) : State :=
  let parts := s.participantsOf p.ctxs
  let s1 := s.zeroTallies p.tally parts
  if !s1.programGood p then s1.faultAll 0x0601 p.ctxs
  else if !(p.transfers.all fun t => s1.transferGood p t) then s1.faultAll 0x0604 p.ctxs
  else
    let r : Collective :=
      { seq := s1.coll.nextSeq
        ttPtr := tt
        ctxs := p.ctxs
        participants := parts
        phases := p.phases
        transfers := p.transfers.map fun t =>
          { t with srcOff := s1.transferSource parts t, dstOff := s1.transferDest parts t }
        tally := p.tally
        phase := 0
        goDue := []
        goTo := []
        sentBy := []
        issued := []
        landed := []
        confirmed := []
        entering := true
        waitingTack := false
        stopped := []
        stoppedAt := none }
    let s2 := parts.foldl State.startCollective s1
    { s2 with coll := { s2.coll with
        running := s2.coll.running ++ [r]
        nextSeq := s2.coll.nextSeq + 1
        joins := s2.coll.joins.filter fun j => j.ttPtr ≠ tt } }.enterPhases

/-- The contexts whose every member waits at a program. -/
def State.waitingAt (s : State) (j : JoinWait) : List Nat :=
  ((j.members.map (·.1)).eraseDups).filter fun x => j.holds x (s.ctx x).cls

/-- COLLECTIVE_JOIN (R220, R224): every listed context is BOUND and waits on all its members. A program that is not
readable, or does not list a context that waits at it, faults those that wait. -/
def execCollectiveJoin (ttPtr : Nat) (s : State) : Result :=
  match s.coll.joins.find? fun j => j.ttPtr = ttPtr with
  | none => .next s
  | some j =>
    let waiting := (s.waitingAt j).filter fun x => (s.ctx x).state = .bound && !(s.ctx x).ending
    match waiting with
    | [] => .next s
    | x :: _ =>
      if s.belled || s.programStalls ttPtr then .next s
      else
        match s.readProgram ttPtr { ctx := x, ids := dIds x (s.collectiveAt x) } with
        | (.error code, s1) => .next (s1.faultAll code waiting)
        | (.ok p, s1) =>
          if p.ctxs.all waiting.contains && p.ctxs ≠ [] && waiting.all p.ctxs.contains then .next (s1.joinCollective ttPtr p)
          else if p.ctxs = [] || !(waiting.all p.ctxs.contains) then .next (s1.faultAll 0x0601 waiting)
          else .next s1

/-- JOIN_LIMIT_EXPIRY (R220): every waiting listed context faults with 0x0603; the bell stops the count (R462). -/
def execJoinLimitExpiry (ttPtr : Nat) (s : State) : Result :=
  match s.coll.joins.find? fun j => j.ttPtr = ttPtr with
  | none => .next s
  | some j =>
    let limit := s.reg 0x411101
    match j.firstAt with
    | none => .next s
    | some t =>
      if limit = 0 || s.belled || s.now < t + 1000 * limit then .next s
      else .next (s.faultAll 0x0603 (s.waitingAt j))

/-! ### Running (R225 to R231) -/

/-- PHASE_GO (R225): it reaches a tower; while the bell rings none is sent (R462). -/
def execPhaseGo (t : Nat) (s : State) : Result :=
  if s.belled then .next s
  else
    match s.coll.running.find? fun r => r.goDue.contains t && r.stopped = [] with
    | none => .next s
    | some r => .next (s.modCollective r.seq fun r => { r with goDue := r.goDue.erase t, goTo := t :: r.goTo })

/-- Lines of a reduce-add (R230): each is read at its home slice, added to element by element and written back. The first
fault is kept; the line it concerns is not applied. -/
def State.reduceLines (s : State) (op off : Nat) (r : Requester) : Nat → List Byte → Option Nat → Option Nat × State
  | 0, _, f => (f, s)
  | n + 1, d, f =>
    if d = [] then (f, s)
    else
      match s.loadRange off 128 r with
      | (.error code, s1) => s1.reduceLines op (off + 128) r n (d.drop 128) (f.or (some code))
      | (.ok old, s1) =>
        let new := if op = 0x62 then
            ((lanesOf 4 old).mapIdx fun j l =>
              leBytes 4 (fp32Add (BitVec.ofNat 32 (leNat l)) (BitVec.ofNat 32 (field d (4 * j) 4))).toNat).flatten
          else ((lanesOf 2 old).mapIdx fun j l => leBytes 2 (bf16Add (leNat l) (field d (2 * j) 2))).flatten
        match s1.storeRange off new r with
        | (some code, s2) => s2.reduceLines op (off + 128) r n (d.drop 128) (f.or (some code))
        | (none, s2) => (s2.countReg 0x411105 64 1).reduceLines op (off + 128) r n (d.drop 128) f

/-- Apply one packet of a transfer on this tower (R198, R225): data, then its increment. -/
def State.applyLocal (s : State) (q : Req) : Option Nat × State :=
  if q.op = 0x60 then
    match s.performWrite q (s.originRequester q) with
    | (.error code, s1) => (some code, s1)
    | (.stalled, s1) => (none, s1)
    | (_, s1) => (none, s1.transferLanded q)
  else
    match s.reduceLines q.op q.addr (s.originRequester q) 32 q.data none with
    | (some code, s1) => (some code, s1)
    | (none, s1) =>
      match s1.packetIncrement q with
      | (.error code, s2) => (some code, s2)
      | (.stalled, s2) => (none, s2)
      | (_, s2) => (none, s2.transferLanded q)

/-- Bytes from an address to the end of its tower's HBM3, or 4 KiB. -/
def packetRoom (addr : Nat) : Nat := Nat.min 4096 (0x2400000000 - addr % 0x2400000000)

/-- Cut a transfer into packets of at most 4 KiB, each for one tower (R198); the last one carries the increment and names the
transfer. -/
def cutTransfer (q : Req) : Nat → List Byte → List Req
  | 0, _ => []
  | n + 1, d =>
    let k := packetRoom q.addr
    if d.length ≤ k then [{ q with data := d }]
    else { q with data := d.take k, ref := 0, refAmt := 0, ticket := none } ::
      cutTransfer { q with addr := q.addr + k } n (d.drop k)

/-- Apply packets on this tower one after another; the source context faults at the first that fails. -/
def State.applyLocals (s : State) (x c : Nat) : List Req → State
  | [] => s
  | q :: l =>
    match s.applyLocal q with
    | (none, s1) => s1.applyLocals x c l
    | (some code, s1) => s1.faultAt x c code 5 (addressDetail q.addr)

/-- The next transfer that a participant issues (R225): in record order. -/
def Collective.nextFor (r : Collective) (p : Nat) : Option Nat :=
  r.transfersNow.find? fun j => !r.issued.contains j && (r.transfers.getD j ⟨0, 0, 0, 0, 0, 0, 0, 0⟩).src = p

/-- A record of a collective. -/
def Collective.record (r : Collective) (j : Nat) : Transfer := r.transfers.getD j ⟨0, 0, 0, 0, 0, 0, 0, 0⟩

/-- Transfers of a participant that its CE still counts (R65, R225). -/
def Collective.openOf (r : Collective) (p : Nat) : Nat :=
  (r.issued.filter fun j => !r.confirmed.contains j && (r.record j).src = p).length

/-- Issue a transfer: read its source, and send or apply its packets. -/
def State.issueTransfer (s : State) (r : Collective) (p j : Nat) : State :=
  let t := r.record j
  let x := r.ctxOf p
  let c := r.clusterOf p
  let src := t.srcOff
  let dst := t.dstOff
  match s.loadRange src t.length (s.requesterAt x c) with
  | (.error code, s1) => s1.faultAt x c code 5 (addressDetail src)
  | (.ok d, s1) =>
    let q : Req := { blankReq with
      op := t.op
      origin := .member x c
      ctx := r.ctxOf t.dst
      addr := dst
      rid := BitVec.ofNat 32 (r.seq + 2147483648)
      ref := BitVec.ofNat 24 (r.tally + r.clusterOf t.dst * 256 + 63 * 262144)
      refAmt := t.inc
      ticket := some j }
    let s2 := s1.modCollective r.seq fun r => { r with issued := r.issued ++ [j] }
    let packets := cutTransfer q 1048576 d
    let here := fun (q : Req) => decide (siteOfOffset q.addr = c / 200)
    (s2.applyLocals x c (packets.filter here)).toOutbox ((packets.filter fun q => !here q).map fun q =>
      { src := c / 200
        dst := siteOfOffset q.addr
        vc := 3
        stand := false
        crit := false
        req := q
        targets := []
        pseq := 0
        stamp := 0 })

/-- TRANSFER_ISSUE (R225): after the tower's PHASE_GO, once the phase tally satisfies the record's WAIT, while the CE has
a place. -/
def execTransferIssue (coll participant : Nat) (s : State) : Result :=
  match s.coll.running.find? fun r => r.seq = coll with
  | none => .next s
  | some r =>
    let c := r.clusterOf participant
    let x := r.ctxOf participant
    if s.belled || participant ≥ r.participants.length || !r.goTo.contains (c / 200) ||
        (s.ctx x).state ≠ .bound || r.stopped.contains x || 16 ≤ r.openOf participant + (s.core c).copies.length then .next s
    else
      match r.nextFor participant with
      | none => .next s
      | some j =>
        let t := r.record j
        let stalls := s.stallsForPartition t.srcOff t.length ||
          (siteOfOffset t.dstOff = c / 200 && s.stallsForPartition t.dstOff t.length)
        if stalls || !waitSatisfied (s.tally c r.tally) t.wait.toNat then .next s else .next (s.issueTransfer r participant j)

/-- Whether every participant on a tower has admitted the last packet of its transfers of the present phase (R226). -/
def State.towerSent (s : State) (r : Collective) (t : Nat) : Bool :=
  (r.transfersNow.all fun j => r.clusterOf (r.record j).src / 200 ≠ t || r.issued.contains j) &&
  !(s.rig.outbox.any fun p => p.src = t && p.req.op ≥ 0x60 && p.req.op ≤ 0x63 && p.targets = [] &&
    (match p.req.origin with | .member x _ => r.ctxs.contains x && p.req.rid = BitVec.ofNat 32 (r.seq + 2147483648) | _ => false))

/-- Whether a collective is through (R228): its last phase is sent, and every transfer confirmed. -/
def Collective.through (r : Collective) : Bool :=
  r.phase = r.phases.length && (List.range r.transfers.length).all r.confirmed.contains

/-- Complete the COLLECTIVE command on every member (R139, R228). -/
def State.finishCollective (s : State) (r : Collective) : State :=
  let s1 := { s with coll := { s.coll with
    running := s.coll.running.filter fun q => q.seq ≠ r.seq
    claims := s.coll.claims.filter fun c => c.1 ≠ r.seq } }
  (r.participants.foldl (fun s p => s.setPhase p.1 p.2 .done) s1).countReg 0x411103 64 1

/-- The last PHASE_SENT of a phase (R226, R227): claims are released, but for those that pass to a next phase of the same
plan, and the hub turns to the next phase. -/
def State.nextPhase (s : State) (r : Collective) : State :=
  let next := r.phases[r.phase + 1]?
  let passes := match next with | some p => p.plan = r.phaseNow.plan | none => false
  let keep := fun (c : Nat × Nat) => c.1 ≠ r.seq || (passes && !s.barredNow.contains c.2)
  let s1 := { s with coll := { s.coll with claims := s.coll.claims.filter keep } }
  let s2 := (s1.modCollective r.seq fun r =>
    { r with phase := r.phase + 1, entering := next.isSome, goDue := [], goTo := [], sentBy := [] }).countReg 0x411104 64 1
  match s2.coll.running.find? fun q => q.seq = r.seq with
  | some q => if q.through then s2.finishCollective q else s2.enterPhases
  | none => s2

/-- PHASE_SENT (R226). -/
def execPhaseSent (coll t : Nat) (s : State) : Result :=
  match s.coll.running.find? fun r => r.seq = coll with
  | none => .next s
  | some r =>
    if !r.goTo.contains t || r.sentBy.contains t || r.stopped ≠ [] || r.phases.length ≤ r.phase || !s.towerSent r t then
      .next s
    else
      let r1 := { r with sentBy := t :: r.sentBy }
      let s1 := (s.modCollective coll fun _ => r1).wire (.control 4 0x18 r.operand)
      if r1.towers.all r1.sentBy.contains then .next (s1.nextPhase r1) else .next s1

/-- TRANSFER_CONFIRM (R228): the destination interface has applied INC; with all of them the command completes. -/
def execTransferConfirm (coll transfer : Nat) (s : State) : Result :=
  match s.coll.running.find? fun r => r.seq = coll with
  | none => .next s
  | some r =>
    if !r.landed.contains transfer || r.confirmed.contains transfer then .next s
    else
      let r1 := { r with confirmed := transfer :: r.confirmed }
      let s1 := s.modCollective coll fun _ => r1
      if r1.stopped = [] && r1.through then .next (s1.finishCollective r1) else .next s1

/-- A reduce-add packet at a site (R230). -/
def State.reducePacket (s : State) (site op : Nat) : State :=
  match s.firstArrived site op with
  | none => s
  | some p =>
    if s.stallsForPartition p.req.addr p.req.data.length then s
    else
      match s.reduceLines op p.req.addr (s.originRequester p.req) 32 p.req.data none with
      | (some code, s1) => (s1.packetFault p.req code).consume site p
      | (none, s1) =>
        match s1.packetIncrement p.req with
        | (.stalled, s2) => s2.consume site p
        | (a, s2) => (s2.settleWrite p.req a).consume site p

/-- RED_ADD_FP32 (R230). -/
def execRedAddFp32 (site : Nat) (s : State) : Result := .next (s.reducePacket site 0x62)

/-- RED_ADD_BF16 (R230, R96). -/
def execRedAddBf16 (site : Nat) (s : State) : Result := .next (s.reducePacket site 0x63)

/-! ### Waiting too long (R147, R233) -/

/-- Since when the collective that a member waits in has been stopped (R233). -/
def State.stoppedSince (s : State) (x c : Nat) : Option Nat :=
  match s.executing x c 6 .working with
  | none => none
  | some _ => match s.coll.running.find? fun r => r.ctxs.contains x && !r.stopped.contains x with
    | some r => r.stoppedAt
    | none => none

/-- WAIT_LIMIT_EXPIRY (R147, R233): the OC has waited at a wait entry, or the member in a collective that another context
has left, for longer than OD 0x7nnn.15. -/
def execWaitLimitExpiry (c : Nat) (s : State) : Result :=
  let late := fun (x t : Nat) => (s.ctx x).waitLimit ≠ 0 && t + 1000 * (s.ctx x).waitLimit < s.now
  match s.ocAt c with
  | some (x, r, _) =>
    match r.waitSince with
    | none => .next s
    | some t => if late x t then .next (s.faultCtx x 0x0107 c noEngine r.entry r.ring) else .next s
  | none =>
    match s.starting c with
    | none => .next s
    | some x =>
      match s.stoppedSince x c with
      | none => .next s
      | some t => if late x t then .next (s.faultAt x c 0x0107 noEngine 0) else .next s

end Sys2Proof.Machine
end

