-- ==== Sys2Proof/Machine/OdTable.lean ====
section
/-! DEFINITION. The entries of the object dictionary (R416 to R419, R484 to R490): their types, access classes and lengths, as
the chapters' entry tables give them. The context indexes stand once, as 0x7000 (R489). -/

namespace Sys2Proof.Machine

/-- An entry: key index * 256 + subindex, type and access code of R490, largest value length; for a TABLE its row length and
the row counts allowed; `exact` for a BLOB that takes one length only (R417). -/
structure OdEntry where
  key : Nat
  ty : Nat
  acc : Nat
  len : Nat
  row : Nat := 0
  low : Nat := 0
  high : Nat := 0
  exact : Bool := false
deriving DecidableEq, Repr

/-- The length of a scalar type (R417). -/
def scalarLength (ty : Nat) : Nat :=
  if ty = 1 || ty = 8 then 1 else if ty = 2 || ty = 5 || ty = 9 then 2 else if ty = 4 then 8 else 4

/-- Entries by the form of their value. -/
def scalar (k ty acc : Nat) : OdEntry := { key := k, ty := ty, acc := acc, len := scalarLength ty }
def vis (k acc len : Nat) : OdEntry := { key := k, ty := 11, acc := acc, len := len }
def blob (k acc len : Nat) (exact : Bool) : OdEntry := { key := k, ty := 12, acc := acc, len := len, exact := exact }
def table (k acc row low high : Nat) : OdEntry :=
  { key := k, ty := 13, acc := acc, len := 8 + row * high, row := row, low := low, high := high }

/-- Entries of the dictionary in ascending order, part 1. -/
def odPart1 : List OdEntry :=
  [vis 0x100001 1 64, scalar 0x100002 1 1, scalar 0x100003 9 1, scalar 0x100004 4 1, scalar 0x100005 3 1,
   scalar 0x100101 1 1, scalar 0x100102 1 6, blob 0x100103 5 16777216 false, scalar 0x100104 1 1, scalar 0x100201 1 6,
   scalar 0x100202 1 1, scalar 0x100203 3 1, scalar 0x100204 1 1, scalar 0x100301 2 1, table 0x100302 1 10 0 512,
   scalar 0x100303 3 1, table 0x101001 1 26 13 13, scalar 0x101101 1 6, scalar 0x101102 1 1, scalar 0x101103 3 1,
   table 0x102001 1 16 0 4096, scalar 0x102002 3 1, scalar 0x102003 3 1, scalar 0x102004 2 1, scalar 0x102005 3 1,
   scalar 0x10FF00 1 6, scalar 0x200001 3 3, scalar 0x200002 3 1, scalar 0x200003 3 1, scalar 0x200004 1 1,
   scalar 0x200005 3 1, table 0x200101 1 4 4 4, table 0x201001 1 7 74 74, table 0x201002 1 4 2 2, table 0x201101 1 14 75 77,
   table 0x201201 1 12 5 5, table 0x201301 1 3 32 32, scalar 0x201302 4 1, scalar 0x201401 3 1, scalar 0x201501 1 6]

/-- Entries of the dictionary in ascending order, part 2. -/
def odPart2 : List OdEntry :=
  [scalar 0x201502 1 1, scalar 0x201601 3 1, scalar 0x203001 8 1, scalar 0x203002 8 1, scalar 0x203003 5 1,
   scalar 0x203004 3 1, table 0x204001 1 18 10 12, scalar 0x20FF00 1 6, scalar 0x300001 1 1, scalar 0x300002 1 2,
   scalar 0x300003 9 1, scalar 0x300004 3 1, scalar 0x300005 6 1, scalar 0x300006 1 1, table 0x301001 3 2 32 32,
   table 0x301002 1 13 32 32, scalar 0x301003 1 1, table 0x301101 1 36 38 38, table 0x301201 1 4 10 10, scalar 0x302001 4 1,
   scalar 0x302002 3 1, scalar 0x302003 3 1, scalar 0x302004 3 1, table 0x302005 1 7 10 12, scalar 0x302006 4 1,
   scalar 0x302007 3 1, scalar 0x30FF00 1 6, scalar 0x400001 9 1, table 0x400002 1 13 12 12, scalar 0x400003 3 1,
   table 0x402001 1 8 0 256, table 0x402002 1 4 0 110, scalar 0x402101 4 1, scalar 0x402102 4 1, scalar 0x402103 4 1,
   scalar 0x402104 4 1, scalar 0x402105 3 1, scalar 0x402106 4 1, scalar 0x402201 4 1, scalar 0x402202 4 1]

/-- Entries of the dictionary in ascending order, part 3. -/
def odPart3 : List OdEntry :=
  [scalar 0x402203 3 2, scalar 0x402301 4 1, scalar 0x402302 4 1, scalar 0x40FF00 1 6, scalar 0x410001 1 3,
   blob 0x410002 3 16777216 false, scalar 0x410003 1 1, table 0x410101 1 12 64 64, table 0x410102 1 1712 64 64,
   scalar 0x411001 1 6, scalar 0x411002 1 1, scalar 0x411003 1 1, scalar 0x411004 4 1, scalar 0x411005 3 1,
   scalar 0x411006 3 1, scalar 0x411007 3 1, scalar 0x411008 3 1, scalar 0x411101 3 2, scalar 0x411102 3 2,
   scalar 0x411103 4 1, scalar 0x411104 4 1, scalar 0x411105 4 1, scalar 0x411106 2 1, scalar 0x41FF00 1 6,
   table 0x420001 1 7 12 12, table 0x420002 1 22 240 240, scalar 0x420003 7 1, scalar 0x420101 3 1, scalar 0x420102 3 1,
   scalar 0x420103 3 1, scalar 0x420104 3 1, scalar 0x420105 3 1, scalar 0x420201 2 6, scalar 0x420202 1 1,
   scalar 0x42FF00 1 6, scalar 0x430001 3 1, table 0x430002 1 4 7 7, scalar 0x430003 4 1, scalar 0x430004 4 1,
   scalar 0x430005 3 1]

/-- Entries of the dictionary in ascending order, part 4. -/
def odPart4 : List OdEntry :=
  [scalar 0x430006 3 1, scalar 0x430007 3 2, scalar 0x431001 3 2, scalar 0x431002 4 1, scalar 0x431003 1 1,
   scalar 0x431004 3 1, scalar 0x431005 4 1, scalar 0x431006 2 1, scalar 0x431007 2 1, scalar 0x431008 6 1,
   scalar 0x431009 5 1, table 0x43100A 1 2 32 32, scalar 0x43100B 1 1, table 0x43100C 1 4 256 256, scalar 0x43100D 3 1,
   scalar 0x43100E 4 1, scalar 0x43100F 2 1, scalar 0x43FF00 1 6, scalar 0x440001 3 1, scalar 0x440002 3 1,
   scalar 0x440003 6 1, scalar 0x440004 1 1, scalar 0x440005 3 1, scalar 0x44FF00 1 6, scalar 0x500001 3 1,
   scalar 0x500002 4 1, scalar 0x500003 2 1, scalar 0x500004 10 1, scalar 0x501001 1 3, scalar 0x501002 1 3,
   scalar 0x501003 1 3, scalar 0x501004 1 3, scalar 0x501101 3 1, scalar 0x501102 3 1, scalar 0x501103 3 1,
   scalar 0x501104 3 1, scalar 0x501201 1 1, scalar 0x501202 1 1, scalar 0x501203 1 1, scalar 0x501204 1 1]

/-- Entries of the dictionary in ascending order, part 5. -/
def odPart5 : List OdEntry :=
  [scalar 0x501301 3 1, scalar 0x501302 3 1, scalar 0x501303 3 1, scalar 0x501304 3 1, scalar 0x502001 3 2,
   scalar 0x502002 4 1, scalar 0x503001 4 1, scalar 0x503002 4 1, scalar 0x503003 4 1, scalar 0x503004 4 1,
   scalar 0x503101 4 1, scalar 0x503102 4 1, scalar 0x503103 4 1, scalar 0x503104 4 1, scalar 0x503105 4 1,
   scalar 0x503106 4 1, scalar 0x503107 4 1, scalar 0x503201 1 1, scalar 0x503202 4 1, scalar 0x503203 1 1,
   blob 0x503204 1 8 false, scalar 0x503205 2 1, scalar 0x503206 4 1, scalar 0x503207 4 1, scalar 0x503208 3 1,
   table 0x504001 1 3 24 24, scalar 0x504101 3 1, scalar 0x505001 3 1, scalar 0x505002 1 1, scalar 0x505003 3 1,
   scalar 0x50FF00 1 6, scalar 0x600001 2 1, scalar 0x600002 1 1, scalar 0x601001 3 1, scalar 0x601002 3 1,
   scalar 0x601003 3 1, scalar 0x601004 7 1, scalar 0x601005 3 1, table 0x601100 1 2 800 800, scalar 0x60FF00 1 6]

/-- Entries of the dictionary in ascending order, part 6. -/
def odPart6 : List OdEntry :=
  [table 0x620001 3 8 1024 1024, scalar 0x62FF00 1 6, scalar 0x630001 2 3, scalar 0x630002 1 3, scalar 0x630003 1 3,
   blob 0x630004 3 16777216 false, scalar 0x630005 1 1, scalar 0x630006 3 1, scalar 0x63FF00 1 6, scalar 0x700001 1 1,
   blob 0x700002 4 100 true, scalar 0x700003 4 4, scalar 0x700004 3 4, scalar 0x700005 3 2, scalar 0x700006 3 1,
   scalar 0x700007 1 4, scalar 0x700008 3 4, scalar 0x700009 4 4, scalar 0x70000A 4 4, scalar 0x70000B 2 1,
   scalar 0x70000C 3 1, scalar 0x70000D 4 1, scalar 0x70000E 4 1, scalar 0x70000F 4 1, scalar 0x700010 3 1,
   scalar 0x700011 4 1, scalar 0x700012 3 1, scalar 0x700013 3 1, scalar 0x700014 4 1, scalar 0x700015 3 4,
   scalar 0x700016 3 1, scalar 0x700020 1 6, scalar 0x700021 1 1, table 0x700030 1 32 64 64, scalar 0x700031 3 1,
   scalar 0x700032 3 1, scalar 0x800001 1 4, table 0x800101 3 2 64 64, scalar 0x800102 1 1, table 0x800201 1 15 64 64]

/-- Entries of the dictionary in ascending order, part 7. -/
def odPart7 : List OdEntry :=
  [scalar 0x800301 3 1, scalar 0x800302 3 1, scalar 0x801001 3 2, scalar 0x801002 3 1, scalar 0x801003 3 1,
   scalar 0x801004 3 1, scalar 0x801101 4 1, scalar 0x801102 4 1, scalar 0x801103 4 1, scalar 0x801104 4 1,
   scalar 0x801105 3 1, scalar 0x801106 4 1, scalar 0x801107 4 1, scalar 0x801108 4 1, scalar 0x801109 3 1,
   scalar 0x801201 4 1, scalar 0x801202 4 1, scalar 0x801203 2 1, scalar 0x801204 3 1, scalar 0x80FF00 1 6,
   scalar 0x810001 2 3, scalar 0x810002 1 3, blob 0x810003 3 64 true, scalar 0x810004 1 1, scalar 0x81FF00 1 6,
   scalar 0x820001 2 3, scalar 0x820002 3 3, scalar 0x820003 2 1, scalar 0x820004 4 3, scalar 0x820005 1 1,
   blob 0x820006 1 32 false, scalar 0x820007 3 1, scalar 0x820101 1 6, scalar 0x820102 1 6, scalar 0x820103 1 1,
   table 0x820201 1 47 64 64, scalar 0x822001 1 1, scalar 0x822002 6 1, scalar 0x822003 3 1, scalar 0x822004 8 1]

/-- Entries of the dictionary in ascending order, part 8. -/
def odPart8 : List OdEntry :=
  [scalar 0x822005 3 1, scalar 0x822006 3 1, table 0x823001 2 15 16 16, scalar 0x82FF00 1 6, table 0x830001 3 4 0 256,
   scalar 0x830002 1 1, scalar 0x831001 3 2, scalar 0x831002 3 2, scalar 0x831003 4 1, scalar 0x831004 4 1,
   scalar 0x831005 3 1, scalar 0x831006 3 1, scalar 0x831007 4 1, scalar 0x83FF00 1 6, scalar 0x840001 2 3,
   scalar 0x840002 2 3, scalar 0x840003 4 3, scalar 0x840004 1 3, scalar 0x840005 3 3, scalar 0x840006 1 1,
   table 0x840101 1 15 4096 4096, scalar 0x84FF00 1 6, blob 0x900001 1 32 false, scalar 0x900002 3 1, scalar 0x900003 1 1,
   table 0x900004 1 10 2 2, blob 0x901001 3 16777216 false, scalar 0x901002 1 1, blob 0x902001 1 32 false,
   scalar 0x902002 3 1, blob 0x902003 1 262144 false, blob 0x903001 5 32 true, scalar 0x903002 1 6, scalar 0x903003 1 1,
   blob 0x903004 1 10149 false, blob 0x903005 1 68 false, blob 0x903006 2 16777216 false, scalar 0x903101 4 1,
   scalar 0x903102 4 1, scalar 0x903103 3 1]

/-- Entries of the dictionary in ascending order, part 9. -/
def odPart9 : List OdEntry :=
  [scalar 0x903104 4 1, scalar 0x90FF00 1 6, scalar 0xA00001 1 6, scalar 0xA00002 1 1, scalar 0xA00003 1 1,
   scalar 0xA00004 4 1, scalar 0xA00005 1 1, scalar 0xA00006 3 1, scalar 0xA00007 3 1, table 0xA00101 3 20 8 8,
   scalar 0xA00201 1 1, scalar 0xA01001 2 2, scalar 0xA01002 1 2, blob 0xA01003 1 3145728 false, scalar 0xA02001 2 2,
   blob 0xA02002 1 16384 false, scalar 0xA02003 4 1, table 0xA02101 3 1 7 7, scalar 0xA03001 4 3, scalar 0xA03002 4 3,
   scalar 0xA03003 4 3, scalar 0xA03004 4 3, scalar 0xA03005 3 3, table 0xA03006 1 12 800 800, scalar 0xA03101 4 3,
   scalar 0xA03102 4 3, scalar 0xA03103 4 1, scalar 0xA03104 3 1, scalar 0xA03105 3 1, table 0xA03201 3 49 16 16,
   scalar 0xA03301 1 6, scalar 0xA04001 2 6, scalar 0xA04002 10 2, scalar 0xA04101 3 2, blob 0xA04102 1 32 false,
   scalar 0xA04103 8 2, table 0xA05001 3 9 0 256, scalar 0xA05002 4 1, scalar 0xA05003 4 1, scalar 0xA05004 4 1]

/-- Entries of the dictionary in ascending order, part 10. -/
def odPart10 : List OdEntry :=
  [scalar 0xA05005 4 2, scalar 0xA05006 4 2, scalar 0xA05007 4 2, blob 0xA05100 1 4194304 false, scalar 0xA0FF00 1 6,
   scalar 0xB00001 1 3, scalar 0xB00002 1 1, scalar 0xB00101 1 1, table 0xB00102 1 22 2 2, scalar 0xB00103 3 1,
   scalar 0xB00104 3 1, scalar 0xB00105 3 1, scalar 0xB00106 1 1, table 0xB00201 1 8 4 4, scalar 0xB00202 3 1,
   scalar 0xB00203 3 1, scalar 0xB00204 3 1, scalar 0xB00205 4 1, scalar 0xB01001 1 6, scalar 0xB01002 1 1,
   scalar 0xB02001 4 1, scalar 0xB02002 4 1, scalar 0xB02003 4 1, scalar 0xB02004 4 2, scalar 0xB02005 4 2,
   scalar 0xB02006 4 2, scalar 0xB02007 3 1, blob 0xB02100 1 2097152 false, table 0xB02201 1 28 55 55,
   table 0xB03001 1 29 2 2, scalar 0xB03002 4 1, scalar 0xB03003 4 1, scalar 0xB03004 3 1, scalar 0xB0FF00 1 6,
   scalar 0xC00001 1 1, scalar 0xC00002 1 1, blob 0xC00101 1 64 false, blob 0xC00102 1 64 false, scalar 0xC00201 2 1,
   scalar 0xC00202 2 1]

/-- Entries of the dictionary in ascending order, part 11. -/
def odPart11 : List OdEntry :=
  [scalar 0xC00301 1 1, scalar 0xC00302 1 1, scalar 0xC00401 3 1, scalar 0xC00402 3 1, scalar 0xC00501 3 1,
   scalar 0xC00502 3 1, blob 0xC00601 1 32 false, blob 0xC00602 1 32 false, scalar 0xC01001 1 6, scalar 0xC01002 1 1,
   scalar 0xC01101 4 1, scalar 0xC0FF00 1 6, scalar 0xC10001 1 3, scalar 0xC10002 1 3, blob 0xC10003 3 64 true,
   scalar 0xC10004 1 1, table 0xC10101 1 32 64 64, table 0xC10102 1 32 64 64, scalar 0xC1FF00 1 6, scalar 0xD00001 2 3,
   blob 0xD00002 3 16777216 false, scalar 0xD00003 1 1, table 0xD00101 1 17 25 25, scalar 0xD00201 2 2,
   blob 0xD00202 1 1032 false, scalar 0xD0FF00 2 6]

/-- Every entry. -/
def odEntries : List OdEntry :=
  odPart1 ++ odPart2 ++ odPart3 ++ odPart4 ++ odPart5 ++ odPart6 ++ odPart7 ++ odPart8 ++ odPart9 ++ odPart10 ++ odPart11

/-- The context of an index of R113, if it is one. -/
def contextIndex (index : Nat) : Option Nat := if 0x7000 ≤ index && index ≤ 0x73FF then some (index - 0x7000) else none

/-- The key of an entry; all contexts share theirs. -/
def odKey (index sub : Nat) : Nat := (if (contextIndex index).isSome then 0x7000 else index) * 256 + sub

/-- The entry that an index and a subindex name (R416, R485). -/
def entryAt (index sub : Nat) : Option OdEntry := odEntries.find? fun e => e.key = odKey index sub

/-- The entries that are critical (R488). -/
def criticalKeys : List Nat :=
  [0x100001, 0x100002, 0x100003, 0x100004, 0x100005, 0x100101, 0x200001, 0x800001, 0x800101, 0x820001, 0x820002, 0x820004,
   0x830001, 0x900001, 0xC00501, 0xC00502, 0xC00601, 0xC00602, 0x900002, 0xB00001]

/-- Whether an index is held outside the hub (R484). -/
def heldOutside (index : Nat) : Bool :=
  (0x3000 ≤ index && index < 0x5000) || (0x5000 ≤ index && index < 0x6000) || (0x6000 ≤ index && index < 0x6100) ||
  (0x8000 ≤ index && index < 0x9000)

end Sys2Proof.Machine
end

