-- ==== Sys2Proof/Machine/OdRead.lean ====
section
/-! DEFINITION. What the entries of the object dictionary read as (R416 to R421, R488, R489, R491): entries that stand for
state held elsewhere are worked out from it, every other entry is the register file's. -/

namespace Sys2Proof.Machine

/-! ### Forms -/


/-- The header of a table (R418). -/
def tableHeader (rows rowBytes : Nat) : List Byte := leBytes 2 rows ++ leBytes 2 rowBytes ++ leBytes 4 0

/-- A TABLE value from its rows' bytes. -/
def tableOf (rowBytes : Nat) (body : List Byte) : List Byte := tableHeader (body.length / rowBytes) rowBytes ++ body

/-- The codes of OD 0xC000, 0xB030.01 and 0x4020.02. -/
def GuestState.code : GuestState → Nat
  | .absent => 0
  | .down => 1
  | .training => 2
  | .confined => 3
  | .verifying => 4
  | .admitted => 5
  | .locked => 6

def KrytaeState.code : KrytaeState → Nat
  | .down => 0
  | .training => 1
  | .up => 2

def PathState.code : PathState → Nat
  | .up => 0
  | .retraining => 1
  | .down => 2

/-- The code of OD 0x2011.01. -/
def ThermalState.code : ThermalState → Nat
  | .normal => 0
  | .warning => 1
  | .throttling => 2
  | .shutdown => 3

/-! ### Identity, dies and links (R5, R329, R337, R359) -/

/-- The 13 die codes (R326). -/
def dieCodes : List Nat :=
  [0x00, 0x10, 0x11, 0x12, 0x13, 0x20, 0x21, 0x22, 0x23, 0x30, 0x31, 0x40, 0x41]

/-- The identity word of a die (R337). -/
def State.identityWord (s : State) (d : Nat) : List Byte :=
  leBytes 1 (s.fuses.dieCode.get d d) ++ leBytes 1 (s.fuses.dieRev.get 0 d) ++ leBytes 4 (s.fuses.dieSerial.get 0 d) ++
    leBytes 2 (s.fuses.pkgLink.get s.fuses.serial d)

/-- OD 0x1010.01. -/
def State.dieTable (s : State) : List Byte :=
  dieCodes.flatMap fun d =>
    let k := s.die d
    leBytes 1 d ++ leBytes 1 k.state.code ++ s.identityWord d ++ leBytes 4 k.readyEpoch ++ leBytes 4 k.resets ++ leBytes 8 k.changed

/-- Every link of R329, in ascending order. -/
def allLinks : List Nat := (List.range 0x8000).filter isLink

/-- Spares in use on a link: those of the stay map and those swapped in since (R334, OD 0x1020.01). -/
def State.sparesOn (s : State) (id : Nat) : Nat :=
  sumOf (fun stay => (s.stay (stayKey id stay)).swapped.length) (List.range (linkStays (linkKind id)))

/-- OD 0x1020.01. -/
def State.linkTable (s : State) : List Byte :=
  allLinks.flatMap fun id =>
    let k := s.link id
    leBytes 2 id ++ leBytes 1 k.width ++ leBytes 1 k.mask ++ leBytes 2 (s.sparesOn id) ++ leBytes 2 k.retired ++ leBytes 8 k.changed

/-- OD 0x2040.01. -/
def State.budgetTable (s : State) : List Byte :=
  s.allHolders.flatMap fun h =>
    let k := s.holder h
    leBytes 1 h ++ leBytes 4 k.grant ++ leBytes 4 k.use_ ++ leBytes 4 (holderFloor h) ++ leBytes 4 k.seq ++
      leBytes 1 (if k.atFloor then 2 else if k.acked then 0 else 1)

/-- OD 0x1003.02: the flags are critical, held outside the hub, and has a shadow. -/
def directory : List Byte :=
  odEntries.flatMap fun e =>
    leBytes 2 (e.key / 256) ++ leBytes 1 e.key ++ leBytes 1 e.ty ++ leBytes 1 e.acc ++
      leBytes 1 (bitAt 0 (criticalKeys.contains e.key) + bitAt 1 (heldOutside (e.key / 256)) + bitAt 2 (e.acc = 3)) ++
      leBytes 4 e.len

/-- Entries of identity, life cycle, dies and links that are scalars. -/
def State.identityScalar (s : State) (key : Nat) : Option Nat :=
  match key with
  | 0x100002 => some (if s.fuses.extended then 1 else 0)
  | 0x100003 => some s.fuses.guests
  | 0x100004 => some s.fuses.serial
  | 0x100005 => some s.gradeLimit
  | 0x100101 => some s.lifeCycle
  | 0x100303 => some odEntries.length
  | 0x102004 => some s.package.repairQueue.length
  | _ => none

def State.identityValue (s : State) (key : Nat) : Option (List Byte) :=
  match key with
  | 0x100001 => some s.partNumber
  | 0x100302 => some directory
  | 0x101001 => some s.dieTable
  | 0x102001 => some s.linkTable
  | 0x204001 => some s.budgetTable
  | _ => none

/-! ### Power and temperature (R408) -/

/-- Every thermal element (R396), in the order of OD 0x2011.01. -/
def State.thermalElements (s : State) : List ThermalElement :=
  (List.range 32).map ThermalElement.zone ++ (List.range 4).map ThermalElement.cacheDie ++ (List.range 2).map ThermalElement.hubHalf ++
  ((List.range 2).filter fun g => Nat.testBit s.fuses.guests g).map ThermalElement.guest ++
  (List.range 12).map ThermalElement.lampBar ++ (List.range 24).map ThermalElement.stack ++ [ThermalElement.rig]

/-- The element that a source of OD 0x2010.01 belongs to: the 64 channels, then the on-chip sensors of the cache dies, the
compute dies (at zone 0) and the hub halves (R396). -/
def elementOfSource (i : Nat) : ThermalElement :=
  if i < 32 then .zone i
  else if i < 48 then .cacheDie ((i - 32) / 4)
  else if i < 50 then .hubHalf (i - 48)
  else if i < 52 then .guest (i - 50)
  else if i < 64 then .lampBar (i - 52)
  else if i < 68 then .cacheDie (i - 64)
  else if i < 72 then .zone (8 * (i - 68))
  else .hubHalf (i - 72)

/-- OD 0x2010.01: a broken source reads its element's throttle threshold plus 1 °C (R398). -/
def State.sensorTable (s : State) : List Byte :=
  rowsFor 74 fun i =>
    let e := elementOfSource i
    let k := s.thermal.sensors.get {} (elementKey e * 256 + i)
    let (_, _, throttle, _) := thresholds e
    let absent := match e with | .guest g => !Nat.testBit s.fuses.guests g | _ => false
    leBytes 1 i ++ leBytes 1 (elementNames e).1 ++ intBytes 2 (if k.status = 0 then k.centi else throttle + 100) ++
      leBytes 1 (if absent then 4 else k.status) ++ leBytes 2 (if (s.element (elementKey e)).fast then 16000 else 1000)

/-- OD 0x2010.02. -/
def State.coolantTable (s : State) : List Byte :=
  let row := fun (k : Sensor) (w : Bool) => intBytes 2 k.centi ++ leBytes 1 k.status ++ leBytes 1 (bitAt 0 w)
  row s.thermal.inlet s.thermal.inletWarning ++ row s.thermal.outlet s.thermal.outletWarning

/-- OD 0x2011.01: a cache die shows its pacing duty in eighths. -/
def State.elementTable (s : State) : List Byte :=
  s.thermalElements.flatMap fun e =>
    let k := s.element (elementKey e)
    let (code, z, _) := elementNames e
    let degree := match e with | .cacheDie t => (s.tower t).pacing | _ => k.level
    leBytes 1 code ++ leBytes 1 z ++ intBytes 2 k.centi ++ leBytes 1 k.state.code ++ leBytes 1 degree ++ leBytes 8 k.changed

/-- OD 0x2012.01: one row per row of R400. -/
def thresholdTable : List Byte :=
  ([.zone 0, .stack 0, .lampBar 0, .rig, .guest 0] : List ThermalElement).flatMap fun e =>
    let (a, b, c, d, f, g) := thresholds e
    [a, b, c, d, f, g].flatMap (intBytes 2)

/-- The last 1 ms measurements of every holder, in mW (OD 0x2000.02). -/
def State.packagePower (s : State) : Nat := sumOf (fun h => (s.holder h).use_) s.allHolders

/-- Entries of power and temperature that are scalars. -/
def State.powerScalar (s : State) (key : Nat) : Option Nat :=
  match key with
  | 0x200001 => some s.packageBudget
  | 0x200002 => some (quotient s.packagePower 1000).toNat
  | 0x200003 => some (quotient s.package.pool 1000).toNat
  | 0x200005 => some (quotient s.budgetFloor 1000).toNat
  | 0x203001 => some (bitAt 0 s.fuseWindow)
  | 0x203002 => some (bitAt 0 s.flashWindow)
  | 0x203003 => some (leNat (intBytes 2 s.thermal.flashCenti))
  | _ => none

def State.powerValue (s : State) (key : Nat) : Option (List Byte) :=
  match key with
  | 0x200101 => some (rowsFor 4 fun t => let mv := s.thermal.supply.get 750 t; leBytes 2 mv ++ leBytes 2 (supplyCap mv))
  | 0x201001 => some s.sensorTable
  | 0x201002 => some s.coolantTable
  | 0x201101 => some s.elementTable
  | 0x201201 => some thresholdTable
  | 0x201301 => some (rowsFor 32 fun z =>
      leBytes 1 (s.thermalLevel z) ++ leBytes 1 (s.powerLevelOf (z / 8)) ++ leBytes 1 (s.appliedLevel z))
  | _ => none

/-! ### Clocks and time (R386) -/

/-- A row of the zone table: 0 running, 1 slewing, 2 stopped, 3 idle. -/
def Clock.zoneRow (k : Clock) (now : Nat) : List Byte :=
  leBytes 2 (k.frequency now) ++ leBytes 2 k.target ++
    leBytes 1 (if k.stopped then 2 else if k.frequency now ≠ k.target then 1 else if k.idle then 3 else 0) ++ leBytes 8 k.lastStop

/-- A row of the stretch table. -/
def Clock.stretchRow (k : Clock) : List Byte :=
  leBytes 8 k.stretched25 ++ leBytes 8 k.stretched50 ++ leBytes 8 k.stretched100 ++ leBytes 4 k.runs ++ leBytes 4 k.stepDowns ++
    leBytes 4 k.stops

/-- The keys of the cache dies' and hub halves' clock regions. -/
def fixedRegions : List Nat := [64, 65, 66, 67, 80, 81]

/-- OD 0x3012.01: port engines run at 1,600 MHz and do not stop (R360). -/
def State.dieClocks (s : State) : List Byte :=
  (fixedRegions.flatMap fun r =>
    let k := s.region r
    leBytes 1 (if r < 80 then 0x10 + (r - 64) else 0x30 + (r - 80)) ++ leBytes 2 (k.frequency s.now) ++ leBytes 1 (bitAt 0 (!k.stopped))) ++
  rowsFor 4 fun i => leBytes 1 (0x50 + i) ++ leBytes 2 1600 ++ leBytes 1 1

/-- OD 0x3020.05. -/
def State.copyTable (s : State) : List Byte :=
  (dieCodes.filter fun d => d ≠ 0 && (d < 0x40 || s.guestFitted (d - 0x40))).flatMap fun d =>
    let k := s.clocks.copies.get {} d
    leBytes 1 d ++ intBytes 2 k.difference ++ leBytes 4 k.pathDelay

def State.clockScalar (s : State) (key : Nat) : Option Nat :=
  match key with
  | 0x300001 => some s.clocks.selected
  | 0x300003 => some (bitAt 0 s.clocks.good0 + bitAt 1 s.clocks.good1 + bitAt 2 s.clocks.holdover + bitAt 3 s.clocks.freqWarning)
  | 0x302001 => some s.now
  | _ => none

def State.clockValue (s : State) (key : Nat) : Option (List Byte) :=
  match key with
  | 0x301001 => some (rowsFor 32 fun z => leBytes 2 (s.region z).limit)
  | 0x301002 => some (rowsFor 32 fun z => (s.region z).zoneRow s.now)
  | 0x301101 => some (((List.range 32) ++ fixedRegions).flatMap fun r => (s.region r).stretchRow)
  | 0x301201 => some s.dieClocks
  | 0x302005 => some s.copyTable
  | _ => none

/-! ### Sites, rig network, tacks and collectives (R23, R24, R210, R234) -/

/-- The lanes that a bar feeds (R24), as slot, first and last lane: 48 is a site's standing transmitter, 32 to 47 are its fibre
ports' transmitters (R245). -/
def feedsOf (bar : Nat) : List (Nat × Nat × Nat) :=
  match bar with
  | 0 => [(0, 0, 15), (0, 48, 48), (4, 0, 3), (4, 48, 48)]
  | 1 => [(0, 16, 31), (7, 48, 48)]
  | 2 => [(1, 0, 15), (1, 48, 48), (5, 0, 7), (5, 48, 48)]
  | 3 => [(1, 16, 31), (8, 48, 48)]
  | 4 => [(2, 0, 15), (2, 48, 48), (6, 0, 7), (6, 48, 48)]
  | 5 => [(2, 16, 31), (9, 48, 48)]
  | 6 => [(3, 0, 15), (3, 48, 48)]
  | 7 => [(3, 16, 31), (10, 48, 48)]
  | b => [(b - 1, 0, 15), (b - 1, 32, 47)]

/-- OD 0x4000.02: unused places of a row hold 0xFF. -/
def feedTable : List Byte :=
  rowsFor 12 fun b =>
    leBytes 1 b ++ (((feedsOf b).flatMap fun (f : Nat × Nat × Nat) => leBytes 1 f.1 ++ leBytes 1 f.2.1 ++ leBytes 1 f.2.2) ++
      List.replicate 12 0xFF).take 12

/-- OD 0x4020.01. -/
def State.laneTable (s : State) : List Byte :=
  s.allLanes.flatMap fun k =>
    let l := s.laneAt k
    leBytes 1 (k / 64) ++ leBytes 1 (k % 64) ++ leBytes 1 l.state.code ++ leBytes 1 l.wavelengths ++ leBytes 2 l.targets ++
      leBytes 2 (if l.state = .idle || l.state = .out then 0 else l.nextSeq)

/-- OD 0x4020.02. -/
def State.standingTable (s : State) : List Byte :=
  rowsFor 11 fun a => rowsFor 11 fun b =>
    if s.hasStanding a b then
      let q := s.standing a b
      leBytes 1 a ++ leBytes 1 b ++ leBytes 1 q.state.code ++ leBytes 1 ((s.relayOf a b).getD 0xFF)
    else []

/-- OD 0x4101.01 and OD 0x4101.02. -/
def State.planDirectory (s : State) : List Byte :=
  rowsFor 64 fun n =>
    leBytes 1 n ++ leBytes 1 (bitAt 0 (s.planLoaded n)) ++ leBytes 2 (if s.planLoaded n then (s.planEntries n).length else 0) ++
      leBytes 8 (s.plan n).loaded

def State.planTable (s : State) : List Byte :=
  rowsFor 64 fun n =>
    if !s.planLoaded n then List.replicate 1712 0
    else padTo 1712 (s.planImage n ++ if n = 0 then complementBytes (s.planImage n) else (s.plan n).complement)

def State.rigScalar (s : State) (key : Nat) : Option Nat :=
  match key with
  | 0x400001 => some (sumOf (fun n => bitAt n (s.sitePopulated n)) (List.range 16))
  | 0x411003 => some s.coll.queue.length
  | 0x411106 => some s.coll.running.length
  | _ => none

def State.rigValue (s : State) (key : Nat) : Option (List Byte) :=
  match key with
  | 0x400002 => some feedTable
  | 0x402001 => some s.laneTable
  | 0x402002 => some s.standingTable
  | 0x410101 => some s.planDirectory
  | 0x410102 => some s.planTable
  | _ => none

/-! ### Lamps and rings (R260) -/

/-- OD 0x4200.01. -/
def State.barTable (s : State) : List Byte :=
  rowsFor 12 fun b =>
    let k := s.bar b
    leBytes 1 b ++ leBytes 1 ((List.range 4).filter fun i => (s.laser b (16 + i)).state = .standby).length ++
      leBytes 2 (sumOf (fun c => 2 ^ c) k.droppedChannels) ++ intBytes 2 (s.element (0x160 + b)).centi ++
      leBytes 1 (match k.swap with | some w => w.channel + 1 | none => 0)

/-- OD 0x4200.02. -/
def State.laserTable (s : State) : List Byte :=
  rowsFor 12 fun b => rowsFor 20 fun n =>
    let k := s.laser b n
    leBytes 1 b ++ leBytes 1 n ++ leBytes 1 k.state.code ++ leBytes 1 (k.channel.getD 0xFF) ++ leBytes 4 k.fall.toNat ++
      leBytes 4 k.commissioning.toNat ++ leBytes 2 k.drive ++ leBytes 8 k.changed

/-- OD 0x4300.02. -/
def State.ringCounts (s : State) : List Byte :=
  let codes := allElements.map fun e => (s.ring e).state.code
  (rowsFor 6 fun c => leBytes 4 (codes.filter (· = c)).length) ++ leBytes 4 (s.reg 0x430002)

/-- The entries of the snapshot (OD 0x4310). -/
def State.snapshotScalar (s : State) (key : Nat) : Option Nat :=
  let p := s.photonics
  match key with
  | 0x431003 => some p.snapshot.state.code
  | 0x431004 => some p.snapshot.calibrations
  | 0x431005 => some p.snapshot.calibrated
  | 0x431006 => some p.snapshotApplied
  | 0x431007 => some p.snapshotFeed
  | 0x431008 => some (leNat (intBytes 4 p.snapshot.trim))
  | 0x431009 => some (leNat (intBytes 2 p.snapshotBank.centi))
  | 0x43100B => some (p.snapshot.tone.getD 0xFF)
  | 0x43100D => some p.snapshotBank.count
  | 0x43100E => some p.snapshotBank.time
  | 0x43100F => some p.snapshot.relocks
  | 0x430006 => some s.narrowedLanes
  | _ => none

def State.lampValue (s : State) (key : Nat) : Option (List Byte) :=
  match key with
  | 0x420001 => some s.barTable
  | 0x420002 => some s.laserTable
  | 0x430002 => some s.ringCounts
  | 0x43100A => some (rowsFor 32 fun i => leBytes 2 (s.photonics.snapshot.table.getD i 0))
  | 0x43100C => some (rowsFor 256 fun i =>
      leBytes 4 (if s.photonics.snapshotBank.k = [] then Config.crosstalk (s.reg 0x431001 / 16) i
        else s.photonics.snapshotBank.k.getD i 0).toNat)
  | _ => none

/-! ### Memory and compute (R57, R103, R176) -/

/-- The scalars of the memory and compute blocks. The rate figures are those of the last window's end, and before the first
those of the start's burst (R56, R57). -/
def State.memoryScalar (s : State) (key : Nat) : Option Nat :=
  match key with
  | 0x500004 => some (sumOf (fun k => bitAt k (s.stack k).inService) (List.range 24))
  | 0x501101 => some (cacheCapacity (s.tower 0).scratch)
  | 0x501102 => some (cacheCapacity (s.tower 1).scratch)
  | 0x501103 => some (cacheCapacity (s.tower 2).scratch)
  | 0x501104 => some (cacheCapacity (s.tower 3).scratch)
  | 0x601001 => some (s.regs.get s.rateLowest key)
  | 0x601002 => some (s.regs.get s.rateMean key)
  | 0x601003 => some (s.regs.get s.rateHighest key)
  | 0x601004 => some (s.regs.get s.fp4Peak key)
  | _ => none

def State.memoryValue (s : State) (key : Nat) : Option (List Byte) :=
  match key with
  | 0x503204 => some (if s.blob key = [] then List.replicate 8 0 else s.blob key)
  | 0x504001 => some (rowsFor 24 fun k =>
      intBytes 2 (quotient (s.stack k).centi 100) ++ leBytes 1 (if (s.stack k).doubled then 2 else 1))
  | 0x601100 => some (if s.blob key = [] then s.rateRows else s.blob key)
  | 0x620001 => some (rowsFor 1024 fun x => leBytes 8 (s.seedInForce x).toNat)
  | _ => none

/-! ### Contexts (R113, R298) -/

/-- Global time spent in BOUND (OD 0x7nnn.0F), up to now. -/
def Ctx.boundSoFar (k : Ctx) (now : Nat) : Nat := k.boundTime + if k.state = .bound then now - k.boundAt else 0

/-- The scalar entries of context `x`. -/
def State.ctxScalar (s : State) (x sub : Nat) : Option Nat :=
  let k := s.ctx x
  match sub with
  | 0x01 => some k.code
  | 0x03 => some k.ringBase
  | 0x04 => some k.ringSize
  | 0x05 => some k.producer.toNat
  | 0x06 => some k.consumer.toNat
  | 0x07 => some k.priority
  | 0x08 => some k.period
  | 0x09 => some k.saveBase
  | 0x0A => some k.saveSize
  | 0x0B => some k.faultCode
  | 0x0C => some k.faultCommand
  | 0x0D => some k.faultDetail
  | 0x0E => some k.completed
  | 0x0F => some (k.boundSoFar s.now)
  | 0x10 => some k.binds
  | 0x11 => some k.overrun
  | 0x12 => some k.lastSave
  | 0x13 => some k.lastRestore
  | 0x14 => some k.imageRequests
  | 0x15 => some k.waitLimit
  | 0x16 => some k.doorbellRefusals
  | 0x21 => some k.actionStatus
  | 0x31 => some (s.frozenOf x).length
  | 0x32 => some (s.outstandingOf x).length
  | _ => none

/-- The windows of a context or a guest site, as a table's rows (R268). -/
def State.windowRows (s : State) (x : Nat) : List Byte := rowsFor 64 fun n => leBytes 32 (s.window x n).entry.toNat

def State.ctxValue (s : State) (x sub : Nat) : Option (List Byte) :=
  match sub with
  | 0x02 => some (bytesOfClass (s.ctx x).cls)
  | 0x30 => some (s.windowRows x)
  | _ => none

/-! ### Domain and messages (R298, R325) -/

/-- OD 0x8002.01: no wavelength is in use while a port is DOWN or TRAINING. -/
def State.portTable (s : State) : List Byte :=
  rowsFor 64 fun p =>
    let k := s.port p
    leBytes 1 k.state.code ++ leBytes 1 (s.portRole p).2 ++
      leBytes 1 (if k.state = .down || k.state = .training then 0 else k.wavelengths) ++ leBytes 4 k.retrains ++ leBytes 8 k.changed

/-- OD 0x8202.01. -/
def State.peerTable (s : State) : List Byte :=
  rowsFor 64 fun p =>
    let k := s.messages.peerDigests.get {} p
    leBytes 1 k.peer ++ leBytes 4 k.epoch ++ leBytes 2 k.level ++ padTo 32 k.digest ++ leBytes 8 k.at_

/-- OD 0x8230.01. -/
def TimedRow.bytes (r : TimedRow) : List Byte := leBytes 8 r.time ++ leBytes 2 r.ctx ++ leBytes 4 r.producer ++ leBytes 1 r.state

/-- OD 0x8401.01. -/
def State.inboxTable (s : State) : List Byte :=
  rowsFor 4096 fun n =>
    let k := s.messages.inboxes.get { slots := 0 } n
    leBytes 2 k.owner ++ leBytes 8 k.base ++ leBytes 1 k.code ++ leBytes 4 k.slots

def State.domainScalar (s : State) (key : Nat) : Option Nat :=
  match key with
  | 0x800302 => some (s.domain.outstanding.filter (·.frozen)).length
  | 0x820004 => some s.memberMask
  | 0x822001 => some s.timeMaster
  | 0x822004 => some (bitAt 0 s.clocks.fenced)
  | _ => none

def State.domainValue (s : State) (key : Nat) : Option (List Byte) :=
  match key with
  | 0x800101 => some s.portMapBytes
  | 0x800201 => some s.portTable
  | 0x820006 => some s.localDigest
  | 0x820201 => some s.peerTable
  | 0x823001 => some (rowsFor 16 fun n => (s.messages.doorbells.get {} n).bytes)
  | 0x840101 => some s.inboxTable
  | _ => none

/-! ### Guests (R359) -/

def State.guestScalar (s : State) (key : Nat) : Option Nat :=
  let g := key % 256 - 1
  match key / 256 with
  | 0xC000 => some (s.guest g).state.code
  | 0xC002 => some (s.guest g).bandwidth
  | 0xC003 => some (s.guest g).result
  | 0xC004 => some (s.guest g).passes
  | 0xC005 => some (s.guestMinimum g)
  | _ => none

def State.guestValue (s : State) (key : Nat) : Option (List Byte) :=
  let g := key % 256 - 1
  match key / 256 with
  | 0xC001 => some (s.guest g).capability
  | 0xC006 => some (padTo 32 (s.fuses.guestKey.get [] g))
  | 0xC101 => some (s.windowRows (1024 + g))
  | _ => none

/-! ### Security (R460) -/

def State.securityScalar (s : State) (key : Nat) : Option Nat :=
  let r := s.boot.flash.leafRecord.getD {}
  match key with
  | 0x900002 => some s.boot.flash.firmwareMinimum
  | 0x902002 => some s.boot.log.length
  | 0x903101 => some s.boot.leaf
  | 0x903102 => some r.ceiling
  | 0x903103 => some r.seq
  | 0x903104 => some (2 ^ 40 - s.boot.leaf)
  | _ => none

def State.securityValue (s : State) (key : Nat) : Option (List Byte) :=
  let f := s.boot.flash
  match key with
  | 0x900001 => some (padTo 32 s.fuses.root)
  | 0x900004 => some (rowsFor 2 fun n =>
      let (img, sec, valid) := f.slots.get (0, 0, false) n
      leBytes 1 (bitAt 0 valid) ++ leBytes 1 (bitAt 0 (f.preferred = n)) ++ leBytes 4 img ++ leBytes 4 sec)
  | 0x902001 => some (padTo 32 s.boot.measure)
  | 0x902003 => some (s.boot.log.flatMap (padTo 64))
  | 0x903005 => some (if f.identity = [] then [] else padTo 68 (Config.xmssMtPublicKey f.identity))
  | 0x903006 => some f.endorsement
  | _ => none

/-! ### Debug (R483) -/

/-- The 256 entries of a slate, those not yet written as zero. -/
def State.slateBytes (s : State) (unit : Nat) : List Byte :=
  padTo 16384 ((s.dbg.slates.get {} unit).entries.flatMap (padTo 64))

/-- The selected sample (R480). -/
def State.selectedSample (s : State) : List Byte :=
  s.sampleCluster (s.reg 0xA04101 % 65536) (s.reg 0xA04101 / 65536) (s.reg 0xA04103 = 1)

/-- The slots of a ring of records. -/
def RecordRing.bytes (r : RecordRing) (n : Nat) : List Byte := rowsFor n fun i => padTo 256 (r.slots.get [] i)

def State.debugScalar (s : State) (key : Nat) : Option Nat :=
  match key with
  | 0xA00003 => some s.dbg.bell.code
  | 0xA02003 => some (s.dbg.slates.get {} (s.reg 0xA02001)).written
  | 0xA05002 => some s.dbg.telemetry.count
  | 0xA05003 => some s.dbg.telemetry.drops
  | 0xA05004 => some s.dbg.telemetry.lastDrop
  | _ => none

def State.debugValue (s : State) (key : Nat) : Option (List Byte) :=
  match key with
  | 0xA00101 => some s.triggerBytes
  | 0xA02002 => some (s.slateBytes (s.reg 0xA02001))
  | 0xA02101 => some s.maskBytes
  | 0xA03006 => some (rowsFor 800 fun c => leBytes 8 (s.cluster c).traceWritten ++ leBytes 4 (s.cluster c).traceLostTotal)
  | 0xA03201 => some s.dumpBytes
  | 0xA04102 => some s.selectedSample
  | 0xA05001 => some s.sampleBytes
  | 0xA05100 => some (s.dbg.telemetry.bytes 16384)
  | _ => none

/-! ### Control complexes and events (R438, R489) -/

def State.controlScalar (s : State) (key : Nat) : Option Nat :=
  match key with
  | 0xB00101 => some (s.activeComplex.getD (s.reg 0xB00101))
  | 0xB00103 => some s.control.epoch
  | 0xB02001 => some s.control.events.count
  | 0xB02002 => some s.control.events.drops
  | 0xB02003 => some s.control.events.lastDrop
  | _ => none

def State.controlValue (s : State) (key : Nat) : Option (List Byte) :=
  match key with
  | 0xB00102 => some (rowsFor 2 fun k =>
      let c := s.complex k
      leBytes 1 c.state.code ++ leBytes 1 c.selfTest ++ leBytes 4 c.epoch ++ leBytes 8 (s.lastInputOf k) ++ leBytes 8 c.changed)
  | 0xB00201 => some (rowsFor 2 fun k => leBytes 8 (s.complex k).missPrivate ++ leBytes 8 (s.complex k).missStanding)
  | 0xB02100 => some (s.control.events.bytes 8192)
  | 0xB02201 => some (eventCodes.flatMap fun c =>
      let n := s.control.eventCounts.get {} c
      leBytes 2 c ++ leBytes 1 (if c = 0x1409 || c = 0x1A04 then 2 else eventSeverity c) ++ leBytes 1 (s.deliveryRow c).1 ++
        leBytes 8 n.raised ++ leBytes 8 n.heldBack ++ leBytes 8 n.lastRaise)
  | 0xB03001 => some (rowsFor 2 fun p =>
      let k := s.control.krytae.get {} p
      leBytes 1 k.state.code ++ leBytes 4 k.retrains ++ leBytes 8 k.corrected ++ leBytes 8 k.replays ++ leBytes 8 k.changed)
  | _ => none

/-! ### Tables of the 0xD000 range (R423, R491) -/

/-- The transitions of R112, as row, old state and new state. -/
def transitions : List (Nat × Nat × Nat) :=
  [(0, 0, 1), (1, 1, 2), (2, 2, 3), (3, 2, 3), (4, 2, 3), (5, 3, 4), (6, 3, 7), (7, 4, 5), (8, 5, 2), (9, 2, 6), (9, 3, 6), (9, 5, 6),
   (10, 6, 6), (11, 6, 4), (11, 6, 2), (12, 0, 0), (12, 1, 0), (12, 2, 0), (12, 4, 0), (12, 6, 0), (12, 7, 0), (13, 4, 0), (14, 0, 4)]

/-- The number and KIND of each table, in ascending order. -/
def tableNumbers : List (Nat × Nat) :=
  (0x0000, 2) :: (List.range 16).map (fun i => (i + 1, 3)) ++
    [(0x0011, 2), (0x0012, 2), (0x0013, 2), (0x0018, 1), (0x0019, 1), (0x001A, 3), (0x001B, 3), (0x0020, 1)]

/-- The F32 values that a narrow format's codes stand for (R79). -/
def decodeTable (f : FloatFormat) (n : Nat) : List Byte :=
  rowsFor n fun v => leBytes 4 (fp32.round .nearestEven (f.decode v))

/-- The body in force of a table. -/
def State.tableBody (s : State) (t : Nat) : List Byte :=
  if t = 0 then defaultCodebook
  else if t ≤ 0x10 then defaultCurve (t - 1)
  else if t = 0x11 then decodeTable e2m1 16
  else if t = 0x12 then decodeTable e3m2 64
  else if t = 0x13 then decodeTable e2m3 64
  else if t = 0x18 then transitions.flatMap fun r => [Config.triggerCode r.1] ++ leBytes 1 r.2.1 ++ leBytes 1 r.2.2
  else if t = 0x19 then [100, 150, 300].flatMap (leBytes 2)
  else if t = 0x1A then reefEighths.flatMap fun n => leBytes 4 (fp32.round .nearestEven (.fin false n (-3)))
  else if t = 0x1B then supplyRows.flatMap fun r => leBytes 2 r.1 ++ leBytes 2 r.2
  else s.control.delivery.flatMap fun r => leBytes 2 r.1 ++ leBytes 1 r.2.1 ++ leBytes 1 0 ++ leBytes 4 r.2.2

/-- The KIND of a table of R491, if there is one of that number. -/
def tableKind (t : Nat) : Option Nat := (tableNumbers.find? fun e => e.1 = t).map (·.2)

/-- OD 0xD001.01: only the event delivery table is loadable. -/
def State.tableDirectory (s : State) : List Byte :=
  tableNumbers.flatMap fun e =>
    let loaded := e.1 = 0x20 && s.control.deliveryLoaded
    leBytes 2 e.1 ++ leBytes 1 e.2 ++ leBytes 1 (if e.1 = 0x20 then 0 else 1) ++ leBytes 4 (s.tableBody e.1).length ++
      leBytes 1 (bitAt 0 loaded) ++ leBytes 8 (if e.1 = 0x20 then s.control.deliveryTime else 0)

/-- OD 0xD002.02. -/
def State.tableImage (s : State) (t : Nat) : List Byte :=
  let body := s.tableBody t
  leBytes 1 ((tableKind t).getD 0) ++ leBytes 1 1 ++ leBytes 2 0 ++ leBytes 4 body.length ++ body

def State.tablesValue (s : State) (key : Nat) : Option (List Byte) :=
  match key with
  | 0xD00101 => some s.tableDirectory
  | 0xD00202 => some (s.tableImage (s.reg 0xD00201))
  | _ => none

/-! ### Any entry -/

/-- A scalar entry in force, by key; a context's entries by its number. -/
def State.scalarIn (s : State) (index sub : Nat) : Nat :=
  let key := index * 256 + sub
  match contextIndex index with
  | some x => (s.ctxScalar x sub).getD 0
  | none =>
    let special :=
      match index / 4096 with
      | 1 => s.identityScalar key
      | 2 => s.powerScalar key
      | 3 => s.clockScalar key
      | 4 => (s.rigScalar key).or (s.snapshotScalar key)
      | 5 => s.memoryScalar key
      | 6 => s.memoryScalar key
      | 8 => s.domainScalar key
      | 9 => s.securityScalar key
      | 10 => s.debugScalar key
      | 11 => s.controlScalar key
      | 12 => s.guestScalar key
      | _ => none
    special.getD (s.reg key)

/-- A VIS or BLOB value in force, or the rows of a TABLE. -/
def State.bytesIn (s : State) (index sub : Nat) : List Byte :=
  let key := index * 256 + sub
  match contextIndex index with
  | some x => (s.ctxValue x sub).getD []
  | none =>
    let special :=
      match index / 4096 with
      | 1 => s.identityValue key
      | 2 => (s.powerValue key).or (s.identityValue key)
      | 3 => s.clockValue key
      | 4 => (s.rigValue key).or (s.lampValue key)
      | 5 => s.memoryValue key
      | 6 => s.memoryValue key
      | 8 => s.domainValue key
      | 9 => s.securityValue key
      | 10 => s.debugValue key
      | 11 => s.controlValue key
      | 12 => s.guestValue key
      | 13 => s.tablesValue key
      | _ => none
    special.getD (s.blob key)

/-- The shadow of a scalar entry (R419). -/
def State.scalarShadow (s : State) (index sub : Nat) : Nat := s.shadows.get (s.scalarIn index sub) (index * 256 + sub)

/-- The shadow of a BLOB or TABLE entry (R419). -/
def State.bytesShadow (s : State) (index sub : Nat) : List Byte := s.blobShadows.get (s.bytesIn index sub) (index * 256 + sub)

/-- The value of an entry, or its shadow, in its encoding (R417, R418). -/
def State.valueOf (s : State) (e : OdEntry) (index sub : Nat) (shadow : Bool) : List Byte :=
  if e.ty ≤ 10 then leBytes e.len (if shadow then s.scalarShadow index sub else s.scalarIn index sub)
  else
    let b := if shadow then s.bytesShadow index sub else s.bytesIn index sub
    if e.ty = 13 then tableOf e.row b else b

/-! ### Critical entries (R421, R488) -/

/-- Return a critical entry to its fixed default (R488): fused and flash values are read again where they stand. -/
def State.toFixedDefault (s : State) (key : Nat) : State :=
  let s1 := { s with regs := s.regs.dropKeys (· = key), blobs := s.blobs.dropKeys (· = key) }
  if key = 0x800101 then { s1 with domain := { s1.domain with portMap := SMap.empty } }
  else if key = 0x830001 then { s1 with messages := { s1.messages with routes := [] } }
  else s1

/-- Whether the active complex's copy of a critical entry fails its complement (R421). -/
def State.criticalFlaw (s : State) (key : Nat) : Bool :=
  criticalKeys.contains key && Nat.testBit (s.control.flaws.get 0 key) (s.activeComplex.getD 0)

/-- What the check of a failing entry does (R421): the entry is taken from the standby's copy if that holds, or returns to its fixed
default, and the mismatch is raised. -/
def State.criticalRepair (s : State) (key : Nat) : State :=
  let s1 := if Nat.testBit (s.control.flaws.get 0 key) (1 - s.activeComplex.getD 0) then s.toFixedDefault key else s
  ({ s1 with control := { s1.control with flaws := s1.control.flaws.dropKeys (· = key) } }).criticalMismatch 1 key

/-! ### Reads (R412, R419, R468) -/

/-- A read of an entry: the status, the value, and the state after it. -/
def State.readEntry (s : State) (index sub : Nat) (shadow : Bool) : Nat × List Byte × State :=
  match entryAt index sub with
  | none => (2, [], s)
  | some e =>
    if e.acc = 5 || e.acc = 6 || (shadow && e.acc ≠ 3) then (4, [], s)
    else
      if s.criticalFlaw e.key then (8, [], s.criticalRepair e.key)
      else if e.key = 0xA01003 then (3, [], s)
      else if 4096 < (s.valueOf e index sub shadow).length then (3, [], s)
      else (0, s.valueOf e index sub shadow, s)

/-- A read of `length` bytes at `offset` of a BLOB or TABLE (R412). -/
def State.readBlock (s : State) (index sub offset length : Nat) : Nat × List Byte × State :=
  match entryAt index sub with
  | none => (2, [], s)
  | some e =>
    if e.acc = 5 then (4, [], s)
    else if e.ty < 12 || 4096 < length then (3, [], s)
    else if e.key = 0xA01003 then s.scanRead offset length
    else
      if s.criticalFlaw e.key then (8, [], s.criticalRepair e.key)
      else if (s.valueOf e index sub false).length < offset + length then (3, [], s)
      else (0, subBytes (s.valueOf e index sub false) offset length, s)

end Sys2Proof.Machine
end

