-- ==== Sys2Proof/Machine/OdWrite.lean ====
section
/-! DEFINITION. Writes of the object dictionary (R113, R416 to R420, R423, R486, R487, R492): form, access class, the entries'
own rules, and the actions that CMD entries start. The answer is the transaction status of R415. -/

namespace Sys2Proof.Machine

/-! ### Loadable tables (R423, R491, R492) -/

/-- The rows of an event delivery table's body: code, action, hold-off. -/
def deliveryRows (body : List Byte) : List (Nat × Nat × Nat) :=
  (rowsOf 8 body).map fun b => (field b 0 2, field b 2 1, field b 4 4)

/-- Whether codes 0x1409 and 0x1A04, whose severity may be 2, or any other code of severity 2 or 3, is named (R492). -/
def grave (code : Nat) : Bool := 2 ≤ eventSeverity code || code = 0x1409 || code = 0x1A04

/-- The consumer's check of an event delivery table (R492). -/
def deliveryGood (rows : List (Nat × Nat × Nat)) : Bool :=
  let codes := rows.map (·.1)
  codes.all eventCodes.contains && codes.eraseDups.length = codes.length &&
  rows.all fun r => r.2.1 ≤ 2 && r.2.2 ≤ 1000000 && !(grave r.1 && (r.2.1 = 2 || r.2.2 ≠ 0))

/-- The status of OD 0xD000.03 for a load of image `b` as table `t` (R423). -/
def tableStatus (t : Nat) (b : List Byte) : Nat :=
  if (tableKind t).isNone then 2
  else if t ≠ 0x20 then 3
  else if b.length < 8 || field b 0 1 ≠ 1 || field b 1 1 ≠ 1 || field b 4 4 ≠ b.length - 8 || (b.length - 8) % 8 ≠ 0 ||
      64 < (b.length - 8) / 8 then 4
  else if !deliveryGood (deliveryRows (b.drop 8)) then 5 else 0

/-- A write of 1 to OD 0xD0FF.00 (R423). -/
def State.tableLoad (s : State) : State :=
  let t := s.shadow 0xD00001
  let b := s.blobShadow 0xD00002
  let st := tableStatus t b
  let s1 := s.setReg 0xD00003 st
  if st ≠ 0 then s1
  else
    { (s1.commitRegs [0xD00001]).setBlob 0xD00002 b with
      control := { s1.control with delivery := deliveryRows (b.drop 8), deliveryLoaded := true, deliveryTime := s.now } }

/-- A write of 0x100 + t to OD 0xD0FF.00 (R423, R491): a fixed table's restore has no effect. -/
def State.tableRestore (s : State) (t : Nat) : State :=
  if t ≠ 0x20 then s
  else { s.setReg 0xD00003 0 with control := { s.control with delivery := [], deliveryLoaded := false } }

/-- A write to OD 0xD0FF.00. -/
def State.tableCommitOp (s : State) (value : Nat) : Nat × State :=
  if value = 1 then (1, s.tableLoad)
  else if 0x100 ≤ value && (tableKind (value - 0x100)).isSome then (1, s.tableRestore (value - 0x100))
  else (5, s)

/-! ### Contexts (R113) -/

/-- A write of OD 0x7nnn.20. -/
def State.contextAction (s : State) (x value : Nat) : Nat × State :=
  let k := s.ctx x
  if value = 0 || 6 < value then (5, s)
  else if x ≠ 0 && (k.pendingAction = some .close || (k.pendingAction = some .park && value ≠ 2)) then (6, s)
  else
    (1, match value with
      | 1 => s.openAction x
      | 2 => s.closeAction x
      | 3 => s.resumeAction x
      | 4 => s.parkAction x
      | 5 => s.detachAction x
      | _ => s.attachAction x)

/-- The states in which an RS entry of a context may be written: class, ring and save area in CLOSED, the others except in
BOUND, SAVING and RESTORING. -/
def Ctx.writable (k : Ctx) (sub : Nat) : Bool :=
  if sub = 0x02 || sub = 0x03 || sub = 0x04 || sub = 0x09 || sub = 0x0A then k.state = .closed
  else k.state ≠ .bound && k.state ≠ .saving && k.state ≠ .restoring

/-- The range or form that an RS entry's Meaning gives. -/
def Ctx.acceptable (k : Ctx) (sub v : Nat) : Bool :=
  match sub with
  | 0x03 => decide (v % 4096 = 0)
  | 0x04 => isPowerOfTwo 64 65536 v
  | 0x07 => decide (v ≤ 7)
  | 0x08 => decide (100 ≤ v ∧ v ≤ 1000000)
  | 0x09 => decide (v % 4096 = 0)
  | 0x0A => decide (4096 + 3747840 * k.cls.length ≤ v)
  | _ => true

/-- A context with an RS entry written. -/
def Ctx.written (k : Ctx) (sub : Nat) (value : List Byte) : Ctx :=
  let v := leNat value
  match sub with
  | 0x02 => { k with cls := classOfBytes value }
  | 0x03 => { k with ringBase := v }
  | 0x04 => { k with ringSize := v }
  | 0x07 => { k with priority := v }
  | 0x08 => { k with period := v }
  | 0x09 => { k with saveBase := v }
  | 0x0A => { k with saveSize := v }
  | 0x15 => { k with waitLimit := v }
  | _ => k

/-- A write to an entry of context `x` (R113). A write refused for the state sets the action status to 2, also while an action is
pending, though the status is to read 1 then (DESIGN CHOICE, log 99: the two sentences disagree). -/
def State.writeContext (s : State) (x sub : Nat) (value : List Byte) : Nat × State :=
  let v := leNat value
  if sub = 0x20 then s.contextAction x v
  else if sub = 0x05 then
    let (ok, s1) := s.ringDoorbell x (BitVec.ofNat 32 v)
    (if ok then 0 else 5, s1)
  else if !(s.ctx x).writable sub then (6, s.setStatus x 2)
  else if !(s.ctx x).acceptable sub v then (5, s)
  else (0, s.modCtx x fun k => k.written sub value)

/-! ### Commands (R419, R486, R487) -/

/-- The answer of an action whose values are those that `ok` holds for. -/
def actionAnswer (ok : Bool) (s s1 : State) : Nat × State := if ok then (1, s1) else (5, s)

/-- A write to a CMD entry outside the contexts. A commit whose read-back of flash is part of it takes a free outcome. -/
def State.command (s : State) (key v : Nat) : Nat × State :=
  match key with
  | 0x100102 => actionAnswer (v ≤ 4) s (s.lifeCycleAction v)
  | 0x100201 => actionAnswer (v = 1 || v = 2) s (s.requestStart (v = 2))
  | 0x101101 => (1, s.dieResetAction v)
  | 0x201501 => actionAnswer (restartElements v ≠ []) s (s.thermalRestartAction v)
  | 0x20FF00 => s.powerCommitOp v
  | 0x30FF00 => s.clockCommitOp v
  | 0x411001 => (1, s.tackRequest v)
  | 0x41FF00 => s.planCommit v
  | 0x420201 => (1, s.reCommission v)
  | 0x50FF00 => s.memoryCommit v
  | 0x62FF00 => s.arithmeticCommit v
  | 0x63FF00 => s.loaderCommit v
  | 0x80FF00 => s.domainCommitOp v
  | 0x81FF00 => s.windowCommitOp v
  | 0x820101 => actionAnswer (v < 64) s (s.joinOp v)
  | 0x820102 => actionAnswer (v < 64) s (s.leaveOp v)
  | 0x82FF00 => s.agreementCommitOp v
  | 0x83FF00 => s.routeCommitOp v
  | 0x84FF00 => s.inboxCommitOp v
  | 0x903002 => actionAnswer (v = 1) s s.attest
  | 0x90FF00 => let (w, s1) := s.freeWord; s1.securityCommitOp v (w.getLsbD 0)
  | 0xA00001 => actionAnswer (bellActionValue v) s (s.bellAction v)
  | 0xA03301 => actionAnswer (v = 1) s (s.dumpReset v)
  | 0xA04001 => let (ok, s1) := s.counterClear v; actionAnswer ok s s1
  | 0xA0FF00 => s.debugCommitOp v
  | 0xB01001 => actionAnswer (1 ≤ v && v ≤ 3) s (s.complexAction v)
  | 0xB0FF00 => s.controlCommitOp v
  | 0xC01001 => actionAnswer (guestActionValue v) s (s.guestAction v)
  | 0xC1FF00 => s.guestWindowCommitOp v
  | 0xD0FF00 => s.tableCommitOp v
  | _ => actionAnswer (v = 1) s s

/-! ### Plain entries -/

/-- The range that an RW or RL entry's Meaning gives, where a write outside it is refused. -/
def inRange (key v : Nat) : Bool :=
  match key with
  | 0x300002 => decide (v ≤ 1)
  | 0x402203 => decide (500 ≤ v ∧ v ≤ 20000)
  | 0x411102 => decide (10 ≤ v ∧ v ≤ 10000)
  | 0x430007 => decide (10 ≤ v ∧ v ≤ 1000)
  | 0x431001 => isElement v
  | 0x502001 => decide (3600 ≤ v ∧ v ≤ 604800)
  | 0x801001 => decide (5 ≤ v ∧ v ≤ 50)
  | 0x831001 => decide (100 ≤ v ∧ v ≤ 1000000)
  | 0x831002 => decide (100 ≤ v ∧ v ≤ 1000000)
  | 0xA01001 => decide (v < 800)
  | 0xA01002 => decide (1 ≤ v ∧ v ≤ 8)
  | 0xA02001 => isUnit v
  | 0xA03005 => decide (v % 4 = 0 ∧ v ≤ 1024)
  | 0xA03102 => decide (v % 4096 = 0)
  | 0xA04101 => decide (v % 65536 < 800) && (counterWidth (v / 65536)).isSome
  | 0xD00201 => (tableKind v).isSome
  | _ => true

/-- What a write of an RW entry in range does. -/
def State.applyRw (s : State) (key v : Nat) : State :=
  match key with
  | 0x300002 => s.referenceSelectAction v
  | 0x431001 => (s.elementSelect v).2
  | 0xA04002 => s.setReg key (Nat.lor v 0x000B067F)
  | _ => s.setReg key v

/-- A row of the timed-doorbell table as written (R325): it is armed, and a row of zeros is empty. -/
def timedRowOf (b : List Byte) : TimedRow :=
  { time := field b 0 8, ctx := field b 8 2, producer := field b 10 4, state := if b.all (· = 0) then 0 else 1 }

/-- A write of the identity endorsement (R404, R452): in PROVISIONED, while flash may be written. -/
def State.writeEndorsement (s : State) (value : List Byte) : Nat × State :=
  if s.lifeCycle ≠ 1 then (7, s)
  else if !s.flashWindow then (5, s.countReg 0x203004 32 1)
  else (0, { s with boot := { s.boot with flash := { s.boot.flash with endorsement := value } } })

/-- A write of this device's ID (R298). -/
def State.writeDeviceId (s : State) (v : Nat) : Nat × State :=
  if (List.range 64).any fun p => [PortState.up, .joining, .lost].contains (s.port p).state then (6, s)
  else if 47 < v then (5, s)
  else (0, s.setReg 0x800001 v)

/-- A write of a scalar entry outside the contexts. -/
def State.writeScalar (s : State) (e : OdEntry) (v : Nat) : Nat × State :=
  if e.acc = 6 then s.command e.key v
  else if e.key = 0x800001 then s.writeDeviceId v
  else if !inRange e.key v then (5, s)
  else if e.acc = 3 then (0, s.setShadow e.key v)
  else (0, s.applyRw e.key v)

/-- A write of a BLOB, or of a TABLE's rows, outside the contexts. -/
def State.writeBytes (s : State) (e : OdEntry) (b : List Byte) : Nat × State :=
  match e.key with
  | 0x100103 => (0, { s with boot := { s.boot with token := b } })
  | 0x903001 => (0, { s with boot := { s.boot with nonce := some b } })
  | 0x903006 => s.writeEndorsement b
  | 0x823001 => (0, { s with messages := { s.messages with doorbells := ⟨(rowsOf 15 b).mapIdx fun i r => (i, timedRowOf r)⟩ } })
  | _ => if e.acc = 3 then (0, s.setBlobShadow e.key b) else (0, s.setBlob e.key b)

/-! ### Any entry -/

/-- Whether a value has the form of its entry's type (R417, R418): 0, or the status that refuses it. -/
def formStatus (e : OdEntry) (value : List Byte) : Nat :=
  if e.ty ≤ 10 then
    if value.length ≠ e.len then 3
    else if e.ty = 8 && 1 < leNat value then 5
    else if e.ty = 7 && fp32.decode (leNat value) = .nan then 5 else 0
  else if e.ty = 11 then
    if value.length = 0 || 64 < value.length then 3
    else if value.all fun b => 0x20 ≤ b.toNat && b.toNat ≤ 0x7E then 0 else 5
  else if e.ty = 12 then (if value.length ≤ e.len && (!e.exact || value.length = e.len) then 0 else 3)
  else
    let rows := field value 0 2
    if 8 ≤ value.length && field value 2 2 = e.row && e.low ≤ rows && rows ≤ e.high && value.length = 8 + rows * e.row then 0
    else 3

/-- A write of an entry: the transaction status and the state after it. -/
def State.writeEntry (s : State) (index sub : Nat) (value : List Byte) : Nat × State :=
  match entryAt index sub with
  | none => (2, s)
  | some e =>
    if e.acc = 1 then (4, s)
    else if formStatus e value ≠ 0 then (formStatus e value, s)
    else
      match contextIndex index with
      | some x => s.writeContext x sub value
      | none =>
        if e.ty ≤ 10 then s.writeScalar e (leNat value)
        else s.writeBytes e (if e.ty = 13 then value.drop 8 else value)

end Sys2Proof.Machine
end

