-- ==== Sys2Proof/Machine/Control.lean ====
section
/-! DEFINITION. The Krytae ports, transactions on the object dictionary and their forwarding to other dies (R409 to R415, R422,
R446), events that dies send, and the table commits (R423, R487). -/

namespace Sys2Proof.Machine

/-! ### Krytae ports (R409) -/

/-- KRYTAE_PORT_DOWN (R409): nothing has been heard for 20 µs. -/
def execKrytaePortDown (k : Nat) (s : State) : Result :=
  let p := s.krytae k
  if p.state = .down || s.now < p.lastHeard + 20000 then .next s
  else .next (s.modKrytae k fun p => { p with state := .down, changed := s.now })

/-- A port's training has ended (R190, R410): SEQs and credits start afresh, and what had no acknowledgement goes again. -/
def Krytae.trained (p : Krytae) (now : Nat) : Krytae :=
  Krytae.drain
    { p with
      state := .up
      nextSeq := 0
      spent := 0
      credited := 0
      rxSeq := 0
      freed := 0
      rxReported := 0
      replay := []
      waiting := p.replay.map (·.2.2) ++ p.waiting
      lastHeard := now
      changed := now }

/-- KRYTAE_PORT_TRAINING (R409): light is present at both ends of a DOWN port; its training ends. The first training after a
start is not counted. -/
def execKrytaePortTraining (k : Nat) (done : Bool) (s : State) : Result :=
  let p := s.krytae k
  if p.state = .down && !done then
    .next (s.modKrytae k fun p =>
      { p with
        state := .training
        retrains := if p.everTrained then satAdd 32 p.retrains 1 else p.retrains
        everTrained := true
        lastHeard := s.now
        changed := s.now })
  else if p.state = .training && done then
    .next (s.modKrytae k fun p => p.trained s.now)
  else .next s

/-! ### The response cache (R413) -/

/-- The TIDs that the cache holds, last answered first. -/
def cachedTids (l : List Cached) : List Word32 := (l.map (·.tid)).eraseDups

/-- Keep the entries of the last 1,024 TIDs answered. -/
def trimCache (l : List Cached) : List Cached := l.filter fun e => ((cachedTids l).take 1024).contains e.tid

/-- Whether a TID is older than every cached one (R413, R289). -/
def staleTid (l : List Cached) (tid : Word32) : Bool := l ≠ [] && l.all fun e => ridOlder tid e.tid

/-- The cached response to a request; for a chunk of a BLOCK_WRITE, that of its TID and OFFSET. -/
def cachedResponse (l : List Cached) (tid : Word32) (chunk : Option Nat) : Option Cached :=
  l.find? fun e => e.tid = tid && (chunk = none || e.chunk = none || e.chunk = chunk)

/-- The port that a response leaves on (R413): the one of its request, or the other if that is DOWN. -/
def State.replyPort (s : State) (p : Nat) : Nat := if (s.krytae p).state = .down then 1 - p else p

/-- Send a response to a transaction of a TYPE (R412); the cache keeps it unless it is stale or busy. -/
def State.answer (s : State) (type : Nat) (t : Transaction) (chunk : Option Nat) (status : Nat) (value : List Byte) : State :=
  let s1 := s.emit (.response (s.replyPort t.port) type t status value)
  if status = 9 || status = 10 then s1
  else
    let e : Cached := { tid := t.tid, chunk := chunk, status := status, value := value }
    { s1 with control := { s1.control with cache := trimCache (e :: s1.control.cache) } }

/-- Count a transaction that is applied (OD 0xB030.02). -/
def State.countApplied (s : State) : State := s.countReg 0xB03002 64 1

/-! ### Transactions (R412 to R415) -/

/-- Whether a request reaches a hub that answers: its port is UP and the hub runs. -/
def State.hears (s : State) (t : Transaction) : Bool := (s.krytae t.port).state = .up && !s.boot.halted && !s.boot.rigLost

/-- A request's arrival: the port has been heard, and the input is numbered (R409, R411, R426). -/
def State.arrive (s : State) (t : Transaction) : State :=
  (s.heardKrytae t.port (if t.value.length ≤ 64 then 1 else flitsOf t.value.length)).hubInput

/-- Whether service mode serves an index (R446). -/
def State.serves (s : State) (index : Nat) : Bool := !s.boot.serviceMode || index / 4096 = 1 || index / 4096 = 9

/-- Whether the first 64 transactions are still in progress (R415). -/
def State.busy (s : State) : Bool := 64 ≤ s.control.forwards.length + s.control.blocks.length

/-- Whether a transaction of this TID is in progress at another die. -/
def State.inProgress (s : State) (tid : Word32) : Bool := s.control.forwards.any fun f => f.transaction.tid = tid

/-- What a transaction does at the die that holds its entry. -/
def State.access (s : State) (kind : AccessKind) (t : Transaction) (value : List Byte) : Nat × List Byte × State :=
  match kind with
  | .read => s.readEntry t.index t.sub t.shadow
  | .write => let (st, s1) := s.writeEntry t.index t.sub value; (st, [], s1)
  | .blockRead => s.readBlock t.index t.sub t.offset t.length

/-- The site that holds an index outside the hub (R422, R484): the lowest tower whose die is READY, that of a per-tower entry, the
rig at the hub site, or the first edge group. None while no such die is READY. -/
def State.holderSiteOf (s : State) (index sub : Nat) : Option Nat :=
  if index / 4096 = 5 then
    if 0x5010 ≤ index && index ≤ 0x5013 && 1 ≤ sub && sub ≤ 4 then
      (if (s.die (0x10 + (sub - 1))).state = .ready then some (sub - 1) else none)
    else (List.range 4).find? fun t => (s.die (0x10 + t)).state = .ready
  else if index / 4096 = 6 then (List.range 4).find? fun t => (s.die (0x20 + t)).state = .ready
  else if index / 4096 = 8 then some 7
  else some 4

/-- What a transaction of a TYPE does to its entry (R412). -/
def accessOf (type : Nat) : AccessKind := if type = 1 then .read else if type = 4 then .blockRead else .write

/-- An access leaves for the die that holds its entry (R422): OD_FWD with the operation and a value of up to 48 bytes; a longer value
goes first, on SYS. -/
def State.sendForward (s : State) (site : Nat) (f : Forward) : State :=
  let t := f.transaction
  let short := f.value.length ≤ 48
  let s1 := if short then s else s.emit (.systemTransfer site f.value)
  s1.emit (.control site 2 ([t.index, t.sub, f.type] ++ (if short then f.value.map (·.toNat) else []) ++ [s.control.epoch]))

/-- Apply a transaction (R414, R422): at the hub it is answered at once; an entry held elsewhere is forwarded on CTRL. -/
def State.perform (s : State) (type : Nat) (t : Transaction) (value : List Byte) (chunk : Option Nat) : State :=
  let s1 := s.countApplied
  if heldOutside t.index && (entryAt t.index t.sub).isSome then
    let f : Forward := { transaction := t, type := type, value := value, chunk := chunk, answered := none }
    ({ s1 with control := { s1.control with forwards := s1.control.forwards ++ [f] } }).sendForward
      ((s1.holderSiteOf t.index t.sub).getD 4) f
  else
    let (st, v, s2) := s1.access (accessOf type) t value
    s2.answer type t chunk st v

/-- The rules that every request of a TYPE passes before it is applied (R413, R415, R446): the cache, stale TIDs, requests already in
progress, service mode, and 64 in progress. -/
def State.request (s : State) (type : Nat) (t : Transaction) (chunk : Option Nat) (fresh : Bool) (act : State → State) : State :=
  if !s.hears t then s
  else
    let s1 := s.arrive t
    match cachedResponse s1.control.cache t.tid chunk with
    | some c => (s1.countReg 0xB03003 64 1).emit (.response (s1.replyPort t.port) type t c.status c.value)
    | none =>
      if fresh && staleTid s1.control.cache t.tid then (s1.countReg 0xB03004 32 1).answer type t chunk 9 []
      else if s1.inProgress t.tid then s1
      else if !s1.serves t.index || (fresh && s1.busy) then s1.answer type t chunk 10 []
      else act s1

/-- OD_READ (R412). -/
def execOdRead (t : Transaction) (s : State) : Result := .next (s.request 1 t none true fun s => s.perform 1 t [] none)

/-- OD_WRITE (R412): at most 4,096 bytes. -/
def execOdWrite (t : Transaction) (s : State) : Result :=
  .next (s.request 2 t none true fun s =>
    if 4096 < t.value.length then s.countApplied.answer 2 t none 3 [] else s.perform 2 t t.value none)

/-- BLOCK_READ (R412). -/
def execBlockRead (t : Transaction) (s : State) : Result :=
  .next (s.request 4 t none true fun s => s.perform 4 t [] none)

/-- DOORBELL (R412, R118): the value's bytes 0 and 1 name the context, bytes 4 to 7 the producer index. -/
def execDoorbell (t : Transaction) (s : State) : Result :=
  let x := field t.value 0 2
  let w : Transaction := { t with index := 0x7000 + x, sub := 5 }
  .next (s.request 5 w none true fun s =>
    if t.value.length < 8 then s.countApplied.answer 5 t none 3 []
    else if 1023 < x then s.countApplied.answer 5 t none 2 []
    else s.perform 5 w (subBytes t.value 4 4) none)

/-! ### BLOCK_WRITE (R412, R413) -/

/-- The value under assembly for a TID. -/
def State.blockOf (s : State) (tid : Word32) : Option BlockRun := s.control.blocks.find? fun b => b.tid = tid

/-- Discard the chunks of a TID. -/
def State.dropBlock (s : State) (tid : Word32) : State :=
  { s with control := { s.control with blocks := s.control.blocks.filter fun b => b.tid ≠ tid } }

/-- Whether a chunk is the next in order of the value that its TID assembles. -/
def chunkInOrder (b : Option BlockRun) (t : Transaction) : Bool :=
  match b with
  | some b => t.offset = b.bytes.length && t.index = b.index && t.sub = b.sub
  | none => t.offset = 0

/-- The status that refuses a chunk: out of order or malformed, no such entry, or an entry that takes no such value. -/
def chunkStatus (b : Option BlockRun) (t : Transaction) : Nat :=
  if !chunkInOrder b t || 4096 < t.value.length || 16777216 < t.offset + t.value.length then 3
  else
    match entryAt t.index t.sub with
    | none => 2
    | some e => if e.acc = 1 then 4 else if e.ty < 12 then 3 else 0

/-- Take one chunk: kept until the last, which applies the whole value. -/
def State.takeChunk (s : State) (t : Transaction) : State :=
  let run := s.blockOf t.tid
  let st := chunkStatus run t
  let s1 := s.dropBlock t.tid
  if st ≠ 0 then s1.answer 3 t (some t.offset) st []
  else
    let bytes := (match run with | some b => b.bytes | none => []) ++ t.value
    if t.more then
      let b : BlockRun := { tid := t.tid, index := t.index, sub := t.sub, bytes := bytes }
      ({ s1 with control := { s1.control with blocks := b :: s1.control.blocks } }).answer 3 t (some t.offset) 0 []
    else s1.perform 3 t bytes (some t.offset)

/-- BLOCK_WRITE (R412, R413). -/
def execBlockWrite (t : Transaction) (s : State) : Result :=
  .next (s.request 3 t (some t.offset) (s.blockOf t.tid).isNone fun s => s.takeChunk t)

/-! ### Forwarded accesses (R422) -/

/-- OD_FWD (R422): the die performs the access at position `position` of those in progress, while it is READY. -/
def execOdFwd (position : Nat) (s : State) : Result :=
  match s.control.forwards[position]? with
  | none => .next s
  | some f =>
    let t := f.transaction
    if f.answered.isSome || (s.holderSiteOf t.index t.sub).isNone then .next s
    else
      let (st, v, s1) := s.access (accessOf f.type) t f.value
      .next { s1 with control := { s1.control with
        forwards := setAt position ({ f with answered := some (st, v) } : Forward) s1.control.forwards } }

/-- OD_RSP (R422): the die's answer reaches the hub, and the transaction is answered. -/
def execOdRsp (position : Nat) (s : State) : Result :=
  match s.control.forwards[position]? with
  | none => .next s
  | some f =>
    match f.answered with
    | none => .next s
    | some (st, v) =>
      if s.boot.halted then .next s
      else
        let s1 := s.hubInput
        .next (({ s1 with control := { s1.control with forwards := dropAt position s1.control.forwards } }).answer f.type
          f.transaction f.chunk st v)

/-! ### Other commands -/

/-- GENERIC_OD_WRITE (R419): a write to an entry by its access class. -/
def execGenericOdWrite (index sub : Nat) (value : List Byte) (s : State) : Result :=
  if s.boot.halted || s.boot.rigLost || !s.serves index then .next s else .next (s.writeEntry index sub value).2

/-- STATUS (R412): once in every 1 ms of global time, on both ports. -/
def execStatus (s : State) : Result :=
  if s.boot.halted || s.boot.rigLost || s.now / 1000000 ≤ s.control.lastStatus then .next s
  else
    let s1 := { s with control := { s.control with lastStatus := s.now / 1000000 } }
    .next (s1.emit (.statusFrame s.fuses.serial (s.activeComplex.getD (s.reg 0xB00101)) s.control.epoch s.control.events.count))

/-- EVENT (R424): an event of R493 that a die or the rig raises. -/
def execEvent (e : EventIn) (s : State) : Result :=
  if !eventCodes.contains e.code || s.boot.rigLost then .next s
  else
    let sev := if e.code = 0x1409 || e.code = 0x1A04 then e.severity else eventSeverity e.code
    let e1 : EventIn := { e with severity := sev }
    if s.boot.halted then
      .next (s.slate e1.unit e1.code e1.ctx { ctx := e1.ctx, layer := e1.layer, operator := e1.operator, step := e1.step } e1.detail)
    else .next (s.hubInput.raiseEvent e1)

/-- TABLE_COMMIT (R423). -/
def execTableCommit (s : State) : Result := .next s.tableLoad

/-- TABLE_RESTORE (R423, R491): 0x100 + t. -/
def execTableRestore (value : Nat) (s : State) : Result := .next (if value < 0x100 then s else s.tableRestore (value - 0x100))

/-- EMPTY_BLOCK_COMMIT (R487): it completes at once with no effect. -/
def execEmptyBlockCommit (_index _value : Nat) (s : State) : Result := .next s

end Sys2Proof.Machine
end

