-- ==== Sys2Proof/Machine/Dispatch.lean ====
section
/-! DEFINITION. The meaning of every command: one arm per constructor, each a direct call. -/

namespace Sys2Proof.Machine

def exec (i : Instr) (s : State) : Host.Outcome State Fault Refusal :=
  match i with
  | .producerIndexWrite x value => Sys2Proof.Machine.execProducerIndexWrite x value s
  | .descriptorFetch x => Sys2Proof.Machine.execDescriptorFetch x s
  | .commandStart x c => Sys2Proof.Machine.execCommandStart x c s
  | .nop x c => Sys2Proof.Machine.execNop x c s
  | .run x c => Sys2Proof.Machine.execRun x c s
  | .copy x c => Sys2Proof.Machine.execCopy x c s
  | .tallySet x c => Sys2Proof.Machine.execTallySet x c s
  | .cbLoad x c => Sys2Proof.Machine.execCbLoad x c s
  | .curveLoad x c => Sys2Proof.Machine.execCurveLoad x c s
  | .collective x c => Sys2Proof.Machine.execCollective x c s
  | .fence x c => Sys2Proof.Machine.execFence x c s
  | .send x c edge => Sys2Proof.Machine.execSend x c edge s
  | .yield x c => Sys2Proof.Machine.execYield x c s
  | .memberPartComplete x c => Sys2Proof.Machine.execMemberPartComplete x c s
  | .entryNop c => Sys2Proof.Machine.execEntryNop c s
  | .issue c reading => Sys2Proof.Machine.execIssue c reading s
  | .waitTally c => Sys2Proof.Machine.execWaitTally c s
  | .waitEngines c => Sys2Proof.Machine.execWaitEngines c s
  | .inc c => Sys2Proof.Machine.execInc c s
  | .loop c => Sys2Proof.Machine.execLoop c s
  | .mark c => Sys2Proof.Machine.execMark c s
  | .endOp c => Sys2Proof.Machine.execEndOp c s
  | .waitLimitExpiry c => Sys2Proof.Machine.execWaitLimitExpiry c s
  | .engineOpStart c e drainQueue => Sys2Proof.Machine.execEngineOpStart c e drainQueue s
  | .mma c span ns portWait => Sys2Proof.Machine.execMma c span ns portWait s
  | .mmaComplete tail => Sys2Proof.Machine.execMmaComplete tail s
  | .drain c => Sys2Proof.Machine.execDrain c s
  | .drainComplete c => Sys2Proof.Machine.execDrainComplete c s
  | .veOp c => Sys2Proof.Machine.execVeOp c s
  | .aeOp c => Sys2Proof.Machine.execAeOp c s
  | .xeOp c => Sys2Proof.Machine.execXeOp c s
  | .geOp c indices => Sys2Proof.Machine.execGeOp c indices s
  | .ceCopy c place bytes => Sys2Proof.Machine.execCeCopy c place bytes s
  | .qeOp c => Sys2Proof.Machine.execQeOp c s
  | .engineOpComplete c e place took => Sys2Proof.Machine.execEngineOpComplete c e place took s
  | .engineSuspend c e => Sys2Proof.Machine.execEngineSuspend c e s
  | .meProgressRecord c => Sys2Proof.Machine.execMeProgressRecord c s
  | .reefPause c panel => Sys2Proof.Machine.execReefPause c panel s
  | .reefPauseEnd c panel => Sys2Proof.Machine.execReefPauseEnd c panel s
  | .rateWindowEnd => Sys2Proof.Machine.execRateWindowEnd s
  | .meshRequest r => Sys2Proof.Machine.execMeshRequest r s
  | .tallyIncrement c tally amount => Sys2Proof.Machine.execTallyIncrement c tally amount s
  | .openOp x => Sys2Proof.Machine.execOpenOp x s
  | .close x => Sys2Proof.Machine.execClose x s
  | .closeComplete x => Sys2Proof.Machine.execCloseComplete x s
  | .resume x => Sys2Proof.Machine.execResume x s
  | .park x => Sys2Proof.Machine.execPark x s
  | .detach x => Sys2Proof.Machine.execDetach x s
  | .attach x => Sys2Proof.Machine.execAttach x s
  | .periodEnd x => Sys2Proof.Machine.execPeriodEnd x s
  | .idlePark x => Sys2Proof.Machine.execIdlePark x s
  | .schedulerBind hubClusters => Sys2Proof.Machine.execSchedulerBind hubClusters s
  | .saveStart x => Sys2Proof.Machine.execSaveStart x s
  | .saveComplete x => Sys2Proof.Machine.execSaveComplete x s
  | .restoreComplete x => Sys2Proof.Machine.execRestoreComplete x s
  | .inboundRequest r => Sys2Proof.Machine.execInboundRequest r s
  | .loaderCommit value => Sys2Proof.Machine.execLoaderCommit value s
  | .loaderApply => Sys2Proof.Machine.execLoaderApply s
  | .arithmeticCommit value => Sys2Proof.Machine.execArithmeticCommit value s
  | .homeSliceAccess a => Sys2Proof.Machine.execHomeSliceAccess a s
  | .correctedWriteback word => Sys2Proof.Machine.execCorrectedWriteback word s
  | .hbmScrub store word upset passEnds => Sys2Proof.Machine.execHbmScrub store word upset passEnds s
  | .hbmTemperatureRead stack centi parityRepeats => Sys2Proof.Machine.execHbmTemperatureRead stack centi parityRepeats s
  | .memoryCommit value => Sys2Proof.Machine.execMemoryCommit value s
  | .partitionChange t => Sys2Proof.Machine.execPartitionChange t s
  | .partitionChangeEnd t => Sys2Proof.Machine.execPartitionChangeEnd t s
  | .packetAdmit src position lane => Sys2Proof.Machine.execPacketAdmit src position lane s
  | .packetDelivery src dst vc noise => Sys2Proof.Machine.execPacketDelivery src dst vc noise s
  | .flitUncorrectable path cause => Sys2Proof.Machine.execFlitUncorrectable path cause s
  | .linkControlFlit via f => Sys2Proof.Machine.execLinkControlFlit via f s
  | .ackInterval site => Sys2Proof.Machine.execAckInterval site s
  | .laneRetrain slot lane success => Sys2Proof.Machine.execLaneRetrain slot lane success s
  | .standingPathDown src dst => Sys2Proof.Machine.execStandingPathDown src dst s
  | .laneTraining slot lane => Sys2Proof.Machine.execLaneTraining slot lane s
  | .bulkWrite site => Sys2Proof.Machine.execBulkWrite site s
  | .mcReserve site => Sys2Proof.Machine.execMcReserve site s
  | .mcGrant site => Sys2Proof.Machine.execMcGrant site s
  | .mcCancel site => Sys2Proof.Machine.execMcCancel site s
  | .mcWrite site => Sys2Proof.Machine.execMcWrite site s
  | .multicastTimeout src tag => Sys2Proof.Machine.execMulticastTimeout src tag s
  | .guestPacket g p wellFormedHeader => Sys2Proof.Machine.execGuestPacket g p wellFormedHeader s
  | .planCommit value => Sys2Proof.Machine.execPlanCommit value s
  | .tackRequest plan => Sys2Proof.Machine.execTackRequest plan s
  | .tackStart => Sys2Proof.Machine.execTackStart s
  | .tackQuiesced => Sys2Proof.Machine.execTackQuiesced s
  | .tackRetuned failed wrong => Sys2Proof.Machine.execTackRetuned failed wrong s
  | .tackDone => Sys2Proof.Machine.execTackDone s
  | .claimHoldoffExpiry => Sys2Proof.Machine.execClaimHoldoffExpiry s
  | .collectiveJoin ttPtr => Sys2Proof.Machine.execCollectiveJoin ttPtr s
  | .joinLimitExpiry ttPtr => Sys2Proof.Machine.execJoinLimitExpiry ttPtr s
  | .phaseGo t => Sys2Proof.Machine.execPhaseGo t s
  | .transferIssue coll participant => Sys2Proof.Machine.execTransferIssue coll participant s
  | .phaseSent coll t => Sys2Proof.Machine.execPhaseSent coll t s
  | .transferConfirm coll transfer => Sys2Proof.Machine.execTransferConfirm coll transfer s
  | .redAddFp32 site => Sys2Proof.Machine.execRedAddFp32 site s
  | .redAddBf16 site => Sys2Proof.Machine.execRedAddBf16 site s
  | .lineEvaluation bar laser fall => Sys2Proof.Machine.execLineEvaluation bar laser fall s
  | .backFacetSample samples => Sys2Proof.Machine.execBackFacetSample samples s
  | .abruptLaserFailure bar laser => Sys2Proof.Machine.execAbruptLaserFailure bar laser s
  | .spareReady bar spare => Sys2Proof.Machine.execSpareReady bar spare s
  | .crossfadeStep bar => Sys2Proof.Machine.execCrossfadeStep bar s
  | .swapRetire bar => Sys2Proof.Machine.execSwapRetire bar s
  | .swapDone bar => Sys2Proof.Machine.execSwapDone bar s
  | .spareRampStep bar laser output => Sys2Proof.Machine.execSpareRampStep bar laser output s
  | .kRemeasure bank k => Sys2Proof.Machine.execKRemeasure bank k s
  | .calibrationPass bank averages => Sys2Proof.Machine.execCalibrationPass bank averages s
  | .referenceCompare rigMicrovolt hubMicrovolt => Sys2Proof.Machine.execReferenceCompare rigMicrovolt hubMicrovolt s
  | .toneWindow element seen => Sys2Proof.Machine.execToneWindow element seen s
  | .trimLimit element => Sys2Proof.Machine.execTrimLimit element s
  | .relockSweepEnd element peak => Sys2Proof.Machine.execRelockSweepEnd element peak s
  | .relockVerified element confirmed => Sys2Proof.Machine.execRelockVerified element confirmed s
  | .relockRetry element => Sys2Proof.Machine.execRelockRetry element s
  | .laneNarrow slot lane => Sys2Proof.Machine.execLaneNarrow slot lane s
  | .laneNarrowRetrain slot lane => Sys2Proof.Machine.execLaneNarrowRetrain slot lane s
  | .photonicCalibrationCopy => Sys2Proof.Machine.execPhotonicCalibrationCopy s
  | .reCommission value => Sys2Proof.Machine.execReCommission value s
  | .elementSelect element => Sys2Proof.Machine.execElementSelect element s
  | .domainCommit value => Sys2Proof.Machine.execDomainCommit value s
  | .portTraining port step => Sys2Proof.Machine.execPortTraining port step s
  | .portHeartbeatLoss port => Sys2Proof.Machine.execPortHeartbeatLoss port s
  | .resetNotice port => Sys2Proof.Machine.execResetNotice port s
  | .windowCommit value => Sys2Proof.Machine.execWindowCommit value s
  | .domainRequestIssue x c r => Sys2Proof.Machine.execDomainRequestIssue x c r s
  | .requestArrival port r => Sys2Proof.Machine.execRequestArrival port r s
  | .load position => Sys2Proof.Machine.execLoad position s
  | .store position => Sys2Proof.Machine.execStore position s
  | .tallyInc position => Sys2Proof.Machine.execTallyInc position s
  | .dmcWrite edge => Sys2Proof.Machine.execDmcWrite edge s
  | .add position => Sys2Proof.Machine.execAdd position s
  | .min position => Sys2Proof.Machine.execMin position s
  | .max position => Sys2Proof.Machine.execMax position s
  | .swap position => Sys2Proof.Machine.execSwap position s
  | .cas position => Sys2Proof.Machine.execCas position s
  | .or position => Sys2Proof.Machine.execOr position s
  | .and position => Sys2Proof.Machine.execAnd position s
  | .fadd32 position => Sys2Proof.Machine.execFadd32 position s
  | .badd16 position => Sys2Proof.Machine.execBadd16 position s
  | .iadd32 position => Sys2Proof.Machine.execIadd32 position s
  | .lineQueueApply line => Sys2Proof.Machine.execLineQueueApply line s
  | .loadData port rsp => Sys2Proof.Machine.execLoadData port rsp s
  | .ack port rsp => Sys2Proof.Machine.execAck port rsp s
  | .old port rsp => Sys2Proof.Machine.execOld port rsp s
  | .retry port rsp => Sys2Proof.Machine.execRetry port rsp s
  | .error port rsp => Sys2Proof.Machine.execError port rsp s
  | .expired port rsp => Sys2Proof.Machine.execExpired port rsp s
  | .ticketReservationExpiry line => Sys2Proof.Machine.execTicketReservationExpiry line s
  | .ticketLapse line ticket => Sys2Proof.Machine.execTicketLapse line ticket s
  | .unticketedRetryResend handle => Sys2Proof.Machine.execUnticketedRetryResend handle s
  | .replyCacheExpiry device entry => Sys2Proof.Machine.execReplyCacheExpiry device entry s
  | .requestResend port => Sys2Proof.Machine.execRequestResend port s
  | .requestDeadline handle => Sys2Proof.Machine.execRequestDeadline handle s
  | .message arrival m => Sys2Proof.Machine.execMessage arrival m s
  | .messageDelivery t => Sys2Proof.Machine.execMessageDelivery t s
  | .msgDone edge id n => Sys2Proof.Machine.execMsgDone edge id n s
  | .messageDeadline edge entry => Sys2Proof.Machine.execMessageDeadline edge entry s
  | .hopHoldExpiry port mseq => Sys2Proof.Machine.execHopHoldExpiry port mseq s
  | .routeCommit value => Sys2Proof.Machine.execRouteCommit value s
  | .inboxCommit value => Sys2Proof.Machine.execInboxCommit value s
  | .agreementCommit value => Sys2Proof.Machine.execAgreementCommit value s
  | .hello port h => Sys2Proof.Machine.execHello port h s
  | .join port => Sys2Proof.Machine.execJoin port s
  | .leave port => Sys2Proof.Machine.execLeave port s
  | .leaveArrival port => Sys2Proof.Machine.execLeaveArrival port s
  | .digestSend => Sys2Proof.Machine.execDigestSend s
  | .digest port digest epoch level => Sys2Proof.Machine.execDigest port digest epoch level s
  | .digestTimeout port => Sys2Proof.Machine.execDigestTimeout port s
  | .timeReq port t1 => Sys2Proof.Machine.execTimeReq port t1 s
  | .timeRsp port t1 t2 t3 t4 => Sys2Proof.Machine.execTimeRsp port t1 t2 t3 t4 s
  | .timedDoorbell row => Sys2Proof.Machine.execTimedDoorbell row s
  | .staySuspect link counts => Sys2Proof.Machine.execStaySuspect link counts s
  | .stayRepair link stay badBonds => Sys2Proof.Machine.execStayRepair link stay badBonds s
  | .repairLogWrite => Sys2Proof.Machine.execRepairLogWrite s
  | .widthAgreement link near1 near2 near3 far1 far2 far3 training => Sys2Proof.Machine.execWidthAgreement link near1 near2 near3 far1 far2 far3 training s
  | .dieReset die => Sys2Proof.Machine.execDieReset die s
  | .kdFence t => Sys2Proof.Machine.execKdFence t s
  | .kdFenced t => Sys2Proof.Machine.execKdFenced t s
  | .fenceTimeout die => Sys2Proof.Machine.execFenceTimeout die s
  | .abruptReset die => Sys2Proof.Machine.execAbruptReset die s
  | .kdReady t => Sys2Proof.Machine.execKdReady t s
  | .cdParkTimeout t => Sys2Proof.Machine.execCdParkTimeout t s
  | .hubHalt => Sys2Proof.Machine.execHubHalt s
  | .dieClockLoss die => Sys2Proof.Machine.execDieClockLoss die s
  | .ask holder milliwatt => Sys2Proof.Machine.execAsk holder milliwatt s
  | .grant holder seq milliwatt epoch => Sys2Proof.Machine.execGrant holder seq milliwatt epoch s
  | .returnOp holder milliwatt => Sys2Proof.Machine.execReturnOp holder milliwatt s
  | .budgetAck holder milliwatt => Sys2Proof.Machine.execBudgetAck holder milliwatt s
  | .grantRepeat holder => Sys2Proof.Machine.execGrantRepeat holder s
  | .hubSilence holder => Sys2Proof.Machine.execHubSilence holder s
  | .ucieInitialisation g modules gts => Sys2Proof.Machine.execUcieInitialisation g modules gts s
  | .capabilityBlock g block => Sys2Proof.Machine.execCapabilityBlock g block s
  | .gdoor g => Sys2Proof.Machine.execGdoor g s
  | .guestRequest g r => Sys2Proof.Machine.execGuestRequest g r s
  | .hallPassRevoke g cause => Sys2Proof.Machine.execHallPassRevoke g cause s
  | .revokeHallPass value => Sys2Proof.Machine.execRevokeHallPass value s
  | .clearLocked value => Sys2Proof.Machine.execClearLocked value s
  | .guestWindowCommit value => Sys2Proof.Machine.execGuestWindowCommit value s
  | .refclkLoss input => Sys2Proof.Machine.execRefclkLoss input s
  | .failoverPullEnd ppb => Sys2Proof.Machine.execFailoverPullEnd ppb s
  | .holdoverTimeout => Sys2Proof.Machine.execHoldoverTimeout s
  | .refclkGood input => Sys2Proof.Machine.execRefclkGood input s
  | .referenceFrequencyCheck ppb => Sys2Proof.Machine.execReferenceFrequencyCheck ppb s
  | .referenceSelect value => Sys2Proof.Machine.execReferenceSelect value s
  | .clockCommit value => Sys2Proof.Machine.execClockCommit value s
  | .zoneIdle zone => Sys2Proof.Machine.execZoneIdle zone s
  | .droopTrip region millivolt => Sys2Proof.Machine.execDroopTrip region millivolt s
  | .stepDownHoldEnd region => Sys2Proof.Machine.execStepDownHoldEnd region s
  | .zoneLockLoss zone => Sys2Proof.Machine.execZoneLockLoss zone s
  | .zoneRelock zone => Sys2Proof.Machine.execZoneRelock zone s
  | .zoneRelockTimeout zone => Sys2Proof.Machine.execZoneRelockTimeout zone s
  | .syncWord die difference checkGood => Sys2Proof.Machine.execSyncWord die difference checkGood s
  | .zoneTimeReload zone => Sys2Proof.Machine.execZoneTimeReload zone s
  | .timeMasterCheckFail hubCopy => Sys2Proof.Machine.execTimeMasterCheckFail hubCopy s
  | .powerCommit value => Sys2Proof.Machine.execPowerCommit value s
  | .powerManagerTick t milliwatt matrixMilliwatt => Sys2Proof.Machine.execPowerManagerTick t milliwatt matrixMilliwatt s
  | .kdPacingStep t milliwatt => Sys2Proof.Machine.execKdPacingStep t milliwatt s
  | .coreSupplyRead t millivolt => Sys2Proof.Machine.execCoreSupplyRead t millivolt s
  | .thermalSample e readings => Sys2Proof.Machine.execThermalSample e readings s
  | .thermalRestart code => Sys2Proof.Machine.execThermalRestart code s
  | .flashWriteRetry => Sys2Proof.Machine.execFlashWriteRetry s
  | .odRead t => Sys2Proof.Machine.execOdRead t s
  | .odWrite t => Sys2Proof.Machine.execOdWrite t s
  | .blockWrite t => Sys2Proof.Machine.execBlockWrite t s
  | .blockRead t => Sys2Proof.Machine.execBlockRead t s
  | .doorbell t => Sys2Proof.Machine.execDoorbell t s
  | .genericOdWrite index sub value => Sys2Proof.Machine.execGenericOdWrite index sub value s
  | .status => Sys2Proof.Machine.execStatus s
  | .krytaePortDown k => Sys2Proof.Machine.execKrytaePortDown k s
  | .krytaePortTraining k done => Sys2Proof.Machine.execKrytaePortTraining k done s
  | .odFwd position => Sys2Proof.Machine.execOdFwd position s
  | .odRsp position => Sys2Proof.Machine.execOdRsp position s
  | .event e => Sys2Proof.Machine.execEvent e s
  | .heartbeat complex selfTest => Sys2Proof.Machine.execHeartbeat complex selfTest s
  | .heartbeatMiss complex standing => Sys2Proof.Machine.execHeartbeatMiss complex standing s
  | .takeover reason => Sys2Proof.Machine.execTakeover reason s
  | .divergence oseq => Sys2Proof.Machine.execDivergence oseq s
  | .complexDisplaced complex => Sys2Proof.Machine.execComplexDisplaced complex s
  | .resync complex step => Sys2Proof.Machine.execResync complex step s
  | .handOver => Sys2Proof.Machine.execHandOver s
  | .resynchroniseTwin => Sys2Proof.Machine.execResynchroniseTwin s
  | .twinOffline => Sys2Proof.Machine.execTwinOffline s
  | .controlCommit value => Sys2Proof.Machine.execControlCommit value s
  | .controlCycleEnd => Sys2Proof.Machine.execControlCycleEnd s
  | .tableCommit => Sys2Proof.Machine.execTableCommit s
  | .tableRestore value => Sys2Proof.Machine.execTableRestore value s
  | .emptyBlockCommit index value => Sys2Proof.Machine.execEmptyBlockCommit index value s
  | .rstNLow heldNs => Sys2Proof.Machine.execRstNLow heldNs s
  | .powerLoss => Sys2Proof.Machine.execPowerLoss s
  | .railFault rail => Sys2Proof.Machine.execRailFault rail s
  | .coldStart cause obs => Sys2Proof.Machine.execColdStart cause obs s
  | .warmStart obs => Sys2Proof.Machine.execWarmStart obs s
  | .startRequestWarm => Sys2Proof.Machine.execStartRequestWarm s
  | .startRequestCold => Sys2Proof.Machine.execStartRequestCold s
  | .lifeCycleTransition target => Sys2Proof.Machine.execLifeCycleTransition target s
  | .fuseCopyRepair => Sys2Proof.Machine.execFuseCopyRepair s
  | .securityCommit value readBackGood => Sys2Proof.Machine.execSecurityCommit value readBackGood s
  | .attestationRequest value => Sys2Proof.Machine.execAttestationRequest value s
  | .bellRing source => Sys2Proof.Machine.execBellRing source s
  | .bellRelease => Sys2Proof.Machine.execBellRelease s
  | .bellRung => Sys2Proof.Machine.execBellRung s
  | .bellClear => Sys2Proof.Machine.execBellClear s
  | .triggerFire row => Sys2Proof.Machine.execTriggerFire row s
  | .scanOut offset length => Sys2Proof.Machine.execScanOut offset length s
  | .internalScan die => Sys2Proof.Machine.execInternalScan die s
  | .dumpPoint c row => Sys2Proof.Machine.execDumpPoint c row s
  | .traceRecord c => Sys2Proof.Machine.execTraceRecord c s
  | .dumpReset value => Sys2Proof.Machine.execDumpReset value s
  | .counterClear unit => Sys2Proof.Machine.execCounterClear unit s
  | .crowsNestSample interval => Sys2Proof.Machine.execCrowsNestSample interval s
  | .debugCommit value => Sys2Proof.Machine.execDebugCommit value s
  | .watchdogReset die => Sys2Proof.Machine.execWatchdogReset die s
  | .scanExit die => Sys2Proof.Machine.execScanExit die s
  | .railsBackInRange die => Sys2Proof.Machine.execRailsBackInRange die s
  | .helloRepeat port => Sys2Proof.Machine.execHelloRepeat port s
  | .zoneSlewEnd region => Sys2Proof.Machine.execZoneSlewEnd region s

end Sys2Proof.Machine
end

