-- ==== Sys2Proof/Machine/Step.lean ====
section
/-! DEFINITION. One step of the block: it takes the command at the front of its queue and performs it. -/

namespace Sys2Proof.Machine

/-- One step. With commands waiting, the first is taken and `exec` answers with the rest as the queue. With none, one
count of the time master passes (DESIGN CHOICE, log 5: the table has no row for the passing of time). -/
def step (s : State) : Host.Outcome State Fault Refusal :=
  match s.pending with
  | [] => .next s.tick
  | i :: rest => exec i { s with pending := rest }

/-- The state with the command that a table word spells put at the front of the queue. The table gives no row any
bits, so no word spells a command and the state is as it was. -/
def State.withFetchWord (s : State) (nbits w : Nat) : State :=
  match decodeTableWord nbits w with
  | some i => { s with pending := i :: s.pending }
  | none => s

end Sys2Proof.Machine
end

