-- ==== Sys2Proof/WellFormed.lean ====
section
/-! DEFINITION. Which commands are well formed: every number names something that the part has (R5, R20, R21, R37,
R110, R186, R238, R245, R274, R326, R329, R360, R396, R411). The meanings are total; an ill-formed command is one that
no sender of the part can form. -/

namespace Sys2Proof

/-- A context (R110). -/
def okCtx (x : Nat) : Bool := x < 1024
/-- A cluster (R37): 800 of them. -/
def okCluster (c : Nat) : Bool := c < 800
/-- A fibre port (R21). -/
def okPort (p : Nat) : Bool := p < 64
/-- A tower (R13). -/
def okTower (t : Nat) : Bool := t < 4
/-- A lamp bar (R24). -/
def okBar (b : Nat) : Bool := b < 12
/-- A laser of a bar (R238). -/
def okLaser (l : Nat) : Bool := l < 20
/-- A ring element ID (R245): 20 bits. -/
def okElement (e : Nat) : Bool := e < 0x100000
/-- A bank of rings: an element ID without its RING field (R245). -/
def okBank (b : Nat) : Bool := b < 0x10000
/-- A guest site (R5). -/
def okGuest (g : Nat) : Bool := g < 2
/-- One of a pair: a Krytae port, a control complex, a reference input, a hub copy. -/
def okPair (k : Nat) : Bool := k < 2
/-- An edge group (R20). -/
def okEdge (e : Nat) : Bool := e < 4
/-- An HBM3 stack (R149). -/
def okStack (k : Nat) : Bool := k < 24
/-- A zone, as 8 t + z (R366). -/
def okZone (z : Nat) : Bool := z < 32
/-- A site slot (R20), reserved slots among them. -/
def okSlot (s : Nat) : Bool := s < 16
/-- A lane of a site (R245). -/
def okLane (l : Nat) : Bool := l < 64
/-- A virtual channel (R194). -/
def okVc (v : Nat) : Bool := v < 8
/-- A byte. -/
def okByte (v : Nat) : Bool := v < 256
/-- A die code (R326) as a command can carry it. -/
def okDieCode (d : Nat) : Bool := d < 256
/-- A panel of a matrix engine (R45). -/
def okPanel (p : Nat) : Bool := p < 4
/-- A device of the domain (R261). -/
def okDevice (d : Nat) : Bool := d < 48
/-- An entry of a reply cache or of a message table (R289, R305). -/
def okEntry (e : Nat) : Bool := e < 4096
/-- A tally (R126). -/
def okTally (n : Nat) : Bool := n < 256
/-- A MSG_DONE status (R305). -/
def okStatus (v : Nat) : Bool := v < 256
/-- A dictionary index (R416). -/
def okIndex (i : Nat) : Bool := i < 0x10000
/-- A clock region (R360). -/
def okRegion : Region → Bool
  | .zone z => okZone z
  | .cacheDie t => okTower t
  | .hubHalf h => okPair h
/-- A thermal element (R396). -/
def okThermal : ThermalElement → Bool
  | .zone z => okZone z
  | .cacheDie t => okTower t
  | .hubHalf h => okPair h
  | .guest g => okGuest g
  | .lampBar b => okBar b
  | .stack k => okStack k
  | .rig => true
  | .coolant => true
  | .flash => true
/-- A supply rail (R498). -/
def okRail : Rail → Bool
  | .vcd t => okTower t
  | .vkd t => okTower t
  | .vddh t => okTower t
  | .vddqh t => okTower t
  | .vpph t => okTower t
  | .vgst g => okGuest g
  | .vhd => true
  | .vlmp => true
  | .vdrv => true
  | .vrig => true
  | .vhtr => true
  | .vaux => true
/-- A Krytae transaction (R411). -/
def okTransaction (t : Transaction) : Bool :=
  okPair t.port && okIndex t.index && okByte t.sub && t.length ≤ 4096 && t.value.length ≤ 4096
/-- A request (R186, R274): its fields within their widths. -/
def okReq (r : Req) : Bool := okByte r.op && r.ctx < 0x10000 && r.addr < 2 ^ 48 && r.len ≤ 4096 && r.data.length ≤ 4160
/-- A mesh request (R71). -/
def okMesh (r : MeshRequest) : Bool := okCluster r.src && okCluster r.dst && r.srcCtx < 0x10000 && r.ctx < 0x10000
/-- An error pattern of a codeword (R164): symbols 0 to 71. -/
def okPattern (p : ErrorPattern) : Bool := p.all fun e => e.1 < 72
/-- An access at a home slice (R154): within one line of 128 bytes. -/
def okAccess (a : Access) : Bool := okPattern a.upset && 1 ≤ a.len && a.offset % 128 + a.len ≤ 128
/-- A crosstalk matrix (R248): sixteen by sixteen. -/
def okMatrix (k : List (BitVec 32)) : Bool := k.length = 256
/-- An event as it reaches the hub (R424). -/
def okEvent (e : EventIn) : Bool := e.code < 0x10000 && okByte e.die && e.severity ≤ 3

/-- A well-formed command. -/
def Instr.wf : Instr → Bool
  | .producerIndexWrite x _ => okCtx x
  | .descriptorFetch x => okCtx x
  | .commandStart x c => okCtx x && okCluster c
  | .nop x c => okCtx x && okCluster c
  | .run x c => okCtx x && okCluster c
  | .copy x c => okCtx x && okCluster c
  | .tallySet x c => okCtx x && okCluster c
  | .cbLoad x c => okCtx x && okCluster c
  | .curveLoad x c => okCtx x && okCluster c
  | .collective x c => okCtx x && okCluster c
  | .fence x c => okCtx x && okCluster c
  | .send x c edge => okCtx x && okCluster c && okEdge edge
  | .yield x c => okCtx x && okCluster c
  | .memberPartComplete x c => okCtx x && okCluster c
  | .entryNop c => okCluster c
  | .issue c _ => okCluster c
  | .waitTally c => okCluster c
  | .waitEngines c => okCluster c
  | .inc c => okCluster c
  | .loop c => okCluster c
  | .mark c => okCluster c
  | .endOp c => okCluster c
  | .waitLimitExpiry c => okCluster c
  | .engineOpStart c _ _ => okCluster c
  | .mma c _ _ _ => okCluster c
  | .mmaComplete tail => okCluster tail.cluster
  | .drain c => okCluster c
  | .drainComplete c => okCluster c
  | .veOp c => okCluster c
  | .aeOp c => okCluster c
  | .xeOp c => okCluster c
  | .geOp c _ => okCluster c
  | .ceCopy c _ _ => okCluster c
  | .qeOp c => okCluster c
  | .engineOpComplete c _ _ took => okCluster c && took.waits.all fun w => w.1 < 15
  | .engineSuspend c _ => okCluster c
  | .meProgressRecord c => okCluster c
  | .reefPause c panel => okCluster c && okPanel panel
  | .reefPauseEnd c panel => okCluster c && okPanel panel
  | .rateWindowEnd => true
  | .meshRequest r => okMesh r
  | .tallyIncrement c tally _ => okCluster c && okTally tally
  | .openOp x => okCtx x
  | .close x => okCtx x
  | .closeComplete x => okCtx x
  | .resume x => okCtx x
  | .park x => okCtx x
  | .detach x => okCtx x
  | .attach x => okCtx x
  | .periodEnd x => okCtx x
  | .idlePark x => okCtx x
  | .schedulerBind _ => true
  | .saveStart x => okCtx x
  | .saveComplete x => okCtx x
  | .restoreComplete x => okCtx x
  | .inboundRequest r => okReq r
  | .loaderCommit _ => true
  | .loaderApply => true
  | .arithmeticCommit _ => true
  | .homeSliceAccess a => okAccess a
  | .correctedWriteback _ => true
  | .hbmScrub _ _ upset _ => okPattern upset
  | .hbmTemperatureRead stack _ _ => okStack stack
  | .memoryCommit _ => true
  | .partitionChange t => okTower t
  | .partitionChangeEnd t => okTower t
  | .packetAdmit src _ lane => okSlot src && okLane lane
  | .packetDelivery src dst vc noise => okSlot src && okSlot dst && okVc vc && noise.all fun e => e.wave < 16 && e.level < 4
  | .flitUncorrectable _ _ => true
  | .linkControlFlit _ _ => true
  | .ackInterval site => okSlot site
  | .laneRetrain slot lane _ => okSlot slot && okLane lane
  | .standingPathDown src dst => okSlot src && okSlot dst
  | .laneTraining slot lane => okSlot slot && okLane lane
  | .bulkWrite site => okSlot site
  | .mcReserve site => okSlot site
  | .mcGrant site => okSlot site
  | .mcCancel site => okSlot site
  | .mcWrite site => okSlot site
  | .multicastTimeout src _ => okSlot src
  | .guestPacket g _ _ => okGuest g
  | .planCommit _ => true
  | .tackRequest _ => true
  | .tackStart => true
  | .tackQuiesced => true
  | .tackRetuned _ _ => true
  | .tackDone => true
  | .claimHoldoffExpiry => true
  | .collectiveJoin _ => true
  | .joinLimitExpiry _ => true
  | .phaseGo t => okTower t
  | .transferIssue _ _ => true
  | .phaseSent _ t => okTower t
  | .transferConfirm _ _ => true
  | .redAddFp32 site => okSlot site
  | .redAddBf16 site => okSlot site
  | .lineEvaluation bar laser _ => okBar bar && okLaser laser
  | .backFacetSample _ => true
  | .abruptLaserFailure bar laser => okBar bar && okLaser laser
  | .spareReady bar spare => okBar bar && okLaser spare.laser
  | .crossfadeStep bar => okBar bar
  | .swapRetire bar => okBar bar
  | .swapDone bar => okBar bar
  | .spareRampStep bar laser _ => okBar bar && okLaser laser
  | .kRemeasure bank k => okBank bank && okMatrix k
  | .calibrationPass bank _ => okBank bank
  | .referenceCompare _ _ => true
  | .toneWindow element _ => okElement element
  | .trimLimit element => okElement element
  | .relockSweepEnd element _ => okElement element
  | .relockVerified element _ => okElement element
  | .relockRetry element => okElement element
  | .laneNarrow slot lane => okSlot slot && okLane lane
  | .laneNarrowRetrain slot lane => okSlot slot && okLane lane
  | .photonicCalibrationCopy => true
  | .reCommission _ => true
  | .elementSelect element => okElement element
  | .domainCommit _ => true
  | .portTraining port _ => okPort port
  | .portHeartbeatLoss port => okPort port
  | .resetNotice port => okPort port
  | .windowCommit _ => true
  | .domainRequestIssue x c r => okCtx x && okCluster c && okReq r
  | .requestArrival port r => okPort port && okReq r
  | .load _ => true
  | .store _ => true
  | .tallyInc _ => true
  | .dmcWrite edge => okEdge edge
  | .add _ => true
  | .min _ => true
  | .max _ => true
  | .swap _ => true
  | .cas _ => true
  | .or _ => true
  | .and _ => true
  | .fadd32 _ => true
  | .badd16 _ => true
  | .iadd32 _ => true
  | .lineQueueApply _ => true
  | .loadData port _ => okPort port
  | .ack port _ => okPort port
  | .old port _ => okPort port
  | .retry port _ => okPort port
  | .error port _ => okPort port
  | .expired port _ => okPort port
  | .ticketReservationExpiry _ => true
  | .ticketLapse _ _ => true
  | .unticketedRetryResend _ => true
  | .replyCacheExpiry device entry => okDevice device && okEntry entry
  | .requestResend port => okPort port
  | .requestDeadline _ => true
  | .message _ _ => true
  | .messageDelivery t => okTower t
  | .msgDone a _ n => (match a with | .tower edge => okEdge edge | .port p => okPort p) && okStatus n
  | .messageDeadline edge entry => okEdge edge && okEntry entry
  | .hopHoldExpiry port _ => okPort port
  | .routeCommit _ => true
  | .inboxCommit _ => true
  | .agreementCommit _ => true
  | .hello port _ => okPort port
  | .join port => okPort port
  | .leave port => okPort port
  | .leaveArrival port => okPort port
  | .digestSend => true
  | .digest port _ _ _ => okPort port
  | .digestTimeout port => okPort port
  | .timeReq port _ => okPort port
  | .timeRsp port _ _ _ _ => okPort port
  | .timedDoorbell row => row < 16
  | .staySuspect _ _ => true
  | .stayRepair _ _ _ => true
  | .repairLogWrite => true
  | .widthAgreement _ _ _ _ _ _ _ _ => true
  | .dieReset die => okDieCode die
  | .kdFence t => okTower t
  | .kdFenced t => okTower t
  | .fenceTimeout die => okDieCode die
  | .abruptReset die => okDieCode die
  | .kdReady t => okTower t
  | .cdParkTimeout t => okTower t
  | .hubHalt => true
  | .dieClockLoss die => okDieCode die
  | .ask _ _ => true
  | .grant _ _ _ _ => true
  | .returnOp _ _ => true
  | .budgetAck _ _ => true
  | .grantRepeat _ => true
  | .hubSilence _ => true
  | .ucieInitialisation g _ _ => okGuest g
  | .capabilityBlock g _ => okGuest g
  | .gdoor g => okGuest g
  | .guestRequest g r => okGuest g && okReq r
  | .hallPassRevoke g _ => okGuest g
  | .revokeHallPass _ => true
  | .clearLocked _ => true
  | .guestWindowCommit _ => true
  | .refclkLoss input => okPair input
  | .failoverPullEnd _ => true
  | .holdoverTimeout => true
  | .refclkGood input => okPair input
  | .referenceFrequencyCheck _ => true
  | .referenceSelect _ => true
  | .clockCommit _ => true
  | .zoneIdle zone => okZone zone
  | .droopTrip region _ => okRegion region
  | .stepDownHoldEnd region => okRegion region
  | .zoneLockLoss zone => okZone zone
  | .zoneRelock zone => okZone zone
  | .zoneRelockTimeout zone => okZone zone
  | .syncWord die _ _ => okDieCode die
  | .zoneTimeReload zone => okZone zone
  | .timeMasterCheckFail hubCopy => okPair hubCopy
  | .powerCommit _ => true
  | .powerManagerTick t _ _ => okTower t
  | .kdPacingStep t _ => okTower t
  | .coreSupplyRead t _ => okTower t
  | .thermalSample e _ => okThermal e
  | .thermalRestart _ => true
  | .flashWriteRetry => true
  | .odRead t => okTransaction t
  | .odWrite t => okTransaction t
  | .blockWrite t => okTransaction t
  | .blockRead t => okTransaction t
  | .doorbell t => okTransaction t
  | .genericOdWrite index sub _ => okIndex index && okByte sub
  | .status => true
  | .krytaePortDown k => okPair k
  | .krytaePortTraining k _ => okPair k
  | .odFwd _ => true
  | .odRsp _ => true
  | .event e => okEvent e
  | .heartbeat complex _ => okPair complex
  | .heartbeatMiss complex _ => okPair complex
  | .takeover _ => true
  | .divergence _ => true
  | .complexDisplaced complex => okPair complex
  | .resync complex _ => okPair complex
  | .handOver => true
  | .resynchroniseTwin => true
  | .twinOffline => true
  | .controlCommit _ => true
  | .controlCycleEnd => true
  | .tableCommit => true
  | .tableRestore _ => true
  | .emptyBlockCommit index _ => okIndex index
  | .rstNLow _ => true
  | .powerLoss => true
  | .railFault rail => okRail rail
  | .coldStart _ _ => true
  | .warmStart _ => true
  | .startRequestWarm => true
  | .startRequestCold => true
  | .lifeCycleTransition _ => true
  | .fuseCopyRepair => true
  | .securityCommit _ _ => true
  | .attestationRequest _ => true
  | .bellRing _ => true
  | .bellRelease => true
  | .bellRung => true
  | .bellClear => true
  | .triggerFire row => row < 8
  | .scanOut _ _ => true
  | .internalScan die => okDieCode die
  | .dumpPoint c row => okCluster c && row < 16
  | .traceRecord c => okCluster c
  | .dumpReset _ => true
  | .counterClear _ => true
  | .crowsNestSample _ => true
  | .debugCommit _ => true
  | .watchdogReset die => okDieCode die
  | .scanExit die => okDieCode die
  | .railsBackInRange die => okDieCode die
  | .helloRepeat port => okPort port
  | .zoneSlewEnd region => okRegion region

end Sys2Proof
end

