-- ==== Sys2Proof/Safety.lean ====
section
/-! DEFINITION. What a safe step is, and the terms that the statements use. -/

namespace Sys2Proof

/-- A step is safe when it answers a next state: no command of this block stops it. -/
def safeStep (s : Machine.State) : Prop := ∃ t, Machine.step s = .next t

/-- The canonical form of all memory contents (the list of cells is sorted, and lists no byte that reads as an
unlisted one). -/
abbrev memoryCanonical (s : Machine.State) : Prop := s.memory.cells.wf = true

/-- No blown bit of either life-cycle fuse copy is ever clear again (R449). -/
def fusesKept (s t : Machine.State) : Prop :=
  s.fuses.lifeCopy0 &&& t.fuses.lifeCopy0 = s.fuses.lifeCopy0 ∧ s.fuses.lifeCopy1 &&& t.fuses.lifeCopy1 = s.fuses.lifeCopy1

/-- The rational number that a value is, if it is finite (R79). -/
def Num.value : Num → Option ℚ
  | .nan => none
  | .inf _ => none
  | .fin n m e => some ((if n then -1 else 1) * (m : ℚ) * (2 : ℚ) ^ e)

/-- The floating formats of R78. -/
def floatFormats : List FloatFormat := [fp32, bf16, fp16, e4m3, e5m2, e3m2, e2m3, e2m1]

end Sys2Proof

namespace Sys2Proof.Machine

/-- How often events of a code have been raised (OD 0xB022.01). -/
def State.raised (s : State) (code : Nat) : Nat := (s.control.eventCounts.get {} code).raised

/-- Every context but `x` is as it was. -/
def sameCtxs (x : Nat) (s t : State) : Prop := ∀ y, y ≠ x → t.ctx y = s.ctx y

/-- Every cluster but `c` is as it was. -/
def sameClusters (c : Nat) (s t : State) : Prop := ∀ k, k ≠ c → t.cluster k = s.cluster k

/-- The cluster whose memory a request addresses (R141). -/
def clusterFor (r : Req) : Nat :=
  if r.op = 0x22 then refCluster r.ref else match placeOf r.addr with | .cluster c _ => c | _ => 0

/-- Every fibre port but `p` is as it was. -/
def samePorts (p : Nat) (s t : State) : Prop := ∀ q, q ≠ p → t.domain.ports.get {} q = s.domain.ports.get {} q

/-- Every lane but `k` is as it was. -/
def sameLanes (k : Nat) (s t : State) : Prop := ∀ j, j ≠ k → t.rig.lanes.get {} j = s.rig.lanes.get {} j

/-- Every die but `d` is as it was. -/
def sameDies (d : Nat) (s t : State) : Prop := ∀ e, e ≠ d → t.die e = s.die e

/-- Every ring element but `e` is as it was. -/
def sameRings (e : Nat) (s t : State) : Prop := ∀ f, f ≠ e → t.photonics.rings.get {} f = s.photonics.rings.get {} f

/-- Every clock region but `r` is as it was. -/
def sameRegions (r : Nat) (s t : State) : Prop := ∀ q, q ≠ r → t.clocks.regions.get {} q = s.clocks.regions.get {} q

/-- Every guest site but `g` is as it was. -/
def sameGuests (g : Nat) (s t : State) : Prop := ∀ h, h ≠ g → t.package.guests.get {} h = s.package.guests.get {} h

/-- No codeword holds an error or a mark, and every stack is in service with all its pins (R165, R333). -/
def memoryClean (s : State) : Prop :=
  s.memory.errors = SMap.empty ∧ s.memory.lineErrors = SMap.empty ∧ s.memory.marks = [] ∧
    ∀ k, (s.stack k).inService = true ∧ (s.stack k).retiredPins = []

/-- The next leaf lies within the ceiling that the valid reservation record of the highest sequence gives (R457 to R459). -/
def leavesReserved (s : State) : Prop := ∃ r, s.boot.flash.leafRecord = some r ∧ s.boot.leaf ≤ r.ceiling

end Sys2Proof.Machine
end

