-- ==== Sys2Proof/Certificates/Slice0/Obligations.lean ====
section
/-! DEFINITION. The statements for the provers. -/

open Sys2Proof Sys2Proof.Machine

/-- Doorbells, descriptor fetch, command start, NOP, YIELD and FENCE do what R116 to R131 say -/
def Obligations.RingCommandsRun : Prop :=
  (∀ (s : State) (x : Nat) (v : BitVec 32),
    0 < x → x < 1024 → (s.ctx x).state ≠ .closed → (s.ctx x).pendingAction ≠ some .close →
    ringDist v.toNat (s.ctx x).consumer.toNat ≤ (s.ctx x).ringSize →
    ringDist (s.ctx x).producer.toNat (s.ctx x).consumer.toNat ≤ ringDist v.toNat (s.ctx x).consumer.toNat →
    ∃ t, exec (.producerIndexWrite x v) s = .next t ∧ (t.ctx x).producer = v ∧
    (t.ctx x).consumer = (s.ctx x).consumer ∧ (t.ctx x).state = (s.ctx x).state ∧ sameCtxs x s t ∧
    t = { s with ctxs := t.ctxs }) ∧
  (∀ (s s1 : State) (x : Nat) (d : List Byte),
    (s.ctx x).state = .bound → (s.ctx x).ending = false →
    s.towerServes ((s.ctx x).ringBase / 0x2400000000) = true → (s.ctx x).fetched ≠ (s.ctx x).producer.toNat →
    ringDist (s.ctx x).fetched (s.ctx x).consumer.toNat < 8 →
    s.loadRange ((s.ctx x).ringBase + 64 * ((s.ctx x).fetched % (s.ctx x).ringSize)) 64 { ctx := x } = (.ok d, s1) →
    ∃ t, exec (.descriptorFetch x) s = .next t ∧
    descriptorAt (t.ctx x) (s.ctx x).fetched = some (BitVec.ofNat 512 (leNat d)) ∧
    (t.ctx x).fetched = ringNext (s.ctx x).fetched ∧ sameCtxs x s t ∧ t = { s1 with ctxs := t.ctxs }) ∧
  (∀ (s : State) (x c : Nat) (d : BitVec 512),
    s.starting c = some x → (memberOf (s.ctx x) c).phase = .idle → inClass (s.ctx x).cls c = true →
    (s.ctx x).skip.contains (memberOf (s.ctx x) c).next = false →
    descriptorAt (s.ctx x) (memberOf (s.ctx x) c).next = some d → dOpcode d ≠ 6 →
    (dFlag d 4 = true ∨ (memberOf (s.ctx x) c).next = (s.ctx x).consumer.toNat) →
    descriptorFault x (s.ctx x) d = none → runsOn d c = true →
    (∀ w ∈ dWaits d, waitSatisfied (s.tally c w.1) w.2 = true) →
    ∃ t, exec (.commandStart x c) s = .next t ∧ (memberOf (t.ctx x) c).phase = .started ∧
    (memberOf (t.ctx x) c).next = (memberOf (s.ctx x) c).next ∧ (t.cluster c).ids = dIds x d ∧
    (t.cluster c).prevIds = (s.cluster c).ids ∧ (t.cluster c).prevCmd = (s.cluster c).perCmd ∧
    (t.cluster c).cmdStart = some s.now ∧ sameCtxs x s t ∧ sameClusters c s t ∧
    t = { s with ctxs := t.ctxs, clusters := t.clusters, dbg := t.dbg }) ∧
  (∀ (s : State) (x c : Nat) (d : BitVec 512),
    s.executing x c 0 .started = some d →
    ∃ t, exec (.nop x c) s = .next t ∧ (memberOf (t.ctx x) c).phase = .done ∧
    (memberOf (t.ctx x) c).next = (memberOf (s.ctx x) c).next ∧ sameCtxs x s t ∧ t = { s with ctxs := t.ctxs }) ∧
  (∀ (s : State) (x c : Nat) (d : BitVec 512),
    s.executing x c 9 .started = some d →
    ∃ t, exec (.yield x c) s = .next t ∧ (memberOf (t.ctx x) c).phase = .done ∧
    (memberOf (t.ctx x) c).next = (memberOf (s.ctx x) c).next ∧ sameCtxs x s t ∧ t = { s with ctxs := t.ctxs }) ∧
  (∀ (s : State) (x c : Nat) (d : BitVec 512),
    s.executing x c 7 .started = some d → (∀ o ∈ s.domain.outstanding, ∀ p ∈ o.parts, p.ctx ≠ x) →
    (∀ e ∈ s.messages.tracked.entries, e.2.ctx ≠ x) →
    ∃ t, exec (.fence x c) s = .next t ∧ (memberOf (t.ctx x) c).phase = .done ∧ sameCtxs x s t ∧
    t = { s with ctxs := t.ctxs })

/-- RUN, COPY, TALLY_SET, CB_LOAD, CURVE_LOAD and the completion of a member part -/
def Obligations.DataCommandsRun : Prop :=
  (∀ (s s1 s2 s3 : State) (x c : Nat) (d : BitVec 512) (h b : List Byte),
    s.executing x c 1 .started = some d →
    s.stallsForPartition (dTtPtr d) (0x40 + 8 * (s.ctx x).cls.length) = false →
    s.stallsForPartition (dTtPtr d) (field h 4 4) = false →
    s.loadRange (dTtPtr d) (0x40 + 8 * (s.ctx x).cls.length) (s.requesterAt x c) = (.ok h, s1) →
    bundleHeaderGood h (s.ctx x).cls.length = true →
    s1.bundleEnds (dTtPtr d) h (s.requesterAt x c) (List.range (s.ctx x).cls.length) = (.ok true, s2) →
    s2.loadRange (dTtPtr d + (bundleRow h (memberIndex (s.ctx x).cls c)).1) (32 * (bundleRow h (memberIndex (s.ctx
      x).cls c)).2) (s.requesterAt x c) = (.ok b, s3) →
    ∃ t, exec (.run x c) s = .next t ∧
    (t.core c).timetable = entriesOf (bundleRow h (memberIndex (s.ctx x).cls c)).2 b ∧
    (t.core c).run.map (fun r => (r.ctx, r.entry, r.length, r.trace, r.stochastic)) = some (x, 0, (bundleRow h
      (memberIndex (s.ctx x).cls c)).2, dFlag d 5, dFlag d 6) ∧
    (t.core c).run.map (fun r => r.loops) = some [] ∧ (memberOf (t.ctx x) c).phase = .working ∧
    sameClusters c s3 t ∧ sameCtxs x s3 t ∧ t = { s3 with ctxs := t.ctxs, clusters := t.clusters }) ∧
  (∀ (s : State) (x c : Nat) (d : BitVec 512),
    s.executing x c 2 .started = some d → (s.core c).ceQueue.length < 4 → (s.core c).score.length < 32 →
    ∃ t, exec (.copy x c) s = .next t ∧
    (t.core c).ceQueue = (s.core c).ceQueue ++ [QueuedOp.mk 0 (.ce (copyOf d)) (s.core c).issued (memberOf (s.ctx
      x) c).next] ∧
    (t.core c).issued = (s.core c).issued + 1 ∧ (memberOf (t.ctx x) c).phase = .working ∧ sameClusters c s t ∧
    sameCtxs x s t ∧ t = { s with ctxs := t.ctxs, clusters := t.clusters }) ∧
  (∀ (s s1 : State) (x c : Nat) (d : BitVec 512),
    s.executing x c 3 .started = some d →
    s.storeRange (clusterOffset c (tallyAddress (dDim0 d % 256))) (leBytes 4 (dAddr0 d)) (s.requesterAt x c) =
      (none, s1) →
    ∃ t, exec (.tallySet x c) s = .next t ∧ (memberOf (t.ctx x) c).phase = .done ∧ sameCtxs x s t ∧
    t = { s1 with ctxs := t.ctxs }) ∧
  (∀ (s s1 : State) (x c : Nat) (d : BitVec 512) (b : List Byte),
    s.executing x c 4 .started = some d → setInUse (s.core c) (descField d 23 18) = false →
    s.tableBytes x c (dAddr0 d % 0x400000) 16 = (.ok b, s1) →
    ∃ t, exec (.cbLoad x c) s = .next t ∧ (t.core c).codebooks.get [] (descField d 23 18) = b ∧
    (∀ n, n ≠ descField d 23 18 → (t.core c).codebooks.get [] n = (s1.core c).codebooks.get [] n) ∧
    (memberOf (t.ctx x) c).phase = .done ∧ sameClusters c s1 t ∧ sameCtxs x s1 t ∧
    t = { s1 with ctxs := t.ctxs, clusters := t.clusters }) ∧
  (∀ (s s1 : State) (x c : Nat) (d : BitVec 512) (b : List Byte),
    s.executing x c 5 .started = some d → slotInUse (s.core c) (dDim1 d % 16) = false →
    dAddr0 d % 0x400000 % 64 = 0 → s.tableBytes x c (dAddr0 d % 0x400000) 1024 = (.ok b, s1) → curveValid b = true →
    ∃ t, exec (.curveLoad x c) s = .next t ∧ (t.core c).curves.get [] (dDim1 d % 16) = b ∧
    (∀ n, n ≠ dDim1 d % 16 → (t.core c).curves.get [] n = (s1.core c).curves.get [] n) ∧
    (memberOf (t.ctx x) c).phase = .done ∧ sameClusters c s1 t ∧ sameCtxs x s1 t ∧
    t = { s1 with ctxs := t.ctxs, clusters := t.clusters }) ∧
  (∀ (s : State) (x c : Nat) (d : BitVec 512),
    s.starting c = some x → (s.ctx x).cls = [c] → descriptorAt (s.ctx x) (memberOf (s.ctx x) c).next = some d →
    s.partDone c (memberOf (s.ctx x) c) d = true → (memberOf (s.ctx x) c).next = (s.ctx x).consumer.toNat →
    dFlag d 2 = false → dFlag d 3 = false → dOpcode d ≠ 9 →
    descriptorAt (s.ctx x) (ringNext (s.ctx x).consumer.toNat) = none → (s.ctx x).pendingSeed = none →
    (s.ctx x).pendingAction = none → (s.ctx x).deferredSince = none → (s.ctx x).skip = [] →
    ∃ t, exec (.memberPartComplete x c) s = .next t ∧ (t.ctx x).consumer = (s.ctx x).consumer + 1 ∧
    (t.ctx x).completed = satAdd 64 (s.ctx x).completed 1 ∧
    memberOf (t.ctx x) c = Member.mk (ringNext (s.ctx x).consumer.toNat) .idle ∧ sameCtxs x s t ∧
    t = { s with ctxs := t.ctxs, dbg := t.dbg })

/-- Each timetable entry does what R124 gives it, and the Oztal core goes on to the next entry -/
def Obligations.TimetableEntriesRun : Prop :=
  (∀ (s : State) (x c : Nat) (r : TimetableRun) (e : BitVec 256),
    s.ocAt c = some (x, r, e) → entryKind e = 0 →
    ∃ t, exec (.entryNop c) s = .next t ∧
    (t.core c).run.map (fun q => (q.entry, q.loops, q.ctx, q.ring, q.length)) = some (r.entry + 1, r.loops, r.ctx,
      r.ring, r.length) ∧
    t.core c = { s.core c with run := (t.core c).run } ∧ sameClusters c s t ∧ t = { s with clusters := t.clusters }) ∧
  (∀ (s : State) (x c : Nat) (r : TimetableRun) (e : BitVec 256) (reading : ClockedOp) (g : Engine),
    s.ocAt c = some (x, r, e) → entryKind e = 1 → engineOf (entryEngine e) = some g →
    (queueOf (s.core c) g).length < queueSize g → (s.core c).score.length < 32 →
    ∃ t, exec (.issue c reading) s = .next t ∧
    queueOf (t.core c) g = queueOf (s.core c) g ++ [QueuedOp.mk (entryPayload e) reading (s.core c).issued r.ring] ∧
    (t.core c).score = (s.core c).score ++ [ScoreEntry.mk (s.core c).issued g (issueExtents (s.core c) g
      (entryPayload e) reading).reads (issueExtents (s.core c) g (entryPayload e) reading).writes] ∧
    (t.core c).run.map (fun q => (q.entry, q.loops, q.ctx, q.ring, q.length)) = some (r.entry + 1, r.loops, r.ctx,
      r.ring, r.length) ∧
    t.core c = { setQueue (s.core c) g (queueOf (t.core c) g) with
      score := (t.core c).score, issued := (s.core c).issued + 1, run := (t.core c).run } ∧
    sameClusters c s t ∧ t = { s with clusters := t.clusters }) ∧
  (∀ (s : State) (x c : Nat) (r : TimetableRun) (e : BitVec 256),
    s.ocAt c = some (x, r, e) → entryKind e = 2 →
    waitSatisfied (s.tally c (entryTally e)) (bitsOf (entryPayload e).toNat 31 0) = true →
    ∃ t, exec (.waitTally c) s = .next t ∧
    (t.core c).run.map (fun q => (q.entry, q.loops, q.ctx, q.ring, q.length)) = some (r.entry + 1, r.loops, r.ctx,
      r.ring, r.length) ∧
    t.core c = { s.core c with run := (t.core c).run } ∧ sameClusters c s t ∧
    t = { s with clusters := t.clusters, dbg := t.dbg }) ∧
  (∀ (s : State) (x c : Nat) (r : TimetableRun) (e : BitVec 256),
    s.ocAt c = some (x, r, e) → entryKind e = 3 → enginesIdle (s.core c) (bitsOf (entryPayload e).toNat 6 0) = true →
    ∃ t, exec (.waitEngines c) s = .next t ∧
    (t.core c).run.map (fun q => (q.entry, q.loops, q.ctx, q.ring, q.length)) = some (r.entry + 1, r.loops, r.ctx,
      r.ring, r.length) ∧
    t.core c = { s.core c with run := (t.core c).run } ∧ sameClusters c s t ∧ t = { s with clusters := t.clusters }) ∧
  (∀ (s s1 s2 : State) (x c : Nat) (r : TimetableRun) (e : BitVec 256) (ref : BitVec 24) (b : List Byte),
    s.ocAt c = some (x, r, e) → entryKind e = 4 →
    enginesIdle (s.core c) (bitsOf (entryPayload e).toNat 38 32) = true →
    ref = BitVec.ofNat 24 (bitsOf (entryPayload e).toNat 23 0) → validRef (s.ctx x).cls ref = true →
    refDevice ref = 63 →
    (s.countMeshTo c (refOffset ref c)).loadRange (refOffset ref c) 4 (s.requesterAt x c) = (.ok b, s1) →
    s1.storeRange (refOffset ref c) (leBytes 4 (leNat b + bitsOf (entryPayload e).toNat 31 24)) (s.requesterAt x c)
      = (none, s2) →
    ∃ t, exec (.inc c) s = .next t ∧
    (t.core c).run.map (fun q => (q.entry, q.loops, q.ctx, q.ring, q.length)) = some (r.entry + 1, r.loops, r.ctx,
      r.ring, r.length) ∧
    t.core c = { s.core c with run := (t.core c).run } ∧ sameClusters c s2 t ∧
    t = { s2 with clusters := t.clusters }) ∧
  (∀ (s : State) (x c : Nat) (r : TimetableRun) (e : BitVec 256),
    s.ocAt c = some (x, r, e) → entryKind e = 5 → bitsOf (entryPayload e).toNat 31 16 ≤ r.entry →
    bitsOf (entryPayload e).toNat 15 0 ≠ 0 → r.loops.length < 4 → (∀ l ∈ r.loops.head?, l.entry ≠ r.entry) →
    ∃ t, exec (.loop c) s = .next t ∧
    (t.core c).run.map (fun q => (q.entry, q.loops, q.ctx, q.ring, q.length)) = some (r.entry - bitsOf
      (entryPayload e).toNat 31 16, ⟨r.entry, bitsOf (entryPayload e).toNat 15 0 - 1⟩ :: r.loops, r.ctx, r.ring,
      r.length) ∧
    t.core c = { s.core c with run := (t.core c).run } ∧ sameClusters c s t ∧ t = { s with clusters := t.clusters }) ∧
  (∀ (s : State) (x c : Nat) (r : TimetableRun) (e : BitVec 256) (n : Nat) (l : List OpenLoop),
    s.ocAt c = some (x, r, e) → entryKind e = 5 → bitsOf (entryPayload e).toNat 31 16 ≤ r.entry →
    r.loops = ⟨r.entry, n + 1⟩ :: l →
    ∃ t, exec (.loop c) s = .next t ∧
    (t.core c).run.map (fun q => (q.entry, q.loops, q.ctx, q.ring, q.length)) = some (r.entry - bitsOf
      (entryPayload e).toNat 31 16, ⟨r.entry, n⟩ :: l, r.ctx, r.ring, r.length) ∧
    t.core c = { s.core c with run := (t.core c).run } ∧ sameClusters c s t ∧ t = { s with clusters := t.clusters }) ∧
  (∀ (s : State) (x c : Nat) (r : TimetableRun) (e : BitVec 256) (l : List OpenLoop),
    s.ocAt c = some (x, r, e) → entryKind e = 5 → bitsOf (entryPayload e).toNat 31 16 ≤ r.entry →
    r.loops = ⟨r.entry, 0⟩ :: l →
    ∃ t, exec (.loop c) s = .next t ∧
    (t.core c).run.map (fun q => (q.entry, q.loops, q.ctx, q.ring, q.length)) = some (r.entry + 1, l, r.ctx,
      r.ring, r.length) ∧
    t.core c = { s.core c with run := (t.core c).run } ∧ sameClusters c s t ∧ t = { s with clusters := t.clusters }) ∧
  (∀ (s : State) (x c : Nat) (r : TimetableRun) (e : BitVec 256),
    s.ocAt c = some (x, r, e) → entryKind e = 6 → (s.core c).dumpOpen = [] →
    ∃ t, exec (.mark c) s = .next t ∧
    (t.cluster c).ids = { s.idsOf c with operator := bitsOf (entryPayload e).toNat 15 0 } ∧
    (t.core c).run.map (fun q => (q.entry, q.loops, q.ctx, q.ring, q.length)) = some (r.entry + 1, r.loops, r.ctx,
      r.ring, r.length) ∧
    t.core c = { s.core c with
      run := (t.core c).run, dumpDue := (t.core c).dumpDue, dumpOpen := (t.core c).dumpOpen } ∧
    sameClusters c s t ∧ t = { s with clusters := t.clusters }) ∧
  (∀ (s : State) (x c : Nat) (r : TimetableRun) (e : BitVec 256),
    s.ocAt c = some (x, r, e) → entryKind e = 7 → (s.core c).dumpOpen = [] → (s.core c).score = [] →
    ∃ t, exec (.endOp c) s = .next t ∧ (memberOf (t.ctx x) c).phase = .done ∧
    (memberOf (t.ctx x) c).next = (memberOf (s.ctx x) c).next ∧ (t.core c).run = none ∧
    t.core c = { s.core c with run := (t.core c).run } ∧ sameCtxs x s t ∧ sameClusters c s t ∧
    t = { s with ctxs := t.ctxs, clusters := t.clusters })

/-- Operations start from the head of their queue and leave their engine and the scoreboard when they complete -/
def Obligations.EngineQueuesRun : Prop :=
  (∀ (s : State) (x c : Nat) (e : Engine) (dq : Bool) (o : QueuedOp),
    s.starting c = some x → headOf (s.core c) e dq = some o → opRefusal (s.core c) e o = none →
    scoreWaits (s.core c) o.seq = false → (dq = false ∨ drainWaits (s.core c) o = false) →
    placeFree (s.core c) e dq = true →
    ∃ t, exec (.engineOpStart c e dq) s = .next t ∧
    queueOf (t.core c) e = (queueOf (s.core c) e).filter (fun q => q.seq ≠ o.seq) ∧
    (t.core c).score = (s.core c).score ∧ ((e = .me → dq = false → (t.core c).mma = some { op := o })) ∧
    ((e = .me → dq = true → (t.core c).drain = some { op := o })) ∧
    ((e = .ce → (t.core c).copies = (s.core c).copies ++ [{ op := o }])) ∧
    (((e ≠ .me ∧ e ≠ .ce) → runningOf (t.core c) e = some { op := o })) ∧ (t.core c).acc = (s.core c).acc ∧
    (t.core c).run = (s.core c).run ∧ sameClusters c s t ∧ t = { s with clusters := t.clusters }) ∧
  (∀ (s : State) (x c place busy : Nat) (waits : List (Nat × Nat)) (e : Engine) (o : RunningOp),
    s.working c = some x → s.completable c e place = some o →
    ((∀ op, o.op.reading = .ce op → op.inc = none ∨ o.carried = true ∨ e ≠ .ce)) →
    ∃ t, exec (.engineOpComplete c e place ⟨busy, waits⟩) s = .next t ∧ t.core c = releaseOp (s.core c) o.op.seq ∧
    (t.core c).score = (s.core c).score.filter (fun q => q.seq ≠ o.op.seq) ∧ sameClusters c s t ∧
    t = { s with clusters := t.clusters, dbg := t.dbg }) ∧
  (∀ (s : State) (x c : Nat),
    s.working c = some x → (s.ctx x).ending = true → s.atBoundary c .ce = true →
    ∃ t, exec (.engineSuspend c .ce) s = .next t ∧ t.core c = { s.core c with ceSuspended := true } ∧
    sameClusters c s t ∧ t = { s with clusters := t.clusters }) ∧
  (∀ (s : State) (x c : Nat),
    s.working c = some x → (s.ctx x).ending = true → s.atBoundary c .ge = true →
    ∃ t, exec (.engineSuspend c .ge) s = .next t ∧ t.core c = { s.core c with geSuspended := true } ∧
    sameClusters c s t ∧ t = { s with clusters := t.clusters }) ∧
  (∀ (s : State) (x c : Nat),
    s.working c = some x → (s.ctx x).ending = true → (s.core c).drain = none → s.withinStep c = false →
    ∃ t, exec (.meProgressRecord c) s = .next t ∧ t.core c = { s.core c with meSuspended := true } ∧
    sameClusters c s t ∧ t = { s with clusters := t.clusters })

/-- MMA accumulates its K-steps, and DRAIN writes its half of the accumulators to cluster memory -/
def Obligations.MatrixEngineRuns : Prop :=
  (∀ (s s1 s2 s3 : State) (x c steps rows ns portWait n p k hs lo : Nat) (m : RunningOp),
    s.workingMe c = some x → (s.core c).mma = some m → s.paused c = false → mmaWaits (s.core c) m.op = false →
    s.streamable c (mmaFields m.op.word) m steps rows = (n, p) → (n ≠ 0 ∨ p ≠ 0) →
    lo = (if n = 0 then m.rows else 0) →
    hs = (if m.progress = 0 ∧ m.rows = 0 ∧ ((s.core c).mmaDone.all fun o => o.finished) = true then 64 else 0) + n
      * stepHandshakes (mmaFields m.op.word) - (if n = 0 then 0 else partHandshakes (mmaFields m.op.word) m.rows) +
      partHandshakes (mmaFields m.op.word) p →
    s1 = ((s.modCore c fun k =>
      { setWidth k (mmaFields m.op.word) with mmaDone := k.mmaDone.map (overlapTail hs) }).panelsRan c hs (governed
      hs ns)).bump c 0x120 48 portWait →
    s1.runSteps c (mmaFields m.op.word) (s1.requesterAt x c) n m.progress m.rows = (none, k, s2) →
    s2.streamRows c (mmaFields m.op.word) (s1.requesterAt x c) k lo (lo + p) = (none, s3) →
    ∃ t, exec (.mma c ⟨steps, rows⟩ ns portWait) s = .next t ∧ k = m.progress + n ∧
    (t.core c).acc = (s3.core c).acc ∧
    ((k < (mmaFields m.op.word).steps → (t.core c).mma = some { m with progress := k, rows := lo + p })) ∧
    ((¬k < (mmaFields m.op.word).steps → (t.core c).mma = none ∧ (t.core c).mmaDone = (s3.core c).mmaDone ++
      [{ m with
      progress := k, rows := 0 }])) ∧
    t.memory.cells = s3.memory.cells ∧ sameClusters c s3 t ∧ t = { s3 with clusters := t.clusters }) ∧
  (∀ (s s1 s2 : State) (x c ns portWait hs : Nat) (m : RunningOp) (d : StepData),
    s.startingMe c = some x → (s.core c).mma = some m → s.paused c = false → mmaWaits (s.core c) m.op = false →
    m.rows = 0 → m.progress < (mmaFields m.op.word).steps → 0 < (mmaFields m.op.word).rows →
    hs = (if m.progress = 0 ∧ ((s.core c).mmaDone.all fun o => o.finished) = true then 64 else 0) + stepHandshakes
      (mmaFields m.op.word) →
    s1 = ((s.modCore c fun k =>
      { setWidth k (mmaFields m.op.word) with mmaDone := k.mmaDone.map (overlapTail hs) }).panelsRan c hs (governed
      hs ns)).bump c 0x120 48 portWait →
    s1.stepData c (mmaFields m.op.word) m.progress (s1.requesterAt x c) = (.ok d, s2) →
    ∃ t, exec (.mma c ⟨1, 0⟩ ns portWait) s = .next t ∧
    (t.core c).acc = mmaRows (mmaFields m.op.word) (codebook (s2.core c) (mmaFields m.op.word).set) m.progress d 0
      (mmaFields m.op.word).rows (s2.core c).acc ∧
    t.memory.cells = s2.memory.cells ∧ sameClusters c s2 t ∧ t = { s2 with clusters := t.clusters }) ∧
  (∀ (s s1 : State) (x c ns : Nat) (m : RunningOp),
    s.workingMe c = some x → (s.core c).mmaDone.find? (fun q => !q.finished) = some m →
    s1 = (if 72 - m.tail = 0 then s else s.panelsRan c (72 - m.tail) (governed (72 - m.tail) ns)) →
    ∃ t, exec (.mmaComplete ⟨c, ns⟩) s = .next t ∧
    t.core c = finishOp { s.core c with mmaDone := (s.core c).mmaDone.map (overlapTail (72 - m.tail)) } m.op.seq ∧
    (t.core c).acc = (s.core c).acc ∧ (t.cluster c).counters.get 0 0x100 = (s1.cluster c).counters.get 0 0x100 ∧
    sameClusters c s t ∧ t = { s with clusters := t.clusters }) ∧
  (∀ (s s1 : State) (x c : Nat) (d : RunningOp),
    s.working c = some x → (s.core c).drain = some d → d.progress = 0 →
    s.storeRange (clusterOffset c (drainFields d.op.word).dest) (packElems (drainFields d.op.word).fmt ((drainElems
      (s.core c) (drainFields d.op.word)).map (·.bits))) (s.requesterAt x c) = (none, s1) →
    ∃ t, exec (.drain c) s = .next t ∧ (t.core c).drain = some { d with progress := 1 } ∧
    (t.core c).acc = (s.core c).acc ∧ t.memory = s1.memory ∧ sameClusters c s1 t ∧
    t = { s1 with clusters := t.clusters, dbg := t.dbg }) ∧
  (∀ (s : State) (x c : Nat) (d : RunningOp),
    s.working c = some x → (s.core c).drain = some d → d.progress ≠ 0 → d.finished = false →
    ∃ t, exec (.drainComplete c) s = .next t ∧ (t.core c).drain = some { d with finished := true } ∧
    t.core c = finishOp (s.core c) d.op.seq ∧ sameClusters c s t ∧ t = { s with clusters := t.clusters })

/-- VE, AE, XE, QE, GE and CE operations read their operands, and write their results at their destinations -/
def Obligations.ClockedEnginesRun : Prop :=
  (∀ (s s1 s2 s3 : State) (x c v : Nat) (m : RunningOp) (op : VeOp) (a b d : List Word32),
    s.working c = some x → (s.core c).ve = some m → m.op.reading = .ve op → m.finished = false →
    (if 1 ≤ VeKind.arity op.kind then s.veLanes c op.fmtIn op.count op.a (s.requesterAt x c) else (.ok [], s)) =
      (.ok a, s1) →
    (if 2 ≤ VeKind.arity op.kind then s1.veLanes c op.fmtIn op.count op.b (s.requesterAt x c) else (.ok [], s1)) =
      (.ok b, s2) →
    (if 3 ≤ VeKind.arity op.kind then s2.veLanes c op.fmtIn op.count op.c (s.requesterAt x c) else (.ok [], s2)) =
      (.ok d, s3) →
    op.d = .reg v →
    ∃ t, exec (.veOp c) s = .next t ∧ t.core c = finishOp { s3.core c with veRegs := (t.core c).veRegs } m.op.seq ∧
    (t.core c).veRegs = (((veResults op a b d).map (registerLane op.kind (isPlainFloat op.fmtIn) op.fmtOut)).mapIdx
      (fun i w => (i, w))).foldl (fun q p => q.set (v * 128 + p.1 % 128) p.2) (s3.core c).veRegs ∧
    t.memory = s3.memory ∧ sameClusters c s3 t ∧ t = { s3 with clusters := t.clusters, dbg := t.dbg }) ∧
  (∀ (s s1 s2 s3 s4 : State) (x c v : Nat) (m : RunningOp) (op : VeOp) (a b d : List Word32),
    s.working c = some x → (s.core c).ve = some m → m.op.reading = .ve op → m.finished = false →
    (if 1 ≤ VeKind.arity op.kind then s.veLanes c op.fmtIn op.count op.a (s.requesterAt x c) else (.ok [], s)) =
      (.ok a, s1) →
    (if 2 ≤ VeKind.arity op.kind then s1.veLanes c op.fmtIn op.count op.b (s.requesterAt x c) else (.ok [], s1)) =
      (.ok b, s2) →
    (if 3 ≤ VeKind.arity op.kind then s2.veLanes c op.fmtIn op.count op.c (s.requesterAt x c) else (.ok [], s2)) =
      (.ok d, s3) →
    op.d = .mem v →
    s3.storeRange (clusterOffset c v) (packElems op.fmtOut ((veResults op a b d).map (fun w => (storeLane op.kind
      (isPlainFloat op.fmtIn) op.fmtOut w).bits))) (s3.requesterAt x c) = (none, s4) →
    ∃ t, exec (.veOp c) s = .next t ∧ t.core c = finishOp (s4.core c) m.op.seq ∧ t.memory = s4.memory ∧
    sameClusters c s4 t ∧ t = { s4 with clusters := t.clusters, dbg := t.dbg }) ∧
  (∀ (s s1 s2 : State) (x c : Nat) (m : RunningOp) (op : AeOp) (d : List Byte),
    s.working c = some x → (s.core c).ae = some m → m.op.reading = .ae op → m.finished = false →
    s.fetch c op.source (elemBytes op.fmtIn op.count) (s.requesterAt x c) = (.ok d, s1) →
    s1.storeRange (clusterOffset c op.dest) (packElems op.fmtOut ((List.range op.count).map (fun i => (convertElem
      op.fmtOut .nearestEven (curveEval (curveSlot (s.core c) op.slot) (decodeElem op.fmtIn [] (elemAt op.fmtIn d
      i)))).bits))) (s1.requesterAt x c) = (none, s2) →
    ∃ t, exec (.aeOp c) s = .next t ∧ t.core c = finishOp (s2.core c) m.op.seq ∧ t.memory = s2.memory ∧
    sameClusters c s2 t ∧ t = { s2 with clusters := t.clusters, dbg := t.dbg }) ∧
  (∀ (s s1 s2 : State) (x c : Nat) (m : RunningOp) (op : XeOp) (d : List Byte),
    s.working c = some x → (s.core c).xe = some m → m.op.reading = .xe op → m.finished = false →
    s.fetch c op.source (xeBytes op) (s.requesterAt x c) = (.ok d, s1) →
    s1.storeRange (clusterOffset c op.dest) (xeResult op d) (s1.requesterAt x c) = (none, s2) →
    ∃ t, exec (.xeOp c) s = .next t ∧ t.core c = finishOp (s2.core c) m.op.seq ∧ t.memory = s2.memory ∧
    sameClusters c s2 t ∧ t = { s2 with clusters := t.clusters }) ∧
  (∀ (s s1 s2 s3 s4 s5 : State) (x c : Nat) (m : RunningOp) (op : QeOp) (d e : List Byte),
    s.working c = some x → (s.core c).qe = some m → m.op.reading = .qe op → m.finished = false →
    s.fetch c op.source (elemBytes op.fmtIn op.count) (s.requesterAt x c) = (.ok d, s1) →
    s1.fetch c op.sourceScales (if isScaled op.fmtIn then op.count / 32 else 0) (s.requesterAt x c) = (.ok e, s2) →
    s2.storeRange (clusterOffset c op.dest) (packElems op.fmtOut ((qeOutputs op (codebook (s.core c) op.set) (if
      qeStochastic (s.core c) op then some (drawAt (drawKey (s.core c).seed (s.idsOf c).step c ((s.core c).opn -
      1))) else none) (qeInputs op (codebook (s.core c) op.set) d e)).2.map (·.bits))) (s2.requesterAt x c) =
      (none, s3) →
    s4 = (s3.noteConversions c .qe m.op.word (atAddresses op.fmtOut op.dest (qeOutputs op (codebook (s.core c)
      op.set) (if qeStochastic (s.core c) op then some (drawAt (drawKey (s.core c).seed (s.idsOf c).step c ((s.core
      c).opn - 1))) else none) (qeInputs op (codebook (s.core c) op.set) d e)).2)).bump c 0x230 32 (((qeOutputs op
      (codebook (s.core c) op.set) (if qeStochastic (s.core c) op then some (drawAt (drawKey (s.core c).seed
      (s.idsOf c).step c ((s.core c).opn - 1))) else none) (qeInputs op (codebook (s.core c) op.set) d e)).1.filter
      (· = 0xFF)).length) →
    s4.storeRange (clusterOffset c op.destScales) ((qeOutputs op (codebook (s.core c) op.set) (if qeStochastic
      (s.core c) op then some (drawAt (drawKey (s.core c).seed (s.idsOf c).step c ((s.core c).opn - 1))) else none)
      (qeInputs op (codebook (s.core c) op.set) d e)).1.map (fun v => BitVec.ofNat 8 v)) (s.requesterAt x c) =
      (none, s5) →
    ∃ t, exec (.qeOp c) s = .next t ∧ t.core c = finishOp (s5.core c) m.op.seq ∧ t.memory = s5.memory ∧
    sameClusters c s5 t ∧ t = { s5 with clusters := t.clusters }) ∧
  (∀ (s s1 : State) (x c indices n i : Nat) (m : RunningOp) (op : GeOp),
    s.working c = some x → (s.core c).ge = some m → m.op.reading = .ge op →
    n = min (if (s.starting c).isSome then indices else min indices (if m.progress % 16 = 0 then 0 else 16 -
      m.progress % 16)) (op.count - m.progress) →
    s.geIndices x c m.op.seq op n m.progress = (none, i, s1) →
    ∃ t, exec (.geOp c indices) s = .next t ∧ i = m.progress + n ∧
    ((i < op.count → t.core c = advanceOp (s1.core c) m.op.seq i)) ∧
    ((i = op.count → t.core c = finishOp (advanceOp (s1.core c) m.op.seq i) m.op.seq)) ∧ t.memory = s1.memory ∧
    t.ctxs = s1.ctxs ∧ sameClusters c s1 t ∧ t = { s1 with clusters := t.clusters }) ∧
  (∀ (s s1 s2 : State) (x c place bytes n : Nat) (m : RunningOp) (op : CeOp) (d : List Byte),
    s.working c = some x → (s.core c).copies[place]? = some m → m.op.reading = .ce op →
    ((s.starting c).isSome = true ∨ m.progress % 4096 ≠ 0) → n = min bytes (copyPiece op m.progress) → 0 < n →
    m.progress < copyBytes op →
    s.engineLoad x c .ce (copyAddress op op.source m.progress) n (.copyRead m.op.seq m.progress) = (.ok (some d),
      s1) →
    s1.copyOut x c m op m.progress d = (none, s2) →
    ∃ t, exec (.ceCopy c place bytes) s = .next t ∧ t.core c = advanceOp (s2.core c) m.op.seq (m.progress + n) ∧
    t.memory = s2.memory ∧ t.ctxs = s2.ctxs ∧ sameClusters c s2 t ∧ t = { s2 with clusters := t.clusters }) ∧
  (∀ (s s1 : State) (x c place bytes n : Nat) (m : RunningOp) (op : CeOp),
    s.working c = some x → (s.core c).copies[place]? = some m → m.op.reading = .ce op →
    ((s.starting c).isSome = true ∨ m.progress % 4096 ≠ 0) → n = min bytes (copyPiece op m.progress) → 0 < n →
    m.progress < copyBytes op →
    s.engineLoad x c .ce (copyAddress op op.source m.progress) n (.copyRead m.op.seq m.progress) = (.ok none, s1) →
    ∃ t, exec (.ceCopy c place bytes) s = .next t ∧ t.core c = advanceOp (s1.core c) m.op.seq (m.progress + n) ∧
    t.memory = s1.memory ∧ t.ctxs = s1.ctxs ∧ sameClusters c s1 t ∧ t = { s1 with clusters := t.clusters })

/-- Plans are committed, tacks are requested, started, quiesced, retuned and done as R213 to R217 say -/
def Obligations.TackCommandsRun : Prop :=
  (∀ (s : State) (n : Nat) (p : List Byte),
    s.commitPending 0x41 = false → n = s.shadow 0x410001 → p = s.blobShadow 0x410002 → s.planStatus n p = 0 →
    s.tackNames n = false →
    ∃ t, exec (.planCommit 1) s = .next t ∧
    t.plan n = Plan.mk (p.take (p.length / 2)) (p.drop (p.length / 2)) s.now ∧
    ((∀ m, m ≠ n → t.plan m = s.plan m)) ∧ t.reg 0x410003 = 0 ∧ t.reg 0x410001 = n ∧
    t.coll = { s.coll with plans := t.coll.plans } ∧
    t = { s with coll := t.coll, regs := t.regs, blobs := t.blobs }) ∧
  (∀ (s : State) (n : Nat),
    s.planLoaded n = true → s.coll.queue.length < 16 →
    ∃ t, exec (.tackRequest n) s = .next t ∧
    t.coll = { s.coll with queue := s.coll.queue ++ [TackRequest.mk n none s.now false] } ∧ t.reg 0x411002 = 1 ∧
    ((∀ k, k ≠ 0x411002 → t.reg k = s.reg k)) ∧ t = { s with coll := t.coll, regs := t.regs }) ∧
  (∀ (s : State),
    ∃ t, exec (.claimHoldoffExpiry) s = .next t ∧ ((∀ k, k ∈ t.coll.barred ↔ k ∈ s.barredLanes)) ∧
    t.coll = { s.coll with
      barred := t.coll.barred, running := t.coll.running, claims := t.coll.claims, queue := t.coll.queue } ∧
    t = { s with coll := t.coll, control := t.control }) ∧
  (∀ (s : State) (q : TackRequest),
    s.coll.tack = none → s.coll.queue.find? (fun q => !s.hitsClaims q.plan) = some q →
    (q.plan = 0 ∨ complementBytes (s.plan q.plan).image = (s.plan q.plan).complement) →
    overfull (s.aimsWith q.plan) = none →
    ∃ t, exec (.tackStart) s = .next t ∧
    t.coll.tack.map (fun k => (k.plan, k.coll, k.started, k.lanes, k.marked)) = some (q.plan, q.coll, s.now,
      s.lanesDiffering q.plan, q.marked) ∧
    (∀ k ∈ s.lanesDiffering q.plan, (t.laneAt k).state = .quiescing) ∧ ((q.coll = none → t.reg 0x411002 = 2)) ∧
    t = { s with rig := t.rig, coll := t.coll, regs := t.regs, commits := t.commits, control := t.control }) ∧
  (∀ (s : State) (k : Tack),
    s.coll.tack = some k → k.step = .quiescing →
    ((∀ l ∈ k.lanes, (s.laneAt l).replay = []) ∨ k.started + 2200 ≤ s.now) →
    ∃ t, exec (.tackQuiesced) s = .next t ∧ t.coll = { s.coll with tack := some { k with step := .retuning } } ∧
    (∀ l ∈ k.lanes, (t.laneAt l).state = .retuning ∧ (t.laneAt l).targets = (((s.planEntries k.plan).find? (fun e
      => laneKey e.1 e.2.1 = l)).map (·.2.2)).getD 0) ∧
    ((∀ l, l ∉ k.lanes → (t.laneAt l).state = (s.laneAt l).state ∧ (t.laneAt l).targets = (s.laneAt l).targets)) ∧
    t = { s with rig := t.rig, coll := t.coll, regs := t.regs }) ∧
  (∀ (s : State) (k : Tack) (failed : List Nat) (wrong : List (Nat × Nat × Nat)),
    s.coll.tack = some k → k.step = .retuning →
    ∃ t, exec (.tackRetuned failed wrong) s = .next t ∧
    t.coll.tack.map (fun q => (q.plan, q.coll, q.started, q.step, q.lanes)) = some (k.plan, k.coll, k.started,
      .trained, k.lanes) ∧
    ((∀ l ∈ k.lanes, (s.laneAt l).targets ≠ 0 → s.dropsFor l = [] → l ∉ failed → wrong = [] → (t.laneAt l).state =
      .training ∧ (t.laneAt l).trainStart = some s.now)) ∧
    ((∀ q, t.coll.tack = some q → ∀ l ∈ q.trained, l ∈ k.lanes ∧ (t.laneAt l).state = .training ∧ (t.laneAt
      l).wrongWait = false)) ∧
    ((∀ l ∈ k.lanes, (s.laneAt l).targets = 0 → wrong = [] → (t.laneAt l).state = .idle)) ∧
    ((∀ l, l ∉ k.lanes → wrong = [] → (t.laneAt l).state = (s.laneAt l).state)) ∧
    t = { s with
      rig := t.rig, coll := t.coll, regs := t.regs, control := t.control, dbg := t.dbg, photonics := t.photonics }) ∧
  (∀ (s : State) (k : Tack),
    s.coll.tack = some k → k.step = .trained →
    ∃ t, exec (.tackDone) s = .next t ∧ t.coll.tack = none ∧ t.reg 0x411004 = satAdd 64 (s.reg 0x411004) 1 ∧
    t.reg 0x411005 = s.now - k.started ∧
    ((∀ l ∈ k.trained, (s.laneAt l).state = .training → (s.laneAt l).wrongWait = false → (s.dropsFor l).length < 2
      → (s.laneAt l).targets ≠ 0 → (t.laneAt l).state = .active)) ∧
    ((∀ l, l ∉ k.trained → (t.laneAt l).state = (s.laneAt l).state)) ∧
    t = { s with
      rig := t.rig, coll := t.coll, regs := t.regs, control := t.control, commits := t.commits, dbg := t.dbg })

/-- COLLECTIVE waits for its join; the join runs the program; the join limit and the wait limit fault their contexts
-/
def Obligations.CollectiveStartsAndStops : Prop :=
  (∀ (s : State) (x c n : Nat) (d : BitVec 512),
    s.readyAt x c = some (n, d) → dOpcode d = 6 →
    (s.coll.joins.all fun j => !(decide (j.ttPtr = dTtPtr d) && j.members.contains (x, c))) = true →
    ∃ t, exec (.collective x c) s = .next t ∧ t.ctxs = s.ctxs ∧
    (∃ j ∈ t.coll.joins, j.ttPtr = dTtPtr d ∧ (x, c) ∈ j.members) ∧
    ((∀ j ∈ s.coll.joins, j.ttPtr ≠ dTtPtr d → j ∈ t.coll.joins)) ∧
    t = { s with coll := { s.coll with joins := t.coll.joins } }) ∧
  (∀ (s s1 s2 : State) (tt x : Nat) (l : List Nat) (j : JoinWait) (p : Program),
    s.coll.joins.find? (fun j => j.ttPtr = tt) = some j →
    (s.waitingAt j).filter (fun x => (s.ctx x).state = .bound && !(s.ctx x).ending) = x :: l → s.belled = false →
    s.programStalls tt = false → s.readProgram tt { ctx := x, ids := dIds x (s.collectiveAt x) } = (.ok p, s1) →
    (p.ctxs.all (x :: l).contains && decide (p.ctxs ≠ []) && (x :: l).all p.ctxs.contains) = true →
    s2 = s1.zeroTallies p.tally (s1.participantsOf p.ctxs) → s2.programGood p = true →
    p.transfers.all (fun q => s2.transferGood p q) = true →
    ∃ t, exec (.collectiveJoin tt) s = .next t ∧
    (∃ r ∈ t.coll.running, r.seq = s2.coll.nextSeq ∧ r.ttPtr = tt ∧ r.ctxs = p.ctxs ∧ r.participants =
      s1.participantsOf p.ctxs ∧ r.phases = p.phases ∧ r.transfers = p.transfers.map (fun q =>
      { q with srcOff := s2.transferSource r.participants q, dstOff := s2.transferDest r.participants q }) ∧
      r.tally = p.tally ∧ r.phase = 0 ∧ r.issued = [] ∧ r.confirmed = []) ∧
    t.coll.nextSeq = s2.coll.nextSeq + 1 ∧ (∀ q ∈ t.coll.joins, q.ttPtr ≠ tt) ∧ t.memory = s2.memory ∧
    t = { s2 with coll := t.coll, control := t.control, clusters := t.clusters, ctxs := t.ctxs, dbg := t.dbg }) ∧
  (∀ (s : State) (tt t0 : Nat) (j : JoinWait),
    s.coll.joins.find? (fun j => j.ttPtr = tt) = some j → j.firstAt = some t0 → s.reg 0x411101 ≠ 0 →
    s.belled = false → t0 + 1000 * s.reg 0x411101 ≤ s.now →
    ∃ t, exec (.joinLimitExpiry tt) s = .next t ∧
    ((∀ x ∈ s.waitingAt j, (s.ctx x).state = .bound → (t.ctx x).state = .faulted ∧ (t.ctx x).faultCode = 0x0603)) ∧
    ((∀ x, x ∉ s.waitingAt j → t.ctx x = s.ctx x)) ∧ t.memory = s.memory ∧
    t = { s with
      coll := t.coll, dbg := t.dbg, regs := t.regs, control := t.control, commits := t.commits, ctxs := t.ctxs }) ∧
  (∀ (s : State) (x c t0 : Nat) (r : TimetableRun) (e : BitVec 256),
    s.ocAt c = some (x, r, e) → r.waitSince = some t0 → (s.ctx x).waitLimit ≠ 0 →
    t0 + 1000 * (s.ctx x).waitLimit < s.now →
    ∃ t, exec (.waitLimitExpiry c) s = .next t ∧ (t.ctx x).state = .faulted ∧ (t.ctx x).faultCode = 0x0107 ∧
    (t.ctx x).faultDetail = faultDetail c noEngine r.entry ∧ sameCtxs x s t ∧ t.memory = s.memory ∧
    t.clusters = s.clusters ∧
    t = { s with
      coll := t.coll, dbg := t.dbg, regs := t.regs, control := t.control, commits := t.commits, ctxs := t.ctxs }) ∧
  (∀ (s : State) (x c t0 : Nat),
    s.ocAt c = none → s.starting c = some x → s.stoppedSince x c = some t0 → (s.ctx x).waitLimit ≠ 0 →
    t0 + 1000 * (s.ctx x).waitLimit < s.now →
    ∃ t, exec (.waitLimitExpiry c) s = .next t ∧ (t.ctx x).state = .faulted ∧ (t.ctx x).faultCode = 0x0107 ∧
    (t.ctx x).faultDetail = faultDetail c noEngine 0 ∧ sameCtxs x s t ∧ t.memory = s.memory ∧
    t.clusters = s.clusters ∧
    t = { s with
      coll := t.coll, dbg := t.dbg, regs := t.regs, control := t.control, commits := t.commits, ctxs := t.ctxs })

/-- Phases go, transfers are issued, sent and confirmed, and the last confirmation completes the COLLECTIVE command -/
def Obligations.CollectivePhasesRun : Prop :=
  (∀ (s : State) (w : Nat) (r : Collective),
    s.belled = false → s.coll.running.find? (fun r => r.goDue.contains w && decide (r.stopped = [])) = some r →
    ∃ t, exec (.phaseGo w) s = .next t ∧
    t.coll.running = s.coll.running.map (fun q => if q.seq = r.seq then { q with
      goDue := q.goDue.erase w, goTo := w :: q.goTo } else q) ∧
    t = { s with coll := { s.coll with running := t.coll.running } }) ∧
  (∀ (s s1 : State) (n p j : Nat) (r : Collective) (d : List Byte),
    s.coll.running.find? (fun r => r.seq = n) = some r → s.belled = false → p < r.participants.length →
    r.goTo.contains (r.clusterOf p / 200) = true → (s.ctx (r.ctxOf p)).state = .bound →
    r.stopped.contains (r.ctxOf p) = false → r.openOf p + (s.core (r.clusterOf p)).copies.length < 16 →
    r.nextFor p = some j → s.stallsForPartition (r.record j).srcOff (r.record j).length = false →
    waitSatisfied (s.tally (r.clusterOf p) r.tally) (r.record j).wait.toNat = true →
    s.loadRange (r.record j).srcOff (r.record j).length (s.requesterAt (r.ctxOf p) (r.clusterOf p)) = (.ok d, s1) →
    (∀ k < max 1 d.length, siteOfOffset ((r.record j).dstOff + k) ≠ r.clusterOf p / 200) →
    ∃ t, exec (.transferIssue n p) s = .next t ∧
    t.coll = { s1.coll with
      running := s1.coll.running.map (fun q => if q.seq = r.seq then { q with issued := q.issued ++ [j] } else q) }
        ∧
    (∃ l, t.rig.outbox = s1.rig.outbox ++ l ∧ l ≠ [] ∧ ∀ q ∈ l, q.src = r.clusterOf p / 200 ∧ q.dst = siteOfOffset
      q.req.addr ∧ q.vc = 3 ∧ q.req.op = (r.record j).op ∧ q.req.ctx = r.ctxOf (r.record j).dst) ∧
    t.memory = s1.memory ∧ t = { s1 with coll := t.coll, rig := { s1.rig with outbox := t.rig.outbox } }) ∧
  (∀ (s s1 : State) (n p j : Nat) (r : Collective) (d : List Byte),
    s.coll.running.find? (fun r => r.seq = n) = some r → s.belled = false → p < r.participants.length →
    r.goTo.contains (r.clusterOf p / 200) = true → (s.ctx (r.ctxOf p)).state = .bound →
    r.stopped.contains (r.ctxOf p) = false → r.openOf p + (s.core (r.clusterOf p)).copies.length < 16 →
    r.nextFor p = some j → s.stallsForPartition (r.record j).srcOff (r.record j).length = false →
    waitSatisfied (s.tally (r.clusterOf p) r.tally) (r.record j).wait.toNat = true →
    s.loadRange (r.record j).srcOff (r.record j).length (s.requesterAt (r.ctxOf p) (r.clusterOf p)) = (.ok d, s1) →
    (∀ k < max 1 d.length, siteOfOffset ((r.record j).dstOff + k) = r.clusterOf p / 200) →
    s.stallsForPartition (r.record j).dstOff (r.record j).length = false →
    ∃ t, exec (.transferIssue n p) s = .next t ∧ t = s.issueTransfer r p j ∧
    (∃ l, t = (s1.modCollective r.seq (fun q => { q with issued := q.issued ++ [j] })).applyLocals (r.ctxOf p)
      (r.clusterOf p) l ∧ l ≠ [] ∧ ∀ q ∈ l, q.op = (r.record j).op ∧ q.ctx = r.ctxOf (r.record j).dst)) ∧
  (∀ (s : State) (n w : Nat) (r : Collective),
    s.coll.running.find? (fun r => r.seq = n) = some r → r.goTo.contains w = true → r.sentBy.contains w = false →
    r.stopped = [] → s.towerSent r w = true → r.phase < r.phases.length →
    r.towers.all (w :: r.sentBy).contains = false →
    ∃ t, exec (.phaseSent n w) s = .next t ∧
    t.coll.running = s.coll.running.map (fun q => if q.seq = n then { r with sentBy := w :: r.sentBy } else q) ∧
    t = { s with
      coll := { s.coll with running := t.coll.running }, control := { s.control with
        wire := s.control.wire ++ [.control 4 0x18 r.operand] } }) ∧
  (∀ (s : State) (n w : Nat) (r : Collective),
    s.coll.running.find? (fun r => r.seq = n) = some r → r.goTo.contains w = true → r.sentBy.contains w = false →
    r.stopped = [] → s.towerSent r w = true → r.phase + 1 < r.phases.length →
    r.towers.all (w :: r.sentBy).contains = true →
    ∃ t, exec (.phaseSent n w) s = .next t ∧
    (∃ q ∈ t.coll.running, q.seq = n ∧ q.phase = r.phase + 1 ∧ q.transfers = r.transfers ∧ q.sentBy = []) ∧
    t.reg 0x411104 = satAdd 64 (s.reg 0x411104) 1 ∧ t.ctxs = s.ctxs ∧
    (∃ l, t.control.wire = s.control.wire ++ .control 4 0x18 r.operand :: l) ∧
    t = { s with coll := t.coll, regs := t.regs, control := t.control }) ∧
  (∀ (s : State) (n j : Nat) (r : Collective),
    s.coll.running.find? (fun r => r.seq = n) = some r → r.landed.contains j = true →
    r.confirmed.contains j = false →
    (r.stopped ≠ [] ∨ Collective.through { r with confirmed := j :: r.confirmed } = false) →
    ∃ t, exec (.transferConfirm n j) s = .next t ∧
    t.coll.running = s.coll.running.map (fun q => if q.seq = n then { r with confirmed := j :: r.confirmed } else
      q) ∧
    t = { s with coll := { s.coll with running := t.coll.running } }) ∧
  (∀ (s : State) (n j : Nat) (r : Collective),
    s.coll.running.find? (fun r => r.seq = n) = some r → r.landed.contains j = true →
    r.confirmed.contains j = false → r.stopped = [] →
    Collective.through { r with confirmed := j :: r.confirmed } = true →
    ∃ t, exec (.transferConfirm n j) s = .next t ∧ t.coll.running = s.coll.running.filter (fun q => q.seq ≠ n) ∧
    (∀ p ∈ r.participants, (memberOf (t.ctx p.1) p.2).phase = .done) ∧ (∀ k ∈ t.coll.claims, k.1 ≠ n) ∧
    t.reg 0x411103 = satAdd 64 (s.reg 0x411103) 1 ∧ t = { s with coll := t.coll, regs := t.regs, ctxs := t.ctxs }) ∧
  (∀ (s s1 s2 : State) (site x c : Nat) (p : Packet) (old : List Byte),
    s.firstArrived site 0x62 = some p → s.stallsForPartition p.req.addr p.req.data.length = false →
    p.req.data.length = 128 → p.req.refAmt = 0 → p.req.origin = .member x c →
    s.loadRange p.req.addr 128 (s.originRequester p.req) = (.ok old, s1) →
    s1.storeRange p.req.addr ((lanesOf 4 old).mapIdx (fun j l => leBytes 4 (fp32Add (BitVec.ofNat 32 (leNat l))
      (BitVec.ofNat 32 (field p.req.data (4 * j) 4))).toNat)).flatten (s.originRequester p.req) = (none, s2) →
    ∃ t, exec (.redAddFp32 site) s = .next t ∧ t.memory = s2.memory ∧
    t.arrivedAt site = (s.arrivedAt site).erase p ∧ t.reg 0x411105 = satAdd 64 (s2.reg 0x411105) 1 ∧
    t = { s2 with rig := t.rig, coll := t.coll, regs := t.regs }) ∧
  (∀ (s s1 s2 : State) (site x c : Nat) (p : Packet) (old : List Byte),
    s.firstArrived site 0x63 = some p → s.stallsForPartition p.req.addr p.req.data.length = false →
    p.req.data.length = 128 → p.req.refAmt = 0 → p.req.origin = .member x c →
    s.loadRange p.req.addr 128 (s.originRequester p.req) = (.ok old, s1) →
    s1.storeRange p.req.addr ((lanesOf 2 old).mapIdx (fun j l => leBytes 2 (bf16Add (leNat l) (field p.req.data (2
      * j) 2)))).flatten (s.originRequester p.req) = (none, s2) →
    ∃ t, exec (.redAddBf16 site) s = .next t ∧ t.memory = s2.memory ∧
    t.arrivedAt site = (s.arrivedAt site).erase p ∧ t.reg 0x411105 = satAdd 64 (s2.reg 0x411105) 1 ∧
    t = { s2 with rig := t.rig, coll := t.coll, regs := t.regs })

/-- SEND, MESSAGE, MSG_DONE, the message deadline and the hop hold do what R301 to R305 say -/
def Obligations.MessagesTravel : Prop :=
  (∀ (s s1 : State) (x c edge k : Nat) (d : BitVec 512) (b : List Byte),
    s.executing x c 8 .started = some d → sendValid d = true → s.freeEntry edge = some k →
    isLocalForm (dAddr0 d) = true → s.tableBytes x c (dAddr0 d % 0x400000) (dDim0 d) = (.ok b, s1) →
    ∃ t, exec (.send x c edge) s = .next t ∧ (memberOf (t.ctx x) c).phase = .done ∧
    SMap.lookup t.messages.tracked.entries (1024 * edge + k) = some (TrackedMessage.mk x (memberOf (s.ctx x)
      c).next c (dAddr1 d) s1.now) ∧
    (t.messages.toEdge.get [] edge).map (·.payload) = (s.messages.toEdge.get [] edge).map (·.payload) ++ [b] ∧
    t.reg 0x831004 = satAdd 64 (s1.reg 0x831004) 1 ∧ sameCtxs x s1 t ∧
    t = { s1 with messages := t.messages, regs := t.regs, ctxs := t.ctxs }) ∧
  (∀ (s s1 : State) (x c edge : Nat) (d : BitVec 512),
    s.executing x c 8 .started = some d → sendValid d = true → (s.freeEntry edge).isSome = true →
    isLocalForm (dAddr0 d) = false →
    s.issueRequest { blankReq with op := 0x20, origin := .member x c, ctx := x, addr := dAddr0 d, len := dDim0 d }
      ⟨x, c, noEngine, .send edge, [], s.now, dAddr0 d⟩ (s.requesterAt x c) = (.sent, s1) →
    ∃ t, exec (.send x c edge) s = .next t ∧ (memberOf (t.ctx x) c).phase = .working ∧ sameCtxs x s1 t ∧
    t = { s1 with ctxs := t.ctxs }) ∧
  (∀ (s : State) (edge p : Nat) (m q : Message) (rest : List Message),
    s.messages.toEdge.get [] edge = q :: rest → s.hopFull q = false → s.routeTo q.dom q.dev = .port p →
    ∃ t, exec (.message (.tower edge) m) s = .next t ∧
    t.messages = { s.messages with toEdge := s.messages.toEdge.set edge rest } ∧
    (t.port p).hop.map (fun e => (e.mseq, e.at_, e.message)) = (s.port p).hop.map (fun e => (e.mseq, e.at_,
      e.message)) ++ [((s.port p).mseqNext, s.now, { q with hops := q.hops - 1, mseq := (s.port p).mseqNext })] ∧
    (t.port p).mseqNext = ((s.port p).mseqNext + 1) % 4294967296 ∧ samePorts p s t ∧
    t = { s with messages := t.messages, domain := t.domain, control := t.control }) ∧
  (∀ (s : State) (edge : Nat) (m q : Message) (rest : List Message) (i : Inbox),
    s.messages.toEdge.get [] edge = q :: rest → s.hopFull q = false → s.routeTo q.dom q.dev = .here →
    SMap.lookup s.messages.inboxes.entries q.inbox = some i →
    ∃ t, exec (.message (.tower edge) m) s = .next t ∧ t.messages.toEdge = s.messages.toEdge.set edge rest ∧
    t.messages.toTower.get [] (i.base / 0x2400000000) = s.messages.toTower.get [] (i.base / 0x2400000000) ++ [q] ∧
    t.messages.inboxes = s.messages.inboxes ∧ t = { s with messages := t.messages }) ∧
  (∀ (s : State) (w : Nat) (m : Message) (i : Inbox),
    s.carriesMessages w = true → s.hopFull m = false → 1 ≤ m.payload.length → m.payload.length ≤ 4064 →
    (4294967296 + m.mseq - (s.port w).mseqAccepted) % 4294967296 < 2147483648 → s.routeTo m.dom m.dev = .here →
    SMap.lookup s.messages.inboxes.entries m.inbox = some i →
    ∃ t, exec (.message (.port w) m) s = .next t ∧ (t.port w).mseqAccepted = (m.mseq + 1) % 4294967296 ∧
    t.messages.toTower.get [] (i.base / 0x2400000000) = s.messages.toTower.get [] (i.base / 0x2400000000) ++ [m] ∧
    samePorts w s t ∧ t.messages.tracked = s.messages.tracked ∧
    t = { s with messages := t.messages, domain := t.domain }) ∧
  (∀ (s : State) (w p : Nat) (m : Message),
    s.carriesMessages w = true → s.hopFull m = false → 1 ≤ m.payload.length → m.payload.length ≤ 4064 →
    (4294967296 + m.mseq - (s.port w).mseqAccepted) % 4294967296 < 2147483648 → s.routeTo m.dom m.dev = .port p →
    p ≠ w → m.hops ≠ 0 →
    ∃ t, exec (.message (.port w) m) s = .next t ∧ (t.port w).mseqAccepted = (m.mseq + 1) % 4294967296 ∧
    (t.port p).hop.map (fun e => (e.mseq, e.at_, e.message)) = (s.port p).hop.map (fun e => (e.mseq, e.at_,
      e.message)) ++ [((s.port p).mseqNext, s.now, { m with hops := m.hops - 1, mseq := (s.port p).mseqNext })] ∧
    (t.port p).mseqNext = ((s.port p).mseqNext + 1) % 4294967296 ∧ t.reg 0x831007 = satAdd 64 (s.reg 0x831007) 1 ∧
    t.messages = s.messages ∧ t = { s with domain := t.domain, control := t.control, regs := t.regs }) ∧
  (∀ (s : State) (edge id : Nat) (k : TrackedMessage),
    s.routeTo (bitsOf id 35 20) (bitsOf id 19 12) = .here → bitsOf id 11 10 = edge →
    SMap.lookup s.messages.tracked.entries (1024 * edge + bitsOf id 9 0) = some k →
    ∃ t, exec (.msgDone (.tower edge) id 1) s = .next t ∧
    SMap.lookup t.messages.tracked.entries (1024 * edge + bitsOf id 9 0) = none ∧
    ((∀ n, n ≠ 1024 * edge + bitsOf id 9 0 → SMap.lookup t.messages.tracked.entries n = SMap.lookup
      s.messages.tracked.entries n)) ∧
    t.reg 0x831003 = satAdd 64 (s.reg 0x831003) 1 ∧
    t.messages = { s.messages with tracked := t.messages.tracked } ∧
    t = { s with messages := t.messages, regs := t.regs }) ∧
  (∀ (s : State) (w id : Nat) (k : TrackedMessage),
    s.routeTo (bitsOf id 35 20) (bitsOf id 19 12) = .here →
    SMap.lookup s.messages.tracked.entries (1024 * bitsOf id 11 10 + bitsOf id 9 0) = some k →
    ∃ t, exec (.msgDone (.port w) id 1) s = .next t ∧
    SMap.lookup t.messages.tracked.entries (1024 * bitsOf id 11 10 + bitsOf id 9 0) = none ∧
    t.reg 0x831003 = satAdd 64 (s.reg 0x831003) 1 ∧ (t.port w).rxSeq = ((s.port w).rxSeq + 1) % 65536 ∧
    samePorts w s t ∧ t.messages = { s.messages with tracked := t.messages.tracked } ∧
    t = { s with messages := t.messages, regs := t.regs, domain := t.domain }) ∧
  (∀ (s : State) (edge id status p : Nat),
    s.routeTo (bitsOf id 35 20) (bitsOf id 19 12) = .port p → s.carriesMessages p = true →
    s.sends (.msgDone p id status) = true →
    ∃ t, exec (.msgDone (.tower edge) id status) s = .next t ∧
    t.control.wire = s.control.wire ++ [.msgDone p id status] ∧ samePorts p s t ∧ t.messages = s.messages ∧
    t = { s with domain := t.domain, control := t.control }) ∧
  (∀ (s : State) (edge entry : Nat) (k : TrackedMessage),
    SMap.lookup s.messages.tracked.entries (1024 * edge + entry) = some k → k.sent + 1000 * s.reg 0x831001 < s.now →
    ∃ t, exec (.messageDeadline edge entry) s = .next t ∧
    SMap.lookup t.messages.tracked.entries (1024 * edge + entry) = none ∧
    (((s.ctx k.ctx).state = .bound → (t.ctx k.ctx).state = .faulted ∧ (t.ctx k.ctx).faultCode = 0x0504)) ∧
    sameCtxs k.ctx s t ∧ t.memory = s.memory ∧
    t = { s with
      coll := t.coll, dbg := t.dbg, regs := t.regs, control := t.control, commits := t.commits, messages :=
        t.messages, ctxs := t.ctxs }) ∧
  (∀ (s : State) (p n : Nat) (e : HopEntry),
    (s.port p).hop.find? (fun e => e.mseq = n) = some e → e.at_ + 1000 * s.reg 0x831002 < s.now →
    ∃ t, exec (.hopHoldExpiry p n) s = .next t ∧ (t.port p).hop = (s.port p).hop.filter (fun h => h.mseq ≠ n) ∧
    t.reg 0x831005 = satAdd 32 (s.reg 0x831005) 1 ∧ samePorts p s t ∧
    t = { s with domain := t.domain, regs := t.regs })

/-- A message is written to its inbox slot and counted; inboxes, routes, the membership mask, port map and windows are
committed -/
def Obligations.InboxesDeliver : Prop :=
  (∀ (s s1 s2 s3 : State) (w rel count : Nat) (m : Message) (rest : List Message) (i : Inbox),
    s.messages.toTower.get [] w = m :: rest → (s.die (0x10 + w)).state = .ready →
    s1 = { s with messages := { s.messages with toTower := s.messages.toTower.set w rest } } →
    SMap.lookup s.messages.inboxes.entries m.inbox = some i → m.payload.length ≤ slotSize i.code - 32 →
    s1.inboxReleased m.inbox w i = (rel, s2) → count = field (s2.held i.base 8) 0 8 →
    (2 ^ 64 + count - rel) % 2 ^ 64 + 1 < i.slots →
    s3 = (s2.writeArea (i.base + 128 + slotSize i.code * (count % i.slots)) (s2.messageRecord m (s2.stampAt (0x1000
      + w)))).writeArea i.base (leBytes 8 (count + 1)) →
    ∃ t, exec (.messageDelivery w) s = .next t ∧ t.memory = s3.memory ∧ t.messages.toTower.get [] w = rest ∧
    t.ctxs = s3.ctxs ∧ t = { s3 with messages := t.messages, domain := t.domain, control := t.control }) ∧
  (∀ (s : State) (n owner base code slots : Nat),
    memoryCanonical s → n = s.shadow 0x840001 → owner = s.shadow 0x840002 → base = s.shadow 0x840003 →
    code = s.shadow 0x840004 → slots = s.shadow 0x840005 → owner ≠ 0xFFFF →
    s.inboxStatus n owner base code slots = 0 →
    ∃ t, exec (.inboxCommit 1) s = .next t ∧
    SMap.lookup t.messages.inboxes.entries n = some { owner := owner, base := base, code := code, slots := slots } ∧
    ((∀ k, k ≠ n → SMap.lookup t.messages.inboxes.entries k = SMap.lookup s.messages.inboxes.entries k)) ∧
    (∀ a, t.memory.cells.read a = if base ≤ a ∧ a < base + inboxArea code slots then 0 else s.memory.cells.read a) ∧
    t.reg 0x840006 = 0 ∧ t = { s with messages := t.messages, regs := t.regs, memory := t.memory }) ∧
  (∀ (s : State) (n : Nat),
    n = s.shadow 0x840001 → s.shadow 0x840002 = 0xFFFF →
    ∃ t, exec (.inboxCommit 1) s = .next t ∧ SMap.lookup t.messages.inboxes.entries n = none ∧
    ((∀ k, k ≠ n → SMap.lookup t.messages.inboxes.entries k = SMap.lookup s.messages.inboxes.entries k)) ∧
    t.memory = s.memory ∧ t.reg 0x840006 = 0 ∧ t = { s with messages := t.messages, regs := t.regs }) ∧
  (∀ (s : State),
    s.routeStatus (routeRows (s.blobShadow 0x830001)) = 0 →
    ∃ t, exec (.routeCommit 1) s = .next t ∧
    t.messages = { s.messages with routes := routeRows (s.blobShadow 0x830001) } ∧ t.reg 0x830002 = 0 ∧
    t = { s with messages := t.messages, regs := t.regs, blobs := t.blobs }) ∧
  (∀ (s : State),
    s.maskShadow = s.properMask →
    ∃ t, exec (.agreementCommit 1) s = .next t ∧ t.reg 0x820001 = s.shadow 0x820001 ∧
    t.reg 0x820002 = s.shadow 0x820002 ∧ t.reg 0x820004 = s.maskShadow ∧ t.reg 0x820005 = 0 ∧
    t = { s with regs := t.regs }) ∧
  (∀ (s : State),
    s.portMapStatus (portMapRows s.portMapShadow) = 0 →
    ∃ t, exec (.domainCommit 1) s = .next t ∧
    ((∀ p, p < 64 → t.portRole p = (portMapRows s.portMapShadow).getD p (0, 0xFF))) ∧ t.reg 0x800102 = 0 ∧
    t.domain = { s.domain with portMap := t.domain.portMap } ∧ t = { s with domain := t.domain, regs := t.regs }) ∧
  (∀ (s : State) (x n : Nat),
    x = s.shadow 0x810001 → n = s.shadow 0x810002 → (s.ctx x).state ≠ .closed →
    s.windowStatus (s.blobShadow 0x810003) = 0 →
    ∃ t, exec (.windowCommit 1) s = .next t ∧ t.window x n = (windowOfPayload (s.blobShadow 0x810003)).loaded ∧
    ((∀ k, k ≠ windowKey x n → t.domain.windows.get {} k = s.domain.windows.get {} k)) ∧ t.reg 0x810004 = 0 ∧
    t.domain = { s.domain with windows := t.domain.windows } ∧
    t = { s with domain := t.domain, regs := t.regs, blobs := t.blobs })

/-- HELLO, joins, leaves and digests change the state of their port as R317 to R320 say -/
def Obligations.MembersAgree : Prop :=
  (∀ (s : State) (p : Nat) (h : Hello),
    (s.portRole p).1 = 1 → (s.port p).state = .joining → h.device = (s.portRole p).2 → h.domain = s.domainId →
    ((s.port p).lostJoin = false ∨ s.joinRefused p = false) → h.level = s.reg 0x820003 → h.digest = s.localDigest →
    ∃ t, exec (.hello p h) s = .next t ∧ (t.port p).state = .up ∧ (t.port p).lostJoin = false ∧
    (t.port p).peerUnfenced = !h.fenced ∧ (t.port p).lastHeard = s.now ∧
    ((∀ n, n / 4096 = (s.portRole p).2 → SMap.lookup t.domain.replies.entries n = none)) ∧ samePorts p s t ∧
    t = { s with domain := t.domain, regs := t.regs, control := t.control, clocks := t.clocks, dbg := t.dbg }) ∧
  (∀ (s : State) (p : Nat) (h : Hello),
    (s.portRole p).1 = 1 → (s.port p).state = .joining → (h.device ≠ (s.portRole p).2 ∨ h.domain ≠ s.domainId) →
    ∃ t, exec (.hello p h) s = .next t ∧ (t.port p).state = .down ∧ t.raised 0x1603 = s.raised 0x1603 + 1 ∧
    samePorts p s t ∧ t.clocks = s.clocks ∧ t.memory = s.memory ∧
    t = { s with domain := t.domain, regs := t.regs, control := t.control, dbg := t.dbg }) ∧
  (∀ (s : State) (p : Nat) (h : Hello),
    (s.portRole p).1 = 1 → (s.port p).state = .up →
    ∃ t, exec (.hello p h) s = .next t ∧ (t.port p).helloDue = true ∧ (t.port p).peerHello = some h ∧
    (t.port p).state = .lost ∧ ((∀ o ∈ t.domain.outstanding, o.port = p → o.frozen = true)) ∧ samePorts p s t ∧
    t.memory = s.memory ∧
    t = { s with
      domain := t.domain, coll := t.coll, dbg := t.dbg, regs := t.regs, control := t.control, ctxs := t.ctxs }) ∧
  (∀ (s : State) (p : Nat),
    (s.port p).state = .lost → (s.port p).helloDue = true → (s.port p).retraining = false →
    (s.port p).helloAt + 1000000 ≤ s.now → s.sends (.hello p s.localHello) = true →
    ∃ t, exec (.helloRepeat p) s = .next t ∧ (t.port p).helloAt = s.now ∧
    (t.port p).state = (if s.joinRefused p then .lost else .joining) ∧
    t.control.wire = s.control.wire ++ [.hello p s.localHello] ∧ samePorts p s t ∧
    t = { s with domain := t.domain, control := t.control }) ∧
  (∀ (s : State) (p : Nat),
    (s.portRole p).1 = 1 → ((s.port p).state = .demoted ∨ (s.port p).state = .lost) → s.requestsAt p = false →
    s.sends (.hello p s.localHello) = true →
    ∃ t, exec (.join p) s = .next t ∧ (t.port p).state = .joining ∧ t.reg 0x820103 = 0 ∧
    t.control.wire = s.control.wire ++ [.hello p s.localHello] ∧ samePorts p s t ∧
    t = { s with domain := t.domain, control := t.control, regs := t.regs }) ∧
  (∀ (s : State) (p : Nat),
    (s.portRole p).1 = 1 → (s.port p).state ≠ .down → (s.port p).state ≠ .training → s.requestsAt p = false →
    s.windowHolders (s.portRole p).2 = [] → s.sends (.leave p) = true →
    ∃ t, exec (.leave p) s = .next t ∧ (t.port p).state = .down ∧ t.reg 0x820103 = 0 ∧
    t.control.wire = s.control.wire ++ [.leave p] ∧ samePorts p s t ∧
    t = { s with domain := t.domain, control := t.control, regs := t.regs }) ∧
  (∀ (s : State) (p : Nat),
    (s.portRole p).1 = 1 → ((s.port p).state = .up ∨ (s.port p).state = .demoted ∨ (s.port p).state = .joining) →
    ∃ t, exec (.leaveArrival p) s = .next t ∧
    t.port p = { (s.heard p 4 1).port p with state := .down, changed := s.now } ∧ samePorts p s t ∧
    t = { s with domain := { s.domain with ports := t.domain.ports } }) ∧
  (∀ (s : State),
    s.messages.digestSent + 10000000 ≤ s.now →
    ((List.range 64).all fun p => decide ((s.port p).state ≠ .up) || s.sends (.digest p s.localDigest (s.reg
      0x820002) (s.reg 0x820003))) = true →
    ∃ t, exec (.digestSend) s = .next t ∧
    t.control.wire = s.control.wire ++ ((List.range 64).filter (fun p => (s.port p).state = .up)).map (fun p =>
      .digest p s.localDigest (s.reg 0x820002) (s.reg 0x820003)) ∧
    t.messages = { s.messages with digestSent := s.now } ∧ (∀ p, (t.port p).state = (s.port p).state) ∧
    t = { s with domain := t.domain, control := t.control, messages := t.messages }) ∧
  (∀ (s : State) (p epoch level : Nat),
    (s.portRole p).1 = 1 → ((s.port p).state = .up ∨ (s.port p).state = .demoted) →
    ∃ t, exec (.digest p s.localDigest epoch level) s = .next t ∧ (t.port p).mismatches = 0 ∧
    (t.port p).digestAt = s.now ∧ (t.port p).state = (s.port p).state ∧
    t.messages.peerDigests.get {} p = PeerDigest.mk (s.portRole p).2 epoch level (padTo 32 s.localDigest) s.stamp ∧
    samePorts p s t ∧ t = { s with domain := t.domain, messages := t.messages }) ∧
  (∀ (s : State) (p epoch level : Nat) (d : List Byte),
    (s.portRole p).1 = 1 → (s.port p).state = .up → d ≠ s.localDigest → 1 ≤ (s.port p).mismatches →
    ∃ t, exec (.digest p d epoch level) s = .next t ∧ (t.port p).state = .demoted ∧
    t.reg 0x820007 = satAdd 32 (s.reg 0x820007) 1 ∧ t.raised 0x1604 = s.raised 0x1604 + 1 ∧ samePorts p s t ∧
    t.memory = s.memory ∧
    t = { s with domain := t.domain, messages := t.messages, regs := t.regs, control := t.control, dbg := t.dbg }) ∧
  (∀ (s : State) (p : Nat),
    (s.port p).state = .up → (s.port p).digestAt + 30000000 ≤ s.now →
    ∃ t, exec (.digestTimeout p) s = .next t ∧ (t.port p).state = .demoted ∧
    t.reg 0x820007 = satAdd 32 (s.reg 0x820007) 1 ∧ t.raised 0x1604 = s.raised 0x1604 + 1 ∧ samePorts p s t ∧
    t.memory = s.memory ∧ t = { s with domain := t.domain, regs := t.regs, control := t.control, dbg := t.dbg })

/-- Ports train and are lost, requests are issued through windows, and time crosses the domain -/
def Obligations.PortsAndRequests : Prop :=
  (∀ (s : State) (p : Nat),
    (s.portRole p).1 = 1 → (s.port p).light = false → (s.port p).lastHeard + 20000 ≤ s.now →
    ((s.port p).state = .up ∨ (s.port p).state = .demoted ∨ (s.port p).state = .joining) →
    ∃ t, exec (.portHeartbeatLoss p) s = .next t ∧ (t.port p).state = .lost ∧
    ((∀ o ∈ t.domain.outstanding, o.port = p → o.frozen = true)) ∧ samePorts p s t ∧ t.memory = s.memory ∧
    t = { s with
      domain := t.domain, coll := t.coll, dbg := t.dbg, regs := t.regs, control := t.control, ctxs := t.ctxs }) ∧
  (∀ (s : State) (p : Nat),
    (s.portRole p).1 = 1 → ((s.port p).state = .up ∨ (s.port p).state = .demoted ∨ (s.port p).state = .joining) →
    ∃ t, exec (.resetNotice p) s = .next t ∧ (t.port p).state = .lost ∧
    ((∀ o ∈ t.domain.outstanding, o.port = p → o.frozen = true)) ∧ samePorts p s t ∧ t.memory = s.memory ∧
    t = { s with
      domain := t.domain, coll := t.coll, dbg := t.dbg, regs := t.regs, control := t.control, ctxs := t.ctxs }) ∧
  (∀ (s : State) (p : Nat),
    (s.portRole p).1 ≠ 0 → s.domain.portMap.entries ≠ [] → s.boot.serviceMode = false → (s.port p).state = .down →
    ∃ t, exec (.portTraining p .light) s = .next t ∧ (t.port p).state = .training ∧ (t.port p).light = true ∧
    (t.port p).retraining = true ∧ samePorts p s t ∧
    t = { s with domain := { s.domain with ports := t.domain.ports } }) ∧
  (∀ (s : State) (p : Nat),
    (s.portRole p).1 ≠ 0 → (s.port p).light = true →
    ∃ t, exec (.portTraining p .lightLost) s = .next t ∧
    t.port p = { s.port p with light := false, lastHeard := s.now } ∧ samePorts p s t ∧
    t = { s with domain := { s.domain with ports := t.domain.ports } }) ∧
  (∀ (s : State) (p : Nat),
    (s.portRole p).1 ≠ 0 → 8 ≤ (s.port p).naks → ((s.port p).state = .up ∨ (s.port p).state = .msg) →
    ∃ t, exec (.portTraining p .naks) s = .next t ∧ (t.port p).state = .training ∧
    (t.port p).back = some (s.port p).state ∧ (t.port p).retraining = true ∧ samePorts p s t ∧
    t = { s with domain := { s.domain with ports := t.domain.ports } }) ∧
  (∀ (s : State) (p : Nat),
    (s.portRole p).1 ≠ 0 → (s.port p).wavelengths = 15 → (s.port p).retraining = false →
    ((s.port p).state = .up ∨ (s.port p).state = .msg) →
    ∃ t, exec (.portTraining p .wavelengthDropped) s = .next t ∧ (t.port p).state = .training ∧
    (t.port p).back = some (s.port p).state ∧ (t.port p).retraining = true ∧ samePorts p s t ∧
    t = { s with domain := { s.domain with ports := t.domain.ports } }) ∧
  (∀ (s : State) (p : Nat),
    (s.portRole p).1 = 1 → (s.port p).retraining = true → (s.port p).light = true → (s.port p).state = .training →
    (s.port p).back = none →
    ∃ t, exec (.portTraining p .done) s = .next t ∧ (t.port p).state = .joining ∧ (t.port p).retraining = false ∧
    (t.port p).everTrained = true ∧ t.control.wire = s.control.wire ++ [.hello p s.localHello] ∧ samePorts p s t ∧
    t = { s with domain := t.domain, control := t.control }) ∧
  (∀ (s : State) (p mask : Nat),
    (s.portRole p).1 ≠ 0 → (s.port p).retraining = true →
    ∃ t, exec (.portTraining p (.wrong mask)) s = .next t ∧ t = s.wrongAtPort p mask ∧
    t = { s with rig := t.rig, dbg := t.dbg, regs := t.regs, control := t.control, photonics := t.photonics }) ∧
  (∀ (s : State) (p w : Nat),
    (s.portRole p).1 ≠ 0 → (s.port p).retraining = true → w < 16 →
    ((s.ring (elementId 0 (7 + p / 16) (32 + p % 16) 0 w)).tone = none ∨ (s.ring (elementId 0 (7 + p / 16) (32 + p
      % 16) 0 w)).tone = some w) →
    ((s.ring (elementId 1 (7 + p / 16) (32 + p % 16) 0 w)).tone = none ∨ (s.ring (elementId 1 (7 + p / 16) (32 + p
      % 16) 0 w)).tone = some w) →
    ∃ t, exec (.portTraining p (.wrong (2 ^ w))) s = .next t ∧
    t = s.ringWrong (elementId 1 (7 + p / 16) (32 + p % 16) 0 w) 0xFF ∧
    t = { s with rig := t.rig, dbg := t.dbg, regs := t.regs, control := t.control, photonics := t.photonics }) ∧
  (∀ (s s1 : State) (x c : Nat) (r : Req) (a : Answer),
    s.working c = some x → r.op ≠ 0x23 → requestForm r = true →
    s.issueRequest { r with origin := .member x c, ctx := x, ticket := none } ⟨x, c, noEngine, .deliver r.tag,
      subBytes r.data 0 (atomicSize r), s.now, if r.op = 0x22 then refAddress r.ref else r.addr⟩ (s.requesterAt x
      c) = (a, s1) →
    (a = .sent ∨ a = .ack) →
    ∃ t, exec (.domainRequestIssue x c r) s = .next t ∧ ((a = .sent → t = s1)) ∧
    ((a = .ack → t = s1.completePart ⟨x, c, noEngine, .deliver r.tag, subBytes r.data 0 (atomicSize r), s.now, if
      r.op = 0x22 then refAddress r.ref else r.addr⟩ .ack)) ∧
    t = { s with
      domain := t.domain, memory := t.memory, clusters := t.clusters, rig := t.rig, coll := t.coll, dbg := t.dbg,
        blobs := t.blobs, regs := t.regs, control := t.control, commits := t.commits, clocks := t.clocks, messages
        := t.messages, ctxs := t.ctxs }) ∧
  (∀ (s : State) (x c : Nat) (r : Req) (l : List (Translated × McTarget)),
    s.working c = some x → r.op = 0x23 →
    allOk (((List.range 4).filterMap (descriptorOf r.data)).map (s.translateTarget x (r.data.drop 64).length)) =
      .ok l →
    2 ≤ l.length → r.data.drop 64 ≠ [] → (r.data.drop 64).length ≤ 4096 → (∀ a ∈ l, a.1.device ≠ s.deviceId) →
    (∀ a ∈ l, (s.portOf a.1.device).all (fun p => decide ((s.port p).state ≠ .demoted)) = true) →
    ∃ t, exec (.domainRequestIssue x c r) s = .next t ∧
    ((∀ a ∈ l, ∀ p, s.portOf a.1.device = some p → p < 64 → ∃ q ∈ t.domain.dmc.get [] (p / 16), { a.2 with
      slot := 7 + p / 16, addr := 2 ^ 40 * a.1.device + a.2.addr } ∈ q.targets ∧ q.req.data = r.data.drop 64 ∧
        q.req.op = 0x23)) ∧
    t = { s with domain := { s.domain with dmc := t.domain.dmc } }) ∧
  (∀ (s s1 : State) (x c : Nat) (r : Req),
    s.working c = some x → r.op = 0x23 → s.issueMulticast x c r = (none, s1) →
    ∃ t, exec (.domainRequestIssue x c r) s = .next t ∧ t = s1 ∧
    t = { s with
      domain := t.domain, memory := t.memory, clusters := t.clusters, rig := t.rig, coll := t.coll, dbg := t.dbg,
        blobs := t.blobs, regs := t.regs, control := t.control, commits := t.commits, clocks := t.clocks, messages
        := t.messages, ctxs := t.ctxs })

/-- Time requests are sent and answered, an exchange corrects the count, an armed doorbell rings, and a DMC_WRITE goes
out -/
def Obligations.TimeAndDoorbells : Prop :=
  (∀ (s : State) (p t1 : Nat),
    (s.port p).state = .up → s.timeMaster ≠ s.deviceId → (s.portRole p).2 = s.timeMaster →
    s.clocks.lastTimeReq + 10000 ≤ s.now → s.sends (.timeReq p s.now) = true →
    ∃ t, exec (.timeReq p t1) s = .next t ∧ t.clocks = { s.clocks with lastTimeReq := s.now } ∧
    t.control.wire = s.control.wire ++ [.timeReq p s.now] ∧ samePorts p s t ∧
    t = { s with clocks := t.clocks, control := t.control, domain := t.domain }) ∧
  (∀ (s : State) (p t1 : Nat),
    (s.port p).state = .up → (s.timeMaster = s.deviceId ∨ (s.portRole p).2 ≠ s.timeMaster) →
    s.sends (.timeRsp p t1 s.now s.now) = true →
    ∃ t, exec (.timeReq p t1) s = .next t ∧ t.control.wire = s.control.wire ++ [.timeRsp p t1 s.now s.now] ∧
    samePorts p s t ∧ t = { s with control := t.control, domain := t.domain }) ∧
  (∀ (s v s1 s2 : State) (p t1 t2 t3 t4 : Nat) (θ δ : Int),
    (s.port p).state = .up → s.timeMaster ≠ s.deviceId → (s.portRole p).2 = s.timeMaster → v = s.heard p 4 1 →
    v.divFree (((t2 : Int) - t1) + ((t3 : Int) - t4)) 2 = (θ, s1) →
    s1.divFree (((t4 : Int) - t1) - ((t3 : Int) - t2)) 2 = (δ, s2) → θ.natAbs ≤ 20 → s.clocks.fenced = false →
    ∃ t, exec (.timeRsp p t1 t2 t3 t4) s = .next t ∧ t.reg 0x822002 = (θ.emod (2 ^ 32)).toNat ∧
    t.reg 0x822003 = (δ.emod (2 ^ 32)).toNat ∧ t.clocks.count = s.clocks.count ∧
    t.clocks.goodExchanges = s.clocks.goodExchanges + 1 ∧ t.clocks.fenced = false ∧ t.clocks.halfRate = false ∧
    t.clocks.slew = (if θ < 0 then -(min θ.natAbs 2 : Int) else (min θ.natAbs 2 : Int)) ∧
    t = { v with clocks := t.clocks, regs := t.regs, freeCount := t.freeCount }) ∧
  (∀ (s v s1 s2 : State) (p t1 t2 t3 t4 : Nat) (θ δ : Int),
    (s.port p).state = .up → s.timeMaster ≠ s.deviceId → (s.portRole p).2 = s.timeMaster → v = s.heard p 4 1 →
    v.divFree (((t2 : Int) - t1) + ((t3 : Int) - t4)) 2 = (θ, s1) →
    s1.divFree (((t4 : Int) - t1) - ((t3 : Int) - t2)) 2 = (δ, s2) → 1000 < θ →
    ∃ t, exec (.timeRsp p t1 t2 t3 t4) s = .next t ∧ t.reg 0x822002 = (θ.emod (2 ^ 32)).toNat ∧
    t.reg 0x822003 = (δ.emod (2 ^ 32)).toNat ∧ t.clocks.count = s.clocks.count + θ.toNat ∧
    t.reg 0x822006 = satAdd 32 (s.reg 0x822006) 1 ∧ t.clocks.fenced = true ∧ t.clocks.goodExchanges = 0 ∧
    t.memory = s.memory ∧
    t = { v with clocks := t.clocks, regs := t.regs, freeCount := t.freeCount, control := t.control, dbg := t.dbg }) ∧
  (∀ (s v s1 s2 : State) (p t1 t2 t3 t4 : Nat) (θ δ : Int),
    (s.port p).state = .up → s.timeMaster ≠ s.deviceId → (s.portRole p).2 = s.timeMaster → v = s.heard p 4 1 →
    v.divFree (((t2 : Int) - t1) + ((t3 : Int) - t4)) 2 = (θ, s1) →
    s1.divFree (((t4 : Int) - t1) - ((t3 : Int) - t2)) 2 = (δ, s2) → θ < -1000 →
    ∃ t, exec (.timeRsp p t1 t2 t3 t4) s = .next t ∧ t.reg 0x822002 = (θ.emod (2 ^ 32)).toNat ∧
    t.reg 0x822003 = (δ.emod (2 ^ 32)).toNat ∧ t.clocks.count = s.clocks.count ∧ t.clocks.halfRate = true ∧
    t.clocks.fenced = true ∧ t.clocks.goodExchanges = 0 ∧ t.memory = s.memory ∧
    t = { v with clocks := t.clocks, regs := t.regs, freeCount := t.freeCount, control := t.control, dbg := t.dbg }) ∧
  (∀ (s : State) (n : Nat) (d : TimedRow),
    s.messages.doorbells.get {} n = d → d.state = 1 → d.time ≤ s.now → s.clocks.fenced = false →
    doorbellRefused d.ctx (s.ctx d.ctx) (BitVec.ofNat 32 d.producer) = false →
    ∃ t, exec (.timedDoorbell n) s = .next t ∧ (t.ctx d.ctx).producer = BitVec.ofNat 32 d.producer ∧
    t.messages.doorbells.get {} n = { d with state := 2 } ∧
    ((∀ m, m ≠ n → t.messages.doorbells.get {} m = s.messages.doorbells.get {} m)) ∧ sameCtxs d.ctx s t ∧
    t = { s with messages := t.messages, ctxs := t.ctxs }) ∧
  (∀ (s : State) (e p x c : Nat) (k : Packet) (rest : List Packet) (g : McTarget),
    s.domain.dmc.get [] e = k :: rest → k.targets = [g] → k.req.origin = .member x c →
    s.portOf (g.addr / 2 ^ 40) = some p →
    ((s.port p).state ≠ .demoted ∧ (s.port p).state ≠ .lost ∧ (s.port p).state ≠ .up) →
    ∃ t, exec (.dmcWrite e) s = .next t ∧ t.domain.dmc.get [] e = rest ∧
    t.domain.nextHandle = s.domain.nextHandle + 1 ∧
    t.domain.outstanding.map (fun o => (o.handle, o.port, o.device, o.req.op, o.req.ctx, o.req.addr)) =
      s.domain.outstanding.map (fun o => (o.handle, o.port, o.device, o.req.op, o.req.ctx, o.req.addr)) ++
      [(s.domain.nextHandle, p, g.addr / 2 ^ 40, 0x60, g.ctx, g.addr % 2 ^ 40)] ∧
    t.ctxs = s.ctxs ∧ t = { s with domain := t.domain, dbg := t.dbg })

/-- Requests of peers arrive and are cached, and the responses of peers complete the requests of this device -/
def Obligations.RequestsArriveAndReplies : Prop :=
  (∀ (s v : State) (p : Nat) (r q : Req) (a b : Nat),
    (s.portRole p).1 = 1 → (s.port p).state = .up → requestForm r = true →
    q = { r with origin := .peer p, addr := r.addr % 2 ^ 40 } → v = s.heard p 1 1 → r.op = 0x20 →
    s.towerFenced q = false → s.domain.homeLoads = [] → homeLines q = some (a, b) → (s.lineQueue a).inUse = false →
    s.lineBusy a b = false →
    ∃ t, exec (.requestArrival p r) s = .next t ∧ t.domain.ready = s.domain.ready ++ [{ q with ticket := none }] ∧
    t.domain.homeLoads = [HomeLoad.mk s.now { q with ticket := none } [] none] ∧
    t = { v with domain := { v.domain with ready := t.domain.ready, homeLoads := t.domain.homeLoads } }) ∧
  (∀ (s v : State) (p : Nat) (r q : Req) (a b : Nat),
    (s.portRole p).1 = 1 → (s.port p).state = .up → requestForm r = true →
    q = { r with origin := .peer p, addr := r.addr % 2 ^ 40 } → r.op ≠ 0x20 →
    (s.domain.replies.get {} (s.cacheKey p r.rid)).state = .free → s.towerFenced q = false → r.op ≠ 0x60 →
    v = s.heard p 1 1 → homeLines q = some (a, b) → (s.lineQueue a).inUse = false → s.lineBusy a b = false →
    ∃ t, exec (.requestArrival p r) s = .next t ∧ t.domain.ready = s.domain.ready ++ [{ q with ticket := none }] ∧
    t.domain.replies.get {} (s.cacheKey p r.rid) = { state := .pending, rid := r.rid, reply := none, at_ := s.now }
      ∧
    ((∀ n, n ≠ s.cacheKey p r.rid → t.domain.replies.get {} n = s.domain.replies.get {} n)) ∧
    t = { v with domain := { v.domain with ready := t.domain.ready, replies := t.domain.replies } }) ∧
  (∀ (s v : State) (p : Nat) (r q : Req),
    (s.portRole p).1 = 1 → (s.port p).state = .up → requestForm r = true →
    q = { r with origin := .peer p, addr := r.addr % 2 ^ 40 } → r.op ≠ 0x20 →
    (s.domain.replies.get {} (s.cacheKey p r.rid)).state = .free → s.towerFenced q = false → r.op = 0x60 →
    v = s.heard p 3 (flitsOf r.data.length) →
    ∃ t, exec (.requestArrival p r) s = .next t ∧
    t.domain.replies.get {} (s.cacheKey p r.rid) = { state := .pending, rid := r.rid, reply := none, at_ := s.now }
      ∧
    ((∀ n, n ≠ s.cacheKey p r.rid → t.domain.replies.get {} n = s.domain.replies.get {} n)) ∧
    t.rig.outbox = s.rig.outbox ++ [{
      src := 7 + p / 16, dst := siteOfOffset q.addr, vc := 3, stand := false, crit := false, req := { q with
        ticket := none }, targets := [], pseq := 0, stamp := 0 }] ∧
    t = { v with
      domain := { v.domain with replies := t.domain.replies }, rig := { s.rig with outbox := t.rig.outbox } }) ∧
  (∀ (s v : State) (p : Nat) (r q : Req) (e : ReplyEntry) (a : Reply),
    (s.portRole p).1 = 1 → (s.port p).state = .up → requestForm r = true →
    q = { r with origin := .peer p, addr := r.addr % 2 ^ 40 } → r.op ≠ 0x20 →
    v = (if r.op = 0x60 then s.heard p 3 (flitsOf r.data.length) else s.heard p 1 1) →
    s.sends (.reply p a) = true → s.domain.replies.get {} (s.cacheKey p r.rid) = e → e.state = .replied →
    e.rid = r.rid → e.reply = some a →
    ∃ t, exec (.requestArrival p r) s = .next t ∧ t.control.wire = s.control.wire ++ [.reply p a] ∧
    t.reg 0x801103 = satAdd 64 (s.reg 0x801103) 1 ∧ t.domain.ready = s.domain.ready ∧
    t.domain.replies = s.domain.replies ∧ samePorts p s t ∧
    t = { v with control := t.control, domain := t.domain, regs := t.regs }) ∧
  (∀ (s v s1 s2 : State) (p a : Nat) (r : Rsp) (o : Outstanding) (k : Part),
    s.answered p r = some o → o.parts = [k] → o.req.op = 0x20 → r.data.length = o.req.len → r.data ≠ [] →
    v = s.heard p 2 (flitsOf r.data.length) → s1 = (v.dropOutstanding o.handle).noteReply o →
    k.purpose = .deliver a → (s.region (zoneOf k.cluster)).stopped = false →
    s1.storeRange (clusterOffset k.cluster a) r.data (s1.requesterAt k.ctx k.cluster) = (none, s2) →
    ∃ t, exec (.loadData p r) s = .next t ∧ t = s2 ∧
    t.domain.outstanding = s.domain.outstanding.filter (fun u => u.handle ≠ o.handle)) ∧
  (∀ (s : State) (p : Nat) (r : Rsp) (o : Outstanding) (k : Part),
    s.answered p r = some o → o.parts = [k] → (o.req.op = 0x21 ∨ o.req.op = 0x22 ∨ o.req.op = 0x60) →
    (k.purpose = .discard ∨ k.purpose = .increment ∨ k.purpose = .multicast) →
    ∃ t, exec (.ack p r) s = .next t ∧ t = ((s.heard p 2 1).dropOutstanding o.handle).noteReply o ∧
    t.domain.outstanding = s.domain.outstanding.filter (fun u => u.handle ≠ o.handle) ∧ t.memory = s.memory ∧
    t.ctxs = s.ctxs) ∧
  (∀ (s v s1 s2 : State) (p a : Nat) (r : Rsp) (o : Outstanding) (k : Part),
    s.answered p r = some o → o.parts = [k] → isAtomic o.req.op = true → r.data.length = atomicSize o.req →
    v = s.heard p 2 1 → s1 = (v.dropOutstanding o.handle).noteReply o → k.purpose = .deliver a →
    (s.region (zoneOf k.cluster)).stopped = false →
    s1.storeRange (clusterOffset k.cluster a) r.data (s1.requesterAt k.ctx k.cluster) = (none, s2) →
    ∃ t, exec (.old p r) s = .next t ∧ t = s2 ∧
    t.domain.outstanding = s.domain.outstanding.filter (fun u => u.handle ≠ o.handle)) ∧
  (∀ (s : State) (p : Nat) (r : Rsp) (o : Outstanding) (k : Part),
    s.answered p r = some o → o.parts = [k] → k.purpose = .increment → (s.ctx k.ctx).state = .bound →
    ∃ t, exec (.error p r) s = .next t ∧ (t.ctx k.ctx).state = .faulted ∧ (t.ctx k.ctx).faultCode = r.code ∧
    t.domain.outstanding = s.domain.outstanding.filter (fun u => u.handle ≠ o.handle) ∧ sameCtxs k.ctx s t ∧
    t.memory = s.memory ∧
    t = { s with
      domain := t.domain, coll := t.coll, regs := t.regs, control := t.control, dbg := t.dbg, ctxs := t.ctxs,
        commits := t.commits }) ∧
  (∀ (s : State) (p : Nat) (r : Rsp) (o : Outstanding) (k : Part),
    s.answered p r = some o → o.parts = [k] → carriesRid o.req.op = true → k.purpose = .increment →
    (s.ctx k.ctx).state = .bound →
    ∃ t, exec (.expired p r) s = .next t ∧ (t.ctx k.ctx).state = .faulted ∧ (t.ctx k.ctx).faultCode = 0x0408 ∧
    t.domain.outstanding = s.domain.outstanding.filter (fun u => u.handle ≠ o.handle) ∧ sameCtxs k.ctx s t ∧
    t.memory = s.memory ∧
    t = { s with
      domain := t.domain, coll := t.coll, regs := t.regs, control := t.control, dbg := t.dbg, ctxs := t.ctxs,
        commits := t.commits }) ∧
  (∀ (s : State) (p n : Nat) (r : Rsp) (o : Outstanding),
    p < 64 → s.answered p r = some o → r.ticket = some n → s.sends (.request p o.req) = true →
    ∃ t, exec (.retry p r) s = .next t ∧
    t.control.wire = s.control.wire ++ [.request p (Outstanding.onFibre { o with
      lastRetry := some s.now, req := { o.req with ticket := some n } } (o.rid.getD 0))] ∧
    t.domain.outstanding = s.domain.outstanding.map (fun u => if u.handle = o.handle then { o with
      lastRetry := some s.now, req := { o.req with ticket := some n }, waitUntil := none, sent := some s.now } else
        u) ∧
    samePorts p s t ∧ t = { s with domain := t.domain, control := t.control }) ∧
  (∀ (s v : State) (p : Nat) (r : Rsp) (o : Outstanding),
    s.answered p r = some o → r.ticket = none → v = s.heard p 2 1 →
    ∃ t, exec (.retry p r) s = .next t ∧
    t = { v with domain := { v.domain with outstanding := t.domain.outstanding } } ∧
    t.domain.outstanding = s.domain.outstanding.map (fun u => if u.handle = o.handle then { u with
      lastRetry := some s.now, waitUntil := some (s.now + 1000) } else u))

/-- LOAD, STORE and TALLY_INC are performed at home, and queues, tickets, cache entries and deadlines run -/
def Obligations.RequestsPerformAtHome : Prop :=
  (∀ (s s1 : State) (n p : Nat) (q : Req) (d : List Byte) (h : HomeLoad),
    s.domain.ready[n]? = some q → s.notYet q = false → s.targetExists q = true → q.origin = .peer p →
    (s.port p).state ≠ .lost → (s.port p).state ≠ .down → q.op = 0x20 → reducible q.addr = true →
    ({ s with domain := { s.domain with ready := dropAt n s.domain.ready } } : State).loadRange q.addr q.len
      (s.originRequester q) = (.ok d, s1) →
    s.domain.homeLoads = [h] → h.load = q → h.joined = [] → h.result = none →
    s.sends (.reply p ⟨0x40, ⟨q.rid, q.tag, d, none, 0⟩⟩) = true →
    ∃ t, exec (.load n) s = .next t ∧ t.memory = s1.memory ∧ t.domain.ready = dropAt n s.domain.ready ∧
    t.control.wire = s1.control.wire ++ [.reply p ⟨0x40, ⟨q.rid, q.tag, d, none, 0⟩⟩] ∧
    t.domain.homeLoads = [{ h with result := some d }] ∧ t = { s1 with domain := t.domain, control := t.control }) ∧
  (∀ (s s1 : State) (n p : Nat) (q : Req),
    s.domain.ready[n]? = some q → s.notYet q = false → s.targetExists q = true → q.origin = .peer p →
    (s.port p).state ≠ .lost → (s.port p).state ≠ .down → q.op = 0x21 → reducible q.addr = true →
    ({ s with domain := { s.domain with ready := dropAt n s.domain.ready } } : State).storeRange q.addr q.data
      (s.originRequester q) = (none, s1) →
    s.sends (.reply p ⟨0x41, ⟨q.rid, q.tag, [], none, 0⟩⟩) = true →
    ∃ t, exec (.store n) s = .next t ∧ t.memory = s1.memory ∧ t.domain.ready = dropAt n s.domain.ready ∧
    t.control.wire = s1.control.wire ++ [.reply p ⟨0x41, ⟨q.rid, q.tag, [], none, 0⟩⟩] ∧
    (((s.domain.replies.get {} (s.cacheKey p q.rid)).state = .pending → (s.domain.replies.get {} (s.cacheKey p
      q.rid)).rid = q.rid → (t.domain.replies.get {} (s.cacheKey p q.rid)).state = .replied)) ∧
    t.ctxs = s1.ctxs ∧ t = { s1 with domain := t.domain, control := t.control }) ∧
  (∀ (s s1 s2 : State) (n p : Nat) (q : Req) (b : List Byte),
    s.domain.ready[n]? = some q → s.notYet q = false → s.targetExists q = true → q.origin = .peer p →
    (s.port p).state ≠ .lost → (s.port p).state ≠ .down → q.op = 0x22 → (s.ctx q.ctx).clusterLost = false →
    s.deliveryOf q.ctx (refCluster q.ref) = .memory → s.belled = false →
    (s.region (zoneOf (refCluster q.ref))).stopped = false →
    s.sends (.reply p ⟨0x41, ⟨q.rid, q.tag, [], none, 0⟩⟩) = true →
    ({ s with domain := { s.domain with ready := dropAt n s.domain.ready } } : State).loadRange (refOffset q.ref
      (refCluster q.ref)) 4 (s.originRequester q) = (.ok b, s1) →
    s1.storeRange (refOffset q.ref (refCluster q.ref)) (leBytes 4 (leNat b + q.refAmt)) (s.originRequester q) =
      (none, s2) →
    ∃ t, exec (.tallyInc n) s = .next t ∧ t.memory = s2.memory ∧ t.domain.ready = dropAt n s.domain.ready ∧
    t.control.wire = s2.control.wire ++ [.reply p ⟨0x41, ⟨q.rid, q.tag, [], none, 0⟩⟩] ∧
    (((s.domain.replies.get {} (s.cacheKey p q.rid)).state = .pending → (s.domain.replies.get {} (s.cacheKey p
      q.rid)).rid = q.rid → (t.domain.replies.get {} (s.cacheKey p q.rid)).state = .replied)) ∧
    t.ctxs = s2.ctxs ∧ t = { s2 with domain := t.domain, control := t.control }) ∧
  (∀ (s s1 : State) (l p n : Nat) (q : Req) (rest : List QueueEntry) (a : Answer),
    (s.lineQueue l).entries = { parts := [q], order := n } :: rest →
    s.entryBlocked l { parts := [q], order := n } = false → s.notYet q = false → q.origin = .peer p → q.op ≠ 0x20 →
    (s.port p).state ≠ .lost → (s.port p).state ≠ .down → s.performOne q = (a, s1) →
    s.sends (.reply p (responseTo q a)) = true →
    ∃ t, exec (.lineQueueApply l) s = .next t ∧ t.memory = s1.memory ∧
    (((∀ o ∈ s.domain.outstanding, o.port = 0xFF → o.req.ticket = none) → (t.lineQueue l).entries = rest)) ∧
    t.control.wire = s1.control.wire ++ [.reply p (responseTo q a)] ∧ t.ctxs = s1.ctxs ∧
    t = { s1 with domain := t.domain, control := t.control, regs := t.regs }) ∧
  (∀ (s : State) (l : Nat) (h : TicketHeld),
    (s.lineQueue l).tickets.find? (fun k => match k.reserved with | some u => decide (u ≤ s.now) | none => false) =
      some h →
    ((s.lineQueue l).tickets.map (·.ticket)).Nodup →
    ∃ t, exec (.ticketReservationExpiry l) s = .next t ∧
    (((∀ o ∈ s.domain.outstanding, o.port = 0xFF → o.req.ticket = none) → (t.lineQueue l).tickets.map (fun k =>
      (k.ticket, k.at_)) = (s.lineQueue l).tickets.map (fun k => (k.ticket, k.at_)))) ∧
    (((∀ o ∈ s.domain.outstanding, o.port = 0xFF → o.req.ticket = none) → ∀ k ∈ (t.lineQueue l).tickets, k.ticket =
      h.ticket → k.reserved = none)) ∧
    (((∀ o ∈ s.domain.outstanding, o.port = 0xFF → o.req.ticket = none) → (t.lineQueue l).entries = (s.lineQueue
      l).entries)) ∧
    t = { s with domain := t.domain, regs := t.regs }) ∧
  (∀ (s : State) (l n : Nat) (h : TicketHeld),
    (s.lineQueue l).tickets.find? (fun k => k.ticket = n && decide (k.at_ + 200000 ≤ s.now)) = some h →
    s.holdsTicket l n = false →
    ∃ t, exec (.ticketLapse l n) s = .next t ∧ (∀ k ∈ (t.lineQueue l).tickets, k.ticket ≠ n) ∧
    t.reg 0x801204 = satAdd 32 (s.reg 0x801204) 1 ∧ t = { s with domain := t.domain, regs := t.regs }) ∧
  (∀ (s : State) (d e : Nat),
    (s.domain.replies.get {} (4096 * d + e % 4096)).state = .replied →
    (s.domain.replies.get {} (4096 * d + e % 4096)).at_ + 1000 * s.reg 0x801003 ≤ s.now →
    ∃ t, exec (.replyCacheExpiry d e) s = .next t ∧
    t.domain.replies.get {} (4096 * d + e % 4096) = {
      s.domain.replies.get {} (4096 * d + e % 4096) with state := .expired } ∧
    ((∀ n, n ≠ 4096 * d + e % 4096 → t.domain.replies.get {} n = s.domain.replies.get {} n)) ∧
    t = { s with domain := { s.domain with replies := t.domain.replies } }) ∧
  (∀ (s : State) (n t0 : Nat) (o : Outstanding),
    s.domain.outstanding.find? (fun o => o.handle = n && !o.frozen) = some o → o.waitUntil = some t0 → t0 ≤ s.now →
    s.now ≤ s.deadline o → o.port ≠ 0xFF → (s.port o.port).state = .up → s.sends (.request o.port o.req) = true →
    ∃ t, exec (.unticketedRetryResend n) s = .next t ∧
    t.control.wire = s.control.wire ++ [.request o.port (o.onFibre (o.rid.getD 0))] ∧
    t.domain.outstanding = s.domain.outstanding.map (fun u => if u.handle = n then { u with
      waitUntil := none, sent := some s.now } else u) ∧
    samePorts o.port s t ∧ t = { s with domain := t.domain, control := t.control }) ∧
  (∀ (s : State) (p : Nat),
    p < 64 → (s.port p).state = .up →
    ∃ t, exec (.requestResend p) s = .next t ∧ (t.port p).resendDue = false ∧
    ((∀ o ∈ s.domain.outstanding, o.port = p → o.frozen = false → s.now ≤ s.deadline o → o.waitUntil = none → (∃
      t0, o.sent = some t0 ∧ ((s.port p).resendDue = true ∨ t0 + 1000 * s.reg 0x801001 ≤ s.now)) → .request o.port
      (o.onFibre (o.rid.getD 0)) ∈ t.control.wire ∨ .request o.port (o.onFibre (o.rid.getD 0)) ∈ (t.port
      p).waiting)) ∧
    samePorts p s t ∧ t.memory = s.memory ∧ t = { s with domain := t.domain, control := t.control, regs := t.regs }) ∧
  (∀ (s : State) (n : Nat) (o : Outstanding) (k : Part),
    s.domain.outstanding.find? (fun o => o.handle = n && !o.frozen && decide (o.port ≠ 0xFF)) = some o →
    s.deadline o < s.now → o.parts = [k] → k.purpose = .increment → (s.ctx k.ctx).state = .bound →
    ∃ t, exec (.requestDeadline n) s = .next t ∧ (t.ctx k.ctx).state = .faulted ∧
    (t.ctx k.ctx).faultCode = 0x0407 ∧ t.domain.outstanding = s.domain.outstanding.filter (fun u => u.handle ≠ n) ∧
    t.reg 0x801109 = satAdd 32 (s.reg 0x801109) 1 ∧ sameCtxs k.ctx s t ∧ t.memory = s.memory ∧
    t = { s with
      domain := t.domain, coll := t.coll, regs := t.regs, control := t.control, dbg := t.dbg, ctxs := t.ctxs,
        commits := t.commits })

/-- ADD, MIN, MAX, SWAP, CAS, OR and AND store their result and answer the old value -/
def Obligations.IntegerAtomicsRun : Prop :=
  (∀ (s s1 s2 : State) (n p : Nat) (q : Req) (old b : List Byte),
    s.domain.ready[n]? = some q → s.notYet q = false → s.targetExists q = true → q.origin = .peer p →
    (s.port p).state ≠ .lost → (s.port p).state ≠ .down → q.op = 0x28 → reducible q.addr = true →
    ({ s with domain := { s.domain with ready := dropAt n s.domain.ready } } : State).loadRange q.addr (atomicSize
      q) (s.originRequester q) = (.ok old, s1) →
    b = subBytes q.data 0 (atomicSize q) → s.sends (.reply p ⟨0x42, ⟨q.rid, q.tag, old, none, 0⟩⟩) = true →
    s1.storeRange q.addr (leBytes (atomicSize q) (leNat old + leNat b)) (s.originRequester q) = (none, s2) →
    ∃ t, exec (.add n) s = .next t ∧ t.memory = s2.memory ∧ t.domain.ready = dropAt n s.domain.ready ∧
    t.control.wire = s2.control.wire ++ [.reply p ⟨0x42, ⟨q.rid, q.tag, old, none, 0⟩⟩] ∧
    (((s.domain.replies.get {} (s.cacheKey p q.rid)).state = .pending → (s.domain.replies.get {} (s.cacheKey p
      q.rid)).rid = q.rid → (t.domain.replies.get {} (s.cacheKey p q.rid)).state = .replied)) ∧
    t.ctxs = s2.ctxs ∧ t = { s2 with domain := t.domain, control := t.control }) ∧
  (∀ (s s1 s2 : State) (n p : Nat) (q : Req) (old b : List Byte) (less : Bool),
    s.domain.ready[n]? = some q → s.notYet q = false → s.targetExists q = true → q.origin = .peer p →
    (s.port p).state ≠ .lost → (s.port p).state ≠ .down → q.op = 0x29 → reducible q.addr = true →
    ({ s with domain := { s.domain with ready := dropAt n s.domain.ready } } : State).loadRange q.addr (atomicSize
      q) (s.originRequester q) = (.ok old, s1) →
    b = subBytes q.data 0 (atomicSize q) → s.sends (.reply p ⟨0x42, ⟨q.rid, q.tag, old, none, 0⟩⟩) = true →
    less = (if q.signed then decide (signedOf (8 * atomicSize q) (leNat old) < signedOf (8 * atomicSize q) (leNat
      b)) else decide (leNat old < leNat b)) →
    s1.storeRange q.addr (if less then old else b) (s.originRequester q) = (none, s2) →
    ∃ t, exec (.min n) s = .next t ∧ t.memory = s2.memory ∧ t.domain.ready = dropAt n s.domain.ready ∧
    t.control.wire = s2.control.wire ++ [.reply p ⟨0x42, ⟨q.rid, q.tag, old, none, 0⟩⟩] ∧
    (((s.domain.replies.get {} (s.cacheKey p q.rid)).state = .pending → (s.domain.replies.get {} (s.cacheKey p
      q.rid)).rid = q.rid → (t.domain.replies.get {} (s.cacheKey p q.rid)).state = .replied)) ∧
    t.ctxs = s2.ctxs ∧ t = { s2 with domain := t.domain, control := t.control }) ∧
  (∀ (s s1 s2 : State) (n p : Nat) (q : Req) (old b : List Byte) (less : Bool),
    s.domain.ready[n]? = some q → s.notYet q = false → s.targetExists q = true → q.origin = .peer p →
    (s.port p).state ≠ .lost → (s.port p).state ≠ .down → q.op = 0x2A → reducible q.addr = true →
    ({ s with domain := { s.domain with ready := dropAt n s.domain.ready } } : State).loadRange q.addr (atomicSize
      q) (s.originRequester q) = (.ok old, s1) →
    b = subBytes q.data 0 (atomicSize q) → s.sends (.reply p ⟨0x42, ⟨q.rid, q.tag, old, none, 0⟩⟩) = true →
    less = (if q.signed then decide (signedOf (8 * atomicSize q) (leNat old) < signedOf (8 * atomicSize q) (leNat
      b)) else decide (leNat old < leNat b)) →
    s1.storeRange q.addr (if less then b else old) (s.originRequester q) = (none, s2) →
    ∃ t, exec (.max n) s = .next t ∧ t.memory = s2.memory ∧ t.domain.ready = dropAt n s.domain.ready ∧
    t.control.wire = s2.control.wire ++ [.reply p ⟨0x42, ⟨q.rid, q.tag, old, none, 0⟩⟩] ∧
    (((s.domain.replies.get {} (s.cacheKey p q.rid)).state = .pending → (s.domain.replies.get {} (s.cacheKey p
      q.rid)).rid = q.rid → (t.domain.replies.get {} (s.cacheKey p q.rid)).state = .replied)) ∧
    t.ctxs = s2.ctxs ∧ t = { s2 with domain := t.domain, control := t.control }) ∧
  (∀ (s s1 s2 : State) (n p : Nat) (q : Req) (old b : List Byte),
    s.domain.ready[n]? = some q → s.notYet q = false → s.targetExists q = true → q.origin = .peer p →
    (s.port p).state ≠ .lost → (s.port p).state ≠ .down → q.op = 0x2B → reducible q.addr = true →
    ({ s with domain := { s.domain with ready := dropAt n s.domain.ready } } : State).loadRange q.addr (atomicSize
      q) (s.originRequester q) = (.ok old, s1) →
    b = subBytes q.data 0 (atomicSize q) → s.sends (.reply p ⟨0x42, ⟨q.rid, q.tag, old, none, 0⟩⟩) = true →
    s1.storeRange q.addr (b) (s.originRequester q) = (none, s2) →
    ∃ t, exec (.swap n) s = .next t ∧ t.memory = s2.memory ∧ t.domain.ready = dropAt n s.domain.ready ∧
    t.control.wire = s2.control.wire ++ [.reply p ⟨0x42, ⟨q.rid, q.tag, old, none, 0⟩⟩] ∧
    (((s.domain.replies.get {} (s.cacheKey p q.rid)).state = .pending → (s.domain.replies.get {} (s.cacheKey p
      q.rid)).rid = q.rid → (t.domain.replies.get {} (s.cacheKey p q.rid)).state = .replied)) ∧
    t.ctxs = s2.ctxs ∧ t = { s2 with domain := t.domain, control := t.control }) ∧
  (∀ (s s1 s2 : State) (n p : Nat) (q : Req) (old b : List Byte),
    s.domain.ready[n]? = some q → s.notYet q = false → s.targetExists q = true → q.origin = .peer p →
    (s.port p).state ≠ .lost → (s.port p).state ≠ .down → q.op = 0x2C → reducible q.addr = true →
    ({ s with domain := { s.domain with ready := dropAt n s.domain.ready } } : State).loadRange q.addr (atomicSize
      q) (s.originRequester q) = (.ok old, s1) →
    b = subBytes q.data 0 (atomicSize q) → s.sends (.reply p ⟨0x42, ⟨q.rid, q.tag, old, none, 0⟩⟩) = true →
    s1.storeRange q.addr (if old = subBytes q.data (atomicSize q) (atomicSize q) then b else old)
      (s.originRequester q) = (none, s2) →
    ∃ t, exec (.cas n) s = .next t ∧ t.memory = s2.memory ∧ t.domain.ready = dropAt n s.domain.ready ∧
    t.control.wire = s2.control.wire ++ [.reply p ⟨0x42, ⟨q.rid, q.tag, old, none, 0⟩⟩] ∧
    (((s.domain.replies.get {} (s.cacheKey p q.rid)).state = .pending → (s.domain.replies.get {} (s.cacheKey p
      q.rid)).rid = q.rid → (t.domain.replies.get {} (s.cacheKey p q.rid)).state = .replied)) ∧
    t.ctxs = s2.ctxs ∧ t = { s2 with domain := t.domain, control := t.control }) ∧
  (∀ (s s1 s2 : State) (n p : Nat) (q : Req) (old b : List Byte),
    s.domain.ready[n]? = some q → s.notYet q = false → s.targetExists q = true → q.origin = .peer p →
    (s.port p).state ≠ .lost → (s.port p).state ≠ .down → q.op = 0x2D → reducible q.addr = true →
    ({ s with domain := { s.domain with ready := dropAt n s.domain.ready } } : State).loadRange q.addr (atomicSize
      q) (s.originRequester q) = (.ok old, s1) →
    b = subBytes q.data 0 (atomicSize q) → s.sends (.reply p ⟨0x42, ⟨q.rid, q.tag, old, none, 0⟩⟩) = true →
    s1.storeRange q.addr (leBytes (atomicSize q) (Nat.lor (leNat old) (leNat b))) (s.originRequester q) = (none, s2) →
    ∃ t, exec (.or n) s = .next t ∧ t.memory = s2.memory ∧ t.domain.ready = dropAt n s.domain.ready ∧
    t.control.wire = s2.control.wire ++ [.reply p ⟨0x42, ⟨q.rid, q.tag, old, none, 0⟩⟩] ∧
    (((s.domain.replies.get {} (s.cacheKey p q.rid)).state = .pending → (s.domain.replies.get {} (s.cacheKey p
      q.rid)).rid = q.rid → (t.domain.replies.get {} (s.cacheKey p q.rid)).state = .replied)) ∧
    t.ctxs = s2.ctxs ∧ t = { s2 with domain := t.domain, control := t.control }) ∧
  (∀ (s s1 s2 : State) (n p : Nat) (q : Req) (old b : List Byte),
    s.domain.ready[n]? = some q → s.notYet q = false → s.targetExists q = true → q.origin = .peer p →
    (s.port p).state ≠ .lost → (s.port p).state ≠ .down → q.op = 0x2E → reducible q.addr = true →
    ({ s with domain := { s.domain with ready := dropAt n s.domain.ready } } : State).loadRange q.addr (atomicSize
      q) (s.originRequester q) = (.ok old, s1) →
    b = subBytes q.data 0 (atomicSize q) → s.sends (.reply p ⟨0x42, ⟨q.rid, q.tag, old, none, 0⟩⟩) = true →
    s1.storeRange q.addr (leBytes (atomicSize q) (Nat.land (leNat old) (leNat b))) (s.originRequester q) = (none,
      s2) →
    ∃ t, exec (.and n) s = .next t ∧ t.memory = s2.memory ∧ t.domain.ready = dropAt n s.domain.ready ∧
    t.control.wire = s2.control.wire ++ [.reply p ⟨0x42, ⟨q.rid, q.tag, old, none, 0⟩⟩] ∧
    (((s.domain.replies.get {} (s.cacheKey p q.rid)).state = .pending → (s.domain.replies.get {} (s.cacheKey p
      q.rid)).rid = q.rid → (t.domain.replies.get {} (s.cacheKey p q.rid)).state = .replied)) ∧
    t.ctxs = s2.ctxs ∧ t = { s2 with domain := t.domain, control := t.control })

/-- FADD32, BADD16 and IADD32 add lane by lane and leave the skipped lanes as they are -/
def Obligations.LaneAtomicsRun : Prop :=
  (∀ (s s1 s2 : State) (n p : Nat) (q : Req) (old b : List Byte),
    s.domain.ready[n]? = some q → s.notYet q = false → s.targetExists q = true → q.origin = .peer p →
    (s.port p).state ≠ .lost → (s.port p).state ≠ .down → q.op = 0x2F → reducible q.addr = true →
    ({ s with domain := { s.domain with ready := dropAt n s.domain.ready } } : State).loadRange q.addr (atomicSize
      q) (s.originRequester q) = (.ok old, s1) →
    b = subBytes q.data 0 (atomicSize q) → s.sends (.reply p ⟨0x42, ⟨q.rid, q.tag, old, none, 0⟩⟩) = true →
    s1.storeRange q.addr (((lanesOf 4 old).mapIdx (fun j l => if (decide (atomicSize q = 8) && decide (j < 2) &&
      q.skip.getLsbD j) = true then l else leBytes 4 ((fp32Add (BitVec.ofNat 32 (leNat l)) (BitVec.ofNat 32 (leNat
      (subBytes b (4 * j) 4)))).toNat))).flatten) (s.originRequester q) = (none, s2) →
    ∃ t, exec (.fadd32 n) s = .next t ∧ t.memory = s2.memory ∧ t.domain.ready = dropAt n s.domain.ready ∧
    t.control.wire = s2.control.wire ++ [.reply p ⟨0x42, ⟨q.rid, q.tag, old, none, 0⟩⟩] ∧
    (((s.domain.replies.get {} (s.cacheKey p q.rid)).state = .pending → (s.domain.replies.get {} (s.cacheKey p
      q.rid)).rid = q.rid → (t.domain.replies.get {} (s.cacheKey p q.rid)).state = .replied)) ∧
    t.ctxs = s2.ctxs ∧ t = { s2 with domain := t.domain, control := t.control }) ∧
  (∀ (s s1 s2 : State) (n p : Nat) (q : Req) (old b : List Byte),
    s.domain.ready[n]? = some q → s.notYet q = false → s.targetExists q = true → q.origin = .peer p →
    (s.port p).state ≠ .lost → (s.port p).state ≠ .down → q.op = 0x30 → reducible q.addr = true →
    ({ s with domain := { s.domain with ready := dropAt n s.domain.ready } } : State).loadRange q.addr (atomicSize
      q) (s.originRequester q) = (.ok old, s1) →
    b = subBytes q.data 0 (atomicSize q) → s.sends (.reply p ⟨0x42, ⟨q.rid, q.tag, old, none, 0⟩⟩) = true →
    s1.storeRange q.addr (((lanesOf 2 old).mapIdx (fun j l => if (decide (atomicSize q = 8) && decide (j < 4) &&
      q.skip.getLsbD j) = true then l else leBytes 2 (bf16Add (leNat l) (leNat (subBytes b (2 * j) 2))))).flatten)
      (s.originRequester q) = (none, s2) →
    ∃ t, exec (.badd16 n) s = .next t ∧ t.memory = s2.memory ∧ t.domain.ready = dropAt n s.domain.ready ∧
    t.control.wire = s2.control.wire ++ [.reply p ⟨0x42, ⟨q.rid, q.tag, old, none, 0⟩⟩] ∧
    (((s.domain.replies.get {} (s.cacheKey p q.rid)).state = .pending → (s.domain.replies.get {} (s.cacheKey p
      q.rid)).rid = q.rid → (t.domain.replies.get {} (s.cacheKey p q.rid)).state = .replied)) ∧
    t.ctxs = s2.ctxs ∧ t = { s2 with domain := t.domain, control := t.control }) ∧
  (∀ (s s1 s2 : State) (n p : Nat) (q : Req) (old b : List Byte),
    s.domain.ready[n]? = some q → s.notYet q = false → s.targetExists q = true → q.origin = .peer p →
    (s.port p).state ≠ .lost → (s.port p).state ≠ .down → q.op = 0x31 → reducible q.addr = true →
    ({ s with domain := { s.domain with ready := dropAt n s.domain.ready } } : State).loadRange q.addr (atomicSize
      q) (s.originRequester q) = (.ok old, s1) →
    b = subBytes q.data 0 (atomicSize q) → s.sends (.reply p ⟨0x42, ⟨q.rid, q.tag, old, none, 0⟩⟩) = true →
    s1.storeRange q.addr (((lanesOf 4 old).mapIdx (fun j l => if (decide (atomicSize q = 8) && decide (j < 2) &&
      q.skip.getLsbD j) = true then l else leBytes 4 (leNat l + leNat (subBytes b (4 * j) 4)))).flatten)
      (s.originRequester q) = (none, s2) →
    ∃ t, exec (.iadd32 n) s = .next t ∧ t.memory = s2.memory ∧ t.domain.ready = dropAt n s.domain.ready ∧
    t.control.wire = s2.control.wire ++ [.reply p ⟨0x42, ⟨q.rid, q.tag, old, none, 0⟩⟩] ∧
    (((s.domain.replies.get {} (s.cacheKey p q.rid)).state = .pending → (s.domain.replies.get {} (s.cacheKey p
      q.rid)).rid = q.rid → (t.domain.replies.get {} (s.cacheKey p q.rid)).state = .replied)) ∧
    t.ctxs = s2.ctxs ∧ t = { s2 with domain := t.domain, control := t.control })

/-- OPEN, CLOSE, RESUME, PARK, DETACH and ATTACH change their context as R113 and R144 to R146 say -/
def Obligations.ContextActionsRun : Prop :=
  (∀ (s : State) (x : Nat),
    s.boot.rigLost = false → x ≠ 0 → (s.ctx x).pendingAction = none → (s.ctx x).state = .closed →
    openable (s.ctx x) = true →
    ∃ t, exec (.openOp x) s = .next t ∧ (t.ctx x).state = .opened ∧ (t.ctx x).actionStatus = 0 ∧
    (t.ctx x).completed = 0 ∧ (t.ctx x).boundTime = 0 ∧ (t.ctx x).consumer = (s.ctx x).consumer ∧
    (t.ctx x).producer = (s.ctx x).producer ∧
    (∀ c ∈ (s.ctx x).cls, memberOf (t.ctx x) c = { next := (s.ctx x).consumer.toNat, phase := .idle }) ∧
    sameCtxs x s t ∧ t = { s with ctxs := t.ctxs, dbg := t.dbg }) ∧
  (∀ (s : State) (x : Nat),
    s.boot.rigLost = false → x ≠ 0 → (s.ctx x).pendingAction ≠ some .close → (s.ctx x).state ≠ .saving →
    (s.ctx x).state ≠ .restoring → (s.ctx x).saveRunning = false → (s.ctx x).restoreRunning = false →
    ∃ t, exec (.close x) s = .next t ∧ (t.ctx x).state = (s.ctx x).state ∧ (t.ctx x).pendingAction = some .close ∧
    (t.ctx x).actionStatus = 1 ∧ (t.ctx x).zeroing = true ∧ (t.ctx x).producer = (s.ctx x).consumer ∧
    ((∀ n, n < 64 → t.window x n = {})) ∧ (∀ e ∈ t.messages.inboxes.entries, e.2.owner ≠ x) ∧
    (∀ o ∈ t.domain.outstanding, ∀ p ∈ o.parts, p.ctx ≠ x) ∧ sameCtxs x s t ∧
    t = { s with
      ctxs := t.ctxs, domain := t.domain, messages := t.messages, coll := t.coll, regs := t.regs, commits :=
        t.commits }) ∧
  (∀ (s : State) (x : Nat),
    memoryCanonical s → (s.ctx x).zeroing = true →
    ∃ t, exec (.closeComplete x) s = .next t ∧ (t.ctx x).state = .closed ∧ (t.ctx x).pendingAction = none ∧
    (t.ctx x).producer = 0 ∧ (t.ctx x).consumer = 0 ∧ (t.ctx x).faultCode = 0 ∧ (t.ctx x).holds = false ∧
    ((∀ a, (s.ctx x).saveBase ≤ a → a < (s.ctx x).saveBase + (s.ctx x).saveSize → t.memory.cells.read a = 0)) ∧
    ((∀ c ∈ (s.ctx x).cls, (s.cluster c).bound = some x → (t.cluster c).bound = none ∧ t.core c = {} ∧ ∀ a, a <
      0x300000 → t.memory.cells.read (clusterOffset c 0 + a) = 0)) ∧
    ((∀ a, (a < (s.ctx x).saveBase ∨ (s.ctx x).saveBase + (s.ctx x).saveSize ≤ a) → (∀ c ∈ (s.ctx x).cls,
      (s.cluster c).bound = some x → a < clusterOffset c 0 ∨ clusterOffset c 0 + 0x300000 ≤ a) →
      t.memory.cells.read a = s.memory.cells.read a)) ∧
    sameCtxs x s t ∧
    t = { s with memory := t.memory, clusters := t.clusters, dbg := t.dbg, clocks := t.clocks, ctxs := t.ctxs }) ∧
  (∀ (s : State) (x : Nat),
    s.boot.rigLost = false → x ≠ 0 → (s.ctx x).pendingAction = none → (s.ctx x).state = .faulted →
    (s.ctx x).saveRunning = false → (s.ctx x).restoreRunning = false → (s.ctx x).clusterLost = false →
    pendingCommand (s.ctx x) (s.ctx x).faultCommand = true → (s.ctx x).faultCommand = (s.ctx x).consumer.toNat →
    descriptorAt (s.ctx x) (ringNext (s.ctx x).faultCommand) = none →
    (s.ctx x).skip.contains (ringNext (s.ctx x).faultCommand) = false →
    (descriptorAt (s.ctx x) (s.ctx x).faultCommand).all (fun d => decide (dOpcode d ≠ 9)) = true →
    ∃ t, exec (.resume x) s = .next t ∧ (t.ctx x).state = (if (s.ctx x).holds = true then .bound else .parked) ∧
    (t.ctx x).actionStatus = 0 ∧ (t.ctx x).consumer = (s.ctx x).consumer + 1 ∧
    (t.ctx x).completed = satAdd 64 (s.ctx x).completed 1 ∧ (t.ctx x).ending = false ∧
    (((s.ctx x).holds = true → ∀ c ∈ (s.ctx x).cls, (memberOf (s.ctx x) c).next = (s.ctx x).faultCommand → (t.core
      c).run = none ∧ (t.core c).meQueue = [] ∧ (t.core c).acc = (s.core c).acc)) ∧
    (((s.ctx x).holds = true → ∀ c ∈ (s.ctx x).cls, (memberOf (s.ctx x) c).next ≠ (s.ctx x).faultCommand → t.core c
      = Core.unsuspended (s.core c))) ∧
    t.memory.cells = s.memory.cells ∧ sameCtxs x s t ∧
    t = { s with ctxs := t.ctxs, clusters := t.clusters, memory := t.memory, dbg := t.dbg }) ∧
  (∀ (s : State) (x : Nat),
    s.boot.rigLost = false → x ≠ 0 → (s.ctx x).pendingAction = none → (s.ctx x).state = .faulted →
    (s.ctx x).saveRunning = false → (s.ctx x).restoreRunning = false → (s.ctx x).clusterLost = false →
    pendingCommand (s.ctx x) (s.ctx x).faultCommand = true →
    passedBy (Ctx.resumed (s.ctx x) s.now) (s.ctx x).consumer.toNat = false →
    ∃ t, exec (.resume x) s = .next t ∧ (t.ctx x).state = (if (s.ctx x).holds = true then .bound else .parked) ∧
    (t.ctx x).actionStatus = 0 ∧ (t.ctx x).consumer = (s.ctx x).consumer ∧
    (t.ctx x).skip.contains (s.ctx x).faultCommand = true ∧ (t.ctx x).ending = false ∧
    (((s.ctx x).holds = true → ∀ c ∈ (s.ctx x).cls, (memberOf (s.ctx x) c).next = (s.ctx x).faultCommand → (t.core
      c).run = none ∧ (t.core c).meQueue = [] ∧ (t.core c).acc = (s.core c).acc)) ∧
    (((s.ctx x).holds = true → ∀ c ∈ (s.ctx x).cls, (memberOf (s.ctx x) c).next ≠ (s.ctx x).faultCommand → t.core c
      = Core.unsuspended (s.core c))) ∧
    t.memory.cells = s.memory.cells ∧ sameCtxs x s t ∧
    t = { s with ctxs := t.ctxs, clusters := t.clusters, memory := t.memory, dbg := t.dbg }) ∧
  (∀ (s : State) (x : Nat),
    s.boot.rigLost = false → x ≠ 0 → (s.ctx x).pendingAction = none → (s.ctx x).state = .bound →
    commandBoundary (s.ctx x) = false →
    ∃ t, exec (.park x) s = .next t ∧ t.ctx x = { s.ctx x with pendingAction := some .park, actionStatus := 1 } ∧
    sameCtxs x s t ∧ t = { s with ctxs := t.ctxs }) ∧
  (∀ (s : State) (x : Nat),
    s.boot.rigLost = false → x ≠ 0 → (s.ctx x).pendingAction = none → (s.ctx x).state = .bound →
    commandBoundary (s.ctx x) = true → (s.ctx x).ending = false → s.defers x = false → (s.ctx x).pendingSeed = none →
    ∃ t, exec (.park x) s = .next t ∧
    t.ctx x = { s.ctx x with pendingAction := some .park, actionStatus := 1, ending := true } ∧ sameCtxs x s t ∧
    t = { s with ctxs := t.ctxs, coll := t.coll }) ∧
  (∀ (s : State) (x : Nat),
    s.boot.rigLost = false → x ≠ 0 → (s.ctx x).pendingAction = none → (s.ctx x).state = .parked →
    s.doorsOpen x = false →
    ∃ t, exec (.detach x) s = .next t ∧ (t.ctx x).state = .closed ∧ (t.ctx x).actionStatus = 0 ∧
    t.memory = (s.writeHeader x 3 (leNat (s.held ((s.ctx x).saveBase + 0x80) 8))).memory ∧ sameCtxs x s t ∧
    t = { s with
      ctxs := t.ctxs, memory := t.memory, clusters := t.clusters, blobs := t.blobs, regs := t.regs, control :=
        t.control, dbg := t.dbg }) ∧
  (∀ (s s1 s2 : State) (x : Nat) (h : List Byte),
    s.boot.rigLost = false → x ≠ 0 → (s.ctx x).pendingAction = none → (s.ctx x).state = .closed →
    s.loadRange (s.ctx x).saveBase 144 hubRequester = (.ok h, s2) →
    s.loadRange ((s.ctx x).saveBase + 0x800) 144 hubRequester = (.ok (complementBytes h), s1) → field h 0 2 = x →
    subBytes h 0x10 100 = bytesOfClass (s.ctx x).cls →
    ∃ t, exec (.attach x) s = .next t ∧ (t.ctx x).state = .parked ∧ (t.ctx x).actionStatus = 0 ∧
    (t.ctx x).consumer = BitVec.ofNat 32 (field h 8 4) ∧ (t.ctx x).producer = BitVec.ofNat 32 (field h 8 4) ∧
    t.memory = s1.memory ∧ sameCtxs x s1 t ∧ t = { s1 with ctxs := t.ctxs, dbg := t.dbg })

/-- Periods end, contexts are bound, saved and restored as R137 to R143 say -/
def Obligations.SchedulerRuns : Prop :=
  (∀ (s : State) (x : Nat),
    s.belled = false → (s.ctx x).state = .bound → (s.ctx x).ending = false →
    (s.ctx x).periodStart + 1000 * (s.ctx x).period ≤ s.now → (s.ctx x).deferredSince = none → s.wanted x = false →
    ∃ t, exec (.periodEnd x) s = .next t ∧ (t.ctx x).periodStart = s.now ∧ (t.ctx x).state = .bound ∧
    (t.ctx x).ending = false ∧ t = { s with ctxs := t.ctxs }) ∧
  (∀ (s : State) (x : Nat),
    s.belled = false → (s.ctx x).state = .bound → (s.ctx x).ending = false →
    (s.ctx x).periodStart + 1000 * (s.ctx x).period ≤ s.now → (s.ctx x).deferredSince = none → s.wanted x = true →
    s.defers x = false →
    ∃ t, exec (.periodEnd x) s = .next t ∧ t.ctx x = { s.ctx x with ending := true } ∧
    (∀ y, (t.ctx y).state = (s.ctx y).state) ∧ t = { s with ctxs := t.ctxs, coll := t.coll }) ∧
  (∀ (s : State) (x : Nat),
    s.belled = false → (s.ctx x).state = .bound → (s.ctx x).ending = false →
    (s.ctx x).producer = (s.ctx x).consumer →
    (s.wanted x = true ∨ (∃ t0, (s.ctx x).idleSince = some t0 ∧ t0 + 1000000 ≤ s.now)) → s.defers x = false →
    ∃ t, exec (.idlePark x) s = .next t ∧ t.ctx x = { s.ctx x with ending := true } ∧ sameCtxs x s t ∧
    t = { s with ctxs := t.ctxs, coll := t.coll }) ∧
  (∀ (s : State) (l : List Nat) (x : Nat),
    memoryCanonical s → s.belled = false → s.boot.serviceMode = false →
    ({ s with hubNeeds := l } : State).waiters = [x] →
    ({ s with hubNeeds := l } : State).classFree (s.ctx x).cls = true →
    s.towerServes ((s.ctx x).saveBase / 0x2400000000) = true →
    (s.ctx x).cls.all (fun c => !(s.cluster c).outOfService) = true → (s.ctx x).state = .opened →
    ∃ t, exec (.schedulerBind l) s = .next t ∧ (t.ctx x).state = .bound ∧ (t.ctx x).holds = true ∧
    (t.ctx x).binds = satAdd 32 (s.ctx x).binds 1 ∧ (t.ctx x).periodStart = s.now ∧ t.hubNeeds = l ∧
    ((∀ c ∈ (s.ctx x).cls, (t.cluster c).bound = some x ∧ t.core c = { seed := s.seedOf x } ∧ ∀ a, a < 0x300000 →
      t.memory.cells.read (clusterOffset c 0 + a) = 0)) ∧
    ((∀ a, (∀ c ∈ (s.ctx x).cls, a < clusterOffset c 0 ∨ clusterOffset c 0 + 0x300000 ≤ a) → t.memory.cells.read a
      = s.memory.cells.read a)) ∧
    sameCtxs x s t ∧
    t = { s with
      hubNeeds := t.hubNeeds, memory := t.memory, clusters := t.clusters, clocks := t.clocks, ctxs := t.ctxs, dbg
        := t.dbg }) ∧
  (∀ (s : State) (l : List Nat) (x : Nat),
    s.belled = false → s.boot.serviceMode = false → ({ s with hubNeeds := l } : State).waiters = [x] →
    ({ s with hubNeeds := l } : State).classFree (s.ctx x).cls = true →
    s.towerServes ((s.ctx x).saveBase / 0x2400000000) = true →
    (s.ctx x).cls.all (fun c => !(s.cluster c).outOfService) = true → (s.ctx x).state = .parked →
    ∃ t, exec (.schedulerBind l) s = .next t ∧ (t.ctx x).state = .restoring ∧ (t.ctx x).restoreRunning = true ∧
    (t.ctx x).transitStart = s.now ∧
    (∀ c ∈ (s.ctx x).cls, (t.cluster c).bound = some x ∧ t.core c = s.memory.cores.get {} (s.imageOf x c)) ∧
    sameCtxs x s t ∧
    t = { s with
      memory := t.memory, clusters := t.clusters, hubNeeds := t.hubNeeds, dbg := t.dbg, blobs := t.blobs, regs :=
        t.regs, control := t.control, commits := t.commits, clocks := t.clocks, ctxs := t.ctxs }) ∧
  (∀ (s : State) (x : Nat),
    s.belled = false → (s.ctx x).state = .bound → (s.ctx x).ending = true → (s.ctx x).zeroing = false →
    (s.ctx x).saveRunning = false → s.stopEnded x = true → s.changesUnder (s.ctx x).cls = false →
    s.movesFenced x = false →
    ∃ t, exec (.saveStart x) s = .next t ∧ (t.ctx x).state = .saving ∧ (t.ctx x).saveRunning = true ∧
    (t.ctx x).transitStart = s.now ∧
    (∀ c ∈ (s.ctx x).cls, t.memory.cores.get {} (s.imageOf x c) = (s.cluster c).saved) ∧ sameCtxs x s t ∧
    (∀ c, t.core c = s.core c ∧ (t.cluster c).bound = (s.cluster c).bound) ∧
    t = { s with
      memory := t.memory, clusters := t.clusters, dbg := t.dbg, blobs := t.blobs, regs := t.regs, control :=
        t.control, ctxs := t.ctxs }) ∧
  (∀ (s : State) (x : Nat),
    (s.ctx x).state = .saving → s.movesFenced x = false → s.frozenOf x = [] → (s.ctx x).pendingAction = none →
    (∀ e ∈ s.memory.towers.entries, ∀ q ∈ e.2.hold, q.ctx ≠ x) →
    ∃ t, exec (.saveComplete x) s = .next t ∧ (t.ctx x).state = .parked ∧ (t.ctx x).saveRunning = false ∧
    (t.ctx x).holds = false ∧ (t.ctx x).ending = false ∧
    (t.ctx x).lastSave = Nat.min (s.now - (s.ctx x).transitStart) 4294967295 ∧
    ((∀ c ∈ (s.ctx x).cls, (s.cluster c).bound = some x → (t.cluster c).bound = none)) ∧
    t.memory.cells = (s.writeHeader x 1 s.stamp).memory.cells ∧ sameCtxs x s t ∧
    t = { s with
      ctxs := t.ctxs, memory := t.memory, clusters := t.clusters, clocks := t.clocks, blobs := t.blobs, regs :=
        t.regs, control := t.control, dbg := t.dbg, rig := t.rig }) ∧
  (∀ (s : State) (x : Nat),
    (s.ctx x).state = .restoring → (s.ctx x).restoreRunning = true → s.movesFenced x = false →
    (s.ctx x).pendingAction = none → (s.ctx x).pendingSeed = none →
    (∀ e ∈ s.memory.towers.entries, ∀ q ∈ e.2.hold, q.ctx ≠ x) →
    ∃ t, exec (.restoreComplete x) s = .next t ∧ (t.ctx x).state = .bound ∧ (t.ctx x).restoreRunning = false ∧
    (t.ctx x).holds = true ∧ (t.ctx x).binds = satAdd 32 (s.ctx x).binds 1 ∧
    (t.ctx x).lastRestore = Nat.min (s.now - (s.ctx x).transitStart) 4294967295 ∧
    (∀ c ∈ (s.ctx x).cls, (t.core c).acc = (s.core c).acc ∧ (t.core c).meSuspended = false) ∧
    t.memory.cells = s.memory.cells ∧ sameCtxs x s t ∧
    t = { s with
      ctxs := t.ctxs, memory := t.memory, clusters := t.clusters, regs := t.regs, rig := t.rig, dbg := t.dbg })

/-- Requests for cluster memory are delivered or held, mesh requests and tally increments are applied, and loads and
seeds take effect -/
def Obligations.RequestsReachClusters : Prop :=
  (∀ (s s1 : State) (p : Nat) (r : Req) (a : Answer),
    (s.die (0x10 + requestTower r)).state = .ready → s.deliveryOf r.ctx (clusterFor r) ≠ .stall →
    s.performRequest r (s.originRequester r) = (a, s1) → a ≠ .stalled → r.origin = .peer p →
    (s.port p).state ≠ .lost → (s.port p).state ≠ .down → s.sends (.reply p (responseTo r a)) = true →
    ∃ t, exec (.inboundRequest r) s = .next t ∧ t.memory = s1.memory ∧
    t.control.wire = s1.control.wire ++ [.reply p (responseTo r a)] ∧ t.ctxs = s1.ctxs ∧ t.clusters = s1.clusters ∧
    t = { s1 with domain := t.domain, control := t.control }) ∧
  (∀ (s : State) (c b : Nat) (r : Req),
    (s.die (0x10 + c / 200)).state = .ready → c = clusterFor r → c / 200 = requestTower r → isAtomic r.op = false →
    (r.op = 0x22 ∨ s.extentPopulated r.addr (max 1 (max r.len r.data.length)) = true) →
    (r.op = 0x22 ∨ placeOf r.addr = .cluster c b) → s.deliveryOf r.ctx c = .stall →
    (s.ctx r.ctx).clusterLost = false → sumOf holdBytes (s.tower (c / 200)).hold + holdBytes r ≤ 262144 →
    ∃ t, exec (.inboundRequest r) s = .next t ∧ (t.tower (c / 200)).hold = (s.tower (c / 200)).hold ++ [r] ∧
    t.memory.cells = s.memory.cells ∧ t = { s with memory := { s.memory with towers := t.memory.towers } }) ∧
  (∀ (s s1 : State) (r : MeshRequest) (d : List Byte),
    s.deliveryOf r.ctx r.dst = .memory → (s.ctx r.ctx).clusterLost = false →
    (s.region (zoneOf r.dst)).stopped = false → r.kind = .write d → s.belled = false →
    (s.countMesh r.src r.dst d.length).storeRange (clusterOffset r.dst (r.address % 0x400000)) d (s.requesterAt
      r.srcCtx r.src) = (none, s1) →
    ∃ t, exec (.meshRequest r) s = .next t ∧ t = s1) ∧
  (∀ (s s1 : State) (r : MeshRequest) (n : Nat) (d : List Byte),
    s.deliveryOf r.ctx r.dst = .memory → (s.ctx r.ctx).clusterLost = false →
    (s.region (zoneOf r.dst)).stopped = false → r.kind = .read n →
    s.loadRange (clusterOffset r.dst (r.address % 0x400000)) n (s.requesterAt r.srcCtx r.src) = (.ok d, s1) →
    ∃ t, exec (.meshRequest r) s = .next t ∧ t = s1.countMesh r.dst r.src d.length) ∧
  (∀ (s s1 s2 : State) (r : MeshRequest) (n amt : Nat) (ref : BitVec 24) (b : List Byte),
    s.deliveryOf r.ctx r.dst = .memory → (s.ctx r.ctx).clusterLost = false →
    (s.region (zoneOf r.dst)).stopped = false → r.kind = .tally n amt → s.belled = false →
    ref = BitVec.ofNat 24 (n % 256 + r.dst * 256 + 63 * 262144) →
    (s.countMesh r.src r.dst 4).loadRange (refOffset ref r.dst) 4 (s.requesterAt r.srcCtx r.src) = (.ok b, s1) →
    s1.storeRange (refOffset ref r.dst) (leBytes 4 (leNat b + amt)) (s.requesterAt r.srcCtx r.src) = (none, s2) →
    ∃ t, exec (.meshRequest r) s = .next t ∧ t = s2) ∧
  (∀ (s s1 s2 : State) (c x n amt : Nat) (b : List Byte),
    c < 800 → (s.cluster c).bound = some x → s.deliveryOf x c = .memory → (s.ctx x).clusterLost = false →
    (s.region (zoneOf c)).stopped = false → s.belled = false →
    s.loadRange (clusterOffset c (tallyAddress (n % 256))) 4 {} = (.ok b, s1) →
    s1.storeRange (clusterOffset c (tallyAddress (n % 256))) (leBytes 4 (leNat b + amt)) {} = (none, s2) →
    ∃ t, exec (.tallyIncrement c n amt) s = .next t ∧ t = s2) ∧
  (∀ (s : State),
    s.load = none →
    s.loaderStatus (s.shadow 0x630001) (s.shadow 0x630002) (s.shadow 0x630003) (s.blobShadow 0x630004) = 0 →
    ∃ t, exec (.loaderCommit 1) s = .next t ∧
    t.load = some (s.shadow 0x630001, s.shadow 0x630002, s.shadow 0x630003, s.blobShadow 0x630004) ∧
    t.reg 0x630005 = 1 ∧ t = { s with load := t.load, regs := t.regs }) ∧
  (∀ (s : State) (x kind n : Nat) (d : List Byte),
    s.load = some (x, kind, n, d) → (s.ctx x).state = .bound → commandBoundary (s.ctx x) = true →
    ∃ t, exec (.loaderApply) s = .next t ∧ t.load = none ∧ t.reg 0x630001 = x ∧ t.reg 0x630002 = kind ∧
    t.reg 0x630003 = n ∧ t.blob 0x630004 = d ∧ t.reg 0x630005 = 0 ∧ t.reg 0x630006 = satAdd 32 (s.reg 0x630006) 1 ∧
    ((∀ c ∈ (s.ctx x).cls, (kind = 0 → (t.core c).codebooks.get [] n = d ∧ (t.core c).curves = (s.core c).curves) ∧
      (kind ≠ 0 → (t.core c).curves.get [] n = d ∧ (t.core c).codebooks = (s.core c).codebooks))) ∧
    ((∀ c, c ∉ (s.ctx x).cls → t.cluster c = s.cluster c)) ∧
    t = { s with load := t.load, regs := t.regs, blobs := t.blobs, clusters := t.clusters }) ∧
  (∀ (s : State) (x kind n : Nat) (d : List Byte),
    s.load = some (x, kind, n, d) →
    ((s.ctx x).state = .parked ∨ (s.ctx x).state = .held ∨ (s.ctx x).state = .faulted ∧ (s.ctx x).holds = false) →
    (s.ctx x).cls.any (fun c => loadWaits (s.memory.cores.get {} (s.imageOf x c)) kind n) = false →
    ∃ t, exec (.loaderApply) s = .next t ∧ t.load = none ∧ t.reg 0x630001 = x ∧ t.reg 0x630002 = kind ∧
    t.reg 0x630003 = n ∧ t.blob 0x630004 = d ∧ t.reg 0x630005 = 0 ∧ t.reg 0x630006 = satAdd 32 (s.reg 0x630006) 1 ∧
    ((∀ c ∈ (s.ctx x).cls, kind = 0 → (t.memory.cores.get {} (s.imageOf x c)).codebooks.get [] n = d)) ∧
    t.memory.cells = s.memory.cells ∧
    t = { s with load := t.load, regs := t.regs, blobs := t.blobs, memory := t.memory }) ∧
  (∀ (s : State),
    (s.blobShadow 0x620001).length = 8192 →
    ∃ t, exec (.arithmeticCommit 1) s = .next t ∧
    ((∀ x, x < 1024 → t.seedOf x = BitVec.ofNat 64 (field (s.blobShadow 0x620001) (8 * x) 8))) ∧
    t.memory = s.memory ∧
    t = { s with clusters := t.clusters, blobs := t.blobs, seeds := t.seeds, ctxs := t.ctxs, coll := t.coll })

/-- Packets are admitted to lanes, delivered in order, and applied at their site -/
def Obligations.PacketsTravel : Prop :=
  (∀ (s : State) (src n lane : Nat) (p : Packet),
    (s.rig.outbox.filter fun q => q.src = src)[n]? = some p → s.bellHoldsGuest p = false →
    s.slotFenced src p = false → p.targets = [] → s.sitePopulated p.dst = true → creditLimit p.dst p.vc ≠ some 0 →
    ((s.rig.outbox.filter fun q => q.src = src).take n).all (fun q => !(q.targets = [] && q.dst = p.dst && q.vc =
      p.vc)) = true →
    p.vc ≠ 0 → p.stand = false → (laneKey src lane) ∈ s.soleLanes src p.dst →
    s.hasCredits p.src p.dst p.vc (packetFlits p) = true →
    replayFlits (s.laneAt (laneKey src lane)).replay + packetFlits p ≤ 512 →
    s.onStanding p.src p.dst p.vc = false → p.again = .no →
    s.mayTake (laneKey src lane) p.vc ((s.rivals (s.rig.outbox.filter fun q => q.src = src) lane (laneKey src
      lane)).map (·.vc)) = true →
    ∃ t, exec (.packetAdmit src n lane) s = .next t ∧ t.rig.outbox = s.rig.outbox.erase p ∧
    t.rig.inFlight = s.rig.inFlight ++ [Flight.mk (laneRx (laneKey src lane) p.dst) (s.laneAt (laneKey src
      lane)).nextSeq { p with pseq := s.rig.pseqNext.get 0 (streamKey p.src p.dst p.vc), stamp := s.now } (s.laneAt
      (laneKey src lane)).stream] ∧
    t.laneAt (laneKey src lane) = { s.laneAt (laneKey src lane) with
      nextSeq := ((s.laneAt (laneKey src lane)).nextSeq + packetFlits p) % 65536, stream := (s.laneAt (laneKey src
        lane)).stream + 136 * packetFlits p, replay := (t.laneAt (laneKey src lane)).replay } ∧
    t.rig.pseqNext.get 0 (streamKey p.src p.dst p.vc) = (s.rig.pseqNext.get 0 (streamKey p.src p.dst p.vc) + 1) %
      65536 ∧
    t.rig.spent.get 0 (streamKey p.dst p.src p.vc) = s.rig.spent.get 0 (streamKey p.dst p.src p.vc) + packetFlits p
      ∧
    sameLanes (laneKey src lane) s t ∧
    t = { s with
      rig := { s.rig with
        outbox := t.rig.outbox, inFlight := t.rig.inFlight, lanes := t.rig.lanes, pseqNext := t.rig.pseqNext, spent
          := t.rig.spent, turns := t.rig.turns } }) ∧
  (∀ (s : State) (src n lane : Nat) (p : Packet),
    (s.rig.outbox.filter fun q => q.src = src)[n]? = some p → s.bellHoldsGuest p = false →
    s.slotFenced src p = false → p.targets = [] → (s.sitePopulated p.dst = false ∨ creditLimit p.dst p.vc = some 0) →
    ∃ t, exec (.packetAdmit src n lane) s = .next t ∧ t.rig = { s.rig with outbox := s.rig.outbox.erase p } ∧
    t.reg 0x400003 = satAdd 32 (s.reg 0x400003) 1 ∧ t.raised 0x1301 = s.raised 0x1301 + 1 ∧ t.memory = s.memory ∧
    t = { s with rig := t.rig, regs := t.regs, control := t.control, dbg := t.dbg }) ∧
  (∀ (s : State) (src dst vc corrected : Nat) (noise : List SymbolError) (f : Flight),
    s.rig.inFlight.find? (fun f => f.packet.src = src && f.packet.dst = dst && f.packet.vc = vc && s.deliverable f)
      = some f →
    pathEnd f.path = f.packet.dst → f.packet.targets = [] → f.packet.pseq = s.pseqAt f.packet →
    f.packet.req.op ∈ [0x10, 0x11, 0x12, 0x60, 0x62, 0x63] → f.packet.again ≠ .copy true →
    (if noise = [] then ((none : Option FlitFailure), 0) else s.received f false noise) = (none, corrected) →
    ∃ t, exec (.packetDelivery src dst vc noise) s = .next t ∧
    t.arrivedAt f.packet.dst = s.arrivedAt f.packet.dst ++ [f.packet] ∧ t.rig.inFlight = s.rig.inFlight.erase f ∧
    t.pseqAt f.packet = (f.packet.pseq + 1) % 65536 ∧ t.reg 0x402101 = satAdd 64 (s.reg 0x402101) corrected ∧
    t = { s with
      rig := { s.rig with
        arrived := t.rig.arrived, inFlight := t.rig.inFlight, pseqExpected := t.rig.pseqExpected, receivers :=
          t.rig.receivers }, regs := t.regs }) ∧
  (∀ (s : State) (src dst vc : Nat) (f : Flight),
    s.rig.inFlight.find? (fun f => f.packet.src = src && f.packet.dst = dst && f.packet.vc = vc && s.deliverable f)
      = some f →
    pathEnd f.path = f.packet.dst → f.packet.targets = [] → f.packet.pseq ≠ s.pseqAt f.packet →
    ∃ t, exec (.packetDelivery src dst vc []) s = .next t ∧ t.rig.arrived = s.rig.arrived ∧
    t.rig.inFlight = s.rig.inFlight.erase f ∧ t.memory = s.memory ∧ t = { s with rig := t.rig, regs := t.regs }) ∧
  (∀ (s s1 : State) (site : Nat) (p : Packet) (a : Answer),
    s.firstArrived site 0x60 = some p → s.performWrite (p.req) (s.originRequester (p.req)) = (a, s1) → a ≠ .stalled →
    ∃ t, exec (.bulkWrite site) s = .next t ∧
    t.arrivedAt site = ((s1.settleWrite (p.req) a).arrivedAt site).erase p ∧
    t = { (s1.settleWrite (p.req) a) with rig := t.rig }) ∧
  (∀ (s s1 : State) (site : Nat) (p : Packet) (d : McTarget) (a : Answer),
    s.firstArrived site 0x61 = some p → p.targets.find? (fun d => d.slot = site) = some d →
    s.performWrite ((unicastTo p d).req) (s.originRequester ((unicastTo p d).req)) = (a, s1) → a ≠ .stalled →
    ∃ t, exec (.mcWrite site) s = .next t ∧
    t.arrivedAt site = ((s1.settleWrite ((unicastTo p d).req) a).arrivedAt site).erase p ∧
    t = { (s1.settleWrite ((unicastTo p d).req) a) with rig := t.rig } ∧ (unicastTo p d).req.addr = d.addr) ∧
  (∀ (s : State) (g : Nat) (p q : Packet),
    s.sitePopulated (5 + g) = true →
    q = { p with src := 5 + g, pseq := 0, req := { p.req with origin := .guest g } } → packetGood q = true →
    s.hasCredits (5 + g) q.dst q.vc (packetFlits q) = true → s.guestAdmits g q = true →
    ∃ t, exec (.guestPacket g p true) s = .next t ∧
    ((q.vc = 0 → t = { s with rig := { s.rig with outbox := s.rig.outbox ++ [q] } })) ∧ ((q.vc ≠ 0 → t = s))) ∧
  (∀ (s : State) (g : Nat) (p q : Packet) (w : Bool),
    s.sitePopulated (5 + g) = true →
    q = { p with src := 5 + g, pseq := 0, req := { p.req with origin := .guest g } } →
    (w = false ∨ packetGood q = false ∨ s.hasCredits (5 + g) q.dst q.vc (packetFlits q) = false ∨ s.guestAdmits g q
      = false) →
    ∃ t, exec (.guestPacket g p w) s = .next t ∧ t.rig.outbox = s.rig.outbox ∧ t.rig.inFlight = s.rig.inFlight ∧
    t.reg 0x402302 = satAdd 64 (s.reg 0x402302) 1 ∧
    ((SMap.lookup s.rig.guestDropEvent.entries g = none → t.raised 0x1305 = s.raised 0x1305 + 1)) ∧
    t.memory = s.memory ∧ t = { s with rig := t.rig, regs := t.regs, control := t.control, dbg := t.dbg })

/-- Multicasts reserve flits at every target, go on their split lane, and fall back -/
def Obligations.MulticastReserves : Prop :=
  (∀ (s : State) (site : Nat) (p : Packet),
    s.firstArrived site 0x10 = some p → p.vc = 0 → (4 ≤ site ∨ s.towerServes site = true) →
    s.rig.mcReserved.all (fun r => r.granted) = true → s.rig.withheld.who.contains site = false →
    s.buffered p.src site 3 + s.setAside p.src site + p.req.len ≤ (creditLimit site 3).getD 0 →
    ∃ t, exec (.mcReserve site) s = .next t ∧
    t.rig.mcReserved = s.rig.mcReserved ++ [(McReservation.mk site p.src p.req.tag p.req.len true false)] ∧
    t.rig.outbox = s.rig.outbox ++ [ctrlPacket 0x11 site p.src p.req.tag p.req.len] ∧
    t.arrivedAt site = (s.arrivedAt site).erase p ∧
    t = { s with
      rig := { s.rig with
        mcReserved := t.rig.mcReserved, outbox := t.rig.outbox, arrived := t.rig.arrived, freed := t.rig.freed } }) ∧
  (∀ (s : State) (site : Nat) (p : Packet),
    s.firstArrived site 0x10 = some p → p.vc = 0 → (4 ≤ site ∨ s.towerServes site = true) →
    s.rig.mcReserved.all (fun r => r.granted) = true →
    (s.rig.withheld.who.contains site = true ∨ (creditLimit site 3).getD 0 < s.buffered p.src site 3 + s.setAside
      p.src site + p.req.len) →
    ∃ t, exec (.mcReserve site) s = .next t ∧
    t.rig.mcReserved = s.rig.mcReserved ++ [(McReservation.mk site p.src p.req.tag p.req.len false false)] ∧
    t.rig.outbox = s.rig.outbox ∧ t.arrivedAt site = (s.arrivedAt site).erase p ∧
    t = { s with
      rig := { s.rig with mcReserved := t.rig.mcReserved, arrived := t.rig.arrived, freed := t.rig.freed } }) ∧
  (∀ (s : State) (site : Nat) (p : Packet) (m m1 : McPending),
    s.firstArrived site 0x11 = some p → p.vc = 0 →
    s.rig.mcPending.find? (fun m => m.src = site && m.tag = p.req.tag && !m.held) = some m →
    m1 = { m with grants := p.src :: m.grants.erase p.src } →
    m.packet.targets.all (fun d => m1.grants.contains d.slot) = false →
    ∃ t, exec (.mcGrant site) s = .next t ∧
    t.rig.mcPending = s.rig.mcPending.map (fun q => if q = m then m1 else q) ∧
    t.arrivedAt site = (s.arrivedAt site).erase p ∧
    t = { s with
      rig := { s.rig with mcPending := t.rig.mcPending, arrived := t.rig.arrived, freed := t.rig.freed } }) ∧
  (∀ (s : State) (site k : Nat) (p : Packet) (m m1 : McPending),
    s.firstArrived site 0x11 = some p → p.vc = 0 →
    s.rig.mcPending.find? (fun m => m.src = site && m.tag = p.req.tag && !m.held) = some m →
    m1 = { m with grants := p.src :: m.grants.erase p.src } →
    m.packet.targets.all (fun d => m1.grants.contains d.slot) = true → m.packet.targets ≠ [] →
    s.splitLane m.src (packetMask m.packet) = some k → replayFlits (s.laneAt k).replay + packetFlits m.packet ≤ 512 →
    ∃ t, exec (.mcGrant site) s = .next t ∧
    t.rig.mcPending = (s.rig.mcPending.map (fun q => if q = m then m1 else q)).erase m1 ∧
    t.rig.inFlight = s.rig.inFlight ++ (targetSlots (s.laneAt k).targets).map (fun d => Flight.mk (laneRx k d)
      (s.laneAt k).nextSeq { m.packet with stamp := s.now, dst := d } (s.laneAt k).stream) ∧
    t.reg 0x402201 = satAdd 64 (s.reg 0x402201) 1 ∧ sameLanes k s t ∧
    t = { s with
      rig := { s.rig with
        mcPending := t.rig.mcPending, mcReserved := t.rig.mcReserved, arrived := t.rig.arrived, freed :=
          t.rig.freed, spent := t.rig.spent, lanes := t.rig.lanes, inFlight := t.rig.inFlight }, regs := t.regs }) ∧
  (∀ (s : State) (site : Nat) (p : Packet),
    s.firstArrived site 0x12 = some p → p.vc = 0 →
    (s.rig.mcReserved.filter (fun r => !(r.site = site && r.src = p.src && r.tag = p.req.tag))).all (fun r =>
      r.granted) = true →
    ∃ t, exec (.mcCancel site) s = .next t ∧
    t.rig.mcReserved = s.rig.mcReserved.filter (fun r => !(r.site = site && r.src = p.src && r.tag = p.req.tag)) ∧
    t.arrivedAt site = (s.arrivedAt site).erase p ∧
    t = { s with
      rig := { s.rig with mcReserved := t.rig.mcReserved, arrived := t.rig.arrived, freed := t.rig.freed } }) ∧
  (∀ (s : State) (src tag : Nat) (m : McPending),
    s.rig.mcPending.find? (fun m => m.src = src && m.tag = tag && !m.held) = some m →
    m.sent + s.reg 0x402203 ≤ s.now → m.packet.targets.all (fun d => m.grants.contains d.slot) = false →
    ∃ t, exec (.multicastTimeout src tag) s = .next t ∧ t.rig.mcPending = s.rig.mcPending.erase m ∧
    t.rig.outbox = s.rig.outbox ++ m.packet.targets.map (fun d => ctrlPacket 0x12 m.src d.slot m.tag 0) ++
      m.packet.targets.map (unicastTo m.packet) ∧
    t.reg 0x402202 = satAdd 64 (s.reg 0x402202) 1 ∧
    t = { s with rig := { s.rig with mcPending := t.rig.mcPending, outbox := t.rig.outbox }, regs := t.regs })

/-- Receivers acknowledge and refuse flits, senders drop what is acknowledged, and lanes and standing paths retrain -/
def Obligations.LinksRetry : Prop :=
  (∀ (s : State) (site : Nat),
    ((List.range 64).all fun p => !(decide (7 + p / 16 = site) && s.portOwesAck p)) = true →
    (site ≠ 4 ∨ s.krytaeOwesAck 0 = false ∧ s.krytaeOwesAck 1 = false) →
    ∃ t, exec (.ackInterval site) s = .next t ∧
    t.control.wire = s.control.wire ++ ((List.range 11).filter (fun a => a ≠ site && s.sitePopulated a && s.owesAck
      site a)).map (fun a => .linkControl site ((s.relayOf site a).getD a) (linkContent (s.linkReport site a))) ∧
    t.rig = s.rig ∧ t = { s with control := { s.control with wire := t.control.wire } }) ∧
  (∀ (s : State) (site : Nat),
    site ≠ 4 →
    ∃ t, exec (.ackInterval site) s = .next t ∧
    ((∀ p, p < 64 → 7 + p / 16 = site → s.portOwesAck p = true → (t.port p).rxReported = (s.port p).rxSeq ∧ (t.port
      p).controlAt = s.now)) ∧
    ((∀ p, 7 + p / 16 ≠ site → t.port p = s.port p)) ∧ t.rig = s.rig ∧
    t = { s with domain := t.domain, control := t.control }) ∧
  (∀ (s : State),
    ∃ t, exec (.ackInterval 4) s = .next t ∧
    ((∀ k, k < 2 → s.krytaeOwesAck k = true → (t.krytae k).rxReported = (s.krytae k).rxSeq ∧ (t.krytae k).controlAt
      = s.now)) ∧
    t = { s with control := t.control }) ∧
  (∀ (s : State) (slot lane dst : Nat) (cause : FlitFailure),
    dst < 16 → cause = .codeword →
    ∃ t, exec (.flitUncorrectable (.lane slot lane dst) cause) s = .next t ∧
    t.receiver (laneRx (laneKey slot lane) dst) = { s.receiver (laneRx (laneKey slot lane) dst) with
      discarding := true } ∧
    t.control.wire = s.control.wire ++ [.linkControl dst ((t.relayOf dst slot).getD slot) (linkContent
      (t.linkReport dst slot))] ∧
    t.reg 0x402102 = satAdd 64 (s.reg 0x402102) 1 ∧ t.rig = { s.rig with receivers := t.rig.receivers } ∧
    t = { s with rig := t.rig, control := t.control, regs := t.regs }) ∧
  (∀ (s : State) (slot lane dst : Nat) (cause : FlitFailure),
    dst < 16 → cause ≠ .codeword →
    ∃ t, exec (.flitUncorrectable (.lane slot lane dst) cause) s = .next t ∧
    t.receiver (laneRx (laneKey slot lane) dst) = { s.receiver (laneRx (laneKey slot lane) dst) with
      discarding := true } ∧
    t.control.wire = s.control.wire ++ [.linkControl dst ((t.relayOf dst slot).getD slot) (linkContent
      (t.linkReport dst slot))] ∧
    t.reg 0x402103 = satAdd 64 (s.reg 0x402103) 1 ∧ t.rig = { s.rig with receivers := t.rig.receivers } ∧
    t = { s with rig := t.rig, control := t.control, regs := t.regs }) ∧
  (∀ (s : State) (p : Nat) (cause : FlitFailure),
    ∃ t, exec (.flitUncorrectable (.port p) cause) s = .next t ∧
    t.control.wire = s.control.wire ++ [.portControl p false true (s.port p).rxSeq ((List.range 6).map fun vc =>
      (s.port p).freed.get 0 vc)] ∧
    (t.port p).rxReported = (s.port p).rxSeq ∧ (t.port p).controlAt = s.now ∧ samePorts p s t ∧
    t = { s with control := t.control, domain := t.domain }) ∧
  (∀ (s : State) (f : LinkFlit),
    f.sender ≠ f.receiver → s.sitePopulated f.sender = true → s.sitePopulated f.receiver = true → f.sop = false →
    f.entries = [] → (s.standing f.sender f.receiver).state ≠ .retraining →
    s.rig.mcPending.all (fun m => !(decide (m.src = f.sender) && !m.held)) = true →
    ∃ t, exec (.linkControlFlit (.rig f.sender) f) s = .next t ∧
    (t.standing f.sender f.receiver).replay = (s.standing f.sender f.receiver).replay.filter (fun e => !ackedBy
      f.sack e) ∧
    (t.standing f.sender f.receiver).naks = 0 ∧
    ((∀ v, v < 6 → t.rig.credited.get 0 (streamKey f.receiver f.sender v) = f.credits.getD v 0)) ∧
    t = { s with
      rig := { s.rig with standing := t.rig.standing, credited := t.rig.credited, full := t.rig.full }, regs :=
        t.regs }) ∧
  (∀ (s : State) (site : Nat) (f : LinkFlit),
    f.sender ≠ f.receiver → s.sitePopulated f.sender = true → s.sitePopulated f.receiver = true → site ≠ f.sender →
    f.relayed = true →
    ∃ t, exec (.linkControlFlit (.rig site) f) s = .next t ∧
    t.control.wire = s.control.wire ++ [.linkControl site f.sender (linkContent f)] ∧
    t = { s with control := { s.control with wire := t.control.wire } }) ∧
  (∀ (s : State) (lane n : Nat) (f : LinkFlit),
    f.sender ≠ f.receiver → s.sitePopulated f.sender = true → s.sitePopulated f.receiver = true → f.sop = false →
    f.entries = [(lane, .ack, n)] → (s.lane f.sender lane).targets = 2 ^ f.receiver → f.receiver < 16 →
    (s.standing f.sender f.receiver).state ≠ .retraining →
    s.rig.mcPending.all (fun m => !(decide (m.src = f.sender) && !m.held)) = true →
    ∃ t, exec (.linkControlFlit (.rig f.sender) f) s = .next t ∧
    (t.lane f.sender lane).replay = (s.lane f.sender lane).replay.filter (fun e => !ackedBy n e) ∧
    (t.lane f.sender lane).naks = 0 ∧ sameLanes (laneKey f.sender lane) s t ∧
    t = { s with
      rig := { s.rig with
        standing := t.rig.standing, credited := t.rig.credited, lanes := t.rig.lanes, full := t.rig.full }, regs :=
          t.regs }) ∧
  (∀ (s : State) (lane : Nat) (f : LinkFlit),
    f.sender ≠ f.receiver → s.sitePopulated f.sender = true → s.sitePopulated f.receiver = true → f.sop = false →
    f.entries = [(lane, .nak, (s.lane f.sender lane).nakSeq)] →
    Nat.testBit (s.lane f.sender lane).targets f.receiver = true → (s.lane f.sender lane).state = .active →
    (s.lane f.sender lane).naks = 7 → (s.lane f.sender lane).ignoreNaks = false →
    (s.standing f.sender f.receiver).state ≠ .retraining →
    ∃ t, exec (.linkControlFlit (.rig f.sender) f) s = .next t ∧ (t.lane f.sender lane).state = .out ∧
    (t.lane f.sender lane).replay = [] ∧ t.reg 0x402104 = satAdd 64 (s.reg 0x402104) 1 ∧
    t.reg 0x402105 = satAdd 32 (s.reg 0x402105) 1 ∧ t.raised 0x1302 = s.raised 0x1302 + 1 ∧ t.memory = s.memory ∧
    t = { s with rig := t.rig, regs := t.regs, control := t.control, dbg := t.dbg }) ∧
  (∀ (s : State) (slot lane : Nat),
    (s.lane slot lane).state = .training → (s.lane slot lane).wrongWait = false → s.coll.tack = none →
    (s.lane slot lane).trainStart = none →
    ∃ t, exec (.laneTraining slot lane) s = .next t ∧
    t.lane slot lane = { s.lane slot lane with trainStart := some s.now, trainedBy := [] } ∧
    sameLanes (laneKey slot lane) s t ∧ t = { s with rig := { s.rig with lanes := t.rig.lanes } }) ∧
  (∀ (s : State) (slot lane a : Nat),
    (s.lane slot lane).state = .training → (s.lane slot lane).wrongWait = false → s.coll.tack = none →
    (s.lane slot lane).trainStart = some a → a + 2000 < s.now →
    ∃ t, exec (.laneTraining slot lane) s = .next t ∧ (t.lane slot lane).state = .out ∧
    (t.lane slot lane).replay = [] ∧ t.reg 0x402105 = satAdd 32 (s.reg 0x402105) 1 ∧
    t.raised 0x1302 = s.raised 0x1302 + 1 ∧ t.memory = s.memory ∧
    t = { s with rig := t.rig, regs := t.regs, control := t.control, dbg := t.dbg }) ∧
  (∀ (s : State) (slot lane : Nat),
    (s.lane slot lane).state = .out → (s.lane slot lane).noRetrain = false → (s.lane slot lane).retrains < 3 →
    ((s.lane slot lane).retrains = 0 ∨ (s.lane slot lane).lastRetrain + 10000 ≤ s.now) →
    (s.dropsFor (laneKey slot lane)).length < 2 →
    ∃ t, exec (.laneRetrain slot lane true) s = .next t ∧
    (t.lane slot lane).state = (if (s.lane slot lane).targets = 0 then .idle else .active) ∧
    (t.lane slot lane).nextSeq = 0 ∧ (t.lane slot lane).targets = (s.lane slot lane).targets ∧
    (t.lane slot lane).dropped = s.dropsFor (laneKey slot lane) ∧ sameLanes (laneKey slot lane) s t ∧
    t = { s with rig := t.rig, regs := t.regs, control := t.control, dbg := t.dbg }) ∧
  (∀ (s : State) (slot lane : Nat),
    (s.lane slot lane).state = .out → (s.lane slot lane).noRetrain = false → (s.lane slot lane).retrains < 3 →
    ((s.lane slot lane).retrains = 0 ∨ (s.lane slot lane).lastRetrain + 10000 ≤ s.now) →
    ∃ t, exec (.laneRetrain slot lane false) s = .next t ∧
    t.lane slot lane = { s.lane slot lane with retrains := (s.lane slot lane).retrains + 1, lastRetrain := s.now } ∧
    sameLanes (laneKey slot lane) s t ∧ t = { s with rig := { s.rig with lanes := t.rig.lanes } }) ∧
  (∀ (s : State) (src dst : Nat),
    s.hasStanding src dst = true → (s.standing src dst).state = .retraining →
    (s.standing src dst).lastRetrain + 20000 ≤ s.now →
    ∃ t, exec (.standingPathDown src dst) s = .next t ∧ (t.standing src dst).state = .down ∧
    (t.standing src dst).replay = [] ∧ t.relayOf src dst = s.relayFor src dst ∧
    t.rig.outbox = (s.standing src dst).replay.map (fun e => { e.2.2 with again := .kept }) ++ s.rig.outbox ∧
    t.reg 0x402105 = satAdd 32 (s.reg 0x402105) 1 ∧ t.raised 0x1302 = s.raised 0x1302 + 1 ∧
    t.rig.lanes = s.rig.lanes ∧ t = { s with rig := t.rig, regs := t.regs, control := t.control, dbg := t.dbg })

/-- Accesses at home slices, write-backs, scrubbing, refresh and partition changes act as the memory rules say -/
def Obligations.StoresServe : Prop :=
  (∀ (s u s1 : State) (a : Access) (x o : Nat) (d : List Byte),
    s.extentPopulated a.offset (max 1 a.len) = true →
    (placeOf a.offset = .scratch x o ∨ placeOf a.offset = .hbm x o) → s.towerServes x = true →
    s.stallsForPartition a.offset a.len = false → u = (s.disturb (a.offset / 64) a.upset).badTags a →
    u.parityOf a ≤ 3 → a.write = some d →
    (u.countReg 0x504101 32 (u.parityOf a)).storeRange a.offset (padTo a.len d) (u.accessRequester a) = (none, s1) →
    ∃ t, exec (.homeSliceAccess a) s = .next t ∧ t = s1) ∧
  (∀ (s u s1 : State) (a : Access) (x o : Nat) (d : List Byte),
    s.extentPopulated a.offset (max 1 a.len) = true →
    (placeOf a.offset = .scratch x o ∨ placeOf a.offset = .hbm x o) → s.towerServes x = true →
    s.stallsForPartition a.offset a.len = false → u = (s.disturb (a.offset / 64) a.upset).badTags a →
    u.parityOf a ≤ 3 → a.write = none →
    (u.countReg 0x504101 32 (u.parityOf a)).loadRange a.offset a.len (u.accessRequester a) = (.ok d, s1) →
    ∃ t, exec (.homeSliceAccess a) s = .next t ∧ t = s1) ∧
  (∀ (s : State) (a : Access) (x o : Nat) (d : List Byte),
    memoryClean s → s.extentPopulated a.offset (max 1 a.len) = true →
    (placeOf a.offset = .scratch x o ∨ placeOf a.offset = .hbm x o) → s.towerServes x = true →
    s.stallsForPartition a.offset a.len = false → a.upset = [] → a.tagUpset = [] → a.parityFails ≤ 3 →
    a.write = some d → d.length = a.len → 0 < a.len →
    ∃ t, exec (.homeSliceAccess a) s = .next t ∧
    ((∀ i, i < a.len → t.memory.cells.read (a.offset + i) = d.getD i 0)) ∧
    ((∀ k, (k < a.offset ∨ a.offset + a.len ≤ k) → t.memory.cells.read k = s.memory.cells.read k)) ∧
    t.ctxs = s.ctxs ∧ t.memory.towers = s.memory.towers) ∧
  (∀ (s : State) (a : Access) (x o : Nat),
    memoryClean s → s.extentPopulated a.offset (max 1 a.len) = true →
    (placeOf a.offset = .scratch x o ∨ placeOf a.offset = .hbm x o) → s.towerServes x = true →
    s.stallsForPartition a.offset a.len = false → a.upset = [] → a.tagUpset = [] → a.parityFails ≤ 3 →
    a.write = none →
    ∃ t, exec (.homeSliceAccess a) s = .next t ∧ (∀ k, t.memory.cells.read k = s.memory.cells.read k) ∧
    t.ctxs = s.ctxs ∧ t.memory.towers = s.memory.towers) ∧
  (∀ (s u : State) (a : Access) (x o : Nat),
    s.extentPopulated a.offset (max 1 a.len) = true →
    (placeOf a.offset = .scratch x o ∨ placeOf a.offset = .hbm x o) → s.towerServes x = true →
    s.stallsForPartition a.offset a.len = false → u = (s.disturb (a.offset / 64) a.upset).badTags a →
    3 < u.parityOf a → a.management = true →
    ∃ t, exec (.homeSliceAccess a) s = .next t ∧ t.memory = u.memory ∧ t.raised 0x1201 = u.raised 0x1201 + 1 ∧
    t.reg 0x503104 = satAdd 64 (u.reg 0x503104) 1 ∧ t.reg 0x504101 = satAdd 32 (u.reg 0x504101) 3 ∧
    t = { u with freeCount := t.freeCount, regs := t.regs, blobs := t.blobs, control := t.control, dbg := t.dbg }) ∧
  (∀ (s : State) (a : Access),
    s.extentPopulated a.offset (max 1 a.len) = false →
    ∃ t, exec (.homeSliceAccess a) s = .next t ∧ t = s.accessFault a 0x0306 ∧ t.memory = s.memory ∧
    t = { s with
      coll := t.coll, dbg := t.dbg, regs := t.regs, control := t.control, commits := t.commits, ctxs := t.ctxs }) ∧
  (∀ (s : State) (a : Access) (x o : Nat),
    s.extentPopulated a.offset (max 1 a.len) = true →
    (placeOf a.offset = .scratch x o ∧ s.stallsForPartition a.offset a.len = true ∨ (placeOf a.offset = .scratch x
      o ∨ placeOf a.offset = .hbm x o) ∧ s.towerServes x = false) →
    ∃ t, exec (.homeSliceAccess a) s = .next t ∧ (t.tower x).stalled = (s.tower x).stalled ++ [a] ∧
    t.memory = { s.memory with towers := t.memory.towers } ∧ t = { s with memory := t.memory }) ∧
  (∀ (s : State) (w c o : Nat) (left : ErrorPattern),
    w ∈ s.memory.writebacks → (placeOf (64 * w) = .cluster c o ∨ placeOf (64 * w) = .scratch c o) →
    decodePattern (s.storedPattern w) = .corrected left → s.residentPattern w = [] →
    ∃ t, exec (.correctedWriteback w) s = .next t ∧ t.storedPattern w = [] ∧ w ∉ t.memory.writebacks ∧
    t.memory = { (s.applyLeft w left).memory with writebacks := t.memory.writebacks, errors := t.memory.errors } ∧
    t = { s with memory := t.memory }) ∧
  (∀ (s : State) (w x o : Nat) (left : ErrorPattern),
    w ∈ s.memory.writebacks → placeOf (64 * w) = .hbm x o → s.residentLine x (lineOf o) = none →
    decodePattern (s.hbmPattern x w) = .corrected left → s.residentPattern w = [] →
    ∃ t, exec (.correctedWriteback w) s = .next t ∧ t.storedPattern w = [] ∧ w ∉ t.memory.writebacks ∧
    t.memory = { (s.applyLeft w left).memory with writebacks := t.memory.writebacks, errors := t.memory.errors } ∧
    t = { s with memory := t.memory }) ∧
  (∀ (s : State) (w c o : Nat) (p left : ErrorPattern),
    placeOf (64 * w) = .cluster c o → o < 0x300000 → p = s.storedPattern w → decodePattern p = .corrected left →
    ∃ t, exec (.hbmScrub .cluster w [] false) s = .next t ∧ t.storedPattern w = [] ∧
    t.memory.cells = (s.applyLeft w left).memory.cells ∧ t.reg 0x503001 = satAdd 64 (s.reg 0x503001) 1 ∧
    t = { s with memory := t.memory, clusters := t.clusters, regs := t.regs }) ∧
  (∀ (s : State) (w c o : Nat) (p : ErrorPattern),
    placeOf (64 * w) = .cluster c o → o < 0x300000 → p = s.storedPattern w → decodePattern p = .uncorrectable →
    ∃ t, exec (.hbmScrub .cluster w [] false) s = .next t ∧ t.storedPattern w = markOf p ∧
    t.memory.cells = s.memory.cells ∧ t.reg 0x503101 = satAdd 64 (s.reg 0x503101) 1 ∧
    t.raised 0x1201 = s.raised 0x1201 + 1 ∧
    t = { s with memory := t.memory, regs := t.regs, blobs := t.blobs, control := t.control, dbg := t.dbg }) ∧
  (∀ (s : State) (w c o : Nat) (p : ErrorPattern),
    placeOf (64 * w) = .cluster c o → o < 0x300000 → p = s.storedPattern w → decodePattern p = .clean →
    ∃ t, exec (.hbmScrub .cluster w [] false) s = .next t ∧ t = s) ∧
  (∀ (s : State) (k n : Nat) (c : Int),
    ∃ t, exec (.hbmTemperatureRead k c n) s = .next t ∧ (t.stack k).centi = c ∧
    ((8500 < c → (t.stack k).doubled = true)) ∧ ((c < 8300 → (t.stack k).doubled = false)) ∧
    ((8300 ≤ c ∧ c ≤ 8500 → (t.stack k).doubled = (s.stack k).doubled)) ∧
    t.reg 0x504101 = satAdd 32 (s.reg 0x504101) n ∧ ((∀ j, j ≠ k → t.stack j = s.stack j)) ∧
    t = { s with memory := { s.memory with hbm := t.memory.hbm }, regs := t.regs }) ∧
  (∀ (s : State) (x : Nat),
    s.commitPending 0x50 = false → ((∀ u, u < 4 → s.scratchShadow u ≤ 48)) → x < 4 →
    s.scratchShadow x ≠ s.reg (0x501001 + x) →
    ∃ t, exec (.memoryCommit 1) s = .next t ∧ (t.tower x).due = some (s.scratchShadow x) ∧
    t.reg (0x501201 + x) = 1 ∧ t.commitPending 0x50 = true ∧
    ((∀ u, u < 4 → s.scratchShadow u = s.reg (0x501001 + u) → t.tower u = s.tower u ∧ t.reg (0x501201 + u) = 0)) ∧
    t.memory = { s.memory with towers := t.memory.towers } ∧
    t = { s with memory := t.memory, regs := t.regs, commits := t.commits }) ∧
  (∀ (s : State) (x : Nat),
    s.commitPending 0x50 = false → x < 4 → 48 < s.scratchShadow x →
    ∃ t, exec (.memoryCommit 1) s = .next t ∧ ((∀ u, u < 4 → t.reg (0x501201 + u) = 2)) ∧
    t = { s with regs := t.regs }) ∧
  (∀ (s : State) (x n : Nat),
    (s.tower x).due = some n → s.movesOn x = false → (s.die (0x10 + x)).state = .ready →
    ∃ t, exec (.partitionChange x) s = .next t ∧
    t.tower x = { s.tower x with due := none, change := some ⟨(s.tower x).scratch, n, s.now, true⟩ } ∧
    ((∀ k, k / 4096 / 200 = x → (t.cacheSet k).ways.all (fun w => w.all fun p => !p.2) = true)) ∧
    ((∀ y, y ≠ x → t.tower y = s.tower y)) ∧
    t = { s with memory := t.memory, blobs := t.blobs, regs := t.regs, control := t.control, dbg := t.dbg }) ∧
  (∀ (s : State) (x : Nat) (c : PartitionChange),
    (s.tower x).change = some c → (s.die (0x10 + x)).state = .ready → (s.tower x).stalled = [] →
    ∃ t, exec (.partitionChangeEnd x) s = .next t ∧ (t.tower x).scratch = c.new ∧ (t.tower x).change = none ∧
    t.reg (0x501001 + x) = c.new ∧ t.reg (0x501201 + x) = 0 ∧
    t.reg (0x501301 + x) = Nat.min (s.now - c.started) 4294967295 ∧
    ((∀ k, k / 4096 / 200 = x → t.cacheSet k = {})) ∧ t.raised 0x1203 = s.raised 0x1203 + 1 ∧
    ((∀ o, 0xC000000000 + 0x40000000 * x + 0x1000000 * Nat.min c.old c.new ≤ o → o < 0xC000000000 + 0x40000000 * x
      + 0x1000000 * Nat.max c.old c.new → t.memory.cells.read o = 0)) ∧
    t = { s with
      memory := t.memory, blobs := t.blobs, regs := t.regs, control := t.control, dbg := t.dbg, commits :=
        t.commits })

/-- Lines are warned, dropped and swapped, and spares take their place, as the fade rules say -/
def Obligations.LampsFade : Prop :=
  (∀ (s : State) (b n ch : Nat) (fall : BitVec 32),
    (s.laser b n).samples ≠ [] → (s.laser b n).channel = some ch →
    ((s.laser b n).state = .active ∨ (s.laser b n).state = .warned) →
    (((sampleSum (s.laser b n).samples).mul (Num.ofInt (s.laser b n).lastSamples.length)).lt ((sampleSum (s.laser b
      n).lastSamples).mul (Num.ofInt (s.laser b n).samples.length)) && below30 ((sampleSum (s.laser b
      n).samples).mul (Num.ofInt (s.laser b n).lastSamples.length)) ((sampleSum (s.laser b n).lastSamples).mul
      (Num.ofInt (s.laser b n).samples.length))) = false →
    (s.laser b n).drive < 1000 ∨ (below10 (sampleSum (s.laser b n).samples) ((s.laser b n).times (s.laser b
      n).commissioning) = false ∧ below15 (sampleSum (s.laser b n).samples) ((s.laser b n).times (s.laser b
      n).commissioning) = false ∧ below30 (sampleSum (s.laser b n).samples) ((s.laser b n).times (s.laser b
      n).commissioning) = false) →
    s.spareFor b ch = none →
    ∃ t, exec (.lineEvaluation b n fall) s = .next t ∧
    t.laser b n = { s.laser b n with
      fall := (if 1000 ≤ (s.laser b n).drive then fall else 0), lastSamples := (s.laser b n).samples } ∧
    ((∀ k, k ≠ laserKey b n → t.photonics.lasers.get {} k = s.photonics.lasers.get {} k)) ∧
    t = { s with photonics := { s.photonics with lasers := t.photonics.lasers } }) ∧
  (∀ (s : State) (b n ch p : Nat) (fall : BitVec 32),
    (s.laser b n).samples ≠ [] → (s.laser b n).channel = some ch →
    ((s.laser b n).state = .active ∨ (s.laser b n).state = .warned) →
    (((sampleSum (s.laser b n).samples).mul (Num.ofInt (s.laser b n).lastSamples.length)).lt ((sampleSum (s.laser b
      n).lastSamples).mul (Num.ofInt (s.laser b n).samples.length)) && below30 ((sampleSum (s.laser b
      n).samples).mul (Num.ofInt (s.laser b n).lastSamples.length)) ((sampleSum (s.laser b n).lastSamples).mul
      (Num.ofInt (s.laser b n).samples.length))) = false →
    (s.laser b n).drive < 1000 ∨ (below10 (sampleSum (s.laser b n).samples) ((s.laser b n).times (s.laser b
      n).commissioning) = false ∧ below15 (sampleSum (s.laser b n).samples) ((s.laser b n).times (s.laser b
      n).commissioning) = false ∧ below30 (sampleSum (s.laser b n).samples) ((s.laser b n).times (s.laser b
      n).commissioning) = false) →
    s.spareFor b ch = some p → (s.laser b p).state = .ready →
    ∃ t, exec (.lineEvaluation b n fall) s = .next t ∧
    t.laser b p = { s.laser b p with output := (s.laser b n).output } ∧
    t.laser b n = { s.laser b n with
      fall := (if 1000 ≤ (s.laser b n).drive then fall else 0), lastSamples := (s.laser b n).samples } ∧
    t = { s with photonics := { s.photonics with lasers := t.photonics.lasers } }) ∧
  (∀ (s : State) (b n ch p : Nat) (fall : BitVec 32),
    (s.laser b n).samples ≠ [] → (s.laser b n).channel = some ch →
    ((s.laser b n).state = .active ∨ (s.laser b n).state = .warned) →
    (((sampleSum (s.laser b n).samples).mul (Num.ofInt (s.laser b n).lastSamples.length)).lt ((sampleSum (s.laser b
      n).lastSamples).mul (Num.ofInt (s.laser b n).samples.length)) && below30 ((sampleSum (s.laser b
      n).samples).mul (Num.ofInt (s.laser b n).lastSamples.length)) ((sampleSum (s.laser b n).lastSamples).mul
      (Num.ofInt (s.laser b n).samples.length))) = false →
    1000 ≤ (s.laser b n).drive →
    below10 (sampleSum (s.laser b n).samples) ((s.laser b n).times (s.laser b n).commissioning) = true →
    below15 (sampleSum (s.laser b n).samples) ((s.laser b n).times (s.laser b n).commissioning) = false →
    below30 (sampleSum (s.laser b n).samples) ((s.laser b n).times (s.laser b n).commissioning) = false →
    (s.laser b n).past10 = false → s.spareFor b ch = none → s.standbySpare b = some p →
    ∃ t, exec (.lineEvaluation b n fall) s = .next t ∧
    t.laser b n = { s.laser b n with
      state := .warned, changed := s.now, past10 := true, fall := fall, lastSamples := (s.laser b n).samples } ∧
    t.laser b p = { s.laser b p with state := .preparing, changed := s.now, forChannel := some ch } ∧
    t.reg 0x420101 = satAdd 32 (s.reg 0x420101) 1 ∧ t.raised 0x1401 = s.raised 0x1401 + 1 ∧
    t.photonics = { s.photonics with lasers := t.photonics.lasers } ∧
    t = { s with photonics := t.photonics, regs := t.regs, control := t.control, dbg := t.dbg }) ∧
  (∀ (s : State) (b n ch : Nat) (fall : BitVec 32),
    (s.laser b n).samples ≠ [] → (s.laser b n).channel = some ch →
    ((s.laser b n).state = .active ∨ (s.laser b n).state = .warned) →
    (((sampleSum (s.laser b n).samples).mul (Num.ofInt (s.laser b n).lastSamples.length)).lt ((sampleSum (s.laser b
      n).lastSamples).mul (Num.ofInt (s.laser b n).samples.length)) && below30 ((sampleSum (s.laser b
      n).samples).mul (Num.ofInt (s.laser b n).lastSamples.length)) ((sampleSum (s.laser b n).lastSamples).mul
      (Num.ofInt (s.laser b n).samples.length))) = true →
    s.spareFor b ch = none →
    ∃ t, exec (.lineEvaluation b n fall) s = .next t ∧ (t.laser b n).state = .dead ∧ (t.laser b n).output = 0 ∧
    ch ∈ (t.bar b).droppedChannels ∧ t.raised 0x1404 = s.raised 0x1404 + 1 ∧ t.memory = s.memory ∧
    t = { s with
      domain := t.domain, rig := t.rig, regs := t.regs, control := t.control, dbg := t.dbg, photonics :=
        t.photonics } ∧
    t.reg 0x420103 = satAdd 32 (s.reg 0x420103) 1) ∧
  (∀ (s : State) (b n ch : Nat) (fall : BitVec 32),
    (s.laser b n).samples ≠ [] → (s.laser b n).channel = some ch →
    ((s.laser b n).state = .active ∨ (s.laser b n).state = .warned) →
    (((sampleSum (s.laser b n).samples).mul (Num.ofInt (s.laser b n).lastSamples.length)).lt ((sampleSum (s.laser b
      n).lastSamples).mul (Num.ofInt (s.laser b n).samples.length)) && below30 ((sampleSum (s.laser b
      n).samples).mul (Num.ofInt (s.laser b n).lastSamples.length)) ((sampleSum (s.laser b n).lastSamples).mul
      (Num.ofInt (s.laser b n).samples.length))) = false →
    1000 ≤ (s.laser b n).drive → (s.laser b n).past10 = true → (s.laser b n).past15 = true →
    (s.laser b n).past30 = false →
    below30 (sampleSum (s.laser b n).samples) ((s.laser b n).times (s.laser b n).commissioning) = true →
    s.spareFor b ch = none →
    ∃ t, exec (.lineEvaluation b n fall) s = .next t ∧ (t.laser b n).state = .dead ∧ (t.laser b n).output = 0 ∧
    ch ∈ (t.bar b).droppedChannels ∧ t.raised 0x1404 = s.raised 0x1404 + 1 ∧ t.memory = s.memory ∧
    t = { s with
      domain := t.domain, rig := t.rig, regs := t.regs, control := t.control, dbg := t.dbg, photonics :=
        t.photonics } ∧
    t.reg 0x420103 = s.reg 0x420103 ∧ t.reg 0x420104 = satAdd 32 (s.reg 0x420104) 1) ∧
  (∀ (s : State) (l : List (BitVec 32 × Nat)),
    l.length = 240 →
    ∃ t, exec (.backFacetSample l) s = .next t ∧
    ((∀ i, i < 240 → (t.laser (i / 20) (i % 20)).output = (l.getD i (0, 0)).1)) ∧
    ((∀ i, i < 240 → (t.laser (i / 20) (i % 20)).drive = Nat.min (l.getD i (0, 0)).2 1000)) ∧
    ((∀ i, i < 240 → (t.laser (i / 20) (i % 20)).samples = ((s.laser (i / 20) (i % 20)).samples ++ [(l.getD i (0,
      0)).1]).drop ((s.laser (i / 20) (i % 20)).samples.length - 15))) ∧
    t = { s with photonics := { s.photonics with lasers := t.photonics.lasers } }) ∧
  (∀ (s : State) (b n ch : Nat),
    (s.laser b n).channel = some ch → (s.laser b n).state ≠ .dead → (s.laser b n).state ≠ .retired →
    s.spareFor b ch = none →
    ∃ t, exec (.abruptLaserFailure b n) s = .next t ∧ (t.laser b n).state = .dead ∧ (t.laser b n).output = 0 ∧
    ch ∈ (t.bar b).droppedChannels ∧ t.raised 0x1404 = s.raised 0x1404 + 1 ∧ t.memory = s.memory ∧
    t = { s with
      domain := t.domain, rig := t.rig, regs := t.regs, control := t.control, dbg := t.dbg, photonics :=
        t.photonics } ∧
    t.reg 0x420103 = satAdd 32 (s.reg 0x420103) 1) ∧
  (∀ (s : State) (b n : Nat),
    (s.laser b n).channel = none → (s.laser b n).state ≠ .dead → (s.laser b n).state ≠ .retired →
    ∃ t, exec (.abruptLaserFailure b n) s = .next t ∧
    t.laser b n = { s.laser b n with state := .dead, changed := s.now, forChannel := none, output := 0 } ∧
    ((∀ k, k ≠ laserKey b n → t.photonics.lasers.get {} k = s.photonics.lasers.get {} k)) ∧
    t = { s with photonics := { s.photonics with lasers := t.photonics.lasers } }) ∧
  (∀ (s : State) (b n ch l : Nat) (o : Int) (seen : Bool),
    (s.laser b n).forChannel = some ch → (s.laser b n).state = .preparing → o.natAbs ≤ 50 →
    s.lineForChannel b ch = some l → (s.laser b l).state ≠ .dead → s.swapRuns b = true → n < 20 →
    ∃ t, exec (.spareReady b ⟨n, o, seen⟩) s = .next t ∧
    t.laser b n = { s.laser b n with
      state := .ready, changed := s.now, output := (s.laser b l).output, etalon := o } ∧
    ((∀ k, k ≠ laserKey b n → t.photonics.lasers.get {} k = s.photonics.lasers.get {} k)) ∧
    t = { s with photonics := { s.photonics with lasers := t.photonics.lasers } }) ∧
  (∀ (s : State) (b n ch l : Nat) (o : Int),
    (s.laser b n).forChannel = some ch → (s.laser b n).state = .preparing → o.natAbs ≤ 50 →
    s.lineForChannel b ch = some l → (s.laser b l).state = .dead → s.spareFor b ch = some n → n < 20 → l ≠ n →
    (s.bar b).droppedChannels.Nodup →
    ∃ t, exec (.spareReady b ⟨n, o, true⟩) s = .next t ∧ (t.laser b n).state = .active ∧
    (t.laser b n).channel = some ch ∧ (t.laser b n).output = (s.laser b l).commissioning ∧
    (t.laser b n).etalon = o ∧ (t.laser b l).channel = none ∧ ch ∉ (t.bar b).droppedChannels ∧
    t.raised 0x1405 = s.raised 0x1405 + 1 ∧
    t = { s with
      domain := t.domain, rig := t.rig, regs := t.regs, control := t.control, dbg := t.dbg, photonics :=
        t.photonics }) ∧
  (∀ (s : State) (b n ch l : Nat) (o : Int),
    (s.laser b n).forChannel = some ch → (s.laser b n).state = .preparing → s.lineForChannel b ch = some l →
    (s.laser b l).state = .dead →
    ∃ t, exec (.spareReady b ⟨n, o, false⟩) s = .next t ∧ t = s) ∧
  (∀ (s : State) (b : Nat) (r : SwapRun),
    (s.bar b).swap = some r → r.step < 64 → r.started + 10000 + 3125 * (r.step + 1) ≤ s.now → r.line ≠ r.spare →
    ∃ t, exec (.crossfadeStep b) s = .next t ∧ (t.laser b r.line).output = crossfade r.ps (63 - r.step) ∧
    (t.laser b r.spare).output = crossfade r.ps (r.step + 1) ∧
    (t.bar b).swap = some { r with step := r.step + 1 } ∧
    t = { s with photonics := { s.photonics with lasers := t.photonics.lasers, bars := t.photonics.bars } }) ∧
  (∀ (s : State) (b : Nat) (r : SwapRun),
    (s.bar b).swap = some r → r.retired = false → 64 ≤ r.step → r.started + 210000 ≤ s.now → r.line ≠ r.spare →
    ∃ t, exec (.swapRetire b) s = .next t ∧ (t.laser b r.line).state = .retired ∧
    (t.laser b r.line).channel = none ∧ (t.laser b r.line).output = 0 ∧ (t.laser b r.spare).state = .active ∧
    (t.laser b r.spare).channel = some r.channel ∧ (t.laser b r.spare).output = r.ps ∧
    (t.laser b r.spare).commissioning = (s.laser b r.line).commissioning ∧
    (t.bar b).swap = some { r with retired := true } ∧
    t = { s with photonics := { s.photonics with lasers := t.photonics.lasers, bars := t.photonics.bars } }) ∧
  (∀ (s : State) (b : Nat) (r : SwapRun),
    (s.bar b).swap = some r → r.retired = true → r.started + 250000 ≤ s.now →
    (List.range 20).all (fun n => !(s.laser b n).past15) = true →
    ∃ t, exec (.swapDone b) s = .next t ∧ (t.bar b).swap = none ∧ t.reg 0x420102 = satAdd 32 (s.reg 0x420102) 1 ∧
    t.reg 0x420105 = s.now - r.started ∧ t.raised 0x1403 = s.raised 0x1403 + 1 ∧
    t.laser b r.spare = { s.laser b r.spare with rampAt := some s.now } ∧
    ((∀ k, k ≠ laserKey b r.spare → t.photonics.lasers.get {} k = s.photonics.lasers.get {} k)) ∧
    t.photonics = { s.photonics with lasers := t.photonics.lasers, bars := t.photonics.bars } ∧
    t = { s with photonics := t.photonics, regs := t.regs, control := t.control, dbg := t.dbg }) ∧
  (∀ (s : State) (b n u : Nat) (v : BitVec 32),
    ((s.laser b n).state = .active ∨ (s.laser b n).state = .warned) → (s.laser b n).rampAt = some u →
    u + 100000 ≤ s.now → stepOf (s.laser b n).output v = true →
    (fp32.decode v.toNat).lt (fp32.decode (s.laser b n).commissioning.toNat) = true →
    ∃ t, exec (.spareRampStep b n v) s = .next t ∧
    t.laser b n = { s.laser b n with output := v, rampAt := some (u + 100000) } ∧
    ((∀ k, k ≠ laserKey b n → t.photonics.lasers.get {} k = s.photonics.lasers.get {} k)) ∧
    t = { s with photonics := { s.photonics with lasers := t.photonics.lasers } }) ∧
  (∀ (s : State) (b n u : Nat) (v : BitVec 32),
    ((s.laser b n).state = .active ∨ (s.laser b n).state = .warned) → (s.laser b n).rampAt = some u →
    u + 100000 ≤ s.now → stepOf (s.laser b n).output v = true →
    (fp32.decode v.toNat).lt (fp32.decode (s.laser b n).commissioning.toNat) = false →
    ∃ t, exec (.spareRampStep b n v) s = .next t ∧
    t.laser b n = { s.laser b n with output := (s.laser b n).commissioning, rampAt := none } ∧
    ((∀ k, k ≠ laserKey b n → t.photonics.lasers.get {} k = s.photonics.lasers.get {} k)) ∧
    t = { s with photonics := { s.photonics with lasers := t.photonics.lasers } }) ∧
  (∀ (s : State) (v n : Nat),
    (s.lifeCycle = 0 ∨ s.lifeCycle = 3) → v ≤ 191 → s.lineForChannel (v / 16) (v % 16) = some n →
    (s.laser (v / 16) n).state = .active →
    ∃ t, exec (.reCommission v) s = .next t ∧
    t.laser (v / 16) n = { s.laser (v / 16) n with commissioning := (s.laser (v / 16) n).output, fall := 0 } ∧
    t.reg 0x420202 = 0 ∧
    t = { s with photonics := { s.photonics with lasers := t.photonics.lasers }, regs := t.regs }) ∧
  (∀ (s : State) (v : Nat),
    s.lifeCycle ≠ 0 → s.lifeCycle ≠ 3 →
    ∃ t, exec (.reCommission v) s = .next t ∧ t = s.setReg 0x420202 2)

/-- Rings are calibrated, found on the wrong channel, and relocked, and lanes narrow, as the ring rules say -/
def Obligations.RingsRelock : Prop :=
  (∀ (s : State) (b : Nat) (k : List (BitVec 32)),
    isElement (16 * b) = true → s.reg 0x440004 ≠ 2 →
    (List.range 16).all (fun i => (s.ring (16 * b + i)).state = .locked) = true →
    ((s.bank b).count = 0 ∨ (s.bank b).time + 3600000000000 ≤ s.now) →
    ∃ t, exec (.kRemeasure b k) s = .next t ∧
    t.bank b = { s.bank b with pending := some k, count := satAdd 32 (s.bank b).count 1, time := s.now } ∧
    ((∀ c, c ≠ b → t.bank c = s.bank c)) ∧
    t = { s with photonics := { s.photonics with banks := t.photonics.banks } }) ∧
  (∀ (s : State) (b : Nat) (l : List Int),
    isElement (16 * b) = true → s.reg 0x440004 ≠ 2 →
    (match (s.bank b).passed with | some u => decide (s.now < u + 1000000 * s.reg 0x430007) | none => false) =
      false →
    s.bankSwaps b = false → 2000 ≤ (s.bank b).centi → (s.bank b).centi ≤ 8200 →
    ∃ t, exec (.calibrationPass b l) s = .next t ∧
    ((∀ i, i < 16 → (s.ring (16 * b + i)).state = .locked → ∃ q : Int, (4 * q - boundTrim (l.getD i 0)).natAbs < 4
      ∧ (t.ring (16 * b + i)).trim = boundTrim ((s.ring (16 * b + i)).trim - q) ∧ (t.ring (16 * b + i)).calibrated
      = s.now ∧ (t.ring (16 * b + i)).state = .locked ∧ (t.ring (16 * b + i)).calibrations = satAdd 32 (s.ring (16
      * b + i)).calibrations 1 ∧ (t.ring (16 * b + i)).table = setAt (nearestPoint (s.bank b).centi) (Nat.min
      (((s.ring (16 * b + i)).table.getD (nearestPoint (s.bank b).centi) 0 : Int) + q).toNat 65535) (s.ring (16 * b
      + i)).table)) ∧
    ((∀ i, i < 16 → (s.ring (16 * b + i)).state ≠ .locked → t.ring (16 * b + i) = s.ring (16 * b + i))) ∧
    (t.bank b).pending = none ∧ (t.bank b).passed = some s.now ∧
    (t.bank b).k = (s.bank b).pending.getD (s.bank b).k ∧
    t.photonics = { s.photonics with rings := t.photonics.rings, banks := t.photonics.banks } ∧
    t = { s with photonics := t.photonics, regs := t.regs, freeCount := t.freeCount }) ∧
  (∀ (s : State) (b : Nat) (l : List Int),
    isElement (16 * b) = true → s.reg 0x440004 ≠ 2 →
    (match (s.bank b).passed with | some u => decide (s.now < u + 1000000 * s.reg 0x430007) | none => false) =
      false →
    s.bankSwaps b = false → 8200 < (s.bank b).centi → (s.bank b).skipRaised = false → (s.bank b).pending = none →
    ∃ t, exec (.calibrationPass b l) s = .next t ∧ t.raised 0x140A = s.raised 0x140A + 1 ∧
    t.bank b = { s.bank b with skipRaised := true, passed := some s.now } ∧
    t.photonics = { s.photonics with banks := t.photonics.banks } ∧
    t = { s with photonics := t.photonics, regs := t.regs, control := t.control, dbg := t.dbg }) ∧
  (∀ (s : State) (a h : Nat),
    h ≠ 0 → 200 * ((a : Int) - h).natAbs ≤ h → s.reg 0x440004 = 0 →
    ∃ t, exec (.referenceCompare a h) s = .next t ∧ t.reg 0x440001 = a ∧ t.reg 0x440002 = h ∧ t.reg 0x440004 = 0 ∧
    t.control = s.control ∧ t = { s with regs := t.regs, photonics := t.photonics, freeCount := t.freeCount }) ∧
  (∀ (s : State) (a h : Nat),
    h ≠ 0 → h < 200 * ((a : Int) - h).natAbs → 50 * ((a : Int) - h).natAbs ≤ h → s.reg 0x440004 = 0 →
    ∃ t, exec (.referenceCompare a h) s = .next t ∧ t.reg 0x440004 = 1 ∧
    t.reg 0x440005 = satAdd 32 (s.reg 0x440005) 1 ∧ t.raised 0x1409 = s.raised 0x1409 + 1 ∧
    t.photonics.rings = s.photonics.rings ∧
    t = { s with
      regs := t.regs, photonics := t.photonics, freeCount := t.freeCount, control := t.control, dbg := t.dbg }) ∧
  (∀ (s : State) (a h : Nat),
    h < 50 * ((a : Int) - h).natAbs → s.reg 0x440004 < 2 →
    ∃ t, exec (.referenceCompare a h) s = .next t ∧ t.reg 0x440004 = 2 ∧
    t.reg 0x440005 = satAdd 32 (s.reg 0x440005) 1 ∧ t.raised 0x1409 = s.raised 0x1409 + 1 ∧
    t.photonics.rings = s.photonics.rings ∧
    t = { s with
      regs := t.regs, photonics := t.photonics, freeCount := t.freeCount, control := t.control, dbg := t.dbg }) ∧
  (∀ (s : State) (e : Nat) (u : Int),
    isElement e = true → (s.ring e).state = .locked →
    ∃ t, exec (.toneWindow e ⟨some (elRing e), u⟩) s = .next t ∧
    t.ring e = { s.ring e with
      tone := some (elRing e), trim := boundTrim u, limitSince := (if (boundTrim u).natAbs ≠ 2000 then none else if
        (s.ring e).trim = boundTrim u then some ((s.ring e).limitSince.getD s.now) else some s.now), wrongWindows
        := 0, goodWindows := (s.ring e).goodWindows + 1 } ∧
    sameRings e s t ∧ t = { s with photonics := { s.photonics with rings := t.photonics.rings } }) ∧
  (∀ (s : State) (e : Nat) (u : Int),
    isElement e = true → (s.ring e).state ≠ .locked →
    ∃ t, exec (.toneWindow e ⟨none, u⟩) s = .next t ∧
    t.ring e = { s.ring e with tone := none, limitSince := none, wrongWindows := 0, goodWindows := 0 } ∧
    sameRings e s t ∧ t = { s with photonics := { s.photonics with rings := t.photonics.rings } }) ∧
  (∀ (s : State) (e x : Nat) (u : Int),
    isElement e = true → (s.ring e).state = .locked → x ≠ elRing e → 2 ≤ (s.ring e).wrongWindows →
    ∃ t, exec (.toneWindow e ⟨some x, u⟩) s = .next t ∧ (t.ring e).state = .sweeping ∧ (t.ring e).attempts = 1 ∧
    (t.ring e).relocks = satAdd 16 (s.ring e).relocks 1 ∧ t.reg 0x430003 = satAdd 64 (s.reg 0x430003) 1 ∧
    t.reg 0x430004 = satAdd 64 (s.reg 0x430004) 1 ∧ t.raised 0x1406 = s.raised 0x1406 + 1 ∧ sameRings e s t ∧
    t = { s with rig := t.rig, regs := t.regs, control := t.control, dbg := t.dbg, photonics := t.photonics }) ∧
  (∀ (s : State) (e u : Nat),
    isElement e = true → (s.ring e).state = .locked → (s.ring e).limitSince = some u → u + 1000000 ≤ s.now →
    ∃ t, exec (.trimLimit e) s = .next t ∧ (t.ring e).state = .sweeping ∧ (t.ring e).attempts = 1 ∧
    (t.ring e).relocks = satAdd 16 (s.ring e).relocks 1 ∧ t.reg 0x430003 = satAdd 64 (s.reg 0x430003) 1 ∧
    t.reg 0x430004 = satAdd 64 (s.reg 0x430004) 1 ∧ t.raised 0x1406 = s.raised 0x1406 + 1 ∧ sameRings e s t ∧
    t = { s with rig := t.rig, regs := t.regs, control := t.control, dbg := t.dbg, photonics := t.photonics }) ∧
  (∀ (s : State) (e x : Nat),
    (s.ring e).state = .sweeping → (s.ring e).retryAt = none → (s.ring e).sweepAt + 402000 ≤ s.now → x ≤ 40000 →
    ∃ t, exec (.relockSweepEnd e (some x)) s = .next t ∧
    t.ring e = { s.ring e with state := .verify, candidate := x, goodWindows := 0 } ∧ sameRings e s t ∧
    t = { s with photonics := { s.photonics with rings := t.photonics.rings } }) ∧
  (∀ (s : State) (e : Nat),
    (s.ring e).state = .sweeping → (s.ring e).retryAt = none → (s.ring e).sweepAt + 402000 ≤ s.now →
    (s.ring e).attempts < 3 →
    ∃ t, exec (.relockSweepEnd e none) s = .next t ∧ t.ring e = { s.ring e with retryAt := some (s.now + 10000) } ∧
    sameRings e s t ∧ t = { s with photonics := { s.photonics with rings := t.photonics.rings } }) ∧
  (∀ (s : State) (e : Nat),
    (s.ring e).state = .sweeping → (s.ring e).retryAt = none → (s.ring e).sweepAt + 402000 ≤ s.now →
    3 ≤ (s.ring e).attempts →
    ∃ t, exec (.relockSweepEnd e none) s = .next t ∧ (t.ring e).state = .failed ∧ (t.ring e).retryAt = none ∧
    t.raised 0x1407 = s.raised 0x1407 + 1 ∧ t.reg 0x430005 = satAdd 32 (s.reg 0x430005) 1 ∧ sameRings e s t ∧
    t.memory = s.memory ∧
    t = { s with
      domain := t.domain, rig := t.rig, regs := t.regs, control := t.control, dbg := t.dbg, photonics :=
        t.photonics }) ∧
  (∀ (s : State) (e : Nat),
    (s.ring e).state = .verify → 3 ≤ (s.ring e).goodWindows →
    ∃ t, exec (.relockVerified e true) s = .next t ∧ (t.ring e).state = .locked ∧ (t.ring e).trim = 0 ∧
    (t.ring e).attempts = 0 ∧ (t.ring e).calibrated = s.now ∧
    (t.ring e).table = setAt (nearestPoint (s.bank (e / 16)).centi) (s.ring e).candidate (s.ring e).table ∧
    sameRings e s t ∧ t.photonics = { s.photonics with rings := t.photonics.rings, banks := t.photonics.banks } ∧
    t = { s with photonics := t.photonics, rig := t.rig, regs := t.regs, freeCount := t.freeCount }) ∧
  (∀ (s : State) (e : Nat),
    (s.ring e).state = .verify → (s.ring e).attempts < 3 →
    ∃ t, exec (.relockVerified e false) s = .next t ∧
    t.ring e = { s.ring e with state := .sweeping, retryAt := some (s.now + 10000) } ∧ sameRings e s t ∧
    t = { s with photonics := { s.photonics with rings := t.photonics.rings } }) ∧
  (∀ (s : State) (e a : Nat),
    (s.ring e).retryAt = some a → (s.ring e).state = .sweeping → a ≤ s.now →
    ∃ t, exec (.relockRetry e) s = .next t ∧
    t.ring e = { s.ring e with sweepAt := s.now, attempts := (s.ring e).attempts + 1, retryAt := none } ∧
    sameRings e s t ∧ t = { s with photonics := { s.photonics with rings := t.photonics.rings } }) ∧
  (∀ (s : State) (slot lane : Nat),
    (s.lane slot lane).narrowing ≠ none → (s.lane slot lane).state = .active →
    ∃ t, exec (.laneNarrow slot lane) s = .next t ∧ (t.lane slot lane).state = .quiescing ∧
    (t.lane slot lane).targets = (s.lane slot lane).targets ∧
    (t.lane slot lane).dropped = (s.lane slot lane).dropped ∧
    (t.lane slot lane).narrowing = (s.lane slot lane).narrowing ∧ sameLanes (laneKey slot lane) s t ∧
    t = { s with rig := t.rig, regs := t.regs }) ∧
  (∀ (s : State) (slot lane : Nat),
    (s.lane slot lane).narrowing ≠ none → (s.lane slot lane).state = .quiescing →
    (s.dropsFor (laneKey slot lane)).length < 2 →
    ∃ t, exec (.laneNarrowRetrain slot lane) s = .next t ∧
    (t.lane slot lane).state = (if (s.lane slot lane).targets = 0 then .idle else .active) ∧
    (t.lane slot lane).dropped = s.dropsFor (laneKey slot lane) ∧ (t.lane slot lane).narrowing = none ∧
    (t.lane slot lane).ignoreNaks = false ∧ (t.lane slot lane).nextSeq = 0 ∧
    t.raised 0x1408 = s.raised 0x1408 + (if (s.dropsFor (laneKey slot lane)).length = (s.lane slot
      lane).dropped.length then 0 else 1) ∧
    sameLanes (laneKey slot lane) s t ∧ t.photonics = s.photonics ∧
    t = { s with rig := t.rig, regs := t.regs, control := t.control, dbg := t.dbg }) ∧
  (∀ (s : State) (e : Nat),
    isElement e = true →
    ∃ t, exec (.elementSelect e) s = .next t ∧ t.reg 0x431001 = e ∧ t.reg 0x431002 = s.now ∧
    t.photonics.snapshot = s.ring e ∧ t.photonics.snapshotBank = s.bank (e / 16) ∧
    t.photonics.rings = s.photonics.rings ∧
    t = { s with photonics := t.photonics, regs := t.regs, freeCount := t.freeCount })

/-- Dies are fenced and reset in turn, with or without a fence, and come back as the reset rules say -/
def Obligations.DiesReset : Prop :=
  (∀ (s : State) (d : Nat),
    d ∈ [0x10, 0x11, 0x12, 0x13] → (s.die d).state = .ready → s.resetRunning = false → s.package.dueResets = [] →
    ∃ t, exec (.dieReset d) s = .next t ∧
    t = { s with package := { s.package with dueResets := [(d, false)] }, regs := t.regs } ∧ t.reg 0x101102 = 1) ∧
  (∀ (s : State) (d : Nat),
    d ∈ [0x20, 0x21, 0x22, 0x23] → (s.die d).state = .ready → s.resetRunning = false → s.package.dueResets = [] →
    ∃ t, exec (.dieReset d) s = .next t ∧ (t.die d).state = .fencing ∧ (t.die d).resetStart = s.now ∧
    (t.die d).abrupt = false ∧ t.reg 0x101102 = 1 ∧ t.raised 0x1705 = s.raised 0x1705 + 1 ∧ sameDies d s t ∧
    ((s.holdersOn (d % 16) = [] → t.ctxs = s.ctxs)) ∧ t.memory = s.memory ∧
    t = { s with
      package := t.package, regs := t.regs, control := t.control, dbg := t.dbg, ctxs := t.ctxs, coll := t.coll }) ∧
  (∀ (s : State) (d : Nat),
    (d = 0x30 ∨ d = 0x31) → (s.die d).state = .ready → s.activeComplex ≠ some (d % 16) → s.resetRunning = false →
    s.package.dueResets = [] →
    ∃ t, exec (.dieReset d) s = .next t ∧ (t.die d).state = .reset ∧ (t.complex (d % 16)).state = .offline ∧
    t.reg 0x101102 = 1 ∧ sameDies d s t ∧
    t = { s with package := t.package, regs := t.regs, control := t.control, dbg := t.dbg }) ∧
  (∀ (s : State) (d : Nat),
    d ∉ resetCodes →
    ∃ t, exec (.dieReset d) s = .next t ∧ t = s.setReg 0x101102 2) ∧
  (∀ (s : State) (d : Nat),
    d ∈ resetCodes → (s.resetRunning = true ∨ s.package.dueResets ≠ []) →
    ∃ t, exec (.dieReset d) s = .next t ∧ t = s.setReg 0x101102 3) ∧
  (∀ (s : State) (d : Nat),
    d ∈ [0x10, 0x11, 0x12, 0x13] → (s.die d).state = .ready → d ∉ s.package.dueResets.map (·.1) →
    (s.resetRunning = true ∨ s.package.dueResets = []) →
    ∃ t, exec (.watchdogReset d) s = .next t ∧
    t = { s with package := { s.package with dueResets := s.package.dueResets ++ [(d, false)] } }) ∧
  (∀ (s : State) (k : Nat),
    k < 2 → (s.die (0x30 + k)).state = .ready → s.activeComplex = some k →
    (s.complex (twinOf k)).state ≠ .standby → s.boot.halted = false → (0x30 + k) ∉ s.package.dueResets.map (·.1) →
    ∃ t, exec (.watchdogReset (0x30 + k)) s = .next t ∧ t.boot.halted = true ∧ t.boot.faultN = false ∧
    t.memory = s.memory) ∧
  (∀ (s : State) (x : Nat),
    s.resetRunning = false → (0x10 + x) ∈ s.package.dueResets.map (·.1) → (s.die (0x10 + x)).state = .ready →
    ∃ t, exec (.kdFence x) s = .next t ∧ (t.die (0x10 + x)).state = .fencing ∧ (t.die (0x10 + x)).abrupt = false ∧
    (t.die (0x10 + x)).resetStart = s.now ∧ t.towerServes x = false ∧ (0x10 + x) ∉ t.package.dueResets.map (·.1) ∧
    ((s.collectiveOn x = [] → t.ctxs = s.ctxs ∧ t.coll = s.coll)) ∧ sameDies (0x10 + x) s t ∧ t.memory = s.memory ∧
    t = { s with
      package := t.package, coll := t.coll, regs := t.regs, control := t.control, dbg := t.dbg, ctxs := t.ctxs,
        commits := t.commits }) ∧
  (∀ (s : State) (x : Nat),
    (s.die (0x10 + x)).state = .fencing → s.slotBusy x = false → (s.tower x).change = none →
    ∃ t, exec (.kdFenced x) s = .next t ∧ (t.die (0x10 + x)).state = .reset ∧
    (t.die (0x10 + x)).resets = satAdd 32 (s.die (0x10 + x)).resets 1 ∧ sameDies (0x10 + x) s t ∧ t.ctxs = s.ctxs ∧
    ((∀ k, k ∈ slotLanes x → (t.laneAt k).state = .out ∧ (t.laneAt k).noRetrain = true)) ∧
    ((∀ k, k / 4096 / 200 = x → t.cacheSet k = {})) ∧
    t = { s with
      memory := t.memory, rig := t.rig, package := t.package, blobs := t.blobs, regs := t.regs, control :=
        t.control, dbg := t.dbg }) ∧
  (∀ (s : State) (x : Nat),
    x < 16 → (s.die (0x10 + x)).state = .fencing → (s.tower x).change = none →
    (s.die (0x10 + x)).resetStart + 250000 + (s.die (0x10 + x)).fenceExtra ≤ s.now →
    ∃ t, exec (.fenceTimeout (0x10 + x)) s = .next t ∧ (t.die (0x10 + x)).state = .reset ∧
    (t.die (0x10 + x)).abrupt = true ∧ (t.tower x).hold = [] ∧
    ((∀ k, k ∈ slotLanes x → (t.laneAt k).state = .out ∧ (t.laneAt k).noRetrain = true)) ∧
    ((∀ k, k / 4096 / 200 = x → t.cacheSet k = {}))) ∧
  (∀ (s : State) (x : Nat),
    x < 4 → ((s.die (0x20 + x)).state = .ready ∨ (s.die (0x20 + x)).state = .fencing) →
    ∃ t, exec (.abruptReset (0x20 + x)) s = .next t ∧ (t.die (0x20 + x)).state = .reset ∧
    (t.die (0x20 + x)).abrupt = true ∧ ((∀ c, c / 200 = x → (t.cluster c).bound = none)) ∧
    ((∀ o, clusterOffset (200 * x) 0 ≤ o → o < clusterOffset (200 * x) 0 + 200 * 0x400000 → t.memory.cells.read o =
      0))) ∧
  (∀ (s : State) (x : Nat),
    x < 4 → (s.die (0x10 + x)).state = .ready →
    ∃ t, exec (.dieClockLoss (0x10 + x)) s = .next t ∧ (t.die (0x10 + x)).state = .reset ∧
    (t.die (0x10 + x)).abrupt = true ∧
    ((∀ k, k ∈ slotLanes x → (t.laneAt k).state = .out ∧ (t.laneAt k).noRetrain = true)) ∧
    ((∀ k, k / 4096 / 200 = x → t.cacheSet k = {}))) ∧
  (∀ (s : State) (x : Nat),
    (s.die (0x20 + x)).state = .fencing → s.holdersOn x = [] →
    ∃ t, exec (.cdParkTimeout x) s = .next t ∧ (t.die (0x20 + x)).state = .reset ∧ sameDies (0x20 + x) s t ∧
    t.ctxs = s.ctxs ∧
    ((∀ o, clusterOffset (200 * x) 0 ≤ o → o < clusterOffset (200 * x) 0 + 200 * 0x400000 → t.memory.cells.read o =
      0))) ∧
  (∀ (s : State) (x : Nat),
    (s.die (0x20 + x)).state = .fencing → (s.die (0x20 + x)).resetStart + 1000000 ≤ s.now →
    ∃ t, exec (.cdParkTimeout x) s = .next t ∧ (t.die (0x20 + x)).state = .reset ∧
    ((∀ c, c / 200 = x → (t.cluster c).bound = none))) ∧
  (∀ (s : State),
    (s.die 0x30).state ≠ .ready → (s.die 0x31).state ≠ .ready → s.boot.halted = false →
    ∃ t, exec (.hubHalt) s = .next t ∧ t.boot.halted = true ∧ t.boot.faultN = false ∧
    t = { s with
      domain := t.domain, rig := t.rig, package := t.package, regs := t.regs, control := t.control, boot := t.boot }) ∧
  (∀ (s : State) (x : Nat),
    (s.die (0x10 + x)).state = .training → (s.die (0x10 + x)).unagreed = [] → (s.tower x).hold = [] →
    (s.tower x).stalled = [] → s.package.dueResets = [] → (s.die (0x10 + x)).abrupt = false →
    ∃ t, exec (.kdReady x) s = .next t ∧ (t.die (0x10 + x)).state = .ready ∧ (t.die (0x10 + x)).abrupt = false ∧
    (t.die (0x10 + x)).readyEpoch = satAdd 32 (s.die (0x10 + x)).readyEpoch 1 ∧ t.towerServes x = true ∧
    t.reg 0x101102 = 0 ∧ t.clusters = s.clusters ∧ t.memory.cells = s.memory.cells ∧
    t.memory.marks = s.memory.marks) ∧
  (∀ (s : State) (x : Nat),
    (s.die (0x10 + x)).state = .training → (s.die (0x10 + x)).unagreed = [] → (s.tower x).hold = [] →
    (s.tower x).stalled = [] → s.package.dueResets = [] → (s.die (0x10 + x)).abrupt = true →
    ∃ t, exec (.kdReady x) s = .next t ∧ (t.die (0x10 + x)).state = .ready ∧ (t.die (0x10 + x)).abrupt = false ∧
    (t.die (0x10 + x)).readyEpoch = satAdd 32 (s.die (0x10 + x)).readyEpoch 1 ∧ t.towerServes x = true ∧
    t.reg 0x101102 = 0 ∧ t.clusters = s.clusters ∧
    t.memory.marks = s.memory.marks ++ [(0x2400000000 * x / 64, (0x2400000000 * x + 0x2400000000) / 64),
      ((0xC000000000 + 0x40000000 * x) / 64, (0xC000000000 + 0x40000000 * x + 0x40000000) / 64)]) ∧
  (∀ (s : State) (d : Nat),
    ∃ t, exec (.railsBackInRange d) s = .next t ∧ t.die d = { s.die d with railsOut := false } ∧ sameDies d s t ∧
    t = { s with package := { s.package with dies := t.package.dies } })

/-- Stays are suspected, repaired or retired, and links agree on their width, as the stay rules say -/
def Obligations.StaysRepair : Prop :=
  (∀ (s : State) (id n f r : Nat),
    isLink id = true → suspected (linkKind id) (s.stay (stayKey id n)).swapped.length f r = true →
    n < linkStays (linkKind id) → (s.stay (stayKey id n)).retired = false →
    (s.stay (stayKey id n)).suspect = none → linkKind id ≠ 3 → linkKind id ≠ 4 →
    ∃ t, exec (.staySuspect id ⟨n, f, r⟩) s = .next t ∧
    t.stay (stayKey id n) = { s.stay (stayKey id n) with suspect := some s.now } ∧
    ((∀ k, k ≠ stayKey id n → t.stay k = s.stay k)) ∧
    t = { s with package := { s.package with stays := t.package.stays } }) ∧
  (∀ (s : State) (id n f r k : Nat),
    isLink id = true → suspected (linkKind id) (s.stay (stayKey id n)).swapped.length f r = true →
    n < linkStays (linkKind id) → (s.stay (stayKey id n)).retired = false →
    (s.stay (stayKey id n)).suspect = none → (linkKind id = 3 ∨ linkKind id = 4) → s.laneOfLink id = some k →
    (s.laneAt k).state = .active →
    ∃ t, exec (.staySuspect id ⟨n, f, r⟩) s = .next t ∧
    t.stay (stayKey id n) = { s.stay (stayKey id n) with suspect := some s.now } ∧
    (t.laneAt k).state = .quiescing ∧ (t.laneAt k).targets = (s.laneAt k).targets ∧
    (t.laneAt k).dropped = (s.laneAt k).dropped ∧ sameLanes k s t ∧
    t.package = { s.package with stays := t.package.stays } ∧
    t = { s with package := t.package, rig := t.rig, regs := t.regs }) ∧
  (∀ (s : State) (id n f r : Nat),
    suspected (linkKind id) (s.stay (stayKey id n)).swapped.length f r = false →
    ∃ t, exec (.staySuspect id ⟨n, f, r⟩) s = .next t ∧ t = s) ∧
  (∀ (s : State) (id n : Nat),
    (s.stay (stayKey id n)).suspect ≠ none → (s.stay (stayKey id n)).retired = false → linkKind id ≠ 3 →
    linkKind id ≠ 4 → ¬ (linkKind id = 1 ∧ (s.region (zoneOf (200 * linkSite id + linkIndex id))).stopped = true) →
    (s.stay (stayKey id n)).swapped.length ≤ 2 →
    ∃ t, exec (.stayRepair id n []) s = .next t ∧
    t.stay (stayKey id n) = { s.stay (stayKey id n) with suspect := none } ∧
    t = { s with package := { s.package with stays := t.package.stays } }) ∧
  (∀ (s : State) (id n b : Nat),
    (s.stay (stayKey id n)).suspect ≠ none → (s.stay (stayKey id n)).retired = false → linkKind id ≠ 3 →
    linkKind id ≠ 4 → ¬ (linkKind id = 1 ∧ (s.region (zoneOf (200 * linkSite id + linkIndex id))).stopped = true) →
    (s.stay (stayKey id n)).swapped.length ≤ 1 → b < 32 → b ∉ (s.stay (stayKey id n)).swapped →
    ∃ t, exec (.stayRepair id n [b]) s = .next t ∧ (t.stay (stayKey id n)).suspect = none ∧
    (t.stay (stayKey id n)).swapped = (s.stay (stayKey id n)).swapped ++ [b] ∧
    (t.link id).spares = (s.link id).spares + 1 ∧ t.package.repairQueue = s.package.repairQueue ++ [.swap id n b] ∧
    t.reg 0x102002 = satAdd 32 (s.reg 0x102002) 1 ∧ t.raised 0x1701 = s.raised 0x1701 + 1 ∧
    t.package = { s.package with
      stays := t.package.stays, links := t.package.links, repairQueue := t.package.repairQueue } ∧
    t = { s with package := t.package, regs := t.regs, control := t.control, dbg := t.dbg }) ∧
  (∀ (s : State) (id n a b c : Nat),
    (s.stay (stayKey id n)).suspect ≠ none → (s.stay (stayKey id n)).retired = false →
    ¬ (linkKind id = 1 ∧ (s.region (zoneOf (200 * linkSite id + linkIndex id))).stopped = true) → a < 32 → b < 32 →
    c < 32 → a ≠ b → a ≠ c → b ≠ c → (s.stay (stayKey id n)).swapped = [] → linkKind id = 6 →
    ∃ t, exec (.stayRepair id n [a, b, c]) s = .next t ∧ (t.stay (stayKey id n)).retired = true ∧
    t.package.repairQueue = s.package.repairQueue ++ [.retire id n] ∧
    t.reg 0x102003 = satAdd 32 (s.reg 0x102003) 1 ∧ t.raised 0x1701 = s.raised 0x1701 + 1 ∧
    (t.link id).retired = (s.link id).retired + 1 ∧
    (t.stack (6 * linkSite id + linkIndex id / 36)).retiredPins = (s.stack (6 * linkSite id + linkIndex id /
      36)).retiredPins ++ [linkIndex id % 36] ∧
    t.memory = { s.memory with hbm := t.memory.hbm } ∧
    t = { s with package := t.package, memory := t.memory, regs := t.regs, control := t.control, dbg := t.dbg }) ∧
  (∀ (s : State) (id n a b c : Nat),
    (s.stay (stayKey id n)).suspect ≠ none → (s.stay (stayKey id n)).retired = false →
    ¬ (linkKind id = 1 ∧ (s.region (zoneOf (200 * linkSite id + linkIndex id))).stopped = true) → a < 32 → b < 32 →
    c < 32 → a ≠ b → a ≠ c → b ≠ c → (s.stay (stayKey id n)).swapped = [] → linkKind id = 1 →
    quartersIn (maskWithout (s.link id).mask (stayPart 1 n)) ≠ 0 →
    ∃ t, exec (.stayRepair id n [a, b, c]) s = .next t ∧ (t.stay (stayKey id n)).retired = true ∧
    t.package.repairQueue = s.package.repairQueue ++ [.retire id n] ∧
    t.reg 0x102003 = satAdd 32 (s.reg 0x102003) 1 ∧ t.raised 0x1701 = s.raised 0x1701 + 1 ∧
    (t.link id).retired = (s.link id).retired + 1 ∧
    (t.link id).mask = maskWithout (s.link id).mask (stayPart 1 n) ∧
    (t.link id).width = quartersIn (t.link id).mask ∧ t.clusters = s.clusters ∧
    t = { s with package := t.package, regs := t.regs, control := t.control, dbg := t.dbg }) ∧
  (∀ (s : State) (id n a b c : Nat),
    (s.stay (stayKey id n)).suspect ≠ none → (s.stay (stayKey id n)).retired = false →
    ¬ (linkKind id = 1 ∧ (s.region (zoneOf (200 * linkSite id + linkIndex id))).stopped = true) → a < 32 → b < 32 →
    c < 32 → a ≠ b → a ≠ c → b ≠ c → (s.stay (stayKey id n)).swapped = [] → linkKind id = 1 →
    (s.link id).width ≠ 0 → quartersIn (maskWithout (s.link id).mask (stayPart 1 n)) = 0 →
    ∃ t, exec (.stayRepair id n [a, b, c]) s = .next t ∧ (t.stay (stayKey id n)).retired = true ∧
    t.package.repairQueue = s.package.repairQueue ++ [.retire id n] ∧
    t.reg 0x102003 = satAdd 32 (s.reg 0x102003) 1 ∧ t.raised 0x1701 = s.raised 0x1701 + 1 ∧
    (t.link id).retired = (s.link id).retired + 1 ∧
    (t.cluster (200 * linkSite id + linkIndex id)).outOfService = true ∧ t.memory = s.memory) ∧
  (∀ (s : State) (r : RepairRecord) (l : List RepairRecord),
    s.package.repairQueue = r :: l → s.flashWindow = true →
    ∃ t, exec (.repairLogWrite) s = .next t ∧ t.boot.flash.repairLog = s.boot.flash.repairLog ++ [r] ∧
    t.package.repairQueue = l ∧
    t = { s with package := { s.package with repairQueue := t.package.repairQueue }, boot := t.boot }) ∧
  (∀ (s : State) (id x m r : Nat) (n1 n2 n3 f1 f2 f3 : Bool),
    s.agreeing id = some (0x10 + x) → x < 4 → (s.die (0x10 + x)).state = .training →
    (s.die (0x10 + x)).unagreed.lookup id = some false → linkKind id = 1 → (n1 || n2 || n3) = true →
    (f1 || f2 || f3) = true → m ≠ 0 → s.loggedMask id = m → (s.link id).mask = m → quartersIn m ≠ 0 →
    ∃ t, exec (.widthAgreement id n1 n2 n3 f1 f2 f3 ⟨true, r⟩) s = .next t ∧ (t.link id).mask = m ∧
    (t.link id).width = quartersIn m ∧ t.package.repairQueue = s.package.repairQueue ∧
    t.raised 0x1703 = s.raised 0x1703 ∧
    (t.die (0x10 + x)).unagreed = (s.die (0x10 + x)).unagreed.filter (fun e => e.1 ≠ id) ∧
    (((t.die (0x10 + x)).unagreed = [] → 2 * (t.clocks.copies.get {} (0x10 + x)).pathDelay ≤ r + 1 ∧ r ≤ 2 *
      (t.clocks.copies.get {} (0x10 + x)).pathDelay + 1)) ∧
    (((t.die (0x10 + x)).unagreed ≠ [] → t.clocks = s.clocks)) ∧ (t.die (0x10 + x)).state = .training ∧
    sameDies (0x10 + x) s t ∧ t.raised 0x1704 = s.raised 0x1704 + 1 ∧
    t = { s with
      package := t.package, regs := t.regs, control := t.control, dbg := t.dbg, clocks := t.clocks, freeCount :=
        t.freeCount }) ∧
  (∀ (s : State) (id x m r : Nat) (n1 n2 n3 : Bool),
    s.agreeing id = some (0x10 + x) → x < 4 → (s.die (0x10 + x)).state = .training →
    (s.die (0x10 + x)).unagreed.lookup id = some false → linkKind id = 1 → (n1 || n2 || n3) = true →
    s.loggedMask id = m → m % 2 = 1 → m ≠ 1 → (s.link id).mask ≠ 1 →
    ∃ t, exec (.widthAgreement id n1 n2 n3 false false false ⟨true, r⟩) s = .next t ∧ (t.link id).mask = 1 ∧
    (t.link id).width = 1 ∧ t.package.repairQueue = s.package.repairQueue ++ [.narrow id 1] ∧
    t.reg 0x102005 = satAdd 32 (s.reg 0x102005) 1 ∧ t.raised 0x1703 = s.raised 0x1703 + 1 ∧
    (t.die (0x10 + x)).unagreed = (s.die (0x10 + x)).unagreed.filter (fun e => e.1 ≠ id) ∧
    (((t.die (0x10 + x)).unagreed = [] → 2 * (t.clocks.copies.get {} (0x10 + x)).pathDelay ≤ r + 1 ∧ r ≤ 2 *
      (t.clocks.copies.get {} (0x10 + x)).pathDelay + 1)) ∧
    (((t.die (0x10 + x)).unagreed ≠ [] → t.clocks = s.clocks)) ∧ (t.die (0x10 + x)).state = .training ∧
    sameDies (0x10 + x) s t ∧ t.raised 0x1704 = s.raised 0x1704 + 1 ∧
    t = { s with
      package := t.package, regs := t.regs, control := t.control, dbg := t.dbg, clocks := t.clocks, freeCount :=
        t.freeCount }) ∧
  (∀ (s : State) (id x m r : Nat) (n1 n2 n3 f1 f2 f3 : Bool),
    s.agreeing id = some (0x10 + x) → x < 4 → (s.die (0x10 + x)).state = .training →
    (s.die (0x10 + x)).unagreed.lookup id = some false → linkKind id = 1 → (n1 || n2 || n3) = true →
    (f1 || f2 || f3) = true → s.loggedMask id = m → (s.link id).mask = m → 1 < quartersIn m →
    ∃ t, exec (.widthAgreement id n1 n2 n3 f1 f2 f3 ⟨false, r⟩) s = .next t ∧ (t.link id).mask = (s.link id).mask ∧
    (t.die (0x10 + x)).unagreed.lookup id = some true ∧ (t.die (0x10 + x)).state = .training ∧
    sameDies (0x10 + x) s t ∧ t.control = s.control ∧ t = { s with package := t.package })

/-- Guest sites are trained, described, verified and revoked, as the guest rules say -/
def Obligations.GuestsAreAdmitted : Prop :=
  (∀ (s : State) (g m r : Nat),
    s.guestFitted g = true → m ∈ [1, 2, 4] → r ∈ [8, 12, 16] → (s.guest g).heldInReset = false →
    (s.die (guestDie g)).railsOut = false → (s.guest g).state = .down →
    ∃ t, exec (.ucieInitialisation g m r) s = .next t ∧ (t.guest g).state = .training ∧ (t.guest g).modules = m ∧
    (t.guest g).bandwidth = m * r * 8 ∧ (t.guest g).refusedBlocks = 0 ∧ (t.guest g).capability = [] ∧
    (t.die (guestDie g)).state = .training ∧ sameGuests g s t ∧ t.memory = s.memory ∧
    t = { s with
      package := t.package, regs := t.regs, control := t.control, commits := t.commits, dbg := t.dbg, freeCount :=
        t.freeCount }) ∧
  (∀ (s : State) (g : Nat) (b : List Byte),
    (s.die (guestDie g)).state = .training → (s.guest g).state = .training →
    capabilityGood (s.fuses.guestPart.get [] g) (s.guest g).modules b = true →
    ∃ t, exec (.capabilityBlock g b) s = .next t ∧ (t.guest g).state = .confined ∧ (t.guest g).capability = b ∧
    (t.guest g).aperture = field b 20 8 ∧ (t.die (guestDie g)).state = .ready ∧
    (t.die (guestDie g)).readyEpoch = satAdd 32 (s.die (guestDie g)).readyEpoch 1 ∧ sameGuests g s t ∧
    t = { s with package := t.package, regs := t.regs, control := t.control, dbg := t.dbg }) ∧
  (∀ (s : State) (g : Nat) (b : List Byte),
    (s.die (guestDie g)).state = .training → (s.guest g).state = .training →
    capabilityGood (s.fuses.guestPart.get [] g) (s.guest g).modules b = false → (s.guest g).refusedBlocks < 2 →
    ∃ t, exec (.capabilityBlock g b) s = .next t ∧
    t.guest g = { s.guest g with refusedBlocks := (s.guest g).refusedBlocks + 1 } ∧
    (∃ c : BitVec 64, t.control.wire = s.control.wire ++ [.capability g (padTo 64 (leBytes 2 1 ++ leBytes 1
      (s.guest g).modules ++ leBytes 1 0 ++ leBytes 8 s.fuses.serial ++ leBytes 8 c.toNat ++ leBytes 8 0 ++ leBytes
      4 10000))]) ∧
    sameGuests g s t ∧
    t = { s with
      package := { s.package with guests := t.package.guests }, control :=
        { s.control with wire := t.control.wire }, freeCount := t.freeCount }) ∧
  (∀ (s : State) (g : Nat) (b : List Byte),
    (s.die (guestDie g)).state = .training → (s.guest g).state = .training →
    capabilityGood (s.fuses.guestPart.get [] g) (s.guest g).modules b = false → 2 ≤ (s.guest g).refusedBlocks →
    ∃ t, exec (.capabilityBlock g b) s = .next t ∧ (t.guest g).state = .down ∧
    (t.die (guestDie g)).state = .reset ∧ t.raised 0x1706 = s.raised 0x1706 + 1 ∧ sameGuests g s t ∧
    t = { s with package := t.package, regs := t.regs, control := t.control, dbg := t.dbg }) ∧
  (∀ (s : State) (g r : Nat),
    memoryCanonical s → (s.guest g).state = .verifying → s.boot.halted = false →
    r = s.manifestResult g (leNat (s.held (mailboxOf g + 4) 4)) (s.held (mailboxOf g + 0x1000) 3016) →
    ∃ t, exec (.gdoor g) s = .next t ∧ (t.guest g).result = r ∧
    ((r = 0 → (t.guest g).state = .admitted ∧ (t.guest g).passes = satAdd 32 (s.guest g).passes 1 ∧ (t.guest
      g).passEpoch = ((s.guest g).passEpoch + 1) % 4294967296)) ∧
    ((r ≠ 0 → (t.guest g).state = (if 3 ≤ (s.guest g).refusedManifests then .locked else .confined) ∧ (t.guest
      g).refusedManifests = (s.guest g).refusedManifests + 1 ∧ t.boot = s.boot)) ∧
    t.memory.cells.read (mailboxOf g + 0x8000) = BitVec.ofNat 8 r ∧
    ((∀ a, (a < mailboxOf g + 0x8000 ∨ mailboxOf g + 0x8010 ≤ a) → t.memory.cells.read a = s.memory.cells.read a)) ∧
    sameGuests g s t ∧ t = { s with memory := t.memory, package := t.package, boot := t.boot }) ∧
  (∀ (s s1 : State) (g : Nat) (r : Req) (a : Answer),
    s.guestFitted g = true → (s.guest g).state ≠ .absent → (s.guest g).state ≠ .down →
    (s.guest g).state ≠ .training → r.op = 0x20 → r.data.length ≤ 4096 → isMailboxForm r.addr = true →
    guestShape r = true → r.addr % 2 ^ 16 + r.len ≤ 0x10000 →
    s.plainAccess r.op (mailboxOf g + r.addr % 2 ^ 16) r.len r.data {} = (a, s1) →
    ∃ t, exec (.guestRequest g r) s = .next t ∧
    t.control.wire = s1.control.wire ++ [.guestReply g (responseTo r a)] ∧
    t = { s1 with control := { s1.control with wire := t.control.wire } }) ∧
  (∀ (s s1 : State) (g : Nat) (r : Req) (a : Answer),
    s.guestFitted g = true → (s.guest g).state ≠ .absent → (s.guest g).state ≠ .down →
    (s.guest g).state ≠ .training → r.op = 0x21 → isMailboxForm r.addr = true → guestShape r = true →
    r.addr % 2 ^ 16 + r.data.length ≤ 0x10000 →
    s.plainAccess r.op (mailboxOf g + r.addr % 2 ^ 16) r.data.length r.data {} = (a, s1) →
    ∃ t, exec (.guestRequest g r) s = .next t ∧
    t.control.wire = s1.control.wire ++ [.guestReply g (responseTo r a)] ∧ t.memory = s1.memory ∧
    (t.guest g).state = (if r.addr % 2 ^ 16 < 4 ∧ (s.guest g).state = .confined then .verifying else (s.guest
      g).state) ∧
    sameGuests g s t ∧ t = { s1 with control := t.control, package := t.package }) ∧
  (∀ (s : State) (g : Nat) (r : Req),
    s.guestFitted g = true → (s.guest g).state ≠ .absent → (s.guest g).state ≠ .down →
    (s.guest g).state ≠ .training → isMailboxForm r.addr = false → (s.guest g).state ≠ .admitted →
    ∃ t, exec (.guestRequest g r) s = .next t ∧ t.reg 0x402302 = satAdd 64 (s.reg 0x402302) 1 ∧
    t.package = s.package ∧ t.memory = s.memory ∧ t.domain = s.domain ∧ t.control.wire = s.control.wire ∧
    t = { s with rig := t.rig, regs := t.regs, control := t.control, dbg := t.dbg }) ∧
  (∀ (s : State) (g : Nat) (r : Req),
    s.guestFitted g = true → (vcOf r.op = some 1 ∨ r.op = 0x60) → r.data.length ≤ 4096 →
    (s.guest g).state = .admitted → isMailboxForm r.addr = false → s.belled = false → isDomainForm r.addr = false →
    r.op ≠ 0x22 →
    ∃ t, exec (.guestRequest g r) s = .next t ∧ t.reg 0xC01101 = satAdd 64 (s.reg 0xC01101) 1 ∧
    t.control.wire = s.control.wire ++ [.guestReply g (responseTo r (.error 0x0406))] ∧ t.memory = s.memory ∧
    t.domain = s.domain ∧ t = { s with package := t.package, regs := t.regs, control := t.control, dbg := t.dbg }) ∧
  (∀ (s s1 : State) (g : Nat) (r : Req),
    s.guestFitted g = true → (vcOf r.op = some 1 ∨ r.op = 0x60) → r.data.length ≤ 4096 →
    (s.guest g).state = .admitted → isMailboxForm r.addr = false → s.belled = false → isDomainForm r.addr = true →
    guestShape r = true → passOpcode r.op = true → r.refAmt = 0 →
    s.issueRequest { r with origin := .guest g, ctx := 1024 + g } ⟨1024 + g, 800, noEngine, .guest g r.tag, r.data,
      s.now, r.addr⟩ {} = (.sent, s1) →
    ∃ t, exec (.guestRequest g r) s = .next t ∧ t = s1) ∧
  (∀ (s : State) (g : Nat),
    (s.guest g).state ≠ .absent → (s.guest g).state ≠ .locked →
    ∃ t, exec (.hallPassRevoke g .guestReset) s = .next t ∧ (t.guest g).state = .down ∧ (t.guest g).bandwidth = 0 ∧
    (t.guest g).modules = 0 ∧ (t.guest g).refusedManifests = 0 ∧ (t.die (guestDie g)).state = .reset ∧
    ((∀ p ∈ t.rig.outbox, (s.guest g).state = .admitted → p.src ≠ 5 + g)) ∧ sameGuests g s t ∧
    t.memory = s.memory ∧
    t = { s with
      domain := t.domain, rig := t.rig, package := t.package, regs := t.regs, control := t.control, dbg := t.dbg }) ∧
  (∀ (s : State) (g n : Nat),
    (s.guest g).state ≠ .absent → (s.guest g).state ≠ .locked → 10000 ≤ n →
    ∃ t, exec (.hallPassRevoke g (.linkDown n)) s = .next t ∧ (t.guest g).state = .down ∧
    (t.guest g).bandwidth = 0 ∧ (t.guest g).modules = 0 ∧ (t.guest g).refusedManifests = 0 ∧
    (t.die (guestDie g)).state = .reset ∧ ((∀ p ∈ t.rig.outbox, (s.guest g).state = .admitted → p.src ≠ 5 + g)) ∧
    sameGuests g s t ∧ t.memory = s.memory ∧
    t = { s with
      domain := t.domain, rig := t.rig, package := t.package, regs := t.regs, control := t.control, dbg := t.dbg }) ∧
  (∀ (s : State) (g n : Nat),
    ((s.guest g).state = .admitted ∨ (s.guest g).state = .verifying) →
    (s.holder (guestDie g)).inForce * 11 < n * 10 →
    ∃ t, exec (.hallPassRevoke g (.overGrant n)) s = .next t ∧ (t.guest g).state = .confined ∧
    (t.guest g).passes = (s.guest g).passes ∧ (∀ p ∈ t.rig.outbox, p.src ≠ 5 + g) ∧
    t.domain.outstanding = s.domain.outstanding.map (discardGuest g) ∧ sameGuests g s t ∧ t.memory = s.memory ∧
    t = { s with domain := t.domain, rig := t.rig, package := t.package, regs := t.regs }) ∧
  (∀ (s : State) (g : Nat),
    ((s.guest g).state = .admitted ∨ (s.guest g).state = .verifying) → s.guestFitted g = true →
    ∃ t, exec (.revokeHallPass (0x10 + g)) s = .next t ∧ (t.guest g).state = .confined ∧
    (t.guest g).passes = (s.guest g).passes ∧ (∀ p ∈ t.rig.outbox, p.src ≠ 5 + g) ∧
    t.domain.outstanding = s.domain.outstanding.map (discardGuest g) ∧ sameGuests g s t ∧ t.memory = s.memory ∧
    t = { s with domain := t.domain, rig := t.rig, package := t.package, regs := t.regs } ∧ t.reg 0xC01002 = 0) ∧
  (∀ (s : State) (g : Nat),
    s.guestFitted g = true → (s.guest g).state = .locked →
    ∃ t, exec (.clearLocked (0x20 + g)) s = .next t ∧
    t.guest g = { s.guest g with
      refusedManifests := 0, state := (if (s.die (guestDie g)).state = .ready then .confined else if (s.die
        (guestDie g)).state = .training then .training else .down) } ∧
    t.reg 0xC01002 = 0 ∧ sameGuests g s t ∧ t = { s with package := t.package, regs := t.regs }) ∧
  (∀ (s : State) (g : Nat),
    g = s.shadow 0xC10001 → s.guestFitted g = true → s.windowStatus (s.blobShadow 0xC10003) = 0 →
    ∃ t, exec (.guestWindowCommit 1) s = .next t ∧
    t.domain.windows.get {} (windowKey (1024 + g) (s.shadow 0xC10002)) = (windowOfPayload (s.blobShadow
      0xC10003)).loaded ∧
    ((∀ k, k ≠ windowKey (1024 + g) (s.shadow 0xC10002) → t.domain.windows.get {} k = s.domain.windows.get {} k)) ∧
    t.reg 0xC10004 = 0 ∧ t.domain = { s.domain with windows := t.domain.windows } ∧
    t = { s with domain := t.domain, blobs := t.blobs, regs := t.regs })

/-- Power is asked for, granted, returned and acknowledged, as the grant rules say -/
def Obligations.GrantsMove : Prop :=
  (∀ (s : State) (d h n : Nat),
    s.isHolder d = true → s.boot.halted = false → h = holderKey d → n - (s.holder h).grant ≤ s.package.pool →
    ∃ t, exec (.ask d n) s = .next t ∧ (t.holder h).grant = Nat.max (s.holder h).grant n ∧
    (t.holder h).seq = ((s.holder h).seq + 1) % 4294967296 ∧ (t.holder h).acked = false ∧
    t.package.pool = s.package.pool - (n - (s.holder h).grant) ∧ t.control.inputs = s.control.inputs + 1 ∧
    ((s.hubSpeaks = true → s.compatMode = false → t.control.out = s.control.out ++ [Sent.mk s.control.oseq
      s.control.epoch (.control (holderSite h) 5 (budgetRecord 1 h (t.holder h).seq (t.holder h).grant
      s.control.epoch))])) ∧
    ((∀ k, k ≠ h → t.package.holders.get {} k = s.package.holders.get {} k)) ∧
    t.package.asks = (if h / 16 = 2 then s.package.asks else s.package.asks.filter (fun a => a.1 ≠ h)) ∧
    t = { s with package := t.package, control := t.control }) ∧
  (∀ (s : State) (d h q n e : Nat),
    s.isHolder d = true → h = holderKey d → (s.die d).highestEpoch ≤ e → (s.holder h).accepted < q →
    ∃ t, exec (.grant d q n e) s = .next t ∧ (t.holder h).inForce = n ∧ (t.holder h).accepted = q ∧
    (t.holder h).lastHeard = s.now ∧ (t.holder h).atFloor = false ∧ (t.holder h).grant = (s.holder h).grant ∧
    (t.die d).highestEpoch = e ∧ t.control.wire = s.control.wire ++ [.control 4 5 (budgetRecord 4 d q n e)] ∧
    (((s.holder h).inForce ≤ n → t.thermal = s.thermal ∧ t.regs = s.regs)) ∧
    ((∀ k, k ≠ h → t.package.holders.get {} k = s.package.holders.get {} k)) ∧
    t = { s with package := t.package, regs := t.regs, control := t.control, thermal := t.thermal }) ∧
  (∀ (s : State) (d q n e : Nat),
    s.isHolder d = true → e < (s.die d).highestEpoch →
    ∃ t, exec (.grant d q n e) s = .next t ∧ t = s.countReg 0xB00205 32 1) ∧
  (∀ (s : State) (d h q n e : Nat),
    s.isHolder d = true → h = holderKey d → (s.die d).highestEpoch ≤ e → q ≤ (s.holder h).accepted →
    ∃ t, exec (.grant d q n e) s = .next t ∧ t.holder h = { s.holder h with lastHeard := s.now } ∧
    (t.die d).highestEpoch = e ∧ ((∀ k, k ≠ h → t.package.holders.get {} k = s.package.holders.get {} k)) ∧
    t = { s with package := t.package }) ∧
  (∀ (s : State) (d h n : Nat),
    s.isHolder d = true → s.boot.halted = false → h = holderKey d → n < (s.holder h).grant → s.package.asks = [] →
    ∃ t, exec (.returnOp d n) s = .next t ∧
    t.holder h = { s.holder h with grant := n, inForce := Nat.min (s.holder h).inForce n } ∧
    t.package.pool = s.package.pool + ((s.holder h).grant - n) ∧
    t.control = { s.control with inputs := s.control.inputs + 1 } ∧
    ((∀ k, k ≠ h → t.package.holders.get {} k = s.package.holders.get {} k)) ∧
    t = { s with package := t.package, control := t.control }) ∧
  (∀ (s : State) (d h n : Nat),
    s.isHolder d = true → s.boot.halted = false → h = holderKey d → (s.holder h).acked = false →
    (s.holder h).grant = n → s.package.asks = [] → s.package.budgetPending = none →
    ∃ t, exec (.budgetAck d n) s = .next t ∧
    t.holder h = { s.holder h with acked := true, freeing := 0, cutting := 0 } ∧
    t.package.pool = s.package.pool + (s.holder h).freeing ∧
    t.control = { s.control with inputs := s.control.inputs + 1 } ∧
    ((∀ k, k ≠ h → t.package.holders.get {} k = s.package.holders.get {} k)) ∧
    t = { s with package := t.package, control := t.control }) ∧
  (∀ (s : State) (d h : Nat),
    s.isHolder d = true → s.boot.halted = false → h = holderKey d → (s.holder h).acked = false →
    (s.holder h).sentAt + 100000 ≤ s.now →
    ∃ t, exec (.grantRepeat d) s = .next t ∧ t.holder h = { s.holder h with sentAt := s.now } ∧
    ((s.hubSpeaks = true → s.compatMode = false → t.control.out = s.control.out ++ [Sent.mk s.control.oseq
      s.control.epoch (.control (holderSite h) 5 (budgetRecord 1 h (t.holder h).seq (t.holder h).grant
      s.control.epoch))])) ∧
    ((∀ k, k ≠ h → t.package.holders.get {} k = s.package.holders.get {} k)) ∧
    t = { s with package := t.package, control := t.control }) ∧
  (∀ (s : State) (d h : Nat),
    s.isHolder d = true → h = holderKey d → (s.holder h).atFloor = false →
    (s.holder h).lastHeard + 10000000 ≤ s.now →
    ∃ t, exec (.hubSilence d) s = .next t ∧ (t.holder h).inForce = Nat.min (holderFloor h) (s.holder h).inForce ∧
    (t.holder h).atFloor = true ∧ (t.holder h).grant = (s.holder h).grant ∧
    ((∀ k, k ≠ h → t.package.holders.get {} k = s.package.holders.get {} k)) ∧ t.memory = s.memory ∧
    t = { s with package := t.package, regs := t.regs, thermal := t.thermal })

/-- References fail over, limits are committed, and zones idle, slew, stop and return, as the clock rules say -/
def Obligations.ClocksFollow : Prop :=
  (∀ (s : State) (i : Nat),
    i < 2 → s.refGood i = true → s.clocks.selected = i → s.refGood (1 - i) = false →
    ∃ t, exec (.refclkLoss i) s = .next t ∧ t.refGood i = false ∧ t.clocks.holdover = true ∧
    t.clocks.lostAt = s.now ∧ t.clocks.selected = i ∧ t.clocks.pulling = false ∧
    t = { s with
      clocks := { s.clocks with
        good0 := t.clocks.good0, good1 := t.clocks.good1, holdover := t.clocks.holdover, lostAt := t.clocks.lostAt,
          pulling := t.clocks.pulling } }) ∧
  (∀ (s : State) (i : Nat),
    i < 2 → s.refGood i = true → s.clocks.selected = i → s.refGood (1 - i) = true →
    ∃ t, exec (.refclkLoss i) s = .next t ∧ t.refGood i = false ∧ t.clocks.holdover = false ∧
    t.clocks.selected = 1 - i ∧ t.clocks.pulling = true ∧
    t = { s with
      clocks := { s.clocks with
        good0 := t.clocks.good0, good1 := t.clocks.good1, holdover := t.clocks.holdover, lostAt := t.clocks.lostAt,
          pulling := t.clocks.pulling, selected := t.clocks.selected } }) ∧
  (∀ (s : State) (i : Nat),
    i < 2 → s.refGood i = true → s.clocks.selected ≠ i →
    ∃ t, exec (.refclkLoss i) s = .next t ∧ t.refGood i = false ∧ t.refGood (1 - i) = s.refGood (1 - i) ∧
    t = { s with clocks := { s.clocks with good0 := t.clocks.good0, good1 := t.clocks.good1 } }) ∧
  (∀ (s : State) (n : Int),
    s.clocks.pulling = true →
    ∃ t, exec (.failoverPullEnd n) s = .next t ∧ t.clocks = { s.clocks with pulling := false } ∧
    t.reg 0x300001 = s.clocks.selected ∧ t.reg 0x300004 = satAdd 32 (s.reg 0x300004) 1 ∧
    t.raised 0x1801 = s.raised 0x1801 + 1 ∧
    t = { s with clocks := t.clocks, regs := t.regs, control := t.control, dbg := t.dbg }) ∧
  (∀ (s : State),
    s.clocks.holdover = true → s.clocks.good0 = false → s.clocks.good1 = false → s.clocks.lostAt + 2000 ≤ s.now →
    ∃ t, exec (.holdoverTimeout) s = .next t ∧ t = s.rigLoss ∧ t.pending = s.pending ∧ t.fuses = s.fuses ∧
    t.boot.flash = s.boot.flash) ∧
  (∀ (s : State) (i : Nat),
    i < 2 → s.refGood i = false → s.clocks.holdover = true → s.now < s.clocks.lostAt + 2000 →
    ∃ t, exec (.refclkGood i) s = .next t ∧ t.refGood i = true ∧ t.clocks.selected = i ∧
    t.clocks.holdover = false ∧ t.clocks.pulling = true ∧
    t = { s with
      clocks := { s.clocks with
        good0 := t.clocks.good0, good1 := t.clocks.good1, selected := t.clocks.selected, holdover :=
          t.clocks.holdover, pulling := t.clocks.pulling } }) ∧
  (∀ (s : State) (i : Nat),
    i < 2 → s.refGood i = false → s.clocks.holdover = true → s.clocks.lostAt + 2000 ≤ s.now →
    ∃ t, exec (.refclkGood i) s = .next t ∧ t = (s.setRef i true).rigLoss ∧ t.pending = s.pending ∧
    t.fuses = s.fuses ∧ t.boot.flash = s.boot.flash) ∧
  (∀ (s : State) (i : Nat),
    i < 2 → s.refGood i = false → s.clocks.holdover = false →
    ∃ t, exec (.refclkGood i) s = .next t ∧ t.refGood i = true ∧ t.refGood (1 - i) = s.refGood (1 - i) ∧
    t = { s with clocks := { s.clocks with good0 := t.clocks.good0, good1 := t.clocks.good1 } }) ∧
  (∀ (s : State) (n : Int),
    s.now % 10000 = 0 → s.clocks.good0 = true → s.clocks.good1 = true → n.natAbs ≤ 200000 →
    ∃ t, exec (.referenceFrequencyCheck n) s = .next t ∧ t.clocks = { s.clocks with freqWarning := false } ∧
    t.reg 0x300005 = leNat (intBytes 4 n) ∧ t = { s with clocks := t.clocks, regs := t.regs }) ∧
  (∀ (s : State) (n : Int),
    s.now % 10000 = 0 → s.clocks.good0 = true → s.clocks.good1 = true → 200000 < n.natAbs →
    ∃ t, exec (.referenceFrequencyCheck n) s = .next t ∧ t.clocks = { s.clocks with freqWarning := true } ∧
    t.reg 0x300005 = leNat (intBytes 4 n) ∧ t.raised 0x1802 = s.raised 0x1802 + 1 ∧
    t = { s with clocks := t.clocks, regs := t.regs, control := t.control, dbg := t.dbg }) ∧
  (∀ (s : State) (i : Nat),
    i < 2 → s.refGood i = true →
    ∃ t, exec (.referenceSelect i) s = .next t ∧ t.reg 0x300002 = i ∧ t.reg 0x300006 = 0 ∧ t.clocks.selected = i ∧
    ((s.clocks.selected = i → t.clocks = s.clocks)) ∧ ((s.clocks.selected ≠ i → t.clocks.pulling = true)) ∧
    t = { s with clocks := t.clocks, regs := t.regs }) ∧
  (∀ (s : State) (i : Nat),
    i < 2 → s.refGood i = false →
    ∃ t, exec (.referenceSelect i) s = .next t ∧ t = s.setReg 0x300006 2) ∧
  (∀ (s : State),
    s.limitShadow.all limitGood = true →
    ∃ t, exec (.clockCommit 1) s = .next t ∧
    ((∀ z, z < 32 → (t.region z).limit = s.limitShadow.getD z 1600 ∧ t.frequency z = s.frequency z)) ∧
    t.reg 0x301003 = 0 ∧ ((∀ k, 32 ≤ k → t.region k = s.region k)) ∧
    t = { s with clocks := t.clocks, blobs := t.blobs, regs := t.regs }) ∧
  (∀ (s : State),
    s.limitShadow.all limitGood = false →
    ∃ t, exec (.clockCommit 1) s = .next t ∧ t = s.setReg 0x301003 2) ∧
  (∀ (s : State) (z a : Nat),
    (s.region z).unboundSince = some a → z < 32 → (s.region z).idle = false → s.zoneBound z = false →
    a + 10000 ≤ s.now →
    ∃ t, exec (.zoneIdle z) s = .next t ∧ (t.region z).idle = true ∧
    (t.region z).target = Clock.wanted { s.region z with idle := true } ∧ t.frequency z = s.frequency z ∧
    sameRegions z s t ∧ t = { s with clocks := { s.clocks with regions := t.clocks.regions } }) ∧
  (∀ (s : State) (r : Region),
    (s.region (regionKey r)).stopped = false → (s.region (regionKey r)).present ≠ (s.region (regionKey r)).target →
    (s.region (regionKey r)).slewAt + 10 * (Nat.max (s.region (regionKey r)).present (s.region (regionKey
      r)).target - Nat.min (s.region (regionKey r)).present (s.region (regionKey r)).target) ≤ s.now →
    ∃ t, exec (.zoneSlewEnd r) s = .next t ∧
    t.region (regionKey r) = { s.region (regionKey r) with present := (s.region (regionKey r)).target } ∧
    sameRegions (regionKey r) s t ∧ t = { s with clocks := { s.clocks with regions := t.clocks.regions } }) ∧
  (∀ (s : State) (z : Nat),
    z < 32 → (s.region z).stopped = false →
    ∃ t, exec (.zoneLockLoss z) s = .next t ∧
    t.region z = { s.region z with
      present := s.frequency z, stopped := true, lastStop := s.now, copyValid := false, run := 0 } ∧
    sameRegions z s t ∧ t = { s with clocks := { s.clocks with regions := t.clocks.regions } }) ∧
  (∀ (s : State) (z : Nat),
    z < 32 → (s.region z).stopped = true → (0x20 + z / 8) ∉ s.package.scan → s.now < (s.region z).lastStop + 2000 →
    (s.region z).crossing = [] → (s.region z).landing = [] →
    ∃ t, exec (.zoneRelock z) s = .next t ∧
    t.region z = { s.region z with
      slewAt := s.now, stopped := false, justRestarted := true, stampStopped := true, copyValid := false, stops :=
        satAdd 32 (s.region z).stops 1 } ∧
    t.raised 0x1804 = s.raised 0x1804 + 1 ∧ sameRegions z s t ∧
    t = { s with clocks := t.clocks, regs := t.regs, control := t.control, dbg := t.dbg }) ∧
  (∀ (s : State) (z : Nat),
    z < 32 → (s.region z).stopped = true → (0x20 + z / 8) ∉ s.package.scan → (s.region z).lastStop + 2000 ≤ s.now →
    ((s.die (0x20 + z / 8)).state = .ready ∨ (s.die (0x20 + z / 8)).state = .fencing) →
    ∃ t, exec (.zoneRelockTimeout z) s = .next t ∧ (t.die (0x20 + z / 8)).state = .reset ∧
    (t.die (0x20 + z / 8)).abrupt = true ∧ ((∀ c, c / 200 = z / 8 → (t.cluster c).bound = none)) ∧
    ((∀ o, clusterOffset (200 * (z / 8)) 0 ≤ o → o < clusterOffset (200 * (z / 8)) 0 + 200 * 0x400000 →
      t.memory.cells.read o = 0))) ∧
  (∀ (s : State) (z : Nat),
    z < 32 → (s.region z).stopped = false → (s.region z).copyValid = false →
    ∃ t, exec (.zoneTimeReload z) s = .next t ∧ t.region z = { s.region z with copyValid := true } ∧
    t.reg 0x302006 = satAdd 64 (s.reg 0x302006) 1 ∧ sameRegions z s t ∧
    t = { s with clocks := t.clocks, regs := t.regs })

/-- Droops stretch a period or step the region down, and sync words check the copies of time -/
def Obligations.TripsStretch : Prop :=
  (∀ (s : State) (r : Region) (n : Nat),
    (s.region (regionKey r)).stopped = false → droopLevel (s.setPointOf r - n) ≠ 0 →
    (s.region (regionKey r)).justRestarted = false → (s.region (regionKey r)).run = 0 →
    (s.region (regionKey r)).runEnd = none →
    ∃ t, exec (.droopTrip r n) s = .next t ∧ (t.region (regionKey r)).run = 1 ∧
    (t.region (regionKey r)).lastTrip = s.now ∧
    ((droopLevel (s.setPointOf r - n) = 1 → (t.region (regionKey r)).stretched25 = satAdd 64 (s.region (regionKey
      r)).stretched25 1)) ∧
    ((droopLevel (s.setPointOf r - n) = 2 → (t.region (regionKey r)).stretched50 = satAdd 64 (s.region (regionKey
      r)).stretched50 1)) ∧
    ((droopLevel (s.setPointOf r - n) = 3 → (t.region (regionKey r)).stretched100 = satAdd 64 (s.region (regionKey
      r)).stretched100 1)) ∧
    (t.region (regionKey r)).target = (s.region (regionKey r)).target ∧ sameRegions (regionKey r) s t ∧
    t = { s with clocks := { s.clocks with regions := t.clocks.regions } }) ∧
  (∀ (s : State) (r : Region) (n : Nat),
    (s.region (regionKey r)).stopped = false → droopLevel (s.setPointOf r - n) ≠ 0 →
    (s.region (regionKey r)).justRestarted = true →
    ∃ t, exec (.droopTrip r n) s = .next t ∧
    (t.region (regionKey r)) = { (s.region (regionKey r)) with justRestarted := false, run := 0 } ∧
    sameRegions (regionKey r) s t ∧ t = { s with clocks := { s.clocks with regions := t.clocks.regions } }) ∧
  (∀ (s : State) (r : Region) (n a : Nat),
    (s.region (regionKey r)).stopped = false → droopLevel (s.setPointOf r - n) ≠ 0 →
    (s.region (regionKey r)).justRestarted = false → (s.region (regionKey r)).runEnd = some a →
    (s.region (regionKey r)).within s.now a 64 = true → (s.region (regionKey r)).run = 0 →
    ∃ t, exec (.droopTrip r n) s = .next t ∧
    (t.region (regionKey r)).held = some (Nat.max (stepFloor r) (s.frequency (regionKey r) - 100)) ∧
    (t.region (regionKey r)).holdUntil = some (s.now + 1000000) ∧
    (t.region (regionKey r)).stepDowns = satAdd 32 (s.region (regionKey r)).stepDowns 1 ∧
    (t.region (regionKey r)).runEnd = none ∧ t.raised 0x1803 = s.raised 0x1803 + 1 ∧
    sameRegions (regionKey r) s t ∧
    t = { s with clocks := t.clocks, regs := t.regs, control := t.control, dbg := t.dbg }) ∧
  (∀ (s : State) (r : Region) (n : Nat),
    (s.region (regionKey r)).stopped = false → droopLevel (s.setPointOf r - n) = 0 →
    ∃ t, exec (.droopTrip r n) s = .next t ∧ t = s) ∧
  (∀ (s : State) (r : Region) (a : Nat),
    (s.region (regionKey r)).holdUntil = some a → a ≤ s.now →
    ∃ t, exec (.stepDownHoldEnd r) s = .next t ∧ (t.region (regionKey r)).held = none ∧
    (t.region (regionKey r)).holdUntil = none ∧
    (t.region (regionKey r)).target = Clock.wanted { (s.region (regionKey r)) with held := none } ∧
    t.frequency (regionKey r) = s.frequency (regionKey r) ∧ sameRegions (regionKey r) s t ∧
    t = { s with clocks := { s.clocks with regions := t.clocks.regions } }) ∧
  (∀ (s : State) (d : Nat) (n : Int),
    s.now % 1024 = 0 →
    ∃ t, exec (.syncWord d n false) s = .next t ∧ t.reg 0x302003 = satAdd 32 (s.reg 0x302003) 1 ∧
    t.clocks = { s.clocks with goodSyncs := 0, lastSync := s.now } ∧
    t = { s with clocks := t.clocks, regs := t.regs }) ∧
  (∀ (s : State) (d : Nat) (n : Int),
    s.now % 1024 = 0 → s.clocks.fencedByCheck = false →
    ∃ t, exec (.syncWord d n true) s = .next t ∧ (t.clocks.copies.get {} d).difference = n ∧
    ((2 < n.natAbs → t.reg 0x302004 = satAdd 32 (s.reg 0x302004) 1)) ∧ ((n.natAbs ≤ 2 → t.regs = s.regs)) ∧
    t.clocks.lastSync = s.now ∧ t.clocks.count = s.clocks.count ∧
    ((∀ e, e ≠ d → t.clocks.copies.get {} e = s.clocks.copies.get {} e)) ∧
    t = { s with clocks := t.clocks, regs := t.regs }) ∧
  (∀ (s : State) (h : Nat),
    ∃ t, exec (.timeMasterCheckFail h) s = .next t ∧
    t.clocks.count = Nat.max (h + (s.clocks.copies.get {} (0x30 + s.activeComplex.getD 0)).pathDelay)
      (s.clocks.count + 1) ∧
    t.clocks.halfRate = false ∧ t.clocks.slew = 0 ∧ t.clocks.fenced = true ∧ t.clocks.fencedByCheck = true ∧
    t.raised 0x1202 = s.raised 0x1202 + 1 ∧ t.reg 0x302007 = satAdd 32 (s.reg 0x302007) 1 ∧ t.memory = s.memory ∧
    t = { s with clocks := t.clocks, regs := t.regs, control := t.control, dbg := t.dbg })

/-- Budgets are committed, dies are reefed to their grants, and clusters pause and are rated, as the power rules say
-/
def Obligations.PowerIsKept : Prop :=
  (∀ (s : State),
    s.commitPending 0x20 = false → s.budgetShadow ≤ s.gradeLimit → s.budgetFloor ≤ 1000 * s.budgetShadow →
    s.package.holders.entries.all (fun e => e.2.cutting = 0) = true → s.packageBudget ≤ s.budgetShadow →
    s.package.asks = [] →
    ∃ t, exec (.powerCommit 1) s = .next t ∧
    t.package.pool = s.package.pool + 1000 * (s.budgetShadow - s.packageBudget) ∧ t.reg 0x200001 = s.budgetShadow ∧
    t.reg 0x200004 = 0 ∧ t.commitPending 0x20 = false ∧ t.package.budgetPending = none ∧
    t.package.holders = s.package.holders ∧
    t = { s with package := t.package, regs := t.regs, commits := t.commits }) ∧
  (∀ (s : State),
    s.commitPending 0x20 = false → s.budgetShadow ≤ s.gradeLimit → s.budgetFloor ≤ 1000 * s.budgetShadow →
    s.package.holders.entries.all (fun e => e.2.cutting = 0) = true → s.commits.Nodup →
    s.budgetShadow < s.packageBudget → 1000 * (s.packageBudget - s.budgetShadow) ≤ s.package.pool →
    ∃ t, exec (.powerCommit 1) s = .next t ∧
    t.package.pool = s.package.pool - 1000 * (s.packageBudget - s.budgetShadow) ∧ t.reg 0x200001 = s.budgetShadow ∧
    t.reg 0x200004 = 0 ∧ t.commitPending 0x20 = false ∧ t.package.budgetPending = none ∧
    t.package.holders = s.package.holders ∧
    t = { s with package := t.package, regs := t.regs, commits := t.commits }) ∧
  (∀ (s : State),
    s.commitPending 0x20 = false → s.gradeLimit < s.budgetShadow →
    ∃ t, exec (.powerCommit 1) s = .next t ∧ t = s.setReg 0x200004 2) ∧
  (∀ (s : State),
    s.commitPending 0x20 = false → s.budgetShadow ≤ s.gradeLimit → 1000 * s.budgetShadow < s.budgetFloor →
    ∃ t, exec (.powerCommit 1) s = .next t ∧ t = s.setReg 0x200004 3) ∧
  (∀ (s : State) (x n m : Nat),
    s.now % 1000000 = 0 → x < 4 → (s.die (0x20 + x)).state = .ready → (s.holder (0x20 + x)).inForce < n →
    s.powerLevelOf x < 7 →
    ∃ t, exec (.powerManagerTick x n m) s = .next t ∧ t.powerLevelOf x = s.powerLevelOf x + 1 ∧
    ((∀ z, z < 8 → Nat.max (s.thermalLevel (8 * x + z)) (s.powerLevelOf x + 1) = t.appliedLevel (8 * x + z))) ∧
    (t.holder (0x20 + x)).use_ = n ∧ t.thermal.lastPower.get (0, 0) x = (n, m) ∧ t.memory = s.memory ∧
    t.ctxs = s.ctxs ∧ t = { s with package := t.package, thermal := t.thermal, regs := t.regs }) ∧
  (∀ (s : State) (x n m : Nat),
    s.now % 1000000 = 0 → x < 4 → (s.die (0x20 + x)).state = .ready → (s.holder (0x20 + x)).inForce < n →
    7 ≤ s.powerLevelOf x →
    ∃ t, exec (.powerManagerTick x n m) s = .next t ∧ t.powerLevelOf x = s.powerLevelOf x ∧
    ((∀ z, z < 8 → (t.region (8 * x + z)).managerTarget = Nat.max 400 (min (s.region (8 * x + z)).managerTarget
      (s.region (8 * x + z)).allowed - 100) ∧ t.frequency (8 * x + z) = s.frequency (8 * x + z))) ∧
    (t.holder (0x20 + x)).use_ = n ∧ t.thermal.lastPower.get (0, 0) x = (n, m) ∧ t.memory = s.memory ∧
    t.ctxs = s.ctxs ∧ t = { s with package := t.package, thermal := t.thermal, clocks := t.clocks }) ∧
  (∀ (s : State) (x n m : Nat),
    s.now % 1000000 = 0 → x < 4 → (s.die (0x20 + x)).state = .ready → n * 10 < (s.holder (0x20 + x)).inForce * 9 →
    s.zonesBack x = true →
    ∃ t, exec (.powerManagerTick x n m) s = .next t ∧ t.powerLevelOf x = s.powerLevelOf x - 1 ∧
    (t.holder (0x20 + x)).use_ = n ∧ t.thermal.lastPower.get (0, 0) x = (n, m) ∧ t.memory = s.memory ∧
    t.ctxs = s.ctxs ∧ t = { s with package := t.package, thermal := t.thermal, regs := t.regs }) ∧
  (∀ (s : State) (x n m : Nat),
    s.now % 1000000 = 0 → x < 4 → (s.die (0x20 + x)).state = .ready → n ≤ (s.holder (0x20 + x)).inForce →
    (s.holder (0x20 + x)).inForce * 9 ≤ n * 10 →
    ∃ t, exec (.powerManagerTick x n m) s = .next t ∧
    t.thermal = { s.thermal with lastPower := t.thermal.lastPower } ∧ (t.holder (0x20 + x)).use_ = n ∧
    t.thermal.lastPower.get (0, 0) x = (n, m) ∧ t.memory = s.memory ∧ t.ctxs = s.ctxs ∧
    t = { s with package := t.package, thermal := t.thermal }) ∧
  (∀ (s : State) (x n : Nat),
    s.now % 1000000 = 0 → (s.die (0x10 + x)).state = .ready → (s.holder (0x10 + x)).inForce < n →
    ∃ t, exec (.kdPacingStep x n) s = .next t ∧
    t.tower x = { s.tower x with pacing := Nat.max 1 ((s.tower x).pacing - 1) } ∧ (t.holder (0x10 + x)).use_ = n ∧
    ((∀ y, y ≠ x → t.tower y = s.tower y)) ∧ t.memory = { s.memory with towers := t.memory.towers } ∧
    t = { s with memory := t.memory, package := t.package }) ∧
  (∀ (s : State) (x n : Nat),
    s.now % 1000000 = 0 → (s.die (0x10 + x)).state = .ready → n * 10 < (s.holder (0x10 + x)).inForce * 9 →
    ∃ t, exec (.kdPacingStep x n) s = .next t ∧
    t.tower x = { s.tower x with pacing := Nat.min 8 ((s.tower x).pacing + 1) } ∧ (t.holder (0x10 + x)).use_ = n ∧
    ((∀ y, y ≠ x → t.tower y = s.tower y)) ∧ t.memory = { s.memory with towers := t.memory.towers } ∧
    t = { s with memory := t.memory, package := t.package }) ∧
  (∀ (s : State) (x n : Nat),
    ∃ t, exec (.coreSupplyRead x n) s = .next t ∧
    ((∀ z, z < 8 → (t.region (8 * x + z)).cap = supplyCap n ∧ (t.region (8 * x + z)).target = Clock.wanted
      { s.region (8 * x + z) with
      cap := supplyCap n } ∧ t.setPointOf (.zone (8 * x + z)) = s.setPointOf (.zone (8 * x + z)) ∧ (t.region (8 * x
        + z)).setAt = s.now ∧ t.frequency (8 * x + z) = s.frequency (8 * x + z))) ∧
    ((∀ k, (k < 8 * x ∨ 8 * x + 8 ≤ k) → t.region k = s.region k)) ∧
    t.thermal = { s.thermal with supply := s.thermal.supply.set x n } ∧
    t = { s with thermal := t.thermal, clocks := t.clocks }) ∧
  (∀ (s : State) (c i : Nat),
    reefEighths.getD (s.appliedLevel (zoneOf c)) 0 ≠ 0 → ((s.cluster c).panels.get {} i).pausedUntil = none →
    ((s.cluster c).panels.get {} i).ranSincePause ≠ 0 → s.withinStep c = false →
    ∃ t, exec (.reefPause c i) s = .next t ∧
    (∃ d, (t.cluster c).panels.get {} i = {
      ((s.cluster c).panels.get {} i) with pausedUntil := some (s.now + d), ranSincePause := 0 } ∧ 8 * d <
        ((s.cluster c).panels.get {} i).ranSincePause * reefEighths.getD (s.appliedLevel (zoneOf c)) 0 + 8 ∧
        ((s.cluster c).panels.get {} i).ranSincePause * reefEighths.getD (s.appliedLevel (zoneOf c)) 0 < 8 * d + 8
        ∧ (t.cluster c).counters = ((s.cluster c).count (s.counterRuns 0x130) 0x130 48 (s.now + d - Nat.max s.now
        (s.pausedTo c))).counters) ∧
    ((∀ j, j ≠ i → (t.cluster c).panels.get {} j = (s.cluster c).panels.get {} j)) ∧ sameClusters c s t ∧
    (t.cluster c).core = (s.cluster c).core ∧ t = { s with clusters := t.clusters, freeCount := t.freeCount }) ∧
  (∀ (s : State) (c i : Nat),
    (reefEighths.getD (s.appliedLevel (zoneOf c)) 0 = 0 ∨ ((s.cluster c).panels.get {} i).ranSincePause = 0 ∨
      s.withinStep c = true) →
    ∃ t, exec (.reefPause c i) s = .next t ∧ t = s) ∧
  (∀ (s : State) (c i a : Nat),
    ((s.cluster c).panels.get {} i).pausedUntil = some a → a ≤ s.now →
    ∃ t, exec (.reefPauseEnd c i) s = .next t ∧
    (t.cluster c).panels.get {} i = { ((s.cluster c).panels.get {} i) with pausedUntil := none } ∧
    ((∀ j, j ≠ i → (t.cluster c).panels.get {} j = (s.cluster c).panels.get {} j)) ∧
    (t.cluster c).core = (s.cluster c).core ∧ sameClusters c s t ∧ t = { s with clusters := t.clusters }) ∧
  (∀ (s : State),
    s.now % 1000000 = 0 →
    ∃ t, exec (.rateWindowEnd) s = .next t ∧
    ((∀ c, c < 800 → (s.cluster c).panels.entries.all (fun e => e.2.windowNs < 10000) = true → (t.cluster c).stale
      = true ∧ (t.cluster c).rate = (s.cluster c).rate)) ∧
    ((∀ c i q, c < 800 → (s.cluster c).outOfService = false → (i, q) ∈ (s.cluster c).panels.entries → 10000 ≤
      q.windowNs → (t.cluster c).stale = false ∧ (t.cluster c).rate * q.windowNs < q.windowHandshakes * 1000 +
      q.windowNs)) ∧
    ((∀ c i q, c < 800 → (s.cluster c).outOfService = false → (s.cluster c).panels.entries = [(i, q)] → 10000 ≤
      q.windowNs → q.windowHandshakes * 1000 < ((t.cluster c).rate + 1) * q.windowNs)) ∧
    ((∀ c, c < 800 → (s.cluster c).outOfService = true → (t.cluster c).rate = (s.cluster c).rate ∧ ((s.cluster
      c).stale = true → (t.cluster c).stale = true))) ∧
    ((∀ c, c < 800 → (t.cluster c).panels.entries.all (fun e => e.2.windowNs = 0 && e.2.windowHandshakes = 0) =
      true)) ∧
    ((∀ c, c < 800 → (t.cluster c).core = (s.cluster c).core ∧ (t.cluster c).bound = (s.cluster c).bound ∧
      (t.cluster c).counters = (s.cluster c).counters)) ∧
    t.reg 0x601001 = t.rateLowest ∧ t.reg 0x601002 = t.rateMean ∧ t.reg 0x601003 = t.rateHighest ∧
    t.reg 0x601004 = t.fp4Peak ∧
    t = { s with clusters := t.clusters, regs := t.regs, blobs := t.blobs, freeCount := t.freeCount })

/-- Temperatures warn, throttle and shut down, and restarts, flash writes and copies follow their windows -/
def Obligations.TemperaturesAct : Prop :=
  (∀ (s : State) (z : Nat) (a b : Int),
    z < 32 → (s.thermal.sensors.get {} (z * 256 + z)).status = 0 →
    (s.thermal.sensors.get {} (z * 256 + (68 + z / 8))).status = 0 → s.reg 0x440004 ≠ 2 → -4000 ≤ a → a ≤ 15000 →
    -4000 ≤ b → b ≤ 15000 → (s.element z).latched = false → max a b < 9300 → (s.element z).level = 0 →
    ∃ t, exec (.thermalSample (.zone z) [.centi a, .centi b]) s = .next t ∧ (t.element z).centi = max a b ∧
    (t.element z).level = 0 ∧ (t.element z).warned = false ∧ (t.element z).latched = false ∧
    ((∀ k, k ≠ z → t.element k = s.element k)) ∧
    t.thermal = { s.thermal with elements := t.thermal.elements, sensors := t.thermal.sensors } ∧
    t = { s with thermal := t.thermal }) ∧
  (∀ (s : State) (z : Nat) (a b : Int),
    z < 32 → (s.thermal.sensors.get {} (z * 256 + z)).status = 0 →
    (s.thermal.sensors.get {} (z * 256 + (68 + z / 8))).status = 0 → s.reg 0x440004 ≠ 2 → -4000 ≤ a → a ≤ 15000 →
    -4000 ≤ b → b ≤ 15000 → (s.element z).latched = false → 9500 ≤ max a b → max a b < 9800 →
    (s.element z).level = 0 → (s.element z).warned = false →
    ∃ t, exec (.thermalSample (.zone z) [.centi a, .centi b]) s = .next t ∧ (t.element z).centi = max a b ∧
    (t.element z).level = 0 ∧ (t.element z).warned = true ∧ t.raised 0x1901 = s.raised 0x1901 + 1 ∧
    ((∀ k, k ≠ z → t.element k = s.element k)) ∧ t.memory = s.memory ∧
    t = { s with thermal := t.thermal, regs := t.regs, control := t.control, dbg := t.dbg }) ∧
  (∀ (s : State) (z : Nat) (a b : Int),
    z < 32 → (s.thermal.sensors.get {} (z * 256 + z)).status = 0 →
    (s.thermal.sensors.get {} (z * 256 + (68 + z / 8))).status = 0 → s.reg 0x440004 ≠ 2 → -4000 ≤ a → a ≤ 15000 →
    -4000 ≤ b → b ≤ 15000 → (s.element z).latched = false → 10200 ≤ max a b → max a b < 11000 →
    (s.element z).warned = true →
    ∃ t, exec (.thermalSample (.zone z) [.centi a, .centi b]) s = .next t ∧
    (t.element z).level = Nat.min 7 ((s.element z).level + 1) ∧ (t.element z).latched = false ∧
    t.appliedLevel z = Nat.max (t.thermalLevel z) (s.powerLevelOf (z / 8)) ∧
    ((∀ k, k ≠ z → t.element k = s.element k)) ∧ t.memory = s.memory ∧ t.control = s.control ∧
    t = { s with thermal := t.thermal, regs := t.regs }) ∧
  (∀ (s : State) (z : Nat) (a b : Int),
    z < 32 → (s.thermal.sensors.get {} (z * 256 + z)).status = 0 →
    (s.thermal.sensors.get {} (z * 256 + (68 + z / 8))).status = 0 → s.reg 0x440004 ≠ 2 → -4000 ≤ a → a ≤ 15000 →
    -4000 ≤ b → b ≤ 15000 → (s.element z).latched = false → 11000 ≤ max a b → (s.die (0x20 + z / 8)).state = .ready →
    ∃ t, exec (.thermalSample (.zone z) [.centi a, .centi b]) s = .next t ∧ (t.element z).latched = true ∧
    (t.die (0x20 + z / 8)).state = .shutdown ∧ (t.die (0x20 + z / 8)).abrupt = true ∧
    t.reg 0x201401 = satAdd 32 (s.reg 0x201401) 1 ∧ t.raised 0x1902 = s.raised 0x1902 + 1 ∧
    ((∀ c, c / 200 = z / 8 → (t.cluster c).bound = none))) ∧
  (∀ (s : State) (a : Int),
    ∃ t, exec (.thermalSample .flash [.centi a]) s = .next t ∧
    t = { s with thermal := { s.thermal with flashCenti := a } }) ∧
  (∀ (s : State) (a b : Int),
    s.thermal.inlet.status = 0 → s.thermal.outlet.status = 0 → s.reg 0x440004 ≠ 2 → s.fuses.extended = false →
    -4000 ≤ a → a ≤ 3500 → -4000 ≤ b → b ≤ a + 1500 →
    ∃ t, exec (.thermalSample .coolant [.centi a, .centi b]) s = .next t ∧ t.thermal.inlet.centi = a ∧
    t.thermal.outlet.centi = b ∧ t.thermal.inletWarning = false ∧ t.thermal.outletWarning = false ∧
    t.control = s.control ∧ t = { s with thermal := t.thermal }) ∧
  (∀ (s : State) (a b : Int),
    s.thermal.inlet.status = 0 → s.thermal.outlet.status = 0 → s.reg 0x440004 ≠ 2 → s.fuses.extended = false →
    3500 < a → a ≤ 15000 → -4000 ≤ b → b ≤ a → s.thermal.inletWarning = false →
    ∃ t, exec (.thermalSample .coolant [.centi a, .centi b]) s = .next t ∧ t.thermal.inletWarning = true ∧
    t.raised 0x1904 = s.raised 0x1904 + 1 ∧ t.thermal.elements = s.thermal.elements ∧
    t = { s with thermal := t.thermal, regs := t.regs, control := t.control, dbg := t.dbg }) ∧
  (∀ (s : State) (k : Nat),
    k < 24 → (s.element (0x180 + k)).latched = true → (s.element (0x180 + k)).centi < 9000 →
    ∃ t, exec (.thermalRestart (0x80 + k)) s = .next t ∧ (t.element (0x180 + k)).latched = false ∧
    (t.stack k).inService = true ∧ t.reg 0x201502 = 0 ∧
    ((∀ a, stackOfWord (a / 64) = some k → t.memory.cells.read a = 0)) ∧
    ((∀ a, stackOfWord (a / 64) ≠ some k → t.memory.cells.read a = s.memory.cells.read a)) ∧
    ((∀ j, j ≠ k → t.stack j = s.stack j)) ∧
    t = { s with memory := t.memory, thermal := t.thermal, regs := t.regs }) ∧
  (∀ (s : State) (x : Nat),
    x < 4 → (s.element (0x110 + x)).latched = true → (s.element (0x110 + x)).centi < 10000 →
    (s.die (0x10 + x)).state = .shutdown →
    ∃ t, exec (.thermalRestart (0x10 + x)) s = .next t ∧ (t.element (0x110 + x)).latched = false ∧
    (t.die (0x10 + x)).state = .reset ∧ t.reg 0x201502 = 1 ∧ sameDies (0x10 + x) s t ∧ t.memory = s.memory ∧
    t = { s with package := t.package, thermal := t.thermal, regs := t.regs, control := t.control, dbg := t.dbg }) ∧
  (∀ (s : State),
    ∃ t, exec (.thermalRestart 0) s = .next t ∧ t = s.setReg 0x201502 4) ∧
  (∀ (s : State),
    s.flashWindow = true →
    ∃ t, exec (.flashWriteRetry) s = .next t ∧
    t.boot.flash.firmwareMinimum = Nat.max s.boot.flash.firmwareMinimum (s.boot.raiseMinimum.getD 0) ∧
    t.boot.raiseMinimum = none ∧ t.boot.raiseGuest = [] ∧
    ((s.boot.eraseIdentity = true → t.boot.flash.identity = [] ∧ t.boot.flash.endorsement = [])) ∧
    ((s.boot.eraseIdentity = false → t.boot.flash.identity = s.boot.flash.identity)) ∧
    t = { s with boot := t.boot }) ∧
  (∀ (s : State),
    s.flashWindow = false →
    ∃ t, exec (.flashWriteRetry) s = .next t ∧ t = s) ∧
  (∀ (s : State),
    s.boot.lastCalibrationCopy + 3600000000000 ≤ s.now → s.flashWindow = true →
    ∃ t, exec (.photonicCalibrationCopy) s = .next t ∧ t.boot.flash.calibration = s.photonics.rings ∧
    t.boot.flash.calibrationBanks = s.photonics.banks ∧ t.boot.lastCalibrationCopy = s.now ∧
    t = { s with boot := t.boot })

/-- Krytae ports and transactions on the object dictionary are served as the control rules say -/
def Obligations.TransactionsAreAnswered : Prop :=
  (∀ (s : State) (k : Nat),
    (s.krytae k).state ≠ .down → (s.krytae k).lastHeard + 20000 ≤ s.now →
    ∃ t, exec (.krytaePortDown k) s = .next t ∧ t.krytae k = { s.krytae k with state := .down, changed := s.now } ∧
    ((∀ j, j ≠ k → t.krytae j = s.krytae j)) ∧
    t = { s with control := { s.control with krytae := t.control.krytae } }) ∧
  (∀ (s : State) (k : Nat),
    (s.krytae k).state = .down → (s.krytae k).everTrained = true →
    ∃ t, exec (.krytaePortTraining k false) s = .next t ∧ (t.krytae k).state = .training ∧
    (t.krytae k).retrains = satAdd 32 (s.krytae k).retrains 1 ∧ ((∀ j, j ≠ k → t.krytae j = s.krytae j)) ∧
    t = { s with control := { s.control with krytae := t.control.krytae } }) ∧
  (∀ (s : State) (k : Nat),
    (s.krytae k).state = .training →
    ∃ t, exec (.krytaePortTraining k true) s = .next t ∧ (t.krytae k).state = .up ∧ (t.krytae k).rxSeq = 0 ∧
    (t.krytae k).freed = 0 ∧ (t.krytae k).lastHeard = s.now ∧
    (t.krytae k).replay.map (·.2.2) ++ (t.krytae k).waiting = (s.krytae k).replay.map (·.2.2) ++ (s.krytae
      k).waiting ∧
    (((s.krytae k).replay = [] → (s.krytae k).waiting = [] → (t.krytae k).nextSeq = 0 ∧ (t.krytae k).spent = 0)) ∧
    ((∀ j, j ≠ k → t.krytae j = s.krytae j)) ∧
    t = { s with control := { s.control with krytae := t.control.krytae } }) ∧
  (∀ (s s0 s1 : State) (q : Transaction) (st : Nat) (v : List Byte),
    s.hears q = true → cachedResponse s.control.cache q.tid none = none → staleTid s.control.cache q.tid = false →
    s.inProgress q.tid = false → s.serves q.index = true → s.busy = false →
    (heldOutside q.index && (entryAt q.index q.sub).isSome) = false → s0 = (s.arrive q).countApplied →
    s0.readEntry q.index q.sub q.shadow = (st, v, s1) →
    ∃ t, exec (.odRead q) s = .next t ∧
    ((s1.hubSpeaks = true → s1.compatMode = false → t.control.out = s1.control.out ++ [Sent.mk s1.control.oseq
      s1.control.epoch (.response (s1.replyPort q.port) 1 q st v)])) ∧
    ((st ≠ 9 → st ≠ 10 → t.control.cache = trimCache (Cached.mk q.tid none st v :: s1.control.cache))) ∧
    t = { s1 with control := t.control } ∧ s0.reg 0xB03002 = satAdd 64 (s.reg 0xB03002) 1) ∧
  (∀ (s s0 s1 : State) (q : Transaction) (st : Nat),
    s.hears q = true → cachedResponse s.control.cache q.tid none = none → staleTid s.control.cache q.tid = false →
    s.inProgress q.tid = false → s.serves q.index = true → s.busy = false →
    (heldOutside q.index && (entryAt q.index q.sub).isSome) = false → s0 = (s.arrive q).countApplied →
    q.value.length ≤ 4096 → s0.writeEntry q.index q.sub q.value = (st, s1) →
    ∃ t, exec (.odWrite q) s = .next t ∧
    ((s1.hubSpeaks = true → s1.compatMode = false → t.control.out = s1.control.out ++ [Sent.mk s1.control.oseq
      s1.control.epoch (.response (s1.replyPort q.port) 2 q st [])])) ∧
    ((st ≠ 9 → st ≠ 10 → t.control.cache = trimCache (Cached.mk q.tid none st [] :: s1.control.cache))) ∧
    t = { s1 with control := t.control }) ∧
  (∀ (s s0 : State) (q : Transaction),
    s.hears q = true → cachedResponse s.control.cache q.tid none = none → staleTid s.control.cache q.tid = false →
    s.inProgress q.tid = false → s.serves q.index = true → s.busy = false → s0 = (s.arrive q).countApplied →
    4096 < q.value.length →
    ∃ t, exec (.odWrite q) s = .next t ∧
    ((s0.hubSpeaks = true → s0.compatMode = false → t.control.out = s0.control.out ++ [Sent.mk s0.control.oseq
      s0.control.epoch (.response (s0.replyPort q.port) 2 q 3 [])])) ∧
    ((3 ≠ 9 → 3 ≠ 10 → t.control.cache = trimCache (Cached.mk q.tid none 3 [] :: s0.control.cache))) ∧
    t = { s0 with control := t.control }) ∧
  (∀ (s s0 s1 : State) (q : Transaction) (st : Nat) (v : List Byte),
    s.hears q = true → cachedResponse s.control.cache q.tid none = none → staleTid s.control.cache q.tid = false →
    s.inProgress q.tid = false → s.serves q.index = true → s.busy = false →
    (heldOutside q.index && (entryAt q.index q.sub).isSome) = false → s0 = (s.arrive q).countApplied →
    s0.readBlock q.index q.sub q.offset q.length = (st, v, s1) →
    ∃ t, exec (.blockRead q) s = .next t ∧
    ((s1.hubSpeaks = true → s1.compatMode = false → t.control.out = s1.control.out ++ [Sent.mk s1.control.oseq
      s1.control.epoch (.response (s1.replyPort q.port) 4 q st v)])) ∧
    ((st ≠ 9 → st ≠ 10 → t.control.cache = trimCache (Cached.mk q.tid none st v :: s1.control.cache))) ∧
    t = { s1 with control := t.control }) ∧
  (∀ (s s0 : State) (q : Transaction) (c : Cached),
    s.hears q = true → s0 = s.arrive q → cachedResponse s.control.cache q.tid none = some c →
    ∃ t, exec (.odWrite q) s = .next t ∧
    ((s0.hubSpeaks = true → s0.compatMode = false → t.control.out = s.control.out ++ [Sent.mk s.control.oseq
      s.control.epoch (.response (s0.replyPort q.port) 2 q c.status c.value)])) ∧
    t.reg 0xB03003 = satAdd 64 (s.reg 0xB03003) 1 ∧ t.control.cache = s.control.cache ∧
    t = { s with regs := t.regs, control := t.control }) ∧
  (∀ (s s0 : State) (q : Transaction),
    s.hears q = true → s0 = s.arrive q → cachedResponse s.control.cache q.tid none = none →
    staleTid s.control.cache q.tid = true →
    ∃ t, exec (.odWrite q) s = .next t ∧
    ((s0.hubSpeaks = true → s0.compatMode = false → t.control.out = s.control.out ++ [Sent.mk s.control.oseq
      s.control.epoch (.response (s0.replyPort q.port) 2 q 9 [])])) ∧
    t.reg 0xB03004 = satAdd 32 (s.reg 0xB03004) 1 ∧ t.control.cache = s.control.cache ∧
    t = { s with regs := t.regs, control := t.control }) ∧
  (∀ (s s0 : State) (q : Transaction),
    s.hears q = true → s0 = s.arrive q → cachedResponse s.control.cache q.tid none = none →
    staleTid s.control.cache q.tid = false → s.inProgress q.tid = false → s.busy = true →
    ∃ t, exec (.odRead q) s = .next t ∧
    ((s0.hubSpeaks = true → s0.compatMode = false → t.control.out = s.control.out ++ [Sent.mk s.control.oseq
      s.control.epoch (.response (s0.replyPort q.port) 1 q 10 [])])) ∧
    t.control.cache = s.control.cache ∧ t = { s with control := t.control }) ∧
  (∀ (s s0 s1 : State) (q w : Transaction) (st : Nat),
    w = { q with index := 0x7000 + field q.value 0 2, sub := 5 } → s.hears w = true →
    cachedResponse s.control.cache w.tid none = none → staleTid s.control.cache w.tid = false →
    s.inProgress w.tid = false → s.serves w.index = true → s.busy = false →
    (heldOutside w.index && (entryAt w.index w.sub).isSome) = false → s0 = (s.arrive w).countApplied →
    8 ≤ q.value.length → field q.value 0 2 ≤ 1023 → s0.writeEntry w.index 5 (subBytes q.value 4 4) = (st, s1) →
    ∃ t, exec (.doorbell q) s = .next t ∧
    ((s1.hubSpeaks = true → s1.compatMode = false → t.control.out = s1.control.out ++ [Sent.mk s1.control.oseq
      s1.control.epoch (.response (s1.replyPort w.port) 5 w st [])])) ∧
    ((st ≠ 9 → st ≠ 10 → t.control.cache = trimCache (Cached.mk w.tid none st [] :: s1.control.cache))) ∧
    t = { s1 with control := t.control }) ∧
  (∀ (s s0 : State) (q : Transaction),
    s.hears q = true → cachedResponse s.control.cache q.tid (some q.offset) = none →
    staleTid s.control.cache q.tid = false → s.inProgress q.tid = false → s.serves q.index = true →
    s.busy = false → s.blockOf q.tid = none → chunkStatus none q = 0 → s0 = s.arrive q → q.more = true →
    ∃ t, exec (.blockWrite q) s = .next t ∧
    t.control.blocks = BlockRun.mk q.tid q.index q.sub q.value :: s.control.blocks ∧
    ((s0.hubSpeaks = true → s0.compatMode = false → t.control.out = s.control.out ++ [Sent.mk s.control.oseq
      s.control.epoch (.response (s0.replyPort q.port) 3 q 0 [])])) ∧
    t = { s with control := t.control }) ∧
  (∀ (s s0 s1 : State) (q : Transaction) (st : Nat),
    s.hears q = true → cachedResponse s.control.cache q.tid (some q.offset) = none →
    staleTid s.control.cache q.tid = false → s.inProgress q.tid = false → s.serves q.index = true →
    s.busy = false → s.blockOf q.tid = none → chunkStatus none q = 0 → heldOutside q.index = false →
    s0 = ((s.arrive q).dropBlock q.tid).countApplied → q.more = false →
    s0.writeEntry q.index q.sub q.value = (st, s1) →
    ∃ t, exec (.blockWrite q) s = .next t ∧
    ((s1.hubSpeaks = true → s1.compatMode = false → t.control.out = s1.control.out ++ [Sent.mk s1.control.oseq
      s1.control.epoch (.response (s1.replyPort q.port) 3 q st [])])) ∧
    ((st ≠ 9 → st ≠ 10 → t.control.cache = trimCache (Cached.mk q.tid (some q.offset) st [] :: s1.control.cache))) ∧
    t = { s1 with control := t.control }) ∧
  (∀ (s s0 : State) (q : Transaction),
    s.hears q = true → cachedResponse s.control.cache q.tid none = none → staleTid s.control.cache q.tid = false →
    s.inProgress q.tid = false → s.serves q.index = true → s.busy = false → heldOutside q.index = true →
    (entryAt q.index q.sub).isSome = true → s0 = (s.arrive q).countApplied →
    ∃ t, exec (.odRead q) s = .next t ∧ t.control.forwards = s.control.forwards ++ [Forward.mk q 1 [] none none] ∧
    ((s0.hubSpeaks = true → s0.compatMode = false → t.control.out = s.control.out ++ [Sent.mk s.control.oseq
      s.control.epoch (.control ((s.holderSiteOf q.index q.sub).getD 4) 2 [q.index, q.sub, 1, s.control.epoch])])) ∧
    t.reg 0xB03002 = satAdd 64 (s.reg 0xB03002) 1 ∧ t = { s with regs := t.regs, control := t.control }) ∧
  (∀ (s s1 : State) (i st : Nat) (f : Forward) (v : List Byte),
    s.control.forwards[i]? = some f → f.answered = none →
    (s.holderSiteOf f.transaction.index f.transaction.sub).isSome = true →
    s.access (accessOf f.type) f.transaction f.value = (st, v, s1) →
    ∃ t, exec (.odFwd i) s = .next t ∧
    t.control.forwards = s1.control.forwards.set i { f with answered := some (st, v) } ∧
    t = { s1 with control := { s1.control with forwards := t.control.forwards } }) ∧
  (∀ (s s0 : State) (i st : Nat) (f : Forward) (v : List Byte),
    s.control.forwards[i]? = some f → f.answered = some (st, v) → s.boot.halted = false → s0 = s.hubInput →
    ∃ t, exec (.odRsp i) s = .next t ∧
    t.control.forwards = s.control.forwards.take i ++ s.control.forwards.drop (i + 1) ∧
    ((s0.hubSpeaks = true → s0.compatMode = false → t.control.out = s.control.out ++ [Sent.mk s0.control.oseq
      s0.control.epoch (.response (s0.replyPort f.transaction.port) f.type f.transaction st v)])) ∧
    ((st ≠ 9 → st ≠ 10 → t.control.cache = trimCache (Cached.mk f.transaction.tid f.chunk st v ::
      s0.control.cache))) ∧
    t = { s0 with control := t.control }) ∧
  (∀ (s s1 : State) (index sub st : Nat) (v : List Byte),
    s.boot.halted = false → s.boot.rigLost = false → s.serves index = true → s.writeEntry index sub v = (st, s1) →
    ∃ t, exec (.genericOdWrite index sub v) s = .next t ∧ t = s1 ∧ t.control.out = s1.control.out) ∧
  (∀ (s : State),
    s.boot.halted = false → s.boot.rigLost = false → s.control.lastStatus < s.now / 1000000 →
    ∃ t, exec (.status) s = .next t ∧ t.control.lastStatus = s.now / 1000000 ∧
    ((s.hubSpeaks = true → s.compatMode = false → t.control.out = s.control.out ++ [Sent.mk s.control.oseq
      s.control.epoch (.statusFrame s.fuses.serial (s.activeComplex.getD (s.reg 0xB00101)) s.control.epoch
      s.control.events.count)])) ∧
    t = { s with control := t.control }) ∧
  (∀ (s : State) (e : EventIn),
    e.code ∈ eventCodes → s.boot.rigLost = false → s.boot.halted = false → e.code ≠ 0x1601 →
    ∃ t, exec (.event e) s = .next t ∧ t.raised e.code = s.raised e.code + 1 ∧
    t.control.inputs = s.control.inputs + 1 ∧ t.memory = s.memory ∧
    t = { s with regs := t.regs, control := t.control, dbg := t.dbg }) ∧
  (∀ (s : State),
    tableStatus (s.shadow 0xD00001) (s.blobShadow 0xD00002) = 0 →
    ∃ t, exec (.tableCommit) s = .next t ∧ t.control.delivery = deliveryRows ((s.blobShadow 0xD00002).drop 8) ∧
    t.control.deliveryLoaded = true ∧ t.control.deliveryTime = s.now ∧ t.reg 0xD00003 = 0 ∧
    t.blob 0xD00002 = s.blobShadow 0xD00002 ∧ t = { s with regs := t.regs, blobs := t.blobs, control := t.control }) ∧
  (∀ (s : State),
    tableStatus (s.shadow 0xD00001) (s.blobShadow 0xD00002) ≠ 0 →
    ∃ t, exec (.tableCommit) s = .next t ∧
    t = s.setReg 0xD00003 (tableStatus (s.shadow 0xD00001) (s.blobShadow 0xD00002))) ∧
  (∀ (s : State),
    ∃ t, exec (.tableRestore 0x120) s = .next t ∧
    t.control = { s.control with delivery := [], deliveryLoaded := false } ∧ t.reg 0xD00003 = 0 ∧
    t = { s with regs := t.regs, control := t.control }) ∧
  (∀ (s : State) (index v : Nat),
    ∃ t, exec (.emptyBlockCommit index v) s = .next t ∧ t = s)

/-- Heartbeats, takeovers, divergence, resynchronisation and the control mode act as the complex rules say -/
def Obligations.ComplexesTakeOver : Prop :=
  (∀ (s : State) (k d r : Nat),
    s.now % 1000 = 0 → (s.die (0x30 + k)).state = .ready → s.boot.halted = false → s.activeComplex ≠ some k →
    s.reflectingSite = some d →
    ∃ t, exec (.heartbeat k r) s = .next t ∧ (t.complex k).selfTest = r ∧
    (t.complex k).lastInput = s.lastInputOf k ∧
    t.control.wire = s.control.wire ++ [.control d 1 (heartbeatBody k (t.complex k))] ∧
    ((∀ j, j ≠ k → t.complex j = s.complex j)) ∧ t = { s with control := t.control }) ∧
  (∀ (s : State) (k r : Nat),
    s.now % 1000 = 0 → (s.die (0x30 + k)).state = .ready → s.boot.halted = false → s.activeComplex = some k →
    r ≠ 0 → s.control.declared = none → s.reflectingSite = none →
    ∃ t, exec (.heartbeat k r) s = .next t ∧ (t.complex k).selfTest = r ∧ t.control.declared = some 5 ∧
    ((∀ j, j ≠ k → t.complex j = s.complex j)) ∧ t = { s with control := t.control }) ∧
  (∀ (s : State) (k : Nat),
    ∃ t, exec (.heartbeatMiss k true) s = .next t ∧
    (t.complex k).missStanding = satAdd 64 (s.complex k).missStanding 1 ∧
    (t.complex k).missStandingRun = (s.complex k).missStandingRun + 1 ∧
    (t.complex k).missPrivate = (s.complex k).missPrivate ∧ ((∀ j, j ≠ k → t.complex j = s.complex j)) ∧
    t = { s with control := t.control }) ∧
  (∀ (s : State) (k : Nat),
    ∃ t, exec (.heartbeatMiss k false) s = .next t ∧
    (t.complex k).missPrivate = satAdd 64 (s.complex k).missPrivate 1 ∧
    (t.complex k).missPrivateRun = (s.complex k).missPrivateRun + 1 ∧
    (t.complex k).missStanding = (s.complex k).missStanding ∧ ((∀ j, j ≠ k → t.complex j = s.complex j)) ∧
    t = { s with control := t.control }) ∧
  (∀ (s : State) (a r : Nat),
    s.activeComplex = some a → s.failureDeclared a r = true → (s.complex (twinOf a)).state = .standby →
    (s.die (0x30 + a)).state = .ready → a < 2 →
    ∃ t, exec (.takeover r) s = .next t ∧ (t.complex (twinOf a)).state = .active ∧
    (t.complex (twinOf a)).epoch = (s.control.epoch + 1) % 4294967296 ∧
    t.control.epoch = (s.control.epoch + 1) % 4294967296 ∧ t.control.declared = none ∧ t.reg 0xB00101 = twinOf a ∧
    t.reg 0xB00104 = satAdd 32 (s.reg 0xB00104) 1 ∧ t.reg 0xB00105 ≤ 10000 ∧ t.reg 0xB00106 = r ∧
    t.raised 0x1A01 = s.raised 0x1A01 + 1 ∧ t.memory = s.memory ∧ t.ctxs = s.ctxs ∧
    t = { s with
      freeCount := t.freeCount, package := t.package, regs := t.regs, control := t.control, dbg := t.dbg }) ∧
  (∀ (s : State) (a r : Nat),
    s.activeComplex = some a → s.failureDeclared a r = true → (s.complex (twinOf a)).state ≠ .standby →
    (s.die (0x30 + a)).state = .ready → s.boot.halted = false →
    ∃ t, exec (.takeover r) s = .next t ∧ t.boot.halted = true ∧ t.boot.faultN = false ∧
    t.control.epoch = s.control.epoch ∧ t.memory = s.memory) ∧
  (∀ (s : State) (a n : Nat),
    s.activeComplex = some a → (s.complex (twinOf a)).state = .standby → s.compatMode = false →
    ∃ t, exec (.divergence n) s = .next t ∧
    t.complex (twinOf a) = { s.complex (twinOf a) with state := .offline, changed := s.stamp } ∧
    t.reg 0xB00202 = satAdd 32 (s.reg 0xB00202) 1 ∧ t.raised 0x1A02 = s.raised 0x1A02 + 1 ∧
    ((∀ j, j ≠ twinOf a → t.complex j = s.complex j)) ∧
    t = { s with regs := t.regs, control := t.control, dbg := t.dbg }) ∧
  (∀ (s : State) (k : Nat),
    (s.complex k).state = .active → s.activeComplex ≠ some k → (s.die (0x30 + k)).state = .ready →
    ∃ t, exec (.complexDisplaced k) s = .next t ∧ (t.complex k).state = .offline ∧
    t.raised 0x1A03 = s.raised 0x1A03 + 1 ∧ ((∀ j, j ≠ k → t.complex j = s.complex j)) ∧
    t = { s with regs := t.regs, control := t.control, dbg := t.dbg }) ∧
  (∀ (s : State) (k : Nat),
    (s.complex k).state = .syncing → s.activeComplex ≠ none → (s.complex k).resyncStep = 0 →
    ∃ t, exec (.resync k (.selfTest 0)) s = .next t ∧
    t.complex k = { s.complex k with selfTest := 0, resyncStep := 1 } ∧
    ((∀ j, j ≠ k → t.complex j = s.complex j)) ∧
    t = { s with control := { s.control with complexes := t.control.complexes } }) ∧
  (∀ (s : State) (k : Nat),
    (s.complex k).state = .syncing → s.activeComplex ≠ none → (s.complex k).resyncStep = 1 →
    ∃ t, exec (.resync k .snapshot) s = .next t ∧
    t.complex k = { s.complex k with resyncStep := 2, resyncInput := s.control.inputs } ∧
    ((∀ j, j ≠ k → t.complex j = s.complex j)) ∧
    t = { s with control := { s.control with complexes := t.control.complexes } }) ∧
  (∀ (s : State) (k : Nat),
    (s.complex k).state = .syncing → s.activeComplex ≠ none → (s.complex k).resyncStep = 2 →
    ∃ t, exec (.resync k .crossed) s = .next t ∧ t.complex k = { s.complex k with resyncStep := 3 } ∧
    ((∀ j, j ≠ k → t.complex j = s.complex j)) ∧
    t = { s with control := { s.control with complexes := t.control.complexes } }) ∧
  (∀ (s : State) (k : Nat),
    (s.complex k).state = .syncing → s.activeComplex ≠ none → (s.complex k).resyncStep = 3 →
    ∃ t, exec (.resync k .caughtUp) s = .next t ∧
    t.complex k = { s.complex k with resyncStep := 4, lastInput := s.control.inputs } ∧
    ((∀ j, j ≠ k → t.complex j = s.complex j)) ∧
    t = { s with control := { s.control with complexes := t.control.complexes } }) ∧
  (∀ (s : State) (k r : Nat),
    (s.complex k).state = .syncing → s.activeComplex ≠ none → (s.complex k).resyncStep = 0 → r ≠ 0 →
    ∃ t, exec (.resync k (.selfTest r)) s = .next t ∧ (t.complex k).state = .offline ∧ (t.complex k).selfTest = r ∧
    t.raised 0x1A04 = s.raised 0x1A04 + 1 ∧ ((∀ j, j ≠ k → t.complex j = s.complex j)) ∧
    t = { s with regs := t.regs, control := t.control, dbg := t.dbg }) ∧
  (∀ (s : State) (k : Nat),
    (s.complex k).state = .syncing → s.activeComplex ≠ none → (s.complex k).resyncStep = 4 →
    ∃ t, exec (.resync k .agreed) s = .next t ∧ (t.complex k).state = .standby ∧
    (t.complex k).epoch = s.control.epoch ∧ (t.complex k).resyncStep = 0 ∧
    t.reg 0xB00203 = satAdd 32 (s.reg 0xB00203) 1 ∧ t.raised 0x1A04 = s.raised 0x1A04 + 1 ∧
    ((∀ j, j ≠ k → t.complex j = s.complex j)) ∧
    t = { s with freeCount := t.freeCount, regs := t.regs, control := t.control, dbg := t.dbg }) ∧
  (∀ (s : State) (k : Nat),
    (s.complex k).state = .syncing → s.activeComplex ≠ none →
    ((s.complex k).resyncStep = 2 ∨ (s.complex k).resyncStep = 3) →
    (s.complex k).resyncInput + 65536 ≤ s.control.inputs → (s.complex k).restarts < 3 →
    ∃ t, exec (.resync k .lostInput) s = .next t ∧
    t.complex k = { s.complex k with resyncStep := 1, restarts := (s.complex k).restarts + 1 } ∧
    ((∀ j, j ≠ k → t.complex j = s.complex j)) ∧
    t = { s with control := { s.control with complexes := t.control.complexes } }) ∧
  (∀ (s : State) (a : Nat),
    s.activeComplex = some a → (s.complex (twinOf a)).state = .standby →
    ∃ t, exec (.handOver) s = .next t ∧ t.reg 0xB01002 = 1 ∧ t.control = { s.control with declared := some 3 } ∧
    t = { s with regs := t.regs, control := t.control }) ∧
  (∀ (s : State) (a : Nat),
    s.activeComplex = some a → (s.complex (twinOf a)).state ≠ .standby →
    ∃ t, exec (.handOver) s = .next t ∧ t = s.setReg 0xB01002 5) ∧
  (∀ (s : State) (a : Nat),
    s.activeComplex = some a →
    ((s.complex (twinOf a)).state = .offline ∨ (s.complex (twinOf a)).state = .standby) →
    (s.die (0x30 + twinOf a)).state = .ready →
    ∃ t, exec (.resynchroniseTwin) s = .next t ∧ (t.complex (twinOf a)).state = .syncing ∧
    (t.complex (twinOf a)).resyncStep = 0 ∧ (t.complex (twinOf a)).restarts = 0 ∧ t.reg 0xB01002 = 0 ∧
    ((∀ j, j ≠ twinOf a → t.complex j = s.complex j)) ∧ t = { s with regs := t.regs, control := t.control }) ∧
  (∀ (s : State) (a : Nat),
    s.activeComplex = some a → ((s.complex (twinOf a)).state = .standby ∨ (s.complex (twinOf a)).state = .syncing) →
    ∃ t, exec (.twinOffline) s = .next t ∧ (t.complex (twinOf a)).state = .offline ∧ t.reg 0xB01002 = 0 ∧
    ((∀ j, j ≠ twinOf a → t.complex j = s.complex j)) ∧ t = { s with regs := t.regs, control := t.control }) ∧
  (∀ (s : State) (a : Nat),
    s.activeComplex = some a → s.shadow 0xB00001 = 1 → (s.complex (twinOf a)).state = .standby →
    ∃ t, exec (.controlCommit 1) s = .next t ∧ t.compatMode = true ∧ t.reg 0xB00002 = 0 ∧
    (t.complex (twinOf a)).state = .syncing ∧ t.control.held = s.control.held ∧
    ((∀ j, j ≠ twinOf a → t.complex j = s.complex j)) ∧ t = { s with regs := t.regs, control := t.control }) ∧
  (∀ (s : State),
    1 < s.shadow 0xB00001 →
    ∃ t, exec (.controlCommit 1) s = .next t ∧ t = s.setReg 0xB00002 2) ∧
  (∀ (s : State) (a : Nat),
    s.activeComplex = some a → s.compatMode = true → s.hubSpeaks = true → s.now % 10000 = 0 →
    ∃ t, exec (.controlCycleEnd) s = .next t ∧
    t.control.out = s.control.out ++ s.control.held.map (fun f => { f with epoch := s.control.epoch }) ∧
    t.control.held = [] ∧
    (((s.complex (twinOf a)).state = .standby → (t.complex (twinOf a)).lastInput = s.control.inputs)) ∧
    t = { s with control := t.control })

/-- Starts, pins and rails reset what the start rules say, and flash and fuses survive -/
def Obligations.StartsAndRails : Prop :=
  (∀ (s : State) (cause : ColdCause) (o : StartObs),
    s.coldDueFor cause = true → (s.clocks.good0 = true ∨ s.clocks.good1 = true) → s.lifeCycle = 4 →
    ∃ t, exec (.coldStart cause o) s = .next t ∧ t.boot.serviceMode = true ∧ t.reg 0x100204 = 0xFF ∧
    t.ctxs = ⟨[]⟩ ∧ t.memory = {} ∧ t.control.epoch = 1 ∧ t.clocks.count = 1000 * o.duration ∧
    t.pending = s.pending ∧ t.messages = {} ∧ t.domain = {} ∧
    ((s.flashWindow = true → t.boot.flash.identity = [])) ∧ ((s.flashWindow = false → t.boot.eraseIdentity = true))) ∧
  (∀ (s : State) (cause : ColdCause) (o : StartObs),
    s.coldDueFor cause = true → (s.clocks.good0 = true ∨ s.clocks.good1 = true) → s.lifeCycle ≠ 4 →
    s.boot.flash.preferred < 2 → s.imageCheck s.boot.flash.slot0 ≠ 0 → s.imageCheck s.boot.flash.slot1 ≠ 0 →
    ∃ t, exec (.coldStart cause o) s = .next t ∧ t.boot.serviceMode = true ∧ t.reg 0x100204 = 0xFF ∧
    t.ctxs = ⟨[]⟩ ∧ t.memory = {} ∧ t.control.epoch = 1 ∧ t.clocks.count = 1000 * o.duration ∧
    t.pending = s.pending ∧ t.messages = {} ∧ t.domain = {} ∧ t.raised 0x1B02 = 1) ∧
  (∀ (s : State) (cause : ColdCause) (o : StartObs),
    s.coldDueFor cause = true → (s.clocks.good0 = true ∨ s.clocks.good1 = true) →
    ∃ t, exec (.coldStart cause o) s = .next t ∧
    ((s.imageCheck (s.boot.flash.image s.boot.flash.preferred) = 0 → s.lifeCycle ≠ 4 → o.halvesAgree = true → t.reg
      0x100204 = 10 ∧ t.reg 0x100202 = coldType cause ∧ t.reg 0x100203 = o.duration))) ∧
  (∀ (s : State) (a : Nat) (o : StartObs),
    s.boot.startDue = some (false, a) → a ≤ s.now → s.boot.halted = false → s.lifeCycle ≠ 4 →
    s.boot.flash.preferred < 2 → s.imageCheck s.boot.flash.slot0 ≠ 0 → s.imageCheck s.boot.flash.slot1 ≠ 0 →
    ∃ t, exec (.warmStart o) s = .next t ∧ t.control.epoch = (s.control.epoch + 1) % 4294967296 ∧
    t.clocks.count = s.clocks.count ∧ t.photonics = s.photonics ∧ t.ctxs = ⟨[]⟩ ∧ t.pending = s.pending ∧
    t.boot.serviceMode = true ∧ t.reg 0x100204 = 0xFF) ∧
  (∀ (s : State) (a : Nat) (o : StartObs),
    s.boot.startDue = some (false, a) → a ≤ s.now → s.boot.halted = false →
    ∃ t, exec (.warmStart o) s = .next t ∧
    ((s.imageCheck (s.boot.flash.image s.boot.flash.preferred) = 0 → s.lifeCycle ≠ 4 → o.halvesAgree = true → t.reg
      0x100204 = 10 ∧ t.reg 0x100202 = 1 ∧ t.reg 0x100203 = o.duration))) ∧
  (∀ (s : State),
    ∃ t, exec (.startRequestWarm) s = .next t ∧
    t = { s with boot := { s.boot with startDue := some (false, s.now + 100000) } }) ∧
  (∀ (s : State),
    ∃ t, exec (.startRequestCold) s = .next t ∧
    t = { s with boot := { s.boot with startDue := some (true, s.now + 100000) } }) ∧
  (∀ (s : State) (n : Nat),
    10000 ≤ n →
    ∃ t, exec (.rstNLow n) s = .next t ∧ t.pending = s.pending ∧ t.fuses = s.fuses ∧ t.boot.flash = s.boot.flash ∧
    t.ctxs = ⟨[]⟩ ∧ t.clusters = ⟨[]⟩ ∧ t.regs = ⟨[]⟩ ∧ t.memory = {} ∧ t.rig = {} ∧ t.domain = {} ∧
    t.boot.coldDue = some .rstN) ∧
  (∀ (s : State) (n : Nat),
    n < 10000 →
    ∃ t, exec (.rstNLow n) s = .next t ∧ t = s) ∧
  (∀ (s : State),
    ∃ t, exec (.powerLoss) s = .next t ∧ t.pending = s.pending ∧ t.fuses = s.fuses ∧ t.boot.flash = s.boot.flash ∧
    t.ctxs = ⟨[]⟩ ∧ t.clusters = ⟨[]⟩ ∧ t.regs = ⟨[]⟩ ∧ t.memory = {} ∧ t.rig = {} ∧ t.domain = {}) ∧
  (∀ (s : State) (r : Rail),
    r ∈ [.vaux, .vrig, .vdrv, .vhtr, .vlmp] →
    ∃ t, exec (.railFault r) s = .next t ∧ t.pending = s.pending ∧ t.fuses = s.fuses ∧
    t.boot.flash = s.boot.flash ∧ t.ctxs = ⟨[]⟩ ∧ t.clusters = ⟨[]⟩ ∧ t.regs = ⟨[]⟩ ∧ t.memory = {} ∧ t.rig = {} ∧
    t.domain = {}) ∧
  (∀ (s : State) (x : Nat) (r : Rail),
    x < 4 → r ∈ [.vkd x, .vddh x, .vddqh x, .vpph x] → (s.die (0x10 + x)).state = .ready →
    ∃ t, exec (.railFault r) s = .next t ∧ (t.die (0x10 + x)).state = .reset ∧ (t.die (0x10 + x)).railsOut = true ∧
    (t.tower x).hold = [] ∧ ((∀ k, k ∈ slotLanes x → (t.laneAt k).state = .out ∧ (t.laneAt k).noRetrain = true))) ∧
  (∀ (s : State) (x : Nat),
    x < 4 → (s.die (0x20 + x)).state = .ready →
    ∃ t, exec (.railFault (.vcd x)) s = .next t ∧ (t.die (0x20 + x)).state = .reset ∧
    (t.die (0x20 + x)).railsOut = true ∧ ((∀ c, c / 200 = x → (t.cluster c).bound = none))) ∧
  (∀ (s : State),
    (s.die 0x30).state = .ready → (s.die 0x31).state = .ready → s.boot.halted = false →
    ∃ t, exec (.railFault .vhd) s = .next t ∧ (t.die 0x30).state = .reset ∧ (t.die 0x31).state = .reset ∧
    t.boot.halted = true ∧ t.boot.faultN = false ∧ t.memory = s.memory) ∧
  (∀ (s : State) (g : Nat),
    s.guestFitted g = true → (s.guest g).state ≠ .absent → (s.guest g).state ≠ .locked →
    ∃ t, exec (.railFault (.vgst g)) s = .next t ∧ (t.guest g).state = .down ∧
    (t.die (guestDie g)).state = .reset ∧ (t.die (guestDie g)).railsOut = true ∧ sameGuests g s t ∧
    t.memory = s.memory)

/-- Life-cycle transitions, images and attestation are accepted or refused as the security rules say -/
def Obligations.SecurityIsKept : Prop :=
  (∀ (s : State),
    s.lifeCycle = 1 → s.fuseWindow = true →
    ∃ t, exec (.lifeCycleTransition 2) s = .next t ∧
    t.fuses = { s.fuses with lifeCopy0 := s.fuses.lifeCopy0 ||| 2#4, lifeCopy1 := s.fuses.lifeCopy1 ||| 2#4 } ∧
    t.boot = { s.boot with coldDue := some .lifeCycle } ∧ t.reg 0x100104 = 1 ∧
    t = { s with fuses := t.fuses, boot := t.boot, regs := t.regs } ∧ t.lifeCycle = 2) ∧
  (∀ (s : State),
    s.lifeCycle ≠ 4 → s.fuseWindow = true → s.boot.token = asciiBytes "END" →
    ∃ t, exec (.lifeCycleTransition 4) s = .next t ∧
    t.fuses = { s.fuses with lifeCopy0 := s.fuses.lifeCopy0 ||| 8#4, lifeCopy1 := s.fuses.lifeCopy1 ||| 8#4 } ∧
    t.boot = { s.boot with coldDue := some .lifeCycle } ∧ t.reg 0x100104 = 1 ∧
    t = { s with fuses := t.fuses, boot := t.boot, regs := t.regs } ∧ t.lifeCycle = 4) ∧
  (∀ (s : State) (d : Nat),
    d ≤ 4 → transitionAllowed s.lifeCycle d = false →
    ∃ t, exec (.lifeCycleTransition d) s = .next t ∧ t = s.setReg 0x100104 2) ∧
  (∀ (s : State),
    s.lifeCycle ≠ 4 → s.boot.token ≠ asciiBytes "END" →
    ∃ t, exec (.lifeCycleTransition 4) s = .next t ∧ t = s.setReg 0x100104 3) ∧
  (∀ (s : State),
    s.lifeCycle = 1 → s.fuseWindow = false →
    ∃ t, exec (.lifeCycleTransition 2) s = .next t ∧ t.fuses = s.fuses ∧ t.boot = s.boot ∧ t.reg 0x100104 = 4 ∧
    t.reg 0x203004 = satAdd 32 (s.reg 0x203004) 1 ∧ t = { s with regs := t.regs }) ∧
  (∀ (s : State),
    s.fuses.lifeCopy0 ≠ s.fuses.lifeCopy1 → s.fuseWindow = true →
    ∃ t, exec (.fuseCopyRepair) s = .next t ∧ t.fuses.lifeCopy0 = s.fuses.lifeCopy0 ||| s.fuses.lifeCopy1 ∧
    t.fuses.lifeCopy1 = t.fuses.lifeCopy0 ∧ t.lifeCycle = s.lifeCycle ∧ t = { s with fuses := t.fuses }) ∧
  (∀ (s : State) (g : Bool),
    s.runningSlot < 2 →
    ∃ t, exec (.securityCommit 1 g) s = .next t ∧
    ((s.imageCheck (s.blobShadow 0x901001) ≠ 0 → t = s.setReg 0x901002 2)) ∧
    ((s.imageCheck (s.blobShadow 0x901001) = 0 → s.flashWindow = false → t.reg 0x901002 = 3 ∧ t.boot = s.boot)) ∧
    ((s.imageCheck (s.blobShadow 0x901001) = 0 → s.flashWindow = true → g = true → t.reg 0x901002 = 0 ∧
      t.boot.flash.image (1 - s.runningSlot) = (s.blobShadow 0x901001) ∧ t.boot.flash.image s.runningSlot =
      s.boot.flash.image s.runningSlot ∧ t.boot.flash.preferred = 1 - s.runningSlot)) ∧
    ((s.imageCheck (s.blobShadow 0x901001) = 0 → s.flashWindow = true → g = false → t.reg 0x901002 = 4 ∧
      t.boot.flash.preferred = s.boot.flash.preferred)) ∧
    t = { s with blobs := t.blobs, regs := t.regs, boot := t.boot }) ∧
  (∀ (s : State) (n : List Byte),
    s.attestVerdict = 0 → s.boot.nonce = some n →
    ∃ t, exec (.attestationRequest 1) s = .next t ∧ t.reg 0x903003 = 0 ∧
    (t.blob 0x903004).take 256 = s.reportBody n ∧ (t.blob 0x903004).length = 256 + 9893 ∧ t.boot.nonce = none ∧
    t.boot.leaf = s.boot.leaf + 1 ∧
    ((s.boot.leaf < (s.boot.flash.leafRecord.getD {}).ceiling → t.boot.flash = s.boot.flash)) ∧
    t = { s with blobs := t.blobs, regs := t.regs, boot := t.boot }) ∧
  (∀ (s : State) (v : Nat),
    v = s.attestVerdict → v ≠ 0 → v ≠ 2 →
    ∃ t, exec (.attestationRequest 1) s = .next t ∧ t = s.setReg 0x903003 v) ∧
  (∀ (s : State),
    s.flashWindow = false → s.thermal.attestRefusalRaised = false →
    ∃ t, exec (.attestationRequest 1) s = .next t ∧ t.reg 0x903003 = 2 ∧
    t.thermal = { s.thermal with attestRefusalRaised := true } ∧ t.raised 0x1905 = s.raised 0x1905 + 1 ∧
    t.boot = s.boot ∧ t = { s with regs := t.regs, control := t.control, thermal := t.thermal, dbg := t.dbg })

/-- The bell rings, is rung, is released and cleared, and a stopped Dreuth is read, as the bell rules say -/
def Obligations.BellStops : Prop :=
  (∀ (s : State) (n : Nat),
    s.dbg.bell = .clear →
    ∃ t, exec (.bellRing n) s = .next t ∧ t.dbg.bell = .ringing ∧ t.dbg.bellStart = s.now ∧ t.reg 0xA00002 = 1 ∧
    t.reg 0xA00004 = s.stamp ∧ t.reg 0xA00007 = satAdd 32 (s.reg 0xA00007) 1 ∧ t.reg 0xA00005 = n ∧
    t.dbg = { s.dbg with bell := .ringing, bellStart := s.now } ∧ t = { s with dbg := t.dbg, regs := t.regs }) ∧
  (∀ (s : State) (n : Nat),
    s.dbg.bell ≠ .clear →
    ∃ t, exec (.bellRing n) s = .next t ∧ t = s.setReg 0xA00002 5) ∧
  (∀ (s : State),
    s.dbg.bell = .ringing → s.package.scanWaiting = [] →
    ∃ t, exec (.bellRung) s = .next t ∧ t.dbg.bell = .rung ∧ t.reg 0xA00002 = 0 ∧
    t.reg 0xA00006 = Nat.min (s.now - s.dbg.bellStart) 4294967295 ∧ t.raised 0x1C01 = s.raised 0x1C01 + 1 ∧
    t.ctxs = s.ctxs ∧ t = { s with regs := t.regs, control := t.control, dbg := t.dbg }) ∧
  (∀ (s : State) (d : Nat),
    s.dbg.bell = .ringing → s.package.scanWaiting = [d] →
    ∃ t, exec (.bellRung) s = .next t ∧ t.dbg.bell = .rung ∧ d ∈ t.package.scan ∧ t.package.scanWaiting = [] ∧
    ((∀ k, k ∈ regionsOf d → (t.region k).stopped = true)) ∧
    t = { s with package := t.package, clocks := t.clocks, regs := t.regs, control := t.control, dbg := t.dbg }) ∧
  (∀ (s : State),
    s.dbg.bell = .rung → s.dbg.held = [] →
    ∃ t, exec (.bellRelease) s = .next t ∧ t.dbg.bell = .releasing ∧ t.reg 0xA00002 = 1 ∧
    (∀ x, (t.ctx x).state = (s.ctx x).state ∧ (t.ctx x).consumer = (s.ctx x).consumer) ∧ t.memory = s.memory ∧
    t.dbg.held = [] ∧
    t = { s with regs := t.regs, dbg := t.dbg, ctxs := t.ctxs, clusters := t.clusters, coll := t.coll }) ∧
  (∀ (s s1 s2 : State),
    s.dbg.bell = .rung →
    s1 = ({ (s.setReg 0xA00002 1) with dbg := { s.dbg with bell := .releasing, held := [] } } : State).resumeClocks
      (s.now - s.dbg.bellStart) →
    s2 = s1.applyHeld s.dbg.held →
    ∃ t, exec (.bellRelease) s = .next t ∧ t.dbg.bell = s2.dbg.bell ∧ t.dbg.held = s2.dbg.held ∧
    t = { s2 with dbg := t.dbg }) ∧
  (∀ (s : State),
    s.dbg.bell ≠ .rung →
    ∃ t, exec (.bellRelease) s = .next t ∧ t = s.setReg 0xA00002 5) ∧
  (∀ (s : State),
    s.dbg.bell = .releasing →
    ∃ t, exec (.bellClear) s = .next t ∧ t.dbg = { s.dbg with bell := .clear } ∧ t.reg 0xA00002 = 0 ∧
    t = { s with dbg := t.dbg, regs := t.regs }) ∧
  (∀ (s : State) (n : Nat),
    n < 8 → (s.dbg.triggers.get {} n).state = 1 → (s.dbg.triggers.get {} n).count ≠ 0 →
    (s.dbg.triggers.get {} n).count ≤ (s.dbg.triggers.get {} n).seen → s.dbg.bell = .clear →
    ∃ t, exec (.triggerFire n) s = .next t ∧ t.dbg.bell = .ringing ∧ t.dbg.bellStart = s.now ∧ t.reg 0xA00002 = 1 ∧
    t.reg 0xA00004 = s.stamp ∧ t.reg 0xA00007 = satAdd 32 (s.reg 0xA00007) 1 ∧ t.reg 0xA00005 = 0x10 + n ∧
    (t.dbg.triggers.get {} n).state = 2 ∧ ((∀ m, m ≠ n → t.dbg.triggers.get {} m = s.dbg.triggers.get {} m)) ∧
    t = { s with dbg := t.dbg, regs := t.regs }) ∧
  (∀ (s s1 : State) (a n st : Nat) (d : List Byte),
    s.scanRead a n = (st, d, s1) →
    ∃ t, exec (.scanOut a n) s = .next t ∧ t.dbg.scanStatus = st ∧ t.dbg.scanData = d ∧
    ((s.lifeCycle ≠ 4 → s.dbg.bell ≠ .rung → st = 6 ∧ d = [])) ∧ ((s.lifeCycle = 4 → st = 7 ∧ d = [])) ∧
    ((s.lifeCycle ≠ 4 → s.dbg.bell = .rung → s.reg 0xA01002 = 1 → a + n ≤ 0x300000 → st = 0 ∧ d = subBytes (s.held
      (clusterOffset (s.reg 0xA01001) 0) 0x300000) a n)) ∧
    t = { s with dbg := t.dbg, freeCount := t.freeCount }) ∧
  (∀ (s : State) (d : Nat),
    s.wrapperOpen d = true → d ∉ s.package.scan → s.dbg.bell = .clear →
    ∃ t, exec (.internalScan d) s = .next t ∧ t.dbg.bell = .ringing ∧ t.dbg.bellStart = s.now ∧
    t.reg 0xA00002 = 1 ∧ t.reg 0xA00004 = s.stamp ∧ t.reg 0xA00007 = satAdd 32 (s.reg 0xA00007) 1 ∧
    t.reg 0xA00005 = 3 ∧ t.package.scanWaiting = s.package.scanWaiting.erase d ++ [d] ∧
    t.package = { s.package with scanWaiting := t.package.scanWaiting } ∧
    t = { s with package := t.package, dbg := t.dbg, regs := t.regs }) ∧
  (∀ (s : State) (d : Nat),
    s.wrapperOpen d = true → d ∉ s.package.scan → s.dbg.bell = .rung →
    ∃ t, exec (.internalScan d) s = .next t ∧ d ∈ t.package.scan ∧
    ((∀ k, k ∈ regionsOf d → (t.region k).stopped = true)) ∧ ((∀ k, k ∉ regionsOf d → t.region k = s.region k)) ∧
    t = { s with package := t.package, clocks := t.clocks, regs := t.regs }) ∧
  (∀ (s : State) (d : Nat),
    d ∈ s.package.scan → s.package.scan.Nodup →
    ((regionsOf d).all fun k => decide ((s.region k).crossing = [] ∧ (s.region k).landing = [])) = true →
    ∃ t, exec (.scanExit d) s = .next t ∧ d ∉ t.package.scan ∧
    ((∀ k, k ∈ regionsOf d → (t.region k).stopped = false)) ∧ ((∀ k, k ∉ regionsOf d → t.region k = s.region k)) ∧
    t.dbg = s.dbg ∧ t = { s with package := t.package, clocks := t.clocks })

/-- Dumps, traces, samples and the debug commit write what the debug rules say -/
def Obligations.DebugRecords : Prop :=
  (∀ (s : State) (c x n : Nat),
    s.member c = some x → n ∈ (s.core c).dumpDue → (s.core c).score = [] → (s.ctx x).state = .bound →
    s.dbg.bell ≠ .rung → s.boot.halted = false → s.fenceOn c true (s.reg 0xA03101) = none →
    s.dumpStalls (s.dbg.dumps.get {} n) = false →
    s.reg 0xA03103 + (64 + ceilDiv (s.dbg.dumps.get {} n).length 64 * 64) ≤ s.reg 0xA03102 →
    ∃ t, exec (.dumpPoint c n) s = .next t ∧
    t.reg 0xA03103 = s.reg 0xA03103 + (64 + ceilDiv (s.dbg.dumps.get {} n).length 64 * 64) ∧
    t.reg 0xA03104 = satAdd 32 (s.reg 0xA03104) 1 ∧ t.dbg.dumpSeq = (s.dbg.dumpSeq + 1) % 4294967296 ∧
    (t.dbg.dumps.get {} n).remaining = (s.dbg.dumps.get {} n).remaining - 1 ∧
    (t.core c).dumpDue = (s.core c).dumpDue.erase n ∧ sameClusters c s t ∧ t.ctxs = s.ctxs ∧
    t = { s with
      memory := t.memory, clusters := t.clusters, blobs := t.blobs, regs := t.regs, control := t.control, dbg :=
        t.dbg }) ∧
  (∀ (s : State) (c x n : Nat),
    s.member c = some x → n ∈ (s.core c).dumpDue → (s.core c).score = [] → (s.ctx x).state = .bound →
    s.dbg.bell ≠ .rung → s.boot.halted = false → s.fenceOn c true (s.reg 0xA03101) = none →
    s.dumpStalls (s.dbg.dumps.get {} n) = false →
    s.reg 0xA03102 < s.reg 0xA03103 + (64 + ceilDiv (s.dbg.dumps.get {} n).length 64 * 64) →
    s.dbg.dumpSkipRaised = false →
    ∃ t, exec (.dumpPoint c n) s = .next t ∧ t.reg 0xA03105 = satAdd 32 (s.reg 0xA03105) 1 ∧
    t.reg 0xA03103 = s.reg 0xA03103 ∧ t.dbg.dumpSkipRaised = true ∧ t.raised 0x1C02 = s.raised 0x1C02 + 1 ∧
    (t.core c).dumpDue = (s.core c).dumpDue.erase n ∧ t.memory = s.memory ∧ sameClusters c s t ∧
    t = { s with clusters := t.clusters, regs := t.regs, control := t.control, dbg := t.dbg }) ∧
  (∀ (s : State),
    ∃ t, exec (.dumpReset 1) s = .next t ∧ t.reg 0xA03103 = 0 ∧
    t.dbg = { s.dbg with dumpSeq := 0, dumpSkipRaised := false } ∧ t = { s with regs := t.regs, dbg := t.dbg }) ∧
  (∀ (s s1 s2 : State) (c : Nat) (r : List Byte) (l : List (List Byte)),
    (s.cluster c).traceBuf = r :: l → s.traceSize ≠ 0 → s.towerServes (c / 200) = true →
    s1 = s.modCluster c (fun k => { k with traceBuf := l, traceWritten := (s.cluster c).traceWritten + 1 }) →
    (s1.storeRange (s.tracePlace c (s.cluster c).traceWritten) r contextZero) = (none, s2) →
    ∃ t, exec (.traceRecord c) s = .next t ∧ t = s2) ∧
  (∀ (s : State) (c : Nat),
    c < 800 →
    ∃ t, exec (.counterClear c) s = .next t ∧ t.cluster c = { s.cluster c with counters := ⟨[]⟩ } ∧
    sameClusters c s t ∧ t = { s with clusters := t.clusters }) ∧
  (∀ (s : State),
    ∃ t, exec (.counterClear 0xFFFF) s = .next t ∧
    (∀ c, (t.cluster c).counters = ⟨[]⟩ ∧ (t.cluster c).perCmd = (s.cluster c).perCmd ∧ (t.cluster c).core =
      (s.cluster c).core) ∧
    t = { s with clusters := t.clusters }) ∧
  (∀ (s : State) (n : Nat),
    n ≠ 0 → s.samplesDue n ≠ [] →
    ∃ t, exec (.crowsNestSample n) s = .next t ∧
    t = (sevens ((s.samplesDue n).map s.sampleRow).length ((s.samplesDue n).map s.sampleRow)).foldl
      State.telemetryRecord { s with dbg := { s.dbg with lastSample := t.dbg.lastSample } } ∧
    (∀ r ∈ s.samplesDue n, t.dbg.lastSample.get 0 r.interval = s.now / (1000 * n) * (1000 * n)) ∧
    t.dbg.samples = s.dbg.samples ∧ t = { s with regs := t.regs, control := t.control, dbg := t.dbg }) ∧
  (∀ (s : State),
    s.debugVerdict = 0 →
    ∃ t, exec (.debugCommit 1) s = .next t ∧ t.reg 0xA00201 = 0 ∧ (∀ k ∈ debugScalars, t.reg k = s.shadow k) ∧
    ((∀ b, SMap.lookup s.blobShadows.entries 0xA00101 = some b → t.dbg.triggers = numbered triggerOf (rowsOf 20
      b))) ∧
    ((∀ b, SMap.lookup s.blobShadows.entries 0xA03201 = some b → t.dbg.dumps = numbered dumpRowOf (rowsOf 49 b))) ∧
    ((SMap.lookup s.blobShadows.entries 0xA05001 = none → t.dbg.samples = s.dbg.samples)) ∧
    t.dbg.bell = s.dbg.bell ∧ t = { s with regs := t.regs, dbg := t.dbg, blobShadows := t.blobShadows }) ∧
  (∀ (s : State) (v : Nat),
    v = s.debugVerdict → v ≠ 0 →
    ∃ t, exec (.debugCommit 1) s = .next t ∧ t = s.setReg 0xA00201 v)

/-- A step runs the command at the front of the queue on the state with the rest of the queue -/
def Obligations.StepRunsFront : Prop :=
  ∀ (c : Instr) (s : State) (rest : List Instr),
    step { s with pending := c :: rest } = exec c { s with pending := rest }

/-- On an empty queue one ns passes. That an idle step is a tick is the model's DESIGN CHOICE (log 5); what one tick
does is R379 and R322. -/
def Obligations.EmptyQueueTicks : Prop :=
  ∀ s : State, s.pending = [] →
    ∃ t, step s = .next t ∧ t = { s with clocks := t.clocks } ∧ (s.boot.rigLost = true → t = s) ∧ (s.boot.rigLost = false →
    (s.clocks.halfRate = false → s.clocks.slew = 0 → t.clocks = { s.clocks with count := s.clocks.count + 1, halfPhase := false }) ∧
    (s.clocks.halfRate = true → s.clocks.halfPhase = false → t.clocks.count = s.clocks.count) ∧
    (s.clocks.halfRate = false → 0 < s.clocks.slew → s.clocks.nextSlew ≤ s.clocks.count →
      t.clocks.count = s.clocks.count + 2 ∧ t.clocks.slew = s.clocks.slew - 1 ∧ t.clocks.nextSlew = s.clocks.count + 5000) ∧
    (s.clocks.halfRate = false → s.clocks.slew < 0 → s.clocks.nextSlew ≤ s.clocks.count →
      t.clocks.count = s.clocks.count ∧ t.clocks.slew = s.clocks.slew + 1 ∧ t.clocks.nextSlew = s.clocks.count + 5000))

/-- No command stops the block (the table's commands all have an effect, of which "nothing" is one: log 4), and no
effect reaches the queue of waiting commands. -/
def Obligations.EveryStepAnswers : Prop :=
  ∀ s : State, ∃ t, step s = .next t ∧ t.pending = s.pending.tail

/-- The state after reset: what a cold start leaves by R440, R431 and R211, and defaults of the entry tables. That
reset stands at start-complete, and what the fuses hold, are the model's DESIGN CHOICEs (logs 1 and 3). -/
def Obligations.ResetHoldsDefaults : Prop :=
  State.reset.pending = [] ∧ State.reset.memory = {} ∧ memoryCanonical State.reset ∧
    (∀ x, (State.reset.ctx x).state = .closed) ∧ (∀ c, State.reset.cluster c = {}) ∧ (∀ p, (State.reset.port p).state = .down) ∧
    State.reset.control.epoch = 1 ∧ State.reset.coll.tack = none ∧ State.reset.fuses.lifeCopy0 = State.reset.fuses.lifeCopy1 ∧
    State.reset.reg 0x402203 = 2000 ∧ State.reset.reg 0x411101 = 1000000 ∧ State.reset.reg 0x411102 = 100 ∧
    State.reset.reg 0x430007 = 100 ∧ State.reset.reg 0x502001 = 86400 ∧ State.reset.reg 0x801001 = 25 ∧
    State.reset.reg 0x831001 = 10000 ∧ State.reset.reg 0x831002 = 5000

/-- Equal memories stay equal data: the canonical form of the list of cells is kept by every command and by the tick.
-/
def Obligations.MemoryStaysCanonical : Prop :=
  ∀ s t : State, memoryCanonical s → step s = .next t → memoryCanonical t

/-- R449, R450: the life-cycle state is held in fuses; a transition only blows bits, and a start only mends a copy. -/
def Obligations.FusesStayBlown : Prop :=
  ∀ s t : State, step s = .next t → fusesKept s t

/-- R379: the count never decreases while the rig runs. A cold start begins a new count (R441), and RST_N or a loss of
the rig ends the old one (R29, R501). -/
def Obligations.TimeNeverRunsBack : Prop :=
  ∀ s t : State, (∀ cause obs, s.pending.head? ≠ some (.coldStart cause obs)) → (∀ n, s.pending.head? ≠ some (.rstNLow n)) →
    step s = .next t → t.boot.rigLost = false → s.clocks.count ≤ t.clocks.count

/-- R459: a record is written before any leaf it covers is used, so no leaf is used twice. Here for every command,
starts, halts and losses of the rig among them, once the identity key of R452 exists. The bound on the sequence is
where its 32 bits end (R457). -/
def Obligations.LeavesAreNeverReused : Prop :=
  ∀ s t : State, s.boot.flash.identity ≠ [] → leavesReserved s →
    (∀ r, s.boot.flash.leafRecord = some r → r.seq + 1 < 4294967296) → step s = .next t →
    leavesReserved t ∧
    (∀ r u, s.boot.flash.leafRecord = some r → t.boot.flash.leafRecord = some u → r.ceiling ≤ u.ceiling) ∧
    (t.boot.halted = false → s.boot.leaf ≤ t.boot.leaf ∧
      (s.boot.halted = true → ∀ r, s.boot.flash.leafRecord = some r → r.ceiling ≤ t.boot.leaf)) ∧
    (s.pending.head? = some (.attestationRequest 1) → s.attestVerdict = 0 → t.boot.leaf = s.boot.leaf + 1)

/-- R149, R154, R155: HBM3 through its cache lines, scratch, cluster memory and guest mailboxes read back what was
stored, whatever lines a store or a load allocates or evicts. -/
def Obligations.StoreThenLoad : Prop :=
  ∀ (s : State) (off : Nat) (d : List Byte) (r q : Requester),
    memoryClean s → d ≠ [] → s.extentPopulated off d.length = true →
    ∃ t, s.storeRange off d r = (none, t) ∧ memoryClean t ∧ (t.loadRange off d.length q).1 = .ok d ∧
    ∀ a, a < off ∨ off + d.length ≤ a → t.memory.cells.read a = s.memory.cells.read a

/-- R282: all operations but the two floating sums store exactly what serial application would store. -/
def Obligations.CombinedAtomicsSerial : Prop :=
  ∀ (q : Req) (old d : List Byte) (rest : List (List Byte)),
    q.op ∈ [0x28, 0x29, 0x2A, 0x2B, 0x2D, 0x2E, 0x31] → (old.length = 8 ∨ old.length = 16) →
    (∀ x ∈ d :: rest, x.length = old.length) →
    atomicResult q.op q.signed q.skip old (rest.foldl (fun a b => combineOperand q.op q.signed a b) d) [] =
      (d :: rest).foldl (fun v x => atomicResult q.op q.signed q.skip v x []) old ∧
    ∀ i, i ≤ rest.length → (serialOlds q (d :: rest) old)[i]? =
      some (((d :: rest).take i).foldl (fun v x => atomicResult q.op q.signed q.skip v x []) old)

/-- R283: a STORE waiting in a line queue absorbs later STOREs to the same line. -/
def Obligations.StoresMergeInOrder : Prop :=
  (∀ (parts : List Req) (a q : Req), a.op = 0x21 → q.op = 0x21 → q.nocomb = false → (∀ p ∈ a :: parts, p.nocomb = false) →
    ({ parts := a :: parts } : QueueEntry).absorbs q = true) ∧
  (∀ (parts : List Req) (q : Req) (i : Nat), i < 128 → q.addr % 128 + q.data.length ≤ 128 →
    (mergedBytes (parts ++ [q])).getD i none =
      if q.addr % 128 ≤ i ∧ i < q.addr % 128 + q.data.length then some (q.data.getD (i - q.addr % 128) 0)
      else (mergedBytes parts).getD i none) ∧
  (∀ (s : State) (line : Nat) (a b : Req) (l : List Req), memoryClean s → a.op = 0x21 → s.targetExists a = true →
    s.extentPopulated (128 * line) 128 = true → (∀ p ∈ a :: b :: l, p.data ≠ [] ∧ p.addr / 128 = line ∧
      p.addr % 128 + p.data.length ≤ 128) →
    ∃ t, s.applyEntry line (a :: b :: l) = ((a :: b :: l).map fun _ => Answer.ack, t) ∧
    (∀ i, i < 128 → t.memory.cells.read (128 * line + i) =
      ((mergedBytes (a :: b :: l)).getD i none).getD (s.memory.cells.read (128 * line + i))) ∧
    ∀ n, n < 128 * line ∨ 128 * line + 128 ≤ n → t.memory.cells.read n = s.memory.cells.read n)

/-- R368: software sets zone limits through OD 0x3010.01 and applies them through OD 0x30FF.00. A refused commit
changes no limit. -/
def Obligations.ClockLimitsCommit : Prop :=
  (∀ (s : State) (limits : List Nat), limits.length = 32 → (∀ m ∈ limits, m < 65536) →
    (s.writeEntry 0x3010 1 (tableOf 2 (limits.flatMap (leBytes 2)))).1 = 0 ∧
    (s.writeEntry 0x3010 1 (tableOf 2 (limits.flatMap (leBytes 2)))).2.limitShadow = limits) ∧
  (∀ s : State, (∃ m ∈ s.limitShadow, m < 400 ∨ 1800 < m ∨ m % 25 ≠ 0) →
    exec (.clockCommit 1) s = .next (s.setReg 0x301003 2)) ∧
  (∀ s : State, (∀ m ∈ s.limitShadow, 400 ≤ m ∧ m ≤ 1800 ∧ m % 25 = 0) →
    ∃ t, exec (.clockCommit 1) s = .next t ∧ t.reg 0x301003 = 0 ∧
    (∀ z, z < 32 → s.limitShadow[z]? = some (t.region z).limit) ∧ (∀ z, 32 ≤ z → t.region z = s.region z))

/-- R485. What the control plane answers before it applies a request (a TID seen before, a stale one, service mode, 64
in progress: R413, R415, R446) stands in the hypotheses. -/
def Obligations.UndefinedEntriesAnswerTwo : Prop :=
  (∀ index sub : Nat, 0xF000 ≤ index → index < 0x10000 → sub < 256 → ∀ e ∈ odEntries, e.key ≠ odKey index sub) ∧
  (∀ (s : State) (index sub : Nat), (∀ e ∈ odEntries, e.key ≠ odKey index sub) →
    (∀ shadow, s.readEntry index sub shadow = (2, [], s)) ∧ (∀ offset length, s.readBlock index sub offset length = (2, [], s)) ∧
    ∀ value, s.writeEntry index sub value = (2, s)) ∧
  (∀ (s : State) (t : Transaction), (∀ e ∈ odEntries, e.key ≠ odKey t.index t.sub) → s.hears t = true →
    cachedResponse (s.arrive t).control.cache t.tid none = none → staleTid (s.arrive t).control.cache t.tid = false →
    (s.arrive t).inProgress t.tid = false → (s.arrive t).serves t.index = true → (s.arrive t).busy = false →
    exec (.odRead t) s = .next ((s.arrive t).countApplied.answer 1 t none 2 []) ∧
    exec (.blockRead t) s = .next ((s.arrive t).countApplied.answer 4 t none 2 []) ∧
    (t.value.length ≤ 4096 → exec (.odWrite t) s = .next ((s.arrive t).countApplied.answer 2 t none 2 [])))

/-- R487: the commit entry XXFF.00 of a block that holds no RL entry. -/
def Obligations.EmptyCommitsDoNothing : Prop :=
  (∃ e ∈ odEntries, e.key % 65536 = 0xFF00 ∧ ∀ d ∈ odEntries, d.key / 65536 = e.key / 65536 → d.acc ≠ 3) ∧
  ∀ e ∈ odEntries, e.key % 65536 = 0xFF00 → (∀ d ∈ odEntries, d.key / 65536 = e.key / 65536 → d.acc ≠ 3) →
    e.ty = 1 ∧ e.acc = 6 ∧ ∀ (s : State) (v : Byte),
      s.writeEntry (e.key / 256) 0 [v] = if v = 1 then (1, s) else (5, s)

/-- R79, R80, R82, R85, over the rational numbers. -/
def Obligations.ElementValues : Prop :=
  (∀ f ∈ floatFormats, ∀ S E M : Nat, S < 2 → E < 2 ^ f.expBits → M < 2 ^ f.manBits →
    (f.special = true → E ≠ 2 ^ f.expBits - 1) →
    (f.e4m3 = true → ¬(E = 2 ^ f.expBits - 1 ∧ M = 2 ^ f.manBits - 1)) →
    (f.decode (2 ^ (f.manBits + f.expBits) * S + 2 ^ f.manBits * E + M)).value =
      some ((-1 : ℚ) ^ S * if E = 0 then (2 : ℚ) ^ (1 - (f.bias : Int)) * ((M : ℚ) / 2 ^ f.manBits)
        else (2 : ℚ) ^ ((E : Int) - f.bias) * (1 + (M : ℚ) / 2 ^ f.manBits))) ∧
  (∀ set : List Byte, (∀ v : BitVec 4, (decodeElem 4 set v.toNat).value = some (v.toInt : ℚ)) ∧
    (∀ v : BitVec 8, (decodeElem 3 set v.toNat).value = some (v.toInt : ℚ)) ∧
    (∀ v : BitVec 32, (decodeElem 12 set v.toNat).value = some (v.toInt : ℚ)) ∧
    (∀ v : BitVec 8, (decodeElem 10 set v.toNat).value = some ((v.toInt : ℚ) / 64))) ∧
  (isScaled 3 = false ∧ isScaled 4 = false ∧ isScaled 12 = false) ∧
  (∀ (v : Sys2Proof.Num) (x : Nat), x ≤ 0xFE → (applyScale x v).value = v.value.map fun q => (2 : ℚ) ^ ((x : Int) - 127) * q) ∧
  (∀ v : Sys2Proof.Num, applyScale 0xFF v = .nan) ∧
  (∀ (set : List Byte) (i x : Nat) (b : Byte), set[i]? = some b → x ≤ 0xFE →
    if b = 0x7F ∨ b = 0xFF then applyScale x (decodeElem 11 set i) = .nan
    else ∃ T, (e4m3.decode b.toNat).value = some T ∧
      (applyScale x (decodeElem 11 set i)).value = some ((2 : ℚ) ^ ((x : Int) - 127) * T))

/-- R97: every narrowing conversion uses round-to-nearest-even, keeps subnormals, and saturates at the largest finite
value. -/
def Obligations.RoundingIsNearest : Prop :=
  ∀ f ∈ floatFormats, ∀ (n : Bool) (m : Nat) (e : Int), ∃ v x : ℚ,
    (Sys2Proof.Num.fin n m e).value = some v ∧ (f.decode (f.convert .nearestEven (.fin n m e)).bits).value = some x ∧
    ∀ (p : Nat) (y : ℚ), (f.decode p).value = some y →
      |v - x| ≤ |v - y| ∧ (|v - x| = |v - y| → x ≠ y → (f.convert .nearestEven (.fin n m e)).bits % 2 = 0)

/-- R93: the accumulator of an integer pair stays exact while every partial sum has a magnitude of at most 2^24. -/
def Obligations.IntegerSumsAreExact : Prop :=
  (∀ a : Int, a.natAbs ≤ 2 ^ 24 → (fp32.decode (fp32.round .nearestEven (Sys2Proof.Num.ofInt a))).value = some (a : ℚ)) ∧
  ∀ a b : Int, a.natAbs ≤ 2 ^ 24 → b.natAbs ≤ 2 ^ 24 → (a + b).natAbs ≤ 2 ^ 24 →
    fp32Add (BitVec.ofNat 32 (fp32.round .nearestEven (Sys2Proof.Num.ofInt a))) (BitVec.ofNat 32 (fp32.round .nearestEven (Sys2Proof.Num.ofInt b))) =
      BitVec.ofNat 32 (fp32.round .nearestEven (Sys2Proof.Num.ofInt (a + b)))

/-- R170. Guest mailboxes hold no codewords (R171). -/
def Obligations.MarkedCodewordsFault : Prop :=
  (∀ (s : State) (w : Nat) (p : ErrorPattern), (s.markStored w p).memory.cells = s.memory.cells ∧
    (s.markStored w p).storedPattern w = markOf p) ∧
  (∀ (p : ErrorPattern) (j : Nat), j < 64 → patternAt (markOf p) j = patternAt p j) ∧
  (∀ (p : ErrorPattern) (m : Nat), m < 8 →
    patternAt (markOf p) (64 + m) = (checkBytes ((List.range 64).map (patternAt p))).getD m 0 ^^^ 0xFF) ∧
  (∀ j, j < 72 → patternAt (markOf []) j = if j < 64 then 0 else 0xFF) ∧ decodePattern (markOf []) = .marked ∧
  ∀ (s : State) (off n : Nat) (r : Requester), 0 < n → (off + n - 1) / 64 = off / 64 → s.extentPopulated off n = true →
    decodePattern (s.patternOf (off / 64)) = .marked →
    (∀ t o, placeOf off = .hbm t o → (s.residentLine t (lineOf o)).isSome = true ∨ s.stackServes t (off / 64) = true) →
    (∀ g a, placeOf off ≠ .mailbox g a) → s.raised 0x1201 < 2 ^ 64 - 1 →
    ∃ t, s.loadRange off n r = (.error 0x0305, t) ∧ t.memory = s.memory ∧ t.raised 0x1201 = s.raised 0x1201 + 1

/-- R458. In MANUFACTURE and PROVISIONED, and outside the flash window, R453 refuses with another status. -/
def Obligations.LeavesAtStart : Prop :=
  (∀ (s : State) (cause : ColdCause) (obs : StartObs), s.coldDueFor cause = true → (s.clocks.good0 = true ∨ s.clocks.good1 = true) →
    ∃ t, exec (.coldStart cause obs) s = .next t ∧
    (∀ r, t.boot.flash.leafRecord = some r → t.boot.leaf = r.ceiling) ∧
    (t.boot.flash.leafRecord = none → t.boot.leavesUnusable = true ∧ 0 < t.raised 0x1B04)) ∧
  (∀ (s : State) (due : Nat) (obs : StartObs), s.boot.startDue = some (false, due) → due ≤ s.now → s.boot.halted = false →
    ∃ t, exec (.warmStart obs) s = .next t ∧
    (∀ r, t.boot.flash.leafRecord = some r → t.boot.leaf = r.ceiling) ∧
    (t.boot.flash.leafRecord = none → t.boot.leavesUnusable = true ∧ 0 < t.raised 0x1B04)) ∧
  (∀ s : State, s.boot.leavesUnusable = true → s.flashWindow = true → s.lifeCycle = 2 →
    exec (.attestationRequest 1) s = .next (s.setReg 0x903003 4)) ∧
  (∀ s : State, s.flashWindow = true → s.lifeCycle = 3 → s.boot.leaf < 2 ^ 40 → s.boot.nonce ≠ none →
    ∃ t, exec (.attestationRequest 1) s = .next t ∧ t.reg 0x903003 = 0)
end

