-- ==== Sys2Proof/Laws/State.lean ====
section
/-! SUPPORT. Every field of State under each shared update: the update changes one field and leaves the others. -/

namespace Sys2Proof.Machine

variable (s : State)

/-! ### State.setReg -/

@[simp] theorem State.setReg_pending (k v : Nat) : (s.setReg k v).pending = s.pending := rfl
@[simp] theorem State.setReg_fuses (k v : Nat) : (s.setReg k v).fuses = s.fuses := rfl
@[simp] theorem State.setReg_shadows (k v : Nat) : (s.setReg k v).shadows = s.shadows := rfl
@[simp] theorem State.setReg_blobs (k v : Nat) : (s.setReg k v).blobs = s.blobs := rfl
@[simp] theorem State.setReg_blobShadows (k v : Nat) : (s.setReg k v).blobShadows = s.blobShadows := rfl
@[simp] theorem State.setReg_hubNeeds (k v : Nat) : (s.setReg k v).hubNeeds = s.hubNeeds := rfl
@[simp] theorem State.setReg_commits (k v : Nat) : (s.setReg k v).commits = s.commits := rfl
@[simp] theorem State.setReg_seeds (k v : Nat) : (s.setReg k v).seeds = s.seeds := rfl
@[simp] theorem State.setReg_load (k v : Nat) : (s.setReg k v).load = s.load := rfl
@[simp] theorem State.setReg_clusters (k v : Nat) : (s.setReg k v).clusters = s.clusters := rfl
@[simp] theorem State.setReg_ctxs (k v : Nat) : (s.setReg k v).ctxs = s.ctxs := rfl
@[simp] theorem State.setReg_memory (k v : Nat) : (s.setReg k v).memory = s.memory := rfl
@[simp] theorem State.setReg_rig (k v : Nat) : (s.setReg k v).rig = s.rig := rfl
@[simp] theorem State.setReg_coll (k v : Nat) : (s.setReg k v).coll = s.coll := rfl
@[simp] theorem State.setReg_photonics (k v : Nat) : (s.setReg k v).photonics = s.photonics := rfl
@[simp] theorem State.setReg_domain (k v : Nat) : (s.setReg k v).domain = s.domain := rfl
@[simp] theorem State.setReg_messages (k v : Nat) : (s.setReg k v).messages = s.messages := rfl
@[simp] theorem State.setReg_package (k v : Nat) : (s.setReg k v).package = s.package := rfl
@[simp] theorem State.setReg_clocks (k v : Nat) : (s.setReg k v).clocks = s.clocks := rfl
@[simp] theorem State.setReg_thermal (k v : Nat) : (s.setReg k v).thermal = s.thermal := rfl
@[simp] theorem State.setReg_control (k v : Nat) : (s.setReg k v).control = s.control := rfl
@[simp] theorem State.setReg_boot (k v : Nat) : (s.setReg k v).boot = s.boot := rfl
@[simp] theorem State.setReg_dbg (k v : Nat) : (s.setReg k v).dbg = s.dbg := rfl
@[simp] theorem State.setReg_freeCount (k v : Nat) : (s.setReg k v).freeCount = s.freeCount := rfl

/-! ### State.countReg -/

@[simp] theorem State.countReg_pending (k w n : Nat) : (s.countReg k w n).pending = s.pending := rfl
@[simp] theorem State.countReg_fuses (k w n : Nat) : (s.countReg k w n).fuses = s.fuses := rfl
@[simp] theorem State.countReg_shadows (k w n : Nat) : (s.countReg k w n).shadows = s.shadows := rfl
@[simp] theorem State.countReg_blobs (k w n : Nat) : (s.countReg k w n).blobs = s.blobs := rfl
@[simp] theorem State.countReg_blobShadows (k w n : Nat) : (s.countReg k w n).blobShadows = s.blobShadows := rfl
@[simp] theorem State.countReg_hubNeeds (k w n : Nat) : (s.countReg k w n).hubNeeds = s.hubNeeds := rfl
@[simp] theorem State.countReg_commits (k w n : Nat) : (s.countReg k w n).commits = s.commits := rfl
@[simp] theorem State.countReg_seeds (k w n : Nat) : (s.countReg k w n).seeds = s.seeds := rfl
@[simp] theorem State.countReg_load (k w n : Nat) : (s.countReg k w n).load = s.load := rfl
@[simp] theorem State.countReg_clusters (k w n : Nat) : (s.countReg k w n).clusters = s.clusters := rfl
@[simp] theorem State.countReg_ctxs (k w n : Nat) : (s.countReg k w n).ctxs = s.ctxs := rfl
@[simp] theorem State.countReg_memory (k w n : Nat) : (s.countReg k w n).memory = s.memory := rfl
@[simp] theorem State.countReg_rig (k w n : Nat) : (s.countReg k w n).rig = s.rig := rfl
@[simp] theorem State.countReg_coll (k w n : Nat) : (s.countReg k w n).coll = s.coll := rfl
@[simp] theorem State.countReg_photonics (k w n : Nat) : (s.countReg k w n).photonics = s.photonics := rfl
@[simp] theorem State.countReg_domain (k w n : Nat) : (s.countReg k w n).domain = s.domain := rfl
@[simp] theorem State.countReg_messages (k w n : Nat) : (s.countReg k w n).messages = s.messages := rfl
@[simp] theorem State.countReg_package (k w n : Nat) : (s.countReg k w n).package = s.package := rfl
@[simp] theorem State.countReg_clocks (k w n : Nat) : (s.countReg k w n).clocks = s.clocks := rfl
@[simp] theorem State.countReg_thermal (k w n : Nat) : (s.countReg k w n).thermal = s.thermal := rfl
@[simp] theorem State.countReg_control (k w n : Nat) : (s.countReg k w n).control = s.control := rfl
@[simp] theorem State.countReg_boot (k w n : Nat) : (s.countReg k w n).boot = s.boot := rfl
@[simp] theorem State.countReg_dbg (k w n : Nat) : (s.countReg k w n).dbg = s.dbg := rfl
@[simp] theorem State.countReg_freeCount (k w n : Nat) : (s.countReg k w n).freeCount = s.freeCount := rfl

/-! ### State.setShadow -/

@[simp] theorem State.setShadow_pending (k v : Nat) : (s.setShadow k v).pending = s.pending := rfl
@[simp] theorem State.setShadow_fuses (k v : Nat) : (s.setShadow k v).fuses = s.fuses := rfl
@[simp] theorem State.setShadow_regs (k v : Nat) : (s.setShadow k v).regs = s.regs := rfl
@[simp] theorem State.setShadow_blobs (k v : Nat) : (s.setShadow k v).blobs = s.blobs := rfl
@[simp] theorem State.setShadow_blobShadows (k v : Nat) : (s.setShadow k v).blobShadows = s.blobShadows := rfl
@[simp] theorem State.setShadow_hubNeeds (k v : Nat) : (s.setShadow k v).hubNeeds = s.hubNeeds := rfl
@[simp] theorem State.setShadow_commits (k v : Nat) : (s.setShadow k v).commits = s.commits := rfl
@[simp] theorem State.setShadow_seeds (k v : Nat) : (s.setShadow k v).seeds = s.seeds := rfl
@[simp] theorem State.setShadow_load (k v : Nat) : (s.setShadow k v).load = s.load := rfl
@[simp] theorem State.setShadow_clusters (k v : Nat) : (s.setShadow k v).clusters = s.clusters := rfl
@[simp] theorem State.setShadow_ctxs (k v : Nat) : (s.setShadow k v).ctxs = s.ctxs := rfl
@[simp] theorem State.setShadow_memory (k v : Nat) : (s.setShadow k v).memory = s.memory := rfl
@[simp] theorem State.setShadow_rig (k v : Nat) : (s.setShadow k v).rig = s.rig := rfl
@[simp] theorem State.setShadow_coll (k v : Nat) : (s.setShadow k v).coll = s.coll := rfl
@[simp] theorem State.setShadow_photonics (k v : Nat) : (s.setShadow k v).photonics = s.photonics := rfl
@[simp] theorem State.setShadow_domain (k v : Nat) : (s.setShadow k v).domain = s.domain := rfl
@[simp] theorem State.setShadow_messages (k v : Nat) : (s.setShadow k v).messages = s.messages := rfl
@[simp] theorem State.setShadow_package (k v : Nat) : (s.setShadow k v).package = s.package := rfl
@[simp] theorem State.setShadow_clocks (k v : Nat) : (s.setShadow k v).clocks = s.clocks := rfl
@[simp] theorem State.setShadow_thermal (k v : Nat) : (s.setShadow k v).thermal = s.thermal := rfl
@[simp] theorem State.setShadow_control (k v : Nat) : (s.setShadow k v).control = s.control := rfl
@[simp] theorem State.setShadow_boot (k v : Nat) : (s.setShadow k v).boot = s.boot := rfl
@[simp] theorem State.setShadow_dbg (k v : Nat) : (s.setShadow k v).dbg = s.dbg := rfl
@[simp] theorem State.setShadow_freeCount (k v : Nat) : (s.setShadow k v).freeCount = s.freeCount := rfl

/-! ### State.setBlob -/

@[simp] theorem State.setBlob_pending (k : Nat) (v : List Byte) : (s.setBlob k v).pending = s.pending := rfl
@[simp] theorem State.setBlob_fuses (k : Nat) (v : List Byte) : (s.setBlob k v).fuses = s.fuses := rfl
@[simp] theorem State.setBlob_regs (k : Nat) (v : List Byte) : (s.setBlob k v).regs = s.regs := rfl
@[simp] theorem State.setBlob_shadows (k : Nat) (v : List Byte) : (s.setBlob k v).shadows = s.shadows := rfl
@[simp] theorem State.setBlob_blobShadows (k : Nat) (v : List Byte) : (s.setBlob k v).blobShadows = s.blobShadows := rfl
@[simp] theorem State.setBlob_hubNeeds (k : Nat) (v : List Byte) : (s.setBlob k v).hubNeeds = s.hubNeeds := rfl
@[simp] theorem State.setBlob_commits (k : Nat) (v : List Byte) : (s.setBlob k v).commits = s.commits := rfl
@[simp] theorem State.setBlob_seeds (k : Nat) (v : List Byte) : (s.setBlob k v).seeds = s.seeds := rfl
@[simp] theorem State.setBlob_load (k : Nat) (v : List Byte) : (s.setBlob k v).load = s.load := rfl
@[simp] theorem State.setBlob_clusters (k : Nat) (v : List Byte) : (s.setBlob k v).clusters = s.clusters := rfl
@[simp] theorem State.setBlob_ctxs (k : Nat) (v : List Byte) : (s.setBlob k v).ctxs = s.ctxs := rfl
@[simp] theorem State.setBlob_memory (k : Nat) (v : List Byte) : (s.setBlob k v).memory = s.memory := rfl
@[simp] theorem State.setBlob_rig (k : Nat) (v : List Byte) : (s.setBlob k v).rig = s.rig := rfl
@[simp] theorem State.setBlob_coll (k : Nat) (v : List Byte) : (s.setBlob k v).coll = s.coll := rfl
@[simp] theorem State.setBlob_photonics (k : Nat) (v : List Byte) : (s.setBlob k v).photonics = s.photonics := rfl
@[simp] theorem State.setBlob_domain (k : Nat) (v : List Byte) : (s.setBlob k v).domain = s.domain := rfl
@[simp] theorem State.setBlob_messages (k : Nat) (v : List Byte) : (s.setBlob k v).messages = s.messages := rfl
@[simp] theorem State.setBlob_package (k : Nat) (v : List Byte) : (s.setBlob k v).package = s.package := rfl
@[simp] theorem State.setBlob_clocks (k : Nat) (v : List Byte) : (s.setBlob k v).clocks = s.clocks := rfl
@[simp] theorem State.setBlob_thermal (k : Nat) (v : List Byte) : (s.setBlob k v).thermal = s.thermal := rfl
@[simp] theorem State.setBlob_control (k : Nat) (v : List Byte) : (s.setBlob k v).control = s.control := rfl
@[simp] theorem State.setBlob_boot (k : Nat) (v : List Byte) : (s.setBlob k v).boot = s.boot := rfl
@[simp] theorem State.setBlob_dbg (k : Nat) (v : List Byte) : (s.setBlob k v).dbg = s.dbg := rfl
@[simp] theorem State.setBlob_freeCount (k : Nat) (v : List Byte) : (s.setBlob k v).freeCount = s.freeCount := rfl

/-! ### State.setBlobShadow -/

@[simp] theorem State.setBlobShadow_pending (k : Nat) (v : List Byte) : (s.setBlobShadow k v).pending = s.pending := rfl
@[simp] theorem State.setBlobShadow_fuses (k : Nat) (v : List Byte) : (s.setBlobShadow k v).fuses = s.fuses := rfl
@[simp] theorem State.setBlobShadow_regs (k : Nat) (v : List Byte) : (s.setBlobShadow k v).regs = s.regs := rfl
@[simp] theorem State.setBlobShadow_shadows (k : Nat) (v : List Byte) : (s.setBlobShadow k v).shadows = s.shadows := rfl
@[simp] theorem State.setBlobShadow_blobs (k : Nat) (v : List Byte) : (s.setBlobShadow k v).blobs = s.blobs := rfl
@[simp] theorem State.setBlobShadow_hubNeeds (k : Nat) (v : List Byte) : (s.setBlobShadow k v).hubNeeds = s.hubNeeds := rfl
@[simp] theorem State.setBlobShadow_commits (k : Nat) (v : List Byte) : (s.setBlobShadow k v).commits = s.commits := rfl
@[simp] theorem State.setBlobShadow_seeds (k : Nat) (v : List Byte) : (s.setBlobShadow k v).seeds = s.seeds := rfl
@[simp] theorem State.setBlobShadow_load (k : Nat) (v : List Byte) : (s.setBlobShadow k v).load = s.load := rfl
@[simp] theorem State.setBlobShadow_clusters (k : Nat) (v : List Byte) : (s.setBlobShadow k v).clusters = s.clusters := rfl
@[simp] theorem State.setBlobShadow_ctxs (k : Nat) (v : List Byte) : (s.setBlobShadow k v).ctxs = s.ctxs := rfl
@[simp] theorem State.setBlobShadow_memory (k : Nat) (v : List Byte) : (s.setBlobShadow k v).memory = s.memory := rfl
@[simp] theorem State.setBlobShadow_rig (k : Nat) (v : List Byte) : (s.setBlobShadow k v).rig = s.rig := rfl
@[simp] theorem State.setBlobShadow_coll (k : Nat) (v : List Byte) : (s.setBlobShadow k v).coll = s.coll := rfl
@[simp] theorem State.setBlobShadow_photonics (k : Nat) (v : List Byte) : (s.setBlobShadow k v).photonics = s.photonics := rfl
@[simp] theorem State.setBlobShadow_domain (k : Nat) (v : List Byte) : (s.setBlobShadow k v).domain = s.domain := rfl
@[simp] theorem State.setBlobShadow_messages (k : Nat) (v : List Byte) : (s.setBlobShadow k v).messages = s.messages := rfl
@[simp] theorem State.setBlobShadow_package (k : Nat) (v : List Byte) : (s.setBlobShadow k v).package = s.package := rfl
@[simp] theorem State.setBlobShadow_clocks (k : Nat) (v : List Byte) : (s.setBlobShadow k v).clocks = s.clocks := rfl
@[simp] theorem State.setBlobShadow_thermal (k : Nat) (v : List Byte) : (s.setBlobShadow k v).thermal = s.thermal := rfl
@[simp] theorem State.setBlobShadow_control (k : Nat) (v : List Byte) : (s.setBlobShadow k v).control = s.control := rfl
@[simp] theorem State.setBlobShadow_boot (k : Nat) (v : List Byte) : (s.setBlobShadow k v).boot = s.boot := rfl
@[simp] theorem State.setBlobShadow_dbg (k : Nat) (v : List Byte) : (s.setBlobShadow k v).dbg = s.dbg := rfl
@[simp] theorem State.setBlobShadow_freeCount (k : Nat) (v : List Byte) : (s.setBlobShadow k v).freeCount = s.freeCount := rfl

/-! ### State.setCommitPending -/

@[simp] theorem State.setCommitPending_pending (b : Nat) (p : Bool) : (s.setCommitPending b p).pending = s.pending := rfl
@[simp] theorem State.setCommitPending_fuses (b : Nat) (p : Bool) : (s.setCommitPending b p).fuses = s.fuses := rfl
@[simp] theorem State.setCommitPending_regs (b : Nat) (p : Bool) : (s.setCommitPending b p).regs = s.regs := rfl
@[simp] theorem State.setCommitPending_shadows (b : Nat) (p : Bool) : (s.setCommitPending b p).shadows = s.shadows := rfl
@[simp] theorem State.setCommitPending_blobs (b : Nat) (p : Bool) : (s.setCommitPending b p).blobs = s.blobs := rfl
@[simp] theorem State.setCommitPending_blobShadows (b : Nat) (p : Bool) : (s.setCommitPending b p).blobShadows = s.blobShadows := rfl
@[simp] theorem State.setCommitPending_hubNeeds (b : Nat) (p : Bool) : (s.setCommitPending b p).hubNeeds = s.hubNeeds := rfl
@[simp] theorem State.setCommitPending_seeds (b : Nat) (p : Bool) : (s.setCommitPending b p).seeds = s.seeds := rfl
@[simp] theorem State.setCommitPending_load (b : Nat) (p : Bool) : (s.setCommitPending b p).load = s.load := rfl
@[simp] theorem State.setCommitPending_clusters (b : Nat) (p : Bool) : (s.setCommitPending b p).clusters = s.clusters := rfl
@[simp] theorem State.setCommitPending_ctxs (b : Nat) (p : Bool) : (s.setCommitPending b p).ctxs = s.ctxs := rfl
@[simp] theorem State.setCommitPending_memory (b : Nat) (p : Bool) : (s.setCommitPending b p).memory = s.memory := rfl
@[simp] theorem State.setCommitPending_rig (b : Nat) (p : Bool) : (s.setCommitPending b p).rig = s.rig := rfl
@[simp] theorem State.setCommitPending_coll (b : Nat) (p : Bool) : (s.setCommitPending b p).coll = s.coll := rfl
@[simp] theorem State.setCommitPending_photonics (b : Nat) (p : Bool) : (s.setCommitPending b p).photonics = s.photonics := rfl
@[simp] theorem State.setCommitPending_domain (b : Nat) (p : Bool) : (s.setCommitPending b p).domain = s.domain := rfl
@[simp] theorem State.setCommitPending_messages (b : Nat) (p : Bool) : (s.setCommitPending b p).messages = s.messages := rfl
@[simp] theorem State.setCommitPending_package (b : Nat) (p : Bool) : (s.setCommitPending b p).package = s.package := rfl
@[simp] theorem State.setCommitPending_clocks (b : Nat) (p : Bool) : (s.setCommitPending b p).clocks = s.clocks := rfl
@[simp] theorem State.setCommitPending_thermal (b : Nat) (p : Bool) : (s.setCommitPending b p).thermal = s.thermal := rfl
@[simp] theorem State.setCommitPending_control (b : Nat) (p : Bool) : (s.setCommitPending b p).control = s.control := rfl
@[simp] theorem State.setCommitPending_boot (b : Nat) (p : Bool) : (s.setCommitPending b p).boot = s.boot := rfl
@[simp] theorem State.setCommitPending_dbg (b : Nat) (p : Bool) : (s.setCommitPending b p).dbg = s.dbg := rfl
@[simp] theorem State.setCommitPending_freeCount (b : Nat) (p : Bool) : (s.setCommitPending b p).freeCount = s.freeCount := rfl

/-! ### State.modCluster -/

@[simp] theorem State.modCluster_pending (c : Nat) (f : Cluster → Cluster) : (s.modCluster c f).pending = s.pending := rfl
@[simp] theorem State.modCluster_fuses (c : Nat) (f : Cluster → Cluster) : (s.modCluster c f).fuses = s.fuses := rfl
@[simp] theorem State.modCluster_regs (c : Nat) (f : Cluster → Cluster) : (s.modCluster c f).regs = s.regs := rfl
@[simp] theorem State.modCluster_shadows (c : Nat) (f : Cluster → Cluster) : (s.modCluster c f).shadows = s.shadows := rfl
@[simp] theorem State.modCluster_blobs (c : Nat) (f : Cluster → Cluster) : (s.modCluster c f).blobs = s.blobs := rfl
@[simp] theorem State.modCluster_blobShadows (c : Nat) (f : Cluster → Cluster) : (s.modCluster c f).blobShadows = s.blobShadows := rfl
@[simp] theorem State.modCluster_hubNeeds (c : Nat) (f : Cluster → Cluster) : (s.modCluster c f).hubNeeds = s.hubNeeds := rfl
@[simp] theorem State.modCluster_commits (c : Nat) (f : Cluster → Cluster) : (s.modCluster c f).commits = s.commits := rfl
@[simp] theorem State.modCluster_seeds (c : Nat) (f : Cluster → Cluster) : (s.modCluster c f).seeds = s.seeds := rfl
@[simp] theorem State.modCluster_load (c : Nat) (f : Cluster → Cluster) : (s.modCluster c f).load = s.load := rfl
@[simp] theorem State.modCluster_ctxs (c : Nat) (f : Cluster → Cluster) : (s.modCluster c f).ctxs = s.ctxs := rfl
@[simp] theorem State.modCluster_memory (c : Nat) (f : Cluster → Cluster) : (s.modCluster c f).memory = s.memory := rfl
@[simp] theorem State.modCluster_rig (c : Nat) (f : Cluster → Cluster) : (s.modCluster c f).rig = s.rig := rfl
@[simp] theorem State.modCluster_coll (c : Nat) (f : Cluster → Cluster) : (s.modCluster c f).coll = s.coll := rfl
@[simp] theorem State.modCluster_photonics (c : Nat) (f : Cluster → Cluster) : (s.modCluster c f).photonics = s.photonics := rfl
@[simp] theorem State.modCluster_domain (c : Nat) (f : Cluster → Cluster) : (s.modCluster c f).domain = s.domain := rfl
@[simp] theorem State.modCluster_messages (c : Nat) (f : Cluster → Cluster) : (s.modCluster c f).messages = s.messages := rfl
@[simp] theorem State.modCluster_package (c : Nat) (f : Cluster → Cluster) : (s.modCluster c f).package = s.package := rfl
@[simp] theorem State.modCluster_clocks (c : Nat) (f : Cluster → Cluster) : (s.modCluster c f).clocks = s.clocks := rfl
@[simp] theorem State.modCluster_thermal (c : Nat) (f : Cluster → Cluster) : (s.modCluster c f).thermal = s.thermal := rfl
@[simp] theorem State.modCluster_control (c : Nat) (f : Cluster → Cluster) : (s.modCluster c f).control = s.control := rfl
@[simp] theorem State.modCluster_boot (c : Nat) (f : Cluster → Cluster) : (s.modCluster c f).boot = s.boot := rfl
@[simp] theorem State.modCluster_dbg (c : Nat) (f : Cluster → Cluster) : (s.modCluster c f).dbg = s.dbg := rfl
@[simp] theorem State.modCluster_freeCount (c : Nat) (f : Cluster → Cluster) : (s.modCluster c f).freeCount = s.freeCount := rfl

/-! ### State.modCore -/

@[simp] theorem State.modCore_pending (c : Nat) (f : Core → Core) : (s.modCore c f).pending = s.pending := rfl
@[simp] theorem State.modCore_fuses (c : Nat) (f : Core → Core) : (s.modCore c f).fuses = s.fuses := rfl
@[simp] theorem State.modCore_regs (c : Nat) (f : Core → Core) : (s.modCore c f).regs = s.regs := rfl
@[simp] theorem State.modCore_shadows (c : Nat) (f : Core → Core) : (s.modCore c f).shadows = s.shadows := rfl
@[simp] theorem State.modCore_blobs (c : Nat) (f : Core → Core) : (s.modCore c f).blobs = s.blobs := rfl
@[simp] theorem State.modCore_blobShadows (c : Nat) (f : Core → Core) : (s.modCore c f).blobShadows = s.blobShadows := rfl
@[simp] theorem State.modCore_hubNeeds (c : Nat) (f : Core → Core) : (s.modCore c f).hubNeeds = s.hubNeeds := rfl
@[simp] theorem State.modCore_commits (c : Nat) (f : Core → Core) : (s.modCore c f).commits = s.commits := rfl
@[simp] theorem State.modCore_seeds (c : Nat) (f : Core → Core) : (s.modCore c f).seeds = s.seeds := rfl
@[simp] theorem State.modCore_load (c : Nat) (f : Core → Core) : (s.modCore c f).load = s.load := rfl
@[simp] theorem State.modCore_ctxs (c : Nat) (f : Core → Core) : (s.modCore c f).ctxs = s.ctxs := rfl
@[simp] theorem State.modCore_memory (c : Nat) (f : Core → Core) : (s.modCore c f).memory = s.memory := rfl
@[simp] theorem State.modCore_rig (c : Nat) (f : Core → Core) : (s.modCore c f).rig = s.rig := rfl
@[simp] theorem State.modCore_coll (c : Nat) (f : Core → Core) : (s.modCore c f).coll = s.coll := rfl
@[simp] theorem State.modCore_photonics (c : Nat) (f : Core → Core) : (s.modCore c f).photonics = s.photonics := rfl
@[simp] theorem State.modCore_domain (c : Nat) (f : Core → Core) : (s.modCore c f).domain = s.domain := rfl
@[simp] theorem State.modCore_messages (c : Nat) (f : Core → Core) : (s.modCore c f).messages = s.messages := rfl
@[simp] theorem State.modCore_package (c : Nat) (f : Core → Core) : (s.modCore c f).package = s.package := rfl
@[simp] theorem State.modCore_clocks (c : Nat) (f : Core → Core) : (s.modCore c f).clocks = s.clocks := rfl
@[simp] theorem State.modCore_thermal (c : Nat) (f : Core → Core) : (s.modCore c f).thermal = s.thermal := rfl
@[simp] theorem State.modCore_control (c : Nat) (f : Core → Core) : (s.modCore c f).control = s.control := rfl
@[simp] theorem State.modCore_boot (c : Nat) (f : Core → Core) : (s.modCore c f).boot = s.boot := rfl
@[simp] theorem State.modCore_dbg (c : Nat) (f : Core → Core) : (s.modCore c f).dbg = s.dbg := rfl
@[simp] theorem State.modCore_freeCount (c : Nat) (f : Core → Core) : (s.modCore c f).freeCount = s.freeCount := rfl

/-! ### State.modCtx -/

@[simp] theorem State.modCtx_pending (x : Nat) (f : Ctx → Ctx) : (s.modCtx x f).pending = s.pending := rfl
@[simp] theorem State.modCtx_fuses (x : Nat) (f : Ctx → Ctx) : (s.modCtx x f).fuses = s.fuses := rfl
@[simp] theorem State.modCtx_regs (x : Nat) (f : Ctx → Ctx) : (s.modCtx x f).regs = s.regs := rfl
@[simp] theorem State.modCtx_shadows (x : Nat) (f : Ctx → Ctx) : (s.modCtx x f).shadows = s.shadows := rfl
@[simp] theorem State.modCtx_blobs (x : Nat) (f : Ctx → Ctx) : (s.modCtx x f).blobs = s.blobs := rfl
@[simp] theorem State.modCtx_blobShadows (x : Nat) (f : Ctx → Ctx) : (s.modCtx x f).blobShadows = s.blobShadows := rfl
@[simp] theorem State.modCtx_hubNeeds (x : Nat) (f : Ctx → Ctx) : (s.modCtx x f).hubNeeds = s.hubNeeds := rfl
@[simp] theorem State.modCtx_commits (x : Nat) (f : Ctx → Ctx) : (s.modCtx x f).commits = s.commits := rfl
@[simp] theorem State.modCtx_seeds (x : Nat) (f : Ctx → Ctx) : (s.modCtx x f).seeds = s.seeds := rfl
@[simp] theorem State.modCtx_load (x : Nat) (f : Ctx → Ctx) : (s.modCtx x f).load = s.load := rfl
@[simp] theorem State.modCtx_clusters (x : Nat) (f : Ctx → Ctx) : (s.modCtx x f).clusters = s.clusters := rfl
@[simp] theorem State.modCtx_memory (x : Nat) (f : Ctx → Ctx) : (s.modCtx x f).memory = s.memory := rfl
@[simp] theorem State.modCtx_rig (x : Nat) (f : Ctx → Ctx) : (s.modCtx x f).rig = s.rig := rfl
@[simp] theorem State.modCtx_coll (x : Nat) (f : Ctx → Ctx) : (s.modCtx x f).coll = s.coll := rfl
@[simp] theorem State.modCtx_photonics (x : Nat) (f : Ctx → Ctx) : (s.modCtx x f).photonics = s.photonics := rfl
@[simp] theorem State.modCtx_domain (x : Nat) (f : Ctx → Ctx) : (s.modCtx x f).domain = s.domain := rfl
@[simp] theorem State.modCtx_messages (x : Nat) (f : Ctx → Ctx) : (s.modCtx x f).messages = s.messages := rfl
@[simp] theorem State.modCtx_package (x : Nat) (f : Ctx → Ctx) : (s.modCtx x f).package = s.package := rfl
@[simp] theorem State.modCtx_clocks (x : Nat) (f : Ctx → Ctx) : (s.modCtx x f).clocks = s.clocks := rfl
@[simp] theorem State.modCtx_thermal (x : Nat) (f : Ctx → Ctx) : (s.modCtx x f).thermal = s.thermal := rfl
@[simp] theorem State.modCtx_control (x : Nat) (f : Ctx → Ctx) : (s.modCtx x f).control = s.control := rfl
@[simp] theorem State.modCtx_boot (x : Nat) (f : Ctx → Ctx) : (s.modCtx x f).boot = s.boot := rfl
@[simp] theorem State.modCtx_dbg (x : Nat) (f : Ctx → Ctx) : (s.modCtx x f).dbg = s.dbg := rfl
@[simp] theorem State.modCtx_freeCount (x : Nat) (f : Ctx → Ctx) : (s.modCtx x f).freeCount = s.freeCount := rfl

/-! ### State.setStatus -/

@[simp] theorem State.setStatus_pending (x v : Nat) : (s.setStatus x v).pending = s.pending := rfl
@[simp] theorem State.setStatus_fuses (x v : Nat) : (s.setStatus x v).fuses = s.fuses := rfl
@[simp] theorem State.setStatus_regs (x v : Nat) : (s.setStatus x v).regs = s.regs := rfl
@[simp] theorem State.setStatus_shadows (x v : Nat) : (s.setStatus x v).shadows = s.shadows := rfl
@[simp] theorem State.setStatus_blobs (x v : Nat) : (s.setStatus x v).blobs = s.blobs := rfl
@[simp] theorem State.setStatus_blobShadows (x v : Nat) : (s.setStatus x v).blobShadows = s.blobShadows := rfl
@[simp] theorem State.setStatus_hubNeeds (x v : Nat) : (s.setStatus x v).hubNeeds = s.hubNeeds := rfl
@[simp] theorem State.setStatus_commits (x v : Nat) : (s.setStatus x v).commits = s.commits := rfl
@[simp] theorem State.setStatus_seeds (x v : Nat) : (s.setStatus x v).seeds = s.seeds := rfl
@[simp] theorem State.setStatus_load (x v : Nat) : (s.setStatus x v).load = s.load := rfl
@[simp] theorem State.setStatus_clusters (x v : Nat) : (s.setStatus x v).clusters = s.clusters := rfl
@[simp] theorem State.setStatus_memory (x v : Nat) : (s.setStatus x v).memory = s.memory := rfl
@[simp] theorem State.setStatus_rig (x v : Nat) : (s.setStatus x v).rig = s.rig := rfl
@[simp] theorem State.setStatus_coll (x v : Nat) : (s.setStatus x v).coll = s.coll := rfl
@[simp] theorem State.setStatus_photonics (x v : Nat) : (s.setStatus x v).photonics = s.photonics := rfl
@[simp] theorem State.setStatus_domain (x v : Nat) : (s.setStatus x v).domain = s.domain := rfl
@[simp] theorem State.setStatus_messages (x v : Nat) : (s.setStatus x v).messages = s.messages := rfl
@[simp] theorem State.setStatus_package (x v : Nat) : (s.setStatus x v).package = s.package := rfl
@[simp] theorem State.setStatus_clocks (x v : Nat) : (s.setStatus x v).clocks = s.clocks := rfl
@[simp] theorem State.setStatus_thermal (x v : Nat) : (s.setStatus x v).thermal = s.thermal := rfl
@[simp] theorem State.setStatus_control (x v : Nat) : (s.setStatus x v).control = s.control := rfl
@[simp] theorem State.setStatus_boot (x v : Nat) : (s.setStatus x v).boot = s.boot := rfl
@[simp] theorem State.setStatus_dbg (x v : Nat) : (s.setStatus x v).dbg = s.dbg := rfl
@[simp] theorem State.setStatus_freeCount (x v : Nat) : (s.setStatus x v).freeCount = s.freeCount := rfl

/-! ### State.modMember -/

@[simp] theorem State.modMember_pending (x c : Nat) (f : Member → Member) : (s.modMember x c f).pending = s.pending := rfl
@[simp] theorem State.modMember_fuses (x c : Nat) (f : Member → Member) : (s.modMember x c f).fuses = s.fuses := rfl
@[simp] theorem State.modMember_regs (x c : Nat) (f : Member → Member) : (s.modMember x c f).regs = s.regs := rfl
@[simp] theorem State.modMember_shadows (x c : Nat) (f : Member → Member) : (s.modMember x c f).shadows = s.shadows := rfl
@[simp] theorem State.modMember_blobs (x c : Nat) (f : Member → Member) : (s.modMember x c f).blobs = s.blobs := rfl
@[simp] theorem State.modMember_blobShadows (x c : Nat) (f : Member → Member) : (s.modMember x c f).blobShadows = s.blobShadows := rfl
@[simp] theorem State.modMember_hubNeeds (x c : Nat) (f : Member → Member) : (s.modMember x c f).hubNeeds = s.hubNeeds := rfl
@[simp] theorem State.modMember_commits (x c : Nat) (f : Member → Member) : (s.modMember x c f).commits = s.commits := rfl
@[simp] theorem State.modMember_seeds (x c : Nat) (f : Member → Member) : (s.modMember x c f).seeds = s.seeds := rfl
@[simp] theorem State.modMember_load (x c : Nat) (f : Member → Member) : (s.modMember x c f).load = s.load := rfl
@[simp] theorem State.modMember_clusters (x c : Nat) (f : Member → Member) : (s.modMember x c f).clusters = s.clusters := rfl
@[simp] theorem State.modMember_memory (x c : Nat) (f : Member → Member) : (s.modMember x c f).memory = s.memory := rfl
@[simp] theorem State.modMember_rig (x c : Nat) (f : Member → Member) : (s.modMember x c f).rig = s.rig := rfl
@[simp] theorem State.modMember_coll (x c : Nat) (f : Member → Member) : (s.modMember x c f).coll = s.coll := rfl
@[simp] theorem State.modMember_photonics (x c : Nat) (f : Member → Member) : (s.modMember x c f).photonics = s.photonics := rfl
@[simp] theorem State.modMember_domain (x c : Nat) (f : Member → Member) : (s.modMember x c f).domain = s.domain := rfl
@[simp] theorem State.modMember_messages (x c : Nat) (f : Member → Member) : (s.modMember x c f).messages = s.messages := rfl
@[simp] theorem State.modMember_package (x c : Nat) (f : Member → Member) : (s.modMember x c f).package = s.package := rfl
@[simp] theorem State.modMember_clocks (x c : Nat) (f : Member → Member) : (s.modMember x c f).clocks = s.clocks := rfl
@[simp] theorem State.modMember_thermal (x c : Nat) (f : Member → Member) : (s.modMember x c f).thermal = s.thermal := rfl
@[simp] theorem State.modMember_control (x c : Nat) (f : Member → Member) : (s.modMember x c f).control = s.control := rfl
@[simp] theorem State.modMember_boot (x c : Nat) (f : Member → Member) : (s.modMember x c f).boot = s.boot := rfl
@[simp] theorem State.modMember_dbg (x c : Nat) (f : Member → Member) : (s.modMember x c f).dbg = s.dbg := rfl
@[simp] theorem State.modMember_freeCount (x c : Nat) (f : Member → Member) : (s.modMember x c f).freeCount = s.freeCount := rfl

/-! ### State.setPhase -/

@[simp] theorem State.setPhase_pending (x c : Nat) (p : MemberPhase) : (s.setPhase x c p).pending = s.pending := rfl
@[simp] theorem State.setPhase_fuses (x c : Nat) (p : MemberPhase) : (s.setPhase x c p).fuses = s.fuses := rfl
@[simp] theorem State.setPhase_regs (x c : Nat) (p : MemberPhase) : (s.setPhase x c p).regs = s.regs := rfl
@[simp] theorem State.setPhase_shadows (x c : Nat) (p : MemberPhase) : (s.setPhase x c p).shadows = s.shadows := rfl
@[simp] theorem State.setPhase_blobs (x c : Nat) (p : MemberPhase) : (s.setPhase x c p).blobs = s.blobs := rfl
@[simp] theorem State.setPhase_blobShadows (x c : Nat) (p : MemberPhase) : (s.setPhase x c p).blobShadows = s.blobShadows := rfl
@[simp] theorem State.setPhase_hubNeeds (x c : Nat) (p : MemberPhase) : (s.setPhase x c p).hubNeeds = s.hubNeeds := rfl
@[simp] theorem State.setPhase_commits (x c : Nat) (p : MemberPhase) : (s.setPhase x c p).commits = s.commits := rfl
@[simp] theorem State.setPhase_seeds (x c : Nat) (p : MemberPhase) : (s.setPhase x c p).seeds = s.seeds := rfl
@[simp] theorem State.setPhase_load (x c : Nat) (p : MemberPhase) : (s.setPhase x c p).load = s.load := rfl
@[simp] theorem State.setPhase_clusters (x c : Nat) (p : MemberPhase) : (s.setPhase x c p).clusters = s.clusters := rfl
@[simp] theorem State.setPhase_memory (x c : Nat) (p : MemberPhase) : (s.setPhase x c p).memory = s.memory := rfl
@[simp] theorem State.setPhase_rig (x c : Nat) (p : MemberPhase) : (s.setPhase x c p).rig = s.rig := rfl
@[simp] theorem State.setPhase_coll (x c : Nat) (p : MemberPhase) : (s.setPhase x c p).coll = s.coll := rfl
@[simp] theorem State.setPhase_photonics (x c : Nat) (p : MemberPhase) : (s.setPhase x c p).photonics = s.photonics := rfl
@[simp] theorem State.setPhase_domain (x c : Nat) (p : MemberPhase) : (s.setPhase x c p).domain = s.domain := rfl
@[simp] theorem State.setPhase_messages (x c : Nat) (p : MemberPhase) : (s.setPhase x c p).messages = s.messages := rfl
@[simp] theorem State.setPhase_package (x c : Nat) (p : MemberPhase) : (s.setPhase x c p).package = s.package := rfl
@[simp] theorem State.setPhase_clocks (x c : Nat) (p : MemberPhase) : (s.setPhase x c p).clocks = s.clocks := rfl
@[simp] theorem State.setPhase_thermal (x c : Nat) (p : MemberPhase) : (s.setPhase x c p).thermal = s.thermal := rfl
@[simp] theorem State.setPhase_control (x c : Nat) (p : MemberPhase) : (s.setPhase x c p).control = s.control := rfl
@[simp] theorem State.setPhase_boot (x c : Nat) (p : MemberPhase) : (s.setPhase x c p).boot = s.boot := rfl
@[simp] theorem State.setPhase_dbg (x c : Nat) (p : MemberPhase) : (s.setPhase x c p).dbg = s.dbg := rfl
@[simp] theorem State.setPhase_freeCount (x c : Nat) (p : MemberPhase) : (s.setPhase x c p).freeCount = s.freeCount := rfl

/-! ### State.modRun -/

@[simp] theorem State.modRun_pending (c : Nat) (f : TimetableRun → TimetableRun) : (s.modRun c f).pending = s.pending := rfl
@[simp] theorem State.modRun_fuses (c : Nat) (f : TimetableRun → TimetableRun) : (s.modRun c f).fuses = s.fuses := rfl
@[simp] theorem State.modRun_regs (c : Nat) (f : TimetableRun → TimetableRun) : (s.modRun c f).regs = s.regs := rfl
@[simp] theorem State.modRun_shadows (c : Nat) (f : TimetableRun → TimetableRun) : (s.modRun c f).shadows = s.shadows := rfl
@[simp] theorem State.modRun_blobs (c : Nat) (f : TimetableRun → TimetableRun) : (s.modRun c f).blobs = s.blobs := rfl
@[simp] theorem State.modRun_blobShadows (c : Nat) (f : TimetableRun → TimetableRun) : (s.modRun c f).blobShadows = s.blobShadows := rfl
@[simp] theorem State.modRun_hubNeeds (c : Nat) (f : TimetableRun → TimetableRun) : (s.modRun c f).hubNeeds = s.hubNeeds := rfl
@[simp] theorem State.modRun_commits (c : Nat) (f : TimetableRun → TimetableRun) : (s.modRun c f).commits = s.commits := rfl
@[simp] theorem State.modRun_seeds (c : Nat) (f : TimetableRun → TimetableRun) : (s.modRun c f).seeds = s.seeds := rfl
@[simp] theorem State.modRun_load (c : Nat) (f : TimetableRun → TimetableRun) : (s.modRun c f).load = s.load := rfl
@[simp] theorem State.modRun_ctxs (c : Nat) (f : TimetableRun → TimetableRun) : (s.modRun c f).ctxs = s.ctxs := rfl
@[simp] theorem State.modRun_memory (c : Nat) (f : TimetableRun → TimetableRun) : (s.modRun c f).memory = s.memory := rfl
@[simp] theorem State.modRun_rig (c : Nat) (f : TimetableRun → TimetableRun) : (s.modRun c f).rig = s.rig := rfl
@[simp] theorem State.modRun_coll (c : Nat) (f : TimetableRun → TimetableRun) : (s.modRun c f).coll = s.coll := rfl
@[simp] theorem State.modRun_photonics (c : Nat) (f : TimetableRun → TimetableRun) : (s.modRun c f).photonics = s.photonics := rfl
@[simp] theorem State.modRun_domain (c : Nat) (f : TimetableRun → TimetableRun) : (s.modRun c f).domain = s.domain := rfl
@[simp] theorem State.modRun_messages (c : Nat) (f : TimetableRun → TimetableRun) : (s.modRun c f).messages = s.messages := rfl
@[simp] theorem State.modRun_package (c : Nat) (f : TimetableRun → TimetableRun) : (s.modRun c f).package = s.package := rfl
@[simp] theorem State.modRun_clocks (c : Nat) (f : TimetableRun → TimetableRun) : (s.modRun c f).clocks = s.clocks := rfl
@[simp] theorem State.modRun_thermal (c : Nat) (f : TimetableRun → TimetableRun) : (s.modRun c f).thermal = s.thermal := rfl
@[simp] theorem State.modRun_control (c : Nat) (f : TimetableRun → TimetableRun) : (s.modRun c f).control = s.control := rfl
@[simp] theorem State.modRun_boot (c : Nat) (f : TimetableRun → TimetableRun) : (s.modRun c f).boot = s.boot := rfl
@[simp] theorem State.modRun_dbg (c : Nat) (f : TimetableRun → TimetableRun) : (s.modRun c f).dbg = s.dbg := rfl
@[simp] theorem State.modRun_freeCount (c : Nat) (f : TimetableRun → TimetableRun) : (s.modRun c f).freeCount = s.freeCount := rfl

/-! ### State.modTower -/

@[simp] theorem State.modTower_pending (t : Nat) (f : Tower → Tower) : (s.modTower t f).pending = s.pending := rfl
@[simp] theorem State.modTower_fuses (t : Nat) (f : Tower → Tower) : (s.modTower t f).fuses = s.fuses := rfl
@[simp] theorem State.modTower_regs (t : Nat) (f : Tower → Tower) : (s.modTower t f).regs = s.regs := rfl
@[simp] theorem State.modTower_shadows (t : Nat) (f : Tower → Tower) : (s.modTower t f).shadows = s.shadows := rfl
@[simp] theorem State.modTower_blobs (t : Nat) (f : Tower → Tower) : (s.modTower t f).blobs = s.blobs := rfl
@[simp] theorem State.modTower_blobShadows (t : Nat) (f : Tower → Tower) : (s.modTower t f).blobShadows = s.blobShadows := rfl
@[simp] theorem State.modTower_hubNeeds (t : Nat) (f : Tower → Tower) : (s.modTower t f).hubNeeds = s.hubNeeds := rfl
@[simp] theorem State.modTower_commits (t : Nat) (f : Tower → Tower) : (s.modTower t f).commits = s.commits := rfl
@[simp] theorem State.modTower_seeds (t : Nat) (f : Tower → Tower) : (s.modTower t f).seeds = s.seeds := rfl
@[simp] theorem State.modTower_load (t : Nat) (f : Tower → Tower) : (s.modTower t f).load = s.load := rfl
@[simp] theorem State.modTower_clusters (t : Nat) (f : Tower → Tower) : (s.modTower t f).clusters = s.clusters := rfl
@[simp] theorem State.modTower_ctxs (t : Nat) (f : Tower → Tower) : (s.modTower t f).ctxs = s.ctxs := rfl
@[simp] theorem State.modTower_rig (t : Nat) (f : Tower → Tower) : (s.modTower t f).rig = s.rig := rfl
@[simp] theorem State.modTower_coll (t : Nat) (f : Tower → Tower) : (s.modTower t f).coll = s.coll := rfl
@[simp] theorem State.modTower_photonics (t : Nat) (f : Tower → Tower) : (s.modTower t f).photonics = s.photonics := rfl
@[simp] theorem State.modTower_domain (t : Nat) (f : Tower → Tower) : (s.modTower t f).domain = s.domain := rfl
@[simp] theorem State.modTower_messages (t : Nat) (f : Tower → Tower) : (s.modTower t f).messages = s.messages := rfl
@[simp] theorem State.modTower_package (t : Nat) (f : Tower → Tower) : (s.modTower t f).package = s.package := rfl
@[simp] theorem State.modTower_clocks (t : Nat) (f : Tower → Tower) : (s.modTower t f).clocks = s.clocks := rfl
@[simp] theorem State.modTower_thermal (t : Nat) (f : Tower → Tower) : (s.modTower t f).thermal = s.thermal := rfl
@[simp] theorem State.modTower_control (t : Nat) (f : Tower → Tower) : (s.modTower t f).control = s.control := rfl
@[simp] theorem State.modTower_boot (t : Nat) (f : Tower → Tower) : (s.modTower t f).boot = s.boot := rfl
@[simp] theorem State.modTower_dbg (t : Nat) (f : Tower → Tower) : (s.modTower t f).dbg = s.dbg := rfl
@[simp] theorem State.modTower_freeCount (t : Nat) (f : Tower → Tower) : (s.modTower t f).freeCount = s.freeCount := rfl

/-! ### State.modStack -/

@[simp] theorem State.modStack_pending (k : Nat) (f : Stack → Stack) : (s.modStack k f).pending = s.pending := rfl
@[simp] theorem State.modStack_fuses (k : Nat) (f : Stack → Stack) : (s.modStack k f).fuses = s.fuses := rfl
@[simp] theorem State.modStack_regs (k : Nat) (f : Stack → Stack) : (s.modStack k f).regs = s.regs := rfl
@[simp] theorem State.modStack_shadows (k : Nat) (f : Stack → Stack) : (s.modStack k f).shadows = s.shadows := rfl
@[simp] theorem State.modStack_blobs (k : Nat) (f : Stack → Stack) : (s.modStack k f).blobs = s.blobs := rfl
@[simp] theorem State.modStack_blobShadows (k : Nat) (f : Stack → Stack) : (s.modStack k f).blobShadows = s.blobShadows := rfl
@[simp] theorem State.modStack_hubNeeds (k : Nat) (f : Stack → Stack) : (s.modStack k f).hubNeeds = s.hubNeeds := rfl
@[simp] theorem State.modStack_commits (k : Nat) (f : Stack → Stack) : (s.modStack k f).commits = s.commits := rfl
@[simp] theorem State.modStack_seeds (k : Nat) (f : Stack → Stack) : (s.modStack k f).seeds = s.seeds := rfl
@[simp] theorem State.modStack_load (k : Nat) (f : Stack → Stack) : (s.modStack k f).load = s.load := rfl
@[simp] theorem State.modStack_clusters (k : Nat) (f : Stack → Stack) : (s.modStack k f).clusters = s.clusters := rfl
@[simp] theorem State.modStack_ctxs (k : Nat) (f : Stack → Stack) : (s.modStack k f).ctxs = s.ctxs := rfl
@[simp] theorem State.modStack_rig (k : Nat) (f : Stack → Stack) : (s.modStack k f).rig = s.rig := rfl
@[simp] theorem State.modStack_coll (k : Nat) (f : Stack → Stack) : (s.modStack k f).coll = s.coll := rfl
@[simp] theorem State.modStack_photonics (k : Nat) (f : Stack → Stack) : (s.modStack k f).photonics = s.photonics := rfl
@[simp] theorem State.modStack_domain (k : Nat) (f : Stack → Stack) : (s.modStack k f).domain = s.domain := rfl
@[simp] theorem State.modStack_messages (k : Nat) (f : Stack → Stack) : (s.modStack k f).messages = s.messages := rfl
@[simp] theorem State.modStack_package (k : Nat) (f : Stack → Stack) : (s.modStack k f).package = s.package := rfl
@[simp] theorem State.modStack_clocks (k : Nat) (f : Stack → Stack) : (s.modStack k f).clocks = s.clocks := rfl
@[simp] theorem State.modStack_thermal (k : Nat) (f : Stack → Stack) : (s.modStack k f).thermal = s.thermal := rfl
@[simp] theorem State.modStack_control (k : Nat) (f : Stack → Stack) : (s.modStack k f).control = s.control := rfl
@[simp] theorem State.modStack_boot (k : Nat) (f : Stack → Stack) : (s.modStack k f).boot = s.boot := rfl
@[simp] theorem State.modStack_dbg (k : Nat) (f : Stack → Stack) : (s.modStack k f).dbg = s.dbg := rfl
@[simp] theorem State.modStack_freeCount (k : Nat) (f : Stack → Stack) : (s.modStack k f).freeCount = s.freeCount := rfl

/-! ### State.putBytes -/

@[simp] theorem State.putBytes_pending (o : Nat) (d : List Byte) : (s.putBytes o d).pending = s.pending := rfl
@[simp] theorem State.putBytes_fuses (o : Nat) (d : List Byte) : (s.putBytes o d).fuses = s.fuses := rfl
@[simp] theorem State.putBytes_regs (o : Nat) (d : List Byte) : (s.putBytes o d).regs = s.regs := rfl
@[simp] theorem State.putBytes_shadows (o : Nat) (d : List Byte) : (s.putBytes o d).shadows = s.shadows := rfl
@[simp] theorem State.putBytes_blobs (o : Nat) (d : List Byte) : (s.putBytes o d).blobs = s.blobs := rfl
@[simp] theorem State.putBytes_blobShadows (o : Nat) (d : List Byte) : (s.putBytes o d).blobShadows = s.blobShadows := rfl
@[simp] theorem State.putBytes_hubNeeds (o : Nat) (d : List Byte) : (s.putBytes o d).hubNeeds = s.hubNeeds := rfl
@[simp] theorem State.putBytes_commits (o : Nat) (d : List Byte) : (s.putBytes o d).commits = s.commits := rfl
@[simp] theorem State.putBytes_seeds (o : Nat) (d : List Byte) : (s.putBytes o d).seeds = s.seeds := rfl
@[simp] theorem State.putBytes_load (o : Nat) (d : List Byte) : (s.putBytes o d).load = s.load := rfl
@[simp] theorem State.putBytes_clusters (o : Nat) (d : List Byte) : (s.putBytes o d).clusters = s.clusters := rfl
@[simp] theorem State.putBytes_ctxs (o : Nat) (d : List Byte) : (s.putBytes o d).ctxs = s.ctxs := rfl
@[simp] theorem State.putBytes_rig (o : Nat) (d : List Byte) : (s.putBytes o d).rig = s.rig := rfl
@[simp] theorem State.putBytes_coll (o : Nat) (d : List Byte) : (s.putBytes o d).coll = s.coll := rfl
@[simp] theorem State.putBytes_photonics (o : Nat) (d : List Byte) : (s.putBytes o d).photonics = s.photonics := rfl
@[simp] theorem State.putBytes_domain (o : Nat) (d : List Byte) : (s.putBytes o d).domain = s.domain := rfl
@[simp] theorem State.putBytes_messages (o : Nat) (d : List Byte) : (s.putBytes o d).messages = s.messages := rfl
@[simp] theorem State.putBytes_package (o : Nat) (d : List Byte) : (s.putBytes o d).package = s.package := rfl
@[simp] theorem State.putBytes_clocks (o : Nat) (d : List Byte) : (s.putBytes o d).clocks = s.clocks := rfl
@[simp] theorem State.putBytes_thermal (o : Nat) (d : List Byte) : (s.putBytes o d).thermal = s.thermal := rfl
@[simp] theorem State.putBytes_control (o : Nat) (d : List Byte) : (s.putBytes o d).control = s.control := rfl
@[simp] theorem State.putBytes_boot (o : Nat) (d : List Byte) : (s.putBytes o d).boot = s.boot := rfl
@[simp] theorem State.putBytes_dbg (o : Nat) (d : List Byte) : (s.putBytes o d).dbg = s.dbg := rfl
@[simp] theorem State.putBytes_freeCount (o : Nat) (d : List Byte) : (s.putBytes o d).freeCount = s.freeCount := rfl

/-! ### State.zeroRange -/

@[simp] theorem State.zeroRange_pending (o n : Nat) : (s.zeroRange o n).pending = s.pending := rfl
@[simp] theorem State.zeroRange_fuses (o n : Nat) : (s.zeroRange o n).fuses = s.fuses := rfl
@[simp] theorem State.zeroRange_regs (o n : Nat) : (s.zeroRange o n).regs = s.regs := rfl
@[simp] theorem State.zeroRange_shadows (o n : Nat) : (s.zeroRange o n).shadows = s.shadows := rfl
@[simp] theorem State.zeroRange_blobs (o n : Nat) : (s.zeroRange o n).blobs = s.blobs := rfl
@[simp] theorem State.zeroRange_blobShadows (o n : Nat) : (s.zeroRange o n).blobShadows = s.blobShadows := rfl
@[simp] theorem State.zeroRange_hubNeeds (o n : Nat) : (s.zeroRange o n).hubNeeds = s.hubNeeds := rfl
@[simp] theorem State.zeroRange_commits (o n : Nat) : (s.zeroRange o n).commits = s.commits := rfl
@[simp] theorem State.zeroRange_seeds (o n : Nat) : (s.zeroRange o n).seeds = s.seeds := rfl
@[simp] theorem State.zeroRange_load (o n : Nat) : (s.zeroRange o n).load = s.load := rfl
@[simp] theorem State.zeroRange_clusters (o n : Nat) : (s.zeroRange o n).clusters = s.clusters := rfl
@[simp] theorem State.zeroRange_ctxs (o n : Nat) : (s.zeroRange o n).ctxs = s.ctxs := rfl
@[simp] theorem State.zeroRange_rig (o n : Nat) : (s.zeroRange o n).rig = s.rig := rfl
@[simp] theorem State.zeroRange_coll (o n : Nat) : (s.zeroRange o n).coll = s.coll := rfl
@[simp] theorem State.zeroRange_photonics (o n : Nat) : (s.zeroRange o n).photonics = s.photonics := rfl
@[simp] theorem State.zeroRange_domain (o n : Nat) : (s.zeroRange o n).domain = s.domain := rfl
@[simp] theorem State.zeroRange_messages (o n : Nat) : (s.zeroRange o n).messages = s.messages := rfl
@[simp] theorem State.zeroRange_package (o n : Nat) : (s.zeroRange o n).package = s.package := rfl
@[simp] theorem State.zeroRange_clocks (o n : Nat) : (s.zeroRange o n).clocks = s.clocks := rfl
@[simp] theorem State.zeroRange_thermal (o n : Nat) : (s.zeroRange o n).thermal = s.thermal := rfl
@[simp] theorem State.zeroRange_control (o n : Nat) : (s.zeroRange o n).control = s.control := rfl
@[simp] theorem State.zeroRange_boot (o n : Nat) : (s.zeroRange o n).boot = s.boot := rfl
@[simp] theorem State.zeroRange_dbg (o n : Nat) : (s.zeroRange o n).dbg = s.dbg := rfl
@[simp] theorem State.zeroRange_freeCount (o n : Nat) : (s.zeroRange o n).freeCount = s.freeCount := rfl

/-! ### State.setStored -/

@[simp] theorem State.setStored_pending (w : Nat) (p : ErrorPattern) : (s.setStored w p).pending = s.pending := rfl
@[simp] theorem State.setStored_fuses (w : Nat) (p : ErrorPattern) : (s.setStored w p).fuses = s.fuses := rfl
@[simp] theorem State.setStored_regs (w : Nat) (p : ErrorPattern) : (s.setStored w p).regs = s.regs := rfl
@[simp] theorem State.setStored_shadows (w : Nat) (p : ErrorPattern) : (s.setStored w p).shadows = s.shadows := rfl
@[simp] theorem State.setStored_blobs (w : Nat) (p : ErrorPattern) : (s.setStored w p).blobs = s.blobs := rfl
@[simp] theorem State.setStored_blobShadows (w : Nat) (p : ErrorPattern) : (s.setStored w p).blobShadows = s.blobShadows := rfl
@[simp] theorem State.setStored_hubNeeds (w : Nat) (p : ErrorPattern) : (s.setStored w p).hubNeeds = s.hubNeeds := rfl
@[simp] theorem State.setStored_commits (w : Nat) (p : ErrorPattern) : (s.setStored w p).commits = s.commits := rfl
@[simp] theorem State.setStored_seeds (w : Nat) (p : ErrorPattern) : (s.setStored w p).seeds = s.seeds := rfl
@[simp] theorem State.setStored_load (w : Nat) (p : ErrorPattern) : (s.setStored w p).load = s.load := rfl
@[simp] theorem State.setStored_clusters (w : Nat) (p : ErrorPattern) : (s.setStored w p).clusters = s.clusters := rfl
@[simp] theorem State.setStored_ctxs (w : Nat) (p : ErrorPattern) : (s.setStored w p).ctxs = s.ctxs := rfl
@[simp] theorem State.setStored_rig (w : Nat) (p : ErrorPattern) : (s.setStored w p).rig = s.rig := rfl
@[simp] theorem State.setStored_coll (w : Nat) (p : ErrorPattern) : (s.setStored w p).coll = s.coll := rfl
@[simp] theorem State.setStored_photonics (w : Nat) (p : ErrorPattern) : (s.setStored w p).photonics = s.photonics := rfl
@[simp] theorem State.setStored_domain (w : Nat) (p : ErrorPattern) : (s.setStored w p).domain = s.domain := rfl
@[simp] theorem State.setStored_messages (w : Nat) (p : ErrorPattern) : (s.setStored w p).messages = s.messages := rfl
@[simp] theorem State.setStored_package (w : Nat) (p : ErrorPattern) : (s.setStored w p).package = s.package := rfl
@[simp] theorem State.setStored_clocks (w : Nat) (p : ErrorPattern) : (s.setStored w p).clocks = s.clocks := rfl
@[simp] theorem State.setStored_thermal (w : Nat) (p : ErrorPattern) : (s.setStored w p).thermal = s.thermal := rfl
@[simp] theorem State.setStored_control (w : Nat) (p : ErrorPattern) : (s.setStored w p).control = s.control := rfl
@[simp] theorem State.setStored_boot (w : Nat) (p : ErrorPattern) : (s.setStored w p).boot = s.boot := rfl
@[simp] theorem State.setStored_dbg (w : Nat) (p : ErrorPattern) : (s.setStored w p).dbg = s.dbg := rfl
@[simp] theorem State.setStored_freeCount (w : Nat) (p : ErrorPattern) : (s.setStored w p).freeCount = s.freeCount := rfl

/-! ### State.setResident -/

@[simp] theorem State.setResident_pending (w : Nat) (p : ErrorPattern) : (s.setResident w p).pending = s.pending := rfl
@[simp] theorem State.setResident_fuses (w : Nat) (p : ErrorPattern) : (s.setResident w p).fuses = s.fuses := rfl
@[simp] theorem State.setResident_regs (w : Nat) (p : ErrorPattern) : (s.setResident w p).regs = s.regs := rfl
@[simp] theorem State.setResident_shadows (w : Nat) (p : ErrorPattern) : (s.setResident w p).shadows = s.shadows := rfl
@[simp] theorem State.setResident_blobs (w : Nat) (p : ErrorPattern) : (s.setResident w p).blobs = s.blobs := rfl
@[simp] theorem State.setResident_blobShadows (w : Nat) (p : ErrorPattern) : (s.setResident w p).blobShadows = s.blobShadows := rfl
@[simp] theorem State.setResident_hubNeeds (w : Nat) (p : ErrorPattern) : (s.setResident w p).hubNeeds = s.hubNeeds := rfl
@[simp] theorem State.setResident_commits (w : Nat) (p : ErrorPattern) : (s.setResident w p).commits = s.commits := rfl
@[simp] theorem State.setResident_seeds (w : Nat) (p : ErrorPattern) : (s.setResident w p).seeds = s.seeds := rfl
@[simp] theorem State.setResident_load (w : Nat) (p : ErrorPattern) : (s.setResident w p).load = s.load := rfl
@[simp] theorem State.setResident_clusters (w : Nat) (p : ErrorPattern) : (s.setResident w p).clusters = s.clusters := rfl
@[simp] theorem State.setResident_ctxs (w : Nat) (p : ErrorPattern) : (s.setResident w p).ctxs = s.ctxs := rfl
@[simp] theorem State.setResident_rig (w : Nat) (p : ErrorPattern) : (s.setResident w p).rig = s.rig := rfl
@[simp] theorem State.setResident_coll (w : Nat) (p : ErrorPattern) : (s.setResident w p).coll = s.coll := rfl
@[simp] theorem State.setResident_photonics (w : Nat) (p : ErrorPattern) : (s.setResident w p).photonics = s.photonics := rfl
@[simp] theorem State.setResident_domain (w : Nat) (p : ErrorPattern) : (s.setResident w p).domain = s.domain := rfl
@[simp] theorem State.setResident_messages (w : Nat) (p : ErrorPattern) : (s.setResident w p).messages = s.messages := rfl
@[simp] theorem State.setResident_package (w : Nat) (p : ErrorPattern) : (s.setResident w p).package = s.package := rfl
@[simp] theorem State.setResident_clocks (w : Nat) (p : ErrorPattern) : (s.setResident w p).clocks = s.clocks := rfl
@[simp] theorem State.setResident_thermal (w : Nat) (p : ErrorPattern) : (s.setResident w p).thermal = s.thermal := rfl
@[simp] theorem State.setResident_control (w : Nat) (p : ErrorPattern) : (s.setResident w p).control = s.control := rfl
@[simp] theorem State.setResident_boot (w : Nat) (p : ErrorPattern) : (s.setResident w p).boot = s.boot := rfl
@[simp] theorem State.setResident_dbg (w : Nat) (p : ErrorPattern) : (s.setResident w p).dbg = s.dbg := rfl
@[simp] theorem State.setResident_freeCount (w : Nat) (p : ErrorPattern) : (s.setResident w p).freeCount = s.freeCount := rfl

/-! ### State.setSet -/

@[simp] theorem State.setSet_pending (k : Nat) (c : CacheSet) : (s.setSet k c).pending = s.pending := rfl
@[simp] theorem State.setSet_fuses (k : Nat) (c : CacheSet) : (s.setSet k c).fuses = s.fuses := rfl
@[simp] theorem State.setSet_regs (k : Nat) (c : CacheSet) : (s.setSet k c).regs = s.regs := rfl
@[simp] theorem State.setSet_shadows (k : Nat) (c : CacheSet) : (s.setSet k c).shadows = s.shadows := rfl
@[simp] theorem State.setSet_blobs (k : Nat) (c : CacheSet) : (s.setSet k c).blobs = s.blobs := rfl
@[simp] theorem State.setSet_blobShadows (k : Nat) (c : CacheSet) : (s.setSet k c).blobShadows = s.blobShadows := rfl
@[simp] theorem State.setSet_hubNeeds (k : Nat) (c : CacheSet) : (s.setSet k c).hubNeeds = s.hubNeeds := rfl
@[simp] theorem State.setSet_commits (k : Nat) (c : CacheSet) : (s.setSet k c).commits = s.commits := rfl
@[simp] theorem State.setSet_seeds (k : Nat) (c : CacheSet) : (s.setSet k c).seeds = s.seeds := rfl
@[simp] theorem State.setSet_load (k : Nat) (c : CacheSet) : (s.setSet k c).load = s.load := rfl
@[simp] theorem State.setSet_clusters (k : Nat) (c : CacheSet) : (s.setSet k c).clusters = s.clusters := rfl
@[simp] theorem State.setSet_ctxs (k : Nat) (c : CacheSet) : (s.setSet k c).ctxs = s.ctxs := rfl
@[simp] theorem State.setSet_rig (k : Nat) (c : CacheSet) : (s.setSet k c).rig = s.rig := rfl
@[simp] theorem State.setSet_coll (k : Nat) (c : CacheSet) : (s.setSet k c).coll = s.coll := rfl
@[simp] theorem State.setSet_photonics (k : Nat) (c : CacheSet) : (s.setSet k c).photonics = s.photonics := rfl
@[simp] theorem State.setSet_domain (k : Nat) (c : CacheSet) : (s.setSet k c).domain = s.domain := rfl
@[simp] theorem State.setSet_messages (k : Nat) (c : CacheSet) : (s.setSet k c).messages = s.messages := rfl
@[simp] theorem State.setSet_package (k : Nat) (c : CacheSet) : (s.setSet k c).package = s.package := rfl
@[simp] theorem State.setSet_clocks (k : Nat) (c : CacheSet) : (s.setSet k c).clocks = s.clocks := rfl
@[simp] theorem State.setSet_thermal (k : Nat) (c : CacheSet) : (s.setSet k c).thermal = s.thermal := rfl
@[simp] theorem State.setSet_control (k : Nat) (c : CacheSet) : (s.setSet k c).control = s.control := rfl
@[simp] theorem State.setSet_boot (k : Nat) (c : CacheSet) : (s.setSet k c).boot = s.boot := rfl
@[simp] theorem State.setSet_dbg (k : Nat) (c : CacheSet) : (s.setSet k c).dbg = s.dbg := rfl
@[simp] theorem State.setSet_freeCount (k : Nat) (c : CacheSet) : (s.setSet k c).freeCount = s.freeCount := rfl

/-! ### State.modLane -/

@[simp] theorem State.modLane_pending (k : Nat) (f : Lane → Lane) : (s.modLane k f).pending = s.pending := rfl
@[simp] theorem State.modLane_fuses (k : Nat) (f : Lane → Lane) : (s.modLane k f).fuses = s.fuses := rfl
@[simp] theorem State.modLane_regs (k : Nat) (f : Lane → Lane) : (s.modLane k f).regs = s.regs := rfl
@[simp] theorem State.modLane_shadows (k : Nat) (f : Lane → Lane) : (s.modLane k f).shadows = s.shadows := rfl
@[simp] theorem State.modLane_blobs (k : Nat) (f : Lane → Lane) : (s.modLane k f).blobs = s.blobs := rfl
@[simp] theorem State.modLane_blobShadows (k : Nat) (f : Lane → Lane) : (s.modLane k f).blobShadows = s.blobShadows := rfl
@[simp] theorem State.modLane_hubNeeds (k : Nat) (f : Lane → Lane) : (s.modLane k f).hubNeeds = s.hubNeeds := rfl
@[simp] theorem State.modLane_commits (k : Nat) (f : Lane → Lane) : (s.modLane k f).commits = s.commits := rfl
@[simp] theorem State.modLane_seeds (k : Nat) (f : Lane → Lane) : (s.modLane k f).seeds = s.seeds := rfl
@[simp] theorem State.modLane_load (k : Nat) (f : Lane → Lane) : (s.modLane k f).load = s.load := rfl
@[simp] theorem State.modLane_clusters (k : Nat) (f : Lane → Lane) : (s.modLane k f).clusters = s.clusters := rfl
@[simp] theorem State.modLane_ctxs (k : Nat) (f : Lane → Lane) : (s.modLane k f).ctxs = s.ctxs := rfl
@[simp] theorem State.modLane_memory (k : Nat) (f : Lane → Lane) : (s.modLane k f).memory = s.memory := rfl
@[simp] theorem State.modLane_coll (k : Nat) (f : Lane → Lane) : (s.modLane k f).coll = s.coll := rfl
@[simp] theorem State.modLane_photonics (k : Nat) (f : Lane → Lane) : (s.modLane k f).photonics = s.photonics := rfl
@[simp] theorem State.modLane_domain (k : Nat) (f : Lane → Lane) : (s.modLane k f).domain = s.domain := rfl
@[simp] theorem State.modLane_messages (k : Nat) (f : Lane → Lane) : (s.modLane k f).messages = s.messages := rfl
@[simp] theorem State.modLane_package (k : Nat) (f : Lane → Lane) : (s.modLane k f).package = s.package := rfl
@[simp] theorem State.modLane_clocks (k : Nat) (f : Lane → Lane) : (s.modLane k f).clocks = s.clocks := rfl
@[simp] theorem State.modLane_thermal (k : Nat) (f : Lane → Lane) : (s.modLane k f).thermal = s.thermal := rfl
@[simp] theorem State.modLane_control (k : Nat) (f : Lane → Lane) : (s.modLane k f).control = s.control := rfl
@[simp] theorem State.modLane_boot (k : Nat) (f : Lane → Lane) : (s.modLane k f).boot = s.boot := rfl
@[simp] theorem State.modLane_dbg (k : Nat) (f : Lane → Lane) : (s.modLane k f).dbg = s.dbg := rfl
@[simp] theorem State.modLane_freeCount (k : Nat) (f : Lane → Lane) : (s.modLane k f).freeCount = s.freeCount := rfl

/-! ### State.modStanding -/

@[simp] theorem State.modStanding_pending (a b : Nat) (f : StandingPath → StandingPath) : (s.modStanding a b f).pending = s.pending := rfl
@[simp] theorem State.modStanding_fuses (a b : Nat) (f : StandingPath → StandingPath) : (s.modStanding a b f).fuses = s.fuses := rfl
@[simp] theorem State.modStanding_regs (a b : Nat) (f : StandingPath → StandingPath) : (s.modStanding a b f).regs = s.regs := rfl
@[simp] theorem State.modStanding_shadows (a b : Nat) (f : StandingPath → StandingPath) : (s.modStanding a b f).shadows = s.shadows := rfl
@[simp] theorem State.modStanding_blobs (a b : Nat) (f : StandingPath → StandingPath) : (s.modStanding a b f).blobs = s.blobs := rfl
@[simp] theorem State.modStanding_blobShadows (a b : Nat) (f : StandingPath → StandingPath) : (s.modStanding a b f).blobShadows = s.blobShadows := rfl
@[simp] theorem State.modStanding_hubNeeds (a b : Nat) (f : StandingPath → StandingPath) : (s.modStanding a b f).hubNeeds = s.hubNeeds := rfl
@[simp] theorem State.modStanding_commits (a b : Nat) (f : StandingPath → StandingPath) : (s.modStanding a b f).commits = s.commits := rfl
@[simp] theorem State.modStanding_seeds (a b : Nat) (f : StandingPath → StandingPath) : (s.modStanding a b f).seeds = s.seeds := rfl
@[simp] theorem State.modStanding_load (a b : Nat) (f : StandingPath → StandingPath) : (s.modStanding a b f).load = s.load := rfl
@[simp] theorem State.modStanding_clusters (a b : Nat) (f : StandingPath → StandingPath) : (s.modStanding a b f).clusters = s.clusters := rfl
@[simp] theorem State.modStanding_ctxs (a b : Nat) (f : StandingPath → StandingPath) : (s.modStanding a b f).ctxs = s.ctxs := rfl
@[simp] theorem State.modStanding_memory (a b : Nat) (f : StandingPath → StandingPath) : (s.modStanding a b f).memory = s.memory := rfl
@[simp] theorem State.modStanding_coll (a b : Nat) (f : StandingPath → StandingPath) : (s.modStanding a b f).coll = s.coll := rfl
@[simp] theorem State.modStanding_photonics (a b : Nat) (f : StandingPath → StandingPath) : (s.modStanding a b f).photonics = s.photonics := rfl
@[simp] theorem State.modStanding_domain (a b : Nat) (f : StandingPath → StandingPath) : (s.modStanding a b f).domain = s.domain := rfl
@[simp] theorem State.modStanding_messages (a b : Nat) (f : StandingPath → StandingPath) : (s.modStanding a b f).messages = s.messages := rfl
@[simp] theorem State.modStanding_package (a b : Nat) (f : StandingPath → StandingPath) : (s.modStanding a b f).package = s.package := rfl
@[simp] theorem State.modStanding_clocks (a b : Nat) (f : StandingPath → StandingPath) : (s.modStanding a b f).clocks = s.clocks := rfl
@[simp] theorem State.modStanding_thermal (a b : Nat) (f : StandingPath → StandingPath) : (s.modStanding a b f).thermal = s.thermal := rfl
@[simp] theorem State.modStanding_control (a b : Nat) (f : StandingPath → StandingPath) : (s.modStanding a b f).control = s.control := rfl
@[simp] theorem State.modStanding_boot (a b : Nat) (f : StandingPath → StandingPath) : (s.modStanding a b f).boot = s.boot := rfl
@[simp] theorem State.modStanding_dbg (a b : Nat) (f : StandingPath → StandingPath) : (s.modStanding a b f).dbg = s.dbg := rfl
@[simp] theorem State.modStanding_freeCount (a b : Nat) (f : StandingPath → StandingPath) : (s.modStanding a b f).freeCount = s.freeCount := rfl

/-! ### State.modReceiver -/

@[simp] theorem State.modReceiver_pending (k : Nat) (f : Receiver → Receiver) : (s.modReceiver k f).pending = s.pending := rfl
@[simp] theorem State.modReceiver_fuses (k : Nat) (f : Receiver → Receiver) : (s.modReceiver k f).fuses = s.fuses := rfl
@[simp] theorem State.modReceiver_regs (k : Nat) (f : Receiver → Receiver) : (s.modReceiver k f).regs = s.regs := rfl
@[simp] theorem State.modReceiver_shadows (k : Nat) (f : Receiver → Receiver) : (s.modReceiver k f).shadows = s.shadows := rfl
@[simp] theorem State.modReceiver_blobs (k : Nat) (f : Receiver → Receiver) : (s.modReceiver k f).blobs = s.blobs := rfl
@[simp] theorem State.modReceiver_blobShadows (k : Nat) (f : Receiver → Receiver) : (s.modReceiver k f).blobShadows = s.blobShadows := rfl
@[simp] theorem State.modReceiver_hubNeeds (k : Nat) (f : Receiver → Receiver) : (s.modReceiver k f).hubNeeds = s.hubNeeds := rfl
@[simp] theorem State.modReceiver_commits (k : Nat) (f : Receiver → Receiver) : (s.modReceiver k f).commits = s.commits := rfl
@[simp] theorem State.modReceiver_seeds (k : Nat) (f : Receiver → Receiver) : (s.modReceiver k f).seeds = s.seeds := rfl
@[simp] theorem State.modReceiver_load (k : Nat) (f : Receiver → Receiver) : (s.modReceiver k f).load = s.load := rfl
@[simp] theorem State.modReceiver_clusters (k : Nat) (f : Receiver → Receiver) : (s.modReceiver k f).clusters = s.clusters := rfl
@[simp] theorem State.modReceiver_ctxs (k : Nat) (f : Receiver → Receiver) : (s.modReceiver k f).ctxs = s.ctxs := rfl
@[simp] theorem State.modReceiver_memory (k : Nat) (f : Receiver → Receiver) : (s.modReceiver k f).memory = s.memory := rfl
@[simp] theorem State.modReceiver_coll (k : Nat) (f : Receiver → Receiver) : (s.modReceiver k f).coll = s.coll := rfl
@[simp] theorem State.modReceiver_photonics (k : Nat) (f : Receiver → Receiver) : (s.modReceiver k f).photonics = s.photonics := rfl
@[simp] theorem State.modReceiver_domain (k : Nat) (f : Receiver → Receiver) : (s.modReceiver k f).domain = s.domain := rfl
@[simp] theorem State.modReceiver_messages (k : Nat) (f : Receiver → Receiver) : (s.modReceiver k f).messages = s.messages := rfl
@[simp] theorem State.modReceiver_package (k : Nat) (f : Receiver → Receiver) : (s.modReceiver k f).package = s.package := rfl
@[simp] theorem State.modReceiver_clocks (k : Nat) (f : Receiver → Receiver) : (s.modReceiver k f).clocks = s.clocks := rfl
@[simp] theorem State.modReceiver_thermal (k : Nat) (f : Receiver → Receiver) : (s.modReceiver k f).thermal = s.thermal := rfl
@[simp] theorem State.modReceiver_control (k : Nat) (f : Receiver → Receiver) : (s.modReceiver k f).control = s.control := rfl
@[simp] theorem State.modReceiver_boot (k : Nat) (f : Receiver → Receiver) : (s.modReceiver k f).boot = s.boot := rfl
@[simp] theorem State.modReceiver_dbg (k : Nat) (f : Receiver → Receiver) : (s.modReceiver k f).dbg = s.dbg := rfl
@[simp] theorem State.modReceiver_freeCount (k : Nat) (f : Receiver → Receiver) : (s.modReceiver k f).freeCount = s.freeCount := rfl

/-! ### State.modCollective -/

@[simp] theorem State.modCollective_pending (n : Nat) (f : Collective → Collective) : (s.modCollective n f).pending = s.pending := rfl
@[simp] theorem State.modCollective_fuses (n : Nat) (f : Collective → Collective) : (s.modCollective n f).fuses = s.fuses := rfl
@[simp] theorem State.modCollective_regs (n : Nat) (f : Collective → Collective) : (s.modCollective n f).regs = s.regs := rfl
@[simp] theorem State.modCollective_shadows (n : Nat) (f : Collective → Collective) : (s.modCollective n f).shadows = s.shadows := rfl
@[simp] theorem State.modCollective_blobs (n : Nat) (f : Collective → Collective) : (s.modCollective n f).blobs = s.blobs := rfl
@[simp] theorem State.modCollective_blobShadows (n : Nat) (f : Collective → Collective) : (s.modCollective n f).blobShadows = s.blobShadows := rfl
@[simp] theorem State.modCollective_hubNeeds (n : Nat) (f : Collective → Collective) : (s.modCollective n f).hubNeeds = s.hubNeeds := rfl
@[simp] theorem State.modCollective_commits (n : Nat) (f : Collective → Collective) : (s.modCollective n f).commits = s.commits := rfl
@[simp] theorem State.modCollective_seeds (n : Nat) (f : Collective → Collective) : (s.modCollective n f).seeds = s.seeds := rfl
@[simp] theorem State.modCollective_load (n : Nat) (f : Collective → Collective) : (s.modCollective n f).load = s.load := rfl
@[simp] theorem State.modCollective_clusters (n : Nat) (f : Collective → Collective) : (s.modCollective n f).clusters = s.clusters := rfl
@[simp] theorem State.modCollective_ctxs (n : Nat) (f : Collective → Collective) : (s.modCollective n f).ctxs = s.ctxs := rfl
@[simp] theorem State.modCollective_memory (n : Nat) (f : Collective → Collective) : (s.modCollective n f).memory = s.memory := rfl
@[simp] theorem State.modCollective_rig (n : Nat) (f : Collective → Collective) : (s.modCollective n f).rig = s.rig := rfl
@[simp] theorem State.modCollective_photonics (n : Nat) (f : Collective → Collective) : (s.modCollective n f).photonics = s.photonics := rfl
@[simp] theorem State.modCollective_domain (n : Nat) (f : Collective → Collective) : (s.modCollective n f).domain = s.domain := rfl
@[simp] theorem State.modCollective_messages (n : Nat) (f : Collective → Collective) : (s.modCollective n f).messages = s.messages := rfl
@[simp] theorem State.modCollective_package (n : Nat) (f : Collective → Collective) : (s.modCollective n f).package = s.package := rfl
@[simp] theorem State.modCollective_clocks (n : Nat) (f : Collective → Collective) : (s.modCollective n f).clocks = s.clocks := rfl
@[simp] theorem State.modCollective_thermal (n : Nat) (f : Collective → Collective) : (s.modCollective n f).thermal = s.thermal := rfl
@[simp] theorem State.modCollective_control (n : Nat) (f : Collective → Collective) : (s.modCollective n f).control = s.control := rfl
@[simp] theorem State.modCollective_boot (n : Nat) (f : Collective → Collective) : (s.modCollective n f).boot = s.boot := rfl
@[simp] theorem State.modCollective_dbg (n : Nat) (f : Collective → Collective) : (s.modCollective n f).dbg = s.dbg := rfl
@[simp] theorem State.modCollective_freeCount (n : Nat) (f : Collective → Collective) : (s.modCollective n f).freeCount = s.freeCount := rfl

/-! ### State.modRing -/

@[simp] theorem State.modRing_pending (e : Nat) (f : Ring → Ring) : (s.modRing e f).pending = s.pending := rfl
@[simp] theorem State.modRing_fuses (e : Nat) (f : Ring → Ring) : (s.modRing e f).fuses = s.fuses := rfl
@[simp] theorem State.modRing_regs (e : Nat) (f : Ring → Ring) : (s.modRing e f).regs = s.regs := rfl
@[simp] theorem State.modRing_shadows (e : Nat) (f : Ring → Ring) : (s.modRing e f).shadows = s.shadows := rfl
@[simp] theorem State.modRing_blobs (e : Nat) (f : Ring → Ring) : (s.modRing e f).blobs = s.blobs := rfl
@[simp] theorem State.modRing_blobShadows (e : Nat) (f : Ring → Ring) : (s.modRing e f).blobShadows = s.blobShadows := rfl
@[simp] theorem State.modRing_hubNeeds (e : Nat) (f : Ring → Ring) : (s.modRing e f).hubNeeds = s.hubNeeds := rfl
@[simp] theorem State.modRing_commits (e : Nat) (f : Ring → Ring) : (s.modRing e f).commits = s.commits := rfl
@[simp] theorem State.modRing_seeds (e : Nat) (f : Ring → Ring) : (s.modRing e f).seeds = s.seeds := rfl
@[simp] theorem State.modRing_load (e : Nat) (f : Ring → Ring) : (s.modRing e f).load = s.load := rfl
@[simp] theorem State.modRing_clusters (e : Nat) (f : Ring → Ring) : (s.modRing e f).clusters = s.clusters := rfl
@[simp] theorem State.modRing_ctxs (e : Nat) (f : Ring → Ring) : (s.modRing e f).ctxs = s.ctxs := rfl
@[simp] theorem State.modRing_memory (e : Nat) (f : Ring → Ring) : (s.modRing e f).memory = s.memory := rfl
@[simp] theorem State.modRing_rig (e : Nat) (f : Ring → Ring) : (s.modRing e f).rig = s.rig := rfl
@[simp] theorem State.modRing_coll (e : Nat) (f : Ring → Ring) : (s.modRing e f).coll = s.coll := rfl
@[simp] theorem State.modRing_domain (e : Nat) (f : Ring → Ring) : (s.modRing e f).domain = s.domain := rfl
@[simp] theorem State.modRing_messages (e : Nat) (f : Ring → Ring) : (s.modRing e f).messages = s.messages := rfl
@[simp] theorem State.modRing_package (e : Nat) (f : Ring → Ring) : (s.modRing e f).package = s.package := rfl
@[simp] theorem State.modRing_clocks (e : Nat) (f : Ring → Ring) : (s.modRing e f).clocks = s.clocks := rfl
@[simp] theorem State.modRing_thermal (e : Nat) (f : Ring → Ring) : (s.modRing e f).thermal = s.thermal := rfl
@[simp] theorem State.modRing_control (e : Nat) (f : Ring → Ring) : (s.modRing e f).control = s.control := rfl
@[simp] theorem State.modRing_boot (e : Nat) (f : Ring → Ring) : (s.modRing e f).boot = s.boot := rfl
@[simp] theorem State.modRing_dbg (e : Nat) (f : Ring → Ring) : (s.modRing e f).dbg = s.dbg := rfl
@[simp] theorem State.modRing_freeCount (e : Nat) (f : Ring → Ring) : (s.modRing e f).freeCount = s.freeCount := rfl

/-! ### State.modBank -/

@[simp] theorem State.modBank_pending (b : Nat) (f : Bank → Bank) : (s.modBank b f).pending = s.pending := rfl
@[simp] theorem State.modBank_fuses (b : Nat) (f : Bank → Bank) : (s.modBank b f).fuses = s.fuses := rfl
@[simp] theorem State.modBank_regs (b : Nat) (f : Bank → Bank) : (s.modBank b f).regs = s.regs := rfl
@[simp] theorem State.modBank_shadows (b : Nat) (f : Bank → Bank) : (s.modBank b f).shadows = s.shadows := rfl
@[simp] theorem State.modBank_blobs (b : Nat) (f : Bank → Bank) : (s.modBank b f).blobs = s.blobs := rfl
@[simp] theorem State.modBank_blobShadows (b : Nat) (f : Bank → Bank) : (s.modBank b f).blobShadows = s.blobShadows := rfl
@[simp] theorem State.modBank_hubNeeds (b : Nat) (f : Bank → Bank) : (s.modBank b f).hubNeeds = s.hubNeeds := rfl
@[simp] theorem State.modBank_commits (b : Nat) (f : Bank → Bank) : (s.modBank b f).commits = s.commits := rfl
@[simp] theorem State.modBank_seeds (b : Nat) (f : Bank → Bank) : (s.modBank b f).seeds = s.seeds := rfl
@[simp] theorem State.modBank_load (b : Nat) (f : Bank → Bank) : (s.modBank b f).load = s.load := rfl
@[simp] theorem State.modBank_clusters (b : Nat) (f : Bank → Bank) : (s.modBank b f).clusters = s.clusters := rfl
@[simp] theorem State.modBank_ctxs (b : Nat) (f : Bank → Bank) : (s.modBank b f).ctxs = s.ctxs := rfl
@[simp] theorem State.modBank_memory (b : Nat) (f : Bank → Bank) : (s.modBank b f).memory = s.memory := rfl
@[simp] theorem State.modBank_rig (b : Nat) (f : Bank → Bank) : (s.modBank b f).rig = s.rig := rfl
@[simp] theorem State.modBank_coll (b : Nat) (f : Bank → Bank) : (s.modBank b f).coll = s.coll := rfl
@[simp] theorem State.modBank_domain (b : Nat) (f : Bank → Bank) : (s.modBank b f).domain = s.domain := rfl
@[simp] theorem State.modBank_messages (b : Nat) (f : Bank → Bank) : (s.modBank b f).messages = s.messages := rfl
@[simp] theorem State.modBank_package (b : Nat) (f : Bank → Bank) : (s.modBank b f).package = s.package := rfl
@[simp] theorem State.modBank_clocks (b : Nat) (f : Bank → Bank) : (s.modBank b f).clocks = s.clocks := rfl
@[simp] theorem State.modBank_thermal (b : Nat) (f : Bank → Bank) : (s.modBank b f).thermal = s.thermal := rfl
@[simp] theorem State.modBank_control (b : Nat) (f : Bank → Bank) : (s.modBank b f).control = s.control := rfl
@[simp] theorem State.modBank_boot (b : Nat) (f : Bank → Bank) : (s.modBank b f).boot = s.boot := rfl
@[simp] theorem State.modBank_dbg (b : Nat) (f : Bank → Bank) : (s.modBank b f).dbg = s.dbg := rfl
@[simp] theorem State.modBank_freeCount (b : Nat) (f : Bank → Bank) : (s.modBank b f).freeCount = s.freeCount := rfl

/-! ### State.modLaser -/

@[simp] theorem State.modLaser_pending (b n : Nat) (f : Laser → Laser) : (s.modLaser b n f).pending = s.pending := rfl
@[simp] theorem State.modLaser_fuses (b n : Nat) (f : Laser → Laser) : (s.modLaser b n f).fuses = s.fuses := rfl
@[simp] theorem State.modLaser_regs (b n : Nat) (f : Laser → Laser) : (s.modLaser b n f).regs = s.regs := rfl
@[simp] theorem State.modLaser_shadows (b n : Nat) (f : Laser → Laser) : (s.modLaser b n f).shadows = s.shadows := rfl
@[simp] theorem State.modLaser_blobs (b n : Nat) (f : Laser → Laser) : (s.modLaser b n f).blobs = s.blobs := rfl
@[simp] theorem State.modLaser_blobShadows (b n : Nat) (f : Laser → Laser) : (s.modLaser b n f).blobShadows = s.blobShadows := rfl
@[simp] theorem State.modLaser_hubNeeds (b n : Nat) (f : Laser → Laser) : (s.modLaser b n f).hubNeeds = s.hubNeeds := rfl
@[simp] theorem State.modLaser_commits (b n : Nat) (f : Laser → Laser) : (s.modLaser b n f).commits = s.commits := rfl
@[simp] theorem State.modLaser_seeds (b n : Nat) (f : Laser → Laser) : (s.modLaser b n f).seeds = s.seeds := rfl
@[simp] theorem State.modLaser_load (b n : Nat) (f : Laser → Laser) : (s.modLaser b n f).load = s.load := rfl
@[simp] theorem State.modLaser_clusters (b n : Nat) (f : Laser → Laser) : (s.modLaser b n f).clusters = s.clusters := rfl
@[simp] theorem State.modLaser_ctxs (b n : Nat) (f : Laser → Laser) : (s.modLaser b n f).ctxs = s.ctxs := rfl
@[simp] theorem State.modLaser_memory (b n : Nat) (f : Laser → Laser) : (s.modLaser b n f).memory = s.memory := rfl
@[simp] theorem State.modLaser_rig (b n : Nat) (f : Laser → Laser) : (s.modLaser b n f).rig = s.rig := rfl
@[simp] theorem State.modLaser_coll (b n : Nat) (f : Laser → Laser) : (s.modLaser b n f).coll = s.coll := rfl
@[simp] theorem State.modLaser_domain (b n : Nat) (f : Laser → Laser) : (s.modLaser b n f).domain = s.domain := rfl
@[simp] theorem State.modLaser_messages (b n : Nat) (f : Laser → Laser) : (s.modLaser b n f).messages = s.messages := rfl
@[simp] theorem State.modLaser_package (b n : Nat) (f : Laser → Laser) : (s.modLaser b n f).package = s.package := rfl
@[simp] theorem State.modLaser_clocks (b n : Nat) (f : Laser → Laser) : (s.modLaser b n f).clocks = s.clocks := rfl
@[simp] theorem State.modLaser_thermal (b n : Nat) (f : Laser → Laser) : (s.modLaser b n f).thermal = s.thermal := rfl
@[simp] theorem State.modLaser_control (b n : Nat) (f : Laser → Laser) : (s.modLaser b n f).control = s.control := rfl
@[simp] theorem State.modLaser_boot (b n : Nat) (f : Laser → Laser) : (s.modLaser b n f).boot = s.boot := rfl
@[simp] theorem State.modLaser_dbg (b n : Nat) (f : Laser → Laser) : (s.modLaser b n f).dbg = s.dbg := rfl
@[simp] theorem State.modLaser_freeCount (b n : Nat) (f : Laser → Laser) : (s.modLaser b n f).freeCount = s.freeCount := rfl

/-! ### State.modBar -/

@[simp] theorem State.modBar_pending (b : Nat) (f : Bar → Bar) : (s.modBar b f).pending = s.pending := rfl
@[simp] theorem State.modBar_fuses (b : Nat) (f : Bar → Bar) : (s.modBar b f).fuses = s.fuses := rfl
@[simp] theorem State.modBar_regs (b : Nat) (f : Bar → Bar) : (s.modBar b f).regs = s.regs := rfl
@[simp] theorem State.modBar_shadows (b : Nat) (f : Bar → Bar) : (s.modBar b f).shadows = s.shadows := rfl
@[simp] theorem State.modBar_blobs (b : Nat) (f : Bar → Bar) : (s.modBar b f).blobs = s.blobs := rfl
@[simp] theorem State.modBar_blobShadows (b : Nat) (f : Bar → Bar) : (s.modBar b f).blobShadows = s.blobShadows := rfl
@[simp] theorem State.modBar_hubNeeds (b : Nat) (f : Bar → Bar) : (s.modBar b f).hubNeeds = s.hubNeeds := rfl
@[simp] theorem State.modBar_commits (b : Nat) (f : Bar → Bar) : (s.modBar b f).commits = s.commits := rfl
@[simp] theorem State.modBar_seeds (b : Nat) (f : Bar → Bar) : (s.modBar b f).seeds = s.seeds := rfl
@[simp] theorem State.modBar_load (b : Nat) (f : Bar → Bar) : (s.modBar b f).load = s.load := rfl
@[simp] theorem State.modBar_clusters (b : Nat) (f : Bar → Bar) : (s.modBar b f).clusters = s.clusters := rfl
@[simp] theorem State.modBar_ctxs (b : Nat) (f : Bar → Bar) : (s.modBar b f).ctxs = s.ctxs := rfl
@[simp] theorem State.modBar_memory (b : Nat) (f : Bar → Bar) : (s.modBar b f).memory = s.memory := rfl
@[simp] theorem State.modBar_rig (b : Nat) (f : Bar → Bar) : (s.modBar b f).rig = s.rig := rfl
@[simp] theorem State.modBar_coll (b : Nat) (f : Bar → Bar) : (s.modBar b f).coll = s.coll := rfl
@[simp] theorem State.modBar_domain (b : Nat) (f : Bar → Bar) : (s.modBar b f).domain = s.domain := rfl
@[simp] theorem State.modBar_messages (b : Nat) (f : Bar → Bar) : (s.modBar b f).messages = s.messages := rfl
@[simp] theorem State.modBar_package (b : Nat) (f : Bar → Bar) : (s.modBar b f).package = s.package := rfl
@[simp] theorem State.modBar_clocks (b : Nat) (f : Bar → Bar) : (s.modBar b f).clocks = s.clocks := rfl
@[simp] theorem State.modBar_thermal (b : Nat) (f : Bar → Bar) : (s.modBar b f).thermal = s.thermal := rfl
@[simp] theorem State.modBar_control (b : Nat) (f : Bar → Bar) : (s.modBar b f).control = s.control := rfl
@[simp] theorem State.modBar_boot (b : Nat) (f : Bar → Bar) : (s.modBar b f).boot = s.boot := rfl
@[simp] theorem State.modBar_dbg (b : Nat) (f : Bar → Bar) : (s.modBar b f).dbg = s.dbg := rfl
@[simp] theorem State.modBar_freeCount (b : Nat) (f : Bar → Bar) : (s.modBar b f).freeCount = s.freeCount := rfl

/-! ### State.modPort -/

@[simp] theorem State.modPort_pending (p : Nat) (f : Port → Port) : (s.modPort p f).pending = s.pending := rfl
@[simp] theorem State.modPort_fuses (p : Nat) (f : Port → Port) : (s.modPort p f).fuses = s.fuses := rfl
@[simp] theorem State.modPort_regs (p : Nat) (f : Port → Port) : (s.modPort p f).regs = s.regs := rfl
@[simp] theorem State.modPort_shadows (p : Nat) (f : Port → Port) : (s.modPort p f).shadows = s.shadows := rfl
@[simp] theorem State.modPort_blobs (p : Nat) (f : Port → Port) : (s.modPort p f).blobs = s.blobs := rfl
@[simp] theorem State.modPort_blobShadows (p : Nat) (f : Port → Port) : (s.modPort p f).blobShadows = s.blobShadows := rfl
@[simp] theorem State.modPort_hubNeeds (p : Nat) (f : Port → Port) : (s.modPort p f).hubNeeds = s.hubNeeds := rfl
@[simp] theorem State.modPort_commits (p : Nat) (f : Port → Port) : (s.modPort p f).commits = s.commits := rfl
@[simp] theorem State.modPort_seeds (p : Nat) (f : Port → Port) : (s.modPort p f).seeds = s.seeds := rfl
@[simp] theorem State.modPort_load (p : Nat) (f : Port → Port) : (s.modPort p f).load = s.load := rfl
@[simp] theorem State.modPort_clusters (p : Nat) (f : Port → Port) : (s.modPort p f).clusters = s.clusters := rfl
@[simp] theorem State.modPort_ctxs (p : Nat) (f : Port → Port) : (s.modPort p f).ctxs = s.ctxs := rfl
@[simp] theorem State.modPort_memory (p : Nat) (f : Port → Port) : (s.modPort p f).memory = s.memory := rfl
@[simp] theorem State.modPort_rig (p : Nat) (f : Port → Port) : (s.modPort p f).rig = s.rig := rfl
@[simp] theorem State.modPort_coll (p : Nat) (f : Port → Port) : (s.modPort p f).coll = s.coll := rfl
@[simp] theorem State.modPort_photonics (p : Nat) (f : Port → Port) : (s.modPort p f).photonics = s.photonics := rfl
@[simp] theorem State.modPort_messages (p : Nat) (f : Port → Port) : (s.modPort p f).messages = s.messages := rfl
@[simp] theorem State.modPort_package (p : Nat) (f : Port → Port) : (s.modPort p f).package = s.package := rfl
@[simp] theorem State.modPort_clocks (p : Nat) (f : Port → Port) : (s.modPort p f).clocks = s.clocks := rfl
@[simp] theorem State.modPort_thermal (p : Nat) (f : Port → Port) : (s.modPort p f).thermal = s.thermal := rfl
@[simp] theorem State.modPort_control (p : Nat) (f : Port → Port) : (s.modPort p f).control = s.control := rfl
@[simp] theorem State.modPort_boot (p : Nat) (f : Port → Port) : (s.modPort p f).boot = s.boot := rfl
@[simp] theorem State.modPort_dbg (p : Nat) (f : Port → Port) : (s.modPort p f).dbg = s.dbg := rfl
@[simp] theorem State.modPort_freeCount (p : Nat) (f : Port → Port) : (s.modPort p f).freeCount = s.freeCount := rfl

/-! ### State.modOutstanding -/

@[simp] theorem State.modOutstanding_pending (h : Nat) (f : Outstanding → Outstanding) : (s.modOutstanding h f).pending = s.pending := rfl
@[simp] theorem State.modOutstanding_fuses (h : Nat) (f : Outstanding → Outstanding) : (s.modOutstanding h f).fuses = s.fuses := rfl
@[simp] theorem State.modOutstanding_regs (h : Nat) (f : Outstanding → Outstanding) : (s.modOutstanding h f).regs = s.regs := rfl
@[simp] theorem State.modOutstanding_shadows (h : Nat) (f : Outstanding → Outstanding) : (s.modOutstanding h f).shadows = s.shadows := rfl
@[simp] theorem State.modOutstanding_blobs (h : Nat) (f : Outstanding → Outstanding) : (s.modOutstanding h f).blobs = s.blobs := rfl
@[simp] theorem State.modOutstanding_blobShadows (h : Nat) (f : Outstanding → Outstanding) : (s.modOutstanding h f).blobShadows = s.blobShadows := rfl
@[simp] theorem State.modOutstanding_hubNeeds (h : Nat) (f : Outstanding → Outstanding) : (s.modOutstanding h f).hubNeeds = s.hubNeeds := rfl
@[simp] theorem State.modOutstanding_commits (h : Nat) (f : Outstanding → Outstanding) : (s.modOutstanding h f).commits = s.commits := rfl
@[simp] theorem State.modOutstanding_seeds (h : Nat) (f : Outstanding → Outstanding) : (s.modOutstanding h f).seeds = s.seeds := rfl
@[simp] theorem State.modOutstanding_load (h : Nat) (f : Outstanding → Outstanding) : (s.modOutstanding h f).load = s.load := rfl
@[simp] theorem State.modOutstanding_clusters (h : Nat) (f : Outstanding → Outstanding) : (s.modOutstanding h f).clusters = s.clusters := rfl
@[simp] theorem State.modOutstanding_ctxs (h : Nat) (f : Outstanding → Outstanding) : (s.modOutstanding h f).ctxs = s.ctxs := rfl
@[simp] theorem State.modOutstanding_memory (h : Nat) (f : Outstanding → Outstanding) : (s.modOutstanding h f).memory = s.memory := rfl
@[simp] theorem State.modOutstanding_rig (h : Nat) (f : Outstanding → Outstanding) : (s.modOutstanding h f).rig = s.rig := rfl
@[simp] theorem State.modOutstanding_coll (h : Nat) (f : Outstanding → Outstanding) : (s.modOutstanding h f).coll = s.coll := rfl
@[simp] theorem State.modOutstanding_photonics (h : Nat) (f : Outstanding → Outstanding) : (s.modOutstanding h f).photonics = s.photonics := rfl
@[simp] theorem State.modOutstanding_messages (h : Nat) (f : Outstanding → Outstanding) : (s.modOutstanding h f).messages = s.messages := rfl
@[simp] theorem State.modOutstanding_package (h : Nat) (f : Outstanding → Outstanding) : (s.modOutstanding h f).package = s.package := rfl
@[simp] theorem State.modOutstanding_clocks (h : Nat) (f : Outstanding → Outstanding) : (s.modOutstanding h f).clocks = s.clocks := rfl
@[simp] theorem State.modOutstanding_thermal (h : Nat) (f : Outstanding → Outstanding) : (s.modOutstanding h f).thermal = s.thermal := rfl
@[simp] theorem State.modOutstanding_control (h : Nat) (f : Outstanding → Outstanding) : (s.modOutstanding h f).control = s.control := rfl
@[simp] theorem State.modOutstanding_boot (h : Nat) (f : Outstanding → Outstanding) : (s.modOutstanding h f).boot = s.boot := rfl
@[simp] theorem State.modOutstanding_dbg (h : Nat) (f : Outstanding → Outstanding) : (s.modOutstanding h f).dbg = s.dbg := rfl
@[simp] theorem State.modOutstanding_freeCount (h : Nat) (f : Outstanding → Outstanding) : (s.modOutstanding h f).freeCount = s.freeCount := rfl

/-! ### State.modDie -/

@[simp] theorem State.modDie_pending (d : Nat) (f : Die → Die) : (s.modDie d f).pending = s.pending := rfl
@[simp] theorem State.modDie_fuses (d : Nat) (f : Die → Die) : (s.modDie d f).fuses = s.fuses := rfl
@[simp] theorem State.modDie_regs (d : Nat) (f : Die → Die) : (s.modDie d f).regs = s.regs := rfl
@[simp] theorem State.modDie_shadows (d : Nat) (f : Die → Die) : (s.modDie d f).shadows = s.shadows := rfl
@[simp] theorem State.modDie_blobs (d : Nat) (f : Die → Die) : (s.modDie d f).blobs = s.blobs := rfl
@[simp] theorem State.modDie_blobShadows (d : Nat) (f : Die → Die) : (s.modDie d f).blobShadows = s.blobShadows := rfl
@[simp] theorem State.modDie_hubNeeds (d : Nat) (f : Die → Die) : (s.modDie d f).hubNeeds = s.hubNeeds := rfl
@[simp] theorem State.modDie_commits (d : Nat) (f : Die → Die) : (s.modDie d f).commits = s.commits := rfl
@[simp] theorem State.modDie_seeds (d : Nat) (f : Die → Die) : (s.modDie d f).seeds = s.seeds := rfl
@[simp] theorem State.modDie_load (d : Nat) (f : Die → Die) : (s.modDie d f).load = s.load := rfl
@[simp] theorem State.modDie_clusters (d : Nat) (f : Die → Die) : (s.modDie d f).clusters = s.clusters := rfl
@[simp] theorem State.modDie_ctxs (d : Nat) (f : Die → Die) : (s.modDie d f).ctxs = s.ctxs := rfl
@[simp] theorem State.modDie_memory (d : Nat) (f : Die → Die) : (s.modDie d f).memory = s.memory := rfl
@[simp] theorem State.modDie_rig (d : Nat) (f : Die → Die) : (s.modDie d f).rig = s.rig := rfl
@[simp] theorem State.modDie_coll (d : Nat) (f : Die → Die) : (s.modDie d f).coll = s.coll := rfl
@[simp] theorem State.modDie_photonics (d : Nat) (f : Die → Die) : (s.modDie d f).photonics = s.photonics := rfl
@[simp] theorem State.modDie_domain (d : Nat) (f : Die → Die) : (s.modDie d f).domain = s.domain := rfl
@[simp] theorem State.modDie_messages (d : Nat) (f : Die → Die) : (s.modDie d f).messages = s.messages := rfl
@[simp] theorem State.modDie_clocks (d : Nat) (f : Die → Die) : (s.modDie d f).clocks = s.clocks := rfl
@[simp] theorem State.modDie_thermal (d : Nat) (f : Die → Die) : (s.modDie d f).thermal = s.thermal := rfl
@[simp] theorem State.modDie_control (d : Nat) (f : Die → Die) : (s.modDie d f).control = s.control := rfl
@[simp] theorem State.modDie_boot (d : Nat) (f : Die → Die) : (s.modDie d f).boot = s.boot := rfl
@[simp] theorem State.modDie_dbg (d : Nat) (f : Die → Die) : (s.modDie d f).dbg = s.dbg := rfl
@[simp] theorem State.modDie_freeCount (d : Nat) (f : Die → Die) : (s.modDie d f).freeCount = s.freeCount := rfl

/-! ### State.modLink -/

@[simp] theorem State.modLink_pending (i : Nat) (f : Link → Link) : (s.modLink i f).pending = s.pending := rfl
@[simp] theorem State.modLink_fuses (i : Nat) (f : Link → Link) : (s.modLink i f).fuses = s.fuses := rfl
@[simp] theorem State.modLink_regs (i : Nat) (f : Link → Link) : (s.modLink i f).regs = s.regs := rfl
@[simp] theorem State.modLink_shadows (i : Nat) (f : Link → Link) : (s.modLink i f).shadows = s.shadows := rfl
@[simp] theorem State.modLink_blobs (i : Nat) (f : Link → Link) : (s.modLink i f).blobs = s.blobs := rfl
@[simp] theorem State.modLink_blobShadows (i : Nat) (f : Link → Link) : (s.modLink i f).blobShadows = s.blobShadows := rfl
@[simp] theorem State.modLink_hubNeeds (i : Nat) (f : Link → Link) : (s.modLink i f).hubNeeds = s.hubNeeds := rfl
@[simp] theorem State.modLink_commits (i : Nat) (f : Link → Link) : (s.modLink i f).commits = s.commits := rfl
@[simp] theorem State.modLink_seeds (i : Nat) (f : Link → Link) : (s.modLink i f).seeds = s.seeds := rfl
@[simp] theorem State.modLink_load (i : Nat) (f : Link → Link) : (s.modLink i f).load = s.load := rfl
@[simp] theorem State.modLink_clusters (i : Nat) (f : Link → Link) : (s.modLink i f).clusters = s.clusters := rfl
@[simp] theorem State.modLink_ctxs (i : Nat) (f : Link → Link) : (s.modLink i f).ctxs = s.ctxs := rfl
@[simp] theorem State.modLink_memory (i : Nat) (f : Link → Link) : (s.modLink i f).memory = s.memory := rfl
@[simp] theorem State.modLink_rig (i : Nat) (f : Link → Link) : (s.modLink i f).rig = s.rig := rfl
@[simp] theorem State.modLink_coll (i : Nat) (f : Link → Link) : (s.modLink i f).coll = s.coll := rfl
@[simp] theorem State.modLink_photonics (i : Nat) (f : Link → Link) : (s.modLink i f).photonics = s.photonics := rfl
@[simp] theorem State.modLink_domain (i : Nat) (f : Link → Link) : (s.modLink i f).domain = s.domain := rfl
@[simp] theorem State.modLink_messages (i : Nat) (f : Link → Link) : (s.modLink i f).messages = s.messages := rfl
@[simp] theorem State.modLink_clocks (i : Nat) (f : Link → Link) : (s.modLink i f).clocks = s.clocks := rfl
@[simp] theorem State.modLink_thermal (i : Nat) (f : Link → Link) : (s.modLink i f).thermal = s.thermal := rfl
@[simp] theorem State.modLink_control (i : Nat) (f : Link → Link) : (s.modLink i f).control = s.control := rfl
@[simp] theorem State.modLink_boot (i : Nat) (f : Link → Link) : (s.modLink i f).boot = s.boot := rfl
@[simp] theorem State.modLink_dbg (i : Nat) (f : Link → Link) : (s.modLink i f).dbg = s.dbg := rfl
@[simp] theorem State.modLink_freeCount (i : Nat) (f : Link → Link) : (s.modLink i f).freeCount = s.freeCount := rfl

/-! ### State.modStay -/

@[simp] theorem State.modStay_pending (k : Nat) (f : Stay → Stay) : (s.modStay k f).pending = s.pending := rfl
@[simp] theorem State.modStay_fuses (k : Nat) (f : Stay → Stay) : (s.modStay k f).fuses = s.fuses := rfl
@[simp] theorem State.modStay_regs (k : Nat) (f : Stay → Stay) : (s.modStay k f).regs = s.regs := rfl
@[simp] theorem State.modStay_shadows (k : Nat) (f : Stay → Stay) : (s.modStay k f).shadows = s.shadows := rfl
@[simp] theorem State.modStay_blobs (k : Nat) (f : Stay → Stay) : (s.modStay k f).blobs = s.blobs := rfl
@[simp] theorem State.modStay_blobShadows (k : Nat) (f : Stay → Stay) : (s.modStay k f).blobShadows = s.blobShadows := rfl
@[simp] theorem State.modStay_hubNeeds (k : Nat) (f : Stay → Stay) : (s.modStay k f).hubNeeds = s.hubNeeds := rfl
@[simp] theorem State.modStay_commits (k : Nat) (f : Stay → Stay) : (s.modStay k f).commits = s.commits := rfl
@[simp] theorem State.modStay_seeds (k : Nat) (f : Stay → Stay) : (s.modStay k f).seeds = s.seeds := rfl
@[simp] theorem State.modStay_load (k : Nat) (f : Stay → Stay) : (s.modStay k f).load = s.load := rfl
@[simp] theorem State.modStay_clusters (k : Nat) (f : Stay → Stay) : (s.modStay k f).clusters = s.clusters := rfl
@[simp] theorem State.modStay_ctxs (k : Nat) (f : Stay → Stay) : (s.modStay k f).ctxs = s.ctxs := rfl
@[simp] theorem State.modStay_memory (k : Nat) (f : Stay → Stay) : (s.modStay k f).memory = s.memory := rfl
@[simp] theorem State.modStay_rig (k : Nat) (f : Stay → Stay) : (s.modStay k f).rig = s.rig := rfl
@[simp] theorem State.modStay_coll (k : Nat) (f : Stay → Stay) : (s.modStay k f).coll = s.coll := rfl
@[simp] theorem State.modStay_photonics (k : Nat) (f : Stay → Stay) : (s.modStay k f).photonics = s.photonics := rfl
@[simp] theorem State.modStay_domain (k : Nat) (f : Stay → Stay) : (s.modStay k f).domain = s.domain := rfl
@[simp] theorem State.modStay_messages (k : Nat) (f : Stay → Stay) : (s.modStay k f).messages = s.messages := rfl
@[simp] theorem State.modStay_clocks (k : Nat) (f : Stay → Stay) : (s.modStay k f).clocks = s.clocks := rfl
@[simp] theorem State.modStay_thermal (k : Nat) (f : Stay → Stay) : (s.modStay k f).thermal = s.thermal := rfl
@[simp] theorem State.modStay_control (k : Nat) (f : Stay → Stay) : (s.modStay k f).control = s.control := rfl
@[simp] theorem State.modStay_boot (k : Nat) (f : Stay → Stay) : (s.modStay k f).boot = s.boot := rfl
@[simp] theorem State.modStay_dbg (k : Nat) (f : Stay → Stay) : (s.modStay k f).dbg = s.dbg := rfl
@[simp] theorem State.modStay_freeCount (k : Nat) (f : Stay → Stay) : (s.modStay k f).freeCount = s.freeCount := rfl

/-! ### State.modHolder -/

@[simp] theorem State.modHolder_pending (h : Nat) (f : Holder → Holder) : (s.modHolder h f).pending = s.pending := rfl
@[simp] theorem State.modHolder_fuses (h : Nat) (f : Holder → Holder) : (s.modHolder h f).fuses = s.fuses := rfl
@[simp] theorem State.modHolder_regs (h : Nat) (f : Holder → Holder) : (s.modHolder h f).regs = s.regs := rfl
@[simp] theorem State.modHolder_shadows (h : Nat) (f : Holder → Holder) : (s.modHolder h f).shadows = s.shadows := rfl
@[simp] theorem State.modHolder_blobs (h : Nat) (f : Holder → Holder) : (s.modHolder h f).blobs = s.blobs := rfl
@[simp] theorem State.modHolder_blobShadows (h : Nat) (f : Holder → Holder) : (s.modHolder h f).blobShadows = s.blobShadows := rfl
@[simp] theorem State.modHolder_hubNeeds (h : Nat) (f : Holder → Holder) : (s.modHolder h f).hubNeeds = s.hubNeeds := rfl
@[simp] theorem State.modHolder_commits (h : Nat) (f : Holder → Holder) : (s.modHolder h f).commits = s.commits := rfl
@[simp] theorem State.modHolder_seeds (h : Nat) (f : Holder → Holder) : (s.modHolder h f).seeds = s.seeds := rfl
@[simp] theorem State.modHolder_load (h : Nat) (f : Holder → Holder) : (s.modHolder h f).load = s.load := rfl
@[simp] theorem State.modHolder_clusters (h : Nat) (f : Holder → Holder) : (s.modHolder h f).clusters = s.clusters := rfl
@[simp] theorem State.modHolder_ctxs (h : Nat) (f : Holder → Holder) : (s.modHolder h f).ctxs = s.ctxs := rfl
@[simp] theorem State.modHolder_memory (h : Nat) (f : Holder → Holder) : (s.modHolder h f).memory = s.memory := rfl
@[simp] theorem State.modHolder_rig (h : Nat) (f : Holder → Holder) : (s.modHolder h f).rig = s.rig := rfl
@[simp] theorem State.modHolder_coll (h : Nat) (f : Holder → Holder) : (s.modHolder h f).coll = s.coll := rfl
@[simp] theorem State.modHolder_photonics (h : Nat) (f : Holder → Holder) : (s.modHolder h f).photonics = s.photonics := rfl
@[simp] theorem State.modHolder_domain (h : Nat) (f : Holder → Holder) : (s.modHolder h f).domain = s.domain := rfl
@[simp] theorem State.modHolder_messages (h : Nat) (f : Holder → Holder) : (s.modHolder h f).messages = s.messages := rfl
@[simp] theorem State.modHolder_clocks (h : Nat) (f : Holder → Holder) : (s.modHolder h f).clocks = s.clocks := rfl
@[simp] theorem State.modHolder_thermal (h : Nat) (f : Holder → Holder) : (s.modHolder h f).thermal = s.thermal := rfl
@[simp] theorem State.modHolder_control (h : Nat) (f : Holder → Holder) : (s.modHolder h f).control = s.control := rfl
@[simp] theorem State.modHolder_boot (h : Nat) (f : Holder → Holder) : (s.modHolder h f).boot = s.boot := rfl
@[simp] theorem State.modHolder_dbg (h : Nat) (f : Holder → Holder) : (s.modHolder h f).dbg = s.dbg := rfl
@[simp] theorem State.modHolder_freeCount (h : Nat) (f : Holder → Holder) : (s.modHolder h f).freeCount = s.freeCount := rfl

/-! ### State.setPool -/

@[simp] theorem State.setPool_pending (n : Nat) : (s.setPool n).pending = s.pending := rfl
@[simp] theorem State.setPool_fuses (n : Nat) : (s.setPool n).fuses = s.fuses := rfl
@[simp] theorem State.setPool_regs (n : Nat) : (s.setPool n).regs = s.regs := rfl
@[simp] theorem State.setPool_shadows (n : Nat) : (s.setPool n).shadows = s.shadows := rfl
@[simp] theorem State.setPool_blobs (n : Nat) : (s.setPool n).blobs = s.blobs := rfl
@[simp] theorem State.setPool_blobShadows (n : Nat) : (s.setPool n).blobShadows = s.blobShadows := rfl
@[simp] theorem State.setPool_hubNeeds (n : Nat) : (s.setPool n).hubNeeds = s.hubNeeds := rfl
@[simp] theorem State.setPool_commits (n : Nat) : (s.setPool n).commits = s.commits := rfl
@[simp] theorem State.setPool_seeds (n : Nat) : (s.setPool n).seeds = s.seeds := rfl
@[simp] theorem State.setPool_load (n : Nat) : (s.setPool n).load = s.load := rfl
@[simp] theorem State.setPool_clusters (n : Nat) : (s.setPool n).clusters = s.clusters := rfl
@[simp] theorem State.setPool_ctxs (n : Nat) : (s.setPool n).ctxs = s.ctxs := rfl
@[simp] theorem State.setPool_memory (n : Nat) : (s.setPool n).memory = s.memory := rfl
@[simp] theorem State.setPool_rig (n : Nat) : (s.setPool n).rig = s.rig := rfl
@[simp] theorem State.setPool_coll (n : Nat) : (s.setPool n).coll = s.coll := rfl
@[simp] theorem State.setPool_photonics (n : Nat) : (s.setPool n).photonics = s.photonics := rfl
@[simp] theorem State.setPool_domain (n : Nat) : (s.setPool n).domain = s.domain := rfl
@[simp] theorem State.setPool_messages (n : Nat) : (s.setPool n).messages = s.messages := rfl
@[simp] theorem State.setPool_clocks (n : Nat) : (s.setPool n).clocks = s.clocks := rfl
@[simp] theorem State.setPool_thermal (n : Nat) : (s.setPool n).thermal = s.thermal := rfl
@[simp] theorem State.setPool_control (n : Nat) : (s.setPool n).control = s.control := rfl
@[simp] theorem State.setPool_boot (n : Nat) : (s.setPool n).boot = s.boot := rfl
@[simp] theorem State.setPool_dbg (n : Nat) : (s.setPool n).dbg = s.dbg := rfl
@[simp] theorem State.setPool_freeCount (n : Nat) : (s.setPool n).freeCount = s.freeCount := rfl

/-! ### State.modGuest -/

@[simp] theorem State.modGuest_pending (g : Nat) (f : Guest → Guest) : (s.modGuest g f).pending = s.pending := rfl
@[simp] theorem State.modGuest_fuses (g : Nat) (f : Guest → Guest) : (s.modGuest g f).fuses = s.fuses := rfl
@[simp] theorem State.modGuest_regs (g : Nat) (f : Guest → Guest) : (s.modGuest g f).regs = s.regs := rfl
@[simp] theorem State.modGuest_shadows (g : Nat) (f : Guest → Guest) : (s.modGuest g f).shadows = s.shadows := rfl
@[simp] theorem State.modGuest_blobs (g : Nat) (f : Guest → Guest) : (s.modGuest g f).blobs = s.blobs := rfl
@[simp] theorem State.modGuest_blobShadows (g : Nat) (f : Guest → Guest) : (s.modGuest g f).blobShadows = s.blobShadows := rfl
@[simp] theorem State.modGuest_hubNeeds (g : Nat) (f : Guest → Guest) : (s.modGuest g f).hubNeeds = s.hubNeeds := rfl
@[simp] theorem State.modGuest_commits (g : Nat) (f : Guest → Guest) : (s.modGuest g f).commits = s.commits := rfl
@[simp] theorem State.modGuest_seeds (g : Nat) (f : Guest → Guest) : (s.modGuest g f).seeds = s.seeds := rfl
@[simp] theorem State.modGuest_load (g : Nat) (f : Guest → Guest) : (s.modGuest g f).load = s.load := rfl
@[simp] theorem State.modGuest_clusters (g : Nat) (f : Guest → Guest) : (s.modGuest g f).clusters = s.clusters := rfl
@[simp] theorem State.modGuest_ctxs (g : Nat) (f : Guest → Guest) : (s.modGuest g f).ctxs = s.ctxs := rfl
@[simp] theorem State.modGuest_memory (g : Nat) (f : Guest → Guest) : (s.modGuest g f).memory = s.memory := rfl
@[simp] theorem State.modGuest_rig (g : Nat) (f : Guest → Guest) : (s.modGuest g f).rig = s.rig := rfl
@[simp] theorem State.modGuest_coll (g : Nat) (f : Guest → Guest) : (s.modGuest g f).coll = s.coll := rfl
@[simp] theorem State.modGuest_photonics (g : Nat) (f : Guest → Guest) : (s.modGuest g f).photonics = s.photonics := rfl
@[simp] theorem State.modGuest_domain (g : Nat) (f : Guest → Guest) : (s.modGuest g f).domain = s.domain := rfl
@[simp] theorem State.modGuest_messages (g : Nat) (f : Guest → Guest) : (s.modGuest g f).messages = s.messages := rfl
@[simp] theorem State.modGuest_clocks (g : Nat) (f : Guest → Guest) : (s.modGuest g f).clocks = s.clocks := rfl
@[simp] theorem State.modGuest_thermal (g : Nat) (f : Guest → Guest) : (s.modGuest g f).thermal = s.thermal := rfl
@[simp] theorem State.modGuest_control (g : Nat) (f : Guest → Guest) : (s.modGuest g f).control = s.control := rfl
@[simp] theorem State.modGuest_boot (g : Nat) (f : Guest → Guest) : (s.modGuest g f).boot = s.boot := rfl
@[simp] theorem State.modGuest_dbg (g : Nat) (f : Guest → Guest) : (s.modGuest g f).dbg = s.dbg := rfl
@[simp] theorem State.modGuest_freeCount (g : Nat) (f : Guest → Guest) : (s.modGuest g f).freeCount = s.freeCount := rfl

/-! ### State.modRegion -/

@[simp] theorem State.modRegion_pending (k : Nat) (f : Clock → Clock) : (s.modRegion k f).pending = s.pending := rfl
@[simp] theorem State.modRegion_fuses (k : Nat) (f : Clock → Clock) : (s.modRegion k f).fuses = s.fuses := rfl
@[simp] theorem State.modRegion_regs (k : Nat) (f : Clock → Clock) : (s.modRegion k f).regs = s.regs := rfl
@[simp] theorem State.modRegion_shadows (k : Nat) (f : Clock → Clock) : (s.modRegion k f).shadows = s.shadows := rfl
@[simp] theorem State.modRegion_blobs (k : Nat) (f : Clock → Clock) : (s.modRegion k f).blobs = s.blobs := rfl
@[simp] theorem State.modRegion_blobShadows (k : Nat) (f : Clock → Clock) : (s.modRegion k f).blobShadows = s.blobShadows := rfl
@[simp] theorem State.modRegion_hubNeeds (k : Nat) (f : Clock → Clock) : (s.modRegion k f).hubNeeds = s.hubNeeds := rfl
@[simp] theorem State.modRegion_commits (k : Nat) (f : Clock → Clock) : (s.modRegion k f).commits = s.commits := rfl
@[simp] theorem State.modRegion_seeds (k : Nat) (f : Clock → Clock) : (s.modRegion k f).seeds = s.seeds := rfl
@[simp] theorem State.modRegion_load (k : Nat) (f : Clock → Clock) : (s.modRegion k f).load = s.load := rfl
@[simp] theorem State.modRegion_clusters (k : Nat) (f : Clock → Clock) : (s.modRegion k f).clusters = s.clusters := rfl
@[simp] theorem State.modRegion_ctxs (k : Nat) (f : Clock → Clock) : (s.modRegion k f).ctxs = s.ctxs := rfl
@[simp] theorem State.modRegion_memory (k : Nat) (f : Clock → Clock) : (s.modRegion k f).memory = s.memory := rfl
@[simp] theorem State.modRegion_rig (k : Nat) (f : Clock → Clock) : (s.modRegion k f).rig = s.rig := rfl
@[simp] theorem State.modRegion_coll (k : Nat) (f : Clock → Clock) : (s.modRegion k f).coll = s.coll := rfl
@[simp] theorem State.modRegion_photonics (k : Nat) (f : Clock → Clock) : (s.modRegion k f).photonics = s.photonics := rfl
@[simp] theorem State.modRegion_domain (k : Nat) (f : Clock → Clock) : (s.modRegion k f).domain = s.domain := rfl
@[simp] theorem State.modRegion_messages (k : Nat) (f : Clock → Clock) : (s.modRegion k f).messages = s.messages := rfl
@[simp] theorem State.modRegion_package (k : Nat) (f : Clock → Clock) : (s.modRegion k f).package = s.package := rfl
@[simp] theorem State.modRegion_thermal (k : Nat) (f : Clock → Clock) : (s.modRegion k f).thermal = s.thermal := rfl
@[simp] theorem State.modRegion_control (k : Nat) (f : Clock → Clock) : (s.modRegion k f).control = s.control := rfl
@[simp] theorem State.modRegion_boot (k : Nat) (f : Clock → Clock) : (s.modRegion k f).boot = s.boot := rfl
@[simp] theorem State.modRegion_dbg (k : Nat) (f : Clock → Clock) : (s.modRegion k f).dbg = s.dbg := rfl
@[simp] theorem State.modRegion_freeCount (k : Nat) (f : Clock → Clock) : (s.modRegion k f).freeCount = s.freeCount := rfl

/-! ### State.modElement -/

@[simp] theorem State.modElement_pending (k : Nat) (f : Element → Element) : (s.modElement k f).pending = s.pending := rfl
@[simp] theorem State.modElement_fuses (k : Nat) (f : Element → Element) : (s.modElement k f).fuses = s.fuses := rfl
@[simp] theorem State.modElement_regs (k : Nat) (f : Element → Element) : (s.modElement k f).regs = s.regs := rfl
@[simp] theorem State.modElement_shadows (k : Nat) (f : Element → Element) : (s.modElement k f).shadows = s.shadows := rfl
@[simp] theorem State.modElement_blobs (k : Nat) (f : Element → Element) : (s.modElement k f).blobs = s.blobs := rfl
@[simp] theorem State.modElement_blobShadows (k : Nat) (f : Element → Element) : (s.modElement k f).blobShadows = s.blobShadows := rfl
@[simp] theorem State.modElement_hubNeeds (k : Nat) (f : Element → Element) : (s.modElement k f).hubNeeds = s.hubNeeds := rfl
@[simp] theorem State.modElement_commits (k : Nat) (f : Element → Element) : (s.modElement k f).commits = s.commits := rfl
@[simp] theorem State.modElement_seeds (k : Nat) (f : Element → Element) : (s.modElement k f).seeds = s.seeds := rfl
@[simp] theorem State.modElement_load (k : Nat) (f : Element → Element) : (s.modElement k f).load = s.load := rfl
@[simp] theorem State.modElement_clusters (k : Nat) (f : Element → Element) : (s.modElement k f).clusters = s.clusters := rfl
@[simp] theorem State.modElement_ctxs (k : Nat) (f : Element → Element) : (s.modElement k f).ctxs = s.ctxs := rfl
@[simp] theorem State.modElement_memory (k : Nat) (f : Element → Element) : (s.modElement k f).memory = s.memory := rfl
@[simp] theorem State.modElement_rig (k : Nat) (f : Element → Element) : (s.modElement k f).rig = s.rig := rfl
@[simp] theorem State.modElement_coll (k : Nat) (f : Element → Element) : (s.modElement k f).coll = s.coll := rfl
@[simp] theorem State.modElement_photonics (k : Nat) (f : Element → Element) : (s.modElement k f).photonics = s.photonics := rfl
@[simp] theorem State.modElement_domain (k : Nat) (f : Element → Element) : (s.modElement k f).domain = s.domain := rfl
@[simp] theorem State.modElement_messages (k : Nat) (f : Element → Element) : (s.modElement k f).messages = s.messages := rfl
@[simp] theorem State.modElement_package (k : Nat) (f : Element → Element) : (s.modElement k f).package = s.package := rfl
@[simp] theorem State.modElement_clocks (k : Nat) (f : Element → Element) : (s.modElement k f).clocks = s.clocks := rfl
@[simp] theorem State.modElement_control (k : Nat) (f : Element → Element) : (s.modElement k f).control = s.control := rfl
@[simp] theorem State.modElement_boot (k : Nat) (f : Element → Element) : (s.modElement k f).boot = s.boot := rfl
@[simp] theorem State.modElement_dbg (k : Nat) (f : Element → Element) : (s.modElement k f).dbg = s.dbg := rfl
@[simp] theorem State.modElement_freeCount (k : Nat) (f : Element → Element) : (s.modElement k f).freeCount = s.freeCount := rfl

/-! ### State.modComplex -/

@[simp] theorem State.modComplex_pending (k : Nat) (f : Complex → Complex) : (s.modComplex k f).pending = s.pending := rfl
@[simp] theorem State.modComplex_fuses (k : Nat) (f : Complex → Complex) : (s.modComplex k f).fuses = s.fuses := rfl
@[simp] theorem State.modComplex_regs (k : Nat) (f : Complex → Complex) : (s.modComplex k f).regs = s.regs := rfl
@[simp] theorem State.modComplex_shadows (k : Nat) (f : Complex → Complex) : (s.modComplex k f).shadows = s.shadows := rfl
@[simp] theorem State.modComplex_blobs (k : Nat) (f : Complex → Complex) : (s.modComplex k f).blobs = s.blobs := rfl
@[simp] theorem State.modComplex_blobShadows (k : Nat) (f : Complex → Complex) : (s.modComplex k f).blobShadows = s.blobShadows := rfl
@[simp] theorem State.modComplex_hubNeeds (k : Nat) (f : Complex → Complex) : (s.modComplex k f).hubNeeds = s.hubNeeds := rfl
@[simp] theorem State.modComplex_commits (k : Nat) (f : Complex → Complex) : (s.modComplex k f).commits = s.commits := rfl
@[simp] theorem State.modComplex_seeds (k : Nat) (f : Complex → Complex) : (s.modComplex k f).seeds = s.seeds := rfl
@[simp] theorem State.modComplex_load (k : Nat) (f : Complex → Complex) : (s.modComplex k f).load = s.load := rfl
@[simp] theorem State.modComplex_clusters (k : Nat) (f : Complex → Complex) : (s.modComplex k f).clusters = s.clusters := rfl
@[simp] theorem State.modComplex_ctxs (k : Nat) (f : Complex → Complex) : (s.modComplex k f).ctxs = s.ctxs := rfl
@[simp] theorem State.modComplex_memory (k : Nat) (f : Complex → Complex) : (s.modComplex k f).memory = s.memory := rfl
@[simp] theorem State.modComplex_rig (k : Nat) (f : Complex → Complex) : (s.modComplex k f).rig = s.rig := rfl
@[simp] theorem State.modComplex_coll (k : Nat) (f : Complex → Complex) : (s.modComplex k f).coll = s.coll := rfl
@[simp] theorem State.modComplex_photonics (k : Nat) (f : Complex → Complex) : (s.modComplex k f).photonics = s.photonics := rfl
@[simp] theorem State.modComplex_domain (k : Nat) (f : Complex → Complex) : (s.modComplex k f).domain = s.domain := rfl
@[simp] theorem State.modComplex_messages (k : Nat) (f : Complex → Complex) : (s.modComplex k f).messages = s.messages := rfl
@[simp] theorem State.modComplex_package (k : Nat) (f : Complex → Complex) : (s.modComplex k f).package = s.package := rfl
@[simp] theorem State.modComplex_clocks (k : Nat) (f : Complex → Complex) : (s.modComplex k f).clocks = s.clocks := rfl
@[simp] theorem State.modComplex_thermal (k : Nat) (f : Complex → Complex) : (s.modComplex k f).thermal = s.thermal := rfl
@[simp] theorem State.modComplex_boot (k : Nat) (f : Complex → Complex) : (s.modComplex k f).boot = s.boot := rfl
@[simp] theorem State.modComplex_dbg (k : Nat) (f : Complex → Complex) : (s.modComplex k f).dbg = s.dbg := rfl
@[simp] theorem State.modComplex_freeCount (k : Nat) (f : Complex → Complex) : (s.modComplex k f).freeCount = s.freeCount := rfl

/-! ### State.modKrytae -/

@[simp] theorem State.modKrytae_pending (k : Nat) (f : Krytae → Krytae) : (s.modKrytae k f).pending = s.pending := rfl
@[simp] theorem State.modKrytae_fuses (k : Nat) (f : Krytae → Krytae) : (s.modKrytae k f).fuses = s.fuses := rfl
@[simp] theorem State.modKrytae_regs (k : Nat) (f : Krytae → Krytae) : (s.modKrytae k f).regs = s.regs := rfl
@[simp] theorem State.modKrytae_shadows (k : Nat) (f : Krytae → Krytae) : (s.modKrytae k f).shadows = s.shadows := rfl
@[simp] theorem State.modKrytae_blobs (k : Nat) (f : Krytae → Krytae) : (s.modKrytae k f).blobs = s.blobs := rfl
@[simp] theorem State.modKrytae_blobShadows (k : Nat) (f : Krytae → Krytae) : (s.modKrytae k f).blobShadows = s.blobShadows := rfl
@[simp] theorem State.modKrytae_hubNeeds (k : Nat) (f : Krytae → Krytae) : (s.modKrytae k f).hubNeeds = s.hubNeeds := rfl
@[simp] theorem State.modKrytae_commits (k : Nat) (f : Krytae → Krytae) : (s.modKrytae k f).commits = s.commits := rfl
@[simp] theorem State.modKrytae_seeds (k : Nat) (f : Krytae → Krytae) : (s.modKrytae k f).seeds = s.seeds := rfl
@[simp] theorem State.modKrytae_load (k : Nat) (f : Krytae → Krytae) : (s.modKrytae k f).load = s.load := rfl
@[simp] theorem State.modKrytae_clusters (k : Nat) (f : Krytae → Krytae) : (s.modKrytae k f).clusters = s.clusters := rfl
@[simp] theorem State.modKrytae_ctxs (k : Nat) (f : Krytae → Krytae) : (s.modKrytae k f).ctxs = s.ctxs := rfl
@[simp] theorem State.modKrytae_memory (k : Nat) (f : Krytae → Krytae) : (s.modKrytae k f).memory = s.memory := rfl
@[simp] theorem State.modKrytae_rig (k : Nat) (f : Krytae → Krytae) : (s.modKrytae k f).rig = s.rig := rfl
@[simp] theorem State.modKrytae_coll (k : Nat) (f : Krytae → Krytae) : (s.modKrytae k f).coll = s.coll := rfl
@[simp] theorem State.modKrytae_photonics (k : Nat) (f : Krytae → Krytae) : (s.modKrytae k f).photonics = s.photonics := rfl
@[simp] theorem State.modKrytae_domain (k : Nat) (f : Krytae → Krytae) : (s.modKrytae k f).domain = s.domain := rfl
@[simp] theorem State.modKrytae_messages (k : Nat) (f : Krytae → Krytae) : (s.modKrytae k f).messages = s.messages := rfl
@[simp] theorem State.modKrytae_package (k : Nat) (f : Krytae → Krytae) : (s.modKrytae k f).package = s.package := rfl
@[simp] theorem State.modKrytae_clocks (k : Nat) (f : Krytae → Krytae) : (s.modKrytae k f).clocks = s.clocks := rfl
@[simp] theorem State.modKrytae_thermal (k : Nat) (f : Krytae → Krytae) : (s.modKrytae k f).thermal = s.thermal := rfl
@[simp] theorem State.modKrytae_boot (k : Nat) (f : Krytae → Krytae) : (s.modKrytae k f).boot = s.boot := rfl
@[simp] theorem State.modKrytae_dbg (k : Nat) (f : Krytae → Krytae) : (s.modKrytae k f).dbg = s.dbg := rfl
@[simp] theorem State.modKrytae_freeCount (k : Nat) (f : Krytae → Krytae) : (s.modKrytae k f).freeCount = s.freeCount := rfl

end Sys2Proof.Machine
end

