-- ==== Sys2Proof/Laws/Ops.lean ====
section
/-! SUPPORT. What the shared operations of Machine/Ops.lean can do: for each the parts of State that it may change, said once as
an equation and then field by field. -/

namespace Sys2Proof.Machine

variable (s : State)

theorem State.toPorts_only (f : Sent) : ∃ k, s.toPorts f = { s with control := { s.control with krytae := k } } := by
  unfold State.toPorts; cases f.frame <;> exact ⟨_, rfl⟩

theorem State.emit_only (o : Output) : ∃ c, s.emit o = { s with control := c } := by
  unfold State.emit; dsimp only; split
  · obtain ⟨c, h⟩ := State.toPorts_only { s with control := _ } _; exact ⟨_, h⟩
  · exact ⟨_, rfl⟩

theorem State.wire_only (o : Output) : ∃ c d, s.wire o = { s with control := c, domain := d } := by
  unfold State.wire; dsimp only; repeat' split
  all_goals exact ⟨_, _, rfl⟩

theorem State.slate_only (u c x : Nat) (i : Ids) (d : List Byte) : ∃ g, s.slate u c x i d = { s with dbg := g } := ⟨_, rfl⟩

theorem State.slateOnly_only (u c x : Nat) (i : Ids) (d : List Byte) : ∃ g, s.slateOnly u c x i d = { s with dbg := g } := by
  unfold State.slateOnly; split <;> exact ⟨_, rfl⟩

theorem State.queueEvent_only (e : EventIn) (a : Nat) : ∃ c r, s.queueEvent e a = { s with control := c, regs := r } := by
  simp only [State.queueEvent]
  split
  · split <;> exact ⟨_, _, rfl⟩
  · split
    · rename_i hb _
      split
      · obtain ⟨c, hc⟩ := State.emit_only { (s.countReg 0x831006 32 1) with
          control := { s.control with events := _ } } _
        exact ⟨c, _, hc⟩
      · obtain ⟨c, hc⟩ := State.emit_only { s with control := { s.control with events := _ } } _
        exact ⟨c, _, hc⟩
    · split <;> exact ⟨_, _, rfl⟩

theorem State.deliverEvent_only (e : EventIn) : ∃ c r, s.deliverEvent e = { s with control := c, regs := r } := by
  simp only [State.deliverEvent]
  repeat' split
  all_goals first
    | exact ⟨_, _, rfl⟩
    | (obtain ⟨c, r, h⟩ := State.queueEvent_only { s with control := _ } e _; exact ⟨c, r, h⟩)

theorem State.invalidRelease_only (i v : Nat) : ∃ c d r, s.invalidRelease i v = { s with control := c, dbg := d, regs := r } := by
  obtain ⟨c, r, h⟩ := State.deliverEvent_only (s.slate 0x3000 0x1601 0xFFFF {} (leBytes 2 i ++ leBytes 8 v))
    (s.mkEvent 0x1601 1 0x30 0x3000 0xFFFF {} (leBytes 2 i ++ leBytes 8 v))
  exact ⟨c, _, r, h⟩

/-- Raising an event changes the control plane, the slates, and at most the count of invalid releases. -/
theorem State.raiseEvent_only (e : EventIn) : ∃ c d r, s.raiseEvent e = { s with control := c, dbg := d, regs := r } := by
  simp only [State.raiseEvent]
  generalize hs : s.slate e.unit e.code e.ctx { ctx := e.ctx, layer := e.layer, operator := e.operator, step := e.step } e.detail = s1
  obtain ⟨g, hg⟩ := State.slate_only s e.unit e.code e.ctx
    { ctx := e.ctx, layer := e.layer, operator := e.operator, step := e.step } e.detail
  obtain ⟨c, r, h⟩ := State.deliverEvent_only s1 e
  rw [hg] at hs
  subst hs
  rw [h]
  split
  · obtain ⟨c', d', r', h'⟩ := State.invalidRelease_only ({ s with control := c, dbg := g, regs := r } : State) 0xFFFF
      (s.reg 0xB02006)
    exact ⟨c', d', r', h'⟩
  · exact ⟨c, g, r, rfl⟩

theorem State.raiseSev_only (c v d u : Nat) (l : List Byte) :
    ∃ k g r, s.raiseSev c v d u l = { s with control := k, dbg := g, regs := r } := State.raiseEvent_only s _

theorem State.raise_only (c d u : Nat) (l : List Byte) :
    ∃ k g r, s.raise c d u l = { s with control := k, dbg := g, regs := r } := State.raiseEvent_only s _

theorem State.raiseFor_only (c d u x : Nat) (i : Ids) (l : List Byte) :
    ∃ k g r, s.raiseFor c d u x i l = { s with control := k, dbg := g, regs := r } := State.raiseEvent_only s _

theorem State.divFree_only (a : Int) (b : Nat) : ∃ n, (s.divFree a b).2 = { s with freeCount := n } := by
  unfold State.divFree; dsimp only; split
  · exact ⟨_, rfl⟩
  · exact ⟨_, rfl⟩

theorem State.tick_only : ∃ k, s.tick = { s with clocks := k } := by
  unfold State.tick; dsimp only; repeat' split
  all_goals exact ⟨_, rfl⟩

/-! ### State.toPorts -/

@[simp] theorem State.toPorts_pending (f : Sent) : (s.toPorts f).pending = s.pending := by
  obtain ⟨_, h⟩ := State.toPorts_only s f; rw [h]
@[simp] theorem State.toPorts_fuses (f : Sent) : (s.toPorts f).fuses = s.fuses := by
  obtain ⟨_, h⟩ := State.toPorts_only s f; rw [h]
@[simp] theorem State.toPorts_regs (f : Sent) : (s.toPorts f).regs = s.regs := by
  obtain ⟨_, h⟩ := State.toPorts_only s f; rw [h]
@[simp] theorem State.toPorts_shadows (f : Sent) : (s.toPorts f).shadows = s.shadows := by
  obtain ⟨_, h⟩ := State.toPorts_only s f; rw [h]
@[simp] theorem State.toPorts_blobs (f : Sent) : (s.toPorts f).blobs = s.blobs := by
  obtain ⟨_, h⟩ := State.toPorts_only s f; rw [h]
@[simp] theorem State.toPorts_blobShadows (f : Sent) : (s.toPorts f).blobShadows = s.blobShadows := by
  obtain ⟨_, h⟩ := State.toPorts_only s f; rw [h]
@[simp] theorem State.toPorts_hubNeeds (f : Sent) : (s.toPorts f).hubNeeds = s.hubNeeds := by
  obtain ⟨_, h⟩ := State.toPorts_only s f; rw [h]
@[simp] theorem State.toPorts_commits (f : Sent) : (s.toPorts f).commits = s.commits := by
  obtain ⟨_, h⟩ := State.toPorts_only s f; rw [h]
@[simp] theorem State.toPorts_seeds (f : Sent) : (s.toPorts f).seeds = s.seeds := by
  obtain ⟨_, h⟩ := State.toPorts_only s f; rw [h]
@[simp] theorem State.toPorts_load (f : Sent) : (s.toPorts f).load = s.load := by
  obtain ⟨_, h⟩ := State.toPorts_only s f; rw [h]
@[simp] theorem State.toPorts_clusters (f : Sent) : (s.toPorts f).clusters = s.clusters := by
  obtain ⟨_, h⟩ := State.toPorts_only s f; rw [h]
@[simp] theorem State.toPorts_ctxs (f : Sent) : (s.toPorts f).ctxs = s.ctxs := by
  obtain ⟨_, h⟩ := State.toPorts_only s f; rw [h]
@[simp] theorem State.toPorts_memory (f : Sent) : (s.toPorts f).memory = s.memory := by
  obtain ⟨_, h⟩ := State.toPorts_only s f; rw [h]
@[simp] theorem State.toPorts_rig (f : Sent) : (s.toPorts f).rig = s.rig := by
  obtain ⟨_, h⟩ := State.toPorts_only s f; rw [h]
@[simp] theorem State.toPorts_coll (f : Sent) : (s.toPorts f).coll = s.coll := by
  obtain ⟨_, h⟩ := State.toPorts_only s f; rw [h]
@[simp] theorem State.toPorts_photonics (f : Sent) : (s.toPorts f).photonics = s.photonics := by
  obtain ⟨_, h⟩ := State.toPorts_only s f; rw [h]
@[simp] theorem State.toPorts_domain (f : Sent) : (s.toPorts f).domain = s.domain := by
  obtain ⟨_, h⟩ := State.toPorts_only s f; rw [h]
@[simp] theorem State.toPorts_messages (f : Sent) : (s.toPorts f).messages = s.messages := by
  obtain ⟨_, h⟩ := State.toPorts_only s f; rw [h]
@[simp] theorem State.toPorts_package (f : Sent) : (s.toPorts f).package = s.package := by
  obtain ⟨_, h⟩ := State.toPorts_only s f; rw [h]
@[simp] theorem State.toPorts_clocks (f : Sent) : (s.toPorts f).clocks = s.clocks := by
  obtain ⟨_, h⟩ := State.toPorts_only s f; rw [h]
@[simp] theorem State.toPorts_thermal (f : Sent) : (s.toPorts f).thermal = s.thermal := by
  obtain ⟨_, h⟩ := State.toPorts_only s f; rw [h]
@[simp] theorem State.toPorts_boot (f : Sent) : (s.toPorts f).boot = s.boot := by
  obtain ⟨_, h⟩ := State.toPorts_only s f; rw [h]
@[simp] theorem State.toPorts_dbg (f : Sent) : (s.toPorts f).dbg = s.dbg := by
  obtain ⟨_, h⟩ := State.toPorts_only s f; rw [h]
@[simp] theorem State.toPorts_freeCount (f : Sent) : (s.toPorts f).freeCount = s.freeCount := by
  obtain ⟨_, h⟩ := State.toPorts_only s f; rw [h]

/-! ### State.emit -/

@[simp] theorem State.emit_pending (o : Output) : (s.emit o).pending = s.pending := by
  obtain ⟨_, h⟩ := State.emit_only s o; rw [h]
@[simp] theorem State.emit_fuses (o : Output) : (s.emit o).fuses = s.fuses := by
  obtain ⟨_, h⟩ := State.emit_only s o; rw [h]
@[simp] theorem State.emit_regs (o : Output) : (s.emit o).regs = s.regs := by
  obtain ⟨_, h⟩ := State.emit_only s o; rw [h]
@[simp] theorem State.emit_shadows (o : Output) : (s.emit o).shadows = s.shadows := by
  obtain ⟨_, h⟩ := State.emit_only s o; rw [h]
@[simp] theorem State.emit_blobs (o : Output) : (s.emit o).blobs = s.blobs := by
  obtain ⟨_, h⟩ := State.emit_only s o; rw [h]
@[simp] theorem State.emit_blobShadows (o : Output) : (s.emit o).blobShadows = s.blobShadows := by
  obtain ⟨_, h⟩ := State.emit_only s o; rw [h]
@[simp] theorem State.emit_hubNeeds (o : Output) : (s.emit o).hubNeeds = s.hubNeeds := by
  obtain ⟨_, h⟩ := State.emit_only s o; rw [h]
@[simp] theorem State.emit_commits (o : Output) : (s.emit o).commits = s.commits := by
  obtain ⟨_, h⟩ := State.emit_only s o; rw [h]
@[simp] theorem State.emit_seeds (o : Output) : (s.emit o).seeds = s.seeds := by
  obtain ⟨_, h⟩ := State.emit_only s o; rw [h]
@[simp] theorem State.emit_load (o : Output) : (s.emit o).load = s.load := by
  obtain ⟨_, h⟩ := State.emit_only s o; rw [h]
@[simp] theorem State.emit_clusters (o : Output) : (s.emit o).clusters = s.clusters := by
  obtain ⟨_, h⟩ := State.emit_only s o; rw [h]
@[simp] theorem State.emit_ctxs (o : Output) : (s.emit o).ctxs = s.ctxs := by
  obtain ⟨_, h⟩ := State.emit_only s o; rw [h]
@[simp] theorem State.emit_memory (o : Output) : (s.emit o).memory = s.memory := by
  obtain ⟨_, h⟩ := State.emit_only s o; rw [h]
@[simp] theorem State.emit_rig (o : Output) : (s.emit o).rig = s.rig := by
  obtain ⟨_, h⟩ := State.emit_only s o; rw [h]
@[simp] theorem State.emit_coll (o : Output) : (s.emit o).coll = s.coll := by
  obtain ⟨_, h⟩ := State.emit_only s o; rw [h]
@[simp] theorem State.emit_photonics (o : Output) : (s.emit o).photonics = s.photonics := by
  obtain ⟨_, h⟩ := State.emit_only s o; rw [h]
@[simp] theorem State.emit_domain (o : Output) : (s.emit o).domain = s.domain := by
  obtain ⟨_, h⟩ := State.emit_only s o; rw [h]
@[simp] theorem State.emit_messages (o : Output) : (s.emit o).messages = s.messages := by
  obtain ⟨_, h⟩ := State.emit_only s o; rw [h]
@[simp] theorem State.emit_package (o : Output) : (s.emit o).package = s.package := by
  obtain ⟨_, h⟩ := State.emit_only s o; rw [h]
@[simp] theorem State.emit_clocks (o : Output) : (s.emit o).clocks = s.clocks := by
  obtain ⟨_, h⟩ := State.emit_only s o; rw [h]
@[simp] theorem State.emit_thermal (o : Output) : (s.emit o).thermal = s.thermal := by
  obtain ⟨_, h⟩ := State.emit_only s o; rw [h]
@[simp] theorem State.emit_boot (o : Output) : (s.emit o).boot = s.boot := by
  obtain ⟨_, h⟩ := State.emit_only s o; rw [h]
@[simp] theorem State.emit_dbg (o : Output) : (s.emit o).dbg = s.dbg := by
  obtain ⟨_, h⟩ := State.emit_only s o; rw [h]
@[simp] theorem State.emit_freeCount (o : Output) : (s.emit o).freeCount = s.freeCount := by
  obtain ⟨_, h⟩ := State.emit_only s o; rw [h]

/-! ### State.wire -/

@[simp] theorem State.wire_pending (o : Output) : (s.wire o).pending = s.pending := by
  obtain ⟨_, _, h⟩ := State.wire_only s o; rw [h]
@[simp] theorem State.wire_fuses (o : Output) : (s.wire o).fuses = s.fuses := by
  obtain ⟨_, _, h⟩ := State.wire_only s o; rw [h]
@[simp] theorem State.wire_regs (o : Output) : (s.wire o).regs = s.regs := by
  obtain ⟨_, _, h⟩ := State.wire_only s o; rw [h]
@[simp] theorem State.wire_shadows (o : Output) : (s.wire o).shadows = s.shadows := by
  obtain ⟨_, _, h⟩ := State.wire_only s o; rw [h]
@[simp] theorem State.wire_blobs (o : Output) : (s.wire o).blobs = s.blobs := by
  obtain ⟨_, _, h⟩ := State.wire_only s o; rw [h]
@[simp] theorem State.wire_blobShadows (o : Output) : (s.wire o).blobShadows = s.blobShadows := by
  obtain ⟨_, _, h⟩ := State.wire_only s o; rw [h]
@[simp] theorem State.wire_hubNeeds (o : Output) : (s.wire o).hubNeeds = s.hubNeeds := by
  obtain ⟨_, _, h⟩ := State.wire_only s o; rw [h]
@[simp] theorem State.wire_commits (o : Output) : (s.wire o).commits = s.commits := by
  obtain ⟨_, _, h⟩ := State.wire_only s o; rw [h]
@[simp] theorem State.wire_seeds (o : Output) : (s.wire o).seeds = s.seeds := by
  obtain ⟨_, _, h⟩ := State.wire_only s o; rw [h]
@[simp] theorem State.wire_load (o : Output) : (s.wire o).load = s.load := by
  obtain ⟨_, _, h⟩ := State.wire_only s o; rw [h]
@[simp] theorem State.wire_clusters (o : Output) : (s.wire o).clusters = s.clusters := by
  obtain ⟨_, _, h⟩ := State.wire_only s o; rw [h]
@[simp] theorem State.wire_ctxs (o : Output) : (s.wire o).ctxs = s.ctxs := by
  obtain ⟨_, _, h⟩ := State.wire_only s o; rw [h]
@[simp] theorem State.wire_memory (o : Output) : (s.wire o).memory = s.memory := by
  obtain ⟨_, _, h⟩ := State.wire_only s o; rw [h]
@[simp] theorem State.wire_rig (o : Output) : (s.wire o).rig = s.rig := by
  obtain ⟨_, _, h⟩ := State.wire_only s o; rw [h]
@[simp] theorem State.wire_coll (o : Output) : (s.wire o).coll = s.coll := by
  obtain ⟨_, _, h⟩ := State.wire_only s o; rw [h]
@[simp] theorem State.wire_photonics (o : Output) : (s.wire o).photonics = s.photonics := by
  obtain ⟨_, _, h⟩ := State.wire_only s o; rw [h]
@[simp] theorem State.wire_messages (o : Output) : (s.wire o).messages = s.messages := by
  obtain ⟨_, _, h⟩ := State.wire_only s o; rw [h]
@[simp] theorem State.wire_package (o : Output) : (s.wire o).package = s.package := by
  obtain ⟨_, _, h⟩ := State.wire_only s o; rw [h]
@[simp] theorem State.wire_clocks (o : Output) : (s.wire o).clocks = s.clocks := by
  obtain ⟨_, _, h⟩ := State.wire_only s o; rw [h]
@[simp] theorem State.wire_thermal (o : Output) : (s.wire o).thermal = s.thermal := by
  obtain ⟨_, _, h⟩ := State.wire_only s o; rw [h]
@[simp] theorem State.wire_boot (o : Output) : (s.wire o).boot = s.boot := by
  obtain ⟨_, _, h⟩ := State.wire_only s o; rw [h]
@[simp] theorem State.wire_dbg (o : Output) : (s.wire o).dbg = s.dbg := by
  obtain ⟨_, _, h⟩ := State.wire_only s o; rw [h]
@[simp] theorem State.wire_freeCount (o : Output) : (s.wire o).freeCount = s.freeCount := by
  obtain ⟨_, _, h⟩ := State.wire_only s o; rw [h]

/-! ### State.slate -/

@[simp] theorem State.slate_pending (u c x : Nat) (i : Ids) (d : List Byte) : (s.slate u c x i d).pending = s.pending := by
  obtain ⟨_, h⟩ := State.slate_only s u c x i d; rw [h]
@[simp] theorem State.slate_fuses (u c x : Nat) (i : Ids) (d : List Byte) : (s.slate u c x i d).fuses = s.fuses := by
  obtain ⟨_, h⟩ := State.slate_only s u c x i d; rw [h]
@[simp] theorem State.slate_regs (u c x : Nat) (i : Ids) (d : List Byte) : (s.slate u c x i d).regs = s.regs := by
  obtain ⟨_, h⟩ := State.slate_only s u c x i d; rw [h]
@[simp] theorem State.slate_shadows (u c x : Nat) (i : Ids) (d : List Byte) : (s.slate u c x i d).shadows = s.shadows := by
  obtain ⟨_, h⟩ := State.slate_only s u c x i d; rw [h]
@[simp] theorem State.slate_blobs (u c x : Nat) (i : Ids) (d : List Byte) : (s.slate u c x i d).blobs = s.blobs := by
  obtain ⟨_, h⟩ := State.slate_only s u c x i d; rw [h]
@[simp] theorem State.slate_blobShadows (u c x : Nat) (i : Ids) (d : List Byte) : (s.slate u c x i d).blobShadows = s.blobShadows := by
  obtain ⟨_, h⟩ := State.slate_only s u c x i d; rw [h]
@[simp] theorem State.slate_hubNeeds (u c x : Nat) (i : Ids) (d : List Byte) : (s.slate u c x i d).hubNeeds = s.hubNeeds := by
  obtain ⟨_, h⟩ := State.slate_only s u c x i d; rw [h]
@[simp] theorem State.slate_commits (u c x : Nat) (i : Ids) (d : List Byte) : (s.slate u c x i d).commits = s.commits := by
  obtain ⟨_, h⟩ := State.slate_only s u c x i d; rw [h]
@[simp] theorem State.slate_seeds (u c x : Nat) (i : Ids) (d : List Byte) : (s.slate u c x i d).seeds = s.seeds := by
  obtain ⟨_, h⟩ := State.slate_only s u c x i d; rw [h]
@[simp] theorem State.slate_load (u c x : Nat) (i : Ids) (d : List Byte) : (s.slate u c x i d).load = s.load := by
  obtain ⟨_, h⟩ := State.slate_only s u c x i d; rw [h]
@[simp] theorem State.slate_clusters (u c x : Nat) (i : Ids) (d : List Byte) : (s.slate u c x i d).clusters = s.clusters := by
  obtain ⟨_, h⟩ := State.slate_only s u c x i d; rw [h]
@[simp] theorem State.slate_ctxs (u c x : Nat) (i : Ids) (d : List Byte) : (s.slate u c x i d).ctxs = s.ctxs := by
  obtain ⟨_, h⟩ := State.slate_only s u c x i d; rw [h]
@[simp] theorem State.slate_memory (u c x : Nat) (i : Ids) (d : List Byte) : (s.slate u c x i d).memory = s.memory := by
  obtain ⟨_, h⟩ := State.slate_only s u c x i d; rw [h]
@[simp] theorem State.slate_rig (u c x : Nat) (i : Ids) (d : List Byte) : (s.slate u c x i d).rig = s.rig := by
  obtain ⟨_, h⟩ := State.slate_only s u c x i d; rw [h]
@[simp] theorem State.slate_coll (u c x : Nat) (i : Ids) (d : List Byte) : (s.slate u c x i d).coll = s.coll := by
  obtain ⟨_, h⟩ := State.slate_only s u c x i d; rw [h]
@[simp] theorem State.slate_photonics (u c x : Nat) (i : Ids) (d : List Byte) : (s.slate u c x i d).photonics = s.photonics := by
  obtain ⟨_, h⟩ := State.slate_only s u c x i d; rw [h]
@[simp] theorem State.slate_domain (u c x : Nat) (i : Ids) (d : List Byte) : (s.slate u c x i d).domain = s.domain := by
  obtain ⟨_, h⟩ := State.slate_only s u c x i d; rw [h]
@[simp] theorem State.slate_messages (u c x : Nat) (i : Ids) (d : List Byte) : (s.slate u c x i d).messages = s.messages := by
  obtain ⟨_, h⟩ := State.slate_only s u c x i d; rw [h]
@[simp] theorem State.slate_package (u c x : Nat) (i : Ids) (d : List Byte) : (s.slate u c x i d).package = s.package := by
  obtain ⟨_, h⟩ := State.slate_only s u c x i d; rw [h]
@[simp] theorem State.slate_clocks (u c x : Nat) (i : Ids) (d : List Byte) : (s.slate u c x i d).clocks = s.clocks := by
  obtain ⟨_, h⟩ := State.slate_only s u c x i d; rw [h]
@[simp] theorem State.slate_thermal (u c x : Nat) (i : Ids) (d : List Byte) : (s.slate u c x i d).thermal = s.thermal := by
  obtain ⟨_, h⟩ := State.slate_only s u c x i d; rw [h]
@[simp] theorem State.slate_control (u c x : Nat) (i : Ids) (d : List Byte) : (s.slate u c x i d).control = s.control := by
  obtain ⟨_, h⟩ := State.slate_only s u c x i d; rw [h]
@[simp] theorem State.slate_boot (u c x : Nat) (i : Ids) (d : List Byte) : (s.slate u c x i d).boot = s.boot := by
  obtain ⟨_, h⟩ := State.slate_only s u c x i d; rw [h]
@[simp] theorem State.slate_freeCount (u c x : Nat) (i : Ids) (d : List Byte) : (s.slate u c x i d).freeCount = s.freeCount := by
  obtain ⟨_, h⟩ := State.slate_only s u c x i d; rw [h]

/-! ### State.slateOnly -/

@[simp] theorem State.slateOnly_pending (u c x : Nat) (i : Ids) (d : List Byte) : (s.slateOnly u c x i d).pending = s.pending := by
  obtain ⟨_, h⟩ := State.slateOnly_only s u c x i d; rw [h]
@[simp] theorem State.slateOnly_fuses (u c x : Nat) (i : Ids) (d : List Byte) : (s.slateOnly u c x i d).fuses = s.fuses := by
  obtain ⟨_, h⟩ := State.slateOnly_only s u c x i d; rw [h]
@[simp] theorem State.slateOnly_regs (u c x : Nat) (i : Ids) (d : List Byte) : (s.slateOnly u c x i d).regs = s.regs := by
  obtain ⟨_, h⟩ := State.slateOnly_only s u c x i d; rw [h]
@[simp] theorem State.slateOnly_shadows (u c x : Nat) (i : Ids) (d : List Byte) : (s.slateOnly u c x i d).shadows = s.shadows := by
  obtain ⟨_, h⟩ := State.slateOnly_only s u c x i d; rw [h]
@[simp] theorem State.slateOnly_blobs (u c x : Nat) (i : Ids) (d : List Byte) : (s.slateOnly u c x i d).blobs = s.blobs := by
  obtain ⟨_, h⟩ := State.slateOnly_only s u c x i d; rw [h]
@[simp] theorem State.slateOnly_blobShadows (u c x : Nat) (i : Ids) (d : List Byte) : (s.slateOnly u c x i d).blobShadows = s.blobShadows := by
  obtain ⟨_, h⟩ := State.slateOnly_only s u c x i d; rw [h]
@[simp] theorem State.slateOnly_hubNeeds (u c x : Nat) (i : Ids) (d : List Byte) : (s.slateOnly u c x i d).hubNeeds = s.hubNeeds := by
  obtain ⟨_, h⟩ := State.slateOnly_only s u c x i d; rw [h]
@[simp] theorem State.slateOnly_commits (u c x : Nat) (i : Ids) (d : List Byte) : (s.slateOnly u c x i d).commits = s.commits := by
  obtain ⟨_, h⟩ := State.slateOnly_only s u c x i d; rw [h]
@[simp] theorem State.slateOnly_seeds (u c x : Nat) (i : Ids) (d : List Byte) : (s.slateOnly u c x i d).seeds = s.seeds := by
  obtain ⟨_, h⟩ := State.slateOnly_only s u c x i d; rw [h]
@[simp] theorem State.slateOnly_load (u c x : Nat) (i : Ids) (d : List Byte) : (s.slateOnly u c x i d).load = s.load := by
  obtain ⟨_, h⟩ := State.slateOnly_only s u c x i d; rw [h]
@[simp] theorem State.slateOnly_clusters (u c x : Nat) (i : Ids) (d : List Byte) : (s.slateOnly u c x i d).clusters = s.clusters := by
  obtain ⟨_, h⟩ := State.slateOnly_only s u c x i d; rw [h]
@[simp] theorem State.slateOnly_ctxs (u c x : Nat) (i : Ids) (d : List Byte) : (s.slateOnly u c x i d).ctxs = s.ctxs := by
  obtain ⟨_, h⟩ := State.slateOnly_only s u c x i d; rw [h]
@[simp] theorem State.slateOnly_memory (u c x : Nat) (i : Ids) (d : List Byte) : (s.slateOnly u c x i d).memory = s.memory := by
  obtain ⟨_, h⟩ := State.slateOnly_only s u c x i d; rw [h]
@[simp] theorem State.slateOnly_rig (u c x : Nat) (i : Ids) (d : List Byte) : (s.slateOnly u c x i d).rig = s.rig := by
  obtain ⟨_, h⟩ := State.slateOnly_only s u c x i d; rw [h]
@[simp] theorem State.slateOnly_coll (u c x : Nat) (i : Ids) (d : List Byte) : (s.slateOnly u c x i d).coll = s.coll := by
  obtain ⟨_, h⟩ := State.slateOnly_only s u c x i d; rw [h]
@[simp] theorem State.slateOnly_photonics (u c x : Nat) (i : Ids) (d : List Byte) : (s.slateOnly u c x i d).photonics = s.photonics := by
  obtain ⟨_, h⟩ := State.slateOnly_only s u c x i d; rw [h]
@[simp] theorem State.slateOnly_domain (u c x : Nat) (i : Ids) (d : List Byte) : (s.slateOnly u c x i d).domain = s.domain := by
  obtain ⟨_, h⟩ := State.slateOnly_only s u c x i d; rw [h]
@[simp] theorem State.slateOnly_messages (u c x : Nat) (i : Ids) (d : List Byte) : (s.slateOnly u c x i d).messages = s.messages := by
  obtain ⟨_, h⟩ := State.slateOnly_only s u c x i d; rw [h]
@[simp] theorem State.slateOnly_package (u c x : Nat) (i : Ids) (d : List Byte) : (s.slateOnly u c x i d).package = s.package := by
  obtain ⟨_, h⟩ := State.slateOnly_only s u c x i d; rw [h]
@[simp] theorem State.slateOnly_clocks (u c x : Nat) (i : Ids) (d : List Byte) : (s.slateOnly u c x i d).clocks = s.clocks := by
  obtain ⟨_, h⟩ := State.slateOnly_only s u c x i d; rw [h]
@[simp] theorem State.slateOnly_thermal (u c x : Nat) (i : Ids) (d : List Byte) : (s.slateOnly u c x i d).thermal = s.thermal := by
  obtain ⟨_, h⟩ := State.slateOnly_only s u c x i d; rw [h]
@[simp] theorem State.slateOnly_control (u c x : Nat) (i : Ids) (d : List Byte) : (s.slateOnly u c x i d).control = s.control := by
  obtain ⟨_, h⟩ := State.slateOnly_only s u c x i d; rw [h]
@[simp] theorem State.slateOnly_boot (u c x : Nat) (i : Ids) (d : List Byte) : (s.slateOnly u c x i d).boot = s.boot := by
  obtain ⟨_, h⟩ := State.slateOnly_only s u c x i d; rw [h]
@[simp] theorem State.slateOnly_freeCount (u c x : Nat) (i : Ids) (d : List Byte) : (s.slateOnly u c x i d).freeCount = s.freeCount := by
  obtain ⟨_, h⟩ := State.slateOnly_only s u c x i d; rw [h]

/-! ### State.queueEvent -/

@[simp] theorem State.queueEvent_pending (e : EventIn) (a : Nat) : (s.queueEvent e a).pending = s.pending := by
  obtain ⟨_, _, h⟩ := State.queueEvent_only s e a; rw [h]
@[simp] theorem State.queueEvent_fuses (e : EventIn) (a : Nat) : (s.queueEvent e a).fuses = s.fuses := by
  obtain ⟨_, _, h⟩ := State.queueEvent_only s e a; rw [h]
@[simp] theorem State.queueEvent_shadows (e : EventIn) (a : Nat) : (s.queueEvent e a).shadows = s.shadows := by
  obtain ⟨_, _, h⟩ := State.queueEvent_only s e a; rw [h]
@[simp] theorem State.queueEvent_blobs (e : EventIn) (a : Nat) : (s.queueEvent e a).blobs = s.blobs := by
  obtain ⟨_, _, h⟩ := State.queueEvent_only s e a; rw [h]
@[simp] theorem State.queueEvent_blobShadows (e : EventIn) (a : Nat) : (s.queueEvent e a).blobShadows = s.blobShadows := by
  obtain ⟨_, _, h⟩ := State.queueEvent_only s e a; rw [h]
@[simp] theorem State.queueEvent_hubNeeds (e : EventIn) (a : Nat) : (s.queueEvent e a).hubNeeds = s.hubNeeds := by
  obtain ⟨_, _, h⟩ := State.queueEvent_only s e a; rw [h]
@[simp] theorem State.queueEvent_commits (e : EventIn) (a : Nat) : (s.queueEvent e a).commits = s.commits := by
  obtain ⟨_, _, h⟩ := State.queueEvent_only s e a; rw [h]
@[simp] theorem State.queueEvent_seeds (e : EventIn) (a : Nat) : (s.queueEvent e a).seeds = s.seeds := by
  obtain ⟨_, _, h⟩ := State.queueEvent_only s e a; rw [h]
@[simp] theorem State.queueEvent_load (e : EventIn) (a : Nat) : (s.queueEvent e a).load = s.load := by
  obtain ⟨_, _, h⟩ := State.queueEvent_only s e a; rw [h]
@[simp] theorem State.queueEvent_clusters (e : EventIn) (a : Nat) : (s.queueEvent e a).clusters = s.clusters := by
  obtain ⟨_, _, h⟩ := State.queueEvent_only s e a; rw [h]
@[simp] theorem State.queueEvent_ctxs (e : EventIn) (a : Nat) : (s.queueEvent e a).ctxs = s.ctxs := by
  obtain ⟨_, _, h⟩ := State.queueEvent_only s e a; rw [h]
@[simp] theorem State.queueEvent_memory (e : EventIn) (a : Nat) : (s.queueEvent e a).memory = s.memory := by
  obtain ⟨_, _, h⟩ := State.queueEvent_only s e a; rw [h]
@[simp] theorem State.queueEvent_rig (e : EventIn) (a : Nat) : (s.queueEvent e a).rig = s.rig := by
  obtain ⟨_, _, h⟩ := State.queueEvent_only s e a; rw [h]
@[simp] theorem State.queueEvent_coll (e : EventIn) (a : Nat) : (s.queueEvent e a).coll = s.coll := by
  obtain ⟨_, _, h⟩ := State.queueEvent_only s e a; rw [h]
@[simp] theorem State.queueEvent_photonics (e : EventIn) (a : Nat) : (s.queueEvent e a).photonics = s.photonics := by
  obtain ⟨_, _, h⟩ := State.queueEvent_only s e a; rw [h]
@[simp] theorem State.queueEvent_domain (e : EventIn) (a : Nat) : (s.queueEvent e a).domain = s.domain := by
  obtain ⟨_, _, h⟩ := State.queueEvent_only s e a; rw [h]
@[simp] theorem State.queueEvent_messages (e : EventIn) (a : Nat) : (s.queueEvent e a).messages = s.messages := by
  obtain ⟨_, _, h⟩ := State.queueEvent_only s e a; rw [h]
@[simp] theorem State.queueEvent_package (e : EventIn) (a : Nat) : (s.queueEvent e a).package = s.package := by
  obtain ⟨_, _, h⟩ := State.queueEvent_only s e a; rw [h]
@[simp] theorem State.queueEvent_clocks (e : EventIn) (a : Nat) : (s.queueEvent e a).clocks = s.clocks := by
  obtain ⟨_, _, h⟩ := State.queueEvent_only s e a; rw [h]
@[simp] theorem State.queueEvent_thermal (e : EventIn) (a : Nat) : (s.queueEvent e a).thermal = s.thermal := by
  obtain ⟨_, _, h⟩ := State.queueEvent_only s e a; rw [h]
@[simp] theorem State.queueEvent_boot (e : EventIn) (a : Nat) : (s.queueEvent e a).boot = s.boot := by
  obtain ⟨_, _, h⟩ := State.queueEvent_only s e a; rw [h]
@[simp] theorem State.queueEvent_dbg (e : EventIn) (a : Nat) : (s.queueEvent e a).dbg = s.dbg := by
  obtain ⟨_, _, h⟩ := State.queueEvent_only s e a; rw [h]
@[simp] theorem State.queueEvent_freeCount (e : EventIn) (a : Nat) : (s.queueEvent e a).freeCount = s.freeCount := by
  obtain ⟨_, _, h⟩ := State.queueEvent_only s e a; rw [h]

/-! ### State.deliverEvent -/

@[simp] theorem State.deliverEvent_pending (e : EventIn) : (s.deliverEvent e).pending = s.pending := by
  obtain ⟨_, _, h⟩ := State.deliverEvent_only s e; rw [h]
@[simp] theorem State.deliverEvent_fuses (e : EventIn) : (s.deliverEvent e).fuses = s.fuses := by
  obtain ⟨_, _, h⟩ := State.deliverEvent_only s e; rw [h]
@[simp] theorem State.deliverEvent_shadows (e : EventIn) : (s.deliverEvent e).shadows = s.shadows := by
  obtain ⟨_, _, h⟩ := State.deliverEvent_only s e; rw [h]
@[simp] theorem State.deliverEvent_blobs (e : EventIn) : (s.deliverEvent e).blobs = s.blobs := by
  obtain ⟨_, _, h⟩ := State.deliverEvent_only s e; rw [h]
@[simp] theorem State.deliverEvent_blobShadows (e : EventIn) : (s.deliverEvent e).blobShadows = s.blobShadows := by
  obtain ⟨_, _, h⟩ := State.deliverEvent_only s e; rw [h]
@[simp] theorem State.deliverEvent_hubNeeds (e : EventIn) : (s.deliverEvent e).hubNeeds = s.hubNeeds := by
  obtain ⟨_, _, h⟩ := State.deliverEvent_only s e; rw [h]
@[simp] theorem State.deliverEvent_commits (e : EventIn) : (s.deliverEvent e).commits = s.commits := by
  obtain ⟨_, _, h⟩ := State.deliverEvent_only s e; rw [h]
@[simp] theorem State.deliverEvent_seeds (e : EventIn) : (s.deliverEvent e).seeds = s.seeds := by
  obtain ⟨_, _, h⟩ := State.deliverEvent_only s e; rw [h]
@[simp] theorem State.deliverEvent_load (e : EventIn) : (s.deliverEvent e).load = s.load := by
  obtain ⟨_, _, h⟩ := State.deliverEvent_only s e; rw [h]
@[simp] theorem State.deliverEvent_clusters (e : EventIn) : (s.deliverEvent e).clusters = s.clusters := by
  obtain ⟨_, _, h⟩ := State.deliverEvent_only s e; rw [h]
@[simp] theorem State.deliverEvent_ctxs (e : EventIn) : (s.deliverEvent e).ctxs = s.ctxs := by
  obtain ⟨_, _, h⟩ := State.deliverEvent_only s e; rw [h]
@[simp] theorem State.deliverEvent_memory (e : EventIn) : (s.deliverEvent e).memory = s.memory := by
  obtain ⟨_, _, h⟩ := State.deliverEvent_only s e; rw [h]
@[simp] theorem State.deliverEvent_rig (e : EventIn) : (s.deliverEvent e).rig = s.rig := by
  obtain ⟨_, _, h⟩ := State.deliverEvent_only s e; rw [h]
@[simp] theorem State.deliverEvent_coll (e : EventIn) : (s.deliverEvent e).coll = s.coll := by
  obtain ⟨_, _, h⟩ := State.deliverEvent_only s e; rw [h]
@[simp] theorem State.deliverEvent_photonics (e : EventIn) : (s.deliverEvent e).photonics = s.photonics := by
  obtain ⟨_, _, h⟩ := State.deliverEvent_only s e; rw [h]
@[simp] theorem State.deliverEvent_domain (e : EventIn) : (s.deliverEvent e).domain = s.domain := by
  obtain ⟨_, _, h⟩ := State.deliverEvent_only s e; rw [h]
@[simp] theorem State.deliverEvent_messages (e : EventIn) : (s.deliverEvent e).messages = s.messages := by
  obtain ⟨_, _, h⟩ := State.deliverEvent_only s e; rw [h]
@[simp] theorem State.deliverEvent_package (e : EventIn) : (s.deliverEvent e).package = s.package := by
  obtain ⟨_, _, h⟩ := State.deliverEvent_only s e; rw [h]
@[simp] theorem State.deliverEvent_clocks (e : EventIn) : (s.deliverEvent e).clocks = s.clocks := by
  obtain ⟨_, _, h⟩ := State.deliverEvent_only s e; rw [h]
@[simp] theorem State.deliverEvent_thermal (e : EventIn) : (s.deliverEvent e).thermal = s.thermal := by
  obtain ⟨_, _, h⟩ := State.deliverEvent_only s e; rw [h]
@[simp] theorem State.deliverEvent_boot (e : EventIn) : (s.deliverEvent e).boot = s.boot := by
  obtain ⟨_, _, h⟩ := State.deliverEvent_only s e; rw [h]
@[simp] theorem State.deliverEvent_dbg (e : EventIn) : (s.deliverEvent e).dbg = s.dbg := by
  obtain ⟨_, _, h⟩ := State.deliverEvent_only s e; rw [h]
@[simp] theorem State.deliverEvent_freeCount (e : EventIn) : (s.deliverEvent e).freeCount = s.freeCount := by
  obtain ⟨_, _, h⟩ := State.deliverEvent_only s e; rw [h]

/-! ### State.invalidRelease -/

@[simp] theorem State.invalidRelease_pending (i v : Nat) : (s.invalidRelease i v).pending = s.pending := by
  obtain ⟨_, _, _, h⟩ := State.invalidRelease_only s i v; rw [h]
@[simp] theorem State.invalidRelease_fuses (i v : Nat) : (s.invalidRelease i v).fuses = s.fuses := by
  obtain ⟨_, _, _, h⟩ := State.invalidRelease_only s i v; rw [h]
@[simp] theorem State.invalidRelease_shadows (i v : Nat) : (s.invalidRelease i v).shadows = s.shadows := by
  obtain ⟨_, _, _, h⟩ := State.invalidRelease_only s i v; rw [h]
@[simp] theorem State.invalidRelease_blobs (i v : Nat) : (s.invalidRelease i v).blobs = s.blobs := by
  obtain ⟨_, _, _, h⟩ := State.invalidRelease_only s i v; rw [h]
@[simp] theorem State.invalidRelease_blobShadows (i v : Nat) : (s.invalidRelease i v).blobShadows = s.blobShadows := by
  obtain ⟨_, _, _, h⟩ := State.invalidRelease_only s i v; rw [h]
@[simp] theorem State.invalidRelease_hubNeeds (i v : Nat) : (s.invalidRelease i v).hubNeeds = s.hubNeeds := by
  obtain ⟨_, _, _, h⟩ := State.invalidRelease_only s i v; rw [h]
@[simp] theorem State.invalidRelease_commits (i v : Nat) : (s.invalidRelease i v).commits = s.commits := by
  obtain ⟨_, _, _, h⟩ := State.invalidRelease_only s i v; rw [h]
@[simp] theorem State.invalidRelease_seeds (i v : Nat) : (s.invalidRelease i v).seeds = s.seeds := by
  obtain ⟨_, _, _, h⟩ := State.invalidRelease_only s i v; rw [h]
@[simp] theorem State.invalidRelease_load (i v : Nat) : (s.invalidRelease i v).load = s.load := by
  obtain ⟨_, _, _, h⟩ := State.invalidRelease_only s i v; rw [h]
@[simp] theorem State.invalidRelease_clusters (i v : Nat) : (s.invalidRelease i v).clusters = s.clusters := by
  obtain ⟨_, _, _, h⟩ := State.invalidRelease_only s i v; rw [h]
@[simp] theorem State.invalidRelease_ctxs (i v : Nat) : (s.invalidRelease i v).ctxs = s.ctxs := by
  obtain ⟨_, _, _, h⟩ := State.invalidRelease_only s i v; rw [h]
@[simp] theorem State.invalidRelease_memory (i v : Nat) : (s.invalidRelease i v).memory = s.memory := by
  obtain ⟨_, _, _, h⟩ := State.invalidRelease_only s i v; rw [h]
@[simp] theorem State.invalidRelease_rig (i v : Nat) : (s.invalidRelease i v).rig = s.rig := by
  obtain ⟨_, _, _, h⟩ := State.invalidRelease_only s i v; rw [h]
@[simp] theorem State.invalidRelease_coll (i v : Nat) : (s.invalidRelease i v).coll = s.coll := by
  obtain ⟨_, _, _, h⟩ := State.invalidRelease_only s i v; rw [h]
@[simp] theorem State.invalidRelease_photonics (i v : Nat) : (s.invalidRelease i v).photonics = s.photonics := by
  obtain ⟨_, _, _, h⟩ := State.invalidRelease_only s i v; rw [h]
@[simp] theorem State.invalidRelease_domain (i v : Nat) : (s.invalidRelease i v).domain = s.domain := by
  obtain ⟨_, _, _, h⟩ := State.invalidRelease_only s i v; rw [h]
@[simp] theorem State.invalidRelease_messages (i v : Nat) : (s.invalidRelease i v).messages = s.messages := by
  obtain ⟨_, _, _, h⟩ := State.invalidRelease_only s i v; rw [h]
@[simp] theorem State.invalidRelease_package (i v : Nat) : (s.invalidRelease i v).package = s.package := by
  obtain ⟨_, _, _, h⟩ := State.invalidRelease_only s i v; rw [h]
@[simp] theorem State.invalidRelease_clocks (i v : Nat) : (s.invalidRelease i v).clocks = s.clocks := by
  obtain ⟨_, _, _, h⟩ := State.invalidRelease_only s i v; rw [h]
@[simp] theorem State.invalidRelease_thermal (i v : Nat) : (s.invalidRelease i v).thermal = s.thermal := by
  obtain ⟨_, _, _, h⟩ := State.invalidRelease_only s i v; rw [h]
@[simp] theorem State.invalidRelease_boot (i v : Nat) : (s.invalidRelease i v).boot = s.boot := by
  obtain ⟨_, _, _, h⟩ := State.invalidRelease_only s i v; rw [h]
@[simp] theorem State.invalidRelease_freeCount (i v : Nat) : (s.invalidRelease i v).freeCount = s.freeCount := by
  obtain ⟨_, _, _, h⟩ := State.invalidRelease_only s i v; rw [h]

/-! ### State.raiseEvent -/

@[simp] theorem State.raiseEvent_pending (e : EventIn) : (s.raiseEvent e).pending = s.pending := by
  obtain ⟨_, _, _, h⟩ := State.raiseEvent_only s e; rw [h]
@[simp] theorem State.raiseEvent_fuses (e : EventIn) : (s.raiseEvent e).fuses = s.fuses := by
  obtain ⟨_, _, _, h⟩ := State.raiseEvent_only s e; rw [h]
@[simp] theorem State.raiseEvent_shadows (e : EventIn) : (s.raiseEvent e).shadows = s.shadows := by
  obtain ⟨_, _, _, h⟩ := State.raiseEvent_only s e; rw [h]
@[simp] theorem State.raiseEvent_blobs (e : EventIn) : (s.raiseEvent e).blobs = s.blobs := by
  obtain ⟨_, _, _, h⟩ := State.raiseEvent_only s e; rw [h]
@[simp] theorem State.raiseEvent_blobShadows (e : EventIn) : (s.raiseEvent e).blobShadows = s.blobShadows := by
  obtain ⟨_, _, _, h⟩ := State.raiseEvent_only s e; rw [h]
@[simp] theorem State.raiseEvent_hubNeeds (e : EventIn) : (s.raiseEvent e).hubNeeds = s.hubNeeds := by
  obtain ⟨_, _, _, h⟩ := State.raiseEvent_only s e; rw [h]
@[simp] theorem State.raiseEvent_commits (e : EventIn) : (s.raiseEvent e).commits = s.commits := by
  obtain ⟨_, _, _, h⟩ := State.raiseEvent_only s e; rw [h]
@[simp] theorem State.raiseEvent_seeds (e : EventIn) : (s.raiseEvent e).seeds = s.seeds := by
  obtain ⟨_, _, _, h⟩ := State.raiseEvent_only s e; rw [h]
@[simp] theorem State.raiseEvent_load (e : EventIn) : (s.raiseEvent e).load = s.load := by
  obtain ⟨_, _, _, h⟩ := State.raiseEvent_only s e; rw [h]
@[simp] theorem State.raiseEvent_clusters (e : EventIn) : (s.raiseEvent e).clusters = s.clusters := by
  obtain ⟨_, _, _, h⟩ := State.raiseEvent_only s e; rw [h]
@[simp] theorem State.raiseEvent_ctxs (e : EventIn) : (s.raiseEvent e).ctxs = s.ctxs := by
  obtain ⟨_, _, _, h⟩ := State.raiseEvent_only s e; rw [h]
@[simp] theorem State.raiseEvent_memory (e : EventIn) : (s.raiseEvent e).memory = s.memory := by
  obtain ⟨_, _, _, h⟩ := State.raiseEvent_only s e; rw [h]
@[simp] theorem State.raiseEvent_rig (e : EventIn) : (s.raiseEvent e).rig = s.rig := by
  obtain ⟨_, _, _, h⟩ := State.raiseEvent_only s e; rw [h]
@[simp] theorem State.raiseEvent_coll (e : EventIn) : (s.raiseEvent e).coll = s.coll := by
  obtain ⟨_, _, _, h⟩ := State.raiseEvent_only s e; rw [h]
@[simp] theorem State.raiseEvent_photonics (e : EventIn) : (s.raiseEvent e).photonics = s.photonics := by
  obtain ⟨_, _, _, h⟩ := State.raiseEvent_only s e; rw [h]
@[simp] theorem State.raiseEvent_domain (e : EventIn) : (s.raiseEvent e).domain = s.domain := by
  obtain ⟨_, _, _, h⟩ := State.raiseEvent_only s e; rw [h]
@[simp] theorem State.raiseEvent_messages (e : EventIn) : (s.raiseEvent e).messages = s.messages := by
  obtain ⟨_, _, _, h⟩ := State.raiseEvent_only s e; rw [h]
@[simp] theorem State.raiseEvent_package (e : EventIn) : (s.raiseEvent e).package = s.package := by
  obtain ⟨_, _, _, h⟩ := State.raiseEvent_only s e; rw [h]
@[simp] theorem State.raiseEvent_clocks (e : EventIn) : (s.raiseEvent e).clocks = s.clocks := by
  obtain ⟨_, _, _, h⟩ := State.raiseEvent_only s e; rw [h]
@[simp] theorem State.raiseEvent_thermal (e : EventIn) : (s.raiseEvent e).thermal = s.thermal := by
  obtain ⟨_, _, _, h⟩ := State.raiseEvent_only s e; rw [h]
@[simp] theorem State.raiseEvent_boot (e : EventIn) : (s.raiseEvent e).boot = s.boot := by
  obtain ⟨_, _, _, h⟩ := State.raiseEvent_only s e; rw [h]
@[simp] theorem State.raiseEvent_freeCount (e : EventIn) : (s.raiseEvent e).freeCount = s.freeCount := by
  obtain ⟨_, _, _, h⟩ := State.raiseEvent_only s e; rw [h]

/-! ### State.raiseSev -/

@[simp] theorem State.raiseSev_pending (c v d u : Nat) (l : List Byte) : (s.raiseSev c v d u l).pending = s.pending := by
  obtain ⟨_, _, _, h⟩ := State.raiseSev_only s c v d u l; rw [h]
@[simp] theorem State.raiseSev_fuses (c v d u : Nat) (l : List Byte) : (s.raiseSev c v d u l).fuses = s.fuses := by
  obtain ⟨_, _, _, h⟩ := State.raiseSev_only s c v d u l; rw [h]
@[simp] theorem State.raiseSev_shadows (c v d u : Nat) (l : List Byte) : (s.raiseSev c v d u l).shadows = s.shadows := by
  obtain ⟨_, _, _, h⟩ := State.raiseSev_only s c v d u l; rw [h]
@[simp] theorem State.raiseSev_blobs (c v d u : Nat) (l : List Byte) : (s.raiseSev c v d u l).blobs = s.blobs := by
  obtain ⟨_, _, _, h⟩ := State.raiseSev_only s c v d u l; rw [h]
@[simp] theorem State.raiseSev_blobShadows (c v d u : Nat) (l : List Byte) : (s.raiseSev c v d u l).blobShadows = s.blobShadows := by
  obtain ⟨_, _, _, h⟩ := State.raiseSev_only s c v d u l; rw [h]
@[simp] theorem State.raiseSev_hubNeeds (c v d u : Nat) (l : List Byte) : (s.raiseSev c v d u l).hubNeeds = s.hubNeeds := by
  obtain ⟨_, _, _, h⟩ := State.raiseSev_only s c v d u l; rw [h]
@[simp] theorem State.raiseSev_commits (c v d u : Nat) (l : List Byte) : (s.raiseSev c v d u l).commits = s.commits := by
  obtain ⟨_, _, _, h⟩ := State.raiseSev_only s c v d u l; rw [h]
@[simp] theorem State.raiseSev_seeds (c v d u : Nat) (l : List Byte) : (s.raiseSev c v d u l).seeds = s.seeds := by
  obtain ⟨_, _, _, h⟩ := State.raiseSev_only s c v d u l; rw [h]
@[simp] theorem State.raiseSev_load (c v d u : Nat) (l : List Byte) : (s.raiseSev c v d u l).load = s.load := by
  obtain ⟨_, _, _, h⟩ := State.raiseSev_only s c v d u l; rw [h]
@[simp] theorem State.raiseSev_clusters (c v d u : Nat) (l : List Byte) : (s.raiseSev c v d u l).clusters = s.clusters := by
  obtain ⟨_, _, _, h⟩ := State.raiseSev_only s c v d u l; rw [h]
@[simp] theorem State.raiseSev_ctxs (c v d u : Nat) (l : List Byte) : (s.raiseSev c v d u l).ctxs = s.ctxs := by
  obtain ⟨_, _, _, h⟩ := State.raiseSev_only s c v d u l; rw [h]
@[simp] theorem State.raiseSev_memory (c v d u : Nat) (l : List Byte) : (s.raiseSev c v d u l).memory = s.memory := by
  obtain ⟨_, _, _, h⟩ := State.raiseSev_only s c v d u l; rw [h]
@[simp] theorem State.raiseSev_rig (c v d u : Nat) (l : List Byte) : (s.raiseSev c v d u l).rig = s.rig := by
  obtain ⟨_, _, _, h⟩ := State.raiseSev_only s c v d u l; rw [h]
@[simp] theorem State.raiseSev_coll (c v d u : Nat) (l : List Byte) : (s.raiseSev c v d u l).coll = s.coll := by
  obtain ⟨_, _, _, h⟩ := State.raiseSev_only s c v d u l; rw [h]
@[simp] theorem State.raiseSev_photonics (c v d u : Nat) (l : List Byte) : (s.raiseSev c v d u l).photonics = s.photonics := by
  obtain ⟨_, _, _, h⟩ := State.raiseSev_only s c v d u l; rw [h]
@[simp] theorem State.raiseSev_domain (c v d u : Nat) (l : List Byte) : (s.raiseSev c v d u l).domain = s.domain := by
  obtain ⟨_, _, _, h⟩ := State.raiseSev_only s c v d u l; rw [h]
@[simp] theorem State.raiseSev_messages (c v d u : Nat) (l : List Byte) : (s.raiseSev c v d u l).messages = s.messages := by
  obtain ⟨_, _, _, h⟩ := State.raiseSev_only s c v d u l; rw [h]
@[simp] theorem State.raiseSev_package (c v d u : Nat) (l : List Byte) : (s.raiseSev c v d u l).package = s.package := by
  obtain ⟨_, _, _, h⟩ := State.raiseSev_only s c v d u l; rw [h]
@[simp] theorem State.raiseSev_clocks (c v d u : Nat) (l : List Byte) : (s.raiseSev c v d u l).clocks = s.clocks := by
  obtain ⟨_, _, _, h⟩ := State.raiseSev_only s c v d u l; rw [h]
@[simp] theorem State.raiseSev_thermal (c v d u : Nat) (l : List Byte) : (s.raiseSev c v d u l).thermal = s.thermal := by
  obtain ⟨_, _, _, h⟩ := State.raiseSev_only s c v d u l; rw [h]
@[simp] theorem State.raiseSev_boot (c v d u : Nat) (l : List Byte) : (s.raiseSev c v d u l).boot = s.boot := by
  obtain ⟨_, _, _, h⟩ := State.raiseSev_only s c v d u l; rw [h]
@[simp] theorem State.raiseSev_freeCount (c v d u : Nat) (l : List Byte) : (s.raiseSev c v d u l).freeCount = s.freeCount := by
  obtain ⟨_, _, _, h⟩ := State.raiseSev_only s c v d u l; rw [h]

/-! ### State.raise -/

@[simp] theorem State.raise_pending (c d u : Nat) (l : List Byte) : (s.raise c d u l).pending = s.pending := by
  obtain ⟨_, _, _, h⟩ := State.raise_only s c d u l; rw [h]
@[simp] theorem State.raise_fuses (c d u : Nat) (l : List Byte) : (s.raise c d u l).fuses = s.fuses := by
  obtain ⟨_, _, _, h⟩ := State.raise_only s c d u l; rw [h]
@[simp] theorem State.raise_shadows (c d u : Nat) (l : List Byte) : (s.raise c d u l).shadows = s.shadows := by
  obtain ⟨_, _, _, h⟩ := State.raise_only s c d u l; rw [h]
@[simp] theorem State.raise_blobs (c d u : Nat) (l : List Byte) : (s.raise c d u l).blobs = s.blobs := by
  obtain ⟨_, _, _, h⟩ := State.raise_only s c d u l; rw [h]
@[simp] theorem State.raise_blobShadows (c d u : Nat) (l : List Byte) : (s.raise c d u l).blobShadows = s.blobShadows := by
  obtain ⟨_, _, _, h⟩ := State.raise_only s c d u l; rw [h]
@[simp] theorem State.raise_hubNeeds (c d u : Nat) (l : List Byte) : (s.raise c d u l).hubNeeds = s.hubNeeds := by
  obtain ⟨_, _, _, h⟩ := State.raise_only s c d u l; rw [h]
@[simp] theorem State.raise_commits (c d u : Nat) (l : List Byte) : (s.raise c d u l).commits = s.commits := by
  obtain ⟨_, _, _, h⟩ := State.raise_only s c d u l; rw [h]
@[simp] theorem State.raise_seeds (c d u : Nat) (l : List Byte) : (s.raise c d u l).seeds = s.seeds := by
  obtain ⟨_, _, _, h⟩ := State.raise_only s c d u l; rw [h]
@[simp] theorem State.raise_load (c d u : Nat) (l : List Byte) : (s.raise c d u l).load = s.load := by
  obtain ⟨_, _, _, h⟩ := State.raise_only s c d u l; rw [h]
@[simp] theorem State.raise_clusters (c d u : Nat) (l : List Byte) : (s.raise c d u l).clusters = s.clusters := by
  obtain ⟨_, _, _, h⟩ := State.raise_only s c d u l; rw [h]
@[simp] theorem State.raise_ctxs (c d u : Nat) (l : List Byte) : (s.raise c d u l).ctxs = s.ctxs := by
  obtain ⟨_, _, _, h⟩ := State.raise_only s c d u l; rw [h]
@[simp] theorem State.raise_memory (c d u : Nat) (l : List Byte) : (s.raise c d u l).memory = s.memory := by
  obtain ⟨_, _, _, h⟩ := State.raise_only s c d u l; rw [h]
@[simp] theorem State.raise_rig (c d u : Nat) (l : List Byte) : (s.raise c d u l).rig = s.rig := by
  obtain ⟨_, _, _, h⟩ := State.raise_only s c d u l; rw [h]
@[simp] theorem State.raise_coll (c d u : Nat) (l : List Byte) : (s.raise c d u l).coll = s.coll := by
  obtain ⟨_, _, _, h⟩ := State.raise_only s c d u l; rw [h]
@[simp] theorem State.raise_photonics (c d u : Nat) (l : List Byte) : (s.raise c d u l).photonics = s.photonics := by
  obtain ⟨_, _, _, h⟩ := State.raise_only s c d u l; rw [h]
@[simp] theorem State.raise_domain (c d u : Nat) (l : List Byte) : (s.raise c d u l).domain = s.domain := by
  obtain ⟨_, _, _, h⟩ := State.raise_only s c d u l; rw [h]
@[simp] theorem State.raise_messages (c d u : Nat) (l : List Byte) : (s.raise c d u l).messages = s.messages := by
  obtain ⟨_, _, _, h⟩ := State.raise_only s c d u l; rw [h]
@[simp] theorem State.raise_package (c d u : Nat) (l : List Byte) : (s.raise c d u l).package = s.package := by
  obtain ⟨_, _, _, h⟩ := State.raise_only s c d u l; rw [h]
@[simp] theorem State.raise_clocks (c d u : Nat) (l : List Byte) : (s.raise c d u l).clocks = s.clocks := by
  obtain ⟨_, _, _, h⟩ := State.raise_only s c d u l; rw [h]
@[simp] theorem State.raise_thermal (c d u : Nat) (l : List Byte) : (s.raise c d u l).thermal = s.thermal := by
  obtain ⟨_, _, _, h⟩ := State.raise_only s c d u l; rw [h]
@[simp] theorem State.raise_boot (c d u : Nat) (l : List Byte) : (s.raise c d u l).boot = s.boot := by
  obtain ⟨_, _, _, h⟩ := State.raise_only s c d u l; rw [h]
@[simp] theorem State.raise_freeCount (c d u : Nat) (l : List Byte) : (s.raise c d u l).freeCount = s.freeCount := by
  obtain ⟨_, _, _, h⟩ := State.raise_only s c d u l; rw [h]

/-! ### State.raiseFor -/

@[simp] theorem State.raiseFor_pending (c d u x : Nat) (i : Ids) (l : List Byte) : (s.raiseFor c d u x i l).pending = s.pending := by
  obtain ⟨_, _, _, h⟩ := State.raiseFor_only s c d u x i l; rw [h]
@[simp] theorem State.raiseFor_fuses (c d u x : Nat) (i : Ids) (l : List Byte) : (s.raiseFor c d u x i l).fuses = s.fuses := by
  obtain ⟨_, _, _, h⟩ := State.raiseFor_only s c d u x i l; rw [h]
@[simp] theorem State.raiseFor_shadows (c d u x : Nat) (i : Ids) (l : List Byte) : (s.raiseFor c d u x i l).shadows = s.shadows := by
  obtain ⟨_, _, _, h⟩ := State.raiseFor_only s c d u x i l; rw [h]
@[simp] theorem State.raiseFor_blobs (c d u x : Nat) (i : Ids) (l : List Byte) : (s.raiseFor c d u x i l).blobs = s.blobs := by
  obtain ⟨_, _, _, h⟩ := State.raiseFor_only s c d u x i l; rw [h]
@[simp] theorem State.raiseFor_blobShadows (c d u x : Nat) (i : Ids) (l : List Byte) : (s.raiseFor c d u x i l).blobShadows = s.blobShadows := by
  obtain ⟨_, _, _, h⟩ := State.raiseFor_only s c d u x i l; rw [h]
@[simp] theorem State.raiseFor_hubNeeds (c d u x : Nat) (i : Ids) (l : List Byte) : (s.raiseFor c d u x i l).hubNeeds = s.hubNeeds := by
  obtain ⟨_, _, _, h⟩ := State.raiseFor_only s c d u x i l; rw [h]
@[simp] theorem State.raiseFor_commits (c d u x : Nat) (i : Ids) (l : List Byte) : (s.raiseFor c d u x i l).commits = s.commits := by
  obtain ⟨_, _, _, h⟩ := State.raiseFor_only s c d u x i l; rw [h]
@[simp] theorem State.raiseFor_seeds (c d u x : Nat) (i : Ids) (l : List Byte) : (s.raiseFor c d u x i l).seeds = s.seeds := by
  obtain ⟨_, _, _, h⟩ := State.raiseFor_only s c d u x i l; rw [h]
@[simp] theorem State.raiseFor_load (c d u x : Nat) (i : Ids) (l : List Byte) : (s.raiseFor c d u x i l).load = s.load := by
  obtain ⟨_, _, _, h⟩ := State.raiseFor_only s c d u x i l; rw [h]
@[simp] theorem State.raiseFor_clusters (c d u x : Nat) (i : Ids) (l : List Byte) : (s.raiseFor c d u x i l).clusters = s.clusters := by
  obtain ⟨_, _, _, h⟩ := State.raiseFor_only s c d u x i l; rw [h]
@[simp] theorem State.raiseFor_ctxs (c d u x : Nat) (i : Ids) (l : List Byte) : (s.raiseFor c d u x i l).ctxs = s.ctxs := by
  obtain ⟨_, _, _, h⟩ := State.raiseFor_only s c d u x i l; rw [h]
@[simp] theorem State.raiseFor_memory (c d u x : Nat) (i : Ids) (l : List Byte) : (s.raiseFor c d u x i l).memory = s.memory := by
  obtain ⟨_, _, _, h⟩ := State.raiseFor_only s c d u x i l; rw [h]
@[simp] theorem State.raiseFor_rig (c d u x : Nat) (i : Ids) (l : List Byte) : (s.raiseFor c d u x i l).rig = s.rig := by
  obtain ⟨_, _, _, h⟩ := State.raiseFor_only s c d u x i l; rw [h]
@[simp] theorem State.raiseFor_coll (c d u x : Nat) (i : Ids) (l : List Byte) : (s.raiseFor c d u x i l).coll = s.coll := by
  obtain ⟨_, _, _, h⟩ := State.raiseFor_only s c d u x i l; rw [h]
@[simp] theorem State.raiseFor_photonics (c d u x : Nat) (i : Ids) (l : List Byte) : (s.raiseFor c d u x i l).photonics = s.photonics := by
  obtain ⟨_, _, _, h⟩ := State.raiseFor_only s c d u x i l; rw [h]
@[simp] theorem State.raiseFor_domain (c d u x : Nat) (i : Ids) (l : List Byte) : (s.raiseFor c d u x i l).domain = s.domain := by
  obtain ⟨_, _, _, h⟩ := State.raiseFor_only s c d u x i l; rw [h]
@[simp] theorem State.raiseFor_messages (c d u x : Nat) (i : Ids) (l : List Byte) : (s.raiseFor c d u x i l).messages = s.messages := by
  obtain ⟨_, _, _, h⟩ := State.raiseFor_only s c d u x i l; rw [h]
@[simp] theorem State.raiseFor_package (c d u x : Nat) (i : Ids) (l : List Byte) : (s.raiseFor c d u x i l).package = s.package := by
  obtain ⟨_, _, _, h⟩ := State.raiseFor_only s c d u x i l; rw [h]
@[simp] theorem State.raiseFor_clocks (c d u x : Nat) (i : Ids) (l : List Byte) : (s.raiseFor c d u x i l).clocks = s.clocks := by
  obtain ⟨_, _, _, h⟩ := State.raiseFor_only s c d u x i l; rw [h]
@[simp] theorem State.raiseFor_thermal (c d u x : Nat) (i : Ids) (l : List Byte) : (s.raiseFor c d u x i l).thermal = s.thermal := by
  obtain ⟨_, _, _, h⟩ := State.raiseFor_only s c d u x i l; rw [h]
@[simp] theorem State.raiseFor_boot (c d u x : Nat) (i : Ids) (l : List Byte) : (s.raiseFor c d u x i l).boot = s.boot := by
  obtain ⟨_, _, _, h⟩ := State.raiseFor_only s c d u x i l; rw [h]
@[simp] theorem State.raiseFor_freeCount (c d u x : Nat) (i : Ids) (l : List Byte) : (s.raiseFor c d u x i l).freeCount = s.freeCount := by
  obtain ⟨_, _, _, h⟩ := State.raiseFor_only s c d u x i l; rw [h]

/-! ### State.divFree -/

@[simp] theorem State.divFree_pending (a : Int) (b : Nat) : (s.divFree a b).2.pending = s.pending := by
  obtain ⟨_, h⟩ := State.divFree_only s a b; rw [h]
@[simp] theorem State.divFree_fuses (a : Int) (b : Nat) : (s.divFree a b).2.fuses = s.fuses := by
  obtain ⟨_, h⟩ := State.divFree_only s a b; rw [h]
@[simp] theorem State.divFree_regs (a : Int) (b : Nat) : (s.divFree a b).2.regs = s.regs := by
  obtain ⟨_, h⟩ := State.divFree_only s a b; rw [h]
@[simp] theorem State.divFree_shadows (a : Int) (b : Nat) : (s.divFree a b).2.shadows = s.shadows := by
  obtain ⟨_, h⟩ := State.divFree_only s a b; rw [h]
@[simp] theorem State.divFree_blobs (a : Int) (b : Nat) : (s.divFree a b).2.blobs = s.blobs := by
  obtain ⟨_, h⟩ := State.divFree_only s a b; rw [h]
@[simp] theorem State.divFree_blobShadows (a : Int) (b : Nat) : (s.divFree a b).2.blobShadows = s.blobShadows := by
  obtain ⟨_, h⟩ := State.divFree_only s a b; rw [h]
@[simp] theorem State.divFree_hubNeeds (a : Int) (b : Nat) : (s.divFree a b).2.hubNeeds = s.hubNeeds := by
  obtain ⟨_, h⟩ := State.divFree_only s a b; rw [h]
@[simp] theorem State.divFree_commits (a : Int) (b : Nat) : (s.divFree a b).2.commits = s.commits := by
  obtain ⟨_, h⟩ := State.divFree_only s a b; rw [h]
@[simp] theorem State.divFree_seeds (a : Int) (b : Nat) : (s.divFree a b).2.seeds = s.seeds := by
  obtain ⟨_, h⟩ := State.divFree_only s a b; rw [h]
@[simp] theorem State.divFree_load (a : Int) (b : Nat) : (s.divFree a b).2.load = s.load := by
  obtain ⟨_, h⟩ := State.divFree_only s a b; rw [h]
@[simp] theorem State.divFree_clusters (a : Int) (b : Nat) : (s.divFree a b).2.clusters = s.clusters := by
  obtain ⟨_, h⟩ := State.divFree_only s a b; rw [h]
@[simp] theorem State.divFree_ctxs (a : Int) (b : Nat) : (s.divFree a b).2.ctxs = s.ctxs := by
  obtain ⟨_, h⟩ := State.divFree_only s a b; rw [h]
@[simp] theorem State.divFree_memory (a : Int) (b : Nat) : (s.divFree a b).2.memory = s.memory := by
  obtain ⟨_, h⟩ := State.divFree_only s a b; rw [h]
@[simp] theorem State.divFree_rig (a : Int) (b : Nat) : (s.divFree a b).2.rig = s.rig := by
  obtain ⟨_, h⟩ := State.divFree_only s a b; rw [h]
@[simp] theorem State.divFree_coll (a : Int) (b : Nat) : (s.divFree a b).2.coll = s.coll := by
  obtain ⟨_, h⟩ := State.divFree_only s a b; rw [h]
@[simp] theorem State.divFree_photonics (a : Int) (b : Nat) : (s.divFree a b).2.photonics = s.photonics := by
  obtain ⟨_, h⟩ := State.divFree_only s a b; rw [h]
@[simp] theorem State.divFree_domain (a : Int) (b : Nat) : (s.divFree a b).2.domain = s.domain := by
  obtain ⟨_, h⟩ := State.divFree_only s a b; rw [h]
@[simp] theorem State.divFree_messages (a : Int) (b : Nat) : (s.divFree a b).2.messages = s.messages := by
  obtain ⟨_, h⟩ := State.divFree_only s a b; rw [h]
@[simp] theorem State.divFree_package (a : Int) (b : Nat) : (s.divFree a b).2.package = s.package := by
  obtain ⟨_, h⟩ := State.divFree_only s a b; rw [h]
@[simp] theorem State.divFree_clocks (a : Int) (b : Nat) : (s.divFree a b).2.clocks = s.clocks := by
  obtain ⟨_, h⟩ := State.divFree_only s a b; rw [h]
@[simp] theorem State.divFree_thermal (a : Int) (b : Nat) : (s.divFree a b).2.thermal = s.thermal := by
  obtain ⟨_, h⟩ := State.divFree_only s a b; rw [h]
@[simp] theorem State.divFree_control (a : Int) (b : Nat) : (s.divFree a b).2.control = s.control := by
  obtain ⟨_, h⟩ := State.divFree_only s a b; rw [h]
@[simp] theorem State.divFree_boot (a : Int) (b : Nat) : (s.divFree a b).2.boot = s.boot := by
  obtain ⟨_, h⟩ := State.divFree_only s a b; rw [h]
@[simp] theorem State.divFree_dbg (a : Int) (b : Nat) : (s.divFree a b).2.dbg = s.dbg := by
  obtain ⟨_, h⟩ := State.divFree_only s a b; rw [h]

/-! ### State.tick -/

@[simp] theorem State.tick_pending : (s.tick).pending = s.pending := by
  obtain ⟨_, h⟩ := State.tick_only s; rw [h]
@[simp] theorem State.tick_fuses : (s.tick).fuses = s.fuses := by
  obtain ⟨_, h⟩ := State.tick_only s; rw [h]
@[simp] theorem State.tick_regs : (s.tick).regs = s.regs := by
  obtain ⟨_, h⟩ := State.tick_only s; rw [h]
@[simp] theorem State.tick_shadows : (s.tick).shadows = s.shadows := by
  obtain ⟨_, h⟩ := State.tick_only s; rw [h]
@[simp] theorem State.tick_blobs : (s.tick).blobs = s.blobs := by
  obtain ⟨_, h⟩ := State.tick_only s; rw [h]
@[simp] theorem State.tick_blobShadows : (s.tick).blobShadows = s.blobShadows := by
  obtain ⟨_, h⟩ := State.tick_only s; rw [h]
@[simp] theorem State.tick_hubNeeds : (s.tick).hubNeeds = s.hubNeeds := by
  obtain ⟨_, h⟩ := State.tick_only s; rw [h]
@[simp] theorem State.tick_commits : (s.tick).commits = s.commits := by
  obtain ⟨_, h⟩ := State.tick_only s; rw [h]
@[simp] theorem State.tick_seeds : (s.tick).seeds = s.seeds := by
  obtain ⟨_, h⟩ := State.tick_only s; rw [h]
@[simp] theorem State.tick_load : (s.tick).load = s.load := by
  obtain ⟨_, h⟩ := State.tick_only s; rw [h]
@[simp] theorem State.tick_clusters : (s.tick).clusters = s.clusters := by
  obtain ⟨_, h⟩ := State.tick_only s; rw [h]
@[simp] theorem State.tick_ctxs : (s.tick).ctxs = s.ctxs := by
  obtain ⟨_, h⟩ := State.tick_only s; rw [h]
@[simp] theorem State.tick_memory : (s.tick).memory = s.memory := by
  obtain ⟨_, h⟩ := State.tick_only s; rw [h]
@[simp] theorem State.tick_rig : (s.tick).rig = s.rig := by
  obtain ⟨_, h⟩ := State.tick_only s; rw [h]
@[simp] theorem State.tick_coll : (s.tick).coll = s.coll := by
  obtain ⟨_, h⟩ := State.tick_only s; rw [h]
@[simp] theorem State.tick_photonics : (s.tick).photonics = s.photonics := by
  obtain ⟨_, h⟩ := State.tick_only s; rw [h]
@[simp] theorem State.tick_domain : (s.tick).domain = s.domain := by
  obtain ⟨_, h⟩ := State.tick_only s; rw [h]
@[simp] theorem State.tick_messages : (s.tick).messages = s.messages := by
  obtain ⟨_, h⟩ := State.tick_only s; rw [h]
@[simp] theorem State.tick_package : (s.tick).package = s.package := by
  obtain ⟨_, h⟩ := State.tick_only s; rw [h]
@[simp] theorem State.tick_thermal : (s.tick).thermal = s.thermal := by
  obtain ⟨_, h⟩ := State.tick_only s; rw [h]
@[simp] theorem State.tick_control : (s.tick).control = s.control := by
  obtain ⟨_, h⟩ := State.tick_only s; rw [h]
@[simp] theorem State.tick_boot : (s.tick).boot = s.boot := by
  obtain ⟨_, h⟩ := State.tick_only s; rw [h]
@[simp] theorem State.tick_dbg : (s.tick).dbg = s.dbg := by
  obtain ⟨_, h⟩ := State.tick_only s; rw [h]
@[simp] theorem State.tick_freeCount : (s.tick).freeCount = s.freeCount := by
  obtain ⟨_, h⟩ := State.tick_only s; rw [h]

end Sys2Proof.Machine
end

