-- ==== Sys2Proof/Laws/FramesStore.lean ====
section
/-! SUPPORT. What each operation on State leaves unchanged (the register file, events, the stores, contexts and requests): for every operation that answers a state, the fields that it
never writes, as equations for simp. -/

namespace Sys2Proof.Machine

set_option linter.unusedSimpArgs false
set_option linter.unnecessarySeqFocus false
set_option linter.unusedTactic false
set_option linter.unreachableTactic false
set_option maxRecDepth 4000

/-! ### Folds, conditionals and pairs -/

theorem prod_flip {α β : Type} (x : α × β) (a : α) (b : β) : x = (a, b) ↔ x.1 = a ∧ b = x.2 := by
  cases x; simp [eq_comm]
theorem prod_flip' {α β : Type} (x : α × β) (a : α) (b : β) : (a, b) = x ↔ a = x.1 ∧ b = x.2 := by
  cases x; simp
@[simp] theorem foldl_pending {α : Type} {f : State → α → State} {l : List α} {s : State} (h : ∀ s a, (f s a).pending = s.pending) :
    (l.foldl f s).pending = s.pending := by
  induction l generalizing s with
  | nil => rfl
  | cons a l ih => rw [List.foldl_cons, ih, h]
@[simp] theorem foldl_fuses {α : Type} {f : State → α → State} {l : List α} {s : State} (h : ∀ s a, (f s a).fuses = s.fuses) :
    (l.foldl f s).fuses = s.fuses := by
  induction l generalizing s with
  | nil => rfl
  | cons a l ih => rw [List.foldl_cons, ih, h]
@[simp] theorem foldl_regs {α : Type} {f : State → α → State} {l : List α} {s : State} (h : ∀ s a, (f s a).regs = s.regs) :
    (l.foldl f s).regs = s.regs := by
  induction l generalizing s with
  | nil => rfl
  | cons a l ih => rw [List.foldl_cons, ih, h]
@[simp] theorem foldl_shadows {α : Type} {f : State → α → State} {l : List α} {s : State} (h : ∀ s a, (f s a).shadows = s.shadows) :
    (l.foldl f s).shadows = s.shadows := by
  induction l generalizing s with
  | nil => rfl
  | cons a l ih => rw [List.foldl_cons, ih, h]
@[simp] theorem foldl_blobs {α : Type} {f : State → α → State} {l : List α} {s : State} (h : ∀ s a, (f s a).blobs = s.blobs) :
    (l.foldl f s).blobs = s.blobs := by
  induction l generalizing s with
  | nil => rfl
  | cons a l ih => rw [List.foldl_cons, ih, h]
@[simp] theorem foldl_blobShadows {α : Type} {f : State → α → State} {l : List α} {s : State} (h : ∀ s a, (f s a).blobShadows = s.blobShadows) :
    (l.foldl f s).blobShadows = s.blobShadows := by
  induction l generalizing s with
  | nil => rfl
  | cons a l ih => rw [List.foldl_cons, ih, h]
@[simp] theorem foldl_hubNeeds {α : Type} {f : State → α → State} {l : List α} {s : State} (h : ∀ s a, (f s a).hubNeeds = s.hubNeeds) :
    (l.foldl f s).hubNeeds = s.hubNeeds := by
  induction l generalizing s with
  | nil => rfl
  | cons a l ih => rw [List.foldl_cons, ih, h]
@[simp] theorem foldl_commits {α : Type} {f : State → α → State} {l : List α} {s : State} (h : ∀ s a, (f s a).commits = s.commits) :
    (l.foldl f s).commits = s.commits := by
  induction l generalizing s with
  | nil => rfl
  | cons a l ih => rw [List.foldl_cons, ih, h]
@[simp] theorem foldl_seeds {α : Type} {f : State → α → State} {l : List α} {s : State} (h : ∀ s a, (f s a).seeds = s.seeds) :
    (l.foldl f s).seeds = s.seeds := by
  induction l generalizing s with
  | nil => rfl
  | cons a l ih => rw [List.foldl_cons, ih, h]
@[simp] theorem foldl_load {α : Type} {f : State → α → State} {l : List α} {s : State} (h : ∀ s a, (f s a).load = s.load) :
    (l.foldl f s).load = s.load := by
  induction l generalizing s with
  | nil => rfl
  | cons a l ih => rw [List.foldl_cons, ih, h]
@[simp] theorem foldl_clusters {α : Type} {f : State → α → State} {l : List α} {s : State} (h : ∀ s a, (f s a).clusters = s.clusters) :
    (l.foldl f s).clusters = s.clusters := by
  induction l generalizing s with
  | nil => rfl
  | cons a l ih => rw [List.foldl_cons, ih, h]
@[simp] theorem foldl_ctxs {α : Type} {f : State → α → State} {l : List α} {s : State} (h : ∀ s a, (f s a).ctxs = s.ctxs) :
    (l.foldl f s).ctxs = s.ctxs := by
  induction l generalizing s with
  | nil => rfl
  | cons a l ih => rw [List.foldl_cons, ih, h]
@[simp] theorem foldl_memory {α : Type} {f : State → α → State} {l : List α} {s : State} (h : ∀ s a, (f s a).memory = s.memory) :
    (l.foldl f s).memory = s.memory := by
  induction l generalizing s with
  | nil => rfl
  | cons a l ih => rw [List.foldl_cons, ih, h]
@[simp] theorem foldl_rig {α : Type} {f : State → α → State} {l : List α} {s : State} (h : ∀ s a, (f s a).rig = s.rig) :
    (l.foldl f s).rig = s.rig := by
  induction l generalizing s with
  | nil => rfl
  | cons a l ih => rw [List.foldl_cons, ih, h]
@[simp] theorem foldl_coll {α : Type} {f : State → α → State} {l : List α} {s : State} (h : ∀ s a, (f s a).coll = s.coll) :
    (l.foldl f s).coll = s.coll := by
  induction l generalizing s with
  | nil => rfl
  | cons a l ih => rw [List.foldl_cons, ih, h]
@[simp] theorem foldl_photonics {α : Type} {f : State → α → State} {l : List α} {s : State} (h : ∀ s a, (f s a).photonics = s.photonics) :
    (l.foldl f s).photonics = s.photonics := by
  induction l generalizing s with
  | nil => rfl
  | cons a l ih => rw [List.foldl_cons, ih, h]
@[simp] theorem foldl_domain {α : Type} {f : State → α → State} {l : List α} {s : State} (h : ∀ s a, (f s a).domain = s.domain) :
    (l.foldl f s).domain = s.domain := by
  induction l generalizing s with
  | nil => rfl
  | cons a l ih => rw [List.foldl_cons, ih, h]
@[simp] theorem foldl_messages {α : Type} {f : State → α → State} {l : List α} {s : State} (h : ∀ s a, (f s a).messages = s.messages) :
    (l.foldl f s).messages = s.messages := by
  induction l generalizing s with
  | nil => rfl
  | cons a l ih => rw [List.foldl_cons, ih, h]
@[simp] theorem foldl_package {α : Type} {f : State → α → State} {l : List α} {s : State} (h : ∀ s a, (f s a).package = s.package) :
    (l.foldl f s).package = s.package := by
  induction l generalizing s with
  | nil => rfl
  | cons a l ih => rw [List.foldl_cons, ih, h]
@[simp] theorem foldl_clocks {α : Type} {f : State → α → State} {l : List α} {s : State} (h : ∀ s a, (f s a).clocks = s.clocks) :
    (l.foldl f s).clocks = s.clocks := by
  induction l generalizing s with
  | nil => rfl
  | cons a l ih => rw [List.foldl_cons, ih, h]
@[simp] theorem foldl_thermal {α : Type} {f : State → α → State} {l : List α} {s : State} (h : ∀ s a, (f s a).thermal = s.thermal) :
    (l.foldl f s).thermal = s.thermal := by
  induction l generalizing s with
  | nil => rfl
  | cons a l ih => rw [List.foldl_cons, ih, h]
@[simp] theorem foldl_control {α : Type} {f : State → α → State} {l : List α} {s : State} (h : ∀ s a, (f s a).control = s.control) :
    (l.foldl f s).control = s.control := by
  induction l generalizing s with
  | nil => rfl
  | cons a l ih => rw [List.foldl_cons, ih, h]
@[simp] theorem foldl_boot {α : Type} {f : State → α → State} {l : List α} {s : State} (h : ∀ s a, (f s a).boot = s.boot) :
    (l.foldl f s).boot = s.boot := by
  induction l generalizing s with
  | nil => rfl
  | cons a l ih => rw [List.foldl_cons, ih, h]
@[simp] theorem foldl_dbg {α : Type} {f : State → α → State} {l : List α} {s : State} (h : ∀ s a, (f s a).dbg = s.dbg) :
    (l.foldl f s).dbg = s.dbg := by
  induction l generalizing s with
  | nil => rfl
  | cons a l ih => rw [List.foldl_cons, ih, h]
@[simp] theorem foldl_freeCount {α : Type} {f : State → α → State} {l : List α} {s : State} (h : ∀ s a, (f s a).freeCount = s.freeCount) :
    (l.foldl f s).freeCount = s.freeCount := by
  induction l generalizing s with
  | nil => rfl
  | cons a l ih => rw [List.foldl_cons, ih, h]
@[simp] theorem ite_pending {c : Prop} [Decidable c] (a b : State) : (if c then a else b).pending = if c then a.pending else b.pending := by
  split <;> rfl
@[simp] theorem ite_fuses {c : Prop} [Decidable c] (a b : State) : (if c then a else b).fuses = if c then a.fuses else b.fuses := by
  split <;> rfl
@[simp] theorem ite_regs {c : Prop} [Decidable c] (a b : State) : (if c then a else b).regs = if c then a.regs else b.regs := by
  split <;> rfl
@[simp] theorem ite_shadows {c : Prop} [Decidable c] (a b : State) : (if c then a else b).shadows = if c then a.shadows else b.shadows := by
  split <;> rfl
@[simp] theorem ite_blobs {c : Prop} [Decidable c] (a b : State) : (if c then a else b).blobs = if c then a.blobs else b.blobs := by
  split <;> rfl
@[simp] theorem ite_blobShadows {c : Prop} [Decidable c] (a b : State) : (if c then a else b).blobShadows = if c then a.blobShadows else b.blobShadows := by
  split <;> rfl
@[simp] theorem ite_hubNeeds {c : Prop} [Decidable c] (a b : State) : (if c then a else b).hubNeeds = if c then a.hubNeeds else b.hubNeeds := by
  split <;> rfl
@[simp] theorem ite_commits {c : Prop} [Decidable c] (a b : State) : (if c then a else b).commits = if c then a.commits else b.commits := by
  split <;> rfl
@[simp] theorem ite_seeds {c : Prop} [Decidable c] (a b : State) : (if c then a else b).seeds = if c then a.seeds else b.seeds := by
  split <;> rfl
@[simp] theorem ite_load {c : Prop} [Decidable c] (a b : State) : (if c then a else b).load = if c then a.load else b.load := by
  split <;> rfl
@[simp] theorem ite_clusters {c : Prop} [Decidable c] (a b : State) : (if c then a else b).clusters = if c then a.clusters else b.clusters := by
  split <;> rfl
@[simp] theorem ite_ctxs {c : Prop} [Decidable c] (a b : State) : (if c then a else b).ctxs = if c then a.ctxs else b.ctxs := by
  split <;> rfl
@[simp] theorem ite_memory {c : Prop} [Decidable c] (a b : State) : (if c then a else b).memory = if c then a.memory else b.memory := by
  split <;> rfl
@[simp] theorem ite_rig {c : Prop} [Decidable c] (a b : State) : (if c then a else b).rig = if c then a.rig else b.rig := by
  split <;> rfl
@[simp] theorem ite_coll {c : Prop} [Decidable c] (a b : State) : (if c then a else b).coll = if c then a.coll else b.coll := by
  split <;> rfl
@[simp] theorem ite_photonics {c : Prop} [Decidable c] (a b : State) : (if c then a else b).photonics = if c then a.photonics else b.photonics := by
  split <;> rfl
@[simp] theorem ite_domain {c : Prop} [Decidable c] (a b : State) : (if c then a else b).domain = if c then a.domain else b.domain := by
  split <;> rfl
@[simp] theorem ite_messages {c : Prop} [Decidable c] (a b : State) : (if c then a else b).messages = if c then a.messages else b.messages := by
  split <;> rfl
@[simp] theorem ite_package {c : Prop} [Decidable c] (a b : State) : (if c then a else b).package = if c then a.package else b.package := by
  split <;> rfl
@[simp] theorem ite_clocks {c : Prop} [Decidable c] (a b : State) : (if c then a else b).clocks = if c then a.clocks else b.clocks := by
  split <;> rfl
@[simp] theorem ite_thermal {c : Prop} [Decidable c] (a b : State) : (if c then a else b).thermal = if c then a.thermal else b.thermal := by
  split <;> rfl
@[simp] theorem ite_control {c : Prop} [Decidable c] (a b : State) : (if c then a else b).control = if c then a.control else b.control := by
  split <;> rfl
@[simp] theorem ite_boot {c : Prop} [Decidable c] (a b : State) : (if c then a else b).boot = if c then a.boot else b.boot := by
  split <;> rfl
@[simp] theorem ite_dbg {c : Prop} [Decidable c] (a b : State) : (if c then a else b).dbg = if c then a.dbg else b.dbg := by
  split <;> rfl
@[simp] theorem ite_freeCount {c : Prop} [Decidable c] (a b : State) : (if c then a else b).freeCount = if c then a.freeCount else b.freeCount := by
  split <;> rfl
theorem prod_flip3 {α β γ : Type} (x : α × β × γ) (a : α) (b : β) (c : γ) :
    x = (a, b, c) ↔ x.1 = a ∧ x.2.1 = b ∧ c = x.2.2 := by
  obtain ⟨p, q, r⟩ := x
  simp only [Prod.mk.injEq]
  exact ⟨fun h => ⟨h.1, h.2.1, h.2.2.symm⟩, fun h => ⟨h.1, h.2.1, h.2.2.symm⟩⟩
@[simp] theorem foldl_snd_pending {α β : Type} {f : β × State → α → β × State} {l : List α} {p : β × State}
    (h : ∀ p a, (f p a).2.pending = p.2.pending) : (l.foldl f p).2.pending = p.2.pending := by
  induction l generalizing p with
  | nil => rfl
  | cons a l ih => rw [List.foldl_cons, ih, h]
@[simp] theorem foldl_snd_fuses {α β : Type} {f : β × State → α → β × State} {l : List α} {p : β × State}
    (h : ∀ p a, (f p a).2.fuses = p.2.fuses) : (l.foldl f p).2.fuses = p.2.fuses := by
  induction l generalizing p with
  | nil => rfl
  | cons a l ih => rw [List.foldl_cons, ih, h]
@[simp] theorem foldl_snd_regs {α β : Type} {f : β × State → α → β × State} {l : List α} {p : β × State}
    (h : ∀ p a, (f p a).2.regs = p.2.regs) : (l.foldl f p).2.regs = p.2.regs := by
  induction l generalizing p with
  | nil => rfl
  | cons a l ih => rw [List.foldl_cons, ih, h]
@[simp] theorem foldl_snd_shadows {α β : Type} {f : β × State → α → β × State} {l : List α} {p : β × State}
    (h : ∀ p a, (f p a).2.shadows = p.2.shadows) : (l.foldl f p).2.shadows = p.2.shadows := by
  induction l generalizing p with
  | nil => rfl
  | cons a l ih => rw [List.foldl_cons, ih, h]
@[simp] theorem foldl_snd_blobs {α β : Type} {f : β × State → α → β × State} {l : List α} {p : β × State}
    (h : ∀ p a, (f p a).2.blobs = p.2.blobs) : (l.foldl f p).2.blobs = p.2.blobs := by
  induction l generalizing p with
  | nil => rfl
  | cons a l ih => rw [List.foldl_cons, ih, h]
@[simp] theorem foldl_snd_blobShadows {α β : Type} {f : β × State → α → β × State} {l : List α} {p : β × State}
    (h : ∀ p a, (f p a).2.blobShadows = p.2.blobShadows) : (l.foldl f p).2.blobShadows = p.2.blobShadows := by
  induction l generalizing p with
  | nil => rfl
  | cons a l ih => rw [List.foldl_cons, ih, h]
@[simp] theorem foldl_snd_hubNeeds {α β : Type} {f : β × State → α → β × State} {l : List α} {p : β × State}
    (h : ∀ p a, (f p a).2.hubNeeds = p.2.hubNeeds) : (l.foldl f p).2.hubNeeds = p.2.hubNeeds := by
  induction l generalizing p with
  | nil => rfl
  | cons a l ih => rw [List.foldl_cons, ih, h]
@[simp] theorem foldl_snd_commits {α β : Type} {f : β × State → α → β × State} {l : List α} {p : β × State}
    (h : ∀ p a, (f p a).2.commits = p.2.commits) : (l.foldl f p).2.commits = p.2.commits := by
  induction l generalizing p with
  | nil => rfl
  | cons a l ih => rw [List.foldl_cons, ih, h]
@[simp] theorem foldl_snd_seeds {α β : Type} {f : β × State → α → β × State} {l : List α} {p : β × State}
    (h : ∀ p a, (f p a).2.seeds = p.2.seeds) : (l.foldl f p).2.seeds = p.2.seeds := by
  induction l generalizing p with
  | nil => rfl
  | cons a l ih => rw [List.foldl_cons, ih, h]
@[simp] theorem foldl_snd_load {α β : Type} {f : β × State → α → β × State} {l : List α} {p : β × State}
    (h : ∀ p a, (f p a).2.load = p.2.load) : (l.foldl f p).2.load = p.2.load := by
  induction l generalizing p with
  | nil => rfl
  | cons a l ih => rw [List.foldl_cons, ih, h]
@[simp] theorem foldl_snd_clusters {α β : Type} {f : β × State → α → β × State} {l : List α} {p : β × State}
    (h : ∀ p a, (f p a).2.clusters = p.2.clusters) : (l.foldl f p).2.clusters = p.2.clusters := by
  induction l generalizing p with
  | nil => rfl
  | cons a l ih => rw [List.foldl_cons, ih, h]
@[simp] theorem foldl_snd_ctxs {α β : Type} {f : β × State → α → β × State} {l : List α} {p : β × State}
    (h : ∀ p a, (f p a).2.ctxs = p.2.ctxs) : (l.foldl f p).2.ctxs = p.2.ctxs := by
  induction l generalizing p with
  | nil => rfl
  | cons a l ih => rw [List.foldl_cons, ih, h]
@[simp] theorem foldl_snd_memory {α β : Type} {f : β × State → α → β × State} {l : List α} {p : β × State}
    (h : ∀ p a, (f p a).2.memory = p.2.memory) : (l.foldl f p).2.memory = p.2.memory := by
  induction l generalizing p with
  | nil => rfl
  | cons a l ih => rw [List.foldl_cons, ih, h]
@[simp] theorem foldl_snd_rig {α β : Type} {f : β × State → α → β × State} {l : List α} {p : β × State}
    (h : ∀ p a, (f p a).2.rig = p.2.rig) : (l.foldl f p).2.rig = p.2.rig := by
  induction l generalizing p with
  | nil => rfl
  | cons a l ih => rw [List.foldl_cons, ih, h]
@[simp] theorem foldl_snd_coll {α β : Type} {f : β × State → α → β × State} {l : List α} {p : β × State}
    (h : ∀ p a, (f p a).2.coll = p.2.coll) : (l.foldl f p).2.coll = p.2.coll := by
  induction l generalizing p with
  | nil => rfl
  | cons a l ih => rw [List.foldl_cons, ih, h]
@[simp] theorem foldl_snd_photonics {α β : Type} {f : β × State → α → β × State} {l : List α} {p : β × State}
    (h : ∀ p a, (f p a).2.photonics = p.2.photonics) : (l.foldl f p).2.photonics = p.2.photonics := by
  induction l generalizing p with
  | nil => rfl
  | cons a l ih => rw [List.foldl_cons, ih, h]
@[simp] theorem foldl_snd_domain {α β : Type} {f : β × State → α → β × State} {l : List α} {p : β × State}
    (h : ∀ p a, (f p a).2.domain = p.2.domain) : (l.foldl f p).2.domain = p.2.domain := by
  induction l generalizing p with
  | nil => rfl
  | cons a l ih => rw [List.foldl_cons, ih, h]
@[simp] theorem foldl_snd_messages {α β : Type} {f : β × State → α → β × State} {l : List α} {p : β × State}
    (h : ∀ p a, (f p a).2.messages = p.2.messages) : (l.foldl f p).2.messages = p.2.messages := by
  induction l generalizing p with
  | nil => rfl
  | cons a l ih => rw [List.foldl_cons, ih, h]
@[simp] theorem foldl_snd_package {α β : Type} {f : β × State → α → β × State} {l : List α} {p : β × State}
    (h : ∀ p a, (f p a).2.package = p.2.package) : (l.foldl f p).2.package = p.2.package := by
  induction l generalizing p with
  | nil => rfl
  | cons a l ih => rw [List.foldl_cons, ih, h]
@[simp] theorem foldl_snd_clocks {α β : Type} {f : β × State → α → β × State} {l : List α} {p : β × State}
    (h : ∀ p a, (f p a).2.clocks = p.2.clocks) : (l.foldl f p).2.clocks = p.2.clocks := by
  induction l generalizing p with
  | nil => rfl
  | cons a l ih => rw [List.foldl_cons, ih, h]
@[simp] theorem foldl_snd_thermal {α β : Type} {f : β × State → α → β × State} {l : List α} {p : β × State}
    (h : ∀ p a, (f p a).2.thermal = p.2.thermal) : (l.foldl f p).2.thermal = p.2.thermal := by
  induction l generalizing p with
  | nil => rfl
  | cons a l ih => rw [List.foldl_cons, ih, h]
@[simp] theorem foldl_snd_control {α β : Type} {f : β × State → α → β × State} {l : List α} {p : β × State}
    (h : ∀ p a, (f p a).2.control = p.2.control) : (l.foldl f p).2.control = p.2.control := by
  induction l generalizing p with
  | nil => rfl
  | cons a l ih => rw [List.foldl_cons, ih, h]
@[simp] theorem foldl_snd_boot {α β : Type} {f : β × State → α → β × State} {l : List α} {p : β × State}
    (h : ∀ p a, (f p a).2.boot = p.2.boot) : (l.foldl f p).2.boot = p.2.boot := by
  induction l generalizing p with
  | nil => rfl
  | cons a l ih => rw [List.foldl_cons, ih, h]
@[simp] theorem foldl_snd_dbg {α β : Type} {f : β × State → α → β × State} {l : List α} {p : β × State}
    (h : ∀ p a, (f p a).2.dbg = p.2.dbg) : (l.foldl f p).2.dbg = p.2.dbg := by
  induction l generalizing p with
  | nil => rfl
  | cons a l ih => rw [List.foldl_cons, ih, h]
@[simp] theorem foldl_snd_freeCount {α β : Type} {f : β × State → α → β × State} {l : List α} {p : β × State}
    (h : ∀ p a, (f p a).2.freeCount = p.2.freeCount) : (l.foldl f p).2.freeCount = p.2.freeCount := by
  induction l generalizing p with
  | nil => rfl
  | cons a l ih => rw [List.foldl_cons, ih, h]

/-! ### Operations -/

@[simp] theorem State.commitRegs_kept (s : State) (ks : List Nat) :
    (State.commitRegs s ks).pending = s.pending ∧
    (State.commitRegs s ks).fuses = s.fuses ∧
    (State.commitRegs s ks).shadows = s.shadows ∧
    (State.commitRegs s ks).blobs = s.blobs ∧
    (State.commitRegs s ks).blobShadows = s.blobShadows ∧
    (State.commitRegs s ks).hubNeeds = s.hubNeeds ∧
    (State.commitRegs s ks).commits = s.commits ∧
    (State.commitRegs s ks).seeds = s.seeds ∧
    (State.commitRegs s ks).load = s.load ∧
    (State.commitRegs s ks).clusters = s.clusters ∧
    (State.commitRegs s ks).ctxs = s.ctxs ∧
    (State.commitRegs s ks).memory = s.memory ∧
    (State.commitRegs s ks).rig = s.rig ∧
    (State.commitRegs s ks).coll = s.coll ∧
    (State.commitRegs s ks).photonics = s.photonics ∧
    (State.commitRegs s ks).domain = s.domain ∧
    (State.commitRegs s ks).messages = s.messages ∧
    (State.commitRegs s ks).package = s.package ∧
    (State.commitRegs s ks).clocks = s.clocks ∧
    (State.commitRegs s ks).thermal = s.thermal ∧
    (State.commitRegs s ks).control = s.control ∧
    (State.commitRegs s ks).boot = s.boot ∧
    (State.commitRegs s ks).dbg = s.dbg ∧
    (State.commitRegs s ks).freeCount = s.freeCount := by
  unfold State.commitRegs
  try dsimp only
  (repeat' split) <;> simp_all -implicitDefEqProofs [↓prod_flip3, prod_flip]

@[simp] theorem State.tick_kept (s : State) :
    (State.tick s).pending = s.pending ∧
    (State.tick s).fuses = s.fuses ∧
    (State.tick s).regs = s.regs ∧
    (State.tick s).shadows = s.shadows ∧
    (State.tick s).blobs = s.blobs ∧
    (State.tick s).blobShadows = s.blobShadows ∧
    (State.tick s).hubNeeds = s.hubNeeds ∧
    (State.tick s).commits = s.commits ∧
    (State.tick s).seeds = s.seeds ∧
    (State.tick s).load = s.load ∧
    (State.tick s).clusters = s.clusters ∧
    (State.tick s).ctxs = s.ctxs ∧
    (State.tick s).memory = s.memory ∧
    (State.tick s).rig = s.rig ∧
    (State.tick s).coll = s.coll ∧
    (State.tick s).photonics = s.photonics ∧
    (State.tick s).domain = s.domain ∧
    (State.tick s).messages = s.messages ∧
    (State.tick s).package = s.package ∧
    (State.tick s).thermal = s.thermal ∧
    (State.tick s).control = s.control ∧
    (State.tick s).boot = s.boot ∧
    (State.tick s).dbg = s.dbg ∧
    (State.tick s).freeCount = s.freeCount := by
  unfold State.tick
  try dsimp only
  (repeat' split) <;> simp_all -implicitDefEqProofs [↓prod_flip3, prod_flip]

@[simp] theorem State.freeByte_kept (s : State) :
    (State.freeByte s).2.pending = s.pending ∧
    (State.freeByte s).2.fuses = s.fuses ∧
    (State.freeByte s).2.regs = s.regs ∧
    (State.freeByte s).2.shadows = s.shadows ∧
    (State.freeByte s).2.blobs = s.blobs ∧
    (State.freeByte s).2.blobShadows = s.blobShadows ∧
    (State.freeByte s).2.hubNeeds = s.hubNeeds ∧
    (State.freeByte s).2.commits = s.commits ∧
    (State.freeByte s).2.seeds = s.seeds ∧
    (State.freeByte s).2.load = s.load ∧
    (State.freeByte s).2.clusters = s.clusters ∧
    (State.freeByte s).2.ctxs = s.ctxs ∧
    (State.freeByte s).2.memory = s.memory ∧
    (State.freeByte s).2.rig = s.rig ∧
    (State.freeByte s).2.coll = s.coll ∧
    (State.freeByte s).2.photonics = s.photonics ∧
    (State.freeByte s).2.domain = s.domain ∧
    (State.freeByte s).2.messages = s.messages ∧
    (State.freeByte s).2.package = s.package ∧
    (State.freeByte s).2.clocks = s.clocks ∧
    (State.freeByte s).2.thermal = s.thermal ∧
    (State.freeByte s).2.control = s.control ∧
    (State.freeByte s).2.boot = s.boot ∧
    (State.freeByte s).2.dbg = s.dbg := by
  unfold State.freeByte
  try dsimp only
  (repeat' split) <;> simp_all -implicitDefEqProofs [↓prod_flip3, prod_flip]

@[simp] theorem State.freeWord_kept (s : State) :
    (State.freeWord s).2.pending = s.pending ∧
    (State.freeWord s).2.fuses = s.fuses ∧
    (State.freeWord s).2.regs = s.regs ∧
    (State.freeWord s).2.shadows = s.shadows ∧
    (State.freeWord s).2.blobs = s.blobs ∧
    (State.freeWord s).2.blobShadows = s.blobShadows ∧
    (State.freeWord s).2.hubNeeds = s.hubNeeds ∧
    (State.freeWord s).2.commits = s.commits ∧
    (State.freeWord s).2.seeds = s.seeds ∧
    (State.freeWord s).2.load = s.load ∧
    (State.freeWord s).2.clusters = s.clusters ∧
    (State.freeWord s).2.ctxs = s.ctxs ∧
    (State.freeWord s).2.memory = s.memory ∧
    (State.freeWord s).2.rig = s.rig ∧
    (State.freeWord s).2.coll = s.coll ∧
    (State.freeWord s).2.photonics = s.photonics ∧
    (State.freeWord s).2.domain = s.domain ∧
    (State.freeWord s).2.messages = s.messages ∧
    (State.freeWord s).2.package = s.package ∧
    (State.freeWord s).2.clocks = s.clocks ∧
    (State.freeWord s).2.thermal = s.thermal ∧
    (State.freeWord s).2.control = s.control ∧
    (State.freeWord s).2.boot = s.boot ∧
    (State.freeWord s).2.dbg = s.dbg := by
  unfold State.freeWord
  try dsimp only
  (repeat' split) <;> simp_all -implicitDefEqProofs [↓prod_flip3, prod_flip]

@[simp] theorem State.freeBytes_kept (s : State) (x1 : Nat) :
    (State.freeBytes s x1).2.pending = s.pending ∧
    (State.freeBytes s x1).2.fuses = s.fuses ∧
    (State.freeBytes s x1).2.regs = s.regs ∧
    (State.freeBytes s x1).2.shadows = s.shadows ∧
    (State.freeBytes s x1).2.blobs = s.blobs ∧
    (State.freeBytes s x1).2.blobShadows = s.blobShadows ∧
    (State.freeBytes s x1).2.hubNeeds = s.hubNeeds ∧
    (State.freeBytes s x1).2.commits = s.commits ∧
    (State.freeBytes s x1).2.seeds = s.seeds ∧
    (State.freeBytes s x1).2.load = s.load ∧
    (State.freeBytes s x1).2.clusters = s.clusters ∧
    (State.freeBytes s x1).2.ctxs = s.ctxs ∧
    (State.freeBytes s x1).2.memory = s.memory ∧
    (State.freeBytes s x1).2.rig = s.rig ∧
    (State.freeBytes s x1).2.coll = s.coll ∧
    (State.freeBytes s x1).2.photonics = s.photonics ∧
    (State.freeBytes s x1).2.domain = s.domain ∧
    (State.freeBytes s x1).2.messages = s.messages ∧
    (State.freeBytes s x1).2.package = s.package ∧
    (State.freeBytes s x1).2.clocks = s.clocks ∧
    (State.freeBytes s x1).2.thermal = s.thermal ∧
    (State.freeBytes s x1).2.control = s.control ∧
    (State.freeBytes s x1).2.boot = s.boot ∧
    (State.freeBytes s x1).2.dbg = s.dbg := by
  fun_induction State.freeBytes s x1 <;> simp_all -implicitDefEqProofs [↓prod_flip3, prod_flip]

@[simp] theorem State.divFree_kept (s : State) (a : Int) (b : Nat) :
    (State.divFree s a b).2.pending = s.pending ∧
    (State.divFree s a b).2.fuses = s.fuses ∧
    (State.divFree s a b).2.regs = s.regs ∧
    (State.divFree s a b).2.shadows = s.shadows ∧
    (State.divFree s a b).2.blobs = s.blobs ∧
    (State.divFree s a b).2.blobShadows = s.blobShadows ∧
    (State.divFree s a b).2.hubNeeds = s.hubNeeds ∧
    (State.divFree s a b).2.commits = s.commits ∧
    (State.divFree s a b).2.seeds = s.seeds ∧
    (State.divFree s a b).2.load = s.load ∧
    (State.divFree s a b).2.clusters = s.clusters ∧
    (State.divFree s a b).2.ctxs = s.ctxs ∧
    (State.divFree s a b).2.memory = s.memory ∧
    (State.divFree s a b).2.rig = s.rig ∧
    (State.divFree s a b).2.coll = s.coll ∧
    (State.divFree s a b).2.photonics = s.photonics ∧
    (State.divFree s a b).2.domain = s.domain ∧
    (State.divFree s a b).2.messages = s.messages ∧
    (State.divFree s a b).2.package = s.package ∧
    (State.divFree s a b).2.clocks = s.clocks ∧
    (State.divFree s a b).2.thermal = s.thermal ∧
    (State.divFree s a b).2.control = s.control ∧
    (State.divFree s a b).2.boot = s.boot ∧
    (State.divFree s a b).2.dbg = s.dbg := by
  unfold State.divFree
  try dsimp only
  (repeat' split) <;> simp_all -implicitDefEqProofs [↓prod_flip3, prod_flip]

@[simp] theorem State.bump_kept (s : State) (c : Nat) (id : Nat) (w : Nat) (n : Nat) :
    (State.bump s c id w n).pending = s.pending ∧
    (State.bump s c id w n).fuses = s.fuses ∧
    (State.bump s c id w n).regs = s.regs ∧
    (State.bump s c id w n).shadows = s.shadows ∧
    (State.bump s c id w n).blobs = s.blobs ∧
    (State.bump s c id w n).blobShadows = s.blobShadows ∧
    (State.bump s c id w n).hubNeeds = s.hubNeeds ∧
    (State.bump s c id w n).commits = s.commits ∧
    (State.bump s c id w n).seeds = s.seeds ∧
    (State.bump s c id w n).load = s.load ∧
    (State.bump s c id w n).ctxs = s.ctxs ∧
    (State.bump s c id w n).memory = s.memory ∧
    (State.bump s c id w n).rig = s.rig ∧
    (State.bump s c id w n).coll = s.coll ∧
    (State.bump s c id w n).photonics = s.photonics ∧
    (State.bump s c id w n).domain = s.domain ∧
    (State.bump s c id w n).messages = s.messages ∧
    (State.bump s c id w n).package = s.package ∧
    (State.bump s c id w n).clocks = s.clocks ∧
    (State.bump s c id w n).thermal = s.thermal ∧
    (State.bump s c id w n).control = s.control ∧
    (State.bump s c id w n).boot = s.boot ∧
    (State.bump s c id w n).dbg = s.dbg ∧
    (State.bump s c id w n).freeCount = s.freeCount := by
  unfold State.bump
  try dsimp only
  (repeat' split) <;> simp_all -implicitDefEqProofs [↓prod_flip3, prod_flip]

@[simp] theorem State.toPorts_kept (s : State) (f : Sent) :
    (State.toPorts s f).pending = s.pending ∧
    (State.toPorts s f).fuses = s.fuses ∧
    (State.toPorts s f).regs = s.regs ∧
    (State.toPorts s f).shadows = s.shadows ∧
    (State.toPorts s f).blobs = s.blobs ∧
    (State.toPorts s f).blobShadows = s.blobShadows ∧
    (State.toPorts s f).hubNeeds = s.hubNeeds ∧
    (State.toPorts s f).commits = s.commits ∧
    (State.toPorts s f).seeds = s.seeds ∧
    (State.toPorts s f).load = s.load ∧
    (State.toPorts s f).clusters = s.clusters ∧
    (State.toPorts s f).ctxs = s.ctxs ∧
    (State.toPorts s f).memory = s.memory ∧
    (State.toPorts s f).rig = s.rig ∧
    (State.toPorts s f).coll = s.coll ∧
    (State.toPorts s f).photonics = s.photonics ∧
    (State.toPorts s f).domain = s.domain ∧
    (State.toPorts s f).messages = s.messages ∧
    (State.toPorts s f).package = s.package ∧
    (State.toPorts s f).clocks = s.clocks ∧
    (State.toPorts s f).thermal = s.thermal ∧
    (State.toPorts s f).boot = s.boot ∧
    (State.toPorts s f).dbg = s.dbg ∧
    (State.toPorts s f).freeCount = s.freeCount := by
  unfold State.toPorts
  try dsimp only
  (repeat' split) <;> simp_all -implicitDefEqProofs [↓prod_flip3, prod_flip]

@[simp] theorem State.heardKrytae_kept (s : State) (k : Nat) (n : Nat) :
    (State.heardKrytae s k n).pending = s.pending ∧
    (State.heardKrytae s k n).fuses = s.fuses ∧
    (State.heardKrytae s k n).regs = s.regs ∧
    (State.heardKrytae s k n).shadows = s.shadows ∧
    (State.heardKrytae s k n).blobs = s.blobs ∧
    (State.heardKrytae s k n).blobShadows = s.blobShadows ∧
    (State.heardKrytae s k n).hubNeeds = s.hubNeeds ∧
    (State.heardKrytae s k n).commits = s.commits ∧
    (State.heardKrytae s k n).seeds = s.seeds ∧
    (State.heardKrytae s k n).load = s.load ∧
    (State.heardKrytae s k n).clusters = s.clusters ∧
    (State.heardKrytae s k n).ctxs = s.ctxs ∧
    (State.heardKrytae s k n).memory = s.memory ∧
    (State.heardKrytae s k n).rig = s.rig ∧
    (State.heardKrytae s k n).coll = s.coll ∧
    (State.heardKrytae s k n).photonics = s.photonics ∧
    (State.heardKrytae s k n).domain = s.domain ∧
    (State.heardKrytae s k n).messages = s.messages ∧
    (State.heardKrytae s k n).package = s.package ∧
    (State.heardKrytae s k n).clocks = s.clocks ∧
    (State.heardKrytae s k n).thermal = s.thermal ∧
    (State.heardKrytae s k n).boot = s.boot ∧
    (State.heardKrytae s k n).dbg = s.dbg ∧
    (State.heardKrytae s k n).freeCount = s.freeCount := by
  unfold State.heardKrytae
  try dsimp only
  (repeat' split) <;> simp_all -implicitDefEqProofs [↓prod_flip3, prod_flip]

@[simp] theorem State.emit_kept (s : State) (o : Output) :
    (State.emit s o).pending = s.pending ∧
    (State.emit s o).fuses = s.fuses ∧
    (State.emit s o).regs = s.regs ∧
    (State.emit s o).shadows = s.shadows ∧
    (State.emit s o).blobs = s.blobs ∧
    (State.emit s o).blobShadows = s.blobShadows ∧
    (State.emit s o).hubNeeds = s.hubNeeds ∧
    (State.emit s o).commits = s.commits ∧
    (State.emit s o).seeds = s.seeds ∧
    (State.emit s o).load = s.load ∧
    (State.emit s o).clusters = s.clusters ∧
    (State.emit s o).ctxs = s.ctxs ∧
    (State.emit s o).memory = s.memory ∧
    (State.emit s o).rig = s.rig ∧
    (State.emit s o).coll = s.coll ∧
    (State.emit s o).photonics = s.photonics ∧
    (State.emit s o).domain = s.domain ∧
    (State.emit s o).messages = s.messages ∧
    (State.emit s o).package = s.package ∧
    (State.emit s o).clocks = s.clocks ∧
    (State.emit s o).thermal = s.thermal ∧
    (State.emit s o).boot = s.boot ∧
    (State.emit s o).dbg = s.dbg ∧
    (State.emit s o).freeCount = s.freeCount := by
  unfold State.emit
  try dsimp only
  (repeat' split) <;> simp_all -implicitDefEqProofs [↓prod_flip3, prod_flip]

@[simp] theorem State.wire_kept (s : State) (o : Output) :
    (State.wire s o).pending = s.pending ∧
    (State.wire s o).fuses = s.fuses ∧
    (State.wire s o).regs = s.regs ∧
    (State.wire s o).shadows = s.shadows ∧
    (State.wire s o).blobs = s.blobs ∧
    (State.wire s o).blobShadows = s.blobShadows ∧
    (State.wire s o).hubNeeds = s.hubNeeds ∧
    (State.wire s o).commits = s.commits ∧
    (State.wire s o).seeds = s.seeds ∧
    (State.wire s o).load = s.load ∧
    (State.wire s o).clusters = s.clusters ∧
    (State.wire s o).ctxs = s.ctxs ∧
    (State.wire s o).memory = s.memory ∧
    (State.wire s o).rig = s.rig ∧
    (State.wire s o).coll = s.coll ∧
    (State.wire s o).photonics = s.photonics ∧
    (State.wire s o).messages = s.messages ∧
    (State.wire s o).package = s.package ∧
    (State.wire s o).clocks = s.clocks ∧
    (State.wire s o).thermal = s.thermal ∧
    (State.wire s o).boot = s.boot ∧
    (State.wire s o).dbg = s.dbg ∧
    (State.wire s o).freeCount = s.freeCount := by
  unfold State.wire
  try dsimp only
  (repeat' split) <;> simp_all -implicitDefEqProofs [↓prod_flip3, prod_flip]

@[simp] theorem State.drainPort_kept (s : State) (p : Nat) :
    (State.drainPort s p).pending = s.pending ∧
    (State.drainPort s p).fuses = s.fuses ∧
    (State.drainPort s p).regs = s.regs ∧
    (State.drainPort s p).shadows = s.shadows ∧
    (State.drainPort s p).blobs = s.blobs ∧
    (State.drainPort s p).blobShadows = s.blobShadows ∧
    (State.drainPort s p).hubNeeds = s.hubNeeds ∧
    (State.drainPort s p).commits = s.commits ∧
    (State.drainPort s p).seeds = s.seeds ∧
    (State.drainPort s p).load = s.load ∧
    (State.drainPort s p).clusters = s.clusters ∧
    (State.drainPort s p).ctxs = s.ctxs ∧
    (State.drainPort s p).memory = s.memory ∧
    (State.drainPort s p).rig = s.rig ∧
    (State.drainPort s p).coll = s.coll ∧
    (State.drainPort s p).photonics = s.photonics ∧
    (State.drainPort s p).messages = s.messages ∧
    (State.drainPort s p).package = s.package ∧
    (State.drainPort s p).clocks = s.clocks ∧
    (State.drainPort s p).thermal = s.thermal ∧
    (State.drainPort s p).boot = s.boot ∧
    (State.drainPort s p).dbg = s.dbg ∧
    (State.drainPort s p).freeCount = s.freeCount := by
  unfold State.drainPort
  try dsimp only
  (repeat' split) <;> simp_all -implicitDefEqProofs [↓prod_flip3, prod_flip]

@[simp] theorem State.heard_kept (s : State) (p : Nat) (vc : Nat) (n : Nat) :
    (State.heard s p vc n).pending = s.pending ∧
    (State.heard s p vc n).fuses = s.fuses ∧
    (State.heard s p vc n).regs = s.regs ∧
    (State.heard s p vc n).shadows = s.shadows ∧
    (State.heard s p vc n).blobs = s.blobs ∧
    (State.heard s p vc n).blobShadows = s.blobShadows ∧
    (State.heard s p vc n).hubNeeds = s.hubNeeds ∧
    (State.heard s p vc n).commits = s.commits ∧
    (State.heard s p vc n).seeds = s.seeds ∧
    (State.heard s p vc n).load = s.load ∧
    (State.heard s p vc n).clusters = s.clusters ∧
    (State.heard s p vc n).ctxs = s.ctxs ∧
    (State.heard s p vc n).memory = s.memory ∧
    (State.heard s p vc n).rig = s.rig ∧
    (State.heard s p vc n).coll = s.coll ∧
    (State.heard s p vc n).photonics = s.photonics ∧
    (State.heard s p vc n).messages = s.messages ∧
    (State.heard s p vc n).package = s.package ∧
    (State.heard s p vc n).clocks = s.clocks ∧
    (State.heard s p vc n).thermal = s.thermal ∧
    (State.heard s p vc n).control = s.control ∧
    (State.heard s p vc n).boot = s.boot ∧
    (State.heard s p vc n).dbg = s.dbg ∧
    (State.heard s p vc n).freeCount = s.freeCount := by
  unfold State.heard
  try dsimp only
  (repeat' split) <;> simp_all -implicitDefEqProofs [↓prod_flip3, prod_flip]

@[simp] theorem State.sendPortControl_kept (s : State) (p : Nat) (nak : Bool) :
    (State.sendPortControl s p nak).pending = s.pending ∧
    (State.sendPortControl s p nak).fuses = s.fuses ∧
    (State.sendPortControl s p nak).regs = s.regs ∧
    (State.sendPortControl s p nak).shadows = s.shadows ∧
    (State.sendPortControl s p nak).blobs = s.blobs ∧
    (State.sendPortControl s p nak).blobShadows = s.blobShadows ∧
    (State.sendPortControl s p nak).hubNeeds = s.hubNeeds ∧
    (State.sendPortControl s p nak).commits = s.commits ∧
    (State.sendPortControl s p nak).seeds = s.seeds ∧
    (State.sendPortControl s p nak).load = s.load ∧
    (State.sendPortControl s p nak).clusters = s.clusters ∧
    (State.sendPortControl s p nak).ctxs = s.ctxs ∧
    (State.sendPortControl s p nak).memory = s.memory ∧
    (State.sendPortControl s p nak).rig = s.rig ∧
    (State.sendPortControl s p nak).coll = s.coll ∧
    (State.sendPortControl s p nak).photonics = s.photonics ∧
    (State.sendPortControl s p nak).messages = s.messages ∧
    (State.sendPortControl s p nak).package = s.package ∧
    (State.sendPortControl s p nak).clocks = s.clocks ∧
    (State.sendPortControl s p nak).thermal = s.thermal ∧
    (State.sendPortControl s p nak).boot = s.boot ∧
    (State.sendPortControl s p nak).dbg = s.dbg ∧
    (State.sendPortControl s p nak).freeCount = s.freeCount := by
  unfold State.sendPortControl
  try dsimp only
  (repeat' split) <;> simp_all -implicitDefEqProofs [↓prod_flip3, prod_flip]

@[simp] theorem State.sendKrytaeControl_kept (s : State) (k : Nat) (nak : Bool) :
    (State.sendKrytaeControl s k nak).pending = s.pending ∧
    (State.sendKrytaeControl s k nak).fuses = s.fuses ∧
    (State.sendKrytaeControl s k nak).regs = s.regs ∧
    (State.sendKrytaeControl s k nak).shadows = s.shadows ∧
    (State.sendKrytaeControl s k nak).blobs = s.blobs ∧
    (State.sendKrytaeControl s k nak).blobShadows = s.blobShadows ∧
    (State.sendKrytaeControl s k nak).hubNeeds = s.hubNeeds ∧
    (State.sendKrytaeControl s k nak).commits = s.commits ∧
    (State.sendKrytaeControl s k nak).seeds = s.seeds ∧
    (State.sendKrytaeControl s k nak).load = s.load ∧
    (State.sendKrytaeControl s k nak).clusters = s.clusters ∧
    (State.sendKrytaeControl s k nak).ctxs = s.ctxs ∧
    (State.sendKrytaeControl s k nak).memory = s.memory ∧
    (State.sendKrytaeControl s k nak).rig = s.rig ∧
    (State.sendKrytaeControl s k nak).coll = s.coll ∧
    (State.sendKrytaeControl s k nak).photonics = s.photonics ∧
    (State.sendKrytaeControl s k nak).messages = s.messages ∧
    (State.sendKrytaeControl s k nak).package = s.package ∧
    (State.sendKrytaeControl s k nak).clocks = s.clocks ∧
    (State.sendKrytaeControl s k nak).thermal = s.thermal ∧
    (State.sendKrytaeControl s k nak).boot = s.boot ∧
    (State.sendKrytaeControl s k nak).dbg = s.dbg ∧
    (State.sendKrytaeControl s k nak).freeCount = s.freeCount := by
  unfold State.sendKrytaeControl
  try dsimp only
  (repeat' split) <;> simp_all -implicitDefEqProofs [↓prod_flip3, prod_flip]

@[simp] theorem State.slate_kept (s : State) (unit : Nat) (code : Nat) (ctx : Nat) (ids : Ids) (detail : List Byte) :
    (State.slate s unit code ctx ids detail).pending = s.pending ∧
    (State.slate s unit code ctx ids detail).fuses = s.fuses ∧
    (State.slate s unit code ctx ids detail).regs = s.regs ∧
    (State.slate s unit code ctx ids detail).shadows = s.shadows ∧
    (State.slate s unit code ctx ids detail).blobs = s.blobs ∧
    (State.slate s unit code ctx ids detail).blobShadows = s.blobShadows ∧
    (State.slate s unit code ctx ids detail).hubNeeds = s.hubNeeds ∧
    (State.slate s unit code ctx ids detail).commits = s.commits ∧
    (State.slate s unit code ctx ids detail).seeds = s.seeds ∧
    (State.slate s unit code ctx ids detail).load = s.load ∧
    (State.slate s unit code ctx ids detail).clusters = s.clusters ∧
    (State.slate s unit code ctx ids detail).ctxs = s.ctxs ∧
    (State.slate s unit code ctx ids detail).memory = s.memory ∧
    (State.slate s unit code ctx ids detail).rig = s.rig ∧
    (State.slate s unit code ctx ids detail).coll = s.coll ∧
    (State.slate s unit code ctx ids detail).photonics = s.photonics ∧
    (State.slate s unit code ctx ids detail).domain = s.domain ∧
    (State.slate s unit code ctx ids detail).messages = s.messages ∧
    (State.slate s unit code ctx ids detail).package = s.package ∧
    (State.slate s unit code ctx ids detail).clocks = s.clocks ∧
    (State.slate s unit code ctx ids detail).thermal = s.thermal ∧
    (State.slate s unit code ctx ids detail).control = s.control ∧
    (State.slate s unit code ctx ids detail).boot = s.boot ∧
    (State.slate s unit code ctx ids detail).freeCount = s.freeCount := by
  unfold State.slate
  try dsimp only
  (repeat' split) <;> simp_all -implicitDefEqProofs [↓prod_flip3, prod_flip]

@[simp] theorem State.slateOnly_kept (s : State) (unit : Nat) (code : Nat) (ctx : Nat) (ids : Ids) (detail : List Byte) :
    (State.slateOnly s unit code ctx ids detail).pending = s.pending ∧
    (State.slateOnly s unit code ctx ids detail).fuses = s.fuses ∧
    (State.slateOnly s unit code ctx ids detail).regs = s.regs ∧
    (State.slateOnly s unit code ctx ids detail).shadows = s.shadows ∧
    (State.slateOnly s unit code ctx ids detail).blobs = s.blobs ∧
    (State.slateOnly s unit code ctx ids detail).blobShadows = s.blobShadows ∧
    (State.slateOnly s unit code ctx ids detail).hubNeeds = s.hubNeeds ∧
    (State.slateOnly s unit code ctx ids detail).commits = s.commits ∧
    (State.slateOnly s unit code ctx ids detail).seeds = s.seeds ∧
    (State.slateOnly s unit code ctx ids detail).load = s.load ∧
    (State.slateOnly s unit code ctx ids detail).clusters = s.clusters ∧
    (State.slateOnly s unit code ctx ids detail).ctxs = s.ctxs ∧
    (State.slateOnly s unit code ctx ids detail).memory = s.memory ∧
    (State.slateOnly s unit code ctx ids detail).rig = s.rig ∧
    (State.slateOnly s unit code ctx ids detail).coll = s.coll ∧
    (State.slateOnly s unit code ctx ids detail).photonics = s.photonics ∧
    (State.slateOnly s unit code ctx ids detail).domain = s.domain ∧
    (State.slateOnly s unit code ctx ids detail).messages = s.messages ∧
    (State.slateOnly s unit code ctx ids detail).package = s.package ∧
    (State.slateOnly s unit code ctx ids detail).clocks = s.clocks ∧
    (State.slateOnly s unit code ctx ids detail).thermal = s.thermal ∧
    (State.slateOnly s unit code ctx ids detail).control = s.control ∧
    (State.slateOnly s unit code ctx ids detail).boot = s.boot ∧
    (State.slateOnly s unit code ctx ids detail).freeCount = s.freeCount := by
  unfold State.slateOnly
  try dsimp only
  (repeat' split) <;> simp_all -implicitDefEqProofs [↓prod_flip3, prod_flip]

@[simp] theorem State.queueEvent_kept (s : State) (e : EventIn) (action : Nat) :
    (State.queueEvent s e action).pending = s.pending ∧
    (State.queueEvent s e action).fuses = s.fuses ∧
    (State.queueEvent s e action).shadows = s.shadows ∧
    (State.queueEvent s e action).blobs = s.blobs ∧
    (State.queueEvent s e action).blobShadows = s.blobShadows ∧
    (State.queueEvent s e action).hubNeeds = s.hubNeeds ∧
    (State.queueEvent s e action).commits = s.commits ∧
    (State.queueEvent s e action).seeds = s.seeds ∧
    (State.queueEvent s e action).load = s.load ∧
    (State.queueEvent s e action).clusters = s.clusters ∧
    (State.queueEvent s e action).ctxs = s.ctxs ∧
    (State.queueEvent s e action).memory = s.memory ∧
    (State.queueEvent s e action).rig = s.rig ∧
    (State.queueEvent s e action).coll = s.coll ∧
    (State.queueEvent s e action).photonics = s.photonics ∧
    (State.queueEvent s e action).domain = s.domain ∧
    (State.queueEvent s e action).messages = s.messages ∧
    (State.queueEvent s e action).package = s.package ∧
    (State.queueEvent s e action).clocks = s.clocks ∧
    (State.queueEvent s e action).thermal = s.thermal ∧
    (State.queueEvent s e action).boot = s.boot ∧
    (State.queueEvent s e action).dbg = s.dbg ∧
    (State.queueEvent s e action).freeCount = s.freeCount := by
  unfold State.queueEvent
  try dsimp only
  (repeat' split) <;> simp_all -implicitDefEqProofs [↓prod_flip3, prod_flip]

@[simp] theorem State.deliverEvent_kept (s : State) (e : EventIn) :
    (State.deliverEvent s e).pending = s.pending ∧
    (State.deliverEvent s e).fuses = s.fuses ∧
    (State.deliverEvent s e).shadows = s.shadows ∧
    (State.deliverEvent s e).blobs = s.blobs ∧
    (State.deliverEvent s e).blobShadows = s.blobShadows ∧
    (State.deliverEvent s e).hubNeeds = s.hubNeeds ∧
    (State.deliverEvent s e).commits = s.commits ∧
    (State.deliverEvent s e).seeds = s.seeds ∧
    (State.deliverEvent s e).load = s.load ∧
    (State.deliverEvent s e).clusters = s.clusters ∧
    (State.deliverEvent s e).ctxs = s.ctxs ∧
    (State.deliverEvent s e).memory = s.memory ∧
    (State.deliverEvent s e).rig = s.rig ∧
    (State.deliverEvent s e).coll = s.coll ∧
    (State.deliverEvent s e).photonics = s.photonics ∧
    (State.deliverEvent s e).domain = s.domain ∧
    (State.deliverEvent s e).messages = s.messages ∧
    (State.deliverEvent s e).package = s.package ∧
    (State.deliverEvent s e).clocks = s.clocks ∧
    (State.deliverEvent s e).thermal = s.thermal ∧
    (State.deliverEvent s e).boot = s.boot ∧
    (State.deliverEvent s e).dbg = s.dbg ∧
    (State.deliverEvent s e).freeCount = s.freeCount := by
  unfold State.deliverEvent
  try dsimp only
  (repeat' split) <;> simp_all -implicitDefEqProofs [↓prod_flip3, prod_flip]

@[simp] theorem State.invalidRelease_kept (s : State) (inbox : Nat) (value : Nat) :
    (State.invalidRelease s inbox value).pending = s.pending ∧
    (State.invalidRelease s inbox value).fuses = s.fuses ∧
    (State.invalidRelease s inbox value).shadows = s.shadows ∧
    (State.invalidRelease s inbox value).blobs = s.blobs ∧
    (State.invalidRelease s inbox value).blobShadows = s.blobShadows ∧
    (State.invalidRelease s inbox value).hubNeeds = s.hubNeeds ∧
    (State.invalidRelease s inbox value).commits = s.commits ∧
    (State.invalidRelease s inbox value).seeds = s.seeds ∧
    (State.invalidRelease s inbox value).load = s.load ∧
    (State.invalidRelease s inbox value).clusters = s.clusters ∧
    (State.invalidRelease s inbox value).ctxs = s.ctxs ∧
    (State.invalidRelease s inbox value).memory = s.memory ∧
    (State.invalidRelease s inbox value).rig = s.rig ∧
    (State.invalidRelease s inbox value).coll = s.coll ∧
    (State.invalidRelease s inbox value).photonics = s.photonics ∧
    (State.invalidRelease s inbox value).domain = s.domain ∧
    (State.invalidRelease s inbox value).messages = s.messages ∧
    (State.invalidRelease s inbox value).package = s.package ∧
    (State.invalidRelease s inbox value).clocks = s.clocks ∧
    (State.invalidRelease s inbox value).thermal = s.thermal ∧
    (State.invalidRelease s inbox value).boot = s.boot ∧
    (State.invalidRelease s inbox value).freeCount = s.freeCount := by
  unfold State.invalidRelease
  try dsimp only
  (repeat' split) <;> simp_all -implicitDefEqProofs [↓prod_flip3, prod_flip]

@[simp] theorem State.raiseEvent_kept (s : State) (e : EventIn) :
    (State.raiseEvent s e).pending = s.pending ∧
    (State.raiseEvent s e).fuses = s.fuses ∧
    (State.raiseEvent s e).shadows = s.shadows ∧
    (State.raiseEvent s e).blobs = s.blobs ∧
    (State.raiseEvent s e).blobShadows = s.blobShadows ∧
    (State.raiseEvent s e).hubNeeds = s.hubNeeds ∧
    (State.raiseEvent s e).commits = s.commits ∧
    (State.raiseEvent s e).seeds = s.seeds ∧
    (State.raiseEvent s e).load = s.load ∧
    (State.raiseEvent s e).clusters = s.clusters ∧
    (State.raiseEvent s e).ctxs = s.ctxs ∧
    (State.raiseEvent s e).memory = s.memory ∧
    (State.raiseEvent s e).rig = s.rig ∧
    (State.raiseEvent s e).coll = s.coll ∧
    (State.raiseEvent s e).photonics = s.photonics ∧
    (State.raiseEvent s e).domain = s.domain ∧
    (State.raiseEvent s e).messages = s.messages ∧
    (State.raiseEvent s e).package = s.package ∧
    (State.raiseEvent s e).clocks = s.clocks ∧
    (State.raiseEvent s e).thermal = s.thermal ∧
    (State.raiseEvent s e).boot = s.boot ∧
    (State.raiseEvent s e).freeCount = s.freeCount := by
  unfold State.raiseEvent
  try dsimp only
  (repeat' split) <;> simp_all -implicitDefEqProofs [↓prod_flip3, prod_flip]

@[simp] theorem State.raiseSev_kept (s : State) (code : Nat) (sev : Nat) (die : Nat) (unit : Nat) (detail : List Byte) :
    (State.raiseSev s code sev die unit detail).pending = s.pending ∧
    (State.raiseSev s code sev die unit detail).fuses = s.fuses ∧
    (State.raiseSev s code sev die unit detail).shadows = s.shadows ∧
    (State.raiseSev s code sev die unit detail).blobs = s.blobs ∧
    (State.raiseSev s code sev die unit detail).blobShadows = s.blobShadows ∧
    (State.raiseSev s code sev die unit detail).hubNeeds = s.hubNeeds ∧
    (State.raiseSev s code sev die unit detail).commits = s.commits ∧
    (State.raiseSev s code sev die unit detail).seeds = s.seeds ∧
    (State.raiseSev s code sev die unit detail).load = s.load ∧
    (State.raiseSev s code sev die unit detail).clusters = s.clusters ∧
    (State.raiseSev s code sev die unit detail).ctxs = s.ctxs ∧
    (State.raiseSev s code sev die unit detail).memory = s.memory ∧
    (State.raiseSev s code sev die unit detail).rig = s.rig ∧
    (State.raiseSev s code sev die unit detail).coll = s.coll ∧
    (State.raiseSev s code sev die unit detail).photonics = s.photonics ∧
    (State.raiseSev s code sev die unit detail).domain = s.domain ∧
    (State.raiseSev s code sev die unit detail).messages = s.messages ∧
    (State.raiseSev s code sev die unit detail).package = s.package ∧
    (State.raiseSev s code sev die unit detail).clocks = s.clocks ∧
    (State.raiseSev s code sev die unit detail).thermal = s.thermal ∧
    (State.raiseSev s code sev die unit detail).boot = s.boot ∧
    (State.raiseSev s code sev die unit detail).freeCount = s.freeCount := by
  unfold State.raiseSev
  try dsimp only
  (repeat' split) <;> simp_all -implicitDefEqProofs [↓prod_flip3, prod_flip]

@[simp] theorem State.raise_kept (s : State) (code : Nat) (die : Nat) (unit : Nat) (detail : List Byte) :
    (State.raise s code die unit detail).pending = s.pending ∧
    (State.raise s code die unit detail).fuses = s.fuses ∧
    (State.raise s code die unit detail).shadows = s.shadows ∧
    (State.raise s code die unit detail).blobs = s.blobs ∧
    (State.raise s code die unit detail).blobShadows = s.blobShadows ∧
    (State.raise s code die unit detail).hubNeeds = s.hubNeeds ∧
    (State.raise s code die unit detail).commits = s.commits ∧
    (State.raise s code die unit detail).seeds = s.seeds ∧
    (State.raise s code die unit detail).load = s.load ∧
    (State.raise s code die unit detail).clusters = s.clusters ∧
    (State.raise s code die unit detail).ctxs = s.ctxs ∧
    (State.raise s code die unit detail).memory = s.memory ∧
    (State.raise s code die unit detail).rig = s.rig ∧
    (State.raise s code die unit detail).coll = s.coll ∧
    (State.raise s code die unit detail).photonics = s.photonics ∧
    (State.raise s code die unit detail).domain = s.domain ∧
    (State.raise s code die unit detail).messages = s.messages ∧
    (State.raise s code die unit detail).package = s.package ∧
    (State.raise s code die unit detail).clocks = s.clocks ∧
    (State.raise s code die unit detail).thermal = s.thermal ∧
    (State.raise s code die unit detail).boot = s.boot ∧
    (State.raise s code die unit detail).freeCount = s.freeCount := by
  unfold State.raise
  try dsimp only
  (repeat' split) <;> simp_all -implicitDefEqProofs [↓prod_flip3, prod_flip]

@[simp] theorem State.raiseFor_kept (s : State) (code : Nat) (die : Nat) (unit : Nat) (x : Nat) (ids : Ids) (detail : List Byte) :
    (State.raiseFor s code die unit x ids detail).pending = s.pending ∧
    (State.raiseFor s code die unit x ids detail).fuses = s.fuses ∧
    (State.raiseFor s code die unit x ids detail).shadows = s.shadows ∧
    (State.raiseFor s code die unit x ids detail).blobs = s.blobs ∧
    (State.raiseFor s code die unit x ids detail).blobShadows = s.blobShadows ∧
    (State.raiseFor s code die unit x ids detail).hubNeeds = s.hubNeeds ∧
    (State.raiseFor s code die unit x ids detail).commits = s.commits ∧
    (State.raiseFor s code die unit x ids detail).seeds = s.seeds ∧
    (State.raiseFor s code die unit x ids detail).load = s.load ∧
    (State.raiseFor s code die unit x ids detail).clusters = s.clusters ∧
    (State.raiseFor s code die unit x ids detail).ctxs = s.ctxs ∧
    (State.raiseFor s code die unit x ids detail).memory = s.memory ∧
    (State.raiseFor s code die unit x ids detail).rig = s.rig ∧
    (State.raiseFor s code die unit x ids detail).coll = s.coll ∧
    (State.raiseFor s code die unit x ids detail).photonics = s.photonics ∧
    (State.raiseFor s code die unit x ids detail).domain = s.domain ∧
    (State.raiseFor s code die unit x ids detail).messages = s.messages ∧
    (State.raiseFor s code die unit x ids detail).package = s.package ∧
    (State.raiseFor s code die unit x ids detail).clocks = s.clocks ∧
    (State.raiseFor s code die unit x ids detail).thermal = s.thermal ∧
    (State.raiseFor s code die unit x ids detail).boot = s.boot ∧
    (State.raiseFor s code die unit x ids detail).freeCount = s.freeCount := by
  unfold State.raiseFor
  try dsimp only
  (repeat' split) <;> simp_all -implicitDefEqProofs [↓prod_flip3, prod_flip]

@[simp] theorem State.stopZone_kept (s : State) (z : Nat) :
    (State.stopZone s z).pending = s.pending ∧
    (State.stopZone s z).fuses = s.fuses ∧
    (State.stopZone s z).regs = s.regs ∧
    (State.stopZone s z).shadows = s.shadows ∧
    (State.stopZone s z).blobs = s.blobs ∧
    (State.stopZone s z).blobShadows = s.blobShadows ∧
    (State.stopZone s z).hubNeeds = s.hubNeeds ∧
    (State.stopZone s z).commits = s.commits ∧
    (State.stopZone s z).seeds = s.seeds ∧
    (State.stopZone s z).load = s.load ∧
    (State.stopZone s z).clusters = s.clusters ∧
    (State.stopZone s z).ctxs = s.ctxs ∧
    (State.stopZone s z).memory = s.memory ∧
    (State.stopZone s z).rig = s.rig ∧
    (State.stopZone s z).coll = s.coll ∧
    (State.stopZone s z).photonics = s.photonics ∧
    (State.stopZone s z).domain = s.domain ∧
    (State.stopZone s z).messages = s.messages ∧
    (State.stopZone s z).package = s.package ∧
    (State.stopZone s z).thermal = s.thermal ∧
    (State.stopZone s z).control = s.control ∧
    (State.stopZone s z).boot = s.boot ∧
    (State.stopZone s z).dbg = s.dbg ∧
    (State.stopZone s z).freeCount = s.freeCount := by
  unfold State.stopZone
  try dsimp only
  (repeat' split) <;> simp_all -implicitDefEqProofs [↓prod_flip3, prod_flip]

@[simp] theorem State.restartZone_kept (s : State) (z : Nat) :
    (State.restartZone s z).pending = s.pending ∧
    (State.restartZone s z).fuses = s.fuses ∧
    (State.restartZone s z).regs = s.regs ∧
    (State.restartZone s z).shadows = s.shadows ∧
    (State.restartZone s z).blobs = s.blobs ∧
    (State.restartZone s z).blobShadows = s.blobShadows ∧
    (State.restartZone s z).hubNeeds = s.hubNeeds ∧
    (State.restartZone s z).commits = s.commits ∧
    (State.restartZone s z).seeds = s.seeds ∧
    (State.restartZone s z).load = s.load ∧
    (State.restartZone s z).clusters = s.clusters ∧
    (State.restartZone s z).ctxs = s.ctxs ∧
    (State.restartZone s z).memory = s.memory ∧
    (State.restartZone s z).rig = s.rig ∧
    (State.restartZone s z).coll = s.coll ∧
    (State.restartZone s z).photonics = s.photonics ∧
    (State.restartZone s z).domain = s.domain ∧
    (State.restartZone s z).messages = s.messages ∧
    (State.restartZone s z).package = s.package ∧
    (State.restartZone s z).thermal = s.thermal ∧
    (State.restartZone s z).control = s.control ∧
    (State.restartZone s z).boot = s.boot ∧
    (State.restartZone s z).dbg = s.dbg ∧
    (State.restartZone s z).freeCount = s.freeCount := by
  unfold State.restartZone
  try dsimp only
  (repeat' split) <;> simp_all -implicitDefEqProofs [↓prod_flip3, prod_flip]

@[simp] theorem State.zonesBusy_kept (s : State) (cls : List Nat) :
    (State.zonesBusy s cls).pending = s.pending ∧
    (State.zonesBusy s cls).fuses = s.fuses ∧
    (State.zonesBusy s cls).regs = s.regs ∧
    (State.zonesBusy s cls).shadows = s.shadows ∧
    (State.zonesBusy s cls).blobs = s.blobs ∧
    (State.zonesBusy s cls).blobShadows = s.blobShadows ∧
    (State.zonesBusy s cls).hubNeeds = s.hubNeeds ∧
    (State.zonesBusy s cls).commits = s.commits ∧
    (State.zonesBusy s cls).seeds = s.seeds ∧
    (State.zonesBusy s cls).load = s.load ∧
    (State.zonesBusy s cls).clusters = s.clusters ∧
    (State.zonesBusy s cls).ctxs = s.ctxs ∧
    (State.zonesBusy s cls).memory = s.memory ∧
    (State.zonesBusy s cls).rig = s.rig ∧
    (State.zonesBusy s cls).coll = s.coll ∧
    (State.zonesBusy s cls).photonics = s.photonics ∧
    (State.zonesBusy s cls).domain = s.domain ∧
    (State.zonesBusy s cls).messages = s.messages ∧
    (State.zonesBusy s cls).package = s.package ∧
    (State.zonesBusy s cls).thermal = s.thermal ∧
    (State.zonesBusy s cls).control = s.control ∧
    (State.zonesBusy s cls).boot = s.boot ∧
    (State.zonesBusy s cls).dbg = s.dbg ∧
    (State.zonesBusy s cls).freeCount = s.freeCount := by
  unfold State.zonesBusy
  try dsimp only
  (repeat' split) <;> simp_all -implicitDefEqProofs [↓prod_flip3, prod_flip]

@[simp] theorem State.zonesFreed_kept (s : State) (cls : List Nat) :
    (State.zonesFreed s cls).pending = s.pending ∧
    (State.zonesFreed s cls).fuses = s.fuses ∧
    (State.zonesFreed s cls).regs = s.regs ∧
    (State.zonesFreed s cls).shadows = s.shadows ∧
    (State.zonesFreed s cls).blobs = s.blobs ∧
    (State.zonesFreed s cls).blobShadows = s.blobShadows ∧
    (State.zonesFreed s cls).hubNeeds = s.hubNeeds ∧
    (State.zonesFreed s cls).commits = s.commits ∧
    (State.zonesFreed s cls).seeds = s.seeds ∧
    (State.zonesFreed s cls).load = s.load ∧
    (State.zonesFreed s cls).clusters = s.clusters ∧
    (State.zonesFreed s cls).ctxs = s.ctxs ∧
    (State.zonesFreed s cls).memory = s.memory ∧
    (State.zonesFreed s cls).rig = s.rig ∧
    (State.zonesFreed s cls).coll = s.coll ∧
    (State.zonesFreed s cls).photonics = s.photonics ∧
    (State.zonesFreed s cls).domain = s.domain ∧
    (State.zonesFreed s cls).messages = s.messages ∧
    (State.zonesFreed s cls).package = s.package ∧
    (State.zonesFreed s cls).thermal = s.thermal ∧
    (State.zonesFreed s cls).control = s.control ∧
    (State.zonesFreed s cls).boot = s.boot ∧
    (State.zonesFreed s cls).dbg = s.dbg ∧
    (State.zonesFreed s cls).freeCount = s.freeCount := by
  unfold State.zonesFreed
  try dsimp only
  (repeat' split) <;> simp_all -implicitDefEqProofs [↓prod_flip3, prod_flip]

@[simp] theorem State.memoryError_kept (s : State) (store : Nat) (loc : Nat) (word : Nat) (syn : List Byte) (r : Requester) :
    (State.memoryError s store loc word syn r).pending = s.pending ∧
    (State.memoryError s store loc word syn r).fuses = s.fuses ∧
    (State.memoryError s store loc word syn r).shadows = s.shadows ∧
    (State.memoryError s store loc word syn r).blobShadows = s.blobShadows ∧
    (State.memoryError s store loc word syn r).hubNeeds = s.hubNeeds ∧
    (State.memoryError s store loc word syn r).commits = s.commits ∧
    (State.memoryError s store loc word syn r).seeds = s.seeds ∧
    (State.memoryError s store loc word syn r).load = s.load ∧
    (State.memoryError s store loc word syn r).clusters = s.clusters ∧
    (State.memoryError s store loc word syn r).ctxs = s.ctxs ∧
    (State.memoryError s store loc word syn r).memory = s.memory ∧
    (State.memoryError s store loc word syn r).rig = s.rig ∧
    (State.memoryError s store loc word syn r).coll = s.coll ∧
    (State.memoryError s store loc word syn r).photonics = s.photonics ∧
    (State.memoryError s store loc word syn r).domain = s.domain ∧
    (State.memoryError s store loc word syn r).messages = s.messages ∧
    (State.memoryError s store loc word syn r).package = s.package ∧
    (State.memoryError s store loc word syn r).clocks = s.clocks ∧
    (State.memoryError s store loc word syn r).thermal = s.thermal ∧
    (State.memoryError s store loc word syn r).boot = s.boot ∧
    (State.memoryError s store loc word syn r).freeCount = s.freeCount := by
  unfold State.memoryError
  try dsimp only
  (repeat' split) <;> simp_all -implicitDefEqProofs [↓prod_flip3, prod_flip]

@[simp] theorem State.applyLeft_kept (s : State) (w : Nat) (left : ErrorPattern) :
    (State.applyLeft s w left).pending = s.pending ∧
    (State.applyLeft s w left).fuses = s.fuses ∧
    (State.applyLeft s w left).regs = s.regs ∧
    (State.applyLeft s w left).shadows = s.shadows ∧
    (State.applyLeft s w left).blobs = s.blobs ∧
    (State.applyLeft s w left).blobShadows = s.blobShadows ∧
    (State.applyLeft s w left).hubNeeds = s.hubNeeds ∧
    (State.applyLeft s w left).commits = s.commits ∧
    (State.applyLeft s w left).seeds = s.seeds ∧
    (State.applyLeft s w left).load = s.load ∧
    (State.applyLeft s w left).clusters = s.clusters ∧
    (State.applyLeft s w left).ctxs = s.ctxs ∧
    (State.applyLeft s w left).rig = s.rig ∧
    (State.applyLeft s w left).coll = s.coll ∧
    (State.applyLeft s w left).photonics = s.photonics ∧
    (State.applyLeft s w left).domain = s.domain ∧
    (State.applyLeft s w left).messages = s.messages ∧
    (State.applyLeft s w left).package = s.package ∧
    (State.applyLeft s w left).clocks = s.clocks ∧
    (State.applyLeft s w left).thermal = s.thermal ∧
    (State.applyLeft s w left).control = s.control ∧
    (State.applyLeft s w left).boot = s.boot ∧
    (State.applyLeft s w left).dbg = s.dbg ∧
    (State.applyLeft s w left).freeCount = s.freeCount := by
  unfold State.applyLeft
  try dsimp only
  (repeat' split) <;> simp_all -implicitDefEqProofs [↓prod_flip3, prod_flip]

@[simp] theorem State.queueWriteback_kept (s : State) (w : Nat) :
    (State.queueWriteback s w).pending = s.pending ∧
    (State.queueWriteback s w).fuses = s.fuses ∧
    (State.queueWriteback s w).regs = s.regs ∧
    (State.queueWriteback s w).shadows = s.shadows ∧
    (State.queueWriteback s w).blobs = s.blobs ∧
    (State.queueWriteback s w).blobShadows = s.blobShadows ∧
    (State.queueWriteback s w).hubNeeds = s.hubNeeds ∧
    (State.queueWriteback s w).commits = s.commits ∧
    (State.queueWriteback s w).seeds = s.seeds ∧
    (State.queueWriteback s w).load = s.load ∧
    (State.queueWriteback s w).clusters = s.clusters ∧
    (State.queueWriteback s w).ctxs = s.ctxs ∧
    (State.queueWriteback s w).rig = s.rig ∧
    (State.queueWriteback s w).coll = s.coll ∧
    (State.queueWriteback s w).photonics = s.photonics ∧
    (State.queueWriteback s w).domain = s.domain ∧
    (State.queueWriteback s w).messages = s.messages ∧
    (State.queueWriteback s w).package = s.package ∧
    (State.queueWriteback s w).clocks = s.clocks ∧
    (State.queueWriteback s w).thermal = s.thermal ∧
    (State.queueWriteback s w).control = s.control ∧
    (State.queueWriteback s w).boot = s.boot ∧
    (State.queueWriteback s w).dbg = s.dbg ∧
    (State.queueWriteback s w).freeCount = s.freeCount := by
  unfold State.queueWriteback
  try dsimp only
  (repeat' split) <;> simp_all -implicitDefEqProofs [↓prod_flip3, prod_flip]

@[simp] theorem State.correctStored_kept (s : State) (w : Nat) (left : ErrorPattern) (resident : Bool) :
    (State.correctStored s w left resident).pending = s.pending ∧
    (State.correctStored s w left resident).fuses = s.fuses ∧
    (State.correctStored s w left resident).regs = s.regs ∧
    (State.correctStored s w left resident).shadows = s.shadows ∧
    (State.correctStored s w left resident).blobs = s.blobs ∧
    (State.correctStored s w left resident).blobShadows = s.blobShadows ∧
    (State.correctStored s w left resident).hubNeeds = s.hubNeeds ∧
    (State.correctStored s w left resident).commits = s.commits ∧
    (State.correctStored s w left resident).seeds = s.seeds ∧
    (State.correctStored s w left resident).load = s.load ∧
    (State.correctStored s w left resident).clusters = s.clusters ∧
    (State.correctStored s w left resident).ctxs = s.ctxs ∧
    (State.correctStored s w left resident).rig = s.rig ∧
    (State.correctStored s w left resident).coll = s.coll ∧
    (State.correctStored s w left resident).photonics = s.photonics ∧
    (State.correctStored s w left resident).domain = s.domain ∧
    (State.correctStored s w left resident).messages = s.messages ∧
    (State.correctStored s w left resident).package = s.package ∧
    (State.correctStored s w left resident).clocks = s.clocks ∧
    (State.correctStored s w left resident).thermal = s.thermal ∧
    (State.correctStored s w left resident).control = s.control ∧
    (State.correctStored s w left resident).boot = s.boot ∧
    (State.correctStored s w left resident).dbg = s.dbg ∧
    (State.correctStored s w left resident).freeCount = s.freeCount := by
  unfold State.correctStored
  try dsimp only
  (repeat' split) <;> simp_all -implicitDefEqProofs [↓prod_flip3, prod_flip]

@[simp] theorem State.correctResident_kept (s : State) (w : Nat) (left : ErrorPattern) :
    (State.correctResident s w left).pending = s.pending ∧
    (State.correctResident s w left).fuses = s.fuses ∧
    (State.correctResident s w left).regs = s.regs ∧
    (State.correctResident s w left).shadows = s.shadows ∧
    (State.correctResident s w left).blobs = s.blobs ∧
    (State.correctResident s w left).blobShadows = s.blobShadows ∧
    (State.correctResident s w left).hubNeeds = s.hubNeeds ∧
    (State.correctResident s w left).commits = s.commits ∧
    (State.correctResident s w left).seeds = s.seeds ∧
    (State.correctResident s w left).load = s.load ∧
    (State.correctResident s w left).clusters = s.clusters ∧
    (State.correctResident s w left).ctxs = s.ctxs ∧
    (State.correctResident s w left).rig = s.rig ∧
    (State.correctResident s w left).coll = s.coll ∧
    (State.correctResident s w left).photonics = s.photonics ∧
    (State.correctResident s w left).domain = s.domain ∧
    (State.correctResident s w left).messages = s.messages ∧
    (State.correctResident s w left).package = s.package ∧
    (State.correctResident s w left).clocks = s.clocks ∧
    (State.correctResident s w left).thermal = s.thermal ∧
    (State.correctResident s w left).control = s.control ∧
    (State.correctResident s w left).boot = s.boot ∧
    (State.correctResident s w left).dbg = s.dbg ∧
    (State.correctResident s w left).freeCount = s.freeCount := by
  unfold State.correctResident
  try dsimp only
  (repeat' split) <;> simp_all -implicitDefEqProofs [↓prod_flip3, prod_flip]

@[simp] theorem State.countCorrected_kept (s : State) (store : Nat) (off : Nat) :
    (State.countCorrected s store off).pending = s.pending ∧
    (State.countCorrected s store off).fuses = s.fuses ∧
    (State.countCorrected s store off).shadows = s.shadows ∧
    (State.countCorrected s store off).blobs = s.blobs ∧
    (State.countCorrected s store off).blobShadows = s.blobShadows ∧
    (State.countCorrected s store off).hubNeeds = s.hubNeeds ∧
    (State.countCorrected s store off).commits = s.commits ∧
    (State.countCorrected s store off).seeds = s.seeds ∧
    (State.countCorrected s store off).load = s.load ∧
    (State.countCorrected s store off).ctxs = s.ctxs ∧
    (State.countCorrected s store off).memory = s.memory ∧
    (State.countCorrected s store off).rig = s.rig ∧
    (State.countCorrected s store off).coll = s.coll ∧
    (State.countCorrected s store off).photonics = s.photonics ∧
    (State.countCorrected s store off).domain = s.domain ∧
    (State.countCorrected s store off).messages = s.messages ∧
    (State.countCorrected s store off).package = s.package ∧
    (State.countCorrected s store off).clocks = s.clocks ∧
    (State.countCorrected s store off).thermal = s.thermal ∧
    (State.countCorrected s store off).control = s.control ∧
    (State.countCorrected s store off).boot = s.boot ∧
    (State.countCorrected s store off).dbg = s.dbg ∧
    (State.countCorrected s store off).freeCount = s.freeCount := by
  unfold State.countCorrected
  try dsimp only
  (repeat' split) <;> simp_all -implicitDefEqProofs [↓prod_flip3, prod_flip]

@[simp] theorem State.wipeRange_kept (s : State) (off : Nat) (n : Nat) :
    (State.wipeRange s off n).pending = s.pending ∧
    (State.wipeRange s off n).fuses = s.fuses ∧
    (State.wipeRange s off n).regs = s.regs ∧
    (State.wipeRange s off n).shadows = s.shadows ∧
    (State.wipeRange s off n).blobs = s.blobs ∧
    (State.wipeRange s off n).blobShadows = s.blobShadows ∧
    (State.wipeRange s off n).hubNeeds = s.hubNeeds ∧
    (State.wipeRange s off n).commits = s.commits ∧
    (State.wipeRange s off n).seeds = s.seeds ∧
    (State.wipeRange s off n).load = s.load ∧
    (State.wipeRange s off n).clusters = s.clusters ∧
    (State.wipeRange s off n).ctxs = s.ctxs ∧
    (State.wipeRange s off n).rig = s.rig ∧
    (State.wipeRange s off n).coll = s.coll ∧
    (State.wipeRange s off n).photonics = s.photonics ∧
    (State.wipeRange s off n).domain = s.domain ∧
    (State.wipeRange s off n).messages = s.messages ∧
    (State.wipeRange s off n).package = s.package ∧
    (State.wipeRange s off n).clocks = s.clocks ∧
    (State.wipeRange s off n).thermal = s.thermal ∧
    (State.wipeRange s off n).control = s.control ∧
    (State.wipeRange s off n).boot = s.boot ∧
    (State.wipeRange s off n).dbg = s.dbg ∧
    (State.wipeRange s off n).freeCount = s.freeCount := by
  unfold State.wipeRange
  try dsimp only
  (repeat' split) <;> simp_all -implicitDefEqProofs [↓prod_flip3, prod_flip]

@[simp] theorem State.markStored_kept (s : State) (w : Nat) (p : ErrorPattern) :
    (State.markStored s w p).pending = s.pending ∧
    (State.markStored s w p).fuses = s.fuses ∧
    (State.markStored s w p).shadows = s.shadows ∧
    (State.markStored s w p).blobs = s.blobs ∧
    (State.markStored s w p).blobShadows = s.blobShadows ∧
    (State.markStored s w p).hubNeeds = s.hubNeeds ∧
    (State.markStored s w p).commits = s.commits ∧
    (State.markStored s w p).seeds = s.seeds ∧
    (State.markStored s w p).load = s.load ∧
    (State.markStored s w p).clusters = s.clusters ∧
    (State.markStored s w p).ctxs = s.ctxs ∧
    (State.markStored s w p).rig = s.rig ∧
    (State.markStored s w p).coll = s.coll ∧
    (State.markStored s w p).photonics = s.photonics ∧
    (State.markStored s w p).domain = s.domain ∧
    (State.markStored s w p).messages = s.messages ∧
    (State.markStored s w p).package = s.package ∧
    (State.markStored s w p).clocks = s.clocks ∧
    (State.markStored s w p).thermal = s.thermal ∧
    (State.markStored s w p).control = s.control ∧
    (State.markStored s w p).boot = s.boot ∧
    (State.markStored s w p).dbg = s.dbg ∧
    (State.markStored s w p).freeCount = s.freeCount := by
  unfold State.markStored
  try dsimp only
  (repeat' split) <;> simp_all -implicitDefEqProofs [↓prod_flip3, prod_flip]

@[simp] theorem State.judge_kept (s : State) (store : Nat) (off : Nat) (p : ErrorPattern) (dirtyOrStored : Nat) (r : Requester) :
    (State.judge s store off p dirtyOrStored r).2.pending = s.pending ∧
    (State.judge s store off p dirtyOrStored r).2.fuses = s.fuses ∧
    (State.judge s store off p dirtyOrStored r).2.shadows = s.shadows ∧
    (State.judge s store off p dirtyOrStored r).2.blobShadows = s.blobShadows ∧
    (State.judge s store off p dirtyOrStored r).2.hubNeeds = s.hubNeeds ∧
    (State.judge s store off p dirtyOrStored r).2.commits = s.commits ∧
    (State.judge s store off p dirtyOrStored r).2.seeds = s.seeds ∧
    (State.judge s store off p dirtyOrStored r).2.load = s.load ∧
    (State.judge s store off p dirtyOrStored r).2.ctxs = s.ctxs ∧
    (State.judge s store off p dirtyOrStored r).2.rig = s.rig ∧
    (State.judge s store off p dirtyOrStored r).2.coll = s.coll ∧
    (State.judge s store off p dirtyOrStored r).2.photonics = s.photonics ∧
    (State.judge s store off p dirtyOrStored r).2.domain = s.domain ∧
    (State.judge s store off p dirtyOrStored r).2.messages = s.messages ∧
    (State.judge s store off p dirtyOrStored r).2.package = s.package ∧
    (State.judge s store off p dirtyOrStored r).2.clocks = s.clocks ∧
    (State.judge s store off p dirtyOrStored r).2.thermal = s.thermal ∧
    (State.judge s store off p dirtyOrStored r).2.boot = s.boot ∧
    (State.judge s store off p dirtyOrStored r).2.freeCount = s.freeCount := by
  unfold State.judge
  try dsimp only
  (repeat' split) <;> simp_all -implicitDefEqProofs [↓prod_flip3, prod_flip]

@[simp] theorem State.writeBackWord_kept (s : State) (w : Nat) :
    (State.writeBackWord s w).pending = s.pending ∧
    (State.writeBackWord s w).fuses = s.fuses ∧
    (State.writeBackWord s w).shadows = s.shadows ∧
    (State.writeBackWord s w).blobShadows = s.blobShadows ∧
    (State.writeBackWord s w).hubNeeds = s.hubNeeds ∧
    (State.writeBackWord s w).commits = s.commits ∧
    (State.writeBackWord s w).seeds = s.seeds ∧
    (State.writeBackWord s w).load = s.load ∧
    (State.writeBackWord s w).clusters = s.clusters ∧
    (State.writeBackWord s w).ctxs = s.ctxs ∧
    (State.writeBackWord s w).rig = s.rig ∧
    (State.writeBackWord s w).coll = s.coll ∧
    (State.writeBackWord s w).photonics = s.photonics ∧
    (State.writeBackWord s w).domain = s.domain ∧
    (State.writeBackWord s w).messages = s.messages ∧
    (State.writeBackWord s w).package = s.package ∧
    (State.writeBackWord s w).clocks = s.clocks ∧
    (State.writeBackWord s w).thermal = s.thermal ∧
    (State.writeBackWord s w).boot = s.boot ∧
    (State.writeBackWord s w).freeCount = s.freeCount := by
  unfold State.writeBackWord
  try dsimp only
  (repeat' split) <;> simp_all -implicitDefEqProofs [↓prod_flip3, prod_flip]

@[simp] theorem State.writeBackLine_kept (s : State) (t : Nat) (l : Nat) :
    (State.writeBackLine s t l).pending = s.pending ∧
    (State.writeBackLine s t l).fuses = s.fuses ∧
    (State.writeBackLine s t l).shadows = s.shadows ∧
    (State.writeBackLine s t l).blobShadows = s.blobShadows ∧
    (State.writeBackLine s t l).hubNeeds = s.hubNeeds ∧
    (State.writeBackLine s t l).commits = s.commits ∧
    (State.writeBackLine s t l).seeds = s.seeds ∧
    (State.writeBackLine s t l).load = s.load ∧
    (State.writeBackLine s t l).clusters = s.clusters ∧
    (State.writeBackLine s t l).ctxs = s.ctxs ∧
    (State.writeBackLine s t l).rig = s.rig ∧
    (State.writeBackLine s t l).coll = s.coll ∧
    (State.writeBackLine s t l).photonics = s.photonics ∧
    (State.writeBackLine s t l).domain = s.domain ∧
    (State.writeBackLine s t l).messages = s.messages ∧
    (State.writeBackLine s t l).package = s.package ∧
    (State.writeBackLine s t l).clocks = s.clocks ∧
    (State.writeBackLine s t l).thermal = s.thermal ∧
    (State.writeBackLine s t l).boot = s.boot ∧
    (State.writeBackLine s t l).freeCount = s.freeCount := by
  unfold State.writeBackLine
  try dsimp only
  (repeat' split) <;> simp_all -implicitDefEqProofs [↓prod_flip3, prod_flip]

@[simp] theorem State.dropResident_kept (s : State) (t : Nat) (l : Nat) :
    (State.dropResident s t l).pending = s.pending ∧
    (State.dropResident s t l).fuses = s.fuses ∧
    (State.dropResident s t l).regs = s.regs ∧
    (State.dropResident s t l).shadows = s.shadows ∧
    (State.dropResident s t l).blobs = s.blobs ∧
    (State.dropResident s t l).blobShadows = s.blobShadows ∧
    (State.dropResident s t l).hubNeeds = s.hubNeeds ∧
    (State.dropResident s t l).commits = s.commits ∧
    (State.dropResident s t l).seeds = s.seeds ∧
    (State.dropResident s t l).load = s.load ∧
    (State.dropResident s t l).clusters = s.clusters ∧
    (State.dropResident s t l).ctxs = s.ctxs ∧
    (State.dropResident s t l).rig = s.rig ∧
    (State.dropResident s t l).coll = s.coll ∧
    (State.dropResident s t l).photonics = s.photonics ∧
    (State.dropResident s t l).domain = s.domain ∧
    (State.dropResident s t l).messages = s.messages ∧
    (State.dropResident s t l).package = s.package ∧
    (State.dropResident s t l).clocks = s.clocks ∧
    (State.dropResident s t l).thermal = s.thermal ∧
    (State.dropResident s t l).control = s.control ∧
    (State.dropResident s t l).boot = s.boot ∧
    (State.dropResident s t l).dbg = s.dbg ∧
    (State.dropResident s t l).freeCount = s.freeCount := by
  unfold State.dropResident
  try dsimp only
  (repeat' split) <;> simp_all -implicitDefEqProofs [↓prod_flip3, prod_flip]

@[simp] theorem State.evict_kept (s : State) (t : Nat) (k : Nat) (way : Nat) :
    (State.evict s t k way).pending = s.pending ∧
    (State.evict s t k way).fuses = s.fuses ∧
    (State.evict s t k way).shadows = s.shadows ∧
    (State.evict s t k way).blobShadows = s.blobShadows ∧
    (State.evict s t k way).hubNeeds = s.hubNeeds ∧
    (State.evict s t k way).commits = s.commits ∧
    (State.evict s t k way).seeds = s.seeds ∧
    (State.evict s t k way).load = s.load ∧
    (State.evict s t k way).clusters = s.clusters ∧
    (State.evict s t k way).ctxs = s.ctxs ∧
    (State.evict s t k way).rig = s.rig ∧
    (State.evict s t k way).coll = s.coll ∧
    (State.evict s t k way).photonics = s.photonics ∧
    (State.evict s t k way).domain = s.domain ∧
    (State.evict s t k way).messages = s.messages ∧
    (State.evict s t k way).package = s.package ∧
    (State.evict s t k way).clocks = s.clocks ∧
    (State.evict s t k way).thermal = s.thermal ∧
    (State.evict s t k way).boot = s.boot ∧
    (State.evict s t k way).freeCount = s.freeCount := by
  unfold State.evict
  try dsimp only
  (repeat' split) <;> simp_all -implicitDefEqProofs [↓prod_flip3, prod_flip]

@[simp] theorem State.fillWord_kept (s : State) (skip : List Nat) (w : Nat) :
    (State.fillWord s skip w).pending = s.pending ∧
    (State.fillWord s skip w).fuses = s.fuses ∧
    (State.fillWord s skip w).shadows = s.shadows ∧
    (State.fillWord s skip w).blobShadows = s.blobShadows ∧
    (State.fillWord s skip w).hubNeeds = s.hubNeeds ∧
    (State.fillWord s skip w).commits = s.commits ∧
    (State.fillWord s skip w).seeds = s.seeds ∧
    (State.fillWord s skip w).load = s.load ∧
    (State.fillWord s skip w).ctxs = s.ctxs ∧
    (State.fillWord s skip w).rig = s.rig ∧
    (State.fillWord s skip w).coll = s.coll ∧
    (State.fillWord s skip w).photonics = s.photonics ∧
    (State.fillWord s skip w).domain = s.domain ∧
    (State.fillWord s skip w).messages = s.messages ∧
    (State.fillWord s skip w).package = s.package ∧
    (State.fillWord s skip w).clocks = s.clocks ∧
    (State.fillWord s skip w).thermal = s.thermal ∧
    (State.fillWord s skip w).boot = s.boot ∧
    (State.fillWord s skip w).freeCount = s.freeCount := by
  unfold State.fillWord
  try dsimp only
  (repeat' split) <;> simp_all -implicitDefEqProofs [↓prod_flip3, prod_flip]

@[simp] theorem State.allocate_kept (s : State) (t : Nat) (l : Nat) (dirty : Bool) (skip : List Nat) :
    (State.allocate s t l dirty skip).pending = s.pending ∧
    (State.allocate s t l dirty skip).fuses = s.fuses ∧
    (State.allocate s t l dirty skip).shadows = s.shadows ∧
    (State.allocate s t l dirty skip).blobShadows = s.blobShadows ∧
    (State.allocate s t l dirty skip).hubNeeds = s.hubNeeds ∧
    (State.allocate s t l dirty skip).commits = s.commits ∧
    (State.allocate s t l dirty skip).seeds = s.seeds ∧
    (State.allocate s t l dirty skip).load = s.load ∧
    (State.allocate s t l dirty skip).ctxs = s.ctxs ∧
    (State.allocate s t l dirty skip).rig = s.rig ∧
    (State.allocate s t l dirty skip).coll = s.coll ∧
    (State.allocate s t l dirty skip).photonics = s.photonics ∧
    (State.allocate s t l dirty skip).domain = s.domain ∧
    (State.allocate s t l dirty skip).messages = s.messages ∧
    (State.allocate s t l dirty skip).package = s.package ∧
    (State.allocate s t l dirty skip).clocks = s.clocks ∧
    (State.allocate s t l dirty skip).thermal = s.thermal ∧
    (State.allocate s t l dirty skip).boot = s.boot ∧
    (State.allocate s t l dirty skip).freeCount = s.freeCount := by
  unfold State.allocate
  try dsimp only
  (repeat' split) <;> simp_all -implicitDefEqProofs [↓prod_flip3, prod_flip]

@[simp] theorem State.touch_kept (s : State) (k : Nat) (way : Nat) (l : Nat) (dirty : Bool) :
    (State.touch s k way l dirty).pending = s.pending ∧
    (State.touch s k way l dirty).fuses = s.fuses ∧
    (State.touch s k way l dirty).regs = s.regs ∧
    (State.touch s k way l dirty).shadows = s.shadows ∧
    (State.touch s k way l dirty).blobs = s.blobs ∧
    (State.touch s k way l dirty).blobShadows = s.blobShadows ∧
    (State.touch s k way l dirty).hubNeeds = s.hubNeeds ∧
    (State.touch s k way l dirty).commits = s.commits ∧
    (State.touch s k way l dirty).seeds = s.seeds ∧
    (State.touch s k way l dirty).load = s.load ∧
    (State.touch s k way l dirty).clusters = s.clusters ∧
    (State.touch s k way l dirty).ctxs = s.ctxs ∧
    (State.touch s k way l dirty).rig = s.rig ∧
    (State.touch s k way l dirty).coll = s.coll ∧
    (State.touch s k way l dirty).photonics = s.photonics ∧
    (State.touch s k way l dirty).domain = s.domain ∧
    (State.touch s k way l dirty).messages = s.messages ∧
    (State.touch s k way l dirty).package = s.package ∧
    (State.touch s k way l dirty).clocks = s.clocks ∧
    (State.touch s k way l dirty).thermal = s.thermal ∧
    (State.touch s k way l dirty).control = s.control ∧
    (State.touch s k way l dirty).boot = s.boot ∧
    (State.touch s k way l dirty).dbg = s.dbg ∧
    (State.touch s k way l dirty).freeCount = s.freeCount := by
  unfold State.touch
  try dsimp only
  (repeat' split) <;> simp_all -implicitDefEqProofs [↓prod_flip3, prod_flip]

@[simp] theorem State.readHbmWord_kept (s : State) (t : Nat) (l : Nat) (w : Nat) (r : Requester) :
    (State.readHbmWord s t l w r).2.pending = s.pending ∧
    (State.readHbmWord s t l w r).2.fuses = s.fuses ∧
    (State.readHbmWord s t l w r).2.shadows = s.shadows ∧
    (State.readHbmWord s t l w r).2.blobShadows = s.blobShadows ∧
    (State.readHbmWord s t l w r).2.hubNeeds = s.hubNeeds ∧
    (State.readHbmWord s t l w r).2.commits = s.commits ∧
    (State.readHbmWord s t l w r).2.seeds = s.seeds ∧
    (State.readHbmWord s t l w r).2.load = s.load ∧
    (State.readHbmWord s t l w r).2.ctxs = s.ctxs ∧
    (State.readHbmWord s t l w r).2.rig = s.rig ∧
    (State.readHbmWord s t l w r).2.coll = s.coll ∧
    (State.readHbmWord s t l w r).2.photonics = s.photonics ∧
    (State.readHbmWord s t l w r).2.domain = s.domain ∧
    (State.readHbmWord s t l w r).2.messages = s.messages ∧
    (State.readHbmWord s t l w r).2.package = s.package ∧
    (State.readHbmWord s t l w r).2.clocks = s.clocks ∧
    (State.readHbmWord s t l w r).2.thermal = s.thermal ∧
    (State.readHbmWord s t l w r).2.boot = s.boot ∧
    (State.readHbmWord s t l w r).2.freeCount = s.freeCount := by
  unfold State.readHbmWord
  try dsimp only
  (repeat' split) <;> simp_all -implicitDefEqProofs [↓prod_flip3, prod_flip]

@[simp] theorem State.settleLine_kept (s : State) (t : Nat) (l : Nat) (write : Bool) (skip : List Nat) (r : Requester) :
    (State.settleLine s t l write skip r).pending = s.pending ∧
    (State.settleLine s t l write skip r).fuses = s.fuses ∧
    (State.settleLine s t l write skip r).shadows = s.shadows ∧
    (State.settleLine s t l write skip r).blobShadows = s.blobShadows ∧
    (State.settleLine s t l write skip r).hubNeeds = s.hubNeeds ∧
    (State.settleLine s t l write skip r).commits = s.commits ∧
    (State.settleLine s t l write skip r).seeds = s.seeds ∧
    (State.settleLine s t l write skip r).load = s.load ∧
    (State.settleLine s t l write skip r).ctxs = s.ctxs ∧
    (State.settleLine s t l write skip r).rig = s.rig ∧
    (State.settleLine s t l write skip r).coll = s.coll ∧
    (State.settleLine s t l write skip r).photonics = s.photonics ∧
    (State.settleLine s t l write skip r).domain = s.domain ∧
    (State.settleLine s t l write skip r).messages = s.messages ∧
    (State.settleLine s t l write skip r).package = s.package ∧
    (State.settleLine s t l write skip r).clocks = s.clocks ∧
    (State.settleLine s t l write skip r).thermal = s.thermal ∧
    (State.settleLine s t l write skip r).boot = s.boot ∧
    (State.settleLine s t l write skip r).freeCount = s.freeCount := by
  unfold State.settleLine
  try dsimp only
  (repeat' split) <;> simp_all -implicitDefEqProofs [↓prod_flip3, prod_flip]

@[simp] theorem State.readWord_kept (s : State) (off : Nat) (r : Requester) :
    (State.readWord s off r).2.pending = s.pending ∧
    (State.readWord s off r).2.fuses = s.fuses ∧
    (State.readWord s off r).2.shadows = s.shadows ∧
    (State.readWord s off r).2.blobShadows = s.blobShadows ∧
    (State.readWord s off r).2.hubNeeds = s.hubNeeds ∧
    (State.readWord s off r).2.commits = s.commits ∧
    (State.readWord s off r).2.seeds = s.seeds ∧
    (State.readWord s off r).2.load = s.load ∧
    (State.readWord s off r).2.ctxs = s.ctxs ∧
    (State.readWord s off r).2.rig = s.rig ∧
    (State.readWord s off r).2.coll = s.coll ∧
    (State.readWord s off r).2.photonics = s.photonics ∧
    (State.readWord s off r).2.domain = s.domain ∧
    (State.readWord s off r).2.messages = s.messages ∧
    (State.readWord s off r).2.package = s.package ∧
    (State.readWord s off r).2.clocks = s.clocks ∧
    (State.readWord s off r).2.thermal = s.thermal ∧
    (State.readWord s off r).2.boot = s.boot ∧
    (State.readWord s off r).2.freeCount = s.freeCount := by
  unfold State.readWord
  try dsimp only
  (repeat' split) <;> simp_all -implicitDefEqProofs [↓prod_flip3, prod_flip]

@[simp] theorem State.settle_kept (s : State) (off : Nat) (write : Bool) (skip : List Nat) (r : Requester) :
    (State.settle s off write skip r).pending = s.pending ∧
    (State.settle s off write skip r).fuses = s.fuses ∧
    (State.settle s off write skip r).shadows = s.shadows ∧
    (State.settle s off write skip r).blobShadows = s.blobShadows ∧
    (State.settle s off write skip r).hubNeeds = s.hubNeeds ∧
    (State.settle s off write skip r).commits = s.commits ∧
    (State.settle s off write skip r).seeds = s.seeds ∧
    (State.settle s off write skip r).load = s.load ∧
    (State.settle s off write skip r).ctxs = s.ctxs ∧
    (State.settle s off write skip r).rig = s.rig ∧
    (State.settle s off write skip r).coll = s.coll ∧
    (State.settle s off write skip r).photonics = s.photonics ∧
    (State.settle s off write skip r).domain = s.domain ∧
    (State.settle s off write skip r).messages = s.messages ∧
    (State.settle s off write skip r).package = s.package ∧
    (State.settle s off write skip r).clocks = s.clocks ∧
    (State.settle s off write skip r).thermal = s.thermal ∧
    (State.settle s off write skip r).boot = s.boot ∧
    (State.settle s off write skip r).freeCount = s.freeCount := by
  unfold State.settle
  try dsimp only
  (repeat' split) <;> simp_all -implicitDefEqProofs [↓prod_flip3, prod_flip]

@[simp] theorem State.loadWords_kept (s : State) (off : Nat) (n : Nat) (r : Requester) (x4 : List Nat) (x5 : List Byte) (x6 : Option Nat) :
    (State.loadWords s off n r x4 x5 x6).2.2.pending = s.pending ∧
    (State.loadWords s off n r x4 x5 x6).2.2.fuses = s.fuses ∧
    (State.loadWords s off n r x4 x5 x6).2.2.shadows = s.shadows ∧
    (State.loadWords s off n r x4 x5 x6).2.2.blobShadows = s.blobShadows ∧
    (State.loadWords s off n r x4 x5 x6).2.2.hubNeeds = s.hubNeeds ∧
    (State.loadWords s off n r x4 x5 x6).2.2.commits = s.commits ∧
    (State.loadWords s off n r x4 x5 x6).2.2.seeds = s.seeds ∧
    (State.loadWords s off n r x4 x5 x6).2.2.load = s.load ∧
    (State.loadWords s off n r x4 x5 x6).2.2.ctxs = s.ctxs ∧
    (State.loadWords s off n r x4 x5 x6).2.2.rig = s.rig ∧
    (State.loadWords s off n r x4 x5 x6).2.2.coll = s.coll ∧
    (State.loadWords s off n r x4 x5 x6).2.2.photonics = s.photonics ∧
    (State.loadWords s off n r x4 x5 x6).2.2.domain = s.domain ∧
    (State.loadWords s off n r x4 x5 x6).2.2.messages = s.messages ∧
    (State.loadWords s off n r x4 x5 x6).2.2.package = s.package ∧
    (State.loadWords s off n r x4 x5 x6).2.2.clocks = s.clocks ∧
    (State.loadWords s off n r x4 x5 x6).2.2.thermal = s.thermal ∧
    (State.loadWords s off n r x4 x5 x6).2.2.boot = s.boot ∧
    (State.loadWords s off n r x4 x5 x6).2.2.freeCount = s.freeCount := by
  fun_induction State.loadWords s off n r x4 x5 x6 <;> simp_all -implicitDefEqProofs [↓prod_flip3, prod_flip]

@[simp] theorem State.settleAll_kept (s : State) (ws : List Nat) (write : Bool) (r : Requester) :
    (State.settleAll s ws write r).pending = s.pending ∧
    (State.settleAll s ws write r).fuses = s.fuses ∧
    (State.settleAll s ws write r).shadows = s.shadows ∧
    (State.settleAll s ws write r).blobShadows = s.blobShadows ∧
    (State.settleAll s ws write r).hubNeeds = s.hubNeeds ∧
    (State.settleAll s ws write r).commits = s.commits ∧
    (State.settleAll s ws write r).seeds = s.seeds ∧
    (State.settleAll s ws write r).load = s.load ∧
    (State.settleAll s ws write r).ctxs = s.ctxs ∧
    (State.settleAll s ws write r).rig = s.rig ∧
    (State.settleAll s ws write r).coll = s.coll ∧
    (State.settleAll s ws write r).photonics = s.photonics ∧
    (State.settleAll s ws write r).domain = s.domain ∧
    (State.settleAll s ws write r).messages = s.messages ∧
    (State.settleAll s ws write r).package = s.package ∧
    (State.settleAll s ws write r).clocks = s.clocks ∧
    (State.settleAll s ws write r).thermal = s.thermal ∧
    (State.settleAll s ws write r).boot = s.boot ∧
    (State.settleAll s ws write r).freeCount = s.freeCount := by
  unfold State.settleAll
  try dsimp only
  (repeat' split) <;> simp_all -implicitDefEqProofs [↓prod_flip3, prod_flip]

@[simp] theorem State.loadRange_kept (s : State) (off : Nat) (n : Nat) (r : Requester) :
    (State.loadRange s off n r).2.pending = s.pending ∧
    (State.loadRange s off n r).2.fuses = s.fuses ∧
    (State.loadRange s off n r).2.shadows = s.shadows ∧
    (State.loadRange s off n r).2.blobShadows = s.blobShadows ∧
    (State.loadRange s off n r).2.hubNeeds = s.hubNeeds ∧
    (State.loadRange s off n r).2.commits = s.commits ∧
    (State.loadRange s off n r).2.seeds = s.seeds ∧
    (State.loadRange s off n r).2.load = s.load ∧
    (State.loadRange s off n r).2.ctxs = s.ctxs ∧
    (State.loadRange s off n r).2.rig = s.rig ∧
    (State.loadRange s off n r).2.coll = s.coll ∧
    (State.loadRange s off n r).2.photonics = s.photonics ∧
    (State.loadRange s off n r).2.domain = s.domain ∧
    (State.loadRange s off n r).2.messages = s.messages ∧
    (State.loadRange s off n r).2.package = s.package ∧
    (State.loadRange s off n r).2.clocks = s.clocks ∧
    (State.loadRange s off n r).2.thermal = s.thermal ∧
    (State.loadRange s off n r).2.boot = s.boot ∧
    (State.loadRange s off n r).2.freeCount = s.freeCount := by
  generalize ht : State.loadRange s off n r = t
  unfold State.loadRange at ht
  try dsimp only at ht
  (repeat' split at ht) <;> (subst ht; simp_all -implicitDefEqProofs [↓prod_flip3, prod_flip])

@[simp] theorem State.checkWord_kept (s : State) (off : Nat) (n : Nat) (w : Nat) (r : Requester) :
    (State.checkWord s off n w r).2.pending = s.pending ∧
    (State.checkWord s off n w r).2.fuses = s.fuses ∧
    (State.checkWord s off n w r).2.shadows = s.shadows ∧
    (State.checkWord s off n w r).2.blobShadows = s.blobShadows ∧
    (State.checkWord s off n w r).2.hubNeeds = s.hubNeeds ∧
    (State.checkWord s off n w r).2.commits = s.commits ∧
    (State.checkWord s off n w r).2.seeds = s.seeds ∧
    (State.checkWord s off n w r).2.load = s.load ∧
    (State.checkWord s off n w r).2.ctxs = s.ctxs ∧
    (State.checkWord s off n w r).2.rig = s.rig ∧
    (State.checkWord s off n w r).2.coll = s.coll ∧
    (State.checkWord s off n w r).2.photonics = s.photonics ∧
    (State.checkWord s off n w r).2.domain = s.domain ∧
    (State.checkWord s off n w r).2.messages = s.messages ∧
    (State.checkWord s off n w r).2.package = s.package ∧
    (State.checkWord s off n w r).2.clocks = s.clocks ∧
    (State.checkWord s off n w r).2.thermal = s.thermal ∧
    (State.checkWord s off n w r).2.boot = s.boot ∧
    (State.checkWord s off n w r).2.freeCount = s.freeCount := by
  unfold State.checkWord
  try dsimp only
  (repeat' split) <;> simp_all -implicitDefEqProofs [↓prod_flip3, prod_flip]

@[simp] theorem State.checkWords_kept (s : State) (off : Nat) (n : Nat) (r : Requester) (x4 : List Nat) (x5 : List (Nat × ErrorPattern)) (x6 : Option Nat) :
    (State.checkWords s off n r x4 x5 x6).2.2.pending = s.pending ∧
    (State.checkWords s off n r x4 x5 x6).2.2.fuses = s.fuses ∧
    (State.checkWords s off n r x4 x5 x6).2.2.shadows = s.shadows ∧
    (State.checkWords s off n r x4 x5 x6).2.2.blobShadows = s.blobShadows ∧
    (State.checkWords s off n r x4 x5 x6).2.2.hubNeeds = s.hubNeeds ∧
    (State.checkWords s off n r x4 x5 x6).2.2.commits = s.commits ∧
    (State.checkWords s off n r x4 x5 x6).2.2.seeds = s.seeds ∧
    (State.checkWords s off n r x4 x5 x6).2.2.load = s.load ∧
    (State.checkWords s off n r x4 x5 x6).2.2.ctxs = s.ctxs ∧
    (State.checkWords s off n r x4 x5 x6).2.2.rig = s.rig ∧
    (State.checkWords s off n r x4 x5 x6).2.2.coll = s.coll ∧
    (State.checkWords s off n r x4 x5 x6).2.2.photonics = s.photonics ∧
    (State.checkWords s off n r x4 x5 x6).2.2.domain = s.domain ∧
    (State.checkWords s off n r x4 x5 x6).2.2.messages = s.messages ∧
    (State.checkWords s off n r x4 x5 x6).2.2.package = s.package ∧
    (State.checkWords s off n r x4 x5 x6).2.2.clocks = s.clocks ∧
    (State.checkWords s off n r x4 x5 x6).2.2.thermal = s.thermal ∧
    (State.checkWords s off n r x4 x5 x6).2.2.boot = s.boot ∧
    (State.checkWords s off n r x4 x5 x6).2.2.freeCount = s.freeCount := by
  fun_induction State.checkWords s off n r x4 x5 x6 <;> simp_all -implicitDefEqProofs [↓prod_flip3, prod_flip]

@[simp] theorem State.writeWord_kept (s : State) (off : Nat) (d : List Byte) (w : Nat) (left : ErrorPattern) (r : Requester) :
    (State.writeWord s off d w left r).pending = s.pending ∧
    (State.writeWord s off d w left r).fuses = s.fuses ∧
    (State.writeWord s off d w left r).shadows = s.shadows ∧
    (State.writeWord s off d w left r).blobShadows = s.blobShadows ∧
    (State.writeWord s off d w left r).hubNeeds = s.hubNeeds ∧
    (State.writeWord s off d w left r).commits = s.commits ∧
    (State.writeWord s off d w left r).seeds = s.seeds ∧
    (State.writeWord s off d w left r).load = s.load ∧
    (State.writeWord s off d w left r).ctxs = s.ctxs ∧
    (State.writeWord s off d w left r).rig = s.rig ∧
    (State.writeWord s off d w left r).coll = s.coll ∧
    (State.writeWord s off d w left r).photonics = s.photonics ∧
    (State.writeWord s off d w left r).domain = s.domain ∧
    (State.writeWord s off d w left r).messages = s.messages ∧
    (State.writeWord s off d w left r).package = s.package ∧
    (State.writeWord s off d w left r).clocks = s.clocks ∧
    (State.writeWord s off d w left r).thermal = s.thermal ∧
    (State.writeWord s off d w left r).boot = s.boot ∧
    (State.writeWord s off d w left r).freeCount = s.freeCount := by
  unfold State.writeWord
  try dsimp only
  (repeat' split) <;> simp_all -implicitDefEqProofs [↓prod_flip3, prod_flip]

@[simp] theorem State.storeWords_kept (s : State) (off : Nat) (d : List Byte) (r : Requester) (ws : List Nat) :
    (State.storeWords s off d r ws).2.pending = s.pending ∧
    (State.storeWords s off d r ws).2.fuses = s.fuses ∧
    (State.storeWords s off d r ws).2.shadows = s.shadows ∧
    (State.storeWords s off d r ws).2.blobShadows = s.blobShadows ∧
    (State.storeWords s off d r ws).2.hubNeeds = s.hubNeeds ∧
    (State.storeWords s off d r ws).2.commits = s.commits ∧
    (State.storeWords s off d r ws).2.seeds = s.seeds ∧
    (State.storeWords s off d r ws).2.load = s.load ∧
    (State.storeWords s off d r ws).2.ctxs = s.ctxs ∧
    (State.storeWords s off d r ws).2.rig = s.rig ∧
    (State.storeWords s off d r ws).2.coll = s.coll ∧
    (State.storeWords s off d r ws).2.photonics = s.photonics ∧
    (State.storeWords s off d r ws).2.domain = s.domain ∧
    (State.storeWords s off d r ws).2.messages = s.messages ∧
    (State.storeWords s off d r ws).2.package = s.package ∧
    (State.storeWords s off d r ws).2.clocks = s.clocks ∧
    (State.storeWords s off d r ws).2.thermal = s.thermal ∧
    (State.storeWords s off d r ws).2.boot = s.boot ∧
    (State.storeWords s off d r ws).2.freeCount = s.freeCount := by
  unfold State.storeWords
  try dsimp only
  (repeat' split) <;> simp_all -implicitDefEqProofs [↓prod_flip3, prod_flip]

@[simp] theorem State.storeRange_kept (s : State) (off : Nat) (d : List Byte) (r : Requester) :
    (State.storeRange s off d r).2.pending = s.pending ∧
    (State.storeRange s off d r).2.fuses = s.fuses ∧
    (State.storeRange s off d r).2.shadows = s.shadows ∧
    (State.storeRange s off d r).2.blobShadows = s.blobShadows ∧
    (State.storeRange s off d r).2.hubNeeds = s.hubNeeds ∧
    (State.storeRange s off d r).2.commits = s.commits ∧
    (State.storeRange s off d r).2.seeds = s.seeds ∧
    (State.storeRange s off d r).2.load = s.load ∧
    (State.storeRange s off d r).2.ctxs = s.ctxs ∧
    (State.storeRange s off d r).2.rig = s.rig ∧
    (State.storeRange s off d r).2.coll = s.coll ∧
    (State.storeRange s off d r).2.photonics = s.photonics ∧
    (State.storeRange s off d r).2.domain = s.domain ∧
    (State.storeRange s off d r).2.messages = s.messages ∧
    (State.storeRange s off d r).2.package = s.package ∧
    (State.storeRange s off d r).2.clocks = s.clocks ∧
    (State.storeRange s off d r).2.thermal = s.thermal ∧
    (State.storeRange s off d r).2.boot = s.boot ∧
    (State.storeRange s off d r).2.freeCount = s.freeCount := by
  unfold State.storeRange
  try dsimp only
  (repeat' split) <;> simp_all -implicitDefEqProofs [↓prod_flip3, prod_flip]

@[simp] theorem State.setPattern_kept (s : State) (w : Nat) (p : ErrorPattern) :
    (State.setPattern s w p).pending = s.pending ∧
    (State.setPattern s w p).fuses = s.fuses ∧
    (State.setPattern s w p).regs = s.regs ∧
    (State.setPattern s w p).shadows = s.shadows ∧
    (State.setPattern s w p).blobs = s.blobs ∧
    (State.setPattern s w p).blobShadows = s.blobShadows ∧
    (State.setPattern s w p).hubNeeds = s.hubNeeds ∧
    (State.setPattern s w p).commits = s.commits ∧
    (State.setPattern s w p).seeds = s.seeds ∧
    (State.setPattern s w p).load = s.load ∧
    (State.setPattern s w p).clusters = s.clusters ∧
    (State.setPattern s w p).ctxs = s.ctxs ∧
    (State.setPattern s w p).rig = s.rig ∧
    (State.setPattern s w p).coll = s.coll ∧
    (State.setPattern s w p).photonics = s.photonics ∧
    (State.setPattern s w p).domain = s.domain ∧
    (State.setPattern s w p).messages = s.messages ∧
    (State.setPattern s w p).package = s.package ∧
    (State.setPattern s w p).clocks = s.clocks ∧
    (State.setPattern s w p).thermal = s.thermal ∧
    (State.setPattern s w p).control = s.control ∧
    (State.setPattern s w p).boot = s.boot ∧
    (State.setPattern s w p).dbg = s.dbg ∧
    (State.setPattern s w p).freeCount = s.freeCount := by
  unfold State.setPattern
  try dsimp only
  (repeat' split) <;> simp_all -implicitDefEqProofs [↓prod_flip3, prod_flip]

@[simp] theorem State.passWord_kept (s : State) (src : Nat) (dst : Nat) (w : Nat) :
    (State.passWord s src dst w).pending = s.pending ∧
    (State.passWord s src dst w).fuses = s.fuses ∧
    (State.passWord s src dst w).shadows = s.shadows ∧
    (State.passWord s src dst w).blobShadows = s.blobShadows ∧
    (State.passWord s src dst w).hubNeeds = s.hubNeeds ∧
    (State.passWord s src dst w).commits = s.commits ∧
    (State.passWord s src dst w).seeds = s.seeds ∧
    (State.passWord s src dst w).load = s.load ∧
    (State.passWord s src dst w).ctxs = s.ctxs ∧
    (State.passWord s src dst w).rig = s.rig ∧
    (State.passWord s src dst w).coll = s.coll ∧
    (State.passWord s src dst w).photonics = s.photonics ∧
    (State.passWord s src dst w).domain = s.domain ∧
    (State.passWord s src dst w).messages = s.messages ∧
    (State.passWord s src dst w).package = s.package ∧
    (State.passWord s src dst w).clocks = s.clocks ∧
    (State.passWord s src dst w).thermal = s.thermal ∧
    (State.passWord s src dst w).boot = s.boot ∧
    (State.passWord s src dst w).freeCount = s.freeCount := by
  unfold State.passWord
  try dsimp only
  (repeat' split) <;> simp_all -implicitDefEqProofs [↓prod_flip3, prod_flip]

@[simp] theorem State.dirtyRange_kept (s : State) (off : Nat) (n : Nat) :
    (State.dirtyRange s off n).pending = s.pending ∧
    (State.dirtyRange s off n).fuses = s.fuses ∧
    (State.dirtyRange s off n).regs = s.regs ∧
    (State.dirtyRange s off n).shadows = s.shadows ∧
    (State.dirtyRange s off n).blobs = s.blobs ∧
    (State.dirtyRange s off n).blobShadows = s.blobShadows ∧
    (State.dirtyRange s off n).hubNeeds = s.hubNeeds ∧
    (State.dirtyRange s off n).commits = s.commits ∧
    (State.dirtyRange s off n).seeds = s.seeds ∧
    (State.dirtyRange s off n).load = s.load ∧
    (State.dirtyRange s off n).clusters = s.clusters ∧
    (State.dirtyRange s off n).ctxs = s.ctxs ∧
    (State.dirtyRange s off n).rig = s.rig ∧
    (State.dirtyRange s off n).coll = s.coll ∧
    (State.dirtyRange s off n).photonics = s.photonics ∧
    (State.dirtyRange s off n).domain = s.domain ∧
    (State.dirtyRange s off n).messages = s.messages ∧
    (State.dirtyRange s off n).package = s.package ∧
    (State.dirtyRange s off n).clocks = s.clocks ∧
    (State.dirtyRange s off n).thermal = s.thermal ∧
    (State.dirtyRange s off n).control = s.control ∧
    (State.dirtyRange s off n).boot = s.boot ∧
    (State.dirtyRange s off n).dbg = s.dbg ∧
    (State.dirtyRange s off n).freeCount = s.freeCount := by
  unfold State.dirtyRange
  try dsimp only
  (repeat' split) <;> simp_all -implicitDefEqProofs [↓prod_flip3, prod_flip]

@[simp] theorem State.moveStore_kept (s : State) (src : Nat) (dst : Nat) (n : Nat) :
    (State.moveStore s src dst n).pending = s.pending ∧
    (State.moveStore s src dst n).fuses = s.fuses ∧
    (State.moveStore s src dst n).shadows = s.shadows ∧
    (State.moveStore s src dst n).blobShadows = s.blobShadows ∧
    (State.moveStore s src dst n).hubNeeds = s.hubNeeds ∧
    (State.moveStore s src dst n).commits = s.commits ∧
    (State.moveStore s src dst n).seeds = s.seeds ∧
    (State.moveStore s src dst n).load = s.load ∧
    (State.moveStore s src dst n).ctxs = s.ctxs ∧
    (State.moveStore s src dst n).rig = s.rig ∧
    (State.moveStore s src dst n).coll = s.coll ∧
    (State.moveStore s src dst n).photonics = s.photonics ∧
    (State.moveStore s src dst n).domain = s.domain ∧
    (State.moveStore s src dst n).messages = s.messages ∧
    (State.moveStore s src dst n).package = s.package ∧
    (State.moveStore s src dst n).clocks = s.clocks ∧
    (State.moveStore s src dst n).thermal = s.thermal ∧
    (State.moveStore s src dst n).boot = s.boot ∧
    (State.moveStore s src dst n).freeCount = s.freeCount := by
  unfold State.moveStore
  try dsimp only
  (repeat' split) <;> simp_all -implicitDefEqProofs [↓prod_flip3, prod_flip]

@[simp] theorem State.criticalMismatch_kept (s : State) (kind : Nat) (item : Nat) :
    (State.criticalMismatch s kind item).pending = s.pending ∧
    (State.criticalMismatch s kind item).fuses = s.fuses ∧
    (State.criticalMismatch s kind item).shadows = s.shadows ∧
    (State.criticalMismatch s kind item).blobs = s.blobs ∧
    (State.criticalMismatch s kind item).blobShadows = s.blobShadows ∧
    (State.criticalMismatch s kind item).hubNeeds = s.hubNeeds ∧
    (State.criticalMismatch s kind item).commits = s.commits ∧
    (State.criticalMismatch s kind item).seeds = s.seeds ∧
    (State.criticalMismatch s kind item).load = s.load ∧
    (State.criticalMismatch s kind item).clusters = s.clusters ∧
    (State.criticalMismatch s kind item).ctxs = s.ctxs ∧
    (State.criticalMismatch s kind item).memory = s.memory ∧
    (State.criticalMismatch s kind item).rig = s.rig ∧
    (State.criticalMismatch s kind item).coll = s.coll ∧
    (State.criticalMismatch s kind item).photonics = s.photonics ∧
    (State.criticalMismatch s kind item).domain = s.domain ∧
    (State.criticalMismatch s kind item).messages = s.messages ∧
    (State.criticalMismatch s kind item).package = s.package ∧
    (State.criticalMismatch s kind item).clocks = s.clocks ∧
    (State.criticalMismatch s kind item).thermal = s.thermal ∧
    (State.criticalMismatch s kind item).boot = s.boot ∧
    (State.criticalMismatch s kind item).freeCount = s.freeCount := by
  unfold State.criticalMismatch
  try dsimp only
  (repeat' split) <;> simp_all -implicitDefEqProofs [↓prod_flip3, prod_flip]

@[simp] theorem State.setState_kept (s : State) (x : Nat) (new : CtxState) :
    (State.setState s x new).pending = s.pending ∧
    (State.setState s x new).fuses = s.fuses ∧
    (State.setState s x new).regs = s.regs ∧
    (State.setState s x new).shadows = s.shadows ∧
    (State.setState s x new).blobs = s.blobs ∧
    (State.setState s x new).blobShadows = s.blobShadows ∧
    (State.setState s x new).hubNeeds = s.hubNeeds ∧
    (State.setState s x new).commits = s.commits ∧
    (State.setState s x new).seeds = s.seeds ∧
    (State.setState s x new).load = s.load ∧
    (State.setState s x new).clusters = s.clusters ∧
    (State.setState s x new).memory = s.memory ∧
    (State.setState s x new).rig = s.rig ∧
    (State.setState s x new).coll = s.coll ∧
    (State.setState s x new).photonics = s.photonics ∧
    (State.setState s x new).domain = s.domain ∧
    (State.setState s x new).messages = s.messages ∧
    (State.setState s x new).package = s.package ∧
    (State.setState s x new).clocks = s.clocks ∧
    (State.setState s x new).thermal = s.thermal ∧
    (State.setState s x new).control = s.control ∧
    (State.setState s x new).boot = s.boot ∧
    (State.setState s x new).freeCount = s.freeCount := by
  unfold State.setState
  try dsimp only
  (repeat' split) <;> simp_all -implicitDefEqProofs [↓prod_flip3, prod_flip]

@[simp] theorem State.storePlan_kept (s : State) (n : Nat) (payload : List Byte) :
    (State.storePlan s n payload).pending = s.pending ∧
    (State.storePlan s n payload).fuses = s.fuses ∧
    (State.storePlan s n payload).regs = s.regs ∧
    (State.storePlan s n payload).shadows = s.shadows ∧
    (State.storePlan s n payload).blobs = s.blobs ∧
    (State.storePlan s n payload).blobShadows = s.blobShadows ∧
    (State.storePlan s n payload).hubNeeds = s.hubNeeds ∧
    (State.storePlan s n payload).commits = s.commits ∧
    (State.storePlan s n payload).seeds = s.seeds ∧
    (State.storePlan s n payload).load = s.load ∧
    (State.storePlan s n payload).clusters = s.clusters ∧
    (State.storePlan s n payload).ctxs = s.ctxs ∧
    (State.storePlan s n payload).memory = s.memory ∧
    (State.storePlan s n payload).rig = s.rig ∧
    (State.storePlan s n payload).photonics = s.photonics ∧
    (State.storePlan s n payload).domain = s.domain ∧
    (State.storePlan s n payload).messages = s.messages ∧
    (State.storePlan s n payload).package = s.package ∧
    (State.storePlan s n payload).clocks = s.clocks ∧
    (State.storePlan s n payload).thermal = s.thermal ∧
    (State.storePlan s n payload).control = s.control ∧
    (State.storePlan s n payload).boot = s.boot ∧
    (State.storePlan s n payload).dbg = s.dbg ∧
    (State.storePlan s n payload).freeCount = s.freeCount := by
  unfold State.storePlan
  try dsimp only
  (repeat' split) <;> simp_all -implicitDefEqProofs [↓prod_flip3, prod_flip]

@[simp] theorem State.settlePlan_kept (s : State) :
    (State.settlePlan s).pending = s.pending ∧
    (State.settlePlan s).fuses = s.fuses ∧
    (State.settlePlan s).shadows = s.shadows ∧
    (State.settlePlan s).blobs = s.blobs ∧
    (State.settlePlan s).blobShadows = s.blobShadows ∧
    (State.settlePlan s).hubNeeds = s.hubNeeds ∧
    (State.settlePlan s).seeds = s.seeds ∧
    (State.settlePlan s).load = s.load ∧
    (State.settlePlan s).clusters = s.clusters ∧
    (State.settlePlan s).ctxs = s.ctxs ∧
    (State.settlePlan s).memory = s.memory ∧
    (State.settlePlan s).rig = s.rig ∧
    (State.settlePlan s).photonics = s.photonics ∧
    (State.settlePlan s).domain = s.domain ∧
    (State.settlePlan s).messages = s.messages ∧
    (State.settlePlan s).package = s.package ∧
    (State.settlePlan s).clocks = s.clocks ∧
    (State.settlePlan s).thermal = s.thermal ∧
    (State.settlePlan s).control = s.control ∧
    (State.settlePlan s).boot = s.boot ∧
    (State.settlePlan s).dbg = s.dbg ∧
    (State.settlePlan s).freeCount = s.freeCount := by
  unfold State.settlePlan
  try dsimp only
  (repeat' split) <;> simp_all -implicitDefEqProofs [↓prod_flip3, prod_flip]

@[simp] theorem State.leaveJoins_kept (s : State) (x : Nat) :
    (State.leaveJoins s x).pending = s.pending ∧
    (State.leaveJoins s x).fuses = s.fuses ∧
    (State.leaveJoins s x).regs = s.regs ∧
    (State.leaveJoins s x).shadows = s.shadows ∧
    (State.leaveJoins s x).blobs = s.blobs ∧
    (State.leaveJoins s x).blobShadows = s.blobShadows ∧
    (State.leaveJoins s x).hubNeeds = s.hubNeeds ∧
    (State.leaveJoins s x).commits = s.commits ∧
    (State.leaveJoins s x).seeds = s.seeds ∧
    (State.leaveJoins s x).load = s.load ∧
    (State.leaveJoins s x).clusters = s.clusters ∧
    (State.leaveJoins s x).ctxs = s.ctxs ∧
    (State.leaveJoins s x).memory = s.memory ∧
    (State.leaveJoins s x).rig = s.rig ∧
    (State.leaveJoins s x).photonics = s.photonics ∧
    (State.leaveJoins s x).domain = s.domain ∧
    (State.leaveJoins s x).messages = s.messages ∧
    (State.leaveJoins s x).package = s.package ∧
    (State.leaveJoins s x).clocks = s.clocks ∧
    (State.leaveJoins s x).thermal = s.thermal ∧
    (State.leaveJoins s x).control = s.control ∧
    (State.leaveJoins s x).boot = s.boot ∧
    (State.leaveJoins s x).dbg = s.dbg ∧
    (State.leaveJoins s x).freeCount = s.freeCount := by
  unfold State.leaveJoins
  try dsimp only
  (repeat' split) <;> simp_all -implicitDefEqProofs [↓prod_flip3, prod_flip]

@[simp] theorem State.stopCollectives_kept (s : State) (x : Nat) :
    (State.stopCollectives s x).pending = s.pending ∧
    (State.stopCollectives s x).fuses = s.fuses ∧
    (State.stopCollectives s x).shadows = s.shadows ∧
    (State.stopCollectives s x).blobs = s.blobs ∧
    (State.stopCollectives s x).blobShadows = s.blobShadows ∧
    (State.stopCollectives s x).hubNeeds = s.hubNeeds ∧
    (State.stopCollectives s x).seeds = s.seeds ∧
    (State.stopCollectives s x).load = s.load ∧
    (State.stopCollectives s x).clusters = s.clusters ∧
    (State.stopCollectives s x).ctxs = s.ctxs ∧
    (State.stopCollectives s x).memory = s.memory ∧
    (State.stopCollectives s x).rig = s.rig ∧
    (State.stopCollectives s x).photonics = s.photonics ∧
    (State.stopCollectives s x).domain = s.domain ∧
    (State.stopCollectives s x).messages = s.messages ∧
    (State.stopCollectives s x).package = s.package ∧
    (State.stopCollectives s x).clocks = s.clocks ∧
    (State.stopCollectives s x).thermal = s.thermal ∧
    (State.stopCollectives s x).control = s.control ∧
    (State.stopCollectives s x).boot = s.boot ∧
    (State.stopCollectives s x).dbg = s.dbg ∧
    (State.stopCollectives s x).freeCount = s.freeCount := by
  unfold State.stopCollectives
  try dsimp only
  (repeat' split) <;> simp_all -implicitDefEqProofs [↓prod_flip3, prod_flip]

@[simp] theorem State.faultCtx_kept (s : State) (x : Nat) (code : Nat) (cluster : Nat) (engine : Nat) (extra : Nat) (ring : Nat) :
    (State.faultCtx s x code cluster engine extra ring).pending = s.pending ∧
    (State.faultCtx s x code cluster engine extra ring).fuses = s.fuses ∧
    (State.faultCtx s x code cluster engine extra ring).shadows = s.shadows ∧
    (State.faultCtx s x code cluster engine extra ring).blobs = s.blobs ∧
    (State.faultCtx s x code cluster engine extra ring).blobShadows = s.blobShadows ∧
    (State.faultCtx s x code cluster engine extra ring).hubNeeds = s.hubNeeds ∧
    (State.faultCtx s x code cluster engine extra ring).seeds = s.seeds ∧
    (State.faultCtx s x code cluster engine extra ring).load = s.load ∧
    (State.faultCtx s x code cluster engine extra ring).clusters = s.clusters ∧
    (State.faultCtx s x code cluster engine extra ring).memory = s.memory ∧
    (State.faultCtx s x code cluster engine extra ring).rig = s.rig ∧
    (State.faultCtx s x code cluster engine extra ring).photonics = s.photonics ∧
    (State.faultCtx s x code cluster engine extra ring).domain = s.domain ∧
    (State.faultCtx s x code cluster engine extra ring).messages = s.messages ∧
    (State.faultCtx s x code cluster engine extra ring).package = s.package ∧
    (State.faultCtx s x code cluster engine extra ring).clocks = s.clocks ∧
    (State.faultCtx s x code cluster engine extra ring).thermal = s.thermal ∧
    (State.faultCtx s x code cluster engine extra ring).boot = s.boot ∧
    (State.faultCtx s x code cluster engine extra ring).freeCount = s.freeCount := by
  unfold State.faultCtx
  try dsimp only
  (repeat' split) <;> simp_all -implicitDefEqProofs [↓prod_flip3, prod_flip]

@[simp] theorem State.faultAt_kept (s : State) (x : Nat) (c : Nat) (code : Nat) (engine : Nat) (extra : Nat) :
    (State.faultAt s x c code engine extra).pending = s.pending ∧
    (State.faultAt s x c code engine extra).fuses = s.fuses ∧
    (State.faultAt s x c code engine extra).shadows = s.shadows ∧
    (State.faultAt s x c code engine extra).blobs = s.blobs ∧
    (State.faultAt s x c code engine extra).blobShadows = s.blobShadows ∧
    (State.faultAt s x c code engine extra).hubNeeds = s.hubNeeds ∧
    (State.faultAt s x c code engine extra).seeds = s.seeds ∧
    (State.faultAt s x c code engine extra).load = s.load ∧
    (State.faultAt s x c code engine extra).clusters = s.clusters ∧
    (State.faultAt s x c code engine extra).memory = s.memory ∧
    (State.faultAt s x c code engine extra).rig = s.rig ∧
    (State.faultAt s x c code engine extra).photonics = s.photonics ∧
    (State.faultAt s x c code engine extra).domain = s.domain ∧
    (State.faultAt s x c code engine extra).messages = s.messages ∧
    (State.faultAt s x c code engine extra).package = s.package ∧
    (State.faultAt s x c code engine extra).clocks = s.clocks ∧
    (State.faultAt s x c code engine extra).thermal = s.thermal ∧
    (State.faultAt s x c code engine extra).boot = s.boot ∧
    (State.faultAt s x c code engine extra).freeCount = s.freeCount := by
  unfold State.faultAt
  try dsimp only
  (repeat' split) <;> simp_all -implicitDefEqProofs [↓prod_flip3, prod_flip]

@[simp] theorem State.addWord_kept (s : State) (off : Nat) (amount : Nat) (r : Requester) :
    (State.addWord s off amount r).2.pending = s.pending ∧
    (State.addWord s off amount r).2.fuses = s.fuses ∧
    (State.addWord s off amount r).2.shadows = s.shadows ∧
    (State.addWord s off amount r).2.blobShadows = s.blobShadows ∧
    (State.addWord s off amount r).2.hubNeeds = s.hubNeeds ∧
    (State.addWord s off amount r).2.commits = s.commits ∧
    (State.addWord s off amount r).2.seeds = s.seeds ∧
    (State.addWord s off amount r).2.load = s.load ∧
    (State.addWord s off amount r).2.ctxs = s.ctxs ∧
    (State.addWord s off amount r).2.rig = s.rig ∧
    (State.addWord s off amount r).2.coll = s.coll ∧
    (State.addWord s off amount r).2.photonics = s.photonics ∧
    (State.addWord s off amount r).2.domain = s.domain ∧
    (State.addWord s off amount r).2.messages = s.messages ∧
    (State.addWord s off amount r).2.package = s.package ∧
    (State.addWord s off amount r).2.clocks = s.clocks ∧
    (State.addWord s off amount r).2.thermal = s.thermal ∧
    (State.addWord s off amount r).2.boot = s.boot ∧
    (State.addWord s off amount r).2.freeCount = s.freeCount := by
  unfold State.addWord
  try dsimp only
  (repeat' split) <;> simp_all -implicitDefEqProofs [↓prod_flip3, prod_flip]

@[simp] theorem State.writeHeader_kept (s : State) (x : Nat) (imageState : Nat) (time : Nat) :
    (State.writeHeader s x imageState time).pending = s.pending ∧
    (State.writeHeader s x imageState time).fuses = s.fuses ∧
    (State.writeHeader s x imageState time).shadows = s.shadows ∧
    (State.writeHeader s x imageState time).blobShadows = s.blobShadows ∧
    (State.writeHeader s x imageState time).hubNeeds = s.hubNeeds ∧
    (State.writeHeader s x imageState time).commits = s.commits ∧
    (State.writeHeader s x imageState time).seeds = s.seeds ∧
    (State.writeHeader s x imageState time).load = s.load ∧
    (State.writeHeader s x imageState time).ctxs = s.ctxs ∧
    (State.writeHeader s x imageState time).rig = s.rig ∧
    (State.writeHeader s x imageState time).coll = s.coll ∧
    (State.writeHeader s x imageState time).photonics = s.photonics ∧
    (State.writeHeader s x imageState time).domain = s.domain ∧
    (State.writeHeader s x imageState time).messages = s.messages ∧
    (State.writeHeader s x imageState time).package = s.package ∧
    (State.writeHeader s x imageState time).clocks = s.clocks ∧
    (State.writeHeader s x imageState time).thermal = s.thermal ∧
    (State.writeHeader s x imageState time).boot = s.boot ∧
    (State.writeHeader s x imageState time).freeCount = s.freeCount := by
  unfold State.writeHeader
  try dsimp only
  (repeat' split) <;> simp_all -implicitDefEqProofs [↓prod_flip3, prod_flip]

@[simp] theorem State.countImage_kept (s : State) (x : Nat) (d : Delivery) :
    (State.countImage s x d).pending = s.pending ∧
    (State.countImage s x d).fuses = s.fuses ∧
    (State.countImage s x d).regs = s.regs ∧
    (State.countImage s x d).shadows = s.shadows ∧
    (State.countImage s x d).blobs = s.blobs ∧
    (State.countImage s x d).blobShadows = s.blobShadows ∧
    (State.countImage s x d).hubNeeds = s.hubNeeds ∧
    (State.countImage s x d).commits = s.commits ∧
    (State.countImage s x d).seeds = s.seeds ∧
    (State.countImage s x d).load = s.load ∧
    (State.countImage s x d).clusters = s.clusters ∧
    (State.countImage s x d).memory = s.memory ∧
    (State.countImage s x d).rig = s.rig ∧
    (State.countImage s x d).coll = s.coll ∧
    (State.countImage s x d).photonics = s.photonics ∧
    (State.countImage s x d).domain = s.domain ∧
    (State.countImage s x d).messages = s.messages ∧
    (State.countImage s x d).package = s.package ∧
    (State.countImage s x d).clocks = s.clocks ∧
    (State.countImage s x d).thermal = s.thermal ∧
    (State.countImage s x d).control = s.control ∧
    (State.countImage s x d).boot = s.boot ∧
    (State.countImage s x d).dbg = s.dbg ∧
    (State.countImage s x d).freeCount = s.freeCount := by
  unfold State.countImage
  try dsimp only
  (repeat' split) <;> simp_all -implicitDefEqProofs [↓prod_flip3, prod_flip]

@[simp] theorem State.plainAccess_kept (s : State) (op : Nat) (off : Nat) (len : Nat) (data : List Byte) (r : Requester) :
    (State.plainAccess s op off len data r).2.pending = s.pending ∧
    (State.plainAccess s op off len data r).2.fuses = s.fuses ∧
    (State.plainAccess s op off len data r).2.shadows = s.shadows ∧
    (State.plainAccess s op off len data r).2.blobShadows = s.blobShadows ∧
    (State.plainAccess s op off len data r).2.hubNeeds = s.hubNeeds ∧
    (State.plainAccess s op off len data r).2.commits = s.commits ∧
    (State.plainAccess s op off len data r).2.seeds = s.seeds ∧
    (State.plainAccess s op off len data r).2.load = s.load ∧
    (State.plainAccess s op off len data r).2.ctxs = s.ctxs ∧
    (State.plainAccess s op off len data r).2.rig = s.rig ∧
    (State.plainAccess s op off len data r).2.coll = s.coll ∧
    (State.plainAccess s op off len data r).2.photonics = s.photonics ∧
    (State.plainAccess s op off len data r).2.domain = s.domain ∧
    (State.plainAccess s op off len data r).2.messages = s.messages ∧
    (State.plainAccess s op off len data r).2.package = s.package ∧
    (State.plainAccess s op off len data r).2.clocks = s.clocks ∧
    (State.plainAccess s op off len data r).2.thermal = s.thermal ∧
    (State.plainAccess s op off len data r).2.boot = s.boot ∧
    (State.plainAccess s op off len data r).2.freeCount = s.freeCount := by
  unfold State.plainAccess
  try dsimp only
  (repeat' split) <;> simp_all -implicitDefEqProofs [↓prod_flip3, prod_flip]

@[simp] theorem State.withhold_kept (s : State) (t : Nat) :
    (State.withhold s t).pending = s.pending ∧
    (State.withhold s t).fuses = s.fuses ∧
    (State.withhold s t).regs = s.regs ∧
    (State.withhold s t).shadows = s.shadows ∧
    (State.withhold s t).blobs = s.blobs ∧
    (State.withhold s t).blobShadows = s.blobShadows ∧
    (State.withhold s t).hubNeeds = s.hubNeeds ∧
    (State.withhold s t).commits = s.commits ∧
    (State.withhold s t).seeds = s.seeds ∧
    (State.withhold s t).load = s.load ∧
    (State.withhold s t).clusters = s.clusters ∧
    (State.withhold s t).ctxs = s.ctxs ∧
    (State.withhold s t).memory = s.memory ∧
    (State.withhold s t).coll = s.coll ∧
    (State.withhold s t).photonics = s.photonics ∧
    (State.withhold s t).domain = s.domain ∧
    (State.withhold s t).messages = s.messages ∧
    (State.withhold s t).package = s.package ∧
    (State.withhold s t).clocks = s.clocks ∧
    (State.withhold s t).thermal = s.thermal ∧
    (State.withhold s t).control = s.control ∧
    (State.withhold s t).boot = s.boot ∧
    (State.withhold s t).dbg = s.dbg ∧
    (State.withhold s t).freeCount = s.freeCount := by
  unfold State.withhold
  try dsimp only
  (repeat' split) <;> simp_all -implicitDefEqProofs [↓prod_flip3, prod_flip]

@[simp] theorem State.holdRequest_kept (s : State) (t : Nat) (q : Req) :
    (State.holdRequest s t q).pending = s.pending ∧
    (State.holdRequest s t q).fuses = s.fuses ∧
    (State.holdRequest s t q).regs = s.regs ∧
    (State.holdRequest s t q).shadows = s.shadows ∧
    (State.holdRequest s t q).blobs = s.blobs ∧
    (State.holdRequest s t q).blobShadows = s.blobShadows ∧
    (State.holdRequest s t q).hubNeeds = s.hubNeeds ∧
    (State.holdRequest s t q).commits = s.commits ∧
    (State.holdRequest s t q).seeds = s.seeds ∧
    (State.holdRequest s t q).load = s.load ∧
    (State.holdRequest s t q).clusters = s.clusters ∧
    (State.holdRequest s t q).ctxs = s.ctxs ∧
    (State.holdRequest s t q).coll = s.coll ∧
    (State.holdRequest s t q).photonics = s.photonics ∧
    (State.holdRequest s t q).domain = s.domain ∧
    (State.holdRequest s t q).messages = s.messages ∧
    (State.holdRequest s t q).package = s.package ∧
    (State.holdRequest s t q).clocks = s.clocks ∧
    (State.holdRequest s t q).thermal = s.thermal ∧
    (State.holdRequest s t q).control = s.control ∧
    (State.holdRequest s t q).boot = s.boot ∧
    (State.holdRequest s t q).dbg = s.dbg ∧
    (State.holdRequest s t q).freeCount = s.freeCount := by
  unfold State.holdRequest
  try dsimp only
  (repeat' split) <;> simp_all -implicitDefEqProofs [↓prod_flip3, prod_flip]

@[simp] theorem State.clusterAccess_kept (s : State) (c : Nat) (q : Req) (r : Requester) :
    (State.clusterAccess s c q r).2.pending = s.pending ∧
    (State.clusterAccess s c q r).2.fuses = s.fuses ∧
    (State.clusterAccess s c q r).2.shadows = s.shadows ∧
    (State.clusterAccess s c q r).2.blobShadows = s.blobShadows ∧
    (State.clusterAccess s c q r).2.hubNeeds = s.hubNeeds ∧
    (State.clusterAccess s c q r).2.commits = s.commits ∧
    (State.clusterAccess s c q r).2.seeds = s.seeds ∧
    (State.clusterAccess s c q r).2.load = s.load ∧
    (State.clusterAccess s c q r).2.coll = s.coll ∧
    (State.clusterAccess s c q r).2.photonics = s.photonics ∧
    (State.clusterAccess s c q r).2.domain = s.domain ∧
    (State.clusterAccess s c q r).2.messages = s.messages ∧
    (State.clusterAccess s c q r).2.package = s.package ∧
    (State.clusterAccess s c q r).2.thermal = s.thermal ∧
    (State.clusterAccess s c q r).2.boot = s.boot ∧
    (State.clusterAccess s c q r).2.freeCount = s.freeCount := by
  unfold State.clusterAccess
  try dsimp only
  (repeat' split) <;> simp_all -implicitDefEqProofs [↓prod_flip3, prod_flip]

@[simp] theorem State.countMesh_kept (s : State) (a : Nat) (b : Nat) (n : Nat) :
    (State.countMesh s a b n).pending = s.pending ∧
    (State.countMesh s a b n).fuses = s.fuses ∧
    (State.countMesh s a b n).regs = s.regs ∧
    (State.countMesh s a b n).shadows = s.shadows ∧
    (State.countMesh s a b n).blobs = s.blobs ∧
    (State.countMesh s a b n).blobShadows = s.blobShadows ∧
    (State.countMesh s a b n).hubNeeds = s.hubNeeds ∧
    (State.countMesh s a b n).commits = s.commits ∧
    (State.countMesh s a b n).seeds = s.seeds ∧
    (State.countMesh s a b n).load = s.load ∧
    (State.countMesh s a b n).ctxs = s.ctxs ∧
    (State.countMesh s a b n).memory = s.memory ∧
    (State.countMesh s a b n).rig = s.rig ∧
    (State.countMesh s a b n).coll = s.coll ∧
    (State.countMesh s a b n).photonics = s.photonics ∧
    (State.countMesh s a b n).domain = s.domain ∧
    (State.countMesh s a b n).messages = s.messages ∧
    (State.countMesh s a b n).package = s.package ∧
    (State.countMesh s a b n).clocks = s.clocks ∧
    (State.countMesh s a b n).thermal = s.thermal ∧
    (State.countMesh s a b n).control = s.control ∧
    (State.countMesh s a b n).boot = s.boot ∧
    (State.countMesh s a b n).dbg = s.dbg ∧
    (State.countMesh s a b n).freeCount = s.freeCount := by
  unfold State.countMesh
  try dsimp only
  (repeat' split) <;> simp_all -implicitDefEqProofs [↓prod_flip3, prod_flip]

@[simp] theorem State.meshAccess_kept (s : State) (src : Nat) (c : Nat) (q : Req) (r : Requester) :
    (State.meshAccess s src c q r).2.pending = s.pending ∧
    (State.meshAccess s src c q r).2.fuses = s.fuses ∧
    (State.meshAccess s src c q r).2.shadows = s.shadows ∧
    (State.meshAccess s src c q r).2.blobShadows = s.blobShadows ∧
    (State.meshAccess s src c q r).2.hubNeeds = s.hubNeeds ∧
    (State.meshAccess s src c q r).2.commits = s.commits ∧
    (State.meshAccess s src c q r).2.seeds = s.seeds ∧
    (State.meshAccess s src c q r).2.load = s.load ∧
    (State.meshAccess s src c q r).2.coll = s.coll ∧
    (State.meshAccess s src c q r).2.photonics = s.photonics ∧
    (State.meshAccess s src c q r).2.domain = s.domain ∧
    (State.meshAccess s src c q r).2.messages = s.messages ∧
    (State.meshAccess s src c q r).2.package = s.package ∧
    (State.meshAccess s src c q r).2.thermal = s.thermal ∧
    (State.meshAccess s src c q r).2.boot = s.boot ∧
    (State.meshAccess s src c q r).2.freeCount = s.freeCount := by
  unfold State.meshAccess
  try dsimp only
  (repeat' split) <;> simp_all -implicitDefEqProofs [↓prod_flip3, prod_flip]

@[simp] theorem State.atomicAccess_kept (s : State) (q : Req) (r : Requester) :
    (State.atomicAccess s q r).2.pending = s.pending ∧
    (State.atomicAccess s q r).2.fuses = s.fuses ∧
    (State.atomicAccess s q r).2.shadows = s.shadows ∧
    (State.atomicAccess s q r).2.blobShadows = s.blobShadows ∧
    (State.atomicAccess s q r).2.hubNeeds = s.hubNeeds ∧
    (State.atomicAccess s q r).2.commits = s.commits ∧
    (State.atomicAccess s q r).2.seeds = s.seeds ∧
    (State.atomicAccess s q r).2.load = s.load ∧
    (State.atomicAccess s q r).2.ctxs = s.ctxs ∧
    (State.atomicAccess s q r).2.rig = s.rig ∧
    (State.atomicAccess s q r).2.coll = s.coll ∧
    (State.atomicAccess s q r).2.photonics = s.photonics ∧
    (State.atomicAccess s q r).2.domain = s.domain ∧
    (State.atomicAccess s q r).2.messages = s.messages ∧
    (State.atomicAccess s q r).2.package = s.package ∧
    (State.atomicAccess s q r).2.clocks = s.clocks ∧
    (State.atomicAccess s q r).2.thermal = s.thermal ∧
    (State.atomicAccess s q r).2.boot = s.boot ∧
    (State.atomicAccess s q r).2.freeCount = s.freeCount := by
  unfold State.atomicAccess
  try dsimp only
  (repeat' split) <;> simp_all -implicitDefEqProofs [↓prod_flip3, prod_flip]

@[simp] theorem State.performRequest_kept (s : State) (q : Req) (r : Requester) :
    (State.performRequest s q r).2.pending = s.pending ∧
    (State.performRequest s q r).2.fuses = s.fuses ∧
    (State.performRequest s q r).2.shadows = s.shadows ∧
    (State.performRequest s q r).2.blobShadows = s.blobShadows ∧
    (State.performRequest s q r).2.hubNeeds = s.hubNeeds ∧
    (State.performRequest s q r).2.commits = s.commits ∧
    (State.performRequest s q r).2.seeds = s.seeds ∧
    (State.performRequest s q r).2.load = s.load ∧
    (State.performRequest s q r).2.coll = s.coll ∧
    (State.performRequest s q r).2.photonics = s.photonics ∧
    (State.performRequest s q r).2.domain = s.domain ∧
    (State.performRequest s q r).2.messages = s.messages ∧
    (State.performRequest s q r).2.package = s.package ∧
    (State.performRequest s q r).2.thermal = s.thermal ∧
    (State.performRequest s q r).2.boot = s.boot ∧
    (State.performRequest s q r).2.freeCount = s.freeCount := by
  unfold State.performRequest
  try dsimp only
  (repeat' split) <;> simp_all -implicitDefEqProofs [↓prod_flip3, prod_flip]

@[simp] theorem State.setLineQueue_kept (s : State) (line : Nat) (k : LineQueue) :
    (State.setLineQueue s line k).pending = s.pending ∧
    (State.setLineQueue s line k).fuses = s.fuses ∧
    (State.setLineQueue s line k).regs = s.regs ∧
    (State.setLineQueue s line k).shadows = s.shadows ∧
    (State.setLineQueue s line k).blobs = s.blobs ∧
    (State.setLineQueue s line k).blobShadows = s.blobShadows ∧
    (State.setLineQueue s line k).hubNeeds = s.hubNeeds ∧
    (State.setLineQueue s line k).commits = s.commits ∧
    (State.setLineQueue s line k).seeds = s.seeds ∧
    (State.setLineQueue s line k).load = s.load ∧
    (State.setLineQueue s line k).clusters = s.clusters ∧
    (State.setLineQueue s line k).ctxs = s.ctxs ∧
    (State.setLineQueue s line k).memory = s.memory ∧
    (State.setLineQueue s line k).rig = s.rig ∧
    (State.setLineQueue s line k).coll = s.coll ∧
    (State.setLineQueue s line k).photonics = s.photonics ∧
    (State.setLineQueue s line k).messages = s.messages ∧
    (State.setLineQueue s line k).package = s.package ∧
    (State.setLineQueue s line k).clocks = s.clocks ∧
    (State.setLineQueue s line k).thermal = s.thermal ∧
    (State.setLineQueue s line k).control = s.control ∧
    (State.setLineQueue s line k).boot = s.boot ∧
    (State.setLineQueue s line k).dbg = s.dbg ∧
    (State.setLineQueue s line k).freeCount = s.freeCount := by
  unfold State.setLineQueue
  try dsimp only
  (repeat' split) <;> simp_all -implicitDefEqProofs [↓prod_flip3, prod_flip]

@[simp] theorem State.countAbsorbed_kept (s : State) (q : Req) :
    (State.countAbsorbed s q).pending = s.pending ∧
    (State.countAbsorbed s q).fuses = s.fuses ∧
    (State.countAbsorbed s q).shadows = s.shadows ∧
    (State.countAbsorbed s q).blobs = s.blobs ∧
    (State.countAbsorbed s q).blobShadows = s.blobShadows ∧
    (State.countAbsorbed s q).hubNeeds = s.hubNeeds ∧
    (State.countAbsorbed s q).commits = s.commits ∧
    (State.countAbsorbed s q).seeds = s.seeds ∧
    (State.countAbsorbed s q).load = s.load ∧
    (State.countAbsorbed s q).clusters = s.clusters ∧
    (State.countAbsorbed s q).ctxs = s.ctxs ∧
    (State.countAbsorbed s q).memory = s.memory ∧
    (State.countAbsorbed s q).rig = s.rig ∧
    (State.countAbsorbed s q).coll = s.coll ∧
    (State.countAbsorbed s q).photonics = s.photonics ∧
    (State.countAbsorbed s q).domain = s.domain ∧
    (State.countAbsorbed s q).messages = s.messages ∧
    (State.countAbsorbed s q).package = s.package ∧
    (State.countAbsorbed s q).clocks = s.clocks ∧
    (State.countAbsorbed s q).thermal = s.thermal ∧
    (State.countAbsorbed s q).control = s.control ∧
    (State.countAbsorbed s q).boot = s.boot ∧
    (State.countAbsorbed s q).dbg = s.dbg ∧
    (State.countAbsorbed s q).freeCount = s.freeCount := by
  unfold State.countAbsorbed
  try dsimp only
  (repeat' split) <;> simp_all -implicitDefEqProofs [↓prod_flip3, prod_flip]

@[simp] theorem State.issueTicket_kept (s : State) (line : Nat) (k : LineQueue) :
    (State.issueTicket s line k).2.pending = s.pending ∧
    (State.issueTicket s line k).2.fuses = s.fuses ∧
    (State.issueTicket s line k).2.shadows = s.shadows ∧
    (State.issueTicket s line k).2.blobs = s.blobs ∧
    (State.issueTicket s line k).2.blobShadows = s.blobShadows ∧
    (State.issueTicket s line k).2.hubNeeds = s.hubNeeds ∧
    (State.issueTicket s line k).2.commits = s.commits ∧
    (State.issueTicket s line k).2.seeds = s.seeds ∧
    (State.issueTicket s line k).2.load = s.load ∧
    (State.issueTicket s line k).2.clusters = s.clusters ∧
    (State.issueTicket s line k).2.ctxs = s.ctxs ∧
    (State.issueTicket s line k).2.memory = s.memory ∧
    (State.issueTicket s line k).2.rig = s.rig ∧
    (State.issueTicket s line k).2.coll = s.coll ∧
    (State.issueTicket s line k).2.photonics = s.photonics ∧
    (State.issueTicket s line k).2.messages = s.messages ∧
    (State.issueTicket s line k).2.package = s.package ∧
    (State.issueTicket s line k).2.clocks = s.clocks ∧
    (State.issueTicket s line k).2.thermal = s.thermal ∧
    (State.issueTicket s line k).2.control = s.control ∧
    (State.issueTicket s line k).2.boot = s.boot ∧
    (State.issueTicket s line k).2.dbg = s.dbg ∧
    (State.issueTicket s line k).2.freeCount = s.freeCount := by
  unfold State.issueTicket
  try dsimp only
  (repeat' split) <;> simp_all -implicitDefEqProofs [↓prod_flip3, prod_flip]

@[simp] theorem State.enqueue_kept (s : State) (line : Nat) (k : LineQueue) (q : Req) :
    (State.enqueue s line k q).pending = s.pending ∧
    (State.enqueue s line k q).fuses = s.fuses ∧
    (State.enqueue s line k q).regs = s.regs ∧
    (State.enqueue s line k q).shadows = s.shadows ∧
    (State.enqueue s line k q).blobs = s.blobs ∧
    (State.enqueue s line k q).blobShadows = s.blobShadows ∧
    (State.enqueue s line k q).hubNeeds = s.hubNeeds ∧
    (State.enqueue s line k q).commits = s.commits ∧
    (State.enqueue s line k q).seeds = s.seeds ∧
    (State.enqueue s line k q).load = s.load ∧
    (State.enqueue s line k q).clusters = s.clusters ∧
    (State.enqueue s line k q).ctxs = s.ctxs ∧
    (State.enqueue s line k q).memory = s.memory ∧
    (State.enqueue s line k q).rig = s.rig ∧
    (State.enqueue s line k q).coll = s.coll ∧
    (State.enqueue s line k q).photonics = s.photonics ∧
    (State.enqueue s line k q).messages = s.messages ∧
    (State.enqueue s line k q).package = s.package ∧
    (State.enqueue s line k q).clocks = s.clocks ∧
    (State.enqueue s line k q).thermal = s.thermal ∧
    (State.enqueue s line k q).control = s.control ∧
    (State.enqueue s line k q).boot = s.boot ∧
    (State.enqueue s line k q).dbg = s.dbg ∧
    (State.enqueue s line k q).freeCount = s.freeCount := by
  unfold State.enqueue
  try dsimp only
  (repeat' split) <;> simp_all -implicitDefEqProofs [↓prod_flip3, prod_flip]

@[simp] theorem State.admitRequest_kept (s : State) (q : Req) :
    (State.admitRequest s q).2.pending = s.pending ∧
    (State.admitRequest s q).2.fuses = s.fuses ∧
    (State.admitRequest s q).2.shadows = s.shadows ∧
    (State.admitRequest s q).2.blobs = s.blobs ∧
    (State.admitRequest s q).2.blobShadows = s.blobShadows ∧
    (State.admitRequest s q).2.hubNeeds = s.hubNeeds ∧
    (State.admitRequest s q).2.commits = s.commits ∧
    (State.admitRequest s q).2.seeds = s.seeds ∧
    (State.admitRequest s q).2.load = s.load ∧
    (State.admitRequest s q).2.clusters = s.clusters ∧
    (State.admitRequest s q).2.ctxs = s.ctxs ∧
    (State.admitRequest s q).2.memory = s.memory ∧
    (State.admitRequest s q).2.rig = s.rig ∧
    (State.admitRequest s q).2.coll = s.coll ∧
    (State.admitRequest s q).2.photonics = s.photonics ∧
    (State.admitRequest s q).2.messages = s.messages ∧
    (State.admitRequest s q).2.package = s.package ∧
    (State.admitRequest s q).2.clocks = s.clocks ∧
    (State.admitRequest s q).2.thermal = s.thermal ∧
    (State.admitRequest s q).2.control = s.control ∧
    (State.admitRequest s q).2.boot = s.boot ∧
    (State.admitRequest s q).2.dbg = s.dbg ∧
    (State.admitRequest s q).2.freeCount = s.freeCount := by
  unfold State.admitRequest
  try dsimp only
  (repeat' split) <;> simp_all -implicitDefEqProofs [↓prod_flip3, prod_flip]

@[simp] theorem State.setPortState_kept (s : State) (p : Nat) (st : PortState) :
    (State.setPortState s p st).pending = s.pending ∧
    (State.setPortState s p st).fuses = s.fuses ∧
    (State.setPortState s p st).regs = s.regs ∧
    (State.setPortState s p st).shadows = s.shadows ∧
    (State.setPortState s p st).blobs = s.blobs ∧
    (State.setPortState s p st).blobShadows = s.blobShadows ∧
    (State.setPortState s p st).hubNeeds = s.hubNeeds ∧
    (State.setPortState s p st).commits = s.commits ∧
    (State.setPortState s p st).seeds = s.seeds ∧
    (State.setPortState s p st).load = s.load ∧
    (State.setPortState s p st).clusters = s.clusters ∧
    (State.setPortState s p st).ctxs = s.ctxs ∧
    (State.setPortState s p st).memory = s.memory ∧
    (State.setPortState s p st).rig = s.rig ∧
    (State.setPortState s p st).coll = s.coll ∧
    (State.setPortState s p st).photonics = s.photonics ∧
    (State.setPortState s p st).messages = s.messages ∧
    (State.setPortState s p st).package = s.package ∧
    (State.setPortState s p st).clocks = s.clocks ∧
    (State.setPortState s p st).thermal = s.thermal ∧
    (State.setPortState s p st).control = s.control ∧
    (State.setPortState s p st).boot = s.boot ∧
    (State.setPortState s p st).dbg = s.dbg ∧
    (State.setPortState s p st).freeCount = s.freeCount := by
  unfold State.setPortState
  try dsimp only
  (repeat' split) <;> simp_all -implicitDefEqProofs [↓prod_flip3, prod_flip]

@[simp] theorem State.startRetrain_kept (s : State) (p : Nat) :
    (State.startRetrain s p).pending = s.pending ∧
    (State.startRetrain s p).fuses = s.fuses ∧
    (State.startRetrain s p).regs = s.regs ∧
    (State.startRetrain s p).shadows = s.shadows ∧
    (State.startRetrain s p).blobs = s.blobs ∧
    (State.startRetrain s p).blobShadows = s.blobShadows ∧
    (State.startRetrain s p).hubNeeds = s.hubNeeds ∧
    (State.startRetrain s p).commits = s.commits ∧
    (State.startRetrain s p).seeds = s.seeds ∧
    (State.startRetrain s p).load = s.load ∧
    (State.startRetrain s p).clusters = s.clusters ∧
    (State.startRetrain s p).ctxs = s.ctxs ∧
    (State.startRetrain s p).memory = s.memory ∧
    (State.startRetrain s p).rig = s.rig ∧
    (State.startRetrain s p).coll = s.coll ∧
    (State.startRetrain s p).photonics = s.photonics ∧
    (State.startRetrain s p).messages = s.messages ∧
    (State.startRetrain s p).package = s.package ∧
    (State.startRetrain s p).clocks = s.clocks ∧
    (State.startRetrain s p).thermal = s.thermal ∧
    (State.startRetrain s p).control = s.control ∧
    (State.startRetrain s p).boot = s.boot ∧
    (State.startRetrain s p).dbg = s.dbg ∧
    (State.startRetrain s p).freeCount = s.freeCount := by
  unfold State.startRetrain
  try dsimp only
  (repeat' split) <;> simp_all -implicitDefEqProofs [↓prod_flip3, prod_flip]

@[simp] theorem State.noteWindow_kept (s : State) (x : Nat) (addr : Nat) :
    (State.noteWindow s x addr).pending = s.pending ∧
    (State.noteWindow s x addr).fuses = s.fuses ∧
    (State.noteWindow s x addr).shadows = s.shadows ∧
    (State.noteWindow s x addr).blobs = s.blobs ∧
    (State.noteWindow s x addr).blobShadows = s.blobShadows ∧
    (State.noteWindow s x addr).hubNeeds = s.hubNeeds ∧
    (State.noteWindow s x addr).commits = s.commits ∧
    (State.noteWindow s x addr).seeds = s.seeds ∧
    (State.noteWindow s x addr).load = s.load ∧
    (State.noteWindow s x addr).clusters = s.clusters ∧
    (State.noteWindow s x addr).ctxs = s.ctxs ∧
    (State.noteWindow s x addr).memory = s.memory ∧
    (State.noteWindow s x addr).rig = s.rig ∧
    (State.noteWindow s x addr).coll = s.coll ∧
    (State.noteWindow s x addr).photonics = s.photonics ∧
    (State.noteWindow s x addr).domain = s.domain ∧
    (State.noteWindow s x addr).messages = s.messages ∧
    (State.noteWindow s x addr).package = s.package ∧
    (State.noteWindow s x addr).clocks = s.clocks ∧
    (State.noteWindow s x addr).thermal = s.thermal ∧
    (State.noteWindow s x addr).boot = s.boot ∧
    (State.noteWindow s x addr).freeCount = s.freeCount := by
  unfold State.noteWindow
  try dsimp only
  (repeat' split) <;> simp_all -implicitDefEqProofs [↓prod_flip3, prod_flip]

@[simp] theorem State.dropOutstanding_kept (s : State) (h : Nat) :
    (State.dropOutstanding s h).pending = s.pending ∧
    (State.dropOutstanding s h).fuses = s.fuses ∧
    (State.dropOutstanding s h).regs = s.regs ∧
    (State.dropOutstanding s h).shadows = s.shadows ∧
    (State.dropOutstanding s h).blobs = s.blobs ∧
    (State.dropOutstanding s h).blobShadows = s.blobShadows ∧
    (State.dropOutstanding s h).hubNeeds = s.hubNeeds ∧
    (State.dropOutstanding s h).commits = s.commits ∧
    (State.dropOutstanding s h).seeds = s.seeds ∧
    (State.dropOutstanding s h).load = s.load ∧
    (State.dropOutstanding s h).clusters = s.clusters ∧
    (State.dropOutstanding s h).ctxs = s.ctxs ∧
    (State.dropOutstanding s h).memory = s.memory ∧
    (State.dropOutstanding s h).rig = s.rig ∧
    (State.dropOutstanding s h).coll = s.coll ∧
    (State.dropOutstanding s h).photonics = s.photonics ∧
    (State.dropOutstanding s h).messages = s.messages ∧
    (State.dropOutstanding s h).package = s.package ∧
    (State.dropOutstanding s h).clocks = s.clocks ∧
    (State.dropOutstanding s h).thermal = s.thermal ∧
    (State.dropOutstanding s h).control = s.control ∧
    (State.dropOutstanding s h).boot = s.boot ∧
    (State.dropOutstanding s h).dbg = s.dbg ∧
    (State.dropOutstanding s h).freeCount = s.freeCount := by
  unfold State.dropOutstanding
  try dsimp only
  (repeat' split) <;> simp_all -implicitDefEqProofs [↓prod_flip3, prod_flip]

@[simp] theorem State.sendOutstanding_kept (s : State) (o : Outstanding) :
    (State.sendOutstanding s o).pending = s.pending ∧
    (State.sendOutstanding s o).fuses = s.fuses ∧
    (State.sendOutstanding s o).shadows = s.shadows ∧
    (State.sendOutstanding s o).blobs = s.blobs ∧
    (State.sendOutstanding s o).blobShadows = s.blobShadows ∧
    (State.sendOutstanding s o).hubNeeds = s.hubNeeds ∧
    (State.sendOutstanding s o).commits = s.commits ∧
    (State.sendOutstanding s o).seeds = s.seeds ∧
    (State.sendOutstanding s o).load = s.load ∧
    (State.sendOutstanding s o).clusters = s.clusters ∧
    (State.sendOutstanding s o).ctxs = s.ctxs ∧
    (State.sendOutstanding s o).memory = s.memory ∧
    (State.sendOutstanding s o).rig = s.rig ∧
    (State.sendOutstanding s o).coll = s.coll ∧
    (State.sendOutstanding s o).photonics = s.photonics ∧
    (State.sendOutstanding s o).messages = s.messages ∧
    (State.sendOutstanding s o).package = s.package ∧
    (State.sendOutstanding s o).clocks = s.clocks ∧
    (State.sendOutstanding s o).thermal = s.thermal ∧
    (State.sendOutstanding s o).boot = s.boot ∧
    (State.sendOutstanding s o).dbg = s.dbg ∧
    (State.sendOutstanding s o).freeCount = s.freeCount := by
  unfold State.sendOutstanding
  try dsimp only
  (repeat' split) <;> simp_all -implicitDefEqProofs [↓prod_flip3, prod_flip]

@[simp] theorem State.sendWaiting_kept (s : State) (p : Nat) :
    (State.sendWaiting s p).pending = s.pending ∧
    (State.sendWaiting s p).fuses = s.fuses ∧
    (State.sendWaiting s p).shadows = s.shadows ∧
    (State.sendWaiting s p).blobs = s.blobs ∧
    (State.sendWaiting s p).blobShadows = s.blobShadows ∧
    (State.sendWaiting s p).hubNeeds = s.hubNeeds ∧
    (State.sendWaiting s p).commits = s.commits ∧
    (State.sendWaiting s p).seeds = s.seeds ∧
    (State.sendWaiting s p).load = s.load ∧
    (State.sendWaiting s p).clusters = s.clusters ∧
    (State.sendWaiting s p).ctxs = s.ctxs ∧
    (State.sendWaiting s p).memory = s.memory ∧
    (State.sendWaiting s p).rig = s.rig ∧
    (State.sendWaiting s p).coll = s.coll ∧
    (State.sendWaiting s p).photonics = s.photonics ∧
    (State.sendWaiting s p).messages = s.messages ∧
    (State.sendWaiting s p).package = s.package ∧
    (State.sendWaiting s p).clocks = s.clocks ∧
    (State.sendWaiting s p).thermal = s.thermal ∧
    (State.sendWaiting s p).boot = s.boot ∧
    (State.sendWaiting s p).dbg = s.dbg ∧
    (State.sendWaiting s p).freeCount = s.freeCount := by
  unfold State.sendWaiting
  try dsimp only
  (repeat' split) <;> simp_all -implicitDefEqProofs [↓prod_flip3, prod_flip]

@[simp] theorem State.noteIssue_kept (s : State) (p : Part) (o : Outstanding) :
    (State.noteIssue s p o).pending = s.pending ∧
    (State.noteIssue s p o).fuses = s.fuses ∧
    (State.noteIssue s p o).regs = s.regs ∧
    (State.noteIssue s p o).shadows = s.shadows ∧
    (State.noteIssue s p o).blobs = s.blobs ∧
    (State.noteIssue s p o).blobShadows = s.blobShadows ∧
    (State.noteIssue s p o).hubNeeds = s.hubNeeds ∧
    (State.noteIssue s p o).commits = s.commits ∧
    (State.noteIssue s p o).seeds = s.seeds ∧
    (State.noteIssue s p o).load = s.load ∧
    (State.noteIssue s p o).clusters = s.clusters ∧
    (State.noteIssue s p o).ctxs = s.ctxs ∧
    (State.noteIssue s p o).memory = s.memory ∧
    (State.noteIssue s p o).rig = s.rig ∧
    (State.noteIssue s p o).coll = s.coll ∧
    (State.noteIssue s p o).photonics = s.photonics ∧
    (State.noteIssue s p o).domain = s.domain ∧
    (State.noteIssue s p o).messages = s.messages ∧
    (State.noteIssue s p o).package = s.package ∧
    (State.noteIssue s p o).clocks = s.clocks ∧
    (State.noteIssue s p o).thermal = s.thermal ∧
    (State.noteIssue s p o).control = s.control ∧
    (State.noteIssue s p o).boot = s.boot ∧
    (State.noteIssue s p o).freeCount = s.freeCount := by
  unfold State.noteIssue
  try dsimp only
  (repeat' split) <;> simp_all -implicitDefEqProofs [↓prod_flip3, prod_flip]

@[simp] theorem State.closeLoads_kept (s : State) (device : Nat) (q : Req) :
    (State.closeLoads s device q).pending = s.pending ∧
    (State.closeLoads s device q).fuses = s.fuses ∧
    (State.closeLoads s device q).regs = s.regs ∧
    (State.closeLoads s device q).shadows = s.shadows ∧
    (State.closeLoads s device q).blobs = s.blobs ∧
    (State.closeLoads s device q).blobShadows = s.blobShadows ∧
    (State.closeLoads s device q).hubNeeds = s.hubNeeds ∧
    (State.closeLoads s device q).commits = s.commits ∧
    (State.closeLoads s device q).seeds = s.seeds ∧
    (State.closeLoads s device q).load = s.load ∧
    (State.closeLoads s device q).clusters = s.clusters ∧
    (State.closeLoads s device q).ctxs = s.ctxs ∧
    (State.closeLoads s device q).memory = s.memory ∧
    (State.closeLoads s device q).rig = s.rig ∧
    (State.closeLoads s device q).coll = s.coll ∧
    (State.closeLoads s device q).photonics = s.photonics ∧
    (State.closeLoads s device q).messages = s.messages ∧
    (State.closeLoads s device q).package = s.package ∧
    (State.closeLoads s device q).clocks = s.clocks ∧
    (State.closeLoads s device q).thermal = s.thermal ∧
    (State.closeLoads s device q).control = s.control ∧
    (State.closeLoads s device q).boot = s.boot ∧
    (State.closeLoads s device q).dbg = s.dbg ∧
    (State.closeLoads s device q).freeCount = s.freeCount := by
  unfold State.closeLoads
  try dsimp only
  (repeat' split) <;> simp_all -implicitDefEqProofs [↓prod_flip3, prod_flip]

@[simp] theorem State.joinPart_kept (s : State) (h : Nat) (p : Part) :
    (State.joinPart s h p).pending = s.pending ∧
    (State.joinPart s h p).fuses = s.fuses ∧
    (State.joinPart s h p).regs = s.regs ∧
    (State.joinPart s h p).shadows = s.shadows ∧
    (State.joinPart s h p).blobs = s.blobs ∧
    (State.joinPart s h p).blobShadows = s.blobShadows ∧
    (State.joinPart s h p).hubNeeds = s.hubNeeds ∧
    (State.joinPart s h p).commits = s.commits ∧
    (State.joinPart s h p).seeds = s.seeds ∧
    (State.joinPart s h p).load = s.load ∧
    (State.joinPart s h p).clusters = s.clusters ∧
    (State.joinPart s h p).ctxs = s.ctxs ∧
    (State.joinPart s h p).memory = s.memory ∧
    (State.joinPart s h p).rig = s.rig ∧
    (State.joinPart s h p).coll = s.coll ∧
    (State.joinPart s h p).photonics = s.photonics ∧
    (State.joinPart s h p).messages = s.messages ∧
    (State.joinPart s h p).package = s.package ∧
    (State.joinPart s h p).clocks = s.clocks ∧
    (State.joinPart s h p).thermal = s.thermal ∧
    (State.joinPart s h p).control = s.control ∧
    (State.joinPart s h p).boot = s.boot ∧
    (State.joinPart s h p).dbg = s.dbg ∧
    (State.joinPart s h p).freeCount = s.freeCount := by
  unfold State.joinPart
  try dsimp only
  (repeat' split) <;> simp_all -implicitDefEqProofs [↓prod_flip3, prod_flip]

@[simp] theorem State.issueRemote_kept (s : State) (port : Nat) (t : Translated) (q : Req) (part : Part) :
    (State.issueRemote s port t q part).2.pending = s.pending ∧
    (State.issueRemote s port t q part).2.fuses = s.fuses ∧
    (State.issueRemote s port t q part).2.shadows = s.shadows ∧
    (State.issueRemote s port t q part).2.blobs = s.blobs ∧
    (State.issueRemote s port t q part).2.blobShadows = s.blobShadows ∧
    (State.issueRemote s port t q part).2.hubNeeds = s.hubNeeds ∧
    (State.issueRemote s port t q part).2.commits = s.commits ∧
    (State.issueRemote s port t q part).2.seeds = s.seeds ∧
    (State.issueRemote s port t q part).2.load = s.load ∧
    (State.issueRemote s port t q part).2.clusters = s.clusters ∧
    (State.issueRemote s port t q part).2.memory = s.memory ∧
    (State.issueRemote s port t q part).2.rig = s.rig ∧
    (State.issueRemote s port t q part).2.coll = s.coll ∧
    (State.issueRemote s port t q part).2.photonics = s.photonics ∧
    (State.issueRemote s port t q part).2.messages = s.messages ∧
    (State.issueRemote s port t q part).2.package = s.package ∧
    (State.issueRemote s port t q part).2.clocks = s.clocks ∧
    (State.issueRemote s port t q part).2.thermal = s.thermal ∧
    (State.issueRemote s port t q part).2.boot = s.boot ∧
    (State.issueRemote s port t q part).2.freeCount = s.freeCount := by
  unfold State.issueRemote
  try dsimp only
  (repeat' split) <;> simp_all -implicitDefEqProofs [↓prod_flip3, prod_flip]

@[simp] theorem State.keepHere_kept (s : State) (t : Translated) (q : Req) (part : Part) :
    (State.keepHere s t q part).pending = s.pending ∧
    (State.keepHere s t q part).fuses = s.fuses ∧
    (State.keepHere s t q part).regs = s.regs ∧
    (State.keepHere s t q part).shadows = s.shadows ∧
    (State.keepHere s t q part).blobs = s.blobs ∧
    (State.keepHere s t q part).blobShadows = s.blobShadows ∧
    (State.keepHere s t q part).hubNeeds = s.hubNeeds ∧
    (State.keepHere s t q part).commits = s.commits ∧
    (State.keepHere s t q part).seeds = s.seeds ∧
    (State.keepHere s t q part).load = s.load ∧
    (State.keepHere s t q part).clusters = s.clusters ∧
    (State.keepHere s t q part).ctxs = s.ctxs ∧
    (State.keepHere s t q part).memory = s.memory ∧
    (State.keepHere s t q part).rig = s.rig ∧
    (State.keepHere s t q part).coll = s.coll ∧
    (State.keepHere s t q part).photonics = s.photonics ∧
    (State.keepHere s t q part).messages = s.messages ∧
    (State.keepHere s t q part).package = s.package ∧
    (State.keepHere s t q part).clocks = s.clocks ∧
    (State.keepHere s t q part).thermal = s.thermal ∧
    (State.keepHere s t q part).control = s.control ∧
    (State.keepHere s t q part).boot = s.boot ∧
    (State.keepHere s t q part).dbg = s.dbg ∧
    (State.keepHere s t q part).freeCount = s.freeCount := by
  unfold State.keepHere
  try dsimp only
  (repeat' split) <;> simp_all -implicitDefEqProofs [↓prod_flip3, prod_flip]

@[simp] theorem State.presentKept_kept (s : State) (h : Nat) :
    (State.presentKept s h).pending = s.pending ∧
    (State.presentKept s h).fuses = s.fuses ∧
    (State.presentKept s h).shadows = s.shadows ∧
    (State.presentKept s h).blobs = s.blobs ∧
    (State.presentKept s h).blobShadows = s.blobShadows ∧
    (State.presentKept s h).hubNeeds = s.hubNeeds ∧
    (State.presentKept s h).commits = s.commits ∧
    (State.presentKept s h).seeds = s.seeds ∧
    (State.presentKept s h).load = s.load ∧
    (State.presentKept s h).clusters = s.clusters ∧
    (State.presentKept s h).ctxs = s.ctxs ∧
    (State.presentKept s h).memory = s.memory ∧
    (State.presentKept s h).rig = s.rig ∧
    (State.presentKept s h).coll = s.coll ∧
    (State.presentKept s h).photonics = s.photonics ∧
    (State.presentKept s h).messages = s.messages ∧
    (State.presentKept s h).package = s.package ∧
    (State.presentKept s h).clocks = s.clocks ∧
    (State.presentKept s h).thermal = s.thermal ∧
    (State.presentKept s h).control = s.control ∧
    (State.presentKept s h).boot = s.boot ∧
    (State.presentKept s h).dbg = s.dbg ∧
    (State.presentKept s h).freeCount = s.freeCount := by
  unfold State.presentKept
  try dsimp only
  (repeat' split) <;> simp_all -implicitDefEqProofs [↓prod_flip3, prod_flip]

@[simp] theorem State.presentOwn_kept (s : State) (line : Nat) :
    (State.presentOwn s line).pending = s.pending ∧
    (State.presentOwn s line).fuses = s.fuses ∧
    (State.presentOwn s line).shadows = s.shadows ∧
    (State.presentOwn s line).blobs = s.blobs ∧
    (State.presentOwn s line).blobShadows = s.blobShadows ∧
    (State.presentOwn s line).hubNeeds = s.hubNeeds ∧
    (State.presentOwn s line).commits = s.commits ∧
    (State.presentOwn s line).seeds = s.seeds ∧
    (State.presentOwn s line).load = s.load ∧
    (State.presentOwn s line).clusters = s.clusters ∧
    (State.presentOwn s line).ctxs = s.ctxs ∧
    (State.presentOwn s line).memory = s.memory ∧
    (State.presentOwn s line).rig = s.rig ∧
    (State.presentOwn s line).coll = s.coll ∧
    (State.presentOwn s line).photonics = s.photonics ∧
    (State.presentOwn s line).messages = s.messages ∧
    (State.presentOwn s line).package = s.package ∧
    (State.presentOwn s line).clocks = s.clocks ∧
    (State.presentOwn s line).thermal = s.thermal ∧
    (State.presentOwn s line).control = s.control ∧
    (State.presentOwn s line).boot = s.boot ∧
    (State.presentOwn s line).dbg = s.dbg ∧
    (State.presentOwn s line).freeCount = s.freeCount := by
  unfold State.presentOwn
  try dsimp only
  (repeat' split) <;> simp_all -implicitDefEqProofs [↓prod_flip3, prod_flip]

@[simp] theorem State.issueHere_kept (s : State) (t : Translated) (q : Req) (part : Part) (who : Requester) :
    (State.issueHere s t q part who).2.pending = s.pending ∧
    (State.issueHere s t q part who).2.fuses = s.fuses ∧
    (State.issueHere s t q part who).2.shadows = s.shadows ∧
    (State.issueHere s t q part who).2.blobShadows = s.blobShadows ∧
    (State.issueHere s t q part who).2.hubNeeds = s.hubNeeds ∧
    (State.issueHere s t q part who).2.commits = s.commits ∧
    (State.issueHere s t q part who).2.seeds = s.seeds ∧
    (State.issueHere s t q part who).2.load = s.load ∧
    (State.issueHere s t q part who).2.coll = s.coll ∧
    (State.issueHere s t q part who).2.photonics = s.photonics ∧
    (State.issueHere s t q part who).2.messages = s.messages ∧
    (State.issueHere s t q part who).2.package = s.package ∧
    (State.issueHere s t q part who).2.thermal = s.thermal ∧
    (State.issueHere s t q part who).2.boot = s.boot ∧
    (State.issueHere s t q part who).2.freeCount = s.freeCount := by
  unfold State.issueHere
  try dsimp only
  (repeat' split) <;> simp_all -implicitDefEqProofs [↓prod_flip3, prod_flip]

@[simp] theorem State.issueRequest_kept (s : State) (q : Req) (part : Part) (who : Requester) :
    (State.issueRequest s q part who).2.pending = s.pending ∧
    (State.issueRequest s q part who).2.fuses = s.fuses ∧
    (State.issueRequest s q part who).2.shadows = s.shadows ∧
    (State.issueRequest s q part who).2.blobShadows = s.blobShadows ∧
    (State.issueRequest s q part who).2.hubNeeds = s.hubNeeds ∧
    (State.issueRequest s q part who).2.commits = s.commits ∧
    (State.issueRequest s q part who).2.seeds = s.seeds ∧
    (State.issueRequest s q part who).2.load = s.load ∧
    (State.issueRequest s q part who).2.coll = s.coll ∧
    (State.issueRequest s q part who).2.photonics = s.photonics ∧
    (State.issueRequest s q part who).2.messages = s.messages ∧
    (State.issueRequest s q part who).2.package = s.package ∧
    (State.issueRequest s q part who).2.thermal = s.thermal ∧
    (State.issueRequest s q part who).2.boot = s.boot ∧
    (State.issueRequest s q part who).2.freeCount = s.freeCount := by
  unfold State.issueRequest
  try dsimp only
  (repeat' split) <;> simp_all -implicitDefEqProofs [↓prod_flip3, prod_flip]

@[simp] theorem State.countMeshTo_kept (s : State) (c : Nat) (offset : Nat) :
    (State.countMeshTo s c offset).pending = s.pending ∧
    (State.countMeshTo s c offset).fuses = s.fuses ∧
    (State.countMeshTo s c offset).regs = s.regs ∧
    (State.countMeshTo s c offset).shadows = s.shadows ∧
    (State.countMeshTo s c offset).blobs = s.blobs ∧
    (State.countMeshTo s c offset).blobShadows = s.blobShadows ∧
    (State.countMeshTo s c offset).hubNeeds = s.hubNeeds ∧
    (State.countMeshTo s c offset).commits = s.commits ∧
    (State.countMeshTo s c offset).seeds = s.seeds ∧
    (State.countMeshTo s c offset).load = s.load ∧
    (State.countMeshTo s c offset).ctxs = s.ctxs ∧
    (State.countMeshTo s c offset).memory = s.memory ∧
    (State.countMeshTo s c offset).rig = s.rig ∧
    (State.countMeshTo s c offset).coll = s.coll ∧
    (State.countMeshTo s c offset).photonics = s.photonics ∧
    (State.countMeshTo s c offset).domain = s.domain ∧
    (State.countMeshTo s c offset).messages = s.messages ∧
    (State.countMeshTo s c offset).package = s.package ∧
    (State.countMeshTo s c offset).clocks = s.clocks ∧
    (State.countMeshTo s c offset).thermal = s.thermal ∧
    (State.countMeshTo s c offset).control = s.control ∧
    (State.countMeshTo s c offset).boot = s.boot ∧
    (State.countMeshTo s c offset).dbg = s.dbg ∧
    (State.countMeshTo s c offset).freeCount = s.freeCount := by
  unfold State.countMeshTo
  try dsimp only
  (repeat' split) <;> simp_all -implicitDefEqProofs [↓prod_flip3, prod_flip]

@[simp] theorem State.increment_kept (s : State) (x : Nat) (c : Nat) (engine : Nat) (ref : BitVec 24) (amount : Nat) :
    (State.increment s x c engine ref amount).pending = s.pending ∧
    (State.increment s x c engine ref amount).fuses = s.fuses ∧
    (State.increment s x c engine ref amount).shadows = s.shadows ∧
    (State.increment s x c engine ref amount).blobShadows = s.blobShadows ∧
    (State.increment s x c engine ref amount).hubNeeds = s.hubNeeds ∧
    (State.increment s x c engine ref amount).seeds = s.seeds ∧
    (State.increment s x c engine ref amount).load = s.load ∧
    (State.increment s x c engine ref amount).photonics = s.photonics ∧
    (State.increment s x c engine ref amount).messages = s.messages ∧
    (State.increment s x c engine ref amount).package = s.package ∧
    (State.increment s x c engine ref amount).thermal = s.thermal ∧
    (State.increment s x c engine ref amount).boot = s.boot ∧
    (State.increment s x c engine ref amount).freeCount = s.freeCount := by
  generalize ht : State.increment s x c engine ref amount = t
  unfold State.increment at ht
  try dsimp only at ht
  (repeat' split at ht) <;> (subst ht; simp_all -implicitDefEqProofs [↓prod_flip3, prod_flip])

end Sys2Proof.Machine
end

