-- ==== Sys2Proof/Laws/FramesCluster.lean ====
section
/-! SUPPORT. What each operation on State leaves unchanged (engines, timetables, command rings, messages and replies): for every operation that answers a state, the fields that it
never writes, as equations for simp. -/

namespace Sys2Proof.Machine

set_option linter.unusedSimpArgs false
set_option linter.unnecessarySeqFocus false
set_option linter.unusedTactic false
set_option linter.unreachableTactic false
set_option maxRecDepth 4000

@[simp] theorem State.noteConversions_kept (s : State) (c : Nat) (e : Engine) (word : OpWord) (cs : List (Nat × Conversion)) :
    (State.noteConversions s c e word cs).pending = s.pending ∧
    (State.noteConversions s c e word cs).fuses = s.fuses ∧
    (State.noteConversions s c e word cs).regs = s.regs ∧
    (State.noteConversions s c e word cs).shadows = s.shadows ∧
    (State.noteConversions s c e word cs).blobs = s.blobs ∧
    (State.noteConversions s c e word cs).blobShadows = s.blobShadows ∧
    (State.noteConversions s c e word cs).hubNeeds = s.hubNeeds ∧
    (State.noteConversions s c e word cs).commits = s.commits ∧
    (State.noteConversions s c e word cs).seeds = s.seeds ∧
    (State.noteConversions s c e word cs).load = s.load ∧
    (State.noteConversions s c e word cs).ctxs = s.ctxs ∧
    (State.noteConversions s c e word cs).memory = s.memory ∧
    (State.noteConversions s c e word cs).rig = s.rig ∧
    (State.noteConversions s c e word cs).coll = s.coll ∧
    (State.noteConversions s c e word cs).photonics = s.photonics ∧
    (State.noteConversions s c e word cs).domain = s.domain ∧
    (State.noteConversions s c e word cs).messages = s.messages ∧
    (State.noteConversions s c e word cs).package = s.package ∧
    (State.noteConversions s c e word cs).clocks = s.clocks ∧
    (State.noteConversions s c e word cs).thermal = s.thermal ∧
    (State.noteConversions s c e word cs).control = s.control ∧
    (State.noteConversions s c e word cs).boot = s.boot ∧
    (State.noteConversions s c e word cs).freeCount = s.freeCount := by
  unfold State.noteConversions
  try dsimp only
  (repeat' split) <;> simp_all -implicitDefEqProofs [↓prod_flip3, prod_flip]

@[simp] theorem State.failOp_kept (s : State) (x : Nat) (c : Nat) (e : Engine) (n : Nat) (code : Nat) (extra : Nat) :
    (State.failOp s x c e n code extra).pending = s.pending ∧
    (State.failOp s x c e n code extra).fuses = s.fuses ∧
    (State.failOp s x c e n code extra).shadows = s.shadows ∧
    (State.failOp s x c e n code extra).blobs = s.blobs ∧
    (State.failOp s x c e n code extra).blobShadows = s.blobShadows ∧
    (State.failOp s x c e n code extra).hubNeeds = s.hubNeeds ∧
    (State.failOp s x c e n code extra).seeds = s.seeds ∧
    (State.failOp s x c e n code extra).load = s.load ∧
    (State.failOp s x c e n code extra).memory = s.memory ∧
    (State.failOp s x c e n code extra).rig = s.rig ∧
    (State.failOp s x c e n code extra).photonics = s.photonics ∧
    (State.failOp s x c e n code extra).domain = s.domain ∧
    (State.failOp s x c e n code extra).messages = s.messages ∧
    (State.failOp s x c e n code extra).package = s.package ∧
    (State.failOp s x c e n code extra).clocks = s.clocks ∧
    (State.failOp s x c e n code extra).thermal = s.thermal ∧
    (State.failOp s x c e n code extra).boot = s.boot ∧
    (State.failOp s x c e n code extra).freeCount = s.freeCount := by
  unfold State.failOp
  try dsimp only
  (repeat' split) <;> simp_all -implicitDefEqProofs [↓prod_flip3, prod_flip]

@[simp] theorem State.engineFault_kept (s : State) (x : Nat) (c : Nat) (e : Engine) (o : QueuedOp) (code : Nat) (extra : Nat) :
    (State.engineFault s x c e o code extra).pending = s.pending ∧
    (State.engineFault s x c e o code extra).fuses = s.fuses ∧
    (State.engineFault s x c e o code extra).shadows = s.shadows ∧
    (State.engineFault s x c e o code extra).blobs = s.blobs ∧
    (State.engineFault s x c e o code extra).blobShadows = s.blobShadows ∧
    (State.engineFault s x c e o code extra).hubNeeds = s.hubNeeds ∧
    (State.engineFault s x c e o code extra).seeds = s.seeds ∧
    (State.engineFault s x c e o code extra).load = s.load ∧
    (State.engineFault s x c e o code extra).memory = s.memory ∧
    (State.engineFault s x c e o code extra).rig = s.rig ∧
    (State.engineFault s x c e o code extra).photonics = s.photonics ∧
    (State.engineFault s x c e o code extra).domain = s.domain ∧
    (State.engineFault s x c e o code extra).messages = s.messages ∧
    (State.engineFault s x c e o code extra).package = s.package ∧
    (State.engineFault s x c e o code extra).clocks = s.clocks ∧
    (State.engineFault s x c e o code extra).thermal = s.thermal ∧
    (State.engineFault s x c e o code extra).boot = s.boot ∧
    (State.engineFault s x c e o code extra).freeCount = s.freeCount := by
  unfold State.engineFault
  try dsimp only
  (repeat' split) <;> simp_all -implicitDefEqProofs [↓prod_flip3, prod_flip]

@[simp] theorem State.fetch_kept (s : State) (c : Nat) (a : Nat) (n : Nat) (r : Requester) :
    (State.fetch s c a n r).2.pending = s.pending ∧
    (State.fetch s c a n r).2.fuses = s.fuses ∧
    (State.fetch s c a n r).2.shadows = s.shadows ∧
    (State.fetch s c a n r).2.blobShadows = s.blobShadows ∧
    (State.fetch s c a n r).2.hubNeeds = s.hubNeeds ∧
    (State.fetch s c a n r).2.commits = s.commits ∧
    (State.fetch s c a n r).2.seeds = s.seeds ∧
    (State.fetch s c a n r).2.load = s.load ∧
    (State.fetch s c a n r).2.ctxs = s.ctxs ∧
    (State.fetch s c a n r).2.rig = s.rig ∧
    (State.fetch s c a n r).2.coll = s.coll ∧
    (State.fetch s c a n r).2.photonics = s.photonics ∧
    (State.fetch s c a n r).2.domain = s.domain ∧
    (State.fetch s c a n r).2.messages = s.messages ∧
    (State.fetch s c a n r).2.package = s.package ∧
    (State.fetch s c a n r).2.clocks = s.clocks ∧
    (State.fetch s c a n r).2.thermal = s.thermal ∧
    (State.fetch s c a n r).2.boot = s.boot ∧
    (State.fetch s c a n r).2.freeCount = s.freeCount := by
  unfold State.fetch
  try dsimp only
  (repeat' split) <;> simp_all -implicitDefEqProofs [↓prod_flip3, prod_flip]

@[simp] theorem State.stepData_kept (s : State) (c : Nat) (f : MmaFields) (k : Nat) (r : Requester) :
    (State.stepData s c f k r).2.pending = s.pending ∧
    (State.stepData s c f k r).2.fuses = s.fuses ∧
    (State.stepData s c f k r).2.shadows = s.shadows ∧
    (State.stepData s c f k r).2.blobShadows = s.blobShadows ∧
    (State.stepData s c f k r).2.hubNeeds = s.hubNeeds ∧
    (State.stepData s c f k r).2.commits = s.commits ∧
    (State.stepData s c f k r).2.seeds = s.seeds ∧
    (State.stepData s c f k r).2.load = s.load ∧
    (State.stepData s c f k r).2.ctxs = s.ctxs ∧
    (State.stepData s c f k r).2.rig = s.rig ∧
    (State.stepData s c f k r).2.coll = s.coll ∧
    (State.stepData s c f k r).2.photonics = s.photonics ∧
    (State.stepData s c f k r).2.domain = s.domain ∧
    (State.stepData s c f k r).2.messages = s.messages ∧
    (State.stepData s c f k r).2.package = s.package ∧
    (State.stepData s c f k r).2.clocks = s.clocks ∧
    (State.stepData s c f k r).2.thermal = s.thermal ∧
    (State.stepData s c f k r).2.boot = s.boot ∧
    (State.stepData s c f k r).2.freeCount = s.freeCount := by
  unfold State.stepData
  try dsimp only
  (repeat' split) <;> simp_all -implicitDefEqProofs [↓prod_flip3, prod_flip]

@[simp] theorem State.streamRows_kept (s : State) (c : Nat) (f : MmaFields) (r : Requester) (k : Nat) (lo : Nat) (hi : Nat) :
    (State.streamRows s c f r k lo hi).2.pending = s.pending ∧
    (State.streamRows s c f r k lo hi).2.fuses = s.fuses ∧
    (State.streamRows s c f r k lo hi).2.shadows = s.shadows ∧
    (State.streamRows s c f r k lo hi).2.blobShadows = s.blobShadows ∧
    (State.streamRows s c f r k lo hi).2.hubNeeds = s.hubNeeds ∧
    (State.streamRows s c f r k lo hi).2.commits = s.commits ∧
    (State.streamRows s c f r k lo hi).2.seeds = s.seeds ∧
    (State.streamRows s c f r k lo hi).2.load = s.load ∧
    (State.streamRows s c f r k lo hi).2.ctxs = s.ctxs ∧
    (State.streamRows s c f r k lo hi).2.rig = s.rig ∧
    (State.streamRows s c f r k lo hi).2.coll = s.coll ∧
    (State.streamRows s c f r k lo hi).2.photonics = s.photonics ∧
    (State.streamRows s c f r k lo hi).2.domain = s.domain ∧
    (State.streamRows s c f r k lo hi).2.messages = s.messages ∧
    (State.streamRows s c f r k lo hi).2.package = s.package ∧
    (State.streamRows s c f r k lo hi).2.clocks = s.clocks ∧
    (State.streamRows s c f r k lo hi).2.thermal = s.thermal ∧
    (State.streamRows s c f r k lo hi).2.boot = s.boot ∧
    (State.streamRows s c f r k lo hi).2.freeCount = s.freeCount := by
  unfold State.streamRows
  try dsimp only
  (repeat' split) <;> simp_all -implicitDefEqProofs [↓prod_flip3, prod_flip]

@[simp] theorem State.runSteps_kept (s : State) (c : Nat) (f : MmaFields) (r : Requester) (x4 : Nat) (x5 : Nat) (x6 : Nat) :
    (State.runSteps s c f r x4 x5 x6).2.2.pending = s.pending ∧
    (State.runSteps s c f r x4 x5 x6).2.2.fuses = s.fuses ∧
    (State.runSteps s c f r x4 x5 x6).2.2.shadows = s.shadows ∧
    (State.runSteps s c f r x4 x5 x6).2.2.blobShadows = s.blobShadows ∧
    (State.runSteps s c f r x4 x5 x6).2.2.hubNeeds = s.hubNeeds ∧
    (State.runSteps s c f r x4 x5 x6).2.2.commits = s.commits ∧
    (State.runSteps s c f r x4 x5 x6).2.2.seeds = s.seeds ∧
    (State.runSteps s c f r x4 x5 x6).2.2.load = s.load ∧
    (State.runSteps s c f r x4 x5 x6).2.2.ctxs = s.ctxs ∧
    (State.runSteps s c f r x4 x5 x6).2.2.rig = s.rig ∧
    (State.runSteps s c f r x4 x5 x6).2.2.coll = s.coll ∧
    (State.runSteps s c f r x4 x5 x6).2.2.photonics = s.photonics ∧
    (State.runSteps s c f r x4 x5 x6).2.2.domain = s.domain ∧
    (State.runSteps s c f r x4 x5 x6).2.2.messages = s.messages ∧
    (State.runSteps s c f r x4 x5 x6).2.2.package = s.package ∧
    (State.runSteps s c f r x4 x5 x6).2.2.clocks = s.clocks ∧
    (State.runSteps s c f r x4 x5 x6).2.2.thermal = s.thermal ∧
    (State.runSteps s c f r x4 x5 x6).2.2.boot = s.boot ∧
    (State.runSteps s c f r x4 x5 x6).2.2.freeCount = s.freeCount := by
  fun_induction State.runSteps s c f r x4 x5 x6 <;> simp_all -implicitDefEqProofs [↓prod_flip3, prod_flip]

@[simp] theorem State.panelsRan_kept (s : State) (c : Nat) (handshakes : Nat) (ns : Nat) :
    (State.panelsRan s c handshakes ns).pending = s.pending ∧
    (State.panelsRan s c handshakes ns).fuses = s.fuses ∧
    (State.panelsRan s c handshakes ns).regs = s.regs ∧
    (State.panelsRan s c handshakes ns).shadows = s.shadows ∧
    (State.panelsRan s c handshakes ns).blobs = s.blobs ∧
    (State.panelsRan s c handshakes ns).blobShadows = s.blobShadows ∧
    (State.panelsRan s c handshakes ns).hubNeeds = s.hubNeeds ∧
    (State.panelsRan s c handshakes ns).commits = s.commits ∧
    (State.panelsRan s c handshakes ns).seeds = s.seeds ∧
    (State.panelsRan s c handshakes ns).load = s.load ∧
    (State.panelsRan s c handshakes ns).ctxs = s.ctxs ∧
    (State.panelsRan s c handshakes ns).memory = s.memory ∧
    (State.panelsRan s c handshakes ns).rig = s.rig ∧
    (State.panelsRan s c handshakes ns).coll = s.coll ∧
    (State.panelsRan s c handshakes ns).photonics = s.photonics ∧
    (State.panelsRan s c handshakes ns).domain = s.domain ∧
    (State.panelsRan s c handshakes ns).messages = s.messages ∧
    (State.panelsRan s c handshakes ns).package = s.package ∧
    (State.panelsRan s c handshakes ns).clocks = s.clocks ∧
    (State.panelsRan s c handshakes ns).thermal = s.thermal ∧
    (State.panelsRan s c handshakes ns).control = s.control ∧
    (State.panelsRan s c handshakes ns).boot = s.boot ∧
    (State.panelsRan s c handshakes ns).dbg = s.dbg ∧
    (State.panelsRan s c handshakes ns).freeCount = s.freeCount := by
  unfold State.panelsRan
  try dsimp only
  (repeat' split) <;> simp_all -implicitDefEqProofs [↓prod_flip3, prod_flip]

@[simp] theorem State.writeElems_kept (s : State) (x : Nat) (c : Nat) (e : Engine) (o : QueuedOp) (fmt : Nat) (dest : Nat) (cs : List Conversion) :
    (State.writeElems s x c e o fmt dest cs).2.pending = s.pending ∧
    (State.writeElems s x c e o fmt dest cs).2.fuses = s.fuses ∧
    (State.writeElems s x c e o fmt dest cs).2.shadows = s.shadows ∧
    (State.writeElems s x c e o fmt dest cs).2.blobShadows = s.blobShadows ∧
    (State.writeElems s x c e o fmt dest cs).2.hubNeeds = s.hubNeeds ∧
    (State.writeElems s x c e o fmt dest cs).2.commits = s.commits ∧
    (State.writeElems s x c e o fmt dest cs).2.seeds = s.seeds ∧
    (State.writeElems s x c e o fmt dest cs).2.load = s.load ∧
    (State.writeElems s x c e o fmt dest cs).2.ctxs = s.ctxs ∧
    (State.writeElems s x c e o fmt dest cs).2.rig = s.rig ∧
    (State.writeElems s x c e o fmt dest cs).2.coll = s.coll ∧
    (State.writeElems s x c e o fmt dest cs).2.photonics = s.photonics ∧
    (State.writeElems s x c e o fmt dest cs).2.domain = s.domain ∧
    (State.writeElems s x c e o fmt dest cs).2.messages = s.messages ∧
    (State.writeElems s x c e o fmt dest cs).2.package = s.package ∧
    (State.writeElems s x c e o fmt dest cs).2.clocks = s.clocks ∧
    (State.writeElems s x c e o fmt dest cs).2.thermal = s.thermal ∧
    (State.writeElems s x c e o fmt dest cs).2.boot = s.boot ∧
    (State.writeElems s x c e o fmt dest cs).2.freeCount = s.freeCount := by
  unfold State.writeElems
  try dsimp only
  (repeat' split) <;> simp_all -implicitDefEqProofs [↓prod_flip3, prod_flip]

@[simp] theorem State.settleOp_kept (s : State) (x : Nat) (c : Nat) (e : Engine) (n : Nat) (x5 : Option Nat) :
    (State.settleOp s x c e n x5).pending = s.pending ∧
    (State.settleOp s x c e n x5).fuses = s.fuses ∧
    (State.settleOp s x c e n x5).shadows = s.shadows ∧
    (State.settleOp s x c e n x5).blobs = s.blobs ∧
    (State.settleOp s x c e n x5).blobShadows = s.blobShadows ∧
    (State.settleOp s x c e n x5).hubNeeds = s.hubNeeds ∧
    (State.settleOp s x c e n x5).seeds = s.seeds ∧
    (State.settleOp s x c e n x5).load = s.load ∧
    (State.settleOp s x c e n x5).memory = s.memory ∧
    (State.settleOp s x c e n x5).rig = s.rig ∧
    (State.settleOp s x c e n x5).photonics = s.photonics ∧
    (State.settleOp s x c e n x5).domain = s.domain ∧
    (State.settleOp s x c e n x5).messages = s.messages ∧
    (State.settleOp s x c e n x5).package = s.package ∧
    (State.settleOp s x c e n x5).clocks = s.clocks ∧
    (State.settleOp s x c e n x5).thermal = s.thermal ∧
    (State.settleOp s x c e n x5).boot = s.boot ∧
    (State.settleOp s x c e n x5).freeCount = s.freeCount := by
  unfold State.settleOp
  try dsimp only
  (repeat' split) <;> simp_all -implicitDefEqProofs [↓prod_flip3, prod_flip]

@[simp] theorem State.veLanes_kept (s : State) (c : Nat) (fmt : Nat) (n : Nat) (o : VeOperand) (r : Requester) :
    (State.veLanes s c fmt n o r).2.pending = s.pending ∧
    (State.veLanes s c fmt n o r).2.fuses = s.fuses ∧
    (State.veLanes s c fmt n o r).2.shadows = s.shadows ∧
    (State.veLanes s c fmt n o r).2.blobShadows = s.blobShadows ∧
    (State.veLanes s c fmt n o r).2.hubNeeds = s.hubNeeds ∧
    (State.veLanes s c fmt n o r).2.commits = s.commits ∧
    (State.veLanes s c fmt n o r).2.seeds = s.seeds ∧
    (State.veLanes s c fmt n o r).2.load = s.load ∧
    (State.veLanes s c fmt n o r).2.ctxs = s.ctxs ∧
    (State.veLanes s c fmt n o r).2.rig = s.rig ∧
    (State.veLanes s c fmt n o r).2.coll = s.coll ∧
    (State.veLanes s c fmt n o r).2.photonics = s.photonics ∧
    (State.veLanes s c fmt n o r).2.domain = s.domain ∧
    (State.veLanes s c fmt n o r).2.messages = s.messages ∧
    (State.veLanes s c fmt n o r).2.package = s.package ∧
    (State.veLanes s c fmt n o r).2.clocks = s.clocks ∧
    (State.veLanes s c fmt n o r).2.thermal = s.thermal ∧
    (State.veLanes s c fmt n o r).2.boot = s.boot ∧
    (State.veLanes s c fmt n o r).2.freeCount = s.freeCount := by
  unfold State.veLanes
  try dsimp only
  (repeat' split) <;> simp_all -implicitDefEqProofs [↓prod_flip3, prod_flip]

@[simp] theorem State.veWriteReg_kept (s : State) (c : Nat) (v : Nat) (l : List Word32) :
    (State.veWriteReg s c v l).pending = s.pending ∧
    (State.veWriteReg s c v l).fuses = s.fuses ∧
    (State.veWriteReg s c v l).regs = s.regs ∧
    (State.veWriteReg s c v l).shadows = s.shadows ∧
    (State.veWriteReg s c v l).blobs = s.blobs ∧
    (State.veWriteReg s c v l).blobShadows = s.blobShadows ∧
    (State.veWriteReg s c v l).hubNeeds = s.hubNeeds ∧
    (State.veWriteReg s c v l).commits = s.commits ∧
    (State.veWriteReg s c v l).seeds = s.seeds ∧
    (State.veWriteReg s c v l).load = s.load ∧
    (State.veWriteReg s c v l).ctxs = s.ctxs ∧
    (State.veWriteReg s c v l).memory = s.memory ∧
    (State.veWriteReg s c v l).rig = s.rig ∧
    (State.veWriteReg s c v l).coll = s.coll ∧
    (State.veWriteReg s c v l).photonics = s.photonics ∧
    (State.veWriteReg s c v l).domain = s.domain ∧
    (State.veWriteReg s c v l).messages = s.messages ∧
    (State.veWriteReg s c v l).package = s.package ∧
    (State.veWriteReg s c v l).clocks = s.clocks ∧
    (State.veWriteReg s c v l).thermal = s.thermal ∧
    (State.veWriteReg s c v l).control = s.control ∧
    (State.veWriteReg s c v l).boot = s.boot ∧
    (State.veWriteReg s c v l).dbg = s.dbg ∧
    (State.veWriteReg s c v l).freeCount = s.freeCount := by
  unfold State.veWriteReg
  try dsimp only
  (repeat' split) <;> simp_all -implicitDefEqProofs [↓prod_flip3, prod_flip]

@[simp] theorem State.engineLoad_kept (s : State) (x : Nat) (c : Nat) (e : Engine) (addr : Nat) (n : Nat) (p : Purpose) :
    (State.engineLoad s x c e addr n p).2.pending = s.pending ∧
    (State.engineLoad s x c e addr n p).2.fuses = s.fuses ∧
    (State.engineLoad s x c e addr n p).2.shadows = s.shadows ∧
    (State.engineLoad s x c e addr n p).2.blobShadows = s.blobShadows ∧
    (State.engineLoad s x c e addr n p).2.hubNeeds = s.hubNeeds ∧
    (State.engineLoad s x c e addr n p).2.commits = s.commits ∧
    (State.engineLoad s x c e addr n p).2.seeds = s.seeds ∧
    (State.engineLoad s x c e addr n p).2.load = s.load ∧
    (State.engineLoad s x c e addr n p).2.coll = s.coll ∧
    (State.engineLoad s x c e addr n p).2.photonics = s.photonics ∧
    (State.engineLoad s x c e addr n p).2.messages = s.messages ∧
    (State.engineLoad s x c e addr n p).2.package = s.package ∧
    (State.engineLoad s x c e addr n p).2.thermal = s.thermal ∧
    (State.engineLoad s x c e addr n p).2.boot = s.boot ∧
    (State.engineLoad s x c e addr n p).2.freeCount = s.freeCount := by
  unfold State.engineLoad
  try dsimp only
  (repeat' split) <;> simp_all -implicitDefEqProofs [↓prod_flip3, prod_flip]

@[simp] theorem State.engineStore_kept (s : State) (x : Nat) (c : Nat) (e : Engine) (op : Nat) (addr : Nat) (d : List Byte) (p : Purpose) (ref : BitVec 24) (amt : Nat) :
    (State.engineStore s x c e op addr d p ref amt).2.pending = s.pending ∧
    (State.engineStore s x c e op addr d p ref amt).2.fuses = s.fuses ∧
    (State.engineStore s x c e op addr d p ref amt).2.shadows = s.shadows ∧
    (State.engineStore s x c e op addr d p ref amt).2.blobShadows = s.blobShadows ∧
    (State.engineStore s x c e op addr d p ref amt).2.hubNeeds = s.hubNeeds ∧
    (State.engineStore s x c e op addr d p ref amt).2.commits = s.commits ∧
    (State.engineStore s x c e op addr d p ref amt).2.seeds = s.seeds ∧
    (State.engineStore s x c e op addr d p ref amt).2.load = s.load ∧
    (State.engineStore s x c e op addr d p ref amt).2.coll = s.coll ∧
    (State.engineStore s x c e op addr d p ref amt).2.photonics = s.photonics ∧
    (State.engineStore s x c e op addr d p ref amt).2.messages = s.messages ∧
    (State.engineStore s x c e op addr d p ref amt).2.package = s.package ∧
    (State.engineStore s x c e op addr d p ref amt).2.thermal = s.thermal ∧
    (State.engineStore s x c e op addr d p ref amt).2.boot = s.boot ∧
    (State.engineStore s x c e op addr d p ref amt).2.freeCount = s.freeCount := by
  unfold State.engineStore
  try dsimp only
  (repeat' split) <;> simp_all -implicitDefEqProofs [↓prod_flip3, prod_flip]

@[simp] theorem State.storePieces_kept (s : State) (x : Nat) (c : Nat) (e : Engine) (n : Nat) (x5 : List (Nat × List Byte)) :
    (State.storePieces s x c e n x5).2.pending = s.pending ∧
    (State.storePieces s x c e n x5).2.fuses = s.fuses ∧
    (State.storePieces s x c e n x5).2.shadows = s.shadows ∧
    (State.storePieces s x c e n x5).2.blobShadows = s.blobShadows ∧
    (State.storePieces s x c e n x5).2.hubNeeds = s.hubNeeds ∧
    (State.storePieces s x c e n x5).2.commits = s.commits ∧
    (State.storePieces s x c e n x5).2.seeds = s.seeds ∧
    (State.storePieces s x c e n x5).2.load = s.load ∧
    (State.storePieces s x c e n x5).2.coll = s.coll ∧
    (State.storePieces s x c e n x5).2.photonics = s.photonics ∧
    (State.storePieces s x c e n x5).2.messages = s.messages ∧
    (State.storePieces s x c e n x5).2.package = s.package ∧
    (State.storePieces s x c e n x5).2.thermal = s.thermal ∧
    (State.storePieces s x c e n x5).2.boot = s.boot ∧
    (State.storePieces s x c e n x5).2.freeCount = s.freeCount := by
  fun_induction State.storePieces s x c e n x5 <;> simp_all -implicitDefEqProofs [↓prod_flip3, prod_flip]

@[simp] theorem State.scatterAtomics_kept (s : State) (x : Nat) (c : Nat) (n : Nat) (op : Nat) (x5 : List (Nat × Bool × BitVec 4 × List Byte)) :
    (State.scatterAtomics s x c n op x5).2.pending = s.pending ∧
    (State.scatterAtomics s x c n op x5).2.fuses = s.fuses ∧
    (State.scatterAtomics s x c n op x5).2.shadows = s.shadows ∧
    (State.scatterAtomics s x c n op x5).2.blobShadows = s.blobShadows ∧
    (State.scatterAtomics s x c n op x5).2.hubNeeds = s.hubNeeds ∧
    (State.scatterAtomics s x c n op x5).2.commits = s.commits ∧
    (State.scatterAtomics s x c n op x5).2.seeds = s.seeds ∧
    (State.scatterAtomics s x c n op x5).2.load = s.load ∧
    (State.scatterAtomics s x c n op x5).2.coll = s.coll ∧
    (State.scatterAtomics s x c n op x5).2.photonics = s.photonics ∧
    (State.scatterAtomics s x c n op x5).2.messages = s.messages ∧
    (State.scatterAtomics s x c n op x5).2.package = s.package ∧
    (State.scatterAtomics s x c n op x5).2.thermal = s.thermal ∧
    (State.scatterAtomics s x c n op x5).2.boot = s.boot ∧
    (State.scatterAtomics s x c n op x5).2.freeCount = s.freeCount := by
  fun_induction State.scatterAtomics s x c n op x5 <;> simp_all -implicitDefEqProofs [↓prod_flip3, prod_flip]

@[simp] theorem State.geIndex_kept (s : State) (x : Nat) (c : Nat) (n : Nat) (op : GeOp) (i : Nat) :
    (State.geIndex s x c n op i).2.pending = s.pending ∧
    (State.geIndex s x c n op i).2.fuses = s.fuses ∧
    (State.geIndex s x c n op i).2.shadows = s.shadows ∧
    (State.geIndex s x c n op i).2.blobShadows = s.blobShadows ∧
    (State.geIndex s x c n op i).2.hubNeeds = s.hubNeeds ∧
    (State.geIndex s x c n op i).2.commits = s.commits ∧
    (State.geIndex s x c n op i).2.seeds = s.seeds ∧
    (State.geIndex s x c n op i).2.load = s.load ∧
    (State.geIndex s x c n op i).2.coll = s.coll ∧
    (State.geIndex s x c n op i).2.photonics = s.photonics ∧
    (State.geIndex s x c n op i).2.messages = s.messages ∧
    (State.geIndex s x c n op i).2.package = s.package ∧
    (State.geIndex s x c n op i).2.thermal = s.thermal ∧
    (State.geIndex s x c n op i).2.boot = s.boot ∧
    (State.geIndex s x c n op i).2.freeCount = s.freeCount := by
  unfold State.geIndex
  try dsimp only
  (repeat' split) <;> simp_all -implicitDefEqProofs [↓prod_flip3, prod_flip]

@[simp] theorem State.geIndices_kept (s : State) (x : Nat) (c : Nat) (n : Nat) (op : GeOp) (x5 : Nat) (x6 : Nat) :
    (State.geIndices s x c n op x5 x6).2.2.pending = s.pending ∧
    (State.geIndices s x c n op x5 x6).2.2.fuses = s.fuses ∧
    (State.geIndices s x c n op x5 x6).2.2.shadows = s.shadows ∧
    (State.geIndices s x c n op x5 x6).2.2.blobShadows = s.blobShadows ∧
    (State.geIndices s x c n op x5 x6).2.2.hubNeeds = s.hubNeeds ∧
    (State.geIndices s x c n op x5 x6).2.2.commits = s.commits ∧
    (State.geIndices s x c n op x5 x6).2.2.seeds = s.seeds ∧
    (State.geIndices s x c n op x5 x6).2.2.load = s.load ∧
    (State.geIndices s x c n op x5 x6).2.2.coll = s.coll ∧
    (State.geIndices s x c n op x5 x6).2.2.photonics = s.photonics ∧
    (State.geIndices s x c n op x5 x6).2.2.messages = s.messages ∧
    (State.geIndices s x c n op x5 x6).2.2.package = s.package ∧
    (State.geIndices s x c n op x5 x6).2.2.thermal = s.thermal ∧
    (State.geIndices s x c n op x5 x6).2.2.boot = s.boot ∧
    (State.geIndices s x c n op x5 x6).2.2.freeCount = s.freeCount := by
  fun_induction State.geIndices s x c n op x5 x6 <;> simp_all -implicitDefEqProofs [↓prod_flip3, prod_flip]

@[simp] theorem State.requestFault_kept (s : State) (x : Nat) (c : Nat) (e : Engine) (o : QueuedOp) (code : Nat) (extra : Nat) :
    (State.requestFault s x c e o code extra).pending = s.pending ∧
    (State.requestFault s x c e o code extra).fuses = s.fuses ∧
    (State.requestFault s x c e o code extra).shadows = s.shadows ∧
    (State.requestFault s x c e o code extra).blobs = s.blobs ∧
    (State.requestFault s x c e o code extra).blobShadows = s.blobShadows ∧
    (State.requestFault s x c e o code extra).hubNeeds = s.hubNeeds ∧
    (State.requestFault s x c e o code extra).seeds = s.seeds ∧
    (State.requestFault s x c e o code extra).load = s.load ∧
    (State.requestFault s x c e o code extra).memory = s.memory ∧
    (State.requestFault s x c e o code extra).rig = s.rig ∧
    (State.requestFault s x c e o code extra).photonics = s.photonics ∧
    (State.requestFault s x c e o code extra).domain = s.domain ∧
    (State.requestFault s x c e o code extra).messages = s.messages ∧
    (State.requestFault s x c e o code extra).package = s.package ∧
    (State.requestFault s x c e o code extra).clocks = s.clocks ∧
    (State.requestFault s x c e o code extra).thermal = s.thermal ∧
    (State.requestFault s x c e o code extra).boot = s.boot ∧
    (State.requestFault s x c e o code extra).freeCount = s.freeCount := by
  unfold State.requestFault
  try dsimp only
  (repeat' split) <;> simp_all -implicitDefEqProofs [↓prod_flip3, prod_flip]

@[simp] theorem State.copyOut_kept (s : State) (x : Nat) (c : Nat) (m : RunningOp) (op : CeOp) (p : Nat) (d : List Byte) :
    (State.copyOut s x c m op p d).2.pending = s.pending ∧
    (State.copyOut s x c m op p d).2.fuses = s.fuses ∧
    (State.copyOut s x c m op p d).2.shadows = s.shadows ∧
    (State.copyOut s x c m op p d).2.blobShadows = s.blobShadows ∧
    (State.copyOut s x c m op p d).2.hubNeeds = s.hubNeeds ∧
    (State.copyOut s x c m op p d).2.commits = s.commits ∧
    (State.copyOut s x c m op p d).2.seeds = s.seeds ∧
    (State.copyOut s x c m op p d).2.load = s.load ∧
    (State.copyOut s x c m op p d).2.coll = s.coll ∧
    (State.copyOut s x c m op p d).2.photonics = s.photonics ∧
    (State.copyOut s x c m op p d).2.messages = s.messages ∧
    (State.copyOut s x c m op p d).2.package = s.package ∧
    (State.copyOut s x c m op p d).2.thermal = s.thermal ∧
    (State.copyOut s x c m op p d).2.boot = s.boot ∧
    (State.copyOut s x c m op p d).2.freeCount = s.freeCount := by
  unfold State.copyOut
  try dsimp only
  (repeat' split) <;> simp_all -implicitDefEqProofs [↓prod_flip3, prod_flip]

@[simp] theorem State.traceEntry_kept (s : State) (c : Nat) (r : TimetableRun) (e : BitVec 256) :
    (State.traceEntry s c r e).pending = s.pending ∧
    (State.traceEntry s c r e).fuses = s.fuses ∧
    (State.traceEntry s c r e).regs = s.regs ∧
    (State.traceEntry s c r e).shadows = s.shadows ∧
    (State.traceEntry s c r e).blobs = s.blobs ∧
    (State.traceEntry s c r e).blobShadows = s.blobShadows ∧
    (State.traceEntry s c r e).hubNeeds = s.hubNeeds ∧
    (State.traceEntry s c r e).commits = s.commits ∧
    (State.traceEntry s c r e).seeds = s.seeds ∧
    (State.traceEntry s c r e).load = s.load ∧
    (State.traceEntry s c r e).ctxs = s.ctxs ∧
    (State.traceEntry s c r e).memory = s.memory ∧
    (State.traceEntry s c r e).rig = s.rig ∧
    (State.traceEntry s c r e).coll = s.coll ∧
    (State.traceEntry s c r e).photonics = s.photonics ∧
    (State.traceEntry s c r e).domain = s.domain ∧
    (State.traceEntry s c r e).messages = s.messages ∧
    (State.traceEntry s c r e).package = s.package ∧
    (State.traceEntry s c r e).clocks = s.clocks ∧
    (State.traceEntry s c r e).thermal = s.thermal ∧
    (State.traceEntry s c r e).control = s.control ∧
    (State.traceEntry s c r e).boot = s.boot ∧
    (State.traceEntry s c r e).dbg = s.dbg ∧
    (State.traceEntry s c r e).freeCount = s.freeCount := by
  unfold State.traceEntry
  try dsimp only
  (repeat' split) <;> simp_all -implicitDefEqProofs [↓prod_flip3, prod_flip]

@[simp] theorem State.operatorStarts_kept (s : State) (x : Nat) (c : Nat) :
    (State.operatorStarts s x c).pending = s.pending ∧
    (State.operatorStarts s x c).fuses = s.fuses ∧
    (State.operatorStarts s x c).regs = s.regs ∧
    (State.operatorStarts s x c).shadows = s.shadows ∧
    (State.operatorStarts s x c).blobs = s.blobs ∧
    (State.operatorStarts s x c).blobShadows = s.blobShadows ∧
    (State.operatorStarts s x c).hubNeeds = s.hubNeeds ∧
    (State.operatorStarts s x c).commits = s.commits ∧
    (State.operatorStarts s x c).seeds = s.seeds ∧
    (State.operatorStarts s x c).load = s.load ∧
    (State.operatorStarts s x c).ctxs = s.ctxs ∧
    (State.operatorStarts s x c).memory = s.memory ∧
    (State.operatorStarts s x c).rig = s.rig ∧
    (State.operatorStarts s x c).coll = s.coll ∧
    (State.operatorStarts s x c).photonics = s.photonics ∧
    (State.operatorStarts s x c).domain = s.domain ∧
    (State.operatorStarts s x c).messages = s.messages ∧
    (State.operatorStarts s x c).package = s.package ∧
    (State.operatorStarts s x c).clocks = s.clocks ∧
    (State.operatorStarts s x c).thermal = s.thermal ∧
    (State.operatorStarts s x c).control = s.control ∧
    (State.operatorStarts s x c).boot = s.boot ∧
    (State.operatorStarts s x c).dbg = s.dbg ∧
    (State.operatorStarts s x c).freeCount = s.freeCount := by
  unfold State.operatorStarts
  try dsimp only
  (repeat' split) <;> simp_all -implicitDefEqProofs [↓prod_flip3, prod_flip]

@[simp] theorem State.operatorEnds_kept (s : State) (c : Nat) :
    (State.operatorEnds s c).pending = s.pending ∧
    (State.operatorEnds s c).fuses = s.fuses ∧
    (State.operatorEnds s c).regs = s.regs ∧
    (State.operatorEnds s c).shadows = s.shadows ∧
    (State.operatorEnds s c).blobs = s.blobs ∧
    (State.operatorEnds s c).blobShadows = s.blobShadows ∧
    (State.operatorEnds s c).hubNeeds = s.hubNeeds ∧
    (State.operatorEnds s c).commits = s.commits ∧
    (State.operatorEnds s c).seeds = s.seeds ∧
    (State.operatorEnds s c).load = s.load ∧
    (State.operatorEnds s c).ctxs = s.ctxs ∧
    (State.operatorEnds s c).memory = s.memory ∧
    (State.operatorEnds s c).rig = s.rig ∧
    (State.operatorEnds s c).coll = s.coll ∧
    (State.operatorEnds s c).photonics = s.photonics ∧
    (State.operatorEnds s c).domain = s.domain ∧
    (State.operatorEnds s c).messages = s.messages ∧
    (State.operatorEnds s c).package = s.package ∧
    (State.operatorEnds s c).clocks = s.clocks ∧
    (State.operatorEnds s c).thermal = s.thermal ∧
    (State.operatorEnds s c).control = s.control ∧
    (State.operatorEnds s c).boot = s.boot ∧
    (State.operatorEnds s c).dbg = s.dbg ∧
    (State.operatorEnds s c).freeCount = s.freeCount := by
  unfold State.operatorEnds
  try dsimp only
  (repeat' split) <;> simp_all -implicitDefEqProofs [↓prod_flip3, prod_flip]

@[simp] theorem State.goTo_kept (s : State) (c : Nat) (n : Nat) :
    (State.goTo s c n).pending = s.pending ∧
    (State.goTo s c n).fuses = s.fuses ∧
    (State.goTo s c n).regs = s.regs ∧
    (State.goTo s c n).shadows = s.shadows ∧
    (State.goTo s c n).blobs = s.blobs ∧
    (State.goTo s c n).blobShadows = s.blobShadows ∧
    (State.goTo s c n).hubNeeds = s.hubNeeds ∧
    (State.goTo s c n).commits = s.commits ∧
    (State.goTo s c n).seeds = s.seeds ∧
    (State.goTo s c n).load = s.load ∧
    (State.goTo s c n).ctxs = s.ctxs ∧
    (State.goTo s c n).memory = s.memory ∧
    (State.goTo s c n).rig = s.rig ∧
    (State.goTo s c n).coll = s.coll ∧
    (State.goTo s c n).photonics = s.photonics ∧
    (State.goTo s c n).domain = s.domain ∧
    (State.goTo s c n).messages = s.messages ∧
    (State.goTo s c n).package = s.package ∧
    (State.goTo s c n).clocks = s.clocks ∧
    (State.goTo s c n).thermal = s.thermal ∧
    (State.goTo s c n).control = s.control ∧
    (State.goTo s c n).boot = s.boot ∧
    (State.goTo s c n).dbg = s.dbg ∧
    (State.goTo s c n).freeCount = s.freeCount := by
  unfold State.goTo
  try dsimp only
  (repeat' split) <;> simp_all -implicitDefEqProofs [↓prod_flip3, prod_flip]

@[simp] theorem State.finishEntry_kept (s : State) (c : Nat) (n : Nat) :
    (State.finishEntry s c n).pending = s.pending ∧
    (State.finishEntry s c n).fuses = s.fuses ∧
    (State.finishEntry s c n).regs = s.regs ∧
    (State.finishEntry s c n).shadows = s.shadows ∧
    (State.finishEntry s c n).blobs = s.blobs ∧
    (State.finishEntry s c n).blobShadows = s.blobShadows ∧
    (State.finishEntry s c n).hubNeeds = s.hubNeeds ∧
    (State.finishEntry s c n).commits = s.commits ∧
    (State.finishEntry s c n).seeds = s.seeds ∧
    (State.finishEntry s c n).load = s.load ∧
    (State.finishEntry s c n).ctxs = s.ctxs ∧
    (State.finishEntry s c n).memory = s.memory ∧
    (State.finishEntry s c n).rig = s.rig ∧
    (State.finishEntry s c n).coll = s.coll ∧
    (State.finishEntry s c n).photonics = s.photonics ∧
    (State.finishEntry s c n).domain = s.domain ∧
    (State.finishEntry s c n).messages = s.messages ∧
    (State.finishEntry s c n).package = s.package ∧
    (State.finishEntry s c n).clocks = s.clocks ∧
    (State.finishEntry s c n).thermal = s.thermal ∧
    (State.finishEntry s c n).control = s.control ∧
    (State.finishEntry s c n).boot = s.boot ∧
    (State.finishEntry s c n).dbg = s.dbg ∧
    (State.finishEntry s c n).freeCount = s.freeCount := by
  unfold State.finishEntry
  try dsimp only
  (repeat' split) <;> simp_all -implicitDefEqProofs [↓prod_flip3, prod_flip]

@[simp] theorem State.entryFault_kept (s : State) (x : Nat) (c : Nat) (r : TimetableRun) :
    (State.entryFault s x c r).pending = s.pending ∧
    (State.entryFault s x c r).fuses = s.fuses ∧
    (State.entryFault s x c r).shadows = s.shadows ∧
    (State.entryFault s x c r).blobs = s.blobs ∧
    (State.entryFault s x c r).blobShadows = s.blobShadows ∧
    (State.entryFault s x c r).hubNeeds = s.hubNeeds ∧
    (State.entryFault s x c r).seeds = s.seeds ∧
    (State.entryFault s x c r).load = s.load ∧
    (State.entryFault s x c r).clusters = s.clusters ∧
    (State.entryFault s x c r).memory = s.memory ∧
    (State.entryFault s x c r).rig = s.rig ∧
    (State.entryFault s x c r).photonics = s.photonics ∧
    (State.entryFault s x c r).domain = s.domain ∧
    (State.entryFault s x c r).messages = s.messages ∧
    (State.entryFault s x c r).package = s.package ∧
    (State.entryFault s x c r).clocks = s.clocks ∧
    (State.entryFault s x c r).thermal = s.thermal ∧
    (State.entryFault s x c r).boot = s.boot ∧
    (State.entryFault s x c r).freeCount = s.freeCount := by
  unfold State.entryFault
  try dsimp only
  (repeat' split) <;> simp_all -implicitDefEqProofs [↓prod_flip3, prod_flip]

@[simp] theorem State.ringDoorbell_kept (s : State) (x : Nat) (v : BitVec 32) :
    (State.ringDoorbell s x v).2.pending = s.pending ∧
    (State.ringDoorbell s x v).2.fuses = s.fuses ∧
    (State.ringDoorbell s x v).2.shadows = s.shadows ∧
    (State.ringDoorbell s x v).2.blobs = s.blobs ∧
    (State.ringDoorbell s x v).2.blobShadows = s.blobShadows ∧
    (State.ringDoorbell s x v).2.hubNeeds = s.hubNeeds ∧
    (State.ringDoorbell s x v).2.commits = s.commits ∧
    (State.ringDoorbell s x v).2.seeds = s.seeds ∧
    (State.ringDoorbell s x v).2.load = s.load ∧
    (State.ringDoorbell s x v).2.clusters = s.clusters ∧
    (State.ringDoorbell s x v).2.memory = s.memory ∧
    (State.ringDoorbell s x v).2.rig = s.rig ∧
    (State.ringDoorbell s x v).2.coll = s.coll ∧
    (State.ringDoorbell s x v).2.photonics = s.photonics ∧
    (State.ringDoorbell s x v).2.domain = s.domain ∧
    (State.ringDoorbell s x v).2.messages = s.messages ∧
    (State.ringDoorbell s x v).2.package = s.package ∧
    (State.ringDoorbell s x v).2.clocks = s.clocks ∧
    (State.ringDoorbell s x v).2.thermal = s.thermal ∧
    (State.ringDoorbell s x v).2.boot = s.boot ∧
    (State.ringDoorbell s x v).2.freeCount = s.freeCount := by
  unfold State.ringDoorbell
  try dsimp only
  (repeat' split) <;> simp_all -implicitDefEqProofs [↓prod_flip3, prod_flip]

@[simp] theorem State.startCommand_kept (s : State) (x : Nat) (c : Nat) (j : Nat) (d : BitVec 512) :
    (State.startCommand s x c j d).pending = s.pending ∧
    (State.startCommand s x c j d).fuses = s.fuses ∧
    (State.startCommand s x c j d).regs = s.regs ∧
    (State.startCommand s x c j d).shadows = s.shadows ∧
    (State.startCommand s x c j d).blobs = s.blobs ∧
    (State.startCommand s x c j d).blobShadows = s.blobShadows ∧
    (State.startCommand s x c j d).hubNeeds = s.hubNeeds ∧
    (State.startCommand s x c j d).commits = s.commits ∧
    (State.startCommand s x c j d).seeds = s.seeds ∧
    (State.startCommand s x c j d).load = s.load ∧
    (State.startCommand s x c j d).memory = s.memory ∧
    (State.startCommand s x c j d).rig = s.rig ∧
    (State.startCommand s x c j d).coll = s.coll ∧
    (State.startCommand s x c j d).photonics = s.photonics ∧
    (State.startCommand s x c j d).domain = s.domain ∧
    (State.startCommand s x c j d).messages = s.messages ∧
    (State.startCommand s x c j d).package = s.package ∧
    (State.startCommand s x c j d).clocks = s.clocks ∧
    (State.startCommand s x c j d).thermal = s.thermal ∧
    (State.startCommand s x c j d).control = s.control ∧
    (State.startCommand s x c j d).boot = s.boot ∧
    (State.startCommand s x c j d).freeCount = s.freeCount := by
  unfold State.startCommand
  try dsimp only
  (repeat' split) <;> simp_all -implicitDefEqProofs [↓prod_flip3, prod_flip]

@[simp] theorem State.bundleEnds_kept (s : State) (tt : Nat) (h : List Byte) (r : Requester) (x4 : List Nat) :
    (State.bundleEnds s tt h r x4).2.pending = s.pending ∧
    (State.bundleEnds s tt h r x4).2.fuses = s.fuses ∧
    (State.bundleEnds s tt h r x4).2.shadows = s.shadows ∧
    (State.bundleEnds s tt h r x4).2.blobShadows = s.blobShadows ∧
    (State.bundleEnds s tt h r x4).2.hubNeeds = s.hubNeeds ∧
    (State.bundleEnds s tt h r x4).2.commits = s.commits ∧
    (State.bundleEnds s tt h r x4).2.seeds = s.seeds ∧
    (State.bundleEnds s tt h r x4).2.load = s.load ∧
    (State.bundleEnds s tt h r x4).2.ctxs = s.ctxs ∧
    (State.bundleEnds s tt h r x4).2.rig = s.rig ∧
    (State.bundleEnds s tt h r x4).2.coll = s.coll ∧
    (State.bundleEnds s tt h r x4).2.photonics = s.photonics ∧
    (State.bundleEnds s tt h r x4).2.domain = s.domain ∧
    (State.bundleEnds s tt h r x4).2.messages = s.messages ∧
    (State.bundleEnds s tt h r x4).2.package = s.package ∧
    (State.bundleEnds s tt h r x4).2.clocks = s.clocks ∧
    (State.bundleEnds s tt h r x4).2.thermal = s.thermal ∧
    (State.bundleEnds s tt h r x4).2.boot = s.boot ∧
    (State.bundleEnds s tt h r x4).2.freeCount = s.freeCount := by
  fun_induction State.bundleEnds s tt h r x4 <;> simp_all -implicitDefEqProofs [↓prod_flip3, prod_flip]

@[simp] theorem State.loadTimetable_kept (s : State) (x : Nat) (c : Nat) (j : Nat) (d : BitVec 512) (es : List (BitVec 256)) :
    (State.loadTimetable s x c j d es).pending = s.pending ∧
    (State.loadTimetable s x c j d es).fuses = s.fuses ∧
    (State.loadTimetable s x c j d es).regs = s.regs ∧
    (State.loadTimetable s x c j d es).shadows = s.shadows ∧
    (State.loadTimetable s x c j d es).blobs = s.blobs ∧
    (State.loadTimetable s x c j d es).blobShadows = s.blobShadows ∧
    (State.loadTimetable s x c j d es).hubNeeds = s.hubNeeds ∧
    (State.loadTimetable s x c j d es).commits = s.commits ∧
    (State.loadTimetable s x c j d es).seeds = s.seeds ∧
    (State.loadTimetable s x c j d es).load = s.load ∧
    (State.loadTimetable s x c j d es).memory = s.memory ∧
    (State.loadTimetable s x c j d es).rig = s.rig ∧
    (State.loadTimetable s x c j d es).coll = s.coll ∧
    (State.loadTimetable s x c j d es).photonics = s.photonics ∧
    (State.loadTimetable s x c j d es).domain = s.domain ∧
    (State.loadTimetable s x c j d es).messages = s.messages ∧
    (State.loadTimetable s x c j d es).package = s.package ∧
    (State.loadTimetable s x c j d es).clocks = s.clocks ∧
    (State.loadTimetable s x c j d es).thermal = s.thermal ∧
    (State.loadTimetable s x c j d es).control = s.control ∧
    (State.loadTimetable s x c j d es).boot = s.boot ∧
    (State.loadTimetable s x c j d es).dbg = s.dbg ∧
    (State.loadTimetable s x c j d es).freeCount = s.freeCount := by
  unfold State.loadTimetable
  try dsimp only
  (repeat' split) <;> simp_all -implicitDefEqProofs [↓prod_flip3, prod_flip]

@[simp] theorem State.endPart_kept (s : State) (x : Nat) (c : Nat) (x3 : Option Nat) :
    (State.endPart s x c x3).pending = s.pending ∧
    (State.endPart s x c x3).fuses = s.fuses ∧
    (State.endPart s x c x3).shadows = s.shadows ∧
    (State.endPart s x c x3).blobs = s.blobs ∧
    (State.endPart s x c x3).blobShadows = s.blobShadows ∧
    (State.endPart s x c x3).hubNeeds = s.hubNeeds ∧
    (State.endPart s x c x3).seeds = s.seeds ∧
    (State.endPart s x c x3).load = s.load ∧
    (State.endPart s x c x3).clusters = s.clusters ∧
    (State.endPart s x c x3).memory = s.memory ∧
    (State.endPart s x c x3).rig = s.rig ∧
    (State.endPart s x c x3).photonics = s.photonics ∧
    (State.endPart s x c x3).domain = s.domain ∧
    (State.endPart s x c x3).messages = s.messages ∧
    (State.endPart s x c x3).package = s.package ∧
    (State.endPart s x c x3).clocks = s.clocks ∧
    (State.endPart s x c x3).thermal = s.thermal ∧
    (State.endPart s x c x3).boot = s.boot ∧
    (State.endPart s x c x3).freeCount = s.freeCount := by
  unfold State.endPart
  try dsimp only
  (repeat' split) <;> simp_all -implicitDefEqProofs [↓prod_flip3, prod_flip]

@[simp] theorem State.tableBytes_kept (s : State) (x : Nat) (c : Nat) (a : Nat) (n : Nat) :
    (State.tableBytes s x c a n).2.pending = s.pending ∧
    (State.tableBytes s x c a n).2.fuses = s.fuses ∧
    (State.tableBytes s x c a n).2.shadows = s.shadows ∧
    (State.tableBytes s x c a n).2.blobShadows = s.blobShadows ∧
    (State.tableBytes s x c a n).2.hubNeeds = s.hubNeeds ∧
    (State.tableBytes s x c a n).2.commits = s.commits ∧
    (State.tableBytes s x c a n).2.seeds = s.seeds ∧
    (State.tableBytes s x c a n).2.load = s.load ∧
    (State.tableBytes s x c a n).2.ctxs = s.ctxs ∧
    (State.tableBytes s x c a n).2.rig = s.rig ∧
    (State.tableBytes s x c a n).2.coll = s.coll ∧
    (State.tableBytes s x c a n).2.photonics = s.photonics ∧
    (State.tableBytes s x c a n).2.domain = s.domain ∧
    (State.tableBytes s x c a n).2.messages = s.messages ∧
    (State.tableBytes s x c a n).2.package = s.package ∧
    (State.tableBytes s x c a n).2.clocks = s.clocks ∧
    (State.tableBytes s x c a n).2.thermal = s.thermal ∧
    (State.tableBytes s x c a n).2.boot = s.boot ∧
    (State.tableBytes s x c a n).2.freeCount = s.freeCount := by
  unfold State.tableBytes
  try dsimp only
  (repeat' split) <;> simp_all -implicitDefEqProofs [↓prod_flip3, prod_flip]

@[simp] theorem State.beginStop_kept (s : State) (x : Nat) :
    (State.beginStop s x).pending = s.pending ∧
    (State.beginStop s x).fuses = s.fuses ∧
    (State.beginStop s x).regs = s.regs ∧
    (State.beginStop s x).shadows = s.shadows ∧
    (State.beginStop s x).blobs = s.blobs ∧
    (State.beginStop s x).blobShadows = s.blobShadows ∧
    (State.beginStop s x).hubNeeds = s.hubNeeds ∧
    (State.beginStop s x).commits = s.commits ∧
    (State.beginStop s x).seeds = s.seeds ∧
    (State.beginStop s x).load = s.load ∧
    (State.beginStop s x).clusters = s.clusters ∧
    (State.beginStop s x).memory = s.memory ∧
    (State.beginStop s x).rig = s.rig ∧
    (State.beginStop s x).photonics = s.photonics ∧
    (State.beginStop s x).domain = s.domain ∧
    (State.beginStop s x).messages = s.messages ∧
    (State.beginStop s x).package = s.package ∧
    (State.beginStop s x).clocks = s.clocks ∧
    (State.beginStop s x).thermal = s.thermal ∧
    (State.beginStop s x).control = s.control ∧
    (State.beginStop s x).boot = s.boot ∧
    (State.beginStop s x).dbg = s.dbg ∧
    (State.beginStop s x).freeCount = s.freeCount := by
  unfold State.beginStop
  try dsimp only
  (repeat' split) <;> simp_all -implicitDefEqProofs [↓prod_flip3, prod_flip]

@[simp] theorem State.boundaryEffects_kept (s : State) (x : Nat) :
    (State.boundaryEffects s x).pending = s.pending ∧
    (State.boundaryEffects s x).fuses = s.fuses ∧
    (State.boundaryEffects s x).regs = s.regs ∧
    (State.boundaryEffects s x).shadows = s.shadows ∧
    (State.boundaryEffects s x).blobs = s.blobs ∧
    (State.boundaryEffects s x).blobShadows = s.blobShadows ∧
    (State.boundaryEffects s x).hubNeeds = s.hubNeeds ∧
    (State.boundaryEffects s x).commits = s.commits ∧
    (State.boundaryEffects s x).seeds = s.seeds ∧
    (State.boundaryEffects s x).load = s.load ∧
    (State.boundaryEffects s x).memory = s.memory ∧
    (State.boundaryEffects s x).rig = s.rig ∧
    (State.boundaryEffects s x).photonics = s.photonics ∧
    (State.boundaryEffects s x).domain = s.domain ∧
    (State.boundaryEffects s x).messages = s.messages ∧
    (State.boundaryEffects s x).package = s.package ∧
    (State.boundaryEffects s x).clocks = s.clocks ∧
    (State.boundaryEffects s x).thermal = s.thermal ∧
    (State.boundaryEffects s x).control = s.control ∧
    (State.boundaryEffects s x).boot = s.boot ∧
    (State.boundaryEffects s x).dbg = s.dbg ∧
    (State.boundaryEffects s x).freeCount = s.freeCount := by
  unfold State.boundaryEffects
  try dsimp only
  (repeat' split) <;> simp_all -implicitDefEqProofs [↓prod_flip3, prod_flip]

@[simp] theorem State.afterCommand_kept (s : State) (x : Nat) (opcode : Nat) :
    (State.afterCommand s x opcode).pending = s.pending ∧
    (State.afterCommand s x opcode).fuses = s.fuses ∧
    (State.afterCommand s x opcode).regs = s.regs ∧
    (State.afterCommand s x opcode).shadows = s.shadows ∧
    (State.afterCommand s x opcode).blobs = s.blobs ∧
    (State.afterCommand s x opcode).blobShadows = s.blobShadows ∧
    (State.afterCommand s x opcode).hubNeeds = s.hubNeeds ∧
    (State.afterCommand s x opcode).commits = s.commits ∧
    (State.afterCommand s x opcode).seeds = s.seeds ∧
    (State.afterCommand s x opcode).load = s.load ∧
    (State.afterCommand s x opcode).clusters = s.clusters ∧
    (State.afterCommand s x opcode).memory = s.memory ∧
    (State.afterCommand s x opcode).rig = s.rig ∧
    (State.afterCommand s x opcode).photonics = s.photonics ∧
    (State.afterCommand s x opcode).domain = s.domain ∧
    (State.afterCommand s x opcode).messages = s.messages ∧
    (State.afterCommand s x opcode).package = s.package ∧
    (State.afterCommand s x opcode).clocks = s.clocks ∧
    (State.afterCommand s x opcode).thermal = s.thermal ∧
    (State.afterCommand s x opcode).control = s.control ∧
    (State.afterCommand s x opcode).boot = s.boot ∧
    (State.afterCommand s x opcode).dbg = s.dbg ∧
    (State.afterCommand s x opcode).freeCount = s.freeCount := by
  unfold State.afterCommand
  try dsimp only
  (repeat' split) <;> simp_all -implicitDefEqProofs [↓prod_flip3, prod_flip]

@[simp] theorem State.completeCommands_kept (s : State) (x : Nat) (x2 : Nat) :
    (State.completeCommands s x x2).pending = s.pending ∧
    (State.completeCommands s x x2).fuses = s.fuses ∧
    (State.completeCommands s x x2).regs = s.regs ∧
    (State.completeCommands s x x2).shadows = s.shadows ∧
    (State.completeCommands s x x2).blobs = s.blobs ∧
    (State.completeCommands s x x2).blobShadows = s.blobShadows ∧
    (State.completeCommands s x x2).hubNeeds = s.hubNeeds ∧
    (State.completeCommands s x x2).commits = s.commits ∧
    (State.completeCommands s x x2).seeds = s.seeds ∧
    (State.completeCommands s x x2).load = s.load ∧
    (State.completeCommands s x x2).clusters = s.clusters ∧
    (State.completeCommands s x x2).memory = s.memory ∧
    (State.completeCommands s x x2).rig = s.rig ∧
    (State.completeCommands s x x2).photonics = s.photonics ∧
    (State.completeCommands s x x2).domain = s.domain ∧
    (State.completeCommands s x x2).messages = s.messages ∧
    (State.completeCommands s x x2).package = s.package ∧
    (State.completeCommands s x x2).clocks = s.clocks ∧
    (State.completeCommands s x x2).thermal = s.thermal ∧
    (State.completeCommands s x x2).control = s.control ∧
    (State.completeCommands s x x2).boot = s.boot ∧
    (State.completeCommands s x x2).dbg = s.dbg ∧
    (State.completeCommands s x x2).freeCount = s.freeCount := by
  induction x2 generalizing s x <;> unfold State.completeCommands <;> try dsimp only
  all_goals ((repeat' split) <;> simp_all -implicitDefEqProofs [↓prod_flip3, prod_flip])

@[simp] theorem State.applyIncs_kept (s : State) (x : Nat) (c : Nat) (d : BitVec 512) :
    (State.applyIncs s x c d).pending = s.pending ∧
    (State.applyIncs s x c d).fuses = s.fuses ∧
    (State.applyIncs s x c d).shadows = s.shadows ∧
    (State.applyIncs s x c d).blobShadows = s.blobShadows ∧
    (State.applyIncs s x c d).hubNeeds = s.hubNeeds ∧
    (State.applyIncs s x c d).seeds = s.seeds ∧
    (State.applyIncs s x c d).load = s.load ∧
    (State.applyIncs s x c d).photonics = s.photonics ∧
    (State.applyIncs s x c d).messages = s.messages ∧
    (State.applyIncs s x c d).package = s.package ∧
    (State.applyIncs s x c d).thermal = s.thermal ∧
    (State.applyIncs s x c d).boot = s.boot ∧
    (State.applyIncs s x c d).freeCount = s.freeCount := by
  unfold State.applyIncs
  try dsimp only
  (repeat' split) <;> simp_all -implicitDefEqProofs [↓prod_flip3, prod_flip]

@[simp] theorem State.sendHop_kept (s : State) (p : Nat) (e : HopEntry) :
    (State.sendHop s p e).pending = s.pending ∧
    (State.sendHop s p e).fuses = s.fuses ∧
    (State.sendHop s p e).regs = s.regs ∧
    (State.sendHop s p e).shadows = s.shadows ∧
    (State.sendHop s p e).blobs = s.blobs ∧
    (State.sendHop s p e).blobShadows = s.blobShadows ∧
    (State.sendHop s p e).hubNeeds = s.hubNeeds ∧
    (State.sendHop s p e).commits = s.commits ∧
    (State.sendHop s p e).seeds = s.seeds ∧
    (State.sendHop s p e).load = s.load ∧
    (State.sendHop s p e).clusters = s.clusters ∧
    (State.sendHop s p e).ctxs = s.ctxs ∧
    (State.sendHop s p e).memory = s.memory ∧
    (State.sendHop s p e).rig = s.rig ∧
    (State.sendHop s p e).coll = s.coll ∧
    (State.sendHop s p e).photonics = s.photonics ∧
    (State.sendHop s p e).messages = s.messages ∧
    (State.sendHop s p e).package = s.package ∧
    (State.sendHop s p e).clocks = s.clocks ∧
    (State.sendHop s p e).thermal = s.thermal ∧
    (State.sendHop s p e).boot = s.boot ∧
    (State.sendHop s p e).dbg = s.dbg ∧
    (State.sendHop s p e).freeCount = s.freeCount := by
  unfold State.sendHop
  try dsimp only
  (repeat' split) <;> simp_all -implicitDefEqProofs [↓prod_flip3, prod_flip]

@[simp] theorem State.resendHop_kept (s : State) (p : Nat) :
    (State.resendHop s p).pending = s.pending ∧
    (State.resendHop s p).fuses = s.fuses ∧
    (State.resendHop s p).regs = s.regs ∧
    (State.resendHop s p).shadows = s.shadows ∧
    (State.resendHop s p).blobs = s.blobs ∧
    (State.resendHop s p).blobShadows = s.blobShadows ∧
    (State.resendHop s p).hubNeeds = s.hubNeeds ∧
    (State.resendHop s p).commits = s.commits ∧
    (State.resendHop s p).seeds = s.seeds ∧
    (State.resendHop s p).load = s.load ∧
    (State.resendHop s p).clusters = s.clusters ∧
    (State.resendHop s p).ctxs = s.ctxs ∧
    (State.resendHop s p).memory = s.memory ∧
    (State.resendHop s p).rig = s.rig ∧
    (State.resendHop s p).coll = s.coll ∧
    (State.resendHop s p).photonics = s.photonics ∧
    (State.resendHop s p).messages = s.messages ∧
    (State.resendHop s p).package = s.package ∧
    (State.resendHop s p).clocks = s.clocks ∧
    (State.resendHop s p).thermal = s.thermal ∧
    (State.resendHop s p).boot = s.boot ∧
    (State.resendHop s p).dbg = s.dbg ∧
    (State.resendHop s p).freeCount = s.freeCount := by
  unfold State.resendHop
  try dsimp only
  (repeat' split) <;> simp_all -implicitDefEqProofs [↓prod_flip3, prod_flip]

@[simp] theorem State.sendHops_kept (s : State) (p : Nat) :
    (State.sendHops s p).pending = s.pending ∧
    (State.sendHops s p).fuses = s.fuses ∧
    (State.sendHops s p).regs = s.regs ∧
    (State.sendHops s p).shadows = s.shadows ∧
    (State.sendHops s p).blobs = s.blobs ∧
    (State.sendHops s p).blobShadows = s.blobShadows ∧
    (State.sendHops s p).hubNeeds = s.hubNeeds ∧
    (State.sendHops s p).commits = s.commits ∧
    (State.sendHops s p).seeds = s.seeds ∧
    (State.sendHops s p).load = s.load ∧
    (State.sendHops s p).clusters = s.clusters ∧
    (State.sendHops s p).ctxs = s.ctxs ∧
    (State.sendHops s p).memory = s.memory ∧
    (State.sendHops s p).rig = s.rig ∧
    (State.sendHops s p).coll = s.coll ∧
    (State.sendHops s p).photonics = s.photonics ∧
    (State.sendHops s p).messages = s.messages ∧
    (State.sendHops s p).package = s.package ∧
    (State.sendHops s p).clocks = s.clocks ∧
    (State.sendHops s p).thermal = s.thermal ∧
    (State.sendHops s p).boot = s.boot ∧
    (State.sendHops s p).dbg = s.dbg ∧
    (State.sendHops s p).freeCount = s.freeCount := by
  unfold State.sendHops
  try dsimp only
  (repeat' split) <;> simp_all -implicitDefEqProofs [↓prod_flip3, prod_flip]

@[simp] theorem State.toHop_kept (s : State) (p : Nat) (m : Message) :
    (State.toHop s p m).pending = s.pending ∧
    (State.toHop s p m).fuses = s.fuses ∧
    (State.toHop s p m).regs = s.regs ∧
    (State.toHop s p m).shadows = s.shadows ∧
    (State.toHop s p m).blobs = s.blobs ∧
    (State.toHop s p m).blobShadows = s.blobShadows ∧
    (State.toHop s p m).hubNeeds = s.hubNeeds ∧
    (State.toHop s p m).commits = s.commits ∧
    (State.toHop s p m).seeds = s.seeds ∧
    (State.toHop s p m).load = s.load ∧
    (State.toHop s p m).clusters = s.clusters ∧
    (State.toHop s p m).ctxs = s.ctxs ∧
    (State.toHop s p m).memory = s.memory ∧
    (State.toHop s p m).rig = s.rig ∧
    (State.toHop s p m).coll = s.coll ∧
    (State.toHop s p m).photonics = s.photonics ∧
    (State.toHop s p m).messages = s.messages ∧
    (State.toHop s p m).package = s.package ∧
    (State.toHop s p m).clocks = s.clocks ∧
    (State.toHop s p m).thermal = s.thermal ∧
    (State.toHop s p m).boot = s.boot ∧
    (State.toHop s p m).dbg = s.dbg ∧
    (State.toHop s p m).freeCount = s.freeCount := by
  unfold State.toHop
  try dsimp only
  (repeat' split) <;> simp_all -implicitDefEqProofs [↓prod_flip3, prod_flip]

@[simp] theorem State.hopAcked_kept (s : State) (p : Nat) (n : Nat) :
    (State.hopAcked s p n).pending = s.pending ∧
    (State.hopAcked s p n).fuses = s.fuses ∧
    (State.hopAcked s p n).regs = s.regs ∧
    (State.hopAcked s p n).shadows = s.shadows ∧
    (State.hopAcked s p n).blobs = s.blobs ∧
    (State.hopAcked s p n).blobShadows = s.blobShadows ∧
    (State.hopAcked s p n).hubNeeds = s.hubNeeds ∧
    (State.hopAcked s p n).commits = s.commits ∧
    (State.hopAcked s p n).seeds = s.seeds ∧
    (State.hopAcked s p n).load = s.load ∧
    (State.hopAcked s p n).clusters = s.clusters ∧
    (State.hopAcked s p n).ctxs = s.ctxs ∧
    (State.hopAcked s p n).memory = s.memory ∧
    (State.hopAcked s p n).rig = s.rig ∧
    (State.hopAcked s p n).coll = s.coll ∧
    (State.hopAcked s p n).photonics = s.photonics ∧
    (State.hopAcked s p n).messages = s.messages ∧
    (State.hopAcked s p n).package = s.package ∧
    (State.hopAcked s p n).clocks = s.clocks ∧
    (State.hopAcked s p n).thermal = s.thermal ∧
    (State.hopAcked s p n).control = s.control ∧
    (State.hopAcked s p n).boot = s.boot ∧
    (State.hopAcked s p n).dbg = s.dbg ∧
    (State.hopAcked s p n).freeCount = s.freeCount := by
  unfold State.hopAcked
  try dsimp only
  (repeat' split) <;> simp_all -implicitDefEqProofs [↓prod_flip3, prod_flip]

@[simp] theorem State.messageFault_kept (s : State) (k : TrackedMessage) (code : Nat) :
    (State.messageFault s k code).pending = s.pending ∧
    (State.messageFault s k code).fuses = s.fuses ∧
    (State.messageFault s k code).shadows = s.shadows ∧
    (State.messageFault s k code).blobs = s.blobs ∧
    (State.messageFault s k code).blobShadows = s.blobShadows ∧
    (State.messageFault s k code).hubNeeds = s.hubNeeds ∧
    (State.messageFault s k code).seeds = s.seeds ∧
    (State.messageFault s k code).load = s.load ∧
    (State.messageFault s k code).clusters = s.clusters ∧
    (State.messageFault s k code).memory = s.memory ∧
    (State.messageFault s k code).rig = s.rig ∧
    (State.messageFault s k code).photonics = s.photonics ∧
    (State.messageFault s k code).domain = s.domain ∧
    (State.messageFault s k code).messages = s.messages ∧
    (State.messageFault s k code).package = s.package ∧
    (State.messageFault s k code).clocks = s.clocks ∧
    (State.messageFault s k code).thermal = s.thermal ∧
    (State.messageFault s k code).boot = s.boot ∧
    (State.messageFault s k code).freeCount = s.freeCount := by
  unfold State.messageFault
  try dsimp only
  (repeat' split) <;> simp_all -implicitDefEqProofs [↓prod_flip3, prod_flip]

@[simp] theorem State.messageEnded_kept (s : State) (edge : Nat) (entry : Nat) (status : Nat) :
    (State.messageEnded s edge entry status).pending = s.pending ∧
    (State.messageEnded s edge entry status).fuses = s.fuses ∧
    (State.messageEnded s edge entry status).shadows = s.shadows ∧
    (State.messageEnded s edge entry status).blobs = s.blobs ∧
    (State.messageEnded s edge entry status).blobShadows = s.blobShadows ∧
    (State.messageEnded s edge entry status).hubNeeds = s.hubNeeds ∧
    (State.messageEnded s edge entry status).seeds = s.seeds ∧
    (State.messageEnded s edge entry status).load = s.load ∧
    (State.messageEnded s edge entry status).clusters = s.clusters ∧
    (State.messageEnded s edge entry status).memory = s.memory ∧
    (State.messageEnded s edge entry status).rig = s.rig ∧
    (State.messageEnded s edge entry status).photonics = s.photonics ∧
    (State.messageEnded s edge entry status).domain = s.domain ∧
    (State.messageEnded s edge entry status).package = s.package ∧
    (State.messageEnded s edge entry status).clocks = s.clocks ∧
    (State.messageEnded s edge entry status).thermal = s.thermal ∧
    (State.messageEnded s edge entry status).boot = s.boot ∧
    (State.messageEnded s edge entry status).freeCount = s.freeCount := by
  unfold State.messageEnded
  try dsimp only
  (repeat' split) <;> simp_all -implicitDefEqProofs [↓prod_flip3, prod_flip]

@[simp] theorem State.sendDone_kept (s : State) (id : Nat) (status : Nat) :
    (State.sendDone s id status).pending = s.pending ∧
    (State.sendDone s id status).fuses = s.fuses ∧
    (State.sendDone s id status).shadows = s.shadows ∧
    (State.sendDone s id status).blobs = s.blobs ∧
    (State.sendDone s id status).blobShadows = s.blobShadows ∧
    (State.sendDone s id status).hubNeeds = s.hubNeeds ∧
    (State.sendDone s id status).seeds = s.seeds ∧
    (State.sendDone s id status).load = s.load ∧
    (State.sendDone s id status).clusters = s.clusters ∧
    (State.sendDone s id status).memory = s.memory ∧
    (State.sendDone s id status).rig = s.rig ∧
    (State.sendDone s id status).photonics = s.photonics ∧
    (State.sendDone s id status).package = s.package ∧
    (State.sendDone s id status).clocks = s.clocks ∧
    (State.sendDone s id status).thermal = s.thermal ∧
    (State.sendDone s id status).boot = s.boot ∧
    (State.sendDone s id status).freeCount = s.freeCount := by
  unfold State.sendDone
  try dsimp only
  (repeat' split) <;> simp_all -implicitDefEqProofs [↓prod_flip3, prod_flip]

@[simp] theorem State.admitMessage_kept (s : State) (x : Nat) (c : Nat) (edge : Nat) (payload : List Byte) :
    (State.admitMessage s x c edge payload).pending = s.pending ∧
    (State.admitMessage s x c edge payload).fuses = s.fuses ∧
    (State.admitMessage s x c edge payload).shadows = s.shadows ∧
    (State.admitMessage s x c edge payload).blobs = s.blobs ∧
    (State.admitMessage s x c edge payload).blobShadows = s.blobShadows ∧
    (State.admitMessage s x c edge payload).hubNeeds = s.hubNeeds ∧
    (State.admitMessage s x c edge payload).commits = s.commits ∧
    (State.admitMessage s x c edge payload).seeds = s.seeds ∧
    (State.admitMessage s x c edge payload).load = s.load ∧
    (State.admitMessage s x c edge payload).clusters = s.clusters ∧
    (State.admitMessage s x c edge payload).memory = s.memory ∧
    (State.admitMessage s x c edge payload).rig = s.rig ∧
    (State.admitMessage s x c edge payload).coll = s.coll ∧
    (State.admitMessage s x c edge payload).photonics = s.photonics ∧
    (State.admitMessage s x c edge payload).domain = s.domain ∧
    (State.admitMessage s x c edge payload).package = s.package ∧
    (State.admitMessage s x c edge payload).clocks = s.clocks ∧
    (State.admitMessage s x c edge payload).thermal = s.thermal ∧
    (State.admitMessage s x c edge payload).control = s.control ∧
    (State.admitMessage s x c edge payload).boot = s.boot ∧
    (State.admitMessage s x c edge payload).dbg = s.dbg ∧
    (State.admitMessage s x c edge payload).freeCount = s.freeCount := by
  unfold State.admitMessage
  try dsimp only
  (repeat' split) <;> simp_all -implicitDefEqProofs [↓prod_flip3, prod_flip]

@[simp] theorem State.releaseOwn_kept (s : State) (x : Nat) (c : Nat) (n : Nat) :
    (State.releaseOwn s x c n).pending = s.pending ∧
    (State.releaseOwn s x c n).fuses = s.fuses ∧
    (State.releaseOwn s x c n).regs = s.regs ∧
    (State.releaseOwn s x c n).shadows = s.shadows ∧
    (State.releaseOwn s x c n).blobs = s.blobs ∧
    (State.releaseOwn s x c n).blobShadows = s.blobShadows ∧
    (State.releaseOwn s x c n).hubNeeds = s.hubNeeds ∧
    (State.releaseOwn s x c n).commits = s.commits ∧
    (State.releaseOwn s x c n).seeds = s.seeds ∧
    (State.releaseOwn s x c n).load = s.load ∧
    (State.releaseOwn s x c n).ctxs = s.ctxs ∧
    (State.releaseOwn s x c n).rig = s.rig ∧
    (State.releaseOwn s x c n).coll = s.coll ∧
    (State.releaseOwn s x c n).photonics = s.photonics ∧
    (State.releaseOwn s x c n).domain = s.domain ∧
    (State.releaseOwn s x c n).messages = s.messages ∧
    (State.releaseOwn s x c n).package = s.package ∧
    (State.releaseOwn s x c n).clocks = s.clocks ∧
    (State.releaseOwn s x c n).thermal = s.thermal ∧
    (State.releaseOwn s x c n).control = s.control ∧
    (State.releaseOwn s x c n).boot = s.boot ∧
    (State.releaseOwn s x c n).dbg = s.dbg ∧
    (State.releaseOwn s x c n).freeCount = s.freeCount := by
  unfold State.releaseOwn
  try dsimp only
  (repeat' split) <;> simp_all -implicitDefEqProofs [↓prod_flip3, prod_flip]

@[simp] theorem State.failPart_kept (s : State) (p : Part) (code : Nat) :
    (State.failPart s p code).pending = s.pending ∧
    (State.failPart s p code).fuses = s.fuses ∧
    (State.failPart s p code).shadows = s.shadows ∧
    (State.failPart s p code).blobs = s.blobs ∧
    (State.failPart s p code).blobShadows = s.blobShadows ∧
    (State.failPart s p code).hubNeeds = s.hubNeeds ∧
    (State.failPart s p code).seeds = s.seeds ∧
    (State.failPart s p code).load = s.load ∧
    (State.failPart s p code).rig = s.rig ∧
    (State.failPart s p code).photonics = s.photonics ∧
    (State.failPart s p code).messages = s.messages ∧
    (State.failPart s p code).package = s.package ∧
    (State.failPart s p code).clocks = s.clocks ∧
    (State.failPart s p code).thermal = s.thermal ∧
    (State.failPart s p code).boot = s.boot ∧
    (State.failPart s p code).freeCount = s.freeCount := by
  unfold State.failPart
  try dsimp only
  (repeat' split) <;> simp_all -implicitDefEqProofs [↓prod_flip3, prod_flip]

@[simp] theorem State.deliverLocal_kept (s : State) (p : Part) (a : Nat) (d : List Byte) :
    (State.deliverLocal s p a d).pending = s.pending ∧
    (State.deliverLocal s p a d).fuses = s.fuses ∧
    (State.deliverLocal s p a d).shadows = s.shadows ∧
    (State.deliverLocal s p a d).blobShadows = s.blobShadows ∧
    (State.deliverLocal s p a d).hubNeeds = s.hubNeeds ∧
    (State.deliverLocal s p a d).seeds = s.seeds ∧
    (State.deliverLocal s p a d).load = s.load ∧
    (State.deliverLocal s p a d).rig = s.rig ∧
    (State.deliverLocal s p a d).photonics = s.photonics ∧
    (State.deliverLocal s p a d).messages = s.messages ∧
    (State.deliverLocal s p a d).package = s.package ∧
    (State.deliverLocal s p a d).thermal = s.thermal ∧
    (State.deliverLocal s p a d).boot = s.boot ∧
    (State.deliverLocal s p a d).freeCount = s.freeCount := by
  unfold State.deliverLocal
  try dsimp only
  (repeat' split) <;> simp_all -implicitDefEqProofs [↓prod_flip3, prod_flip]

@[simp] theorem State.completePart_kept (s : State) (p : Part) (a : Answer) :
    (State.completePart s p a).pending = s.pending ∧
    (State.completePart s p a).fuses = s.fuses ∧
    (State.completePart s p a).shadows = s.shadows ∧
    (State.completePart s p a).blobShadows = s.blobShadows ∧
    (State.completePart s p a).hubNeeds = s.hubNeeds ∧
    (State.completePart s p a).seeds = s.seeds ∧
    (State.completePart s p a).load = s.load ∧
    (State.completePart s p a).photonics = s.photonics ∧
    (State.completePart s p a).package = s.package ∧
    (State.completePart s p a).thermal = s.thermal ∧
    (State.completePart s p a).boot = s.boot ∧
    (State.completePart s p a).freeCount = s.freeCount := by
  unfold State.completePart
  try dsimp only
  (repeat' split) <;> simp_all -implicitDefEqProofs [↓prod_flip3, prod_flip]

@[simp] theorem State.noteReply_kept (s : State) (o : Outstanding) :
    (State.noteReply s o).pending = s.pending ∧
    (State.noteReply s o).fuses = s.fuses ∧
    (State.noteReply s o).regs = s.regs ∧
    (State.noteReply s o).shadows = s.shadows ∧
    (State.noteReply s o).blobs = s.blobs ∧
    (State.noteReply s o).blobShadows = s.blobShadows ∧
    (State.noteReply s o).hubNeeds = s.hubNeeds ∧
    (State.noteReply s o).commits = s.commits ∧
    (State.noteReply s o).seeds = s.seeds ∧
    (State.noteReply s o).load = s.load ∧
    (State.noteReply s o).clusters = s.clusters ∧
    (State.noteReply s o).ctxs = s.ctxs ∧
    (State.noteReply s o).memory = s.memory ∧
    (State.noteReply s o).rig = s.rig ∧
    (State.noteReply s o).coll = s.coll ∧
    (State.noteReply s o).photonics = s.photonics ∧
    (State.noteReply s o).domain = s.domain ∧
    (State.noteReply s o).messages = s.messages ∧
    (State.noteReply s o).package = s.package ∧
    (State.noteReply s o).clocks = s.clocks ∧
    (State.noteReply s o).thermal = s.thermal ∧
    (State.noteReply s o).control = s.control ∧
    (State.noteReply s o).boot = s.boot ∧
    (State.noteReply s o).freeCount = s.freeCount := by
  unfold State.noteReply
  try dsimp only
  (repeat' split) <;> simp_all -implicitDefEqProofs [↓prod_flip3, prod_flip]

@[simp] theorem State.finishOutstanding_kept (s : State) (o : Outstanding) (a : Answer) :
    (State.finishOutstanding s o a).pending = s.pending ∧
    (State.finishOutstanding s o a).fuses = s.fuses ∧
    (State.finishOutstanding s o a).shadows = s.shadows ∧
    (State.finishOutstanding s o a).blobShadows = s.blobShadows ∧
    (State.finishOutstanding s o a).hubNeeds = s.hubNeeds ∧
    (State.finishOutstanding s o a).seeds = s.seeds ∧
    (State.finishOutstanding s o a).load = s.load ∧
    (State.finishOutstanding s o a).photonics = s.photonics ∧
    (State.finishOutstanding s o a).package = s.package ∧
    (State.finishOutstanding s o a).thermal = s.thermal ∧
    (State.finishOutstanding s o a).boot = s.boot ∧
    (State.finishOutstanding s o a).freeCount = s.freeCount := by
  unfold State.finishOutstanding
  try dsimp only
  (repeat' split) <;> simp_all -implicitDefEqProofs [↓prod_flip3, prod_flip]

@[simp] theorem State.answerPeer_kept (s : State) (p : Nat) (q : Req) (a : Answer) :
    (State.answerPeer s p q a).pending = s.pending ∧
    (State.answerPeer s p q a).fuses = s.fuses ∧
    (State.answerPeer s p q a).regs = s.regs ∧
    (State.answerPeer s p q a).shadows = s.shadows ∧
    (State.answerPeer s p q a).blobs = s.blobs ∧
    (State.answerPeer s p q a).blobShadows = s.blobShadows ∧
    (State.answerPeer s p q a).hubNeeds = s.hubNeeds ∧
    (State.answerPeer s p q a).commits = s.commits ∧
    (State.answerPeer s p q a).seeds = s.seeds ∧
    (State.answerPeer s p q a).load = s.load ∧
    (State.answerPeer s p q a).clusters = s.clusters ∧
    (State.answerPeer s p q a).ctxs = s.ctxs ∧
    (State.answerPeer s p q a).memory = s.memory ∧
    (State.answerPeer s p q a).rig = s.rig ∧
    (State.answerPeer s p q a).coll = s.coll ∧
    (State.answerPeer s p q a).photonics = s.photonics ∧
    (State.answerPeer s p q a).messages = s.messages ∧
    (State.answerPeer s p q a).package = s.package ∧
    (State.answerPeer s p q a).clocks = s.clocks ∧
    (State.answerPeer s p q a).thermal = s.thermal ∧
    (State.answerPeer s p q a).boot = s.boot ∧
    (State.answerPeer s p q a).dbg = s.dbg ∧
    (State.answerPeer s p q a).freeCount = s.freeCount := by
  unfold State.answerPeer
  try dsimp only
  (repeat' split) <;> simp_all -implicitDefEqProofs [↓prod_flip3, prod_flip]

@[simp] theorem State.answerOrigin_kept (s : State) (q : Req) (a : Answer) :
    (State.answerOrigin s q a).pending = s.pending ∧
    (State.answerOrigin s q a).fuses = s.fuses ∧
    (State.answerOrigin s q a).shadows = s.shadows ∧
    (State.answerOrigin s q a).blobShadows = s.blobShadows ∧
    (State.answerOrigin s q a).hubNeeds = s.hubNeeds ∧
    (State.answerOrigin s q a).seeds = s.seeds ∧
    (State.answerOrigin s q a).load = s.load ∧
    (State.answerOrigin s q a).photonics = s.photonics ∧
    (State.answerOrigin s q a).package = s.package ∧
    (State.answerOrigin s q a).thermal = s.thermal ∧
    (State.answerOrigin s q a).boot = s.boot ∧
    (State.answerOrigin s q a).freeCount = s.freeCount := by
  unfold State.answerOrigin
  try dsimp only
  (repeat' split) <;> simp_all -implicitDefEqProofs [↓prod_flip3, prod_flip]

@[simp] theorem State.packetIncrement_kept (s : State) (q : Req) :
    (State.packetIncrement s q).2.pending = s.pending ∧
    (State.packetIncrement s q).2.fuses = s.fuses ∧
    (State.packetIncrement s q).2.shadows = s.shadows ∧
    (State.packetIncrement s q).2.blobShadows = s.blobShadows ∧
    (State.packetIncrement s q).2.hubNeeds = s.hubNeeds ∧
    (State.packetIncrement s q).2.commits = s.commits ∧
    (State.packetIncrement s q).2.seeds = s.seeds ∧
    (State.packetIncrement s q).2.load = s.load ∧
    (State.packetIncrement s q).2.coll = s.coll ∧
    (State.packetIncrement s q).2.photonics = s.photonics ∧
    (State.packetIncrement s q).2.domain = s.domain ∧
    (State.packetIncrement s q).2.messages = s.messages ∧
    (State.packetIncrement s q).2.package = s.package ∧
    (State.packetIncrement s q).2.thermal = s.thermal ∧
    (State.packetIncrement s q).2.boot = s.boot ∧
    (State.packetIncrement s q).2.freeCount = s.freeCount := by
  unfold State.packetIncrement
  try dsimp only
  (repeat' split) <;> simp_all -implicitDefEqProofs [↓prod_flip3, prod_flip]

@[simp] theorem State.packetFault_kept (s : State) (q : Req) (code : Nat) :
    (State.packetFault s q code).pending = s.pending ∧
    (State.packetFault s q code).fuses = s.fuses ∧
    (State.packetFault s q code).shadows = s.shadows ∧
    (State.packetFault s q code).blobShadows = s.blobShadows ∧
    (State.packetFault s q code).hubNeeds = s.hubNeeds ∧
    (State.packetFault s q code).seeds = s.seeds ∧
    (State.packetFault s q code).load = s.load ∧
    (State.packetFault s q code).photonics = s.photonics ∧
    (State.packetFault s q code).package = s.package ∧
    (State.packetFault s q code).thermal = s.thermal ∧
    (State.packetFault s q code).boot = s.boot ∧
    (State.packetFault s q code).freeCount = s.freeCount := by
  unfold State.packetFault
  try dsimp only
  (repeat' split) <;> simp_all -implicitDefEqProofs [↓prod_flip3, prod_flip]

@[simp] theorem State.transferLanded_kept (s : State) (q : Req) :
    (State.transferLanded s q).pending = s.pending ∧
    (State.transferLanded s q).fuses = s.fuses ∧
    (State.transferLanded s q).regs = s.regs ∧
    (State.transferLanded s q).shadows = s.shadows ∧
    (State.transferLanded s q).blobs = s.blobs ∧
    (State.transferLanded s q).blobShadows = s.blobShadows ∧
    (State.transferLanded s q).hubNeeds = s.hubNeeds ∧
    (State.transferLanded s q).commits = s.commits ∧
    (State.transferLanded s q).seeds = s.seeds ∧
    (State.transferLanded s q).load = s.load ∧
    (State.transferLanded s q).clusters = s.clusters ∧
    (State.transferLanded s q).ctxs = s.ctxs ∧
    (State.transferLanded s q).memory = s.memory ∧
    (State.transferLanded s q).rig = s.rig ∧
    (State.transferLanded s q).photonics = s.photonics ∧
    (State.transferLanded s q).domain = s.domain ∧
    (State.transferLanded s q).messages = s.messages ∧
    (State.transferLanded s q).package = s.package ∧
    (State.transferLanded s q).clocks = s.clocks ∧
    (State.transferLanded s q).thermal = s.thermal ∧
    (State.transferLanded s q).control = s.control ∧
    (State.transferLanded s q).boot = s.boot ∧
    (State.transferLanded s q).dbg = s.dbg ∧
    (State.transferLanded s q).freeCount = s.freeCount := by
  unfold State.transferLanded
  try dsimp only
  (repeat' split) <;> simp_all -implicitDefEqProofs [↓prod_flip3, prod_flip]

@[simp] theorem State.performWrite_kept (s : State) (q : Req) (r : Requester) :
    (State.performWrite s q r).2.pending = s.pending ∧
    (State.performWrite s q r).2.fuses = s.fuses ∧
    (State.performWrite s q r).2.shadows = s.shadows ∧
    (State.performWrite s q r).2.blobShadows = s.blobShadows ∧
    (State.performWrite s q r).2.hubNeeds = s.hubNeeds ∧
    (State.performWrite s q r).2.commits = s.commits ∧
    (State.performWrite s q r).2.seeds = s.seeds ∧
    (State.performWrite s q r).2.load = s.load ∧
    (State.performWrite s q r).2.coll = s.coll ∧
    (State.performWrite s q r).2.photonics = s.photonics ∧
    (State.performWrite s q r).2.messages = s.messages ∧
    (State.performWrite s q r).2.package = s.package ∧
    (State.performWrite s q r).2.thermal = s.thermal ∧
    (State.performWrite s q r).2.boot = s.boot ∧
    (State.performWrite s q r).2.freeCount = s.freeCount := by
  unfold State.performWrite
  try dsimp only
  (repeat' split) <;> simp_all -implicitDefEqProofs [↓prod_flip3, prod_flip]

@[simp] theorem State.settleWrite_kept (s : State) (q : Req) (a : Answer) :
    (State.settleWrite s q a).pending = s.pending ∧
    (State.settleWrite s q a).fuses = s.fuses ∧
    (State.settleWrite s q a).shadows = s.shadows ∧
    (State.settleWrite s q a).blobShadows = s.blobShadows ∧
    (State.settleWrite s q a).hubNeeds = s.hubNeeds ∧
    (State.settleWrite s q a).seeds = s.seeds ∧
    (State.settleWrite s q a).load = s.load ∧
    (State.settleWrite s q a).photonics = s.photonics ∧
    (State.settleWrite s q a).package = s.package ∧
    (State.settleWrite s q a).thermal = s.thermal ∧
    (State.settleWrite s q a).boot = s.boot ∧
    (State.settleWrite s q a).freeCount = s.freeCount := by
  unfold State.settleWrite
  try dsimp only
  (repeat' split) <;> simp_all -implicitDefEqProofs [↓prod_flip3, prod_flip]

@[simp] theorem State.applyHeld_kept (s : State) (x1 : List Req) :
    (State.applyHeld s x1).pending = s.pending ∧
    (State.applyHeld s x1).fuses = s.fuses ∧
    (State.applyHeld s x1).shadows = s.shadows ∧
    (State.applyHeld s x1).blobShadows = s.blobShadows ∧
    (State.applyHeld s x1).hubNeeds = s.hubNeeds ∧
    (State.applyHeld s x1).seeds = s.seeds ∧
    (State.applyHeld s x1).load = s.load ∧
    (State.applyHeld s x1).photonics = s.photonics ∧
    (State.applyHeld s x1).package = s.package ∧
    (State.applyHeld s x1).thermal = s.thermal ∧
    (State.applyHeld s x1).boot = s.boot ∧
    (State.applyHeld s x1).freeCount = s.freeCount := by
  induction x1 generalizing s <;> unfold State.applyHeld <;> try dsimp only
  all_goals ((repeat' split) <;> simp_all -implicitDefEqProofs [↓prod_flip3, prod_flip])

@[simp] theorem State.openCrossing_kept (s : State) (z : Nat) :
    (State.openCrossing s z).pending = s.pending ∧
    (State.openCrossing s z).fuses = s.fuses ∧
    (State.openCrossing s z).shadows = s.shadows ∧
    (State.openCrossing s z).blobShadows = s.blobShadows ∧
    (State.openCrossing s z).hubNeeds = s.hubNeeds ∧
    (State.openCrossing s z).seeds = s.seeds ∧
    (State.openCrossing s z).load = s.load ∧
    (State.openCrossing s z).photonics = s.photonics ∧
    (State.openCrossing s z).package = s.package ∧
    (State.openCrossing s z).thermal = s.thermal ∧
    (State.openCrossing s z).boot = s.boot ∧
    (State.openCrossing s z).freeCount = s.freeCount := by
  unfold State.openCrossing
  try dsimp only
  (repeat' split) <;> simp_all -implicitDefEqProofs [↓prod_flip3, prod_flip]

end Sys2Proof.Machine
end

