-- ==== Sys2Proof/Laws/FramesRig.lean ====
section
/-! SUPPORT. What each operation on State leaves unchanged (the rig, photonics, the domain, the scheduler and homes): for every operation that answers a state, the fields that it
never writes, as equations for simp. -/

namespace Sys2Proof.Machine

set_option linter.unusedSimpArgs false
set_option linter.unnecessarySeqFocus false
set_option linter.unusedTactic false
set_option linter.unreachableTactic false
set_option maxRecDepth 4000

@[simp] theorem State.toOutbox_kept (s : State) (l : List Packet) :
    (State.toOutbox s l).pending = s.pending ∧
    (State.toOutbox s l).fuses = s.fuses ∧
    (State.toOutbox s l).regs = s.regs ∧
    (State.toOutbox s l).shadows = s.shadows ∧
    (State.toOutbox s l).blobs = s.blobs ∧
    (State.toOutbox s l).blobShadows = s.blobShadows ∧
    (State.toOutbox s l).hubNeeds = s.hubNeeds ∧
    (State.toOutbox s l).commits = s.commits ∧
    (State.toOutbox s l).seeds = s.seeds ∧
    (State.toOutbox s l).load = s.load ∧
    (State.toOutbox s l).clusters = s.clusters ∧
    (State.toOutbox s l).ctxs = s.ctxs ∧
    (State.toOutbox s l).memory = s.memory ∧
    (State.toOutbox s l).coll = s.coll ∧
    (State.toOutbox s l).photonics = s.photonics ∧
    (State.toOutbox s l).domain = s.domain ∧
    (State.toOutbox s l).messages = s.messages ∧
    (State.toOutbox s l).package = s.package ∧
    (State.toOutbox s l).clocks = s.clocks ∧
    (State.toOutbox s l).thermal = s.thermal ∧
    (State.toOutbox s l).control = s.control ∧
    (State.toOutbox s l).boot = s.boot ∧
    (State.toOutbox s l).dbg = s.dbg ∧
    (State.toOutbox s l).freeCount = s.freeCount := by
  unfold State.toOutbox
  try dsimp only
  (repeat' split) <;> simp_all -implicitDefEqProofs [↓prod_flip3, prod_flip]

@[simp] theorem State.spend_kept (s : State) (src : Nat) (dst : Nat) (vc : Nat) (n : Nat) :
    (State.spend s src dst vc n).pending = s.pending ∧
    (State.spend s src dst vc n).fuses = s.fuses ∧
    (State.spend s src dst vc n).regs = s.regs ∧
    (State.spend s src dst vc n).shadows = s.shadows ∧
    (State.spend s src dst vc n).blobs = s.blobs ∧
    (State.spend s src dst vc n).blobShadows = s.blobShadows ∧
    (State.spend s src dst vc n).hubNeeds = s.hubNeeds ∧
    (State.spend s src dst vc n).commits = s.commits ∧
    (State.spend s src dst vc n).seeds = s.seeds ∧
    (State.spend s src dst vc n).load = s.load ∧
    (State.spend s src dst vc n).clusters = s.clusters ∧
    (State.spend s src dst vc n).ctxs = s.ctxs ∧
    (State.spend s src dst vc n).memory = s.memory ∧
    (State.spend s src dst vc n).coll = s.coll ∧
    (State.spend s src dst vc n).photonics = s.photonics ∧
    (State.spend s src dst vc n).domain = s.domain ∧
    (State.spend s src dst vc n).messages = s.messages ∧
    (State.spend s src dst vc n).package = s.package ∧
    (State.spend s src dst vc n).clocks = s.clocks ∧
    (State.spend s src dst vc n).thermal = s.thermal ∧
    (State.spend s src dst vc n).control = s.control ∧
    (State.spend s src dst vc n).boot = s.boot ∧
    (State.spend s src dst vc n).dbg = s.dbg ∧
    (State.spend s src dst vc n).freeCount = s.freeCount := by
  unfold State.spend
  try dsimp only
  (repeat' split) <;> simp_all -implicitDefEqProofs [↓prod_flip3, prod_flip]

@[simp] theorem State.unspend_kept (s : State) (src : Nat) (dst : Nat) (vc : Nat) (n : Nat) :
    (State.unspend s src dst vc n).pending = s.pending ∧
    (State.unspend s src dst vc n).fuses = s.fuses ∧
    (State.unspend s src dst vc n).regs = s.regs ∧
    (State.unspend s src dst vc n).shadows = s.shadows ∧
    (State.unspend s src dst vc n).blobs = s.blobs ∧
    (State.unspend s src dst vc n).blobShadows = s.blobShadows ∧
    (State.unspend s src dst vc n).hubNeeds = s.hubNeeds ∧
    (State.unspend s src dst vc n).commits = s.commits ∧
    (State.unspend s src dst vc n).seeds = s.seeds ∧
    (State.unspend s src dst vc n).load = s.load ∧
    (State.unspend s src dst vc n).clusters = s.clusters ∧
    (State.unspend s src dst vc n).ctxs = s.ctxs ∧
    (State.unspend s src dst vc n).memory = s.memory ∧
    (State.unspend s src dst vc n).coll = s.coll ∧
    (State.unspend s src dst vc n).photonics = s.photonics ∧
    (State.unspend s src dst vc n).domain = s.domain ∧
    (State.unspend s src dst vc n).messages = s.messages ∧
    (State.unspend s src dst vc n).package = s.package ∧
    (State.unspend s src dst vc n).clocks = s.clocks ∧
    (State.unspend s src dst vc n).thermal = s.thermal ∧
    (State.unspend s src dst vc n).control = s.control ∧
    (State.unspend s src dst vc n).boot = s.boot ∧
    (State.unspend s src dst vc n).dbg = s.dbg ∧
    (State.unspend s src dst vc n).freeCount = s.freeCount := by
  unfold State.unspend
  try dsimp only
  (repeat' split) <;> simp_all -implicitDefEqProofs [↓prod_flip3, prod_flip]

@[simp] theorem State.grantReservations_kept (s : State) (site : Nat) (x2 : List McReservation) :
    (State.grantReservations s site x2).pending = s.pending ∧
    (State.grantReservations s site x2).fuses = s.fuses ∧
    (State.grantReservations s site x2).regs = s.regs ∧
    (State.grantReservations s site x2).shadows = s.shadows ∧
    (State.grantReservations s site x2).blobs = s.blobs ∧
    (State.grantReservations s site x2).blobShadows = s.blobShadows ∧
    (State.grantReservations s site x2).hubNeeds = s.hubNeeds ∧
    (State.grantReservations s site x2).commits = s.commits ∧
    (State.grantReservations s site x2).seeds = s.seeds ∧
    (State.grantReservations s site x2).load = s.load ∧
    (State.grantReservations s site x2).clusters = s.clusters ∧
    (State.grantReservations s site x2).ctxs = s.ctxs ∧
    (State.grantReservations s site x2).memory = s.memory ∧
    (State.grantReservations s site x2).coll = s.coll ∧
    (State.grantReservations s site x2).photonics = s.photonics ∧
    (State.grantReservations s site x2).domain = s.domain ∧
    (State.grantReservations s site x2).messages = s.messages ∧
    (State.grantReservations s site x2).package = s.package ∧
    (State.grantReservations s site x2).clocks = s.clocks ∧
    (State.grantReservations s site x2).thermal = s.thermal ∧
    (State.grantReservations s site x2).control = s.control ∧
    (State.grantReservations s site x2).boot = s.boot ∧
    (State.grantReservations s site x2).dbg = s.dbg ∧
    (State.grantReservations s site x2).freeCount = s.freeCount := by
  induction x2 generalizing s site <;> unfold State.grantReservations <;> try dsimp only
  all_goals ((repeat' split) <;> simp_all -implicitDefEqProofs [↓prod_flip3, prod_flip])

@[simp] theorem State.free_kept (s : State) (src : Nat) (dst : Nat) (vc : Nat) (n : Nat) :
    (State.free s src dst vc n).pending = s.pending ∧
    (State.free s src dst vc n).fuses = s.fuses ∧
    (State.free s src dst vc n).regs = s.regs ∧
    (State.free s src dst vc n).shadows = s.shadows ∧
    (State.free s src dst vc n).blobs = s.blobs ∧
    (State.free s src dst vc n).blobShadows = s.blobShadows ∧
    (State.free s src dst vc n).hubNeeds = s.hubNeeds ∧
    (State.free s src dst vc n).commits = s.commits ∧
    (State.free s src dst vc n).seeds = s.seeds ∧
    (State.free s src dst vc n).load = s.load ∧
    (State.free s src dst vc n).clusters = s.clusters ∧
    (State.free s src dst vc n).ctxs = s.ctxs ∧
    (State.free s src dst vc n).memory = s.memory ∧
    (State.free s src dst vc n).coll = s.coll ∧
    (State.free s src dst vc n).photonics = s.photonics ∧
    (State.free s src dst vc n).domain = s.domain ∧
    (State.free s src dst vc n).messages = s.messages ∧
    (State.free s src dst vc n).package = s.package ∧
    (State.free s src dst vc n).clocks = s.clocks ∧
    (State.free s src dst vc n).thermal = s.thermal ∧
    (State.free s src dst vc n).control = s.control ∧
    (State.free s src dst vc n).boot = s.boot ∧
    (State.free s src dst vc n).dbg = s.dbg ∧
    (State.free s src dst vc n).freeCount = s.freeCount := by
  unfold State.free
  try dsimp only
  (repeat' split) <;> simp_all -implicitDefEqProofs [↓prod_flip3, prod_flip]

@[simp] theorem State.launch_kept (s : State) (l : List Flight) :
    (State.launch s l).pending = s.pending ∧
    (State.launch s l).fuses = s.fuses ∧
    (State.launch s l).regs = s.regs ∧
    (State.launch s l).shadows = s.shadows ∧
    (State.launch s l).blobs = s.blobs ∧
    (State.launch s l).blobShadows = s.blobShadows ∧
    (State.launch s l).hubNeeds = s.hubNeeds ∧
    (State.launch s l).commits = s.commits ∧
    (State.launch s l).seeds = s.seeds ∧
    (State.launch s l).load = s.load ∧
    (State.launch s l).clusters = s.clusters ∧
    (State.launch s l).ctxs = s.ctxs ∧
    (State.launch s l).memory = s.memory ∧
    (State.launch s l).coll = s.coll ∧
    (State.launch s l).photonics = s.photonics ∧
    (State.launch s l).domain = s.domain ∧
    (State.launch s l).messages = s.messages ∧
    (State.launch s l).package = s.package ∧
    (State.launch s l).clocks = s.clocks ∧
    (State.launch s l).thermal = s.thermal ∧
    (State.launch s l).control = s.control ∧
    (State.launch s l).boot = s.boot ∧
    (State.launch s l).dbg = s.dbg ∧
    (State.launch s l).freeCount = s.freeCount := by
  unfold State.launch
  try dsimp only
  (repeat' split) <;> simp_all -implicitDefEqProofs [↓prod_flip3, prod_flip]

@[simp] theorem State.sendOnLane_kept (s : State) (k : Nat) (p : Packet) :
    (State.sendOnLane s k p).pending = s.pending ∧
    (State.sendOnLane s k p).fuses = s.fuses ∧
    (State.sendOnLane s k p).regs = s.regs ∧
    (State.sendOnLane s k p).shadows = s.shadows ∧
    (State.sendOnLane s k p).blobs = s.blobs ∧
    (State.sendOnLane s k p).blobShadows = s.blobShadows ∧
    (State.sendOnLane s k p).hubNeeds = s.hubNeeds ∧
    (State.sendOnLane s k p).commits = s.commits ∧
    (State.sendOnLane s k p).seeds = s.seeds ∧
    (State.sendOnLane s k p).load = s.load ∧
    (State.sendOnLane s k p).clusters = s.clusters ∧
    (State.sendOnLane s k p).ctxs = s.ctxs ∧
    (State.sendOnLane s k p).memory = s.memory ∧
    (State.sendOnLane s k p).coll = s.coll ∧
    (State.sendOnLane s k p).photonics = s.photonics ∧
    (State.sendOnLane s k p).domain = s.domain ∧
    (State.sendOnLane s k p).messages = s.messages ∧
    (State.sendOnLane s k p).package = s.package ∧
    (State.sendOnLane s k p).clocks = s.clocks ∧
    (State.sendOnLane s k p).thermal = s.thermal ∧
    (State.sendOnLane s k p).control = s.control ∧
    (State.sendOnLane s k p).boot = s.boot ∧
    (State.sendOnLane s k p).dbg = s.dbg ∧
    (State.sendOnLane s k p).freeCount = s.freeCount := by
  unfold State.sendOnLane
  try dsimp only
  (repeat' split) <;> simp_all -implicitDefEqProofs [↓prod_flip3, prod_flip]

@[simp] theorem State.sendOnStanding_kept (s : State) (src : Nat) (dst : Nat) (p : Packet) :
    (State.sendOnStanding s src dst p).pending = s.pending ∧
    (State.sendOnStanding s src dst p).fuses = s.fuses ∧
    (State.sendOnStanding s src dst p).regs = s.regs ∧
    (State.sendOnStanding s src dst p).shadows = s.shadows ∧
    (State.sendOnStanding s src dst p).blobs = s.blobs ∧
    (State.sendOnStanding s src dst p).blobShadows = s.blobShadows ∧
    (State.sendOnStanding s src dst p).hubNeeds = s.hubNeeds ∧
    (State.sendOnStanding s src dst p).commits = s.commits ∧
    (State.sendOnStanding s src dst p).seeds = s.seeds ∧
    (State.sendOnStanding s src dst p).load = s.load ∧
    (State.sendOnStanding s src dst p).clusters = s.clusters ∧
    (State.sendOnStanding s src dst p).ctxs = s.ctxs ∧
    (State.sendOnStanding s src dst p).memory = s.memory ∧
    (State.sendOnStanding s src dst p).coll = s.coll ∧
    (State.sendOnStanding s src dst p).photonics = s.photonics ∧
    (State.sendOnStanding s src dst p).domain = s.domain ∧
    (State.sendOnStanding s src dst p).messages = s.messages ∧
    (State.sendOnStanding s src dst p).package = s.package ∧
    (State.sendOnStanding s src dst p).clocks = s.clocks ∧
    (State.sendOnStanding s src dst p).thermal = s.thermal ∧
    (State.sendOnStanding s src dst p).control = s.control ∧
    (State.sendOnStanding s src dst p).boot = s.boot ∧
    (State.sendOnStanding s src dst p).dbg = s.dbg ∧
    (State.sendOnStanding s src dst p).freeCount = s.freeCount := by
  unfold State.sendOnStanding
  try dsimp only
  (repeat' split) <;> simp_all -implicitDefEqProofs [↓prod_flip3, prod_flip]

@[simp] theorem State.toFront_kept (s : State) (l : List Packet) :
    (State.toFront s l).pending = s.pending ∧
    (State.toFront s l).fuses = s.fuses ∧
    (State.toFront s l).regs = s.regs ∧
    (State.toFront s l).shadows = s.shadows ∧
    (State.toFront s l).blobs = s.blobs ∧
    (State.toFront s l).blobShadows = s.blobShadows ∧
    (State.toFront s l).hubNeeds = s.hubNeeds ∧
    (State.toFront s l).commits = s.commits ∧
    (State.toFront s l).seeds = s.seeds ∧
    (State.toFront s l).load = s.load ∧
    (State.toFront s l).clusters = s.clusters ∧
    (State.toFront s l).ctxs = s.ctxs ∧
    (State.toFront s l).memory = s.memory ∧
    (State.toFront s l).coll = s.coll ∧
    (State.toFront s l).photonics = s.photonics ∧
    (State.toFront s l).domain = s.domain ∧
    (State.toFront s l).messages = s.messages ∧
    (State.toFront s l).package = s.package ∧
    (State.toFront s l).clocks = s.clocks ∧
    (State.toFront s l).thermal = s.thermal ∧
    (State.toFront s l).control = s.control ∧
    (State.toFront s l).boot = s.boot ∧
    (State.toFront s l).dbg = s.dbg ∧
    (State.toFront s l).freeCount = s.freeCount := by
  unfold State.toFront
  try dsimp only
  (repeat' split) <;> simp_all -implicitDefEqProofs [↓prod_flip3, prod_flip]

@[simp] theorem State.dropFlights_kept (s : State) (k : Nat) :
    (State.dropFlights s k).pending = s.pending ∧
    (State.dropFlights s k).fuses = s.fuses ∧
    (State.dropFlights s k).regs = s.regs ∧
    (State.dropFlights s k).shadows = s.shadows ∧
    (State.dropFlights s k).blobs = s.blobs ∧
    (State.dropFlights s k).blobShadows = s.blobShadows ∧
    (State.dropFlights s k).hubNeeds = s.hubNeeds ∧
    (State.dropFlights s k).commits = s.commits ∧
    (State.dropFlights s k).seeds = s.seeds ∧
    (State.dropFlights s k).load = s.load ∧
    (State.dropFlights s k).clusters = s.clusters ∧
    (State.dropFlights s k).ctxs = s.ctxs ∧
    (State.dropFlights s k).memory = s.memory ∧
    (State.dropFlights s k).coll = s.coll ∧
    (State.dropFlights s k).photonics = s.photonics ∧
    (State.dropFlights s k).domain = s.domain ∧
    (State.dropFlights s k).messages = s.messages ∧
    (State.dropFlights s k).package = s.package ∧
    (State.dropFlights s k).clocks = s.clocks ∧
    (State.dropFlights s k).thermal = s.thermal ∧
    (State.dropFlights s k).control = s.control ∧
    (State.dropFlights s k).boot = s.boot ∧
    (State.dropFlights s k).dbg = s.dbg ∧
    (State.dropFlights s k).freeCount = s.freeCount := by
  unfold State.dropFlights
  try dsimp only
  (repeat' split) <;> simp_all -implicitDefEqProofs [↓prod_flip3, prod_flip]

@[simp] theorem State.forgetCopy_kept (s : State) (f : Flight) :
    (State.forgetCopy s f).pending = s.pending ∧
    (State.forgetCopy s f).fuses = s.fuses ∧
    (State.forgetCopy s f).regs = s.regs ∧
    (State.forgetCopy s f).shadows = s.shadows ∧
    (State.forgetCopy s f).blobs = s.blobs ∧
    (State.forgetCopy s f).blobShadows = s.blobShadows ∧
    (State.forgetCopy s f).hubNeeds = s.hubNeeds ∧
    (State.forgetCopy s f).commits = s.commits ∧
    (State.forgetCopy s f).seeds = s.seeds ∧
    (State.forgetCopy s f).load = s.load ∧
    (State.forgetCopy s f).clusters = s.clusters ∧
    (State.forgetCopy s f).ctxs = s.ctxs ∧
    (State.forgetCopy s f).memory = s.memory ∧
    (State.forgetCopy s f).coll = s.coll ∧
    (State.forgetCopy s f).photonics = s.photonics ∧
    (State.forgetCopy s f).domain = s.domain ∧
    (State.forgetCopy s f).messages = s.messages ∧
    (State.forgetCopy s f).package = s.package ∧
    (State.forgetCopy s f).clocks = s.clocks ∧
    (State.forgetCopy s f).thermal = s.thermal ∧
    (State.forgetCopy s f).control = s.control ∧
    (State.forgetCopy s f).boot = s.boot ∧
    (State.forgetCopy s f).dbg = s.dbg ∧
    (State.forgetCopy s f).freeCount = s.freeCount := by
  unfold State.forgetCopy
  try dsimp only
  (repeat' split) <;> simp_all -implicitDefEqProofs [↓prod_flip3, prod_flip]

@[simp] theorem State.resendLane_kept (s : State) (k : Nat) :
    (State.resendLane s k).pending = s.pending ∧
    (State.resendLane s k).fuses = s.fuses ∧
    (State.resendLane s k).regs = s.regs ∧
    (State.resendLane s k).shadows = s.shadows ∧
    (State.resendLane s k).blobs = s.blobs ∧
    (State.resendLane s k).blobShadows = s.blobShadows ∧
    (State.resendLane s k).hubNeeds = s.hubNeeds ∧
    (State.resendLane s k).commits = s.commits ∧
    (State.resendLane s k).seeds = s.seeds ∧
    (State.resendLane s k).load = s.load ∧
    (State.resendLane s k).clusters = s.clusters ∧
    (State.resendLane s k).ctxs = s.ctxs ∧
    (State.resendLane s k).memory = s.memory ∧
    (State.resendLane s k).coll = s.coll ∧
    (State.resendLane s k).photonics = s.photonics ∧
    (State.resendLane s k).domain = s.domain ∧
    (State.resendLane s k).messages = s.messages ∧
    (State.resendLane s k).package = s.package ∧
    (State.resendLane s k).clocks = s.clocks ∧
    (State.resendLane s k).thermal = s.thermal ∧
    (State.resendLane s k).control = s.control ∧
    (State.resendLane s k).boot = s.boot ∧
    (State.resendLane s k).dbg = s.dbg ∧
    (State.resendLane s k).freeCount = s.freeCount := by
  unfold State.resendLane
  try dsimp only
  (repeat' split) <;> simp_all -implicitDefEqProofs [↓prod_flip3, prod_flip]

@[simp] theorem State.endFull_kept (s : State) (path : Nat) :
    (State.endFull s path).pending = s.pending ∧
    (State.endFull s path).fuses = s.fuses ∧
    (State.endFull s path).shadows = s.shadows ∧
    (State.endFull s path).blobs = s.blobs ∧
    (State.endFull s path).blobShadows = s.blobShadows ∧
    (State.endFull s path).hubNeeds = s.hubNeeds ∧
    (State.endFull s path).commits = s.commits ∧
    (State.endFull s path).seeds = s.seeds ∧
    (State.endFull s path).load = s.load ∧
    (State.endFull s path).clusters = s.clusters ∧
    (State.endFull s path).ctxs = s.ctxs ∧
    (State.endFull s path).memory = s.memory ∧
    (State.endFull s path).coll = s.coll ∧
    (State.endFull s path).photonics = s.photonics ∧
    (State.endFull s path).domain = s.domain ∧
    (State.endFull s path).messages = s.messages ∧
    (State.endFull s path).package = s.package ∧
    (State.endFull s path).clocks = s.clocks ∧
    (State.endFull s path).thermal = s.thermal ∧
    (State.endFull s path).control = s.control ∧
    (State.endFull s path).boot = s.boot ∧
    (State.endFull s path).dbg = s.dbg ∧
    (State.endFull s path).freeCount = s.freeCount := by
  unfold State.endFull
  try dsimp only
  (repeat' split) <;> simp_all -implicitDefEqProofs [↓prod_flip3, prod_flip]

@[simp] theorem State.startFull_kept (s : State) (path : Nat) :
    (State.startFull s path).pending = s.pending ∧
    (State.startFull s path).fuses = s.fuses ∧
    (State.startFull s path).regs = s.regs ∧
    (State.startFull s path).shadows = s.shadows ∧
    (State.startFull s path).blobs = s.blobs ∧
    (State.startFull s path).blobShadows = s.blobShadows ∧
    (State.startFull s path).hubNeeds = s.hubNeeds ∧
    (State.startFull s path).commits = s.commits ∧
    (State.startFull s path).seeds = s.seeds ∧
    (State.startFull s path).load = s.load ∧
    (State.startFull s path).clusters = s.clusters ∧
    (State.startFull s path).ctxs = s.ctxs ∧
    (State.startFull s path).memory = s.memory ∧
    (State.startFull s path).coll = s.coll ∧
    (State.startFull s path).photonics = s.photonics ∧
    (State.startFull s path).domain = s.domain ∧
    (State.startFull s path).messages = s.messages ∧
    (State.startFull s path).package = s.package ∧
    (State.startFull s path).clocks = s.clocks ∧
    (State.startFull s path).thermal = s.thermal ∧
    (State.startFull s path).control = s.control ∧
    (State.startFull s path).boot = s.boot ∧
    (State.startFull s path).dbg = s.dbg ∧
    (State.startFull s path).freeCount = s.freeCount := by
  unfold State.startFull
  try dsimp only
  (repeat' split) <;> simp_all -implicitDefEqProofs [↓prod_flip3, prod_flip]

@[simp] theorem State.stopLane_kept (s : State) (k : Nat) (st : LaneState) :
    (State.stopLane s k st).pending = s.pending ∧
    (State.stopLane s k st).fuses = s.fuses ∧
    (State.stopLane s k st).shadows = s.shadows ∧
    (State.stopLane s k st).blobs = s.blobs ∧
    (State.stopLane s k st).blobShadows = s.blobShadows ∧
    (State.stopLane s k st).hubNeeds = s.hubNeeds ∧
    (State.stopLane s k st).commits = s.commits ∧
    (State.stopLane s k st).seeds = s.seeds ∧
    (State.stopLane s k st).load = s.load ∧
    (State.stopLane s k st).clusters = s.clusters ∧
    (State.stopLane s k st).ctxs = s.ctxs ∧
    (State.stopLane s k st).memory = s.memory ∧
    (State.stopLane s k st).coll = s.coll ∧
    (State.stopLane s k st).photonics = s.photonics ∧
    (State.stopLane s k st).domain = s.domain ∧
    (State.stopLane s k st).messages = s.messages ∧
    (State.stopLane s k st).package = s.package ∧
    (State.stopLane s k st).clocks = s.clocks ∧
    (State.stopLane s k st).thermal = s.thermal ∧
    (State.stopLane s k st).control = s.control ∧
    (State.stopLane s k st).boot = s.boot ∧
    (State.stopLane s k st).dbg = s.dbg ∧
    (State.stopLane s k st).freeCount = s.freeCount := by
  unfold State.stopLane
  try dsimp only
  (repeat' split) <;> simp_all -implicitDefEqProofs [↓prod_flip3, prod_flip]

@[simp] theorem State.laneOut_kept (s : State) (k : Nat) (retry : Bool) :
    (State.laneOut s k retry).pending = s.pending ∧
    (State.laneOut s k retry).fuses = s.fuses ∧
    (State.laneOut s k retry).shadows = s.shadows ∧
    (State.laneOut s k retry).blobs = s.blobs ∧
    (State.laneOut s k retry).blobShadows = s.blobShadows ∧
    (State.laneOut s k retry).hubNeeds = s.hubNeeds ∧
    (State.laneOut s k retry).commits = s.commits ∧
    (State.laneOut s k retry).seeds = s.seeds ∧
    (State.laneOut s k retry).load = s.load ∧
    (State.laneOut s k retry).clusters = s.clusters ∧
    (State.laneOut s k retry).ctxs = s.ctxs ∧
    (State.laneOut s k retry).memory = s.memory ∧
    (State.laneOut s k retry).coll = s.coll ∧
    (State.laneOut s k retry).photonics = s.photonics ∧
    (State.laneOut s k retry).domain = s.domain ∧
    (State.laneOut s k retry).messages = s.messages ∧
    (State.laneOut s k retry).package = s.package ∧
    (State.laneOut s k retry).clocks = s.clocks ∧
    (State.laneOut s k retry).thermal = s.thermal ∧
    (State.laneOut s k retry).boot = s.boot ∧
    (State.laneOut s k retry).freeCount = s.freeCount := by
  unfold State.laneOut
  try dsimp only
  (repeat' split) <;> simp_all -implicitDefEqProofs [↓prod_flip3, prod_flip]

@[simp] theorem State.laneActive_kept (s : State) (k : Nat) :
    (State.laneActive s k).pending = s.pending ∧
    (State.laneActive s k).fuses = s.fuses ∧
    (State.laneActive s k).shadows = s.shadows ∧
    (State.laneActive s k).blobs = s.blobs ∧
    (State.laneActive s k).blobShadows = s.blobShadows ∧
    (State.laneActive s k).hubNeeds = s.hubNeeds ∧
    (State.laneActive s k).commits = s.commits ∧
    (State.laneActive s k).seeds = s.seeds ∧
    (State.laneActive s k).load = s.load ∧
    (State.laneActive s k).clusters = s.clusters ∧
    (State.laneActive s k).ctxs = s.ctxs ∧
    (State.laneActive s k).memory = s.memory ∧
    (State.laneActive s k).coll = s.coll ∧
    (State.laneActive s k).photonics = s.photonics ∧
    (State.laneActive s k).domain = s.domain ∧
    (State.laneActive s k).messages = s.messages ∧
    (State.laneActive s k).package = s.package ∧
    (State.laneActive s k).clocks = s.clocks ∧
    (State.laneActive s k).thermal = s.thermal ∧
    (State.laneActive s k).control = s.control ∧
    (State.laneActive s k).boot = s.boot ∧
    (State.laneActive s k).dbg = s.dbg ∧
    (State.laneActive s k).freeCount = s.freeCount := by
  unfold State.laneActive
  try dsimp only
  (repeat' split) <;> simp_all -implicitDefEqProofs [↓prod_flip3, prod_flip]

@[simp] theorem State.consume_kept (s : State) (site : Nat) (p : Packet) :
    (State.consume s site p).pending = s.pending ∧
    (State.consume s site p).fuses = s.fuses ∧
    (State.consume s site p).regs = s.regs ∧
    (State.consume s site p).shadows = s.shadows ∧
    (State.consume s site p).blobs = s.blobs ∧
    (State.consume s site p).blobShadows = s.blobShadows ∧
    (State.consume s site p).hubNeeds = s.hubNeeds ∧
    (State.consume s site p).commits = s.commits ∧
    (State.consume s site p).seeds = s.seeds ∧
    (State.consume s site p).load = s.load ∧
    (State.consume s site p).clusters = s.clusters ∧
    (State.consume s site p).ctxs = s.ctxs ∧
    (State.consume s site p).memory = s.memory ∧
    (State.consume s site p).coll = s.coll ∧
    (State.consume s site p).photonics = s.photonics ∧
    (State.consume s site p).domain = s.domain ∧
    (State.consume s site p).messages = s.messages ∧
    (State.consume s site p).package = s.package ∧
    (State.consume s site p).clocks = s.clocks ∧
    (State.consume s site p).thermal = s.thermal ∧
    (State.consume s site p).control = s.control ∧
    (State.consume s site p).boot = s.boot ∧
    (State.consume s site p).dbg = s.dbg ∧
    (State.consume s site p).freeCount = s.freeCount := by
  unfold State.consume
  try dsimp only
  (repeat' split) <;> simp_all -implicitDefEqProofs [↓prod_flip3, prod_flip]

@[simp] theorem State.slotRefusal_kept (s : State) (src : Nat) (dst : Nat) (op : Nat) (plan : Nat) :
    (State.slotRefusal s src dst op plan).pending = s.pending ∧
    (State.slotRefusal s src dst op plan).fuses = s.fuses ∧
    (State.slotRefusal s src dst op plan).shadows = s.shadows ∧
    (State.slotRefusal s src dst op plan).blobs = s.blobs ∧
    (State.slotRefusal s src dst op plan).blobShadows = s.blobShadows ∧
    (State.slotRefusal s src dst op plan).hubNeeds = s.hubNeeds ∧
    (State.slotRefusal s src dst op plan).commits = s.commits ∧
    (State.slotRefusal s src dst op plan).seeds = s.seeds ∧
    (State.slotRefusal s src dst op plan).load = s.load ∧
    (State.slotRefusal s src dst op plan).clusters = s.clusters ∧
    (State.slotRefusal s src dst op plan).ctxs = s.ctxs ∧
    (State.slotRefusal s src dst op plan).memory = s.memory ∧
    (State.slotRefusal s src dst op plan).rig = s.rig ∧
    (State.slotRefusal s src dst op plan).coll = s.coll ∧
    (State.slotRefusal s src dst op plan).photonics = s.photonics ∧
    (State.slotRefusal s src dst op plan).domain = s.domain ∧
    (State.slotRefusal s src dst op plan).messages = s.messages ∧
    (State.slotRefusal s src dst op plan).package = s.package ∧
    (State.slotRefusal s src dst op plan).clocks = s.clocks ∧
    (State.slotRefusal s src dst op plan).thermal = s.thermal ∧
    (State.slotRefusal s src dst op plan).boot = s.boot ∧
    (State.slotRefusal s src dst op plan).freeCount = s.freeCount := by
  unfold State.slotRefusal
  try dsimp only
  (repeat' split) <;> simp_all -implicitDefEqProofs [↓prod_flip3, prod_flip]

@[simp] theorem State.setLaser_kept (s : State) (bar : Nat) (n : Nat) (st : LaserState) :
    (State.setLaser s bar n st).pending = s.pending ∧
    (State.setLaser s bar n st).fuses = s.fuses ∧
    (State.setLaser s bar n st).regs = s.regs ∧
    (State.setLaser s bar n st).shadows = s.shadows ∧
    (State.setLaser s bar n st).blobs = s.blobs ∧
    (State.setLaser s bar n st).blobShadows = s.blobShadows ∧
    (State.setLaser s bar n st).hubNeeds = s.hubNeeds ∧
    (State.setLaser s bar n st).commits = s.commits ∧
    (State.setLaser s bar n st).seeds = s.seeds ∧
    (State.setLaser s bar n st).load = s.load ∧
    (State.setLaser s bar n st).clusters = s.clusters ∧
    (State.setLaser s bar n st).ctxs = s.ctxs ∧
    (State.setLaser s bar n st).memory = s.memory ∧
    (State.setLaser s bar n st).rig = s.rig ∧
    (State.setLaser s bar n st).coll = s.coll ∧
    (State.setLaser s bar n st).domain = s.domain ∧
    (State.setLaser s bar n st).messages = s.messages ∧
    (State.setLaser s bar n st).package = s.package ∧
    (State.setLaser s bar n st).clocks = s.clocks ∧
    (State.setLaser s bar n st).thermal = s.thermal ∧
    (State.setLaser s bar n st).control = s.control ∧
    (State.setLaser s bar n st).boot = s.boot ∧
    (State.setLaser s bar n st).dbg = s.dbg ∧
    (State.setLaser s bar n st).freeCount = s.freeCount := by
  unfold State.setLaser
  try dsimp only
  (repeat' split) <;> simp_all -implicitDefEqProofs [↓prod_flip3, prod_flip]

@[simp] theorem State.widthEvent_kept (s : State) (k : Nat) :
    (State.widthEvent s k).pending = s.pending ∧
    (State.widthEvent s k).fuses = s.fuses ∧
    (State.widthEvent s k).shadows = s.shadows ∧
    (State.widthEvent s k).blobs = s.blobs ∧
    (State.widthEvent s k).blobShadows = s.blobShadows ∧
    (State.widthEvent s k).hubNeeds = s.hubNeeds ∧
    (State.widthEvent s k).commits = s.commits ∧
    (State.widthEvent s k).seeds = s.seeds ∧
    (State.widthEvent s k).load = s.load ∧
    (State.widthEvent s k).clusters = s.clusters ∧
    (State.widthEvent s k).ctxs = s.ctxs ∧
    (State.widthEvent s k).memory = s.memory ∧
    (State.widthEvent s k).rig = s.rig ∧
    (State.widthEvent s k).coll = s.coll ∧
    (State.widthEvent s k).photonics = s.photonics ∧
    (State.widthEvent s k).domain = s.domain ∧
    (State.widthEvent s k).messages = s.messages ∧
    (State.widthEvent s k).package = s.package ∧
    (State.widthEvent s k).clocks = s.clocks ∧
    (State.widthEvent s k).thermal = s.thermal ∧
    (State.widthEvent s k).boot = s.boot ∧
    (State.widthEvent s k).freeCount = s.freeCount := by
  unfold State.widthEvent
  try dsimp only
  (repeat' split) <;> simp_all -implicitDefEqProofs [↓prod_flip3, prod_flip]

@[simp] theorem State.reviewLane_kept (s : State) (k : Nat) :
    (State.reviewLane s k).pending = s.pending ∧
    (State.reviewLane s k).fuses = s.fuses ∧
    (State.reviewLane s k).shadows = s.shadows ∧
    (State.reviewLane s k).blobs = s.blobs ∧
    (State.reviewLane s k).blobShadows = s.blobShadows ∧
    (State.reviewLane s k).hubNeeds = s.hubNeeds ∧
    (State.reviewLane s k).commits = s.commits ∧
    (State.reviewLane s k).seeds = s.seeds ∧
    (State.reviewLane s k).load = s.load ∧
    (State.reviewLane s k).clusters = s.clusters ∧
    (State.reviewLane s k).ctxs = s.ctxs ∧
    (State.reviewLane s k).memory = s.memory ∧
    (State.reviewLane s k).coll = s.coll ∧
    (State.reviewLane s k).photonics = s.photonics ∧
    (State.reviewLane s k).domain = s.domain ∧
    (State.reviewLane s k).messages = s.messages ∧
    (State.reviewLane s k).package = s.package ∧
    (State.reviewLane s k).clocks = s.clocks ∧
    (State.reviewLane s k).thermal = s.thermal ∧
    (State.reviewLane s k).boot = s.boot ∧
    (State.reviewLane s k).freeCount = s.freeCount := by
  unfold State.reviewLane
  try dsimp only
  (repeat' split) <;> simp_all -implicitDefEqProofs [↓prod_flip3, prod_flip]

@[simp] theorem State.laneUp_kept (s : State) (k : Nat) :
    (State.laneUp s k).pending = s.pending ∧
    (State.laneUp s k).fuses = s.fuses ∧
    (State.laneUp s k).shadows = s.shadows ∧
    (State.laneUp s k).blobs = s.blobs ∧
    (State.laneUp s k).blobShadows = s.blobShadows ∧
    (State.laneUp s k).hubNeeds = s.hubNeeds ∧
    (State.laneUp s k).commits = s.commits ∧
    (State.laneUp s k).seeds = s.seeds ∧
    (State.laneUp s k).load = s.load ∧
    (State.laneUp s k).clusters = s.clusters ∧
    (State.laneUp s k).ctxs = s.ctxs ∧
    (State.laneUp s k).memory = s.memory ∧
    (State.laneUp s k).coll = s.coll ∧
    (State.laneUp s k).photonics = s.photonics ∧
    (State.laneUp s k).domain = s.domain ∧
    (State.laneUp s k).messages = s.messages ∧
    (State.laneUp s k).package = s.package ∧
    (State.laneUp s k).clocks = s.clocks ∧
    (State.laneUp s k).thermal = s.thermal ∧
    (State.laneUp s k).boot = s.boot ∧
    (State.laneUp s k).freeCount = s.freeCount := by
  unfold State.laneUp
  try dsimp only
  (repeat' split) <;> simp_all -implicitDefEqProofs [↓prod_flip3, prod_flip]

@[simp] theorem State.dropStanding_kept (s : State) (src : Nat) (dst : Nat) :
    (State.dropStanding s src dst).pending = s.pending ∧
    (State.dropStanding s src dst).fuses = s.fuses ∧
    (State.dropStanding s src dst).regs = s.regs ∧
    (State.dropStanding s src dst).shadows = s.shadows ∧
    (State.dropStanding s src dst).blobs = s.blobs ∧
    (State.dropStanding s src dst).blobShadows = s.blobShadows ∧
    (State.dropStanding s src dst).hubNeeds = s.hubNeeds ∧
    (State.dropStanding s src dst).commits = s.commits ∧
    (State.dropStanding s src dst).seeds = s.seeds ∧
    (State.dropStanding s src dst).load = s.load ∧
    (State.dropStanding s src dst).clusters = s.clusters ∧
    (State.dropStanding s src dst).ctxs = s.ctxs ∧
    (State.dropStanding s src dst).memory = s.memory ∧
    (State.dropStanding s src dst).coll = s.coll ∧
    (State.dropStanding s src dst).photonics = s.photonics ∧
    (State.dropStanding s src dst).domain = s.domain ∧
    (State.dropStanding s src dst).messages = s.messages ∧
    (State.dropStanding s src dst).package = s.package ∧
    (State.dropStanding s src dst).clocks = s.clocks ∧
    (State.dropStanding s src dst).thermal = s.thermal ∧
    (State.dropStanding s src dst).control = s.control ∧
    (State.dropStanding s src dst).boot = s.boot ∧
    (State.dropStanding s src dst).dbg = s.dbg ∧
    (State.dropStanding s src dst).freeCount = s.freeCount := by
  unfold State.dropStanding
  try dsimp only
  (repeat' split) <;> simp_all -implicitDefEqProofs [↓prod_flip3, prod_flip]

@[simp] theorem State.retrainStanding_kept (s : State) (src : Nat) (dst : Nat) :
    (State.retrainStanding s src dst).pending = s.pending ∧
    (State.retrainStanding s src dst).fuses = s.fuses ∧
    (State.retrainStanding s src dst).regs = s.regs ∧
    (State.retrainStanding s src dst).shadows = s.shadows ∧
    (State.retrainStanding s src dst).blobs = s.blobs ∧
    (State.retrainStanding s src dst).blobShadows = s.blobShadows ∧
    (State.retrainStanding s src dst).hubNeeds = s.hubNeeds ∧
    (State.retrainStanding s src dst).commits = s.commits ∧
    (State.retrainStanding s src dst).seeds = s.seeds ∧
    (State.retrainStanding s src dst).load = s.load ∧
    (State.retrainStanding s src dst).clusters = s.clusters ∧
    (State.retrainStanding s src dst).ctxs = s.ctxs ∧
    (State.retrainStanding s src dst).memory = s.memory ∧
    (State.retrainStanding s src dst).coll = s.coll ∧
    (State.retrainStanding s src dst).photonics = s.photonics ∧
    (State.retrainStanding s src dst).domain = s.domain ∧
    (State.retrainStanding s src dst).messages = s.messages ∧
    (State.retrainStanding s src dst).package = s.package ∧
    (State.retrainStanding s src dst).clocks = s.clocks ∧
    (State.retrainStanding s src dst).thermal = s.thermal ∧
    (State.retrainStanding s src dst).control = s.control ∧
    (State.retrainStanding s src dst).boot = s.boot ∧
    (State.retrainStanding s src dst).dbg = s.dbg ∧
    (State.retrainStanding s src dst).freeCount = s.freeCount := by
  unfold State.retrainStanding
  try dsimp only
  (repeat' split) <;> simp_all -implicitDefEqProofs [↓prod_flip3, prod_flip]

@[simp] theorem State.standingUp_kept (s : State) (src : Nat) (dst : Nat) :
    (State.standingUp s src dst).pending = s.pending ∧
    (State.standingUp s src dst).fuses = s.fuses ∧
    (State.standingUp s src dst).regs = s.regs ∧
    (State.standingUp s src dst).shadows = s.shadows ∧
    (State.standingUp s src dst).blobs = s.blobs ∧
    (State.standingUp s src dst).blobShadows = s.blobShadows ∧
    (State.standingUp s src dst).hubNeeds = s.hubNeeds ∧
    (State.standingUp s src dst).commits = s.commits ∧
    (State.standingUp s src dst).seeds = s.seeds ∧
    (State.standingUp s src dst).load = s.load ∧
    (State.standingUp s src dst).clusters = s.clusters ∧
    (State.standingUp s src dst).ctxs = s.ctxs ∧
    (State.standingUp s src dst).memory = s.memory ∧
    (State.standingUp s src dst).coll = s.coll ∧
    (State.standingUp s src dst).photonics = s.photonics ∧
    (State.standingUp s src dst).domain = s.domain ∧
    (State.standingUp s src dst).messages = s.messages ∧
    (State.standingUp s src dst).package = s.package ∧
    (State.standingUp s src dst).clocks = s.clocks ∧
    (State.standingUp s src dst).thermal = s.thermal ∧
    (State.standingUp s src dst).control = s.control ∧
    (State.standingUp s src dst).boot = s.boot ∧
    (State.standingUp s src dst).dbg = s.dbg ∧
    (State.standingUp s src dst).freeCount = s.freeCount := by
  unfold State.standingUp
  try dsimp only
  (repeat' split) <;> simp_all -implicitDefEqProofs [↓prod_flip3, prod_flip]

@[simp] theorem State.standingDown_kept (s : State) (src : Nat) (dst : Nat) :
    (State.standingDown s src dst).pending = s.pending ∧
    (State.standingDown s src dst).fuses = s.fuses ∧
    (State.standingDown s src dst).shadows = s.shadows ∧
    (State.standingDown s src dst).blobs = s.blobs ∧
    (State.standingDown s src dst).blobShadows = s.blobShadows ∧
    (State.standingDown s src dst).hubNeeds = s.hubNeeds ∧
    (State.standingDown s src dst).commits = s.commits ∧
    (State.standingDown s src dst).seeds = s.seeds ∧
    (State.standingDown s src dst).load = s.load ∧
    (State.standingDown s src dst).clusters = s.clusters ∧
    (State.standingDown s src dst).ctxs = s.ctxs ∧
    (State.standingDown s src dst).memory = s.memory ∧
    (State.standingDown s src dst).coll = s.coll ∧
    (State.standingDown s src dst).photonics = s.photonics ∧
    (State.standingDown s src dst).domain = s.domain ∧
    (State.standingDown s src dst).messages = s.messages ∧
    (State.standingDown s src dst).package = s.package ∧
    (State.standingDown s src dst).clocks = s.clocks ∧
    (State.standingDown s src dst).thermal = s.thermal ∧
    (State.standingDown s src dst).boot = s.boot ∧
    (State.standingDown s src dst).freeCount = s.freeCount := by
  unfold State.standingDown
  try dsimp only
  (repeat' split) <;> simp_all -implicitDefEqProofs [↓prod_flip3, prod_flip]

@[simp] theorem State.reviewPort_kept (s : State) (p : Nat) :
    (State.reviewPort s p).pending = s.pending ∧
    (State.reviewPort s p).fuses = s.fuses ∧
    (State.reviewPort s p).regs = s.regs ∧
    (State.reviewPort s p).shadows = s.shadows ∧
    (State.reviewPort s p).blobs = s.blobs ∧
    (State.reviewPort s p).blobShadows = s.blobShadows ∧
    (State.reviewPort s p).hubNeeds = s.hubNeeds ∧
    (State.reviewPort s p).commits = s.commits ∧
    (State.reviewPort s p).seeds = s.seeds ∧
    (State.reviewPort s p).load = s.load ∧
    (State.reviewPort s p).clusters = s.clusters ∧
    (State.reviewPort s p).ctxs = s.ctxs ∧
    (State.reviewPort s p).memory = s.memory ∧
    (State.reviewPort s p).rig = s.rig ∧
    (State.reviewPort s p).coll = s.coll ∧
    (State.reviewPort s p).photonics = s.photonics ∧
    (State.reviewPort s p).messages = s.messages ∧
    (State.reviewPort s p).package = s.package ∧
    (State.reviewPort s p).clocks = s.clocks ∧
    (State.reviewPort s p).thermal = s.thermal ∧
    (State.reviewPort s p).control = s.control ∧
    (State.reviewPort s p).boot = s.boot ∧
    (State.reviewPort s p).dbg = s.dbg ∧
    (State.reviewPort s p).freeCount = s.freeCount := by
  unfold State.reviewPort
  try dsimp only
  (repeat' split) <;> simp_all -implicitDefEqProofs [↓prod_flip3, prod_flip]

@[simp] theorem State.channelDropped_kept (s : State) (b : Nat) (ch : Nat) :
    (State.channelDropped s b ch).pending = s.pending ∧
    (State.channelDropped s b ch).fuses = s.fuses ∧
    (State.channelDropped s b ch).shadows = s.shadows ∧
    (State.channelDropped s b ch).blobs = s.blobs ∧
    (State.channelDropped s b ch).blobShadows = s.blobShadows ∧
    (State.channelDropped s b ch).hubNeeds = s.hubNeeds ∧
    (State.channelDropped s b ch).commits = s.commits ∧
    (State.channelDropped s b ch).seeds = s.seeds ∧
    (State.channelDropped s b ch).load = s.load ∧
    (State.channelDropped s b ch).clusters = s.clusters ∧
    (State.channelDropped s b ch).ctxs = s.ctxs ∧
    (State.channelDropped s b ch).memory = s.memory ∧
    (State.channelDropped s b ch).coll = s.coll ∧
    (State.channelDropped s b ch).messages = s.messages ∧
    (State.channelDropped s b ch).package = s.package ∧
    (State.channelDropped s b ch).clocks = s.clocks ∧
    (State.channelDropped s b ch).thermal = s.thermal ∧
    (State.channelDropped s b ch).boot = s.boot ∧
    (State.channelDropped s b ch).freeCount = s.freeCount := by
  unfold State.channelDropped
  try dsimp only
  (repeat' split) <;> simp_all -implicitDefEqProofs [↓prod_flip3, prod_flip]

@[simp] theorem State.channelRestored_kept (s : State) (b : Nat) (ch : Nat) :
    (State.channelRestored s b ch).pending = s.pending ∧
    (State.channelRestored s b ch).fuses = s.fuses ∧
    (State.channelRestored s b ch).shadows = s.shadows ∧
    (State.channelRestored s b ch).blobs = s.blobs ∧
    (State.channelRestored s b ch).blobShadows = s.blobShadows ∧
    (State.channelRestored s b ch).hubNeeds = s.hubNeeds ∧
    (State.channelRestored s b ch).commits = s.commits ∧
    (State.channelRestored s b ch).seeds = s.seeds ∧
    (State.channelRestored s b ch).load = s.load ∧
    (State.channelRestored s b ch).clusters = s.clusters ∧
    (State.channelRestored s b ch).ctxs = s.ctxs ∧
    (State.channelRestored s b ch).memory = s.memory ∧
    (State.channelRestored s b ch).coll = s.coll ∧
    (State.channelRestored s b ch).messages = s.messages ∧
    (State.channelRestored s b ch).package = s.package ∧
    (State.channelRestored s b ch).clocks = s.clocks ∧
    (State.channelRestored s b ch).thermal = s.thermal ∧
    (State.channelRestored s b ch).boot = s.boot ∧
    (State.channelRestored s b ch).freeCount = s.freeCount := by
  unfold State.channelRestored
  try dsimp only
  (repeat' split) <;> simp_all -implicitDefEqProofs [↓prod_flip3, prod_flip]

@[simp] theorem State.startRelock_kept (s : State) (e : Nat) :
    (State.startRelock s e).pending = s.pending ∧
    (State.startRelock s e).fuses = s.fuses ∧
    (State.startRelock s e).shadows = s.shadows ∧
    (State.startRelock s e).blobs = s.blobs ∧
    (State.startRelock s e).blobShadows = s.blobShadows ∧
    (State.startRelock s e).hubNeeds = s.hubNeeds ∧
    (State.startRelock s e).commits = s.commits ∧
    (State.startRelock s e).seeds = s.seeds ∧
    (State.startRelock s e).load = s.load ∧
    (State.startRelock s e).clusters = s.clusters ∧
    (State.startRelock s e).ctxs = s.ctxs ∧
    (State.startRelock s e).memory = s.memory ∧
    (State.startRelock s e).rig = s.rig ∧
    (State.startRelock s e).coll = s.coll ∧
    (State.startRelock s e).domain = s.domain ∧
    (State.startRelock s e).messages = s.messages ∧
    (State.startRelock s e).package = s.package ∧
    (State.startRelock s e).clocks = s.clocks ∧
    (State.startRelock s e).thermal = s.thermal ∧
    (State.startRelock s e).control = s.control ∧
    (State.startRelock s e).boot = s.boot ∧
    (State.startRelock s e).dbg = s.dbg ∧
    (State.startRelock s e).freeCount = s.freeCount := by
  unfold State.startRelock
  try dsimp only
  (repeat' split) <;> simp_all -implicitDefEqProofs [↓prod_flip3, prod_flip]

@[simp] theorem State.laneWrong_kept (s : State) (k : Nat) :
    (State.laneWrong s k).pending = s.pending ∧
    (State.laneWrong s k).fuses = s.fuses ∧
    (State.laneWrong s k).shadows = s.shadows ∧
    (State.laneWrong s k).blobs = s.blobs ∧
    (State.laneWrong s k).blobShadows = s.blobShadows ∧
    (State.laneWrong s k).hubNeeds = s.hubNeeds ∧
    (State.laneWrong s k).commits = s.commits ∧
    (State.laneWrong s k).seeds = s.seeds ∧
    (State.laneWrong s k).load = s.load ∧
    (State.laneWrong s k).clusters = s.clusters ∧
    (State.laneWrong s k).ctxs = s.ctxs ∧
    (State.laneWrong s k).memory = s.memory ∧
    (State.laneWrong s k).coll = s.coll ∧
    (State.laneWrong s k).photonics = s.photonics ∧
    (State.laneWrong s k).domain = s.domain ∧
    (State.laneWrong s k).messages = s.messages ∧
    (State.laneWrong s k).package = s.package ∧
    (State.laneWrong s k).clocks = s.clocks ∧
    (State.laneWrong s k).thermal = s.thermal ∧
    (State.laneWrong s k).control = s.control ∧
    (State.laneWrong s k).boot = s.boot ∧
    (State.laneWrong s k).dbg = s.dbg ∧
    (State.laneWrong s k).freeCount = s.freeCount := by
  unfold State.laneWrong
  try dsimp only
  (repeat' split) <;> simp_all -implicitDefEqProofs [↓prod_flip3, prod_flip]

@[simp] theorem State.ringWrong_kept (s : State) (e : Nat) (seen : Nat) :
    (State.ringWrong s e seen).pending = s.pending ∧
    (State.ringWrong s e seen).fuses = s.fuses ∧
    (State.ringWrong s e seen).shadows = s.shadows ∧
    (State.ringWrong s e seen).blobs = s.blobs ∧
    (State.ringWrong s e seen).blobShadows = s.blobShadows ∧
    (State.ringWrong s e seen).hubNeeds = s.hubNeeds ∧
    (State.ringWrong s e seen).commits = s.commits ∧
    (State.ringWrong s e seen).seeds = s.seeds ∧
    (State.ringWrong s e seen).load = s.load ∧
    (State.ringWrong s e seen).clusters = s.clusters ∧
    (State.ringWrong s e seen).ctxs = s.ctxs ∧
    (State.ringWrong s e seen).memory = s.memory ∧
    (State.ringWrong s e seen).coll = s.coll ∧
    (State.ringWrong s e seen).domain = s.domain ∧
    (State.ringWrong s e seen).messages = s.messages ∧
    (State.ringWrong s e seen).package = s.package ∧
    (State.ringWrong s e seen).clocks = s.clocks ∧
    (State.ringWrong s e seen).thermal = s.thermal ∧
    (State.ringWrong s e seen).boot = s.boot ∧
    (State.ringWrong s e seen).freeCount = s.freeCount := by
  unfold State.ringWrong
  try dsimp only
  (repeat' split) <;> simp_all -implicitDefEqProofs [↓prod_flip3, prod_flip]

@[simp] theorem State.wrongAnswer_kept (s : State) (k : Nat) (dst : Nat) (mask : Nat) :
    (State.wrongAnswer s k dst mask).pending = s.pending ∧
    (State.wrongAnswer s k dst mask).fuses = s.fuses ∧
    (State.wrongAnswer s k dst mask).shadows = s.shadows ∧
    (State.wrongAnswer s k dst mask).blobs = s.blobs ∧
    (State.wrongAnswer s k dst mask).blobShadows = s.blobShadows ∧
    (State.wrongAnswer s k dst mask).hubNeeds = s.hubNeeds ∧
    (State.wrongAnswer s k dst mask).commits = s.commits ∧
    (State.wrongAnswer s k dst mask).seeds = s.seeds ∧
    (State.wrongAnswer s k dst mask).load = s.load ∧
    (State.wrongAnswer s k dst mask).clusters = s.clusters ∧
    (State.wrongAnswer s k dst mask).ctxs = s.ctxs ∧
    (State.wrongAnswer s k dst mask).memory = s.memory ∧
    (State.wrongAnswer s k dst mask).coll = s.coll ∧
    (State.wrongAnswer s k dst mask).domain = s.domain ∧
    (State.wrongAnswer s k dst mask).messages = s.messages ∧
    (State.wrongAnswer s k dst mask).package = s.package ∧
    (State.wrongAnswer s k dst mask).clocks = s.clocks ∧
    (State.wrongAnswer s k dst mask).thermal = s.thermal ∧
    (State.wrongAnswer s k dst mask).boot = s.boot ∧
    (State.wrongAnswer s k dst mask).freeCount = s.freeCount := by
  unfold State.wrongAnswer
  try dsimp only
  (repeat' split) <;> simp_all -implicitDefEqProofs [↓prod_flip3, prod_flip]

@[simp] theorem State.releaseLane_kept (s : State) (k : Nat) :
    (State.releaseLane s k).pending = s.pending ∧
    (State.releaseLane s k).fuses = s.fuses ∧
    (State.releaseLane s k).regs = s.regs ∧
    (State.releaseLane s k).shadows = s.shadows ∧
    (State.releaseLane s k).blobs = s.blobs ∧
    (State.releaseLane s k).blobShadows = s.blobShadows ∧
    (State.releaseLane s k).hubNeeds = s.hubNeeds ∧
    (State.releaseLane s k).commits = s.commits ∧
    (State.releaseLane s k).seeds = s.seeds ∧
    (State.releaseLane s k).load = s.load ∧
    (State.releaseLane s k).clusters = s.clusters ∧
    (State.releaseLane s k).ctxs = s.ctxs ∧
    (State.releaseLane s k).memory = s.memory ∧
    (State.releaseLane s k).coll = s.coll ∧
    (State.releaseLane s k).photonics = s.photonics ∧
    (State.releaseLane s k).domain = s.domain ∧
    (State.releaseLane s k).messages = s.messages ∧
    (State.releaseLane s k).package = s.package ∧
    (State.releaseLane s k).clocks = s.clocks ∧
    (State.releaseLane s k).thermal = s.thermal ∧
    (State.releaseLane s k).control = s.control ∧
    (State.releaseLane s k).boot = s.boot ∧
    (State.releaseLane s k).dbg = s.dbg ∧
    (State.releaseLane s k).freeCount = s.freeCount := by
  unfold State.releaseLane
  try dsimp only
  (repeat' split) <;> simp_all -implicitDefEqProofs [↓prod_flip3, prod_flip]

@[simp] theorem State.ringFailed_kept (s : State) (e : Nat) :
    (State.ringFailed s e).pending = s.pending ∧
    (State.ringFailed s e).fuses = s.fuses ∧
    (State.ringFailed s e).shadows = s.shadows ∧
    (State.ringFailed s e).blobs = s.blobs ∧
    (State.ringFailed s e).blobShadows = s.blobShadows ∧
    (State.ringFailed s e).hubNeeds = s.hubNeeds ∧
    (State.ringFailed s e).commits = s.commits ∧
    (State.ringFailed s e).seeds = s.seeds ∧
    (State.ringFailed s e).load = s.load ∧
    (State.ringFailed s e).clusters = s.clusters ∧
    (State.ringFailed s e).ctxs = s.ctxs ∧
    (State.ringFailed s e).memory = s.memory ∧
    (State.ringFailed s e).coll = s.coll ∧
    (State.ringFailed s e).messages = s.messages ∧
    (State.ringFailed s e).package = s.package ∧
    (State.ringFailed s e).clocks = s.clocks ∧
    (State.ringFailed s e).thermal = s.thermal ∧
    (State.ringFailed s e).boot = s.boot ∧
    (State.ringFailed s e).freeCount = s.freeCount := by
  unfold State.ringFailed
  try dsimp only
  (repeat' split) <;> simp_all -implicitDefEqProofs [↓prod_flip3, prod_flip]

@[simp] theorem State.openAction_kept (s : State) (x : Nat) :
    (State.openAction s x).pending = s.pending ∧
    (State.openAction s x).fuses = s.fuses ∧
    (State.openAction s x).regs = s.regs ∧
    (State.openAction s x).shadows = s.shadows ∧
    (State.openAction s x).blobs = s.blobs ∧
    (State.openAction s x).blobShadows = s.blobShadows ∧
    (State.openAction s x).hubNeeds = s.hubNeeds ∧
    (State.openAction s x).commits = s.commits ∧
    (State.openAction s x).seeds = s.seeds ∧
    (State.openAction s x).load = s.load ∧
    (State.openAction s x).clusters = s.clusters ∧
    (State.openAction s x).memory = s.memory ∧
    (State.openAction s x).rig = s.rig ∧
    (State.openAction s x).coll = s.coll ∧
    (State.openAction s x).photonics = s.photonics ∧
    (State.openAction s x).domain = s.domain ∧
    (State.openAction s x).messages = s.messages ∧
    (State.openAction s x).package = s.package ∧
    (State.openAction s x).clocks = s.clocks ∧
    (State.openAction s x).thermal = s.thermal ∧
    (State.openAction s x).control = s.control ∧
    (State.openAction s x).boot = s.boot ∧
    (State.openAction s x).freeCount = s.freeCount := by
  unfold State.openAction State.action
  try dsimp only
  (repeat' split) <;> simp_all -implicitDefEqProofs [↓prod_flip3, prod_flip]

@[simp] theorem State.dropRequests_kept (s : State) (x : Nat) :
    (State.dropRequests s x).pending = s.pending ∧
    (State.dropRequests s x).fuses = s.fuses ∧
    (State.dropRequests s x).regs = s.regs ∧
    (State.dropRequests s x).shadows = s.shadows ∧
    (State.dropRequests s x).blobs = s.blobs ∧
    (State.dropRequests s x).blobShadows = s.blobShadows ∧
    (State.dropRequests s x).hubNeeds = s.hubNeeds ∧
    (State.dropRequests s x).commits = s.commits ∧
    (State.dropRequests s x).seeds = s.seeds ∧
    (State.dropRequests s x).load = s.load ∧
    (State.dropRequests s x).clusters = s.clusters ∧
    (State.dropRequests s x).ctxs = s.ctxs ∧
    (State.dropRequests s x).memory = s.memory ∧
    (State.dropRequests s x).rig = s.rig ∧
    (State.dropRequests s x).coll = s.coll ∧
    (State.dropRequests s x).photonics = s.photonics ∧
    (State.dropRequests s x).messages = s.messages ∧
    (State.dropRequests s x).package = s.package ∧
    (State.dropRequests s x).clocks = s.clocks ∧
    (State.dropRequests s x).thermal = s.thermal ∧
    (State.dropRequests s x).control = s.control ∧
    (State.dropRequests s x).boot = s.boot ∧
    (State.dropRequests s x).dbg = s.dbg ∧
    (State.dropRequests s x).freeCount = s.freeCount := by
  unfold State.dropRequests
  try dsimp only
  (repeat' split) <;> simp_all -implicitDefEqProofs [↓prod_flip3, prod_flip]

@[simp] theorem State.closeDoors_kept (s : State) (x : Nat) :
    (State.closeDoors s x).pending = s.pending ∧
    (State.closeDoors s x).fuses = s.fuses ∧
    (State.closeDoors s x).regs = s.regs ∧
    (State.closeDoors s x).shadows = s.shadows ∧
    (State.closeDoors s x).blobs = s.blobs ∧
    (State.closeDoors s x).blobShadows = s.blobShadows ∧
    (State.closeDoors s x).hubNeeds = s.hubNeeds ∧
    (State.closeDoors s x).commits = s.commits ∧
    (State.closeDoors s x).seeds = s.seeds ∧
    (State.closeDoors s x).load = s.load ∧
    (State.closeDoors s x).clusters = s.clusters ∧
    (State.closeDoors s x).ctxs = s.ctxs ∧
    (State.closeDoors s x).memory = s.memory ∧
    (State.closeDoors s x).rig = s.rig ∧
    (State.closeDoors s x).coll = s.coll ∧
    (State.closeDoors s x).photonics = s.photonics ∧
    (State.closeDoors s x).package = s.package ∧
    (State.closeDoors s x).clocks = s.clocks ∧
    (State.closeDoors s x).thermal = s.thermal ∧
    (State.closeDoors s x).control = s.control ∧
    (State.closeDoors s x).boot = s.boot ∧
    (State.closeDoors s x).dbg = s.dbg ∧
    (State.closeDoors s x).freeCount = s.freeCount := by
  unfold State.closeDoors
  try dsimp only
  (repeat' split) <;> simp_all -implicitDefEqProofs [↓prod_flip3, prod_flip]

@[simp] theorem State.startClose_kept (s : State) (x : Nat) :
    (State.startClose s x).pending = s.pending ∧
    (State.startClose s x).fuses = s.fuses ∧
    (State.startClose s x).shadows = s.shadows ∧
    (State.startClose s x).blobs = s.blobs ∧
    (State.startClose s x).blobShadows = s.blobShadows ∧
    (State.startClose s x).hubNeeds = s.hubNeeds ∧
    (State.startClose s x).seeds = s.seeds ∧
    (State.startClose s x).load = s.load ∧
    (State.startClose s x).clusters = s.clusters ∧
    (State.startClose s x).memory = s.memory ∧
    (State.startClose s x).rig = s.rig ∧
    (State.startClose s x).photonics = s.photonics ∧
    (State.startClose s x).package = s.package ∧
    (State.startClose s x).clocks = s.clocks ∧
    (State.startClose s x).thermal = s.thermal ∧
    (State.startClose s x).control = s.control ∧
    (State.startClose s x).boot = s.boot ∧
    (State.startClose s x).dbg = s.dbg ∧
    (State.startClose s x).freeCount = s.freeCount := by
  unfold State.startClose
  try dsimp only
  (repeat' split) <;> simp_all -implicitDefEqProofs [↓prod_flip3, prod_flip]

@[simp] theorem State.closeAction_kept (s : State) (x : Nat) :
    (State.closeAction s x).pending = s.pending ∧
    (State.closeAction s x).fuses = s.fuses ∧
    (State.closeAction s x).shadows = s.shadows ∧
    (State.closeAction s x).blobs = s.blobs ∧
    (State.closeAction s x).blobShadows = s.blobShadows ∧
    (State.closeAction s x).hubNeeds = s.hubNeeds ∧
    (State.closeAction s x).seeds = s.seeds ∧
    (State.closeAction s x).load = s.load ∧
    (State.closeAction s x).clusters = s.clusters ∧
    (State.closeAction s x).memory = s.memory ∧
    (State.closeAction s x).rig = s.rig ∧
    (State.closeAction s x).photonics = s.photonics ∧
    (State.closeAction s x).package = s.package ∧
    (State.closeAction s x).clocks = s.clocks ∧
    (State.closeAction s x).thermal = s.thermal ∧
    (State.closeAction s x).control = s.control ∧
    (State.closeAction s x).boot = s.boot ∧
    (State.closeAction s x).dbg = s.dbg ∧
    (State.closeAction s x).freeCount = s.freeCount := by
  unfold State.closeAction State.action
  try dsimp only
  (repeat' split) <;> simp_all -implicitDefEqProofs [↓prod_flip3, prod_flip]

@[simp] theorem State.zeroCluster_kept (s : State) (c : Nat) :
    (State.zeroCluster s c).pending = s.pending ∧
    (State.zeroCluster s c).fuses = s.fuses ∧
    (State.zeroCluster s c).regs = s.regs ∧
    (State.zeroCluster s c).shadows = s.shadows ∧
    (State.zeroCluster s c).blobs = s.blobs ∧
    (State.zeroCluster s c).blobShadows = s.blobShadows ∧
    (State.zeroCluster s c).hubNeeds = s.hubNeeds ∧
    (State.zeroCluster s c).commits = s.commits ∧
    (State.zeroCluster s c).seeds = s.seeds ∧
    (State.zeroCluster s c).load = s.load ∧
    (State.zeroCluster s c).ctxs = s.ctxs ∧
    (State.zeroCluster s c).rig = s.rig ∧
    (State.zeroCluster s c).coll = s.coll ∧
    (State.zeroCluster s c).photonics = s.photonics ∧
    (State.zeroCluster s c).domain = s.domain ∧
    (State.zeroCluster s c).messages = s.messages ∧
    (State.zeroCluster s c).package = s.package ∧
    (State.zeroCluster s c).clocks = s.clocks ∧
    (State.zeroCluster s c).thermal = s.thermal ∧
    (State.zeroCluster s c).control = s.control ∧
    (State.zeroCluster s c).boot = s.boot ∧
    (State.zeroCluster s c).dbg = s.dbg ∧
    (State.zeroCluster s c).freeCount = s.freeCount := by
  unfold State.zeroCluster
  try dsimp only
  (repeat' split) <;> simp_all -implicitDefEqProofs [↓prod_flip3, prod_flip]

@[simp] theorem State.freeClusters_kept (s : State) (x : Nat) :
    (State.freeClusters s x).pending = s.pending ∧
    (State.freeClusters s x).fuses = s.fuses ∧
    (State.freeClusters s x).regs = s.regs ∧
    (State.freeClusters s x).shadows = s.shadows ∧
    (State.freeClusters s x).blobs = s.blobs ∧
    (State.freeClusters s x).blobShadows = s.blobShadows ∧
    (State.freeClusters s x).hubNeeds = s.hubNeeds ∧
    (State.freeClusters s x).commits = s.commits ∧
    (State.freeClusters s x).seeds = s.seeds ∧
    (State.freeClusters s x).load = s.load ∧
    (State.freeClusters s x).ctxs = s.ctxs ∧
    (State.freeClusters s x).memory = s.memory ∧
    (State.freeClusters s x).rig = s.rig ∧
    (State.freeClusters s x).coll = s.coll ∧
    (State.freeClusters s x).photonics = s.photonics ∧
    (State.freeClusters s x).domain = s.domain ∧
    (State.freeClusters s x).messages = s.messages ∧
    (State.freeClusters s x).package = s.package ∧
    (State.freeClusters s x).thermal = s.thermal ∧
    (State.freeClusters s x).control = s.control ∧
    (State.freeClusters s x).boot = s.boot ∧
    (State.freeClusters s x).dbg = s.dbg ∧
    (State.freeClusters s x).freeCount = s.freeCount := by
  unfold State.freeClusters
  try dsimp only
  (repeat' split) <;> simp_all -implicitDefEqProofs [↓prod_flip3, prod_flip]

@[simp] theorem State.resumeAction_kept (s : State) (x : Nat) :
    (State.resumeAction s x).pending = s.pending ∧
    (State.resumeAction s x).fuses = s.fuses ∧
    (State.resumeAction s x).regs = s.regs ∧
    (State.resumeAction s x).shadows = s.shadows ∧
    (State.resumeAction s x).blobs = s.blobs ∧
    (State.resumeAction s x).blobShadows = s.blobShadows ∧
    (State.resumeAction s x).hubNeeds = s.hubNeeds ∧
    (State.resumeAction s x).commits = s.commits ∧
    (State.resumeAction s x).seeds = s.seeds ∧
    (State.resumeAction s x).load = s.load ∧
    (State.resumeAction s x).rig = s.rig ∧
    (State.resumeAction s x).photonics = s.photonics ∧
    (State.resumeAction s x).domain = s.domain ∧
    (State.resumeAction s x).messages = s.messages ∧
    (State.resumeAction s x).package = s.package ∧
    (State.resumeAction s x).clocks = s.clocks ∧
    (State.resumeAction s x).thermal = s.thermal ∧
    (State.resumeAction s x).control = s.control ∧
    (State.resumeAction s x).boot = s.boot ∧
    (State.resumeAction s x).freeCount = s.freeCount := by
  unfold State.resumeAction State.action
  try dsimp only
  (repeat' split) <;> simp_all -implicitDefEqProofs [↓prod_flip3, prod_flip]

@[simp] theorem State.parkAction_kept (s : State) (x : Nat) :
    (State.parkAction s x).pending = s.pending ∧
    (State.parkAction s x).fuses = s.fuses ∧
    (State.parkAction s x).regs = s.regs ∧
    (State.parkAction s x).shadows = s.shadows ∧
    (State.parkAction s x).blobs = s.blobs ∧
    (State.parkAction s x).blobShadows = s.blobShadows ∧
    (State.parkAction s x).hubNeeds = s.hubNeeds ∧
    (State.parkAction s x).commits = s.commits ∧
    (State.parkAction s x).seeds = s.seeds ∧
    (State.parkAction s x).load = s.load ∧
    (State.parkAction s x).memory = s.memory ∧
    (State.parkAction s x).rig = s.rig ∧
    (State.parkAction s x).photonics = s.photonics ∧
    (State.parkAction s x).domain = s.domain ∧
    (State.parkAction s x).messages = s.messages ∧
    (State.parkAction s x).package = s.package ∧
    (State.parkAction s x).clocks = s.clocks ∧
    (State.parkAction s x).thermal = s.thermal ∧
    (State.parkAction s x).control = s.control ∧
    (State.parkAction s x).boot = s.boot ∧
    (State.parkAction s x).dbg = s.dbg ∧
    (State.parkAction s x).freeCount = s.freeCount := by
  unfold State.parkAction State.action
  try dsimp only
  (repeat' split) <;> simp_all -implicitDefEqProofs [↓prod_flip3, prod_flip]

@[simp] theorem State.detachAction_kept (s : State) (x : Nat) :
    (State.detachAction s x).pending = s.pending ∧
    (State.detachAction s x).fuses = s.fuses ∧
    (State.detachAction s x).shadows = s.shadows ∧
    (State.detachAction s x).blobShadows = s.blobShadows ∧
    (State.detachAction s x).hubNeeds = s.hubNeeds ∧
    (State.detachAction s x).commits = s.commits ∧
    (State.detachAction s x).seeds = s.seeds ∧
    (State.detachAction s x).load = s.load ∧
    (State.detachAction s x).rig = s.rig ∧
    (State.detachAction s x).coll = s.coll ∧
    (State.detachAction s x).photonics = s.photonics ∧
    (State.detachAction s x).domain = s.domain ∧
    (State.detachAction s x).messages = s.messages ∧
    (State.detachAction s x).package = s.package ∧
    (State.detachAction s x).clocks = s.clocks ∧
    (State.detachAction s x).thermal = s.thermal ∧
    (State.detachAction s x).boot = s.boot ∧
    (State.detachAction s x).freeCount = s.freeCount := by
  unfold State.detachAction State.action
  try dsimp only
  (repeat' split) <;> simp_all -implicitDefEqProofs [↓prod_flip3, prod_flip]

@[simp] theorem State.attachAction_kept (s : State) (x : Nat) :
    (State.attachAction s x).pending = s.pending ∧
    (State.attachAction s x).fuses = s.fuses ∧
    (State.attachAction s x).shadows = s.shadows ∧
    (State.attachAction s x).blobShadows = s.blobShadows ∧
    (State.attachAction s x).hubNeeds = s.hubNeeds ∧
    (State.attachAction s x).commits = s.commits ∧
    (State.attachAction s x).seeds = s.seeds ∧
    (State.attachAction s x).load = s.load ∧
    (State.attachAction s x).rig = s.rig ∧
    (State.attachAction s x).coll = s.coll ∧
    (State.attachAction s x).photonics = s.photonics ∧
    (State.attachAction s x).domain = s.domain ∧
    (State.attachAction s x).messages = s.messages ∧
    (State.attachAction s x).package = s.package ∧
    (State.attachAction s x).clocks = s.clocks ∧
    (State.attachAction s x).thermal = s.thermal ∧
    (State.attachAction s x).boot = s.boot ∧
    (State.attachAction s x).freeCount = s.freeCount := by
  unfold State.attachAction State.action
  try dsimp only
  (repeat' split) <;> simp_all -implicitDefEqProofs [↓prod_flip3, prod_flip]

@[simp] theorem State.countWaits_kept (s : State) (x : Nat) :
    (State.countWaits s x).pending = s.pending ∧
    (State.countWaits s x).fuses = s.fuses ∧
    (State.countWaits s x).regs = s.regs ∧
    (State.countWaits s x).shadows = s.shadows ∧
    (State.countWaits s x).blobs = s.blobs ∧
    (State.countWaits s x).blobShadows = s.blobShadows ∧
    (State.countWaits s x).hubNeeds = s.hubNeeds ∧
    (State.countWaits s x).commits = s.commits ∧
    (State.countWaits s x).seeds = s.seeds ∧
    (State.countWaits s x).load = s.load ∧
    (State.countWaits s x).clusters = s.clusters ∧
    (State.countWaits s x).memory = s.memory ∧
    (State.countWaits s x).rig = s.rig ∧
    (State.countWaits s x).coll = s.coll ∧
    (State.countWaits s x).photonics = s.photonics ∧
    (State.countWaits s x).domain = s.domain ∧
    (State.countWaits s x).messages = s.messages ∧
    (State.countWaits s x).package = s.package ∧
    (State.countWaits s x).clocks = s.clocks ∧
    (State.countWaits s x).thermal = s.thermal ∧
    (State.countWaits s x).control = s.control ∧
    (State.countWaits s x).boot = s.boot ∧
    (State.countWaits s x).dbg = s.dbg ∧
    (State.countWaits s x).freeCount = s.freeCount := by
  unfold State.countWaits
  try dsimp only
  (repeat' split) <;> simp_all -implicitDefEqProofs [↓prod_flip3, prod_flip]

@[simp] theorem State.initialise_kept (s : State) (x : Nat) (c : Nat) :
    (State.initialise s x c).pending = s.pending ∧
    (State.initialise s x c).fuses = s.fuses ∧
    (State.initialise s x c).regs = s.regs ∧
    (State.initialise s x c).shadows = s.shadows ∧
    (State.initialise s x c).blobs = s.blobs ∧
    (State.initialise s x c).blobShadows = s.blobShadows ∧
    (State.initialise s x c).hubNeeds = s.hubNeeds ∧
    (State.initialise s x c).commits = s.commits ∧
    (State.initialise s x c).seeds = s.seeds ∧
    (State.initialise s x c).load = s.load ∧
    (State.initialise s x c).ctxs = s.ctxs ∧
    (State.initialise s x c).rig = s.rig ∧
    (State.initialise s x c).coll = s.coll ∧
    (State.initialise s x c).photonics = s.photonics ∧
    (State.initialise s x c).domain = s.domain ∧
    (State.initialise s x c).messages = s.messages ∧
    (State.initialise s x c).package = s.package ∧
    (State.initialise s x c).clocks = s.clocks ∧
    (State.initialise s x c).thermal = s.thermal ∧
    (State.initialise s x c).control = s.control ∧
    (State.initialise s x c).boot = s.boot ∧
    (State.initialise s x c).dbg = s.dbg ∧
    (State.initialise s x c).freeCount = s.freeCount := by
  unfold State.initialise
  try dsimp only
  (repeat' split) <;> simp_all -implicitDefEqProofs [↓prod_flip3, prod_flip]

@[simp] theorem State.readBack_kept (s : State) (x : Nat) (c : Nat) :
    (State.readBack s x c).pending = s.pending ∧
    (State.readBack s x c).fuses = s.fuses ∧
    (State.readBack s x c).shadows = s.shadows ∧
    (State.readBack s x c).blobShadows = s.blobShadows ∧
    (State.readBack s x c).hubNeeds = s.hubNeeds ∧
    (State.readBack s x c).commits = s.commits ∧
    (State.readBack s x c).seeds = s.seeds ∧
    (State.readBack s x c).load = s.load ∧
    (State.readBack s x c).ctxs = s.ctxs ∧
    (State.readBack s x c).rig = s.rig ∧
    (State.readBack s x c).coll = s.coll ∧
    (State.readBack s x c).photonics = s.photonics ∧
    (State.readBack s x c).domain = s.domain ∧
    (State.readBack s x c).messages = s.messages ∧
    (State.readBack s x c).package = s.package ∧
    (State.readBack s x c).clocks = s.clocks ∧
    (State.readBack s x c).thermal = s.thermal ∧
    (State.readBack s x c).boot = s.boot ∧
    (State.readBack s x c).freeCount = s.freeCount := by
  unfold State.readBack
  try dsimp only
  (repeat' split) <;> simp_all -implicitDefEqProofs [↓prod_flip3, prod_flip]

@[simp] theorem State.enterBound_kept (s : State) (x : Nat) :
    (State.enterBound s x).pending = s.pending ∧
    (State.enterBound s x).fuses = s.fuses ∧
    (State.enterBound s x).regs = s.regs ∧
    (State.enterBound s x).shadows = s.shadows ∧
    (State.enterBound s x).blobs = s.blobs ∧
    (State.enterBound s x).blobShadows = s.blobShadows ∧
    (State.enterBound s x).hubNeeds = s.hubNeeds ∧
    (State.enterBound s x).commits = s.commits ∧
    (State.enterBound s x).seeds = s.seeds ∧
    (State.enterBound s x).load = s.load ∧
    (State.enterBound s x).clusters = s.clusters ∧
    (State.enterBound s x).memory = s.memory ∧
    (State.enterBound s x).rig = s.rig ∧
    (State.enterBound s x).coll = s.coll ∧
    (State.enterBound s x).photonics = s.photonics ∧
    (State.enterBound s x).domain = s.domain ∧
    (State.enterBound s x).messages = s.messages ∧
    (State.enterBound s x).package = s.package ∧
    (State.enterBound s x).clocks = s.clocks ∧
    (State.enterBound s x).thermal = s.thermal ∧
    (State.enterBound s x).control = s.control ∧
    (State.enterBound s x).boot = s.boot ∧
    (State.enterBound s x).freeCount = s.freeCount := by
  unfold State.enterBound
  try dsimp only
  (repeat' split) <;> simp_all -implicitDefEqProofs [↓prod_flip3, prod_flip]

@[simp] theorem State.bind_kept (s : State) (x : Nat) :
    (State.bind s x).pending = s.pending ∧
    (State.bind s x).fuses = s.fuses ∧
    (State.bind s x).shadows = s.shadows ∧
    (State.bind s x).blobShadows = s.blobShadows ∧
    (State.bind s x).hubNeeds = s.hubNeeds ∧
    (State.bind s x).seeds = s.seeds ∧
    (State.bind s x).load = s.load ∧
    (State.bind s x).rig = s.rig ∧
    (State.bind s x).photonics = s.photonics ∧
    (State.bind s x).domain = s.domain ∧
    (State.bind s x).messages = s.messages ∧
    (State.bind s x).package = s.package ∧
    (State.bind s x).thermal = s.thermal ∧
    (State.bind s x).boot = s.boot ∧
    (State.bind s x).freeCount = s.freeCount := by
  unfold State.bind
  try dsimp only
  (repeat' split) <;> simp_all -implicitDefEqProofs [↓prod_flip3, prod_flip]

@[simp] theorem State.bindAll_kept (s : State) (x1 : List Nat) :
    (State.bindAll s x1).pending = s.pending ∧
    (State.bindAll s x1).fuses = s.fuses ∧
    (State.bindAll s x1).shadows = s.shadows ∧
    (State.bindAll s x1).blobShadows = s.blobShadows ∧
    (State.bindAll s x1).hubNeeds = s.hubNeeds ∧
    (State.bindAll s x1).seeds = s.seeds ∧
    (State.bindAll s x1).load = s.load ∧
    (State.bindAll s x1).rig = s.rig ∧
    (State.bindAll s x1).photonics = s.photonics ∧
    (State.bindAll s x1).domain = s.domain ∧
    (State.bindAll s x1).messages = s.messages ∧
    (State.bindAll s x1).package = s.package ∧
    (State.bindAll s x1).thermal = s.thermal ∧
    (State.bindAll s x1).boot = s.boot ∧
    (State.bindAll s x1).freeCount = s.freeCount := by
  induction x1 generalizing s <;> unfold State.bindAll <;> try dsimp only
  all_goals ((repeat' split) <;> simp_all -implicitDefEqProofs [↓prod_flip3, prod_flip])

@[simp] theorem State.writeImage_kept (s : State) (x : Nat) (c : Nat) :
    (State.writeImage s x c).pending = s.pending ∧
    (State.writeImage s x c).fuses = s.fuses ∧
    (State.writeImage s x c).shadows = s.shadows ∧
    (State.writeImage s x c).blobShadows = s.blobShadows ∧
    (State.writeImage s x c).hubNeeds = s.hubNeeds ∧
    (State.writeImage s x c).commits = s.commits ∧
    (State.writeImage s x c).seeds = s.seeds ∧
    (State.writeImage s x c).load = s.load ∧
    (State.writeImage s x c).ctxs = s.ctxs ∧
    (State.writeImage s x c).rig = s.rig ∧
    (State.writeImage s x c).coll = s.coll ∧
    (State.writeImage s x c).photonics = s.photonics ∧
    (State.writeImage s x c).domain = s.domain ∧
    (State.writeImage s x c).messages = s.messages ∧
    (State.writeImage s x c).package = s.package ∧
    (State.writeImage s x c).clocks = s.clocks ∧
    (State.writeImage s x c).thermal = s.thermal ∧
    (State.writeImage s x c).boot = s.boot ∧
    (State.writeImage s x c).freeCount = s.freeCount := by
  unfold State.writeImage
  try dsimp only
  (repeat' split) <;> simp_all -implicitDefEqProofs [↓prod_flip3, prod_flip]

@[simp] theorem State.takeHeld_kept (s : State) (x : Nat) :
    (State.takeHeld s x).2.pending = s.pending ∧
    (State.takeHeld s x).2.fuses = s.fuses ∧
    (State.takeHeld s x).2.regs = s.regs ∧
    (State.takeHeld s x).2.shadows = s.shadows ∧
    (State.takeHeld s x).2.blobs = s.blobs ∧
    (State.takeHeld s x).2.blobShadows = s.blobShadows ∧
    (State.takeHeld s x).2.hubNeeds = s.hubNeeds ∧
    (State.takeHeld s x).2.commits = s.commits ∧
    (State.takeHeld s x).2.seeds = s.seeds ∧
    (State.takeHeld s x).2.load = s.load ∧
    (State.takeHeld s x).2.clusters = s.clusters ∧
    (State.takeHeld s x).2.ctxs = s.ctxs ∧
    (State.takeHeld s x).2.rig = s.rig ∧
    (State.takeHeld s x).2.coll = s.coll ∧
    (State.takeHeld s x).2.photonics = s.photonics ∧
    (State.takeHeld s x).2.domain = s.domain ∧
    (State.takeHeld s x).2.messages = s.messages ∧
    (State.takeHeld s x).2.package = s.package ∧
    (State.takeHeld s x).2.clocks = s.clocks ∧
    (State.takeHeld s x).2.thermal = s.thermal ∧
    (State.takeHeld s x).2.control = s.control ∧
    (State.takeHeld s x).2.boot = s.boot ∧
    (State.takeHeld s x).2.dbg = s.dbg ∧
    (State.takeHeld s x).2.freeCount = s.freeCount := by
  unfold State.takeHeld
  try dsimp only
  (repeat' split) <;> simp_all -implicitDefEqProofs [↓prod_flip3, prod_flip]

@[simp] theorem State.applyHeldFor_kept (s : State) (x : Nat) :
    (State.applyHeldFor s x).pending = s.pending ∧
    (State.applyHeldFor s x).fuses = s.fuses ∧
    (State.applyHeldFor s x).shadows = s.shadows ∧
    (State.applyHeldFor s x).blobShadows = s.blobShadows ∧
    (State.applyHeldFor s x).hubNeeds = s.hubNeeds ∧
    (State.applyHeldFor s x).seeds = s.seeds ∧
    (State.applyHeldFor s x).load = s.load ∧
    (State.applyHeldFor s x).photonics = s.photonics ∧
    (State.applyHeldFor s x).package = s.package ∧
    (State.applyHeldFor s x).thermal = s.thermal ∧
    (State.applyHeldFor s x).boot = s.boot ∧
    (State.applyHeldFor s x).freeCount = s.freeCount := by
  unfold State.applyHeldFor
  try dsimp only
  (repeat' split) <;> simp_all -implicitDefEqProofs [↓prod_flip3, prod_flip]

@[simp] theorem State.closeIfPending_kept (s : State) (x : Nat) :
    (State.closeIfPending s x).pending = s.pending ∧
    (State.closeIfPending s x).fuses = s.fuses ∧
    (State.closeIfPending s x).shadows = s.shadows ∧
    (State.closeIfPending s x).blobs = s.blobs ∧
    (State.closeIfPending s x).blobShadows = s.blobShadows ∧
    (State.closeIfPending s x).hubNeeds = s.hubNeeds ∧
    (State.closeIfPending s x).seeds = s.seeds ∧
    (State.closeIfPending s x).load = s.load ∧
    (State.closeIfPending s x).clusters = s.clusters ∧
    (State.closeIfPending s x).memory = s.memory ∧
    (State.closeIfPending s x).rig = s.rig ∧
    (State.closeIfPending s x).photonics = s.photonics ∧
    (State.closeIfPending s x).package = s.package ∧
    (State.closeIfPending s x).clocks = s.clocks ∧
    (State.closeIfPending s x).thermal = s.thermal ∧
    (State.closeIfPending s x).control = s.control ∧
    (State.closeIfPending s x).boot = s.boot ∧
    (State.closeIfPending s x).dbg = s.dbg ∧
    (State.closeIfPending s x).freeCount = s.freeCount := by
  unfold State.closeIfPending
  try dsimp only
  (repeat' split) <;> simp_all -implicitDefEqProofs [↓prod_flip3, prod_flip]

@[simp] theorem State.freeCredits_kept (s : State) :
    (State.freeCredits s).pending = s.pending ∧
    (State.freeCredits s).fuses = s.fuses ∧
    (State.freeCredits s).shadows = s.shadows ∧
    (State.freeCredits s).blobs = s.blobs ∧
    (State.freeCredits s).blobShadows = s.blobShadows ∧
    (State.freeCredits s).hubNeeds = s.hubNeeds ∧
    (State.freeCredits s).commits = s.commits ∧
    (State.freeCredits s).seeds = s.seeds ∧
    (State.freeCredits s).load = s.load ∧
    (State.freeCredits s).clusters = s.clusters ∧
    (State.freeCredits s).ctxs = s.ctxs ∧
    (State.freeCredits s).memory = s.memory ∧
    (State.freeCredits s).coll = s.coll ∧
    (State.freeCredits s).photonics = s.photonics ∧
    (State.freeCredits s).domain = s.domain ∧
    (State.freeCredits s).messages = s.messages ∧
    (State.freeCredits s).package = s.package ∧
    (State.freeCredits s).clocks = s.clocks ∧
    (State.freeCredits s).thermal = s.thermal ∧
    (State.freeCredits s).control = s.control ∧
    (State.freeCredits s).boot = s.boot ∧
    (State.freeCredits s).dbg = s.dbg ∧
    (State.freeCredits s).freeCount = s.freeCount := by
  unfold State.freeCredits
  try dsimp only
  (repeat' split) <;> simp_all -implicitDefEqProofs [↓prod_flip3, prod_flip]

@[simp] theorem State.meshRefused_kept (s : State) (m : MeshRequest) :
    (State.meshRefused s m).pending = s.pending ∧
    (State.meshRefused s m).fuses = s.fuses ∧
    (State.meshRefused s m).shadows = s.shadows ∧
    (State.meshRefused s m).blobs = s.blobs ∧
    (State.meshRefused s m).blobShadows = s.blobShadows ∧
    (State.meshRefused s m).hubNeeds = s.hubNeeds ∧
    (State.meshRefused s m).seeds = s.seeds ∧
    (State.meshRefused s m).load = s.load ∧
    (State.meshRefused s m).clusters = s.clusters ∧
    (State.meshRefused s m).memory = s.memory ∧
    (State.meshRefused s m).rig = s.rig ∧
    (State.meshRefused s m).photonics = s.photonics ∧
    (State.meshRefused s m).domain = s.domain ∧
    (State.meshRefused s m).messages = s.messages ∧
    (State.meshRefused s m).package = s.package ∧
    (State.meshRefused s m).clocks = s.clocks ∧
    (State.meshRefused s m).thermal = s.thermal ∧
    (State.meshRefused s m).boot = s.boot ∧
    (State.meshRefused s m).freeCount = s.freeCount := by
  unfold State.meshRefused
  try dsimp only
  (repeat' split) <;> simp_all -implicitDefEqProofs [↓prod_flip3, prod_flip]

@[simp] theorem State.loaderCommit_kept (s : State) (value : Nat) :
    (State.loaderCommit s value).2.pending = s.pending ∧
    (State.loaderCommit s value).2.fuses = s.fuses ∧
    (State.loaderCommit s value).2.shadows = s.shadows ∧
    (State.loaderCommit s value).2.blobs = s.blobs ∧
    (State.loaderCommit s value).2.blobShadows = s.blobShadows ∧
    (State.loaderCommit s value).2.hubNeeds = s.hubNeeds ∧
    (State.loaderCommit s value).2.commits = s.commits ∧
    (State.loaderCommit s value).2.seeds = s.seeds ∧
    (State.loaderCommit s value).2.clusters = s.clusters ∧
    (State.loaderCommit s value).2.ctxs = s.ctxs ∧
    (State.loaderCommit s value).2.memory = s.memory ∧
    (State.loaderCommit s value).2.rig = s.rig ∧
    (State.loaderCommit s value).2.coll = s.coll ∧
    (State.loaderCommit s value).2.photonics = s.photonics ∧
    (State.loaderCommit s value).2.domain = s.domain ∧
    (State.loaderCommit s value).2.messages = s.messages ∧
    (State.loaderCommit s value).2.package = s.package ∧
    (State.loaderCommit s value).2.clocks = s.clocks ∧
    (State.loaderCommit s value).2.thermal = s.thermal ∧
    (State.loaderCommit s value).2.control = s.control ∧
    (State.loaderCommit s value).2.boot = s.boot ∧
    (State.loaderCommit s value).2.dbg = s.dbg ∧
    (State.loaderCommit s value).2.freeCount = s.freeCount := by
  unfold State.loaderCommit
  try dsimp only
  (repeat' split) <;> simp_all -implicitDefEqProofs [↓prod_flip3, prod_flip]

@[simp] theorem State.applySeed_kept (s : State) (x : Nat) (v : Word64) :
    (State.applySeed s x v).pending = s.pending ∧
    (State.applySeed s x v).fuses = s.fuses ∧
    (State.applySeed s x v).regs = s.regs ∧
    (State.applySeed s x v).shadows = s.shadows ∧
    (State.applySeed s x v).blobs = s.blobs ∧
    (State.applySeed s x v).blobShadows = s.blobShadows ∧
    (State.applySeed s x v).hubNeeds = s.hubNeeds ∧
    (State.applySeed s x v).commits = s.commits ∧
    (State.applySeed s x v).load = s.load ∧
    (State.applySeed s x v).memory = s.memory ∧
    (State.applySeed s x v).rig = s.rig ∧
    (State.applySeed s x v).photonics = s.photonics ∧
    (State.applySeed s x v).domain = s.domain ∧
    (State.applySeed s x v).messages = s.messages ∧
    (State.applySeed s x v).package = s.package ∧
    (State.applySeed s x v).clocks = s.clocks ∧
    (State.applySeed s x v).thermal = s.thermal ∧
    (State.applySeed s x v).control = s.control ∧
    (State.applySeed s x v).boot = s.boot ∧
    (State.applySeed s x v).dbg = s.dbg ∧
    (State.applySeed s x v).freeCount = s.freeCount := by
  unfold State.applySeed
  try dsimp only
  (repeat' split) <;> simp_all -implicitDefEqProofs [↓prod_flip3, prod_flip]

@[simp] theorem State.arithmeticCommit_kept (s : State) (value : Nat) :
    (State.arithmeticCommit s value).2.pending = s.pending ∧
    (State.arithmeticCommit s value).2.fuses = s.fuses ∧
    (State.arithmeticCommit s value).2.regs = s.regs ∧
    (State.arithmeticCommit s value).2.shadows = s.shadows ∧
    (State.arithmeticCommit s value).2.blobShadows = s.blobShadows ∧
    (State.arithmeticCommit s value).2.hubNeeds = s.hubNeeds ∧
    (State.arithmeticCommit s value).2.commits = s.commits ∧
    (State.arithmeticCommit s value).2.load = s.load ∧
    (State.arithmeticCommit s value).2.memory = s.memory ∧
    (State.arithmeticCommit s value).2.rig = s.rig ∧
    (State.arithmeticCommit s value).2.photonics = s.photonics ∧
    (State.arithmeticCommit s value).2.domain = s.domain ∧
    (State.arithmeticCommit s value).2.messages = s.messages ∧
    (State.arithmeticCommit s value).2.package = s.package ∧
    (State.arithmeticCommit s value).2.clocks = s.clocks ∧
    (State.arithmeticCommit s value).2.thermal = s.thermal ∧
    (State.arithmeticCommit s value).2.control = s.control ∧
    (State.arithmeticCommit s value).2.boot = s.boot ∧
    (State.arithmeticCommit s value).2.dbg = s.dbg ∧
    (State.arithmeticCommit s value).2.freeCount = s.freeCount := by
  unfold State.arithmeticCommit
  try dsimp only
  (repeat' split) <;> simp_all -implicitDefEqProofs [↓prod_flip3, prod_flip]

@[simp] theorem State.leaveOutbox_kept (s : State) (p : Packet) :
    (State.leaveOutbox s p).pending = s.pending ∧
    (State.leaveOutbox s p).fuses = s.fuses ∧
    (State.leaveOutbox s p).regs = s.regs ∧
    (State.leaveOutbox s p).shadows = s.shadows ∧
    (State.leaveOutbox s p).blobs = s.blobs ∧
    (State.leaveOutbox s p).blobShadows = s.blobShadows ∧
    (State.leaveOutbox s p).hubNeeds = s.hubNeeds ∧
    (State.leaveOutbox s p).commits = s.commits ∧
    (State.leaveOutbox s p).seeds = s.seeds ∧
    (State.leaveOutbox s p).load = s.load ∧
    (State.leaveOutbox s p).clusters = s.clusters ∧
    (State.leaveOutbox s p).ctxs = s.ctxs ∧
    (State.leaveOutbox s p).memory = s.memory ∧
    (State.leaveOutbox s p).coll = s.coll ∧
    (State.leaveOutbox s p).photonics = s.photonics ∧
    (State.leaveOutbox s p).domain = s.domain ∧
    (State.leaveOutbox s p).messages = s.messages ∧
    (State.leaveOutbox s p).package = s.package ∧
    (State.leaveOutbox s p).clocks = s.clocks ∧
    (State.leaveOutbox s p).thermal = s.thermal ∧
    (State.leaveOutbox s p).control = s.control ∧
    (State.leaveOutbox s p).boot = s.boot ∧
    (State.leaveOutbox s p).dbg = s.dbg ∧
    (State.leaveOutbox s p).freeCount = s.freeCount := by
  unfold State.leaveOutbox
  try dsimp only
  (repeat' split) <;> simp_all -implicitDefEqProofs [↓prod_flip3, prod_flip]

@[simp] theorem State.stampPacket_kept (s : State) (p : Packet) :
    (State.stampPacket s p).2.pending = s.pending ∧
    (State.stampPacket s p).2.fuses = s.fuses ∧
    (State.stampPacket s p).2.regs = s.regs ∧
    (State.stampPacket s p).2.shadows = s.shadows ∧
    (State.stampPacket s p).2.blobs = s.blobs ∧
    (State.stampPacket s p).2.blobShadows = s.blobShadows ∧
    (State.stampPacket s p).2.hubNeeds = s.hubNeeds ∧
    (State.stampPacket s p).2.commits = s.commits ∧
    (State.stampPacket s p).2.seeds = s.seeds ∧
    (State.stampPacket s p).2.load = s.load ∧
    (State.stampPacket s p).2.clusters = s.clusters ∧
    (State.stampPacket s p).2.ctxs = s.ctxs ∧
    (State.stampPacket s p).2.memory = s.memory ∧
    (State.stampPacket s p).2.coll = s.coll ∧
    (State.stampPacket s p).2.photonics = s.photonics ∧
    (State.stampPacket s p).2.domain = s.domain ∧
    (State.stampPacket s p).2.messages = s.messages ∧
    (State.stampPacket s p).2.package = s.package ∧
    (State.stampPacket s p).2.clocks = s.clocks ∧
    (State.stampPacket s p).2.thermal = s.thermal ∧
    (State.stampPacket s p).2.control = s.control ∧
    (State.stampPacket s p).2.boot = s.boot ∧
    (State.stampPacket s p).2.dbg = s.dbg ∧
    (State.stampPacket s p).2.freeCount = s.freeCount := by
  unfold State.stampPacket
  try dsimp only
  (repeat' split) <;> simp_all -implicitDefEqProofs [↓prod_flip3, prod_flip]

@[simp] theorem State.takeTurn_kept (s : State) (path : Nat) (vc : Nat) (n : Nat) :
    (State.takeTurn s path vc n).pending = s.pending ∧
    (State.takeTurn s path vc n).fuses = s.fuses ∧
    (State.takeTurn s path vc n).regs = s.regs ∧
    (State.takeTurn s path vc n).shadows = s.shadows ∧
    (State.takeTurn s path vc n).blobs = s.blobs ∧
    (State.takeTurn s path vc n).blobShadows = s.blobShadows ∧
    (State.takeTurn s path vc n).hubNeeds = s.hubNeeds ∧
    (State.takeTurn s path vc n).commits = s.commits ∧
    (State.takeTurn s path vc n).seeds = s.seeds ∧
    (State.takeTurn s path vc n).load = s.load ∧
    (State.takeTurn s path vc n).clusters = s.clusters ∧
    (State.takeTurn s path vc n).ctxs = s.ctxs ∧
    (State.takeTurn s path vc n).memory = s.memory ∧
    (State.takeTurn s path vc n).coll = s.coll ∧
    (State.takeTurn s path vc n).photonics = s.photonics ∧
    (State.takeTurn s path vc n).domain = s.domain ∧
    (State.takeTurn s path vc n).messages = s.messages ∧
    (State.takeTurn s path vc n).package = s.package ∧
    (State.takeTurn s path vc n).clocks = s.clocks ∧
    (State.takeTurn s path vc n).thermal = s.thermal ∧
    (State.takeTurn s path vc n).control = s.control ∧
    (State.takeTurn s path vc n).boot = s.boot ∧
    (State.takeTurn s path vc n).dbg = s.dbg ∧
    (State.takeTurn s path vc n).freeCount = s.freeCount := by
  unfold State.takeTurn
  try dsimp only
  (repeat' split) <;> simp_all -implicitDefEqProofs [↓prod_flip3, prod_flip]

@[simp] theorem State.sendOn_kept (s : State) (p : Packet) (path : Nat) :
    (State.sendOn s p path).pending = s.pending ∧
    (State.sendOn s p path).fuses = s.fuses ∧
    (State.sendOn s p path).regs = s.regs ∧
    (State.sendOn s p path).shadows = s.shadows ∧
    (State.sendOn s p path).blobs = s.blobs ∧
    (State.sendOn s p path).blobShadows = s.blobShadows ∧
    (State.sendOn s p path).hubNeeds = s.hubNeeds ∧
    (State.sendOn s p path).commits = s.commits ∧
    (State.sendOn s p path).seeds = s.seeds ∧
    (State.sendOn s p path).load = s.load ∧
    (State.sendOn s p path).clusters = s.clusters ∧
    (State.sendOn s p path).ctxs = s.ctxs ∧
    (State.sendOn s p path).memory = s.memory ∧
    (State.sendOn s p path).coll = s.coll ∧
    (State.sendOn s p path).photonics = s.photonics ∧
    (State.sendOn s p path).domain = s.domain ∧
    (State.sendOn s p path).messages = s.messages ∧
    (State.sendOn s p path).package = s.package ∧
    (State.sendOn s p path).clocks = s.clocks ∧
    (State.sendOn s p path).thermal = s.thermal ∧
    (State.sendOn s p path).control = s.control ∧
    (State.sendOn s p path).boot = s.boot ∧
    (State.sendOn s p path).dbg = s.dbg ∧
    (State.sendOn s p path).freeCount = s.freeCount := by
  unfold State.sendOn
  try dsimp only
  (repeat' split) <;> simp_all -implicitDefEqProofs [↓prod_flip3, prod_flip]

@[simp] theorem State.admitOn_kept (s : State) (p : Packet) (path : Nat) :
    (State.admitOn s p path).pending = s.pending ∧
    (State.admitOn s p path).fuses = s.fuses ∧
    (State.admitOn s p path).regs = s.regs ∧
    (State.admitOn s p path).shadows = s.shadows ∧
    (State.admitOn s p path).blobs = s.blobs ∧
    (State.admitOn s p path).blobShadows = s.blobShadows ∧
    (State.admitOn s p path).hubNeeds = s.hubNeeds ∧
    (State.admitOn s p path).commits = s.commits ∧
    (State.admitOn s p path).seeds = s.seeds ∧
    (State.admitOn s p path).load = s.load ∧
    (State.admitOn s p path).clusters = s.clusters ∧
    (State.admitOn s p path).ctxs = s.ctxs ∧
    (State.admitOn s p path).memory = s.memory ∧
    (State.admitOn s p path).coll = s.coll ∧
    (State.admitOn s p path).photonics = s.photonics ∧
    (State.admitOn s p path).domain = s.domain ∧
    (State.admitOn s p path).messages = s.messages ∧
    (State.admitOn s p path).package = s.package ∧
    (State.admitOn s p path).clocks = s.clocks ∧
    (State.admitOn s p path).thermal = s.thermal ∧
    (State.admitOn s p path).control = s.control ∧
    (State.admitOn s p path).boot = s.boot ∧
    (State.admitOn s p path).dbg = s.dbg ∧
    (State.admitOn s p path).freeCount = s.freeCount := by
  unfold State.admitOn
  try dsimp only
  (repeat' split) <;> simp_all -implicitDefEqProofs [↓prod_flip3, prod_flip]

@[simp] theorem State.startMulticast_kept (s : State) (p : Packet) :
    (State.startMulticast s p).pending = s.pending ∧
    (State.startMulticast s p).fuses = s.fuses ∧
    (State.startMulticast s p).regs = s.regs ∧
    (State.startMulticast s p).shadows = s.shadows ∧
    (State.startMulticast s p).blobs = s.blobs ∧
    (State.startMulticast s p).blobShadows = s.blobShadows ∧
    (State.startMulticast s p).hubNeeds = s.hubNeeds ∧
    (State.startMulticast s p).commits = s.commits ∧
    (State.startMulticast s p).seeds = s.seeds ∧
    (State.startMulticast s p).load = s.load ∧
    (State.startMulticast s p).clusters = s.clusters ∧
    (State.startMulticast s p).ctxs = s.ctxs ∧
    (State.startMulticast s p).memory = s.memory ∧
    (State.startMulticast s p).coll = s.coll ∧
    (State.startMulticast s p).photonics = s.photonics ∧
    (State.startMulticast s p).domain = s.domain ∧
    (State.startMulticast s p).messages = s.messages ∧
    (State.startMulticast s p).package = s.package ∧
    (State.startMulticast s p).clocks = s.clocks ∧
    (State.startMulticast s p).thermal = s.thermal ∧
    (State.startMulticast s p).control = s.control ∧
    (State.startMulticast s p).boot = s.boot ∧
    (State.startMulticast s p).dbg = s.dbg ∧
    (State.startMulticast s p).freeCount = s.freeCount := by
  unfold State.startMulticast
  try dsimp only
  (repeat' split) <;> simp_all -implicitDefEqProofs [↓prod_flip3, prod_flip]

@[simp] theorem State.land_kept (s : State) (f : Flight) :
    (State.land s f).pending = s.pending ∧
    (State.land s f).fuses = s.fuses ∧
    (State.land s f).regs = s.regs ∧
    (State.land s f).shadows = s.shadows ∧
    (State.land s f).blobs = s.blobs ∧
    (State.land s f).blobShadows = s.blobShadows ∧
    (State.land s f).hubNeeds = s.hubNeeds ∧
    (State.land s f).commits = s.commits ∧
    (State.land s f).seeds = s.seeds ∧
    (State.land s f).load = s.load ∧
    (State.land s f).clusters = s.clusters ∧
    (State.land s f).ctxs = s.ctxs ∧
    (State.land s f).memory = s.memory ∧
    (State.land s f).coll = s.coll ∧
    (State.land s f).photonics = s.photonics ∧
    (State.land s f).domain = s.domain ∧
    (State.land s f).messages = s.messages ∧
    (State.land s f).package = s.package ∧
    (State.land s f).clocks = s.clocks ∧
    (State.land s f).thermal = s.thermal ∧
    (State.land s f).control = s.control ∧
    (State.land s f).boot = s.boot ∧
    (State.land s f).dbg = s.dbg ∧
    (State.land s f).freeCount = s.freeCount := by
  unfold State.land
  try dsimp only
  (repeat' split) <;> simp_all -implicitDefEqProofs [↓prod_flip3, prod_flip]

@[simp] theorem State.absorb_kept (s : State) (p : Packet) :
    (State.absorb s p).pending = s.pending ∧
    (State.absorb s p).fuses = s.fuses ∧
    (State.absorb s p).shadows = s.shadows ∧
    (State.absorb s p).blobShadows = s.blobShadows ∧
    (State.absorb s p).hubNeeds = s.hubNeeds ∧
    (State.absorb s p).seeds = s.seeds ∧
    (State.absorb s p).load = s.load ∧
    (State.absorb s p).photonics = s.photonics ∧
    (State.absorb s p).package = s.package ∧
    (State.absorb s p).thermal = s.thermal ∧
    (State.absorb s p).boot = s.boot ∧
    (State.absorb s p).freeCount = s.freeCount := by
  unfold State.absorb
  try dsimp only
  (repeat' split) <;> simp_all -implicitDefEqProofs [↓prod_flip3, prod_flip]

@[simp] theorem State.deliver_kept (s : State) (p : Packet) :
    (State.deliver s p).pending = s.pending ∧
    (State.deliver s p).fuses = s.fuses ∧
    (State.deliver s p).shadows = s.shadows ∧
    (State.deliver s p).blobShadows = s.blobShadows ∧
    (State.deliver s p).hubNeeds = s.hubNeeds ∧
    (State.deliver s p).seeds = s.seeds ∧
    (State.deliver s p).load = s.load ∧
    (State.deliver s p).photonics = s.photonics ∧
    (State.deliver s p).package = s.package ∧
    (State.deliver s p).thermal = s.thermal ∧
    (State.deliver s p).boot = s.boot ∧
    (State.deliver s p).freeCount = s.freeCount := by
  unfold State.deliver
  try dsimp only
  (repeat' split) <;> simp_all -implicitDefEqProofs [↓prod_flip3, prod_flip]

@[simp] theorem State.sendReport_kept (s : State) (d : Nat) (a : Nat) :
    (State.sendReport s d a).pending = s.pending ∧
    (State.sendReport s d a).fuses = s.fuses ∧
    (State.sendReport s d a).regs = s.regs ∧
    (State.sendReport s d a).shadows = s.shadows ∧
    (State.sendReport s d a).blobs = s.blobs ∧
    (State.sendReport s d a).blobShadows = s.blobShadows ∧
    (State.sendReport s d a).hubNeeds = s.hubNeeds ∧
    (State.sendReport s d a).commits = s.commits ∧
    (State.sendReport s d a).seeds = s.seeds ∧
    (State.sendReport s d a).load = s.load ∧
    (State.sendReport s d a).clusters = s.clusters ∧
    (State.sendReport s d a).ctxs = s.ctxs ∧
    (State.sendReport s d a).memory = s.memory ∧
    (State.sendReport s d a).rig = s.rig ∧
    (State.sendReport s d a).coll = s.coll ∧
    (State.sendReport s d a).photonics = s.photonics ∧
    (State.sendReport s d a).messages = s.messages ∧
    (State.sendReport s d a).package = s.package ∧
    (State.sendReport s d a).clocks = s.clocks ∧
    (State.sendReport s d a).thermal = s.thermal ∧
    (State.sendReport s d a).boot = s.boot ∧
    (State.sendReport s d a).dbg = s.dbg ∧
    (State.sendReport s d a).freeCount = s.freeCount := by
  unfold State.sendReport
  try dsimp only
  (repeat' split) <;> simp_all -implicitDefEqProofs [↓prod_flip3, prod_flip]

@[simp] theorem State.flitFails_kept (s : State) (key : Nat) (src : Nat) (cause : FlitFailure) :
    (State.flitFails s key src cause).pending = s.pending ∧
    (State.flitFails s key src cause).fuses = s.fuses ∧
    (State.flitFails s key src cause).shadows = s.shadows ∧
    (State.flitFails s key src cause).blobs = s.blobs ∧
    (State.flitFails s key src cause).blobShadows = s.blobShadows ∧
    (State.flitFails s key src cause).hubNeeds = s.hubNeeds ∧
    (State.flitFails s key src cause).commits = s.commits ∧
    (State.flitFails s key src cause).seeds = s.seeds ∧
    (State.flitFails s key src cause).load = s.load ∧
    (State.flitFails s key src cause).clusters = s.clusters ∧
    (State.flitFails s key src cause).ctxs = s.ctxs ∧
    (State.flitFails s key src cause).memory = s.memory ∧
    (State.flitFails s key src cause).coll = s.coll ∧
    (State.flitFails s key src cause).photonics = s.photonics ∧
    (State.flitFails s key src cause).messages = s.messages ∧
    (State.flitFails s key src cause).package = s.package ∧
    (State.flitFails s key src cause).clocks = s.clocks ∧
    (State.flitFails s key src cause).thermal = s.thermal ∧
    (State.flitFails s key src cause).boot = s.boot ∧
    (State.flitFails s key src cause).dbg = s.dbg ∧
    (State.flitFails s key src cause).freeCount = s.freeCount := by
  unfold State.flitFails
  try dsimp only
  (repeat' split) <;> simp_all -implicitDefEqProofs [↓prod_flip3, prod_flip]

@[simp] theorem State.laneAck_kept (s : State) (k : Nat) (d : Nat) (n : Nat) :
    (State.laneAck s k d n).pending = s.pending ∧
    (State.laneAck s k d n).fuses = s.fuses ∧
    (State.laneAck s k d n).shadows = s.shadows ∧
    (State.laneAck s k d n).blobs = s.blobs ∧
    (State.laneAck s k d n).blobShadows = s.blobShadows ∧
    (State.laneAck s k d n).hubNeeds = s.hubNeeds ∧
    (State.laneAck s k d n).commits = s.commits ∧
    (State.laneAck s k d n).seeds = s.seeds ∧
    (State.laneAck s k d n).load = s.load ∧
    (State.laneAck s k d n).clusters = s.clusters ∧
    (State.laneAck s k d n).ctxs = s.ctxs ∧
    (State.laneAck s k d n).memory = s.memory ∧
    (State.laneAck s k d n).coll = s.coll ∧
    (State.laneAck s k d n).photonics = s.photonics ∧
    (State.laneAck s k d n).domain = s.domain ∧
    (State.laneAck s k d n).messages = s.messages ∧
    (State.laneAck s k d n).package = s.package ∧
    (State.laneAck s k d n).clocks = s.clocks ∧
    (State.laneAck s k d n).thermal = s.thermal ∧
    (State.laneAck s k d n).control = s.control ∧
    (State.laneAck s k d n).boot = s.boot ∧
    (State.laneAck s k d n).dbg = s.dbg ∧
    (State.laneAck s k d n).freeCount = s.freeCount := by
  unfold State.laneAck
  try dsimp only
  (repeat' split) <;> simp_all -implicitDefEqProofs [↓prod_flip3, prod_flip]

@[simp] theorem State.resume_kept (s : State) (k : Nat) :
    (State.resume s k).pending = s.pending ∧
    (State.resume s k).fuses = s.fuses ∧
    (State.resume s k).regs = s.regs ∧
    (State.resume s k).shadows = s.shadows ∧
    (State.resume s k).blobs = s.blobs ∧
    (State.resume s k).blobShadows = s.blobShadows ∧
    (State.resume s k).hubNeeds = s.hubNeeds ∧
    (State.resume s k).commits = s.commits ∧
    (State.resume s k).seeds = s.seeds ∧
    (State.resume s k).load = s.load ∧
    (State.resume s k).clusters = s.clusters ∧
    (State.resume s k).ctxs = s.ctxs ∧
    (State.resume s k).memory = s.memory ∧
    (State.resume s k).coll = s.coll ∧
    (State.resume s k).photonics = s.photonics ∧
    (State.resume s k).domain = s.domain ∧
    (State.resume s k).messages = s.messages ∧
    (State.resume s k).package = s.package ∧
    (State.resume s k).clocks = s.clocks ∧
    (State.resume s k).thermal = s.thermal ∧
    (State.resume s k).control = s.control ∧
    (State.resume s k).boot = s.boot ∧
    (State.resume s k).dbg = s.dbg ∧
    (State.resume s k).freeCount = s.freeCount := by
  unfold State.resume
  try dsimp only
  (repeat' split) <;> simp_all -implicitDefEqProofs [↓prod_flip3, prod_flip]

@[simp] theorem State.resendFrom_kept (s : State) (k : Nat) (n : Nat) :
    (State.resendFrom s k n).pending = s.pending ∧
    (State.resendFrom s k n).fuses = s.fuses ∧
    (State.resendFrom s k n).regs = s.regs ∧
    (State.resendFrom s k n).shadows = s.shadows ∧
    (State.resendFrom s k n).blobs = s.blobs ∧
    (State.resendFrom s k n).blobShadows = s.blobShadows ∧
    (State.resendFrom s k n).hubNeeds = s.hubNeeds ∧
    (State.resendFrom s k n).commits = s.commits ∧
    (State.resendFrom s k n).seeds = s.seeds ∧
    (State.resendFrom s k n).load = s.load ∧
    (State.resendFrom s k n).clusters = s.clusters ∧
    (State.resendFrom s k n).ctxs = s.ctxs ∧
    (State.resendFrom s k n).memory = s.memory ∧
    (State.resendFrom s k n).coll = s.coll ∧
    (State.resendFrom s k n).photonics = s.photonics ∧
    (State.resendFrom s k n).domain = s.domain ∧
    (State.resendFrom s k n).messages = s.messages ∧
    (State.resendFrom s k n).package = s.package ∧
    (State.resendFrom s k n).clocks = s.clocks ∧
    (State.resendFrom s k n).thermal = s.thermal ∧
    (State.resendFrom s k n).control = s.control ∧
    (State.resendFrom s k n).boot = s.boot ∧
    (State.resendFrom s k n).dbg = s.dbg ∧
    (State.resendFrom s k n).freeCount = s.freeCount := by
  unfold State.resendFrom
  try dsimp only
  (repeat' split) <;> simp_all -implicitDefEqProofs [↓prod_flip3, prod_flip]

@[simp] theorem State.laneNak_kept (s : State) (k : Nat) (d : Nat) (n : Nat) :
    (State.laneNak s k d n).pending = s.pending ∧
    (State.laneNak s k d n).fuses = s.fuses ∧
    (State.laneNak s k d n).shadows = s.shadows ∧
    (State.laneNak s k d n).blobs = s.blobs ∧
    (State.laneNak s k d n).blobShadows = s.blobShadows ∧
    (State.laneNak s k d n).hubNeeds = s.hubNeeds ∧
    (State.laneNak s k d n).commits = s.commits ∧
    (State.laneNak s k d n).seeds = s.seeds ∧
    (State.laneNak s k d n).load = s.load ∧
    (State.laneNak s k d n).clusters = s.clusters ∧
    (State.laneNak s k d n).ctxs = s.ctxs ∧
    (State.laneNak s k d n).memory = s.memory ∧
    (State.laneNak s k d n).coll = s.coll ∧
    (State.laneNak s k d n).photonics = s.photonics ∧
    (State.laneNak s k d n).domain = s.domain ∧
    (State.laneNak s k d n).messages = s.messages ∧
    (State.laneNak s k d n).package = s.package ∧
    (State.laneNak s k d n).clocks = s.clocks ∧
    (State.laneNak s k d n).thermal = s.thermal ∧
    (State.laneNak s k d n).boot = s.boot ∧
    (State.laneNak s k d n).freeCount = s.freeCount := by
  unfold State.laneNak
  try dsimp only
  (repeat' split) <;> simp_all -implicitDefEqProofs [↓prod_flip3, prod_flip]

@[simp] theorem State.laneTrained_kept (s : State) (k : Nat) (d : Nat) :
    (State.laneTrained s k d).pending = s.pending ∧
    (State.laneTrained s k d).fuses = s.fuses ∧
    (State.laneTrained s k d).shadows = s.shadows ∧
    (State.laneTrained s k d).blobs = s.blobs ∧
    (State.laneTrained s k d).blobShadows = s.blobShadows ∧
    (State.laneTrained s k d).hubNeeds = s.hubNeeds ∧
    (State.laneTrained s k d).commits = s.commits ∧
    (State.laneTrained s k d).seeds = s.seeds ∧
    (State.laneTrained s k d).load = s.load ∧
    (State.laneTrained s k d).clusters = s.clusters ∧
    (State.laneTrained s k d).ctxs = s.ctxs ∧
    (State.laneTrained s k d).memory = s.memory ∧
    (State.laneTrained s k d).coll = s.coll ∧
    (State.laneTrained s k d).photonics = s.photonics ∧
    (State.laneTrained s k d).domain = s.domain ∧
    (State.laneTrained s k d).messages = s.messages ∧
    (State.laneTrained s k d).package = s.package ∧
    (State.laneTrained s k d).clocks = s.clocks ∧
    (State.laneTrained s k d).thermal = s.thermal ∧
    (State.laneTrained s k d).boot = s.boot ∧
    (State.laneTrained s k d).freeCount = s.freeCount := by
  unfold State.laneTrained
  try dsimp only
  (repeat' split) <;> simp_all -implicitDefEqProofs [↓prod_flip3, prod_flip]

@[simp] theorem State.linkEntry_kept (s : State) (d : Nat) (k : Nat) (op : LinkOp) (n : Nat) :
    (State.linkEntry s d k op n).pending = s.pending ∧
    (State.linkEntry s d k op n).fuses = s.fuses ∧
    (State.linkEntry s d k op n).shadows = s.shadows ∧
    (State.linkEntry s d k op n).blobs = s.blobs ∧
    (State.linkEntry s d k op n).blobShadows = s.blobShadows ∧
    (State.linkEntry s d k op n).hubNeeds = s.hubNeeds ∧
    (State.linkEntry s d k op n).commits = s.commits ∧
    (State.linkEntry s d k op n).seeds = s.seeds ∧
    (State.linkEntry s d k op n).load = s.load ∧
    (State.linkEntry s d k op n).clusters = s.clusters ∧
    (State.linkEntry s d k op n).ctxs = s.ctxs ∧
    (State.linkEntry s d k op n).memory = s.memory ∧
    (State.linkEntry s d k op n).coll = s.coll ∧
    (State.linkEntry s d k op n).domain = s.domain ∧
    (State.linkEntry s d k op n).messages = s.messages ∧
    (State.linkEntry s d k op n).package = s.package ∧
    (State.linkEntry s d k op n).clocks = s.clocks ∧
    (State.linkEntry s d k op n).thermal = s.thermal ∧
    (State.linkEntry s d k op n).boot = s.boot ∧
    (State.linkEntry s d k op n).freeCount = s.freeCount := by
  unfold State.linkEntry
  try dsimp only
  (repeat' split) <;> simp_all -implicitDefEqProofs [↓prod_flip3, prod_flip]

@[simp] theorem State.sendMulticast_kept (s : State) (m : McPending) (k : Nat) :
    (State.sendMulticast s m k).pending = s.pending ∧
    (State.sendMulticast s m k).fuses = s.fuses ∧
    (State.sendMulticast s m k).shadows = s.shadows ∧
    (State.sendMulticast s m k).blobs = s.blobs ∧
    (State.sendMulticast s m k).blobShadows = s.blobShadows ∧
    (State.sendMulticast s m k).hubNeeds = s.hubNeeds ∧
    (State.sendMulticast s m k).commits = s.commits ∧
    (State.sendMulticast s m k).seeds = s.seeds ∧
    (State.sendMulticast s m k).load = s.load ∧
    (State.sendMulticast s m k).clusters = s.clusters ∧
    (State.sendMulticast s m k).ctxs = s.ctxs ∧
    (State.sendMulticast s m k).memory = s.memory ∧
    (State.sendMulticast s m k).coll = s.coll ∧
    (State.sendMulticast s m k).photonics = s.photonics ∧
    (State.sendMulticast s m k).domain = s.domain ∧
    (State.sendMulticast s m k).messages = s.messages ∧
    (State.sendMulticast s m k).package = s.package ∧
    (State.sendMulticast s m k).clocks = s.clocks ∧
    (State.sendMulticast s m k).thermal = s.thermal ∧
    (State.sendMulticast s m k).control = s.control ∧
    (State.sendMulticast s m k).boot = s.boot ∧
    (State.sendMulticast s m k).dbg = s.dbg ∧
    (State.sendMulticast s m k).freeCount = s.freeCount := by
  unfold State.sendMulticast
  try dsimp only
  (repeat' split) <;> simp_all -implicitDefEqProofs [↓prod_flip3, prod_flip]

@[simp] theorem State.releaseMulticast_kept (s : State) (m : McPending) :
    (State.releaseMulticast s m).pending = s.pending ∧
    (State.releaseMulticast s m).fuses = s.fuses ∧
    (State.releaseMulticast s m).shadows = s.shadows ∧
    (State.releaseMulticast s m).blobs = s.blobs ∧
    (State.releaseMulticast s m).blobShadows = s.blobShadows ∧
    (State.releaseMulticast s m).hubNeeds = s.hubNeeds ∧
    (State.releaseMulticast s m).commits = s.commits ∧
    (State.releaseMulticast s m).seeds = s.seeds ∧
    (State.releaseMulticast s m).load = s.load ∧
    (State.releaseMulticast s m).clusters = s.clusters ∧
    (State.releaseMulticast s m).ctxs = s.ctxs ∧
    (State.releaseMulticast s m).memory = s.memory ∧
    (State.releaseMulticast s m).coll = s.coll ∧
    (State.releaseMulticast s m).photonics = s.photonics ∧
    (State.releaseMulticast s m).domain = s.domain ∧
    (State.releaseMulticast s m).messages = s.messages ∧
    (State.releaseMulticast s m).package = s.package ∧
    (State.releaseMulticast s m).clocks = s.clocks ∧
    (State.releaseMulticast s m).thermal = s.thermal ∧
    (State.releaseMulticast s m).control = s.control ∧
    (State.releaseMulticast s m).boot = s.boot ∧
    (State.releaseMulticast s m).dbg = s.dbg ∧
    (State.releaseMulticast s m).freeCount = s.freeCount := by
  unfold State.releaseMulticast
  try dsimp only
  (repeat' split) <;> simp_all -implicitDefEqProofs [↓prod_flip3, prod_flip]

@[simp] theorem State.releaseMulticasts_kept (s : State) (src : Nat) :
    (State.releaseMulticasts s src).pending = s.pending ∧
    (State.releaseMulticasts s src).fuses = s.fuses ∧
    (State.releaseMulticasts s src).shadows = s.shadows ∧
    (State.releaseMulticasts s src).blobs = s.blobs ∧
    (State.releaseMulticasts s src).blobShadows = s.blobShadows ∧
    (State.releaseMulticasts s src).hubNeeds = s.hubNeeds ∧
    (State.releaseMulticasts s src).commits = s.commits ∧
    (State.releaseMulticasts s src).seeds = s.seeds ∧
    (State.releaseMulticasts s src).load = s.load ∧
    (State.releaseMulticasts s src).clusters = s.clusters ∧
    (State.releaseMulticasts s src).ctxs = s.ctxs ∧
    (State.releaseMulticasts s src).memory = s.memory ∧
    (State.releaseMulticasts s src).coll = s.coll ∧
    (State.releaseMulticasts s src).photonics = s.photonics ∧
    (State.releaseMulticasts s src).domain = s.domain ∧
    (State.releaseMulticasts s src).messages = s.messages ∧
    (State.releaseMulticasts s src).package = s.package ∧
    (State.releaseMulticasts s src).clocks = s.clocks ∧
    (State.releaseMulticasts s src).thermal = s.thermal ∧
    (State.releaseMulticasts s src).control = s.control ∧
    (State.releaseMulticasts s src).boot = s.boot ∧
    (State.releaseMulticasts s src).dbg = s.dbg ∧
    (State.releaseMulticasts s src).freeCount = s.freeCount := by
  unfold State.releaseMulticasts
  try dsimp only
  (repeat' split) <;> simp_all -implicitDefEqProofs [↓prod_flip3, prod_flip]

@[simp] theorem State.standingReport_kept (s : State) (a : Nat) (d : Nat) (f : LinkFlit) :
    (State.standingReport s a d f).pending = s.pending ∧
    (State.standingReport s a d f).fuses = s.fuses ∧
    (State.standingReport s a d f).shadows = s.shadows ∧
    (State.standingReport s a d f).blobs = s.blobs ∧
    (State.standingReport s a d f).blobShadows = s.blobShadows ∧
    (State.standingReport s a d f).hubNeeds = s.hubNeeds ∧
    (State.standingReport s a d f).commits = s.commits ∧
    (State.standingReport s a d f).seeds = s.seeds ∧
    (State.standingReport s a d f).load = s.load ∧
    (State.standingReport s a d f).clusters = s.clusters ∧
    (State.standingReport s a d f).ctxs = s.ctxs ∧
    (State.standingReport s a d f).memory = s.memory ∧
    (State.standingReport s a d f).coll = s.coll ∧
    (State.standingReport s a d f).photonics = s.photonics ∧
    (State.standingReport s a d f).domain = s.domain ∧
    (State.standingReport s a d f).messages = s.messages ∧
    (State.standingReport s a d f).package = s.package ∧
    (State.standingReport s a d f).clocks = s.clocks ∧
    (State.standingReport s a d f).thermal = s.thermal ∧
    (State.standingReport s a d f).control = s.control ∧
    (State.standingReport s a d f).boot = s.boot ∧
    (State.standingReport s a d f).dbg = s.dbg ∧
    (State.standingReport s a d f).freeCount = s.freeCount := by
  unfold State.standingReport
  try dsimp only
  (repeat' split) <;> simp_all -implicitDefEqProofs [↓prod_flip3, prod_flip]

@[simp] theorem State.readCredits_kept (s : State) (f : LinkFlit) :
    (State.readCredits s f).pending = s.pending ∧
    (State.readCredits s f).fuses = s.fuses ∧
    (State.readCredits s f).regs = s.regs ∧
    (State.readCredits s f).shadows = s.shadows ∧
    (State.readCredits s f).blobs = s.blobs ∧
    (State.readCredits s f).blobShadows = s.blobShadows ∧
    (State.readCredits s f).hubNeeds = s.hubNeeds ∧
    (State.readCredits s f).commits = s.commits ∧
    (State.readCredits s f).seeds = s.seeds ∧
    (State.readCredits s f).load = s.load ∧
    (State.readCredits s f).clusters = s.clusters ∧
    (State.readCredits s f).ctxs = s.ctxs ∧
    (State.readCredits s f).memory = s.memory ∧
    (State.readCredits s f).coll = s.coll ∧
    (State.readCredits s f).photonics = s.photonics ∧
    (State.readCredits s f).domain = s.domain ∧
    (State.readCredits s f).messages = s.messages ∧
    (State.readCredits s f).package = s.package ∧
    (State.readCredits s f).clocks = s.clocks ∧
    (State.readCredits s f).thermal = s.thermal ∧
    (State.readCredits s f).control = s.control ∧
    (State.readCredits s f).boot = s.boot ∧
    (State.readCredits s f).dbg = s.dbg ∧
    (State.readCredits s f).freeCount = s.freeCount := by
  unfold State.readCredits
  try dsimp only
  (repeat' split) <;> simp_all -implicitDefEqProofs [↓prod_flip3, prod_flip]

@[simp] theorem State.resendPort_kept (s : State) (p : Nat) (n : Nat) :
    (State.resendPort s p n).pending = s.pending ∧
    (State.resendPort s p n).fuses = s.fuses ∧
    (State.resendPort s p n).regs = s.regs ∧
    (State.resendPort s p n).shadows = s.shadows ∧
    (State.resendPort s p n).blobs = s.blobs ∧
    (State.resendPort s p n).blobShadows = s.blobShadows ∧
    (State.resendPort s p n).hubNeeds = s.hubNeeds ∧
    (State.resendPort s p n).commits = s.commits ∧
    (State.resendPort s p n).seeds = s.seeds ∧
    (State.resendPort s p n).load = s.load ∧
    (State.resendPort s p n).clusters = s.clusters ∧
    (State.resendPort s p n).ctxs = s.ctxs ∧
    (State.resendPort s p n).memory = s.memory ∧
    (State.resendPort s p n).rig = s.rig ∧
    (State.resendPort s p n).coll = s.coll ∧
    (State.resendPort s p n).photonics = s.photonics ∧
    (State.resendPort s p n).domain = s.domain ∧
    (State.resendPort s p n).messages = s.messages ∧
    (State.resendPort s p n).package = s.package ∧
    (State.resendPort s p n).clocks = s.clocks ∧
    (State.resendPort s p n).thermal = s.thermal ∧
    (State.resendPort s p n).boot = s.boot ∧
    (State.resendPort s p n).dbg = s.dbg ∧
    (State.resendPort s p n).freeCount = s.freeCount := by
  unfold State.resendPort
  try dsimp only
  (repeat' split) <;> simp_all -implicitDefEqProofs [↓prod_flip3, prod_flip]

@[simp] theorem State.portReport_kept (s : State) (p : Nat) (f : LinkFlit) :
    (State.portReport s p f).pending = s.pending ∧
    (State.portReport s p f).fuses = s.fuses ∧
    (State.portReport s p f).shadows = s.shadows ∧
    (State.portReport s p f).blobs = s.blobs ∧
    (State.portReport s p f).blobShadows = s.blobShadows ∧
    (State.portReport s p f).hubNeeds = s.hubNeeds ∧
    (State.portReport s p f).commits = s.commits ∧
    (State.portReport s p f).seeds = s.seeds ∧
    (State.portReport s p f).load = s.load ∧
    (State.portReport s p f).clusters = s.clusters ∧
    (State.portReport s p f).ctxs = s.ctxs ∧
    (State.portReport s p f).memory = s.memory ∧
    (State.portReport s p f).rig = s.rig ∧
    (State.portReport s p f).coll = s.coll ∧
    (State.portReport s p f).photonics = s.photonics ∧
    (State.portReport s p f).messages = s.messages ∧
    (State.portReport s p f).package = s.package ∧
    (State.portReport s p f).clocks = s.clocks ∧
    (State.portReport s p f).thermal = s.thermal ∧
    (State.portReport s p f).boot = s.boot ∧
    (State.portReport s p f).dbg = s.dbg ∧
    (State.portReport s p f).freeCount = s.freeCount := by
  unfold State.portReport
  try dsimp only
  (repeat' split) <;> simp_all -implicitDefEqProofs [↓prod_flip3, prod_flip]

@[simp] theorem State.krytaeReport_kept (s : State) (k : Nat) (f : LinkFlit) :
    (State.krytaeReport s k f).pending = s.pending ∧
    (State.krytaeReport s k f).fuses = s.fuses ∧
    (State.krytaeReport s k f).regs = s.regs ∧
    (State.krytaeReport s k f).shadows = s.shadows ∧
    (State.krytaeReport s k f).blobs = s.blobs ∧
    (State.krytaeReport s k f).blobShadows = s.blobShadows ∧
    (State.krytaeReport s k f).hubNeeds = s.hubNeeds ∧
    (State.krytaeReport s k f).commits = s.commits ∧
    (State.krytaeReport s k f).seeds = s.seeds ∧
    (State.krytaeReport s k f).load = s.load ∧
    (State.krytaeReport s k f).clusters = s.clusters ∧
    (State.krytaeReport s k f).ctxs = s.ctxs ∧
    (State.krytaeReport s k f).memory = s.memory ∧
    (State.krytaeReport s k f).rig = s.rig ∧
    (State.krytaeReport s k f).coll = s.coll ∧
    (State.krytaeReport s k f).photonics = s.photonics ∧
    (State.krytaeReport s k f).domain = s.domain ∧
    (State.krytaeReport s k f).messages = s.messages ∧
    (State.krytaeReport s k f).package = s.package ∧
    (State.krytaeReport s k f).clocks = s.clocks ∧
    (State.krytaeReport s k f).thermal = s.thermal ∧
    (State.krytaeReport s k f).boot = s.boot ∧
    (State.krytaeReport s k f).dbg = s.dbg ∧
    (State.krytaeReport s k f).freeCount = s.freeCount := by
  unfold State.krytaeReport
  try dsimp only
  (repeat' split) <;> simp_all -implicitDefEqProofs [↓prod_flip3, prod_flip]

@[simp] theorem State.applyWrite_kept (s : State) (site : Nat) (p : Packet) (q : Req) :
    (State.applyWrite s site p q).pending = s.pending ∧
    (State.applyWrite s site p q).fuses = s.fuses ∧
    (State.applyWrite s site p q).shadows = s.shadows ∧
    (State.applyWrite s site p q).blobShadows = s.blobShadows ∧
    (State.applyWrite s site p q).hubNeeds = s.hubNeeds ∧
    (State.applyWrite s site p q).seeds = s.seeds ∧
    (State.applyWrite s site p q).load = s.load ∧
    (State.applyWrite s site p q).photonics = s.photonics ∧
    (State.applyWrite s site p q).package = s.package ∧
    (State.applyWrite s site p q).thermal = s.thermal ∧
    (State.applyWrite s site p q).boot = s.boot ∧
    (State.applyWrite s site p q).freeCount = s.freeCount := by
  unfold State.applyWrite
  try dsimp only
  (repeat' split) <;> simp_all -implicitDefEqProofs [↓prod_flip3, prod_flip]

@[simp] theorem State.noteStuck_kept (s : State) (site : Nat) (op : Nat) :
    (State.noteStuck s site op).pending = s.pending ∧
    (State.noteStuck s site op).fuses = s.fuses ∧
    (State.noteStuck s site op).regs = s.regs ∧
    (State.noteStuck s site op).shadows = s.shadows ∧
    (State.noteStuck s site op).blobs = s.blobs ∧
    (State.noteStuck s site op).blobShadows = s.blobShadows ∧
    (State.noteStuck s site op).hubNeeds = s.hubNeeds ∧
    (State.noteStuck s site op).commits = s.commits ∧
    (State.noteStuck s site op).seeds = s.seeds ∧
    (State.noteStuck s site op).load = s.load ∧
    (State.noteStuck s site op).clusters = s.clusters ∧
    (State.noteStuck s site op).ctxs = s.ctxs ∧
    (State.noteStuck s site op).memory = s.memory ∧
    (State.noteStuck s site op).coll = s.coll ∧
    (State.noteStuck s site op).photonics = s.photonics ∧
    (State.noteStuck s site op).domain = s.domain ∧
    (State.noteStuck s site op).messages = s.messages ∧
    (State.noteStuck s site op).package = s.package ∧
    (State.noteStuck s site op).clocks = s.clocks ∧
    (State.noteStuck s site op).thermal = s.thermal ∧
    (State.noteStuck s site op).control = s.control ∧
    (State.noteStuck s site op).boot = s.boot ∧
    (State.noteStuck s site op).dbg = s.dbg ∧
    (State.noteStuck s site op).freeCount = s.freeCount := by
  unfold State.noteStuck
  try dsimp only
  (repeat' split) <;> simp_all -implicitDefEqProofs [↓prod_flip3, prod_flip]

@[simp] theorem State.cancelGrants_kept (s : State) (m : McPending) :
    (State.cancelGrants s m).pending = s.pending ∧
    (State.cancelGrants s m).fuses = s.fuses ∧
    (State.cancelGrants s m).regs = s.regs ∧
    (State.cancelGrants s m).shadows = s.shadows ∧
    (State.cancelGrants s m).blobs = s.blobs ∧
    (State.cancelGrants s m).blobShadows = s.blobShadows ∧
    (State.cancelGrants s m).hubNeeds = s.hubNeeds ∧
    (State.cancelGrants s m).commits = s.commits ∧
    (State.cancelGrants s m).seeds = s.seeds ∧
    (State.cancelGrants s m).load = s.load ∧
    (State.cancelGrants s m).clusters = s.clusters ∧
    (State.cancelGrants s m).ctxs = s.ctxs ∧
    (State.cancelGrants s m).memory = s.memory ∧
    (State.cancelGrants s m).coll = s.coll ∧
    (State.cancelGrants s m).photonics = s.photonics ∧
    (State.cancelGrants s m).domain = s.domain ∧
    (State.cancelGrants s m).messages = s.messages ∧
    (State.cancelGrants s m).package = s.package ∧
    (State.cancelGrants s m).clocks = s.clocks ∧
    (State.cancelGrants s m).thermal = s.thermal ∧
    (State.cancelGrants s m).control = s.control ∧
    (State.cancelGrants s m).boot = s.boot ∧
    (State.cancelGrants s m).dbg = s.dbg ∧
    (State.cancelGrants s m).freeCount = s.freeCount := by
  unfold State.cancelGrants
  try dsimp only
  (repeat' split) <;> simp_all -implicitDefEqProofs [↓prod_flip3, prod_flip]

@[simp] theorem State.holdMulticast_kept (s : State) (lanes : List Nat) (m : McPending) :
    (State.holdMulticast s lanes m).pending = s.pending ∧
    (State.holdMulticast s lanes m).fuses = s.fuses ∧
    (State.holdMulticast s lanes m).shadows = s.shadows ∧
    (State.holdMulticast s lanes m).blobs = s.blobs ∧
    (State.holdMulticast s lanes m).blobShadows = s.blobShadows ∧
    (State.holdMulticast s lanes m).hubNeeds = s.hubNeeds ∧
    (State.holdMulticast s lanes m).commits = s.commits ∧
    (State.holdMulticast s lanes m).seeds = s.seeds ∧
    (State.holdMulticast s lanes m).load = s.load ∧
    (State.holdMulticast s lanes m).clusters = s.clusters ∧
    (State.holdMulticast s lanes m).ctxs = s.ctxs ∧
    (State.holdMulticast s lanes m).memory = s.memory ∧
    (State.holdMulticast s lanes m).coll = s.coll ∧
    (State.holdMulticast s lanes m).photonics = s.photonics ∧
    (State.holdMulticast s lanes m).domain = s.domain ∧
    (State.holdMulticast s lanes m).messages = s.messages ∧
    (State.holdMulticast s lanes m).package = s.package ∧
    (State.holdMulticast s lanes m).clocks = s.clocks ∧
    (State.holdMulticast s lanes m).thermal = s.thermal ∧
    (State.holdMulticast s lanes m).control = s.control ∧
    (State.holdMulticast s lanes m).boot = s.boot ∧
    (State.holdMulticast s lanes m).dbg = s.dbg ∧
    (State.holdMulticast s lanes m).freeCount = s.freeCount := by
  unfold State.holdMulticast
  try dsimp only
  (repeat' split) <;> simp_all -implicitDefEqProofs [↓prod_flip3, prod_flip]

@[simp] theorem State.holdMulticasts_kept (s : State) (lanes : List Nat) :
    (State.holdMulticasts s lanes).pending = s.pending ∧
    (State.holdMulticasts s lanes).fuses = s.fuses ∧
    (State.holdMulticasts s lanes).shadows = s.shadows ∧
    (State.holdMulticasts s lanes).blobs = s.blobs ∧
    (State.holdMulticasts s lanes).blobShadows = s.blobShadows ∧
    (State.holdMulticasts s lanes).hubNeeds = s.hubNeeds ∧
    (State.holdMulticasts s lanes).commits = s.commits ∧
    (State.holdMulticasts s lanes).seeds = s.seeds ∧
    (State.holdMulticasts s lanes).load = s.load ∧
    (State.holdMulticasts s lanes).clusters = s.clusters ∧
    (State.holdMulticasts s lanes).ctxs = s.ctxs ∧
    (State.holdMulticasts s lanes).memory = s.memory ∧
    (State.holdMulticasts s lanes).coll = s.coll ∧
    (State.holdMulticasts s lanes).photonics = s.photonics ∧
    (State.holdMulticasts s lanes).domain = s.domain ∧
    (State.holdMulticasts s lanes).messages = s.messages ∧
    (State.holdMulticasts s lanes).package = s.package ∧
    (State.holdMulticasts s lanes).clocks = s.clocks ∧
    (State.holdMulticasts s lanes).thermal = s.thermal ∧
    (State.holdMulticasts s lanes).control = s.control ∧
    (State.holdMulticasts s lanes).boot = s.boot ∧
    (State.holdMulticasts s lanes).dbg = s.dbg ∧
    (State.holdMulticasts s lanes).freeCount = s.freeCount := by
  unfold State.holdMulticasts
  try dsimp only
  (repeat' split) <;> simp_all -implicitDefEqProofs [↓prod_flip3, prod_flip]

@[simp] theorem State.restartMulticasts_kept (s : State) :
    (State.restartMulticasts s).pending = s.pending ∧
    (State.restartMulticasts s).fuses = s.fuses ∧
    (State.restartMulticasts s).regs = s.regs ∧
    (State.restartMulticasts s).shadows = s.shadows ∧
    (State.restartMulticasts s).blobs = s.blobs ∧
    (State.restartMulticasts s).blobShadows = s.blobShadows ∧
    (State.restartMulticasts s).hubNeeds = s.hubNeeds ∧
    (State.restartMulticasts s).commits = s.commits ∧
    (State.restartMulticasts s).seeds = s.seeds ∧
    (State.restartMulticasts s).load = s.load ∧
    (State.restartMulticasts s).clusters = s.clusters ∧
    (State.restartMulticasts s).ctxs = s.ctxs ∧
    (State.restartMulticasts s).memory = s.memory ∧
    (State.restartMulticasts s).coll = s.coll ∧
    (State.restartMulticasts s).photonics = s.photonics ∧
    (State.restartMulticasts s).domain = s.domain ∧
    (State.restartMulticasts s).messages = s.messages ∧
    (State.restartMulticasts s).package = s.package ∧
    (State.restartMulticasts s).clocks = s.clocks ∧
    (State.restartMulticasts s).thermal = s.thermal ∧
    (State.restartMulticasts s).control = s.control ∧
    (State.restartMulticasts s).boot = s.boot ∧
    (State.restartMulticasts s).dbg = s.dbg ∧
    (State.restartMulticasts s).freeCount = s.freeCount := by
  unfold State.restartMulticasts
  try dsimp only
  (repeat' split) <;> simp_all -implicitDefEqProofs [↓prod_flip3, prod_flip]

@[simp] theorem State.dropGuestPacket_kept (s : State) (g : Nat) (op : Nat) :
    (State.dropGuestPacket s g op).pending = s.pending ∧
    (State.dropGuestPacket s g op).fuses = s.fuses ∧
    (State.dropGuestPacket s g op).shadows = s.shadows ∧
    (State.dropGuestPacket s g op).blobs = s.blobs ∧
    (State.dropGuestPacket s g op).blobShadows = s.blobShadows ∧
    (State.dropGuestPacket s g op).hubNeeds = s.hubNeeds ∧
    (State.dropGuestPacket s g op).commits = s.commits ∧
    (State.dropGuestPacket s g op).seeds = s.seeds ∧
    (State.dropGuestPacket s g op).load = s.load ∧
    (State.dropGuestPacket s g op).clusters = s.clusters ∧
    (State.dropGuestPacket s g op).ctxs = s.ctxs ∧
    (State.dropGuestPacket s g op).memory = s.memory ∧
    (State.dropGuestPacket s g op).coll = s.coll ∧
    (State.dropGuestPacket s g op).photonics = s.photonics ∧
    (State.dropGuestPacket s g op).domain = s.domain ∧
    (State.dropGuestPacket s g op).messages = s.messages ∧
    (State.dropGuestPacket s g op).package = s.package ∧
    (State.dropGuestPacket s g op).clocks = s.clocks ∧
    (State.dropGuestPacket s g op).thermal = s.thermal ∧
    (State.dropGuestPacket s g op).boot = s.boot ∧
    (State.dropGuestPacket s g op).freeCount = s.freeCount := by
  unfold State.dropGuestPacket
  try dsimp only
  (repeat' split) <;> simp_all -implicitDefEqProofs [↓prod_flip3, prod_flip]

@[simp] theorem State.prepareSpare_kept (s : State) (b : Nat) (ch : Nat) :
    (State.prepareSpare s b ch).pending = s.pending ∧
    (State.prepareSpare s b ch).fuses = s.fuses ∧
    (State.prepareSpare s b ch).regs = s.regs ∧
    (State.prepareSpare s b ch).shadows = s.shadows ∧
    (State.prepareSpare s b ch).blobs = s.blobs ∧
    (State.prepareSpare s b ch).blobShadows = s.blobShadows ∧
    (State.prepareSpare s b ch).hubNeeds = s.hubNeeds ∧
    (State.prepareSpare s b ch).commits = s.commits ∧
    (State.prepareSpare s b ch).seeds = s.seeds ∧
    (State.prepareSpare s b ch).load = s.load ∧
    (State.prepareSpare s b ch).clusters = s.clusters ∧
    (State.prepareSpare s b ch).ctxs = s.ctxs ∧
    (State.prepareSpare s b ch).memory = s.memory ∧
    (State.prepareSpare s b ch).rig = s.rig ∧
    (State.prepareSpare s b ch).coll = s.coll ∧
    (State.prepareSpare s b ch).domain = s.domain ∧
    (State.prepareSpare s b ch).messages = s.messages ∧
    (State.prepareSpare s b ch).package = s.package ∧
    (State.prepareSpare s b ch).clocks = s.clocks ∧
    (State.prepareSpare s b ch).thermal = s.thermal ∧
    (State.prepareSpare s b ch).control = s.control ∧
    (State.prepareSpare s b ch).boot = s.boot ∧
    (State.prepareSpare s b ch).dbg = s.dbg ∧
    (State.prepareSpare s b ch).freeCount = s.freeCount := by
  unfold State.prepareSpare
  try dsimp only
  (repeat' split) <;> simp_all -implicitDefEqProofs [↓prod_flip3, prod_flip]

@[simp] theorem State.startSwap_kept (s : State) (b : Nat) (line : Nat) (spare : Nat) (ch : Nat) :
    (State.startSwap s b line spare ch).pending = s.pending ∧
    (State.startSwap s b line spare ch).fuses = s.fuses ∧
    (State.startSwap s b line spare ch).shadows = s.shadows ∧
    (State.startSwap s b line spare ch).blobs = s.blobs ∧
    (State.startSwap s b line spare ch).blobShadows = s.blobShadows ∧
    (State.startSwap s b line spare ch).hubNeeds = s.hubNeeds ∧
    (State.startSwap s b line spare ch).commits = s.commits ∧
    (State.startSwap s b line spare ch).seeds = s.seeds ∧
    (State.startSwap s b line spare ch).load = s.load ∧
    (State.startSwap s b line spare ch).clusters = s.clusters ∧
    (State.startSwap s b line spare ch).ctxs = s.ctxs ∧
    (State.startSwap s b line spare ch).memory = s.memory ∧
    (State.startSwap s b line spare ch).rig = s.rig ∧
    (State.startSwap s b line spare ch).coll = s.coll ∧
    (State.startSwap s b line spare ch).domain = s.domain ∧
    (State.startSwap s b line spare ch).messages = s.messages ∧
    (State.startSwap s b line spare ch).package = s.package ∧
    (State.startSwap s b line spare ch).clocks = s.clocks ∧
    (State.startSwap s b line spare ch).thermal = s.thermal ∧
    (State.startSwap s b line spare ch).boot = s.boot ∧
    (State.startSwap s b line spare ch).freeCount = s.freeCount := by
  unfold State.startSwap
  try dsimp only
  (repeat' split) <;> simp_all -implicitDefEqProofs [↓prod_flip3, prod_flip]

@[simp] theorem State.nextSwap_kept (s : State) (b : Nat) :
    (State.nextSwap s b).pending = s.pending ∧
    (State.nextSwap s b).fuses = s.fuses ∧
    (State.nextSwap s b).shadows = s.shadows ∧
    (State.nextSwap s b).blobs = s.blobs ∧
    (State.nextSwap s b).blobShadows = s.blobShadows ∧
    (State.nextSwap s b).hubNeeds = s.hubNeeds ∧
    (State.nextSwap s b).commits = s.commits ∧
    (State.nextSwap s b).seeds = s.seeds ∧
    (State.nextSwap s b).load = s.load ∧
    (State.nextSwap s b).clusters = s.clusters ∧
    (State.nextSwap s b).ctxs = s.ctxs ∧
    (State.nextSwap s b).memory = s.memory ∧
    (State.nextSwap s b).rig = s.rig ∧
    (State.nextSwap s b).coll = s.coll ∧
    (State.nextSwap s b).domain = s.domain ∧
    (State.nextSwap s b).messages = s.messages ∧
    (State.nextSwap s b).package = s.package ∧
    (State.nextSwap s b).clocks = s.clocks ∧
    (State.nextSwap s b).thermal = s.thermal ∧
    (State.nextSwap s b).boot = s.boot ∧
    (State.nextSwap s b).freeCount = s.freeCount := by
  unfold State.nextSwap
  try dsimp only
  (repeat' split) <;> simp_all -implicitDefEqProofs [↓prod_flip3, prod_flip]

@[simp] theorem State.bringIn_kept (s : State) (b : Nat) (dead : Nat) (spare : Nat) (ch : Nat) :
    (State.bringIn s b dead spare ch).pending = s.pending ∧
    (State.bringIn s b dead spare ch).fuses = s.fuses ∧
    (State.bringIn s b dead spare ch).shadows = s.shadows ∧
    (State.bringIn s b dead spare ch).blobs = s.blobs ∧
    (State.bringIn s b dead spare ch).blobShadows = s.blobShadows ∧
    (State.bringIn s b dead spare ch).hubNeeds = s.hubNeeds ∧
    (State.bringIn s b dead spare ch).commits = s.commits ∧
    (State.bringIn s b dead spare ch).seeds = s.seeds ∧
    (State.bringIn s b dead spare ch).load = s.load ∧
    (State.bringIn s b dead spare ch).clusters = s.clusters ∧
    (State.bringIn s b dead spare ch).ctxs = s.ctxs ∧
    (State.bringIn s b dead spare ch).memory = s.memory ∧
    (State.bringIn s b dead spare ch).coll = s.coll ∧
    (State.bringIn s b dead spare ch).messages = s.messages ∧
    (State.bringIn s b dead spare ch).package = s.package ∧
    (State.bringIn s b dead spare ch).clocks = s.clocks ∧
    (State.bringIn s b dead spare ch).thermal = s.thermal ∧
    (State.bringIn s b dead spare ch).boot = s.boot ∧
    (State.bringIn s b dead spare ch).freeCount = s.freeCount := by
  unfold State.bringIn
  try dsimp only
  (repeat' split) <;> simp_all -implicitDefEqProofs [↓prod_flip3, prod_flip]

@[simp] theorem State.useSpare_kept (s : State) (b : Nat) (ch : Nat) :
    (State.useSpare s b ch).pending = s.pending ∧
    (State.useSpare s b ch).fuses = s.fuses ∧
    (State.useSpare s b ch).shadows = s.shadows ∧
    (State.useSpare s b ch).blobs = s.blobs ∧
    (State.useSpare s b ch).blobShadows = s.blobShadows ∧
    (State.useSpare s b ch).hubNeeds = s.hubNeeds ∧
    (State.useSpare s b ch).commits = s.commits ∧
    (State.useSpare s b ch).seeds = s.seeds ∧
    (State.useSpare s b ch).load = s.load ∧
    (State.useSpare s b ch).clusters = s.clusters ∧
    (State.useSpare s b ch).ctxs = s.ctxs ∧
    (State.useSpare s b ch).memory = s.memory ∧
    (State.useSpare s b ch).coll = s.coll ∧
    (State.useSpare s b ch).messages = s.messages ∧
    (State.useSpare s b ch).package = s.package ∧
    (State.useSpare s b ch).clocks = s.clocks ∧
    (State.useSpare s b ch).thermal = s.thermal ∧
    (State.useSpare s b ch).boot = s.boot ∧
    (State.useSpare s b ch).freeCount = s.freeCount := by
  unfold State.useSpare
  try dsimp only
  (repeat' split) <;> simp_all -implicitDefEqProofs [↓prod_flip3, prod_flip]

@[simp] theorem State.lineDead_kept (s : State) (b : Nat) (n : Nat) (ch : Nat) (abrupt : Bool) :
    (State.lineDead s b n ch abrupt).pending = s.pending ∧
    (State.lineDead s b n ch abrupt).fuses = s.fuses ∧
    (State.lineDead s b n ch abrupt).shadows = s.shadows ∧
    (State.lineDead s b n ch abrupt).blobs = s.blobs ∧
    (State.lineDead s b n ch abrupt).blobShadows = s.blobShadows ∧
    (State.lineDead s b n ch abrupt).hubNeeds = s.hubNeeds ∧
    (State.lineDead s b n ch abrupt).commits = s.commits ∧
    (State.lineDead s b n ch abrupt).seeds = s.seeds ∧
    (State.lineDead s b n ch abrupt).load = s.load ∧
    (State.lineDead s b n ch abrupt).clusters = s.clusters ∧
    (State.lineDead s b n ch abrupt).ctxs = s.ctxs ∧
    (State.lineDead s b n ch abrupt).memory = s.memory ∧
    (State.lineDead s b n ch abrupt).coll = s.coll ∧
    (State.lineDead s b n ch abrupt).messages = s.messages ∧
    (State.lineDead s b n ch abrupt).package = s.package ∧
    (State.lineDead s b n ch abrupt).clocks = s.clocks ∧
    (State.lineDead s b n ch abrupt).thermal = s.thermal ∧
    (State.lineDead s b n ch abrupt).boot = s.boot ∧
    (State.lineDead s b n ch abrupt).freeCount = s.freeCount := by
  unfold State.lineDead
  try dsimp only
  (repeat' split) <;> simp_all -implicitDefEqProofs [↓prod_flip3, prod_flip]

@[simp] theorem State.abruptFailure_kept (s : State) (b : Nat) (n : Nat) (ch : Nat) :
    (State.abruptFailure s b n ch).pending = s.pending ∧
    (State.abruptFailure s b n ch).fuses = s.fuses ∧
    (State.abruptFailure s b n ch).shadows = s.shadows ∧
    (State.abruptFailure s b n ch).blobs = s.blobs ∧
    (State.abruptFailure s b n ch).blobShadows = s.blobShadows ∧
    (State.abruptFailure s b n ch).hubNeeds = s.hubNeeds ∧
    (State.abruptFailure s b n ch).commits = s.commits ∧
    (State.abruptFailure s b n ch).seeds = s.seeds ∧
    (State.abruptFailure s b n ch).load = s.load ∧
    (State.abruptFailure s b n ch).clusters = s.clusters ∧
    (State.abruptFailure s b n ch).ctxs = s.ctxs ∧
    (State.abruptFailure s b n ch).memory = s.memory ∧
    (State.abruptFailure s b n ch).coll = s.coll ∧
    (State.abruptFailure s b n ch).messages = s.messages ∧
    (State.abruptFailure s b n ch).package = s.package ∧
    (State.abruptFailure s b n ch).clocks = s.clocks ∧
    (State.abruptFailure s b n ch).thermal = s.thermal ∧
    (State.abruptFailure s b n ch).boot = s.boot ∧
    (State.abruptFailure s b n ch).freeCount = s.freeCount := by
  unfold State.abruptFailure
  try dsimp only
  (repeat' split) <;> simp_all -implicitDefEqProofs [↓prod_flip3, prod_flip]

@[simp] theorem State.fade10_kept (s : State) (b : Nat) (n : Nat) (ch : Nat) (fall : Word32) :
    (State.fade10 s b n ch fall).pending = s.pending ∧
    (State.fade10 s b n ch fall).fuses = s.fuses ∧
    (State.fade10 s b n ch fall).shadows = s.shadows ∧
    (State.fade10 s b n ch fall).blobs = s.blobs ∧
    (State.fade10 s b n ch fall).blobShadows = s.blobShadows ∧
    (State.fade10 s b n ch fall).hubNeeds = s.hubNeeds ∧
    (State.fade10 s b n ch fall).commits = s.commits ∧
    (State.fade10 s b n ch fall).seeds = s.seeds ∧
    (State.fade10 s b n ch fall).load = s.load ∧
    (State.fade10 s b n ch fall).clusters = s.clusters ∧
    (State.fade10 s b n ch fall).ctxs = s.ctxs ∧
    (State.fade10 s b n ch fall).memory = s.memory ∧
    (State.fade10 s b n ch fall).rig = s.rig ∧
    (State.fade10 s b n ch fall).coll = s.coll ∧
    (State.fade10 s b n ch fall).domain = s.domain ∧
    (State.fade10 s b n ch fall).messages = s.messages ∧
    (State.fade10 s b n ch fall).package = s.package ∧
    (State.fade10 s b n ch fall).clocks = s.clocks ∧
    (State.fade10 s b n ch fall).thermal = s.thermal ∧
    (State.fade10 s b n ch fall).boot = s.boot ∧
    (State.fade10 s b n ch fall).freeCount = s.freeCount := by
  unfold State.fade10
  try dsimp only
  (repeat' split) <;> simp_all -implicitDefEqProofs [↓prod_flip3, prod_flip]

@[simp] theorem State.followLine_kept (s : State) (b : Nat) (ch : Nat) (output : Word32) :
    (State.followLine s b ch output).pending = s.pending ∧
    (State.followLine s b ch output).fuses = s.fuses ∧
    (State.followLine s b ch output).regs = s.regs ∧
    (State.followLine s b ch output).shadows = s.shadows ∧
    (State.followLine s b ch output).blobs = s.blobs ∧
    (State.followLine s b ch output).blobShadows = s.blobShadows ∧
    (State.followLine s b ch output).hubNeeds = s.hubNeeds ∧
    (State.followLine s b ch output).commits = s.commits ∧
    (State.followLine s b ch output).seeds = s.seeds ∧
    (State.followLine s b ch output).load = s.load ∧
    (State.followLine s b ch output).clusters = s.clusters ∧
    (State.followLine s b ch output).ctxs = s.ctxs ∧
    (State.followLine s b ch output).memory = s.memory ∧
    (State.followLine s b ch output).rig = s.rig ∧
    (State.followLine s b ch output).coll = s.coll ∧
    (State.followLine s b ch output).domain = s.domain ∧
    (State.followLine s b ch output).messages = s.messages ∧
    (State.followLine s b ch output).package = s.package ∧
    (State.followLine s b ch output).clocks = s.clocks ∧
    (State.followLine s b ch output).thermal = s.thermal ∧
    (State.followLine s b ch output).control = s.control ∧
    (State.followLine s b ch output).boot = s.boot ∧
    (State.followLine s b ch output).dbg = s.dbg ∧
    (State.followLine s b ch output).freeCount = s.freeCount := by
  unfold State.followLine
  try dsimp only
  (repeat' split) <;> simp_all -implicitDefEqProofs [↓prod_flip3, prod_flip]

@[simp] theorem State.reCommission_kept (s : State) (value : Nat) :
    (State.reCommission s value).pending = s.pending ∧
    (State.reCommission s value).fuses = s.fuses ∧
    (State.reCommission s value).shadows = s.shadows ∧
    (State.reCommission s value).blobs = s.blobs ∧
    (State.reCommission s value).blobShadows = s.blobShadows ∧
    (State.reCommission s value).hubNeeds = s.hubNeeds ∧
    (State.reCommission s value).commits = s.commits ∧
    (State.reCommission s value).seeds = s.seeds ∧
    (State.reCommission s value).load = s.load ∧
    (State.reCommission s value).clusters = s.clusters ∧
    (State.reCommission s value).ctxs = s.ctxs ∧
    (State.reCommission s value).memory = s.memory ∧
    (State.reCommission s value).rig = s.rig ∧
    (State.reCommission s value).coll = s.coll ∧
    (State.reCommission s value).domain = s.domain ∧
    (State.reCommission s value).messages = s.messages ∧
    (State.reCommission s value).package = s.package ∧
    (State.reCommission s value).clocks = s.clocks ∧
    (State.reCommission s value).thermal = s.thermal ∧
    (State.reCommission s value).control = s.control ∧
    (State.reCommission s value).boot = s.boot ∧
    (State.reCommission s value).dbg = s.dbg ∧
    (State.reCommission s value).freeCount = s.freeCount := by
  unfold State.reCommission
  try dsimp only
  (repeat' split) <;> simp_all -implicitDefEqProofs [↓prod_flip3, prod_flip]

@[simp] theorem State.feedForward_kept (s : State) (r : Ring) (centi : Int) :
    (State.feedForward s r centi).2.pending = s.pending ∧
    (State.feedForward s r centi).2.fuses = s.fuses ∧
    (State.feedForward s r centi).2.regs = s.regs ∧
    (State.feedForward s r centi).2.shadows = s.shadows ∧
    (State.feedForward s r centi).2.blobs = s.blobs ∧
    (State.feedForward s r centi).2.blobShadows = s.blobShadows ∧
    (State.feedForward s r centi).2.hubNeeds = s.hubNeeds ∧
    (State.feedForward s r centi).2.commits = s.commits ∧
    (State.feedForward s r centi).2.seeds = s.seeds ∧
    (State.feedForward s r centi).2.load = s.load ∧
    (State.feedForward s r centi).2.clusters = s.clusters ∧
    (State.feedForward s r centi).2.ctxs = s.ctxs ∧
    (State.feedForward s r centi).2.memory = s.memory ∧
    (State.feedForward s r centi).2.rig = s.rig ∧
    (State.feedForward s r centi).2.coll = s.coll ∧
    (State.feedForward s r centi).2.photonics = s.photonics ∧
    (State.feedForward s r centi).2.domain = s.domain ∧
    (State.feedForward s r centi).2.messages = s.messages ∧
    (State.feedForward s r centi).2.package = s.package ∧
    (State.feedForward s r centi).2.clocks = s.clocks ∧
    (State.feedForward s r centi).2.thermal = s.thermal ∧
    (State.feedForward s r centi).2.control = s.control ∧
    (State.feedForward s r centi).2.boot = s.boot ∧
    (State.feedForward s r centi).2.dbg = s.dbg := by
  unfold State.feedForward
  try dsimp only
  (repeat' split) <;> simp_all -implicitDefEqProofs [↓prod_flip3, prod_flip]

@[simp] theorem requestedStep_kept (b : Nat) (acc : List Int × State) (i : Nat) :
    (requestedStep b acc i).2.pending = acc.2.pending ∧
    (requestedStep b acc i).2.fuses = acc.2.fuses ∧
    (requestedStep b acc i).2.regs = acc.2.regs ∧
    (requestedStep b acc i).2.shadows = acc.2.shadows ∧
    (requestedStep b acc i).2.blobs = acc.2.blobs ∧
    (requestedStep b acc i).2.blobShadows = acc.2.blobShadows ∧
    (requestedStep b acc i).2.hubNeeds = acc.2.hubNeeds ∧
    (requestedStep b acc i).2.commits = acc.2.commits ∧
    (requestedStep b acc i).2.seeds = acc.2.seeds ∧
    (requestedStep b acc i).2.load = acc.2.load ∧
    (requestedStep b acc i).2.clusters = acc.2.clusters ∧
    (requestedStep b acc i).2.ctxs = acc.2.ctxs ∧
    (requestedStep b acc i).2.memory = acc.2.memory ∧
    (requestedStep b acc i).2.rig = acc.2.rig ∧
    (requestedStep b acc i).2.coll = acc.2.coll ∧
    (requestedStep b acc i).2.photonics = acc.2.photonics ∧
    (requestedStep b acc i).2.domain = acc.2.domain ∧
    (requestedStep b acc i).2.messages = acc.2.messages ∧
    (requestedStep b acc i).2.package = acc.2.package ∧
    (requestedStep b acc i).2.clocks = acc.2.clocks ∧
    (requestedStep b acc i).2.thermal = acc.2.thermal ∧
    (requestedStep b acc i).2.control = acc.2.control ∧
    (requestedStep b acc i).2.boot = acc.2.boot ∧
    (requestedStep b acc i).2.dbg = acc.2.dbg := by
  unfold requestedStep
  try dsimp only
  (repeat' split) <;> simp_all -implicitDefEqProofs [↓prod_flip3, prod_flip]

@[simp] theorem State.requestedCodes_kept (s : State) (b : Nat) :
    (State.requestedCodes s b).2.pending = s.pending ∧
    (State.requestedCodes s b).2.fuses = s.fuses ∧
    (State.requestedCodes s b).2.regs = s.regs ∧
    (State.requestedCodes s b).2.shadows = s.shadows ∧
    (State.requestedCodes s b).2.blobs = s.blobs ∧
    (State.requestedCodes s b).2.blobShadows = s.blobShadows ∧
    (State.requestedCodes s b).2.hubNeeds = s.hubNeeds ∧
    (State.requestedCodes s b).2.commits = s.commits ∧
    (State.requestedCodes s b).2.seeds = s.seeds ∧
    (State.requestedCodes s b).2.load = s.load ∧
    (State.requestedCodes s b).2.clusters = s.clusters ∧
    (State.requestedCodes s b).2.ctxs = s.ctxs ∧
    (State.requestedCodes s b).2.memory = s.memory ∧
    (State.requestedCodes s b).2.rig = s.rig ∧
    (State.requestedCodes s b).2.coll = s.coll ∧
    (State.requestedCodes s b).2.photonics = s.photonics ∧
    (State.requestedCodes s b).2.domain = s.domain ∧
    (State.requestedCodes s b).2.messages = s.messages ∧
    (State.requestedCodes s b).2.package = s.package ∧
    (State.requestedCodes s b).2.clocks = s.clocks ∧
    (State.requestedCodes s b).2.thermal = s.thermal ∧
    (State.requestedCodes s b).2.control = s.control ∧
    (State.requestedCodes s b).2.boot = s.boot ∧
    (State.requestedCodes s b).2.dbg = s.dbg := by
  unfold State.requestedCodes
  try dsimp only
  (repeat' split) <;> simp_all -implicitDefEqProofs [↓prod_flip3, prod_flip]

@[simp] theorem State.appliedCode_kept (s : State) (e : Nat) :
    (State.appliedCode s e).2.2.pending = s.pending ∧
    (State.appliedCode s e).2.2.fuses = s.fuses ∧
    (State.appliedCode s e).2.2.regs = s.regs ∧
    (State.appliedCode s e).2.2.shadows = s.shadows ∧
    (State.appliedCode s e).2.2.blobs = s.blobs ∧
    (State.appliedCode s e).2.2.blobShadows = s.blobShadows ∧
    (State.appliedCode s e).2.2.hubNeeds = s.hubNeeds ∧
    (State.appliedCode s e).2.2.commits = s.commits ∧
    (State.appliedCode s e).2.2.seeds = s.seeds ∧
    (State.appliedCode s e).2.2.load = s.load ∧
    (State.appliedCode s e).2.2.clusters = s.clusters ∧
    (State.appliedCode s e).2.2.ctxs = s.ctxs ∧
    (State.appliedCode s e).2.2.memory = s.memory ∧
    (State.appliedCode s e).2.2.rig = s.rig ∧
    (State.appliedCode s e).2.2.coll = s.coll ∧
    (State.appliedCode s e).2.2.photonics = s.photonics ∧
    (State.appliedCode s e).2.2.domain = s.domain ∧
    (State.appliedCode s e).2.2.messages = s.messages ∧
    (State.appliedCode s e).2.2.package = s.package ∧
    (State.appliedCode s e).2.2.clocks = s.clocks ∧
    (State.appliedCode s e).2.2.thermal = s.thermal ∧
    (State.appliedCode s e).2.2.control = s.control ∧
    (State.appliedCode s e).2.2.boot = s.boot ∧
    (State.appliedCode s e).2.2.dbg = s.dbg := by
  unfold State.appliedCode
  try dsimp only
  (repeat' split) <;> simp_all -implicitDefEqProofs [↓prod_flip3, prod_flip]

@[simp] theorem State.countClamps_kept (s : State) (b : Nat) :
    (State.countClamps s b).pending = s.pending ∧
    (State.countClamps s b).fuses = s.fuses ∧
    (State.countClamps s b).shadows = s.shadows ∧
    (State.countClamps s b).blobs = s.blobs ∧
    (State.countClamps s b).blobShadows = s.blobShadows ∧
    (State.countClamps s b).hubNeeds = s.hubNeeds ∧
    (State.countClamps s b).commits = s.commits ∧
    (State.countClamps s b).seeds = s.seeds ∧
    (State.countClamps s b).load = s.load ∧
    (State.countClamps s b).clusters = s.clusters ∧
    (State.countClamps s b).ctxs = s.ctxs ∧
    (State.countClamps s b).memory = s.memory ∧
    (State.countClamps s b).rig = s.rig ∧
    (State.countClamps s b).coll = s.coll ∧
    (State.countClamps s b).domain = s.domain ∧
    (State.countClamps s b).messages = s.messages ∧
    (State.countClamps s b).package = s.package ∧
    (State.countClamps s b).clocks = s.clocks ∧
    (State.countClamps s b).thermal = s.thermal ∧
    (State.countClamps s b).control = s.control ∧
    (State.countClamps s b).boot = s.boot ∧
    (State.countClamps s b).dbg = s.dbg := by
  unfold State.countClamps
  try dsimp only
  (repeat' split) <;> simp_all -implicitDefEqProofs [↓prod_flip3, prod_flip]

@[simp] theorem State.calibrateRing_kept (s : State) (e : Nat) (avg : Int) (centi : Int) :
    (State.calibrateRing s e avg centi).pending = s.pending ∧
    (State.calibrateRing s e avg centi).fuses = s.fuses ∧
    (State.calibrateRing s e avg centi).regs = s.regs ∧
    (State.calibrateRing s e avg centi).shadows = s.shadows ∧
    (State.calibrateRing s e avg centi).blobs = s.blobs ∧
    (State.calibrateRing s e avg centi).blobShadows = s.blobShadows ∧
    (State.calibrateRing s e avg centi).hubNeeds = s.hubNeeds ∧
    (State.calibrateRing s e avg centi).commits = s.commits ∧
    (State.calibrateRing s e avg centi).seeds = s.seeds ∧
    (State.calibrateRing s e avg centi).load = s.load ∧
    (State.calibrateRing s e avg centi).clusters = s.clusters ∧
    (State.calibrateRing s e avg centi).ctxs = s.ctxs ∧
    (State.calibrateRing s e avg centi).memory = s.memory ∧
    (State.calibrateRing s e avg centi).rig = s.rig ∧
    (State.calibrateRing s e avg centi).coll = s.coll ∧
    (State.calibrateRing s e avg centi).domain = s.domain ∧
    (State.calibrateRing s e avg centi).messages = s.messages ∧
    (State.calibrateRing s e avg centi).package = s.package ∧
    (State.calibrateRing s e avg centi).clocks = s.clocks ∧
    (State.calibrateRing s e avg centi).thermal = s.thermal ∧
    (State.calibrateRing s e avg centi).control = s.control ∧
    (State.calibrateRing s e avg centi).boot = s.boot ∧
    (State.calibrateRing s e avg centi).dbg = s.dbg := by
  unfold State.calibrateRing
  try dsimp only
  (repeat' split) <;> simp_all -implicitDefEqProofs [↓prod_flip3, prod_flip]

@[simp] theorem State.referencePpm_kept (s : State) (rig : Nat) (hub : Nat) :
    (State.referencePpm s rig hub).2.pending = s.pending ∧
    (State.referencePpm s rig hub).2.fuses = s.fuses ∧
    (State.referencePpm s rig hub).2.regs = s.regs ∧
    (State.referencePpm s rig hub).2.shadows = s.shadows ∧
    (State.referencePpm s rig hub).2.blobs = s.blobs ∧
    (State.referencePpm s rig hub).2.blobShadows = s.blobShadows ∧
    (State.referencePpm s rig hub).2.hubNeeds = s.hubNeeds ∧
    (State.referencePpm s rig hub).2.commits = s.commits ∧
    (State.referencePpm s rig hub).2.seeds = s.seeds ∧
    (State.referencePpm s rig hub).2.load = s.load ∧
    (State.referencePpm s rig hub).2.clusters = s.clusters ∧
    (State.referencePpm s rig hub).2.ctxs = s.ctxs ∧
    (State.referencePpm s rig hub).2.memory = s.memory ∧
    (State.referencePpm s rig hub).2.rig = s.rig ∧
    (State.referencePpm s rig hub).2.coll = s.coll ∧
    (State.referencePpm s rig hub).2.photonics = s.photonics ∧
    (State.referencePpm s rig hub).2.domain = s.domain ∧
    (State.referencePpm s rig hub).2.messages = s.messages ∧
    (State.referencePpm s rig hub).2.package = s.package ∧
    (State.referencePpm s rig hub).2.clocks = s.clocks ∧
    (State.referencePpm s rig hub).2.thermal = s.thermal ∧
    (State.referencePpm s rig hub).2.control = s.control ∧
    (State.referencePpm s rig hub).2.boot = s.boot ∧
    (State.referencePpm s rig hub).2.dbg = s.dbg := by
  unfold State.referencePpm
  try dsimp only
  (repeat' split) <;> simp_all -implicitDefEqProofs [↓prod_flip3, prod_flip]

@[simp] theorem State.relockFailed_kept (s : State) (e : Nat) :
    (State.relockFailed s e).pending = s.pending ∧
    (State.relockFailed s e).fuses = s.fuses ∧
    (State.relockFailed s e).shadows = s.shadows ∧
    (State.relockFailed s e).blobs = s.blobs ∧
    (State.relockFailed s e).blobShadows = s.blobShadows ∧
    (State.relockFailed s e).hubNeeds = s.hubNeeds ∧
    (State.relockFailed s e).commits = s.commits ∧
    (State.relockFailed s e).seeds = s.seeds ∧
    (State.relockFailed s e).load = s.load ∧
    (State.relockFailed s e).clusters = s.clusters ∧
    (State.relockFailed s e).ctxs = s.ctxs ∧
    (State.relockFailed s e).memory = s.memory ∧
    (State.relockFailed s e).coll = s.coll ∧
    (State.relockFailed s e).messages = s.messages ∧
    (State.relockFailed s e).package = s.package ∧
    (State.relockFailed s e).clocks = s.clocks ∧
    (State.relockFailed s e).thermal = s.thermal ∧
    (State.relockFailed s e).boot = s.boot ∧
    (State.relockFailed s e).freeCount = s.freeCount := by
  unfold State.relockFailed
  try dsimp only
  (repeat' split) <;> simp_all -implicitDefEqProofs [↓prod_flip3, prod_flip]

@[simp] theorem State.ringLocked_kept (s : State) (e : Nat) :
    (State.ringLocked s e).pending = s.pending ∧
    (State.ringLocked s e).fuses = s.fuses ∧
    (State.ringLocked s e).regs = s.regs ∧
    (State.ringLocked s e).shadows = s.shadows ∧
    (State.ringLocked s e).blobs = s.blobs ∧
    (State.ringLocked s e).blobShadows = s.blobShadows ∧
    (State.ringLocked s e).hubNeeds = s.hubNeeds ∧
    (State.ringLocked s e).commits = s.commits ∧
    (State.ringLocked s e).seeds = s.seeds ∧
    (State.ringLocked s e).load = s.load ∧
    (State.ringLocked s e).clusters = s.clusters ∧
    (State.ringLocked s e).ctxs = s.ctxs ∧
    (State.ringLocked s e).memory = s.memory ∧
    (State.ringLocked s e).rig = s.rig ∧
    (State.ringLocked s e).coll = s.coll ∧
    (State.ringLocked s e).domain = s.domain ∧
    (State.ringLocked s e).messages = s.messages ∧
    (State.ringLocked s e).package = s.package ∧
    (State.ringLocked s e).clocks = s.clocks ∧
    (State.ringLocked s e).thermal = s.thermal ∧
    (State.ringLocked s e).control = s.control ∧
    (State.ringLocked s e).boot = s.boot ∧
    (State.ringLocked s e).dbg = s.dbg ∧
    (State.ringLocked s e).freeCount = s.freeCount := by
  unfold State.ringLocked
  try dsimp only
  (repeat' split) <;> simp_all -implicitDefEqProofs [↓prod_flip3, prod_flip]

@[simp] theorem State.elementSelect_kept (s : State) (e : Nat) :
    (State.elementSelect s e).2.pending = s.pending ∧
    (State.elementSelect s e).2.fuses = s.fuses ∧
    (State.elementSelect s e).2.shadows = s.shadows ∧
    (State.elementSelect s e).2.blobs = s.blobs ∧
    (State.elementSelect s e).2.blobShadows = s.blobShadows ∧
    (State.elementSelect s e).2.hubNeeds = s.hubNeeds ∧
    (State.elementSelect s e).2.commits = s.commits ∧
    (State.elementSelect s e).2.seeds = s.seeds ∧
    (State.elementSelect s e).2.load = s.load ∧
    (State.elementSelect s e).2.clusters = s.clusters ∧
    (State.elementSelect s e).2.ctxs = s.ctxs ∧
    (State.elementSelect s e).2.memory = s.memory ∧
    (State.elementSelect s e).2.rig = s.rig ∧
    (State.elementSelect s e).2.coll = s.coll ∧
    (State.elementSelect s e).2.domain = s.domain ∧
    (State.elementSelect s e).2.messages = s.messages ∧
    (State.elementSelect s e).2.package = s.package ∧
    (State.elementSelect s e).2.clocks = s.clocks ∧
    (State.elementSelect s e).2.thermal = s.thermal ∧
    (State.elementSelect s e).2.control = s.control ∧
    (State.elementSelect s e).2.boot = s.boot ∧
    (State.elementSelect s e).2.dbg = s.dbg := by
  unfold State.elementSelect
  try dsimp only
  (repeat' split) <;> simp_all -implicitDefEqProofs [↓prod_flip3, prod_flip]

@[simp] theorem State.domainCommitOp_kept (s : State) (value : Nat) :
    (State.domainCommitOp s value).2.pending = s.pending ∧
    (State.domainCommitOp s value).2.fuses = s.fuses ∧
    (State.domainCommitOp s value).2.shadows = s.shadows ∧
    (State.domainCommitOp s value).2.blobs = s.blobs ∧
    (State.domainCommitOp s value).2.blobShadows = s.blobShadows ∧
    (State.domainCommitOp s value).2.hubNeeds = s.hubNeeds ∧
    (State.domainCommitOp s value).2.commits = s.commits ∧
    (State.domainCommitOp s value).2.seeds = s.seeds ∧
    (State.domainCommitOp s value).2.load = s.load ∧
    (State.domainCommitOp s value).2.clusters = s.clusters ∧
    (State.domainCommitOp s value).2.ctxs = s.ctxs ∧
    (State.domainCommitOp s value).2.memory = s.memory ∧
    (State.domainCommitOp s value).2.rig = s.rig ∧
    (State.domainCommitOp s value).2.coll = s.coll ∧
    (State.domainCommitOp s value).2.photonics = s.photonics ∧
    (State.domainCommitOp s value).2.messages = s.messages ∧
    (State.domainCommitOp s value).2.package = s.package ∧
    (State.domainCommitOp s value).2.clocks = s.clocks ∧
    (State.domainCommitOp s value).2.thermal = s.thermal ∧
    (State.domainCommitOp s value).2.control = s.control ∧
    (State.domainCommitOp s value).2.boot = s.boot ∧
    (State.domainCommitOp s value).2.dbg = s.dbg ∧
    (State.domainCommitOp s value).2.freeCount = s.freeCount := by
  unfold State.domainCommitOp
  try dsimp only
  (repeat' split) <;> simp_all -implicitDefEqProofs [↓prod_flip3, prod_flip]

@[simp] theorem State.windowCommitOp_kept (s : State) (value : Nat) :
    (State.windowCommitOp s value).2.pending = s.pending ∧
    (State.windowCommitOp s value).2.fuses = s.fuses ∧
    (State.windowCommitOp s value).2.shadows = s.shadows ∧
    (State.windowCommitOp s value).2.blobShadows = s.blobShadows ∧
    (State.windowCommitOp s value).2.hubNeeds = s.hubNeeds ∧
    (State.windowCommitOp s value).2.commits = s.commits ∧
    (State.windowCommitOp s value).2.seeds = s.seeds ∧
    (State.windowCommitOp s value).2.load = s.load ∧
    (State.windowCommitOp s value).2.clusters = s.clusters ∧
    (State.windowCommitOp s value).2.ctxs = s.ctxs ∧
    (State.windowCommitOp s value).2.memory = s.memory ∧
    (State.windowCommitOp s value).2.rig = s.rig ∧
    (State.windowCommitOp s value).2.coll = s.coll ∧
    (State.windowCommitOp s value).2.photonics = s.photonics ∧
    (State.windowCommitOp s value).2.messages = s.messages ∧
    (State.windowCommitOp s value).2.package = s.package ∧
    (State.windowCommitOp s value).2.clocks = s.clocks ∧
    (State.windowCommitOp s value).2.thermal = s.thermal ∧
    (State.windowCommitOp s value).2.boot = s.boot ∧
    (State.windowCommitOp s value).2.freeCount = s.freeCount := by
  unfold State.windowCommitOp
  try dsimp only
  (repeat' split) <;> simp_all -implicitDefEqProofs [↓prod_flip3, prod_flip]

@[simp] theorem State.sendHello_kept (s : State) (p : Nat) :
    (State.sendHello s p).pending = s.pending ∧
    (State.sendHello s p).fuses = s.fuses ∧
    (State.sendHello s p).regs = s.regs ∧
    (State.sendHello s p).shadows = s.shadows ∧
    (State.sendHello s p).blobs = s.blobs ∧
    (State.sendHello s p).blobShadows = s.blobShadows ∧
    (State.sendHello s p).hubNeeds = s.hubNeeds ∧
    (State.sendHello s p).commits = s.commits ∧
    (State.sendHello s p).seeds = s.seeds ∧
    (State.sendHello s p).load = s.load ∧
    (State.sendHello s p).clusters = s.clusters ∧
    (State.sendHello s p).ctxs = s.ctxs ∧
    (State.sendHello s p).memory = s.memory ∧
    (State.sendHello s p).rig = s.rig ∧
    (State.sendHello s p).coll = s.coll ∧
    (State.sendHello s p).photonics = s.photonics ∧
    (State.sendHello s p).messages = s.messages ∧
    (State.sendHello s p).package = s.package ∧
    (State.sendHello s p).clocks = s.clocks ∧
    (State.sendHello s p).thermal = s.thermal ∧
    (State.sendHello s p).boot = s.boot ∧
    (State.sendHello s p).dbg = s.dbg ∧
    (State.sendHello s p).freeCount = s.freeCount := by
  unfold State.sendHello
  try dsimp only
  (repeat' split) <;> simp_all -implicitDefEqProofs [↓prod_flip3, prod_flip]

@[simp] theorem State.startJoin_kept (s : State) (p : Nat) :
    (State.startJoin s p).pending = s.pending ∧
    (State.startJoin s p).fuses = s.fuses ∧
    (State.startJoin s p).regs = s.regs ∧
    (State.startJoin s p).shadows = s.shadows ∧
    (State.startJoin s p).blobs = s.blobs ∧
    (State.startJoin s p).blobShadows = s.blobShadows ∧
    (State.startJoin s p).hubNeeds = s.hubNeeds ∧
    (State.startJoin s p).commits = s.commits ∧
    (State.startJoin s p).seeds = s.seeds ∧
    (State.startJoin s p).load = s.load ∧
    (State.startJoin s p).clusters = s.clusters ∧
    (State.startJoin s p).ctxs = s.ctxs ∧
    (State.startJoin s p).memory = s.memory ∧
    (State.startJoin s p).rig = s.rig ∧
    (State.startJoin s p).coll = s.coll ∧
    (State.startJoin s p).photonics = s.photonics ∧
    (State.startJoin s p).messages = s.messages ∧
    (State.startJoin s p).package = s.package ∧
    (State.startJoin s p).clocks = s.clocks ∧
    (State.startJoin s p).thermal = s.thermal ∧
    (State.startJoin s p).boot = s.boot ∧
    (State.startJoin s p).dbg = s.dbg ∧
    (State.startJoin s p).freeCount = s.freeCount := by
  unfold State.startJoin
  try dsimp only
  (repeat' split) <;> simp_all -implicitDefEqProofs [↓prod_flip3, prod_flip]

@[simp] theorem State.freezePort_kept (s : State) (p : Nat) :
    (State.freezePort s p).pending = s.pending ∧
    (State.freezePort s p).fuses = s.fuses ∧
    (State.freezePort s p).regs = s.regs ∧
    (State.freezePort s p).shadows = s.shadows ∧
    (State.freezePort s p).blobs = s.blobs ∧
    (State.freezePort s p).blobShadows = s.blobShadows ∧
    (State.freezePort s p).hubNeeds = s.hubNeeds ∧
    (State.freezePort s p).commits = s.commits ∧
    (State.freezePort s p).seeds = s.seeds ∧
    (State.freezePort s p).load = s.load ∧
    (State.freezePort s p).clusters = s.clusters ∧
    (State.freezePort s p).ctxs = s.ctxs ∧
    (State.freezePort s p).memory = s.memory ∧
    (State.freezePort s p).rig = s.rig ∧
    (State.freezePort s p).coll = s.coll ∧
    (State.freezePort s p).photonics = s.photonics ∧
    (State.freezePort s p).messages = s.messages ∧
    (State.freezePort s p).package = s.package ∧
    (State.freezePort s p).clocks = s.clocks ∧
    (State.freezePort s p).thermal = s.thermal ∧
    (State.freezePort s p).control = s.control ∧
    (State.freezePort s p).boot = s.boot ∧
    (State.freezePort s p).dbg = s.dbg ∧
    (State.freezePort s p).freeCount = s.freeCount := by
  unfold State.freezePort
  try dsimp only
  (repeat' split) <;> simp_all -implicitDefEqProofs [↓prod_flip3, prod_flip]

@[simp] theorem State.declareLost_kept (s : State) (p : Nat) :
    (State.declareLost s p).pending = s.pending ∧
    (State.declareLost s p).fuses = s.fuses ∧
    (State.declareLost s p).shadows = s.shadows ∧
    (State.declareLost s p).blobs = s.blobs ∧
    (State.declareLost s p).blobShadows = s.blobShadows ∧
    (State.declareLost s p).hubNeeds = s.hubNeeds ∧
    (State.declareLost s p).commits = s.commits ∧
    (State.declareLost s p).seeds = s.seeds ∧
    (State.declareLost s p).load = s.load ∧
    (State.declareLost s p).clusters = s.clusters ∧
    (State.declareLost s p).memory = s.memory ∧
    (State.declareLost s p).rig = s.rig ∧
    (State.declareLost s p).photonics = s.photonics ∧
    (State.declareLost s p).messages = s.messages ∧
    (State.declareLost s p).package = s.package ∧
    (State.declareLost s p).clocks = s.clocks ∧
    (State.declareLost s p).thermal = s.thermal ∧
    (State.declareLost s p).boot = s.boot ∧
    (State.declareLost s p).freeCount = s.freeCount := by
  unfold State.declareLost
  try dsimp only
  (repeat' split) <;> simp_all -implicitDefEqProofs [↓prod_flip3, prod_flip]

@[simp] theorem State.renumberHop_kept (s : State) (p : Nat) :
    (State.renumberHop s p).pending = s.pending ∧
    (State.renumberHop s p).fuses = s.fuses ∧
    (State.renumberHop s p).regs = s.regs ∧
    (State.renumberHop s p).shadows = s.shadows ∧
    (State.renumberHop s p).blobs = s.blobs ∧
    (State.renumberHop s p).blobShadows = s.blobShadows ∧
    (State.renumberHop s p).hubNeeds = s.hubNeeds ∧
    (State.renumberHop s p).commits = s.commits ∧
    (State.renumberHop s p).seeds = s.seeds ∧
    (State.renumberHop s p).load = s.load ∧
    (State.renumberHop s p).clusters = s.clusters ∧
    (State.renumberHop s p).ctxs = s.ctxs ∧
    (State.renumberHop s p).memory = s.memory ∧
    (State.renumberHop s p).rig = s.rig ∧
    (State.renumberHop s p).coll = s.coll ∧
    (State.renumberHop s p).photonics = s.photonics ∧
    (State.renumberHop s p).messages = s.messages ∧
    (State.renumberHop s p).package = s.package ∧
    (State.renumberHop s p).clocks = s.clocks ∧
    (State.renumberHop s p).thermal = s.thermal ∧
    (State.renumberHop s p).control = s.control ∧
    (State.renumberHop s p).boot = s.boot ∧
    (State.renumberHop s p).dbg = s.dbg ∧
    (State.renumberHop s p).freeCount = s.freeCount := by
  unfold State.renumberHop
  try dsimp only
  (repeat' split) <;> simp_all -implicitDefEqProofs [↓prod_flip3, prod_flip]

@[simp] theorem State.portTrained_kept (s : State) (p : Nat) :
    (State.portTrained s p).pending = s.pending ∧
    (State.portTrained s p).fuses = s.fuses ∧
    (State.portTrained s p).regs = s.regs ∧
    (State.portTrained s p).shadows = s.shadows ∧
    (State.portTrained s p).blobs = s.blobs ∧
    (State.portTrained s p).blobShadows = s.blobShadows ∧
    (State.portTrained s p).hubNeeds = s.hubNeeds ∧
    (State.portTrained s p).commits = s.commits ∧
    (State.portTrained s p).seeds = s.seeds ∧
    (State.portTrained s p).load = s.load ∧
    (State.portTrained s p).clusters = s.clusters ∧
    (State.portTrained s p).ctxs = s.ctxs ∧
    (State.portTrained s p).memory = s.memory ∧
    (State.portTrained s p).rig = s.rig ∧
    (State.portTrained s p).coll = s.coll ∧
    (State.portTrained s p).photonics = s.photonics ∧
    (State.portTrained s p).messages = s.messages ∧
    (State.portTrained s p).package = s.package ∧
    (State.portTrained s p).clocks = s.clocks ∧
    (State.portTrained s p).thermal = s.thermal ∧
    (State.portTrained s p).boot = s.boot ∧
    (State.portTrained s p).dbg = s.dbg ∧
    (State.portTrained s p).freeCount = s.freeCount := by
  unfold State.portTrained
  try dsimp only
  (repeat' split) <;> simp_all -implicitDefEqProofs [↓prod_flip3, prod_flip]

@[simp] theorem State.wrongAtPort_kept (s : State) (p : Nat) (mask : Nat) :
    (State.wrongAtPort s p mask).pending = s.pending ∧
    (State.wrongAtPort s p mask).fuses = s.fuses ∧
    (State.wrongAtPort s p mask).shadows = s.shadows ∧
    (State.wrongAtPort s p mask).blobs = s.blobs ∧
    (State.wrongAtPort s p mask).blobShadows = s.blobShadows ∧
    (State.wrongAtPort s p mask).hubNeeds = s.hubNeeds ∧
    (State.wrongAtPort s p mask).commits = s.commits ∧
    (State.wrongAtPort s p mask).seeds = s.seeds ∧
    (State.wrongAtPort s p mask).load = s.load ∧
    (State.wrongAtPort s p mask).clusters = s.clusters ∧
    (State.wrongAtPort s p mask).ctxs = s.ctxs ∧
    (State.wrongAtPort s p mask).memory = s.memory ∧
    (State.wrongAtPort s p mask).coll = s.coll ∧
    (State.wrongAtPort s p mask).domain = s.domain ∧
    (State.wrongAtPort s p mask).messages = s.messages ∧
    (State.wrongAtPort s p mask).package = s.package ∧
    (State.wrongAtPort s p mask).clocks = s.clocks ∧
    (State.wrongAtPort s p mask).thermal = s.thermal ∧
    (State.wrongAtPort s p mask).boot = s.boot ∧
    (State.wrongAtPort s p mask).freeCount = s.freeCount := by
  unfold State.wrongAtPort
  try dsimp only
  (repeat' split) <;> simp_all -implicitDefEqProofs [↓prod_flip3, prod_flip]

@[simp] theorem State.multicastVia_kept (s : State) (packet : Packet) (l : List (Translated × McTarget)) (e : Nat) :
    (State.multicastVia s packet l e).pending = s.pending ∧
    (State.multicastVia s packet l e).fuses = s.fuses ∧
    (State.multicastVia s packet l e).regs = s.regs ∧
    (State.multicastVia s packet l e).shadows = s.shadows ∧
    (State.multicastVia s packet l e).blobs = s.blobs ∧
    (State.multicastVia s packet l e).blobShadows = s.blobShadows ∧
    (State.multicastVia s packet l e).hubNeeds = s.hubNeeds ∧
    (State.multicastVia s packet l e).commits = s.commits ∧
    (State.multicastVia s packet l e).seeds = s.seeds ∧
    (State.multicastVia s packet l e).load = s.load ∧
    (State.multicastVia s packet l e).clusters = s.clusters ∧
    (State.multicastVia s packet l e).ctxs = s.ctxs ∧
    (State.multicastVia s packet l e).memory = s.memory ∧
    (State.multicastVia s packet l e).rig = s.rig ∧
    (State.multicastVia s packet l e).coll = s.coll ∧
    (State.multicastVia s packet l e).photonics = s.photonics ∧
    (State.multicastVia s packet l e).messages = s.messages ∧
    (State.multicastVia s packet l e).package = s.package ∧
    (State.multicastVia s packet l e).clocks = s.clocks ∧
    (State.multicastVia s packet l e).thermal = s.thermal ∧
    (State.multicastVia s packet l e).control = s.control ∧
    (State.multicastVia s packet l e).boot = s.boot ∧
    (State.multicastVia s packet l e).dbg = s.dbg ∧
    (State.multicastVia s packet l e).freeCount = s.freeCount := by
  unfold State.multicastVia
  try dsimp only
  (repeat' split) <;> simp_all -implicitDefEqProofs [↓prod_flip3, prod_flip]

@[simp] theorem State.writeHere_kept (s : State) (q : Req) (r : Requester) :
    (State.writeHere s q r).pending = s.pending ∧
    (State.writeHere s q r).fuses = s.fuses ∧
    (State.writeHere s q r).shadows = s.shadows ∧
    (State.writeHere s q r).blobShadows = s.blobShadows ∧
    (State.writeHere s q r).hubNeeds = s.hubNeeds ∧
    (State.writeHere s q r).seeds = s.seeds ∧
    (State.writeHere s q r).load = s.load ∧
    (State.writeHere s q r).photonics = s.photonics ∧
    (State.writeHere s q r).package = s.package ∧
    (State.writeHere s q r).thermal = s.thermal ∧
    (State.writeHere s q r).boot = s.boot ∧
    (State.writeHere s q r).freeCount = s.freeCount := by
  unfold State.writeHere
  try dsimp only
  (repeat' split) <;> simp_all -implicitDefEqProofs [↓prod_flip3, prod_flip]

@[simp] theorem State.multicastHere_kept (s : State) (x : Nat) (c : Nat) (packet : Packet) (l : List McTarget) :
    (State.multicastHere s x c packet l).pending = s.pending ∧
    (State.multicastHere s x c packet l).fuses = s.fuses ∧
    (State.multicastHere s x c packet l).shadows = s.shadows ∧
    (State.multicastHere s x c packet l).blobShadows = s.blobShadows ∧
    (State.multicastHere s x c packet l).hubNeeds = s.hubNeeds ∧
    (State.multicastHere s x c packet l).seeds = s.seeds ∧
    (State.multicastHere s x c packet l).load = s.load ∧
    (State.multicastHere s x c packet l).photonics = s.photonics ∧
    (State.multicastHere s x c packet l).package = s.package ∧
    (State.multicastHere s x c packet l).thermal = s.thermal ∧
    (State.multicastHere s x c packet l).boot = s.boot ∧
    (State.multicastHere s x c packet l).freeCount = s.freeCount := by
  unfold State.multicastHere
  try dsimp only
  (repeat' split) <;> simp_all -implicitDefEqProofs [↓prod_flip3, prod_flip]

@[simp] theorem State.issueMulticast_kept (s : State) (x : Nat) (c : Nat) (q : Req) :
    (State.issueMulticast s x c q).2.pending = s.pending ∧
    (State.issueMulticast s x c q).2.fuses = s.fuses ∧
    (State.issueMulticast s x c q).2.shadows = s.shadows ∧
    (State.issueMulticast s x c q).2.blobShadows = s.blobShadows ∧
    (State.issueMulticast s x c q).2.hubNeeds = s.hubNeeds ∧
    (State.issueMulticast s x c q).2.seeds = s.seeds ∧
    (State.issueMulticast s x c q).2.load = s.load ∧
    (State.issueMulticast s x c q).2.photonics = s.photonics ∧
    (State.issueMulticast s x c q).2.package = s.package ∧
    (State.issueMulticast s x c q).2.thermal = s.thermal ∧
    (State.issueMulticast s x c q).2.boot = s.boot ∧
    (State.issueMulticast s x c q).2.freeCount = s.freeCount := by
  generalize ht : State.issueMulticast s x c q = t
  unfold State.issueMulticast at ht
  try dsimp only at ht
  (repeat' split at ht) <;> (subst ht; simp_all -implicitDefEqProofs [↓prod_flip3, prod_flip])

@[simp] theorem State.takeEntry_kept (s : State) (p : Nat) (q : Req) :
    (State.takeEntry s p q).pending = s.pending ∧
    (State.takeEntry s p q).fuses = s.fuses ∧
    (State.takeEntry s p q).regs = s.regs ∧
    (State.takeEntry s p q).shadows = s.shadows ∧
    (State.takeEntry s p q).blobs = s.blobs ∧
    (State.takeEntry s p q).blobShadows = s.blobShadows ∧
    (State.takeEntry s p q).hubNeeds = s.hubNeeds ∧
    (State.takeEntry s p q).commits = s.commits ∧
    (State.takeEntry s p q).seeds = s.seeds ∧
    (State.takeEntry s p q).load = s.load ∧
    (State.takeEntry s p q).clusters = s.clusters ∧
    (State.takeEntry s p q).ctxs = s.ctxs ∧
    (State.takeEntry s p q).memory = s.memory ∧
    (State.takeEntry s p q).rig = s.rig ∧
    (State.takeEntry s p q).coll = s.coll ∧
    (State.takeEntry s p q).photonics = s.photonics ∧
    (State.takeEntry s p q).messages = s.messages ∧
    (State.takeEntry s p q).package = s.package ∧
    (State.takeEntry s p q).clocks = s.clocks ∧
    (State.takeEntry s p q).thermal = s.thermal ∧
    (State.takeEntry s p q).control = s.control ∧
    (State.takeEntry s p q).boot = s.boot ∧
    (State.takeEntry s p q).dbg = s.dbg ∧
    (State.takeEntry s p q).freeCount = s.freeCount := by
  unfold State.takeEntry
  try dsimp only
  (repeat' split) <;> simp_all -implicitDefEqProofs [↓prod_flip3, prod_flip]

@[simp] theorem State.joinHomeLoad_kept (s : State) (q : Req) (h : HomeLoad) :
    (State.joinHomeLoad s q h).pending = s.pending ∧
    (State.joinHomeLoad s q h).fuses = s.fuses ∧
    (State.joinHomeLoad s q h).shadows = s.shadows ∧
    (State.joinHomeLoad s q h).blobShadows = s.blobShadows ∧
    (State.joinHomeLoad s q h).hubNeeds = s.hubNeeds ∧
    (State.joinHomeLoad s q h).seeds = s.seeds ∧
    (State.joinHomeLoad s q h).load = s.load ∧
    (State.joinHomeLoad s q h).photonics = s.photonics ∧
    (State.joinHomeLoad s q h).package = s.package ∧
    (State.joinHomeLoad s q h).thermal = s.thermal ∧
    (State.joinHomeLoad s q h).boot = s.boot ∧
    (State.joinHomeLoad s q h).freeCount = s.freeCount := by
  unfold State.joinHomeLoad
  try dsimp only
  (repeat' split) <;> simp_all -implicitDefEqProofs [↓prod_flip3, prod_flip]

@[simp] theorem State.loadArrives_kept (s : State) (p : Nat) (q : Req) :
    (State.loadArrives s p q).pending = s.pending ∧
    (State.loadArrives s p q).fuses = s.fuses ∧
    (State.loadArrives s p q).shadows = s.shadows ∧
    (State.loadArrives s p q).blobShadows = s.blobShadows ∧
    (State.loadArrives s p q).hubNeeds = s.hubNeeds ∧
    (State.loadArrives s p q).seeds = s.seeds ∧
    (State.loadArrives s p q).load = s.load ∧
    (State.loadArrives s p q).photonics = s.photonics ∧
    (State.loadArrives s p q).package = s.package ∧
    (State.loadArrives s p q).thermal = s.thermal ∧
    (State.loadArrives s p q).boot = s.boot ∧
    (State.loadArrives s p q).freeCount = s.freeCount := by
  generalize ht : State.loadArrives s p q = t
  unfold State.loadArrives at ht
  try dsimp only at ht
  (repeat' split at ht) <;> (subst ht; simp_all -implicitDefEqProofs [↓prod_flip3, prod_flip])

@[simp] theorem State.newArrives_kept (s : State) (p : Nat) (q : Req) :
    (State.newArrives s p q).pending = s.pending ∧
    (State.newArrives s p q).fuses = s.fuses ∧
    (State.newArrives s p q).shadows = s.shadows ∧
    (State.newArrives s p q).blobs = s.blobs ∧
    (State.newArrives s p q).blobShadows = s.blobShadows ∧
    (State.newArrives s p q).hubNeeds = s.hubNeeds ∧
    (State.newArrives s p q).commits = s.commits ∧
    (State.newArrives s p q).seeds = s.seeds ∧
    (State.newArrives s p q).load = s.load ∧
    (State.newArrives s p q).clusters = s.clusters ∧
    (State.newArrives s p q).ctxs = s.ctxs ∧
    (State.newArrives s p q).memory = s.memory ∧
    (State.newArrives s p q).coll = s.coll ∧
    (State.newArrives s p q).photonics = s.photonics ∧
    (State.newArrives s p q).messages = s.messages ∧
    (State.newArrives s p q).package = s.package ∧
    (State.newArrives s p q).clocks = s.clocks ∧
    (State.newArrives s p q).thermal = s.thermal ∧
    (State.newArrives s p q).boot = s.boot ∧
    (State.newArrives s p q).dbg = s.dbg ∧
    (State.newArrives s p q).freeCount = s.freeCount := by
  unfold State.newArrives
  try dsimp only
  (repeat' split) <;> simp_all -implicitDefEqProofs [↓prod_flip3, prod_flip]

@[simp] theorem State.finishHome_kept (s : State) (q : Req) (a : Answer) :
    (State.finishHome s q a).pending = s.pending ∧
    (State.finishHome s q a).fuses = s.fuses ∧
    (State.finishHome s q a).shadows = s.shadows ∧
    (State.finishHome s q a).blobShadows = s.blobShadows ∧
    (State.finishHome s q a).hubNeeds = s.hubNeeds ∧
    (State.finishHome s q a).seeds = s.seeds ∧
    (State.finishHome s q a).load = s.load ∧
    (State.finishHome s q a).photonics = s.photonics ∧
    (State.finishHome s q a).package = s.package ∧
    (State.finishHome s q a).thermal = s.thermal ∧
    (State.finishHome s q a).boot = s.boot ∧
    (State.finishHome s q a).freeCount = s.freeCount := by
  unfold State.finishHome
  try dsimp only
  (repeat' split) <;> simp_all -implicitDefEqProofs [↓prod_flip3, prod_flip]

@[simp] theorem State.partHomeLoad_kept (s : State) (q : Req) :
    (State.partHomeLoad s q).pending = s.pending ∧
    (State.partHomeLoad s q).fuses = s.fuses ∧
    (State.partHomeLoad s q).regs = s.regs ∧
    (State.partHomeLoad s q).shadows = s.shadows ∧
    (State.partHomeLoad s q).blobs = s.blobs ∧
    (State.partHomeLoad s q).blobShadows = s.blobShadows ∧
    (State.partHomeLoad s q).hubNeeds = s.hubNeeds ∧
    (State.partHomeLoad s q).commits = s.commits ∧
    (State.partHomeLoad s q).seeds = s.seeds ∧
    (State.partHomeLoad s q).load = s.load ∧
    (State.partHomeLoad s q).clusters = s.clusters ∧
    (State.partHomeLoad s q).ctxs = s.ctxs ∧
    (State.partHomeLoad s q).memory = s.memory ∧
    (State.partHomeLoad s q).rig = s.rig ∧
    (State.partHomeLoad s q).coll = s.coll ∧
    (State.partHomeLoad s q).photonics = s.photonics ∧
    (State.partHomeLoad s q).messages = s.messages ∧
    (State.partHomeLoad s q).package = s.package ∧
    (State.partHomeLoad s q).clocks = s.clocks ∧
    (State.partHomeLoad s q).thermal = s.thermal ∧
    (State.partHomeLoad s q).control = s.control ∧
    (State.partHomeLoad s q).boot = s.boot ∧
    (State.partHomeLoad s q).dbg = s.dbg ∧
    (State.partHomeLoad s q).freeCount = s.freeCount := by
  unfold State.partHomeLoad
  try dsimp only
  (repeat' split) <;> simp_all -implicitDefEqProofs [↓prod_flip3, prod_flip]

@[simp] theorem State.performOne_kept (s : State) (q : Req) :
    (State.performOne s q).2.pending = s.pending ∧
    (State.performOne s q).2.fuses = s.fuses ∧
    (State.performOne s q).2.shadows = s.shadows ∧
    (State.performOne s q).2.blobShadows = s.blobShadows ∧
    (State.performOne s q).2.hubNeeds = s.hubNeeds ∧
    (State.performOne s q).2.commits = s.commits ∧
    (State.performOne s q).2.seeds = s.seeds ∧
    (State.performOne s q).2.load = s.load ∧
    (State.performOne s q).2.coll = s.coll ∧
    (State.performOne s q).2.photonics = s.photonics ∧
    (State.performOne s q).2.domain = s.domain ∧
    (State.performOne s q).2.messages = s.messages ∧
    (State.performOne s q).2.package = s.package ∧
    (State.performOne s q).2.thermal = s.thermal ∧
    (State.performOne s q).2.boot = s.boot ∧
    (State.performOne s q).2.freeCount = s.freeCount := by
  unfold State.performOne
  try dsimp only
  (repeat' split) <;> simp_all -implicitDefEqProofs [↓prod_flip3, prod_flip]

@[simp] theorem State.performReady_kept (s : State) (position : Nat) (op : Nat) :
    (State.performReady s position op).pending = s.pending ∧
    (State.performReady s position op).fuses = s.fuses ∧
    (State.performReady s position op).shadows = s.shadows ∧
    (State.performReady s position op).blobShadows = s.blobShadows ∧
    (State.performReady s position op).hubNeeds = s.hubNeeds ∧
    (State.performReady s position op).seeds = s.seeds ∧
    (State.performReady s position op).load = s.load ∧
    (State.performReady s position op).photonics = s.photonics ∧
    (State.performReady s position op).package = s.package ∧
    (State.performReady s position op).thermal = s.thermal ∧
    (State.performReady s position op).boot = s.boot ∧
    (State.performReady s position op).freeCount = s.freeCount := by
  unfold State.performReady
  try dsimp only
  (repeat' split) <;> simp_all -implicitDefEqProofs [↓prod_flip3, prod_flip]

@[simp] theorem storeRun_kept (line : Nat) (r : Answer × State) (run : Nat × List Byte) :
    (storeRun line r run).2.pending = r.2.pending ∧
    (storeRun line r run).2.fuses = r.2.fuses ∧
    (storeRun line r run).2.shadows = r.2.shadows ∧
    (storeRun line r run).2.blobShadows = r.2.blobShadows ∧
    (storeRun line r run).2.hubNeeds = r.2.hubNeeds ∧
    (storeRun line r run).2.commits = r.2.commits ∧
    (storeRun line r run).2.seeds = r.2.seeds ∧
    (storeRun line r run).2.load = r.2.load ∧
    (storeRun line r run).2.ctxs = r.2.ctxs ∧
    (storeRun line r run).2.rig = r.2.rig ∧
    (storeRun line r run).2.coll = r.2.coll ∧
    (storeRun line r run).2.photonics = r.2.photonics ∧
    (storeRun line r run).2.domain = r.2.domain ∧
    (storeRun line r run).2.messages = r.2.messages ∧
    (storeRun line r run).2.package = r.2.package ∧
    (storeRun line r run).2.clocks = r.2.clocks ∧
    (storeRun line r run).2.thermal = r.2.thermal ∧
    (storeRun line r run).2.boot = r.2.boot ∧
    (storeRun line r run).2.freeCount = r.2.freeCount := by
  unfold storeRun
  try dsimp only
  (repeat' split) <;> simp_all -implicitDefEqProofs [↓prod_flip3, prod_flip]

@[simp] theorem State.storeMerged_kept (s : State) (line : Nat) (parts : List Req) :
    (State.storeMerged s line parts).2.pending = s.pending ∧
    (State.storeMerged s line parts).2.fuses = s.fuses ∧
    (State.storeMerged s line parts).2.shadows = s.shadows ∧
    (State.storeMerged s line parts).2.blobShadows = s.blobShadows ∧
    (State.storeMerged s line parts).2.hubNeeds = s.hubNeeds ∧
    (State.storeMerged s line parts).2.commits = s.commits ∧
    (State.storeMerged s line parts).2.seeds = s.seeds ∧
    (State.storeMerged s line parts).2.load = s.load ∧
    (State.storeMerged s line parts).2.ctxs = s.ctxs ∧
    (State.storeMerged s line parts).2.rig = s.rig ∧
    (State.storeMerged s line parts).2.coll = s.coll ∧
    (State.storeMerged s line parts).2.photonics = s.photonics ∧
    (State.storeMerged s line parts).2.domain = s.domain ∧
    (State.storeMerged s line parts).2.messages = s.messages ∧
    (State.storeMerged s line parts).2.package = s.package ∧
    (State.storeMerged s line parts).2.clocks = s.clocks ∧
    (State.storeMerged s line parts).2.thermal = s.thermal ∧
    (State.storeMerged s line parts).2.boot = s.boot ∧
    (State.storeMerged s line parts).2.freeCount = s.freeCount := by
  unfold State.storeMerged
  try dsimp only
  (repeat' split) <;> simp_all -implicitDefEqProofs [↓prod_flip3, prod_flip]

@[simp] theorem State.applyEntry_kept (s : State) (line : Nat) (parts : List Req) :
    (State.applyEntry s line parts).2.pending = s.pending ∧
    (State.applyEntry s line parts).2.fuses = s.fuses ∧
    (State.applyEntry s line parts).2.shadows = s.shadows ∧
    (State.applyEntry s line parts).2.blobShadows = s.blobShadows ∧
    (State.applyEntry s line parts).2.hubNeeds = s.hubNeeds ∧
    (State.applyEntry s line parts).2.commits = s.commits ∧
    (State.applyEntry s line parts).2.seeds = s.seeds ∧
    (State.applyEntry s line parts).2.load = s.load ∧
    (State.applyEntry s line parts).2.coll = s.coll ∧
    (State.applyEntry s line parts).2.photonics = s.photonics ∧
    (State.applyEntry s line parts).2.domain = s.domain ∧
    (State.applyEntry s line parts).2.messages = s.messages ∧
    (State.applyEntry s line parts).2.package = s.package ∧
    (State.applyEntry s line parts).2.thermal = s.thermal ∧
    (State.applyEntry s line parts).2.boot = s.boot ∧
    (State.applyEntry s line parts).2.freeCount = s.freeCount := by
  unfold State.applyEntry
  try dsimp only
  (repeat' split) <;> simp_all -implicitDefEqProofs [↓prod_flip3, prod_flip]

@[simp] theorem State.respond_kept (s : State) (port : Nat) (rsp : Rsp) (fits : Req → Bool) (a : Answer) :
    (State.respond s port rsp fits a).pending = s.pending ∧
    (State.respond s port rsp fits a).fuses = s.fuses ∧
    (State.respond s port rsp fits a).shadows = s.shadows ∧
    (State.respond s port rsp fits a).blobShadows = s.blobShadows ∧
    (State.respond s port rsp fits a).hubNeeds = s.hubNeeds ∧
    (State.respond s port rsp fits a).seeds = s.seeds ∧
    (State.respond s port rsp fits a).load = s.load ∧
    (State.respond s port rsp fits a).photonics = s.photonics ∧
    (State.respond s port rsp fits a).package = s.package ∧
    (State.respond s port rsp fits a).thermal = s.thermal ∧
    (State.respond s port rsp fits a).boot = s.boot ∧
    (State.respond s port rsp fits a).freeCount = s.freeCount := by
  unfold State.respond
  try dsimp only
  (repeat' split) <;> simp_all -implicitDefEqProofs [↓prod_flip3, prod_flip]

@[simp] theorem State.resendNow_kept (s : State) (o : Outstanding) :
    (State.resendNow s o).pending = s.pending ∧
    (State.resendNow s o).fuses = s.fuses ∧
    (State.resendNow s o).shadows = s.shadows ∧
    (State.resendNow s o).blobs = s.blobs ∧
    (State.resendNow s o).blobShadows = s.blobShadows ∧
    (State.resendNow s o).hubNeeds = s.hubNeeds ∧
    (State.resendNow s o).commits = s.commits ∧
    (State.resendNow s o).seeds = s.seeds ∧
    (State.resendNow s o).load = s.load ∧
    (State.resendNow s o).clusters = s.clusters ∧
    (State.resendNow s o).ctxs = s.ctxs ∧
    (State.resendNow s o).memory = s.memory ∧
    (State.resendNow s o).rig = s.rig ∧
    (State.resendNow s o).coll = s.coll ∧
    (State.resendNow s o).photonics = s.photonics ∧
    (State.resendNow s o).messages = s.messages ∧
    (State.resendNow s o).package = s.package ∧
    (State.resendNow s o).clocks = s.clocks ∧
    (State.resendNow s o).thermal = s.thermal ∧
    (State.resendNow s o).boot = s.boot ∧
    (State.resendNow s o).dbg = s.dbg ∧
    (State.resendNow s o).freeCount = s.freeCount := by
  unfold State.resendNow
  try dsimp only
  (repeat' split) <;> simp_all -implicitDefEqProofs [↓prod_flip3, prod_flip]

@[simp] theorem State.deliverMessage_kept (s : State) (m : Message) :
    (State.deliverMessage s m).pending = s.pending ∧
    (State.deliverMessage s m).fuses = s.fuses ∧
    (State.deliverMessage s m).shadows = s.shadows ∧
    (State.deliverMessage s m).blobs = s.blobs ∧
    (State.deliverMessage s m).blobShadows = s.blobShadows ∧
    (State.deliverMessage s m).hubNeeds = s.hubNeeds ∧
    (State.deliverMessage s m).seeds = s.seeds ∧
    (State.deliverMessage s m).load = s.load ∧
    (State.deliverMessage s m).clusters = s.clusters ∧
    (State.deliverMessage s m).memory = s.memory ∧
    (State.deliverMessage s m).rig = s.rig ∧
    (State.deliverMessage s m).photonics = s.photonics ∧
    (State.deliverMessage s m).package = s.package ∧
    (State.deliverMessage s m).clocks = s.clocks ∧
    (State.deliverMessage s m).thermal = s.thermal ∧
    (State.deliverMessage s m).boot = s.boot ∧
    (State.deliverMessage s m).freeCount = s.freeCount := by
  unfold State.deliverMessage
  try dsimp only
  (repeat' split) <;> simp_all -implicitDefEqProofs [↓prod_flip3, prod_flip]

@[simp] theorem State.forwardMessage_kept (s : State) (m : Message) :
    (State.forwardMessage s m).pending = s.pending ∧
    (State.forwardMessage s m).fuses = s.fuses ∧
    (State.forwardMessage s m).shadows = s.shadows ∧
    (State.forwardMessage s m).blobs = s.blobs ∧
    (State.forwardMessage s m).blobShadows = s.blobShadows ∧
    (State.forwardMessage s m).hubNeeds = s.hubNeeds ∧
    (State.forwardMessage s m).seeds = s.seeds ∧
    (State.forwardMessage s m).load = s.load ∧
    (State.forwardMessage s m).clusters = s.clusters ∧
    (State.forwardMessage s m).memory = s.memory ∧
    (State.forwardMessage s m).rig = s.rig ∧
    (State.forwardMessage s m).photonics = s.photonics ∧
    (State.forwardMessage s m).package = s.package ∧
    (State.forwardMessage s m).clocks = s.clocks ∧
    (State.forwardMessage s m).thermal = s.thermal ∧
    (State.forwardMessage s m).boot = s.boot ∧
    (State.forwardMessage s m).freeCount = s.freeCount := by
  unfold State.forwardMessage
  try dsimp only
  (repeat' split) <;> simp_all -implicitDefEqProofs [↓prod_flip3, prod_flip]

@[simp] theorem State.writeArea_kept (s : State) (off : Nat) (b : List Byte) :
    (State.writeArea s off b).pending = s.pending ∧
    (State.writeArea s off b).fuses = s.fuses ∧
    (State.writeArea s off b).shadows = s.shadows ∧
    (State.writeArea s off b).blobShadows = s.blobShadows ∧
    (State.writeArea s off b).hubNeeds = s.hubNeeds ∧
    (State.writeArea s off b).commits = s.commits ∧
    (State.writeArea s off b).seeds = s.seeds ∧
    (State.writeArea s off b).load = s.load ∧
    (State.writeArea s off b).ctxs = s.ctxs ∧
    (State.writeArea s off b).rig = s.rig ∧
    (State.writeArea s off b).coll = s.coll ∧
    (State.writeArea s off b).photonics = s.photonics ∧
    (State.writeArea s off b).domain = s.domain ∧
    (State.writeArea s off b).messages = s.messages ∧
    (State.writeArea s off b).package = s.package ∧
    (State.writeArea s off b).clocks = s.clocks ∧
    (State.writeArea s off b).thermal = s.thermal ∧
    (State.writeArea s off b).boot = s.boot ∧
    (State.writeArea s off b).freeCount = s.freeCount := by
  unfold State.writeArea
  try dsimp only
  (repeat' split) <;> simp_all -implicitDefEqProofs [↓prod_flip3, prod_flip]

@[simp] theorem State.inboxReleased_kept (s : State) (n : Nat) (t : Nat) (i : Inbox) :
    (State.inboxReleased s n t i).2.pending = s.pending ∧
    (State.inboxReleased s n t i).2.fuses = s.fuses ∧
    (State.inboxReleased s n t i).2.shadows = s.shadows ∧
    (State.inboxReleased s n t i).2.blobs = s.blobs ∧
    (State.inboxReleased s n t i).2.blobShadows = s.blobShadows ∧
    (State.inboxReleased s n t i).2.hubNeeds = s.hubNeeds ∧
    (State.inboxReleased s n t i).2.commits = s.commits ∧
    (State.inboxReleased s n t i).2.seeds = s.seeds ∧
    (State.inboxReleased s n t i).2.load = s.load ∧
    (State.inboxReleased s n t i).2.clusters = s.clusters ∧
    (State.inboxReleased s n t i).2.ctxs = s.ctxs ∧
    (State.inboxReleased s n t i).2.memory = s.memory ∧
    (State.inboxReleased s n t i).2.rig = s.rig ∧
    (State.inboxReleased s n t i).2.coll = s.coll ∧
    (State.inboxReleased s n t i).2.photonics = s.photonics ∧
    (State.inboxReleased s n t i).2.domain = s.domain ∧
    (State.inboxReleased s n t i).2.package = s.package ∧
    (State.inboxReleased s n t i).2.clocks = s.clocks ∧
    (State.inboxReleased s n t i).2.thermal = s.thermal ∧
    (State.inboxReleased s n t i).2.boot = s.boot ∧
    (State.inboxReleased s n t i).2.freeCount = s.freeCount := by
  generalize ht : State.inboxReleased s n t i = t
  unfold State.inboxReleased at ht
  try dsimp only at ht
  (repeat' split at ht) <;> (subst ht; simp_all -implicitDefEqProofs [↓prod_flip3, prod_flip])

@[simp] theorem State.countDrop_kept (s : State) (b : Nat) (stamp : Nat) :
    (State.countDrop s b stamp).pending = s.pending ∧
    (State.countDrop s b stamp).fuses = s.fuses ∧
    (State.countDrop s b stamp).shadows = s.shadows ∧
    (State.countDrop s b stamp).blobShadows = s.blobShadows ∧
    (State.countDrop s b stamp).hubNeeds = s.hubNeeds ∧
    (State.countDrop s b stamp).commits = s.commits ∧
    (State.countDrop s b stamp).seeds = s.seeds ∧
    (State.countDrop s b stamp).load = s.load ∧
    (State.countDrop s b stamp).ctxs = s.ctxs ∧
    (State.countDrop s b stamp).rig = s.rig ∧
    (State.countDrop s b stamp).coll = s.coll ∧
    (State.countDrop s b stamp).photonics = s.photonics ∧
    (State.countDrop s b stamp).domain = s.domain ∧
    (State.countDrop s b stamp).messages = s.messages ∧
    (State.countDrop s b stamp).package = s.package ∧
    (State.countDrop s b stamp).clocks = s.clocks ∧
    (State.countDrop s b stamp).thermal = s.thermal ∧
    (State.countDrop s b stamp).boot = s.boot ∧
    (State.countDrop s b stamp).freeCount = s.freeCount := by
  unfold State.countDrop
  try dsimp only
  (repeat' split) <;> simp_all -implicitDefEqProofs [↓prod_flip3, prod_flip]

@[simp] theorem State.deliverTo_kept (s : State) (n : Nat) (t : Nat) (i : Inbox) (m : Message) :
    (State.deliverTo s n t i m).2.pending = s.pending ∧
    (State.deliverTo s n t i m).2.fuses = s.fuses ∧
    (State.deliverTo s n t i m).2.shadows = s.shadows ∧
    (State.deliverTo s n t i m).2.blobShadows = s.blobShadows ∧
    (State.deliverTo s n t i m).2.hubNeeds = s.hubNeeds ∧
    (State.deliverTo s n t i m).2.commits = s.commits ∧
    (State.deliverTo s n t i m).2.seeds = s.seeds ∧
    (State.deliverTo s n t i m).2.load = s.load ∧
    (State.deliverTo s n t i m).2.ctxs = s.ctxs ∧
    (State.deliverTo s n t i m).2.rig = s.rig ∧
    (State.deliverTo s n t i m).2.coll = s.coll ∧
    (State.deliverTo s n t i m).2.photonics = s.photonics ∧
    (State.deliverTo s n t i m).2.domain = s.domain ∧
    (State.deliverTo s n t i m).2.package = s.package ∧
    (State.deliverTo s n t i m).2.clocks = s.clocks ∧
    (State.deliverTo s n t i m).2.thermal = s.thermal ∧
    (State.deliverTo s n t i m).2.boot = s.boot ∧
    (State.deliverTo s n t i m).2.freeCount = s.freeCount := by
  generalize ht : State.deliverTo s n t i m = t
  unfold State.deliverTo at ht
  try dsimp only at ht
  (repeat' split at ht) <;> (subst ht; simp_all -implicitDefEqProofs [↓prod_flip3, prod_flip])

@[simp] theorem State.inboxCommitOp_kept (s : State) (value : Nat) :
    (State.inboxCommitOp s value).2.pending = s.pending ∧
    (State.inboxCommitOp s value).2.fuses = s.fuses ∧
    (State.inboxCommitOp s value).2.shadows = s.shadows ∧
    (State.inboxCommitOp s value).2.blobs = s.blobs ∧
    (State.inboxCommitOp s value).2.blobShadows = s.blobShadows ∧
    (State.inboxCommitOp s value).2.hubNeeds = s.hubNeeds ∧
    (State.inboxCommitOp s value).2.commits = s.commits ∧
    (State.inboxCommitOp s value).2.seeds = s.seeds ∧
    (State.inboxCommitOp s value).2.load = s.load ∧
    (State.inboxCommitOp s value).2.clusters = s.clusters ∧
    (State.inboxCommitOp s value).2.ctxs = s.ctxs ∧
    (State.inboxCommitOp s value).2.rig = s.rig ∧
    (State.inboxCommitOp s value).2.coll = s.coll ∧
    (State.inboxCommitOp s value).2.photonics = s.photonics ∧
    (State.inboxCommitOp s value).2.domain = s.domain ∧
    (State.inboxCommitOp s value).2.package = s.package ∧
    (State.inboxCommitOp s value).2.clocks = s.clocks ∧
    (State.inboxCommitOp s value).2.thermal = s.thermal ∧
    (State.inboxCommitOp s value).2.control = s.control ∧
    (State.inboxCommitOp s value).2.boot = s.boot ∧
    (State.inboxCommitOp s value).2.dbg = s.dbg ∧
    (State.inboxCommitOp s value).2.freeCount = s.freeCount := by
  unfold State.inboxCommitOp
  try dsimp only
  (repeat' split) <;> simp_all -implicitDefEqProofs [↓prod_flip3, prod_flip]

@[simp] theorem State.routeCommitOp_kept (s : State) (value : Nat) :
    (State.routeCommitOp s value).2.pending = s.pending ∧
    (State.routeCommitOp s value).2.fuses = s.fuses ∧
    (State.routeCommitOp s value).2.shadows = s.shadows ∧
    (State.routeCommitOp s value).2.blobShadows = s.blobShadows ∧
    (State.routeCommitOp s value).2.hubNeeds = s.hubNeeds ∧
    (State.routeCommitOp s value).2.commits = s.commits ∧
    (State.routeCommitOp s value).2.seeds = s.seeds ∧
    (State.routeCommitOp s value).2.load = s.load ∧
    (State.routeCommitOp s value).2.clusters = s.clusters ∧
    (State.routeCommitOp s value).2.ctxs = s.ctxs ∧
    (State.routeCommitOp s value).2.memory = s.memory ∧
    (State.routeCommitOp s value).2.rig = s.rig ∧
    (State.routeCommitOp s value).2.coll = s.coll ∧
    (State.routeCommitOp s value).2.photonics = s.photonics ∧
    (State.routeCommitOp s value).2.domain = s.domain ∧
    (State.routeCommitOp s value).2.package = s.package ∧
    (State.routeCommitOp s value).2.clocks = s.clocks ∧
    (State.routeCommitOp s value).2.thermal = s.thermal ∧
    (State.routeCommitOp s value).2.control = s.control ∧
    (State.routeCommitOp s value).2.boot = s.boot ∧
    (State.routeCommitOp s value).2.dbg = s.dbg ∧
    (State.routeCommitOp s value).2.freeCount = s.freeCount := by
  unfold State.routeCommitOp
  try dsimp only
  (repeat' split) <;> simp_all -implicitDefEqProofs [↓prod_flip3, prod_flip]

@[simp] theorem State.agreementCommitOp_kept (s : State) (value : Nat) :
    (State.agreementCommitOp s value).2.pending = s.pending ∧
    (State.agreementCommitOp s value).2.fuses = s.fuses ∧
    (State.agreementCommitOp s value).2.shadows = s.shadows ∧
    (State.agreementCommitOp s value).2.blobs = s.blobs ∧
    (State.agreementCommitOp s value).2.blobShadows = s.blobShadows ∧
    (State.agreementCommitOp s value).2.hubNeeds = s.hubNeeds ∧
    (State.agreementCommitOp s value).2.commits = s.commits ∧
    (State.agreementCommitOp s value).2.seeds = s.seeds ∧
    (State.agreementCommitOp s value).2.load = s.load ∧
    (State.agreementCommitOp s value).2.clusters = s.clusters ∧
    (State.agreementCommitOp s value).2.ctxs = s.ctxs ∧
    (State.agreementCommitOp s value).2.memory = s.memory ∧
    (State.agreementCommitOp s value).2.rig = s.rig ∧
    (State.agreementCommitOp s value).2.coll = s.coll ∧
    (State.agreementCommitOp s value).2.photonics = s.photonics ∧
    (State.agreementCommitOp s value).2.domain = s.domain ∧
    (State.agreementCommitOp s value).2.messages = s.messages ∧
    (State.agreementCommitOp s value).2.package = s.package ∧
    (State.agreementCommitOp s value).2.clocks = s.clocks ∧
    (State.agreementCommitOp s value).2.thermal = s.thermal ∧
    (State.agreementCommitOp s value).2.control = s.control ∧
    (State.agreementCommitOp s value).2.boot = s.boot ∧
    (State.agreementCommitOp s value).2.dbg = s.dbg ∧
    (State.agreementCommitOp s value).2.freeCount = s.freeCount := by
  unfold State.agreementCommitOp
  try dsimp only
  (repeat' split) <;> simp_all -implicitDefEqProofs [↓prod_flip3, prod_flip]

@[simp] theorem State.demote_kept (s : State) (p : Nat) (epoch : Nat) (level : Nat) :
    (State.demote s p epoch level).pending = s.pending ∧
    (State.demote s p epoch level).fuses = s.fuses ∧
    (State.demote s p epoch level).shadows = s.shadows ∧
    (State.demote s p epoch level).blobs = s.blobs ∧
    (State.demote s p epoch level).blobShadows = s.blobShadows ∧
    (State.demote s p epoch level).hubNeeds = s.hubNeeds ∧
    (State.demote s p epoch level).commits = s.commits ∧
    (State.demote s p epoch level).seeds = s.seeds ∧
    (State.demote s p epoch level).load = s.load ∧
    (State.demote s p epoch level).clusters = s.clusters ∧
    (State.demote s p epoch level).ctxs = s.ctxs ∧
    (State.demote s p epoch level).memory = s.memory ∧
    (State.demote s p epoch level).rig = s.rig ∧
    (State.demote s p epoch level).coll = s.coll ∧
    (State.demote s p epoch level).photonics = s.photonics ∧
    (State.demote s p epoch level).messages = s.messages ∧
    (State.demote s p epoch level).package = s.package ∧
    (State.demote s p epoch level).clocks = s.clocks ∧
    (State.demote s p epoch level).thermal = s.thermal ∧
    (State.demote s p epoch level).boot = s.boot ∧
    (State.demote s p epoch level).freeCount = s.freeCount := by
  unfold State.demote
  try dsimp only
  (repeat' split) <;> simp_all -implicitDefEqProofs [↓prod_flip3, prod_flip]

@[simp] theorem State.enterFence_kept (s : State) (theta : Int) (byCheck : Bool) :
    (State.enterFence s theta byCheck).pending = s.pending ∧
    (State.enterFence s theta byCheck).fuses = s.fuses ∧
    (State.enterFence s theta byCheck).shadows = s.shadows ∧
    (State.enterFence s theta byCheck).blobs = s.blobs ∧
    (State.enterFence s theta byCheck).blobShadows = s.blobShadows ∧
    (State.enterFence s theta byCheck).hubNeeds = s.hubNeeds ∧
    (State.enterFence s theta byCheck).commits = s.commits ∧
    (State.enterFence s theta byCheck).seeds = s.seeds ∧
    (State.enterFence s theta byCheck).load = s.load ∧
    (State.enterFence s theta byCheck).clusters = s.clusters ∧
    (State.enterFence s theta byCheck).ctxs = s.ctxs ∧
    (State.enterFence s theta byCheck).memory = s.memory ∧
    (State.enterFence s theta byCheck).rig = s.rig ∧
    (State.enterFence s theta byCheck).coll = s.coll ∧
    (State.enterFence s theta byCheck).photonics = s.photonics ∧
    (State.enterFence s theta byCheck).domain = s.domain ∧
    (State.enterFence s theta byCheck).messages = s.messages ∧
    (State.enterFence s theta byCheck).package = s.package ∧
    (State.enterFence s theta byCheck).thermal = s.thermal ∧
    (State.enterFence s theta byCheck).boot = s.boot ∧
    (State.enterFence s theta byCheck).freeCount = s.freeCount := by
  unfold State.enterFence
  try dsimp only
  (repeat' split) <;> simp_all -implicitDefEqProofs [↓prod_flip3, prod_flip]

@[simp] theorem State.fireDoorbell_kept (s : State) (row : Nat) (state : Nat) :
    (State.fireDoorbell s row state).pending = s.pending ∧
    (State.fireDoorbell s row state).fuses = s.fuses ∧
    (State.fireDoorbell s row state).shadows = s.shadows ∧
    (State.fireDoorbell s row state).blobs = s.blobs ∧
    (State.fireDoorbell s row state).blobShadows = s.blobShadows ∧
    (State.fireDoorbell s row state).hubNeeds = s.hubNeeds ∧
    (State.fireDoorbell s row state).commits = s.commits ∧
    (State.fireDoorbell s row state).seeds = s.seeds ∧
    (State.fireDoorbell s row state).load = s.load ∧
    (State.fireDoorbell s row state).clusters = s.clusters ∧
    (State.fireDoorbell s row state).memory = s.memory ∧
    (State.fireDoorbell s row state).rig = s.rig ∧
    (State.fireDoorbell s row state).coll = s.coll ∧
    (State.fireDoorbell s row state).photonics = s.photonics ∧
    (State.fireDoorbell s row state).domain = s.domain ∧
    (State.fireDoorbell s row state).package = s.package ∧
    (State.fireDoorbell s row state).clocks = s.clocks ∧
    (State.fireDoorbell s row state).thermal = s.thermal ∧
    (State.fireDoorbell s row state).boot = s.boot ∧
    (State.fireDoorbell s row state).freeCount = s.freeCount := by
  unfold State.fireDoorbell
  try dsimp only
  (repeat' split) <;> simp_all -implicitDefEqProofs [↓prod_flip3, prod_flip]

@[simp] theorem State.leaveFence_kept (s : State) (theta : Int) :
    (State.leaveFence s theta).pending = s.pending ∧
    (State.leaveFence s theta).fuses = s.fuses ∧
    (State.leaveFence s theta).shadows = s.shadows ∧
    (State.leaveFence s theta).blobs = s.blobs ∧
    (State.leaveFence s theta).blobShadows = s.blobShadows ∧
    (State.leaveFence s theta).hubNeeds = s.hubNeeds ∧
    (State.leaveFence s theta).commits = s.commits ∧
    (State.leaveFence s theta).seeds = s.seeds ∧
    (State.leaveFence s theta).load = s.load ∧
    (State.leaveFence s theta).clusters = s.clusters ∧
    (State.leaveFence s theta).memory = s.memory ∧
    (State.leaveFence s theta).rig = s.rig ∧
    (State.leaveFence s theta).coll = s.coll ∧
    (State.leaveFence s theta).photonics = s.photonics ∧
    (State.leaveFence s theta).domain = s.domain ∧
    (State.leaveFence s theta).package = s.package ∧
    (State.leaveFence s theta).thermal = s.thermal ∧
    (State.leaveFence s theta).boot = s.boot ∧
    (State.leaveFence s theta).freeCount = s.freeCount := by
  unfold State.leaveFence
  try dsimp only
  (repeat' split) <;> simp_all -implicitDefEqProofs [↓prod_flip3, prod_flip]

@[simp] theorem State.clearPair_kept (s : State) (p : Nat) :
    (State.clearPair s p).pending = s.pending ∧
    (State.clearPair s p).fuses = s.fuses ∧
    (State.clearPair s p).regs = s.regs ∧
    (State.clearPair s p).shadows = s.shadows ∧
    (State.clearPair s p).blobs = s.blobs ∧
    (State.clearPair s p).blobShadows = s.blobShadows ∧
    (State.clearPair s p).hubNeeds = s.hubNeeds ∧
    (State.clearPair s p).commits = s.commits ∧
    (State.clearPair s p).seeds = s.seeds ∧
    (State.clearPair s p).load = s.load ∧
    (State.clearPair s p).clusters = s.clusters ∧
    (State.clearPair s p).ctxs = s.ctxs ∧
    (State.clearPair s p).memory = s.memory ∧
    (State.clearPair s p).rig = s.rig ∧
    (State.clearPair s p).coll = s.coll ∧
    (State.clearPair s p).photonics = s.photonics ∧
    (State.clearPair s p).messages = s.messages ∧
    (State.clearPair s p).package = s.package ∧
    (State.clearPair s p).clocks = s.clocks ∧
    (State.clearPair s p).thermal = s.thermal ∧
    (State.clearPair s p).control = s.control ∧
    (State.clearPair s p).boot = s.boot ∧
    (State.clearPair s p).dbg = s.dbg ∧
    (State.clearPair s p).freeCount = s.freeCount := by
  unfold State.clearPair
  try dsimp only
  (repeat' split) <;> simp_all -implicitDefEqProofs [↓prod_flip3, prod_flip]

@[simp] theorem State.checkHello_kept (s0 : State) (p : Nat) (h : Hello) :
    (State.checkHello s0 p h).pending = s0.pending ∧
    (State.checkHello s0 p h).fuses = s0.fuses ∧
    (State.checkHello s0 p h).shadows = s0.shadows ∧
    (State.checkHello s0 p h).blobs = s0.blobs ∧
    (State.checkHello s0 p h).blobShadows = s0.blobShadows ∧
    (State.checkHello s0 p h).hubNeeds = s0.hubNeeds ∧
    (State.checkHello s0 p h).commits = s0.commits ∧
    (State.checkHello s0 p h).seeds = s0.seeds ∧
    (State.checkHello s0 p h).load = s0.load ∧
    (State.checkHello s0 p h).clusters = s0.clusters ∧
    (State.checkHello s0 p h).ctxs = s0.ctxs ∧
    (State.checkHello s0 p h).memory = s0.memory ∧
    (State.checkHello s0 p h).rig = s0.rig ∧
    (State.checkHello s0 p h).coll = s0.coll ∧
    (State.checkHello s0 p h).photonics = s0.photonics ∧
    (State.checkHello s0 p h).messages = s0.messages ∧
    (State.checkHello s0 p h).package = s0.package ∧
    (State.checkHello s0 p h).thermal = s0.thermal ∧
    (State.checkHello s0 p h).boot = s0.boot ∧
    (State.checkHello s0 p h).freeCount = s0.freeCount := by
  unfold State.checkHello
  try dsimp only
  (repeat' split) <;> simp_all -implicitDefEqProofs [↓prod_flip3, prod_flip]

@[simp] theorem State.joinOp_kept (s : State) (p : Nat) :
    (State.joinOp s p).pending = s.pending ∧
    (State.joinOp s p).fuses = s.fuses ∧
    (State.joinOp s p).shadows = s.shadows ∧
    (State.joinOp s p).blobs = s.blobs ∧
    (State.joinOp s p).blobShadows = s.blobShadows ∧
    (State.joinOp s p).hubNeeds = s.hubNeeds ∧
    (State.joinOp s p).commits = s.commits ∧
    (State.joinOp s p).seeds = s.seeds ∧
    (State.joinOp s p).load = s.load ∧
    (State.joinOp s p).clusters = s.clusters ∧
    (State.joinOp s p).ctxs = s.ctxs ∧
    (State.joinOp s p).memory = s.memory ∧
    (State.joinOp s p).rig = s.rig ∧
    (State.joinOp s p).coll = s.coll ∧
    (State.joinOp s p).photonics = s.photonics ∧
    (State.joinOp s p).messages = s.messages ∧
    (State.joinOp s p).package = s.package ∧
    (State.joinOp s p).clocks = s.clocks ∧
    (State.joinOp s p).thermal = s.thermal ∧
    (State.joinOp s p).boot = s.boot ∧
    (State.joinOp s p).dbg = s.dbg ∧
    (State.joinOp s p).freeCount = s.freeCount := by
  unfold State.joinOp
  try dsimp only
  (repeat' split) <;> simp_all -implicitDefEqProofs [↓prod_flip3, prod_flip]

@[simp] theorem State.leaveOp_kept (s : State) (p : Nat) :
    (State.leaveOp s p).pending = s.pending ∧
    (State.leaveOp s p).fuses = s.fuses ∧
    (State.leaveOp s p).shadows = s.shadows ∧
    (State.leaveOp s p).blobs = s.blobs ∧
    (State.leaveOp s p).blobShadows = s.blobShadows ∧
    (State.leaveOp s p).hubNeeds = s.hubNeeds ∧
    (State.leaveOp s p).commits = s.commits ∧
    (State.leaveOp s p).seeds = s.seeds ∧
    (State.leaveOp s p).load = s.load ∧
    (State.leaveOp s p).clusters = s.clusters ∧
    (State.leaveOp s p).ctxs = s.ctxs ∧
    (State.leaveOp s p).memory = s.memory ∧
    (State.leaveOp s p).rig = s.rig ∧
    (State.leaveOp s p).coll = s.coll ∧
    (State.leaveOp s p).photonics = s.photonics ∧
    (State.leaveOp s p).messages = s.messages ∧
    (State.leaveOp s p).package = s.package ∧
    (State.leaveOp s p).clocks = s.clocks ∧
    (State.leaveOp s p).thermal = s.thermal ∧
    (State.leaveOp s p).boot = s.boot ∧
    (State.leaveOp s p).dbg = s.dbg ∧
    (State.leaveOp s p).freeCount = s.freeCount := by
  unfold State.leaveOp
  try dsimp only
  (repeat' split) <;> simp_all -implicitDefEqProofs [↓prod_flip3, prod_flip]

@[simp] theorem State.correctCount_kept (s : State) (theta : Int) :
    (State.correctCount s theta).pending = s.pending ∧
    (State.correctCount s theta).fuses = s.fuses ∧
    (State.correctCount s theta).shadows = s.shadows ∧
    (State.correctCount s theta).blobs = s.blobs ∧
    (State.correctCount s theta).blobShadows = s.blobShadows ∧
    (State.correctCount s theta).hubNeeds = s.hubNeeds ∧
    (State.correctCount s theta).commits = s.commits ∧
    (State.correctCount s theta).seeds = s.seeds ∧
    (State.correctCount s theta).load = s.load ∧
    (State.correctCount s theta).clusters = s.clusters ∧
    (State.correctCount s theta).ctxs = s.ctxs ∧
    (State.correctCount s theta).memory = s.memory ∧
    (State.correctCount s theta).rig = s.rig ∧
    (State.correctCount s theta).coll = s.coll ∧
    (State.correctCount s theta).photonics = s.photonics ∧
    (State.correctCount s theta).domain = s.domain ∧
    (State.correctCount s theta).messages = s.messages ∧
    (State.correctCount s theta).package = s.package ∧
    (State.correctCount s theta).thermal = s.thermal ∧
    (State.correctCount s theta).control = s.control ∧
    (State.correctCount s theta).boot = s.boot ∧
    (State.correctCount s theta).dbg = s.dbg ∧
    (State.correctCount s theta).freeCount = s.freeCount := by
  unfold State.correctCount
  try dsimp only
  (repeat' split) <;> simp_all -implicitDefEqProofs [↓prod_flip3, prod_flip]

end Sys2Proof.Machine
end

