-- ==== Sys2Proof/Laws/FramesHub.lean ====
section
/-! SUPPORT. What each operation on State leaves unchanged (the hub, dies, guests, clocks and power): for every operation that answers a state, the fields that it
never writes, as equations for simp. -/

namespace Sys2Proof.Machine

set_option linter.unusedSimpArgs false
set_option linter.unnecessarySeqFocus false
set_option linter.unusedTactic false
set_option linter.unreachableTactic false
set_option maxRecDepth 4000

@[simp] theorem State.setDieState_kept (s : State) (d : Nat) (st : DieState) :
    (State.setDieState s d st).pending = s.pending ∧
    (State.setDieState s d st).fuses = s.fuses ∧
    (State.setDieState s d st).shadows = s.shadows ∧
    (State.setDieState s d st).blobs = s.blobs ∧
    (State.setDieState s d st).blobShadows = s.blobShadows ∧
    (State.setDieState s d st).hubNeeds = s.hubNeeds ∧
    (State.setDieState s d st).commits = s.commits ∧
    (State.setDieState s d st).seeds = s.seeds ∧
    (State.setDieState s d st).load = s.load ∧
    (State.setDieState s d st).clusters = s.clusters ∧
    (State.setDieState s d st).ctxs = s.ctxs ∧
    (State.setDieState s d st).memory = s.memory ∧
    (State.setDieState s d st).rig = s.rig ∧
    (State.setDieState s d st).coll = s.coll ∧
    (State.setDieState s d st).photonics = s.photonics ∧
    (State.setDieState s d st).domain = s.domain ∧
    (State.setDieState s d st).messages = s.messages ∧
    (State.setDieState s d st).clocks = s.clocks ∧
    (State.setDieState s d st).thermal = s.thermal ∧
    (State.setDieState s d st).boot = s.boot ∧
    (State.setDieState s d st).freeCount = s.freeCount := by
  unfold State.setDieState
  try dsimp only
  (repeat' split) <;> simp_all -implicitDefEqProofs [↓prod_flip3, prod_flip]

@[simp] theorem State.revokePass_kept (s : State) (g : Nat) (st : GuestState) :
    (State.revokePass s g st).pending = s.pending ∧
    (State.revokePass s g st).fuses = s.fuses ∧
    (State.revokePass s g st).shadows = s.shadows ∧
    (State.revokePass s g st).blobs = s.blobs ∧
    (State.revokePass s g st).blobShadows = s.blobShadows ∧
    (State.revokePass s g st).hubNeeds = s.hubNeeds ∧
    (State.revokePass s g st).commits = s.commits ∧
    (State.revokePass s g st).seeds = s.seeds ∧
    (State.revokePass s g st).load = s.load ∧
    (State.revokePass s g st).clusters = s.clusters ∧
    (State.revokePass s g st).ctxs = s.ctxs ∧
    (State.revokePass s g st).memory = s.memory ∧
    (State.revokePass s g st).coll = s.coll ∧
    (State.revokePass s g st).photonics = s.photonics ∧
    (State.revokePass s g st).messages = s.messages ∧
    (State.revokePass s g st).clocks = s.clocks ∧
    (State.revokePass s g st).thermal = s.thermal ∧
    (State.revokePass s g st).control = s.control ∧
    (State.revokePass s g st).boot = s.boot ∧
    (State.revokePass s g st).dbg = s.dbg ∧
    (State.revokePass s g st).freeCount = s.freeCount := by
  unfold State.revokePass
  try dsimp only
  (repeat' split) <;> simp_all -implicitDefEqProofs [↓prod_flip3, prod_flip]

@[simp] theorem State.revokeAll_kept (s : State) :
    (State.revokeAll s).pending = s.pending ∧
    (State.revokeAll s).fuses = s.fuses ∧
    (State.revokeAll s).shadows = s.shadows ∧
    (State.revokeAll s).blobs = s.blobs ∧
    (State.revokeAll s).blobShadows = s.blobShadows ∧
    (State.revokeAll s).hubNeeds = s.hubNeeds ∧
    (State.revokeAll s).commits = s.commits ∧
    (State.revokeAll s).seeds = s.seeds ∧
    (State.revokeAll s).load = s.load ∧
    (State.revokeAll s).clusters = s.clusters ∧
    (State.revokeAll s).ctxs = s.ctxs ∧
    (State.revokeAll s).memory = s.memory ∧
    (State.revokeAll s).coll = s.coll ∧
    (State.revokeAll s).photonics = s.photonics ∧
    (State.revokeAll s).messages = s.messages ∧
    (State.revokeAll s).clocks = s.clocks ∧
    (State.revokeAll s).thermal = s.thermal ∧
    (State.revokeAll s).control = s.control ∧
    (State.revokeAll s).boot = s.boot ∧
    (State.revokeAll s).dbg = s.dbg ∧
    (State.revokeAll s).freeCount = s.freeCount := by
  unfold State.revokeAll
  try dsimp only
  (repeat' split) <;> simp_all -implicitDefEqProofs [↓prod_flip3, prod_flip]

@[simp] theorem State.sendNotices_kept (s : State) :
    (State.sendNotices s).pending = s.pending ∧
    (State.sendNotices s).fuses = s.fuses ∧
    (State.sendNotices s).regs = s.regs ∧
    (State.sendNotices s).shadows = s.shadows ∧
    (State.sendNotices s).blobs = s.blobs ∧
    (State.sendNotices s).blobShadows = s.blobShadows ∧
    (State.sendNotices s).hubNeeds = s.hubNeeds ∧
    (State.sendNotices s).commits = s.commits ∧
    (State.sendNotices s).seeds = s.seeds ∧
    (State.sendNotices s).load = s.load ∧
    (State.sendNotices s).clusters = s.clusters ∧
    (State.sendNotices s).ctxs = s.ctxs ∧
    (State.sendNotices s).memory = s.memory ∧
    (State.sendNotices s).rig = s.rig ∧
    (State.sendNotices s).coll = s.coll ∧
    (State.sendNotices s).photonics = s.photonics ∧
    (State.sendNotices s).messages = s.messages ∧
    (State.sendNotices s).package = s.package ∧
    (State.sendNotices s).clocks = s.clocks ∧
    (State.sendNotices s).thermal = s.thermal ∧
    (State.sendNotices s).boot = s.boot ∧
    (State.sendNotices s).dbg = s.dbg ∧
    (State.sendNotices s).freeCount = s.freeCount := by
  unfold State.sendNotices
  try dsimp only
  (repeat' split) <;> simp_all -implicitDefEqProofs [↓prod_flip3, prod_flip]

@[simp] theorem State.hubHalts_kept (s : State) :
    (State.hubHalts s).pending = s.pending ∧
    (State.hubHalts s).fuses = s.fuses ∧
    (State.hubHalts s).shadows = s.shadows ∧
    (State.hubHalts s).blobs = s.blobs ∧
    (State.hubHalts s).blobShadows = s.blobShadows ∧
    (State.hubHalts s).hubNeeds = s.hubNeeds ∧
    (State.hubHalts s).commits = s.commits ∧
    (State.hubHalts s).seeds = s.seeds ∧
    (State.hubHalts s).load = s.load ∧
    (State.hubHalts s).clusters = s.clusters ∧
    (State.hubHalts s).ctxs = s.ctxs ∧
    (State.hubHalts s).memory = s.memory ∧
    (State.hubHalts s).coll = s.coll ∧
    (State.hubHalts s).photonics = s.photonics ∧
    (State.hubHalts s).messages = s.messages ∧
    (State.hubHalts s).clocks = s.clocks ∧
    (State.hubHalts s).thermal = s.thermal ∧
    (State.hubHalts s).dbg = s.dbg ∧
    (State.hubHalts s).freeCount = s.freeCount := by
  unfold State.hubHalts
  try dsimp only
  (repeat' split) <;> simp_all -implicitDefEqProofs [↓prod_flip3, prod_flip]

@[simp] theorem State.rigLoss_kept (s : State) :
    (State.rigLoss s).pending = s.pending ∧
    (State.rigLoss s).fuses = s.fuses ∧
    (State.rigLoss s).freeCount = s.freeCount := by
  unfold State.rigLoss
  try dsimp only
  (repeat' split) <;> simp_all -implicitDefEqProofs [↓prod_flip3, prod_flip]

@[simp] theorem State.setComplex_kept (s : State) (k : Nat) (st : ComplexState) :
    (State.setComplex s k st).pending = s.pending ∧
    (State.setComplex s k st).fuses = s.fuses ∧
    (State.setComplex s k st).regs = s.regs ∧
    (State.setComplex s k st).shadows = s.shadows ∧
    (State.setComplex s k st).blobs = s.blobs ∧
    (State.setComplex s k st).blobShadows = s.blobShadows ∧
    (State.setComplex s k st).hubNeeds = s.hubNeeds ∧
    (State.setComplex s k st).commits = s.commits ∧
    (State.setComplex s k st).seeds = s.seeds ∧
    (State.setComplex s k st).load = s.load ∧
    (State.setComplex s k st).clusters = s.clusters ∧
    (State.setComplex s k st).ctxs = s.ctxs ∧
    (State.setComplex s k st).memory = s.memory ∧
    (State.setComplex s k st).rig = s.rig ∧
    (State.setComplex s k st).coll = s.coll ∧
    (State.setComplex s k st).photonics = s.photonics ∧
    (State.setComplex s k st).domain = s.domain ∧
    (State.setComplex s k st).messages = s.messages ∧
    (State.setComplex s k st).package = s.package ∧
    (State.setComplex s k st).clocks = s.clocks ∧
    (State.setComplex s k st).thermal = s.thermal ∧
    (State.setComplex s k st).boot = s.boot ∧
    (State.setComplex s k st).dbg = s.dbg ∧
    (State.setComplex s k st).freeCount = s.freeCount := by
  unfold State.setComplex
  try dsimp only
  (repeat' split) <;> simp_all -implicitDefEqProofs [↓prod_flip3, prod_flip]

@[simp] theorem State.release_kept (s : State) :
    (State.release s).pending = s.pending ∧
    (State.release s).fuses = s.fuses ∧
    (State.release s).regs = s.regs ∧
    (State.release s).shadows = s.shadows ∧
    (State.release s).blobs = s.blobs ∧
    (State.release s).blobShadows = s.blobShadows ∧
    (State.release s).hubNeeds = s.hubNeeds ∧
    (State.release s).commits = s.commits ∧
    (State.release s).seeds = s.seeds ∧
    (State.release s).load = s.load ∧
    (State.release s).clusters = s.clusters ∧
    (State.release s).ctxs = s.ctxs ∧
    (State.release s).memory = s.memory ∧
    (State.release s).rig = s.rig ∧
    (State.release s).coll = s.coll ∧
    (State.release s).photonics = s.photonics ∧
    (State.release s).domain = s.domain ∧
    (State.release s).messages = s.messages ∧
    (State.release s).package = s.package ∧
    (State.release s).clocks = s.clocks ∧
    (State.release s).thermal = s.thermal ∧
    (State.release s).boot = s.boot ∧
    (State.release s).dbg = s.dbg ∧
    (State.release s).freeCount = s.freeCount := by
  unfold State.release
  try dsimp only
  (repeat' split) <;> simp_all -implicitDefEqProofs [↓prod_flip3, prod_flip]

@[simp] theorem State.takeOver_kept (s : State) (b : Nat) (reason : Nat) :
    (State.takeOver s b reason).pending = s.pending ∧
    (State.takeOver s b reason).fuses = s.fuses ∧
    (State.takeOver s b reason).shadows = s.shadows ∧
    (State.takeOver s b reason).blobs = s.blobs ∧
    (State.takeOver s b reason).blobShadows = s.blobShadows ∧
    (State.takeOver s b reason).hubNeeds = s.hubNeeds ∧
    (State.takeOver s b reason).commits = s.commits ∧
    (State.takeOver s b reason).seeds = s.seeds ∧
    (State.takeOver s b reason).load = s.load ∧
    (State.takeOver s b reason).clusters = s.clusters ∧
    (State.takeOver s b reason).ctxs = s.ctxs ∧
    (State.takeOver s b reason).memory = s.memory ∧
    (State.takeOver s b reason).rig = s.rig ∧
    (State.takeOver s b reason).coll = s.coll ∧
    (State.takeOver s b reason).photonics = s.photonics ∧
    (State.takeOver s b reason).domain = s.domain ∧
    (State.takeOver s b reason).messages = s.messages ∧
    (State.takeOver s b reason).clocks = s.clocks ∧
    (State.takeOver s b reason).thermal = s.thermal ∧
    (State.takeOver s b reason).boot = s.boot := by
  unfold State.takeOver
  try dsimp only
  (repeat' split) <;> simp_all -implicitDefEqProofs [↓prod_flip3, prod_flip]

@[simp] theorem State.activeFails_kept (s : State) (reason : Nat) :
    (State.activeFails s reason).pending = s.pending ∧
    (State.activeFails s reason).fuses = s.fuses ∧
    (State.activeFails s reason).shadows = s.shadows ∧
    (State.activeFails s reason).blobs = s.blobs ∧
    (State.activeFails s reason).blobShadows = s.blobShadows ∧
    (State.activeFails s reason).hubNeeds = s.hubNeeds ∧
    (State.activeFails s reason).commits = s.commits ∧
    (State.activeFails s reason).seeds = s.seeds ∧
    (State.activeFails s reason).load = s.load ∧
    (State.activeFails s reason).clusters = s.clusters ∧
    (State.activeFails s reason).ctxs = s.ctxs ∧
    (State.activeFails s reason).memory = s.memory ∧
    (State.activeFails s reason).coll = s.coll ∧
    (State.activeFails s reason).photonics = s.photonics ∧
    (State.activeFails s reason).messages = s.messages ∧
    (State.activeFails s reason).clocks = s.clocks ∧
    (State.activeFails s reason).thermal = s.thermal := by
  unfold State.activeFails
  try dsimp only
  (repeat' split) <;> simp_all -implicitDefEqProofs [↓prod_flip3, prod_flip]

@[simp] theorem State.startResync_kept (s : State) (k : Nat) :
    (State.startResync s k).pending = s.pending ∧
    (State.startResync s k).fuses = s.fuses ∧
    (State.startResync s k).regs = s.regs ∧
    (State.startResync s k).shadows = s.shadows ∧
    (State.startResync s k).blobs = s.blobs ∧
    (State.startResync s k).blobShadows = s.blobShadows ∧
    (State.startResync s k).hubNeeds = s.hubNeeds ∧
    (State.startResync s k).commits = s.commits ∧
    (State.startResync s k).seeds = s.seeds ∧
    (State.startResync s k).load = s.load ∧
    (State.startResync s k).clusters = s.clusters ∧
    (State.startResync s k).ctxs = s.ctxs ∧
    (State.startResync s k).memory = s.memory ∧
    (State.startResync s k).rig = s.rig ∧
    (State.startResync s k).coll = s.coll ∧
    (State.startResync s k).photonics = s.photonics ∧
    (State.startResync s k).domain = s.domain ∧
    (State.startResync s k).messages = s.messages ∧
    (State.startResync s k).package = s.package ∧
    (State.startResync s k).clocks = s.clocks ∧
    (State.startResync s k).thermal = s.thermal ∧
    (State.startResync s k).boot = s.boot ∧
    (State.startResync s k).dbg = s.dbg ∧
    (State.startResync s k).freeCount = s.freeCount := by
  unfold State.startResync
  try dsimp only
  (repeat' split) <;> simp_all -implicitDefEqProofs [↓prod_flip3, prod_flip]

@[simp] theorem State.resyncEnded_kept (s : State) (k : Nat) (st : ComplexState) :
    (State.resyncEnded s k st).pending = s.pending ∧
    (State.resyncEnded s k st).fuses = s.fuses ∧
    (State.resyncEnded s k st).shadows = s.shadows ∧
    (State.resyncEnded s k st).blobs = s.blobs ∧
    (State.resyncEnded s k st).blobShadows = s.blobShadows ∧
    (State.resyncEnded s k st).hubNeeds = s.hubNeeds ∧
    (State.resyncEnded s k st).commits = s.commits ∧
    (State.resyncEnded s k st).seeds = s.seeds ∧
    (State.resyncEnded s k st).load = s.load ∧
    (State.resyncEnded s k st).clusters = s.clusters ∧
    (State.resyncEnded s k st).ctxs = s.ctxs ∧
    (State.resyncEnded s k st).memory = s.memory ∧
    (State.resyncEnded s k st).rig = s.rig ∧
    (State.resyncEnded s k st).coll = s.coll ∧
    (State.resyncEnded s k st).photonics = s.photonics ∧
    (State.resyncEnded s k st).domain = s.domain ∧
    (State.resyncEnded s k st).messages = s.messages ∧
    (State.resyncEnded s k st).package = s.package ∧
    (State.resyncEnded s k st).clocks = s.clocks ∧
    (State.resyncEnded s k st).thermal = s.thermal ∧
    (State.resyncEnded s k st).boot = s.boot ∧
    (State.resyncEnded s k st).freeCount = s.freeCount := by
  unfold State.resyncEnded
  try dsimp only
  (repeat' split) <;> simp_all -implicitDefEqProofs [↓prod_flip3, prod_flip]

@[simp] theorem State.complexAction_kept (s : State) (value : Nat) :
    (State.complexAction s value).pending = s.pending ∧
    (State.complexAction s value).fuses = s.fuses ∧
    (State.complexAction s value).shadows = s.shadows ∧
    (State.complexAction s value).blobs = s.blobs ∧
    (State.complexAction s value).blobShadows = s.blobShadows ∧
    (State.complexAction s value).hubNeeds = s.hubNeeds ∧
    (State.complexAction s value).commits = s.commits ∧
    (State.complexAction s value).seeds = s.seeds ∧
    (State.complexAction s value).load = s.load ∧
    (State.complexAction s value).clusters = s.clusters ∧
    (State.complexAction s value).ctxs = s.ctxs ∧
    (State.complexAction s value).memory = s.memory ∧
    (State.complexAction s value).rig = s.rig ∧
    (State.complexAction s value).coll = s.coll ∧
    (State.complexAction s value).photonics = s.photonics ∧
    (State.complexAction s value).domain = s.domain ∧
    (State.complexAction s value).messages = s.messages ∧
    (State.complexAction s value).package = s.package ∧
    (State.complexAction s value).clocks = s.clocks ∧
    (State.complexAction s value).thermal = s.thermal ∧
    (State.complexAction s value).boot = s.boot ∧
    (State.complexAction s value).dbg = s.dbg ∧
    (State.complexAction s value).freeCount = s.freeCount := by
  unfold State.complexAction
  try dsimp only
  (repeat' split) <;> simp_all -implicitDefEqProofs [↓prod_flip3, prod_flip]

@[simp] theorem State.controlCommitOp_kept (s : State) (value : Nat) :
    (State.controlCommitOp s value).2.pending = s.pending ∧
    (State.controlCommitOp s value).2.fuses = s.fuses ∧
    (State.controlCommitOp s value).2.shadows = s.shadows ∧
    (State.controlCommitOp s value).2.blobs = s.blobs ∧
    (State.controlCommitOp s value).2.blobShadows = s.blobShadows ∧
    (State.controlCommitOp s value).2.hubNeeds = s.hubNeeds ∧
    (State.controlCommitOp s value).2.commits = s.commits ∧
    (State.controlCommitOp s value).2.seeds = s.seeds ∧
    (State.controlCommitOp s value).2.load = s.load ∧
    (State.controlCommitOp s value).2.clusters = s.clusters ∧
    (State.controlCommitOp s value).2.ctxs = s.ctxs ∧
    (State.controlCommitOp s value).2.memory = s.memory ∧
    (State.controlCommitOp s value).2.rig = s.rig ∧
    (State.controlCommitOp s value).2.coll = s.coll ∧
    (State.controlCommitOp s value).2.photonics = s.photonics ∧
    (State.controlCommitOp s value).2.domain = s.domain ∧
    (State.controlCommitOp s value).2.messages = s.messages ∧
    (State.controlCommitOp s value).2.package = s.package ∧
    (State.controlCommitOp s value).2.clocks = s.clocks ∧
    (State.controlCommitOp s value).2.thermal = s.thermal ∧
    (State.controlCommitOp s value).2.boot = s.boot ∧
    (State.controlCommitOp s value).2.dbg = s.dbg ∧
    (State.controlCommitOp s value).2.freeCount = s.freeCount := by
  unfold State.controlCommitOp
  try dsimp only
  (repeat' split) <;> simp_all -implicitDefEqProofs [↓prod_flip3, prod_flip]

@[simp] theorem State.accessFault_kept (s : State) (a : Access) (code : Nat) :
    (State.accessFault s a code).pending = s.pending ∧
    (State.accessFault s a code).fuses = s.fuses ∧
    (State.accessFault s a code).shadows = s.shadows ∧
    (State.accessFault s a code).blobs = s.blobs ∧
    (State.accessFault s a code).blobShadows = s.blobShadows ∧
    (State.accessFault s a code).hubNeeds = s.hubNeeds ∧
    (State.accessFault s a code).seeds = s.seeds ∧
    (State.accessFault s a code).load = s.load ∧
    (State.accessFault s a code).clusters = s.clusters ∧
    (State.accessFault s a code).memory = s.memory ∧
    (State.accessFault s a code).rig = s.rig ∧
    (State.accessFault s a code).photonics = s.photonics ∧
    (State.accessFault s a code).domain = s.domain ∧
    (State.accessFault s a code).messages = s.messages ∧
    (State.accessFault s a code).package = s.package ∧
    (State.accessFault s a code).clocks = s.clocks ∧
    (State.accessFault s a code).thermal = s.thermal ∧
    (State.accessFault s a code).boot = s.boot ∧
    (State.accessFault s a code).freeCount = s.freeCount := by
  unfold State.accessFault
  try dsimp only
  (repeat' split) <;> simp_all -implicitDefEqProofs [↓prod_flip3, prod_flip]

@[simp] theorem State.disturb_kept (s : State) (w : Nat) (p : ErrorPattern) :
    (State.disturb s w p).pending = s.pending ∧
    (State.disturb s w p).fuses = s.fuses ∧
    (State.disturb s w p).regs = s.regs ∧
    (State.disturb s w p).shadows = s.shadows ∧
    (State.disturb s w p).blobs = s.blobs ∧
    (State.disturb s w p).blobShadows = s.blobShadows ∧
    (State.disturb s w p).hubNeeds = s.hubNeeds ∧
    (State.disturb s w p).commits = s.commits ∧
    (State.disturb s w p).seeds = s.seeds ∧
    (State.disturb s w p).load = s.load ∧
    (State.disturb s w p).clusters = s.clusters ∧
    (State.disturb s w p).ctxs = s.ctxs ∧
    (State.disturb s w p).rig = s.rig ∧
    (State.disturb s w p).coll = s.coll ∧
    (State.disturb s w p).photonics = s.photonics ∧
    (State.disturb s w p).domain = s.domain ∧
    (State.disturb s w p).messages = s.messages ∧
    (State.disturb s w p).package = s.package ∧
    (State.disturb s w p).clocks = s.clocks ∧
    (State.disturb s w p).thermal = s.thermal ∧
    (State.disturb s w p).control = s.control ∧
    (State.disturb s w p).boot = s.boot ∧
    (State.disturb s w p).dbg = s.dbg ∧
    (State.disturb s w p).freeCount = s.freeCount := by
  unfold State.disturb
  try dsimp only
  (repeat' split) <;> simp_all -implicitDefEqProofs [↓prod_flip3, prod_flip]

@[simp] theorem State.markLine_kept (s : State) (t : Nat) (l : Nat) :
    (State.markLine s t l).pending = s.pending ∧
    (State.markLine s t l).fuses = s.fuses ∧
    (State.markLine s t l).shadows = s.shadows ∧
    (State.markLine s t l).blobs = s.blobs ∧
    (State.markLine s t l).blobShadows = s.blobShadows ∧
    (State.markLine s t l).hubNeeds = s.hubNeeds ∧
    (State.markLine s t l).commits = s.commits ∧
    (State.markLine s t l).seeds = s.seeds ∧
    (State.markLine s t l).load = s.load ∧
    (State.markLine s t l).clusters = s.clusters ∧
    (State.markLine s t l).ctxs = s.ctxs ∧
    (State.markLine s t l).rig = s.rig ∧
    (State.markLine s t l).coll = s.coll ∧
    (State.markLine s t l).photonics = s.photonics ∧
    (State.markLine s t l).domain = s.domain ∧
    (State.markLine s t l).messages = s.messages ∧
    (State.markLine s t l).package = s.package ∧
    (State.markLine s t l).clocks = s.clocks ∧
    (State.markLine s t l).thermal = s.thermal ∧
    (State.markLine s t l).control = s.control ∧
    (State.markLine s t l).boot = s.boot ∧
    (State.markLine s t l).dbg = s.dbg ∧
    (State.markLine s t l).freeCount = s.freeCount := by
  unfold State.markLine
  try dsimp only
  (repeat' split) <;> simp_all -implicitDefEqProofs [↓prod_flip3, prod_flip]

@[simp] theorem State.tagsLost_kept (s : State) (t : Nat) (h : Nat) (j : Nat) (p : ErrorPattern) :
    (State.tagsLost s t h j p).pending = s.pending ∧
    (State.tagsLost s t h j p).fuses = s.fuses ∧
    (State.tagsLost s t h j p).shadows = s.shadows ∧
    (State.tagsLost s t h j p).blobShadows = s.blobShadows ∧
    (State.tagsLost s t h j p).hubNeeds = s.hubNeeds ∧
    (State.tagsLost s t h j p).commits = s.commits ∧
    (State.tagsLost s t h j p).seeds = s.seeds ∧
    (State.tagsLost s t h j p).load = s.load ∧
    (State.tagsLost s t h j p).clusters = s.clusters ∧
    (State.tagsLost s t h j p).ctxs = s.ctxs ∧
    (State.tagsLost s t h j p).rig = s.rig ∧
    (State.tagsLost s t h j p).coll = s.coll ∧
    (State.tagsLost s t h j p).photonics = s.photonics ∧
    (State.tagsLost s t h j p).domain = s.domain ∧
    (State.tagsLost s t h j p).messages = s.messages ∧
    (State.tagsLost s t h j p).package = s.package ∧
    (State.tagsLost s t h j p).clocks = s.clocks ∧
    (State.tagsLost s t h j p).thermal = s.thermal ∧
    (State.tagsLost s t h j p).boot = s.boot ∧
    (State.tagsLost s t h j p).freeCount = s.freeCount := by
  unfold State.tagsLost
  try dsimp only
  (repeat' split) <;> simp_all -implicitDefEqProofs [↓prod_flip3, prod_flip]

@[simp] theorem State.badTags_kept (s : State) (a : Access) :
    (State.badTags s a).pending = s.pending ∧
    (State.badTags s a).fuses = s.fuses ∧
    (State.badTags s a).shadows = s.shadows ∧
    (State.badTags s a).blobShadows = s.blobShadows ∧
    (State.badTags s a).hubNeeds = s.hubNeeds ∧
    (State.badTags s a).commits = s.commits ∧
    (State.badTags s a).seeds = s.seeds ∧
    (State.badTags s a).load = s.load ∧
    (State.badTags s a).clusters = s.clusters ∧
    (State.badTags s a).ctxs = s.ctxs ∧
    (State.badTags s a).rig = s.rig ∧
    (State.badTags s a).coll = s.coll ∧
    (State.badTags s a).photonics = s.photonics ∧
    (State.badTags s a).domain = s.domain ∧
    (State.badTags s a).messages = s.messages ∧
    (State.badTags s a).package = s.package ∧
    (State.badTags s a).clocks = s.clocks ∧
    (State.badTags s a).thermal = s.thermal ∧
    (State.badTags s a).boot = s.boot ∧
    (State.badTags s a).freeCount = s.freeCount := by
  unfold State.badTags
  try dsimp only
  (repeat' split) <;> simp_all -implicitDefEqProofs [↓prod_flip3, prod_flip]

@[simp] theorem State.performAccess_kept (s : State) (a : Access) :
    (State.performAccess s a).pending = s.pending ∧
    (State.performAccess s a).fuses = s.fuses ∧
    (State.performAccess s a).shadows = s.shadows ∧
    (State.performAccess s a).blobShadows = s.blobShadows ∧
    (State.performAccess s a).hubNeeds = s.hubNeeds ∧
    (State.performAccess s a).seeds = s.seeds ∧
    (State.performAccess s a).load = s.load ∧
    (State.performAccess s a).rig = s.rig ∧
    (State.performAccess s a).photonics = s.photonics ∧
    (State.performAccess s a).domain = s.domain ∧
    (State.performAccess s a).messages = s.messages ∧
    (State.performAccess s a).package = s.package ∧
    (State.performAccess s a).clocks = s.clocks ∧
    (State.performAccess s a).thermal = s.thermal ∧
    (State.performAccess s a).boot = s.boot := by
  generalize ht : State.performAccess s a = t
  unfold State.performAccess at ht
  try dsimp only at ht
  (repeat' split at ht) <;> (subst ht; simp_all -implicitDefEqProofs [↓prod_flip3, prod_flip])

@[simp] theorem State.writeStoredBack_kept (s : State) (word : Nat) :
    (State.writeStoredBack s word).pending = s.pending ∧
    (State.writeStoredBack s word).fuses = s.fuses ∧
    (State.writeStoredBack s word).regs = s.regs ∧
    (State.writeStoredBack s word).shadows = s.shadows ∧
    (State.writeStoredBack s word).blobs = s.blobs ∧
    (State.writeStoredBack s word).blobShadows = s.blobShadows ∧
    (State.writeStoredBack s word).hubNeeds = s.hubNeeds ∧
    (State.writeStoredBack s word).commits = s.commits ∧
    (State.writeStoredBack s word).seeds = s.seeds ∧
    (State.writeStoredBack s word).load = s.load ∧
    (State.writeStoredBack s word).clusters = s.clusters ∧
    (State.writeStoredBack s word).ctxs = s.ctxs ∧
    (State.writeStoredBack s word).rig = s.rig ∧
    (State.writeStoredBack s word).coll = s.coll ∧
    (State.writeStoredBack s word).photonics = s.photonics ∧
    (State.writeStoredBack s word).domain = s.domain ∧
    (State.writeStoredBack s word).messages = s.messages ∧
    (State.writeStoredBack s word).package = s.package ∧
    (State.writeStoredBack s word).clocks = s.clocks ∧
    (State.writeStoredBack s word).thermal = s.thermal ∧
    (State.writeStoredBack s word).control = s.control ∧
    (State.writeStoredBack s word).boot = s.boot ∧
    (State.writeStoredBack s word).dbg = s.dbg ∧
    (State.writeStoredBack s word).freeCount = s.freeCount := by
  unfold State.writeStoredBack
  try dsimp only
  (repeat' split) <;> simp_all -implicitDefEqProofs [↓prod_flip3, prod_flip]

@[simp] theorem State.writeResidentBack_kept (s : State) (word : Nat) :
    (State.writeResidentBack s word).pending = s.pending ∧
    (State.writeResidentBack s word).fuses = s.fuses ∧
    (State.writeResidentBack s word).regs = s.regs ∧
    (State.writeResidentBack s word).shadows = s.shadows ∧
    (State.writeResidentBack s word).blobs = s.blobs ∧
    (State.writeResidentBack s word).blobShadows = s.blobShadows ∧
    (State.writeResidentBack s word).hubNeeds = s.hubNeeds ∧
    (State.writeResidentBack s word).commits = s.commits ∧
    (State.writeResidentBack s word).seeds = s.seeds ∧
    (State.writeResidentBack s word).load = s.load ∧
    (State.writeResidentBack s word).clusters = s.clusters ∧
    (State.writeResidentBack s word).ctxs = s.ctxs ∧
    (State.writeResidentBack s word).rig = s.rig ∧
    (State.writeResidentBack s word).coll = s.coll ∧
    (State.writeResidentBack s word).photonics = s.photonics ∧
    (State.writeResidentBack s word).domain = s.domain ∧
    (State.writeResidentBack s word).messages = s.messages ∧
    (State.writeResidentBack s word).package = s.package ∧
    (State.writeResidentBack s word).clocks = s.clocks ∧
    (State.writeResidentBack s word).thermal = s.thermal ∧
    (State.writeResidentBack s word).control = s.control ∧
    (State.writeResidentBack s word).boot = s.boot ∧
    (State.writeResidentBack s word).dbg = s.dbg ∧
    (State.writeResidentBack s word).freeCount = s.freeCount := by
  unfold State.writeResidentBack
  try dsimp only
  (repeat' split) <;> simp_all -implicitDefEqProofs [↓prod_flip3, prod_flip]

@[simp] theorem State.scrubResident_kept (s : State) (t : Nat) (l : Nat) (w : Nat) :
    (State.scrubResident s t l w).pending = s.pending ∧
    (State.scrubResident s t l w).fuses = s.fuses ∧
    (State.scrubResident s t l w).shadows = s.shadows ∧
    (State.scrubResident s t l w).blobShadows = s.blobShadows ∧
    (State.scrubResident s t l w).hubNeeds = s.hubNeeds ∧
    (State.scrubResident s t l w).commits = s.commits ∧
    (State.scrubResident s t l w).seeds = s.seeds ∧
    (State.scrubResident s t l w).load = s.load ∧
    (State.scrubResident s t l w).ctxs = s.ctxs ∧
    (State.scrubResident s t l w).rig = s.rig ∧
    (State.scrubResident s t l w).coll = s.coll ∧
    (State.scrubResident s t l w).photonics = s.photonics ∧
    (State.scrubResident s t l w).domain = s.domain ∧
    (State.scrubResident s t l w).messages = s.messages ∧
    (State.scrubResident s t l w).package = s.package ∧
    (State.scrubResident s t l w).clocks = s.clocks ∧
    (State.scrubResident s t l w).thermal = s.thermal ∧
    (State.scrubResident s t l w).boot = s.boot ∧
    (State.scrubResident s t l w).freeCount = s.freeCount := by
  unfold State.scrubResident State.scrubWord
  try dsimp only
  (repeat' split) <;> simp_all -implicitDefEqProofs [↓prod_flip3, prod_flip]

@[simp] theorem State.memoryCommit_kept (s : State) (value : Nat) :
    (State.memoryCommit s value).2.pending = s.pending ∧
    (State.memoryCommit s value).2.fuses = s.fuses ∧
    (State.memoryCommit s value).2.shadows = s.shadows ∧
    (State.memoryCommit s value).2.blobs = s.blobs ∧
    (State.memoryCommit s value).2.blobShadows = s.blobShadows ∧
    (State.memoryCommit s value).2.hubNeeds = s.hubNeeds ∧
    (State.memoryCommit s value).2.seeds = s.seeds ∧
    (State.memoryCommit s value).2.load = s.load ∧
    (State.memoryCommit s value).2.clusters = s.clusters ∧
    (State.memoryCommit s value).2.ctxs = s.ctxs ∧
    (State.memoryCommit s value).2.rig = s.rig ∧
    (State.memoryCommit s value).2.coll = s.coll ∧
    (State.memoryCommit s value).2.photonics = s.photonics ∧
    (State.memoryCommit s value).2.domain = s.domain ∧
    (State.memoryCommit s value).2.messages = s.messages ∧
    (State.memoryCommit s value).2.package = s.package ∧
    (State.memoryCommit s value).2.clocks = s.clocks ∧
    (State.memoryCommit s value).2.thermal = s.thermal ∧
    (State.memoryCommit s value).2.control = s.control ∧
    (State.memoryCommit s value).2.boot = s.boot ∧
    (State.memoryCommit s value).2.dbg = s.dbg ∧
    (State.memoryCommit s value).2.freeCount = s.freeCount := by
  unfold State.memoryCommit
  try dsimp only
  (repeat' split) <;> simp_all -implicitDefEqProofs [↓prod_flip3, prod_flip]

@[simp] theorem State.writeBackWay_kept (s : State) (t : Nat) (w : Option (Nat × Bool)) :
    (State.writeBackWay s t w).pending = s.pending ∧
    (State.writeBackWay s t w).fuses = s.fuses ∧
    (State.writeBackWay s t w).shadows = s.shadows ∧
    (State.writeBackWay s t w).blobShadows = s.blobShadows ∧
    (State.writeBackWay s t w).hubNeeds = s.hubNeeds ∧
    (State.writeBackWay s t w).commits = s.commits ∧
    (State.writeBackWay s t w).seeds = s.seeds ∧
    (State.writeBackWay s t w).load = s.load ∧
    (State.writeBackWay s t w).clusters = s.clusters ∧
    (State.writeBackWay s t w).ctxs = s.ctxs ∧
    (State.writeBackWay s t w).rig = s.rig ∧
    (State.writeBackWay s t w).coll = s.coll ∧
    (State.writeBackWay s t w).photonics = s.photonics ∧
    (State.writeBackWay s t w).domain = s.domain ∧
    (State.writeBackWay s t w).messages = s.messages ∧
    (State.writeBackWay s t w).package = s.package ∧
    (State.writeBackWay s t w).clocks = s.clocks ∧
    (State.writeBackWay s t w).thermal = s.thermal ∧
    (State.writeBackWay s t w).boot = s.boot ∧
    (State.writeBackWay s t w).freeCount = s.freeCount := by
  unfold State.writeBackWay
  try dsimp only
  (repeat' split) <;> simp_all -implicitDefEqProofs [↓prod_flip3, prod_flip]

@[simp] theorem State.writeBackSet_kept (s : State) (t : Nat) (k : Nat) (c : CacheSet) :
    (State.writeBackSet s t k c).pending = s.pending ∧
    (State.writeBackSet s t k c).fuses = s.fuses ∧
    (State.writeBackSet s t k c).shadows = s.shadows ∧
    (State.writeBackSet s t k c).blobShadows = s.blobShadows ∧
    (State.writeBackSet s t k c).hubNeeds = s.hubNeeds ∧
    (State.writeBackSet s t k c).commits = s.commits ∧
    (State.writeBackSet s t k c).seeds = s.seeds ∧
    (State.writeBackSet s t k c).load = s.load ∧
    (State.writeBackSet s t k c).clusters = s.clusters ∧
    (State.writeBackSet s t k c).ctxs = s.ctxs ∧
    (State.writeBackSet s t k c).rig = s.rig ∧
    (State.writeBackSet s t k c).coll = s.coll ∧
    (State.writeBackSet s t k c).photonics = s.photonics ∧
    (State.writeBackSet s t k c).domain = s.domain ∧
    (State.writeBackSet s t k c).messages = s.messages ∧
    (State.writeBackSet s t k c).package = s.package ∧
    (State.writeBackSet s t k c).clocks = s.clocks ∧
    (State.writeBackSet s t k c).thermal = s.thermal ∧
    (State.writeBackSet s t k c).boot = s.boot ∧
    (State.writeBackSet s t k c).freeCount = s.freeCount := by
  unfold State.writeBackSet
  try dsimp only
  (repeat' split) <;> simp_all -implicitDefEqProofs [↓prod_flip3, prod_flip]

@[simp] theorem State.writeBackAll_kept (s : State) (t : Nat) :
    (State.writeBackAll s t).pending = s.pending ∧
    (State.writeBackAll s t).fuses = s.fuses ∧
    (State.writeBackAll s t).shadows = s.shadows ∧
    (State.writeBackAll s t).blobShadows = s.blobShadows ∧
    (State.writeBackAll s t).hubNeeds = s.hubNeeds ∧
    (State.writeBackAll s t).commits = s.commits ∧
    (State.writeBackAll s t).seeds = s.seeds ∧
    (State.writeBackAll s t).load = s.load ∧
    (State.writeBackAll s t).clusters = s.clusters ∧
    (State.writeBackAll s t).ctxs = s.ctxs ∧
    (State.writeBackAll s t).rig = s.rig ∧
    (State.writeBackAll s t).coll = s.coll ∧
    (State.writeBackAll s t).photonics = s.photonics ∧
    (State.writeBackAll s t).domain = s.domain ∧
    (State.writeBackAll s t).messages = s.messages ∧
    (State.writeBackAll s t).package = s.package ∧
    (State.writeBackAll s t).clocks = s.clocks ∧
    (State.writeBackAll s t).thermal = s.thermal ∧
    (State.writeBackAll s t).boot = s.boot ∧
    (State.writeBackAll s t).freeCount = s.freeCount := by
  unfold State.writeBackAll
  try dsimp only
  (repeat' split) <;> simp_all -implicitDefEqProofs [↓prod_flip3, prod_flip]

@[simp] theorem State.invalidateTags_kept (s : State) (t : Nat) :
    (State.invalidateTags s t).pending = s.pending ∧
    (State.invalidateTags s t).fuses = s.fuses ∧
    (State.invalidateTags s t).regs = s.regs ∧
    (State.invalidateTags s t).shadows = s.shadows ∧
    (State.invalidateTags s t).blobs = s.blobs ∧
    (State.invalidateTags s t).blobShadows = s.blobShadows ∧
    (State.invalidateTags s t).hubNeeds = s.hubNeeds ∧
    (State.invalidateTags s t).commits = s.commits ∧
    (State.invalidateTags s t).seeds = s.seeds ∧
    (State.invalidateTags s t).load = s.load ∧
    (State.invalidateTags s t).clusters = s.clusters ∧
    (State.invalidateTags s t).ctxs = s.ctxs ∧
    (State.invalidateTags s t).rig = s.rig ∧
    (State.invalidateTags s t).coll = s.coll ∧
    (State.invalidateTags s t).photonics = s.photonics ∧
    (State.invalidateTags s t).domain = s.domain ∧
    (State.invalidateTags s t).messages = s.messages ∧
    (State.invalidateTags s t).package = s.package ∧
    (State.invalidateTags s t).clocks = s.clocks ∧
    (State.invalidateTags s t).thermal = s.thermal ∧
    (State.invalidateTags s t).control = s.control ∧
    (State.invalidateTags s t).boot = s.boot ∧
    (State.invalidateTags s t).dbg = s.dbg ∧
    (State.invalidateTags s t).freeCount = s.freeCount := by
  unfold State.invalidateTags
  try dsimp only
  (repeat' split) <;> simp_all -implicitDefEqProofs [↓prod_flip3, prod_flip]

@[simp] theorem State.performStalled_kept (s : State) (x1 : List Access) :
    (State.performStalled s x1).pending = s.pending ∧
    (State.performStalled s x1).fuses = s.fuses ∧
    (State.performStalled s x1).shadows = s.shadows ∧
    (State.performStalled s x1).blobShadows = s.blobShadows ∧
    (State.performStalled s x1).hubNeeds = s.hubNeeds ∧
    (State.performStalled s x1).seeds = s.seeds ∧
    (State.performStalled s x1).load = s.load ∧
    (State.performStalled s x1).rig = s.rig ∧
    (State.performStalled s x1).photonics = s.photonics ∧
    (State.performStalled s x1).domain = s.domain ∧
    (State.performStalled s x1).messages = s.messages ∧
    (State.performStalled s x1).package = s.package ∧
    (State.performStalled s x1).clocks = s.clocks ∧
    (State.performStalled s x1).thermal = s.thermal ∧
    (State.performStalled s x1).boot = s.boot := by
  induction x1 generalizing s <;> unfold State.performStalled <;> try dsimp only
  all_goals ((repeat' split) <;> simp_all -implicitDefEqProofs [↓prod_flip3, prod_flip])

@[simp] theorem State.transmitGrant_kept (s : State) (h : Nat) :
    (State.transmitGrant s h).pending = s.pending ∧
    (State.transmitGrant s h).fuses = s.fuses ∧
    (State.transmitGrant s h).regs = s.regs ∧
    (State.transmitGrant s h).shadows = s.shadows ∧
    (State.transmitGrant s h).blobs = s.blobs ∧
    (State.transmitGrant s h).blobShadows = s.blobShadows ∧
    (State.transmitGrant s h).hubNeeds = s.hubNeeds ∧
    (State.transmitGrant s h).commits = s.commits ∧
    (State.transmitGrant s h).seeds = s.seeds ∧
    (State.transmitGrant s h).load = s.load ∧
    (State.transmitGrant s h).clusters = s.clusters ∧
    (State.transmitGrant s h).ctxs = s.ctxs ∧
    (State.transmitGrant s h).memory = s.memory ∧
    (State.transmitGrant s h).rig = s.rig ∧
    (State.transmitGrant s h).coll = s.coll ∧
    (State.transmitGrant s h).photonics = s.photonics ∧
    (State.transmitGrant s h).domain = s.domain ∧
    (State.transmitGrant s h).messages = s.messages ∧
    (State.transmitGrant s h).clocks = s.clocks ∧
    (State.transmitGrant s h).thermal = s.thermal ∧
    (State.transmitGrant s h).boot = s.boot ∧
    (State.transmitGrant s h).dbg = s.dbg ∧
    (State.transmitGrant s h).freeCount = s.freeCount := by
  unfold State.transmitGrant
  try dsimp only
  (repeat' split) <;> simp_all -implicitDefEqProofs [↓prod_flip3, prod_flip]

@[simp] theorem State.sendGrant_kept (s : State) (h : Nat) (mw : Nat) :
    (State.sendGrant s h mw).pending = s.pending ∧
    (State.sendGrant s h mw).fuses = s.fuses ∧
    (State.sendGrant s h mw).regs = s.regs ∧
    (State.sendGrant s h mw).shadows = s.shadows ∧
    (State.sendGrant s h mw).blobs = s.blobs ∧
    (State.sendGrant s h mw).blobShadows = s.blobShadows ∧
    (State.sendGrant s h mw).hubNeeds = s.hubNeeds ∧
    (State.sendGrant s h mw).commits = s.commits ∧
    (State.sendGrant s h mw).seeds = s.seeds ∧
    (State.sendGrant s h mw).load = s.load ∧
    (State.sendGrant s h mw).clusters = s.clusters ∧
    (State.sendGrant s h mw).ctxs = s.ctxs ∧
    (State.sendGrant s h mw).memory = s.memory ∧
    (State.sendGrant s h mw).rig = s.rig ∧
    (State.sendGrant s h mw).coll = s.coll ∧
    (State.sendGrant s h mw).photonics = s.photonics ∧
    (State.sendGrant s h mw).domain = s.domain ∧
    (State.sendGrant s h mw).messages = s.messages ∧
    (State.sendGrant s h mw).clocks = s.clocks ∧
    (State.sendGrant s h mw).thermal = s.thermal ∧
    (State.sendGrant s h mw).boot = s.boot ∧
    (State.sendGrant s h mw).dbg = s.dbg ∧
    (State.sendGrant s h mw).freeCount = s.freeCount := by
  unfold State.sendGrant
  try dsimp only
  (repeat' split) <;> simp_all -implicitDefEqProofs [↓prod_flip3, prod_flip]

@[simp] theorem lowerStep_kept (share : Nat) (cut : Bool) (acc : Nat × State) (h : Nat) :
    (lowerStep share cut acc h).2.pending = acc.2.pending ∧
    (lowerStep share cut acc h).2.fuses = acc.2.fuses ∧
    (lowerStep share cut acc h).2.regs = acc.2.regs ∧
    (lowerStep share cut acc h).2.shadows = acc.2.shadows ∧
    (lowerStep share cut acc h).2.blobs = acc.2.blobs ∧
    (lowerStep share cut acc h).2.blobShadows = acc.2.blobShadows ∧
    (lowerStep share cut acc h).2.hubNeeds = acc.2.hubNeeds ∧
    (lowerStep share cut acc h).2.commits = acc.2.commits ∧
    (lowerStep share cut acc h).2.seeds = acc.2.seeds ∧
    (lowerStep share cut acc h).2.load = acc.2.load ∧
    (lowerStep share cut acc h).2.clusters = acc.2.clusters ∧
    (lowerStep share cut acc h).2.ctxs = acc.2.ctxs ∧
    (lowerStep share cut acc h).2.memory = acc.2.memory ∧
    (lowerStep share cut acc h).2.rig = acc.2.rig ∧
    (lowerStep share cut acc h).2.coll = acc.2.coll ∧
    (lowerStep share cut acc h).2.photonics = acc.2.photonics ∧
    (lowerStep share cut acc h).2.domain = acc.2.domain ∧
    (lowerStep share cut acc h).2.messages = acc.2.messages ∧
    (lowerStep share cut acc h).2.clocks = acc.2.clocks ∧
    (lowerStep share cut acc h).2.thermal = acc.2.thermal ∧
    (lowerStep share cut acc h).2.boot = acc.2.boot ∧
    (lowerStep share cut acc h).2.dbg = acc.2.dbg ∧
    (lowerStep share cut acc h).2.freeCount = acc.2.freeCount := by
  unfold lowerStep
  try dsimp only
  (repeat' split) <;> simp_all -implicitDefEqProofs [↓prod_flip3, prod_flip]

@[simp] theorem State.lowerCompute_kept (need : Nat) (cut : Bool) (x2 : Nat) (x3 : State) :
    (State.lowerCompute need cut x2 x3).2.pending = x3.pending ∧
    (State.lowerCompute need cut x2 x3).2.fuses = x3.fuses ∧
    (State.lowerCompute need cut x2 x3).2.regs = x3.regs ∧
    (State.lowerCompute need cut x2 x3).2.shadows = x3.shadows ∧
    (State.lowerCompute need cut x2 x3).2.blobs = x3.blobs ∧
    (State.lowerCompute need cut x2 x3).2.blobShadows = x3.blobShadows ∧
    (State.lowerCompute need cut x2 x3).2.hubNeeds = x3.hubNeeds ∧
    (State.lowerCompute need cut x2 x3).2.commits = x3.commits ∧
    (State.lowerCompute need cut x2 x3).2.seeds = x3.seeds ∧
    (State.lowerCompute need cut x2 x3).2.load = x3.load ∧
    (State.lowerCompute need cut x2 x3).2.clusters = x3.clusters ∧
    (State.lowerCompute need cut x2 x3).2.ctxs = x3.ctxs ∧
    (State.lowerCompute need cut x2 x3).2.memory = x3.memory ∧
    (State.lowerCompute need cut x2 x3).2.rig = x3.rig ∧
    (State.lowerCompute need cut x2 x3).2.coll = x3.coll ∧
    (State.lowerCompute need cut x2 x3).2.photonics = x3.photonics ∧
    (State.lowerCompute need cut x2 x3).2.domain = x3.domain ∧
    (State.lowerCompute need cut x2 x3).2.messages = x3.messages ∧
    (State.lowerCompute need cut x2 x3).2.clocks = x3.clocks ∧
    (State.lowerCompute need cut x2 x3).2.thermal = x3.thermal ∧
    (State.lowerCompute need cut x2 x3).2.boot = x3.boot ∧
    (State.lowerCompute need cut x2 x3).2.dbg = x3.dbg ∧
    (State.lowerCompute need cut x2 x3).2.freeCount = x3.freeCount := by
  induction x2 generalizing need x3 <;> unfold State.lowerCompute <;> try dsimp only
  all_goals ((repeat' split) <;> simp_all -implicitDefEqProofs [↓prod_flip3, prod_flip])

@[simp] theorem State.serveAsks_kept (s : State) :
    (State.serveAsks s).pending = s.pending ∧
    (State.serveAsks s).fuses = s.fuses ∧
    (State.serveAsks s).regs = s.regs ∧
    (State.serveAsks s).shadows = s.shadows ∧
    (State.serveAsks s).blobs = s.blobs ∧
    (State.serveAsks s).blobShadows = s.blobShadows ∧
    (State.serveAsks s).hubNeeds = s.hubNeeds ∧
    (State.serveAsks s).commits = s.commits ∧
    (State.serveAsks s).seeds = s.seeds ∧
    (State.serveAsks s).load = s.load ∧
    (State.serveAsks s).clusters = s.clusters ∧
    (State.serveAsks s).ctxs = s.ctxs ∧
    (State.serveAsks s).memory = s.memory ∧
    (State.serveAsks s).rig = s.rig ∧
    (State.serveAsks s).coll = s.coll ∧
    (State.serveAsks s).photonics = s.photonics ∧
    (State.serveAsks s).domain = s.domain ∧
    (State.serveAsks s).messages = s.messages ∧
    (State.serveAsks s).clocks = s.clocks ∧
    (State.serveAsks s).thermal = s.thermal ∧
    (State.serveAsks s).boot = s.boot ∧
    (State.serveAsks s).dbg = s.dbg ∧
    (State.serveAsks s).freeCount = s.freeCount := by
  unfold State.serveAsks
  try dsimp only
  (repeat' split) <;> simp_all -implicitDefEqProofs [↓prod_flip3, prod_flip]

@[simp] theorem State.toPool_kept (s : State) (n : Nat) :
    (State.toPool s n).pending = s.pending ∧
    (State.toPool s n).fuses = s.fuses ∧
    (State.toPool s n).regs = s.regs ∧
    (State.toPool s n).shadows = s.shadows ∧
    (State.toPool s n).blobs = s.blobs ∧
    (State.toPool s n).blobShadows = s.blobShadows ∧
    (State.toPool s n).hubNeeds = s.hubNeeds ∧
    (State.toPool s n).commits = s.commits ∧
    (State.toPool s n).seeds = s.seeds ∧
    (State.toPool s n).load = s.load ∧
    (State.toPool s n).clusters = s.clusters ∧
    (State.toPool s n).ctxs = s.ctxs ∧
    (State.toPool s n).memory = s.memory ∧
    (State.toPool s n).rig = s.rig ∧
    (State.toPool s n).coll = s.coll ∧
    (State.toPool s n).photonics = s.photonics ∧
    (State.toPool s n).domain = s.domain ∧
    (State.toPool s n).messages = s.messages ∧
    (State.toPool s n).clocks = s.clocks ∧
    (State.toPool s n).thermal = s.thermal ∧
    (State.toPool s n).boot = s.boot ∧
    (State.toPool s n).dbg = s.dbg ∧
    (State.toPool s n).freeCount = s.freeCount := by
  unfold State.toPool
  try dsimp only
  (repeat' split) <;> simp_all -implicitDefEqProofs [↓prod_flip3, prod_flip]

@[simp] theorem State.serveAsk_kept (s : State) (h : Nat) (wanted : Nat) :
    (State.serveAsk s h wanted).pending = s.pending ∧
    (State.serveAsk s h wanted).fuses = s.fuses ∧
    (State.serveAsk s h wanted).regs = s.regs ∧
    (State.serveAsk s h wanted).shadows = s.shadows ∧
    (State.serveAsk s h wanted).blobs = s.blobs ∧
    (State.serveAsk s h wanted).blobShadows = s.blobShadows ∧
    (State.serveAsk s h wanted).hubNeeds = s.hubNeeds ∧
    (State.serveAsk s h wanted).commits = s.commits ∧
    (State.serveAsk s h wanted).seeds = s.seeds ∧
    (State.serveAsk s h wanted).load = s.load ∧
    (State.serveAsk s h wanted).clusters = s.clusters ∧
    (State.serveAsk s h wanted).ctxs = s.ctxs ∧
    (State.serveAsk s h wanted).memory = s.memory ∧
    (State.serveAsk s h wanted).rig = s.rig ∧
    (State.serveAsk s h wanted).coll = s.coll ∧
    (State.serveAsk s h wanted).photonics = s.photonics ∧
    (State.serveAsk s h wanted).domain = s.domain ∧
    (State.serveAsk s h wanted).messages = s.messages ∧
    (State.serveAsk s h wanted).clocks = s.clocks ∧
    (State.serveAsk s h wanted).thermal = s.thermal ∧
    (State.serveAsk s h wanted).boot = s.boot ∧
    (State.serveAsk s h wanted).dbg = s.dbg ∧
    (State.serveAsk s h wanted).freeCount = s.freeCount := by
  unfold State.serveAsk
  try dsimp only
  (repeat' split) <;> simp_all -implicitDefEqProofs [↓prod_flip3, prod_flip]

@[simp] theorem State.budgetSettles_kept (s : State) :
    (State.budgetSettles s).pending = s.pending ∧
    (State.budgetSettles s).fuses = s.fuses ∧
    (State.budgetSettles s).shadows = s.shadows ∧
    (State.budgetSettles s).blobs = s.blobs ∧
    (State.budgetSettles s).blobShadows = s.blobShadows ∧
    (State.budgetSettles s).hubNeeds = s.hubNeeds ∧
    (State.budgetSettles s).seeds = s.seeds ∧
    (State.budgetSettles s).load = s.load ∧
    (State.budgetSettles s).clusters = s.clusters ∧
    (State.budgetSettles s).ctxs = s.ctxs ∧
    (State.budgetSettles s).memory = s.memory ∧
    (State.budgetSettles s).rig = s.rig ∧
    (State.budgetSettles s).coll = s.coll ∧
    (State.budgetSettles s).photonics = s.photonics ∧
    (State.budgetSettles s).domain = s.domain ∧
    (State.budgetSettles s).messages = s.messages ∧
    (State.budgetSettles s).clocks = s.clocks ∧
    (State.budgetSettles s).thermal = s.thermal ∧
    (State.budgetSettles s).control = s.control ∧
    (State.budgetSettles s).boot = s.boot ∧
    (State.budgetSettles s).dbg = s.dbg ∧
    (State.budgetSettles s).freeCount = s.freeCount := by
  unfold State.budgetSettles
  try dsimp only
  (repeat' split) <;> simp_all -implicitDefEqProofs [↓prod_flip3, prod_flip]

@[simp] theorem State.grantAcked_kept (s : State) (h : Nat) :
    (State.grantAcked s h).pending = s.pending ∧
    (State.grantAcked s h).fuses = s.fuses ∧
    (State.grantAcked s h).shadows = s.shadows ∧
    (State.grantAcked s h).blobs = s.blobs ∧
    (State.grantAcked s h).blobShadows = s.blobShadows ∧
    (State.grantAcked s h).hubNeeds = s.hubNeeds ∧
    (State.grantAcked s h).seeds = s.seeds ∧
    (State.grantAcked s h).load = s.load ∧
    (State.grantAcked s h).clusters = s.clusters ∧
    (State.grantAcked s h).ctxs = s.ctxs ∧
    (State.grantAcked s h).memory = s.memory ∧
    (State.grantAcked s h).rig = s.rig ∧
    (State.grantAcked s h).coll = s.coll ∧
    (State.grantAcked s h).photonics = s.photonics ∧
    (State.grantAcked s h).domain = s.domain ∧
    (State.grantAcked s h).messages = s.messages ∧
    (State.grantAcked s h).clocks = s.clocks ∧
    (State.grantAcked s h).thermal = s.thermal ∧
    (State.grantAcked s h).boot = s.boot ∧
    (State.grantAcked s h).dbg = s.dbg ∧
    (State.grantAcked s h).freeCount = s.freeCount := by
  unfold State.grantAcked
  try dsimp only
  (repeat' split) <;> simp_all -implicitDefEqProofs [↓prod_flip3, prod_flip]

@[simp] theorem State.holderToFloor_kept (s : State) (d : Nat) :
    (State.holderToFloor s d).pending = s.pending ∧
    (State.holderToFloor s d).fuses = s.fuses ∧
    (State.holderToFloor s d).shadows = s.shadows ∧
    (State.holderToFloor s d).blobs = s.blobs ∧
    (State.holderToFloor s d).blobShadows = s.blobShadows ∧
    (State.holderToFloor s d).hubNeeds = s.hubNeeds ∧
    (State.holderToFloor s d).seeds = s.seeds ∧
    (State.holderToFloor s d).load = s.load ∧
    (State.holderToFloor s d).clusters = s.clusters ∧
    (State.holderToFloor s d).ctxs = s.ctxs ∧
    (State.holderToFloor s d).memory = s.memory ∧
    (State.holderToFloor s d).rig = s.rig ∧
    (State.holderToFloor s d).coll = s.coll ∧
    (State.holderToFloor s d).photonics = s.photonics ∧
    (State.holderToFloor s d).domain = s.domain ∧
    (State.holderToFloor s d).messages = s.messages ∧
    (State.holderToFloor s d).clocks = s.clocks ∧
    (State.holderToFloor s d).thermal = s.thermal ∧
    (State.holderToFloor s d).boot = s.boot ∧
    (State.holderToFloor s d).dbg = s.dbg ∧
    (State.holderToFloor s d).freeCount = s.freeCount := by
  unfold State.holderToFloor
  try dsimp only
  (repeat' split) <;> simp_all -implicitDefEqProofs [↓prod_flip3, prod_flip]

@[simp] theorem State.reefReview_kept (s : State) :
    (State.reefReview s).pending = s.pending ∧
    (State.reefReview s).fuses = s.fuses ∧
    (State.reefReview s).shadows = s.shadows ∧
    (State.reefReview s).blobs = s.blobs ∧
    (State.reefReview s).blobShadows = s.blobShadows ∧
    (State.reefReview s).hubNeeds = s.hubNeeds ∧
    (State.reefReview s).commits = s.commits ∧
    (State.reefReview s).seeds = s.seeds ∧
    (State.reefReview s).load = s.load ∧
    (State.reefReview s).clusters = s.clusters ∧
    (State.reefReview s).ctxs = s.ctxs ∧
    (State.reefReview s).memory = s.memory ∧
    (State.reefReview s).rig = s.rig ∧
    (State.reefReview s).coll = s.coll ∧
    (State.reefReview s).photonics = s.photonics ∧
    (State.reefReview s).domain = s.domain ∧
    (State.reefReview s).messages = s.messages ∧
    (State.reefReview s).package = s.package ∧
    (State.reefReview s).clocks = s.clocks ∧
    (State.reefReview s).control = s.control ∧
    (State.reefReview s).boot = s.boot ∧
    (State.reefReview s).dbg = s.dbg ∧
    (State.reefReview s).freeCount = s.freeCount := by
  unfold State.reefReview
  try dsimp only
  (repeat' split) <;> simp_all -implicitDefEqProofs [↓prod_flip3, prod_flip]

@[simp] theorem State.setPowerLevel_kept (s : State) (t : Nat) (l : Nat) :
    (State.setPowerLevel s t l).pending = s.pending ∧
    (State.setPowerLevel s t l).fuses = s.fuses ∧
    (State.setPowerLevel s t l).shadows = s.shadows ∧
    (State.setPowerLevel s t l).blobs = s.blobs ∧
    (State.setPowerLevel s t l).blobShadows = s.blobShadows ∧
    (State.setPowerLevel s t l).hubNeeds = s.hubNeeds ∧
    (State.setPowerLevel s t l).commits = s.commits ∧
    (State.setPowerLevel s t l).seeds = s.seeds ∧
    (State.setPowerLevel s t l).load = s.load ∧
    (State.setPowerLevel s t l).clusters = s.clusters ∧
    (State.setPowerLevel s t l).ctxs = s.ctxs ∧
    (State.setPowerLevel s t l).memory = s.memory ∧
    (State.setPowerLevel s t l).rig = s.rig ∧
    (State.setPowerLevel s t l).coll = s.coll ∧
    (State.setPowerLevel s t l).photonics = s.photonics ∧
    (State.setPowerLevel s t l).domain = s.domain ∧
    (State.setPowerLevel s t l).messages = s.messages ∧
    (State.setPowerLevel s t l).package = s.package ∧
    (State.setPowerLevel s t l).clocks = s.clocks ∧
    (State.setPowerLevel s t l).control = s.control ∧
    (State.setPowerLevel s t l).boot = s.boot ∧
    (State.setPowerLevel s t l).dbg = s.dbg ∧
    (State.setPowerLevel s t l).freeCount = s.freeCount := by
  unfold State.setPowerLevel
  try dsimp only
  (repeat' split) <;> simp_all -implicitDefEqProofs [↓prod_flip3, prod_flip]

@[simp] theorem State.refreshRates_kept (s : State) :
    (State.refreshRates s).pending = s.pending ∧
    (State.refreshRates s).fuses = s.fuses ∧
    (State.refreshRates s).shadows = s.shadows ∧
    (State.refreshRates s).blobShadows = s.blobShadows ∧
    (State.refreshRates s).hubNeeds = s.hubNeeds ∧
    (State.refreshRates s).commits = s.commits ∧
    (State.refreshRates s).seeds = s.seeds ∧
    (State.refreshRates s).load = s.load ∧
    (State.refreshRates s).clusters = s.clusters ∧
    (State.refreshRates s).ctxs = s.ctxs ∧
    (State.refreshRates s).memory = s.memory ∧
    (State.refreshRates s).rig = s.rig ∧
    (State.refreshRates s).coll = s.coll ∧
    (State.refreshRates s).photonics = s.photonics ∧
    (State.refreshRates s).domain = s.domain ∧
    (State.refreshRates s).messages = s.messages ∧
    (State.refreshRates s).package = s.package ∧
    (State.refreshRates s).clocks = s.clocks ∧
    (State.refreshRates s).thermal = s.thermal ∧
    (State.refreshRates s).control = s.control ∧
    (State.refreshRates s).boot = s.boot ∧
    (State.refreshRates s).dbg = s.dbg ∧
    (State.refreshRates s).freeCount = s.freeCount := by
  unfold State.refreshRates
  try dsimp only
  (repeat' split) <;> simp_all -implicitDefEqProofs [↓prod_flip3, prod_flip]

@[simp] theorem State.obey_kept (s : State) (h : Nat) (mw : Nat) :
    (State.obey s h mw).pending = s.pending ∧
    (State.obey s h mw).fuses = s.fuses ∧
    (State.obey s h mw).shadows = s.shadows ∧
    (State.obey s h mw).blobs = s.blobs ∧
    (State.obey s h mw).blobShadows = s.blobShadows ∧
    (State.obey s h mw).hubNeeds = s.hubNeeds ∧
    (State.obey s h mw).commits = s.commits ∧
    (State.obey s h mw).seeds = s.seeds ∧
    (State.obey s h mw).load = s.load ∧
    (State.obey s h mw).clusters = s.clusters ∧
    (State.obey s h mw).ctxs = s.ctxs ∧
    (State.obey s h mw).memory = s.memory ∧
    (State.obey s h mw).rig = s.rig ∧
    (State.obey s h mw).coll = s.coll ∧
    (State.obey s h mw).photonics = s.photonics ∧
    (State.obey s h mw).domain = s.domain ∧
    (State.obey s h mw).messages = s.messages ∧
    (State.obey s h mw).clocks = s.clocks ∧
    (State.obey s h mw).control = s.control ∧
    (State.obey s h mw).boot = s.boot ∧
    (State.obey s h mw).dbg = s.dbg ∧
    (State.obey s h mw).freeCount = s.freeCount := by
  unfold State.obey
  try dsimp only
  (repeat' split) <;> simp_all -implicitDefEqProofs [↓prod_flip3, prod_flip]

@[simp] theorem State.queueRepair_kept (s : State) (r : RepairRecord) :
    (State.queueRepair s r).pending = s.pending ∧
    (State.queueRepair s r).fuses = s.fuses ∧
    (State.queueRepair s r).regs = s.regs ∧
    (State.queueRepair s r).shadows = s.shadows ∧
    (State.queueRepair s r).blobs = s.blobs ∧
    (State.queueRepair s r).blobShadows = s.blobShadows ∧
    (State.queueRepair s r).hubNeeds = s.hubNeeds ∧
    (State.queueRepair s r).commits = s.commits ∧
    (State.queueRepair s r).seeds = s.seeds ∧
    (State.queueRepair s r).load = s.load ∧
    (State.queueRepair s r).clusters = s.clusters ∧
    (State.queueRepair s r).ctxs = s.ctxs ∧
    (State.queueRepair s r).memory = s.memory ∧
    (State.queueRepair s r).rig = s.rig ∧
    (State.queueRepair s r).coll = s.coll ∧
    (State.queueRepair s r).photonics = s.photonics ∧
    (State.queueRepair s r).domain = s.domain ∧
    (State.queueRepair s r).messages = s.messages ∧
    (State.queueRepair s r).clocks = s.clocks ∧
    (State.queueRepair s r).thermal = s.thermal ∧
    (State.queueRepair s r).control = s.control ∧
    (State.queueRepair s r).boot = s.boot ∧
    (State.queueRepair s r).dbg = s.dbg ∧
    (State.queueRepair s r).freeCount = s.freeCount := by
  unfold State.queueRepair
  try dsimp only
  (repeat' split) <;> simp_all -implicitDefEqProofs [↓prod_flip3, prod_flip]

@[simp] theorem State.loseContext_kept (s : State) (x : Nat) :
    (State.loseContext s x).pending = s.pending ∧
    (State.loseContext s x).fuses = s.fuses ∧
    (State.loseContext s x).shadows = s.shadows ∧
    (State.loseContext s x).blobs = s.blobs ∧
    (State.loseContext s x).blobShadows = s.blobShadows ∧
    (State.loseContext s x).hubNeeds = s.hubNeeds ∧
    (State.loseContext s x).seeds = s.seeds ∧
    (State.loseContext s x).load = s.load ∧
    (State.loseContext s x).memory = s.memory ∧
    (State.loseContext s x).rig = s.rig ∧
    (State.loseContext s x).photonics = s.photonics ∧
    (State.loseContext s x).package = s.package ∧
    (State.loseContext s x).thermal = s.thermal ∧
    (State.loseContext s x).boot = s.boot ∧
    (State.loseContext s x).freeCount = s.freeCount := by
  unfold State.loseContext
  try dsimp only
  (repeat' split) <;> simp_all -implicitDefEqProofs [↓prod_flip3, prod_flip]

@[simp] theorem State.wipeClusters_kept (s : State) (t : Nat) :
    (State.wipeClusters s t).pending = s.pending ∧
    (State.wipeClusters s t).fuses = s.fuses ∧
    (State.wipeClusters s t).regs = s.regs ∧
    (State.wipeClusters s t).shadows = s.shadows ∧
    (State.wipeClusters s t).blobs = s.blobs ∧
    (State.wipeClusters s t).blobShadows = s.blobShadows ∧
    (State.wipeClusters s t).hubNeeds = s.hubNeeds ∧
    (State.wipeClusters s t).commits = s.commits ∧
    (State.wipeClusters s t).seeds = s.seeds ∧
    (State.wipeClusters s t).load = s.load ∧
    (State.wipeClusters s t).ctxs = s.ctxs ∧
    (State.wipeClusters s t).rig = s.rig ∧
    (State.wipeClusters s t).coll = s.coll ∧
    (State.wipeClusters s t).photonics = s.photonics ∧
    (State.wipeClusters s t).domain = s.domain ∧
    (State.wipeClusters s t).messages = s.messages ∧
    (State.wipeClusters s t).package = s.package ∧
    (State.wipeClusters s t).clocks = s.clocks ∧
    (State.wipeClusters s t).thermal = s.thermal ∧
    (State.wipeClusters s t).control = s.control ∧
    (State.wipeClusters s t).boot = s.boot ∧
    (State.wipeClusters s t).dbg = s.dbg ∧
    (State.wipeClusters s t).freeCount = s.freeCount := by
  unfold State.wipeClusters
  try dsimp only
  (repeat' split) <;> simp_all -implicitDefEqProofs [↓prod_flip3, prod_flip]

@[simp] theorem State.computeReset_kept (s : State) (t : Nat) :
    (State.computeReset s t).pending = s.pending ∧
    (State.computeReset s t).fuses = s.fuses ∧
    (State.computeReset s t).shadows = s.shadows ∧
    (State.computeReset s t).blobs = s.blobs ∧
    (State.computeReset s t).blobShadows = s.blobShadows ∧
    (State.computeReset s t).hubNeeds = s.hubNeeds ∧
    (State.computeReset s t).seeds = s.seeds ∧
    (State.computeReset s t).load = s.load ∧
    (State.computeReset s t).rig = s.rig ∧
    (State.computeReset s t).photonics = s.photonics ∧
    (State.computeReset s t).package = s.package ∧
    (State.computeReset s t).boot = s.boot ∧
    (State.computeReset s t).freeCount = s.freeCount := by
  unfold State.computeReset
  try dsimp only
  (repeat' split) <;> simp_all -implicitDefEqProofs [↓prod_flip3, prod_flip]

@[simp] theorem State.forgetSlot_kept (s : State) (t : Nat) :
    (State.forgetSlot s t).pending = s.pending ∧
    (State.forgetSlot s t).fuses = s.fuses ∧
    (State.forgetSlot s t).regs = s.regs ∧
    (State.forgetSlot s t).shadows = s.shadows ∧
    (State.forgetSlot s t).blobs = s.blobs ∧
    (State.forgetSlot s t).blobShadows = s.blobShadows ∧
    (State.forgetSlot s t).hubNeeds = s.hubNeeds ∧
    (State.forgetSlot s t).commits = s.commits ∧
    (State.forgetSlot s t).seeds = s.seeds ∧
    (State.forgetSlot s t).load = s.load ∧
    (State.forgetSlot s t).clusters = s.clusters ∧
    (State.forgetSlot s t).ctxs = s.ctxs ∧
    (State.forgetSlot s t).memory = s.memory ∧
    (State.forgetSlot s t).coll = s.coll ∧
    (State.forgetSlot s t).photonics = s.photonics ∧
    (State.forgetSlot s t).domain = s.domain ∧
    (State.forgetSlot s t).messages = s.messages ∧
    (State.forgetSlot s t).package = s.package ∧
    (State.forgetSlot s t).clocks = s.clocks ∧
    (State.forgetSlot s t).thermal = s.thermal ∧
    (State.forgetSlot s t).control = s.control ∧
    (State.forgetSlot s t).boot = s.boot ∧
    (State.forgetSlot s t).dbg = s.dbg ∧
    (State.forgetSlot s t).freeCount = s.freeCount := by
  unfold State.forgetSlot
  try dsimp only
  (repeat' split) <;> simp_all -implicitDefEqProofs [↓prod_flip3, prod_flip]

@[simp] theorem State.discardSlot_kept (s : State) (t : Nat) :
    (State.discardSlot s t).pending = s.pending ∧
    (State.discardSlot s t).fuses = s.fuses ∧
    (State.discardSlot s t).shadows = s.shadows ∧
    (State.discardSlot s t).blobs = s.blobs ∧
    (State.discardSlot s t).blobShadows = s.blobShadows ∧
    (State.discardSlot s t).hubNeeds = s.hubNeeds ∧
    (State.discardSlot s t).seeds = s.seeds ∧
    (State.discardSlot s t).load = s.load ∧
    (State.discardSlot s t).clusters = s.clusters ∧
    (State.discardSlot s t).memory = s.memory ∧
    (State.discardSlot s t).photonics = s.photonics ∧
    (State.discardSlot s t).domain = s.domain ∧
    (State.discardSlot s t).messages = s.messages ∧
    (State.discardSlot s t).package = s.package ∧
    (State.discardSlot s t).clocks = s.clocks ∧
    (State.discardSlot s t).thermal = s.thermal ∧
    (State.discardSlot s t).boot = s.boot ∧
    (State.discardSlot s t).freeCount = s.freeCount := by
  unfold State.discardSlot
  try dsimp only
  (repeat' split) <;> simp_all -implicitDefEqProofs [↓prod_flip3, prod_flip]

@[simp] theorem State.fenceCollectives_kept (s : State) (t : Nat) :
    (State.fenceCollectives s t).pending = s.pending ∧
    (State.fenceCollectives s t).fuses = s.fuses ∧
    (State.fenceCollectives s t).shadows = s.shadows ∧
    (State.fenceCollectives s t).blobs = s.blobs ∧
    (State.fenceCollectives s t).blobShadows = s.blobShadows ∧
    (State.fenceCollectives s t).hubNeeds = s.hubNeeds ∧
    (State.fenceCollectives s t).seeds = s.seeds ∧
    (State.fenceCollectives s t).load = s.load ∧
    (State.fenceCollectives s t).clusters = s.clusters ∧
    (State.fenceCollectives s t).memory = s.memory ∧
    (State.fenceCollectives s t).rig = s.rig ∧
    (State.fenceCollectives s t).photonics = s.photonics ∧
    (State.fenceCollectives s t).domain = s.domain ∧
    (State.fenceCollectives s t).messages = s.messages ∧
    (State.fenceCollectives s t).package = s.package ∧
    (State.fenceCollectives s t).clocks = s.clocks ∧
    (State.fenceCollectives s t).thermal = s.thermal ∧
    (State.fenceCollectives s t).boot = s.boot ∧
    (State.fenceCollectives s t).freeCount = s.freeCount := by
  unfold State.fenceCollectives
  try dsimp only
  (repeat' split) <;> simp_all -implicitDefEqProofs [↓prod_flip3, prod_flip]

@[simp] theorem State.towerReset_kept (s : State) (t : Nat) :
    (State.towerReset s t).pending = s.pending ∧
    (State.towerReset s t).fuses = s.fuses ∧
    (State.towerReset s t).shadows = s.shadows ∧
    (State.towerReset s t).blobs = s.blobs ∧
    (State.towerReset s t).blobShadows = s.blobShadows ∧
    (State.towerReset s t).hubNeeds = s.hubNeeds ∧
    (State.towerReset s t).commits = s.commits ∧
    (State.towerReset s t).seeds = s.seeds ∧
    (State.towerReset s t).load = s.load ∧
    (State.towerReset s t).clusters = s.clusters ∧
    (State.towerReset s t).ctxs = s.ctxs ∧
    (State.towerReset s t).coll = s.coll ∧
    (State.towerReset s t).photonics = s.photonics ∧
    (State.towerReset s t).domain = s.domain ∧
    (State.towerReset s t).messages = s.messages ∧
    (State.towerReset s t).package = s.package ∧
    (State.towerReset s t).clocks = s.clocks ∧
    (State.towerReset s t).thermal = s.thermal ∧
    (State.towerReset s t).control = s.control ∧
    (State.towerReset s t).boot = s.boot ∧
    (State.towerReset s t).dbg = s.dbg ∧
    (State.towerReset s t).freeCount = s.freeCount := by
  unfold State.towerReset
  try dsimp only
  (repeat' split) <;> simp_all -implicitDefEqProofs [↓prod_flip3, prod_flip]

@[simp] theorem State.endChange_kept (s : State) (t : Nat) :
    (State.endChange s t).pending = s.pending ∧
    (State.endChange s t).fuses = s.fuses ∧
    (State.endChange s t).shadows = s.shadows ∧
    (State.endChange s t).blobs = s.blobs ∧
    (State.endChange s t).blobShadows = s.blobShadows ∧
    (State.endChange s t).hubNeeds = s.hubNeeds ∧
    (State.endChange s t).seeds = s.seeds ∧
    (State.endChange s t).load = s.load ∧
    (State.endChange s t).clusters = s.clusters ∧
    (State.endChange s t).ctxs = s.ctxs ∧
    (State.endChange s t).rig = s.rig ∧
    (State.endChange s t).coll = s.coll ∧
    (State.endChange s t).photonics = s.photonics ∧
    (State.endChange s t).domain = s.domain ∧
    (State.endChange s t).messages = s.messages ∧
    (State.endChange s t).package = s.package ∧
    (State.endChange s t).clocks = s.clocks ∧
    (State.endChange s t).thermal = s.thermal ∧
    (State.endChange s t).control = s.control ∧
    (State.endChange s t).boot = s.boot ∧
    (State.endChange s t).dbg = s.dbg ∧
    (State.endChange s t).freeCount = s.freeCount := by
  unfold State.endChange
  try dsimp only
  (repeat' split) <;> simp_all -implicitDefEqProofs [↓prod_flip3, prod_flip]

@[simp] theorem State.cacheAbrupt_kept (s : State) (t : Nat) :
    (State.cacheAbrupt s t).pending = s.pending ∧
    (State.cacheAbrupt s t).fuses = s.fuses ∧
    (State.cacheAbrupt s t).shadows = s.shadows ∧
    (State.cacheAbrupt s t).blobShadows = s.blobShadows ∧
    (State.cacheAbrupt s t).hubNeeds = s.hubNeeds ∧
    (State.cacheAbrupt s t).seeds = s.seeds ∧
    (State.cacheAbrupt s t).load = s.load ∧
    (State.cacheAbrupt s t).photonics = s.photonics ∧
    (State.cacheAbrupt s t).package = s.package ∧
    (State.cacheAbrupt s t).thermal = s.thermal ∧
    (State.cacheAbrupt s t).boot = s.boot ∧
    (State.cacheAbrupt s t).freeCount = s.freeCount := by
  unfold State.cacheAbrupt
  try dsimp only
  (repeat' split) <;> simp_all -implicitDefEqProofs [↓prod_flip3, prod_flip]

@[simp] theorem State.halfStops_kept (s : State) (h : Nat) :
    (State.halfStops s h).pending = s.pending ∧
    (State.halfStops s h).fuses = s.fuses ∧
    (State.halfStops s h).regs = s.regs ∧
    (State.halfStops s h).shadows = s.shadows ∧
    (State.halfStops s h).blobs = s.blobs ∧
    (State.halfStops s h).blobShadows = s.blobShadows ∧
    (State.halfStops s h).hubNeeds = s.hubNeeds ∧
    (State.halfStops s h).commits = s.commits ∧
    (State.halfStops s h).seeds = s.seeds ∧
    (State.halfStops s h).load = s.load ∧
    (State.halfStops s h).clusters = s.clusters ∧
    (State.halfStops s h).ctxs = s.ctxs ∧
    (State.halfStops s h).memory = s.memory ∧
    (State.halfStops s h).rig = s.rig ∧
    (State.halfStops s h).coll = s.coll ∧
    (State.halfStops s h).photonics = s.photonics ∧
    (State.halfStops s h).domain = s.domain ∧
    (State.halfStops s h).messages = s.messages ∧
    (State.halfStops s h).package = s.package ∧
    (State.halfStops s h).clocks = s.clocks ∧
    (State.halfStops s h).thermal = s.thermal ∧
    (State.halfStops s h).boot = s.boot ∧
    (State.halfStops s h).dbg = s.dbg ∧
    (State.halfStops s h).freeCount = s.freeCount := by
  unfold State.halfStops
  try dsimp only
  (repeat' split) <;> simp_all -implicitDefEqProofs [↓prod_flip3, prod_flip]

@[simp] theorem State.abruptReset_kept (s : State) (d : Nat) (st : DieState) :
    (State.abruptReset s d st).pending = s.pending ∧
    (State.abruptReset s d st).fuses = s.fuses ∧
    (State.abruptReset s d st).shadows = s.shadows ∧
    (State.abruptReset s d st).blobShadows = s.blobShadows ∧
    (State.abruptReset s d st).hubNeeds = s.hubNeeds ∧
    (State.abruptReset s d st).seeds = s.seeds ∧
    (State.abruptReset s d st).load = s.load ∧
    (State.abruptReset s d st).photonics = s.photonics ∧
    (State.abruptReset s d st).boot = s.boot ∧
    (State.abruptReset s d st).freeCount = s.freeCount := by
  unfold State.abruptReset
  try dsimp only
  (repeat' split) <;> simp_all -implicitDefEqProofs [↓prod_flip3, prod_flip]

@[simp] theorem State.startFence_kept (s : State) (d : Nat) :
    (State.startFence s d).pending = s.pending ∧
    (State.startFence s d).fuses = s.fuses ∧
    (State.startFence s d).shadows = s.shadows ∧
    (State.startFence s d).blobs = s.blobs ∧
    (State.startFence s d).blobShadows = s.blobShadows ∧
    (State.startFence s d).hubNeeds = s.hubNeeds ∧
    (State.startFence s d).commits = s.commits ∧
    (State.startFence s d).seeds = s.seeds ∧
    (State.startFence s d).load = s.load ∧
    (State.startFence s d).clusters = s.clusters ∧
    (State.startFence s d).memory = s.memory ∧
    (State.startFence s d).rig = s.rig ∧
    (State.startFence s d).photonics = s.photonics ∧
    (State.startFence s d).domain = s.domain ∧
    (State.startFence s d).messages = s.messages ∧
    (State.startFence s d).clocks = s.clocks ∧
    (State.startFence s d).thermal = s.thermal ∧
    (State.startFence s d).boot = s.boot ∧
    (State.startFence s d).freeCount = s.freeCount := by
  unfold State.startFence
  try dsimp only
  (repeat' split) <;> simp_all -implicitDefEqProofs [↓prod_flip3, prod_flip]

@[simp] theorem State.nextReset_kept (s : State) :
    (State.nextReset s).pending = s.pending ∧
    (State.nextReset s).fuses = s.fuses ∧
    (State.nextReset s).shadows = s.shadows ∧
    (State.nextReset s).blobs = s.blobs ∧
    (State.nextReset s).blobShadows = s.blobShadows ∧
    (State.nextReset s).hubNeeds = s.hubNeeds ∧
    (State.nextReset s).commits = s.commits ∧
    (State.nextReset s).seeds = s.seeds ∧
    (State.nextReset s).load = s.load ∧
    (State.nextReset s).clusters = s.clusters ∧
    (State.nextReset s).memory = s.memory ∧
    (State.nextReset s).rig = s.rig ∧
    (State.nextReset s).photonics = s.photonics ∧
    (State.nextReset s).domain = s.domain ∧
    (State.nextReset s).messages = s.messages ∧
    (State.nextReset s).clocks = s.clocks ∧
    (State.nextReset s).thermal = s.thermal ∧
    (State.nextReset s).boot = s.boot ∧
    (State.nextReset s).freeCount = s.freeCount := by
  unfold State.nextReset
  try dsimp only
  (repeat' split) <;> simp_all -implicitDefEqProofs [↓prod_flip3, prod_flip]

@[simp] theorem State.requestReset_kept (s : State) (d : Nat) :
    (State.requestReset s d).pending = s.pending ∧
    (State.requestReset s d).fuses = s.fuses ∧
    (State.requestReset s d).shadows = s.shadows ∧
    (State.requestReset s d).blobs = s.blobs ∧
    (State.requestReset s d).blobShadows = s.blobShadows ∧
    (State.requestReset s d).hubNeeds = s.hubNeeds ∧
    (State.requestReset s d).commits = s.commits ∧
    (State.requestReset s d).seeds = s.seeds ∧
    (State.requestReset s d).load = s.load ∧
    (State.requestReset s d).clusters = s.clusters ∧
    (State.requestReset s d).memory = s.memory ∧
    (State.requestReset s d).rig = s.rig ∧
    (State.requestReset s d).photonics = s.photonics ∧
    (State.requestReset s d).domain = s.domain ∧
    (State.requestReset s d).messages = s.messages ∧
    (State.requestReset s d).clocks = s.clocks ∧
    (State.requestReset s d).thermal = s.thermal ∧
    (State.requestReset s d).boot = s.boot ∧
    (State.requestReset s d).freeCount = s.freeCount := by
  unfold State.requestReset
  try dsimp only
  (repeat' split) <;> simp_all -implicitDefEqProofs [↓prod_flip3, prod_flip]

@[simp] theorem State.dieResetAction_kept (s : State) (d : Nat) :
    (State.dieResetAction s d).pending = s.pending ∧
    (State.dieResetAction s d).fuses = s.fuses ∧
    (State.dieResetAction s d).shadows = s.shadows ∧
    (State.dieResetAction s d).blobs = s.blobs ∧
    (State.dieResetAction s d).blobShadows = s.blobShadows ∧
    (State.dieResetAction s d).hubNeeds = s.hubNeeds ∧
    (State.dieResetAction s d).commits = s.commits ∧
    (State.dieResetAction s d).seeds = s.seeds ∧
    (State.dieResetAction s d).load = s.load ∧
    (State.dieResetAction s d).clusters = s.clusters ∧
    (State.dieResetAction s d).memory = s.memory ∧
    (State.dieResetAction s d).rig = s.rig ∧
    (State.dieResetAction s d).photonics = s.photonics ∧
    (State.dieResetAction s d).domain = s.domain ∧
    (State.dieResetAction s d).messages = s.messages ∧
    (State.dieResetAction s d).clocks = s.clocks ∧
    (State.dieResetAction s d).thermal = s.thermal ∧
    (State.dieResetAction s d).boot = s.boot ∧
    (State.dieResetAction s d).freeCount = s.freeCount := by
  unfold State.dieResetAction
  try dsimp only
  (repeat' split) <;> simp_all -implicitDefEqProofs [↓prod_flip3, prod_flip]

@[simp] theorem State.clusterOut_kept (s : State) (c : Nat) :
    (State.clusterOut s c).pending = s.pending ∧
    (State.clusterOut s c).fuses = s.fuses ∧
    (State.clusterOut s c).shadows = s.shadows ∧
    (State.clusterOut s c).blobs = s.blobs ∧
    (State.clusterOut s c).blobShadows = s.blobShadows ∧
    (State.clusterOut s c).hubNeeds = s.hubNeeds ∧
    (State.clusterOut s c).seeds = s.seeds ∧
    (State.clusterOut s c).load = s.load ∧
    (State.clusterOut s c).memory = s.memory ∧
    (State.clusterOut s c).rig = s.rig ∧
    (State.clusterOut s c).photonics = s.photonics ∧
    (State.clusterOut s c).domain = s.domain ∧
    (State.clusterOut s c).messages = s.messages ∧
    (State.clusterOut s c).package = s.package ∧
    (State.clusterOut s c).clocks = s.clocks ∧
    (State.clusterOut s c).thermal = s.thermal ∧
    (State.clusterOut s c).boot = s.boot ∧
    (State.clusterOut s c).freeCount = s.freeCount := by
  unfold State.clusterOut
  try dsimp only
  (repeat' split) <;> simp_all -implicitDefEqProofs [↓prod_flip3, prod_flip]

@[simp] theorem State.linkDead_kept (s : State) (id : Nat) :
    (State.linkDead s id).pending = s.pending ∧
    (State.linkDead s id).fuses = s.fuses ∧
    (State.linkDead s id).shadows = s.shadows ∧
    (State.linkDead s id).blobShadows = s.blobShadows ∧
    (State.linkDead s id).hubNeeds = s.hubNeeds ∧
    (State.linkDead s id).seeds = s.seeds ∧
    (State.linkDead s id).load = s.load ∧
    (State.linkDead s id).photonics = s.photonics ∧
    (State.linkDead s id).boot = s.boot ∧
    (State.linkDead s id).freeCount = s.freeCount := by
  unfold State.linkDead
  try dsimp only
  (repeat' split) <;> simp_all -implicitDefEqProofs [↓prod_flip3, prod_flip]

@[simp] theorem State.setMask_kept (s : State) (id : Nat) (mask : Nat) :
    (State.setMask s id mask).pending = s.pending ∧
    (State.setMask s id mask).fuses = s.fuses ∧
    (State.setMask s id mask).shadows = s.shadows ∧
    (State.setMask s id mask).blobShadows = s.blobShadows ∧
    (State.setMask s id mask).hubNeeds = s.hubNeeds ∧
    (State.setMask s id mask).seeds = s.seeds ∧
    (State.setMask s id mask).load = s.load ∧
    (State.setMask s id mask).photonics = s.photonics ∧
    (State.setMask s id mask).boot = s.boot ∧
    (State.setMask s id mask).freeCount = s.freeCount := by
  unfold State.setMask
  try dsimp only
  (repeat' split) <;> simp_all -implicitDefEqProofs [↓prod_flip3, prod_flip]

@[simp] theorem State.retireStay_kept (s : State) (id : Nat) (stay : Nat) :
    (State.retireStay s id stay).pending = s.pending ∧
    (State.retireStay s id stay).fuses = s.fuses ∧
    (State.retireStay s id stay).shadows = s.shadows ∧
    (State.retireStay s id stay).blobShadows = s.blobShadows ∧
    (State.retireStay s id stay).hubNeeds = s.hubNeeds ∧
    (State.retireStay s id stay).seeds = s.seeds ∧
    (State.retireStay s id stay).load = s.load ∧
    (State.retireStay s id stay).photonics = s.photonics ∧
    (State.retireStay s id stay).boot = s.boot ∧
    (State.retireStay s id stay).freeCount = s.freeCount := by
  unfold State.retireStay
  try dsimp only
  (repeat' split) <;> simp_all -implicitDefEqProofs [↓prod_flip3, prod_flip]

@[simp] theorem State.repairEvent_kept (s : State) (link : Nat) (stay : Nat) (bond : Nat) (retired : Bool) :
    (State.repairEvent s link stay bond retired).pending = s.pending ∧
    (State.repairEvent s link stay bond retired).fuses = s.fuses ∧
    (State.repairEvent s link stay bond retired).shadows = s.shadows ∧
    (State.repairEvent s link stay bond retired).blobs = s.blobs ∧
    (State.repairEvent s link stay bond retired).blobShadows = s.blobShadows ∧
    (State.repairEvent s link stay bond retired).hubNeeds = s.hubNeeds ∧
    (State.repairEvent s link stay bond retired).commits = s.commits ∧
    (State.repairEvent s link stay bond retired).seeds = s.seeds ∧
    (State.repairEvent s link stay bond retired).load = s.load ∧
    (State.repairEvent s link stay bond retired).clusters = s.clusters ∧
    (State.repairEvent s link stay bond retired).ctxs = s.ctxs ∧
    (State.repairEvent s link stay bond retired).memory = s.memory ∧
    (State.repairEvent s link stay bond retired).rig = s.rig ∧
    (State.repairEvent s link stay bond retired).coll = s.coll ∧
    (State.repairEvent s link stay bond retired).photonics = s.photonics ∧
    (State.repairEvent s link stay bond retired).domain = s.domain ∧
    (State.repairEvent s link stay bond retired).messages = s.messages ∧
    (State.repairEvent s link stay bond retired).package = s.package ∧
    (State.repairEvent s link stay bond retired).clocks = s.clocks ∧
    (State.repairEvent s link stay bond retired).thermal = s.thermal ∧
    (State.repairEvent s link stay bond retired).boot = s.boot ∧
    (State.repairEvent s link stay bond retired).freeCount = s.freeCount := by
  unfold State.repairEvent
  try dsimp only
  (repeat' split) <;> simp_all -implicitDefEqProofs [↓prod_flip3, prod_flip]

@[simp] theorem State.swapBond_kept (s : State) (link : Nat) (stay : Nat) (bond : Nat) :
    (State.swapBond s link stay bond).pending = s.pending ∧
    (State.swapBond s link stay bond).fuses = s.fuses ∧
    (State.swapBond s link stay bond).shadows = s.shadows ∧
    (State.swapBond s link stay bond).blobs = s.blobs ∧
    (State.swapBond s link stay bond).blobShadows = s.blobShadows ∧
    (State.swapBond s link stay bond).hubNeeds = s.hubNeeds ∧
    (State.swapBond s link stay bond).commits = s.commits ∧
    (State.swapBond s link stay bond).seeds = s.seeds ∧
    (State.swapBond s link stay bond).load = s.load ∧
    (State.swapBond s link stay bond).clusters = s.clusters ∧
    (State.swapBond s link stay bond).ctxs = s.ctxs ∧
    (State.swapBond s link stay bond).memory = s.memory ∧
    (State.swapBond s link stay bond).rig = s.rig ∧
    (State.swapBond s link stay bond).coll = s.coll ∧
    (State.swapBond s link stay bond).photonics = s.photonics ∧
    (State.swapBond s link stay bond).domain = s.domain ∧
    (State.swapBond s link stay bond).messages = s.messages ∧
    (State.swapBond s link stay bond).clocks = s.clocks ∧
    (State.swapBond s link stay bond).thermal = s.thermal ∧
    (State.swapBond s link stay bond).boot = s.boot ∧
    (State.swapBond s link stay bond).freeCount = s.freeCount := by
  unfold State.swapBond
  try dsimp only
  (repeat' split) <;> simp_all -implicitDefEqProofs [↓prod_flip3, prod_flip]

@[simp] theorem State.repairedLane_kept (s : State) (link : Nat) :
    (State.repairedLane s link).pending = s.pending ∧
    (State.repairedLane s link).fuses = s.fuses ∧
    (State.repairedLane s link).shadows = s.shadows ∧
    (State.repairedLane s link).blobs = s.blobs ∧
    (State.repairedLane s link).blobShadows = s.blobShadows ∧
    (State.repairedLane s link).hubNeeds = s.hubNeeds ∧
    (State.repairedLane s link).commits = s.commits ∧
    (State.repairedLane s link).seeds = s.seeds ∧
    (State.repairedLane s link).load = s.load ∧
    (State.repairedLane s link).clusters = s.clusters ∧
    (State.repairedLane s link).ctxs = s.ctxs ∧
    (State.repairedLane s link).memory = s.memory ∧
    (State.repairedLane s link).coll = s.coll ∧
    (State.repairedLane s link).photonics = s.photonics ∧
    (State.repairedLane s link).domain = s.domain ∧
    (State.repairedLane s link).messages = s.messages ∧
    (State.repairedLane s link).package = s.package ∧
    (State.repairedLane s link).clocks = s.clocks ∧
    (State.repairedLane s link).thermal = s.thermal ∧
    (State.repairedLane s link).boot = s.boot ∧
    (State.repairedLane s link).freeCount = s.freeCount := by
  unfold State.repairedLane
  try dsimp only
  (repeat' split) <;> simp_all -implicitDefEqProofs [↓prod_flip3, prod_flip]

@[simp] theorem State.enterTraining_kept (s : State) (d : Nat) :
    (State.enterTraining s d).pending = s.pending ∧
    (State.enterTraining s d).fuses = s.fuses ∧
    (State.enterTraining s d).shadows = s.shadows ∧
    (State.enterTraining s d).blobs = s.blobs ∧
    (State.enterTraining s d).blobShadows = s.blobShadows ∧
    (State.enterTraining s d).hubNeeds = s.hubNeeds ∧
    (State.enterTraining s d).commits = s.commits ∧
    (State.enterTraining s d).seeds = s.seeds ∧
    (State.enterTraining s d).load = s.load ∧
    (State.enterTraining s d).clusters = s.clusters ∧
    (State.enterTraining s d).ctxs = s.ctxs ∧
    (State.enterTraining s d).memory = s.memory ∧
    (State.enterTraining s d).rig = s.rig ∧
    (State.enterTraining s d).coll = s.coll ∧
    (State.enterTraining s d).photonics = s.photonics ∧
    (State.enterTraining s d).domain = s.domain ∧
    (State.enterTraining s d).messages = s.messages ∧
    (State.enterTraining s d).clocks = s.clocks ∧
    (State.enterTraining s d).thermal = s.thermal ∧
    (State.enterTraining s d).boot = s.boot ∧
    (State.enterTraining s d).freeCount = s.freeCount := by
  unfold State.enterTraining
  try dsimp only
  (repeat' split) <;> simp_all -implicitDefEqProofs [↓prod_flip3, prod_flip]

@[simp] theorem State.laneBack_kept (s : State) (id : Nat) :
    (State.laneBack s id).pending = s.pending ∧
    (State.laneBack s id).fuses = s.fuses ∧
    (State.laneBack s id).shadows = s.shadows ∧
    (State.laneBack s id).blobs = s.blobs ∧
    (State.laneBack s id).blobShadows = s.blobShadows ∧
    (State.laneBack s id).hubNeeds = s.hubNeeds ∧
    (State.laneBack s id).commits = s.commits ∧
    (State.laneBack s id).seeds = s.seeds ∧
    (State.laneBack s id).load = s.load ∧
    (State.laneBack s id).clusters = s.clusters ∧
    (State.laneBack s id).ctxs = s.ctxs ∧
    (State.laneBack s id).memory = s.memory ∧
    (State.laneBack s id).coll = s.coll ∧
    (State.laneBack s id).photonics = s.photonics ∧
    (State.laneBack s id).domain = s.domain ∧
    (State.laneBack s id).messages = s.messages ∧
    (State.laneBack s id).package = s.package ∧
    (State.laneBack s id).clocks = s.clocks ∧
    (State.laneBack s id).thermal = s.thermal ∧
    (State.laneBack s id).boot = s.boot ∧
    (State.laneBack s id).freeCount = s.freeCount := by
  unfold State.laneBack
  try dsimp only
  (repeat' split) <;> simp_all -implicitDefEqProofs [↓prod_flip3, prod_flip]

@[simp] theorem State.restartDone_kept (s : State) :
    (State.restartDone s).pending = s.pending ∧
    (State.restartDone s).fuses = s.fuses ∧
    (State.restartDone s).shadows = s.shadows ∧
    (State.restartDone s).blobs = s.blobs ∧
    (State.restartDone s).blobShadows = s.blobShadows ∧
    (State.restartDone s).hubNeeds = s.hubNeeds ∧
    (State.restartDone s).commits = s.commits ∧
    (State.restartDone s).seeds = s.seeds ∧
    (State.restartDone s).load = s.load ∧
    (State.restartDone s).clusters = s.clusters ∧
    (State.restartDone s).ctxs = s.ctxs ∧
    (State.restartDone s).memory = s.memory ∧
    (State.restartDone s).rig = s.rig ∧
    (State.restartDone s).coll = s.coll ∧
    (State.restartDone s).photonics = s.photonics ∧
    (State.restartDone s).domain = s.domain ∧
    (State.restartDone s).messages = s.messages ∧
    (State.restartDone s).package = s.package ∧
    (State.restartDone s).clocks = s.clocks ∧
    (State.restartDone s).thermal = s.thermal ∧
    (State.restartDone s).control = s.control ∧
    (State.restartDone s).boot = s.boot ∧
    (State.restartDone s).dbg = s.dbg ∧
    (State.restartDone s).freeCount = s.freeCount := by
  unfold State.restartDone
  try dsimp only
  (repeat' split) <;> simp_all -implicitDefEqProofs [↓prod_flip3, prod_flip]

@[simp] theorem State.clocksBack_kept (s : State) (t : Nat) :
    (State.clocksBack s t).pending = s.pending ∧
    (State.clocksBack s t).fuses = s.fuses ∧
    (State.clocksBack s t).shadows = s.shadows ∧
    (State.clocksBack s t).blobShadows = s.blobShadows ∧
    (State.clocksBack s t).hubNeeds = s.hubNeeds ∧
    (State.clocksBack s t).seeds = s.seeds ∧
    (State.clocksBack s t).load = s.load ∧
    (State.clocksBack s t).photonics = s.photonics ∧
    (State.clocksBack s t).package = s.package ∧
    (State.clocksBack s t).thermal = s.thermal ∧
    (State.clocksBack s t).boot = s.boot ∧
    (State.clocksBack s t).freeCount = s.freeCount := by
  unfold State.clocksBack
  try dsimp only
  (repeat' split) <;> simp_all -implicitDefEqProofs [↓prod_flip3, prod_flip]

@[simp] theorem State.dieBack_kept (s : State) (d : Nat) :
    (State.dieBack s d).pending = s.pending ∧
    (State.dieBack s d).fuses = s.fuses ∧
    (State.dieBack s d).shadows = s.shadows ∧
    (State.dieBack s d).blobShadows = s.blobShadows ∧
    (State.dieBack s d).hubNeeds = s.hubNeeds ∧
    (State.dieBack s d).seeds = s.seeds ∧
    (State.dieBack s d).load = s.load ∧
    (State.dieBack s d).photonics = s.photonics ∧
    (State.dieBack s d).thermal = s.thermal ∧
    (State.dieBack s d).boot = s.boot ∧
    (State.dieBack s d).freeCount = s.freeCount := by
  unfold State.dieBack
  try dsimp only
  (repeat' split) <;> simp_all -implicitDefEqProofs [↓prod_flip3, prod_flip]

@[simp] theorem State.agreed_kept (s : State) (d : Nat) (id : Nat) (mask : Nat) :
    (State.agreed s d id mask).pending = s.pending ∧
    (State.agreed s d id mask).fuses = s.fuses ∧
    (State.agreed s d id mask).shadows = s.shadows ∧
    (State.agreed s d id mask).blobShadows = s.blobShadows ∧
    (State.agreed s d id mask).hubNeeds = s.hubNeeds ∧
    (State.agreed s d id mask).seeds = s.seeds ∧
    (State.agreed s d id mask).load = s.load ∧
    (State.agreed s d id mask).photonics = s.photonics ∧
    (State.agreed s d id mask).boot = s.boot ∧
    (State.agreed s d id mask).freeCount = s.freeCount := by
  unfold State.agreed
  try dsimp only
  (repeat' split) <;> simp_all -implicitDefEqProofs [↓prod_flip3, prod_flip]

@[simp] theorem State.dieFails_kept (s : State) (d : Nat) :
    (State.dieFails s d).pending = s.pending ∧
    (State.dieFails s d).fuses = s.fuses ∧
    (State.dieFails s d).shadows = s.shadows ∧
    (State.dieFails s d).blobs = s.blobs ∧
    (State.dieFails s d).blobShadows = s.blobShadows ∧
    (State.dieFails s d).hubNeeds = s.hubNeeds ∧
    (State.dieFails s d).commits = s.commits ∧
    (State.dieFails s d).seeds = s.seeds ∧
    (State.dieFails s d).load = s.load ∧
    (State.dieFails s d).ctxs = s.ctxs ∧
    (State.dieFails s d).coll = s.coll ∧
    (State.dieFails s d).photonics = s.photonics ∧
    (State.dieFails s d).domain = s.domain ∧
    (State.dieFails s d).messages = s.messages ∧
    (State.dieFails s d).clocks = s.clocks ∧
    (State.dieFails s d).thermal = s.thermal ∧
    (State.dieFails s d).boot = s.boot ∧
    (State.dieFails s d).dbg = s.dbg ∧
    (State.dieFails s d).freeCount = s.freeCount := by
  unfold State.dieFails
  try dsimp only
  (repeat' split) <;> simp_all -implicitDefEqProofs [↓prod_flip3, prod_flip]

@[simp] theorem State.checkDie_kept (s : State) (d : Nat) :
    (State.checkDie s d).pending = s.pending ∧
    (State.checkDie s d).fuses = s.fuses ∧
    (State.checkDie s d).shadows = s.shadows ∧
    (State.checkDie s d).blobs = s.blobs ∧
    (State.checkDie s d).blobShadows = s.blobShadows ∧
    (State.checkDie s d).hubNeeds = s.hubNeeds ∧
    (State.checkDie s d).commits = s.commits ∧
    (State.checkDie s d).seeds = s.seeds ∧
    (State.checkDie s d).load = s.load ∧
    (State.checkDie s d).ctxs = s.ctxs ∧
    (State.checkDie s d).coll = s.coll ∧
    (State.checkDie s d).photonics = s.photonics ∧
    (State.checkDie s d).domain = s.domain ∧
    (State.checkDie s d).messages = s.messages ∧
    (State.checkDie s d).clocks = s.clocks ∧
    (State.checkDie s d).thermal = s.thermal ∧
    (State.checkDie s d).boot = s.boot ∧
    (State.checkDie s d).freeCount = s.freeCount := by
  unfold State.checkDie
  try dsimp only
  (repeat' split) <;> simp_all -implicitDefEqProofs [↓prod_flip3, prod_flip]

@[simp] theorem State.measurePath_kept (s : State) (d : Nat) (roundTrip : Nat) :
    (State.measurePath s d roundTrip).pending = s.pending ∧
    (State.measurePath s d roundTrip).fuses = s.fuses ∧
    (State.measurePath s d roundTrip).regs = s.regs ∧
    (State.measurePath s d roundTrip).shadows = s.shadows ∧
    (State.measurePath s d roundTrip).blobs = s.blobs ∧
    (State.measurePath s d roundTrip).blobShadows = s.blobShadows ∧
    (State.measurePath s d roundTrip).hubNeeds = s.hubNeeds ∧
    (State.measurePath s d roundTrip).commits = s.commits ∧
    (State.measurePath s d roundTrip).seeds = s.seeds ∧
    (State.measurePath s d roundTrip).load = s.load ∧
    (State.measurePath s d roundTrip).clusters = s.clusters ∧
    (State.measurePath s d roundTrip).ctxs = s.ctxs ∧
    (State.measurePath s d roundTrip).memory = s.memory ∧
    (State.measurePath s d roundTrip).rig = s.rig ∧
    (State.measurePath s d roundTrip).coll = s.coll ∧
    (State.measurePath s d roundTrip).photonics = s.photonics ∧
    (State.measurePath s d roundTrip).domain = s.domain ∧
    (State.measurePath s d roundTrip).messages = s.messages ∧
    (State.measurePath s d roundTrip).package = s.package ∧
    (State.measurePath s d roundTrip).thermal = s.thermal ∧
    (State.measurePath s d roundTrip).control = s.control ∧
    (State.measurePath s d roundTrip).boot = s.boot ∧
    (State.measurePath s d roundTrip).dbg = s.dbg := by
  unfold State.measurePath
  try dsimp only
  (repeat' split) <;> simp_all -implicitDefEqProofs [↓prod_flip3, prod_flip]

@[simp] theorem State.liftDeferral_kept (s : State) (x : Nat) :
    (State.liftDeferral s x).pending = s.pending ∧
    (State.liftDeferral s x).fuses = s.fuses ∧
    (State.liftDeferral s x).regs = s.regs ∧
    (State.liftDeferral s x).shadows = s.shadows ∧
    (State.liftDeferral s x).blobs = s.blobs ∧
    (State.liftDeferral s x).blobShadows = s.blobShadows ∧
    (State.liftDeferral s x).hubNeeds = s.hubNeeds ∧
    (State.liftDeferral s x).commits = s.commits ∧
    (State.liftDeferral s x).seeds = s.seeds ∧
    (State.liftDeferral s x).load = s.load ∧
    (State.liftDeferral s x).clusters = s.clusters ∧
    (State.liftDeferral s x).memory = s.memory ∧
    (State.liftDeferral s x).rig = s.rig ∧
    (State.liftDeferral s x).coll = s.coll ∧
    (State.liftDeferral s x).photonics = s.photonics ∧
    (State.liftDeferral s x).domain = s.domain ∧
    (State.liftDeferral s x).messages = s.messages ∧
    (State.liftDeferral s x).package = s.package ∧
    (State.liftDeferral s x).clocks = s.clocks ∧
    (State.liftDeferral s x).thermal = s.thermal ∧
    (State.liftDeferral s x).control = s.control ∧
    (State.liftDeferral s x).boot = s.boot ∧
    (State.liftDeferral s x).dbg = s.dbg ∧
    (State.liftDeferral s x).freeCount = s.freeCount := by
  unfold State.liftDeferral
  try dsimp only
  (repeat' split) <;> simp_all -implicitDefEqProofs [↓prod_flip3, prod_flip]

@[simp] theorem State.liftDeferrals_kept (s : State) :
    (State.liftDeferrals s).pending = s.pending ∧
    (State.liftDeferrals s).fuses = s.fuses ∧
    (State.liftDeferrals s).regs = s.regs ∧
    (State.liftDeferrals s).shadows = s.shadows ∧
    (State.liftDeferrals s).blobs = s.blobs ∧
    (State.liftDeferrals s).blobShadows = s.blobShadows ∧
    (State.liftDeferrals s).hubNeeds = s.hubNeeds ∧
    (State.liftDeferrals s).commits = s.commits ∧
    (State.liftDeferrals s).seeds = s.seeds ∧
    (State.liftDeferrals s).load = s.load ∧
    (State.liftDeferrals s).clusters = s.clusters ∧
    (State.liftDeferrals s).memory = s.memory ∧
    (State.liftDeferrals s).rig = s.rig ∧
    (State.liftDeferrals s).coll = s.coll ∧
    (State.liftDeferrals s).photonics = s.photonics ∧
    (State.liftDeferrals s).domain = s.domain ∧
    (State.liftDeferrals s).messages = s.messages ∧
    (State.liftDeferrals s).package = s.package ∧
    (State.liftDeferrals s).clocks = s.clocks ∧
    (State.liftDeferrals s).thermal = s.thermal ∧
    (State.liftDeferrals s).control = s.control ∧
    (State.liftDeferrals s).boot = s.boot ∧
    (State.liftDeferrals s).dbg = s.dbg ∧
    (State.liftDeferrals s).freeCount = s.freeCount := by
  unfold State.liftDeferrals
  try dsimp only
  (repeat' split) <;> simp_all -implicitDefEqProofs [↓prod_flip3, prod_flip]

@[simp] theorem State.markTower_kept (s : State) (t : Nat) :
    (State.markTower s t).pending = s.pending ∧
    (State.markTower s t).fuses = s.fuses ∧
    (State.markTower s t).regs = s.regs ∧
    (State.markTower s t).shadows = s.shadows ∧
    (State.markTower s t).blobs = s.blobs ∧
    (State.markTower s t).blobShadows = s.blobShadows ∧
    (State.markTower s t).hubNeeds = s.hubNeeds ∧
    (State.markTower s t).commits = s.commits ∧
    (State.markTower s t).seeds = s.seeds ∧
    (State.markTower s t).load = s.load ∧
    (State.markTower s t).clusters = s.clusters ∧
    (State.markTower s t).ctxs = s.ctxs ∧
    (State.markTower s t).rig = s.rig ∧
    (State.markTower s t).coll = s.coll ∧
    (State.markTower s t).photonics = s.photonics ∧
    (State.markTower s t).domain = s.domain ∧
    (State.markTower s t).messages = s.messages ∧
    (State.markTower s t).package = s.package ∧
    (State.markTower s t).clocks = s.clocks ∧
    (State.markTower s t).thermal = s.thermal ∧
    (State.markTower s t).control = s.control ∧
    (State.markTower s t).boot = s.boot ∧
    (State.markTower s t).dbg = s.dbg ∧
    (State.markTower s t).freeCount = s.freeCount := by
  unfold State.markTower
  try dsimp only
  (repeat' split) <;> simp_all -implicitDefEqProofs [↓prod_flip3, prod_flip]

@[simp] theorem State.measureItem_kept (s : State) (tag : Nat) (item : List Byte) :
    (State.measureItem s tag item).pending = s.pending ∧
    (State.measureItem s tag item).fuses = s.fuses ∧
    (State.measureItem s tag item).regs = s.regs ∧
    (State.measureItem s tag item).shadows = s.shadows ∧
    (State.measureItem s tag item).blobs = s.blobs ∧
    (State.measureItem s tag item).blobShadows = s.blobShadows ∧
    (State.measureItem s tag item).hubNeeds = s.hubNeeds ∧
    (State.measureItem s tag item).commits = s.commits ∧
    (State.measureItem s tag item).seeds = s.seeds ∧
    (State.measureItem s tag item).load = s.load ∧
    (State.measureItem s tag item).clusters = s.clusters ∧
    (State.measureItem s tag item).ctxs = s.ctxs ∧
    (State.measureItem s tag item).memory = s.memory ∧
    (State.measureItem s tag item).rig = s.rig ∧
    (State.measureItem s tag item).coll = s.coll ∧
    (State.measureItem s tag item).photonics = s.photonics ∧
    (State.measureItem s tag item).domain = s.domain ∧
    (State.measureItem s tag item).messages = s.messages ∧
    (State.measureItem s tag item).package = s.package ∧
    (State.measureItem s tag item).clocks = s.clocks ∧
    (State.measureItem s tag item).thermal = s.thermal ∧
    (State.measureItem s tag item).control = s.control ∧
    (State.measureItem s tag item).dbg = s.dbg ∧
    (State.measureItem s tag item).freeCount = s.freeCount := by
  unfold State.measureItem
  try dsimp only
  (repeat' split) <;> simp_all -implicitDefEqProofs [↓prod_flip3, prod_flip]

@[simp] theorem State.guestFloor_kept (s : State) (g : Nat) :
    (State.guestFloor s g).pending = s.pending ∧
    (State.guestFloor s g).fuses = s.fuses ∧
    (State.guestFloor s g).shadows = s.shadows ∧
    (State.guestFloor s g).blobs = s.blobs ∧
    (State.guestFloor s g).blobShadows = s.blobShadows ∧
    (State.guestFloor s g).hubNeeds = s.hubNeeds ∧
    (State.guestFloor s g).seeds = s.seeds ∧
    (State.guestFloor s g).load = s.load ∧
    (State.guestFloor s g).clusters = s.clusters ∧
    (State.guestFloor s g).ctxs = s.ctxs ∧
    (State.guestFloor s g).memory = s.memory ∧
    (State.guestFloor s g).rig = s.rig ∧
    (State.guestFloor s g).coll = s.coll ∧
    (State.guestFloor s g).photonics = s.photonics ∧
    (State.guestFloor s g).domain = s.domain ∧
    (State.guestFloor s g).messages = s.messages ∧
    (State.guestFloor s g).clocks = s.clocks ∧
    (State.guestFloor s g).thermal = s.thermal ∧
    (State.guestFloor s g).boot = s.boot ∧
    (State.guestFloor s g).dbg = s.dbg ∧
    (State.guestFloor s g).freeCount = s.freeCount := by
  unfold State.guestFloor
  try dsimp only
  (repeat' split) <;> simp_all -implicitDefEqProofs [↓prod_flip3, prod_flip]

@[simp] theorem State.sendCapability_kept (s : State) (g : Nat) (modules : Nat) :
    (State.sendCapability s g modules).pending = s.pending ∧
    (State.sendCapability s g modules).fuses = s.fuses ∧
    (State.sendCapability s g modules).regs = s.regs ∧
    (State.sendCapability s g modules).shadows = s.shadows ∧
    (State.sendCapability s g modules).blobs = s.blobs ∧
    (State.sendCapability s g modules).blobShadows = s.blobShadows ∧
    (State.sendCapability s g modules).hubNeeds = s.hubNeeds ∧
    (State.sendCapability s g modules).commits = s.commits ∧
    (State.sendCapability s g modules).seeds = s.seeds ∧
    (State.sendCapability s g modules).load = s.load ∧
    (State.sendCapability s g modules).clusters = s.clusters ∧
    (State.sendCapability s g modules).ctxs = s.ctxs ∧
    (State.sendCapability s g modules).memory = s.memory ∧
    (State.sendCapability s g modules).rig = s.rig ∧
    (State.sendCapability s g modules).coll = s.coll ∧
    (State.sendCapability s g modules).photonics = s.photonics ∧
    (State.sendCapability s g modules).messages = s.messages ∧
    (State.sendCapability s g modules).package = s.package ∧
    (State.sendCapability s g modules).clocks = s.clocks ∧
    (State.sendCapability s g modules).thermal = s.thermal ∧
    (State.sendCapability s g modules).boot = s.boot ∧
    (State.sendCapability s g modules).dbg = s.dbg := by
  unfold State.sendCapability
  try dsimp only
  (repeat' split) <;> simp_all -implicitDefEqProofs [↓prod_flip3, prod_flip]

@[simp] theorem State.writeResult_kept (s : State) (g : Nat) (result : Nat) :
    (State.writeResult s g result).pending = s.pending ∧
    (State.writeResult s g result).fuses = s.fuses ∧
    (State.writeResult s g result).regs = s.regs ∧
    (State.writeResult s g result).shadows = s.shadows ∧
    (State.writeResult s g result).blobs = s.blobs ∧
    (State.writeResult s g result).blobShadows = s.blobShadows ∧
    (State.writeResult s g result).hubNeeds = s.hubNeeds ∧
    (State.writeResult s g result).commits = s.commits ∧
    (State.writeResult s g result).seeds = s.seeds ∧
    (State.writeResult s g result).load = s.load ∧
    (State.writeResult s g result).clusters = s.clusters ∧
    (State.writeResult s g result).ctxs = s.ctxs ∧
    (State.writeResult s g result).rig = s.rig ∧
    (State.writeResult s g result).coll = s.coll ∧
    (State.writeResult s g result).photonics = s.photonics ∧
    (State.writeResult s g result).domain = s.domain ∧
    (State.writeResult s g result).messages = s.messages ∧
    (State.writeResult s g result).package = s.package ∧
    (State.writeResult s g result).clocks = s.clocks ∧
    (State.writeResult s g result).thermal = s.thermal ∧
    (State.writeResult s g result).control = s.control ∧
    (State.writeResult s g result).boot = s.boot ∧
    (State.writeResult s g result).dbg = s.dbg ∧
    (State.writeResult s g result).freeCount = s.freeCount := by
  unfold State.writeResult
  try dsimp only
  (repeat' split) <;> simp_all -implicitDefEqProofs [↓prod_flip3, prod_flip]

@[simp] theorem State.raiseGuestMinimum_kept (s : State) (g : Nat) (secver : Nat) :
    (State.raiseGuestMinimum s g secver).pending = s.pending ∧
    (State.raiseGuestMinimum s g secver).fuses = s.fuses ∧
    (State.raiseGuestMinimum s g secver).regs = s.regs ∧
    (State.raiseGuestMinimum s g secver).shadows = s.shadows ∧
    (State.raiseGuestMinimum s g secver).blobs = s.blobs ∧
    (State.raiseGuestMinimum s g secver).blobShadows = s.blobShadows ∧
    (State.raiseGuestMinimum s g secver).hubNeeds = s.hubNeeds ∧
    (State.raiseGuestMinimum s g secver).commits = s.commits ∧
    (State.raiseGuestMinimum s g secver).seeds = s.seeds ∧
    (State.raiseGuestMinimum s g secver).load = s.load ∧
    (State.raiseGuestMinimum s g secver).clusters = s.clusters ∧
    (State.raiseGuestMinimum s g secver).ctxs = s.ctxs ∧
    (State.raiseGuestMinimum s g secver).memory = s.memory ∧
    (State.raiseGuestMinimum s g secver).rig = s.rig ∧
    (State.raiseGuestMinimum s g secver).coll = s.coll ∧
    (State.raiseGuestMinimum s g secver).photonics = s.photonics ∧
    (State.raiseGuestMinimum s g secver).domain = s.domain ∧
    (State.raiseGuestMinimum s g secver).messages = s.messages ∧
    (State.raiseGuestMinimum s g secver).package = s.package ∧
    (State.raiseGuestMinimum s g secver).clocks = s.clocks ∧
    (State.raiseGuestMinimum s g secver).thermal = s.thermal ∧
    (State.raiseGuestMinimum s g secver).control = s.control ∧
    (State.raiseGuestMinimum s g secver).dbg = s.dbg ∧
    (State.raiseGuestMinimum s g secver).freeCount = s.freeCount := by
  unfold State.raiseGuestMinimum
  try dsimp only
  (repeat' split) <;> simp_all -implicitDefEqProofs [↓prod_flip3, prod_flip]

@[simp] theorem State.refuseGuest_kept (s : State) (g : Nat) (r : Req) (code : Nat) :
    (State.refuseGuest s g r code).pending = s.pending ∧
    (State.refuseGuest s g r code).fuses = s.fuses ∧
    (State.refuseGuest s g r code).shadows = s.shadows ∧
    (State.refuseGuest s g r code).blobs = s.blobs ∧
    (State.refuseGuest s g r code).blobShadows = s.blobShadows ∧
    (State.refuseGuest s g r code).hubNeeds = s.hubNeeds ∧
    (State.refuseGuest s g r code).commits = s.commits ∧
    (State.refuseGuest s g r code).seeds = s.seeds ∧
    (State.refuseGuest s g r code).load = s.load ∧
    (State.refuseGuest s g r code).clusters = s.clusters ∧
    (State.refuseGuest s g r code).ctxs = s.ctxs ∧
    (State.refuseGuest s g r code).memory = s.memory ∧
    (State.refuseGuest s g r code).rig = s.rig ∧
    (State.refuseGuest s g r code).coll = s.coll ∧
    (State.refuseGuest s g r code).photonics = s.photonics ∧
    (State.refuseGuest s g r code).messages = s.messages ∧
    (State.refuseGuest s g r code).clocks = s.clocks ∧
    (State.refuseGuest s g r code).thermal = s.thermal ∧
    (State.refuseGuest s g r code).boot = s.boot ∧
    (State.refuseGuest s g r code).freeCount = s.freeCount := by
  unfold State.refuseGuest
  try dsimp only
  (repeat' split) <;> simp_all -implicitDefEqProofs [↓prod_flip3, prod_flip]

@[simp] theorem State.guestMailbox_kept (s : State) (g : Nat) (r : Req) :
    (State.guestMailbox s g r).pending = s.pending ∧
    (State.guestMailbox s g r).fuses = s.fuses ∧
    (State.guestMailbox s g r).shadows = s.shadows ∧
    (State.guestMailbox s g r).blobShadows = s.blobShadows ∧
    (State.guestMailbox s g r).hubNeeds = s.hubNeeds ∧
    (State.guestMailbox s g r).commits = s.commits ∧
    (State.guestMailbox s g r).seeds = s.seeds ∧
    (State.guestMailbox s g r).load = s.load ∧
    (State.guestMailbox s g r).ctxs = s.ctxs ∧
    (State.guestMailbox s g r).rig = s.rig ∧
    (State.guestMailbox s g r).coll = s.coll ∧
    (State.guestMailbox s g r).photonics = s.photonics ∧
    (State.guestMailbox s g r).messages = s.messages ∧
    (State.guestMailbox s g r).clocks = s.clocks ∧
    (State.guestMailbox s g r).thermal = s.thermal ∧
    (State.guestMailbox s g r).boot = s.boot ∧
    (State.guestMailbox s g r).freeCount = s.freeCount := by
  unfold State.guestMailbox
  try dsimp only
  (repeat' split) <;> simp_all -implicitDefEqProofs [↓prod_flip3, prod_flip]

@[simp] theorem State.guestDomain_kept (s : State) (g : Nat) (r : Req) :
    (State.guestDomain s g r).pending = s.pending ∧
    (State.guestDomain s g r).fuses = s.fuses ∧
    (State.guestDomain s g r).shadows = s.shadows ∧
    (State.guestDomain s g r).blobShadows = s.blobShadows ∧
    (State.guestDomain s g r).hubNeeds = s.hubNeeds ∧
    (State.guestDomain s g r).commits = s.commits ∧
    (State.guestDomain s g r).seeds = s.seeds ∧
    (State.guestDomain s g r).load = s.load ∧
    (State.guestDomain s g r).coll = s.coll ∧
    (State.guestDomain s g r).photonics = s.photonics ∧
    (State.guestDomain s g r).messages = s.messages ∧
    (State.guestDomain s g r).thermal = s.thermal ∧
    (State.guestDomain s g r).boot = s.boot ∧
    (State.guestDomain s g r).freeCount = s.freeCount := by
  unfold State.guestDomain
  try dsimp only
  (repeat' split) <;> simp_all -implicitDefEqProofs [↓prod_flip3, prod_flip]

@[simp] theorem State.guestGone_kept (s : State) (g : Nat) :
    (State.guestGone s g).pending = s.pending ∧
    (State.guestGone s g).fuses = s.fuses ∧
    (State.guestGone s g).shadows = s.shadows ∧
    (State.guestGone s g).blobs = s.blobs ∧
    (State.guestGone s g).blobShadows = s.blobShadows ∧
    (State.guestGone s g).hubNeeds = s.hubNeeds ∧
    (State.guestGone s g).commits = s.commits ∧
    (State.guestGone s g).seeds = s.seeds ∧
    (State.guestGone s g).load = s.load ∧
    (State.guestGone s g).clusters = s.clusters ∧
    (State.guestGone s g).ctxs = s.ctxs ∧
    (State.guestGone s g).memory = s.memory ∧
    (State.guestGone s g).coll = s.coll ∧
    (State.guestGone s g).photonics = s.photonics ∧
    (State.guestGone s g).messages = s.messages ∧
    (State.guestGone s g).clocks = s.clocks ∧
    (State.guestGone s g).thermal = s.thermal ∧
    (State.guestGone s g).boot = s.boot ∧
    (State.guestGone s g).freeCount = s.freeCount := by
  unfold State.guestGone
  try dsimp only
  (repeat' split) <;> simp_all -implicitDefEqProofs [↓prod_flip3, prod_flip]

@[simp] theorem State.guestAction_kept (s : State) (value : Nat) :
    (State.guestAction s value).pending = s.pending ∧
    (State.guestAction s value).fuses = s.fuses ∧
    (State.guestAction s value).shadows = s.shadows ∧
    (State.guestAction s value).blobs = s.blobs ∧
    (State.guestAction s value).blobShadows = s.blobShadows ∧
    (State.guestAction s value).hubNeeds = s.hubNeeds ∧
    (State.guestAction s value).commits = s.commits ∧
    (State.guestAction s value).seeds = s.seeds ∧
    (State.guestAction s value).load = s.load ∧
    (State.guestAction s value).clusters = s.clusters ∧
    (State.guestAction s value).ctxs = s.ctxs ∧
    (State.guestAction s value).memory = s.memory ∧
    (State.guestAction s value).coll = s.coll ∧
    (State.guestAction s value).photonics = s.photonics ∧
    (State.guestAction s value).messages = s.messages ∧
    (State.guestAction s value).clocks = s.clocks ∧
    (State.guestAction s value).thermal = s.thermal ∧
    (State.guestAction s value).control = s.control ∧
    (State.guestAction s value).boot = s.boot ∧
    (State.guestAction s value).dbg = s.dbg ∧
    (State.guestAction s value).freeCount = s.freeCount := by
  unfold State.guestAction
  try dsimp only
  (repeat' split) <;> simp_all -implicitDefEqProofs [↓prod_flip3, prod_flip]

@[simp] theorem State.guestWindowCommitOp_kept (s : State) (value : Nat) :
    (State.guestWindowCommitOp s value).2.pending = s.pending ∧
    (State.guestWindowCommitOp s value).2.fuses = s.fuses ∧
    (State.guestWindowCommitOp s value).2.shadows = s.shadows ∧
    (State.guestWindowCommitOp s value).2.blobShadows = s.blobShadows ∧
    (State.guestWindowCommitOp s value).2.hubNeeds = s.hubNeeds ∧
    (State.guestWindowCommitOp s value).2.commits = s.commits ∧
    (State.guestWindowCommitOp s value).2.seeds = s.seeds ∧
    (State.guestWindowCommitOp s value).2.load = s.load ∧
    (State.guestWindowCommitOp s value).2.clusters = s.clusters ∧
    (State.guestWindowCommitOp s value).2.ctxs = s.ctxs ∧
    (State.guestWindowCommitOp s value).2.memory = s.memory ∧
    (State.guestWindowCommitOp s value).2.rig = s.rig ∧
    (State.guestWindowCommitOp s value).2.coll = s.coll ∧
    (State.guestWindowCommitOp s value).2.photonics = s.photonics ∧
    (State.guestWindowCommitOp s value).2.messages = s.messages ∧
    (State.guestWindowCommitOp s value).2.package = s.package ∧
    (State.guestWindowCommitOp s value).2.clocks = s.clocks ∧
    (State.guestWindowCommitOp s value).2.thermal = s.thermal ∧
    (State.guestWindowCommitOp s value).2.boot = s.boot ∧
    (State.guestWindowCommitOp s value).2.freeCount = s.freeCount := by
  unfold State.guestWindowCommitOp
  try dsimp only
  (repeat' split) <;> simp_all -implicitDefEqProofs [↓prod_flip3, prod_flip]

@[simp] theorem State.hubInput_kept (s : State) :
    (State.hubInput s).pending = s.pending ∧
    (State.hubInput s).fuses = s.fuses ∧
    (State.hubInput s).regs = s.regs ∧
    (State.hubInput s).shadows = s.shadows ∧
    (State.hubInput s).blobs = s.blobs ∧
    (State.hubInput s).blobShadows = s.blobShadows ∧
    (State.hubInput s).hubNeeds = s.hubNeeds ∧
    (State.hubInput s).commits = s.commits ∧
    (State.hubInput s).seeds = s.seeds ∧
    (State.hubInput s).load = s.load ∧
    (State.hubInput s).clusters = s.clusters ∧
    (State.hubInput s).ctxs = s.ctxs ∧
    (State.hubInput s).memory = s.memory ∧
    (State.hubInput s).rig = s.rig ∧
    (State.hubInput s).coll = s.coll ∧
    (State.hubInput s).photonics = s.photonics ∧
    (State.hubInput s).domain = s.domain ∧
    (State.hubInput s).messages = s.messages ∧
    (State.hubInput s).package = s.package ∧
    (State.hubInput s).clocks = s.clocks ∧
    (State.hubInput s).thermal = s.thermal ∧
    (State.hubInput s).boot = s.boot ∧
    (State.hubInput s).dbg = s.dbg ∧
    (State.hubInput s).freeCount = s.freeCount := by
  unfold State.hubInput
  try dsimp only
  (repeat' split) <;> simp_all -implicitDefEqProofs [↓prod_flip3, prod_flip]

@[simp] theorem State.setRef_kept (s : State) (i : Nat) (good : Bool) :
    (State.setRef s i good).pending = s.pending ∧
    (State.setRef s i good).fuses = s.fuses ∧
    (State.setRef s i good).regs = s.regs ∧
    (State.setRef s i good).shadows = s.shadows ∧
    (State.setRef s i good).blobs = s.blobs ∧
    (State.setRef s i good).blobShadows = s.blobShadows ∧
    (State.setRef s i good).hubNeeds = s.hubNeeds ∧
    (State.setRef s i good).commits = s.commits ∧
    (State.setRef s i good).seeds = s.seeds ∧
    (State.setRef s i good).load = s.load ∧
    (State.setRef s i good).clusters = s.clusters ∧
    (State.setRef s i good).ctxs = s.ctxs ∧
    (State.setRef s i good).memory = s.memory ∧
    (State.setRef s i good).rig = s.rig ∧
    (State.setRef s i good).coll = s.coll ∧
    (State.setRef s i good).photonics = s.photonics ∧
    (State.setRef s i good).domain = s.domain ∧
    (State.setRef s i good).messages = s.messages ∧
    (State.setRef s i good).package = s.package ∧
    (State.setRef s i good).thermal = s.thermal ∧
    (State.setRef s i good).control = s.control ∧
    (State.setRef s i good).boot = s.boot ∧
    (State.setRef s i good).dbg = s.dbg ∧
    (State.setRef s i good).freeCount = s.freeCount := by
  unfold State.setRef
  try dsimp only
  (repeat' split) <;> simp_all -implicitDefEqProofs [↓prod_flip3, prod_flip]

@[simp] theorem State.selectRef_kept (s : State) (i : Nat) :
    (State.selectRef s i).pending = s.pending ∧
    (State.selectRef s i).fuses = s.fuses ∧
    (State.selectRef s i).regs = s.regs ∧
    (State.selectRef s i).shadows = s.shadows ∧
    (State.selectRef s i).blobs = s.blobs ∧
    (State.selectRef s i).blobShadows = s.blobShadows ∧
    (State.selectRef s i).hubNeeds = s.hubNeeds ∧
    (State.selectRef s i).commits = s.commits ∧
    (State.selectRef s i).seeds = s.seeds ∧
    (State.selectRef s i).load = s.load ∧
    (State.selectRef s i).clusters = s.clusters ∧
    (State.selectRef s i).ctxs = s.ctxs ∧
    (State.selectRef s i).memory = s.memory ∧
    (State.selectRef s i).rig = s.rig ∧
    (State.selectRef s i).coll = s.coll ∧
    (State.selectRef s i).photonics = s.photonics ∧
    (State.selectRef s i).domain = s.domain ∧
    (State.selectRef s i).messages = s.messages ∧
    (State.selectRef s i).package = s.package ∧
    (State.selectRef s i).thermal = s.thermal ∧
    (State.selectRef s i).control = s.control ∧
    (State.selectRef s i).boot = s.boot ∧
    (State.selectRef s i).dbg = s.dbg ∧
    (State.selectRef s i).freeCount = s.freeCount := by
  unfold State.selectRef
  try dsimp only
  (repeat' split) <;> simp_all -implicitDefEqProofs [↓prod_flip3, prod_flip]

@[simp] theorem State.referenceSelectAction_kept (s : State) (value : Nat) :
    (State.referenceSelectAction s value).pending = s.pending ∧
    (State.referenceSelectAction s value).fuses = s.fuses ∧
    (State.referenceSelectAction s value).shadows = s.shadows ∧
    (State.referenceSelectAction s value).blobs = s.blobs ∧
    (State.referenceSelectAction s value).blobShadows = s.blobShadows ∧
    (State.referenceSelectAction s value).hubNeeds = s.hubNeeds ∧
    (State.referenceSelectAction s value).commits = s.commits ∧
    (State.referenceSelectAction s value).seeds = s.seeds ∧
    (State.referenceSelectAction s value).load = s.load ∧
    (State.referenceSelectAction s value).clusters = s.clusters ∧
    (State.referenceSelectAction s value).ctxs = s.ctxs ∧
    (State.referenceSelectAction s value).memory = s.memory ∧
    (State.referenceSelectAction s value).rig = s.rig ∧
    (State.referenceSelectAction s value).coll = s.coll ∧
    (State.referenceSelectAction s value).photonics = s.photonics ∧
    (State.referenceSelectAction s value).domain = s.domain ∧
    (State.referenceSelectAction s value).messages = s.messages ∧
    (State.referenceSelectAction s value).package = s.package ∧
    (State.referenceSelectAction s value).thermal = s.thermal ∧
    (State.referenceSelectAction s value).control = s.control ∧
    (State.referenceSelectAction s value).boot = s.boot ∧
    (State.referenceSelectAction s value).dbg = s.dbg ∧
    (State.referenceSelectAction s value).freeCount = s.freeCount := by
  unfold State.referenceSelectAction
  try dsimp only
  (repeat' split) <;> simp_all -implicitDefEqProofs [↓prod_flip3, prod_flip]

@[simp] theorem State.setLimit_kept (s : State) (z : Nat) (mhz : Nat) :
    (State.setLimit s z mhz).pending = s.pending ∧
    (State.setLimit s z mhz).fuses = s.fuses ∧
    (State.setLimit s z mhz).regs = s.regs ∧
    (State.setLimit s z mhz).shadows = s.shadows ∧
    (State.setLimit s z mhz).blobs = s.blobs ∧
    (State.setLimit s z mhz).blobShadows = s.blobShadows ∧
    (State.setLimit s z mhz).hubNeeds = s.hubNeeds ∧
    (State.setLimit s z mhz).commits = s.commits ∧
    (State.setLimit s z mhz).seeds = s.seeds ∧
    (State.setLimit s z mhz).load = s.load ∧
    (State.setLimit s z mhz).clusters = s.clusters ∧
    (State.setLimit s z mhz).ctxs = s.ctxs ∧
    (State.setLimit s z mhz).memory = s.memory ∧
    (State.setLimit s z mhz).rig = s.rig ∧
    (State.setLimit s z mhz).coll = s.coll ∧
    (State.setLimit s z mhz).photonics = s.photonics ∧
    (State.setLimit s z mhz).domain = s.domain ∧
    (State.setLimit s z mhz).messages = s.messages ∧
    (State.setLimit s z mhz).package = s.package ∧
    (State.setLimit s z mhz).thermal = s.thermal ∧
    (State.setLimit s z mhz).control = s.control ∧
    (State.setLimit s z mhz).boot = s.boot ∧
    (State.setLimit s z mhz).dbg = s.dbg ∧
    (State.setLimit s z mhz).freeCount = s.freeCount := by
  unfold State.setLimit
  try dsimp only
  (repeat' split) <;> simp_all -implicitDefEqProofs [↓prod_flip3, prod_flip]

@[simp] theorem State.clockCommitOp_kept (s : State) (value : Nat) :
    (State.clockCommitOp s value).2.pending = s.pending ∧
    (State.clockCommitOp s value).2.fuses = s.fuses ∧
    (State.clockCommitOp s value).2.shadows = s.shadows ∧
    (State.clockCommitOp s value).2.blobShadows = s.blobShadows ∧
    (State.clockCommitOp s value).2.hubNeeds = s.hubNeeds ∧
    (State.clockCommitOp s value).2.commits = s.commits ∧
    (State.clockCommitOp s value).2.seeds = s.seeds ∧
    (State.clockCommitOp s value).2.load = s.load ∧
    (State.clockCommitOp s value).2.clusters = s.clusters ∧
    (State.clockCommitOp s value).2.ctxs = s.ctxs ∧
    (State.clockCommitOp s value).2.memory = s.memory ∧
    (State.clockCommitOp s value).2.rig = s.rig ∧
    (State.clockCommitOp s value).2.coll = s.coll ∧
    (State.clockCommitOp s value).2.photonics = s.photonics ∧
    (State.clockCommitOp s value).2.domain = s.domain ∧
    (State.clockCommitOp s value).2.messages = s.messages ∧
    (State.clockCommitOp s value).2.package = s.package ∧
    (State.clockCommitOp s value).2.thermal = s.thermal ∧
    (State.clockCommitOp s value).2.control = s.control ∧
    (State.clockCommitOp s value).2.boot = s.boot ∧
    (State.clockCommitOp s value).2.dbg = s.dbg ∧
    (State.clockCommitOp s value).2.freeCount = s.freeCount := by
  unfold State.clockCommitOp
  try dsimp only
  (repeat' split) <;> simp_all -implicitDefEqProofs [↓prod_flip3, prod_flip]

@[simp] theorem State.stepDown_kept (s : State) (r : Region) :
    (State.stepDown s r).pending = s.pending ∧
    (State.stepDown s r).fuses = s.fuses ∧
    (State.stepDown s r).shadows = s.shadows ∧
    (State.stepDown s r).blobs = s.blobs ∧
    (State.stepDown s r).blobShadows = s.blobShadows ∧
    (State.stepDown s r).hubNeeds = s.hubNeeds ∧
    (State.stepDown s r).commits = s.commits ∧
    (State.stepDown s r).seeds = s.seeds ∧
    (State.stepDown s r).load = s.load ∧
    (State.stepDown s r).clusters = s.clusters ∧
    (State.stepDown s r).ctxs = s.ctxs ∧
    (State.stepDown s r).memory = s.memory ∧
    (State.stepDown s r).rig = s.rig ∧
    (State.stepDown s r).coll = s.coll ∧
    (State.stepDown s r).photonics = s.photonics ∧
    (State.stepDown s r).domain = s.domain ∧
    (State.stepDown s r).messages = s.messages ∧
    (State.stepDown s r).package = s.package ∧
    (State.stepDown s r).thermal = s.thermal ∧
    (State.stepDown s r).boot = s.boot ∧
    (State.stepDown s r).freeCount = s.freeCount := by
  unfold State.stepDown
  try dsimp only
  (repeat' split) <;> simp_all -implicitDefEqProofs [↓prod_flip3, prod_flip]

@[simp] theorem State.zonesSynced_kept (s : State) (d : Nat) :
    (State.zonesSynced s d).pending = s.pending ∧
    (State.zonesSynced s d).fuses = s.fuses ∧
    (State.zonesSynced s d).regs = s.regs ∧
    (State.zonesSynced s d).shadows = s.shadows ∧
    (State.zonesSynced s d).blobs = s.blobs ∧
    (State.zonesSynced s d).blobShadows = s.blobShadows ∧
    (State.zonesSynced s d).hubNeeds = s.hubNeeds ∧
    (State.zonesSynced s d).commits = s.commits ∧
    (State.zonesSynced s d).seeds = s.seeds ∧
    (State.zonesSynced s d).load = s.load ∧
    (State.zonesSynced s d).clusters = s.clusters ∧
    (State.zonesSynced s d).ctxs = s.ctxs ∧
    (State.zonesSynced s d).memory = s.memory ∧
    (State.zonesSynced s d).rig = s.rig ∧
    (State.zonesSynced s d).coll = s.coll ∧
    (State.zonesSynced s d).photonics = s.photonics ∧
    (State.zonesSynced s d).domain = s.domain ∧
    (State.zonesSynced s d).messages = s.messages ∧
    (State.zonesSynced s d).package = s.package ∧
    (State.zonesSynced s d).thermal = s.thermal ∧
    (State.zonesSynced s d).control = s.control ∧
    (State.zonesSynced s d).boot = s.boot ∧
    (State.zonesSynced s d).dbg = s.dbg ∧
    (State.zonesSynced s d).freeCount = s.freeCount := by
  unfold State.zonesSynced
  try dsimp only
  (repeat' split) <;> simp_all -implicitDefEqProofs [↓prod_flip3, prod_flip]

@[simp] theorem takeStep_kept (acc : Nat × State) (h : Nat) :
    (takeStep acc h).2.pending = acc.2.pending ∧
    (takeStep acc h).2.fuses = acc.2.fuses ∧
    (takeStep acc h).2.regs = acc.2.regs ∧
    (takeStep acc h).2.shadows = acc.2.shadows ∧
    (takeStep acc h).2.blobs = acc.2.blobs ∧
    (takeStep acc h).2.blobShadows = acc.2.blobShadows ∧
    (takeStep acc h).2.hubNeeds = acc.2.hubNeeds ∧
    (takeStep acc h).2.commits = acc.2.commits ∧
    (takeStep acc h).2.seeds = acc.2.seeds ∧
    (takeStep acc h).2.load = acc.2.load ∧
    (takeStep acc h).2.clusters = acc.2.clusters ∧
    (takeStep acc h).2.ctxs = acc.2.ctxs ∧
    (takeStep acc h).2.memory = acc.2.memory ∧
    (takeStep acc h).2.rig = acc.2.rig ∧
    (takeStep acc h).2.coll = acc.2.coll ∧
    (takeStep acc h).2.photonics = acc.2.photonics ∧
    (takeStep acc h).2.domain = acc.2.domain ∧
    (takeStep acc h).2.messages = acc.2.messages ∧
    (takeStep acc h).2.clocks = acc.2.clocks ∧
    (takeStep acc h).2.thermal = acc.2.thermal ∧
    (takeStep acc h).2.control = acc.2.control ∧
    (takeStep acc h).2.boot = acc.2.boot ∧
    (takeStep acc h).2.dbg = acc.2.dbg ∧
    (takeStep acc h).2.freeCount = acc.2.freeCount := by
  unfold takeStep
  try dsimp only
  (repeat' split) <;> simp_all -implicitDefEqProofs [↓prod_flip3, prod_flip]

@[simp] theorem State.takeFreeing_kept (s : State) (need : Nat) :
    (State.takeFreeing s need).pending = s.pending ∧
    (State.takeFreeing s need).fuses = s.fuses ∧
    (State.takeFreeing s need).regs = s.regs ∧
    (State.takeFreeing s need).shadows = s.shadows ∧
    (State.takeFreeing s need).blobs = s.blobs ∧
    (State.takeFreeing s need).blobShadows = s.blobShadows ∧
    (State.takeFreeing s need).hubNeeds = s.hubNeeds ∧
    (State.takeFreeing s need).commits = s.commits ∧
    (State.takeFreeing s need).seeds = s.seeds ∧
    (State.takeFreeing s need).load = s.load ∧
    (State.takeFreeing s need).clusters = s.clusters ∧
    (State.takeFreeing s need).ctxs = s.ctxs ∧
    (State.takeFreeing s need).memory = s.memory ∧
    (State.takeFreeing s need).rig = s.rig ∧
    (State.takeFreeing s need).coll = s.coll ∧
    (State.takeFreeing s need).photonics = s.photonics ∧
    (State.takeFreeing s need).domain = s.domain ∧
    (State.takeFreeing s need).messages = s.messages ∧
    (State.takeFreeing s need).clocks = s.clocks ∧
    (State.takeFreeing s need).thermal = s.thermal ∧
    (State.takeFreeing s need).control = s.control ∧
    (State.takeFreeing s need).boot = s.boot ∧
    (State.takeFreeing s need).dbg = s.dbg ∧
    (State.takeFreeing s need).freeCount = s.freeCount := by
  unfold State.takeFreeing
  try dsimp only
  (repeat' split) <;> simp_all -implicitDefEqProofs [↓prod_flip3, prod_flip]

@[simp] theorem State.applyBudget_kept (s : State) (watt : Nat) :
    (State.applyBudget s watt).pending = s.pending ∧
    (State.applyBudget s watt).fuses = s.fuses ∧
    (State.applyBudget s watt).shadows = s.shadows ∧
    (State.applyBudget s watt).blobs = s.blobs ∧
    (State.applyBudget s watt).blobShadows = s.blobShadows ∧
    (State.applyBudget s watt).hubNeeds = s.hubNeeds ∧
    (State.applyBudget s watt).seeds = s.seeds ∧
    (State.applyBudget s watt).load = s.load ∧
    (State.applyBudget s watt).clusters = s.clusters ∧
    (State.applyBudget s watt).ctxs = s.ctxs ∧
    (State.applyBudget s watt).memory = s.memory ∧
    (State.applyBudget s watt).rig = s.rig ∧
    (State.applyBudget s watt).coll = s.coll ∧
    (State.applyBudget s watt).photonics = s.photonics ∧
    (State.applyBudget s watt).domain = s.domain ∧
    (State.applyBudget s watt).messages = s.messages ∧
    (State.applyBudget s watt).clocks = s.clocks ∧
    (State.applyBudget s watt).thermal = s.thermal ∧
    (State.applyBudget s watt).boot = s.boot ∧
    (State.applyBudget s watt).dbg = s.dbg ∧
    (State.applyBudget s watt).freeCount = s.freeCount := by
  unfold State.applyBudget
  try dsimp only
  (repeat' split) <;> simp_all -implicitDefEqProofs [↓prod_flip3, prod_flip]

@[simp] theorem State.powerCommitOp_kept (s : State) (value : Nat) :
    (State.powerCommitOp s value).2.pending = s.pending ∧
    (State.powerCommitOp s value).2.fuses = s.fuses ∧
    (State.powerCommitOp s value).2.shadows = s.shadows ∧
    (State.powerCommitOp s value).2.blobs = s.blobs ∧
    (State.powerCommitOp s value).2.blobShadows = s.blobShadows ∧
    (State.powerCommitOp s value).2.hubNeeds = s.hubNeeds ∧
    (State.powerCommitOp s value).2.seeds = s.seeds ∧
    (State.powerCommitOp s value).2.load = s.load ∧
    (State.powerCommitOp s value).2.clusters = s.clusters ∧
    (State.powerCommitOp s value).2.ctxs = s.ctxs ∧
    (State.powerCommitOp s value).2.memory = s.memory ∧
    (State.powerCommitOp s value).2.rig = s.rig ∧
    (State.powerCommitOp s value).2.coll = s.coll ∧
    (State.powerCommitOp s value).2.photonics = s.photonics ∧
    (State.powerCommitOp s value).2.domain = s.domain ∧
    (State.powerCommitOp s value).2.messages = s.messages ∧
    (State.powerCommitOp s value).2.clocks = s.clocks ∧
    (State.powerCommitOp s value).2.thermal = s.thermal ∧
    (State.powerCommitOp s value).2.boot = s.boot ∧
    (State.powerCommitOp s value).2.dbg = s.dbg ∧
    (State.powerCommitOp s value).2.freeCount = s.freeCount := by
  unfold State.powerCommitOp
  try dsimp only
  (repeat' split) <;> simp_all -implicitDefEqProofs [↓prod_flip3, prod_flip]

@[simp] theorem State.moveTargets_kept (s : State) (t : Nat) (down : Bool) :
    (State.moveTargets s t down).pending = s.pending ∧
    (State.moveTargets s t down).fuses = s.fuses ∧
    (State.moveTargets s t down).regs = s.regs ∧
    (State.moveTargets s t down).shadows = s.shadows ∧
    (State.moveTargets s t down).blobs = s.blobs ∧
    (State.moveTargets s t down).blobShadows = s.blobShadows ∧
    (State.moveTargets s t down).hubNeeds = s.hubNeeds ∧
    (State.moveTargets s t down).commits = s.commits ∧
    (State.moveTargets s t down).seeds = s.seeds ∧
    (State.moveTargets s t down).load = s.load ∧
    (State.moveTargets s t down).clusters = s.clusters ∧
    (State.moveTargets s t down).ctxs = s.ctxs ∧
    (State.moveTargets s t down).memory = s.memory ∧
    (State.moveTargets s t down).rig = s.rig ∧
    (State.moveTargets s t down).coll = s.coll ∧
    (State.moveTargets s t down).photonics = s.photonics ∧
    (State.moveTargets s t down).domain = s.domain ∧
    (State.moveTargets s t down).messages = s.messages ∧
    (State.moveTargets s t down).package = s.package ∧
    (State.moveTargets s t down).thermal = s.thermal ∧
    (State.moveTargets s t down).control = s.control ∧
    (State.moveTargets s t down).boot = s.boot ∧
    (State.moveTargets s t down).dbg = s.dbg ∧
    (State.moveTargets s t down).freeCount = s.freeCount := by
  unfold State.moveTargets
  try dsimp only
  (repeat' split) <;> simp_all -implicitDefEqProofs [↓prod_flip3, prod_flip]

@[simp] theorem slowest_kept (s : State) (x1 : List Panel) :
    (slowest s x1).2.pending = s.pending ∧
    (slowest s x1).2.fuses = s.fuses ∧
    (slowest s x1).2.regs = s.regs ∧
    (slowest s x1).2.shadows = s.shadows ∧
    (slowest s x1).2.blobs = s.blobs ∧
    (slowest s x1).2.blobShadows = s.blobShadows ∧
    (slowest s x1).2.hubNeeds = s.hubNeeds ∧
    (slowest s x1).2.commits = s.commits ∧
    (slowest s x1).2.seeds = s.seeds ∧
    (slowest s x1).2.load = s.load ∧
    (slowest s x1).2.clusters = s.clusters ∧
    (slowest s x1).2.ctxs = s.ctxs ∧
    (slowest s x1).2.memory = s.memory ∧
    (slowest s x1).2.rig = s.rig ∧
    (slowest s x1).2.coll = s.coll ∧
    (slowest s x1).2.photonics = s.photonics ∧
    (slowest s x1).2.domain = s.domain ∧
    (slowest s x1).2.messages = s.messages ∧
    (slowest s x1).2.package = s.package ∧
    (slowest s x1).2.clocks = s.clocks ∧
    (slowest s x1).2.thermal = s.thermal ∧
    (slowest s x1).2.control = s.control ∧
    (slowest s x1).2.boot = s.boot ∧
    (slowest s x1).2.dbg = s.dbg := by
  fun_induction slowest s x1 <;> simp_all -implicitDefEqProofs [↓prod_flip3, prod_flip]

@[simp] theorem State.windowEnd_kept (s : State) (c : Nat) :
    (State.windowEnd s c).2.pending = s.pending ∧
    (State.windowEnd s c).2.fuses = s.fuses ∧
    (State.windowEnd s c).2.regs = s.regs ∧
    (State.windowEnd s c).2.shadows = s.shadows ∧
    (State.windowEnd s c).2.blobs = s.blobs ∧
    (State.windowEnd s c).2.blobShadows = s.blobShadows ∧
    (State.windowEnd s c).2.hubNeeds = s.hubNeeds ∧
    (State.windowEnd s c).2.commits = s.commits ∧
    (State.windowEnd s c).2.seeds = s.seeds ∧
    (State.windowEnd s c).2.load = s.load ∧
    (State.windowEnd s c).2.clusters = s.clusters ∧
    (State.windowEnd s c).2.ctxs = s.ctxs ∧
    (State.windowEnd s c).2.memory = s.memory ∧
    (State.windowEnd s c).2.rig = s.rig ∧
    (State.windowEnd s c).2.coll = s.coll ∧
    (State.windowEnd s c).2.photonics = s.photonics ∧
    (State.windowEnd s c).2.domain = s.domain ∧
    (State.windowEnd s c).2.messages = s.messages ∧
    (State.windowEnd s c).2.package = s.package ∧
    (State.windowEnd s c).2.clocks = s.clocks ∧
    (State.windowEnd s c).2.thermal = s.thermal ∧
    (State.windowEnd s c).2.control = s.control ∧
    (State.windowEnd s c).2.boot = s.boot ∧
    (State.windowEnd s c).2.dbg = s.dbg := by
  unfold State.windowEnd
  try dsimp only
  (repeat' split) <;> simp_all -implicitDefEqProofs [↓prod_flip3, prod_flip]

@[simp] theorem State.sampleSource_kept (s : State) (key : Nat) (src : Nat) (r : SensorReading) :
    (State.sampleSource s key src r).pending = s.pending ∧
    (State.sampleSource s key src r).fuses = s.fuses ∧
    (State.sampleSource s key src r).shadows = s.shadows ∧
    (State.sampleSource s key src r).blobs = s.blobs ∧
    (State.sampleSource s key src r).blobShadows = s.blobShadows ∧
    (State.sampleSource s key src r).hubNeeds = s.hubNeeds ∧
    (State.sampleSource s key src r).commits = s.commits ∧
    (State.sampleSource s key src r).seeds = s.seeds ∧
    (State.sampleSource s key src r).load = s.load ∧
    (State.sampleSource s key src r).clusters = s.clusters ∧
    (State.sampleSource s key src r).ctxs = s.ctxs ∧
    (State.sampleSource s key src r).memory = s.memory ∧
    (State.sampleSource s key src r).rig = s.rig ∧
    (State.sampleSource s key src r).coll = s.coll ∧
    (State.sampleSource s key src r).photonics = s.photonics ∧
    (State.sampleSource s key src r).domain = s.domain ∧
    (State.sampleSource s key src r).messages = s.messages ∧
    (State.sampleSource s key src r).package = s.package ∧
    (State.sampleSource s key src r).clocks = s.clocks ∧
    (State.sampleSource s key src r).boot = s.boot ∧
    (State.sampleSource s key src r).freeCount = s.freeCount := by
  unfold State.sampleSource
  try dsimp only
  (repeat' split) <;> simp_all -implicitDefEqProofs [↓prod_flip3, prod_flip]

@[simp] theorem State.barDark_kept (s : State) (b : Nat) :
    (State.barDark s b).pending = s.pending ∧
    (State.barDark s b).fuses = s.fuses ∧
    (State.barDark s b).shadows = s.shadows ∧
    (State.barDark s b).blobs = s.blobs ∧
    (State.barDark s b).blobShadows = s.blobShadows ∧
    (State.barDark s b).hubNeeds = s.hubNeeds ∧
    (State.barDark s b).commits = s.commits ∧
    (State.barDark s b).seeds = s.seeds ∧
    (State.barDark s b).load = s.load ∧
    (State.barDark s b).clusters = s.clusters ∧
    (State.barDark s b).ctxs = s.ctxs ∧
    (State.barDark s b).memory = s.memory ∧
    (State.barDark s b).coll = s.coll ∧
    (State.barDark s b).messages = s.messages ∧
    (State.barDark s b).package = s.package ∧
    (State.barDark s b).clocks = s.clocks ∧
    (State.barDark s b).thermal = s.thermal ∧
    (State.barDark s b).boot = s.boot ∧
    (State.barDark s b).freeCount = s.freeCount := by
  unfold State.barDark
  try dsimp only
  (repeat' split) <;> simp_all -implicitDefEqProofs [↓prod_flip3, prod_flip]

@[simp] theorem State.haltIfDown_kept (s : State) :
    (State.haltIfDown s).pending = s.pending ∧
    (State.haltIfDown s).fuses = s.fuses ∧
    (State.haltIfDown s).shadows = s.shadows ∧
    (State.haltIfDown s).blobs = s.blobs ∧
    (State.haltIfDown s).blobShadows = s.blobShadows ∧
    (State.haltIfDown s).hubNeeds = s.hubNeeds ∧
    (State.haltIfDown s).commits = s.commits ∧
    (State.haltIfDown s).seeds = s.seeds ∧
    (State.haltIfDown s).load = s.load ∧
    (State.haltIfDown s).clusters = s.clusters ∧
    (State.haltIfDown s).ctxs = s.ctxs ∧
    (State.haltIfDown s).memory = s.memory ∧
    (State.haltIfDown s).coll = s.coll ∧
    (State.haltIfDown s).photonics = s.photonics ∧
    (State.haltIfDown s).messages = s.messages ∧
    (State.haltIfDown s).clocks = s.clocks ∧
    (State.haltIfDown s).thermal = s.thermal ∧
    (State.haltIfDown s).dbg = s.dbg ∧
    (State.haltIfDown s).freeCount = s.freeCount := by
  unfold State.haltIfDown
  try dsimp only
  (repeat' split) <;> simp_all -implicitDefEqProofs [↓prod_flip3, prod_flip]

@[simp] theorem State.shutDown_kept (s : State) (x1 : ThermalElement) :
    (State.shutDown s x1).pending = s.pending ∧
    (State.shutDown s x1).fuses = s.fuses ∧
    (State.shutDown s x1).freeCount = s.freeCount := by
  unfold State.shutDown
  try dsimp only
  (repeat' split) <;> simp_all -implicitDefEqProofs [↓prod_flip3, prod_flip]

@[simp] theorem State.throttleGuest_kept (s : State) (g : Nat) :
    (State.throttleGuest s g).pending = s.pending ∧
    (State.throttleGuest s g).fuses = s.fuses ∧
    (State.throttleGuest s g).regs = s.regs ∧
    (State.throttleGuest s g).shadows = s.shadows ∧
    (State.throttleGuest s g).blobs = s.blobs ∧
    (State.throttleGuest s g).blobShadows = s.blobShadows ∧
    (State.throttleGuest s g).hubNeeds = s.hubNeeds ∧
    (State.throttleGuest s g).commits = s.commits ∧
    (State.throttleGuest s g).seeds = s.seeds ∧
    (State.throttleGuest s g).load = s.load ∧
    (State.throttleGuest s g).clusters = s.clusters ∧
    (State.throttleGuest s g).ctxs = s.ctxs ∧
    (State.throttleGuest s g).memory = s.memory ∧
    (State.throttleGuest s g).rig = s.rig ∧
    (State.throttleGuest s g).coll = s.coll ∧
    (State.throttleGuest s g).photonics = s.photonics ∧
    (State.throttleGuest s g).domain = s.domain ∧
    (State.throttleGuest s g).messages = s.messages ∧
    (State.throttleGuest s g).clocks = s.clocks ∧
    (State.throttleGuest s g).thermal = s.thermal ∧
    (State.throttleGuest s g).boot = s.boot ∧
    (State.throttleGuest s g).dbg = s.dbg := by
  unfold State.throttleGuest
  try dsimp only
  (repeat' split) <;> simp_all -implicitDefEqProofs [↓prod_flip3, prod_flip]

@[simp] theorem State.levelActs_kept (s : State) (e : ThermalElement) (old : Nat) (new : Nat) :
    (State.levelActs s e old new).pending = s.pending ∧
    (State.levelActs s e old new).fuses = s.fuses ∧
    (State.levelActs s e old new).shadows = s.shadows ∧
    (State.levelActs s e old new).blobs = s.blobs ∧
    (State.levelActs s e old new).blobShadows = s.blobShadows ∧
    (State.levelActs s e old new).hubNeeds = s.hubNeeds ∧
    (State.levelActs s e old new).commits = s.commits ∧
    (State.levelActs s e old new).seeds = s.seeds ∧
    (State.levelActs s e old new).load = s.load ∧
    (State.levelActs s e old new).clusters = s.clusters ∧
    (State.levelActs s e old new).ctxs = s.ctxs ∧
    (State.levelActs s e old new).memory = s.memory ∧
    (State.levelActs s e old new).rig = s.rig ∧
    (State.levelActs s e old new).coll = s.coll ∧
    (State.levelActs s e old new).photonics = s.photonics ∧
    (State.levelActs s e old new).domain = s.domain ∧
    (State.levelActs s e old new).messages = s.messages ∧
    (State.levelActs s e old new).clocks = s.clocks ∧
    (State.levelActs s e old new).boot = s.boot ∧
    (State.levelActs s e old new).dbg = s.dbg := by
  unfold State.levelActs
  try dsimp only
  (repeat' split) <;> simp_all -implicitDefEqProofs [↓prod_flip3, prod_flip]

@[simp] theorem State.judgeElement_kept (s : State) (e : ThermalElement) (c : Int) :
    (State.judgeElement s e c).pending = s.pending ∧
    (State.judgeElement s e c).fuses = s.fuses := by
  generalize ht : State.judgeElement s e c = t
  unfold State.judgeElement at ht
  try dsimp only at ht
  (repeat' split at ht) <;> (subst ht; simp_all -implicitDefEqProofs [↓prod_flip3, prod_flip])

@[simp] theorem State.judgeCoolant_kept (s : State) (inlet : SensorReading) (outlet : SensorReading) :
    (State.judgeCoolant s inlet outlet).pending = s.pending ∧
    (State.judgeCoolant s inlet outlet).fuses = s.fuses ∧
    (State.judgeCoolant s inlet outlet).shadows = s.shadows ∧
    (State.judgeCoolant s inlet outlet).blobs = s.blobs ∧
    (State.judgeCoolant s inlet outlet).blobShadows = s.blobShadows ∧
    (State.judgeCoolant s inlet outlet).hubNeeds = s.hubNeeds ∧
    (State.judgeCoolant s inlet outlet).commits = s.commits ∧
    (State.judgeCoolant s inlet outlet).seeds = s.seeds ∧
    (State.judgeCoolant s inlet outlet).load = s.load ∧
    (State.judgeCoolant s inlet outlet).clusters = s.clusters ∧
    (State.judgeCoolant s inlet outlet).ctxs = s.ctxs ∧
    (State.judgeCoolant s inlet outlet).memory = s.memory ∧
    (State.judgeCoolant s inlet outlet).rig = s.rig ∧
    (State.judgeCoolant s inlet outlet).coll = s.coll ∧
    (State.judgeCoolant s inlet outlet).photonics = s.photonics ∧
    (State.judgeCoolant s inlet outlet).domain = s.domain ∧
    (State.judgeCoolant s inlet outlet).messages = s.messages ∧
    (State.judgeCoolant s inlet outlet).package = s.package ∧
    (State.judgeCoolant s inlet outlet).clocks = s.clocks ∧
    (State.judgeCoolant s inlet outlet).boot = s.boot ∧
    (State.judgeCoolant s inlet outlet).freeCount = s.freeCount := by
  unfold State.judgeCoolant
  try dsimp only
  (repeat' split) <;> simp_all -implicitDefEqProofs [↓prod_flip3, prod_flip]

@[simp] theorem State.wipeStack_kept (s : State) (k : Nat) :
    (State.wipeStack s k).pending = s.pending ∧
    (State.wipeStack s k).fuses = s.fuses ∧
    (State.wipeStack s k).regs = s.regs ∧
    (State.wipeStack s k).shadows = s.shadows ∧
    (State.wipeStack s k).blobs = s.blobs ∧
    (State.wipeStack s k).blobShadows = s.blobShadows ∧
    (State.wipeStack s k).hubNeeds = s.hubNeeds ∧
    (State.wipeStack s k).commits = s.commits ∧
    (State.wipeStack s k).seeds = s.seeds ∧
    (State.wipeStack s k).load = s.load ∧
    (State.wipeStack s k).clusters = s.clusters ∧
    (State.wipeStack s k).ctxs = s.ctxs ∧
    (State.wipeStack s k).rig = s.rig ∧
    (State.wipeStack s k).coll = s.coll ∧
    (State.wipeStack s k).photonics = s.photonics ∧
    (State.wipeStack s k).domain = s.domain ∧
    (State.wipeStack s k).messages = s.messages ∧
    (State.wipeStack s k).package = s.package ∧
    (State.wipeStack s k).clocks = s.clocks ∧
    (State.wipeStack s k).thermal = s.thermal ∧
    (State.wipeStack s k).control = s.control ∧
    (State.wipeStack s k).boot = s.boot ∧
    (State.wipeStack s k).dbg = s.dbg ∧
    (State.wipeStack s k).freeCount = s.freeCount := by
  unfold State.wipeStack
  try dsimp only
  (repeat' split) <;> simp_all -implicitDefEqProofs [↓prod_flip3, prod_flip]

@[simp] theorem State.relight_kept (s : State) (b : Nat) :
    (State.relight s b).pending = s.pending ∧
    (State.relight s b).fuses = s.fuses ∧
    (State.relight s b).regs = s.regs ∧
    (State.relight s b).shadows = s.shadows ∧
    (State.relight s b).blobs = s.blobs ∧
    (State.relight s b).blobShadows = s.blobShadows ∧
    (State.relight s b).hubNeeds = s.hubNeeds ∧
    (State.relight s b).commits = s.commits ∧
    (State.relight s b).seeds = s.seeds ∧
    (State.relight s b).load = s.load ∧
    (State.relight s b).clusters = s.clusters ∧
    (State.relight s b).ctxs = s.ctxs ∧
    (State.relight s b).memory = s.memory ∧
    (State.relight s b).coll = s.coll ∧
    (State.relight s b).domain = s.domain ∧
    (State.relight s b).messages = s.messages ∧
    (State.relight s b).package = s.package ∧
    (State.relight s b).clocks = s.clocks ∧
    (State.relight s b).thermal = s.thermal ∧
    (State.relight s b).control = s.control ∧
    (State.relight s b).boot = s.boot ∧
    (State.relight s b).dbg = s.dbg ∧
    (State.relight s b).freeCount = s.freeCount := by
  unfold State.relight
  try dsimp only
  (repeat' split) <;> simp_all -implicitDefEqProofs [↓prod_flip3, prod_flip]

@[simp] theorem State.restartElement_kept (s : State) (code : Nat) :
    (State.restartElement s code).pending = s.pending ∧
    (State.restartElement s code).fuses = s.fuses ∧
    (State.restartElement s code).shadows = s.shadows ∧
    (State.restartElement s code).blobs = s.blobs ∧
    (State.restartElement s code).blobShadows = s.blobShadows ∧
    (State.restartElement s code).hubNeeds = s.hubNeeds ∧
    (State.restartElement s code).commits = s.commits ∧
    (State.restartElement s code).seeds = s.seeds ∧
    (State.restartElement s code).load = s.load ∧
    (State.restartElement s code).clusters = s.clusters ∧
    (State.restartElement s code).ctxs = s.ctxs ∧
    (State.restartElement s code).coll = s.coll ∧
    (State.restartElement s code).domain = s.domain ∧
    (State.restartElement s code).messages = s.messages ∧
    (State.restartElement s code).clocks = s.clocks ∧
    (State.restartElement s code).boot = s.boot ∧
    (State.restartElement s code).freeCount = s.freeCount := by
  unfold State.restartElement
  try dsimp only
  (repeat' split) <;> simp_all -implicitDefEqProofs [↓prod_flip3, prod_flip]

@[simp] theorem State.thermalRestartAction_kept (s : State) (code : Nat) :
    (State.thermalRestartAction s code).pending = s.pending ∧
    (State.thermalRestartAction s code).fuses = s.fuses ∧
    (State.thermalRestartAction s code).shadows = s.shadows ∧
    (State.thermalRestartAction s code).blobs = s.blobs ∧
    (State.thermalRestartAction s code).blobShadows = s.blobShadows ∧
    (State.thermalRestartAction s code).hubNeeds = s.hubNeeds ∧
    (State.thermalRestartAction s code).commits = s.commits ∧
    (State.thermalRestartAction s code).seeds = s.seeds ∧
    (State.thermalRestartAction s code).load = s.load ∧
    (State.thermalRestartAction s code).clusters = s.clusters ∧
    (State.thermalRestartAction s code).ctxs = s.ctxs ∧
    (State.thermalRestartAction s code).coll = s.coll ∧
    (State.thermalRestartAction s code).domain = s.domain ∧
    (State.thermalRestartAction s code).messages = s.messages ∧
    (State.thermalRestartAction s code).clocks = s.clocks ∧
    (State.thermalRestartAction s code).boot = s.boot ∧
    (State.thermalRestartAction s code).freeCount = s.freeCount := by
  unfold State.thermalRestartAction
  try dsimp only
  (repeat' split) <;> simp_all -implicitDefEqProofs [↓prod_flip3, prod_flip]

@[simp] theorem State.backgroundWrites_kept (s : State) :
    (State.backgroundWrites s).pending = s.pending ∧
    (State.backgroundWrites s).fuses = s.fuses ∧
    (State.backgroundWrites s).regs = s.regs ∧
    (State.backgroundWrites s).shadows = s.shadows ∧
    (State.backgroundWrites s).blobs = s.blobs ∧
    (State.backgroundWrites s).blobShadows = s.blobShadows ∧
    (State.backgroundWrites s).hubNeeds = s.hubNeeds ∧
    (State.backgroundWrites s).commits = s.commits ∧
    (State.backgroundWrites s).seeds = s.seeds ∧
    (State.backgroundWrites s).load = s.load ∧
    (State.backgroundWrites s).clusters = s.clusters ∧
    (State.backgroundWrites s).ctxs = s.ctxs ∧
    (State.backgroundWrites s).memory = s.memory ∧
    (State.backgroundWrites s).rig = s.rig ∧
    (State.backgroundWrites s).coll = s.coll ∧
    (State.backgroundWrites s).photonics = s.photonics ∧
    (State.backgroundWrites s).domain = s.domain ∧
    (State.backgroundWrites s).messages = s.messages ∧
    (State.backgroundWrites s).package = s.package ∧
    (State.backgroundWrites s).clocks = s.clocks ∧
    (State.backgroundWrites s).thermal = s.thermal ∧
    (State.backgroundWrites s).control = s.control ∧
    (State.backgroundWrites s).dbg = s.dbg ∧
    (State.backgroundWrites s).freeCount = s.freeCount := by
  unfold State.backgroundWrites
  try dsimp only
  (repeat' split) <;> simp_all -implicitDefEqProofs [↓prod_flip3, prod_flip]

end Sys2Proof.Machine
end

