-- ==== Sys2Proof/Laws/FramesControl.lean ====
section
/-! SUPPORT. What each operation on State leaves unchanged (debug, start-up, collectives and the control plane): for every operation that answers a state, the fields that it
never writes, as equations for simp. -/

namespace Sys2Proof.Machine

set_option linter.unusedSimpArgs false
set_option linter.unnecessarySeqFocus false
set_option linter.unusedTactic false
set_option linter.unreachableTactic false
set_option maxRecDepth 4000

@[simp] theorem State.bellSlates_kept (s : State) (code : Nat) :
    (State.bellSlates s code).pending = s.pending ∧
    (State.bellSlates s code).fuses = s.fuses ∧
    (State.bellSlates s code).regs = s.regs ∧
    (State.bellSlates s code).shadows = s.shadows ∧
    (State.bellSlates s code).blobs = s.blobs ∧
    (State.bellSlates s code).blobShadows = s.blobShadows ∧
    (State.bellSlates s code).hubNeeds = s.hubNeeds ∧
    (State.bellSlates s code).commits = s.commits ∧
    (State.bellSlates s code).seeds = s.seeds ∧
    (State.bellSlates s code).load = s.load ∧
    (State.bellSlates s code).clusters = s.clusters ∧
    (State.bellSlates s code).ctxs = s.ctxs ∧
    (State.bellSlates s code).memory = s.memory ∧
    (State.bellSlates s code).rig = s.rig ∧
    (State.bellSlates s code).coll = s.coll ∧
    (State.bellSlates s code).photonics = s.photonics ∧
    (State.bellSlates s code).domain = s.domain ∧
    (State.bellSlates s code).messages = s.messages ∧
    (State.bellSlates s code).package = s.package ∧
    (State.bellSlates s code).clocks = s.clocks ∧
    (State.bellSlates s code).thermal = s.thermal ∧
    (State.bellSlates s code).control = s.control ∧
    (State.bellSlates s code).boot = s.boot ∧
    (State.bellSlates s code).freeCount = s.freeCount := by
  unfold State.bellSlates
  try dsimp only
  (repeat' split) <;> simp_all -implicitDefEqProofs [↓prod_flip3, prod_flip]

@[simp] theorem State.ringBell_kept (s : State) (source : Nat) :
    (State.ringBell s source).pending = s.pending ∧
    (State.ringBell s source).fuses = s.fuses ∧
    (State.ringBell s source).shadows = s.shadows ∧
    (State.ringBell s source).blobs = s.blobs ∧
    (State.ringBell s source).blobShadows = s.blobShadows ∧
    (State.ringBell s source).hubNeeds = s.hubNeeds ∧
    (State.ringBell s source).commits = s.commits ∧
    (State.ringBell s source).seeds = s.seeds ∧
    (State.ringBell s source).load = s.load ∧
    (State.ringBell s source).clusters = s.clusters ∧
    (State.ringBell s source).ctxs = s.ctxs ∧
    (State.ringBell s source).memory = s.memory ∧
    (State.ringBell s source).rig = s.rig ∧
    (State.ringBell s source).coll = s.coll ∧
    (State.ringBell s source).photonics = s.photonics ∧
    (State.ringBell s source).domain = s.domain ∧
    (State.ringBell s source).messages = s.messages ∧
    (State.ringBell s source).package = s.package ∧
    (State.ringBell s source).clocks = s.clocks ∧
    (State.ringBell s source).thermal = s.thermal ∧
    (State.ringBell s source).control = s.control ∧
    (State.ringBell s source).boot = s.boot ∧
    (State.ringBell s source).freeCount = s.freeCount := by
  unfold State.ringBell
  try dsimp only
  (repeat' split) <;> simp_all -implicitDefEqProofs [↓prod_flip3, prod_flip]

@[simp] theorem State.resumeClocks_kept (s : State) (ns : Nat) :
    (State.resumeClocks s ns).pending = s.pending ∧
    (State.resumeClocks s ns).fuses = s.fuses ∧
    (State.resumeClocks s ns).regs = s.regs ∧
    (State.resumeClocks s ns).shadows = s.shadows ∧
    (State.resumeClocks s ns).blobs = s.blobs ∧
    (State.resumeClocks s ns).blobShadows = s.blobShadows ∧
    (State.resumeClocks s ns).hubNeeds = s.hubNeeds ∧
    (State.resumeClocks s ns).commits = s.commits ∧
    (State.resumeClocks s ns).seeds = s.seeds ∧
    (State.resumeClocks s ns).load = s.load ∧
    (State.resumeClocks s ns).memory = s.memory ∧
    (State.resumeClocks s ns).rig = s.rig ∧
    (State.resumeClocks s ns).photonics = s.photonics ∧
    (State.resumeClocks s ns).domain = s.domain ∧
    (State.resumeClocks s ns).messages = s.messages ∧
    (State.resumeClocks s ns).package = s.package ∧
    (State.resumeClocks s ns).clocks = s.clocks ∧
    (State.resumeClocks s ns).thermal = s.thermal ∧
    (State.resumeClocks s ns).control = s.control ∧
    (State.resumeClocks s ns).boot = s.boot ∧
    (State.resumeClocks s ns).dbg = s.dbg ∧
    (State.resumeClocks s ns).freeCount = s.freeCount := by
  unfold State.resumeClocks
  try dsimp only
  (repeat' split) <;> simp_all -implicitDefEqProofs [↓prod_flip3, prod_flip]

@[simp] theorem State.releaseBell_kept (s : State) :
    (State.releaseBell s).pending = s.pending ∧
    (State.releaseBell s).fuses = s.fuses ∧
    (State.releaseBell s).shadows = s.shadows ∧
    (State.releaseBell s).blobShadows = s.blobShadows ∧
    (State.releaseBell s).hubNeeds = s.hubNeeds ∧
    (State.releaseBell s).seeds = s.seeds ∧
    (State.releaseBell s).load = s.load ∧
    (State.releaseBell s).photonics = s.photonics ∧
    (State.releaseBell s).package = s.package ∧
    (State.releaseBell s).thermal = s.thermal ∧
    (State.releaseBell s).boot = s.boot ∧
    (State.releaseBell s).freeCount = s.freeCount := by
  unfold State.releaseBell
  try dsimp only
  (repeat' split) <;> simp_all -implicitDefEqProofs [↓prod_flip3, prod_flip]

@[simp] theorem State.startScan_kept (s : State) (d : Nat) :
    (State.startScan s d).pending = s.pending ∧
    (State.startScan s d).fuses = s.fuses ∧
    (State.startScan s d).regs = s.regs ∧
    (State.startScan s d).shadows = s.shadows ∧
    (State.startScan s d).blobs = s.blobs ∧
    (State.startScan s d).blobShadows = s.blobShadows ∧
    (State.startScan s d).hubNeeds = s.hubNeeds ∧
    (State.startScan s d).commits = s.commits ∧
    (State.startScan s d).seeds = s.seeds ∧
    (State.startScan s d).load = s.load ∧
    (State.startScan s d).clusters = s.clusters ∧
    (State.startScan s d).ctxs = s.ctxs ∧
    (State.startScan s d).memory = s.memory ∧
    (State.startScan s d).rig = s.rig ∧
    (State.startScan s d).coll = s.coll ∧
    (State.startScan s d).photonics = s.photonics ∧
    (State.startScan s d).domain = s.domain ∧
    (State.startScan s d).messages = s.messages ∧
    (State.startScan s d).thermal = s.thermal ∧
    (State.startScan s d).control = s.control ∧
    (State.startScan s d).boot = s.boot ∧
    (State.startScan s d).dbg = s.dbg ∧
    (State.startScan s d).freeCount = s.freeCount := by
  unfold State.startScan
  try dsimp only
  (repeat' split) <;> simp_all -implicitDefEqProofs [↓prod_flip3, prod_flip]

@[simp] theorem State.bellAction_kept (s : State) (v : Nat) :
    (State.bellAction s v).pending = s.pending ∧
    (State.bellAction s v).fuses = s.fuses ∧
    (State.bellAction s v).shadows = s.shadows ∧
    (State.bellAction s v).blobShadows = s.blobShadows ∧
    (State.bellAction s v).hubNeeds = s.hubNeeds ∧
    (State.bellAction s v).seeds = s.seeds ∧
    (State.bellAction s v).load = s.load ∧
    (State.bellAction s v).photonics = s.photonics ∧
    (State.bellAction s v).package = s.package ∧
    (State.bellAction s v).thermal = s.thermal ∧
    (State.bellAction s v).boot = s.boot ∧
    (State.bellAction s v).freeCount = s.freeCount := by
  unfold State.bellAction
  try dsimp only
  (repeat' split) <;> simp_all -implicitDefEqProofs [↓prod_flip3, prod_flip]

@[simp] theorem State.imagePart_kept (s : State) (c : Nat) (part : Nat) :
    (State.imagePart s c part).2.pending = s.pending ∧
    (State.imagePart s c part).2.fuses = s.fuses ∧
    (State.imagePart s c part).2.regs = s.regs ∧
    (State.imagePart s c part).2.shadows = s.shadows ∧
    (State.imagePart s c part).2.blobs = s.blobs ∧
    (State.imagePart s c part).2.blobShadows = s.blobShadows ∧
    (State.imagePart s c part).2.hubNeeds = s.hubNeeds ∧
    (State.imagePart s c part).2.commits = s.commits ∧
    (State.imagePart s c part).2.seeds = s.seeds ∧
    (State.imagePart s c part).2.load = s.load ∧
    (State.imagePart s c part).2.clusters = s.clusters ∧
    (State.imagePart s c part).2.ctxs = s.ctxs ∧
    (State.imagePart s c part).2.memory = s.memory ∧
    (State.imagePart s c part).2.rig = s.rig ∧
    (State.imagePart s c part).2.coll = s.coll ∧
    (State.imagePart s c part).2.photonics = s.photonics ∧
    (State.imagePart s c part).2.domain = s.domain ∧
    (State.imagePart s c part).2.messages = s.messages ∧
    (State.imagePart s c part).2.package = s.package ∧
    (State.imagePart s c part).2.clocks = s.clocks ∧
    (State.imagePart s c part).2.thermal = s.thermal ∧
    (State.imagePart s c part).2.control = s.control ∧
    (State.imagePart s c part).2.boot = s.boot ∧
    (State.imagePart s c part).2.dbg = s.dbg := by
  unfold State.imagePart
  try dsimp only
  (repeat' split) <;> simp_all -implicitDefEqProofs [↓prod_flip3, prod_flip]

@[simp] theorem State.scanRead_kept (s : State) (offset : Nat) (length : Nat) :
    (State.scanRead s offset length).2.2.pending = s.pending ∧
    (State.scanRead s offset length).2.2.fuses = s.fuses ∧
    (State.scanRead s offset length).2.2.regs = s.regs ∧
    (State.scanRead s offset length).2.2.shadows = s.shadows ∧
    (State.scanRead s offset length).2.2.blobs = s.blobs ∧
    (State.scanRead s offset length).2.2.blobShadows = s.blobShadows ∧
    (State.scanRead s offset length).2.2.hubNeeds = s.hubNeeds ∧
    (State.scanRead s offset length).2.2.commits = s.commits ∧
    (State.scanRead s offset length).2.2.seeds = s.seeds ∧
    (State.scanRead s offset length).2.2.load = s.load ∧
    (State.scanRead s offset length).2.2.clusters = s.clusters ∧
    (State.scanRead s offset length).2.2.ctxs = s.ctxs ∧
    (State.scanRead s offset length).2.2.memory = s.memory ∧
    (State.scanRead s offset length).2.2.rig = s.rig ∧
    (State.scanRead s offset length).2.2.coll = s.coll ∧
    (State.scanRead s offset length).2.2.photonics = s.photonics ∧
    (State.scanRead s offset length).2.2.domain = s.domain ∧
    (State.scanRead s offset length).2.2.messages = s.messages ∧
    (State.scanRead s offset length).2.2.package = s.package ∧
    (State.scanRead s offset length).2.2.clocks = s.clocks ∧
    (State.scanRead s offset length).2.2.thermal = s.thermal ∧
    (State.scanRead s offset length).2.2.control = s.control ∧
    (State.scanRead s offset length).2.2.boot = s.boot ∧
    (State.scanRead s offset length).2.2.dbg = s.dbg := by
  unfold State.scanRead
  try dsimp only
  (repeat' split) <;> simp_all -implicitDefEqProofs [↓prod_flip3, prod_flip]

@[simp] theorem State.dumpRecord_kept (s : State) (c : Nat) (n : Nat) :
    (State.dumpRecord s c n).pending = s.pending ∧
    (State.dumpRecord s c n).fuses = s.fuses ∧
    (State.dumpRecord s c n).shadows = s.shadows ∧
    (State.dumpRecord s c n).blobShadows = s.blobShadows ∧
    (State.dumpRecord s c n).hubNeeds = s.hubNeeds ∧
    (State.dumpRecord s c n).commits = s.commits ∧
    (State.dumpRecord s c n).seeds = s.seeds ∧
    (State.dumpRecord s c n).load = s.load ∧
    (State.dumpRecord s c n).ctxs = s.ctxs ∧
    (State.dumpRecord s c n).rig = s.rig ∧
    (State.dumpRecord s c n).coll = s.coll ∧
    (State.dumpRecord s c n).photonics = s.photonics ∧
    (State.dumpRecord s c n).domain = s.domain ∧
    (State.dumpRecord s c n).messages = s.messages ∧
    (State.dumpRecord s c n).package = s.package ∧
    (State.dumpRecord s c n).clocks = s.clocks ∧
    (State.dumpRecord s c n).thermal = s.thermal ∧
    (State.dumpRecord s c n).boot = s.boot ∧
    (State.dumpRecord s c n).freeCount = s.freeCount := by
  unfold State.dumpRecord
  try dsimp only
  (repeat' split) <;> simp_all -implicitDefEqProofs [↓prod_flip3, prod_flip]

@[simp] theorem State.dumpReset_kept (s : State) (v : Nat) :
    (State.dumpReset s v).pending = s.pending ∧
    (State.dumpReset s v).fuses = s.fuses ∧
    (State.dumpReset s v).shadows = s.shadows ∧
    (State.dumpReset s v).blobs = s.blobs ∧
    (State.dumpReset s v).blobShadows = s.blobShadows ∧
    (State.dumpReset s v).hubNeeds = s.hubNeeds ∧
    (State.dumpReset s v).commits = s.commits ∧
    (State.dumpReset s v).seeds = s.seeds ∧
    (State.dumpReset s v).load = s.load ∧
    (State.dumpReset s v).clusters = s.clusters ∧
    (State.dumpReset s v).ctxs = s.ctxs ∧
    (State.dumpReset s v).memory = s.memory ∧
    (State.dumpReset s v).rig = s.rig ∧
    (State.dumpReset s v).coll = s.coll ∧
    (State.dumpReset s v).photonics = s.photonics ∧
    (State.dumpReset s v).domain = s.domain ∧
    (State.dumpReset s v).messages = s.messages ∧
    (State.dumpReset s v).package = s.package ∧
    (State.dumpReset s v).clocks = s.clocks ∧
    (State.dumpReset s v).thermal = s.thermal ∧
    (State.dumpReset s v).control = s.control ∧
    (State.dumpReset s v).boot = s.boot ∧
    (State.dumpReset s v).freeCount = s.freeCount := by
  unfold State.dumpReset
  try dsimp only
  (repeat' split) <;> simp_all -implicitDefEqProofs [↓prod_flip3, prod_flip]

@[simp] theorem State.counterClear_kept (s : State) (unit : Nat) :
    (State.counterClear s unit).2.pending = s.pending ∧
    (State.counterClear s unit).2.fuses = s.fuses ∧
    (State.counterClear s unit).2.regs = s.regs ∧
    (State.counterClear s unit).2.shadows = s.shadows ∧
    (State.counterClear s unit).2.blobs = s.blobs ∧
    (State.counterClear s unit).2.blobShadows = s.blobShadows ∧
    (State.counterClear s unit).2.hubNeeds = s.hubNeeds ∧
    (State.counterClear s unit).2.commits = s.commits ∧
    (State.counterClear s unit).2.seeds = s.seeds ∧
    (State.counterClear s unit).2.load = s.load ∧
    (State.counterClear s unit).2.ctxs = s.ctxs ∧
    (State.counterClear s unit).2.memory = s.memory ∧
    (State.counterClear s unit).2.rig = s.rig ∧
    (State.counterClear s unit).2.coll = s.coll ∧
    (State.counterClear s unit).2.photonics = s.photonics ∧
    (State.counterClear s unit).2.domain = s.domain ∧
    (State.counterClear s unit).2.messages = s.messages ∧
    (State.counterClear s unit).2.package = s.package ∧
    (State.counterClear s unit).2.clocks = s.clocks ∧
    (State.counterClear s unit).2.thermal = s.thermal ∧
    (State.counterClear s unit).2.control = s.control ∧
    (State.counterClear s unit).2.boot = s.boot ∧
    (State.counterClear s unit).2.dbg = s.dbg ∧
    (State.counterClear s unit).2.freeCount = s.freeCount := by
  unfold State.counterClear
  try dsimp only
  (repeat' split) <;> simp_all -implicitDefEqProofs [↓prod_flip3, prod_flip]

@[simp] theorem State.telemetryRecord_kept (s : State) (l : List (List Byte)) :
    (State.telemetryRecord s l).pending = s.pending ∧
    (State.telemetryRecord s l).fuses = s.fuses ∧
    (State.telemetryRecord s l).shadows = s.shadows ∧
    (State.telemetryRecord s l).blobs = s.blobs ∧
    (State.telemetryRecord s l).blobShadows = s.blobShadows ∧
    (State.telemetryRecord s l).hubNeeds = s.hubNeeds ∧
    (State.telemetryRecord s l).commits = s.commits ∧
    (State.telemetryRecord s l).seeds = s.seeds ∧
    (State.telemetryRecord s l).load = s.load ∧
    (State.telemetryRecord s l).clusters = s.clusters ∧
    (State.telemetryRecord s l).ctxs = s.ctxs ∧
    (State.telemetryRecord s l).memory = s.memory ∧
    (State.telemetryRecord s l).rig = s.rig ∧
    (State.telemetryRecord s l).coll = s.coll ∧
    (State.telemetryRecord s l).photonics = s.photonics ∧
    (State.telemetryRecord s l).domain = s.domain ∧
    (State.telemetryRecord s l).messages = s.messages ∧
    (State.telemetryRecord s l).package = s.package ∧
    (State.telemetryRecord s l).clocks = s.clocks ∧
    (State.telemetryRecord s l).thermal = s.thermal ∧
    (State.telemetryRecord s l).boot = s.boot ∧
    (State.telemetryRecord s l).freeCount = s.freeCount := by
  unfold State.telemetryRecord
  try dsimp only
  (repeat' split) <;> simp_all -implicitDefEqProofs [↓prod_flip3, prod_flip]

@[simp] theorem State.applyDebugTable_kept (s : State) (k : Nat) (f : List Byte → Debug → Debug) :
    (State.applyDebugTable s k f).pending = s.pending ∧
    (State.applyDebugTable s k f).fuses = s.fuses ∧
    (State.applyDebugTable s k f).regs = s.regs ∧
    (State.applyDebugTable s k f).shadows = s.shadows ∧
    (State.applyDebugTable s k f).blobs = s.blobs ∧
    (State.applyDebugTable s k f).hubNeeds = s.hubNeeds ∧
    (State.applyDebugTable s k f).commits = s.commits ∧
    (State.applyDebugTable s k f).seeds = s.seeds ∧
    (State.applyDebugTable s k f).load = s.load ∧
    (State.applyDebugTable s k f).clusters = s.clusters ∧
    (State.applyDebugTable s k f).ctxs = s.ctxs ∧
    (State.applyDebugTable s k f).memory = s.memory ∧
    (State.applyDebugTable s k f).rig = s.rig ∧
    (State.applyDebugTable s k f).coll = s.coll ∧
    (State.applyDebugTable s k f).photonics = s.photonics ∧
    (State.applyDebugTable s k f).domain = s.domain ∧
    (State.applyDebugTable s k f).messages = s.messages ∧
    (State.applyDebugTable s k f).package = s.package ∧
    (State.applyDebugTable s k f).clocks = s.clocks ∧
    (State.applyDebugTable s k f).thermal = s.thermal ∧
    (State.applyDebugTable s k f).control = s.control ∧
    (State.applyDebugTable s k f).boot = s.boot ∧
    (State.applyDebugTable s k f).freeCount = s.freeCount := by
  unfold State.applyDebugTable
  try dsimp only
  (repeat' split) <;> simp_all -implicitDefEqProofs [↓prod_flip3, prod_flip]

@[simp] theorem State.debugCommitOp_kept (s : State) (value : Nat) :
    (State.debugCommitOp s value).2.pending = s.pending ∧
    (State.debugCommitOp s value).2.fuses = s.fuses ∧
    (State.debugCommitOp s value).2.shadows = s.shadows ∧
    (State.debugCommitOp s value).2.blobs = s.blobs ∧
    (State.debugCommitOp s value).2.hubNeeds = s.hubNeeds ∧
    (State.debugCommitOp s value).2.commits = s.commits ∧
    (State.debugCommitOp s value).2.seeds = s.seeds ∧
    (State.debugCommitOp s value).2.load = s.load ∧
    (State.debugCommitOp s value).2.clusters = s.clusters ∧
    (State.debugCommitOp s value).2.ctxs = s.ctxs ∧
    (State.debugCommitOp s value).2.memory = s.memory ∧
    (State.debugCommitOp s value).2.rig = s.rig ∧
    (State.debugCommitOp s value).2.coll = s.coll ∧
    (State.debugCommitOp s value).2.photonics = s.photonics ∧
    (State.debugCommitOp s value).2.domain = s.domain ∧
    (State.debugCommitOp s value).2.messages = s.messages ∧
    (State.debugCommitOp s value).2.package = s.package ∧
    (State.debugCommitOp s value).2.clocks = s.clocks ∧
    (State.debugCommitOp s value).2.thermal = s.thermal ∧
    (State.debugCommitOp s value).2.control = s.control ∧
    (State.debugCommitOp s value).2.boot = s.boot ∧
    (State.debugCommitOp s value).2.freeCount = s.freeCount := by
  unfold State.debugCommitOp
  try dsimp only
  (repeat' split) <;> simp_all -implicitDefEqProofs [↓prod_flip3, prod_flip]

@[simp] theorem State.coldBase_kept (s : State) (obs : StartObs) :
    (State.coldBase s obs).pending = s.pending ∧
    (State.coldBase s obs).fuses = s.fuses ∧
    (State.coldBase s obs).freeCount = s.freeCount := by
  unfold State.coldBase
  try dsimp only
  (repeat' split) <;> simp_all -implicitDefEqProofs [↓prod_flip3, prod_flip]

@[simp] theorem State.warmBase_kept (s : State) (obs : StartObs) :
    (State.warmBase s obs).pending = s.pending ∧
    (State.warmBase s obs).fuses = s.fuses ∧
    (State.warmBase s obs).photonics = s.photonics ∧
    (State.warmBase s obs).freeCount = s.freeCount := by
  unfold State.warmBase
  try dsimp only
  (repeat' split) <;> simp_all -implicitDefEqProofs [↓prod_flip3, prod_flip]

@[simp] theorem State.selectImage_kept (s : State) :
    (State.selectImage s).2.pending = s.pending ∧
    (State.selectImage s).2.fuses = s.fuses ∧
    (State.selectImage s).2.shadows = s.shadows ∧
    (State.selectImage s).2.blobs = s.blobs ∧
    (State.selectImage s).2.blobShadows = s.blobShadows ∧
    (State.selectImage s).2.hubNeeds = s.hubNeeds ∧
    (State.selectImage s).2.commits = s.commits ∧
    (State.selectImage s).2.seeds = s.seeds ∧
    (State.selectImage s).2.load = s.load ∧
    (State.selectImage s).2.clusters = s.clusters ∧
    (State.selectImage s).2.ctxs = s.ctxs ∧
    (State.selectImage s).2.memory = s.memory ∧
    (State.selectImage s).2.rig = s.rig ∧
    (State.selectImage s).2.coll = s.coll ∧
    (State.selectImage s).2.photonics = s.photonics ∧
    (State.selectImage s).2.domain = s.domain ∧
    (State.selectImage s).2.messages = s.messages ∧
    (State.selectImage s).2.package = s.package ∧
    (State.selectImage s).2.clocks = s.clocks ∧
    (State.selectImage s).2.thermal = s.thermal ∧
    (State.selectImage s).2.boot = s.boot ∧
    (State.selectImage s).2.freeCount = s.freeCount := by
  unfold State.selectImage
  try dsimp only
  (repeat' split) <;> simp_all -implicitDefEqProofs [↓prod_flip3, prod_flip]

@[simp] theorem State.measureStart_kept (s : State) (image : Option (List Byte)) :
    (State.measureStart s image).pending = s.pending ∧
    (State.measureStart s image).fuses = s.fuses ∧
    (State.measureStart s image).regs = s.regs ∧
    (State.measureStart s image).shadows = s.shadows ∧
    (State.measureStart s image).blobs = s.blobs ∧
    (State.measureStart s image).blobShadows = s.blobShadows ∧
    (State.measureStart s image).hubNeeds = s.hubNeeds ∧
    (State.measureStart s image).commits = s.commits ∧
    (State.measureStart s image).seeds = s.seeds ∧
    (State.measureStart s image).load = s.load ∧
    (State.measureStart s image).clusters = s.clusters ∧
    (State.measureStart s image).ctxs = s.ctxs ∧
    (State.measureStart s image).memory = s.memory ∧
    (State.measureStart s image).rig = s.rig ∧
    (State.measureStart s image).coll = s.coll ∧
    (State.measureStart s image).photonics = s.photonics ∧
    (State.measureStart s image).domain = s.domain ∧
    (State.measureStart s image).messages = s.messages ∧
    (State.measureStart s image).package = s.package ∧
    (State.measureStart s image).clocks = s.clocks ∧
    (State.measureStart s image).thermal = s.thermal ∧
    (State.measureStart s image).control = s.control ∧
    (State.measureStart s image).dbg = s.dbg ∧
    (State.measureStart s image).freeCount = s.freeCount := by
  unfold State.measureStart
  try dsimp only
  (repeat' split) <;> simp_all -implicitDefEqProofs [↓prod_flip3, prod_flip]

@[simp] theorem State.enterService_kept (s : State) :
    (State.enterService s).pending = s.pending ∧
    (State.enterService s).fuses = s.fuses ∧
    (State.enterService s).shadows = s.shadows ∧
    (State.enterService s).blobs = s.blobs ∧
    (State.enterService s).blobShadows = s.blobShadows ∧
    (State.enterService s).hubNeeds = s.hubNeeds ∧
    (State.enterService s).commits = s.commits ∧
    (State.enterService s).seeds = s.seeds ∧
    (State.enterService s).load = s.load ∧
    (State.enterService s).clusters = s.clusters ∧
    (State.enterService s).ctxs = s.ctxs ∧
    (State.enterService s).memory = s.memory ∧
    (State.enterService s).rig = s.rig ∧
    (State.enterService s).coll = s.coll ∧
    (State.enterService s).photonics = s.photonics ∧
    (State.enterService s).domain = s.domain ∧
    (State.enterService s).messages = s.messages ∧
    (State.enterService s).clocks = s.clocks ∧
    (State.enterService s).thermal = s.thermal ∧
    (State.enterService s).control = s.control ∧
    (State.enterService s).dbg = s.dbg ∧
    (State.enterService s).freeCount = s.freeCount := by
  unfold State.enterService
  try dsimp only
  (repeat' split) <;> simp_all -implicitDefEqProofs [↓prod_flip3, prod_flip]

@[simp] theorem State.createIdentity_kept (s : State) :
    (State.createIdentity s).pending = s.pending ∧
    (State.createIdentity s).fuses = s.fuses ∧
    (State.createIdentity s).regs = s.regs ∧
    (State.createIdentity s).shadows = s.shadows ∧
    (State.createIdentity s).blobs = s.blobs ∧
    (State.createIdentity s).blobShadows = s.blobShadows ∧
    (State.createIdentity s).hubNeeds = s.hubNeeds ∧
    (State.createIdentity s).commits = s.commits ∧
    (State.createIdentity s).seeds = s.seeds ∧
    (State.createIdentity s).load = s.load ∧
    (State.createIdentity s).clusters = s.clusters ∧
    (State.createIdentity s).ctxs = s.ctxs ∧
    (State.createIdentity s).memory = s.memory ∧
    (State.createIdentity s).rig = s.rig ∧
    (State.createIdentity s).coll = s.coll ∧
    (State.createIdentity s).photonics = s.photonics ∧
    (State.createIdentity s).domain = s.domain ∧
    (State.createIdentity s).messages = s.messages ∧
    (State.createIdentity s).package = s.package ∧
    (State.createIdentity s).clocks = s.clocks ∧
    (State.createIdentity s).thermal = s.thermal ∧
    (State.createIdentity s).control = s.control ∧
    (State.createIdentity s).dbg = s.dbg := by
  unfold State.createIdentity
  try dsimp only
  (repeat' split) <;> simp_all -implicitDefEqProofs [↓prod_flip3, prod_flip]

@[simp] theorem State.eraseAtEnd_kept (s : State) :
    (State.eraseAtEnd s).pending = s.pending ∧
    (State.eraseAtEnd s).fuses = s.fuses ∧
    (State.eraseAtEnd s).regs = s.regs ∧
    (State.eraseAtEnd s).shadows = s.shadows ∧
    (State.eraseAtEnd s).blobs = s.blobs ∧
    (State.eraseAtEnd s).blobShadows = s.blobShadows ∧
    (State.eraseAtEnd s).hubNeeds = s.hubNeeds ∧
    (State.eraseAtEnd s).commits = s.commits ∧
    (State.eraseAtEnd s).seeds = s.seeds ∧
    (State.eraseAtEnd s).load = s.load ∧
    (State.eraseAtEnd s).clusters = s.clusters ∧
    (State.eraseAtEnd s).ctxs = s.ctxs ∧
    (State.eraseAtEnd s).memory = s.memory ∧
    (State.eraseAtEnd s).rig = s.rig ∧
    (State.eraseAtEnd s).coll = s.coll ∧
    (State.eraseAtEnd s).photonics = s.photonics ∧
    (State.eraseAtEnd s).domain = s.domain ∧
    (State.eraseAtEnd s).messages = s.messages ∧
    (State.eraseAtEnd s).package = s.package ∧
    (State.eraseAtEnd s).clocks = s.clocks ∧
    (State.eraseAtEnd s).thermal = s.thermal ∧
    (State.eraseAtEnd s).control = s.control ∧
    (State.eraseAtEnd s).dbg = s.dbg ∧
    (State.eraseAtEnd s).freeCount = s.freeCount := by
  unfold State.eraseAtEnd
  try dsimp only
  (repeat' split) <;> simp_all -implicitDefEqProofs [↓prod_flip3, prod_flip]

@[simp] theorem State.setLeaf_kept (s : State) :
    (State.setLeaf s).pending = s.pending ∧
    (State.setLeaf s).fuses = s.fuses ∧
    (State.setLeaf s).shadows = s.shadows ∧
    (State.setLeaf s).blobs = s.blobs ∧
    (State.setLeaf s).blobShadows = s.blobShadows ∧
    (State.setLeaf s).hubNeeds = s.hubNeeds ∧
    (State.setLeaf s).commits = s.commits ∧
    (State.setLeaf s).seeds = s.seeds ∧
    (State.setLeaf s).load = s.load ∧
    (State.setLeaf s).clusters = s.clusters ∧
    (State.setLeaf s).ctxs = s.ctxs ∧
    (State.setLeaf s).memory = s.memory ∧
    (State.setLeaf s).rig = s.rig ∧
    (State.setLeaf s).coll = s.coll ∧
    (State.setLeaf s).photonics = s.photonics ∧
    (State.setLeaf s).domain = s.domain ∧
    (State.setLeaf s).messages = s.messages ∧
    (State.setLeaf s).package = s.package ∧
    (State.setLeaf s).clocks = s.clocks ∧
    (State.setLeaf s).thermal = s.thermal ∧
    (State.setLeaf s).freeCount = s.freeCount := by
  unfold State.setLeaf
  try dsimp only
  (repeat' split) <;> simp_all -implicitDefEqProofs [↓prod_flip3, prod_flip]

@[simp] theorem State.mendFuses_kept (s : State) :
    (State.mendFuses s).pending = s.pending ∧
    (State.mendFuses s).regs = s.regs ∧
    (State.mendFuses s).shadows = s.shadows ∧
    (State.mendFuses s).blobs = s.blobs ∧
    (State.mendFuses s).blobShadows = s.blobShadows ∧
    (State.mendFuses s).hubNeeds = s.hubNeeds ∧
    (State.mendFuses s).commits = s.commits ∧
    (State.mendFuses s).seeds = s.seeds ∧
    (State.mendFuses s).load = s.load ∧
    (State.mendFuses s).clusters = s.clusters ∧
    (State.mendFuses s).ctxs = s.ctxs ∧
    (State.mendFuses s).memory = s.memory ∧
    (State.mendFuses s).rig = s.rig ∧
    (State.mendFuses s).coll = s.coll ∧
    (State.mendFuses s).photonics = s.photonics ∧
    (State.mendFuses s).domain = s.domain ∧
    (State.mendFuses s).messages = s.messages ∧
    (State.mendFuses s).package = s.package ∧
    (State.mendFuses s).clocks = s.clocks ∧
    (State.mendFuses s).thermal = s.thermal ∧
    (State.mendFuses s).control = s.control ∧
    (State.mendFuses s).boot = s.boot ∧
    (State.mendFuses s).dbg = s.dbg ∧
    (State.mendFuses s).freeCount = s.freeCount := by
  unfold State.mendFuses
  try dsimp only
  (repeat' split) <;> simp_all -implicitDefEqProofs [↓prod_flip3, prod_flip]

@[simp] theorem State.applyRepair_kept (s : State) (x1 : RepairRecord) :
    (State.applyRepair s x1).pending = s.pending ∧
    (State.applyRepair s x1).fuses = s.fuses ∧
    (State.applyRepair s x1).shadows = s.shadows ∧
    (State.applyRepair s x1).blobShadows = s.blobShadows ∧
    (State.applyRepair s x1).hubNeeds = s.hubNeeds ∧
    (State.applyRepair s x1).seeds = s.seeds ∧
    (State.applyRepair s x1).load = s.load ∧
    (State.applyRepair s x1).photonics = s.photonics ∧
    (State.applyRepair s x1).boot = s.boot ∧
    (State.applyRepair s x1).freeCount = s.freeCount := by
  unfold State.applyRepair
  try dsimp only
  (repeat' split) <;> simp_all -implicitDefEqProofs [↓prod_flip3, prod_flip]

@[simp] theorem State.skipRepair_kept (s : State) (r : RepairRecord) :
    (State.skipRepair s r).pending = s.pending ∧
    (State.skipRepair s r).fuses = s.fuses ∧
    (State.skipRepair s r).shadows = s.shadows ∧
    (State.skipRepair s r).blobs = s.blobs ∧
    (State.skipRepair s r).blobShadows = s.blobShadows ∧
    (State.skipRepair s r).hubNeeds = s.hubNeeds ∧
    (State.skipRepair s r).commits = s.commits ∧
    (State.skipRepair s r).seeds = s.seeds ∧
    (State.skipRepair s r).load = s.load ∧
    (State.skipRepair s r).clusters = s.clusters ∧
    (State.skipRepair s r).ctxs = s.ctxs ∧
    (State.skipRepair s r).memory = s.memory ∧
    (State.skipRepair s r).rig = s.rig ∧
    (State.skipRepair s r).coll = s.coll ∧
    (State.skipRepair s r).photonics = s.photonics ∧
    (State.skipRepair s r).domain = s.domain ∧
    (State.skipRepair s r).messages = s.messages ∧
    (State.skipRepair s r).clocks = s.clocks ∧
    (State.skipRepair s r).thermal = s.thermal ∧
    (State.skipRepair s r).boot = s.boot ∧
    (State.skipRepair s r).freeCount = s.freeCount := by
  unfold State.skipRepair
  try dsimp only
  (repeat' split) <;> simp_all -implicitDefEqProofs [↓prod_flip3, prod_flip]

@[simp] theorem State.applyRepairs_kept (s : State) (bad : List Nat) :
    (State.applyRepairs s bad).pending = s.pending ∧
    (State.applyRepairs s bad).fuses = s.fuses ∧
    (State.applyRepairs s bad).shadows = s.shadows ∧
    (State.applyRepairs s bad).blobShadows = s.blobShadows ∧
    (State.applyRepairs s bad).hubNeeds = s.hubNeeds ∧
    (State.applyRepairs s bad).seeds = s.seeds ∧
    (State.applyRepairs s bad).load = s.load ∧
    (State.applyRepairs s bad).photonics = s.photonics ∧
    (State.applyRepairs s bad).boot = s.boot ∧
    (State.applyRepairs s bad).freeCount = s.freeCount := by
  unfold State.applyRepairs
  try dsimp only
  (repeat' split) <;> simp_all -implicitDefEqProofs [↓prod_flip3, prod_flip]

@[simp] theorem State.trainLanes_kept (s : State) (failed : List (Nat × Nat)) :
    (State.trainLanes s failed).pending = s.pending ∧
    (State.trainLanes s failed).fuses = s.fuses ∧
    (State.trainLanes s failed).shadows = s.shadows ∧
    (State.trainLanes s failed).blobs = s.blobs ∧
    (State.trainLanes s failed).blobShadows = s.blobShadows ∧
    (State.trainLanes s failed).hubNeeds = s.hubNeeds ∧
    (State.trainLanes s failed).commits = s.commits ∧
    (State.trainLanes s failed).seeds = s.seeds ∧
    (State.trainLanes s failed).load = s.load ∧
    (State.trainLanes s failed).clusters = s.clusters ∧
    (State.trainLanes s failed).ctxs = s.ctxs ∧
    (State.trainLanes s failed).memory = s.memory ∧
    (State.trainLanes s failed).coll = s.coll ∧
    (State.trainLanes s failed).photonics = s.photonics ∧
    (State.trainLanes s failed).domain = s.domain ∧
    (State.trainLanes s failed).messages = s.messages ∧
    (State.trainLanes s failed).package = s.package ∧
    (State.trainLanes s failed).clocks = s.clocks ∧
    (State.trainLanes s failed).thermal = s.thermal ∧
    (State.trainLanes s failed).boot = s.boot ∧
    (State.trainLanes s failed).freeCount = s.freeCount := by
  unfold State.trainLanes
  try dsimp only
  (repeat' split) <;> simp_all -implicitDefEqProofs [↓prod_flip3, prod_flip]

@[simp] theorem State.trainPaths_kept (s : State) (old : State) :
    (State.trainPaths s old).pending = s.pending ∧
    (State.trainPaths s old).fuses = s.fuses ∧
    (State.trainPaths s old).shadows = s.shadows ∧
    (State.trainPaths s old).blobs = s.blobs ∧
    (State.trainPaths s old).blobShadows = s.blobShadows ∧
    (State.trainPaths s old).hubNeeds = s.hubNeeds ∧
    (State.trainPaths s old).commits = s.commits ∧
    (State.trainPaths s old).seeds = s.seeds ∧
    (State.trainPaths s old).load = s.load ∧
    (State.trainPaths s old).clusters = s.clusters ∧
    (State.trainPaths s old).ctxs = s.ctxs ∧
    (State.trainPaths s old).memory = s.memory ∧
    (State.trainPaths s old).coll = s.coll ∧
    (State.trainPaths s old).photonics = s.photonics ∧
    (State.trainPaths s old).messages = s.messages ∧
    (State.trainPaths s old).package = s.package ∧
    (State.trainPaths s old).clocks = s.clocks ∧
    (State.trainPaths s old).thermal = s.thermal ∧
    (State.trainPaths s old).boot = s.boot ∧
    (State.trainPaths s old).freeCount = s.freeCount := by
  unfold State.trainPaths
  try dsimp only
  (repeat' split) <;> simp_all -implicitDefEqProofs [↓prod_flip3, prod_flip]

@[simp] theorem State.failRings_kept (s : State) (l : List Nat) :
    (State.failRings s l).pending = s.pending ∧
    (State.failRings s l).fuses = s.fuses ∧
    (State.failRings s l).shadows = s.shadows ∧
    (State.failRings s l).blobs = s.blobs ∧
    (State.failRings s l).blobShadows = s.blobShadows ∧
    (State.failRings s l).hubNeeds = s.hubNeeds ∧
    (State.failRings s l).commits = s.commits ∧
    (State.failRings s l).seeds = s.seeds ∧
    (State.failRings s l).load = s.load ∧
    (State.failRings s l).clusters = s.clusters ∧
    (State.failRings s l).ctxs = s.ctxs ∧
    (State.failRings s l).memory = s.memory ∧
    (State.failRings s l).rig = s.rig ∧
    (State.failRings s l).coll = s.coll ∧
    (State.failRings s l).domain = s.domain ∧
    (State.failRings s l).messages = s.messages ∧
    (State.failRings s l).package = s.package ∧
    (State.failRings s l).clocks = s.clocks ∧
    (State.failRings s l).thermal = s.thermal ∧
    (State.failRings s l).boot = s.boot ∧
    (State.failRings s l).freeCount = s.freeCount := by
  unfold State.failRings
  try dsimp only
  (repeat' split) <;> simp_all -implicitDefEqProofs [↓prod_flip3, prod_flip]

@[simp] theorem State.raiseFirmware_kept (s : State) (image : List Byte) :
    (State.raiseFirmware s image).pending = s.pending ∧
    (State.raiseFirmware s image).fuses = s.fuses ∧
    (State.raiseFirmware s image).regs = s.regs ∧
    (State.raiseFirmware s image).shadows = s.shadows ∧
    (State.raiseFirmware s image).blobs = s.blobs ∧
    (State.raiseFirmware s image).blobShadows = s.blobShadows ∧
    (State.raiseFirmware s image).hubNeeds = s.hubNeeds ∧
    (State.raiseFirmware s image).commits = s.commits ∧
    (State.raiseFirmware s image).seeds = s.seeds ∧
    (State.raiseFirmware s image).load = s.load ∧
    (State.raiseFirmware s image).clusters = s.clusters ∧
    (State.raiseFirmware s image).ctxs = s.ctxs ∧
    (State.raiseFirmware s image).memory = s.memory ∧
    (State.raiseFirmware s image).rig = s.rig ∧
    (State.raiseFirmware s image).coll = s.coll ∧
    (State.raiseFirmware s image).photonics = s.photonics ∧
    (State.raiseFirmware s image).domain = s.domain ∧
    (State.raiseFirmware s image).messages = s.messages ∧
    (State.raiseFirmware s image).package = s.package ∧
    (State.raiseFirmware s image).clocks = s.clocks ∧
    (State.raiseFirmware s image).thermal = s.thermal ∧
    (State.raiseFirmware s image).control = s.control ∧
    (State.raiseFirmware s image).dbg = s.dbg ∧
    (State.raiseFirmware s image).freeCount = s.freeCount := by
  unfold State.raiseFirmware
  try dsimp only
  (repeat' split) <;> simp_all -implicitDefEqProofs [↓prod_flip3, prod_flip]

@[simp] theorem State.bringUp_kept (s : State) (old : State) (obs : StartObs) (type : Nat) (slot : Nat) :
    (State.bringUp s old obs type slot).pending = s.pending ∧
    (State.bringUp s old obs type slot).fuses = s.fuses ∧
    (State.bringUp s old obs type slot).shadows = s.shadows ∧
    (State.bringUp s old obs type slot).blobShadows = s.blobShadows ∧
    (State.bringUp s old obs type slot).hubNeeds = s.hubNeeds ∧
    (State.bringUp s old obs type slot).seeds = s.seeds ∧
    (State.bringUp s old obs type slot).load = s.load := by
  unfold State.bringUp
  try dsimp only
  (repeat' split) <;> simp_all -implicitDefEqProofs [↓prod_flip3, prod_flip]

@[simp] theorem State.start_kept (s : State) (old : State) (obs : StartObs) (type : Nat) :
    (State.start s old obs type).pending = s.pending ∧
    (State.start s old obs type).shadows = s.shadows ∧
    (State.start s old obs type).blobShadows = s.blobShadows ∧
    (State.start s old obs type).hubNeeds = s.hubNeeds ∧
    (State.start s old obs type).seeds = s.seeds ∧
    (State.start s old obs type).load = s.load := by
  unfold State.start
  try dsimp only
  (repeat' split) <;> simp_all -implicitDefEqProofs [↓prod_flip3, prod_flip]

@[simp] theorem State.noticeStart_kept (s : State) :
    (State.noticeStart s).pending = s.pending ∧
    (State.noticeStart s).fuses = s.fuses ∧
    (State.noticeStart s).regs = s.regs ∧
    (State.noticeStart s).shadows = s.shadows ∧
    (State.noticeStart s).blobs = s.blobs ∧
    (State.noticeStart s).blobShadows = s.blobShadows ∧
    (State.noticeStart s).hubNeeds = s.hubNeeds ∧
    (State.noticeStart s).commits = s.commits ∧
    (State.noticeStart s).seeds = s.seeds ∧
    (State.noticeStart s).load = s.load ∧
    (State.noticeStart s).clusters = s.clusters ∧
    (State.noticeStart s).ctxs = s.ctxs ∧
    (State.noticeStart s).memory = s.memory ∧
    (State.noticeStart s).rig = s.rig ∧
    (State.noticeStart s).coll = s.coll ∧
    (State.noticeStart s).photonics = s.photonics ∧
    (State.noticeStart s).messages = s.messages ∧
    (State.noticeStart s).package = s.package ∧
    (State.noticeStart s).clocks = s.clocks ∧
    (State.noticeStart s).thermal = s.thermal ∧
    (State.noticeStart s).boot = s.boot ∧
    (State.noticeStart s).dbg = s.dbg ∧
    (State.noticeStart s).freeCount = s.freeCount := by
  unfold State.noticeStart
  try dsimp only
  (repeat' split) <;> simp_all -implicitDefEqProofs [↓prod_flip3, prod_flip]

@[simp] theorem State.requestStart_kept (s : State) (cold : Bool) :
    (State.requestStart s cold).pending = s.pending ∧
    (State.requestStart s cold).fuses = s.fuses ∧
    (State.requestStart s cold).regs = s.regs ∧
    (State.requestStart s cold).shadows = s.shadows ∧
    (State.requestStart s cold).blobs = s.blobs ∧
    (State.requestStart s cold).blobShadows = s.blobShadows ∧
    (State.requestStart s cold).hubNeeds = s.hubNeeds ∧
    (State.requestStart s cold).commits = s.commits ∧
    (State.requestStart s cold).seeds = s.seeds ∧
    (State.requestStart s cold).load = s.load ∧
    (State.requestStart s cold).clusters = s.clusters ∧
    (State.requestStart s cold).ctxs = s.ctxs ∧
    (State.requestStart s cold).memory = s.memory ∧
    (State.requestStart s cold).rig = s.rig ∧
    (State.requestStart s cold).coll = s.coll ∧
    (State.requestStart s cold).photonics = s.photonics ∧
    (State.requestStart s cold).domain = s.domain ∧
    (State.requestStart s cold).messages = s.messages ∧
    (State.requestStart s cold).package = s.package ∧
    (State.requestStart s cold).clocks = s.clocks ∧
    (State.requestStart s cold).thermal = s.thermal ∧
    (State.requestStart s cold).control = s.control ∧
    (State.requestStart s cold).dbg = s.dbg ∧
    (State.requestStart s cold).freeCount = s.freeCount := by
  unfold State.requestStart
  try dsimp only
  (repeat' split) <;> simp_all -implicitDefEqProofs [↓prod_flip3, prod_flip]

@[simp] theorem State.railReset_kept (s : State) (d : Nat) :
    (State.railReset s d).pending = s.pending ∧
    (State.railReset s d).fuses = s.fuses ∧
    (State.railReset s d).shadows = s.shadows ∧
    (State.railReset s d).blobShadows = s.blobShadows ∧
    (State.railReset s d).hubNeeds = s.hubNeeds ∧
    (State.railReset s d).seeds = s.seeds ∧
    (State.railReset s d).load = s.load ∧
    (State.railReset s d).photonics = s.photonics ∧
    (State.railReset s d).boot = s.boot ∧
    (State.railReset s d).freeCount = s.freeCount := by
  unfold State.railReset
  try dsimp only
  (repeat' split) <;> simp_all -implicitDefEqProofs [↓prod_flip3, prod_flip]

@[simp] theorem State.lifeCycleAction_kept (s : State) (target : Nat) :
    (State.lifeCycleAction s target).pending = s.pending ∧
    (State.lifeCycleAction s target).shadows = s.shadows ∧
    (State.lifeCycleAction s target).blobs = s.blobs ∧
    (State.lifeCycleAction s target).blobShadows = s.blobShadows ∧
    (State.lifeCycleAction s target).hubNeeds = s.hubNeeds ∧
    (State.lifeCycleAction s target).commits = s.commits ∧
    (State.lifeCycleAction s target).seeds = s.seeds ∧
    (State.lifeCycleAction s target).load = s.load ∧
    (State.lifeCycleAction s target).clusters = s.clusters ∧
    (State.lifeCycleAction s target).ctxs = s.ctxs ∧
    (State.lifeCycleAction s target).memory = s.memory ∧
    (State.lifeCycleAction s target).rig = s.rig ∧
    (State.lifeCycleAction s target).coll = s.coll ∧
    (State.lifeCycleAction s target).photonics = s.photonics ∧
    (State.lifeCycleAction s target).domain = s.domain ∧
    (State.lifeCycleAction s target).messages = s.messages ∧
    (State.lifeCycleAction s target).package = s.package ∧
    (State.lifeCycleAction s target).clocks = s.clocks ∧
    (State.lifeCycleAction s target).thermal = s.thermal ∧
    (State.lifeCycleAction s target).control = s.control ∧
    (State.lifeCycleAction s target).dbg = s.dbg ∧
    (State.lifeCycleAction s target).freeCount = s.freeCount := by
  unfold State.lifeCycleAction
  try dsimp only
  (repeat' split) <;> simp_all -implicitDefEqProofs [↓prod_flip3, prod_flip]

@[simp] theorem State.securityCommitOp_kept (s : State) (value : Nat) (readBackGood : Bool) :
    (State.securityCommitOp s value readBackGood).2.pending = s.pending ∧
    (State.securityCommitOp s value readBackGood).2.fuses = s.fuses ∧
    (State.securityCommitOp s value readBackGood).2.shadows = s.shadows ∧
    (State.securityCommitOp s value readBackGood).2.blobShadows = s.blobShadows ∧
    (State.securityCommitOp s value readBackGood).2.hubNeeds = s.hubNeeds ∧
    (State.securityCommitOp s value readBackGood).2.commits = s.commits ∧
    (State.securityCommitOp s value readBackGood).2.seeds = s.seeds ∧
    (State.securityCommitOp s value readBackGood).2.load = s.load ∧
    (State.securityCommitOp s value readBackGood).2.clusters = s.clusters ∧
    (State.securityCommitOp s value readBackGood).2.ctxs = s.ctxs ∧
    (State.securityCommitOp s value readBackGood).2.memory = s.memory ∧
    (State.securityCommitOp s value readBackGood).2.rig = s.rig ∧
    (State.securityCommitOp s value readBackGood).2.coll = s.coll ∧
    (State.securityCommitOp s value readBackGood).2.photonics = s.photonics ∧
    (State.securityCommitOp s value readBackGood).2.domain = s.domain ∧
    (State.securityCommitOp s value readBackGood).2.messages = s.messages ∧
    (State.securityCommitOp s value readBackGood).2.package = s.package ∧
    (State.securityCommitOp s value readBackGood).2.clocks = s.clocks ∧
    (State.securityCommitOp s value readBackGood).2.thermal = s.thermal ∧
    (State.securityCommitOp s value readBackGood).2.control = s.control ∧
    (State.securityCommitOp s value readBackGood).2.dbg = s.dbg ∧
    (State.securityCommitOp s value readBackGood).2.freeCount = s.freeCount := by
  unfold State.securityCommitOp
  try dsimp only
  (repeat' split) <;> simp_all -implicitDefEqProofs [↓prod_flip3, prod_flip]

@[simp] theorem State.reserveLeaf_kept (s : State) :
    (State.reserveLeaf s).pending = s.pending ∧
    (State.reserveLeaf s).fuses = s.fuses ∧
    (State.reserveLeaf s).regs = s.regs ∧
    (State.reserveLeaf s).shadows = s.shadows ∧
    (State.reserveLeaf s).blobs = s.blobs ∧
    (State.reserveLeaf s).blobShadows = s.blobShadows ∧
    (State.reserveLeaf s).hubNeeds = s.hubNeeds ∧
    (State.reserveLeaf s).commits = s.commits ∧
    (State.reserveLeaf s).seeds = s.seeds ∧
    (State.reserveLeaf s).load = s.load ∧
    (State.reserveLeaf s).clusters = s.clusters ∧
    (State.reserveLeaf s).ctxs = s.ctxs ∧
    (State.reserveLeaf s).memory = s.memory ∧
    (State.reserveLeaf s).rig = s.rig ∧
    (State.reserveLeaf s).coll = s.coll ∧
    (State.reserveLeaf s).photonics = s.photonics ∧
    (State.reserveLeaf s).domain = s.domain ∧
    (State.reserveLeaf s).messages = s.messages ∧
    (State.reserveLeaf s).package = s.package ∧
    (State.reserveLeaf s).clocks = s.clocks ∧
    (State.reserveLeaf s).thermal = s.thermal ∧
    (State.reserveLeaf s).control = s.control ∧
    (State.reserveLeaf s).dbg = s.dbg ∧
    (State.reserveLeaf s).freeCount = s.freeCount := by
  unfold State.reserveLeaf
  try dsimp only
  (repeat' split) <;> simp_all -implicitDefEqProofs [↓prod_flip3, prod_flip]

@[simp] theorem State.attest_kept (s : State) :
    (State.attest s).pending = s.pending ∧
    (State.attest s).fuses = s.fuses ∧
    (State.attest s).shadows = s.shadows ∧
    (State.attest s).blobShadows = s.blobShadows ∧
    (State.attest s).hubNeeds = s.hubNeeds ∧
    (State.attest s).commits = s.commits ∧
    (State.attest s).seeds = s.seeds ∧
    (State.attest s).load = s.load ∧
    (State.attest s).clusters = s.clusters ∧
    (State.attest s).ctxs = s.ctxs ∧
    (State.attest s).memory = s.memory ∧
    (State.attest s).rig = s.rig ∧
    (State.attest s).coll = s.coll ∧
    (State.attest s).photonics = s.photonics ∧
    (State.attest s).domain = s.domain ∧
    (State.attest s).messages = s.messages ∧
    (State.attest s).package = s.package ∧
    (State.attest s).clocks = s.clocks ∧
    (State.attest s).freeCount = s.freeCount := by
  unfold State.attest
  try dsimp only
  (repeat' split) <;> simp_all -implicitDefEqProofs [↓prod_flip3, prod_flip]

@[simp] theorem State.planSlotRefusal_kept (s : State) (n : Nat) (l : List (Nat × Nat × Nat)) :
    (State.planSlotRefusal s n l).pending = s.pending ∧
    (State.planSlotRefusal s n l).fuses = s.fuses ∧
    (State.planSlotRefusal s n l).shadows = s.shadows ∧
    (State.planSlotRefusal s n l).blobs = s.blobs ∧
    (State.planSlotRefusal s n l).blobShadows = s.blobShadows ∧
    (State.planSlotRefusal s n l).hubNeeds = s.hubNeeds ∧
    (State.planSlotRefusal s n l).commits = s.commits ∧
    (State.planSlotRefusal s n l).seeds = s.seeds ∧
    (State.planSlotRefusal s n l).load = s.load ∧
    (State.planSlotRefusal s n l).clusters = s.clusters ∧
    (State.planSlotRefusal s n l).ctxs = s.ctxs ∧
    (State.planSlotRefusal s n l).memory = s.memory ∧
    (State.planSlotRefusal s n l).rig = s.rig ∧
    (State.planSlotRefusal s n l).coll = s.coll ∧
    (State.planSlotRefusal s n l).photonics = s.photonics ∧
    (State.planSlotRefusal s n l).domain = s.domain ∧
    (State.planSlotRefusal s n l).messages = s.messages ∧
    (State.planSlotRefusal s n l).package = s.package ∧
    (State.planSlotRefusal s n l).clocks = s.clocks ∧
    (State.planSlotRefusal s n l).thermal = s.thermal ∧
    (State.planSlotRefusal s n l).boot = s.boot ∧
    (State.planSlotRefusal s n l).freeCount = s.freeCount := by
  unfold State.planSlotRefusal
  try dsimp only
  (repeat' split) <;> simp_all -implicitDefEqProofs [↓prod_flip3, prod_flip]

@[simp] theorem State.planCommit_kept (s : State) (value : Nat) :
    (State.planCommit s value).2.pending = s.pending ∧
    (State.planCommit s value).2.fuses = s.fuses ∧
    (State.planCommit s value).2.shadows = s.shadows ∧
    (State.planCommit s value).2.blobShadows = s.blobShadows ∧
    (State.planCommit s value).2.hubNeeds = s.hubNeeds ∧
    (State.planCommit s value).2.seeds = s.seeds ∧
    (State.planCommit s value).2.load = s.load ∧
    (State.planCommit s value).2.clusters = s.clusters ∧
    (State.planCommit s value).2.ctxs = s.ctxs ∧
    (State.planCommit s value).2.memory = s.memory ∧
    (State.planCommit s value).2.rig = s.rig ∧
    (State.planCommit s value).2.photonics = s.photonics ∧
    (State.planCommit s value).2.domain = s.domain ∧
    (State.planCommit s value).2.messages = s.messages ∧
    (State.planCommit s value).2.package = s.package ∧
    (State.planCommit s value).2.clocks = s.clocks ∧
    (State.planCommit s value).2.thermal = s.thermal ∧
    (State.planCommit s value).2.boot = s.boot ∧
    (State.planCommit s value).2.freeCount = s.freeCount := by
  unfold State.planCommit
  try dsimp only
  (repeat' split) <;> simp_all -implicitDefEqProofs [↓prod_flip3, prod_flip]

@[simp] theorem State.tackRequest_kept (s : State) (n : Nat) :
    (State.tackRequest s n).pending = s.pending ∧
    (State.tackRequest s n).fuses = s.fuses ∧
    (State.tackRequest s n).shadows = s.shadows ∧
    (State.tackRequest s n).blobs = s.blobs ∧
    (State.tackRequest s n).blobShadows = s.blobShadows ∧
    (State.tackRequest s n).hubNeeds = s.hubNeeds ∧
    (State.tackRequest s n).commits = s.commits ∧
    (State.tackRequest s n).seeds = s.seeds ∧
    (State.tackRequest s n).load = s.load ∧
    (State.tackRequest s n).clusters = s.clusters ∧
    (State.tackRequest s n).ctxs = s.ctxs ∧
    (State.tackRequest s n).memory = s.memory ∧
    (State.tackRequest s n).rig = s.rig ∧
    (State.tackRequest s n).photonics = s.photonics ∧
    (State.tackRequest s n).domain = s.domain ∧
    (State.tackRequest s n).messages = s.messages ∧
    (State.tackRequest s n).package = s.package ∧
    (State.tackRequest s n).clocks = s.clocks ∧
    (State.tackRequest s n).thermal = s.thermal ∧
    (State.tackRequest s n).control = s.control ∧
    (State.tackRequest s n).boot = s.boot ∧
    (State.tackRequest s n).dbg = s.dbg ∧
    (State.tackRequest s n).freeCount = s.freeCount := by
  unfold State.tackRequest
  try dsimp only
  (repeat' split) <;> simp_all -implicitDefEqProofs [↓prod_flip3, prod_flip]

@[simp] theorem State.goPhase_kept (s : State) (r : Collective) :
    (State.goPhase s r).pending = s.pending ∧
    (State.goPhase s r).fuses = s.fuses ∧
    (State.goPhase s r).regs = s.regs ∧
    (State.goPhase s r).shadows = s.shadows ∧
    (State.goPhase s r).blobs = s.blobs ∧
    (State.goPhase s r).blobShadows = s.blobShadows ∧
    (State.goPhase s r).hubNeeds = s.hubNeeds ∧
    (State.goPhase s r).commits = s.commits ∧
    (State.goPhase s r).seeds = s.seeds ∧
    (State.goPhase s r).load = s.load ∧
    (State.goPhase s r).clusters = s.clusters ∧
    (State.goPhase s r).ctxs = s.ctxs ∧
    (State.goPhase s r).memory = s.memory ∧
    (State.goPhase s r).rig = s.rig ∧
    (State.goPhase s r).photonics = s.photonics ∧
    (State.goPhase s r).messages = s.messages ∧
    (State.goPhase s r).package = s.package ∧
    (State.goPhase s r).clocks = s.clocks ∧
    (State.goPhase s r).thermal = s.thermal ∧
    (State.goPhase s r).boot = s.boot ∧
    (State.goPhase s r).dbg = s.dbg ∧
    (State.goPhase s r).freeCount = s.freeCount := by
  unfold State.goPhase
  try dsimp only
  (repeat' split) <;> simp_all -implicitDefEqProofs [↓prod_flip3, prod_flip]

@[simp] theorem State.enterPhase_kept (s : State) (r : Collective) :
    (State.enterPhase s r).pending = s.pending ∧
    (State.enterPhase s r).fuses = s.fuses ∧
    (State.enterPhase s r).regs = s.regs ∧
    (State.enterPhase s r).shadows = s.shadows ∧
    (State.enterPhase s r).blobs = s.blobs ∧
    (State.enterPhase s r).blobShadows = s.blobShadows ∧
    (State.enterPhase s r).hubNeeds = s.hubNeeds ∧
    (State.enterPhase s r).commits = s.commits ∧
    (State.enterPhase s r).seeds = s.seeds ∧
    (State.enterPhase s r).load = s.load ∧
    (State.enterPhase s r).clusters = s.clusters ∧
    (State.enterPhase s r).ctxs = s.ctxs ∧
    (State.enterPhase s r).memory = s.memory ∧
    (State.enterPhase s r).rig = s.rig ∧
    (State.enterPhase s r).photonics = s.photonics ∧
    (State.enterPhase s r).messages = s.messages ∧
    (State.enterPhase s r).package = s.package ∧
    (State.enterPhase s r).clocks = s.clocks ∧
    (State.enterPhase s r).thermal = s.thermal ∧
    (State.enterPhase s r).boot = s.boot ∧
    (State.enterPhase s r).dbg = s.dbg ∧
    (State.enterPhase s r).freeCount = s.freeCount := by
  unfold State.enterPhase
  try dsimp only
  (repeat' split) <;> simp_all -implicitDefEqProofs [↓prod_flip3, prod_flip]

@[simp] theorem State.enterPhases_kept (s : State) :
    (State.enterPhases s).pending = s.pending ∧
    (State.enterPhases s).fuses = s.fuses ∧
    (State.enterPhases s).regs = s.regs ∧
    (State.enterPhases s).shadows = s.shadows ∧
    (State.enterPhases s).blobs = s.blobs ∧
    (State.enterPhases s).blobShadows = s.blobShadows ∧
    (State.enterPhases s).hubNeeds = s.hubNeeds ∧
    (State.enterPhases s).commits = s.commits ∧
    (State.enterPhases s).seeds = s.seeds ∧
    (State.enterPhases s).load = s.load ∧
    (State.enterPhases s).clusters = s.clusters ∧
    (State.enterPhases s).ctxs = s.ctxs ∧
    (State.enterPhases s).memory = s.memory ∧
    (State.enterPhases s).rig = s.rig ∧
    (State.enterPhases s).photonics = s.photonics ∧
    (State.enterPhases s).messages = s.messages ∧
    (State.enterPhases s).package = s.package ∧
    (State.enterPhases s).clocks = s.clocks ∧
    (State.enterPhases s).thermal = s.thermal ∧
    (State.enterPhases s).boot = s.boot ∧
    (State.enterPhases s).dbg = s.dbg ∧
    (State.enterPhases s).freeCount = s.freeCount := by
  unfold State.enterPhases
  try dsimp only
  (repeat' split) <;> simp_all -implicitDefEqProofs [↓prod_flip3, prod_flip]

@[simp] theorem State.faultAll_kept (s : State) (code : Nat) (x2 : List Nat) :
    (State.faultAll s code x2).pending = s.pending ∧
    (State.faultAll s code x2).fuses = s.fuses ∧
    (State.faultAll s code x2).shadows = s.shadows ∧
    (State.faultAll s code x2).blobs = s.blobs ∧
    (State.faultAll s code x2).blobShadows = s.blobShadows ∧
    (State.faultAll s code x2).hubNeeds = s.hubNeeds ∧
    (State.faultAll s code x2).seeds = s.seeds ∧
    (State.faultAll s code x2).load = s.load ∧
    (State.faultAll s code x2).clusters = s.clusters ∧
    (State.faultAll s code x2).memory = s.memory ∧
    (State.faultAll s code x2).rig = s.rig ∧
    (State.faultAll s code x2).photonics = s.photonics ∧
    (State.faultAll s code x2).domain = s.domain ∧
    (State.faultAll s code x2).messages = s.messages ∧
    (State.faultAll s code x2).package = s.package ∧
    (State.faultAll s code x2).clocks = s.clocks ∧
    (State.faultAll s code x2).thermal = s.thermal ∧
    (State.faultAll s code x2).boot = s.boot ∧
    (State.faultAll s code x2).freeCount = s.freeCount := by
  fun_induction State.faultAll s code x2 <;> simp_all -implicitDefEqProofs [↓prod_flip3, prod_flip]

@[simp] theorem State.refuseTack_kept (s : State) (q : TackRequest) (bank : Nat) (lanes : Nat) :
    (State.refuseTack s q bank lanes).pending = s.pending ∧
    (State.refuseTack s q bank lanes).fuses = s.fuses ∧
    (State.refuseTack s q bank lanes).shadows = s.shadows ∧
    (State.refuseTack s q bank lanes).blobs = s.blobs ∧
    (State.refuseTack s q bank lanes).blobShadows = s.blobShadows ∧
    (State.refuseTack s q bank lanes).hubNeeds = s.hubNeeds ∧
    (State.refuseTack s q bank lanes).seeds = s.seeds ∧
    (State.refuseTack s q bank lanes).load = s.load ∧
    (State.refuseTack s q bank lanes).clusters = s.clusters ∧
    (State.refuseTack s q bank lanes).memory = s.memory ∧
    (State.refuseTack s q bank lanes).rig = s.rig ∧
    (State.refuseTack s q bank lanes).photonics = s.photonics ∧
    (State.refuseTack s q bank lanes).domain = s.domain ∧
    (State.refuseTack s q bank lanes).messages = s.messages ∧
    (State.refuseTack s q bank lanes).package = s.package ∧
    (State.refuseTack s q bank lanes).clocks = s.clocks ∧
    (State.refuseTack s q bank lanes).thermal = s.thermal ∧
    (State.refuseTack s q bank lanes).boot = s.boot ∧
    (State.refuseTack s q bank lanes).freeCount = s.freeCount := by
  unfold State.refuseTack
  try dsimp only
  (repeat' split) <;> simp_all -implicitDefEqProofs [↓prod_flip3, prod_flip]

@[simp] theorem State.beginTack_kept (s : State) (q : TackRequest) :
    (State.beginTack s q).pending = s.pending ∧
    (State.beginTack s q).fuses = s.fuses ∧
    (State.beginTack s q).shadows = s.shadows ∧
    (State.beginTack s q).blobs = s.blobs ∧
    (State.beginTack s q).blobShadows = s.blobShadows ∧
    (State.beginTack s q).hubNeeds = s.hubNeeds ∧
    (State.beginTack s q).commits = s.commits ∧
    (State.beginTack s q).seeds = s.seeds ∧
    (State.beginTack s q).load = s.load ∧
    (State.beginTack s q).clusters = s.clusters ∧
    (State.beginTack s q).ctxs = s.ctxs ∧
    (State.beginTack s q).memory = s.memory ∧
    (State.beginTack s q).photonics = s.photonics ∧
    (State.beginTack s q).domain = s.domain ∧
    (State.beginTack s q).messages = s.messages ∧
    (State.beginTack s q).package = s.package ∧
    (State.beginTack s q).clocks = s.clocks ∧
    (State.beginTack s q).thermal = s.thermal ∧
    (State.beginTack s q).control = s.control ∧
    (State.beginTack s q).boot = s.boot ∧
    (State.beginTack s q).dbg = s.dbg ∧
    (State.beginTack s q).freeCount = s.freeCount := by
  unfold State.beginTack
  try dsimp only
  (repeat' split) <;> simp_all -implicitDefEqProofs [↓prod_flip3, prod_flip]

@[simp] theorem State.trainLane_kept (s : State) (failed : List Nat) (k : Nat) :
    (State.trainLane s failed k).pending = s.pending ∧
    (State.trainLane s failed k).fuses = s.fuses ∧
    (State.trainLane s failed k).shadows = s.shadows ∧
    (State.trainLane s failed k).blobs = s.blobs ∧
    (State.trainLane s failed k).blobShadows = s.blobShadows ∧
    (State.trainLane s failed k).hubNeeds = s.hubNeeds ∧
    (State.trainLane s failed k).commits = s.commits ∧
    (State.trainLane s failed k).seeds = s.seeds ∧
    (State.trainLane s failed k).load = s.load ∧
    (State.trainLane s failed k).clusters = s.clusters ∧
    (State.trainLane s failed k).ctxs = s.ctxs ∧
    (State.trainLane s failed k).memory = s.memory ∧
    (State.trainLane s failed k).coll = s.coll ∧
    (State.trainLane s failed k).photonics = s.photonics ∧
    (State.trainLane s failed k).domain = s.domain ∧
    (State.trainLane s failed k).messages = s.messages ∧
    (State.trainLane s failed k).package = s.package ∧
    (State.trainLane s failed k).clocks = s.clocks ∧
    (State.trainLane s failed k).thermal = s.thermal ∧
    (State.trainLane s failed k).boot = s.boot ∧
    (State.trainLane s failed k).freeCount = s.freeCount := by
  unfold State.trainLane
  try dsimp only
  (repeat' split) <;> simp_all -implicitDefEqProofs [↓prod_flip3, prod_flip]

@[simp] theorem State.tackWrong_kept (s : State) (k : Nat) (dst : Nat) (mask : Nat) :
    (State.tackWrong s k dst mask).pending = s.pending ∧
    (State.tackWrong s k dst mask).fuses = s.fuses ∧
    (State.tackWrong s k dst mask).shadows = s.shadows ∧
    (State.tackWrong s k dst mask).blobs = s.blobs ∧
    (State.tackWrong s k dst mask).blobShadows = s.blobShadows ∧
    (State.tackWrong s k dst mask).hubNeeds = s.hubNeeds ∧
    (State.tackWrong s k dst mask).commits = s.commits ∧
    (State.tackWrong s k dst mask).seeds = s.seeds ∧
    (State.tackWrong s k dst mask).load = s.load ∧
    (State.tackWrong s k dst mask).clusters = s.clusters ∧
    (State.tackWrong s k dst mask).ctxs = s.ctxs ∧
    (State.tackWrong s k dst mask).memory = s.memory ∧
    (State.tackWrong s k dst mask).coll = s.coll ∧
    (State.tackWrong s k dst mask).domain = s.domain ∧
    (State.tackWrong s k dst mask).messages = s.messages ∧
    (State.tackWrong s k dst mask).package = s.package ∧
    (State.tackWrong s k dst mask).clocks = s.clocks ∧
    (State.tackWrong s k dst mask).thermal = s.thermal ∧
    (State.tackWrong s k dst mask).boot = s.boot ∧
    (State.tackWrong s k dst mask).freeCount = s.freeCount := by
  unfold State.tackWrong
  try dsimp only
  (repeat' split) <;> simp_all -implicitDefEqProofs [↓prod_flip3, prod_flip]

@[simp] theorem State.retrainStandings_kept (s : State) :
    (State.retrainStandings s).pending = s.pending ∧
    (State.retrainStandings s).fuses = s.fuses ∧
    (State.retrainStandings s).regs = s.regs ∧
    (State.retrainStandings s).shadows = s.shadows ∧
    (State.retrainStandings s).blobs = s.blobs ∧
    (State.retrainStandings s).blobShadows = s.blobShadows ∧
    (State.retrainStandings s).hubNeeds = s.hubNeeds ∧
    (State.retrainStandings s).commits = s.commits ∧
    (State.retrainStandings s).seeds = s.seeds ∧
    (State.retrainStandings s).load = s.load ∧
    (State.retrainStandings s).clusters = s.clusters ∧
    (State.retrainStandings s).ctxs = s.ctxs ∧
    (State.retrainStandings s).memory = s.memory ∧
    (State.retrainStandings s).coll = s.coll ∧
    (State.retrainStandings s).photonics = s.photonics ∧
    (State.retrainStandings s).domain = s.domain ∧
    (State.retrainStandings s).messages = s.messages ∧
    (State.retrainStandings s).package = s.package ∧
    (State.retrainStandings s).clocks = s.clocks ∧
    (State.retrainStandings s).thermal = s.thermal ∧
    (State.retrainStandings s).control = s.control ∧
    (State.retrainStandings s).boot = s.boot ∧
    (State.retrainStandings s).dbg = s.dbg ∧
    (State.retrainStandings s).freeCount = s.freeCount := by
  unfold State.retrainStandings
  try dsimp only
  (repeat' split) <;> simp_all -implicitDefEqProofs [↓prod_flip3, prod_flip]

@[simp] theorem State.readProgram_kept (s : State) (tt : Nat) (r : Requester) :
    (State.readProgram s tt r).2.pending = s.pending ∧
    (State.readProgram s tt r).2.fuses = s.fuses ∧
    (State.readProgram s tt r).2.shadows = s.shadows ∧
    (State.readProgram s tt r).2.blobShadows = s.blobShadows ∧
    (State.readProgram s tt r).2.hubNeeds = s.hubNeeds ∧
    (State.readProgram s tt r).2.commits = s.commits ∧
    (State.readProgram s tt r).2.seeds = s.seeds ∧
    (State.readProgram s tt r).2.load = s.load ∧
    (State.readProgram s tt r).2.ctxs = s.ctxs ∧
    (State.readProgram s tt r).2.rig = s.rig ∧
    (State.readProgram s tt r).2.coll = s.coll ∧
    (State.readProgram s tt r).2.photonics = s.photonics ∧
    (State.readProgram s tt r).2.domain = s.domain ∧
    (State.readProgram s tt r).2.messages = s.messages ∧
    (State.readProgram s tt r).2.package = s.package ∧
    (State.readProgram s tt r).2.clocks = s.clocks ∧
    (State.readProgram s tt r).2.thermal = s.thermal ∧
    (State.readProgram s tt r).2.boot = s.boot ∧
    (State.readProgram s tt r).2.freeCount = s.freeCount := by
  unfold State.readProgram
  try dsimp only
  (repeat' split) <;> simp_all -implicitDefEqProofs [↓prod_flip3, prod_flip]

@[simp] theorem State.zeroTally_kept (s : State) (tally : Nat) (p : Nat × Nat) :
    (State.zeroTally s tally p).pending = s.pending ∧
    (State.zeroTally s tally p).fuses = s.fuses ∧
    (State.zeroTally s tally p).shadows = s.shadows ∧
    (State.zeroTally s tally p).blobShadows = s.blobShadows ∧
    (State.zeroTally s tally p).hubNeeds = s.hubNeeds ∧
    (State.zeroTally s tally p).seeds = s.seeds ∧
    (State.zeroTally s tally p).load = s.load ∧
    (State.zeroTally s tally p).rig = s.rig ∧
    (State.zeroTally s tally p).photonics = s.photonics ∧
    (State.zeroTally s tally p).domain = s.domain ∧
    (State.zeroTally s tally p).messages = s.messages ∧
    (State.zeroTally s tally p).package = s.package ∧
    (State.zeroTally s tally p).clocks = s.clocks ∧
    (State.zeroTally s tally p).thermal = s.thermal ∧
    (State.zeroTally s tally p).boot = s.boot ∧
    (State.zeroTally s tally p).freeCount = s.freeCount := by
  unfold State.zeroTally
  try dsimp only
  (repeat' split) <;> simp_all -implicitDefEqProofs [↓prod_flip3, prod_flip]

@[simp] theorem State.zeroTallies_kept (s : State) (tally : Nat) (l : List (Nat × Nat)) :
    (State.zeroTallies s tally l).pending = s.pending ∧
    (State.zeroTallies s tally l).fuses = s.fuses ∧
    (State.zeroTallies s tally l).shadows = s.shadows ∧
    (State.zeroTallies s tally l).blobShadows = s.blobShadows ∧
    (State.zeroTallies s tally l).hubNeeds = s.hubNeeds ∧
    (State.zeroTallies s tally l).seeds = s.seeds ∧
    (State.zeroTallies s tally l).load = s.load ∧
    (State.zeroTallies s tally l).rig = s.rig ∧
    (State.zeroTallies s tally l).photonics = s.photonics ∧
    (State.zeroTallies s tally l).domain = s.domain ∧
    (State.zeroTallies s tally l).messages = s.messages ∧
    (State.zeroTallies s tally l).package = s.package ∧
    (State.zeroTallies s tally l).clocks = s.clocks ∧
    (State.zeroTallies s tally l).thermal = s.thermal ∧
    (State.zeroTallies s tally l).boot = s.boot ∧
    (State.zeroTallies s tally l).freeCount = s.freeCount := by
  unfold State.zeroTallies
  try dsimp only
  (repeat' split) <;> simp_all -implicitDefEqProofs [↓prod_flip3, prod_flip]

@[simp] theorem State.startCollective_kept (s : State) (p : Nat × Nat) :
    (State.startCollective s p).pending = s.pending ∧
    (State.startCollective s p).fuses = s.fuses ∧
    (State.startCollective s p).regs = s.regs ∧
    (State.startCollective s p).shadows = s.shadows ∧
    (State.startCollective s p).blobs = s.blobs ∧
    (State.startCollective s p).blobShadows = s.blobShadows ∧
    (State.startCollective s p).hubNeeds = s.hubNeeds ∧
    (State.startCollective s p).commits = s.commits ∧
    (State.startCollective s p).seeds = s.seeds ∧
    (State.startCollective s p).load = s.load ∧
    (State.startCollective s p).memory = s.memory ∧
    (State.startCollective s p).rig = s.rig ∧
    (State.startCollective s p).coll = s.coll ∧
    (State.startCollective s p).photonics = s.photonics ∧
    (State.startCollective s p).domain = s.domain ∧
    (State.startCollective s p).messages = s.messages ∧
    (State.startCollective s p).package = s.package ∧
    (State.startCollective s p).clocks = s.clocks ∧
    (State.startCollective s p).thermal = s.thermal ∧
    (State.startCollective s p).control = s.control ∧
    (State.startCollective s p).boot = s.boot ∧
    (State.startCollective s p).freeCount = s.freeCount := by
  unfold State.startCollective
  try dsimp only
  (repeat' split) <;> simp_all -implicitDefEqProofs [↓prod_flip3, prod_flip]

@[simp] theorem State.joinCollective_kept (s : State) (tt : Nat) (p : Program) :
    (State.joinCollective s tt p).pending = s.pending ∧
    (State.joinCollective s tt p).fuses = s.fuses ∧
    (State.joinCollective s tt p).shadows = s.shadows ∧
    (State.joinCollective s tt p).blobShadows = s.blobShadows ∧
    (State.joinCollective s tt p).hubNeeds = s.hubNeeds ∧
    (State.joinCollective s tt p).seeds = s.seeds ∧
    (State.joinCollective s tt p).load = s.load ∧
    (State.joinCollective s tt p).rig = s.rig ∧
    (State.joinCollective s tt p).photonics = s.photonics ∧
    (State.joinCollective s tt p).messages = s.messages ∧
    (State.joinCollective s tt p).package = s.package ∧
    (State.joinCollective s tt p).clocks = s.clocks ∧
    (State.joinCollective s tt p).thermal = s.thermal ∧
    (State.joinCollective s tt p).boot = s.boot ∧
    (State.joinCollective s tt p).freeCount = s.freeCount := by
  unfold State.joinCollective
  try dsimp only
  (repeat' split) <;> simp_all -implicitDefEqProofs [↓prod_flip3, prod_flip]

@[simp] theorem State.reduceLines_kept (s : State) (op : Nat) (off : Nat) (r : Requester) (x4 : Nat) (x5 : List Byte) (x6 : Option Nat) :
    (State.reduceLines s op off r x4 x5 x6).2.pending = s.pending ∧
    (State.reduceLines s op off r x4 x5 x6).2.fuses = s.fuses ∧
    (State.reduceLines s op off r x4 x5 x6).2.shadows = s.shadows ∧
    (State.reduceLines s op off r x4 x5 x6).2.blobShadows = s.blobShadows ∧
    (State.reduceLines s op off r x4 x5 x6).2.hubNeeds = s.hubNeeds ∧
    (State.reduceLines s op off r x4 x5 x6).2.commits = s.commits ∧
    (State.reduceLines s op off r x4 x5 x6).2.seeds = s.seeds ∧
    (State.reduceLines s op off r x4 x5 x6).2.load = s.load ∧
    (State.reduceLines s op off r x4 x5 x6).2.ctxs = s.ctxs ∧
    (State.reduceLines s op off r x4 x5 x6).2.rig = s.rig ∧
    (State.reduceLines s op off r x4 x5 x6).2.coll = s.coll ∧
    (State.reduceLines s op off r x4 x5 x6).2.photonics = s.photonics ∧
    (State.reduceLines s op off r x4 x5 x6).2.domain = s.domain ∧
    (State.reduceLines s op off r x4 x5 x6).2.messages = s.messages ∧
    (State.reduceLines s op off r x4 x5 x6).2.package = s.package ∧
    (State.reduceLines s op off r x4 x5 x6).2.clocks = s.clocks ∧
    (State.reduceLines s op off r x4 x5 x6).2.thermal = s.thermal ∧
    (State.reduceLines s op off r x4 x5 x6).2.boot = s.boot ∧
    (State.reduceLines s op off r x4 x5 x6).2.freeCount = s.freeCount := by
  fun_induction State.reduceLines s op off r x4 x5 x6 <;> simp_all -implicitDefEqProofs [↓prod_flip3, prod_flip]

@[simp] theorem State.applyLocal_kept (s : State) (q : Req) :
    (State.applyLocal s q).2.pending = s.pending ∧
    (State.applyLocal s q).2.fuses = s.fuses ∧
    (State.applyLocal s q).2.shadows = s.shadows ∧
    (State.applyLocal s q).2.blobShadows = s.blobShadows ∧
    (State.applyLocal s q).2.hubNeeds = s.hubNeeds ∧
    (State.applyLocal s q).2.commits = s.commits ∧
    (State.applyLocal s q).2.seeds = s.seeds ∧
    (State.applyLocal s q).2.load = s.load ∧
    (State.applyLocal s q).2.photonics = s.photonics ∧
    (State.applyLocal s q).2.messages = s.messages ∧
    (State.applyLocal s q).2.package = s.package ∧
    (State.applyLocal s q).2.thermal = s.thermal ∧
    (State.applyLocal s q).2.boot = s.boot ∧
    (State.applyLocal s q).2.freeCount = s.freeCount := by
  unfold State.applyLocal
  try dsimp only
  (repeat' split) <;> simp_all -implicitDefEqProofs [↓prod_flip3, prod_flip]

@[simp] theorem State.applyLocals_kept (s : State) (x : Nat) (c : Nat) (x3 : List Req) :
    (State.applyLocals s x c x3).pending = s.pending ∧
    (State.applyLocals s x c x3).fuses = s.fuses ∧
    (State.applyLocals s x c x3).shadows = s.shadows ∧
    (State.applyLocals s x c x3).blobShadows = s.blobShadows ∧
    (State.applyLocals s x c x3).hubNeeds = s.hubNeeds ∧
    (State.applyLocals s x c x3).seeds = s.seeds ∧
    (State.applyLocals s x c x3).load = s.load ∧
    (State.applyLocals s x c x3).photonics = s.photonics ∧
    (State.applyLocals s x c x3).messages = s.messages ∧
    (State.applyLocals s x c x3).package = s.package ∧
    (State.applyLocals s x c x3).thermal = s.thermal ∧
    (State.applyLocals s x c x3).boot = s.boot ∧
    (State.applyLocals s x c x3).freeCount = s.freeCount := by
  fun_induction State.applyLocals s x c x3 <;> simp_all -implicitDefEqProofs [↓prod_flip3, prod_flip]

@[simp] theorem State.issueTransfer_kept (s : State) (r : Collective) (p : Nat) (j : Nat) :
    (State.issueTransfer s r p j).pending = s.pending ∧
    (State.issueTransfer s r p j).fuses = s.fuses ∧
    (State.issueTransfer s r p j).shadows = s.shadows ∧
    (State.issueTransfer s r p j).blobShadows = s.blobShadows ∧
    (State.issueTransfer s r p j).hubNeeds = s.hubNeeds ∧
    (State.issueTransfer s r p j).seeds = s.seeds ∧
    (State.issueTransfer s r p j).load = s.load ∧
    (State.issueTransfer s r p j).photonics = s.photonics ∧
    (State.issueTransfer s r p j).messages = s.messages ∧
    (State.issueTransfer s r p j).package = s.package ∧
    (State.issueTransfer s r p j).thermal = s.thermal ∧
    (State.issueTransfer s r p j).boot = s.boot ∧
    (State.issueTransfer s r p j).freeCount = s.freeCount := by
  unfold State.issueTransfer
  try dsimp only
  (repeat' split) <;> simp_all -implicitDefEqProofs [↓prod_flip3, prod_flip]

@[simp] theorem State.finishCollective_kept (s : State) (r : Collective) :
    (State.finishCollective s r).pending = s.pending ∧
    (State.finishCollective s r).fuses = s.fuses ∧
    (State.finishCollective s r).shadows = s.shadows ∧
    (State.finishCollective s r).blobs = s.blobs ∧
    (State.finishCollective s r).blobShadows = s.blobShadows ∧
    (State.finishCollective s r).hubNeeds = s.hubNeeds ∧
    (State.finishCollective s r).commits = s.commits ∧
    (State.finishCollective s r).seeds = s.seeds ∧
    (State.finishCollective s r).load = s.load ∧
    (State.finishCollective s r).clusters = s.clusters ∧
    (State.finishCollective s r).memory = s.memory ∧
    (State.finishCollective s r).rig = s.rig ∧
    (State.finishCollective s r).photonics = s.photonics ∧
    (State.finishCollective s r).domain = s.domain ∧
    (State.finishCollective s r).messages = s.messages ∧
    (State.finishCollective s r).package = s.package ∧
    (State.finishCollective s r).clocks = s.clocks ∧
    (State.finishCollective s r).thermal = s.thermal ∧
    (State.finishCollective s r).control = s.control ∧
    (State.finishCollective s r).boot = s.boot ∧
    (State.finishCollective s r).dbg = s.dbg ∧
    (State.finishCollective s r).freeCount = s.freeCount := by
  unfold State.finishCollective
  try dsimp only
  (repeat' split) <;> simp_all -implicitDefEqProofs [↓prod_flip3, prod_flip]

@[simp] theorem State.nextPhase_kept (s : State) (r : Collective) :
    (State.nextPhase s r).pending = s.pending ∧
    (State.nextPhase s r).fuses = s.fuses ∧
    (State.nextPhase s r).shadows = s.shadows ∧
    (State.nextPhase s r).blobs = s.blobs ∧
    (State.nextPhase s r).blobShadows = s.blobShadows ∧
    (State.nextPhase s r).hubNeeds = s.hubNeeds ∧
    (State.nextPhase s r).commits = s.commits ∧
    (State.nextPhase s r).seeds = s.seeds ∧
    (State.nextPhase s r).load = s.load ∧
    (State.nextPhase s r).clusters = s.clusters ∧
    (State.nextPhase s r).memory = s.memory ∧
    (State.nextPhase s r).rig = s.rig ∧
    (State.nextPhase s r).photonics = s.photonics ∧
    (State.nextPhase s r).messages = s.messages ∧
    (State.nextPhase s r).package = s.package ∧
    (State.nextPhase s r).clocks = s.clocks ∧
    (State.nextPhase s r).thermal = s.thermal ∧
    (State.nextPhase s r).boot = s.boot ∧
    (State.nextPhase s r).dbg = s.dbg ∧
    (State.nextPhase s r).freeCount = s.freeCount := by
  unfold State.nextPhase
  try dsimp only
  (repeat' split) <;> simp_all -implicitDefEqProofs [↓prod_flip3, prod_flip]

@[simp] theorem State.reducePacket_kept (s : State) (site : Nat) (op : Nat) :
    (State.reducePacket s site op).pending = s.pending ∧
    (State.reducePacket s site op).fuses = s.fuses ∧
    (State.reducePacket s site op).shadows = s.shadows ∧
    (State.reducePacket s site op).blobShadows = s.blobShadows ∧
    (State.reducePacket s site op).hubNeeds = s.hubNeeds ∧
    (State.reducePacket s site op).seeds = s.seeds ∧
    (State.reducePacket s site op).load = s.load ∧
    (State.reducePacket s site op).photonics = s.photonics ∧
    (State.reducePacket s site op).package = s.package ∧
    (State.reducePacket s site op).thermal = s.thermal ∧
    (State.reducePacket s site op).boot = s.boot ∧
    (State.reducePacket s site op).freeCount = s.freeCount := by
  unfold State.reducePacket
  try dsimp only
  (repeat' split) <;> simp_all -implicitDefEqProofs [↓prod_flip3, prod_flip]

@[simp] theorem State.toFixedDefault_kept (s : State) (key : Nat) :
    (State.toFixedDefault s key).pending = s.pending ∧
    (State.toFixedDefault s key).fuses = s.fuses ∧
    (State.toFixedDefault s key).shadows = s.shadows ∧
    (State.toFixedDefault s key).blobShadows = s.blobShadows ∧
    (State.toFixedDefault s key).hubNeeds = s.hubNeeds ∧
    (State.toFixedDefault s key).commits = s.commits ∧
    (State.toFixedDefault s key).seeds = s.seeds ∧
    (State.toFixedDefault s key).load = s.load ∧
    (State.toFixedDefault s key).clusters = s.clusters ∧
    (State.toFixedDefault s key).ctxs = s.ctxs ∧
    (State.toFixedDefault s key).memory = s.memory ∧
    (State.toFixedDefault s key).rig = s.rig ∧
    (State.toFixedDefault s key).coll = s.coll ∧
    (State.toFixedDefault s key).photonics = s.photonics ∧
    (State.toFixedDefault s key).package = s.package ∧
    (State.toFixedDefault s key).clocks = s.clocks ∧
    (State.toFixedDefault s key).thermal = s.thermal ∧
    (State.toFixedDefault s key).control = s.control ∧
    (State.toFixedDefault s key).boot = s.boot ∧
    (State.toFixedDefault s key).dbg = s.dbg ∧
    (State.toFixedDefault s key).freeCount = s.freeCount := by
  unfold State.toFixedDefault
  try dsimp only
  (repeat' split) <;> simp_all -implicitDefEqProofs [↓prod_flip3, prod_flip]

@[simp] theorem State.criticalRepair_kept (s : State) (key : Nat) :
    (State.criticalRepair s key).pending = s.pending ∧
    (State.criticalRepair s key).fuses = s.fuses ∧
    (State.criticalRepair s key).shadows = s.shadows ∧
    (State.criticalRepair s key).blobShadows = s.blobShadows ∧
    (State.criticalRepair s key).hubNeeds = s.hubNeeds ∧
    (State.criticalRepair s key).commits = s.commits ∧
    (State.criticalRepair s key).seeds = s.seeds ∧
    (State.criticalRepair s key).load = s.load ∧
    (State.criticalRepair s key).clusters = s.clusters ∧
    (State.criticalRepair s key).ctxs = s.ctxs ∧
    (State.criticalRepair s key).memory = s.memory ∧
    (State.criticalRepair s key).rig = s.rig ∧
    (State.criticalRepair s key).coll = s.coll ∧
    (State.criticalRepair s key).photonics = s.photonics ∧
    (State.criticalRepair s key).package = s.package ∧
    (State.criticalRepair s key).clocks = s.clocks ∧
    (State.criticalRepair s key).thermal = s.thermal ∧
    (State.criticalRepair s key).boot = s.boot ∧
    (State.criticalRepair s key).freeCount = s.freeCount := by
  unfold State.criticalRepair
  try dsimp only
  (repeat' split) <;> simp_all -implicitDefEqProofs [↓prod_flip3, prod_flip]

@[simp] theorem State.readEntry_kept (s : State) (index : Nat) (sub : Nat) (shadow : Bool) :
    (State.readEntry s index sub shadow).2.2.pending = s.pending ∧
    (State.readEntry s index sub shadow).2.2.fuses = s.fuses ∧
    (State.readEntry s index sub shadow).2.2.shadows = s.shadows ∧
    (State.readEntry s index sub shadow).2.2.blobShadows = s.blobShadows ∧
    (State.readEntry s index sub shadow).2.2.hubNeeds = s.hubNeeds ∧
    (State.readEntry s index sub shadow).2.2.commits = s.commits ∧
    (State.readEntry s index sub shadow).2.2.seeds = s.seeds ∧
    (State.readEntry s index sub shadow).2.2.load = s.load ∧
    (State.readEntry s index sub shadow).2.2.clusters = s.clusters ∧
    (State.readEntry s index sub shadow).2.2.ctxs = s.ctxs ∧
    (State.readEntry s index sub shadow).2.2.memory = s.memory ∧
    (State.readEntry s index sub shadow).2.2.rig = s.rig ∧
    (State.readEntry s index sub shadow).2.2.coll = s.coll ∧
    (State.readEntry s index sub shadow).2.2.photonics = s.photonics ∧
    (State.readEntry s index sub shadow).2.2.package = s.package ∧
    (State.readEntry s index sub shadow).2.2.clocks = s.clocks ∧
    (State.readEntry s index sub shadow).2.2.thermal = s.thermal ∧
    (State.readEntry s index sub shadow).2.2.boot = s.boot ∧
    (State.readEntry s index sub shadow).2.2.freeCount = s.freeCount := by
  generalize ht : State.readEntry s index sub shadow = t
  unfold State.readEntry at ht
  try dsimp only at ht
  (repeat' split at ht) <;> (subst ht; simp_all -implicitDefEqProofs [↓prod_flip3, prod_flip])

@[simp] theorem State.readBlock_kept (s : State) (index : Nat) (sub : Nat) (offset : Nat) (length : Nat) :
    (State.readBlock s index sub offset length).2.2.pending = s.pending ∧
    (State.readBlock s index sub offset length).2.2.fuses = s.fuses ∧
    (State.readBlock s index sub offset length).2.2.shadows = s.shadows ∧
    (State.readBlock s index sub offset length).2.2.blobShadows = s.blobShadows ∧
    (State.readBlock s index sub offset length).2.2.hubNeeds = s.hubNeeds ∧
    (State.readBlock s index sub offset length).2.2.commits = s.commits ∧
    (State.readBlock s index sub offset length).2.2.seeds = s.seeds ∧
    (State.readBlock s index sub offset length).2.2.load = s.load ∧
    (State.readBlock s index sub offset length).2.2.clusters = s.clusters ∧
    (State.readBlock s index sub offset length).2.2.ctxs = s.ctxs ∧
    (State.readBlock s index sub offset length).2.2.memory = s.memory ∧
    (State.readBlock s index sub offset length).2.2.rig = s.rig ∧
    (State.readBlock s index sub offset length).2.2.coll = s.coll ∧
    (State.readBlock s index sub offset length).2.2.photonics = s.photonics ∧
    (State.readBlock s index sub offset length).2.2.package = s.package ∧
    (State.readBlock s index sub offset length).2.2.clocks = s.clocks ∧
    (State.readBlock s index sub offset length).2.2.thermal = s.thermal ∧
    (State.readBlock s index sub offset length).2.2.boot = s.boot := by
  generalize ht : State.readBlock s index sub offset length = t
  unfold State.readBlock at ht
  try dsimp only at ht
  (repeat' split at ht) <;> (subst ht; simp_all -implicitDefEqProofs [↓prod_flip3, prod_flip])

@[simp] theorem State.tableLoad_kept (s : State) :
    (State.tableLoad s).pending = s.pending ∧
    (State.tableLoad s).fuses = s.fuses ∧
    (State.tableLoad s).shadows = s.shadows ∧
    (State.tableLoad s).blobShadows = s.blobShadows ∧
    (State.tableLoad s).hubNeeds = s.hubNeeds ∧
    (State.tableLoad s).commits = s.commits ∧
    (State.tableLoad s).seeds = s.seeds ∧
    (State.tableLoad s).load = s.load ∧
    (State.tableLoad s).clusters = s.clusters ∧
    (State.tableLoad s).ctxs = s.ctxs ∧
    (State.tableLoad s).memory = s.memory ∧
    (State.tableLoad s).rig = s.rig ∧
    (State.tableLoad s).coll = s.coll ∧
    (State.tableLoad s).photonics = s.photonics ∧
    (State.tableLoad s).domain = s.domain ∧
    (State.tableLoad s).messages = s.messages ∧
    (State.tableLoad s).package = s.package ∧
    (State.tableLoad s).clocks = s.clocks ∧
    (State.tableLoad s).thermal = s.thermal ∧
    (State.tableLoad s).boot = s.boot ∧
    (State.tableLoad s).dbg = s.dbg ∧
    (State.tableLoad s).freeCount = s.freeCount := by
  unfold State.tableLoad
  try dsimp only
  (repeat' split) <;> simp_all -implicitDefEqProofs [↓prod_flip3, prod_flip]

@[simp] theorem State.tableRestore_kept (s : State) (t : Nat) :
    (State.tableRestore s t).pending = s.pending ∧
    (State.tableRestore s t).fuses = s.fuses ∧
    (State.tableRestore s t).shadows = s.shadows ∧
    (State.tableRestore s t).blobs = s.blobs ∧
    (State.tableRestore s t).blobShadows = s.blobShadows ∧
    (State.tableRestore s t).hubNeeds = s.hubNeeds ∧
    (State.tableRestore s t).commits = s.commits ∧
    (State.tableRestore s t).seeds = s.seeds ∧
    (State.tableRestore s t).load = s.load ∧
    (State.tableRestore s t).clusters = s.clusters ∧
    (State.tableRestore s t).ctxs = s.ctxs ∧
    (State.tableRestore s t).memory = s.memory ∧
    (State.tableRestore s t).rig = s.rig ∧
    (State.tableRestore s t).coll = s.coll ∧
    (State.tableRestore s t).photonics = s.photonics ∧
    (State.tableRestore s t).domain = s.domain ∧
    (State.tableRestore s t).messages = s.messages ∧
    (State.tableRestore s t).package = s.package ∧
    (State.tableRestore s t).clocks = s.clocks ∧
    (State.tableRestore s t).thermal = s.thermal ∧
    (State.tableRestore s t).boot = s.boot ∧
    (State.tableRestore s t).dbg = s.dbg ∧
    (State.tableRestore s t).freeCount = s.freeCount := by
  unfold State.tableRestore
  try dsimp only
  (repeat' split) <;> simp_all -implicitDefEqProofs [↓prod_flip3, prod_flip]

@[simp] theorem State.tableCommitOp_kept (s : State) (value : Nat) :
    (State.tableCommitOp s value).2.pending = s.pending ∧
    (State.tableCommitOp s value).2.fuses = s.fuses ∧
    (State.tableCommitOp s value).2.shadows = s.shadows ∧
    (State.tableCommitOp s value).2.blobShadows = s.blobShadows ∧
    (State.tableCommitOp s value).2.hubNeeds = s.hubNeeds ∧
    (State.tableCommitOp s value).2.commits = s.commits ∧
    (State.tableCommitOp s value).2.seeds = s.seeds ∧
    (State.tableCommitOp s value).2.load = s.load ∧
    (State.tableCommitOp s value).2.clusters = s.clusters ∧
    (State.tableCommitOp s value).2.ctxs = s.ctxs ∧
    (State.tableCommitOp s value).2.memory = s.memory ∧
    (State.tableCommitOp s value).2.rig = s.rig ∧
    (State.tableCommitOp s value).2.coll = s.coll ∧
    (State.tableCommitOp s value).2.photonics = s.photonics ∧
    (State.tableCommitOp s value).2.domain = s.domain ∧
    (State.tableCommitOp s value).2.messages = s.messages ∧
    (State.tableCommitOp s value).2.package = s.package ∧
    (State.tableCommitOp s value).2.clocks = s.clocks ∧
    (State.tableCommitOp s value).2.thermal = s.thermal ∧
    (State.tableCommitOp s value).2.boot = s.boot ∧
    (State.tableCommitOp s value).2.dbg = s.dbg ∧
    (State.tableCommitOp s value).2.freeCount = s.freeCount := by
  unfold State.tableCommitOp
  try dsimp only
  (repeat' split) <;> simp_all -implicitDefEqProofs [↓prod_flip3, prod_flip]

@[simp] theorem State.contextAction_kept (s : State) (x : Nat) (value : Nat) :
    (State.contextAction s x value).2.pending = s.pending ∧
    (State.contextAction s x value).2.fuses = s.fuses ∧
    (State.contextAction s x value).2.shadows = s.shadows ∧
    (State.contextAction s x value).2.blobShadows = s.blobShadows ∧
    (State.contextAction s x value).2.hubNeeds = s.hubNeeds ∧
    (State.contextAction s x value).2.seeds = s.seeds ∧
    (State.contextAction s x value).2.load = s.load ∧
    (State.contextAction s x value).2.rig = s.rig ∧
    (State.contextAction s x value).2.photonics = s.photonics ∧
    (State.contextAction s x value).2.package = s.package ∧
    (State.contextAction s x value).2.clocks = s.clocks ∧
    (State.contextAction s x value).2.thermal = s.thermal ∧
    (State.contextAction s x value).2.boot = s.boot ∧
    (State.contextAction s x value).2.freeCount = s.freeCount := by
  unfold State.contextAction
  try dsimp only
  (repeat' split) <;> simp_all -implicitDefEqProofs [↓prod_flip3, prod_flip]

@[simp] theorem State.writeContext_kept (s : State) (x : Nat) (sub : Nat) (value : List Byte) :
    (State.writeContext s x sub value).2.pending = s.pending ∧
    (State.writeContext s x sub value).2.fuses = s.fuses ∧
    (State.writeContext s x sub value).2.shadows = s.shadows ∧
    (State.writeContext s x sub value).2.blobShadows = s.blobShadows ∧
    (State.writeContext s x sub value).2.hubNeeds = s.hubNeeds ∧
    (State.writeContext s x sub value).2.seeds = s.seeds ∧
    (State.writeContext s x sub value).2.load = s.load ∧
    (State.writeContext s x sub value).2.rig = s.rig ∧
    (State.writeContext s x sub value).2.photonics = s.photonics ∧
    (State.writeContext s x sub value).2.package = s.package ∧
    (State.writeContext s x sub value).2.clocks = s.clocks ∧
    (State.writeContext s x sub value).2.thermal = s.thermal ∧
    (State.writeContext s x sub value).2.boot = s.boot ∧
    (State.writeContext s x sub value).2.freeCount = s.freeCount := by
  unfold State.writeContext
  try dsimp only
  (repeat' split) <;> simp_all -implicitDefEqProofs [↓prod_flip3, prod_flip]

@[simp] theorem State.command_kept (s : State) (key : Nat) (v : Nat) :
    (State.command s key v).2.pending = s.pending ∧
    (State.command s key v).2.shadows = s.shadows ∧
    (State.command s key v).2.hubNeeds = s.hubNeeds := by
  unfold State.command actionAnswer
  try dsimp only
  (repeat' split) <;> simp_all -implicitDefEqProofs [↓prod_flip3, prod_flip]

@[simp] theorem State.applyRw_kept (s : State) (key : Nat) (v : Nat) :
    (State.applyRw s key v).pending = s.pending ∧
    (State.applyRw s key v).fuses = s.fuses ∧
    (State.applyRw s key v).shadows = s.shadows ∧
    (State.applyRw s key v).blobs = s.blobs ∧
    (State.applyRw s key v).blobShadows = s.blobShadows ∧
    (State.applyRw s key v).hubNeeds = s.hubNeeds ∧
    (State.applyRw s key v).commits = s.commits ∧
    (State.applyRw s key v).seeds = s.seeds ∧
    (State.applyRw s key v).load = s.load ∧
    (State.applyRw s key v).clusters = s.clusters ∧
    (State.applyRw s key v).ctxs = s.ctxs ∧
    (State.applyRw s key v).memory = s.memory ∧
    (State.applyRw s key v).rig = s.rig ∧
    (State.applyRw s key v).coll = s.coll ∧
    (State.applyRw s key v).domain = s.domain ∧
    (State.applyRw s key v).messages = s.messages ∧
    (State.applyRw s key v).package = s.package ∧
    (State.applyRw s key v).thermal = s.thermal ∧
    (State.applyRw s key v).control = s.control ∧
    (State.applyRw s key v).boot = s.boot ∧
    (State.applyRw s key v).dbg = s.dbg := by
  unfold State.applyRw
  try dsimp only
  (repeat' split) <;> simp_all -implicitDefEqProofs [↓prod_flip3, prod_flip]

@[simp] theorem State.writeEndorsement_kept (s : State) (value : List Byte) :
    (State.writeEndorsement s value).2.pending = s.pending ∧
    (State.writeEndorsement s value).2.fuses = s.fuses ∧
    (State.writeEndorsement s value).2.shadows = s.shadows ∧
    (State.writeEndorsement s value).2.blobs = s.blobs ∧
    (State.writeEndorsement s value).2.blobShadows = s.blobShadows ∧
    (State.writeEndorsement s value).2.hubNeeds = s.hubNeeds ∧
    (State.writeEndorsement s value).2.commits = s.commits ∧
    (State.writeEndorsement s value).2.seeds = s.seeds ∧
    (State.writeEndorsement s value).2.load = s.load ∧
    (State.writeEndorsement s value).2.clusters = s.clusters ∧
    (State.writeEndorsement s value).2.ctxs = s.ctxs ∧
    (State.writeEndorsement s value).2.memory = s.memory ∧
    (State.writeEndorsement s value).2.rig = s.rig ∧
    (State.writeEndorsement s value).2.coll = s.coll ∧
    (State.writeEndorsement s value).2.photonics = s.photonics ∧
    (State.writeEndorsement s value).2.domain = s.domain ∧
    (State.writeEndorsement s value).2.messages = s.messages ∧
    (State.writeEndorsement s value).2.package = s.package ∧
    (State.writeEndorsement s value).2.clocks = s.clocks ∧
    (State.writeEndorsement s value).2.thermal = s.thermal ∧
    (State.writeEndorsement s value).2.control = s.control ∧
    (State.writeEndorsement s value).2.dbg = s.dbg ∧
    (State.writeEndorsement s value).2.freeCount = s.freeCount := by
  unfold State.writeEndorsement
  try dsimp only
  (repeat' split) <;> simp_all -implicitDefEqProofs [↓prod_flip3, prod_flip]

@[simp] theorem State.writeDeviceId_kept (s : State) (v : Nat) :
    (State.writeDeviceId s v).2.pending = s.pending ∧
    (State.writeDeviceId s v).2.fuses = s.fuses ∧
    (State.writeDeviceId s v).2.shadows = s.shadows ∧
    (State.writeDeviceId s v).2.blobs = s.blobs ∧
    (State.writeDeviceId s v).2.blobShadows = s.blobShadows ∧
    (State.writeDeviceId s v).2.hubNeeds = s.hubNeeds ∧
    (State.writeDeviceId s v).2.commits = s.commits ∧
    (State.writeDeviceId s v).2.seeds = s.seeds ∧
    (State.writeDeviceId s v).2.load = s.load ∧
    (State.writeDeviceId s v).2.clusters = s.clusters ∧
    (State.writeDeviceId s v).2.ctxs = s.ctxs ∧
    (State.writeDeviceId s v).2.memory = s.memory ∧
    (State.writeDeviceId s v).2.rig = s.rig ∧
    (State.writeDeviceId s v).2.coll = s.coll ∧
    (State.writeDeviceId s v).2.photonics = s.photonics ∧
    (State.writeDeviceId s v).2.domain = s.domain ∧
    (State.writeDeviceId s v).2.messages = s.messages ∧
    (State.writeDeviceId s v).2.package = s.package ∧
    (State.writeDeviceId s v).2.clocks = s.clocks ∧
    (State.writeDeviceId s v).2.thermal = s.thermal ∧
    (State.writeDeviceId s v).2.control = s.control ∧
    (State.writeDeviceId s v).2.boot = s.boot ∧
    (State.writeDeviceId s v).2.dbg = s.dbg ∧
    (State.writeDeviceId s v).2.freeCount = s.freeCount := by
  unfold State.writeDeviceId
  try dsimp only
  (repeat' split) <;> simp_all -implicitDefEqProofs [↓prod_flip3, prod_flip]

@[simp] theorem State.writeScalar_kept (s : State) (e : OdEntry) (v : Nat) :
    (State.writeScalar s e v).2.pending = s.pending ∧
    (State.writeScalar s e v).2.hubNeeds = s.hubNeeds := by
  unfold State.writeScalar
  try dsimp only
  (repeat' split) <;> simp_all -implicitDefEqProofs [↓prod_flip3, prod_flip]

@[simp] theorem State.writeBytes_kept (s : State) (e : OdEntry) (b : List Byte) :
    (State.writeBytes s e b).2.pending = s.pending ∧
    (State.writeBytes s e b).2.fuses = s.fuses ∧
    (State.writeBytes s e b).2.shadows = s.shadows ∧
    (State.writeBytes s e b).2.hubNeeds = s.hubNeeds ∧
    (State.writeBytes s e b).2.commits = s.commits ∧
    (State.writeBytes s e b).2.seeds = s.seeds ∧
    (State.writeBytes s e b).2.load = s.load ∧
    (State.writeBytes s e b).2.clusters = s.clusters ∧
    (State.writeBytes s e b).2.ctxs = s.ctxs ∧
    (State.writeBytes s e b).2.memory = s.memory ∧
    (State.writeBytes s e b).2.rig = s.rig ∧
    (State.writeBytes s e b).2.coll = s.coll ∧
    (State.writeBytes s e b).2.photonics = s.photonics ∧
    (State.writeBytes s e b).2.domain = s.domain ∧
    (State.writeBytes s e b).2.package = s.package ∧
    (State.writeBytes s e b).2.clocks = s.clocks ∧
    (State.writeBytes s e b).2.thermal = s.thermal ∧
    (State.writeBytes s e b).2.control = s.control ∧
    (State.writeBytes s e b).2.dbg = s.dbg ∧
    (State.writeBytes s e b).2.freeCount = s.freeCount := by
  unfold State.writeBytes
  try dsimp only
  (repeat' split) <;> simp_all -implicitDefEqProofs [↓prod_flip3, prod_flip]

@[simp] theorem State.writeEntry_kept (s : State) (index : Nat) (sub : Nat) (value : List Byte) :
    (State.writeEntry s index sub value).2.pending = s.pending ∧
    (State.writeEntry s index sub value).2.hubNeeds = s.hubNeeds := by
  unfold State.writeEntry
  try dsimp only
  (repeat' split) <;> simp_all -implicitDefEqProofs [↓prod_flip3, prod_flip]

@[simp] theorem State.answer_kept (s : State) (type : Nat) (t : Transaction) (chunk : Option Nat) (status : Nat) (value : List Byte) :
    (State.answer s type t chunk status value).pending = s.pending ∧
    (State.answer s type t chunk status value).fuses = s.fuses ∧
    (State.answer s type t chunk status value).regs = s.regs ∧
    (State.answer s type t chunk status value).shadows = s.shadows ∧
    (State.answer s type t chunk status value).blobs = s.blobs ∧
    (State.answer s type t chunk status value).blobShadows = s.blobShadows ∧
    (State.answer s type t chunk status value).hubNeeds = s.hubNeeds ∧
    (State.answer s type t chunk status value).commits = s.commits ∧
    (State.answer s type t chunk status value).seeds = s.seeds ∧
    (State.answer s type t chunk status value).load = s.load ∧
    (State.answer s type t chunk status value).clusters = s.clusters ∧
    (State.answer s type t chunk status value).ctxs = s.ctxs ∧
    (State.answer s type t chunk status value).memory = s.memory ∧
    (State.answer s type t chunk status value).rig = s.rig ∧
    (State.answer s type t chunk status value).coll = s.coll ∧
    (State.answer s type t chunk status value).photonics = s.photonics ∧
    (State.answer s type t chunk status value).domain = s.domain ∧
    (State.answer s type t chunk status value).messages = s.messages ∧
    (State.answer s type t chunk status value).package = s.package ∧
    (State.answer s type t chunk status value).clocks = s.clocks ∧
    (State.answer s type t chunk status value).thermal = s.thermal ∧
    (State.answer s type t chunk status value).boot = s.boot ∧
    (State.answer s type t chunk status value).dbg = s.dbg ∧
    (State.answer s type t chunk status value).freeCount = s.freeCount := by
  unfold State.answer
  try dsimp only
  (repeat' split) <;> simp_all -implicitDefEqProofs [↓prod_flip3, prod_flip]

@[simp] theorem State.countApplied_kept (s : State) :
    (State.countApplied s).pending = s.pending ∧
    (State.countApplied s).fuses = s.fuses ∧
    (State.countApplied s).shadows = s.shadows ∧
    (State.countApplied s).blobs = s.blobs ∧
    (State.countApplied s).blobShadows = s.blobShadows ∧
    (State.countApplied s).hubNeeds = s.hubNeeds ∧
    (State.countApplied s).commits = s.commits ∧
    (State.countApplied s).seeds = s.seeds ∧
    (State.countApplied s).load = s.load ∧
    (State.countApplied s).clusters = s.clusters ∧
    (State.countApplied s).ctxs = s.ctxs ∧
    (State.countApplied s).memory = s.memory ∧
    (State.countApplied s).rig = s.rig ∧
    (State.countApplied s).coll = s.coll ∧
    (State.countApplied s).photonics = s.photonics ∧
    (State.countApplied s).domain = s.domain ∧
    (State.countApplied s).messages = s.messages ∧
    (State.countApplied s).package = s.package ∧
    (State.countApplied s).clocks = s.clocks ∧
    (State.countApplied s).thermal = s.thermal ∧
    (State.countApplied s).control = s.control ∧
    (State.countApplied s).boot = s.boot ∧
    (State.countApplied s).dbg = s.dbg ∧
    (State.countApplied s).freeCount = s.freeCount := by
  unfold State.countApplied
  try dsimp only
  (repeat' split) <;> simp_all -implicitDefEqProofs [↓prod_flip3, prod_flip]

@[simp] theorem State.arrive_kept (s : State) (t : Transaction) :
    (State.arrive s t).pending = s.pending ∧
    (State.arrive s t).fuses = s.fuses ∧
    (State.arrive s t).regs = s.regs ∧
    (State.arrive s t).shadows = s.shadows ∧
    (State.arrive s t).blobs = s.blobs ∧
    (State.arrive s t).blobShadows = s.blobShadows ∧
    (State.arrive s t).hubNeeds = s.hubNeeds ∧
    (State.arrive s t).commits = s.commits ∧
    (State.arrive s t).seeds = s.seeds ∧
    (State.arrive s t).load = s.load ∧
    (State.arrive s t).clusters = s.clusters ∧
    (State.arrive s t).ctxs = s.ctxs ∧
    (State.arrive s t).memory = s.memory ∧
    (State.arrive s t).rig = s.rig ∧
    (State.arrive s t).coll = s.coll ∧
    (State.arrive s t).photonics = s.photonics ∧
    (State.arrive s t).domain = s.domain ∧
    (State.arrive s t).messages = s.messages ∧
    (State.arrive s t).package = s.package ∧
    (State.arrive s t).clocks = s.clocks ∧
    (State.arrive s t).thermal = s.thermal ∧
    (State.arrive s t).boot = s.boot ∧
    (State.arrive s t).dbg = s.dbg ∧
    (State.arrive s t).freeCount = s.freeCount := by
  unfold State.arrive
  try dsimp only
  (repeat' split) <;> simp_all -implicitDefEqProofs [↓prod_flip3, prod_flip]

@[simp] theorem State.access_kept (s : State) (kind : AccessKind) (t : Transaction) (value : List Byte) :
    (State.access s kind t value).2.2.pending = s.pending ∧
    (State.access s kind t value).2.2.hubNeeds = s.hubNeeds := by
  unfold State.access
  try dsimp only
  (repeat' split) <;> simp_all -implicitDefEqProofs [↓prod_flip3, prod_flip]

@[simp] theorem State.sendForward_kept (s : State) (site : Nat) (f : Forward) :
    (State.sendForward s site f).pending = s.pending ∧
    (State.sendForward s site f).fuses = s.fuses ∧
    (State.sendForward s site f).regs = s.regs ∧
    (State.sendForward s site f).shadows = s.shadows ∧
    (State.sendForward s site f).blobs = s.blobs ∧
    (State.sendForward s site f).blobShadows = s.blobShadows ∧
    (State.sendForward s site f).hubNeeds = s.hubNeeds ∧
    (State.sendForward s site f).commits = s.commits ∧
    (State.sendForward s site f).seeds = s.seeds ∧
    (State.sendForward s site f).load = s.load ∧
    (State.sendForward s site f).clusters = s.clusters ∧
    (State.sendForward s site f).ctxs = s.ctxs ∧
    (State.sendForward s site f).memory = s.memory ∧
    (State.sendForward s site f).rig = s.rig ∧
    (State.sendForward s site f).coll = s.coll ∧
    (State.sendForward s site f).photonics = s.photonics ∧
    (State.sendForward s site f).domain = s.domain ∧
    (State.sendForward s site f).messages = s.messages ∧
    (State.sendForward s site f).package = s.package ∧
    (State.sendForward s site f).clocks = s.clocks ∧
    (State.sendForward s site f).thermal = s.thermal ∧
    (State.sendForward s site f).boot = s.boot ∧
    (State.sendForward s site f).dbg = s.dbg ∧
    (State.sendForward s site f).freeCount = s.freeCount := by
  unfold State.sendForward
  try dsimp only
  (repeat' split) <;> simp_all -implicitDefEqProofs [↓prod_flip3, prod_flip]

@[simp] theorem State.perform_kept (s : State) (type : Nat) (t : Transaction) (value : List Byte) (chunk : Option Nat) :
    (State.perform s type t value chunk).pending = s.pending ∧
    (State.perform s type t value chunk).hubNeeds = s.hubNeeds := by
  unfold State.perform
  try dsimp only
  (repeat' split) <;> simp_all -implicitDefEqProofs [↓prod_flip3, prod_flip]

@[simp] theorem State.dropBlock_kept (s : State) (tid : Word32) :
    (State.dropBlock s tid).pending = s.pending ∧
    (State.dropBlock s tid).fuses = s.fuses ∧
    (State.dropBlock s tid).regs = s.regs ∧
    (State.dropBlock s tid).shadows = s.shadows ∧
    (State.dropBlock s tid).blobs = s.blobs ∧
    (State.dropBlock s tid).blobShadows = s.blobShadows ∧
    (State.dropBlock s tid).hubNeeds = s.hubNeeds ∧
    (State.dropBlock s tid).commits = s.commits ∧
    (State.dropBlock s tid).seeds = s.seeds ∧
    (State.dropBlock s tid).load = s.load ∧
    (State.dropBlock s tid).clusters = s.clusters ∧
    (State.dropBlock s tid).ctxs = s.ctxs ∧
    (State.dropBlock s tid).memory = s.memory ∧
    (State.dropBlock s tid).rig = s.rig ∧
    (State.dropBlock s tid).coll = s.coll ∧
    (State.dropBlock s tid).photonics = s.photonics ∧
    (State.dropBlock s tid).domain = s.domain ∧
    (State.dropBlock s tid).messages = s.messages ∧
    (State.dropBlock s tid).package = s.package ∧
    (State.dropBlock s tid).clocks = s.clocks ∧
    (State.dropBlock s tid).thermal = s.thermal ∧
    (State.dropBlock s tid).boot = s.boot ∧
    (State.dropBlock s tid).dbg = s.dbg ∧
    (State.dropBlock s tid).freeCount = s.freeCount := by
  unfold State.dropBlock
  try dsimp only
  (repeat' split) <;> simp_all -implicitDefEqProofs [↓prod_flip3, prod_flip]

@[simp] theorem State.takeChunk_kept (s : State) (t : Transaction) :
    (State.takeChunk s t).pending = s.pending ∧
    (State.takeChunk s t).hubNeeds = s.hubNeeds := by
  unfold State.takeChunk
  try dsimp only
  (repeat' split) <;> simp_all -implicitDefEqProofs [↓prod_flip3, prod_flip]

end Sys2Proof.Machine
end

