-- ==== Sys2Proof/Laws/SMap.lean ====
section
/-! SUPPORT. Laws of sparse tables and of memory: reading after writing, and the canonical form that every operation keeps. -/

namespace Sys2Proof

/-! ### Sparse tables -/

theorem SMap.lookup_insert_same {α : Type} (k : Nat) (v : α) (l : List (Nat × α)) :
    SMap.lookup (SMap.insertEntry k v l) k = some v := by
  induction l with
  | nil => simp [SMap.insertEntry, SMap.lookup]
  | cons e l ih =>
    obtain ⟨j, w⟩ := e
    simp only [SMap.insertEntry]
    split
    · simp [SMap.lookup]
    · split
      · simp [SMap.lookup]
      · rename_i h; simp [SMap.lookup, ih]; omega

theorem SMap.lookup_insert_ne {α : Type} {j k : Nat} (h : j ≠ k) (v : α) (l : List (Nat × α)) :
    SMap.lookup (SMap.insertEntry k v l) j = SMap.lookup l j := by
  induction l with
  | nil => simp [SMap.insertEntry, SMap.lookup]; omega
  | cons e l ih =>
    obtain ⟨i, w⟩ := e
    simp only [SMap.insertEntry]
    split
    · simp only [SMap.lookup]; rw [if_neg (by omega)]
    · split
      · subst_vars; simp only [SMap.lookup]; rw [if_neg (by omega), if_neg (by omega)]
      · simp only [SMap.lookup, ih]

@[simp] theorem SMap.get_set_same {α : Type} (d : α) (m : SMap α) (k : Nat) (v : α) : (m.set k v).get d k = v := by
  simp [SMap.get, SMap.set, SMap.lookup_insert_same]

theorem SMap.get_set_ne {α : Type} (d : α) (m : SMap α) {j k : Nat} (h : j ≠ k) (v : α) : (m.set k v).get d j = m.get d j := by
  simp [SMap.get, SMap.set, SMap.lookup_insert_ne h]

@[simp] theorem SMap.get_modify_same {α : Type} (d : α) (m : SMap α) (k : Nat) (f : α → α) :
    (m.modify d k f).get d k = f (m.get d k) := by simp [SMap.modify]

theorem SMap.get_modify_ne {α : Type} (d e : α) (m : SMap α) {j k : Nat} (h : j ≠ k) (f : α → α) :
    (m.modify e k f).get d j = m.get d j := by simp [SMap.modify, SMap.get_set_ne d m h]

/-! ### Memory: the canonical form -/

theorem Mem.sortedFrom_mono {lo hi : Nat} (h : lo ≤ hi) {l : List Host.Cell} (hs : Mem.sortedFrom hi l = true) :
    Mem.sortedFrom lo l = true := by
  cases l with
  | nil => rfl
  | cons c l =>
    obtain ⟨a, b⟩ := c
    simp only [Mem.sortedFrom, Bool.and_eq_true, decide_eq_true_eq] at hs ⊢
    exact ⟨⟨by omega, hs.1.2⟩, hs.2⟩

theorem Mem.sortedFrom_insert {lo a : Nat} (b : Byte) {l : List Host.Cell} (h : lo ≤ a) (hs : Mem.sortedFrom lo l = true) :
    Mem.sortedFrom lo (Mem.insertCell a b l) = true := by
  induction l generalizing lo with
  | nil => unfold Mem.insertCell; split <;> simp [Mem.sortedFrom, *]
  | cons c l ih =>
    obtain ⟨j, w⟩ := c
    have hs' := hs
    simp only [Mem.sortedFrom, Bool.and_eq_true, decide_eq_true_eq] at hs'
    obtain ⟨⟨h1, h2⟩, h3⟩ := hs'
    unfold Mem.insertCell
    split
    · split
      · exact hs
      · simp only [Mem.sortedFrom, Bool.and_eq_true, decide_eq_true_eq]
        exact ⟨⟨h, by assumption⟩, ⟨by omega, h2⟩, h3⟩
    · split
      · split
        · exact Mem.sortedFrom_mono (by omega) h3
        · simp only [Mem.sortedFrom, Bool.and_eq_true, decide_eq_true_eq]
          subst_vars
          exact ⟨⟨h, by assumption⟩, h3⟩
      · simp only [Mem.sortedFrom, Bool.and_eq_true, decide_eq_true_eq]
        exact ⟨⟨h1, h2⟩, ih (by omega) h3⟩

theorem Mem.sortedFrom_filter {lo : Nat} (p : Host.Cell → Bool) {l : List Host.Cell} (hs : Mem.sortedFrom lo l = true) :
    Mem.sortedFrom lo (l.filter p) = true := by
  induction l generalizing lo with
  | nil => rfl
  | cons c l ih =>
    obtain ⟨j, w⟩ := c
    simp only [Mem.sortedFrom, Bool.and_eq_true, decide_eq_true_eq] at hs
    obtain ⟨⟨h1, h2⟩, h3⟩ := hs
    simp only [List.filter]
    split
    · simp only [Mem.sortedFrom, Bool.and_eq_true, decide_eq_true_eq]
      exact ⟨⟨h1, h2⟩, ih h3⟩
    · exact Mem.sortedFrom_mono (by omega) (ih h3)

theorem Mem.wf_write {m : Mem} (h : m.wf = true) (a : Nat) (b : Byte) : (m.write a b).wf = true :=
  Mem.sortedFrom_insert b (Nat.zero_le a) h

theorem Mem.wf_writeBytes {m : Mem} (h : m.wf = true) (a : Nat) (d : List Byte) : (m.writeBytes a d).wf = true := by
  induction d generalizing m a with
  | nil => exact h
  | cons b bs ih => exact ih (Mem.wf_write h a b) (a + 1)

theorem Mem.wf_clearRange {m : Mem} (h : m.wf = true) (lo hi : Nat) : (m.clearRange lo hi).wf = true :=
  Mem.sortedFrom_filter _ h

theorem Mem.wf_discard {m : Mem} (h : m.wf = true) (p : Nat → Bool) : (m.discard p).wf = true := Mem.sortedFrom_filter _ h

theorem Mem.wf_overlay {m : Mem} (h : m.wf = true) (src dst : Nat) (l : List Host.Cell) : (m.overlay src dst l).wf = true := by
  induction l generalizing m with
  | nil => exact h
  | cons c l ih => exact ih (Mem.wf_write h _ _)

theorem Mem.wf_copyRange {m : Mem} (h : m.wf = true) (src dst n : Nat) : (m.copyRange src dst n).wf = true :=
  Mem.wf_overlay (Mem.wf_clearRange h _ _) _ _ _

theorem Mem.wf_empty : (⟨[]⟩ : Mem).wf = true := rfl

/-! ### Memory: reading after writing -/

theorem Mem.lookup_sorted {lo a : Nat} {l : List Host.Cell} (hs : Mem.sortedFrom lo l = true) (h : a < lo) :
    Mem.lookup l a = Mem.unlisted := by
  induction l generalizing lo with
  | nil => rfl
  | cons c l ih =>
    obtain ⟨j, w⟩ := c
    simp only [Mem.sortedFrom, Bool.and_eq_true, decide_eq_true_eq] at hs
    simp only [Mem.lookup]
    rw [if_neg (by omega)]
    exact ih hs.2 (by omega)

theorem Mem.lookup_insert {lo : Nat} (a x : Nat) (b : Byte) {l : List Host.Cell} (hs : Mem.sortedFrom lo l = true) :
    Mem.lookup (Mem.insertCell a b l) x = if x = a then b else Mem.lookup l x := by
  induction l generalizing lo with
  | nil =>
    unfold Mem.insertCell
    split
    · simp only [Mem.lookup]; split <;> simp_all
    · simp only [Mem.lookup]; by_cases h : a = x <;> simp [h, eq_comm]
  | cons c l ih =>
    obtain ⟨j, w⟩ := c
    simp only [Mem.sortedFrom, Bool.and_eq_true, decide_eq_true_eq] at hs
    obtain ⟨⟨h1, h2⟩, h3⟩ := hs
    unfold Mem.insertCell
    split
    · rename_i hlt
      split
      · rename_i hb
        by_cases hx : x = a
        · subst hx
          simp only [Mem.lookup, if_true]
          rw [if_neg (by omega), hb]
          exact Mem.lookup_sorted h3 (by omega)
        · simp [hx]
      · by_cases hx : x = a
        · subst hx; simp [Mem.lookup]
        · simp only [Mem.lookup]; rw [if_neg (fun h => hx h.symm), if_neg hx]
    · split
      · rename_i heq
        subst heq
        split
        · rename_i hb
          by_cases hx : x = a
          · subst hx; rw [if_pos rfl, hb]; exact Mem.lookup_sorted h3 (by omega)
          · simp only [Mem.lookup]; rw [if_neg hx, if_neg (fun h => hx h.symm)]
        · by_cases hx : x = a
          · subst hx; simp [Mem.lookup]
          · simp only [Mem.lookup]; rw [if_neg (fun h => hx h.symm), if_neg hx, if_neg (fun h => hx h.symm)]
      · simp only [Mem.lookup, ih h3]
        by_cases hx : x = a
        · subst hx; rw [if_neg (by omega)]; simp
        · simp [hx]

theorem Mem.read_write {m : Mem} (h : m.wf = true) (a x : Nat) (b : Byte) :
    (m.write a b).read x = if x = a then b else m.read x := Mem.lookup_insert a x b h

theorem Mem.read_writeBytes {m : Mem} (h : m.wf = true) (a x : Nat) (d : List Byte) :
    (m.writeBytes a d).read x = if a ≤ x ∧ x < a + d.length then d.getD (x - a) 0 else m.read x := by
  induction d generalizing m a with
  | nil => simp only [Mem.writeBytes, List.length_nil]; rw [if_neg (by omega)]
  | cons b bs ih =>
    simp only [Mem.writeBytes, ih (Mem.wf_write h a b), Mem.read_write h, List.length_cons]
    by_cases h1 : a + 1 ≤ x ∧ x < a + 1 + bs.length
    · rw [if_pos h1, if_pos (by omega), show x - a = (x - (a + 1)) + 1 by omega]; simp
    · rw [if_neg h1]
      by_cases h2 : x = a
      · subst h2; rw [if_pos rfl, if_pos (by omega)]; simp
      · rw [if_neg h2, if_neg (by omega)]

theorem Mem.lookup_filter (p : Nat → Bool) (l : List Host.Cell) (x : Nat) :
    Mem.lookup (l.filter fun c => p c.1) x = if p x then Mem.lookup l x else Mem.unlisted := by
  induction l with
  | nil => simp [Mem.lookup]
  | cons c l ih =>
    obtain ⟨j, w⟩ := c
    simp only [List.filter]
    by_cases hj : j = x
    · subst hj
      split <;> rename_i hp <;> simp_all [Mem.lookup]
    · split <;> simp [Mem.lookup, hj, ih]

theorem Mem.read_clearRange (m : Mem) (lo hi x : Nat) :
    (m.clearRange lo hi).read x = if lo ≤ x ∧ x < hi then 0 else m.read x := by
  have := Mem.lookup_filter (fun a => !(lo ≤ a && a < hi)) m.cells x
  simp only [Mem.clearRange, Mem.read, this]
  by_cases h : lo ≤ x ∧ x < hi <;> simp [h, Mem.unlisted]

end Sys2Proof
end

