-- ==== Sys2Proof/Laws/Canonical.lean ====
section
/-! SUPPORT. Every operation on State keeps memory in its canonical form (Mem.wf). -/

namespace Sys2Proof.Machine

set_option linter.unusedSimpArgs false
set_option linter.unnecessarySeqFocus false
set_option linter.unusedTactic false
set_option linter.unreachableTactic false
set_option maxRecDepth 4000

/-! ### Folds and conditionals -/

@[simp] theorem foldl_wf {α : Type} {f : State → α → State} {l : List α} {s : State} (h : s.memory.cells.wf = true)
    (h' : ∀ s a, s.memory.cells.wf = true → (f s a).memory.cells.wf = true) : (l.foldl f s).memory.cells.wf = true := by
  induction l generalizing s with
  | nil => exact h
  | cons a l ih => exact ih (h' s a h)
@[simp] theorem foldl_snd_wf {α β : Type} {f : β × State → α → β × State} {l : List α} {p : β × State}
    (h : p.2.memory.cells.wf = true)
    (h' : ∀ p a, p.2.memory.cells.wf = true → (f p a).2.memory.cells.wf = true) : (l.foldl f p).2.memory.cells.wf = true := by
  induction l generalizing p with
  | nil => exact h
  | cons a l ih => exact ih (h' p a h)
@[simp] theorem ite_wf {c : Prop} [Decidable c] (a b : State) (ha : a.memory.cells.wf = true) (hb : b.memory.cells.wf = true) :
    (if c then a else b).memory.cells.wf = true := by split <;> assumption

/-! ### Operations -/


@[simp] theorem State.modTower_wf (s : State) (t : Nat) (f : Tower → Tower) (hwf : s.memory.cells.wf = true) :
    (State.modTower s t f).memory.cells.wf = true := by
  unfold State.modTower
  try dsimp only
  (repeat' split) <;> simp_all -implicitDefEqProofs (maxDischargeDepth := 12) [-ite_memory, ↓prod_flip3, prod_flip, Mem.wf_writeBytes, Mem.wf_clearRange, Mem.wf_copyRange, Mem.wf_discard, Mem.wf_empty]

@[simp] theorem State.modStack_wf (s : State) (k : Nat) (f : Stack → Stack) (hwf : s.memory.cells.wf = true) :
    (State.modStack s k f).memory.cells.wf = true := by
  unfold State.modStack
  try dsimp only
  (repeat' split) <;> simp_all -implicitDefEqProofs (maxDischargeDepth := 12) [-ite_memory, ↓prod_flip3, prod_flip, Mem.wf_writeBytes, Mem.wf_clearRange, Mem.wf_copyRange, Mem.wf_discard, Mem.wf_empty]

@[simp] theorem State.setStored_wf (s : State) (w : Nat) (p : ErrorPattern) (hwf : s.memory.cells.wf = true) :
    (State.setStored s w p).memory.cells.wf = true := by
  unfold State.setStored
  try dsimp only
  (repeat' split) <;> simp_all -implicitDefEqProofs (maxDischargeDepth := 12) [-ite_memory, ↓prod_flip3, prod_flip, Mem.wf_writeBytes, Mem.wf_clearRange, Mem.wf_copyRange, Mem.wf_discard, Mem.wf_empty]

@[simp] theorem State.setResident_wf (s : State) (w : Nat) (p : ErrorPattern) (hwf : s.memory.cells.wf = true) :
    (State.setResident s w p).memory.cells.wf = true := by
  unfold State.setResident
  try dsimp only
  (repeat' split) <;> simp_all -implicitDefEqProofs (maxDischargeDepth := 12) [-ite_memory, ↓prod_flip3, prod_flip, Mem.wf_writeBytes, Mem.wf_clearRange, Mem.wf_copyRange, Mem.wf_discard, Mem.wf_empty]

@[simp] theorem State.putBytes_wf (s : State) (off : Nat) (d : List Byte) (hwf : s.memory.cells.wf = true) :
    (State.putBytes s off d).memory.cells.wf = true := by
  unfold State.putBytes
  try dsimp only
  (repeat' split) <;> simp_all -implicitDefEqProofs (maxDischargeDepth := 12) [-ite_memory, ↓prod_flip3, prod_flip, Mem.wf_writeBytes, Mem.wf_clearRange, Mem.wf_copyRange, Mem.wf_discard, Mem.wf_empty]

@[simp] theorem State.applyLeft_wf (s : State) (w : Nat) (left : ErrorPattern) (hwf : s.memory.cells.wf = true) :
    (State.applyLeft s w left).memory.cells.wf = true := by
  unfold State.applyLeft
  try dsimp only
  (repeat' split) <;> simp_all -implicitDefEqProofs (maxDischargeDepth := 12) [-ite_memory, ↓prod_flip3, prod_flip, Mem.wf_writeBytes, Mem.wf_clearRange, Mem.wf_copyRange, Mem.wf_discard, Mem.wf_empty]

@[simp] theorem State.queueWriteback_wf (s : State) (w : Nat) (hwf : s.memory.cells.wf = true) :
    (State.queueWriteback s w).memory.cells.wf = true := by
  unfold State.queueWriteback
  try dsimp only
  (repeat' split) <;> simp_all -implicitDefEqProofs (maxDischargeDepth := 12) [-ite_memory, ↓prod_flip3, prod_flip, Mem.wf_writeBytes, Mem.wf_clearRange, Mem.wf_copyRange, Mem.wf_discard, Mem.wf_empty]

@[simp] theorem State.correctStored_wf (s : State) (w : Nat) (left : ErrorPattern) (resident : Bool) (hwf : s.memory.cells.wf = true) :
    (State.correctStored s w left resident).memory.cells.wf = true := by
  unfold State.correctStored
  try dsimp only
  (repeat' split) <;> simp_all -implicitDefEqProofs (maxDischargeDepth := 12) [-ite_memory, ↓prod_flip3, prod_flip, Mem.wf_writeBytes, Mem.wf_clearRange, Mem.wf_copyRange, Mem.wf_discard, Mem.wf_empty]

@[simp] theorem State.correctResident_wf (s : State) (w : Nat) (left : ErrorPattern) (hwf : s.memory.cells.wf = true) :
    (State.correctResident s w left).memory.cells.wf = true := by
  unfold State.correctResident
  try dsimp only
  (repeat' split) <;> simp_all -implicitDefEqProofs (maxDischargeDepth := 12) [-ite_memory, ↓prod_flip3, prod_flip, Mem.wf_writeBytes, Mem.wf_clearRange, Mem.wf_copyRange, Mem.wf_discard, Mem.wf_empty]

@[simp] theorem State.zeroRange_wf (s : State) (off : Nat) (n : Nat) (hwf : s.memory.cells.wf = true) :
    (State.zeroRange s off n).memory.cells.wf = true := by
  unfold State.zeroRange
  try dsimp only
  (repeat' split) <;> simp_all -implicitDefEqProofs (maxDischargeDepth := 12) [-ite_memory, ↓prod_flip3, prod_flip, Mem.wf_writeBytes, Mem.wf_clearRange, Mem.wf_copyRange, Mem.wf_discard, Mem.wf_empty]

@[simp] theorem State.wipeRange_wf (s : State) (off : Nat) (n : Nat) (hwf : s.memory.cells.wf = true) :
    (State.wipeRange s off n).memory.cells.wf = true := by
  unfold State.wipeRange
  try dsimp only
  (repeat' split) <;> simp_all -implicitDefEqProofs (maxDischargeDepth := 12) [-ite_memory, ↓prod_flip3, prod_flip, Mem.wf_writeBytes, Mem.wf_clearRange, Mem.wf_copyRange, Mem.wf_discard, Mem.wf_empty]

@[simp] theorem State.markStored_wf (s : State) (w : Nat) (p : ErrorPattern) (hwf : s.memory.cells.wf = true) :
    (State.markStored s w p).memory.cells.wf = true := by
  unfold State.markStored
  try dsimp only
  (repeat' split) <;> simp_all -implicitDefEqProofs (maxDischargeDepth := 12) [-ite_memory, ↓prod_flip3, prod_flip, Mem.wf_writeBytes, Mem.wf_clearRange, Mem.wf_copyRange, Mem.wf_discard, Mem.wf_empty]

@[simp] theorem State.judge_wf (s : State) (store : Nat) (off : Nat) (p : ErrorPattern) (dirtyOrStored : Nat) (r : Requester) (hwf : s.memory.cells.wf = true) :
    (State.judge s store off p dirtyOrStored r).2.memory.cells.wf = true := by
  unfold State.judge
  try dsimp only
  (repeat' split) <;> simp_all -implicitDefEqProofs (maxDischargeDepth := 12) [-ite_memory, ↓prod_flip3, prod_flip, Mem.wf_writeBytes, Mem.wf_clearRange, Mem.wf_copyRange, Mem.wf_discard, Mem.wf_empty]

@[simp] theorem State.setSet_wf (s : State) (k : Nat) (c : CacheSet) (hwf : s.memory.cells.wf = true) :
    (State.setSet s k c).memory.cells.wf = true := by
  unfold State.setSet
  try dsimp only
  (repeat' split) <;> simp_all -implicitDefEqProofs (maxDischargeDepth := 12) [-ite_memory, ↓prod_flip3, prod_flip, Mem.wf_writeBytes, Mem.wf_clearRange, Mem.wf_copyRange, Mem.wf_discard, Mem.wf_empty]

@[simp] theorem State.writeBackWord_wf (s : State) (w : Nat) (hwf : s.memory.cells.wf = true) :
    (State.writeBackWord s w).memory.cells.wf = true := by
  unfold State.writeBackWord
  try dsimp only
  (repeat' split) <;> simp_all -implicitDefEqProofs (maxDischargeDepth := 12) [-ite_memory, ↓prod_flip3, prod_flip, Mem.wf_writeBytes, Mem.wf_clearRange, Mem.wf_copyRange, Mem.wf_discard, Mem.wf_empty]

@[simp] theorem State.writeBackLine_wf (s : State) (t : Nat) (l : Nat) (hwf : s.memory.cells.wf = true) :
    (State.writeBackLine s t l).memory.cells.wf = true := by
  unfold State.writeBackLine
  try dsimp only
  (repeat' split) <;> simp_all -implicitDefEqProofs (maxDischargeDepth := 12) [-ite_memory, ↓prod_flip3, prod_flip, Mem.wf_writeBytes, Mem.wf_clearRange, Mem.wf_copyRange, Mem.wf_discard, Mem.wf_empty]

@[simp] theorem State.dropResident_wf (s : State) (t : Nat) (l : Nat) (hwf : s.memory.cells.wf = true) :
    (State.dropResident s t l).memory.cells.wf = true := by
  unfold State.dropResident
  try dsimp only
  (repeat' split) <;> simp_all -implicitDefEqProofs (maxDischargeDepth := 12) [-ite_memory, ↓prod_flip3, prod_flip, Mem.wf_writeBytes, Mem.wf_clearRange, Mem.wf_copyRange, Mem.wf_discard, Mem.wf_empty]

@[simp] theorem State.evict_wf (s : State) (t : Nat) (k : Nat) (way : Nat) (hwf : s.memory.cells.wf = true) :
    (State.evict s t k way).memory.cells.wf = true := by
  unfold State.evict
  try dsimp only
  (repeat' split) <;> simp_all -implicitDefEqProofs (maxDischargeDepth := 12) [-ite_memory, ↓prod_flip3, prod_flip, Mem.wf_writeBytes, Mem.wf_clearRange, Mem.wf_copyRange, Mem.wf_discard, Mem.wf_empty]

@[simp] theorem State.fillWord_wf (s : State) (skip : List Nat) (w : Nat) (hwf : s.memory.cells.wf = true) :
    (State.fillWord s skip w).memory.cells.wf = true := by
  unfold State.fillWord
  try dsimp only
  (repeat' split) <;> simp_all -implicitDefEqProofs (maxDischargeDepth := 12) [-ite_memory, ↓prod_flip3, prod_flip, Mem.wf_writeBytes, Mem.wf_clearRange, Mem.wf_copyRange, Mem.wf_discard, Mem.wf_empty]

@[simp] theorem State.allocate_wf (s : State) (t : Nat) (l : Nat) (dirty : Bool) (skip : List Nat) (hwf : s.memory.cells.wf = true) :
    (State.allocate s t l dirty skip).memory.cells.wf = true := by
  unfold State.allocate
  try dsimp only
  (repeat' split) <;> simp_all -implicitDefEqProofs (maxDischargeDepth := 12) [-ite_memory, ↓prod_flip3, prod_flip, Mem.wf_writeBytes, Mem.wf_clearRange, Mem.wf_copyRange, Mem.wf_discard, Mem.wf_empty]

@[simp] theorem State.touch_wf (s : State) (k : Nat) (way : Nat) (l : Nat) (dirty : Bool) (hwf : s.memory.cells.wf = true) :
    (State.touch s k way l dirty).memory.cells.wf = true := by
  unfold State.touch
  try dsimp only
  (repeat' split) <;> simp_all -implicitDefEqProofs (maxDischargeDepth := 12) [-ite_memory, ↓prod_flip3, prod_flip, Mem.wf_writeBytes, Mem.wf_clearRange, Mem.wf_copyRange, Mem.wf_discard, Mem.wf_empty]

@[simp] theorem State.readHbmWord_wf (s : State) (t : Nat) (l : Nat) (w : Nat) (r : Requester) (hwf : s.memory.cells.wf = true) :
    (State.readHbmWord s t l w r).2.memory.cells.wf = true := by
  unfold State.readHbmWord
  try dsimp only
  (repeat' split) <;> simp_all -implicitDefEqProofs (maxDischargeDepth := 12) [-ite_memory, ↓prod_flip3, prod_flip, Mem.wf_writeBytes, Mem.wf_clearRange, Mem.wf_copyRange, Mem.wf_discard, Mem.wf_empty]

@[simp] theorem State.settleLine_wf (s : State) (t : Nat) (l : Nat) (write : Bool) (skip : List Nat) (r : Requester) (hwf : s.memory.cells.wf = true) :
    (State.settleLine s t l write skip r).memory.cells.wf = true := by
  unfold State.settleLine
  try dsimp only
  (repeat' split) <;> simp_all -implicitDefEqProofs (maxDischargeDepth := 12) [-ite_memory, ↓prod_flip3, prod_flip, Mem.wf_writeBytes, Mem.wf_clearRange, Mem.wf_copyRange, Mem.wf_discard, Mem.wf_empty]

@[simp] theorem State.readWord_wf (s : State) (off : Nat) (r : Requester) (hwf : s.memory.cells.wf = true) :
    (State.readWord s off r).2.memory.cells.wf = true := by
  unfold State.readWord
  try dsimp only
  (repeat' split) <;> simp_all -implicitDefEqProofs (maxDischargeDepth := 12) [-ite_memory, ↓prod_flip3, prod_flip, Mem.wf_writeBytes, Mem.wf_clearRange, Mem.wf_copyRange, Mem.wf_discard, Mem.wf_empty]

@[simp] theorem State.settle_wf (s : State) (off : Nat) (write : Bool) (skip : List Nat) (r : Requester) (hwf : s.memory.cells.wf = true) :
    (State.settle s off write skip r).memory.cells.wf = true := by
  unfold State.settle
  try dsimp only
  (repeat' split) <;> simp_all -implicitDefEqProofs (maxDischargeDepth := 12) [-ite_memory, ↓prod_flip3, prod_flip, Mem.wf_writeBytes, Mem.wf_clearRange, Mem.wf_copyRange, Mem.wf_discard, Mem.wf_empty]

@[simp] theorem State.loadWords_wf (s : State) (off : Nat) (n : Nat) (r : Requester) (x4 : List Nat) (x5 : List Byte) (x6 : Option Nat) (hwf : s.memory.cells.wf = true) :
    (State.loadWords s off n r x4 x5 x6).2.2.memory.cells.wf = true := by
  induction x4 generalizing s off n r x5 x6 <;> unfold State.loadWords <;> try dsimp only
  all_goals ((repeat' split) <;> simp_all -implicitDefEqProofs (maxDischargeDepth := 12) [-ite_memory, ↓prod_flip3, prod_flip, Mem.wf_writeBytes, Mem.wf_clearRange, Mem.wf_copyRange, Mem.wf_discard, Mem.wf_empty])

@[simp] theorem State.settleAll_wf (s : State) (ws : List Nat) (write : Bool) (r : Requester) (hwf : s.memory.cells.wf = true) :
    (State.settleAll s ws write r).memory.cells.wf = true := by
  unfold State.settleAll
  try dsimp only
  (repeat' split) <;> simp_all -implicitDefEqProofs (maxDischargeDepth := 12) [-ite_memory, ↓prod_flip3, prod_flip, Mem.wf_writeBytes, Mem.wf_clearRange, Mem.wf_copyRange, Mem.wf_discard, Mem.wf_empty]

@[simp] theorem State.loadRange_wf (s : State) (off : Nat) (n : Nat) (r : Requester) (hwf : s.memory.cells.wf = true) :
    (State.loadRange s off n r).2.memory.cells.wf = true := by
  unfold State.loadRange
  try dsimp only
  (repeat' split) <;> simp_all -implicitDefEqProofs (maxDischargeDepth := 12) [-ite_memory, ↓prod_flip3, prod_flip, Mem.wf_writeBytes, Mem.wf_clearRange, Mem.wf_copyRange, Mem.wf_discard, Mem.wf_empty]

@[simp] theorem State.checkWord_wf (s : State) (off : Nat) (n : Nat) (w : Nat) (r : Requester) (hwf : s.memory.cells.wf = true) :
    (State.checkWord s off n w r).2.memory.cells.wf = true := by
  unfold State.checkWord
  try dsimp only
  (repeat' split) <;> simp_all -implicitDefEqProofs (maxDischargeDepth := 12) [-ite_memory, ↓prod_flip3, prod_flip, Mem.wf_writeBytes, Mem.wf_clearRange, Mem.wf_copyRange, Mem.wf_discard, Mem.wf_empty]

@[simp] theorem State.checkWords_wf (s : State) (off : Nat) (n : Nat) (r : Requester) (x4 : List Nat) (x5 : List (Nat × ErrorPattern)) (x6 : Option Nat) (hwf : s.memory.cells.wf = true) :
    (State.checkWords s off n r x4 x5 x6).2.2.memory.cells.wf = true := by
  induction x4 generalizing s off n r x5 x6 <;> unfold State.checkWords <;> try dsimp only
  all_goals ((repeat' split) <;> simp_all -implicitDefEqProofs (maxDischargeDepth := 12) [-ite_memory, ↓prod_flip3, prod_flip, Mem.wf_writeBytes, Mem.wf_clearRange, Mem.wf_copyRange, Mem.wf_discard, Mem.wf_empty])

@[simp] theorem State.writeWord_wf (s : State) (off : Nat) (d : List Byte) (w : Nat) (left : ErrorPattern) (r : Requester) (hwf : s.memory.cells.wf = true) :
    (State.writeWord s off d w left r).memory.cells.wf = true := by
  unfold State.writeWord
  try dsimp only
  (repeat' split) <;> simp_all -implicitDefEqProofs (maxDischargeDepth := 12) [-ite_memory, ↓prod_flip3, prod_flip, Mem.wf_writeBytes, Mem.wf_clearRange, Mem.wf_copyRange, Mem.wf_discard, Mem.wf_empty]

@[simp] theorem State.storeWords_wf (s : State) (off : Nat) (d : List Byte) (r : Requester) (ws : List Nat) (hwf : s.memory.cells.wf = true) :
    (State.storeWords s off d r ws).2.memory.cells.wf = true := by
  unfold State.storeWords
  try dsimp only
  (repeat' split) <;> simp_all -implicitDefEqProofs (maxDischargeDepth := 12) [-ite_memory, ↓prod_flip3, prod_flip, Mem.wf_writeBytes, Mem.wf_clearRange, Mem.wf_copyRange, Mem.wf_discard, Mem.wf_empty]

@[simp] theorem State.storeRange_wf (s : State) (off : Nat) (d : List Byte) (r : Requester) (hwf : s.memory.cells.wf = true) :
    (State.storeRange s off d r).2.memory.cells.wf = true := by
  unfold State.storeRange
  try dsimp only
  (repeat' split) <;> simp_all -implicitDefEqProofs (maxDischargeDepth := 12) [-ite_memory, ↓prod_flip3, prod_flip, Mem.wf_writeBytes, Mem.wf_clearRange, Mem.wf_copyRange, Mem.wf_discard, Mem.wf_empty]

@[simp] theorem State.setPattern_wf (s : State) (w : Nat) (p : ErrorPattern) (hwf : s.memory.cells.wf = true) :
    (State.setPattern s w p).memory.cells.wf = true := by
  unfold State.setPattern
  try dsimp only
  (repeat' split) <;> simp_all -implicitDefEqProofs (maxDischargeDepth := 12) [-ite_memory, ↓prod_flip3, prod_flip, Mem.wf_writeBytes, Mem.wf_clearRange, Mem.wf_copyRange, Mem.wf_discard, Mem.wf_empty]

@[simp] theorem State.passWord_wf (s : State) (src : Nat) (dst : Nat) (w : Nat) (hwf : s.memory.cells.wf = true) :
    (State.passWord s src dst w).memory.cells.wf = true := by
  unfold State.passWord
  try dsimp only
  (repeat' split) <;> simp_all -implicitDefEqProofs (maxDischargeDepth := 12) [-ite_memory, ↓prod_flip3, prod_flip, Mem.wf_writeBytes, Mem.wf_clearRange, Mem.wf_copyRange, Mem.wf_discard, Mem.wf_empty]

@[simp] theorem State.dirtyRange_wf (s : State) (off : Nat) (n : Nat) (hwf : s.memory.cells.wf = true) :
    (State.dirtyRange s off n).memory.cells.wf = true := by
  unfold State.dirtyRange
  try dsimp only
  (repeat' split) <;> simp_all -implicitDefEqProofs (maxDischargeDepth := 12) [-ite_memory, ↓prod_flip3, prod_flip, Mem.wf_writeBytes, Mem.wf_clearRange, Mem.wf_copyRange, Mem.wf_discard, Mem.wf_empty]

@[simp] theorem State.moveStore_wf (s : State) (src : Nat) (dst : Nat) (n : Nat) (hwf : s.memory.cells.wf = true) :
    (State.moveStore s src dst n).memory.cells.wf = true := by
  unfold State.moveStore
  try dsimp only
  (repeat' split) <;> simp_all -implicitDefEqProofs (maxDischargeDepth := 12) [-ite_memory, ↓prod_flip3, prod_flip, Mem.wf_writeBytes, Mem.wf_clearRange, Mem.wf_copyRange, Mem.wf_discard, Mem.wf_empty]

@[simp] theorem State.addWord_wf (s : State) (off : Nat) (amount : Nat) (r : Requester) (hwf : s.memory.cells.wf = true) :
    (State.addWord s off amount r).2.memory.cells.wf = true := by
  unfold State.addWord
  try dsimp only
  (repeat' split) <;> simp_all -implicitDefEqProofs (maxDischargeDepth := 12) [-ite_memory, ↓prod_flip3, prod_flip, Mem.wf_writeBytes, Mem.wf_clearRange, Mem.wf_copyRange, Mem.wf_discard, Mem.wf_empty]

@[simp] theorem State.writeHeader_wf (s : State) (x : Nat) (imageState : Nat) (time : Nat) (hwf : s.memory.cells.wf = true) :
    (State.writeHeader s x imageState time).memory.cells.wf = true := by
  unfold State.writeHeader
  try dsimp only
  (repeat' split) <;> simp_all -implicitDefEqProofs (maxDischargeDepth := 12) [-ite_memory, ↓prod_flip3, prod_flip, Mem.wf_writeBytes, Mem.wf_clearRange, Mem.wf_copyRange, Mem.wf_discard, Mem.wf_empty]

@[simp] theorem State.plainAccess_wf (s : State) (op : Nat) (off : Nat) (len : Nat) (data : List Byte) (r : Requester) (hwf : s.memory.cells.wf = true) :
    (State.plainAccess s op off len data r).2.memory.cells.wf = true := by
  unfold State.plainAccess
  try dsimp only
  (repeat' split) <;> simp_all -implicitDefEqProofs (maxDischargeDepth := 12) [-ite_memory, ↓prod_flip3, prod_flip, Mem.wf_writeBytes, Mem.wf_clearRange, Mem.wf_copyRange, Mem.wf_discard, Mem.wf_empty]

@[simp] theorem State.holdRequest_wf (s : State) (t : Nat) (q : Req) (hwf : s.memory.cells.wf = true) :
    (State.holdRequest s t q).memory.cells.wf = true := by
  unfold State.holdRequest
  try dsimp only
  (repeat' split) <;> simp_all -implicitDefEqProofs (maxDischargeDepth := 12) [-ite_memory, ↓prod_flip3, prod_flip, Mem.wf_writeBytes, Mem.wf_clearRange, Mem.wf_copyRange, Mem.wf_discard, Mem.wf_empty]

@[simp] theorem State.clusterAccess_wf (s : State) (c : Nat) (q : Req) (r : Requester) (hwf : s.memory.cells.wf = true) :
    (State.clusterAccess s c q r).2.memory.cells.wf = true := by
  unfold State.clusterAccess
  try dsimp only
  (repeat' split) <;> simp_all -implicitDefEqProofs (maxDischargeDepth := 12) [-ite_memory, ↓prod_flip3, prod_flip, Mem.wf_writeBytes, Mem.wf_clearRange, Mem.wf_copyRange, Mem.wf_discard, Mem.wf_empty]

@[simp] theorem State.meshAccess_wf (s : State) (src : Nat) (c : Nat) (q : Req) (r : Requester) (hwf : s.memory.cells.wf = true) :
    (State.meshAccess s src c q r).2.memory.cells.wf = true := by
  unfold State.meshAccess
  try dsimp only
  (repeat' split) <;> simp_all -implicitDefEqProofs (maxDischargeDepth := 12) [-ite_memory, ↓prod_flip3, prod_flip, Mem.wf_writeBytes, Mem.wf_clearRange, Mem.wf_copyRange, Mem.wf_discard, Mem.wf_empty]

@[simp] theorem State.atomicAccess_wf (s : State) (q : Req) (r : Requester) (hwf : s.memory.cells.wf = true) :
    (State.atomicAccess s q r).2.memory.cells.wf = true := by
  unfold State.atomicAccess
  try dsimp only
  (repeat' split) <;> simp_all -implicitDefEqProofs (maxDischargeDepth := 12) [-ite_memory, ↓prod_flip3, prod_flip, Mem.wf_writeBytes, Mem.wf_clearRange, Mem.wf_copyRange, Mem.wf_discard, Mem.wf_empty]

@[simp] theorem State.performRequest_wf (s : State) (q : Req) (r : Requester) (hwf : s.memory.cells.wf = true) :
    (State.performRequest s q r).2.memory.cells.wf = true := by
  unfold State.performRequest
  try dsimp only
  (repeat' split) <;> simp_all -implicitDefEqProofs (maxDischargeDepth := 12) [-ite_memory, ↓prod_flip3, prod_flip, Mem.wf_writeBytes, Mem.wf_clearRange, Mem.wf_copyRange, Mem.wf_discard, Mem.wf_empty]

@[simp] theorem State.issueHere_wf (s : State) (t : Translated) (q : Req) (part : Part) (who : Requester) (hwf : s.memory.cells.wf = true) :
    (State.issueHere s t q part who).2.memory.cells.wf = true := by
  unfold State.issueHere
  try dsimp only
  (repeat' split) <;> simp_all -implicitDefEqProofs (maxDischargeDepth := 12) [-ite_memory, ↓prod_flip3, prod_flip, Mem.wf_writeBytes, Mem.wf_clearRange, Mem.wf_copyRange, Mem.wf_discard, Mem.wf_empty]

@[simp] theorem State.issueRequest_wf (s : State) (q : Req) (part : Part) (who : Requester) (hwf : s.memory.cells.wf = true) :
    (State.issueRequest s q part who).2.memory.cells.wf = true := by
  unfold State.issueRequest
  try dsimp only
  (repeat' split) <;> simp_all -implicitDefEqProofs (maxDischargeDepth := 12) [-ite_memory, ↓prod_flip3, prod_flip, Mem.wf_writeBytes, Mem.wf_clearRange, Mem.wf_copyRange, Mem.wf_discard, Mem.wf_empty]

@[simp] theorem State.increment_wf (s : State) (x : Nat) (c : Nat) (engine : Nat) (ref : BitVec 24) (amount : Nat) (hwf : s.memory.cells.wf = true) :
    (State.increment s x c engine ref amount).memory.cells.wf = true := by
  unfold State.increment
  try dsimp only
  (repeat' split) <;> simp_all -implicitDefEqProofs (maxDischargeDepth := 12) [-ite_memory, ↓prod_flip3, prod_flip, Mem.wf_writeBytes, Mem.wf_clearRange, Mem.wf_copyRange, Mem.wf_discard, Mem.wf_empty]

@[simp] theorem State.fetch_wf (s : State) (c : Nat) (a : Nat) (n : Nat) (r : Requester) (hwf : s.memory.cells.wf = true) :
    (State.fetch s c a n r).2.memory.cells.wf = true := by
  unfold State.fetch
  try dsimp only
  (repeat' split) <;> simp_all -implicitDefEqProofs (maxDischargeDepth := 12) [-ite_memory, ↓prod_flip3, prod_flip, Mem.wf_writeBytes, Mem.wf_clearRange, Mem.wf_copyRange, Mem.wf_discard, Mem.wf_empty]

@[simp] theorem State.stepData_wf (s : State) (c : Nat) (f : MmaFields) (k : Nat) (r : Requester) (hwf : s.memory.cells.wf = true) :
    (State.stepData s c f k r).2.memory.cells.wf = true := by
  unfold State.stepData
  try dsimp only
  (repeat' split) <;> simp_all -implicitDefEqProofs (maxDischargeDepth := 12) [-ite_memory, ↓prod_flip3, prod_flip, Mem.wf_writeBytes, Mem.wf_clearRange, Mem.wf_copyRange, Mem.wf_discard, Mem.wf_empty]

@[simp] theorem State.streamRows_wf (s : State) (c : Nat) (f : MmaFields) (r : Requester) (k : Nat) (lo : Nat) (hi : Nat) (hwf : s.memory.cells.wf = true) :
    (State.streamRows s c f r k lo hi).2.memory.cells.wf = true := by
  unfold State.streamRows
  try dsimp only
  (repeat' split) <;> simp_all -implicitDefEqProofs (maxDischargeDepth := 12) [-ite_memory, ↓prod_flip3, prod_flip, Mem.wf_writeBytes, Mem.wf_clearRange, Mem.wf_copyRange, Mem.wf_discard, Mem.wf_empty]

@[simp] theorem State.runSteps_wf (s : State) (c : Nat) (f : MmaFields) (r : Requester) (x4 : Nat) (x5 : Nat) (x6 : Nat) (hwf : s.memory.cells.wf = true) :
    (State.runSteps s c f r x4 x5 x6).2.2.memory.cells.wf = true := by
  induction x4 generalizing s c f r x5 x6 <;> unfold State.runSteps <;> try dsimp only
  all_goals ((repeat' split) <;> simp_all -implicitDefEqProofs (maxDischargeDepth := 12) [-ite_memory, ↓prod_flip3, prod_flip, Mem.wf_writeBytes, Mem.wf_clearRange, Mem.wf_copyRange, Mem.wf_discard, Mem.wf_empty])

@[simp] theorem State.writeElems_wf (s : State) (x : Nat) (c : Nat) (e : Engine) (o : QueuedOp) (fmt : Nat) (dest : Nat) (cs : List Conversion) (hwf : s.memory.cells.wf = true) :
    (State.writeElems s x c e o fmt dest cs).2.memory.cells.wf = true := by
  unfold State.writeElems
  try dsimp only
  (repeat' split) <;> simp_all -implicitDefEqProofs (maxDischargeDepth := 12) [-ite_memory, ↓prod_flip3, prod_flip, Mem.wf_writeBytes, Mem.wf_clearRange, Mem.wf_copyRange, Mem.wf_discard, Mem.wf_empty]

@[simp] theorem State.veLanes_wf (s : State) (c : Nat) (fmt : Nat) (n : Nat) (o : VeOperand) (r : Requester) (hwf : s.memory.cells.wf = true) :
    (State.veLanes s c fmt n o r).2.memory.cells.wf = true := by
  unfold State.veLanes
  try dsimp only
  (repeat' split) <;> simp_all -implicitDefEqProofs (maxDischargeDepth := 12) [-ite_memory, ↓prod_flip3, prod_flip, Mem.wf_writeBytes, Mem.wf_clearRange, Mem.wf_copyRange, Mem.wf_discard, Mem.wf_empty]

@[simp] theorem State.engineLoad_wf (s : State) (x : Nat) (c : Nat) (e : Engine) (addr : Nat) (n : Nat) (p : Purpose) (hwf : s.memory.cells.wf = true) :
    (State.engineLoad s x c e addr n p).2.memory.cells.wf = true := by
  unfold State.engineLoad
  try dsimp only
  (repeat' split) <;> simp_all -implicitDefEqProofs (maxDischargeDepth := 12) [-ite_memory, ↓prod_flip3, prod_flip, Mem.wf_writeBytes, Mem.wf_clearRange, Mem.wf_copyRange, Mem.wf_discard, Mem.wf_empty]

@[simp] theorem State.engineStore_wf (s : State) (x : Nat) (c : Nat) (e : Engine) (op : Nat) (addr : Nat) (d : List Byte) (p : Purpose) (ref : BitVec 24) (amt : Nat) (hwf : s.memory.cells.wf = true) :
    (State.engineStore s x c e op addr d p ref amt).2.memory.cells.wf = true := by
  unfold State.engineStore
  try dsimp only
  (repeat' split) <;> simp_all -implicitDefEqProofs (maxDischargeDepth := 12) [-ite_memory, ↓prod_flip3, prod_flip, Mem.wf_writeBytes, Mem.wf_clearRange, Mem.wf_copyRange, Mem.wf_discard, Mem.wf_empty]

@[simp] theorem State.storePieces_wf (s : State) (x : Nat) (c : Nat) (e : Engine) (n : Nat) (x5 : List (Nat × List Byte)) (hwf : s.memory.cells.wf = true) :
    (State.storePieces s x c e n x5).2.memory.cells.wf = true := by
  induction x5 generalizing s x c e n <;> unfold State.storePieces <;> try dsimp only
  all_goals ((repeat' split) <;> simp_all -implicitDefEqProofs (maxDischargeDepth := 12) [-ite_memory, ↓prod_flip3, prod_flip, Mem.wf_writeBytes, Mem.wf_clearRange, Mem.wf_copyRange, Mem.wf_discard, Mem.wf_empty])

@[simp] theorem State.scatterAtomics_wf (s : State) (x : Nat) (c : Nat) (n : Nat) (op : Nat) (x5 : List (Nat × Bool × BitVec 4 × List Byte)) (hwf : s.memory.cells.wf = true) :
    (State.scatterAtomics s x c n op x5).2.memory.cells.wf = true := by
  induction x5 generalizing s x c n op <;> unfold State.scatterAtomics <;> try dsimp only
  all_goals ((repeat' split) <;> simp_all -implicitDefEqProofs (maxDischargeDepth := 12) [-ite_memory, ↓prod_flip3, prod_flip, Mem.wf_writeBytes, Mem.wf_clearRange, Mem.wf_copyRange, Mem.wf_discard, Mem.wf_empty])

@[simp] theorem State.geIndex_wf (s : State) (x : Nat) (c : Nat) (n : Nat) (op : GeOp) (i : Nat) (hwf : s.memory.cells.wf = true) :
    (State.geIndex s x c n op i).2.memory.cells.wf = true := by
  unfold State.geIndex
  try dsimp only
  (repeat' split) <;> simp_all -implicitDefEqProofs (maxDischargeDepth := 12) [-ite_memory, ↓prod_flip3, prod_flip, Mem.wf_writeBytes, Mem.wf_clearRange, Mem.wf_copyRange, Mem.wf_discard, Mem.wf_empty]

@[simp] theorem State.geIndices_wf (s : State) (x : Nat) (c : Nat) (n : Nat) (op : GeOp) (x5 : Nat) (x6 : Nat) (hwf : s.memory.cells.wf = true) :
    (State.geIndices s x c n op x5 x6).2.2.memory.cells.wf = true := by
  induction x5 generalizing s x c n op x6 <;> unfold State.geIndices <;> try dsimp only
  all_goals ((repeat' split) <;> simp_all -implicitDefEqProofs (maxDischargeDepth := 12) [-ite_memory, ↓prod_flip3, prod_flip, Mem.wf_writeBytes, Mem.wf_clearRange, Mem.wf_copyRange, Mem.wf_discard, Mem.wf_empty])

@[simp] theorem State.copyOut_wf (s : State) (x : Nat) (c : Nat) (m : RunningOp) (op : CeOp) (p : Nat) (d : List Byte) (hwf : s.memory.cells.wf = true) :
    (State.copyOut s x c m op p d).2.memory.cells.wf = true := by
  unfold State.copyOut
  try dsimp only
  (repeat' split) <;> simp_all -implicitDefEqProofs (maxDischargeDepth := 12) [-ite_memory, ↓prod_flip3, prod_flip, Mem.wf_writeBytes, Mem.wf_clearRange, Mem.wf_copyRange, Mem.wf_discard, Mem.wf_empty]

@[simp] theorem State.bundleEnds_wf (s : State) (tt : Nat) (h : List Byte) (r : Requester) (x4 : List Nat) (hwf : s.memory.cells.wf = true) :
    (State.bundleEnds s tt h r x4).2.memory.cells.wf = true := by
  induction x4 generalizing s tt h r <;> unfold State.bundleEnds <;> try dsimp only
  all_goals ((repeat' split) <;> simp_all -implicitDefEqProofs (maxDischargeDepth := 12) [-ite_memory, ↓prod_flip3, prod_flip, Mem.wf_writeBytes, Mem.wf_clearRange, Mem.wf_copyRange, Mem.wf_discard, Mem.wf_empty])

@[simp] theorem State.tableBytes_wf (s : State) (x : Nat) (c : Nat) (a : Nat) (n : Nat) (hwf : s.memory.cells.wf = true) :
    (State.tableBytes s x c a n).2.memory.cells.wf = true := by
  unfold State.tableBytes
  try dsimp only
  (repeat' split) <;> simp_all -implicitDefEqProofs (maxDischargeDepth := 12) [-ite_memory, ↓prod_flip3, prod_flip, Mem.wf_writeBytes, Mem.wf_clearRange, Mem.wf_copyRange, Mem.wf_discard, Mem.wf_empty]

@[simp] theorem State.applyIncs_wf (s : State) (x : Nat) (c : Nat) (d : BitVec 512) (hwf : s.memory.cells.wf = true) :
    (State.applyIncs s x c d).memory.cells.wf = true := by
  unfold State.applyIncs
  try dsimp only
  (repeat' split) <;> simp_all -implicitDefEqProofs (maxDischargeDepth := 12) [-ite_memory, ↓prod_flip3, prod_flip, Mem.wf_writeBytes, Mem.wf_clearRange, Mem.wf_copyRange, Mem.wf_discard, Mem.wf_empty]

@[simp] theorem State.releaseOwn_wf (s : State) (x : Nat) (c : Nat) (n : Nat) (hwf : s.memory.cells.wf = true) :
    (State.releaseOwn s x c n).memory.cells.wf = true := by
  unfold State.releaseOwn
  try dsimp only
  (repeat' split) <;> simp_all -implicitDefEqProofs (maxDischargeDepth := 12) [-ite_memory, ↓prod_flip3, prod_flip, Mem.wf_writeBytes, Mem.wf_clearRange, Mem.wf_copyRange, Mem.wf_discard, Mem.wf_empty]

@[simp] theorem State.failPart_wf (s : State) (p : Part) (code : Nat) (hwf : s.memory.cells.wf = true) :
    (State.failPart s p code).memory.cells.wf = true := by
  unfold State.failPart
  try dsimp only
  (repeat' split) <;> simp_all -implicitDefEqProofs (maxDischargeDepth := 12) [-ite_memory, ↓prod_flip3, prod_flip, Mem.wf_writeBytes, Mem.wf_clearRange, Mem.wf_copyRange, Mem.wf_discard, Mem.wf_empty]

@[simp] theorem State.deliverLocal_wf (s : State) (p : Part) (a : Nat) (d : List Byte) (hwf : s.memory.cells.wf = true) :
    (State.deliverLocal s p a d).memory.cells.wf = true := by
  unfold State.deliverLocal
  try dsimp only
  (repeat' split) <;> simp_all -implicitDefEqProofs (maxDischargeDepth := 12) [-ite_memory, ↓prod_flip3, prod_flip, Mem.wf_writeBytes, Mem.wf_clearRange, Mem.wf_copyRange, Mem.wf_discard, Mem.wf_empty]

@[simp] theorem State.completePart_wf (s : State) (p : Part) (a : Answer) (hwf : s.memory.cells.wf = true) :
    (State.completePart s p a).memory.cells.wf = true := by
  unfold State.completePart
  try dsimp only
  (repeat' split) <;> simp_all -implicitDefEqProofs (maxDischargeDepth := 12) [-ite_memory, ↓prod_flip3, prod_flip, Mem.wf_writeBytes, Mem.wf_clearRange, Mem.wf_copyRange, Mem.wf_discard, Mem.wf_empty]

@[simp] theorem State.finishOutstanding_wf (s : State) (o : Outstanding) (a : Answer) (hwf : s.memory.cells.wf = true) :
    (State.finishOutstanding s o a).memory.cells.wf = true := by
  unfold State.finishOutstanding
  try dsimp only
  (repeat' split) <;> simp_all -implicitDefEqProofs (maxDischargeDepth := 12) [-ite_memory, ↓prod_flip3, prod_flip, Mem.wf_writeBytes, Mem.wf_clearRange, Mem.wf_copyRange, Mem.wf_discard, Mem.wf_empty]

@[simp] theorem State.answerOrigin_wf (s : State) (q : Req) (a : Answer) (hwf : s.memory.cells.wf = true) :
    (State.answerOrigin s q a).memory.cells.wf = true := by
  unfold State.answerOrigin
  try dsimp only
  (repeat' split) <;> simp_all -implicitDefEqProofs (maxDischargeDepth := 12) [-ite_memory, ↓prod_flip3, prod_flip, Mem.wf_writeBytes, Mem.wf_clearRange, Mem.wf_copyRange, Mem.wf_discard, Mem.wf_empty]

@[simp] theorem State.packetIncrement_wf (s : State) (q : Req) (hwf : s.memory.cells.wf = true) :
    (State.packetIncrement s q).2.memory.cells.wf = true := by
  unfold State.packetIncrement
  try dsimp only
  (repeat' split) <;> simp_all -implicitDefEqProofs (maxDischargeDepth := 12) [-ite_memory, ↓prod_flip3, prod_flip, Mem.wf_writeBytes, Mem.wf_clearRange, Mem.wf_copyRange, Mem.wf_discard, Mem.wf_empty]

@[simp] theorem State.packetFault_wf (s : State) (q : Req) (code : Nat) (hwf : s.memory.cells.wf = true) :
    (State.packetFault s q code).memory.cells.wf = true := by
  unfold State.packetFault
  try dsimp only
  (repeat' split) <;> simp_all -implicitDefEqProofs (maxDischargeDepth := 12) [-ite_memory, ↓prod_flip3, prod_flip, Mem.wf_writeBytes, Mem.wf_clearRange, Mem.wf_copyRange, Mem.wf_discard, Mem.wf_empty]

@[simp] theorem State.performWrite_wf (s : State) (q : Req) (r : Requester) (hwf : s.memory.cells.wf = true) :
    (State.performWrite s q r).2.memory.cells.wf = true := by
  unfold State.performWrite
  try dsimp only
  (repeat' split) <;> simp_all -implicitDefEqProofs (maxDischargeDepth := 12) [-ite_memory, ↓prod_flip3, prod_flip, Mem.wf_writeBytes, Mem.wf_clearRange, Mem.wf_copyRange, Mem.wf_discard, Mem.wf_empty]

@[simp] theorem State.settleWrite_wf (s : State) (q : Req) (a : Answer) (hwf : s.memory.cells.wf = true) :
    (State.settleWrite s q a).memory.cells.wf = true := by
  unfold State.settleWrite
  try dsimp only
  (repeat' split) <;> simp_all -implicitDefEqProofs (maxDischargeDepth := 12) [-ite_memory, ↓prod_flip3, prod_flip, Mem.wf_writeBytes, Mem.wf_clearRange, Mem.wf_copyRange, Mem.wf_discard, Mem.wf_empty]

@[simp] theorem State.applyHeld_wf (s : State) (x1 : List Req) (hwf : s.memory.cells.wf = true) :
    (State.applyHeld s x1).memory.cells.wf = true := by
  induction x1 generalizing s <;> unfold State.applyHeld <;> try dsimp only
  all_goals ((repeat' split) <;> simp_all -implicitDefEqProofs (maxDischargeDepth := 12) [-ite_memory, ↓prod_flip3, prod_flip, Mem.wf_writeBytes, Mem.wf_clearRange, Mem.wf_copyRange, Mem.wf_discard, Mem.wf_empty])

@[simp] theorem State.openCrossing_wf (s : State) (z : Nat) (hwf : s.memory.cells.wf = true) :
    (State.openCrossing s z).memory.cells.wf = true := by
  unfold State.openCrossing
  try dsimp only
  (repeat' split) <;> simp_all -implicitDefEqProofs (maxDischargeDepth := 12) [-ite_memory, ↓prod_flip3, prod_flip, Mem.wf_writeBytes, Mem.wf_clearRange, Mem.wf_copyRange, Mem.wf_discard, Mem.wf_empty]

@[simp] theorem State.zeroCluster_wf (s : State) (c : Nat) (hwf : s.memory.cells.wf = true) :
    (State.zeroCluster s c).memory.cells.wf = true := by
  unfold State.zeroCluster
  try dsimp only
  (repeat' split) <;> simp_all -implicitDefEqProofs (maxDischargeDepth := 12) [-ite_memory, ↓prod_flip3, prod_flip, Mem.wf_writeBytes, Mem.wf_clearRange, Mem.wf_copyRange, Mem.wf_discard, Mem.wf_empty]

@[simp] theorem State.resumeAction_wf (s : State) (x : Nat) (hwf : s.memory.cells.wf = true) :
    (State.resumeAction s x).memory.cells.wf = true := by
  unfold State.resumeAction State.action
  try dsimp only
  (repeat' split) <;> simp_all -implicitDefEqProofs (maxDischargeDepth := 12) [-ite_memory, ↓prod_flip3, prod_flip, Mem.wf_writeBytes, Mem.wf_clearRange, Mem.wf_copyRange, Mem.wf_discard, Mem.wf_empty]

@[simp] theorem State.detachAction_wf (s : State) (x : Nat) (hwf : s.memory.cells.wf = true) :
    (State.detachAction s x).memory.cells.wf = true := by
  unfold State.detachAction State.action
  try dsimp only
  (repeat' split) <;> simp_all -implicitDefEqProofs (maxDischargeDepth := 12) [-ite_memory, ↓prod_flip3, prod_flip, Mem.wf_writeBytes, Mem.wf_clearRange, Mem.wf_copyRange, Mem.wf_discard, Mem.wf_empty]

@[simp] theorem State.attachAction_wf (s : State) (x : Nat) (hwf : s.memory.cells.wf = true) :
    (State.attachAction s x).memory.cells.wf = true := by
  unfold State.attachAction State.action
  try dsimp only
  (repeat' split) <;> simp_all -implicitDefEqProofs (maxDischargeDepth := 12) [-ite_memory, ↓prod_flip3, prod_flip, Mem.wf_writeBytes, Mem.wf_clearRange, Mem.wf_copyRange, Mem.wf_discard, Mem.wf_empty]

@[simp] theorem State.initialise_wf (s : State) (x : Nat) (c : Nat) (hwf : s.memory.cells.wf = true) :
    (State.initialise s x c).memory.cells.wf = true := by
  unfold State.initialise
  try dsimp only
  (repeat' split) <;> simp_all -implicitDefEqProofs (maxDischargeDepth := 12) [-ite_memory, ↓prod_flip3, prod_flip, Mem.wf_writeBytes, Mem.wf_clearRange, Mem.wf_copyRange, Mem.wf_discard, Mem.wf_empty]

@[simp] theorem State.readBack_wf (s : State) (x : Nat) (c : Nat) (hwf : s.memory.cells.wf = true) :
    (State.readBack s x c).memory.cells.wf = true := by
  unfold State.readBack
  try dsimp only
  (repeat' split) <;> simp_all -implicitDefEqProofs (maxDischargeDepth := 12) [-ite_memory, ↓prod_flip3, prod_flip, Mem.wf_writeBytes, Mem.wf_clearRange, Mem.wf_copyRange, Mem.wf_discard, Mem.wf_empty]

@[simp] theorem State.bind_wf (s : State) (x : Nat) (hwf : s.memory.cells.wf = true) :
    (State.bind s x).memory.cells.wf = true := by
  unfold State.bind
  try dsimp only
  (repeat' split) <;> simp_all -implicitDefEqProofs (maxDischargeDepth := 12) [-ite_memory, ↓prod_flip3, prod_flip, Mem.wf_writeBytes, Mem.wf_clearRange, Mem.wf_copyRange, Mem.wf_discard, Mem.wf_empty]

@[simp] theorem State.bindAll_wf (s : State) (x1 : List Nat) (hwf : s.memory.cells.wf = true) :
    (State.bindAll s x1).memory.cells.wf = true := by
  induction x1 generalizing s <;> unfold State.bindAll <;> try dsimp only
  all_goals ((repeat' split) <;> simp_all -implicitDefEqProofs (maxDischargeDepth := 12) [-ite_memory, ↓prod_flip3, prod_flip, Mem.wf_writeBytes, Mem.wf_clearRange, Mem.wf_copyRange, Mem.wf_discard, Mem.wf_empty])

@[simp] theorem State.writeImage_wf (s : State) (x : Nat) (c : Nat) (hwf : s.memory.cells.wf = true) :
    (State.writeImage s x c).memory.cells.wf = true := by
  unfold State.writeImage
  try dsimp only
  (repeat' split) <;> simp_all -implicitDefEqProofs (maxDischargeDepth := 12) [-ite_memory, ↓prod_flip3, prod_flip, Mem.wf_writeBytes, Mem.wf_clearRange, Mem.wf_copyRange, Mem.wf_discard, Mem.wf_empty]

@[simp] theorem State.takeHeld_wf (s : State) (x : Nat) (hwf : s.memory.cells.wf = true) :
    (State.takeHeld s x).2.memory.cells.wf = true := by
  unfold State.takeHeld
  try dsimp only
  (repeat' split) <;> simp_all -implicitDefEqProofs (maxDischargeDepth := 12) [-ite_memory, ↓prod_flip3, prod_flip, Mem.wf_writeBytes, Mem.wf_clearRange, Mem.wf_copyRange, Mem.wf_discard, Mem.wf_empty]

@[simp] theorem State.applyHeldFor_wf (s : State) (x : Nat) (hwf : s.memory.cells.wf = true) :
    (State.applyHeldFor s x).memory.cells.wf = true := by
  unfold State.applyHeldFor
  try dsimp only
  (repeat' split) <;> simp_all -implicitDefEqProofs (maxDischargeDepth := 12) [-ite_memory, ↓prod_flip3, prod_flip, Mem.wf_writeBytes, Mem.wf_clearRange, Mem.wf_copyRange, Mem.wf_discard, Mem.wf_empty]

@[simp] theorem State.absorb_wf (s : State) (p : Packet) (hwf : s.memory.cells.wf = true) :
    (State.absorb s p).memory.cells.wf = true := by
  unfold State.absorb
  try dsimp only
  (repeat' split) <;> simp_all -implicitDefEqProofs (maxDischargeDepth := 12) [-ite_memory, ↓prod_flip3, prod_flip, Mem.wf_writeBytes, Mem.wf_clearRange, Mem.wf_copyRange, Mem.wf_discard, Mem.wf_empty]

@[simp] theorem State.deliver_wf (s : State) (p : Packet) (hwf : s.memory.cells.wf = true) :
    (State.deliver s p).memory.cells.wf = true := by
  unfold State.deliver
  try dsimp only
  (repeat' split) <;> simp_all -implicitDefEqProofs (maxDischargeDepth := 12) [-ite_memory, ↓prod_flip3, prod_flip, Mem.wf_writeBytes, Mem.wf_clearRange, Mem.wf_copyRange, Mem.wf_discard, Mem.wf_empty]

@[simp] theorem State.applyWrite_wf (s : State) (site : Nat) (p : Packet) (q : Req) (hwf : s.memory.cells.wf = true) :
    (State.applyWrite s site p q).memory.cells.wf = true := by
  unfold State.applyWrite
  try dsimp only
  (repeat' split) <;> simp_all -implicitDefEqProofs (maxDischargeDepth := 12) [-ite_memory, ↓prod_flip3, prod_flip, Mem.wf_writeBytes, Mem.wf_clearRange, Mem.wf_copyRange, Mem.wf_discard, Mem.wf_empty]

@[simp] theorem State.writeHere_wf (s : State) (q : Req) (r : Requester) (hwf : s.memory.cells.wf = true) :
    (State.writeHere s q r).memory.cells.wf = true := by
  unfold State.writeHere
  try dsimp only
  (repeat' split) <;> simp_all -implicitDefEqProofs (maxDischargeDepth := 12) [-ite_memory, ↓prod_flip3, prod_flip, Mem.wf_writeBytes, Mem.wf_clearRange, Mem.wf_copyRange, Mem.wf_discard, Mem.wf_empty]

@[simp] theorem State.multicastHere_wf (s : State) (x : Nat) (c : Nat) (packet : Packet) (l : List McTarget) (hwf : s.memory.cells.wf = true) :
    (State.multicastHere s x c packet l).memory.cells.wf = true := by
  unfold State.multicastHere
  try dsimp only
  (repeat' split) <;> simp_all -implicitDefEqProofs (maxDischargeDepth := 12) [-ite_memory, ↓prod_flip3, prod_flip, Mem.wf_writeBytes, Mem.wf_clearRange, Mem.wf_copyRange, Mem.wf_discard, Mem.wf_empty]

@[simp] theorem State.issueMulticast_wf (s : State) (x : Nat) (c : Nat) (q : Req) (hwf : s.memory.cells.wf = true) :
    (State.issueMulticast s x c q).2.memory.cells.wf = true := by
  unfold State.issueMulticast
  try dsimp only
  (repeat' split) <;> simp_all -implicitDefEqProofs (maxDischargeDepth := 12) [-ite_memory, ↓prod_flip3, prod_flip, Mem.wf_writeBytes, Mem.wf_clearRange, Mem.wf_copyRange, Mem.wf_discard, Mem.wf_empty]

@[simp] theorem State.joinHomeLoad_wf (s : State) (q : Req) (h : HomeLoad) (hwf : s.memory.cells.wf = true) :
    (State.joinHomeLoad s q h).memory.cells.wf = true := by
  unfold State.joinHomeLoad
  try dsimp only
  (repeat' split) <;> simp_all -implicitDefEqProofs (maxDischargeDepth := 12) [-ite_memory, ↓prod_flip3, prod_flip, Mem.wf_writeBytes, Mem.wf_clearRange, Mem.wf_copyRange, Mem.wf_discard, Mem.wf_empty]

@[simp] theorem State.loadArrives_wf (s : State) (p : Nat) (q : Req) (hwf : s.memory.cells.wf = true) :
    (State.loadArrives s p q).memory.cells.wf = true := by
  unfold State.loadArrives
  try dsimp only
  (repeat' split) <;> simp_all -implicitDefEqProofs (maxDischargeDepth := 12) [-ite_memory, ↓prod_flip3, prod_flip, Mem.wf_writeBytes, Mem.wf_clearRange, Mem.wf_copyRange, Mem.wf_discard, Mem.wf_empty]

@[simp] theorem State.finishHome_wf (s : State) (q : Req) (a : Answer) (hwf : s.memory.cells.wf = true) :
    (State.finishHome s q a).memory.cells.wf = true := by
  unfold State.finishHome
  try dsimp only
  (repeat' split) <;> simp_all -implicitDefEqProofs (maxDischargeDepth := 12) [-ite_memory, ↓prod_flip3, prod_flip, Mem.wf_writeBytes, Mem.wf_clearRange, Mem.wf_copyRange, Mem.wf_discard, Mem.wf_empty]

@[simp] theorem State.performOne_wf (s : State) (q : Req) (hwf : s.memory.cells.wf = true) :
    (State.performOne s q).2.memory.cells.wf = true := by
  unfold State.performOne
  try dsimp only
  (repeat' split) <;> simp_all -implicitDefEqProofs (maxDischargeDepth := 12) [-ite_memory, ↓prod_flip3, prod_flip, Mem.wf_writeBytes, Mem.wf_clearRange, Mem.wf_copyRange, Mem.wf_discard, Mem.wf_empty]

@[simp] theorem State.performReady_wf (s : State) (position : Nat) (op : Nat) (hwf : s.memory.cells.wf = true) :
    (State.performReady s position op).memory.cells.wf = true := by
  unfold State.performReady
  try dsimp only
  (repeat' split) <;> simp_all -implicitDefEqProofs (maxDischargeDepth := 12) [-ite_memory, ↓prod_flip3, prod_flip, Mem.wf_writeBytes, Mem.wf_clearRange, Mem.wf_copyRange, Mem.wf_discard, Mem.wf_empty]

@[simp] theorem storeRun_wf (line : Nat) (r : Answer × State) (run : Nat × List Byte) (hwf : r.2.memory.cells.wf = true) :
    (storeRun line r run).2.memory.cells.wf = true := by
  unfold storeRun
  try dsimp only
  (repeat' split) <;> simp_all -implicitDefEqProofs (maxDischargeDepth := 12) [-ite_memory, ↓prod_flip3, prod_flip, Mem.wf_writeBytes, Mem.wf_clearRange, Mem.wf_copyRange, Mem.wf_discard, Mem.wf_empty]

@[simp] theorem State.storeMerged_wf (s : State) (line : Nat) (parts : List Req) (hwf : s.memory.cells.wf = true) :
    (State.storeMerged s line parts).2.memory.cells.wf = true := by
  unfold State.storeMerged
  try dsimp only
  (repeat' split) <;> simp_all -implicitDefEqProofs (maxDischargeDepth := 12) [-ite_memory, ↓prod_flip3, prod_flip, Mem.wf_writeBytes, Mem.wf_clearRange, Mem.wf_copyRange, Mem.wf_discard, Mem.wf_empty]

@[simp] theorem State.applyEntry_wf (s : State) (line : Nat) (parts : List Req) (hwf : s.memory.cells.wf = true) :
    (State.applyEntry s line parts).2.memory.cells.wf = true := by
  unfold State.applyEntry
  try dsimp only
  (repeat' split) <;> simp_all -implicitDefEqProofs (maxDischargeDepth := 12) [-ite_memory, ↓prod_flip3, prod_flip, Mem.wf_writeBytes, Mem.wf_clearRange, Mem.wf_copyRange, Mem.wf_discard, Mem.wf_empty]

@[simp] theorem State.respond_wf (s : State) (port : Nat) (rsp : Rsp) (fits : Req → Bool) (a : Answer) (hwf : s.memory.cells.wf = true) :
    (State.respond s port rsp fits a).memory.cells.wf = true := by
  unfold State.respond
  try dsimp only
  (repeat' split) <;> simp_all -implicitDefEqProofs (maxDischargeDepth := 12) [-ite_memory, ↓prod_flip3, prod_flip, Mem.wf_writeBytes, Mem.wf_clearRange, Mem.wf_copyRange, Mem.wf_discard, Mem.wf_empty]

@[simp] theorem State.writeArea_wf (s : State) (off : Nat) (b : List Byte) (hwf : s.memory.cells.wf = true) :
    (State.writeArea s off b).memory.cells.wf = true := by
  unfold State.writeArea
  try dsimp only
  (repeat' split) <;> simp_all -implicitDefEqProofs (maxDischargeDepth := 12) [-ite_memory, ↓prod_flip3, prod_flip, Mem.wf_writeBytes, Mem.wf_clearRange, Mem.wf_copyRange, Mem.wf_discard, Mem.wf_empty]

@[simp] theorem State.countDrop_wf (s : State) (b : Nat) (stamp : Nat) (hwf : s.memory.cells.wf = true) :
    (State.countDrop s b stamp).memory.cells.wf = true := by
  unfold State.countDrop
  try dsimp only
  (repeat' split) <;> simp_all -implicitDefEqProofs (maxDischargeDepth := 12) [-ite_memory, ↓prod_flip3, prod_flip, Mem.wf_writeBytes, Mem.wf_clearRange, Mem.wf_copyRange, Mem.wf_discard, Mem.wf_empty]

@[simp] theorem State.deliverTo_wf (s : State) (n : Nat) (t : Nat) (i : Inbox) (m : Message) (hwf : s.memory.cells.wf = true) :
    (State.deliverTo s n t i m).2.memory.cells.wf = true := by
  unfold State.deliverTo
  try dsimp only
  (repeat' split) <;> simp_all -implicitDefEqProofs (maxDischargeDepth := 12) [-ite_memory, ↓prod_flip3, prod_flip, Mem.wf_writeBytes, Mem.wf_clearRange, Mem.wf_copyRange, Mem.wf_discard, Mem.wf_empty]

@[simp] theorem State.inboxCommitOp_wf (s : State) (value : Nat) (hwf : s.memory.cells.wf = true) :
    (State.inboxCommitOp s value).2.memory.cells.wf = true := by
  unfold State.inboxCommitOp
  try dsimp only
  (repeat' split) <;> simp_all -implicitDefEqProofs (maxDischargeDepth := 12) [-ite_memory, ↓prod_flip3, prod_flip, Mem.wf_writeBytes, Mem.wf_clearRange, Mem.wf_copyRange, Mem.wf_discard, Mem.wf_empty]

@[simp] theorem State.rigLoss_wf (s : State) (_ : s.memory.cells.wf = true) :
    (State.rigLoss s).memory.cells.wf = true := by
  unfold State.rigLoss
  try dsimp only
  (repeat' split) <;> simp_all -implicitDefEqProofs (maxDischargeDepth := 12) [-ite_memory, ↓prod_flip3, prod_flip, Mem.wf_writeBytes, Mem.wf_clearRange, Mem.wf_copyRange, Mem.wf_discard, Mem.wf_empty]

@[simp] theorem State.disturb_wf (s : State) (w : Nat) (p : ErrorPattern) (hwf : s.memory.cells.wf = true) :
    (State.disturb s w p).memory.cells.wf = true := by
  unfold State.disturb
  try dsimp only
  (repeat' split) <;> simp_all -implicitDefEqProofs (maxDischargeDepth := 12) [-ite_memory, ↓prod_flip3, prod_flip, Mem.wf_writeBytes, Mem.wf_clearRange, Mem.wf_copyRange, Mem.wf_discard, Mem.wf_empty]

@[simp] theorem State.markLine_wf (s : State) (t : Nat) (l : Nat) (hwf : s.memory.cells.wf = true) :
    (State.markLine s t l).memory.cells.wf = true := by
  unfold State.markLine
  try dsimp only
  (repeat' split) <;> simp_all -implicitDefEqProofs (maxDischargeDepth := 12) [-ite_memory, ↓prod_flip3, prod_flip, Mem.wf_writeBytes, Mem.wf_clearRange, Mem.wf_copyRange, Mem.wf_discard, Mem.wf_empty]

@[simp] theorem State.tagsLost_wf (s : State) (t : Nat) (h : Nat) (j : Nat) (p : ErrorPattern) (hwf : s.memory.cells.wf = true) :
    (State.tagsLost s t h j p).memory.cells.wf = true := by
  unfold State.tagsLost
  try dsimp only
  (repeat' split) <;> simp_all -implicitDefEqProofs (maxDischargeDepth := 12) [-ite_memory, ↓prod_flip3, prod_flip, Mem.wf_writeBytes, Mem.wf_clearRange, Mem.wf_copyRange, Mem.wf_discard, Mem.wf_empty]

@[simp] theorem State.badTags_wf (s : State) (a : Access) (hwf : s.memory.cells.wf = true) :
    (State.badTags s a).memory.cells.wf = true := by
  unfold State.badTags
  try dsimp only
  (repeat' split) <;> simp_all -implicitDefEqProofs (maxDischargeDepth := 12) [-ite_memory, ↓prod_flip3, prod_flip, Mem.wf_writeBytes, Mem.wf_clearRange, Mem.wf_copyRange, Mem.wf_discard, Mem.wf_empty]

@[simp] theorem State.performAccess_wf (s : State) (a : Access) (hwf : s.memory.cells.wf = true) :
    (State.performAccess s a).memory.cells.wf = true := by
  unfold State.performAccess
  try dsimp only
  (repeat' split) <;> simp_all -implicitDefEqProofs (maxDischargeDepth := 12) [-ite_memory, ↓prod_flip3, prod_flip, Mem.wf_writeBytes, Mem.wf_clearRange, Mem.wf_copyRange, Mem.wf_discard, Mem.wf_empty]

@[simp] theorem State.writeStoredBack_wf (s : State) (word : Nat) (hwf : s.memory.cells.wf = true) :
    (State.writeStoredBack s word).memory.cells.wf = true := by
  unfold State.writeStoredBack
  try dsimp only
  (repeat' split) <;> simp_all -implicitDefEqProofs (maxDischargeDepth := 12) [-ite_memory, ↓prod_flip3, prod_flip, Mem.wf_writeBytes, Mem.wf_clearRange, Mem.wf_copyRange, Mem.wf_discard, Mem.wf_empty]

@[simp] theorem State.writeResidentBack_wf (s : State) (word : Nat) (hwf : s.memory.cells.wf = true) :
    (State.writeResidentBack s word).memory.cells.wf = true := by
  unfold State.writeResidentBack
  try dsimp only
  (repeat' split) <;> simp_all -implicitDefEqProofs (maxDischargeDepth := 12) [-ite_memory, ↓prod_flip3, prod_flip, Mem.wf_writeBytes, Mem.wf_clearRange, Mem.wf_copyRange, Mem.wf_discard, Mem.wf_empty]

@[simp] theorem State.scrubResident_wf (s : State) (t : Nat) (l : Nat) (w : Nat) (hwf : s.memory.cells.wf = true) :
    (State.scrubResident s t l w).memory.cells.wf = true := by
  unfold State.scrubResident State.scrubWord
  try dsimp only
  (repeat' split) <;> simp_all -implicitDefEqProofs (maxDischargeDepth := 12) [-ite_memory, ↓prod_flip3, prod_flip, Mem.wf_writeBytes, Mem.wf_clearRange, Mem.wf_copyRange, Mem.wf_discard, Mem.wf_empty]

@[simp] theorem State.memoryCommit_wf (s : State) (value : Nat) (hwf : s.memory.cells.wf = true) :
    (State.memoryCommit s value).2.memory.cells.wf = true := by
  unfold State.memoryCommit
  try dsimp only
  (repeat' split) <;> simp_all -implicitDefEqProofs (maxDischargeDepth := 12) [-ite_memory, ↓prod_flip3, prod_flip, Mem.wf_writeBytes, Mem.wf_clearRange, Mem.wf_copyRange, Mem.wf_discard, Mem.wf_empty]

@[simp] theorem State.writeBackWay_wf (s : State) (t : Nat) (w : Option (Nat × Bool)) (hwf : s.memory.cells.wf = true) :
    (State.writeBackWay s t w).memory.cells.wf = true := by
  unfold State.writeBackWay
  try dsimp only
  (repeat' split) <;> simp_all -implicitDefEqProofs (maxDischargeDepth := 12) [-ite_memory, ↓prod_flip3, prod_flip, Mem.wf_writeBytes, Mem.wf_clearRange, Mem.wf_copyRange, Mem.wf_discard, Mem.wf_empty]

@[simp] theorem State.writeBackSet_wf (s : State) (t : Nat) (k : Nat) (c : CacheSet) (hwf : s.memory.cells.wf = true) :
    (State.writeBackSet s t k c).memory.cells.wf = true := by
  unfold State.writeBackSet
  try dsimp only
  (repeat' split) <;> simp_all -implicitDefEqProofs (maxDischargeDepth := 12) [-ite_memory, ↓prod_flip3, prod_flip, Mem.wf_writeBytes, Mem.wf_clearRange, Mem.wf_copyRange, Mem.wf_discard, Mem.wf_empty]

@[simp] theorem State.writeBackAll_wf (s : State) (t : Nat) (hwf : s.memory.cells.wf = true) :
    (State.writeBackAll s t).memory.cells.wf = true := by
  unfold State.writeBackAll
  try dsimp only
  (repeat' split) <;> simp_all -implicitDefEqProofs (maxDischargeDepth := 12) [-ite_memory, ↓prod_flip3, prod_flip, Mem.wf_writeBytes, Mem.wf_clearRange, Mem.wf_copyRange, Mem.wf_discard, Mem.wf_empty]

@[simp] theorem State.invalidateTags_wf (s : State) (t : Nat) (hwf : s.memory.cells.wf = true) :
    (State.invalidateTags s t).memory.cells.wf = true := by
  unfold State.invalidateTags
  try dsimp only
  (repeat' split) <;> simp_all -implicitDefEqProofs (maxDischargeDepth := 12) [-ite_memory, ↓prod_flip3, prod_flip, Mem.wf_writeBytes, Mem.wf_clearRange, Mem.wf_copyRange, Mem.wf_discard, Mem.wf_empty]

@[simp] theorem State.performStalled_wf (s : State) (x1 : List Access) (hwf : s.memory.cells.wf = true) :
    (State.performStalled s x1).memory.cells.wf = true := by
  induction x1 generalizing s <;> unfold State.performStalled <;> try dsimp only
  all_goals ((repeat' split) <;> simp_all -implicitDefEqProofs (maxDischargeDepth := 12) [-ite_memory, ↓prod_flip3, prod_flip, Mem.wf_writeBytes, Mem.wf_clearRange, Mem.wf_copyRange, Mem.wf_discard, Mem.wf_empty])

@[simp] theorem State.wipeClusters_wf (s : State) (t : Nat) (hwf : s.memory.cells.wf = true) :
    (State.wipeClusters s t).memory.cells.wf = true := by
  unfold State.wipeClusters
  try dsimp only
  (repeat' split) <;> simp_all -implicitDefEqProofs (maxDischargeDepth := 12) [-ite_memory, ↓prod_flip3, prod_flip, Mem.wf_writeBytes, Mem.wf_clearRange, Mem.wf_copyRange, Mem.wf_discard, Mem.wf_empty]

@[simp] theorem State.computeReset_wf (s : State) (t : Nat) (hwf : s.memory.cells.wf = true) :
    (State.computeReset s t).memory.cells.wf = true := by
  unfold State.computeReset
  try dsimp only
  (repeat' split) <;> simp_all -implicitDefEqProofs (maxDischargeDepth := 12) [-ite_memory, ↓prod_flip3, prod_flip, Mem.wf_writeBytes, Mem.wf_clearRange, Mem.wf_copyRange, Mem.wf_discard, Mem.wf_empty]

@[simp] theorem State.towerReset_wf (s : State) (t : Nat) (hwf : s.memory.cells.wf = true) :
    (State.towerReset s t).memory.cells.wf = true := by
  unfold State.towerReset
  try dsimp only
  (repeat' split) <;> simp_all -implicitDefEqProofs (maxDischargeDepth := 12) [-ite_memory, ↓prod_flip3, prod_flip, Mem.wf_writeBytes, Mem.wf_clearRange, Mem.wf_copyRange, Mem.wf_discard, Mem.wf_empty]

@[simp] theorem State.endChange_wf (s : State) (t : Nat) (hwf : s.memory.cells.wf = true) :
    (State.endChange s t).memory.cells.wf = true := by
  unfold State.endChange
  try dsimp only
  (repeat' split) <;> simp_all -implicitDefEqProofs (maxDischargeDepth := 12) [-ite_memory, ↓prod_flip3, prod_flip, Mem.wf_writeBytes, Mem.wf_clearRange, Mem.wf_copyRange, Mem.wf_discard, Mem.wf_empty]

@[simp] theorem State.cacheAbrupt_wf (s : State) (t : Nat) (hwf : s.memory.cells.wf = true) :
    (State.cacheAbrupt s t).memory.cells.wf = true := by
  unfold State.cacheAbrupt
  try dsimp only
  (repeat' split) <;> simp_all -implicitDefEqProofs (maxDischargeDepth := 12) [-ite_memory, ↓prod_flip3, prod_flip, Mem.wf_writeBytes, Mem.wf_clearRange, Mem.wf_copyRange, Mem.wf_discard, Mem.wf_empty]

@[simp] theorem State.abruptReset_wf (s : State) (d : Nat) (st : DieState) (hwf : s.memory.cells.wf = true) :
    (State.abruptReset s d st).memory.cells.wf = true := by
  unfold State.abruptReset
  try dsimp only
  (repeat' split) <;> simp_all -implicitDefEqProofs (maxDischargeDepth := 12) [-ite_memory, ↓prod_flip3, prod_flip, Mem.wf_writeBytes, Mem.wf_clearRange, Mem.wf_copyRange, Mem.wf_discard, Mem.wf_empty]

@[simp] theorem State.linkDead_wf (s : State) (id : Nat) (hwf : s.memory.cells.wf = true) :
    (State.linkDead s id).memory.cells.wf = true := by
  unfold State.linkDead
  try dsimp only
  (repeat' split) <;> simp_all -implicitDefEqProofs (maxDischargeDepth := 12) [-ite_memory, ↓prod_flip3, prod_flip, Mem.wf_writeBytes, Mem.wf_clearRange, Mem.wf_copyRange, Mem.wf_discard, Mem.wf_empty]

@[simp] theorem State.setMask_wf (s : State) (id : Nat) (mask : Nat) (hwf : s.memory.cells.wf = true) :
    (State.setMask s id mask).memory.cells.wf = true := by
  unfold State.setMask
  try dsimp only
  (repeat' split) <;> simp_all -implicitDefEqProofs (maxDischargeDepth := 12) [-ite_memory, ↓prod_flip3, prod_flip, Mem.wf_writeBytes, Mem.wf_clearRange, Mem.wf_copyRange, Mem.wf_discard, Mem.wf_empty]

@[simp] theorem State.retireStay_wf (s : State) (id : Nat) (stay : Nat) (hwf : s.memory.cells.wf = true) :
    (State.retireStay s id stay).memory.cells.wf = true := by
  unfold State.retireStay
  try dsimp only
  (repeat' split) <;> simp_all -implicitDefEqProofs (maxDischargeDepth := 12) [-ite_memory, ↓prod_flip3, prod_flip, Mem.wf_writeBytes, Mem.wf_clearRange, Mem.wf_copyRange, Mem.wf_discard, Mem.wf_empty]

@[simp] theorem State.clocksBack_wf (s : State) (t : Nat) (hwf : s.memory.cells.wf = true) :
    (State.clocksBack s t).memory.cells.wf = true := by
  unfold State.clocksBack
  try dsimp only
  (repeat' split) <;> simp_all -implicitDefEqProofs (maxDischargeDepth := 12) [-ite_memory, ↓prod_flip3, prod_flip, Mem.wf_writeBytes, Mem.wf_clearRange, Mem.wf_copyRange, Mem.wf_discard, Mem.wf_empty]

@[simp] theorem State.dieBack_wf (s : State) (d : Nat) (hwf : s.memory.cells.wf = true) :
    (State.dieBack s d).memory.cells.wf = true := by
  unfold State.dieBack
  try dsimp only
  (repeat' split) <;> simp_all -implicitDefEqProofs (maxDischargeDepth := 12) [-ite_memory, ↓prod_flip3, prod_flip, Mem.wf_writeBytes, Mem.wf_clearRange, Mem.wf_copyRange, Mem.wf_discard, Mem.wf_empty]

@[simp] theorem State.agreed_wf (s : State) (d : Nat) (id : Nat) (mask : Nat) (hwf : s.memory.cells.wf = true) :
    (State.agreed s d id mask).memory.cells.wf = true := by
  unfold State.agreed
  try dsimp only
  (repeat' split) <;> simp_all -implicitDefEqProofs (maxDischargeDepth := 12) [-ite_memory, ↓prod_flip3, prod_flip, Mem.wf_writeBytes, Mem.wf_clearRange, Mem.wf_copyRange, Mem.wf_discard, Mem.wf_empty]

@[simp] theorem State.dieFails_wf (s : State) (d : Nat) (hwf : s.memory.cells.wf = true) :
    (State.dieFails s d).memory.cells.wf = true := by
  unfold State.dieFails
  try dsimp only
  (repeat' split) <;> simp_all -implicitDefEqProofs (maxDischargeDepth := 12) [-ite_memory, ↓prod_flip3, prod_flip, Mem.wf_writeBytes, Mem.wf_clearRange, Mem.wf_copyRange, Mem.wf_discard, Mem.wf_empty]

@[simp] theorem State.checkDie_wf (s : State) (d : Nat) (hwf : s.memory.cells.wf = true) :
    (State.checkDie s d).memory.cells.wf = true := by
  unfold State.checkDie
  try dsimp only
  (repeat' split) <;> simp_all -implicitDefEqProofs (maxDischargeDepth := 12) [-ite_memory, ↓prod_flip3, prod_flip, Mem.wf_writeBytes, Mem.wf_clearRange, Mem.wf_copyRange, Mem.wf_discard, Mem.wf_empty]

@[simp] theorem State.markTower_wf (s : State) (t : Nat) (hwf : s.memory.cells.wf = true) :
    (State.markTower s t).memory.cells.wf = true := by
  unfold State.markTower
  try dsimp only
  (repeat' split) <;> simp_all -implicitDefEqProofs (maxDischargeDepth := 12) [-ite_memory, ↓prod_flip3, prod_flip, Mem.wf_writeBytes, Mem.wf_clearRange, Mem.wf_copyRange, Mem.wf_discard, Mem.wf_empty]

@[simp] theorem State.writeResult_wf (s : State) (g : Nat) (result : Nat) (hwf : s.memory.cells.wf = true) :
    (State.writeResult s g result).memory.cells.wf = true := by
  unfold State.writeResult
  try dsimp only
  (repeat' split) <;> simp_all -implicitDefEqProofs (maxDischargeDepth := 12) [-ite_memory, ↓prod_flip3, prod_flip, Mem.wf_writeBytes, Mem.wf_clearRange, Mem.wf_copyRange, Mem.wf_discard, Mem.wf_empty]

@[simp] theorem State.guestMailbox_wf (s : State) (g : Nat) (r : Req) (hwf : s.memory.cells.wf = true) :
    (State.guestMailbox s g r).memory.cells.wf = true := by
  unfold State.guestMailbox
  try dsimp only
  (repeat' split) <;> simp_all -implicitDefEqProofs (maxDischargeDepth := 12) [-ite_memory, ↓prod_flip3, prod_flip, Mem.wf_writeBytes, Mem.wf_clearRange, Mem.wf_copyRange, Mem.wf_discard, Mem.wf_empty]

@[simp] theorem State.guestDomain_wf (s : State) (g : Nat) (r : Req) (hwf : s.memory.cells.wf = true) :
    (State.guestDomain s g r).memory.cells.wf = true := by
  unfold State.guestDomain
  try dsimp only
  (repeat' split) <;> simp_all -implicitDefEqProofs (maxDischargeDepth := 12) [-ite_memory, ↓prod_flip3, prod_flip, Mem.wf_writeBytes, Mem.wf_clearRange, Mem.wf_copyRange, Mem.wf_discard, Mem.wf_empty]

@[simp] theorem State.shutDown_wf (s : State) (x1 : ThermalElement) (hwf : s.memory.cells.wf = true) :
    (State.shutDown s x1).memory.cells.wf = true := by
  unfold State.shutDown
  try dsimp only
  (repeat' split) <;> simp_all -implicitDefEqProofs (maxDischargeDepth := 12) [-ite_memory, ↓prod_flip3, prod_flip, Mem.wf_writeBytes, Mem.wf_clearRange, Mem.wf_copyRange, Mem.wf_discard, Mem.wf_empty]

@[simp] theorem State.judgeElement_wf (s : State) (e : ThermalElement) (c : Int) (hwf : s.memory.cells.wf = true) :
    (State.judgeElement s e c).memory.cells.wf = true := by
  unfold State.judgeElement
  try dsimp only
  (repeat' split) <;> simp_all -implicitDefEqProofs (maxDischargeDepth := 12) [-ite_memory, ↓prod_flip3, prod_flip, Mem.wf_writeBytes, Mem.wf_clearRange, Mem.wf_copyRange, Mem.wf_discard, Mem.wf_empty]

@[simp] theorem State.wipeStack_wf (s : State) (k : Nat) (hwf : s.memory.cells.wf = true) :
    (State.wipeStack s k).memory.cells.wf = true := by
  unfold State.wipeStack
  try dsimp only
  (repeat' split) <;> simp_all -implicitDefEqProofs (maxDischargeDepth := 12) [-ite_memory, ↓prod_flip3, prod_flip, Mem.wf_writeBytes, Mem.wf_clearRange, Mem.wf_copyRange, Mem.wf_discard, Mem.wf_empty]

@[simp] theorem State.restartElement_wf (s : State) (code : Nat) (hwf : s.memory.cells.wf = true) :
    (State.restartElement s code).memory.cells.wf = true := by
  unfold State.restartElement
  try dsimp only
  (repeat' split) <;> simp_all -implicitDefEqProofs (maxDischargeDepth := 12) [-ite_memory, ↓prod_flip3, prod_flip, Mem.wf_writeBytes, Mem.wf_clearRange, Mem.wf_copyRange, Mem.wf_discard, Mem.wf_empty]

@[simp] theorem State.thermalRestartAction_wf (s : State) (code : Nat) (hwf : s.memory.cells.wf = true) :
    (State.thermalRestartAction s code).memory.cells.wf = true := by
  unfold State.thermalRestartAction
  try dsimp only
  (repeat' split) <;> simp_all -implicitDefEqProofs (maxDischargeDepth := 12) [-ite_memory, ↓prod_flip3, prod_flip, Mem.wf_writeBytes, Mem.wf_clearRange, Mem.wf_copyRange, Mem.wf_discard, Mem.wf_empty]

@[simp] theorem State.releaseBell_wf (s : State) (hwf : s.memory.cells.wf = true) :
    (State.releaseBell s).memory.cells.wf = true := by
  unfold State.releaseBell
  try dsimp only
  (repeat' split) <;> simp_all -implicitDefEqProofs (maxDischargeDepth := 12) [-ite_memory, ↓prod_flip3, prod_flip, Mem.wf_writeBytes, Mem.wf_clearRange, Mem.wf_copyRange, Mem.wf_discard, Mem.wf_empty]

@[simp] theorem State.bellAction_wf (s : State) (v : Nat) (hwf : s.memory.cells.wf = true) :
    (State.bellAction s v).memory.cells.wf = true := by
  unfold State.bellAction
  try dsimp only
  (repeat' split) <;> simp_all -implicitDefEqProofs (maxDischargeDepth := 12) [-ite_memory, ↓prod_flip3, prod_flip, Mem.wf_writeBytes, Mem.wf_clearRange, Mem.wf_copyRange, Mem.wf_discard, Mem.wf_empty]

@[simp] theorem State.dumpRecord_wf (s : State) (c : Nat) (n : Nat) (hwf : s.memory.cells.wf = true) :
    (State.dumpRecord s c n).memory.cells.wf = true := by
  unfold State.dumpRecord
  try dsimp only
  (repeat' split) <;> simp_all -implicitDefEqProofs (maxDischargeDepth := 12) [-ite_memory, ↓prod_flip3, prod_flip, Mem.wf_writeBytes, Mem.wf_clearRange, Mem.wf_copyRange, Mem.wf_discard, Mem.wf_empty]

@[simp] theorem State.coldBase_wf (s : State) (obs : StartObs) (_ : s.memory.cells.wf = true) :
    (State.coldBase s obs).memory.cells.wf = true := by
  unfold State.coldBase
  try dsimp only
  (repeat' split) <;> simp_all -implicitDefEqProofs (maxDischargeDepth := 12) [-ite_memory, ↓prod_flip3, prod_flip, Mem.wf_writeBytes, Mem.wf_clearRange, Mem.wf_copyRange, Mem.wf_discard, Mem.wf_empty]

@[simp] theorem State.warmBase_wf (s : State) (obs : StartObs) (_ : s.memory.cells.wf = true) :
    (State.warmBase s obs).memory.cells.wf = true := by
  unfold State.warmBase
  try dsimp only
  (repeat' split) <;> simp_all -implicitDefEqProofs (maxDischargeDepth := 12) [-ite_memory, ↓prod_flip3, prod_flip, Mem.wf_writeBytes, Mem.wf_clearRange, Mem.wf_copyRange, Mem.wf_discard, Mem.wf_empty]

@[simp] theorem State.applyRepair_wf (s : State) (x1 : RepairRecord) (hwf : s.memory.cells.wf = true) :
    (State.applyRepair s x1).memory.cells.wf = true := by
  unfold State.applyRepair
  try dsimp only
  (repeat' split) <;> simp_all -implicitDefEqProofs (maxDischargeDepth := 12) [-ite_memory, ↓prod_flip3, prod_flip, Mem.wf_writeBytes, Mem.wf_clearRange, Mem.wf_copyRange, Mem.wf_discard, Mem.wf_empty]

@[simp] theorem State.applyRepairs_wf (s : State) (bad : List Nat) (hwf : s.memory.cells.wf = true) :
    (State.applyRepairs s bad).memory.cells.wf = true := by
  unfold State.applyRepairs
  try dsimp only
  (repeat' split) <;> simp_all -implicitDefEqProofs (maxDischargeDepth := 12) [-ite_memory, ↓prod_flip3, prod_flip, Mem.wf_writeBytes, Mem.wf_clearRange, Mem.wf_copyRange, Mem.wf_discard, Mem.wf_empty]

@[simp] theorem State.bringUp_wf (s : State) (old : State) (obs : StartObs) (type : Nat) (slot : Nat) (hwf : s.memory.cells.wf = true) :
    (State.bringUp s old obs type slot).memory.cells.wf = true := by
  unfold State.bringUp
  try dsimp only
  (repeat' split) <;> simp_all -implicitDefEqProofs (maxDischargeDepth := 12) [-ite_memory, ↓prod_flip3, prod_flip, Mem.wf_writeBytes, Mem.wf_clearRange, Mem.wf_copyRange, Mem.wf_discard, Mem.wf_empty]

@[simp] theorem State.start_wf (s : State) (old : State) (obs : StartObs) (type : Nat) (hwf : s.memory.cells.wf = true) :
    (State.start s old obs type).memory.cells.wf = true := by
  unfold State.start
  try dsimp only
  (repeat' split) <;> simp_all -implicitDefEqProofs (maxDischargeDepth := 12) [-ite_memory, ↓prod_flip3, prod_flip, Mem.wf_writeBytes, Mem.wf_clearRange, Mem.wf_copyRange, Mem.wf_discard, Mem.wf_empty]

@[simp] theorem State.railReset_wf (s : State) (d : Nat) (hwf : s.memory.cells.wf = true) :
    (State.railReset s d).memory.cells.wf = true := by
  unfold State.railReset
  try dsimp only
  (repeat' split) <;> simp_all -implicitDefEqProofs (maxDischargeDepth := 12) [-ite_memory, ↓prod_flip3, prod_flip, Mem.wf_writeBytes, Mem.wf_clearRange, Mem.wf_copyRange, Mem.wf_discard, Mem.wf_empty]

@[simp] theorem State.readProgram_wf (s : State) (tt : Nat) (r : Requester) (hwf : s.memory.cells.wf = true) :
    (State.readProgram s tt r).2.memory.cells.wf = true := by
  unfold State.readProgram
  try dsimp only
  (repeat' split) <;> simp_all -implicitDefEqProofs (maxDischargeDepth := 12) [-ite_memory, ↓prod_flip3, prod_flip, Mem.wf_writeBytes, Mem.wf_clearRange, Mem.wf_copyRange, Mem.wf_discard, Mem.wf_empty]

@[simp] theorem State.zeroTally_wf (s : State) (tally : Nat) (p : Nat × Nat) (hwf : s.memory.cells.wf = true) :
    (State.zeroTally s tally p).memory.cells.wf = true := by
  unfold State.zeroTally
  try dsimp only
  (repeat' split) <;> simp_all -implicitDefEqProofs (maxDischargeDepth := 12) [-ite_memory, ↓prod_flip3, prod_flip, Mem.wf_writeBytes, Mem.wf_clearRange, Mem.wf_copyRange, Mem.wf_discard, Mem.wf_empty]

@[simp] theorem State.zeroTallies_wf (s : State) (tally : Nat) (l : List (Nat × Nat)) (hwf : s.memory.cells.wf = true) :
    (State.zeroTallies s tally l).memory.cells.wf = true := by
  unfold State.zeroTallies
  try dsimp only
  (repeat' split) <;> simp_all -implicitDefEqProofs (maxDischargeDepth := 12) [-ite_memory, ↓prod_flip3, prod_flip, Mem.wf_writeBytes, Mem.wf_clearRange, Mem.wf_copyRange, Mem.wf_discard, Mem.wf_empty]

@[simp] theorem State.joinCollective_wf (s : State) (tt : Nat) (p : Program) (hwf : s.memory.cells.wf = true) :
    (State.joinCollective s tt p).memory.cells.wf = true := by
  unfold State.joinCollective
  try dsimp only
  (repeat' split) <;> simp_all -implicitDefEqProofs (maxDischargeDepth := 12) [-ite_memory, ↓prod_flip3, prod_flip, Mem.wf_writeBytes, Mem.wf_clearRange, Mem.wf_copyRange, Mem.wf_discard, Mem.wf_empty]

@[simp] theorem State.reduceLines_wf (s : State) (op : Nat) (off : Nat) (r : Requester) (x4 : Nat) (x5 : List Byte) (x6 : Option Nat) (hwf : s.memory.cells.wf = true) :
    (State.reduceLines s op off r x4 x5 x6).2.memory.cells.wf = true := by
  induction x4 generalizing s op off r x5 x6 <;> unfold State.reduceLines <;> try dsimp only
  all_goals ((repeat' split) <;> simp_all -implicitDefEqProofs (maxDischargeDepth := 12) [-ite_memory, ↓prod_flip3, prod_flip, Mem.wf_writeBytes, Mem.wf_clearRange, Mem.wf_copyRange, Mem.wf_discard, Mem.wf_empty])

@[simp] theorem State.applyLocal_wf (s : State) (q : Req) (hwf : s.memory.cells.wf = true) :
    (State.applyLocal s q).2.memory.cells.wf = true := by
  unfold State.applyLocal
  try dsimp only
  (repeat' split) <;> simp_all -implicitDefEqProofs (maxDischargeDepth := 12) [-ite_memory, ↓prod_flip3, prod_flip, Mem.wf_writeBytes, Mem.wf_clearRange, Mem.wf_copyRange, Mem.wf_discard, Mem.wf_empty]

@[simp] theorem State.applyLocals_wf (s : State) (x : Nat) (c : Nat) (x3 : List Req) (hwf : s.memory.cells.wf = true) :
    (State.applyLocals s x c x3).memory.cells.wf = true := by
  induction x3 generalizing s x c <;> unfold State.applyLocals <;> try dsimp only
  all_goals ((repeat' split) <;> simp_all -implicitDefEqProofs (maxDischargeDepth := 12) [-ite_memory, ↓prod_flip3, prod_flip, Mem.wf_writeBytes, Mem.wf_clearRange, Mem.wf_copyRange, Mem.wf_discard, Mem.wf_empty])

@[simp] theorem State.issueTransfer_wf (s : State) (r : Collective) (p : Nat) (j : Nat) (hwf : s.memory.cells.wf = true) :
    (State.issueTransfer s r p j).memory.cells.wf = true := by
  unfold State.issueTransfer
  try dsimp only
  (repeat' split) <;> simp_all -implicitDefEqProofs (maxDischargeDepth := 12) [-ite_memory, ↓prod_flip3, prod_flip, Mem.wf_writeBytes, Mem.wf_clearRange, Mem.wf_copyRange, Mem.wf_discard, Mem.wf_empty]

@[simp] theorem State.reducePacket_wf (s : State) (site : Nat) (op : Nat) (hwf : s.memory.cells.wf = true) :
    (State.reducePacket s site op).memory.cells.wf = true := by
  unfold State.reducePacket
  try dsimp only
  (repeat' split) <;> simp_all -implicitDefEqProofs (maxDischargeDepth := 12) [-ite_memory, ↓prod_flip3, prod_flip, Mem.wf_writeBytes, Mem.wf_clearRange, Mem.wf_copyRange, Mem.wf_discard, Mem.wf_empty]

@[simp] theorem State.contextAction_wf (s : State) (x : Nat) (value : Nat) (hwf : s.memory.cells.wf = true) :
    (State.contextAction s x value).2.memory.cells.wf = true := by
  unfold State.contextAction
  dsimp only
  split
  · exact hwf
  split
  · exact hwf
  dsimp only
  split <;> simp [hwf]

@[simp] theorem State.writeContext_wf (s : State) (x : Nat) (sub : Nat) (value : List Byte) (hwf : s.memory.cells.wf = true) :
    (State.writeContext s x sub value).2.memory.cells.wf = true := by
  unfold State.writeContext
  try dsimp only
  (repeat' split) <;> simp_all -implicitDefEqProofs (maxDischargeDepth := 12) [-ite_memory, ↓prod_flip3, prod_flip, Mem.wf_writeBytes, Mem.wf_clearRange, Mem.wf_copyRange, Mem.wf_discard, Mem.wf_empty]

@[simp] theorem State.command_wf (s : State) (key : Nat) (v : Nat) (hwf : s.memory.cells.wf = true) :
    (State.command s key v).2.memory.cells.wf = true := by
  unfold State.command actionAnswer
  try dsimp only
  (repeat' split) <;> simp_all -implicitDefEqProofs (maxDischargeDepth := 12) [-ite_memory, ↓prod_flip3, prod_flip, Mem.wf_writeBytes, Mem.wf_clearRange, Mem.wf_copyRange, Mem.wf_discard, Mem.wf_empty]

@[simp] theorem State.writeScalar_wf (s : State) (e : OdEntry) (v : Nat) (hwf : s.memory.cells.wf = true) :
    (State.writeScalar s e v).2.memory.cells.wf = true := by
  unfold State.writeScalar
  try dsimp only
  (repeat' split) <;> simp_all -implicitDefEqProofs (maxDischargeDepth := 12) [-ite_memory, ↓prod_flip3, prod_flip, Mem.wf_writeBytes, Mem.wf_clearRange, Mem.wf_copyRange, Mem.wf_discard, Mem.wf_empty]

@[simp] theorem State.writeEntry_wf (s : State) (index : Nat) (sub : Nat) (value : List Byte) (hwf : s.memory.cells.wf = true) :
    (State.writeEntry s index sub value).2.memory.cells.wf = true := by
  unfold State.writeEntry
  try dsimp only
  (repeat' split) <;> simp_all -implicitDefEqProofs (maxDischargeDepth := 12) [-ite_memory, ↓prod_flip3, prod_flip, Mem.wf_writeBytes, Mem.wf_clearRange, Mem.wf_copyRange, Mem.wf_discard, Mem.wf_empty]

@[simp] theorem State.access_wf (s : State) (kind : AccessKind) (t : Transaction) (value : List Byte) (hwf : s.memory.cells.wf = true) :
    (State.access s kind t value).2.2.memory.cells.wf = true := by
  unfold State.access
  try dsimp only
  (repeat' split) <;> simp_all -implicitDefEqProofs (maxDischargeDepth := 12) [-ite_memory, ↓prod_flip3, prod_flip, Mem.wf_writeBytes, Mem.wf_clearRange, Mem.wf_copyRange, Mem.wf_discard, Mem.wf_empty]

@[simp] theorem State.perform_wf (s : State) (type : Nat) (t : Transaction) (value : List Byte) (chunk : Option Nat) (hwf : s.memory.cells.wf = true) :
    (State.perform s type t value chunk).memory.cells.wf = true := by
  unfold State.perform
  try dsimp only
  (repeat' split) <;> simp_all -implicitDefEqProofs (maxDischargeDepth := 12) [-ite_memory, ↓prod_flip3, prod_flip, Mem.wf_writeBytes, Mem.wf_clearRange, Mem.wf_copyRange, Mem.wf_discard, Mem.wf_empty]

@[simp] theorem State.takeChunk_wf (s : State) (t : Transaction) (hwf : s.memory.cells.wf = true) :
    (State.takeChunk s t).memory.cells.wf = true := by
  unfold State.takeChunk
  try dsimp only
  (repeat' split) <;> simp_all -implicitDefEqProofs (maxDischargeDepth := 12) [-ite_memory, ↓prod_flip3, prod_flip, Mem.wf_writeBytes, Mem.wf_clearRange, Mem.wf_copyRange, Mem.wf_discard, Mem.wf_empty]

end Sys2Proof.Machine
end

