-- ==== Sys2Proof/Laws/Access.lean ====
section
/-! SUPPORT. What each update of State writes: the field that it changes, as an equation for simp, and tables read after a
change of one key. With Laws/State.lean (what an update leaves) these let a proof read any field of an updated state. -/

namespace Sys2Proof

theorem SMap.get_modify {α : Type} (d : α) (m : SMap α) (j k : Nat) (f : α → α) :
    (m.modify d k f).get d j = if j = k then f (m.get d k) else m.get d j := by
  by_cases h : j = k
  · subst h; simp
  · simp [h, SMap.get_modify_ne d d m h]

theorem SMap.get_set {α : Type} (d : α) (m : SMap α) (j k : Nat) (v : α) :
    (m.set k v).get d j = if j = k then v else m.get d j := by
  by_cases h : j = k
  · subst h; simp
  · simp [h, SMap.get_set_ne d m h]

theorem SMap.lookup_set {α : Type} (m : SMap α) (j k : Nat) (v : α) :
    SMap.lookup (m.set k v).entries j = if j = k then some v else SMap.lookup m.entries j := by
  by_cases h : j = k
  · subst h; simp [SMap.set, SMap.lookup_insert_same]
  · simp [h, SMap.set, SMap.lookup_insert_ne h]

theorem SMap.lookup_filter {α : Type} (l : List (Nat × α)) (p : Nat → Bool) (j : Nat) :
    SMap.lookup (l.filter fun e => p e.1) j = if p j then SMap.lookup l j else none := by
  induction l with
  | nil => simp [SMap.lookup]
  | cons e l ih =>
    obtain ⟨k, v⟩ := e
    by_cases hk : p k = true
    · simp only [List.filter_cons, hk, ite_true, SMap.lookup, ih]
      by_cases hj : k = j
      · subst hj; simp [hk]
      · simp [hj]
    · simp only [List.filter_cons, hk, SMap.lookup]
      by_cases hj : k = j
      · subst hj; simp [hk, ih]
      · simp [hj, ih]

theorem SMap.lookup_map {α : Type} (l : List (Nat × α)) (f : Nat → α → α) (j : Nat) :
    SMap.lookup (l.map fun e => (e.1, f e.1 e.2)) j = (SMap.lookup l j).map (f j) := by
  induction l with
  | nil => simp [SMap.lookup]
  | cons e l ih =>
    obtain ⟨k, v⟩ := e
    simp only [List.map_cons, SMap.lookup, ih]
    by_cases hj : k = j
    · subst hj; simp
    · simp [hj]

theorem SMap.lookup_mapVals {α : Type} (m : SMap α) (f : Nat → α → α) (j : Nat) :
    SMap.lookup (m.mapVals f).entries j = (SMap.lookup m.entries j).map (f j) := SMap.lookup_map m.entries f j

theorem SMap.lookup_dropKeys {α : Type} (m : SMap α) (p : Nat → Bool) (j : Nat) :
    SMap.lookup (m.dropKeys p).entries j = if p j then none else SMap.lookup m.entries j := by
  rw [SMap.dropKeys, SMap.lookup_filter m.entries (fun k => !p k) j]
  cases p j <;> simp

end Sys2Proof

namespace Sys2Proof.Machine

variable (s : State)

@[simp] theorem State.setReg_regs (k v : Nat) : (s.setReg k v).regs = s.regs.set k v := rfl
@[simp] theorem State.setShadow_shadows (k v : Nat) : (s.setShadow k v).shadows = s.shadows.set k v := rfl
@[simp] theorem State.setBlob_blobs (k : Nat) (v : List Byte) : (s.setBlob k v).blobs = s.blobs.set k v := rfl
@[simp] theorem State.setBlobShadow_blobShadows (k : Nat) (v : List Byte) : (s.setBlobShadow k v).blobShadows = s.blobShadows.set k v := rfl
@[simp] theorem State.setCommitPending_commits (block : Nat) (p : Bool) : (s.setCommitPending block p).commits = if p then block :: s.commits.erase block else s.commits.erase block := rfl
@[simp] theorem State.modCluster_clusters (c : Nat) (f : Cluster → Cluster) : (s.modCluster c f).clusters = s.clusters.modify {} c f := rfl
@[simp] theorem State.modCtx_ctxs (x : Nat) (f : Ctx → Ctx) : (s.modCtx x f).ctxs = s.ctxs.modify {} x f := rfl
@[simp] theorem State.modTower_memory (t : Nat) (f : Tower → Tower) : (s.modTower t f).memory = { s.memory with towers := s.memory.towers.modify {} t f } := rfl
@[simp] theorem State.modStack_memory (k : Nat) (f : Stack → Stack) : (s.modStack k f).memory = { s.memory with hbm := s.memory.hbm.modify {} k f } := rfl
@[simp] theorem State.putBytes_memory (off : Nat) (d : List Byte) : (s.putBytes off d).memory = { s.memory with cells := s.memory.cells.writeBytes off d } := rfl
@[simp] theorem State.zeroRange_memory (off n : Nat) : (s.zeroRange off n).memory = { s.memory with cells := s.memory.cells.clearRange off (off + n) } := rfl
@[simp] theorem State.setStored_memory (w : Nat) (p : ErrorPattern) : (s.setStored w p).memory = { s.memory with errors := if p = markDefault s.memory w then s.memory.errors.dropKeys (· = w) else s.memory.errors.set w p } := rfl
@[simp] theorem State.setResident_memory (w : Nat) (p : ErrorPattern) : (s.setResident w p).memory = { s.memory with lineErrors := if p = [] then s.memory.lineErrors.dropKeys (· = w) else s.memory.lineErrors.set w p } := rfl
@[simp] theorem State.setSet_memory (k : Nat) (c : CacheSet) : (s.setSet k c).memory = { s.memory with sets := s.memory.sets.set k c } := rfl
@[simp] theorem State.modLane_rig (k : Nat) (f : Lane → Lane) : (s.modLane k f).rig = { s.rig with lanes := s.rig.lanes.modify (defaultLane k) k f } := rfl
@[simp] theorem State.modStanding_rig (src dst : Nat) (f : StandingPath → StandingPath) : (s.modStanding src dst f).rig = { s.rig with standing := s.rig.standing.modify {} (standKey src dst) f } := rfl
@[simp] theorem State.modReceiver_rig (k : Nat) (f : Receiver → Receiver) : (s.modReceiver k f).rig = { s.rig with receivers := s.rig.receivers.modify {} k f } := rfl
@[simp] theorem State.modCollective_coll (seq : Nat) (f : Collective → Collective) : (s.modCollective seq f).coll = { s.coll with running := s.coll.running.map fun r => if r.seq = seq then f r else r } := rfl
@[simp] theorem State.modRing_photonics (e : Nat) (f : Ring → Ring) : (s.modRing e f).photonics = { s.photonics with rings := s.photonics.rings.set e (f (s.ring e)) } := rfl
@[simp] theorem State.modBank_photonics (b : Nat) (f : Bank → Bank) : (s.modBank b f).photonics = { s.photonics with banks := s.photonics.banks.modify {} b f } := rfl
@[simp] theorem State.modLaser_photonics (bar n : Nat) (f : Laser → Laser) : (s.modLaser bar n f).photonics = { s.photonics with lasers := s.photonics.lasers.modify (defaultLaser (laserKey bar n)) (laserKey bar n) f } := rfl
@[simp] theorem State.modBar_photonics (b : Nat) (f : Bar → Bar) : (s.modBar b f).photonics = { s.photonics with bars := s.photonics.bars.modify {} b f } := rfl
@[simp] theorem State.modPort_domain (p : Nat) (f : Port → Port) : (s.modPort p f).domain = { s.domain with ports := s.domain.ports.modify {} p f } := rfl
@[simp] theorem State.modOutstanding_domain (h : Nat) (f : Outstanding → Outstanding) : (s.modOutstanding h f).domain = { s.domain with outstanding := s.domain.outstanding.map fun o => if o.handle = h then f o else o } := rfl
@[simp] theorem State.modDie_package (d : Nat) (f : Die → Die) : (s.modDie d f).package = { s.package with dies := s.package.dies.modify {} d f } := rfl
@[simp] theorem State.modLink_package (id : Nat) (f : Link → Link) : (s.modLink id f).package = { s.package with links := s.package.links.set id { f (s.link id) with changed := s.stamp } } := rfl
@[simp] theorem State.modStay_package (k : Nat) (f : Stay → Stay) : (s.modStay k f).package = { s.package with stays := s.package.stays.set k (f (s.stay k)) } := rfl
@[simp] theorem State.modHolder_package (h : Nat) (f : Holder → Holder) : (s.modHolder h f).package = { s.package with holders := s.package.holders.set h (f (s.holder h)) } := rfl
@[simp] theorem State.setPool_package (n : Nat) : (s.setPool n).package = { s.package with pool := n } := rfl
@[simp] theorem State.modGuest_package (g : Nat) (f : Guest → Guest) : (s.modGuest g f).package = { s.package with guests := s.package.guests.set g (f (s.guest g)) } := rfl
@[simp] theorem State.modElement_thermal (k : Nat) (f : Element → Element) : (s.modElement k f).thermal = { s.thermal with elements := s.thermal.elements.modify {} k f } := rfl
@[simp] theorem State.modComplex_control (k : Nat) (f : Complex → Complex) : (s.modComplex k f).control = { s.control with complexes := s.control.complexes.set k (f (s.complex k)) } := rfl
@[simp] theorem State.modKrytae_control (k : Nat) (f : Krytae → Krytae) : (s.modKrytae k f).control = { s.control with krytae := s.control.krytae.modify {} k f } := rfl
@[simp] theorem State.countReg_regs (k w n : Nat) : (s.countReg k w n).regs = s.regs.set k (satAdd w (s.reg k) n) := rfl
@[simp] theorem State.modCore_clusters (c : Nat) (f : Core → Core) :
    (s.modCore c f).clusters = s.clusters.modify {} c fun k => { k with core := f k.core } := rfl
@[simp] theorem State.modRun_clusters (c : Nat) (f : TimetableRun → TimetableRun) :
    (s.modRun c f).clusters = s.clusters.modify {} c fun k => { k with core := { k.core with run := k.core.run.map f } } := rfl
@[simp] theorem State.setStatus_ctxs (x v : Nat) :
    (s.setStatus x v).ctxs = s.ctxs.modify {} x fun k => { k with actionStatus := v } := rfl
@[simp] theorem State.modMember_ctxs (x c : Nat) (f : Member → Member) :
    (s.modMember x c f).ctxs = s.ctxs.modify {} x fun k => { k with members := k.members.modify {} c f } := rfl
@[simp] theorem State.setPhase_ctxs (x c : Nat) (p : MemberPhase) :
    (s.setPhase x c p).ctxs = s.ctxs.modify {} x fun k =>
      { k with members := k.members.modify {} c fun m => { m with phase := p } } := rfl
@[simp] theorem State.modRegion_clocks (k : Nat) (f : Clock → Clock) :
    (s.modRegion k f).clocks = { s.clocks with
      regions := s.clocks.regions.set k (if (f (s.region k)).target = (s.region k).target then f (s.region k)
        else { f (s.region k) with present := s.frequency k, slewAt := s.now }) } := rfl

/-! ### Contexts, members and clusters after a change of one -/

theorem State.ctx_modCtx (x y : Nat) (f : Ctx → Ctx) : (s.modCtx x f).ctx y = if y = x then f (s.ctx x) else s.ctx y := by
  simp [State.ctx, SMap.get_modify]

theorem State.cluster_modCluster (c k : Nat) (f : Cluster → Cluster) :
    (s.modCluster c f).cluster k = if k = c then f (s.cluster c) else s.cluster k := by
  simp [State.cluster, SMap.get_modify]

theorem State.memberOf_modMember (x c : Nat) (f : Member → Member) :
    memberOf ((s.modMember x c f).ctx x) c = f (memberOf (s.ctx x) c) := by
  simp [State.ctx, memberOf]

/-! ### Events -/

theorem State.emit_eventCounts (o : Output) : (s.emit o).control.eventCounts = s.control.eventCounts := by
  unfold State.emit
  dsimp only
  split
  · obtain ⟨k, h⟩ := State.toPorts_only { s with control := _ } _
    rw [h]
  · rfl

theorem State.queueEvent_eventCounts (e : EventIn) (a : Nat) :
    (s.queueEvent e a).control.eventCounts = s.control.eventCounts := by
  simp only [State.queueEvent]
  repeat' split
  all_goals first
    | rfl
    | (rw [State.emit_eventCounts])

theorem State.deliverEvent_raised (e : EventIn) (c : Nat) :
    ((s.deliverEvent e).control.eventCounts.get {} c).raised =
      (s.control.eventCounts.get {} c).raised + if c = e.code then 1 else 0 := by
  simp only [State.deliverEvent]
  repeat' split
  all_goals simp only [State.queueEvent_eventCounts, SMap.get_set]
  all_goals by_cases h : c = e.code
  all_goals simp_all

theorem State.slate_eventCounts (u c x : Nat) (i : Ids) (d : List Byte) :
    (s.slate u c x i d).control = s.control := rfl

/-- Raising an event counts its code once, and at most the code of an invalid release besides (R313, R424). -/
theorem State.raiseEvent_raised (e : EventIn) (c : Nat) (hc : c ≠ 0x1601) :
    ((s.raiseEvent e).control.eventCounts.get {} c).raised =
      (s.control.eventCounts.get {} c).raised + if c = e.code then 1 else 0 := by
  simp only [State.raiseEvent]
  split
  · have h : c ≠ ((s.slate e.unit e.code e.ctx { ctx := e.ctx, layer := e.layer, operator := e.operator, step := e.step }
        e.detail).deliverEvent e |>.mkEvent 0x1601 1 0x30 0x3000 0xFFFF {} (leBytes 2 0xFFFF ++ leBytes 8 (s.reg 0xB02006))).code :=
      hc
    rw [State.invalidRelease, State.deliverEvent_raised, if_neg h, State.slate_eventCounts, State.deliverEvent_raised,
      State.slate_eventCounts]
    rfl
  · rw [State.deliverEvent_raised, State.slate_eventCounts]

/-- Two states with the same fields are one. -/
theorem State.ext_of {s t : State} (_ : t.pending = s.pending) (_ : t.fuses = s.fuses) (_ : t.regs = s.regs) (_ :
    t.shadows = s.shadows) (_ : t.blobs = s.blobs) (_ : t.blobShadows = s.blobShadows) (_ : t.hubNeeds = s.hubNeeds)
    (_ : t.commits = s.commits) (_ : t.seeds = s.seeds) (_ : t.load = s.load) (_ : t.clusters = s.clusters) (_ :
    t.ctxs = s.ctxs) (_ : t.memory = s.memory) (_ : t.rig = s.rig) (_ : t.coll = s.coll) (_ : t.photonics =
    s.photonics) (_ : t.domain = s.domain) (_ : t.messages = s.messages) (_ : t.package = s.package) (_ : t.clocks =
    s.clocks) (_ : t.thermal = s.thermal) (_ : t.control = s.control) (_ : t.boot = s.boot) (_ : t.dbg = s.dbg) (_
    : t.freeCount = s.freeCount) : t = s := by
  cases s
  cases t
  simp_all

theorem State.raised_raiseFor (code d u x : Nat) (i : Ids) (l : List Byte) (h : code ≠ 0x1601) :
    (s.raiseFor code d u x i l).raised code = s.raised code + 1 := by
  simp [State.raised, State.raiseFor, State.raiseEvent_raised _ _ _ h, State.mkEvent]

theorem State.raised_raiseSev (code v d u : Nat) (l : List Byte) (h : code ≠ 0x1601) :
    (s.raiseSev code v d u l).raised code = s.raised code + 1 := by
  simp [State.raised, State.raiseSev, State.raiseEvent_raised _ _ _ h, State.mkEvent]

theorem State.raised_raise (code d u : Nat) (l : List Byte) (h : code ≠ 0x1601) :
    (s.raise code d u l).raised code = s.raised code + 1 := State.raised_raiseSev s code _ d u l h

end Sys2Proof.Machine
end

