-- ==== Sys2Proof/Tests/Slice0.lean ====
section
/-! SUPPORT. Tests: an ill-formed command for each check, worked examples of the spec, and for each clause of a statement
that has hypotheses a state and operands that meet them. -/

open Sys2Proof Sys2Proof.Machine

namespace Sys2Proof.Tests

set_option linter.unusedVariables false
-- Checked one after another: as many waiting tasks as there are theorems here would exhaust memory.
set_option Elab.async false

/-! ### Small states -/

/-- A member of cluster 0 in context 1, BOUND, at the descriptor `d` in phase `p`. -/
def tMember (d : BitVec 512) (p : MemberPhase) : State :=
  let k : Ctx :=
    { state := .bound, cls := [0], ringSize := 64, saveBase := 0x100000, saveSize := 0x400000, producer := 1
      holds := true, fetched := 1, descriptors := ⟨[(0, d)]⟩, members := ⟨[(0, { next := 0, phase := p })]⟩ }
  { clusters := ⟨[(0, { bound := some 1 })]⟩, ctxs := ⟨[(1, k)]⟩ }

/-- A descriptor (R119): opcode, flags, ADDR0, ADDR1, ADDR2, DIM0, DIM1, DIM2, of context 1. -/
def tDesc (op flags a0 a1 a2 d0 d1 d2 : Nat) : BitVec 512 :=
  BitVec.ofNat 512 (op + 256 +
    2 ^ 96 * (flags + 2 ^ 32 * (a0 + 2 ^ 48 * (a1 + 2 ^ 48 * (a2 + 2 ^ 48 * (d0 + 2 ^ 20 * (d1 + 2 ^ 20 * d2)))))))

/-- Context 1 with one descriptor that is not fetched. -/
def tToFetch : State := (tMember 0 .idle).modCtx 1 fun k => { k with fetched := 0, descriptors := ⟨[]⟩ }

/-- A RUN descriptor whose bundle lies at 0x1000, and a bundle of one member with the one entry END. -/
def tRunDesc : BitVec 512 := BitVec.ofNat 512 (1 + 256 + 2 ^ 166 * (2 ^ 166 * 0x10))
def tBundleHead : List Byte := padTo 0x48 (leBytes 2 1 ++ leBytes 2 1 ++ leBytes 4 0x100 ++ leBytes 56 0 ++ leBytes 4 0x80 ++ leBytes 4 1)
def tToRun : State := ((tMember tRunDesc .started).putBytes 0x1000 tBundleHead).putBytes 0x1080 (leBytes 32 7)

/-- A CURVE_LOAD of slot 3 from local address 0, which holds the identity. -/
def tCurveDesc : BitVec 512 := tDesc 5 0 0 0 0 0 3 0
def tToCurve : State := (tMember tCurveDesc .started).putBytes 0xE000000000 (defaultCurve 10)

/-- Cluster 0 in context 1 at a timetable whose one entry is of kind `kind`. -/
def tEntry (kind engine tallyNo payload : Nat) : BitVec 256 :=
  BitVec.ofNat 256 (kind + 2 ^ 8 * engine + 2 ^ 36 * tallyNo + 2 ^ 128 * payload)
def tOc (e : BitVec 256) (r : TimetableRun) : State :=
  (tMember tRunDesc .working).modCore 0 fun k => { k with timetable := [0, 0, e], run := some r }
def tRun0 : TimetableRun := { ctx := 1, length := 3, entry := 2 }

/-- Cluster 0 of the BOUND context 1, with its engines as `f` leaves them. -/
def tEng (f : Core → Core) : State := (tMember tRunDesc .working).modCore 0 f
/-- Context 1 stops (R140). -/
def tEnding (s : State) : State := s.modCtx 1 fun k => { k with ending := true }

/-- An MMA of one row and one K-step (gang 1, formats 4) as it runs in cluster 0, and its counts at the panels. -/
def tMma : RunningOp := { op := { word := 0x1111 } }
def tToMma : State := tEng fun k => { k with mma := some tMma }
def tMmaHandshakes : Nat := 64 + stepHandshakes (mmaFields tMma.op.word)
def tMmaStart : State :=
  ((tToMma.modCore 0 fun k => { setWidth k (mmaFields tMma.op.word) with mmaDone := k.mmaDone.map (overlapTail tMmaHandshakes) }).panelsRan 0
    tMmaHandshakes (governed tMmaHandshakes 1)).bump 0 0x120 48 0

/-- A copy of 4 bytes from device 1, through window 0 of context 1 (R268), whose port is UP. -/
def tWindow (vdev tdev tctx flags vbase size tbase : Nat) : Window :=
  let e : BitVec 256 := BitVec.ofNat 256
    (flags + 2 ^ 8 * (vdev + 2 ^ 8 * (tdev + 2 ^ 8 * (tctx + 2 ^ 40 * (vbase + 2 ^ 40 * (size + 2 ^ 40 * tbase))))))
  { entry := e, complement := ~~~e }
def tUp (s : State) : State :=
  { s with domain := { s.domain with
      ports := ⟨[(0, { state := .up })]⟩, portMap := ⟨[(0, (1, 1))]⟩, windows := ⟨[(64, tWindow 1 1 1 0x1F 0 0x10000000 0)]⟩ } }
def tRemoteOp : RunningOp := { op := { reading := .ce ⟨0x10000000000, 0xFE0000000100, 4, 1, 0, none⟩ } }
def tRemoteCopy : State := tUp (tEng fun k => { k with copies := [tRemoteOp] })

/-- Plan 1 with the one entry (slot 0, lane 31) aimed at slot 1 (R212), and its payload with the complement. -/
def tPlanImage : List Byte := [1, 1, 1, 0, 0, 0, 0, 0, 0, 31, 2, 0]
def tPlanPayload : List Byte := tPlanImage ++ complementBytes tPlanImage
def tPlanShadow : State := (({} : State).setShadow 0x410001 1).setBlobShadow 0x410002 tPlanPayload
def tTackRun (step : TackStep) : Tack := ⟨1, none, 0, step, [31], ⟨[(31, 0)]⟩, [31], false⟩
def tTackQueue : State :=
  { coll := { plans := ⟨[(1, { image := tPlanImage, complement := complementBytes tPlanImage })]⟩
              queue := [(⟨1, none, 0, false⟩ : TackRequest)] } }
def tTack (step : TackStep) : State :=
  { tTackQueue with
    coll := { tTackQueue.coll with queue := [], tack := some (tTackRun step) }
    rig := { lanes := ⟨[(31, { state := match step with | .trained => LaneState.training | _ => LaneState.quiescing
                               targets := match step with | .quiescing => 0 | _ => 2 })]⟩ } }

/-- Context 1 waits at a program at 0x2000 of one phase without a plan and one transfer of 64 bytes (R221 to R223), and
the collective that runs it. -/
def tCollDesc : BitVec 512 := tDesc 6 0 0xE000000000 0xE000000000 0 0 0 0
def tJoin : State :=
  let s := tMember tCollDesc .working
  ({ s with coll := { joins := [⟨0x2000, [(1, 0)], some 0⟩] } }).putBytes 0x2000
    (leBytes 2 1 ++ leBytes 2 1 ++ leBytes 4 1 ++ leBytes 2 1 ++ leBytes 6 0xFFFFFFFFFFFF ++ leBytes 1 9 ++ leBytes 47 0 ++
     leBytes 4 0xFF ++ leBytes 4 0 ++ leBytes 4 1 ++ leBytes 20 0 ++
     leBytes 9 0x60 ++ leBytes 5 0x100 ++ leBytes 4 64 ++ leBytes 4 0 ++ leBytes 1 1 ++ leBytes 9 0)
def tRunning : Collective :=
  ⟨5, 0x2000, [1], [(1, 0)], [⟨0xFF, 0, 1⟩], [⟨0x60, 0, 0, 0xE000000000, 0xE000000100, 64, 0, 1⟩], 9, 0, [], [0], [], [], [], [], false, false, [], none⟩
def tColl (r : Collective) : State := { tMember tCollDesc .working with coll := { running := [r] } }
def tTwoTowers : Collective := { tRunning with participants := [(1, 0), (1, 200)], transfers := [], phases := [⟨0xFF, 0, 0⟩] }
def tTwoPhases : Collective := { tRunning with transfers := [], phases := [⟨0xFF, 0, 0⟩, ⟨0xFF, 0, 0⟩] }
def tRunAway : Collective := { tRunning with transfers := [⟨0x60, 0, 0, 0xE000000000, 0x2400000000, 64, 0, 1⟩] }
def tIssueAway : State :=
  { tMember (tDesc 6 0 0xE000000000 0x400000000 0 0 0 0) .working with coll := { running := [tRunAway] } }
def tIssueHere : State := tColl tRunning
def tStoppedColl : State :=
  (tColl { tRunning with ctxs := [1, 2], stopped := [2], stoppedAt := some 0 }).modCtx 1 fun k => { k with waitLimit := 5 }
/-- A reduce-add packet of one line for address 0 that has arrived at tower 0. -/
def tRedPacket (op : Nat) : Packet :=
  { src := 1, dst := 0, vc := 3, stand := false, crit := false, req := { blankReq with op := op, origin := .member 1 0, data := List.replicate 128 0 }
    targets := [], pseq := 0, stamp := 0 }
def tRed (op : Nat) : State := { rig := { arrived := ⟨[(0, [tRedPacket op])]⟩ } }

/-- Messages: a SEND of 4 bytes from local address 0, or from device 1, to domain 1 (R301), and a message of 4 bytes. -/
def tSendDesc : BitVec 512 := tDesc 8 0 0xFE0000000000 0x10000000 0 4 0 0
def tSendFarDesc : BitVec 512 := tDesc 8 0 0x10000000000 0x10000000 0 4 0 0
def tSendFar : State := tUp (tMember tSendFarDesc .started)
def tMessage (dev : Nat) : Message :=
  { srcCtx := 1, edge := 0, entry := 0, srcDevice := 0, srcDomain := 1, mseq := 0, stamp := 0, dom := 1, dev := dev
    inbox := 0, hops := 32, srcFenced := false, payload := [1, 2, 3, 4] }
/-- A member whose edge group 0 holds a message for device `dev`, with ports 0 and 1 UP, and inboxes. -/
def tMsg (dev : Nat) (l : List (Nat × Inbox)) : State :=
  { regs := ⟨[(0x820001, 1)]⟩
    messages := { toEdge := ⟨[(0, [tMessage dev])]⟩, inboxes := ⟨l⟩ }
    domain := { ports := ⟨[(0, { state := .up }), (1, { state := .up })]⟩, portMap := ⟨[(0, (1, 1)), (1, (1, 2))]⟩ } }
def tTracked : State :=
  { tMsg 0 [] with messages := { tracked := ⟨[(0, (⟨1, 0, 0, 0, 0⟩ : TrackedMessage))]⟩ } }
def tHop : State := { domain := { ports := ⟨[(0, { hop := [(⟨0, 0, tMessage 1, none⟩ : HopEntry)] })]⟩ } }
def tInbox : State := { messages := { toTower := ⟨[(0, [tMessage 0])]⟩, inboxes := ⟨[(0, { owner := 1, base := 0x3000 })]⟩ } }
def tInboxShadow (owner : Nat) : State :=
  ({ (tMember 0 .idle) with shadows := ⟨[(0x840002, owner), (0x840003, 0x3000)]⟩ })
def tWindowShadow : State :=
  { tUp (tMember 0 .idle) with
    shadows := ⟨[(0x810001, 1), (0x810002, 3)]⟩
    blobShadows := ⟨[(0x810003, leBytes 32 (tWindow 1 1 1 0x1F 0 0x10000000 0).entry.toNat ++
      leBytes 32 (tWindow 1 1 1 0x1F 0 0x10000000 0).complement.toNat)]⟩ }

/-- The payload of a DOMAIN_MULTICAST of 4 bytes with two descriptors (R274), both for window 0. -/
def tMcData : List Byte :=
  padTo 64 (leBytes 4 0x80 ++ leBytes 6 0x10000000000 ++ leBytes 6 0 ++ leBytes 4 0x80 ++ leBytes 6 0x10000000000 ++ leBytes 6 0) ++ [1, 2, 3, 4]

/-- Port 0, which serves device 1, as given; and one that joins. -/
def tPort (k : Port) : State := { domain := { ports := ⟨[(0, k)]⟩, portMap := ⟨[(0, (1, 1))]⟩ } }
def tJoining : State := tPort { state := .joining }
def tLoad : Req := { blankReq with op := 0x20, addr := 0x10000000000, len := 4 }

/-- This member is device 1, and device 0 at port 0 is its time master (R321). -/
def tMaster : State :=
  { regs := ⟨[(0x800001, 1)]⟩
    domain := { ports := ⟨[(0, { state := .up, peerUnfenced := true })]⟩, portMap := ⟨[(0, (1, 0))]⟩ } }
def tDmcPacket : Packet :=
  { src := 0, dst := 7, vc := 3, stand := false, crit := false, req := { blankReq with op := 0x23, origin := .member 1 0 }
    targets := [(⟨7, 2, 0x10000000040, 0, 0⟩ : McTarget)], pseq := 0, stamp := 0 }
def tDmc : State :=
  { tPort { state := .training } with domain := { (tPort { state := .training }).domain with dmc := ⟨[(0, [tDmcPacket])]⟩ } }
/-- A request of device 1 of 4 bytes at offset 0x80, a cached reply, and an outstanding request of context 1 at port 0. -/
def tAsk (op : Nat) : Req := { blankReq with op := op, addr := 0x80, len := 4, data := if op = 0x20 then [] else [1, 2, 3, 4] }
def tReply : Reply := ⟨0x41, ⟨0, 0, [], none, 0⟩⟩
def tReplied : State :=
  { tPort { state := .up } with domain := { (tPort { state := .up }).domain with
      replies := ⟨[(4096, { state := .replied, rid := 0, reply := some tReply })]⟩ } }
def tPart (p : Purpose) : Part := ⟨1, 0, 15, p, [], 0, 0⟩
def tOut (op : Nat) (p : Purpose) : Outstanding :=
  ⟨0, 0, 1, 0, { blankReq with op := op, len := 8 }, some 0, 0, some 0, none, none, false, [tPart p], false⟩
def tAsked (op : Nat) (p : Purpose) : State :=
  { tUp (tMember 0 .idle) with domain := { (tUp (tMember 0 .idle)).domain with outstanding := [tOut op p], nextHandle := 1 } }
def tRsp (d : List Byte) (code : Nat) : Rsp := ⟨0, 0, d, none, code⟩

/-- One ready request of peer 1 at port 0. -/
def tReadyReq (q : Req) : State :=
  { tPort { state := .up } with domain := { (tPort { state := .up }).domain with ready := [q] } }
def tReady (op : Nat) : State := tReadyReq { tAsk op with origin := .peer 0 }
def tReadyLoad : State :=
  { tReady 0x20 with domain := { (tReady 0x20).domain with
      homeLoads := [(⟨0, { tAsk 0x20 with origin := .peer 0 }, [], none⟩ : HomeLoad)] } }
def tIncAsk : Req := { blankReq with op := 0x22, ctx := 1, ref := 0xFC0007, refAmt := 5 }
def tReadyInc : State :=
  let s := tReadyReq { tIncAsk with origin := .peer 0 }
  { s with ctxs := (tMember 0 .idle).ctxs, clusters := (tMember 0 .idle).clusters }
def tAtomAsk (op : Nat) : Req := { blankReq with op := op, addr := 0x80, data := [1, 2, 3, 4, 5, 6, 7, 8] ++ List.replicate 8 0 }
def tReadyAtom (op : Nat) : State := tReadyReq { tAtomAsk op with origin := .peer 0 }
def tQueued : State :=
  { tPort { state := .up } with domain := { (tPort { state := .up }).domain with
      queues := ⟨[(1, { entries := [({ parts := [{ tAsk 0x21 with origin := .peer 0 }] } : QueueEntry)] })]⟩ } }
def tTickets : State := { domain := { queues := ⟨[(1, { tickets := [(⟨4, 0, some 5⟩ : TicketHeld)], nextTicket := 5 })]⟩ } }
def tWaitOut : Outstanding := { tOut 0x22 .increment with waitUntil := some 0, lastRetry := some 134950000 }
def tWaiting : State :=
  { tUp (tMember 0 .idle) with
    clocks := { count := 135000000 }
    domain := { (tUp (tMember 0 .idle)).domain with outstanding := [tWaitOut], nextHandle := 1 } }

/-- Context 1 as given; context 1 DETACHED with its header; context 1 waiting to be bound; a BULK_WRITE of port 0. -/
def tCtx (k : Ctx) : State := { ctxs := ⟨[(1, k)]⟩ }
def tClosed : Ctx := { cls := [0], ringSize := 64, saveBase := 0x100000, saveSize := 0x400000 }
def tDetached : State :=
  ((tCtx tClosed).putBytes 0x100000 (saveHeader 1 tClosed 3 0)).putBytes 0x100800 (complementBytes (saveHeader 1 tClosed 3 0))
def tWaiter (st : CtxState) : State := tCtx { tClosed with state := st, producer := 1 }
def tInbound : Req := { blankReq with op := 0x60, origin := .peer 0, ctx := 1, addr := 0xE000000040, data := [1, 2] }

/-- A packet of 128 bytes of zeros from site 0 to site 1, and states of the rig network that hold it. -/
def tPacket (vc op : Nat) (n : Nat) : Packet :=
  { src := 0, dst := 1, vc := vc, stand := false, crit := false
    req := { blankReq with op := op, ctx := 1, addr := 0x2400000080, len := n, data := List.replicate n 0 }
    targets := [], pseq := 0, stamp := 0 }
def tRig (r : Rig) : State := { tMember 0 .idle with rig := r, package := { dies := ⟨[(0x10, { state := .ready }), (0x11, { state := .ready })]⟩ } }
def tWaitsAt (l : List Packet) : State := tRig { outbox := l }
def tUnderWay (p : Packet) : State := tRig { inFlight := [({ path := laneRx 0 1, seq := 0, packet := p } : Flight)] }
def tAtSite (p : Packet) : State := tRig { arrived := ⟨[(1, [p])]⟩ }
def tMc : Packet :=
  { tPacket 3 0x61 128 with dst := 0, targets := [(⟨1, 1, 0x2400000080, 0, 0⟩ : McTarget), (⟨2, 1, 0x4800000080, 0, 0⟩ : McTarget)] }
def tSplit (r : Rig) : State := tRig { r with lanes := ⟨[(31, { state := .active, targets := 6 })]⟩ }
def tPending (l : List Nat) : McPending := ⟨0, 7, tMc, l, 0, false⟩
def tGrant (from_ : Nat) (l : List Nat) : State :=
  tSplit { mcPending := [tPending l], arrived := ⟨[(0, [ctrlPacket 0x11 from_ 0 7 0])]⟩ }
def tReserved (g : Bool) : McReservation := ⟨1, 0, 7, 2, g, false⟩

/-- Element 0x40100 (receive bank lane 1 of slot 0, ring 0) as given; a bar whose lasers are as given. -/
def tRing (r : Ring) : State := { photonics := { rings := ⟨[(0x40100, r)]⟩ } }
def tBar (l : List (Nat × Laser)) : State := { photonics := { lasers := ⟨l⟩ } }
def tSwapRun (step : Nat) (retired : Bool) : SwapRun := ⟨0, 0, 16, 0, step, retired, 0x41000000⟩
def tSwap (step : Nat) (retired : Bool) : State :=
  { clocks := { count := 1000000 }
    photonics := { bars := ⟨[(0, { swap := some (tSwapRun step retired) })]⟩
                   lasers := ⟨[(0, { channel := some 0, state := .swapping, commissioning := 0x41200000, output := 0x41000000 })]⟩ } }
def tDead : State :=
  tBar [(0, { channel := some 0, state := .dead, commissioning := 0x41200000 }), (16, { forChannel := some 0, state := .preparing })]
def tRamp (goal : Word32) : State :=
  { tBar [(0, { channel := some 0, commissioning := goal, output := 0x41000000, rampAt := some 0 })] with
    clocks := { count := 100000 } }
def tLane0 (l : Lane) : State := { rig := { lanes := ⟨[(0, l)]⟩ } }

/-- Dies as given. -/
def tDie (d : Nat) (k : Die) : State := { package := { dies := ⟨[(d, k)]⟩ } }

/-- Guest site 0, fitted, as given, with its die. -/
def tGuest (k : Guest) (d : DieState) : State :=
  { fuses := { guests := 3 }
    package := { guests := ⟨[(0, k)]⟩, dies := ⟨[(0x40, { state := d })]⟩, pool := 100000 } }
def tCapability : List Byte :=
  padTo 64 (leBytes 2 1 ++ leBytes 2 4 ++ leBytes 8 0 ++ leBytes 8 0x0010001000100010 ++ leBytes 8 4096 ++ leBytes 4 20000)
def tGuestAsk (op addr : Nat) : Req := { blankReq with op := op, addr := addr, len := 4, data := if op = 0x20 then [] else [1, 2, 3, 4] }
def tGuestWindow : State :=
  { tGuest { state := .admitted } .ready with
    domain := { (tUp {}).domain with windows := ⟨[(windowKey 1024 0, tWindow 1 1 1 0x1F 0 0x10000000 0)]⟩ } }
def tGuestShadow : State :=
  { tGuestWindow with
    shadows := ⟨[(0xC10001, 0), (0xC10002, 3)]⟩
    blobShadows := ⟨[(0xC10003, leBytes 32 (tWindow 1 1 1 0x1F 0 0x10000000 0).entry.toNat ++
      leBytes 32 (tWindow 1 1 1 0x1F 0 0x10000000 0).complement.toNat)]⟩ }

/-- The clocks as given; zone 3 as given. -/
def tClocks (k : Clocks) : State := { clocks := k }
def tZone (k : Clock) : State := tClocks { regions := ⟨[(3, k)]⟩ }

/-- Compute die 1 uses 900 W at a grant of 790 W, at power level `l`. -/
def tPower (l : Nat) : State := { clocks := { count := 1000000 }, thermal := { powerLevel := ⟨[(1, l)]⟩ } }
def tPanel (p : Panel) : State := { clusters := ⟨[(7, { panels := ⟨[(2, p)]⟩ })]⟩, clocks := { count := 1000000 }, thermal := { applied := ⟨[(1, 3)]⟩ } }
def tHot (k : Element) (key : Nat) : State := { thermal := { elements := ⟨[(key, k)]⟩ } }

/-- A transaction on Krytae port 0 with TID 7. -/
def tTrans (index sub : Nat) (v : List Byte) : Transaction := ⟨7, 0, false, false, index, sub, 0, 0, v⟩
def tChunk (more : Bool) (v : List Byte) : Transaction := ⟨7, 0, false, more, 0xD000, 2, 0, 0, v⟩
def tCached (tid : BitVec 32) : State := { control := { cache := [(⟨tid, none, 0, [5]⟩ : Cached)] } }
def tForward (a : Option (Nat × List Byte)) : State :=
  { control := { forwards := [(⟨tTrans 0x5020 1 [], 1, [], none, a⟩ : Forward)] } }

/-- Complex 0 ACTIVE with its twin as given, and the control plane as `f` leaves it. -/
def tTwins (st : ComplexState) (f : Machine.Complex → Machine.Complex) (g : Control → Control) : State :=
  { control := g { complexes := ⟨[(0, { state := .active }), (1, f { state := st })]⟩ } }
def tSync (step : Nat) : State := tTwins .syncing (fun c => { c with resyncStep := step }) id

/-- Cluster 7 with one trace record, and the same once the record has left its buffer. -/
def tTrace : State :=
  { clusters := ⟨[(7, { traceBuf := [leBytes 32 5] })]⟩, regs := ⟨[(0xA03001, 0x100000), (0xA03005, 1)]⟩ }
def tTraced : State := tTrace.modCluster 7 fun k => { k with traceBuf := [], traceWritten := 1 }

/-- A STORE of bytes at an offset. -/
def tStoreReq (a : Nat) (d : List Byte) : Req := { blankReq with op := 0x21, addr := a, len := d.length, data := d }
/-- The bell RUNG with a tally increment of a peer held. -/
def tBellHeld : State :=
  { dbg := { bell := .rung, held := [{ blankReq with op := 0x22, ctx := 1, ref := 5, refAmt := 2 }] } }

/-! ### Well-formed commands: an ill-formed term for each check, which the check refuses -/

theorem test_wf_context : (Instr.nop 1023 0).wf = true ∧ (Instr.nop 1024 0).wf = false := by decide
theorem test_wf_cluster : (Instr.nop 0 799).wf = true ∧ (Instr.nop 0 800).wf = false := by decide
theorem test_wf_edge : (Instr.send 0 0 3).wf = true ∧ (Instr.send 0 0 4).wf = false := by decide
theorem test_wf_panel : (Instr.reefPause 0 3).wf = true ∧ (Instr.reefPause 0 4).wf = false := by decide
theorem test_wf_mesh : (Instr.meshRequest ⟨0, 1, .ge, 800, 1, 0, 0, .read 4⟩).wf = false := by decide
theorem test_wf_tally : (Instr.tallyIncrement 0 255 1).wf = true ∧ (Instr.tallyIncrement 0 256 1).wf = false := by decide
theorem test_wf_request : (Instr.inboundRequest { blankReq with op := 256 }).wf = false ∧
    (Instr.inboundRequest { blankReq with op := 0x20, len := 4097 }).wf = false := by decide
theorem test_wf_access : (Instr.homeSliceAccess ⟨126, 2, none, none, false, [], [], 0⟩).wf = true ∧
    (Instr.homeSliceAccess ⟨126, 3, none, none, false, [], [], 0⟩).wf = false := by decide
theorem test_wf_pattern : (Instr.hbmScrub .hbm 0 [(71, 1)] false).wf = true ∧ (Instr.hbmScrub .hbm 0 [(72, 1)] false).wf = false := by decide
theorem test_wf_stack : (Instr.hbmTemperatureRead 24 0 0).wf = false := by decide
theorem test_wf_tower : (Instr.partitionChange 3).wf = true ∧ (Instr.partitionChange 4).wf = false := by decide
theorem test_wf_slot : (Instr.packetAdmit 16 0 0).wf = false := by decide
theorem test_wf_lane : (Instr.packetAdmit 0 0 63).wf = true ∧ (Instr.packetAdmit 0 0 64).wf = false := by decide
theorem test_wf_vc : (Instr.packetDelivery 0 1 8 []).wf = false := by decide
theorem test_wf_guest : (Instr.guestRequest 2 blankReq).wf = false := by decide
theorem test_wf_bar_laser : (Instr.lineEvaluation 12 0 0).wf = false ∧ (Instr.lineEvaluation 0 20 0).wf = false := by decide
theorem test_wf_bank_matrix : (Instr.kRemeasure 0x10000 []).wf = false ∧ (Instr.kRemeasure 0 [0]).wf = false := by decide
theorem test_wf_element : (Instr.toneWindow 0x100000 ⟨none, 0⟩).wf = false := by decide
theorem test_wf_device_entry : (Instr.replyCacheExpiry 48 0).wf = false ∧ (Instr.replyCacheExpiry 0 4096).wf = false := by decide
theorem test_wf_status : (Instr.msgDone (.tower 0) 0 256).wf = false := by decide
theorem test_wf_row : (Instr.timedDoorbell 64).wf = false := by decide
theorem test_wf_die : (Instr.dieReset 256).wf = false := by decide
theorem test_wf_pair : (Instr.refclkLoss 2).wf = false := by decide
theorem test_wf_zone : (Instr.zoneIdle 32).wf = false := by decide
theorem test_wf_region : (Instr.droopTrip (.zone 32) 0).wf = false ∧ (Instr.droopTrip (.cacheDie 4) 0).wf = false ∧
    (Instr.droopTrip (.hubHalf 2) 0).wf = false := by decide
theorem test_wf_thermal : (Instr.thermalSample (.stack 24) []).wf = false ∧ (Instr.thermalSample (.lampBar 12) []).wf = false := by decide
theorem test_wf_transaction : (Instr.odRead ⟨1, 2, false, false, 0, 0, 0, 0, []⟩).wf = false ∧
    (Instr.odRead ⟨1, 0, false, false, 0x10000, 0, 0, 0, []⟩).wf = false ∧
    (Instr.odRead ⟨1, 0, false, false, 0, 0, 0, 4097, []⟩).wf = false := by decide
theorem test_wf_index : (Instr.genericOdWrite 0x10000 0 []).wf = false ∧ (Instr.genericOdWrite 0 256 []).wf = false := by decide
theorem test_wf_event : (Instr.event ⟨0x10000, 0, 0, 0, 0, 0, 0, [], 0, 0⟩).wf = false := by decide
theorem test_wf_rail : (Instr.railFault (.vcd 4)).wf = false ∧ (Instr.railFault .vlmp).wf = true := by decide

/-! ### The spec's worked examples -/

/-- The MXFP4 block of R83: elements 0 to 7 of the block with scale 0x7B, as integer 32nds. -/
theorem test_mxfp4_block : ((List.range 8).map fun i =>
      (applyScale 0x7B (decodeElem 9 [] (elemAt 9 [0x21, 0xF3, 0x0C, 0x97] i))).eq
        ((Num.ofInt ([1, 2, 3, -12, -4, 0, 12, -1].getD i 0)).scale (-5))) = List.replicate 8 true := by decide +kernel

/-- The codebook table of R88's example: entries 0, 6, 7, 10 and 15 are -3, -0.25, 0, 0.75 and 4, as quarters. -/
theorem test_codebook_table : (([(0, -12), (6, -1), (7, 0), (10, 3), (15, 16)] : List (Nat × Int)).all fun e =>
      (decodeElem 11 [0xC4, 0xC0, 0xBC, 0xB8, 0xB4, 0xB0, 0xA8, 0, 0x28, 0x30, 0x34, 0x38, 0x3C, 0x40, 0x44, 0x48] e.1).eq
        ((Num.ofInt e.2).scale (-2))) = true := by decide +kernel

/-- Where device offset 0x48_0001_2C80 lives (R150 to R154): T2, stack HB12, line 601, and set 3 of the 1,638 of slice 1. -/
theorem test_where_an_address_lives : placeOf 0x4800012C80 = .hbm 2 0x12C80 ∧ stackOf 2 0x12C80 = 12 ∧ lineOf 0x12C80 = 601 ∧
    setsOf 8 1 = 1638 ∧ 601 / 200 % setsOf 8 1 = 3 := by decide +kernel

/-- Scratch offset 0x3200 on T2 is device offset 0xC0_8000_3200 (R148). -/
theorem test_scratch_offset : placeOf 0xC080003200 = .scratch 2 0x3200 := by decide +kernel

/-- The window of R269's example: a gather at 0x0210_0000_3F00 by context 41, and one that passes the window's end. -/
def tDomainExample : State :=
  { ({} : State).setReg 0x800001 5 with
    domain := { portMap := ⟨[(11, (1, 17))]⟩, windows := ⟨[(64 * 41 + 3, tWindow 2 17 0 0xF 0x1000000000 0x100000000 0x2440000000)]⟩ } }
theorem test_window_example : tDomainExample.translate 41 0x021000003F00 256 .r =
      .ok { win := 3, device := 17, offset := 0x2440003F00, tctx := 0, noComb := false } ∧
    tDomainExample.translate 41 0x0210FFFFFF80 256 .r = .error 0x0404 := by decide +kernel

/-- The ring of R311's example: with 14 records held a record is written in slot 2; with 15 a gap marker takes slot 3; with
16 the marker counts; after a release to 104 a record takes slot 4. -/
theorem test_ring_overflow :
    let r0 : RecordRing := { count := 114, lastValid := 100 }
    let r1 := (r0.put 16 100 0 [1]).2
    let r2 := (r1.put 16 100 0 [2]).2
    let r3 := (r2.put 16 100 0 [3]).2
    let r4 := (r3.put 16 104 0 [4]).2
    [r1.count, r2.count, r3.count, r4.count] = [115, 116, 116, 117] ∧ r4.drops = 2 ∧ field (r4.slots.get [] 3) 24 8 = 2 ∧
      field (r4.slots.get [] 2) 0 1 = 1 ∧ field (r4.slots.get [] 4) 0 1 = 4 := by decide +kernel

/-- The event delivery table of R492's example holds code 0x1406 with action 1 and 1,000 µs. -/
theorem test_delivery_example :
    let s := (({} : State).setShadow 0xD00001 0x20).setBlobShadow 0xD00002 [1, 1, 0, 0, 8, 0, 0, 0, 6, 0x14, 1, 0, 0xE8, 3, 0, 0]
    s.tableLoad.reg 0xD00003 = 0 ∧ s.tableLoad.deliveryRow 0x1406 = (1, 1000) := by decide +kernel

/-! ### Obligations.RingCommandsRun -/

theorem witness_producerIndexWrite : ∃ (s : State) (x : Nat) (v : BitVec 32),
    0 < x ∧ x < 1024 ∧ (s.ctx x).state ≠ .closed ∧ (s.ctx x).pendingAction ≠ some .close ∧
    ringDist v.toNat (s.ctx x).consumer.toNat ≤ (s.ctx x).ringSize ∧
    ringDist (s.ctx x).producer.toNat (s.ctx x).consumer.toNat ≤ ringDist v.toNat (s.ctx x).consumer.toNat := by
  refine ⟨tMember 0 .idle, 1, 3, ?_⟩
  decide +kernel

theorem witness_descriptorFetch : ∃ (s s1 : State) (x : Nat) (d : List Byte),
    (s.ctx x).state = .bound ∧ (s.ctx x).ending = false ∧
    s.towerServes ((s.ctx x).ringBase / 0x2400000000) = true ∧ (s.ctx x).fetched ≠ (s.ctx x).producer.toNat ∧
    ringDist (s.ctx x).fetched (s.ctx x).consumer.toNat < 8 ∧
    s.loadRange ((s.ctx x).ringBase + 64 * ((s.ctx x).fetched % (s.ctx x).ringSize)) 64 { ctx := x } = (.ok d, s1) := by
  refine ⟨tToFetch, (tToFetch.loadRange 0 64 { ctx := 1 }).2, 1, List.replicate 64 0, ?_⟩
  decide +kernel

theorem witness_commandStart : ∃ (s : State) (x c : Nat) (d : BitVec 512),
    s.starting c = some x ∧ (memberOf (s.ctx x) c).phase = .idle ∧ inClass (s.ctx x).cls c = true ∧
    (s.ctx x).skip.contains (memberOf (s.ctx x) c).next = false ∧
    descriptorAt (s.ctx x) (memberOf (s.ctx x) c).next = some d ∧ dOpcode d ≠ 6 ∧
    (dFlag d 4 = true ∨ (memberOf (s.ctx x) c).next = (s.ctx x).consumer.toNat) ∧
    descriptorFault x (s.ctx x) d = none ∧ runsOn d c = true ∧
    (∀ w ∈ dWaits d, waitSatisfied (s.tally c w.1) w.2 = true) := by
  refine ⟨tMember (tDesc 0 0 0 0 0 0 0 0) .idle, 1, 0, tDesc 0 0 0 0 0 0 0 0, ?_⟩
  decide +kernel

theorem witness_nop : ∃ (s : State) (x c : Nat) (d : BitVec 512),
    s.executing x c 0 .started = some d := by
  refine ⟨tMember (tDesc 0 0 0 0 0 0 0 0) .started, 1, 0, tDesc 0 0 0 0 0 0 0 0, ?_⟩
  decide +kernel

theorem witness_yield : ∃ (s : State) (x c : Nat) (d : BitVec 512),
    s.executing x c 9 .started = some d := by
  refine ⟨tMember (tDesc 9 0 0 0 0 0 0 0) .started, 1, 0, tDesc 9 0 0 0 0 0 0 0, ?_⟩
  decide +kernel

theorem witness_fence : ∃ (s : State) (x c : Nat) (d : BitVec 512),
    s.executing x c 7 .started = some d ∧ (∀ o ∈ s.domain.outstanding, ∀ p ∈ o.parts, p.ctx ≠ x) ∧
    (∀ e ∈ s.messages.tracked.entries, e.2.ctx ≠ x) := by
  refine ⟨tMember (tDesc 7 0 0 0 0 0 0 0) .started, 1, 0, tDesc 7 0 0 0 0 0 0 0, ?_⟩
  decide +kernel

/-! ### Obligations.DataCommandsRun -/

theorem witness_run : ∃ (s s1 s2 s3 : State) (x c : Nat) (d : BitVec 512) (h b : List Byte),
    s.executing x c 1 .started = some d ∧
    s.stallsForPartition (dTtPtr d) (0x40 + 8 * (s.ctx x).cls.length) = false ∧
    s.stallsForPartition (dTtPtr d) (field h 4 4) = false ∧
    s.loadRange (dTtPtr d) (0x40 + 8 * (s.ctx x).cls.length) (s.requesterAt x c) = (.ok h, s1) ∧
    bundleHeaderGood h (s.ctx x).cls.length = true ∧
    s1.bundleEnds (dTtPtr d) h (s.requesterAt x c) (List.range (s.ctx x).cls.length) = (.ok true, s2) ∧
    s2.loadRange (dTtPtr d + (bundleRow h (memberIndex (s.ctx x).cls c)).1) (32 * (bundleRow h (memberIndex (s.ctx
      x).cls c)).2) (s.requesterAt x c) = (.ok b, s3) := by
  refine ⟨tToRun, (tToRun.loadRange 0x1000 0x48 (tToRun.requesterAt 1 0)).2, ((tToRun.loadRange 0x1000 0x48 (tToRun.requesterAt 1 0)).2.bundleEnds 0x1000 tBundleHead (tToRun.requesterAt 1 0) [0]).2, (((tToRun.loadRange 0x1000 0x48 (tToRun.requesterAt 1 0)).2.bundleEnds 0x1000 tBundleHead (tToRun.requesterAt 1 0) [0]).2.loadRange 0x1080 32 (tToRun.requesterAt 1 0)).2, 1, 0, tRunDesc, tBundleHead, leBytes 32 7, ?_⟩
  decide +kernel

theorem witness_copy : ∃ (s : State) (x c : Nat) (d : BitVec 512),
    s.executing x c 2 .started = some d ∧ (s.core c).ceQueue.length < 4 ∧ (s.core c).score.length < 32 := by
  refine ⟨tMember (tDesc 2 0 0xFE0000000000 0xFE0000001000 0 64 1 0) .started, 1, 0, tDesc 2 0 0xFE0000000000 0xFE0000001000 0 64 1 0, ?_⟩
  decide +kernel

theorem witness_tallySet : ∃ (s s1 : State) (x c : Nat) (d : BitVec 512),
    s.executing x c 3 .started = some d ∧
    s.storeRange (clusterOffset c (tallyAddress (dDim0 d % 256))) (leBytes 4 (dAddr0 d)) (s.requesterAt x c) =
      (none, s1) := by
  refine ⟨tMember (tDesc 3 0 77 0 0 5 0 0) .started, ((tMember (tDesc 3 0 77 0 0 5 0 0) .started).storeRange (clusterOffset 0 (tallyAddress 5)) (leBytes 4 77) ((tMember (tDesc 3 0 77 0 0 5 0 0) .started).requesterAt 1 0)).2, 1, 0, tDesc 3 0 77 0 0 5 0 0, ?_⟩
  decide +kernel

theorem witness_cbLoad : ∃ (s s1 : State) (x c : Nat) (d : BitVec 512) (b : List Byte),
    s.executing x c 4 .started = some d ∧ setInUse (s.core c) (descField d 23 18) = false ∧
    s.tableBytes x c (dAddr0 d % 0x400000) 16 = (.ok b, s1) := by
  refine ⟨tMember (tDesc 4 0 0x40 0 0 0 0 0) .started, ((tMember (tDesc 4 0 0x40 0 0 0 0 0) .started).tableBytes 1 0 0x40 16).2, 1, 0, tDesc 4 0 0x40 0 0 0 0 0, List.replicate 16 0, ?_⟩
  decide +kernel

theorem witness_curveLoad : ∃ (s s1 : State) (x c : Nat) (d : BitVec 512) (b : List Byte),
    s.executing x c 5 .started = some d ∧ slotInUse (s.core c) (dDim1 d % 16) = false ∧
    dAddr0 d % 0x400000 % 64 = 0 ∧ s.tableBytes x c (dAddr0 d % 0x400000) 1024 = (.ok b, s1) ∧ curveValid b = true := by
  refine ⟨tToCurve, (tToCurve.tableBytes 1 0 0 1024).2, 1, 0, tCurveDesc, defaultCurve 10, ?_⟩
  decide +kernel

theorem witness_memberPartComplete : ∃ (s : State) (x c : Nat) (d : BitVec 512),
    s.starting c = some x ∧ (s.ctx x).cls = [c] ∧ descriptorAt (s.ctx x) (memberOf (s.ctx x) c).next = some d ∧
    s.partDone c (memberOf (s.ctx x) c) d = true ∧ (memberOf (s.ctx x) c).next = (s.ctx x).consumer.toNat ∧
    dFlag d 2 = false ∧ dFlag d 3 = false ∧ dOpcode d ≠ 9 ∧
    descriptorAt (s.ctx x) (ringNext (s.ctx x).consumer.toNat) = none ∧ (s.ctx x).pendingSeed = none ∧
    (s.ctx x).pendingAction = none ∧ (s.ctx x).deferredSince = none ∧ (s.ctx x).skip = [] := by
  refine ⟨tMember (tDesc 0 0 0 0 0 0 0 0) .done, 1, 0, tDesc 0 0 0 0 0 0 0 0, ?_⟩
  decide +kernel

/-! ### Obligations.TimetableEntriesRun -/

theorem witness_entryNop : ∃ (s : State) (x c : Nat) (r : TimetableRun) (e : BitVec 256),
    s.ocAt c = some (x, r, e) ∧ entryKind e = 0 := by
  refine ⟨tOc (tEntry 0 0 0 (0)) tRun0, 1, 0, tRun0, tEntry 0 0 0 (0), ?_⟩
  decide +kernel

theorem witness_issue : ∃ (s : State) (x c : Nat) (r : TimetableRun) (e : BitVec 256) (reading : ClockedOp) (g : Engine),
    s.ocAt c = some (x, r, e) ∧ entryKind e = 1 ∧ engineOf (entryEngine e) = some g ∧
    (queueOf (s.core c) g).length < queueSize g ∧ (s.core c).score.length < 32 := by
  refine ⟨tOc (tEntry 1 0 0 (0x2)) tRun0, 1, 0, tRun0, tEntry 1 0 0 (0x2), .reservedOp, .me, ?_⟩
  decide +kernel

theorem witness_waitTally : ∃ (s : State) (x c : Nat) (r : TimetableRun) (e : BitVec 256),
    s.ocAt c = some (x, r, e) ∧ entryKind e = 2 ∧
    waitSatisfied (s.tally c (entryTally e)) (bitsOf (entryPayload e).toNat 31 0) = true := by
  refine ⟨tOc (tEntry 2 0 7 (0)) tRun0, 1, 0, tRun0, tEntry 2 0 7 (0), ?_⟩
  decide +kernel

theorem witness_waitEngines : ∃ (s : State) (x c : Nat) (r : TimetableRun) (e : BitVec 256),
    s.ocAt c = some (x, r, e) ∧ entryKind e = 3 ∧ enginesIdle (s.core c) (bitsOf (entryPayload e).toNat 6 0) = true := by
  refine ⟨tOc (tEntry 3 0 0 (0x7F)) tRun0, 1, 0, tRun0, tEntry 3 0 0 (0x7F), ?_⟩
  decide +kernel

theorem witness_inc : ∃ (s s1 s2 : State) (x c : Nat) (r : TimetableRun) (e : BitVec 256) (ref : BitVec 24) (b : List Byte),
    s.ocAt c = some (x, r, e) ∧ entryKind e = 4 ∧
    enginesIdle (s.core c) (bitsOf (entryPayload e).toNat 38 32) = true ∧
    ref = BitVec.ofNat 24 (bitsOf (entryPayload e).toNat 23 0) ∧ validRef (s.ctx x).cls ref = true ∧
    refDevice ref = 63 ∧
    (s.countMeshTo c (refOffset ref c)).loadRange (refOffset ref c) 4 (s.requesterAt x c) = (.ok b, s1) ∧
    s1.storeRange (refOffset ref c) (leBytes 4 (leNat b + bitsOf (entryPayload e).toNat 31 24)) (s.requesterAt x c)
      = (none, s2) := by
  refine ⟨tOc (tEntry 4 0 0 (0x05FFFF07)) tRun0, (((tOc (tEntry 4 0 0 (0x05FFFF07)) tRun0).countMeshTo 0 (refOffset 0xFFFF07 0)).loadRange (refOffset 0xFFFF07 0) 4 ((tOc (tEntry 4 0 0 (0x05FFFF07)) tRun0).requesterAt 1 0)).2, ((((tOc (tEntry 4 0 0 (0x05FFFF07)) tRun0).countMeshTo 0 (refOffset 0xFFFF07 0)).loadRange (refOffset 0xFFFF07 0) 4 ((tOc (tEntry 4 0 0 (0x05FFFF07)) tRun0).requesterAt 1 0)).2.storeRange (refOffset 0xFFFF07 0) (leBytes 4 5) ((tOc (tEntry 4 0 0 (0x05FFFF07)) tRun0).requesterAt 1 0)).2, 1, 0, tRun0, tEntry 4 0 0 (0x05FFFF07), 0xFFFF07, [0, 0, 0, 0], ?_⟩
  decide +kernel

theorem witness_loopFirst : ∃ (s : State) (x c : Nat) (r : TimetableRun) (e : BitVec 256),
    s.ocAt c = some (x, r, e) ∧ entryKind e = 5 ∧ bitsOf (entryPayload e).toNat 31 16 ≤ r.entry ∧
    bitsOf (entryPayload e).toNat 15 0 ≠ 0 ∧ r.loops.length < 4 ∧ (∀ l ∈ r.loops.head?, l.entry ≠ r.entry) := by
  refine ⟨tOc (tEntry 5 0 0 (0x20003)) tRun0, 1, 0, tRun0, tEntry 5 0 0 (0x20003), ?_⟩
  decide +kernel

theorem witness_loopAgain : ∃ (s : State) (x c : Nat) (r : TimetableRun) (e : BitVec 256) (n : Nat) (l : List OpenLoop),
    s.ocAt c = some (x, r, e) ∧ entryKind e = 5 ∧ bitsOf (entryPayload e).toNat 31 16 ≤ r.entry ∧
    r.loops = ⟨r.entry, n + 1⟩ :: l := by
  refine ⟨tOc (tEntry 5 0 0 (0x20003)) { tRun0 with loops := [⟨2, 2⟩] }, 1, 0, { tRun0 with loops := [⟨2, 2⟩] }, tEntry 5 0 0 (0x20003), 1, [], ?_⟩
  decide +kernel

theorem witness_loopOut : ∃ (s : State) (x c : Nat) (r : TimetableRun) (e : BitVec 256) (l : List OpenLoop),
    s.ocAt c = some (x, r, e) ∧ entryKind e = 5 ∧ bitsOf (entryPayload e).toNat 31 16 ≤ r.entry ∧
    r.loops = ⟨r.entry, 0⟩ :: l := by
  refine ⟨tOc (tEntry 5 0 0 (0x20003)) { tRun0 with loops := [⟨2, 0⟩] }, 1, 0, { tRun0 with loops := [⟨2, 0⟩] }, tEntry 5 0 0 (0x20003), [], ?_⟩
  decide +kernel

theorem witness_mark : ∃ (s : State) (x c : Nat) (r : TimetableRun) (e : BitVec 256),
    s.ocAt c = some (x, r, e) ∧ entryKind e = 6 ∧ (s.core c).dumpOpen = [] := by
  refine ⟨tOc (tEntry 6 0 0 (0x1234)) tRun0, 1, 0, tRun0, tEntry 6 0 0 (0x1234), ?_⟩
  decide +kernel

theorem witness_endOp : ∃ (s : State) (x c : Nat) (r : TimetableRun) (e : BitVec 256),
    s.ocAt c = some (x, r, e) ∧ entryKind e = 7 ∧ (s.core c).dumpOpen = [] ∧ (s.core c).score = [] := by
  refine ⟨tOc (tEntry 7 0 0 (0)) tRun0, 1, 0, tRun0, tEntry 7 0 0 (0), ?_⟩
  decide +kernel

/-! ### Obligations.EngineQueuesRun -/

theorem witness_engineOpStart : ∃ (s : State) (x c : Nat) (e : Engine) (dq : Bool) (o : QueuedOp),
    s.starting c = some x ∧ headOf (s.core c) e dq = some o ∧ opRefusal (s.core c) e o = none ∧
    scoreWaits (s.core c) o.seq = false ∧ (dq = false ∨ drainWaits (s.core c) o = false) ∧
    placeFree (s.core c) e dq = true := by
  refine ⟨tEng fun k => { k with xeQueue := [{ reading := .xe ⟨true, 8, 4, 4, 0, 64⟩ }], score := [⟨0, .xe, [(0, 16)], [(64, 80)]⟩] }, 1, 0, .xe, false, { reading := .xe ⟨true, 8, 4, 4, 0, 64⟩ }, ?_⟩
  decide +kernel

theorem witness_engineOpComplete : ∃ (s : State) (x c place busy : Nat) (waits : List (Nat × Nat)) (e : Engine) (o : RunningOp),
    s.working c = some x ∧ s.completable c e place = some o ∧
    ((∀ op, o.op.reading = .ce op → op.inc = none ∨ o.carried = true ∨ e ≠ .ce)) := by
  refine ⟨tEng fun k => { k with mmaDone := [{ finished := true }], score := [⟨0, .me, [], []⟩] }, 1, 0, 0, 7, [(3, 2)], .me, { finished := true }, ?_⟩
  exact ⟨by decide +kernel, by decide +kernel, fun _ h => by cases h⟩

theorem witness_engineSuspend_ce : ∃ (s : State) (x c : Nat),
    s.working c = some x ∧ (s.ctx x).ending = true ∧ s.atBoundary c .ce = true := by
  refine ⟨tEnding (tEng id), 1, 0, ?_⟩
  decide +kernel

theorem witness_engineSuspend_ge : ∃ (s : State) (x c : Nat),
    s.working c = some x ∧ (s.ctx x).ending = true ∧ s.atBoundary c .ge = true := by
  refine ⟨tEnding (tEng id), 1, 0, ?_⟩
  decide +kernel

theorem witness_meProgressRecord : ∃ (s : State) (x c : Nat),
    s.working c = some x ∧ (s.ctx x).ending = true ∧ (s.core c).drain = none ∧ s.withinStep c = false := by
  refine ⟨tEnding (tEng id), 1, 0, ?_⟩
  decide +kernel

/-! ### Obligations.MatrixEngineRuns -/

theorem witness_mma : ∃ (s s1 s2 s3 : State) (x c steps rows ns portWait n p k hs lo : Nat) (m : RunningOp),
    s.workingMe c = some x ∧ (s.core c).mma = some m ∧ s.paused c = false ∧ mmaWaits (s.core c) m.op = false ∧
    s.streamable c (mmaFields m.op.word) m steps rows = (n, p) ∧ (n ≠ 0 ∨ p ≠ 0) ∧
    lo = (if n = 0 then m.rows else 0) ∧
    hs = (if m.progress = 0 ∧ m.rows = 0 ∧ ((s.core c).mmaDone.all fun o => o.finished) = true then 64 else 0) + n
      * stepHandshakes (mmaFields m.op.word) - (if n = 0 then 0 else partHandshakes (mmaFields m.op.word) m.rows) +
      partHandshakes (mmaFields m.op.word) p ∧
    s1 = ((s.modCore c fun k =>
      { setWidth k (mmaFields m.op.word) with mmaDone := k.mmaDone.map (overlapTail hs) }).panelsRan c hs (governed
      hs ns)).bump c 0x120 48 portWait ∧
    s1.runSteps c (mmaFields m.op.word) (s1.requesterAt x c) n m.progress m.rows = (none, k, s2) ∧
    s2.streamRows c (mmaFields m.op.word) (s1.requesterAt x c) k lo (lo + p) = (none, s3) := by
  obtain ⟨p, h⟩ : ∃ p, p = tMmaStart.runSteps 0 (mmaFields tMma.op.word) (tMmaStart.requesterAt 1 0) 1 0 0 := ⟨_, rfl⟩
  have h1 : p.1 = none := by rw [h]; decide +kernel
  refine ⟨tToMma, tMmaStart, p.2.2, p.2.2, 1, 0, 1, 0, 1, 0, 1, 0, p.2.1, tMmaHandshakes, 0, tMma, by decide +kernel, by decide +kernel,
    by decide +kernel, by decide +kernel, by decide +kernel, by decide, by decide, by decide +kernel, rfl, ?_, rfl⟩
  rw [← h1]
  exact h.symm

theorem witness_mmaOneStep : ∃ (s s1 s2 : State) (x c ns portWait hs : Nat) (m : RunningOp) (d : StepData),
    s.startingMe c = some x ∧ (s.core c).mma = some m ∧ s.paused c = false ∧ mmaWaits (s.core c) m.op = false ∧
    m.rows = 0 ∧ m.progress < (mmaFields m.op.word).steps ∧ 0 < (mmaFields m.op.word).rows ∧
    hs = (if m.progress = 0 ∧ ((s.core c).mmaDone.all fun o => o.finished) = true then 64 else 0) + stepHandshakes
      (mmaFields m.op.word) ∧
    s1 = ((s.modCore c fun k =>
      { setWidth k (mmaFields m.op.word) with mmaDone := k.mmaDone.map (overlapTail hs) }).panelsRan c hs (governed
      hs ns)).bump c 0x120 48 portWait ∧
    s1.stepData c (mmaFields m.op.word) m.progress (s1.requesterAt x c) = (.ok d, s2) := by
  obtain ⟨p, h⟩ : ∃ p, p = tMmaStart.stepData 0 (mmaFields tMma.op.word) 0 (tMmaStart.requesterAt 1 0) := ⟨_, rfl⟩
  have h1 : p.1.isOk = true := by rw [h]; decide +kernel
  obtain ⟨q, s2⟩ := p
  cases q with
  | error e => cases h1
  | ok d => exact ⟨tToMma, tMmaStart, s2, 1, 0, 1, 0, tMmaHandshakes, tMma, d, by decide +kernel, by decide +kernel, by decide +kernel,
      by decide +kernel, by decide +kernel, by decide +kernel, by decide +kernel, by decide +kernel, rfl, h.symm⟩

theorem witness_mmaComplete : ∃ (s s1 : State) (x c ns : Nat) (m : RunningOp),
    s.workingMe c = some x ∧ (s.core c).mmaDone.find? (fun q => !q.finished) = some m ∧
    s1 = (if 72 - m.tail = 0 then s else s.panelsRan c (72 - m.tail) (governed (72 - m.tail) ns)) := by
  refine ⟨tEng fun k => { k with mmaDone := [{}] }, (tEng fun k => { k with mmaDone := [{}] }).panelsRan 0 72 (governed 72 5), 1, 0, 5, {}, ?_⟩
  decide +kernel

theorem witness_drain : ∃ (s s1 : State) (x c : Nat) (d : RunningOp),
    s.working c = some x ∧ (s.core c).drain = some d ∧ d.progress = 0 ∧
    s.storeRange (clusterOffset c (drainFields d.op.word).dest) (packElems (drainFields d.op.word).fmt ((drainElems
      (s.core c) (drainFields d.op.word)).map (·.bits))) (s.requesterAt x c) = (none, s1) := by
  refine ⟨tEng fun k => { k with drain := some { op := { word := 0x1 } }, width0 := 64 }, ((tEng fun k => { k with drain := some { op := { word := 0x1 } }, width0 := 64 }).storeRange (clusterOffset 0 0) (List.replicate 256 0) ((tEng id).requesterAt 1 0)).2, 1, 0, { op := { word := 0x1 } }, ?_⟩
  decide +kernel

theorem witness_drainComplete : ∃ (s : State) (x c : Nat) (d : RunningOp),
    s.working c = some x ∧ (s.core c).drain = some d ∧ d.progress ≠ 0 ∧ d.finished = false := by
  refine ⟨tEng fun k => { k with drain := some { progress := 1 } }, 1, 0, { progress := 1 }, ?_⟩
  decide +kernel

/-! ### Obligations.ClockedEnginesRun -/

theorem witness_veOpToRegister : ∃ (s s1 s2 s3 : State) (x c v : Nat) (m : RunningOp) (op : VeOp) (a b d : List Word32),
    s.working c = some x ∧ (s.core c).ve = some m ∧ m.op.reading = .ve op ∧ m.finished = false ∧
    (if 1 ≤ VeKind.arity op.kind then s.veLanes c op.fmtIn op.count op.a (s.requesterAt x c) else (.ok [], s)) =
      (.ok a, s1) ∧
    (if 2 ≤ VeKind.arity op.kind then s1.veLanes c op.fmtIn op.count op.b (s.requesterAt x c) else (.ok [], s1)) =
      (.ok b, s2) ∧
    (if 3 ≤ VeKind.arity op.kind then s2.veLanes c op.fmtIn op.count op.c (s.requesterAt x c) else (.ok [], s2)) =
      (.ok d, s3) ∧
    op.d = .reg v := by
  refine ⟨tEng fun k => { k with ve := some { op := { reading := .ve ⟨.add, 12, 12, .nearestEven, .reg 0, .reg 1, .reg 2, .reg 3, 2⟩ } } }, tEng fun k => { k with ve := some { op := { reading := .ve ⟨.add, 12, 12, .nearestEven, .reg 0, .reg 1, .reg 2, .reg 3, 2⟩ } } }, tEng fun k => { k with ve := some { op := { reading := .ve ⟨.add, 12, 12, .nearestEven, .reg 0, .reg 1, .reg 2, .reg 3, 2⟩ } } }, tEng fun k => { k with ve := some { op := { reading := .ve ⟨.add, 12, 12, .nearestEven, .reg 0, .reg 1, .reg 2, .reg 3, 2⟩ } } }, 1, 0, 3, { op := { reading := .ve ⟨.add, 12, 12, .nearestEven, .reg 0, .reg 1, .reg 2, .reg 3, 2⟩ } }, ⟨.add, 12, 12, .nearestEven, .reg 0, .reg 1, .reg 2, .reg 3, 2⟩, [0, 0], [0, 0], [], ?_⟩
  decide +kernel

theorem witness_veOpToMemory : ∃ (s s1 s2 s3 s4 : State) (x c v : Nat) (m : RunningOp) (op : VeOp) (a b d : List Word32),
    s.working c = some x ∧ (s.core c).ve = some m ∧ m.op.reading = .ve op ∧ m.finished = false ∧
    (if 1 ≤ VeKind.arity op.kind then s.veLanes c op.fmtIn op.count op.a (s.requesterAt x c) else (.ok [], s)) =
      (.ok a, s1) ∧
    (if 2 ≤ VeKind.arity op.kind then s1.veLanes c op.fmtIn op.count op.b (s.requesterAt x c) else (.ok [], s1)) =
      (.ok b, s2) ∧
    (if 3 ≤ VeKind.arity op.kind then s2.veLanes c op.fmtIn op.count op.c (s.requesterAt x c) else (.ok [], s2)) =
      (.ok d, s3) ∧
    op.d = .mem v ∧
    s3.storeRange (clusterOffset c v) (packElems op.fmtOut ((veResults op a b d).map (fun w => (storeLane op.kind
      (isPlainFloat op.fmtIn) op.fmtOut w).bits))) (s3.requesterAt x c) = (none, s4) := by
  refine ⟨tEng fun k => { k with ve := some { op := { reading := .ve ⟨.add, 12, 12, .nearestEven, .reg 0, .reg 1, .reg 2, .mem 64, 2⟩ } } }, tEng fun k => { k with ve := some { op := { reading := .ve ⟨.add, 12, 12, .nearestEven, .reg 0, .reg 1, .reg 2, .mem 64, 2⟩ } } }, tEng fun k => { k with ve := some { op := { reading := .ve ⟨.add, 12, 12, .nearestEven, .reg 0, .reg 1, .reg 2, .mem 64, 2⟩ } } }, tEng fun k => { k with ve := some { op := { reading := .ve ⟨.add, 12, 12, .nearestEven, .reg 0, .reg 1, .reg 2, .mem 64, 2⟩ } } }, ((tEng fun k => { k with ve := some { op := { reading := .ve ⟨.add, 12, 12, .nearestEven, .reg 0, .reg 1, .reg 2, .mem 64, 2⟩ } } }).storeRange (clusterOffset 0 64) [0, 0, 0, 0, 0, 0, 0, 0] ((tEng id).requesterAt 1 0)).2, 1, 0, 64, { op := { reading := .ve ⟨.add, 12, 12, .nearestEven, .reg 0, .reg 1, .reg 2, .mem 64, 2⟩ } }, ⟨.add, 12, 12, .nearestEven, .reg 0, .reg 1, .reg 2, .mem 64, 2⟩, [0, 0], [0, 0], [], ?_⟩
  decide +kernel

theorem witness_aeOp : ∃ (s s1 s2 : State) (x c : Nat) (m : RunningOp) (op : AeOp) (d : List Byte),
    s.working c = some x ∧ (s.core c).ae = some m ∧ m.op.reading = .ae op ∧ m.finished = false ∧
    s.fetch c op.source (elemBytes op.fmtIn op.count) (s.requesterAt x c) = (.ok d, s1) ∧
    s1.storeRange (clusterOffset c op.dest) (packElems op.fmtOut ((List.range op.count).map (fun i => (convertElem
      op.fmtOut .nearestEven (curveEval (curveSlot (s.core c) op.slot) (decodeElem op.fmtIn [] (elemAt op.fmtIn d
      i)))).bits))) (s1.requesterAt x c) = (none, s2) := by
  refine ⟨tEng fun k => { k with ae := some { op := { reading := .ae ⟨10, 0, 0, 0, 64, 1⟩ } } }, ((tEng fun k => { k with ae := some { op := { reading := .ae ⟨10, 0, 0, 0, 64, 1⟩ } } }).fetch 0 0 4 ((tEng id).requesterAt 1 0)).2, ((((tEng fun k => { k with ae := some { op := { reading := .ae ⟨10, 0, 0, 0, 64, 1⟩ } } }).fetch 0 0 4 ((tEng id).requesterAt 1 0)).2).storeRange (clusterOffset 0 64) [0, 0, 0, 0] ((tEng id).requesterAt 1 0)).2, 1, 0, { op := { reading := .ae ⟨10, 0, 0, 0, 64, 1⟩ } }, ⟨10, 0, 0, 0, 64, 1⟩, [0, 0, 0, 0], ?_⟩
  decide +kernel

theorem witness_xeOp : ∃ (s s1 s2 : State) (x c : Nat) (m : RunningOp) (op : XeOp) (d : List Byte),
    s.working c = some x ∧ (s.core c).xe = some m ∧ m.op.reading = .xe op ∧ m.finished = false ∧
    s.fetch c op.source (xeBytes op) (s.requesterAt x c) = (.ok d, s1) ∧
    s1.storeRange (clusterOffset c op.dest) (xeResult op d) (s1.requesterAt x c) = (none, s2) := by
  refine ⟨tEng fun k => { k with xe := some { op := { reading := .xe ⟨true, 8, 2, 2, 0, 64⟩ } } }, ((tEng fun k => { k with xe := some { op := { reading := .xe ⟨true, 8, 2, 2, 0, 64⟩ } } }).fetch 0 0 4 ((tEng id).requesterAt 1 0)).2, ((((tEng fun k => { k with xe := some { op := { reading := .xe ⟨true, 8, 2, 2, 0, 64⟩ } } }).fetch 0 0 4 ((tEng id).requesterAt 1 0)).2).storeRange (clusterOffset 0 64) [0, 0, 0, 0] ((tEng id).requesterAt 1 0)).2, 1, 0, { op := { reading := .xe ⟨true, 8, 2, 2, 0, 64⟩ } }, ⟨true, 8, 2, 2, 0, 64⟩, [0, 0, 0, 0], ?_⟩
  decide +kernel

theorem witness_qeOp : ∃ (s s1 s2 s3 s4 s5 : State) (x c : Nat) (m : RunningOp) (op : QeOp) (d e : List Byte),
    s.working c = some x ∧ (s.core c).qe = some m ∧ m.op.reading = .qe op ∧ m.finished = false ∧
    s.fetch c op.source (elemBytes op.fmtIn op.count) (s.requesterAt x c) = (.ok d, s1) ∧
    s1.fetch c op.sourceScales (if isScaled op.fmtIn then op.count / 32 else 0) (s.requesterAt x c) = (.ok e, s2) ∧
    s2.storeRange (clusterOffset c op.dest) (packElems op.fmtOut ((qeOutputs op (codebook (s.core c) op.set) (if
      qeStochastic (s.core c) op then some (drawAt (drawKey (s.core c).seed (s.idsOf c).step c ((s.core c).opn -
      1))) else none) (qeInputs op (codebook (s.core c) op.set) d e)).2.map (·.bits))) (s2.requesterAt x c) =
      (none, s3) ∧
    s4 = (s3.noteConversions c .qe m.op.word (atAddresses op.fmtOut op.dest (qeOutputs op (codebook (s.core c)
      op.set) (if qeStochastic (s.core c) op then some (drawAt (drawKey (s.core c).seed (s.idsOf c).step c ((s.core
      c).opn - 1))) else none) (qeInputs op (codebook (s.core c) op.set) d e)).2)).bump c 0x230 32 (((qeOutputs op
      (codebook (s.core c) op.set) (if qeStochastic (s.core c) op then some (drawAt (drawKey (s.core c).seed
      (s.idsOf c).step c ((s.core c).opn - 1))) else none) (qeInputs op (codebook (s.core c) op.set) d e)).1.filter
      (· = 0xFF)).length) ∧
    s4.storeRange (clusterOffset c op.destScales) ((qeOutputs op (codebook (s.core c) op.set) (if qeStochastic
      (s.core c) op then some (drawAt (drawKey (s.core c).seed (s.idsOf c).step c ((s.core c).opn - 1))) else none)
      (qeInputs op (codebook (s.core c) op.set) d e)).1.map (fun v => BitVec.ofNat 8 v)) (s.requesterAt x c) =
      (none, s5) := by
  refine ⟨tEng fun k => { k with qe := some { op := { reading := .qe ⟨0, 1, .nearestEven, 0, 0, 0, 64, 0, 1⟩ } } }, ((tEng fun k => { k with qe := some { op := { reading := .qe ⟨0, 1, .nearestEven, 0, 0, 0, 64, 0, 1⟩ } } }).fetch 0 0 4 ((tEng id).requesterAt 1 0)).2, ((tEng fun k => { k with qe := some { op := { reading := .qe ⟨0, 1, .nearestEven, 0, 0, 0, 64, 0, 1⟩ } } }).fetch 0 0 4 ((tEng id).requesterAt 1 0)).2, ((((tEng fun k => { k with qe := some { op := { reading := .qe ⟨0, 1, .nearestEven, 0, 0, 0, 64, 0, 1⟩ } } }).fetch 0 0 4 ((tEng id).requesterAt 1 0)).2).storeRange (clusterOffset 0 64) [0, 0] ((tEng id).requesterAt 1 0)).2, (((((tEng fun k => { k with qe := some { op := { reading := .qe ⟨0, 1, .nearestEven, 0, 0, 0, 64, 0, 1⟩ } } }).fetch 0 0 4 ((tEng id).requesterAt 1 0)).2).storeRange (clusterOffset 0 64) [0, 0] ((tEng id).requesterAt 1 0)).2.noteConversions 0 .qe 0 [(64, { bits := 0 })]).bump 0 0x230 32 0, (((((tEng fun k => { k with qe := some { op := { reading := .qe ⟨0, 1, .nearestEven, 0, 0, 0, 64, 0, 1⟩ } } }).fetch 0 0 4 ((tEng id).requesterAt 1 0)).2).storeRange (clusterOffset 0 64) [0, 0] ((tEng id).requesterAt 1 0)).2.noteConversions 0 .qe 0 [(64, { bits := 0 })]).bump 0 0x230 32 0, 1, 0, { op := { reading := .qe ⟨0, 1, .nearestEven, 0, 0, 0, 64, 0, 1⟩ } }, ⟨0, 1, .nearestEven, 0, 0, 0, 64, 0, 1⟩, [0, 0, 0, 0], [], ?_⟩
  decide +kernel

theorem witness_geOp : ∃ (s s1 : State) (x c indices n i : Nat) (m : RunningOp) (op : GeOp),
    s.working c = some x ∧ (s.core c).ge = some m ∧ m.op.reading = .ge op ∧
    n = min (if (s.starting c).isSome then indices else min indices (if m.progress % 16 = 0 then 0 else 16 -
      m.progress % 16)) (op.count - m.progress) ∧
    s.geIndices x c m.op.seq op n m.progress = (none, i, s1) := by
  refine ⟨tEng fun k => { k with ge := some { op := { reading := .ge ⟨.gather, 0, 4, 1, 0, 64, 0xFE0000000100⟩ } } }, ((tEng fun k => { k with ge := some { op := { reading := .ge ⟨.gather, 0, 4, 1, 0, 64, 0xFE0000000100⟩ } } }).geIndices 1 0 0 ⟨.gather, 0, 4, 1, 0, 64, 0xFE0000000100⟩ 1 0).2.2, 1, 0, 1, 1, 1, { op := { reading := .ge ⟨.gather, 0, 4, 1, 0, 64, 0xFE0000000100⟩ } }, ⟨.gather, 0, 4, 1, 0, 64, 0xFE0000000100⟩, ?_⟩
  decide +kernel

theorem witness_ceCopy : ∃ (s s1 s2 : State) (x c place bytes n : Nat) (m : RunningOp) (op : CeOp) (d : List Byte),
    s.working c = some x ∧ (s.core c).copies[place]? = some m ∧ m.op.reading = .ce op ∧
    ((s.starting c).isSome = true ∨ m.progress % 4096 ≠ 0) ∧ n = min bytes (copyPiece op m.progress) ∧ 0 < n ∧
    m.progress < copyBytes op ∧
    s.engineLoad x c .ce (copyAddress op op.source m.progress) n (.copyRead m.op.seq m.progress) = (.ok (some d),
      s1) ∧
    s1.copyOut x c m op m.progress d = (none, s2) := by
  refine ⟨tEng fun k => { k with copies := [{ op := { reading := .ce ⟨0xFE0000000000, 0xFE0000000100, 4, 1, 0, none⟩ } }] }, ((tEng fun k => { k with copies := [{ op := { reading := .ce ⟨0xFE0000000000, 0xFE0000000100, 4, 1, 0, none⟩ } }] }).engineLoad 1 0 .ce 0xFE0000000000 4 (.copyRead 0 0)).2, (((tEng fun k => { k with copies := [{ op := { reading := .ce ⟨0xFE0000000000, 0xFE0000000100, 4, 1, 0, none⟩ } }] }).engineLoad 1 0 .ce 0xFE0000000000 4 (.copyRead 0 0)).2.copyOut 1 0 { op := { reading := .ce ⟨0xFE0000000000, 0xFE0000000100, 4, 1, 0, none⟩ } } ⟨0xFE0000000000, 0xFE0000000100, 4, 1, 0, none⟩ 0 [0, 0, 0, 0]).2, 1, 0, 0, 64, 4, { op := { reading := .ce ⟨0xFE0000000000, 0xFE0000000100, 4, 1, 0, none⟩ } }, ⟨0xFE0000000000, 0xFE0000000100, 4, 1, 0, none⟩, [0, 0, 0, 0], ?_⟩
  decide +kernel

theorem witness_ceCopyRemoteRead : ∃ (s s1 : State) (x c place bytes n : Nat) (m : RunningOp) (op : CeOp),
    s.working c = some x ∧ (s.core c).copies[place]? = some m ∧ m.op.reading = .ce op ∧
    ((s.starting c).isSome = true ∨ m.progress % 4096 ≠ 0) ∧ n = min bytes (copyPiece op m.progress) ∧ 0 < n ∧
    m.progress < copyBytes op ∧
    s.engineLoad x c .ce (copyAddress op op.source m.progress) n (.copyRead m.op.seq m.progress) = (.ok none, s1) := by
  refine ⟨tRemoteCopy, (tRemoteCopy.engineLoad 1 0 .ce 0x10000000000 4 (.copyRead 0 0)).2, 1, 0, 0, 64, 4, tRemoteOp, ⟨0x10000000000, 0xFE0000000100, 4, 1, 0, none⟩, ?_⟩
  decide +kernel

/-! ### Obligations.TackCommandsRun -/

theorem witness_planCommit : ∃ (s : State) (n : Nat) (p : List Byte),
    s.commitPending 0x41 = false ∧ n = s.shadow 0x410001 ∧ p = s.blobShadow 0x410002 ∧ s.planStatus n p = 0 ∧
    s.tackNames n = false := by
  refine ⟨tPlanShadow, 1, tPlanPayload, ?_⟩
  decide +kernel

theorem witness_tackRequest : ∃ (s : State) (n : Nat),
    s.planLoaded n = true ∧ s.coll.queue.length < 16 := by
  refine ⟨{}, 0, ?_⟩
  decide +kernel

theorem witness_tackStart : ∃ (s : State) (q : TackRequest),
    s.coll.tack = none ∧ s.coll.queue.find? (fun q => !s.hitsClaims q.plan) = some q ∧
    (q.plan = 0 ∨ complementBytes (s.plan q.plan).image = (s.plan q.plan).complement) ∧
    overfull (s.aimsWith q.plan) = none := by
  refine ⟨tTackQueue, ⟨1, none, 0, false⟩, ?_⟩
  decide +kernel

theorem witness_tackQuiesced : ∃ (s : State) (k : Tack),
    s.coll.tack = some k ∧ k.step = .quiescing ∧
    ((∀ l ∈ k.lanes, (s.laneAt l).replay = []) ∨ k.started + 2200 ≤ s.now) := by
  refine ⟨tTack .quiescing, tTackRun .quiescing, ?_⟩
  decide +kernel

theorem witness_tackRetuned : ∃ (s : State) (k : Tack) (failed : List Nat) (wrong : List (Nat × Nat × Nat)),
    s.coll.tack = some k ∧ k.step = .retuning := by
  refine ⟨tTack .retuning, tTackRun .retuning, [], [], ?_⟩
  decide +kernel

theorem witness_tackDone : ∃ (s : State) (k : Tack),
    s.coll.tack = some k ∧ k.step = .trained := by
  refine ⟨tTack .trained, tTackRun .trained, ?_⟩
  decide +kernel

/-! ### Obligations.CollectiveStartsAndStops -/

theorem witness_collective : ∃ (s : State) (x c n : Nat) (d : BitVec 512),
    s.readyAt x c = some (n, d) ∧ dOpcode d = 6 ∧
    (s.coll.joins.all fun j => !(decide (j.ttPtr = dTtPtr d) && j.members.contains (x, c))) = true := by
  refine ⟨tMember tCollDesc .idle, 1, 0, 0, tCollDesc, ?_⟩
  decide +kernel

theorem witness_collectiveJoin : ∃ (s s1 s2 : State) (tt x : Nat) (l : List Nat) (j : JoinWait) (p : Program),
    s.coll.joins.find? (fun j => j.ttPtr = tt) = some j ∧
    (s.waitingAt j).filter (fun x => (s.ctx x).state = .bound && !(s.ctx x).ending) = x :: l ∧ s.belled = false ∧
    s.programStalls tt = false ∧ s.readProgram tt { ctx := x, ids := dIds x (s.collectiveAt x) } = (.ok p, s1) ∧
    (p.ctxs.all (x :: l).contains && decide (p.ctxs ≠ []) && (x :: l).all p.ctxs.contains) = true ∧
    s2 = s1.zeroTallies p.tally (s1.participantsOf p.ctxs) ∧ s2.programGood p = true ∧
    p.transfers.all (fun q => s2.transferGood p q) = true := by
  refine ⟨tJoin, (tJoin.readProgram 0x2000 { ctx := 1, ids := dIds 1 tCollDesc }).2, (tJoin.readProgram 0x2000 { ctx := 1, ids := dIds 1 tCollDesc }).2.zeroTallies 9 [(1, 0)], 0x2000, 1, [], ⟨0x2000, [(1, 0)], some 0⟩, ⟨true, [1], 9, [⟨0xFF, 0, 1⟩], [⟨0x60, 0, 0, 0, 0x100, 64, 0, 1⟩]⟩, ?_⟩
  decide +kernel

theorem witness_joinLimitExpiry : ∃ (s : State) (tt t0 : Nat) (j : JoinWait),
    s.coll.joins.find? (fun j => j.ttPtr = tt) = some j ∧ j.firstAt = some t0 ∧ s.reg 0x411101 ≠ 0 ∧
    s.belled = false ∧ t0 + 1000 * s.reg 0x411101 ≤ s.now := by
  refine ⟨{ tJoin with clocks := { tJoin.clocks with count := 2000000000 } }, 0x2000, 0, ⟨0x2000, [(1, 0)], some 0⟩, ?_⟩
  decide +kernel

theorem witness_waitLimitAtEntry : ∃ (s : State) (x c t0 : Nat) (r : TimetableRun) (e : BitVec 256),
    s.ocAt c = some (x, r, e) ∧ r.waitSince = some t0 ∧ (s.ctx x).waitLimit ≠ 0 ∧
    t0 + 1000 * (s.ctx x).waitLimit < s.now := by
  refine ⟨(tOc (tEntry 2 0 7 5) { tRun0 with waitSince := some 0 }).modCtx 1 fun k => { k with waitLimit := 5 }, 1, 0, 0, { tRun0 with waitSince := some 0 }, tEntry 2 0 7 5, ?_⟩
  decide +kernel

theorem witness_waitLimitInCollective : ∃ (s : State) (x c t0 : Nat),
    s.ocAt c = none ∧ s.starting c = some x ∧ s.stoppedSince x c = some t0 ∧ (s.ctx x).waitLimit ≠ 0 ∧
    t0 + 1000 * (s.ctx x).waitLimit < s.now := by
  refine ⟨tStoppedColl, 1, 0, 0, ?_⟩
  decide +kernel

/-! ### Obligations.CollectivePhasesRun -/

theorem witness_phaseGo : ∃ (s : State) (w : Nat) (r : Collective),
    s.belled = false ∧ s.coll.running.find? (fun r => r.goDue.contains w && decide (r.stopped = [])) = some r := by
  refine ⟨tColl { tRunning with goDue := [0] }, 0, { tRunning with goDue := [0] }, ?_⟩
  decide +kernel

theorem witness_transferIssueAway : ∃ (s s1 : State) (n p j : Nat) (r : Collective) (d : List Byte),
    s.coll.running.find? (fun r => r.seq = n) = some r ∧ s.belled = false ∧ p < r.participants.length ∧
    r.goTo.contains (r.clusterOf p / 200) = true ∧ (s.ctx (r.ctxOf p)).state = .bound ∧
    r.stopped.contains (r.ctxOf p) = false ∧ r.openOf p + (s.core (r.clusterOf p)).copies.length < 16 ∧
    r.nextFor p = some j ∧ s.stallsForPartition (r.record j).srcOff (r.record j).length = false ∧
    waitSatisfied (s.tally (r.clusterOf p) r.tally) (r.record j).wait.toNat = true ∧
    s.loadRange (r.record j).srcOff (r.record j).length (s.requesterAt (r.ctxOf p) (r.clusterOf p)) = (.ok d, s1) ∧
    (∀ k < max 1 d.length, siteOfOffset ((r.record j).dstOff + k) ≠ r.clusterOf p / 200) := by
  refine ⟨tIssueAway, (tIssueAway.loadRange 0xE000000000 64 (tIssueAway.requesterAt 1 0)).2, 5, 0, 0, tRunAway, List.replicate 64 0, ?_⟩
  decide +kernel

theorem witness_transferIssueHere : ∃ (s s1 : State) (n p j : Nat) (r : Collective) (d : List Byte),
    s.coll.running.find? (fun r => r.seq = n) = some r ∧ s.belled = false ∧ p < r.participants.length ∧
    r.goTo.contains (r.clusterOf p / 200) = true ∧ (s.ctx (r.ctxOf p)).state = .bound ∧
    r.stopped.contains (r.ctxOf p) = false ∧ r.openOf p + (s.core (r.clusterOf p)).copies.length < 16 ∧
    r.nextFor p = some j ∧ s.stallsForPartition (r.record j).srcOff (r.record j).length = false ∧
    waitSatisfied (s.tally (r.clusterOf p) r.tally) (r.record j).wait.toNat = true ∧
    s.loadRange (r.record j).srcOff (r.record j).length (s.requesterAt (r.ctxOf p) (r.clusterOf p)) = (.ok d, s1) ∧
    (∀ k < max 1 d.length, siteOfOffset ((r.record j).dstOff + k) = r.clusterOf p / 200) ∧
    s.stallsForPartition (r.record j).dstOff (r.record j).length = false := by
  refine ⟨tIssueHere, (tIssueHere.loadRange 0xE000000000 64 (tIssueHere.requesterAt 1 0)).2, 5, 0, 0, tRunning, List.replicate 64 0, ?_⟩
  decide +kernel

theorem witness_phaseSentNotAll : ∃ (s : State) (n w : Nat) (r : Collective),
    s.coll.running.find? (fun r => r.seq = n) = some r ∧ r.goTo.contains w = true ∧ r.sentBy.contains w = false ∧
    r.stopped = [] ∧ s.towerSent r w = true ∧ r.phase < r.phases.length ∧
    r.towers.all (w :: r.sentBy).contains = false := by
  refine ⟨tColl tTwoTowers, 5, 0, tTwoTowers, ?_⟩
  decide +kernel

theorem witness_phaseSentAll : ∃ (s : State) (n w : Nat) (r : Collective),
    s.coll.running.find? (fun r => r.seq = n) = some r ∧ r.goTo.contains w = true ∧ r.sentBy.contains w = false ∧
    r.stopped = [] ∧ s.towerSent r w = true ∧ r.phase + 1 < r.phases.length ∧
    r.towers.all (w :: r.sentBy).contains = true := by
  refine ⟨tColl tTwoPhases, 5, 0, tTwoPhases, ?_⟩
  decide +kernel

theorem witness_transferConfirm : ∃ (s : State) (n j : Nat) (r : Collective),
    s.coll.running.find? (fun r => r.seq = n) = some r ∧ r.landed.contains j = true ∧
    r.confirmed.contains j = false ∧
    (r.stopped ≠ [] ∨ Collective.through { r with confirmed := j :: r.confirmed } = false) := by
  refine ⟨tColl { tRunning with landed := [0] }, 5, 0, { tRunning with landed := [0] }, ?_⟩
  decide +kernel

theorem witness_transferConfirmLast : ∃ (s : State) (n j : Nat) (r : Collective),
    s.coll.running.find? (fun r => r.seq = n) = some r ∧ r.landed.contains j = true ∧
    r.confirmed.contains j = false ∧ r.stopped = [] ∧
    Collective.through { r with confirmed := j :: r.confirmed } = true := by
  refine ⟨tColl { tRunning with landed := [0], phase := 1 }, 5, 0, { tRunning with landed := [0], phase := 1 }, ?_⟩
  decide +kernel

theorem witness_redAddFp32 : ∃ (s s1 s2 : State) (site x c : Nat) (p : Packet) (old : List Byte),
    s.firstArrived site 0x62 = some p ∧ s.stallsForPartition p.req.addr p.req.data.length = false ∧
    p.req.data.length = 128 ∧ p.req.refAmt = 0 ∧ p.req.origin = .member x c ∧
    s.loadRange p.req.addr 128 (s.originRequester p.req) = (.ok old, s1) ∧
    s1.storeRange p.req.addr ((lanesOf 4 old).mapIdx (fun j l => leBytes 4 (fp32Add (BitVec.ofNat 32 (leNat l))
      (BitVec.ofNat 32 (field p.req.data (4 * j) 4))).toNat)).flatten (s.originRequester p.req) = (none, s2) := by
  refine ⟨(tRed 0x62), ((tRed 0x62).loadRange 0 128 ((tRed 0x62).originRequester (tRedPacket 0x62).req)).2, (((tRed 0x62).loadRange 0 128 ((tRed 0x62).originRequester (tRedPacket 0x62).req)).2.storeRange 0 (List.replicate 128 0) ((tRed 0x62).originRequester (tRedPacket 0x62).req)).2, 0, 1, 0, (tRedPacket 0x62), List.replicate 128 0, ?_⟩
  decide +kernel

theorem witness_redAddBf16 : ∃ (s s1 s2 : State) (site x c : Nat) (p : Packet) (old : List Byte),
    s.firstArrived site 0x63 = some p ∧ s.stallsForPartition p.req.addr p.req.data.length = false ∧
    p.req.data.length = 128 ∧ p.req.refAmt = 0 ∧ p.req.origin = .member x c ∧
    s.loadRange p.req.addr 128 (s.originRequester p.req) = (.ok old, s1) ∧
    s1.storeRange p.req.addr ((lanesOf 2 old).mapIdx (fun j l => leBytes 2 (bf16Add (leNat l) (field p.req.data (2
      * j) 2)))).flatten (s.originRequester p.req) = (none, s2) := by
  refine ⟨(tRed 0x63), ((tRed 0x63).loadRange 0 128 ((tRed 0x63).originRequester (tRedPacket 0x63).req)).2, (((tRed 0x63).loadRange 0 128 ((tRed 0x63).originRequester (tRedPacket 0x63).req)).2.storeRange 0 (List.replicate 128 0) ((tRed 0x63).originRequester (tRedPacket 0x63).req)).2, 0, 1, 0, (tRedPacket 0x63), List.replicate 128 0, ?_⟩
  decide +kernel

/-! ### Obligations.MessagesTravel -/

theorem witness_sendLocal : ∃ (s s1 : State) (x c edge k : Nat) (d : BitVec 512) (b : List Byte),
    s.executing x c 8 .started = some d ∧ sendValid d = true ∧ s.freeEntry edge = some k ∧
    isLocalForm (dAddr0 d) = true ∧ s.tableBytes x c (dAddr0 d % 0x400000) (dDim0 d) = (.ok b, s1) := by
  refine ⟨tMember tSendDesc .started, ((tMember tSendDesc .started).tableBytes 1 0 0 4).2, 1, 0, 0, 0, tSendDesc, [0, 0, 0, 0], ?_⟩
  decide +kernel

theorem witness_sendRemote : ∃ (s s1 : State) (x c edge : Nat) (d : BitVec 512),
    s.executing x c 8 .started = some d ∧ sendValid d = true ∧ (s.freeEntry edge).isSome = true ∧
    isLocalForm (dAddr0 d) = false ∧
    s.issueRequest { blankReq with op := 0x20, origin := .member x c, ctx := x, addr := dAddr0 d, len := dDim0 d }
      ⟨x, c, noEngine, .send edge, [], s.now, dAddr0 d⟩ (s.requesterAt x c) = (.sent, s1) := by
  refine ⟨tSendFar, (tSendFar.issueRequest { blankReq with op := 0x20, origin := .member 1 0, ctx := 1, addr := 0x10000000000, len := 4 } ⟨1, 0, noEngine, .send 0, [], tSendFar.now, 0x10000000000⟩ (tSendFar.requesterAt 1 0)).2, 1, 0, 0, tSendFarDesc, ?_⟩
  decide +kernel

theorem witness_messageFromEdgeOut : ∃ (s : State) (edge p : Nat) (m q : Message) (rest : List Message),
    s.messages.toEdge.get [] edge = q :: rest ∧ s.hopFull q = false ∧ s.routeTo q.dom q.dev = .port p := by
  refine ⟨tMsg 1 [] , 0, 0, tMessage 1, tMessage 1, [], ?_⟩
  decide +kernel

theorem witness_messageFromEdgeHere : ∃ (s : State) (edge : Nat) (m q : Message) (rest : List Message) (i : Inbox),
    s.messages.toEdge.get [] edge = q :: rest ∧ s.hopFull q = false ∧ s.routeTo q.dom q.dev = .here ∧
    SMap.lookup s.messages.inboxes.entries q.inbox = some i := by
  refine ⟨tMsg 0 [(0, {})], 0, tMessage 0, tMessage 0, [], {}, ?_⟩
  decide +kernel

theorem witness_messageFromPortHere : ∃ (s : State) (w : Nat) (m : Message) (i : Inbox),
    s.carriesMessages w = true ∧ s.hopFull m = false ∧ 1 ≤ m.payload.length ∧ m.payload.length ≤ 4064 ∧
    (4294967296 + m.mseq - (s.port w).mseqAccepted) % 4294967296 < 2147483648 ∧ s.routeTo m.dom m.dev = .here ∧
    SMap.lookup s.messages.inboxes.entries m.inbox = some i := by
  refine ⟨tMsg 0 [(0, {})], 0, tMessage 0, {}, ?_⟩
  decide +kernel

theorem witness_messageFromPortOn : ∃ (s : State) (w p : Nat) (m : Message),
    s.carriesMessages w = true ∧ s.hopFull m = false ∧ 1 ≤ m.payload.length ∧ m.payload.length ≤ 4064 ∧
    (4294967296 + m.mseq - (s.port w).mseqAccepted) % 4294967296 < 2147483648 ∧ s.routeTo m.dom m.dev = .port p ∧
    p ≠ w ∧ m.hops ≠ 0 := by
  refine ⟨tMsg 1 [], 1, 0, tMessage 1, ?_⟩
  decide +kernel

theorem witness_msgDoneHere : ∃ (s : State) (edge id : Nat) (k : TrackedMessage),
    s.routeTo (bitsOf id 35 20) (bitsOf id 19 12) = .here ∧ bitsOf id 11 10 = edge ∧
    SMap.lookup s.messages.tracked.entries (1024 * edge + bitsOf id 9 0) = some k := by
  refine ⟨tTracked, 0, 0x100000 * 1, ⟨1, 0, 0, 0, 0⟩, ?_⟩
  decide +kernel

theorem witness_msgDoneFromPortHere : ∃ (s : State) (w id : Nat) (k : TrackedMessage),
    s.routeTo (bitsOf id 35 20) (bitsOf id 19 12) = .here ∧
    SMap.lookup s.messages.tracked.entries (1024 * bitsOf id 11 10 + bitsOf id 9 0) = some k := by
  refine ⟨tTracked, 0, 0x100000 * 1, ⟨1, 0, 0, 0, 0⟩, ?_⟩
  decide +kernel

theorem witness_msgDoneOn : ∃ (s : State) (edge id status p : Nat),
    s.routeTo (bitsOf id 35 20) (bitsOf id 19 12) = .port p ∧ s.carriesMessages p = true ∧
    s.sends (.msgDone p id status) = true := by
  refine ⟨tMsg 1 [], 0, 0x100000 * 1 + 0x1000 * 1, 1, 0, ?_⟩
  decide +kernel

theorem witness_messageDeadline : ∃ (s : State) (edge entry : Nat) (k : TrackedMessage),
    SMap.lookup s.messages.tracked.entries (1024 * edge + entry) = some k ∧ k.sent + 1000 * s.reg 0x831001 < s.now := by
  refine ⟨tTracked, 0, 0, ⟨1, 0, 0, 0, 0⟩, ?_⟩
  decide +kernel

theorem witness_hopHoldExpiry : ∃ (s : State) (p n : Nat) (e : HopEntry),
    (s.port p).hop.find? (fun e => e.mseq = n) = some e ∧ e.at_ + 1000 * s.reg 0x831002 < s.now := by
  refine ⟨tHop, 0, 0, ⟨0, 0, tMessage 1, none⟩, ?_⟩
  decide +kernel

/-! ### Obligations.InboxesDeliver -/

theorem witness_messageDelivery : ∃ (s s1 s2 s3 : State) (w rel count : Nat) (m : Message) (rest : List Message) (i : Inbox),
    s.messages.toTower.get [] w = m :: rest ∧ (s.die (0x10 + w)).state = .ready ∧
    s1 = { s with messages := { s.messages with toTower := s.messages.toTower.set w rest } } ∧
    SMap.lookup s.messages.inboxes.entries m.inbox = some i ∧ m.payload.length ≤ slotSize i.code - 32 ∧
    s1.inboxReleased m.inbox w i = (rel, s2) ∧ count = field (s2.held i.base 8) 0 8 ∧
    (2 ^ 64 + count - rel) % 2 ^ 64 + 1 < i.slots ∧
    s3 = (s2.writeArea (i.base + 128 + slotSize i.code * (count % i.slots)) (s2.messageRecord m (s2.stampAt (0x1000
      + w)))).writeArea i.base (leBytes 8 (count + 1)) := by
  refine ⟨tInbox, { tInbox with messages := { tInbox.messages with toTower := ⟨[(0, [])]⟩ } }, ({ tInbox with messages := { tInbox.messages with toTower := ⟨[(0, [])]⟩ } } : State).inboxReleased 0 0 { owner := 1, base := 0x3000 } |>.2, (((({ tInbox with messages := { tInbox.messages with toTower := ⟨[(0, [])]⟩ } } : State).inboxReleased 0 0 { owner := 1, base := 0x3000 }).2.writeArea 0x3080 ((({ tInbox with messages := { tInbox.messages with toTower := ⟨[(0, [])]⟩ } } : State).inboxReleased 0 0 { owner := 1, base := 0x3000 }).2.messageRecord (tMessage 0) 135000000)).writeArea 0x3000 (leBytes 8 1)), 0, 0, 0, tMessage 0, [], { owner := 1, base := 0x3000 }, ?_⟩
  decide +kernel

theorem witness_inboxOpen : ∃ (s : State) (n owner base code slots : Nat),
    memoryCanonical s ∧ n = s.shadow 0x840001 ∧ owner = s.shadow 0x840002 ∧ base = s.shadow 0x840003 ∧
    code = s.shadow 0x840004 ∧ slots = s.shadow 0x840005 ∧ owner ≠ 0xFFFF ∧
    s.inboxStatus n owner base code slots = 0 := by
  refine ⟨tInboxShadow 1, 0, 1, 0x3000, 0, 16, ?_⟩
  decide +kernel

theorem witness_inboxClose : ∃ (s : State) (n : Nat),
    n = s.shadow 0x840001 ∧ s.shadow 0x840002 = 0xFFFF := by
  refine ⟨tInboxShadow 0xFFFF, 0, ?_⟩
  decide +kernel

theorem witness_routeCommit : ∃ (s : State),
    s.routeStatus (routeRows (s.blobShadow 0x830001)) = 0 := by
  refine ⟨{}, ?_⟩
  decide +kernel

theorem witness_agreementCommit : ∃ (s : State),
    s.maskShadow = s.properMask := by
  refine ⟨(({} : State).setShadow 0x820004 (2 ^ 48 - 1)), ?_⟩
  decide +kernel

theorem witness_domainCommit : ∃ (s : State),
    s.portMapStatus (portMapRows s.portMapShadow) = 0 := by
  refine ⟨{}, ?_⟩
  decide +kernel

theorem witness_windowCommit : ∃ (s : State) (x n : Nat),
    x = s.shadow 0x810001 ∧ n = s.shadow 0x810002 ∧ (s.ctx x).state ≠ .closed ∧
    s.windowStatus (s.blobShadow 0x810003) = 0 := by
  refine ⟨tWindowShadow, 1, 3, ?_⟩
  decide +kernel

/-! ### Obligations.MembersAgree -/

theorem witness_helloGood : ∃ (s : State) (p : Nat) (h : Hello),
    (s.portRole p).1 = 1 ∧ (s.port p).state = .joining ∧ h.device = (s.portRole p).2 ∧ h.domain = s.domainId ∧
    ((s.port p).lostJoin = false ∨ s.joinRefused p = false) ∧ h.level = s.reg 0x820003 ∧ h.digest = s.localDigest := by
  refine ⟨tJoining, 0, { tJoining.localHello with device := 1 }, ?_⟩
  refine ⟨?_, ?_, ?_, ?_, ?_, ?_, rfl⟩ <;> decide +kernel

theorem witness_helloOther : ∃ (s : State) (p : Nat) (h : Hello),
    (s.portRole p).1 = 1 ∧ (s.port p).state = .joining ∧ (h.device ≠ (s.portRole p).2 ∨ h.domain ≠ s.domainId) := by
  refine ⟨tJoining, 0, ⟨5, 0, 0, 0, 0, [], false⟩, ?_⟩
  decide +kernel

theorem witness_helloAtUp : ∃ (s : State) (p : Nat) (h : Hello),
    (s.portRole p).1 = 1 ∧ (s.port p).state = .up := by
  refine ⟨tUp {}, 0, ⟨1, 0, 0, 0, 0, [], false⟩, ?_⟩
  decide +kernel

theorem witness_helloRepeat : ∃ (s : State) (p : Nat),
    (s.port p).state = .lost ∧ (s.port p).helloDue = true ∧ (s.port p).retraining = false ∧
    (s.port p).helloAt + 1000000 ≤ s.now ∧ s.sends (.hello p s.localHello) = true := by
  refine ⟨tPort { state := .lost, helloDue := true }, 0, ?_⟩
  decide +kernel

theorem witness_join : ∃ (s : State) (p : Nat),
    (s.portRole p).1 = 1 ∧ ((s.port p).state = .demoted ∨ (s.port p).state = .lost) ∧ s.requestsAt p = false ∧
    s.sends (.hello p s.localHello) = true := by
  refine ⟨tPort { state := .lost }, 0, ?_⟩
  decide +kernel

theorem witness_leave : ∃ (s : State) (p : Nat),
    (s.portRole p).1 = 1 ∧ (s.port p).state ≠ .down ∧ (s.port p).state ≠ .training ∧ s.requestsAt p = false ∧
    s.windowHolders (s.portRole p).2 = [] ∧ s.sends (.leave p) = true := by
  refine ⟨tPort { state := .up }, 0, ?_⟩
  decide +kernel

theorem witness_leaveArrival : ∃ (s : State) (p : Nat),
    (s.portRole p).1 = 1 ∧ ((s.port p).state = .up ∨ (s.port p).state = .demoted ∨ (s.port p).state = .joining) := by
  refine ⟨tPort { state := .up }, 0, ?_⟩
  decide +kernel

theorem witness_digestSend : ∃ (s : State),
    s.messages.digestSent + 10000000 ≤ s.now ∧
    ((List.range 64).all fun p => decide ((s.port p).state ≠ .up) || s.sends (.digest p s.localDigest (s.reg
      0x820002) (s.reg 0x820003))) = true := by
  refine ⟨tUp {}, ?_⟩
  decide +kernel

theorem witness_digestGood : ∃ (s : State) (p epoch level : Nat),
    (s.portRole p).1 = 1 ∧ ((s.port p).state = .up ∨ (s.port p).state = .demoted) := by
  refine ⟨tPort { state := .up }, 0, 0, 0, ?_⟩
  decide +kernel

theorem witness_digestBadTwice : ∃ (s : State) (p epoch level : Nat) (d : List Byte),
    (s.portRole p).1 = 1 ∧ (s.port p).state = .up ∧ d ≠ s.localDigest ∧ 1 ≤ (s.port p).mismatches := by
  refine ⟨tPort { state := .up, mismatches := 1 }, 0, 0, 0, [1], ?_⟩
  decide +kernel

theorem witness_digestTimeout : ∃ (s : State) (p : Nat),
    (s.port p).state = .up ∧ (s.port p).digestAt + 30000000 ≤ s.now := by
  refine ⟨tPort { state := .up }, 0, ?_⟩
  decide +kernel

/-! ### Obligations.PortsAndRequests -/

theorem witness_portHeartbeatLoss : ∃ (s : State) (p : Nat),
    (s.portRole p).1 = 1 ∧ (s.port p).light = false ∧ (s.port p).lastHeard + 20000 ≤ s.now ∧
    ((s.port p).state = .up ∨ (s.port p).state = .demoted ∨ (s.port p).state = .joining) := by
  refine ⟨tPort { state := .up }, 0, ?_⟩
  decide +kernel

theorem witness_resetNotice : ∃ (s : State) (p : Nat),
    (s.portRole p).1 = 1 ∧ ((s.port p).state = .up ∨ (s.port p).state = .demoted ∨ (s.port p).state = .joining) := by
  refine ⟨tPort { state := .up }, 0, ?_⟩
  decide +kernel

theorem witness_portLight : ∃ (s : State) (p : Nat),
    (s.portRole p).1 ≠ 0 ∧ s.domain.portMap.entries ≠ [] ∧ s.boot.serviceMode = false ∧ (s.port p).state = .down := by
  refine ⟨tPort {}, 0, ?_⟩
  decide +kernel

theorem witness_portLightLost : ∃ (s : State) (p : Nat),
    (s.portRole p).1 ≠ 0 ∧ (s.port p).light = true := by
  refine ⟨tPort { light := true }, 0, ?_⟩
  decide +kernel

theorem witness_port_naks : ∃ (s : State) (p : Nat),
    (s.portRole p).1 ≠ 0 ∧ 8 ≤ (s.port p).naks ∧ ((s.port p).state = .up ∨ (s.port p).state = .msg) := by
  refine ⟨tPort { naks := 8, state := .up }, 0, ?_⟩
  decide +kernel

theorem witness_port_wavelengthDropped : ∃ (s : State) (p : Nat),
    (s.portRole p).1 ≠ 0 ∧ (s.port p).wavelengths = 15 ∧ (s.port p).retraining = false ∧
    ((s.port p).state = .up ∨ (s.port p).state = .msg) := by
  refine ⟨tPort { wavelengths := 15, state := .up }, 0, ?_⟩
  decide +kernel

theorem witness_portTrained : ∃ (s : State) (p : Nat),
    (s.portRole p).1 = 1 ∧ (s.port p).retraining = true ∧ (s.port p).light = true ∧ (s.port p).state = .training ∧
    (s.port p).back = none := by
  refine ⟨tPort { retraining := true, light := true, state := .training }, 0, ?_⟩
  decide +kernel

theorem witness_portWrong : ∃ (s : State) (p mask : Nat),
    (s.portRole p).1 ≠ 0 ∧ (s.port p).retraining = true := by
  refine ⟨tPort { retraining := true, state := .training }, 0, 1, ?_⟩
  decide +kernel

theorem witness_portWrongUnseen : ∃ (s : State) (p w : Nat),
    (s.portRole p).1 ≠ 0 ∧ (s.port p).retraining = true ∧ w < 16 ∧
    ((s.ring (elementId 0 (7 + p / 16) (32 + p % 16) 0 w)).tone = none ∨ (s.ring (elementId 0 (7 + p / 16) (32 + p
      % 16) 0 w)).tone = some w) ∧
    ((s.ring (elementId 1 (7 + p / 16) (32 + p % 16) 0 w)).tone = none ∨ (s.ring (elementId 1 (7 + p / 16) (32 + p
      % 16) 0 w)).tone = some w) := by
  refine ⟨tPort { retraining := true, state := .training }, 0, 1, ?_⟩
  decide +kernel

theorem witness_domainRequestIssue : ∃ (s s1 : State) (x c : Nat) (r : Req) (a : Answer),
    s.working c = some x ∧ r.op ≠ 0x23 ∧ requestForm r = true ∧
    s.issueRequest { r with origin := .member x c, ctx := x, ticket := none } ⟨x, c, noEngine, .deliver r.tag,
      subBytes r.data 0 (atomicSize r), s.now, if r.op = 0x22 then refAddress r.ref else r.addr⟩ (s.requesterAt x
      c) = (a, s1) ∧
    (a = .sent ∨ a = .ack) := by
  refine ⟨tRemoteCopy, (tRemoteCopy.issueRequest { tLoad with origin := .member 1 0, ctx := 1, ticket := none } ⟨1, 0, noEngine, .deliver 0, [], tRemoteCopy.now, 0x10000000000⟩ (tRemoteCopy.requesterAt 1 0)).2, 1, 0, tLoad, .sent, ?_⟩
  decide +kernel

theorem witness_domainMulticastAway : ∃ (s : State) (x c : Nat) (r : Req) (l : List (Translated × McTarget)),
    s.working c = some x ∧ r.op = 0x23 ∧
    allOk (((List.range 4).filterMap (descriptorOf r.data)).map (s.translateTarget x (r.data.drop 64).length)) =
      .ok l ∧
    2 ≤ l.length ∧ r.data.drop 64 ≠ [] ∧ (r.data.drop 64).length ≤ 4096 ∧ (∀ a ∈ l, a.1.device ≠ s.deviceId) ∧
    (∀ a ∈ l, (s.portOf a.1.device).all (fun p => decide ((s.port p).state ≠ .demoted)) = true) := by
  refine ⟨tRemoteCopy, 1, 0, { blankReq with op := 0x23, data := tMcData }, match allOk (((List.range 4).filterMap (descriptorOf tMcData)).map (tRemoteCopy.translateTarget 1 4)) with | .ok l => l | .error _ => [], ?_⟩
  decide +kernel

theorem witness_domainMulticast : ∃ (s s1 : State) (x c : Nat) (r : Req),
    s.working c = some x ∧ r.op = 0x23 ∧ s.issueMulticast x c r = (none, s1) := by
  refine ⟨tRemoteCopy, tRemoteCopy, 1, 0, { blankReq with op := 0x23 }, ?_⟩
  decide +kernel

/-! ### Obligations.TimeAndDoorbells -/

theorem witness_timeReqOut : ∃ (s : State) (p t1 : Nat),
    (s.port p).state = .up ∧ s.timeMaster ≠ s.deviceId ∧ (s.portRole p).2 = s.timeMaster ∧
    s.clocks.lastTimeReq + 10000 ≤ s.now ∧ s.sends (.timeReq p s.now) = true := by
  refine ⟨tMaster, 0, 0, ?_⟩
  decide +kernel

theorem witness_timeReqAnswer : ∃ (s : State) (p t1 : Nat),
    (s.port p).state = .up ∧ (s.timeMaster = s.deviceId ∨ (s.portRole p).2 ≠ s.timeMaster) ∧
    s.sends (.timeRsp p t1 s.now s.now) = true := by
  refine ⟨tPort { state := .up }, 0, 7, ?_⟩
  decide +kernel

theorem witness_timeRspSmall : ∃ (s v s1 s2 : State) (p t1 t2 t3 t4 : Nat) (θ δ : Int),
    (s.port p).state = .up ∧ s.timeMaster ≠ s.deviceId ∧ (s.portRole p).2 = s.timeMaster ∧ v = s.heard p 4 1 ∧
    v.divFree (((t2 : Int) - t1) + ((t3 : Int) - t4)) 2 = (θ, s1) ∧
    s1.divFree (((t4 : Int) - t1) - ((t3 : Int) - t2)) 2 = (δ, s2) ∧ θ.natAbs ≤ 20 ∧ s.clocks.fenced = false := by
  refine ⟨tMaster, tMaster.heard 0 4 1, tMaster.heard 0 4 1, tMaster.heard 0 4 1, 0, 0, 10, 10, 16, 2, 8, ?_⟩
  decide +kernel

theorem witness_timeRspAhead : ∃ (s v s1 s2 : State) (p t1 t2 t3 t4 : Nat) (θ δ : Int),
    (s.port p).state = .up ∧ s.timeMaster ≠ s.deviceId ∧ (s.portRole p).2 = s.timeMaster ∧ v = s.heard p 4 1 ∧
    v.divFree (((t2 : Int) - t1) + ((t3 : Int) - t4)) 2 = (θ, s1) ∧
    s1.divFree (((t4 : Int) - t1) - ((t3 : Int) - t2)) 2 = (δ, s2) ∧ 1000 < θ := by
  refine ⟨tMaster, tMaster.heard 0 4 1, tMaster.heard 0 4 1, tMaster.heard 0 4 1, 0, 0, 4000, 4000, 0, 4000, 0, ?_⟩
  decide +kernel

theorem witness_timeRspBehind : ∃ (s v s1 s2 : State) (p t1 t2 t3 t4 : Nat) (θ δ : Int),
    (s.port p).state = .up ∧ s.timeMaster ≠ s.deviceId ∧ (s.portRole p).2 = s.timeMaster ∧ v = s.heard p 4 1 ∧
    v.divFree (((t2 : Int) - t1) + ((t3 : Int) - t4)) 2 = (θ, s1) ∧
    s1.divFree (((t4 : Int) - t1) - ((t3 : Int) - t2)) 2 = (δ, s2) ∧ θ < -1000 := by
  refine ⟨tMaster, tMaster.heard 0 4 1, tMaster.heard 0 4 1, tMaster.heard 0 4 1, 0, 4000, 0, 0, 4000, -4000, 0, ?_⟩
  decide +kernel

theorem witness_timedDoorbell : ∃ (s : State) (n : Nat) (d : TimedRow),
    s.messages.doorbells.get {} n = d ∧ d.state = 1 ∧ d.time ≤ s.now ∧ s.clocks.fenced = false ∧
    doorbellRefused d.ctx (s.ctx d.ctx) (BitVec.ofNat 32 d.producer) = false := by
  refine ⟨{ tMember 0 .idle with messages := { doorbells := ⟨[(3, { time := 5, ctx := 1, producer := 2, state := 1 })]⟩ } }, 3, { time := 5, ctx := 1, producer := 2, state := 1 }, ?_⟩
  decide +kernel

theorem witness_dmcWrite : ∃ (s : State) (e p x c : Nat) (k : Packet) (rest : List Packet) (g : McTarget),
    s.domain.dmc.get [] e = k :: rest ∧ k.targets = [g] ∧ k.req.origin = .member x c ∧
    s.portOf (g.addr / 2 ^ 40) = some p ∧
    ((s.port p).state ≠ .demoted ∧ (s.port p).state ≠ .lost ∧ (s.port p).state ≠ .up) := by
  refine ⟨tDmc, 0, 0, 1, 0, tDmcPacket, [], ⟨7, 2, 0x10000000040, 0, 0⟩, ?_⟩
  decide +kernel

/-! ### Obligations.RequestsArriveAndReplies -/

theorem witness_arrivalLoad : ∃ (s v : State) (p : Nat) (r q : Req) (a b : Nat),
    (s.portRole p).1 = 1 ∧ (s.port p).state = .up ∧ requestForm r = true ∧
    q = { r with origin := .peer p, addr := r.addr % 2 ^ 40 } ∧ v = s.heard p 1 1 ∧ r.op = 0x20 ∧
    s.towerFenced q = false ∧ s.domain.homeLoads = [] ∧ homeLines q = some (a, b) ∧ (s.lineQueue a).inUse = false ∧
    s.lineBusy a b = false := by
  refine ⟨tPort { state := .up }, (tPort { state := .up }).heard 0 1 1, 0, tAsk 0x20, { tAsk 0x20 with origin := .peer 0 }, 1, 1, ?_⟩
  decide +kernel

theorem witness_arrivalNew : ∃ (s v : State) (p : Nat) (r q : Req) (a b : Nat),
    (s.portRole p).1 = 1 ∧ (s.port p).state = .up ∧ requestForm r = true ∧
    q = { r with origin := .peer p, addr := r.addr % 2 ^ 40 } ∧ r.op ≠ 0x20 ∧
    (s.domain.replies.get {} (s.cacheKey p r.rid)).state = .free ∧ s.towerFenced q = false ∧ r.op ≠ 0x60 ∧
    v = s.heard p 1 1 ∧ homeLines q = some (a, b) ∧ (s.lineQueue a).inUse = false ∧ s.lineBusy a b = false := by
  refine ⟨tPort { state := .up }, (tPort { state := .up }).heard 0 1 1, 0, tAsk 0x21, { tAsk 0x21 with origin := .peer 0 }, 1, 1, ?_⟩
  decide +kernel

theorem witness_arrivalBulk : ∃ (s v : State) (p : Nat) (r q : Req),
    (s.portRole p).1 = 1 ∧ (s.port p).state = .up ∧ requestForm r = true ∧
    q = { r with origin := .peer p, addr := r.addr % 2 ^ 40 } ∧ r.op ≠ 0x20 ∧
    (s.domain.replies.get {} (s.cacheKey p r.rid)).state = .free ∧ s.towerFenced q = false ∧ r.op = 0x60 ∧
    v = s.heard p 3 (flitsOf r.data.length) := by
  refine ⟨tPort { state := .up }, (tPort { state := .up }).heard 0 3 2, 0, tAsk 0x60, { tAsk 0x60 with origin := .peer 0 }, ?_⟩
  decide +kernel

theorem witness_arrivalDuplicate : ∃ (s v : State) (p : Nat) (r q : Req) (e : ReplyEntry) (a : Reply),
    (s.portRole p).1 = 1 ∧ (s.port p).state = .up ∧ requestForm r = true ∧
    q = { r with origin := .peer p, addr := r.addr % 2 ^ 40 } ∧ r.op ≠ 0x20 ∧
    v = (if r.op = 0x60 then s.heard p 3 (flitsOf r.data.length) else s.heard p 1 1) ∧
    s.sends (.reply p a) = true ∧ s.domain.replies.get {} (s.cacheKey p r.rid) = e ∧ e.state = .replied ∧
    e.rid = r.rid ∧ e.reply = some a := by
  refine ⟨tReplied, tReplied.heard 0 1 1, 0, tAsk 0x21, { tAsk 0x21 with origin := .peer 0 }, { state := .replied, rid := 0, reply := some tReply }, tReply, ?_⟩
  decide +kernel

theorem witness_loadData : ∃ (s v s1 s2 : State) (p a : Nat) (r : Rsp) (o : Outstanding) (k : Part),
    s.answered p r = some o ∧ o.parts = [k] ∧ o.req.op = 0x20 ∧ r.data.length = o.req.len ∧ r.data ≠ [] ∧
    v = s.heard p 2 (flitsOf r.data.length) ∧ s1 = (v.dropOutstanding o.handle).noteReply o ∧
    k.purpose = .deliver a ∧ (s.region (zoneOf k.cluster)).stopped = false ∧
    s1.storeRange (clusterOffset k.cluster a) r.data (s1.requesterAt k.ctx k.cluster) = (none, s2) := by
  refine ⟨(tAsked 0x20 (.deliver 0x40)), ((tAsked 0x20 (.deliver 0x40)).heard 0 2 2), (((tAsked 0x20 (.deliver 0x40)).heard 0 2 2).dropOutstanding 0).noteReply (tOut 0x20 (.deliver 0x40)), (((((tAsked 0x20 (.deliver 0x40)).heard 0 2 2).dropOutstanding 0).noteReply (tOut 0x20 (.deliver 0x40))).storeRange (clusterOffset 0 0x40) [1, 2, 3, 4, 5, 6, 7, 8] (((((tAsked 0x20 (.deliver 0x40)).heard 0 2 2).dropOutstanding 0).noteReply (tOut 0x20 (.deliver 0x40))).requesterAt 1 0)).2, 0, 0x40, tRsp [1, 2, 3, 4, 5, 6, 7, 8] 0, tOut 0x20 (.deliver 0x40), tPart (.deliver 0x40), ?_⟩
  decide +kernel

theorem witness_ack : ∃ (s : State) (p : Nat) (r : Rsp) (o : Outstanding) (k : Part),
    s.answered p r = some o ∧ o.parts = [k] ∧ (o.req.op = 0x21 ∨ o.req.op = 0x22 ∨ o.req.op = 0x60) ∧
    (k.purpose = .discard ∨ k.purpose = .increment ∨ k.purpose = .multicast) := by
  refine ⟨(tAsked 0x22 .increment), 0, tRsp [] 0, tOut 0x22 .increment, tPart .increment, ?_⟩
  decide +kernel

theorem witness_old : ∃ (s v s1 s2 : State) (p a : Nat) (r : Rsp) (o : Outstanding) (k : Part),
    s.answered p r = some o ∧ o.parts = [k] ∧ isAtomic o.req.op = true ∧ r.data.length = atomicSize o.req ∧
    v = s.heard p 2 1 ∧ s1 = (v.dropOutstanding o.handle).noteReply o ∧ k.purpose = .deliver a ∧
    (s.region (zoneOf k.cluster)).stopped = false ∧
    s1.storeRange (clusterOffset k.cluster a) r.data (s1.requesterAt k.ctx k.cluster) = (none, s2) := by
  refine ⟨(tAsked 0x28 (.deliver 0x40)), ((tAsked 0x28 (.deliver 0x40)).heard 0 2 1), (((tAsked 0x28 (.deliver 0x40)).heard 0 2 1).dropOutstanding 0).noteReply (tOut 0x28 (.deliver 0x40)), (((((tAsked 0x28 (.deliver 0x40)).heard 0 2 1).dropOutstanding 0).noteReply (tOut 0x28 (.deliver 0x40))).storeRange (clusterOffset 0 0x40) [1, 2, 3, 4, 5, 6, 7, 8] (((((tAsked 0x28 (.deliver 0x40)).heard 0 2 1).dropOutstanding 0).noteReply (tOut 0x28 (.deliver 0x40))).requesterAt 1 0)).2, 0, 0x40, tRsp [1, 2, 3, 4, 5, 6, 7, 8] 0, tOut 0x28 (.deliver 0x40), tPart (.deliver 0x40), ?_⟩
  decide +kernel

theorem witness_error : ∃ (s : State) (p : Nat) (r : Rsp) (o : Outstanding) (k : Part),
    s.answered p r = some o ∧ o.parts = [k] ∧ k.purpose = .increment ∧ (s.ctx k.ctx).state = .bound := by
  refine ⟨(tAsked 0x22 .increment), 0, tRsp [] 0x0403, tOut 0x22 .increment, tPart .increment, ?_⟩
  decide +kernel

theorem witness_expired : ∃ (s : State) (p : Nat) (r : Rsp) (o : Outstanding) (k : Part),
    s.answered p r = some o ∧ o.parts = [k] ∧ carriesRid o.req.op = true ∧ k.purpose = .increment ∧
    (s.ctx k.ctx).state = .bound := by
  refine ⟨(tAsked 0x22 .increment), 0, tRsp [] 0, tOut 0x22 .increment, tPart .increment, ?_⟩
  decide +kernel

theorem witness_retryTicket : ∃ (s : State) (p n : Nat) (r : Rsp) (o : Outstanding),
    p < 64 ∧ s.answered p r = some o ∧ r.ticket = some n ∧ s.sends (.request p o.req) = true := by
  refine ⟨(tAsked 0x22 .increment), 0, 5, { tRsp [] 0 with ticket := some 5 }, tOut 0x22 .increment, ?_⟩
  decide +kernel

theorem witness_retryPlain : ∃ (s v : State) (p : Nat) (r : Rsp) (o : Outstanding),
    s.answered p r = some o ∧ r.ticket = none ∧ v = s.heard p 2 1 := by
  refine ⟨(tAsked 0x22 .increment), (tAsked 0x22 .increment).heard 0 2 1, 0, tRsp [] 0, tOut 0x22 .increment, ?_⟩
  decide +kernel

/-! ### Obligations.RequestsPerformAtHome -/

theorem witness_load : ∃ (s s1 : State) (n p : Nat) (q : Req) (d : List Byte) (h : HomeLoad),
    s.domain.ready[n]? = some q ∧ s.notYet q = false ∧ s.targetExists q = true ∧ q.origin = .peer p ∧
    (s.port p).state ≠ .lost ∧ (s.port p).state ≠ .down ∧ q.op = 0x20 ∧ reducible q.addr = true ∧
    ({ s with domain := { s.domain with ready := dropAt n s.domain.ready } } : State).loadRange q.addr q.len
      (s.originRequester q) = (.ok d, s1) ∧
    s.domain.homeLoads = [h] ∧ h.load = q ∧ h.joined = [] ∧ h.result = none ∧
    s.sends (.reply p ⟨0x40, ⟨q.rid, q.tag, d, none, 0⟩⟩) = true := by
  refine ⟨(tReadyLoad), ((tReadyLoad).loadRange 0x80 4 ((tReadyLoad).originRequester ({ tAsk 0x20 with origin := .peer 0 }))).2 |> fun s => { s with domain := { s.domain with ready := [] } }, 0, 0, { tAsk 0x20 with origin := .peer 0 }, [0, 0, 0, 0], ⟨0, { tAsk 0x20 with origin := .peer 0 }, [], none⟩, ?_⟩
  decide +kernel

theorem witness_store : ∃ (s s1 : State) (n p : Nat) (q : Req),
    s.domain.ready[n]? = some q ∧ s.notYet q = false ∧ s.targetExists q = true ∧ q.origin = .peer p ∧
    (s.port p).state ≠ .lost ∧ (s.port p).state ≠ .down ∧ q.op = 0x21 ∧ reducible q.addr = true ∧
    ({ s with domain := { s.domain with ready := dropAt n s.domain.ready } } : State).storeRange q.addr q.data
      (s.originRequester q) = (none, s1) ∧
    s.sends (.reply p ⟨0x41, ⟨q.rid, q.tag, [], none, 0⟩⟩) = true := by
  refine ⟨(tReady 0x21), (({ tReady 0x21 with domain := { (tReady 0x21).domain with ready := [] } } : State).storeRange 0x80 [1, 2, 3, 4] {}).2, 0, 0, { tAsk 0x21 with origin := .peer 0 }, ?_⟩
  decide +kernel

theorem witness_tallyInc : ∃ (s s1 s2 : State) (n p : Nat) (q : Req) (b : List Byte),
    s.domain.ready[n]? = some q ∧ s.notYet q = false ∧ s.targetExists q = true ∧ q.origin = .peer p ∧
    (s.port p).state ≠ .lost ∧ (s.port p).state ≠ .down ∧ q.op = 0x22 ∧ (s.ctx q.ctx).clusterLost = false ∧
    s.deliveryOf q.ctx (refCluster q.ref) = .memory ∧ s.belled = false ∧
    (s.region (zoneOf (refCluster q.ref))).stopped = false ∧
    s.sends (.reply p ⟨0x41, ⟨q.rid, q.tag, [], none, 0⟩⟩) = true ∧
    ({ s with domain := { s.domain with ready := dropAt n s.domain.ready } } : State).loadRange (refOffset q.ref
      (refCluster q.ref)) 4 (s.originRequester q) = (.ok b, s1) ∧
    s1.storeRange (refOffset q.ref (refCluster q.ref)) (leBytes 4 (leNat b + q.refAmt)) (s.originRequester q) =
      (none, s2) := by
  refine ⟨tReadyInc, (({ tReadyInc with domain := { tReadyInc.domain with ready := [] } } : State).loadRange (refOffset 0xFC0007 0) 4 {}).2, ((({ tReadyInc with domain := { tReadyInc.domain with ready := [] } } : State).loadRange (refOffset 0xFC0007 0) 4 {}).2.storeRange (refOffset 0xFC0007 0) (leBytes 4 5) {}).2, 0, 0, { tIncAsk with origin := .peer 0 }, [0, 0, 0, 0], ?_⟩
  decide +kernel

theorem witness_lineQueueApply : ∃ (s s1 : State) (l p n : Nat) (q : Req) (rest : List QueueEntry) (a : Answer),
    (s.lineQueue l).entries = { parts := [q], order := n } :: rest ∧
    s.entryBlocked l { parts := [q], order := n } = false ∧ s.notYet q = false ∧ q.origin = .peer p ∧ q.op ≠ 0x20 ∧
    (s.port p).state ≠ .lost ∧ (s.port p).state ≠ .down ∧ s.performOne q = (a, s1) ∧
    s.sends (.reply p (responseTo q a)) = true := by
  refine ⟨tQueued, (tQueued.performOne ({ tAsk 0x21 with origin := .peer 0 })).2, 1, 0, 0, { tAsk 0x21 with origin := .peer 0 }, [], .ack, ?_⟩
  decide +kernel

theorem witness_ticketReservationExpiry : ∃ (s : State) (l : Nat) (h : TicketHeld),
    (s.lineQueue l).tickets.find? (fun k => match k.reserved with | some u => decide (u ≤ s.now) | none => false) =
      some h ∧
    ((s.lineQueue l).tickets.map (·.ticket)).Nodup := by
  refine ⟨tTickets, 1, ⟨4, 0, some 5⟩, ?_⟩
  decide +kernel

theorem witness_ticketLapse : ∃ (s : State) (l n : Nat) (h : TicketHeld),
    (s.lineQueue l).tickets.find? (fun k => k.ticket = n && decide (k.at_ + 200000 ≤ s.now)) = some h ∧
    s.holdsTicket l n = false := by
  refine ⟨tTickets, 1, 4, ⟨4, 0, some 5⟩, ?_⟩
  decide +kernel

theorem witness_replyCacheExpiry : ∃ (s : State) (d e : Nat),
    (s.domain.replies.get {} (4096 * d + e % 4096)).state = .replied ∧
    (s.domain.replies.get {} (4096 * d + e % 4096)).at_ + 1000 * s.reg 0x801003 ≤ s.now := by
  refine ⟨tReplied, 1, 0, ?_⟩
  decide +kernel

theorem witness_unticketedRetryResend : ∃ (s : State) (n t0 : Nat) (o : Outstanding),
    s.domain.outstanding.find? (fun o => o.handle = n && !o.frozen) = some o ∧ o.waitUntil = some t0 ∧ t0 ≤ s.now ∧
    s.now ≤ s.deadline o ∧ o.port ≠ 0xFF ∧ (s.port o.port).state = .up ∧ s.sends (.request o.port o.req) = true := by
  refine ⟨tWaiting, 0, 0, tWaitOut, ?_⟩
  decide +kernel

theorem witness_requestResend : ∃ (s : State) (p : Nat),
    p < 64 ∧ (s.port p).state = .up := by
  refine ⟨tWaiting, 0, ?_⟩
  decide +kernel

theorem witness_requestDeadline : ∃ (s : State) (n : Nat) (o : Outstanding) (k : Part),
    s.domain.outstanding.find? (fun o => o.handle = n && !o.frozen && decide (o.port ≠ 0xFF)) = some o ∧
    s.deadline o < s.now ∧ o.parts = [k] ∧ k.purpose = .increment ∧ (s.ctx k.ctx).state = .bound := by
  refine ⟨tAsked 0x22 .increment, 0, tOut 0x22 .increment, tPart .increment, ?_⟩
  decide +kernel

/-! ### Obligations.IntegerAtomicsRun -/

theorem witness_add : ∃ (s s1 s2 : State) (n p : Nat) (q : Req) (old b : List Byte),
    s.domain.ready[n]? = some q ∧ s.notYet q = false ∧ s.targetExists q = true ∧ q.origin = .peer p ∧
    (s.port p).state ≠ .lost ∧ (s.port p).state ≠ .down ∧ q.op = 0x28 ∧ reducible q.addr = true ∧
    ({ s with domain := { s.domain with ready := dropAt n s.domain.ready } } : State).loadRange q.addr (atomicSize
      q) (s.originRequester q) = (.ok old, s1) ∧
    b = subBytes q.data 0 (atomicSize q) ∧ s.sends (.reply p ⟨0x42, ⟨q.rid, q.tag, old, none, 0⟩⟩) = true ∧
    s1.storeRange q.addr (leBytes (atomicSize q) (leNat old + leNat b)) (s.originRequester q) = (none, s2) := by
  refine ⟨(tReadyAtom 0x28), (({ tReadyAtom 0x28 with domain := { (tReadyAtom 0x28).domain with ready := [] } } : State).loadRange 0x80 8 {}).2, ((({ tReadyAtom 0x28 with domain := { (tReadyAtom 0x28).domain with ready := [] } } : State).loadRange 0x80 8 {}).2.storeRange 0x80 [1, 2, 3, 4, 5, 6, 7, 8] {}).2, 0, 0, { tAtomAsk 0x28 with origin := .peer 0 }, [0, 0, 0, 0, 0, 0, 0, 0], [1, 2, 3, 4, 5, 6, 7, 8], ?_⟩
  decide +kernel

theorem witness_min : ∃ (s s1 s2 : State) (n p : Nat) (q : Req) (old b : List Byte) (less : Bool),
    s.domain.ready[n]? = some q ∧ s.notYet q = false ∧ s.targetExists q = true ∧ q.origin = .peer p ∧
    (s.port p).state ≠ .lost ∧ (s.port p).state ≠ .down ∧ q.op = 0x29 ∧ reducible q.addr = true ∧
    ({ s with domain := { s.domain with ready := dropAt n s.domain.ready } } : State).loadRange q.addr (atomicSize
      q) (s.originRequester q) = (.ok old, s1) ∧
    b = subBytes q.data 0 (atomicSize q) ∧ s.sends (.reply p ⟨0x42, ⟨q.rid, q.tag, old, none, 0⟩⟩) = true ∧
    less = (if q.signed then decide (signedOf (8 * atomicSize q) (leNat old) < signedOf (8 * atomicSize q) (leNat
      b)) else decide (leNat old < leNat b)) ∧
    s1.storeRange q.addr (if less then old else b) (s.originRequester q) = (none, s2) := by
  refine ⟨(tReadyAtom 0x29), (({ tReadyAtom 0x29 with domain := { (tReadyAtom 0x29).domain with ready := [] } } : State).loadRange 0x80 8 {}).2, ((({ tReadyAtom 0x29 with domain := { (tReadyAtom 0x29).domain with ready := [] } } : State).loadRange 0x80 8 {}).2.storeRange 0x80 [0, 0, 0, 0, 0, 0, 0, 0] {}).2, 0, 0, { tAtomAsk 0x29 with origin := .peer 0 }, [0, 0, 0, 0, 0, 0, 0, 0], [1, 2, 3, 4, 5, 6, 7, 8], true, ?_⟩
  decide +kernel

theorem witness_max : ∃ (s s1 s2 : State) (n p : Nat) (q : Req) (old b : List Byte) (less : Bool),
    s.domain.ready[n]? = some q ∧ s.notYet q = false ∧ s.targetExists q = true ∧ q.origin = .peer p ∧
    (s.port p).state ≠ .lost ∧ (s.port p).state ≠ .down ∧ q.op = 0x2A ∧ reducible q.addr = true ∧
    ({ s with domain := { s.domain with ready := dropAt n s.domain.ready } } : State).loadRange q.addr (atomicSize
      q) (s.originRequester q) = (.ok old, s1) ∧
    b = subBytes q.data 0 (atomicSize q) ∧ s.sends (.reply p ⟨0x42, ⟨q.rid, q.tag, old, none, 0⟩⟩) = true ∧
    less = (if q.signed then decide (signedOf (8 * atomicSize q) (leNat old) < signedOf (8 * atomicSize q) (leNat
      b)) else decide (leNat old < leNat b)) ∧
    s1.storeRange q.addr (if less then b else old) (s.originRequester q) = (none, s2) := by
  refine ⟨(tReadyAtom 0x2A), (({ tReadyAtom 0x2A with domain := { (tReadyAtom 0x2A).domain with ready := [] } } : State).loadRange 0x80 8 {}).2, ((({ tReadyAtom 0x2A with domain := { (tReadyAtom 0x2A).domain with ready := [] } } : State).loadRange 0x80 8 {}).2.storeRange 0x80 [1, 2, 3, 4, 5, 6, 7, 8] {}).2, 0, 0, { tAtomAsk 0x2A with origin := .peer 0 }, [0, 0, 0, 0, 0, 0, 0, 0], [1, 2, 3, 4, 5, 6, 7, 8], true, ?_⟩
  decide +kernel

theorem witness_swap : ∃ (s s1 s2 : State) (n p : Nat) (q : Req) (old b : List Byte),
    s.domain.ready[n]? = some q ∧ s.notYet q = false ∧ s.targetExists q = true ∧ q.origin = .peer p ∧
    (s.port p).state ≠ .lost ∧ (s.port p).state ≠ .down ∧ q.op = 0x2B ∧ reducible q.addr = true ∧
    ({ s with domain := { s.domain with ready := dropAt n s.domain.ready } } : State).loadRange q.addr (atomicSize
      q) (s.originRequester q) = (.ok old, s1) ∧
    b = subBytes q.data 0 (atomicSize q) ∧ s.sends (.reply p ⟨0x42, ⟨q.rid, q.tag, old, none, 0⟩⟩) = true ∧
    s1.storeRange q.addr (b) (s.originRequester q) = (none, s2) := by
  refine ⟨(tReadyAtom 0x2B), (({ tReadyAtom 0x2B with domain := { (tReadyAtom 0x2B).domain with ready := [] } } : State).loadRange 0x80 8 {}).2, ((({ tReadyAtom 0x2B with domain := { (tReadyAtom 0x2B).domain with ready := [] } } : State).loadRange 0x80 8 {}).2.storeRange 0x80 [1, 2, 3, 4, 5, 6, 7, 8] {}).2, 0, 0, { tAtomAsk 0x2B with origin := .peer 0 }, [0, 0, 0, 0, 0, 0, 0, 0], [1, 2, 3, 4, 5, 6, 7, 8], ?_⟩
  decide +kernel

theorem witness_cas : ∃ (s s1 s2 : State) (n p : Nat) (q : Req) (old b : List Byte),
    s.domain.ready[n]? = some q ∧ s.notYet q = false ∧ s.targetExists q = true ∧ q.origin = .peer p ∧
    (s.port p).state ≠ .lost ∧ (s.port p).state ≠ .down ∧ q.op = 0x2C ∧ reducible q.addr = true ∧
    ({ s with domain := { s.domain with ready := dropAt n s.domain.ready } } : State).loadRange q.addr (atomicSize
      q) (s.originRequester q) = (.ok old, s1) ∧
    b = subBytes q.data 0 (atomicSize q) ∧ s.sends (.reply p ⟨0x42, ⟨q.rid, q.tag, old, none, 0⟩⟩) = true ∧
    s1.storeRange q.addr (if old = subBytes q.data (atomicSize q) (atomicSize q) then b else old)
      (s.originRequester q) = (none, s2) := by
  refine ⟨(tReadyAtom 0x2C), (({ tReadyAtom 0x2C with domain := { (tReadyAtom 0x2C).domain with ready := [] } } : State).loadRange 0x80 8 {}).2, ((({ tReadyAtom 0x2C with domain := { (tReadyAtom 0x2C).domain with ready := [] } } : State).loadRange 0x80 8 {}).2.storeRange 0x80 [1, 2, 3, 4, 5, 6, 7, 8] {}).2, 0, 0, { tAtomAsk 0x2C with origin := .peer 0 }, [0, 0, 0, 0, 0, 0, 0, 0], [1, 2, 3, 4, 5, 6, 7, 8], ?_⟩
  decide +kernel

theorem witness_or : ∃ (s s1 s2 : State) (n p : Nat) (q : Req) (old b : List Byte),
    s.domain.ready[n]? = some q ∧ s.notYet q = false ∧ s.targetExists q = true ∧ q.origin = .peer p ∧
    (s.port p).state ≠ .lost ∧ (s.port p).state ≠ .down ∧ q.op = 0x2D ∧ reducible q.addr = true ∧
    ({ s with domain := { s.domain with ready := dropAt n s.domain.ready } } : State).loadRange q.addr (atomicSize
      q) (s.originRequester q) = (.ok old, s1) ∧
    b = subBytes q.data 0 (atomicSize q) ∧ s.sends (.reply p ⟨0x42, ⟨q.rid, q.tag, old, none, 0⟩⟩) = true ∧
    s1.storeRange q.addr (leBytes (atomicSize q) (Nat.lor (leNat old) (leNat b))) (s.originRequester q) = (none, s2) := by
  refine ⟨(tReadyAtom 0x2D), (({ tReadyAtom 0x2D with domain := { (tReadyAtom 0x2D).domain with ready := [] } } : State).loadRange 0x80 8 {}).2, ((({ tReadyAtom 0x2D with domain := { (tReadyAtom 0x2D).domain with ready := [] } } : State).loadRange 0x80 8 {}).2.storeRange 0x80 [1, 2, 3, 4, 5, 6, 7, 8] {}).2, 0, 0, { tAtomAsk 0x2D with origin := .peer 0 }, [0, 0, 0, 0, 0, 0, 0, 0], [1, 2, 3, 4, 5, 6, 7, 8], ?_⟩
  decide +kernel

theorem witness_and : ∃ (s s1 s2 : State) (n p : Nat) (q : Req) (old b : List Byte),
    s.domain.ready[n]? = some q ∧ s.notYet q = false ∧ s.targetExists q = true ∧ q.origin = .peer p ∧
    (s.port p).state ≠ .lost ∧ (s.port p).state ≠ .down ∧ q.op = 0x2E ∧ reducible q.addr = true ∧
    ({ s with domain := { s.domain with ready := dropAt n s.domain.ready } } : State).loadRange q.addr (atomicSize
      q) (s.originRequester q) = (.ok old, s1) ∧
    b = subBytes q.data 0 (atomicSize q) ∧ s.sends (.reply p ⟨0x42, ⟨q.rid, q.tag, old, none, 0⟩⟩) = true ∧
    s1.storeRange q.addr (leBytes (atomicSize q) (Nat.land (leNat old) (leNat b))) (s.originRequester q) = (none,
      s2) := by
  refine ⟨(tReadyAtom 0x2E), (({ tReadyAtom 0x2E with domain := { (tReadyAtom 0x2E).domain with ready := [] } } : State).loadRange 0x80 8 {}).2, ((({ tReadyAtom 0x2E with domain := { (tReadyAtom 0x2E).domain with ready := [] } } : State).loadRange 0x80 8 {}).2.storeRange 0x80 [0, 0, 0, 0, 0, 0, 0, 0] {}).2, 0, 0, { tAtomAsk 0x2E with origin := .peer 0 }, [0, 0, 0, 0, 0, 0, 0, 0], [1, 2, 3, 4, 5, 6, 7, 8], ?_⟩
  decide +kernel

/-! ### Obligations.LaneAtomicsRun -/

theorem witness_fadd32 : ∃ (s s1 s2 : State) (n p : Nat) (q : Req) (old b : List Byte),
    s.domain.ready[n]? = some q ∧ s.notYet q = false ∧ s.targetExists q = true ∧ q.origin = .peer p ∧
    (s.port p).state ≠ .lost ∧ (s.port p).state ≠ .down ∧ q.op = 0x2F ∧ reducible q.addr = true ∧
    ({ s with domain := { s.domain with ready := dropAt n s.domain.ready } } : State).loadRange q.addr (atomicSize
      q) (s.originRequester q) = (.ok old, s1) ∧
    b = subBytes q.data 0 (atomicSize q) ∧ s.sends (.reply p ⟨0x42, ⟨q.rid, q.tag, old, none, 0⟩⟩) = true ∧
    s1.storeRange q.addr (((lanesOf 4 old).mapIdx (fun j l => if (decide (atomicSize q = 8) && decide (j < 2) &&
      q.skip.getLsbD j) = true then l else leBytes 4 ((fp32Add (BitVec.ofNat 32 (leNat l)) (BitVec.ofNat 32 (leNat
      (subBytes b (4 * j) 4)))).toNat))).flatten) (s.originRequester q) = (none, s2) := by
  refine ⟨(tReadyAtom 0x2F), (({ tReadyAtom 0x2F with domain := { (tReadyAtom 0x2F).domain with ready := [] } } : State).loadRange 0x80 8 {}).2, ((({ tReadyAtom 0x2F with domain := { (tReadyAtom 0x2F).domain with ready := [] } } : State).loadRange 0x80 8 {}).2.storeRange 0x80 [1, 2, 3, 4, 5, 6, 7, 8] {}).2, 0, 0, { tAtomAsk 0x2F with origin := .peer 0 }, [0, 0, 0, 0, 0, 0, 0, 0], [1, 2, 3, 4, 5, 6, 7, 8], ?_⟩
  decide +kernel

theorem witness_badd16 : ∃ (s s1 s2 : State) (n p : Nat) (q : Req) (old b : List Byte),
    s.domain.ready[n]? = some q ∧ s.notYet q = false ∧ s.targetExists q = true ∧ q.origin = .peer p ∧
    (s.port p).state ≠ .lost ∧ (s.port p).state ≠ .down ∧ q.op = 0x30 ∧ reducible q.addr = true ∧
    ({ s with domain := { s.domain with ready := dropAt n s.domain.ready } } : State).loadRange q.addr (atomicSize
      q) (s.originRequester q) = (.ok old, s1) ∧
    b = subBytes q.data 0 (atomicSize q) ∧ s.sends (.reply p ⟨0x42, ⟨q.rid, q.tag, old, none, 0⟩⟩) = true ∧
    s1.storeRange q.addr (((lanesOf 2 old).mapIdx (fun j l => if (decide (atomicSize q = 8) && decide (j < 4) &&
      q.skip.getLsbD j) = true then l else leBytes 2 (bf16Add (leNat l) (leNat (subBytes b (2 * j) 2))))).flatten)
      (s.originRequester q) = (none, s2) := by
  refine ⟨(tReadyAtom 0x30), (({ tReadyAtom 0x30 with domain := { (tReadyAtom 0x30).domain with ready := [] } } : State).loadRange 0x80 8 {}).2, ((({ tReadyAtom 0x30 with domain := { (tReadyAtom 0x30).domain with ready := [] } } : State).loadRange 0x80 8 {}).2.storeRange 0x80 [1, 2, 3, 4, 5, 6, 7, 8] {}).2, 0, 0, { tAtomAsk 0x30 with origin := .peer 0 }, [0, 0, 0, 0, 0, 0, 0, 0], [1, 2, 3, 4, 5, 6, 7, 8], ?_⟩
  decide +kernel

theorem witness_iadd32 : ∃ (s s1 s2 : State) (n p : Nat) (q : Req) (old b : List Byte),
    s.domain.ready[n]? = some q ∧ s.notYet q = false ∧ s.targetExists q = true ∧ q.origin = .peer p ∧
    (s.port p).state ≠ .lost ∧ (s.port p).state ≠ .down ∧ q.op = 0x31 ∧ reducible q.addr = true ∧
    ({ s with domain := { s.domain with ready := dropAt n s.domain.ready } } : State).loadRange q.addr (atomicSize
      q) (s.originRequester q) = (.ok old, s1) ∧
    b = subBytes q.data 0 (atomicSize q) ∧ s.sends (.reply p ⟨0x42, ⟨q.rid, q.tag, old, none, 0⟩⟩) = true ∧
    s1.storeRange q.addr (((lanesOf 4 old).mapIdx (fun j l => if (decide (atomicSize q = 8) && decide (j < 2) &&
      q.skip.getLsbD j) = true then l else leBytes 4 (leNat l + leNat (subBytes b (4 * j) 4)))).flatten)
      (s.originRequester q) = (none, s2) := by
  refine ⟨(tReadyAtom 0x31), (({ tReadyAtom 0x31 with domain := { (tReadyAtom 0x31).domain with ready := [] } } : State).loadRange 0x80 8 {}).2, ((({ tReadyAtom 0x31 with domain := { (tReadyAtom 0x31).domain with ready := [] } } : State).loadRange 0x80 8 {}).2.storeRange 0x80 [1, 2, 3, 4, 5, 6, 7, 8] {}).2, 0, 0, { tAtomAsk 0x31 with origin := .peer 0 }, [0, 0, 0, 0, 0, 0, 0, 0], [1, 2, 3, 4, 5, 6, 7, 8], ?_⟩
  decide +kernel

/-! ### Obligations.ContextActionsRun -/

theorem witness_openOp : ∃ (s : State) (x : Nat),
    s.boot.rigLost = false ∧ x ≠ 0 ∧ (s.ctx x).pendingAction = none ∧ (s.ctx x).state = .closed ∧
    openable (s.ctx x) = true := by
  refine ⟨tCtx { state := .closed, cls := [0], ringSize := 64, saveBase := 0x100000, saveSize := 0x400000 }, 1, ?_⟩
  decide +kernel

theorem witness_close : ∃ (s : State) (x : Nat),
    s.boot.rigLost = false ∧ x ≠ 0 ∧ (s.ctx x).pendingAction ≠ some .close ∧ (s.ctx x).state ≠ .saving ∧
    (s.ctx x).state ≠ .restoring ∧ (s.ctx x).saveRunning = false ∧ (s.ctx x).restoreRunning = false := by
  refine ⟨tMember 0 .idle, 1, ?_⟩
  decide +kernel

theorem witness_closeComplete : ∃ (s : State) (x : Nat),
    memoryCanonical s ∧ (s.ctx x).zeroing = true := by
  refine ⟨(tMember 0 .idle).modCtx 1 fun k => { k with zeroing := true }, 1, ?_⟩
  decide +kernel

theorem witness_resume : ∃ (s : State) (x : Nat),
    s.boot.rigLost = false ∧ x ≠ 0 ∧ (s.ctx x).pendingAction = none ∧ (s.ctx x).state = .faulted ∧
    (s.ctx x).saveRunning = false ∧ (s.ctx x).restoreRunning = false ∧ (s.ctx x).clusterLost = false ∧
    pendingCommand (s.ctx x) (s.ctx x).faultCommand = true ∧ (s.ctx x).faultCommand = (s.ctx x).consumer.toNat ∧
    descriptorAt (s.ctx x) (ringNext (s.ctx x).faultCommand) = none ∧
    (s.ctx x).skip.contains (ringNext (s.ctx x).faultCommand) = false ∧
    (descriptorAt (s.ctx x) (s.ctx x).faultCommand).all (fun d => decide (dOpcode d ≠ 9)) = true := by
  refine ⟨(tMember 0 .idle).modCtx 1 fun k => { k with state := .faulted }, 1, ?_⟩
  decide +kernel

theorem witness_resumeLater : ∃ (s : State) (x : Nat),
    s.boot.rigLost = false ∧ x ≠ 0 ∧ (s.ctx x).pendingAction = none ∧ (s.ctx x).state = .faulted ∧
    (s.ctx x).saveRunning = false ∧ (s.ctx x).restoreRunning = false ∧ (s.ctx x).clusterLost = false ∧
    pendingCommand (s.ctx x) (s.ctx x).faultCommand = true ∧
    passedBy (Ctx.resumed (s.ctx x) s.now) (s.ctx x).consumer.toNat = false := by
  refine ⟨(tMember 0 .idle).modCtx 1 fun k => { k with state := .faulted, faultCommand := 1, producer := 2 }, 1, ?_⟩
  decide +kernel

theorem witness_park : ∃ (s : State) (x : Nat),
    s.boot.rigLost = false ∧ x ≠ 0 ∧ (s.ctx x).pendingAction = none ∧ (s.ctx x).state = .bound ∧
    commandBoundary (s.ctx x) = false := by
  refine ⟨tMember 0 .working, 1, ?_⟩
  decide +kernel

theorem witness_parkAtBoundary : ∃ (s : State) (x : Nat),
    s.boot.rigLost = false ∧ x ≠ 0 ∧ (s.ctx x).pendingAction = none ∧ (s.ctx x).state = .bound ∧
    commandBoundary (s.ctx x) = true ∧ (s.ctx x).ending = false ∧ s.defers x = false ∧ (s.ctx x).pendingSeed = none := by
  refine ⟨tMember 0 .idle, 1, ?_⟩
  decide +kernel

theorem witness_detach : ∃ (s : State) (x : Nat),
    s.boot.rigLost = false ∧ x ≠ 0 ∧ (s.ctx x).pendingAction = none ∧ (s.ctx x).state = .parked ∧
    s.doorsOpen x = false := by
  refine ⟨(tMember 0 .idle).modCtx 1 fun k => { k with state := .parked }, 1, ?_⟩
  decide +kernel

theorem witness_attach : ∃ (s s1 s2 : State) (x : Nat) (h : List Byte),
    s.boot.rigLost = false ∧ x ≠ 0 ∧ (s.ctx x).pendingAction = none ∧ (s.ctx x).state = .closed ∧
    s.loadRange (s.ctx x).saveBase 144 hubRequester = (.ok h, s2) ∧
    s.loadRange ((s.ctx x).saveBase + 0x800) 144 hubRequester = (.ok (complementBytes h), s1) ∧ field h 0 2 = x ∧
    subBytes h 0x10 100 = bytesOfClass (s.ctx x).cls := by
  refine ⟨tDetached, (tDetached.loadRange 0x100800 144 hubRequester).2, (tDetached.loadRange 0x100000 144 hubRequester).2, 1, saveHeader 1 (tDetached.ctx 1) 3 0, ?_⟩
  decide +kernel

/-! ### Obligations.SchedulerRuns -/

theorem witness_periodEndAlone : ∃ (s : State) (x : Nat),
    s.belled = false ∧ (s.ctx x).state = .bound ∧ (s.ctx x).ending = false ∧
    (s.ctx x).periodStart + 1000 * (s.ctx x).period ≤ s.now ∧ (s.ctx x).deferredSince = none ∧ s.wanted x = false := by
  refine ⟨tMember 0 .idle, 1, ?_⟩
  decide +kernel

theorem witness_periodEndWanted : ∃ (s : State) (x : Nat),
    s.belled = false ∧ (s.ctx x).state = .bound ∧ (s.ctx x).ending = false ∧
    (s.ctx x).periodStart + 1000 * (s.ctx x).period ≤ s.now ∧ (s.ctx x).deferredSince = none ∧ s.wanted x = true ∧
    s.defers x = false := by
  refine ⟨{ tMember 0 .idle with hubNeeds := [0] }, 1, ?_⟩
  decide +kernel

theorem witness_idlePark : ∃ (s : State) (x : Nat),
    s.belled = false ∧ (s.ctx x).state = .bound ∧ (s.ctx x).ending = false ∧
    (s.ctx x).producer = (s.ctx x).consumer ∧
    (s.wanted x = true ∨ (∃ t0, (s.ctx x).idleSince = some t0 ∧ t0 + 1000000 ≤ s.now)) ∧ s.defers x = false := by
  refine ⟨(tMember 0 .idle).modCtx 1 fun k => { k with producer := 0, idleSince := some 0 }, 1, ?_⟩
  exact ⟨by decide, by decide, by decide, by decide, Or.inr ⟨0, by decide, by decide⟩, by decide +kernel⟩

theorem witness_bindFirst : ∃ (s : State) (l : List Nat) (x : Nat),
    memoryCanonical s ∧ s.belled = false ∧ s.boot.serviceMode = false ∧
    ({ s with hubNeeds := l } : State).waiters = [x] ∧
    ({ s with hubNeeds := l } : State).classFree (s.ctx x).cls = true ∧
    s.towerServes ((s.ctx x).saveBase / 0x2400000000) = true ∧
    (s.ctx x).cls.all (fun c => !(s.cluster c).outOfService) = true ∧ (s.ctx x).state = .opened := by
  refine ⟨tWaiter .opened, [5], 1, ?_⟩
  decide +kernel

theorem witness_bindAgain : ∃ (s : State) (l : List Nat) (x : Nat),
    s.belled = false ∧ s.boot.serviceMode = false ∧ ({ s with hubNeeds := l } : State).waiters = [x] ∧
    ({ s with hubNeeds := l } : State).classFree (s.ctx x).cls = true ∧
    s.towerServes ((s.ctx x).saveBase / 0x2400000000) = true ∧
    (s.ctx x).cls.all (fun c => !(s.cluster c).outOfService) = true ∧ (s.ctx x).state = .parked := by
  refine ⟨tWaiter .parked, [5], 1, ?_⟩
  decide +kernel

theorem witness_saveStart : ∃ (s : State) (x : Nat),
    s.belled = false ∧ (s.ctx x).state = .bound ∧ (s.ctx x).ending = true ∧ (s.ctx x).zeroing = false ∧
    (s.ctx x).saveRunning = false ∧ s.stopEnded x = true ∧ s.changesUnder (s.ctx x).cls = false ∧
    s.movesFenced x = false := by
  refine ⟨tEnding (tMember 0 .idle), 1, ?_⟩
  decide +kernel

theorem witness_saveComplete : ∃ (s : State) (x : Nat),
    (s.ctx x).state = .saving ∧ s.movesFenced x = false ∧ s.frozenOf x = [] ∧ (s.ctx x).pendingAction = none ∧
    (∀ e ∈ s.memory.towers.entries, ∀ q ∈ e.2.hold, q.ctx ≠ x) := by
  refine ⟨(tMember 0 .idle).modCtx 1 fun k => { k with state := .saving, saveRunning := true }, 1, ?_⟩
  decide +kernel

theorem witness_restoreComplete : ∃ (s : State) (x : Nat),
    (s.ctx x).state = .restoring ∧ (s.ctx x).restoreRunning = true ∧ s.movesFenced x = false ∧
    (s.ctx x).pendingAction = none ∧ (s.ctx x).pendingSeed = none ∧
    (∀ e ∈ s.memory.towers.entries, ∀ q ∈ e.2.hold, q.ctx ≠ x) := by
  refine ⟨(tMember 0 .idle).modCtx 1 fun k => { k with state := .restoring, restoreRunning := true }, 1, ?_⟩
  decide +kernel

/-! ### Obligations.RequestsReachClusters -/

theorem witness_inboundDelivered : ∃ (s s1 : State) (p : Nat) (r : Req) (a : Answer),
    (s.die (0x10 + requestTower r)).state = .ready ∧ s.deliveryOf r.ctx (clusterFor r) ≠ .stall ∧
    s.performRequest r (s.originRequester r) = (a, s1) ∧ a ≠ .stalled ∧ r.origin = .peer p ∧
    (s.port p).state ≠ .lost ∧ (s.port p).state ≠ .down ∧ s.sends (.reply p (responseTo r a)) = true := by
  refine ⟨tUp (tMember 0 .idle), ((tUp (tMember 0 .idle)).performRequest tInbound ((tUp (tMember 0 .idle)).originRequester tInbound)).2, 0, tInbound, .ack, ?_⟩
  decide +kernel

theorem witness_inboundHeld : ∃ (s : State) (c b : Nat) (r : Req),
    (s.die (0x10 + c / 200)).state = .ready ∧ c = clusterFor r ∧ c / 200 = requestTower r ∧ isAtomic r.op = false ∧
    (r.op = 0x22 ∨ s.extentPopulated r.addr (max 1 (max r.len r.data.length)) = true) ∧
    (r.op = 0x22 ∨ placeOf r.addr = .cluster c b) ∧ s.deliveryOf r.ctx c = .stall ∧
    (s.ctx r.ctx).clusterLost = false ∧ sumOf holdBytes (s.tower (c / 200)).hold + holdBytes r ≤ 262144 := by
  refine ⟨(tMember 0 .idle).modCtx 1 fun k => { k with state := .saving }, 0, 0x40, tInbound, ?_⟩
  decide +kernel

theorem witness_meshWrite : ∃ (s s1 : State) (r : MeshRequest) (d : List Byte),
    s.deliveryOf r.ctx r.dst = .memory ∧ (s.ctx r.ctx).clusterLost = false ∧
    (s.region (zoneOf r.dst)).stopped = false ∧ r.kind = .write d ∧ s.belled = false ∧
    (s.countMesh r.src r.dst d.length).storeRange (clusterOffset r.dst (r.address % 0x400000)) d (s.requesterAt
      r.srcCtx r.src) = (none, s1) := by
  refine ⟨tMember 0 .idle, (((tMember 0 .idle).countMesh 1 0 1).storeRange (clusterOffset 0 0x40) [1] ((tMember 0 .idle).requesterAt 1 1)).2, ⟨1, 1, .ce, 0, 1, 0x40, 0x40, .write [1]⟩, [1], ?_⟩
  decide +kernel

theorem witness_meshRead : ∃ (s s1 : State) (r : MeshRequest) (n : Nat) (d : List Byte),
    s.deliveryOf r.ctx r.dst = .memory ∧ (s.ctx r.ctx).clusterLost = false ∧
    (s.region (zoneOf r.dst)).stopped = false ∧ r.kind = .read n ∧
    s.loadRange (clusterOffset r.dst (r.address % 0x400000)) n (s.requesterAt r.srcCtx r.src) = (.ok d, s1) := by
  refine ⟨tMember 0 .idle, ((tMember 0 .idle).loadRange (clusterOffset 0 0x40) 1 ((tMember 0 .idle).requesterAt 1 1)).2, ⟨1, 1, .ce, 0, 1, 0x40, 0x40, .read 1⟩, 1, [0], ?_⟩
  decide +kernel

theorem witness_meshTally : ∃ (s s1 s2 : State) (r : MeshRequest) (n amt : Nat) (ref : BitVec 24) (b : List Byte),
    s.deliveryOf r.ctx r.dst = .memory ∧ (s.ctx r.ctx).clusterLost = false ∧
    (s.region (zoneOf r.dst)).stopped = false ∧ r.kind = .tally n amt ∧ s.belled = false ∧
    ref = BitVec.ofNat 24 (n % 256 + r.dst * 256 + 63 * 262144) ∧
    (s.countMesh r.src r.dst 4).loadRange (refOffset ref r.dst) 4 (s.requesterAt r.srcCtx r.src) = (.ok b, s1) ∧
    s1.storeRange (refOffset ref r.dst) (leBytes 4 (leNat b + amt)) (s.requesterAt r.srcCtx r.src) = (none, s2) := by
  refine ⟨(tMember 0 .idle), (((tMember 0 .idle).countMesh 1 0 4).loadRange (refOffset 0xFC0007 0) 4 ((tMember 0 .idle).requesterAt 1 1)).2, ((((tMember 0 .idle).countMesh 1 0 4).loadRange (refOffset 0xFC0007 0) 4 ((tMember 0 .idle).requesterAt 1 1)).2.storeRange (refOffset 0xFC0007 0) (leBytes 4 5) ((tMember 0 .idle).requesterAt 1 1)).2, ⟨1, 1, .ce, 0, 1, 0, 0, .tally 7 5⟩, 7, 5, 0xFC0007, [0, 0, 0, 0], ?_⟩
  decide +kernel

theorem witness_tallyIncrement : ∃ (s s1 s2 : State) (c x n amt : Nat) (b : List Byte),
    c < 800 ∧ (s.cluster c).bound = some x ∧ s.deliveryOf x c = .memory ∧ (s.ctx x).clusterLost = false ∧
    (s.region (zoneOf c)).stopped = false ∧ s.belled = false ∧
    s.loadRange (clusterOffset c (tallyAddress (n % 256))) 4 {} = (.ok b, s1) ∧
    s1.storeRange (clusterOffset c (tallyAddress (n % 256))) (leBytes 4 (leNat b + amt)) {} = (none, s2) := by
  refine ⟨(tMember 0 .idle), ((tMember 0 .idle).loadRange (clusterOffset 0 (tallyAddress 7)) 4 {}).2, (((tMember 0 .idle).loadRange (clusterOffset 0 (tallyAddress 7)) 4 {}).2.storeRange (clusterOffset 0 (tallyAddress 7)) (leBytes 4 5) {}).2, 0, 1, 7, 5, [0, 0, 0, 0], ?_⟩
  decide +kernel

theorem witness_loaderCommit : ∃ (s : State),
    s.load = none ∧
    s.loaderStatus (s.shadow 0x630001) (s.shadow 0x630002) (s.shadow 0x630003) (s.blobShadow 0x630004) = 0 := by
  refine ⟨{ tMember 0 .idle with shadows := ⟨[(0x630001, 1)]⟩, blobShadows := ⟨[(0x630004, List.replicate 16 7)]⟩ }, ?_⟩
  decide +kernel

theorem witness_loaderApplyBound : ∃ (s : State) (x kind n : Nat) (d : List Byte),
    s.load = some (x, kind, n, d) ∧ (s.ctx x).state = .bound ∧ commandBoundary (s.ctx x) = true := by
  refine ⟨{ tMember 0 .idle with load := some (1, 0, 3, [1]) }, 1, 0, 3, [1], ?_⟩
  decide +kernel

theorem witness_loaderApplyImage : ∃ (s : State) (x kind n : Nat) (d : List Byte),
    s.load = some (x, kind, n, d) ∧
    ((s.ctx x).state = .parked ∨ (s.ctx x).state = .held ∨ (s.ctx x).state = .faulted ∧ (s.ctx x).holds = false) ∧
    (s.ctx x).cls.any (fun c => loadWaits (s.memory.cores.get {} (s.imageOf x c)) kind n) = false := by
  refine ⟨{ (tMember 0 .idle).modCtx 1 (fun k => { k with state := .parked }) with load := some (1, 0, 3, [1]) }, 1, 0, 3, [1], ?_⟩
  decide +kernel

theorem witness_arithmeticCommit : ∃ (s : State),
    (s.blobShadow 0x620001).length = 8192 := by
  refine ⟨{ blobShadows := ⟨[(0x620001, List.replicate 8192 1)]⟩ }, ?_⟩
  decide +kernel

/-! ### Obligations.PacketsTravel -/

theorem witness_packetToLane : ∃ (s : State) (src n lane : Nat) (p : Packet),
    (s.rig.outbox.filter fun q => q.src = src)[n]? = some p ∧ s.bellHoldsGuest p = false ∧
    s.slotFenced src p = false ∧ p.targets = [] ∧ s.sitePopulated p.dst = true ∧ creditLimit p.dst p.vc ≠ some 0 ∧
    ((s.rig.outbox.filter fun q => q.src = src).take n).all (fun q => !(q.targets = [] && q.dst = p.dst && q.vc =
      p.vc)) = true ∧
    p.vc ≠ 0 ∧ p.stand = false ∧ (laneKey src lane) ∈ s.soleLanes src p.dst ∧
    s.hasCredits p.src p.dst p.vc (packetFlits p) = true ∧
    replayFlits (s.laneAt (laneKey src lane)).replay + packetFlits p ≤ 512 ∧
    s.onStanding p.src p.dst p.vc = false ∧ p.again = .no ∧
    s.mayTake (laneKey src lane) p.vc ((s.rivals (s.rig.outbox.filter fun q => q.src = src) lane (laneKey src
      lane)).map (·.vc)) = true := by
  refine ⟨tWaitsAt [tPacket 3 0x60 128], 0, 0, 0, tPacket 3 0x60 128, ?_⟩
  decide +kernel

theorem witness_packetRefused : ∃ (s : State) (src n lane : Nat) (p : Packet),
    (s.rig.outbox.filter fun q => q.src = src)[n]? = some p ∧ s.bellHoldsGuest p = false ∧
    s.slotFenced src p = false ∧ p.targets = [] ∧ (s.sitePopulated p.dst = false ∨ creditLimit p.dst p.vc = some 0) := by
  refine ⟨tWaitsAt [{ tPacket 3 0x60 128 with dst := 11 }], 0, 0, 0, { tPacket 3 0x60 128 with dst := 11 }, ?_⟩
  decide +kernel

theorem witness_packetDelivered : ∃ (s : State) (src dst vc corrected : Nat) (noise : List SymbolError) (f : Flight),
    s.rig.inFlight.find? (fun f => f.packet.src = src && f.packet.dst = dst && f.packet.vc = vc && s.deliverable f)
      = some f ∧
    pathEnd f.path = f.packet.dst ∧ f.packet.targets = [] ∧ f.packet.pseq = s.pseqAt f.packet ∧
    f.packet.req.op ∈ [0x10, 0x11, 0x12, 0x60, 0x62, 0x63] ∧ f.packet.again ≠ .copy true ∧
    (if noise = [] then ((none : Option FlitFailure), 0) else s.received f false noise) = (none, corrected) := by
  refine ⟨tUnderWay (tPacket 3 0x60 128), 0, 1, 3, 0, [], { path := laneRx 0 1, seq := 0, packet := tPacket 3 0x60 128 }, ?_⟩
  decide +kernel

theorem witness_packetOld : ∃ (s : State) (src dst vc : Nat) (f : Flight),
    s.rig.inFlight.find? (fun f => f.packet.src = src && f.packet.dst = dst && f.packet.vc = vc && s.deliverable f)
      = some f ∧
    pathEnd f.path = f.packet.dst ∧ f.packet.targets = [] ∧ f.packet.pseq ≠ s.pseqAt f.packet := by
  refine ⟨{ tUnderWay (tPacket 3 0x60 128) with rig := { (tUnderWay (tPacket 3 0x60 128)).rig with pseqExpected := ⟨[(streamKey 0 1 3, 1)]⟩ } }, 0, 1, 3, { path := laneRx 0 1, seq := 0, packet := tPacket 3 0x60 128 }, ?_⟩
  decide +kernel

theorem witness_bulkWrite : ∃ (s s1 : State) (site : Nat) (p : Packet) (a : Answer),
    s.firstArrived site 0x60 = some p ∧ s.performWrite (p.req) (s.originRequester (p.req)) = (a, s1) ∧ a ≠ .stalled := by
  refine ⟨tAtSite (tPacket 3 0x60 128), ((tAtSite (tPacket 3 0x60 128)).performWrite (tPacket 3 0x60 128).req ((tAtSite (tPacket 3 0x60 128)).originRequester (tPacket 3 0x60 128).req)).2, 1, tPacket 3 0x60 128, .ack, ?_⟩
  decide +kernel

theorem witness_mcWrite : ∃ (s s1 : State) (site : Nat) (p : Packet) (d : McTarget) (a : Answer),
    s.firstArrived site 0x61 = some p ∧ p.targets.find? (fun d => d.slot = site) = some d ∧
    s.performWrite ((unicastTo p d).req) (s.originRequester ((unicastTo p d).req)) = (a, s1) ∧ a ≠ .stalled := by
  refine ⟨tAtSite { tMc with dst := 1 }, ((tAtSite { tMc with dst := 1 }).performWrite (unicastTo tMc ⟨1, 1, 0x2400000080, 0, 0⟩).req ((tAtSite { tMc with dst := 1 }).originRequester (unicastTo tMc ⟨1, 1, 0x2400000080, 0, 0⟩).req)).2, 1, { tMc with dst := 1 }, ⟨1, 1, 0x2400000080, 0, 0⟩, .ack, ?_⟩
  decide +kernel

theorem witness_guestPacketSent : ∃ (s : State) (g : Nat) (p q : Packet),
    s.sitePopulated (5 + g) = true ∧
    q = { p with src := 5 + g, pseq := 0, req := { p.req with origin := .guest g } } ∧ packetGood q = true ∧
    s.hasCredits (5 + g) q.dst q.vc (packetFlits q) = true ∧ s.guestAdmits g q = true := by
  refine ⟨{ fuses := { guests := 3 } }, 0, { tPacket 0 5 0 with dst := 4 }, { tPacket 0 5 0 with src := 5, dst := 4, req := { (tPacket 0 5 0).req with origin := .guest 0 } }, ?_⟩
  decide +kernel

theorem witness_guestPacketDropped : ∃ (s : State) (g : Nat) (p q : Packet) (w : Bool),
    s.sitePopulated (5 + g) = true ∧
    q = { p with src := 5 + g, pseq := 0, req := { p.req with origin := .guest g } } ∧
    (w = false ∨ packetGood q = false ∨ s.hasCredits (5 + g) q.dst q.vc (packetFlits q) = false ∨ s.guestAdmits g q
      = false) := by
  refine ⟨{ fuses := { guests := 3 } }, 0, tPacket 3 0x60 128, { tPacket 3 0x60 128 with src := 5, req := { (tPacket 3 0x60 128).req with origin := .guest 0 } }, true, ?_⟩
  decide +kernel

/-! ### Obligations.MulticastReserves -/

theorem witness_mcReserve : ∃ (s : State) (site : Nat) (p : Packet),
    s.firstArrived site 0x10 = some p ∧ p.vc = 0 ∧ (4 ≤ site ∨ s.towerServes site = true) ∧
    s.rig.mcReserved.all (fun r => r.granted) = true ∧ s.rig.withheld.who.contains site = false ∧
    s.buffered p.src site 3 + s.setAside p.src site + p.req.len ≤ (creditLimit site 3).getD 0 := by
  refine ⟨tAtSite (ctrlPacket 0x10 0 1 7 2), 1, ctrlPacket 0x10 0 1 7 2, ?_⟩
  decide +kernel

theorem witness_mcReserveWaits : ∃ (s : State) (site : Nat) (p : Packet),
    s.firstArrived site 0x10 = some p ∧ p.vc = 0 ∧ (4 ≤ site ∨ s.towerServes site = true) ∧
    s.rig.mcReserved.all (fun r => r.granted) = true ∧
    (s.rig.withheld.who.contains site = true ∨ (creditLimit site 3).getD 0 < s.buffered p.src site 3 + s.setAside
      p.src site + p.req.len) := by
  refine ⟨tRig { (tAtSite (ctrlPacket 0x10 0 1 7 2)).rig with spent := ⟨[(streamKey 1 0 3, 2048)]⟩ }, 1, ctrlPacket 0x10 0 1 7 2, ?_⟩
  decide +kernel

theorem witness_mcGrantNoted : ∃ (s : State) (site : Nat) (p : Packet) (m m1 : McPending),
    s.firstArrived site 0x11 = some p ∧ p.vc = 0 ∧
    s.rig.mcPending.find? (fun m => m.src = site && m.tag = p.req.tag && !m.held) = some m ∧
    m1 = { m with grants := p.src :: m.grants.erase p.src } ∧
    m.packet.targets.all (fun d => m1.grants.contains d.slot) = false := by
  refine ⟨tGrant 1 [], 0, ctrlPacket 0x11 1 0 7 0, tPending [], tPending [1], ?_⟩
  decide +kernel

theorem witness_mcGrantSends : ∃ (s : State) (site k : Nat) (p : Packet) (m m1 : McPending),
    s.firstArrived site 0x11 = some p ∧ p.vc = 0 ∧
    s.rig.mcPending.find? (fun m => m.src = site && m.tag = p.req.tag && !m.held) = some m ∧
    m1 = { m with grants := p.src :: m.grants.erase p.src } ∧
    m.packet.targets.all (fun d => m1.grants.contains d.slot) = true ∧ m.packet.targets ≠ [] ∧
    s.splitLane m.src (packetMask m.packet) = some k ∧ replayFlits (s.laneAt k).replay + packetFlits m.packet ≤ 512 := by
  refine ⟨tGrant 2 [1], 0, 31, ctrlPacket 0x11 2 0 7 0, tPending [1], tPending [2, 1], ?_⟩
  decide +kernel

theorem witness_mcCancel : ∃ (s : State) (site : Nat) (p : Packet),
    s.firstArrived site 0x12 = some p ∧ p.vc = 0 ∧
    (s.rig.mcReserved.filter (fun r => !(r.site = site && r.src = p.src && r.tag = p.req.tag))).all (fun r =>
      r.granted) = true := by
  refine ⟨tRig { (tAtSite (ctrlPacket 0x12 0 1 7 0)).rig with mcReserved := [tReserved false] }, 1, ctrlPacket 0x12 0 1 7 0, ?_⟩
  decide +kernel

theorem witness_multicastTimeout : ∃ (s : State) (src tag : Nat) (m : McPending),
    s.rig.mcPending.find? (fun m => m.src = src && m.tag = tag && !m.held) = some m ∧
    m.sent + s.reg 0x402203 ≤ s.now ∧ m.packet.targets.all (fun d => m.grants.contains d.slot) = false := by
  refine ⟨tSplit { mcPending := [tPending [1]] }, 0, 7, tPending [1], ?_⟩
  decide +kernel

/-! ### Obligations.LinksRetry -/

theorem witness_ackInterval : ∃ (s : State) (site : Nat),
    ((List.range 64).all fun p => !(decide (7 + p / 16 = site) && s.portOwesAck p)) = true ∧
    (site ≠ 4 ∨ s.krytaeOwesAck 0 = false ∧ s.krytaeOwesAck 1 = false) := by
  refine ⟨tRig { standing := ⟨[(1, { replay := [(0, 1, tPacket 0 1 0)] })]⟩ }, 1, ?_⟩
  decide +kernel

theorem witness_ackIntervalPorts : ∃ (s : State) (site : Nat),
    site ≠ 4 := by
  refine ⟨(tPort { state := .up, rxSeq := 3 }), 7, ?_⟩
  decide +kernel

theorem witness_flitCodeword : ∃ (s : State) (slot lane dst : Nat) (cause : FlitFailure),
    dst < 16 ∧ cause = .codeword := by
  refine ⟨{}, 0, 1, 1, .codeword, ?_⟩
  decide +kernel

theorem witness_flitOther : ∃ (s : State) (slot lane dst : Nat) (cause : FlitFailure),
    dst < 16 ∧ cause ≠ .codeword := by
  refine ⟨{}, 0, 1, 1, .crc, ?_⟩
  decide +kernel

theorem witness_linkControlStanding : ∃ (s : State) (f : LinkFlit),
    f.sender ≠ f.receiver ∧ s.sitePopulated f.sender = true ∧ s.sitePopulated f.receiver = true ∧ f.sop = false ∧
    f.entries = [] ∧ (s.standing f.sender f.receiver).state ≠ .retraining ∧
    s.rig.mcPending.all (fun m => !(decide (m.src = f.sender) && !m.held)) = true := by
  refine ⟨tRig { standing := ⟨[(1, { replay := [(0, 1, tPacket 0 1 0)] })]⟩ }, ⟨1, 0, [0, 0, 0, 5], 0, false, [], false⟩, ?_⟩
  decide +kernel

theorem witness_linkControlRelays : ∃ (s : State) (site : Nat) (f : LinkFlit),
    f.sender ≠ f.receiver ∧ s.sitePopulated f.sender = true ∧ s.sitePopulated f.receiver = true ∧ site ≠ f.sender ∧
    f.relayed = true := by
  refine ⟨tRig {}, 2, ⟨1, 0, [], 0, false, [], true⟩, ?_⟩
  decide +kernel

theorem witness_linkControlLane : ∃ (s : State) (lane n : Nat) (f : LinkFlit),
    f.sender ≠ f.receiver ∧ s.sitePopulated f.sender = true ∧ s.sitePopulated f.receiver = true ∧ f.sop = false ∧
    f.entries = [(lane, .ack, n)] ∧ (s.lane f.sender lane).targets = 2 ^ f.receiver ∧ f.receiver < 16 ∧
    (s.standing f.sender f.receiver).state ≠ .retraining ∧
    s.rig.mcPending.all (fun m => !(decide (m.src = f.sender) && !m.held)) = true := by
  refine ⟨tRig { lanes := ⟨[(0, { state := .active, targets := 2, replay := [(0, 2, tPacket 3 0x60 128)] })]⟩ }, 0, 1, ⟨1, 0, [], 0, false, [(0, .ack, 1)], false⟩, ?_⟩
  decide +kernel

theorem witness_linkNakEight : ∃ (s : State) (lane : Nat) (f : LinkFlit),
    f.sender ≠ f.receiver ∧ s.sitePopulated f.sender = true ∧ s.sitePopulated f.receiver = true ∧ f.sop = false ∧
    f.entries = [(lane, .nak, (s.lane f.sender lane).nakSeq)] ∧
    Nat.testBit (s.lane f.sender lane).targets f.receiver = true ∧ (s.lane f.sender lane).state = .active ∧
    (s.lane f.sender lane).naks = 7 ∧ (s.lane f.sender lane).ignoreNaks = false ∧
    (s.standing f.sender f.receiver).state ≠ .retraining := by
  refine ⟨tRig { lanes := ⟨[(0, { state := .active, targets := 2, naks := 7, replay := [(0, 2, tPacket 3 0x60 128)] })]⟩ }, 0, ⟨1, 0, [], 0, false, [(0, .nak, 0)], false⟩, ?_⟩
  decide +kernel

theorem witness_laneTrainingStarts : ∃ (s : State) (slot lane : Nat),
    (s.lane slot lane).state = .training ∧ (s.lane slot lane).wrongWait = false ∧ s.coll.tack = none ∧
    (s.lane slot lane).trainStart = none := by
  refine ⟨tRig { lanes := ⟨[(0, { state := .training, targets := 2 })]⟩ }, 0, 0, ?_⟩
  decide +kernel

theorem witness_laneTrainingFails : ∃ (s : State) (slot lane a : Nat),
    (s.lane slot lane).state = .training ∧ (s.lane slot lane).wrongWait = false ∧ s.coll.tack = none ∧
    (s.lane slot lane).trainStart = some a ∧ a + 2000 < s.now := by
  refine ⟨{ tRig { lanes := ⟨[(0, { state := .training, targets := 2, trainStart := some 0 })]⟩ } with clocks := { count := 2001 } }, 0, 0, 0, ?_⟩
  decide +kernel

theorem witness_laneRetrained : ∃ (s : State) (slot lane : Nat),
    (s.lane slot lane).state = .out ∧ (s.lane slot lane).noRetrain = false ∧ (s.lane slot lane).retrains < 3 ∧
    ((s.lane slot lane).retrains = 0 ∨ (s.lane slot lane).lastRetrain + 10000 ≤ s.now) ∧
    (s.dropsFor (laneKey slot lane)).length < 2 := by
  refine ⟨tRig { lanes := ⟨[(0, { state := .out, targets := 2 })]⟩ }, 0, 0, ?_⟩
  decide +kernel

theorem witness_laneRetrainFailed : ∃ (s : State) (slot lane : Nat),
    (s.lane slot lane).state = .out ∧ (s.lane slot lane).noRetrain = false ∧ (s.lane slot lane).retrains < 3 ∧
    ((s.lane slot lane).retrains = 0 ∨ (s.lane slot lane).lastRetrain + 10000 ≤ s.now) := by
  refine ⟨tRig { lanes := ⟨[(0, { state := .out, targets := 2 })]⟩ }, 0, 0, ?_⟩
  decide +kernel

theorem witness_standingPathDown : ∃ (s : State) (src dst : Nat),
    s.hasStanding src dst = true ∧ (s.standing src dst).state = .retraining ∧
    (s.standing src dst).lastRetrain + 20000 ≤ s.now := by
  refine ⟨tRig { standing := ⟨[(1, { state := .retraining })]⟩ }, 0, 1, ?_⟩
  decide +kernel

/-! ### Obligations.StoresServe -/

theorem witness_homeStore : ∃ (s u s1 : State) (a : Access) (x o : Nat) (d : List Byte),
    s.extentPopulated a.offset (max 1 a.len) = true ∧
    (placeOf a.offset = .scratch x o ∨ placeOf a.offset = .hbm x o) ∧ s.towerServes x = true ∧
    s.stallsForPartition a.offset a.len = false ∧ u = (s.disturb (a.offset / 64) a.upset).badTags a ∧
    u.parityOf a ≤ 3 ∧ a.write = some d ∧
    (u.countReg 0x504101 32 (u.parityOf a)).storeRange a.offset (padTo a.len d) (u.accessRequester a) = (none, s1) := by
  refine ⟨(tRig {}), (tRig {}), (((tRig {}).countReg 0x504101 32 0).storeRange 0x80 [1, 2] ((tRig {}).requesterAt 1 0)).2, ⟨0x80, 2, some [1, 2], some (1, 0), false, [], [], 0⟩, 0, 0x80, [1, 2], ?_⟩
  decide +kernel

theorem witness_homeLoad : ∃ (s u s1 : State) (a : Access) (x o : Nat) (d : List Byte),
    s.extentPopulated a.offset (max 1 a.len) = true ∧
    (placeOf a.offset = .scratch x o ∨ placeOf a.offset = .hbm x o) ∧ s.towerServes x = true ∧
    s.stallsForPartition a.offset a.len = false ∧ u = (s.disturb (a.offset / 64) a.upset).badTags a ∧
    u.parityOf a ≤ 3 ∧ a.write = none ∧
    (u.countReg 0x504101 32 (u.parityOf a)).loadRange a.offset a.len (u.accessRequester a) = (.ok d, s1) := by
  refine ⟨(tRig {}), (tRig {}), (((tRig {}).countReg 0x504101 32 0).loadRange 0x80 2 ((tRig {}).requesterAt 1 0)).2, ⟨0x80, 2, none, some (1, 0), false, [], [], 0⟩, 0, 0x80, [0, 0], ?_⟩
  decide +kernel

theorem witness_homeStored : ∃ (s : State) (a : Access) (x o : Nat) (d : List Byte),
    memoryClean s ∧ s.extentPopulated a.offset (max 1 a.len) = true ∧
    (placeOf a.offset = .scratch x o ∨ placeOf a.offset = .hbm x o) ∧ s.towerServes x = true ∧
    s.stallsForPartition a.offset a.len = false ∧ a.upset = [] ∧ a.tagUpset = [] ∧ a.parityFails ≤ 3 ∧
    a.write = some d ∧ d.length = a.len ∧ 0 < a.len := by
  refine ⟨{}, ⟨0x80, 2, some [5, 6], some (1, 0), false, [], [], 0⟩, 0, 0x80, [5, 6], ⟨rfl, rfl, rfl, fun k => ⟨rfl, rfl⟩⟩, ?_⟩
  decide +kernel

theorem witness_homeRead : ∃ (s : State) (a : Access) (x o : Nat),
    memoryClean s ∧ s.extentPopulated a.offset (max 1 a.len) = true ∧
    (placeOf a.offset = .scratch x o ∨ placeOf a.offset = .hbm x o) ∧ s.towerServes x = true ∧
    s.stallsForPartition a.offset a.len = false ∧ a.upset = [] ∧ a.tagUpset = [] ∧ a.parityFails ≤ 3 ∧
    a.write = none := by
  refine ⟨{}, ⟨0x80, 2, none, some (1, 0), false, [], [], 0⟩, 0, 0x80, ⟨rfl, rfl, rfl, fun k => ⟨rfl, rfl⟩⟩, ?_⟩
  decide +kernel

theorem witness_homeParity : ∃ (s u : State) (a : Access) (x o : Nat),
    s.extentPopulated a.offset (max 1 a.len) = true ∧
    (placeOf a.offset = .scratch x o ∨ placeOf a.offset = .hbm x o) ∧ s.towerServes x = true ∧
    s.stallsForPartition a.offset a.len = false ∧ u = (s.disturb (a.offset / 64) a.upset).badTags a ∧
    3 < u.parityOf a ∧ a.management = true := by
  refine ⟨(tRig {}), (tRig {}), ⟨0x80, 2, none, none, true, [], [], 4⟩, 0, 0x80, ?_⟩
  decide +kernel

theorem witness_homeNowhere : ∃ (s : State) (a : Access),
    s.extentPopulated a.offset (max 1 a.len) = false := by
  refine ⟨(tRig {}), ⟨0xC040000000, 2, none, some (1, 0), false, [], [], 0⟩, ?_⟩
  decide +kernel

theorem witness_homeWaits : ∃ (s : State) (a : Access) (x o : Nat),
    s.extentPopulated a.offset (max 1 a.len) = true ∧
    (placeOf a.offset = .scratch x o ∧ s.stallsForPartition a.offset a.len = true ∨ (placeOf a.offset = .scratch x
      o ∨ placeOf a.offset = .hbm x o) ∧ s.towerServes x = false) := by
  refine ⟨{ memory := { towers := ⟨[(0, { scratch := 2, change := some ⟨2, 1, 0, true⟩ })]⟩ } }, ⟨0xC001000000, 2, none, some (1, 0), false, [], [], 0⟩, 0, 0x1000000, ?_⟩
  decide +kernel

theorem witness_correctedWriteback : ∃ (s : State) (w c o : Nat) (left : ErrorPattern),
    w ∈ s.memory.writebacks ∧ (placeOf (64 * w) = .cluster c o ∨ placeOf (64 * w) = .scratch c o) ∧
    decodePattern (s.storedPattern w) = .corrected left ∧ s.residentPattern w = [] := by
  refine ⟨{ memory := { writebacks := [0x38000000C], errors := ⟨[(0x38000000C, [(3, 5)])]⟩ } }, 0x38000000C, 0, 0x300, [], ?_⟩
  decide +kernel

theorem witness_correctedWritebackHbm : ∃ (s : State) (w x o : Nat) (left : ErrorPattern),
    w ∈ s.memory.writebacks ∧ placeOf (64 * w) = .hbm x o ∧ s.residentLine x (lineOf o) = none ∧
    decodePattern (s.hbmPattern x w) = .corrected left ∧ s.residentPattern w = [] := by
  refine ⟨{ memory := { writebacks := [2], errors := ⟨[(2, [(3, 5)])]⟩ } }, 2, 0, 0x80, [], ?_⟩
  decide +kernel

theorem witness_scrubCorrects : ∃ (s : State) (w c o : Nat) (p left : ErrorPattern),
    placeOf (64 * w) = .cluster c o ∧ o < 0x300000 ∧ p = s.storedPattern w ∧ decodePattern p = .corrected left := by
  refine ⟨{ memory := { errors := ⟨[(0x38000000C, [(3, 5)])]⟩ } }, 0x38000000C, 0, 0x300, [(3, 5)], [], ?_⟩
  decide +kernel

theorem witness_scrubMarks : ∃ (s : State) (w c o : Nat) (p : ErrorPattern),
    placeOf (64 * w) = .cluster c o ∧ o < 0x300000 ∧ p = s.storedPattern w ∧ decodePattern p = .uncorrectable := by
  refine ⟨{ memory := { errors := ⟨[(0x38000000C, [(3, 5), (4, 1), (5, 9), (9, 1), (12, 3)])]⟩ } }, 0x38000000C, 0, 0x300, [(3, 5), (4, 1), (5, 9), (9, 1), (12, 3)], ?_⟩
  decide +kernel

theorem witness_scrubClean : ∃ (s : State) (w c o : Nat) (p : ErrorPattern),
    placeOf (64 * w) = .cluster c o ∧ o < 0x300000 ∧ p = s.storedPattern w ∧ decodePattern p = .clean := by
  refine ⟨{}, 0x38000000C, 0, 0x300, [], ?_⟩
  decide +kernel

theorem witness_memoryCommit : ∃ (s : State) (x : Nat),
    s.commitPending 0x50 = false ∧ ((∀ u, u < 4 → s.scratchShadow u ≤ 48)) ∧ x < 4 ∧
    s.scratchShadow x ≠ s.reg (0x501001 + x) := by
  refine ⟨{ shadows := ⟨[(0x501002, 7)]⟩ }, 1, ?_⟩
  decide +kernel

theorem witness_memoryCommitRefused : ∃ (s : State) (x : Nat),
    s.commitPending 0x50 = false ∧ x < 4 ∧ 48 < s.scratchShadow x := by
  refine ⟨{ shadows := ⟨[(0x501002, 49)]⟩ }, 1, ?_⟩
  decide +kernel

theorem witness_partitionChange : ∃ (s : State) (x n : Nat),
    (s.tower x).due = some n ∧ s.movesOn x = false ∧ (s.die (0x10 + x)).state = .ready := by
  refine ⟨{ package := { dies := ⟨[(0x10, { state := .ready })]⟩ }, memory := { towers := ⟨[(0, { due := some 3 })]⟩, sets := ⟨[(0, { ways := [some (0, true)] })]⟩ } }, 0, 3, ?_⟩
  decide +kernel

theorem witness_partitionChangeEnd : ∃ (s : State) (x : Nat) (c : PartitionChange),
    (s.tower x).change = some c ∧ (s.die (0x10 + x)).state = .ready ∧ (s.tower x).stalled = [] := by
  refine ⟨{ package := { dies := ⟨[(0x10, { state := .ready })]⟩ }, memory := { towers := ⟨[(0, { scratch := 2, change := some ⟨2, 1, 0, true⟩ })]⟩, sets := ⟨[(0, { ways := [some (0, true)] })]⟩ } }, 0, ⟨2, 1, 0, true⟩, ?_⟩
  decide +kernel

/-! ### Obligations.LampsFade -/

theorem witness_lineBelow : ∃ (s : State) (b n ch : Nat) (fall : BitVec 32),
    (s.laser b n).samples ≠ [] ∧ (s.laser b n).channel = some ch ∧
    ((s.laser b n).state = .active ∨ (s.laser b n).state = .warned) ∧
    (((sampleSum (s.laser b n).samples).mul (Num.ofInt (s.laser b n).lastSamples.length)).lt ((sampleSum (s.laser b
      n).lastSamples).mul (Num.ofInt (s.laser b n).samples.length)) && below30 ((sampleSum (s.laser b
      n).samples).mul (Num.ofInt (s.laser b n).lastSamples.length)) ((sampleSum (s.laser b n).lastSamples).mul
      (Num.ofInt (s.laser b n).samples.length))) = false ∧
    (s.laser b n).drive < 1000 ∨ (below10 (sampleSum (s.laser b n).samples) ((s.laser b n).times (s.laser b
      n).commissioning) = false ∧ below15 (sampleSum (s.laser b n).samples) ((s.laser b n).times (s.laser b
      n).commissioning) = false ∧ below30 (sampleSum (s.laser b n).samples) ((s.laser b n).times (s.laser b
      n).commissioning) = false) ∧
    s.spareFor b ch = none := by
  refine ⟨tBar [(0, { channel := some 0, commissioning := 0x3F800000, drive := 1000, samples := [0x3F800000] })], 0, 0, 0, 0x3F000000, ?_⟩
  decide +kernel

theorem witness_lineFollowed : ∃ (s : State) (b n ch p : Nat) (fall : BitVec 32),
    (s.laser b n).samples ≠ [] ∧ (s.laser b n).channel = some ch ∧
    ((s.laser b n).state = .active ∨ (s.laser b n).state = .warned) ∧
    (((sampleSum (s.laser b n).samples).mul (Num.ofInt (s.laser b n).lastSamples.length)).lt ((sampleSum (s.laser b
      n).lastSamples).mul (Num.ofInt (s.laser b n).samples.length)) && below30 ((sampleSum (s.laser b
      n).samples).mul (Num.ofInt (s.laser b n).lastSamples.length)) ((sampleSum (s.laser b n).lastSamples).mul
      (Num.ofInt (s.laser b n).samples.length))) = false ∧
    (s.laser b n).drive < 1000 ∨ (below10 (sampleSum (s.laser b n).samples) ((s.laser b n).times (s.laser b
      n).commissioning) = false ∧ below15 (sampleSum (s.laser b n).samples) ((s.laser b n).times (s.laser b
      n).commissioning) = false ∧ below30 (sampleSum (s.laser b n).samples) ((s.laser b n).times (s.laser b
      n).commissioning) = false) ∧
    s.spareFor b ch = some p ∧ (s.laser b p).state = .ready := by
  refine ⟨tBar [(0, { channel := some 0, commissioning := 0x3F800000, drive := 1000, output := 7, samples := [0x3F800000] }), (17, { forChannel := some 0, state := .ready })], 0, 0, 0, 17, 0, ?_⟩
  decide +kernel

theorem witness_lineWarned : ∃ (s : State) (b n ch p : Nat) (fall : BitVec 32),
    (s.laser b n).samples ≠ [] ∧ (s.laser b n).channel = some ch ∧
    ((s.laser b n).state = .active ∨ (s.laser b n).state = .warned) ∧
    (((sampleSum (s.laser b n).samples).mul (Num.ofInt (s.laser b n).lastSamples.length)).lt ((sampleSum (s.laser b
      n).lastSamples).mul (Num.ofInt (s.laser b n).samples.length)) && below30 ((sampleSum (s.laser b
      n).samples).mul (Num.ofInt (s.laser b n).lastSamples.length)) ((sampleSum (s.laser b n).lastSamples).mul
      (Num.ofInt (s.laser b n).samples.length))) = false ∧
    1000 ≤ (s.laser b n).drive ∧
    below10 (sampleSum (s.laser b n).samples) ((s.laser b n).times (s.laser b n).commissioning) = true ∧
    below15 (sampleSum (s.laser b n).samples) ((s.laser b n).times (s.laser b n).commissioning) = false ∧
    below30 (sampleSum (s.laser b n).samples) ((s.laser b n).times (s.laser b n).commissioning) = false ∧
    (s.laser b n).past10 = false ∧ s.spareFor b ch = none ∧ s.standbySpare b = some p := by
  refine ⟨tBar [(0, { channel := some 0, commissioning := 0x3F800000, drive := 1000, samples := [0x3F400000] })], 0, 0, 0, 16, 0x3FA00000, ?_⟩
  decide +kernel

theorem witness_lineJump : ∃ (s : State) (b n ch : Nat) (fall : BitVec 32),
    (s.laser b n).samples ≠ [] ∧ (s.laser b n).channel = some ch ∧
    ((s.laser b n).state = .active ∨ (s.laser b n).state = .warned) ∧
    (((sampleSum (s.laser b n).samples).mul (Num.ofInt (s.laser b n).lastSamples.length)).lt ((sampleSum (s.laser b
      n).lastSamples).mul (Num.ofInt (s.laser b n).samples.length)) && below30 ((sampleSum (s.laser b
      n).samples).mul (Num.ofInt (s.laser b n).lastSamples.length)) ((sampleSum (s.laser b n).lastSamples).mul
      (Num.ofInt (s.laser b n).samples.length))) = true ∧
    s.spareFor b ch = none := by
  refine ⟨tBar [(0, { channel := some 0, commissioning := 0x3F800000, drive := 1000, samples := [0x3E800000], lastSamples := [0x3F800000] })], 0, 0, 0, 0x40C00000, ?_⟩
  decide +kernel

theorem witness_lineGone : ∃ (s : State) (b n ch : Nat) (fall : BitVec 32),
    (s.laser b n).samples ≠ [] ∧ (s.laser b n).channel = some ch ∧
    ((s.laser b n).state = .active ∨ (s.laser b n).state = .warned) ∧
    (((sampleSum (s.laser b n).samples).mul (Num.ofInt (s.laser b n).lastSamples.length)).lt ((sampleSum (s.laser b
      n).lastSamples).mul (Num.ofInt (s.laser b n).samples.length)) && below30 ((sampleSum (s.laser b
      n).samples).mul (Num.ofInt (s.laser b n).lastSamples.length)) ((sampleSum (s.laser b n).lastSamples).mul
      (Num.ofInt (s.laser b n).samples.length))) = false ∧
    1000 ≤ (s.laser b n).drive ∧ (s.laser b n).past10 = true ∧ (s.laser b n).past15 = true ∧
    (s.laser b n).past30 = false ∧
    below30 (sampleSum (s.laser b n).samples) ((s.laser b n).times (s.laser b n).commissioning) = true ∧
    s.spareFor b ch = none := by
  refine ⟨tBar [(0, { channel := some 0, commissioning := 0x3F800000, drive := 1000, samples := [0x3E800000], state := .warned, past10 := true, past15 := true })], 0, 0, 0, 0x40C00000, ?_⟩
  decide +kernel

theorem witness_backFacet : ∃ (s : State) (l : List (BitVec 32 × Nat)),
    l.length = 240 := by
  refine ⟨{}, List.replicate 240 (7, 1200), ?_⟩
  decide +kernel

theorem witness_abruptLine : ∃ (s : State) (b n ch : Nat),
    (s.laser b n).channel = some ch ∧ (s.laser b n).state ≠ .dead ∧ (s.laser b n).state ≠ .retired ∧
    s.spareFor b ch = none := by
  refine ⟨{}, 0, 0, 0, ?_⟩
  decide +kernel

theorem witness_abruptSpare : ∃ (s : State) (b n : Nat),
    (s.laser b n).channel = none ∧ (s.laser b n).state ≠ .dead ∧ (s.laser b n).state ≠ .retired := by
  refine ⟨{}, 0, 17, ?_⟩
  decide +kernel

theorem witness_spareWaits : ∃ (s : State) (b n ch l : Nat) (o : Int) (seen : Bool),
    (s.laser b n).forChannel = some ch ∧ (s.laser b n).state = .preparing ∧ o.natAbs ≤ 50 ∧
    s.lineForChannel b ch = some l ∧ (s.laser b l).state ≠ .dead ∧ s.swapRuns b = true ∧ n < 20 := by
  refine ⟨{ tSwap 0 false with photonics := { (tSwap 0 false).photonics with lasers := ⟨[(17, { forChannel := some 1, state := .preparing })]⟩ } }, 0, 17, 1, 1, -50, false, ?_⟩
  decide +kernel

theorem witness_spareForDead : ∃ (s : State) (b n ch l : Nat) (o : Int),
    (s.laser b n).forChannel = some ch ∧ (s.laser b n).state = .preparing ∧ o.natAbs ≤ 50 ∧
    s.lineForChannel b ch = some l ∧ (s.laser b l).state = .dead ∧ s.spareFor b ch = some n ∧ n < 20 ∧ l ≠ n ∧
    (s.bar b).droppedChannels.Nodup := by
  refine ⟨tDead, 0, 16, 0, 0, 50, ?_⟩
  decide +kernel

theorem witness_spareHeldBack : ∃ (s : State) (b n ch l : Nat) (o : Int),
    (s.laser b n).forChannel = some ch ∧ (s.laser b n).state = .preparing ∧ s.lineForChannel b ch = some l ∧
    (s.laser b l).state = .dead := by
  refine ⟨tDead, 0, 16, 0, 0, 0, ?_⟩
  decide +kernel

theorem witness_crossfadeStep : ∃ (s : State) (b : Nat) (r : SwapRun),
    (s.bar b).swap = some r ∧ r.step < 64 ∧ r.started + 10000 + 3125 * (r.step + 1) ≤ s.now ∧ r.line ≠ r.spare := by
  refine ⟨tSwap 3 false, 0, tSwapRun 3 false, ?_⟩
  decide +kernel

theorem witness_swapRetire : ∃ (s : State) (b : Nat) (r : SwapRun),
    (s.bar b).swap = some r ∧ r.retired = false ∧ 64 ≤ r.step ∧ r.started + 210000 ≤ s.now ∧ r.line ≠ r.spare := by
  refine ⟨tSwap 64 false, 0, tSwapRun 64 false, ?_⟩
  decide +kernel

theorem witness_swapDone : ∃ (s : State) (b : Nat) (r : SwapRun),
    (s.bar b).swap = some r ∧ r.retired = true ∧ r.started + 250000 ≤ s.now ∧
    (List.range 20).all (fun n => !(s.laser b n).past15) = true := by
  refine ⟨tSwap 64 true, 0, tSwapRun 64 true, ?_⟩
  decide +kernel

theorem witness_spareRamp : ∃ (s : State) (b n u : Nat) (v : BitVec 32),
    ((s.laser b n).state = .active ∨ (s.laser b n).state = .warned) ∧ (s.laser b n).rampAt = some u ∧
    u + 100000 ≤ s.now ∧ stepOf (s.laser b n).output v = true ∧
    (fp32.decode v.toNat).lt (fp32.decode (s.laser b n).commissioning.toNat) = true := by
  refine ⟨tRamp 0x41200000, 0, 0, 0, 0x4102FB44, ?_⟩
  decide +kernel

theorem witness_spareRampEnds : ∃ (s : State) (b n u : Nat) (v : BitVec 32),
    ((s.laser b n).state = .active ∨ (s.laser b n).state = .warned) ∧ (s.laser b n).rampAt = some u ∧
    u + 100000 ≤ s.now ∧ stepOf (s.laser b n).output v = true ∧
    (fp32.decode v.toNat).lt (fp32.decode (s.laser b n).commissioning.toNat) = false := by
  refine ⟨tRamp 0x41010000, 0, 0, 0, 0x4102FB44, ?_⟩
  decide +kernel

theorem witness_reCommission : ∃ (s : State) (v n : Nat),
    (s.lifeCycle = 0 ∨ s.lifeCycle = 3) ∧ v ≤ 191 ∧ s.lineForChannel (v / 16) (v % 16) = some n ∧
    (s.laser (v / 16) n).state = .active := by
  refine ⟨{ fuses := { lifeCopy0 := 0, lifeCopy1 := 0 } }, 17, 1, ?_⟩
  decide +kernel

theorem witness_reCommissionRefused : ∃ (s : State) (v : Nat),
    s.lifeCycle ≠ 0 ∧ s.lifeCycle ≠ 3 := by
  refine ⟨{ fuses := { lifeCopy0 := 1, lifeCopy1 := 1 } }, 3, ?_⟩
  decide +kernel

/-! ### Obligations.RingsRelock -/

theorem witness_kRemeasure : ∃ (s : State) (b : Nat) (k : List (BitVec 32)),
    isElement (16 * b) = true ∧ s.reg 0x440004 ≠ 2 ∧
    (List.range 16).all (fun i => (s.ring (16 * b + i)).state = .locked) = true ∧
    ((s.bank b).count = 0 ∨ (s.bank b).time + 3600000000000 ≤ s.now) := by
  refine ⟨{}, 0x4010, [], ?_⟩
  decide +kernel

theorem witness_calibrationPass : ∃ (s : State) (b : Nat) (l : List Int),
    isElement (16 * b) = true ∧ s.reg 0x440004 ≠ 2 ∧
    (match (s.bank b).passed with | some u => decide (s.now < u + 1000000 * s.reg 0x430007) | none => false) =
      false ∧
    s.bankSwaps b = false ∧ 2000 ≤ (s.bank b).centi ∧ (s.bank b).centi ≤ 8200 := by
  refine ⟨{}, 0x4010, List.replicate 16 4, ?_⟩
  decide +kernel

theorem witness_calibrationSkipped : ∃ (s : State) (b : Nat) (l : List Int),
    isElement (16 * b) = true ∧ s.reg 0x440004 ≠ 2 ∧
    (match (s.bank b).passed with | some u => decide (s.now < u + 1000000 * s.reg 0x430007) | none => false) =
      false ∧
    s.bankSwaps b = false ∧ 8200 < (s.bank b).centi ∧ (s.bank b).skipRaised = false ∧ (s.bank b).pending = none := by
  refine ⟨{ photonics := { banks := ⟨[(0x4010, { centi := 9000 })]⟩ } }, 0x4010, [], ?_⟩
  decide +kernel

theorem witness_referencesAgree : ∃ (s : State) (a h : Nat),
    h ≠ 0 ∧ 200 * ((a : Int) - h).natAbs ≤ h ∧ s.reg 0x440004 = 0 := by
  refine ⟨{}, 1000, 1000, ?_⟩
  decide +kernel

theorem witness_referencesWarn : ∃ (s : State) (a h : Nat),
    h ≠ 0 ∧ h < 200 * ((a : Int) - h).natAbs ∧ 50 * ((a : Int) - h).natAbs ≤ h ∧ s.reg 0x440004 = 0 := by
  refine ⟨{}, 1010, 1000, ?_⟩
  decide +kernel

theorem witness_referencesStop : ∃ (s : State) (a h : Nat),
    h < 50 * ((a : Int) - h).natAbs ∧ s.reg 0x440004 < 2 := by
  refine ⟨{}, 1010, 0, ?_⟩
  decide +kernel

theorem witness_toneGood : ∃ (s : State) (e : Nat) (u : Int),
    isElement e = true ∧ (s.ring e).state = .locked := by
  refine ⟨tRing { trim := -2000, limitSince := some 3 }, 0x40100, -2500, ?_⟩
  decide +kernel

theorem witness_toneUnlocked : ∃ (s : State) (e : Nat) (u : Int),
    isElement e = true ∧ (s.ring e).state ≠ .locked := by
  refine ⟨tRing { state := .verify }, 0x40100, 7, ?_⟩
  decide +kernel

theorem witness_toneWrongThrice : ∃ (s : State) (e x : Nat) (u : Int),
    isElement e = true ∧ (s.ring e).state = .locked ∧ x ≠ elRing e ∧ 2 ≤ (s.ring e).wrongWindows := by
  refine ⟨tRing { wrongWindows := 2 }, 0x40100, 3, 0, ?_⟩
  decide +kernel

theorem witness_trimLimit : ∃ (s : State) (e u : Nat),
    isElement e = true ∧ (s.ring e).state = .locked ∧ (s.ring e).limitSince = some u ∧ u + 1000000 ≤ s.now := by
  refine ⟨{ tRing { limitSince := some 0 } with clocks := { count := 1000000 } }, 0x40100, 0, ?_⟩
  decide +kernel

theorem witness_sweepPeak : ∃ (s : State) (e x : Nat),
    (s.ring e).state = .sweeping ∧ (s.ring e).retryAt = none ∧ (s.ring e).sweepAt + 402000 ≤ s.now ∧ x ≤ 40000 := by
  refine ⟨{ tRing { state := .sweeping } with clocks := { count := 402000 } }, 0x40100, 40000, ?_⟩
  decide +kernel

theorem witness_sweepNone : ∃ (s : State) (e : Nat),
    (s.ring e).state = .sweeping ∧ (s.ring e).retryAt = none ∧ (s.ring e).sweepAt + 402000 ≤ s.now ∧
    (s.ring e).attempts < 3 := by
  refine ⟨{ tRing { state := .sweeping, attempts := 1 } with clocks := { count := 402000 } }, 0x40100, ?_⟩
  decide +kernel

theorem witness_sweepFailed : ∃ (s : State) (e : Nat),
    (s.ring e).state = .sweeping ∧ (s.ring e).retryAt = none ∧ (s.ring e).sweepAt + 402000 ≤ s.now ∧
    3 ≤ (s.ring e).attempts := by
  refine ⟨{ tRing { state := .sweeping, attempts := 3 } with clocks := { count := 402000 } }, 0x40100, ?_⟩
  decide +kernel

theorem witness_verified : ∃ (s : State) (e : Nat),
    (s.ring e).state = .verify ∧ 3 ≤ (s.ring e).goodWindows := by
  refine ⟨tRing { state := .verify, candidate := 9, goodWindows := 3 }, 0x40100, ?_⟩
  decide +kernel

theorem witness_notVerified : ∃ (s : State) (e : Nat),
    (s.ring e).state = .verify ∧ (s.ring e).attempts < 3 := by
  refine ⟨tRing { state := .verify }, 0x40100, ?_⟩
  decide +kernel

theorem witness_relockRetry : ∃ (s : State) (e a : Nat),
    (s.ring e).retryAt = some a ∧ (s.ring e).state = .sweeping ∧ a ≤ s.now := by
  refine ⟨tRing { state := .sweeping, retryAt := some 0 }, 0x40100, 0, ?_⟩
  decide +kernel

theorem witness_laneNarrow : ∃ (s : State) (slot lane : Nat),
    (s.lane slot lane).narrowing ≠ none ∧ (s.lane slot lane).state = .active := by
  refine ⟨tLane0 { state := .active, targets := 2, narrowing := some 0 }, 0, 0, ?_⟩
  decide +kernel

theorem witness_laneNarrowRetrain : ∃ (s : State) (slot lane : Nat),
    (s.lane slot lane).narrowing ≠ none ∧ (s.lane slot lane).state = .quiescing ∧
    (s.dropsFor (laneKey slot lane)).length < 2 := by
  refine ⟨{ tLane0 { state := .quiescing, targets := 2, narrowing := some 0 } with photonics := { bars := ⟨[(0, { droppedChannels := [3] })]⟩ } }, 0, 0, ?_⟩
  decide +kernel

theorem witness_elementSelect : ∃ (s : State) (e : Nat),
    isElement e = true := by
  refine ⟨{}, 0x40100, ?_⟩
  decide +kernel

/-! ### Obligations.DiesReset -/

theorem witness_dieResetCache : ∃ (s : State) (d : Nat),
    d ∈ [0x10, 0x11, 0x12, 0x13] ∧ (s.die d).state = .ready ∧ s.resetRunning = false ∧ s.package.dueResets = [] := by
  refine ⟨{}, 0x11, ?_⟩
  decide +kernel

theorem witness_dieResetCompute : ∃ (s : State) (d : Nat),
    d ∈ [0x20, 0x21, 0x22, 0x23] ∧ (s.die d).state = .ready ∧ s.resetRunning = false ∧ s.package.dueResets = [] := by
  refine ⟨{}, 0x21, ?_⟩
  decide +kernel

theorem witness_dieResetHalf : ∃ (s : State) (d : Nat),
    (d = 0x30 ∨ d = 0x31) ∧ (s.die d).state = .ready ∧ s.activeComplex ≠ some (d % 16) ∧ s.resetRunning = false ∧
    s.package.dueResets = [] := by
  refine ⟨{}, 0x31, ?_⟩
  decide +kernel

theorem witness_dieResetCode : ∃ (s : State) (d : Nat),
    d ∉ resetCodes := by
  refine ⟨{}, 0x14, ?_⟩
  decide +kernel

theorem witness_dieResetBusy : ∃ (s : State) (d : Nat),
    d ∈ resetCodes ∧ (s.resetRunning = true ∨ s.package.dueResets ≠ []) := by
  refine ⟨tDie 0x10 { state := .reset }, 0x11, ?_⟩
  decide +kernel

theorem witness_watchdog : ∃ (s : State) (d : Nat),
    d ∈ [0x10, 0x11, 0x12, 0x13] ∧ (s.die d).state = .ready ∧ d ∉ s.package.dueResets.map (·.1) ∧
    (s.resetRunning = true ∨ s.package.dueResets = []) := by
  refine ⟨tDie 0x10 { state := .reset }, 0x11, ?_⟩
  decide +kernel

theorem witness_watchdogHalts : ∃ (s : State) (k : Nat),
    k < 2 ∧ (s.die (0x30 + k)).state = .ready ∧ s.activeComplex = some k ∧
    (s.complex (twinOf k)).state ≠ .standby ∧ s.boot.halted = false ∧ (0x30 + k) ∉ s.package.dueResets.map (·.1) := by
  refine ⟨{ control := { complexes := ⟨[(0, { state := .active }), (1, { state := .offline })]⟩ } }, 0, ?_⟩
  decide +kernel

theorem witness_kdFence : ∃ (s : State) (x : Nat),
    s.resetRunning = false ∧ (0x10 + x) ∈ s.package.dueResets.map (·.1) ∧ (s.die (0x10 + x)).state = .ready := by
  refine ⟨{ package := { dueResets := [(0x11, false)] } }, 1, ?_⟩
  decide +kernel

theorem witness_kdFenced : ∃ (s : State) (x : Nat),
    (s.die (0x10 + x)).state = .fencing ∧ s.slotBusy x = false ∧ (s.tower x).change = none := by
  refine ⟨tDie 0x11 { state := .fencing }, 1, ?_⟩
  decide +kernel

theorem witness_fenceTimeout : ∃ (s : State) (x : Nat),
    x < 16 ∧ (s.die (0x10 + x)).state = .fencing ∧ (s.tower x).change = none ∧
    (s.die (0x10 + x)).resetStart + 250000 + (s.die (0x10 + x)).fenceExtra ≤ s.now := by
  refine ⟨{ tDie 0x11 { state := .fencing } with clocks := { count := 250000 } }, 1, ?_⟩
  decide +kernel

theorem witness_abruptCompute : ∃ (s : State) (x : Nat),
    x < 4 ∧ ((s.die (0x20 + x)).state = .ready ∨ (s.die (0x20 + x)).state = .fencing) := by
  refine ⟨tMember 0 .idle, 0, ?_⟩
  decide +kernel

theorem witness_clockLoss : ∃ (s : State) (x : Nat),
    x < 4 ∧ (s.die (0x10 + x)).state = .ready := by
  refine ⟨{}, 1, ?_⟩
  decide +kernel

theorem witness_cdPark : ∃ (s : State) (x : Nat),
    (s.die (0x20 + x)).state = .fencing ∧ s.holdersOn x = [] := by
  refine ⟨tDie 0x21 { state := .fencing }, 1, ?_⟩
  decide +kernel

theorem witness_cdParkLate : ∃ (s : State) (x : Nat),
    (s.die (0x20 + x)).state = .fencing ∧ (s.die (0x20 + x)).resetStart + 1000000 ≤ s.now := by
  refine ⟨{ tMember 0 .idle with package := { dies := ⟨[(0x20, { state := .fencing })]⟩ }, clocks := { count := 1000000 } }, 0, ?_⟩
  decide +kernel

theorem witness_hubHalt : ∃ (s : State),
    (s.die 0x30).state ≠ .ready ∧ (s.die 0x31).state ≠ .ready ∧ s.boot.halted = false := by
  refine ⟨{ package := { dies := ⟨[(0x30, { state := .reset }), (0x31, { state := .reset })]⟩ } }, ?_⟩
  decide +kernel

theorem witness_kdReady : ∃ (s : State) (x : Nat),
    (s.die (0x10 + x)).state = .training ∧ (s.die (0x10 + x)).unagreed = [] ∧ (s.tower x).hold = [] ∧
    (s.tower x).stalled = [] ∧ s.package.dueResets = [] ∧ (s.die (0x10 + x)).abrupt = false := by
  refine ⟨tDie 0x11 { state := .training }, 1, ?_⟩
  decide +kernel

theorem witness_kdReadyMarked : ∃ (s : State) (x : Nat),
    (s.die (0x10 + x)).state = .training ∧ (s.die (0x10 + x)).unagreed = [] ∧ (s.tower x).hold = [] ∧
    (s.tower x).stalled = [] ∧ s.package.dueResets = [] ∧ (s.die (0x10 + x)).abrupt = true := by
  refine ⟨tDie 0x11 { state := .training, abrupt := true }, 1, ?_⟩
  decide +kernel

/-! ### Obligations.StaysRepair -/

theorem witness_staySuspect : ∃ (s : State) (id n f r : Nat),
    isLink id = true ∧ suspected (linkKind id) (s.stay (stayKey id n)).swapped.length f r = true ∧
    n < linkStays (linkKind id) ∧ (s.stay (stayKey id n)).retired = false ∧
    (s.stay (stayKey id n)).suspect = none ∧ linkKind id ≠ 3 ∧ linkKind id ≠ 4 := by
  refine ⟨{ package := { stays := ⟨[(stayKey (linkId 1 0 5) 9, { swapped := [4, 5] })]⟩ } }, linkId 1 0 5, 9, 0, 16, ?_⟩
  decide +kernel

theorem witness_staySuspectLane : ∃ (s : State) (id n f r k : Nat),
    isLink id = true ∧ suspected (linkKind id) (s.stay (stayKey id n)).swapped.length f r = true ∧
    n < linkStays (linkKind id) ∧ (s.stay (stayKey id n)).retired = false ∧
    (s.stay (stayKey id n)).suspect = none ∧ (linkKind id = 3 ∨ linkKind id = 4) ∧ s.laneOfLink id = some k ∧
    (s.laneAt k).state = .active := by
  refine ⟨{}, linkId 3 0 5, 9, 16, 0, 5, ?_⟩
  decide +kernel

theorem witness_stayNotSuspect : ∃ (s : State) (id n f r : Nat),
    suspected (linkKind id) (s.stay (stayKey id n)).swapped.length f r = false := by
  refine ⟨{}, linkId 1 0 5, 9, 15, 40, ?_⟩
  decide +kernel

theorem witness_repairNothing : ∃ (s : State) (id n : Nat),
    (s.stay (stayKey id n)).suspect ≠ none ∧ (s.stay (stayKey id n)).retired = false ∧ linkKind id ≠ 3 ∧
    linkKind id ≠ 4 ∧ ¬ (linkKind id = 1 ∧ (s.region (zoneOf (200 * linkSite id + linkIndex id))).stopped = true) ∧
    (s.stay (stayKey id n)).swapped.length ≤ 2 := by
  refine ⟨{ package := { stays := ⟨[(stayKey (linkId 1 0 5) 9, { suspect := some 0 })]⟩ } }, linkId 1 0 5, 9, ?_⟩
  decide +kernel

theorem witness_repairOne : ∃ (s : State) (id n b : Nat),
    (s.stay (stayKey id n)).suspect ≠ none ∧ (s.stay (stayKey id n)).retired = false ∧ linkKind id ≠ 3 ∧
    linkKind id ≠ 4 ∧ ¬ (linkKind id = 1 ∧ (s.region (zoneOf (200 * linkSite id + linkIndex id))).stopped = true) ∧
    (s.stay (stayKey id n)).swapped.length ≤ 1 ∧ b < 32 ∧ b ∉ (s.stay (stayKey id n)).swapped := by
  refine ⟨{ package := { stays := ⟨[(stayKey (linkId 1 0 5) 9, { suspect := some 0 })]⟩ } }, linkId 1 0 5, 9, 7, ?_⟩
  decide +kernel

theorem witness_repairPin : ∃ (s : State) (id n a b c : Nat),
    (s.stay (stayKey id n)).suspect ≠ none ∧ (s.stay (stayKey id n)).retired = false ∧
    ¬ (linkKind id = 1 ∧ (s.region (zoneOf (200 * linkSite id + linkIndex id))).stopped = true) ∧ a < 32 ∧ b < 32 ∧
    c < 32 ∧ a ≠ b ∧ a ≠ c ∧ b ≠ c ∧ (s.stay (stayKey id n)).swapped = [] ∧ linkKind id = 6 := by
  refine ⟨{ package := { stays := ⟨[(stayKey (linkId 6 0 5) 9, { suspect := some 0 })]⟩ } }, linkId 6 0 5, 9, 1, 2, 3, ?_⟩
  decide +kernel

theorem witness_repairQuarter : ∃ (s : State) (id n a b c : Nat),
    (s.stay (stayKey id n)).suspect ≠ none ∧ (s.stay (stayKey id n)).retired = false ∧
    ¬ (linkKind id = 1 ∧ (s.region (zoneOf (200 * linkSite id + linkIndex id))).stopped = true) ∧ a < 32 ∧ b < 32 ∧
    c < 32 ∧ a ≠ b ∧ a ≠ c ∧ b ≠ c ∧ (s.stay (stayKey id n)).swapped = [] ∧ linkKind id = 1 ∧
    quartersIn (maskWithout (s.link id).mask (stayPart 1 n)) ≠ 0 := by
  refine ⟨{ package := { stays := ⟨[(stayKey (linkId 1 0 5) 9, { suspect := some 0 })]⟩ } }, linkId 1 0 5, 9, 1, 2, 3, ?_⟩
  decide +kernel

theorem witness_repairCluster : ∃ (s : State) (id n a b c : Nat),
    (s.stay (stayKey id n)).suspect ≠ none ∧ (s.stay (stayKey id n)).retired = false ∧
    ¬ (linkKind id = 1 ∧ (s.region (zoneOf (200 * linkSite id + linkIndex id))).stopped = true) ∧ a < 32 ∧ b < 32 ∧
    c < 32 ∧ a ≠ b ∧ a ≠ c ∧ b ≠ c ∧ (s.stay (stayKey id n)).swapped = [] ∧ linkKind id = 1 ∧
    (s.link id).width ≠ 0 ∧ quartersIn (maskWithout (s.link id).mask (stayPart 1 n)) = 0 := by
  refine ⟨{ package := { stays := ⟨[(stayKey (linkId 1 0 5) 9, { suspect := some 0 })]⟩, links := ⟨[(linkId 1 0 5, { mask := 1, width := 1 })]⟩ } }, linkId 1 0 5, 9, 1, 2, 3, ?_⟩
  decide +kernel

theorem witness_repairLogWrite : ∃ (s : State) (r : RepairRecord) (l : List RepairRecord),
    s.package.repairQueue = r :: l ∧ s.flashWindow = true := by
  refine ⟨{ package := { repairQueue := [.retire 1 2] }, thermal := { flashCenti := 3000 } }, .retire 1 2, [], ?_⟩
  decide +kernel

theorem witness_widthAgreed : ∃ (s : State) (id x m r : Nat) (n1 n2 n3 f1 f2 f3 : Bool),
    s.agreeing id = some (0x10 + x) ∧ x < 4 ∧ (s.die (0x10 + x)).state = .training ∧
    (s.die (0x10 + x)).unagreed.lookup id = some false ∧ linkKind id = 1 ∧ (n1 || n2 || n3) = true ∧
    (f1 || f2 || f3) = true ∧ m ≠ 0 ∧ s.loggedMask id = m ∧ (s.link id).mask = m ∧ quartersIn m ≠ 0 := by
  refine ⟨{ package := { dies := ⟨[(0x10, { state := .training, unagreed := [(linkId 1 0 5, false), (linkId 1 0 6, false)] })]⟩ } }, linkId 1 0 5, 0, 15, 9, false, true, true, true, true, true, ?_⟩
  decide +kernel

theorem witness_widthDiffers : ∃ (s : State) (id x m r : Nat) (n1 n2 n3 : Bool),
    s.agreeing id = some (0x10 + x) ∧ x < 4 ∧ (s.die (0x10 + x)).state = .training ∧
    (s.die (0x10 + x)).unagreed.lookup id = some false ∧ linkKind id = 1 ∧ (n1 || n2 || n3) = true ∧
    s.loggedMask id = m ∧ m % 2 = 1 ∧ m ≠ 1 ∧ (s.link id).mask ≠ 1 := by
  refine ⟨{ package := { dies := ⟨[(0x10, { state := .training, unagreed := [(linkId 1 0 5, false)] })]⟩ } }, linkId 1 0 5, 0, 15, 9, true, true, true, ?_⟩
  decide +kernel

theorem witness_widthNotTrained : ∃ (s : State) (id x m r : Nat) (n1 n2 n3 f1 f2 f3 : Bool),
    s.agreeing id = some (0x10 + x) ∧ x < 4 ∧ (s.die (0x10 + x)).state = .training ∧
    (s.die (0x10 + x)).unagreed.lookup id = some false ∧ linkKind id = 1 ∧ (n1 || n2 || n3) = true ∧
    (f1 || f2 || f3) = true ∧ s.loggedMask id = m ∧ (s.link id).mask = m ∧ 1 < quartersIn m := by
  refine ⟨{ package := { dies := ⟨[(0x10, { state := .training, unagreed := [(linkId 1 0 5, false), (linkId 1 0 6, false)] })]⟩ } }, linkId 1 0 5, 0, 15, 0, false, false, true, true, true, true, ?_⟩
  decide +kernel

/-! ### Obligations.GuestsAreAdmitted -/

theorem witness_ucie : ∃ (s : State) (g m r : Nat),
    s.guestFitted g = true ∧ m ∈ [1, 2, 4] ∧ r ∈ [8, 12, 16] ∧ (s.guest g).heldInReset = false ∧
    (s.die (guestDie g)).railsOut = false ∧ (s.guest g).state = .down := by
  refine ⟨tGuest {} .reset, 0, 4, 16, ?_⟩
  decide +kernel

theorem witness_capabilityAccepted : ∃ (s : State) (g : Nat) (b : List Byte),
    (s.die (guestDie g)).state = .training ∧ (s.guest g).state = .training ∧
    capabilityGood (s.fuses.guestPart.get [] g) (s.guest g).modules b = true := by
  refine ⟨tGuest { state := .training, modules := 4 } .training, 0, tCapability, ?_⟩
  decide +kernel

theorem witness_capabilityAgain : ∃ (s : State) (g : Nat) (b : List Byte),
    (s.die (guestDie g)).state = .training ∧ (s.guest g).state = .training ∧
    capabilityGood (s.fuses.guestPart.get [] g) (s.guest g).modules b = false ∧ (s.guest g).refusedBlocks < 2 := by
  refine ⟨tGuest { state := .training, modules := 2 } .training, 0, tCapability, ?_⟩
  decide +kernel

theorem witness_capabilityRefused : ∃ (s : State) (g : Nat) (b : List Byte),
    (s.die (guestDie g)).state = .training ∧ (s.guest g).state = .training ∧
    capabilityGood (s.fuses.guestPart.get [] g) (s.guest g).modules b = false ∧ 2 ≤ (s.guest g).refusedBlocks := by
  refine ⟨tGuest { state := .training, modules := 2, refusedBlocks := 2 } .training, 0, tCapability, ?_⟩
  decide +kernel

theorem witness_gdoor : ∃ (s : State) (g r : Nat),
    memoryCanonical s ∧ (s.guest g).state = .verifying ∧ s.boot.halted = false ∧
    r = s.manifestResult g (leNat (s.held (mailboxOf g + 4) 4)) (s.held (mailboxOf g + 0x1000) 3016) := by
  refine ⟨tGuest { state := .verifying } .ready, 0, 1, ?_⟩
  decide +kernel

theorem witness_mailboxLoad : ∃ (s s1 : State) (g : Nat) (r : Req) (a : Answer),
    s.guestFitted g = true ∧ (s.guest g).state ≠ .absent ∧ (s.guest g).state ≠ .down ∧
    (s.guest g).state ≠ .training ∧ r.op = 0x20 ∧ r.data.length ≤ 4096 ∧ isMailboxForm r.addr = true ∧
    guestShape r = true ∧ r.addr % 2 ^ 16 + r.len ≤ 0x10000 ∧
    s.plainAccess r.op (mailboxOf g + r.addr % 2 ^ 16) r.len r.data {} = (a, s1) := by
  refine ⟨tGuest { state := .confined } .ready, ((tGuest { state := .confined } .ready).plainAccess 0x20 (mailboxOf 0 + 0x40) 4 [] {}).2, 0, tGuestAsk 0x20 0xFD0000000040, .data [0, 0, 0, 0], ?_⟩
  decide +kernel

theorem witness_mailboxStore : ∃ (s s1 : State) (g : Nat) (r : Req) (a : Answer),
    s.guestFitted g = true ∧ (s.guest g).state ≠ .absent ∧ (s.guest g).state ≠ .down ∧
    (s.guest g).state ≠ .training ∧ r.op = 0x21 ∧ isMailboxForm r.addr = true ∧ guestShape r = true ∧
    r.addr % 2 ^ 16 + r.data.length ≤ 0x10000 ∧
    s.plainAccess r.op (mailboxOf g + r.addr % 2 ^ 16) r.data.length r.data {} = (a, s1) := by
  refine ⟨tGuest { state := .confined } .ready, ((tGuest { state := .confined } .ready).plainAccess 0x21 (mailboxOf 0) 4 [1, 2, 3, 4] {}).2, 0, tGuestAsk 0x21 0xFD0000000000, .ack, ?_⟩
  decide +kernel

theorem witness_guestDropped : ∃ (s : State) (g : Nat) (r : Req),
    s.guestFitted g = true ∧ (s.guest g).state ≠ .absent ∧ (s.guest g).state ≠ .down ∧
    (s.guest g).state ≠ .training ∧ isMailboxForm r.addr = false ∧ (s.guest g).state ≠ .admitted := by
  refine ⟨tGuest { state := .confined } .ready, 0, tGuestAsk 0x20 0x10000000000, ?_⟩
  decide +kernel

theorem witness_guestLocal : ∃ (s : State) (g : Nat) (r : Req),
    s.guestFitted g = true ∧ (vcOf r.op = some 1 ∨ r.op = 0x60) ∧ r.data.length ≤ 4096 ∧
    (s.guest g).state = .admitted ∧ isMailboxForm r.addr = false ∧ s.belled = false ∧ isDomainForm r.addr = false ∧
    r.op ≠ 0x22 := by
  refine ⟨tGuestWindow, 0, tGuestAsk 0x20 0xFE0000000000, ?_⟩
  decide +kernel

theorem witness_guestDomainSent : ∃ (s s1 : State) (g : Nat) (r : Req),
    s.guestFitted g = true ∧ (vcOf r.op = some 1 ∨ r.op = 0x60) ∧ r.data.length ≤ 4096 ∧
    (s.guest g).state = .admitted ∧ isMailboxForm r.addr = false ∧ s.belled = false ∧ isDomainForm r.addr = true ∧
    guestShape r = true ∧ passOpcode r.op = true ∧ r.refAmt = 0 ∧
    s.issueRequest { r with origin := .guest g, ctx := 1024 + g } ⟨1024 + g, 800, noEngine, .guest g r.tag, r.data,
      s.now, r.addr⟩ {} = (.sent, s1) := by
  refine ⟨tGuestWindow, (tGuestWindow.issueRequest { tGuestAsk 0x20 0x10000000000 with origin := .guest 0, ctx := 1024 } ⟨1024, 800, noEngine, .guest 0 0, [], tGuestWindow.now, 0x10000000000⟩ {}).2, 0, tGuestAsk 0x20 0x10000000000, ?_⟩
  decide +kernel

theorem witness_guestReset : ∃ (s : State) (g : Nat),
    (s.guest g).state ≠ .absent ∧ (s.guest g).state ≠ .locked := by
  refine ⟨tGuest { state := .admitted } .ready, 0, ?_⟩
  decide +kernel

theorem witness_guestLinkDown : ∃ (s : State) (g n : Nat),
    (s.guest g).state ≠ .absent ∧ (s.guest g).state ≠ .locked ∧ 10000 ≤ n := by
  refine ⟨tGuest { state := .admitted } .ready, 0, 10000, ?_⟩
  decide +kernel

theorem witness_overGrant : ∃ (s : State) (g n : Nat),
    ((s.guest g).state = .admitted ∨ (s.guest g).state = .verifying) ∧
    (s.holder (guestDie g)).inForce * 11 < n * 10 := by
  refine ⟨tGuest { state := .admitted } .ready, 0, 20000, ?_⟩
  decide +kernel

theorem witness_revokeAction : ∃ (s : State) (g : Nat),
    ((s.guest g).state = .admitted ∨ (s.guest g).state = .verifying) ∧ s.guestFitted g = true := by
  refine ⟨tGuest { state := .admitted } .ready, 0, ?_⟩
  decide +kernel

theorem witness_clearLocked : ∃ (s : State) (g : Nat),
    s.guestFitted g = true ∧ (s.guest g).state = .locked := by
  refine ⟨tGuest { state := .locked } .ready, 0, ?_⟩
  decide +kernel

theorem witness_guestWindow : ∃ (s : State) (g : Nat),
    g = s.shadow 0xC10001 ∧ s.guestFitted g = true ∧ s.windowStatus (s.blobShadow 0xC10003) = 0 := by
  refine ⟨tGuestShadow, 0, ?_⟩
  decide +kernel

/-! ### Obligations.GrantsMove -/

theorem witness_ask : ∃ (s : State) (d h n : Nat),
    s.isHolder d = true ∧ s.boot.halted = false ∧ h = holderKey d ∧ n - (s.holder h).grant ≤ s.package.pool := by
  refine ⟨tGuest {} .ready, 0x40, 0x40, 20000, ?_⟩
  decide +kernel

theorem witness_grantObeyed : ∃ (s : State) (d h q n e : Nat),
    s.isHolder d = true ∧ h = holderKey d ∧ (s.die d).highestEpoch ≤ e ∧ (s.holder h).accepted < q := by
  refine ⟨{}, 0x21, 0x21, 1, 640000, 1, ?_⟩
  decide +kernel

theorem witness_grantLowEpoch : ∃ (s : State) (d q n e : Nat),
    s.isHolder d = true ∧ e < (s.die d).highestEpoch := by
  refine ⟨{}, 0x21, 1, 640000, 0, ?_⟩
  decide +kernel

theorem witness_grantOld : ∃ (s : State) (d h q n e : Nat),
    s.isHolder d = true ∧ h = holderKey d ∧ (s.die d).highestEpoch ≤ e ∧ q ≤ (s.holder h).accepted := by
  refine ⟨{}, 0x21, 0x21, 0, 640000, 1, ?_⟩
  decide +kernel

theorem witness_returned : ∃ (s : State) (d h n : Nat),
    s.isHolder d = true ∧ s.boot.halted = false ∧ h = holderKey d ∧ n < (s.holder h).grant ∧ s.package.asks = [] := by
  refine ⟨{}, 0x21, 0x21, 600000, ?_⟩
  decide +kernel

theorem witness_budgetAck : ∃ (s : State) (d h n : Nat),
    s.isHolder d = true ∧ s.boot.halted = false ∧ h = holderKey d ∧ (s.holder h).acked = false ∧
    (s.holder h).grant = n ∧ s.package.asks = [] ∧ s.package.budgetPending = none := by
  refine ⟨{ package := { holders := ⟨[(0x21, { grant := 5, acked := false, freeing := 7 })]⟩ } }, 0x21, 0x21, 5, ?_⟩
  decide +kernel

theorem witness_grantRepeat : ∃ (s : State) (d h : Nat),
    s.isHolder d = true ∧ s.boot.halted = false ∧ h = holderKey d ∧ (s.holder h).acked = false ∧
    (s.holder h).sentAt + 100000 ≤ s.now := by
  refine ⟨{ package := { holders := ⟨[(0x21, { grant := 5, acked := false })]⟩ }, clocks := { count := 100000 } }, 0x21, 0x21, ?_⟩
  decide +kernel

theorem witness_hubSilence : ∃ (s : State) (d h : Nat),
    s.isHolder d = true ∧ h = holderKey d ∧ (s.holder h).atFloor = false ∧
    (s.holder h).lastHeard + 10000000 ≤ s.now := by
  refine ⟨{ clocks := { count := 10000000 } }, 0x21, 0x21, ?_⟩
  decide +kernel

/-! ### Obligations.ClocksFollow -/

theorem witness_refLost : ∃ (s : State) (i : Nat),
    i < 2 ∧ s.refGood i = true ∧ s.clocks.selected = i ∧ s.refGood (1 - i) = false := by
  refine ⟨tClocks { good1 := false }, 0, ?_⟩
  decide +kernel

theorem witness_refFailover : ∃ (s : State) (i : Nat),
    i < 2 ∧ s.refGood i = true ∧ s.clocks.selected = i ∧ s.refGood (1 - i) = true := by
  refine ⟨{}, 0, ?_⟩
  decide +kernel

theorem witness_refOtherLost : ∃ (s : State) (i : Nat),
    i < 2 ∧ s.refGood i = true ∧ s.clocks.selected ≠ i := by
  refine ⟨{}, 1, ?_⟩
  decide +kernel

theorem witness_pullEnds : ∃ (s : State) (n : Int),
    s.clocks.pulling = true := by
  refine ⟨tClocks { pulling := true, selected := 1 }, 40, ?_⟩
  decide +kernel

theorem witness_holdoverTimeout : ∃ (s : State),
    s.clocks.holdover = true ∧ s.clocks.good0 = false ∧ s.clocks.good1 = false ∧ s.clocks.lostAt + 2000 ≤ s.now := by
  refine ⟨tClocks { good0 := false, good1 := false, holdover := true }, ?_⟩
  decide +kernel

theorem witness_refGoodSelected : ∃ (s : State) (i : Nat),
    i < 2 ∧ s.refGood i = false ∧ s.clocks.holdover = true ∧ s.now < s.clocks.lostAt + 2000 := by
  refine ⟨tClocks { good0 := false, holdover := true, lostAt := 134999000 }, 0, ?_⟩
  decide +kernel

theorem witness_refGoodLate : ∃ (s : State) (i : Nat),
    i < 2 ∧ s.refGood i = false ∧ s.clocks.holdover = true ∧ s.clocks.lostAt + 2000 ≤ s.now := by
  refine ⟨tClocks { good0 := false, holdover := true, lostAt := 5 }, 0, ?_⟩
  decide +kernel

theorem witness_refGoodAgain : ∃ (s : State) (i : Nat),
    i < 2 ∧ s.refGood i = false ∧ s.clocks.holdover = false := by
  refine ⟨tClocks { good1 := false }, 1, ?_⟩
  decide +kernel

theorem witness_frequencyFine : ∃ (s : State) (n : Int),
    s.now % 10000 = 0 ∧ s.clocks.good0 = true ∧ s.clocks.good1 = true ∧ n.natAbs ≤ 200000 := by
  refine ⟨{}, -5, ?_⟩
  decide +kernel

theorem witness_frequencyWarned : ∃ (s : State) (n : Int),
    s.now % 10000 = 0 ∧ s.clocks.good0 = true ∧ s.clocks.good1 = true ∧ 200000 < n.natAbs := by
  refine ⟨{}, -200001, ?_⟩
  decide +kernel

theorem witness_referenceSelect : ∃ (s : State) (i : Nat),
    i < 2 ∧ s.refGood i = true := by
  refine ⟨{}, 1, ?_⟩
  decide +kernel

theorem witness_referenceRefused : ∃ (s : State) (i : Nat),
    i < 2 ∧ s.refGood i = false := by
  refine ⟨tClocks { good1 := false }, 1, ?_⟩
  decide +kernel

theorem witness_clockCommit : ∃ (s : State),
    s.limitShadow.all limitGood = true := by
  refine ⟨{ blobShadows := ⟨[(0x301001, (List.replicate 32 (leBytes 2 1200)).flatten)]⟩ }, ?_⟩
  decide +kernel

theorem witness_clockRefused : ∃ (s : State),
    s.limitShadow.all limitGood = false := by
  refine ⟨{ blobShadows := ⟨[(0x301001, leBytes 64 1201)]⟩ }, ?_⟩
  decide +kernel

theorem witness_zoneIdle : ∃ (s : State) (z a : Nat),
    (s.region z).unboundSince = some a ∧ z < 32 ∧ (s.region z).idle = false ∧ s.zoneBound z = false ∧
    a + 10000 ≤ s.now := by
  refine ⟨{}, 3, 0, ?_⟩
  decide +kernel

theorem witness_slewEnd : ∃ (s : State) (r : Region),
    (s.region (regionKey r)).stopped = false ∧ (s.region (regionKey r)).present ≠ (s.region (regionKey r)).target ∧
    (s.region (regionKey r)).slewAt + 10 * (Nat.max (s.region (regionKey r)).present (s.region (regionKey
      r)).target - Nat.min (s.region (regionKey r)).present (s.region (regionKey r)).target) ≤ s.now := by
  refine ⟨tZone { target := 400 }, .zone 3, ?_⟩
  decide +kernel

theorem witness_zoneStops : ∃ (s : State) (z : Nat),
    z < 32 ∧ (s.region z).stopped = false := by
  refine ⟨{}, 3, ?_⟩
  decide +kernel

theorem witness_zoneRelocks : ∃ (s : State) (z : Nat),
    z < 32 ∧ (s.region z).stopped = true ∧ (0x20 + z / 8) ∉ s.package.scan ∧ s.now < (s.region z).lastStop + 2000 ∧
    (s.region z).crossing = [] ∧ (s.region z).landing = [] := by
  refine ⟨tZone { stopped := true, lastStop := 135000000 }, 3, ?_⟩
  decide +kernel

theorem witness_zoneDead : ∃ (s : State) (z : Nat),
    z < 32 ∧ (s.region z).stopped = true ∧ (0x20 + z / 8) ∉ s.package.scan ∧ (s.region z).lastStop + 2000 ≤ s.now ∧
    ((s.die (0x20 + z / 8)).state = .ready ∨ (s.die (0x20 + z / 8)).state = .fencing) := by
  refine ⟨tZone { stopped := true }, 3, ?_⟩
  decide +kernel

theorem witness_zoneReload : ∃ (s : State) (z : Nat),
    z < 32 ∧ (s.region z).stopped = false ∧ (s.region z).copyValid = false := by
  refine ⟨tZone { copyValid := false }, 3, ?_⟩
  decide +kernel

/-! ### Obligations.TripsStretch -/

theorem witness_droopFirst : ∃ (s : State) (r : Region) (n : Nat),
    (s.region (regionKey r)).stopped = false ∧ droopLevel (s.setPointOf r - n) ≠ 0 ∧
    (s.region (regionKey r)).justRestarted = false ∧ (s.region (regionKey r)).run = 0 ∧
    (s.region (regionKey r)).runEnd = none := by
  refine ⟨{}, .zone 3, 700, ?_⟩
  decide +kernel

theorem witness_droopRestarted : ∃ (s : State) (r : Region) (n : Nat),
    (s.region (regionKey r)).stopped = false ∧ droopLevel (s.setPointOf r - n) ≠ 0 ∧
    (s.region (regionKey r)).justRestarted = true := by
  refine ⟨tZone { justRestarted := true }, .zone 3, 700, ?_⟩
  decide +kernel

theorem witness_droopSteps : ∃ (s : State) (r : Region) (n a : Nat),
    (s.region (regionKey r)).stopped = false ∧ droopLevel (s.setPointOf r - n) ≠ 0 ∧
    (s.region (regionKey r)).justRestarted = false ∧ (s.region (regionKey r)).runEnd = some a ∧
    (s.region (regionKey r)).within s.now a 64 = true ∧ (s.region (regionKey r)).run = 0 := by
  refine ⟨tZone { runEnd := some 135000000 }, .zone 3, 700, 135000000, ?_⟩
  decide +kernel

theorem witness_noDroop : ∃ (s : State) (r : Region) (n : Nat),
    (s.region (regionKey r)).stopped = false ∧ droopLevel (s.setPointOf r - n) = 0 := by
  refine ⟨{}, .zone 3, 740, ?_⟩
  decide +kernel

theorem witness_holdEnds : ∃ (s : State) (r : Region) (a : Nat),
    (s.region (regionKey r)).holdUntil = some a ∧ a ≤ s.now := by
  refine ⟨tZone { held := some 400, holdUntil := some 5 }, .zone 3, 5, ?_⟩
  decide +kernel

theorem witness_syncBad : ∃ (s : State) (d : Nat) (n : Int),
    s.now % 1024 = 0 := by
  refine ⟨tClocks { count := 1024 }, 0x20, 0, ?_⟩
  decide +kernel

theorem witness_syncGood : ∃ (s : State) (d : Nat) (n : Int),
    s.now % 1024 = 0 ∧ s.clocks.fencedByCheck = false := by
  refine ⟨tClocks { count := 1024 }, 0x20, 3, ?_⟩
  decide +kernel

/-! ### Obligations.PowerIsKept -/

theorem witness_budgetRaised : ∃ (s : State),
    s.commitPending 0x20 = false ∧ s.budgetShadow ≤ s.gradeLimit ∧ s.budgetFloor ≤ 1000 * s.budgetShadow ∧
    s.package.holders.entries.all (fun e => e.2.cutting = 0) = true ∧ s.packageBudget ≤ s.budgetShadow ∧
    s.package.asks = [] := by
  refine ⟨{ regs := ⟨[(0x200001, 4000)]⟩, shadows := ⟨[(0x200001, 4500)]⟩ }, ?_⟩
  decide +kernel

theorem witness_budgetLowered : ∃ (s : State),
    s.commitPending 0x20 = false ∧ s.budgetShadow ≤ s.gradeLimit ∧ s.budgetFloor ≤ 1000 * s.budgetShadow ∧
    s.package.holders.entries.all (fun e => e.2.cutting = 0) = true ∧ s.commits.Nodup ∧
    s.budgetShadow < s.packageBudget ∧ 1000 * (s.packageBudget - s.budgetShadow) ≤ s.package.pool := by
  refine ⟨{ shadows := ⟨[(0x200001, 4900)]⟩, package := { pool := 200000 } }, ?_⟩
  decide +kernel

theorem witness_budgetAboveGrade : ∃ (s : State),
    s.commitPending 0x20 = false ∧ s.gradeLimit < s.budgetShadow := by
  refine ⟨{ shadows := ⟨[(0x200001, 5001)]⟩ }, ?_⟩
  decide +kernel

theorem witness_budgetBelowFloor : ∃ (s : State),
    s.commitPending 0x20 = false ∧ s.budgetShadow ≤ s.gradeLimit ∧ 1000 * s.budgetShadow < s.budgetFloor := by
  refine ⟨{ shadows := ⟨[(0x200001, 1000)]⟩ }, ?_⟩
  decide +kernel

theorem witness_powerUp : ∃ (s : State) (x n m : Nat),
    s.now % 1000000 = 0 ∧ x < 4 ∧ (s.die (0x20 + x)).state = .ready ∧ (s.holder (0x20 + x)).inForce < n ∧
    s.powerLevelOf x < 7 := by
  refine ⟨tPower 0, 1, 900000, 600000, ?_⟩
  decide +kernel

theorem witness_powerSlows : ∃ (s : State) (x n m : Nat),
    s.now % 1000000 = 0 ∧ x < 4 ∧ (s.die (0x20 + x)).state = .ready ∧ (s.holder (0x20 + x)).inForce < n ∧
    7 ≤ s.powerLevelOf x := by
  refine ⟨tPower 7, 1, 900000, 600000, ?_⟩
  decide +kernel

theorem witness_powerDown : ∃ (s : State) (x n m : Nat),
    s.now % 1000000 = 0 ∧ x < 4 ∧ (s.die (0x20 + x)).state = .ready ∧ n * 10 < (s.holder (0x20 + x)).inForce * 9 ∧
    s.zonesBack x = true := by
  refine ⟨tPower 4, 1, 500000, 100000, ?_⟩
  decide +kernel

theorem witness_powerKept : ∃ (s : State) (x n m : Nat),
    s.now % 1000000 = 0 ∧ x < 4 ∧ (s.die (0x20 + x)).state = .ready ∧ n ≤ (s.holder (0x20 + x)).inForce ∧
    (s.holder (0x20 + x)).inForce * 9 ≤ n * 10 := by
  refine ⟨tPower 4, 1, 780000, 100000, ?_⟩
  decide +kernel

theorem witness_kdPacing : ∃ (s : State) (x n : Nat),
    s.now % 1000000 = 0 ∧ (s.die (0x10 + x)).state = .ready ∧ (s.holder (0x10 + x)).inForce < n := by
  refine ⟨tPower 0, 1, 280000, ?_⟩
  decide +kernel

theorem witness_kdPacingBack : ∃ (s : State) (x n : Nat),
    s.now % 1000000 = 0 ∧ (s.die (0x10 + x)).state = .ready ∧ n * 10 < (s.holder (0x10 + x)).inForce * 9 := by
  refine ⟨tPower 0, 1, 100000, ?_⟩
  decide +kernel

theorem witness_reefPause : ∃ (s : State) (c i : Nat),
    reefEighths.getD (s.appliedLevel (zoneOf c)) 0 ≠ 0 ∧ ((s.cluster c).panels.get {} i).pausedUntil = none ∧
    ((s.cluster c).panels.get {} i).ranSincePause ≠ 0 ∧ s.withinStep c = false := by
  refine ⟨tPanel { ranSincePause := 80 }, 7, 2, ?_⟩
  decide +kernel

theorem witness_noReefPause : ∃ (s : State) (c i : Nat),
    (reefEighths.getD (s.appliedLevel (zoneOf c)) 0 = 0 ∨ ((s.cluster c).panels.get {} i).ranSincePause = 0 ∨
      s.withinStep c = true) := by
  refine ⟨{}, 7, 2, ?_⟩
  decide +kernel

theorem witness_reefPauseEnd : ∃ (s : State) (c i a : Nat),
    ((s.cluster c).panels.get {} i).pausedUntil = some a ∧ a ≤ s.now := by
  refine ⟨tPanel { pausedUntil := some 5 }, 7, 2, 5, ?_⟩
  decide +kernel

theorem witness_rateWindow : ∃ (s : State),
    s.now % 1000000 = 0 := by
  refine ⟨tPanel {}, ?_⟩
  decide +kernel

/-! ### Obligations.TemperaturesAct -/

theorem witness_zoneCool : ∃ (s : State) (z : Nat) (a b : Int),
    z < 32 ∧ (s.thermal.sensors.get {} (z * 256 + z)).status = 0 ∧
    (s.thermal.sensors.get {} (z * 256 + (68 + z / 8))).status = 0 ∧ s.reg 0x440004 ≠ 2 ∧ -4000 ≤ a ∧ a ≤ 15000 ∧
    -4000 ≤ b ∧ b ≤ 15000 ∧ (s.element z).latched = false ∧ max a b < 9300 ∧ (s.element z).level = 0 := by
  refine ⟨{}, 3, 6000, 7000, ?_⟩
  decide +kernel

theorem witness_zoneWarns : ∃ (s : State) (z : Nat) (a b : Int),
    z < 32 ∧ (s.thermal.sensors.get {} (z * 256 + z)).status = 0 ∧
    (s.thermal.sensors.get {} (z * 256 + (68 + z / 8))).status = 0 ∧ s.reg 0x440004 ≠ 2 ∧ -4000 ≤ a ∧ a ≤ 15000 ∧
    -4000 ≤ b ∧ b ≤ 15000 ∧ (s.element z).latched = false ∧ 9500 ≤ max a b ∧ max a b < 9800 ∧
    (s.element z).level = 0 ∧ (s.element z).warned = false := by
  refine ⟨{}, 3, 6000, 9600, ?_⟩
  decide +kernel

theorem witness_zoneThrottles : ∃ (s : State) (z : Nat) (a b : Int),
    z < 32 ∧ (s.thermal.sensors.get {} (z * 256 + z)).status = 0 ∧
    (s.thermal.sensors.get {} (z * 256 + (68 + z / 8))).status = 0 ∧ s.reg 0x440004 ≠ 2 ∧ -4000 ≤ a ∧ a ≤ 15000 ∧
    -4000 ≤ b ∧ b ≤ 15000 ∧ (s.element z).latched = false ∧ 10200 ≤ max a b ∧ max a b < 11000 ∧
    (s.element z).warned = true := by
  refine ⟨tHot { warned := true } 3, 3, 6000, 10300, ?_⟩
  decide +kernel

theorem witness_zoneShutdown : ∃ (s : State) (z : Nat) (a b : Int),
    z < 32 ∧ (s.thermal.sensors.get {} (z * 256 + z)).status = 0 ∧
    (s.thermal.sensors.get {} (z * 256 + (68 + z / 8))).status = 0 ∧ s.reg 0x440004 ≠ 2 ∧ -4000 ≤ a ∧ a ≤ 15000 ∧
    -4000 ≤ b ∧ b ≤ 15000 ∧ (s.element z).latched = false ∧ 11000 ≤ max a b ∧ (s.die (0x20 + z / 8)).state = .ready := by
  refine ⟨{}, 3, 6000, 11100, ?_⟩
  decide +kernel

theorem witness_coolantFine : ∃ (s : State) (a b : Int),
    s.thermal.inlet.status = 0 ∧ s.thermal.outlet.status = 0 ∧ s.reg 0x440004 ≠ 2 ∧ s.fuses.extended = false ∧
    -4000 ≤ a ∧ a ≤ 3500 ∧ -4000 ≤ b ∧ b ≤ a + 1500 := by
  refine ⟨{}, 3000, 4000, ?_⟩
  decide +kernel

theorem witness_coolantWarm : ∃ (s : State) (a b : Int),
    s.thermal.inlet.status = 0 ∧ s.thermal.outlet.status = 0 ∧ s.reg 0x440004 ≠ 2 ∧ s.fuses.extended = false ∧
    3500 < a ∧ a ≤ 15000 ∧ -4000 ≤ b ∧ b ≤ a ∧ s.thermal.inletWarning = false := by
  refine ⟨{}, 3600, 3600, ?_⟩
  decide +kernel

theorem witness_restartStack : ∃ (s : State) (k : Nat),
    k < 24 ∧ (s.element (0x180 + k)).latched = true ∧ (s.element (0x180 + k)).centi < 9000 := by
  refine ⟨tHot { latched := true, centi := 5000 } 0x183, 3, ?_⟩
  decide +kernel

theorem witness_restartDie : ∃ (s : State) (x : Nat),
    x < 4 ∧ (s.element (0x110 + x)).latched = true ∧ (s.element (0x110 + x)).centi < 10000 ∧
    (s.die (0x10 + x)).state = .shutdown := by
  refine ⟨{ tHot { latched := true, centi := 5000 } 0x111 with package := { dies := ⟨[(0x11, { state := .shutdown })]⟩ } }, 1, ?_⟩
  decide +kernel

theorem witness_flashRetry : ∃ (s : State),
    s.flashWindow = true := by
  refine ⟨{ boot := { raiseMinimum := some 4 } }, ?_⟩
  decide +kernel

theorem witness_flashShut : ∃ (s : State),
    s.flashWindow = false := by
  refine ⟨{ thermal := { flashCenti := 9100 } }, ?_⟩
  decide +kernel

theorem witness_calibrationCopy : ∃ (s : State),
    s.boot.lastCalibrationCopy + 3600000000000 ≤ s.now ∧ s.flashWindow = true := by
  refine ⟨{ clocks := { count := 3600000000000 } }, ?_⟩
  decide +kernel

/-! ### Obligations.TransactionsAreAnswered -/

theorem witness_krytaeDown : ∃ (s : State) (k : Nat),
    (s.krytae k).state ≠ .down ∧ (s.krytae k).lastHeard + 20000 ≤ s.now := by
  refine ⟨{}, 1, ?_⟩
  decide +kernel

theorem witness_krytaeTrains : ∃ (s : State) (k : Nat),
    (s.krytae k).state = .down ∧ (s.krytae k).everTrained = true := by
  refine ⟨{ control := { krytae := ⟨[(0, { state := .down })]⟩ } }, 0, ?_⟩
  decide +kernel

theorem witness_krytaeUp : ∃ (s : State) (k : Nat),
    (s.krytae k).state = .training := by
  refine ⟨{ control := { krytae := ⟨[(0, { state := .training, replay := [(9, 1, Sent.mk 4 1 (.statusFrame 1 0 1 0))] })]⟩ } }, 0, ?_⟩
  decide +kernel

theorem witness_odRead : ∃ (s s0 s1 : State) (q : Transaction) (st : Nat) (v : List Byte),
    s.hears q = true ∧ cachedResponse s.control.cache q.tid none = none ∧ staleTid s.control.cache q.tid = false ∧
    s.inProgress q.tid = false ∧ s.serves q.index = true ∧ s.busy = false ∧
    (heldOutside q.index && (entryAt q.index q.sub).isSome) = false ∧ s0 = (s.arrive q).countApplied ∧
    s0.readEntry q.index q.sub q.shadow = (st, v, s1) := by
  refine ⟨{}, ((({} : State).arrive (tTrans 0xB030 2 [])).countApplied), ((({} : State).arrive (tTrans 0xB030 2 [])).countApplied), tTrans 0xB030 2 [], 0, leBytes 8 1, ?_⟩
  decide +kernel

theorem witness_odWrite : ∃ (s s0 s1 : State) (q : Transaction) (st : Nat),
    s.hears q = true ∧ cachedResponse s.control.cache q.tid none = none ∧ staleTid s.control.cache q.tid = false ∧
    s.inProgress q.tid = false ∧ s.serves q.index = true ∧ s.busy = false ∧
    (heldOutside q.index && (entryAt q.index q.sub).isSome) = false ∧ s0 = (s.arrive q).countApplied ∧
    q.value.length ≤ 4096 ∧ s0.writeEntry q.index q.sub q.value = (st, s1) := by
  refine ⟨{}, ((({} : State).arrive (tTrans 0x2000 1 [1, 16])).countApplied), ((((({} : State).arrive (tTrans 0x2000 1 [1, 16])).countApplied)).writeEntry 0x2000 1 [1, 16]).2, tTrans 0x2000 1 [1, 16], ((((({} : State).arrive (tTrans 0x2000 1 [1, 16])).countApplied)).writeEntry 0x2000 1 [1, 16]).1, ?_⟩
  decide +kernel

theorem witness_odWriteLong : ∃ (s s0 : State) (q : Transaction),
    s.hears q = true ∧ cachedResponse s.control.cache q.tid none = none ∧ staleTid s.control.cache q.tid = false ∧
    s.inProgress q.tid = false ∧ s.serves q.index = true ∧ s.busy = false ∧ s0 = (s.arrive q).countApplied ∧
    4096 < q.value.length := by
  refine ⟨{}, ((({} : State).arrive (tTrans 0x2000 1 (List.replicate 4097 0))).countApplied), tTrans 0x2000 1 (List.replicate 4097 0), ?_⟩
  decide +kernel

theorem witness_blockRead : ∃ (s s0 s1 : State) (q : Transaction) (st : Nat) (v : List Byte),
    s.hears q = true ∧ cachedResponse s.control.cache q.tid none = none ∧ staleTid s.control.cache q.tid = false ∧
    s.inProgress q.tid = false ∧ s.serves q.index = true ∧ s.busy = false ∧
    (heldOutside q.index && (entryAt q.index q.sub).isSome) = false ∧ s0 = (s.arrive q).countApplied ∧
    s0.readBlock q.index q.sub q.offset q.length = (st, v, s1) := by
  refine ⟨{}, ((({} : State).arrive (⟨7, 0, false, false, 0xD000, 2, 0, 0, []⟩)).countApplied), ((({} : State).arrive (⟨7, 0, false, false, 0xD000, 2, 0, 0, []⟩)).countApplied), ⟨7, 0, false, false, 0xD000, 2, 0, 0, []⟩, 0, [], ?_⟩
  decide +kernel

theorem witness_odCached : ∃ (s s0 : State) (q : Transaction) (c : Cached),
    s.hears q = true ∧ s0 = s.arrive q ∧ cachedResponse s.control.cache q.tid none = some c := by
  refine ⟨tCached 7, (tCached 7).arrive (tTrans 0x2000 1 [1]), tTrans 0x2000 1 [1], ⟨7, none, 0, [5]⟩, ?_⟩
  decide +kernel

theorem witness_odStale : ∃ (s s0 : State) (q : Transaction),
    s.hears q = true ∧ s0 = s.arrive q ∧ cachedResponse s.control.cache q.tid none = none ∧
    staleTid s.control.cache q.tid = true := by
  refine ⟨tCached 9, (tCached 9).arrive (tTrans 0x2000 1 [1]), tTrans 0x2000 1 [1], ?_⟩
  decide +kernel

theorem witness_odBusy : ∃ (s s0 : State) (q : Transaction),
    s.hears q = true ∧ s0 = s.arrive q ∧ cachedResponse s.control.cache q.tid none = none ∧
    staleTid s.control.cache q.tid = false ∧ s.inProgress q.tid = false ∧ s.busy = true := by
  refine ⟨{ control := { blocks := List.replicate 64 (⟨1, 0xD000, 2, []⟩ : BlockRun) } }, ({ control := { blocks := List.replicate 64 (⟨1, 0xD000, 2, []⟩ : BlockRun) } } : State).arrive (tTrans 0x2000 1 []), tTrans 0x2000 1 [], ?_⟩
  decide +kernel

theorem witness_doorbell : ∃ (s s0 s1 : State) (q w : Transaction) (st : Nat),
    w = { q with index := 0x7000 + field q.value 0 2, sub := 5 } ∧ s.hears w = true ∧
    cachedResponse s.control.cache w.tid none = none ∧ staleTid s.control.cache w.tid = false ∧
    s.inProgress w.tid = false ∧ s.serves w.index = true ∧ s.busy = false ∧
    (heldOutside w.index && (entryAt w.index w.sub).isSome) = false ∧ s0 = (s.arrive w).countApplied ∧
    8 ≤ q.value.length ∧ field q.value 0 2 ≤ 1023 ∧ s0.writeEntry w.index 5 (subBytes q.value 4 4) = (st, s1) := by
  refine ⟨tCtx tClosed, ((tCtx tClosed).arrive (tTrans 0x7003 5 ([3, 0, 0, 0] ++ [5, 0, 0, 0]))).countApplied, (((tCtx tClosed).arrive (tTrans 0x7003 5 ([3, 0, 0, 0] ++ [5, 0, 0, 0]))).countApplied.writeEntry 0x7003 5 [5, 0, 0, 0]).2, tTrans 0 0 ([3, 0, 0, 0] ++ [5, 0, 0, 0]), tTrans 0x7003 5 ([3, 0, 0, 0] ++ [5, 0, 0, 0]), (((tCtx tClosed).arrive (tTrans 0x7003 5 ([3, 0, 0, 0] ++ [5, 0, 0, 0]))).countApplied.writeEntry 0x7003 5 [5, 0, 0, 0]).1, ?_⟩
  decide +kernel

theorem witness_chunkKept : ∃ (s s0 : State) (q : Transaction),
    s.hears q = true ∧ cachedResponse s.control.cache q.tid (some q.offset) = none ∧
    staleTid s.control.cache q.tid = false ∧ s.inProgress q.tid = false ∧ s.serves q.index = true ∧
    s.busy = false ∧ s.blockOf q.tid = none ∧ chunkStatus none q = 0 ∧ s0 = s.arrive q ∧ q.more = true := by
  refine ⟨{}, ({} : State).arrive (tChunk true [1]), tChunk true [1], ?_⟩
  decide +kernel

theorem witness_chunkLast : ∃ (s s0 s1 : State) (q : Transaction) (st : Nat),
    s.hears q = true ∧ cachedResponse s.control.cache q.tid (some q.offset) = none ∧
    staleTid s.control.cache q.tid = false ∧ s.inProgress q.tid = false ∧ s.serves q.index = true ∧
    s.busy = false ∧ s.blockOf q.tid = none ∧ chunkStatus none q = 0 ∧ heldOutside q.index = false ∧
    s0 = ((s.arrive q).dropBlock q.tid).countApplied ∧ q.more = false ∧
    s0.writeEntry q.index q.sub q.value = (st, s1) := by
  refine ⟨{}, ((({} : State).arrive (tChunk false [1])).dropBlock 7).countApplied, (((({} : State).arrive (tChunk false [1])).dropBlock 7).countApplied.writeEntry 0xD000 2 [1]).2, tChunk false [1], (((({} : State).arrive (tChunk false [1])).dropBlock 7).countApplied.writeEntry 0xD000 2 [1]).1, ?_⟩
  decide +kernel

theorem witness_odForwarded : ∃ (s s0 : State) (q : Transaction),
    s.hears q = true ∧ cachedResponse s.control.cache q.tid none = none ∧ staleTid s.control.cache q.tid = false ∧
    s.inProgress q.tid = false ∧ s.serves q.index = true ∧ s.busy = false ∧ heldOutside q.index = true ∧
    (entryAt q.index q.sub).isSome = true ∧ s0 = (s.arrive q).countApplied := by
  refine ⟨{}, ((({} : State).arrive (tTrans 0x5010 1 [])).countApplied), tTrans 0x5010 1 [], ?_⟩
  decide +kernel

theorem witness_odFwd : ∃ (s s1 : State) (i st : Nat) (f : Forward) (v : List Byte),
    s.control.forwards[i]? = some f ∧ f.answered = none ∧
    (s.holderSiteOf f.transaction.index f.transaction.sub).isSome = true ∧
    s.access (accessOf f.type) f.transaction f.value = (st, v, s1) := by
  refine ⟨tForward none, ((tForward none).access .read (tTrans 0x5020 1 []) []).2.2, 0, ((tForward none).access .read (tTrans 0x5020 1 []) []).1, ⟨tTrans 0x5020 1 [], 1, [], none, none⟩, ((tForward none).access .read (tTrans 0x5020 1 []) []).2.1, ?_⟩
  decide +kernel

theorem witness_odRsp : ∃ (s s0 : State) (i st : Nat) (f : Forward) (v : List Byte),
    s.control.forwards[i]? = some f ∧ f.answered = some (st, v) ∧ s.boot.halted = false ∧ s0 = s.hubInput := by
  refine ⟨tForward (some (0, [1])), (tForward (some (0, [1]))).hubInput, 0, 0, ⟨tTrans 0x5020 1 [], 1, [], none, some (0, [1])⟩, [1], ?_⟩
  decide +kernel

theorem witness_genericOdWrite : ∃ (s s1 : State) (index sub st : Nat) (v : List Byte),
    s.boot.halted = false ∧ s.boot.rigLost = false ∧ s.serves index = true ∧ s.writeEntry index sub v = (st, s1) := by
  refine ⟨{}, (({} : State).writeEntry 0x2000 1 [1, 16]).2, 0x2000, 1, (({} : State).writeEntry 0x2000 1 [1, 16]).1, [1, 16], ?_⟩
  decide +kernel

theorem witness_status : ∃ (s : State),
    s.boot.halted = false ∧ s.boot.rigLost = false ∧ s.control.lastStatus < s.now / 1000000 := by
  refine ⟨{}, ?_⟩
  decide +kernel

theorem witness_event : ∃ (s : State) (e : EventIn),
    e.code ∈ eventCodes ∧ s.boot.rigLost = false ∧ s.boot.halted = false ∧ e.code ≠ 0x1601 := by
  refine ⟨{}, ⟨0x1901, 0x20, 1, 0xFFFF, 0, 0, 0, [], 0, 0x2000⟩, ?_⟩
  decide +kernel

theorem witness_tableCommit : ∃ (s : State),
    tableStatus (s.shadow 0xD00001) (s.blobShadow 0xD00002) = 0 := by
  refine ⟨{ shadows := ⟨[(0xD00001, 0x20)]⟩, blobShadows := ⟨[(0xD00002, [1, 1, 0, 0] ++ leBytes 4 8 ++ leBytes 2 0x1901 ++ [1, 0] ++ leBytes 4 5)]⟩ }, ?_⟩
  decide +kernel

theorem witness_tableRefused : ∃ (s : State),
    tableStatus (s.shadow 0xD00001) (s.blobShadow 0xD00002) ≠ 0 := by
  refine ⟨{}, ?_⟩
  decide +kernel

/-! ### Obligations.ComplexesTakeOver -/

theorem witness_heartbeat : ∃ (s : State) (k d r : Nat),
    s.now % 1000 = 0 ∧ (s.die (0x30 + k)).state = .ready ∧ s.boot.halted = false ∧ s.activeComplex ≠ some k ∧
    s.reflectingSite = some d := by
  refine ⟨tTwins .standby id id, 1, 0, 0, ?_⟩
  decide +kernel

theorem witness_heartbeatFails : ∃ (s : State) (k r : Nat),
    s.now % 1000 = 0 ∧ (s.die (0x30 + k)).state = .ready ∧ s.boot.halted = false ∧ s.activeComplex = some k ∧
    r ≠ 0 ∧ s.control.declared = none ∧ s.reflectingSite = none := by
  refine ⟨{ tTwins .standby id id with package := { dies := ⟨(List.range 40).map fun d => (d, if d = 48 then ({} : Die) else { state := .reset })⟩ }, fuses := {}, rig := { standing := ⟨(List.range 11).flatMap fun d => [(16 * d + 4, { state := .down })]⟩ } }, 0, 3, ?_⟩
  decide +kernel

theorem witness_takeover : ∃ (s : State) (a r : Nat),
    s.activeComplex = some a ∧ s.failureDeclared a r = true ∧ (s.complex (twinOf a)).state = .standby ∧
    (s.die (0x30 + a)).state = .ready ∧ a < 2 := by
  refine ⟨tTwins .standby id (fun c => { c with declared := some 3 }), 0, 3, ?_⟩
  decide +kernel

theorem witness_takeoverHalts : ∃ (s : State) (a r : Nat),
    s.activeComplex = some a ∧ s.failureDeclared a r = true ∧ (s.complex (twinOf a)).state ≠ .standby ∧
    (s.die (0x30 + a)).state = .ready ∧ s.boot.halted = false := by
  refine ⟨tTwins .offline id (fun c => { c with declared := some 3 }), 0, 3, ?_⟩
  decide +kernel

theorem witness_divergence : ∃ (s : State) (a n : Nat),
    s.activeComplex = some a ∧ (s.complex (twinOf a)).state = .standby ∧ s.compatMode = false := by
  refine ⟨tTwins .standby id id, 0, 9, ?_⟩
  decide +kernel

theorem witness_displaced : ∃ (s : State) (k : Nat),
    (s.complex k).state = .active ∧ s.activeComplex ≠ some k ∧ (s.die (0x30 + k)).state = .ready := by
  refine ⟨tTwins .active id id, 1, ?_⟩
  decide +kernel

theorem witness_resync_selfTest : ∃ (s : State) (k : Nat),
    (s.complex k).state = .syncing ∧ s.activeComplex ≠ none ∧ (s.complex k).resyncStep = 0 := by
  refine ⟨tSync 0, 1, ?_⟩
  decide +kernel

theorem witness_resync_snapshot : ∃ (s : State) (k : Nat),
    (s.complex k).state = .syncing ∧ s.activeComplex ≠ none ∧ (s.complex k).resyncStep = 1 := by
  refine ⟨tSync 1, 1, ?_⟩
  decide +kernel

theorem witness_resync_crossed : ∃ (s : State) (k : Nat),
    (s.complex k).state = .syncing ∧ s.activeComplex ≠ none ∧ (s.complex k).resyncStep = 2 := by
  refine ⟨tSync 2, 1, ?_⟩
  decide +kernel

theorem witness_resync_caughtUp : ∃ (s : State) (k : Nat),
    (s.complex k).state = .syncing ∧ s.activeComplex ≠ none ∧ (s.complex k).resyncStep = 3 := by
  refine ⟨tSync 3, 1, ?_⟩
  decide +kernel

theorem witness_resync_fails : ∃ (s : State) (k r : Nat),
    (s.complex k).state = .syncing ∧ s.activeComplex ≠ none ∧ (s.complex k).resyncStep = 0 ∧ r ≠ 0 := by
  refine ⟨tSync 0, 1, 2, ?_⟩
  decide +kernel

theorem witness_resync_agreed : ∃ (s : State) (k : Nat),
    (s.complex k).state = .syncing ∧ s.activeComplex ≠ none ∧ (s.complex k).resyncStep = 4 := by
  refine ⟨tSync 4, 1, ?_⟩
  decide +kernel

theorem witness_resync_lost : ∃ (s : State) (k : Nat),
    (s.complex k).state = .syncing ∧ s.activeComplex ≠ none ∧
    ((s.complex k).resyncStep = 2 ∨ (s.complex k).resyncStep = 3) ∧
    (s.complex k).resyncInput + 65536 ≤ s.control.inputs ∧ (s.complex k).restarts < 3 := by
  refine ⟨tTwins .syncing (fun c => { c with resyncStep := 2 }) (fun c => { c with inputs := 65536 }), 1, ?_⟩
  decide +kernel

theorem witness_handOver : ∃ (s : State) (a : Nat),
    s.activeComplex = some a ∧ (s.complex (twinOf a)).state = .standby := by
  refine ⟨tTwins .standby id id, 0, ?_⟩
  decide +kernel

theorem witness_handOverRefused : ∃ (s : State) (a : Nat),
    s.activeComplex = some a ∧ (s.complex (twinOf a)).state ≠ .standby := by
  refine ⟨tTwins .offline id id, 0, ?_⟩
  decide +kernel

theorem witness_resyncTwin : ∃ (s : State) (a : Nat),
    s.activeComplex = some a ∧
    ((s.complex (twinOf a)).state = .offline ∨ (s.complex (twinOf a)).state = .standby) ∧
    (s.die (0x30 + twinOf a)).state = .ready := by
  refine ⟨tTwins .offline id id, 0, ?_⟩
  decide +kernel

theorem witness_twinOffline : ∃ (s : State) (a : Nat),
    s.activeComplex = some a ∧ ((s.complex (twinOf a)).state = .standby ∨ (s.complex (twinOf a)).state = .syncing) := by
  refine ⟨tTwins .standby id id, 0, ?_⟩
  decide +kernel

theorem witness_modeCommit : ∃ (s : State) (a : Nat),
    s.activeComplex = some a ∧ s.shadow 0xB00001 = 1 ∧ (s.complex (twinOf a)).state = .standby := by
  refine ⟨{ tTwins .standby id id with shadows := ⟨[(0xB00001, 1)]⟩ }, 0, ?_⟩
  decide +kernel

theorem witness_modeRefused : ∃ (s : State),
    1 < s.shadow 0xB00001 := by
  refine ⟨{ shadows := ⟨[(0xB00001, 2)]⟩ }, ?_⟩
  decide +kernel

theorem witness_cycleEnd : ∃ (s : State) (a : Nat),
    s.activeComplex = some a ∧ s.compatMode = true ∧ s.hubSpeaks = true ∧ s.now % 10000 = 0 := by
  refine ⟨{ tTwins .standby id (fun c => { c with held := [(⟨4, 0, .leave 2⟩ : Sent)] }) with regs := ⟨[(0xB00001, 1)]⟩ }, 0, ?_⟩
  decide +kernel

/-! ### Obligations.StartsAndRails -/

theorem witness_coldEnd : ∃ (s : State) (cause : ColdCause) (o : StartObs),
    s.coldDueFor cause = true ∧ (s.clocks.good0 = true ∨ s.clocks.good1 = true) ∧ s.lifeCycle = 4 := by
  refine ⟨{ fuses := { lifeCopy0 := 15, lifeCopy1 := 15 } }, .powerOn, ⟨[], [], [], [], [], true, [2000], 135000, []⟩, ?_⟩
  decide +kernel

theorem witness_coldNoImage : ∃ (s : State) (cause : ColdCause) (o : StartObs),
    s.coldDueFor cause = true ∧ (s.clocks.good0 = true ∨ s.clocks.good1 = true) ∧ s.lifeCycle ≠ 4 ∧
    s.boot.flash.preferred < 2 ∧ s.imageCheck s.boot.flash.slot0 ≠ 0 ∧ s.imageCheck s.boot.flash.slot1 ≠ 0 := by
  refine ⟨{}, .powerOn, ⟨[], [], [], [], [], true, [2000], 135000, []⟩, ?_⟩
  decide +kernel

theorem witness_coldRuns : ∃ (s : State) (cause : ColdCause) (o : StartObs),
    s.coldDueFor cause = true ∧ (s.clocks.good0 = true ∨ s.clocks.good1 = true) := by
  refine ⟨{}, .powerOn, ⟨[], [], [], [], [], true, [2000], 135000, []⟩, ?_⟩
  decide +kernel

theorem witness_warmNoImage : ∃ (s : State) (a : Nat) (o : StartObs),
    s.boot.startDue = some (false, a) ∧ a ≤ s.now ∧ s.boot.halted = false ∧ s.lifeCycle ≠ 4 ∧
    s.boot.flash.preferred < 2 ∧ s.imageCheck s.boot.flash.slot0 ≠ 0 ∧ s.imageCheck s.boot.flash.slot1 ≠ 0 := by
  refine ⟨{ boot := { startDue := some (false, 0) } }, 0, ⟨[], [], [], [], [], true, [2000], 135000, []⟩, ?_⟩
  decide +kernel

theorem witness_warmRuns : ∃ (s : State) (a : Nat) (o : StartObs),
    s.boot.startDue = some (false, a) ∧ a ≤ s.now ∧ s.boot.halted = false := by
  refine ⟨{ boot := { startDue := some (false, 0) } }, 0, ⟨[], [], [], [], [], true, [2000], 135000, []⟩, ?_⟩
  decide +kernel

theorem witness_rstN : ∃ (s : State) (n : Nat),
    10000 ≤ n := by
  refine ⟨{}, 10000, ?_⟩
  decide +kernel

theorem witness_rstNShort : ∃ (s : State) (n : Nat),
    n < 10000 := by
  refine ⟨{}, 9999, ?_⟩
  decide +kernel

theorem witness_railOfRig : ∃ (s : State) (r : Rail),
    r ∈ [.vaux, .vrig, .vdrv, .vhtr, .vlmp] := by
  refine ⟨{}, .vrig, ?_⟩
  decide +kernel

theorem witness_railOfCache : ∃ (s : State) (x : Nat) (r : Rail),
    x < 4 ∧ r ∈ [.vkd x, .vddh x, .vddqh x, .vpph x] ∧ (s.die (0x10 + x)).state = .ready := by
  refine ⟨{}, 1, .vddh 1, ?_⟩
  decide +kernel

theorem witness_railOfCompute : ∃ (s : State) (x : Nat),
    x < 4 ∧ (s.die (0x20 + x)).state = .ready := by
  refine ⟨{}, 1, ?_⟩
  decide +kernel

theorem witness_railOfHub : ∃ (s : State),
    (s.die 0x30).state = .ready ∧ (s.die 0x31).state = .ready ∧ s.boot.halted = false := by
  refine ⟨{}, ?_⟩
  decide +kernel

theorem witness_railOfGuest : ∃ (s : State) (g : Nat),
    s.guestFitted g = true ∧ (s.guest g).state ≠ .absent ∧ (s.guest g).state ≠ .locked := by
  refine ⟨{ fuses := { guests := 3 } }, 0, ?_⟩
  decide +kernel

/-! ### Obligations.SecurityIsKept -/

theorem witness_toDeployed : ∃ (s : State),
    s.lifeCycle = 1 ∧ s.fuseWindow = true := by
  refine ⟨{ fuses := { lifeCopy0 := 1, lifeCopy1 := 1 } }, ?_⟩
  decide +kernel

theorem witness_toEnd : ∃ (s : State),
    s.lifeCycle ≠ 4 ∧ s.fuseWindow = true ∧ s.boot.token = asciiBytes "END" := by
  refine ⟨{ boot := { token := asciiBytes "END" } }, ?_⟩
  decide +kernel

theorem witness_transitionRefused : ∃ (s : State) (d : Nat),
    d ≤ 4 ∧ transitionAllowed s.lifeCycle d = false := by
  refine ⟨{}, 1, ?_⟩
  decide +kernel

theorem witness_tokenRefused : ∃ (s : State),
    s.lifeCycle ≠ 4 ∧ s.boot.token ≠ asciiBytes "END" := by
  refine ⟨{}, ?_⟩
  decide +kernel

theorem witness_fusesTooHot : ∃ (s : State),
    s.lifeCycle = 1 ∧ s.fuseWindow = false := by
  refine ⟨{ fuses := { lifeCopy0 := 1, lifeCopy1 := 1 }, thermal := { elements := ⟨[(0x130, { centi := 7000 })]⟩ } }, ?_⟩
  decide +kernel

theorem witness_fusesMended : ∃ (s : State),
    s.fuses.lifeCopy0 ≠ s.fuses.lifeCopy1 ∧ s.fuseWindow = true := by
  refine ⟨{ fuses := { lifeCopy0 := 3, lifeCopy1 := 1 } }, ?_⟩
  decide +kernel

theorem witness_securityCommit : ∃ (s : State) (g : Bool),
    s.runningSlot < 2 := by
  refine ⟨{}, true, ?_⟩
  decide +kernel

theorem witness_attested : ∃ (s : State) (n : List Byte),
    s.attestVerdict = 0 ∧ s.boot.nonce = some n := by
  refine ⟨{ boot := { nonce := some [1] } }, [1], ?_⟩
  decide +kernel

theorem witness_attestRefused : ∃ (s : State) (v : Nat),
    v = s.attestVerdict ∧ v ≠ 0 ∧ v ≠ 2 := by
  refine ⟨{}, 5, ?_⟩
  decide +kernel

theorem witness_attestTooHot : ∃ (s : State),
    s.flashWindow = false ∧ s.thermal.attestRefusalRaised = false := by
  refine ⟨{ thermal := { flashCenti := 9500 } }, ?_⟩
  decide +kernel

/-! ### Obligations.BellStops -/

theorem witness_bellRing : ∃ (s : State) (n : Nat),
    s.dbg.bell = .clear := by
  refine ⟨{}, 1, ?_⟩
  decide +kernel

theorem witness_bellRefused : ∃ (s : State) (n : Nat),
    s.dbg.bell ≠ .clear := by
  refine ⟨{ dbg := { bell := .rung } }, 1, ?_⟩
  decide +kernel

theorem witness_bellRung : ∃ (s : State),
    s.dbg.bell = .ringing ∧ s.package.scanWaiting = [] := by
  refine ⟨{ dbg := { bell := .ringing } }, ?_⟩
  decide +kernel

theorem witness_bellScans : ∃ (s : State) (d : Nat),
    s.dbg.bell = .ringing ∧ s.package.scanWaiting = [d] := by
  refine ⟨{ dbg := { bell := .ringing }, package := { scanWaiting := [0x21] } }, 0x21, ?_⟩
  decide +kernel

theorem witness_bellRelease : ∃ (s : State),
    s.dbg.bell = .rung ∧ s.dbg.held = [] := by
  refine ⟨{ dbg := { bell := .rung } }, ?_⟩
  decide +kernel

theorem witness_bellReleaseHeld : ∃ (s s1 s2 : State),
    s.dbg.bell = .rung ∧
    s1 = ({ (s.setReg 0xA00002 1) with dbg := { s.dbg with bell := .releasing, held := [] } } : State).resumeClocks
      (s.now - s.dbg.bellStart) ∧
    s2 = s1.applyHeld s.dbg.held := by
  refine ⟨tBellHeld, ({ (tBellHeld.setReg 0xA00002 1) with dbg := { tBellHeld.dbg with bell := .releasing, held := [] } } : State).resumeClocks (tBellHeld.now - tBellHeld.dbg.bellStart), (({ (tBellHeld.setReg 0xA00002 1) with dbg := { tBellHeld.dbg with bell := .releasing, held := [] } } : State).resumeClocks (tBellHeld.now - tBellHeld.dbg.bellStart)).applyHeld tBellHeld.dbg.held, ?_⟩
  decide +kernel

theorem witness_bellReleaseRefused : ∃ (s : State),
    s.dbg.bell ≠ .rung := by
  refine ⟨{}, ?_⟩
  decide +kernel

theorem witness_bellClear : ∃ (s : State),
    s.dbg.bell = .releasing := by
  refine ⟨{ dbg := { bell := .releasing } }, ?_⟩
  decide +kernel

theorem witness_triggerFires : ∃ (s : State) (n : Nat),
    n < 8 ∧ (s.dbg.triggers.get {} n).state = 1 ∧ (s.dbg.triggers.get {} n).count ≠ 0 ∧
    (s.dbg.triggers.get {} n).count ≤ (s.dbg.triggers.get {} n).seen ∧ s.dbg.bell = .clear := by
  refine ⟨{ dbg := { triggers := ⟨[(3, { state := 1, count := 2, seen := 2 })]⟩ } }, 3, ?_⟩
  decide +kernel

theorem witness_scanOut : ∃ (s s1 : State) (a n st : Nat) (d : List Byte),
    s.scanRead a n = (st, d, s1) := by
  refine ⟨{}, {}, 0, 64, 6, [], ?_⟩
  decide +kernel

theorem witness_scanWaits : ∃ (s : State) (d : Nat),
    s.wrapperOpen d = true ∧ d ∉ s.package.scan ∧ s.dbg.bell = .clear := by
  refine ⟨{ fuses := { lifeCopy0 := 0, lifeCopy1 := 0 } }, 0x21, ?_⟩
  decide +kernel

theorem witness_scanStarts : ∃ (s : State) (d : Nat),
    s.wrapperOpen d = true ∧ d ∉ s.package.scan ∧ s.dbg.bell = .rung := by
  refine ⟨{ fuses := { lifeCopy0 := 0, lifeCopy1 := 0 }, dbg := { bell := .rung } }, 0x21, ?_⟩
  decide +kernel

theorem witness_scanExit : ∃ (s : State) (d : Nat),
    d ∈ s.package.scan ∧ s.package.scan.Nodup ∧
    ((regionsOf d).all fun k => decide ((s.region k).crossing = [] ∧ (s.region k).landing = [])) = true := by
  refine ⟨{ package := { scan := [0x21] } }, 0x21, ?_⟩
  decide +kernel

/-! ### Obligations.DebugRecords -/

theorem witness_dumpWritten : ∃ (s : State) (c x n : Nat),
    s.member c = some x ∧ n ∈ (s.core c).dumpDue ∧ (s.core c).score = [] ∧ (s.ctx x).state = .bound ∧
    s.dbg.bell ≠ .rung ∧ s.boot.halted = false ∧ s.fenceOn c true (s.reg 0xA03101) = none ∧
    s.dumpStalls (s.dbg.dumps.get {} n) = false ∧
    s.reg 0xA03103 + (64 + ceilDiv (s.dbg.dumps.get {} n).length 64 * 64) ≤ s.reg 0xA03102 := by
  refine ⟨{ (tEng fun k => { k with dumpDue := [2] }) with regs := ⟨[(0xA03101, 0x2000), (0xA03102, 0x1000)]⟩, dbg := { dumps := ⟨[(2, { enable := true, length := 64, source := 0x40, remaining := 1 })]⟩ } }, 0, 1, 2, ?_⟩
  decide +kernel

theorem witness_dumpSkipped : ∃ (s : State) (c x n : Nat),
    s.member c = some x ∧ n ∈ (s.core c).dumpDue ∧ (s.core c).score = [] ∧ (s.ctx x).state = .bound ∧
    s.dbg.bell ≠ .rung ∧ s.boot.halted = false ∧ s.fenceOn c true (s.reg 0xA03101) = none ∧
    s.dumpStalls (s.dbg.dumps.get {} n) = false ∧
    s.reg 0xA03102 < s.reg 0xA03103 + (64 + ceilDiv (s.dbg.dumps.get {} n).length 64 * 64) ∧
    s.dbg.dumpSkipRaised = false := by
  refine ⟨{ (tEng fun k => { k with dumpDue := [2] }) with regs := ⟨[(0xA03101, 0x2000), (0xA03102, 0x40)]⟩, dbg := { dumps := ⟨[(2, { enable := true, length := 64, source := 0x40, remaining := 1 })]⟩ } }, 0, 1, 2, ?_⟩
  decide +kernel

theorem witness_traceRecord : ∃ (s s1 s2 : State) (c : Nat) (r : List Byte) (l : List (List Byte)),
    (s.cluster c).traceBuf = r :: l ∧ s.traceSize ≠ 0 ∧ s.towerServes (c / 200) = true ∧
    s1 = s.modCluster c (fun k => { k with traceBuf := l, traceWritten := (s.cluster c).traceWritten + 1 }) ∧
    (s1.storeRange (s.tracePlace c (s.cluster c).traceWritten) r contextZero) = (none, s2) := by
  refine ⟨tTrace, tTraced, (tTraced.storeRange (tTrace.tracePlace 7 0) (leBytes 32 5) contextZero).2, 7, leBytes 32 5, [], ?_⟩
  decide +kernel

theorem witness_counterClearOne : ∃ (s : State) (c : Nat),
    c < 800 := by
  refine ⟨{}, 7, ?_⟩
  decide +kernel

theorem witness_crowsNest : ∃ (s : State) (n : Nat),
    n ≠ 0 ∧ s.samplesDue n ≠ [] := by
  refine ⟨{}, 1000, ?_⟩
  decide +kernel

theorem witness_debugCommit : ∃ (s : State),
    s.debugVerdict = 0 := by
  refine ⟨{}, ?_⟩
  decide +kernel

theorem witness_debugRefused : ∃ (s : State) (v : Nat),
    v = s.debugVerdict ∧ v ≠ 0 := by
  refine ⟨{ blobShadows := ⟨[(0xA00101, leBytes 20 3)]⟩ }, 2, ?_⟩
  decide +kernel

/-! ### Obligations.EmptyQueueTicks -/

theorem witness_emptyQueueTicksLost : ∃ s : State, s.pending = [] ∧ s.boot.rigLost = true := ⟨{ boot := { rigLost := true } }, by decide⟩
theorem witness_emptyQueueTicks : ({} : State).pending = [] ∧ ({} : State).boot.rigLost = false ∧ ({} : State).clocks.halfRate = false ∧
    ({} : State).clocks.slew = 0 := by decide
theorem witness_emptyQueueTicksHalf : ∃ s : State, s.pending = [] ∧ s.boot.rigLost = false ∧ s.clocks.halfRate = true ∧ s.clocks.halfPhase = false :=
  ⟨{ clocks := { halfRate := true } }, by decide⟩
theorem witness_emptyQueueTicksAdds : ∃ s : State, s.pending = [] ∧ s.boot.rigLost = false ∧ s.clocks.halfRate = false ∧ 0 < s.clocks.slew ∧
    s.clocks.nextSlew ≤ s.clocks.count := ⟨{ clocks := { slew := 2 } }, by decide⟩
theorem witness_emptyQueueTicksOmits : ∃ s : State, s.pending = [] ∧ s.boot.rigLost = false ∧ s.clocks.halfRate = false ∧ s.clocks.slew < 0 ∧
    s.clocks.nextSlew ≤ s.clocks.count := ⟨{ clocks := { slew := -2 } }, by decide⟩

/-! ### Obligations.MemoryStaysCanonical -/

theorem witness_memoryStaysCanonical : memoryCanonical ({} : State) ∧ step {} = .next ({} : State).tick := ⟨by decide, rfl⟩

/-! ### Obligations.FusesStayBlown -/

theorem witness_fusesStayBlown : step ({} : State) = .next ({} : State).tick := rfl

/-! ### Obligations.TimeNeverRunsBack -/

theorem witness_timeNeverRunsBack : ∃ s t : State, (∀ cause obs, s.pending.head? ≠ some (.coldStart cause obs)) ∧
    (∀ n, s.pending.head? ≠ some (.rstNLow n)) ∧ step s = .next t ∧ t.boot.rigLost = false :=
  ⟨{}, ({} : State).tick, by simp, by simp, rfl, by decide⟩

/-! ### Obligations.LeavesAreNeverReused -/

theorem witness_leavesAreNeverReused : ∃ s t : State, s.boot.flash.identity ≠ [] ∧ leavesReserved s ∧
    (∀ r, s.boot.flash.leafRecord = some r → r.seq + 1 < 4294967296) ∧ step s = .next t := by
  refine ⟨{ boot := { leaf := 64, flash := { identity := [1], leaf1 := { seq := 1, ceiling := 64, good := true } } } }, _, by decide,
    ⟨{ seq := 1, ceiling := 64, good := true }, by decide, by decide⟩, ?_, rfl⟩
  intro r h
  have e : r = { seq := 1, ceiling := 64, good := true } := by simpa [Flash.leafRecord] using h.symm
  subst e; decide
theorem witness_leavesAreNeverReusedSigns : ∃ s : State, s.pending.head? = some (.attestationRequest 1) ∧ s.attestVerdict = 0 :=
  ⟨{ pending := [.attestationRequest 1], fuses := { lifeCopy0 := 3, lifeCopy1 := 3 }, boot := { nonce := some [] } }, by decide +kernel⟩

/-! ### Obligations.StoreThenLoad -/

theorem witness_storeThenLoad : memoryClean ({} : State) ∧ ([1, 2] : List Byte) ≠ [] ∧
    ({} : State).extentPopulated 0x103F 2 = true := by
  refine ⟨⟨rfl, rfl, rfl, fun k => ⟨rfl, rfl⟩⟩, by decide, by decide⟩

/-! ### Obligations.CombinedAtomicsSerial -/

theorem witness_combinedAtomicsSerial : ∃ (op : Nat) (old d : List Byte) (rest : List (List Byte)),
    op ∈ [0x28, 0x29, 0x2A, 0x2B, 0x2D, 0x2E, 0x31] ∧ (old.length = 8 ∨ old.length = 16) ∧
    ∀ x ∈ d :: rest, x.length = old.length := ⟨0x29, leBytes 8 7, leBytes 8 5, [leBytes 8 9], by decide⟩

/-! ### Obligations.StoresMergeInOrder -/

theorem witness_storesMergeInOrder : ∃ (s : State) (line : Nat) (a b : Req), memoryClean s ∧ a.op = 0x21 ∧ s.targetExists a = true ∧
    s.extentPopulated (128 * line) 128 = true ∧ ∀ p ∈ [a, b], p.data ≠ [] ∧ p.addr / 128 = line ∧ p.addr % 128 + p.data.length ≤ 128 := by
  refine ⟨{}, 32, tStoreReq 0x1002 [1, 2], tStoreReq 0x1003 [5], ⟨rfl, rfl, rfl, fun k => ⟨rfl, rfl⟩⟩, by decide, by decide, by decide, by decide⟩
theorem witness_storesMergeInOrderAbsorbs : (tStoreReq 0x1002 [1, 2]).op = 0x21 ∧ (tStoreReq 0x1003 [5]).nocomb = false ∧
    (tStoreReq 0x1003 [5]).addr % 128 + (tStoreReq 0x1003 [5]).data.length ≤ 128 := by decide

/-! ### Obligations.ClockLimitsCommit -/

theorem witness_clockLimitsCommitWrite : (List.replicate 32 400).length = 32 ∧ ∀ m ∈ List.replicate 32 400, m < 65536 := by decide
theorem witness_clockLimitsCommitBad : ∃ s : State, ∃ m ∈ s.limitShadow, m < 400 ∨ 1800 < m ∨ m % 25 ≠ 0 :=
  ⟨({} : State).setBlobShadow 0x301001 (leBytes 64 399), by decide +kernel⟩
theorem witness_clockLimitsCommitGood : ∀ m ∈ ({} : State).limitShadow, 400 ≤ m ∧ m ≤ 1800 ∧ m % 25 = 0 := by decide +kernel

/-! ### Obligations.UndefinedEntriesAnswerTwo -/

theorem witness_undefinedEntriesAnswerTwo : ∃ (s : State) (t : Transaction),
    (∀ e ∈ odEntries, e.key ≠ odKey t.index t.sub) ∧ s.hears t = true ∧
    cachedResponse (s.arrive t).control.cache t.tid none = none ∧ staleTid (s.arrive t).control.cache t.tid = false ∧
    (s.arrive t).inProgress t.tid = false ∧ (s.arrive t).serves t.index = true ∧ (s.arrive t).busy = false ∧
    t.value.length ≤ 4096 :=
  ⟨{ control := { krytae := ⟨[(0, { state := .up })]⟩ } }, ⟨1, 0, false, false, 0x1000, 6, 0, 0, []⟩, by decide +kernel⟩

/-! ### Obligations.ElementValues -/

theorem witness_elementValuesFloat : ∃ f ∈ floatFormats, (1 : Nat) < 2 ∧ 3 < 2 ^ f.expBits ∧ 5 < 2 ^ f.manBits ∧
    (f.special = true → 3 ≠ 2 ^ f.expBits - 1) ∧ (f.e4m3 = true → ¬(3 = 2 ^ f.expBits - 1 ∧ 5 = 2 ^ f.manBits - 1)) :=
  ⟨e4m3, by decide⟩
theorem witness_elementValuesCodebook : ([0x38, 0x7F] : List Byte)[1]? = some 0x7F ∧ 5 ≤ 0xFE := by decide

/-! ### Obligations.IntegerSumsAreExact -/

theorem witness_integerSumsAreExact : (5 : Int).natAbs ≤ 2 ^ 24 ∧ (-7 : Int).natAbs ≤ 2 ^ 24 ∧ (5 + -7 : Int).natAbs ≤ 2 ^ 24 := by
  decide

/-! ### Obligations.MarkedCodewordsFault -/

theorem witness_markedCodewordsFault : ∃ (s : State) (off n : Nat), 0 < n ∧ (off + n - 1) / 64 = off / 64 ∧
    s.extentPopulated off n = true ∧ decodePattern (s.patternOf (off / 64)) = .marked ∧
    (∀ t o, placeOf off = .hbm t o → (s.residentLine t (lineOf o)).isSome = true ∨ s.stackServes t (off / 64) = true) ∧
    (∀ g a, placeOf off ≠ .mailbox g a) ∧ s.raised 0x1201 < 2 ^ 64 - 1 := by
  refine ⟨({} : State).markStored 0x40 [], 0x1004, 4, by decide, by decide, by decide, by decide +kernel, ?_, ?_, by decide⟩
  · intro t o h
    right
    have e : placeOf 0x1004 = .hbm 0 0x1004 := by decide
    rw [e] at h; cases h; decide
  · intro g a
    have e : placeOf 0x1004 = .hbm 0 0x1004 := by decide
    rw [e]; simp

/-! ### Obligations.LeavesAtStart -/

theorem witness_leavesAtStartCold : ∃ s : State, s.coldDueFor .powerOn = true ∧ (s.clocks.good0 = true ∨ s.clocks.good1 = true) :=
  ⟨{}, by decide⟩
theorem witness_leavesAtStartWarm : ∃ (s : State) (due : Nat), s.boot.startDue = some (false, due) ∧ due ≤ s.now ∧
    s.boot.halted = false := ⟨{ boot := { startDue := some (false, 0) } }, 0, by decide⟩
theorem witness_leavesAtStartField : ∃ s : State, s.boot.leavesUnusable = true ∧ s.flashWindow = true ∧ s.lifeCycle = 2 :=
  ⟨{ fuses := { lifeCopy0 := 3, lifeCopy1 := 3 }, boot := { leavesUnusable := true } }, by decide⟩
theorem witness_leavesAtStartReturn : ∃ s : State, s.flashWindow = true ∧ s.lifeCycle = 3 ∧ s.boot.leaf < 2 ^ 40 ∧ s.boot.nonce ≠ none :=
  ⟨{ fuses := { lifeCopy0 := 7, lifeCopy1 := 7 }, boot := { nonce := some [] } }, by decide⟩

end Sys2Proof.Tests
end

/-! PROOF. What the statements of the cluster chapter rest on: clusters and contexts after an update, the state images
that no read or store changes, and the pieces of the engines, loaders and power rules that the commands share. -/

namespace Sys2Proof.Machine

/-! ### Clusters after an update -/

section
variable (s : State)

@[simp] theorem Cluster.count_core (k : Cluster) (b : Bool) (id w n : Nat) : (k.count b id w n).core = k.core := by
  unfold Cluster.count; split <;> rfl

@[simp] theorem Cluster.count_bound (k : Cluster) (b : Bool) (id w n : Nat) : (k.count b id w n).bound = k.bound := by
  unfold Cluster.count; split <;> rfl

@[simp] theorem State.core_modCore_same (c : Nat) (f : Core → Core) : (s.modCore c f).core c = f (s.core c) := by
  simp [State.core, State.modCore, State.cluster_modCluster]

@[simp] theorem State.core_modCtx (x c : Nat) (f : Ctx → Ctx) : (s.modCtx x f).core c = s.core c := rfl

@[simp] theorem State.core_setPhase (x c k : Nat) (p : MemberPhase) : (s.setPhase x c p).core k = s.core k := rfl

@[simp] theorem State.core_bump (c id w n k : Nat) : (s.bump c id w n).core k = s.core k := by
  by_cases h : k = c <;> simp [State.core, State.bump, State.cluster_modCluster, h]

@[simp] theorem State.bound_bump (c id w n k : Nat) : ((s.bump c id w n).cluster k).bound = (s.cluster k).bound := by
  by_cases h : k = c <;> simp [State.bump, State.cluster_modCluster, h]

theorem State.cluster_modCluster_same (c : Nat) (f : Cluster → Cluster) :
    (s.modCluster c f).cluster c = f (s.cluster c) := by simp [State.cluster_modCluster]

end

/-! ### Frames -/

theorem sameClusters_of_clusters {c : Nat} {s t : State} (h : t.clusters = s.clusters) : sameClusters c s t :=
  fun k _ => by simp only [State.cluster, h]

theorem sameClusters.trans {c : Nat} {s t u : State} (h : sameClusters c s t) (g : sameClusters c t u) :
    sameClusters c s u := fun k hk => (g k hk).trans (h k hk)

theorem sameClusters_modCluster (c : Nat) (s : State) (f : Cluster → Cluster) : sameClusters c s (s.modCluster c f) :=
  fun k hk => by simp [State.cluster_modCluster, hk]

theorem sameClusters_modCore (c : Nat) (s : State) (f : Core → Core) : sameClusters c s (s.modCore c f) :=
  sameClusters_modCluster c s _

theorem sameClusters_bump (c : Nat) (s : State) (id w n : Nat) : sameClusters c s (s.bump c id w n) :=
  sameClusters_modCluster c s _

theorem sameClusters_foldl {α : Type} {c : Nat} {f : State → α → State} (h : ∀ s a, sameClusters c s (f s a))
    (l : List α) (s : State) : sameClusters c s (l.foldl f s) := by
  induction l generalizing s with
  | nil => exact fun _ _ => rfl
  | cons a l ih => exact (h s a).trans (ih (f s a))

theorem sameClusters.setPhase {c : Nat} {s t : State} (h : sameClusters c s t) (x m : Nat) (p : MemberPhase) :
    sameClusters c s (t.setPhase x m p) := h

theorem sameCtxs_modCtx (x : Nat) (s : State) (f : Ctx → Ctx) : sameCtxs x s (s.modCtx x f) :=
  fun y hy => by simp [State.ctx_modCtx, hy]

theorem phase_setPhase (s : State) (x c : Nat) (p : MemberPhase) : (memberOf ((s.setPhase x c p).ctx x) c).phase = p :=
  congrArg Member.phase (State.memberOf_modMember s x c _)

theorem State.loadRange_ctx {s s1 : State} {off n : Nat} {r : Requester} {a : Except Nat (List Byte)}
    (h : s.loadRange off n r = (a, s1)) (y : Nat) : s1.ctx y = s.ctx y := by
  have hk : s1.ctxs = s.ctxs := (congrArg (·.2.ctxs) h).symm.trans (by simp)
  rw [State.ctx, State.ctx, hk]

theorem State.storeRange_ctx {s s1 : State} {off : Nat} {d : List Byte} {r : Requester} {f : Option Nat}
    (h : s.storeRange off d r = (f, s1)) (y : Nat) : s1.ctx y = s.ctx y := by
  have hk : s1.ctxs = s.ctxs := (congrArg (·.2.ctxs) h).symm.trans (by simp)
  rw [State.ctx, State.ctx, hk]

/-! ### Reads and stores leave every state image (R74) -/

/-- Every cluster holds the state image that it held: at most counters, which are no part of it, have moved. -/
def sameCores (s t : State) : Prop := ∀ k, t.core k = s.core k

namespace sameCores

theorem refl (s : State) : sameCores s s := fun _ => rfl

theorem trans {s t u : State} (h : sameCores s t) (g : sameCores t u) : sameCores s u := fun k => (g k).trans (h k)

theorem of_clusters {s t : State} (h : t.clusters = s.clusters) : sameCores s t :=
  fun k => by simp only [State.core, State.cluster, h]

theorem bump (s : State) (c id w n : Nat) : sameCores s (s.bump c id w n) := State.core_bump s c id w n

theorem foldl {α : Type} {f : State → α → State} (h : ∀ s a, sameCores s (f s a)) (l : List α) (s : State) :
    sameCores s (l.foldl f s) := by
  induction l generalizing s with
  | nil => exact refl s
  | cons a l ih => exact (h s a).trans (ih (f s a))

theorem countCorrected (s : State) (store off : Nat) : sameCores s (s.countCorrected store off) := by
  unfold State.countCorrected
  dsimp only
  split
  · exact trans (of_clusters rfl) (bump _ _ _ _ _)
  · exact of_clusters rfl

theorem judge (s : State) (store off : Nat) (p : ErrorPattern) (code : Nat) (r : Requester) :
    sameCores s (s.judge store off p code r).2 := by
  unfold State.judge
  split
  · exact refl s
  · exact trans (countCorrected s store off) (of_clusters rfl)
  · exact of_clusters (by simp)
  · exact of_clusters (by simp)

theorem readHbmWord (s : State) (t l w : Nat) (r : Requester) : sameCores s (s.readHbmWord t l w r).2 := by
  unfold State.readHbmWord
  split
  · split
    · split
      · exact judge _ _ _ _ _ _
      · dsimp only
        split
        · exact of_clusters (by simp)
        · generalize hs1 : (s.dropResident t l).setSet _ _ = s1
          have h1 : sameCores s s1 := of_clusters (by simp [← hs1])
          have h2 := judge s1 storeHbm (64 * w) (s1.hbmPattern t w) 0x0304 r
          split
          · rename_i he
            rw [he] at h2
            exact (h1.trans h2).trans (of_clusters rfl)
          · exact h1.trans h2
    · exact judge _ _ _ _ _ _
  · split
    · exact refl s
    · exact judge _ _ _ _ _ _

theorem readWord (s : State) (off : Nat) (r : Requester) : sameCores s (s.readWord off r).2 := by
  unfold State.readWord
  split
  · exact readHbmWord _ _ _ _ _
  · exact judge _ _ _ _ _ _
  · exact judge _ _ _ _ _ _
  · exact refl s
  · exact refl s

theorem fillWord (s : State) (skip : List Nat) (w : Nat) : sameCores s (s.fillWord skip w) := by
  unfold State.fillWord
  dsimp only
  split
  · exact of_clusters rfl
  · split
    · exact of_clusters rfl
    · exact trans (of_clusters (by simp)) (trans (countCorrected _ _ _) (of_clusters rfl))
    · exact of_clusters rfl
    · exact of_clusters (by simp)

theorem allocate (s : State) (t l : Nat) (dirty : Bool) (skip : List Nat) : sameCores s (s.allocate t l dirty skip) := by
  unfold State.allocate
  split
  · exact refl s
  · exact trans (of_clusters (by simp)) (trans (fillWord _ _ _) (fillWord _ _ _))

theorem settle (s : State) (off : Nat) (write : Bool) (skip : List Nat) (r : Requester) :
    sameCores s (s.settle off write skip r) := by
  unfold State.settle
  split
  · unfold State.settleLine
    split
    · exact of_clusters rfl
    · split
      · exact allocate _ _ _ _ _
      · exact refl s
  · exact refl s

theorem loadWords (s : State) (off n : Nat) (r : Requester) (ws : List Nat) (acc : List Byte) (f : Option Nat) :
    sameCores s (s.loadWords off n r ws acc f).2.2 := by
  induction ws generalizing s acc f with
  | nil => exact refl s
  | cons w ws ih =>
    have h := readWord s w r
    unfold State.loadWords
    split
    all_goals
      rename_i he
      rw [he] at h
      exact h.trans (ih _ _ _)

theorem loadRange (s : State) (off n : Nat) (r : Requester) : sameCores s (s.loadRange off n r).2 := by
  have h := loadWords s off n r (wordsOf off n) [] none
  unfold State.loadRange
  split
  · exact refl s
  · split
    · exact refl s
    · split
      · rename_i he
        rw [he] at h
        exact h.trans (foldl (fun s w => settle s w _ _ r) _ _)
      · rename_i he
        rw [he] at h
        exact h

theorem checkWord (s : State) (off n w : Nat) (r : Requester) : sameCores s (s.checkWord off n w r).2 := by
  unfold State.checkWord
  extract_lets dead
  split
  · exact refl s
  · split
    · exact refl s
    · exact readWord s w r

theorem checkWords (s : State) (off n : Nat) (r : Requester) (ws : List Nat) (acc : List (Nat × ErrorPattern))
    (f : Option Nat) : sameCores s (s.checkWords off n r ws acc f).2.2 := by
  induction ws generalizing s acc f with
  | nil => exact refl s
  | cons w ws ih =>
    have h := checkWord s off n w r
    unfold State.checkWords
    split
    all_goals
      rename_i he
      rw [he] at h
      exact h.trans (ih _ _ _)

theorem writeWord (s : State) (off : Nat) (d : List Byte) (w : Nat) (left : ErrorPattern) (r : Requester) :
    sameCores s (s.writeWord off d w left r) := by
  refine (settle s w true ((wordsOf off d.length).map (· / 64)) r).trans (of_clusters ?_)
  unfold State.writeWord
  dsimp only
  split
  · split <;> simp
  · simp

theorem storeRange (s : State) (off : Nat) (d : List Byte) (r : Requester) : sameCores s (s.storeRange off d r).2 := by
  have h := checkWords s off d.length r (wordsOf off d.length) [] none
  unfold State.storeRange State.storeWords
  split
  · exact refl s
  · split
    · exact refl s
    · split
      rename_i he
      rw [he] at h
      exact h.trans (foldl (fun s (e : Nat × ErrorPattern) => writeWord s off d e.1 e.2 _) _ _)

end sameCores

/-! ### Counting at one cluster (R75, R109, R478) -/

/-- What counting at cluster `c` changes of the clusters: nothing of another cluster, and no state image. -/
structure countsAt (c : Nat) (s t : State) : Prop where
  cores : sameCores s t
  others : sameClusters c s t

namespace countsAt

theorem of_clusters {c : Nat} {s t : State} (h : t.clusters = s.clusters) : countsAt c s t :=
  ⟨sameCores.of_clusters h, sameClusters_of_clusters h⟩

theorem refl (c : Nat) (s : State) : countsAt c s s := of_clusters rfl

theorem trans {c : Nat} {s t u : State} (h : countsAt c s t) (g : countsAt c t u) : countsAt c s u :=
  ⟨h.cores.trans g.cores, h.others.trans g.others⟩

theorem bump (c : Nat) (s : State) (id w n : Nat) : countsAt c s (s.bump c id w n) :=
  ⟨sameCores.bump s c id w n, sameClusters_bump c s id w n⟩

/-- A change of cluster `c` that leaves its state image. -/
theorem modCluster (c : Nat) (s : State) {f : Cluster → Cluster} (h : ∀ k, (f k).core = k.core) :
    countsAt c s (s.modCluster c f) :=
  ⟨fun k => by by_cases hk : k = c <;> simp [State.core, State.cluster_modCluster, hk, h], sameClusters_modCluster c s f⟩

theorem foldl {α : Type} {c : Nat} {f : State → α → State} (h : ∀ s a, countsAt c s (f s a)) (l : List α) (s : State) :
    countsAt c s (l.foldl f s) := by
  induction l generalizing s with
  | nil => exact refl c s
  | cons a l ih => exact (h s a).trans (ih (f s a))

theorem panelsRan (c : Nat) (s : State) (hs ns : Nat) : countsAt c s (s.panelsRan c hs ns) := by
  refine foldl (fun s p => ?_) _ s
  refine ((bump c s (0x100 + p) 64 hs).trans (bump c _ (0x110 + p) 64 ns)).trans ?_
  exact modCluster c _ fun _ => rfl

theorem noteConversions (c : Nat) (s : State) (e : Engine) (word : OpWord) (cs : List (Nat × Conversion)) :
    countsAt c s (s.noteConversions c e word cs) := by
  unfold State.noteConversions
  extract_lets l s0 s1
  have h0 : countsAt c s s0 := by
    unfold s0
    split
    · exact bump c s _ _ _
    · exact refl c s
  have h1 : countsAt c s s1 := ((((h0.trans (bump c _ _ _ _)).trans (bump c _ _ _ _)).trans (bump c _ _ _ _)).trans
    (bump c _ _ _ _)).trans (bump c _ _ _ _)
  split
  · exact h1
  · split
    · exact h1
    · refine (h1.trans ?_).trans (of_clusters (State.slateOnly_clusters _ _ _ _ _ _))
      exact modCluster c s1 fun _ => rfl

end countsAt

theorem State.noteConversions_only (s : State) (c : Nat) (e : Engine) (word : OpWord) (cs : List (Nat × Conversion)) :
    ∃ k g, s.noteConversions c e word cs = { s with clusters := k, dbg := g } := by
  refine ⟨_, _, State.ext_of ?_ ?_ ?_ ?_ ?_ ?_ ?_ ?_ ?_ ?_ rfl ?_ ?_ ?_ ?_ ?_ ?_ ?_ ?_ ?_ ?_ ?_ ?_ rfl ?_⟩ <;> simp

theorem State.panelsRan_only (s : State) (c hs ns : Nat) : ∃ k, s.panelsRan c hs ns = { s with clusters := k } := by
  unfold State.panelsRan
  induction List.range 4 generalizing s with
  | nil => exact ⟨s.clusters, rfl⟩
  | cons p l ih => obtain ⟨k, h⟩ := ih _; exact ⟨k, h⟩

theorem State.foldl_bump_only {α : Type} (l : List α) (s : State) (c w : Nat) (id n : α → Nat) :
    ∃ k, l.foldl (fun s a => s.bump c (id a) w (n a)) s = { s with clusters := k } := by
  induction l generalizing s with
  | nil => exact ⟨s.clusters, rfl⟩
  | cons a l ih => obtain ⟨k, h⟩ := ih (s.bump c (id a) w (n a)); exact ⟨k, h⟩

end Sys2Proof.Machine

namespace Sys2Proof.Machine

/-! ### Operations start and complete (R43, R135) -/

theorem queueOf_startOp (k : Core) (e : Engine) (o : QueuedOp) (dq : Bool) :
    queueOf (startOp k e o dq) e = (queueOf k e).filter fun q => q.seq ≠ o.seq := by
  cases e <;> cases dq <;> rfl

theorem startOp_keeps (k : Core) (e : Engine) (o : QueuedOp) (dq : Bool) :
    (startOp k e o dq).score = k.score ∧ (startOp k e o dq).acc = k.acc ∧ (startOp k e o dq).run = k.run := by
  cases e <;> cases dq <;> exact ⟨rfl, rfl, rfl⟩

theorem startOp_copies (k : Core) (o : QueuedOp) (dq : Bool) :
    (startOp k .ce o dq).copies = k.copies ++ [{ op := o }] := rfl

theorem runningOf_startOp (k : Core) {e : Engine} (o : QueuedOp) (dq : Bool) (hme : e ≠ .me) (hce : e ≠ .ce) :
    runningOf (startOp k e o dq) e = some { op := o } := by
  cases e
  case me => exact absurd rfl hme
  case ce => exact absurd rfl hce
  all_goals rfl

/-- A good operation at the head of its queue, with nothing to wait for and a free place, starts (R43, R135). -/
theorem engineOpStart_starts {s : State} {x c : Nat} {e : Engine} {dq : Bool} {o : QueuedOp}
    (hx : s.starting c = some x) (ho : headOf (s.core c) e dq = some o) (hr : opRefusal (s.core c) e o = none)
    (hw : scoreWaits (s.core c) o.seq = false) (hd : dq = false ∨ drainWaits (s.core c) o = false)
    (hp : placeFree (s.core c) e dq = true) :
    exec (.engineOpStart c e dq) s = .next (s.modCore c fun k => startOp k e o dq) := by
  change execEngineOpStart c e dq s = _
  have hgo : ((dq && drainWaits (s.core c) o) || !placeFree (s.core c) e dq) = false := by
    rw [hp]
    rcases hd with h | h <;> simp [h]
  simp only [execEngineOpStart, hx, ho, hr, hw, hgo]
  rfl

/-- The state that the completion of operation `n` of engine `e` leaves, less a copy's increment (R75, R135, R472). -/
def State.opCompleted (s : State) (x c : Nat) (e : Engine) (o : RunningOp) (took : EngineSpan) : State :=
  let s1 := s.modCore c fun k => releaseOp k o.op.seq
  (took.waits.foldl (fun s w => s.bump c (0x170 + w.1) 32 w.2)
    (if e = .me then s1 else s1.bump c (0x160 + Engine.num e) 48 took.busy)).slateOnly c 0xF003 x (s.idsOf c)
      (leBytes 1 (Engine.num e) ++ leBytes 16 o.op.word.toNat)

theorem engineOpComplete_next {s : State} {x c place : Nat} {e : Engine} {o : RunningOp} (took : EngineSpan)
    (hx : s.working c = some x) (ho : s.completable c e place = some o)
    (hinc : ∀ op, o.op.reading = .ce op → op.inc = none ∨ o.carried = true ∨ e ≠ .ce) :
    exec (.engineOpComplete c e place took) s = .next (s.opCompleted x c e o took) := by
  change execEngineOpComplete c e place took s = _
  simp only [execEngineOpComplete, hx, ho]
  split
  · rename_i op hop
    split
    · rename_i ref amt hi
      have hno : (o.carried || decide (e ≠ .ce)) = true := by
        rcases hinc op hop with h | h | h
        · simp [h] at hi
        · simp [h]
        · simp [h]
      rw [if_pos hno]
      rfl
    · rfl
  · rfl

theorem countsAt_opCompleted (s : State) (x c : Nat) (e : Engine) (o : RunningOp) (took : EngineSpan) :
    countsAt c (s.modCore c fun k => releaseOp k o.op.seq) (s.opCompleted x c e o took) := by
  refine countsAt.trans ?_ (countsAt.of_clusters (State.slateOnly_clusters _ _ _ _ _ _))
  refine countsAt.trans ?_ (countsAt.foldl (fun s (w : Nat × Nat) => countsAt.bump c s _ _ _) _ _)
  split
  · exact countsAt.refl c _
  · exact countsAt.bump c _ _ _ _

theorem State.core_opCompleted (s : State) (x c : Nat) (e : Engine) (o : RunningOp) (took : EngineSpan) :
    (s.opCompleted x c e o took).core c = releaseOp (s.core c) o.op.seq := by
  rw [(countsAt_opCompleted s x c e o took).cores c, State.core_modCore_same]

theorem State.opCompleted_only (s : State) (x c : Nat) (e : Engine) (o : RunningOp) (took : EngineSpan) :
    ∃ k g, s.opCompleted x c e o took = { s with clusters := k, dbg := g } := by
  unfold State.opCompleted
  extract_lets s1
  generalize hb : (if e = .me then s1 else s1.bump c (0x160 + Engine.num e) 48 took.busy) = s2
  obtain ⟨k, hk⟩ := State.foldl_bump_only took.waits s2 c 32 (fun w => 0x170 + w.1) (fun w => w.2)
  have h2 : ∃ k, s2 = { s with clusters := k } := by
    rw [← hb]
    split
    · exact ⟨_, rfl⟩
    · exact ⟨_, rfl⟩
  obtain ⟨k2, h2⟩ := h2
  obtain ⟨g, hg⟩ := State.slateOnly_only (took.waits.foldl (fun s w => s.bump c (0x170 + w.1) 32 w.2) s2) c 0xF003 x
    (s.idsOf c) (leBytes 1 (Engine.num e) ++ leBytes 16 o.op.word.toNat)
  exact ⟨k, g, by rw [hg, hk, h2]⟩

/-! ### Progress records (R61, R66) -/

theorem engineSuspend_next {s : State} {x c : Nat} {e : Engine} (hx : s.working c = some x)
    (hend : (s.ctx x).ending = true) (hb : s.atBoundary c e = true) :
    exec (.engineSuspend c e) s = .next (match e with
      | .ce => s.modCore c fun k => { k with ceSuspended := true }
      | .ge => s.modCore c fun k => { k with geSuspended := true }
      | _ => s) := by
  change execEngineSuspend c e s = _
  simp only [execEngineSuspend, hx, hend, hb]
  cases e <;> rfl

theorem meProgressRecord_next {s : State} {x c : Nat} (hx : s.working c = some x) (hend : (s.ctx x).ending = true)
    (hd : (s.core c).drain = none) (hk : s.withinStep c = false) :
    exec (.meProgressRecord c) s = .next (s.modCore c fun k => { k with meSuspended := true }) := by
  change execMeProgressRecord c s = _
  simp only [execMeProgressRecord, hx, hend, hd, hk]
  rfl

/-- Settles O4: each clause is the state that its command answers, read through the laws of `startOp` and `releaseOp`. -/
theorem engineQueuesRun : Obligations.EngineQueuesRun := by
  unfold Obligations.EngineQueuesRun
  refine ⟨?_, ?_, ?_, ?_, ?_⟩
  · intro s x c e dq o hx ho hr hw hd hp
    obtain ⟨hscore, hacc, hrun⟩ := startOp_keeps (s.core c) e o dq
    refine ⟨_, engineOpStart_starts hx ho hr hw hd hp, ?_⟩
    rw [State.core_modCore_same]
    refine ⟨queueOf_startOp _ e o dq, hscore, ?_, ?_, ?_, ?_, hacc, hrun, sameClusters_modCore c s _, rfl⟩
    · rintro rfl rfl; rfl
    · rintro rfl rfl; rfl
    · rintro rfl; exact startOp_copies _ o dq
    · exact fun h => runningOf_startOp _ o dq h.1 h.2
  · intro s x c place busy waits e o hx ho hinc
    have hcore := State.core_opCompleted s x c e o ⟨busy, waits⟩
    obtain ⟨k, g, ht⟩ := State.opCompleted_only s x c e o ⟨busy, waits⟩
    exact ⟨_, engineOpComplete_next _ hx ho hinc, hcore, by rw [hcore]; rfl,
      (sameClusters_modCore c s _).trans (countsAt_opCompleted s x c e o _).others, by rw [ht]⟩
  · intro s x c hx hend hb
    exact ⟨_, engineSuspend_next hx hend hb, State.core_modCore_same s c _, sameClusters_modCore c s _, rfl⟩
  · intro s x c hx hend hb
    exact ⟨_, engineSuspend_next hx hend hb, State.core_modCore_same s c _, sameClusters_modCore c s _, rfl⟩
  · intro s x c hx hend hd hk
    exact ⟨_, meProgressRecord_next hx hend hd hk, State.core_modCore_same s c _, sameClusters_modCore c s _, rfl⟩

end Sys2Proof.Machine

namespace Sys2Proof.Machine

/-! ### RUN (R122) -/

/-- RUN, when its bundle is good and every read succeeds, loads the member's timetable. -/
theorem run_next {s s1 s2 s3 : State} {x c : Nat} {d : BitVec 512} {h b : List Byte}
    (hd : s.executing x c 1 .started = some d)
    (hw : s.stallsForPartition (dTtPtr d) (0x40 + 8 * (s.ctx x).cls.length) = false)
    (hw' : s.stallsForPartition (dTtPtr d) (field h 4 4) = false)
    (hh : s.loadRange (dTtPtr d) (0x40 + 8 * (s.ctx x).cls.length) (s.requesterAt x c) = (.ok h, s1))
    (hg : bundleHeaderGood h (s.ctx x).cls.length = true)
    (he : s1.bundleEnds (dTtPtr d) h (s.requesterAt x c) (List.range (s.ctx x).cls.length) = (.ok true, s2))
    (hb : s2.loadRange (dTtPtr d + (bundleRow h (memberIndex (s.ctx x).cls c)).1)
      (32 * (bundleRow h (memberIndex (s.ctx x).cls c)).2) (s.requesterAt x c) = (.ok b, s3)) :
    exec (.run x c) s = .next (s3.loadTimetable x c (memberOf (s.ctx x) c).next d
      (entriesOf (bundleRow h (memberIndex (s.ctx x).cls c)).2 b)) := by
  change execRun x c s = _
  simp only [execRun, hd, hw, hw', hh, hg, he, hb]
  rfl

theorem State.core_loadTimetable (s : State) (x c j : Nat) (d : BitVec 512) (es : List (BitVec 256)) :
    (s.loadTimetable x c j d es).core c =
      { s.core c with
        timetable := es
        run := some
          { ctx := x
            ring := j
            length := es.length
            entry := 0
            waitSince := if isWait (entryKind (es.getD 0 0)) then some s.now else none
            trace := dFlag d 5
            stochastic := dFlag d 6 } } := by
  simp [State.loadTimetable, State.goTo, State.modRun, State.setPhase, State.modMember]
  rfl

theorem sameClusters_loadTimetable (s : State) (x c j : Nat) (d : BitVec 512) (es : List (BitVec 256)) :
    sameClusters c s (s.loadTimetable x c j d es) := by
  unfold State.loadTimetable
  generalize hu : s.modCore c _ = u
  have hs : sameClusters c s u := hu ▸ sameClusters_modCore c s _
  have hp : sameClusters c u (u.setPhase x c .working) := sameClusters_of_clusters rfl
  exact (hs.trans hp).trans (sameClusters_modCore c _ _)

theorem length_entriesOf (n : Nat) (d : List Byte) : (entriesOf n d).length = n := by simp [entriesOf]

/-! ### COPY, TALLY_SET and the two loads (R120) -/

theorem copy_next {s : State} {x c : Nat} {d : BitVec 512} (hd : s.executing x c 2 .started = some d)
    (hq : (s.core c).ceQueue.length < 4) (hs : (s.core c).score.length < 32) :
    exec (.copy x c) s = .next ((s.modCore c fun k =>
      enqueue k .ce 0 (.ce (copyOf d)) (memberOf (s.ctx x) c).next).setPhase x c .working) := by
  change execCopy x c s = _
  have hroom : (decide (queueSize .ce ≤ (s.core c).ceQueue.length) || decide (32 ≤ (s.core c).score.length)) = false := by
    have h4 : queueSize .ce = 4 := rfl
    rw [h4, Bool.or_eq_false_iff, decide_eq_false_iff_not, decide_eq_false_iff_not]
    omega
  simp only [execCopy, hd, hroom]
  rfl

theorem tallySet_next {s s1 : State} {x c : Nat} {d : BitVec 512} (hd : s.executing x c 3 .started = some d)
    (hs : s.storeRange (clusterOffset c (tallyAddress (dDim0 d % 256))) (leBytes 4 (dAddr0 d)) (s.requesterAt x c) =
      (none, s1)) : exec (.tallySet x c) s = .next (s1.setPhase x c .done) := by
  change execTallySet x c s = _
  simp only [execTallySet, hd, hs]
  rfl

theorem cbLoad_next {s s1 : State} {x c : Nat} {d : BitVec 512} {b : List Byte}
    (hd : s.executing x c 4 .started = some d) (hu : setInUse (s.core c) (descField d 23 18) = false)
    (hb : s.tableBytes x c (dAddr0 d % 0x400000) 16 = (.ok b, s1)) :
    exec (.cbLoad x c) s = .next ((s1.modCore c fun k =>
      { k with codebooks := k.codebooks.set (descField d 23 18) b }).setPhase x c .done) := by
  change execCbLoad x c s = _
  simp only [execCbLoad, hd, hu, hb]
  rfl

theorem curveLoad_next {s s1 : State} {x c : Nat} {d : BitVec 512} {b : List Byte}
    (hd : s.executing x c 5 .started = some d) (hu : slotInUse (s.core c) (dDim1 d % 16) = false)
    (ha : dAddr0 d % 0x400000 % 64 = 0) (hb : s.tableBytes x c (dAddr0 d % 0x400000) 1024 = (.ok b, s1))
    (hv : curveValid b = true) :
    exec (.curveLoad x c) s = .next ((s1.modCore c fun k =>
      { k with curves := k.curves.set (dDim1 d % 16) b }).setPhase x c .done) := by
  change execCurveLoad x c s = _
  simp only [execCurveLoad, hd, hu, ha, hb, hv]
  rfl

/-! ### A member part completes (R130) -/

theorem toNat_add_one (v : Word32) : (v + 1).toNat = ringNext v.toNat := by
  simp [ringNext, BitVec.toNat_add]

theorem ringNext_ne {j : Nat} : ringNext j ≠ j := by
  unfold ringNext; omega

theorem ringPassed_ringNext {j : Nat} (_ : j < 4294967296) : ringPassed (ringNext j) j = true := by
  have hd : ringDist (ringNext j) j = 1 := by unfold ringDist ringNext; omega
  simp [ringPassed, hd, ringNext_ne]

/-- What passing the command with ring index `j` leaves of a context (R130). -/
def Ctx.passCommand (j now : Nat) (k : Ctx) : Ctx :=
  { k with
    consumer := k.consumer + 1
    completed := satAdd 64 k.completed 1
    descriptors := k.descriptors.dropKeys (· = j)
    skip := k.skip.filter (· ≠ j)
    members := k.members.mapVals fun _ m => if m.next = j then { m with next := ringNext j } else m
    idleSince := if k.consumer + 1 = k.producer then some now else none }

/-- The opcode of the command with ring index `j`, 0 for one that was not fetched. -/
def opcodeAt (k : Ctx) (j : Nat) : Nat := match descriptorAt k j with | some d => dOpcode d | none => 0

theorem completeCommands_succ (s : State) (x fuel : Nat) :
    s.completeCommands x (fuel + 1) =
      if passedBy (s.ctx x) (s.ctx x).consumer.toNat then
        ((s.modCtx x (Ctx.passCommand (s.ctx x).consumer.toNat s.now)).afterCommand x
          (opcodeAt (s.ctx x) (s.ctx x).consumer.toNat)).completeCommands x fuel
      else s := by
  cases h : passedBy (s.ctx x) (s.ctx x).consumer.toNat
  · simp only [State.completeCommands, h]; rfl
  · simp only [State.completeCommands, h]; rfl

theorem afterCommand_eq_self {s : State} {x op : Nat} (h : op ≠ 9) (hd : (s.ctx x).deferredSince = none) :
    s.afterCommand x op = s := by
  simp [State.afterCommand, h, hd]

theorem boundaryEffects_eq_self {s : State} {x : Nat} (hp : (s.ctx x).pendingSeed = none)
    (ha : (s.ctx x).pendingAction = none) : s.boundaryEffects x = s := by
  simp [State.boundaryEffects, hp, ha]

/-- Where only the command at the consumer index is complete, it alone is passed. -/
theorem completeCommands_one {s : State} {x fuel : Nat} {d : BitVec 512}
    (hd : descriptorAt (s.ctx x) (s.ctx x).consumer.toNat = some d) (hop : dOpcode d ≠ 9)
    (hp : passedBy (s.ctx x) (s.ctx x).consumer.toNat = true) (hdef : (s.ctx x).deferredSince = none)
    (hn : descriptorAt (s.ctx x) (ringNext (s.ctx x).consumer.toNat) = none) (hs : (s.ctx x).skip = []) :
    s.completeCommands x (fuel + 2) = s.modCtx x (Ctx.passCommand (s.ctx x).consumer.toNat s.now) := by
  generalize hj : (s.ctx x).consumer.toNat = j at *
  generalize ht : s.modCtx x (Ctx.passCommand j s.now) = t
  have hctx : t.ctx x = Ctx.passCommand j s.now (s.ctx x) := by rw [← ht, State.ctx_modCtx, if_pos rfl]
  have hstop : passedBy (t.ctx x) (t.ctx x).consumer.toNat = false := by
    have hc : (t.ctx x).consumer.toNat = ringNext j := by rw [hctx, ← hj]; exact toNat_add_one _
    have hl : descriptorAt (t.ctx x) (ringNext j) = none := by
      rw [hctx]
      simp only [descriptorAt, Ctx.passCommand] at hn ⊢
      rw [SMap.lookup_dropKeys, hn]
      exact ite_self _
    have hk : (t.ctx x).skip = [] := by rw [hctx]; simp [Ctx.passCommand, hs]
    rw [hc, passedBy, hl, hk]
    rfl
  have hopAt : opcodeAt (s.ctx x) j = dOpcode d := by rw [opcodeAt, hd]
  rw [completeCommands_succ, hj, if_pos hp, ht, hopAt, afterCommand_eq_self hop (by rw [hctx]; exact hdef),
    completeCommands_succ, hstop]
  rfl

theorem passedBy_of_only_member {k : Ctx} {c j : Nat} {d : BitVec 512} (hcls : k.cls = [c])
    (hd : descriptorAt k j = some d) (hm : (memberOf k c).next = ringNext j) (hj : j < 4294967296) :
    passedBy k j = true := by
  simp [passedBy, hd, hcls, hm, ringPassed_ringNext hj]

theorem state_bound_of_starting {s : State} {x c : Nat} (h : s.starting c = some x) : (s.ctx x).state = .bound := by
  unfold State.starting State.startable at h
  split at h
  · simp at h
  · split at h
    · simp at h
    · split at h
      · rename_i hb
        cases h
        simp only [Bool.and_eq_true, decide_eq_true_eq] at hb
        exact hb.1
      · simp at h

/-- Member `c` has gone past its command, and the oldest command of context `x` is complete. -/
def State.partPassed (s : State) (x c : Nat) : State :=
  (s.modMember x c fun m => { next := ringNext m.next, phase := .idle }).modCtx x
    (Ctx.passCommand (s.ctx x).consumer.toNat s.now)

theorem ctx_partPassed (s : State) (x c : Nat) :
    (s.partPassed x c).ctx x = Ctx.passCommand (s.ctx x).consumer.toNat s.now { s.ctx x with
      members := (s.ctx x).members.modify {} c fun m => { next := ringNext m.next, phase := .idle } } := by
  rw [State.partPassed, State.ctx_modCtx, if_pos rfl, State.modMember, State.ctx_modCtx, if_pos rfl]

theorem sameCtxs_partPassed (s : State) (x c : Nat) : sameCtxs x s (s.partPassed x c) := fun y hy => by
  simp [State.partPassed, State.modMember, State.ctx_modCtx, hy]

theorem memberOf_partPassed {s : State} {x c : Nat} (hj : (memberOf (s.ctx x) c).next = (s.ctx x).consumer.toNat) :
    memberOf ((s.partPassed x c).ctx x) c = { next := ringNext (s.ctx x).consumer.toNat, phase := .idle } := by
  have hl : SMap.lookup ((s.ctx x).members.modify ({} : Member) c fun m =>
      { next := ringNext m.next, phase := .idle }).entries c =
      some { next := ringNext (s.ctx x).consumer.toNat, phase := .idle } := by
    rw [SMap.modify, SMap.lookup_set, if_pos rfl, ← hj]; rfl
  rw [ctx_partPassed]
  simp only [memberOf, Ctx.passCommand, SMap.get, SMap.lookup_mapVals, hl, Option.map_some, Option.getD_some]
  exact if_neg ringNext_ne

/-- The only member of a class completes its command, which is the oldest one: the consumer index passes it. -/
theorem memberPartComplete_next {s : State} {x c : Nat} {d : BitVec 512} (hx : s.starting c = some x)
    (hcls : (s.ctx x).cls = [c]) (hd : descriptorAt (s.ctx x) (memberOf (s.ctx x) c).next = some d)
    (hdone : s.partDone c (memberOf (s.ctx x) c) d = true)
    (hj : (memberOf (s.ctx x) c).next = (s.ctx x).consumer.toNat) (hi0 : dFlag d 2 = false) (hi1 : dFlag d 3 = false)
    (hop : dOpcode d ≠ 9) (hn : descriptorAt (s.ctx x) (ringNext (s.ctx x).consumer.toNat) = none)
    (hseed : (s.ctx x).pendingSeed = none) (hact : (s.ctx x).pendingAction = none)
    (hdef : (s.ctx x).deferredSince = none) (hskip : (s.ctx x).skip = []) :
    ∃ g, exec (.memberPartComplete x c) s = .next (({ s with dbg := g } : State).partPassed x c) := by
  obtain ⟨g, hg⟩ := State.slateOnly_only s c 0xF002 x (s.idsOf c) (leBytes 4 (memberOf (s.ctx x) c).next)
  refine ⟨g, ?_⟩
  change execMemberPartComplete x c s = _
  have hinc : s.applyIncs x c d = s := by simp [State.applyIncs, hi0, hi1]
  generalize hv : ({ s with dbg := g } : State) = v at hg
  have hv' : v.ctx x = s.ctx x ∧ v.now = s.now := by rw [← hv]; exact ⟨rfl, rfl⟩
  generalize hu : v.modMember x c (fun m => { next := ringNext m.next, phase := .idle }) = u
  have hctx : u.ctx x = { s.ctx x with
      members := (s.ctx x).members.modify {} c fun m => { next := ringNext m.next, phase := .idle } } := by
    rw [← hu, State.modMember, State.ctx_modCtx, if_pos rfl, hv'.1]
  have hd' : descriptorAt (u.ctx x) (s.ctx x).consumer.toNat = some d := by rw [hctx, ← hj]; exact hd
  have hpass : passedBy (u.ctx x) (s.ctx x).consumer.toNat = true :=
    passedBy_of_only_member (by rw [hctx]; exact hcls) hd' (by rw [hctx, ← hj]; simp [memberOf])
      (s.ctx x).consumer.isLt
  have hc : (u.ctx x).consumer = (s.ctx x).consumer := by rw [hctx]
  have hone : u.completeCommands x 16 = v.partPassed x c := by
    rw [State.partPassed, hu, hv'.1, hv'.2, ← hc, show s.now = u.now by rw [← hu, ← hv'.2]; rfl]
    exact completeCommands_one (by rw [hc]; exact hd') hop (by rw [hc]; exact hpass) (by rw [hctx]; exact hdef)
      (by rw [hctx]; exact hn) (by rw [hctx]; exact hskip)
  have hend : (v.partPassed x c).boundaryEffects x = v.partPassed x c :=
    boundaryEffects_eq_self (by rw [ctx_partPassed, hv'.1]; exact hseed) (by rw [ctx_partPassed, hv'.1]; exact hact)
  have hst : (s.ctx x).state ≠ .faulted := by rw [state_bound_of_starting hx]; decide
  simp [execMemberPartComplete, hd, hx, hdone, hinc, hst, hg, hu, hone, hend]

/-- Settles O2: each command's answer, read through the laws of the update that it makes. -/
theorem dataCommandsRun : Obligations.DataCommandsRun := by
  unfold Obligations.DataCommandsRun
  refine ⟨?_, ?_, ?_, ?_, ?_, ?_⟩
  · intro s s1 s2 s3 x c d h b hd hw hw' hh hg he hb
    refine ⟨_, run_next hd hw hw' hh hg he hb, ?_⟩
    rw [State.core_loadTimetable, length_entriesOf]
    exact ⟨rfl, rfl, rfl, phase_setPhase _ x c .working, sameClusters_loadTimetable s3 x c _ d _,
      sameCtxs_modCtx x _ _, rfl⟩
  · intro s x c d hd hq hs
    refine ⟨_, copy_next hd hq hs, ?_⟩
    rw [State.core_setPhase, State.core_modCore_same]
    exact ⟨rfl, rfl, phase_setPhase _ x c .working, (sameClusters_modCore c s _).setPhase x c _,
      sameCtxs_modCtx x _ _, rfl⟩
  · intro s s1 x c d hd hs
    exact ⟨_, tallySet_next hd hs, phase_setPhase s1 x c .done,
      fun y hy => (sameCtxs_modCtx x s1 _ y hy).trans (State.storeRange_ctx hs y), rfl⟩
  · intro s s1 x c d b hd hu hb
    refine ⟨_, cbLoad_next hd hu hb, ?_⟩
    rw [State.core_setPhase, State.core_modCore_same]
    exact ⟨SMap.get_set_same [] _ _ b, fun n hn => SMap.get_set_ne [] _ hn b,
      phase_setPhase _ x c .done, (sameClusters_modCore c s1 _).setPhase x c _, sameCtxs_modCtx x _ _, rfl⟩
  · intro s s1 x c d b hd hu ha hb hv
    refine ⟨_, curveLoad_next hd hu ha hb hv, ?_⟩
    rw [State.core_setPhase, State.core_modCore_same]
    exact ⟨SMap.get_set_same [] _ _ b, fun n hn => SMap.get_set_ne [] _ hn b,
      phase_setPhase _ x c .done, (sameClusters_modCore c s1 _).setPhase x c _, sameCtxs_modCtx x _ _, rfl⟩
  · intro s x c d hx hcls hd hdone hj hi0 hi1 hop hn hseed hact hdef hskip
    obtain ⟨g, ht⟩ := memberPartComplete_next hx hcls hd hdone hj hi0 hi1 hop hn hseed hact hdef hskip
    have hctx := ctx_partPassed { s with dbg := g } x c
    exact ⟨_, ht, by rw [hctx]; rfl, by rw [hctx]; rfl, memberOf_partPassed (s := { s with dbg := g }) hj,
      sameCtxs_partPassed { s with dbg := g } x c, rfl⟩

end Sys2Proof.Machine

namespace Sys2Proof.Machine

/-! ### What streaming leaves of a state image -/

namespace sameCores

theorem stepData (s : State) (c : Nat) (f : MmaFields) (k : Nat) (r : Requester) :
    sameCores s (s.stepData c f k r).2 := by
  have fetched : ∀ {s s' : State} {a n : Nat} {e : Except Nat (List Byte)}, s.fetch c a n r = (e, s') → sameCores s s' :=
    fun {s s' a n e} h => by
      have := loadRange s (clusterOffset c a) n r
      rwa [show s.loadRange (clusterOffset c a) n r = (e, s') from h] at this
  unfold State.stepData
  split
  · rename_i h; exact fetched h
  · rename_i h1
    split
    · rename_i h2; exact (fetched h1).trans (fetched h2)
    · rename_i h2
      split
      · rename_i h3; exact ((fetched h1).trans (fetched h2)).trans (fetched h3)
      · rename_i h3
        split
        · rename_i h4; exact (((fetched h1).trans (fetched h2)).trans (fetched h3)).trans (fetched h4)
        · rename_i h4; exact (((fetched h1).trans (fetched h2)).trans (fetched h3)).trans (fetched h4)

end sameCores

theorem State.streamRows_mma (s : State) (c : Nat) (f : MmaFields) (r : Requester) (k lo hi : Nat) :
    ((s.streamRows c f r k lo hi).2.core c).mma = (s.core c).mma := by
  have hd := sameCores.stepData s c f k r
  unfold State.streamRows
  split
  · rfl
  · split
    · rename_i he; rw [he] at hd; rw [hd c]
    · rename_i he
      rw [he] at hd
      rw [State.core_modCore_same, hd c]

theorem State.runSteps_mma (s : State) (c : Nat) (f : MmaFields) (r : Requester) (n k lo : Nat) :
    ((s.runSteps c f r n k lo).2.2.core c).mma = (s.core c).mma := by
  induction n generalizing s k lo with
  | zero => rfl
  | succ n ih =>
    have hs := s.streamRows_mma c f r k lo f.rows
    unfold State.runSteps
    split
    · rename_i he; rw [he] at hs; exact hs
    · rename_i he; rw [he] at hs; exact (ih _ _ _).trans hs

/-- A run of K-steps that meets no fault ends after the last of them. -/
theorem runSteps_count {s s' : State} {c : Nat} {f : MmaFields} {r : Requester} {n k lo k' : Nat}
    (h : s.runSteps c f r n k lo = (none, k', s')) : k' = k + n := by
  induction n generalizing s k lo with
  | zero => simp only [State.runSteps, Prod.mk.injEq] at h; omega
  | succ n ih =>
    unfold State.runSteps at h
    split at h
    · simp at h
    · have := ih h; omega

theorem runSteps_one {s s' : State} {c : Nat} {f : MmaFields} {r : Requester} {k : Nat} {d : StepData}
    (hr : 0 < f.rows) (h : s.stepData c f k r = (.ok d, s')) :
    s.runSteps c f r 1 k 0 =
      (none, k + 1, s'.modCore c fun q => { q with acc := mmaRows f (codebook q f.set) k d 0 f.rows q.acc }) := by
  simp [State.runSteps, State.streamRows, h, Nat.not_le.mpr hr]

theorem streamRows_empty (s : State) (c : Nat) (f : MmaFields) (r : Requester) (k : Nat) {lo hi : Nat} (h : hi ≤ lo) :
    s.streamRows c f r k lo hi = (none, s) := if_pos h

/-! ### MMA (R51, R60, R90) -/

/-- The ME's bookkeeping before rows stream: the half's width, the latency that the handshakes overlap, and the counts of
running time (R49, R51, R56). -/
def State.meCounted (s : State) (c : Nat) (f : MmaFields) (hs ns portWait : Nat) : State :=
  ((s.modCore c fun k => { setWidth k f with mmaDone := k.mmaDone.map (overlapTail hs) }).panelsRan c hs
    (governed hs ns)).bump c 0x120 48 portWait

/-- The handshakes of `n` finished K-steps and `p` further rows of MMA `m`, with those of first weights (R51). -/
def mmaHandshakes (k : Core) (m : RunningOp) (n p : Nat) : Nat :=
  (if m.progress = 0 ∧ m.rows = 0 ∧ (k.mmaDone.all fun o => o.finished) = true then 64 else 0) +
    n * stepHandshakes (mmaFields m.op.word) - (if n = 0 then 0 else partHandshakes (mmaFields m.op.word) m.rows) +
    partHandshakes (mmaFields m.op.word) p

theorem State.meCounted_mma (s : State) (c : Nat) (f : MmaFields) (hs ns portWait : Nat) :
    ((s.meCounted c f hs ns portWait).core c).mma = (s.core c).mma := by
  rw [State.meCounted, State.core_bump, (countsAt.panelsRan c _ hs (governed hs ns)).cores c, State.core_modCore_same, setWidth]
  split <;> rfl

/-- Where an MMA stands after its K-steps and rows: it goes on, or makes place for the next (R51). -/
def mmaStreamed (f : MmaFields) (m : RunningOp) (k rows : Nat) (q : Core) : Core :=
  if k < f.steps then onOp q m.op.seq fun o => some { o with progress := k, rows := rows }
  else { q with mma := none, mmaDone := q.mmaDone ++ [{ m with progress := k, rows := 0 }] }

theorem mmaStreamed_acc (f : MmaFields) (m : RunningOp) (k rows : Nat) (q : Core) :
    (mmaStreamed f m k rows q).acc = q.acc := by
  unfold mmaStreamed; split <;> rfl

theorem mma_next {s s2 s3 : State} {x c steps rows ns portWait n p k : Nat} {m : RunningOp}
    (hx : s.workingMe c = some x) (hm : (s.core c).mma = some m) (hp : s.paused c = false)
    (hw : mmaWaits (s.core c) m.op = false)
    (hst : s.streamable c (mmaFields m.op.word) m steps rows = (n, p)) (hnp : n ≠ 0 ∨ p ≠ 0) {s1 : State}
    (h1 : s1 = s.meCounted c (mmaFields m.op.word) (mmaHandshakes (s.core c) m n p) ns portWait)
    (h2 : s1.runSteps c (mmaFields m.op.word) (s1.requesterAt x c) n m.progress m.rows = (none, k, s2))
    (h3 : s2.streamRows c (mmaFields m.op.word) (s1.requesterAt x c) k (if n = 0 then m.rows else 0)
      ((if n = 0 then m.rows else 0) + p) = (none, s3)) :
    exec (.mma c ⟨steps, rows⟩ ns portWait) s = .next (s3.modCore c
      (mmaStreamed (mmaFields m.op.word) m k ((if n = 0 then m.rows else 0) + p))) := by
  change execMma c ⟨steps, rows⟩ ns portWait s = _
  have hgo : (s.paused c || mmaWaits (s.core c) m.op || (decide (n = 0) && decide (p = 0))) = false := by
    rw [hp, hw]
    rcases hnp with h | h <;> simp [h]
  have hhs : mmaHandshakes (s.core c) m n p =
      (if (decide (m.progress = 0) && decide (m.rows = 0) && (s.core c).mmaDone.all fun o => o.finished) = true then 64
        else 0) + n * stepHandshakes (mmaFields m.op.word) -
        (if n = 0 then 0 else partHandshakes (mmaFields m.op.word) m.rows) + partHandshakes (mmaFields m.op.word) p := by
    simp [mmaHandshakes, and_assoc]
  rw [hhs] at h1
  subst h1
  simp only [execMma, hx, hm, hst, hgo]
  rw [State.meCounted] at h2 h3
  simp only [Bool.false_eq_true, if_false, h2, h3]
  rfl


theorem workingMe_of_startingMe {s : State} {x c : Nat} (h : s.startingMe c = some x) : s.workingMe c = some x := by
  unfold State.startingMe State.startable at h
  split at h
  · simp at h
  · rename_i hw
    split at h
    · rw [hw]; exact h
    · simp at h

/-- A member that may start work streams a whole K-step (R61). -/
theorem streamable_one {s : State} {x c : Nat} {f : MmaFields} {m : RunningOp} (hx : s.startingMe c = some x)
    (hk : m.progress < f.steps) : s.streamable c f m 1 0 = (1, 0) := by
  have hn : min 1 (f.steps - m.progress) = 1 := by omega
  simp [State.streamable, hx, hn]

/-! ### MMA_COMPLETE and DRAIN (R51, R52, R97) -/

theorem mmaComplete_next {s : State} {x c ns : Nat} {m : RunningOp} (hx : s.workingMe c = some x)
    (hm : (s.core c).mmaDone.find? (fun q => !q.finished) = some m) :
    exec (.mmaComplete ⟨c, ns⟩) s = .next (((if 72 - m.tail = 0 then s
        else s.panelsRan c (72 - m.tail) (governed (72 - m.tail) ns)).modCore c fun k =>
      finishOp { k with mmaDone := k.mmaDone.map (overlapTail (72 - m.tail)) } m.op.seq).bump c 0x140 32 1) := by
  change execMmaComplete ⟨c, ns⟩ s = _
  simp only [execMmaComplete, hx, hm]

theorem Cluster.count_counters_ne (k : Cluster) (b : Bool) {id j : Nat} (w n : Nat) (h : j ≠ id) :
    (k.count b id w n).counters.get 0 j = k.counters.get 0 j := by
  unfold Cluster.count
  split
  · exact SMap.get_modify_ne 0 0 _ h _
  · rfl

/-- The state that the running DRAIN leaves once its elements are stored: they are counted, and its half is written. -/
def State.drainWritten (s s1 : State) (c : Nat) (d : RunningOp) : State :=
  let f := drainFields d.op.word
  (s1.noteConversions c .me d.op.word (atAddresses f.fmt f.dest (drainElems (s.core c) f))).modCore c fun k =>
    advanceOp k d.op.seq 1

theorem drain_next {s s1 : State} {x c : Nat} {d : RunningOp} (hx : s.working c = some x)
    (hd : (s.core c).drain = some d) (hp : d.progress = 0)
    (hs : s.storeRange (clusterOffset c (drainFields d.op.word).dest) (packElems (drainFields d.op.word).fmt
      ((drainElems (s.core c) (drainFields d.op.word)).map (·.bits))) (s.requesterAt x c) = (none, s1)) :
    exec (.drain c) s = .next (s.drainWritten s1 c d) := by
  change execDrain c s = _
  simp only [execDrain, hx, hd, hp, State.writeElems, hs]
  rfl

theorem State.core_drainWritten (s : State) {s1 : State} {c : Nat} {d : RunningOp} (h : sameCores s s1) :
    (s.drainWritten s1 c d).core c = advanceOp (s.core c) d.op.seq 1 := by
  rw [State.drainWritten, State.core_modCore_same, (countsAt.noteConversions c s1 _ _ _).cores c, h c]

theorem drainComplete_next {s : State} {x c : Nat} {d : RunningOp} (hx : s.working c = some x)
    (hd : (s.core c).drain = some d) (hp : d.progress ≠ 0) (hf : d.finished = false) :
    exec (.drainComplete c) s = .next ((s.modCore c fun k => finishOp k d.op.seq).bump c 0x140 32 1) := by
  change execDrainComplete c s = _
  simp only [execDrainComplete, hx, hd, hp, hf]
  rfl

/-- Settles O5: streaming leaves the running MMA and all but its half's accumulators; a DRAIN changes memory only by its
store. -/
theorem matrixEngineRuns : Obligations.MatrixEngineRuns := by
  unfold Obligations.MatrixEngineRuns
  refine ⟨?_, ?_, ?_, ?_, ?_⟩
  · intro s s1 s2 s3 x c steps rows ns portWait n p k hs lo m hx hm hp hw hst hnp hlo hhs h1 h2 h3
    subst hlo hhs
    have hmma : (s3.core c).mma = some m := by
      have hm2 := s1.runSteps_mma c (mmaFields m.op.word) (s1.requesterAt x c) n m.progress m.rows
      have hm3 := s2.streamRows_mma c (mmaFields m.op.word) (s1.requesterAt x c) k (if n = 0 then m.rows else 0)
        ((if n = 0 then m.rows else 0) + p)
      rw [h2] at hm2
      rw [h3] at hm3
      rw [hm3, hm2, h1]
      exact (s.meCounted_mma c _ _ ns portWait).trans hm
    refine ⟨_, mma_next hx hm hp hw hst hnp h1 h2 h3, runSteps_count h2, ?_⟩
    rw [State.core_modCore_same]
    refine ⟨mmaStreamed_acc _ m k _ _, fun hk => ?_, fun hk => ?_, rfl, sameClusters_modCore c s3 _, rfl⟩
    · rw [mmaStreamed, if_pos hk, onOp, hmma, changeIf, if_pos rfl]
    · rw [mmaStreamed, if_neg hk]
      exact ⟨rfl, rfl⟩
  · intro s s1 s2 x c ns portWait hs m d hx hm hp hw hr hk hrows hhs h1 hd
    have hhs' : hs = mmaHandshakes (s.core c) m 1 0 := by
      simp [hhs, mmaHandshakes, hr, partHandshakes]
    rw [hhs'] at h1
    have h2 := runSteps_one hrows hd
    have hnext := mma_next (workingMe_of_startingMe hx) hm hp hw (streamable_one hx hk) (Or.inl one_ne_zero) h1
      (by rw [hr]; exact h2) (streamRows_empty _ _ _ _ _ (by simp))
    refine ⟨_, hnext, ?_, rfl, (sameClusters_modCore c s2 _).trans (sameClusters_modCore c _ _), rfl⟩
    rw [State.core_modCore_same, mmaStreamed_acc, State.core_modCore_same]
  · intro s s1 x c ns m hx hm h1
    have hc : countsAt c s s1 := by
      rw [h1]
      split
      · exact countsAt.refl c s
      · exact countsAt.panelsRan c s _ _
    have hcore : ((s1.modCore c fun k => finishOp { k with mmaDone := k.mmaDone.map (overlapTail (72 - m.tail)) }
        m.op.seq).bump c 0x140 32 1).core c =
        finishOp { s.core c with mmaDone := (s.core c).mmaDone.map (overlapTail (72 - m.tail)) } m.op.seq := by
      rw [State.core_bump, State.core_modCore_same, hc.cores c]
    have honly : ∃ k, s1 = { s with clusters := k } := by
      rw [h1]
      split
      · exact ⟨_, rfl⟩
      · exact State.panelsRan_only s c _ _
    refine ⟨_, by rw [mmaComplete_next hx hm, ← h1], hcore, by rw [hcore]; rfl, ?_, ?_, ?_⟩
    · rw [State.bump, State.cluster_modCluster_same, Cluster.count_counters_ne _ _ _ _ (by decide), State.modCore,
        State.cluster_modCluster_same]
    · exact (hc.others.trans (sameClusters_modCore c s1 _)).trans (sameClusters_bump c _ _ _ _)
    · obtain ⟨k, hk⟩ := honly
      rw [hk]; rfl
  · intro s s1 x c d hx hd hp hs
    have hsame := sameCores.storeRange s (clusterOffset c (drainFields d.op.word).dest) (packElems
      (drainFields d.op.word).fmt ((drainElems (s.core c) (drainFields d.op.word)).map (·.bits))) (s.requesterAt x c)
    rw [hs] at hsame
    obtain ⟨k, g, hn⟩ := State.noteConversions_only s1 c .me d.op.word (atAddresses (drainFields d.op.word).fmt
      (drainFields d.op.word).dest (drainElems (s.core c) (drainFields d.op.word)))
    refine ⟨_, drain_next hx hd hp hs, ?_, ?_, ?_, ?_, ?_⟩
    · rw [State.core_drainWritten s hsame, advanceOp, onOp, hd, changeIf, if_pos rfl]
    · rw [State.core_drainWritten s hsame]; rfl
    · rw [State.drainWritten, hn]; rfl
    · exact (countsAt.noteConversions c s1 _ _ _).others.trans (sameClusters_modCore c _ _)
    · rw [State.drainWritten, hn]; rfl
  · intro s x c d hx hd hp hf
    have hcore : ((s.modCore c fun k => finishOp k d.op.seq).bump c 0x140 32 1).core c = finishOp (s.core c) d.op.seq := by
      rw [State.core_bump, State.core_modCore_same]
    refine ⟨_, drainComplete_next hx hd hp hf, ?_, hcore,
      (sameClusters_modCore c s _).trans (sameClusters_bump c _ _ _ _), rfl⟩
    rw [hcore, finishOp, onOp, hd, changeIf, if_pos rfl]

end Sys2Proof.Machine

namespace Sys2Proof.Machine

/-! ### Elements written to memory, and the end of an operation's work -/

theorem writeElems_stored {s s1 : State} {x c : Nat} {e : Engine} {o : QueuedOp} {fmt dest : Nat} {cs : List Conversion}
    (h : s.storeRange (clusterOffset c dest) (packElems fmt (cs.map (·.bits))) (s.requesterAt x c) = (none, s1)) :
    s.writeElems x c e o fmt dest cs = (none, s1.noteConversions c e o.word (atAddresses fmt dest cs)) := by
  rw [State.writeElems, h]

/-- An operation of a clocked engine is finished, after its conversions were counted. -/
def State.opWritten (s : State) (c : Nat) (e : Engine) (o : QueuedOp) (cs : List (Nat × Conversion)) : State :=
  (s.noteConversions c e o.word cs).modCore c fun k => finishOp k o.seq

/-- What the end of an operation's work changes: the operation, and counters and slate records. -/
theorem opWritten_frame (s : State) (c : Nat) (e : Engine) (o : QueuedOp) (cs : List (Nat × Conversion)) :
    (s.opWritten c e o cs).core c = finishOp (s.core c) o.seq ∧ (s.opWritten c e o cs).memory = s.memory ∧
    sameClusters c s (s.opWritten c e o cs) ∧
    s.opWritten c e o cs = { s with clusters := (s.opWritten c e o cs).clusters, dbg := (s.opWritten c e o cs).dbg } := by
  have hc := countsAt.noteConversions c s e o.word cs
  obtain ⟨k, g, hn⟩ := State.noteConversions_only s c e o.word cs
  refine ⟨?_, ?_, hc.others.trans (sameClusters_modCore c _ _), ?_⟩
  · rw [State.opWritten, State.core_modCore_same, hc.cores c]
  · rw [State.opWritten, hn]; rfl
  · rw [State.opWritten, hn]; rfl

/-! ### The vector engine (R62, R95) -/

section
variable {s s1 s2 s3 : State} {x c : Nat} {m : RunningOp} {op : VeOp} {a b d : List Word32}

/-- The lanes of operand `i` of a VE operation, none where its kind takes fewer operands. -/
def State.veOperand (s : State) (c : Nat) (op : VeOp) (i : Nat) (o : VeOperand) (r : Requester) :
    Except Nat (List Word32) × State :=
  if i ≤ VeKind.arity op.kind then s.veLanes c op.fmtIn op.count o r else (.ok [], s)

/-- The conversions that a VE operation with a register destination counts (R109). -/
def veRegFlags (op : VeOp) (res : List Word32) : List (Nat × Conversion) :=
  match op.kind with
  | .convert => (res.map (storeLane op.kind (isPlainFloat op.fmtIn) op.fmtOut)).map fun q => (0, q)
  | k => if rawResult k || !isPlainFloat op.fmtIn then [] else res.map fun w => (0, asWritten fp32 w.toNat)

theorem State.core_veWriteReg (s : State) (c v : Nat) (l : List Word32) :
    (s.veWriteReg c v l).core c = { s.core c with
      veRegs := (l.mapIdx fun i w => (i, w)).foldl (fun t p => t.set (v * 128 + p.1 % 128) p.2) (s.core c).veRegs } :=
  State.core_modCore_same s c _

theorem veOp_next_reg {v : Nat} (hx : s.working c = some x) (hm : (s.core c).ve = some m) (hr : m.op.reading = .ve op)
    (hf : m.finished = false) (h1 : s.veOperand c op 1 op.a (s.requesterAt x c) = (.ok a, s1))
    (h2 : s1.veOperand c op 2 op.b (s.requesterAt x c) = (.ok b, s2))
    (h3 : s2.veOperand c op 3 op.c (s.requesterAt x c) = (.ok d, s3)) (hd : op.d = .reg v) :
    exec (.veOp c) s = .next ((s3.veWriteReg c v ((veResults op a b d).map
      (registerLane op.kind (isPlainFloat op.fmtIn) op.fmtOut))).opWritten c .ve m.op
        (veRegFlags op (veResults op a b d))) := by
  change execVeOp c s = _
  simp only [State.veOperand] at h1 h2 h3
  simp only [execVeOp, hx, hm, hr, hf, h1, h2, h3, hd]
  rfl

theorem veOp_next_mem {v : Nat} {s4 : State} (hx : s.working c = some x) (hm : (s.core c).ve = some m)
    (hr : m.op.reading = .ve op) (hf : m.finished = false)
    (h1 : s.veOperand c op 1 op.a (s.requesterAt x c) = (.ok a, s1))
    (h2 : s1.veOperand c op 2 op.b (s.requesterAt x c) = (.ok b, s2))
    (h3 : s2.veOperand c op 3 op.c (s.requesterAt x c) = (.ok d, s3)) (hd : op.d = .mem v)
    {cs : List Conversion} (hcs : cs = (veResults op a b d).map (storeLane op.kind (isPlainFloat op.fmtIn) op.fmtOut))
    (h4 : s3.storeRange (clusterOffset c v) (packElems op.fmtOut (cs.map (·.bits))) (s3.requesterAt x c) = (none, s4)) :
    exec (.veOp c) s = .next (s4.opWritten c .ve m.op (atAddresses op.fmtOut v cs)) := by
  change execVeOp c s = _
  simp only [State.veOperand] at h1 h2 h3
  subst hcs
  simp only [execVeOp, hx, hm, hr, hf, h1, h2, h3, hd, writeElems_stored h4]
  rfl

end

/-! ### The activation, transpose and quantisation engines (R77, R97, R105) -/

theorem aeOp_next {s s1 s2 : State} {x c : Nat} {m : RunningOp} {op : AeOp} {d : List Byte}
    (hx : s.working c = some x) (hm : (s.core c).ae = some m) (hr : m.op.reading = .ae op) (hf : m.finished = false)
    (h1 : s.fetch c op.source (elemBytes op.fmtIn op.count) (s.requesterAt x c) = (.ok d, s1))
    {cs : List Conversion} (hcs : cs = (List.range op.count).map fun i => convertElem op.fmtOut .nearestEven
      (curveEval (curveSlot (s.core c) op.slot) (decodeElem op.fmtIn [] (elemAt op.fmtIn d i))))
    (h2 : s1.storeRange (clusterOffset c op.dest) (packElems op.fmtOut (cs.map (·.bits))) (s1.requesterAt x c) =
      (none, s2)) :
    exec (.aeOp c) s = .next (s2.opWritten c .ae m.op (atAddresses op.fmtOut op.dest cs)) := by
  change execAeOp c s = _
  subst hcs
  simp only [execAeOp, hx, hm, hr, hf, h1, writeElems_stored h2]
  rfl

theorem xeOp_next {s s1 s2 : State} {x c : Nat} {m : RunningOp} {op : XeOp} {d : List Byte}
    (hx : s.working c = some x) (hm : (s.core c).xe = some m) (hr : m.op.reading = .xe op) (hf : m.finished = false)
    (h1 : s.fetch c op.source (xeBytes op) (s.requesterAt x c) = (.ok d, s1))
    (h2 : s1.storeRange (clusterOffset c op.dest) (xeResult op d) (s1.requesterAt x c) = (none, s2)) :
    exec (.xeOp c) s = .next (s2.modCore c fun k => finishOp k m.op.seq) := by
  change execXeOp c s = _
  simp only [execXeOp, hx, hm, hr, hf, h1, h2]
  rfl

/-- The scale bytes and elements that a QE operation writes from the bytes that it read (R97 to R102). -/
def State.qeWrites (s : State) (c : Nat) (op : QeOp) (d scales : List Byte) : List Nat × List Conversion :=
  qeOutputs op (codebook (s.core c) op.set)
    (if qeStochastic (s.core c) op then
      some (drawAt (drawKey (s.core c).seed (s.idsOf c).step c ((s.core c).opn - 1))) else none)
    (qeInputs op (codebook (s.core c) op.set) d scales)

theorem qeOp_next {s s1 s2 s3 s4 s5 : State} {x c : Nat} {m : RunningOp} {op : QeOp} {d e : List Byte}
    (hx : s.working c = some x) (hm : (s.core c).qe = some m) (hr : m.op.reading = .qe op) (hf : m.finished = false)
    (h1 : s.fetch c op.source (elemBytes op.fmtIn op.count) (s.requesterAt x c) = (.ok d, s1))
    (h2 : s1.fetch c op.sourceScales (if isScaled op.fmtIn then op.count / 32 else 0) (s.requesterAt x c) = (.ok e, s2))
    (h3 : s2.storeRange (clusterOffset c op.dest) (packElems op.fmtOut ((s.qeWrites c op d e).2.map (·.bits)))
      (s2.requesterAt x c) = (none, s3))
    (h4 : s4 = (s3.noteConversions c .qe m.op.word (atAddresses op.fmtOut op.dest (s.qeWrites c op d e).2)).bump c 0x230 32
      (((s.qeWrites c op d e).1.filter (· = 0xFF)).length))
    (h5 : s4.storeRange (clusterOffset c op.destScales) ((s.qeWrites c op d e).1.map fun v => BitVec.ofNat 8 v)
      (s.requesterAt x c) = (none, s5)) :
    exec (.qeOp c) s = .next (s5.modCore c fun k => finishOp k m.op.seq) := by
  change execQeOp c s = _
  subst h4
  have hw := writeElems_stored (e := .qe) (o := m.op) h3
  simp only [State.qeWrites] at hw h5
  simp only [execQeOp, hx, hm, hr, hf, h1, h2, hw, h5]
  rfl

/-! ### The gather engine and the copy engine (R65, R66) -/

theorem geIndices_count {s s' : State} {x c seq n i i' : Nat} {op : GeOp}
    (h : s.geIndices x c seq op n i = (none, i', s')) : i' = i + n := by
  induction n generalizing s i with
  | zero => simp only [State.geIndices, Prod.mk.injEq] at h; omega
  | succ n ih =>
    unfold State.geIndices at h
    split at h
    · simp at h
    · have := ih h; omega

/-- How many of the indices that a command names a GE operation applies (R65, R66). -/
def State.geCount (s : State) (c indices : Nat) (m : RunningOp) (op : GeOp) : Nat :=
  min (if (s.starting c).isSome then indices else min indices (if m.progress % 16 = 0 then 0 else 16 - m.progress % 16))
    (op.count - m.progress)

theorem geOp_next {s s1 : State} {x c indices i : Nat} {m : RunningOp} {op : GeOp} (hx : s.working c = some x)
    (hm : (s.core c).ge = some m) (hr : m.op.reading = .ge op)
    (h : s.geIndices x c m.op.seq op (s.geCount c indices m op) m.progress = (none, i, s1)) :
    exec (.geOp c indices) s = .next (s1.modCore c fun k =>
      if i = op.count then finishOp (advanceOp k m.op.seq i) m.op.seq else advanceOp k m.op.seq i) := by
  change execGeOp c indices s = _
  rw [State.geCount] at h
  simp only [execGeOp, hx, hm, hr, h]

section
variable {s s1 s2 : State} {x c place bytes : Nat} {m : RunningOp} {op : CeOp}

/-- A copy that may go on, with bytes left to move, is past the checks of CE_COPY. -/
theorem ceCopy_goes_on (hgo : (s.starting c).isSome = true ∨ m.progress % 4096 ≠ 0) :
    ((s.starting c).isNone && decide (m.progress % 4096 = 0)) = false := by
  rcases hgo with h | h
  · rw [Option.isNone_eq_false_iff.mpr h]; rfl
  · simp [h]

theorem ceCopy_next {d : List Byte} (hx : s.working c = some x) (hm : (s.core c).copies[place]? = some m)
    (hr : m.op.reading = .ce op) (hgo : (s.starting c).isSome = true ∨ m.progress % 4096 ≠ 0)
    (hn : 0 < min bytes (copyPiece op m.progress)) (hp : m.progress < copyBytes op)
    (h1 : s.engineLoad x c .ce (copyAddress op op.source m.progress) (min bytes (copyPiece op m.progress))
      (.copyRead m.op.seq m.progress) = (.ok (some d), s1))
    (h2 : s1.copyOut x c m op m.progress d = (none, s2)) :
    exec (.ceCopy c place bytes) s = .next (s2.modCore c fun k =>
      advanceOp k m.op.seq (m.progress + min bytes (copyPiece op m.progress))) := by
  change execCeCopy c place bytes s = _
  simp [execCeCopy, hx, hm, hr, ceCopy_goes_on hgo, hn.ne', hp.not_ge, h1, h2]

theorem ceCopy_next_remote (hx : s.working c = some x) (hm : (s.core c).copies[place]? = some m)
    (hr : m.op.reading = .ce op) (hgo : (s.starting c).isSome = true ∨ m.progress % 4096 ≠ 0)
    (hn : 0 < min bytes (copyPiece op m.progress)) (hp : m.progress < copyBytes op)
    (h1 : s.engineLoad x c .ce (copyAddress op op.source m.progress) (min bytes (copyPiece op m.progress))
      (.copyRead m.op.seq m.progress) = (.ok none, s1)) :
    exec (.ceCopy c place bytes) s = .next (s1.modCore c fun k =>
      advanceOp k m.op.seq (m.progress + min bytes (copyPiece op m.progress))) := by
  change execCeCopy c place bytes s = _
  simp [execCeCopy, hx, hm, hr, ceCopy_goes_on hgo, hn.ne', hp.not_ge, h1]

end

/-- Settles O6: every operation reads its operands, makes its stores, and marks its progress in the image of its cluster. -/
theorem clockedEnginesRun : Obligations.ClockedEnginesRun := by
  unfold Obligations.ClockedEnginesRun
  refine ⟨?_, ?_, ?_, ?_, ?_, ?_, ?_, ?_⟩
  · intro s s1 s2 s3 x c v m op a b d hx hm hr hf h1 h2 h3 hd
    obtain ⟨hcore, hmem, hcl, honly⟩ := opWritten_frame (s3.veWriteReg c v ((veResults op a b d).map
      (registerLane op.kind (isPlainFloat op.fmtIn) op.fmtOut))) c .ve m.op (veRegFlags op (veResults op a b d))
    rw [State.core_veWriteReg] at hcore
    exact ⟨_, veOp_next_reg hx hm hr hf h1 h2 h3 hd, by rw [hcore]; rfl, by rw [hcore]; rfl, hmem,
      (sameClusters_modCore c s3 _).trans hcl, honly⟩
  · intro s s1 s2 s3 s4 x c v m op a b d hx hm hr hf h1 h2 h3 hd h4
    exact ⟨_, veOp_next_mem hx hm hr hf h1 h2 h3 hd rfl (by rw [List.map_map]; exact h4), opWritten_frame s4 c .ve m.op _⟩
  · intro s s1 s2 x c m op d hx hm hr hf h1 h2
    exact ⟨_, aeOp_next hx hm hr hf h1 rfl (by rw [List.map_map]; exact h2), opWritten_frame s2 c .ae m.op _⟩
  · intro s s1 s2 x c m op d hx hm hr hf h1 h2
    exact ⟨_, xeOp_next hx hm hr hf h1 h2, State.core_modCore_same s2 c _, rfl, sameClusters_modCore c s2 _, rfl⟩
  · intro s s1 s2 s3 s4 s5 x c m op d e hx hm hr hf h1 h2 h3 h4 h5
    exact ⟨_, qeOp_next hx hm hr hf h1 h2 h3 h4 h5, State.core_modCore_same s5 c _, rfl, sameClusters_modCore c s5 _, rfl⟩
  · intro s s1 x c indices n i m op hx hm hr hn h
    subst hn
    refine ⟨_, geOp_next hx hm hr h, geIndices_count h, ?_, ?_, rfl, rfl, sameClusters_modCore c s1 _, rfl⟩
    · exact fun hi => by rw [State.core_modCore_same, if_neg (Nat.ne_of_lt hi)]
    · exact fun hi => by rw [State.core_modCore_same, if_pos hi]
  · intro s s1 s2 x c place bytes n m op d hx hm hr hgo hn hpos hp h1 h2
    subst hn
    exact ⟨_, ceCopy_next hx hm hr hgo hpos hp h1 h2, State.core_modCore_same s2 c _, rfl, rfl,
      sameClusters_modCore c s2 _, rfl⟩
  · intro s s1 x c place bytes n m op hx hm hr hgo hn hpos hp h1
    subst hn
    exact ⟨_, ceCopy_next_remote hx hm hr hgo hpos hp h1, State.core_modCore_same s1 c _, rfl, rfl,
      sameClusters_modCore c s1 _, rfl⟩

end Sys2Proof.Machine

namespace Sys2Proof.Machine

/-! ### A request that a tower takes in (R141, R289) -/

/-- Whether a port can send depends on the port engines alone. -/
theorem State.sends_congr {s t : State} (h : t.domain = s.domain) (o : Output) : t.sends o = s.sends o := by
  have hport : t.port = s.port := by funext p; rw [State.port, State.port, h]
  have hroom : t.portRoom = s.portRoom := by
    funext p vc n
    rw [State.portRoom, State.portRoom, hport, State.portRole, State.portRole, h]
  rw [State.sends, State.sends, hport, hroom]

theorem wire_reply_sent {s : State} {p : Nat} {r : Reply} (hd : (s.port p).state ≠ .down)
    (hs : s.sends (.reply p r) = true) : ∃ k, s.wire (.reply p r) =
      { s with domain := k, control := { s.control with wire := s.control.wire ++ [.reply p r] } } := by
  simp only [State.wire, portFlits, if_neg hd, hs, if_true]
  exact ⟨_, rfl⟩

theorem answerPeer_wires {s : State} {p : Nat} (q : Req) (a : Answer) (hl : (s.port p).state ≠ .lost) :
    ∃ e, s.answerPeer p q a = ({ s with domain := { s.domain with replies := e } } : State).wire
      (.reply p (responseTo q a)) := by
  unfold State.answerPeer
  extract_lets r d s1
  by_cases hc : (!carriesRid q.op) = true
  · have h1 : s1 = s := if_pos hc
    rw [h1, if_neg hl]
    exact ⟨s.domain.replies, rfl⟩
  · have h1 : ∃ e, s1 = ({ s with domain := { s.domain with replies := e } } : State) := ⟨_, if_neg hc⟩
    obtain ⟨e, h1⟩ := h1
    rw [h1]
    exact ⟨e, if_neg hl⟩

/-- The answer to a peer's request leaves on its port, when the port can send (R274, R289). -/
theorem answerOrigin_sent {s : State} {p : Nat} {r : Req} {a : Answer} (ho : r.origin = .peer p)
    (hl : (s.port p).state ≠ .lost) (hd : (s.port p).state ≠ .down) (hs : s.sends (.reply p (responseTo r a)) = true) :
    ∃ k, s.answerOrigin r a = { s with
      domain := k, control := { s.control with wire := s.control.wire ++ [.reply p (responseTo r a)] } } := by
  obtain ⟨e, he⟩ := answerPeer_wires r a hl
  rw [State.answerOrigin, ho]
  simp only [he]
  exact wire_reply_sent (s := { s with domain := { s.domain with replies := e } }) hd hs

/-- What a tower does with a request that it takes in for cluster `c` (R141, R340). -/
def State.takeRequest (s : State) (r : Req) (c : Nat) : Result :=
  let t := requestTower r
  let stopped := (s.die (0x10 + t)).state ≠ .ready && (s.die (0x10 + t)).state ≠ .fencing
  let p := s.performRequest r (s.originRequester r)
  if (s.deliveryOf r.ctx c = .stall || stopped) && s.holdFull t r then .next (s.withhold t)
  else if stopped then .next (s.holdRequest t r)
  else .next (if p.1 = .stalled then p.2 else p.2.answerOrigin r p.1)

theorem inboundRequest_eq (r : Req) (s : State) : exec (.inboundRequest r) s = s.takeRequest r (clusterFor r) := rfl

theorem inboundRequest_answered {s s1 : State} {r : Req} {a : Answer}
    (hdie : (s.die (0x10 + requestTower r)).state = .ready) (hd : s.deliveryOf r.ctx (clusterFor r) ≠ .stall)
    (h : s.performRequest r (s.originRequester r) = (a, s1)) (ha : a ≠ .stalled) :
    exec (.inboundRequest r) s = .next (s1.answerOrigin r a) := by
  rw [inboundRequest_eq]
  simp [State.takeRequest, hdie, hd, h, ha]

/-- A request that its context's state stalls is held at its tower while the hold buffer has room (R141). -/
theorem inboundRequest_held {s : State} {r : Req} {b : Nat}
    (hdie : (s.die (0x10 + clusterFor r / 200)).state = .ready) (ht : clusterFor r / 200 = requestTower r)
    (hop : isAtomic r.op = false)
    (hpop : r.op = 0x22 ∨ s.extentPopulated r.addr (max 1 (max r.len r.data.length)) = true)
    (hpl : r.op = 0x22 ∨ placeOf r.addr = .cluster (clusterFor r) b) (hd : s.deliveryOf r.ctx (clusterFor r) = .stall)
    (hlost : (s.ctx r.ctx).clusterLost = false)
    (hroom : sumOf holdBytes (s.tower (clusterFor r / 200)).hold + holdBytes r ≤ 262144) :
    exec (.inboundRequest r) s = .next (s.modTower (clusterFor r / 200) fun k => { k with hold := k.hold ++ [r] }) := by
  have hfull : s.holdFull (clusterFor r / 200) r = false := by
    rw [State.holdFull, decide_eq_false_iff_not]; omega
  have haccess : s.clusterAccess (clusterFor r) r (s.originRequester r) =
      (.stalled, s.modTower (clusterFor r / 200) fun k => { k with hold := k.hold ++ [r] }) := by
    simp [State.clusterAccess, hlost, hd, State.holdRequest, hfull]
  have hperform : s.performRequest r (s.originRequester r) =
      (.stalled, s.modTower (clusterFor r / 200) fun k => { k with hold := k.hold ++ [r] }) := by
    rw [State.performRequest, hop]
    by_cases h22 : r.op = 0x22
    · have hc : clusterFor r = refCluster r.ref := if_pos h22
      rw [← haccess, hc]
      simp [h22]
    · have hp := hpop.resolve_left h22
      rw [← haccess]
      simp [h22, hpl.resolve_left h22, hp]
  rw [ht] at hdie hfull hperform ⊢
  rw [inboundRequest_eq]
  simp [State.takeRequest, hdie, hfull, hperform]

/-! ### Requests on the mesh, and increments of a tally (R71, R72, R126) -/

section
variable {s : State}

theorem State.countMesh_only (a b n : Nat) : ∃ k, s.countMesh a b n = { s with clusters := k } := by
  unfold State.countMesh
  induction meshRoute a b generalizing s with
  | nil => exact ⟨s.clusters, rfl⟩
  | cons l ls ih => obtain ⟨k, h⟩ := ih (s := s.bump l.1 (0x180 + l.2) 48 (ceilDiv n 64)); exact ⟨k, h⟩

theorem placeFor_memory (x off : Nat) : s.placeFor x off .memory = off := by
  unfold State.placeFor
  split
  · contradiction
  · rfl

/-- A plain request for a bound context's cluster is performed in place: no stop, bell or loss holds it (R141). -/
theorem clusterAccess_plain {c : Nat} {q : Req} (r : Requester) (hd : s.deliveryOf q.ctx c = .memory)
    (hlost : (s.ctx q.ctx).clusterLost = false) (hz : (s.region (zoneOf c)).stopped = false)
    (hb : s.bellHolds q.op = false) (hop : q.op ≠ 0x22) :
    s.clusterAccess c q r = s.plainAccess q.op q.addr (if q.op = 0x20 then q.len else q.data.length) q.data r := by
  simp [State.clusterAccess, hlost, hd, hb, hz, hop, placeFor_memory, State.countImage]

/-- A tally increment for a bound context's cluster is added in place (R126). -/
theorem clusterAccess_tally {s1 : State} {c : Nat} {q : Req} {r : Requester} (hd : s.deliveryOf q.ctx c = .memory)
    (hlost : (s.ctx q.ctx).clusterLost = false) (hz : (s.region (zoneOf c)).stopped = false) (hb : s.belled = false)
    (hop : q.op = 0x22) (h : s.addWord (refOffset q.ref c) q.refAmt r = (none, s1)) :
    s.clusterAccess c q r = (.ack, s1) := by
  simp [State.clusterAccess, hlost, hd, State.bellHolds, hb, hz, hop, placeFor_memory, State.countImage, h]

theorem plainAccess_load {s1 : State} {off n : Nat} {d data : List Byte} {r : Requester}
    (h : s.loadRange off n r = (.ok d, s1)) : s.plainAccess 0x20 off n data r = (.data d, s1) := by
  simp [State.plainAccess, h]

theorem plainAccess_store {s1 : State} {op off n : Nat} {data : List Byte} {r : Requester} (hop : op ≠ 0x20)
    (h : s.storeRange off data r = (none, s1)) : s.plainAccess op off n data r = (.ack, s1) := by
  simp [State.plainAccess, hop, h]

theorem addWord_stored {s1 s2 : State} {off amount : Nat} {r : Requester} {b : List Byte}
    (h1 : s.loadRange off 4 r = (.ok b, s1)) (h2 : s1.storeRange off (leBytes 4 (leNat b + amount)) r = (none, s2)) :
    s.addWord off amount r = (none, s2) := by
  rw [State.addWord, h1]; exact h2

theorem State.bound_countMesh (a b n c : Nat) : ((s.countMesh a b n).cluster c).bound = (s.cluster c).bound := by
  unfold State.countMesh
  induction meshRoute a b generalizing s with
  | nil => rfl
  | cons l ls ih => exact ih.trans (State.bound_bump s _ _ _ _ c)

theorem deliveryOf_countMesh (x c a b n : Nat) : (s.countMesh a b n).deliveryOf x c = s.deliveryOf x c := by
  have hb := State.bound_countMesh (s := s) a b n c
  have hx : (s.countMesh a b n).ctx x = s.ctx x := by simp [State.ctx]
  simp only [State.deliveryOf, hb, hx]

end

theorem meshAccess_ack {s s1 : State} {src c n : Nat} {q : Req} {r : Requester} (hop : q.op ≠ 0x20)
    (hd : s.deliveryOf q.ctx c = .memory) (hn : (if q.op = 0x22 then 4 else q.data.length) = n)
    (h : (s.countMesh src c n).clusterAccess c q r = (.ack, s1)) : s.meshAccess src c q r = (.ack, s1) := by
  simp [State.meshAccess, hop, hd, hn, h]

theorem meshAccess_read {s s1 : State} {src c : Nat} {q : Req} {r : Requester} {d : List Byte} (hop : q.op = 0x20)
    (hd : s.deliveryOf q.ctx c = .memory) (h : s.clusterAccess c q r = (.data d, s1)) :
    s.meshAccess src c q r = (.data d, s1.countMesh c src d.length) := by
  simp [State.meshAccess, hop, hd, h]

section
variable {s s1 s2 : State} {r : MeshRequest} (hd : s.deliveryOf r.ctx r.dst = .memory)
  (hlost : (s.ctx r.ctx).clusterLost = false) (hz : (s.region (zoneOf r.dst)).stopped = false)
include hd hlost hz

/-- Counting on the links changes nothing that an access to the destination depends on. -/
theorem counted_conditions (n : Nat) : (s.countMesh r.src r.dst n).deliveryOf r.ctx r.dst = .memory ∧
    ((s.countMesh r.src r.dst n).ctx r.ctx).clusterLost = false ∧
    ((s.countMesh r.src r.dst n).region (zoneOf r.dst)).stopped = false ∧
    (s.countMesh r.src r.dst n).belled = s.belled := by
  obtain ⟨k, hk⟩ := State.countMesh_only (s := s) r.src r.dst n
  have hd' := deliveryOf_countMesh (s := s) r.ctx r.dst r.src r.dst n
  rw [hk] at hd' ⊢
  exact ⟨hd'.trans hd, hlost, hz, rfl⟩

theorem meshRequest_write {d : List Byte} (hk : r.kind = .write d) (hb : s.belled = false)
    (h : (s.countMesh r.src r.dst d.length).storeRange (clusterOffset r.dst (r.address % 0x400000)) d
      (s.requesterAt r.srcCtx r.src) = (none, s1)) : exec (.meshRequest r) s = .next s1 := by
  obtain ⟨hd', hlost', hz', hb'⟩ := counted_conditions hd hlost hz d.length
  have hm : s.meshAccess r.src r.dst { blankReq with
      origin := .member r.srcCtx r.src
      ctx := r.ctx
      op := 0x60
      addr := clusterOffset r.dst (r.address % 0x400000)
      data := d } (s.requesterAt r.srcCtx r.src) = (.ack, s1) :=
    meshAccess_ack (by simp) hd (n := d.length) (by simp) ((clusterAccess_plain _ hd' hlost' hz' (by rw [State.bellHolds, hb', hb]; rfl)
      (by simp)).trans (plainAccess_store (by simp) h))
  change execMeshRequest r s = _
  simp only [execMeshRequest, hk, hm]

theorem meshRequest_read {n : Nat} {d : List Byte} (hk : r.kind = .read n)
    (h : s.loadRange (clusterOffset r.dst (r.address % 0x400000)) n (s.requesterAt r.srcCtx r.src) = (.ok d, s1)) :
    exec (.meshRequest r) s = .next (s1.countMesh r.dst r.src d.length) := by
  have hm : s.meshAccess r.src r.dst { blankReq with
      origin := .member r.srcCtx r.src
      ctx := r.ctx
      op := 0x20
      addr := clusterOffset r.dst (r.address % 0x400000)
      len := n } (s.requesterAt r.srcCtx r.src) = (.data d, s1.countMesh r.dst r.src d.length) :=
    meshAccess_read rfl hd ((clusterAccess_plain _ hd hlost hz (by simp [State.bellHolds]) (by simp)).trans
      (plainAccess_load h))
  change execMeshRequest r s = _
  simp only [execMeshRequest, hk, hm]

theorem meshRequest_tally {n amt : Nat} {ref : BitVec 24} (hk : r.kind = .tally n amt) (hb : s.belled = false)
    (hr : ref = BitVec.ofNat 24 (n % 256 + r.dst * 256 + 63 * 262144))
    (h : (s.countMesh r.src r.dst 4).addWord (refOffset ref r.dst) amt (s.requesterAt r.srcCtx r.src) = (none, s1)) :
    exec (.meshRequest r) s = .next s1 := by
  obtain ⟨hd', hlost', hz', hb'⟩ := counted_conditions hd hlost hz 4
  subst hr
  have hm : s.meshAccess r.src r.dst { blankReq with
      origin := .member r.srcCtx r.src
      ctx := r.ctx
      op := 0x22
      ref := BitVec.ofNat 24 (n % 256 + r.dst * 256 + 63 * 262144)
      refAmt := amt } (s.requesterAt r.srcCtx r.src) = (.ack, s1) :=
    meshAccess_ack (by simp) hd (by simp) (clusterAccess_tally hd' hlost' hz' (hb'.trans hb) rfl h)
  change execMeshRequest r s = _
  simp only [execMeshRequest, hk, hm]

end

/-! ### TALLY_INCREMENT (R126) -/

/-- The reference that names tally `n` of cluster `c` on this device gives back both (R127). -/
theorem refOffset_own {c n : Nat} (hc : c < 800) :
    refOffset (BitVec.ofNat 24 (n % 256 + c * 256 + 63 * 262144)) c = clusterOffset c (tallyAddress (n % 256)) := by
  have hv : (BitVec.ofNat 24 (n % 256 + c * 256 + 63 * 262144)).toNat = n % 256 + c * 256 + 63 * 262144 := by
    rw [BitVec.toNat_ofNat, Nat.mod_eq_of_lt (by omega)]
  have hcl : refCluster (BitVec.ofNat 24 (n % 256 + c * 256 + 63 * 262144)) = c := by
    rw [refCluster, hv, bitsOf]; norm_num; omega
  have htl : refTally (BitVec.ofNat 24 (n % 256 + c * 256 + 63 * 262144)) = n % 256 := by
    rw [refTally, hv, bitsOf]; norm_num; omega
  rw [refOffset, hcl, htl, if_neg (by omega)]

theorem tallyIncrement_next {s s1 : State} {c x n amt : Nat} (hc : c < 800) (hx : (s.cluster c).bound = some x)
    (hd : s.deliveryOf x c = .memory) (hlost : (s.ctx x).clusterLost = false)
    (hz : (s.region (zoneOf c)).stopped = false) (hb : s.belled = false)
    (h : s.addWord (clusterOffset c (tallyAddress (n % 256))) amt {} = (none, s1)) :
    exec (.tallyIncrement c n amt) s = .next s1 := by
  change execTallyIncrement c n amt s = _
  simp only [execTallyIncrement, hx]
  rw [clusterAccess_tally (s1 := s1) hd hlost hz hb rfl]
  rw [tallyRequest, refOffset_own hc]
  exact h

/-! ### Loads (R88) -/

theorem SMap.insertEntry_insertEntry {α : Type} (k : Nat) (v : α) (l : List (Nat × α)) :
    SMap.insertEntry k v (SMap.insertEntry k v l) = SMap.insertEntry k v l := by
  induction l with
  | nil => simp [SMap.insertEntry]
  | cons e l ih =>
    obtain ⟨j, w⟩ := e
    by_cases h1 : k < j
    · simp [SMap.insertEntry, h1]
    · by_cases h2 : k = j
      · simp [SMap.insertEntry, h2]
      · simp [SMap.insertEntry, h1, h2, ih]

theorem loadInto_loadInto (k : Core) (kind n : Nat) (d : List Byte) :
    loadInto (loadInto k kind n d) kind n d = loadInto k kind n d := by
  unfold loadInto SMap.set
  split <;> simp only [SMap.insertEntry_insertEntry]

/-- A load brings its image into the codebook set or the curve slot that it names, and changes nothing of the other kind. -/
theorem loadInto_tables (k : Core) (kind n : Nat) (d : List Byte) :
    (kind = 0 → (loadInto k kind n d).codebooks.get [] n = d ∧ (loadInto k kind n d).curves = k.curves) ∧
    (kind ≠ 0 → (loadInto k kind n d).curves.get [] n = d ∧ (loadInto k kind n d).codebooks = k.codebooks) := by
  refine ⟨fun h => ?_, fun h => ?_⟩
  · rw [loadInto, if_pos h]; exact ⟨SMap.get_set_same [] _ n d, rfl⟩
  · rw [loadInto, if_neg h]; exact ⟨SMap.get_set_same [] _ n d, rfl⟩

/-- A change that is the same done twice reaches every cluster of a list once, and no other cluster. -/
theorem cluster_foldl_modCore {g : Core → Core} (hg : ∀ k, g (g k) = g k) (l : List Nat) (s : State) (c : Nat) :
    (l.foldl (fun s c => s.modCore c g) s).cluster c =
      if c ∈ l then { s.cluster c with core := g (s.cluster c).core } else s.cluster c := by
  induction l generalizing s with
  | nil => rfl
  | cons a l ih =>
    rw [List.foldl_cons, ih, State.modCore, State.cluster_modCluster]
    by_cases h : c = a
    · subst h
      by_cases hl : c ∈ l <;> simp [hl, hg]
    · by_cases hl : c ∈ l <;> simp [hl, h]

theorem foldl_modCore_only (g : Core → Core) (l : List Nat) (s : State) :
    ∃ k, l.foldl (fun s c => s.modCore c g) s = { s with clusters := k } := by
  induction l generalizing s with
  | nil => exact ⟨s.clusters, rfl⟩
  | cons a l ih => obtain ⟨k, h⟩ := ih (s.modCore a g); exact ⟨k, h⟩

/-- The images of the clusters in a list, each changed by `g`. -/
def State.modImages (s : State) (x : Nat) (l : List Nat) (g : Core → Core) : State :=
  l.foldl (fun s c => { s with memory := { s.memory with cores := s.memory.cores.modify {} (s.imageOf x c) g } }) s

theorem modImages_only (s : State) (x : Nat) (l : List Nat) (g : Core → Core) :
    ∃ k, s.modImages x l g = { s with memory := { s.memory with cores := k } } := by
  unfold State.modImages
  induction l generalizing s with
  | nil => exact ⟨s.memory.cores, rfl⟩
  | cons a l ih => obtain ⟨k, h⟩ := ih _; exact ⟨k, h⟩

theorem modImages_get {g : Core → Core} (hg : ∀ k, g (g k) = g k) (s : State) (x : Nat) (l : List Nat) (a : Nat) :
    (s.modImages x l g).memory.cores.get {} a =
      if ∃ c ∈ l, s.imageOf x c = a then g (s.memory.cores.get {} a) else s.memory.cores.get {} a := by
  unfold State.modImages
  induction l generalizing s with
  | nil => simp
  | cons b l ih =>
    rw [List.foldl_cons, ih]
    have himg : ∀ c, State.imageOf { s with memory := { s.memory with
        cores := s.memory.cores.modify {} (s.imageOf x b) g } } x c = s.imageOf x c := fun _ => rfl
    simp only [himg, SMap.get_modify]
    by_cases h : s.imageOf x b = a
    · by_cases hl : ∃ c ∈ l, s.imageOf x c = a <;> simp [hl, h, hg]
    · by_cases hl : ∃ c ∈ l, s.imageOf x c = a <;> simp [hl, h, Ne.symm h]

/-- What a load that has been applied leaves in the loader's entries (R88, R420). -/
def State.loaderDone (s : State) (x kind n : Nat) (d : List Byte) : State :=
  (((((({ s with load := none } : State).setReg 0x630001 x).setReg 0x630002 kind).setReg 0x630003 n).setBlob 0x630004
    d).setReg 0x630005 0).countReg 0x630006 32 1

theorem loaderDone_entries (s : State) (x kind n : Nat) (d : List Byte) :
    (s.loaderDone x kind n d).load = none ∧ (s.loaderDone x kind n d).reg 0x630001 = x ∧
    (s.loaderDone x kind n d).reg 0x630002 = kind ∧ (s.loaderDone x kind n d).reg 0x630003 = n ∧
    (s.loaderDone x kind n d).blob 0x630004 = d ∧ (s.loaderDone x kind n d).reg 0x630005 = 0 ∧
    (s.loaderDone x kind n d).reg 0x630006 = satAdd 32 (s.reg 0x630006) 1 := by
  simp [State.loaderDone, State.reg, State.blob, SMap.get_set]

theorem loaderDone_only (s : State) (x kind n : Nat) (d : List Byte) :
    ∃ r b, s.loaderDone x kind n d = { s with load := none, regs := r, blobs := b } := ⟨_, _, rfl⟩

theorem loaderCommit_next {s : State} (hl : s.load = none)
    (hst : s.loaderStatus (s.shadow 0x630001) (s.shadow 0x630002) (s.shadow 0x630003) (s.blobShadow 0x630004) = 0) :
    exec (.loaderCommit 1) s = .next (({ s with
      load := some (s.shadow 0x630001, s.shadow 0x630002, s.shadow 0x630003, s.blobShadow 0x630004) } : State).setReg
        0x630005 1) := by
  change execLoaderCommit 1 s = _
  simp [execLoaderCommit, State.loaderCommit, hl, hst]

theorem loaderApply_bound {s : State} {x kind n : Nat} {d : List Byte} (hl : s.load = some (x, kind, n, d))
    (hst : (s.ctx x).state = .bound) (hb : commandBoundary (s.ctx x) = true) :
    exec .loaderApply s = .next (((s.ctx x).cls.foldl (fun s c => s.modCore c fun q => loadInto q kind n d) s).loaderDone
      x kind n d) := by
  change execLoaderApply s = _
  simp [execLoaderApply, hl, hst, hb, State.loaderDone]

theorem loaderApply_image {s : State} {x kind n : Nat} {d : List Byte} (hl : s.load = some (x, kind, n, d))
    (hst : (s.ctx x).state = .parked ∨ (s.ctx x).state = .held ∨
      (s.ctx x).state = .faulted ∧ (s.ctx x).holds = false)
    (hw : (s.ctx x).cls.any (fun c => loadWaits (s.memory.cores.get {} (s.imageOf x c)) kind n) = false) :
    exec .loaderApply s = .next ((s.modImages x (s.ctx x).cls fun q => loadInto q kind n d).loaderDone x kind n d) := by
  change execLoaderApply s = _
  rcases hst with h | h | ⟨h, hh⟩
  · simp only [execLoaderApply, hl, h, hw]; rfl
  · simp only [execLoaderApply, hl, h, hw]; rfl
  · simp only [execLoaderApply, hl, h, hh, hw]; rfl

/-! ### Seeds (R103) -/

/-- One seed of a commit: one that is in force already stays. -/
def State.commitSeed (s : State) (e : Nat × Word64) : State := if s.seedOf e.1 = e.2 then s else s.applySeed e.1 e.2

theorem applySeed_seeds (s : State) (x : Nat) (v : Word64) : (s.applySeed x v).seeds = s.seeds.set x v := by
  unfold State.applySeed
  extract_lets k s1 s2
  split
  · rfl
  · split
    · exact (State.boundaryEffects_kept s2 x).2.2.2.2.2.2.2.2.1
    · rfl

theorem seedOf_commitSeed (s : State) (x : Nat) (v : Word64) (y : Nat) :
    (s.commitSeed (x, v)).seedOf y = if y = x then v else s.seedOf y := by
  unfold State.commitSeed
  split
  · rename_i h
    by_cases hy : y = x
    · rw [if_pos hy, hy]; exact h
    · rw [if_neg hy]
  · rw [State.seedOf, applySeed_seeds, SMap.get_set]; rfl

/-- After a list of seeds, each context of the list has the seed that a table `f` gives it. -/
theorem seedOf_foldl_commitSeed (f : Nat → Word64) (l : List Nat) (s : State) (y : Nat) :
    ((l.map fun x => (x, f x)).foldl State.commitSeed s).seedOf y = if y ∈ l then f y else s.seedOf y := by
  induction l generalizing s with
  | nil => rfl
  | cons a l ih =>
    rw [List.map_cons, List.foldl_cons, ih, seedOf_commitSeed]
    by_cases h : y = a
    · subst h; simp
    · simp [h]

theorem arithmeticCommit_next {s : State} (hl : (s.blobShadow 0x620001).length = 8192) :
    exec (.arithmeticCommit 1) s =
      .next ((seedsOf (s.blobShadow 0x620001)).foldl State.commitSeed (s.setBlob 0x620001 (s.blobShadow 0x620001))) := by
  change execArithmeticCommit 1 s = _
  rw [execArithmeticCommit, State.arithmeticCommit, if_neg (by decide), if_neg (by rw [hl]; decide)]
  have hstep : (fun (s : State) (e : Nat × Word64) => if s.seedOf e.1 = e.2 then s else s.applySeed e.1 e.2) =
      State.commitSeed := rfl
  simp only [hstep]

theorem applySeed_only (s : State) (x : Nat) (v : Word64) :
    ∃ c d y k, s.applySeed x v = { s with clusters := c, seeds := d, ctxs := y, coll := k } := by
  have h := State.applySeed_kept s x v
  refine ⟨(s.applySeed x v).clusters, (s.applySeed x v).seeds, (s.applySeed x v).ctxs, (s.applySeed x v).coll, ?_⟩
  generalize s.applySeed x v = t at h ⊢
  cases t
  simp_all

theorem commitSeed_only (s : State) (e : Nat × Word64) :
    ∃ c d x k, s.commitSeed e = { s with clusters := c, seeds := d, ctxs := x, coll := k } := by
  unfold State.commitSeed
  split
  · exact ⟨_, _, _, _, rfl⟩
  · exact applySeed_only s e.1 e.2

theorem foldl_commitSeed_only (l : List (Nat × Word64)) (s : State) :
    ∃ c d x k, l.foldl State.commitSeed s = { s with clusters := c, seeds := d, ctxs := x, coll := k } := by
  induction l generalizing s with
  | nil => exact ⟨_, _, _, _, rfl⟩
  | cons e l ih =>
    obtain ⟨c, d, x, k, h⟩ := commitSeed_only s e
    obtain ⟨c', d', x', k', h'⟩ := ih (s.commitSeed e)
    exact ⟨c', d', x', k', by rw [List.foldl_cons, h', h]⟩

/-- Settles O21: a request is answered or held by its context's state, a mesh access is its load or store, and a load or
a seed reaches exactly the clusters, images and contexts that it names. -/
theorem requestsReachClusters : Obligations.RequestsReachClusters := by
  unfold Obligations.RequestsReachClusters
  refine ⟨?_, ?_, ?_, ?_, ?_, ?_, ?_, ?_, ?_, ?_⟩
  · intro s s1 p r a hdie hd h ha ho hl hdown hs
    have hdom : s1.domain = s.domain := (congrArg (·.2.domain) h).symm.trans (by simp)
    have hport : s1.port p = s.port p := by rw [State.port, State.port, hdom]
    have hs1 : s1.sends (.reply p (responseTo r a)) = true := by rw [State.sends_congr hdom, hs]
    obtain ⟨k, hk⟩ := answerOrigin_sent (a := a) ho (by rw [hport]; exact hl) (by rw [hport]; exact hdown) hs1
    refine ⟨_, inboundRequest_answered hdie hd h ha, ?_⟩
    rw [hk]
    exact ⟨rfl, rfl, rfl, rfl, rfl⟩
  · intro s c b r hdie hc ht hop hpop hpl hd hlost hroom
    subst hc
    refine ⟨_, inboundRequest_held hdie ht hop hpop hpl hd hlost hroom, ?_, rfl, rfl⟩
    simp [State.tower]
  · intro s s1 r d hd hlost hz hk hb h
    exact ⟨_, meshRequest_write hd hlost hz hk hb h, rfl⟩
  · intro s s1 r n d hd hlost hz hk h
    exact ⟨_, meshRequest_read hd hlost hz hk h, rfl⟩
  · intro s s1 s2 r n amt ref b hd hlost hz hk hb href h1 h2
    exact ⟨_, meshRequest_tally hd hlost hz hk hb href (addWord_stored h1 h2), rfl⟩
  · intro s s1 s2 c x n amt b hc hx hd hlost hz hb h1 h2
    exact ⟨_, tallyIncrement_next hc hx hd hlost hz hb (addWord_stored h1 h2), rfl⟩
  · intro s hl hst
    exact ⟨_, loaderCommit_next hl hst, rfl, SMap.get_set_same _ _ _ _, rfl⟩
  · intro s x kind n d hl hst hb
    have hcl := cluster_foldl_modCore (g := fun q => loadInto q kind n d)
      (fun k => loadInto_loadInto k kind n d) (s.ctx x).cls s
    obtain ⟨k, hk⟩ := foldl_modCore_only (fun q => loadInto q kind n d) (s.ctx x).cls s
    refine ⟨_, loaderApply_bound hl hst hb, ?_⟩
    generalize (s.ctx x).cls.foldl (fun s c => s.modCore c fun q => loadInto q kind n d) s = u at hcl hk
    obtain ⟨h0, h1, h2, h3, h4, h5, h6⟩ := loaderDone_entries u x kind n d
    have hreg : u.reg 0x630006 = s.reg 0x630006 := by rw [hk]; rfl
    have hcluster : ∀ c, (u.loaderDone x kind n d).cluster c = u.cluster c := fun _ => rfl
    refine ⟨h0, h1, h2, h3, h4, h5, by rw [h6, hreg], fun c hc => ?_, fun c hc => ?_, ?_⟩
    · rw [State.core, hcluster, hcl, if_pos hc]
      exact loadInto_tables _ kind n d
    · rw [hcluster, hcl, if_neg hc]
    · rw [hk]; rfl
  · intro s x kind n d hl hst hw
    have hget := modImages_get (g := fun q => loadInto q kind n d) (fun k => loadInto_loadInto k kind n d) s x (s.ctx x).cls
    obtain ⟨k, hk⟩ := modImages_only s x (s.ctx x).cls fun q => loadInto q kind n d
    refine ⟨_, loaderApply_image hl hst hw, ?_⟩
    generalize s.modImages x (s.ctx x).cls (fun q => loadInto q kind n d) = u at hget hk
    obtain ⟨h0, h1, h2, h3, h4, h5, h6⟩ := loaderDone_entries u x kind n d
    have hreg : u.reg 0x630006 = s.reg 0x630006 := by rw [hk]; rfl
    have hcores : (u.loaderDone x kind n d).memory = u.memory := rfl
    refine ⟨h0, h1, h2, h3, h4, h5, by rw [h6, hreg], fun c hc hkind => ?_, by rw [hk]; rfl, by rw [hk]; rfl⟩
    rw [hcores, hget, if_pos ⟨c, hc, rfl⟩]
    exact ((loadInto_tables _ kind n d).1 hkind).1
  · intro s hl
    obtain ⟨c, d, x, k, ht⟩ := foldl_commitSeed_only (seedsOf (s.blobShadow 0x620001))
      (s.setBlob 0x620001 (s.blobShadow 0x620001))
    refine ⟨_, arithmeticCommit_next hl, fun x hx => ?_, by rw [ht]; rfl, by rw [ht]; rfl⟩
    rw [seedsOf, seedOf_foldl_commitSeed (fun x => BitVec.ofNat 64 (field (s.blobShadow 0x620001) (8 * x) 8)),
      if_pos (List.mem_range.mpr hx)]

end Sys2Proof.Machine

/-! PROOF. O34: budgets, the power manager's step, the pacing of cache dies, core supplies, reef pauses and rate windows
(R56, R58, R387 to R395). -/

namespace Sys2Proof.Machine

/-! ### Holders and the package budget (R387 to R389) -/

section
variable {s : State}

@[simp] theorem State.holder_modHolder_same (s : State) (h : Nat) (f : Holder → Holder) :
    (s.modHolder h f).holder h = f (s.holder h) := by
  rw [State.holder, State.modHolder_package, SMap.get_set_same]

theorem State.serveAsks_nil (h : s.package.asks = []) : s.serveAsks = s := by
  rw [State.serveAsks, h]
  rfl

theorem State.toPool_of_asks_nil (h : s.package.asks = []) (n : Nat) : s.toPool n = s.setPool (s.package.pool + n) :=
  State.serveAsks_nil h

@[simp] theorem State.lowerCompute_zero (s : State) (cut : Bool) (r : Nat) : s.lowerCompute 0 cut r = (0, s) := by
  cases r with
  | zero => rfl
  | succ r => simp [State.lowerCompute]

theorem foldl_takeStep_zero (l : List Nat) (s : State) : l.foldl takeStep (0, s) = (0, s) := by
  induction l with
  | nil => rfl
  | cons h l ih =>
    have hstep : takeStep (0, s) h = (0, s) := by simp [takeStep]
    rw [List.foldl_cons, hstep, ih]

@[simp] theorem State.takeFreeing_zero (s : State) : s.takeFreeing 0 = s :=
  congrArg Prod.snd (foldl_takeStep_zero _ s)

/-- A pending budget with nothing still to be cut takes effect (R387). -/
theorem State.budgetSettles_of_uncut {b : Nat} (hb : s.package.budgetPending = some b)
    (hc : s.package.holders.entries.all (fun e => e.2.cutting = 0) = true) :
    s.budgetSettles = { s with
      regs := (s.regs.set 0x200001 b).set 0x200004 0, commits := s.commits.erase 0x20,
      package := { s.package with budgetPending := none } } := by
  have hany : (s.package.holders.entries.any fun e => 0 < e.2.cutting) = false := by
    rw [List.all_eq_true] at hc
    rw [List.any_eq_false]
    intro e he
    have := hc e he
    simp only [decide_eq_true_eq] at this ⊢
    omega
  simp only [State.budgetSettles, hb, hany]
  rfl

theorem applyBudget_raised {w : Nat} (hc : s.package.holders.entries.all (fun e => e.2.cutting = 0) = true)
    (h : s.packageBudget ≤ w) (ha : s.package.asks = []) :
    s.applyBudget w = { s with
      regs := (s.regs.set 0x200001 w).set 0x200004 0, commits := s.commits.erase 0x20,
      package := { s.package with
        budgetPending := none, pool := s.package.pool + 1000 * (w - s.packageBudget) } } := by
  have hdiff : 1000 * w - 1000 * s.packageBudget = 1000 * (w - s.packageBudget) := by omega
  rw [State.applyBudget, if_pos (by omega), hdiff]
  refine Eq.trans (congrArg (State.toPool · _) (State.budgetSettles_of_uncut (b := w) rfl hc)) ?_
  refine Eq.trans (State.toPool_of_asks_nil ?_ _) rfl
  exact ha

theorem applyBudget_lowered {w : Nat} (hc : s.package.holders.entries.all (fun e => e.2.cutting = 0) = true)
    (h : w < s.packageBudget) (hp : 1000 * (s.packageBudget - w) ≤ s.package.pool) :
    s.applyBudget w = { s with
      regs := ((s.regs.set 0x200004 1).set 0x200001 w).set 0x200004 0
      commits := (0x20 :: s.commits.erase 0x20).erase 0x20
      package := { s.package with
        budgetPending := none, pool := s.package.pool - 1000 * (s.packageBudget - w) } } := by
  have hdiff : 1000 * s.packageBudget - 1000 * w = 1000 * (s.packageBudget - w) := by omega
  have hgive : Nat.min (1000 * (s.packageBudget - w)) s.package.pool = 1000 * (s.packageBudget - w) := Nat.min_eq_left hp
  rw [State.applyBudget, if_neg (by omega), hdiff]
  simp only [hgive, Nat.sub_self, State.lowerCompute_zero, State.takeFreeing_zero]
  exact State.budgetSettles_of_uncut (b := w) rfl hc

theorem powerCommit_accepted (hb : s.commitPending 0x20 = false) (hg : s.budgetShadow ≤ s.gradeLimit)
    (hf : s.budgetFloor ≤ 1000 * s.budgetShadow) : exec (.powerCommit 1) s = .next (s.applyBudget s.budgetShadow) := by
  change execPowerCommit 1 s = _
  simp [execPowerCommit, State.powerCommitOp, hb, Nat.not_lt.mpr hg, Nat.not_lt.mpr hf]

theorem powerCommit_aboveGrade (hb : s.commitPending 0x20 = false) (hg : s.gradeLimit < s.budgetShadow) :
    exec (.powerCommit 1) s = .next (s.setReg 0x200004 2) := by
  change execPowerCommit 1 s = _
  simp [execPowerCommit, State.powerCommitOp, hb, hg]

theorem powerCommit_belowFloor (hb : s.commitPending 0x20 = false) (hg : s.budgetShadow ≤ s.gradeLimit)
    (hf : 1000 * s.budgetShadow < s.budgetFloor) : exec (.powerCommit 1) s = .next (s.setReg 0x200004 3) := by
  change execPowerCommit 1 s = _
  simp [execPowerCommit, State.powerCommitOp, hb, Nat.not_lt.mpr hg, hf]

theorem not_mem_commits (h : s.commitPending 0x20 = false) : 0x20 ∉ s.commits := by
  simpa [State.commitPending] using h

end

/-! ### Reef levels (R392) -/

section
variable (s : State)

/-- One zone of the review of reef levels. -/
def State.reefStep (s : State) (z : Nat) : State :=
  let l := Nat.max (s.thermalLevel z) (s.powerLevelOf (z / 8))
  if l = s.appliedLevel z then s
  else { s with thermal := { s.thermal with applied := s.thermal.applied.set z l } }.countReg 0x201302 64 1

theorem State.reefReview_eq : s.reefReview = (List.range 32).foldl State.reefStep s := rfl

theorem State.reefStep_only (z : Nat) :
    ∃ a r, s.reefStep z = { s with thermal := { s.thermal with applied := a }, regs := r } := by
  unfold State.reefStep
  extract_lets l
  split
  · exact ⟨_, _, rfl⟩
  · exact ⟨_, _, rfl⟩

theorem State.appliedLevel_reefStep (z k : Nat) :
    (s.reefStep z).appliedLevel k =
      if k = z then Nat.max (s.thermalLevel z) (s.powerLevelOf (z / 8)) else s.appliedLevel k := by
  unfold State.reefStep
  extract_lets l
  split
  case isTrue h =>
    by_cases hk : k = z
    · rw [if_pos hk, hk]; exact h.symm
    · rw [if_neg hk]
  case isFalse => exact SMap.get_set 0 s.thermal.applied k z l

theorem State.foldl_reefStep_only (l : List Nat) :
    ∃ a r, l.foldl State.reefStep s = { s with thermal := { s.thermal with applied := a }, regs := r } := by
  induction l generalizing s with
  | nil => exact ⟨_, _, rfl⟩
  | cons z l ih =>
    obtain ⟨a, r, h⟩ := s.reefStep_only z
    obtain ⟨a', r', h'⟩ := ih (s.reefStep z)
    exact ⟨a', r', by rw [List.foldl_cons, h', h]⟩

theorem State.appliedLevel_foldl_reefStep (l : List Nat) (k : Nat) :
    (l.foldl State.reefStep s).appliedLevel k =
      if k ∈ l then Nat.max (s.thermalLevel k) (s.powerLevelOf (k / 8)) else s.appliedLevel k := by
  induction l generalizing s with
  | nil => rfl
  | cons z l ih =>
    obtain ⟨a, r, h⟩ := s.reefStep_only z
    have hth : (s.reefStep z).thermalLevel = s.thermalLevel := by rw [h]; rfl
    have hpw : (s.reefStep z).powerLevelOf = s.powerLevelOf := by rw [h]; rfl
    rw [List.foldl_cons, ih, hth, hpw, State.appliedLevel_reefStep]
    by_cases hk : k = z
    · subst hk; simp
    · simp [hk]

theorem State.setPowerLevel_only (t l : Nat) : ∃ a r, s.setPowerLevel t l = { s with
    thermal := { s.thermal with powerLevel := s.thermal.powerLevel.set t l, applied := a }, regs := r } := by
  rw [State.setPowerLevel, State.reefReview_eq]
  exact State.foldl_reefStep_only _ _

@[simp] theorem State.powerLevelOf_setPowerLevel (t l : Nat) : (s.setPowerLevel t l).powerLevelOf t = l := by
  obtain ⟨a, r, h⟩ := s.setPowerLevel_only t l
  rw [h]
  exact SMap.get_set_same 0 _ t l

/-- After a die's power level is set, each of its zones is at the higher of its thermal level and that level. -/
theorem State.appliedLevel_setPowerLevel {t z : Nat} (l : Nat) (ht : t < 4) (hz : z < 8) :
    (s.setPowerLevel t l).appliedLevel (8 * t + z) = Nat.max (s.thermalLevel (8 * t + z)) l := by
  have hdie : (8 * t + z) / 8 = t := by omega
  rw [State.setPowerLevel, State.reefReview_eq, State.appliedLevel_foldl_reefStep,
    if_pos (List.mem_range.mpr (by omega)), hdie]
  exact congrArg (Nat.max _) (SMap.get_set_same 0 s.thermal.powerLevel t l)

end

/-! ### Clock regions (R366, R391, R395) -/

section
variable (s : State)

theorem State.region_modRegion_ne {j k : Nat} (h : j ≠ k) (f : Clock → Clock) :
    (s.modRegion k f).region j = s.region j := by
  simp only [State.region, State.modRegion_clocks, SMap.get_set_ne _ _ h]

/-- A clock put in place of region `k`'s: with another target it begins a slew from where the region stands (R366). -/
def State.slewed (s : State) (k : Nat) (c : Clock) : Clock :=
  if c.target = (s.region k).target then c else { c with present := s.frequency k, slewAt := s.now }

theorem State.region_modRegion_same (k : Nat) (f : Clock → Clock) :
    (s.modRegion k f).region k = s.slewed k (f (s.region k)) :=
  SMap.get_set_same (defaultClock k) s.clocks.regions k _

theorem State.slewed_congr {s t : State} {k : Nat} (hr : t.region k = s.region k) (hn : t.now = s.now) (c : Clock) :
    t.slewed k c = s.slewed k c := by
  rw [State.slewed, State.slewed, State.frequency, State.frequency, hr, hn]

/-- Besides where a slew begins, the clock is as it was given. -/
theorem State.slewed_eq (k : Nat) (c : Clock) :
    s.slewed k c = { c with present := (s.slewed k c).present, slewAt := (s.slewed k c).slewAt } := by
  unfold State.slewed
  split <;> rfl

/-- A clock that stands where the region stands has the region's frequency of the moment (R366). -/
theorem State.frequency_slewed {k : Nat} {c : Clock} (hp : c.present = (s.region k).present)
    (hs : c.slewAt = (s.region k).slewAt) (hx : c.stopped = (s.region k).stopped) :
    (s.slewed k c).frequency s.now = s.frequency k := by
  unfold State.slewed
  split
  case isTrue ht => rw [State.frequency, Clock.frequency, Clock.frequency, hp, hs, hx, ht]
  case isFalse =>
    simp only [Clock.frequency, Nat.sub_self, Nat.zero_div]
    split
    · rfl
    · split
      case isTrue h => exact Nat.min_eq_right h
      case isFalse h => exact Nat.max_eq_right (Nat.le_of_not_le h)

/-- The zones that a list names, counted from zone `b`, changed one after another. -/
def State.modRegions (s : State) (b : Nat) (l : List Nat) (f : Nat → Clock → Clock) : State :=
  l.foldl (fun s z => s.modRegion (b + z) (f s.now)) s

theorem State.modRegions_only (b : Nat) (l : List Nat) (f : Nat → Clock → Clock) :
    ∃ r, s.modRegions b l f = { s with clocks := { s.clocks with regions := r } } := by
  unfold State.modRegions
  induction l generalizing s with
  | nil => exact ⟨_, rfl⟩
  | cons z l ih => obtain ⟨r, h⟩ := ih (s.modRegion (b + z) (f s.now)); exact ⟨r, h⟩

theorem State.region_modRegions_of_not_mem {b k : Nat} {l : List Nat} (h : ∀ z ∈ l, b + z ≠ k)
    (f : Nat → Clock → Clock) : (s.modRegions b l f).region k = s.region k := by
  unfold State.modRegions
  induction l generalizing s with
  | nil => rfl
  | cons z l ih =>
    rw [List.foldl_cons, ih _ fun y hy => h y (List.mem_cons_of_mem _ hy)]
    exact s.region_modRegion_ne (h z List.mem_cons_self).symm _

/-- A zone that the list names once is changed once. -/
theorem State.region_modRegions {b z : Nat} {l : List Nat} (hl : l.Nodup) (hz : z ∈ l) (f : Nat → Clock → Clock) :
    (s.modRegions b l f).region (b + z) = s.slewed (b + z) (f s.now (s.region (b + z))) := by
  induction l generalizing s with
  | nil => cases hz
  | cons y l ih =>
    obtain ⟨hy, hl⟩ := List.nodup_cons.mp hl
    change ((s.modRegion (b + y) (f s.now)).modRegions b l f).region (b + z) = _
    by_cases h : z = y
    · subst h
      rw [State.region_modRegions_of_not_mem _ (fun x hx hxz => hy (by rwa [← Nat.add_left_cancel hxz])),
        State.region_modRegion_same]
    · have hsame : (s.modRegion (b + y) (f s.now)).region (b + z) = s.region (b + z) :=
        s.region_modRegion_ne (fun h' => h (Nat.add_left_cancel h')) _
      rw [ih _ hl ((List.mem_cons.mp hz).resolve_left h), hsame]
      exact State.slewed_congr hsame rfl _

/-- The change of a zone whose power manager's frequency falls by 100 MHz (R395). -/
def lowerTarget (k : Clock) : Clock :=
  Clock.retarget { k with managerTarget := Nat.max 400 (min k.managerTarget k.allowed - 100) }

theorem State.moveTargets_down (t : Nat) :
    s.moveTargets t true = s.modRegions (8 * t) (List.range 8) fun _ => lowerTarget := by
  refine congrArg (fun f => List.foldl f s (List.range 8)) ?_
  funext s z
  exact congrArg (s.modRegion (8 * t + z)) rfl

/-- The change of a zone whose core supply is read as `n` mV, and stood at `was` before (R369, R391). -/
def readSupply (was n now : Nat) (k : Clock) : Clock :=
  Clock.retarget { k with cap := supplyCap n, setPoint := k.tracked was now, setAt := now }

/-- The core supply of compute die `x` is read as `n` mV. -/
def State.supplied (s : State) (x n : Nat) : State :=
  ({ s with thermal := { s.thermal with supply := s.thermal.supply.set x n } } : State).modRegions (8 * x)
    (List.range 8) (readSupply (s.thermal.supply.get 750 x) n)

theorem coreSupplyRead_next (x n : Nat) : exec (.coreSupplyRead x n) s = .next (s.supplied x n) := rfl

theorem State.supplied_only (x n : Nat) : ∃ r, s.supplied x n = { s with
    thermal := { s.thermal with supply := s.thermal.supply.set x n }, clocks := { s.clocks with regions := r } } :=
  State.modRegions_only _ _ _ _

theorem State.region_supplied {z : Nat} (x n : Nat) (hz : z < 8) : (s.supplied x n).region (8 * x + z) =
    s.slewed (8 * x + z) (readSupply (s.thermal.supply.get 750 x) n s.now (s.region (8 * x + z))) := by
  rw [State.supplied, State.region_modRegions _ List.nodup_range (List.mem_range.mpr hz)]
  exact State.slewed_congr rfl rfl _

theorem State.region_supplied_ne {k : Nat} (x n : Nat) (hk : k < 8 * x ∨ 8 * x + 8 ≤ k) :
    (s.supplied x n).region k = s.region k :=
  State.region_modRegions_of_not_mem _ (fun z hz => by rw [List.mem_range] at hz; omega) _

theorem Clock.tracked_at (k : Clock) {p now : Nat} (hp : k.setPoint = p) (h : k.setAt = now) (supply : Nat) :
    k.tracked supply now = p := by
  rw [Clock.tracked, h, hp, Nat.sub_self, Nat.zero_div]
  split
  case isTrue hle => exact Nat.min_eq_right hle
  case isFalse hle => exact Nat.max_eq_right (Nat.le_of_not_le hle)

end

/-! ### The power manager and the pacing of cache dies (R390, R394, R395) -/

section
variable {s : State} {x n m : Nat}

/-- A compute die's power of the last ms is noted. -/
def State.measured (s : State) (x n m : Nat) : State :=
  ({ s with thermal := { s.thermal with lastPower := s.thermal.lastPower.set x (n, m) } } : State).modHolder (0x20 + x)
    fun k => { k with use_ := n }

@[simp] theorem State.holder_measured (s : State) (x n m : Nat) :
    (s.measured x n m).holder (0x20 + x) = { s.holder (0x20 + x) with use_ := n } :=
  State.holder_modHolder_same _ _ _

section
variable (hnow : s.now % 1000000 = 0) (hd : (s.die (0x20 + x)).state = .ready)
include hnow hd

theorem powerManagerTick_up (hg : (s.holder (0x20 + x)).inForce < n) (hl : s.powerLevelOf x < 7) :
    exec (.powerManagerTick x n m) s = .next ((s.measured x n m).setPowerLevel x (s.powerLevelOf x + 1)) := by
  change execPowerManagerTick x n m s = _
  simp [execPowerManagerTick, hnow, hd, hg, hl, State.measured]

theorem powerManagerTick_slow (hg : (s.holder (0x20 + x)).inForce < n) (hl : 7 ≤ s.powerLevelOf x) :
    exec (.powerManagerTick x n m) s = .next ((s.measured x n m).moveTargets x true) := by
  change execPowerManagerTick x n m s = _
  simp [execPowerManagerTick, hnow, hd, hg, Nat.not_lt.mpr hl, State.measured]

theorem powerManagerTick_down (hg : n * 10 < (s.holder (0x20 + x)).inForce * 9) (hz : s.zonesBack x = true) :
    exec (.powerManagerTick x n m) s = .next ((s.measured x n m).setPowerLevel x (s.powerLevelOf x - 1)) := by
  have hge : ¬(s.holder (0x20 + x)).inForce < n := by omega
  have hz1 : (s.measured x n m).zonesBack x = true := hz
  change execPowerManagerTick x n m s = _
  rw [State.measured] at hz1
  simp [execPowerManagerTick, hnow, hd, hge, hg, hz1, State.measured]

theorem powerManagerTick_within (hg : n ≤ (s.holder (0x20 + x)).inForce)
    (hg9 : (s.holder (0x20 + x)).inForce * 9 ≤ n * 10) :
    exec (.powerManagerTick x n m) s = .next (s.measured x n m) := by
  change execPowerManagerTick x n m s = _
  simp [execPowerManagerTick, hnow, hd, Nat.not_lt.mpr hg, Nat.not_lt.mpr hg9, State.measured]

end

/-- A cache die paced after its power of the last ms is noted. -/
def State.paced (s : State) (x n : Nat) (f : Nat → Nat) : State :=
  (s.modHolder (0x10 + x) fun k => { k with use_ := n }).modTower x fun k => { k with pacing := f k.pacing }

theorem State.tower_modTower (s : State) (t k : Nat) (f : Tower → Tower) :
    (s.modTower t f).tower k = if k = t then f (s.tower t) else s.tower k :=
  SMap.get_modify ({} : Tower) s.memory.towers k t f

/-- A paced cache die's tower, its use, and the rest as it was (R390). -/
theorem State.paced_entries (s : State) (x n : Nat) (f : Nat → Nat) :
    (s.paced x n f).tower x = { s.tower x with pacing := f (s.tower x).pacing } ∧
    ((s.paced x n f).holder (0x10 + x)).use_ = n ∧ (∀ y, y ≠ x → (s.paced x n f).tower y = s.tower y) ∧
    (s.paced x n f).memory = { s.memory with towers := (s.paced x n f).memory.towers } ∧
    s.paced x n f = { s with memory := (s.paced x n f).memory, package := (s.paced x n f).package } := by
  refine ⟨?_, ?_, fun y hy => ?_, rfl, rfl⟩
  · rw [State.paced, State.tower_modTower, if_pos rfl]; rfl
  · exact congrArg Holder.use_ (State.holder_modHolder_same s (0x10 + x) fun k => { k with use_ := n })
  · rw [State.paced, State.tower_modTower, if_neg hy]; rfl

theorem kdPacingStep_up (hnow : s.now % 1000000 = 0) (hd : (s.die (0x10 + x)).state = .ready)
    (hg : (s.holder (0x10 + x)).inForce < n) :
    exec (.kdPacingStep x n) s = .next (s.paced x n fun p => Nat.max 1 (p - 1)) := by
  change execKdPacingStep x n s = _
  simp [execKdPacingStep, hnow, hd, hg, State.paced]

theorem kdPacingStep_down (hnow : s.now % 1000000 = 0) (hd : (s.die (0x10 + x)).state = .ready)
    (hg : n * 10 < (s.holder (0x10 + x)).inForce * 9) :
    exec (.kdPacingStep x n) s = .next (s.paced x n fun p => Nat.min 8 (p + 1)) := by
  have hge : ¬(s.holder (0x10 + x)).inForce < n := by omega
  change execKdPacingStep x n s = _
  simp [execKdPacingStep, hnow, hd, hge, hg, State.paced]

end

/-! ### Quotients (R392) -/

/-- A quotient, rounded either way, is less than one from the exact one. -/
theorem State.divFree_bounds (s : State) {x : Int} {a b : Nat} (hx : x = (a : Int)) (hb : 0 < b) :
    (s.divFree x b).1.toNat * b < a + b ∧ a < (s.divFree x b).1.toNat * b + b := by
  have hfd : x.fdiv b = ((a / b : Nat) : Int) := by rw [hx, Int.fdiv_eq_ediv_of_nonneg _ (Int.natCast_nonneg b)]; rfl
  have hfm : x.fmod b = ((a % b : Nat) : Int) := by rw [hx, Int.fmod_eq_emod_of_nonneg _ (Int.natCast_nonneg b)]; rfl
  have hq : (s.divFree x b).1.toNat = a / b ∨ (a % b ≠ 0 ∧ (s.divFree x b).1.toNat = a / b + 1) := by
    rw [State.divFree, hfd, hfm]
    by_cases h0 : a % b = 0
    · exact .inl (by simp only [h0, Int.natCast_zero, if_true, Int.toNat_natCast])
    · simp only [Int.natCast_eq_zero, h0, if_false]
      split
      · exact .inr ⟨h0, rfl⟩
      · exact .inl rfl
  have hdiv : a / b * b + a % b = a := Nat.div_add_mod' a b
  have hmod : a % b < b := Nat.mod_lt a hb
  obtain hq | ⟨h0, hq⟩ := hq
  · rw [hq]; omega
  · rw [hq, Nat.succ_mul]; omega

/-! ### Reef pauses (R58, R392) -/

section
variable {s : State} {c i : Nat}

@[simp] theorem Cluster.count_panels (k : Cluster) (b : Bool) (id w n : Nat) :
    (k.count b id w n).panels = k.panels := by
  unfold Cluster.count; split <;> rfl

/-- The change of a cluster whose panel `i` changes by `f`. -/
def Cluster.modPanel (i : Nat) (f : Panel → Panel) (k : Cluster) : Cluster := { k with panels := k.panels.modify {} i f }

@[simp] theorem Cluster.get_modPanel_same (i : Nat) (f : Panel → Panel) (k : Cluster) :
    (k.modPanel i f).panels.get {} i = f (k.panels.get {} i) := SMap.get_modify_same _ _ _ _

theorem Cluster.get_modPanel_ne {i j : Nat} (h : j ≠ i) (f : Panel → Panel) (k : Cluster) :
    (k.modPanel i f).panels.get {} j = k.panels.get {} j := SMap.get_modify_ne _ _ _ h _

theorem Cluster.count_counters_modPanel (i : Nat) (f : Panel → Panel) (k : Cluster) (b : Bool) (id w n : Nat) :
    ((k.modPanel i f).count b id w n).counters = (k.count b id w n).counters := by
  unfold Cluster.count
  split <;> rfl

/-- Panel `i` of cluster `c` pauses for `d` ns. -/
def State.pausePanel (s : State) (c i d : Nat) : State :=
  (s.modCluster c (Cluster.modPanel i fun q => { q with ranSincePause := 0, pausedUntil := some (s.now + d) })).bump c
    0x130 48 (s.now + d - Nat.max s.now (s.pausedTo c))

theorem State.cluster_pausePanel (s : State) (c i d : Nat) : (s.pausePanel c i d).cluster c =
    (Cluster.modPanel i (fun q => { q with ranSincePause := 0, pausedUntil := some (s.now + d) })
      (s.cluster c)).count (s.counterRuns 0x130) 0x130 48 (s.now + d - Nat.max s.now (s.pausedTo c)) := by
  rw [State.pausePanel, State.bump, State.cluster_modCluster_same, State.cluster_modCluster_same]
  rfl

theorem reefPause_next {r : Nat} (hr : reefEighths.getD (s.appliedLevel (zoneOf c)) 0 = r) (h0 : r ≠ 0)
    (hp : ((s.cluster c).panels.get {} i).pausedUntil = none) (hn : ((s.cluster c).panels.get {} i).ranSincePause ≠ 0)
    (hw : s.withinStep c = false) :
    ∃ d f, exec (.reefPause c i) s = .next (({ s with freeCount := f } : State).pausePanel c i d) ∧
      d * 8 < ((s.cluster c).panels.get {} i).ranSincePause * r + 8 ∧
      ((s.cluster c).panels.get {} i).ranSincePause * r < d * 8 + 8 := by
  obtain ⟨f, hf⟩ := s.divFree_only (((s.cluster c).panels.get {} i).ranSincePause * r) 8
  refine ⟨(s.divFree (((s.cluster c).panels.get {} i).ranSincePause * r) 8).1.toNat, f, ?_,
    s.divFree_bounds (Int.natCast_mul _ _).symm (by decide)⟩
  change execReefPause c i s = _
  simp only [execReefPause, hr, h0, hp, hn, hw, hf]
  rfl

theorem reefPause_none (h : reefEighths.getD (s.appliedLevel (zoneOf c)) 0 = 0 ∨
    ((s.cluster c).panels.get {} i).ranSincePause = 0 ∨ s.withinStep c = true) : exec (.reefPause c i) s = .next s := by
  change execReefPause c i s = _
  generalize hr : reefEighths.getD (s.appliedLevel (zoneOf c)) 0 = r at h
  simp only [execReefPause, hr]
  refine if_pos ?_
  obtain h | h | h := h <;> simp [h]

theorem reefPauseEnd_next {a : Nat} (hp : ((s.cluster c).panels.get {} i).pausedUntil = some a) (ha : a ≤ s.now) :
    exec (.reefPauseEnd c i) s = .next (s.modCluster c (Cluster.modPanel i fun q => { q with pausedUntil := none })) := by
  change execReefPauseEnd c i s = _
  simp only [execReefPauseEnd, hp, if_neg (Nat.not_lt.mpr ha)]
  rfl

end

/-! ### Rate windows (R56, R57) -/

/-- The lower of a rate and one before it, if any. -/
def lowerRate : Option Nat → Nat → Nat
  | some r, q => Nat.min r q
  | none, q => q

theorem lowerRate_le_right (o : Option Nat) (q : Nat) : lowerRate o q ≤ q := by
  cases o with
  | none => exact Nat.le_refl q
  | some r => exact Nat.min_le_right r q

theorem lowerRate_le_of_some {r : Nat} (q : Nat) : lowerRate (some r) q ≤ r := Nat.min_le_left r q

theorem slowest_cons_short (s : State) {p : Panel} (l : List Panel) (h : p.windowNs < 10000) :
    slowest s (p :: l) = slowest s l := by
  simp only [slowest, if_pos h]

/-- A panel that ran for 10 µs has a rate, rounded either way, and the lowest is at most that. -/
theorem slowest_cons_ran (s : State) {p : Panel} (l : List Panel) (h : 10000 ≤ p.windowNs) :
    ∃ q n, slowest s (p :: l) = (some (lowerRate (slowest s l).1 q), { (slowest s l).2 with freeCount := n }) ∧
      q * p.windowNs < p.windowHandshakes * 1000 + p.windowNs ∧
      p.windowHandshakes * 1000 < q * p.windowNs + p.windowNs := by
  obtain ⟨n, hn⟩ := (slowest s l).2.divFree_only (p.windowHandshakes * 1000) p.windowNs
  refine ⟨((slowest s l).2.divFree (p.windowHandshakes * 1000) p.windowNs).1.toNat, n, ?_,
    (slowest s l).2.divFree_bounds (Int.natCast_mul _ _).symm (by omega)⟩
  simp only [slowest, if_neg (Nat.not_lt.mpr h), ← hn]
  cases (slowest s l).1 <;> rfl

theorem slowest_only (s : State) (l : List Panel) : ∃ n, (slowest s l).2 = { s with freeCount := n } := by
  induction l with
  | nil => exact ⟨_, rfl⟩
  | cons p l ih =>
    by_cases h : p.windowNs < 10000
    · rwa [slowest_cons_short s l h]
    · obtain ⟨n, hn⟩ := ih
      obtain ⟨q, m, hq, -, -⟩ := slowest_cons_ran s l (Nat.le_of_not_lt h)
      exact ⟨m, by rw [hq, hn]⟩

theorem slowest_eq_none (s : State) {l : List Panel} (h : ∀ p ∈ l, p.windowNs < 10000) : (slowest s l).1 = none := by
  induction l with
  | nil => rfl
  | cons p l ih =>
    rw [slowest_cons_short s l (h p List.mem_cons_self)]
    exact ih fun q hq => h q (List.mem_cons_of_mem _ hq)

/-- The lowest rate is at most that of each panel that ran for 10 µs. -/
theorem slowest_le (s : State) {l : List Panel} {q : Panel} (hq : q ∈ l) (hw : 10000 ≤ q.windowNs) :
    ∃ r, (slowest s l).1 = some r ∧ r * q.windowNs < q.windowHandshakes * 1000 + q.windowNs := by
  induction l with
  | nil => cases hq
  | cons p l ih =>
    by_cases hp : p.windowNs < 10000
    · have hmem : q ∈ l := (List.mem_cons.mp hq).resolve_left fun h => absurd (h ▸ hp) (Nat.not_lt.mpr hw)
      rw [slowest_cons_short s l hp]
      exact ih hmem
    · obtain ⟨v, n, hv, hlt, -⟩ := slowest_cons_ran s l (Nat.le_of_not_lt hp)
      refine ⟨_, congrArg Prod.fst hv, ?_⟩
      obtain rfl | hmem := List.mem_cons.mp hq
      · exact Nat.lt_of_le_of_lt (Nat.mul_le_mul_right _ (lowerRate_le_right _ v)) hlt
      · obtain ⟨r, hr, hrlt⟩ := ih hmem
        rw [hr]
        exact Nat.lt_of_le_of_lt (Nat.mul_le_mul_right _ (lowerRate_le_of_some v)) hrlt

theorem slowest_singleton (s : State) {q : Panel} (hw : 10000 ≤ q.windowNs) :
    ∃ r, (slowest s [q]).1 = some r ∧ q.windowHandshakes * 1000 < (r + 1) * q.windowNs := by
  obtain ⟨v, n, hv, -, hlt⟩ := slowest_cons_ran s [] hw
  exact ⟨v, congrArg Prod.fst hv, by rwa [Nat.succ_mul]⟩

/-- A cluster's panels at the end of a rate window: each counts again from 0. -/
def Cluster.clearWindow (k : Cluster) : Cluster :=
  { k with panels := k.panels.mapVals fun _ p => { p with windowHandshakes := 0, windowNs := 0 } }

/-- Cluster `c` as a rate window that ends with `n` free values asked for leaves it. -/
def State.windowed (s : State) (c n : Nat) : Cluster := (({ s with freeCount := n } : State).windowEnd c).1

/-- The panels' rate of cluster `c`, if any panel ran for 10 µs. -/
def State.windowRate (s : State) (c n : Nat) : Option Nat :=
  (slowest { s with freeCount := n } ((s.cluster c).panels.entries.map (·.2))).1

section
variable {s : State} {c n : Nat}

theorem State.windowRate_none_of_short {s : State} {c n : Nat}
    (h : (s.cluster c).panels.entries.all (fun e => e.2.windowNs < 10000) = true) : s.windowRate c n = none := by
  refine slowest_eq_none _ fun p hp => ?_
  obtain ⟨e, he, rfl⟩ := List.mem_map.mp hp
  exact of_decide_eq_true (List.all_eq_true.mp h e he)

theorem Cluster.clearWindow_cleared (k : Cluster) :
    k.clearWindow.panels.entries.all (fun e => e.2.windowNs = 0 && e.2.windowHandshakes = 0) = true := by
  simp [Cluster.clearWindow, SMap.mapVals]

theorem State.windowed_none (h : s.windowRate c n = none) :
    s.windowed c n = { (s.cluster c).clearWindow with stale := true } := by
  have hs : (slowest { s with freeCount := n } ((State.cluster { s with freeCount := n } c).panels.entries.map (·.2))).1 =
    none := h
  simp only [State.windowed, State.windowEnd, hs]
  rfl

theorem State.windowed_out {r : Nat} (h : s.windowRate c n = some r) (ho : (s.cluster c).outOfService = true) :
    s.windowed c n = (s.cluster c).clearWindow := by
  have hs : (slowest { s with freeCount := n } ((State.cluster { s with freeCount := n } c).panels.entries.map (·.2))).1 =
    some r := h
  simp only [State.windowed, State.windowEnd, hs]
  exact if_pos ho

theorem State.windowed_rated {r : Nat} (h : s.windowRate c n = some r) (ho : (s.cluster c).outOfService = false) :
    s.windowed c n = { (s.cluster c).clearWindow with rate := r, stale := false } := by
  have hs : (slowest { s with freeCount := n } ((State.cluster { s with freeCount := n } c).panels.entries.map (·.2))).1 =
    some r := h
  simp only [State.windowed, State.windowEnd, hs]
  exact if_neg (Bool.eq_false_iff.mp ho)

/-- A window ends at one cluster: it changes only its panels' counts, its rate and whether that is stale. -/
theorem State.windowed_eq (s : State) (c n : Nat) :
    s.windowed c n = { (s.cluster c).clearWindow with rate := (s.windowed c n).rate, stale := (s.windowed c n).stale } := by
  cases h : s.windowRate c n with
  | none => rw [State.windowed_none h]
  | some r =>
    cases ho : (s.cluster c).outOfService with
    | true => rw [State.windowed_out h ho]
    | false => rw [State.windowed_rated h ho]

theorem State.windowEnd_only (s : State) (c : Nat) : ∃ n, (s.windowEnd c).2 = { s with freeCount := n } :=
  slowest_only s _

end

/-- The clusters that a rate window has come through, the last first, and the state that it leaves. -/
def windowStep (acc : List (Nat × Cluster) × State) (c : Nat) : List (Nat × Cluster) × State :=
  ((c, (acc.2.windowEnd c).1) :: acc.1, (acc.2.windowEnd c).2)

theorem lookup_append_singleton {α : Type} (l : List (Nat × α)) (k j : Nat) (v : α) (hk : SMap.lookup l k = none) :
    SMap.lookup (l ++ [(k, v)]) j = if j = k then some v else SMap.lookup l j := by
  induction l with
  | nil => simp [SMap.lookup, eq_comm]
  | cons e l ih =>
    obtain ⟨i, w⟩ := e
    simp only [SMap.lookup, List.cons_append] at hk ⊢
    by_cases hi : i = k
    · simp [hi] at hk
    · rw [if_neg hi] at hk
      rw [ih hk]
      by_cases hj : i = j
      · subst hj; simp [hi]
      · simp [hj]

/-- What a rate window has come to after the first `m` clusters. -/
theorem foldl_windowStep (s : State) (m : Nat) :
    (∃ n, ((List.range m).foldl windowStep ([], s)).2 = { s with freeCount := n }) ∧
    (∀ c, c < m → ∃ n, SMap.lookup ((List.range m).foldl windowStep ([], s)).1.reverse c = some (s.windowed c n)) ∧
    (∀ c, m ≤ c → SMap.lookup ((List.range m).foldl windowStep ([], s)).1.reverse c = none) := by
  induction m with
  | zero => exact ⟨⟨_, rfl⟩, fun c hc => absurd hc (Nat.not_lt_zero c), fun _ _ => rfl⟩
  | succ m ih =>
    obtain ⟨⟨n, hn⟩, hin, hout⟩ := ih
    rw [List.range_succ, List.foldl_append, List.foldl_cons, List.foldl_nil]
    generalize (List.range m).foldl windowStep ([], s) = acc at hn hin hout ⊢
    have hm : (acc.2.windowEnd m).1 = s.windowed m n := by rw [hn]; rfl
    have hlook : ∀ c, SMap.lookup (windowStep acc m).1.reverse c =
        if c = m then some (s.windowed m n) else SMap.lookup acc.1.reverse c := fun c => by
      rw [windowStep, List.reverse_cons, lookup_append_singleton _ _ _ _ (hout m (Nat.le_refl m)), hm]
    refine ⟨?_, fun c hc => ?_, fun c hc => ?_⟩
    · obtain ⟨n', h⟩ := acc.2.windowEnd_only m
      exact ⟨n', by rw [windowStep, h, hn]⟩
    · rw [hlook]
      by_cases h : c = m
      · exact ⟨n, by rw [if_pos h, h]⟩
      · rw [if_neg h]; exact hin c (by omega)
    · rw [hlook, if_neg (by omega)]
      exact hout c (by omega)

theorem State.cluster_refreshRates (s : State) (c : Nat) : s.refreshRates.cluster c = s.cluster c := rfl

theorem State.refreshRates_only (s : State) : ∃ r b, s.refreshRates = { s with regs := r, blobs := b } :=
  ⟨_, _, rfl⟩

/-- The state in which a rate window's end has come through the first `m` clusters. -/
def State.windowsEnd (s : State) (m : Nat) : State :=
  let acc := (List.range m).foldl windowStep ([], s)
  { acc.2 with clusters := ⟨acc.1.reverse⟩ }

theorem rateWindowEnd_next {s : State} (h : s.now % 1000000 = 0) :
    exec .rateWindowEnd s = .next (s.windowsEnd 800).refreshRates := by
  change execRateWindowEnd s = _
  -- the list of clusters is named, so that neither side's fold is evaluated
  obtain ⟨l, hl⟩ : ∃ l, List.range 800 = l := ⟨_, rfl⟩
  rw [execRateWindowEnd, if_neg (by simp [h]), State.windowsEnd, hl]
  rfl

theorem State.windowsEnd_only (s : State) (m : Nat) :
    ∃ k n, s.windowsEnd m = { s with clusters := k, freeCount := n } := by
  obtain ⟨n, hn⟩ := (foldl_windowStep s m).1
  exact ⟨_, n, by rw [State.windowsEnd, hn]⟩

theorem State.cluster_windowsEnd (s : State) {m c : Nat} (hc : c < m) :
    ∃ n, (s.windowsEnd m).cluster c = s.windowed c n := by
  obtain ⟨n, hn⟩ := (foldl_windowStep s m).2.1 c hc
  exact ⟨n, congrArg (Option.getD · ({} : Cluster)) hn⟩

/-- The entries of the rates hold what the clusters give (R57). -/
theorem State.refreshRates_entries (s : State) :
    s.refreshRates.reg 0x601001 = s.refreshRates.rateLowest ∧ s.refreshRates.reg 0x601002 = s.refreshRates.rateMean ∧
    s.refreshRates.reg 0x601003 = s.refreshRates.rateHighest ∧ s.refreshRates.reg 0x601004 = s.refreshRates.fp4Peak := by
  have hreg : ∀ k, s.refreshRates.reg k = ((((s.regs.set 0x601001 s.rateLowest).set 0x601002 s.rateMean).set 0x601003
    s.rateHighest).set 0x601004 s.fp4Peak).get (odDefault k) k := fun _ => rfl
  have hcl : s.refreshRates.cluster = s.cluster := rfl
  have hserving : s.refreshRates.serving = s.serving := by rw [State.serving, State.serving, hcl]
  have hrates : s.refreshRates.ratesServing = s.ratesServing := by
    rw [State.ratesServing, State.ratesServing, hserving, hcl]
  have hlowest : s.refreshRates.rateLowest = s.rateLowest := by rw [State.rateLowest, State.rateLowest, hrates]
  have hmean : s.refreshRates.rateMean = s.rateMean := by rw [State.rateMean, State.rateMean, hrates]
  have hhighest : s.refreshRates.rateHighest = s.rateHighest := by rw [State.rateHighest, State.rateHighest, hrates]
  have hpeak : s.refreshRates.fp4Peak = s.fp4Peak := by rw [State.fp4Peak, State.fp4Peak, hserving, hcl]
  refine ⟨?_, ?_, ?_, ?_⟩
  · rw [hreg, hlowest]; simp [SMap.get_set]
  · rw [hreg, hmean]; simp [SMap.get_set]
  · rw [hreg, hhighest]; simp [SMap.get_set]
  · rw [hreg, hpeak]; simp

/-! ### O34 -/

/-- Settles O34: each command of power and reefing by its own equation; the levels, the targets and the rates by what
one zone's or one cluster's step does, over the zones of a die and the clusters of the package. -/
theorem powerIsKept : Obligations.PowerIsKept := by
  unfold Obligations.PowerIsKept
  refine ⟨?_, ?_, ?_, ?_, ?_, ?_, ?_, ?_, ?_, ?_, ?_, ?_, ?_, ?_, ?_⟩
  · intro s hb hg hf hc hle ha
    refine ⟨_, powerCommit_accepted hb hg hf, ?_⟩
    rw [applyBudget_raised hc hle ha]
    refine ⟨rfl, ?_, ?_, ?_, rfl, rfl, rfl⟩
    · simp [State.reg, SMap.get_set]
    · simp [State.reg]
    · simpa [State.commitPending] using fun h => not_mem_commits hb (List.mem_of_mem_erase h)
  · intro s hb hg hf hc _ hlt hp
    refine ⟨_, powerCommit_accepted hb hg hf, ?_⟩
    rw [applyBudget_lowered hc hlt hp]
    refine ⟨rfl, ?_, ?_, ?_, rfl, rfl, rfl⟩
    · simp [State.reg, SMap.get_set]
    · simp [State.reg]
    · simpa [State.commitPending] using fun h => not_mem_commits hb (List.mem_of_mem_erase h)
  · intro s hb hg
    exact ⟨_, powerCommit_aboveGrade hb hg, rfl⟩
  · intro s hb hg hf
    exact ⟨_, powerCommit_belowFloor hb hg hf, rfl⟩
  · intro s x n m hnow hx hd hg hl
    refine ⟨_, powerManagerTick_up hnow hd hg hl, State.powerLevelOf_setPowerLevel _ _ _, fun z hz => ?_, ?_⟩
    · rw [State.appliedLevel_setPowerLevel _ _ hx hz]
      rfl
    · obtain ⟨a, r, h⟩ := (s.measured x n m).setPowerLevel_only x (s.powerLevelOf x + 1)
      rw [h]
      exact ⟨congrArg Holder.use_ (s.holder_measured x n m), SMap.get_set_same (0, 0) _ x (n, m), rfl, rfl, rfl⟩
  · intro s x n m hnow _ hd hg hl
    have hreg : ∀ z, z < 8 → ((s.measured x n m).moveTargets x true).region (8 * x + z) =
        s.slewed (8 * x + z) (lowerTarget (s.region (8 * x + z))) := fun z hz => by
      rw [State.moveTargets_down, State.region_modRegions _ List.nodup_range (List.mem_range.mpr hz)]
      exact State.slewed_congr rfl rfl _
    obtain ⟨r, h⟩ := (s.measured x n m).modRegions_only (8 * x) (List.range 8) fun _ => lowerTarget
    rw [← State.moveTargets_down] at h
    refine ⟨_, powerManagerTick_slow hnow hd hg hl, by rw [h]; rfl, fun z hz => ⟨?_, ?_⟩, ?_⟩
    · rw [hreg z hz, State.slewed_eq]; rfl
    · rw [State.frequency, hreg z hz, h]
      exact State.frequency_slewed s rfl rfl rfl
    · rw [h]
      exact ⟨congrArg Holder.use_ (s.holder_measured x n m), SMap.get_set_same (0, 0) _ x (n, m), rfl, rfl, rfl⟩
  · intro s x n m hnow _ hd hg hz
    refine ⟨_, powerManagerTick_down hnow hd hg hz, State.powerLevelOf_setPowerLevel _ _ _, ?_⟩
    obtain ⟨a, r, h⟩ := (s.measured x n m).setPowerLevel_only x (s.powerLevelOf x - 1)
    rw [h]
    exact ⟨congrArg Holder.use_ (s.holder_measured x n m), SMap.get_set_same (0, 0) _ x (n, m), rfl, rfl, rfl⟩
  · intro s x n m hnow _ hd hg hg9
    exact ⟨_, powerManagerTick_within hnow hd hg hg9, rfl, congrArg Holder.use_ (s.holder_measured x n m),
      SMap.get_set_same (0, 0) _ x (n, m), rfl, rfl, rfl⟩
  · intro s x n hnow hd hg
    exact ⟨_, kdPacingStep_up hnow hd hg, s.paced_entries x n _⟩
  · intro s x n hnow hd hg
    exact ⟨_, kdPacingStep_down hnow hd hg, s.paced_entries x n _⟩
  · intro s x n
    refine ⟨_, coreSupplyRead_next s x n, fun z hz => ?_, fun k hk => ?_, ?_⟩
    · have hr := s.region_supplied x n hz
      obtain ⟨r, h⟩ := s.supplied_only x n
      have hdie : (8 * x + z) / 8 = x := by omega
      refine ⟨?_, ?_, ?_, ?_, ?_⟩
      · rw [hr, State.slewed_eq]; rfl
      · rw [hr, State.slewed_eq]; rfl
      · rw [State.setPointOf, State.setPointOf, hdie, hr, State.slewed_eq, h]
        exact Clock.tracked_at _ rfl rfl _
      · rw [hr, State.slewed_eq]; rfl
      · rw [State.frequency, hr, h]
        exact State.frequency_slewed s rfl rfl rfl
    · exact s.region_supplied_ne x n hk
    · obtain ⟨r, h⟩ := s.supplied_only x n
      rw [h]
      exact ⟨rfl, rfl⟩
  · intro s c i hr hp hn hw
    obtain ⟨d, f, hnext, hlt, hgt⟩ := reefPause_next rfl hr hp hn hw
    have hcl := State.cluster_pausePanel { s with freeCount := f } c i d
    refine ⟨_, hnext, ⟨d, ?_, by omega, by omega, ?_⟩, fun j hj => ?_, ?_, ?_, rfl⟩
    · rw [hcl, Cluster.count_panels, Cluster.get_modPanel_same]; rfl
    · rw [hcl, Cluster.count_counters_modPanel]; rfl
    · rw [hcl, Cluster.count_panels, Cluster.get_modPanel_ne hj]; rfl
    · exact (sameClusters_modCluster c { s with freeCount := f } _).trans (sameClusters_bump c _ _ _ _)
    · rw [hcl, Cluster.count_core]; rfl
  · intro s c i h
    exact ⟨_, reefPause_none h, rfl⟩
  · intro s c i a hp ha
    refine ⟨_, reefPauseEnd_next hp ha, ?_, fun j hj => ?_, ?_, sameClusters_modCluster c s _, rfl⟩
    · rw [State.cluster_modCluster_same, Cluster.get_modPanel_same]
    · rw [State.cluster_modCluster_same, Cluster.get_modPanel_ne hj]
    · rw [State.cluster_modCluster_same]; rfl
  · intro s hnow
    have hat : ∀ c, c < 800 → ∃ n, (s.windowsEnd 800).refreshRates.cluster c = s.windowed c n :=
      fun c hc => by
        obtain ⟨n, hn⟩ := s.cluster_windowsEnd hc
        exact ⟨n, (State.cluster_refreshRates _ c).trans hn⟩
    obtain ⟨h1, h2, h3, h4⟩ := (s.windowsEnd 800).refreshRates_entries
    refine ⟨_, rateWindowEnd_next hnow, fun c hc hshort => ?_, fun c i q hc ho hq hw => ?_, fun c i q hc ho hq hw => ?_,
      fun c hc ho => ?_, fun c hc => ?_, fun c hc => ?_, h1, h2, h3, h4, ?_⟩
    · obtain ⟨n, hn⟩ := hat c hc
      rw [hn, State.windowed_none (State.windowRate_none_of_short hshort)]
      exact ⟨rfl, rfl⟩
    · obtain ⟨n, hn⟩ := hat c hc
      obtain ⟨r, hr, hlt⟩ := slowest_le { s with freeCount := n } (List.mem_map_of_mem (f := (·.2)) hq) hw
      rw [hn, State.windowed_rated hr ho]
      exact ⟨rfl, hlt⟩
    · obtain ⟨n, hn⟩ := hat c hc
      obtain ⟨r, hr, hlt⟩ := slowest_singleton { s with freeCount := n } hw
      have hrate : s.windowRate c n = some r := by rw [State.windowRate, hq]; exact hr
      rw [hn, State.windowed_rated hrate ho]
      exact hlt
    · obtain ⟨n, hn⟩ := hat c hc
      rw [hn]
      cases h : s.windowRate c n with
      | none => rw [State.windowed_none h]; exact ⟨rfl, fun _ => rfl⟩
      | some r => rw [State.windowed_out h ho]; exact ⟨rfl, fun hs => hs⟩
    · obtain ⟨n, hn⟩ := hat c hc
      rw [hn, State.windowed_eq]
      exact (s.cluster c).clearWindow_cleared
    · obtain ⟨n, hn⟩ := hat c hc
      rw [hn, State.windowed_eq]
      exact ⟨rfl, rfl, rfl⟩
    · obtain ⟨k, n, h⟩ := s.windowsEnd_only 800
      obtain ⟨r, b, h'⟩ := (s.windowsEnd 800).refreshRates_only
      rw [h', h]

end Sys2Proof.Machine

/-! PROOF. O50 fails: its premises do not ask that the byte map keeps its cells in order, and a store into a map out of
order does not take the place of a cell that a load finds first. -/

namespace Sys2Proof.Machine

/-- A clean memory whose two cells stand in falling order of their addresses; 0xE0'0000'0000 is the first byte of
tower 0's share. -/
def cellsOutOfOrder : State := { memory := { cells := ⟨[(0xE000000001, 5), (0xE000000000, 7)]⟩ } }

theorem memoryClean_cellsOutOfOrder : memoryClean cellsOutOfOrder :=
  ⟨rfl, rfl, rfl, fun _ => ⟨rfl, rfl⟩⟩

/-- After 0 is stored over the byte 7, a load still finds 7. -/
theorem loadRange_storeRange_cellsOutOfOrder :
    ((cellsOutOfOrder.storeRange 0xE000000000 [0] {}).2.loadRange 0xE000000000 1 {}).1 = .ok [7] := by
  decide +kernel

/-- Refutes O50: with the cells of two addresses out of order in the byte map, the store of 0 at the second puts a cell
that the load does not reach, and the load returns the old 7. -/
theorem not_storeThenLoad : ¬ Obligations.StoreThenLoad := by
  unfold Obligations.StoreThenLoad
  intro h
  obtain ⟨t, hstore, -, hload, -⟩ :=
    h cellsOutOfOrder 0xE000000000 [0] {} {} memoryClean_cellsOutOfOrder (by decide) (by decide +kernel)
  have ht : t = (cellsOutOfOrder.storeRange 0xE000000000 [0] {}).2 := (congrArg Prod.snd hstore).symm
  rw [ht, List.length_singleton, loadRange_storeRange_cellsOutOfOrder] at hload
  exact absurd hload (by decide)

end Sys2Proof.Machine

/-! PROOF. The values of a floating format (R78, R79): the magnitude that a pattern without its sign stands for, a function
that grows with the pattern, and what a decoded pattern has to do with it. -/

namespace Sys2Proof

/-! ### Magnitudes (R79) -/

/-- The binade of a pattern without its sign, counted from that of the subnormals, which share the first normal one. -/
def FloatFormat.binade (f : FloatFormat) (p : Nat) : Nat := p / 2 ^ f.manBits - 1

/-- The magnitude of a pattern without its sign, with no upper limit on the exponent: its significand in units of its
binade. -/
def FloatFormat.magnitude (f : FloatFormat) (p : Nat) : ℚ :=
  ((p - f.binade p * 2 ^ f.manBits : Nat) : ℚ) * 2 ^ (f.minExp + f.binade p)

/-- Whether a pattern without its sign is neither an infinity nor a NaN (R78). -/
def FloatFormat.IsNumber (f : FloatFormat) (p : Nat) : Prop :=
  (f.special = true → p / 2 ^ f.manBits ≠ 2 ^ f.expBits - 1) ∧
  (f.e4m3 = true → ¬(p / 2 ^ f.manBits = 2 ^ f.expBits - 1 ∧ p % 2 ^ f.manBits = 2 ^ f.manBits - 1))

section
variable (f : FloatFormat)

theorem FloatFormat.magnitude_of_binade {p k : Nat} (hp : f.binade p = k) :
    f.magnitude p = ((p - k * 2 ^ f.manBits : Nat) : ℚ) * 2 ^ (f.minExp + k) := by
  rw [FloatFormat.magnitude, hp]

theorem FloatFormat.magnitude_subnormal {M : Nat} (hM : M < 2 ^ f.manBits) :
    f.magnitude M = (M : ℚ) * 2 ^ f.minExp := by
  rw [f.magnitude_of_binade (k := 0) (by simp [FloatFormat.binade, Nat.div_eq_of_lt hM])]
  simp

theorem FloatFormat.magnitude_normal {k M : Nat} (hM : M < 2 ^ f.manBits) :
    f.magnitude (2 ^ f.manBits * (k + 1) + M) = ((2 ^ f.manBits + M : Nat) : ℚ) * 2 ^ (f.minExp + k) := by
  have hb : f.binade (2 ^ f.manBits * (k + 1) + M) = k := by
    rw [FloatFormat.binade, Nat.mul_add_div (Nat.two_pow_pos _), Nat.div_eq_of_lt hM]
    rfl
  have hs : 2 ^ f.manBits * (k + 1) + M - k * 2 ^ f.manBits = 2 ^ f.manBits + M := by
    rw [Nat.mul_succ, Nat.mul_comm]; omega
  rw [f.magnitude_of_binade hb, hs]

/-- A magnitude is a significand below `2 ^ (manBits + 1)` in units of at least the smallest subnormal. -/
theorem FloatFormat.magnitude_eq (p : Nat) : ∃ c k : Nat, c < 2 ^ (f.manBits + 1) ∧
    f.magnitude p = (c : ℚ) * 2 ^ (f.minExp + k) := by
  refine ⟨_, f.binade p, ?_, rfl⟩
  have hmod : p % 2 ^ f.manBits < 2 ^ f.manBits := Nat.mod_lt _ (Nat.two_pow_pos _)
  have hdiv : 2 ^ f.manBits * (p / 2 ^ f.manBits) + p % 2 ^ f.manBits = p := Nat.div_add_mod p _
  unfold FloatFormat.binade
  cases hE : p / 2 ^ f.manBits with
  | zero => rw [hE] at hdiv; rw [pow_succ]; omega
  | succ k =>
    rw [hE, Nat.mul_succ, Nat.mul_comm] at hdiv
    rw [pow_succ, Nat.add_sub_cancel]; omega

theorem FloatFormat.magnitude_lt_succ (p : Nat) : f.magnitude p < f.magnitude (p + 1) := by
  have hpos : (0 : ℚ) < 2 ^ (f.minExp + f.binade p) := by positivity
  have hmod : p % 2 ^ f.manBits < 2 ^ f.manBits := Nat.mod_lt _ (Nat.two_pow_pos _)
  by_cases hb : f.binade (p + 1) = f.binade p
  · have hle : f.binade p * 2 ^ f.manBits ≤ p :=
      (Nat.mul_le_mul_right _ (Nat.sub_le _ 1)).trans (Nat.div_mul_le_self p _)
    rw [f.magnitude_of_binade hb, FloatFormat.magnitude]
    refine mul_lt_mul_of_pos_right ?_ hpos
    exact_mod_cast (by omega : p - f.binade p * 2 ^ f.manBits < p + 1 - f.binade p * 2 ^ f.manBits)
  · -- the next pattern begins a new binade, and `p` is the last of its own
    obtain ⟨k, hk, hp⟩ : ∃ k, f.binade p = k ∧ p + 1 = 2 ^ f.manBits * (k + 2) := by
      have hdvd : 2 ^ f.manBits ∣ p + 1 := by
        by_contra h
        exact hb (by rw [FloatFormat.binade, Nat.succ_div_of_not_dvd h]; rfl)
      have hdiv : (p + 1) / 2 ^ f.manBits = p / 2 ^ f.manBits + 1 := Nat.succ_div_of_dvd hdvd
      rw [FloatFormat.binade, FloatFormat.binade, hdiv] at hb
      refine ⟨_, rfl, ?_⟩
      rw [← Nat.mul_div_cancel' hdvd, hdiv, FloatFormat.binade]
      congr 1; omega
    have hsig : p - k * 2 ^ f.manBits < 2 ^ f.manBits * 2 := by
      rw [Nat.mul_add, Nat.mul_comm] at hp; omega
    have hnext : f.magnitude (p + 1) = ((2 ^ f.manBits * 2 : Nat) : ℚ) * 2 ^ (f.minExp + k) := by
      rw [hp]
      have h := f.magnitude_normal (k := k + 1) (Nat.two_pow_pos f.manBits)
      rw [Nat.add_zero, Nat.add_zero] at h
      rw [h]
      push_cast
      rw [← add_assoc, zpow_add_one₀ two_ne_zero]
      ring
    rw [hnext, f.magnitude_of_binade hk]
    rw [hk] at hpos
    exact mul_lt_mul_of_pos_right (by exact_mod_cast hsig) hpos

/-- Magnitudes grow with their patterns. -/
theorem FloatFormat.magnitude_strictMono : StrictMono f.magnitude := strictMono_nat_of_lt_succ f.magnitude_lt_succ

theorem FloatFormat.magnitude_nonneg (p : Nat) : 0 ≤ f.magnitude p := by
  unfold FloatFormat.magnitude; positivity

end

/-! ### Patterns that are numbers (R78) -/

section
variable {f : FloatFormat}

theorem FloatFormat.two_pow_expBits (he : 1 ≤ f.expBits) : ∃ T, 2 ^ f.expBits = T + 2 :=
  Nat.exists_eq_add_of_le' (Nat.pow_le_pow_right (n := 2) Nat.two_pos he)

/-- `T` is the exponent code below the all-ones one. -/
theorem FloatFormat.maxPattern_eq {T : Nat} (hT : 2 ^ f.expBits = T + 2) :
    f.maxPattern = T * 2 ^ f.manBits + if f.special then 2 ^ f.manBits - 1
      else if f.e4m3 then 2 ^ f.manBits + 2 ^ f.manBits - 2 else 2 ^ f.manBits + 2 ^ f.manBits - 1 := by
  have hB := Nat.two_pow_pos f.manBits
  have htop : (T + 1) * 2 ^ f.manBits = T * 2 ^ f.manBits + 2 ^ f.manBits := Nat.succ_mul T _
  rw [FloatFormat.maxPattern, hT, show T + 2 - 1 = T + 1 from rfl, Nat.add_sub_cancel, htop]
  cases f.special <;> cases f.e4m3 <;> simp <;> omega

theorem FloatFormat.maxPattern_lt (he : 1 ≤ f.expBits) : f.maxPattern < 2 ^ (f.manBits + f.expBits) := by
  obtain ⟨T, hT⟩ := f.two_pow_expBits he
  have hB := Nat.two_pow_pos f.manBits
  rw [f.maxPattern_eq hT, pow_add, hT, Nat.mul_add, Nat.mul_comm]
  split
  · omega
  · split <;> omega

/-- The numbers are the patterns up to the largest finite one. -/
theorem FloatFormat.isNumber_iff (he : 1 ≤ f.expBits) {p : Nat} (hp : p < 2 ^ (f.manBits + f.expBits)) :
    f.IsNumber p ↔ p ≤ f.maxPattern := by
  obtain ⟨T, hT⟩ := f.two_pow_expBits he
  have hB := Nat.two_pow_pos f.manBits
  have hmod : p % 2 ^ f.manBits < 2 ^ f.manBits := Nat.mod_lt _ hB
  have hdiv : 2 ^ f.manBits * (p / 2 ^ f.manBits) + p % 2 ^ f.manBits = p := Nat.div_add_mod p _
  have hE : p / 2 ^ f.manBits < T + 2 := by
    rw [pow_add, hT] at hp
    exact Nat.div_lt_of_lt_mul hp
  rw [FloatFormat.IsNumber, f.maxPattern_eq hT, hT, show T + 2 - 1 = T + 1 from rfl]
  by_cases htop : p / 2 ^ f.manBits = T + 1
  · rw [htop, Nat.mul_succ, Nat.mul_comm] at hdiv
    cases f.special <;> cases f.e4m3 <;> simp [htop] <;> omega
  · have hle : 2 ^ f.manBits * (p / 2 ^ f.manBits) ≤ T * 2 ^ f.manBits := by
      rw [Nat.mul_comm]; exact Nat.mul_le_mul_right _ (by omega)
    refine iff_of_true ⟨fun _ => htop, fun _ h => htop h.1⟩ ?_
    split
    · omega
    · split <;> omega

/-! ### Decoding (R78, R79) -/

/-- The fields of a pattern, as those of its lower bits. -/
theorem FloatFormat.fields_mod (v : Nat) :
    v % 2 ^ (f.manBits + f.expBits) % 2 ^ f.manBits = v % 2 ^ f.manBits ∧
    v % 2 ^ (f.manBits + f.expBits) / 2 ^ f.manBits = v / 2 ^ f.manBits % 2 ^ f.expBits := by
  rw [pow_add]
  exact ⟨Nat.mod_mul_right_mod .., Nat.mod_mul_right_div_self ..⟩

theorem FloatFormat.decode_of_isNumber {v : Nat} (h : f.IsNumber (v % 2 ^ (f.manBits + f.expBits))) :
    ∃ m e, f.decode v = .fin (v / 2 ^ (f.manBits + f.expBits) % 2 = 1) m e ∧
      (m : ℚ) * 2 ^ e = f.magnitude (v % 2 ^ (f.manBits + f.expBits)) := by
  obtain ⟨hM, hE⟩ := f.fields_mod v
  have hp := Nat.div_add_mod (v % 2 ^ (f.manBits + f.expBits)) (2 ^ f.manBits)
  have hlt : v % 2 ^ f.manBits < 2 ^ f.manBits := Nat.mod_lt _ (Nat.two_pow_pos _)
  obtain ⟨hs, h4⟩ := h
  rw [hE] at hs
  rw [hE, hM] at h4
  rw [hE, hM] at hp
  have h1 : (f.special && decide (v / 2 ^ f.manBits % 2 ^ f.expBits = 2 ^ f.expBits - 1)) = false := by
    simpa using hs
  have h2 : (f.e4m3 && decide (v / 2 ^ f.manBits % 2 ^ f.expBits = 2 ^ f.expBits - 1) &&
      decide (v % 2 ^ f.manBits = 2 ^ f.manBits - 1)) = false := by
    simpa [and_assoc] using h4
  simp only [FloatFormat.decode, h1, h2, Bool.false_eq_true, if_false, ← hp]
  cases v / 2 ^ f.manBits % 2 ^ f.expBits with
  | zero =>
    refine ⟨_, _, if_pos rfl, ?_⟩
    rw [Nat.mul_zero, Nat.zero_add, f.magnitude_subnormal hlt]
  | succ k =>
    refine ⟨_, _, if_neg (Nat.succ_ne_zero k), ?_⟩
    rw [f.magnitude_normal hlt, Nat.cast_succ, ← add_assoc, add_sub_cancel_right]

theorem FloatFormat.value_decode_of_not_isNumber {v : Nat} (h : ¬f.IsNumber (v % 2 ^ (f.manBits + f.expBits))) :
    (f.decode v).value = none := by
  obtain ⟨hM, hE⟩ := f.fields_mod v
  rw [FloatFormat.IsNumber, hM, hE] at h
  unfold FloatFormat.decode
  extract_lets m e n top
  by_cases hs : (f.special && decide (e = top)) = true
  · rw [if_pos hs]
    split <;> rfl
  · rw [if_neg hs]
    have h4 : (f.e4m3 && decide (e = top) && decide (m = 2 ^ f.manBits - 1)) = true := by
      by_contra h4
      exact h ⟨fun a b => hs (by simp [a, e, top, b]), fun a b => h4 (by simp [a, e, top, m, b])⟩
    rw [if_pos h4]
    rfl

theorem Num.value_fin (n : Bool) (m : Nat) (e : Int) :
    (Num.fin n m e).value = some ((if n then -1 else 1) * ((m : ℚ) * 2 ^ e)) := by
  rw [Num.value, mul_assoc]

/-- Every finite value of a format is the magnitude of a pattern up to the largest finite one, under either sign. -/
theorem FloatFormat.abs_value_decode (he : 1 ≤ f.expBits) {v : Nat} {y : ℚ} (h : (f.decode v).value = some y) :
    ∃ p, p ≤ f.maxPattern ∧ |y| = f.magnitude p := by
  by_cases hn : f.IsNumber (v % 2 ^ (f.manBits + f.expBits))
  · obtain ⟨m, e, hd, hm⟩ := f.decode_of_isNumber hn
    rw [hd, Num.value_fin, hm, Option.some_inj] at h
    refine ⟨_, (f.isNumber_iff he (Nat.mod_lt _ (Nat.two_pow_pos _))).mp hn, ?_⟩
    rw [← h]
    split <;> simp [abs_of_nonneg (f.magnitude_nonneg _)]
  · rw [f.value_decode_of_not_isNumber hn] at h
    cases h

theorem FloatFormat.signBit_eq (n : Bool) : f.signBit n = 2 ^ (f.manBits + f.expBits) * n.toNat := by
  rw [FloatFormat.signBit, FloatFormat.width, Nat.add_assoc, Nat.add_sub_cancel_left, Nat.add_comm f.expBits]
  cases n <;> simp

/-- A number under a sign bit decodes to its magnitude under that sign. -/
theorem FloatFormat.decode_signBit_add (he : 1 ≤ f.expBits) (n : Bool) {p : Nat} (hp : p ≤ f.maxPattern) :
    ∃ m e, f.decode (f.signBit n + p) = .fin n m e ∧ (m : ℚ) * 2 ^ e = f.magnitude p := by
  have hlt := hp.trans_lt (f.maxPattern_lt he)
  have hmod : (f.signBit n + p) % 2 ^ (f.manBits + f.expBits) = p := by
    rw [f.signBit_eq, Nat.mul_add_mod, Nat.mod_eq_of_lt hlt]
  have hsign : (f.signBit n + p) / 2 ^ (f.manBits + f.expBits) = n.toNat := by
    rw [f.signBit_eq, Nat.mul_add_div (Nat.two_pow_pos _), Nat.div_eq_of_lt hlt, Nat.add_zero]
  obtain ⟨m, e, hd, hm⟩ := f.decode_of_isNumber (v := f.signBit n + p)
    (by rw [hmod]; exact (f.isNumber_iff he hlt).mpr hp)
  rw [hmod] at hm
  rw [hsign] at hd
  exact ⟨m, e, by rw [hd]; cases n <;> rfl, hm⟩

end

end Sys2Proof

/-! PROOF. O56: the values of elements, block scales and codebook entries. -/

namespace Sys2Proof

/-! ### Fields of a pattern (R79) -/

/-- The value of R79 by exponent and mantissa fields. -/
theorem FloatFormat.magnitude_fields (f : FloatFormat) (E : Nat) {M : Nat} (hM : M < 2 ^ f.manBits) :
    f.magnitude (2 ^ f.manBits * E + M) = if E = 0 then (2 : ℚ) ^ (1 - (f.bias : Int)) * ((M : ℚ) / 2 ^ f.manBits)
      else (2 : ℚ) ^ ((E : Int) - f.bias) * (1 + (M : ℚ) / 2 ^ f.manBits) := by
  have hB : (2 : ℚ) ^ f.manBits ≠ 0 := by positivity
  cases E with
  | zero =>
    rw [if_pos rfl, Nat.mul_zero, Nat.zero_add, f.magnitude_subnormal hM, FloatFormat.minExp,
      zpow_sub₀ two_ne_zero, zpow_natCast]
    ring
  | succ k =>
    rw [if_neg (Nat.succ_ne_zero k), f.magnitude_normal hM, FloatFormat.minExp,
      show 1 - (f.bias : Int) - f.manBits + k = ((k + 1 : Nat) : Int) - f.bias - f.manBits by push_cast; ring,
      zpow_sub₀ two_ne_zero _ (f.manBits : Int), zpow_natCast]
    push_cast
    field_simp

/-- The value of a pattern that is a number, by its three fields (R79). -/
theorem FloatFormat.value_decode_fields (f : FloatFormat) {S E M : Nat} (hS : S < 2) (hE : E < 2 ^ f.expBits)
    (hM : M < 2 ^ f.manBits) (hs : f.special = true → E ≠ 2 ^ f.expBits - 1)
    (h4 : f.e4m3 = true → ¬(E = 2 ^ f.expBits - 1 ∧ M = 2 ^ f.manBits - 1)) :
    (f.decode (2 ^ (f.manBits + f.expBits) * S + 2 ^ f.manBits * E + M)).value =
      some ((-1 : ℚ) ^ S * f.magnitude (2 ^ f.manBits * E + M)) := by
  have hlt : 2 ^ f.manBits * E + M < 2 ^ (f.manBits + f.expBits) := by
    rw [pow_add]
    calc 2 ^ f.manBits * E + M < 2 ^ f.manBits * (E + 1) := by rw [Nat.mul_succ]; omega
      _ ≤ 2 ^ f.manBits * 2 ^ f.expBits := Nat.mul_le_mul_left _ hE
  rw [Nat.add_assoc]
  obtain ⟨m, e, hd, hm⟩ := f.decode_of_isNumber
    (v := 2 ^ (f.manBits + f.expBits) * S + (2 ^ f.manBits * E + M)) (by
      rw [Nat.mul_add_mod, Nat.mod_eq_of_lt hlt, FloatFormat.IsNumber, Nat.mul_add_div (Nat.two_pow_pos _),
        Nat.div_eq_of_lt hM, Nat.mul_add_mod, Nat.mod_eq_of_lt hM]
      exact ⟨hs, h4⟩)
  rw [Nat.mul_add_mod, Nat.mod_eq_of_lt hlt] at hm
  rw [Nat.mul_add_div (Nat.two_pow_pos _), Nat.div_eq_of_lt hlt, Nat.add_zero, Nat.mod_eq_of_lt hS] at hd
  rw [hd, Num.value_fin, hm]
  obtain rfl | rfl : S = 0 ∨ S = 1 := by omega
  · simp
  · simp

/-! ### Integers (R80) -/

theorem Num.value_ofInt (i : Int) : (Num.ofInt i).value = some (i : ℚ) := by
  rw [Num.ofInt, Num.value_fin, zpow_zero, mul_one, Nat.cast_natAbs, Int.cast_abs]
  by_cases h : i < 0
  · have hq : (i : ℚ) < 0 := by exact_mod_cast h
    simp [h, abs_of_neg hq]
  · have hq : (0 : ℚ) ≤ i := by exact_mod_cast Int.not_lt.mp h
    simp [h, abs_of_nonneg hq]

theorem signedOf_toNat {w : Nat} (hw : 0 < w) (v : BitVec w) : signedOf w v.toNat = v.toInt := by
  obtain ⟨k, rfl⟩ := Nat.exists_eq_succ_of_ne_zero hw.ne'
  rw [signedOf, BitVec.toInt_eq_toNat_cond, Nat.succ_sub_one, Nat.mod_eq_of_lt v.isLt]
  have hhalf : v.toNat < 2 ^ k ↔ 2 * v.toNat < 2 ^ (k + 1) := by rw [pow_succ]; omega
  have hmod : (v.toNat : Int) % 2 ^ (k + 1) = v.toNat := by
    exact_mod_cast Int.emod_eq_of_lt (Int.natCast_nonneg _) (Int.ofNat_lt.mpr v.isLt)
  simp only [Nat.succ_eq_add_one, hhalf, hmod]
  push_cast
  rfl

/-! ### Scales and codebook entries (R82, R85) -/

theorem Num.value_scale (k : Int) (v : Num) : (v.scale k).value = v.value.map fun q => (2 : ℚ) ^ k * q := by
  cases v with
  | nan => rfl
  | inf n => rfl
  | fin n m e =>
    rw [Num.scale, Num.value_fin, Num.value_fin, Option.map_some, zpow_add₀ two_ne_zero]
    ring_nf

theorem applyScale_of_le {x : Nat} (hx : x ≤ 0xFE) (v : Num) : applyScale x v = v.scale ((x : Int) - 127) :=
  if_neg (by omega)

theorem value_applyScale {x : Nat} (hx : x ≤ 0xFE) (v : Num) :
    (applyScale x v).value = v.value.map fun q => (2 : ℚ) ^ ((x : Int) - 127) * q := by
  rw [applyScale_of_le hx, Num.value_scale]

/-- The NaN bytes of E4M3 are 0x7F and 0xFF, and it has no infinity (R78). -/
theorem e4m3_decode_byte (b : Byte) : if b = 0x7F ∨ b = 0xFF then e4m3.decode b.toNat = .nan
    else (e4m3.decode b.toNat).isFinite = true := by
  revert b; decide +kernel

theorem Num.value_of_isFinite {v : Num} (h : v.isFinite = true) : ∃ q, v.value = some q := by
  cases v with
  | nan => cases h
  | inf n => cases h
  | fin n m e => exact ⟨_, Num.value_fin n m e⟩

theorem decodeElem_codebook {set : List Byte} {i : Nat} {b : Byte} (h : set[i]? = some b) :
    decodeElem 11 set i = e4m3.decode b.toNat := by
  change e4m3.decode (set.getD i 0).toNat = _
  rw [List.getD_eq_getElem?_getD, h]
  rfl

/-- Settles O56: the fields of a pattern give its magnitude, two's complement gives the integers, and a scale multiplies
by its power of two. -/
theorem elementValues : Obligations.ElementValues := by
  unfold Obligations.ElementValues
  refine ⟨?_, ?_, ⟨rfl, rfl, rfl⟩, ?_, fun _ => rfl, ?_⟩
  · intro f _ S E M hS hE hM hs h4
    rw [f.value_decode_fields hS hE hM hs h4, f.magnitude_fields E hM]
  · refine fun set => ⟨fun v => ?_, fun v => ?_, fun v => ?_, fun v => ?_⟩
    · change (Num.ofInt (signedOf 4 v.toNat)).value = _
      rw [Num.value_ofInt, signedOf_toNat (by decide)]
    · change (Num.ofInt (signedOf 8 v.toNat)).value = _
      rw [Num.value_ofInt, signedOf_toNat (by decide)]
    · change (Num.ofInt (signedOf 32 v.toNat)).value = _
      rw [Num.value_ofInt, signedOf_toNat (by decide)]
    · change ((Num.ofInt (signedOf 8 v.toNat)).scale (-6)).value = _
      rw [Num.value_scale, Num.value_ofInt, signedOf_toNat (by decide), Option.map_some,
        show (2 : ℚ) ^ (-6 : Int) = 1 / 64 by norm_num, one_div_mul_eq_div]
  · exact fun v x hx => value_applyScale hx v
  · intro set i x b hb hx
    rw [decodeElem_codebook hb]
    have hbyte := e4m3_decode_byte b
    split
    · next hnan =>
      rw [if_pos hnan] at hbyte
      rw [hbyte, applyScale_of_le hx]
      rfl
    · next hnum =>
      rw [if_neg hnum] at hbyte
      obtain ⟨T, hT⟩ := Num.value_of_isFinite hbyte
      exact ⟨T, hT, by rw [value_applyScale hx, hT, Option.map_some]⟩

end Sys2Proof

/-! PROOF. O57: a magnitude is rounded to a whole number of units, at least as near as any other whole number (R97); and every
value of the format is a whole number of these units, or lies below them all. -/

namespace Sys2Proof

/-! ### Whole units -/

/-- An integer within a half of `t`, and even at a half, is a nearest integer to `t`, and even where another is as near. -/
theorem nearest_of_abs_sub_le_half {t : ℚ} {r : ℤ} (h : |t - r| ≤ 1 / 2) (heven : |t - r| = 1 / 2 → Even r) (k : ℤ) :
    |t - r| ≤ |t - k| ∧ (|t - r| = |t - k| → k ≠ r → Even r) := by
  by_cases hk : k = r
  · subst hk; exact ⟨le_rfl, fun _ h => absurd rfl h⟩
  · have hone : (1 : ℚ) ≤ |(r : ℚ) - k| := by
      have hz : 1 ≤ |r - k| := Int.one_le_abs (sub_ne_zero.mpr (Ne.symm hk))
      exact_mod_cast hz
    have htri : |(r : ℚ) - k| ≤ |t - r| + |t - k| := by
      rw [abs_sub_comm t r]; exact abs_sub_le _ _ _
    exact ⟨by linarith, fun he _ => heven (by linarith)⟩

theorem roundUnits_nearestEven (neg : Bool) {n rest unit : Nat} (h : rest < unit) :
    roundUnits .nearestEven neg n rest unit =
      if unit < 2 * rest ∨ (2 * rest = unit ∧ n % 2 = 1) then n + 1 else n := by
  unfold roundUnits
  by_cases h0 : rest = 0
  · rw [if_pos h0, if_neg (by omega)]
  · rw [if_neg h0]
    simp

/-- Rounding to nearest even moves `n + rest / unit` by at most a half, and by a half only to an even number (R97). -/
theorem roundUnits_within_half (neg : Bool) {n rest unit : Nat} (h : rest < unit) :
    |(n : ℚ) + rest / unit - (roundUnits .nearestEven neg n rest unit : ℤ)| ≤ 1 / 2 ∧
    (|(n : ℚ) + rest / unit - (roundUnits .nearestEven neg n rest unit : ℤ)| = 1 / 2 →
      Even (roundUnits .nearestEven neg n rest unit : ℤ)) := by
  have hu : (0 : ℚ) < unit := by exact_mod_cast Nat.zero_lt_of_lt h
  have hnonneg : (0 : ℚ) ≤ rest / unit := by positivity
  have hle : (rest : ℚ) / unit ≤ 1 := (div_le_one hu).mpr (by exact_mod_cast h.le)
  rw [roundUnits_nearestEven neg h]
  split
  · next hup =>
    have half_le : (1 : ℚ) / 2 ≤ rest / unit := by
      rw [div_le_div_iff₀ two_pos hu]
      norm_cast
      omega
    have habs : |(n : ℚ) + rest / unit - ((n + 1 : Nat) : ℤ)| = 1 - rest / unit := by
      push_cast
      rw [abs_sub_comm, abs_of_nonneg (by linarith)]
      ring
    rw [habs]
    refine ⟨by linarith, fun he => ?_⟩
    have htie : 2 * rest = unit := by
      have hhalf : (rest : ℚ) / unit = 1 / 2 := by linarith
      rw [div_eq_div_iff hu.ne' two_ne_zero] at hhalf
      norm_cast at hhalf
      omega
    exact (Int.even_coe_nat _).mpr (Nat.even_iff.mpr (by omega))
  · next hstay =>
    have le_half : (rest : ℚ) / unit ≤ 1 / 2 := by
      rw [div_le_div_iff₀ hu two_pos]
      norm_cast
      omega
    have habs : |(n : ℚ) + rest / unit - ((n : Nat) : ℤ)| = rest / unit := by
      rw [Int.cast_natCast, add_sub_cancel_left, abs_of_nonneg hnonneg]
    rw [habs]
    refine ⟨le_half, fun hhalf => ?_⟩
    have htie : 2 * rest = unit := by
      rw [div_eq_div_iff hu.ne' two_ne_zero] at hhalf
      norm_cast at hhalf
      omega
    exact (Int.even_coe_nat _).mpr (Nat.even_iff.mpr (by omega))

theorem inUnits_eq (m : Nat) (e q : Int) : (inUnits m e q).2.1 < (inUnits m e q).2.2 ∧
    (m : ℚ) * 2 ^ e = ((inUnits m e q).1 + ((inUnits m e q).2.1 : ℚ) / (inUnits m e q).2.2) * 2 ^ q := by
  unfold inUnits
  split
  · next hq =>
    obtain ⟨k, rfl⟩ : ∃ k : Nat, e = q + k := ⟨(e - q).toNat, by omega⟩
    refine ⟨Nat.one_pos, ?_⟩
    rw [show (q + k - q).toNat = k by omega, zpow_add₀ two_ne_zero, zpow_natCast]
    push_cast
    ring
  · next hq =>
    obtain ⟨k, rfl⟩ : ∃ k : Nat, q = e + k := ⟨(q - e).toNat, by omega⟩
    rw [show (e + k - e).toNat = k by omega]
    refine ⟨Nat.mod_lt _ (Nat.two_pow_pos k), ?_⟩
    have hdiv : (2 : ℚ) ^ k * (m / 2 ^ k : Nat) + (m % 2 ^ k : Nat) = m := by
      exact_mod_cast Nat.div_add_mod m (2 ^ k)
    rw [zpow_add₀ two_ne_zero, zpow_natCast]
    push_cast at hdiv ⊢
    field_simp
    linarith

/-! ### Rounding a magnitude to a format -/

/-- The whole number of units that a magnitude is rounded to. -/
def FloatFormat.rounded (f : FloatFormat) (neg : Bool) (m : Nat) (e : Int) : Nat :=
  roundUnits .nearestEven neg (inUnits m e (f.unitExp m e)).1 (inUnits m e (f.unitExp m e)).2.1
    (inUnits m e (f.unitExp m e)).2.2

section
variable (f : FloatFormat) (neg : Bool) {m : Nat} (e : Int)

theorem FloatFormat.minExp_le_unitExp : f.minExp ≤ f.unitExp m e := le_max_left _ _

theorem FloatFormat.roundMagnitude_eq (hm : m ≠ 0) :
    f.roundMagnitude .nearestEven neg m e = f.pattern (f.rounded neg m e) (f.unitExp m e) := if_neg hm

/-- The multiple of the unit that a magnitude is rounded to is a nearest one, and even where another is as near. -/
theorem FloatFormat.rounded_nearest (k : ℤ) :
    |(m : ℚ) * 2 ^ e - f.rounded neg m e * 2 ^ f.unitExp m e| ≤ |(m : ℚ) * 2 ^ e - k * 2 ^ f.unitExp m e| ∧
    (|(m : ℚ) * 2 ^ e - f.rounded neg m e * 2 ^ f.unitExp m e| = |(m : ℚ) * 2 ^ e - k * 2 ^ f.unitExp m e| →
      k ≠ f.rounded neg m e → Even (f.rounded neg m e : ℤ)) := by
  obtain ⟨hlt, heq⟩ := inUnits_eq m e (f.unitExp m e)
  obtain ⟨hhalf, heven⟩ := roundUnits_within_half neg (n := (inUnits m e (f.unitExp m e)).1) hlt
  obtain ⟨hle, htie⟩ := nearest_of_abs_sub_le_half hhalf heven k
  have hu : (0 : ℚ) < 2 ^ f.unitExp m e := by positivity
  rw [heq, ← Int.cast_natCast (f.rounded neg m e), ← sub_mul, ← sub_mul, abs_mul, abs_mul, abs_of_pos hu,
    mul_le_mul_iff_left₀ hu, mul_left_inj' hu.ne']
  exact ⟨hle, htie⟩

/-- A magnitude lies below twice `2 ^ manBits` of its units, and at or above that where its unit is not the smallest. -/
theorem FloatFormat.lt_unitExp (hm : m ≠ 0) :
    (m : ℚ) * 2 ^ e < 2 ^ (f.manBits + 1) * 2 ^ f.unitExp m e ∧
    (f.unitExp m e ≠ f.minExp → (2 : ℚ) ^ f.manBits * 2 ^ f.unitExp m e ≤ m * 2 ^ e) := by
  have he : (0 : ℚ) < 2 ^ e := by positivity
  rw [← zpow_natCast, ← zpow_natCast, ← zpow_add₀ two_ne_zero, ← zpow_add₀ two_ne_zero]
  constructor
  · have hlog : (m : ℚ) < 2 ^ ((Nat.log2 m : Int) + 1) := by exact_mod_cast Nat.lt_log2_self (n := m)
    calc (m : ℚ) * 2 ^ e < 2 ^ ((Nat.log2 m : Int) + 1) * 2 ^ e := mul_lt_mul_of_pos_right hlog he
      _ = 2 ^ ((Nat.log2 m : Int) + 1 + e) := (zpow_add₀ two_ne_zero _ _).symm
      _ ≤ 2 ^ (((f.manBits + 1 : Nat) : Int) + f.unitExp m e) :=
        zpow_le_zpow_right₀ one_le_two (by rw [FloatFormat.unitExp]; omega)
  · intro hq
    have hlog : (2 : ℚ) ^ (Nat.log2 m : Int) ≤ m := by exact_mod_cast Nat.log2_self_le hm
    calc (2 : ℚ) ^ ((f.manBits : Int) + f.unitExp m e) = 2 ^ ((Nat.log2 m : Int) + e) := by
          congr 1; unfold FloatFormat.unitExp at hq ⊢; omega
      _ = 2 ^ (Nat.log2 m : Int) * 2 ^ e := zpow_add₀ two_ne_zero _ _
      _ ≤ m * 2 ^ e := mul_le_mul_of_nonneg_right hlog he.le

theorem FloatFormat.rounded_le_of_le {k : Nat} (h : (m : ℚ) * 2 ^ e ≤ k * 2 ^ f.unitExp m e) :
    f.rounded neg m e ≤ k := by
  by_contra hk
  have hu : (0 : ℚ) < 2 ^ f.unitExp m e := by positivity
  have hX : (k : ℚ) * 2 ^ f.unitExp m e < f.rounded neg m e * 2 ^ f.unitExp m e :=
    mul_lt_mul_of_pos_right (by exact_mod_cast Nat.lt_of_not_le hk) hu
  have hnear := (f.rounded_nearest neg (m := m) e k).1
  rw [Int.cast_natCast, abs_of_nonpos (by linarith), abs_of_nonpos (by linarith)] at hnear
  linarith

theorem FloatFormat.le_rounded_of_le {k : Nat} (h : (k : ℚ) * 2 ^ f.unitExp m e ≤ m * 2 ^ e) :
    k ≤ f.rounded neg m e := by
  by_contra hk
  have hu : (0 : ℚ) < 2 ^ f.unitExp m e := by positivity
  have hX : (f.rounded neg m e : ℚ) * 2 ^ f.unitExp m e < k * 2 ^ f.unitExp m e :=
    mul_lt_mul_of_pos_right (by exact_mod_cast Nat.lt_of_not_le hk) hu
  have hnear := (f.rounded_nearest neg (m := m) e k).1
  rw [Int.cast_natCast, abs_of_nonneg (by linarith), abs_of_nonneg (by linarith)] at hnear
  linarith

/-- The pattern of `n` units stands for `n` units, up to and with the first value of the next binade. -/
theorem FloatFormat.magnitude_pattern {n : Nat} {q : Int} (hq : f.minExp ≤ q) (hn : n ≤ 2 ^ (f.manBits + 1))
    (hnormal : q ≠ f.minExp → 2 ^ f.manBits ≤ n) : f.magnitude (f.pattern n q) = n * 2 ^ q := by
  obtain ⟨k, rfl⟩ : ∃ k : Nat, q = f.minExp + k := ⟨(q - f.minExp).toNat, by omega⟩
  rw [FloatFormat.pattern, show (f.minExp + (k : Int) - f.minExp).toNat = k by omega]
  split
  · next hsub =>
    have hk : (k : Int) = 0 := by by_contra h; have := hnormal (by omega); omega
    rw [f.magnitude_subnormal hsub, hk, add_zero]
  · next hge =>
    rw [pow_succ] at hn
    obtain ⟨M, rfl⟩ := Nat.exists_eq_add_of_le (Nat.le_of_not_lt hge)
    rcases (show M ≤ 2 ^ f.manBits by omega).lt_or_eq with hM | rfl
    · have h := f.magnitude_normal (k := k) hM
      rwa [Nat.mul_succ, Nat.mul_comm, Nat.add_assoc] at h
    · have h := f.magnitude_normal (k := k + 1) (Nat.two_pow_pos f.manBits)
      rw [Nat.mul_succ, Nat.mul_succ, Nat.mul_comm, Nat.add_assoc, Nat.add_assoc, Nat.add_zero, Nat.add_zero] at h
      rw [h]
      push_cast
      rw [← add_assoc, zpow_add_one₀ two_ne_zero]
      ring

/-- The pattern that a magnitude is rounded to stands for the number of units that it is rounded to. -/
theorem FloatFormat.magnitude_roundMagnitude (hm : m ≠ 0) :
    f.magnitude (f.roundMagnitude .nearestEven neg m e) = f.rounded neg m e * 2 ^ f.unitExp m e := by
  obtain ⟨hlt, hge⟩ := f.lt_unitExp e hm
  rw [f.roundMagnitude_eq neg e hm]
  exact f.magnitude_pattern (f.minExp_le_unitExp e) (f.rounded_le_of_le neg e (by exact_mod_cast hlt.le))
    fun hq => f.le_rounded_of_le neg e (by exact_mod_cast hge hq)

theorem FloatFormat.pattern_mod_two (hB : 1 ≤ f.manBits) (n : Nat) (q : Int) : f.pattern n q % 2 = n % 2 := by
  have hdvd : 2 ∣ (q - f.minExp).toNat * 2 ^ f.manBits := Dvd.dvd.mul_left (dvd_pow_self 2 (by omega)) _
  simp only [FloatFormat.pattern]
  split
  · rfl
  · omega

/-- Every value of the format, of either sign, is a whole number of units of a magnitude, or lies below the magnitude and
every number of its units that it can be rounded to. -/
theorem FloatFormat.whole_or_below (hm : m ≠ 0) {p : Nat} {y : ℚ} (hy : |y| = f.magnitude p) :
    (∃ k : ℤ, y = k * 2 ^ f.unitExp m e) ∨
    (y < 2 ^ f.manBits * 2 ^ f.unitExp m e ∧ (2 : ℚ) ^ f.manBits * 2 ^ f.unitExp m e ≤ m * 2 ^ e) := by
  obtain ⟨c, k, hc, hp⟩ := f.magnitude_eq p
  rw [hp] at hy
  by_cases hk : f.unitExp m e ≤ f.minExp + k
  · left
    obtain ⟨d, hd⟩ : ∃ d : Nat, f.minExp + k = f.unitExp m e + d := ⟨(f.minExp + k - f.unitExp m e).toNat, by omega⟩
    rw [hd, zpow_add₀ two_ne_zero, zpow_natCast] at hy
    rcases abs_eq_abs.mp (hy.trans (abs_of_nonneg (by positivity)).symm) with h | h
    · exact ⟨c * 2 ^ d, by rw [h]; push_cast; ring⟩
    · exact ⟨-(c * 2 ^ d), by rw [h]; push_cast; ring⟩
  · right
    have hmin := f.minExp_le_unitExp (m := m) e
    refine ⟨?_, (f.lt_unitExp e hm).2 (by omega)⟩
    calc y ≤ |y| := le_abs_self y
      _ = c * 2 ^ (f.minExp + k) := hy
      _ < 2 ^ (f.manBits + 1) * 2 ^ (f.minExp + k) :=
        mul_lt_mul_of_pos_right (by exact_mod_cast hc) (by positivity)
      _ = 2 ^ f.manBits * 2 ^ (f.minExp + k + 1) := by rw [zpow_add_one₀ two_ne_zero]; ring
      _ ≤ 2 ^ f.manBits * 2 ^ f.unitExp m e :=
        mul_le_mul_of_nonneg_left (zpow_le_zpow_right₀ one_le_two (by omega)) (by positivity)

/-- The pattern that a magnitude is rounded to, with no upper limit on the exponent, is a nearest one, and even where another is
as near. -/
theorem FloatFormat.roundMagnitude_nearest (hB : 1 ≤ f.manBits) {p : Nat} {y : ℚ} (hy : |y| = f.magnitude p) :
    |(m : ℚ) * 2 ^ e - f.magnitude (f.roundMagnitude .nearestEven neg m e)| ≤ |m * 2 ^ e - y| ∧
    (|(m : ℚ) * 2 ^ e - f.magnitude (f.roundMagnitude .nearestEven neg m e)| = |m * 2 ^ e - y| →
      f.magnitude (f.roundMagnitude .nearestEven neg m e) ≠ y → f.roundMagnitude .nearestEven neg m e % 2 = 0) := by
  by_cases hm : m = 0
  · subst hm
    have h0 : f.roundMagnitude .nearestEven neg 0 e = 0 := if_pos rfl
    have hz : f.magnitude 0 = 0 := by rw [f.magnitude_subnormal (Nat.two_pow_pos _)]; simp
    rw [h0, hz]
    simp
  · rw [f.magnitude_roundMagnitude neg e hm]
    rcases f.whole_or_below e hm hy with ⟨k, rfl⟩ | ⟨hlt, hge⟩
    · obtain ⟨hle, htie⟩ := f.rounded_nearest neg (m := m) e k
      refine ⟨hle, fun heq hne => ?_⟩
      rw [f.roundMagnitude_eq neg e hm, f.pattern_mod_two hB]
      refine Nat.even_iff.mp ((Int.even_coe_nat _).mp (htie heq ?_))
      rintro rfl
      exact hne (by rw [Int.cast_natCast])
    · have hnear := (f.rounded_nearest neg (m := m) e (2 ^ f.manBits : Nat)).1
      push_cast at hnear
      have hstrict : |(m : ℚ) * 2 ^ e - f.rounded neg m e * 2 ^ f.unitExp m e| < |m * 2 ^ e - y| := by
        rw [abs_of_nonneg (sub_nonneg.mpr hge)] at hnear
        rw [abs_of_nonneg (by linarith : 0 ≤ (m : ℚ) * 2 ^ e - y)]
        linarith
      exact ⟨hstrict.le, fun heq => absurd heq hstrict.ne⟩

end

/-! ### Conversion under round-to-nearest-even (R97) -/

section
variable {f : FloatFormat}

/-- The pattern, less its sign, that a conversion to nearest writes: beyond the range, the largest finite one. -/
def FloatFormat.saturated (f : FloatFormat) (n : Bool) (m : Nat) (e : Int) : Nat :=
  min (f.roundMagnitude .nearestEven n m e) f.maxPattern

theorem FloatFormat.convert_nearestEven_bits (n : Bool) (m : Nat) (e : Int) :
    (f.convert .nearestEven (.fin n m e)).bits = f.signBit n + f.saturated n m e := by
  simp only [FloatFormat.convert, FloatFormat.saturated, decide_eq_true_eq, Bool.false_eq_true, if_false]
  split
  · rw [min_eq_right (by omega)]
  · rw [min_eq_left (by omega)]

/-- What a conversion to nearest writes is a nearest finite value of the format, also beyond its range. -/
theorem FloatFormat.saturated_nearest (hB : 1 ≤ f.manBits) (n : Bool) (m : Nat) (e : Int) {p : Nat} {y : ℚ}
    (hp : p ≤ f.maxPattern) (hy : |y| = f.magnitude p) :
    |(m : ℚ) * 2 ^ e - f.magnitude (f.saturated n m e)| ≤ |m * 2 ^ e - y| ∧
    (|(m : ℚ) * 2 ^ e - f.magnitude (f.saturated n m e)| = |m * 2 ^ e - y| →
      f.magnitude (f.saturated n m e) ≠ y → f.saturated n m e % 2 = 0) := by
  unfold FloatFormat.saturated
  rcases Nat.lt_or_ge f.maxPattern (f.roundMagnitude .nearestEven n m e) with hgt | hle
  · rw [min_eq_right hgt.le]
    have hX := f.magnitude_strictMono hgt
    -- the magnitude itself is not below the largest finite value, since it was rounded to no less than that
    have hmax : f.magnitude f.maxPattern ≤ m * 2 ^ e := by
      by_contra hlt
      have hnear := (f.roundMagnitude_nearest n (m := m) e hB
        (abs_of_nonneg (f.magnitude_nonneg f.maxPattern))).1
      rw [abs_of_nonpos (by linarith), abs_of_nonpos (by linarith)] at hnear
      linarith
    have hyle : y ≤ f.magnitude f.maxPattern :=
      (le_abs_self y).trans (hy.trans_le (f.magnitude_strictMono.monotone hp))
    rw [abs_of_nonneg (by linarith), abs_of_nonneg (by linarith)]
    exact ⟨by linarith, fun heq hne => absurd (by linarith) hne⟩
  · rw [min_eq_left hle]
    exact f.roundMagnitude_nearest n e hB hy

theorem FloatFormat.signBit_add_mod_two (hB : 1 ≤ f.manBits) (n : Bool) (p : Nat) : (f.signBit n + p) % 2 = p % 2 := by
  have hdvd : 2 ∣ 2 ^ (f.manBits + f.expBits) * n.toNat := Dvd.dvd.mul_right (dvd_pow_self 2 (by omega)) _
  rw [f.signBit_eq]
  omega

/-- Each of the floating formats has an exponent and a mantissa field (R78). -/
theorem fields_of_mem_floatFormats : ∀ f ∈ floatFormats, 1 ≤ f.expBits ∧ 1 ≤ f.manBits := by decide

end

theorem sign_mul_sign_mul (n : Bool) (y : ℚ) : (if n then -1 else 1) * ((if n then -1 else 1) * y) = y := by
  cases n <;> simp

/-- Taking a sign off both of two values leaves their distance. -/
theorem abs_sign_mul_sub (n : Bool) (a y : ℚ) :
    |(if n then -1 else 1) * a - y| = |a - (if n then -1 else 1) * y| := by
  cases n
  · simp
  · rw [if_pos rfl, neg_one_mul, neg_one_mul, ← abs_neg]
    ring_nf

/-- Settles O57: a conversion writes its value's sign and the saturated magnitude, which is a nearest one. -/
theorem roundingIsNearest : Obligations.RoundingIsNearest := by
  unfold Obligations.RoundingIsNearest
  intro f hf n m e
  obtain ⟨hE, hB⟩ := fields_of_mem_floatFormats f hf
  obtain ⟨k, j, hd, hX⟩ := f.decode_signBit_add hE n (min_le_right (f.roundMagnitude .nearestEven n m e) f.maxPattern)
  rw [f.convert_nearestEven_bits]
  refine ⟨_, _, Num.value_fin n m e, by rw [FloatFormat.saturated, hd, Num.value_fin, hX], fun p y hy => ?_⟩
  obtain ⟨p', hp', habs⟩ := f.abs_value_decode hE hy
  have hsign : |(if n then -1 else 1) * y| = f.magnitude p' := by rw [← habs]; cases n <;> simp
  obtain ⟨hle, htie⟩ := f.saturated_nearest hB n m e hp' hsign
  rw [f.signBit_add_mod_two hB, abs_sign_mul_sub, abs_sign_mul_sub, sign_mul_sign_mul]
  refine ⟨hle, fun heq hne => htie heq fun h => hne ?_⟩
  change _ * f.magnitude (f.saturated n m e) = y
  rw [h, sign_mul_sign_mul]

end Sys2Proof

/-! PROOF. O58: integers of up to 24 bits are values of FP32, so that rounding gives back an exact one, and their exact sum is
rounded to its own pattern (R90, R93). -/

namespace Sys2Proof

/-! ### Rounding of a value that the format holds -/

theorem FloatFormat.roundMagnitude_of_exact {f : FloatFormat} (hB : 1 ≤ f.manBits) (n : Bool) {m p : Nat} {e : Int}
    (h : (m : ℚ) * 2 ^ e = f.magnitude p) : f.roundMagnitude .nearestEven n m e = p := by
  have hnear := (f.roundMagnitude_nearest n (m := m) e hB (abs_of_nonneg (f.magnitude_nonneg p))).1
  rw [h, sub_self, abs_zero] at hnear
  exact f.magnitude_strictMono.injective (sub_eq_zero.mp (abs_nonpos_iff.mp hnear)).symm

/-- A value that the format holds is rounded to its own pattern under its sign (R95). -/
theorem FloatFormat.round_of_exact {f : FloatFormat} (hB : 1 ≤ f.manBits) (n : Bool) {m p : Nat} {e : Int}
    (hp : p ≤ f.maxPattern) (h : (m : ℚ) * 2 ^ e = f.magnitude p) :
    f.round .nearestEven (.fin n m e) = f.signBit n + p := by
  simp only [FloatFormat.round, f.roundMagnitude_of_exact hB n h, if_pos hp]

/-! ### Integers as numbers -/

/-- A number that is the integer `i`, and +0 where that is zero. -/
def Num.IsInt (i : Int) (v : Num) : Prop :=
  ∃ m e, v = .fin (decide (i < 0)) m e ∧ (m : ℚ) * 2 ^ e = (i.natAbs : ℚ)

theorem Num.isInt_ofInt (i : Int) : (Num.ofInt i).IsInt i := ⟨_, _, rfl, by rw [zpow_zero, mul_one]⟩

theorem Num.IsInt.value {i : Int} {v : Num} (h : v.IsInt i) : v.value = some (i : ℚ) := by
  obtain ⟨m, e, rfl, hm⟩ := h
  have hi := Num.value_ofInt i
  rw [Num.ofInt, Num.value_fin, zpow_zero, mul_one] at hi
  rw [Num.value_fin, hm, hi]

theorem cast_mantissaAt (n : Bool) (m : Nat) {e g : Int} (hg : g ≤ e) :
    (mantissaAt n m e g : ℚ) * 2 ^ g = (if n then -1 else 1) * (m * 2 ^ e) := by
  obtain ⟨k, rfl⟩ : ∃ k : Nat, e = g + k := ⟨(e - g).toNat, by omega⟩
  rw [mantissaAt, show (g + k - g).toNat = k by omega, zpow_add₀ two_ne_zero, zpow_natCast]
  cases n <;> simp <;> ring

theorem Num.isInt_of_mantissa {t i g : Int} (h : (t : ℚ) * 2 ^ g = i) :
    (Num.fin (decide (t < 0)) t.natAbs g).IsInt i := by
  have hpos : (0 : ℚ) < 2 ^ g := by positivity
  have hneg : t < 0 ↔ i < 0 := by
    rw [← Int.cast_lt_zero (R := ℚ), ← Int.cast_lt_zero (R := ℚ) (n := i), ← h, ← mul_lt_mul_iff_left₀ hpos,
      zero_mul]
  refine ⟨t.natAbs, g, by rw [decide_eq_decide.mpr hneg], ?_⟩
  rw [Nat.cast_natAbs, Nat.cast_natAbs, Int.cast_abs, Int.cast_abs, ← h, abs_mul, abs_of_pos hpos]

/-- The exact sum of two integers is their sum, and +0 where it is zero (R95). -/
theorem Num.IsInt.add {a b : Int} {u v : Num} (hu : u.IsInt a) (hv : v.IsInt b) :
    (u.add .nearestEven v).IsInt (a + b) := by
  have hua := hu.value
  have hvb := hv.value
  obtain ⟨m, e, rfl, -⟩ := hu
  obtain ⟨l, f, rfl, -⟩ := hv
  rw [Num.value_fin, Option.some_inj] at hua hvb
  have hsum : ((mantissaAt (decide (a < 0)) m e (min e f) + mantissaAt (decide (b < 0)) l f (min e f) : ℤ) : ℚ) *
      2 ^ min e f = ((a + b : ℤ) : ℚ) := by
    push_cast
    rw [add_mul, cast_mantissaAt _ _ (min_le_left e f), cast_mantissaAt _ _ (min_le_right e f), hua, hvb]
  simp only [Num.add]
  generalize mantissaAt (decide (a < 0)) m e (min e f) + mantissaAt (decide (b < 0)) l f (min e f) = t at hsum ⊢
  split
  · next ht =>
    rw [ht, Int.cast_zero, zero_mul] at hsum
    have hab : a + b = 0 := by exact_mod_cast hsum.symm
    refine ⟨0, 0, ?_, by simp [hab]⟩
    -- summands of one sign add up to zero only where both are +0
    have hsign : (if decide (a < 0) = decide (b < 0) then decide (a < 0) else false) = decide (a + b < 0) := by
      rw [hab]
      split
      · next hs => rw [decide_eq_decide] at hs; rw [decide_eq_decide]; omega
      · rfl
    rw [← hsign]
    rfl
  · exact Num.isInt_of_mantissa hsum

/-! ### Integers in FP32 (R93) -/

theorem fp32_magnitude_two_pow_24 : fp32.magnitude 0x4B800000 = 2 ^ 24 := by
  have hfields : 0x4B800000 = 2 ^ fp32.manBits * (150 + 1) + 0 := by decide
  rw [hfields, fp32.magnitude_normal (Nat.two_pow_pos _)]
  norm_num [FloatFormat.minExp, fp32]

/-- Up to 2^24 every integer is a value of FP32: with its highest bit as the significand's. -/
theorem exists_fp32_magnitude {k : Nat} (hk : k ≤ 2 ^ 24) : ∃ p, p ≤ fp32.maxPattern ∧ fp32.magnitude p = k := by
  rcases Nat.eq_zero_or_pos k with rfl | hpos
  · exact ⟨0, Nat.zero_le _, by rw [fp32.magnitude_subnormal (Nat.two_pow_pos _), Nat.cast_zero, zero_mul]⟩
  rcases hk.lt_or_eq with hlt | rfl
  · obtain ⟨d, hd⟩ := Nat.exists_eq_add_of_le (Nat.le_of_lt_succ ((Nat.log2_lt hpos.ne').mpr hlt))
    have hlow : 2 ^ 23 ≤ k * 2 ^ d := by
      rw [hd, pow_add]; exact Nat.mul_le_mul_right _ (Nat.log2_self_le hpos.ne')
    have hhigh : k * 2 ^ d ≤ 2 ^ 24 := by
      rw [show 24 = Nat.log2 k + 1 + d by omega, pow_add]
      exact Nat.mul_le_mul_right _ Nat.lt_log2_self.le
    have hmag : fp32.magnitude (fp32.pattern (k * 2 ^ d) (-(d : Int))) = k := by
      rw [fp32.magnitude_pattern (show (-149 : Int) ≤ -d by omega) hhigh fun _ => hlow, zpow_neg, zpow_natCast]
      push_cast
      field_simp
    refine ⟨_, ?_, hmag⟩
    have hle : fp32.pattern (k * 2 ^ d) (-(d : Int)) < 0x4B800000 := by
      rw [← fp32.magnitude_strictMono.lt_iff_lt, hmag, fp32_magnitude_two_pow_24]
      exact_mod_cast hlt
    exact hle.le.trans (by decide)
  · exact ⟨0x4B800000, by decide, by rw [fp32_magnitude_two_pow_24]; norm_num⟩

theorem Num.IsInt.round {i : Int} {v : Num} (h : v.IsInt i) (hi : i.natAbs ≤ 2 ^ 24) :
    ∃ p, p ≤ fp32.maxPattern ∧ fp32.magnitude p = i.natAbs ∧
      fp32.round .nearestEven v = fp32.signBit (i < 0) + p := by
  obtain ⟨m, e, rfl, hm⟩ := h
  obtain ⟨p, hp, hmag⟩ := exists_fp32_magnitude hi
  exact ⟨p, hp, hmag, fp32.round_of_exact (by decide) _ hp (hm.trans hmag.symm)⟩

/-- An integer of up to 24 bits is exact in FP32. -/
theorem Num.IsInt.decode_round {i : Int} {v : Num} (h : v.IsInt i) (hi : i.natAbs ≤ 2 ^ 24) :
    (fp32.decode (fp32.round .nearestEven v)).IsInt i := by
  obtain ⟨p, hp, hmag, hr⟩ := h.round hi
  obtain ⟨m, e, hd, hm⟩ := fp32.decode_signBit_add (by decide) (i < 0) hp
  exact ⟨m, e, by rw [hr, hd], hm.trans hmag⟩

theorem Num.IsInt.round_eq {i : Int} {u v : Num} (hu : u.IsInt i) (hv : v.IsInt i) (hi : i.natAbs ≤ 2 ^ 24) :
    fp32.round .nearestEven u = fp32.round .nearestEven v := by
  obtain ⟨p, -, hp, hru⟩ := hu.round hi
  obtain ⟨q, -, hq, hrv⟩ := hv.round hi
  rw [hru, hrv, fp32.magnitude_strictMono.injective (hp.trans hq.symm)]

theorem Num.IsInt.round_lt {i : Int} {v : Num} (h : v.IsInt i) (hi : i.natAbs ≤ 2 ^ 24) :
    fp32.round .nearestEven v < 2 ^ 32 := by
  obtain ⟨p, hp, -, hr⟩ := h.round hi
  have hlt : p < 2 ^ 31 := hp.trans_lt (fp32.maxPattern_lt (by decide))
  have hs : fp32.signBit (i < 0) ≤ 2 ^ 31 := by
    cases decide (i < 0) <;> decide
  rw [hr]
  omega

/-- Settles O58: the exact sum of two integers is an integer, which FP32 holds. -/
theorem integerSumsAreExact : Obligations.IntegerSumsAreExact := by
  unfold Obligations.IntegerSumsAreExact
  refine ⟨fun a ha => ((Num.isInt_ofInt a).decode_round ha).value, fun a b ha hb hab => ?_⟩
  have hda := (Num.isInt_ofInt a).decode_round ha
  have hdb := (Num.isInt_ofInt b).decode_round hb
  rw [fp32Add, BitVec.toNat_ofNat, BitVec.toNat_ofNat, Nat.mod_eq_of_lt ((Num.isInt_ofInt a).round_lt ha),
    Nat.mod_eq_of_lt ((Num.isInt_ofInt b).round_lt hb), (hda.add hdb).round_eq (Num.isInt_ofInt (a + b)) hab]

end Sys2Proof

/-! PROOF. O18: an atomic at its home slice reads, computes and stores (R276), and its old value goes to the peer that asked. -/

namespace Sys2Proof

@[simp] theorem Mem.length_readBytes (m : Mem) (a n : Nat) : (m.readBytes a n).length = n := by
  induction n generalizing a with
  | zero => rfl
  | succ n ih => rw [Mem.readBytes, List.length_cons, ih]

end Sys2Proof

namespace Sys2Proof.Machine

/-! ### The bytes that a read delivers (R168) -/

/-- The bytes of an extent that lie in the codeword at `w`. -/
def shareOf (off n w : Nat) : Nat := min (off + n) (w + 64) - max off w

@[simp] theorem State.length_delivered (s : State) (off n w : Nat) (left : ErrorPattern) :
    (s.delivered off n w left).length = shareOf off n w := by
  simp [State.delivered, State.held, shareOf]

/-- Codewords read without a fault deliver their shares of the extent. -/
theorem State.length_loadWords {s s1 : State} {off n : Nat} {r : Requester} {ws : List Nat} {acc d : List Byte}
    {f : Option Nat} (h : s.loadWords off n r ws acc f = (d, none, s1)) :
    f = none ∧ d.length = acc.length + (ws.map (shareOf off n)).sum := by
  induction ws generalizing s acc f with
  | nil =>
    cases h
    exact ⟨rfl, by simp⟩
  | cons w ws ih =>
    rw [State.loadWords] at h
    split at h
    · obtain ⟨hf, hd⟩ := ih h
      exact ⟨hf, by rw [hd]; simp [Nat.add_assoc]⟩
    · exact absurd (ih h).1 (by simp)

/-- The first `m` codewords from that of `off` on share the extent up to their end. -/
theorem sum_shareOf (off n m : Nat) :
    (((List.range m).map fun i => 64 * (off / 64 + i)).map (shareOf off n)).sum =
      min (off + n) (64 * (off / 64 + m)) - off := by
  induction m with
  | zero =>
    have hle := Nat.mul_div_le off 64
    simp only [List.range_zero, List.map_nil, List.sum_nil]
    omega
  | succ m ih =>
    rw [List.range_succ, List.map_append, List.map_append, List.sum_append, ih]
    simp only [List.map_cons, List.map_nil, List.sum_cons, List.sum_nil, shareOf]
    omega

theorem sum_shareOf_wordsOf (off n : Nat) : ((wordsOf off n).map (shareOf off n)).sum = n := by
  unfold wordsOf
  split
  · next hn => rw [hn]; rfl
  · rw [sum_shareOf]
    omega

/-- A read that succeeds delivers as many bytes as it was asked for. -/
theorem State.length_loadRange {s s1 : State} {off n : Nat} {r : Requester} {d : List Byte}
    (h : s.loadRange off n r = (.ok d, s1)) : d.length = n := by
  unfold State.loadRange at h
  split at h
  · next hn => cases h; rw [hn]; rfl
  · split at h
    · cases h
    · split at h
      · next hw =>
        cases h
        rw [(State.length_loadWords hw).2, sum_shareOf_wordsOf]
        exact Nat.zero_add n
      · cases h

/-! ### The answer to a peer (R274, R289) -/

/-- A reply that a port sends at once changes that port alone. -/
theorem wire_reply_ports {s : State} {p : Nat} {r : Reply} (hd : (s.port p).state ≠ .down)
    (hs : s.sends (.reply p r) = true) : ∃ k, s.wire (.reply p r) = { s with
      domain := { s.domain with ports := k }
      control := { s.control with wire := s.control.wire ++ [.reply p r] } } := by
  simp only [State.wire, portFlits, if_neg hd, hs, if_true]
  exact ⟨_, rfl⟩

/-- The reply cache once a request's reply is sent (R289). -/
def State.repliesAfter (s : State) (p : Nat) (q : Req) (r : Reply) : SMap ReplyEntry :=
  s.domain.replies.modify {} (s.cacheKey p q.rid) fun e =>
    if e.rid = q.rid && e.state = .pending then { e with state := .replied, reply := some r, at_ := s.now } else e

theorem State.replied_repliesAfter {s : State} {p : Nat} {q : Req} (r : Reply)
    (hp : (s.domain.replies.get {} (s.cacheKey p q.rid)).state = .pending)
    (hr : (s.domain.replies.get {} (s.cacheKey p q.rid)).rid = q.rid) :
    ((s.repliesAfter p q r).get {} (s.cacheKey p q.rid)).state = .replied := by
  rw [State.repliesAfter, SMap.get_modify_same,
    if_pos (Bool.and_eq_true_iff.mpr ⟨decide_eq_true hr, decide_eq_true hp⟩)]

theorem answerOrigin_replied {s : State} {p : Nat} {q : Req} {a : Answer} (ho : q.origin = .peer p)
    (hop : q.op ≠ 0x20) (hl : (s.port p).state ≠ .lost) (hd : (s.port p).state ≠ .down)
    (hs : s.sends (.reply p (responseTo q a)) = true) : ∃ k, s.answerOrigin q a = { s with
      domain := { s.domain with ports := k, replies := s.repliesAfter p q (responseTo q a) }
      control := { s.control with wire := s.control.wire ++ [.reply p (responseTo q a)] } } := by
  have hc : carriesRid q.op = true := by simpa [carriesRid] using hop
  obtain ⟨k, hk⟩ := wire_reply_ports
    (s := { s with domain := { s.domain with replies := s.repliesAfter p q (responseTo q a) } }) hd hs
  refine ⟨k, ?_⟩
  rw [State.answerOrigin, ho]
  simp only [State.answerPeer, hc, if_neg hl]
  exact hk

/-! ### An atomic at its home slice (R276) -/

/-- The result that an atomic stores over `old`. -/
def newValue (q : Req) (old : List Byte) : List Byte :=
  atomicResult q.op q.signed q.skip old (subBytes q.data 0 (atomicSize q)) (subBytes q.data (atomicSize q) (atomicSize q))

theorem placeOf_of_reducible {off : Nat} (h : reducible off = true) :
    (∃ t o, placeOf off = .hbm t o) ∨ ∃ t o, placeOf off = .scratch t o := by
  unfold reducible at h
  split at h
  · next t o hp => exact .inl ⟨t, o, hp⟩
  · next t o hp => exact .inr ⟨t, o, hp⟩
  · cases h

theorem atomicAccess_stored {s s1 s2 : State} {q : Req} {r : Requester} {old : List Byte}
    (hr : reducible q.addr = true) (h1 : s.loadRange q.addr (atomicSize q) r = (.ok old, s1))
    (h2 : s1.storeRange q.addr (newValue q old) r = (none, s2)) : s.atomicAccess q r = (.old old, s2) := by
  rw [newValue] at h2
  rcases placeOf_of_reducible hr with ⟨t, o, hp⟩ | ⟨t, o, hp⟩
  · simp only [State.atomicAccess, hp, h1, h2]
  · simp only [State.atomicAccess, hp, h1, h2]

/-- The state once the request at a position has left the ready list. -/
def State.leaving (s : State) (n : Nat) : State :=
  { s with domain := { s.domain with ready := dropAt n s.domain.ready } }

section
variable {s s1 s2 : State} {n p : Nat} {q : Req} {old : List Byte}
  (hq : s.domain.ready[n]? = some q) (hy : s.notYet q = false) (ht : s.targetExists q = true)
  (hop : isAtomic q.op = true) (hr : reducible q.addr = true)
  (h1 : (s.leaving n).loadRange q.addr
    (atomicSize q) (s.originRequester q) = (.ok old, s1))
  (h2 : s1.storeRange q.addr (newValue q old) (s.originRequester q) = (none, s2))
include h1 h2

theorem domain_stored : s2.domain = (s.leaving n).domain := by
  have hdom1 := congrArg (·.2.domain) h1
  have hdom2 := congrArg (·.2.domain) h2
  simp only [State.loadRange_kept, State.storeRange_kept] at hdom1 hdom2
  exact hdom2.symm.trans hdom1.symm

include hq hy ht hop hr

theorem performReady_atomic : s.performReady n q.op = s2.answerOrigin q (.old old) := by
  have hload : q.op ≠ 0x20 := fun h => absurd (h ▸ hop) (by decide)
  have hone : (s.leaving n).performOne q = (.old old, s2) := by
    have ht0 : (s.leaving n).targetExists q = true := ht
    rw [State.performOne, ht0, State.performRequest, hop]
    exact atomicAccess_stored hr h1 h2
  simp only [State.leaving] at hone
  rw [State.performReady, hq]
  simp only [hy, ne_eq, not_true_eq_false, decide_false, Bool.or_self, Bool.false_eq_true, if_false, hone]
  exact if_pos hload

/-- An atomic of a peer stores its result and answers the old value, and changes nothing else but the reply cache and the port
(R276, R289). -/
theorem atomic_runs {i : Instr} (hi : exec i s = .next (s.performReady n q.op)) (ho : q.origin = .peer p)
    (hl : (s.port p).state ≠ .lost) (hd : (s.port p).state ≠ .down)
    (hs : s.sends (.reply p ⟨0x42, ⟨q.rid, q.tag, old, none, 0⟩⟩) = true) :
    ∃ t, exec i s = .next t ∧ t.memory = s2.memory ∧ t.domain.ready = dropAt n s.domain.ready ∧
    t.control.wire = s2.control.wire ++ [.reply p ⟨0x42, ⟨q.rid, q.tag, old, none, 0⟩⟩] ∧
    (((s.domain.replies.get {} (s.cacheKey p q.rid)).state = .pending → (s.domain.replies.get {} (s.cacheKey p
      q.rid)).rid = q.rid → (t.domain.replies.get {} (s.cacheKey p q.rid)).state = .replied)) ∧
    t.ctxs = s2.ctxs ∧ t = { s2 with domain := t.domain, control := t.control } := by
  have hload : q.op ≠ 0x20 := fun h => absurd (h ▸ hop) (by decide)
  have hdom := domain_stored h1 h2
  have hport : s2.port p = s.port p := by rw [State.port, State.port, hdom]; rfl
  have hkey : s2.cacheKey p q.rid = s.cacheKey p q.rid := by
    rw [State.cacheKey, State.cacheKey, State.portRole, State.portRole, hdom]; rfl
  have hsends : s2.sends (.reply p (responseTo q (.old old))) = true := by
    rw [State.sends_congr (s := s.leaving n) hdom]
    exact hs
  obtain ⟨k, hk⟩ := answerOrigin_replied ho hload (hport ▸ hl) (hport ▸ hd) hsends
  refine ⟨_, by rw [hi, performReady_atomic hq hy ht hop hr h1 h2], ?_⟩
  rw [hk]
  refine ⟨rfl, congrArg Domain.ready hdom, rfl, fun hp hrid => ?_, rfl, rfl⟩
  have h := s2.replied_repliesAfter (p := p) (q := q) (responseTo q (.old old))
  rw [hkey, hdom] at h
  exact h hp hrid

end

/-! ### Lanes (R276) -/

/-- The lanes of `w` bytes of an old value, each combined with the operand's lane by `f`; in an 8-byte atomic of `bits` lanes the
lanes that SKIP names stay as they are. -/
def laneResult (q : Req) (w bits : Nat) (f : Nat → Nat → Nat) (old : List Byte) : List Byte :=
  ((lanesOf w old).mapIdx fun j l =>
    if (decide (atomicSize q = 8) && decide (j < bits) && q.skip.getLsbD j) = true then l
    else leBytes w (f (leNat l) (leNat (subBytes (subBytes q.data 0 (atomicSize q)) (w * j) w)))).flatten

section
variable {q : Req} {old : List Byte} (hlen : old.length = atomicSize q)
include hlen

theorem newValue_fadd32 (hop : q.op = 0x2F) : newValue q old =
    laneResult q 4 2 (fun x y => (fp32Add (BitVec.ofNat 32 x) (BitVec.ofNat 32 y)).toNat) old := by
  rw [newValue, laneResult, hop, ← hlen]
  rfl

theorem newValue_badd16 (hop : q.op = 0x30) : newValue q old = laneResult q 2 4 bf16Add old := by
  rw [newValue, laneResult, hop, ← hlen]
  rfl

theorem newValue_iadd32 (hop : q.op = 0x31) : newValue q old = laneResult q 4 2 (fun x y => x + y) old := by
  rw [newValue, laneResult, hop, ← hlen]
  rfl

end

/-- Settles O18: each lane atomic runs as every atomic does, and its result is the sums of its lanes. -/
theorem laneAtomicsRun : Obligations.LaneAtomicsRun := by
  unfold Obligations.LaneAtomicsRun
  refine ⟨?_, ?_, ?_⟩
  · rintro s s1 s2 n p q old _ hq hy ht ho hl hd hop hr h1 rfl hs h2
    have hnew := newValue_fadd32 (State.length_loadRange h1) hop
    exact atomic_runs hq hy ht (by rw [hop]; rfl) hr h1 (by rw [hnew]; exact h2) (by rw [hop]; rfl) ho hl hd hs
  · rintro s s1 s2 n p q old _ hq hy ht ho hl hd hop hr h1 rfl hs h2
    have hnew := newValue_badd16 (State.length_loadRange h1) hop
    exact atomic_runs hq hy ht (by rw [hop]; rfl) hr h1 (by rw [hnew]; exact h2) (by rw [hop]; rfl) ho hl hd hs
  · rintro s s1 s2 n p q old _ hq hy ht ho hl hd hop hr h1 rfl hs h2
    have hnew := newValue_iadd32 (State.length_loadRange h1) hop
    exact atomic_runs hq hy ht (by rw [hop]; rfl) hr h1 (by rw [hnew]; exact h2) (by rw [hop]; rfl) ho hl hd hs

end Sys2Proof.Machine

namespace Sys2Proof.Machine

/-! ### The machine after reset (R440, R441) -/

/-- Settles O45: every value is read off the machine after reset. -/
theorem resetHoldsDefaults : Obligations.ResetHoldsDefaults := by
  unfold Obligations.ResetHoldsDefaults
  refine ⟨rfl, rfl, Mem.wf_empty, fun _ => rfl, fun _ => rfl, fun _ => rfl, rfl, rfl, rfl, ?_⟩
  decide

/-! ### Doorbells and descriptors (R116 to R118) -/

theorem producerIndexWrite_accepted {s : State} {x : Nat} {v : BitVec 32} (h : doorbellRefused x (s.ctx x) v = false) :
    exec (.producerIndexWrite x v) s = .next (s.modCtx x fun k =>
      { k with
        producer := v
        idleSince := if v = k.consumer then k.idleSince else none
        waitingSince := if k.producer = k.consumer then s.now else k.waitingSince }) := by
  change execProducerIndexWrite x v s = _
  simp [execProducerIndexWrite, State.ringDoorbell, h]

theorem doorbellRefused_eq_false {x : Nat} {k : Ctx} {v : BitVec 32} (hx : 0 < x) (hx' : x < 1024) (hs : k.state ≠ .closed)
    (ha : k.pendingAction ≠ some .close) (hr : ringDist v.toNat k.consumer.toNat ≤ k.ringSize)
    (hp : ringDist k.producer.toNat k.consumer.toNat ≤ ringDist v.toNat k.consumer.toNat) :
    doorbellRefused x k v = false := by
  simp [doorbellRefused, hs, ha]
  omega

/-- The context once the descriptor that its fetch index names has been stored (R117). -/
def Ctx.fetch (d : List Byte) (k : Ctx) : Ctx :=
  { k with descriptors := k.descriptors.set k.fetched (BitVec.ofNat 512 (leNat d)), fetched := ringNext k.fetched }

theorem descriptorFetch_next {s s1 : State} {x : Nat} {d : List Byte} (hs : (s.ctx x).state = .bound)
    (he : (s.ctx x).ending = false) (ht : s.towerServes ((s.ctx x).ringBase / 0x2400000000) = true)
    (hp : (s.ctx x).fetched ≠ (s.ctx x).producer.toNat) (h8 : ringDist (s.ctx x).fetched (s.ctx x).consumer.toNat < 8)
    (hd : s.loadRange ((s.ctx x).ringBase + 64 * ((s.ctx x).fetched % (s.ctx x).ringSize)) 64 { ctx := x } = (.ok d, s1)) :
    exec (.descriptorFetch x) s = .next (s1.modCtx x (Ctx.fetch d)) := by
  change execDescriptorFetch x s = _
  have h8' : ¬8 ≤ ringDist (s.ctx x).fetched (s.ctx x).consumer.toNat := by omega
  simp only [execDescriptorFetch, hs, he, ht, hp, h8', hd]
  rfl

theorem descriptorAt_fetch (d : List Byte) (k : Ctx) :
    descriptorAt (k.fetch d) k.fetched = some (BitVec.ofNat 512 (leNat d)) := by
  simp [descriptorAt, Ctx.fetch, SMap.lookup_set]

/-! ### The start of a command (R131, R472, R475) -/

theorem commandStart_next {s : State} {x c : Nat} {d : BitVec 512} (hx : s.starting c = some x)
    (hm : (memberOf (s.ctx x) c).phase = .idle) (hc : inClass (s.ctx x).cls c = true)
    (hskip : (s.ctx x).skip.contains (memberOf (s.ctx x) c).next = false)
    (hd : descriptorAt (s.ctx x) (memberOf (s.ctx x) c).next = some d) (hop : dOpcode d ≠ 6)
    (hpipe : dFlag d 4 = true ∨ (memberOf (s.ctx x) c).next = (s.ctx x).consumer.toNat)
    (hf : descriptorFault x (s.ctx x) d = none) (hr : runsOn d c = true)
    (hw : ∀ w ∈ dWaits d, waitSatisfied (s.tally c w.1) w.2 = true) :
    exec (.commandStart x c) s = .next (s.startCommand x c (memberOf (s.ctx x) c).next d) := by
  change execCommandStart x c s = _
  have hgo : (!dFlag d 4 && decide ((memberOf (s.ctx x) c).next ≠ (s.ctx x).consumer.toNat)) = false := by
    rcases hpipe with h | h <;> simp [h]
  have hwait : (decide (dOpcode d ≠ 6) && (dWaits d).all fun w => waitSatisfied (s.tally c w.1) w.2) = true := by
    simpa [hop] using fun a b h => hw (a, b) h
  simp only [execCommandStart, hx, hm, hc, hskip, hd, hgo, hf, hr, hwait]
  simp

theorem foldl_slateOnly_only {α : Type} (l : List α) (s : State) (u c x : α → Nat) (i : α → Ids)
    (d : State → α → List Byte) :
    ∃ g, l.foldl (fun s a => s.slateOnly (u a) (c a) (x a) (i a) (d s a)) s = { s with dbg := g } := by
  induction l generalizing s with
  | nil => exact ⟨s.dbg, rfl⟩
  | cons a l ih =>
    obtain ⟨g, hg⟩ := State.slateOnly_only s (u a) (c a) (x a) (i a) (d s a)
    obtain ⟨g', hg'⟩ := ih (s.slateOnly (u a) (c a) (x a) (i a) (d s a))
    exact ⟨g', by rw [List.foldl_cons, hg', hg]⟩

theorem operatorStarts_only (s : State) (x c : Nat) :
    ∃ due opens, s.operatorStarts x c = s.modCore c fun k => { k with dumpDue := k.dumpDue ++ due, dumpOpen := opens } :=
  ⟨_, _, rfl⟩

/-- The records of a cluster at the start of a command with these IDs (R131, R132). -/
def Cluster.startCommand (ids : Ids) (now : Nat) (k : Cluster) : Cluster :=
  { k with
    prevIds := k.ids
    ids := ids
    prevCmd := k.perCmd
    perCmd := SMap.empty
    cmdStart := some now
    nanSeen := []
    core := { k.core with opn := 0 } }

/-- What the start of a command changes: the slates, the records of its cluster and its dump points, and the member's phase. -/
theorem startCommand_only (s : State) (x c j : Nat) (d : BitVec 512) : ∃ g due opens, s.startCommand x c j d =
    ((({ s with dbg := g } : State).modCluster c (Cluster.startCommand (dIds x d) s.now)).setPhase x c .started).modCore c
      fun k => { k with dumpDue := k.dumpDue ++ due, dumpOpen := opens } := by
  unfold State.startCommand
  extract_lets ids s1 s2
  obtain ⟨g1, h1⟩ := foldl_slateOnly_only (dWaits d) s (fun _ => c) (fun _ => 0xF004) (fun _ => x) (fun _ => ids)
    fun s w => leBytes 1 w.1 ++ leBytes 4 w.2 ++ leBytes 4 (s.tally c w.1)
  obtain ⟨g2, h2⟩ := State.slateOnly_only s2 c 0xF001 x ids (leBytes 4 j)
  obtain ⟨due, opens, h3⟩ := operatorStarts_only ((s2.slateOnly c 0xF001 x ids (leBytes 4 j)).setPhase x c .started) x c
  have hs2 : s2 = ({ s with dbg := g1 } : State).modCluster c (Cluster.startCommand (dIds x d) s.now) := by
    unfold s2
    rw [show s1 = { s with dbg := g1 } from h1]
    rfl
  exact ⟨g2, due, opens, by rw [h3, h2, hs2]; rfl⟩

/-! ### NOP, YIELD and FENCE (R120) -/

theorem nop_next {s : State} {x c : Nat} {d : BitVec 512} (hd : s.executing x c 0 .started = some d) :
    exec (.nop x c) s = .next (s.setPhase x c .done) := by
  change execNop x c s = _
  simp only [execNop, hd]

theorem yield_next {s : State} {x c : Nat} {d : BitVec 512} (hd : s.executing x c 9 .started = some d) :
    exec (.yield x c) s = .next (s.setPhase x c .done) := by
  change execYield x c s = _
  simp only [execYield, hd]

theorem fence_next {s : State} {x c : Nat} {d : BitVec 512} (hd : s.executing x c 7 .started = some d)
    (hout : ∀ o ∈ s.domain.outstanding, ∀ p ∈ o.parts, p.ctx ≠ x) (hmsg : ∀ e ∈ s.messages.tracked.entries, e.2.ctx ≠ x) :
    exec (.fence x c) s = .next (s.setPhase x c .done) := by
  change execFence x c s = _
  have hidle : ((s.domain.outstanding.any fun o => o.parts.any fun p => p.ctx = x) || s.messagesOut x) = false := by
    simpa [State.messagesOut] using ⟨hout, fun a b h => hmsg (a, b) h⟩
  simp only [execFence, hd, hidle]
  rfl

theorem next_setPhase (s : State) (x c : Nat) (p : MemberPhase) :
    (memberOf ((s.setPhase x c p).ctx x) c).next = (memberOf (s.ctx x) c).next := by
  rw [State.setPhase, State.memberOf_modMember]

@[simp] theorem State.cluster_setPhase (s : State) (x c k : Nat) (p : MemberPhase) :
    (s.setPhase x c p).cluster k = s.cluster k := rfl

theorem sameCtxs_setPhase (s : State) (x c : Nat) (p : MemberPhase) : sameCtxs x s (s.setPhase x c p) :=
  sameCtxs_modCtx x s _

/-- Settles O1: each clause is the state that its command answers, read through the laws of a change of one context or cluster. -/
theorem ringCommandsRun : Obligations.RingCommandsRun := by
  unfold Obligations.RingCommandsRun
  refine ⟨?_, ?_, ?_, ?_, ?_, ?_⟩
  · intro s x v hx hx' hs ha hr hp
    refine ⟨_, producerIndexWrite_accepted (doorbellRefused_eq_false hx hx' hs ha hr hp), ?_⟩
    rw [State.ctx_modCtx, if_pos rfl]
    exact ⟨rfl, rfl, rfl, sameCtxs_modCtx x s _, rfl⟩
  · intro s s1 x d hs he ht hp h8 hd
    have hctx := State.loadRange_ctx hd
    refine ⟨_, descriptorFetch_next hs he ht hp h8 hd, ?_⟩
    rw [State.ctx_modCtx, if_pos rfl, hctx x]
    exact ⟨descriptorAt_fetch d _, rfl, fun y hy => (sameCtxs_modCtx x s1 _ y hy).trans (hctx y), rfl⟩
  · intro s x c d hx hm hc hskip hd hop hpipe hf hr hw
    obtain ⟨g, due, opens, ht⟩ := startCommand_only s x c (memberOf (s.ctx x) c).next d
    refine ⟨_, commandStart_next hx hm hc hskip hd hop hpipe hf hr hw, ?_⟩
    rw [ht]
    refine ⟨phase_setPhase _ x c .started, next_setPhase _ x c .started, ?_, ?_, ?_, ?_, sameCtxs_setPhase _ x c .started,
      ?_, rfl⟩
    case refine_5 =>
      exact (sameClusters_modCluster c { s with dbg := g } _).trans (sameClusters_modCore c _ _)
    all_goals
      simp only [State.modCore, State.cluster_modCluster_same, State.cluster_setPhase]
      rfl
  · intro s x c d hd
    exact ⟨_, nop_next hd, phase_setPhase s x c _, next_setPhase s x c _, sameCtxs_setPhase s x c _, rfl⟩
  · intro s x c d hd
    exact ⟨_, yield_next hd, phase_setPhase s x c _, next_setPhase s x c _, sameCtxs_setPhase s x c _, rfl⟩
  · intro s x c d hd hout hmsg
    exact ⟨_, fence_next hd hout hmsg, phase_setPhase s x c _, sameCtxs_setPhase s x c _, rfl⟩

end Sys2Proof.Machine

namespace Sys2Proof.Machine

/-! ### The Oztal core at an entry (R123, R134) -/

theorem ocAt_eq_some {s : State} {c x : Nat} {r : TimetableRun} {e : BitVec 256} (h : s.ocAt c = some (x, r, e)) :
    s.starting c = some x ∧ (s.core c).run = some r := by
  unfold State.ocAt at h
  split at h
  · next y q hy hq =>
    split at h
    · cases h; exact ⟨hy, hq⟩
    · cases h
  · cases h

/-- A command whose kind is that of the entry does the entry's work. -/
theorem atEntry_next {s : State} {c x kind : Nat} {r : TimetableRun} {e : BitVec 256}
    {act : Nat → TimetableRun → BitVec 256 → State} (h : s.ocAt c = some (x, r, e)) (hk : entryKind e = kind)
    (h8 : kind < 8) : s.atEntry c kind act = .next (act x r e) := by
  simp only [State.atEntry, h, hk, Nat.not_le.mpr h8, ne_eq, not_true_eq_false, if_false]

/-- What the OC of cluster `c` changes as it goes on from the entry of run `r` to entry `n`, with loops `l` open: its run, and no
other part of its state image. -/
structure goesOn (c n : Nat) (l : List OpenLoop) (r : TimetableRun) (s t : State) : Prop where
  run : (t.core c).run.map (fun q => (q.entry, q.loops, q.ctx, q.ring, q.length)) = some (n, l, r.ctx, r.ring, r.length)
  core : t.core c = { s.core c with run := (t.core c).run }
  ids : (t.cluster c).ids = (s.cluster c).ids
  others : sameClusters c s t
  only : t = { s with clusters := t.clusters }

/-- Tracing writes at most the trace buffer of its cluster (R473). -/
theorem traceEntry_cases (s : State) (c : Nat) (r : TimetableRun) (e : BitVec 256) : s.traceEntry c r e = s ∨
    ∃ f : Cluster → Cluster, s.traceEntry c r e = s.modCluster c f ∧ ∀ k, (f k).core = k.core ∧ (f k).ids = k.ids := by
  unfold State.traceEntry
  split
  · exact .inl rfl
  · extract_lets k flags cycle rec_ gap
    split
    · exact .inr ⟨_, rfl, fun _ => ⟨rfl, rfl⟩⟩
    · exact .inr ⟨_, rfl, fun _ => ⟨rfl, rfl⟩⟩

theorem traceEntry_keeps (s : State) (c : Nat) (r : TimetableRun) (e : BitVec 256) :
    (s.traceEntry c r e).core c = s.core c ∧ ((s.traceEntry c r e).cluster c).ids = (s.cluster c).ids ∧
    sameClusters c s (s.traceEntry c r e) ∧
    s.traceEntry c r e = { s with clusters := (s.traceEntry c r e).clusters } := by
  rcases traceEntry_cases s c r e with h | ⟨f, h, hf⟩
  · rw [h]
    exact ⟨rfl, rfl, fun _ _ => rfl, rfl⟩
  · rw [h]
    refine ⟨?_, ?_, sameClusters_modCluster c s f, rfl⟩
    · rw [State.core, State.cluster_modCluster_same, (hf _).1, State.core]
    · rw [State.cluster_modCluster_same, (hf _).2]

theorem State.core_modRun (s : State) (c : Nat) (f : TimetableRun → TimetableRun) :
    (s.modRun c f).core c = { s.core c with run := (s.core c).run.map f } := State.core_modCore_same s c _

theorem goesOn_finishEntry {s : State} {c : Nat} {r : TimetableRun} (hr : (s.core c).run = some r) (n : Nat) :
    goesOn c n r.loops r s (s.finishEntry c n) := by
  obtain ⟨hcore, hids, hothers, honly⟩ := traceEntry_keeps s c r ((s.core c).timetable.getD r.entry 0)
  have hfin : s.finishEntry c n = (s.traceEntry c r ((s.core c).timetable.getD r.entry 0)).goTo c n := by
    simp only [State.finishEntry, hr]
  rw [hfin, State.goTo]
  generalize s.traceEntry c r _ = t at *
  refine ⟨?_, ?_, ?_, hothers.trans (sameClusters_modCore c t _), by rw [honly]; rfl⟩
  · rw [State.core_modRun, hcore, hr]; rfl
  · rw [State.core_modRun, hcore]
  · rw [← hids, State.modRun, State.modCore, State.cluster_modCluster_same]

theorem goesOn.setLoops {c n : Nat} {l : List OpenLoop} {r : TimetableRun} {s t : State} (h : goesOn c n l r s t)
    (l' : List OpenLoop) : goesOn c n l' r s (t.modRun c fun q => { q with loops := l' }) := by
  obtain ⟨hrun, hcore, hids, hothers, honly⟩ := h
  refine ⟨?_, ?_, ?_, hothers.trans (sameClusters_modCore c t _), by rw [honly]; rfl⟩
  · obtain ⟨q, hq, hv⟩ := Option.map_eq_some_iff.mp hrun
    simp only [Prod.mk.injEq] at hv
    rw [State.core_modRun, hq]
    simp [hv]
  · rw [State.core_modRun, hcore]
  · rw [← hids, State.modRun, State.modCore, State.cluster_modCluster_same]

/-! ### ISSUE (R43, R135) -/

theorem enqueue_eq (k : Core) (g : Engine) (w : OpWord) (reading : ClockedOp) (ring : Nat) :
    enqueue k g w reading ring = { setQueue k g (queueOf k g ++ [⟨w, reading, k.issued, ring⟩]) with
      score := k.score ++ [ScoreEntry.mk k.issued g (issueExtents k g w reading).reads (issueExtents k g w reading).writes]
      issued := k.issued + 1 } := rfl

theorem queueOf_enqueue (k : Core) (g : Engine) (w : OpWord) (reading : ClockedOp) (ring : Nat) :
    queueOf (enqueue k g w reading ring) g = queueOf k g ++ [⟨w, reading, k.issued, ring⟩] := by
  cases g <;> rfl

theorem queueOf_run (k : Core) (g : Engine) (r : Option TimetableRun) : queueOf { k with run := r } g = queueOf k g := by
  cases g <;> rfl

theorem run_enqueue (k : Core) (g : Engine) (w : OpWord) (reading : ClockedOp) (ring : Nat) :
    (enqueue k g w reading ring).run = k.run := by
  cases g <;> rfl

theorem issue_next {s : State} {c x : Nat} {r : TimetableRun} {e : BitVec 256} {reading : ClockedOp} {g : Engine}
    (h : s.ocAt c = some (x, r, e)) (hk : entryKind e = 1) (hg : engineOf (entryEngine e) = some g)
    (hq : (queueOf (s.core c) g).length < queueSize g) (hs : (s.core c).score.length < 32) :
    exec (.issue c reading) s = .next ((s.modCore c fun k => enqueue k g (entryPayload e) reading r.ring).finishEntry c
      (r.entry + 1)) := by
  change execIssue c reading s = _
  rw [execIssue, atEntry_next h hk (by decide)]
  simp only [hg, Nat.not_le.mpr hq, Nat.not_le.mpr hs, if_false]

/-! ### WAIT_TALLY, WAIT_ENGINES and INC (R126 to R128) -/

theorem waitTally_next {s : State} {c x : Nat} {r : TimetableRun} {e : BitVec 256} (h : s.ocAt c = some (x, r, e))
    (hk : entryKind e = 2)
    (hw : waitSatisfied (s.tally c (entryTally e)) (bitsOf (entryPayload e).toNat 31 0) = true) :
    ∃ g, exec (.waitTally c) s = .next (({ s with dbg := g } : State).finishEntry c (r.entry + 1)) := by
  obtain ⟨g, hg⟩ := State.slateOnly_only s c 0xF004 x (s.idsOf c) (leBytes 1 (entryTally e) ++
    leBytes 4 (bitsOf (entryPayload e).toNat 31 0) ++ leBytes 4 (s.tally c (entryTally e)))
  refine ⟨g, ?_⟩
  change execWaitTally c s = _
  rw [execWaitTally, atEntry_next h hk (by decide), ← hg]
  exact congrArg _ (if_pos hw)

theorem waitEngines_next {s : State} {c x : Nat} {r : TimetableRun} {e : BitVec 256} (h : s.ocAt c = some (x, r, e))
    (hk : entryKind e = 3) (hi : enginesIdle (s.core c) (bitsOf (entryPayload e).toNat 6 0) = true) :
    exec (.waitEngines c) s = .next (s.finishEntry c (r.entry + 1)) := by
  change execWaitEngines c s = _
  rw [execWaitEngines, atEntry_next h hk (by decide)]
  exact congrArg _ (if_pos hi)

theorem sameCores_countMeshTo (s : State) (c off : Nat) : sameCores s (s.countMeshTo c off) := by
  unfold State.countMeshTo
  split
  · split
    · exact sameCores.foldl (fun s l => sameCores.bump s _ _ _ _) _ s
    · exact sameCores.refl s
  · exact sameCores.refl s

theorem State.ctx_countMeshTo (s : State) (c off x : Nat) : (s.countMeshTo c off).ctx x = s.ctx x := by
  simp only [State.ctx, State.countMeshTo_kept]

/-- An increment of an own tally whose accesses succeed (R127). -/
theorem increment_own {s s1 s2 : State} {x c engine amount : Nat} {ref : BitVec 24} {b : List Byte}
    (hv : validRef (s.ctx x).cls ref = true) (hd : refDevice ref = 63)
    (h1 : (s.countMeshTo c (refOffset ref c)).loadRange (refOffset ref c) 4 (s.requesterAt x c) = (.ok b, s1))
    (h2 : s1.storeRange (refOffset ref c) (leBytes 4 (leNat b + amount)) (s.requesterAt x c) = (none, s2)) :
    s.increment x c engine ref amount = s2 := by
  simp only [State.increment, hv, hd, addWord_stored h1 h2]
  rfl

theorem inc_next {s s1 s2 : State} {c x : Nat} {r : TimetableRun} {e : BitVec 256} {b : List Byte} {ref : BitVec 24}
    (h : s.ocAt c = some (x, r, e)) (hk : entryKind e = 4)
    (hi : enginesIdle (s.core c) (bitsOf (entryPayload e).toNat 38 32) = true)
    (href : ref = BitVec.ofNat 24 (bitsOf (entryPayload e).toNat 23 0)) (hv : validRef (s.ctx x).cls ref = true)
    (hd : refDevice ref = 63)
    (h1 : (s.countMeshTo c (refOffset ref c)).loadRange (refOffset ref c) 4 (s.requesterAt x c) = (.ok b, s1))
    (h2 : s1.storeRange (refOffset ref c) (leBytes 4 (leNat b + bitsOf (entryPayload e).toNat 31 24))
      (s.requesterAt x c) = (none, s2)) :
    exec (.inc c) s = .next (s2.finishEntry c (r.entry + 1)) := by
  change execInc c s = _
  have hbound : (s2.ctx x).state ≠ .faulted := by
    rw [State.storeRange_ctx h2, State.loadRange_ctx h1, State.ctx_countMeshTo, state_bound_of_starting (ocAt_eq_some h).1]
    decide
  subst href
  rw [execInc, atEntry_next h hk (by decide)]
  simp only [hi, increment_own hv hd h1 h2, hbound, if_true, if_false]

/-! ### LOOP (R124) -/

section
variable {s : State} {c x : Nat} {r : TimetableRun} {e : BitVec 256} (h : s.ocAt c = some (x, r, e)) (hk : entryKind e = 5)
  (hd : bitsOf (entryPayload e).toNat 31 16 ≤ r.entry)
include h hk hd

theorem loop_opens (hc : bitsOf (entryPayload e).toNat 15 0 ≠ 0) (h4 : r.loops.length < 4)
    (ho : ∀ l ∈ r.loops.head?, l.entry ≠ r.entry) :
    exec (.loop c) s = .next ((s.finishEntry c (r.entry - bitsOf (entryPayload e).toNat 31 16)).modRun c fun q =>
      { q with loops := ⟨r.entry, bitsOf (entryPayload e).toNat 15 0 - 1⟩ :: r.loops }) := by
  change execLoop c s = _
  rw [execLoop, atEntry_next h hk (by decide)]
  cases hl : r.loops with
  | nil => simp only [Nat.not_lt.mpr hd, hc, if_false]
  | cons l rest =>
    rw [hl] at ho h4
    have hne : l.entry ≠ r.entry := ho l rfl
    have hfew : ¬4 ≤ (l :: rest).length := by omega
    simp only [Nat.not_lt.mpr hd, hc, hne, hfew, if_false]

theorem loop_jumps {n : Nat} {l : List OpenLoop} (hl : r.loops = ⟨r.entry, n + 1⟩ :: l) :
    exec (.loop c) s = .next ((s.finishEntry c (r.entry - bitsOf (entryPayload e).toNat 31 16)).modRun c fun q =>
      { q with loops := ⟨r.entry, n⟩ :: l }) := by
  change execLoop c s = _
  rw [execLoop, atEntry_next h hk (by decide)]
  simp only [Nat.not_lt.mpr hd, hl, Nat.succ_ne_zero, if_false, if_true, Nat.add_sub_cancel]

theorem loop_ends {l : List OpenLoop} (hl : r.loops = ⟨r.entry, 0⟩ :: l) :
    exec (.loop c) s = .next ((s.finishEntry c (r.entry + 1)).modRun c fun q => { q with loops := l }) := by
  change execLoop c s = _
  rw [execLoop, atEntry_next h hk (by decide)]
  simp only [Nat.not_lt.mpr hd, hl, if_false, if_true]

end

/-! ### MARK and END (R124, R132, R475) -/

theorem mark_next {s : State} {c x : Nat} {r : TimetableRun} {e : BitVec 256} (h : s.ocAt c = some (x, r, e))
    (hk : entryKind e = 6) (ho : (s.core c).dumpOpen = []) :
    exec (.mark c) s = .next (((s.finishEntry c (r.entry + 1)).modCluster c fun k =>
      { k with ids := { k.ids with operator := bitsOf (entryPayload e).toNat 15 0 } }).operatorStarts x c) := by
  change execMark c s = _
  rw [execMark, atEntry_next h hk (by decide)]
  exact congrArg _ (if_neg (not_not.mpr ho))

theorem endOp_next {s : State} {c x : Nat} {r : TimetableRun} {e : BitVec 256} (h : s.ocAt c = some (x, r, e))
    (hk : entryKind e = 7) (ho : (s.core c).dumpOpen = []) (hs : (s.core c).score = []) :
    exec (.endOp c) s = .next (((s.traceEntry c r e).modCore c fun k => { k with run := none }).setPhase x c .done) := by
  change execEndOp c s = _
  rw [execEndOp, atEntry_next h hk (by decide)]
  exact congrArg _ ((if_neg (not_not.mpr ho)).trans (if_neg (not_not.mpr hs)))

/-- Settles O3: each entry's work, and then the OC goes on (`goesOn`), but for END, which ends the run. -/
theorem timetableEntriesRun : Obligations.TimetableEntriesRun := by
  unfold Obligations.TimetableEntriesRun
  refine ⟨?_, ?_, ?_, ?_, ?_, ?_, ?_, ?_, ?_, ?_⟩
  · intro s x c r e h hk
    obtain ⟨hrun, hcore, -, hothers, honly⟩ := goesOn_finishEntry (ocAt_eq_some h).2 (r.entry + 1)
    exact ⟨_, atEntry_next h hk (by decide), hrun, hcore, hothers, honly⟩
  · intro s x c r e reading g h hk hg hq hs
    refine ⟨_, issue_next h hk hg hq hs, ?_⟩
    generalize hu : (s.modCore c fun k => enqueue k g (entryPayload e) reading r.ring) = u
    have hcu : u.core c = enqueue (s.core c) g (entryPayload e) reading r.ring := by rw [← hu, State.core_modCore_same]
    have hru : (u.core c).run = some r := by rw [hcu, run_enqueue, (ocAt_eq_some h).2]
    obtain ⟨hrun, hcore, -, hothers, honly⟩ := goesOn_finishEntry hru (r.entry + 1)
    have hqueue : queueOf ((u.finishEntry c (r.entry + 1)).core c) g =
        queueOf (s.core c) g ++ [⟨entryPayload e, reading, (s.core c).issued, r.ring⟩] := by
      rw [hcore, queueOf_run, hcu, queueOf_enqueue]
    rw [hcu, enqueue_eq] at hcore
    refine ⟨hqueue, by rw [hcore], hrun, ?_, ?_, by rw [honly, ← hu]; rfl⟩
    · rw [hqueue]
      exact hcore.trans (by rw [hcore])
    · exact (hu ▸ sameClusters_modCore c s _ : sameClusters c s u).trans hothers
  · intro s x c r e h hk hw
    obtain ⟨g, hg⟩ := waitTally_next h hk hw
    obtain ⟨hrun, hcore, -, hothers, honly⟩ :=
      goesOn_finishEntry (s := { s with dbg := g }) (ocAt_eq_some h).2 (r.entry + 1)
    exact ⟨_, hg, hrun, hcore, hothers, by rw [honly]⟩
  · intro s x c r e h hk hi
    obtain ⟨hrun, hcore, -, hothers, honly⟩ := goesOn_finishEntry (ocAt_eq_some h).2 (r.entry + 1)
    exact ⟨_, waitEngines_next h hk hi, hrun, hcore, hothers, honly⟩
  · intro s s1 s2 x c r e ref b h hk hi href hv hd h1 h2
    have hsame : s2.core c = s.core c := by
      have hload := sameCores.loadRange (s.countMeshTo c (refOffset ref c)) (refOffset ref c) 4 (s.requesterAt x c)
      have hstore := sameCores.storeRange s1 (refOffset ref c)
        (leBytes 4 (leNat b + bitsOf (entryPayload e).toNat 31 24)) (s.requesterAt x c)
      rw [h1] at hload
      rw [h2] at hstore
      exact (((sameCores_countMeshTo s c _).trans hload).trans hstore) c
    obtain ⟨hrun, hcore, -, hothers, honly⟩ :=
      goesOn_finishEntry (hsame ▸ (ocAt_eq_some h).2 : (s2.core c).run = some r) (r.entry + 1)
    exact ⟨_, inc_next h hk hi href hv hd h1 h2, hrun, by rw [hcore, hsame], hothers, honly⟩
  · intro s x c r e h hk hd hc h4 ho
    obtain ⟨hrun, hcore, -, hothers, honly⟩ := (goesOn_finishEntry (ocAt_eq_some h).2 _).setLoops _
    exact ⟨_, loop_opens h hk hd hc h4 ho, hrun, hcore, hothers, honly⟩
  · intro s x c r e n l h hk hd hl
    obtain ⟨hrun, hcore, -, hothers, honly⟩ := (goesOn_finishEntry (ocAt_eq_some h).2 _).setLoops _
    exact ⟨_, loop_jumps h hk hd hl, hrun, hcore, hothers, honly⟩
  · intro s x c r e l h hk hd hl
    obtain ⟨hrun, hcore, -, hothers, honly⟩ := (goesOn_finishEntry (ocAt_eq_some h).2 _).setLoops _
    exact ⟨_, loop_ends h hk hd hl, hrun, hcore, hothers, honly⟩
  · intro s x c r e h hk ho
    refine ⟨_, mark_next h hk ho, ?_⟩
    obtain ⟨hrun, hcore, hids, hothers, honly⟩ := goesOn_finishEntry (ocAt_eq_some h).2 (r.entry + 1)
    generalize s.finishEntry c (r.entry + 1) = u at *
    generalize hv : (u.modCluster c fun k =>
      { k with ids := { k.ids with operator := bitsOf (entryPayload e).toNat 15 0 } }) = v
    obtain ⟨due, opens, hw⟩ := operatorStarts_only v x c
    have hcv : v.core c = u.core c := by rw [← hv, State.core, State.cluster_modCluster_same, State.core]
    rw [hw, State.core_modCore_same, hcv]
    refine ⟨?_, hrun, ?_, ?_, by rw [← hv, honly]; rfl⟩
    · rw [State.modCore, State.cluster_modCluster_same, ← hv, State.cluster_modCluster_same]
      exact congrArg (fun i : Ids => { i with operator := bitsOf (entryPayload e).toNat 15 0 }) hids
    · rw [hcore]
    · exact (hothers.trans (hv ▸ sameClusters_modCluster c u _ : sameClusters c u v)).trans (sameClusters_modCore c v _)
  · intro s x c r e h hk ho hs
    obtain ⟨hcore, -, hothers, honly⟩ := traceEntry_keeps s c r e
    refine ⟨_, endOp_next h hk ho hs, ?_⟩
    generalize s.traceEntry c r e = u at *
    have hctx : u.ctx = s.ctx := by rw [honly]; rfl
    refine ⟨phase_setPhase _ x c .done, ?_, ?_, ?_, ?_, (hothers.trans (sameClusters_modCore c u _)).setPhase x c _,
      by rw [honly]; rfl⟩
    · rw [next_setPhase, ← hctx]; rfl
    · rw [State.core_setPhase, State.core_modCore_same]
    · rw [State.core_setPhase, State.core_modCore_same, hcore]
    · intro y hy
      rw [← hctx]
      exact sameCtxs_setPhase _ x c .done y hy

end Sys2Proof.Machine

namespace Sys2Proof.Machine

/-! ### Faults (R112, R146) -/

/-- What a fault makes of a BOUND context (R112, R146). -/
def Ctx.faultFromBound (code detail ring now : Nat) (k : Ctx) : Ctx :=
  { k.stopBoundTime now with
    faultCode := code
    faultCommand := ring % 4294967296
    faultDetail := detail
    state := .faulted
    ending := true
    holds := true
    deferredSince := none }

theorem State.ctx_stopCollectives (s : State) (x y : Nat) : (s.stopCollectives x).ctx y = s.ctx y := by
  simp only [State.ctx, State.stopCollectives_kept]

theorem State.ctx_raiseFor (s : State) (c d u x : Nat) (i : Ids) (l : List Byte) (y : Nat) :
    (s.raiseFor c d u x i l).ctx y = s.ctx y := by
  simp only [State.ctx, State.raiseFor_ctxs]

theorem State.ctx_setState (s : State) (x y : Nat) (new : CtxState) :
    (s.setState x new).ctx y = if y = x then { s.ctx x with state := new } else s.ctx y := by
  have h : (s.setState x new).ctxs = (s.modCtx x fun k => { k with state := new }).ctxs := by simp [State.setState]
  rw [State.ctx, h]
  exact State.ctx_modCtx s x y _

section
variable {s : State} {x : Nat} (code cluster engine extra ring : Nat)

theorem ctx_faultCtx_of_faulted (h : (s.ctx x).state = .faulted) : s.faultCtx x code cluster engine extra ring = s :=
  if_pos h

/-- A context that faults records code and detail, and changes no other context. -/
theorem ctx_faultCtx_of_bound (h : (s.ctx x).state = .bound) (y : Nat) :
    (s.faultCtx x code cluster engine extra ring).ctx y = if y = x then
      (s.ctx x).faultFromBound code (faultDetail cluster engine extra) ring s.now else s.ctx y := by
  simp only [State.faultCtx, h, reduceCtorEq, if_true, if_false]
  simp only [State.ctx_modCtx, State.ctx_setState, State.ctx_stopCollectives, State.ctx_raiseFor, if_true]
  split
  · rfl
  · rfl

theorem sameCtxs_faultCtx : sameCtxs x s (s.faultCtx x code cluster engine extra ring) := by
  intro y hy
  unfold State.faultCtx
  simp only
  repeat' split
  all_goals
    simp only [State.ctx_modCtx, State.ctx_setState, State.ctx_stopCollectives, State.ctx_raiseFor, hy, if_false]

/-- A fault changes its context and its collectives, and records and raises it; nothing else. -/
theorem faultCtx_only : s.faultCtx x code cluster engine extra ring =
    { s with
      coll := (s.faultCtx x code cluster engine extra ring).coll
      dbg := (s.faultCtx x code cluster engine extra ring).dbg
      regs := (s.faultCtx x code cluster engine extra ring).regs
      control := (s.faultCtx x code cluster engine extra ring).control
      commits := (s.faultCtx x code cluster engine extra ring).commits
      ctxs := (s.faultCtx x code cluster engine extra ring).ctxs } := by
  apply State.ext_of <;> simp only [State.faultCtx_kept]

end

theorem faultAll_ctx_of_faulted {s : State} {x : Nat} (code : Nat) (l : List Nat) (h : (s.ctx x).state = .faulted) :
    (s.faultAll code l).ctx x = s.ctx x := by
  induction l generalizing s with
  | nil => rfl
  | cons y l ih =>
    have hstep : (s.faultCtx y code noCluster noEngine 0 (s.ctx y).consumer.toNat).ctx x = s.ctx x := by
      by_cases hy : x = y
      · subst hy; rw [ctx_faultCtx_of_faulted _ _ _ _ _ h]
      · exact sameCtxs_faultCtx _ _ _ _ _ x hy
    rw [State.faultAll, ih (by rw [hstep]; exact h), hstep]

theorem faultAll_ctx_of_not_mem {s : State} {x : Nat} (code : Nat) {l : List Nat} (h : x ∉ l) :
    (s.faultAll code l).ctx x = s.ctx x := by
  induction l generalizing s with
  | nil => rfl
  | cons y l ih =>
    rw [List.mem_cons, not_or] at h
    rw [State.faultAll, ih h.2]
    exact sameCtxs_faultCtx _ _ _ _ _ x h.1

/-- Every BOUND context of the list faults with the code. -/
theorem faultAll_faults {s : State} {x : Nat} (code : Nat) {l : List Nat} (hx : x ∈ l) (hb : (s.ctx x).state = .bound) :
    ((s.faultAll code l).ctx x).state = .faulted ∧ ((s.faultAll code l).ctx x).faultCode = code := by
  induction l generalizing s with
  | nil => cases hx
  | cons y l ih =>
    rw [State.faultAll]
    by_cases hy : x = y
    · subst hy
      have hctx := ctx_faultCtx_of_bound code noCluster noEngine 0 (s.ctx x).consumer.toNat hb x
      rw [if_pos rfl] at hctx
      rw [faultAll_ctx_of_faulted code l (by rw [hctx]; rfl), hctx]
      exact ⟨rfl, rfl⟩
    · refine ih (List.mem_of_ne_of_mem hy hx) ?_
      rw [sameCtxs_faultCtx _ _ _ _ _ x hy]
      exact hb

theorem faultAll_only (s : State) (code : Nat) (l : List Nat) : s.faultAll code l =
    { s with
      coll := (s.faultAll code l).coll
      dbg := (s.faultAll code l).dbg
      regs := (s.faultAll code l).regs
      control := (s.faultAll code l).control
      commits := (s.faultAll code l).commits
      ctxs := (s.faultAll code l).ctxs } := by
  apply State.ext_of <;> simp only [State.faultAll_kept]

/-! ### The join (R220) -/

/-- The wait for a join with one more member at its program (R220). -/
def State.joined (s : State) (tt x c : Nat) : JoinWait :=
  let old := (s.coll.joins.find? fun j => j.ttPtr = tt).getD ⟨tt, [], none⟩
  let j1 : JoinWait := { old with members := old.members ++ [(x, c)] }
  if j1.firstAt.isNone && j1.holds x (s.ctx x).cls then { j1 with firstAt := some s.now } else j1

theorem collective_next {s : State} {x c n : Nat} {d : BitVec 512} (hr : s.readyAt x c = some (n, d)) (hop : dOpcode d = 6)
    (hnew : (s.coll.joins.all fun j => !(decide (j.ttPtr = dTtPtr d) && j.members.contains (x, c))) = true) :
    exec (.collective x c) s = .next { s with coll := { s.coll with
      joins := (s.coll.joins.filter fun (j : JoinWait) => j.ttPtr ≠ dTtPtr d) ++ [s.joined (dTtPtr d) x c] } } := by
  change execCollective x c s = _
  have hold : ((s.coll.joins.find? fun j => j.ttPtr = dTtPtr d).getD ⟨dTtPtr d, [], none⟩).members.contains (x, c) =
      false := by
    cases hf : s.coll.joins.find? fun j => j.ttPtr = dTtPtr d with
    | none => rfl
    | some j =>
      have hj := List.all_eq_true.mp hnew j (List.mem_of_find?_eq_some hf)
      simpa [List.find?_some hf] using hj
  simp only [execCollective, hr, hop, hold]
  rfl

theorem ttPtr_joined (s : State) (tt x c : Nat) : (s.joined tt x c).ttPtr = tt := by
  have hold : ((s.coll.joins.find? fun j => j.ttPtr = tt).getD ⟨tt, [], none⟩).ttPtr = tt := by
    cases hf : s.coll.joins.find? fun j => j.ttPtr = tt with
    | none => rfl
    | some j => simpa using List.find?_some hf
  unfold State.joined
  extract_lets old j1
  split
  · exact hold
  · exact hold

theorem mem_joined (s : State) (tt x c : Nat) : (x, c) ∈ (s.joined tt x c).members := by
  unfold State.joined
  extract_lets old j1
  split
  · exact List.mem_append_right _ (List.mem_singleton.mpr rfl)
  · exact List.mem_append_right _ (List.mem_singleton.mpr rfl)

/-! ### Phases are entered (R226) -/

/-- What entering phases changes: the collectives that run keep their program and their progress, no number is taken and no
join is touched; only PHASE_GO is sent. -/
structure entersPhases (s t : State) : Prop where
  running : ∀ r ∈ s.coll.running, ∃ q ∈ t.coll.running, q = { r with
    goDue := q.goDue, goTo := q.goTo, sentBy := q.sentBy, entering := q.entering, waitingTack := q.waitingTack }
  nextSeq : t.coll.nextSeq = s.coll.nextSeq
  joins : t.coll.joins = s.coll.joins
  only : t = { s with coll := t.coll, control := t.control }

namespace entersPhases

theorem refl (s : State) : entersPhases s s := ⟨fun r hr => ⟨r, hr, rfl⟩, rfl, rfl, rfl⟩

theorem trans {s t u : State} (h : entersPhases s t) (g : entersPhases t u) : entersPhases s u where
  running r hr := by
    obtain ⟨q, hq, hqr⟩ := h.running r hr
    obtain ⟨p, hp, hpq⟩ := g.running q hq
    exact ⟨p, hp, by rw [hpq, hqr]⟩
  nextSeq := g.nextSeq.trans h.nextSeq
  joins := g.joins.trans h.joins
  only := by rw [g.only, h.only]

/-- A collective that starts to enter its phase, or has entered it. -/
theorem modCollective (s : State) (n : Nat) {f : Collective → Collective} (hf : ∀ r, f r = { r with
      goDue := (f r).goDue, goTo := (f r).goTo, sentBy := (f r).sentBy, entering := (f r).entering,
      waitingTack := (f r).waitingTack }) : entersPhases s (s.modCollective n f) where
  running r hr := by
    refine ⟨_, List.mem_map_of_mem hr, ?_⟩
    split
    · exact hf r
    · rfl
  nextSeq := rfl
  joins := rfl
  only := rfl

/-- What is not a packet of a fibre port changes only the list of what has been sent. -/
theorem wire (s : State) {o : Output} (h : portFlits o = none) : entersPhases s (s.wire o) := by
  have hw : s.wire o = { s with control := { s.control with wire := s.control.wire ++ [o] } } := by
    simp only [State.wire, h]
  rw [hw]
  exact ⟨fun r hr => ⟨r, hr, rfl⟩, rfl, rfl, rfl⟩

theorem foldl {α : Type} {f : State → α → State} (h : ∀ s a, entersPhases s (f s a)) (l : List α) (s : State) :
    entersPhases s (l.foldl f s) := by
  induction l generalizing s with
  | nil => exact refl s
  | cons a l ih => exact (h s a).trans (ih (f s a))

theorem goPhase (s : State) (r : Collective) : entersPhases s (s.goPhase r) := by
  unfold State.goPhase
  extract_lets n lanes s1
  refine trans ?_ (foldl (fun s t => wire s rfl) r.towers _)
  obtain ⟨hrun, hseq, hjoins, honly⟩ : entersPhases s s1 := modCollective s r.seq fun _ => rfl
  exact ⟨hrun, hseq, hjoins, by rw [honly]⟩

theorem enterPhase (s : State) (r : Collective) : entersPhases s (s.enterPhase r) := by
  unfold State.enterPhase
  extract_lets n
  split
  · exact refl s
  · split
    · exact goPhase s r
    · split
      · split
        · exact refl s
        · exact goPhase s r
      · split
        · obtain ⟨hrun, hseq, hjoins, honly⟩ : entersPhases s _ :=
            modCollective s r.seq (f := fun r => { r with waitingTack := true }) fun _ => rfl
          exact ⟨hrun, hseq, hjoins, rfl⟩
        · exact refl s

theorem enterPhases (s : State) : entersPhases s s.enterPhases := foldl enterPhase s.coll.running s

end entersPhases

/-- The COLLECTIVE's start on a member changes its context, its cluster and the slates (R131, R220). -/
theorem startCollective_only (l : List (Nat × Nat)) (s : State) :
    ∃ k x g, l.foldl State.startCollective s = { s with clusters := k, ctxs := x, dbg := g } := by
  induction l generalizing s with
  | nil => exact ⟨_, _, _, rfl⟩
  | cons p l ih =>
    obtain ⟨k, x, g, h⟩ := ih (s.startCollective p)
    refine ⟨k, x, g, ?_⟩
    rw [List.foldl_cons, h]
    apply State.ext_of <;> simp only [State.startCollective_kept]

/-- The collective that a join starts (R220, R221). -/
def State.newCollective (s : State) (tt : Nat) (p : Program) (parts : List (Nat × Nat)) : Collective :=
  { seq := s.coll.nextSeq
    ttPtr := tt
    ctxs := p.ctxs
    participants := parts
    phases := p.phases
    transfers := p.transfers.map fun t =>
      { t with srcOff := s.transferSource parts t, dstOff := s.transferDest parts t }
    tally := p.tally
    phase := 0
    goDue := []
    goTo := []
    sentBy := []
    issued := []
    landed := []
    confirmed := []
    entering := true
    waitingTack := false
    stopped := []
    stoppedAt := none }

/-- A join of a good program takes the next number, starts the command on every participant and runs the collective. -/
theorem joinCollective_runs {s s2 : State} {tt : Nat} {p : Program}
    (h2 : s2 = s.zeroTallies p.tally (s.participantsOf p.ctxs)) (hg : s2.programGood p = true)
    (ht : p.transfers.all (fun t => s2.transferGood p t) = true) : ∃ k x g, s.joinCollective tt p =
    ({ s2 with
      clusters := k, ctxs := x, dbg := g
      coll := { s2.coll with
        running := s2.coll.running ++ [s2.newCollective tt p (s.participantsOf p.ctxs)]
        nextSeq := s2.coll.nextSeq + 1
        joins := s2.coll.joins.filter fun j => j.ttPtr ≠ tt } } : State).enterPhases := by
  obtain ⟨k, x, g, hstart⟩ := startCollective_only (s.participantsOf p.ctxs) s2
  refine ⟨k, x, g, ?_⟩
  subst h2
  simp only [State.joinCollective, hg, ht, hstart]
  rfl

theorem collectiveJoin_next {s s1 : State} {tt x : Nat} {l : List Nat} {j : JoinWait} {p : Program}
    (hj : s.coll.joins.find? (fun j => j.ttPtr = tt) = some j)
    (hw : (s.waitingAt j).filter (fun x => (s.ctx x).state = .bound && !(s.ctx x).ending) = x :: l)
    (hb : s.belled = false) (hst : s.programStalls tt = false)
    (hp : s.readProgram tt { ctx := x, ids := dIds x (s.collectiveAt x) } = (.ok p, s1))
    (hall : (p.ctxs.all (x :: l).contains && decide (p.ctxs ≠ []) && (x :: l).all p.ctxs.contains) = true) :
    exec (.collectiveJoin tt) s = .next (s1.joinCollective tt p) := by
  change execCollectiveJoin tt s = _
  simp only [execCollectiveJoin, hj, hw, hb, hst, hp, hall]
  rfl

/-! ### The join limit and the wait limit (R147, R220) -/

theorem joinLimitExpiry_next {s : State} {tt t0 : Nat} {j : JoinWait}
    (hj : s.coll.joins.find? (fun j => j.ttPtr = tt) = some j) (ht : j.firstAt = some t0) (hl : s.reg 0x411101 ≠ 0)
    (hb : s.belled = false) (hd : t0 + 1000 * s.reg 0x411101 ≤ s.now) :
    exec (.joinLimitExpiry tt) s = .next (s.faultAll 0x0603 (s.waitingAt j)) := by
  change execJoinLimitExpiry tt s = _
  have hgo : (decide (s.reg 0x411101 = 0) || s.belled || decide (s.now < t0 + 1000 * s.reg 0x411101)) = false := by
    simp [hl, hb, hd]
  simp only [execJoinLimitExpiry, hj, ht, hgo]
  rfl

theorem waitLimitExpiry_atEntry {s : State} {x c t0 : Nat} {r : TimetableRun} {e : BitVec 256}
    (h : s.ocAt c = some (x, r, e)) (hw : r.waitSince = some t0) (hl : (s.ctx x).waitLimit ≠ 0)
    (hd : t0 + 1000 * (s.ctx x).waitLimit < s.now) :
    exec (.waitLimitExpiry c) s = .next (s.faultCtx x 0x0107 c noEngine r.entry r.ring) := by
  change execWaitLimitExpiry c s = _
  simp only [execWaitLimitExpiry, h, hw]
  exact if_pos (by simp [hl, hd])

theorem waitLimitExpiry_inCollective {s : State} {x c t0 : Nat} (h : s.ocAt c = none) (hx : s.starting c = some x)
    (hw : s.stoppedSince x c = some t0) (hl : (s.ctx x).waitLimit ≠ 0) (hd : t0 + 1000 * (s.ctx x).waitLimit < s.now) :
    exec (.waitLimitExpiry c) s = .next (s.faultCtx x 0x0107 c noEngine 0 (s.memberRing x c)) := by
  change execWaitLimitExpiry c s = _
  simp only [execWaitLimitExpiry, h, hx, hw]
  exact if_pos (by simp [hl, hd])

/-- A fault of a BOUND context, as the clauses of the limits state it. -/
theorem faultCtx_faults {s : State} {x : Nat} (code cluster engine extra ring : Nat) (hb : (s.ctx x).state = .bound) :
    ((s.faultCtx x code cluster engine extra ring).ctx x).state = .faulted ∧
    ((s.faultCtx x code cluster engine extra ring).ctx x).faultCode = code ∧
    ((s.faultCtx x code cluster engine extra ring).ctx x).faultDetail = faultDetail cluster engine extra := by
  rw [ctx_faultCtx_of_bound code cluster engine extra ring hb x, if_pos rfl]
  exact ⟨rfl, rfl, rfl⟩

/-- Settles O8: the join's state is read through `joinCollective_runs` and `entersPhases`, the limits through the faults they
bring. -/
theorem collectiveStartsAndStops : Obligations.CollectiveStartsAndStops := by
  unfold Obligations.CollectiveStartsAndStops
  refine ⟨?_, ?_, ?_, ?_, ?_⟩
  · intro s x c n d hr hop hnew
    refine ⟨_, collective_next hr hop hnew, rfl, ⟨_, List.mem_append_right _ (List.mem_singleton.mpr rfl),
      ttPtr_joined s _ x c, mem_joined s _ x c⟩, ?_, rfl⟩
    intro j hj htt
    exact List.mem_append_left _ (List.mem_filter.mpr ⟨hj, by simpa using htt⟩)
  · intro s s1 s2 tt x l j p hj hw hb hst hp hall h2 hg ht
    refine ⟨_, collectiveJoin_next hj hw hb hst hp hall, ?_⟩
    obtain ⟨k, y, g, hrun⟩ := joinCollective_runs (tt := tt) h2 hg ht
    rw [hrun]
    obtain ⟨hrunning, hseq, hjoins, honly⟩ := entersPhases.enterPhases ({ s2 with
      clusters := k, ctxs := y, dbg := g
      coll := { s2.coll with
        running := s2.coll.running ++ [s2.newCollective tt p (s1.participantsOf p.ctxs)]
        nextSeq := s2.coll.nextSeq + 1
        joins := s2.coll.joins.filter fun j => j.ttPtr ≠ tt } } : State)
    generalize State.enterPhases _ = t at *
    obtain ⟨q, hq, hqr⟩ := hrunning _ (List.mem_append_right _ (List.mem_singleton.mpr rfl))
    refine ⟨⟨q, hq, ?_⟩, hseq, ?_, by rw [honly], by rw [honly]⟩
    · rw [hqr]
      exact ⟨rfl, rfl, rfl, rfl, rfl, rfl, rfl, rfl, rfl, rfl⟩
    · intro i hi
      rw [hjoins] at hi
      simpa using (List.mem_filter.mp hi).2
  · intro s tt t0 j hj ht hl hb hd
    refine ⟨_, joinLimitExpiry_next hj ht hl hb hd, fun x hx hbound => faultAll_faults _ hx hbound,
      fun x hx => faultAll_ctx_of_not_mem _ hx, ?_, faultAll_only s _ _⟩
    simp only [State.faultAll_kept]
  · intro s x c t0 r e h hw hl hd
    have hbound := state_bound_of_starting (ocAt_eq_some h).1
    obtain ⟨hstate, hcode, hdetail⟩ := faultCtx_faults 0x0107 c noEngine r.entry r.ring hbound
    refine ⟨_, waitLimitExpiry_atEntry h hw hl hd, hstate, hcode, hdetail, sameCtxs_faultCtx _ _ _ _ _, ?_, ?_,
      faultCtx_only _ _ _ _ _⟩
    · simp only [State.faultCtx_kept]
    · simp only [State.faultCtx_kept]
  · intro s x c t0 h hx hw hl hd
    obtain ⟨hstate, hcode, hdetail⟩ :=
      faultCtx_faults 0x0107 c noEngine 0 (s.memberRing x c) (state_bound_of_starting hx)
    refine ⟨_, waitLimitExpiry_inCollective h hx hw hl hd, hstate, hcode, hdetail, sameCtxs_faultCtx _ _ _ _ _, ?_, ?_,
      faultCtx_only _ _ _ _ _⟩
    · simp only [State.faultCtx_kept]
    · simp only [State.faultCtx_kept]

end Sys2Proof.Machine

namespace Sys2Proof.Machine

/-! ### One step for each cluster of a class -/

/-- Where one step for cluster `c` changes what `view` shows of `c` by an idempotent `g c`, and of no other cluster, as long as `I`
holds, the steps for all clusters of a list change it once for each of them. -/
theorem foldl_view {β : Type} {view : State → Nat → β} {g : Nat → β → β} {f : State → Nat → State} {I : State → Prop}
    (hI : ∀ s c, I s → I (f s c)) (hg : ∀ c b, g c (g c b) = g c b)
    (h : ∀ s c k, I s → view (f s c) k = if k = c then g c (view s c) else view s k) (l : List Nat) {s : State} (hs : I s)
    (k : Nat) : view (l.foldl f s) k = if k ∈ l then g k (view s k) else view s k := by
  induction l generalizing s with
  | nil => rfl
  | cons c l ih =>
    rw [List.foldl_cons, ih (hI s c hs), h s c k hs]
    by_cases hk : k = c
    · subst hk
      by_cases hl : k ∈ l <;> simp [hl, hg]
    · simp [hk]

/-- What every step keeps, all steps keep. -/
theorem foldl_keeps {α β : Type} {π : State → β} {f : State → α → State} (h : ∀ s a, π (f s a) = π s) (l : List α)
    (s : State) : π (l.foldl f s) = π s := by
  induction l generalizing s with
  | nil => rfl
  | cons a l ih => rw [List.foldl_cons, ih, h]

/-- Clearing the ranges `[lo c, lo c + n)` of a list: their bytes read 0, and the others as before. -/
theorem read_foldl_clear {f : State → Nat → State} {lo : Nat → Nat} {n : Nat}
    (h : ∀ s c, (f s c).memory.cells = s.memory.cells.clearRange (lo c) (lo c + n)) (l : List Nat) (s : State) (a : Nat) :
    (l.foldl f s).memory.cells.read a = if ∃ c ∈ l, lo c ≤ a ∧ a < lo c + n then 0 else s.memory.cells.read a := by
  induction l generalizing s with
  | nil => simp
  | cons c l ih =>
    rw [List.foldl_cons, ih, h, Mem.read_clearRange]
    by_cases hc : lo c ≤ a ∧ a < lo c + n
    · simp [hc]
    · simp [hc]

/-! ### Actions (R110, R113) -/

theorem action_runs {s : State} {x : Nat} {b : Bool} {act : Ctx → State} (hr : s.boot.rigLost = false) (hx : x ≠ 0)
    (hp : (s.ctx x).pendingAction = none) : s.action x b act = act (s.ctx x) := by
  simp only [State.action, hr, hx, hp]
  rfl

/-- A CLOSE is accepted while no CLOSE is pending. -/
theorem action_close {s : State} {x : Nat} {act : Ctx → State} (hr : s.boot.rigLost = false) (hx : x ≠ 0)
    (hp : (s.ctx x).pendingAction ≠ some .close) : s.action x true act = act (s.ctx x) := by
  simp only [State.action, hr, hx, Bool.false_eq_true, if_false]
  split
  · next h => exact absurd h hp
  · rfl
  · rfl

theorem State.ctx_setStatus (s : State) (x y v : Nat) :
    (s.setStatus x v).ctx y = if y = x then { s.ctx x with actionStatus := v } else s.ctx y :=
  State.ctx_modCtx s x y _

theorem sameCtxs.trans {x : Nat} {s t u : State} (h : sameCtxs x s t) (g : sameCtxs x t u) : sameCtxs x s u :=
  fun y hy => (g y hy).trans (h y hy)

theorem sameCtxs_of_ctxs {x : Nat} {s t : State} (h : t.ctxs = s.ctxs) : sameCtxs x s t :=
  fun y _ => by simp only [State.ctx, h]

theorem sameCtxs_setState (x : Nat) (s : State) (new : CtxState) : sameCtxs x s (s.setState x new) :=
  fun y hy => by rw [State.ctx_setState, if_neg hy]

theorem setState_only (s : State) (x : Nat) (new : CtxState) : ∃ g,
    s.setState x new = ({ s with dbg := g } : State).modCtx x fun k => { k with state := new } := by
  obtain ⟨g, hg⟩ := State.slateOnly_only (s.modCtx x fun k => { k with state := new }) hubUnit 0xF007 x {}
    (leBytes 1 (s.ctx x).state.code ++ leBytes 1 new.code)
  exact ⟨g, hg⟩

/-- An action that sets the state and the status 0 of its context, and changes it further by `f`. -/
theorem setState_setStatus_modCtx (s : State) (x : Nat) (new : CtxState) (f : Ctx → Ctx) :
    (∀ y, ((((s.setState x new).setStatus x 0).modCtx x f)).ctx y =
      if y = x then f { s.ctx x with state := new, actionStatus := 0 } else s.ctx y) ∧
    ((s.setState x new).setStatus x 0).modCtx x f = { s with
      ctxs := (((s.setState x new).setStatus x 0).modCtx x f).ctxs
      dbg := (((s.setState x new).setStatus x 0).modCtx x f).dbg } := by
  constructor
  · intro y
    rw [State.ctx_modCtx, State.ctx_setStatus, State.ctx_setStatus, State.ctx_setState, State.ctx_setState]
    by_cases hy : y = x <;> simp [hy]
  · obtain ⟨g, hg⟩ := setState_only s x new
    rw [hg]
    rfl

/-! ### OPEN (R113) -/

/-- A context as OPEN starts it, its indices kept. -/
def Ctx.start (now : Nat) (k : Ctx) : Ctx :=
  { k with
    completed := 0
    boundTime := 0
    fetched := k.consumer.toNat
    descriptors := SMap.empty
    skip := []
    members := ⟨k.cls.map fun c => (c, ({ next := k.consumer.toNat } : Member))⟩
    waited := 0
    waitingSince := now }

theorem openOp_next {s : State} {x : Nat} (hr : s.boot.rigLost = false) (hx : x ≠ 0)
    (hp : (s.ctx x).pendingAction = none) (hs : (s.ctx x).state = .closed) (ho : openable (s.ctx x) = true) :
    exec (.openOp x) s = .next (((s.setState x .opened).setStatus x 0).modCtx x (Ctx.start s.now)) := by
  change execOpenOp x s = _
  rw [execOpenOp, State.openAction, action_runs hr hx hp]
  simp only [hs, ho]
  rfl

theorem lookup_map_const {α : Type} {l : List Nat} {c : Nat} (v : α) (h : c ∈ l) :
    SMap.lookup (l.map fun c => (c, v)) c = some v := by
  induction l with
  | nil => cases h
  | cons a l ih =>
    rw [List.map_cons, SMap.lookup]
    by_cases ha : a = c
    · rw [if_pos ha]
    · rw [if_neg ha, ih (List.mem_of_ne_of_mem (Ne.symm ha) h)]

/-- Every member of a class starts at one ring index. -/
theorem memberOf_start {k : Ctx} {c j : Nat} (hm : k.members = ⟨k.cls.map fun c => (c, ({ next := j } : Member))⟩)
    (hc : c ∈ k.cls) : memberOf k c = { next := j, phase := .idle } := by
  rw [memberOf, hm, SMap.get, lookup_map_const _ hc]
  rfl

/-! ### CLOSE (R145) -/

theorem close_next {s : State} {x : Nat} (hr : s.boot.rigLost = false) (hx : x ≠ 0)
    (hp : (s.ctx x).pendingAction ≠ some .close) (h1 : (s.ctx x).state ≠ .saving) (h2 : (s.ctx x).state ≠ .restoring)
    (h3 : (s.ctx x).saveRunning = false) (h4 : (s.ctx x).restoreRunning = false) :
    exec (.close x) s = .next (s.startClose x) := by
  change execClose x s = _
  rw [execClose, State.closeAction, action_close hr hx hp]
  simp only [h1, h2, h3, h4]
  rfl

/-- A context whose CLOSE has taken effect (R145). -/
def Ctx.closing (k : Ctx) : Ctx :=
  { k with
    pendingAction := some .close
    actionStatus := 1
    zeroing := true
    ending := true
    producer := k.consumer
    descriptors := SMap.empty
    pendingSeed := none }

theorem startClose_eq (s : State) (x : Nat) :
    s.startClose x = (((s.dropRequests x).closeDoors x).stopCollectives x).modCtx x Ctx.closing := rfl

theorem domain_startClose (s : State) (x : Nat) : (s.startClose x).domain = { s.domain with
    outstanding := s.domain.outstanding.filterMap (Outstanding.without x)
    windows := s.domain.windows.dropKeys fun n => n / 64 = x } := by
  rw [startClose_eq, State.modCtx_domain]
  simp only [State.stopCollectives_kept]
  rfl

theorem messages_startClose (s : State) (x : Nat) : (s.startClose x).messages = { s.messages with
    inboxes := ⟨s.messages.inboxes.entries.filter fun e => e.2.owner ≠ x⟩ } := by
  rw [startClose_eq, State.modCtx_messages]
  simp only [State.stopCollectives_kept]
  rfl

theorem ctx_startClose (s : State) (x y : Nat) :
    (s.startClose x).ctx y = if y = x then (s.ctx x).closing else s.ctx y := by
  rw [startClose_eq, State.ctx_modCtx, State.ctx_stopCollectives, State.ctx_stopCollectives]
  rfl

theorem parts_without {x : Nat} {o u : Outstanding} (h : Outstanding.without x o = some u) : ∀ p ∈ u.parts, p.ctx ≠ x := by
  intro p hp
  simp only [Outstanding.without, Option.ite_none_left_eq_some, Option.some.injEq] at h
  obtain ⟨-, rfl⟩ := h
  simpa using (List.mem_filter.mp hp).2

theorem window_startClose (s : State) {x n : Nat} (hn : n < 64) : (s.startClose x).window x n = {} := by
  have hkey : windowKey x n / 64 = x := by unfold windowKey; omega
  rw [State.window, domain_startClose, SMap.get]
  simp only [SMap.lookup_dropKeys, hkey]
  rfl

/-! ### CLOSE_COMPLETE (R145) -/

/-- The clusters of a context's class that it holds. -/
def State.heldClusters (s : State) (x : Nat) : List Nat := (s.ctx x).cls.filter fun c => (s.cluster c).bound = some x

/-- A context once its CLOSE has ended, whose state was `was`. -/
def Ctx.closed (was : CtxState) (now : Nat) (k : Ctx) : Ctx :=
  { k with
    boundTime := if was = .bound then k.boundTime + (now - k.boundAt) else k.boundTime
    zeroing := false
    pendingAction := none
    actionStatus := 0
    producer := 0
    consumer := 0
    fetched := 0
    members := SMap.empty
    skip := []
    faultCode := 0
    faultCommand := 0
    faultDetail := 0
    holds := false
    ending := false
    deferredSince := none
    clusterLost := false }

/-- The clusters of a list are zeroed and freed, and then the save area is zeroed (R145). -/
def State.zeroAll (s : State) (l : List Nat) (base size : Nat) : State :=
  let s1 := ((l.foldl (fun s c => s.zeroCluster c) s).zonesFreed l).wipeRange base size
  { s1 with memory := { s1.memory with cores := s1.memory.cores.dropKeys fun o => base ≤ o && o < base + size } }

theorem cluster_zeroCluster (s : State) (c k : Nat) :
    (s.zeroCluster c).cluster k = if k = c then { s.cluster c with core := {}, bound := none } else s.cluster k := by
  rw [State.zeroCluster, State.cluster_modCluster]
  rfl

theorem cluster_foldl_zeroCluster (l : List Nat) (s : State) (k : Nat) :
    (l.foldl (fun s c => s.zeroCluster c) s).cluster k =
      if k ∈ l then { s.cluster k with core := {}, bound := none } else s.cluster k :=
  foldl_view (view := State.cluster) (I := fun _ => True) (g := fun _ q => { q with core := {}, bound := none })
    (fun _ _ h => h) (fun _ _ => rfl) (fun s c k _ => cluster_zeroCluster s c k) l trivial k

theorem zeroAll_only (s : State) (l : List Nat) (base size : Nat) : s.zeroAll l base size = { s with
    memory := (s.zeroAll l base size).memory
    clusters := (s.zeroAll l base size).clusters
    clocks := (s.zeroAll l base size).clocks } := by
  have hfold : ∀ {β : Type} {π : State → β}, (∀ s c, π (State.zeroCluster s c) = π s) →
      π (l.foldl (fun s c => s.zeroCluster c) s) = π s := fun h => foldl_keeps h l s
  apply State.ext_of
  all_goals
    simp only [State.zeroAll, State.wipeRange_kept, State.zonesFreed_kept]
  all_goals
    exact hfold fun s c => by simp only [State.zeroCluster_kept]

theorem cluster_zeroAll (s : State) (l : List Nat) (base size k : Nat) : (s.zeroAll l base size).cluster k =
    if k ∈ l then { s.cluster k with core := {}, bound := none } else s.cluster k := by
  rw [← cluster_foldl_zeroCluster, State.cluster, State.cluster]
  simp only [State.zeroAll, State.wipeRange_kept, State.zonesFreed_kept]

/-- What is zeroed reads 0, and every other byte as before. -/
theorem read_zeroAll (s : State) (l : List Nat) (base size a : Nat) : (s.zeroAll l base size).memory.cells.read a =
    if (base ≤ a ∧ a < base + size) ∨ ∃ c ∈ l, clusterOffset c 0 ≤ a ∧ a < clusterOffset c 0 + 0x300000 then 0
    else s.memory.cells.read a := by
  have hclear : ∀ (s : State) c, (s.zeroCluster c).memory.cells =
      s.memory.cells.clearRange (clusterOffset c 0) (clusterOffset c 0 + 0x300000) := fun _ _ => rfl
  have hmem : ((l.foldl (fun s c => s.zeroCluster c) s).zonesFreed l).memory =
      (l.foldl (fun s c => s.zeroCluster c) s).memory := by simp only [State.zonesFreed_kept]
  have hread := read_foldl_clear hclear l s a
  simp only [State.zeroAll, State.wipeRange, hmem, Mem.read_clearRange, hread]
  by_cases hb : base ≤ a ∧ a < base + size
  · simp [hb]
  · simp [hb]

/-- A context whose CLOSE is complete, with what it held zeroed. -/
def State.closed (s : State) (x : Nat) : State :=
  ((s.zeroAll (s.heldClusters x) (s.ctx x).saveBase (s.ctx x).saveSize).setState x .closed).modCtx x
    (Ctx.closed (s.ctx x).state s.now)

theorem closed_facts (s : State) (x : Nat) :
    (∀ y, (s.closed x).ctx y =
      if y = x then Ctx.closed (s.ctx x).state s.now { s.ctx x with state := .closed } else s.ctx y) ∧
    (∀ k, (s.closed x).cluster k =
      if k ∈ s.heldClusters x then { s.cluster k with core := {}, bound := none } else s.cluster k) ∧
    (∀ a, (s.closed x).memory.cells.read a = if ((s.ctx x).saveBase ≤ a ∧ a < (s.ctx x).saveBase + (s.ctx x).saveSize) ∨
      ∃ c ∈ s.heldClusters x, clusterOffset c 0 ≤ a ∧ a < clusterOffset c 0 + 0x300000 then 0
      else s.memory.cells.read a) ∧
    s.closed x = { s with
      memory := (s.closed x).memory
      clusters := (s.closed x).clusters
      clocks := (s.closed x).clocks
      ctxs := (s.closed x).ctxs
      dbg := (s.closed x).dbg } := by
  have hread := read_zeroAll s (s.heldClusters x) (s.ctx x).saveBase (s.ctx x).saveSize
  have hcluster := cluster_zeroAll s (s.heldClusters x) (s.ctx x).saveBase (s.ctx x).saveSize
  have honly := zeroAll_only s (s.heldClusters x) (s.ctx x).saveBase (s.ctx x).saveSize
  unfold State.closed
  generalize s.zeroAll (s.heldClusters x) (s.ctx x).saveBase (s.ctx x).saveSize = u at *
  have hu : u.ctx = s.ctx := by rw [honly]; rfl
  obtain ⟨g, hg⟩ := setState_only u x .closed
  refine ⟨fun y => ?_, fun k => ?_, fun a => ?_, ?_⟩
  · rw [State.ctx_modCtx, State.ctx_setState, State.ctx_setState, if_pos rfl, hu]
    by_cases hy : y = x <;> simp [hy]
  · rw [hg]; exact hcluster k
  · rw [hg]; exact hread a
  · rw [hg, honly]; rfl

theorem closeComplete_next {s : State} {x : Nat} (hz : (s.ctx x).zeroing = true) :
    exec (.closeComplete x) s = .next (s.closed x) := by
  change execCloseComplete x s = _
  simp only [execCloseComplete, hz]
  rfl

theorem mem_heldClusters {s : State} {x c : Nat} :
    c ∈ s.heldClusters x ↔ c ∈ (s.ctx x).cls ∧ (s.cluster c).bound = some x := by
  simp [State.heldClusters]

/-! ### RESUME (R146) -/

theorem resumeCore_idem (k : Ctx) (c : Nat) (q : Core) : resumeCore k c (resumeCore k c q) = resumeCore k c q := by
  unfold resumeCore
  split
  · simp [Core.unsuspended, resumedCore]
  · rfl

/-- What RESUME does to the state of the members of context `x`, in its clusters or in its images. -/
def State.resumeMembers (s : State) (x : Nat) : State :=
  (s.ctx x).cls.foldl (fun t c =>
    if (s.ctx x).holds then t.modCore c (resumeCore (s.ctx x) c)
    else { t with memory := { t.memory with
      cores := t.memory.cores.modify {} (t.imageOf x c) (resumeCore (s.ctx x) c) } }) s

theorem resumeMembers_only (s : State) (x : Nat) : ∃ k m,
    s.resumeMembers x = { s with clusters := k, memory := m } ∧ m.cells = s.memory.cells := by
  unfold State.resumeMembers
  generalize hf : (fun (t : State) c => if (s.ctx x).holds then t.modCore c (resumeCore (s.ctx x) c) else _) = f
  have hstep : ∀ t c, ∃ k m, f t c = { t with clusters := k, memory := m } ∧ m.cells = t.memory.cells := by
    intro t c
    rw [← hf]
    dsimp only
    split
    · exact ⟨_, _, rfl, rfl⟩
    · exact ⟨_, _, rfl, rfl⟩
  generalize (s.ctx x).cls = l
  clear hf
  induction l generalizing s with
  | nil => exact ⟨_, _, rfl, rfl⟩
  | cons c l ih =>
    obtain ⟨k, m, h, hm⟩ := hstep s c
    obtain ⟨k', m', h', hm'⟩ := ih (f s c)
    rw [h] at h' hm'
    exact ⟨k', m', by rw [List.foldl_cons, h, h'], hm'.trans hm⟩

theorem core_modCore (s : State) (c k : Nat) (g : Core → Core) :
    (s.modCore c g).core k = if k = c then g (s.core c) else s.core k := by
  rw [State.core, State.modCore, State.cluster_modCluster]
  by_cases h : k = c <;> simp [h, State.core]

theorem core_resumeMembers {s : State} {x c : Nat} (hh : (s.ctx x).holds = true) (hc : c ∈ (s.ctx x).cls) :
    (s.resumeMembers x).core c = resumeCore (s.ctx x) c (s.core c) := by
  have h := foldl_view (view := State.core) (I := fun _ => True) (fun _ _ h => h) (resumeCore_idem (s.ctx x))
    (fun t a k _ => core_modCore t a k (resumeCore (s.ctx x) a)) (s.ctx x).cls (s := s) trivial c
  rw [if_pos hc] at h
  rw [← h, State.resumeMembers, hh]
  rfl

/-- RESUME, up to the time since when the ring is empty: the members leave the faulted command, and the commands that are complete
are passed. -/
def State.resumed (s : State) (x : Nat) : State :=
  ((((s.resumeMembers x).setState x (if (s.ctx x).holds then .bound else .parked)).setStatus x 0).modCtx x fun q =>
    Ctx.resumed q s.now).completeCommands x 16

theorem resume_next {s : State} {x : Nat} (hr : s.boot.rigLost = false) (hx : x ≠ 0)
    (hp : (s.ctx x).pendingAction = none) (hs : (s.ctx x).state = .faulted) (h1 : (s.ctx x).saveRunning = false)
    (h2 : (s.ctx x).restoreRunning = false) (h3 : (s.ctx x).clusterLost = false) :
    exec (.resume x) s = .next ((s.resumed x).modCtx x fun q =>
      { q with idleSince := if q.consumer = q.producer then some s.now else none }) := by
  change execResume x s = _
  rw [execResume, State.resumeAction, action_runs hr hx hp]
  simp only [hs, h1, h2, h3]
  rfl

/-- A context that RESUME has set going, its consumer index where it was. -/
def Ctx.goesOn (now : Nat) (k : Ctx) : Ctx :=
  Ctx.resumed { k with state := if k.holds then .bound else .parked, actionStatus := 0 } now

/-- What RESUME leaves before it passes any command: the context goes on, and the members' state has changed. -/
theorem resumed_eq (s : State) (x : Nat) : ∃ u : State, (∀ y, u.ctx y = if y = x then (s.ctx x).goesOn s.now else s.ctx y) ∧
    (∀ c, u.core c = (s.resumeMembers x).core c) ∧ u.memory.cells = s.memory.cells ∧ u.now = s.now ∧
    u = { s with ctxs := u.ctxs, clusters := u.clusters, memory := u.memory, dbg := u.dbg } ∧
    s.resumed x = u.completeCommands x 16 := by
  obtain ⟨k, m, hs, hm⟩ := resumeMembers_only s x
  refine ⟨(((s.resumeMembers x).setState x (if (s.ctx x).holds then .bound else .parked)).setStatus x 0).modCtx x fun q =>
    Ctx.resumed q s.now, ?_, ?_, ?_, ?_, ?_, rfl⟩
  all_goals
    obtain ⟨hctx, honly⟩ := setState_setStatus_modCtx (s.resumeMembers x) x
      (if (s.ctx x).holds then .bound else .parked) fun q => Ctx.resumed q s.now
  · intro y
    rw [hctx y, hs]
    rfl
  · intro c
    rw [honly]
    rfl
  · rw [honly, hs]
    exact hm
  · rw [honly, hs]
    rfl
  · rw [honly, hs]

/-- Only the oldest command is complete: it alone is passed. -/
theorem completeCommands_oldest {s : State} {x j fuel : Nat} (hj : (s.ctx x).consumer.toNat = j)
    (hp : passedBy (s.ctx x) j = true) (hop : opcodeAt (s.ctx x) j ≠ 9) (hdef : (s.ctx x).deferredSince = none)
    (hn : descriptorAt (s.ctx x) (ringNext j) = none) (hs : (s.ctx x).skip.contains (ringNext j) = false) :
    s.completeCommands x (fuel + 2) = s.modCtx x (Ctx.passCommand j s.now) := by
  generalize ht : s.modCtx x (Ctx.passCommand j s.now) = t
  have hctx : t.ctx x = Ctx.passCommand j s.now (s.ctx x) := by rw [← ht, State.ctx_modCtx, if_pos rfl]
  have hstop : passedBy (t.ctx x) (t.ctx x).consumer.toNat = false := by
    have hc : (t.ctx x).consumer.toNat = ringNext j := by rw [hctx, ← hj]; exact toNat_add_one _
    have hl : descriptorAt (t.ctx x) (ringNext j) = none := by
      rw [hctx]
      simp only [descriptorAt, Ctx.passCommand] at hn ⊢
      rw [SMap.lookup_dropKeys, hn]
      exact ite_self _
    have hk : (t.ctx x).skip.contains (ringNext j) = false := by
      rw [hctx]
      simp only [List.contains_eq_mem, decide_eq_false_iff_not] at hs ⊢
      exact fun h => hs (List.mem_of_mem_filter h)
    rw [hc, passedBy, hl, hk]
    rfl
  rw [completeCommands_succ, hj, if_pos hp, ht, afterCommand_eq_self hop (by rw [hctx]; exact hdef), completeCommands_succ,
    hstop]
  rfl

theorem completeCommands_none {s : State} {x fuel : Nat} (hp : passedBy (s.ctx x) (s.ctx x).consumer.toNat = false) :
    s.completeCommands x (fuel + 1) = s := by
  rw [completeCommands_succ, hp]
  rfl

/-- A pending faulted command is marked complete, and nothing else of its context's ring changes. -/
theorem goesOn_ring {k : Ctx} (now : Nat) (hp : pendingCommand k k.faultCommand = true) :
    (k.goesOn now).skip = k.faultCommand :: k.skip.filter (· ≠ k.faultCommand) ∧
    (k.goesOn now).consumer = k.consumer ∧ (k.goesOn now).completed = k.completed ∧
    (k.goesOn now).descriptors = k.descriptors ∧ (k.goesOn now).deferredSince = none ∧ (k.goesOn now).ending = false ∧
    (k.goesOn now).state = (if k.holds then .bound else .parked) ∧ (k.goesOn now).actionStatus = 0 := by
  have hp' : pendingCommand { k with state := if k.holds then .bound else .parked, actionStatus := 0 } k.faultCommand =
      true := hp
  simp [Ctx.goesOn, Ctx.resumed, hp']

/-- Whether a command is complete does not depend on the state or the status of its context. -/
theorem passedBy_goesOn (k : Ctx) (now j : Nat) : passedBy (k.goesOn now) j = passedBy (k.resumed now) j := by
  unfold Ctx.goesOn Ctx.resumed
  have hp : pendingCommand { k with state := if k.holds then .bound else .parked, actionStatus := 0 } k.faultCommand =
      pendingCommand k k.faultCommand := rfl
  simp only [hp]
  cases pendingCommand k k.faultCommand <;> rfl

section
variable {s : State} {x c : Nat} (hp : pendingCommand (s.ctx x) (s.ctx x).faultCommand = true)
include hp

/-- A member within the faulted command leaves it, and keeps its accumulators (R146). -/
theorem resumeCore_within (hc : (memberOf (s.ctx x) c).next = (s.ctx x).faultCommand) (q : Core) :
    (resumeCore (s.ctx x) c q).run = none ∧ (resumeCore (s.ctx x) c q).meQueue = [] ∧
    (resumeCore (s.ctx x) c q).acc = q.acc := by
  simp only [resumeCore, hp, hc]
  exact ⟨rfl, rfl, rfl⟩

omit hp in
theorem resumeCore_elsewhere (hc : (memberOf (s.ctx x) c).next ≠ (s.ctx x).faultCommand) (q : Core) :
    resumeCore (s.ctx x) c q = Core.unsuspended q := by
  simp [resumeCore, hc]

end

/-- The members' state after a RESUME, in the clusters that the context holds (R44, R146). -/
theorem resumed_members {s t : State} {x : Nat} (hp : pendingCommand (s.ctx x) (s.ctx x).faultCommand = true)
    (ht : ∀ c, t.core c = (s.resumeMembers x).core c) :
    ((s.ctx x).holds = true → ∀ c ∈ (s.ctx x).cls, (memberOf (s.ctx x) c).next = (s.ctx x).faultCommand →
      (t.core c).run = none ∧ (t.core c).meQueue = [] ∧ (t.core c).acc = (s.core c).acc) ∧
    ((s.ctx x).holds = true → ∀ c ∈ (s.ctx x).cls, (memberOf (s.ctx x) c).next ≠ (s.ctx x).faultCommand →
      t.core c = Core.unsuspended (s.core c)) := by
  constructor
  · intro hh c hc hn
    rw [ht, core_resumeMembers hh hc]
    exact resumeCore_within hp hn _
  · intro hh c hc hn
    rw [ht, core_resumeMembers hh hc]
    exact resumeCore_elsewhere hn _

theorem descriptorAt_goesOn {k : Ctx} (now : Nat) (hp : pendingCommand k k.faultCommand = true) (j : Nat) :
    descriptorAt (k.goesOn now) j = descriptorAt k j := by
  obtain ⟨-, -, -, hdesc, -⟩ := goesOn_ring now hp
  rw [descriptorAt, hdesc, descriptorAt]

theorem opcodeAt_ne_nine {k : Ctx} {j : Nat} (h : (descriptorAt k j).all (fun d => decide (dOpcode d ≠ 9)) = true) :
    opcodeAt k j ≠ 9 := by
  rw [opcodeAt]
  cases hd : descriptorAt k j with
  | none => decide
  | some d => simpa [hd] using h

/-- A faulted command that is the oldest one is passed, and no other. -/
theorem goesOn_passes {s u : State} {x : Nat} (hux : u.ctx x = (s.ctx x).goesOn s.now)
    (hpend : pendingCommand (s.ctx x) (s.ctx x).faultCommand = true)
    (hj : (s.ctx x).consumer.toNat = (s.ctx x).faultCommand)
    (hn : descriptorAt (s.ctx x) (ringNext (s.ctx x).faultCommand) = none)
    (hskip : (s.ctx x).skip.contains (ringNext (s.ctx x).faultCommand) = false)
    (hop : (descriptorAt (s.ctx x) (s.ctx x).faultCommand).all (fun d => decide (dOpcode d ≠ 9)) = true) :
    u.completeCommands x 16 = u.modCtx x (Ctx.passCommand (s.ctx x).faultCommand u.now) := by
  obtain ⟨hskips, hcons, -, -, hdef, -⟩ := goesOn_ring s.now hpend
  refine completeCommands_oldest (by rw [hux, hcons, hj]) ?_ ?_ (by rw [hux, hdef]) ?_ ?_
  · simp [hux, passedBy, hskips]
  · rw [hux, opcodeAt, descriptorAt_goesOn s.now hpend]
    exact opcodeAt_ne_nine hop
  · rw [hux, descriptorAt_goesOn s.now hpend, hn]
  · rw [hux, hskips]
    simp only [List.contains_eq_mem, decide_eq_false_iff_not] at hskip ⊢
    exact fun h => (List.mem_cons.mp h).elim ringNext_ne fun h => hskip (List.mem_of_mem_filter h)

/-! ### PARK (R113, R131) -/

theorem boundaryEffects_within {s : State} {x : Nat} (h : commandBoundary (s.ctx x) = false) : s.boundaryEffects x = s := by
  simp only [State.boundaryEffects, h]
  rfl

theorem boundaryEffects_park {s : State} {x : Nat} (hb : commandBoundary (s.ctx x) = true)
    (hs : (s.ctx x).pendingSeed = none) (ha : (s.ctx x).pendingAction = some .park) :
    s.boundaryEffects x = s.beginStop x := by
  simp only [State.boundaryEffects, hb, hs, ha]
  rfl

/-- A context whose PARK is pending. -/
def Ctx.parking (k : Ctx) : Ctx := { k with pendingAction := some .park, actionStatus := 1 }

theorem park_next {s : State} {x : Nat} (hr : s.boot.rigLost = false) (hx : x ≠ 0)
    (hp : (s.ctx x).pendingAction = none) (hs : (s.ctx x).state = .bound) :
    exec (.park x) s = .next ((s.modCtx x Ctx.parking).boundaryEffects x) := by
  change execPark x s = _
  rw [execPark, State.parkAction, action_runs hr hx hp]
  simp only [hs]
  rfl

/-- Where the period may end now, its end begins (R138 to R140). -/
theorem beginStop_next {s : State} {x : Nat} (hs : (s.ctx x).state = .bound) (he : (s.ctx x).ending = false)
    (hd : s.defers x = false) : s.beginStop x = (s.leaveJoins x).modCtx x fun k => { k with ending := true } := by
  simp only [State.beginStop, hs, he, hd]
  rfl

theorem beginStop_facts {s : State} {x : Nat} (hs : (s.ctx x).state = .bound) (he : (s.ctx x).ending = false)
    (hd : s.defers x = false) : (s.beginStop x).ctx x = { s.ctx x with ending := true } ∧ sameCtxs x s (s.beginStop x) ∧
    s.beginStop x = { s with ctxs := (s.beginStop x).ctxs, coll := (s.beginStop x).coll } := by
  rw [beginStop_next hs he hd]
  refine ⟨?_, sameCtxs_modCtx x (s.leaveJoins x) _, rfl⟩
  rw [State.ctx_modCtx, if_pos rfl]
  rfl

/-- Whether a period end is deferred depends on nothing of the context but its class, its members and its descriptors. -/
theorem defers_congr {s t : State} {x : Nat} (hc : t.coll = s.coll) (hp : t.package = s.package)
    (hk : (t.ctx x).cls = (s.ctx x).cls) (hm : (t.ctx x).members = (s.ctx x).members)
    (hd : (t.ctx x).descriptors = (s.ctx x).descriptors) : t.defers x = s.defers x := by
  simp only [State.defers, State.collectiveRuns, State.fencedClass, State.towerServes, State.die, memberOf, descriptorAt, hc,
    hp, hk, hm, hd]
  rfl

theorem commandBoundary_congr {k q : Ctx} (hc : q.cls = k.cls) (hm : q.members = k.members)
    (hd : q.descriptors = k.descriptors) (hs : q.skip = k.skip) : commandBoundary q = commandBoundary k := by
  simp only [commandBoundary, startedBy, memberOf, hc, hm, hd, hs]
  rfl

/-! ### DETACH and ATTACH (R144) -/

theorem detach_next {s : State} {x : Nat} (hr : s.boot.rigLost = false) (hx : x ≠ 0)
    (hp : (s.ctx x).pendingAction = none) (hs : (s.ctx x).state = .parked) (hd : s.doorsOpen x = false) :
    exec (.detach x) s = .next (((s.writeHeader x 3 (leNat (s.held ((s.ctx x).saveBase + 0x80) 8))).setState x
      .closed).setStatus x 0) := by
  change execDetach x s = _
  rw [execDetach, State.detachAction, action_runs hr hx hp]
  simp only [hs, hd]
  rfl

theorem State.ctx_writeHeader (s : State) (x y n t : Nat) : (s.writeHeader x n t).ctx y = s.ctx y := by
  simp only [State.ctx, State.writeHeader_kept]

/-- A context as ATTACH sets it up, with both indices at that of the image's header. -/
def Ctx.attached (j now : Nat) (k : Ctx) : Ctx :=
  { k with
    consumer := BitVec.ofNat 32 j
    producer := BitVec.ofNat 32 j
    fetched := j
    descriptors := SMap.empty
    skip := []
    members := ⟨k.cls.map fun c => (c, ({ next := j } : Member))⟩
    waited := 0
    waitingSince := now }

theorem attach_next {s s1 s2 : State} {x : Nat} {h : List Byte} (hr : s.boot.rigLost = false) (hx : x ≠ 0)
    (hp : (s.ctx x).pendingAction = none) (hs : (s.ctx x).state = .closed)
    (h1 : s.loadRange (s.ctx x).saveBase 144 hubRequester = (.ok h, s2))
    (h2 : s.loadRange ((s.ctx x).saveBase + 0x800) 144 hubRequester = (.ok (complementBytes h), s1))
    (hn : field h 0 2 = x) (hc : subBytes h 0x10 100 = bytesOfClass (s.ctx x).cls) :
    exec (.attach x) s =
      .next (((s1.setState x .parked).setStatus x 0).modCtx x (Ctx.attached (field h 8 4) s.now)) := by
  change execAttach x s = _
  rw [execAttach, State.attachAction, action_runs hr hx hp]
  simp only [hs, h1, h2, hn, hc, ne_eq, not_true_eq_false, decide_false, Bool.or_self, Bool.false_eq_true, if_false]
  rfl

/-- Settles O19: each action is read through the laws of what it does to its context, its members and memory. -/
theorem contextActionsRun : Obligations.ContextActionsRun := by
  unfold Obligations.ContextActionsRun
  refine ⟨?_, ?_, ?_, ?_, ?_, ?_, ?_, ?_, ?_⟩
  · intro s x hr hx hp hs ho
    refine ⟨_, openOp_next hr hx hp hs ho, ?_⟩
    obtain ⟨hctx, honly⟩ := setState_setStatus_modCtx s x .opened (Ctx.start s.now)
    refine ⟨?_, ?_, ?_, ?_, ?_, ?_, ?_, fun y hy => by rw [hctx y, if_neg hy], honly⟩
    case refine_7 =>
      intro c hc
      rw [hctx x, if_pos rfl]
      exact memberOf_start rfl hc
    all_goals
      rw [hctx x, if_pos rfl]
      rfl
  · intro s x hr hx hp h1 h2 h3 h4
    refine ⟨_, close_next hr hx hp h1 h2 h3 h4, ?_⟩
    have hctx := ctx_startClose s x
    refine ⟨?_, ?_, ?_, ?_, ?_, fun n hn => window_startClose s hn, ?_, ?_, fun y hy => by rw [hctx y, if_neg hy], ?_⟩
    case refine_6 =>
      intro e he
      rw [messages_startClose] at he
      simpa using (List.mem_filter.mp he).2
    case refine_7 =>
      intro o ho
      rw [domain_startClose] at ho
      obtain ⟨u, -, hu⟩ := List.mem_filterMap.mp ho
      exact parts_without hu
    case refine_8 =>
      apply State.ext_of <;> simp only [State.startClose_kept]
    all_goals
      rw [hctx x, if_pos rfl]
      rfl
  · intro s x hwf hz
    refine ⟨_, closeComplete_next hz, ?_⟩
    obtain ⟨hctx, hcluster, hread, honly⟩ := closed_facts s x
    refine ⟨?_, ?_, ?_, ?_, ?_, ?_, ?_, ?_, ?_, fun y hy => by rw [hctx y, if_neg hy], honly⟩
    case refine_7 =>
      intro a h1 h2
      exact (hread a).trans (if_pos (.inl ⟨h1, h2⟩))
    case refine_8 =>
      intro c hc hb
      have hheld := mem_heldClusters.mpr ⟨hc, hb⟩
      have hk := (hcluster c).trans (if_pos hheld)
      exact ⟨congrArg Cluster.bound hk, congrArg Cluster.core hk, fun a ha =>
        (hread _).trans (if_pos (.inr ⟨c, hheld, by omega, by omega⟩))⟩
    case refine_9 =>
      intro a ha hout
      refine (hread a).trans (if_neg ?_)
      rintro (h | ⟨c, hc, h⟩)
      · omega
      · have := hout c (mem_heldClusters.mp hc).1 (mem_heldClusters.mp hc).2
        omega
    all_goals
      rw [hctx x, if_pos rfl]
      rfl
  · intro s x hr hx hp hs h1 h2 h3 hpend hj hn hskip hop
    refine ⟨_, resume_next hr hx hp hs h1 h2 h3, ?_⟩
    obtain ⟨u, hctx, hcore, hcells, hnow, honly, hres⟩ := resumed_eq s x
    have hux : u.ctx x = (s.ctx x).goesOn s.now := by rw [hctx x, if_pos rfl]
    obtain ⟨hskips, hcons, hcomp, hdesc, hdef, hend, hstate, hstatus⟩ := goesOn_ring s.now hpend
    have hone := hres.trans (goesOn_passes hux hpend hj.symm hn hskip hop)
    rw [hone]
    have htx : ∀ (f : Ctx → Ctx) y, ((u.modCtx x (Ctx.passCommand (s.ctx x).faultCommand u.now)).modCtx x f).ctx y =
        if y = x then f (Ctx.passCommand (s.ctx x).faultCommand u.now ((s.ctx x).goesOn s.now)) else s.ctx y := by
      intro f y
      rw [State.ctx_modCtx, State.ctx_modCtx, State.ctx_modCtx, hux, hctx y]
      by_cases hy : y = x <;> simp [hy]
    obtain ⟨hin, hout⟩ := resumed_members hpend hcore
    refine ⟨?_, ?_, ?_, ?_, ?_, hin, hout, hcells, fun y hy => by rw [htx, if_neg hy], by rw [honly]; rfl⟩
    all_goals rw [htx, if_pos rfl]
    · exact hstate
    · exact hstatus
    · exact congrArg (· + 1) hcons
    · exact congrArg (satAdd 64 · 1) hcomp
    · exact hend
  · intro s x hr hx hp hs h1 h2 h3 hpend hnot
    refine ⟨_, resume_next hr hx hp hs h1 h2 h3, ?_⟩
    obtain ⟨u, hctx, hcore, hcells, hnow, honly, hres⟩ := resumed_eq s x
    have hux : u.ctx x = (s.ctx x).goesOn s.now := by rw [hctx x, if_pos rfl]
    obtain ⟨hskips, hcons, hcomp, hdesc, hdef, hend, hstate, hstatus⟩ := goesOn_ring s.now hpend
    have hnone : s.resumed x = u :=
      hres.trans (completeCommands_none (by rw [hux, hcons, passedBy_goesOn]; exact hnot))
    rw [hnone]
    have htx : ∀ (f : Ctx → Ctx) y,
        (u.modCtx x f).ctx y = if y = x then f ((s.ctx x).goesOn s.now) else s.ctx y := by
      intro f y
      rw [State.ctx_modCtx, hux, hctx y]
      by_cases hy : y = x <;> simp [hy]
    obtain ⟨hin, hout⟩ := resumed_members hpend hcore
    refine ⟨?_, ?_, ?_, ?_, ?_, hin, hout, hcells, fun y hy => by rw [htx, if_neg hy], by rw [honly]; rfl⟩
    all_goals rw [htx, if_pos rfl]
    · exact hstate
    · exact hstatus
    · exact hcons
    · simp [hskips]
    · exact hend
  · intro s x hr hx hp hs hb
    have hux : (s.modCtx x Ctx.parking).ctx x = (s.ctx x).parking := by rw [State.ctx_modCtx, if_pos rfl]
    have hstay : (s.modCtx x Ctx.parking).boundaryEffects x = s.modCtx x Ctx.parking :=
      boundaryEffects_within (by rw [hux, ← hb]; exact commandBoundary_congr rfl rfl rfl rfl)
    refine ⟨_, park_next hr hx hp hs, ?_⟩
    rw [hstay]
    exact ⟨hux, sameCtxs_modCtx x s _, rfl⟩
  · intro s x hr hx hp hs hb he hd hseed
    refine ⟨_, park_next hr hx hp hs, ?_⟩
    have hux : (s.modCtx x Ctx.parking).ctx x = (s.ctx x).parking := by rw [State.ctx_modCtx, if_pos rfl]
    have hgo : (s.modCtx x Ctx.parking).boundaryEffects x = (s.modCtx x Ctx.parking).beginStop x :=
      boundaryEffects_park (by rw [hux, ← hb]; exact commandBoundary_congr rfl rfl rfl rfl) (by rw [hux]; exact hseed)
        (by rw [hux]; rfl)
    have hdu : (s.modCtx x Ctx.parking).defers x = false := by
      rw [← hd]
      exact defers_congr rfl rfl (by rw [hux]; rfl) (by rw [hux]; rfl) (by rw [hux]; rfl)
    obtain ⟨hctx, hothers, honly⟩ := beginStop_facts (by rw [hux]; exact hs) (by rw [hux]; exact he) hdu
    rw [hgo]
    refine ⟨by rw [hctx, hux]; rfl, (sameCtxs_modCtx x s _).trans hothers, ?_⟩
    rw [honly]
    rfl
  · intro s x hr hx hp hs hd
    refine ⟨_, detach_next hr hx hp hs hd, ?_⟩
    generalize hw : s.writeHeader x 3 _ = w
    have hctx : ∀ y, ((w.setState x .closed).setStatus x 0).ctx y =
        if y = x then { s.ctx x with state := .closed, actionStatus := 0 } else s.ctx y := by
      intro y
      rw [State.ctx_setStatus, State.ctx_setState, State.ctx_setState, ← hw, State.ctx_writeHeader, State.ctx_writeHeader]
      by_cases hy : y = x <;> simp [hy]
    refine ⟨?_, ?_, ?_, fun y hy => by rw [hctx y, if_neg hy], ?_⟩
    · rw [hctx x, if_pos rfl]
    · rw [hctx x, if_pos rfl]
    · simp only [State.setStatus_memory, State.setState_kept]
    · rw [← hw]
      apply State.ext_of <;> simp
  · intro s s1 s2 x h hr hx hp hs h1 h2 hn hc
    refine ⟨_, attach_next hr hx hp hs h1 h2 hn hc, ?_⟩
    obtain ⟨hctx, honly⟩ := setState_setStatus_modCtx s1 x .parked (Ctx.attached (field h 8 4) s.now)
    refine ⟨?_, ?_, ?_, ?_, by rw [honly], fun y hy => by rw [hctx y, if_neg hy], honly⟩
    all_goals
      rw [hctx x, if_pos rfl]
      rfl

end Sys2Proof.Machine

namespace Sys2Proof.Machine

/-! ### What an access leaves of clusters, towers and images -/

/-- A cluster less the counters of R75. -/
def Cluster.uncounted (k : Cluster) : Cluster := { k with counters := SMap.empty, perCmd := SMap.empty }

theorem uncounted_count (k : Cluster) (b : Bool) (id w n : Nat) : (k.count b id w n).uncounted = k.uncounted := by
  unfold Cluster.count
  split <;> rfl

/-- An access, whatever it meets, leaves of every cluster all but its counters, of the towers their hold buffers and
partitions, and of saved images the part that stands beside the cells. -/
structure keepsUnits (s t : State) : Prop where
  clusters : ∀ k, (t.cluster k).uncounted = (s.cluster k).uncounted
  towers : t.memory.towers = s.memory.towers
  cores : t.memory.cores = s.memory.cores

namespace keepsUnits

theorem core {s t : State} (h : keepsUnits s t) (k : Nat) : t.core k = s.core k :=
  have hk := congrArg Cluster.core (h.clusters k)
  hk

theorem bound {s t : State} (h : keepsUnits s t) (k : Nat) : (t.cluster k).bound = (s.cluster k).bound :=
  have hk := congrArg Cluster.bound (h.clusters k)
  hk

theorem saved {s t : State} (h : keepsUnits s t) (k : Nat) : (t.cluster k).saved = (s.cluster k).saved :=
  have hk := congrArg Cluster.saved (h.clusters k)
  hk

theorem of_eq {s t : State} (h : t.clusters = s.clusters) (ht : t.memory.towers = s.memory.towers)
    (hc : t.memory.cores = s.memory.cores) : keepsUnits s t :=
  ⟨fun k => by simp only [State.cluster, h], ht, hc⟩

theorem of_memory {s t : State} (h : t.clusters = s.clusters) (hm : t.memory = s.memory) : keepsUnits s t :=
  of_eq h (by rw [hm]) (by rw [hm])

theorem refl (s : State) : keepsUnits s s := of_eq rfl rfl rfl

theorem trans {s t u : State} (h : keepsUnits s t) (g : keepsUnits t u) : keepsUnits s u :=
  ⟨fun k => (g.clusters k).trans (h.clusters k), g.towers.trans h.towers, g.cores.trans h.cores⟩

theorem foldl {α : Type} {f : State → α → State} (h : ∀ s a, keepsUnits s (f s a)) (l : List α) (s : State) :
    keepsUnits s (l.foldl f s) := by
  induction l generalizing s with
  | nil => exact refl s
  | cons a l ih => exact (h s a).trans (ih (f s a))

theorem bump (s : State) (c id w n : Nat) : keepsUnits s (s.bump c id w n) where
  clusters k := by
    by_cases h : k = c
    · subst h; rw [State.bump, State.cluster_modCluster_same, uncounted_count]
    · rw [State.bump, State.cluster_modCluster, if_neg h]
  towers := rfl
  cores := rfl

theorem countReg (s : State) (k w n : Nat) : keepsUnits s (s.countReg k w n) :=
  of_memory (State.countReg_clusters s k w n) (State.countReg_memory s k w n)

theorem countCorrected (s : State) (store off : Nat) : keepsUnits s (s.countCorrected store off) := by
  unfold State.countCorrected
  dsimp only
  split
  · exact (countReg s _ _ _).trans (bump _ _ _ _ _)
  · exact countReg s _ _ _

theorem memoryError (s : State) (store loc word : Nat) (syn : List Byte) (r : Requester) :
    keepsUnits s (s.memoryError store loc word syn r) :=
  of_memory (by simp only [State.memoryError_kept]) (by simp only [State.memoryError_kept])

theorem setStored (s : State) (w : Nat) (p : ErrorPattern) : keepsUnits s (s.setStored w p) := of_eq rfl rfl rfl

theorem setResident (s : State) (w : Nat) (p : ErrorPattern) : keepsUnits s (s.setResident w p) := of_eq rfl rfl rfl

theorem setSet (s : State) (k : Nat) (c : CacheSet) : keepsUnits s (s.setSet k c) := of_eq rfl rfl rfl

theorem queueWriteback (s : State) (w : Nat) : keepsUnits s (s.queueWriteback w) := of_eq rfl rfl rfl

theorem putBytes (s : State) (off : Nat) (d : List Byte) : keepsUnits s (s.putBytes off d) := of_eq rfl rfl rfl

theorem applyLeft (s : State) (w : Nat) (p : ErrorPattern) : keepsUnits s (s.applyLeft w p) := by
  unfold State.applyLeft
  split
  · exact refl s
  · exact putBytes s _ _

theorem dropResident (s : State) (t l : Nat) : keepsUnits s (s.dropResident t l) :=
  (setResident s _ _).trans (setResident _ _ _)

theorem judge (s : State) (store off : Nat) (p : ErrorPattern) (code : Nat) (r : Requester) :
    keepsUnits s (s.judge store off p code r).2 := by
  unfold State.judge
  split
  · exact refl s
  · exact (countCorrected s store off).trans (queueWriteback _ _)
  · exact (countReg s _ _ _).trans (memoryError _ _ _ _ _ _)
  · exact (countReg s _ _ _).trans (memoryError _ _ _ _ _ _)

theorem readHbmWord (s : State) (t l w : Nat) (r : Requester) : keepsUnits s (s.readHbmWord t l w r).2 := by
  unfold State.readHbmWord
  split
  · split
    · split
      · exact judge _ _ _ _ _ _
      · extract_lets c s1
        have h1 : keepsUnits s s1 := (dropResident s t l).trans (setSet _ _ _)
        split
        · exact h1
        · have h2 := h1.trans (judge s1 storeHbm (64 * w) (s1.hbmPattern t w) 0x0304 r)
          split
          · next he => rw [he] at h2; exact h2.trans (countReg _ _ _ _)
          · exact h2
    · exact judge _ _ _ _ _ _
  · split
    · exact refl s
    · exact judge _ _ _ _ _ _

theorem readWord (s : State) (off : Nat) (r : Requester) : keepsUnits s (s.readWord off r).2 := by
  unfold State.readWord
  split
  · exact readHbmWord _ _ _ _ _
  · exact judge _ _ _ _ _ _
  · exact judge _ _ _ _ _ _
  · exact refl s
  · exact refl s

theorem writeBackWord (s : State) (w : Nat) : keepsUnits s (s.writeBackWord w) := by
  have h := setResident s w []
  unfold State.writeBackWord
  dsimp only
  split
  · exact h.trans (setStored _ _ _)
  · exact ((h.trans (countReg _ _ _ _)).trans (applyLeft _ _ _)).trans (setStored _ _ _)
  · exact h.trans (setStored _ _ _)
  · exact (((h.trans (countReg _ _ _ _)).trans (setStored _ _ _)).trans (countReg _ _ _ _)).trans (memoryError _ _ _ _ _ _)

theorem evict (s : State) (t k way : Nat) : keepsUnits s (s.evict t k way) := by
  unfold State.evict
  dsimp only
  split
  · exact refl s
  · refine trans ?_ (setSet _ _ _)
    split
    · exact (writeBackWord s _).trans (writeBackWord _ _)
    · exact dropResident s _ _

theorem fillWord (s : State) (skip : List Nat) (w : Nat) : keepsUnits s (s.fillWord skip w) := by
  unfold State.fillWord
  dsimp only
  split
  · exact setResident s _ _
  · split
    · exact setResident s _ _
    · next left _ =>
      have h : keepsUnits s (s.correctResident w left) := by
        unfold State.correctResident
        dsimp only
        split
        · exact (applyLeft s _ _).trans (setResident _ _ _)
        · exact ((applyLeft s _ _).trans (setResident _ _ _)).trans (setStored _ _ _)
      exact (h.trans (countCorrected _ _ _)).trans (queueWriteback _ _)
    · exact setResident s _ _
    · exact (((setResident s _ _).trans (countReg _ _ _ _)).trans (countReg _ _ _ _)).trans (memoryError _ _ _ _ _ _)

theorem settle (s : State) (off : Nat) (write : Bool) (skip : List Nat) (r : Requester) :
    keepsUnits s (s.settle off write skip r) := by
  unfold State.settle
  split
  · unfold State.settleLine
    split
    · exact setSet s _ _
    · split
      · unfold State.allocate
        split
        · exact refl s
        · exact (((evict s _ _ _).trans (setSet _ _ _)).trans (fillWord _ _ _)).trans (fillWord _ _ _)
      · exact refl s
  · exact refl s

theorem loadWords (s : State) (off n : Nat) (r : Requester) (ws : List Nat) (acc : List Byte) (f : Option Nat) :
    keepsUnits s (s.loadWords off n r ws acc f).2.2 := by
  induction ws generalizing s acc f with
  | nil => exact refl s
  | cons w ws ih =>
    have h := readWord s w r
    unfold State.loadWords
    split
    all_goals
      rename_i he
      rw [he] at h
      exact h.trans (ih _ _ _)

theorem loadRange (s : State) (off n : Nat) (r : Requester) : keepsUnits s (s.loadRange off n r).2 := by
  have h := loadWords s off n r (wordsOf off n) [] none
  unfold State.loadRange
  split
  · exact refl s
  · split
    · exact refl s
    · split
      · next he => rw [he] at h; exact h.trans (foldl (fun s w => settle s w _ _ r) _ _)
      · next he => rw [he] at h; exact h

theorem checkWords (s : State) (off n : Nat) (r : Requester) (ws : List Nat) (acc : List (Nat × ErrorPattern))
    (f : Option Nat) : keepsUnits s (s.checkWords off n r ws acc f).2.2 := by
  induction ws generalizing s acc f with
  | nil => exact refl s
  | cons w ws ih =>
    have h : keepsUnits s (s.checkWord off n w r).2 := by
      unfold State.checkWord
      extract_lets dead
      split
      · exact refl s
      · split
        · exact refl s
        · exact readWord s w r
    unfold State.checkWords
    split
    all_goals
      rename_i he
      rw [he] at h
      exact h.trans (ih _ _ _)

theorem writeWord (s : State) (off : Nat) (d : List Byte) (w : Nat) (left : ErrorPattern) (r : Requester) :
    keepsUnits s (s.writeWord off d w left r) := by
  unfold State.writeWord
  extract_lets n lo hi s1 s2 m s3
  have h1 : keepsUnits s s1 := settle _ _ _ _ _
  have h2 : keepsUnits s s2 := (h1.trans (applyLeft _ _ _)).trans (of_eq rfl rfl rfl)
  have h3 : keepsUnits s s3 := h2.trans (of_eq rfl rfl rfl)
  split
  · split
    · exact h3.trans (setResident _ _ _)
    · exact h3.trans (setStored _ _ _)
  · exact h3.trans (setStored _ _ _)

theorem storeRange (s : State) (off : Nat) (d : List Byte) (r : Requester) : keepsUnits s (s.storeRange off d r).2 := by
  have h := checkWords s off d.length r (wordsOf off d.length) [] none
  unfold State.storeRange State.storeWords
  split
  · exact refl s
  · split
    · exact refl s
    · split
      next he =>
        rw [he] at h
        exact h.trans (foldl (fun s (e : Nat × ErrorPattern) => writeWord s off d e.1 e.2 _) _ _)

theorem writeHeader (s : State) (x n t : Nat) : keepsUnits s (s.writeHeader x n t) := by
  unfold State.writeHeader
  extract_lets h b
  clear_value h b
  exact (storeRange s b h hubRequester).trans (storeRange _ _ _ _)

theorem setPattern (s : State) (w : Nat) (p : ErrorPattern) : keepsUnits s (s.setPattern w p) := by
  unfold State.setPattern
  split
  · split
    · exact setResident _ _ _
    · exact setStored _ _ _
  · exact setStored _ _ _

theorem passWord (s : State) (src dst w : Nat) : keepsUnits s (s.passWord src dst w) := by
  unfold State.passWord
  dsimp only
  split
  · exact refl s
  · exact ((countCorrected s _ _).trans (queueWriteback _ _)).trans (applyLeft _ _ _)
  · exact (setPattern s _ _).trans (countReg _ _ _ _)
  · exact (((setPattern s _ _).trans (countReg _ _ _ _)).trans (countReg _ _ _ _)).trans (memoryError _ _ _ _ _ _)

theorem moveStore (s : State) (src dst n : Nat) : keepsUnits s (s.moveStore src dst n) := by
  unfold State.moveStore
  extract_lets words within m s1
  have h1 : keepsUnits s s1 := of_eq rfl rfl rfl
  have h2 : keepsUnits s1 (s1.dirtyRange dst n) := of_eq rfl rfl rfl
  exact (h1.trans h2).trans (foldl (fun s w => passWord s src dst w) words _)

end keepsUnits


/-! ### Periods (R137 to R139) -/

theorem periodEnd_next {s : State} {x : Nat} (hb : s.belled = false) (hs : (s.ctx x).state = .bound)
    (he : (s.ctx x).ending = false) (hd : (s.ctx x).deferredSince = none)
    (ht : (s.ctx x).periodStart + 1000 * (s.ctx x).period ≤ s.now) : exec (.periodEnd x) s = .next (if s.wanted x then
      (s.countWaits x).beginStop x else (s.countWaits x).modCtx x fun k => { k with periodStart := s.now }) := by
  change execPeriodEnd x s = _
  simp only [execPeriodEnd, hb, hs, he, hd, not_lt.mpr ht]
  cases s.wanted x <;> rfl

/-- Of a context, a period end of `x` counts one wait at most, and none of `x` itself. -/
theorem ctx_countWaits (s : State) (x y : Nat) : (s.countWaits x).ctx y = s.ctx y ∨
    y ≠ x ∧ (s.countWaits x).ctx y = { s.ctx y with waited := (s.ctx y).waited + 1 } := by
  unfold State.countWaits
  dsimp only
  generalize (s.ctx x).cls = cls
  simp only [State.ctx, SMap.get, SMap.lookup_mapVals]
  cases SMap.lookup s.ctxs.entries y with
  | none => exact .inl rfl
  | some k =>
    simp only [Option.map_some, Option.getD_some]
    split
    · next h =>
      simp only [Bool.and_eq_true, decide_eq_true_eq, and_assoc] at h
      exact .inr ⟨h.1, rfl⟩
    · exact .inl rfl

theorem ctx_countWaits_self (s : State) (x : Nat) : (s.countWaits x).ctx x = s.ctx x :=
  (ctx_countWaits s x x).resolve_right fun h => h.1 rfl

theorem state_countWaits (s : State) (x y : Nat) : ((s.countWaits x).ctx y).state = (s.ctx y).state := by
  obtain h | ⟨-, h⟩ := ctx_countWaits s x y <;> rw [h]

theorem idlePark_next {s : State} {x : Nat} (hb : s.belled = false) (hs : (s.ctx x).state = .bound)
    (he : (s.ctx x).ending = false) (hp : (s.ctx x).producer = (s.ctx x).consumer)
    (hd : s.wanted x = true ∨ ∃ t0, (s.ctx x).idleSince = some t0 ∧ t0 + 1000000 ≤ s.now) :
    exec (.idlePark x) s = .next (s.beginStop x) := by
  change execIdlePark x s = _
  simp only [execIdlePark, hb, hs, he, hp]
  obtain hw | ⟨t0, hi, ht⟩ := hd
  · simp [hw]
  · simp [hi, ht]

/-! ### Binding (R114, R115, R138, R140) -/

/-- The scheduler binds the one context that waits, when its class is free and its tower serves. -/
theorem schedulerBind_next {s s' : State} {l : List Nat} {x : Nat} (hs : s' = { s with hubNeeds := l })
    (hb : s.belled = false) (hm : s.boot.serviceMode = false) (hw : s'.waiters = [x])
    (hf : s'.classFree (s.ctx x).cls = true) (ht : s.towerServes ((s.ctx x).saveBase / 0x2400000000) = true) :
    exec (.schedulerBind l) s = .next (s'.bind x) := by
  have hf' : s'.classFree (s'.ctx x).cls = true := by rw [← hf, hs]; rfl
  have ht' : s'.towerServes ((s'.ctx x).saveBase / 0x2400000000) = true := by rw [← ht, hs]; rfl
  change execSchedulerBind l s = _
  simp only [execSchedulerBind, hb, hm, ← hs, hw, State.bindAll, hf', ht']
  rfl

theorem bind_inService {s : State} {x : Nat} (h : (s.ctx x).cls.all (fun c => !(s.cluster c).outOfService) = true) :
    s.bind x = if (s.ctx x).state = .opened then
      ((s.ctx x).cls.foldl (fun s c => s.initialise x c) (s.zonesBusy (s.ctx x).cls)).enterBound x
    else (((s.ctx x).cls.foldl (fun s c => s.readBack x c) (s.zonesBusy (s.ctx x).cls)).setState x .restoring).modCtx x
      fun q => { q with restoreRunning := true, transitStart := s.now, waited := 0 } := by
  have hnone : ((s.ctx x).cls.find? fun c => (s.cluster c).outOfService) = none := by
    simpa [List.find?_eq_none] using h
  simp only [State.bind, hnone]

/-- A context as it enters BOUND, less its state. -/
def Ctx.entersBound (now : Nat) (k : Ctx) : Ctx :=
  { k with
    holds := true
    ending := false
    binds := satAdd 32 k.binds 1
    boundAt := now
    periodStart := now
    waited := 0
    idleSince := if k.producer = k.consumer then some now else none }

theorem State.ctx_enterBound (s : State) (x y : Nat) :
    (s.enterBound x).ctx y = if y = x then Ctx.entersBound s.now { s.ctx x with state := .bound } else s.ctx y := by
  rw [State.enterBound, State.ctx_modCtx, State.ctx_setState, State.ctx_setState, if_pos rfl]
  by_cases hy : y = x <;> simp [hy, Ctx.entersBound]

theorem cluster_initialise (s : State) (x c k : Nat) : (s.initialise x c).cluster k =
    if k = c then { s.cluster c with core := { seed := s.seedOf x }, bound := some x } else s.cluster k := by
  rw [State.initialise, State.cluster_modCluster]
  rfl

/-- The clusters of a class are initialised for the first bind of their context. -/
def State.initialiseAll (s : State) (x : Nat) (l : List Nat) : State := l.foldl (fun s c => s.initialise x c) s

theorem cluster_initialiseAll (s : State) (x : Nat) (l : List Nat) (k : Nat) : (s.initialiseAll x l).cluster k =
    if k ∈ l then { s.cluster k with core := { seed := s.seedOf x }, bound := some x } else s.cluster k :=
  foldl_view (view := State.cluster) (I := fun t => t.seeds = s.seeds)
    (g := fun _ q => { q with core := { seed := s.seedOf x }, bound := some x })
    (fun t c h => by rw [← h]; simp only [State.initialise_kept]) (fun _ _ => rfl)
    (fun t c k h => by rw [cluster_initialise, State.seedOf, h]; rfl) l rfl k

theorem read_initialiseAll (s : State) (x : Nat) (l : List Nat) (a : Nat) :
    (s.initialiseAll x l).memory.cells.read a =
      if ∃ c ∈ l, clusterOffset c 0 ≤ a ∧ a < clusterOffset c 0 + 0x300000 then 0 else s.memory.cells.read a :=
  read_foldl_clear (fun _ _ => rfl) l s a

theorem initialiseAll_only (s : State) (x : Nat) (l : List Nat) : s.initialiseAll x l =
    { s with memory := (s.initialiseAll x l).memory, clusters := (s.initialiseAll x l).clusters } := by
  unfold State.initialiseAll
  induction l generalizing s with
  | nil => rfl
  | cons c l ih => rw [List.foldl_cons, ih]; rfl

/-- The images of a class are read back into their clusters. -/
def State.readBackAll (s : State) (x : Nat) (l : List Nat) : State := l.foldl (fun s c => s.readBack x c) s

/-- What a member's image holds goes into its cluster, and into no other. -/
theorem readBack_units (s : State) (x c k : Nat) :
    ((s.readBack x c).core k, ((s.readBack x c).cluster k).bound) =
      if k = c then (s.memory.cores.get {} (s.imageOf x c), some x) else (s.core k, (s.cluster k).bound) := by
  have hmove := keepsUnits.moveStore s (s.imageOf x c) (clusterOffset c 0) 0x300000
  rw [State.core, State.readBack, State.cluster_modCluster]
  by_cases hk : k = c
  · subst hk
    simp only [Cluster.restored, if_true]
    split <;> rfl
  · simp only [if_neg hk]
    exact Prod.ext (hmove.core k) (hmove.bound k)

theorem readBack_keeps (s : State) (x c : Nat) :
    (s.readBack x c).memory.cores = s.memory.cores ∧ (s.readBack x c).ctxs = s.ctxs :=
  ⟨(keepsUnits.moveStore s _ _ _).cores, by simp only [State.readBack_kept]⟩

theorem readBackAll_units {s : State} {x c : Nat} {l : List Nat} (hc : c ∈ l) :
    (s.readBackAll x l).core c = s.memory.cores.get {} (s.imageOf x c) ∧
    ((s.readBackAll x l).cluster c).bound = some x := by
  have h := foldl_view (view := fun t k => (t.core k, (t.cluster k).bound))
    (I := fun t => t.memory.cores = s.memory.cores ∧ t.ctxs = s.ctxs)
    (g := fun c _ => (s.memory.cores.get {} (s.imageOf x c), some x)) (f := fun s c => s.readBack x c)
    (fun t c h => ⟨(readBack_keeps t x c).1.trans h.1, (readBack_keeps t x c).2.trans h.2⟩) (fun _ _ => rfl)
    (fun t c k h => by rw [readBack_units, State.imageOf, State.ctx, h.1, h.2]; rfl) l (s := s) ⟨rfl, rfl⟩ c
  rw [if_pos hc] at h
  exact ⟨congrArg Prod.fst h, congrArg Prod.snd h⟩

theorem ctxs_readBackAll (s : State) (x : Nat) (l : List Nat) : (s.readBackAll x l).ctxs = s.ctxs :=
  foldl_keeps (fun s c => (readBack_keeps s x c).2) l s

theorem readBack_only (s : State) (x c : Nat) : s.readBack x c = { s with
    memory := (s.readBack x c).memory, clusters := (s.readBack x c).clusters, dbg := (s.readBack x c).dbg
    blobs := (s.readBack x c).blobs, regs := (s.readBack x c).regs, control := (s.readBack x c).control
    commits := (s.readBack x c).commits } := by
  apply State.ext_of <;> simp only [State.readBack_kept]

theorem readBackAll_only (s : State) (x : Nat) (l : List Nat) : s.readBackAll x l = { s with
    memory := (s.readBackAll x l).memory, clusters := (s.readBackAll x l).clusters, dbg := (s.readBackAll x l).dbg
    blobs := (s.readBackAll x l).blobs, regs := (s.readBackAll x l).regs, control := (s.readBackAll x l).control
    commits := (s.readBackAll x l).commits } := by
  unfold State.readBackAll
  induction l generalizing s with
  | nil => rfl
  | cons c l ih => rw [List.foldl_cons, ih, readBack_only s x c]

/-! ### Saves (R140 to R143) -/

theorem getElem?_memberIndex {cls : List Nat} {c : Nat} (h : c ∈ cls) : cls[memberIndex cls c]? = some c := by
  obtain ⟨i, hi⟩ : ∃ i, cls.findIdx? (· = c) = some i := by
    rw [← Option.isSome_iff_exists, List.findIdx?_isSome]
    simpa using h
  rw [memberIndex, hi, Option.getD_some]
  obtain ⟨hlt, hc, -⟩ := List.findIdx?_eq_some_iff_getElem.mp hi
  rw [List.getElem?_eq_getElem hlt]
  simpa using hc

/-- The images of two members stand at different offsets. -/
theorem imageOf_inj {s : State} {x c d : Nat} (hc : c ∈ (s.ctx x).cls) (hd : d ∈ (s.ctx x).cls)
    (h : s.imageOf x c = s.imageOf x d) : c = d := by
  have hi : memberIndex (s.ctx x).cls c = memberIndex (s.ctx x).cls d := by
    simp only [State.imageOf, imageOffset] at h
    omega
  have hcd := (getElem?_memberIndex hc).symm.trans ((congrArg _ hi).trans (getElem?_memberIndex hd))
  exact Option.some.inj hcd

/-- The images of a class are written. -/
def State.writeImages (s : State) (x : Nat) (l : List Nat) : State := l.foldl (fun s c => s.writeImage x c) s

theorem cluster_writeImage (s : State) (x c k : Nat) :
    ((s.writeImage x c).cluster k).uncounted = (s.cluster k).uncounted :=
  (keepsUnits.moveStore s _ _ _).clusters k

theorem cluster_writeImages (s : State) (x : Nat) (l : List Nat) (k : Nat) :
    ((s.writeImages x l).cluster k).uncounted = (s.cluster k).uncounted :=
  foldl_keeps (π := fun t => (t.cluster k).uncounted) (fun s c => cluster_writeImage s x c k) l s

theorem ctxs_writeImages (s : State) (x : Nat) (l : List Nat) : (s.writeImages x l).ctxs = s.ctxs :=
  foldl_keeps (fun s c => by simp only [State.writeImage_kept]) l s

theorem cores_writeImage (s : State) (x c o : Nat) : (s.writeImage x c).memory.cores.get {} o =
    if o = s.imageOf x c then (s.cluster c).saved else s.memory.cores.get {} o := by
  have hmove := keepsUnits.moveStore s (clusterOffset c 0) (s.imageOf x c) 0x300000
  simp only [State.writeImage, SMap.get_set, hmove.cores, hmove.saved]

theorem saved_congr {k q : Cluster} (h : k.uncounted = q.uncounted) : k.saved = q.saved :=
  have hs := congrArg Cluster.saved h
  hs

/-- Each member's image holds what its cluster held. -/
theorem cores_writeImages {s : State} {x c : Nat} {l : List Nat} (hl : ∀ d ∈ l, d ∈ (s.ctx x).cls)
    (hc : c ∈ (s.ctx x).cls) : (s.writeImages x l).memory.cores.get {} (s.imageOf x c) =
      if c ∈ l then (s.cluster c).saved else s.memory.cores.get {} (s.imageOf x c) := by
  induction l generalizing s with
  | nil => rfl
  | cons d l ih =>
    have hctx : (s.writeImage x d).ctx x = s.ctx x := by simp only [State.ctx, State.writeImage_kept]
    have himg : (s.writeImage x d).imageOf x c = s.imageOf x c := by rw [State.imageOf, hctx, State.imageOf]
    have hrest := ih (s := s.writeImage x d) (fun e he => by rw [hctx]; exact hl e (List.mem_cons_of_mem d he))
      (by rw [hctx]; exact hc)
    rw [himg, saved_congr (cluster_writeImage s x d c), cores_writeImage] at hrest
    refine hrest.trans ?_
    have hd : s.imageOf x c = s.imageOf x d ↔ c = d :=
      ⟨imageOf_inj hc (hl d (List.mem_cons_self ..)), fun h => by rw [h]⟩
    by_cases hcd : c = d
    · subst hcd; simp
    · simp [hd, hcd]

theorem writeImage_only (s : State) (x c : Nat) : s.writeImage x c = { s with
    memory := (s.writeImage x c).memory, clusters := (s.writeImage x c).clusters, dbg := (s.writeImage x c).dbg
    blobs := (s.writeImage x c).blobs, regs := (s.writeImage x c).regs, control := (s.writeImage x c).control } := by
  apply State.ext_of <;> simp only [State.writeImage_kept]

theorem writeImages_only (s : State) (x : Nat) (l : List Nat) : s.writeImages x l = { s with
    memory := (s.writeImages x l).memory, clusters := (s.writeImages x l).clusters, dbg := (s.writeImages x l).dbg
    blobs := (s.writeImages x l).blobs, regs := (s.writeImages x l).regs, control := (s.writeImages x l).control } := by
  unfold State.writeImages
  induction l generalizing s with
  | nil => rfl
  | cons c l ih => rw [List.foldl_cons, ih, writeImage_only s x c]

/-- A context whose save begins, less its state. -/
def Ctx.savesFrom (now : Nat) (k : Ctx) : Ctx :=
  { k.stopBoundTime now with saveRunning := true, transitStart := now }

/-- A context whose save begins, and its images. -/
def State.saves (s : State) (x : Nat) : State :=
  (((s.setState x .saving).modCtx x fun q => q.stopBoundTime s.now).modCtx x fun q =>
    { q with saveRunning := true, transitStart := s.now }).writeImages x (s.ctx x).cls

theorem saveStart_next {s : State} {x : Nat} (hb : s.belled = false) (hs : (s.ctx x).state = .bound)
    (he : (s.ctx x).ending = true) (hz : (s.ctx x).zeroing = false) (hr : (s.ctx x).saveRunning = false)
    (hstop : s.stopEnded x = true) (hch : s.changesUnder (s.ctx x).cls = false) (hf : s.movesFenced x = false) :
    exec (.saveStart x) s = .next (s.saves x) := by
  change execSaveStart x s = _
  simp only [execSaveStart, hb, hs, he, hz, hr, hstop, hch, hf]
  rfl

/-! ### What was held for a context (R140 steps 6 and 8) -/

/-- No tower holds a request for context `x`. -/
def State.holdsNone (s : State) (x : Nat) : Prop := ∀ e ∈ s.memory.towers.entries, ∀ q ∈ e.2.hold, q.ctx ≠ x

theorem applyHeldFor_none {s : State} {x : Nat} (h : s.holdsNone x) : s.applyHeldFor x = (s.takeHeld x).2 := by
  have hnil : (s.takeHeld x).1 = [] := by
    simp only [State.takeHeld, List.flatten_eq_nil_iff, List.mem_map]
    rintro _ ⟨e, he, rfl⟩
    simpa using h e he
  unfold State.applyHeldFor
  split
  next l s1 he =>
    rw [he] at hnil ⊢
    cases hnil
    rfl

theorem closeIfPending_none {s : State} {x : Nat} (h : (s.ctx x).pendingAction = none) : s.closeIfPending x = s := by
  simp [State.closeIfPending, h]

/-- A context whose save is complete since `start`, less its state. -/
def Ctx.savedAt (now start : Nat) (k : Ctx) : Ctx :=
  { k with
    saveRunning := false
    holds := false
    ending := false
    lastSave := Nat.min (now - start) 4294967295
    waitingSince := now
    waited := 0
    idleSince := none
    pendingAction := if k.pendingAction = some .park then none else k.pendingAction
    actionStatus := if k.pendingAction = some .park then 0 else k.actionStatus }

/-- A save that is complete, with no request frozen, up to what was held meanwhile. -/
def State.parked (s : State) (x : Nat) : State :=
  (((s.writeHeader x 1 s.stamp).freeClusters x).setState x .parked).modCtx x
    (Ctx.savedAt s.now (s.ctx x).transitStart)

theorem saveComplete_next {s : State} {x : Nat} (hs : (s.ctx x).state = .saving) (hf : s.movesFenced x = false)
    (hz : s.frozenOf x = []) :
    exec (.saveComplete x) s = .next ((((s.parked x).applyHeldFor x).freeCredits).closeIfPending x) := by
  change execSaveComplete x s = _
  simp only [execSaveComplete, hs, hf, hz, reduceCtorEq, ne_eq, not_true_eq_false, if_false]
  rfl

/-- What the hold buffers keep for other contexts, and the credits they withheld, change nothing of contexts and clusters. -/
theorem released_facts {s : State} {x : Nat} (h : s.holdsNone x) :
    (s.applyHeldFor x).freeCredits.ctxs = s.ctxs ∧ (s.applyHeldFor x).freeCredits.clusters = s.clusters ∧
    (s.applyHeldFor x).freeCredits.memory.cells = s.memory.cells ∧
    (s.applyHeldFor x).freeCredits = { s with
      memory := (s.applyHeldFor x).freeCredits.memory
      regs := (s.applyHeldFor x).freeCredits.regs
      rig := (s.applyHeldFor x).freeCredits.rig } := by
  rw [applyHeldFor_none h]
  have hk := State.takeHeld_kept s x
  refine ⟨?_, ?_, ?_, ?_⟩
  · simp only [State.freeCredits_kept, hk]
  · simp only [State.freeCredits_kept, hk]
  · simp only [State.freeCredits_kept]; rfl
  · apply State.ext_of <;> simp only [State.freeCredits_kept, hk]

theorem released_of_only {s t : State} {x : Nat} (h : s.holdsNone x) (ht : t.memory.towers = s.memory.towers) :
    t.holdsNone x := by
  rw [State.holdsNone, ht]
  exact h

theorem bound_freeClusters (s : State) (x k : Nat) : ((s.freeClusters x).cluster k).bound =
    if k ∈ s.heldClusters x then none else (s.cluster k).bound := by
  have hfree := foldl_view (view := fun t k => (t.cluster k).bound) (I := fun _ => True) (g := fun _ _ => none)
    (f := fun s c => s.modCluster c fun k => { k with bound := none }) (fun _ _ h => h) (fun _ _ => rfl)
    (fun t c k _ => by rw [State.cluster_modCluster]; split <;> rfl) (s.heldClusters x) (s := s) trivial k
  rw [← hfree, State.freeClusters, State.cluster, State.cluster]
  simp only [State.zonesFreed_kept]
  rfl

theorem freeClusters_only (s : State) (x : Nat) : s.freeClusters x =
    { s with clusters := (s.freeClusters x).clusters, clocks := (s.freeClusters x).clocks } := by
  apply State.ext_of <;> simp only [State.freeClusters_kept]

/-! ### Restores (R140 step 8) -/

/-- The operations that a period's end suspended go on, and each OC goes on at its saved entry. -/
def State.goOn (s : State) (l : List Nat) : State := l.foldl (fun s c =>
  (s.modCore c Core.unsuspended).modRun c fun r => { r with waitSince := r.waitSince.map fun _ => s.now }) s

theorem goOn_units {s : State} {l : List Nat} {c : Nat} (hc : c ∈ l) :
    ((s.goOn l).core c).acc = (s.core c).acc ∧ ((s.goOn l).core c).meSuspended = false := by
  have h := foldl_view (view := fun t k => ((t.core k).acc, (t.core k).meSuspended)) (I := fun _ => True)
    (g := fun _ b => (b.1, false))
    (f := fun s c => (s.modCore c Core.unsuspended).modRun c fun r =>
      { r with waitSince := r.waitSince.map fun _ => s.now }) (fun _ _ h => h) (fun _ _ => rfl)
    (fun t c k _ => by
      rw [State.modRun, core_modCore, core_modCore, core_modCore]
      by_cases hk : k = c
      · subst hk; simp [Core.unsuspended]
      · simp [hk]) l (s := s) trivial c
  rw [if_pos hc] at h
  exact ⟨congrArg Prod.fst h, congrArg Prod.snd h⟩

theorem goOn_only (s : State) (l : List Nat) : s.goOn l = { s with clusters := (s.goOn l).clusters } := by
  unfold State.goOn
  induction l generalizing s with
  | nil => rfl
  | cons c l ih => rw [List.foldl_cons, ih]; rfl

/-- A restore that has ended, up to what was held meanwhile. -/
def State.restored (s : State) (x : Nat) : State :=
  ((s.goOn (s.ctx x).cls).modCtx x fun q =>
    { q with restoreRunning := false, lastRestore := Nat.min (s.now - (s.ctx x).transitStart) 4294967295 }).enterBound x

theorem restoreComplete_next {s : State} {x : Nat} (hs : (s.ctx x).state = .restoring)
    (hr : (s.ctx x).restoreRunning = true) (hf : s.movesFenced x = false) :
    exec (.restoreComplete x) s =
      .next (((((s.restored x).applyHeldFor x).freeCredits).boundaryEffects x).closeIfPending x) := by
  change execRestoreComplete x s = _
  simp only [execRestoreComplete, hs, hr, hf]
  rfl

theorem zonesBusy_facts (s : State) (l : List Nat) :
    (s.zonesBusy l).now = s.now ∧ s.zonesBusy l = { s with clocks := (s.zonesBusy l).clocks } := by
  refine ⟨foldl_keeps (π := State.now) ?_ l s, ?_⟩
  · exact fun _ _ => rfl
  · apply State.ext_of <;> simp only [State.zonesBusy_kept]

theorem enterBound_only (s : State) (x : Nat) : s.enterBound x =
    { s with ctxs := (s.enterBound x).ctxs, dbg := (s.enterBound x).dbg } := by
  apply State.ext_of <;> simp only [State.enterBound_kept]

/-- A class that is bound for the first time. -/
theorem bind_opened {s : State} {x : Nat} (ho : (s.ctx x).state = .opened)
    (hserve : (s.ctx x).cls.all (fun c => !(s.cluster c).outOfService) = true) :
    (∀ y, (s.bind x).ctx y = if y = x then Ctx.entersBound s.now { s.ctx x with state := .bound } else s.ctx y) ∧
    (∀ k, (s.bind x).cluster k = if k ∈ (s.ctx x).cls then
      { s.cluster k with core := { seed := s.seedOf x }, bound := some x } else s.cluster k) ∧
    (∀ a, (s.bind x).memory.cells.read a =
      if ∃ c ∈ (s.ctx x).cls, clusterOffset c 0 ≤ a ∧ a < clusterOffset c 0 + 0x300000 then 0
      else s.memory.cells.read a) ∧
    s.bind x = { s with
      memory := (s.bind x).memory
      clusters := (s.bind x).clusters
      clocks := (s.bind x).clocks
      ctxs := (s.bind x).ctxs
      dbg := (s.bind x).dbg } := by
  obtain ⟨hnow, hz⟩ := zonesBusy_facts s (s.ctx x).cls
  have hb : s.bind x = ((s.zonesBusy (s.ctx x).cls).initialiseAll x (s.ctx x).cls).enterBound x := by
    rw [bind_inService hserve, if_pos ho]
    rfl
  have hcluster := cluster_initialiseAll (s.zonesBusy (s.ctx x).cls) x (s.ctx x).cls
  have hread := read_initialiseAll (s.zonesBusy (s.ctx x).cls) x (s.ctx x).cls
  have honly := initialiseAll_only (s.zonesBusy (s.ctx x).cls) x (s.ctx x).cls
  rw [hb]
  generalize (s.zonesBusy (s.ctx x).cls).initialiseAll x (s.ctx x).cls = u at *
  have hkept : (u.enterBound x).clusters = u.clusters ∧ (u.enterBound x).memory = u.memory := by
    simp only [State.enterBound_kept, and_self]
  refine ⟨fun y => ?_, fun k => ?_, fun a => ?_, ?_⟩
  · have hctx : u.ctx = s.ctx := by rw [honly, hz]; rfl
    have hu : u.now = s.now := by rw [honly]; exact hnow
    rw [State.ctx_enterBound, hctx, hu]
  · exact (congrArg (fun m : SMap Cluster => m.get ({} : Cluster) k) hkept.1).trans ((hcluster k).trans (by rw [hz]; rfl))
  · exact (congrArg (fun m : Memory => m.cells.read a) hkept.2).trans ((hread a).trans (by rw [hz]))
  · rw [enterBound_only, honly, hz]

/-- A class whose images are read back. -/
theorem bind_parked {s : State} {x : Nat} (ho : (s.ctx x).state ≠ .opened)
    (hserve : (s.ctx x).cls.all (fun c => !(s.cluster c).outOfService) = true) :
    (∀ y, (s.bind x).ctx y = if y = x then
      { s.ctx x with state := .restoring, restoreRunning := true, transitStart := s.now, waited := 0 } else s.ctx y) ∧
    (∀ c ∈ (s.ctx x).cls, ((s.bind x).cluster c).bound = some x ∧
      (s.bind x).core c = s.memory.cores.get {} (s.imageOf x c)) ∧
    s.bind x = { s with
      memory := (s.bind x).memory
      clusters := (s.bind x).clusters
      dbg := (s.bind x).dbg
      blobs := (s.bind x).blobs
      regs := (s.bind x).regs
      control := (s.bind x).control
      commits := (s.bind x).commits
      clocks := (s.bind x).clocks
      ctxs := (s.bind x).ctxs } := by
  obtain ⟨-, hz⟩ := zonesBusy_facts s (s.ctx x).cls
  have hb : s.bind x = (((s.zonesBusy (s.ctx x).cls).readBackAll x (s.ctx x).cls).setState x .restoring).modCtx x
      fun q => { q with restoreRunning := true, transitStart := s.now, waited := 0 } := by
    rw [bind_inService hserve, if_neg ho]
    rfl
  have hunits := fun c hc => readBackAll_units (s := s.zonesBusy (s.ctx x).cls) (x := x) (c := c) (l := (s.ctx x).cls) hc
  have hctxs := ctxs_readBackAll (s.zonesBusy (s.ctx x).cls) x (s.ctx x).cls
  have honly := readBackAll_only (s.zonesBusy (s.ctx x).cls) x (s.ctx x).cls
  rw [hb]
  generalize (s.zonesBusy (s.ctx x).cls).readBackAll x (s.ctx x).cls = u at *
  have hctx : u.ctx = s.ctx := by rw [honly, hz]; rfl
  obtain ⟨g, hg⟩ := setState_only u x .restoring
  refine ⟨fun y => ?_, fun c hc => ?_, ?_⟩
  · rw [State.ctx_modCtx, State.ctx_setState, State.ctx_setState, if_pos rfl, hctx]
    by_cases hy : y = x <;> simp [hy]
  · rw [hg]
    obtain ⟨hcore, hbound⟩ := hunits c hc
    exact ⟨hbound, hcore.trans (by rw [hz]; rfl)⟩
  · rw [hg, honly, hz]
    rfl

theorem saves_facts (s : State) (x : Nat) :
    (∀ y, (s.saves x).ctx y = if y = x then Ctx.savesFrom s.now { s.ctx x with state := .saving } else s.ctx y) ∧
    (∀ c, (s.saves x).core c = s.core c ∧ ((s.saves x).cluster c).bound = (s.cluster c).bound) ∧
    (∀ c ∈ (s.ctx x).cls, (s.saves x).memory.cores.get {} (s.imageOf x c) = (s.cluster c).saved) ∧
    s.saves x = { s with
      memory := (s.saves x).memory
      clusters := (s.saves x).clusters
      dbg := (s.saves x).dbg
      blobs := (s.saves x).blobs
      regs := (s.saves x).regs
      control := (s.saves x).control
      ctxs := (s.saves x).ctxs } := by
  unfold State.saves
  generalize hu : State.modCtx (State.modCtx (s.setState x .saving) x _) x _ = u
  have hctx : ∀ y, u.ctx y = if y = x then Ctx.savesFrom s.now { s.ctx x with state := .saving } else s.ctx y := by
    intro y
    rw [← hu]
    simp only [State.ctx_modCtx, State.ctx_setState, if_true]
    by_cases hy : y = x <;> simp [hy, Ctx.savesFrom]
  obtain ⟨g, hg⟩ := setState_only s x .saving
  rw [hg] at hu
  have hcls : (u.ctx x).cls = (s.ctx x).cls := by rw [hctx, if_pos rfl]; rfl
  have himg : ∀ c, u.imageOf x c = s.imageOf x c := by
    intro c
    rw [State.imageOf, hctx, if_pos rfl]
    rfl
  have hclusters : u.cluster = s.cluster := by rw [← hu]; rfl
  have hunits := fun c => cluster_writeImages u x (s.ctx x).cls c
  refine ⟨fun y => ?_, fun c => ?_, fun c hc => ?_, ?_⟩
  · rw [← hctx y]
    exact congrArg (fun m : SMap Ctx => m.get {} y) (ctxs_writeImages u x (s.ctx x).cls)
  · have hc := hunits c
    have hcore := congrArg Cluster.core hc
    have hbound := congrArg Cluster.bound hc
    rw [hclusters] at hcore hbound
    exact ⟨hcore, hbound⟩
  · have h := cores_writeImages (s := u) (x := x) (c := c) (l := (s.ctx x).cls) (fun d hd => by rw [hcls]; exact hd)
      (by rw [hcls]; exact hc)
    rw [himg, if_pos hc, hclusters] at h
    exact h
  · rw [writeImages_only, ← hu]
    rfl

theorem parked_facts (s : State) (x : Nat) :
    (∀ y, (s.parked x).ctx y =
      if y = x then Ctx.savedAt s.now (s.ctx x).transitStart { s.ctx x with state := .parked } else s.ctx y) ∧
    (∀ c ∈ (s.ctx x).cls, (s.cluster c).bound = some x → ((s.parked x).cluster c).bound = none) ∧
    (s.parked x).memory.cells = (s.writeHeader x 1 s.stamp).memory.cells ∧
    (s.parked x).memory.towers = s.memory.towers ∧
    s.parked x = { s with
      ctxs := (s.parked x).ctxs
      memory := (s.parked x).memory
      clusters := (s.parked x).clusters
      clocks := (s.parked x).clocks
      blobs := (s.parked x).blobs
      regs := (s.parked x).regs
      control := (s.parked x).control
      dbg := (s.parked x).dbg } := by
  have hunits := keepsUnits.writeHeader s x 1 s.stamp
  have honly : s.writeHeader x 1 s.stamp = { s with
      memory := (s.writeHeader x 1 s.stamp).memory
      clusters := (s.writeHeader x 1 s.stamp).clusters
      blobs := (s.writeHeader x 1 s.stamp).blobs
      regs := (s.writeHeader x 1 s.stamp).regs
      control := (s.writeHeader x 1 s.stamp).control
      dbg := (s.writeHeader x 1 s.stamp).dbg } := by
    apply State.ext_of <;> simp only [State.writeHeader_kept]
  unfold State.parked
  generalize s.writeHeader x 1 s.stamp = u at *
  have hfree := freeClusters_only u x
  have hbound := bound_freeClusters u x
  generalize u.freeClusters x = v at *
  have hctx : v.ctx = s.ctx := by rw [hfree, honly]; rfl
  obtain ⟨g, hg⟩ := setState_only v x .parked
  refine ⟨fun y => ?_, fun c hc hb => ?_, ?_, ?_, ?_⟩
  · rw [State.ctx_modCtx, State.ctx_setState, State.ctx_setState, if_pos rfl, hctx]
    by_cases hy : y = x <;> simp [hy]
  · rw [hg]
    refine (hbound c).trans (if_pos ?_)
    have hcls : (u.ctx x).cls = (s.ctx x).cls := by rw [honly]; rfl
    simp [State.heldClusters, hcls, hc, hunits.bound, hb]
  · rw [hg, hfree]; rfl
  · rw [hg, hfree]; exact hunits.towers
  · rw [hg, hfree, honly]; rfl

theorem restored_facts (s : State) (x : Nat) :
    (∀ y, (s.restored x).ctx y = if y = x then Ctx.entersBound s.now { s.ctx x with
      state := .bound
      restoreRunning := false
      lastRestore := Nat.min (s.now - (s.ctx x).transitStart) 4294967295 } else s.ctx y) ∧
    (∀ c ∈ (s.ctx x).cls,
      ((s.restored x).core c).acc = (s.core c).acc ∧ ((s.restored x).core c).meSuspended = false) ∧
    (s.restored x).memory = s.memory ∧
    s.restored x = { s with
      ctxs := (s.restored x).ctxs
      clusters := (s.restored x).clusters
      dbg := (s.restored x).dbg } := by
  have hunits := fun c hc => goOn_units (s := s) (l := (s.ctx x).cls) (c := c) hc
  have honly := goOn_only s (s.ctx x).cls
  unfold State.restored
  generalize s.goOn (s.ctx x).cls = u at *
  generalize hv : State.modCtx u x _ = v
  have hkept : (v.enterBound x).clusters = v.clusters ∧ (v.enterBound x).memory = v.memory := by
    simp only [State.enterBound_kept, and_self]
  refine ⟨fun y => ?_, fun c hc => ?_, ?_, ?_⟩
  · have hnow : v.now = s.now := by rw [← hv, honly]; rfl
    have hctx : u.ctx = s.ctx := by rw [honly]; rfl
    rw [State.ctx_enterBound, hnow, ← hv, State.ctx_modCtx, State.ctx_modCtx, if_pos rfl, hctx]
    by_cases hy : y = x <;> simp [hy]
  · rw [State.core, State.cluster, hkept.1, ← hv]
    exact hunits c hc
  · rw [hkept.2, ← hv, honly]; rfl
  · rw [enterBound_only, ← hv, honly]; rfl

/-- Settles O20: periods, binds, saves and restores, each through what its steps leave of contexts, clusters and images. -/
theorem schedulerRuns : Obligations.SchedulerRuns := by
  unfold Obligations.SchedulerRuns
  refine ⟨?_, ?_, ?_, ?_, ?_, ?_, ?_, ?_⟩
  · intro s x hb hs he ht hd hw
    refine ⟨_, periodEnd_next hb hs he hd ht, ?_⟩
    rw [hw, if_neg Bool.false_ne_true, State.ctx_modCtx, if_pos rfl, ctx_countWaits_self]
    exact ⟨rfl, hs, he, rfl⟩
  · intro s x hb hs he ht hd hw hdef
    refine ⟨_, periodEnd_next hb hs he hd ht, ?_⟩
    have hself := ctx_countWaits_self s x
    have hdu : (s.countWaits x).defers x = false := by
      rw [← hdef]
      exact defers_congr rfl rfl (by rw [hself]) (by rw [hself]) (by rw [hself])
    obtain ⟨hctx, hothers, honly⟩ := beginStop_facts (by rw [hself]; exact hs) (by rw [hself]; exact he) hdu
    rw [hw, if_pos rfl]
    refine ⟨by rw [hctx, hself], fun y => ?_, by rw [honly]; rfl⟩
    by_cases hy : y = x
    · subst hy; rw [hctx, hself]
    · rw [hothers y hy, state_countWaits]
  · intro s x hb hs he hp hdue hdef
    exact ⟨_, idlePark_next hb hs he hp hdue, beginStop_facts hs he hdef⟩
  · intro s l x hwf hb hm hw hf ht hserve hs
    refine ⟨_, schedulerBind_next rfl hb hm hw hf ht, ?_⟩
    obtain ⟨hctx, hcluster, hread, honly⟩ := bind_opened (s := { s with hubNeeds := l }) (x := x) hs hserve
    refine ⟨?_, ?_, ?_, ?_, by rw [honly], fun c hc => ?_, fun a ha => ?_, fun y hy => (hctx y).trans (if_neg hy), ?_⟩
    case refine_5 =>
      have hk := (hcluster c).trans (if_pos hc)
      exact ⟨congrArg Cluster.bound hk, congrArg Cluster.core hk, fun a ha =>
        (hread _).trans (if_pos ⟨c, hc, by omega, by omega⟩)⟩
    case refine_6 =>
      refine (hread a).trans (if_neg ?_)
      rintro ⟨c, hc, h⟩
      have := ha c hc
      omega
    case refine_7 => rw [honly]
    all_goals
      rw [hctx x, if_pos rfl]
      rfl
  · intro s l x hb hm hw hf ht hserve hs
    refine ⟨_, schedulerBind_next rfl hb hm hw hf ht, ?_⟩
    obtain ⟨hctx, hunits, honly⟩ := bind_parked (s := { s with hubNeeds := l }) (x := x) (hs ▸ by decide) hserve
    have hx := (hctx x).trans (if_pos rfl)
    exact ⟨congrArg Ctx.state hx, congrArg Ctx.restoreRunning hx, congrArg Ctx.transitStart hx, hunits,
      fun y hy => (hctx y).trans (if_neg hy), by rw [honly]⟩
  · intro s x hb hs he hz hr hstop hch hf
    refine ⟨_, saveStart_next hb hs he hz hr hstop hch hf, ?_⟩
    obtain ⟨hctx, hunits, hcores, honly⟩ := saves_facts s x
    have hx := (hctx x).trans (if_pos rfl)
    exact ⟨congrArg Ctx.state hx, congrArg Ctx.saveRunning hx, congrArg Ctx.transitStart hx, hcores,
      fun y hy => (hctx y).trans (if_neg hy), hunits, honly⟩
  · intro s x hs hf hz hp hheld
    refine ⟨_, saveComplete_next hs hf hz, ?_⟩
    obtain ⟨hctx, hfree, hcells, htowers, honly⟩ := parked_facts s x
    obtain ⟨hctxs, hclusters, hrcells, hronly⟩ := released_facts (released_of_only hheld htowers)
    generalize ((s.parked x).applyHeldFor x).freeCredits = t at *
    have htctx : ∀ y, t.ctx y = (s.parked x).ctx y := fun y => by rw [State.ctx, hctxs, State.ctx]
    have hx := (htctx x).trans ((hctx x).trans (if_pos rfl))
    rw [closeIfPending_none (by rw [hx]; simp [Ctx.savedAt, hp])]
    refine ⟨congrArg Ctx.state hx, congrArg Ctx.saveRunning hx, congrArg Ctx.holds hx, congrArg Ctx.ending hx,
      congrArg Ctx.lastSave hx, fun c hc hb => ?_, hrcells.trans hcells,
      fun y hy => (htctx y).trans ((hctx y).trans (if_neg hy)), ?_⟩
    · rw [State.cluster, hclusters]
      exact hfree c hc hb
    · rw [hronly, honly]
  · intro s x hs hr hf hp hseed hheld
    refine ⟨_, restoreComplete_next hs hr hf, ?_⟩
    obtain ⟨hctx, hcore, hmem, honly⟩ := restored_facts s x
    obtain ⟨hctxs, hclusters, hrcells, hronly⟩ := released_facts (released_of_only hheld (by rw [hmem]))
    generalize ((s.restored x).applyHeldFor x).freeCredits = t at *
    have htctx : ∀ y, t.ctx y = (s.restored x).ctx y := fun y => by rw [State.ctx, hctxs, State.ctx]
    have hx := (htctx x).trans ((hctx x).trans (if_pos rfl))
    have hpx : (t.ctx x).pendingAction = none := by rw [hx]; exact hp
    rw [boundaryEffects_eq_self (by rw [hx]; exact hseed) hpx, closeIfPending_none hpx]
    refine ⟨congrArg Ctx.state hx, congrArg Ctx.restoreRunning hx, congrArg Ctx.holds hx, congrArg Ctx.binds hx,
      congrArg Ctx.lastRestore hx, fun c hc => ?_, hrcells.trans (by rw [hmem]),
      fun y hy => (htctx y).trans ((hctx y).trans (if_neg hy)), ?_⟩
    · rw [State.core, State.cluster, hclusters]
      exact hcore c hc
    · rw [hronly, honly]

end Sys2Proof.Machine

namespace Sys2Proof.Machine

/-! ### Requests of peers performed at their home slice (R274, R277) -/

/-- What lies in HBM3 or in a scratch aperture is read and written in place. -/
theorem performRequest_reducible {s : State} {q : Req} (r : Requester) (hr : reducible q.addr = true)
    (ha : isAtomic q.op = false) (hop : q.op ≠ 0x22) :
    s.performRequest q r = s.plainAccess q.op q.addr q.len q.data r := by
  rw [State.performRequest, ha, if_neg hop]
  obtain ⟨t, o, hp⟩ | ⟨t, o, hp⟩ := placeOf_of_reducible hr
  · rw [hp]; rfl
  · rw [hp]; rfl

section
variable {s s1 : State} {n p : Nat} {q : Req} (ht : s.targetExists q = true)
include ht

/-- A request whose target exists is performed as it leaves the ready list. -/
theorem performOne_leaving :
    (s.leaving n).performOne q = (s.leaving n).performRequest q ((s.leaving n).originRequester q) := by
  have h : (s.leaving n).targetExists q = true := ht
  rw [State.performOne, h]
  rfl

theorem performOne_load {d : List Byte} (hop : q.op = 0x20) (hr : reducible q.addr = true)
    (h : (s.leaving n).loadRange q.addr q.len (s.originRequester q) = (.ok d, s1)) :
    (s.leaving n).performOne q = (.data d, s1) := by
  rw [performOne_leaving ht, performRequest_reducible _ hr (by rw [hop]; rfl) (by rw [hop]; decide), hop]
  exact plainAccess_load h

theorem performOne_store (hop : q.op = 0x21) (hr : reducible q.addr = true)
    (h : (s.leaving n).storeRange q.addr q.data (s.originRequester q) = (none, s1)) :
    (s.leaving n).performOne q = (.ack, s1) := by
  rw [performOne_leaving ht, performRequest_reducible _ hr (by rw [hop]; rfl) (by rw [hop]; decide)]
  exact plainAccess_store (by rw [hop]; decide) h

theorem performOne_tally {s2 : State} {b : List Byte} (hop : q.op = 0x22)
    (hlost : (s.ctx q.ctx).clusterLost = false) (hd : s.deliveryOf q.ctx (refCluster q.ref) = .memory)
    (hb : s.belled = false) (hz : (s.region (zoneOf (refCluster q.ref))).stopped = false)
    (h1 : (s.leaving n).loadRange (refOffset q.ref (refCluster q.ref)) 4 (s.originRequester q) = (.ok b, s1))
    (h2 : s1.storeRange (refOffset q.ref (refCluster q.ref)) (leBytes 4 (leNat b + q.refAmt)) (s.originRequester q) =
      (none, s2)) : (s.leaving n).performOne q = (.ack, s2) := by
  have ha : isAtomic q.op = false := by rw [hop]; rfl
  rw [performOne_leaving ht, State.performRequest, ha, if_pos hop]
  exact clusterAccess_tally (s := s.leaving n) hd hlost hz hb hop (addWord_stored h1 h2)

end

section
variable {s s1 : State} {n p : Nat} {q : Req} {a : Answer} (hq : s.domain.ready[n]? = some q)
  (hy : s.notYet q = false) (hone : (s.leaving n).performOne q = (a, s1))
include hone

theorem domain_performed : s1.domain = (s.leaving n).domain := by
  have h := congrArg (·.2.domain) hone
  simp only [State.performOne_kept] at h
  exact h.symm

theorem port_performed : s1.port p = s.port p := by
  rw [State.port, domain_performed hone]
  rfl

theorem sends_performed (o : Output) : s1.sends o = s.sends o := State.sends_congr (s := s.leaving n) (domain_performed hone) o

include hq hy

theorem performReady_finished (ha : a ≠ .stalled) : s.performReady n q.op = s1.finishHome q a := by
  simp only [State.leaving] at hone
  rw [State.performReady, hq]
  simp only [hy, ne_eq, not_true_eq_false, decide_false, Bool.or_self, Bool.false_eq_true, if_false, hone]

/-- A peer's request that is not a LOAD and has been performed is answered, and its reply is cached (R289). -/
theorem request_runs {i : Instr} (hi : exec i s = .next (s.performReady n q.op)) (ha : a ≠ .stalled)
    (hop : q.op ≠ 0x20) (ho : q.origin = .peer p) (hl : (s.port p).state ≠ .lost) (hd : (s.port p).state ≠ .down)
    (hs : s.sends (.reply p (responseTo q a)) = true) :
    ∃ t, exec i s = .next t ∧ t.memory = s1.memory ∧ t.domain.ready = dropAt n s.domain.ready ∧
    t.control.wire = s1.control.wire ++ [.reply p (responseTo q a)] ∧
    (((s.domain.replies.get {} (s.cacheKey p q.rid)).state = .pending → (s.domain.replies.get {} (s.cacheKey p
      q.rid)).rid = q.rid → (t.domain.replies.get {} (s.cacheKey p q.rid)).state = .replied)) ∧
    t.ctxs = s1.ctxs ∧ t = { s1 with domain := t.domain, control := t.control } := by
  have hdom := domain_performed hone
  have hport : s1.port p = s.port p := port_performed hone
  have hkey : s1.cacheKey p q.rid = s.cacheKey p q.rid := by
    rw [State.cacheKey, State.cacheKey, State.portRole, State.portRole, hdom]; rfl
  obtain ⟨k, hk⟩ := answerOrigin_replied ho hop (hport ▸ hl) (hport ▸ hd) ((sends_performed hone _).trans hs)
  have hfinish : s1.finishHome q a = s1.answerOrigin q a := if_pos hop
  refine ⟨_, by rw [hi, performReady_finished hq hy hone ha, hfinish], ?_⟩
  rw [hk]
  refine ⟨rfl, congrArg Domain.ready hdom, rfl, fun hp hrid => ?_, rfl, rfl⟩
  have h := s1.replied_repliesAfter (p := p) (q := q) (responseTo q a)
  rw [hkey, hdom] at h
  exact h hp hrid

end

/-- A LOAD of a peer, performed with none that joined it: its reply leaves, and its data stays for those that may join (R281). -/
theorem finishHome_load {s : State} {p : Nat} {q : Req} {h : HomeLoad} {d : List Byte} (hop : q.op = 0x20)
    (ho : q.origin = .peer p) (hl : (s.port p).state ≠ .lost) (hd : (s.port p).state ≠ .down)
    (hs : s.sends (.reply p (responseTo q (.data d))) = true) (hh : s.domain.homeLoads = [h]) (hload : h.load = q)
    (hj : h.joined = []) (hr : h.result = none) : ∃ k, s.finishHome q (.data d) = { s with
      domain := { s.domain with ports := k, homeLoads := [{ h with result := some d }] }
      control := { s.control with wire := s.control.wire ++ [.reply p (responseTo q (.data d))] } } := by
  obtain ⟨k, hk⟩ := wire_reply_ports hd hs
  have hanswer : s.answerOrigin q (.data d) = s.wire (.reply p (responseTo q (.data d))) := by
    rw [State.answerOrigin, ho]
    simp only [State.answerPeer, hop, if_neg hl]
    rfl
  refine ⟨k, ?_⟩
  rw [State.finishHome, hanswer, hk]
  simp [hop, hh, hload, hj, hr]


/-! ### Line queues and tickets (R285, R286) -/

theorem lineQueue_setLineQueue (s : State) (l : Nat) (k : LineQueue) :
    (s.setLineQueue l k).lineQueue l = if k.inUse then k else {} := by
  simp only [State.lineQueue, State.setLineQueue]
  split
  · exact SMap.get_set_same _ _ _ _
  · simp only [SMap.get, SMap.lookup_dropKeys, decide_true, if_true]
    rfl

/-- A queue that is freed holds no entry and no ticket. -/
theorem not_inUse {k : LineQueue} (h : ¬ k.inUse = true) : k.entries = [] ∧ k.tickets = [] := by
  simpa [LineQueue.inUse] using h

theorem entries_setLineQueue (s : State) (l : Nat) (k : LineQueue) :
    ((s.setLineQueue l k).lineQueue l).entries = k.entries := by
  rw [lineQueue_setLineQueue]
  split
  · rfl
  · next h => exact (not_inUse h).1.symm

theorem tickets_setLineQueue (s : State) (l : Nat) (k : LineQueue) :
    ((s.setLineQueue l k).lineQueue l).tickets = k.tickets := by
  rw [lineQueue_setLineQueue]
  split
  · rfl
  · next h => exact (not_inUse h).2.symm

theorem entries_reserve (k : LineQueue) (now : Nat) (skip : Option Nat) : (k.reserve now skip).entries = k.entries := by
  unfold LineQueue.reserve
  split
  · rfl
  · split <;> rfl

/-- A reservation changes of the tickets at most the reservation of one, and not that of `skip` (R286). -/
theorem tickets_reserve (k : LineQueue) (now : Nat) (skip : Option Nat) : ∃ i, (k.reserve now skip).tickets =
    k.tickets.mapIdx (fun j t => if j = i then { t with reserved := some (now + 2000) } else t) ∧
    ∀ h : i < k.tickets.length, skip ≠ some k.tickets[i].ticket := by
  unfold LineQueue.reserve
  have hnone : k.tickets.mapIdx (fun j t =>
      if j = k.tickets.length then { t with reserved := some (now + 2000) } else t) = k.tickets := by
    refine List.ext_getElem (by simp) fun j hj _ => ?_
    have : j ≠ k.tickets.length := by simp at hj; omega
    simp [this]
  split
  · exact ⟨k.tickets.length, hnone.symm, fun h => absurd h (lt_irrefl _)⟩
  · split
    · exact ⟨k.tickets.length, hnone.symm, fun h => absurd h (lt_irrefl _)⟩
    · next i hi =>
      obtain ⟨hlt, hp, -⟩ := List.findIdx?_eq_some_iff_getElem.mp hi
      exact ⟨i, rfl, fun _ => by simpa using (Bool.and_eq_true_iff.mp hp).2⟩

theorem map_tickets_reserve (k : LineQueue) (now : Nat) (skip : Option Nat) :
    (k.reserve now skip).tickets.map (fun t => (t.ticket, t.at_)) = k.tickets.map fun t => (t.ticket, t.at_) := by
  obtain ⟨i, hi, -⟩ := tickets_reserve k now skip
  rw [hi]
  refine List.ext_getElem (by simp) fun j _ _ => ?_
  simp only [List.getElem_map, List.getElem_mapIdx]
  split <;> rfl

/-- The ticket that has just missed its reservation gets none. -/
theorem reserved_reserve_skip {k : LineQueue} {now n : Nat} (hk : ∀ t ∈ k.tickets, t.ticket = n → t.reserved = none) :
    ∀ t ∈ (k.reserve now (some n)).tickets, t.ticket = n → t.reserved = none := by
  obtain ⟨i, hi, hskip⟩ := tickets_reserve k now (some n)
  intro t ht hn
  rw [hi, List.mem_mapIdx] at ht
  obtain ⟨j, hj, rfl⟩ := ht
  by_cases hji : j = i
  · subst hji
    simp only [if_true] at hn
    exact absurd (congrArg some hn.symm) (hskip hj)
  · simp only [hji, if_false] at hn ⊢
    exact hk _ (List.getElem_mem hj) hn

theorem ticket_reserve {k : LineQueue} {now : Nat} {skip : Option Nat} {t : TicketHeld}
    (ht : t ∈ (k.reserve now skip).tickets) : ∃ u ∈ k.tickets, u.ticket = t.ticket := by
  have hm : (t.ticket, t.at_) ∈ (k.reserve now skip).tickets.map fun t => (t.ticket, t.at_) :=
    List.mem_map_of_mem ht
  rw [map_tickets_reserve] at hm
  obtain ⟨u, hu, he⟩ := List.mem_map.mp hm
  exact ⟨u, hu, congrArg Prod.fst he⟩

/-- A device whose own requests hold no ticket presents none (R286). -/
theorem presentOwn_none {s : State} (l : Nat) (h : ∀ o ∈ s.domain.outstanding, o.port = 0xFF → o.req.ticket = none) :
    s.presentOwn l = s := by
  have hnil : (s.domain.outstanding.filter fun o =>
      o.port = 0xFF && o.req.ticket.isSome && (homeLines o.req).map (·.1) = some l) = [] := by
    rw [List.filter_eq_nil_iff]
    intro o ho hc
    simp only [Bool.and_eq_true, decide_eq_true_eq] at hc
    rw [h o ho hc.1.1] at hc
    exact absurd hc.1.2 Bool.false_ne_true
  rw [State.presentOwn, hnil]
  rfl

theorem presentOwn_only (s : State) (l : Nat) :
    s.presentOwn l = { s with domain := (s.presentOwn l).domain, regs := (s.presentOwn l).regs } := by
  apply State.ext_of <;> simp only [State.presentOwn_kept]

/-- The oldest entry of a line's queue, of one request that is not a LOAD, is applied and answered (R285). -/
theorem lineQueueApply_next {s s1 : State} {l : Nat} {q : Req} {n : Nat} {rest : List QueueEntry} {a : Answer}
    (he : (s.lineQueue l).entries = { parts := [q], order := n } :: rest)
    (hb : s.entryBlocked l { parts := [q], order := n } = false) (hy : s.notYet q = false) (hop : q.op ≠ 0x20)
    (h : s.performOne q = (a, s1)) : exec (.lineQueueApply l) s =
      .next (((s1.setLineQueue l (({ s.lineQueue l with entries := rest } : LineQueue).reserve s.now none)).answerOrigin q
        a).presentOwn l) := by
  have hfinish : ∀ t : State, t.finishHome q a = t.answerOrigin q a := fun _ => if_pos hop
  change execLineQueueApply l s = _
  simp only [execLineQueueApply, he, hb, State.applyEntry, h, List.any_cons, List.any_nil, hy, Bool.or_self,
    Bool.false_eq_true, if_false, List.zip_cons_cons, List.zip_nil_left, List.foldl_cons, List.foldl_nil, hfinish]

/-- The queue once the reservation of ticket `n` has run out (R286). -/
def LineQueue.missed (k : LineQueue) (n : Nat) : LineQueue :=
  { k with tickets := k.tickets.map fun t => if t.ticket = n then { t with reserved := none } else t }

theorem ticketReservationExpiry_next {s : State} {l : Nat} {h : TicketHeld}
    (hf : (s.lineQueue l).tickets.find? (fun k => match k.reserved with | some u => decide (u ≤ s.now) | none => false) =
      some h) : exec (.ticketReservationExpiry l) s =
      .next ((s.setLineQueue l (((s.lineQueue l).missed h.ticket).reserve s.now (some h.ticket))).presentOwn l) := by
  change execTicketReservationExpiry l s = _
  rw [execTicketReservationExpiry]
  split
  · next hn => exact absurd (hn.symm.trans hf) (by simp)
  · next g hg =>
    cases hg.symm.trans hf
    rfl

theorem map_tickets_missed (k : LineQueue) (n : Nat) :
    (k.missed n).tickets.map (fun t => (t.ticket, t.at_)) = k.tickets.map fun t => (t.ticket, t.at_) := by
  rw [LineQueue.missed, List.map_map]
  refine List.map_congr_left fun t _ => ?_
  simp only [Function.comp]
  split <;> rfl

theorem reserved_missed (k : LineQueue) (n : Nat) : ∀ t ∈ (k.missed n).tickets, t.ticket = n → t.reserved = none := by
  intro t ht hn
  obtain ⟨u, -, rfl⟩ := List.mem_map.mp ht
  by_cases hu : u.ticket = n
  · simp [hu]
  · simp [hu] at hn

/-- The queue without ticket `n`, a place reserved for the next where it held one (R286). -/
def LineQueue.lapsed (k : LineQueue) (n now : Nat) (reserved : Bool) : LineQueue :=
  let k1 := { k with tickets := k.tickets.filter fun t => t.ticket ≠ n }
  if reserved then k1.reserve now none else k1

theorem ticket_lapsed {k : LineQueue} {n now : Nat} {b : Bool} : ∀ t ∈ (k.lapsed n now b).tickets, t.ticket ≠ n := by
  have hfilter : ∀ t ∈ k.tickets.filter (fun t => t.ticket ≠ n), t.ticket ≠ n :=
    fun t ht => by simpa using (List.mem_filter.mp ht).2
  intro t ht
  cases b with
  | false => exact hfilter t ht
  | true =>
    obtain ⟨u, hu, he⟩ := ticket_reserve ht
    exact he ▸ hfilter u hu

theorem ticketLapse_next {s : State} {l n : Nat} {h : TicketHeld}
    (hf : (s.lineQueue l).tickets.find? (fun k => k.ticket = n && decide (k.at_ + 200000 ≤ s.now)) = some h)
    (ho : s.holdsTicket l n = false) : exec (.ticketLapse l n) s =
      .next ((s.setLineQueue l ((s.lineQueue l).lapsed n s.now h.reserved.isSome)).countReg 0x801204 32 1) := by
  change execTicketLapse l n s = _
  simp only [execTicketLapse, ho, Bool.not_false, Bool.and_true, hf]
  rfl

theorem replyCacheExpiry_next {s : State} {d e : Nat}
    (hs : (s.domain.replies.get {} (4096 * d + e % 4096)).state = .replied)
    (ht : (s.domain.replies.get {} (4096 * d + e % 4096)).at_ + 1000 * s.reg 0x801003 ≤ s.now) :
    exec (.replyCacheExpiry d e) s = .next { s with domain := { s.domain with
      replies := s.domain.replies.set (4096 * d + e % 4096)
        { s.domain.replies.get {} (4096 * d + e % 4096) with state := .expired } } } := by
  change execReplyCacheExpiry d e s = _
  exact if_pos (Bool.and_eq_true_iff.mpr ⟨decide_eq_true hs, decide_eq_true ht⟩)

/-! ### Requests sent again (R287, R290) -/

theorem State.port_modPort (s : State) (p q : Nat) (f : Port → Port) :
    (s.modPort p f).port q = if q = p then f (s.port p) else s.port q :=
  SMap.get_modify _ _ _ _ _

theorem samePorts_modPort (p : Nat) (s : State) (f : Port → Port) : samePorts p s (s.modPort p f) :=
  fun _ hq => SMap.get_modify_ne _ _ _ hq _

/-- Whether a port can send depends on the ports and the port map. -/
theorem State.sends_of_ports {s t : State} (h : t.domain.ports = s.domain.ports) (hm : t.domain.portMap = s.domain.portMap)
    (o : Output) : t.sends o = s.sends o := by
  have hport : t.port = s.port := by funext p; rw [State.port, State.port, h]
  have hroom : t.portRoom = s.portRoom := by
    funext p vc n
    rw [State.portRoom, State.portRoom, hport, State.portRole, State.portRole, hm]
  rw [State.sends, State.sends, hport, hroom]

/-- What a port sends, and what waits at it, stays sent or waiting; nothing of another port changes, and only the port engines'
part of the state does. -/
structure sendsOn (p : Nat) (s t : State) : Prop where
  state : (t.port p).state = (s.port p).state
  due : (t.port p).resendDue = (s.port p).resendDue
  sent : ∀ o, o ∈ s.control.wire ∨ o ∈ (s.port p).waiting → o ∈ t.control.wire ∨ o ∈ (t.port p).waiting
  ports : samePorts p s t
  only : t = { s with domain := t.domain, control := t.control, regs := t.regs }

namespace sendsOn
variable {p : Nat}

theorem refl (s : State) : sendsOn p s s := ⟨rfl, rfl, fun _ h => h, fun _ _ => rfl, rfl⟩

theorem trans {s t u : State} (h : sendsOn p s t) (g : sendsOn p t u) : sendsOn p s u where
  state := g.state.trans h.state
  due := g.due.trans h.due
  sent o ho := g.sent o (h.sent o ho)
  ports q hq := (g.ports q hq).trans (h.ports q hq)
  only := by rw [g.only, h.only]

theorem modPort (s : State) {f : Port → Port} (hs : ∀ k, (f k).state = k.state) (hd : ∀ k, (f k).resendDue = k.resendDue)
    (hw : ∀ k, ∀ o ∈ k.waiting, o ∈ (f k).waiting) : sendsOn p s (s.modPort p f) := by
  have hp : (s.modPort p f).port p = f (s.port p) := by rw [State.port_modPort, if_pos rfl]
  exact ⟨hp ▸ hs _, hp ▸ hd _, fun o ho => ho.imp id fun h => hp ▸ hw _ o h, samePorts_modPort p s f, rfl⟩

theorem modOutstanding (s : State) (h : Nat) (f : Outstanding → Outstanding) : sendsOn p s (s.modOutstanding h f) :=
  ⟨rfl, rfl, fun _ h => h, fun _ _ => rfl, rfl⟩

theorem countReg (s : State) (k w n : Nat) : sendsOn p s (s.countReg k w n) :=
  ⟨rfl, rfl, fun _ h => h, fun _ _ => rfl, rfl⟩

theorem wire (s : State) (r : Req) : sendsOn p s (s.wire (.request p r)) := by
  obtain ⟨vc, n, hf⟩ : ∃ vc n, portFlits (.request p r) = some (p, vc, n) := ⟨_, _, rfl⟩
  simp only [State.wire, hf]
  split
  · exact refl s
  · split
    · refine trans ?_ (modPort _ (fun _ => rfl) (fun _ => rfl) fun _ _ h => h)
      exact ⟨rfl, rfl, fun o ho => ho.imp_left fun h => List.mem_append_left _ h, fun _ _ => rfl, rfl⟩
    · exact modPort s (fun _ => rfl) (fun _ => rfl) fun _ _ h => List.mem_append_left _ h

theorem sendOutstanding (s : State) {o : Outstanding} (hp : o.port = p) : sendsOn p s (s.sendOutstanding o) := by
  subst hp
  unfold State.sendOutstanding
  split
  · exact refl s
  · split
    · exact ((modOutstanding s _ _).trans (wire _ _)).trans (countReg _ _ _ _)
    · split
      · exact ((modOutstanding s _ _).trans (wire _ _)).trans (countReg _ _ _ _)
      · split
        · exact refl s
        · have hrid : sendsOn o.port s (s.modPort o.port fun k => { k with nextRid := k.nextRid + 1 }) :=
            modPort s (fun _ => rfl) (fun _ => rfl) fun _ _ h => h
          exact ((hrid.trans (modOutstanding _ _ _)).trans (wire _ _)).trans (countReg _ _ _ _)

theorem resendNow (s : State) {o : Outstanding} (hp : o.port = p) (hf : p ≠ 0xFF) : sendsOn p s (s.resendNow o) := by
  subst hp
  unfold State.resendNow
  dsimp only
  rw [if_neg hf]
  split
  · exact ((modOutstanding s _ _).trans (modOutstanding _ _ _)).trans (wire _ _)
  · exact modOutstanding s _ _

theorem foldl {f : State → Outstanding → State} (h : ∀ s o, sendsOn p s (f s o)) (l : List Outstanding) (s : State) :
    sendsOn p s (l.foldl f s) := by
  induction l generalizing s with
  | nil => exact refl s
  | cons o l ih => exact (h s o).trans (ih (f s o))

end sendsOn

/-- What a port is given to send leaves, or waits at it, unless the port is DOWN (R264). -/
theorem wire_request_mem {s : State} {p : Nat} (r : Req) (hd : (s.port p).state ≠ .down) :
    .request p r ∈ (s.wire (.request p r)).control.wire ∨ .request p r ∈ ((s.wire (.request p r)).port p).waiting := by
  obtain ⟨vc, n, hf⟩ : ∃ vc n, portFlits (.request p r) = some (p, vc, n) := ⟨_, _, rfl⟩
  simp only [State.wire, hf, if_neg hd]
  split
  · exact .inl (List.mem_append_right _ (List.mem_singleton.mpr rfl))
  · rw [State.port_modPort, if_pos rfl]
    exact .inr (List.mem_append_right _ (List.mem_singleton.mpr rfl))

/-- What a port sends at once changes that port alone. -/
theorem wire_request_ports {s : State} {p : Nat} {r : Req} (hd : (s.port p).state ≠ .down)
    (hs : s.sends (.request p r) = true) : ∃ k, s.wire (.request p r) = { s with
      domain := { s.domain with ports := k }
      control := { s.control with wire := s.control.wire ++ [.request p r] } } ∧
      ∀ q, q ≠ p → k.get {} q = s.domain.ports.get {} q := by
  obtain ⟨vc, n, hf⟩ : ∃ vc n, portFlits (.request p r) = some (p, vc, n) := ⟨_, _, rfl⟩
  simp only [State.wire, hf, if_neg hd, hs, if_true]
  exact ⟨_, rfl, fun q hq => SMap.get_modify_ne _ _ _ hq _⟩

/-- A request sent again on a port that is UP. -/
theorem resendNow_up {s : State} {o : Outstanding} (hf : o.port ≠ 0xFF) (hu : (s.port o.port).state = .up) :
    s.resendNow o = ((s.modOutstanding o.handle fun k => { k with waitUntil := none }).modOutstanding o.handle fun k =>
      { k with sent := some s.now }).wire (.request o.port (o.onFibre (o.rid.getD 0))) := by
  unfold State.resendNow
  dsimp only
  rw [if_neg hf, hu]
  rfl

theorem unticketedRetryResend_next {s : State} {n t0 : Nat} {o : Outstanding}
    (hf : s.domain.outstanding.find? (fun o => o.handle = n && !o.frozen) = some o) (hw : o.waitUntil = some t0)
    (ht : t0 ≤ s.now) (hd : s.now ≤ s.deadline o) : exec (.unticketedRetryResend n) s = .next (s.resendNow o) := by
  change execUnticketedRetryResend n s = _
  simp only [execUnticketedRetryResend, hf, hw]
  exact if_pos (by simp [ht, hd])

/-- One outstanding request in REQUEST_RESEND of port `p`, as `s` stood at its beginning (R290). -/
def State.resendOne (s : State) (p : Nat) (s1 : State) (o : Outstanding) : State :=
  if o.port ≠ p || o.frozen || s.deadline o < s.now || o.waitUntil.isSome then s1
  else
    match o.sent with
    | none => if (s.port p).state = .up then s1.sendOutstanding o else s1
    | some t =>
      if (s.port p).resendDue || t + 1000 * s.reg 0x801001 ≤ s.now then (s1.resendNow o).countReg 0x801102 64 1 else s1

theorem requestResend_next {s : State} {p : Nat} (hu : (s.port p).state = .up) : exec (.requestResend p) s =
    .next (s.domain.outstanding.foldl (s.resendOne p) (s.modPort p fun q => { q with resendDue := false })) := by
  change execRequestResend p s = _
  exact if_neg (by simp [hu])

theorem sendsOn.resendOne {s : State} {p : Nat} (hf : p ≠ 0xFF) (s1 : State) (o : Outstanding) :
    sendsOn p s1 (s.resendOne p s1 o) := by
  unfold State.resendOne
  split
  · exact sendsOn.refl s1
  · next hc =>
    have hp : o.port = p := by
      by_contra h
      exact hc (by simp [h])
    split
    · split
      · exact sendsOn.sendOutstanding s1 hp
      · exact sendsOn.refl s1
    · split
      · exact (sendsOn.resendNow s1 hp hf).trans (sendsOn.countReg _ _ _ _)
      · exact sendsOn.refl s1

section
variable {s : State} {p t0 : Nat} {o : Outstanding} (hf : p ≠ 0xFF) (hp : o.port = p) (hz : o.frozen = false)
  (hd : s.now ≤ s.deadline o) (hw : o.waitUntil = none) (ht : o.sent = some t0)
  (hdue : (s.port p).resendDue = true ∨ t0 + 1000 * s.reg 0x801001 ≤ s.now)
include hf hp hz hd hw ht hdue

/-- A request whose reply is overdue is sent again. -/
theorem resendOne_sent {s1 : State} (hu : (s1.port p).state = .up) :
    .request p (o.onFibre (o.rid.getD 0)) ∈ (s.resendOne p s1 o).control.wire ∨
    .request p (o.onFibre (o.rid.getD 0)) ∈ ((s.resendOne p s1 o).port p).waiting := by
  have hgo : s.resendOne p s1 o = (s1.resendNow o).countReg 0x801102 64 1 := by
    rw [State.resendOne, if_neg (by simp [hp, hz, hw, hd]), ht]
    exact if_pos (by simpa using hdue)
  subst hp
  rw [hgo, resendNow_up hf hu]
  exact wire_request_mem _ (ne_of_eq_of_ne hu (by decide))

theorem foldl_resendOne_sent {l : List Outstanding} (hl : o ∈ l) {s1 : State} (hu : (s1.port p).state = .up) :
    .request p (o.onFibre (o.rid.getD 0)) ∈ (l.foldl (s.resendOne p) s1).control.wire ∨
    .request p (o.onFibre (o.rid.getD 0)) ∈ ((l.foldl (s.resendOne p) s1).port p).waiting := by
  induction l generalizing s1 with
  | nil => cases hl
  | cons u l ih =>
    obtain rfl | hl := List.mem_cons.mp hl
    · exact (sendsOn.foldl (sendsOn.resendOne hf) l _).sent _ (resendOne_sent hf hp hz hd hw ht hdue hu)
    · exact ih hl ((sendsOn.resendOne hf s1 u).state.trans hu)

end

/-! ### Requests abandoned (R290) -/

theorem reg_setReg_ne {s : State} {j k : Nat} (h : j ≠ k) (v : Nat) : (s.setReg k v).reg j = s.reg j :=
  SMap.get_set_ne _ _ h _

theorem reg_setReg_same (s : State) (k v : Nat) : (s.setReg k v).reg k = v := SMap.get_set_same _ _ _ _

theorem reg_of_regs {s t : State} (h : t.regs = s.regs) (j : Nat) : t.reg j = s.reg j := by
  rw [State.reg, State.reg, h]

section
variable {j : Nat} (hj : j ≠ 0x831006)
include hj

theorem reg_countRelease (s : State) (b : Bool) : (if b then s.countReg 0x831006 32 1 else s).reg j = s.reg j := by
  cases b with
  | false => rfl
  | true => exact reg_setReg_ne hj _

/-- An event changes no entry but the count of invalid values of RELEASED (R313). -/
theorem reg_queueEvent (s : State) (e : EventIn) (action : Nat) : (s.queueEvent e action).reg j = s.reg j := by
  unfold State.queueEvent
  dsimp only
  split
  · exact reg_countRelease hj s _
  · split
    · exact (reg_of_regs (State.emit_regs _ _) j).trans (reg_countRelease hj s _)
    · exact reg_countRelease hj s _

theorem reg_deliverEvent (s : State) (e : EventIn) : (s.deliverEvent e).reg j = s.reg j := by
  unfold State.deliverEvent
  dsimp only
  split
  · rfl
  · split
    · split
      · rfl
      · exact reg_queueEvent hj _ _ _
    · exact reg_queueEvent hj _ _ _

theorem reg_raiseFor (s : State) (code die unit x : Nat) (ids : Ids) (detail : List Byte) :
    (s.raiseFor code die unit x ids detail).reg j = s.reg j := by
  unfold State.raiseFor State.raiseEvent
  dsimp only
  split
  · exact (reg_deliverEvent hj _ _).trans (reg_deliverEvent hj _ _)
  · exact reg_deliverEvent hj _ _

end

theorem reg_settlePlan {j : Nat} (hj : j ≠ 0x410003) (s : State) : s.settlePlan.reg j = s.reg j := by
  unfold State.settlePlan
  split
  · rfl
  · dsimp only
    split
    · split
      · rfl
      · exact reg_setReg_ne hj 0
    · split
      · rfl
      · exact reg_setReg_ne hj 0

theorem reg_stopCollectives {j : Nat} (hj : j ≠ 0x410003) (s : State) (x : Nat) :
    (s.stopCollectives x).reg j = s.reg j := reg_settlePlan hj _

theorem reg_setState (s : State) (x : Nat) (new : CtxState) (j : Nat) : (s.setState x new).reg j = s.reg j :=
  reg_of_regs (by simp only [State.setState_kept]) j

/-- A fault changes no entry but those of its event and of a plan that it lets commit (R213, R313). -/
theorem reg_faultCtx {j : Nat} (h1 : j ≠ 0x831006) (h2 : j ≠ 0x410003) (s : State) (x code c e d r : Nat) :
    (s.faultCtx x code c e d r).reg j = s.reg j := by
  unfold State.faultCtx
  dsimp only
  have h : ∀ die unit ids l f, (((s.modCtx x f).raiseFor 0x1001 die unit x ids l).stopCollectives x).reg j = s.reg j :=
    fun _ _ _ _ _ => (reg_stopCollectives h2 _ x).trans (reg_raiseFor h1 _ _ _ _ _ _ _)
  split
  · rfl
  · split
    · exact (reg_setState _ _ _ _).trans (h _ _ _ _ _)
    · split
      · exact (reg_setState _ _ _ _).trans (h _ _ _ _ _)
      · split
        · exact (reg_setState _ _ _ _).trans (h _ _ _ _ _)
        · exact h _ _ _ _ _

/-- An increment without a reply is abandoned: its context takes the fault (R290). -/
def State.abandoned (s : State) (o : Outstanding) (k : Part) : State :=
  let u := (((s.countReg 0x801109 32 1).dropOutstanding o.handle).noteReply o)
  u.faultCtx k.ctx 0x0407 (if k.cluster < 800 then k.cluster else noCluster) k.engine (addressDetail k.address)
    (u.memberRing k.ctx k.cluster)

theorem requestDeadline_next {s : State} {n : Nat} {o : Outstanding} {k : Part}
    (hf : s.domain.outstanding.find? (fun o => o.handle = n && !o.frozen && decide (o.port ≠ 0xFF)) = some o)
    (hd : s.deadline o < s.now) (hp : o.parts = [k]) (hk : k.purpose = .increment) :
    exec (.requestDeadline n) s = .next (s.abandoned o k) := by
  change execRequestDeadline n s = _
  have hone : partAnswers o.req o.parts (.error 0x0407) = [(k, .error 0x0407)] := by rw [hp]; rfl
  simp only [execRequestDeadline, hf, hd, if_true, State.finishOutstanding, hone, List.foldl_cons, List.foldl_nil,
    State.completePart, State.failPart, hk]
  rfl

theorem abandoned_facts {s : State} {n : Nat} {o : Outstanding} {k : Part} (hn : o.handle = n)
    (hb : (s.ctx k.ctx).state = .bound) :
    ((s.abandoned o k).ctx k.ctx).state = .faulted ∧ ((s.abandoned o k).ctx k.ctx).faultCode = 0x0407 ∧
    (s.abandoned o k).domain.outstanding = s.domain.outstanding.filter (fun u => u.handle ≠ n) ∧
    (s.abandoned o k).reg 0x801109 = satAdd 32 (s.reg 0x801109) 1 ∧ sameCtxs k.ctx s (s.abandoned o k) ∧
    (s.abandoned o k).memory = s.memory ∧
    s.abandoned o k = { s with
      domain := (s.abandoned o k).domain
      coll := (s.abandoned o k).coll
      regs := (s.abandoned o k).regs
      control := (s.abandoned o k).control
      dbg := (s.abandoned o k).dbg
      ctxs := (s.abandoned o k).ctxs
      commits := (s.abandoned o k).commits } := by
  unfold State.abandoned
  dsimp only
  have hnote : (((s.countReg 0x801109 32 1).dropOutstanding o.handle).noteReply o) =
      { ((s.countReg 0x801109 32 1).dropOutstanding o.handle) with
        dbg := (((s.countReg 0x801109 32 1).dropOutstanding o.handle).noteReply o).dbg } := by
    apply State.ext_of <;> simp only [State.noteReply_kept]
  generalize ((s.countReg 0x801109 32 1).dropOutstanding o.handle).noteReply o = u at *
  have hctx : u.ctx = s.ctx := by rw [hnote]; rfl
  obtain ⟨hstate, hcode, -⟩ := faultCtx_faults 0x0407 (if k.cluster < 800 then k.cluster else noCluster) k.engine
    (addressDetail k.address) (u.memberRing k.ctx k.cluster) (s := u) (x := k.ctx) (by rw [hctx]; exact hb)
  refine ⟨hstate, hcode, ?_, ?_, ?_, ?_, ?_⟩
  · simp only [State.faultCtx_kept]
    rw [hnote, ← hn]
    rfl
  · rw [reg_faultCtx (by decide) (by decide), hnote]
    exact reg_setReg_same s _ _
  · intro y hy
    rw [sameCtxs_faultCtx _ _ _ _ _ y hy, hctx]
  · simp only [State.faultCtx_kept]
    rw [hnote]
    rfl
  · rw [faultCtx_only, hnote]
    rfl

/-! ### The clauses -/

/-- The oldest entry of a line's queue, of one request that is not a LOAD: it is performed and answered, and its place is free (R285,
R286). -/
theorem lineQueueApply_runs {s s1 : State} {l p n : Nat} {q : Req} {rest : List QueueEntry} {a : Answer}
    (he : (s.lineQueue l).entries = { parts := [q], order := n } :: rest)
    (hb : s.entryBlocked l { parts := [q], order := n } = false) (hy : s.notYet q = false) (ho : q.origin = .peer p)
    (hop : q.op ≠ 0x20) (hl : (s.port p).state ≠ .lost) (hd : (s.port p).state ≠ .down) (h : s.performOne q = (a, s1))
    (hs : s.sends (.reply p (responseTo q a)) = true) :
    ∃ t, exec (.lineQueueApply l) s = .next t ∧ t.memory = s1.memory ∧
    (((∀ o ∈ s.domain.outstanding, o.port = 0xFF → o.req.ticket = none) → (t.lineQueue l).entries = rest)) ∧
    t.control.wire = s1.control.wire ++ [.reply p (responseTo q a)] ∧ t.ctxs = s1.ctxs ∧
    t = { s1 with domain := t.domain, control := t.control, regs := t.regs } := by
  refine ⟨_, lineQueueApply_next he hb hy hop h, ?_⟩
  have hdom : s1.domain = s.domain := by
    have h' := congrArg (·.2.domain) h
    simp only [State.performOne_kept] at h'
    exact h'.symm
  generalize hk : ({ s.lineQueue l with entries := rest } : LineQueue).reserve s.now none = k
  have hentries : k.entries = rest := by rw [← hk, entries_reserve]
  have hports : (s1.setLineQueue l k).domain.ports = s.domain.ports := by rw [← hdom]; rfl
  have hmap : (s1.setLineQueue l k).domain.portMap = s.domain.portMap := by rw [← hdom]; rfl
  have hport : (s1.setLineQueue l k).port p = s.port p := by rw [State.port, hports, State.port]
  obtain ⟨ports, hans⟩ := answerOrigin_replied (s := s1.setLineQueue l k) ho hop (hport ▸ hl) (hport ▸ hd)
    ((State.sends_of_ports hports hmap _).trans hs)
  rw [hans]
  refine ⟨?_, fun hnone => ?_, ?_, ?_, ?_⟩
  · simp only [State.presentOwn_kept]; rfl
  · rw [presentOwn_none l (by rw [← hdom] at hnone; exact hnone)]
    exact (entries_setLineQueue s1 l k).trans hentries
  · simp only [State.presentOwn_kept]; rfl
  · simp only [State.presentOwn_kept]; rfl
  · rw [presentOwn_only]
    rfl

/-- A request whose RETRY carried no ticket leaves again on its port (R287). -/
theorem resendNow_runs {s : State} {n : Nat} {o : Outstanding} (hn : o.handle = n) (hf : o.port ≠ 0xFF)
    (hu : (s.port o.port).state = .up) (hs : s.sends (.request o.port o.req) = true) :
    (s.resendNow o).control.wire = s.control.wire ++ [.request o.port (o.onFibre (o.rid.getD 0))] ∧
    (s.resendNow o).domain.outstanding = s.domain.outstanding.map (fun u => if u.handle = n then { u with
      waitUntil := none, sent := some s.now } else u) ∧
    samePorts o.port s (s.resendNow o) ∧
    s.resendNow o = { s with domain := (s.resendNow o).domain, control := (s.resendNow o).control } := by
  rw [resendNow_up hf hu]
  generalize hv : State.modOutstanding (s.modOutstanding o.handle _) o.handle _ = v
  have hport : v.port = s.port := by rw [← hv]; rfl
  have hsends : v.sends (.request o.port (o.onFibre (o.rid.getD 0))) = true := by
    rw [State.sends_of_ports (s := s) (by rw [← hv]; rfl) (by rw [← hv]; rfl)]
    exact hs
  obtain ⟨k, hk, hsame⟩ := wire_request_ports (by rw [hport, hu]; decide) hsends
  rw [hk]
  subst hv
  refine ⟨rfl, ?_, hsame, rfl⟩
  simp only [State.modOutstanding, List.map_map]
  refine List.map_congr_left fun u _ => ?_
  by_cases h : u.handle = o.handle
  · simp [h, hn]
  · simp [h, ← hn]

/-- Settles O16: what is performed at home is answered and leaves its place; queues, tickets, reply cache, re-sends and deadlines
each through the law of its step. -/
theorem requestsPerformAtHome : Obligations.RequestsPerformAtHome := by
  unfold Obligations.RequestsPerformAtHome
  refine ⟨?_, ?_, ?_, ?_, ?_, ?_, ?_, ?_, ?_, ?_⟩
  · intro s s1 n p q d h hq hy ht ho hl hd hop hr h1 hh hload hj hres hs
    have hone := performOne_load (n := n) ht hop hr h1
    have hport : s1.port p = s.port p := port_performed hone
    have hdom := domain_performed hone
    obtain ⟨k, hk⟩ := finishHome_load hop ho (hport ▸ hl) (hport ▸ hd) ((sends_performed hone _).trans hs)
      (by rw [hdom]; exact hh) hload hj hres
    have hexec : exec (.load n) s = .next (s.performReady n q.op) := by rw [hop]; rfl
    refine ⟨_, hexec.trans (congrArg _ ((performReady_finished hq hy hone (by simp)).trans hk)), rfl, ?_, rfl, rfl, rfl⟩
    exact congrArg Domain.ready hdom
  · intro s s1 n p q hq hy ht ho hl hd hop hr h1 hs
    exact request_runs hq hy (performOne_store ht hop hr h1) (by rw [hop]; rfl) (by decide) (by rw [hop]; decide) ho hl hd hs
  · intro s s1 s2 n p q b hq hy ht ho hl hd hop hlost hdel hb hz hs h1 h2
    exact request_runs hq hy (performOne_tally ht hop hlost hdel hb hz h1 h2) (by rw [hop]; rfl) (by decide)
      (by rw [hop]; decide) ho hl hd hs
  · intro s s1 l p n q rest a he hb hy ho hop hl hd h hs
    exact lineQueueApply_runs he hb hy ho hop hl hd h hs
  · intro s l h hf _
    have hstay := fun hnone => presentOwn_none
      (s := s.setLineQueue l (((s.lineQueue l).missed h.ticket).reserve s.now (some h.ticket))) l hnone
    refine ⟨_, ticketReservationExpiry_next hf, fun hnone => ?_, fun hnone => ?_, fun hnone => ?_, ?_⟩
    · rw [hstay hnone, tickets_setLineQueue, map_tickets_reserve, map_tickets_missed]
    · rw [hstay hnone, tickets_setLineQueue]
      exact reserved_reserve_skip (reserved_missed _ _)
    · rw [hstay hnone, entries_setLineQueue, entries_reserve]
      rfl
    · rw [presentOwn_only]
      rfl
  · intro s l n h hf ho
    refine ⟨_, ticketLapse_next hf ho, fun k hk => ?_, reg_setReg_same _ _ _, rfl⟩
    exact ticket_lapsed k ((tickets_setLineQueue s l _) ▸ hk)
  · intro s d e hs ht
    exact ⟨_, replyCacheExpiry_next hs ht, SMap.get_set_same _ _ _ _, fun n hn => SMap.get_set_ne _ _ hn _, rfl⟩
  · intro s n t0 o hf hw ht hd hport hu hs
    have hn : o.handle = n := by
      have h := List.find?_some hf
      simp only [Bool.and_eq_true, decide_eq_true_eq] at h
      exact h.1
    exact ⟨_, unticketedRetryResend_next hf hw ht hd, resendNow_runs hn hport hu hs⟩
  · intro s p hp hu
    have hf : p ≠ 0xFF := by omega
    refine ⟨_, requestResend_next hu, ?_⟩
    generalize hs0 : (s.modPort p fun q => { q with resendDue := false }) = s0
    have hport : s0.port p = { s.port p with resendDue := false } := by rw [← hs0, State.port_modPort, if_pos rfl]
    have hfold := sendsOn.foldl (sendsOn.resendOne (s := s) hf) s.domain.outstanding s0
    refine ⟨hfold.due.trans (by rw [hport]), ?_, fun q hq => (hfold.ports q hq).trans ?_, ?_, ?_⟩
    · intro o ho hop hz hd hw hsent
      obtain ⟨t0, ht, hdue⟩ := hsent
      have hmem := foldl_resendOne_sent hf hop hz hd hw ht hdue ho (s1 := s0) (by rw [hport]; exact hu)
      rw [hop]
      exact hmem
    · rw [← hs0]; exact samePorts_modPort p s _ q hq
    · rw [hfold.only, ← hs0]; rfl
    · rw [hfold.only, ← hs0]; rfl
  · intro s n o k hf hd hp hk hb
    have hn : o.handle = n := by
      have h := List.find?_some hf
      simp only [Bool.and_eq_true, decide_eq_true_eq] at h
      exact h.1.1
    exact ⟨_, requestDeadline_next hf hd hp hk, abandoned_facts hn hb⟩

end Sys2Proof.Machine

/-! PROOF. O59: what marking a codeword writes, and what a read of a marked one does in each store (R165, R170). -/

namespace Sys2Proof.Machine

/-! ### Patterns, symbol by symbol (R165) -/

theorem gfSum_append (l m : List Byte) : gfSum (l ++ m) = gfSum l ^^^ gfSum m := by
  induction l with
  | nil => simp [gfSum]
  | cons a l ih => simp [gfSum, ih, BitVec.xor_assoc]

@[simp] theorem patternAt_nil (j : Nat) : patternAt [] j = 0 := rfl

theorem patternAt_append (p q : ErrorPattern) (j : Nat) : patternAt (p ++ q) j = patternAt p j ^^^ patternAt q j := by
  simp [patternAt, gfSum_append]

theorem patternAt_cons (e : Nat × Byte) (p : ErrorPattern) (j : Nat) :
    patternAt (e :: p) j = (if e.1 = j then e.2 else 0) ^^^ patternAt p j := by
  by_cases h : e.1 = j <;> simp [patternAt, h, gfSum]

/-- Symbol `k` as a pattern lists it, with what `v` adds to it; a zero is not listed. -/
def listedSymbol (v : Nat → Byte) (k : Nat) : Option (Nat × Byte) := if v k = 0 then none else some (k, v k)

theorem patternAt_filterMap_listedSymbol (v : Nat → Byte) {l : List Nat} (hl : l.Nodup) (j : Nat) :
    patternAt (l.filterMap (listedSymbol v)) j = if j ∈ l then v j else 0 := by
  induction l with
  | nil => simp
  | cons k l ih =>
    obtain ⟨hk, hl⟩ := List.nodup_cons.mp hl
    have hcons : patternAt ((k :: l).filterMap (listedSymbol v)) j =
        (if k = j then v k else 0) ^^^ patternAt (l.filterMap (listedSymbol v)) j := by
      by_cases hv : v k = 0
      · have hnone : listedSymbol v k = none := if_pos hv
        simp [List.filterMap_cons_none hnone, hv]
      · have hsome : listedSymbol v k = some (k, v k) := if_neg hv
        rw [List.filterMap_cons_some hsome, patternAt_cons]
    rw [hcons, ih hl]
    by_cases hj : k = j
    · subst hj; simp [hk]
    · simp [hj, Ne.symm hj]

theorem patternAt_patternAdd (p q : ErrorPattern) {j : Nat} (hj : j < 72) :
    patternAt (patternAdd p q) j = patternAt p j ^^^ patternAt q j :=
  (patternAt_filterMap_listedSymbol (fun k => patternAt p k ^^^ patternAt q k) List.nodup_range j).trans
    (if_pos (List.mem_range.mpr hj))

theorem patternAt_data (p : ErrorPattern) (j : Nat) :
    patternAt (p.filter fun e => e.1 < 64) j = if j < 64 then patternAt p j else 0 := by
  induction p with
  | nil => simp
  | cons e p ih =>
    by_cases he : e.1 < 64
    · simp only [List.filter_cons, he, decide_true, ite_true, patternAt_cons, ih]
      by_cases hj : e.1 = j
      · subst hj; simp [he]
      · simp [hj]
    · simp only [List.filter_cons, he, decide_false, Bool.false_eq_true, ite_false, ih, patternAt_cons]
      by_cases hj : e.1 = j
      · subst hj; simp [he]
      · simp [hj]

theorem patternAt_mapIdx (l : List Byte) (n j : Nat) :
    patternAt (l.mapIdx fun m b => (n + m, b)) j = if n ≤ j then l.getD (j - n) 0 else 0 := by
  induction l generalizing n with
  | nil => simp
  | cons b l ih =>
    have hshift : (fun m b => ((n + (m + 1), b) : Nat × Byte)) = fun m b => (n + 1 + m, b) := by
      funext m b; rw [Nat.add_assoc, Nat.add_comm 1 m]
    rw [List.mapIdx_cons, patternAt_cons, hshift, ih]
    rcases Nat.lt_trichotomy n j with h | h | h
    · obtain ⟨k, rfl⟩ := Nat.exists_eq_add_of_lt h
      have h1 : n + k + 1 - n = k + 1 := by omega
      have h2 : n + k + 1 - (n + 1) = k := by omega
      simp [h1, h2, show n + 1 ≤ n + k + 1 by omega, show n ≤ n + k + 1 by omega, show n ≠ n + k + 1 by omega]
    · subst h; simp
    · simp [show ¬n + 1 ≤ j by omega, show ¬n ≤ j by omega, show n ≠ j by omega]

/-! ### Marking (R166, R170) -/

theorem patternAt_complementedChecks {j : Nat} (hj : j < 72) :
    patternAt complementedChecks j = if j < 64 then 0 else 0xFF := by
  revert hj; revert j; decide

theorem checkBytes_zero : checkBytes ((List.range 64).map fun _ => 0) = List.replicate 8 0 := by decide +kernel

/-- Symbol `j` of a marked codeword: the data as it was read, and the complement of that data's check bytes. -/
theorem patternAt_markOf (p : ErrorPattern) {j : Nat} (hj : j < 72) : patternAt (markOf p) j =
    if j < 64 then patternAt p j else (checkBytes ((List.range 64).map (patternAt p))).getD (j - 64) 0 ^^^ 0xFF := by
  have hdata : (List.range 64).map (patternAt (p.filter fun e => e.1 < 64)) = (List.range 64).map (patternAt p) :=
    List.map_congr_left fun k hk => by rw [patternAt_data, if_pos (List.mem_range.mp hk)]
  unfold markOf
  dsimp only
  split
  case isTrue hnil =>
    have hzero : ∀ k, k < 64 → patternAt p k = 0 := fun k hk => by
      have h := patternAt_data p k
      rw [hnil, if_pos hk] at h
      exact h.symm
    have hmap : (List.range 64).map (patternAt p) = (List.range 64).map fun _ => 0 :=
      List.map_congr_left fun k hk => hzero k (List.mem_range.mp hk)
    rw [patternAt_complementedChecks hj, hmap, checkBytes_zero]
    split
    · rw [hzero j ‹_›]
    · rw [List.getD_replicate _ (by omega)]; rfl
  case isFalse =>
    rw [patternAt_patternAdd _ _ hj, patternAt_append, patternAt_data, patternAt_mapIdx, hdata,
      patternAt_complementedChecks hj]
    by_cases h : j < 64
    · simp [h, show ¬64 ≤ j by omega]
    · simp [h, show 64 ≤ j by omega]

@[simp] theorem State.storedPattern_setStored (s : State) (w : Nat) (p : ErrorPattern) :
    (s.setStored w p).storedPattern w = p := by
  have hdefault : markDefault (s.setStored w p).memory w = markDefault s.memory w := rfl
  rw [State.storedPattern, hdefault, State.setStored_memory]
  dsimp only
  split
  case isTrue h => rw [SMap.get, SMap.lookup_dropKeys, if_pos (by simp), Option.getD_none, h]
  case isFalse => exact SMap.get_set_same _ _ _ _

theorem markStored_facts (s : State) (w : Nat) (p : ErrorPattern) :
    (s.markStored w p).memory.cells = s.memory.cells ∧ (s.markStored w p).storedPattern w = markOf p :=
  ⟨rfl, s.storedPattern_setStored w (markOf p)⟩

/-! ### The memory-error event (R168, R493) -/

theorem State.raised_memoryError (s : State) (store loc word : Nat) (syn : List Byte) (r : Requester) :
    (s.memoryError store loc word syn r).raised 0x1201 = s.raised 0x1201 + 1 := by
  unfold State.memoryError
  rw [State.raised_raiseFor _ _ _ _ _ _ _ (by decide)]
  rfl

theorem judge_marked {s : State} {store off : Nat} {p : ErrorPattern} {code : Nat} {r : Requester}
    (h : decodePattern p = .marked) : s.judge store off p code r =
      (.faulty 0x0305, (s.countReg 0x503106 64 1).memoryError store off (off / 64 % 2) (syndromeBytes p) r) := by
  rw [State.judge, h]

/-! ### Reading a marked codeword (R168, R170) -/

/-- What the read of a marked codeword leaves: a fault 0x0305, one more memory-error event, and memory as it was. -/
structure meetsMark (s : State) (a : WordRead × State) : Prop where
  fault : a.1 = .faulty 0x0305
  memory : a.2.memory = s.memory
  raised : a.2.raised 0x1201 = s.raised 0x1201 + 1

theorem meetsMark_judge {s : State} {store off : Nat} {p : ErrorPattern} {code : Nat} {r : Requester}
    (h : decodePattern p = .marked) : meetsMark s (s.judge store off p code r) := by
  rw [judge_marked h]
  exact ⟨rfl, by simp, State.raised_memoryError _ _ _ _ _ _⟩

/-- The place of the codeword that a place lies in. -/
def Place.codeword : Place → Place
  | .hbm t o => .hbm t (64 * (o / 64))
  | .scratch t x => .scratch t (64 * (x / 64))
  | .cluster c a => .cluster c (64 * (a / 64))
  | .mailbox g a => .mailbox g (64 * (a / 64))
  | .reserved => .reserved

theorem placeOf_codeword (off : Nat) : placeOf (64 * (off / 64)) = (placeOf off).codeword := by
  -- Every region begins and ends at a whole codeword.
  have hlt : ∀ b, b % 64 = 0 → (64 * (off / 64) < b ↔ off < b) := fun b hb => by omega
  have hle : ∀ b, b % 64 = 0 → (b ≤ 64 * (off / 64) ↔ b ≤ off) := fun b hb => by omega
  simp only [placeOf, hlt, hle, Nat.reduceMod, Nat.reduceMul, Nat.reduceAdd]
  repeat' split
  · exact congrArg₂ Place.hbm (by omega) (by omega)
  · rfl
  · exact congrArg₂ Place.scratch (by omega) (by omega)
  · rfl
  · exact congrArg₂ Place.cluster (by omega) (by omega)
  next h =>
    obtain ⟨hlo, -⟩ := Bool.and_eq_true_iff.mp h
    have hlo := of_decide_eq_true hlo
    exact congrArg₂ Place.mailbox (by omega) (by omega)
  · rfl

theorem lineOf_codeword (o : Nat) : lineOf (64 * (o / 64)) = lineOf o := by unfold lineOf; omega

theorem readWord_marked {s : State} {off : Nat} {r : Requester}
    (hm : decodePattern (s.patternOf (off / 64)) = .marked)
    (hs : ∀ t o, placeOf off = .hbm t o → (s.residentLine t (lineOf o)).isSome = true ∨ s.stackServes t (off / 64) = true)
    (hb : ∀ g a, placeOf off ≠ .mailbox g a) (hr : placeOf off ≠ .reserved) :
    meetsMark s (s.readWord (64 * (off / 64)) r) := by
  have hw : 64 * (off / 64) / 64 = off / 64 := Nat.mul_div_cancel_left _ (by decide)
  unfold State.patternOf at hm
  unfold State.readWord
  rw [placeOf_codeword] at hm ⊢
  rw [hw]
  cases hp : placeOf off with
  | hbm t o =>
    have hserves := hs t o hp
    simp only [hp, Place.codeword, lineOf_codeword] at hm ⊢
    unfold State.readHbmWord
    cases hl : s.residentLine t (lineOf o) with
    | some e =>
      obtain ⟨k, way, dirty⟩ := e
      rw [hl] at hm
      simp only [Option.isSome_some, ite_true] at hm
      simp only [hm]
      exact meetsMark_judge hm
    | none =>
      rw [hl] at hm hserves
      simp only [Option.isSome_none, Bool.false_eq_true, ite_false, false_or] at hm hserves
      simp only [hserves, Bool.not_true, Bool.false_eq_true, ite_false]
      exact meetsMark_judge hm
  | scratch t x => simp only [hp, Place.codeword] at hm ⊢; exact meetsMark_judge hm
  | cluster c a => simp only [hp, Place.codeword] at hm ⊢; exact meetsMark_judge hm
  | mailbox g a => exact absurd hp (hb g a)
  | reserved => exact absurd hp hr

theorem wordsOf_within {off n : Nat} (hn : 0 < n) (h : (off + n - 1) / 64 = off / 64) :
    wordsOf off n = [64 * (off / 64)] := by
  rw [wordsOf, if_neg (by omega), h, Nat.sub_self]
  rfl

theorem placeOf_ne_reserved {s : State} {off n : Nat} (h : s.extentPopulated off n = true) : placeOf off ≠ .reserved := by
  intro hp
  simp [State.extentPopulated, State.populated, hp] at h

theorem loadRange_marked {s : State} {off n : Nat} {r : Requester} (hn : 0 < n) (hw : (off + n - 1) / 64 = off / 64)
    (he : s.extentPopulated off n = true) (hr : meetsMark s (s.readWord (64 * (off / 64)) r)) :
    ∃ t, s.loadRange off n r = (.error 0x0305, t) ∧ t.memory = s.memory ∧ t.raised 0x1201 = s.raised 0x1201 + 1 := by
  obtain ⟨hfault, hmem, hraised⟩ := hr
  generalize hread : s.readWord (64 * (off / 64)) r = a at *
  obtain ⟨f, t⟩ := a
  obtain rfl : f = .faulty 0x0305 := hfault
  refine ⟨t, ?_, hmem, hraised⟩
  rw [State.loadRange, if_neg (by omega), he, wordsOf_within hn hw]
  simp [State.loadWords, hread]

/-- Settles O59: marking a codeword rewrites its check bytes alone, symbol by symbol, and each store's read of a codeword
that decodes as marked ends in the same verdict. -/
theorem markedCodewordsFault : Obligations.MarkedCodewordsFault := by
  unfold Obligations.MarkedCodewordsFault
  refine ⟨markStored_facts, ?_, ?_, ?_, by decide +kernel, ?_⟩
  · intro p j hj
    rw [patternAt_markOf p (by omega), if_pos hj]
  · intro p m hm
    rw [patternAt_markOf p (by omega), if_neg (by omega), Nat.add_sub_cancel_left]
  · exact fun j hj => patternAt_complementedChecks hj
  · intro s off n r hn hw he hm hs hb _
    exact loadRange_marked hn hw he (readWord_marked hm hs hb (placeOf_ne_reserved he))

end Sys2Proof.Machine

/-! PROOF. O25 fails: the clause for a write over a memory without errors does not ask that the byte map keeps its cells in
order (`memoryCanonical`), and a byte 0 written into a map out of order does not take the place of the cell that holds the
old byte. -/

namespace Sys2Proof.Machine

theorem homeSliceAccess_performed {s : State} {a : Access} {x o : Nat}
    (he : s.extentPopulated a.offset (max 1 a.len) = true)
    (hp : placeOf a.offset = .scratch x o ∨ placeOf a.offset = .hbm x o) (hx : s.towerServes x = true)
    (hc : s.stallsForPartition a.offset a.len = false) : exec (.homeSliceAccess a) s = .next (s.performAccess a) := by
  change execHomeSliceAccess a s = _
  unfold execHomeSliceAccess
  rcases hp with hp | hp <;> simp [he, hp, hx, hc]

/-- A clean memory whose two cells stand in falling order of their addresses, in the first line of tower 0's HBM3. -/
def lineOutOfOrder : State := { memory := { cells := ⟨[(0x81, 5), (0x80, 7)]⟩ } }

/-- A write of the one byte 0 at 0x80. -/
def writeZero : Access :=
  { offset := 0x80, len := 1, write := some [0], requester := none, management := false, upset := [], tagUpset := [], parityFails := 0 }

theorem memoryClean_lineOutOfOrder : memoryClean lineOutOfOrder := ⟨rfl, rfl, rfl, fun _ => ⟨rfl, rfl⟩⟩

/-- The old byte is still what a read of 0x80 finds. -/
theorem read_performAccess_lineOutOfOrder :
    (lineOutOfOrder.performAccess writeZero).memory.cells.read 0x80 = 7 := by decide +kernel

/-- Refutes O25: the third clause says that a write over a memory without errors stores what was written. With the cells of
two addresses out of order in the byte map, the byte 0 written at the second is dropped, and the old 7 stays. -/
theorem not_storesServe : ¬ Obligations.StoresServe := by
  unfold Obligations.StoresServe
  rintro ⟨-, -, hwrites, -⟩
  have he : lineOutOfOrder.extentPopulated writeZero.offset (max 1 writeZero.len) = true := by decide +kernel
  have hp : placeOf writeZero.offset = .hbm 0 0x80 := by decide
  have hx : lineOutOfOrder.towerServes 0 = true := by decide
  have hc : lineOutOfOrder.stallsForPartition writeZero.offset writeZero.len = false := by decide
  obtain ⟨t, ht, hread, -⟩ := hwrites lineOutOfOrder writeZero 0 0x80 [0] memoryClean_lineOutOfOrder he (.inr hp) hx hc
    rfl rfl (by decide) rfl rfl (by decide)
  rw [homeSliceAccess_performed he (.inr hp) hx hc] at ht
  obtain rfl := Host.Outcome.next.inj ht
  have hzero := hread 0 (by decide)
  rw [show writeZero.offset + 0 = 0x80 from rfl, read_performAccess_lineOutOfOrder] at hzero
  exact absurd hzero (by decide)

end Sys2Proof.Machine

/-! PROOF. O46: every command keeps the byte map in its canonical form. Each of its operations on State keeps that form
(Laws/Canonical.lean) or leaves memory as it is (the frames of Laws/); what is left is to follow a command's branches, and
to hand the form on through the reads and stores whose result a command looks at. -/

namespace Sys2Proof.Machine

/-! ### Outcomes that keep the canonical form -/

/-- The state that an outcome goes on with, if it does, has its memory in canonical form. -/
def keepsCanonical (o : Result) : Prop := ∀ t, o = .next t → memoryCanonical t

@[simp] theorem keepsCanonical_next (t : State) : keepsCanonical (.next t) ↔ t.memory.cells.wf = true := by
  simp [keepsCanonical]

theorem keepsCanonical.next {t : State} (h : t.memory.cells.wf = true) : keepsCanonical (.next t) :=
  (keepsCanonical_next t).mpr h

theorem keepsCanonical.ite {c : Prop} [Decidable c] {a b : Result} (ha : keepsCanonical a) (hb : keepsCanonical b) :
    keepsCanonical (if c then a else b) := by
  split <;> assumption

/-- The state that stands second in a result that has been taken apart. -/
theorem canonical_snd {α : Type} {p : α × State} {a : α} {t : State} (e : p = (a, t)) (h : p.2.memory.cells.wf = true) :
    t.memory.cells.wf = true := by
  subst e; exact h

/-- The state that stands third in a result that has been taken apart. -/
theorem canonical_third {α β : Type} {p : α × β × State} {a : α} {b : β} {t : State} (e : p = (a, b, t))
    (h : p.2.2.memory.cells.wf = true) : t.memory.cells.wf = true := by
  subst e; exact h

section
variable {s : State} (h : s.memory.cells.wf = true)
include h

/-! ### Commands that hand their work to a rule of their chapter (R124, R413) -/

theorem keepsCanonical_atEntry {c kind : Nat} {act : Nat → TimetableRun → BitVec 256 → State}
    (hact : ∀ x r e, (act x r e).memory.cells.wf = true) : keepsCanonical (s.atEntry c kind act) := by
  unfold State.atEntry
  split
  · exact .next h
  next x r e _ =>
    split
    · exact .next (by simp [h])
    · split
      · exact .next h
      · exact .next (hact x r e)

theorem canonical_request {type : Nat} {t : Transaction} {chunk : Option Nat} {fresh : Bool} {act : State → State}
    (hact : ∀ u : State, u.memory.cells.wf = true → (act u).memory.cells.wf = true) :
    (s.request type t chunk fresh act).memory.cells.wf = true := by
  have harrive : (s.arrive t).memory.cells.wf = true := by simp [h]
  simp only [State.request]
  split
  · exact h
  · split
    · simp [h]
    · split
      · simp [h]
      · split
        · exact harrive
        · split
          · simp [h]
          · exact hact _ harrive

/-! ### Entries of a timetable (R124) -/

theorem keepsCanonical_execEntryNop (c : Nat) : keepsCanonical (execEntryNop c s) :=
  keepsCanonical_atEntry h fun _ _ _ => by simp [h]

theorem keepsCanonical_execIssue (c : Nat) (reading : ClockedOp) : keepsCanonical (execIssue c reading s) :=
  keepsCanonical_atEntry h fun _ _ _ => by
    dsimp only
    repeat' split
    all_goals simp [h]

theorem keepsCanonical_execWaitTally (c : Nat) : keepsCanonical (execWaitTally c s) :=
  keepsCanonical_atEntry h fun _ _ _ => by
    dsimp only
    split <;> simp [h]

theorem keepsCanonical_execWaitEngines (c : Nat) : keepsCanonical (execWaitEngines c s) :=
  keepsCanonical_atEntry h fun _ _ _ => by split <;> simp [h]

theorem keepsCanonical_execInc (c : Nat) : keepsCanonical (execInc c s) :=
  keepsCanonical_atEntry h fun x _ e => by
    have hinc := State.increment_wf s x c noEngine (BitVec.ofNat 24 (bitsOf (entryPayload e).toNat 23 0))
      (bitsOf (entryPayload e).toNat 31 24) h
    dsimp only
    repeat' split
    · exact hinc
    · simp [hinc]
    · simp [h]

theorem keepsCanonical_execLoop (c : Nat) : keepsCanonical (execLoop c s) :=
  keepsCanonical_atEntry h fun _ _ _ => by
    dsimp only
    repeat' split
    all_goals simp [h]

theorem keepsCanonical_execMark (c : Nat) : keepsCanonical (execMark c s) :=
  keepsCanonical_atEntry h fun _ _ _ => by split <;> simp [h]

theorem keepsCanonical_execEndOp (c : Nat) : keepsCanonical (execEndOp c s) :=
  keepsCanonical_atEntry h fun _ _ _ => by
    dsimp only
    repeat' split
    all_goals simp [h]

/-! ### Engines (R51 to R66) -/

theorem keepsCanonical_execMma (c : Nat) (span : MmaSpan) (ns portWait : Nat) :
    keepsCanonical (execMma c span ns portWait s) := by
  simp only [execMma]
  split
  next x m _ _ =>
    split
    · exact .next h
    · split
      next e => exact .next (by simp [canonical_third e (State.runSteps_wf _ _ _ _ _ _ _ (by simp [h]))])
      next e =>
        have hsteps := canonical_third e (State.runSteps_wf _ _ _ _ _ _ _ (by simp [h]))
        split <;>
          next e => exact .next (by simp [canonical_snd e (State.streamRows_wf _ _ _ _ _ _ _ hsteps)])
  · exact .next h

theorem keepsCanonical_execDrain (c : Nat) : keepsCanonical (execDrain c s) := by
  simp only [execDrain]
  split
  · split
    · exact .next h
    · split <;>
        next e => exact .next (by simp [canonical_snd e (State.writeElems_wf _ _ _ _ _ _ _ _ h)])
  · exact .next h

omit h in
theorem State.veOperand_wf (s : State) (c : Nat) (op : VeOp) (i : Nat) (o : VeOperand) (r : Requester)
    (hwf : s.memory.cells.wf = true) : (s.veOperand c op i o r).2.memory.cells.wf = true := by
  unfold State.veOperand
  split
  · exact State.veLanes_wf _ _ _ _ _ _ hwf
  · exact hwf

theorem keepsCanonical_execVeOp (c : Nat) : keepsCanonical (execVeOp c s) := by
  simp only [execVeOp]
  split
  next x m _ _ =>
    split
    next op _ =>
      split
      · exact .next h
      · split
        next e => exact .next (by simp [canonical_snd e (State.veOperand_wf _ _ op 1 _ _ h)])
        next e =>
          have ha := canonical_snd e (State.veOperand_wf _ _ op 1 _ _ h)
          split
          next e => exact .next (by simp [canonical_snd e (State.veOperand_wf _ _ op 2 _ _ ha)])
          next e =>
            have hb := canonical_snd e (State.veOperand_wf _ _ op 2 _ _ ha)
            split
            next e => exact .next (by simp [canonical_snd e (State.veOperand_wf _ _ op 3 _ _ hb)])
            next e =>
              have hc := canonical_snd e (State.veOperand_wf _ _ op 3 _ _ hb)
              split
              · exact .next (by simp [hc])
              · exact .next (by simp [hc])
    · exact .next h
  · exact .next h

theorem keepsCanonical_execAeOp (c : Nat) : keepsCanonical (execAeOp c s) := by
  simp only [execAeOp]
  split
  · split
    · split
      · exact .next h
      · split <;>
          next e => exact .next (by simp [canonical_snd e (State.fetch_wf _ _ _ _ _ h)])
    · exact .next h
  · exact .next h

theorem keepsCanonical_execXeOp (c : Nat) : keepsCanonical (execXeOp c s) := by
  simp only [execXeOp]
  split
  · split
    · split
      · exact .next h
      · split <;>
          next e => exact .next (by simp [canonical_snd e (State.fetch_wf _ _ _ _ _ h)])
    · exact .next h
  · exact .next h

theorem keepsCanonical_execQeOp (c : Nat) : keepsCanonical (execQeOp c s) := by
  simp only [execQeOp]
  split
  · split
    · split
      · exact .next h
      · split
        next e => exact .next (by simp [canonical_snd e (State.fetch_wf _ _ _ _ _ h)])
        next e =>
          have hdata := canonical_snd e (State.fetch_wf _ _ _ _ _ h)
          split
          next e => exact .next (by simp [canonical_snd e (State.fetch_wf _ _ _ _ _ hdata)])
          next e =>
            have hscales := canonical_snd e (State.fetch_wf _ _ _ _ _ hdata)
            split <;>
              next e => exact .next (by simp [canonical_snd e (State.writeElems_wf _ _ _ _ _ _ _ _ hscales)])
    · exact .next h
  · exact .next h

theorem keepsCanonical_execGeOp (c indices : Nat) : keepsCanonical (execGeOp c indices s) := by
  simp only [execGeOp]
  split
  · split
    · split
      next e =>
        have hindices := canonical_third e (State.geIndices_wf _ _ _ _ _ _ _ h)
        split <;> exact .next (by simp [hindices])
      next e => exact .next (by simp [canonical_third e (State.geIndices_wf _ _ _ _ _ _ _ h)])
    · exact .next h
  · exact .next h

theorem keepsCanonical_execCeCopy (c place bytes : Nat) : keepsCanonical (execCeCopy c place bytes s) := by
  simp only [execCeCopy]
  split
  · split
    · split
      · exact .next h
      · split
        · exact .next h
        · split
          next e =>
            split
            · exact .next h
            · exact .next (by simp [canonical_snd e (State.engineLoad_wf _ _ _ _ _ _ _ h)])
          next e => exact .next (by simp [canonical_snd e (State.engineLoad_wf _ _ _ _ _ _ _ h)])
          next e =>
            have hread := canonical_snd e (State.engineLoad_wf _ _ _ _ _ _ _ h)
            split
            next e =>
              split
              · exact .next h
              · exact .next (by simp [canonical_snd e (State.copyOut_wf _ _ _ _ _ _ _ hread)])
            next e => exact .next (by simp [canonical_snd e (State.copyOut_wf _ _ _ _ _ _ _ hread)])
    · exact .next h
  · exact .next h

/-! ### Commands of a ring (R118, R120, R122) -/

theorem keepsCanonical_execDescriptorFetch (x : Nat) : keepsCanonical (execDescriptorFetch x s) := by
  simp only [execDescriptorFetch]
  split
  · exact .next h
  · split <;>
      next e => exact .next (by simp [canonical_snd e (State.loadRange_wf _ _ _ _ h)])

theorem keepsCanonical_execRun (x c : Nat) : keepsCanonical (execRun x c s) := by
  simp only [execRun]
  split
  · exact .next h
  · split
    · exact .next h
    · split
      next e => exact .next (by simp [canonical_snd e (State.loadRange_wf _ _ _ _ h)])
      next e =>
        have hheader := canonical_snd e (State.loadRange_wf _ _ _ _ h)
        split
        · exact .next (by simp [hheader])
        · split
          · exact .next h
          · split
            next e => exact .next (by simp [canonical_snd e (State.bundleEnds_wf _ _ _ _ _ hheader)])
            next e => exact .next (by simp [canonical_snd e (State.bundleEnds_wf _ _ _ _ _ hheader)])
            next e =>
              have hends := canonical_snd e (State.bundleEnds_wf _ _ _ _ _ hheader)
              split <;>
                next e => exact .next (by simp [canonical_snd e (State.loadRange_wf _ _ _ _ hends)])

theorem keepsCanonical_execCbLoad (x c : Nat) : keepsCanonical (execCbLoad x c s) := by
  simp only [execCbLoad]
  split
  · exact .next h
  · split
    · exact .next h
    · split <;>
        next e => exact .next (by simp [canonical_snd e (State.tableBytes_wf _ _ _ _ _ h)])

theorem keepsCanonical_execCurveLoad (x c : Nat) : keepsCanonical (execCurveLoad x c s) := by
  simp only [execCurveLoad]
  split
  · exact .next h
  · split
    · exact .next h
    · split
      · exact .next (by simp [h])
      · split
        next e => exact .next (by simp [canonical_snd e (State.tableBytes_wf _ _ _ _ _ h)])
        next e =>
          have htable := canonical_snd e (State.tableBytes_wf _ _ _ _ _ h)
          split <;> exact .next (by simp [htable])

theorem keepsCanonical_execSend (x c edge : Nat) : keepsCanonical (execSend x c edge s) := by
  simp only [execSend]
  split
  · exact .next h
  · split
    · exact .next (by simp [h])
    · split
      · exact .next h
      · split
        · split <;>
            next e => exact .next (by simp [canonical_snd e (State.tableBytes_wf _ _ _ _ _ h)])
        · split
          next e =>
            split
            · exact .next h
            · exact .next (by simp [canonical_snd e (State.issueRequest_wf _ _ _ _ h)])
          next e => exact .next (by simp [canonical_snd e (State.issueRequest_wf _ _ _ _ h)])
          next e => exact .next (by simp [canonical_snd e (State.issueRequest_wf _ _ _ _ h)])

/-! ### Contexts (R139 to R145) -/

theorem keepsCanonical_execCloseComplete (x : Nat) : keepsCanonical (execCloseComplete x s) := by
  have hzero : ∀ l : List Nat, (l.foldl (fun s c => s.zeroCluster c) s).memory.cells.wf = true := fun l =>
    foldl_wf h fun s c hs => State.zeroCluster_wf s c hs
  simp only [execCloseComplete]
  split
  · exact .next h
  · exact .next (by simp [hzero])

theorem keepsCanonical_execSaveStart (x : Nat) : keepsCanonical (execSaveStart x s) := by
  simp only [execSaveStart]
  split
  · exact .next h
  · refine .next (foldl_wf ?_ fun s c hs => State.writeImage_wf s x c hs)
    split <;> simp [h]

theorem keepsCanonical_execRestoreComplete (x : Nat) : keepsCanonical (execRestoreComplete x s) := by
  have hgo : (s.goOn (s.ctx x).cls).memory = s.memory := by rw [goOn_only]
  unfold State.goOn at hgo
  simp only [execRestoreComplete]
  split
  · exact .next h
  · refine .next ?_
    simp only [State.closeIfPending_kept, State.boundaryEffects_kept, State.freeCredits_kept]
    refine State.applyHeldFor_wf _ _ ?_
    split <;> simp [hgo, h]

theorem keepsCanonical_execLoaderApply : keepsCanonical (execLoaderApply s) := by
  simp only [execLoaderApply]
  split
  · exact .next h
  next x kind n d _ =>
    have hcores : ((s.ctx x).cls.foldl (fun s c => s.modCore c fun q => loadInto q kind n d) s).memory = s.memory :=
      foldl_memory fun _ _ => rfl
    have himages : ((s.ctx x).cls.foldl (fun s c => { s with memory := { s.memory with
        cores := s.memory.cores.modify {} (s.imageOf x c) fun q => loadInto q kind n d } }) s).memory.cells.wf = true :=
      foldl_wf h fun _ _ hs => hs
    split
    · exact .next (by simp [h])
    · split
      · split
        · exact .next (by simp [hcores, h])
        · exact .next h
      · split
        · exact .next (by simpa using himages)
        · exact .next h

/-! ### Requests on the mesh and in the domain (R71, R281, R283) -/

theorem keepsCanonical_execMeshRequest (r : MeshRequest) : keepsCanonical (execMeshRequest r s) := by
  simp only [execMeshRequest]
  split
  next e =>
    have hmesh := canonical_snd e (State.meshAccess_wf _ _ _ _ _ h)
    split <;> exact .next (by simp [hmesh])
  next e => exact .next (by simp [canonical_snd e (State.meshAccess_wf _ _ _ _ _ h)])

theorem keepsCanonical_execDomainRequestIssue (x c : Nat) (r : Req) : keepsCanonical (execDomainRequestIssue x c r s) := by
  simp only [execDomainRequestIssue]
  split
  · exact .next h
  · split
    · split
      next e =>
        split
        · exact .next h
        · exact .next (by simp [canonical_snd e (State.issueMulticast_wf _ _ _ _ h)])
      next e => exact .next (by simp [canonical_snd e (State.issueMulticast_wf _ _ _ _ h)])
    · split
      · exact .next h
      · split
        next e =>
          split
          · exact .next h
          · exact .next (by simp [canonical_snd e (State.issueRequest_wf _ _ _ _ h)])
        next e => exact .next (by simp [canonical_snd e (State.issueRequest_wf _ _ _ _ h)])
        next e => exact .next (by simp [canonical_snd e (State.issueRequest_wf _ _ _ _ h)])

theorem keepsCanonical_execDmcWrite (edge : Nat) : keepsCanonical (execDmcWrite edge s) := by
  simp only [execDmcWrite]
  split
  · exact .next h
  · refine .next (foldl_wf (by simp [h]) fun s t hs => ?_)
    split
    · simp [hs]
    · split <;>
        next e => simp [canonical_snd e (by simp [hs])]

theorem keepsCanonical_execLineQueueApply (line : Nat) : keepsCanonical (execLineQueueApply line s) := by
  simp only [execLineQueueApply]
  split
  · exact .next h
  next e rest _ =>
    have hentry := State.applyEntry_wf s line e.parts h
    split
    · exact .next h
    · have hanswers : ∀ (l : List (Req × Answer)) (u : State), u.memory.cells.wf = true →
          (l.foldl (fun s a => s.finishHome a.1 a.2) u).memory.cells.wf = true := fun l u hu =>
        foldl_wf hu fun s a hs => State.finishHome_wf s a.1 a.2 hs
      exact .next (by simp [hanswers, hentry])

theorem keepsCanonical_execRequestResend (port : Nat) : keepsCanonical (execRequestResend port s) := by
  simp only [execRequestResend]
  split
  · exact .next h
  · refine .next (foldl_wf (by simp [h]) fun u o hu => ?_)
    repeat' split
    all_goals simp [hu]

theorem keepsCanonical_execHello (port : Nat) (hello : Hello) : keepsCanonical (execHello port hello s) := by
  simp only [execHello]
  repeat' split
  all_goals simp [h]

/-! ### Memory commands (R154 to R172) -/

omit h in
theorem State.scrubWord_wf (s : State) (store w : Nat) (p : ErrorPattern) {fix put : State → ErrorPattern → State}
    (hfix : ∀ (u : State) q, u.memory.cells.wf = true → (fix u q).memory.cells.wf = true)
    (hput : ∀ (u : State) q, u.memory.cells.wf = true → (put u q).memory.cells.wf = true)
    (hwf : s.memory.cells.wf = true) : (s.scrubWord store w p fix put).memory.cells.wf = true := by
  unfold State.scrubWord
  split
  · exact hwf
  · exact hwf
  · exact hfix _ _ (by simp [hwf])
  · simp [hput, hwf]

theorem keepsCanonical_execHbmScrub (store : Store) (word : Nat) (upset : ErrorPattern) (passEnds : Bool) :
    keepsCanonical (execHbmScrub store word upset passEnds s) := by
  unfold execHbmScrub
  extract_lets put fix disturbed stored t slice scrubbed
  have hfix : ∀ (b : Bool) (u : State) (q : ErrorPattern), u.memory.cells.wf = true →
      (u.correctStored word q b).memory.cells.wf = true := fun b u q hu => State.correctStored_wf u word q b hu
  have hput : ∀ (u : State) (q : ErrorPattern), u.memory.cells.wf = true → (put u q).memory.cells.wf = true :=
    fun u q hu => State.setStored_wf u word q hu
  have hdisturb := State.disturb_wf s word upset h
  have hscrubbed : scrubbed.memory.cells.wf = true := by
    dsimp only [scrubbed]
    split
    · exact ite_wf _ _ (State.scrubWord_wf _ _ _ _ (hfix false) hput hdisturb) h
    · exact ite_wf _ _ (State.scrubWord_wf _ _ _ _ (hfix false) hput hdisturb) h
    · exact ite_wf _ _ (State.scrubResident_wf _ _ _ _ hdisturb) h
    · exact ite_wf _ _ h (State.scrubWord_wf _ _ _ _ (hfix _) hput (State.setStored_wf _ _ _ h))
    · exact ite_wf _ _ (State.tagsLost_wf _ _ _ _ _ h) h
    · exact h
  refine .next ?_
  split <;> simp [hscrubbed]

theorem keepsCanonical_execPartitionChangeEnd (t : Nat) : keepsCanonical (execPartitionChangeEnd t s) := by
  simp only [execPartitionChangeEnd]
  split
  · exact .next h
  · split
    · exact .next h
    · refine .next (State.performStalled_wf _ _ ?_)
      have hwiped := fun a n => State.wipeRange_wf _ a n (State.invalidateTags_wf _ t (State.writeBackAll_wf s t h))
      repeat' split
      all_goals simp [hwiped]

/-! ### Dies, clocks and scans (R340, R391, R467) -/

theorem keepsCanonical_execKdReady (t : Nat) : keepsCanonical (execKdReady t s) := by
  unfold execKdReady
  extract_lets d s1 s2 k s3 s4 s5
  split
  · exact .next h
  · have hmarked : s1.memory.cells.wf = true := by dsimp only [s1]; split <;> simp [h]
    have hready : s3.memory.cells.wf = true := by simp [s3, s2, hmarked]
    have hheld : s4.memory.cells.wf = true := State.applyHeld_wf _ _ hready
    have hstalled : s5.memory.cells.wf = true := by dsimp only [s5]; split <;> simp [hheld]
    exact .next (by simp [hstalled])

theorem keepsCanonical_execCoreSupplyRead (t millivolt : Nat) : keepsCanonical (execCoreSupplyRead t millivolt s) :=
  .next (foldl_wf h fun _ _ hs => by simp [hs])

theorem keepsCanonical_rateWindowEnd : keepsCanonical (exec .rateWindowEnd s) := by
  by_cases hdue : s.now % 1000000 = 0
  · rw [rateWindowEnd_next hdue]
    obtain ⟨k, n, hends⟩ := s.windowsEnd_only 800
    obtain ⟨r, b, hrates⟩ := (s.windowsEnd 800).refreshRates_only
    rw [hrates, hends]
    exact .next h
  · have hidle : exec .rateWindowEnd s = .next s := by
      change execRateWindowEnd s = _
      rw [execRateWindowEnd, if_pos hdue]
    rw [hidle]
    exact .next h

theorem keepsCanonical_execScanExit (die : Nat) : keepsCanonical (execScanExit die s) := by
  simp only [execScanExit]
  split
  · exact .next h
  · exact .next (foldl_wf h fun s z hs => State.openCrossing_wf _ z (by simp [hs]))

theorem keepsCanonical_execBackFacetSample (samples : List (BitVec 32 × Nat)) :
    keepsCanonical (execBackFacetSample samples s) := by
  refine .next (foldl_wf h fun u i hu => ?_)
  split <;> simp [hu]

/-! ### Collectives (R220) -/

theorem keepsCanonical_execCollectiveJoin (ttPtr : Nat) : keepsCanonical (execCollectiveJoin ttPtr s) := by
  simp only [execCollectiveJoin]
  split
  · exact .next h
  · split
    · exact .next h
    · split
      · exact .next h
      · split
        next e => exact .next (by simp [canonical_snd e (State.readProgram_wf _ _ _ h)])
        next e =>
          have hprogram := canonical_snd e (State.readProgram_wf _ _ _ h)
          split
          · exact .next (by simp [hprogram])
          · split <;> exact .next (by simp [hprogram])

/-! ### Transactions (R412) -/

theorem keepsCanonical_execOdRead (t : Transaction) : keepsCanonical (execOdRead t s) :=
  .next (canonical_request h fun u hu => State.perform_wf u 1 t [] none hu)

theorem keepsCanonical_execOdWrite (t : Transaction) : keepsCanonical (execOdWrite t s) :=
  .next (canonical_request h fun u hu => by split <;> simp [hu])

theorem keepsCanonical_execBlockRead (t : Transaction) : keepsCanonical (execBlockRead t s) :=
  .next (canonical_request h fun u hu => State.perform_wf u 4 t [] none hu)

theorem keepsCanonical_execDoorbell (t : Transaction) : keepsCanonical (execDoorbell t s) :=
  .next (canonical_request h fun u hu => by repeat' split <;> simp [hu])

theorem keepsCanonical_execBlockWrite (t : Transaction) : keepsCanonical (execBlockWrite t s) :=
  .next (canonical_request h fun u hu => State.takeChunk_wf u t hu)

/-! ### Commands that look at no result of a read or a store

Each branch of these ends in operations that have a law of their own, and those laws close it. They stand in the order of
the model's files. -/

/-! #### Engines (R43 to R66) -/

theorem keepsCanonical_execEngineOpStart (c : Nat) (e : Engine) (drainQueue : Bool) :
    keepsCanonical (execEngineOpStart c e drainQueue s) := by
  simp only [execEngineOpStart]
  repeat' split
  all_goals simp [h]

theorem keepsCanonical_execMmaComplete (tail : ClusterSpan) : keepsCanonical (execMmaComplete tail s) := by
  simp only [execMmaComplete]
  repeat' split
  all_goals simp [h]

theorem keepsCanonical_execDrainComplete (c : Nat) : keepsCanonical (execDrainComplete c s) := by
  simp only [execDrainComplete]
  repeat' split
  all_goals simp [h]

theorem keepsCanonical_execEngineOpComplete (c : Nat) (e : Engine) (place : Nat) (took : EngineSpan) :
    keepsCanonical (execEngineOpComplete c e place took s) := by
  simp only [execEngineOpComplete]
  repeat' split
  all_goals simp [h]

theorem keepsCanonical_execEngineSuspend (c : Nat) (e : Engine) : keepsCanonical (execEngineSuspend c e s) := by
  simp only [execEngineSuspend]
  repeat' split
  all_goals simp [h]

theorem keepsCanonical_execMeProgressRecord (c : Nat) : keepsCanonical (execMeProgressRecord c s) := by
  simp only [execMeProgressRecord]
  repeat' split
  all_goals simp [h]

/-! #### Command rings and commands (R116 to R133) -/

theorem keepsCanonical_execCommandStart (x c : Nat) : keepsCanonical (execCommandStart x c s) := by
  simp only [execCommandStart]
  repeat' split
  all_goals simp [h]

theorem keepsCanonical_execNop (x c : Nat) : keepsCanonical (execNop x c s) := by
  simp only [execNop]
  repeat' split
  all_goals simp [h]

theorem keepsCanonical_execCopy (x c : Nat) : keepsCanonical (execCopy x c s) := by
  simp only [execCopy]
  repeat' split
  all_goals simp [h]

theorem keepsCanonical_execTallySet (x c : Nat) : keepsCanonical (execTallySet x c s) := by
  simp only [execTallySet]
  repeat' split
  all_goals simp [h]

theorem keepsCanonical_execFence (x c : Nat) : keepsCanonical (execFence x c s) := by
  simp only [execFence]
  repeat' split
  all_goals simp [h]

theorem keepsCanonical_execYield (x c : Nat) : keepsCanonical (execYield x c s) := by
  simp only [execYield]
  repeat' split
  all_goals simp [h]

theorem keepsCanonical_execMemberPartComplete (x c : Nat) : keepsCanonical (execMemberPartComplete x c s) := by
  simp only [execMemberPartComplete]
  repeat' split
  all_goals simp [h]

/-! #### Contexts and the scheduler (R110 to R146) -/

theorem keepsCanonical_execIdlePark (x : Nat) : keepsCanonical (execIdlePark x s) := by
  simp only [execIdlePark]
  repeat' split
  all_goals simp [h]

theorem keepsCanonical_execSaveComplete (x : Nat) : keepsCanonical (execSaveComplete x s) := by
  simp only [execSaveComplete]
  repeat' split
  all_goals simp [h]

theorem keepsCanonical_execInboundRequest (r : Req) : keepsCanonical (execInboundRequest r s) := by
  simp only [execInboundRequest]
  repeat' split
  all_goals simp [h]

theorem keepsCanonical_execTallyIncrement (c tally amount : Nat) : keepsCanonical (execTallyIncrement c tally amount s) := by
  simp only [execTallyIncrement]
  repeat' split
  all_goals simp [h]

/-! #### The rig network (R177 to R210) -/

theorem keepsCanonical_execPacketAdmit (src position lane : Nat) : keepsCanonical (execPacketAdmit src position lane s) := by
  simp only [execPacketAdmit]
  repeat' split
  all_goals simp [h]

theorem keepsCanonical_execPacketDelivery (src dst vc : Nat) (noise : List SymbolError) :
    keepsCanonical (execPacketDelivery src dst vc noise s) := by
  simp only [execPacketDelivery]
  repeat' split
  all_goals simp [h]

theorem keepsCanonical_execFlitUncorrectable (path : Path) (cause : FlitFailure) :
    keepsCanonical (execFlitUncorrectable path cause s) := by
  simp only [execFlitUncorrectable]
  repeat' split
  all_goals simp [h]

theorem keepsCanonical_execLinkControlFlit (via : LinkVia) (f : LinkFlit) :
    keepsCanonical (execLinkControlFlit via f s) := by
  simp only [execLinkControlFlit]
  repeat' split
  all_goals simp [h]

theorem keepsCanonical_execLaneTraining (slot lane : Nat) : keepsCanonical (execLaneTraining slot lane s) := by
  simp only [execLaneTraining]
  repeat' split
  all_goals simp [h]

theorem keepsCanonical_execBulkWrite (site : Nat) : keepsCanonical (execBulkWrite site s) := by
  simp only [execBulkWrite]
  repeat' split
  all_goals simp [h]

theorem keepsCanonical_execMcWrite (site : Nat) : keepsCanonical (execMcWrite site s) := by
  simp only [execMcWrite]
  repeat' split
  all_goals simp [h]

theorem keepsCanonical_execMcReserve (site : Nat) : keepsCanonical (execMcReserve site s) := by
  simp only [execMcReserve]
  repeat' split
  all_goals simp [h]

theorem keepsCanonical_execMcGrant (site : Nat) : keepsCanonical (execMcGrant site s) := by
  simp only [execMcGrant]
  repeat' split
  all_goals simp [h]

theorem keepsCanonical_execMcCancel (site : Nat) : keepsCanonical (execMcCancel site s) := by
  simp only [execMcCancel]
  repeat' split
  all_goals simp [h]

theorem keepsCanonical_execMulticastTimeout (src tag : Nat) : keepsCanonical (execMulticastTimeout src tag s) := by
  simp only [execMulticastTimeout]
  repeat' split
  all_goals simp [h]

/-! #### Lamps, rings and references (R235 to R260) -/

theorem keepsCanonical_execLineEvaluation (bar laser : Nat) (fall : BitVec 32) :
    keepsCanonical (execLineEvaluation bar laser fall s) := by
  simp only [execLineEvaluation]
  repeat' split
  all_goals simp [h]

theorem keepsCanonical_execAbruptLaserFailure (bar laser : Nat) : keepsCanonical (execAbruptLaserFailure bar laser s) := by
  simp only [execAbruptLaserFailure]
  repeat' split
  all_goals simp [h]

theorem keepsCanonical_execSpareReady (bar : Nat) (spare : SpareReading) : keepsCanonical (execSpareReady bar spare s) := by
  simp only [execSpareReady]
  repeat' split
  all_goals simp [h]

theorem keepsCanonical_execCrossfadeStep (bar : Nat) : keepsCanonical (execCrossfadeStep bar s) := by
  simp only [execCrossfadeStep]
  repeat' split
  all_goals simp [h]

theorem keepsCanonical_execSwapRetire (bar : Nat) : keepsCanonical (execSwapRetire bar s) := by
  simp only [execSwapRetire]
  repeat' split
  all_goals simp [h]

theorem keepsCanonical_execSwapDone (bar : Nat) : keepsCanonical (execSwapDone bar s) := by
  simp only [execSwapDone]
  repeat' split
  all_goals simp [h]

theorem keepsCanonical_execSpareRampStep (bar laser : Nat) (output : BitVec 32) :
    keepsCanonical (execSpareRampStep bar laser output s) := by
  simp only [execSpareRampStep]
  repeat' split
  all_goals simp [h]

theorem keepsCanonical_execCalibrationPass (bank : Nat) (averages : List Int) :
    keepsCanonical (execCalibrationPass bank averages s) := by
  simp only [execCalibrationPass]
  repeat' split
  all_goals simp [h]

theorem keepsCanonical_execReferenceCompare (rigMicrovolt hubMicrovolt : Nat) :
    keepsCanonical (execReferenceCompare rigMicrovolt hubMicrovolt s) := by
  simp only [execReferenceCompare]
  repeat' split
  all_goals simp [h]

theorem keepsCanonical_execToneWindow (element : Nat) (seen : ToneReading) :
    keepsCanonical (execToneWindow element seen s) := by
  simp only [execToneWindow]
  repeat' split
  all_goals simp [h]

theorem keepsCanonical_execTrimLimit (element : Nat) : keepsCanonical (execTrimLimit element s) := by
  simp only [execTrimLimit]
  repeat' split
  all_goals simp [h]

theorem keepsCanonical_execRelockSweepEnd (element : Nat) (peak : Option Nat) :
    keepsCanonical (execRelockSweepEnd element peak s) := by
  simp only [execRelockSweepEnd]
  repeat' split
  all_goals simp [h]

theorem keepsCanonical_execRelockVerified (element : Nat) (confirmed : Bool) :
    keepsCanonical (execRelockVerified element confirmed s) := by
  simp only [execRelockVerified]
  repeat' split
  all_goals simp [h]

theorem keepsCanonical_execRelockRetry (element : Nat) : keepsCanonical (execRelockRetry element s) := by
  simp only [execRelockRetry]
  repeat' split
  all_goals simp [h]

/-! #### The memory domain (R261 to R298) -/

theorem keepsCanonical_execPortTraining (port : Nat) (step : PortTrainingStep) :
    keepsCanonical (execPortTraining port step s) := by
  simp only [execPortTraining]
  repeat' split
  all_goals simp [h]

/-! #### Requests of peers at their home (R281 to R291) -/

theorem keepsCanonical_execRequestArrival (port : Nat) (r : Req) : keepsCanonical (execRequestArrival port r s) := by
  simp only [execRequestArrival]
  repeat' split
  all_goals simp [h]

theorem keepsCanonical_execTicketReservationExpiry (line : Nat) : keepsCanonical (execTicketReservationExpiry line s) := by
  simp only [execTicketReservationExpiry]
  repeat' split
  all_goals simp [h]

theorem keepsCanonical_execTicketLapse (line ticket : Nat) : keepsCanonical (execTicketLapse line ticket s) := by
  simp only [execTicketLapse]
  repeat' split
  all_goals simp [h]

theorem keepsCanonical_execRetry (port : Nat) (rsp : Rsp) : keepsCanonical (execRetry port rsp s) := by
  simp only [execRetry]
  repeat' split
  all_goals simp [h]

theorem keepsCanonical_execUnticketedRetryResend (handle : Nat) : keepsCanonical (execUnticketedRetryResend handle s) := by
  simp only [execUnticketedRetryResend]
  repeat' split
  all_goals simp [h]

theorem keepsCanonical_execRequestDeadline (handle : Nat) : keepsCanonical (execRequestDeadline handle s) := by
  simp only [execRequestDeadline]
  repeat' split
  all_goals simp [h]

/-! #### Messages, agreement and time across the domain (R299 to R323) -/

theorem keepsCanonical_execMessage (arrival : MessageArrival) (m : Message) : keepsCanonical (execMessage arrival m s) := by
  simp only [execMessage]
  repeat' split
  all_goals simp [h]

theorem keepsCanonical_execMsgDone (arrival : MessageArrival) (id status : Nat) :
    keepsCanonical (execMsgDone arrival id status s) := by
  simp only [execMsgDone]
  repeat' split
  all_goals simp [h]

theorem keepsCanonical_execMessageDeadline (edge entry : Nat) : keepsCanonical (execMessageDeadline edge entry s) := by
  simp only [execMessageDeadline]
  repeat' split
  all_goals simp [h]

theorem keepsCanonical_execHopHoldExpiry (port mseq : Nat) : keepsCanonical (execHopHoldExpiry port mseq s) := by
  simp only [execHopHoldExpiry]
  repeat' split
  all_goals simp [h]

theorem keepsCanonical_execMessageDelivery (t : Nat) : keepsCanonical (execMessageDelivery t s) := by
  simp only [execMessageDelivery]
  repeat' split
  all_goals simp [h]

theorem keepsCanonical_execHelloRepeat (port : Nat) : keepsCanonical (execHelloRepeat port s) := by
  simp only [execHelloRepeat]
  repeat' split
  all_goals simp [h]

theorem keepsCanonical_execTimeRsp (port t1 t2 t3 t4 : Nat) : keepsCanonical (execTimeRsp port t1 t2 t3 t4 s) := by
  simp only [execTimeRsp]
  repeat' split
  all_goals simp [h]

/-! #### The twin control complexes (R426 to R437) -/

theorem keepsCanonical_execHeartbeat (complex selfTest : Nat) : keepsCanonical (execHeartbeat complex selfTest s) := by
  simp only [execHeartbeat]
  repeat' split
  all_goals simp [h]

theorem keepsCanonical_execTakeover (reason : Nat) : keepsCanonical (execTakeover reason s) := by
  simp only [execTakeover]
  repeat' split
  all_goals simp [h]

theorem keepsCanonical_execDivergence (oseq : Nat) : keepsCanonical (execDivergence oseq s) := by
  simp only [execDivergence]
  repeat' split
  all_goals simp [h]

theorem keepsCanonical_execResync (complex : Nat) (step : ResyncStep) : keepsCanonical (execResync complex step s) := by
  simp only [execResync]
  repeat' split
  all_goals simp [h]

theorem keepsCanonical_execControlCycleEnd : keepsCanonical (execControlCycleEnd s) := by
  simp only [execControlCycleEnd]
  repeat' split
  all_goals simp [h]

/-! #### The stores above the rig (R148 to R176) -/

theorem keepsCanonical_execHomeSliceAccess (a : Access) : keepsCanonical (execHomeSliceAccess a s) := by
  simp only [execHomeSliceAccess]
  repeat' split
  all_goals simp [h]

theorem keepsCanonical_execPartitionChange (t : Nat) : keepsCanonical (execPartitionChange t s) := by
  simp only [execPartitionChange]
  repeat' split
  all_goals simp [h]

/-! #### Stays and the resets of dies (R329 to R345) -/

theorem keepsCanonical_execStaySuspect (link : Nat) (counts : StayCounts) :
    keepsCanonical (execStaySuspect link counts s) := by
  simp only [execStaySuspect]
  repeat' split
  all_goals simp [h]

theorem keepsCanonical_execStayRepair (link stay : Nat) (badBonds : List Nat) :
    keepsCanonical (execStayRepair link stay badBonds s) := by
  simp only [execStayRepair]
  repeat' split
  all_goals simp [h]

theorem keepsCanonical_execRepairLogWrite : keepsCanonical (execRepairLogWrite s) := by
  simp only [execRepairLogWrite]
  repeat' split
  all_goals simp [h]

theorem keepsCanonical_execWidthAgreement (link : Nat) (near1 near2 near3 far1 far2 far3 : Bool) (training : WidthTraining) :
    keepsCanonical (execWidthAgreement link near1 near2 near3 far1 far2 far3 training s) := by
  simp only [execWidthAgreement]
  repeat' split
  all_goals simp [h]

/-! #### Guest sites and grants (R348 to R356, R387 to R391) -/

theorem keepsCanonical_execGuestRequest (g : Nat) (r : Req) : keepsCanonical (execGuestRequest g r s) := by
  simp only [execGuestRequest]
  repeat' split
  all_goals simp [h]

theorem keepsCanonical_execHallPassRevoke (g : Nat) (cause : RevokeCause) :
    keepsCanonical (execHallPassRevoke g cause s) := by
  simp only [execHallPassRevoke]
  repeat' split
  all_goals simp [h]

/-! #### Clock regions and global time (R360 to R386) -/

theorem keepsCanonical_execZoneIdle (zone : Nat) : keepsCanonical (execZoneIdle zone s) := by
  simp only [execZoneIdle]
  repeat' split
  all_goals simp [h]

theorem keepsCanonical_execDroopTrip (region : Region) (millivolt : Nat) :
    keepsCanonical (execDroopTrip region millivolt s) := by
  simp only [execDroopTrip]
  repeat' split
  all_goals simp [h]

theorem keepsCanonical_execStepDownHoldEnd (region : Region) : keepsCanonical (execStepDownHoldEnd region s) := by
  simp only [execStepDownHoldEnd]
  repeat' split
  all_goals simp [h]

theorem keepsCanonical_execSyncWord (die : Nat) (difference : Int) (checkGood : Bool) :
    keepsCanonical (execSyncWord die difference checkGood s) := by
  simp only [execSyncWord]
  repeat' split
  all_goals simp [h]

/-! #### Power and temperature (R387 to R405) -/

theorem keepsCanonical_execPowerManagerTick (t milliwatt matrixMilliwatt : Nat) :
    keepsCanonical (execPowerManagerTick t milliwatt matrixMilliwatt s) := by
  simp only [execPowerManagerTick]
  repeat' split
  all_goals simp [h]

theorem keepsCanonical_execReefPause (c panel : Nat) : keepsCanonical (execReefPause c panel s) := by
  simp only [execReefPause]
  repeat' split
  all_goals simp [h]

theorem keepsCanonical_execReefPauseEnd (c panel : Nat) : keepsCanonical (execReefPauseEnd c panel s) := by
  simp only [execReefPauseEnd]
  repeat' split
  all_goals simp [h]

theorem keepsCanonical_execThermalSample (e : ThermalElement) (readings : List SensorReading) :
    keepsCanonical (execThermalSample e readings s) := by
  simp only [execThermalSample]
  repeat' split
  all_goals simp [h]

/-! #### Bell, trace, dumps and the crow's nest (R461 to R483) -/

theorem keepsCanonical_execScanOut (offset length : Nat) : keepsCanonical (execScanOut offset length s) := by
  simp only [execScanOut]
  simp [h]

theorem keepsCanonical_execDumpPoint (c row : Nat) : keepsCanonical (execDumpPoint c row s) := by
  simp only [execDumpPoint]
  repeat' split
  all_goals simp [h]

theorem keepsCanonical_execTraceRecord (c : Nat) : keepsCanonical (execTraceRecord c s) := by
  simp only [execTraceRecord]
  repeat' split
  all_goals simp [h]

/-! #### Start-up, rails and security (R439 to R460) -/

theorem keepsCanonical_execWarmStart (obs : StartObs) : keepsCanonical (execWarmStart obs s) := by
  simp only [execWarmStart]
  repeat' split
  all_goals simp [h]

theorem keepsCanonical_execRailFault (rail : Rail) : keepsCanonical (execRailFault rail s) := by
  simp only [execRailFault]
  repeat' split
  all_goals simp [h]

/-! #### Tack plans and collectives (R211 to R234) -/

theorem keepsCanonical_execTackStart : keepsCanonical (execTackStart s) := by
  simp only [execTackStart]
  repeat' split
  all_goals simp [h]

theorem keepsCanonical_execTackQuiesced : keepsCanonical (execTackQuiesced s) := by
  simp only [execTackQuiesced]
  repeat' split
  all_goals simp [h]

theorem keepsCanonical_execTackRetuned (failed : List Nat) (wrong : List (Nat × Nat × Nat)) :
    keepsCanonical (execTackRetuned failed wrong s) := by
  simp only [execTackRetuned]
  repeat' split
  all_goals simp [h]

theorem keepsCanonical_execTackDone : keepsCanonical (execTackDone s) := by
  simp only [execTackDone]
  repeat' split
  all_goals simp [h]

theorem keepsCanonical_execCollective (x c : Nat) : keepsCanonical (execCollective x c s) := by
  simp only [execCollective]
  repeat' split
  all_goals simp [h]

theorem keepsCanonical_execJoinLimitExpiry (ttPtr : Nat) : keepsCanonical (execJoinLimitExpiry ttPtr s) := by
  simp only [execJoinLimitExpiry]
  repeat' split
  all_goals simp [h]

theorem keepsCanonical_execPhaseGo (t : Nat) : keepsCanonical (execPhaseGo t s) := by
  simp only [execPhaseGo]
  repeat' split
  all_goals simp [h]

theorem keepsCanonical_execTransferIssue (coll participant : Nat) :
    keepsCanonical (execTransferIssue coll participant s) := by
  simp only [execTransferIssue]
  repeat' split
  all_goals simp [h]

theorem keepsCanonical_execPhaseSent (coll t : Nat) : keepsCanonical (execPhaseSent coll t s) := by
  simp only [execPhaseSent]
  repeat' split
  all_goals simp [h]

theorem keepsCanonical_execTransferConfirm (coll transfer : Nat) : keepsCanonical (execTransferConfirm coll transfer s) := by
  simp only [execTransferConfirm]
  repeat' split
  all_goals simp [h]

theorem keepsCanonical_execWaitLimitExpiry (c : Nat) : keepsCanonical (execWaitLimitExpiry c s) := by
  simp only [execWaitLimitExpiry]
  repeat' split
  all_goals simp [h]

/-! #### The control plane (R409 to R422) -/

theorem keepsCanonical_execOdFwd (position : Nat) : keepsCanonical (execOdFwd position s) := by
  simp only [execOdFwd]
  repeat' split
  all_goals simp [h]

theorem keepsCanonical_execOdRsp (position : Nat) : keepsCanonical (execOdRsp position s) := by
  simp only [execOdRsp]
  repeat' split
  all_goals simp [h]

end

/-! ### Every command, and every step -/

/-- A command without a branch is closed by the law of its one operation, a command whose branches are conditions alone by
`keepsCanonical.ite`, and every other by its own lemma. -/
theorem keepsCanonical_exec {s : State} (h : s.memory.cells.wf = true) (i : Instr) : keepsCanonical (exec i s) := by
  cases i with
  | producerIndexWrite x value => exact .next (by simp [h])
  | descriptorFetch x => exact keepsCanonical_execDescriptorFetch h x
  | commandStart x c => exact keepsCanonical_execCommandStart h x c
  | nop x c => exact keepsCanonical_execNop h x c
  | run x c => exact keepsCanonical_execRun h x c
  | copy x c => exact keepsCanonical_execCopy h x c
  | tallySet x c => exact keepsCanonical_execTallySet h x c
  | cbLoad x c => exact keepsCanonical_execCbLoad h x c
  | curveLoad x c => exact keepsCanonical_execCurveLoad h x c
  | collective x c => exact keepsCanonical_execCollective h x c
  | fence x c => exact keepsCanonical_execFence h x c
  | send x c edge => exact keepsCanonical_execSend h x c edge
  | yield x c => exact keepsCanonical_execYield h x c
  | memberPartComplete x c => exact keepsCanonical_execMemberPartComplete h x c
  | entryNop c => exact keepsCanonical_execEntryNop h c
  | issue c reading => exact keepsCanonical_execIssue h c reading
  | waitTally c => exact keepsCanonical_execWaitTally h c
  | waitEngines c => exact keepsCanonical_execWaitEngines h c
  | inc c => exact keepsCanonical_execInc h c
  | loop c => exact keepsCanonical_execLoop h c
  | mark c => exact keepsCanonical_execMark h c
  | endOp c => exact keepsCanonical_execEndOp h c
  | waitLimitExpiry c => exact keepsCanonical_execWaitLimitExpiry h c
  | engineOpStart c e drainQueue => exact keepsCanonical_execEngineOpStart h c e drainQueue
  | mma c span ns portWait => exact keepsCanonical_execMma h c span ns portWait
  | mmaComplete tail => exact keepsCanonical_execMmaComplete h tail
  | drain c => exact keepsCanonical_execDrain h c
  | drainComplete c => exact keepsCanonical_execDrainComplete h c
  | veOp c => exact keepsCanonical_execVeOp h c
  | aeOp c => exact keepsCanonical_execAeOp h c
  | xeOp c => exact keepsCanonical_execXeOp h c
  | geOp c indices => exact keepsCanonical_execGeOp h c indices
  | ceCopy c place bytes => exact keepsCanonical_execCeCopy h c place bytes
  | qeOp c => exact keepsCanonical_execQeOp h c
  | engineOpComplete c e place took => exact keepsCanonical_execEngineOpComplete h c e place took
  | engineSuspend c e => exact keepsCanonical_execEngineSuspend h c e
  | meProgressRecord c => exact keepsCanonical_execMeProgressRecord h c
  | reefPause c panel => exact keepsCanonical_execReefPause h c panel
  | reefPauseEnd c panel => exact keepsCanonical_execReefPauseEnd h c panel
  | rateWindowEnd => exact keepsCanonical_rateWindowEnd h
  | meshRequest r => exact keepsCanonical_execMeshRequest h r
  | tallyIncrement c tally amount => exact keepsCanonical_execTallyIncrement h c tally amount
  | openOp x => exact .next (by simp [h])
  | close x => exact .next (by simp [h])
  | closeComplete x => exact keepsCanonical_execCloseComplete h x
  | resume x => exact .next (by simp [h])
  | park x => exact .next (by simp [h])
  | detach x => exact .next (by simp [h])
  | attach x => exact .next (by simp [h])
  | periodEnd x => exact .ite (.next h) (.ite (.next (by simp [h])) (.next (by simp [h])))
  | idlePark x => exact keepsCanonical_execIdlePark h x
  | schedulerBind hubClusters => exact .ite (.next h) (.next (by simp [h]))
  | saveStart x => exact keepsCanonical_execSaveStart h x
  | saveComplete x => exact keepsCanonical_execSaveComplete h x
  | restoreComplete x => exact keepsCanonical_execRestoreComplete h x
  | inboundRequest r => exact keepsCanonical_execInboundRequest h r
  | loaderCommit value => exact .next (by simp [h])
  | loaderApply => exact keepsCanonical_execLoaderApply h
  | arithmeticCommit value => exact .next (by simp [h])
  | homeSliceAccess a => exact keepsCanonical_execHomeSliceAccess h a
  | correctedWriteback word => exact .ite (.next h) (.next (by simp [h]))
  | hbmScrub store word upset passEnds => exact keepsCanonical_execHbmScrub h store word upset passEnds
  | hbmTemperatureRead stack centi parityRepeats => exact .next (by simp [h])
  | memoryCommit value => exact .next (by simp [h])
  | partitionChange t => exact keepsCanonical_execPartitionChange h t
  | partitionChangeEnd t => exact keepsCanonical_execPartitionChangeEnd h t
  | packetAdmit src position lane => exact keepsCanonical_execPacketAdmit h src position lane
  | packetDelivery src dst vc noise => exact keepsCanonical_execPacketDelivery h src dst vc noise
  | flitUncorrectable path cause => exact keepsCanonical_execFlitUncorrectable h path cause
  | linkControlFlit via f => exact keepsCanonical_execLinkControlFlit h via f
  | ackInterval site => exact .next (by simp [h])
  | laneRetrain slot lane success => exact .ite (.next h) (.ite (.next (by simp [h])) (.next (by simp [h])))
  | standingPathDown src dst => exact .ite (.next (by simp [h])) (.next h)
  | laneTraining slot lane => exact keepsCanonical_execLaneTraining h slot lane
  | bulkWrite site => exact keepsCanonical_execBulkWrite h site
  | mcReserve site => exact keepsCanonical_execMcReserve h site
  | mcGrant site => exact keepsCanonical_execMcGrant h site
  | mcCancel site => exact keepsCanonical_execMcCancel h site
  | mcWrite site => exact keepsCanonical_execMcWrite h site
  | multicastTimeout src tag => exact keepsCanonical_execMulticastTimeout h src tag
  | guestPacket g p wellFormedHeader =>
    exact .ite (.next h) (.ite (.next (by simp [h])) (.ite (.next (by simp [h])) (.next h)))
  | planCommit value => exact .next (by simp [h])
  | tackRequest plan => exact .next (by simp [h])
  | tackStart => exact keepsCanonical_execTackStart h
  | tackQuiesced => exact keepsCanonical_execTackQuiesced h
  | tackRetuned failed wrong => exact keepsCanonical_execTackRetuned h failed wrong
  | tackDone => exact keepsCanonical_execTackDone h
  | claimHoldoffExpiry => exact .next (by simp [h])
  | collectiveJoin ttPtr => exact keepsCanonical_execCollectiveJoin h ttPtr
  | joinLimitExpiry ttPtr => exact keepsCanonical_execJoinLimitExpiry h ttPtr
  | phaseGo t => exact keepsCanonical_execPhaseGo h t
  | transferIssue coll participant => exact keepsCanonical_execTransferIssue h coll participant
  | phaseSent coll t => exact keepsCanonical_execPhaseSent h coll t
  | transferConfirm coll transfer => exact keepsCanonical_execTransferConfirm h coll transfer
  | redAddFp32 site => exact .next (by simp [h])
  | redAddBf16 site => exact .next (by simp [h])
  | lineEvaluation bar laser fall => exact keepsCanonical_execLineEvaluation h bar laser fall
  | backFacetSample samples => exact keepsCanonical_execBackFacetSample h samples
  | abruptLaserFailure bar laser => exact keepsCanonical_execAbruptLaserFailure h bar laser
  | spareReady bar spare => exact keepsCanonical_execSpareReady h bar spare
  | crossfadeStep bar => exact keepsCanonical_execCrossfadeStep h bar
  | swapRetire bar => exact keepsCanonical_execSwapRetire h bar
  | swapDone bar => exact keepsCanonical_execSwapDone h bar
  | spareRampStep bar laser output => exact keepsCanonical_execSpareRampStep h bar laser output
  | kRemeasure bank k => exact .ite (.next h) (.next (by simp [h]))
  | calibrationPass bank averages => exact keepsCanonical_execCalibrationPass h bank averages
  | referenceCompare rigMicrovolt hubMicrovolt =>
    exact keepsCanonical_execReferenceCompare h rigMicrovolt hubMicrovolt
  | toneWindow element seen => exact keepsCanonical_execToneWindow h element seen
  | trimLimit element => exact keepsCanonical_execTrimLimit h element
  | relockSweepEnd element peak => exact keepsCanonical_execRelockSweepEnd h element peak
  | relockVerified element confirmed => exact keepsCanonical_execRelockVerified h element confirmed
  | relockRetry element => exact keepsCanonical_execRelockRetry h element
  | laneNarrow slot lane => exact .ite (.next (by simp [h])) (.next h)
  | laneNarrowRetrain slot lane => exact .ite (.next h) (.next (by simp [h]))
  | photonicCalibrationCopy => exact .ite (.next h) (.ite (.next (by simp [h])) (.next (by simp [h])))
  | reCommission value => exact .next (by simp [h])
  | elementSelect element => exact .next (by simp [h])
  | domainCommit value => exact .next (by simp [h])
  | portTraining port step => exact keepsCanonical_execPortTraining h port step
  | portHeartbeatLoss port => exact .ite (.next h) (.ite (.next (by simp [h])) (.ite (.next (by simp [h])) (.next h)))
  | resetNotice port => exact .ite (.next (by simp [h])) (.next h)
  | windowCommit value => exact .next (by simp [h])
  | domainRequestIssue x c r => exact keepsCanonical_execDomainRequestIssue h x c r
  | requestArrival port r => exact keepsCanonical_execRequestArrival h port r
  | load position => exact .next (by simp [h])
  | store position => exact .next (by simp [h])
  | tallyInc position => exact .next (by simp [h])
  | dmcWrite edge => exact keepsCanonical_execDmcWrite h edge
  | add position => exact .next (by simp [h])
  | min position => exact .next (by simp [h])
  | max position => exact .next (by simp [h])
  | swap position => exact .next (by simp [h])
  | cas position => exact .next (by simp [h])
  | or position => exact .next (by simp [h])
  | and position => exact .next (by simp [h])
  | fadd32 position => exact .next (by simp [h])
  | badd16 position => exact .next (by simp [h])
  | iadd32 position => exact .next (by simp [h])
  | lineQueueApply line => exact keepsCanonical_execLineQueueApply h line
  | loadData port rsp => exact .next (by simp [h])
  | ack port rsp => exact .next (by simp [h])
  | old port rsp => exact .next (by simp [h])
  | retry port rsp => exact keepsCanonical_execRetry h port rsp
  | error port rsp => exact .next (by simp [h])
  | expired port rsp => exact .next (by simp [h])
  | ticketReservationExpiry line => exact keepsCanonical_execTicketReservationExpiry h line
  | ticketLapse line ticket => exact keepsCanonical_execTicketLapse h line ticket
  | unticketedRetryResend handle => exact keepsCanonical_execUnticketedRetryResend h handle
  | replyCacheExpiry device entry => exact .ite (.next (by simp [h])) (.next h)
  | requestResend port => exact keepsCanonical_execRequestResend h port
  | requestDeadline handle => exact keepsCanonical_execRequestDeadline h handle
  | message arrival m => exact keepsCanonical_execMessage h arrival m
  | messageDelivery t => exact keepsCanonical_execMessageDelivery h t
  | msgDone edge id n => exact keepsCanonical_execMsgDone h edge id n
  | messageDeadline edge entry => exact keepsCanonical_execMessageDeadline h edge entry
  | hopHoldExpiry port mseq => exact keepsCanonical_execHopHoldExpiry h port mseq
  | routeCommit value => exact .next (by simp [h])
  | inboxCommit value => exact .next (by simp [h])
  | agreementCommit value => exact .next (by simp [h])
  | hello port hello => exact keepsCanonical_execHello h port hello
  | join port => exact .next (by simp [h])
  | leave port => exact .next (by simp [h])
  | leaveArrival port => exact .ite (.next (by simp [h])) (.next h)
  | digestSend => exact .ite (.next h) (.next (by simp [h]))
  | digest port digest epoch level => exact .ite (.next h) (.ite (.next (by simp [h])) (.next h))
  | digestTimeout port => exact .ite (.next h) (.next (by simp [h]))
  | timeReq port t1 => exact .ite (.next h) (.ite (.ite (.next h) (.next (by simp [h]))) (.next (by simp [h])))
  | timeRsp port t1 t2 t3 t4 => exact keepsCanonical_execTimeRsp h port t1 t2 t3 t4
  | timedDoorbell row => exact .ite (.next h) (.next (by simp [h]))
  | staySuspect link counts => exact keepsCanonical_execStaySuspect h link counts
  | stayRepair link stay badBonds => exact keepsCanonical_execStayRepair h link stay badBonds
  | repairLogWrite => exact keepsCanonical_execRepairLogWrite h
  | widthAgreement link near1 near2 near3 far1 far2 far3 training =>
    exact keepsCanonical_execWidthAgreement h link near1 near2 near3 far1 far2 far3 training
  | dieReset die => exact .next (by simp [h])
  | kdFence t => exact .ite (.next h) (.next (by simp [h]))
  | kdFenced t => exact .ite (.next h) (.next (by simp [h]))
  | fenceTimeout die => exact .ite (.next h) (.next (by simp [h]))
  | abruptReset die => exact .ite (.next (by simp [h])) (.next h)
  | kdReady t => exact keepsCanonical_execKdReady h t
  | cdParkTimeout t => exact .ite (.next h) (.ite (.next h) (.next (by simp [h])))
  | hubHalt => exact .ite (.next h) (.next (by simp [h]))
  | dieClockLoss die => exact .ite (.next (by simp [h])) (.next h)
  | ask holder milliwatt => exact .ite (.next h) (.next (by simp [h]))
  | grant holder seq milliwatt epoch =>
    exact .ite (.next h) (.ite (.next (by simp [h])) (.ite (.next (by simp [h])) (.next (by simp [h]))))
  | returnOp holder milliwatt => exact .ite (.next h) (.ite (.next h) (.next (by simp [h])))
  | budgetAck holder milliwatt => exact .ite (.next h) (.ite (.next h) (.next (by simp [h])))
  | grantRepeat holder => exact .ite (.next h) (.next (by simp [h]))
  | hubSilence holder => exact .ite (.next h) (.next (by simp [h]))
  | ucieInitialisation g modules gts => exact .ite (.next h) (.next (by simp [h]))
  | capabilityBlock g block =>
    exact .ite (.next h) (.ite (.next (by simp [h])) (.ite (.next (by simp [h])) (.next (by simp [h]))))
  | gdoor g => exact .ite (.next h) (.ite (.next (by simp [h])) (.next (by simp [h])))
  | guestRequest g r => exact keepsCanonical_execGuestRequest h g r
  | hallPassRevoke g cause => exact keepsCanonical_execHallPassRevoke h g cause
  | revokeHallPass value => exact .ite (.next (by simp [h])) (.next h)
  | clearLocked value => exact .ite (.next (by simp [h])) (.next h)
  | guestWindowCommit value => exact .next (by simp [h])
  | refclkLoss input => exact .ite (.next h) (.ite (.next h) (.ite (.next (by simp [h])) (.next h)))
  | failoverPullEnd ppb => exact .ite (.next h) (.next (by simp [h]))
  | holdoverTimeout => exact .ite (.next h) (.next (by simp [h]))
  | refclkGood input =>
    exact .ite (.next h) (.ite (.next (by simp [h])) (.ite (.next (by simp [h])) (.next (by simp [h]))))
  | referenceFrequencyCheck ppb =>
    exact .ite (.next h) (.ite (.next (by simp [h])) (.ite (.next (by simp [h])) (.next h)))
  | referenceSelect value => exact .ite (.next h) (.next (by simp [h]))
  | clockCommit value => exact .next (by simp [h])
  | zoneIdle zone => exact keepsCanonical_execZoneIdle h zone
  | droopTrip region millivolt => exact keepsCanonical_execDroopTrip h region millivolt
  | stepDownHoldEnd region => exact keepsCanonical_execStepDownHoldEnd h region
  | zoneLockLoss zone => exact .ite (.next h) (.next (by simp [h]))
  | zoneRelock zone => exact .ite (.next h) (.next (by simp [h]))
  | zoneRelockTimeout zone => exact .ite (.next h) (.next (by simp [h]))
  | syncWord die difference checkGood => exact keepsCanonical_execSyncWord h die difference checkGood
  | zoneTimeReload zone => exact .ite (.next h) (.next (by simp [h]))
  | timeMasterCheckFail hubCopy => exact .next (by simp [h])
  | powerCommit value => exact .next (by simp [h])
  | powerManagerTick t milliwatt matrixMilliwatt =>
    exact keepsCanonical_execPowerManagerTick h t milliwatt matrixMilliwatt
  | kdPacingStep t milliwatt => exact .ite (.next h) (.next (by simp [h]))
  | coreSupplyRead t millivolt => exact keepsCanonical_execCoreSupplyRead h t millivolt
  | thermalSample e readings => exact keepsCanonical_execThermalSample h e readings
  | thermalRestart code => exact .ite (.next h) (.next (by simp [h]))
  | flashWriteRetry => exact .ite (.next h) (.next h)
  | odRead t => exact keepsCanonical_execOdRead h t
  | odWrite t => exact keepsCanonical_execOdWrite h t
  | blockWrite t => exact keepsCanonical_execBlockWrite h t
  | blockRead t => exact keepsCanonical_execBlockRead h t
  | doorbell t => exact keepsCanonical_execDoorbell h t
  | genericOdWrite index sub value => exact .ite (.next h) (.next (by simp [h]))
  | status => exact .ite (.next h) (.next (by simp [h]))
  | krytaePortDown k => exact .ite (.next h) (.next (by simp [h]))
  | krytaePortTraining k done => exact .ite (.next (by simp [h])) (.ite (.next (by simp [h])) (.next h))
  | odFwd position => exact keepsCanonical_execOdFwd h position
  | odRsp position => exact keepsCanonical_execOdRsp h position
  | event e => exact .ite (.next h) (.ite (.next (by simp [h])) (.next (by simp [h])))
  | heartbeat complex selfTest => exact keepsCanonical_execHeartbeat h complex selfTest
  | heartbeatMiss complex standing => exact .next (by simp [h])
  | takeover reason => exact keepsCanonical_execTakeover h reason
  | divergence oseq => exact keepsCanonical_execDivergence h oseq
  | complexDisplaced complex => exact .ite (.next h) (.next (by simp [h]))
  | resync complex step => exact keepsCanonical_execResync h complex step
  | handOver => exact .next (by simp [h])
  | resynchroniseTwin => exact .next (by simp [h])
  | twinOffline => exact .next (by simp [h])
  | controlCommit value => exact .next (by simp [h])
  | controlCycleEnd => exact keepsCanonical_execControlCycleEnd h
  | tableCommit => exact .next (by simp [h])
  | tableRestore value => exact .next (by split <;> simp [h])
  | emptyBlockCommit index value => exact .next (by simp [h])
  | rstNLow heldNs => exact .ite (.next h) (.next (by simp [h]))
  | powerLoss => exact .next (by simp [h])
  | railFault rail => exact keepsCanonical_execRailFault h rail
  | coldStart cause obs => exact .ite (.next h) (.next (by simp [h]))
  | warmStart obs => exact keepsCanonical_execWarmStart h obs
  | startRequestWarm => exact .next (by simp [h])
  | startRequestCold => exact .next (by simp [h])
  | lifeCycleTransition target => exact .ite (.next h) (.next (by simp [h]))
  | fuseCopyRepair => exact .next (by simp [h])
  | securityCommit value readBackGood => exact .next (by simp [h])
  | attestationRequest value => exact .ite (.next (by simp [h])) (.next h)
  | bellRing source => exact .next (by simp [h])
  | bellRelease => exact .next (by simp [h])
  | bellRung => exact .ite (.next h) (.next (by simp [h]))
  | bellClear => exact .ite (.next h) (.next (by simp [h]))
  | triggerFire row => exact .ite (.next h) (.next (by simp [h]))
  | scanOut offset length => exact keepsCanonical_execScanOut h offset length
  | internalScan die => exact .ite (.next h) (.ite (.next (by simp [h])) (.next (by simp [h])))
  | dumpPoint c row => exact keepsCanonical_execDumpPoint h c row
  | traceRecord c => exact keepsCanonical_execTraceRecord h c
  | dumpReset value => exact .next (by simp [h])
  | counterClear unit => exact .next (by simp [h])
  | crowsNestSample interval => exact .ite (.next h) (.next (by simp [h]))
  | debugCommit value => exact .next (by simp [h])
  | watchdogReset die => exact .ite (.next h) (.ite (.next (by simp [h])) (.next (by simp [h])))
  | scanExit die => exact keepsCanonical_execScanExit h die
  | railsBackInRange die => exact .next (by simp [h])
  | helloRepeat port => exact keepsCanonical_execHelloRepeat h port
  | zoneSlewEnd region => exact .ite (.next h) (.next (by simp [h]))

theorem canonical_tick {s : State} (h : memoryCanonical s) : memoryCanonical s.tick := by
  simpa only [memoryCanonical, State.tick_kept] using h

/-- Settles O46: the tick leaves memory as it is, and every command keeps the canonical form. -/
theorem memoryStaysCanonical : Obligations.MemoryStaysCanonical := by
  unfold Obligations.MemoryStaysCanonical
  intro s t h hstep
  unfold step at hstep
  split at hstep
  · obtain rfl := Host.Outcome.next.inj hstep
    exact canonical_tick h
  next i rest _ => exact keepsCanonical_exec (s := { s with pending := rest }) h i t hstep

end Sys2Proof.Machine

/-! PROOF. The rules of the rig network's state that the statements of its chapter rest on: lanes, standing paths and receivers
after a change of one, what leaves a buffer, reservations, and the sending of a packet on a lane. -/

namespace Sys2Proof.Machine

/-! ### Lanes, standing paths and receivers after a change of one -/

theorem laneAt_modLane (s : State) (k j : Nat) (f : Lane → Lane) :
    (s.modLane k f).laneAt j = if j = k then f (s.laneAt k) else s.laneAt j := by
  by_cases h : j = k
  · subst h; simp [State.laneAt]
  · simp [State.laneAt, h, SMap.get_modify_ne]

theorem laneAt_of_lanes {s t : State} (h : t.rig.lanes = s.rig.lanes) (k : Nat) : t.laneAt k = s.laneAt k := by
  rw [State.laneAt, State.laneAt, h]

theorem sameLanes_of_lanes {s t : State} (h : t.rig.lanes = s.rig.lanes) (k : Nat) : sameLanes k s t := fun j _ => by rw [h]

theorem sameLanes_modLane (k : Nat) (s : State) (f : Lane → Lane) : sameLanes k s (s.modLane k f) :=
  fun _ hj => SMap.get_modify_ne _ _ _ hj _

theorem sameLanes.trans {k : Nat} {s t u : State} (h : sameLanes k s t) (g : sameLanes k t u) : sameLanes k s u :=
  fun j hj => (g j hj).trans (h j hj)

theorem standing_modStanding (s : State) (a b c d : Nat) (f : StandingPath → StandingPath) :
    (s.modStanding a b f).standing c d = if standKey c d = standKey a b then f (s.standing a b) else s.standing c d :=
  SMap.get_modify _ _ _ _ _

theorem standing_modStanding_same (s : State) (a b : Nat) (f : StandingPath → StandingPath) :
    (s.modStanding a b f).standing a b = f (s.standing a b) := SMap.get_modify_same _ _ _ _

theorem receiver_modReceiver_same (s : State) (k : Nat) (f : Receiver → Receiver) :
    (s.modReceiver k f).receiver k = f (s.receiver k) := SMap.get_modify_same _ _ _ _

/-- A lane of a slot has a key below those of the standing paths. -/
theorem lt_of_mem_slotLanes {slot k : Nat} (h : k ∈ slotLanes slot) : k < 16384 := by
  obtain ⟨n, hn, rfl⟩ := List.mem_map.mp h
  rw [List.mem_range] at hn
  unfold siteLanes at hn
  unfold laneKey
  repeat' split at hn
  all_goals omega

theorem replayRoom_lane {s : State} {k : Nat} {p : Packet} (hk : k < 16384) :
    s.replayRoom k p = decide (replayFlits (s.laneAt k).replay + packetFlits p ≤ 512) := by
  simp [State.replayRoom, State.replayOf, hk]

/-- An event that concerns no command changes no entry but the count of invalid values of RELEASED (R313). -/
theorem reg_raise {j : Nat} (hj : j ≠ 0x831006) (s : State) (code die unit : Nat) (detail : List Byte) :
    (s.raise code die unit detail).reg j = s.reg j :=
  reg_raiseFor hj s code die unit 0xFFFF {} detail

/-! ### Packets that leave their buffers (R196), and reservations (R204) -/

theorem grantReservations_only (s : State) (site : Nat) (l : List McReservation) :
    ∃ r o, s.grantReservations site l = { s with rig := { s.rig with mcReserved := r, outbox := o } } := by
  induction l generalizing s with
  | nil => exact ⟨_, _, rfl⟩
  | cons a l ih =>
    rw [State.grantReservations]
    split
    · exact ⟨_, _, rfl⟩
    · split
      · exact ih s
      · split
        · exact ⟨_, _, rfl⟩
        · obtain ⟨r, o, h⟩ := ih (State.toOutbox _ _)
          exact ⟨r, o, h⟩

theorem grantReservations_withheld {s : State} {site : Nat} (h : s.rig.withheld.who.contains site = true)
    (l : List McReservation) : s.grantReservations site l = s := by
  cases l with
  | nil => rfl
  | cons a l => rw [State.grantReservations, if_pos h]

/-- Reservations that have been granted already are passed over. -/
theorem grantReservations_append {s : State} {site : Nat} (hw : s.rig.withheld.who.contains site = false)
    {l : List McReservation} (hl : l.all (fun r => r.granted) = true) (m : List McReservation) :
    s.grantReservations site (l ++ m) = s.grantReservations site m := by
  induction l with
  | nil => rfl
  | cons a l ih =>
    simp only [List.all_cons, Bool.and_eq_true] at hl
    rw [List.cons_append, State.grantReservations, if_neg (by rw [hw]; decide), if_pos (by simp [hl.1]), ih hl.2]

theorem grantReservations_granted {s : State} {site : Nat} {l : List McReservation}
    (hl : l.all (fun r => r.granted) = true) : s.grantReservations site l = s := by
  cases hw : s.rig.withheld.who.contains site with
  | true => exact grantReservations_withheld hw l
  | false =>
    have h := grantReservations_append hw hl []
    rwa [List.append_nil] at h

/-- A packet leaves its buffer: the flits that this frees may let reservations be granted, and no other part of the state changes. -/
theorem consume_only (s : State) (site : Nat) (p : Packet) :
    ∃ a f r o, s.consume site p =
      { s with rig := { s.rig with arrived := a, freed := f, mcReserved := r, outbox := o } } ∧
      a.get [] site = (s.arrivedAt site).erase p := by
  unfold State.consume State.free
  dsimp only
  split
  · obtain ⟨r, o, h⟩ := grantReservations_only _ site _
    exact ⟨_, _, r, o, h, SMap.get_set_same _ _ _ _⟩
  · exact ⟨_, _, _, _, rfl, SMap.get_set_same _ _ _ _⟩

/-- A CTRL packet leaves its buffer: nothing is granted. -/
theorem consume_ctrl {s : State} {site : Nat} {p : Packet} (h : p.vc = 0) :
    s.consume site p = { s with rig := { s.rig with
      arrived := s.rig.arrived.set site ((s.arrivedAt site).erase p)
      freed := s.rig.freed.modify 0 (streamKey site p.src 0) (· + packetFlits p) } } := by
  rw [State.consume, State.free, h]
  rfl

/-! ### Multicasts sent (R204) -/

theorem foldl_spend_only (src n : Nat) (l : List McTarget) (s : State) :
    ∃ c, l.foldl (fun s t => s.spend src t.slot 3 n) s = { s with rig := { s.rig with spent := c } } := by
  induction l generalizing s with
  | nil => exact ⟨_, rfl⟩
  | cons t l ih => exact ih (s.spend src t.slot 3 n)

/-- Reservations once the multicast that they are for has been sent. -/
def McPending.markSent (m : McPending) (l : List McReservation) : List McReservation :=
  l.map fun r => if r.src = m.src && r.tag = m.tag then { r with sent := true } else r

/-- A multicast that goes leaves what waits, its flits count as spent at each target, and its packet takes the split lane (R204). -/
theorem sendMulticast_eq (s : State) (m : McPending) (k : Nat) : ∃ c, s.sendMulticast m k =
    (State.sendOnLane { s with rig := { s.rig with
      mcPending := s.rig.mcPending.erase m, mcReserved := m.markSent s.rig.mcReserved, spent := c } } k
        { m.packet with stamp := s.now }).countReg 0x402201 64 1 := by
  obtain ⟨c, hc⟩ := foldl_spend_only m.src (packetFlits m.packet) m.packet.targets { s with rig := { s.rig with
    mcPending := s.rig.mcPending.erase m, mcReserved := m.markSent s.rig.mcReserved } }
  refine ⟨c, ?_⟩
  unfold State.sendMulticast
  exact congrArg (fun t => (State.sendOnLane t k { m.packet with stamp := s.now }).countReg 0x402201 64 1) hc

end Sys2Proof.Machine

/-! PROOF. O23: reservations asked for and granted, grants noted, multicasts sent on their split lane, cancelled, and given up
(R204, R205). -/

namespace Sys2Proof.Machine

/-! ### Reservations at a target (R204) -/

/-- The reservation that a packet asks a target for, before it is granted. -/
def reservationOf (site : Nat) (p : Packet) : McReservation := ⟨site, p.src, p.req.tag, p.req.len, false, false⟩

/-- A reservation has come in: its packet has left the buffer, and its flits are not set aside yet. -/
def State.asked (s : State) (site : Nat) (p : Packet) : State :=
  let s1 := s.consume site p
  { s1 with rig := { s1.rig with mcReserved := s1.rig.mcReserved ++ [reservationOf site p] } }

theorem mcReserve_next {s : State} {site : Nat} {p : Packet} (hp : s.firstArrived site 0x10 = some p)
    (hs : 4 ≤ site ∨ s.towerServes site = true) :
    exec (.mcReserve site) s = .next ((s.asked site p).grantReservations site (s.asked site p).rig.mcReserved) := by
  change execMcReserve site s = _
  have hserve : ¬ (decide (site < 4) && !s.towerServes site) = true := by
    rcases hs with h | h
    · simp; omega
    · simp [h]
  rw [execMcReserve, hp]
  exact if_neg hserve

theorem sumOf_append {α : Type} (f : α → Nat) (l m : List α) : sumOf f (l ++ m) = sumOf f l + sumOf f m := by
  induction l with
  | nil => simp [sumOf]
  | cons a l ih => simp [sumOf, ih, Nat.add_assoc]

section
variable {s : State} {site : Nat} {p : Packet} (hvc : p.vc = 0)
include hvc

theorem asked_ctrl : s.asked site p = { s with rig := { s.rig with
    arrived := s.rig.arrived.set site ((s.arrivedAt site).erase p)
    freed := s.rig.freed.modify 0 (streamKey site p.src 0) (· + packetFlits p)
    mcReserved := s.rig.mcReserved ++ [reservationOf site p] } } := by
  rw [State.asked, consume_ctrl hvc]

/-- A CTRL packet's credits are not those of BULK: what lies at a target for a source on VC 3 is as before. -/
theorem buffered_asked (src : Nat) : (s.asked site p).buffered src site 3 = s.buffered src site 3 := by
  have hkey : streamKey site src 3 ≠ streamKey site p.src 0 := by unfold streamKey; omega
  rw [asked_ctrl hvc, State.buffered, State.buffered]
  simp only [SMap.get_modify_ne _ _ _ hkey]

/-- A reservation that is not granted sets nothing aside. -/
theorem setAside_asked (src : Nat) : (s.asked site p).setAside src site = s.setAside src site := by
  rw [asked_ctrl hvc, State.setAside, State.setAside, sumOf_append]
  simp [sumOf, reservationOf]

end

section
variable {s : State} {site : Nat} {p : Packet} (hvc : p.vc = 0) (hall : s.rig.mcReserved.all (fun r => r.granted) = true)
include hvc hall

/-- With every earlier reservation granted, what the target grants turns on the new one. -/
theorem grantReservations_asked (hw : s.rig.withheld.who.contains site = false) :
    (s.asked site p).grantReservations site (s.asked site p).rig.mcReserved =
      (if (creditLimit site 3).getD 0 < s.buffered p.src site 3 + s.setAside p.src site + p.req.len then s.asked site p
      else { s.asked site p with rig := { (s.asked site p).rig with
        mcReserved := (s.asked site p).rig.mcReserved.map fun q =>
          if q = reservationOf site p then { q with granted := true } else q
        outbox := (s.asked site p).rig.outbox ++ [ctrlPacket 0x11 site p.src p.req.tag p.req.len] } }) := by
  have hwho : (s.asked site p).rig.withheld.who.contains site = false := by rw [asked_ctrl hvc, hw]
  have hres : (s.asked site p).rig.mcReserved = s.rig.mcReserved ++ [reservationOf site p] := by rw [asked_ctrl hvc]
  conv_lhs => rw [hres]
  rw [grantReservations_append hwho hall, State.grantReservations, if_neg (by rw [hwho]; decide),
    if_neg (by simp [reservationOf]), buffered_asked hvc, setAside_asked hvc]
  rfl

theorem asked_waits (h : s.rig.withheld.who.contains site = true ∨
      (creditLimit site 3).getD 0 < s.buffered p.src site 3 + s.setAside p.src site + p.req.len) :
    (s.asked site p).grantReservations site (s.asked site p).rig.mcReserved = s.asked site p := by
  cases hw : s.rig.withheld.who.contains site with
  | true => exact grantReservations_withheld (by rw [asked_ctrl hvc, hw]) _
  | false => exact (grantReservations_asked hvc hall hw).trans (if_pos (h.resolve_left (by rw [hw]; decide)))

theorem asked_granted (hw : s.rig.withheld.who.contains site = false)
    (h : s.buffered p.src site 3 + s.setAside p.src site + p.req.len ≤ (creditLimit site 3).getD 0) :
    (s.asked site p).grantReservations site (s.asked site p).rig.mcReserved = { s.asked site p with
      rig := { (s.asked site p).rig with
        mcReserved := s.rig.mcReserved ++ [{ reservationOf site p with granted := true }]
        outbox := s.rig.outbox ++ [ctrlPacket 0x11 site p.src p.req.tag p.req.len] } } := by
  have hmap : (s.rig.mcReserved.map fun q => if q = reservationOf site p then { q with granted := true } else q) =
      s.rig.mcReserved := by
    conv_rhs => rw [← List.map_id s.rig.mcReserved]
    refine List.map_congr_left fun q hq => if_neg ?_
    rintro rfl
    exact absurd (List.all_eq_true.mp hall _ hq) (by simp [reservationOf])
  rw [grantReservations_asked hvc hall hw, if_neg (Nat.not_lt.mpr h), asked_ctrl hvc, List.map_append, hmap]
  simp

end

/-! ### Grants and sending at the source (R204) -/

/-- A grant has come in for multicast `m`. -/
def McPending.grantedBy (m : McPending) (site : Nat) : McPending := { m with grants := site :: m.grants.erase site }

/-- A grant has been noted at the source, before the multicast is let go. -/
def State.noted (s : State) (site : Nat) (p : Packet) (m : McPending) : State :=
  let s1 := s.consume site p
  { s1 with rig := { s1.rig with mcPending := s1.rig.mcPending.map fun q => if q = m then m.grantedBy p.src else q } }

theorem mcGrant_next {s : State} {site : Nat} {p : Packet} {m : McPending} (hp : s.firstArrived site 0x11 = some p)
    (hvc : p.vc = 0) (hm : s.rig.mcPending.find? (fun m => m.src = site && m.tag = p.req.tag && !m.held) = some m) :
    exec (.mcGrant site) s = .next ((s.noted site p m).releaseMulticast (m.grantedBy p.src)) := by
  change execMcGrant site s = _
  have hpend : (s.consume site p).rig.mcPending = s.rig.mcPending := by rw [consume_ctrl hvc]
  rw [execMcGrant, hp]
  dsimp only
  rw [hpend, hm]
  dsimp only [State.noted]
  rw [hpend]
  rfl

theorem noted_ctrl {s : State} {site : Nat} {p : Packet} {m : McPending} (hvc : p.vc = 0) :
    s.noted site p m = { s with rig := { s.rig with
      arrived := s.rig.arrived.set site ((s.arrivedAt site).erase p)
      freed := s.rig.freed.modify 0 (streamKey site p.src 0) (· + packetFlits p)
      mcPending := s.rig.mcPending.map fun q => if q = m then m.grantedBy p.src else q } } := by
  rw [State.noted, consume_ctrl hvc]

theorem releaseMulticast_waits {s : State} {m : McPending}
    (h : m.packet.targets.all (fun d => m.grants.contains d.slot) = false) : s.releaseMulticast m = s := by
  rw [State.releaseMulticast, h]
  rfl

theorem splitLane_lt {s : State} {src mask k : Nat} (h : s.splitLane src mask = some k) : k < 16384 :=
  lt_of_mem_slotLanes (List.mem_of_find?_eq_some h)

theorem releaseMulticast_sends {s : State} {m : McPending} {k : Nat}
    (h : m.packet.targets.all (fun d => m.grants.contains d.slot) = true)
    (hk : s.splitLane m.src (packetMask m.packet) = some k)
    (hroom : replayFlits (s.laneAt k).replay + packetFlits m.packet ≤ 512) : s.releaseMulticast m = s.sendMulticast m k := by
  rw [State.releaseMulticast, h, hk]
  simp [replayRoom_lane (splitLane_lt hk), hroom]

/-- A packet sent on a lane takes its place there and is under way to every target of it (R185, R191). -/
theorem sendOnLane_multicast {s : State} {k : Nat} {p : Packet} (h : p.targets ≠ []) :
    s.sendOnLane k p = (s.modLane k fun l => { l with
      nextSeq := (l.nextSeq + packetFlits p) % 65536
      stream := l.stream + 136 * packetFlits p
      replay := l.replay ++ [(l.nextSeq, packetFlits p, p)] }).launch ((targetSlots (s.laneAt k).targets).map fun d =>
        Flight.mk (laneRx k d) (s.laneAt k).nextSeq { p with dst := d } (s.laneAt k).stream) := by
  rw [State.sendOnLane, if_neg h]

/-- A multicast that goes leaves what waits, is counted, and is under way on its split lane to every target (R204). -/
theorem sendMulticast_facts (s : State) {m : McPending} (k : Nat) (ht : m.packet.targets ≠ []) :
    (s.sendMulticast m k).rig.mcPending = s.rig.mcPending.erase m ∧
    (s.sendMulticast m k).rig.inFlight = s.rig.inFlight ++ (targetSlots (s.laneAt k).targets).map (fun d =>
      Flight.mk (laneRx k d) (s.laneAt k).nextSeq { m.packet with stamp := s.now, dst := d } (s.laneAt k).stream) ∧
    (s.sendMulticast m k).reg 0x402201 = satAdd 64 (s.reg 0x402201) 1 ∧ sameLanes k s (s.sendMulticast m k) ∧
    s.sendMulticast m k = { s with
      rig := { s.rig with
        mcPending := (s.sendMulticast m k).rig.mcPending, mcReserved := (s.sendMulticast m k).rig.mcReserved
        spent := (s.sendMulticast m k).rig.spent, lanes := (s.sendMulticast m k).rig.lanes
        inFlight := (s.sendMulticast m k).rig.inFlight }
      regs := (s.sendMulticast m k).regs } := by
  obtain ⟨c, h⟩ := sendMulticast_eq s m k
  rw [h, sendOnLane_multicast (p := { m.packet with stamp := s.now }) ht]
  exact ⟨rfl, rfl, reg_setReg_same _ _ _, fun _ hj => SMap.get_modify_ne _ _ _ hj _, rfl⟩

/-! ### Cancellation and fall-back (R205) -/

theorem mcCancel_next {s : State} {site : Nat} {p : Packet} (hp : s.firstArrived site 0x12 = some p) (hvc : p.vc = 0)
    (hall : (s.rig.mcReserved.filter (fun r => !(r.site = site && r.src = p.src && r.tag = p.req.tag))).all (fun r =>
      r.granted) = true) :
    exec (.mcCancel site) s = .next { s with rig := { s.rig with
      arrived := s.rig.arrived.set site ((s.arrivedAt site).erase p)
      freed := s.rig.freed.modify 0 (streamKey site p.src 0) (· + packetFlits p)
      mcReserved := s.rig.mcReserved.filter (fun r => !(r.site = site && r.src = p.src && r.tag = p.req.tag)) } } := by
  change execMcCancel site s = _
  rw [execMcCancel, hp]
  dsimp only
  rw [consume_ctrl hvc]
  exact congrArg _ (grantReservations_granted hall)

theorem multicastTimeout_next {s : State} {src tag : Nat} {m : McPending}
    (hm : s.rig.mcPending.find? (fun m => m.src = src && m.tag = tag && !m.held) = some m)
    (ht : m.sent + s.reg 0x402203 ≤ s.now) (hg : m.packet.targets.all (fun d => m.grants.contains d.slot) = false) :
    exec (.multicastTimeout src tag) s = .next (State.countReg { s with rig := { s.rig with
      mcPending := s.rig.mcPending.erase m
      outbox := s.rig.outbox ++ m.packet.targets.map (fun d => ctrlPacket 0x12 m.src d.slot m.tag 0) ++
        m.packet.targets.map (unicastTo m.packet) } } 0x402202 64 1) := by
  change execMulticastTimeout src tag s = _
  rw [execMulticastTimeout, hm]
  dsimp only
  rw [hg, if_neg (by simpa using ht)]
  rfl

/-- Settles O23: each command of a multicast by its own equation; a CTRL packet that leaves its buffer grants nothing, so
that what a target grants turns on the new reservation alone. -/
theorem multicastReserves : Obligations.MulticastReserves := by
  unfold Obligations.MulticastReserves
  refine ⟨?_, ?_, ?_, ?_, ?_, ?_⟩
  · intro s site p hp hvc hs hall hw hfree
    refine ⟨_, mcReserve_next hp hs, ?_⟩
    rw [asked_granted hvc hall hw hfree, asked_ctrl hvc]
    exact ⟨rfl, rfl, SMap.get_set_same _ _ _ _, rfl⟩
  · intro s site p hp hvc hs hall h
    refine ⟨_, mcReserve_next hp hs, ?_⟩
    rw [asked_waits hvc hall h, asked_ctrl hvc]
    exact ⟨rfl, rfl, SMap.get_set_same _ _ _ _, rfl⟩
  · rintro s site p m _ hp hvc hm rfl hg
    refine ⟨_, mcGrant_next hp hvc hm, ?_⟩
    rw [releaseMulticast_waits hg, noted_ctrl hvc]
    exact ⟨rfl, SMap.get_set_same _ _ _ _, rfl⟩
  · rintro s site k p m _ hp hvc hm rfl hg ht hk hroom
    refine ⟨_, mcGrant_next hp hvc hm, ?_⟩
    rw [releaseMulticast_sends (m := m.grantedBy p.src) (k := k) hg (by rw [noted_ctrl hvc]; exact hk)
      (by rw [noted_ctrl hvc]; exact hroom), noted_ctrl hvc]
    obtain ⟨hpend, hflight, hreg, hlanes, honly⟩ := sendMulticast_facts { s with rig := { s.rig with
      arrived := s.rig.arrived.set site ((s.arrivedAt site).erase p)
      freed := s.rig.freed.modify 0 (streamKey site p.src 0) (· + packetFlits p)
      mcPending := s.rig.mcPending.map fun q => if q = m then m.grantedBy p.src else q } } (m := m.grantedBy p.src) k ht
    refine ⟨hpend, hflight, hreg, hlanes, ?_⟩
    rw [honly]
  · intro s site p hp hvc hall
    exact ⟨_, mcCancel_next hp hvc hall, rfl, SMap.get_set_same _ _ _ _, rfl⟩
  · intro s src tag m hm ht hg
    exact ⟨_, multicastTimeout_next hm ht hg, rfl, rfl, reg_setReg_same _ _ _, rfl⟩

end Sys2Proof.Machine

/-! PROOF. O22: packets admitted to a lane or refused, delivered in the order of their stream, applied at their site, and a guest's
packets (R186 to R203, R209). -/

namespace Sys2Proof.Machine

/-! ### Admission (R191 to R200) -/

section
variable {s : State} {src n lane : Nat} {p : Packet}
  (hp : (s.rig.outbox.filter fun q => q.src = src)[n]? = some p) (hbell : s.bellHoldsGuest p = false)
  (hfence : s.slotFenced src p = false) (htargets : p.targets = [])
include hp

theorem src_of_waiting : p.src = src := by
  have h := (List.mem_filter.mp (List.mem_of_getElem? hp)).2
  exact of_decide_eq_true h

include hbell hfence htargets

/-- A packet to a slot that is not populated, or on a VC without credits there, is refused (R23, R195). -/
theorem packetAdmit_refused (h : s.sitePopulated p.dst = false ∨ creditLimit p.dst p.vc = some 0) :
    exec (.packetAdmit src n lane) s = .next ((s.leaveOutbox p).slotRefusal src p.dst p.req.op 0xFF) := by
  change execPacketAdmit src n lane s = _
  have hrefused : (!s.sitePopulated p.dst || decide (creditLimit p.dst p.vc = some 0)) = true := by
    rcases h with h | h <;> simp [h]
  unfold execPacketAdmit
  dsimp only
  rw [hp]
  dsimp only
  rw [hbell, hfence, if_neg (by decide), if_neg (not_not_intro htargets), if_pos hrefused]

/-- A packet that is the next of its stream, with a path open to it whose turn it is, is admitted there. -/
theorem packetAdmit_admitted {path : Nat} (hpop : s.sitePopulated p.dst = true) (hlimit : creditLimit p.dst p.vc ≠ some 0)
    (hfirst : ((s.rig.outbox.filter fun q => q.src = src).take n).all (fun q =>
      !(q.targets = [] && q.dst = p.dst && q.vc = p.vc)) = true)
    (hpath : s.pathFor p lane = some path) (hgo : s.mayGo p path = true)
    (hturn : s.mayTake path p.vc ((s.rivals (s.rig.outbox.filter fun q => q.src = src) lane path).map (·.vc)) = true) :
    exec (.packetAdmit src n lane) s = .next (s.admitOn p path) := by
  change execPacketAdmit src n lane s = _
  have hany : ¬ ((s.rig.outbox.filter fun q => q.src = src).take n).any (fun q =>
      q.targets = [] && q.dst = p.dst && q.vc = p.vc) = true := by
    rw [List.any_eq_true]
    rintro ⟨q, hq, h⟩
    have hno := List.all_eq_true.mp hfirst q hq
    rw [h] at hno
    exact absurd hno (by decide)
  unfold execPacketAdmit
  dsimp only
  rw [hp]
  dsimp only
  rw [hbell, hfence, if_neg (by decide), if_neg (not_not_intro htargets), if_neg (by simp [hpop, hlimit]), if_neg hany, hpath]
  dsimp only
  rw [hgo, hturn]
  rfl

end

/-- A packet of no multicast and not CTRL takes the lane chosen among those aimed solely at its destination (R199). -/
theorem pathFor_lane {s : State} {p : Packet} {lane : Nat} (hvc : p.vc ≠ 0) (hstand : p.stand = false)
    (h : laneKey p.src lane ∈ s.soleLanes p.src p.dst) : s.pathFor p lane = some (laneKey p.src lane) := by
  unfold State.pathFor
  dsimp only
  rw [if_neg hvc, if_neg (by simp [hstand])]
  split
  next hnil => rw [hnil] at h; cases h
  next => exact if_pos (List.contains_iff_mem.mpr h)

theorem lt_of_mem_soleLanes {s : State} {src dst k : Nat} (h : k ∈ s.soleLanes src dst) : k < 16384 :=
  lt_of_mem_slotLanes (List.mem_filter.mp h).1

theorem mayGo_lane {s : State} {p : Packet} {k : Nat} (hk : k < 16384) (hc : s.hasCredits p.src p.dst p.vc (packetFlits p) = true)
    (ho : s.onStanding p.src p.dst p.vc = false) : s.mayGo p k = true := by
  simp [State.mayGo, hc, hk, ho]

theorem takeTurn_only (s : State) (path vc n : Nat) :
    ∃ m, s.takeTurn path vc n = { s with rig := { s.rig with turns := m } } := by
  unfold State.takeTurn
  split
  · exact ⟨_, rfl⟩
  · exact ⟨_, rfl⟩

/-- A packet sent on a lane to its one destination (R185, R191). -/
theorem sendOnLane_single {s : State} {k : Nat} {p : Packet} (h : p.targets = []) :
    s.sendOnLane k p = (s.modLane k fun l => { l with
      nextSeq := (l.nextSeq + packetFlits p) % 65536
      stream := l.stream + 136 * packetFlits p
      replay := l.replay ++ [(l.nextSeq, packetFlits p, p)] }).launch
        [Flight.mk (laneRx k p.dst) (s.laneAt k).nextSeq p (s.laneAt k).stream] := by
  rw [State.sendOnLane, if_pos h]
  rfl

/-- A fresh packet takes the next PSEQ of its stream, and the time (R186, R200). -/
def State.stamped (s : State) (p : Packet) : Packet :=
  { p with pseq := s.rig.pseqNext.get 0 (streamKey p.src p.dst p.vc), stamp := s.now }

theorem packetFlits_stamped (s : State) (p : Packet) : packetFlits (s.stamped p) = packetFlits p := rfl

/-- A fresh packet that a lane has room for leaves what waits, takes the next PSEQ and SEQ, and is under way (R186, R191, R200). -/
theorem admitOn_lane {s : State} {p : Packet} {k : Nat} (hk : k < 16384) (ha : p.again = .no) (ht : p.targets = [])
    (hroom : replayFlits (s.laneAt k).replay + packetFlits p ≤ 512) : ∃ m, s.admitOn p k = { s with rig := { s.rig with
      outbox := s.rig.outbox.erase p
      pseqNext := s.rig.pseqNext.set (streamKey p.src p.dst p.vc)
        ((s.rig.pseqNext.get 0 (streamKey p.src p.dst p.vc) + 1) % 65536)
      spent := s.rig.spent.modify 0 (streamKey p.dst p.src p.vc) (· + packetFlits p)
      lanes := s.rig.lanes.modify (defaultLane k) k fun l => { l with
        nextSeq := (l.nextSeq + packetFlits p) % 65536
        stream := l.stream + 136 * packetFlits p
        replay := l.replay ++ [(l.nextSeq, packetFlits p, s.stamped p)] }
      inFlight := s.rig.inFlight ++ [Flight.mk (laneRx k p.dst) (s.laneAt k).nextSeq (s.stamped p) (s.laneAt k).stream]
      turns := m } } := by
  have hpath : ¬ (decide (16384 ≤ k) && decide (p.again = .no) && decide (4 < dataFlits p)) = true := by simp; omega
  have hfresh : (s.leaveOutbox p).sendOn p k =
      State.sendOnLane { s with rig := { s.rig with
        outbox := s.rig.outbox.erase p
        pseqNext := s.rig.pseqNext.set (streamKey p.src p.dst p.vc)
          ((s.rig.pseqNext.get 0 (streamKey p.src p.dst p.vc) + 1) % 65536)
        spent := s.rig.spent.modify 0 (streamKey p.dst p.src p.vc) (· + packetFlits p) } } k (s.stamped p) := by
    rw [State.sendOn, if_neg (by rw [ha]; decide)]
    exact if_pos hk
  rw [State.admitOn, if_neg hpath, replayRoom_lane hk, if_neg (by simp [hroom]), hfresh,
    sendOnLane_single (p := s.stamped p) ht, packetFlits_stamped]
  exact takeTurn_only _ k p.vc (packetFlits p)

theorem slotRefusal_facts (s : State) (src dst op plan : Nat) :
    (s.slotRefusal src dst op plan).reg 0x400003 = satAdd 32 (s.reg 0x400003) 1 ∧
    (s.slotRefusal src dst op plan).raised 0x1301 = s.raised 0x1301 + 1 ∧
    s.slotRefusal src dst op plan = { s with
      regs := (s.slotRefusal src dst op plan).regs, control := (s.slotRefusal src dst op plan).control
      dbg := (s.slotRefusal src dst op plan).dbg } := by
  refine ⟨(reg_raise (by decide) _ _ _ _ _).trans (reg_setReg_same _ _ _), State.raised_raise _ _ _ _ _ (by decide), ?_⟩
  apply State.ext_of <;> simp only [State.slotRefusal_kept]

/-! ### Delivery (R191, R200) -/

/-- A pair's relay is neither of its ends (R193). -/
theorem relayOf_ne {s : State} {src dst r : Nat} (h : s.relayOf src dst = some r) : r ≠ dst := by
  unfold State.relayOf at h
  split at h
  · have hr := List.find?_some h
    simp only [Bool.and_eq_true, decide_eq_true_eq] at hr
    exact hr.1.1.2
  · cases h

/-- A packet read whole at its destination is taken in when it is the next of its stream; an older one is dropped. -/
theorem packetDelivery_next {s : State} {src dst vc corrected : Nat} {noise : List SymbolError} {f : Flight}
    (hf : s.rig.inFlight.find? (fun f => f.packet.src = src && f.packet.dst = dst && f.packet.vc = vc && s.deliverable f) = some f)
    (hend : pathEnd f.path = f.packet.dst) (htargets : f.packet.targets = [])
    (hread : (if noise = [] then ((none : Option FlitFailure), 0) else s.received f false noise) = (none, corrected)) :
    exec (.packetDelivery src dst vc noise) s =
      .next (if f.packet.pseq ≠ s.pseqAt f.packet then (s.land f).countReg 0x402101 64 corrected
        else ((s.land f).countReg 0x402101 64 corrected).deliver f.packet) := by
  change execPacketDelivery src dst vc noise s = _
  have hrelay : decide (s.relayOf f.packet.src f.packet.dst = some (pathEnd f.path)) = false :=
    decide_eq_false fun h => relayOf_ne h hend
  unfold execPacketDelivery
  dsimp only
  rw [hf]
  dsimp only
  rw [hrelay, hread]
  dsimp only
  rw [if_neg (not_not_intro hend)]
  by_cases h : f.packet.pseq = s.pseqAt f.packet <;> simp [h, htargets]

/-- A packet delivered that a command of its own takes up stands at its destination, and its stream goes on (R200). -/
theorem deliver_arrives {s : State} {p : Packet} (ht : p.targets = []) (hop : p.req.op ∈ [0x10, 0x11, 0x12, 0x60, 0x62, 0x63])
    (ha : p.again ≠ .copy true) : s.deliver p = { s with rig := { s.rig with
      pseqExpected := s.rig.pseqExpected.set (streamKey p.src p.dst p.vc) ((p.pseq + 1) % 65536)
      arrived := s.rig.arrived.modify [] p.dst (· ++ [p]) } } := by
  have hlist : [0x10, 0x11, 0x12, 0x60, 0x61, 0x62, 0x63].contains p.req.op = true := by
    rw [List.contains_iff_mem]
    simp only [List.mem_cons, List.not_mem_nil, or_false] at hop ⊢
    omega
  unfold State.deliver
  dsimp only
  rw [if_neg ha, if_pos hlist, if_neg (not_not_intro ht)]

/-! ### Writes applied (R128, R187, R203) -/

theorem applyWrite_done {s s1 : State} {site : Nat} {p : Packet} {q : Req} {a : Answer}
    (hw : s.performWrite q (s.originRequester q) = (a, s1)) (ha : a ≠ .stalled) :
    s.applyWrite site p q = (s1.settleWrite q a).consume site p := by
  rw [State.applyWrite, hw]
  split
  next h => exact absurd (congrArg Prod.fst h) ha
  next h =>
    obtain ⟨rfl, rfl⟩ := Prod.mk.inj h
    rfl

/-! ### Guests (R209) -/

/-- A packet as a guest's interface forms it. -/
def guestForm (g : Nat) (p : Packet) : Packet := { p with src := 5 + g, pseq := 0, req := { p.req with origin := .guest g } }

/-- Whether a guest's packet is dropped: the form of its header, what it must keep of R186 to R195, its credits, and the filter. -/
def State.guestDrops (s : State) (g : Nat) (w : Bool) (q : Packet) : Bool :=
  !w || !packetGood q || !s.hasCredits (5 + g) q.dst q.vc (packetFlits q) || !s.guestAdmits g q

theorem guestPacket_next {s : State} {g : Nat} (hpop : s.sitePopulated (5 + g) = true) (p : Packet) (w : Bool) :
    exec (.guestPacket g p w) s = .next (if s.guestDrops g w (guestForm g p) = true then s.dropGuestPacket g p.req.op
      else if (guestForm g p).vc = 0 then s.toOutbox [guestForm g p] else s) := by
  have hexec : exec (.guestPacket g p w) s = if (!s.sitePopulated (5 + g)) = true then .next s
      else if s.guestDrops g w (guestForm g p) = true then .next (s.dropGuestPacket g p.req.op)
      else if (guestForm g p).vc = 0 then .next (s.toOutbox [guestForm g p]) else .next s := rfl
  rw [hexec, hpop, if_neg (by decide), apply_ite Host.Outcome.next, apply_ite Host.Outcome.next]

/-- A packet of a guest that is dropped is counted, and raised when none of its site has been, or 1 ms after the last that was. -/
theorem dropGuestPacket_cases (s : State) (g op : Nat) :
    (s.dropGuestPacket g op = s.countReg 0x402302 64 1 ∧ SMap.lookup s.rig.guestDropEvent.entries g ≠ none) ∨
    s.dropGuestPacket g op = State.raise { s.countReg 0x402302 64 1 with
      rig := { s.rig with guestDropEvent := s.rig.guestDropEvent.set g s.now } } 0x1305 0 (siteUnit (5 + g))
      (leBytes 1 (5 + g) ++ leBytes 1 op) := by
  unfold State.dropGuestPacket
  dsimp only
  cases h : SMap.lookup s.rig.guestDropEvent.entries g with
  | none => exact .inr rfl
  | some t =>
    dsimp only
    split
    · exact .inr rfl
    · exact .inl ⟨rfl, by simp⟩

theorem dropGuestPacket_facts (s : State) (g op : Nat) :
    (s.dropGuestPacket g op).rig.outbox = s.rig.outbox ∧ (s.dropGuestPacket g op).rig.inFlight = s.rig.inFlight ∧
    (s.dropGuestPacket g op).reg 0x402302 = satAdd 64 (s.reg 0x402302) 1 ∧
    (SMap.lookup s.rig.guestDropEvent.entries g = none → (s.dropGuestPacket g op).raised 0x1305 = s.raised 0x1305 + 1) ∧
    (s.dropGuestPacket g op).memory = s.memory ∧
    s.dropGuestPacket g op = { s with
      rig := (s.dropGuestPacket g op).rig, regs := (s.dropGuestPacket g op).regs
      control := (s.dropGuestPacket g op).control, dbg := (s.dropGuestPacket g op).dbg } := by
  have honly : s.dropGuestPacket g op = { s with
      rig := (s.dropGuestPacket g op).rig, regs := (s.dropGuestPacket g op).regs
      control := (s.dropGuestPacket g op).control, dbg := (s.dropGuestPacket g op).dbg } := by
    apply State.ext_of <;> simp only [State.dropGuestPacket_kept]
  obtain ⟨h, hsome⟩ | h := dropGuestPacket_cases s g op
  · rw [h]
    exact ⟨rfl, rfl, reg_setReg_same _ _ _, fun hnone => absurd hnone hsome, rfl, rfl⟩
  · refine ⟨?_, ?_, ?_, fun _ => ?_, ?_, honly⟩
    · rw [h, State.raise_rig]
    · rw [h, State.raise_rig]
    · rw [h]
      exact (reg_raise (by decide) _ _ _ _ _).trans (reg_setReg_same _ _ _)
    · rw [h]
      exact State.raised_raise _ _ _ _ _ (by decide)
    · rw [h, State.raise_memory]
      rfl

/-- Settles O22: admission, delivery, the writes and a guest's packets each by the equation of its command; a pair's relay is
never its destination, so that a packet read there is read as its own. -/
theorem packetsTravel : Obligations.PacketsTravel := by
  unfold Obligations.PacketsTravel
  refine ⟨?_, ?_, ?_, ?_, ?_, ?_, ?_, ?_⟩
  · intro s src n lane p hp hbell hfence ht hpop hlimit hfirst hvc hstand hsole hcredit hroom hstanding hagain hturn
    obtain rfl := src_of_waiting hp
    have hk := lt_of_mem_soleLanes hsole
    refine ⟨_, packetAdmit_admitted hp hbell hfence ht hpop hlimit hfirst (pathFor_lane hvc hstand hsole)
      (mayGo_lane hk hcredit hstanding) hturn, ?_⟩
    obtain ⟨m, hm⟩ := admitOn_lane hk hagain ht hroom
    rw [hm]
    refine ⟨rfl, rfl, ?_, SMap.get_set_same _ _ _ _, SMap.get_modify_same _ _ _ _, fun _ hj => SMap.get_modify_ne _ _ _ hj _, rfl⟩
    simp only [State.laneAt, SMap.get_modify_same]
  · intro s src n lane p hp hbell hfence ht h
    obtain ⟨hreg, hraised, honly⟩ := slotRefusal_facts (s.leaveOutbox p) src p.dst p.req.op 0xFF
    refine ⟨_, packetAdmit_refused hp hbell hfence ht h, ?_, hreg, hraised, ?_, ?_⟩
    · rw [honly]; rfl
    · rw [honly]; rfl
    · rw [honly]; rfl
  · intro s src dst vc corrected noise f hf hend ht hseq hop ha hread
    refine ⟨_, packetDelivery_next hf hend ht hread, ?_⟩
    rw [if_neg (not_not_intro hseq), deliver_arrives ht hop ha]
    exact ⟨SMap.get_modify_same _ _ _ _, rfl, SMap.get_set_same _ _ _ _, reg_setReg_same _ _ _, rfl⟩
  · intro s src dst vc f hf hend ht hseq
    refine ⟨_, packetDelivery_next (noise := []) (corrected := 0) hf hend ht rfl, ?_⟩
    rw [if_pos hseq]
    exact ⟨rfl, rfl, rfl, rfl⟩
  · intro s s1 site p a hp hw ha
    obtain ⟨b, f, r, o, hc, hb⟩ := consume_only (s1.settleWrite p.req a) site p
    have hexec : exec (.bulkWrite site) s = .next (s.applyWrite site p p.req) := by
      change execBulkWrite site s = _
      rw [execBulkWrite, hp]
    refine ⟨_, hexec.trans (congrArg _ ((applyWrite_done hw ha).trans hc)), hb, rfl⟩
  · intro s s1 site p d a hp hd hw ha
    obtain ⟨b, f, r, o, hc, hb⟩ := consume_only (s1.settleWrite (unicastTo p d).req a) site p
    have hexec : exec (.mcWrite site) s = .next (s.applyWrite site p (unicastTo p d).req) := by
      change execMcWrite site s = _
      rw [execMcWrite, hp]
      dsimp only
      rw [hd]
    refine ⟨_, hexec.trans (congrArg _ ((applyWrite_done hw ha).trans hc)), hb, rfl, rfl⟩
  · rintro s g p q hpop hq hgood hcredit hadmit
    obtain rfl : q = guestForm g p := hq
    have hpass : ¬ s.guestDrops g true (guestForm g p) = true := by simp [State.guestDrops, hgood, hcredit, hadmit]
    exact ⟨_, guestPacket_next hpop p true, fun h => (if_neg hpass).trans (if_pos h), fun h => (if_neg hpass).trans (if_neg h)⟩
  · rintro s g p q w hpop hq h
    obtain rfl : q = guestForm g p := hq
    have hdrop : s.guestDrops g w (guestForm g p) = true := by
      rcases h with h | h | h | h <;> simp [State.guestDrops, h]
    refine ⟨_, guestPacket_next hpop p w, ?_⟩
    rw [if_pos hdrop]
    exact dropGuestPacket_facts s g p.req.op

end Sys2Proof.Machine

/-! PROOF. O24: reports of link control flits, flits that fail, acknowledgements, lanes that are taken out, trained and brought back,
and standing paths that go down (R189 to R195). -/

namespace Sys2Proof.Machine

/-! ### Reports (R189, R191, R193) -/

/-- Site `d`'s link control flit to `a` as it leaves: on the standing path, or to its relay. -/
def State.reportOf (s : State) (d a : Nat) : Output :=
  .linkControl d ((s.relayOf d a).getD a) (linkContent (s.linkReport d a))

/-- What has been sent, `l` after the rest. -/
def State.wired (s : State) (l : List Output) : State := { s with control := { s.control with wire := s.control.wire ++ l } }

theorem wired_wired (s : State) (l m : List Output) : (s.wired l).wired m = s.wired (l ++ m) := by
  simp only [State.wired, List.append_assoc]

/-- What a site reports does not depend on what has left. -/
theorem reportOf_wired (s : State) (l : List Output) (d : Nat) : (s.wired l).reportOf d = s.reportOf d := rfl

theorem sendReport_eq (s : State) (d a : Nat) : s.sendReport d a = s.wired [s.reportOf d a] := rfl

theorem foldl_sendReport (s : State) (d : Nat) (l : List Nat) :
    l.foldl (fun s a => s.sendReport d a) s = s.wired (l.map (s.reportOf d)) := by
  induction l generalizing s with
  | nil => simp only [List.foldl_nil, List.map_nil, State.wired, List.append_nil]
  | cons a l ih => rw [List.foldl_cons, ih, sendReport_eq, reportOf_wired, wired_wired, List.singleton_append, List.map_cons]

/-- The sites that `site` owes a report. -/
def State.owed (s : State) (site : Nat) : List Nat :=
  (List.range 11).filter fun a => a ≠ site && s.sitePopulated a && s.owesAck site a

theorem ackInterval_next (s : State) (site : Nat) : exec (.ackInterval site) s =
    .next (((List.range 64).filter fun p => 7 + p / 16 = site && s.portOwesAck p).foldl (fun s p => s.sendPortControl p false)
      (((List.range 2).filter fun k => site = 4 && s.krytaeOwesAck k).foldl (fun s k => s.sendKrytaeControl k false)
        (s.wired ((s.owed site).map (s.reportOf site))))) := by
  change execAckInterval site s = _
  unfold execAckInterval
  dsimp only
  rw [foldl_sendReport]
  rfl

theorem krytaeOwing_none {s : State} {site : Nat}
    (h : site ≠ 4 ∨ s.krytaeOwesAck 0 = false ∧ s.krytaeOwesAck 1 = false) :
    ((List.range 2).filter fun k => site = 4 && s.krytaeOwesAck k) = [] := by
  rw [List.filter_eq_nil_iff]
  intro k hk
  have hk : k = 0 ∨ k = 1 := by rw [List.mem_range] at hk; omega
  rcases h with h | ⟨h0, h1⟩
  · simp [h]
  · rcases hk with rfl | rfl
    · simp [h0]
    · simp [h1]

theorem portsOwing_none {s : State} {site : Nat}
    (h : ((List.range 64).all fun p => !(decide (7 + p / 16 = site) && s.portOwesAck p)) = true) :
    ((List.range 64).filter fun p => 7 + p / 16 = site && s.portOwesAck p) = [] := by
  rw [List.filter_eq_nil_iff]
  intro p hp howes
  have hno := List.all_eq_true.mp h p hp
  rw [howes] at hno
  exact absurd hno (by decide)

/-! ### Link control flits of ports (R264, R410) -/

theorem sendPortControl_eq (s : State) (p : Nat) (nak : Bool) : s.sendPortControl p nak =
    (s.wired [.portControl p false nak (if nak then (s.port p).rxSeq else ((s.port p).rxSeq + 65535) % 65536)
      ((List.range 6).map fun vc => (s.port p).freed.get 0 vc)]).modPort p fun q =>
        { q with rxReported := (s.port p).rxSeq, controlAt := s.now } := rfl

theorem sendKrytaeControl_eq (s : State) (k : Nat) (nak : Bool) : s.sendKrytaeControl k nak =
    (s.wired [.portControl k true nak (if nak then (s.krytae k).rxSeq else ((s.krytae k).rxSeq + 65535) % 65536)
      [(s.krytae k).freed]]).modKrytae k fun q => { q with rxReported := (s.krytae k).rxSeq, controlAt := s.now } := rfl

/-- A port that has reported at a time. -/
def Port.reportedAt (now : Nat) (k : Port) : Port := { k with rxReported := k.rxSeq, controlAt := now }

/-- A Krytae port that has reported at a time. -/
def Krytae.reportedAt (now : Nat) (k : Krytae) : Krytae := { k with rxReported := k.rxSeq, controlAt := now }

theorem port_sendPortControl (s : State) (p q : Nat) (nak : Bool) :
    (s.sendPortControl p nak).port q = if q = p then (s.port p).reportedAt s.now else s.port q := by
  rw [sendPortControl_eq, State.port_modPort]
  rfl

theorem krytae_sendKrytaeControl (s : State) (k j : Nat) (nak : Bool) :
    (s.sendKrytaeControl k nak).krytae j = if j = k then (s.krytae k).reportedAt s.now else s.krytae j := by
  rw [sendKrytaeControl_eq]
  exact SMap.get_modify _ _ _ _ _

theorem port_foldl_sendPortControl (s : State) (l : List Nat) (p : Nat) :
    (l.foldl (fun s p => s.sendPortControl p false) s).port p = if p ∈ l then (s.port p).reportedAt s.now else s.port p :=
  foldl_view (view := State.port) (g := fun _ => Port.reportedAt s.now) (f := fun s p => s.sendPortControl p false)
    (I := fun t => t.now = s.now) (fun _ _ h => h) (fun _ _ => rfl)
    (fun t c k h => by rw [port_sendPortControl, h]) l rfl p

theorem krytae_foldl_sendKrytaeControl (s : State) (l : List Nat) (k : Nat) :
    (l.foldl (fun s k => s.sendKrytaeControl k false) s).krytae k =
      if k ∈ l then (s.krytae k).reportedAt s.now else s.krytae k :=
  foldl_view (view := State.krytae) (g := fun _ => Krytae.reportedAt s.now) (f := fun s k => s.sendKrytaeControl k false)
    (I := fun t => t.now = s.now) (fun _ _ h => h) (fun _ _ => rfl)
    (fun t c k h => by rw [krytae_sendKrytaeControl, h]) l rfl k

theorem foldl_sendPortControl_only (s : State) (l : List Nat) :
    ∃ d c, l.foldl (fun s p => s.sendPortControl p false) s = { s with domain := d, control := c } := by
  induction l generalizing s with
  | nil => exact ⟨_, _, rfl⟩
  | cons p l ih => exact ih (s.sendPortControl p false)

theorem foldl_sendKrytaeControl_only (s : State) (l : List Nat) :
    ∃ c, l.foldl (fun s k => s.sendKrytaeControl k false) s = { s with control := c } := by
  induction l generalizing s with
  | nil => exact ⟨_, rfl⟩
  | cons k l ih => exact ih (s.sendKrytaeControl k false)

/-! ### Flits that fail (R188, R191) -/

/-- The entry that counts flits that failed as `cause` says. -/
def failureEntry (cause : FlitFailure) : Nat := if cause = .codeword then 0x402102 else 0x402103

/-- A receiver has found a failed flit: it is counted, the receiver discards, and its site says so in its next report. -/
def State.flitRefused (s : State) (key dst src entry : Nat) : State :=
  ((s.countReg entry 64 1).modReceiver key fun r => { r with discarding := true }).sendReport dst src

theorem flitUncorrectable_lane (s : State) {slot lane dst : Nat} (hdst : dst < 16) (cause : FlitFailure) :
    exec (.flitUncorrectable (.lane slot lane dst) cause) s =
      .next (s.flitRefused (laneRx (laneKey slot lane) dst) dst slot (failureEntry cause)) := by
  change execFlitUncorrectable (.lane slot lane dst) cause s = _
  have hkey : laneRx (laneKey slot lane) dst % 16 = dst := by unfold laneRx; omega
  rw [execFlitUncorrectable, State.flitFails, hkey, failureEntry]
  split <;> rfl

theorem flitRefused_facts (s : State) (key dst src entry : Nat) :
    (s.flitRefused key dst src entry).receiver key = { s.receiver key with discarding := true } ∧
    (s.flitRefused key dst src entry).control.wire =
      s.control.wire ++ [(s.flitRefused key dst src entry).reportOf dst src] ∧
    (s.flitRefused key dst src entry).reg entry = satAdd 64 (s.reg entry) 1 ∧
    (s.flitRefused key dst src entry).rig = { s.rig with receivers := (s.flitRefused key dst src entry).rig.receivers } ∧
    s.flitRefused key dst src entry = { s with
      rig := (s.flitRefused key dst src entry).rig, control := (s.flitRefused key dst src entry).control
      regs := (s.flitRefused key dst src entry).regs } :=
  ⟨receiver_modReceiver_same _ _ _, rfl, reg_setReg_same _ _ _, rfl, rfl⟩

/-! ### Link control flits read at the sender (R189, R191, R195) -/

theorem linkControlFlit_read {s : State} {f : LinkFlit} (hne : f.sender ≠ f.receiver) (hs : s.sitePopulated f.sender = true)
    (hr : s.sitePopulated f.receiver = true) : exec (.linkControlFlit (.rig f.sender) f) s =
      .next ((f.entries.foldl (fun s e => s.linkEntry f.receiver (laneKey f.sender e.1) e.2.1 e.2.2)
        ((s.readCredits f).standingReport f.sender f.receiver f)).releaseMulticasts f.sender) := by
  change execLinkControlFlit (.rig f.sender) f s = _
  unfold execLinkControlFlit
  simp [hne, hs, hr]

theorem linkControlFlit_relayed {s : State} {site : Nat} {f : LinkFlit} (hne : f.sender ≠ f.receiver)
    (hs : s.sitePopulated f.sender = true) (hr : s.sitePopulated f.receiver = true) (hsite : site ≠ f.sender)
    (hrelay : f.relayed = true) : exec (.linkControlFlit (.rig site) f) s =
      .next (s.wired [.linkControl site f.sender (linkContent f)]) := by
  change execLinkControlFlit (.rig site) f s = _
  unfold execLinkControlFlit
  dsimp only
  rw [if_neg (by simp [hne, hs, hr]), if_pos hsite, if_pos hrelay]
  rfl

/-- A path that no longer waits on its replay buffer: only the meter of such waits, and its count. -/
theorem endFull_only (s : State) (path : Nat) :
    ∃ m r, s.endFull path = { s with rig := { s.rig with full := m }, regs := r } ∧
      ∀ j, j ≠ 0x402106 → (s.endFull path).reg j = s.reg j := by
  unfold State.endFull
  dsimp only
  split
  · exact ⟨_, _, rfl, fun _ _ => rfl⟩
  · split
    · exact ⟨_, _, rfl, fun _ hj => reg_setReg_ne hj _⟩
    · exact ⟨_, _, rfl, fun _ _ => rfl⟩

theorem get_foldl_set {α : Type} (d : α) {key : Nat → Nat} (hkey : ∀ a b, key a = key b → a = b) (val : Nat → α)
    (l : List Nat) (m : SMap α) (v : Nat) : (l.foldl (fun m v => m.set (key v) (val v)) m).get d (key v) =
      if v ∈ l then val v else m.get d (key v) := by
  induction l generalizing m with
  | nil => rfl
  | cons a l ih =>
    rw [List.foldl_cons, ih, SMap.get_set]
    by_cases hl : v ∈ l
    · simp [hl]
    · by_cases hv : v = a
      · simp [hv]
      · have hne : ¬ key v = key a := fun h => hv (hkey _ _ h)
        simp [hl, hv, hne]

/-- A report that acknowledges: the credits it returns are read, and the standing path keeps what it had not (R189, R191). -/
def State.acknowledged (s : State) (f : LinkFlit) : State :=
  ((s.readCredits f).endFull (standPath f.sender f.receiver)).modStanding f.sender f.receiver fun q =>
    { q with naks := 0, replay := q.replay.filter fun e => !ackedBy f.sack e }

theorem standingReport_acknowledges {s : State} {f : LinkFlit} (hsop : f.sop = false)
    (hst : (s.standing f.sender f.receiver).state ≠ .retraining) :
    (s.readCredits f).standingReport f.sender f.receiver f = s.acknowledged f := by
  have hst' : ¬ ((s.readCredits f).standing f.sender f.receiver).state = .retraining := hst
  rw [State.standingReport, if_neg hst', if_neg (by rw [hsop]; decide)]
  rfl

theorem acknowledged_facts (s : State) (f : LinkFlit) :
    (s.acknowledged f).standing f.sender f.receiver = { s.standing f.sender f.receiver with
      naks := 0, replay := (s.standing f.sender f.receiver).replay.filter fun e => !ackedBy f.sack e } ∧
    (∀ v, v < 6 → (s.acknowledged f).rig.credited.get 0 (streamKey f.receiver f.sender v) = f.credits.getD v 0) ∧
    (∀ j, j ≠ 0x402106 → (s.acknowledged f).reg j = s.reg j) ∧
    s.acknowledged f = { s with
      rig := { s.rig with
        standing := (s.acknowledged f).rig.standing, credited := (s.acknowledged f).rig.credited
        full := (s.acknowledged f).rig.full }
      regs := (s.acknowledged f).regs } := by
  obtain ⟨m, r, h, hreg⟩ := endFull_only (s.readCredits f) (standPath f.sender f.receiver)
  have hcredit : ∀ v, v < 6 → (s.readCredits f).rig.credited.get 0 (streamKey f.receiver f.sender v) = f.credits.getD v 0 :=
    fun v hv => by
      have hget := get_foldl_set 0 (key := streamKey f.receiver f.sender) (fun a b h => by unfold streamKey at h; omega)
        (fun v => f.credits.getD v 0) (List.range 6) s.rig.credited v
      rw [if_pos (List.mem_range.mpr hv)] at hget
      exact hget
  refine ⟨?_, fun v hv => ?_, hreg, ?_⟩
  · rw [State.acknowledged, standing_modStanding_same, h]
    rfl
  · rw [State.acknowledged, h]
    exact hcredit v hv
  · rw [State.acknowledged, h]
    rfl

theorem releaseMulticasts_none {s : State} {src : Nat}
    (h : s.rig.mcPending.all (fun m => !(decide (m.src = src) && !m.held)) = true) : s.releaseMulticasts src = s := by
  have hnone : (s.rig.mcPending.filter fun m => m.src = src && !m.held) = [] := by
    rw [List.filter_eq_nil_iff]
    intro m hm hsrc
    have hno := List.all_eq_true.mp h m hm
    rw [hsrc] at hno
    exact absurd hno (by decide)
  rw [State.releaseMulticasts, hnone]
  rfl

section
variable {s : State} {d k : Nat} (h : Nat.testBit (s.laneAt k).targets d = true) (n : Nat)
include h

theorem linkEntry_ack : s.linkEntry d k .ack n = s.laneAck k d n := if_neg (by rw [h]; decide)

theorem linkEntry_nak : s.linkEntry d k .nak n = s.laneNak k d n := if_neg (by rw [h]; decide)

end

theorem targetSlots_single : ∀ d, d < 16 → targetSlots (2 ^ d) = [d] := by decide

/-- An acknowledgement from the one target of a lane frees what it covers (R191). -/
theorem laneAck_single {s : State} {k d : Nat} (h : (s.laneAt k).targets = 2 ^ d) (hd : d < 16) (n : Nat) :
    ((s.laneAck k d n).laneAt k).replay = (s.laneAt k).replay.filter (fun e => !ackedBy n e) ∧
    ((s.laneAck k d n).laneAt k).naks = 0 ∧ sameLanes k s (s.laneAck k d n) ∧
    s.laneAck k d n = { s with
      rig := { s.rig with lanes := (s.laneAck k d n).rig.lanes, full := (s.laneAck k d n).rig.full }
      regs := (s.laneAck k d n).regs } := by
  obtain ⟨m, r, hfull, -⟩ := endFull_only s k
  have hlane : (s.endFull k).laneAt k = s.laneAt k := laneAt_of_lanes (by rw [hfull]) k
  unfold State.laneAck
  refine ⟨?_, ?_, ?_, ?_⟩
  · rw [laneAt_modLane, if_pos rfl, hlane]
    simp [h, targetSlots_single d hd, SMap.lookup_set]
  · rw [laneAt_modLane, if_pos rfl]
  · rw [hfull]
    exact sameLanes_modLane k _ _
  · rw [hfull]
    rfl

/-! ### Lanes taken out (R192) -/

/-- A lane that has stopped: its stream starts anew at its next training (R185, R192). -/
def Lane.stopped (st : LaneState) (l : Lane) : Lane :=
  { l with
    state := st
    nextSeq := 0
    nakSeq := 0
    naks := 0
    replay := []
    acked := SMap.empty
    stream := 0
    trainedBy := []
    trainStart := none }

/-- What a lane's packets become when it stops concerns the lists of packets, credits and reservations alone. -/
theorem resendLane_only (s : State) (k : Nat) : ∃ i r o c m, s.resendLane k =
    { s with rig := { s.rig with inFlight := i, receivers := r, outbox := o, spent := c, mcReserved := m } } := by
  have hforget : ∀ (l : List Flight) (t : State), ∃ c m,
      l.foldl State.forgetCopy t = { t with rig := { t.rig with spent := c, mcReserved := m } } := by
    intro l
    induction l with
    | nil => exact fun t => ⟨_, _, rfl⟩
    | cons f l ih =>
      intro t
      obtain ⟨c, m, h⟩ := ih (t.forgetCopy f)
      rw [List.foldl_cons, h, State.forgetCopy]
      split <;> exact ⟨_, _, rfl⟩
  obtain ⟨c, m, h⟩ := hforget (s.rig.inFlight.filter fun f => f.path / 16 = k && f.path < 16384) (s.dropFlights k)
  rw [State.resendLane, h]
  exact ⟨_, _, _, c, m, rfl⟩

theorem stopLane_facts (s : State) (k : Nat) (st : LaneState) :
    (s.stopLane k st).laneAt k = (s.laneAt k).stopped st ∧ ∀ j, j ≠ 0x402106 → (s.stopLane k st).reg j = s.reg j := by
  obtain ⟨m, r, hfull, hreg⟩ := endFull_only (s.modLane k fun l => { l with state := st }) k
  rw [State.stopLane]
  generalize (s.modLane k fun l => { l with state := st }).endFull k = u at hfull hreg ⊢
  obtain ⟨i, v, o, c, w, hagain⟩ := resendLane_only u k
  have hlane : u.laneAt k = { s.laneAt k with state := st } := by
    rw [hfull]
    exact (laneAt_modLane s k k _).trans (if_pos rfl)
  refine ⟨?_, fun j hj => ?_⟩
  · rw [laneAt_modLane, if_pos rfl, laneAt_of_lanes (s := u) (by rw [hagain]), hlane]
    rfl
  · rw [hagain]
    exact hreg j hj

/-- A lane taken out is counted and raised once, and keeps nothing to send again. -/
theorem laneOut_facts (s : State) (k : Nat) (retry : Bool) :
    ((s.laneOut k retry).laneAt k).state = .out ∧ ((s.laneOut k retry).laneAt k).replay = [] ∧
    (s.laneOut k retry).reg 0x402105 = satAdd 32 (s.reg 0x402105) 1 ∧
    (s.laneOut k retry).raised 0x1302 = s.raised 0x1302 + 1 ∧
    ∀ j, j ≠ 0x402105 → j ≠ 0x402106 → j ≠ 0x831006 → (s.laneOut k retry).reg j = s.reg j := by
  obtain ⟨hlane, hreg⟩ := stopLane_facts s k .out
  have hraised : (s.stopLane k .out).raised 0x1302 = s.raised 0x1302 := by simp only [State.raised, State.stopLane_kept]
  unfold State.laneOut
  dsimp only
  generalize s.stopLane k .out = u at hlane hreg hraised ⊢
  have hout : ∀ f die unit l, State.laneAt (((u.modLane k f).countReg 0x402105 32 1).raise 0x1302 die unit l) k =
      f ((s.laneAt k).stopped .out) := fun f die unit l => by
    rw [laneAt_of_lanes (s := u.modLane k f) (by simp only [State.raise_rig]; rfl), laneAt_modLane, if_pos rfl, hlane]
  refine ⟨?_, ?_, ?_, ?_, fun j h5 h6 h8 => ?_⟩
  · rw [hout]
    rfl
  · rw [hout]
    rfl
  · rw [reg_raise (by decide)]
    exact (reg_setReg_same _ _ _).trans (congrArg (satAdd 32 · 1) (hreg _ (by decide)))
  · rw [State.raised_raise _ _ _ _ _ (by decide)]
    exact congrArg (· + 1) hraised
  · rw [reg_raise h8]
    exact (reg_setReg_ne h5 _).trans (hreg j h6)

/-- A lane's NAK of SEQ `n` from target `d`, the `c`-th in a row: counted, and the flits from it on sent again (R191). -/
def State.nakTaken (s : State) (k d n c : Nat) : State :=
  (((s.countReg 0x402104 64 1).modLane k fun l => { l with nakSeq := n, naks := if l.ignoreNaks then 0 else c }).resendFrom k
    n).resume (laneRx k d)

section
variable {s : State} {k d n : Nat} (hst : (s.laneAt k).state = .active) (hnaks : (s.laneAt k).naks = 7)
  (hseq : (s.laneAt k).nakSeq = n) (hi : (s.laneAt k).ignoreNaks = false)
include hst hnaks hseq hi

theorem laneNak_eighth : s.laneNak k d n = (s.nakTaken k d n 8).laneOut k true := by
  simp [State.laneNak, State.nakTaken, hst, hnaks, hseq, hi]

/-- The eighth NAK of one SEQ takes a running lane out (R192). -/
theorem laneNak_eighth_facts :
    ((s.laneNak k d n).laneAt k).state = .out ∧ ((s.laneNak k d n).laneAt k).replay = [] ∧
    (s.laneNak k d n).reg 0x402104 = satAdd 64 (s.reg 0x402104) 1 ∧
    (s.laneNak k d n).reg 0x402105 = satAdd 32 (s.reg 0x402105) 1 ∧
    (s.laneNak k d n).raised 0x1302 = s.raised 0x1302 + 1 := by
  obtain ⟨hout, hreplay, hcount, hraised, hother⟩ := laneOut_facts (s.nakTaken k d n 8) k true
  rw [laneNak_eighth hst hnaks hseq hi]
  exact ⟨hout, hreplay, (hother _ (by decide) (by decide) (by decide)).trans (reg_setReg_same _ _ _),
    hcount.trans (congrArg (satAdd 32 · 1) (reg_setReg_ne (by decide) _)), hraised⟩

end

/-! ### Multicasts that were waiting (R204) -/

theorem laneAt_sendOnLane {s : State} {j k : Nat} (h : j ≠ k) (p : Packet) : (s.sendOnLane k p).laneAt j = s.laneAt j :=
  (laneAt_modLane s k j _).trans (if_neg h)

/-- A multicast is sent on a lane that runs: one that does not stays as it is. -/
theorem releaseMulticast_facts {s : State} {k : Nat} (hk : (s.laneAt k).state ≠ .active) (m : McPending) :
    (s.releaseMulticast m).laneAt k = s.laneAt k ∧ ∀ j, j ≠ 0x402201 → (s.releaseMulticast m).reg j = s.reg j := by
  unfold State.releaseMulticast
  split
  · exact ⟨rfl, fun _ _ => rfl⟩
  · split
    next l hl =>
      have hne : k ≠ l := by
        rintro rfl
        have h := List.find?_some hl
        simp only [Bool.and_eq_true, decide_eq_true_eq] at h
        exact hk h.1
      split
      · obtain ⟨c, hc⟩ := sendMulticast_eq s m l
        rw [hc]
        exact ⟨laneAt_sendOnLane hne _, fun _ hj => reg_setReg_ne hj _⟩
      · exact ⟨rfl, fun _ _ => rfl⟩
    · exact ⟨rfl, fun _ _ => rfl⟩

theorem releaseMulticasts_facts {s : State} {k : Nat} (hk : (s.laneAt k).state ≠ .active) (src : Nat) :
    (s.releaseMulticasts src).laneAt k = s.laneAt k ∧ ∀ j, j ≠ 0x402201 → (s.releaseMulticasts src).reg j = s.reg j := by
  unfold State.releaseMulticasts
  generalize (s.rig.mcPending.filter fun m => m.src = src && !m.held) = l
  induction l generalizing s with
  | nil => exact ⟨rfl, fun _ _ => rfl⟩
  | cons m l ih =>
    obtain ⟨hlane, hreg⟩ := releaseMulticast_facts hk m
    obtain ⟨hlane', hreg'⟩ := ih (s := s.releaseMulticast m) (by rw [hlane]; exact hk)
    exact ⟨hlane'.trans hlane, fun j hj => (hreg' j hj).trans (hreg j hj)⟩

theorem raised_releaseMulticasts (s : State) (src code : Nat) : (s.releaseMulticasts src).raised code = s.raised code := by
  simp only [State.raised, State.releaseMulticasts_kept]

/-! ### Lanes that train (R190, R192) -/

section
variable {s : State} {slot lane : Nat} (hst : (s.lane slot lane).state = .training)
  (hw : (s.lane slot lane).wrongWait = false) (ht : s.coll.tack = none)
include hst hw ht

theorem laneTraining_starts (hstart : (s.lane slot lane).trainStart = none) : exec (.laneTraining slot lane) s =
    .next (s.modLane (laneKey slot lane) fun l => { l with trainStart := some s.now, trainedBy := [] }) := by
  change execLaneTraining slot lane s = _
  unfold State.lane at hst hw hstart
  simp [execLaneTraining, hst, hw, ht, hstart]

theorem laneTraining_late {a : Nat} (hstart : (s.lane slot lane).trainStart = some a) (hlate : a + 2000 < s.now) :
    exec (.laneTraining slot lane) s = .next (s.laneOut (laneKey slot lane) true) := by
  change execLaneTraining slot lane s = _
  unfold State.lane at hst hw hstart
  simp [execLaneTraining, hst, hw, ht, hstart, hlate]

end

theorem laneRetrain_next {s : State} {slot lane : Nat} (hst : (s.lane slot lane).state = .out)
    (hno : (s.lane slot lane).noRetrain = false)
    (h3 : (s.lane slot lane).retrains < 3)
    (hdue : (s.lane slot lane).retrains = 0 ∨ (s.lane slot lane).lastRetrain + 10000 ≤ s.now) (success : Bool) :
    exec (.laneRetrain slot lane success) s = .next (if success then s.laneUp (laneKey slot lane)
      else s.modLane (laneKey slot lane) fun l => { l with retrains := l.retrains + 1, lastRetrain := s.now }) := by
  change execLaneRetrain slot lane success s = _
  have hgo : ¬ (decide ((s.lane slot lane).state ≠ .out) || (s.lane slot lane).noRetrain ||
      decide (3 ≤ (s.lane slot lane).retrains) || (decide ((s.lane slot lane).retrains ≠ 0) &&
        decide (s.now < (s.lane slot lane).lastRetrain + 10000))) = true := by
    simp [hst, hno]
    omega
  unfold execLaneRetrain
  dsimp only
  refine (if_neg hgo).trans ?_
  cases success <;> rfl

/-- A lane that runs again: its stream starts with SEQ 0 (R190). -/
def Lane.restarted (l : Lane) : Lane :=
  { l with
    state := if l.targets = 0 then .idle else .active
    nextSeq := 0
    stream := 0
    nakSeq := 0
    naks := 0
    replay := []
    acked := SMap.empty
    trainedBy := []
    trainStart := none
    wrongWait := false
    ignoreNaks := false
    retrains := 0 }

theorem laneActive_facts (s : State) (k : Nat) :
    (s.laneActive k).laneAt k = (s.laneAt k).restarted ∧ sameLanes k s (s.laneActive k) := by
  obtain ⟨m, r, hfull, -⟩ := endFull_only s k
  rw [State.laneActive, hfull]
  exact ⟨(laneAt_modLane _ k k _).trans (if_pos rfl), sameLanes_modLane k _ _⟩

/-- A lane with at most one position to drop comes back (R190, R255). -/
theorem laneUp_facts {s : State} {k : Nat} (h : (s.dropsFor k).length < 2) :
    (s.laneUp k).laneAt k = Lane.restarted { s.laneAt k with dropped := s.dropsFor k, narrowing := none } ∧
    sameLanes k s (s.laneUp k) := by
  unfold State.laneUp
  dsimp only
  rw [if_neg (Nat.not_le.mpr h)]
  obtain ⟨hlane, hsame⟩ := laneActive_facts (s.modLane k fun l => { l with dropped := s.dropsFor k, narrowing := none }) k
  rw [laneAt_modLane, if_pos rfl] at hlane
  have hsame := (sameLanes_modLane k s _).trans hsame
  generalize State.laneActive _ k = u at hlane hsame ⊢
  split
  · exact ⟨hlane, hsame⟩
  · have hwidth : (u.widthEvent k).rig.lanes = u.rig.lanes := by simp only [State.widthEvent, State.raise_rig]
    exact ⟨(laneAt_of_lanes hwidth k).trans hlane, hsame.trans (sameLanes_of_lanes hwidth k)⟩

/-! ### Standing paths that go down (R193) -/

theorem standKey_ne_dst {src dst r : Nat} (h : r ≠ dst) : standKey src r ≠ standKey src dst := by unfold standKey; omega

theorem standKey_ne_src {src dst r : Nat} (h : r ≠ src) : standKey r dst ≠ standKey src dst := by unfold standKey; omega

/-- The relay of a pair rests on other pairs' paths alone. -/
theorem relayFor_congr {s t : State} {src dst : Nat} (hpop : t.sitePopulated = s.sitePopulated)
    (h : ∀ a b, standKey a b ≠ standKey src dst → t.standing a b = s.standing a b) :
    t.relayFor src dst = s.relayFor src dst := by
  unfold State.relayFor
  congr 1
  funext r
  by_cases hs : r = src
  · simp [hs]
  · by_cases hd : r = dst
    · simp [hd]
    · rw [hpop, h _ _ (standKey_ne_dst hd), h _ _ (standKey_ne_src hs)]

theorem standingPathDown_next {s : State} {src dst : Nat} (hpath : s.hasStanding src dst = true)
    (hst : (s.standing src dst).state = .retraining) (ht : (s.standing src dst).lastRetrain + 20000 ≤ s.now) :
    exec (.standingPathDown src dst) s = .next (s.standingDown src dst) := by
  change execStandingPathDown src dst s = _
  unfold execStandingPathDown
  dsimp only
  exact if_pos (by simp [hpath, hst, ht])

/-- A standing path that is down: its stream starts anew (R185, R193). -/
def StandingPath.downed (q : StandingPath) : StandingPath := { q with state := .down, naks := 0, nextSeq := 0, replay := [] }

/-- A standing path that goes down: what it kept waits before the rest, and it is counted and raised once. -/
theorem standingDown_facts {s : State} {src dst : Nat} (hst : (s.standing src dst).state ≠ .down) :
    (∀ a b, (s.standingDown src dst).standing a b =
      if standKey a b = standKey src dst then (s.standing src dst).downed else s.standing a b) ∧
    (s.standingDown src dst).rig.outbox =
      (s.standing src dst).replay.map (fun e => { e.2.2 with again := .kept }) ++ s.rig.outbox ∧
    (s.standingDown src dst).reg 0x402105 = satAdd 32 (s.reg 0x402105) 1 ∧
    (s.standingDown src dst).raised 0x1302 = s.raised 0x1302 + 1 ∧ (s.standingDown src dst).rig.lanes = s.rig.lanes := by
  obtain ⟨m, r, hfull, hreg⟩ := endFull_only ((s.modStanding src dst StandingPath.downed).dropStanding src dst)
    (16384 + standKey src dst)
  have heq : s.standingDown src dst = (State.countReg (State.toFront (State.endFull
      ((s.modStanding src dst StandingPath.downed).dropStanding src dst) (16384 + standKey src dst))
      ((s.standing src dst).replay.map fun e => { e.2.2 with again := .kept })) 0x402105 32 1).raise 0x1302 (siteDie src)
        (siteUnit src) (leBytes 1 src ++ leBytes 1 0x30 ++ leBytes 1 dst) := if_neg hst
  rw [heq]
  refine ⟨fun a b => ?_, ?_, ?_, ?_, ?_⟩
  · rw [State.standing, State.raise_rig, hfull]
    exact standing_modStanding s src dst a b _
  · rw [State.raise_rig, hfull]
    rfl
  · rw [reg_raise (by decide)]
    exact (reg_setReg_same _ _ _).trans (congrArg (satAdd 32 · 1) (hreg _ (by decide)))
  · rw [State.raised_raise _ _ _ _ _ (by decide), hfull]
    rfl
  · rw [State.raise_rig, hfull]
    rfl

/-- A path that is down is relayed by what serves the pair without it (R193). -/
theorem relayOf_standingDown {s : State} {src dst : Nat} (hst : (s.standing src dst).state ≠ .down) :
    (s.standingDown src dst).relayOf src dst = s.relayFor src dst := by
  obtain ⟨hpath, -⟩ := standingDown_facts hst
  have hpop : (s.standingDown src dst).sitePopulated = s.sitePopulated := by
    funext a
    simp only [State.sitePopulated, State.standingDown_kept]
  rw [State.relayOf, hpath, if_pos rfl]
  exact (if_pos rfl).trans (relayFor_congr hpop fun a b h => by rw [hpath, if_neg h])

/-- Settles O24: reports by what a site owes and to whom; flits that fail and link control flits by the equations of their commands;
a lane taken out keeps its state while waiting multicasts go, for they go on running lanes; a standing path that is down is relayed
over other paths, which it leaves as they were. -/
theorem linksRetry : Obligations.LinksRetry := by
  unfold Obligations.LinksRetry
  refine ⟨?_, ?_, ?_, ?_, ?_, ?_, ?_, ?_, ?_, ?_, ?_, ?_, ?_, ?_, ?_⟩
  · intro s site hports hkrytae
    refine ⟨_, ackInterval_next s site, ?_⟩
    rw [krytaeOwing_none hkrytae, portsOwing_none hports]
    exact ⟨rfl, rfl, rfl⟩
  · intro s site hsite
    refine ⟨_, ackInterval_next s site, ?_⟩
    rw [krytaeOwing_none (.inl hsite), List.foldl_nil]
    obtain ⟨d, c, honly⟩ := foldl_sendPortControl_only (s.wired ((s.owed site).map (s.reportOf site)))
      ((List.range 64).filter fun p => 7 + p / 16 = site && s.portOwesAck p)
    refine ⟨fun p hp hat howes => ?_, fun p hp => ?_, ?_, ?_⟩
    · rw [port_foldl_sendPortControl, if_pos (by simp [hp, hat, howes])]
      exact ⟨rfl, rfl⟩
    · rw [port_foldl_sendPortControl, if_neg (by simp [hp])]
      rfl
    · rw [honly]; rfl
    · rw [honly]; rfl
  · intro s
    refine ⟨_, ackInterval_next s 4, ?_⟩
    rw [portsOwing_none (by simp; omega), List.foldl_nil]
    obtain ⟨c, honly⟩ := foldl_sendKrytaeControl_only (s.wired ((s.owed 4).map (s.reportOf 4)))
      ((List.range 2).filter fun k => 4 = 4 && s.krytaeOwesAck k)
    refine ⟨fun k hk howes => ?_, ?_⟩
    · rw [krytae_foldl_sendKrytaeControl, if_pos (by simp [hk, howes])]
      exact ⟨rfl, rfl⟩
    · rw [honly]; rfl
  · intro s slot lane dst cause hdst hcause
    refine ⟨_, flitUncorrectable_lane s hdst cause, ?_⟩
    rw [failureEntry, if_pos hcause]
    exact flitRefused_facts s _ dst slot _
  · intro s slot lane dst cause hdst hcause
    refine ⟨_, flitUncorrectable_lane s hdst cause, ?_⟩
    rw [failureEntry, if_neg hcause]
    exact flitRefused_facts s _ dst slot _
  · intro s p cause
    have hport := port_sendPortControl s p p true
    rw [if_pos rfl] at hport
    refine ⟨s.sendPortControl p true, rfl, rfl, ?_, ?_, ?_, rfl⟩
    · rw [hport]; rfl
    · rw [hport]; rfl
    · exact samePorts_modPort p _ _
  · intro s f hne hs hr hsop hentries hst hnone
    obtain ⟨hpath, hcredit, -, honly⟩ := acknowledged_facts s f
    refine ⟨_, linkControlFlit_read hne hs hr, ?_⟩
    rw [standingReport_acknowledges hsop hst, hentries, List.foldl_nil,
      releaseMulticasts_none (by rw [honly]; exact hnone), hpath]
    exact ⟨rfl, rfl, hcredit, honly⟩
  · intro s site f hne hs hr hsite hrelay
    exact ⟨_, linkControlFlit_relayed hne hs hr hsite hrelay, rfl, rfl⟩
  · intro s lane n f hne hs hr hsop hentries haim hrecv hst hnone
    obtain ⟨-, -, -, honly⟩ := acknowledged_facts s f
    have hlane : (s.acknowledged f).laneAt (laneKey f.sender lane) = s.lane f.sender lane := laneAt_of_lanes (by rw [honly]) _
    obtain ⟨hreplay, hnaks, hsame, hack⟩ := laneAck_single (hlane ▸ haim) hrecv n
    refine ⟨_, linkControlFlit_read hne hs hr, ?_⟩
    rw [standingReport_acknowledges hsop hst, hentries, List.foldl_cons, List.foldl_nil,
      linkEntry_ack (by rw [hlane, haim, Nat.testBit_two_pow_self]), releaseMulticasts_none (by rw [hack, honly]; exact hnone)]
    refine ⟨by rw [← hlane]; exact hreplay, hnaks, (sameLanes_of_lanes (by rw [honly]) _).trans hsame, ?_⟩
    rw [hack, honly]
  · intro s lane f hne hs hr hsop hentries haim hact hn hi hst
    obtain ⟨-, -, hreg, honly⟩ := acknowledged_facts s f
    have hlane : (s.acknowledged f).laneAt (laneKey f.sender lane) = s.lane f.sender lane := laneAt_of_lanes (by rw [honly]) _
    refine ⟨_, linkControlFlit_read hne hs hr, ?_⟩
    rw [standingReport_acknowledges hsop hst, hentries, List.foldl_cons, List.foldl_nil,
      linkEntry_nak (by rw [hlane, haim])]
    obtain ⟨hout, hreplay, hnak, hcount, hraised⟩ := laneNak_eighth_facts (d := f.receiver) (by rw [hlane, hact])
      (by rw [hlane, hn]) (congrArg Lane.nakSeq hlane) (by rw [hlane, hi])
    obtain ⟨hkeep, hregs⟩ := releaseMulticasts_facts (by rw [hout]; decide) f.sender
    refine ⟨?_, ?_, ?_, ?_, ?_, ?_, ?_⟩
    · rw [State.lane, hkeep, hout]
    · rw [State.lane, hkeep, hreplay]
    · rw [hregs _ (by decide), hnak, hreg _ (by decide)]
    · rw [hregs _ (by decide), hcount, hreg _ (by decide)]
    · rw [raised_releaseMulticasts, hraised, honly]
      rfl
    · simp only [State.releaseMulticasts_kept, State.laneNak_kept]
      rw [honly]
    · apply State.ext_of <;> simp only [State.releaseMulticasts_kept, State.laneNak_kept] <;> rw [honly]
  · intro s slot lane hst hw ht hstart
    refine ⟨_, laneTraining_starts hst hw ht hstart, ?_, sameLanes_modLane _ s _, rfl⟩
    exact (laneAt_modLane s _ _ _).trans (if_pos rfl)
  · intro s slot lane a hst hw ht hstart hlate
    obtain ⟨hout, hreplay, hcount, hraised, -⟩ := laneOut_facts s (laneKey slot lane) true
    refine ⟨_, laneTraining_late hst hw ht hstart hlate, hout, hreplay, hcount, hraised, ?_, ?_⟩
    · simp only [State.laneOut_kept]
    · apply State.ext_of <;> simp only [State.laneOut_kept]
  · intro s slot lane hst hno h3 hdue hdrops
    obtain ⟨hlane, hsame⟩ := laneUp_facts hdrops
    refine ⟨_, laneRetrain_next hst hno h3 hdue true, ?_⟩
    rw [if_pos rfl, State.lane, hlane]
    refine ⟨rfl, rfl, rfl, rfl, hsame, ?_⟩
    apply State.ext_of <;> simp only [State.laneUp_kept]
  · intro s slot lane hst hno h3 hdue
    refine ⟨_, laneRetrain_next hst hno h3 hdue false, ?_, sameLanes_modLane _ s _, rfl⟩
    exact (laneAt_modLane s _ _ _).trans (if_pos rfl)
  · intro s src dst hpath hst ht
    have hup : (s.standing src dst).state ≠ .down := by rw [hst]; decide
    obtain ⟨hstand, hout, hcount, hraised, hlanes⟩ := standingDown_facts hup
    refine ⟨_, standingPathDown_next hpath hst ht, ?_, ?_, relayOf_standingDown hup, hout, hcount, hraised, hlanes, ?_⟩
    · rw [hstand, if_pos rfl]; rfl
    · rw [hstand, if_pos rfl]; rfl
    · apply State.ext_of <;> simp only [State.standingDown_kept]

end Sys2Proof.Machine

/-! PROOF. What entering phases does: PHASE_GO goes to every tower of a collective, or its tack waits, and no more (R216, R226). -/

namespace Sys2Proof.Machine

/-- A collective that has sent its PHASE_GO: no tower has answered it yet (R226). -/
def Collective.gone (r : Collective) : Collective :=
  { r with entering := false, waitingTack := false, goDue := r.towers, goTo := [], sentBy := [] }

/-- The claims once a phase is entered: those of its plan's lanes are among them (R216). -/
def State.claimsWith (s : State) (r : Collective) : List (Nat × Nat) :=
  (s.coll.claims ++ (if r.phaseNow.plan = 0xFF then []
    else (s.planEntries r.phaseNow.plan).map fun e => laneKey e.1 e.2.1).map fun k => (r.seq, k)).eraseDups

/-- A collective has asked for its phase's tack (R216). -/
def State.askTack (s : State) (r : Collective) : State :=
  { s with coll := { (s.modCollective r.seq fun r => { r with waitingTack := true }).coll with
    queue := s.coll.queue ++ [⟨r.phaseNow.plan, some r.seq, s.now, false⟩] } }

theorem foldl_wire_control (op : Nat) (d : List Nat) (l : List Nat) (s : State) :
    l.foldl (fun s t => s.wire (.control t op d)) s = s.wired (l.map (Output.control · op d)) := by
  induction l generalizing s with
  | nil => rw [List.foldl_nil, List.map_nil, State.wired, List.append_nil]
  | cons t l ih =>
    have hwire : s.wire (.control t op d) = s.wired [.control t op d] := rfl
    rw [List.foldl_cons, ih, hwire, wired_wired, List.map_cons, List.singleton_append]

/-- Entering a phase claims its lanes and sends PHASE_GO to each tower (R226). -/
theorem goPhase_eq (s : State) (r : Collective) : s.goPhase r =
    State.wired { s with coll := { (s.modCollective r.seq Collective.gone).coll with claims := s.claimsWith r } }
      (r.towers.map (Output.control · 0x19 r.operand)) := foldl_wire_control 0x19 r.operand r.towers _

/-- A collective goes on to its phase, asks for a tack, or stays (R216, R226). -/
theorem enterPhase_cases (s : State) (r : Collective) :
    s.enterPhase r = s ∨ s.enterPhase r = s.goPhase r ∨ s.enterPhase r = s.askTack r := by
  unfold State.enterPhase
  dsimp only
  split
  · exact .inl rfl
  · split
    · exact .inr (.inl rfl)
    · split
      · split
        · exact .inl rfl
        · exact .inr (.inl rfl)
      · split
        · exact .inr (.inr rfl)
        · exact .inl rfl

/-- What entering phases leaves of the collectives and of what has been sent: plans, the tack and the barred lanes stay, what is
sent comes after the rest, and a collective whose present phase no tower has sent keeps its program and its progress. -/
structure keepsPhases (s t : State) : Prop where
  coll : t.coll = { s.coll with running := t.coll.running, claims := t.coll.claims, queue := t.coll.queue }
  wire : ∃ l, t.control.wire = s.control.wire ++ l
  unsent : ∀ r ∈ s.coll.running, r.sentBy = [] → ∃ q ∈ t.coll.running, q = { r with
    goDue := q.goDue, goTo := q.goTo, entering := q.entering, waitingTack := q.waitingTack }

namespace keepsPhases

theorem refl (s : State) : keepsPhases s s := ⟨rfl, ⟨[], (List.append_nil _).symm⟩, fun r hr _ => ⟨r, hr, rfl⟩⟩

theorem trans {s t u : State} (h : keepsPhases s t) (g : keepsPhases t u) : keepsPhases s u where
  coll := by rw [g.coll, h.coll]
  wire := by
    obtain ⟨l, hl⟩ := h.wire
    obtain ⟨m, hm⟩ := g.wire
    exact ⟨l ++ m, by rw [hm, hl, List.append_assoc]⟩
  unsent r hr hsent := by
    obtain ⟨q, hq, hqr⟩ := h.unsent r hr hsent
    obtain ⟨p, hp, hpq⟩ := g.unsent q hq (by rw [hqr, hsent])
    exact ⟨p, hp, by rw [hpq, hqr]⟩

/-- The member of a mapped list that stems from an unsent collective. -/
theorem unsent_modCollective (s : State) (n : Nat) {f : Collective → Collective} (hf : ∀ r, r.sentBy = [] → f r = { r with
      goDue := (f r).goDue, goTo := (f r).goTo, entering := (f r).entering, waitingTack := (f r).waitingTack }) :
    ∀ r ∈ s.coll.running, r.sentBy = [] → ∃ q ∈ (s.modCollective n f).coll.running, q = { r with
      goDue := q.goDue, goTo := q.goTo, entering := q.entering, waitingTack := q.waitingTack } := by
  intro r hr hsent
  refine ⟨_, List.mem_map_of_mem hr, ?_⟩
  split
  · exact hf r hsent
  · rfl

theorem goPhase (s : State) (r : Collective) : keepsPhases s (s.goPhase r) := by
  rw [goPhase_eq]
  exact ⟨rfl, ⟨_, rfl⟩, unsent_modCollective s r.seq fun r h => by rw [Collective.gone, ← h]⟩

theorem enterPhase (s : State) (r : Collective) : keepsPhases s (s.enterPhase r) := by
  obtain h | h | h := enterPhase_cases s r
  · rw [h]; exact refl s
  · rw [h]; exact goPhase s r
  · rw [h]; exact ⟨rfl, ⟨[], (List.append_nil _).symm⟩, unsent_modCollective s r.seq fun _ _ => rfl⟩

theorem enterPhases (s : State) : keepsPhases s s.enterPhases := by
  have hall : ∀ (l : List Collective) (t : State), keepsPhases t (l.foldl (fun s r => s.enterPhase r) t) := by
    intro l
    induction l with
    | nil => exact refl
    | cons r l ih => exact fun t => (enterPhase t r).trans (ih _)
  exact hall s.coll.running s

end keepsPhases

/-- Entering phases changes no entry of the object dictionary. -/
theorem reg_enterPhases (s : State) (j : Nat) : s.enterPhases.reg j = s.reg j :=
  reg_of_regs (by simp only [State.enterPhases_kept]) j

end Sys2Proof.Machine

/-! PROOF. O9: phases go, transfers are cut into packets and issued, phases and transfers are counted at the hub, and reduce-adds
are applied at their home (R198, R225 to R230). -/

namespace Sys2Proof.Machine

/-! ### The collective that a number names -/

section
variable {s : State} {n : Nat} {r : Collective} (hr : s.coll.running.find? (fun r => r.seq = n) = some r)
include hr

theorem seq_of_find : r.seq = n := by simpa using List.find?_some hr

/-- Replaced by one of its number, it is the first that the number names. -/
theorem find_replaced {r' : Collective} (h : r'.seq = n) :
    (s.coll.running.map fun q => if q.seq = n then r' else q).find? (fun q => q.seq = n) = some r' := by
  generalize s.coll.running = l at hr
  induction l with
  | nil => cases hr
  | cons q l ih =>
    by_cases hq : q.seq = n
    · simp [hq, h]
    · simp only [List.map_cons, hq, if_false, List.find?_cons, decide_false]
      exact ih (by simpa [hq] using hr)

end

/-! ### PHASE_GO (R225) -/

/-- PHASE_GO has reached tower `w`. -/
def Collective.wentTo (w : Nat) (r : Collective) : Collective := { r with goDue := r.goDue.erase w, goTo := w :: r.goTo }

theorem phaseGo_next {s : State} {w : Nat} {r : Collective} (hb : s.belled = false)
    (hr : s.coll.running.find? (fun r => r.goDue.contains w && decide (r.stopped = [])) = some r) :
    exec (.phaseGo w) s = .next (s.modCollective r.seq (Collective.wentTo w)) := by
  change execPhaseGo w s = _
  rw [execPhaseGo, hb, if_neg (by decide), hr]
  rfl

/-! ### Packets of a transfer (R198) -/

/-- A packet of the transfer `q` of `n` bytes: its opcode and context are the transfer's, and it starts at one of the bytes. -/
def isPieceOf (q : Req) (n : Nat) (p : Req) : Prop := p.op = q.op ∧ p.ctx = q.ctx ∧ ∃ k < max 1 n, p.addr = q.addr + k

theorem cutTransfer_pieces (n : Nat) (q : Req) (d : List Byte) : ∀ p ∈ cutTransfer q n d, isPieceOf q d.length p := by
  induction n generalizing q d with
  | zero => intro p hp; cases hp
  | succ n ih =>
    intro p hp
    rw [cutTransfer] at hp
    split at hp
    · obtain rfl := List.mem_singleton.mp hp
      exact ⟨rfl, rfl, 0, by omega, rfl⟩
    next hlong =>
      obtain rfl | hp := List.mem_cons.mp hp
      · exact ⟨rfl, rfl, 0, by omega, rfl⟩
      · obtain ⟨hop, hctx, k, hk, haddr⟩ := ih _ _ p hp
        rw [List.length_drop] at hk
        exact ⟨hop, hctx, packetRoom q.addr + k, by omega, by rw [haddr, Nat.add_assoc]⟩

theorem cutTransfer_ne_nil (n : Nat) (q : Req) (d : List Byte) : cutTransfer q (n + 1) d ≠ [] := by
  rw [cutTransfer]
  split
  · exact List.cons_ne_nil _ _
  · exact List.cons_ne_nil _ _

/-! ### Issue (R225) -/

/-- What a transfer writes, before it is cut into packets: the last of them carries INC, and names the record. -/
def Collective.request (r : Collective) (p j : Nat) : Req :=
  { blankReq with
    op := (r.record j).op
    origin := .member (r.ctxOf p) (r.clusterOf p)
    ctx := r.ctxOf (r.record j).dst
    addr := (r.record j).dstOff
    rid := BitVec.ofNat 32 (r.seq + 2147483648)
    ref := BitVec.ofNat 24 (r.tally + r.clusterOf (r.record j).dst * 256 + 63 * 262144)
    refAmt := (r.record j).inc
    ticket := some j }

/-- The packets of a transfer. -/
def Collective.pieces (r : Collective) (p j : Nat) (d : List Byte) : List Req := cutTransfer (r.request p j) 1048576 d

/-- A BULK packet from tower `w` (R198). -/
def bulkFrom (w : Nat) (q : Req) : Packet :=
  { src := w, dst := siteOfOffset q.addr, vc := 3, stand := false, crit := false, req := q, targets := [], pseq := 0, stamp := 0 }

/-- A record that has been issued (R225). -/
def State.markIssued (s : State) (r : Collective) (j : Nat) : State :=
  s.modCollective r.seq fun q => { q with issued := q.issued ++ [j] }

theorem pieces_ne_nil (r : Collective) (p j : Nat) (d : List Byte) : r.pieces p j d ≠ [] := cutTransfer_ne_nil 1048575 _ d

section
variable {s s1 : State} {r : Collective} {p j : Nat} {d : List Byte}
  (hload : s.loadRange (r.record j).srcOff (r.record j).length (s.requesterAt (r.ctxOf p) (r.clusterOf p)) = (.ok d, s1))
include hload

/-- A transfer whose source reads is applied where it lies on its own tower, and sent where it does not. -/
theorem issueTransfer_eq : s.issueTransfer r p j =
    ((s1.markIssued r j).applyLocals (r.ctxOf p) (r.clusterOf p)
      ((r.pieces p j d).filter fun q => decide (siteOfOffset q.addr = r.clusterOf p / 200))).toOutbox
      (((r.pieces p j d).filter fun q => !decide (siteOfOffset q.addr = r.clusterOf p / 200)).map
        (bulkFrom (r.clusterOf p / 200))) := by
  unfold State.issueTransfer
  dsimp only
  rw [hload]
  rfl

theorem issueTransfer_away (h : ∀ k < max 1 d.length, siteOfOffset ((r.record j).dstOff + k) ≠ r.clusterOf p / 200) :
    s.issueTransfer r p j = (s1.markIssued r j).toOutbox ((r.pieces p j d).map (bulkFrom (r.clusterOf p / 200))) := by
  have haway : ∀ q ∈ r.pieces p j d, siteOfOffset q.addr ≠ r.clusterOf p / 200 := fun q hq => by
    obtain ⟨-, -, k, hk, haddr⟩ := cutTransfer_pieces _ _ _ q hq
    rw [haddr]
    exact h k hk
  have hnone : ((r.pieces p j d).filter fun q => decide (siteOfOffset q.addr = r.clusterOf p / 200)) = [] :=
    List.filter_eq_nil_iff.mpr fun q hq => by simpa using haway q hq
  have hall : ((r.pieces p j d).filter fun q => !decide (siteOfOffset q.addr = r.clusterOf p / 200)) = r.pieces p j d :=
    List.filter_eq_self.mpr fun q hq => by simpa using haway q hq
  rw [issueTransfer_eq hload, hnone, hall]
  rfl

theorem issueTransfer_here (h : ∀ k < max 1 d.length, siteOfOffset ((r.record j).dstOff + k) = r.clusterOf p / 200) :
    s.issueTransfer r p j = (s1.markIssued r j).applyLocals (r.ctxOf p) (r.clusterOf p) (r.pieces p j d) := by
  have hhere : ∀ q ∈ r.pieces p j d, siteOfOffset q.addr = r.clusterOf p / 200 := fun q hq => by
    obtain ⟨-, -, k, hk, haddr⟩ := cutTransfer_pieces _ _ _ q hq
    rw [haddr]
    exact h k hk
  have hall : ((r.pieces p j d).filter fun q => decide (siteOfOffset q.addr = r.clusterOf p / 200)) = r.pieces p j d :=
    List.filter_eq_self.mpr fun q hq => by simpa using hhere q hq
  have hnone : ((r.pieces p j d).filter fun q => !decide (siteOfOffset q.addr = r.clusterOf p / 200)) = [] :=
    List.filter_eq_nil_iff.mpr fun q hq => by simpa using hhere q hq
  rw [issueTransfer_eq hload, hnone, hall]
  simp only [List.map_nil, State.toOutbox, List.append_nil]

end

theorem transferIssue_next {s : State} {n p j : Nat} {r : Collective}
    (hr : s.coll.running.find? (fun r => r.seq = n) = some r) (hb : s.belled = false) (hp : p < r.participants.length)
    (hgo : r.goTo.contains (r.clusterOf p / 200) = true) (hbound : (s.ctx (r.ctxOf p)).state = .bound)
    (hstop : r.stopped.contains (r.ctxOf p) = false) (hroom : r.openOf p + (s.core (r.clusterOf p)).copies.length < 16)
    (hj : r.nextFor p = some j) (hsrc : s.stallsForPartition (r.record j).srcOff (r.record j).length = false)
    (hdst : siteOfOffset (r.record j).dstOff = r.clusterOf p / 200 →
      s.stallsForPartition (r.record j).dstOff (r.record j).length = false)
    (hwait : waitSatisfied (s.tally (r.clusterOf p) r.tally) (r.record j).wait.toNat = true) :
    exec (.transferIssue n p) s = .next (s.issueTransfer r p j) := by
  change execTransferIssue n p s = _
  have hready : ¬ (s.belled || decide (p ≥ r.participants.length) || !r.goTo.contains (r.clusterOf p / 200) ||
      decide ((s.ctx (r.ctxOf p)).state ≠ .bound) || r.stopped.contains (r.ctxOf p) ||
      decide (16 ≤ r.openOf p + (s.core (r.clusterOf p)).copies.length)) = true := by
    rw [hb, hgo, hbound, hstop]
    simpa using ⟨hp, hroom⟩
  have hgoes : ¬ ((s.stallsForPartition (r.record j).srcOff (r.record j).length ||
      (decide (siteOfOffset (r.record j).dstOff = r.clusterOf p / 200) &&
        s.stallsForPartition (r.record j).dstOff (r.record j).length)) ||
      !waitSatisfied (s.tally (r.clusterOf p) r.tally) (r.record j).wait.toNat) = true := by
    rw [hsrc, hwait]
    simpa using hdst
  unfold execTransferIssue
  rw [hr]
  dsimp only
  rw [if_neg hready, hj]
  exact if_neg hgoes

/-! ### PHASE_SENT (R226, R227) -/

/-- A collective whose present phase tower `w` has sent. -/
def Collective.sentFrom (w : Nat) (r : Collective) : Collective := { r with sentBy := w :: r.sentBy }

/-- PHASE_SENT of tower `w` is on its way to the hub (R226, R229). -/
def State.noteSent (s : State) (n w : Nat) (r : Collective) : State :=
  (s.modCollective n fun _ => r.sentFrom w).wired [.control 4 0x18 r.operand]

theorem phaseSent_next {s : State} {n w : Nat} {r : Collective}
    (hr : s.coll.running.find? (fun r => r.seq = n) = some r) (hgo : r.goTo.contains w = true)
    (hnew : r.sentBy.contains w = false) (hstop : r.stopped = []) (hsent : s.towerSent r w = true)
    (hphase : r.phase < r.phases.length) :
    exec (.phaseSent n w) s = .next (if r.towers.all (w :: r.sentBy).contains then (s.noteSent n w r).nextPhase (r.sentFrom w)
      else s.noteSent n w r) := by
  change execPhaseSent n w s = _
  have hready : ¬ (!r.goTo.contains w || r.sentBy.contains w || decide (r.stopped ≠ []) ||
      decide (r.phases.length ≤ r.phase) || !s.towerSent r w) = true := by
    rw [hgo, hnew, hstop, hsent]
    simpa using hphase
  unfold execPhaseSent
  rw [hr]
  dsimp only
  rw [if_neg hready, apply_ite Host.Outcome.next]
  rfl

/-- The hub has turned a collective to its next phase, which it is to enter if there is one (R226). -/
def Collective.turned (more : Bool) (r : Collective) : Collective :=
  { r with phase := r.phase + 1, entering := more, goDue := [], goTo := [], sentBy := [] }

/-- Claims as the turn of a collective leaves them: its own pass to a next phase of the same plan, unless barred (R216, R227). -/
def State.claimsPassed (s : State) (r : Collective) : List (Nat × Nat) :=
  s.coll.claims.filter fun c => decide (c.1 ≠ r.seq) ||
    ((match r.phases[r.phase + 1]? with | some p => decide (p.plan = r.phaseNow.plan) | none => false) &&
      !s.barredNow.contains c.2)

/-- The hub turns a collective to its next phase, and counts the phase that ends (R226). -/
def State.turnPhase (s : State) (r : Collective) : State :=
  (State.modCollective { s with coll := { s.coll with claims := s.claimsPassed r } } r.seq
    (Collective.turned r.phases[r.phase + 1]?.isSome)).countReg 0x411104 64 1

theorem nextPhase_of_find {s : State} {r q : Collective}
    (hq : (s.turnPhase r).coll.running.find? (fun q => q.seq = r.seq) = some q) (hmore : q.through = false) :
    s.nextPhase r = (s.turnPhase r).enterPhases := by
  have hnext : s.nextPhase r = match (s.turnPhase r).coll.running.find? (fun q => q.seq = r.seq) with
    | some q => if q.through then (s.turnPhase r).finishCollective q else (s.turnPhase r).enterPhases
    | none => s.turnPhase r := rfl
  rw [hnext, hq]
  exact if_neg (by rw [hmore]; decide)

/-- A collective that is replaced and then changed is replaced by what it becomes. -/
theorem map_replaced (l : List Collective) {n : Nat} {r : Collective} (hr : r.seq = n) (f : Collective → Collective) :
    ((l.map fun q => if q.seq = n then r else q).map fun q => if q.seq = n then f q else q) =
      l.map fun q => if q.seq = n then f r else q := by
  rw [List.map_map]
  refine List.map_congr_left fun q _ => ?_
  by_cases hq : q.seq = n
  · simp [hq, hr]
  · simp [hq]

/-- The last PHASE_SENT of a phase that is not the last: the collective enters its next phase. -/
theorem nextPhase_noteSent {s : State} {n w : Nat} {r : Collective}
    (hr : s.coll.running.find? (fun r => r.seq = n) = some r) (hphase : r.phase + 1 < r.phases.length) :
    ((s.noteSent n w r).turnPhase (r.sentFrom w)).coll.running.find? (fun q => q.seq = n) =
      some ((r.sentFrom w).turned true) ∧
    (s.noteSent n w r).nextPhase (r.sentFrom w) = ((s.noteSent n w r).turnPhase (r.sentFrom w)).enterPhases := by
  obtain rfl := seq_of_find hr
  have hmore : (r.sentFrom w).phases[(r.sentFrom w).phase + 1]?.isSome = true :=
    Option.isSome_iff_exists.mpr ⟨_, List.getElem?_eq_getElem hphase⟩
  have hfind : ((s.noteSent r.seq w r).turnPhase (r.sentFrom w)).coll.running.find? (fun q => q.seq = r.seq) =
      some ((r.sentFrom w).turned true) := by
    have hrun : ((s.noteSent r.seq w r).turnPhase (r.sentFrom w)).coll.running =
        s.coll.running.map fun q => if q.seq = r.seq then (r.sentFrom w).turned true else q := by
      rw [← hmore]
      exact map_replaced s.coll.running rfl _
    rw [hrun]
    exact find_replaced hr rfl
  refine ⟨hfind, nextPhase_of_find hfind ?_⟩
  have hlt : r.phase + 1 ≠ r.phases.length := Nat.ne_of_lt hphase
  simp [Collective.through, Collective.turned, Collective.sentFrom, hlt]

/-! ### TRANSFER_CONFIRM (R228) -/

/-- A collective with transfer `j` counted confirmed. -/
def Collective.confirm (j : Nat) (r : Collective) : Collective := { r with confirmed := j :: r.confirmed }

theorem transferConfirm_next {s : State} {n j : Nat} {r : Collective}
    (hr : s.coll.running.find? (fun r => r.seq = n) = some r) (hland : r.landed.contains j = true)
    (hnew : r.confirmed.contains j = false) :
    exec (.transferConfirm n j) s = .next (if r.stopped = [] ∧ (r.confirm j).through = true
      then (s.modCollective n fun _ => r.confirm j).finishCollective (r.confirm j)
      else s.modCollective n fun _ => r.confirm j) := by
  change execTransferConfirm n j s = _
  have hready : ¬ (!r.landed.contains j || r.confirmed.contains j) = true := by rw [hland, hnew]; decide
  unfold execTransferConfirm
  rw [hr]
  dsimp only
  rw [if_neg hready, apply_ite Host.Outcome.next]
  simp only [Bool.and_eq_true, decide_eq_true_eq]
  rfl

theorem memberOf_setPhase (s : State) (x c y k : Nat) (p : MemberPhase) : memberOf ((s.setPhase x c p).ctx y) k =
    if y = x ∧ k = c then { memberOf (s.ctx x) c with phase := p } else memberOf (s.ctx y) k := by
  rw [State.setPhase, State.modMember, State.ctx_modCtx]
  by_cases hy : y = x
  · subst hy
    simp only [if_true, true_and]
    exact SMap.get_modify _ _ _ _ _
  · simp [hy]

/-- Members that are done stay done while others become so. -/
theorem phase_foldl_setPhase (l : List (Nat × Nat)) {s : State} {y k : Nat}
    (h : (y, k) ∈ l ∨ (memberOf (s.ctx y) k).phase = .done) :
    (memberOf ((l.foldl (fun s p => s.setPhase p.1 p.2 .done) s).ctx y) k).phase = .done := by
  induction l generalizing s with
  | nil => exact h.resolve_left List.not_mem_nil
  | cons p l ih =>
    refine ih ?_
    by_cases hp : (y, k) = p
    · subst hp
      exact .inr (phase_setPhase s y k .done)
    · refine h.imp (List.mem_of_ne_of_mem hp) fun hdone => ?_
      rw [memberOf_setPhase, if_neg fun h => hp (Prod.ext h.1 h.2)]
      exact hdone

theorem foldl_setPhase_only (l : List (Nat × Nat)) (p : MemberPhase) (s : State) :
    ∃ x, l.foldl (fun s m => s.setPhase m.1 m.2 p) s = { s with ctxs := x } := by
  induction l generalizing s with
  | nil => exact ⟨_, rfl⟩
  | cons m l ih => exact ih (s.setPhase m.1 m.2 p)

/-- A collective that is through leaves those that run, with its claims; its command is done on every participant, and it is
counted (R228). -/
theorem finishCollective_facts (s : State) (r : Collective) :
    (∀ p ∈ r.participants, (memberOf ((s.finishCollective r).ctx p.1) p.2).phase = .done) ∧
    (s.finishCollective r).reg 0x411103 = satAdd 64 (s.reg 0x411103) 1 ∧
    s.finishCollective r = { s with
      coll := { s.coll with
        running := s.coll.running.filter fun q => q.seq ≠ r.seq
        claims := s.coll.claims.filter fun c => c.1 ≠ r.seq }
      regs := (s.finishCollective r).regs, ctxs := (s.finishCollective r).ctxs } := by
  obtain ⟨x, hx⟩ := foldl_setPhase_only r.participants .done { s with coll := { s.coll with
    running := s.coll.running.filter fun q => q.seq ≠ r.seq
    claims := s.coll.claims.filter fun c => c.1 ≠ r.seq } }
  refine ⟨fun p hp => phase_foldl_setPhase r.participants (.inl hp), ?_, ?_⟩
  · rw [State.finishCollective, hx]
    exact reg_setReg_same _ _ _
  · rw [State.finishCollective, hx]
    rfl

/-- Replaced by one of its number, a collective leaves with the others of that number. -/
theorem filter_replaced (l : List Collective) {n : Nat} {r : Collective} (hr : r.seq = n) :
    (l.map fun q => if q.seq = n then r else q).filter (fun q => q.seq ≠ n) = l.filter fun q => q.seq ≠ n := by
  induction l with
  | nil => rfl
  | cons q l ih =>
    by_cases hq : q.seq = n
    · simpa [hq, hr] using ih
    · simpa [hq] using ih

/-! ### Reduce-adds (R230) -/

/-- A line once a packet's elements are added to those that it holds (R230). -/
def reducedLine (op : Nat) (old d : List Byte) : List Byte :=
  if op = 0x62 then
    ((lanesOf 4 old).mapIdx fun j l =>
      leBytes 4 (fp32Add (BitVec.ofNat 32 (leNat l)) (BitVec.ofNat 32 (field d (4 * j) 4))).toNat).flatten
  else ((lanesOf 2 old).mapIdx fun j l => leBytes 2 (bf16Add (leNat l) (field d (2 * j) 2))).flatten

section
variable {s s1 s2 : State} {op off : Nat} {r : Requester} {old d : List Byte} (hd : d.length = 128)
  (hload : s.loadRange off 128 r = (.ok old, s1)) (hstore : s1.storeRange off (reducedLine op old d) r = (none, s2))
include hd hload hstore

/-- A reduce-add of one line that reads and writes without fault. -/
theorem reduceLines_line : s.reduceLines op off r 32 d none = (none, s2.countReg 0x411105 64 1) := by
  have hsome : d ≠ [] := by rintro rfl; cases hd
  have hrest : d.drop 128 = [] := List.drop_eq_nil_of_le (Nat.le_of_eq hd)
  unfold reducedLine at hstore
  rw [State.reduceLines, if_neg hsome, hload]
  dsimp only
  rw [hstore, hrest]
  rfl

end

/-- What a member's packet has written lands at the member's collective (R228). -/
theorem settleWrite_landed {q : Req} {x c : Nat} (h : q.origin = .member x c) (s : State) :
    s.settleWrite q .ack = s.transferLanded q := by
  unfold State.settleWrite
  rw [h]

section
variable {s s1 s2 : State} {site op x c : Nat} {p : Packet} {old : List Byte} (hp : s.firstArrived site op = some p)
  (hstall : s.stallsForPartition p.req.addr p.req.data.length = false) (hlen : p.req.data.length = 128)
  (hamt : p.req.refAmt = 0) (horigin : p.req.origin = .member x c)
  (hload : s.loadRange p.req.addr 128 (s.originRequester p.req) = (.ok old, s1))
  (hstore : s1.storeRange p.req.addr (reducedLine op old p.req.data) (s.originRequester p.req) = (none, s2))
include hp hstall hlen hamt horigin hload hstore

/-- A member's reduce-add of one line is counted, lands at its collective, and leaves its buffer (R228, R230). -/
theorem reducePacket_line : s.reducePacket site op =
    ((s2.countReg 0x411105 64 1).transferLanded p.req).consume site p := by
  unfold State.reducePacket
  rw [hp]
  dsimp only
  rw [hstall, if_neg (by decide), reduceLines_line hlen hload hstore]
  dsimp only
  rw [State.packetIncrement, if_pos hamt]
  exact congrArg (·.consume site p) (settleWrite_landed horigin _)

theorem reducePacket_facts :
    (s.reducePacket site op).memory = s2.memory ∧ (s.reducePacket site op).arrivedAt site = (s.arrivedAt site).erase p ∧
    (s.reducePacket site op).reg 0x411105 = satAdd 64 (s2.reg 0x411105) 1 ∧
    s.reducePacket site op = { s2 with
      rig := (s.reducePacket site op).rig, coll := (s.reducePacket site op).coll, regs := (s.reducePacket site op).regs } := by
  have hrig : s2.rig = s.rig :=
    calc s2.rig = s1.rig := (congrArg (·.2.rig) hstore).symm.trans (by simp only [State.storeRange_kept])
      _ = s.rig := (congrArg (·.2.rig) hload).symm.trans (by simp only [State.loadRange_kept])
  have hland : (s2.countReg 0x411105 64 1).transferLanded p.req = { s2 with
      regs := (s2.countReg 0x411105 64 1).regs, coll := ((s2.countReg 0x411105 64 1).transferLanded p.req).coll } := by
    apply State.ext_of <;> simp only [State.transferLanded_kept] <;> rfl
  obtain ⟨a, f, m, o, hc, ha⟩ := consume_only ((s2.countReg 0x411105 64 1).transferLanded p.req) site p
  rw [reducePacket_line hp hstall hlen hamt horigin hload hstore, hc, hland]
  refine ⟨rfl, ?_, reg_setReg_same _ _ _, rfl⟩
  rw [State.arrivedAt, ha, hland, State.arrivedAt, State.arrivedAt, hrig]

end

/-- Settles O9: what issuing sends follows from where the pieces of a transfer lie, all of them within its extent; the turn to a
next phase keeps the collective while phases are entered; the rest is the state that each command answers. -/
theorem collectivePhasesRun : Obligations.CollectivePhasesRun := by
  unfold Obligations.CollectivePhasesRun
  refine ⟨?_, ?_, ?_, ?_, ?_, ?_, ?_, ?_, ?_⟩
  · intro s w r hb hr
    exact ⟨_, phaseGo_next hb hr, rfl, rfl⟩
  · intro s s1 n p j r d hr hb hp hgo hbound hstop hroom hj hsrc hwait hload haway
    have hdst : siteOfOffset (r.record j).dstOff ≠ r.clusterOf p / 200 := haway 0 (by omega)
    refine ⟨_, transferIssue_next hr hb hp hgo hbound hstop hroom hj hsrc (fun h => absurd h hdst) hwait, ?_⟩
    rw [issueTransfer_away hload haway]
    refine ⟨rfl, ⟨_, rfl, by simpa using pieces_ne_nil r p j d, fun q hq => ?_⟩, rfl, rfl⟩
    obtain ⟨i, hi, rfl⟩ := List.mem_map.mp hq
    obtain ⟨hop, hctx, -⟩ := cutTransfer_pieces _ _ _ i hi
    exact ⟨rfl, rfl, rfl, hop, hctx⟩
  · intro s s1 n p j r d hr hb hp hgo hbound hstop hroom hj hsrc hwait hload hhere hdst
    refine ⟨_, transferIssue_next hr hb hp hgo hbound hstop hroom hj hsrc (fun _ => hdst) hwait, rfl,
      r.pieces p j d, issueTransfer_here hload hhere, pieces_ne_nil r p j d, fun q hq => ?_⟩
    obtain ⟨hop, hctx, -⟩ := cutTransfer_pieces _ _ _ q hq
    exact ⟨hop, hctx⟩
  · intro s n w r hr hgo hnew hstop hsent hphase hall
    refine ⟨_, phaseSent_next hr hgo hnew hstop hsent hphase, ?_⟩
    rw [if_neg (by rw [hall]; decide)]
    exact ⟨rfl, rfl⟩
  · intro s n w r hr hgo hnew hstop hsent hphase hall
    obtain ⟨hfind, hnext⟩ := nextPhase_noteSent (w := w) hr hphase
    refine ⟨_, phaseSent_next hr hgo hnew hstop hsent (Nat.lt_of_succ_lt hphase), ?_⟩
    rw [if_pos hall, hnext]
    have hseq : r.seq = n := seq_of_find hr
    obtain ⟨-, ⟨l, hwire⟩, hunsent⟩ := keepsPhases.enterPhases ((s.noteSent n w r).turnPhase (r.sentFrom w))
    obtain ⟨-, -, -, honly⟩ := entersPhases.enterPhases ((s.noteSent n w r).turnPhase (r.sentFrom w))
    obtain ⟨q, hq, hqr⟩ := hunsent _ (List.mem_of_find?_eq_some hfind) rfl
    refine ⟨⟨q, hq, ?_⟩, ?_, ?_, ⟨l, ?_⟩, ?_⟩
    · rw [hqr]
      exact ⟨hseq, rfl, rfl, rfl⟩
    · rw [reg_enterPhases]
      exact reg_setReg_same _ _ _
    · rw [honly]
      rfl
    · rw [hwire]
      exact List.append_assoc _ _ _
    · rw [honly]
      rfl
  · intro s n j r hr hland hnew h
    refine ⟨_, transferConfirm_next hr hland hnew, ?_⟩
    rw [if_neg]
    · exact ⟨rfl, rfl⟩
    · rintro ⟨hstop, hthrough⟩
      rcases h with h | h
      · exact h hstop
      · exact absurd (hthrough.symm.trans h) (by decide)
  · intro s n j r hr hland hnew hstop hthrough
    have hseq : r.seq = n := seq_of_find hr
    obtain ⟨hdone, hreg, honly⟩ := finishCollective_facts (s.modCollective n fun _ => r.confirm j) (r.confirm j)
    refine ⟨_, transferConfirm_next hr hland hnew, ?_⟩
    rw [if_pos ⟨hstop, hthrough⟩]
    refine ⟨?_, hdone, ?_, hreg, ?_⟩
    · rw [honly, ← hseq]
      exact filter_replaced s.coll.running rfl
    · intro k hk
      rw [honly] at hk
      exact hseq ▸ of_decide_eq_true (List.mem_filter.mp hk).2
    · rw [honly]
      rfl
  · intro s s1 s2 site x c p old hp hstall hlen hamt horigin hload hstore
    exact ⟨_, rfl, reducePacket_facts hp hstall hlen hamt horigin hload hstore⟩
  · intro s s1 s2 site x c p old hp hstall hlen hamt horigin hload hstore
    exact ⟨_, rfl, reducePacket_facts hp hstall hlen hamt horigin hload hstore⟩

end Sys2Proof.Machine

/-! PROOF. What a stop, a training and the end of a tack make of a lane, and what they leave of the paths that elements lie on
(R190, R192, R217, R257). -/

namespace Sys2Proof.Machine

/-! ### One lane changed -/

/-- Lane `k` becomes what `f` makes of it, and every other lane is as it was. -/
def changesLane (k : Nat) (f : Lane → Lane) (s t : State) : Prop :=
  ∀ j, t.laneAt j = if j = k then f (s.laneAt k) else s.laneAt j

namespace changesLane

theorem modLane (s : State) (k : Nat) (f : Lane → Lane) : changesLane k f s (s.modLane k f) := fun j => laneAt_modLane s k j f

theorem trans {k : Nat} {f g : Lane → Lane} {s t u : State} (h : changesLane k f s t) (h' : changesLane k g t u) :
    changesLane k (fun l => g (f l)) s u := by
  intro j
  rw [h' j]
  by_cases hj : j = k
  · rw [if_pos hj, if_pos hj, h k, if_pos rfl]
  · rw [if_neg hj, if_neg hj, h j, if_neg hj]

/-- What leaves the lanes as they are may follow. -/
theorem of_lanes {k : Nat} {f : Lane → Lane} {s t u : State} (h : changesLane k f s t) (hu : u.rig.lanes = t.rig.lanes) :
    changesLane k f s u := fun j => (laneAt_of_lanes hu j).trans (h j)

end changesLane

/-! ### Lanes taken out and lanes that run (R190, R192) -/

theorem stopLane_changes (s : State) (k : Nat) (st : LaneState) : changesLane k (Lane.stopped st) s (s.stopLane k st) := by
  have hstate : changesLane k (fun l => { l with state := st }) s (s.modLane k fun l => { l with state := st }) := .modLane s k _
  obtain ⟨m, r, hfull, -⟩ := endFull_only (s.modLane k fun l => { l with state := st }) k
  have hended := hstate.of_lanes (u := (s.modLane k fun l => { l with state := st }).endFull k) (by rw [hfull])
  rw [State.stopLane]
  generalize (s.modLane k fun l => { l with state := st }).endFull k = u at hended ⊢
  obtain ⟨i, v, o, c, w, hagain⟩ := resendLane_only u k
  exact (hended.of_lanes (u := u.resendLane k) (by rw [hagain])).trans (.modLane _ k _)

/-- A lane that is OUT since `now`, to be trained again or not (R192). -/
def Lane.outAt (now : Nat) (retry : Bool) (l : Lane) : Lane :=
  { l.stopped .out with retrains := 0, lastRetrain := now, noRetrain := !retry }

theorem laneOut_changes (s : State) (k : Nat) (retry : Bool) : changesLane k (Lane.outAt s.now retry) s (s.laneOut k retry) := by
  refine changesLane.of_lanes ((stopLane_changes s k .out).trans (.modLane _ k fun l =>
    { l with retrains := 0, lastRetrain := s.now, noRetrain := !retry })) ?_
  rw [State.laneOut, State.raise_rig]
  rfl

theorem reg_laneOut {j : Nat} (h5 : j ≠ 0x402105) (h6 : j ≠ 0x402106) (h8 : j ≠ 0x831006) (s : State) (k : Nat)
    (retry : Bool) : (s.laneOut k retry).reg j = s.reg j := by
  obtain ⟨-, -, -, -, hreg⟩ := laneOut_facts s k retry
  exact hreg j h5 h6 h8

theorem laneActive_changes (s : State) (k : Nat) : changesLane k Lane.restarted s (s.laneActive k) := by
  obtain ⟨m, r, hfull, -⟩ := endFull_only s k
  rw [State.laneActive, hfull]
  exact fun j => laneAt_modLane _ k j _

theorem reg_laneActive {j : Nat} (h : j ≠ 0x402106) (s : State) (k : Nat) : (s.laneActive k).reg j = s.reg j := by
  obtain ⟨-, -, -, hreg⟩ := endFull_only s k
  exact hreg j h

/-! ### Paths (R245, R252) -/

/-- What the path of every lane rests on is the same: the lanes' aims, the elements, and the sites; and so is the time. -/
structure samePaths (s t : State) : Prop where
  targets : ∀ k, (t.laneAt k).targets = (s.laneAt k).targets
  photonics : t.photonics = s.photonics
  fuses : t.fuses = s.fuses
  clocks : t.clocks = s.clocks

namespace samePaths

theorem refl (s : State) : samePaths s s := ⟨fun _ => rfl, rfl, rfl, rfl⟩

theorem trans {s t u : State} (h : samePaths s t) (g : samePaths t u) : samePaths s u :=
  ⟨fun k => (g.targets k).trans (h.targets k), g.photonics.trans h.photonics, g.fuses.trans h.fuses, g.clocks.trans h.clocks⟩

/-- A lane is changed, but not its aim. -/
theorem of_change {s t : State} {k : Nat} {f : Lane → Lane} (h : changesLane k f s t) (hl : ∀ l, (f l).targets = l.targets)
    (hp : t.photonics = s.photonics) (hf : t.fuses = s.fuses) (hc : t.clocks = s.clocks) : samePaths s t where
  targets j := by
    rw [h]
    split
    next hj => rw [hl, hj]
    next => rfl
  photonics := hp
  fuses := hf
  clocks := hc

section
variable {s t : State} (h : samePaths s t)
include h

theorem sitePopulated : t.sitePopulated = s.sitePopulated := by
  funext a
  simp only [State.sitePopulated, h.fuses]

theorem elementsAt (k pos : Nat) : t.elementsAt k pos = s.elementsAt k pos := by
  have hinto : t.lanesInto = s.lanesInto := by
    funext site
    simp only [State.lanesInto, State.allLanes, h.sitePopulated, h.targets]
  simp only [State.elementsAt, State.bankLane, h.targets, hinto]

theorem ring (e : Nat) : t.ring e = s.ring e := by
  unfold State.ring State.defaultRing
  rw [h.sitePopulated, h.photonics]

theorem dropsFor (k : Nat) : t.dropsFor k = s.dropsFor k := by
  simp only [State.dropsFor, State.bar, h.elementsAt, h.ring, h.photonics]

theorem relocksOn (k : Nat) : t.relocksOn k = s.relocksOn k := by
  simp only [State.relocksOn, h.elementsAt, h.ring]

theorem now : t.now = s.now := by rw [State.now, State.now, h.clocks]

end

end samePaths

/-! ### Training in a tack (R217 step 6, R219, R257) -/

/-- A lane whose narrowing, with the positions `d` dropped, is folded into its training (R257). -/
def Lane.folded (d : List Nat) (l : Lane) : Lane := { l with dropped := d, narrowing := none, ignoreNaks := false }

/-- A lane in training since `now`, which waits for a relock on its path or not (R217, R219). -/
def Lane.inTraining (relocks : Bool) (now : Nat) (l : Lane) : Lane :=
  { l with state := .training, trainStart := some now, trainedBy := [], wrongWait := relocks }

/-- What training in a tack makes of a lane with the positions `d` to drop. -/
def Lane.trainedInTack (failed relocks : Bool) (d : List Nat) (now : Nat) (l : Lane) : Lane :=
  if l.targets = 0 then (l.folded d).restarted
  else if 2 ≤ d.length then (l.folded d).outAt now false
  else if failed then (l.folded d).outAt now true
  else (l.folded d).inTraining relocks now

theorem targets_trainedInTack (failed relocks : Bool) (d : List Nat) (now : Nat) (l : Lane) :
    (l.trainedInTack failed relocks d now).targets = l.targets := by
  unfold Lane.trainedInTack
  repeat' split
  all_goals rfl

theorem trainedInTack_twice (failed relocks : Bool) (d : List Nat) (now : Nat) (l : Lane) :
    (l.trainedInTack failed relocks d now).trainedInTack failed relocks d now = l.trainedInTack failed relocks d now := by
  rw [Lane.trainedInTack, targets_trainedInTack]
  unfold Lane.trainedInTack
  repeat' split
  all_goals rfl

/-- A lane that trains without fault waits for its targets' answers. -/
theorem trainedInTack_trains {l : Lane} (h : l.targets ≠ 0) (relocks : Bool) (now : Nat) :
    l.trainedInTack false relocks [] now = (l.folded []).inTraining relocks now := by
  rw [Lane.trainedInTack, if_neg h, if_neg (by decide), if_neg (by decide)]

/-- A lane that the plan aims nowhere is IDLE. -/
theorem state_trainedInTack_aimless {l : Lane} (h : l.targets = 0) (failed relocks : Bool) (d : List Nat) (now : Nat) :
    (l.trainedInTack failed relocks d now).state = .idle := by
  rw [Lane.trainedInTack, if_pos h]
  exact if_pos h

theorem trainLane_changes (s : State) (failed : List Nat) (k : Nat) :
    changesLane k (Lane.trainedInTack (failed.contains k) (s.relocksOn k) (s.dropsFor k) s.now) s (s.trainLane failed k) := by
  have hfold : changesLane k (Lane.folded (s.dropsFor k)) s (s.modLane k (Lane.folded (s.dropsFor k))) := .modLane s k _
  have hpaths : samePaths s (s.modLane k (Lane.folded (s.dropsFor k))) := .of_change hfold (fun _ => rfl) rfl rfl rfl
  have htrain : s.trainLane failed k =
      if ((s.modLane k (Lane.folded (s.dropsFor k))).laneAt k).targets = 0 then
        (s.modLane k (Lane.folded (s.dropsFor k))).laneActive k
      else if 2 ≤ (s.dropsFor k).length then (s.modLane k (Lane.folded (s.dropsFor k))).laneOut k false
      else if failed.contains k then (s.modLane k (Lane.folded (s.dropsFor k))).laneOut k true
      else (s.modLane k (Lane.folded (s.dropsFor k))).modLane k
        (Lane.inTraining ((s.modLane k (Lane.folded (s.dropsFor k))).relocksOn k) s.now) := rfl
  rw [htrain, hpaths.relocksOn, hpaths.targets]
  intro j
  unfold Lane.trainedInTack
  have hnow : s.now = (s.modLane k (Lane.folded (s.dropsFor k))).now := rfl
  generalize s.modLane k (Lane.folded (s.dropsFor k)) = t at hfold hnow
  rw [hnow]
  split
  · exact hfold.trans (laneActive_changes _ k) j
  · split
    · exact hfold.trans (laneOut_changes _ k false) j
    · split
      · exact hfold.trans (laneOut_changes _ k true) j
      · exact hfold.trans (.modLane _ k _) j

theorem samePaths.trainLane {s t : State} (h : samePaths s t) (failed : List Nat) (k : Nat) :
    samePaths s (t.trainLane failed k) := by
  refine h.trans (of_change (trainLane_changes t failed k) (targets_trainedInTack _ _ _ _) ?_ ?_ ?_) <;>
    simp only [State.trainLane_kept]

/-- Every lane that takes part trains once, whatever the others do. -/
theorem laneAt_foldl_trainLane (s : State) (failed : List Nat) (l : List Nat) (j : Nat) :
    (l.foldl (fun s k => s.trainLane failed k) s).laneAt j =
      if j ∈ l then (s.laneAt j).trainedInTack (failed.contains j) (s.relocksOn j) (s.dropsFor j) s.now else s.laneAt j :=
  foldl_view (view := State.laneAt) (I := samePaths s) (f := fun s k => s.trainLane failed k)
    (g := fun j l => l.trainedInTack (failed.contains j) (s.relocksOn j) (s.dropsFor j) s.now)
    (fun _ k h => h.trainLane failed k) (fun _ l => trainedInTack_twice _ _ _ _ l)
    (fun t k j h => by rw [trainLane_changes t failed k j, h.relocksOn, h.dropsFor, h.now]) l (.refl s) j

theorem foldl_trainLane_only (failed : List Nat) (l : List Nat) (s : State) : ∃ g r c d,
    l.foldl (fun s k => s.trainLane failed k) s = { s with rig := g, regs := r, control := c, dbg := d } := by
  induction l generalizing s with
  | nil => exact ⟨_, _, _, _, rfl⟩
  | cons k l ih =>
    obtain ⟨g, r, c, d, h⟩ := ih (s.trainLane failed k)
    refine ⟨g, r, c, d, ?_⟩
    rw [List.foldl_cons, h]
    apply State.ext_of <;> simp only [State.trainLane_kept]

/-! ### Lanes that come back at the end of a tack (R217 step 7, R219) -/

/-- A lane that is to run with the positions `d` dropped (R257). -/
def Lane.narrowedTo (d : List Nat) (l : Lane) : Lane := { l with dropped := d, narrowing := none }

/-- What a trained lane with the positions `d` to drop becomes (R190, R257). -/
def Lane.up (d : List Nat) (now : Nat) (l : Lane) : Lane :=
  if 2 ≤ d.length then (l.narrowedTo d).outAt now false else (l.narrowedTo d).restarted

theorem targets_up (d : List Nat) (now : Nat) (l : Lane) : (l.up d now).targets = l.targets := by
  unfold Lane.up
  split
  · rfl
  · rfl

theorem laneUp_changes (s : State) (k : Nat) : changesLane k (Lane.up (s.dropsFor k) s.now) s (s.laneUp k) := by
  have hdrop : changesLane k (Lane.narrowedTo (s.dropsFor k)) s (s.modLane k (Lane.narrowedTo (s.dropsFor k))) := .modLane s k _
  have hup : s.laneUp k =
      if 2 ≤ (s.dropsFor k).length then (s.modLane k (Lane.narrowedTo (s.dropsFor k))).laneOut k false
      else if (s.dropsFor k).length = (s.laneAt k).dropped.length then
        (s.modLane k (Lane.narrowedTo (s.dropsFor k))).laneActive k
      else ((s.modLane k (Lane.narrowedTo (s.dropsFor k))).laneActive k).widthEvent k := rfl
  rw [hup]
  intro j
  unfold Lane.up
  have hnow : s.now = (s.modLane k (Lane.narrowedTo (s.dropsFor k))).now := rfl
  generalize s.modLane k (Lane.narrowedTo (s.dropsFor k)) = t at hdrop hnow
  rw [hnow]
  have hactive := hdrop.trans (laneActive_changes t k)
  split
  · exact hdrop.trans (laneOut_changes _ k false) j
  · split
    · exact hactive j
    · exact hactive.of_lanes (by rw [State.widthEvent, State.raise_rig]) j

theorem reg_laneUp {j : Nat} (h5 : j ≠ 0x402105) (h6 : j ≠ 0x402106) (h8 : j ≠ 0x831006) (s : State) (k : Nat) :
    (s.laneUp k).reg j = s.reg j := by
  unfold State.laneUp
  dsimp only
  split
  · exact reg_laneOut h5 h6 h8 _ k false
  · split
    · exact reg_laneActive h6 _ k
    · exact (reg_raise h8 _ _ _ _ _).trans (reg_laneActive h6 _ k)

/-- A lane whose training has brought it up comes back; one that waits for a relock does not (R219). -/
def State.returnLane (s : State) (k : Nat) : State :=
  if (s.laneAt k).state = .training && !(s.laneAt k).wrongWait then s.laneUp k else s

/-- What the end of a tack makes of a lane that it has trained. -/
def Lane.returned (d : List Nat) (now : Nat) (l : Lane) : Lane :=
  if l.state = .training && !l.wrongWait then l.up d now else l

/-- A lane that comes back trains no more. -/
theorem state_up (d : List Nat) (now : Nat) (l : Lane) : (l.up d now).state ≠ .training := by
  unfold Lane.up
  split
  · exact LaneState.noConfusion
  · unfold Lane.restarted
    dsimp only
    split
    · exact LaneState.noConfusion
    · exact LaneState.noConfusion

theorem returned_twice (d : List Nat) (now : Nat) (l : Lane) :
    (l.returned d now).returned d now = l.returned d now := by
  by_cases h : (l.state = .training && !l.wrongWait) = true
  · have hup : l.returned d now = l.up d now := if_pos h
    rw [hup, Lane.returned, if_neg (by simp [state_up])]
  · have hkeep : l.returned d now = l := if_neg h
    rw [hkeep, hkeep]

/-- A trained lane that runs on at least fifteen wavelengths is ACTIVE on its aim. -/
theorem state_returned {l : Lane} (htrain : l.state = .training) (hwait : l.wrongWait = false) {d : List Nat}
    (hd : d.length < 2) (haim : l.targets ≠ 0) (now : Nat) : (l.returned d now).state = .active := by
  rw [Lane.returned, if_pos (by rw [htrain, hwait]; decide), Lane.up, if_neg (Nat.not_le.mpr hd)]
  exact if_neg haim

theorem returnLane_changes (s : State) (k : Nat) :
    changesLane k (Lane.returned (s.dropsFor k) s.now) s (s.returnLane k) := by
  intro j
  unfold State.returnLane Lane.returned
  split
  · exact laneUp_changes s k j
  · split
    next hj => rw [hj]
    next => rfl

theorem samePaths.returnLane {s t : State} (h : samePaths s t) (k : Nat) : samePaths s (t.returnLane k) := by
  unfold State.returnLane
  split
  · refine h.trans (of_change (laneUp_changes t k) (targets_up _ _) ?_ ?_ ?_) <;> simp only [State.laneUp_kept]
  · exact h

/-- Every lane that its training has brought up comes back, whatever the others do. -/
theorem laneAt_foldl_returnLane (s : State) (l : List Nat) (j : Nat) : (l.foldl State.returnLane s).laneAt j =
    if j ∈ l then (s.laneAt j).returned (s.dropsFor j) s.now else s.laneAt j :=
  foldl_view (view := State.laneAt) (I := samePaths s) (f := State.returnLane)
    (g := fun j l => l.returned (s.dropsFor j) s.now)
    (fun _ k h => h.returnLane k) (fun _ l => returned_twice _ _ l)
    (fun t k j h => by rw [returnLane_changes t k j, h.dropsFor, h.now]) l (.refl s) j

theorem reg_foldl_returnLane {j : Nat} (h5 : j ≠ 0x402105) (h6 : j ≠ 0x402106) (h8 : j ≠ 0x831006) (l : List Nat)
    (s : State) : (l.foldl State.returnLane s).reg j = s.reg j :=
  foldl_keeps (π := fun s => s.reg j) (fun s k => by
    unfold State.returnLane
    split
    · exact reg_laneUp h5 h6 h8 s k
    · rfl) l s

theorem foldl_returnLane_only (l : List Nat) (s : State) : ∃ g r c d,
    l.foldl State.returnLane s = { s with rig := g, regs := r, control := c, dbg := d } := by
  have hone : ∀ (s : State) (k : Nat), ∃ g r c d, s.returnLane k = { s with rig := g, regs := r, control := c, dbg := d } := by
    intro s k
    unfold State.returnLane
    split
    · refine ⟨(s.laneUp k).rig, (s.laneUp k).regs, (s.laneUp k).control, (s.laneUp k).dbg, ?_⟩
      apply State.ext_of <;> simp only [State.laneUp_kept]
    · exact ⟨_, _, _, _, rfl⟩
  induction l generalizing s with
  | nil => exact ⟨_, _, _, _, rfl⟩
  | cons k l ih =>
    obtain ⟨g, r, c, d, h⟩ := ih (s.returnLane k)
    obtain ⟨g', r', c', d', h'⟩ := hone s k
    exact ⟨g, r, c, d, by rw [List.foldl_cons, h, h']⟩

end Sys2Proof.Machine

/-! PROOF. O7: plans are committed, and tacks are requested, started, quiesced, retuned and ended (R213 to R219). -/

namespace Sys2Proof.Machine

/-! ### Plans (R213) -/

section
variable {s : State} (hp : s.commitPending 0x41 = false)
  (hst : s.planStatus (s.shadow 0x410001) (s.blobShadow 0x410002) = 0) (hn : s.tackNames (s.shadow 0x410001) = false)
include hp hst hn

/-- A good plan that no tack names is stored at once. -/
theorem planCommit_next : exec (.planCommit 1) s = .next ((((s.commitRegs [0x410001]).setBlob 0x410002
    (s.blobShadow 0x410002)).storePlan (s.shadow 0x410001) (s.blobShadow 0x410002)).setReg 0x410003 0) := by
  change execPlanCommit 1 s = _
  have hnames : ¬ ((s.commitRegs [0x410001]).setBlob 0x410002 (s.blobShadow 0x410002)).tackNames (s.shadow 0x410001) = true := by
    have hsame : ((s.commitRegs [0x410001]).setBlob 0x410002 (s.blobShadow 0x410002)).tackNames (s.shadow 0x410001) =
      s.tackNames (s.shadow 0x410001) := rfl
    rw [hsame, hn]
    decide
  unfold execPlanCommit State.planCommit
  dsimp only
  rw [hp, if_neg (by decide), if_neg (by decide), if_neg (not_not_intro hst), if_neg hnames]

end

/-- A plan that waited is stored, or waits on: the tack, its queue and the claims stay (R213). -/
theorem settlePlan_coll (s : State) : ∃ p w, s.settlePlan.coll = { s.coll with plans := p, pendingPlan := w } := by
  unfold State.settlePlan
  split
  · exact ⟨_, _, rfl⟩
  · dsimp only
    repeat' split
    all_goals exact ⟨_, _, rfl⟩

/-! ### Requests and their hold-off (R216) -/

theorem tackRequest_next {s : State} {n : Nat} (hn : s.planLoaded n = true) (hq : s.coll.queue.length < 16) :
    exec (.tackRequest n) s = .next { s.setReg 0x411002 1 with coll := { s.coll with
      queue := s.coll.queue ++ [⟨n, none, s.now, false⟩] } } := by
  change execTackRequest n s = _
  rw [execTackRequest, State.tackRequest, hn, if_neg (by decide), if_neg (Nat.not_le.mpr hq)]

/-- A lane that is barred now is one that a request past its hold-off bars. -/
theorem mem_barred {s : State} {k : Nat} : k ∈ (s.barredNow ++ s.barredLanes).eraseDups ↔ k ∈ s.barredLanes := by
  rw [List.mem_eraseDups, List.mem_append, or_iff_right_of_imp]
  intro h
  exact List.contains_iff_mem.mp (List.mem_filter.mp h).2

/-! ### Start (R215 to R217) -/

/-- A request has left the queue, and the lanes that it alone barred are open (R216). -/
def State.dequeue (s : State) (q : TackRequest) : State :=
  let s1 := { s with coll := { s.coll with queue := s.coll.queue.erase q } }
  { s1 with coll := { s1.coll with barred := s1.barredNow } }

/-- The checks of a plan at the start of its tack, and the start (R174, R215). -/
def State.checkTack (s : State) (q : TackRequest) : State :=
  if q.plan ≠ 0 && complementBytes (s.plan q.plan).image ≠ (s.plan q.plan).complement then
    (s.criticalMismatch 2 q.plan).refuseTack q 0xFF 0
  else
    match overfull (s.aimsWith q.plan) with
    | some b => s.refuseTack q b (reaching (s.aimsWith q.plan) b)
    | none => s.beginTack q

theorem checkTack_passes {s : State} {q : TackRequest}
    (hgood : q.plan = 0 ∨ complementBytes (s.plan q.plan).image = (s.plan q.plan).complement)
    (hroom : overfull (s.aimsWith q.plan) = none) : s.checkTack q = s.beginTack q := by
  rw [State.checkTack, if_neg, hroom]
  rcases hgood with h | h <;> simp [h]

theorem tackStart_next {s : State} {q : TackRequest} (ht : s.coll.tack = none)
    (hq : s.coll.queue.find? (fun q => !s.hitsClaims q.plan) = some q)
    (hgood : q.plan = 0 ∨ complementBytes (s.plan q.plan).image = (s.plan q.plan).complement)
    (hroom : overfull (s.aimsWith q.plan) = none) :
    exec .tackStart s = .next ((s.dequeue q).beginTack q).settlePlan.enterPhases := by
  have hexec : exec .tackStart s = if s.coll.tack.isSome then .next s
    else match s.coll.queue.find? fun q => !s.hitsClaims q.plan with
      | none => .next s
      | some q => .next ((s.dequeue q).checkTack q).settlePlan.enterPhases := rfl
  rw [hexec, ht, if_neg (by decide), hq]
  dsimp only
  rw [checkTack_passes (s := s.dequeue q) hgood hroom]

/-- Lanes that take part are QUIESCING (R217 step 2). -/
def State.quiesce (s : State) (l : List Nat) : State :=
  l.foldl (fun s k => s.modLane k fun l => { l with state := .quiescing }) s

theorem laneAt_quiesce (s : State) (l : List Nat) (j : Nat) :
    (s.quiesce l).laneAt j = if j ∈ l then { s.laneAt j with state := .quiescing } else s.laneAt j :=
  foldl_view (view := State.laneAt) (I := fun _ => True) (f := fun s k => s.modLane k fun l => { l with state := .quiescing })
    (g := fun _ l => { l with state := .quiescing }) (fun _ _ h => h) (fun _ _ => rfl)
    (fun t k j _ => laneAt_modLane t k j _) l trivial j

/-- The tack that a request starts (R217); one without lanes goes straight to its end. -/
def State.newTack (s : State) (q : TackRequest) : Tack :=
  let lanes := s.lanesDiffering q.plan
  { plan := q.plan
    coll := q.coll
    started := s.now
    step := if lanes = [] then .trained else .quiescing
    lanes := lanes
    aims := ⟨(lanes.filter fun k => (s.laneAt k).state = .active).map fun k => (k, (s.laneAt k).targets)⟩
    trained := []
    marked := q.marked }

/-- A state in which a tack runs, or none. -/
def State.withTack (s : State) (t : Option Tack) : State := { s with coll := { s.coll with tack := t } }

theorem laneAt_withTack (s : State) (t : Option Tack) (k : Nat) : (s.withTack t).laneAt k = s.laneAt k := rfl

theorem beginTack_eq (s : State) (q : TackRequest) : ∃ u : State,
    (∀ k ∈ s.lanesDiffering q.plan, (u.laneAt k).state = .quiescing) ∧
    s.beginTack q = if q.coll.isNone then (u.withTack (some (s.newTack q))).setReg 0x411002 2
      else u.withTack (some (s.newTack q)) := by
  refine ⟨(s.holdMulticasts ((s.lanesDiffering q.plan).filter fun k => (s.laneAt k).state = .active)).quiesce
    (s.lanesDiffering q.plan), fun k hk => ?_, rfl⟩
  rw [laneAt_quiesce, if_pos hk]

theorem beginTack_facts (s : State) (q : TackRequest) :
    (s.beginTack q).coll.tack = some (s.newTack q) ∧
    (∀ k ∈ s.lanesDiffering q.plan, ((s.beginTack q).laneAt k).state = .quiescing) ∧
    (q.coll = none → (s.beginTack q).reg 0x411002 = 2) := by
  obtain ⟨u, hlanes, h⟩ := beginTack_eq s q
  rw [h]
  cases hc : q.coll with
  | none => exact ⟨rfl, hlanes, fun _ => reg_setReg_same _ _ _⟩
  | some c => exact ⟨rfl, hlanes, fun h => nomatch h⟩

/-! ### Quiescing ends (R217 steps 3 and 4) -/

/-- Where plan `n` aims lane `k`; nowhere if it does not name it. -/
def State.plannedAim (s : State) (n k : Nat) : Nat :=
  (((s.planEntries n).find? fun e => laneKey e.1 e.2.1 = k).map (·.2.2)).getD 0

/-- A lane is RETUNING to an aim (R217 step 4). -/
def State.retuneTo (s : State) (aim : Nat → Nat) (k : Nat) : State :=
  (s.stopLane k .retuning).modLane k fun l => { l with targets := aim k }

theorem laneAt_foldl_retuneTo (s : State) (aim : Nat → Nat) (l : List Nat) (j : Nat) :
    (l.foldl (fun s k => s.retuneTo aim k) s).laneAt j =
      if j ∈ l then { (s.laneAt j).stopped .retuning with targets := aim j } else s.laneAt j :=
  foldl_view (view := State.laneAt) (I := fun _ => True) (f := fun s k => s.retuneTo aim k)
    (g := fun k l => { l.stopped .retuning with targets := aim k }) (fun _ _ h => h) (fun _ _ => rfl)
    (fun t k j _ => (stopLane_changes t k .retuning).trans (.modLane _ k _) j) l trivial j

theorem foldl_retuneTo_only (aim : Nat → Nat) (l : List Nat) (s : State) :
    ∃ g r, l.foldl (fun s k => s.retuneTo aim k) s = { s with rig := g, regs := r } := by
  induction l generalizing s with
  | nil => exact ⟨_, _, rfl⟩
  | cons k l ih =>
    obtain ⟨g, r, h⟩ := ih (s.retuneTo aim k)
    refine ⟨g, r, ?_⟩
    rw [List.foldl_cons, h]
    apply State.ext_of <;> simp [State.retuneTo]

theorem tackQuiesced_next {s : State} {k : Tack} (hk : s.coll.tack = some k) (hstep : k.step = .quiescing)
    (hidle : (∀ l ∈ k.lanes, (s.laneAt l).replay = []) ∨ k.started + 2200 ≤ s.now) :
    exec .tackQuiesced s = .next ((k.lanes.foldl (fun t l => t.retuneTo (s.plannedAim k.plan) l) s).withTack
      (some { k with step := .retuning })) := by
  change execTackQuiesced s = _
  have haim : ∀ l, (match (s.planEntries k.plan).find? fun e => laneKey e.1 e.2.1 = l with
      | some e => e.2.2
      | none => 0) = s.plannedAim k.plan l := by
    intro l
    unfold State.plannedAim
    cases (s.planEntries k.plan).find? fun e => laneKey e.1 e.2.1 = l with
    | none => rfl
    | some e => rfl
  have hready : ¬ (decide (k.step ≠ .quiescing) || (!(k.lanes.all fun l => (s.laneAt l).replay = []) &&
      decide (s.now < k.started + 2200))) = true := by
    rw [hstep]
    rcases hidle with h | h
    · simpa using fun l hl hne => absurd (h l hl) hne
    · simpa using fun _ _ _ => h
  unfold execTackQuiesced
  rw [hk]
  dsimp only
  rw [if_neg hready]
  exact congrArg (fun aim => Host.Outcome.next ((k.lanes.foldl (fun t l => t.retuneTo aim l) s).withTack
    (some { k with step := .retuning }))) (funext haim)

/-! ### Retuning ends (R217 steps 5 and 6, R219) -/

/-- An answer of WRONG counts for a lane that takes part (R219). -/
def State.answerWrong (lanes : List Nat) (s : State) (w : Nat × Nat × Nat) : State :=
  if lanes.contains w.1 then s.tackWrong w.1 w.2.1 w.2.2 else s

/-- The lanes of a tack once they have trained and what is wrong has been answered (R217 step 6, R219). -/
def State.trainAll (s : State) (k : Tack) (failed : List Nat) (wrong : List (Nat × Nat × Nat)) : State :=
  wrong.foldl (State.answerWrong k.lanes) (k.lanes.foldl (fun s l => s.trainLane failed l) s)

/-- The lanes that training has brought up. -/
def State.trainedOf (s : State) (k : Tack) : List Nat :=
  k.lanes.filter fun l => (s.laneAt l).state = .training && !(s.laneAt l).wrongWait

theorem tackRetuned_next {s : State} {k : Tack} (failed : List Nat) (wrong : List (Nat × Nat × Nat))
    (hk : s.coll.tack = some k) (hstep : k.step = .retuning) :
    exec (.tackRetuned failed wrong) s = .next ((s.trainAll k failed wrong).withTack
      (some { k with step := .trained, trained := (s.trainAll k failed wrong).trainedOf k })) := by
  change execTackRetuned failed wrong s = _
  unfold execTackRetuned
  rw [hk]
  dsimp only
  rw [if_neg (not_not_intro hstep)]
  rfl

theorem foldl_answerWrong_only (lanes : List Nat) (wrong : List (Nat × Nat × Nat)) (s : State) : ∃ g r c d p,
    wrong.foldl (State.answerWrong lanes) s = { s with rig := g, regs := r, control := c, dbg := d, photonics := p } := by
  induction wrong generalizing s with
  | nil => exact ⟨_, _, _, _, _, rfl⟩
  | cons w l ih =>
    obtain ⟨g, r, c, d, p, h⟩ := ih (s.answerWrong lanes w)
    refine ⟨g, r, c, d, p, ?_⟩
    rw [List.foldl_cons, h]
    unfold State.answerWrong
    split
    · apply State.ext_of <;> simp only [State.tackWrong_kept]
    · rfl

theorem trainAll_only (s : State) (k : Tack) (failed : List Nat) (wrong : List (Nat × Nat × Nat)) : ∃ g r c d p,
    s.trainAll k failed wrong = { s with rig := g, regs := r, control := c, dbg := d, photonics := p } := by
  obtain ⟨g, r, c, d, h⟩ := foldl_trainLane_only failed k.lanes s
  obtain ⟨g', r', c', d', p, h'⟩ := foldl_answerWrong_only k.lanes wrong (k.lanes.foldl (fun s l => s.trainLane failed l) s)
  exact ⟨g', r', c', d', p, by rw [State.trainAll, h', h]⟩

/-! ### The end of a tack (R217 steps 7 and 8) -/

/-- The end of a tack is counted and raised (R217 step 8): `d` since its start, `m` the longest. -/
def State.countTack (s : State) (k : Tack) (d m : Nat) : State :=
  let inactive := (k.lanes.filter fun l => (s.laneAt l).targets ≠ 0 && (s.laneAt l).state ≠ .active).length
  (((((s.withTack none).countReg 0x411004 64 1).setReg 0x411005 d).setReg 0x411006 m).countReg 0x411008 32 inactive).raise
    0x1304 0 0x4001 (leBytes 1 k.plan ++ leBytes 4 d ++ leBytes 2 inactive)

/-- The collective that a tack was for goes on to its phase, unless its lanes are barred; the control node's request is done
(R216, R226). -/
def State.afterTack (s : State) : Option Nat → State
  | none => s.setReg 0x411002 0
  | some c =>
    match s.coll.running.find? fun r => r.seq = c && r.stopped = [] with
    | some r => if s.phaseBarred r then s.modCollective c fun r => { r with waitingTack := false } else s.goPhase r
    | none => s

/-- What follows the return of a tack's lanes, up to its collective's phase (R193, R213, R217 step 8, R218). -/
def State.closeTack (s : State) (k : Tack) (d m : Nat) : State :=
  (s.countTack k d m).restartMulticasts.retrainStandings.settlePlan

/-- The end of a tack whose lanes have come back. -/
def State.endTack (s : State) (k : Tack) (d m : Nat) : State := ((s.closeTack k d m).afterTack k.coll).enterPhases

theorem tackDone_next {s : State} {k : Tack} (hk : s.coll.tack = some k) (hstep : k.step = .trained) :
    exec .tackDone s = .next ((k.trained.foldl State.returnLane s).endTack k (s.now - k.started)
      (Nat.max (s.now - k.started) (s.reg 0x411006))) := by
  change execTackDone s = _
  rw [State.endTack]
  generalize hu : (k.trained.foldl State.returnLane s).closeTack k (s.now - k.started)
    (Nat.max (s.now - k.started) (s.reg 0x411006)) = u
  have hexec : execTackDone s = match k.coll with
      | none => .next (u.setReg 0x411002 0).enterPhases
      | some c =>
        match u.coll.running.find? fun r => r.seq = c && r.stopped = [] with
        | some r =>
          if u.phaseBarred r then .next (u.modCollective c fun r => { r with waitingTack := false }).enterPhases
          else .next (u.goPhase r).enterPhases
        | none => .next u.enterPhases := by
    subst hu
    unfold execTackDone
    rw [hk]
    dsimp only
    exact if_neg (not_not_intro hstep)
  rw [hexec]
  unfold State.afterTack
  cases k.coll with
  | none => rfl
  | some c =>
    dsimp only
    split
    · split
      · rfl
      · rfl
    · rfl

theorem countTack_facts (s : State) (k : Tack) (d m : Nat) :
    (s.countTack k d m).reg 0x411004 = satAdd 64 (s.reg 0x411004) 1 ∧ (s.countTack k d m).reg 0x411005 = d ∧
    ∃ c g r, s.countTack k d m = { s.withTack none with control := c, dbg := g, regs := r } := by
  unfold State.countTack
  dsimp only
  refine ⟨?_, ?_, ?_⟩
  · rw [reg_raise (by decide)]
    exact (reg_setReg_ne (by decide) _).trans ((reg_setReg_ne (by decide) _).trans
      ((reg_setReg_ne (by decide) _).trans (reg_setReg_same _ _ _)))
  · rw [reg_raise (by decide)]
    exact (reg_setReg_ne (by decide) _).trans ((reg_setReg_ne (by decide) _).trans (reg_setReg_same _ _ _))
  · exact State.raise_only _ _ _ _ _

theorem restartMulticasts_lanes (s : State) : s.restartMulticasts.rig.lanes = s.rig.lanes := by
  unfold State.restartMulticasts
  refine foldl_keeps (π := fun s => s.rig.lanes) (fun s m => ?_) _ _
  unfold State.startMulticast
  repeat' split
  all_goals rfl

theorem retrainStandings_lanes (s : State) : s.retrainStandings.rig.lanes = s.rig.lanes := by
  unfold State.retrainStandings
  exact foldl_keeps (π := fun s => s.rig.lanes) (f := fun s (e : Nat × StandingPath) =>
    s.retrainStanding (e.1 / 16) (e.1 % 16)) (fun _ _ => rfl) _ s

theorem afterTack_facts (s : State) (c : Option Nat) :
    (s.afterTack c).coll.tack = s.coll.tack ∧ (∀ j, j ≠ 0x411002 → (s.afterTack c).reg j = s.reg j) ∧
    ∃ k r o, s.afterTack c = { s with coll := k, regs := r, control := o } := by
  cases c with
  | none => exact ⟨rfl, fun j hj => reg_setReg_ne hj _, _, _, _, rfl⟩
  | some c =>
    unfold State.afterTack
    dsimp only
    split
    · split
      · exact ⟨rfl, fun _ _ => rfl, _, _, _, rfl⟩
      · rw [goPhase_eq]
        exact ⟨rfl, fun _ _ => rfl, _, _, _, rfl⟩
    · exact ⟨rfl, fun _ _ => rfl, _, _, _, rfl⟩

/-- The end of a tack counts it, and moves no lane. -/
theorem endTack_facts (s : State) (k : Tack) (d m : Nat) :
    (s.endTack k d m).coll.tack = none ∧ (s.endTack k d m).reg 0x411004 = satAdd 64 (s.reg 0x411004) 1 ∧
    (s.endTack k d m).reg 0x411005 = d ∧ (s.endTack k d m).rig.lanes = s.rig.lanes ∧
    s.endTack k d m = { s with
      rig := (s.endTack k d m).rig, coll := (s.endTack k d m).coll, regs := (s.endTack k d m).regs
      control := (s.endTack k d m).control, commits := (s.endTack k d m).commits, dbg := (s.endTack k d m).dbg } := by
  obtain ⟨hcount, hspan, c, g, r, h⟩ := countTack_facts s k d m
  obtain ⟨p, w, hcoll⟩ := settlePlan_coll (s.countTack k d m).restartMulticasts.retrainStandings
  have hkept : s.closeTack k d m = { s with
      rig := (s.closeTack k d m).rig, coll := (s.closeTack k d m).coll, regs := (s.closeTack k d m).regs
      control := (s.closeTack k d m).control, commits := (s.closeTack k d m).commits, dbg := (s.closeTack k d m).dbg } := by
    apply State.ext_of <;>
      simp only [State.closeTack, State.settlePlan_kept, State.retrainStandings_kept, State.restartMulticasts_kept] <;>
      rw [h] <;> rfl
  have hlanes : (s.closeTack k d m).rig.lanes = s.rig.lanes := by
    rw [State.closeTack]
    simp only [State.settlePlan_kept]
    rw [retrainStandings_lanes, restartMulticasts_lanes, h]
    rfl
  have htack : (s.closeTack k d m).coll.tack = none := by
    rw [State.closeTack, hcoll]
    simp only [State.retrainStandings_kept, State.restartMulticasts_kept]
    rw [h]
    rfl
  have hreg : ∀ j, j ≠ 0x410003 → (s.closeTack k d m).reg j = (s.countTack k d m).reg j := fun j hj => by
    rw [State.closeTack, reg_settlePlan hj]
    exact reg_of_regs (by simp only [State.retrainStandings_kept, State.restartMulticasts_kept]) j
  obtain ⟨hafter, hregs, k', r', o, honly⟩ := afterTack_facts (s.closeTack k d m) k.coll
  obtain ⟨hphases, -, -⟩ := keepsPhases.enterPhases ((s.closeTack k d m).afterTack k.coll)
  obtain ⟨-, -, -, henter⟩ := entersPhases.enterPhases ((s.closeTack k d m).afterTack k.coll)
  unfold State.endTack
  refine ⟨?_, ?_, ?_, ?_, ?_⟩
  · rw [hphases]
    exact hafter.trans htack
  · rw [reg_enterPhases, hregs _ (by decide), hreg _ (by decide), hcount]
  · rw [reg_enterPhases, hregs _ (by decide), hreg _ (by decide), hspan]
  · rw [henter, honly]
    exact hlanes
  · rw [henter, honly, hkept]

/-- Settles O7: each command by the state that it answers; what becomes of a lane in a tack is read lane by lane, since no lane's
training moves the paths of another. -/
theorem tackCommandsRun : Obligations.TackCommandsRun := by
  unfold Obligations.TackCommandsRun
  refine ⟨?_, ?_, ?_, ?_, ?_, ?_, ?_⟩
  · rintro s _ _ hp rfl rfl hst hn
    refine ⟨_, planCommit_next hp hst hn, SMap.get_set_same _ _ _ _, fun m hm => SMap.get_set_ne _ _ hm _,
      reg_setReg_same _ _ _, ?_, rfl, rfl⟩
    exact (reg_setReg_ne (by decide) _).trans (reg_setReg_same s _ _)
  · intro s n hn hq
    exact ⟨_, tackRequest_next hn hq, rfl, reg_setReg_same _ _ _, fun k hk => reg_setReg_ne hk _, rfl⟩
  · intro s
    obtain ⟨hcoll, -, -⟩ := keepsPhases.enterPhases { s with coll := { s.coll with
      barred := (s.barredNow ++ s.barredLanes).eraseDups } }
    obtain ⟨-, -, -, honly⟩ := entersPhases.enterPhases { s with coll := { s.coll with
      barred := (s.barredNow ++ s.barredLanes).eraseDups } }
    refine ⟨_, rfl, fun k => ?_, ?_, honly⟩
    · rw [hcoll]
      exact mem_barred
    · rw [hcoll]
  · intro s q ht hq hgood hroom
    refine ⟨_, tackStart_next ht hq hgood hroom, ?_⟩
    obtain ⟨htack, hlanes, hreg⟩ := beginTack_facts (s.dequeue q) q
    have hrig : ((s.dequeue q).beginTack q).settlePlan.enterPhases.rig = ((s.dequeue q).beginTack q).rig := by
      simp only [State.enterPhases_kept, State.settlePlan_kept]
    obtain ⟨p, w, hsettle⟩ := settlePlan_coll ((s.dequeue q).beginTack q)
    obtain ⟨hcoll, -, -⟩ := keepsPhases.enterPhases ((s.dequeue q).beginTack q).settlePlan
    obtain ⟨-, -, -, honly⟩ := entersPhases.enterPhases ((s.dequeue q).beginTack q).settlePlan
    refine ⟨?_, fun k hk => ?_, fun hc => ?_, ?_⟩
    · rw [hcoll, hsettle]
      exact congrArg (Option.map _) htack
    · rw [State.laneAt, hrig]
      exact hlanes k hk
    · rw [reg_enterPhases, reg_settlePlan (by decide)]
      exact hreg hc
    · rw [honly]
      apply State.ext_of <;> simp only [State.settlePlan_kept, State.beginTack_kept] <;> rfl
  · intro s k hk hstep hidle
    refine ⟨_, tackQuiesced_next hk hstep hidle, ?_⟩
    have hlane := laneAt_foldl_retuneTo s (s.plannedAim k.plan) k.lanes
    obtain ⟨g, r, honly⟩ := foldl_retuneTo_only (s.plannedAim k.plan) k.lanes s
    refine ⟨?_, fun l hl => ?_, fun l hl => ?_, ?_⟩
    · rw [honly]
      rfl
    · rw [laneAt_withTack, hlane, if_pos hl]
      exact ⟨rfl, rfl⟩
    · rw [laneAt_withTack, hlane, if_neg hl]
      exact ⟨rfl, rfl⟩
    · rw [honly]
      rfl
  · intro s k failed wrong hk hstep
    have hlane : ∀ l, (s.trainAll k failed []).laneAt l = _ := laneAt_foldl_trainLane s failed k.lanes
    obtain ⟨g, r, c, d, p, honly⟩ := trainAll_only s k failed wrong
    refine ⟨_, tackRetuned_next failed wrong hk hstep, rfl, ?_, ?_, ?_, ?_, ?_⟩
    · rintro l hl htargets hdrops hfailed rfl
      have hcontains : failed.contains l = false := by simpa using hfailed
      rw [laneAt_withTack, hlane, if_pos hl, hdrops, hcontains, trainedInTack_trains htargets]
      exact ⟨rfl, rfl⟩
    · rintro _ ⟨⟩ l hl
      obtain ⟨hmem, hup⟩ := List.mem_filter.mp hl
      rw [Bool.and_eq_true, decide_eq_true_eq, Bool.not_eq_true'] at hup
      exact ⟨hmem, hup⟩
    · rintro l hl htargets rfl
      rw [laneAt_withTack, hlane, if_pos hl]
      exact state_trainedInTack_aimless htargets _ _ _ _
    · rintro l hl rfl
      rw [laneAt_withTack, hlane, if_neg hl]
    · rw [honly]
      rfl
  · intro s k hk hstep
    obtain ⟨htack, hcount, hspan, hlanes, honly⟩ := endTack_facts (k.trained.foldl State.returnLane s) k (s.now - k.started)
      (Nat.max (s.now - k.started) (s.reg 0x411006))
    have hlane := laneAt_foldl_returnLane s k.trained
    obtain ⟨g, r, c, d, hreturn⟩ := foldl_returnLane_only k.trained s
    refine ⟨_, tackDone_next hk hstep, htack, ?_, hspan, fun l hl htrain hwait hdrops htargets => ?_, fun l hl => ?_, ?_⟩
    · rw [hcount, reg_foldl_returnLane (by decide) (by decide) (by decide)]
    · rw [laneAt_of_lanes hlanes, hlane, if_pos hl]
      exact state_returned htrain hwait hdrops htargets _
    · rw [laneAt_of_lanes hlanes, hlane, if_neg hl]
    · rw [honly, hreturn]

end Sys2Proof.Machine

/-! PROOF. Lasers, bars, rings and banks after a change of one, and what a change of the light makes of lanes, standing paths and
ports (R192, R193, R252, R255 to R257). -/

namespace Sys2Proof.Machine

/-! ### The photonic controller's tables after a change of one -/

theorem laser_modLaser (s : State) (b n c m : Nat) (f : Laser → Laser) :
    (s.modLaser b n f).laser c m = if laserKey c m = laserKey b n then f (s.laser b n) else s.laser c m := by
  by_cases h : laserKey c m = laserKey b n
  · simp [State.laser, h]
  · simp [State.laser, h, SMap.get_modify_ne]

theorem laser_modLaser_same (s : State) (b n : Nat) (f : Laser → Laser) : (s.modLaser b n f).laser b n = f (s.laser b n) :=
  SMap.get_modify_same _ _ _ _

theorem laser_modLaser_ne (s : State) {b n c m : Nat} (h : laserKey c m ≠ laserKey b n) (f : Laser → Laser) :
    (s.modLaser b n f).laser c m = s.laser c m := SMap.get_modify_ne _ _ _ h _

theorem laser_of_lasers {s t : State} (h : t.photonics.lasers = s.photonics.lasers) (b n : Nat) : t.laser b n = s.laser b n := by
  rw [State.laser, State.laser, h]

/-- Lasers in different states are different ones. -/
theorem laserKey_ne_of_state {s : State} {b n c m : Nat} (h : (s.laser b n).state ≠ (s.laser c m).state) :
    laserKey b n ≠ laserKey c m := by
  intro hkey
  rw [State.laser, State.laser, hkey] at h
  exact h rfl

theorem laserKey_ne {b n m : Nat} (h : n ≠ m) : laserKey b n ≠ laserKey b m := by unfold laserKey; omega

theorem bar_modBar_same (s : State) (b : Nat) (f : Bar → Bar) : (s.modBar b f).bar b = f (s.bar b) := SMap.get_modify_same _ _ _ _

theorem bank_modBank_same (s : State) (b : Nat) (f : Bank → Bank) : (s.modBank b f).bank b = f (s.bank b) :=
  SMap.get_modify_same _ _ _ _

theorem bank_modBank_ne (s : State) {b c : Nat} (h : c ≠ b) (f : Bank → Bank) : (s.modBank b f).bank c = s.bank c :=
  SMap.get_modify_ne _ _ _ h _

theorem ring_modRing_same (s : State) (e : Nat) (f : Ring → Ring) : (s.modRing e f).ring e = f (s.ring e) :=
  SMap.get_set_same _ _ _ _

theorem ring_modRing_ne (s : State) {d e : Nat} (h : d ≠ e) (f : Ring → Ring) : (s.modRing e f).ring d = s.ring d :=
  SMap.get_set_ne _ _ h _

theorem sameRings_modRing (e : Nat) (s : State) (f : Ring → Ring) : sameRings e s (s.modRing e f) :=
  fun _ h => SMap.get_set_ne _ _ h _

theorem sameRings_of_rings {s t : State} (h : t.photonics.rings = s.photonics.rings) (e : Nat) : sameRings e s t :=
  fun _ _ => by rw [h]

theorem sameRings.trans {e : Nat} {s t u : State} (h : sameRings e s t) (g : sameRings e t u) : sameRings e s u :=
  fun d hd => (g d hd).trans (h d hd)

/-- A ring rests on its entry, and on the sites that are populated. -/
theorem ring_of_rings {s t : State} (h : t.photonics.rings = s.photonics.rings) (hf : t.fuses = s.fuses) (e : Nat) :
    t.ring e = s.ring e := by
  have hpop : t.sitePopulated = s.sitePopulated := by
    funext a
    simp only [State.sitePopulated, hf]
  rw [State.ring, State.ring, State.defaultRing, State.defaultRing, hpop, h]

/-! ### Events of another code -/

theorem raised_of_control {s t : State} (h : t.control = s.control) (c : Nat) : t.raised c = s.raised c := by
  rw [State.raised, State.raised, h]

/-- An event leaves the counts of other codes, that of an invalid release excepted (R313). -/
theorem raised_raise_ne {c code : Nat} (h : c ≠ code) (hc : c ≠ 0x1601) (s : State) (d u : Nat) (l : List Byte) :
    (s.raise code d u l).raised c = s.raised c := by
  simp [State.raised, State.raise, State.raiseSev, State.raiseEvent_raised _ _ _ hc, State.mkEvent, h]

/-! ### What a change of the light makes of links -/

/-- From `s` to `t` only links have been changed: the light, the count and the sites are as before, and events and entries are
those of lanes and standing paths that go out (0x1302, OD 0x4021.05 and .06) and of lanes' widths (0x1408), with what any
event may bring along (R313). -/
structure linksOnly (s t : State) : Prop where
  photonics : t.photonics = s.photonics
  fuses : t.fuses = s.fuses
  clocks : t.clocks = s.clocks
  reg : ∀ j, j ≠ 0x402105 → j ≠ 0x402106 → j ≠ 0x831006 → t.reg j = s.reg j
  raised : ∀ c, c ≠ 0x1302 → c ≠ 0x1408 → c ≠ 0x1601 → t.raised c = s.raised c

namespace linksOnly

theorem refl (s : State) : linksOnly s s := ⟨rfl, rfl, rfl, fun _ _ _ _ => rfl, fun _ _ _ _ => rfl⟩

theorem trans {s t u : State} (h : linksOnly s t) (g : linksOnly t u) : linksOnly s u where
  photonics := g.photonics.trans h.photonics
  fuses := g.fuses.trans h.fuses
  clocks := g.clocks.trans h.clocks
  reg j h5 h6 h8 := (g.reg j h5 h6 h8).trans (h.reg j h5 h6 h8)
  raised c h2 h8 h1 := (g.raised c h2 h8 h1).trans (h.raised c h2 h8 h1)

/-- A change of the rig or of ports alone. -/
theorem of_same {s t : State} (hp : t.photonics = s.photonics) (hf : t.fuses = s.fuses) (hc : t.clocks = s.clocks)
    (hr : t.regs = s.regs) (hk : t.control = s.control) : linksOnly s t :=
  ⟨hp, hf, hc, fun j _ _ _ => reg_of_regs hr j, fun c _ _ _ => raised_of_control hk c⟩

theorem foldl {α : Type} {f : State → α → State} (h : ∀ s a, linksOnly s (f s a)) (l : List α) (s : State) :
    linksOnly s (l.foldl f s) := by
  induction l generalizing s with
  | nil => exact refl s
  | cons a l ih => exact (h s a).trans (ih (f s a))

theorem modLane (s : State) (k : Nat) (f : Lane → Lane) : linksOnly s (s.modLane k f) := of_same rfl rfl rfl rfl rfl

theorem modStanding (s : State) (a b : Nat) (f : StandingPath → StandingPath) : linksOnly s (s.modStanding a b f) :=
  of_same rfl rfl rfl rfl rfl

theorem retrainStanding (s : State) (a b : Nat) : linksOnly s (s.retrainStanding a b) := of_same rfl rfl rfl rfl rfl

/-- The events of a link that is out and of a lane's width. -/
theorem raise {code : Nat} (h : code = 0x1302 ∨ code = 0x1408) (s : State) (d u : Nat) (l : List Byte) :
    linksOnly s (s.raise code d u l) where
  photonics := State.raise_photonics _ _ _ _ _
  fuses := by simp only [State.raise_kept]
  clocks := by simp only [State.raise_kept]
  reg j _ _ h8 := reg_raise h8 s code d u l
  raised c h2 h8 h1 := raised_raise_ne (by omega) h1 s d u l

theorem widthEvent (s : State) (k : Nat) : linksOnly s (s.widthEvent k) := raise (.inr rfl) s _ _ _

theorem countReg {j : Nat} (h : j = 0x402105 ∨ j = 0x402106) (s : State) (w n : Nat) : linksOnly s (s.countReg j w n) where
  photonics := rfl
  fuses := rfl
  clocks := rfl
  reg i h5 h6 _ := reg_setReg_ne (by omega) _
  raised _ _ _ _ := rfl

theorem endFull (s : State) (p : Nat) : linksOnly s (s.endFull p) := by
  obtain ⟨m, r, h, hreg⟩ := endFull_only s p
  refine ⟨by rw [h], by rw [h], by rw [h], fun j _ h6 _ => hreg j h6, fun c _ _ _ => ?_⟩
  rw [h]
  rfl

theorem stopLane (s : State) (k : Nat) (st : LaneState) : linksOnly s (s.stopLane k st) := by
  obtain ⟨-, hreg⟩ := stopLane_facts s k st
  refine ⟨?_, ?_, ?_, fun j _ h6 _ => hreg j h6, fun c _ _ _ => raised_of_control ?_ c⟩ <;> simp only [State.stopLane_kept]

theorem laneOut (s : State) (k : Nat) (retry : Bool) : linksOnly s (s.laneOut k retry) :=
  (((stopLane s k .out).trans (modLane _ k _)).trans (countReg (.inl rfl) _ 32 1)).trans (raise (.inl rfl) _ _ _ _)

theorem laneActive (s : State) (k : Nat) : linksOnly s (s.laneActive k) :=
  (endFull s k).trans (of_same rfl rfl rfl rfl rfl)

theorem laneUp (s : State) (k : Nat) : linksOnly s (s.laneUp k) := by
  unfold State.laneUp
  dsimp only
  split
  · exact (modLane s k _).trans (laneOut _ k false)
  · split
    · exact (modLane s k _).trans (laneActive _ k)
    · exact ((modLane s k _).trans (laneActive _ k)).trans (widthEvent _ k)

/-- A lane's positions to drop are looked at again (R256, R257). -/
theorem reviewLane (s : State) (k : Nat) : linksOnly s (s.reviewLane k) := by
  unfold State.reviewLane
  dsimp only
  split
  · exact refl s
  · split
    · split
      · exact modLane s k _
      · exact (laneOut s k false).trans (modLane _ k _)
    · split
      · exact modLane s k _
      · split
        · exact refl s
        · split
          · exact modLane s k _
          · exact (modLane s k _).trans (widthEvent _ k)

theorem releaseLane (s : State) (k : Nat) : linksOnly s (s.releaseLane k) := by
  unfold State.releaseLane
  split
  · exact refl s
  · exact modLane s k _

theorem laneWrong (s : State) (k : Nat) : linksOnly s (s.laneWrong k) := by
  unfold State.laneWrong
  dsimp only
  split
  · exact (stopLane s k .training).trans (modLane _ k _)
  · exact modLane s k _

theorem toFront (s : State) (l : List Packet) : linksOnly s (s.toFront l) := of_same rfl rfl rfl rfl rfl

theorem standingDown (s : State) (a b : Nat) : linksOnly s (s.standingDown a b) := by
  by_cases hst : (s.standing a b).state = .down
  · have hkeep : s.standingDown a b = s := if_pos hst
    rw [hkeep]
    exact refl s
  · have hdrop : linksOnly s ((s.modStanding a b StandingPath.downed).dropStanding a b) := of_same rfl rfl rfl rfl rfl
    have hdown : s.standingDown a b = (State.countReg (State.toFront (State.endFull
        ((s.modStanding a b StandingPath.downed).dropStanding a b) (16384 + standKey a b))
        ((s.standing a b).replay.map fun e => { e.2.2 with again := .kept })) 0x402105 32 1).raise 0x1302 (siteDie a)
          (siteUnit a) (leBytes 1 a ++ leBytes 1 0x30 ++ leBytes 1 b) := if_neg hst
    rw [hdown]
    exact (((hdrop.trans (endFull _ _)).trans (toFront _ _)).trans (countReg (.inl rfl) _ 32 1)).trans (raise (.inl rfl) _ _ _ _)

theorem reviewPort (s : State) (p : Nat) : linksOnly s (s.reviewPort p) := by
  refine of_same ?_ ?_ ?_ ?_ ?_ <;> simp only [State.reviewPort_kept]

end linksOnly

/-! ### Channels dropped and restored (R243, R255) -/

/-- A bar once one of its channels is dropped. -/
def Bar.dropping (ch : Nat) (k : Bar) : Bar := { k with droppedChannels := ch :: k.droppedChannels.erase ch }

/-- A bar once one of its channels is restored. -/
def Bar.restoring (ch : Nat) (k : Bar) : Bar := { k with droppedChannels := k.droppedChannels.erase ch }

theorem channelDropped_links (s : State) (b ch : Nat) : linksOnly (s.modBar b (Bar.dropping ch)) (s.channelDropped b ch) :=
  ((linksOnly.foldl linksOnly.reviewLane _ _).trans
    (linksOnly.foldl (fun s slot => (linksOnly.standingDown s slot _).trans (linksOnly.modStanding _ slot _ _)) _ _)).trans
    (linksOnly.foldl linksOnly.reviewPort _ _)

/-- A channel is restored, before its event. -/
def State.relit (s : State) (b ch : Nat) : State :=
  let s1 := s.modBar b (Bar.restoring ch)
  let s2 := (s1.lanesOfBar b).foldl State.reviewLane s1
  let s3 := ((List.range 11).filter fun slot => barOfStanding slot = b && s2.hasStanding slot ((slot + ch) % 16)).foldl
    (fun s slot => (s.retrainStanding slot ((slot + ch) % 16)).modStanding slot ((slot + ch) % 16) fun q =>
      { q with wavelengthDropped := false }) s2
  ((List.range 64).filter fun p => barOfPort p = b).foldl State.reviewPort s3

theorem channelRestored_eq (s : State) (b ch : Nat) :
    s.channelRestored b ch = (s.relit b ch).raise 0x1405 0 photonicUnit (leBytes 1 b ++ leBytes 1 ch) := rfl

theorem relit_links (s : State) (b ch : Nat) : linksOnly (s.modBar b (Bar.restoring ch)) (s.relit b ch) :=
  ((linksOnly.foldl linksOnly.reviewLane _ _).trans
    (linksOnly.foldl (fun s slot => (linksOnly.retrainStanding s slot _).trans (linksOnly.modStanding _ slot _ _)) _ _)).trans
    (linksOnly.foldl linksOnly.reviewPort _ _)

/-- A restored channel is raised once, and no light but its bar's list of dropped channels is changed. -/
theorem channelRestored_facts (s : State) (b ch : Nat) :
    (s.channelRestored b ch).photonics = (s.modBar b (Bar.restoring ch)).photonics ∧
    (s.channelRestored b ch).raised 0x1405 = s.raised 0x1405 + 1 := by
  have hlinks := relit_links s b ch
  rw [channelRestored_eq]
  refine ⟨(State.raise_photonics _ _ _ _ _).trans hlinks.photonics, ?_⟩
  rw [State.raised_raise _ _ _ _ _ (by decide)]
  exact congrArg (· + 1) (hlinks.raised _ (by decide) (by decide) (by decide))

end Sys2Proof.Machine

/-! PROOF. Spares, swaps and lines that go DEAD: what each operation makes of the lasers (R240 to R243). -/

namespace Sys2Proof.Machine

/-! ### Lasers seen after a change -/

theorem laser_congr_key (s : State) {b n c m : Nat} (h : laserKey c m = laserKey b n) : s.laser c m = s.laser b n := by
  rw [State.laser, State.laser, h]

/-- A change of a laser that `v` does not see is seen of no laser. -/
theorem view_modLaser {β : Type} (v : Laser → β) {s : State} {b n : Nat} {f : Laser → Laser}
    (hf : v (f (s.laser b n)) = v (s.laser b n)) (c m : Nat) : v ((s.modLaser b n f).laser c m) = v (s.laser c m) := by
  rw [laser_modLaser]
  split
  next h => rw [hf, laser_congr_key s h]
  next => rfl

/-- Whether a laser is the spare of a channel (R241). -/
def Laser.serves (ch : Nat) (k : Laser) : Bool := k.forChannel = some ch && (k.state = .preparing || k.state = .ready)

/-- Whether a laser is the line of a channel (R238). -/
def Laser.carries (ch : Nat) (k : Laser) : Bool := k.channel = some ch && k.state ≠ .retired

theorem spareFor_congr {s t : State} {b ch : Nat} (h : ∀ m, (t.laser b m).serves ch = (s.laser b m).serves ch) :
    t.spareFor b ch = s.spareFor b ch := congrArg ((List.range 20).find? ·) (funext h)

theorem lineForChannel_congr {s t : State} {b ch : Nat} (h : ∀ m, (t.laser b m).carries ch = (s.laser b m).carries ch) :
    t.lineForChannel b ch = s.lineForChannel b ch := congrArg ((List.range 20).find? ·) (funext h)

theorem standbySpare_congr {s t : State} {b : Nat} (h : ∀ m, (t.laser b m).state = .standby ↔ (s.laser b m).state = .standby) :
    t.standbySpare b = s.standbySpare b :=
  congrArg (([16, 17, 18, 19] : List Nat).find? ·) (funext fun m => decide_eq_decide.mpr (h m))

theorem spareFor_eq_none {s : State} {b ch : Nat} :
    s.spareFor b ch = none ↔ ∀ m < 20, (s.laser b m).serves ch = false := by
  unfold State.spareFor
  rw [List.find?_eq_none]
  simp only [List.mem_range, Bool.not_eq_true]
  rfl

theorem lt_of_spareFor {s : State} {b ch p : Nat} (h : s.spareFor b ch = some p) : p < 20 :=
  List.mem_range.mp (List.mem_of_find?_eq_some h)

theorem serves_of_spareFor {s : State} {b ch p : Nat} (h : s.spareFor b ch = some p) : (s.laser b p).serves ch = true :=
  List.find?_some (p := fun n => (s.laser b n).serves ch) h

theorem lt_of_lineForChannel {s : State} {b ch l : Nat} (h : s.lineForChannel b ch = some l) : l < 20 :=
  List.mem_range.mp (List.mem_of_find?_eq_some h)

theorem standby_of_standbySpare {s : State} {b p : Nat} (h : s.standbySpare b = some p) : (s.laser b p).state = .standby :=
  of_decide_eq_true (List.find?_some (p := fun n => decide ((s.laser b n).state = .standby)) h)

/-- A laser that is neither PREPARING nor READY is no channel's spare. -/
theorem serves_of_state {k : Laser} (hp : k.state ≠ .preparing) (hr : k.state ≠ .ready) (ch : Nat) : k.serves ch = false := by
  simp [Laser.serves, hp, hr]

/-! ### Swaps start (R242) -/

/-- A swap that starts takes its line out of service, and is raised. -/
theorem startSwap_facts (s : State) (b l p ch : Nat) :
    (∀ c m, (s.startSwap b l p ch).laser c m =
      if laserKey c m = laserKey b l then { s.laser b l with state := .swapping, changed := s.now } else s.laser c m) ∧
    ((s.startSwap b l p ch).bar b).droppedChannels = (s.bar b).droppedChannels ∧
    (∀ j, j ≠ 0x831006 → (s.startSwap b l p ch).reg j = s.reg j) ∧
    (∀ c, c ≠ 0x1402 → c ≠ 0x1601 → (s.startSwap b l p ch).raised c = s.raised c) := by
  unfold State.startSwap
  dsimp only
  refine ⟨fun c m => ?_, ?_, fun j hj => reg_raise hj _ _ _ _ _, fun c hc h1 => raised_raise_ne hc h1 _ _ _ _⟩
  · rw [laser_of_lasers (congrArg Photonics.lasers (State.raise_photonics _ _ _ _ _))]
    exact laser_modLaser s b l c m _
  · rw [State.bar, State.raise_photonics]
    exact (congrArg Bar.droppedChannels (bar_modBar_same (s.setLaser b l .swapping) b _)).trans rfl

/-- The next swap of a bar is that of a running line, or none. -/
theorem nextSwap_cases (s : State) (b : Nat) : s.nextSwap b = s ∨ ∃ l p ch, s.nextSwap b = s.startSwap b l p ch ∧ l < 20 ∧
    (s.laser b l).past15 = true ∧ ((s.laser b l).state = .active ∨ (s.laser b l).state = .warned) := by
  unfold State.nextSwap
  split
  · exact .inl rfl
  · dsimp only
    split
    next d l p rest hdue =>
      have hmem := hdue ▸ List.mem_cons_self
      obtain ⟨ch, -, hch⟩ := List.mem_filterMap.mp hmem
      split at hch
      next l' p' hl _ =>
        split at hch
        next hgo =>
          obtain ⟨rfl, rfl, rfl⟩ : ch = d ∧ l' = l ∧ p' = p := by simpa using hch
          simp only [Bool.and_eq_true, Bool.or_eq_true, decide_eq_true_eq] at hgo
          exact .inr ⟨l', p', ch, rfl, lt_of_lineForChannel hl, hgo.1.1, hgo.1.2⟩
        next => cases hch
      next => cases hch
    next => exact .inl rfl

/-- No line past 1.5 dB is left on a bar: no swap starts. -/
theorem nextSwap_none {s : State} {b : Nat} (h : ∀ n < 20, (s.laser b n).past15 = false) : s.nextSwap b = s := by
  obtain hkeep | ⟨l, p, ch, -, hl, hpast, -⟩ := nextSwap_cases s b
  · exact hkeep
  · exact absurd (hpast.symm.trans (h l hl)) (by decide)

theorem nextSwap_running {s : State} {b : Nat} (h : s.swapRuns b = true) : s.nextSwap b = s := if_pos h

/-- The next swap touches no laser but a running line, and no spare. -/
theorem nextSwap_facts (s : State) (b : Nat) :
    (∀ c m, (s.laser c m).state ≠ .active → (s.laser c m).state ≠ .warned → (s.nextSwap b).laser c m = s.laser c m) ∧
    (∀ c m ch, ((s.nextSwap b).laser c m).serves ch = (s.laser c m).serves ch) ∧
    ((s.nextSwap b).bar b).droppedChannels = (s.bar b).droppedChannels ∧
    (∀ j, j ≠ 0x831006 → (s.nextSwap b).reg j = s.reg j) ∧
    (∀ c, c ≠ 0x1402 → c ≠ 0x1601 → (s.nextSwap b).raised c = s.raised c) := by
  obtain h | ⟨l, p, d, h, -, -, hrun⟩ := nextSwap_cases s b
  · rw [h]
    exact ⟨fun _ _ _ _ => rfl, fun _ _ _ => rfl, rfl, fun _ _ => rfl, fun _ _ _ => rfl⟩
  · obtain ⟨hlaser, hbar, hreg, hraised⟩ := startSwap_facts s b l p d
    rw [h]
    refine ⟨fun c m ha hw => ?_, fun c m ch => ?_, hbar, hreg, hraised⟩
    · rw [hlaser, if_neg]
      intro hkey
      rw [laser_congr_key s hkey] at ha hw
      exact hrun.elim ha hw
    · rw [hlaser]
      split
      next hkey =>
        rw [laser_congr_key s hkey, serves_of_state (by simp) (by simp)]
        rcases hrun with hrun | hrun <;> simp [Laser.serves, hrun]
      next => rfl

/-! ### Spares are prepared (R241) -/

theorem prepareSpare_held {s : State} {b ch p : Nat} (h : s.spareFor b ch = some p) : s.prepareSpare b ch = s :=
  if_pos (by rw [h]; rfl)

theorem prepareSpare_without {s : State} {b ch : Nat} (h : s.spareFor b ch = none) (hs : s.standbySpare b = none) :
    s.prepareSpare b ch = s := by
  rw [State.prepareSpare, h, hs]
  rfl

theorem prepareSpare_takes {s : State} {b ch p : Nat} (h : s.spareFor b ch = none) (hs : s.standbySpare b = some p) :
    s.prepareSpare b ch = (s.setLaser b p .preparing).modLaser b p fun k => { k with forChannel := some ch } := by
  rw [State.prepareSpare, h, hs]
  rfl

/-- A laser that is prepared for a channel (R241). -/
def Laser.preparedFor (ch now : Nat) (k : Laser) : Laser := { k with state := .preparing, changed := now, forChannel := some ch }

theorem laser_prepareSpare_takes {s : State} {b ch p : Nat} (h : s.spareFor b ch = none) (hs : s.standbySpare b = some p)
    (c m : Nat) : (s.prepareSpare b ch).laser c m =
      if laserKey c m = laserKey b p then (s.laser b p).preparedFor ch s.now else s.laser c m := by
  rw [prepareSpare_takes h hs, State.setLaser, laser_modLaser, laser_modLaser_same, laser_modLaser]
  split
  · rfl
  · rfl

/-- Preparing a spare touches a laser in STANDBY alone. -/
theorem laser_prepareSpare {s : State} {c m : Nat} (h : (s.laser c m).state ≠ .standby) (b ch : Nat) :
    (s.prepareSpare b ch).laser c m = s.laser c m := by
  cases hfor : s.spareFor b ch with
  | some p => rw [prepareSpare_held hfor]
  | none =>
    cases hs : s.standbySpare b with
    | none => rw [prepareSpare_without hfor hs]
    | some p =>
      rw [laser_prepareSpare_takes hfor hs, if_neg]
      exact laserKey_ne_of_state (s := s) (by rw [standby_of_standbySpare hs]; exact h)

theorem prepareSpare_lasers (s : State) (b ch : Nat) :
    (s.prepareSpare b ch).photonics = { s.photonics with lasers := (s.prepareSpare b ch).photonics.lasers } := by
  unfold State.prepareSpare
  split
  · rfl
  · split
    · rfl
    · rfl

/-- A spare that is prepared only now is not used yet. -/
theorem useSpare_prepareSpare {s : State} {b ch : Nat} (h : s.spareFor b ch = none) :
    (s.prepareSpare b ch).useSpare b ch = s.prepareSpare b ch := by
  have hwait : ∀ p, (s.prepareSpare b ch).spareFor b ch = some p → ((s.prepareSpare b ch).laser b p).state ≠ .ready := by
    intro p hp hready
    have hnone := spareFor_eq_none.mp h p (lt_of_spareFor hp)
    have hserves := serves_of_spareFor hp
    cases hs : s.standbySpare b with
    | none =>
      rw [prepareSpare_without h hs, hnone] at hserves
      cases hserves
    | some q =>
      rw [laser_prepareSpare_takes h hs] at hserves hready
      split at hserves
      next hkey =>
        rw [if_pos hkey] at hready
        cases hready
      next =>
        rw [hnone] at hserves
        cases hserves
  unfold State.useSpare
  split
  next l p _ hp => exact if_pos (hwait p hp)
  next => rfl

/-! ### A line goes DEAD (R240) -/

/-- A line that is switched off. -/
def Laser.died (now : Nat) (k : Laser) : Laser := { k with state := .dead, changed := now, past30 := true, output := 0 }

/-- A bar without the swap of a line. -/
def Bar.unswapped (n : Nat) (k : Bar) : Bar :=
  { k with swap := match k.swap with
    | some r => if r.line = n then none else some r
    | none => none }

/-- A line is switched off, counted and raised, and its swap is over, before its channel is dropped. -/
def State.switchedOff (s : State) (b n ch : Nat) (abrupt : Bool) : State :=
  let s1 := (s.setLaser b n .dead).modLaser b n fun k => { k with past30 := true, output := 0 }
  ((s1.modBar b (Bar.unswapped n)).countReg 0x420104 32 1).raise 0x1404 0 photonicUnit
    (leBytes 1 b ++ leBytes 1 ch ++ leBytes 1 (if abrupt then 1 else 0))

theorem lineDead_eq (s : State) (b n ch : Nat) (abrupt : Bool) :
    s.lineDead b n ch abrupt = ((s.switchedOff b n ch abrupt).channelDropped b ch).nextSwap b := rfl

theorem switchedOff_facts (s : State) (b n ch : Nat) (abrupt : Bool) :
    (∀ c m, (s.switchedOff b n ch abrupt).laser c m =
      if laserKey c m = laserKey b n then (s.laser b n).died s.now else s.laser c m) ∧
    (∀ j, j ≠ 0x831006 → j ≠ 0x420104 → (s.switchedOff b n ch abrupt).reg j = s.reg j) ∧
    (s.switchedOff b n ch abrupt).reg 0x420104 = satAdd 32 (s.reg 0x420104) 1 ∧
    (s.switchedOff b n ch abrupt).raised 0x1404 = s.raised 0x1404 + 1 := by
  unfold State.switchedOff
  dsimp only
  refine ⟨fun c m => ?_, fun j h8 h4 => (reg_raise h8 _ _ _ _ _).trans (reg_setReg_ne h4 _),
    (reg_raise (by decide) _ _ _ _ _).trans (reg_setReg_same _ _ _), State.raised_raise _ _ _ _ _ (by decide)⟩
  rw [laser_of_lasers (congrArg Photonics.lasers (State.raise_photonics _ _ _ _ _))]
  refine (laser_modLaser _ b n c m _).trans ?_
  rw [State.setLaser, laser_modLaser_same, laser_modLaser]
  split
  · rfl
  · rfl

/-- A DEAD line is off, its channel is dropped, and it is counted and raised once. -/
theorem lineDead_facts (s : State) (b n ch : Nat) (abrupt : Bool) :
    (s.lineDead b n ch abrupt).laser b n = (s.laser b n).died s.now ∧
    (s.spareFor b ch = none → (s.lineDead b n ch abrupt).spareFor b ch = none) ∧
    ch ∈ ((s.lineDead b n ch abrupt).bar b).droppedChannels ∧
    (s.lineDead b n ch abrupt).raised 0x1404 = s.raised 0x1404 + 1 ∧
    (s.lineDead b n ch abrupt).reg 0x420103 = s.reg 0x420103 ∧
    (s.lineDead b n ch abrupt).reg 0x420104 = satAdd 32 (s.reg 0x420104) 1 := by
  obtain ⟨hlaser, hother, hcount, hraised⟩ := switchedOff_facts s b n ch abrupt
  have hlinks := channelDropped_links (s.switchedOff b n ch abrupt) b ch
  obtain ⟨hkeep, hserves, hbar, hreg, hevents⟩ := nextSwap_facts ((s.switchedOff b n ch abrupt).channelDropped b ch) b
  have hafter : ∀ c m, ((s.switchedOff b n ch abrupt).channelDropped b ch).laser c m =
      if laserKey c m = laserKey b n then (s.laser b n).died s.now else s.laser c m := fun c m =>
    (laser_of_lasers (congrArg Photonics.lasers hlinks.photonics) c m).trans (hlaser c m)
  have hdead : ((s.switchedOff b n ch abrupt).channelDropped b ch).laser b n = (s.laser b n).died s.now :=
    (hafter b n).trans (if_pos rfl)
  rw [lineDead_eq]
  refine ⟨?_, fun h => ?_, ?_, ?_, ?_, ?_⟩
  · rw [hkeep _ _ (by rw [hdead]; exact LaserState.noConfusion) (by rw [hdead]; exact LaserState.noConfusion), hdead]
  · rw [spareFor_eq_none] at h ⊢
    intro m hm
    rw [hserves, hafter]
    split
    · exact serves_of_state LaserState.noConfusion LaserState.noConfusion ch
    · exact h m hm
  · rw [hbar, State.bar, hlinks.photonics]
    exact (congrArg (ch ∈ Bar.droppedChannels ·) (bar_modBar_same _ b _)).mpr List.mem_cons_self
  · rw [hevents _ (by decide) (by decide), hlinks.raised _ (by decide) (by decide) (by decide)]
    exact hraised
  · rw [hreg _ (by decide), hlinks.reg _ (by decide) (by decide) (by decide)]
    exact hother _ (by decide) (by decide)
  · rw [hreg _ (by decide), hlinks.reg _ (by decide) (by decide) (by decide)]
    exact hcount

theorem lineDead_only (s : State) (b n ch : Nat) (abrupt : Bool) : s.lineDead b n ch abrupt = { s with
    domain := (s.lineDead b n ch abrupt).domain, rig := (s.lineDead b n ch abrupt).rig
    regs := (s.lineDead b n ch abrupt).regs, control := (s.lineDead b n ch abrupt).control
    dbg := (s.lineDead b n ch abrupt).dbg, photonics := (s.lineDead b n ch abrupt).photonics } := by
  apply State.ext_of <;> simp only [State.lineDead_kept]

theorem abruptFailure_only (s : State) (b n ch : Nat) : s.abruptFailure b n ch = { s with
    domain := (s.abruptFailure b n ch).domain, rig := (s.abruptFailure b n ch).rig
    regs := (s.abruptFailure b n ch).regs, control := (s.abruptFailure b n ch).control
    dbg := (s.abruptFailure b n ch).dbg, photonics := (s.abruptFailure b n ch).photonics } := by
  apply State.ext_of <;> simp only [State.abruptFailure_kept]

/-- An abrupt failure of a line whose channel has no spare: the line is DEAD, and a spare may be prepared (R240). -/
theorem abruptFailure_facts {s : State} {b n ch : Nat} (h : s.spareFor b ch = none) :
    ((s.abruptFailure b n ch).laser b n).state = .dead ∧ ((s.abruptFailure b n ch).laser b n).output = 0 ∧
    ch ∈ ((s.abruptFailure b n ch).bar b).droppedChannels ∧
    (s.abruptFailure b n ch).raised 0x1404 = s.raised 0x1404 + 1 ∧
    (s.abruptFailure b n ch).reg 0x420103 = satAdd 32 (s.reg 0x420103) 1 := by
  obtain ⟨hdead, hspare, hdrop, hraised, hcount, -⟩ := lineDead_facts (s.countReg 0x420103 32 1) b n ch true
  rw [State.abruptFailure, useSpare_prepareSpare (hspare h)]
  generalize (s.countReg 0x420103 32 1).lineDead b n ch true = u at hdead hdrop hraised hcount ⊢
  rw [laser_prepareSpare (by rw [hdead]; exact LaserState.noConfusion), hdead]
  refine ⟨rfl, rfl, ?_, ?_, ?_⟩
  · rw [State.bar, prepareSpare_lasers]
    exact hdrop
  · exact (raised_of_control (by simp only [State.prepareSpare_kept]) _).trans hraised
  · refine (reg_of_regs (by simp only [State.prepareSpare_kept]) _).trans (hcount.trans ?_)
    exact reg_setReg_same _ _ _

/-! ### A spare is brought in for a DEAD channel (R243) -/

/-- A spare that takes the place of a channel's line, whose commissioning value is `power` and which starts at `output`. -/
def Laser.inPlace (ch now : Nat) (power output : Word32) (k : Laser) : Laser :=
  { k with
    state := .active
    changed := now
    channel := some ch
    forChannel := none
    commissioning := power
    output := output
    fall := 0
    past10 := false
    past15 := false
    past30 := false }

theorem bringIn_only (s : State) (b l p ch : Nat) : s.bringIn b l p ch = { s with
    domain := (s.bringIn b l p ch).domain, rig := (s.bringIn b l p ch).rig
    regs := (s.bringIn b l p ch).regs, control := (s.bringIn b l p ch).control
    dbg := (s.bringIn b l p ch).dbg, photonics := (s.bringIn b l p ch).photonics } := by
  apply State.ext_of <;> simp only [State.bringIn_kept]

theorem bringIn_facts {s : State} {b l p : Nat} (h : l ≠ p) (ch : Nat) :
    (s.bringIn b l p ch).laser b p =
      (s.laser b p).inPlace ch s.now (s.laser b l).commissioning (s.laser b l).commissioning ∧
    ((s.bringIn b l p ch).laser b l).channel = none ∧
    ((s.bringIn b l p ch).bar b).droppedChannels = (s.bar b).droppedChannels.erase ch ∧
    (s.bringIn b l p ch).raised 0x1405 = s.raised 0x1405 + 1 := by
  unfold State.bringIn
  dsimp only
  generalize hu : State.modLaser _ b p _ = u
  obtain ⟨hlight, hraised⟩ := channelRestored_facts u b ch
  have hlaser : ∀ m, (u.channelRestored b ch).laser b m = u.laser b m := laser_of_lasers (congrArg Photonics.lasers hlight) b
  rw [hlaser, hlaser, hraised, State.bar, hlight]
  refine ⟨?_, ?_, (congrArg Bar.droppedChannels (bar_modBar_same u b _)).trans ?_, ?_⟩
  · rw [← hu, laser_modLaser_same, State.setLaser, laser_modLaser_same, laser_modLaser_ne _ (laserKey_ne h.symm)]
    rfl
  · rw [← hu, laser_modLaser_ne _ (laserKey_ne h), State.setLaser, laser_modLaser_ne _ (laserKey_ne h), laser_modLaser_same]
  · rw [← hu]
    rfl
  · rw [← hu]
    rfl

end Sys2Proof.Machine

/-! PROOF. O26: lines are evaluated against the thresholds of R240, warned and dropped; spares are tuned, swapped in and raised to
power; samples are kept and lines commissioned anew (R238 to R243, R260). -/

namespace Sys2Proof.Machine

/-! ### Evaluations (R238, R240) -/

/-- Whether a line's mean lies more than 3.0 dB below that of the evaluation before: an abrupt failure (R240). -/
def Laser.suddenFall (k : Laser) : Bool :=
  let was := (sampleSum k.lastSamples).mul (Num.ofInt k.samples.length)
  let now := (sampleSum k.samples).mul (Num.ofInt k.lastSamples.length)
  now.lt was && below30 now was

/-- Whether a line whose drive is at its ceiling has fallen past a threshold (R240). -/
def Laser.fallen (below : Num → Num → Bool) (k : Laser) : Bool :=
  decide (1000 ≤ k.drive) && below (sampleSum k.samples) (k.times k.commissioning)

/-- A line that has been evaluated: a fall is there only once the drive is at its ceiling (R238). -/
def Laser.evaluated (fall : Word32) (k : Laser) : Laser :=
  { k with fall := if 1000 ≤ k.drive then fall else 0, lastSamples := k.samples }

/-- An evaluation has been noted at its line, and a READY spare of the channel follows the line (R241 step 4). -/
def State.evaluated (s : State) (b n ch : Nat) (fall : Word32) : State :=
  (s.modLaser b n (Laser.evaluated fall)).followLine b ch (s.laser b n).output

/-- Whether a channel's spare is READY. -/
def State.spareIsReady (s : State) (b ch : Nat) : Bool :=
  match s.spareFor b ch with
  | some p => (s.laser b p).state = .ready
  | none => false

/-- The actions at 1.5 dB and at 3.0 dB of a line that was `k` when it was evaluated (R240). -/
def State.pastWarning (s : State) (b n ch : Nat) (k : Laser) : State :=
  let s1 := if k.fallen below15 && !k.past15 then (s.modLaser b n fun k => { k with past15 := true }).nextSwap b else s
  if k.fallen below30 && !k.past30 && !s1.spareIsReady b ch && (s1.laser b n).state ≠ .swapping then s1.lineDead b n ch false
  else s1

section
variable {s : State} {b n ch : Nat} (fall : Word32) (hs : (s.laser b n).samples ≠ []) (hc : (s.laser b n).channel = some ch)
  (hst : (s.laser b n).state = .active ∨ (s.laser b n).state = .warned)
include hs hc hst

/-- A sudden fall is an abrupt failure; else the thresholds act in turn, each once (R240). -/
theorem lineEvaluation_next : exec (.lineEvaluation b n fall) s = .next
    (if (s.laser b n).suddenFall then (s.evaluated b n ch fall).abruptFailure b n ch
    else (if (s.laser b n).fallen below10 && !(s.laser b n).past10 then (s.evaluated b n ch fall).fade10 b n ch fall
      else s.evaluated b n ch fall).pastWarning b n ch (s.laser b n)) := by
  change execLineEvaluation b n fall s = _
  have hrun : ¬ (!(decide ((s.laser b n).state = .active) || decide ((s.laser b n).state = .warned)) ||
      decide ((s.laser b n).samples = [])) = true := by
    rcases hst with hst | hst <;> simp [hst, hs]
  have hnoted : (s.modLaser b n fun k =>
      { k with fall := if 1000 ≤ (s.laser b n).drive then fall else 0, lastSamples := k.samples }) =
    s.modLaser b n (Laser.evaluated fall) := rfl
  unfold execLineEvaluation
  dsimp only
  rw [hnoted]
  rw [hc]
  dsimp only
  rw [if_neg hrun]
  by_cases hsudden : (s.laser b n).suddenFall = true
  · rw [if_pos hsudden]
    exact if_pos hsudden
  · rw [if_neg hsudden]
    refine (if_neg hsudden).trans ?_
    exact (apply_ite Host.Outcome.next _ _ _).symm

end

/-- A line that has not fallen past 1.5 dB, or whose swap is due already, and that has not fallen past 3.0 dB stays (R240). -/
theorem pastWarning_stays {s : State} {b n ch : Nat} {k : Laser} (h15 : k.fallen below15 = false)
    (h30 : k.fallen below30 = false) : s.pastWarning b n ch k = s := by
  simp [State.pastWarning, h15, h30]

theorem fallen_of_drive {k : Laser} (h : k.drive < 1000) (below : Num → Num → Bool) : k.fallen below = false := by
  simp [Laser.fallen, h]

theorem fallen_of_below {k : Laser} {below : Num → Num → Bool}
    (h : below (sampleSum k.samples) (k.times k.commissioning) = false) : k.fallen below = false := by
  simp [Laser.fallen, h]

theorem fallen_at_ceiling {k : Laser} {below : Num → Num → Bool} (hd : 1000 ≤ k.drive)
    (h : below (sampleSum k.samples) (k.times k.commissioning) = true) : k.fallen below = true := by
  simp [Laser.fallen, h, hd]

section
variable {s : State} {b n ch : Nat} (fall : Word32)

theorem spareFor_noted : (s.modLaser b n (Laser.evaluated fall)).spareFor b ch = s.spareFor b ch :=
  spareFor_congr (view_modLaser (Laser.serves ch) rfl b)

/-- Without a spare an evaluation changes its line alone. -/
theorem evaluated_alone (h : s.spareFor b ch = none) : s.evaluated b n ch fall = s.modLaser b n (Laser.evaluated fall) := by
  rw [State.evaluated, State.followLine, spareFor_noted, h]

theorem spareFor_evaluated (h : s.spareFor b ch = none) : (s.evaluated b n ch fall).spareFor b ch = none := by
  rw [evaluated_alone fall h, spareFor_noted, h]

theorem evaluated_followed {p : Nat} (h : s.spareFor b ch = some p) (hp : (s.laser b p).state = .ready) :
    s.evaluated b n ch fall =
      (s.modLaser b n (Laser.evaluated fall)).modLaser b p fun k => { k with output := (s.laser b n).output } := by
  rw [State.evaluated, State.followLine, spareFor_noted, h]
  exact if_pos ((view_modLaser Laser.state rfl b p).trans hp)

variable (hs : (s.laser b n).samples ≠ []) (hc : (s.laser b n).channel = some ch)
  (hst : (s.laser b n).state = .active ∨ (s.laser b n).state = .warned) (hsudden : (s.laser b n).suddenFall = false)
include hs hc hst hsudden

theorem lineEvaluation_quiet (h : ∀ below, below = below10 ∨ below = below15 ∨ below = below30 →
      (s.laser b n).fallen below = false) :
    exec (.lineEvaluation b n fall) s = .next (s.evaluated b n ch fall) := by
  rw [lineEvaluation_next fall hs hc hst, hsudden, h _ (.inl rfl), if_neg (by decide), Bool.false_and, if_neg (by decide),
    pastWarning_stays (h _ (.inr (.inl rfl))) (h _ (.inr (.inr rfl)))]

theorem lineEvaluation_warns (h10 : (s.laser b n).fallen below10 = true) (hpast : (s.laser b n).past10 = false)
    (h15 : (s.laser b n).fallen below15 = false) (h30 : (s.laser b n).fallen below30 = false) :
    exec (.lineEvaluation b n fall) s = .next ((s.evaluated b n ch fall).fade10 b n ch fall) := by
  rw [lineEvaluation_next fall hs hc hst, hsudden, h10, hpast, if_neg (by decide), if_pos (by decide), pastWarning_stays h15 h30]

theorem lineEvaluation_dead (h10 : (s.laser b n).past10 = true) (h15 : (s.laser b n).past15 = true)
    (h30 : (s.laser b n).past30 = false) (hfall : (s.laser b n).fallen below30 = true) (hspare : s.spareFor b ch = none) :
    exec (.lineEvaluation b n fall) s = .next ((s.evaluated b n ch fall).lineDead b n ch false) := by
  have hnone := spareFor_evaluated (n := n) fall hspare
  have hrun : ((s.evaluated b n ch fall).laser b n).state ≠ .swapping := by
    rw [evaluated_alone fall hspare, laser_modLaser_same]
    rcases hst with hst | hst <;> simp [Laser.evaluated, hst]
  rw [lineEvaluation_next fall hs hc hst, hsudden, h10, if_neg (by decide), Bool.not_true, Bool.and_false, if_neg (by decide)]
  simp [State.pastWarning, h15, h30, hfall, State.spareIsReady, hnone, hrun]

end

/-- A laser that an evaluation has warned of (R240). -/
def Laser.warnedAt (now : Nat) (k : Laser) : Laser := { k with state := .warned, changed := now, past10 := true }

/-- The 1.0 dB action, where the channel has no spare and one stands by: the line is WARNED, counted and raised once, and the
spare is PREPARING (R240, R241). -/
theorem fade10_facts {s : State} {b n ch p : Nat} (fall : Word32) (hspare : s.spareFor b ch = none)
    (hp : s.standbySpare b = some p) (hrun : (s.laser b n).state = .active ∨ (s.laser b n).state = .warned) :
    (s.fade10 b n ch fall).laser b n = (s.laser b n).warnedAt s.now ∧
    (s.fade10 b n ch fall).laser b p = (s.laser b p).preparedFor ch s.now ∧
    (s.fade10 b n ch fall).reg 0x420101 = satAdd 32 (s.reg 0x420101) 1 ∧
    (s.fade10 b n ch fall).raised 0x1401 = s.raised 0x1401 + 1 ∧
    (s.fade10 b n ch fall).photonics = { s.photonics with lasers := (s.fade10 b n ch fall).photonics.lasers } := by
  have hne : laserKey b p ≠ laserKey b n := laserKey_ne_of_state (s := s) (by
    rw [standby_of_standbySpare hp]
    rcases hrun with hrun | hrun <;> simp [hrun])
  unfold State.fade10
  dsimp only
  rw [hspare, hp]
  dsimp only
  generalize hu : State.raise _ 0x1401 0 photonicUnit _ = u
  have hlasers : ∀ c m, u.laser c m = if laserKey c m = laserKey b n then (s.laser b n).warnedAt s.now else s.laser c m := by
    intro c m
    rw [← hu, laser_of_lasers (congrArg Photonics.lasers (State.raise_photonics _ _ _ _ _))]
    refine (laser_modLaser _ b n c m _).trans ?_
    rw [State.setLaser, laser_modLaser_same, laser_modLaser]
    split
    · rfl
    · rfl
  have hnone : u.spareFor b ch = none := by
    rw [spareFor_eq_none] at hspare ⊢
    intro m hm
    rw [hlasers]
    split
    · exact serves_of_state LaserState.noConfusion LaserState.noConfusion ch
    · exact hspare m hm
  have hstand : u.standbySpare b = some p := by
    refine (standbySpare_congr fun m => ?_).trans hp
    rw [hlasers]
    split
    next hkey =>
      rw [laser_congr_key s hkey]
      rcases hrun with hrun | hrun <;> simp [Laser.warnedAt, hrun]
    next => exact Iff.rfl
  have hnow : u.now = s.now := by
    rw [← hu, State.now, State.raise_clocks]
    rfl
  have htakes := laser_prepareSpare_takes hnone hstand b
  refine ⟨?_, ?_, ?_, ?_, ?_⟩
  · rw [htakes, if_neg hne.symm, hlasers, if_pos rfl]
  · rw [htakes, if_pos rfl, hlasers, if_neg hne, hnow]
  · rw [reg_of_regs (s := u) (by simp only [State.prepareSpare_kept]), ← hu, reg_raise (by decide)]
    exact reg_setReg_same _ _ _
  · rw [raised_of_control (s := u) (by simp only [State.prepareSpare_kept]), ← hu, State.raised_raise _ _ _ _ _ (by decide)]
    rfl
  · rw [prepareSpare_lasers, ← hu, State.raise_photonics]
    rfl

theorem fade10_only (s : State) (b n ch : Nat) (fall : Word32) : s.fade10 b n ch fall = { s with
    photonics := (s.fade10 b n ch fall).photonics, regs := (s.fade10 b n ch fall).regs
    control := (s.fade10 b n ch fall).control, dbg := (s.fade10 b n ch fall).dbg } := by
  apply State.ext_of <;> simp only [State.fade10_kept]

/-! ### Samples (R238) -/

/-- A laser once its monitor and its drive have been sampled: the last 16 samples are kept. -/
def Laser.sampled (v : BitVec 32 × Nat) (k : Laser) : Laser :=
  { k with output := v.1, drive := Nat.min v.2 1000, samples := (k.samples ++ [v.1]).drop (k.samples.length - 15) }

theorem backFacetSample_next (s : State) {l : List (BitVec 32 × Nat)} (hl : l.length = 240) :
    exec (.backFacetSample l) s = .next ((List.range 240).foldl (fun s i =>
      s.modLaser (i / 20) (i % 20) (Laser.sampled (l.getD i (0, 0)))) s) := by
  change execBackFacetSample l s = _
  have hstep : ∀ i ∈ List.range 240, ∀ t : State, (match l[i]? with
      | none => t
      | some v => t.modLaser (i / 20) (i % 20) fun k =>
        let l := k.samples ++ [v.1]
        { k with output := v.1, drive := Nat.min v.2 1000, samples := l.drop (l.length - 16) }) =
      t.modLaser (i / 20) (i % 20) (Laser.sampled (l.getD i (0, 0))) := by
    intro i hi t
    have hlt : i < l.length := hl ▸ List.mem_range.mp hi
    rw [List.getElem?_eq_getElem hlt, List.getD_eq_getElem _ _ hlt]
    dsimp only
    congr 1
    funext k
    simp [Laser.sampled]
  exact congrArg Host.Outcome.next (List.foldl_ext _ _ _ fun t i hi => hstep i hi t)

theorem laserKey_line (i : Nat) : laserKey (i / 20) (i % 20) = i := by unfold laserKey; omega

/-- The samples of some lines, each a laser of its own. -/
theorem foldl_sampled (g : Nat → BitVec 32 × Nat) (l : List Nat) (hl : l.Nodup) (s : State) :
    (∀ i, (l.foldl (fun s i => s.modLaser (i / 20) (i % 20) (Laser.sampled (g i))) s).laser (i / 20) (i % 20) =
      if i ∈ l then (s.laser (i / 20) (i % 20)).sampled (g i) else s.laser (i / 20) (i % 20)) ∧
    ∃ k, l.foldl (fun s i => s.modLaser (i / 20) (i % 20) (Laser.sampled (g i))) s =
      { s with photonics := { s.photonics with lasers := k } } := by
  induction l generalizing s with
  | nil => exact ⟨fun _ => rfl, _, rfl⟩
  | cons j l ih =>
    obtain ⟨hj, hnodup⟩ := List.nodup_cons.mp hl
    obtain ⟨hlaser, k, honly⟩ := ih hnodup (s.modLaser (j / 20) (j % 20) (Laser.sampled (g j)))
    refine ⟨fun i => ?_, k, honly⟩
    rw [List.foldl_cons, hlaser, laser_modLaser, laserKey_line, laserKey_line]
    by_cases hij : i = j
    · subst hij
      simp [hj]
    · simp [hij]

/-! ### Faults and spares (R240, R241, R243) -/

theorem abruptLaserFailure_line {s : State} {b n ch : Nat} (hc : (s.laser b n).channel = some ch)
    (hd : (s.laser b n).state ≠ .dead) (hr : (s.laser b n).state ≠ .retired) :
    exec (.abruptLaserFailure b n) s = .next (s.abruptFailure b n ch) := by
  change execAbruptLaserFailure b n s = _
  simp [execAbruptLaserFailure, hd, hr, hc]

theorem abruptLaserFailure_spare {s : State} {b n : Nat} (hc : (s.laser b n).channel = none)
    (hd : (s.laser b n).state ≠ .dead) (hr : (s.laser b n).state ≠ .retired) :
    exec (.abruptLaserFailure b n) s = .next ((s.setLaser b n .dead).modLaser b n fun k =>
      { k with forChannel := none, output := 0 }) := by
  change execAbruptLaserFailure b n s = _
  simp [execAbruptLaserFailure, hd, hr, hc]

/-- A spare that has been tuned to a power (R241). -/
def Laser.tuned (now : Nat) (power : Word32) (o : Int) (k : Laser) : Laser :=
  { k with state := .ready, changed := now, output := power, etalon := o }

/-- A spare is READY, before it is used. -/
def State.spareTuned (s : State) (b n : Nat) (power : Word32) (o : Int) : State :=
  (s.setLaser b n .ready).modLaser b n fun k => { k with output := power, etalon := o }

theorem laser_spareTuned (s : State) (b n : Nat) (power : Word32) (o : Int) (c m : Nat) : (s.spareTuned b n power o).laser c m =
    if laserKey c m = laserKey b n then (s.laser b n).tuned s.now power o else s.laser c m := by
  unfold State.spareTuned
  rw [laser_modLaser, State.setLaser, laser_modLaser_same, laser_modLaser]
  split
  · rfl
  · rfl

theorem carries_tuned {k : Laser} (h : k.state = .preparing) (now : Nat) (power : Word32) (o : Int) (ch : Nat) :
    (k.tuned now power o).carries ch = k.carries ch := by
  rw [Laser.carries, Laser.carries, h]
  rfl

theorem serves_tuned {k : Laser} (h : k.state = .preparing) (now : Nat) (power : Word32) (o : Int) (ch : Nat) :
    (k.tuned now power o).serves ch = k.serves ch := by
  rw [Laser.serves, Laser.serves, h]
  rfl

/-- Being tuned, a PREPARING spare stays the spare of its channel, and no line's channel changes. -/
theorem lineForChannel_spareTuned {s : State} {b n : Nat} (hst : (s.laser b n).state = .preparing) (power : Word32) (o : Int)
    (ch : Nat) : (s.spareTuned b n power o).lineForChannel b ch = s.lineForChannel b ch := by
  refine lineForChannel_congr fun m => ?_
  rw [laser_spareTuned]
  split
  next hkey => rw [laser_congr_key s hkey, carries_tuned hst]
  next => rfl

theorem spareFor_spareTuned {s : State} {b n : Nat} (hst : (s.laser b n).state = .preparing) (power : Word32) (o : Int)
    (ch : Nat) : (s.spareTuned b n power o).spareFor b ch = s.spareFor b ch := by
  refine spareFor_congr fun m => ?_
  rw [laser_spareTuned]
  split
  next hkey => rw [laser_congr_key s hkey, serves_tuned hst]
  next => rfl

/-- For a DEAD channel the tone has to be confirmed (R243). -/
theorem spareReady_unseen {s : State} {b n ch l : Nat} (hfor : (s.laser b n).forChannel = some ch)
    (hl : s.lineForChannel b ch = some l) (hd : (s.laser b l).state = .dead) (o : Int) :
    exec (.spareReady b ⟨n, o, false⟩) s = .next s := by
  change execSpareReady b ⟨n, o, false⟩ s = _
  unfold execSpareReady
  dsimp only
  rw [hfor]
  dsimp only
  rw [hl]
  dsimp only
  simp [hd]

section
variable {s : State} {b n ch l : Nat} (hst : (s.laser b n).state = .preparing) (hl : s.lineForChannel b ch = some l)
include hst hl

theorem spareReady_next (hfor : (s.laser b n).forChannel = some ch) {o : Int} (ho : o.natAbs ≤ 50) {seen : Bool}
    (hseen : (s.laser b l).state = .dead → seen = true) :
    exec (.spareReady b ⟨n, o, seen⟩) s = .next ((s.spareTuned b n
      (if (s.laser b l).state = .dead then (s.laser b l).commissioning else (s.laser b l).output) o).useSpare b ch) := by
  change execSpareReady b ⟨n, o, seen⟩ s = _
  have hgood : ¬ 50 < o.natAbs := Nat.not_lt.mpr ho
  unfold execSpareReady
  dsimp only
  rw [hfor]
  dsimp only
  rw [hl]
  dsimp only
  by_cases hd : (s.laser b l).state = .dead
  · simp [hst, hgood, hd, hseen hd, State.spareTuned]
  · simp [hst, hgood, hd, State.spareTuned]

/-- While a swap runs on the bar, a spare for a line that is not DEAD waits (R242). -/
theorem useSpare_spareTuned_waits (hd : (s.laser b l).state ≠ .dead) (hswap : s.swapRuns b = true) (power : Word32) (o : Int) :
    (s.spareTuned b n power o).useSpare b ch = s.spareTuned b n power o := by
  have hline : ((s.spareTuned b n power o).laser b l).state ≠ .dead := by
    rw [laser_spareTuned]
    split
    · exact LaserState.noConfusion
    · exact hd
  unfold State.useSpare
  rw [lineForChannel_spareTuned hst, hl]
  split
  next l' p heq hp =>
    cases heq
    by_cases hready : ((s.spareTuned b n power o).laser b p).state ≠ .ready
    · exact if_pos hready
    · exact (if_neg hready).trans ((if_neg hline).trans (nextSwap_running hswap))
  next => rfl

/-- A spare confirmed for a DEAD channel is brought in (R243). -/
theorem useSpare_spareTuned_brings (hd : (s.laser b l).state = .dead) (hspare : s.spareFor b ch = some n)
    (power : Word32) (o : Int) : (s.spareTuned b n power o).useSpare b ch = (s.spareTuned b n power o).bringIn b l n ch := by
  have hne : laserKey b l ≠ laserKey b n := laserKey_ne_of_state (s := s) (by rw [hd, hst]; exact LaserState.noConfusion)
  rw [State.useSpare, lineForChannel_spareTuned hst, hl, spareFor_spareTuned hst, hspare]
  dsimp only
  rw [laser_spareTuned, if_pos rfl, laser_spareTuned, if_neg hne]
  exact (if_neg (not_not_intro rfl)).trans (if_pos hd)

end

/-! ### Swaps (R242) -/

theorem crossfadeStep_next {s : State} {b : Nat} {r : SwapRun} (hr : (s.bar b).swap = some r) (h64 : r.step < 64)
    (ht : r.started + 10000 + 3125 * (r.step + 1) ≤ s.now) : exec (.crossfadeStep b) s = .next
      (((s.modBar b fun k => { k with swap := some { r with step := r.step + 1 } }).modLaser b r.line fun k =>
        { k with output := crossfade r.ps (64 - (r.step + 1)) }).modLaser b r.spare fun k =>
          { k with output := crossfade r.ps (r.step + 1) }) := by
  change execCrossfadeStep b s = _
  have hgo : ¬ (decide (64 ≤ r.step) || decide (s.now < r.started + 10000 + 3125 * (r.step + 1))) = true := by
    simp
    omega
  rw [execCrossfadeStep, hr]
  exact if_neg hgo

/-- The line of a swap has retired, and its spare has its place (R242 step 4). -/
def State.retireLine (s : State) (b : Nat) (r : SwapRun) : State :=
  let power := (s.laser b r.line).commissioning
  let s1 := (s.setLaser b r.line .retired).modLaser b r.line fun k => { k with channel := none, output := 0 }
  let s2 := (s1.setLaser b r.spare .active).modLaser b r.spare fun k =>
    { k with
      channel := some r.channel
      forChannel := none
      commissioning := power
      output := r.ps
      fall := 0
      past10 := false
      past15 := false
      past30 := false }
  s2.modBar b fun k => { k with swap := some { r with retired := true } }

theorem swapRetire_next {s : State} {b : Nat} {r : SwapRun} (hr : (s.bar b).swap = some r) (hre : r.retired = false)
    (h64 : 64 ≤ r.step) (ht : r.started + 210000 ≤ s.now) : exec (.swapRetire b) s = .next (s.retireLine b r) := by
  change execSwapRetire b s = _
  have hgo : ¬ (r.retired || decide (r.step < 64) || decide (s.now < r.started + 210000)) = true := by
    simp [hre]
    omega
  rw [execSwapRetire, hr]
  exact if_neg hgo

/-- From `s` to `t` lasers and bars alone are changed. -/
def lampsOnly (s t : State) : Prop := ∃ l k, t = { s with photonics := { s.photonics with lasers := l, bars := k } }

namespace lampsOnly

theorem trans {s t u : State} (h : lampsOnly s t) (g : lampsOnly t u) : lampsOnly s u := by
  obtain ⟨l, k, rfl⟩ := h
  obtain ⟨l', k', rfl⟩ := g
  exact ⟨l', k', rfl⟩

theorem modLaser (s : State) (b n : Nat) (f : Laser → Laser) : lampsOnly s (s.modLaser b n f) := ⟨_, _, rfl⟩

theorem modBar (s : State) (b : Nat) (f : Bar → Bar) : lampsOnly s (s.modBar b f) := ⟨_, _, rfl⟩

theorem retireLine (s : State) (b : Nat) (r : SwapRun) : lampsOnly s (s.retireLine b r) :=
  ((((modLaser s b r.line _).trans (modLaser _ b r.line _)).trans (modLaser _ b r.spare _)).trans
    (modLaser _ b r.spare _)).trans (modBar _ b _)

end lampsOnly

theorem retireLine_facts {s : State} {b : Nat} {r : SwapRun} (h : r.line ≠ r.spare) :
    (s.retireLine b r).laser b r.line =
      { s.laser b r.line with state := .retired, changed := s.now, channel := none, output := 0 } ∧
    (s.retireLine b r).laser b r.spare =
      (s.laser b r.spare).inPlace r.channel s.now (s.laser b r.line).commissioning r.ps ∧
    ((s.retireLine b r).bar b).swap = some { r with retired := true } := by
  have hlasers : ∀ u : State, ∀ f m, (u.modBar b f).laser b m = u.laser b m := fun _ _ _ => rfl
  unfold State.retireLine
  dsimp only
  rw [hlasers, hlasers, bar_modBar_same]
  refine ⟨?_, ?_, rfl⟩
  · rw [laser_modLaser_ne _ (laserKey_ne h), State.setLaser, laser_modLaser_ne _ (laserKey_ne h), laser_modLaser_same,
      State.setLaser, laser_modLaser_same]
  · rw [laser_modLaser_same, State.setLaser, laser_modLaser_same, laser_modLaser_ne _ (laserKey_ne h.symm), State.setLaser,
      laser_modLaser_ne _ (laserKey_ne h.symm)]
    rfl

/-- A spare whose output rises by steps from now on (R242 step 6). -/
def Laser.ramping (now : Nat) (k : Laser) : Laser := { k with rampAt := some now }

/-- A swap has ended, before the next one is looked for (R242 step 5). -/
def State.swapEnded (s : State) (b : Nat) (r : SwapRun) : State :=
  let s1 := (s.modLaser b r.spare (Laser.ramping s.now)).modBar b fun k => { k with swap := none }
  ((s1.countReg 0x420102 32 1).setReg 0x420105 (s.now - r.started)).raise 0x1403 0 photonicUnit
    (leBytes 1 b ++ leBytes 1 r.channel ++ leBytes 4 (s.now - r.started))

theorem swapDone_next {s : State} {b : Nat} {r : SwapRun} (hr : (s.bar b).swap = some r) (hre : r.retired = true)
    (ht : r.started + 250000 ≤ s.now) : exec (.swapDone b) s = .next ((s.swapEnded b r).nextSwap b) := by
  change execSwapDone b s = _
  have hgo : ¬ (!r.retired || decide (s.now < r.started + 250000)) = true := by
    simp [hre]
    omega
  rw [execSwapDone, hr]
  exact if_neg hgo

theorem swapEnded_facts (s : State) (b : Nat) (r : SwapRun) :
    (s.swapEnded b r).photonics =
      ((s.modLaser b r.spare (Laser.ramping s.now)).modBar b fun k => { k with swap := none }).photonics ∧
    (s.swapEnded b r).reg 0x420102 = satAdd 32 (s.reg 0x420102) 1 ∧
    (s.swapEnded b r).reg 0x420105 = s.now - r.started ∧
    (s.swapEnded b r).raised 0x1403 = s.raised 0x1403 + 1 ∧
    ∃ k g a, s.swapEnded b r = { s with photonics := (s.swapEnded b r).photonics, control := k, dbg := g, regs := a } := by
  unfold State.swapEnded
  dsimp only
  refine ⟨State.raise_photonics _ _ _ _ _, ?_, ?_, State.raised_raise _ _ _ _ _ (by decide), ?_⟩
  · rw [reg_raise (by decide)]
    exact (reg_setReg_ne (by decide) _).trans (reg_setReg_same _ _ _)
  · rw [reg_raise (by decide)]
    exact reg_setReg_same _ _ _
  · obtain ⟨k, g, a, h⟩ := State.raise_only _ 0x1403 0 photonicUnit
      (leBytes 1 b ++ leBytes 1 r.channel ++ leBytes 4 (s.now - r.started))
    exact ⟨k, g, a, by rw [h]; rfl⟩

theorem spareRampStep_next {s : State} {b n u : Nat} {v : BitVec 32}
    (hst : (s.laser b n).state = .active ∨ (s.laser b n).state = .warned) (hu : (s.laser b n).rampAt = some u)
    (ht : u + 100000 ≤ s.now) (hstep : stepOf (s.laser b n).output v = true) : exec (.spareRampStep b n v) s = .next
      (if (fp32.decode v.toNat).lt (fp32.decode (s.laser b n).commissioning.toNat) then
        s.modLaser b n fun k => { k with output := v, rampAt := some (u + 100000) }
      else s.modLaser b n fun k => { k with output := k.commissioning, rampAt := none }) := by
  change execSpareRampStep b n v s = _
  have hgo : ¬ (!(decide ((s.laser b n).state = .active) || decide ((s.laser b n).state = .warned)) ||
      decide (s.now < u + 100000) || !stepOf (s.laser b n).output v) = true := by
    have hlate : ¬ s.now < u + 100000 := Nat.not_lt.mpr ht
    rcases hst with hst | hst <;> simp [hst, hlate, hstep]
  unfold execSpareRampStep
  dsimp only
  rw [hu]
  dsimp only
  rw [if_neg hgo, apply_ite Host.Outcome.next]

/-! ### Commissioning anew (R260) -/

theorem reCommission_next {s : State} {v n : Nat} (hcycle : s.lifeCycle = 0 ∨ s.lifeCycle = 3) (hv : v ≤ 191)
    (hn : s.lineForChannel (v / 16) (v % 16) = some n) (hst : (s.laser (v / 16) n).state = .active) :
    exec (.reCommission v) s = .next ((s.modLaser (v / 16) n fun k =>
      { k with commissioning := k.output, fall := 0 }).setReg 0x420202 0) := by
  change execReCommission v s = _
  have hopen : ¬ (decide (s.lifeCycle ≠ 0) && decide (s.lifeCycle ≠ 3)) = true := by
    rcases hcycle with h | h <;> simp [h]
  rw [execReCommission, State.reCommission, if_neg hopen, if_neg (Nat.not_lt.mpr hv), hn]
  exact congrArg Host.Outcome.next (if_neg (not_not_intro hst))

theorem reCommission_refused {s : State} {v : Nat} (h0 : s.lifeCycle ≠ 0) (h3 : s.lifeCycle ≠ 3) :
    exec (.reCommission v) s = .next (s.setReg 0x420202 2) := by
  change execReCommission v s = _
  rw [execReCommission, State.reCommission, if_pos (by simp [h0, h3])]

/-! ### O26 -/

/-- A line at no ceiling, or above every threshold, has fallen past none. -/
theorem fallen_none {k : Laser} (h : k.drive < 1000 ∨ (below10 (sampleSum k.samples) (k.times k.commissioning) = false ∧
      below15 (sampleSum k.samples) (k.times k.commissioning) = false ∧
      below30 (sampleSum k.samples) (k.times k.commissioning) = false)) :
    ∀ below, below = below10 ∨ below = below15 ∨ below = below30 → k.fallen below = false := by
  rintro below hbelow
  obtain hd | ⟨h10, h15, h30⟩ := h
  · exact fallen_of_drive hd below
  · rcases hbelow with rfl | rfl | rfl
    · exact fallen_of_below h10
    · exact fallen_of_below h15
    · exact fallen_of_below h30

/-- Settles O26: a line's evaluation by the thresholds that it is past; what a DEAD line and a spare brought in change of the links
leaves the lasers as they are; the rest is the state that each command answers. -/
theorem lampsFade : Obligations.LampsFade := by
  unfold Obligations.LampsFade
  refine ⟨?_, ?_, ?_, ?_, ?_, ?_, ?_, ?_, ?_, ?_, ?_, ?_, ?_, ?_, ?_, ?_, ?_, ?_⟩
  · intro s b n ch fall hs hc hst hsudden hnone hspare
    refine ⟨_, lineEvaluation_quiet fall hs hc hst hsudden (fallen_none hnone), ?_⟩
    rw [evaluated_alone fall hspare]
    exact ⟨laser_modLaser_same _ _ _ _, fun _ hk => SMap.get_modify_ne _ _ _ hk _, rfl⟩
  · intro s b n ch p fall hs hc hst hsudden hnone hspare hp
    have hne : laserKey b n ≠ laserKey b p := laserKey_ne_of_state (s := s) (by
      rw [hp]
      rcases hst with hst | hst <;> simp [hst])
    refine ⟨_, lineEvaluation_quiet fall hs hc hst hsudden (fallen_none hnone), ?_⟩
    rw [evaluated_followed fall hspare hp]
    refine ⟨?_, ?_, rfl⟩
    · rw [laser_modLaser_same, laser_modLaser_ne _ hne.symm]
    · rw [laser_modLaser_ne _ hne, laser_modLaser_same]
      rfl
  · intro s b n ch p fall hs hc hst hsudden hd h10 h15 h30 hpast hspare hp
    refine ⟨_, lineEvaluation_warns fall hs hc hst hsudden (fallen_at_ceiling hd h10) hpast (fallen_of_below h15)
      (fallen_of_below h30), ?_⟩
    have halone := evaluated_alone (n := n) fall hspare
    have hline : (s.evaluated b n ch fall).laser b n = { s.laser b n with fall := fall, lastSamples := (s.laser b n).samples } := by
      rw [halone, laser_modLaser_same, Laser.evaluated, if_pos hd]
    have hstand : (s.evaluated b n ch fall).standbySpare b = some p := by
      rw [halone]
      exact (standbySpare_congr fun m => by rw [view_modLaser Laser.state rfl]).trans hp
    have hother : (s.evaluated b n ch fall).laser b p = s.laser b p := by
      rw [halone]
      refine laser_modLaser_ne s (laserKey_ne_of_state (s := s) ?_) _
      rw [standby_of_standbySpare hp]
      rcases hst with hst | hst <;> simp [hst]
    obtain ⟨hwarned, hprepared, hreg, hraised, hlight⟩ := fade10_facts fall (spareFor_evaluated (n := n) fall hspare) hstand
      (by rw [hline]; exact hst)
    refine ⟨?_, ?_, ?_, ?_, ?_, ?_⟩
    · rw [hwarned, hline, halone]
      rfl
    · rw [hprepared, hother, halone]
      rfl
    · rw [hreg, halone]
      rfl
    · rw [hraised, halone]
      rfl
    · rw [hlight, halone]
      rfl
    · refine (fade10_only _ b n ch fall).trans ?_
      rw [halone]
      rfl
  · intro s b n ch fall hs hc hst hsudden hspare
    have hnext := lineEvaluation_next (ch := ch) fall hs hc hst
    rw [if_pos (show (s.laser b n).suddenFall = true from hsudden)] at hnext
    obtain ⟨hdead, hoff, hdrop, hraised, hreg⟩ := abruptFailure_facts (n := n) (spareFor_evaluated (n := n) fall hspare)
    have halone := evaluated_alone (n := n) fall hspare
    refine ⟨_, hnext, hdead, hoff, hdrop, ?_, ?_, ?_, ?_⟩
    · rw [hraised, halone]
      rfl
    · rw [abruptFailure_only, halone]
      rfl
    · refine (abruptFailure_only _ b n ch).trans ?_
      rw [halone]
      rfl
    · rw [hreg, halone]
      rfl
  · intro s b n ch fall hs hc hst hsudden hd h10 h15 h30 hbelow hspare
    obtain ⟨hdead, -, hdrop, hraised, h103, h104⟩ := lineDead_facts (s.evaluated b n ch fall) b n ch false
    have halone := evaluated_alone (n := n) fall hspare
    refine ⟨_, lineEvaluation_dead fall hs hc hst hsudden h10 h15 h30 (fallen_at_ceiling hd hbelow) hspare,
      ?_, ?_, hdrop, ?_, ?_, ?_, ?_, ?_⟩
    · rw [hdead]
      rfl
    · rw [hdead]
      rfl
    · rw [hraised, halone]
      rfl
    · rw [lineDead_only, halone]
      rfl
    · refine (lineDead_only _ b n ch false).trans ?_
      rw [halone]
      rfl
    · rw [h103, halone]
      rfl
    · rw [h104, halone]
      rfl
  · intro s l hl
    obtain ⟨hlaser, k, honly⟩ := foldl_sampled (fun i => l.getD i (0, 0)) (List.range 240) List.nodup_range s
    have hread : ∀ i, i < 240 → _ := fun i hi => (hlaser i).trans (if_pos (List.mem_range.mpr hi))
    refine ⟨_, backFacetSample_next s hl, fun i hi => ?_, fun i hi => ?_, fun i hi => ?_, ?_⟩
    · rw [hread i hi]
      rfl
    · rw [hread i hi]
      rfl
    · rw [hread i hi]
      rfl
    · rw [honly]
  · intro s b n ch hc hd hr hspare
    obtain ⟨hdead, hoff, hdrop, hraised, hreg⟩ := abruptFailure_facts (n := n) hspare
    refine ⟨_, abruptLaserFailure_line hc hd hr, hdead, hoff, hdrop, hraised, ?_, abruptFailure_only s b n ch, hreg⟩
    rw [abruptFailure_only]
  · intro s b n hc hd hr
    refine ⟨_, abruptLaserFailure_spare hc hd hr, ?_, fun k hk => ?_, rfl⟩
    · rw [laser_modLaser_same, State.setLaser, laser_modLaser_same]
    · exact (SMap.get_modify_ne _ _ _ hk _).trans (SMap.get_modify_ne _ _ _ hk _)
  · intro s b n ch l o seen hfor hst ho hl hd hswap _
    refine ⟨_, spareReady_next hst hl hfor ho (fun h => absurd h hd), ?_⟩
    rw [if_neg hd, useSpare_spareTuned_waits hst hl hd hswap]
    refine ⟨(laser_spareTuned _ _ _ _ _ _ _).trans (if_pos rfl), fun k hk => ?_, rfl⟩
    exact (SMap.get_modify_ne _ _ _ hk _).trans (SMap.get_modify_ne _ _ _ hk _)
  · intro s b n ch l o hfor hst ho hl hd hspare _ hne hnodup
    refine ⟨_, spareReady_next hst hl hfor ho (fun _ => rfl), ?_⟩
    rw [if_pos hd, useSpare_spareTuned_brings hst hl hd hspare]
    obtain ⟨hplace, hfree, hdrop, hraised⟩ := bringIn_facts (b := b)
      (s := s.spareTuned b n (s.laser b l).commissioning o) hne ch
    rw [laser_spareTuned, if_neg (laserKey_ne hne), laser_spareTuned, if_pos rfl] at hplace
    rw [hplace]
    refine ⟨rfl, rfl, rfl, rfl, hfree, ?_, hraised, ?_⟩
    · rw [hdrop]
      exact hnodup.not_mem_erase
    · exact bringIn_only _ b l n ch
  · intro s b n ch l o hfor hst hl hd
    exact ⟨_, spareReady_unseen hfor hl hd o, rfl⟩
  · intro s b r hr h64 ht hne
    refine ⟨_, crossfadeStep_next hr h64 ht, ?_, ?_, ?_, rfl⟩
    · rw [laser_modLaser_ne _ (laserKey_ne hne), laser_modLaser_same]
      exact congrArg (crossfade r.ps) (by omega)
    · rw [laser_modLaser_same]
    · exact congrArg Bar.swap (bar_modBar_same s b _)
  · intro s b r hr hre h64 ht hne
    obtain ⟨hline, hspare, hswap⟩ := retireLine_facts (s := s) (b := b) hne
    obtain ⟨l, k, honly⟩ := lampsOnly.retireLine s b r
    refine ⟨_, swapRetire_next hr hre h64 ht, ?_⟩
    rw [hline, hspare]
    exact ⟨rfl, rfl, rfl, rfl, rfl, rfl, rfl, hswap, by rw [honly]⟩
  · intro s b r hr hre ht hpast
    obtain ⟨hlight, hcount, hspan, hraised, k, g, a, honly⟩ := swapEnded_facts s b r
    have hlaser : ∀ m, (s.swapEnded b r).laser b m = (s.modLaser b r.spare (Laser.ramping s.now)).laser b m :=
      laser_of_lasers (by rw [hlight]; rfl) b
    have hlow : ∀ n < 20, ((s.swapEnded b r).laser b n).past15 = false := fun n hn => by
      have hno := List.all_eq_true.mp hpast n (List.mem_range.mpr hn)
      rw [hlaser, view_modLaser Laser.past15 rfl]
      simpa using hno
    refine ⟨_, swapDone_next hr hre ht, ?_⟩
    rw [nextSwap_none hlow]
    refine ⟨?_, hcount, hspan, hraised, ?_, fun k hk => ?_, ?_, ?_⟩
    · rw [State.bar, hlight]
      exact congrArg Bar.swap (bar_modBar_same (s.modLaser b r.spare (Laser.ramping s.now)) b _)
    · rw [hlaser, laser_modLaser_same]
      rfl
    · rw [hlight]
      exact SMap.get_modify_ne _ _ _ hk _
    · rw [hlight]
      rfl
    · rw [honly]
  · intro s b n u v hst hu ht hstep hlow
    refine ⟨_, spareRampStep_next hst hu ht hstep, ?_⟩
    rw [if_pos hlow]
    exact ⟨laser_modLaser_same _ _ _ _, fun _ hk => SMap.get_modify_ne _ _ _ hk _, rfl⟩
  · intro s b n u v hst hu ht hstep hhigh
    refine ⟨_, spareRampStep_next hst hu ht hstep, ?_⟩
    rw [if_neg (by rw [hhigh]; decide)]
    exact ⟨laser_modLaser_same _ _ _ _, fun _ hk => SMap.get_modify_ne _ _ _ hk _, rfl⟩
  · intro s v n hcycle hv hn hst
    exact ⟨_, reCommission_next hcycle hv hn hst, laser_modLaser_same _ _ _ _, reg_setReg_same _ _ _, rfl⟩
  · intro s v h0 h3
    exact ⟨_, reCommission_refused h0 h3, rfl⟩

end Sys2Proof.Machine

/-! PROOF. Rings: what counting clamps leaves, and calibrations (R248, R249). -/

namespace Sys2Proof.Machine

/-! ### Codes and clamps (R248) -/

/-- A quotient, rounded either way, lies less than one from the exact one. -/
theorem State.divFree_near (s : State) (a : Int) {b : Nat} (hb : 0 < b) : (b * (s.divFree a b).1 - a).natAbs < b := by
  have hdiv := Int.mul_fdiv_add_fmod a b
  have hlow := Int.fmod_nonneg_of_pos a (b := (b : Int)) (by omega)
  have hhigh := Int.fmod_lt_of_pos a (b := (b : Int)) (by omega)
  unfold State.divFree
  dsimp only
  split
  · dsimp only
    omega
  · dsimp only
    split
    · rw [Int.mul_add]
      omega
    · omega

theorem feedForward_only (s : State) (r : Ring) (c : Int) : ∃ n, (s.feedForward r c).2 = { s with freeCount := n } := by
  refine ⟨(s.feedForward r c).2.freeCount, ?_⟩
  apply State.ext_of <;> simp only [State.feedForward_kept]

theorem appliedCode_only (s : State) (e : Nat) : ∃ n, (s.appliedCode e).2.2 = { s with freeCount := n } := by
  refine ⟨(s.appliedCode e).2.2.freeCount, ?_⟩
  apply State.ext_of <;> simp only [State.appliedCode_kept]

/-- One more ring of a bank looked at for clamps. -/
def clampStep (b : Nat) (acc : List Nat × State) (i : Nat) : List Nat × State :=
  let (_, clamped, t) := acc.2.appliedCode (16 * b + i)
  (if clamped then acc.1 ++ [i] else acc.1, t)

theorem foldl_clampStep_only (b : Nat) (l : List Nat) (acc : List Nat × State) :
    ∃ n, (l.foldl (clampStep b) acc).2 = { acc.2 with freeCount := n } := by
  induction l generalizing acc with
  | nil => exact ⟨_, rfl⟩
  | cons i l ih =>
    obtain ⟨n, hn⟩ := appliedCode_only acc.2 (16 * b + i)
    obtain ⟨m, hm⟩ := ih (clampStep b acc i)
    have hstep : (clampStep b acc i).2 = { acc.2 with freeCount := n } := hn
    exact ⟨m, by rw [List.foldl_cons, hm, hstep]⟩

/-- The clamps that have come about since the last count are counted, and kept for the next (R248). -/
def State.noteClamps (s : State) (b : Nat) (p : List Nat × State) : State :=
  let fresh := p.1.filter fun i => !(s.bank b).clamped.contains i
  (if fresh = [] then p.2 else p.2.countReg 0x430002 32 fresh.length).modBank b fun k => { k with clamped := p.1 }

theorem countClamps_eq (s : State) (b : Nat) :
    s.countClamps b = s.noteClamps b ((List.range 16).foldl (clampStep b) ([], s)) := by
  unfold State.countClamps
  split
  next now s1 hfold =>
    have hsteps : (List.range 16).foldl (clampStep b) ([], s) = (now, s1) := hfold
    rw [hsteps]
    rfl

/-- Counting clamps changes what the bank keeps of them, and their count (R248). -/
theorem countClamps_only (s : State) (b : Nat) : ∃ l n r, s.countClamps b =
    State.modBank { s with freeCount := n, regs := r } b fun k => { k with clamped := l } := by
  obtain ⟨n, hn⟩ := foldl_clampStep_only b (List.range 16) ([], s)
  rw [countClamps_eq, State.noteClamps, hn]
  dsimp only
  split
  · exact ⟨_, _, _, rfl⟩
  · exact ⟨_, _, _, rfl⟩

theorem countClamps_rings (s : State) (b : Nat) : (s.countClamps b).photonics.rings = s.photonics.rings := by
  obtain ⟨l, n, r, h⟩ := countClamps_only s b
  rw [h]
  rfl

theorem ring_countClamps (s : State) (b e : Nat) : (s.countClamps b).ring e = s.ring e :=
  ring_of_rings (countClamps_rings s b) (by simp only [State.countClamps_kept]) e

theorem bank_countClamps (s : State) (b : Nat) : ∃ l, (s.countClamps b).bank b = { s.bank b with clamped := l } := by
  obtain ⟨l, n, r, h⟩ := countClamps_only s b
  exact ⟨l, by rw [h]; exact bank_modBank_same _ b _⟩

/-! ### Calibration (R248, R249) -/

theorem kRemeasure_next {s : State} {b : Nat} (he : isElement (16 * b) = true) (hr : s.reg 0x440004 ≠ 2)
    (hall : (List.range 16).all (fun i => (s.ring (16 * b + i)).state = .locked) = true)
    (hdue : (s.bank b).count = 0 ∨ (s.bank b).time + 3600000000000 ≤ s.now) (k : List (BitVec 32)) :
    exec (.kRemeasure b k) s = .next (s.modBank b fun b =>
      { b with pending := some k, count := satAdd 32 b.count 1, time := s.now }) := by
  change execKRemeasure b k s = _
  refine if_neg ?_
  have hlate : (decide ((s.bank b).count ≠ 0) && decide (s.now < (s.bank b).time + 3600000000000)) = false := by
    simp
    omega
  rw [he, hall, hlate]
  simp [hr]

/-- A LOCKED ring adjusted by `q`, its part of the average trim, at point `i` of its table (R249). -/
def Ring.adjusted (i : Nat) (q : Int) (now : Nat) (r : Ring) : Ring :=
  { r with
    table := setAt i (Nat.min ((r.table.getD i 0 : Int) + q).toNat 65535) r.table
    trim := boundTrim (r.trim - q)
    calibrations := satAdd 32 r.calibrations 1
    calibrated := now }

theorem calibrateRing_unlocked {s : State} {e : Nat} (h : (s.ring e).state ≠ .locked) (avg centi : Int) :
    s.calibrateRing e avg centi = s := if_pos h

/-- A LOCKED ring is adjusted by about a quarter of its average trim. -/
theorem calibrateRing_locked {s : State} {e : Nat} (h : (s.ring e).state = .locked) (avg centi : Int) :
    ∃ q : Int, (4 * q - boundTrim avg).natAbs < 4 ∧ ∃ n, s.calibrateRing e avg centi =
      State.modRing { s with freeCount := n } e (Ring.adjusted (nearestPoint centi) q s.now) := by
  obtain ⟨n, hn⟩ := s.divFree_only (boundTrim avg) 4
  refine ⟨(s.divFree (boundTrim avg) 4).1, s.divFree_near (boundTrim avg) (by decide), n, ?_⟩
  have heq : s.calibrateRing e avg centi = (s.divFree (boundTrim avg) 4).2.modRing e
      fun r => { r with
        table := setAt (nearestPoint centi)
          (Nat.min (((s.ring e).table.getD (nearestPoint centi) 0 : Int) + (s.divFree (boundTrim avg) 4).1).toNat 65535) r.table
        trim := boundTrim (r.trim - (s.divFree (boundTrim avg) 4).1)
        calibrations := satAdd 32 r.calibrations 1
        calibrated := s.now } := if_neg (not_not_intro h)
  rw [heq, hn]
  rfl

/-- The LOCKED rings of a bank are each adjusted once; the others stay as they are. -/
theorem foldl_calibrateRing (b : Nat) (avg : Nat → Int) (centi : Int) (l : List Nat) (hl : l.Nodup) (s : State) :
    (∀ i ∈ l, (s.ring (16 * b + i)).state = .locked → ∃ q : Int, (4 * q - boundTrim (avg i)).natAbs < 4 ∧
      (l.foldl (fun s i => s.calibrateRing (16 * b + i) (avg i) centi) s).ring (16 * b + i) =
        (s.ring (16 * b + i)).adjusted (nearestPoint centi) q s.now) ∧
    (∀ i, i ∉ l ∨ (s.ring (16 * b + i)).state ≠ .locked →
      (l.foldl (fun s i => s.calibrateRing (16 * b + i) (avg i) centi) s).ring (16 * b + i) = s.ring (16 * b + i)) ∧
    ∃ r n, l.foldl (fun s i => s.calibrateRing (16 * b + i) (avg i) centi) s =
      { s with photonics := { s.photonics with rings := r }, freeCount := n } := by
  induction l generalizing s with
  | nil => exact ⟨fun _ h => (nomatch h), fun _ _ => rfl, _, _, rfl⟩
  | cons j l ih =>
    obtain ⟨hj, hnodup⟩ := List.nodup_cons.mp hl
    by_cases hlock : (s.ring (16 * b + j)).state = .locked
    · obtain ⟨q, hq, n, hstep⟩ := calibrateRing_locked hlock (avg j) centi
      have hhere : (s.calibrateRing (16 * b + j) (avg j) centi).ring (16 * b + j) =
          (s.ring (16 * b + j)).adjusted (nearestPoint centi) q s.now := by
        rw [hstep]
        exact ring_modRing_same { s with freeCount := n } _ _
      have hother : ∀ i, i ≠ j → (s.calibrateRing (16 * b + j) (avg j) centi).ring (16 * b + i) = s.ring (16 * b + i) :=
        fun i hi => by
          rw [hstep]
          exact ring_modRing_ne { s with freeCount := n } (by omega) _
      have hnow : (s.calibrateRing (16 * b + j) (avg j) centi).now = s.now := by
        rw [hstep]
        rfl
      obtain ⟨hlocked, hkept, r, m, honly⟩ := ih hnodup (s.calibrateRing (16 * b + j) (avg j) centi)
      rw [List.foldl_cons]
      refine ⟨fun i hi hst => ?_, fun i hi => ?_, r, m, ?_⟩
      · by_cases hij : i = j
        · subst hij
          exact ⟨q, hq, (hkept i (.inl hj)).trans hhere⟩
        · rw [← hother i hij] at hst ⊢
          rw [← hnow]
          exact hlocked i ((List.mem_cons.mp hi).resolve_left hij) hst
      · have hij : i ≠ j := by
          rintro rfl
          exact hi.elim (fun h => h List.mem_cons_self) (fun h => h hlock)
        rw [hkept i (by rw [hother i hij]; exact hi.imp_left fun h hm => h (List.mem_cons_of_mem _ hm)), hother i hij]
      · rw [honly, hstep]
        rfl
    · obtain ⟨hlocked, hkept, r, m, honly⟩ := ih hnodup s
      rw [List.foldl_cons, calibrateRing_unlocked hlock]
      refine ⟨fun i hi hst => hlocked i ((List.mem_cons.mp hi).resolve_left ?_) hst, fun i hi => hkept i ?_, r, m, honly⟩
      · rintro rfl
        exact hlock hst
      · exact hi.imp_left fun h hm => h (List.mem_cons_of_mem _ hm)

/-- Whether a bank's last pass is too recent for another (R249). -/
def State.passEarly (s : State) (b : Nat) : Bool :=
  match (s.bank b).passed with
  | some t => decide (s.now < t + 1000000 * s.reg 0x430007)
  | none => false

/-- A pass has begun: its time is noted, and a measured matrix has come into force (R248). -/
def State.passBegun (s : State) (b : Nat) : State :=
  let s0 := s.modBank b fun b => { b with passed := some s.now }
  match (s.bank b).pending with
  | some k => (s0.modBank b fun b => { b with k := k, pending := none }).countClamps b
  | none => s0

/-- What the begin of a pass makes of its bank; it changes banks, the count of clamps and free values alone. -/
theorem passBegun_facts (s : State) (b : Nat) :
    (∃ l, (s.passBegun b).bank b = { s.bank b with
      passed := some s.now, k := (s.bank b).pending.getD (s.bank b).k, pending := none, clamped := l }) ∧
    ∃ k n r, s.passBegun b = { s with photonics := { s.photonics with banks := k }, freeCount := n, regs := r } := by
  unfold State.passBegun
  dsimp only
  cases hp : (s.bank b).pending with
  | none =>
    refine ⟨⟨(s.bank b).clamped, ?_⟩, _, _, _, rfl⟩
    dsimp only
    rw [bank_modBank_same, Option.getD_none, ← hp]
  | some k =>
    obtain ⟨l, n, r, h⟩ := countClamps_only ((s.modBank b fun b => { b with passed := some s.now }).modBank b fun b =>
      { b with k := k, pending := none }) b
    dsimp only
    rw [h]
    refine ⟨⟨l, ?_⟩, _, n, r, rfl⟩
    rw [bank_modBank_same]
    have hbank : ∀ u : State, State.bank { u with freeCount := n, regs := r } b = u.bank b := fun _ => rfl
    rw [hbank, bank_modBank_same, bank_modBank_same]
    rfl

/-- A pass has calibrated the rings of its bank, each by its average trim in `l`. -/
def State.ringsCalibrated (s : State) (b : Nat) (l : List Int) : State :=
  (List.range 16).foldl (fun t i => t.calibrateRing (16 * b + i) (l.getD i 0) (s.bank b).centi) (s.passBegun b)

/-- A pass has calibrated the rings of its bank, and its clamps have been counted. -/
def State.calibrated (s : State) (b : Nat) (l : List Int) : State := (s.ringsCalibrated b l).countClamps b

/-- A pass outside its table's range has left the rings, and told so. -/
def State.passSkipped (s : State) (b : Nat) : State :=
  ((s.passBegun b).modBank b fun b => { b with skipRaised := true }).raise 0x140A 0 photonicUnit
    (leBytes 4 (16 * b) ++ intBytes 2 (s.bank b).centi)

section
variable {s : State} {b : Nat} (he : isElement (16 * b) = true) (hr : s.reg 0x440004 ≠ 2) (hearly : s.passEarly b = false)
  (hswap : s.bankSwaps b = false)
include he hr hearly hswap

/-- A pass that is due, on a bank whose bar does not swap, turns on the bank's temperature (R249). -/
theorem calibrationPass_next (l : List Int) : exec (.calibrationPass b l) s =
    (if (s.bank b).centi < 2000 || 8200 < (s.bank b).centi then
      if (s.bank b).skipRaised then .next (s.passBegun b)
      else .next (s.passSkipped b)
    else .next (s.calibrated b l) : Result) := by
  change execCalibrationPass b l s = _
  have hgo : ¬ (!isElement (16 * b) || s.passEarly b || decide (s.reg 0x440004 = 2)) = true := by simp [he, hr, hearly]
  have hrun : ¬ s.bankSwaps b = true := by rw [hswap]; decide
  unfold execCalibrationPass State.passSkipped State.calibrated State.ringsCalibrated State.passBegun
  dsimp only
  refine (if_neg hgo).trans ((if_neg hrun).trans ?_)
  cases (s.bank b).pending with
  | none => rfl
  | some k => rfl

/-- Within its table's range a bank's rings are calibrated (R249). -/
theorem calibrationPass_within (hlow : 2000 ≤ (s.bank b).centi) (hhigh : (s.bank b).centi ≤ 8200) (l : List Int) :
    exec (.calibrationPass b l) s = .next (s.calibrated b l) :=
  (calibrationPass_next he hr hearly hswap l).trans (if_neg (by simp; omega))

/-- Above its table's range a bank's rings are left, and that is raised once (R249). -/
theorem calibrationPass_above (hhigh : 8200 < (s.bank b).centi) (hskip : (s.bank b).skipRaised = false) (l : List Int) :
    exec (.calibrationPass b l) s = .next (s.passSkipped b) :=
  (calibrationPass_next he hr hearly hswap l).trans ((if_pos (by simp [hhigh])).trans (if_neg (by rw [hskip]; decide)))

end

end Sys2Proof.Machine

/-! PROOF. References, tone windows, relocks and their failures, lanes that narrow, and snapshots (R237, R247, R251 to R256,
R260). -/

namespace Sys2Proof.Machine

/-! ### References (R251) -/

theorem reg_raiseSev {j : Nat} (hj : j ≠ 0x831006) (s : State) (code sev die unit : Nat) (detail : List Byte) :
    (s.raiseSev code sev die unit detail).reg j = s.reg j := by
  unfold State.raiseSev State.raiseEvent
  dsimp only
  split
  · exact (reg_deliverEvent hj _ _).trans (reg_deliverEvent hj _ _)
  · exact reg_deliverEvent hj _ _

theorem referencePpm_only (s : State) (a h : Nat) : ∃ n, (s.referencePpm a h).2 = { s with freeCount := n } := by
  refine ⟨(s.referencePpm a h).2.freeCount, ?_⟩
  apply State.ext_of <;> simp only [State.referencePpm_kept]

/-- The level of a difference of the references: 2 above 2.0 %, 1 above 0.5 %, else 0. -/
def referenceLevel (a h : Nat) : Nat :=
  if 50 * ((a : Int) - h).natAbs > h then 2 else if 200 * ((a : Int) - h).natAbs > h then 1 else 0

/-- Since when the references have been within 0.4 %, if they are. -/
def State.goodSince (s : State) (a h : Nat) : Option Nat :=
  if 250 * ((a : Int) - h).natAbs ≤ h then some (s.photonics.refGoodSince.getD s.now) else none

/-- The references have been read: their values and their difference are shown. -/
def State.referencesRead (s : State) (a h : Nat) : State :=
  let s2 := (((s.referencePpm a h).2.setReg 0x440001 a).setReg 0x440002 h).setReg 0x440003
    (leNat (intBytes 4 (s.referencePpm a h).1))
  { s2 with photonics := { s2.photonics with refGoodSince := s.goodSince a h } }

theorem referencesRead_facts (s : State) (a h : Nat) :
    (s.referencesRead a h).reg 0x440001 = a ∧ (s.referencesRead a h).reg 0x440002 = h ∧
    (s.referencesRead a h).reg 0x440004 = s.reg 0x440004 ∧ (s.referencesRead a h).reg 0x440005 = s.reg 0x440005 ∧
    ∃ r n g, s.referencesRead a h =
      { s with regs := r, freeCount := n, photonics := { s.photonics with refGoodSince := g } } := by
  obtain ⟨n, hn⟩ := referencePpm_only s a h
  unfold State.referencesRead
  dsimp only
  rw [hn]
  refine ⟨?_, ?_, ?_, ?_, _, n, _, rfl⟩
  · exact (reg_setReg_ne (by decide) _).trans ((reg_setReg_ne (by decide) _).trans (reg_setReg_same _ _ _))
  · exact (reg_setReg_ne (by decide) _).trans (reg_setReg_same _ _ _)
  · exact (reg_setReg_ne (by decide) _).trans ((reg_setReg_ne (by decide) _).trans (reg_setReg_ne (by decide) _))
  · exact (reg_setReg_ne (by decide) _).trans ((reg_setReg_ne (by decide) _).trans (reg_setReg_ne (by decide) _))

/-- A difference of a higher level is noted and raised. -/
def State.referencesDiffer (s : State) (a h : Nat) : State :=
  (((s.referencesRead a h).setReg 0x440004 (referenceLevel a h)).countReg 0x440005 32 1).raiseSev 0x1409 (referenceLevel a h) 0
    photonicUnit (intBytes 4 (s.referencePpm a h).1 ++ leBytes 1 (referenceLevel a h))

theorem referenceCompare_next (s : State) (a h : Nat) : exec (.referenceCompare a h) s =
    (if s.reg 0x440004 < referenceLevel a h then .next (s.referencesDiffer a h)
    else match s.goodSince a h with
      | some t => if s.reg 0x440004 ≠ 0 && t + 100000000 ≤ s.now then .next ((s.referencesRead a h).setReg 0x440004 0)
        else .next (s.referencesRead a h)
      | none => .next (s.referencesRead a h) : Result) := by
  change execReferenceCompare a h s = _
  unfold execReferenceCompare State.referencesDiffer State.referencesRead
  rcases s.referencePpm a h with ⟨ppm, s1⟩
  rfl

theorem referenceCompare_agrees {s : State} {a h : Nat} (hl : referenceLevel a h = 0) (hr : s.reg 0x440004 = 0) :
    exec (.referenceCompare a h) s = .next (s.referencesRead a h) := by
  rw [referenceCompare_next, hl, if_neg (Nat.not_lt_zero _)]
  cases s.goodSince a h with
  | none => rfl
  | some t => simp [hr]

/-- A difference of a higher level is noted, counted and raised; rings stay as they are. -/
theorem referencesDiffer_facts (s : State) (a h : Nat) :
    (s.referencesDiffer a h).reg 0x440004 = referenceLevel a h ∧
    (s.referencesDiffer a h).reg 0x440005 = satAdd 32 (s.reg 0x440005) 1 ∧
    (s.referencesDiffer a h).raised 0x1409 = s.raised 0x1409 + 1 ∧
    (s.referencesDiffer a h).photonics.rings = s.photonics.rings ∧
    ∃ r n p k g, s.referencesDiffer a h = { s with regs := r, freeCount := n, photonics := p, control := k, dbg := g } := by
  obtain ⟨-, -, -, hcount, r, n, g, honly⟩ := referencesRead_facts s a h
  unfold State.referencesDiffer
  obtain ⟨k, d, r', hraise⟩ := State.raiseSev_only
    (((s.referencesRead a h).setReg 0x440004 (referenceLevel a h)).countReg 0x440005 32 1) 0x1409 (referenceLevel a h) 0
    photonicUnit (intBytes 4 (s.referencePpm a h).1 ++ leBytes 1 (referenceLevel a h))
  refine ⟨?_, ?_, ?_, ?_, r', n, { s.photonics with refGoodSince := g }, k, d, ?_⟩
  · rw [reg_raiseSev (by decide)]
    exact (reg_setReg_ne (by decide) _).trans (reg_setReg_same _ _ _)
  · rw [reg_raiseSev (by decide)]
    refine (reg_setReg_same _ _ _).trans (congrArg (satAdd 32 · 1) ?_)
    exact (reg_setReg_ne (by decide) _).trans hcount
  · rw [State.raised_raiseSev _ _ _ _ _ _ (by decide), honly]
    rfl
  · rw [hraise, honly]
    rfl
  · rw [hraise, honly]
    rfl

/-! ### Rings on the wrong channel (R252, R253) -/

/-- A ring that starts to relock (R253). -/
def Ring.relocking (now : Nat) (r : Ring) : Ring :=
  { r with
    state := .sweeping
    sweepAt := now
    goodWindows := 0
    attempts := 1
    retryAt := none
    wrongWindows := 0
    relocks := satAdd 16 r.relocks 1 }

/-- A ring has been found on the wrong channel: counted and raised, and what its light serves has been told (R252). -/
def State.wrongTold (s : State) (e seen : Nat) : State :=
  let s1 := (s.countReg 0x430004 64 1).raise 0x1406 0 photonicUnit (leBytes 4 e ++ leBytes 1 seen)
  match s1.pathOf e with
  | .lanes l => l.foldl State.laneWrong s1
  | .standing a b => if s1.hasStanding a b && (s1.standing a b).state = .up then s1.retrainStanding a b else s1
  | .port _ => s1

theorem wrongTold_links (s : State) (e seen : Nat) : linksOnly
    ((s.countReg 0x430004 64 1).raise 0x1406 0 photonicUnit (leBytes 4 e ++ leBytes 1 seen)) (s.wrongTold e seen) := by
  unfold State.wrongTold
  dsimp only
  split
  · exact linksOnly.foldl linksOnly.laneWrong _ _
  · split
    · exact linksOnly.retrainStanding _ _ _
    · exact linksOnly.refl _
  · exact linksOnly.refl _

theorem ringWrong_only (s : State) (e seen : Nat) : s.ringWrong e seen = { s with
    rig := (s.ringWrong e seen).rig, regs := (s.ringWrong e seen).regs, control := (s.ringWrong e seen).control
    dbg := (s.ringWrong e seen).dbg, photonics := (s.ringWrong e seen).photonics } := by
  apply State.ext_of <;> simp only [State.ringWrong_kept]

/-- A LOCKED ring found on the wrong channel relocks at once (log 43); both counts rise, and it is raised once. -/
theorem ringWrong_facts {s : State} {e : Nat} (h : (s.ring e).state = .locked) (seen : Nat) :
    (s.ringWrong e seen).ring e = (s.ring e).relocking s.now ∧
    (s.ringWrong e seen).reg 0x430003 = satAdd 64 (s.reg 0x430003) 1 ∧
    (s.ringWrong e seen).reg 0x430004 = satAdd 64 (s.reg 0x430004) 1 ∧
    (s.ringWrong e seen).raised 0x1406 = s.raised 0x1406 + 1 ∧ sameRings e s (s.ringWrong e seen) := by
  have hwrong : s.ringWrong e seen =
      ((s.wrongTold e seen).modRing e (Ring.relocking (s.wrongTold e seen).now)).countReg 0x430003 64 1 :=
    if_neg (by rw [h]; decide)
  have hlinks := wrongTold_links s e seen
  have hlight : (s.wrongTold e seen).photonics = s.photonics := hlinks.photonics.trans (State.raise_photonics _ _ _ _ _)
  have hring : (s.wrongTold e seen).ring e = s.ring e := ring_of_rings (by rw [hlight])
    (hlinks.fuses.trans (by simp only [State.raise_kept]; rfl)) e
  have hnow : (s.wrongTold e seen).now = s.now := congrArg Clocks.count (hlinks.clocks.trans (State.raise_clocks _ _ _ _ _))
  have hreg : ∀ j, j ≠ 0x402105 → j ≠ 0x402106 → j ≠ 0x831006 →
      (s.wrongTold e seen).reg j = (s.countReg 0x430004 64 1).reg j :=
    fun j h5 h6 h8 => (hlinks.reg j h5 h6 h8).trans (reg_raise h8 _ _ _ _ _)
  rw [hwrong]
  refine ⟨?_, ?_, ?_, ?_, ?_⟩
  · refine (ring_modRing_same (s.wrongTold e seen) e _).trans ?_
    rw [hring, hnow]
  · refine (reg_setReg_same _ _ _).trans (congrArg (satAdd 64 · 1) ((hreg _ (by decide) (by decide) (by decide)).trans ?_))
    exact reg_setReg_ne (by decide) _
  · refine (reg_setReg_ne (by decide) _).trans ((hreg _ (by decide) (by decide) (by decide)).trans ?_)
    exact reg_setReg_same _ _ _
  · refine (hlinks.raised _ (by decide) (by decide) (by decide)).trans ?_
    exact State.raised_raise _ _ _ _ _ (by decide)
  · exact (sameRings_of_rings (by rw [hlight]) e).trans (sameRings_modRing e (s.wrongTold e seen) _)

/-- A ring after a tone window (R237, R247): its lock loop runs while it is LOCKED. -/
def Ring.inWindow (e now : Nat) (seen : ToneReading) (r : Ring) : Ring :=
  let wrong := match seen.tone with | some t => decide (t ≠ elRing e) | none => false
  let held := if r.state = .locked then boundTrim seen.trim else r.trim
  let limit := r.state = .locked && held.natAbs = 2000
  { r with
    tone := seen.tone
    trim := held
    limitSince := if !limit then none else if r.trim = held then some (r.limitSince.getD now) else some now
    wrongWindows := if wrong then r.wrongWindows + 1 else 0
    goodWindows := if seen.tone = some (elRing e) then r.goodWindows + 1 else 0 }

/-- A third window in a row with another channel's tone finds a LOCKED ring on the wrong channel (R252). -/
theorem toneWindow_next {s : State} {e : Nat} (he : isElement e = true) (seen : ToneReading) : exec (.toneWindow e seen) s = .next
    (if 3 ≤ ((s.ring e).inWindow e s.now seen).wrongWindows && (s.ring e).state = .locked then
      (s.modRing e (Ring.inWindow e s.now seen)).ringWrong e (seen.tone.getD 0xFF)
    else s.modRing e (Ring.inWindow e s.now seen)) := by
  change execToneWindow e seen s = _
  unfold execToneWindow
  rw [he, if_neg (by decide), apply_ite Host.Outcome.next]
  rfl

theorem inWindow_own (e now : Nat) (u : Int) {r : Ring} (h : r.state = .locked) :
    r.inWindow e now ⟨some (elRing e), u⟩ = { r with
      tone := some (elRing e)
      trim := boundTrim u
      limitSince := if (boundTrim u).natAbs ≠ 2000 then none
        else if r.trim = boundTrim u then some (r.limitSince.getD now) else some now
      wrongWindows := 0
      goodWindows := r.goodWindows + 1 } := by
  simp [Ring.inWindow, h]

theorem inWindow_dark (e now : Nat) (u : Int) {r : Ring} (h : r.state ≠ .locked) :
    r.inWindow e now ⟨none, u⟩ = { r with tone := none, limitSince := none, wrongWindows := 0, goodWindows := 0 } := by
  simp [Ring.inWindow, h]

theorem wrongWindows_inWindow {e x : Nat} (hx : x ≠ elRing e) (now : Nat) (u : Int) (r : Ring) :
    (r.inWindow e now ⟨some x, u⟩).wrongWindows = r.wrongWindows + 1 := by
  simp [Ring.inWindow, hx]

theorem trimLimit_next {s : State} {e u : Nat} (he : isElement e = true) (hst : (s.ring e).state = .locked)
    (hu : (s.ring e).limitSince = some u) (ht : u + 1000000 ≤ s.now) :
    exec (.trimLimit e) s = .next (s.ringWrong e ((s.ring e).tone.getD 0xFF)) := by
  change execTrimLimit e s = _
  unfold execTrimLimit
  dsimp only
  rw [hu]
  exact if_pos (by simp [he, hst, ht])

/-! ### Attempts at relocking (R253, R254) -/

theorem relockSweepEnd_next {s : State} {e : Nat} (hst : (s.ring e).state = .sweeping) (hr : (s.ring e).retryAt = none)
    (ht : (s.ring e).sweepAt + 402000 ≤ s.now) : exec (.relockSweepEnd e none) s = .next (s.relockFailed e) ∧
      ∀ x, x ≤ 40000 → exec (.relockSweepEnd e (some x)) s = .next (s.modRing e fun r =>
        { r with state := .verify, candidate := x, goodWindows := 0 }) := by
  have hgo : ¬ (decide ((s.ring e).state ≠ .sweeping) || (s.ring e).retryAt.isSome ||
      decide (s.now < (s.ring e).sweepAt + 402000)) = true := by
    simp [hst, hr]
    omega
  refine ⟨?_, fun x hx => ?_⟩
  · change execRelockSweepEnd e none s = _
    exact if_neg hgo
  · change execRelockSweepEnd e (some x) s = _
    exact (if_neg hgo).trans (if_neg (Nat.not_lt.mpr hx))

theorem relockFailed_again {s : State} {e : Nat} (h : (s.ring e).attempts < 3) : s.relockFailed e =
    s.modRing e fun r => { r with state := .sweeping, retryAt := some (s.now + 10000) } := if_neg (Nat.not_le.mpr h)

theorem relockFailed_last {s : State} {e : Nat} (h : 3 ≤ (s.ring e).attempts) : s.relockFailed e = s.ringFailed e := if_pos h

/-- A ring that has FAILED (R254). -/
def Ring.failed (r : Ring) : Ring := { r with state := .failed, retryAt := none }

/-- A ring has FAILED and is counted and raised, before its position is dropped. -/
def State.failureTold (s : State) (e : Nat) : State :=
  ((s.modRing e Ring.failed).countReg 0x430005 32 1).raise 0x1407 0 photonicUnit (leBytes 4 e)

theorem ringFailed_links (s : State) (e : Nat) : linksOnly (s.failureTold e) (s.ringFailed e) := by
  have heq : s.ringFailed e = match (s.failureTold e).pathOf e with
      | .lanes l => l.foldl (fun s k => (s.reviewLane k).releaseLane k) (s.failureTold e)
      | .standing a b => if (s.failureTold e).hasStanding a b then (s.failureTold e).standingDown a b else s.failureTold e
      | .port p => (s.failureTold e).reviewPort p := rfl
  rw [heq]
  split
  · exact linksOnly.foldl (fun s k => (linksOnly.reviewLane s k).trans (linksOnly.releaseLane _ k)) _ _
  · split
    · exact linksOnly.standingDown _ _ _
    · exact linksOnly.refl _
  · exact linksOnly.reviewPort _ _

theorem ringFailed_only (s : State) (e : Nat) : s.ringFailed e = { s with
    domain := (s.ringFailed e).domain, rig := (s.ringFailed e).rig, regs := (s.ringFailed e).regs
    control := (s.ringFailed e).control, dbg := (s.ringFailed e).dbg, photonics := (s.ringFailed e).photonics } := by
  apply State.ext_of <;> simp only [State.ringFailed_kept]

/-- A FAILED ring is counted and raised once. -/
theorem ringFailed_facts (s : State) (e : Nat) :
    (s.ringFailed e).ring e = (s.ring e).failed ∧ (s.ringFailed e).raised 0x1407 = s.raised 0x1407 + 1 ∧
    (s.ringFailed e).reg 0x430005 = satAdd 32 (s.reg 0x430005) 1 ∧ sameRings e s (s.ringFailed e) := by
  have hlinks := ringFailed_links s e
  have hlight : (s.ringFailed e).photonics = (s.modRing e Ring.failed).photonics :=
    hlinks.photonics.trans (State.raise_photonics _ _ _ _ _)
  refine ⟨?_, ?_, ?_, ?_⟩
  · refine (ring_of_rings (s := s.modRing e Ring.failed) (by rw [hlight]) ?_ e).trans (ring_modRing_same s e _)
    simp only [State.ringFailed_kept]
    rfl
  · refine (hlinks.raised _ (by decide) (by decide) (by decide)).trans ?_
    exact State.raised_raise _ _ _ _ _ (by decide)
  · refine (hlinks.reg _ (by decide) (by decide) (by decide)).trans ?_
    exact (reg_raise (by decide) _ _ _ _ _).trans (reg_setReg_same _ _ _)
  · exact (sameRings_modRing e s _).trans (sameRings_of_rings (by rw [hlight]) e)

theorem relockVerified_unconfirmed {s : State} {e : Nat} (h : (s.ring e).state = .verify) :
    exec (.relockVerified e false) s = .next (s.relockFailed e) := by
  change execRelockVerified e false s = _
  exact (if_neg (not_not_intro h)).trans (if_pos rfl)

/-- A ring has relocked, and its bank's clamps have been counted, before lanes are let go (R253). -/
def State.relocked (s : State) (e : Nat) : State := (s.ringLocked e).countClamps (e / 16)

/-- A ring that has relocked lets go of the lanes of its path that wait for no other ring (R253 step 7). -/
def State.letGo (s : State) (e : Nat) : State :=
  match s.pathOf e with
  | .lanes l => l.foldl State.releaseLane s
  | _ => s

theorem relockVerified_confirmed {s : State} {e : Nat} (h : (s.ring e).state = .verify) (h3 : 3 ≤ (s.ring e).goodWindows) :
    exec (.relockVerified e true) s = .next ((s.relocked e).letGo e) := by
  change execRelockVerified e true s = _
  have hfew : ¬ (s.ring e).goodWindows < 3 := Nat.not_lt.mpr h3
  unfold execRelockVerified State.relocked
  simp only [h, hfew, ne_eq, not_true_eq_false, if_false, Bool.not_true, Bool.false_eq_true]
  generalize (s.ringLocked e).countClamps (e / 16) = t
  unfold State.letGo
  cases t.pathOf e <;> rfl

theorem foldl_releaseLane_only (l : List Nat) (s : State) : ∃ r, l.foldl State.releaseLane s = { s with rig := r } := by
  induction l generalizing s with
  | nil => exact ⟨_, rfl⟩
  | cons k l ih =>
    obtain ⟨r, h⟩ := ih (s.releaseLane k)
    refine ⟨r, ?_⟩
    rw [List.foldl_cons, h]
    unfold State.releaseLane
    split
    · rfl
    · rfl

theorem letGo_only (s : State) (e : Nat) : ∃ r, s.letGo e = { s with rig := r } := by
  unfold State.letGo
  split
  · exact foldl_releaseLane_only _ s
  · exact ⟨_, rfl⟩

/-- A ring that has relocked at the candidate of its sweep, at point `i` of its table (R253 step 6). -/
def Ring.lockedAt (e i now : Nat) (r : Ring) : Ring :=
  { r with
    state := .locked
    table := setAt i r.candidate r.table
    trim := 0
    limitSince := none
    calibrations := satAdd 32 r.calibrations 1
    calibrated := now
    tone := some (elRing e)
    wrongWindows := 0
    attempts := 0
    retryAt := none }

theorem ringLocked_eq (s : State) (e : Nat) :
    s.ringLocked e = s.modRing e (Ring.lockedAt e (nearestPoint (s.bank (e / 16)).centi) s.now) := rfl

theorem relocked_facts (s : State) (e : Nat) :
    (s.relocked e).ring e = (s.ring e).lockedAt e (nearestPoint (s.bank (e / 16)).centi) s.now ∧ sameRings e s (s.relocked e) ∧
    ∃ r k n a, s.relocked e = { s with
      photonics := { s.photonics with rings := r, banks := k }, freeCount := n, regs := a } := by
  unfold State.relocked
  rw [ringLocked_eq]
  generalize Ring.lockedAt e (nearestPoint (s.bank (e / 16)).centi) s.now = f
  obtain ⟨l, n, a, h⟩ := countClamps_only (s.modRing e f) (e / 16)
  refine ⟨?_, ?_, ?_⟩
  · rw [ring_countClamps, ring_modRing_same]
  · exact (sameRings_modRing e s f).trans (sameRings_of_rings (countClamps_rings _ _) e)
  · rw [h]
    exact ⟨_, _, n, a, rfl⟩

theorem relockRetry_next {s : State} {e a : Nat} (ha : (s.ring e).retryAt = some a) (hst : (s.ring e).state = .sweeping)
    (ht : a ≤ s.now) : exec (.relockRetry e) s = .next (s.modRing e fun r =>
      { r with sweepAt := s.now, attempts := r.attempts + 1, retryAt := none }) := by
  change execRelockRetry e s = _
  unfold execRelockRetry
  dsimp only
  rw [ha]
  exact if_neg (by simp [hst, ht])

/-! ### Lanes that narrow (R218, R256) -/

/-- A lane's aim and its width. -/
def Lane.breadth (l : Lane) : Nat × List Nat × Option Nat := (l.targets, l.dropped, l.narrowing)

theorem breadth_sendOnLane (s : State) (k : Nat) (p : Packet) : ((s.sendOnLane k p).laneAt k).breadth = (s.laneAt k).breadth := by
  unfold State.sendOnLane
  dsimp only
  generalize hf : (fun l : Lane => ({ l with
    nextSeq := (l.nextSeq + packetFlits p) % 65536
    stream := l.stream + 136 * packetFlits p
    replay := l.replay ++ [(l.nextSeq, packetFlits p, p)] } : Lane)) = f
  have hlane : (s.modLane k f).laneAt k = f (s.laneAt k) := by rw [laneAt_modLane, if_pos rfl]
  refine (congrArg Lane.breadth hlane).trans ?_
  rw [← hf]
  rfl

/-- What multicasts that wait do to lane `k` leaves its aim and its width, and the other lanes, as they are. -/
theorem holdMulticast_lanes (s : State) (k : Nat) (m : McPending) :
    ((s.holdMulticast [k] m).laneAt k).breadth = (s.laneAt k).breadth ∧ sameLanes k s (s.holdMulticast [k] m) := by
  unfold State.holdMulticast
  split
  · exact ⟨rfl, sameLanes_of_lanes rfl k⟩
  next j hj =>
    have hk : j = k := by
      have hj := List.find?_some hj
      simp only [Bool.and_eq_true, List.contains_cons, List.contains_nil, Bool.or_false, beq_iff_eq] at hj
      exact hj.1
    subst hk
    split
    · obtain ⟨c, hc⟩ := sendMulticast_eq s m j
      rw [hc]
      refine ⟨breadth_sendOnLane _ j _, sameLanes_modLane j { s with rig := { s.rig with
        mcPending := s.rig.mcPending.erase m, mcReserved := m.markSent s.rig.mcReserved, spent := c } } _⟩
    · exact ⟨rfl, sameLanes_of_lanes rfl j⟩

theorem holdMulticasts_lanes (s : State) (k : Nat) :
    ((s.holdMulticasts [k]).laneAt k).breadth = (s.laneAt k).breadth ∧ sameLanes k s (s.holdMulticasts [k]) := by
  unfold State.holdMulticasts
  generalize s.rig.mcPending = l
  induction l generalizing s with
  | nil => exact ⟨rfl, sameLanes_of_lanes rfl k⟩
  | cons m l ih =>
    obtain ⟨hbreadth, hsame⟩ := holdMulticast_lanes s k m
    obtain ⟨hbreadth', hsame'⟩ := ih (s.holdMulticast [k] m)
    exact ⟨hbreadth'.trans hbreadth, hsame.trans hsame'⟩

/-- A lane that comes back on fewer or more wavelengths than before raises its width once (R256). -/
theorem raised_laneUp {s : State} {k : Nat} (h : (s.dropsFor k).length < 2) : (s.laneUp k).raised 0x1408 =
    s.raised 0x1408 + if (s.dropsFor k).length = (s.laneAt k).dropped.length then 0 else 1 := by
  have hactive : ∀ t : State, (t.laneActive k).raised 0x1408 = t.raised 0x1408 := fun t => by
    obtain ⟨m, r, hfull, -⟩ := endFull_only t k
    rw [State.laneActive, hfull]
    rfl
  unfold State.laneUp
  dsimp only
  rw [if_neg (Nat.not_le.mpr h)]
  split
  · exact hactive _
  · rw [State.widthEvent, State.raised_raise _ _ _ _ _ (by decide), hactive]
    rfl

/-- A lane that has stopped is aimed and dropped as before, and so are the paths. -/
theorem samePaths_stopLane (s : State) (k : Nat) (st : LaneState) : samePaths s (s.stopLane k st) := by
  refine .of_change (stopLane_changes s k st) (fun _ => rfl) ?_ ?_ ?_ <;> simp only [State.stopLane_kept]

theorem sameLanes_stopLane (s : State) (k : Nat) (st : LaneState) : sameLanes k s (s.stopLane k st) := by
  obtain ⟨m, r, hfull, -⟩ := endFull_only (s.modLane k fun l => { l with state := st }) k
  rw [State.stopLane, hfull]
  generalize hu : ({ s.modLane k (fun l => { l with state := st }) with rig := _, regs := r } : State) = u
  obtain ⟨i, v, o, c, w, hagain⟩ := resendLane_only u k
  have hended : sameLanes k s u := by
    rw [← hu]
    exact sameLanes_modLane k s _
  exact (hended.trans (sameLanes_of_lanes (by rw [hagain]) k)).trans (sameLanes_modLane k _ _)

/-- A lane has been trained on the positions that it keeps, and what was held for it goes on (R256 steps 3 to 5). -/
def State.narrowed (s : State) (k : Nat) : State := ((s.stopLane k .training).laneUp k).restartMulticasts

/-- A lane trained on the positions that it keeps is as after any training, and its width is raised where it changed. -/
theorem narrowed_facts {s : State} {k : Nat} (h : (s.dropsFor k).length < 2) :
    (s.narrowed k).laneAt k =
      Lane.restarted { (s.laneAt k).stopped .training with dropped := s.dropsFor k, narrowing := none } ∧
    (s.narrowed k).raised 0x1408 =
      s.raised 0x1408 + (if (s.dropsFor k).length = (s.laneAt k).dropped.length then 0 else 1) ∧
    sameLanes k s (s.narrowed k) ∧ (s.narrowed k).photonics = s.photonics := by
  have hdrops := (samePaths_stopLane s k .training).dropsFor k
  have hstopped : (s.stopLane k .training).laneAt k = (s.laneAt k).stopped .training :=
    (stopLane_changes s k .training k).trans (if_pos rfl)
  rw [← hdrops] at h
  obtain ⟨hlane, hsame⟩ := laneUp_facts h
  have hwidth := raised_laneUp h
  have hraised : (s.stopLane k .training).raised 0x1408 = s.raised 0x1408 :=
    raised_of_control (by simp only [State.stopLane_kept]) _
  rw [hstopped, hdrops] at hlane hwidth
  unfold State.narrowed
  refine ⟨(laneAt_of_lanes (restartMulticasts_lanes _) k).trans hlane, ?_, ?_, ?_⟩
  · rw [raised_of_control (s := (s.stopLane k .training).laneUp k) (by simp only [State.restartMulticasts_kept]), hwidth, hraised]
    rfl
  · exact ((sameLanes_stopLane s k _).trans hsame).trans (sameLanes_of_lanes (restartMulticasts_lanes _) k)
  · simp only [State.restartMulticasts_kept, State.laneUp_kept, State.stopLane_kept]

theorem narrowed_only (s : State) (k : Nat) : s.narrowed k = { s with
    rig := (s.narrowed k).rig, regs := (s.narrowed k).regs, control := (s.narrowed k).control, dbg := (s.narrowed k).dbg } := by
  unfold State.narrowed
  apply State.ext_of <;> simp only [State.restartMulticasts_kept, State.laneUp_kept, State.stopLane_kept]

/-- A lane quiesces to narrow, and multicasts that wait for it are held (R256 step 2). -/
def State.narrowing (s : State) (k : Nat) : State := (s.holdMulticasts [k]).modLane k fun l => { l with state := .quiescing }

theorem narrowing_facts (s : State) (k : Nat) : ((s.narrowing k).laneAt k).state = .quiescing ∧
    ((s.narrowing k).laneAt k).breadth = (s.laneAt k).breadth ∧ sameLanes k s (s.narrowing k) := by
  obtain ⟨hbreadth, hsame⟩ := holdMulticasts_lanes s k
  have hlane : (s.narrowing k).laneAt k = { (s.holdMulticasts [k]).laneAt k with state := .quiescing } :=
    (laneAt_modLane _ k k _).trans (if_pos rfl)
  rw [hlane]
  exact ⟨rfl, hbreadth, hsame.trans (sameLanes_modLane k _ _)⟩

theorem narrowing_only (s : State) (k : Nat) :
    s.narrowing k = { s with rig := (s.narrowing k).rig, regs := (s.narrowing k).regs } := by
  unfold State.narrowing State.modLane
  apply State.ext_of <;> simp only [State.holdMulticasts_kept]

theorem laneNarrow_next {s : State} {slot lane : Nat} (hn : (s.lane slot lane).narrowing ≠ none)
    (hst : (s.lane slot lane).state = .active) : exec (.laneNarrow slot lane) s =
      .next (s.narrowing (laneKey slot lane)) := by
  change execLaneNarrow slot lane s = _
  unfold State.lane at hn hst
  exact if_pos (by simp [hst, Option.isSome_iff_ne_none, hn])

theorem laneNarrowRetrain_next {s : State} {slot lane : Nat} (hn : (s.lane slot lane).narrowing ≠ none)
    (hst : (s.lane slot lane).state = .quiescing) : exec (.laneNarrowRetrain slot lane) s =
      .next (s.narrowed (laneKey slot lane)) := by
  change execLaneNarrowRetrain slot lane s = _
  unfold State.lane at hn hst
  exact if_neg (by simp [hst, hn])

/-! ### Snapshots (R260) -/

theorem elementSelect_next {s : State} {e : Nat} (he : isElement e = true) : ∃ n code feed, exec (.elementSelect e) s =
    .next { (State.setReg { s with freeCount := n } 0x431001 e).setReg 0x431002 s.now with
      photonics := { s.photonics with
        snapshot := s.ring e, snapshotBank := s.bank (e / 16), snapshotApplied := code, snapshotFeed := feed } } := by
  change ∃ n code feed, execElementSelect e s = _
  obtain ⟨m, hm⟩ := feedForward_only s (s.ring e) (s.bank (e / 16)).centi
  obtain ⟨n, hn⟩ := appliedCode_only (s.feedForward (s.ring e) (s.bank (e / 16)).centi).2 e
  have heq : (s.elementSelect e).2 =
      { ((((s.feedForward (s.ring e) (s.bank (e / 16)).centi).2.appliedCode e).2.2.setReg 0x431001 e).setReg 0x431002 s.now) with
        photonics := { ((s.feedForward (s.ring e) (s.bank (e / 16)).centi).2.appliedCode e).2.2.photonics with
          snapshot := s.ring e
          snapshotBank := s.bank (e / 16)
          snapshotApplied := ((s.feedForward (s.ring e) (s.bank (e / 16)).centi).2.appliedCode e).1
          snapshotFeed := (s.feedForward (s.ring e) (s.bank (e / 16)).centi).1.toNat } } := by
    unfold State.elementSelect
    rw [he, if_neg (by decide)]
  rw [hn, hm] at heq
  exact ⟨n, _, _, congrArg Host.Outcome.next heq⟩

end Sys2Proof.Machine

/-! PROOF. O27: the ring rules, from the equations of their commands and what each leaves (R247 to R256, R260). -/

namespace Sys2Proof.Machine

/-- A calibration within the table's range: the rings by `foldl_calibrateRing`, the bank by its begin, and clamps counted last. -/
theorem calibrated_facts (s : State) (b : Nat) (l : List Int) :
    (∀ i, i < 16 → (s.ring (16 * b + i)).state = .locked → ∃ q : Int, (4 * q - boundTrim (l.getD i 0)).natAbs < 4 ∧
      (s.calibrated b l).ring (16 * b + i) = (s.ring (16 * b + i)).adjusted (nearestPoint (s.bank b).centi) q s.now) ∧
    (∀ i, i < 16 → (s.ring (16 * b + i)).state ≠ .locked →
      (s.calibrated b l).ring (16 * b + i) = s.ring (16 * b + i)) ∧
    (∃ c, (s.calibrated b l).bank b = { s.bank b with
      passed := some s.now, k := (s.bank b).pending.getD (s.bank b).k, pending := none, clamped := c }) ∧
    ∃ r k n a, s.calibrated b l =
      { s with photonics := { s.photonics with rings := r, banks := k }, freeCount := n, regs := a } := by
  obtain ⟨⟨c, hbank⟩, k, n, a, hbegun⟩ := passBegun_facts s b
  have hring : ∀ e, (s.passBegun b).ring e = s.ring e :=
    ring_of_rings (by rw [hbegun]) (by rw [hbegun])
  have hnow : (s.passBegun b).now = s.now := by
    rw [hbegun]
    rfl
  obtain ⟨hlocked, hkept, r, m, honly⟩ := foldl_calibrateRing b (fun i => l.getD i 0) (s.bank b).centi (List.range 16)
    List.nodup_range (s.passBegun b)
  change ∀ i ∈ List.range 16, _ → ∃ q : Int, _ ∧ (s.ringsCalibrated b l).ring _ = _ at hlocked
  change ∀ i, _ → (s.ringsCalibrated b l).ring _ = _ at hkept
  change s.ringsCalibrated b l = _ at honly
  unfold State.calibrated
  generalize s.ringsCalibrated b l = u at hlocked hkept honly ⊢
  refine ⟨fun i hi hst => ?_, fun i hi hst => ?_, ?_, ?_⟩
  · obtain ⟨q, hq, hadjusted⟩ := hlocked i (List.mem_range.mpr hi) (by rw [hring, hst])
    rw [hring, hnow] at hadjusted
    exact ⟨q, hq, (ring_countClamps u b _).trans hadjusted⟩
  · rw [ring_countClamps, hkept i (.inr (by rwa [hring])), hring]
  · obtain ⟨d, hclamps⟩ := bank_countClamps u b
    have hsame : u.bank b = (s.passBegun b).bank b := by
      rw [honly]
      rfl
    rw [hclamps, hsame, hbank]
    exact ⟨d, rfl⟩
  · obtain ⟨d, n', a', hclamps⟩ := countClamps_only u b
    rw [hclamps, honly, hbegun]
    exact ⟨_, _, n', a', rfl⟩

/-- A bank's pass that is skipped is told once; its rings stay as they are. -/
theorem passSkipped_facts {s : State} {b : Nat} (hp : (s.bank b).pending = none) :
    (s.passSkipped b).raised 0x140A = s.raised 0x140A + 1 ∧
    (s.passSkipped b).bank b = { s.bank b with skipRaised := true, passed := some s.now } ∧
    (s.passSkipped b).photonics = { s.photonics with banks := (s.passSkipped b).photonics.banks } ∧
    ∃ p r k d, s.passSkipped b = { s with photonics := p, regs := r, control := k, dbg := d } := by
  have hbegun : s.passBegun b = s.modBank b fun b => { b with passed := some s.now } := by
    unfold State.passBegun
    rw [hp]
  unfold State.passSkipped
  rw [hbegun]
  generalize leBytes 4 (16 * b) ++ intBytes 2 (s.bank b).centi = l
  refine ⟨State.raised_raise _ _ _ _ _ (by decide), ?_, ?_, ?_⟩
  · rw [State.bank, State.raise_photonics]
    refine (bank_modBank_same _ b _).trans ?_
    rw [bank_modBank_same]
  · rw [State.raise_photonics]
    rfl
  · obtain ⟨k, d, r, hraise⟩ := State.raiseSev_only
      ((s.modBank b fun b => { b with passed := some s.now }).modBank b fun b => { b with skipRaised := true }) 0x140A
      (eventSeverity 0x140A) 0 photonicUnit l
    rw [State.raise, hraise]
    exact ⟨_, r, k, d, rfl⟩

/-- Settles O27: each command by its equation; calibrations ring by ring, relocks by what telling of them leaves, and lanes that narrow
by what multicasts and trainings make of a lane. -/
theorem ringsRelock : Obligations.RingsRelock := by
  unfold Obligations.RingsRelock
  refine ⟨?_, ?_, ?_, ?_, ?_, ?_, ?_, ?_, ?_, ?_, ?_, ?_, ?_, ?_, ?_, ?_, ?_, ?_, ?_⟩
  · intro s b k he hr hall hdue
    exact ⟨_, kRemeasure_next he hr hall hdue k, bank_modBank_same s b _, fun _ hc => bank_modBank_ne s hc _, rfl⟩
  · intro s b l he hr hearly hswap hlow hhigh
    refine ⟨_, calibrationPass_within he hr hearly hswap hlow hhigh l, ?_⟩
    obtain ⟨hlocked, hkept, ⟨c, hbank⟩, r, k, n, a, honly⟩ := calibrated_facts s b l
    refine ⟨fun i hi hst => ?_, hkept, ?_, ?_, ?_, ?_, ?_⟩
    · obtain ⟨q, hq, hadjusted⟩ := hlocked i hi hst
      rw [hadjusted]
      exact ⟨q, hq, rfl, rfl, hst, rfl, rfl⟩
    · rw [hbank]
    · rw [hbank]
    · rw [hbank]
    · rw [honly]
    · rw [honly]
  · intro s b l he hr hearly hswap hhigh hskip hp
    obtain ⟨hraised, hbank, hbanks, p, r, k, d, honly⟩ := passSkipped_facts hp
    exact ⟨_, calibrationPass_above he hr hearly hswap hhigh hskip l, hraised, hbank, hbanks, by rw [honly]⟩
  · intro s a h _ hclose hr
    have hlevel : referenceLevel a h = 0 := by
      rw [referenceLevel, if_neg (by omega), if_neg (by omega)]
    obtain ⟨ha, hh, hlast, -, r, n, g, honly⟩ := referencesRead_facts s a h
    exact ⟨_, referenceCompare_agrees hlevel hr, ha, hh, hlast.trans hr, by rw [honly], by rw [honly]⟩
  · intro s a h _ hfar hnear hr
    have hlevel : referenceLevel a h = 1 := by
      rw [referenceLevel, if_neg (by omega), if_pos (by omega)]
    obtain ⟨hlast, hcount, hraised, hrings, r, n, p, k, g, honly⟩ := referencesDiffer_facts s a h
    exact ⟨_, (referenceCompare_next s a h).trans (if_pos (by omega)), hlast.trans hlevel, hcount, hraised, hrings,
      by rw [honly]⟩
  · intro s a h hfar hr
    have hlevel : referenceLevel a h = 2 := by
      rw [referenceLevel, if_pos (by omega)]
    obtain ⟨hlast, hcount, hraised, hrings, r, n, p, k, g, honly⟩ := referencesDiffer_facts s a h
    exact ⟨_, (referenceCompare_next s a h).trans (if_pos (by omega)), hlast.trans hlevel, hcount, hraised, hrings,
      by rw [honly]⟩
  · intro s e u he hst
    refine ⟨_, toneWindow_next he _, ?_⟩
    rw [inWindow_own e s.now u hst, if_neg (by simp)]
    exact ⟨(ring_modRing_same s e _).trans (inWindow_own e s.now u hst), sameRings_modRing e s _, rfl⟩
  · intro s e u he hst
    refine ⟨_, toneWindow_next he _, ?_⟩
    rw [if_neg (by simp [hst])]
    exact ⟨(ring_modRing_same s e _).trans (inWindow_dark e s.now u hst), sameRings_modRing e s _, rfl⟩
  · intro s e x u he hst hx hw
    have hthird : 3 ≤ ((s.ring e).inWindow e s.now ⟨some x, u⟩).wrongWindows := by
      rw [wrongWindows_inWindow hx]
      omega
    refine ⟨_, toneWindow_next he _, ?_⟩
    rw [if_pos (by simp [hthird, hst])]
    simp only [Option.getD_some]
    have hwindow := ring_modRing_same s e (Ring.inWindow e s.now ⟨some x, u⟩)
    obtain ⟨hring, hfound, hwrong, hraised, hsame⟩ := ringWrong_facts
      (s := s.modRing e (Ring.inWindow e s.now ⟨some x, u⟩)) (e := e) (by rw [hwindow]; exact hst) x
    rw [hring, hwindow]
    exact ⟨rfl, rfl, rfl, hfound, hwrong, hraised, (sameRings_modRing e s _).trans hsame, ringWrong_only _ e x⟩
  · intro s e u he hst hu ht
    obtain ⟨hring, hfound, hwrong, hraised, hsame⟩ := ringWrong_facts hst ((s.ring e).tone.getD 0xFF)
    refine ⟨_, trimLimit_next he hst hu ht, ?_⟩
    rw [hring]
    exact ⟨rfl, rfl, rfl, hfound, hwrong, hraised, hsame, ringWrong_only s e _⟩
  · intro s e x hst hr ht hx
    exact ⟨_, (relockSweepEnd_next hst hr ht).2 x hx, ring_modRing_same s e _, sameRings_modRing e s _, rfl⟩
  · intro s e hst hr ht hfew
    refine ⟨_, (relockSweepEnd_next hst hr ht).1, ?_⟩
    rw [relockFailed_again hfew]
    refine ⟨(ring_modRing_same s e _).trans ?_, sameRings_modRing e s _, rfl⟩
    rw [← hst]
  · intro s e hst hr ht hlast
    refine ⟨_, (relockSweepEnd_next hst hr ht).1, ?_⟩
    rw [relockFailed_last hlast]
    obtain ⟨hring, hraised, hcount, hsame⟩ := ringFailed_facts s e
    rw [hring]
    exact ⟨rfl, rfl, hraised, hcount, hsame, by simp only [State.ringFailed_kept], ringFailed_only s e⟩
  · intro s e hst h3
    obtain ⟨hring, hsame, r, k, n, a, honly⟩ := relocked_facts s e
    obtain ⟨g, hgo⟩ := letGo_only (s.relocked e) e
    refine ⟨_, relockVerified_confirmed hst h3, ?_⟩
    have hgone : ((s.relocked e).letGo e).ring e = (s.relocked e).ring e := ring_of_rings (by rw [hgo]) (by rw [hgo]) e
    rw [hgone, hring]
    exact ⟨rfl, rfl, rfl, rfl, rfl, hsame.trans (sameRings_of_rings (by rw [hgo]) e), by rw [hgo, honly], by rw [hgo, honly]⟩
  · intro s e hst hfew
    refine ⟨_, relockVerified_unconfirmed hst, ?_⟩
    rw [relockFailed_again hfew]
    exact ⟨ring_modRing_same s e _, sameRings_modRing e s _, rfl⟩
  · intro s e a ha hst ht
    exact ⟨_, relockRetry_next ha hst ht, ring_modRing_same s e _, sameRings_modRing e s _, rfl⟩
  · intro s slot lane hn hst
    obtain ⟨hstate, hbreadth, hsame⟩ := narrowing_facts s (laneKey slot lane)
    obtain ⟨haim, hwidth⟩ := Prod.ext_iff.mp hbreadth
    obtain ⟨hdropped, hwaits⟩ := Prod.ext_iff.mp hwidth
    exact ⟨_, laneNarrow_next hn hst, hstate, haim, hdropped, hwaits, hsame, narrowing_only s _⟩
  · intro s slot lane hn hst hfew
    obtain ⟨hlane, hraised, hsame, hlight⟩ := narrowed_facts hfew
    refine ⟨_, laneNarrowRetrain_next hn hst, ?_⟩
    change (s.narrowed (laneKey slot lane)).lane slot lane = _ at hlane
    rw [hlane]
    exact ⟨rfl, rfl, rfl, rfl, rfl, hraised, hsame, hlight, narrowed_only s _⟩
  · intro s e he
    obtain ⟨n, code, feed, hnext⟩ := elementSelect_next he
    exact ⟨_, hnext, (reg_setReg_ne (by decide) _).trans (reg_setReg_same _ _ _), reg_setReg_same _ _ _, rfl, rfl, rfl, rfl⟩

end Sys2Proof.Machine

/-! PROOF. O17: each integer atomic stores the result that R276 gives and answers the old value. -/

namespace Sys2Proof.Machine

/-- Whether the old value is the lesser, as MIN and MAX compare it (R276). -/
def oldIsLess (q : Req) (old : List Byte) : Bool :=
  if q.signed then decide (signedOf (8 * atomicSize q) (leNat old) <
    signedOf (8 * atomicSize q) (leNat (subBytes q.data 0 (atomicSize q))))
  else decide (leNat old < leNat (subBytes q.data 0 (atomicSize q)))

section
variable {q : Req} {old : List Byte}

theorem newValue_swap (hop : q.op = 0x2B) : newValue q old = subBytes q.data 0 (atomicSize q) := by
  rw [newValue, hop]
  rfl

theorem newValue_cas (hop : q.op = 0x2C) : newValue q old =
    if old = subBytes q.data (atomicSize q) (atomicSize q) then subBytes q.data 0 (atomicSize q) else old := by
  rw [newValue, hop]
  rfl

variable (hlen : old.length = atomicSize q)
include hlen

theorem newValue_add (hop : q.op = 0x28) : newValue q old =
    leBytes (atomicSize q) (leNat old + leNat (subBytes q.data 0 (atomicSize q))) := by
  rw [newValue, hop, ← hlen]
  rfl

theorem newValue_min (hop : q.op = 0x29) : newValue q old =
    if oldIsLess q old then old else subBytes q.data 0 (atomicSize q) := by
  rw [newValue, oldIsLess, hop, ← hlen]
  rfl

theorem newValue_max (hop : q.op = 0x2A) : newValue q old =
    if oldIsLess q old then subBytes q.data 0 (atomicSize q) else old := by
  rw [newValue, oldIsLess, hop, ← hlen]
  rfl

theorem newValue_or (hop : q.op = 0x2D) : newValue q old =
    leBytes (atomicSize q) (Nat.lor (leNat old) (leNat (subBytes q.data 0 (atomicSize q)))) := by
  rw [newValue, hop, ← hlen]
  rfl

theorem newValue_and (hop : q.op = 0x2E) : newValue q old =
    leBytes (atomicSize q) (Nat.land (leNat old) (leNat (subBytes q.data 0 (atomicSize q)))) := by
  rw [newValue, hop, ← hlen]
  rfl

end

/-- Settles O17: each integer atomic runs as every atomic does, and its result is the value of its own operation. -/
theorem integerAtomicsRun : Obligations.IntegerAtomicsRun := by
  unfold Obligations.IntegerAtomicsRun
  refine ⟨?_, ?_, ?_, ?_, ?_, ?_, ?_⟩
  · rintro s s1 s2 n p q old _ hq hy ht ho hl hd hop hr h1 rfl hs h2
    have hnew := newValue_add (State.length_loadRange h1) hop
    exact atomic_runs hq hy ht (by rw [hop]; rfl) hr h1 (by rw [hnew]; exact h2) (by rw [hop]; rfl) ho hl hd hs
  · rintro s s1 s2 n p q old _ _ hq hy ht ho hl hd hop hr h1 rfl hs rfl h2
    have hnew := newValue_min (State.length_loadRange h1) hop
    exact atomic_runs hq hy ht (by rw [hop]; rfl) hr h1 (by rw [hnew]; exact h2) (by rw [hop]; rfl) ho hl hd hs
  · rintro s s1 s2 n p q old _ _ hq hy ht ho hl hd hop hr h1 rfl hs rfl h2
    have hnew := newValue_max (State.length_loadRange h1) hop
    exact atomic_runs hq hy ht (by rw [hop]; rfl) hr h1 (by rw [hnew]; exact h2) (by rw [hop]; rfl) ho hl hd hs
  · rintro s s1 s2 n p q old _ hq hy ht ho hl hd hop hr h1 rfl hs h2
    have hnew := newValue_swap hop (old := old)
    exact atomic_runs hq hy ht (by rw [hop]; rfl) hr h1 (by rw [hnew]; exact h2) (by rw [hop]; rfl) ho hl hd hs
  · rintro s s1 s2 n p q old _ hq hy ht ho hl hd hop hr h1 rfl hs h2
    have hnew := newValue_cas hop (old := old)
    exact atomic_runs hq hy ht (by rw [hop]; rfl) hr h1 (by rw [hnew]; exact h2) (by rw [hop]; rfl) ho hl hd hs
  · rintro s s1 s2 n p q old _ hq hy ht ho hl hd hop hr h1 rfl hs h2
    have hnew := newValue_or (State.length_loadRange h1) hop
    exact atomic_runs hq hy ht (by rw [hop]; rfl) hr h1 (by rw [hnew]; exact h2) (by rw [hop]; rfl) ho hl hd hs
  · rintro s s1 s2 n p q old _ hq hy ht ho hl hd hop hr h1 rfl hs h2
    have hnew := newValue_and (State.length_loadRange h1) hop
    exact atomic_runs hq hy ht (by rw [hop]; rfl) hr h1 (by rw [hnew]; exact h2) (by rw [hop]; rfl) ho hl hd hs

end Sys2Proof.Machine

/-! PROOF. O51: the operands of a combined integer atomic, combined first and applied once, store what they store one after
another (R276, R282). -/

namespace Sys2Proof

/-! ### Little-endian numbers (R9) -/

@[simp] theorem length_leBytes (n v : Nat) : (leBytes n v).length = n := by
  induction n generalizing v with
  | zero => rfl
  | succ n ih => rw [leBytes, List.length_cons, ih]

theorem leNat_leBytes (n v : Nat) : leNat (leBytes n v) = v % 256 ^ n := by
  induction n generalizing v with
  | zero => rw [Nat.pow_zero, Nat.mod_one]; rfl
  | succ n ih =>
    rw [leBytes, leNat, ih, Nat.pow_succ', Nat.mod_mul, BitVec.toNat_ofNat]

/-- Only the low `n` bytes of a number count. -/
theorem leBytes_congr {n v w : Nat} (h : v % 256 ^ n = w % 256 ^ n) : leBytes n v = leBytes n w := by
  induction n generalizing v w with
  | zero => rfl
  | succ n ih =>
    rw [Nat.pow_succ', Nat.mod_mul, Nat.mod_mul] at h
    have hlow : v % 256 = w % 256 := by omega
    have hhigh : v / 256 % 256 ^ n = w / 256 % 256 ^ n := by omega
    rw [leBytes, leBytes, ih hhigh]
    congr 1
    exact BitVec.eq_of_toNat_eq (by simpa using hlow)

/-- Sums of the low bytes associate. -/
theorem leBytes_add_assoc (n a x y : Nat) :
    leBytes n (a + leNat (leBytes n (x + y))) = leBytes n (leNat (leBytes n (a + x)) + y) := by
  refine leBytes_congr ?_
  rw [leNat_leBytes, leNat_leBytes, Nat.add_mod_mod, Nat.mod_add_mod, Nat.add_assoc]

theorem leBytes_lor_assoc (n a x y : Nat) :
    leBytes n (Nat.lor a (leNat (leBytes n (Nat.lor x y)))) = leBytes n (Nat.lor (leNat (leBytes n (Nat.lor a x))) y) := by
  refine leBytes_congr ?_
  have h256 : 256 ^ n = 2 ^ (8 * n) := by rw [Nat.pow_mul]
  change (a ||| _) % _ = (_ ||| y) % _
  rw [leNat_leBytes, leNat_leBytes, h256, Nat.or_mod_two_pow, Nat.or_mod_two_pow, Nat.mod_mod, Nat.mod_mod,
    ← Nat.or_mod_two_pow, ← Nat.or_mod_two_pow]
  exact congrArg (· % _) (Nat.or_assoc a x y).symm

theorem leBytes_land_assoc (n a x y : Nat) :
    leBytes n (Nat.land a (leNat (leBytes n (Nat.land x y)))) =
      leBytes n (Nat.land (leNat (leBytes n (Nat.land a x))) y) := by
  refine leBytes_congr ?_
  have h256 : 256 ^ n = 2 ^ (8 * n) := by rw [Nat.pow_mul]
  change (a &&& _) % _ = (_ &&& y) % _
  rw [leNat_leBytes, leNat_leBytes, h256, Nat.and_mod_two_pow, Nat.and_mod_two_pow, Nat.mod_mod, Nat.mod_mod,
    ← Nat.and_mod_two_pow, ← Nat.and_mod_two_pow]
  exact congrArg (· % _) (Nat.and_assoc a x y).symm

end Sys2Proof

namespace Sys2Proof.Machine

/-! ### Lanes -/

theorem subBytes_flatten {w : Nat} {L : List (List Byte)} (h : ∀ l ∈ L, l.length = w) {j : Nat} (hj : j < L.length) :
    subBytes L.flatten (w * j) w = L[j] := by
  induction L generalizing j with
  | nil => exact absurd hj (Nat.not_lt_zero j)
  | cons l L ih =>
    have hl : l.length = w := h l List.mem_cons_self
    cases j with
    | zero => simp [subBytes, ← hl]
    | succ j =>
      have hdrop : (l ++ L.flatten).drop (w * (j + 1)) = L.flatten.drop (w * j) := by
        rw [Nat.mul_succ, Nat.add_comm, ← hl, List.drop_append]
        simp
      rw [List.flatten_cons, subBytes, hdrop]
      exact ih (fun m hm => h m (List.mem_cons_of_mem l hm)) (Nat.lt_of_succ_lt_succ hj)

theorem length_flatten_lanes {w : Nat} {L : List (List Byte)} (h : ∀ l ∈ L, l.length = w) :
    L.flatten.length = w * L.length := by
  rw [List.length_flatten, List.map_congr_left h, List.map_const', List.sum_replicate, smul_eq_mul, Nat.mul_comm]

theorem lanesOf_flatten {w : Nat} (hw : 0 < w) {L : List (List Byte)} (h : ∀ l ∈ L, l.length = w) :
    lanesOf w L.flatten = L := by
  have hlen : L.flatten.length / w = L.length := by rw [length_flatten_lanes h, Nat.mul_div_cancel_left _ hw]
  refine List.ext_getElem (by rw [lanesOf, List.length_map, List.length_range, hlen]) fun j _ hj => ?_
  simpa [lanesOf] using subBytes_flatten h hj

theorem length_lane {d : List Byte} {l : List Byte} {w : Nat} (h : l ∈ lanesOf w d) : l.length = w := by
  obtain ⟨i, hi, rfl⟩ := List.mem_map.mp h
  have hin : i < d.length / w := List.mem_range.mp hi
  have hend : w * (i + 1) ≤ d.length := (Nat.mul_le_mul_left w hin).trans (Nat.mul_div_le d.length w)
  rw [Nat.mul_succ] at hend
  rw [subBytes, List.length_take, List.length_drop]
  omega

/-- The 4-byte lanes of `old`, each increased by the operand's but for those to keep. -/
def laneSums (keep : Nat → Bool) (old operand : List Byte) : List (List Byte) :=
  (lanesOf 4 old).mapIdx fun j l => if keep j then l else leBytes 4 (leNat l + leNat (subBytes operand (4 * j) 4))

theorem length_of_mem_laneSums {keep : Nat → Bool} {old operand l : List Byte} (h : l ∈ laneSums keep old operand) :
    l.length = 4 := by
  obtain ⟨j, hj, rfl⟩ := List.mem_mapIdx.mp h
  split
  · exact length_lane (List.getElem_mem hj)
  · exact length_leBytes 4 _

@[simp] theorem length_laneSums (keep : Nat → Bool) (old operand : List Byte) :
    (laneSums keep old operand).length = old.length / 4 := by
  simp [laneSums, lanesOf]

theorem length_flatten_laneSums {keep : Nat → Bool} {old operand : List Byte} (h : old.length % 4 = 0) :
    (laneSums keep old operand).flatten.length = old.length := by
  rw [length_flatten_lanes fun _ => length_of_mem_laneSums, length_laneSums]
  omega

theorem getElem_laneSums (keep : Nat → Bool) {old operand : List Byte} {j : Nat} (hj : j < (laneSums keep old operand).length) :
    (laneSums keep old operand)[j] = if keep j then subBytes old (4 * j) 4
      else leBytes 4 (leNat (subBytes old (4 * j) 4) + leNat (subBytes operand (4 * j) 4)) := by
  simp [laneSums, lanesOf]

theorem subBytes_laneSums (keep : Nat → Bool) {old operand : List Byte} {j : Nat} (hj : j < old.length / 4) :
    subBytes (laneSums keep old operand).flatten (4 * j) 4 = if keep j then subBytes old (4 * j) 4
      else leBytes 4 (leNat (subBytes old (4 * j) 4) + leNat (subBytes operand (4 * j) 4)) := by
  rw [subBytes_flatten (fun _ => length_of_mem_laneSums) (by simpa using hj), getElem_laneSums]

/-- The lanes kept stay as they are; the others take both operands' lanes, in either grouping. -/
theorem laneSums_assoc (keep : Nat → Bool) {old x y : List Byte} (hx : x.length = old.length) :
    laneSums keep old (laneSums (fun _ => false) x y).flatten = laneSums keep (laneSums keep old x).flatten y := by
  refine List.ext_getElem (by simp [length_flatten_lanes fun _ => length_of_mem_laneSums]) fun j hj _ => ?_
  have hj : j < old.length / 4 := by simpa using hj
  rw [getElem_laneSums, getElem_laneSums, subBytes_laneSums _ (hx ▸ hj), subBytes_laneSums _ hj]
  cases keep j with
  | true => rfl
  | false => exact leBytes_add_assoc 4 _ _ _

/-! ### Operands combined -/

/-- Over values of `n` bytes, the operation `r` of the operands that `c` combines is `r` of the one and then of the other. -/
structure CombinesTo (n : Nat) (r c : List Byte → List Byte → List Byte) : Prop where
  length_result : ∀ {a x : List Byte}, a.length = n → x.length = n → (r a x).length = n
  length_combined : ∀ {x y : List Byte}, x.length = n → y.length = n → (c x y).length = n
  serial : ∀ {a x y : List Byte}, a.length = n → x.length = n → y.length = n → r a (c x y) = r (r a x) y

namespace CombinesTo
variable {n : Nat} {r c : List Byte → List Byte → List Byte}

theorem congr {r' c' : List Byte → List Byte → List Byte} (h : CombinesTo n r c)
    (hr : ∀ a x : List Byte, a.length = n → x.length = n → r' a x = r a x)
    (hc : ∀ x y : List Byte, x.length = n → y.length = n → c' x y = c x y) : CombinesTo n r' c' where
  length_result ha hx := by rw [hr _ _ ha hx]; exact h.length_result ha hx
  length_combined hx hy := by rw [hc _ _ hx hy]; exact h.length_combined hx hy
  serial ha hx hy := by
    rw [hc _ _ hx hy, hr _ _ ha (h.length_combined hx hy), hr _ _ ha hx, hr _ _ (h.length_result ha hx) hy]
    exact h.serial ha hx hy

theorem foldl (h : CombinesTo n r c) {old d : List Byte} {rest : List (List Byte)} (hold : old.length = n)
    (hd : ∀ x ∈ d :: rest, x.length = n) : r old (rest.foldl c d) = (d :: rest).foldl r old := by
  induction rest generalizing old d with
  | nil => rfl
  | cons y rest ih =>
    obtain ⟨hd, hrest⟩ := List.forall_mem_cons.mp hd
    obtain ⟨hy, hrest⟩ := List.forall_mem_cons.mp hrest
    calc r old (rest.foldl c (c d y)) = (c d y :: rest).foldl r old :=
          ih hold (List.forall_mem_cons.mpr ⟨h.length_combined hd hy, hrest⟩)
      _ = (y :: rest).foldl r (r old d) := by rw [List.foldl_cons, h.serial hold hd hy, List.foldl_cons]

end CombinesTo

theorem combinesTo_leBytes (n : Nat) {f : Nat → Nat → Nat}
    (h : ∀ a x y, leBytes n (f a (leNat (leBytes n (f x y)))) = leBytes n (f (leNat (leBytes n (f a x))) y)) :
    CombinesTo n (fun a x => leBytes n (f (leNat a) (leNat x))) fun a x => leBytes n (f (leNat a) (leNat x)) where
  length_result _ _ := length_leBytes n _
  length_combined _ _ := length_leBytes n _
  serial _ _ _ := h _ _ _

/-- The lesser of two values, the second where they are equal (R276). -/
def lesser (v : List Byte → Int) (a b : List Byte) : List Byte := if v a < v b then a else b

/-- The greater of two values, the first where they are equal (R276). -/
def greater (v : List Byte → Int) (a b : List Byte) : List Byte := if v a < v b then b else a

theorem lesser_assoc (v : List Byte → Int) (a x y : List Byte) :
    lesser v a (lesser v x y) = lesser v (lesser v a x) y := by
  unfold lesser
  split_ifs <;> grind

theorem greater_assoc (v : List Byte → Int) (a x y : List Byte) :
    greater v a (greater v x y) = greater v (greater v a x) y := by
  unfold greater
  split_ifs <;> grind

theorem combinesTo_choice (n : Nat) {f : List Byte → List Byte → List Byte} (hf : ∀ a b, f a b = a ∨ f a b = b)
    (h : ∀ a x y, f a (f x y) = f (f a x) y) : CombinesTo n f f where
  length_result {a x} ha hx := by obtain he | he := hf a x <;> rw [he] <;> assumption
  length_combined {a x} ha hx := by obtain he | he := hf a x <;> rw [he] <;> assumption
  serial _ _ _ := h _ _ _

theorem lesser_or (v : List Byte → Int) (a b : List Byte) : lesser v a b = a ∨ lesser v a b = b := by
  unfold lesser; split <;> simp

theorem greater_or (v : List Byte → Int) (a b : List Byte) : greater v a b = a ∨ greater v a b = b := by
  unfold greater; split <;> simp

theorem combinesTo_laneSums {n : Nat} (hn : n % 4 = 0) (keep : Nat → Bool) :
    CombinesTo n (fun a x => (laneSums keep a x).flatten) fun a x => (laneSums (fun _ => false) a x).flatten where
  length_result ha _ := (length_flatten_laneSums (ha ▸ hn)).trans ha
  length_combined hx _ := (length_flatten_laneSums (hx ▸ hn)).trans hx
  serial ha hx _ := congrArg List.flatten (laneSums_assoc keep (hx.trans ha.symm))

/-! ### The atomics that combine (R276, R282) -/

/-- A value as MIN and MAX compare it. -/
def comparedAs (signed : Bool) (a : List Byte) : Int := if signed then signedOf (8 * a.length) (leNat a) else leNat a

section
variable (signed : Bool) (skip : BitVec 4) {n : Nat} {a x : List Byte} (ha : a.length = n) (hx : x.length = n)
include ha

theorem atomicResult_add : atomicResult 0x28 signed skip a x [] = leBytes n (leNat a + leNat x) := by
  rw [← ha]; rfl

theorem atomicResult_or : atomicResult 0x2D signed skip a x [] = leBytes n (Nat.lor (leNat a) (leNat x)) := by
  rw [← ha]; rfl

theorem atomicResult_and : atomicResult 0x2E signed skip a x [] = leBytes n (Nat.land (leNat a) (leNat x)) := by
  rw [← ha]; rfl

theorem atomicResult_iadd32 : atomicResult 0x31 signed skip a x [] =
    (laneSums (fun j => decide (n = 8) && decide (j < 2) && skip.getLsbD j) a x).flatten := by
  rw [← ha]; rfl

include hx

theorem less_comparedAs :
    (if signed then decide (signedOf (8 * a.length) (leNat a) < signedOf (8 * a.length) (leNat x))
      else decide (leNat a < leNat x)) = decide (comparedAs signed a < comparedAs signed x) := by
  have hlen : x.length = a.length := hx.trans ha.symm
  cases signed with
  | true => simp [comparedAs, hlen]
  | false => simp [comparedAs]

theorem atomicResult_min : atomicResult 0x29 signed skip a x [] = lesser (comparedAs signed) a x := by
  change (if (if signed then _ else _) = true then a else x) = _
  rw [less_comparedAs signed ha hx]
  simp [lesser]

theorem atomicResult_max : atomicResult 0x2A signed skip a x [] = greater (comparedAs signed) a x := by
  change (if (if signed then _ else _) = true then x else a) = _
  rw [less_comparedAs signed ha hx]
  simp [greater]

end

/-- All atomics but CAS and the floating sums combine as they are applied one after another (R282). -/
theorem combinesTo_atomicResult {n : Nat} (hn : n % 4 = 0) {op : Nat}
    (hop : op ∈ [0x28, 0x29, 0x2A, 0x2B, 0x2D, 0x2E, 0x31]) (signed : Bool) (skip : BitVec 4) :
    CombinesTo n (fun a x => atomicResult op signed skip a x []) (combineOperand op signed) := by
  simp only [List.mem_cons, List.not_mem_nil, or_false] at hop
  rcases hop with rfl | rfl | rfl | rfl | rfl | rfl | rfl
  · exact (combinesTo_leBytes n (leBytes_add_assoc n)).congr (fun _ _ ha _ => atomicResult_add signed skip ha)
      fun _ _ hx _ => atomicResult_add signed 0 hx
  case inr.inl =>
    exact (combinesTo_choice n (lesser_or _) (lesser_assoc _)).congr (fun _ _ ha hx => atomicResult_min signed skip ha hx)
      fun _ _ ha hx => atomicResult_min signed 0 ha hx
  case inr.inr.inl =>
    exact (combinesTo_choice n (greater_or _) (greater_assoc _)).congr (fun _ _ ha hx => atomicResult_max signed skip ha hx)
      fun _ _ ha hx => atomicResult_max signed 0 ha hx
  case inr.inr.inr.inl =>
    exact combinesTo_choice n (fun _ _ => .inr rfl) fun _ _ _ => rfl
  case inr.inr.inr.inr.inl =>
    exact (combinesTo_leBytes n (leBytes_lor_assoc n)).congr (fun _ _ ha _ => atomicResult_or signed skip ha)
      fun _ _ hx _ => atomicResult_or signed 0 hx
  case inr.inr.inr.inr.inr.inl =>
    exact (combinesTo_leBytes n (leBytes_land_assoc n)).congr (fun _ _ ha _ => atomicResult_and signed skip ha)
      fun _ _ hx _ => atomicResult_and signed 0 hx
  case inr.inr.inr.inr.inr.inr =>
    refine (combinesTo_laneSums hn _).congr (fun _ _ ha _ => atomicResult_iadd32 signed skip ha) fun _ _ hx _ => ?_
    rw [combineOperand, atomicResult_iadd32 signed 0 hx]
    simp

/-- The old value that the `i`-th constituent gets is that of the ones before it, combined (R282). -/
theorem serialOlds_getElem? (q : Req) (d old : List Byte) (rest : List (List Byte)) {i : Nat} (hi : i ≤ rest.length) :
    (serialOlds q (d :: rest) old)[i]? = some (if i = 0 then old else
      atomicResult q.op q.signed q.skip old ((rest.take (i - 1)).foldl (combineOperand q.op q.signed) d) []) := by
  rw [serialOlds, List.getElem?_mapIdx, List.getElem?_eq_getElem (by simpa using Nat.lt_succ_of_le hi)]
  cases i with
  | zero => rfl
  | succ i => simp

/-- Settles O51: applying the operand that the constituents combine to is applying them one after another (`CombinesTo.foldl`), of
all of them and of the first `i`. -/
theorem combinedAtomicsSerial : Obligations.CombinedAtomicsSerial := by
  unfold Obligations.CombinedAtomicsSerial
  intro q old d rest hop hlen hdata
  have hn : old.length % 4 = 0 := by omega
  have h := combinesTo_atomicResult hn hop q.signed q.skip
  refine ⟨h.foldl rfl hdata, fun i hi => ?_⟩
  rw [serialOlds_getElem? q d old rest hi]
  cases i with
  | zero => rfl
  | succ i =>
    have htake : ∀ x ∈ d :: rest.take i, x.length = old.length := fun x hx =>
      hdata x ((List.take_subset (i + 1) (d :: rest)) hx)
    exact congrArg some (h.foldl rfl htake)

end Sys2Proof.Machine

/-! PROOF. O52 fails: the clause for the line write over a memory without errors does not ask that the byte map keeps its cells
in order (`memoryCanonical`), and a merged byte 0 written into a map out of order does not take the place of the cell that
holds the old byte. -/

namespace Sys2Proof.Machine

/-- A STORE of the one byte 0 at 0x80, in line 1. -/
def storeZero : Req := { blankReq with op := 0x21, addr := 0x80, data := [0] }

/-- The byte that both STOREs write is 0. -/
theorem mergedBytes_storeZero : (mergedBytes [storeZero, storeZero]).getD 0 none = some 0 := by decide

/-- The old byte is still what a read of 0x80 finds after the line write. -/
theorem read_applyEntry_lineOutOfOrder :
    (lineOutOfOrder.applyEntry 1 [storeZero, storeZero]).2.memory.cells.read 0x80 = 7 := by decide +kernel

/-- Refutes O52: with the cells of two addresses out of order in the byte map (`lineOutOfOrder`), two STOREs of the byte 0 at the
second merge into a line write that drops it, and the old 7 stays. -/
theorem not_storesMergeInOrder : ¬ Obligations.StoresMergeInOrder := by
  unfold Obligations.StoresMergeInOrder
  rintro ⟨-, -, hline⟩
  have hexists : lineOutOfOrder.targetExists storeZero = true := by decide +kernel
  have hpopulated : lineOutOfOrder.extentPopulated (128 * 1) 128 = true := by decide +kernel
  have hparts : ∀ p ∈ [storeZero, storeZero], p.data ≠ [] ∧ p.addr / 128 = 1 ∧ p.addr % 128 + p.data.length ≤ 128 := by
    decide
  obtain ⟨t, happly, hread, -⟩ := hline lineOutOfOrder 1 storeZero storeZero [] memoryClean_lineOutOfOrder rfl hexists
    hpopulated hparts
  have ht : t = (lineOutOfOrder.applyEntry 1 [storeZero, storeZero]).2 := (congrArg Prod.snd happly).symm
  have hzero := hread 0 (by decide)
  rw [ht, mergedBytes_storeZero] at hzero
  exact absurd (read_applyEntry_lineOutOfOrder.symm.trans hzero) (by decide)

end Sys2Proof.Machine

/-! PROOF. O11: a message that finds room in its inbox, and the commits of inboxes, routes, the membership mask, the port map and
windows. -/

namespace Sys2Proof.Machine

/-! ### Entries that a commit puts in force (R420) -/

theorem commitRegs_only (s : State) (ks : List Nat) : s.commitRegs ks = { s with regs := (s.commitRegs ks).regs } := by
  apply State.ext_of <;> simp only [State.commitRegs_kept]

/-- A commit of the shadows of some entries leaves the others as they are. -/
theorem reg_commitRegs_ne (s : State) {ks : List Nat} {j : Nat} (h : j ∉ ks) : (s.commitRegs ks).reg j = s.reg j := by
  induction ks generalizing s with
  | nil => rfl
  | cons k ks ih =>
    obtain ⟨hk, hks⟩ := not_or.mp (mt List.mem_cons.mpr h)
    exact (ih (s.setReg k (s.shadow k)) hks).trans (reg_setReg_ne hk _)

/-- A commit puts each of its shadows in force. -/
theorem reg_commitRegs_mem (s : State) {ks : List Nat} (hk : ks.Nodup) {j : Nat} (h : j ∈ ks) :
    (s.commitRegs ks).reg j = s.shadow j := by
  induction ks generalizing s with
  | nil => exact absurd h List.not_mem_nil
  | cons k ks ih =>
    obtain ⟨hnot, hnodup⟩ := List.nodup_cons.mp hk
    have hcons : s.commitRegs (k :: ks) = (s.setReg k (s.shadow k)).commitRegs ks := rfl
    rw [hcons]
    by_cases hj : j = k
    · rw [hj, reg_commitRegs_ne _ hnot, reg_setReg_same]
    · rw [ih _ hnodup ((List.mem_cons.mp h).resolve_left hj), State.shadow, State.shadow, reg_setReg_ne hj]
      rfl

/-! ### Delivery (R305, R311) -/

theorem wire_only (s : State) (o : Output) :
    s.wire o = { s with domain := (s.wire o).domain, control := (s.wire o).control } := by
  apply State.ext_of <;> simp only [State.wire_kept]

/-- A message that was delivered ends at its origin with no fault: it is tracked no longer, or its MSG_DONE goes back (R305). -/
theorem sendDone_delivered (s : State) (id : Nat) : ∃ k d c, s.sendDone id 0 =
    { s with messages := { s.messages with tracked := k }, domain := d, control := c } := by
  unfold State.sendDone
  split
  · unfold State.messageEnded
    split
    · exact ⟨_, _, _, rfl⟩
    · exact ⟨_, _, _, rfl⟩
  · split
    · exact ⟨_, _, _, wire_only s _⟩
    · exact ⟨_, _, _, rfl⟩
  · exact ⟨_, _, _, rfl⟩

theorem toTower_inboxReleased (s : State) (n t : Nat) (i : Inbox) :
    (s.inboxReleased n t i).2.messages.toTower = s.messages.toTower := by
  unfold State.inboxReleased
  dsimp only
  split
  · rfl
  · split
    · rfl
    · simp only [State.raise_kept]
      rfl

theorem messageDelivery_next {s s1 s2 : State} {w rel count : Nat} {m : Message} {rest : List Message} {i : Inbox}
    (ht : s.messages.toTower.get [] w = m :: rest) (hd : (s.die (0x10 + w)).state = .ready)
    (h1 : s1 = { s with messages := { s.messages with toTower := s.messages.toTower.set w rest } })
    (hi : SMap.lookup s.messages.inboxes.entries m.inbox = some i) (hfit : m.payload.length ≤ slotSize i.code - 32)
    (h2 : s1.inboxReleased m.inbox w i = (rel, s2)) (hc : count = field (s2.held i.base 8) 0 8)
    (hroom : (2 ^ 64 + count - rel) % 2 ^ 64 + 1 < i.slots) : exec (.messageDelivery w) s =
      .next (((s2.writeArea (i.base + 128 + slotSize i.code * (count % i.slots))
        (s2.messageRecord m (s2.stampAt (0x1000 + w)))).writeArea i.base (leBytes 8 (count + 1))).sendDone (messageId m) 0) := by
  change execMessageDelivery w s = _
  subst h1 hc
  simp only [execMessageDelivery, ht, hd, ne_eq, not_true_eq_false, if_false, hi, State.deliverTo, Nat.not_lt.mpr hfit, h2,
    hroom, if_true]

/-! ### Commits -/

/-- The entries of an inbox's load (R308). -/
def inboxKeys : List Nat := [0x840001, 0x840002, 0x840003, 0x840004, 0x840005]

/-- The state once the inbox that the shadows describe is open (R308). -/
def State.inboxOpened (s : State) : State :=
  let u := ((s.setReg 0x840006 0).commitRegs inboxKeys).wipeRange (s.shadow 0x840003)
    (inboxArea (s.shadow 0x840004) (s.shadow 0x840005))
  { u with messages := { u.messages with inboxes := u.messages.inboxes.set (s.shadow 0x840001) {
    owner := s.shadow 0x840002, base := s.shadow 0x840003, code := s.shadow 0x840004, slots := s.shadow 0x840005 } } }

theorem inboxCommit_opens {s : State} (ho : s.shadow 0x840002 ≠ 0xFFFF)
    (hst : s.inboxStatus (s.shadow 0x840001) (s.shadow 0x840002) (s.shadow 0x840003) (s.shadow 0x840004)
      (s.shadow 0x840005) = 0) : exec (.inboxCommit 1) s = .next s.inboxOpened := by
  change Host.Outcome.next (s.inboxCommitOp 1).2 = _
  simp only [State.inboxCommitOp, hst, ho]
  rfl

/-- The state once the inbox that the shadows name is closed (R308). -/
def State.inboxClosed (s : State) : State :=
  let u := (s.commitRegs inboxKeys).setReg 0x840006 0
  { u with messages := { u.messages with inboxes := u.messages.inboxes.dropKeys fun k => k = s.shadow 0x840001 } }

theorem inboxCommit_closes {s : State} (ho : s.shadow 0x840002 = 0xFFFF) :
    exec (.inboxCommit 1) s = .next s.inboxClosed := by
  change Host.Outcome.next (s.inboxCommitOp 1).2 = _
  simp only [State.inboxCommitOp, ho]
  rfl

theorem routeCommit_next {s : State} (h : s.routeStatus (routeRows (s.blobShadow 0x830001)) = 0) :
    exec (.routeCommit 1) s = .next { (s.setReg 0x830002 0).setBlob 0x830001 (s.blobShadow 0x830001) with
      messages := { s.messages with routes := routeRows (s.blobShadow 0x830001) } } := by
  change Host.Outcome.next (s.routeCommitOp 1).2 = _
  simp only [State.routeCommitOp, h]
  rfl

theorem agreementCommit_next {s : State} (h : s.maskShadow = s.properMask) : exec (.agreementCommit 1) s =
    .next (((s.commitRegs [0x820001, 0x820002]).setReg 0x820004 s.maskShadow).setReg 0x820005 0) := by
  change Host.Outcome.next (s.agreementCommitOp 1).2 = _
  simp only [State.agreementCommitOp, h, ne_eq, not_true_eq_false, if_false]

theorem domainCommit_next {s : State} (h : s.portMapStatus (portMapRows s.portMapShadow) = 0) :
    exec (.domainCommit 1) s = .next { s.setReg 0x800102 0 with domain := { s.domain with
      portMap := ⟨(portMapRows s.portMapShadow).mapIdx fun p r => (p, r)⟩ } } := by
  change Host.Outcome.next (s.domainCommitOp 1).2 = _
  simp only [State.domainCommitOp, h]
  rfl

/-- The state once a window is loaded (R272). -/
def State.windowLoaded (s : State) : State :=
  let u := s.setReg 0x810004 0
  let w := (windowOfPayload (s.blobShadow 0x810003)).loaded
  { (u.commitRegs [0x810001, 0x810002]).setBlob 0x810003 (s.blobShadow 0x810003) with domain := { u.domain with
    windows := u.domain.windows.set (windowKey (s.shadow 0x810001) (s.shadow 0x810002)) w } }

theorem windowCommit_next {s : State} (hx : (s.ctx (s.shadow 0x810001)).state ≠ .closed)
    (h : s.windowStatus (s.blobShadow 0x810003) = 0) : exec (.windowCommit 1) s = .next s.windowLoaded := by
  change Host.Outcome.next (s.windowCommitOp 1).2 = _
  simp only [State.windowCommitOp, h, hx, ne_eq, not_true_eq_false, if_false]
  rfl

/-- A table of consecutive keys gives each row at its place. -/
theorem lookup_mapIdx {α : Type} (l : List α) (i k : Nat) :
    SMap.lookup (l.mapIdx fun j a => (i + j, a)) (i + k) = l[k]? := by
  induction l generalizing i k with
  | nil => rfl
  | cons a l ih =>
    rw [List.mapIdx_cons, SMap.lookup]
    cases k with
    | zero => exact if_pos rfl
    | succ k =>
      have hne : i + 0 ≠ i + (k + 1) := by omega
      have hshift : (l.mapIdx fun j b => (i + (j + 1), b)) = l.mapIdx fun j b => (i + 1 + j, b) :=
        congrArg (List.mapIdx · l) (by funext j b; rw [Nat.add_assoc, Nat.add_comm 1 j])
      rw [if_neg hne, hshift, show i + (k + 1) = i + 1 + k by omega, ih, List.getElem?_cons_succ]

theorem get_mapIdx {α : Type} (d e : α) {l : List α} {k : Nat} (hk : k < l.length) :
    SMap.get d ⟨l.mapIdx fun j a => (j, a)⟩ k = l.getD k e := by
  have h := lookup_mapIdx l 0 k
  simp only [Nat.zero_add] at h
  simp [SMap.get, h, hk]

/-- Settles O11: the delivery puts the record at COUNT's slot and ends with status 0, which faults nothing; each commit by the state
that it answers. -/
theorem inboxesDeliver : Obligations.InboxesDeliver := by
  unfold Obligations.InboxesDeliver
  refine ⟨?_, ?_, ?_, ?_, ?_, ?_, ?_⟩
  · intro s s1 s2 s3 w rel count m rest i ht hd h1 hi hfit h2 hc hroom h3
    refine ⟨_, messageDelivery_next ht hd h1 hi hfit h2 hc hroom, ?_⟩
    rw [← h3]
    obtain ⟨k, d, c, hdone⟩ := sendDone_delivered s3 (messageId m)
    have htower : s3.messages.toTower.get [] w = rest := by
      have h := congrArg (·.2.messages.toTower) h2
      simp only [toTower_inboxReleased] at h
      rw [h3]
      simp only [State.writeArea_kept]
      rw [← h, h1]
      exact SMap.get_set_same _ _ _ _
    rw [hdone]
    exact ⟨rfl, htower, rfl, rfl⟩
  · rintro s n owner base code slots _ rfl rfl rfl rfl rfl ho hst
    refine ⟨_, inboxCommit_opens ho hst, ?_, fun k hk => ?_, fun a => ?_, ?_, ?_⟩
    · simp only [State.inboxOpened, SMap.set, SMap.lookup_insert_same]
    · simp only [State.inboxOpened, SMap.set, SMap.lookup_insert_ne hk, State.wipeRange_kept, State.commitRegs_kept]
      rfl
    · rw [State.inboxOpened, commitRegs_only]
      exact Mem.read_clearRange _ _ _ a
    · have hk : 0x840006 ∉ inboxKeys := by decide
      exact (reg_commitRegs_ne (s.setReg 0x840006 0) hk).trans (reg_setReg_same _ _ _)
    · rw [State.inboxOpened, commitRegs_only]
      rfl
  · rintro s n rfl ho
    refine ⟨_, inboxCommit_closes ho, ?_, fun k hk => ?_, ?_, reg_setReg_same _ _ _, ?_⟩
    · simp [State.inboxClosed, SMap.lookup_dropKeys]
    · simp [State.inboxClosed, SMap.lookup_dropKeys, hk]
    · simp [State.inboxClosed]
    · rw [State.inboxClosed, commitRegs_only]
      rfl
  · intro s h
    exact ⟨_, routeCommit_next h, rfl, reg_setReg_same s _ _, rfl⟩
  · intro s h
    have hmask : ∀ k, k ≠ 0x820005 → k ≠ 0x820004 → k ∈ [0x820001, 0x820002] →
        (((s.commitRegs [0x820001, 0x820002]).setReg 0x820004 s.maskShadow).setReg 0x820005 0).reg k = s.shadow k :=
      fun k h5 h4 hk => (reg_setReg_ne h5 _).trans ((reg_setReg_ne h4 _).trans (reg_commitRegs_mem s (by decide) hk))
    refine ⟨_, agreementCommit_next h, ?_, ?_, ?_, reg_setReg_same _ _ _, ?_⟩
    · exact hmask 0x820001 (by decide) (by decide) (by decide)
    · exact hmask 0x820002 (by decide) (by decide) (by decide)
    · exact (reg_setReg_ne (by decide) _).trans (reg_setReg_same _ _ _)
    · rw [commitRegs_only]
      rfl
  · intro s h
    refine ⟨_, domainCommit_next h, fun p hp => ?_, ?_, ?_, ?_⟩
    · exact get_mapIdx _ _ (by simpa [portMapRows] using hp)
    · exact SMap.get_set_same _ _ _ _
    · rfl
    · rfl
  · rintro s x n rfl rfl hx h
    refine ⟨_, windowCommit_next hx h, SMap.get_set_same _ _ _ _, fun k hk => SMap.get_set_ne _ _ hk _, ?_, rfl, ?_⟩
    · have hk : 0x810004 ∉ [0x810001, 0x810002] := by decide
      exact (reg_commitRegs_ne (s.setReg 0x810004 0) hk).trans (reg_setReg_same _ _ _)
    · rw [State.windowLoaded, commitRegs_only]
      rfl

end Sys2Proof.Machine

/-! PROOF. What sending on a fibre port leaves of it (R191, R264): O12 to O15 read the ports through these laws. -/

namespace Sys2Proof.Machine

/-! ### Whether a port can send (R195, R264) -/

/-- Two ports that are equal in all that decides whether a packet can leave. -/
structure Port.sendsAs (k l : Port) : Prop where
  retraining : l.retraining = k.retraining
  training : l.state = .training ↔ k.state = .training
  replay : l.replay = k.replay
  spent : l.spent = k.spent
  credited : l.credited = k.credited
  waiting : l.waiting = k.waiting

theorem Port.sendsAs.refl (k : Port) : k.sendsAs k := ⟨rfl, Iff.rfl, rfl, rfl, rfl, rfl⟩

theorem Port.sendsAs.trans {k l m : Port} (h : k.sendsAs l) (g : l.sendsAs m) : k.sendsAs m :=
  ⟨g.retraining.trans h.retraining, g.training.trans h.training, g.replay.trans h.replay, g.spent.trans h.spent,
    g.credited.trans h.credited, g.waiting.trans h.waiting⟩

/-- Whether an output can leave depends on its own port. -/
theorem sends_of_port {s t : State} {o : Output} {p vc n : Nat} (hf : portFlits o = some (p, vc, n))
    (hm : t.domain.portMap = s.domain.portMap) (h : (s.port p).sendsAs (t.port p)) : t.sends o = s.sends o := by
  have hrole : t.portRole p = s.portRole p := by rw [State.portRole, State.portRole, hm]
  simp only [State.sends, hf, State.portRoom, hrole, h.retraining, h.training, h.replay, h.spent, h.credited, h.waiting,
    ne_eq]

/-! ### What is sent at once -/

/-- A port that has sent an output of `n` flits on a VC. -/
def Port.took (vc n : Nat) (o : Output) (k : Port) : Port :=
  { k with
    nextSeq := (k.nextSeq + n) % 65536
    spent := k.spent.set vc ((k.spent.get 0 vc + n) % 65536)
    replay := k.replay ++ [(k.nextSeq, n, o)] }

/-- The state once port `p` has sent an output. -/
def State.sent (s : State) (p vc n : Nat) (o : Output) : State :=
  ({ s with control := { s.control with wire := s.control.wire ++ [o] } } : State).modPort p (Port.took vc n o)

theorem wire_sent {s : State} {o : Output} {p vc n : Nat} (hf : portFlits o = some (p, vc, n))
    (hd : (s.port p).state ≠ .down) (hs : s.sends o = true) : s.wire o = s.sent p vc n o := by
  simp only [State.wire, hf, if_neg hd, hs, if_true]
  rfl

theorem port_sent_same (s : State) (p vc n : Nat) (o : Output) : (s.sent p vc n o).port p = (s.port p).took vc n o :=
  (State.port_modPort _ p p _).trans (if_pos rfl)

theorem port_sent_ne (s : State) {p q : Nat} (h : q ≠ p) (vc n : Nat) (o : Output) : (s.sent p vc n o).port q = s.port q :=
  (State.port_modPort _ p q _).trans (if_neg h)

/-! ### A port that only sends -/

/-- A port but for what its own sending changes. -/
def Port.idle (k : Port) : Port := { k with nextRid := 0, nextSeq := 0, spent := ⟨[]⟩, replay := [], waiting := [] }

/-- From `s` to `t` port `p` only sends: what it sends, and how far it is with that, is all that changes of it, and no other port
changes, nor any reply cache. -/
structure onlySends (p : Nat) (s t : State) : Prop where
  idle : (t.port p).idle = (s.port p).idle
  ports : samePorts p s t
  replies : t.domain.replies = s.domain.replies

namespace onlySends
variable {p : Nat}

theorem refl (s : State) : onlySends p s s := ⟨rfl, fun _ _ => rfl, rfl⟩

theorem trans {s t u : State} (h : onlySends p s t) (g : onlySends p t u) : onlySends p s u :=
  ⟨g.idle.trans h.idle, fun q hq => (g.ports q hq).trans (h.ports q hq), g.replies.trans h.replies⟩

theorem of_domain {s t : State} (h : t.domain = s.domain) : onlySends p s t := by
  refine ⟨?_, fun q _ => ?_, ?_⟩
  · rw [State.port, State.port, h]
  · rw [h]
  · rw [h]

theorem modPort (s : State) {f : Port → Port} (h : ∀ k, (f k).idle = k.idle) : onlySends p s (s.modPort p f) := by
  refine ⟨?_, samePorts_modPort p s f, rfl⟩
  rw [State.port_modPort, if_pos rfl]
  exact h _

theorem modOutstanding (s : State) (h : Nat) (f : Outstanding → Outstanding) : onlySends p s (s.modOutstanding h f) :=
  ⟨rfl, fun _ _ => rfl, rfl⟩

theorem wire (s : State) {o : Output} {vc n : Nat} (hf : portFlits o = some (p, vc, n)) : onlySends p s (s.wire o) := by
  simp only [State.wire, hf]
  split
  · exact refl s
  · split
    · refine trans (of_domain ?_) (modPort _ ?_)
      · rfl
      · exact fun _ => rfl
    · refine modPort s ?_
      exact fun _ => rfl

theorem sendOutstanding (s : State) (o : Outstanding) : onlySends o.port s (s.sendOutstanding o) := by
  have hwire : ∀ (u : State) (r : Req), onlySends o.port u ((u.wire (.request o.port r)).countReg 0x801101 64 1) :=
    fun u r => (wire u rfl).trans (of_domain rfl)
  unfold State.sendOutstanding
  split
  · exact refl s
  · split
    · exact (modOutstanding s _ _).trans (hwire _ _)
    · split
      · exact (modOutstanding s _ _).trans (hwire _ _)
      · split
        · exact refl s
        · have hrid : onlySends o.port s (s.modPort o.port fun k => { k with nextRid := k.nextRid + 1 }) :=
            modPort s fun _ => rfl
          exact (hrid.trans (modOutstanding _ _ _)).trans (hwire _ _)

theorem foldl {α : Type} {f : State → α → State} (h : ∀ s a, onlySends p s (f s a)) (l : List α) (s : State) :
    onlySends p s (l.foldl f s) := by
  induction l generalizing s with
  | nil => exact refl s
  | cons a l ih => exact (h s a).trans (ih (f s a))

theorem sendWaiting (s : State) : onlySends p s (s.sendWaiting p) := by
  refine foldl (fun t o => ?_) _ s
  dsimp only
  split
  · next h =>
    have hp : o.port = p := by simpa using (Bool.and_eq_true_iff.mp h).1
    exact hp ▸ sendOutstanding t o
  · exact refl t

end onlySends

/-! ### What arrives (R191) -/

theorem port_heard (s : State) (p vc n : Nat) : (s.heard p vc n).port p =
    { s.port p with
      rxSeq := ((s.port p).rxSeq + n) % 65536
      freed := (s.port p).freed.set vc (((s.port p).freed.get 0 vc + n) % 65536) } :=
  (State.port_modPort s p p _).trans (if_pos rfl)

theorem state_heard (s : State) (p vc n q : Nat) : ((s.heard p vc n).port q).state = (s.port q).state := by
  by_cases h : q = p
  · rw [h, port_heard]
  · exact congrArg Port.state ((State.port_modPort s p q _).trans (if_neg h))

theorem samePorts_heard (s : State) (p vc n : Nat) : samePorts p s (s.heard p vc n) := samePorts_modPort p s _

theorem sendsAs_heard (s : State) (p vc n q : Nat) : (s.port q).sendsAs ((s.heard p vc n).port q) := by
  by_cases h : q = p
  · rw [h, port_heard]
    exact ⟨rfl, Iff.rfl, rfl, rfl, rfl, rfl⟩
  · rw [show (s.heard p vc n).port q = s.port q from (State.port_modPort s p q _).trans (if_neg h)]
    exact .refl _

theorem sends_heard (s : State) (p vc n : Nat) {o : Output} {q v m : Nat} (hf : portFlits o = some (q, v, m)) :
    (s.heard p vc n).sends o = s.sends o :=
  sends_of_port hf rfl (sendsAs_heard s p vc n q)

theorem samePorts.trans {p : Nat} {s t u : State} (h : samePorts p s t) (g : samePorts p t u) : samePorts p s u :=
  fun q hq => (g q hq).trans (h q hq)

theorem samePorts_of_domain {p : Nat} {s t : State} (h : t.domain.ports = s.domain.ports) : samePorts p s t :=
  fun q _ => by rw [h]

theorem samePorts_sent (s : State) (p vc n : Nat) (o : Output) : samePorts p s (s.sent p vc n o) := fun _ hq =>
  SMap.get_modify_ne _ _ _ hq _

end Sys2Proof.Machine

/-! PROOF. O12: joins, leaves and digests, each by the port that its command leaves (R317 to R320). -/

namespace Sys2Proof.Machine

/-! ### Lost targets (R292, R293) -/

/-- A peer's port as the peer is declared lost, before its contexts stop (R293 step 2). -/
def State.portLost (s : State) (p : Nat) : State :=
  ((s.setPortState p .lost).modPort p fun k => { k with back := none, resendDue := false, waiting := [] }).freezePort p

theorem port_portLost (s : State) (p : Nat) : (s.portLost p).port p =
    { s.port p with state := .lost, changed := s.now, back := none, resendDue := false, waiting := [] } := by
  change ((s.setPortState p .lost).modPort p _).port p = _
  rw [State.port_modPort, if_pos rfl, State.setPortState, State.port_modPort, if_pos rfl]

theorem samePorts_portLost (s : State) (p : Nat) : samePorts p s (s.portLost p) :=
  (samePorts_modPort p s _).trans (samePorts_modPort p (s.setPortState p .lost) _)

theorem frozen_portLost (s : State) (p : Nat) : ∀ o ∈ (s.portLost p).domain.outstanding, o.port = p → o.frozen = true := by
  intro o ho hp
  obtain ⟨u, -, rfl⟩ := List.mem_map.mp ho
  by_cases hu : u.port = p
  · rw [if_pos hu]
  · rw [if_neg hu] at hp
    exact absurd hp hu

theorem domain_foldl_beginStop (l : List Nat) (s : State) : (l.foldl (fun s x => s.beginStop x) s).domain = s.domain := by
  induction l generalizing s with
  | nil => rfl
  | cons x l ih =>
    rw [List.foldl_cons, ih]
    simp only [State.beginStop_kept]

theorem domain_declareLost {s : State} {p : Nat} (h : (s.port p).state ≠ .lost) :
    (s.declareLost p).domain = (s.portLost p).domain := by
  rw [State.declareLost, if_neg h]
  dsimp only
  rw [domain_foldl_beginStop]
  simp only [State.raise_kept]
  rfl

theorem declareLost_only (s : State) (p : Nat) : s.declareLost p = { s with
    domain := (s.declareLost p).domain
    coll := (s.declareLost p).coll
    dbg := (s.declareLost p).dbg
    regs := (s.declareLost p).regs
    control := (s.declareLost p).control
    ctxs := (s.declareLost p).ctxs } := by
  apply State.ext_of <;> simp only [State.declareLost_kept]

/-- A port whose domain is that of a lost target: LOST, its requests frozen, the other ports as they were. -/
theorem lost_of_domain {s t : State} {p : Nat} (h : t.domain = (s.portLost p).domain) :
    t.port p = { s.port p with state := .lost, changed := s.now, back := none, resendDue := false, waiting := [] } ∧
    (∀ o ∈ t.domain.outstanding, o.port = p → o.frozen = true) ∧ samePorts p s t := by
  refine ⟨?_, ?_, fun q hq => ?_⟩
  · rw [State.port, h]
    exact port_portLost s p
  · rw [h]
    exact frozen_portLost s p
  · rw [h]
    exact samePorts_portLost s p q hq

/-! ### HELLO and the join (R317) -/

theorem localHello_of {s t : State} (hr : t.regs = s.regs) (hf : t.clocks.fenced = s.clocks.fenced) :
    t.localHello = s.localHello := by
  have hreg := reg_of_regs hr
  simp only [State.localHello, State.localDigest, State.fabricBlock, State.memberMask, State.deviceId, State.domainId, hreg,
    hr, hf]

/-- The status of a join or leave is no part of the HELLO. -/
theorem localHello_setStatus (s : State) (v : Nat) : (s.setReg 0x820103 v).localHello = s.localHello := by
  have hreg : ∀ k, k ≠ 0x820103 → (s.setReg 0x820103 v).reg k = s.reg k := fun _ h => reg_setReg_ne h v
  have hmask : SMap.lookup (s.setReg 0x820103 v).regs.entries 0x820004 = SMap.lookup s.regs.entries 0x820004 :=
    SMap.lookup_insert_ne (by decide) _ _
  have hclocks : (s.setReg 0x820103 v).clocks = s.clocks := rfl
  simp only [State.localHello, State.localDigest, State.fabricBlock, State.memberMask, State.deviceId, State.domainId, hmask,
    hclocks]
  rw [hreg 0x800001 (by decide), hreg 0x820001 (by decide), hreg 0x820002 (by decide), hreg 0x820003 (by decide),
    hreg 0x801002 (by decide), hreg 0x801003 (by decide), hreg 0x801004 (by decide)]

/-- The state as a port's join begins, its HELLO not yet sent (R317 step 1). -/
def State.joinBegun (s : State) (p : Nat) : State :=
  ((s.modPort p fun k => { k with
    lostJoin := decide (k.state = .lost), helloDue := false, asked := k.peerHello.isNone }).setPortState p .joining).modPort p
      fun k => { k with helloAt := s.now }

theorem port_joinBegun (s : State) (p : Nat) : (s.joinBegun p).port p = { s.port p with
    lostJoin := decide ((s.port p).state = .lost)
    helloDue := false
    asked := (s.port p).peerHello.isNone
    state := .joining
    changed := s.now
    helloAt := s.now } := by
  simp only [State.joinBegun, State.setPortState, State.port_modPort, if_true]
  rfl

theorem samePorts_joinBegun (s : State) (p : Nat) : samePorts p s (s.joinBegun p) :=
  (samePorts_modPort p s _).trans ((samePorts_modPort p _ _).trans (samePorts_modPort p _ _))

theorem startJoin_sent {s : State} {p : Nat} (hs : (s.joinBegun p).sends (.hello p s.localHello) = true) :
    s.startJoin p = (s.joinBegun p).sent p 4 1 (.hello p s.localHello) :=
  wire_sent rfl (by rw [port_joinBegun]; exact PortState.noConfusion) hs

/-- A join that begins: the port is JOINING and its HELLO has left. -/
theorem startJoin_facts {s : State} {p : Nat} (ht : (s.port p).state ≠ .training)
    (hs : s.sends (.hello p s.localHello) = true) : ∃ k, s.startJoin p = { s with
      domain := { s.domain with ports := k }
      control := { s.control with wire := s.control.wire ++ [.hello p s.localHello] } } ∧
    (k.get {} p).state = .joining ∧ (k.get {} p).helloAt = s.now ∧
    ∀ q, q ≠ p → k.get {} q = s.domain.ports.get {} q := by
  have hsame : (s.port p).sendsAs ((s.joinBegun p).port p) := by
    rw [port_joinBegun]
    exact ⟨rfl, by simp [ht], rfl, rfl, rfl, rfl⟩
  have hport := port_sent_same (s.joinBegun p) p 4 1 (.hello p s.localHello)
  rw [port_joinBegun] at hport
  have hsends := sends_of_port (s := s) (t := s.joinBegun p) (o := .hello p s.localHello) rfl rfl hsame
  exact ⟨_, startJoin_sent (hsends.trans hs), congrArg Port.state hport, congrArg Port.helloAt hport,
    (samePorts_joinBegun s p).trans (samePorts_sent _ p 4 1 _)⟩

/-- A port whose HELLO matched, before what waited is sent (R317 step 5). -/
def State.cameUp (s : State) (p : Nat) (h : Hello) : State :=
  ((s.clearPair p).setPortState p .up).modPort p fun k => { k with
    lostJoin := false
    helloDue := false
    mismatches := 0
    digestAt := s.now
    lastHeard := s.now
    peerUnfenced := !h.fenced }

theorem port_cameUp (s : State) (p : Nat) (h : Hello) : (s.cameUp p h).port p = { s.port p with
    nextRid := 0
    state := .up
    changed := s.now
    lostJoin := false
    helloDue := false
    mismatches := 0
    digestAt := s.now
    lastHeard := s.now
    peerUnfenced := !h.fenced } := by
  simp only [State.cameUp, State.setPortState, State.port_modPort, if_true]
  have hclear : (s.clearPair p).port p = { s.port p with nextRid := 0 } := (State.port_modPort s p p _).trans (if_pos rfl)
  rw [hclear]
  rfl

theorem samePorts_cameUp (s : State) (p : Nat) (h : Hello) : samePorts p s (s.cameUp p h) :=
  samePorts.trans (t := s.clearPair p) (samePorts_modPort p s _)
    ((samePorts_modPort p _ _).trans (samePorts_modPort p _ _))

/-- The HELLO of the peer is no longer awaited. -/
def State.helloHeard (s : State) (p : Nat) : State := s.modPort p fun k => { k with asked := false, peerHello := none }

/-- A member enters the fence as it first joins (R322). -/
def State.fencedAtFirst (s : State) : State :=
  if s.clocks.everJoined then s
  else ({ s with clocks := { s.clocks with everJoined := true } } : State).enterFence 0 false

theorem domain_fencedAtFirst (s : State) : s.fencedAtFirst.domain = s.domain := by
  unfold State.fencedAtFirst
  split
  · rfl
  · simp only [State.enterFence_kept]

/-- The state once a HELLO has brought a port UP, before what waited is sent. -/
def State.helloPassed (s : State) (p : Nat) (h : Hello) : State :=
  (((s.helloHeard p).cameUp p h).raise 0x1602 0 (edgeUnit p) (leBytes 1 p ++ leBytes 1 (s.portRole p).2)).fencedAtFirst

theorem domain_helloPassed (s : State) (p : Nat) (h : Hello) :
    (s.helloPassed p h).domain = ((s.helloHeard p).cameUp p h).domain := by
  rw [State.helloPassed, domain_fencedAtFirst]
  simp only [State.raise_kept]

/-- A HELLO that passes all checks brings the port UP (R317 steps 3 to 5). -/
theorem checkHello_up {s : State} {p : Nat} {h : Hello} (hdev : h.device = (s.portRole p).2) (hdom : h.domain = s.domainId)
    (hjoin : (s.port p).lostJoin = false ∨ s.joinRefused p = false) (hlevel : h.level = s.reg 0x820003)
    (hdigest : h.digest = s.localDigest) : s.checkHello p h = (s.helloPassed p h).sendWaiting p := by
  have hlost : ((s.helloHeard p).port p).lostJoin = (s.port p).lostJoin := by
    rw [State.helloHeard, State.port_modPort, if_pos rfl]
  have hrefused : (((s.helloHeard p).port p).lostJoin && (s.helloHeard p).joinRefused p) = false := by
    rw [hlost, show (s.helloHeard p).joinRefused p = s.joinRefused p from rfl]
    obtain hl | hr := hjoin
    · rw [hl]; rfl
    · rw [hr, Bool.and_false]
  have hpeer : (decide (h.device ≠ ((s.helloHeard p).portRole p).2) || decide (h.domain ≠ (s.helloHeard p).domainId)) =
      false := by
    rw [show (s.helloHeard p).portRole p = s.portRole p from rfl, show (s.helloHeard p).domainId = s.domainId from rfl]
    simp [hdev, hdom]
  have hagree : (decide (h.level ≠ (s.helloHeard p).reg 0x820003) || decide (h.digest ≠ (s.helloHeard p).localDigest)) =
      false := by
    rw [show (s.helloHeard p).reg 0x820003 = s.reg 0x820003 from rfl,
      show (s.helloHeard p).localDigest = s.localDigest from rfl]
    simp [hlevel, hdigest]
  unfold State.checkHello
  dsimp only
  rw [State.helloHeard] at hrefused hpeer hagree
  rw [hpeer, hrefused, hagree]
  rfl

theorem checkHello_down {s : State} {p : Nat} {h : Hello} (hpeer : h.device ≠ (s.portRole p).2 ∨ h.domain ≠ s.domainId) :
    s.checkHello p h = ((s.helloHeard p).setPortState p .down).raise 0x1603 0 (edgeUnit p)
      (leBytes 1 p ++ leBytes 1 h.device ++ leBytes 2 h.domain) := by
  unfold State.checkHello
  dsimp only
  refine if_pos ?_
  change (decide (h.device ≠ (s.portRole p).2) || decide (h.domain ≠ s.domainId)) = true
  simpa using hpeer

/-- At a JOINING port of a peer a HELLO is checked. -/
theorem hello_joining {s : State} {p : Nat} {h : Hello} (hr : (s.portRole p).1 = 1) (hj : (s.port p).state = .joining) :
    exec (.hello p h) s = .next ((s.heard p 4 1).checkHello p h) := by
  change execHello p h s = _
  have hstate := (state_heard s p 4 1 p).trans hj
  have hrole : ((s.heard p 4 1).portRole p).1 = 1 := hr
  simp only [execHello, hrole, hstate, ne_eq, not_true_eq_false, if_false]

theorem hello_up {s : State} {p : Nat} {h : Hello} (hr : (s.portRole p).1 = 1) (hu : (s.port p).state = .up) :
    exec (.hello p h) s = .next (((s.heard p 4 1).declareLost p).modPort p fun q =>
      { q with helloDue := true, peerHello := some h }) := by
  change execHello p h s = _
  have hstate := (state_heard s p 4 1 p).trans hu
  have hrole : ((s.heard p 4 1).portRole p).1 = 1 := hr
  simp only [execHello, hrole, hstate, ne_eq, not_true_eq_false, if_false]

/-- A LOST port whose join is refused, as its HELLO is due again. -/
def State.asksAgain (s : State) (p : Nat) : State :=
  (s.modPort p fun q => { q with asked := q.peerHello.isNone, peerHello := none }).modPort p fun k => { k with helloAt := s.now }

theorem port_asksAgain (s : State) (p : Nat) : (s.asksAgain p).port p =
    { s.port p with asked := (s.port p).peerHello.isNone, peerHello := none, helloAt := s.now } := by
  simp only [State.asksAgain, State.port_modPort, if_true]

theorem helloRepeat_next {s : State} {p : Nat} (hl : (s.port p).state = .lost) (hd : (s.port p).helloDue = true)
    (hr : (s.port p).retraining = false) (ht : (s.port p).helloAt + 1000000 ≤ s.now) : exec (.helloRepeat p) s =
      .next (if s.joinRefused p then (s.asksAgain p).wire (.hello p s.localHello) else s.startJoin p) := by
  change execHelloRepeat p s = _
  have hno : ¬ (decide ((s.port p).state ≠ .lost) || !(s.port p).helloDue || (s.port p).retraining ||
      decide (s.now < (s.port p).helloAt + 1000000)) = true := by
    simp [hl, hd, hr, ht]
  unfold execHelloRepeat
  dsimp only
  split
  · next hj _ => exact absurd (hl.symm.trans hj) PortState.noConfusion
  · rw [if_neg hno]
    split <;> rfl

theorem join_next {s : State} {p : Nat} (hr : (s.portRole p).1 = 1)
    (hst : (s.port p).state = .demoted ∨ (s.port p).state = .lost) (hq : s.requestsAt p = false) :
    exec (.join p) s = .next ((s.setReg 0x820103 0).startJoin p) := by
  change Host.Outcome.next (s.joinOp p) = _
  have hno : ¬ (decide ((s.portRole p).1 ≠ 1) ||
      (decide ((s.port p).state ≠ .demoted) && decide ((s.port p).state ≠ .lost))) = true := by
    obtain h | h := hst <;> simp [hr, h]
  rw [State.joinOp]
  rw [if_neg hno, hq]
  rfl

theorem leave_next {s : State} {p : Nat} (hr : (s.portRole p).1 = 1) (hd : (s.port p).state ≠ .down)
    (ht : (s.port p).state ≠ .training) (hq : s.requestsAt p = false) (hw : s.windowHolders (s.portRole p).2 = []) :
    exec (.leave p) s = .next (((s.setReg 0x820103 0).wire (.leave p)).setPortState p .down) := by
  change Host.Outcome.next (s.leaveOp p) = _
  have hno : ¬ (decide ((s.portRole p).1 ≠ 1) || decide ((s.port p).state = .down) || decide ((s.port p).state = .training)) =
      true := by
    simp [hr, hd, ht]
  rw [State.leaveOp]
  rw [if_neg hno, hq, hw]
  rfl

theorem leaveArrival_next {s : State} {p : Nat} (hr : (s.portRole p).1 = 1)
    (hst : (s.port p).state = .up ∨ (s.port p).state = .demoted ∨ (s.port p).state = .joining) :
    exec (.leaveArrival p) s = .next ((s.heard p 4 1).setPortState p .down) := by
  change execLeaveArrival p s = _
  have hrole : ((s.heard p 4 1).portRole p).1 = 1 := hr
  rw [execLeaveArrival]
  rw [state_heard, hrole]
  exact if_pos (by obtain h | h | h := hst <;> simp [h])

/-! ### Digests (R318) -/

/-- The digest that this member sends on a port. -/
def State.digestOn (s : State) (p : Nat) : Output := .digest p s.localDigest (s.reg 0x820002) (s.reg 0x820003)

/-- Digests sent on several UP ports, each of which has room. -/
theorem foldl_digest {l : List Nat} (hn : l.Nodup) {s : State}
    (h : ∀ p ∈ l, (s.port p).state = .up ∧ s.sends (s.digestOn p) = true) :
    ∃ k, l.foldl (fun s p => s.wire (.digest p s.localDigest (s.reg 0x820002) (s.reg 0x820003))) s = { s with
      domain := { s.domain with ports := k }
      control := { s.control with wire := s.control.wire ++ l.map s.digestOn } } ∧
    ∀ q, (k.get {} q).state = (s.port q).state := by
  induction l generalizing s with
  | nil => exact ⟨s.domain.ports, by simp, fun _ => rfl⟩
  | cons p l ih =>
    obtain ⟨hp, hl⟩ := List.forall_mem_cons.mp h
    obtain ⟨hnot, hnodup⟩ := List.nodup_cons.mp hn
    have hsent : s.wire (s.digestOn p) = s.sent p 4 1 (s.digestOn p) := wire_sent rfl (by rw [hp.1]; decide) hp.2
    have hrest : ∀ q ∈ l, ((s.sent p 4 1 (s.digestOn p)).port q).state = .up ∧
        (s.sent p 4 1 (s.digestOn p)).sends ((s.sent p 4 1 (s.digestOn p)).digestOn q) = true := by
      intro q hq
      have hne : q ≠ p := fun he => hnot (he ▸ hq)
      have hport := port_sent_ne s hne 4 1 (s.digestOn p)
      have hsends := sends_of_port (s := s) (t := s.sent p 4 1 (s.digestOn p)) (o := s.digestOn q) rfl rfl
        (hport ▸ .refl _)
      exact ⟨by rw [hport]; exact (hl q hq).1, hsends.trans (hl q hq).2⟩
    obtain ⟨k, hk, hstates⟩ := ih hnodup hrest
    refine ⟨k, ?_, fun q => (hstates q).trans ?_⟩
    · change l.foldl _ (s.wire (s.digestOn p)) = _
      rw [hsent, hk]
      rw [List.map_cons, List.append_cons]
      rfl
    · by_cases hq : q = p
      · rw [hq, port_sent_same]
        rfl
      · rw [port_sent_ne s hq]

theorem digestSend_next {s : State} (h : s.messages.digestSent + 10000000 ≤ s.now) : exec .digestSend s =
    .next (((List.range 64).filter fun p => (s.port p).state = .up).foldl (fun s p =>
      s.wire (.digest p s.localDigest (s.reg 0x820002) (s.reg 0x820003)))
        { s with messages := { s.messages with digestSent := s.now } }) := by
  change execDigestSend s = _
  exact if_neg (by omega)

theorem demote_facts (s : State) (p epoch level : Nat) :
    (s.demote p epoch level).domain = (s.setPortState p .demoted).domain ∧
    (s.demote p epoch level).reg 0x820007 = satAdd 32 (s.reg 0x820007) 1 ∧
    (s.demote p epoch level).raised 0x1604 = s.raised 0x1604 + 1 := by
  refine ⟨?_, ?_, ?_⟩
  · simp only [State.demote, State.raise_kept]
    rfl
  · rw [State.demote, reg_raise (by decide)]
    exact reg_setReg_same (s.setPortState p .demoted) _ _
  · rw [State.demote, State.raised_raise _ _ _ _ _ (by decide)]
    rfl

theorem port_setPortState (s : State) (p : Nat) (st : PortState) :
    (s.setPortState p st).port p = { s.port p with state := st, changed := s.now } :=
  (State.port_modPort s p p _).trans (if_pos rfl)

/-- A port as a digest that has arrived leaves it, with its mismatches in a row, and the digest kept. -/
def State.digestKept (s : State) (p n : Nat) (d : List Byte) (epoch level : Nat) : State :=
  let u := s.modPort p fun k => { k with mismatches := n, digestAt := s.now }
  { u with messages := { u.messages with peerDigests := u.messages.peerDigests.set p {
    peer := (s.portRole p).2, epoch := epoch, level := level, digest := padTo 32 d, at_ := s.stamp } } }

theorem digest_matches {s : State} {p epoch level : Nat} (hr : (s.portRole p).1 = 1)
    (hst : (s.port p).state = .up ∨ (s.port p).state = .demoted) :
    exec (.digest p s.localDigest epoch level) s = .next ((s.heard p 4 1).digestKept p 0 s.localDigest epoch level) := by
  change execDigest p s.localDigest epoch level s = _
  have hrole : ((s.heard p 4 1).portRole p).1 = 1 := hr
  have hlocal : (s.heard p 4 1).localDigest = s.localDigest := rfl
  have hno : ¬ (decide ((s.port p).state ≠ .up) && decide ((s.port p).state ≠ .demoted)) = true := by
    obtain h | h := hst <;> simp [h]
  rw [execDigest]
  dsimp only
  rw [state_heard, hrole, hlocal]
  simp only [ne_eq, not_true_eq_false, decide_false, Bool.false_or] at hno ⊢
  rw [if_neg hno]
  simp
  rfl

theorem digest_mismatches {s : State} {p epoch level : Nat} {d : List Byte} (hr : (s.portRole p).1 = 1)
    (hu : (s.port p).state = .up) (hd : d ≠ s.localDigest) (hm : 1 ≤ (s.port p).mismatches) :
    exec (.digest p d epoch level) s =
      .next (((s.heard p 4 1).digestKept p ((s.port p).mismatches + 1) d epoch level).demote p epoch level) := by
  change execDigest p d epoch level s = _
  have hrole : ((s.heard p 4 1).portRole p).1 = 1 := hr
  have hlocal : (s.heard p 4 1).localDigest = s.localDigest := rfl
  have hmis : ((s.heard p 4 1).port p).mismatches = (s.port p).mismatches := by rw [port_heard]
  rw [execDigest]
  dsimp only
  rw [state_heard, hrole, hlocal, hmis, hu]
  simp [hd, hm]
  rfl

theorem digestTimeout_next {s : State} {p : Nat} (hu : (s.port p).state = .up) (ht : (s.port p).digestAt + 30000000 ≤ s.now) :
    ∃ epoch level, exec (.digestTimeout p) s = .next (s.demote p epoch level) := by
  refine ⟨(s.messages.peerDigests.get {} p).epoch, (s.messages.peerDigests.get {} p).level, ?_⟩
  change execDigestTimeout p s = _
  exact if_neg (by simp [hu, ht])

/-- From `s` to `t` a port is demoted and counted. -/
theorem demoted_facts {s u : State} {p epoch level : Nat} (hport : samePorts p s u)
    (hcount : u.reg 0x820007 = s.reg 0x820007) (hevents : u.control = s.control) :
    ((u.demote p epoch level).port p).state = .demoted ∧
    (u.demote p epoch level).reg 0x820007 = satAdd 32 (s.reg 0x820007) 1 ∧
    (u.demote p epoch level).raised 0x1604 = s.raised 0x1604 + 1 ∧ samePorts p s (u.demote p epoch level) := by
  obtain ⟨hdomain, hreg, hraised⟩ := demote_facts u p epoch level
  refine ⟨?_, by rw [hreg, hcount], by rw [hraised, raised_of_control hevents], hport.trans fun q hq => ?_⟩
  · rw [State.port, hdomain]
    exact congrArg Port.state (port_setPortState u p .demoted)
  · rw [hdomain]
    exact samePorts_modPort p u _ q hq

/-- Settles O12: each command by the state that it answers; of that the port by what it is set to, and what sending leaves
of it. -/
theorem membersAgree : Obligations.MembersAgree := by
  unfold Obligations.MembersAgree
  refine ⟨?_, ?_, ?_, ?_, ?_, ?_, ?_, ?_, ?_, ?_, ?_⟩
  · intro s p h hr hj hdev hdom hjoin hlevel hdigest
    have hlost : ((s.heard p 4 1).port p).lostJoin = (s.port p).lostJoin := by rw [port_heard]
    have hup := checkHello_up (s := s.heard p 4 1) hdev hdom (hlost ▸ hjoin) hlevel hdigest
    refine ⟨_, (hello_joining hr hj).trans (congrArg _ hup), ?_⟩
    generalize hu : (s.heard p 4 1).helloPassed p h = u
    have hdomain : u.domain = (((s.heard p 4 1).helloHeard p).cameUp p h).domain := by rw [← hu, domain_helloPassed]
    obtain ⟨hidle, hports, hreplies⟩ := onlySends.sendWaiting (p := p) u
    have hport : u.port p = (((s.heard p 4 1).helloHeard p).cameUp p h).port p := by rw [State.port, hdomain]; rfl
    rw [hport, port_cameUp] at hidle
    refine ⟨congrArg Port.state hidle, congrArg Port.lostJoin hidle, congrArg Port.peerUnfenced hidle,
      congrArg Port.lastHeard hidle, fun n hn => ?_, ?_, ?_⟩
    · rw [hreplies, hdomain]
      exact (SMap.lookup_dropKeys _ _ n).trans (if_pos (decide_eq_true hn))
    · have hcame : samePorts p (s.heard p 4 1) (((s.heard p 4 1).helloHeard p).cameUp p h) :=
        samePorts.trans (t := (s.heard p 4 1).helloHeard p) (samePorts_modPort p _ _) (samePorts_cameUp _ p h)
      exact ((samePorts_heard s p 4 1).trans hcame).trans ((samePorts_of_domain (congrArg Domain.ports hdomain)).trans hports)
    · rw [← hu, ← hup]
      apply State.ext_of <;> simp only [State.checkHello_kept, State.heard_kept]
  · intro s p h hr hj hpeer
    refine ⟨_, (hello_joining hr hj).trans (congrArg _ (checkHello_down hpeer)), ?_, ?_, ?_, ?_, ?_, ?_⟩
    · simp only [State.port, State.raise_kept]
      exact congrArg Port.state (port_setPortState _ p .down)
    · rw [State.raised_raise _ _ _ _ _ (by decide)]
      rfl
    · have hdown : samePorts p (s.heard p 4 1) (((s.heard p 4 1).helloHeard p).setPortState p .down) :=
        samePorts.trans (t := (s.heard p 4 1).helloHeard p) (samePorts_modPort p _ _) (samePorts_modPort p _ _)
      exact ((samePorts_heard s p 4 1).trans hdown).trans (samePorts_of_domain (by simp only [State.raise_kept]))
    · simp only [State.raise_kept]
      rfl
    · simp only [State.raise_kept]
      rfl
    · apply State.ext_of <;> simp only [State.raise_kept] <;> rfl
  · intro s p h hr hu
    have hstate : ((s.heard p 4 1).port p).state ≠ .lost := by rw [state_heard, hu]; decide
    obtain ⟨hport, hfrozen, hsame⟩ := lost_of_domain (domain_declareLost hstate)
    have hnew : (((s.heard p 4 1).declareLost p).modPort p fun q => { q with helloDue := true, peerHello := some h }).port p =
        { ((s.heard p 4 1).declareLost p).port p with helloDue := true, peerHello := some h } :=
      (State.port_modPort _ p p _).trans (if_pos rfl)
    rw [hport] at hnew
    refine ⟨_, hello_up hr hu, congrArg Port.helloDue hnew, congrArg Port.peerHello hnew, congrArg Port.state hnew, hfrozen,
      ((samePorts_heard s p 4 1).trans hsame).trans (samePorts_modPort p _ _), ?_, ?_⟩
    · rw [declareLost_only]
      rfl
    · rw [declareLost_only]
      rfl
  · intro s p hl hd hr ht hs
    refine ⟨_, helloRepeat_next hl hd hr ht, ?_⟩
    cases hrefused : s.joinRefused p with
    | true =>
      have hsame : (s.port p).sendsAs ((s.asksAgain p).port p) := by
        rw [port_asksAgain]
        exact ⟨rfl, Iff.rfl, rfl, rfl, rfl, rfl⟩
      have hsends := sends_of_port (s := s) (t := s.asksAgain p) (o := .hello p s.localHello) rfl rfl hsame
      have hsent := wire_sent (s := s.asksAgain p) (o := .hello p s.localHello) rfl
        (by rw [port_asksAgain, hl]; decide) (hsends.trans hs)
      have hport := port_sent_same (s.asksAgain p) p 4 1 (.hello p s.localHello)
      rw [port_asksAgain] at hport
      rw [if_pos rfl, if_pos rfl, hsent]
      refine ⟨congrArg Port.helloAt hport, (congrArg Port.state hport).trans hl, rfl, ?_, rfl⟩
      exact ((samePorts_modPort p s _).trans (samePorts_modPort p _ _)).trans (samePorts_sent _ p 4 1 _)
    | false =>
      obtain ⟨k, hk, hstate, hat, hsame⟩ := startJoin_facts (by rw [hl]; decide) hs
      rw [if_neg Bool.false_ne_true, if_neg Bool.false_ne_true, hk]
      exact ⟨hat, hstate, rfl, hsame, rfl⟩
  · intro s p hr hst hq hs
    have hhello := localHello_setStatus s 0
    obtain ⟨k, hk, hstate, -, hsame⟩ := startJoin_facts (s := s.setReg 0x820103 0) (p := p)
      (by obtain h | h := hst <;> (change (s.port p).state ≠ _; rw [h]; decide)) (by rw [hhello]; exact hs)
    refine ⟨_, join_next hr hst hq, ?_⟩
    rw [hk, hhello]
    exact ⟨hstate, reg_setReg_same s _ _, rfl, hsame, rfl⟩
  · intro s p hr hd ht hq hw hs
    refine ⟨_, leave_next hr hd ht hq hw, ?_⟩
    rw [wire_sent (s := s.setReg 0x820103 0) (o := .leave p) rfl hd hs]
    exact ⟨congrArg Port.state (port_setPortState _ p .down), reg_setReg_same s _ _, rfl,
      (samePorts_sent (s.setReg 0x820103 0) p 4 1 _).trans (samePorts_modPort p _ _), rfl⟩
  · intro s p hr hst
    exact ⟨_, leaveArrival_next hr hst, port_setPortState _ p .down,
      (samePorts_heard s p 4 1).trans (samePorts_modPort p _ _), rfl⟩
  · intro s hdue hroom
    refine ⟨_, digestSend_next hdue, ?_⟩
    have hall : ∀ p ∈ (List.range 64).filter (fun p => (s.port p).state = .up),
        (s.port p).state = .up ∧ s.sends (s.digestOn p) = true := by
      intro p hp
      obtain ⟨hrange, hup⟩ := List.mem_filter.mp hp
      have hup : (s.port p).state = .up := by simpa using hup
      exact ⟨hup, by simpa [hup, State.digestOn] using List.all_eq_true.mp hroom p hrange⟩
    obtain ⟨k, hk, hstates⟩ := foldl_digest (List.nodup_range.filter _)
      (s := { s with messages := { s.messages with digestSent := s.now } }) hall
    rw [hk]
    exact ⟨rfl, rfl, hstates, rfl⟩
  · intro s p epoch level hr hst
    have hport : ((s.heard p 4 1).digestKept p 0 s.localDigest epoch level).port p =
        { (s.heard p 4 1).port p with mismatches := 0, digestAt := s.now } := (State.port_modPort _ p p _).trans (if_pos rfl)
    exact ⟨_, digest_matches hr hst, congrArg Port.mismatches hport, congrArg Port.digestAt hport,
      (congrArg Port.state hport).trans (state_heard s p 4 1 p), SMap.get_set_same _ _ _ _,
      (samePorts_heard s p 4 1).trans (samePorts_modPort p _ _), rfl⟩
  · intro s p epoch level d hr hu hd hm
    obtain ⟨hstate, hreg, hraised, hsame⟩ := demoted_facts (s := s)
      (u := (s.heard p 4 1).digestKept p ((s.port p).mismatches + 1) d epoch level) (p := p) (epoch := epoch) (level := level)
      ((samePorts_heard s p 4 1).trans (samePorts_modPort p _ _)) rfl rfl
    refine ⟨_, digest_mismatches hr hu hd hm, hstate, hreg, hraised, hsame, ?_, ?_⟩
    · simp only [State.demote_kept]
      rfl
    · apply State.ext_of <;> simp only [State.demote_kept] <;> rfl
  · intro s p hu ht
    obtain ⟨epoch, level, hnext⟩ := digestTimeout_next hu ht
    obtain ⟨hstate, hreg, hraised, hsame⟩ := demoted_facts (s := s) (u := s) (p := p) (epoch := epoch) (level := level)
      (fun _ _ => rfl) rfl rfl
    refine ⟨_, hnext, hstate, hreg, hraised, hsame, ?_, ?_⟩
    · simp only [State.demote_kept]
    · apply State.ext_of <;> simp only [State.demote_kept]

end Sys2Proof.Machine

/-! PROOF. O14: time across the domain by what an exchange makes of the count (R321, R322), timed doorbells by the doorbell that
they ring (R323), and a DMC_WRITE by the request that it issues (R279). -/

namespace Sys2Proof.Machine

/-! ### Time requests (R321) -/

theorem timeReq_asks {s : State} {p : Nat} (t1 : Nat) (hu : (s.port p).state = .up) (hm : s.timeMaster ≠ s.deviceId)
    (hp : (s.portRole p).2 = s.timeMaster) (ht : s.clocks.lastTimeReq + 10000 ≤ s.now) : exec (.timeReq p t1) s =
      .next (({ s with clocks := { s.clocks with lastTimeReq := s.now } } : State).wire (.timeReq p s.now)) := by
  change execTimeReq p t1 s = _
  rw [execTimeReq, if_neg (by simp [hu]), if_pos (by simp [hm, hp]), if_neg (by omega)]

theorem timeReq_answers {s : State} {p : Nat} (t1 : Nat) (hu : (s.port p).state = .up)
    (hm : s.timeMaster = s.deviceId ∨ (s.portRole p).2 ≠ s.timeMaster) : exec (.timeReq p t1) s =
      .next ((s.heard p 4 1).wire (.timeRsp p t1 s.now s.now)) := by
  change execTimeReq p t1 s = _
  have hno : ¬ (decide (s.timeMaster ≠ s.deviceId) && decide ((s.portRole p).2 = s.timeMaster)) = true := by
    obtain h | h := hm <;> simp [h]
  rw [execTimeReq, if_neg (by simp [hu]), if_neg hno]

/-! ### One exchange (R321, R322) -/

theorem peerUnfenced_heard (s : State) (p vc n q : Nat) :
    ((s.heard p vc n).port q).peerUnfenced = (s.port q).peerUnfenced := by
  by_cases h : q = p
  · rw [h, port_heard]
  · exact congrArg Port.peerUnfenced ((State.port_modPort s p q _).trans (if_neg h))

theorem timeMaster_heard (s : State) (p vc n : Nat) : (s.heard p vc n).timeMaster = s.timeMaster := by
  simp only [State.timeMaster, state_heard, peerUnfenced_heard]
  rfl

/-- The state once offset and delay of an exchange are stored (OD 0x8220.02 and .03). -/
def State.exchanged (s : State) (θ δ : Int) : State :=
  (s.setReg 0x822002 (θ.emod (2 ^ 32)).toNat).setReg 0x822003 (δ.emod (2 ^ 32)).toNat

theorem reg_offset_exchanged (s : State) (θ δ : Int) : (s.exchanged θ δ).reg 0x822002 = (θ.emod (2 ^ 32)).toNat :=
  (reg_setReg_ne (by decide) _).trans (reg_setReg_same _ _ _)

theorem reg_delay_exchanged (s : State) (θ δ : Int) : (s.exchanged θ δ).reg 0x822003 = (δ.emod (2 ^ 32)).toNat :=
  reg_setReg_same _ _ _

theorem reg_exchanged_ne {j : Nat} (h2 : j ≠ 0x822002) (h3 : j ≠ 0x822003) (s : State) (θ δ : Int) :
    (s.exchanged θ δ).reg j = s.reg j :=
  (reg_setReg_ne h3 _).trans (reg_setReg_ne h2 _)

/-- Two halves, each rounded by a free choice, take free values and nothing else. -/
theorem halved_only {v s1 s2 : State} {a b θ δ : Int} (h1 : v.divFree a 2 = (θ, s1)) (h2 : s1.divFree b 2 = (δ, s2)) :
    ∃ n, s2 = { v with freeCount := n } := by
  obtain ⟨n, hn⟩ := v.divFree_only a 2
  obtain ⟨m, hm⟩ := s1.divFree_only b 2
  rw [h1] at hn
  rw [h2] at hm
  have hs1 : s1 = { v with freeCount := n } := hn
  have hs2 : s2 = { s1 with freeCount := m } := hm
  exact ⟨m, by rw [hs2, hs1]⟩

theorem correctCount_ahead {s : State} {θ : Int} (h : 1000 < θ) : s.correctCount θ =
    ({ s with clocks := { s.clocks with count := s.clocks.count + θ.toNat, slew := 0 } } : State).countReg 0x822006 32 1 :=
  if_pos h

theorem correctCount_behind {s : State} {θ : Int} (h : θ < -1000) : s.correctCount θ =
    { s with clocks := { s.clocks with halfRate := true, slew := 0 } } := by
  rw [State.correctCount, if_neg (by omega), if_pos h]

theorem correctCount_near {s : State} {θ : Int} (h : θ.natAbs ≤ 20) : s.correctCount θ = { s with clocks := { s.clocks with
    halfRate := false, slew := if θ < 0 then -(min θ.natAbs 2 : Int) else (min θ.natAbs 2 : Int) } } := by
  have hfar : ¬ (s.clocks.halfRate && decide (100 < θ.natAbs)) = true := by
    rw [decide_eq_false (by omega), Bool.and_false]
    exact Bool.false_ne_true
  rw [State.correctCount, if_neg (by omega), if_neg (by omega), if_neg hfar]

/-- The state once an exchange has corrected the count and has its say on the fence (R322). -/
def State.corrected (s : State) (θ δ : Int) : State :=
  let u := (s.exchanged θ δ).correctCount θ
  let n := if θ.natAbs ≤ 20 then u.clocks.goodExchanges + 1 else 0
  let w := { u with clocks := { u.clocks with goodExchanges := n } }
  if 1000 < θ.natAbs then u.enterFence θ false
  else if w.clocks.fenced && 3 ≤ n then w.leaveFence θ else w

/-- The answer of this member's time master is one exchange. -/
theorem timeRsp_next {s v s1 s2 : State} {p t1 t2 t3 t4 : Nat} {θ δ : Int} (hu : (s.port p).state = .up)
    (hm : s.timeMaster ≠ s.deviceId) (hp : (s.portRole p).2 = s.timeMaster) (hv : v = s.heard p 4 1)
    (h1 : v.divFree (((t2 : Int) - t1) + ((t3 : Int) - t4)) 2 = (θ, s1))
    (h2 : s1.divFree (((t4 : Int) - t1) - ((t3 : Int) - t2)) 2 = (δ, s2)) :
    exec (.timeRsp p t1 t2 t3 t4) s = .next (s2.corrected θ δ) := by
  change execTimeRsp p t1 t2 t3 t4 s = _
  subst hv
  have hno : ¬ (decide (((s.heard p 4 1).port p).state ≠ .up) ||
      decide ((s.heard p 4 1).timeMaster = (s.heard p 4 1).deviceId) ||
      decide (((s.heard p 4 1).portRole p).2 ≠ (s.heard p 4 1).timeMaster)) = true := by
    rw [state_heard, timeMaster_heard, hu, show (s.heard p 4 1).deviceId = s.deviceId from rfl,
      show (s.heard p 4 1).portRole p = s.portRole p from rfl, hp]
    simp [hm]
  rw [execTimeRsp]
  dsimp only
  rw [if_neg hno, h1]
  dsimp only
  rw [h2, State.corrected]
  dsimp only
  rw [apply_ite Host.Outcome.next, apply_ite Host.Outcome.next]
  rfl

/-- An offset of more than 1 µs enters the fence (R322). -/
theorem corrected_far {s : State} {θ : Int} (δ : Int) (h : 1000 < θ.natAbs) :
    s.corrected θ δ = ((s.exchanged θ δ).correctCount θ).enterFence θ false := if_pos h

/-- An offset of at most 20 ns, where the member is not fenced, counts among the good exchanges (R322). -/
theorem corrected_good {s : State} {θ : Int} (δ : Int) (h : θ.natAbs ≤ 20) (hf : s.clocks.fenced = false) :
    s.corrected θ δ = { s.exchanged θ δ with clocks := { s.clocks with
      halfRate := false
      slew := if θ < 0 then -(min θ.natAbs 2 : Int) else (min θ.natAbs 2 : Int)
      goodExchanges := s.clocks.goodExchanges + 1 } } := by
  have hfenced : (s.exchanged θ δ).clocks.fenced = false := hf
  rw [State.corrected, correctCount_near h]
  dsimp only
  rw [if_neg (by omega), hfenced, Bool.false_and, if_neg Bool.false_ne_true, if_pos h, ← hfenced]
  rfl

/-! ### The fence (R322) -/

theorem enterFence_only (s : State) (θ : Int) (b : Bool) : s.enterFence θ b = { s with
    regs := (s.enterFence θ b).regs
    clocks := (s.enterFence θ b).clocks
    control := (s.enterFence θ b).control
    dbg := (s.enterFence θ b).dbg } := by
  apply State.ext_of <;> simp only [State.enterFence_kept]

theorem clocks_enterFence (s : State) (θ : Int) (b : Bool) : ∃ c, (s.enterFence θ b).clocks =
    { s.clocks with fenced := true, fencedByCheck := c, goodExchanges := 0, goodSyncs := 0 } := by
  unfold State.enterFence
  split
  · next h => exact ⟨s.clocks.fencedByCheck || b, by rw [← h]⟩
  · exact ⟨b, by simp only [State.raise_kept]; rfl⟩

theorem count_enterFence (s : State) (θ : Int) (b : Bool) : (s.enterFence θ b).clocks.count = s.clocks.count := by
  obtain ⟨c, h⟩ := clocks_enterFence s θ b
  rw [h]

theorem halfRate_enterFence (s : State) (θ : Int) (b : Bool) :
    (s.enterFence θ b).clocks.halfRate = s.clocks.halfRate := by
  obtain ⟨c, h⟩ := clocks_enterFence s θ b
  rw [h]

theorem fenced_enterFence (s : State) (θ : Int) (b : Bool) : (s.enterFence θ b).clocks.fenced = true := by
  obtain ⟨c, h⟩ := clocks_enterFence s θ b
  rw [h]

theorem goodExchanges_enterFence (s : State) (θ : Int) (b : Bool) : (s.enterFence θ b).clocks.goodExchanges = 0 := by
  obtain ⟨c, h⟩ := clocks_enterFence s θ b
  rw [h]

theorem reg_enterFence {j : Nat} (hr : j ≠ 0x831006) (hf : j ≠ 0x822005) (s : State) (θ : Int) (b : Bool) :
    (s.enterFence θ b).reg j = s.reg j := by
  unfold State.enterFence
  split
  · rfl
  · exact (reg_raise hr _ _ _ _ _).trans (reg_setReg_ne hf _)

/-! ### Timed doorbells (R323) -/

theorem timedDoorbell_next {s : State} {n : Nat} {d : TimedRow} (hd : s.messages.doorbells.get {} n = d) (hs : d.state = 1)
    (ht : d.time ≤ s.now) (hf : s.clocks.fenced = false)
    (hr : doorbellRefused d.ctx (s.ctx d.ctx) (BitVec.ofNat 32 d.producer) = false) : ∃ f : Ctx → Ctx,
      (∀ k, (f k).producer = BitVec.ofNat 32 d.producer) ∧ exec (.timedDoorbell n) s = .next { s.modCtx d.ctx f with
        messages := { s.messages with doorbells := s.messages.doorbells.set n { d with state := 2 } } } := by
  refine ⟨fun k => { k with
    producer := BitVec.ofNat 32 d.producer
    idleSince := if BitVec.ofNat 32 d.producer = k.consumer then k.idleSince else none
    waitingSince := if k.producer = k.consumer then s.now else k.waitingSince }, fun _ => rfl, ?_⟩
  change execTimedDoorbell n s = _
  rw [execTimedDoorbell, hd, if_neg (by simp [hs, ht, hf]), State.fireDoorbell, hd]
  simp [State.ringDoorbell, hr]

/-! ### Multicasts that leave the device (R279) -/

/-- What identifies an outstanding request. -/
def Outstanding.label (o : Outstanding) : Nat × Nat × Nat × Nat × Nat × Nat :=
  (o.handle, o.port, o.device, o.req.op, o.req.ctx, o.req.addr)

/-- A request that passes closes LOADs, and changes nothing else of them (R281). -/
theorem labels_closeLoads (s : State) (device : Nat) (q : Req) :
    (s.closeLoads device q).domain.outstanding.map Outstanding.label = s.domain.outstanding.map Outstanding.label := by
  unfold State.closeLoads
  dsimp only
  split
  · rfl
  · rw [List.map_map]
    refine List.map_congr_left fun o _ => ?_
    rw [Function.comp, apply_ite Outstanding.label]
    exact ite_self _

theorem closeLoads_only (s : State) (device : Nat) (q : Req) : s.closeLoads device q = { s with domain := { s.domain with
    outstanding := (s.closeLoads device q).domain.outstanding } } := by
  unfold State.closeLoads
  dsimp only
  split <;> rfl

theorem noteIssue_only (s : State) (k : Part) (o : Outstanding) : s.noteIssue k o = { s with dbg := (s.noteIssue k o).dbg } := by
  apply State.ext_of <;> simp only [State.noteIssue_kept]

/-- A request as it waits for its port (R288). -/
def State.unsentAt (s : State) (p : Nat) (t : Translated) (q : Req) (k : Part) : Outstanding :=
  { handle := s.domain.nextHandle
    window := t.win
    device := t.device
    port := p
    req := { q with tag := s.domain.nextHandle % 4294967296 }
    rid := none
    issued := s.now
    sent := none
    lastRetry := none
    waitUntil := none
    frozen := false
    parts := [k] }

/-- A request that joins no other, to a port that carries none yet, waits there (R288, R290). -/
theorem issueRemote_waits {s : State} {p : Nat} {t : Translated} {q : Req} {k : Part}
    (hst : (s.port p).state ≠ .demoted ∧ (s.port p).state ≠ .lost ∧ (s.port p).state ≠ .up)
    (hc : q.op ≠ 0x20 ∧ isAtomic q.op = false) : ∃ d, s.issueRemote p t q k = (none, { s with
      domain := { s.domain with
        outstanding := (s.closeLoads t.device q).domain.outstanding ++ [s.unsentAt p t q k]
        nextHandle := s.domain.nextHandle + 1 }
      dbg := d }) := by
  obtain ⟨hd, hl, hu⟩ := hst
  have hup : ∀ b : Bool, ¬ (decide ((s.port p).state = .up) && b) = true := by simp [hu]
  obtain ⟨l, hclose⟩ : ∃ l, s.closeLoads t.device q = { s with domain := { s.domain with outstanding := l } } :=
    ⟨_, closeLoads_only s t.device q⟩
  rw [State.issueRemote]
  dsimp only
  have hjoin : ∀ (c : Bool) (a b : Option Nat),
      (if c = true then none else if q.op = 0x20 then a else if isAtomic q.op = true then b else none) = none := by
    intro c a b
    rw [if_neg hc.1, hc.2, if_neg Bool.false_ne_true, ite_self]
  rw [if_neg hd, hjoin, hclose]
  dsimp only
  rw [if_neg hl, if_neg (hup _), noteIssue_only, decide_eq_false hl]
  exact ⟨_, rfl⟩

/-- The BULK_WRITE of a packet's target (R279). -/
def bulkWriteTo (k : Packet) (x c : Nat) (g : McTarget) : Req :=
  { k.req with
    op := 0x60
    origin := .member x c
    ctx := g.ctx
    addr := g.addr % 2 ^ 40
    ref := g.ref
    refAmt := g.refAmt
    rid := 0 }

/-- Where it leads. -/
def bulkTarget (g : McTarget) : Translated :=
  { win := 0, device := g.addr / 2 ^ 40, offset := g.addr % 2 ^ 40, tctx := g.ctx, noComb := true }

/-- The constituent that it is issued for. -/
def State.targetPart (s : State) (x c : Nat) (g : McTarget) : Part := ⟨x, c, noEngine, .multicast, [], s.now, g.addr⟩

/-- The state once the oldest DMC_WRITE has left its edge group. -/
def State.dmcTaken (s : State) (e : Nat) (rest : List Packet) : State :=
  { s with domain := { s.domain with dmc := s.domain.dmc.set e rest } }

/-- One target of a packet is sent its own BULK_WRITE. -/
def State.sendTarget (s : State) (k : Packet) (x c : Nat) (g : McTarget) : State :=
  match s.portOf (g.addr / 2 ^ 40) with
  | none => s.faultCtx x 0x0403 c noEngine (addressDetail g.addr) (s.memberRing x c)
  | some p =>
    match s.issueRemote p (bulkTarget g) (bulkWriteTo k x c g) (s.targetPart x c g) with
    | (some code, s2) => s2.faultCtx x code c noEngine (addressDetail g.addr) (s2.memberRing x c)
    | (none, s2) => s2

theorem dmcWrite_next {s : State} {e x c : Nat} {k : Packet} {rest : List Packet} (hk : s.domain.dmc.get [] e = k :: rest)
    (ho : k.req.origin = .member x c) :
    exec (.dmcWrite e) s = .next (k.targets.foldl (fun s g => s.sendTarget k x c g) (s.dmcTaken e rest)) := by
  change execDmcWrite e s = _
  rw [execDmcWrite, hk]
  dsimp only
  rw [ho]
  rfl

/-- At a port that carries no requests yet, the BULK_WRITE waits there (R279, R288). -/
theorem sendTarget_waits {s : State} {p : Nat} (k : Packet) (x c : Nat) {g : McTarget}
    (hp : s.portOf (g.addr / 2 ^ 40) = some p)
    (hst : (s.port p).state ≠ .demoted ∧ (s.port p).state ≠ .lost ∧ (s.port p).state ≠ .up) :
    ∃ d l o, s.sendTarget k x c g = { s with
      domain := { s.domain with outstanding := l ++ [o], nextHandle := s.domain.nextHandle + 1 }, dbg := d } ∧
    l.map Outstanding.label = s.domain.outstanding.map Outstanding.label ∧
    o.label = (s.domain.nextHandle, p, g.addr / 2 ^ 40, 0x60, g.ctx, g.addr % 2 ^ 40) := by
  have hop : (bulkWriteTo k x c g).op = 0x60 := rfl
  obtain ⟨d, hissue⟩ := issueRemote_waits (t := bulkTarget g) (q := bulkWriteTo k x c g) (k := s.targetPart x c g) hst
    ⟨by rw [hop]; decide, rfl⟩
  refine ⟨d, _, s.unsentAt p (bulkTarget g) (bulkWriteTo k x c g) (s.targetPart x c g), ?_,
    labels_closeLoads s (bulkTarget g).device (bulkWriteTo k x c g), rfl⟩
  rw [State.sendTarget, hp]
  dsimp only
  rw [hissue]

/-- Settles O14: each command by its equation; an exchange by what it makes of the count and the fence. -/
theorem timeAndDoorbells : Obligations.TimeAndDoorbells := by
  unfold Obligations.TimeAndDoorbells
  refine ⟨?_, ?_, ?_, ?_, ?_, ?_, ?_⟩
  · intro s p t1 hu hm hp ht hs
    refine ⟨_, timeReq_asks t1 hu hm hp ht, ?_⟩
    rw [wire_sent (s := { s with clocks := { s.clocks with lastTimeReq := s.now } }) (o := .timeReq p s.now) rfl
      (ne_of_eq_of_ne hu (by decide)) hs]
    exact ⟨rfl, rfl, samePorts_sent _ p 4 1 _, rfl⟩
  · intro s p t1 hu hm hs
    refine ⟨_, timeReq_answers t1 hu hm, ?_⟩
    rw [wire_sent (o := .timeRsp p t1 s.now s.now) rfl (by rw [state_heard, hu]; decide) ((sends_heard s p 4 1 rfl).trans hs)]
    exact ⟨rfl, (samePorts_heard s p 4 1).trans (samePorts_sent _ p 4 1 _), rfl⟩
  · intro s v s1 s2 p t1 t2 t3 t4 θ δ hu hm hp hv h1 h2 hgood hf
    refine ⟨_, timeRsp_next hu hm hp hv h1 h2, ?_⟩
    obtain ⟨n, hn⟩ := halved_only h1 h2
    rw [corrected_good δ hgood (by rw [hn, hv]; exact hf), hn, hv]
    exact ⟨reg_offset_exchanged _ θ δ, reg_delay_exchanged _ θ δ, rfl, rfl, hf, rfl, rfl, rfl⟩
  · intro s v s1 s2 p t1 t2 t3 t4 θ δ hu hm hp hv h1 h2 hfar
    refine ⟨_, timeRsp_next hu hm hp hv h1 h2, ?_⟩
    obtain ⟨n, hn⟩ := halved_only h1 h2
    rw [corrected_far δ (by omega), correctCount_ahead hfar, hn, hv]
    refine ⟨(reg_enterFence (by decide) (by decide) _ _ _).trans
        ((reg_setReg_ne (by decide) _).trans (reg_offset_exchanged _ θ δ)),
      (reg_enterFence (by decide) (by decide) _ _ _).trans
        ((reg_setReg_ne (by decide) _).trans (reg_delay_exchanged _ θ δ)),
      count_enterFence _ _ _, ?_, fenced_enterFence _ _ _, goodExchanges_enterFence _ _ _, ?_, ?_⟩
    · rw [reg_enterFence (by decide) (by decide)]
      exact (reg_setReg_same _ _ _).trans (congrArg (satAdd 32 · 1) (reg_exchanged_ne (by decide) (by decide) _ θ δ))
    · rw [enterFence_only]
      rfl
    · rw [enterFence_only]
      rfl
  · intro s v s1 s2 p t1 t2 t3 t4 θ δ hu hm hp hv h1 h2 hfar
    refine ⟨_, timeRsp_next hu hm hp hv h1 h2, ?_⟩
    obtain ⟨n, hn⟩ := halved_only h1 h2
    rw [corrected_far δ (by omega), correctCount_behind hfar, hn, hv]
    refine ⟨(reg_enterFence (by decide) (by decide) _ _ _).trans (reg_offset_exchanged _ θ δ),
      (reg_enterFence (by decide) (by decide) _ _ _).trans (reg_delay_exchanged _ θ δ), count_enterFence _ _ _,
      halfRate_enterFence _ _ _, fenced_enterFence _ _ _, goodExchanges_enterFence _ _ _, ?_, ?_⟩
    · rw [enterFence_only]
      rfl
    · rw [enterFence_only]
      rfl
  · intro s n d hd hs ht hf hr
    obtain ⟨f, hproducer, hnext⟩ := timedDoorbell_next hd hs ht hf hr
    refine ⟨_, hnext, ?_, SMap.get_set_same _ _ _ _, fun m hm => SMap.get_set_ne _ _ hm _, sameCtxs_modCtx d.ctx s f, rfl⟩
    exact (congrArg Ctx.producer ((State.ctx_modCtx s d.ctx d.ctx f).trans (if_pos rfl))).trans (hproducer _)
  · intro s e p x c k rest g hk hg ho hp hst
    obtain ⟨d, l, o, hsent, hl, hlabel⟩ := sendTarget_waits (s := s.dmcTaken e rest) k x c hp hst
    refine ⟨_, dmcWrite_next hk ho, ?_⟩
    rw [hg, List.foldl_cons, List.foldl_nil, hsent]
    refine ⟨SMap.get_set_same _ _ _ _, rfl, ?_, rfl, rfl⟩
    change (l ++ [o]).map Outstanding.label = s.domain.outstanding.map Outstanding.label ++ [_]
    rw [List.map_append, hl, List.map_singleton, hlabel]
    rfl

end Sys2Proof.Machine

/-! PROOF. O15: requests of peers by the state that their arrival leaves (R274, R286, R289), and responses by what completes the
constituent that they answer (R274, R287, R290). -/

namespace Sys2Proof.Machine

/-! ### Arrival (R285, R289) -/

/-- A request of a peer as its home takes it (R274). -/
def ofPeer (r : Req) (p : Nat) : Req := { r with origin := .peer p, addr := r.addr % 2 ^ 40 }

/-- The state once a request is ready to be performed. -/
def State.readied (s : State) (q : Req) : State :=
  { s with domain := { s.domain with ready := s.domain.ready ++ [{ q with ticket := none }] } }

/-- A request for an idle line is performed next (R285). -/
theorem admitRequest_idle {s : State} {q : Req} {a b : Nat} (hl : homeLines q = some (a, b))
    (hu : (s.lineQueue a).inUse = false) (hb : s.lineBusy a b = false) : s.admitRequest q = (none, s.readied q) := by
  rw [State.admitRequest, hl]
  dsimp only
  rw [hu, hb]
  rfl

/-- A LOAD for an idle line, where no LOAD stands, becomes ready and can be joined (R281). -/
theorem loadArrives_idle {s : State} (p : Nat) {q : Req} {a b : Nat} (hh : s.domain.homeLoads = [])
    (hl : homeLines q = some (a, b)) (hu : (s.lineQueue a).inUse = false) (hb : s.lineBusy a b = false) :
    s.loadArrives p q = { s with domain := { s.domain with
      ready := s.domain.ready ++ [{ q with ticket := none }]
      homeLoads := [HomeLoad.mk s.now { q with ticket := none } [] none] } } := by
  have hkept : ({ s with domain := { s.domain with
      homeLoads := s.domain.homeLoads.filter fun h => h.result.isNone || decide (s.now ≤ h.at_ + 256) } } : State) = s := by
    rw [hh, List.filter_nil, ← hh]
  have hnone : s.homeLoadFor q = none := by rw [State.homeLoadFor, hh, List.find?_nil]
  rw [State.loadArrives]
  dsimp only
  rw [hkept, hnone]
  dsimp only
  rw [admitRequest_idle hl hu hb]
  dsimp only [State.readied]
  rw [hh, List.nil_append]

theorem newArrives_idle {s : State} (p : Nat) {q : Req} {a b : Nat} (hop : q.op ≠ 0x60) (hl : homeLines q = some (a, b))
    (hu : (s.lineQueue a).inUse = false) (hb : s.lineBusy a b = false) :
    s.newArrives p q = (s.readied q).takeEntry p q := by
  rw [State.newArrives, if_neg hop, admitRequest_idle hl hu hb]

/-- A BULK_WRITE crosses the rig from its port's edge group to its site (R289). -/
theorem newArrives_bulk {s : State} (p : Nat) {q : Req} (hop : q.op = 0x60) : s.newArrives p q =
    (s.takeEntry p q).toOutbox [{
      src := 7 + p / 16, dst := siteOfOffset q.addr, vc := 3, stand := false, crit := false, req := { q with ticket := none },
      targets := [], pseq := 0, stamp := 0 }] := if_pos hop

section
variable {s : State} {p : Nat} {r : Req} (hr : (s.portRole p).1 = 1) (hu : (s.port p).state = .up)
  (hform : requestForm r = true)
include hr hu hform

theorem requestArrival_load (hop : r.op = 0x20) (hf : s.towerFenced (ofPeer r p) = false) :
    exec (.requestArrival p r) s = .next ((s.heard p 1 1).loadArrives p (ofPeer r p)) := by
  change execRequestArrival p r s = _
  have hne : r.op ≠ 0x60 := by rw [hop]; decide
  have hrole : ((s.heard p 1 1).portRole p).1 = 1 := hr
  have hfence : (s.heard p 1 1).towerFenced (ofPeer r p) = false := hf
  rw [execRequestArrival, if_neg hne]
  dsimp only
  rw [state_heard, hrole, hu, hform, if_neg (by decide), if_pos hop, if_neg (by decide)]
  exact if_neg (by rw [← ofPeer, hfence]; exact Bool.false_ne_true)

/-- The state once a request of a peer is in this device. -/
def State.requestHeard (s : State) (p : Nat) (r : Req) : State :=
  if r.op = 0x60 then s.heard p 3 (flitsOf r.data.length) else s.heard p 1 1

omit hr hu hform in
theorem requestHeard_eq (s : State) (p : Nat) (r : Req) : ∃ vc n, s.requestHeard p r = s.heard p vc n := by
  unfold State.requestHeard
  split
  · exact ⟨_, _, rfl⟩
  · exact ⟨_, _, rfl⟩

theorem requestArrival_new (hop : r.op ≠ 0x20) (he : (s.domain.replies.get {} (s.cacheKey p r.rid)).state = .free)
    (hf : s.towerFenced (ofPeer r p) = false) :
    exec (.requestArrival p r) s = .next ((s.requestHeard p r).newArrives p (ofPeer r p)) := by
  change execRequestArrival p r s = _
  obtain ⟨vc, n, hv⟩ := requestHeard_eq s p r
  rw [execRequestArrival, ← State.requestHeard, hv]
  dsimp only
  have hrole : ((s.heard p vc n).portRole p).1 = 1 := hr
  have hfence : (s.heard p vc n).towerFenced (ofPeer r p) = false := hf
  have hfree : ((s.heard p vc n).domain.replies.get {} ((s.heard p vc n).cacheKey p r.rid)).state = .free := he
  rw [state_heard, hrole, hu, hform, if_neg (by decide), if_neg hop, hfree, if_neg (by simp), if_neg (by simp),
    if_neg (by decide)]
  exact if_neg (by rw [← ofPeer, hfence]; exact Bool.false_ne_true)

theorem requestArrival_duplicate {e : ReplyEntry} {a : Reply} (hop : r.op ≠ 0x20)
    (he : s.domain.replies.get {} (s.cacheKey p r.rid) = e) (hst : e.state = .replied) (hid : e.rid = r.rid)
    (ha : e.reply = some a) :
    exec (.requestArrival p r) s = .next (((s.requestHeard p r).countReg 0x801103 64 1).wire (.reply p a)) := by
  change execRequestArrival p r s = _
  obtain ⟨vc, n, hv⟩ := requestHeard_eq s p r
  rw [execRequestArrival, ← State.requestHeard, hv]
  dsimp only
  have hrole : ((s.heard p vc n).portRole p).1 = 1 := hr
  have hentry : (s.heard p vc n).domain.replies.get {} ((s.heard p vc n).cacheKey p r.rid) = e := he
  rw [state_heard, hrole, hu, hform, if_neg (by decide), if_neg hop, hentry, hst, hid, if_pos (by simp), ha]

end

/-! ### Responses (R274, R282) -/

theorem answered_heard (s : State) (p vc n q : Nat) (r : Rsp) : (s.heard p vc n).answered q r = s.answered q r := by
  rw [State.answered, State.answered]
  rw [state_heard]
  rfl

/-- What a response answers is at its port, and the port carries it. -/
theorem port_of_answered {s : State} {p : Nat} {r : Rsp} {o : Outstanding} (h : s.answered p r = some o) :
    ((s.port p).state = .up ∨ (s.port p).state = .demoted) ∧ o.port = p := by
  rw [State.answered] at h
  split at h
  · next hst =>
    have hfound := List.find?_some h
    simp only [Bool.and_eq_true, decide_eq_true_eq] at hfound
    exact ⟨by simpa using hst, hfound.1.1.1⟩
  · cases h

/-- A request of one constituent gives it the whole answer. -/
theorem partAnswers_singleton (q : Req) (k : Part) (a : Answer) : partAnswers q [k] a = [(k, a)] := by
  cases a with
  | old d => rfl
  | _ => rfl

/-- The state once an answered request is outstanding no more. -/
def State.answeredBy (s : State) (o : Outstanding) : State := (s.dropOutstanding o.handle).noteReply o

theorem answeredBy_only (s : State) (o : Outstanding) :
    s.answeredBy o = { s.dropOutstanding o.handle with dbg := (s.answeredBy o).dbg } := by
  unfold State.answeredBy
  apply State.ext_of <;> simp only [State.noteReply_kept]

theorem respond_completes {s : State} {p vc n : Nat} {r : Rsp} {o : Outstanding} {k : Part} {fits : Req → Bool}
    (a : Answer) (h : s.answered p r = some o) (hk : o.parts = [k]) (hfits : fits o.req = true) :
    (s.heard p vc n).respond p r fits a = ((s.heard p vc n).answeredBy o).completePart k a := by
  rw [State.respond, answered_heard, h]
  dsimp only
  rw [if_pos hfits, State.finishOutstanding, hk, partAnswers_singleton]
  rfl

/-! ### A result at its local address (R274) -/

theorem deliverLocal_stored {s s2 : State} {k : Part} {a : Nat} {d : List Byte}
    (hz : (s.region (zoneOf k.cluster)).stopped = false)
    (hst : s.storeRange (clusterOffset k.cluster a) d (s.requesterAt k.ctx k.cluster) = (none, s2)) :
    s.deliverLocal k a d = s2 := by
  rw [State.deliverLocal, hz, if_neg Bool.false_ne_true, hst]

section
variable {s s2 : State} {k : Part} {a : Nat} {d : List Byte} (hp : k.purpose = .deliver a) (hd : d ≠ [])
  (hz : (s.region (zoneOf k.cluster)).stopped = false)
  (hst : s.storeRange (clusterOffset k.cluster a) d (s.requesterAt k.ctx k.cluster) = (none, s2))
include hp hd hz hst

theorem completePart_data : s.completePart k (.data d) = s2 := by
  rw [State.completePart]
  rw [hp]
  dsimp only
  rw [if_neg hd]
  exact deliverLocal_stored hz hst

theorem completePart_old : s.completePart k (.old d) = s2 := by
  rw [State.completePart]
  rw [hp]
  dsimp only
  rw [if_neg hd]
  exact deliverLocal_stored hz hst

end

/-- An ACK ends an increment, a multicast's part and what is discarded; it changes nothing (R274). -/
theorem completePart_ack (s : State) {k : Part}
    (hk : k.purpose = .discard ∨ k.purpose = .increment ∨ k.purpose = .multicast) : s.completePart k .ack = s := by
  obtain h | h | h := hk
  · simp only [State.completePart, h]
  · simp only [State.completePart, h]
  · simp only [State.completePart, h]

theorem atomicSize_pos (q : Req) : 0 < atomicSize q := by
  unfold atomicSize
  split
  · decide
  · decide

theorem outstanding_stored {s s2 : State} {p vc n off : Nat} {o : Outstanding} {d : List Byte} {r : Requester}
    (h : ((s.heard p vc n).answeredBy o).storeRange off d r = (none, s2)) :
    s2.domain.outstanding = s.domain.outstanding.filter fun u => u.handle ≠ o.handle := by
  have hdom := congrArg (·.2.domain) h
  simp only [State.storeRange_kept] at hdom
  rw [← hdom, answeredBy_only]
  rfl

theorem region_answeredBy (s : State) (p vc n : Nat) (o : Outstanding) (z : Nat) :
    ((s.heard p vc n).answeredBy o).region z = s.region z := by
  rw [answeredBy_only]
  rfl

/-! ### A failure (R290) -/

/-- The state once the context of a constituent has taken a fault. -/
def State.partFaulted (s : State) (k : Part) (code : Nat) : State :=
  s.faultCtx k.ctx code (if k.cluster < 800 then k.cluster else noCluster) k.engine (addressDetail k.address)
    (s.memberRing k.ctx k.cluster)

theorem completePart_error {s : State} {k : Part} (code : Nat) (hk : k.purpose = .increment) :
    s.completePart k (.error code) = s.partFaulted k code := by
  rw [State.completePart]
  rw [State.failPart, hk]
  rfl

theorem partFaulted_facts {s : State} {p vc n code : Nat} (o : Outstanding) {k : Part} (hb : (s.ctx k.ctx).state = .bound) :
    ∃ t, ((s.heard p vc n).answeredBy o).partFaulted k code = t ∧
    (t.ctx k.ctx).state = .faulted ∧ (t.ctx k.ctx).faultCode = code ∧
    t.domain.outstanding = s.domain.outstanding.filter (fun u => u.handle ≠ o.handle) ∧ sameCtxs k.ctx s t ∧
    t.memory = s.memory ∧
    t = { s with
      domain := t.domain, coll := t.coll, regs := t.regs, control := t.control, dbg := t.dbg, ctxs := t.ctxs,
        commits := t.commits } := by
  have hnote := answeredBy_only (s.heard p vc n) o
  generalize (s.heard p vc n).answeredBy o = u at *
  have hctx : u.ctx = s.ctx := by rw [hnote]; rfl
  obtain ⟨hstate, hcode, -⟩ := faultCtx_faults code (if k.cluster < 800 then k.cluster else noCluster) k.engine
    (addressDetail k.address) (u.memberRing k.ctx k.cluster) (s := u) (x := k.ctx) (by rw [hctx]; exact hb)
  refine ⟨_, rfl, hstate, hcode, ?_, fun y hy => ?_, ?_, ?_⟩
  · simp only [State.partFaulted, State.faultCtx_kept]
    rw [hnote]
    rfl
  · exact (sameCtxs_faultCtx _ _ _ _ _ y hy).trans (congrFun hctx y)
  · simp only [State.partFaulted, State.faultCtx_kept]
    rw [hnote]
    rfl
  · rw [State.partFaulted, faultCtx_only, hnote]
    rfl

/-! ### RETRY (R286, R287) -/

/-- A request sent again on a port that carries requests. -/
theorem resendNow_sent {s : State} {o : Outstanding} (hf : o.port ≠ 0xFF)
    (hu : (s.port o.port).state = .up ∨ (s.port o.port).state = .demoted)
    (hs : s.sends (.request o.port (o.onFibre (o.rid.getD 0))) = true) : ∃ ports, s.resendNow o = { s with
      domain := { s.domain with
        ports := ports
        outstanding := s.domain.outstanding.map fun u =>
          if u.handle = o.handle then { u with waitUntil := none, sent := some s.now } else u }
      control := { s.control with wire := s.control.wire ++ [.request o.port (o.onFibre (o.rid.getD 0))] } } ∧
      ∀ q, q ≠ o.port → ports.get {} q = s.domain.ports.get {} q := by
  have hcarries : (decide ((s.port o.port).state = .up) || decide ((s.port o.port).state = .demoted)) = true := by
    simpa using hu
  have hdown : (s.port o.port).state ≠ .down := by
    obtain h | h := hu <;> (rw [h]; decide)
  obtain ⟨ports, hwire, hsame⟩ := wire_request_ports
    (s := (s.modOutstanding o.handle fun k => { k with waitUntil := none }).modOutstanding o.handle fun k =>
      { k with sent := some s.now }) (p := o.port) (r := o.onFibre (o.rid.getD 0)) hdown
    ((State.sends_of_ports (s := s) rfl rfl _).trans hs)
  refine ⟨ports, ?_, hsame⟩
  rw [State.resendNow]
  dsimp only
  rw [if_neg hf, if_pos hcarries, hwire]
  have htwice : ∀ u : Outstanding, (fun k : Outstanding => if k.handle = o.handle then { k with sent := some s.now } else k)
      (if u.handle = o.handle then { u with waitUntil := none } else u) =
      if u.handle = o.handle then { u with waitUntil := none, sent := some s.now } else u := by
    intro u
    by_cases h : u.handle = o.handle
    · simp [h]
    · simp [h]
  simp only [State.modOutstanding, List.map_map, Function.comp_def, htwice]

/-- An outstanding request once its RETRY has given it a ticket. -/
def Outstanding.retried (o : Outstanding) (ticket now : Nat) : Outstanding :=
  { o with lastRetry := some now, req := { o.req with ticket := some ticket } }

/-- The state once an outstanding request has its ticket. -/
def State.ticketed (s : State) (o : Outstanding) (n : Nat) : State := s.modOutstanding o.handle fun _ => o.retried n s.now

theorem retry_ticketed {s : State} {p n : Nat} {r : Rsp} {o : Outstanding} (h : s.answered p r = some o)
    (hn : r.ticket = some n) :
    exec (.retry p r) s = .next (((s.heard p 2 1).ticketed o n).resendNow (o.retried n s.now)) := by
  change execRetry p r s = _
  rw [execRetry]
  dsimp only
  rw [answered_heard, h, hn]
  rfl

theorem retry_unticketed {s : State} {p : Nat} {r : Rsp} {o : Outstanding} (h : s.answered p r = some o)
    (hn : r.ticket = none) : exec (.retry p r) s = .next ((s.heard p 2 1).modOutstanding o.handle fun k =>
      { k with lastRetry := some s.now, waitUntil := some (s.now + 1000) }) := by
  change execRetry p r s = _
  rw [execRetry]
  dsimp only
  rw [answered_heard, h, hn]
  rfl

theorem outstanding_ticketed (s : State) (o : Outstanding) (n : Nat) :
    (s.ticketed o n).domain.outstanding.map (fun u => if u.handle = o.handle then { u with
      waitUntil := none, sent := some s.now } else u) =
    s.domain.outstanding.map fun u => if u.handle = o.handle then { o.retried n s.now with
      waitUntil := none, sent := some s.now } else u := by
  simp only [State.ticketed, State.modOutstanding, List.map_map]
  refine List.map_congr_left fun u _ => ?_
  by_cases h : u.handle = o.handle
  · simp [h, Outstanding.retried]
  · simp [h]

/-- Settles O15: an arrival by the branch that its reply-cache entry takes, a response by the part that it completes. -/
theorem requestsArriveAndReplies : Obligations.RequestsArriveAndReplies := by
  unfold Obligations.RequestsArriveAndReplies
  refine ⟨?_, ?_, ?_, ?_, ?_, ?_, ?_, ?_, ?_, ?_, ?_⟩
  · intro s v p r q a b hr hu hform hq hv hop hf hh hl hi hb
    change q = ofPeer r p at hq
    subst hq hv
    exact ⟨_, (requestArrival_load hr hu hform hop hf).trans
      (congrArg _ (loadArrives_idle (s := s.heard p 1 1) p hh hl hi hb)), rfl, rfl, rfl⟩
  · intro s v p r q a b hr hu hform hq hop he hf hbulk hv hl hi hb
    change q = ofPeer r p at hq
    subst hq hv
    have hheard : s.requestHeard p r = s.heard p 1 1 := if_neg hbulk
    have hnew := newArrives_idle (s := s.heard p 1 1) p (q := ofPeer r p) hbulk hl hi hb
    have hnext := requestArrival_new hr hu hform hop he hf
    rw [hheard, hnew] at hnext
    refine ⟨_, hnext, rfl, ?_, fun n hn => ?_, rfl⟩
    · exact SMap.get_set_same _ _ _ _
    · exact SMap.get_set_ne _ _ hn _
  · intro s v p r q hr hu hform hq hop he hf hbulk hv
    change q = ofPeer r p at hq
    subst hq hv
    have hheard : s.requestHeard p r = s.heard p 3 (flitsOf r.data.length) := if_pos hbulk
    have hnew := newArrives_bulk (s := s.heard p 3 (flitsOf r.data.length)) p (q := ofPeer r p) hbulk
    have hnext := requestArrival_new hr hu hform hop he hf
    rw [hheard, hnew] at hnext
    refine ⟨_, hnext, ?_, fun n hn => ?_, rfl, rfl⟩
    · exact SMap.get_set_same _ _ _ _
    · exact SMap.get_set_ne _ _ hn _
  · intro s v p r q e a hr hu hform hq hop hv hs he hst hid ha
    change v = s.requestHeard p r at hv
    obtain ⟨vc, n, hheard⟩ := requestHeard_eq s p r
    have hstate : (((s.heard p vc n).countReg 0x801103 64 1).port p).state = .up := (state_heard s p vc n p).trans hu
    have hsends : ((s.heard p vc n).countReg 0x801103 64 1).sends (.reply p a) = true :=
      (sends_of_port (s := s) (t := (s.heard p vc n).countReg 0x801103 64 1) (o := .reply p a) rfl rfl
        (sendsAs_heard s p vc n p)).trans hs
    have hsent := wire_sent (s := (s.heard p vc n).countReg 0x801103 64 1) (o := .reply p a) rfl
      (by rw [hstate]; decide) hsends
    refine ⟨_, requestArrival_duplicate hr hu hform hop he hst hid ha, ?_⟩
    rw [hv, hheard, hsent]
    refine ⟨rfl, reg_setReg_same _ _ _, rfl, rfl, ?_, rfl⟩
    exact (samePorts_heard s p vc n).trans (samePorts_sent _ p 2 _ _)
  · intro s v s1 s2 p a r o k h hk hop hlen hd hv h1 hp hz hst
    change s1 = v.answeredBy o at h1
    subst hv h1
    have hfits : (decide (o.req.op = 0x20) && decide (r.data.length = o.req.len)) = true := by simp [hop, hlen]
    have hdone := completePart_data hp hd (by rw [region_answeredBy]; exact hz) hst
    exact ⟨_, congrArg Host.Outcome.next ((respond_completes (.data r.data) h hk hfits).trans hdone), rfl,
      outstanding_stored hst⟩
  · intro s p r o k h hk hop hp
    have hfits : (decide (o.req.op = 0x21) || decide (o.req.op = 0x22) || decide (o.req.op = 0x60)) = true := by
      simpa [or_assoc] using hop
    have hdone := completePart_ack ((s.heard p 2 1).answeredBy o) hp
    refine ⟨_, congrArg Host.Outcome.next ((respond_completes .ack h hk hfits).trans hdone), rfl, ?_, ?_, ?_⟩
    · rw [answeredBy_only]
      rfl
    · rw [answeredBy_only]
      rfl
    · rw [answeredBy_only]
      rfl
  · intro s v s1 s2 p a r o k h hk hop hlen hv h1 hp hz hst
    change s1 = v.answeredBy o at h1
    subst hv h1
    have hfits : (isAtomic o.req.op && decide (r.data.length = atomicSize o.req)) = true := by simp [hop, hlen]
    have hd : r.data ≠ [] := by
      intro hnil
      have hsize := atomicSize_pos o.req
      rw [hnil, List.length_nil] at hlen
      omega
    have hdone := completePart_old hp hd (by rw [region_answeredBy]; exact hz) hst
    exact ⟨_, congrArg Host.Outcome.next ((respond_completes (.old r.data) h hk hfits).trans hdone), rfl,
      outstanding_stored hst⟩
  · intro s p r o k h hk hp hb
    obtain ⟨t, ht, hfacts⟩ := partFaulted_facts (p := p) (vc := 2) (n := 1) (code := r.code) o hb
    exact ⟨t, congrArg Host.Outcome.next (((respond_completes _ h hk rfl).trans (completePart_error _ hp)).trans ht), hfacts⟩
  · intro s p r o k h hk hop hp hb
    obtain ⟨t, ht, hfacts⟩ := partFaulted_facts (p := p) (vc := 2) (n := 1) (code := 0x0408) o hb
    exact ⟨t, congrArg Host.Outcome.next (((respond_completes _ h hk hop).trans (completePart_error _ hp)).trans ht), hfacts⟩
  · intro s p n r o hp h hn hs
    obtain ⟨hst, hport⟩ := port_of_answered h
    have hf : o.port ≠ 0xFF := by omega
    have hv : ((s.heard p 2 1).ticketed o n).sends (.request o.port ((o.retried n s.now).onFibre (o.rid.getD 0))) = true := by
      rw [hport]
      exact (sends_of_port (s := s) (t := (s.heard p 2 1).ticketed o n) rfl rfl (sendsAs_heard s p 2 1 p)).trans hs
    have hcarries : ((s.heard p 2 1).port o.port).state = .up ∨ ((s.heard p 2 1).port o.port).state = .demoted := by
      rw [state_heard, hport]
      exact hst
    obtain ⟨ports, hsent, hsame⟩ := resendNow_sent (s := (s.heard p 2 1).ticketed o n) (o := o.retried n s.now) hf hcarries hv
    refine ⟨_, (retry_ticketed h hn).trans (congrArg _ hsent), ?_, ?_, fun q hq => ?_, rfl⟩
    · rw [← hport]
      rfl
    · exact outstanding_ticketed s o n
    · exact (hsame q (hport ▸ hq)).trans (samePorts_heard s p 2 1 q hq)
  · intro s v p r o h hn hv
    subst hv
    exact ⟨_, retry_unticketed h hn, rfl, rfl⟩

end Sys2Proof.Machine

/-! PROOF. O13: lost peers and training by the port that they leave (R264, R265, R292, R293), the issue of requests by what it
answers (R269), and a multicast by what waits at the edge groups (R279). -/

namespace Sys2Proof.Machine

/-! ### Lost peers (R292, R293) -/

theorem portHeartbeatLoss_lost {s : State} {p : Nat} (hr : (s.portRole p).1 = 1) (hl : (s.port p).light = false)
    (ht : (s.port p).lastHeard + 20000 ≤ s.now)
    (hst : (s.port p).state = .up ∨ (s.port p).state = .demoted ∨ (s.port p).state = .joining) :
    exec (.portHeartbeatLoss p) s = .next (s.declareLost p) := by
  change execPortHeartbeatLoss p s = _
  have hwait : ¬ ((s.port p).light || decide (s.now < (s.port p).lastHeard + 20000)) = true := by
    rw [hl, decide_eq_false (by omega)]
    exact Bool.false_ne_true
  rw [execPortHeartbeatLoss]
  rw [if_neg hwait, hr]
  obtain h | h | h := hst <;> exact if_pos (by simp [h])

theorem resetNotice_lost {s : State} {p : Nat} (hr : (s.portRole p).1 = 1)
    (hst : (s.port p).state = .up ∨ (s.port p).state = .demoted ∨ (s.port p).state = .joining) :
    exec (.resetNotice p) s = .next ((s.heard p 4 1).declareLost p) := by
  change execResetNotice p s = _
  have hrole : ((s.heard p 4 1).portRole p).1 = 1 := hr
  rw [execResetNotice]
  rw [state_heard, hrole]
  obtain h | h | h := hst <;> exact if_pos (by simp [h])

/-! ### Training (R264, R265) -/

/-- A port on which light appears. -/
def State.lit (s : State) (p : Nat) : State := s.modPort p fun k => { k with light := true, lastHeard := s.now }

theorem portTraining_light {s : State} {p : Nat} (hr : (s.portRole p).1 ≠ 0) (hm : s.domain.portMap.entries ≠ [])
    (hb : s.boot.serviceMode = false) (hd : (s.port p).state = .down) : exec (.portTraining p .light) s =
      .next (((s.lit p).setPortState p .training).modPort p fun k => { k with back := none, retraining := true }) := by
  change execPortTraining p .light s = _
  have hno : ¬ (decide (s.domain.portMap.entries = []) || s.boot.serviceMode) = true := by simp [hm, hb]
  rw [execPortTraining]
  dsimp only
  rw [if_neg hr, if_neg hno, if_pos hd]
  rfl

theorem portTraining_lightLost {s : State} {p : Nat} (hr : (s.portRole p).1 ≠ 0) (hl : (s.port p).light = true) :
    exec (.portTraining p .lightLost) s = .next (s.modPort p fun k => { k with light := false, lastHeard := s.now }) := by
  change execPortTraining p .lightLost s = _
  rw [execPortTraining]
  rw [if_neg hr, if_pos hl]

theorem portTraining_naks {s : State} {p : Nat} (hr : (s.portRole p).1 ≠ 0) (hn : 8 ≤ (s.port p).naks) :
    exec (.portTraining p .naks) s = .next (s.startRetrain p) := by
  change execPortTraining p .naks s = _
  rw [execPortTraining]
  rw [if_neg hr, if_pos hn]

theorem portTraining_wavelengthDropped {s : State} {p : Nat} (hr : (s.portRole p).1 ≠ 0)
    (hw : (s.port p).wavelengths = 15) (ht : (s.port p).retraining = false) (hd : (s.port p).state ≠ .down) :
    exec (.portTraining p .wavelengthDropped) s = .next (s.startRetrain p) := by
  change execPortTraining p .wavelengthDropped s = _
  rw [execPortTraining]
  rw [if_neg hr]
  exact if_pos (by simp [hw, ht, hd])

theorem portTraining_done {s : State} {p : Nat} (hr : (s.portRole p).1 ≠ 0) (ht : (s.port p).retraining = true)
    (hl : (s.port p).light = true) : exec (.portTraining p .done) s = .next (s.portTrained p) := by
  change execPortTraining p .done s = _
  rw [execPortTraining]
  rw [if_neg hr]
  exact if_pos (by rw [ht, hl]; rfl)

theorem portTraining_wrong {s : State} {p : Nat} (mask : Nat) (hr : (s.portRole p).1 ≠ 0)
    (ht : (s.port p).retraining = true) : exec (.portTraining p (.wrong mask)) s = .next (s.wrongAtPort p mask) := by
  change execPortTraining p (.wrong mask) s = _
  rw [execPortTraining]
  rw [if_neg hr, if_pos ht]

/-- A port that was UP or MSG retrains and returns there (R264, R265). -/
theorem startRetrain_returns {s : State} {p : Nat} (hst : (s.port p).state = .up ∨ (s.port p).state = .msg) :
    ((s.startRetrain p).port p).state = .training ∧ ((s.startRetrain p).port p).back = some (s.port p).state ∧
    ((s.startRetrain p).port p).retraining = true ∧ samePorts p s (s.startRetrain p) ∧
    s.startRetrain p = { s with domain := { s.domain with ports := (s.startRetrain p).domain.ports } } := by
  have hretrain : s.startRetrain p = (s.setPortState p .training).modPort p fun k =>
      { k with back := some (s.port p).state, retraining := true, naks := 0 } := if_pos (by simpa using hst)
  have hport : (s.startRetrain p).port p = { s.port p with
      state := .training, changed := s.now, back := some (s.port p).state, retraining := true, naks := 0 } := by
    rw [hretrain, State.port_modPort, if_pos rfl, State.setPortState, State.port_modPort, if_pos rfl]
  refine ⟨congrArg Port.state hport, congrArg Port.back hport, congrArg Port.retraining hport, ?_, ?_⟩
  · rw [hretrain]
    exact (samePorts_modPort p s _).trans (samePorts_modPort p _ _)
  · rw [hretrain]
    rfl

/-! ### The end of a first training (R264, R304) -/

/-- A port whose streams begin again: nothing is sent that could take credit or replay, and nothing waits. -/
structure Port.fresh (k : Port) : Prop where
  retraining : k.retraining = false
  everTrained : k.everTrained = true
  replay : k.replay = []
  spent : k.spent = ⟨[]⟩
  credited : k.credited = ⟨[]⟩
  waiting : k.waiting = []

/-- A fresh port to a member has room for a HELLO. -/
theorem sends_hello_of_fresh {s : State} {p : Nat} {h : Hello} (hr : (s.portRole p).1 = 1) (ht : (s.port p).state ≠ .training)
    (hk : (s.port p).fresh) : s.sends (.hello p h) = true := by
  simp [State.sends, portFlits, State.portRoom, hr, ht, hk.retraining, hk.replay, hk.spent, hk.credited, hk.waiting,
    sumOf, portCredit, SMap.get, SMap.lookup]

/-- A port to a member that has trained from DOWN joins, all its streams fresh (R264, R317). -/
theorem portTrained_joins {s : State} {p : Nat} (hr : (s.portRole p).1 = 1) (ht : (s.port p).state = .training)
    (hb : (s.port p).back = none) : ∃ f g, s.portTrained p = ((s.modPort p f).modPort p g).startJoin p ∧
      (g (f (s.port p))).fresh := by
  rw [State.portTrained]
  dsimp only
  rw [ht, hb, hr]
  dsimp only
  rw [if_neg (by decide)]
  refine ⟨_, _, rfl, rfl, rfl, rfl, rfl, rfl, ?_⟩
  dsimp only
  rw [ht, hb]
  rfl

theorem joinBegun_fresh {s : State} {p : Nat} (h : (s.port p).fresh) : ((s.joinBegun p).port p).fresh := by
  rw [port_joinBegun]
  exact ⟨h.retraining, h.everTrained, h.replay, h.spent, h.credited, h.waiting⟩

theorem joinBegun_sent_only (s : State) (p : Nat) (o : Output) : (s.joinBegun p).sent p 4 1 o = { s with
    domain := { s.domain with ports := ((s.joinBegun p).sent p 4 1 o).domain.ports }
    control := { s.control with wire := s.control.wire ++ [o] } } := by
  simp only [State.sent, State.joinBegun, State.setPortState, State.modPort]

/-- A fresh port begins its join: it is JOINING, still fresh but for its HELLO, which has left (R317). -/
theorem startJoin_fresh {s : State} {p : Nat} (hr : (s.portRole p).1 = 1) (h : (s.port p).fresh) :
    ∃ k, s.startJoin p = { s with
      domain := { s.domain with ports := k }
      control := { s.control with wire := s.control.wire ++ [.hello p s.localHello] } } ∧
    (k.get {} p).state = .joining ∧ (k.get {} p).retraining = false ∧ (k.get {} p).everTrained = true ∧
    ∀ q, q ≠ p → k.get {} q = s.domain.ports.get {} q := by
  have hbegun := joinBegun_fresh h
  have hroom := sends_hello_of_fresh (s := s.joinBegun p) (h := s.localHello) hr
    (by rw [port_joinBegun]; exact PortState.noConfusion) hbegun
  have hafter := port_sent_same (s.joinBegun p) p 4 1 (.hello p s.localHello)
  exact ⟨_, (startJoin_sent hroom).trans (joinBegun_sent_only s p _),
    (congrArg Port.state hafter).trans (congrArg Port.state (port_joinBegun s p)),
    (congrArg Port.retraining hafter).trans hbegun.retraining, (congrArg Port.everTrained hafter).trans hbegun.everTrained,
    (samePorts_joinBegun s p).trans (samePorts_sent _ p 4 1 _)⟩

/-! ### Wrong channels (R252) -/

/-- The one position that a mask of one bit names. -/
theorem positions_two_pow : ∀ w, w < 16 → (List.range 16).filter (fun i => Nat.testBit (2 ^ w) i) = [w] := by decide

/-- Where neither element of a position sees another channel's tone, its DROP ring relocks (R252). -/
theorem wrongAtPort_drop {s : State} {p w : Nat} (hw : w < 16)
    (h0 : (s.ring (elementId 0 (7 + p / 16) (32 + p % 16) 0 w)).tone = none ∨
      (s.ring (elementId 0 (7 + p / 16) (32 + p % 16) 0 w)).tone = some w)
    (h1 : (s.ring (elementId 1 (7 + p / 16) (32 + p % 16) 0 w)).tone = none ∨
      (s.ring (elementId 1 (7 + p / 16) (32 + p % 16) 0 w)).tone = some w) :
    s.wrongAtPort p (2 ^ w) = s.ringWrong (elementId 1 (7 + p / 16) (32 + p % 16) 0 w) 0xFF := by
  have hgood : ∀ e, (s.ring e).tone = none ∨ (s.ring e).tone = some w →
      ¬ (match (s.ring e).tone with | some t => decide (t ≠ w) | none => false) = true := by
    intro e h
    obtain h | h := h
    · rw [h]
      exact Bool.false_ne_true
    · rw [h]
      exact fun h => of_decide_eq_true h rfl
  rw [State.wrongAtPort]
  dsimp only
  rw [positions_two_pow w hw, List.foldl_cons, List.foldl_nil]
  refine if_pos (List.filter_eq_nil_iff.mpr fun e he => ?_)
  obtain rfl | rfl : e = _ ∨ e = _ := by simpa using he
  · exact hgood _ h0
  · exact hgood _ h1

/-! ### Issue through windows (R269, R279) -/

/-- What a request that an answer met at once gives its requester (R274). -/
theorem domainRequestIssue_next {s s1 : State} {x c : Nat} {r : Req} {a : Answer} {k : Part} (hw : s.working c = some x)
    (hop : r.op ≠ 0x23) (hform : requestForm r = true)
    (hk : k = ⟨x, c, noEngine, .deliver r.tag, subBytes r.data 0 (atomicSize r), s.now,
      if r.op = 0x22 then refAddress r.ref else r.addr⟩)
    (h : s.issueRequest { r with origin := .member x c, ctx := x, ticket := none } k (s.requesterAt x c) = (a, s1))
    (ha : a = .sent ∨ a = .ack) :
    exec (.domainRequestIssue x c r) s = .next (if a = .sent then s1 else s1.completePart k .ack) := by
  change execDomainRequestIssue x c r s = _
  subst hk
  rw [execDomainRequestIssue, if_neg (not_not.mpr hw), if_neg hop, hform, if_neg (by decide)]
  dsimp only
  rw [h]
  obtain rfl | rfl := ha
  · rfl
  · rfl

theorem domainRequestIssue_multicast {s s1 : State} {x c : Nat} {r : Req} (hw : s.working c = some x) (hop : r.op = 0x23)
    (h : s.issueMulticast x c r = (none, s1)) : exec (.domainRequestIssue x c r) s = .next s1 := by
  change execDomainRequestIssue x c r s = _
  rw [execDomainRequestIssue, if_neg (not_not.mpr hw), if_pos hop, h]

/-! ### A multicast to other devices (R279) -/

/-- The state with another queue at the edge groups. -/
def State.withDmc (s : State) (k : SMap (List Packet)) : State := { s with domain := { s.domain with dmc := k } }

/-- The targets of a multicast behind edge group `e`. -/
def State.farTargets (s : State) (l : List (Translated × McTarget)) (e : Nat) : List McTarget :=
  l.filterMap fun a =>
    if a.1.device = s.deviceId then none
    else match s.portOf a.1.device with
      | some p => if p / 16 = e then
          some ({ a.2 with slot := 7 + e, addr := 2 ^ 40 * a.1.device + a.2.addr } : McTarget) else none
      | none => none

/-- The packet that waits there. -/
def packetVia (k : Packet) (e : Nat) (far : List McTarget) : Packet :=
  { k with dst := 7 + e, targets := far, req := { k.req with op := 0x23, nocomb := true } }

/-- What edge group `e` adds to the queues. -/
def State.dmcVia (s : State) (k : Packet) (l : List (Translated × McTarget)) (m : SMap (List Packet)) (e : Nat) :
    SMap (List Packet) :=
  if s.farTargets l e = [] then m else m.modify [] e fun q => q ++ [packetVia k e (s.farTargets l e)]

theorem multicastVia_withDmc (s : State) (k : Packet) (l : List (Translated × McTarget)) (m : SMap (List Packet)) (e : Nat) :
    (s.withDmc m).multicastVia k l e = s.withDmc (s.dmcVia k l m e) := by
  rw [State.dmcVia, apply_ite s.withDmc]
  rfl

theorem foldl_multicastVia (s : State) (k : Packet) (l : List (Translated × McTarget)) (es : List Nat)
    (m : SMap (List Packet)) : es.foldl (fun s e => s.multicastVia k l e) (s.withDmc m) =
      s.withDmc (es.foldl (s.dmcVia k l) m) := by
  induction es generalizing m with
  | nil => rfl
  | cons e es ih => rw [List.foldl_cons, multicastVia_withDmc, ih, List.foldl_cons]

/-- No packet leaves a queue as another multicast is issued. -/
theorem mem_dmcVia {s : State} {k q : Packet} {l : List (Translated × McTarget)} {m : SMap (List Packet)} {d : Nat} (e : Nat)
    (h : q ∈ m.get [] d) : q ∈ (s.dmcVia k l m e).get [] d := by
  unfold State.dmcVia
  split
  · exact h
  · by_cases hd : d = e
    · subst hd
      rw [SMap.get_modify_same]
      exact List.mem_append_left _ h
    · rw [SMap.get_modify_ne _ _ _ hd]
      exact h

theorem mem_foldl_dmcVia_of_mem {s : State} {k q : Packet} {l : List (Translated × McTarget)} {d : Nat} (es : List Nat)
    {m : SMap (List Packet)} (h : q ∈ m.get [] d) : q ∈ (es.foldl (s.dmcVia k l) m).get [] d := by
  induction es generalizing m with
  | nil => exact h
  | cons e es ih => exact ih (mem_dmcVia e h)

/-- An edge group that serves a target has its packet. -/
theorem packetVia_mem_foldl {s : State} {k : Packet} {l : List (Translated × McTarget)} {d : Nat} {es : List Nat}
    (hd : d ∈ es) (hfar : s.farTargets l d ≠ []) (m : SMap (List Packet)) :
    packetVia k d (s.farTargets l d) ∈ (es.foldl (s.dmcVia k l) m).get [] d := by
  induction es generalizing m with
  | nil => cases hd
  | cons e es ih =>
    obtain rfl | hd := List.mem_cons.mp hd
    · refine mem_foldl_dmcVia_of_mem es ?_
      rw [State.dmcVia, if_neg hfar, SMap.get_modify_same]
      exact List.mem_append_right _ (List.mem_singleton.mpr rfl)
    · exact ih hd _

theorem mem_farTargets {s : State} {l : List (Translated × McTarget)} {a : Translated × McTarget} {p : Nat} (ha : a ∈ l)
    (hd : a.1.device ≠ s.deviceId) (hp : s.portOf a.1.device = some p) :
    { a.2 with slot := 7 + p / 16, addr := 2 ^ 40 * a.1.device + a.2.addr } ∈ s.farTargets l (p / 16) := by
  refine List.mem_filterMap.mpr ⟨a, ha, ?_⟩
  dsimp only
  rw [if_neg hd, hp]
  exact if_pos rfl

/-- A multicast without a target on this device leaves this device's towers alone. -/
theorem multicastHere_nil (s : State) (x c : Nat) (k : Packet) : s.multicastHere x c k [] = s := by
  have hnone : s.toOutbox [] = s := by
    rw [State.toOutbox, List.append_nil]
  exact hnone

/-- The packet of a multicast before its targets are known. -/
def multicastPacket (x c : Nat) (r : Req) : Packet :=
  { src := c / 200
    dst := 0
    vc := 3
    stand := false
    crit := false
    req := { r with
      op := 0x61, data := r.data.drop 64, origin := .member x c, ctx := x, rid := BitVec.allOnes 32, ticket := none }
    targets := []
    pseq := 0
    stamp := 0 }

theorem issueMulticast_far {s : State} {x c : Nat} {r : Req} {l : List (Translated × McTarget)}
    (h : allOk (((List.range 4).filterMap (descriptorOf r.data)).map (s.translateTarget x (r.data.drop 64).length)) = .ok l)
    (hl : 2 ≤ l.length) (hd : r.data.drop 64 ≠ []) (hn : (r.data.drop 64).length ≤ 4096)
    (hfar : ∀ a ∈ l, a.1.device ≠ s.deviceId)
    (hports : ∀ a ∈ l, (s.portOf a.1.device).all (fun p => decide ((s.port p).state ≠ .demoted)) = true) :
    s.issueMulticast x c r = (none, s.withDmc ((List.range 4).foldl (s.dmcVia (multicastPacket x c r) l) s.domain.dmc)) := by
  have hsize : ¬ (decide (l.length < 2) || decide (r.data.drop 64 = []) || decide (4096 < (r.data.drop 64).length)) = true := by
    rw [decide_eq_false (by omega), decide_eq_false hd, decide_eq_false (by omega)]
    exact Bool.false_ne_true
  have hhere : l.filter (fun e => decide (e.1.device = s.deviceId)) = [] :=
    List.filter_eq_nil_iff.mpr fun a ha => by simpa using hfar a ha
  have hdemoted : ¬ (l.any fun e => decide (e.1.device ≠ s.deviceId) &&
      (match s.portOf e.1.device with | some p => decide ((s.port p).state = .demoted) | none => false)) = true := by
    intro hany
    obtain ⟨a, ha, hbad⟩ := List.any_eq_true.mp hany
    have hgood := hports a ha
    cases hp : s.portOf a.1.device with
    | none => simp [hp] at hbad
    | some p =>
      rw [hp] at hgood
      rw [hp] at hbad
      have hne : (s.port p).state ≠ .demoted := of_decide_eq_true hgood
      simp [hne] at hbad
  rw [State.issueMulticast]
  dsimp only
  rw [h]
  dsimp only
  rw [if_neg hsize]
  refine (if_neg hdemoted).trans ?_
  rw [hhere, List.map_nil, List.any_nil, if_neg Bool.false_ne_true, multicastHere_nil]
  exact congrArg _ (foldl_multicastVia s (multicastPacket x c r) l (List.range 4) s.domain.dmc)

/-- Settles O13: a port by the state that its command leaves; a request by what its issue answers; a multicast by the packet at
the edge group of each target. -/
theorem portsAndRequests : Obligations.PortsAndRequests := by
  unfold Obligations.PortsAndRequests
  refine ⟨?_, ?_, ?_, ?_, ?_, ?_, ?_, ?_, ?_, ?_, ?_, ?_⟩
  · intro s p hr hl ht hst
    have hstate : (s.port p).state ≠ .lost := by obtain h | h | h := hst <;> (rw [h]; decide)
    obtain ⟨hport, hfrozen, hsame⟩ := lost_of_domain (domain_declareLost hstate)
    refine ⟨_, portHeartbeatLoss_lost hr hl ht hst, congrArg Port.state hport, hfrozen, hsame, ?_, declareLost_only s p⟩
    rw [declareLost_only]
  · intro s p hr hst
    have hstate : ((s.heard p 4 1).port p).state ≠ .lost := by
      rw [state_heard]
      obtain h | h | h := hst <;> (rw [h]; decide)
    obtain ⟨hport, hfrozen, hsame⟩ := lost_of_domain (domain_declareLost hstate)
    refine ⟨_, resetNotice_lost hr hst, congrArg Port.state hport, hfrozen, (samePorts_heard s p 4 1).trans hsame, ?_, ?_⟩
    · rw [declareLost_only]
      rfl
    · rw [declareLost_only]
      rfl
  · intro s p hr hm hb hd
    have hport : (((s.lit p).setPortState p .training).modPort p fun k => { k with back := none, retraining := true }).port p =
        { s.port p with
          light := true, lastHeard := s.now, state := .training, changed := s.now, back := none, retraining := true } := by
      simp only [State.lit, State.setPortState, State.port_modPort, if_true]
      rfl
    exact ⟨_, portTraining_light hr hm hb hd, congrArg Port.state hport, congrArg Port.light hport,
      congrArg Port.retraining hport,
      samePorts.trans (t := s.lit p) (samePorts_modPort p s _) ((samePorts_modPort p _ _).trans (samePorts_modPort p _ _)), rfl⟩
  · intro s p hr hl
    exact ⟨_, portTraining_lightLost hr hl, (State.port_modPort s p p _).trans (if_pos rfl), samePorts_modPort p s _, rfl⟩
  · intro s p hr hn hst
    exact ⟨_, portTraining_naks hr hn, startRetrain_returns hst⟩
  · intro s p hr hw ht hst
    have hdown : (s.port p).state ≠ .down := by obtain h | h := hst <;> (rw [h]; decide)
    exact ⟨_, portTraining_wavelengthDropped hr hw ht hdown, startRetrain_returns hst⟩
  · intro s p hr ht hl hst hb
    obtain ⟨f, g, hjoins, hfresh⟩ := portTrained_joins hr hst hb
    generalize hu : (s.modPort p f).modPort p g = u at hjoins
    have hport : u.port p = g (f (s.port p)) := by
      rw [← hu, State.port_modPort, if_pos rfl, State.port_modPort, if_pos rfl]
    have hhello : u.localHello = s.localHello := localHello_of (by rw [← hu]; rfl) (by rw [← hu]; rfl)
    obtain ⟨k, hk, hstate, hretraining, hever, hsame⟩ :=
      startJoin_fresh (s := u) (by rw [← hu]; exact hr) (hport ▸ hfresh)
    have hstart : samePorts p s u := hu ▸ (samePorts_modPort p s f).trans (samePorts_modPort p _ g)
    have hnext := portTraining_done (s := s) (p := p) (by rw [hr]; decide) ht hl
    rw [hjoins, hk, hhello] at hnext
    subst hu
    exact ⟨_, hnext, hstate, hretraining, hever, rfl, fun q hq => (hsame q hq).trans (hstart q hq), rfl⟩
  · intro s p mask hr ht
    refine ⟨_, portTraining_wrong mask hr ht, rfl, ?_⟩
    apply State.ext_of <;> simp only [State.wrongAtPort_kept]
  · intro s p w hr ht hw h0 h1
    refine ⟨_, (portTraining_wrong (2 ^ w) hr ht).trans (congrArg _ (wrongAtPort_drop hw h0 h1)), rfl, ?_⟩
    exact ringWrong_only s _ _
  · intro s s1 x c r a hw hop hform h ha
    have hs1 := congrArg (·.2) h
    dsimp only at hs1
    refine ⟨_, domainRequestIssue_next hw hop hform rfl h ha, fun hsent => if_pos hsent, fun hack => ?_, ?_⟩
    · exact if_neg (by rw [hack]; decide)
    · rw [← hs1]
      split
      · apply State.ext_of <;> simp only [State.issueRequest_kept]
      · apply State.ext_of <;> simp only [State.completePart_kept, State.issueRequest_kept]
  · intro s x c r l hw hop h hl hd hn hfar hports
    refine ⟨_, domainRequestIssue_multicast hw hop (issueMulticast_far h hl hd hn hfar hports), fun a ha p hp hlt => ?_, rfl⟩
    have hmem := mem_farTargets ha (hfar a ha) hp
    exact ⟨_, packetVia_mem_foldl (List.mem_range.mpr (by omega)) (List.ne_nil_of_mem hmem) _, hmem, rfl, rfl⟩
  · intro s s1 x c r hw hop h
    have hs1 := congrArg (·.2) h
    dsimp only at hs1
    refine ⟨_, domainRequestIssue_multicast hw hop h, rfl, ?_⟩
    rw [← hs1]
    apply State.ext_of <;> simp only [State.issueMulticast_kept]

end Sys2Proof.Machine
